-- ==== Sys2Proof/Word.lean ====
section
/-! DEFINITION. The byte and the few fixed words the manual treats as bits.
Register values are held as `Nat` bit patterns, since every dictionary entry has a type of its own (R453). -/

namespace Sys2Proof

/-- One byte of a frame, of an object or of DRAM. -/
abbrev Byte := BitVec 8

/-- A D, A or M register of a DSP core (R278). -/
abbrev Word32 := BitVec 32

/-- A list of bytes, first byte first. -/
abbrev Bytes := List Byte

end Sys2Proof
end

