-- ==== Sys2Proof/Syntax.lean ====
section
/-! DEFINITION. The commands of spec/opcode_table.json, one constructor a row, and the operands they carry.
Operands hold what comes from outside the part with the command: frames, bits, readings, levels, and the instance concerned (log 2). -/

namespace Sys2Proof

/-- Where a datagram came from: Ethernet port, IPv4 address and UDP port (R460). -/
structure Peer where
  port : Nat
  ip : Nat
  udp : Nat
  deriving DecidableEq, Repr

/-- The fields of an FDP frame (R458). `covered` holds bytes 0 to the end of the body, which TAG covers. -/
structure FdpFrame where
  session : Nat
  flags : Nat
  seq : Nat
  body : Bytes
  covered : Bytes
  tag : Bytes
  deriving DecidableEq, Repr

/-- What the self-test found (R144, R545): the tiles that failed it, and the tile of each faulty cell, once for each cell. -/
structure SelfTest where
  tiles : List Nat
  cells : List Nat
  deriving DecidableEq, Repr

/-- Who writes a register that both FDP and a page offer (R495, R501): a session, or a fabric master with or without the secure attribute. -/
inductive Via where
  | fdp (sess : Nat)
  | page (master : Nat) (secure : Bool)
  deriving DecidableEq, Repr

/-- What a received PTP message carries for the clock servo (R403, R424, R425).
`kind` is the IEEE 1588 messageType; times are ns; `pathDelay` is the mean path delay the exchange gives;
`gmClass` and `gmIdentity` are of the grandmaster the best master clock algorithm has chosen. -/
structure PtpMsg where
  kind : Nat
  origin : Nat
  correction : Int
  pathDelay : Int
  gmClass : Nat
  gmIdentity : Nat
  portState : Nat
  deriving DecidableEq, Repr

/-- An item of a Sheaf lane: its 64-bit header, its payload words and its trailer (R49, R50). -/
structure Item where
  header : Nat
  payload : List Nat
  trailer : Nat
  deriving DecidableEq, Repr

/-- A fabric request (R364). `addr` is what the master presents, `size` its bytes. `lock` is 1 for a request of a locked sequence and 2 for its last (R371).
`err` tells what the target finds: 1 a corrected error and 2 an uncorrectable one in a data memory, 3 no response from a register page (R381).
For a DSP core or a DMA channel, whose requests are in the state, only `write` (which side a channel issues next) and `err` are read. -/
structure FabReq where
  addr : Nat
  size : Nat
  write : Bool
  data : Bytes
  cls : Nat
  secure : Bool
  lock : Nat
  err : Nat
  deriving DecidableEq, Repr

/-- Who commands a DMA channel (R387, R390, R392): a session, a fabric master on its register page, or an event at its Dowel task input. -/
inductive DmaVia where
  | fdp (sess : Nat)
  | page (master : Nat) (secure : Bool)
  | event
  deriving DecidableEq, Repr

/-- The commands (spec/opcode_table.json). -/
inductive Instr where
  | dictWrite (sess : Nat) (idx : Nat) (sub : Nat) (data : Bytes)
  | commit (sess : Nat) (sc : Nat)
  | discard (sess : Nat)
  | disarm (sess : Nat)
  | epochBoundary
  | enableWrite (sess : Nat) (idx : Nat)
  | disableWrite (sess : Nat) (idx : Nat)
  | enablingComplete (idx : Nat)
  | disablingComplete (idx : Nat)
  | laneLock (lane : Nat)
  | laneLockTimeout (lane : Nat)
  | clockRecoveryLoss (lane : Nat)
  | sheafFrameRx (lane : Nat) (line : Nat) (skew : Nat) (wander : Int)
  | itemRx (lane : Nat) (item : Item)
  | qlRx (lane : Nat) (level : Nat)
  | creditRx (lane : Nat) (stream : Nat) (limit : Nat)
  | laneMapRx (lane : Nat) (gen : Nat) (map : Nat)
  | laneAckRx (lane : Nat) (gen : Nat) (map : Nat)
  | groupOn (idx : Nat)
  | rxLaneFail (lane : Nat)
  | laneMapRetry (g : Nat)
  | txLaneFail (lane : Nat)
  | itemTx (lane : Nat)
  | qlSend
  | prbsInject (sess : Nat)
  | sheafCounterClear (sess : Nat)
  | samplePacketRx
  | slabSeal
  | windowStart (bay : Nat)
  | loftStepFill (bay : Nat)
  | cribFreeze (profile : Nat)
  | fireTrigger (sess : Nat)
  | pinsTakeEffect (silo : Nat)
  | siloRelease (sess : Nat) (silo : Nat)
  | siloReleaseComplete (silo : Nat)
  | readoutStart (sess : Nat)
  | readoutPacket
  | readoutAbort (sess : Nat)
  | corr4 (bay : Nat)
  | corr8 (bay : Nat)
  | beam4 (bay : Nat)
  | beam8 (bay : Nat)
  | xreg (bay : Nat)
  | zero (bay : Nat)
  | dump (bay : Nat)
  | cutFence (bay : Nat)
  | fencePass (bay : Nat)
  | cutEnd (bay : Nat)
  | cutWaitStep (bay : Nat)
  | cutJump (bay : Nat)
  | cutIfStep (bay : Nat)
  | cutLoop (bay : Nat)
  | cutEndloop (bay : Nat)
  | cutWaitEvt (bay : Nat)
  | cutEvent (bay : Nat)
  | jigRestart (sess : Nat) (bay : Nat)
  | workOrderStart (tile : Nat) (bad : List Nat)
  | classUYield (tile : Nat)
  | passOverflow (tile : Nat)
  | passComplete (tile : Nat)
  | foldComplete (tile : Nat) (bad : List Nat)
  | spillComplete (tile : Nat) (bad : List Nat)
  | workOrderComplete (bay : Nat)
  | dumpRecordStaged (bad : List Nat)
  | recordFragmentsSend (stream : Nat)
  | residueMismatch (tile : Nat)
  | tileFail (tile : Nat) (cause : Nat)
  | reseatComplete (bay : Nat)
  | retest (sess : Nat) (tile : Nat)
  | retestComplete (tile : Nat) (passed : Bool)
  | weightLoad (lam : Nat)
  | formatRecord (stream : Nat)
  | winnowService
  | winnowOutput
  | scalerGroupSend (scaler : Nat)
  | lineClockEdge
  | pixelPacketRx
  | stageBLine (camera : Nat)
  | statsRecordFormed (camera : Nat)
  | frameSlotFilled
  | frameHold (sess : Nat) (slot : Option Nat)
  | frameSlotRelease (sess : Nat) (slot : Nat)
  | stitchedLine
  | regReady
  | regRecordTake
  | doveShift
  | clearCorr (sess : Nat) (k : Nat)
  | gleanerLine
  | slotANop (core : Nat)
  | cmul (core : Nat)
  | cmulj (core : Nat)
  | cmac (core : Nat)
  | cmacj (core : Nat)
  | cmsu (core : Nat)
  | cmag (core : Nat)
  | cbfly (core : Nat)
  | aclr (core : Nat)
  | mva (core : Nat)
  | mva2 (core : Nat)
  | cadd (core : Nat)
  | csub (core : Nat)
  | cconj (core : Nat)
  | bexd (core : Nat)
  | bexs (core : Nat)
  | addD (core : Nat)
  | subD (core : Nat)
  | andD (core : Nat)
  | orD (core : Nat)
  | xorD (core : Nat)
  | shl (core : Nat)
  | asr (core : Nat)
  | lsr (core : Nat)
  | addi (core : Nat)
  | movi (core : Nat)
  | movhi (core : Nat)
  | cmpD (core : Nat)
  | mulD (core : Nat)
  | divD (core : Nat)
  | movc (core : Nat)
  | movcw (core : Nat)
  | movar (core : Nat)
  | movra (core : Nat)
  | br (core : Nat)
  | call (core : Nat)
  | ret (core : Nat)
  | rti (core : Nat)
  | rep (core : Nat)
  | repd (core : Nat)
  | eidi (core : Nat)
  | waite (core : Nat)
  | sige (core : Nat)
  | trapD (core : Nat)
  | haltD (core : Nat)
  | slotBNop (core : Nat)
  | ld (core : Nat) (ecc : List Nat)
  | ldo (core : Nat) (ecc : List Nat)
  | st (core : Nat)
  | sto (core : Nat)
  | ld2 (core : Nat) (ecc : List Nat)
  | st2 (core : Nat)
  | ldst (core : Nat) (ecc : List Nat)
  | fld (core : Nat)
  | fst (core : Nat)
  | amod (core : Nat)
  | ldai (core : Nat)
  | farResponse (core : Nat)
  | farTimeout (core : Nat)
  | trapEntry (core : Nat) (imem : Nat) (deferral : Nat)
  | interruptEntry (core : Nat) (deferral : Nat)
  | imageApply (core : Nat)
  | imageLoadComplete (core : Nat)
  | debugHaltCmd (sess : Nat) (core : Nat)
  | debugResume (sess : Nat) (core : Nat)
  | debugStep (sess : Nat) (core : Nat)
  | breakpointHit (core : Nat)
  | parityEngineWrite (addr : Nat) (data : Bytes)
  | assemblyClose (closeStripe : Bool)
  | dramRead (addr : Nat) (cls : Nat) (err : Nat)
  | scrubRead (ch : Nat) (err : Nat)
  | refreshDue (ch : Nat) (rank : Nat) (busy : Bool)
  | mr4Read (ch : Nat) (codes : List Nat) (above : Bool)
  | channelLost (ch : Nat) (cause : Nat)
  | declareLost (sess : Nat) (ch : Nat)
  | rebuild (sess : Nat) (ch : Nat)
  | rebuildComplete (ch : Nat)
  | applyDelays (sess : Nat) (ch : Nat)
  | recalibrate (sess : Nat) (ch : Nat)
  | recalWindow (ch : Nat) (final : Bool) (margin : Nat) (block : Bytes)
  | freqChange (sess : Nat)
  | channelFreqSwitch
  | storeDelays (sess : Nat)
  | fabricRequest (master : Nat) (req : FabReq)
  | pageWalkComplete (walk : Nat)
  | lockBroken (master : Nat)
  | invWindow (sess : Nat) (window : Nat)
  | invAll (sess : Nat)
  | pageInvWindow (master : Nat) (window : Nat)
  | pageInvAll (master : Nat)
  | dmaStart (via : DmaVia) (c : Nat)
  | descriptorFetch (c : Nat)
  | descriptorComplete (c : Nat)
  | dmaBeatFault (c : Nat)
  | dmaAbort (via : DmaVia) (c : Nat)
  | abortComplete (c : Nat)
  | dmaResume (via : DmaVia) (c : Nat)
  | dmaResumeNext (via : DmaVia) (c : Nat)
  | moverAssign
  | qlFrameRx (cand : Nat) (word : Nat) (stop : Bool)
  | qlTimeout (cand : Nat)
  | signalLoss (cand : Nat)
  | monitorWindowEnd (ys : List Int) (control : Int)
  | wtrExpiry (cand : Nat)
  | switchComplete
  | refAcquireTimeout
  | pps
  | scLoad (sess : Nat)
  | scLoadApply
  | adjust (sess : Nat) (t : Nat) (v : Int)
  | tbStep (sess : Nat) (t : Nat)
  | tbSet (master : Nat) (secure : Bool) (t : Nat)
  | toutTimeReached (k : Nat)
  | toutEvent (k : Nat)
  | toutPulseEnd (k : Nat)
  | tinCapture (k : Nat) (rising : Bool) (held : Nat)
  | ptpEventRx (port : Nat) (msg : PtpMsg)
  | ptpMessageTx (port : Nat) (kind : Nat)
  | encoderEdge (axis : Nat) (a : Bool) (b : Bool) (held : Nat)
  | hallState (axis : Nat) (uvw : Nat) (held : Nat)
  | ssiFrame (axis : Nat) (value : Nat) (parity : Bool)
  | indexEdge (axis : Nat) (held : Nat)
  | axisPreset (sess : Nat) (axis : Nat)
  | observerUpdate (axis : Nat)
  | standstill (axis : Nat)
  | comparePlace (sess : Nat) (m : Nat)
  | markerEntryArrive (m : Nat)
  | compareClear (sess : Nat) (m : Nat)
  | cmpoutPulseEnd (m : Nat)
  | lineEdgeEmit
  | timerLineEdge
  | ltrigPulse (j : Nat)
  | fdpFrameRx (peer : Peer) (datagram : Bytes)
  | fdpOpen (peer : Peer) (frame : FdpFrame)
  | keyInit (peer : Peer) (frame : FdpFrame)
  | fdpRequest (peer : Peer) (frame : FdpFrame)
  | notifyAck (peer : Peer) (frame : FdpFrame)
  | closeFrame (peer : Peer) (frame : FdpFrame)
  | fdpRead (sess : Nat) (idx : Nat) (sub : Nat)
  | fdpWrite (sess : Nat) (idx : Nat) (sub : Nat) (data : Bytes)
  | fdpDescribe (sess : Nat) (idx : Nat) (sub : Nat)
  | domBegin (sess : Nat) (idx : Nat) (sub : Nat) (total : Nat)
  | domSeg (sess : Nat) (idx : Nat) (sub : Nat) (off : Nat) (data : Bytes)
  | domEnd (sess : Nat) (idx : Nat) (sub : Nat) (crc : Nat)
  | domRead (sess : Nat) (idx : Nat) (sub : Nat) (off : Nat) (len : Nat)
  | domCancel (sess : Nat) (idx : Nat) (sub : Nat)
  | transferAbandoned (sess : Nat)
  | sessionIdleTimeout (sess : Nat)
  | sessionClose (sess : Nat) (target : Nat)
  | notifySend (sess : Nat)
  | notifyResend (sess : Nat) (seq : Nat)
  | keySet (sess : Nat) (role : Nat) (newKey : Bytes)
  | debugEnter (sess : Nat)
  | debugLeave (sess : Nat)
  | arpRequest (port : Nat) (sender : Nat) (target : Nat)
  | icmpEcho (port : Nat) (sender : Nat) (target : Nat) (payload : Bytes)
  | portLinkChange (port : Nat) (link : Nat)
  | eventTake
  | consumerTake (input : Nat)
  | relayEmit (r : Nat)
  | softEvent (via : Via) (n : Nat)
  | channelAttr (master : Nat) (secure : Bool) (c : Nat) (value : Nat)
  | alertDelivery (k : Nat)
  | alertPulseEnd (k : Nat)
  | alertRelease (sess : Nat) (k : Nat)
  | snapshotTime (g : Nat)
  | snapshotEvent (g : Nat)
  | snapNow (sess : Nat) (g : Nat)
  | counterClear (via : Via) (n : Nat)
  | ovfClear (sess : Nat) (n : Nat)
  | counterWrap (n : Nat)
  | lockstepMismatch
  | watchdogExpiry
  | failover (sess : Nat)
  | pairSelftestComplete (passed : Bool)
  | firmwareFlashComplete (ok : Bool)
  | activate (sess : Nat)
  | loadingComplete
  | handoverComplete (gap : Nat)
  | probationEnd
  | keep (sess : Nat)
  | keepTimeout
  | keepEntryComplete (micros : Nat)
  | wake (sess : Nat)
  | keepExitComplete (micros : Nat)
  | deviceReset (sess : Nat)
  | pwrEnFall
  | pwrEnRise
  | porstNAssert
  | porstNRelease
  | dictionaryReachable (micros : Nat) (m0 : Bool) (m1 : Bool)
  | bootComplete (micros : Nat) (found : SelfTest) (badLanes : List Nat)
  | housekeepingRound (temps : List Int) (volts : List Nat) (amps : List Nat)
  | undervoltage (rail : Nat)
  | vaonLow
  | extest (balls : Nat) (cells : Nat)
  | idcode
  | samplePreload (balls : Nat) (cells : Nat)
  | clamp
  | highz
  | jtagReset
  | bypass
  | prbsReceive (lane : Nat) (rx : List Bool)
  | signalReturn (cand : Nat)
  deriving DecidableEq, Repr

end Sys2Proof
end

