-- ==== Sys2Proof/Config.lean ====
section
/-! DEFINITION. What the manual leaves open: free values. None has a body, so nothing can prove a value of it. -/

namespace Sys2Proof.Config

/-- A free value of `w` bits, the `n`-th one the machine draws.
It stands for every bit pattern the manual leaves open (log 4). -/
opaque freeBits : (w : Nat) → Nat → BitVec w

/-- The on-die entropy source of R460 and R183 seeds: the `n`-th byte drawn (log 5). -/
opaque entropyByte : Nat → BitVec 8

/-- The seed that the entropy source gives the LFSR of a DRAM channel (R350): start number and channel (log 5). -/
opaque lfsrSeed : Nat → Nat → BitVec 32

/-- What the check of a firmware image finds: header, CRC-32C and ECDSA signature (R518).
The manual gives neither the header's layout nor the key (log 8). -/
opaque imageCheck : Bytes → BitVec 2

/-- The version an image carries in its header (R518, log 8). -/
opaque imageVersion : Bytes → BitVec 32

/-- Defined entries of the EFK8192-X and the EFK4096-I (1000h.09), which the manual does not state (log 9). -/
opaque definedEntries : Nat → BitVec 16

/-- Contents of the boot ROM (R372), which the manual does not give (log 10). -/
opaque romByte : Nat → BitVec 8

/-- Contents of board flash as its read window shows them (R372), which the manual does not give (log 10). -/
opaque flashByte : Nat → BitVec 8

end Sys2Proof.Config
end

