-- ==== Sys2Proof/Machine/Assoc.lean ====
section
/-! DEFINITION. Sorted association lists over natural keys: the one form every sparse map of State has
(registers, DOMAIN values, DRAM bytes, per-instance records). -/

namespace Sys2Proof.Machine

/-- The value at a key, if listed. -/
def lookup {α : Type} : List (Nat × α) → Nat → Option α
  | [], _ => none
  | (k, v) :: m, x => if x = k then some v else lookup m x

/-- The map with a key at a value; keys stay strictly rising. -/
def insertKey {α : Type} : List (Nat × α) → Nat → α → List (Nat × α)
  | [], x, v => [(x, v)]
  | (k, w) :: m, x, v =>
    if x < k then (x, v) :: (k, w) :: m
    else if x = k then (x, v) :: m
    else (k, w) :: insertKey m x v

/-- The map without a key. -/
def eraseKey {α : Type} : List (Nat × α) → Nat → List (Nat × α)
  | [], _ => []
  | (k, w) :: m, x => if x = k then m else (k, w) :: eraseKey m x

/-- The keys rise strictly, and every one is at least `lo`. -/
def sortedFrom {α : Type} : Nat → List (Nat × α) → Bool
  | _, [] => true
  | lo, (k, _) :: m => decide (lo ≤ k) && sortedFrom (k + 1) m

/-- The keys rise strictly. -/
def sorted {α : Type} (m : List (Nat × α)) : Bool := sortedFrom 0 m

end Sys2Proof.Machine
end

