-- ==== Sys2Proof/Machine/Bits.lean ====
section
/-! DEFINITION. Bit fields, sign extension, byte order, saturation, rounding and CRC-32C:
the arithmetic every chapter of the manual shares. -/

namespace Sys2Proof.Machine

/-- Bits `hi` down to `lo` of `v`, as the manual writes `[hi:lo]`. -/
def bits (v hi lo : Nat) : Nat := (v >>> lo) % 2 ^ (hi + 1 - lo)

/-- Bit `i` of `v`. -/
def bitAt (v i : Nat) : Bool := (v >>> i) % 2 == 1

/-- `v` with bit `i` set. -/
def setBit (v i : Nat) : Nat := v ||| (1 <<< i)

/-- `v` with bit `i` cleared. -/
def clearBit (v i : Nat) : Nat := if bitAt v i then v - (1 <<< i) else v

/-- `v` with bit `i` at `b`. -/
def putBit (v i : Nat) (b : Bool) : Nat := if b then setBit v i else clearBit v i

/-- `v` with bits `hi` down to `lo` replaced by the low bits of `x`. -/
def putBits (v hi lo x : Nat) : Nat :=
  v - (bits v hi lo) * 2 ^ lo + (x % 2 ^ (hi + 1 - lo)) * 2 ^ lo

/-- One for true and zero for false. -/
def ofBool (b : Bool) : Nat := if b then 1 else 0

/-- The number of bits set among the low `n` bits of `v`. -/
def popCount (n v : Nat) : Nat := (List.range n).foldl (fun a i => a + ofBool (bitAt v i)) 0

/-- The set bits among the low `n` bits of `v`, ascending. -/
def setBitsOf (n v : Nat) : List Nat := (List.range n).filter (bitAt v)

/-- Two's complement reading of the low `w` bits of `v`. -/
def toSigned (w v : Nat) : Int :=
  if v % 2 ^ w < 2 ^ (w - 1) then ((v % 2 ^ w : Nat) : Int) else ((v % 2 ^ w : Nat) : Int) - (2 ^ w : Nat)

/-- The `w`-bit two's complement pattern of `i`, wrapping. -/
def ofSigned (w : Nat) (i : Int) : Nat := (i % ((2 ^ w : Nat) : Int)).toNat

/-- `i` clamped to the range `[lo, hi]`. -/
def clampInt (lo hi i : Int) : Int := if i < lo then lo else if hi < i then hi else i

/-- `i` clamped to the signed range of `w` bits. -/
def satSigned (w : Nat) (i : Int) : Int := clampInt (-((2 ^ (w - 1) : Nat) : Int)) (((2 ^ (w - 1) : Nat) : Int) - 1) i

/-- A U32 counter saturates (the counter rule stated over every entry table). -/
def satAdd32 (v n : Nat) : Nat := min (v + n) 0xFFFFFFFF

/-- A U64 counter wraps. -/
def wrapAdd64 (v n : Nat) : Nat := (v + n) % 2 ^ 64

/-- The `n` bytes of `v`, most significant first (R453). -/
def beBytes : Nat → Nat → Bytes
  | 0, _ => []
  | n + 1, v => BitVec.ofNat 8 (v / 256 ^ n) :: beBytes n v

/-- The number that bytes spell, most significant first (R453). -/
def ofBytes (bs : Bytes) : Nat := bs.foldl (fun a b => a * 256 + b.toNat) 0

/-- `k` zero bytes. -/
def zeroBytes (k : Nat) : Bytes := List.replicate k 0

/-- `n` bytes of `bs` from offset `at`. -/
def slice (bs : Bytes) (off n : Nat) : Bytes := (bs.drop off).take n

/-- The number spelt by `n` bytes of `bs` from offset `off`. -/
def field (bs : Bytes) (off n : Nat) : Nat := ofBytes (slice bs off n)

/-- `bs` padded with zeros to a multiple of `m` bytes. -/
def padTo (m : Nat) (bs : Bytes) : Bytes := bs ++ zeroBytes ((m - bs.length % m) % m)

/-- `x` divided by `2 ^ k`, rounded to nearest with ties to even. -/
def rneShift (x : Int) (k : Nat) : Int :=
  if k = 0 then x else
  let q := x / ((2 ^ k : Nat) : Int)
  let r := x % ((2 ^ k : Nat) : Int)
  let h : Int := ((2 ^ (k - 1) : Nat) : Int)
  if r < h then q else if h < r then q + 1 else if q % 2 = 0 then q else q + 1

/-- `n / d` rounded to nearest with ties to even, for a positive `d`. -/
def rneDiv (n : Int) (d : Nat) : Int :=
  let q := n / (d : Int)
  let r := n % (d : Int)
  if 2 * r < d then q else if (d : Int) < 2 * r then q + 1 else if q % 2 = 0 then q else q + 1

/-- One bit into the CRC-32C register, non-reflected (R52). -/
def crcBit (c : Nat) (b : Bool) : Nat :=
  let top := bitAt c 31
  let c := (c * 2) % 2 ^ 32
  if top != b then c ^^^ 0x1EDC6F41 else c

/-- The low `n` bits of `v`, most significant first, into the CRC-32C register. -/
def crcField : Nat → Nat → Nat → Nat
  | 0, _, c => c
  | n + 1, v, c => crcField n v (crcBit c (bitAt v n))

/-- CRC-32C of a byte string (R52). -/
def crc32c (bs : Bytes) : Nat := (bs.foldl (fun c b => crcField 8 b.toNat c) 0xFFFFFFFF) ^^^ 0xFFFFFFFF

/-- CRC-32C of 64-bit words (R52). -/
def crcWords (ws : List Nat) : Nat := (ws.foldl (fun c w => crcField 64 w c) 0xFFFFFFFF) ^^^ 0xFFFFFFFF

/-- CRC-8 of the low `n` bits of `v`, most significant first: polynomial x^8 + x^2 + x + 1 from 00h (R51). -/
def crc8 : Nat → Nat → Nat → Nat
  | 0, _, c => c
  | n + 1, v, c =>
    let top := bitAt c 7
    let c := (c * 2) % 256
    crc8 n v (if top != bitAt v n then c ^^^ 0x07 else c)

/-- One step of the LFSR (R162). -/
def lfsrStep (s : Nat) : Nat :=
  let b := ((bitAt s 31 != bitAt s 21) != bitAt s 1) != bitAt s 0
  (s * 2 + ofBool b) % 2 ^ 32

/-- `n` steps of the LFSR. -/
def lfsrSteps : Nat → Nat → Nat
  | 0, s => s
  | n + 1, s => lfsrSteps n (lfsrStep s)

/-- A TIME80 value: 48-bit seconds and 32-bit nanoseconds (R453). -/
def time80 (sec ns : Nat) : Nat := (sec % 2 ^ 48) * 2 ^ 32 + ns

/-- Element `i` of a list, or a default. -/
def nthD {α : Type} (d : α) (xs : List α) (i : Nat) : α := xs.getD i d

/-- `xs` with element `i` mapped by `f`; unchanged when there is none. -/
def modNth {α : Type} (f : α → α) : List α → Nat → List α
  | [], _ => []
  | x :: xs, 0 => f x :: xs
  | x :: xs, i + 1 => x :: modNth f xs i

end Sys2Proof.Machine
end

