-- ==== Sys2Proof/Machine/DictType.lean ====
section
/-! DEFINITION. The types of the dictionary's entries: value types (R453), access codes (R454), apply points (R28, R466) and roles (R463). -/

namespace Sys2Proof.Machine

/-- The value types of R453; `cmd` is a CMD entry whose row gives no type, written as one byte (log 12). -/
inductive Ty where
  | bool | u8 | u16 | u32 | u64 | i8 | i16 | i32 | i64 | f32 | bits8 | bits32 | enum8 | time80
  | octets (n : Nat)
  | domain (max : Nat)
  | cmd
  deriving DecidableEq, Repr

/-- The access codes of R454. -/
inductive Access where
  | ro | rw | rws | rwx | w1c | cmd
  deriving DecidableEq, Repr

/-- The apply points of R28 and R466; `live` is code 00h. -/
inductive Apply where
  | live | sample | subint | dwell | frame | tick | own
  deriving DecidableEq, Repr

/-- Who may write an entry (R463, R466). -/
inductive WriteRole where
  | operator | integratorOrService | integrator | service | nobody
  deriving DecidableEq, Repr

/-- One row of an entry table: `count` instances from index `base`, sub-indices `lo` to `hi`.
`ranges` lists the values its row admits, as closed intervals of the signed or unsigned reading; empty means every value of the type.
`mult` is the multiple the row asks for. -/
structure Row where
  base : Nat
  count : Nat
  lo : Nat
  hi : Nat
  ty : Ty
  acc : Access
  apply : Apply
  role : WriteRole
  dflt : Nat
  ranges : List (Int × Int)
  mult : Nat
  deriving DecidableEq, Repr

/-- The size in bytes of a fixed type (R453); a DOMAIN has none. -/
def Ty.size : Ty → Nat
  | .bool | .u8 | .i8 | .bits8 | .enum8 | .cmd => 1
  | .u16 | .i16 => 2
  | .u32 | .i32 | .f32 | .bits32 => 4
  | .u64 | .i64 => 8
  | .time80 => 10
  | .octets n => n
  | .domain _ => 0

/-- Whether values of a type read as two's complement. -/
def Ty.isSigned : Ty → Bool
  | .i8 | .i16 | .i32 | .i64 => true
  | _ => false

/-- Type codes of R453; a CMD row without a type reports U8 (log 12). -/
def Ty.code : Ty → Nat
  | .bool => 0x01 | .u8 => 0x02 | .u16 => 0x03 | .u32 => 0x04 | .u64 => 0x05
  | .i8 => 0x06 | .i16 => 0x07 | .i32 => 0x08 | .i64 => 0x09 | .f32 => 0x0A
  | .bits8 => 0x0B | .bits32 => 0x0C | .enum8 => 0x0D | .time80 => 0x0E
  | .octets _ => 0x0F | .domain _ => 0x11 | .cmd => 0x02

/-- Access codes of R466. -/
def Access.code : Access → Nat
  | .ro => 1 | .rw => 2 | .rws => 3 | .rwx => 4 | .w1c => 5 | .cmd => 6

/-- Apply point codes of R466. -/
def Apply.code : Apply → Nat
  | .live => 0 | .sample => 1 | .subint => 2 | .dwell => 3 | .frame => 4 | .tick => 5 | .own => 6

/-- Role codes of R466. -/
def WriteRole.code : WriteRole → Nat
  | .operator => 0 | .integratorOrService => 1 | .integrator => 2 | .service => 3 | .nobody => 0xFF

/-- The key of an entry: its index and sub-index in one number (R452). -/
def key (idx sub : Nat) : Nat := idx * 256 + sub

/-- Whether a row holds an entry. -/
def Row.covers (r : Row) (idx sub : Nat) : Bool :=
  decide (r.base ≤ idx) && decide (idx < r.base + r.count) && decide (r.lo ≤ sub) && decide (sub ≤ r.hi)

/-- The value `v` as the row's type reads it. -/
def Row.reading (r : Row) (v : Nat) : Int := if r.ty.isSigned then toSigned (8 * r.ty.size) v else (v : Int)

/-- Whether `v` lies in the encoding and range that the row gives (R453). -/
def Row.inRange (r : Row) (v : Nat) : Bool :=
  (match r.ty with
   | .bool => decide (v ≤ 1)
   | .time80 => decide (v % 2 ^ 32 < 1000000000)
   | _ => true) &&
  (match r.ranges with
   | [] => true
   | rs => rs.any (fun p => decide (p.1 ≤ r.reading v) && decide (r.reading v ≤ p.2))) &&
  decide (v % r.mult = 0)

end Sys2Proof.Machine
end

