-- ==== Sys2Proof/Machine/DictRows.lean ====
section
/-! DEFINITION. The entry tables of every chapter, row by row: index, instances, sub-indices, type, access,
apply point, role, default, and the range the row gives. Each row cites its rule.
Rows whose default depends on the part are completed by `Dict.partDefault`. -/

namespace Sys2Proof.Machine

/-- The rows of indices 1000h to 10FFh. -/
def dictRows10 : List Row :=
  [ -- R4, R476, R477
    ⟨0x1020, 1, 0x00, 0x00, .u8, .ro, .live, .nobody, 7, [], 1⟩, -- count
    ⟨0x1020, 1, 0x01, 0x01, .bits32, .ro, .live, .nobody, 0, [], 1⟩, -- unit_present
    ⟨0x1020, 1, 0x02, 0x02, .u8, .ro, .live, .nobody, 0, [], 1⟩, -- bays
    ⟨0x1020, 1, 0x03, 0x03, .u8, .ro, .live, .nobody, 0, [], 1⟩, -- dram_channels
    ⟨0x1020, 1, 0x04, 0x04, .u8, .ro, .live, .nobody, 0, [], 1⟩, -- rx_quads
    ⟨0x1020, 1, 0x05, 0x05, .u8, .ro, .live, .nobody, 0, [], 1⟩, -- tx_quads
    ⟨0x1020, 1, 0x06, 0x06, .u8, .ro, .live, .nobody, 0, [], 1⟩, -- dsp_cores
    ⟨0x1020, 1, 0x07, 0x07, .enum8, .ro, .live, .nobody, 0, [], 1⟩, -- variant
    ⟨0x1000, 1, 0x00, 0x00, .u8, .ro, .live, .nobody, 10, [], 1⟩, -- count
    ⟨0x1000, 1, 0x01, 0x01, (.octets 16), .ro, .live, .nobody, 94917242896243702597861776958081204224, [], 1⟩, -- vendor
    ⟨0x1000, 1, 0x02, 0x02, (.octets 16), .ro, .live, .nobody, 0, [], 1⟩, -- part
    ⟨0x1000, 1, 0x03, 0x03, .u16, .ro, .live, .nobody, 0, [], 1⟩, -- silicon
    ⟨0x1000, 1, 0x04, 0x04, (.octets 16), .ro, .live, .nobody, 0, [], 1⟩, -- serial
    ⟨0x1000, 1, 0x05, 0x05, .u32, .ro, .live, .nobody, 0, [], 1⟩, -- fw_version
    ⟨0x1000, 1, 0x06, 0x06, .u32, .ro, .live, .nobody, 0, [], 1⟩, -- fw_crc
    ⟨0x1000, 1, 0x07, 0x07, .u32, .ro, .live, .nobody, 0, [], 1⟩, -- rom_version
    ⟨0x1000, 1, 0x08, 0x08, .u16, .ro, .live, .nobody, 1, [], 1⟩, -- dict_version
    ⟨0x1000, 1, 0x09, 0x09, .u16, .ro, .live, .nobody, 0, [], 1⟩, -- entries
    ⟨0x1000, 1, 0x0A, 0x0A, .u8, .ro, .live, .nobody, 1, [], 1⟩, -- fdp_version
    ⟨0x1010, 2, 0x00, 0x00, .u8, .ro, .live, .nobody, 12, [], 1⟩ ] -- count
  ++ [ -- R477, R479
    ⟨0x1010, 2, 0x01, 0x01, .bool, .rw, .live, .operator, 1, [], 1⟩, -- enable
    ⟨0x1010, 2, 0x02, 0x02, .enum8, .ro, .live, .nobody, 0, [], 1⟩, -- status
    ⟨0x1010, 2, 0x03, 0x03, .enum8, .rwx, .live, .operator, 0, [(0, 3)], 1⟩, -- mode
    ⟨0x1010, 2, 0x04, 0x04, .enum8, .ro, .live, .nobody, 0, [], 1⟩, -- link
    ⟨0x1010, 2, 0x05, 0x05, (.octets 6), .ro, .live, .nobody, 0, [], 1⟩, -- mac
    ⟨0x1010, 2, 0x06, 0x06, .u32, .rws, .tick, .operator, 0, [], 1⟩, -- ipv4
    ⟨0x1010, 2, 0x07, 0x07, .u32, .rws, .tick, .operator, 4294901760, [], 1⟩, -- netmask
    ⟨0x1010, 2, 0x08, 0x08, .u32, .rws, .tick, .operator, 0, [], 1⟩, -- gateway
    ⟨0x1010, 2, 0x09, 0x09, .u16, .ro, .live, .nobody, 41731, [], 1⟩, -- fdp_port
    ⟨0x1010, 2, 0x0A, 0x0A, .u64, .ro, .live, .nobody, 0, [], 1⟩, -- rx_frames
    ⟨0x1010, 2, 0x0B, 0x0B, .u64, .ro, .live, .nobody, 0, [], 1⟩, -- tx_frames
    ⟨0x1010, 2, 0x0C, 0x0C, .u32, .ro, .live, .nobody, 0, [], 1⟩, -- rx_dropped
    ⟨0x1030, 8, 0x00, 0x00, .u8, .ro, .live, .nobody, 11, [], 1⟩, -- count
    ⟨0x1030, 8, 0x01, 0x01, .enum8, .ro, .live, .nobody, 0, [], 1⟩, -- state
    ⟨0x1030, 8, 0x02, 0x02, .enum8, .ro, .live, .nobody, 0, [], 1⟩, -- role
    ⟨0x1030, 8, 0x03, 0x03, .u32, .ro, .live, .nobody, 0, [], 1⟩, -- peer_ip
    ⟨0x1030, 8, 0x04, 0x04, .u16, .ro, .live, .nobody, 0, [], 1⟩, -- peer_port
    ⟨0x1030, 8, 0x05, 0x05, .u8, .ro, .live, .nobody, 0, [], 1⟩, -- port
    ⟨0x1030, 8, 0x06, 0x06, .u64, .ro, .live, .nobody, 0, [], 1⟩, -- rx_seq
    ⟨0x1030, 8, 0x07, 0x07, .u64, .ro, .live, .nobody, 0, [], 1⟩ ] -- tx_seq
  ++ [ -- R479, R480
    ⟨0x1030, 8, 0x08, 0x08, .bits32, .rw, .live, .operator, 0, [(0, 31)], 1⟩, -- notify_mask
    ⟨0x1030, 8, 0x09, 0x09, .u16, .ro, .live, .nobody, 0, [], 1⟩, -- idle_left
    ⟨0x1030, 8, 0x0A, 0x0A, .u64, .ro, .live, .nobody, 0, [], 1⟩, -- requests
    ⟨0x1030, 8, 0x0B, 0x0B, .cmd, .cmd, .live, .operator, 0, [], 1⟩, -- close
    ⟨0x1038, 1, 0x00, 0x00, .u8, .ro, .live, .nobody, 7, [], 1⟩, -- count
    ⟨0x1038, 1, 0x01, 0x01, .u8, .ro, .live, .nobody, 8, [], 1⟩, -- max_sessions
    ⟨0x1038, 1, 0x02, 0x02, .u16, .rw, .live, .operator, 30, [(5, 3600)], 1⟩, -- idle_timeout
    ⟨0x1038, 1, 0x03, 0x03, .u32, .ro, .live, .nobody, 0, [], 1⟩, -- auth_fail
    ⟨0x1038, 1, 0x04, 0x04, .u32, .ro, .live, .nobody, 0, [], 1⟩, -- replay_drop
    ⟨0x1038, 1, 0x05, 0x05, .u32, .ro, .live, .nobody, 0, [], 1⟩, -- opens
    ⟨0x1038, 1, 0x06, 0x06, .u32, .ro, .live, .nobody, 0, [], 1⟩, -- busy
    ⟨0x1038, 1, 0x07, 0x07, .u32, .ro, .live, .nobody, 0, [], 1⟩, -- malformed
    ⟨0x1040, 1, 0x00, 0x00, .u8, .ro, .live, .nobody, 5, [], 1⟩, -- count
    ⟨0x1040, 1, 0x01, 0x01, (.octets 32), .cmd, .live, .integrator, 0, [], 1⟩, -- key_observer
    ⟨0x1040, 1, 0x02, 0x02, (.octets 32), .cmd, .live, .integrator, 0, [], 1⟩, -- key_operator
    ⟨0x1040, 1, 0x03, 0x03, (.octets 32), .cmd, .live, .integrator, 0, [], 1⟩, -- key_integrator
    ⟨0x1040, 1, 0x04, 0x04, (.octets 32), .cmd, .live, .integrator, 0, [], 1⟩, -- key_service
    ⟨0x1040, 1, 0x05, 0x05, .bits8, .ro, .live, .nobody, 0, [], 1⟩, -- key_state
    ⟨0x1050, 1, 0x00, 0x00, .u8, .ro, .live, .nobody, 3, [], 1⟩, -- count
    ⟨0x1050, 1, 0x01, 0x01, .bool, .ro, .live, .nobody, 0, [], 1⟩ ] -- debug_mode
  ++ [ -- R480
    ⟨0x1050, 1, 0x02, 0x02, .cmd, .cmd, .live, .service, 0, [(1, 2)], 1⟩, -- debug
    ⟨0x1050, 1, 0x03, 0x03, .u8, .ro, .live, .nobody, 0, [], 1⟩ ] -- debug_session

/-- The rows of indices 1100h to 11FFh. -/
def dictRows11 : List Row :=
  [ -- R481
    ⟨0x1100, 1, 0x00, 0x00, .u8, .ro, .live, .nobody, 8, [], 1⟩, -- count
    ⟨0x1100, 1, 0x01, 0x01, .u32, .ro, .live, .nobody, 0, [], 1⟩, -- epoch
    ⟨0x1100, 1, 0x02, 0x02, .u64, .ro, .live, .nobody, 0, [], 1⟩, -- boundary_sc
    ⟨0x1100, 1, 0x03, 0x03, .bool, .ro, .live, .nobody, 0, [], 1⟩, -- armed
    ⟨0x1100, 1, 0x04, 0x04, .u64, .ro, .live, .nobody, 0, [], 1⟩, -- armed_sc
    ⟨0x1100, 1, 0x05, 0x05, .u16, .ro, .live, .nobody, 0, [], 1⟩, -- pending_entries
    ⟨0x1100, 1, 0x06, 0x06, .u16, .ro, .live, .nobody, 0, [], 1⟩, -- armed_entries
    ⟨0x1100, 1, 0x07, 0x07, .u32, .ro, .live, .nobody, 0, [], 1⟩, -- write_conflicts
    ⟨0x1100, 1, 0x08, 0x08, .u32, .ro, .live, .nobody, 0, [], 1⟩, -- apply_skipped
    ⟨0x1101, 1, 0x00, 0x00, .u8, .ro, .live, .nobody, 5, [], 1⟩, -- count
    ⟨0x1101, 1, 0x01, 0x01, .u64, .cmd, .live, .operator, 0, [], 1⟩, -- commit
    ⟨0x1101, 1, 0x02, 0x02, .cmd, .cmd, .live, .operator, 0, [], 1⟩, -- discard
    ⟨0x1101, 1, 0x03, 0x03, .cmd, .cmd, .live, .operator, 0, [], 1⟩, -- disarm
    ⟨0x1101, 1, 0x04, 0x04, .u32, .ro, .live, .nobody, 0, [], 1⟩, -- commits
    ⟨0x1101, 1, 0x05, 0x05, .u32, .ro, .live, .nobody, 0, [], 1⟩, -- refused
    ⟨0x1102, 1, 0x00, 0x00, .u8, .ro, .live, .nobody, 5, [], 1⟩, -- count
    ⟨0x1102, 1, 0x01, 0x01, .u32, .rw, .live, .operator, 0, [], 1⟩, -- select
    ⟨0x1102, 1, 0x02, 0x02, .enum8, .ro, .live, .nobody, 0, [], 1⟩, -- where
    ⟨0x1102, 1, 0x03, 0x03, (.domain 1048576), .ro, .live, .nobody, 0, [], 1⟩, -- pending_value
    ⟨0x1102, 1, 0x04, 0x04, (.domain 1048576), .ro, .live, .nobody, 0, [], 1⟩ ] -- armed_value
  ++ [ -- R481, R482
    ⟨0x1102, 1, 0x05, 0x05, .u8, .ro, .live, .nobody, 0, [], 1⟩, -- writer
    ⟨0x1103, 1, 0x00, 0x00, .u8, .ro, .live, .nobody, 1, [], 1⟩, -- count
    ⟨0x1103, 1, 0x01, 0x01, (.domain 32768), .ro, .live, .nobody, 0, [], 1⟩, -- list
    ⟨0x1110, 1, 0x00, 0x00, .u8, .ro, .live, .nobody, 17, [], 1⟩, -- count
    ⟨0x1110, 1, 0x01, 0x01, .u8, .ro, .live, .nobody, 0, [], 1⟩, -- next
    ⟨0x1110, 1, 0x02, 0x11, (.octets 32), .ro, .live, .nobody, 0, [], 1⟩ ] -- record

/-- The rows of indices 2000h to 20FFh. -/
def dictRows20 : List Row :=
  [ -- R549
    ⟨0x2000, 1, 0x00, 0x00, .u8, .ro, .live, .nobody, 16, [], 1⟩, -- count
    ⟨0x2000, 1, 0x01, 0x01, .enum8, .ro, .live, .nobody, 1, [], 1⟩, -- power_state
    ⟨0x2000, 1, 0x02, 0x02, .enum8, .ro, .live, .nobody, 0, [], 1⟩, -- throttle
    ⟨0x2000, 1, 0x03, 0x03, .f32, .ro, .live, .nobody, 1065353216, [], 1⟩, -- throttle_factor
    ⟨0x2000, 1, 0x04, 0x04, .cmd, .cmd, .live, .operator, 0, [], 1⟩, -- keep
    ⟨0x2000, 1, 0x05, 0x05, .cmd, .cmd, .live, .operator, 0, [], 1⟩, -- wake
    ⟨0x2000, 1, 0x06, 0x06, .bool, .rw, .live, .operator, 1, [], 1⟩, -- keep_granary
    ⟨0x2000, 1, 0x07, 0x07, .bool, .rw, .live, .operator, 1, [], 1⟩, -- keep_timing
    ⟨0x2000, 1, 0x08, 0x08, .u8, .rw, .live, .operator, 0, [(0, 1)], 1⟩, -- keep_port
    ⟨0x2000, 1, 0x09, 0x09, .u32, .rw, .live, .operator, 1000, [(10, 60000)], 1⟩, -- keep_timeout
    ⟨0x2000, 1, 0x0A, 0x0A, .bool, .ro, .live, .nobody, 0, [], 1⟩, -- wake_latched
    ⟨0x2000, 1, 0x0B, 0x0B, .cmd, .cmd, .live, .integrator, 0, [], 1⟩, -- reset
    ⟨0x2000, 1, 0x0C, 0x0C, .u32, .ro, .live, .nobody, 0, [], 1⟩, -- keeps
    ⟨0x2000, 1, 0x0D, 0x0D, .u64, .ro, .live, .nobody, 0, [], 1⟩, -- keep_time
    ⟨0x2000, 1, 0x0E, 0x0E, .u32, .ro, .live, .nobody, 0, [], 1⟩, -- forced_off
    ⟨0x2000, 1, 0x0F, 0x0F, .u32, .ro, .live, .nobody, 0, [], 1⟩, -- last_entry
    ⟨0x2000, 1, 0x10, 0x10, .u32, .ro, .live, .nobody, 0, [], 1⟩ ] -- last_exit

/-- The rows of indices 2100h to 21FFh. -/
def dictRows21 : List Row :=
  [ -- R153
    ⟨0x2100, 4, 0x00, 0x00, .u8, .ro, .live, .nobody, 6, [], 1⟩, -- count
    ⟨0x2100, 4, 0x01, 0x01, .u8, .ro, .live, .nobody, 64, [], 1⟩, -- in_service
    ⟨0x2100, 4, 0x02, 0x02, .u8, .ro, .live, .nobody, 4, [], 1⟩, -- spare_left
    ⟨0x2100, 4, 0x03, 0x03, .u8, .ro, .live, .nobody, 0, [], 1⟩, -- failed
    ⟨0x2100, 4, 0x04, 0x04, .u8, .ro, .live, .nobody, 0, [], 1⟩, -- unplaced
    ⟨0x2100, 4, 0x05, 0x05, .u32, .ro, .live, .nobody, 0, [], 1⟩, -- unplaced_drops
    ⟨0x2100, 4, 0x06, 0x06, .bool, .ro, .live, .nobody, 0, [], 1⟩, -- reseating
    ⟨0x2110, 4, 0x00, 0x00, .u8, .ro, .live, .nobody, 65, [], 1⟩, -- count
    ⟨0x2110, 4, 0x01, 0x40, .u16, .ro, .live, .nobody, 0, [], 1⟩, -- placement
    ⟨0x2110, 4, 0x41, 0x41, .u64, .rwx, .live, .operator, 0, [], 1⟩ ] -- u_tiles

/-- The rows of indices 2200h to 22FFh. -/
def dictRows22 : List Row :=
  [ -- R154
    ⟨0x2200, 272, 0x00, 0x00, .u8, .ro, .live, .nobody, 6, [], 1⟩, -- count
    ⟨0x2200, 272, 0x01, 0x01, .enum8, .ro, .live, .nobody, 0, [], 1⟩, -- state
    ⟨0x2200, 272, 0x02, 0x02, .u8, .ro, .live, .nobody, 0, [], 1⟩, -- logical
    ⟨0x2200, 272, 0x03, 0x03, .u64, .ro, .live, .nobody, 0, [], 1⟩, -- work_orders
    ⟨0x2200, 272, 0x04, 0x04, .u64, .ro, .live, .nobody, 0, [], 1⟩, -- busy
    ⟨0x2200, 272, 0x05, 0x05, .enum8, .ro, .live, .nobody, 0, [], 1⟩, -- fail_cause
    ⟨0x2200, 272, 0x06, 0x06, .cmd, .cmd, .live, .integratorOrService, 0, [], 1⟩ ] -- retest

/-- The rows of indices 2300h to 23FFh. -/
def dictRows23 : List Row :=
  [ -- R154
    ⟨0x2200, 272, 0x00, 0x00, .u8, .ro, .live, .nobody, 6, [], 1⟩, -- count
    ⟨0x2200, 272, 0x01, 0x01, .enum8, .ro, .live, .nobody, 0, [], 1⟩, -- state
    ⟨0x2200, 272, 0x02, 0x02, .u8, .ro, .live, .nobody, 0, [], 1⟩, -- logical
    ⟨0x2200, 272, 0x03, 0x03, .u64, .ro, .live, .nobody, 0, [], 1⟩, -- work_orders
    ⟨0x2200, 272, 0x04, 0x04, .u64, .ro, .live, .nobody, 0, [], 1⟩, -- busy
    ⟨0x2200, 272, 0x05, 0x05, .enum8, .ro, .live, .nobody, 0, [], 1⟩, -- fail_cause
    ⟨0x2200, 272, 0x06, 0x06, .cmd, .cmd, .live, .integratorOrService, 0, [], 1⟩ ] -- retest

/-- The rows of indices 2400h to 24FFh. -/
def dictRows24 : List Row :=
  [ -- R75, R76
    ⟨0x2400, 1, 0x00, 0x00, .u8, .ro, .live, .nobody, 6, [], 1⟩, -- count
    ⟨0x2400, 1, 0x01, 0x01, .u64, .ro, .live, .nobody, 10320792790562551305, [], 1⟩, -- sync_word
    ⟨0x2400, 1, 0x02, 0x02, .u64, .rwx, .live, .operator, 255, [], 1⟩, -- u_lanes
    ⟨0x2400, 1, 0x03, 0x03, .bool, .rw, .live, .operator, 1, [], 1⟩, -- failover
    ⟨0x2400, 1, 0x04, 0x04, .u8, .rw, .live, .operator, 4, [(1, 255)], 1⟩, -- fail_errors
    ⟨0x2400, 1, 0x05, 0x05, .cmd, .cmd, .live, .operator, 0, [], 1⟩, -- clear
    ⟨0x2400, 1, 0x06, 0x06, .u16, .rw, .live, .operator, 1000, [(100, 10000)], 1⟩, -- ql_period
    ⟨0x2401, 1, 0x00, 0x00, .u8, .ro, .live, .nobody, 4, [], 1⟩, -- count
    ⟨0x2401, 1, 0x01, 0x01, .u32, .ro, .live, .nobody, 0, [], 1⟩, -- unknown_stream
    ⟨0x2401, 1, 0x02, 0x02, .u32, .ro, .live, .nobody, 0, [], 1⟩, -- bad_type
    ⟨0x2401, 1, 0x03, 0x03, .u32, .ro, .live, .nobody, 0, [], 1⟩, -- seq_gap
    ⟨0x2401, 1, 0x04, 0x04, .u32, .ro, .live, .nobody, 0, [], 1⟩, -- len_error
    ⟨0x2402, 1, 0x00, 0x00, .u8, .ro, .live, .nobody, 4, [], 1⟩, -- count
    ⟨0x2402, 1, 0x01, 0x01, (.octets 16), .rwx, .live, .operator, 0, [], 1⟩, -- rx_prbs
    ⟨0x2402, 1, 0x02, 0x02, (.octets 8), .rwx, .live, .operator, 0, [], 1⟩, -- tx_prbs
    ⟨0x2402, 1, 0x03, 0x03, .cmd, .cmd, .live, .operator, 0, [], 1⟩, -- inject
    ⟨0x2402, 1, 0x04, 0x04, (.octets 16), .ro, .live, .nobody, 0, [], 1⟩, -- rx_prbs_lock
    ⟨0x2410, 32, 0x00, 0x00, .u8, .ro, .live, .nobody, 3, [], 1⟩, -- count
    ⟨0x2410, 32, 0x01, 0x01, .enum8, .rwx, .live, .operator, 2, [(0, 2)], 1⟩, -- rate
    ⟨0x2410, 32, 0x02, 0x02, .u8, .ro, .live, .nobody, 255, [], 1⟩ ] -- master
  ++ [ -- R76, R77
    ⟨0x2410, 32, 0x03, 0x03, .bool, .rwx, .live, .operator, 0, [], 1⟩, -- free_clock
    ⟨0x2430, 16, 0x00, 0x00, .u8, .ro, .live, .nobody, 1, [], 1⟩, -- count
    ⟨0x2430, 16, 0x01, 0x01, .enum8, .rwx, .live, .operator, 2, [(0, 2)], 1⟩, -- rate
    ⟨0x2440, 32, 0x00, 0x00, .u8, .ro, .live, .nobody, 10, [], 1⟩, -- count
    ⟨0x2460, 16, 0x00, 0x00, .u8, .ro, .live, .nobody, 10, [], 1⟩, -- count
    ⟨0x2440, 32, 0x01, 0x01, .bool, .rw, .live, .operator, 0, [], 1⟩, -- enable
    ⟨0x2460, 16, 0x01, 0x01, .bool, .rw, .live, .operator, 0, [], 1⟩, -- enable
    ⟨0x2440, 32, 0x02, 0x02, .enum8, .ro, .live, .nobody, 0, [], 1⟩, -- status
    ⟨0x2460, 16, 0x02, 0x02, .enum8, .ro, .live, .nobody, 0, [], 1⟩, -- status
    ⟨0x2440, 32, 0x03, 0x03, .u8, .rwx, .live, .operator, 0, [], 1⟩, -- first_lane
    ⟨0x2460, 16, 0x03, 0x03, .u8, .rwx, .live, .operator, 0, [], 1⟩, -- first_lane
    ⟨0x2440, 32, 0x04, 0x04, .u8, .rwx, .live, .operator, 1, [(1, 16)], 1⟩, -- active_lanes
    ⟨0x2460, 16, 0x04, 0x04, .u8, .rwx, .live, .operator, 1, [(1, 16)], 1⟩, -- active_lanes
    ⟨0x2440, 32, 0x05, 0x05, .bool, .rwx, .live, .operator, 0, [], 1⟩, -- spare
    ⟨0x2460, 16, 0x05, 0x05, .bool, .rwx, .live, .operator, 0, [], 1⟩, -- spare
    ⟨0x2440, 32, 0x06, 0x06, .u8, .rwx, .live, .operator, 255, [], 1⟩, -- return_lane
    ⟨0x2460, 16, 0x06, 0x06, .u8, .rwx, .live, .operator, 255, [], 1⟩, -- return_lane
    ⟨0x2440, 32, 0x07, 0x07, .enum8, .ro, .live, .nobody, 0, [], 1⟩, -- link_state
    ⟨0x2460, 16, 0x07, 0x07, .enum8, .ro, .live, .nobody, 0, [], 1⟩, -- link_state
    ⟨0x2440, 32, 0x08, 0x08, .bits32, .ro, .live, .nobody, 0, [], 1⟩ ] -- lane_use
  ++ [ -- R77
    ⟨0x2460, 16, 0x08, 0x08, .bits32, .ro, .live, .nobody, 0, [], 1⟩, -- lane_use
    ⟨0x2440, 32, 0x09, 0x09, .u8, .ro, .live, .nobody, 0, [], 1⟩, -- map_gen
    ⟨0x2460, 16, 0x09, 0x09, .u8, .ro, .live, .nobody, 0, [], 1⟩, -- map_gen
    ⟨0x2440, 32, 0x0A, 0x0A, .u32, .ro, .live, .nobody, 0, [], 1⟩, -- failovers
    ⟨0x2460, 16, 0x0A, 0x0A, .u32, .ro, .live, .nobody, 0, [], 1⟩ ] -- failovers

/-- The rows of indices 2500h to 25FFh. -/
def dictRows25 : List Row :=
  [ -- R78
    ⟨0x2500, 128, 0x00, 0x00, .u8, .ro, .live, .nobody, 8, [], 1⟩, -- count
    ⟨0x2500, 128, 0x01, 0x01, .enum8, .ro, .live, .nobody, 0, [], 1⟩, -- state
    ⟨0x2500, 128, 0x02, 0x02, .u32, .ro, .live, .nobody, 0, [], 1⟩, -- sync_miss
    ⟨0x2500, 128, 0x03, 0x03, .u32, .ro, .live, .nobody, 0, [], 1⟩, -- hcrc_err
    ⟨0x2500, 128, 0x04, 0x04, .u32, .ro, .live, .nobody, 0, [], 1⟩, -- crc_err
    ⟨0x2500, 128, 0x05, 0x05, .u32, .ro, .live, .nobody, 0, [], 1⟩, -- stuff_viol
    ⟨0x2500, 128, 0x06, 0x06, .u32, .ro, .live, .nobody, 0, [], 1⟩, -- elastic_err
    ⟨0x2500, 128, 0x07, 0x07, .u16, .ro, .live, .nobody, 0, [], 1⟩, -- skew
    ⟨0x2500, 128, 0x08, 0x08, .u32, .ro, .live, .nobody, 0, [], 1⟩ ] -- prbs_err

/-- The rows of indices 2600h to 26FFh. -/
def dictRows26 : List Row :=
  [ -- R78
    ⟨0x2600, 64, 0x00, 0x00, .u8, .ro, .live, .nobody, 2, [], 1⟩, -- count
    ⟨0x2600, 64, 0x01, 0x01, .enum8, .ro, .live, .nobody, 0, [], 1⟩, -- state
    ⟨0x2600, 64, 0x02, 0x02, .u64, .ro, .live, .nobody, 0, [], 1⟩ ] -- items

/-- The rows of indices 2700h to 27FFh. -/
def dictRows27 : List Row :=
  [ -- R79
    ⟨0x2700, 256, 0x00, 0x00, .u8, .ro, .live, .nobody, 5, [], 1⟩, -- count
    ⟨0x2700, 256, 0x01, 0x01, .u8, .rws, .tick, .operator, 255, [(0, 15), (255, 255)], 1⟩, -- group
    ⟨0x2700, 256, 0x02, 0x02, .enum8, .rws, .tick, .operator, 1, [(0, 3)], 1⟩, -- class
    ⟨0x2700, 256, 0x03, 0x03, .bool, .rws, .tick, .operator, 0, [], 1⟩, -- credited
    ⟨0x2700, 256, 0x04, 0x04, .u32, .ro, .live, .nobody, 0, [], 1⟩, -- credit
    ⟨0x2700, 256, 0x05, 0x05, .u16, .ro, .live, .nobody, 0, [], 1⟩ ] -- seq

/-- The rows of indices 2800h to 28FFh. -/
def dictRows28 : List Row :=
  [ -- R112
    ⟨0x2800, 1, 0x00, 0x00, .u8, .ro, .live, .nobody, 14, [], 1⟩, -- count
    ⟨0x2800, 1, 0x01, 0x01, .bool, .rw, .live, .operator, 0, [], 1⟩, -- enable
    ⟨0x2800, 1, 0x02, 0x02, .enum8, .ro, .live, .nobody, 0, [], 1⟩, -- status
    ⟨0x2800, 1, 0x03, 0x03, .enum8, .rwx, .live, .operator, 0, [(0, 2)], 1⟩, -- format
    ⟨0x2800, 1, 0x04, 0x04, .u16, .rwx, .live, .operator, 1024, [(1, 4096)], 1⟩, -- channels
    ⟨0x2800, 1, 0x05, 0x05, .u32, .rwx, .live, .operator, 8192, [(1, 4294967295)], 1⟩, -- sc_step
    ⟨0x2800, 1, 0x06, 0x06, .u64, .rwx, .live, .operator, 0, [], 1⟩, -- sc_origin
    ⟨0x2800, 1, 0x07, 0x07, (.octets 16), .rwx, .live, .operator, 0, [], 1⟩, -- blocks
    ⟨0x2800, 1, 0x08, 0x08, .u64, .rwx, .live, .operator, 0, [(0, 18446744073709551615)], 1073741824⟩, -- crib_base
    ⟨0x2800, 1, 0x09, 0x09, .u64, .rwx, .live, .operator, 0, [(0, 18446744073709551615)], 1073741824⟩, -- crib_size
    ⟨0x2800, 1, 0x0A, 0x0A, .u16, .rwx, .live, .operator, 64, [(1, 1024)], 1⟩, -- horizon
    ⟨0x2800, 1, 0x0B, 0x0B, .u32, .rw, .live, .operator, 200, [(10, 100000)], 1⟩, -- seal_margin
    ⟨0x2800, 1, 0x0C, 0x0C, .u32, .rw, .live, .operator, 0, [], 1⟩, -- pin_limit
    ⟨0x2800, 1, 0x0D, 0x0D, .u32, .ro, .live, .nobody, 0, [], 1⟩, -- triggers
    ⟨0x2800, 1, 0x0E, 0x0E, .u32, .ro, .live, .nobody, 0, [], 1⟩, -- silo_refused
    ⟨0x2801, 1, 0x00, 0x00, .u8, .ro, .live, .nobody, 12, [], 1⟩, -- count
    ⟨0x2801, 1, 0x01, 0x01, .u64, .ro, .live, .nobody, 0, [], 1⟩, -- slab_bytes
    ⟨0x2801, 1, 0x02, 0x02, .u32, .ro, .live, .nobody, 0, [], 1⟩, -- ring_slabs
    ⟨0x2801, 1, 0x03, 0x03, .u64, .ro, .live, .nobody, 0, [], 1⟩, -- sealed
    ⟨0x2801, 1, 0x04, 0x04, .u32, .ro, .live, .nobody, 0, [], 1⟩ ] -- free_slabs
  ++ [ -- R112
    ⟨0x2801, 1, 0x05, 0x05, .u32, .ro, .live, .nobody, 0, [], 1⟩, -- pinned_slabs
    ⟨0x2801, 1, 0x06, 0x06, .u32, .ro, .live, .nobody, 0, [], 1⟩, -- unread_slabs
    ⟨0x2801, 1, 0x07, 0x07, .u32, .ro, .live, .nobody, 0, [], 1⟩, -- lost_slabs
    ⟨0x2801, 1, 0x08, 0x08, .u32, .ro, .live, .nobody, 0, [], 1⟩, -- late
    ⟨0x2801, 1, 0x09, 0x09, .u32, .ro, .live, .nobody, 0, [], 1⟩, -- early
    ⟨0x2801, 1, 0x0A, 0x0A, .u32, .ro, .live, .nobody, 0, [], 1⟩, -- duplicate
    ⟨0x2801, 1, 0x0B, 0x0B, .u32, .ro, .live, .nobody, 0, [], 1⟩, -- format_err
    ⟨0x2801, 1, 0x0C, 0x0C, .u32, .ro, .live, .nobody, 0, [], 1⟩, -- delay_overlap
    ⟨0x2802, 1, 0x00, 0x00, .u8, .ro, .live, .nobody, 2, [], 1⟩, -- count
    ⟨0x2802, 1, 0x01, 0x01, (.octets 512), .rws, .sample, .operator, 0, [], 1⟩, -- chan_mask
    ⟨0x2802, 1, 0x02, 0x02, (.domain 8192), .rws, .sample, .operator, 0, [], 1⟩, -- chan_pmax
    ⟨0x2803, 1, 0x00, 0x00, .u8, .ro, .live, .nobody, 3, [], 1⟩, -- count
    ⟨0x2803, 1, 0x01, 0x01, .u8, .rw, .live, .operator, 0, [(0, 7)], 1⟩, -- profile
    ⟨0x2803, 1, 0x02, 0x02, .u64, .rw, .live, .operator, 0, [], 1⟩, -- trig_sc
    ⟨0x2803, 1, 0x03, 0x03, .cmd, .cmd, .live, .operator, 0, [], 1⟩, -- fire
    ⟨0x2804, 1, 0x00, 0x00, .u8, .ro, .live, .nobody, 11, [], 1⟩, -- count
    ⟨0x2804, 1, 0x01, 0x01, .u8, .rw, .live, .operator, 0, [(0, 63)], 1⟩, -- silo
    ⟨0x2804, 1, 0x02, 0x02, .u16, .rw, .live, .operator, 0, [], 1⟩, -- first_channel
    ⟨0x2804, 1, 0x03, 0x03, .u16, .rw, .live, .operator, 0, [], 1⟩, -- last_channel
    ⟨0x2804, 1, 0x04, 0x04, .u8, .rw, .live, .operator, 0, [], 1⟩ ] -- first_block
  ++ [ -- R112, R113
    ⟨0x2804, 1, 0x05, 0x05, .u8, .rw, .live, .operator, 0, [], 1⟩, -- last_block
    ⟨0x2804, 1, 0x06, 0x06, .u8, .rw, .live, .operator, 0, [], 1⟩, -- stream
    ⟨0x2804, 1, 0x07, 0x07, .cmd, .cmd, .live, .operator, 0, [], 1⟩, -- start
    ⟨0x2804, 1, 0x08, 0x08, .cmd, .cmd, .live, .operator, 0, [], 1⟩, -- abort
    ⟨0x2804, 1, 0x09, 0x09, .enum8, .ro, .live, .nobody, 0, [], 1⟩, -- status
    ⟨0x2804, 1, 0x0A, 0x0A, .u32, .ro, .live, .nobody, 0, [], 1⟩, -- packets
    ⟨0x2804, 1, 0x0B, 0x0B, .enum8, .rw, .live, .operator, 0, [(0, 3)], 1⟩, -- class
    ⟨0x2810, 4, 0x00, 0x00, .u8, .ro, .live, .nobody, 8, [], 1⟩, -- count
    ⟨0x2810, 4, 0x01, 0x01, (.octets 512), .rws, .dwell, .operator, 0, [], 1⟩, -- channel_set
    ⟨0x2810, 4, 0x02, 0x02, .u32, .rws, .dwell, .operator, 131072, [], 1⟩, -- window
    ⟨0x2810, 4, 0x03, 0x03, .enum8, .rws, .dwell, .operator, 2, [(0, 2)], 1⟩, -- step
    ⟨0x2810, 4, 0x04, 0x04, .u64, .ro, .live, .nobody, 0, [], 1⟩, -- cur_window
    ⟨0x2810, 4, 0x05, 0x05, .u16, .ro, .live, .nobody, 0, [], 1⟩, -- cur_channel
    ⟨0x2810, 4, 0x06, 0x06, .u32, .ro, .live, .nobody, 0, [], 1⟩, -- lag
    ⟨0x2810, 4, 0x07, 0x07, .u64, .ro, .live, .nobody, 0, [], 1⟩, -- steps
    ⟨0x2810, 4, 0x08, 0x08, .u64, .ro, .live, .nobody, 0, [], 1⟩, -- stall
    ⟨0x2820, 8, 0x00, 0x00, .u8, .ro, .live, .nobody, 3, [], 1⟩, -- count
    ⟨0x2820, 8, 0x01, 0x01, .bool, .rw, .live, .operator, 0, [], 1⟩, -- enable
    ⟨0x2820, 8, 0x02, 0x02, .u32, .rw, .live, .operator, 0, [], 1⟩, -- pre
    ⟨0x2820, 8, 0x03, 0x03, .u32, .rw, .live, .operator, 0, [], 1⟩ ] -- post
  ++ [ -- R113, R114
    ⟨0x2840, 64, 0x00, 0x00, .u8, .ro, .live, .nobody, 11, [], 1⟩, -- count
    ⟨0x2840, 64, 0x01, 0x01, .enum8, .ro, .live, .nobody, 0, [], 1⟩, -- state
    ⟨0x2840, 64, 0x02, 0x02, .u64, .ro, .live, .nobody, 0, [], 1⟩, -- first_sc
    ⟨0x2840, 64, 0x03, 0x03, .u64, .ro, .live, .nobody, 0, [], 1⟩, -- last_sc
    ⟨0x2840, 64, 0x04, 0x04, .u64, .ro, .live, .nobody, 0, [], 1⟩, -- trig_sc
    ⟨0x2840, 64, 0x05, 0x05, .time80, .ro, .live, .nobody, 0, [], 1⟩, -- trig_time
    ⟨0x2840, 64, 0x06, 0x06, .u16, .ro, .live, .nobody, 0, [], 1⟩, -- source
    ⟨0x2840, 64, 0x07, 0x07, .bits32, .ro, .live, .nobody, 0, [], 1⟩, -- flags
    ⟨0x2840, 64, 0x08, 0x08, .u32, .ro, .live, .nobody, 0, [], 1⟩, -- epoch
    ⟨0x2840, 64, 0x09, 0x09, .u64, .ro, .live, .nobody, 0, [], 1⟩, -- bytes
    ⟨0x2840, 64, 0x0A, 0x0A, (.octets 32), .ro, .live, .nobody, 0, [], 1⟩, -- geometry
    ⟨0x2840, 64, 0x0B, 0x0B, .cmd, .cmd, .live, .operator, 0, [], 1⟩, -- release
    ⟨0x2880, 128, 0x00, 0x00, .u8, .ro, .live, .nobody, 66, [], 1⟩, -- count
    ⟨0x2880, 128, 0x01, 0x01, .u64, .rws, .sample, .operator, 0, [], 1⟩, -- sc_ref
    ⟨0x2880, 128, 0x02, 0x02, .u64, .rws, .sample, .operator, 0, [], 1⟩, -- input_mask
    ⟨0x2880, 128, 0x03, 0x42, .u16, .rws, .sample, .operator, 65535, [], 1⟩ ] -- pmax

/-- The rows of indices 2900h to 29FFh. -/
def dictRows29 : List Row :=
  [ -- R114
    ⟨0x2900, 128, 0x00, 0x00, .u8, .ro, .live, .nobody, 64, [], 1⟩, -- count
    ⟨0x2900, 128, 0x01, 0x40, .u16, .rws, .sample, .operator, 0, [], 1⟩, -- delay
    ⟨0x2980, 128, 0x00, 0x00, .u8, .ro, .live, .nobody, 64, [], 1⟩, -- count
    ⟨0x2980, 128, 0x01, 0x40, .u32, .rws, .sample, .operator, 268435456, [], 1⟩ ] -- gain

/-- The rows of indices 2A00h to 2AFFh. -/
def dictRows2A : List Row :=
  [ -- R114
    ⟨0x2A00, 128, 0x00, 0x00, .u8, .ro, .live, .nobody, 128, [], 1⟩, -- count
    ⟨0x2A00, 128, 0x01, 0x40, .u32, .rws, .sample, .operator, 0, [], 1⟩, -- phi0
    ⟨0x2A00, 128, 0x41, 0x80, .u32, .rws, .sample, .operator, 0, [], 1⟩, -- phic
    ⟨0x2A80, 128, 0x00, 0x00, .u8, .ro, .live, .nobody, 128, [], 1⟩, -- count
    ⟨0x2A80, 128, 0x01, 0x40, .i32, .rws, .sample, .operator, 0, [], 1⟩, -- rho
    ⟨0x2A80, 128, 0x41, 0x80, .i32, .rws, .sample, .operator, 0, [], 1⟩ ] -- rhoc

/-- The rows of indices 2B00h to 2BFFh. -/
def dictRows2B : List Row :=
  [ -- R114
    ⟨0x2B00, 128, 0x00, 0x00, .u8, .ro, .live, .nobody, 66, [], 1⟩, -- count
    ⟨0x2B00, 128, 0x01, 0x40, .u64, .ro, .live, .nobody, 0, [], 1⟩, -- flagged
    ⟨0x2B00, 128, 0x41, 0x41, .u64, .ro, .live, .nobody, 0, [], 1⟩, -- missing
    ⟨0x2B00, 128, 0x42, 0x42, .u64, .ro, .live, .nobody, 0, [], 1⟩ ] -- saturated

/-- The rows of indices 3000h to 30FFh. -/
def dictRows30 : List Row :=
  [ -- R152
    ⟨0x3000, 1, 0x00, 0x00, .u8, .ro, .live, .nobody, 10, [], 1⟩, -- count
    ⟨0x3000, 1, 0x01, 0x01, .u16, .ro, .live, .nobody, 0, [], 1⟩, -- bins
    ⟨0x3000, 1, 0x02, 0x02, .u16, .ro, .live, .nobody, 0, [], 1⟩, -- logical_tiles
    ⟨0x3000, 1, 0x03, 0x03, .u64, .rwx, .live, .operator, 0, [(0, 18446744073709551615)], 2097152⟩, -- reg_base
    ⟨0x3000, 1, 0x04, 0x04, .u64, .ro, .live, .nobody, 0, [], 1⟩, -- replays
    ⟨0x3000, 1, 0x05, 0x05, .u64, .ro, .live, .nobody, 0, [], 1⟩, -- saturations
    ⟨0x3000, 1, 0x06, 0x06, .u64, .ro, .live, .nobody, 0, [], 1⟩, -- shim_replays
    ⟨0x3000, 1, 0x07, 0x07, .u64, .ro, .live, .nobody, 0, [], 1⟩, -- stale_results
    ⟨0x3000, 1, 0x08, 0x08, .u32, .ro, .live, .nobody, 0, [], 1⟩, -- reseats
    ⟨0x3000, 1, 0x09, 0x09, .u64, .ro, .live, .nobody, 0, [], 1⟩, -- yields
    ⟨0x3000, 1, 0x0A, 0x0A, .u32, .ro, .live, .nobody, 0, [], 1⟩, -- u_offtile
    ⟨0x3010, 4, 0x00, 0x00, .u8, .ro, .live, .nobody, 16, [], 1⟩, -- count
    ⟨0x3010, 4, 0x01, 0x01, .bool, .rw, .live, .operator, 0, [], 1⟩, -- enable
    ⟨0x3010, 4, 0x02, 0x02, .enum8, .ro, .live, .nobody, 0, [], 1⟩, -- status
    ⟨0x3010, 4, 0x03, 0x03, .enum8, .ro, .live, .nobody, 0, [], 1⟩, -- run_state
    ⟨0x3010, 4, 0x04, 0x04, .u16, .ro, .live, .nobody, 0, [], 1⟩, -- pc
    ⟨0x3010, 4, 0x05, 0x05, .enum8, .ro, .live, .nobody, 0, [], 1⟩, -- error
    ⟨0x3010, 4, 0x06, 0x06, .u16, .ro, .live, .nobody, 0, [], 1⟩, -- error_entry
    ⟨0x3010, 4, 0x07, 0x07, .u64, .ro, .live, .nobody, 0, [], 1⟩, -- issued
    ⟨0x3010, 4, 0x08, 0x08, .u64, .ro, .live, .nobody, 0, [], 1⟩ ] -- completed
  ++ [ -- R152
    ⟨0x3010, 4, 0x09, 0x09, .u16, .ro, .live, .nobody, 0, [], 1⟩, -- outstanding
    ⟨0x3010, 4, 0x0A, 0x0A, .u64, .ro, .live, .nobody, 0, [], 1⟩, -- port_stall
    ⟨0x3010, 4, 0x0B, 0x0B, .u64, .ro, .live, .nobody, 0, [], 1⟩, -- shortfall
    ⟨0x3010, 4, 0x0C, 0x0C, .u64, .ro, .live, .nobody, 0, [], 1⟩, -- jig_replays
    ⟨0x3010, 4, 0x0D, 0x0D, .u16, .ro, .live, .nobody, 0, [], 1⟩, -- cur_channel
    ⟨0x3010, 4, 0x0E, 0x0E, .u32, .ro, .live, .nobody, 0, [], 1⟩, -- cur_step
    ⟨0x3010, 4, 0x0F, 0x0F, .u8, .ro, .live, .nobody, 0, [], 1⟩, -- loop_depth
    ⟨0x3010, 4, 0x10, 0x10, .cmd, .cmd, .live, .operator, 0, [], 1⟩, -- restart
    ⟨0x3020, 4, 0x00, 0x00, .u8, .ro, .live, .nobody, 1, [], 1⟩, -- count
    ⟨0x3020, 4, 0x01, 0x01, (.domain 65536), .rws, .own, .operator, 0, [], 1⟩ ] -- cut_list

/-- The rows of indices 3400h to 34FFh. -/
def dictRows34 : List Row :=
  [ -- R182, R183
    ⟨0x3400, 1, 0x00, 0x00, .u8, .ro, .live, .nobody, 16, [], 1⟩, -- count
    ⟨0x3400, 1, 0x01, 0x01, .u16, .rwx, .live, .operator, 0, [], 1⟩, -- split_base
    ⟨0x3400, 1, 0x02, 0x02, .u16, .rwx, .live, .operator, 0, [(0, 8256)], 1⟩, -- pivot
    ⟨0x3400, 1, 0x03, 0x03, .u64, .rwx, .live, .operator, 0, [(0, 18446744073709551615)], 1048576⟩, -- spill_base
    ⟨0x3400, 1, 0x04, 0x04, .u64, .rwx, .live, .operator, 0, [(0, 18446744073709551615)], 1048576⟩, -- dump_base
    ⟨0x3400, 1, 0x05, 0x05, .u32, .rwx, .live, .operator, 0, [], 1⟩, -- dump_slots
    ⟨0x3400, 1, 0x06, 0x06, .u64, .ro, .live, .nobody, 0, [], 1⟩, -- folds
    ⟨0x3400, 1, 0x07, 0x07, .u64, .ro, .live, .nobody, 0, [], 1⟩, -- renorms
    ⟨0x3400, 1, 0x08, 0x08, .u64, .ro, .live, .nobody, 0, [], 1⟩, -- sat_passes
    ⟨0x3400, 1, 0x09, 0x09, .u64, .ro, .live, .nobody, 0, [], 1⟩, -- spills
    ⟨0x3400, 1, 0x0A, 0x0A, .u64, .ro, .live, .nobody, 0, [], 1⟩, -- bin_clamps
    ⟨0x3400, 1, 0x0B, 0x0B, .u32, .ro, .live, .nobody, 0, [], 1⟩, -- split_misuse
    ⟨0x3400, 1, 0x0C, 0x0C, .u64, .ro, .live, .nobody, 0, [], 1⟩, -- spill_wait
    ⟨0x3400, 1, 0x0D, 0x0D, .u64, .ro, .live, .nobody, 0, [], 1⟩, -- dump_dropped
    ⟨0x3400, 1, 0x0E, 0x0E, .u64, .ro, .live, .nobody, 0, [], 1⟩, -- dump_stall
    ⟨0x3400, 1, 0x0F, 0x0F, .u64, .ro, .live, .nobody, 0, [], 1⟩, -- records
    ⟨0x3400, 1, 0x10, 0x10, .u32, .ro, .live, .nobody, 0, [], 1⟩, -- mixed
    ⟨0x3401, 1, 0x00, 0x00, .u8, .ro, .live, .nobody, 7, [], 1⟩, -- count
    ⟨0x3401, 1, 0x01, 0x07, .u64, .ro, .live, .nobody, 0, [], 1⟩, -- k_passes
    ⟨0x3402, 1, 0x00, 0x00, .u8, .ro, .live, .nobody, 3, [], 1⟩ ] -- count
  ++ [ -- R183
    ⟨0x3402, 1, 0x01, 0x01, .u16, .rw, .live, .operator, 0, [], 1⟩, -- bin
    ⟨0x3402, 1, 0x02, 0x02, .u8, .rw, .live, .operator, 0, [(0, 1)], 1⟩, -- half
    ⟨0x3402, 1, 0x03, 0x03, (.octets 64), .ro, .live, .nobody, 0, [], 1⟩ ] -- tag

/-- The rows of indices 3600h to 36FFh. -/
def dictRows36 : List Row :=
  [ -- R210
    ⟨0x3600, 1, 0x00, 0x00, .u8, .ro, .live, .nobody, 5, [], 1⟩, -- count
    ⟨0x3600, 1, 0x01, 0x01, (.octets 32), .rw, .live, .operator, 0, [], 1⟩, -- tri_streams
    ⟨0x3600, 1, 0x02, 0x02, .u64, .ro, .live, .nobody, 0, [], 1⟩, -- records_sent
    ⟨0x3600, 1, 0x03, 0x03, .u64, .ro, .live, .nobody, 0, [], 1⟩, -- fragments_sent
    ⟨0x3600, 1, 0x04, 0x04, .u64, .ro, .live, .nobody, 0, [], 1⟩, -- tri_records
    ⟨0x3600, 1, 0x05, 0x05, .u64, .ro, .live, .nobody, 0, [], 1⟩ ] -- comp_records

/-- The rows of indices 3800h to 38FFh. -/
def dictRows38 : List Row :=
  [ -- R211
    ⟨0x3800, 1, 0x00, 0x00, .u8, .ro, .live, .nobody, 10, [], 1⟩, -- count
    ⟨0x3800, 1, 0x01, 0x01, .bool, .rw, .live, .operator, 0, [], 1⟩, -- enable
    ⟨0x3800, 1, 0x02, 0x02, .enum8, .ro, .live, .nobody, 0, [], 1⟩, -- status
    ⟨0x3800, 1, 0x03, 0x03, .u64, .rwx, .live, .operator, 0, [(0, 18446744073709551615)], 1048576⟩, -- weight_base
    ⟨0x3800, 1, 0x04, 0x04, .u64, .ro, .live, .nobody, 0, [], 1⟩, -- v_records
    ⟨0x3800, 1, 0x05, 0x05, .u64, .ro, .live, .nobody, 0, [], 1⟩, -- p_records
    ⟨0x3800, 1, 0x06, 0x06, .u64, .ro, .live, .nobody, 0, [], 1⟩, -- v_clamps
    ⟨0x3800, 1, 0x07, 0x07, .u32, .ro, .live, .nobody, 0, [], 1⟩, -- partial
    ⟨0x3800, 1, 0x08, 0x08, .u32, .ro, .live, .nobody, 0, [], 1⟩, -- discarded
    ⟨0x3800, 1, 0x09, 0x09, .u64, .ro, .live, .nobody, 0, [], 1⟩, -- weight_loads
    ⟨0x3800, 1, 0x0A, 0x0A, .u64, .ro, .live, .nobody, 0, [], 1⟩, -- weight_wait
    ⟨0x3810, 16, 0x00, 0x00, .u8, .ro, .live, .nobody, 10, [], 1⟩, -- count
    ⟨0x3810, 16, 0x01, 0x01, .enum8, .rws, .subint, .operator, 0, [(0, 3)], 1⟩, -- mode
    ⟨0x3810, 16, 0x02, 0x02, .u8, .rws, .subint, .operator, 255, [], 1⟩, -- stream
    ⟨0x3810, 16, 0x03, 0x03, .u8, .ro, .live, .nobody, 0, [], 1⟩, -- reserved
    ⟨0x3810, 16, 0x04, 0x04, (.octets 32), .rwx, .live, .operator, 0, [], 1⟩, -- tiles
    ⟨0x3810, 16, 0x05, 0x05, .u8, .rwx, .live, .operator, 0, [(0, 63)], 1⟩, -- slot_base
    ⟨0x3810, 16, 0x06, 0x06, .u8, .rws, .subint, .operator, 0, [(0, 62)], 1⟩, -- sigma
    ⟨0x3810, 16, 0x07, 0x07, .u8, .rws, .subint, .operator, 0, [(0, 127)], 1⟩, -- rho
    ⟨0x3810, 16, 0x08, 0x08, .u16, .rws, .subint, .operator, 0, [], 1⟩ ] -- c_lo
  ++ [ -- R211
    ⟨0x3810, 16, 0x09, 0x09, .u16, .rws, .subint, .operator, 0, [(0, 4095)], 1⟩, -- c_hi
    ⟨0x3810, 16, 0x0A, 0x0A, .u64, .ro, .live, .nobody, 0, [], 1⟩, -- records
    ⟨0x3880, 16, 0x00, 0x00, .u8, .ro, .live, .nobody, 1, [], 1⟩, -- count
    ⟨0x3880, 16, 0x01, 0x01, (.domain 524288), .rws, .subint, .operator, 0, [], 1⟩ ] -- weights

/-- The rows of indices 3900h to 39FFh. -/
def dictRows39 : List Row :=
  [ -- R212
    ⟨0x3900, 64, 0x00, 0x00, .u8, .ro, .live, .nobody, 13, [], 1⟩, -- count
    ⟨0x3900, 64, 0x01, 0x01, .bool, .rw, .live, .operator, 0, [], 1⟩, -- enable
    ⟨0x3900, 64, 0x02, 0x02, .enum8, .ro, .live, .nobody, 0, [], 1⟩, -- status
    ⟨0x3900, 64, 0x03, 0x03, .u8, .rwx, .live, .operator, 0, [(0, 15)], 1⟩, -- group
    ⟨0x3900, 64, 0x04, 0x04, .u8, .rwx, .live, .operator, 0, [(0, 63)], 1⟩, -- beam
    ⟨0x3900, 64, 0x05, 0x05, .u8, .rwx, .live, .operator, 0, [(0, 63)], 1⟩, -- winnow
    ⟨0x3900, 64, 0x06, 0x06, .u32, .rw, .live, .operator, 4294967295, [], 1⟩, -- threshold
    ⟨0x3900, 64, 0x07, 0x07, .u32, .rw, .live, .operator, 0, [], 1⟩, -- hysteresis
    ⟨0x3900, 64, 0x08, 0x08, .u32, .rw, .live, .operator, 0, [], 1⟩, -- holdoff
    ⟨0x3900, 64, 0x09, 0x09, .u8, .rw, .live, .operator, 255, [], 1⟩, -- trig_stream
    ⟨0x3900, 64, 0x0A, 0x0A, .enum8, .ro, .live, .nobody, 0, [], 1⟩, -- state
    ⟨0x3900, 64, 0x0B, 0x0B, .u32, .ro, .live, .nobody, 0, [], 1⟩, -- crossings
    ⟨0x3900, 64, 0x0C, 0x0C, .u32, .ro, .live, .nobody, 0, [], 1⟩, -- last_value
    ⟨0x3900, 64, 0x0D, 0x0D, .u32, .ro, .live, .nobody, 0, [], 1⟩ ] -- ignored

/-- The rows of indices 4000h to 40FFh. -/
def dictRows40 : List Row :=
  [ -- R241
    ⟨0x4000, 1, 0x00, 0x00, .u8, .ro, .live, .nobody, 16, [], 1⟩, -- count
    ⟨0x4000, 1, 0x01, 0x01, .bool, .rw, .live, .operator, 0, [], 1⟩, -- enable
    ⟨0x4000, 1, 0x02, 0x02, .enum8, .ro, .live, .nobody, 0, [], 1⟩, -- status
    ⟨0x4000, 1, 0x03, 0x03, .u32, .rwx, .live, .operator, 4096, [(16, 65536)], 1⟩, -- frame_lines
    ⟨0x4000, 1, 0x04, 0x04, .u8, .rwx, .live, .operator, 4, [(1, 16)], 1⟩, -- close_lines
    ⟨0x4000, 1, 0x05, 0x05, .u32, .rwx, .live, .operator, 256, [(1, 16777216)], 1⟩, -- match_window
    ⟨0x4000, 1, 0x06, 0x06, .enum8, .rwx, .live, .operator, 0, [(0, 1)], 1⟩, -- fill
    ⟨0x4000, 1, 0x07, 0x07, .u32, .ro, .live, .nobody, 0, [], 1⟩, -- settings_gen
    ⟨0x4000, 1, 0x08, 0x08, .u64, .ro, .live, .nobody, 0, [], 1⟩, -- line_index
    ⟨0x4000, 1, 0x09, 0x09, .u32, .ro, .live, .nobody, 0, [], 1⟩, -- frame
    ⟨0x4000, 1, 0x0A, 0x0A, .u16, .ro, .live, .nobody, 0, [], 1⟩, -- run
    ⟨0x4000, 1, 0x0B, 0x0B, .u8, .rws, .frame, .operator, 255, [], 1⟩, -- stats_stream
    ⟨0x4000, 1, 0x0C, 0x0C, .u64, .rwx, .live, .operator, 0, [(0, 18446744073709551615)], 1048576⟩, -- stats_base
    ⟨0x4000, 1, 0x0D, 0x0D, .u64, .rwx, .live, .operator, 0, [(0, 18446744073709551615)], 1048576⟩, -- fs_base
    ⟨0x4000, 1, 0x0E, 0x0E, .u8, .rwx, .live, .operator, 0, [(0, 64)], 1⟩, -- fs_slots
    ⟨0x4000, 1, 0x0F, 0x0F, .enum8, .rws, .frame, .operator, 0, [], 1⟩, -- fs_format
    ⟨0x4000, 1, 0x10, 0x10, .bool, .rwx, .live, .operator, 0, [], 1⟩, -- stats_ring
    ⟨0x4001, 1, 0x00, 0x00, .u8, .ro, .live, .nobody, 12, [], 1⟩, -- count
    ⟨0x4001, 1, 0x01, 0x01, .u32, .ro, .live, .nobody, 0, [], 1⟩, -- unmatched
    ⟨0x4001, 1, 0x02, 0x02, .u32, .ro, .live, .nobody, 0, [], 1⟩ ] -- format_err
  ++ [ -- R241, R242
    ⟨0x4001, 1, 0x03, 0x03, .u32, .ro, .live, .nobody, 0, [], 1⟩, -- late
    ⟨0x4001, 1, 0x04, 0x04, .u32, .ro, .live, .nobody, 0, [], 1⟩, -- duplicate
    ⟨0x4001, 1, 0x05, 0x05, .u32, .ro, .live, .nobody, 0, [], 1⟩, -- missing
    ⟨0x4001, 1, 0x06, 0x06, .u32, .ro, .live, .nobody, 0, [], 1⟩, -- partial
    ⟨0x4001, 1, 0x07, 0x07, .u32, .ro, .live, .nobody, 0, [], 1⟩, -- gen_mismatch
    ⟨0x4001, 1, 0x08, 0x08, .u32, .ro, .live, .nobody, 0, [], 1⟩, -- overrun
    ⟨0x4001, 1, 0x09, 0x09, .u32, .ro, .live, .nobody, 0, [], 1⟩, -- fs_dropped
    ⟨0x4001, 1, 0x0A, 0x0A, .u32, .ro, .live, .nobody, 0, [], 1⟩, -- stats_dropped
    ⟨0x4001, 1, 0x0B, 0x0B, .u32, .ro, .live, .nobody, 0, [], 1⟩, -- cam_set_lost
    ⟨0x4001, 1, 0x0C, 0x0C, .u32, .ro, .live, .nobody, 0, [], 1⟩, -- line_jump
    ⟨0x4010, 16, 0x00, 0x00, .u8, .ro, .live, .nobody, 15, [], 1⟩, -- count
    ⟨0x4010, 16, 0x01, 0x01, .bool, .rw, .live, .operator, 0, [], 1⟩, -- enable
    ⟨0x4010, 16, 0x02, 0x02, .enum8, .ro, .live, .nobody, 0, [], 1⟩, -- status
    ⟨0x4010, 16, 0x03, 0x03, .enum8, .rwx, .live, .operator, 0, [(0, 1)], 1⟩, -- type
    ⟨0x4010, 16, 0x04, 0x04, .u16, .rwx, .live, .operator, 4096, [(64, 32768)], 64⟩, -- width
    ⟨0x4010, 16, 0x05, 0x05, .enum8, .rwx, .live, .operator, 2, [(0, 3)], 1⟩, -- bpp
    ⟨0x4010, 16, 0x06, 0x06, .u8, .rwx, .live, .operator, 0, [(0, 31)], 1⟩, -- group
    ⟨0x4010, 16, 0x07, 0x07, .u8, .rwx, .live, .operator, 0, [(0, 15)], 1⟩, -- ltrig
    ⟨0x4010, 16, 0x08, 0x08, .i8, .rwx, .live, .operator, 1, [(-4, 4)], 1⟩, -- row_delay
    ⟨0x4010, 16, 0x09, 0x09, .u16, .rws, .frame, .operator, 0, [], 1⟩ ] -- stats_x_lo
  ++ [ -- R242
    ⟨0x4010, 16, 0x0A, 0x0A, .u16, .rws, .frame, .operator, 32767, [], 1⟩, -- stats_x_hi
    ⟨0x4010, 16, 0x0B, 0x0B, .u64, .ro, .live, .nobody, 0, [], 1⟩, -- lines
    ⟨0x4010, 16, 0x0C, 0x0C, .u32, .ro, .live, .nobody, 0, [], 1⟩, -- bridge_offset
    ⟨0x4010, 16, 0x0D, 0x0D, .bool, .ro, .live, .nobody, 0, [], 1⟩, -- offset_valid
    ⟨0x4010, 16, 0x0E, 0x0E, .u64, .ro, .live, .nobody, 0, [], 1⟩, -- replaced
    ⟨0x4010, 16, 0x0F, 0x0F, .u8, .ro, .live, .nobody, 0, [], 1⟩, -- last_gen
    ⟨0x4030, 16, 0x00, 0x00, .u8, .ro, .live, .nobody, 32, [], 1⟩, -- count
    ⟨0x4030, 16, 0x01, 0x01, .u32, .rws, .own, .operator, 10000, [], 1⟩, -- exposure
    ⟨0x4030, 16, 0x02, 0x02, .u32, .rws, .own, .operator, 256, [], 1⟩, -- analog_gain
    ⟨0x4030, 16, 0x03, 0x03, .u32, .rws, .own, .operator, 0, [], 1⟩, -- black_level
    ⟨0x4030, 16, 0x04, 0x04, .u32, .rws, .own, .operator, 0, [], 1⟩, -- test_pattern
    ⟨0x4030, 16, 0x05, 0x20, .u64, .rws, .own, .operator, 0, [], 1⟩, -- opaque
    ⟨0x4050, 16, 0x00, 0x00, .u8, .ro, .live, .nobody, 2, [], 1⟩, -- count
    ⟨0x4050, 16, 0x01, 0x01, (.domain 131072), .rws, .frame, .operator, 0, [], 1⟩, -- ff_row0
    ⟨0x4050, 16, 0x02, 0x02, (.domain 131072), .rws, .frame, .operator, 0, [], 1⟩, -- ff_row1
    ⟨0x4070, 16, 0x00, 0x00, .u8, .ro, .live, .nobody, 2, [], 1⟩, -- count
    ⟨0x4070, 16, 0x01, 0x01, (.domain 4096), .rws, .frame, .operator, 0, [], 1⟩, -- defects_row0
    ⟨0x4070, 16, 0x02, 0x02, (.domain 4096), .rws, .frame, .operator, 0, [], 1⟩, -- defects_row1
    ⟨0x4090, 16, 0x00, 0x00, .u8, .ro, .live, .nobody, 1, [], 1⟩, -- count
    ⟨0x4090, 16, 0x01, 0x01, (.octets 1144), .ro, .live, .nobody, 0, [], 1⟩ ] -- last_stats
  ++ [ -- R243
    ⟨0x40C0, 64, 0x00, 0x00, .u8, .ro, .live, .nobody, 6, [], 1⟩, -- count
    ⟨0x40C0, 64, 0x01, 0x01, .enum8, .ro, .live, .nobody, 0, [], 1⟩, -- state
    ⟨0x40C0, 64, 0x02, 0x02, .u32, .ro, .live, .nobody, 0, [], 1⟩, -- frame
    ⟨0x40C0, 64, 0x03, 0x03, .u64, .ro, .live, .nobody, 0, [], 1⟩, -- first_sc
    ⟨0x40C0, 64, 0x04, 0x04, .cmd, .cmd, .live, .operator, 0, [], 1⟩, -- hold
    ⟨0x40C0, 64, 0x05, 0x05, .cmd, .cmd, .live, .operator, 0, [], 1⟩, -- release
    ⟨0x40C0, 64, 0x06, 0x06, .u32, .ro, .live, .nobody, 0, [], 1⟩ ] -- lines_written

/-- The rows of indices 4400h to 44FFh. -/
def dictRows44 : List Row :=
  [ -- R272
    ⟨0x4400, 1, 0x00, 0x00, .u8, .ro, .live, .nobody, 24, [], 1⟩, -- count
    ⟨0x4400, 1, 0x01, 0x01, .bool, .rw, .live, .operator, 0, [], 1⟩, -- enable
    ⟨0x4400, 1, 0x02, 0x02, .enum8, .ro, .live, .nobody, 0, [], 1⟩, -- status
    ⟨0x4400, 1, 0x03, 0x03, .u32, .ro, .live, .nobody, 0, [], 1⟩, -- width
    ⟨0x4400, 1, 0x04, 0x04, .u32, .rwx, .live, .operator, 524288, [(64, 524288)], 64⟩, -- max_width
    ⟨0x4400, 1, 0x05, 0x05, .u8, .ro, .live, .nobody, 1, [], 1⟩, -- planes
    ⟨0x4400, 1, 0x06, 0x06, .u64, .rwx, .live, .operator, 0, [(0, 18446744073709551615)], 1048576⟩, -- fifo_base
    ⟨0x4400, 1, 0x07, 0x07, .u8, .rwx, .live, .operator, 255, [], 1⟩, -- reg_stream
    ⟨0x4400, 1, 0x08, 0x08, .enum8, .rwx, .live, .operator, 2, [(0, 2)], 1⟩, -- reg_slen
    ⟨0x4400, 1, 0x09, 0x09, .u32, .rws, .frame, .operator, 0, [], 1⟩, -- reg_line
    ⟨0x4400, 1, 0x0A, 0x0A, .u8, .rws, .frame, .operator, 4, [(0, 15)], 1⟩, -- reg_q
    ⟨0x4400, 1, 0x0B, 0x0B, .u64, .rwx, .live, .operator, 0, [(0, 18446744073709551615)], 1048576⟩, -- result_base
    ⟨0x4400, 1, 0x0C, 0x0C, .u64, .rwx, .live, .operator, 0, [(0, 18446744073709551615)], 256⟩, -- shift_base
    ⟨0x4400, 1, 0x0D, 0x0D, .u32, .rw, .live, .operator, 1000, [], 1⟩, -- q_min
    ⟨0x4400, 1, 0x0E, 0x0E, .u8, .rw, .live, .operator, 24, [], 1⟩, -- ratio
    ⟨0x4400, 1, 0x0F, 0x0F, .u16, .rw, .live, .operator, 640, [], 1⟩, -- max_step
    ⟨0x4400, 1, 0x10, 0x10, .u8, .rw, .live, .operator, 4, [], 1⟩, -- max_line_step
    ⟨0x4400, 1, 0x11, 0x11, .u64, .ro, .live, .nobody, 0, [], 1⟩, -- lines_out
    ⟨0x4400, 1, 0x12, 0x12, .u64, .ro, .live, .nobody, 0, [], 1⟩, -- rounds
    ⟨0x4400, 1, 0x13, 0x13, .u32, .ro, .live, .nobody, 0, [], 1⟩ ] -- skipped
  ++ [ -- R272, R273, R274
    ⟨0x4400, 1, 0x14, 0x14, .u32, .ro, .live, .nobody, 0, [], 1⟩, -- late
    ⟨0x4400, 1, 0x15, 0x15, .u32, .ro, .live, .nobody, 0, [], 1⟩, -- stray
    ⟨0x4400, 1, 0x16, 0x16, .u32, .ro, .live, .nobody, 0, [], 1⟩, -- line_skips
    ⟨0x4400, 1, 0x17, 0x17, .u32, .ro, .live, .nobody, 0, [], 1⟩, -- line_repeats
    ⟨0x4400, 1, 0x18, 0x18, .u32, .ro, .live, .nobody, 0, [], 1⟩, -- clamps
    ⟨0x4410, 16, 0x00, 0x00, .u8, .ro, .live, .nobody, 11, [], 1⟩, -- count
    ⟨0x4410, 16, 0x01, 0x01, .u8, .rwx, .live, .operator, 255, [(0, 15), (255, 255)], 1⟩, -- camera
    ⟨0x4410, 16, 0x02, 0x02, .u32, .rwx, .live, .operator, 0, [], 1⟩, -- x0
    ⟨0x4410, 16, 0x03, 0x03, .u32, .rwx, .live, .operator, 0, [], 1⟩, -- x1
    ⟨0x4410, 16, 0x04, 0x04, .i32, .rwx, .live, .operator, 0, [], 1⟩, -- nom_pos
    ⟨0x4410, 16, 0x05, 0x05, .u8, .rwx, .live, .operator, 16, [], 1⟩, -- nom_line
    ⟨0x4410, 16, 0x06, 0x06, .i32, .ro, .live, .nobody, 0, [], 1⟩, -- corr_pos
    ⟨0x4410, 16, 0x07, 0x07, .i16, .ro, .live, .nobody, 0, [], 1⟩, -- corr_line
    ⟨0x4410, 16, 0x08, 0x08, .i32, .ro, .live, .nobody, 0, [], 1⟩, -- pos
    ⟨0x4410, 16, 0x09, 0x09, .u8, .ro, .live, .nobody, 0, [], 1⟩, -- line_adv
    ⟨0x4410, 16, 0x0A, 0x0A, .u32, .ro, .live, .nobody, 0, [], 1⟩, -- no_peak
    ⟨0x4410, 16, 0x0B, 0x0B, .cmd, .cmd, .live, .operator, 0, [], 1⟩, -- clear_corr
    ⟨0x4440, 1, 0x00, 0x00, .u8, .ro, .live, .nobody, 1, [], 1⟩, -- count
    ⟨0x4440, 1, 0x01, 0x01, (.domain 2048), .rwx, .live, .operator, 0, [], 1⟩, -- taps
    ⟨0x4480, 1, 0x00, 0x00, .u8, .ro, .live, .nobody, 21, [], 1⟩ ] -- count
  ++ [ -- R274
    ⟨0x4480, 1, 0x01, 0x01, .bool, .rw, .live, .operator, 0, [], 1⟩, -- enable
    ⟨0x4480, 1, 0x02, 0x02, .enum8, .ro, .live, .nobody, 0, [], 1⟩, -- status
    ⟨0x4480, 1, 0x03, 0x03, .enum8, .rws, .frame, .operator, 1, [(0, 1)], 1⟩, -- ref_mode
    ⟨0x4480, 1, 0x04, 0x04, .u8, .rws, .frame, .operator, 6, [(1, 15)], 1⟩, -- alpha
    ⟨0x4480, 1, 0x05, 0x05, .enum8, .rws, .frame, .operator, 2, [], 1⟩, -- polarity
    ⟨0x4480, 1, 0x06, 0x06, .u16, .rws, .frame, .operator, 65535, [], 1⟩, -- t_hi
    ⟨0x4480, 1, 0x07, 0x07, .u16, .rws, .frame, .operator, 65535, [], 1⟩, -- t_lo
    ⟨0x4480, 1, 0x08, 0x08, .u32, .rws, .frame, .operator, 1, [], 1⟩, -- min_area
    ⟨0x4480, 1, 0x09, 0x09, .u32, .rws, .frame, .operator, 65536, [(1, 65536)], 1⟩, -- max_lines
    ⟨0x4480, 1, 0x0A, 0x0A, .u32, .rws, .frame, .operator, 0, [], 1⟩, -- x_lo
    ⟨0x4480, 1, 0x0B, 0x0B, .u32, .rws, .frame, .operator, 524287, [], 1⟩, -- x_hi
    ⟨0x4480, 1, 0x0C, 0x0C, .u8, .rws, .frame, .operator, 255, [], 1⟩, -- rec_stream
    ⟨0x4480, 1, 0x0D, 0x0D, .u64, .rwx, .live, .operator, 0, [(0, 18446744073709551615)], 1048576⟩, -- rec_base
    ⟨0x4480, 1, 0x0E, 0x0E, .u32, .rwx, .live, .operator, 0, [], 1⟩, -- rec_slots
    ⟨0x4480, 1, 0x0F, 0x0F, .u64, .ro, .live, .nobody, 0, [], 1⟩, -- records
    ⟨0x4480, 1, 0x10, 0x10, .u64, .ro, .live, .nobody, 0, [], 1⟩, -- small
    ⟨0x4480, 1, 0x11, 0x11, .u64, .ro, .live, .nobody, 0, [], 1⟩, -- weak
    ⟨0x4480, 1, 0x12, 0x12, .u32, .ro, .live, .nobody, 0, [], 1⟩, -- frame_full
    ⟨0x4480, 1, 0x13, 0x13, .u32, .ro, .live, .nobody, 0, [], 1⟩, -- label_full
    ⟨0x4480, 1, 0x14, 0x14, .u16, .ro, .live, .nobody, 0, [], 1⟩ ] -- open
  ++ [ -- R274, R275
    ⟨0x4480, 1, 0x15, 0x15, .u32, .ro, .live, .nobody, 0, [], 1⟩, -- next_record
    ⟨0x4481, 1, 0x00, 0x00, .u8, .ro, .live, .nobody, 1, [], 1⟩, -- count
    ⟨0x4481, 1, 0x01, 0x01, (.domain 1048576), .rws, .frame, .operator, 0, [], 1⟩, -- ref_table
    ⟨0x4490, 4, 0x00, 0x00, .u8, .ro, .live, .nobody, 9, [], 1⟩, -- count
    ⟨0x4490, 4, 0x01, 0x01, .bool, .rws, .frame, .operator, 0, [], 1⟩, -- active
    ⟨0x4490, 4, 0x02, 0x02, .u8, .rws, .frame, .operator, 0, [(0, 3)], 1⟩, -- axis
    ⟨0x4490, 4, 0x03, 0x03, .i64, .rws, .frame, .operator, 0, [], 1⟩, -- distance
    ⟨0x4490, 4, 0x04, 0x04, .u32, .rws, .frame, .operator, 1, [], 1⟩, -- min_area
    ⟨0x4490, 4, 0x05, 0x05, .u16, .rws, .frame, .operator, 0, [], 1⟩, -- min_dev
    ⟨0x4490, 4, 0x06, 0x06, .u32, .ro, .live, .nobody, 0, [], 1⟩, -- offered
    ⟨0x4490, 4, 0x07, 0x07, .u32, .ro, .live, .nobody, 0, [], 1⟩, -- placed
    ⟨0x4490, 4, 0x08, 0x08, .u32, .ro, .live, .nobody, 0, [], 1⟩, -- unmarked
    ⟨0x4490, 4, 0x09, 0x09, .u32, .ro, .live, .nobody, 0, [], 1⟩ ] -- over_burst

/-- The rows of indices 4800h to 48FFh. -/
def dictRows48 : List Row :=
  [ -- R331
    ⟨0x4800, 1, 0x00, 0x00, .u8, .ro, .live, .nobody, 5, [], 1⟩, -- count
    ⟨0x4800, 1, 0x01, 0x01, .bool, .rw, .live, .operator, 0, [], 1⟩, -- enable
    ⟨0x4800, 1, 0x02, 0x02, .enum8, .ro, .live, .nobody, 0, [], 1⟩, -- status
    ⟨0x4800, 1, 0x03, 0x03, .u64, .ro, .live, .nobody, 0, [], 1⟩, -- rounds
    ⟨0x4800, 1, 0x04, 0x04, .u32, .ro, .live, .nobody, 0, [], 1⟩, -- discarded
    ⟨0x4800, 1, 0x05, 0x05, .u32, .ro, .live, .nobody, 0, [], 1⟩, -- buffer_used
    ⟨0x4801, 1, 0x00, 0x00, .u8, .ro, .live, .nobody, 18, [], 1⟩, -- count
    ⟨0x4801, 1, 0x01, 0x01, .i32, .rwx, .live, .operator, 2632262, [], 1⟩, -- c23
    ⟨0x4801, 1, 0x02, 0x02, .i32, .rwx, .live, .operator, 4294215173, [], 1⟩, -- c23
    ⟨0x4801, 1, 0x03, 0x03, .i32, .rwx, .live, .operator, 324723, [], 1⟩, -- c23
    ⟨0x4801, 1, 0x04, 0x04, .i32, .rwx, .live, .operator, 4294833582, [], 1⟩, -- c23
    ⟨0x4801, 1, 0x05, 0x05, .i32, .rwx, .live, .operator, 45550, [], 1⟩, -- c23
    ⟨0x4801, 1, 0x06, 0x06, .i32, .rwx, .live, .operator, 4294947750, [], 1⟩, -- c23
    ⟨0x4801, 1, 0x07, 0x07, .i32, .rwx, .live, .operator, 2664369, [], 1⟩, -- c47
    ⟨0x4801, 1, 0x08, 0x08, .i32, .rwx, .live, .operator, 4294109321, [], 1⟩, -- c47
    ⟨0x4801, 1, 0x09, 0x09, .i32, .rwx, .live, .operator, 479951, [], 1⟩, -- c47
    ⟨0x4801, 1, 0x0A, 0x0A, .i32, .rwx, .live, .operator, 4294659473, [], 1⟩, -- c47
    ⟨0x4801, 1, 0x0B, 0x0B, .i32, .rwx, .live, .operator, 206350, [], 1⟩, -- c47
    ⟨0x4801, 1, 0x0C, 0x0C, .i32, .rwx, .live, .operator, 4294828306, [], 1⟩, -- c47
    ⟨0x4801, 1, 0x0D, 0x0D, .i32, .rwx, .live, .operator, 91881, [], 1⟩ ] -- c47
  ++ [ -- R331, R332, R333
    ⟨0x4801, 1, 0x0E, 0x0E, .i32, .rwx, .live, .operator, 4294908712, [], 1⟩, -- c47
    ⟨0x4801, 1, 0x0F, 0x0F, .i32, .rwx, .live, .operator, 35618, [], 1⟩, -- c47
    ⟨0x4801, 1, 0x10, 0x10, .i32, .rwx, .live, .operator, 4294946591, [], 1⟩, -- c47
    ⟨0x4801, 1, 0x11, 0x11, .i32, .rwx, .live, .operator, 12366, [], 1⟩, -- c47
    ⟨0x4801, 1, 0x12, 0x12, .i32, .rwx, .live, .operator, 4294957990, [], 1⟩, -- c47
    ⟨0x4810, 64, 0x00, 0x00, .u8, .ro, .live, .nobody, 8, [], 1⟩, -- count
    ⟨0x4810, 64, 0x01, 0x01, .enum8, .rwx, .live, .operator, 0, [(0, 1)], 1⟩, -- mode
    ⟨0x4810, 64, 0x02, 0x02, .u8, .rwx, .live, .operator, 0, [], 1⟩, -- log2
    ⟨0x4810, 64, 0x03, 0x03, .bits8, .rwx, .live, .operator, 0, [], 1⟩, -- long_taps
    ⟨0x4810, 64, 0x04, 0x04, .u32, .ro, .live, .nobody, 0, [], 1⟩, -- delay_x2
    ⟨0x4810, 64, 0x05, 0x05, .u16, .ro, .live, .nobody, 65535, [], 1⟩, -- user
    ⟨0x4810, 64, 0x06, 0x06, .u64, .ro, .live, .nobody, 0, [], 1⟩, -- outputs
    ⟨0x4810, 64, 0x07, 0x07, .u32, .ro, .live, .nobody, 0, [], 1⟩, -- sat
    ⟨0x4810, 64, 0x08, 0x08, .u32, .ro, .live, .nobody, 0, [], 1⟩, -- overflow
    ⟨0x4880, 8, 0x00, 0x00, .u8, .ro, .live, .nobody, 15, [], 1⟩, -- count
    ⟨0x4880, 8, 0x01, 0x01, .bool, .rw, .live, .operator, 0, [], 1⟩, -- enable
    ⟨0x4880, 8, 0x02, 0x02, .enum8, .ro, .live, .nobody, 0, [], 1⟩, -- status
    ⟨0x4880, 8, 0x03, 0x03, .u8, .rwx, .live, .operator, 0, [], 1⟩, -- first_channel
    ⟨0x4880, 8, 0x04, 0x04, .u8, .rwx, .live, .operator, 1, [(1, 64)], 1⟩, -- span
    ⟨0x4880, 8, 0x05, 0x05, .u32, .rwx, .live, .operator, 0, [], 1⟩ ] -- x_lo
  ++ [ -- R333
    ⟨0x4880, 8, 0x06, 0x06, .u32, .rwx, .live, .operator, 512, [], 1⟩, -- width
    ⟨0x4880, 8, 0x07, 0x07, .enum8, .rwx, .live, .operator, 0, [(0, 1)], 1⟩, -- h_mode
    ⟨0x4880, 8, 0x08, 0x08, .u8, .rwx, .live, .operator, 3, [(0, 8)], 1⟩, -- h_log2
    ⟨0x4880, 8, 0x09, 0x09, .bits8, .rwx, .live, .operator, 0, [], 1⟩, -- h_long
    ⟨0x4880, 8, 0x0A, 0x0A, .u8, .rwx, .live, .operator, 0, [(0, 8)], 1⟩, -- v_log2
    ⟨0x4880, 8, 0x0B, 0x0B, .enum8, .rwx, .live, .operator, 1, [(0, 1)], 1⟩, -- format
    ⟨0x4880, 8, 0x0C, 0x0C, .u8, .rwx, .live, .operator, 255, [], 1⟩, -- stream
    ⟨0x4880, 8, 0x0D, 0x0D, .u64, .ro, .live, .nobody, 0, [], 1⟩, -- groups
    ⟨0x4880, 8, 0x0E, 0x0E, .u32, .ro, .live, .nobody, 0, [], 1⟩ ] -- drops

/-- The rows of indices 5000h to 50FFh. -/
def dictRows50 : List Row :=
  [ -- R311
    ⟨0x5000, 16, 0x00, 0x00, .u8, .ro, .live, .nobody, 20, [], 1⟩, -- count
    ⟨0x5000, 16, 0x01, 0x01, .bool, .rw, .live, .operator, 0, [], 1⟩, -- enable
    ⟨0x5000, 16, 0x02, 0x02, .enum8, .ro, .live, .nobody, 0, [], 1⟩, -- status
    ⟨0x5000, 16, 0x03, 0x03, .enum8, .ro, .live, .nobody, 0, [], 1⟩, -- run_state
    ⟨0x5000, 16, 0x04, 0x04, .u32, .rw, .live, .operator, 4096, [(32, 131072)], 1⟩, -- rep_max
    ⟨0x5000, 16, 0x05, 0x05, .bool, .rwx, .live, .integrator, 0, [], 1⟩, -- secure
    ⟨0x5000, 16, 0x06, 0x06, .enum8, .rw, .live, .operator, 1, [(0, 3)], 1⟩, -- far_class
    ⟨0x5000, 16, 0x07, 0x07, .u16, .ro, .live, .nobody, 0, [], 1⟩, -- pc
    ⟨0x5000, 16, 0x08, 0x08, .u64, .ro, .live, .nobody, 0, [], 1⟩, -- bundles
    ⟨0x5000, 16, 0x09, 0x09, .u64, .ro, .live, .nobody, 0, [], 1⟩, -- stalls
    ⟨0x5000, 16, 0x0A, 0x0A, .u32, .ro, .live, .nobody, 0, [], 1⟩, -- traps
    ⟨0x5000, 16, 0x0B, 0x0B, .u64, .ro, .live, .nobody, 0, [], 1⟩, -- interrupts
    ⟨0x5000, 16, 0x0C, 0x0C, .u16, .ro, .live, .nobody, 0, [], 1⟩, -- last_cause
    ⟨0x5000, 16, 0x0D, 0x0D, .u16, .ro, .live, .nobody, 0, [], 1⟩, -- last_fault_pc
    ⟨0x5000, 16, 0x0E, 0x0E, .u32, .ro, .live, .nobody, 0, [], 1⟩, -- last_fault_addr
    ⟨0x5000, 16, 0x0F, 0x0F, .u32, .ro, .live, .nobody, 0, [], 1⟩, -- max_deferral
    ⟨0x5000, 16, 0x10, 0x10, .u32, .ro, .live, .nobody, 0, [], 1⟩, -- ecc_corrected
    ⟨0x5000, 16, 0x11, 0x11, .u64, .ro, .live, .nobody, 0, [], 1⟩, -- saturations
    ⟨0x5000, 16, 0x12, 0x12, .u8, .ro, .live, .nobody, 0, [], 1⟩, -- far_outstanding
    ⟨0x5000, 16, 0x13, 0x13, .u16, .rw, .live, .operator, 21845, [], 1⟩ ] -- irq_class
  ++ [ -- R311
    ⟨0x5000, 16, 0x14, 0x14, .u32, .ro, .live, .nobody, 0, [], 1⟩ ] -- image_id

/-- The rows of indices 5100h to 51FFh. -/
def dictRows51 : List Row :=
  [ -- R311
    ⟨0x5100, 16, 0x00, 0x00, .u8, .ro, .live, .nobody, 4, [], 1⟩, -- count
    ⟨0x5100, 16, 0x01, 0x01, (.domain 328256), .rws, .tick, .operator, 0, [], 1⟩, -- image
    ⟨0x5100, 16, 0x02, 0x02, .enum8, .ro, .live, .nobody, 0, [], 1⟩, -- load_error
    ⟨0x5100, 16, 0x03, 0x03, .u16, .ro, .live, .nobody, 0, [], 1⟩, -- error_bundle
    ⟨0x5100, 16, 0x04, 0x04, .u32, .ro, .live, .nobody, 0, [], 1⟩ ] -- loads

/-- The rows of indices 5800h to 58FFh. -/
def dictRows58 : List Row :=
  [ -- R362
    ⟨0x5800, 1, 0x00, 0x00, .u8, .ro, .live, .nobody, 18, [], 1⟩, -- count
    ⟨0x5800, 1, 0x01, 0x01, .enum8, .ro, .live, .nobody, 255, [], 1⟩, -- organisation
    ⟨0x5800, 1, 0x02, 0x02, .enum8, .ro, .live, .nobody, 0, [], 1⟩, -- speed
    ⟨0x5800, 1, 0x03, 0x03, .u16, .ro, .live, .nobody, 0, [], 1⟩, -- capacity
    ⟨0x5800, 1, 0x04, 0x04, .u16, .rwx, .live, .operator, 0, [], 1⟩, -- protected
    ⟨0x5800, 1, 0x05, 0x05, .enum8, .rwx, .live, .operator, 1, [(0, 3)], 1⟩, -- order
    ⟨0x5800, 1, 0x06, 0x06, .u64, .ro, .live, .nobody, 0, [], 1⟩, -- p_size
    ⟨0x5800, 1, 0x07, 0x07, .u64, .ro, .live, .nobody, 0, [], 1⟩, -- u_size
    ⟨0x5800, 1, 0x08, 0x08, .u8, .rw, .live, .operator, 11, [(8, 16)], 1⟩, -- nr_k
    ⟨0x5800, 1, 0x09, 0x09, .u8, .rw, .live, .operator, 1, [(1, 2)], 1⟩, -- nr_radius
    ⟨0x5800, 1, 0x0A, 0x0A, .u16, .rw, .live, .operator, 512, [(16, 4095)], 1⟩, -- starve
    ⟨0x5800, 1, 0x0B, 0x0B, .u32, .rw, .live, .operator, 1000, [(50, 10000)], 1⟩, -- assembly_life
    ⟨0x5800, 1, 0x0C, 0x0C, .u16, .rw, .live, .operator, 24, [(0, 720)], 1⟩, -- scrub_hours
    ⟨0x5800, 1, 0x0D, 0x0D, .u8, .rw, .live, .operator, 4, [(1, 255)], 1⟩, -- lost_threshold
    ⟨0x5800, 1, 0x0E, 0x0E, .enum8, .rw, .live, .operator, 2, [(0, 2)], 1⟩, -- target_speed
    ⟨0x5800, 1, 0x0F, 0x0F, .cmd, .cmd, .live, .operator, 0, [], 1⟩, -- freq_change
    ⟨0x5800, 1, 0x10, 0x10, .enum8, .ro, .live, .nobody, 0, [], 1⟩, -- freq_status
    ⟨0x5800, 1, 0x11, 0x11, .u16, .rw, .live, .operator, 800, [(100, 4000)], 1⟩, -- rebuild_rate
    ⟨0x5800, 1, 0x12, 0x12, .u8, .rw, .live, .operator, 12, [], 1⟩, -- min_margin
    ⟨0x5801, 1, 0x00, 0x00, .u8, .ro, .live, .nobody, 8, [], 1⟩ ] -- count
  ++ [ -- R362, R363
    ⟨0x5801, 1, 0x01, 0x01, .u64, .ro, .live, .nobody, 0, [], 1⟩, -- full_stripes
    ⟨0x5801, 1, 0x02, 0x02, .u64, .ro, .live, .nobody, 0, [], 1⟩, -- small_writes
    ⟨0x5801, 1, 0x03, 0x03, .u64, .ro, .live, .nobody, 0, [], 1⟩, -- merge_reads
    ⟨0x5801, 1, 0x04, 0x04, .u64, .ro, .live, .nobody, 0, [], 1⟩, -- completion_reads
    ⟨0x5801, 1, 0x05, 0x05, .u64, .ro, .live, .nobody, 0, [], 1⟩, -- rebuilds
    ⟨0x5801, 1, 0x06, 0x06, .u32, .ro, .live, .nobody, 0, [], 1⟩, -- unrecoverable
    ⟨0x5801, 1, 0x07, 0x07, .u32, .ro, .live, .nobody, 0, [], 1⟩, -- buffer_peak
    ⟨0x5801, 1, 0x08, 0x08, .u64, .ro, .live, .nobody, 0, [], 1⟩, -- buffer_wait
    ⟨0x5810, 24, 0x00, 0x00, .u8, .ro, .live, .nobody, 16, [], 1⟩, -- count
    ⟨0x5810, 24, 0x01, 0x01, .enum8, .ro, .live, .nobody, 0, [], 1⟩, -- state
    ⟨0x5810, 24, 0x02, 0x02, .u64, .ro, .live, .nobody, 0, [], 1⟩, -- corrected
    ⟨0x5810, 24, 0x03, 0x03, .u32, .ro, .live, .nobody, 0, [], 1⟩, -- uncorrectable
    ⟨0x5810, 24, 0x04, 0x04, .u64, .ro, .live, .nobody, 0, [], 1⟩, -- last_error
    ⟨0x5810, 24, 0x05, 0x05, .u64, .ro, .live, .nobody, 0, [], 1⟩, -- reads
    ⟨0x5810, 24, 0x06, 0x06, .u64, .ro, .live, .nobody, 0, [], 1⟩, -- writes
    ⟨0x5810, 24, 0x07, 0x07, .u64, .ro, .live, .nobody, 0, [], 1⟩, -- acts
    ⟨0x5810, 24, 0x08, 0x08, .u64, .ro, .live, .nobody, 0, [], 1⟩, -- row_hits
    ⟨0x5810, 24, 0x09, 0x09, .u64, .ro, .live, .nobody, 0, [], 1⟩, -- neighbour
    ⟨0x5810, 24, 0x0A, 0x0A, .u32, .ro, .live, .nobody, 0, [], 1⟩, -- postponed
    ⟨0x5810, 24, 0x0B, 0x0B, .u32, .ro, .live, .nobody, 0, [], 1⟩ ] -- u_excess
  ++ [ -- R363
    ⟨0x5810, 24, 0x0C, 0x0C, .u8, .ro, .live, .nobody, 0, [], 1⟩, -- refresh_rate
    ⟨0x5810, 24, 0x0D, 0x0D, .cmd, .cmd, .live, .operator, 0, [], 1⟩, -- declare_lost
    ⟨0x5810, 24, 0x0E, 0x0E, .cmd, .cmd, .live, .operator, 0, [], 1⟩, -- rebuild
    ⟨0x5810, 24, 0x0F, 0x0F, .u16, .ro, .live, .nobody, 0, [], 1⟩, -- rebuild_done
    ⟨0x5810, 24, 0x10, 0x10, .enum8, .ro, .live, .nobody, 0, [], 1⟩, -- lost_cause
    ⟨0x5840, 24, 0x00, 0x00, .u8, .ro, .live, .nobody, 6, [], 1⟩, -- count
    ⟨0x5840, 24, 0x01, 0x01, (.domain 1088), .ro, .live, .nobody, 0, [], 1⟩, -- delays
    ⟨0x5840, 24, 0x02, 0x02, (.domain 1088), .rw, .live, .operator, 0, [], 1⟩, -- shadow
    ⟨0x5840, 24, 0x03, 0x03, .cmd, .cmd, .live, .operator, 0, [], 1⟩, -- apply
    ⟨0x5840, 24, 0x04, 0x04, .u16, .ro, .live, .nobody, 0, [], 1⟩, -- margin
    ⟨0x5840, 24, 0x05, 0x05, .cmd, .cmd, .live, .operator, 0, [], 1⟩, -- recalibrate
    ⟨0x5840, 24, 0x06, 0x06, .enum8, .ro, .live, .nobody, 0, [], 1⟩, -- recal_status
    ⟨0x5870, 1, 0x00, 0x00, .u8, .ro, .live, .nobody, 15, [], 1⟩, -- count
    ⟨0x5870, 1, 0x01, 0x0F, .u16, .ro, .live, .nobody, 0, [], 1⟩, -- active
    ⟨0x5871, 1, 0x00, 0x00, .u8, .ro, .live, .nobody, 15, [], 1⟩, -- count
    ⟨0x5871, 1, 0x01, 0x0F, .u16, .rw, .live, .operator, 0, [], 1⟩, -- shadow
    ⟨0x5880, 1, 0x00, 0x00, .u8, .ro, .live, .nobody, 4, [], 1⟩, -- count
    ⟨0x5880, 1, 0x01, 0x01, .enum8, .ro, .live, .nobody, 1, [], 1⟩, -- table_status
    ⟨0x5880, 1, 0x02, 0x02, .cmd, .cmd, .live, .integratorOrService, 0, [], 1⟩, -- store
    ⟨0x5880, 1, 0x03, 0x03, .u32, .ro, .live, .nobody, 0, [], 1⟩ ] -- table_crc
  ++ [ -- R363
    ⟨0x5880, 1, 0x04, 0x04, .bits8, .ro, .live, .nobody, 0, [], 1⟩ ] -- speeds

/-- The rows of indices 5C00h to 5CFFh. -/
def dictRows5C : List Row :=
  [ -- R396, R397
    ⟨0x5C00, 1, 0x00, 0x00, .u8, .ro, .live, .nobody, 5, [], 1⟩, -- count
    ⟨0x5C00, 1, 0x01, 0x01, .bool, .ro, .live, .nobody, 0, [], 1⟩, -- remap
    ⟨0x5C00, 1, 0x02, 0x02, .u64, .ro, .live, .nobody, 0, [], 1⟩, -- locks
    ⟨0x5C00, 1, 0x03, 0x03, .u32, .ro, .live, .nobody, 0, [], 1⟩, -- locks_broken
    ⟨0x5C00, 1, 0x04, 0x04, .u64, .ro, .live, .nobody, 0, [], 1⟩, -- faults
    ⟨0x5C00, 1, 0x05, 0x05, .u32, .ro, .live, .nobody, 0, [], 1⟩, -- u_excess
    ⟨0x5C01, 1, 0x00, 0x00, .u8, .ro, .live, .nobody, 6, [], 1⟩, -- count
    ⟨0x5C01, 1, 0x01, 0x01, .cmd, .cmd, .live, .operator, 0, [(0, 31)], 1⟩, -- inv_window
    ⟨0x5C01, 1, 0x02, 0x02, .cmd, .cmd, .live, .operator, 0, [], 1⟩, -- inv_all
    ⟨0x5C01, 1, 0x03, 0x03, .u64, .ro, .live, .nobody, 0, [], 1⟩, -- tlb_hits
    ⟨0x5C01, 1, 0x04, 0x04, .u64, .ro, .live, .nobody, 0, [], 1⟩, -- tlb_misses
    ⟨0x5C01, 1, 0x05, 0x05, .u64, .ro, .live, .nobody, 0, [], 1⟩, -- walk_reads
    ⟨0x5C01, 1, 0x06, 0x06, .u64, .ro, .live, .nobody, 0, [], 1⟩, -- walk_wait
    ⟨0x5C02, 1, 0x00, 0x00, .u8, .ro, .live, .nobody, 17, [], 1⟩, -- count
    ⟨0x5C02, 1, 0x01, 0x01, .u8, .ro, .live, .nobody, 0, [], 1⟩, -- next
    ⟨0x5C02, 1, 0x02, 0x11, (.octets 32), .ro, .live, .nobody, 0, [], 1⟩, -- record
    ⟨0x5C03, 1, 0x00, 0x00, .u8, .ro, .live, .nobody, 13, [], 1⟩, -- count
    ⟨0x5C03, 1, 0x01, 0x0D, .u32, .ro, .live, .nobody, 0, [], 1⟩, -- by_cause
    ⟨0x5C40, 32, 0x00, 0x00, .u8, .ro, .live, .nobody, 7, [], 1⟩, -- count
    ⟨0x5C40, 32, 0x01, 0x01, .enum8, .rws, .tick, .operator, 0, [(0, 2)], 1⟩ ] -- mode
  ++ [ -- R397
    ⟨0x5C40, 32, 0x02, 0x02, (.octets 10), .rws, .tick, .operator, 0, [], 1⟩, -- masters
    ⟨0x5C40, 32, 0x03, 0x03, .u64, .rws, .tick, .operator, 0, [], 1⟩, -- base
    ⟨0x5C40, 32, 0x04, 0x04, .u64, .rws, .tick, .operator, 4096, [], 1⟩, -- size
    ⟨0x5C40, 32, 0x05, 0x05, .u64, .rws, .tick, .operator, 0, [], 1⟩, -- target
    ⟨0x5C40, 32, 0x06, 0x06, .bits8, .rws, .tick, .operator, 3, [(0, 7)], 1⟩, -- perms
    ⟨0x5C40, 32, 0x07, 0x07, .u64, .ro, .live, .nobody, 0, [], 1⟩ ] -- uses

/-- The rows of indices 5D00h to 5DFFh. -/
def dictRows5D : List Row :=
  [ -- R398
    ⟨0x5D00, 1, 0x00, 0x00, .u8, .ro, .live, .nobody, 6, [], 1⟩, -- count
    ⟨0x5D00, 1, 0x01, 0x01, .bool, .rw, .live, .operator, 0, [], 1⟩, -- enable
    ⟨0x5D00, 1, 0x02, 0x02, .enum8, .ro, .live, .nobody, 0, [], 1⟩, -- status
    ⟨0x5D00, 1, 0x03, 0x03, .u8, .ro, .live, .nobody, 4, [], 1⟩, -- movers
    ⟨0x5D00, 1, 0x04, 0x04, .u64, .ro, .live, .nobody, 0, [], 1⟩, -- bytes
    ⟨0x5D00, 1, 0x05, 0x05, .u64, .ro, .live, .nobody, 0, [], 1⟩, -- descriptors
    ⟨0x5D00, 1, 0x06, 0x06, .u64, .ro, .live, .nobody, 0, [], 1⟩, -- preemptions
    ⟨0x5D40, 64, 0x00, 0x00, .u8, .ro, .live, .nobody, 19, [], 1⟩, -- count
    ⟨0x5D40, 64, 0x01, 0x01, .bool, .rw, .live, .operator, 0, [], 1⟩, -- enable
    ⟨0x5D40, 64, 0x02, 0x02, .enum8, .ro, .live, .nobody, 0, [], 1⟩, -- status
    ⟨0x5D40, 64, 0x03, 0x03, .enum8, .ro, .live, .nobody, 0, [], 1⟩, -- run_state
    ⟨0x5D40, 64, 0x04, 0x04, .enum8, .rwx, .live, .operator, 1, [(0, 3)], 1⟩, -- class
    ⟨0x5D40, 64, 0x05, 0x05, .bool, .rwx, .live, .integrator, 0, [], 1⟩, -- secure
    ⟨0x5D40, 64, 0x06, 0x06, .u64, .rw, .live, .operator, 0, [], 1⟩, -- desc_addr
    ⟨0x5D40, 64, 0x07, 0x07, .cmd, .cmd, .live, .operator, 0, [], 1⟩, -- start
    ⟨0x5D40, 64, 0x08, 0x08, .cmd, .cmd, .live, .operator, 0, [], 1⟩, -- abort
    ⟨0x5D40, 64, 0x09, 0x09, .cmd, .cmd, .live, .operator, 0, [(1, 2)], 1⟩, -- resume
    ⟨0x5D40, 64, 0x0A, 0x0A, .enum8, .ro, .live, .nobody, 0, [], 1⟩, -- cause
    ⟨0x5D40, 64, 0x0B, 0x0B, .u64, .ro, .live, .nobody, 0, [], 1⟩, -- cur_desc
    ⟨0x5D40, 64, 0x0C, 0x0C, .u64, .ro, .live, .nobody, 0, [], 1⟩ ] -- residue
  ++ [ -- R398
    ⟨0x5D40, 64, 0x0D, 0x0D, .u8, .ro, .live, .nobody, 0, [], 1⟩, -- tag
    ⟨0x5D40, 64, 0x0E, 0x0E, .u64, .ro, .live, .nobody, 0, [], 1⟩, -- fault_wa
    ⟨0x5D40, 64, 0x0F, 0x0F, .enum8, .ro, .live, .nobody, 0, [], 1⟩, -- fault_side
    ⟨0x5D40, 64, 0x10, 0x10, .u64, .ro, .live, .nobody, 0, [], 1⟩, -- bytes
    ⟨0x5D40, 64, 0x11, 0x11, .u64, .ro, .live, .nobody, 0, [], 1⟩, -- descriptors
    ⟨0x5D40, 64, 0x12, 0x12, .u32, .ro, .live, .nobody, 0, [], 1⟩, -- preemptions
    ⟨0x5D40, 64, 0x13, 0x13, .u32, .ro, .live, .nobody, 0, [], 1⟩ ] -- start_refused

/-- The rows of indices 6000h to 60FFh. -/
def dictRows60 : List Row :=
  [ -- R427
    ⟨0x6000, 1, 0x00, 0x00, .u8, .ro, .live, .nobody, 19, [], 1⟩, -- count
    ⟨0x6000, 1, 0x01, 0x01, .enum8, .ro, .live, .nobody, 0, [], 1⟩, -- state
    ⟨0x6000, 1, 0x02, 0x02, .enum8, .ro, .live, .nobody, 255, [], 1⟩, -- selected
    ⟨0x6000, 1, 0x03, 0x03, .u32, .rw, .live, .operator, 1000000000, [(100000000, 1000000000)], 1⟩, -- f_sc
    ⟨0x6000, 1, 0x04, 0x04, .u16, .rw, .live, .operator, 300, [(0, 3600)], 1⟩, -- wtr
    ⟨0x6000, 1, 0x05, 0x05, .u16, .rw, .live, .operator, 60, [(1, 3600)], 1⟩, -- hold_window
    ⟨0x6000, 1, 0x06, 0x06, .u16, .rw, .live, .operator, 2, [(0, 60)], 1⟩, -- hold_guard
    ⟨0x6000, 1, 0x07, 0x07, .u16, .ro, .live, .nobody, 0, [], 1⟩, -- hold_history
    ⟨0x6000, 1, 0x08, 0x08, .u8, .ro, .live, .nobody, 14, [], 1⟩, -- ql_out
    ⟨0x6000, 1, 0x09, 0x09, .u8, .rw, .live, .operator, 14, [(0, 15)], 1⟩, -- ql_freerun
    ⟨0x6000, 1, 0x0A, 0x0A, .u8, .rw, .live, .operator, 11, [(0, 15)], 1⟩, -- ql_holdover
    ⟨0x6000, 1, 0x0B, 0x0B, .enum8, .rw, .live, .operator, 1, [(0, 2)], 1⟩, -- lock_bw
    ⟨0x6000, 1, 0x0C, 0x0C, .i32, .ro, .live, .nobody, 0, [], 1⟩, -- control_word
    ⟨0x6000, 1, 0x0D, 0x0D, .i32, .ro, .live, .nobody, 0, [], 1⟩, -- holdover_value
    ⟨0x6000, 1, 0x0E, 0x0E, .u32, .ro, .live, .nobody, 0, [], 1⟩, -- switches
    ⟨0x6000, 1, 0x0F, 0x0F, .u32, .ro, .live, .nobody, 0, [], 1⟩, -- holdovers
    ⟨0x6000, 1, 0x10, 0x10, .u16, .rw, .live, .operator, 50, [(1, 200)], 1⟩, -- pull_range
    ⟨0x6000, 1, 0x11, 0x11, .enum8, .rw, .live, .operator, 0, [(0, 7)], 1⟩, -- force
    ⟨0x6000, 1, 0x12, 0x12, .u64, .ro, .live, .nobody, 0, [], 1⟩, -- windows
    ⟨0x6000, 1, 0x13, 0x13, .u8, .rw, .live, .operator, 5, [(1, 60)], 1⟩ ] -- ql_timeout
  ++ [ -- R427, R428
    ⟨0x6020, 1, 0x00, 0x00, .u8, .ro, .live, .nobody, 8, [], 1⟩, -- count
    ⟨0x6020, 1, 0x01, 0x01, .u64, .ro, .live, .nobody, 0, [], 1⟩, -- sc
    ⟨0x6020, 1, 0x02, 0x02, .u64, .ro, .live, .nobody, 0, [], 1⟩, -- pps_sc
    ⟨0x6020, 1, 0x03, 0x03, .u64, .ro, .live, .nobody, 0, [], 1⟩, -- pps_sec
    ⟨0x6020, 1, 0x04, 0x04, .u16, .ro, .live, .nobody, 0, [], 1⟩, -- pps_frac
    ⟨0x6020, 1, 0x05, 0x05, .u32, .ro, .live, .nobody, 0, [], 1⟩, -- pps_count
    ⟨0x6020, 1, 0x06, 0x06, .u8, .rw, .live, .operator, 24, [(16, 40)], 1⟩, -- sync_k
    ⟨0x6020, 1, 0x07, 0x07, .u64, .rw, .live, .operator, 0, [], 1⟩, -- sc_load
    ⟨0x6020, 1, 0x08, 0x08, .cmd, .cmd, .live, .operator, 0, [], 1⟩, -- load
    ⟨0x6010, 5, 0x00, 0x00, .u8, .ro, .live, .nobody, 16, [], 1⟩, -- count
    ⟨0x6010, 5, 0x01, 0x01, .bits8, .ro, .live, .nobody, 0, [], 1⟩, -- status
    ⟨0x6010, 5, 0x02, 0x02, .u8, .rw, .live, .operator, 0, [(0, 15)], 1⟩, -- priority
    ⟨0x6010, 2, 0x03, 0x03, .u32, .rw, .live, .operator, 10000000, [(8000, 800000000)], 1⟩, -- nominal
    ⟨0x6012, 2, 0x04, 0x04, .u8, .rw, .live, .operator, 255, [], 1⟩, -- lane
    ⟨0x6010, 5, 0x05, 0x05, .u16, .rw, .live, .operator, 200, [(1, 10000)], 1⟩, -- limit
    ⟨0x6010, 5, 0x06, 0x06, .enum8, .rw, .live, .operator, 0, [(0, 1)], 1⟩, -- ql_mode
    ⟨0x6010, 5, 0x07, 0x07, .u8, .rw, .live, .operator, 15, [(0, 15)], 1⟩, -- ql_fixed
    ⟨0x6010, 5, 0x08, 0x08, .u8, .ro, .live, .nobody, 15, [], 1⟩, -- ql
    ⟨0x6010, 5, 0x09, 0x09, .i32, .ro, .live, .nobody, 0, [], 1⟩, -- offset
    ⟨0x6010, 5, 0x0A, 0x0A, .enum8, .ro, .live, .nobody, 0, [], 1⟩ ] -- cause
  ++ [ -- R428, R429
    ⟨0x6010, 5, 0x0B, 0x0B, .u32, .ro, .live, .nobody, 0, [], 1⟩, -- fail_windows
    ⟨0x6010, 5, 0x0C, 0x0C, .u16, .ro, .live, .nobody, 0, [], 1⟩, -- wtr_left
    ⟨0x6010, 5, 0x0D, 0x0D, .u32, .ro, .live, .nobody, 0, [], 1⟩, -- disqualified
    ⟨0x6010, 5, 0x0E, 0x0E, .u32, .ro, .live, .nobody, 0, [], 1⟩, -- los
    ⟨0x6010, 5, 0x0F, 0x0F, .u32, .ro, .live, .nobody, 0, [], 1⟩, -- ql_changes
    ⟨0x6010, 5, 0x10, 0x10, .u32, .ro, .live, .nobody, 0, [], 1⟩, -- ql_errors
    ⟨0x6030, 8, 0x00, 0x00, .u8, .ro, .live, .nobody, 1, [], 1⟩, -- count
    ⟨0x6030, 8, 0x01, 0x01, .u8, .rw, .live, .operator, 0, [(0, 64)], 1⟩, -- divider
    ⟨0x6040, 8, 0x00, 0x00, .u8, .ro, .live, .nobody, 9, [], 1⟩, -- count
    ⟨0x6040, 8, 0x01, 0x01, .time80, .ro, .live, .nobody, 0, [], 1⟩, -- now
    ⟨0x6040, 6, 0x02, 0x02, .i32, .rw, .live, .operator, 0, [(-200000000, 200000000)], 1⟩, -- rate
    ⟨0x6046, 2, 0x02, 0x02, .i32, .ro, .live, .nobody, 0, [(-200000000, 200000000)], 1⟩, -- rate
    ⟨0x6040, 8, 0x03, 0x03, .i64, .cmd, .live, .operator, 0, [], 1⟩, -- adjust
    ⟨0x6040, 8, 0x04, 0x04, .i64, .ro, .live, .nobody, 0, [], 1⟩, -- outstanding
    ⟨0x6040, 8, 0x05, 0x05, .u16, .rw, .live, .operator, 10000, [(1, 10000)], 1⟩, -- slew_limit
    ⟨0x6040, 8, 0x06, 0x06, .time80, .rw, .live, .operator, 0, [], 1⟩, -- step_value
    ⟨0x6040, 8, 0x07, 0x07, .cmd, .cmd, .live, .integrator, 0, [], 1⟩, -- step
    ⟨0x6040, 6, 0x08, 0x08, .u64, .ro, .live, .nobody, 8589934592, [], 1⟩, -- inc
    ⟨0x6046, 2, 0x08, 0x08, .u64, .rw, .live, .integrator, 8589934592, [], 1⟩, -- inc
    ⟨0x6040, 8, 0x09, 0x09, .u32, .ro, .live, .nobody, 0, [], 1⟩ ] -- steps
  ++ [ -- R429, R430
    ⟨0x6050, 8, 0x00, 0x00, .u8, .ro, .live, .nobody, 8, [], 1⟩, -- count
    ⟨0x6050, 8, 0x01, 0x01, .enum8, .rw, .live, .operator, 0, [(0, 3)], 1⟩, -- mode
    ⟨0x6050, 8, 0x02, 0x02, .u8, .rw, .live, .operator, 0, [(0, 7)], 1⟩, -- timebase
    ⟨0x6050, 8, 0x03, 0x03, .time80, .rw, .live, .operator, 0, [], 1⟩, -- start
    ⟨0x6050, 8, 0x04, 0x04, .u64, .rw, .live, .operator, 1000000000, [], 1⟩, -- period
    ⟨0x6050, 8, 0x05, 0x05, .u32, .rw, .live, .operator, 1000, [(4, 1000000000)], 2⟩, -- width
    ⟨0x6050, 8, 0x06, 0x06, .bool, .rw, .live, .operator, 0, [], 1⟩, -- invert
    ⟨0x6050, 8, 0x07, 0x07, .u64, .ro, .live, .nobody, 0, [], 1⟩, -- pulses
    ⟨0x6050, 8, 0x08, 0x08, .u32, .ro, .live, .nobody, 0, [], 1⟩, -- merged
    ⟨0x6060, 8, 0x00, 0x00, .u8, .ro, .live, .nobody, 8, [], 1⟩, -- count
    ⟨0x6060, 8, 0x01, 0x01, .enum8, .rw, .live, .operator, 0, [(0, 3)], 1⟩, -- edge
    ⟨0x6060, 8, 0x02, 0x02, .u8, .rw, .live, .operator, 0, [(0, 7)], 1⟩, -- timebase
    ⟨0x6060, 8, 0x03, 0x03, .u8, .rw, .live, .operator, 3, [(3, 255)], 1⟩, -- min_width
    ⟨0x6060, 8, 0x04, 0x04, .time80, .ro, .live, .nobody, 0, [], 1⟩, -- last_time
    ⟨0x6060, 8, 0x05, 0x05, .u64, .ro, .live, .nobody, 0, [], 1⟩, -- last_sc
    ⟨0x6060, 8, 0x06, 0x06, .enum8, .ro, .live, .nobody, 0, [], 1⟩, -- last_edge
    ⟨0x6060, 8, 0x07, 0x07, .u64, .ro, .live, .nobody, 0, [], 1⟩, -- captures
    ⟨0x6060, 8, 0x08, 0x08, .u32, .ro, .live, .nobody, 0, [], 1⟩, -- glitches
    ⟨0x6070, 1, 0x00, 0x00, .u8, .ro, .live, .nobody, 14, [], 1⟩, -- count
    ⟨0x6070, 1, 0x01, 0x01, .bool, .rw, .live, .operator, 0, [], 1⟩ ] -- enable
  ++ [ -- R430
    ⟨0x6070, 1, 0x02, 0x02, .enum8, .ro, .live, .nobody, 0, [], 1⟩, -- status
    ⟨0x6070, 1, 0x03, 0x03, .u8, .rwx, .live, .operator, 0, [(0, 127)], 1⟩, -- domain
    ⟨0x6070, 1, 0x04, 0x04, .enum8, .rwx, .live, .operator, 0, [(0, 1)], 1⟩, -- profile
    ⟨0x6070, 1, 0x05, 0x05, .enum8, .rwx, .live, .operator, 0, [(0, 1)], 1⟩, -- transport
    ⟨0x6070, 1, 0x06, 0x06, .bool, .rw, .live, .operator, 1, [], 1⟩, -- servo
    ⟨0x6070, 1, 0x07, 0x07, .u32, .rw, .live, .operator, 100000, [], 1⟩, -- step_threshold
    ⟨0x6070, 1, 0x08, 0x08, .u8, .rwx, .live, .operator, 128, [], 1⟩, -- priority1
    ⟨0x6070, 1, 0x09, 0x09, .u8, .rwx, .live, .operator, 128, [], 1⟩, -- priority2
    ⟨0x6070, 1, 0x0A, 0x0A, .bool, .rwx, .live, .operator, 1, [], 1⟩, -- slave_only
    ⟨0x6070, 1, 0x0B, 0x0B, .i64, .ro, .live, .nobody, 0, [], 1⟩, -- offset
    ⟨0x6070, 1, 0x0C, 0x0C, .i64, .ro, .live, .nobody, 0, [], 1⟩, -- mean_path_delay
    ⟨0x6070, 1, 0x0D, 0x0D, (.octets 8), .ro, .live, .nobody, 0, [], 1⟩, -- gm_identity
    ⟨0x6070, 1, 0x0E, 0x0E, .u8, .ro, .live, .nobody, 255, [], 1⟩, -- gm_class
    ⟨0x6071, 2, 0x00, 0x00, .u8, .ro, .live, .nobody, 10, [], 1⟩, -- count
    ⟨0x6071, 2, 0x01, 0x01, .bool, .rwx, .live, .operator, 0, [], 1⟩, -- port_enable
    ⟨0x6071, 2, 0x02, 0x02, .enum8, .ro, .live, .nobody, 3, [], 1⟩, -- port_state
    ⟨0x6071, 2, 0x03, 0x03, .u32, .rw, .live, .operator, 0, [], 1⟩, -- tx_latency
    ⟨0x6071, 2, 0x04, 0x04, .u32, .rw, .live, .operator, 0, [], 1⟩, -- rx_latency
    ⟨0x6071, 2, 0x05, 0x05, .i32, .rw, .live, .operator, 0, [], 1⟩, -- asymmetry
    ⟨0x6071, 2, 0x06, 0x06, .i8, .rwx, .live, .operator, 252, [(-7, 4)], 1⟩ ] -- log_sync
  ++ [ -- R430
    ⟨0x6071, 2, 0x07, 0x07, .i8, .rwx, .live, .operator, 1, [(-3, 4)], 1⟩, -- log_announce
    ⟨0x6071, 2, 0x08, 0x08, .i8, .rwx, .live, .operator, 252, [(-7, 5)], 1⟩, -- log_delay
    ⟨0x6071, 2, 0x09, 0x09, .u64, .ro, .live, .nobody, 0, [], 1⟩, -- rx_msgs
    ⟨0x6071, 2, 0x0A, 0x0A, .u64, .ro, .live, .nobody, 0, [], 1⟩ ] -- tx_msgs

/-- The rows of indices 6400h to 64FFh. -/
def dictRows64 : List Row :=
  [ -- R449
    ⟨0x6400, 4, 0x00, 0x00, .u8, .ro, .live, .nobody, 25, [], 1⟩, -- count
    ⟨0x6400, 4, 0x01, 0x01, .bool, .rw, .live, .operator, 0, [], 1⟩, -- enable
    ⟨0x6400, 4, 0x02, 0x02, .enum8, .ro, .live, .nobody, 0, [], 1⟩, -- status
    ⟨0x6400, 4, 0x03, 0x03, .enum8, .rwx, .live, .operator, 0, [(0, 2)], 1⟩, -- mode
    ⟨0x6400, 4, 0x04, 0x04, .bool, .rwx, .live, .operator, 0, [], 1⟩, -- invert
    ⟨0x6400, 4, 0x05, 0x05, .u8, .rwx, .live, .operator, 2, [(1, 255)], 1⟩, -- min_width
    ⟨0x6400, 4, 0x06, 0x06, .enum8, .rw, .live, .operator, 0, [], 1⟩, -- z_mode
    ⟨0x6400, 4, 0x07, 0x07, .i64, .rw, .live, .operator, 0, [], 1⟩, -- preset
    ⟨0x6400, 4, 0x08, 0x08, .cmd, .cmd, .live, .operator, 0, [], 1⟩, -- set
    ⟨0x6400, 4, 0x09, 0x09, .i64, .ro, .live, .nobody, 0, [], 1⟩, -- position
    ⟨0x6400, 4, 0x0A, 0x0A, .f32, .ro, .live, .nobody, 0, [], 1⟩, -- speed
    ⟨0x6400, 4, 0x0B, 0x0B, .bits8, .ro, .live, .nobody, 0, [], 1⟩, -- flags
    ⟨0x6400, 4, 0x0C, 0x0C, .u16, .rw, .live, .operator, 50, [(1, 10000)], 1⟩, -- t_still
    ⟨0x6400, 4, 0x0D, 0x0D, .f32, .rw, .live, .operator, 989270555, [], 1⟩, -- l1
    ⟨0x6400, 4, 0x0E, 0x0E, .f32, .rw, .live, .operator, 899610541, [], 1⟩, -- l2
    ⟨0x6400, 4, 0x0F, 0x0F, .f32, .rw, .live, .operator, 797466095, [], 1⟩, -- l3
    ⟨0x6400, 4, 0x10, 0x10, .i64, .ro, .live, .nobody, 0, [], 1⟩, -- z_position
    ⟨0x6400, 4, 0x11, 0x11, .u32, .ro, .live, .nobody, 0, [], 1⟩, -- errors
    ⟨0x6400, 4, 0x12, 0x12, .u32, .ro, .live, .nobody, 0, [], 1⟩, -- glitches
    ⟨0x6400, 4, 0x13, 0x13, .u32, .ro, .live, .nobody, 0, [], 1⟩ ] -- reversals
  ++ [ -- R449, R450
    ⟨0x6400, 4, 0x14, 0x14, .u8, .rwx, .live, .operator, 25, [(8, 48)], 1⟩, -- ssi_bits
    ⟨0x6400, 4, 0x15, 0x15, .u8, .rwx, .live, .operator, 10, [(10, 255)], 1⟩, -- ssi_div
    ⟨0x6400, 4, 0x16, 0x16, .u16, .rwx, .live, .operator, 50, [(10, 65535)], 1⟩, -- ssi_period
    ⟨0x6400, 4, 0x17, 0x17, .enum8, .rwx, .live, .operator, 0, [(0, 1)], 1⟩, -- ssi_code
    ⟨0x6400, 4, 0x18, 0x18, .enum8, .rwx, .live, .operator, 0, [(0, 2)], 1⟩, -- ssi_parity
    ⟨0x6400, 4, 0x19, 0x19, .u32, .rw, .live, .operator, 1024, [], 1⟩, -- max_jump
    ⟨0x6410, 4, 0x00, 0x00, .u8, .ro, .live, .nobody, 19, [], 1⟩, -- count
    ⟨0x6410, 4, 0x01, 0x01, .bool, .rw, .live, .operator, 0, [], 1⟩, -- enable
    ⟨0x6410, 4, 0x02, 0x02, .enum8, .ro, .live, .nobody, 0, [], 1⟩, -- status
    ⟨0x6410, 4, 0x03, 0x03, .u32, .rw, .live, .operator, 200, [(1, 16777215)], 1⟩, -- width
    ⟨0x6410, 4, 0x04, 0x04, .bool, .rw, .live, .operator, 0, [], 1⟩, -- invert
    ⟨0x6410, 4, 0x05, 0x05, .u32, .rw, .live, .operator, 2, [], 1⟩, -- late_limit
    ⟨0x6410, 4, 0x06, 0x06, .enum8, .rw, .live, .operator, 1, [], 1⟩, -- marker_dir
    ⟨0x6410, 4, 0x07, 0x07, .u8, .rw, .live, .operator, 0, [(0, 3)], 1⟩, -- e_axis
    ⟨0x6410, 4, 0x08, 0x08, .i64, .rw, .live, .operator, 0, [], 1⟩, -- e_target
    ⟨0x6410, 4, 0x09, 0x09, .enum8, .rw, .live, .operator, 1, [], 1⟩, -- e_dir
    ⟨0x6410, 4, 0x0A, 0x0A, .u16, .rw, .live, .operator, 0, [], 1⟩, -- e_tag
    ⟨0x6410, 4, 0x0B, 0x0B, .cmd, .cmd, .live, .operator, 0, [], 1⟩, -- place
    ⟨0x6410, 4, 0x0C, 0x0C, .cmd, .cmd, .live, .operator, 0, [], 1⟩, -- clear
    ⟨0x6410, 4, 0x0D, 0x0D, .u16, .ro, .live, .nobody, 0, [], 1⟩ ] -- armed
  ++ [ -- R450, R451
    ⟨0x6410, 4, 0x0E, 0x0E, .u64, .ro, .live, .nobody, 0, [], 1⟩, -- fired
    ⟨0x6410, 4, 0x0F, 0x0F, .u32, .ro, .live, .nobody, 0, [], 1⟩, -- missed
    ⟨0x6410, 4, 0x10, 0x10, .u32, .ro, .live, .nobody, 0, [], 1⟩, -- cancelled
    ⟨0x6410, 4, 0x11, 0x11, .u32, .ro, .live, .nobody, 0, [], 1⟩, -- merged
    ⟨0x6410, 4, 0x12, 0x12, .i64, .ro, .live, .nobody, 0, [], 1⟩, -- missed_target
    ⟨0x6410, 4, 0x13, 0x13, .u16, .ro, .live, .nobody, 0, [], 1⟩, -- missed_tag
    ⟨0x6420, 1, 0x00, 0x00, .u8, .ro, .live, .nobody, 12, [], 1⟩, -- count
    ⟨0x6420, 1, 0x01, 0x01, .bool, .rw, .live, .operator, 0, [], 1⟩, -- enable
    ⟨0x6420, 1, 0x02, 0x02, .enum8, .ro, .live, .nobody, 0, [], 1⟩, -- status
    ⟨0x6420, 1, 0x03, 0x03, .enum8, .rwx, .live, .operator, 0, [(0, 4)], 1⟩, -- source
    ⟨0x6420, 1, 0x04, 0x04, .u64, .rwx, .live, .operator, 262144, [], 1⟩, -- period
    ⟨0x6420, 1, 0x05, 0x05, .enum8, .rwx, .live, .operator, 1, [(1, 2)], 1⟩, -- direction
    ⟨0x6420, 1, 0x06, 0x06, .u32, .rwx, .live, .operator, 2000, [(40, 16777215)], 1⟩, -- min_interval
    ⟨0x6420, 1, 0x07, 0x07, .u64, .ro, .live, .nobody, 0, [], 1⟩, -- edges
    ⟨0x6420, 1, 0x08, 0x08, .u32, .ro, .live, .nobody, 0, [], 1⟩, -- delayed
    ⟨0x6420, 1, 0x09, 0x09, .u32, .ro, .live, .nobody, 0, [], 1⟩, -- dropped
    ⟨0x6420, 1, 0x0A, 0x0A, .i64, .ro, .live, .nobody, 0, [], 1⟩, -- last_position
    ⟨0x6420, 1, 0x0B, 0x0B, .u64, .ro, .live, .nobody, 0, [], 1⟩, -- last_sc
    ⟨0x6420, 1, 0x0C, 0x0C, .time80, .ro, .live, .nobody, 0, [], 1⟩, -- last_time
    ⟨0x6430, 16, 0x00, 0x00, .u8, .ro, .live, .nobody, 4, [], 1⟩ ] -- count
  ++ [ -- R451
    ⟨0x6430, 16, 0x01, 0x01, .bool, .rw, .live, .operator, 0, [], 1⟩, -- enable
    ⟨0x6430, 16, 0x02, 0x02, .u16, .rw, .live, .operator, 0, [], 1⟩, -- delay
    ⟨0x6430, 16, 0x03, 0x03, .u16, .rw, .live, .operator, 100, [(1, 65535)], 1⟩, -- width
    ⟨0x6430, 16, 0x04, 0x04, .bool, .rw, .live, .operator, 0, [], 1⟩ ] -- invert

/-- The rows of indices 6800h to 68FFh. -/
def dictRows68 : List Row :=
  [ -- R504
    ⟨0x6800, 1, 0x00, 0x00, .u8, .ro, .live, .nobody, 7, [], 1⟩, -- count
    ⟨0x6800, 1, 0x01, 0x01, .bits32, .rw, .live, .operator, 0, [], 1⟩, -- gate_bits
    ⟨0x6800, 1, 0x02, 0x02, .u8, .cmd, .live, .operator, 0, [(0, 31)], 1⟩, -- soft
    ⟨0x6800, 1, 0x03, 0x03, .u16, .ro, .live, .nobody, 0, [], 1⟩, -- generation
    ⟨0x6800, 1, 0x04, 0x04, .u64, .ro, .live, .nobody, 0, [], 1⟩, -- events
    ⟨0x6800, 1, 0x05, 0x05, .u32, .ro, .live, .nobody, 0, [], 1⟩, -- loop_drops
    ⟨0x6800, 1, 0x06, 0x06, .u32, .ro, .live, .nobody, 0, [], 1⟩, -- page_rejects
    ⟨0x6800, 1, 0x07, 0x07, .u32, .ro, .live, .nobody, 0, [], 1⟩, -- secure_drops
    ⟨0x6802, 1, 0x00, 0x00, .u8, .ro, .live, .nobody, 5, [], 1⟩, -- count
    ⟨0x6802, 1, 0x01, 0x01, .u16, .rw, .live, .operator, 16, [], 1⟩, -- select
    ⟨0x6802, 1, 0x02, 0x02, .u32, .ro, .live, .nobody, 0, [], 1⟩, -- merged
    ⟨0x6802, 1, 0x03, 0x03, .u32, .ro, .live, .nobody, 0, [], 1⟩, -- overruns
    ⟨0x6802, 1, 0x04, 0x04, .bool, .ro, .live, .nobody, 0, [], 1⟩, -- pending
    ⟨0x6802, 1, 0x05, 0x05, .u64, .ro, .live, .nobody, 0, [], 1⟩, -- delivered
    ⟨0x6810, 32, 0x00, 0x00, .u8, .ro, .live, .nobody, 2, [], 1⟩, -- count
    ⟨0x6810, 32, 0x01, 0x01, .u32, .rw, .live, .operator, 0, [(0, 16777215)], 1⟩, -- delay
    ⟨0x6810, 32, 0x02, 0x02, .u64, .ro, .live, .nobody, 0, [], 1⟩, -- relayed
    ⟨0x6830, 4, 0x00, 0x00, .u8, .ro, .live, .nobody, 5, [], 1⟩, -- count
    ⟨0x6830, 4, 0x01, 0x01, .enum8, .rw, .live, .operator, 0, [(0, 2)], 1⟩, -- mode
    ⟨0x6830, 4, 0x02, 0x02, .u32, .rw, .live, .operator, 500, [(1, 16777215)], 1⟩ ] -- width
  ++ [ -- R504
    ⟨0x6830, 4, 0x03, 0x03, .bool, .ro, .live, .nobody, 0, [], 1⟩, -- asserted
    ⟨0x6830, 4, 0x04, 0x04, .cmd, .cmd, .live, .operator, 0, [], 1⟩, -- release
    ⟨0x6830, 4, 0x05, 0x05, .u32, .ro, .live, .nobody, 0, [], 1⟩ ] -- deliveries

/-- The rows of indices 6900h to 69FFh. -/
def dictRows69 : List Row :=
  [ -- R505
    ⟨0x6900, 256, 0x00, 0x00, .u8, .ro, .live, .nobody, 16, [], 1⟩, -- count
    ⟨0x6900, 256, 0x01, 0x01, .bool, .rw, .live, .operator, 0, [], 1⟩, -- enable
    ⟨0x6900, 256, 0x02, 0x02, .enum8, .ro, .live, .nobody, 0, [], 1⟩, -- status
    ⟨0x6900, 256, 0x03, 0x03, .u8, .rwx, .live, .integrator, 0, [], 1⟩, -- owner
    ⟨0x6900, 256, 0x04, 0x04, .bool, .rwx, .live, .integrator, 0, [], 1⟩, -- secure
    ⟨0x6900, 256, 0x05, 0x05, .u16, .rwx, .live, .operator, 0, [], 1⟩, -- source
    ⟨0x6900, 256, 0x06, 0x06, .u16, .rwx, .live, .operator, 16, [], 1⟩, -- consumer
    ⟨0x6900, 256, 0x07, 0x07, .u8, .rw, .live, .operator, 0, [], 1⟩, -- gate
    ⟨0x6900, 256, 0x08, 0x08, .bool, .rw, .live, .operator, 0, [], 1⟩, -- invert
    ⟨0x6900, 256, 0x09, 0x09, .enum8, .rwx, .live, .operator, 1, [(0, 3)], 1⟩, -- class
    ⟨0x6900, 256, 0x0A, 0x0A, .u64, .ro, .live, .nobody, 0, [], 1⟩, -- delivered
    ⟨0x6900, 256, 0x0B, 0x0B, .u32, .ro, .live, .nobody, 0, [], 1⟩, -- gated
    ⟨0x6900, 256, 0x0C, 0x0C, .u32, .ro, .live, .nobody, 0, [], 1⟩, -- loops
    ⟨0x6900, 256, 0x0D, 0x0D, .u32, .ro, .live, .nobody, 0, [], 1⟩, -- secure_drops
    ⟨0x6900, 256, 0x0E, 0x0E, .u64, .ro, .live, .nobody, 0, [], 1⟩, -- last_sc
    ⟨0x6900, 256, 0x0F, 0x0F, .u16, .ro, .live, .nobody, 0, [], 1⟩, -- last_payload
    ⟨0x6900, 256, 0x10, 0x10, .u16, .ro, .live, .nobody, 0, [], 1⟩ ] -- last_generation

/-- The rows of indices 6A00h to 6AFFh. -/
def dictRows6A : List Row :=
  [ -- R506
    ⟨0x6A00, 1, 0x00, 0x00, .u8, .ro, .live, .nobody, 2, [], 1⟩, -- count
    ⟨0x6A00, 1, 0x01, 0x01, .u16, .ro, .live, .nobody, 0, [], 1⟩, -- sources
    ⟨0x6A00, 1, 0x02, 0x02, .u8, .ro, .live, .nobody, 64, [], 1⟩, -- counters
    ⟨0x6A10, 8, 0x00, 0x00, .u8, .ro, .live, .nobody, 8, [], 1⟩, -- count
    ⟨0x6A10, 8, 0x01, 0x01, .enum8, .rw, .live, .operator, 0, [(0, 3)], 1⟩, -- trigger
    ⟨0x6A10, 8, 0x02, 0x02, .time80, .rw, .live, .operator, 0, [], 1⟩, -- time
    ⟨0x6A10, 8, 0x03, 0x03, .u64, .rw, .live, .operator, 0, [], 1⟩, -- period
    ⟨0x6A10, 8, 0x04, 0x04, .bool, .rw, .live, .operator, 0, [], 1⟩, -- clear_on_snap
    ⟨0x6A10, 8, 0x05, 0x05, .u64, .ro, .live, .nobody, 0, [], 1⟩, -- snapshots
    ⟨0x6A10, 8, 0x06, 0x06, .time80, .ro, .live, .nobody, 0, [], 1⟩, -- last_time
    ⟨0x6A10, 8, 0x07, 0x07, .u64, .ro, .live, .nobody, 0, [], 1⟩, -- last_sc
    ⟨0x6A10, 8, 0x08, 0x08, .cmd, .cmd, .live, .operator, 0, [], 1⟩, -- snap_now
    ⟨0x6A40, 64, 0x00, 0x00, .u8, .ro, .live, .nobody, 9, [], 1⟩, -- count
    ⟨0x6A40, 64, 0x01, 0x01, .bool, .rw, .live, .operator, 0, [], 1⟩, -- enable
    ⟨0x6A40, 64, 0x02, 0x02, .enum8, .ro, .live, .nobody, 0, [], 1⟩, -- status
    ⟨0x6A40, 64, 0x03, 0x03, .u16, .rwx, .live, .operator, 0, [], 1⟩, -- source
    ⟨0x6A40, 64, 0x04, 0x04, .enum8, .rwx, .live, .operator, 0, [(0, 2)], 1⟩, -- mode
    ⟨0x6A40, 64, 0x05, 0x05, .u8, .rwx, .live, .operator, 255, [(0, 7), (255, 255)], 1⟩, -- group
    ⟨0x6A40, 64, 0x06, 0x06, .u64, .ro, .live, .nobody, 0, [], 1⟩, -- value
    ⟨0x6A40, 64, 0x07, 0x07, .u64, .ro, .live, .nobody, 0, [], 1⟩ ] -- snapshot
  ++ [ -- R506
    ⟨0x6A40, 64, 0x08, 0x08, .bits8, .w1c, .live, .operator, 0, [], 1⟩, -- flags
    ⟨0x6A40, 64, 0x09, 0x09, .cmd, .cmd, .live, .operator, 0, [], 1⟩ ] -- clear

/-- The rows of indices 7000h to 70FFh. -/
def dictRows70 : List Row :=
  [ -- R525, R526
    ⟨0x7000, 1, 0x00, 0x00, .u8, .ro, .live, .nobody, 8, [], 1⟩, -- count
    ⟨0x7000, 1, 0x01, 0x01, .bool, .ro, .live, .nobody, 0, [], 1⟩, -- recovering
    ⟨0x7000, 1, 0x02, 0x02, .u32, .ro, .live, .nobody, 0, [], 1⟩, -- recoveries
    ⟨0x7000, 1, 0x03, 0x03, .u32, .ro, .live, .nobody, 0, [], 1⟩, -- max_interruption
    ⟨0x7000, 1, 0x04, 0x04, .bits32, .ro, .live, .nobody, 0, [], 1⟩, -- conditions
    ⟨0x7000, 1, 0x05, 0x05, .bits32, .rw, .live, .operator, 295, [(0, 4095)], 1⟩, -- fault_n_mask
    ⟨0x7000, 1, 0x06, 0x06, .bool, .ro, .live, .nobody, 0, [], 1⟩, -- fault_n
    ⟨0x7000, 1, 0x07, 0x07, .u64, .ro, .live, .nobody, 0, [], 1⟩, -- records
    ⟨0x7000, 1, 0x08, 0x08, .u32, .ro, .live, .nobody, 0, [], 1⟩, -- fabric_suppressed
    ⟨0x7001, 1, 0x00, 0x00, .u8, .ro, .live, .nobody, 33, [], 1⟩, -- count
    ⟨0x7001, 1, 0x01, 0x01, .u8, .ro, .live, .nobody, 0, [], 1⟩, -- next
    ⟨0x7001, 1, 0x02, 0x21, (.octets 32), .ro, .live, .nobody, 0, [], 1⟩, -- record
    ⟨0x7002, 1, 0x00, 0x00, .u8, .ro, .live, .nobody, 15, [], 1⟩, -- count
    ⟨0x7002, 1, 0x01, 0x0F, .u32, .ro, .live, .nobody, 0, [], 1⟩, -- by_class
    ⟨0x7010, 1, 0x00, 0x00, .u8, .ro, .live, .nobody, 10, [], 1⟩, -- count
    ⟨0x7010, 1, 0x01, 0x01, (.domain 1048576), .rw, .live, .integrator, 0, [], 1⟩, -- image
    ⟨0x7010, 1, 0x02, 0x02, .enum8, .ro, .live, .nobody, 0, [], 1⟩, -- image_status
    ⟨0x7010, 1, 0x03, 0x03, .cmd, .cmd, .live, .integrator, 0, [], 1⟩, -- activate
    ⟨0x7010, 1, 0x04, 0x04, .enum8, .ro, .live, .nobody, 0, [], 1⟩, -- update_state
    ⟨0x7010, 1, 0x05, 0x05, .u8, .ro, .live, .nobody, 0, [], 1⟩ ] -- running_slot
  ++ [ -- R526
    ⟨0x7010, 1, 0x06, 0x06, .u8, .ro, .live, .nobody, 0, [], 1⟩, -- boot_slot
    ⟨0x7010, 1, 0x07, 0x07, .u32, .ro, .live, .nobody, 0, [], 1⟩, -- slot0_version
    ⟨0x7010, 1, 0x08, 0x08, .u32, .ro, .live, .nobody, 0, [], 1⟩, -- slot1_version
    ⟨0x7010, 1, 0x09, 0x09, .u16, .rw, .live, .operator, 600, [(60, 65535)], 1⟩, -- probation
    ⟨0x7010, 1, 0x0A, 0x0A, .u32, .ro, .live, .nobody, 0, [], 1⟩, -- updates
    ⟨0x7020, 1, 0x00, 0x00, .u8, .ro, .live, .nobody, 7, [], 1⟩, -- count
    ⟨0x7020, 1, 0x01, 0x01, .u8, .ro, .live, .nobody, 0, [], 1⟩, -- active
    ⟨0x7020, 1, 0x02, 0x02, .enum8, .ro, .live, .nobody, 0, [], 1⟩, -- m0_state
    ⟨0x7020, 1, 0x03, 0x03, .enum8, .ro, .live, .nobody, 1, [], 1⟩, -- m1_state
    ⟨0x7020, 1, 0x04, 0x04, .u32, .ro, .live, .nobody, 0, [], 1⟩, -- failovers
    ⟨0x7020, 1, 0x05, 0x05, .enum8, .ro, .live, .nobody, 0, [], 1⟩, -- last_cause
    ⟨0x7020, 1, 0x06, 0x06, .cmd, .cmd, .live, .integrator, 0, [], 1⟩, -- failover
    ⟨0x7020, 1, 0x07, 0x07, .u32, .ro, .live, .nobody, 0, [], 1⟩ ] -- last_gap

/-- The rows of indices 7400h to 74FFh. -/
def dictRows74 : List Row :=
  [ -- R550, R551
    ⟨0x7400, 1, 0x00, 0x00, .u8, .ro, .live, .nobody, 16, [], 1⟩, -- count
    ⟨0x7400, 1, 0x01, 0x01, .i16, .ro, .live, .nobody, 0, [], 1⟩, -- junction
    ⟨0x7400, 1, 0x02, 0x02, .i16, .ro, .live, .nobody, 0, [], 1⟩, -- junction_max
    ⟨0x7400, 1, 0x03, 0x03, .u8, .ro, .live, .nobody, 0, [], 1⟩, -- hot_sensor
    ⟨0x7400, 1, 0x04, 0x04, .u8, .rw, .live, .operator, 95, [], 1⟩, -- warn
    ⟨0x7400, 1, 0x05, 0x05, .u8, .rw, .live, .operator, 105, [], 1⟩, -- throttle_at
    ⟨0x7400, 1, 0x06, 0x06, .u8, .ro, .live, .nobody, 120, [], 1⟩, -- shutdown_at
    ⟨0x7400, 1, 0x07, 0x07, .u8, .ro, .live, .nobody, 5, [], 1⟩, -- hysteresis
    ⟨0x7400, 1, 0x08, 0x08, .enum8, .rw, .live, .operator, 1, [(1, 3)], 1⟩, -- throttle_mode
    ⟨0x7400, 1, 0x09, 0x09, .u8, .rw, .live, .operator, 8, [(3, 64)], 1⟩, -- skip_n
    ⟨0x7400, 1, 0x0A, 0x0A, .bool, .rw, .live, .operator, 0, [], 1⟩, -- force_throttle
    ⟨0x7400, 1, 0x0B, 0x0B, .bits8, .ro, .live, .nobody, 0, [], 1⟩, -- thermal_flags
    ⟨0x7400, 1, 0x0C, 0x0C, .u32, .ro, .live, .nobody, 0, [], 1⟩, -- warnings
    ⟨0x7400, 1, 0x0D, 0x0D, .u32, .ro, .live, .nobody, 0, [], 1⟩, -- throttles
    ⟨0x7400, 1, 0x0E, 0x0E, .u64, .ro, .live, .nobody, 0, [], 1⟩, -- throttle_time
    ⟨0x7400, 1, 0x0F, 0x0F, .u64, .ro, .live, .nobody, 0, [], 1⟩, -- rounds
    ⟨0x7400, 1, 0x10, 0x10, .u8, .ro, .live, .nobody, 0, [], 1⟩, -- ignored_restarts
    ⟨0x7410, 1, 0x00, 0x00, .u8, .ro, .live, .nobody, 32, [], 1⟩, -- count
    ⟨0x7410, 1, 0x01, 0x20, .i16, .ro, .live, .nobody, 0, [], 1⟩, -- temperature
    ⟨0x7411, 1, 0x00, 0x00, .u8, .ro, .live, .nobody, 32, [], 1⟩ ] -- count
  ++ [ -- R551, R552
    ⟨0x7411, 1, 0x01, 0x20, .i16, .ro, .live, .nobody, 0, [], 1⟩, -- raw
    ⟨0x7412, 1, 0x00, 0x00, .u8, .ro, .live, .nobody, 2, [], 1⟩, -- count
    ⟨0x7412, 1, 0x01, 0x01, .bits32, .ro, .live, .nobody, 0, [], 1⟩, -- failed
    ⟨0x7412, 1, 0x02, 0x02, .bits32, .ro, .live, .nobody, 0, [], 1⟩, -- mismatch
    ⟨0x7420, 1, 0x00, 0x00, .u8, .ro, .live, .nobody, 40, [], 1⟩, -- count
    ⟨0x7420, 1, 0x01, 0x28, .u16, .ro, .live, .nobody, 0, [], 1⟩, -- voltage
    ⟨0x7430, 1, 0x00, 0x00, .u8, .ro, .live, .nobody, 24, [], 1⟩, -- count
    ⟨0x7430, 1, 0x01, 0x18, .u16, .ro, .live, .nobody, 0, [], 1⟩, -- current
    ⟨0x7480, 1, 0x00, 0x00, .u8, .ro, .live, .nobody, 7, [], 1⟩, -- count
    ⟨0x7480, 1, 0x01, 0x01, .u16, .ro, .live, .nobody, 0, [], 1⟩, -- newest
    ⟨0x7480, 1, 0x02, 0x02, .u32, .ro, .live, .nobody, 0, [], 1⟩, -- written
    ⟨0x7480, 1, 0x03, 0x03, .u16, .rw, .live, .operator, 0, [(0, 4095)], 1⟩, -- select
    ⟨0x7480, 1, 0x04, 0x04, (.octets 32), .ro, .live, .nobody, 0, [], 1⟩, -- record
    ⟨0x7480, 1, 0x05, 0x05, .enum8, .ro, .live, .nobody, 0, [], 1⟩, -- slot_state
    ⟨0x7480, 1, 0x06, 0x06, .u8, .ro, .live, .nobody, 0, [], 1⟩, -- deferred
    ⟨0x7480, 1, 0x07, 0x07, .u32, .ro, .live, .nobody, 0, [], 1⟩, -- deferred_lost
    ⟨0x7481, 1, 0x00, 0x00, .u8, .ro, .live, .nobody, 16, [], 1⟩, -- count
    ⟨0x7481, 1, 0x01, 0x10, (.octets 32), .ro, .live, .nobody, 0, [], 1⟩ ] -- queued

/-- The rows of indices 7800h to 78FFh. -/
def dictRows78 : List Row :=
  [ -- R553
    ⟨0x7800, 1, 0x00, 0x00, .u8, .ro, .live, .nobody, 10, [], 1⟩, -- count
    ⟨0x7800, 1, 0x01, 0x01, .enum8, .ro, .live, .nobody, 2, [], 1⟩, -- boot_state
    ⟨0x7800, 1, 0x02, 0x02, .enum8, .ro, .live, .nobody, 0, [], 1⟩, -- reset_cause
    ⟨0x7800, 1, 0x03, 0x03, .u8, .ro, .live, .nobody, 0, [], 1⟩, -- slot_booted
    ⟨0x7800, 1, 0x04, 0x04, .enum8, .ro, .live, .nobody, 0, [], 1⟩, -- slot0_check
    ⟨0x7800, 1, 0x05, 0x05, .enum8, .ro, .live, .nobody, 0, [], 1⟩, -- slot1_check
    ⟨0x7800, 1, 0x06, 0x06, .u32, .ro, .live, .nobody, 0, [], 1⟩, -- dict_time
    ⟨0x7800, 1, 0x07, 0x07, .u32, .ro, .live, .nobody, 0, [], 1⟩, -- ready_time
    ⟨0x7800, 1, 0x08, 0x08, .u32, .ro, .live, .nobody, 0, [], 1⟩, -- boots
    ⟨0x7800, 1, 0x09, 0x09, .u16, .ro, .live, .nobody, 0, [], 1⟩, -- selftest_tiles
    ⟨0x7800, 1, 0x0A, 0x0A, .u8, .ro, .live, .nobody, 0, [], 1⟩ ] -- lanes_uncal

/-- The rows of indices F400h to F4FFh. -/
def dictRowsF4 : List Row :=
  [ -- R181
    ⟨0xF400, 1, 0x00, 0x00, .u8, .ro, .live, .nobody, 8, [], 1⟩, -- count
    ⟨0xF400, 1, 0x01, 0x01, .u16, .rw, .live, .operator, 0, [(0, 271)], 1⟩, -- tile
    ⟨0xF400, 1, 0x02, 0x02, .u8, .rw, .live, .operator, 0, [(0, 23)], 1⟩, -- slot
    ⟨0xF400, 1, 0x03, 0x03, .u8, .rw, .live, .operator, 0, [(0, 1)], 1⟩, -- half
    ⟨0xF400, 1, 0x04, 0x04, (.domain 32768), .ro, .live, .nobody, 0, [], 1⟩, -- bin_data
    ⟨0xF400, 1, 0x05, 0x05, (.octets 64), .ro, .live, .nobody, 0, [], 1⟩, -- bin_tag
    ⟨0xF400, 1, 0x06, 0x06, .u8, .rw, .live, .operator, 0, [(0, 1)], 1⟩, -- bank
    ⟨0xF400, 1, 0x07, 0x07, (.domain 32768), .ro, .live, .nobody, 0, [], 1⟩, -- short_sums
    ⟨0xF400, 1, 0x08, 0x08, (.octets 32), .ro, .live, .nobody, 0, [], 1⟩ ] -- bank_tag

/-- The rows of indices F500h to F5FFh. -/
def dictRowsF5 : List Row :=
  [ -- R312
    ⟨0xF500, 16, 0x00, 0x00, .u8, .ro, .live, .nobody, 9, [], 1⟩, -- count
    ⟨0xF500, 16, 0x01, 0x01, .cmd, .cmd, .live, .operator, 0, [], 1⟩, -- halt
    ⟨0xF500, 16, 0x02, 0x02, .cmd, .cmd, .live, .operator, 0, [], 1⟩, -- resume
    ⟨0xF500, 16, 0x03, 0x03, .cmd, .cmd, .live, .operator, 0, [], 1⟩, -- step
    ⟨0xF500, 16, 0x04, 0x04, .u16, .rw, .live, .operator, 65535, [], 1⟩, -- bp0
    ⟨0xF500, 16, 0x05, 0x05, .u16, .rw, .live, .operator, 65535, [], 1⟩, -- bp1
    ⟨0xF500, 16, 0x06, 0x06, .u16, .rw, .live, .operator, 65535, [], 1⟩, -- bp2
    ⟨0xF500, 16, 0x07, 0x07, .u16, .rw, .live, .operator, 65535, [], 1⟩, -- bp3
    ⟨0xF500, 16, 0x08, 0x08, .u16, .ro, .live, .nobody, 0, [], 1⟩, -- halted_pc
    ⟨0xF500, 16, 0x09, 0x09, (.octets 356), .rw, .live, .operator, 0, [], 1⟩ ] -- regs

/-- The rows of the page an index lies in (R455). -/
def dictPage (page : Nat) : List Row :=
  match page with
  | 0x10 => dictRows10
  | 0x11 => dictRows11
  | 0x20 => dictRows20
  | 0x21 => dictRows21
  | 0x22 => dictRows22
  | 0x23 => dictRows23
  | 0x24 => dictRows24
  | 0x25 => dictRows25
  | 0x26 => dictRows26
  | 0x27 => dictRows27
  | 0x28 => dictRows28
  | 0x29 => dictRows29
  | 0x2A => dictRows2A
  | 0x2B => dictRows2B
  | 0x30 => dictRows30
  | 0x34 => dictRows34
  | 0x36 => dictRows36
  | 0x38 => dictRows38
  | 0x39 => dictRows39
  | 0x40 => dictRows40
  | 0x44 => dictRows44
  | 0x48 => dictRows48
  | 0x50 => dictRows50
  | 0x51 => dictRows51
  | 0x58 => dictRows58
  | 0x5C => dictRows5C
  | 0x5D => dictRows5D
  | 0x60 => dictRows60
  | 0x64 => dictRows64
  | 0x68 => dictRows68
  | 0x69 => dictRows69
  | 0x6A => dictRows6A
  | 0x70 => dictRows70
  | 0x74 => dictRows74
  | 0x78 => dictRows78
  | 0xF4 => dictRowsF4
  | 0xF5 => dictRowsF5
  | _ => []

end Sys2Proof.Machine
end

