-- ==== Sys2Proof/Machine/StateCamera.lean ====
section
/-! DEFINITION. Plain-data state of the image front end, the frame store, Dovetail and Gleaner beside their entries (chapters 7 and 8). -/

namespace Sys2Proof.Machine

/-- A line clock edge as the front end keeps it (R213, R447): its line index, SC, TB0, axis position, and the LTRIG balls that repeat it with their delays. -/
structure EdgeRec where
  index : Nat
  sc : Nat
  tb0 : Nat
  position : Int
  balls : List (Nat × Nat)
  deriving DecidableEq, Repr

/-- A line of a camera as received (R217, R219): for each row, segments of raw pixels (first pixel, values) and the GEN values seen. Stage A corrects
them with the flat field of the output line they belong to (R220, R222). -/
structure CamLine where
  line : Nat
  rows : List (List (Nat × List Nat))
  gens : List (List Nat)
  deriving DecidableEq, Repr

/-- A statistics record being gathered (R230, R233). `flags` is its flag byte; `sums` holds the six sums of words 9 to 14. -/
structure StatsAcc where
  frame : Nat
  lines : Nat
  excluded : Nat
  pixels : Nat
  rawSat : Nat
  clamped : Nat
  replaced : Nat
  lo : Nat
  hi : Nat
  sums : List Nat
  hist : List Nat
  flags : Nat
  deriving DecidableEq, Repr

/-- What an output line carries to Dovetail beside its planes (R224, R247): its line index, frame, settings generation, configuration epoch and flags.
Its Y plane stays with it for registration (R253). -/
structure FifoLine where
  line : Nat
  frame : Nat
  gen : Nat
  cfgEpoch : Nat
  dual : Bool
  isPartial : Bool
  missing : Bool
  genMismatch : Bool
  splitGen : Bool
  y : List Nat
  deriving DecidableEq, Repr

/-- An accepted packet in the raw input buffer, before stage A (R234, R235): its camera and line, and its bytes. -/
structure RawPacket where
  cam : Nat
  line : Nat
  bytes : Nat
  deriving DecidableEq, Repr

/-- A statistics packet its stream has not sent yet (R231): the stream, its words, and the line index of the edge at which it is discarded. -/
structure StatsOwed where
  stream : Nat
  words : List Nat
  limit : Nat
  deriving DecidableEq, Repr

/-- A camera: its first output line and, when disabled, its last; the next output line of stage B; received lines; the rows of the previous output line;
statistics in hand and those closed; its FIFO lines, newest first. -/
structure Camera where
  firstLine : Option Nat
  lastLine : Option Nat
  nextOut : Nat
  lines : List CamLine
  prev : List (List Nat)
  stats : Option StatsAcc
  ready : List StatsAcc
  fifo : List FifoLine
  deriving DecidableEq, Repr

/-- The front end and the frame store. -/
structure FrontState where
  /-- Edges of the run, newest first. -/
  edges : List EdgeRec
  /-- Last line of the frame in progress when the front end was disabled. -/
  lastLine : Option Nat
  cams : List Camera
  /-- Settings generations with the first frame in which each is in force, newest first (R226). -/
  gens : List (Nat × Nat)
  /-- Settings (camera, sub-index) changed and not yet sent, and the frame in which they were (R226). -/
  changed : List (Nat × Nat)
  changeFrame : Option Nat
  /-- Frame store slot being written, with its frame. -/
  writing : Option (Nat × Nat)
  /-- Slots whose hold takes effect when they become FILLED (R238). -/
  holds : List Nat
  /-- Slot size fixed at enable (R236). -/
  slotSize : Nat
  /-- Packets that wait for stage A, oldest first, and the rotating pointers of stages A and B (R234). -/
  raw : List RawPacket
  ptrA : Nat
  ptrB : Nat
  owed : List StatsOwed
  deriving DecidableEq, Repr

/-- A registration round (R252 to R257): its frame, first line, SLEN, records copied, corrections of each slot at its start, slots whose pair has passed,
and whether its records are written, all copied, and its reads over. -/
structure Round where
  frame : Nat
  l0 : Nat
  slen : Nat
  copied : Nat
  start : List (Int × Int)
  /-- pos and line advance of each slot in force for the frame. -/
  pos : List Int
  adv : List Nat
  passed : List Nat
  written : Bool
  complete : Bool
  ovr : Bool
  deriving DecidableEq, Repr

/-- A correction that applies at the first line of a frame (R257, R258). -/
structure CorrUpdate where
  frame : Nat
  slot : Nat
  pos : Int
  line : Int
  clear : Bool
  deriving DecidableEq, Repr

/-- A stitched line on its way to Gleaner: its Y plane and the pixel intervals that R260 excludes. -/
structure StitchedLine where
  line : Nat
  y : List Nat
  excluded : List (Nat × Nat)
  deriving DecidableEq, Repr

/-- Dovetail. -/
structure DoveState where
  /-- A run is in progress: stitched line `next` follows. -/
  running : Bool
  /-- No line of the run has been stitched yet. -/
  fresh : Bool
  next : Nat
  lastLine : Option Nat
  round : Option Round
  updates : List CorrUpdate
  deriving DecidableEq, Repr

/-- An open blob (R261 to R264). `sumL` adds line indices, so that the row sum over any top line follows. -/
structure Blob where
  id : Nat
  y0 : Nat
  first : Nat
  xmin : Nat
  xmax : Nat
  area : Nat
  sumX : Nat
  sumL : Nat
  maxDev : Nat
  sumDev : Nat
  bright : Bool
  dark : Bool
  flagged : Bool
  cont : Bool
  strong : Bool
  last : Nat
  deriving DecidableEq, Repr

/-- Gleaner: stitched lines waiting, column states, open blobs, labels of the previous line, records so far of each frame. -/
structure GleanState where
  running : Bool
  fresh : Bool
  queue : List StitchedLine
  cols : List Nat
  blobs : List Blob
  labels : List (Nat × Nat)
  nextId : Nat
  counts : List (Nat × Nat)
  deriving DecidableEq, Repr

/-- Inspection: front end, Dovetail and Gleaner. -/
structure InspectState where
  front : FrontState
  dove : DoveState
  glean : GleanState
  deriving DecidableEq, Repr

/-- A camera that has delivered nothing. -/
def Camera.reset : Camera := ⟨none, none, 0, [], [], none, [], []⟩
/-- A front end before its first run. -/
def FrontState.reset : FrontState := ⟨[], none, List.replicate 16 Camera.reset, [], [], none, none, [], 0, [], 0, 0, []⟩
/-- Dovetail before its first run. -/
def DoveState.reset : DoveState := ⟨false, false, 0, none, none, []⟩
/-- Gleaner before its first run. -/
def GleanState.reset : GleanState := ⟨false, false, [], [], [], [], 0, []⟩
/-- Inspection after reset. -/
def InspectState.reset : InspectState := ⟨FrontState.reset, DoveState.reset, GleanState.reset⟩

end Sys2Proof.Machine
end

