-- ==== Sys2Proof/Machine/StateCrib.lean ====
section
/-! DEFINITION. Plain-data state of the crib, its readers, the lofts and the silos beside their entries (chapter 3). -/

namespace Sys2Proof.Machine

/-- A claimed slab, or a lost one with no address (R93). `written` lists the sample numbers written so far: ((c × nb + r) × 64 + spectrum) × 64 + input. -/
structure Slab where
  index : Nat
  addr : Option Nat
  written : List Nat
  deriving DecidableEq, Repr

/-- The window a crib reader is reading (R97): the values in force for it, the place reached in the channel list, and the next step.
`ending` tells that the crib is being disabled: the step in progress is the last (R111). -/
structure ReadWindow where
  len : Nat
  step : Nat
  chans : List Nat
  done : Nat
  next : Nat
  ending : Bool
  deriving DecidableEq, Repr

/-- A bay's crib reader (R96, R97): first spectrum of its current or next window. -/
structure BayReader where
  start : Nat
  reading : Option ReadWindow
  deriving DecidableEq, Repr

/-- One half of a loft (R97). `samples` maps a sample number (rank × S + spectrum) × 64 + input to its stored bits; one not listed is flagged.
`seq` numbers the fills of the bay; `taken` tells that the Jig has taken the half (R132). -/
structure LoftHalf where
  held : Bool
  taken : Bool
  seq : Nat
  window : Nat
  channel : Nat
  step : Nat
  spectra : Nat
  /-- Steps T/S of a channel in this window, and the first and last channel of the bay's set (R136). -/
  steps : Nat
  firstChannel : Nat
  lastChannel : Nat
  blocks : Nat
  format : Nat
  sc : Nat
  period : Nat
  origin : Nat
  samples : List (Nat × Nat)
  deriving DecidableEq, Repr

/-- A silo beside its entries (R104 to R108): its window is the slabs `first` up to but not including `stop`; `slabs` holds index and address of each pinned slab.
Slabs from `later` on are pinned when claimed, until `closed`. -/
structure Silo where
  first : Nat
  stop : Nat
  inEffect : Bool
  later : Nat
  closed : Bool
  slabs : List (Nat × Nat)
  blocks : Nat
  channels : Nat
  format : Nat
  period : Nat
  origin : Nat
  deriving DecidableEq, Repr

/-- The silo readout that runs (R109, R110): its ranges, and the next slab, channel, rank and half granule. -/
structure Readout where
  silo : Nat
  stream : Nat
  firstChannel : Nat
  lastChannel : Nat
  firstRank : Nat
  lastRank : Nat
  slab : Nat
  channel : Nat
  rank : Nat
  half : Nat
  deriving DecidableEq, Repr

/-- The crib. `ring` holds the byte address of each ring position; every slab below `sealedTo` is sealed. -/
structure CribState where
  ring : List Nat
  slabs : List Slab
  sealedTo : Nat
  /-- Input spectra accepted, per block and channel: ((n × 4096 + c) × 128 + b) (R84). -/
  accepted : List Nat
  bays : List BayReader
  /-- Two halves a bay: half h of bay k at 2k + h. -/
  lofts : List LoftHalf
  silos : List Silo
  readout : Option Readout
  deriving DecidableEq, Repr

/-- A half that holds nothing. -/
def LoftHalf.reset : LoftHalf :=
  { held := false, taken := false, seq := 0, window := 0, channel := 0, step := 0, spectra := 0, steps := 1, firstChannel := 0, lastChannel := 0,
    blocks := 0, format := 0, sc := 0, period := 1, origin := 0, samples := [] }

/-- A silo never filled. -/
def Silo.reset : Silo := ⟨0, 0, false, 0, false, [], 0, 0, 0, 1, 0⟩

/-- The crib with no ring. -/
def CribState.reset : CribState :=
  { ring := [], slabs := [], sealedTo := 0, accepted := [], bays := List.replicate 4 ⟨0, none⟩,
    lofts := List.replicate 8 LoftHalf.reset, silos := List.replicate 64 Silo.reset, readout := none }

end Sys2Proof.Machine
end

