-- ==== Sys2Proof/Machine/StateDram.lean ====
section
/-! DEFINITION. Plain-data state of the DRAM controllers and the parity engine beside their entries (chapter 11). The devices' bytes are `State.dram`. -/

namespace Sys2Proof.Machine

/-- An open unit assembly (R341): protected unit, one bit for each byte written, the TCLK tick at which it opened, and its 64 bytes. -/
structure Assembly where
  unit : Nat
  mask : Nat
  opened : Nat
  data : Bytes
  deriving DecidableEq, Repr

/-- A stripe's parity accumulator (R341): a bit for each data position that has closed since it opened, the XOR of the units closed, and what the
stripe's parity differs from the parity unit in its devices by. -/
structure StripeAcc where
  closed : Nat
  sum : Bytes
  delta : Bytes
  deriving DecidableEq, Repr

/-- A request that waits at a controller (R346): channel, local unit, the offset and bytes of a write, class, and the tick it came. -/
structure DramReq where
  ch : Nat
  unit : Nat
  write : Option (Nat × Bytes)
  cls : Nat
  tick : Nat
  deriving DecidableEq, Repr

/-- A write that waits for space in the parity engine (R341): unit, offset, bytes and class. -/
structure EngineWriter where
  unit : Nat
  off : Nat
  data : Bytes
  cls : Nat
  deriving DecidableEq, Repr

/-- What a channel holds: its LFSR (R350), open rows keyed by bank (R346), the banks whose open row has its neighbours to be refreshed once it closes
(R350), the scrub's next local unit (R345), ticks of uncorrectable units within the last millisecond (R352), postponed refreshes of each rank (R349),
whether tREFI is halved, the ranks that have yet to take new delays and the block they take (R358), the class U meter: window and units (R348), and
the rebuild's progress point with the bits of reading saved up for the next unit (R353). -/
structure DramChannel where
  lfsr : Nat
  rows : List (Nat × Nat)
  owed : List Nat
  scrub : Nat
  errors : List Nat
  postponed : List Nat
  halved : Bool
  applyRanks : List Nat
  applyBlock : Bytes
  meterWindow : Nat
  meterUnits : Nat
  progress : Nat
  credit : Nat
  deriving DecidableEq, Repr

/-- DRAM controllers and parity engine. -/
structure DramState where
  /-- Open assemblies, oldest first. -/
  assemblies : List Assembly
  /-- Stripe accumulators, keyed by stripe. -/
  stripes : List (Nat × StripeAcc)
  /-- Device units whose content is uncorrectable, keyed channel × 2^40 + unit of the devices (R344). -/
  bad : List Nat
  channels : List (Nat × DramChannel)
  /-- Next channel of a frequency change in progress (R360). -/
  freqNext : Option Nat
  /-- Requests at the controllers that wait, oldest first. -/
  queue : List DramReq
  /-- Writes that wait for the parity engine, oldest first. -/
  writers : List EngineWriter
  deriving DecidableEq, Repr

/-- A delay block without delays: speed and organisation alone (R355). -/
def emptyBlock (speed org : Nat) : Bytes := [BitVec.ofNat 8 speed, BitVec.ofNat 8 org] ++ zeroBytes 1086

/-- Number of the magic of a delay table (R356). -/
abbrev tableMagic : Nat := 0x4B444C59

/-- The delay table of R356 without its CRC: organisation, channels, start-up speed, and the blocks of each speed present. -/
def tableBytes (org n start : Nat) (known : List (Nat × List Bytes)) : Bytes :=
  beBytes 4 tableMagic ++ beBytes 2 1 ++ [BitVec.ofNat 8 org, BitVec.ofNat 8 n, BitVec.ofNat 8 (known.foldl (fun a p => a + 2 ^ p.1) 0), BitVec.ofNat 8 start]
    ++ zeroBytes 54 ++ known.flatMap (fun p => p.2.flatten)

/-- A channel with no row open; its LFSR is seeded from the entropy source at each start (R350, log 5). -/
def DramChannel.reset (boot ch : Nat) : DramChannel :=
  ⟨(Config.lfsrSeed boot ch).toNat, [], [], 0, [], [0, 0], false, [], [], 0, 0, 0, 0⟩
/-- DRAM after reset. -/
def DramState.reset : DramState := ⟨[], [], [], [], none, [], []⟩

end Sys2Proof.Machine
end

