-- ==== Sys2Proof/Machine/StateDsp.lean ====
section
/-! DEFINITION. Plain-data state of the DSP cores beside their entries (chapter 9). -/

namespace Sys2Proof.Machine

/-- A complex accumulator: two components within ±(2^39 − 1) and its poison bit (R278, R281). -/
structure DspAcc where
  re : Int
  im : Int
  poison : Bool
  deriving DecidableEq, Repr

/-- A register write on its way (R291). -/
inductive RegWrite where
  | d (i : Nat) (v : Word32) (poison : Bool)
  | a (i : Nat) (v : Word32)
  | m (i : Nat) (v : Word32)
  /-- An accumulator as MVA and MVA2 see it. -/
  | ac (i : Nat) (v : DspAcc)
  | cr (sel : Nat) (v : Nat)
  | flag (i : Nat) (b : Bool)
  | ie (b : Bool)
  | lr (v : Nat)
  deriving DecidableEq, Repr

/-- A write, the number of the first bundle that sees it, and whether a load makes it. -/
structure PendWrite where
  due : Nat
  load : Bool
  what : RegWrite
  deriving DecidableEq, Repr

/-- An outstanding far access (R299): its number, whether it is a store, its destination, byte address and data, its bundle, and whether the fabric has it. -/
structure FarOp where
  id : Nat
  store : Bool
  dst : Nat
  addr : Nat
  data : Nat
  bundle : Nat
  sent : Bool
  deriving DecidableEq, Repr

/-- A response on its way to a core: the access, its cause (R381) and its word. -/
structure FarResp where
  id : Nat
  cause : Nat
  data : Nat
  deriving DecidableEq, Repr

/-- A running repeat (R294): first bundle, length, iterations still to run after this one; `armed` until its REP bundle ends. -/
structure Repeat where
  start : Nat
  len : Nat
  left : Nat
  armed : Bool
  deriving DecidableEq, Repr

/-- A trap raised and not yet taken (R303): cause, TRAP code, bundle, data address, later faults. -/
structure PendTrap where
  cause : Nat
  code : Nat
  bundle : Nat
  data : Nat
  further : Nat
  deriving DecidableEq, Repr

/-- What a core whose status is no longer ON still does before it stops: it issues up to its next boundary, or copies an image (R307, R308). -/
inductive DspEnding where
  | issuing | loading
  deriving DecidableEq, Repr

/-- A DSP core (R276 to R280). `sr` holds the writable bits of SR; S and REPA are computed. `bundle` counts bundles, for R291. -/
structure DspCore where
  d : List Word32
  dPoison : List Bool
  a : List Word32
  m : List Word32
  /-- The accumulators as the next accumulating operation sees them. -/
  ac : List DspAcc
  /-- The accumulators as MVA and MVA2 see them. -/
  acOut : List DspAcc
  sr : Nat
  imr : Nat
  vbr : Nat
  epc : Nat
  esr : Nat
  ecause : Nat
  eaddr : Nat
  edata : Nat
  lr : Nat
  lc : Nat
  bxm : Nat
  bsh : Nat
  bexp : Nat
  /-- DSPCLK ticks since enable, 64 bits, and the latch of CYCH. -/
  cycl : Nat
  cych : Nat
  am : List Nat
  ab : List Word32
  pc : Nat
  bundle : Nat
  /-- Instruction memory: one 64-bit bundle an entry, from bundle 0, as far as images have written it; the rest of its 8,192 bundles hold 0
  (DESIGN CHOICE, log 56). -/
  imem : List Nat
  /-- Data memory by byte address; a byte not listed is 0 (R308). -/
  dmem : List Host.Cell
  /-- Slot A of the bundle at `pc` has issued and its slot B follows. -/
  issued : Bool
  writes : List PendWrite
  /-- The DIV in flight (R291). -/
  div : Option PendWrite
  /-- Target of a branch, and the bundles until it issues: 3 while the branch bundle issues, then 2 and 1. -/
  branch : Option (Nat × Nat)
  /-- SR that RTI restores when its target issues. -/
  rtiSr : Option Nat
  rep : Option Repeat
  /-- Where a skipped repeat block ends. -/
  skip : Option Nat
  halting : Bool
  satNow : Bool
  trap : Option PendTrap
  /-- Cause of a double fault in this bundle. -/
  double : Option Nat
  far : List FarOp
  responses : List FarResp
  nextId : Nat
  /-- Rotating pointers of the interrupt choice, by class (R21, R300). -/
  irqPtr : List Nat
  haltReq : Bool
  stepping : Bool
  ending : Option DspEnding
  /-- The breakpoint at `pc` has been passed by a resume or a step. -/
  passBreak : Bool
  /-- A staged image awaits its boundary (R307). -/
  applyReq : Bool
  /-- The live image has not been copied yet. -/
  imageNew : Bool
  /-- Fifths of a DSPCLK tick not yet counted in `cycl`. -/
  phase : Nat
  deriving DecidableEq, Repr

/-- An accumulator at 0. -/
def DspAcc.zero : DspAcc := ⟨0, 0, false⟩

/-- A core after reset. -/
def DspCore.reset : DspCore :=
  { d := List.replicate 16 0, dPoison := List.replicate 16 false, a := List.replicate 8 0, m := List.replicate 8 0,
    ac := [DspAcc.zero, DspAcc.zero], acOut := [DspAcc.zero, DspAcc.zero], sr := 0, imr := 0, vbr := 0, epc := 0, esr := 0, ecause := 0, eaddr := 0,
    edata := 0, lr := 0, lc := 0, bxm := 15, bsh := 0, bexp := 0, cycl := 0, cych := 0, am := List.replicate 8 0, ab := List.replicate 8 0,
    pc := 0, bundle := 0, imem := [], dmem := [], issued := false, writes := [], div := none, branch := none, rtiSr := none, rep := none, skip := none,
    halting := false, satNow := false, trap := none, double := none, far := [], responses := [], nextId := 0, irqPtr := [0, 0, 0, 0],
    haltReq := false, stepping := false, ending := none, passBreak := false, applyReq := false, imageNew := false, phase := 0 }

/-- The cores. -/
structure DspState where
  cores : List DspCore
  deriving DecidableEq, Repr

/-- Sixteen cores after reset. -/
def DspState.reset : DspState := ⟨List.replicate 16 DspCore.reset⟩

end Sys2Proof.Machine
end

