-- ==== Sys2Proof/Machine/StateFabric.lean ====
section
/-! DEFINITION. Plain-data state of the fabric, the translation unit and the DMA channels beside their entries (chapter 12). -/

namespace Sys2Proof.Machine

/-- A TLB entry (R379): window, table level of its leaf, page number, page address, and R, W and S. -/
structure TlbEntry where
  window : Nat
  level : Nat
  page : Nat
  addr : Nat
  r : Bool
  w : Bool
  sec : Bool
  deriving DecidableEq, Repr

/-- A request that waits for its page walk (R379); `tag` tells its master what it was for. -/
structure Walk where
  master : Nat
  tag : Nat
  req : FabReq
  deriving DecidableEq, Repr

/-- A translated request at its target's arbiter (R369), with what its master used it for, its window and physical address. -/
structure FabWait where
  master : Nat
  tag : Nat
  window : Nat
  pa : Nat
  req : FabReq
  deriving DecidableEq, Repr

/-- A locked sequence (R371): its master, the DRAM units and data memories it holds, and the tick of its first beat. -/
structure FabLock where
  master : Nat
  units : List Nat
  mems : List Nat
  tick : Nat
  deriving DecidableEq, Repr

/-- A beat fault found and not yet recorded (R389): cause, side, window address, offset. -/
structure BeatFault where
  cause : Nat
  side : Nat
  wa : Nat
  off : Nat
  deriving DecidableEq, Repr

/-- A DMA channel (R386 to R393): the eight words of its descriptor, an address to fetch, a descriptor fetched, the next offsets to read and write,
beats read and not written, whether it holds a mover, when its turn began, bytes moved in the turn, and a fault. -/
structure DmaChan where
  desc : Option (List Nat)
  fetch : Option Nat
  fetched : Option Bytes
  readOff : Nat
  writeOff : Nat
  buffer : List (Nat × Bytes)
  mover : Bool
  turnStart : Nat
  turnBytes : Nat
  fault : Option BeatFault
  deriving DecidableEq, Repr

/-- Class U beats of an arbiter in a window of 1 µs (R370). -/
structure UMeter where
  arbiter : Nat
  window : Nat
  beats : Nat
  deriving DecidableEq, Repr

/-- The fabric. -/
structure FabricState where
  /-- Most recently used first. -/
  tlb : List TlbEntry
  walks : List Walk
  /-- Requests that have reached an arbiter and not been granted, oldest first. -/
  waiting : List FabWait
  /-- Rotating pointers of the arbiters, by 4 × arbiter + class (R21, R369). -/
  ptrs : List (Nat × Nat)
  locks : List FabLock
  chans : List DmaChan
  /-- Rotating pointers of the mover choice, by class. -/
  moverPtr : List Nat
  turns : Nat
  meters : List UMeter
  /-- Working SRAM of the management processor (R372); a byte not listed is 0 (log 6). -/
  sram : List Host.Cell
  /-- What the latest read of an unwindowed master returned. -/
  readData : Bytes
  deriving DecidableEq, Repr

/-- A channel with nothing to do. -/
def DmaChan.reset : DmaChan := ⟨none, none, none, 0, 0, [], false, 0, 0, none⟩
/-- The fabric after reset. -/
def FabricState.reset : FabricState := ⟨[], [], [], [], [], List.replicate 64 DmaChan.reset, [0, 0, 0, 0], 0, [], [], []⟩

end Sys2Proof.Machine
end

