-- ==== Sys2Proof/Machine/StateSheaf.lean ====
section
/-! DEFINITION. Plain-data state of the Sheaf links beside their entries (chapter 2). -/

namespace Sys2Proof.Machine

/-- A packet a receive lane has delivered, waiting for its unit (R63, R73). -/
structure Packet where
  group : Nat
  lane : Nat
  stream : Nat
  channel : Nat
  seq : Nat
  words : List Nat
  deriving DecidableEq, Repr

/-- A packet ready on an output stream (R60). -/
structure OutPacket where
  channel : Nat
  words : List Nat
  deriving DecidableEq, Repr

/-- The PRBS checker of a receive lane (R74): bits still to load, the 31-bit state, bits checked, positions of the latest errors. -/
structure PrbsCheck where
  toLoad : Nat
  state : Nat
  bits : Nat
  errors : List Nat
  deriving DecidableEq, Repr

/-- A receive lane (R54, R61, R64, R65, R68). `got` bits of the item in progress are in `acc`; `total` is its length once the header is whole.
`elastic` is the fill of its elastic buffer in words, 8 when centred; `stopped` tells that its delivery has ended after a disable. -/
structure RxLane where
  hits : Nat
  misses : Nat
  tracking : Bool
  got : Nat
  acc : Nat
  total : Nat
  /-- Item errors of the frame in progress and of the three before it, newest first. -/
  errors : List Nat
  prbs : PrbsCheck
  elastic : Nat
  stopped : Bool
  deriving DecidableEq, Repr

/-- A LANE_MAP sent and not yet acknowledged (R69, R70); `frame` is the frame of the group in which it was queued (R71). -/
structure MapSent where
  gen : Nat
  map : Nat
  sends : Nat
  frame : Nat
  /-- Device numbers of the lanes whose failures it answers. -/
  lanes : List Nat
  deriving DecidableEq, Repr

/-- A group of either direction (R63, R69, R71). -/
structure LinkGroup where
  sent : Option MapSent
  /-- Failed lanes waiting for the next map, oldest first. -/
  waiting : List Nat
  /-- Frames of the group that are over. -/
  round : Nat
  /-- Items of the frame in progress that await the other lanes (R63), by lane. -/
  desk : List (Nat × List Item)
  deriving DecidableEq, Repr

/-- A transmit lane: control words queued in order, and the rotating pointer of each class (R21, R60); the `len` item bits not yet framed, first bit
highest, with the places where headers begin, and the frames sent (R44 to R48); in PRBS mode the sequence state, the sixteenths of a bit left over from
the last tick, and whether the next bit is inverted (R74). -/
structure TxLane where
  control : List Nat
  ptr : List Nat
  data : Nat
  len : Nat
  heads : List Nat
  frames : Nat
  prbs : Nat
  phase : Nat
  invert : Bool
  deriving DecidableEq, Repr

/-- An output stream: credit totals and ready packets (R59, R60); the staging slot of the record whose fragments are the first of them,
with how many of those have still to leave (R169). -/
structure OutStream where
  sent : Nat
  limit : Nat
  ready : List OutPacket
  slot : Option (Nat × Nat)
  deriving DecidableEq, Repr

/-- Sequence tracking of a received stream: bit i of `seen` tells whether `highest` − i has arrived (R54). -/
structure SeqTrack where
  highest : Nat
  seen : Nat
  deriving DecidableEq, Repr

/-- Sheaf. -/
structure SheafState where
  rx : List (Nat × RxLane)
  tx : List (Nat × TxLane)
  /-- Groups keyed by their entry index, 2440h + g or 2460h + h. -/
  groups : List (Nat × LinkGroup)
  streams : List (Nat × OutStream)
  /-- Sequence tracking keyed by receive group, type and stream. -/
  seqs : List (Nat × SeqTrack)
  /-- Sample packets delivered to the crib writer, oldest first. -/
  samples : List Packet
  /-- Pixel packets delivered to the image front end, oldest first. -/
  pixels : List Packet
  deriving DecidableEq, Repr

/-- A lane that has received nothing. -/
def RxLane.reset : RxLane := ⟨0, 0, false, 0, 0, 0, [0, 0, 0, 0], ⟨31, 0, 0, []⟩, 8, false⟩
/-- A transmit lane with nothing queued. -/
def TxLane.reset : TxLane := ⟨[], [0, 0, 0, 0], 0, 0, [], 0, 0x7FFFFFFF, 0, false⟩
/-- A group with no map outstanding. -/
def LinkGroup.reset : LinkGroup := ⟨none, [], 0, []⟩
/-- A stream with nothing sent and nothing ready. -/
def OutStream.reset : OutStream := ⟨0, 0, [], none⟩
/-- Sheaf after reset. -/
def SheafState.reset : SheafState := ⟨[], [], [], [], [], [], []⟩

end Sys2Proof.Machine
end

