-- ==== Sys2Proof/Machine/StateSys.lean ====
section
/-! DEFINITION. Plain-data state of the system units: part and board, non-volatile store, timing (chapter 13),
position (chapter 14), dictionary service (chapter 15), Dowel and counters (chapter 16), availability (chapter 17), power and test access (chapters 18 and 19).
Registers themselves live in one sparse map of `State`; these structures hold what the manual gives the units beside them. -/

namespace Sys2Proof.Machine

/-- The variants of R6. -/
inductive Variant where
  | f | x | i
  deriving DecidableEq, Repr

/-- Fuses and board strapping, fixed for a run (R2, R13, R476, R477, R569, R570). -/
structure Board where
  variant : Variant
  mac0 : Nat
  mac1 : Nat
  silicon : Nat
  serial : Nat
  romVersion : Nat
  /-- Positions of the four fused spare tiles of each bay (R13). -/
  spares : List (List Nat)
  /-- Level of ball TEST_MODE (R570). -/
  testMode : Bool
  deriving DecidableEq, Repr

/-- One slot of the non-volatile event log (R543): 00h EMPTY, 01h VALID, 02h CANCELLED. -/
structure NvSlot where
  state : Nat
  record : Nat
  deriving DecidableEq, Repr

/-- One firmware slot of board flash (R518, R546). `check` has the codes of 7800h.04: 1 VALID, 2 BAD_SIGNATURE, 3 BAD_FORMAT, 4 EMPTY. -/
structure FwSlot where
  version : Nat
  crc : Nat
  check : Nat
  deriving DecidableEq, Repr

/-- What survives every reset and power loss: the key store (R460), the non-volatile log (R543), board flash (R25). -/
structure Nv where
  keys : List (Option Bytes)
  log : List (Nat × NvSlot)
  newest : Nat
  written : Nat
  slots : List FwSlot
  bootSlot : Nat
  boots : Nat
  /-- The head of the delay table (R356): magic, version, organisation code, channels and start-up speed; and the CRC that ends it. -/
  dramMagic : Nat
  dramVersion : Nat
  dramOrg : Nat
  dramChannels : Nat
  dramSpeed : Nat
  dramCrc : Nat
  /-- Delay blocks of the table, keyed 24 × speed + channel (R356). -/
  delays : List (Nat × Bytes)
  deriving DecidableEq, Repr

/-- One timebase (R416, R417): seconds, nanoseconds, fraction in 2^-32 ns, outstanding offset in 2^-32 ns, page latches and SET registers (R419). -/
structure Timebase where
  sec : Nat
  ns : Nat
  frac : Nat
  outstanding : Int
  latchNs : Nat
  latchFrac : Nat
  setSec : Nat
  setNs : Nat
  setFrac : Nat
  deriving DecidableEq, Repr

/-- Hidden state of a reference candidate (R402, R405, R406). -/
structure Candidate where
  /-- Level of the latest valid QL message, awaiting a second one. -/
  lastQl : Option Nat
  /-- Level accepted by two consecutive valid messages. -/
  qlReceived : Option Nat
  failRun : Nat
  passRun : Nat
  /-- Signal was absent at some time in the current window. -/
  absent : Bool
  everDisqualified : Bool
  wtr : Nat
  /-- TB0 time in ns of the latest disqualification. -/
  outNs : Nat
  /-- TB0 time in ns of the start of the first failing window of the present run, or of the signal loss (R410). -/
  lossNs : Nat
  /-- TCLK tick of the latest valid QL message (R402). -/
  qlAt : Nat
  deriving DecidableEq, Repr

/-- One second of the holdover history (R410). -/
structure HistoryEntry where
  sec : Nat
  value : Int
  valid : Bool
  deriving DecidableEq, Repr

/-- One TOUT ball (R420, R421): a pulse is active, and the TCLK tick at which it ends. -/
structure Tout where
  active : Bool
  endsAt : Nat
  deriving DecidableEq, Repr

/-- Timing state (chapter 13). -/
structure TimeState where
  /-- The reference unit has started (R545) and is not stopped in KEEP (R531). -/
  running : Bool
  /-- TCLK ticks since the reference unit started. -/
  tclk : Nat
  sc : Nat
  /-- Fraction of an SC tick, in units of 1/500,000,000 (R414). -/
  scAcc : Nat
  scFracLatch : Nat
  tbs : List Timebase
  cands : List Candidate
  history : List HistoryEntry
  /-- The whole TB0 second so far was spent in LOCKED (R410). -/
  secondLocked : Bool
  lastCand : Nat
  prevCand : Nat
  touts : List Tout
  /-- CLKOUT balls that hold low until SC mod d = 0 (R413). -/
  clkWait : List Bool
  /-- An SC load is armed for the next SCSYNC pulse (R414). -/
  loadArmed : Bool
  /-- Filtered TIN levels (R422). -/
  tin : List Bool
  /-- The PTP servo has locked once in the present slave period (R425). -/
  servoLocked : Bool
  /-- Ethernet port of the selected grandmaster, if one is chosen (R404). -/
  gmPort : Option Nat
  /-- TB0 time in ns of the latest write of the force entry (R410). -/
  forceNs : Nat
  /-- The unit was in ACQUIRE on the candidate now selected when the present monitor window began (R408). -/
  acqWindow : Bool
  /-- TB0 stamps in ns of the latest Pdelay_Req received on each port (R424). -/
  pdelayRx : List Nat
  deriving DecidableEq, Repr

/-- One axis (R431 to R439). Observer values are IEEE 754 binary64 bit patterns. -/
structure Axis where
  a : Bool
  b : Bool
  hall : Option Nat
  ssiRef : Option Nat
  phat : Nat
  vhat : Nat
  ahat : Nat
  extremum : Int
  onValue : Int
  /-- Counts since standstill was cleared, capped at 2 (R438). -/
  sinceStill : Nat
  /-- The observer update has followed the second count after standstill. -/
  speedOn : Bool
  /-- A move against the direction flag is open: it holds SPEED_SETTLING (R438, R439). -/
  revHold : Bool
  /-- TCLK tick of the latest count, or of reaching ON (R438). -/
  lastCount : Nat
  deriving DecidableEq, Repr

/-- One ARMED compare entry (R440, R441). `above` tells the side of an ANY entry at placement; `marker` that the marker path placed it. -/
structure CompareEntry where
  axis : Nat
  target : Int
  dir : Nat
  tag : Nat
  marker : Bool
  above : Bool
  deriving DecidableEq, Repr

/-- One compare list and its ball (R442). -/
structure CompareList where
  entries : List CompareEntry
  active : Bool
  /-- Entries offered by the marker path and not yet arrived (R440). -/
  arriving : List CompareEntry
  /-- When the pulse in progress ends, in halves of a TCLK tick: a PCLK tick is five of them (R32, R442). -/
  endsAt : Nat
  deriving DecidableEq, Repr

/-- An LTRIG pulse in flight (R447): its ball, the delay it started with, and when it starts, in halves of a TCLK tick. -/
structure LtrigPulse where
  ball : Nat
  delay : Nat
  due : Nat
  deriving DecidableEq, Repr

/-- A line clock edge on its way to the front end: its axis position, SC and TB0, and the LTRIG balls that repeat it with their delays (R213, R446, R447). -/
structure LineEdge where
  position : Int
  sc : Nat
  tb0 : Nat
  balls : List (Nat × Nat)
  deriving DecidableEq, Repr

/-- Line generator (R445, R446), its LTRIG pulses in flight (R447), and the edges it has handed to the front end (R213). -/
structure LineGen where
  p0 : Int
  k : Nat
  owed : Nat
  lastOut : Option Nat
  inFlight : List LtrigPulse
  feed : List LineEdge
  /-- Line index the front end gives the next edge (R213). -/
  nextLine : Nat
  deriving DecidableEq, Repr

/-- Position interface (chapter 14). -/
structure PosState where
  axes : List Axis
  lists : List CompareList
  gen : LineGen
  deriving DecidableEq, Repr

/-- A Dowel event (R483). `visited` has one bit per channel; `tick` is the TCLK tick at which it leaves its synchroniser. -/
structure Event where
  source : Nat
  payload : Nat
  sc : Nat
  gen : Nat
  visited : Nat
  tick : Nat
  deriving DecidableEq, Repr

/-- An event delivered to a task input: the channel that delivered it, and the TCLK tick at which the consumer got it. -/
structure Delivery where
  channel : Nat
  event : Event
  since : Nat
  deriving DecidableEq, Repr

/-- A task input (R489, R490): the delivery not yet taken, the one pending event, the counters of 6802h and the R21 pointers of its merge arbiter. -/
structure InputState where
  held : Option Delivery
  queued : Option Delivery
  merged : Nat
  overruns : Nat
  delivered : Nat
  ptr : List Nat
  deriving DecidableEq, Repr

/-- One event counter (R499 to R501): 48-bit value, snapshot and the last level seen of an L source. -/
structure Counter where
  value : Nat
  level : Bool
  deriving DecidableEq, Repr

/-- The ticks at which a channel last reached ON and last left it (R494, R497). -/
structure ChannelSpan where
  onAt : Nat
  offAt : Nat
  deriving DecidableEq, Repr

/-- What holds an ALERT ball low (R496): a latch, and a pulse with the TCLK tick at which it ends. -/
structure AlertBall where
  latched : Bool
  pulse : Option Nat
  deriving DecidableEq, Repr

/-- Dowel and event counters (chapter 16). -/
structure DowelState where
  /-- Events fired and not yet taken, oldest first. -/
  fired : List Event
  inputs : List (Nat × InputState)
  counters : List Counter
  /-- Channels that have been ON. -/
  spans : List (Nat × ChannelSpan)
  alerts : List AlertBall
  /-- XCLK phase for DURATION counting in THROTTLE. -/
  xphase : Nat
  /-- TCLK tick of the latest snapshot of each group: triggers that coincide make one snapshot (R502). -/
  snapTick : List (Option Nat)
  /-- Groups whose single snapshot time has been served (period 0, R502). -/
  snapDone : List Bool
  deriving DecidableEq, Repr

/-- A recovery in progress (R508, R522): fault class, instance, tick of detection. -/
structure Recovery where
  cls : Nat
  inst : Nat
  tick : Nat
  deriving DecidableEq, Repr

/-- Availability (chapter 17). -/
structure AvailState where
  recoveries : List Recovery
  /-- (master, cause, ms) of the fabric faults recorded, for the limit of R522. -/
  fabricSeen : List (Nat × Nat × Nat)
  /-- Version and CRC of the image being written to flash (R518). -/
  imageVersion : Nat
  imageCrc : Nat
  /-- No pair is ACTIVE (R513). -/
  dead : Bool
  /-- Frames waiting in the receive queues while the dictionary is unavailable: port, source address, source port, datagram (R512). -/
  rxQueue : List (Nat × Nat × Nat × Bytes)
  /-- The firmware slot that runs before the update in progress (R520). -/
  prevSlot : Nat
  /-- R21 pointer of the two receive queues (R459). -/
  rxPtr : Nat
  /-- TCLK tick at which PROBATION ends (R520). -/
  probationEnds : Nat
  deriving DecidableEq, Repr

/-- Power, thermal control and test access (chapters 18 and 19). -/
structure PowerState where
  pwrEn : Bool
  porstN : Bool
  /-- The dictionary is served (R545). -/
  dictUp : Bool
  thermalOff : Bool
  undervoltOff : Bool
  resetCause : Nat
  /-- Deferred records of the non-volatile log, oldest first (R544). -/
  deferred : List Nat
  deferredLost : Nat
  mismatch : List Nat
  /-- JTAG instruction register, the data register captured, and the preloaded boundary-scan cells (R569). -/
  tapIr : Nat
  tapDr : Nat
  tapCells : Nat
  /-- What the TAP does to the balls: 0 nothing, 1 driven from the cells, 2 high impedance. -/
  tapDrive : Nat
  recovery : Bool
  /-- Step of R530 in progress: 0 none, 1 to 5 units stopping. -/
  keepStep : Nat
  /-- TCLK tick at which the KEEP request was accepted (R530). -/
  keepSince : Nat
  /-- n of the SKIP throttle mode in force since the latest round (R528, R540). -/
  skipN : Nat
  deriving DecidableEq, Repr

/-- A staged value: a number, or the bytes of a DOMAIN (R469, R471). -/
inductive StagedVal where
  | num (v : Nat)
  | dom (bs : Bytes)
  deriving DecidableEq, Repr

/-- A pending or armed entry: its value and the session of the latest write (R481). -/
structure Staged where
  value : StagedVal
  writer : Nat
  deriving DecidableEq, Repr

/-- The value an entry held before the epoch boundary at `sc` (R28): objects that began before it still use that value. -/
structure Past where
  key : Nat
  sc : Nat
  value : StagedVal
  deriving DecidableEq, Repr

/-- A live DOMAIN value and its generation (R473). -/
structure Dom where
  bytes : Bytes
  gen : Nat
  deriving DecidableEq, Repr

/-- A stored RESPONSE (R462). -/
structure StoredResponse where
  seq : Nat
  tag : Bytes
  body : Bytes
  deriving DecidableEq, Repr

/-- A NOTIFY sent and not yet acknowledged (R474). -/
structure NotifyOut where
  seq : Nat
  records : List Bytes
  resends : Nat
  deriving DecidableEq, Repr

/-- An open DOMAIN transfer (R472). -/
structure Transfer where
  key : Nat
  total : Nat
  data : Bytes
  /-- DOM_END has been refused with CRC: the transfer can only be cancelled or abandoned. -/
  failed : Bool
  deriving DecidableEq, Repr

/-- What a session holds beside its entries (R460 to R462, R472, R474). -/
structure Session where
  key : Bytes
  executed : List Nat
  stored : List StoredResponse
  queue : List Bytes
  lost : Nat
  sent : List NotifyOut
  transfer : Option Transfer
  deriving DecidableEq, Repr

/-- A result record of one operation (R465). -/
structure OpResult where
  op : Nat
  status : Nat
  idx : Nat
  sub : Nat
  detail : Nat
  data : Bytes
  deriving DecidableEq, Repr

/-- Dictionary service (chapters 1 and 15). -/
structure DictState where
  sessions : List Session
  pendingSet : List (Nat × Staged)
  /-- The armed set with its SC_c (R27). -/
  armed : Option (Nat × List (Nat × Staged))
  /-- Values superseded at epoch boundaries, oldest boundary first. -/
  past : List Past
  /-- SC_c of every epoch boundary so far. -/
  boundaries : List Nat
  /-- Session of the latest live write of an entry since the last epoch boundary (R30). -/
  liveWriters : List (Nat × Nat)
  /-- Results of the operations carried out for the REQUEST in hand, in order. -/
  results : List OpResult
  /-- The session whose REQUEST is in hand, and whether its close awaits the RESPONSE (R462, R468). -/
  serving : Option (Nat × Bool)
  deriving DecidableEq, Repr

/-- What leaves the part on its balls, in order of leaving. -/
inductive Output where
  /-- A UDP datagram from an Ethernet port: port, destination address, destination port, payload. -/
  | udp (port ip dst : Nat) (payload : Bytes)
  | arp (port ip : Nat)
  | icmp (port ip : Nat) (payload : Bytes)
  | ptp (port kind : Nat) (payload : Bytes)
  /-- A packet or control item starts on a transmit lane: its bytes, CRC included (R49 to R52). -/
  | item (lane : Nat) (bytes : Bytes)
  /-- A frame has left a transmit lane: its 8,192 line bits, the first highest (R44). -/
  | frame (lane : Nat) (line : Nat)
  /-- Line bits of a transmit lane in PRBS mode, first bit first (R74). -/
  | prbs (lane : Nat) (sent : List Bool)
  /-- A pulse edge on a TOUT, CMPOUT or LTRIG ball: ball, level. -/
  | tout (k : Nat) (level : Bool)
  | cmpout (m : Nat) (level : Bool)
  /-- A pulse of ball `j` to a level, and its width in PCLK ticks. -/
  | ltrig (j : Nat) (level : Bool) (width : Nat)
  deriving DecidableEq, Repr

end Sys2Proof.Machine
end

