-- ==== Sys2Proof/Machine/StateWinnow.lean ====
section
/-! DEFINITION. Plain-data state of the Winnow engine beside its entries (chapter 10). -/

namespace Sys2Proof.Machine

/-- A value on its way through Winnow: the SC of the last spectrum that entered it, that spectrum's period, and its marks (R207, R314, R318). -/
structure WinVal where
  v : Nat
  sc : Nat
  period : Nat
  sat : Bool
  gap : Bool
  deriving DecidableEq, Repr

/-- A half-band stage: its latest 2H + 1 inputs with their marks, newest first, and whether the next input has an odd index (R315). -/
structure HalfStage where
  hist : List (Nat × Bool)
  odd : Bool
  deriving DecidableEq, Repr

/-- A monitor channel: its queue, whether a value was dropped since its last output, its stages, and its boxcar sum and count (R314, R315, R317). -/
structure WinChannel where
  queue : List WinVal
  gap : Bool
  stages : List HalfStage
  boxSum : Nat
  boxCount : Nat
  deriving DecidableEq, Repr

/-- A value that has left the engine for a monitor slot's comparator (R313). -/
structure WinOut where
  channel : Nat
  value : WinVal
  deriving DecidableEq, Repr

/-- A stitched line as a scaler takes it: cropped pixels, frame, line within the frame, line index, SC, configuration epoch, IMPAIRED (R322, R326). -/
structure ScalerLine where
  pixels : List Nat
  frame : Nat
  row : Nat
  index : Nat
  sc : Nat
  epoch : Nat
  impaired : Bool
  deriving DecidableEq, Repr

/-- A group of lines of a scaler (R324): lines it will have, lines received or dropped so far, lines received, pixel sums and SAT marks, flags,
and what its first stitched line gave. -/
structure ScalerGroup where
  frame : Nat
  number : Nat
  size : Nat
  seen : Nat
  n : Nat
  sums : List Nat
  sats : List Bool
  short : Bool
  drop : Bool
  impaired : Bool
  sc : Nat
  index : Nat
  epoch : Nat
  deriving DecidableEq, Repr

/-- A scaler: the line in progress with the pixels taken, the waiting line, open groups, and closed groups that wait to be sent (R322 to R326). -/
structure Scaler where
  current : Option ScalerLine
  taken : Nat
  waiting : Option ScalerLine
  groups : List ScalerGroup
  ready : List ScalerGroup
  /-- A frame that began while the scaler was ON is in progress. -/
  inFrame : Bool
  deriving DecidableEq, Repr

/-- Winnow: engine cycles since ON, channels, outputs on their way, scalers, and the values taken in HOLDOFF by each monitor slot (R206). -/
structure WinnowState where
  cycle : Nat
  channels : List WinChannel
  outputs : List WinOut
  scalers : List Scaler
  holdoff : List Nat
  deriving DecidableEq, Repr

/-- An empty channel. -/
def WinChannel.reset : WinChannel := ⟨[], false, [], 0, 0⟩
/-- A scaler with no line. -/
def Scaler.reset : Scaler := ⟨none, 0, none, [], [], false⟩
/-- Winnow after reset. -/
def WinnowState.reset : WinnowState := ⟨0, List.replicate 64 WinChannel.reset, [], List.replicate 8 Scaler.reset, List.replicate 64 0⟩

end Sys2Proof.Machine
end

