-- ==== Sys2Proof/Machine/StateXArray.lean ====
section
/-! DEFINITION. Plain-data state of the X-array, the Jigs, the granary and dump staging beside their entries (chapters 4 to 6). -/

namespace Sys2Proof.Machine

/-- The loft half a work order names: its fill number, first spectrum and geometry (R119, R132). -/
structure HalfRef where
  seq : Nat
  first : Nat
  spectra : Nat
  channel : Nat
  blocks : Nat
  format : Nat
  sc : Nat
  period : Nat
  origin : Nat
  deriving DecidableEq, Repr

/-- Where a work order stands (R127 to R131, R167, R174). -/
inductive Phase where
  /-- In the port queue of its logical tile. -/
  | queued
  /-- A pass runs, or a DUMP waits for its dump path. -/
  | running
  /-- Its short-sum bank is with the granary controller. -/
  | folding
  /-- Its fold waits for a spill. -/
  | spilling
  /-- Committed; the report to the Jig is on its way. -/
  | done
  deriving DecidableEq, Repr

/-- An issued work order that its Jig has not yet counted as completed. `bits` is the 128-bit work order after LC substitution;
`k` its product shift; `shim` tells that it replays after a shim; `samples` are its pulled blocks, keyed like a loft half; `cfg` is the configuration
epoch in force when it started (R29). -/
structure WorkOrder where
  id : Nat
  bay : Nat
  bits : Nat
  entry : Nat
  lam : Nat
  epoch : Nat
  half : Option HalfRef
  phase : Phase
  k : Nat
  shim : Bool
  pulled : Bool
  samples : List (Nat × Nat)
  cfg : Nat
  deriving DecidableEq, Repr

/-- A short-sum bank with its tag (R158). `busy` while the granary controller has it. -/
structure Bank where
  busy : Bool
  order : Nat
  bits : Nat
  epoch : Nat
  k : Nat
  sat : Bool
  peak : Nat
  firstSc : Nat
  sums : List (Int × Int)
  deriving DecidableEq, Repr

/-- A physical tile: its two banks, the one filled last, the bank whose spill runs, its spare cells (R115, R143, R174), and the logical tile it served
when it left service. -/
structure Tile where
  banks : List Bank
  fill : Nat
  spill : Option Nat
  spareCells : Nat
  was : Option Nat
  deriving DecidableEq, Repr

/-- A bin or half of a split bin with its tag (R159, R160, R172). An empty value list stands for 4,096 zeros. -/
structure Acc where
  vals : List (Int × Int)
  folds : Nat
  firstSc : Nat
  endSc : Nat
  cfgEpoch : Nat
  dumpEpoch : Nat
  lfsr : Nat
  peak : Nat
  imgPeak : Nat
  op : Nat
  chan : Nat
  blka : Nat
  blkb : Nat
  e : Nat
  eImg : Nat
  spillErr : Bool
  mixed : Bool
  img : Bool
  invalid : Bool
  binSat : Bool
  sat : Bool
  maxK : Nat
  satPasses : Nat
  seg : Nat
  deriving DecidableEq, Repr

/-- A dump record in a dump path (R167). `tile` is the global tile id, 272 for an unplaced logical tile. -/
structure DumpRec where
  tile : Nat
  order : Nat
  bay : Nat
  cls : Nat
  stream : Nat
  words : List Nat
  deriving DecidableEq, Repr

/-- A record in a staging slot (R169). -/
structure StagedRec where
  slot : Nat
  stream : Nat
  cls : Nat
  len : Nat
  deriving DecidableEq, Repr

/-- A re-seat: the failed tile, its cause, and the tile that takes over; 272 stands for no source (R147, R150). -/
structure Reseat where
  lam : Nat
  source : Nat
  cause : Nat
  target : Option Nat
  deriving DecidableEq, Repr

/-- A weight load a logical tile owes (R197): beam group and SC_c. -/
structure WeightLoad where
  lam : Nat
  group : Nat
  sc : Nat
  deriving DecidableEq, Repr

/-- The issue of an entry in progress (R122): the entry, the fields of the next work order, how many follow it. -/
structure Sweep where
  word : Nat
  bin : Nat
  blka : Nat
  blkb : Nat
  seg : Nat
  left : Nat
  deriving DecidableEq, Repr

/-- A Jig (R134 to R141). `loops` holds counter and LOOP entry, innermost first; `half` is the fill number of the current half;
`lists` are cut lists live and not yet swapped to, with their SC_c. -/
structure Jig where
  list : Bytes
  loops : List (Nat × Nat)
  half : Option Nat
  freeStep : Bool
  sweep : Option Sweep
  lists : List (Nat × Bytes)
  swapDue : Bool
  deriving DecidableEq, Repr

/-- An open power sum of a beam group (R202): its sums by 64t + m, the channels that have contributed, SAT and its configuration epoch. -/
structure PowerSum where
  firstSc : Nat
  sums : List Nat
  chans : List Nat
  sat : Bool
  cfgEpoch : Nat
  period : Nat
  deriving DecidableEq, Repr

/-- The X-array, the granary, staging and the beam formatter. -/
structure XArrayState where
  jigs : List Jig
  /-- Work orders in the order in which they entered their ports (R125). -/
  orders : List WorkOrder
  nextOrder : Nat
  /-- Rotating pointers of the ports, by logical tile (R125). -/
  ports : List (Nat × List Nat)
  tiles : List (Nat × Tile)
  /-- Bins keyed (tile × 24 + slot) × 2 + half. -/
  bins : List (Nat × Acc)
  /-- Weight slots keyed tile × 64 + slot (R195). -/
  weights : List (Nat × Bytes)
  loads : List WeightLoad
  dumps : List DumpRec
  dumpPtr : List Nat
  staged : List StagedRec
  /-- Next record number of each output stream (R168). -/
  recno : List (Nat × Nat)
  /-- Re-seats, in progress first, for each bay. -/
  reseats : List (List Reseat)
  /-- Tiles being retested (R151). -/
  retests : List Nat
  /-- Open power sums of each beam group (R202). -/
  power : List (List PowerSum)
  /-- The two latest first_sc values each beam group has seen, latest first (R202). -/
  powerSeen : List (List Nat)
  deriving DecidableEq, Repr

/-- A bank never used. -/
def Bank.reset : Bank := ⟨false, 0, 0, 0, 0, false, 0, 0, []⟩
/-- A tile with its four spare cells. -/
def Tile.reset : Tile := ⟨[Bank.reset, Bank.reset], 0, none, 4, none⟩
/-- A clear bin (R160). -/
def Acc.reset : Acc :=
  { vals := [], folds := 0, firstSc := 0, endSc := 0, cfgEpoch := 0, dumpEpoch := 0, lfsr := 0, peak := 0, imgPeak := 0, op := 0, chan := 0, blka := 0,
    blkb := 0, e := 0, eImg := 0, spillErr := false, mixed := false, img := false, invalid := false, binSat := false, sat := false, maxK := 0,
    satPasses := 0, seg := 0 }
/-- A Jig with no cut list. -/
def Jig.reset : Jig := ⟨[], [], none, false, none, [], false⟩
/-- The X-array after reset. -/
def XArrayState.reset : XArrayState :=
  { jigs := List.replicate 4 Jig.reset, orders := [], nextOrder := 0, ports := [], tiles := [], bins := [], weights := [], loads := [], dumps := [],
    dumpPtr := [0, 0, 0, 0], staged := [], recno := [], reseats := List.replicate 4 [], retests := [], power := List.replicate 16 [],
    powerSeen := List.replicate 16 [] }

end Sys2Proof.Machine
end

