-- ==== Sys2Proof/Machine/State.lean ====
section
/-! DEFINITION. The state of the Karosh, its reset value, and the reasons a command can stop. -/

namespace Sys2Proof.Machine

/-- Reasons the block stops. -/
inductive Fault where
  /-- A command names an instance outside the manual's numbering (lane 200, tile 272).
  Raised by every meaning that takes an instance number.
  Safe: no part can be given such a command (log 3). -/
  | noSuchInstance
  deriving DecidableEq, Repr

/-- Reasons a command has no meaning. -/
inductive Refusal where
  /-- The command is not modelled. Raised by the dispatch only. Safe. -/
  | notModelled (mnemonic : String)
  deriving DecidableEq, Repr

/-- The state of the part: every register, FIFO, buffer, counter, mode and ball, and the queue of waiting commands. -/
structure State where
  /-- Commands waiting, first in first out. -/
  pending : List Instr
  board : Board
  nv : Nv
  /-- Dictionary entries away from their defaults, keyed index × 256 + sub-index (R452). -/
  regs : List (Nat × Nat)
  /-- DOMAIN entries away from empty, keyed likewise (R473). -/
  doms : List (Nat × Dom)
  /-- Free values drawn so far (the model's own field, log 4). -/
  drawn : Nat
  /-- DRAM by logical byte address (R338); a byte not listed reads 00h (log 6). -/
  dram : List Host.Cell
  /-- What left the part, oldest first (the model's own field, log 7). -/
  outbox : List Output
  time : TimeState
  pos : PosState
  dowel : DowelState
  avail : AvailState
  power : PowerState
  dict : DictState
  fabric : FabricState
  dsp : DspState
  insp : InspectState
  winnow : WinnowState
  ddr : DramState
  xarray : XArrayState
  crib : CribState
  sheaf : SheafState
  deriving DecidableEq, Repr

/-- The outcome type of every meaning. -/
abbrev Result := Host.Outcome State Fault Refusal

/-- The part the reset state describes: an EFK8192-F with spare tiles 64 to 67 of each bay (DESIGN CHOICE, log 1). -/
def Board.reset : Board :=
  { variant := .f, mac0 := 0x020000000000, mac1 := 0x020000000001, silicon := 1, serial := 0,
    romVersion := 0x01000001, spares := List.replicate 4 [64, 65, 66, 67], testMode := false }

/-- The non-volatile store as shipped: no key, an empty log, one valid firmware image in slot 0 and a delay table of organisation 03h at DDR5-8000 (DESIGN CHOICE, log 1). -/
def Nv.reset : Nv :=
  { keys := List.replicate 4 none, log := [], newest := 4095, written := 0,
    slots := [⟨0x01000001, 0, 1⟩, ⟨0, 0, 4⟩], bootSlot := 0, boots := 1, dramMagic := tableMagic, dramVersion := 1, dramOrg := 3,
    dramChannels := 24, dramSpeed := 2, dramCrc := crc32c (tableBytes 3 24 2 [(2, List.replicate 24 (emptyBlock 2 3))]),
    delays := (List.range 24).map (fun c => (48 + c, emptyBlock 2 3)) }

/-- A timebase at 0 (R429). -/
def Timebase.reset : Timebase := ⟨0, 0, 0, 0, 0, 0, 0, 0, 0⟩

/-- A candidate never measured. -/
def Candidate.reset : Candidate := ⟨none, none, 0, 0, false, false, 0, 0, 0, 0⟩

/-- Timing before the reference unit starts (R408, R414). -/
def TimeState.reset : TimeState :=
  { running := false, tclk := 0, sc := 0, scAcc := 0, scFracLatch := 0, tbs := List.replicate 8 Timebase.reset,
    cands := List.replicate 5 Candidate.reset, history := [], secondLocked := false, lastCand := 0xFF, prevCand := 0xFF,
    touts := List.replicate 8 ⟨false, 0⟩, clkWait := List.replicate 8 false, loadArmed := false,
    tin := List.replicate 8 false, servoLocked := false, gmPort := none,
    forceNs := 0, acqWindow := false, pdelayRx := [0, 0] }

/-- An axis with low balls, no reference and an observer at 0 (log 1). -/
def Axis.reset : Axis := ⟨false, false, none, none, 0, 0, 0, 0, 0, 0, true, false, 0⟩

/-- The position interface with nothing placed. -/
def PosState.reset : PosState :=
  { axes := List.replicate 4 Axis.reset, lists := List.replicate 4 ⟨[], false, [], 0⟩, gen := ⟨0, 0, 0, none, [], [], 0⟩ }

/-- Dowel with no event in flight; counters at 0 (R501). -/
def DowelState.reset : DowelState :=
  { fired := [], inputs := [], counters := List.replicate 64 ⟨0, false⟩, spans := [],
    alerts := List.replicate 4 ⟨false, none⟩, xphase := 0, snapTick := List.replicate 8 none, snapDone := List.replicate 8 false }

/-- Availability with no recovery in progress. -/
def AvailState.reset : AvailState := ⟨[], [], 0, 0, false, [], 0, 0, 0⟩

/-- PORST_N just released with PWR_EN high: STARTING, dictionary not yet served (R545). -/
def PowerState.reset : PowerState :=
  { pwrEn := true, porstN := true, dictUp := false, thermalOff := false, undervoltOff := false, resetCause := 0, deferred := [],
    deferredLost := 0, mismatch := List.replicate 32 0, tapIr := 1, tapDr := 0, tapCells := 0, tapDrive := 0, recovery := false, keepStep := 0,
    keepSince := 0, skipN := 8 }

/-- A session never opened. -/
def Session.reset : Session := ⟨[], [], [], [], 0, [], none⟩

/-- No session open, nothing pending or armed. -/
def DictState.reset : DictState :=
  { sessions := List.replicate 8 Session.reset, pendingSet := [], armed := none, past := [], boundaries := [], liveWriters := [], results := [], serving := none }

/-- The machine right after a reset, for a given part and non-volatile store: every entry at its default (R25), every store empty. -/
def State.ofReset (board : Board) (nv : Nv) : State :=
  { pending := [], board := board, nv := nv, regs := [], doms := [], drawn := 0, dram := [], outbox := [],
    time := TimeState.reset, pos := PosState.reset, dowel := DowelState.reset, avail := AvailState.reset,
    power := PowerState.reset, dict := DictState.reset, fabric := FabricState.reset, dsp := DspState.reset, insp := InspectState.reset, winnow := WinnowState.reset, ddr := DramState.reset, xarray := XArrayState.reset, crib := CribState.reset, sheaf := SheafState.reset }

/-- The machine right after reset. -/
def State.reset : State := State.ofReset Board.reset Nv.reset

end Sys2Proof.Machine
end

