-- ==== Sys2Proof/Machine/Ops.lean ====
section
/-! DEFINITION. The named operations every chapter uses: reading and writing entries, presence of units, free values,
DRAM bytes, output, Dowel sources and event counters, notifications, the fault log and the non-volatile log. -/

namespace Sys2Proof.Machine

/-- Stop on an instance number outside the manual's numbering. -/
def inst (ok : Bool) (r : Result) : Result := if ok then r else .fault .noSuchInstance

/-! ## Presence (R1 to R8) -/

/-- Bays present (R4). -/
def Board.bays (b : Board) : Nat := match b.variant with | .f => 4 | .x => 4 | .i => 2
/-- DRAM channels present (R4). -/
def Board.channels (b : Board) : Nat := match b.variant with | .f => 24 | .x => 24 | .i => 12
/-- Receive lane quads present (R4). -/
def Board.rxQuads (b : Board) : Nat := match b.variant with | .f => 32 | .x => 32 | .i => 16
/-- Transmit lane quads present (R4). -/
def Board.txQuads (b : Board) : Nat := match b.variant with | .f => 16 | .x => 16 | .i => 8
/-- DSP cores present (R4). -/
def Board.cores (b : Board) : Nat := match b.variant with | .f => 16 | .x => 16 | .i => 8
/-- The inspection units and the position interface are present (R4, R5). -/
def Board.inspect (b : Board) : Bool := match b.variant with | .x => false | _ => true
/-- Variant code (R6). -/
def Board.code (b : Board) : Nat := match b.variant with | .f => 1 | .x => 2 | .i => 3
/-- Presence bits (R5). -/
def Board.presence (b : Board) : Nat := match b.variant with | .f => 0xF8F | .x => 0x80F | .i => 0xF83
/-- Bins in service (R113, R152). -/
def Board.bins (b : Board) : Nat := b.bays * 1536
/-- Logical tiles (R152). -/
def Board.logicalTiles (b : Board) : Nat := b.bays * 64
/-- Port MAC address. -/
def Board.mac (b : Board) (p : Nat) : Nat := if p = 0 then b.mac0 else b.mac1
/-- Physical position t of a bay is a fused spare (R13). -/
def Board.isSpare (b : Board) (bay t : Nat) : Bool := (b.spares.getD bay []).contains t
/-- Positions in service at reset, ascending (R13, R151). -/
def Board.inService (b : Board) (bay : Nat) : List Nat := (List.range 68).filter (fun t => !b.isSpare bay t)

/-- Capacity K of a DRAM channel in GiB, by organisation code (R335). -/
def orgCapacity (org : Nat) : Nat :=
  match org with | 0 => 32 | 1 => 64 | 2 => 48 | 3 => 96 | 4 => 64 | 5 => 96 | _ => 0

/-- The organisation that the delay table names, or FFh when its head is not that of a table for this part (R335, R356, R357). -/
def Nv.org (nv : Nv) (n : Nat) : Nat :=
  if nv.dramMagic = tableMagic && nv.dramVersion = 1 && decide (nv.dramOrg ≤ 5) && nv.dramChannels = n then nv.dramOrg else 0xFF

/-- Start-up timing by speed, in the order of 5870h (R359). -/
def dramTiming (org speed : Nat) : List Nat :=
  let big := org = 2 || org = 3 || org = 5
  match speed with
  | 0 => [40, 38, 39, 39, 77, 72, 18, 12, 12, 8, 32, 24, 6, if big then 984 else 708, 9360]
  | 1 => [52, 50, 52, 52, 103, 96, 24, 16, 16, 8, 35, 32, 8, if big then 1312 else 944, 12480]
  | _ => [64, 62, 64, 64, 128, 120, 30, 20, 20, 8, 43, 40, 10, if big then 1640 else 1180, 15600]

/-- ASCII text in 16 bytes, as a number. -/
def ascii16 (cs : List Nat) : Nat := cs.foldl (fun a c => a * 256 + c) 0 * 256 ^ (16 - cs.length)

/-- Part names of R476. -/
def partName : Variant → Nat
  | .f => ascii16 [0x45, 0x46, 0x4B, 0x38, 0x31, 0x39, 0x32, 0x2D, 0x46]
  | .x => ascii16 [0x45, 0x46, 0x4B, 0x38, 0x31, 0x39, 0x32, 0x2D, 0x58]
  | .i => ascii16 [0x45, 0x46, 0x4B, 0x34, 0x30, 0x39, 0x36, 0x2D, 0x49]

/-- Channel set of bay k with every channel c where c mod bays = k (R113). -/
def defaultChannelSet (bays k : Nat) : Nat :=
  (List.range (4096 / bays)).foldl (fun a j => a ||| (1 <<< (j * bays + k))) 0

/-- Defaults that depend on the part, its fuses or its flash. -/
def partDefault (b : Board) (nv : Nv) (idx sub : Nat) : Option Nat :=
  if idx = 0x1020 then
    match sub with
    | 1 => some b.presence | 2 => some b.bays | 3 => some b.channels | 4 => some b.rxQuads
    | 5 => some b.txQuads | 6 => some b.cores | 7 => some b.code | _ => none
  else if idx = 0x1000 then
    match sub with
    | 2 => some (partName b.variant) | 3 => some b.silicon | 4 => some b.serial
    | 5 => some (nv.slots.getD nv.bootSlot ⟨0, 0, 4⟩).version | 6 => some (nv.slots.getD nv.bootSlot ⟨0, 0, 4⟩).crc
    | 7 => some b.romVersion | 9 => some (if b.code = 1 then 9216 else (Config.definedEntries b.code).toNat)
    | _ => none
  else if idx = 0x1010 || idx = 0x1011 then
    let m := b.mac (idx - 0x1010)
    match sub with
    | 5 => some m
    | 6 => some (169 * 2 ^ 24 + 254 * 2 ^ 16 + (1 + (bits m 15 8 + (idx - 0x1010)) % 254) * 256 + bits m 7 0)
    | _ => none
  else if 0x2810 ≤ idx && idx < 0x2814 && sub = 1 then
    if idx - 0x2810 < b.bays then some (defaultChannelSet b.bays (idx - 0x2810)) else none
  else if idx = 0x3000 then match sub with | 1 => some b.bins | 2 => some b.logicalTiles | _ => none
  else if 0x2110 ≤ idx && idx < 0x2114 && 1 ≤ sub && sub ≤ 0x40 then
    some ((b.inService (idx - 0x2110)).getD (sub - 1) 0x7F)
  else if 0x2200 ≤ idx && idx < 0x2310 then
    let bay := (idx - 0x2200) / 68
    let t := (idx - 0x2200) % 68
    match sub with
    | 1 => some (if b.isSpare bay t then 1 else 0)
    | 2 => some (if b.isSpare bay t then 0xFF else ((b.inService bay).takeWhile (· < t)).length)
    | _ => none
  else if idx = 0x3400 && sub = 1 then some b.bins
  else if 0x4010 ≤ idx && idx < 0x4020 && sub = 7 then some (idx - 0x4010)
  else if idx = 0x5800 then
    match sub with
    | 1 => some (nv.org b.channels) | 2 => some nv.dramSpeed | 3 => some (orgCapacity (nv.org b.channels)) | 4 => some (orgCapacity (nv.org b.channels))
    | 6 => some ((b.channels - 1) * orgCapacity (nv.org b.channels) * 2 ^ 30) | _ => none
  else if (idx = 0x5870 || idx = 0x5871) && 1 ≤ sub && sub ≤ 0x0F then some ((dramTiming (nv.org b.channels) nv.dramSpeed).getD (sub - 1) 0)
  else if idx = 0x6A00 && sub = 1 then some (match b.variant with | .f => 1162 | .x => 1129 | .i => 778)
  else if idx = 0x7010 then
    match sub with
    | 5 => some nv.bootSlot | 6 => some nv.bootSlot
    | 7 => some (nv.slots.getD 0 ⟨0, 0, 4⟩).version | 8 => some (nv.slots.getD 1 ⟨0, 0, 4⟩).version | _ => none
  else if idx = 0x7480 then match sub with | 1 => some nv.newest | 2 => some nv.written | _ => none
  else if idx = 0x7800 then match sub with | 3 => some nv.bootSlot | 8 => some nv.boots | _ => none
  else none

/-- The row that holds an entry. -/
def rowOf (idx sub : Nat) : Option Row := (dictPage (idx / 256)).find? (fun r => r.covers idx sub)

/-- The default of an entry (R25). -/
def entryDefault (b : Board) (nv : Nv) (idx sub : Nat) : Nat :=
  match partDefault b nv idx sub with
  | some v => v
  | none => match rowOf idx sub with | some r => r.dflt | none => 0

/-! ## Entries -/

/-- The stored value of an entry. -/
def State.reg (s : State) (idx sub : Nat) : Nat :=
  match lookup s.regs (key idx sub) with
  | some v => v
  | none => entryDefault s.board s.nv idx sub

/-- Store an entry. -/
def State.setReg (s : State) (idx sub v : Nat) : State := { s with regs := insertKey s.regs (key idx sub) v }

/-- Whether an entry reads 1 or more. -/
def State.flag (s : State) (idx sub : Nat) : Bool := decide (s.reg idx sub ≠ 0)

/-- An entry read as a two's complement number of `w` bits. -/
def State.sreg (s : State) (w idx sub : Nat) : Int := toSigned w (s.reg idx sub)

/-- Add to a U32 counter, which saturates. -/
def State.inc32 (s : State) (idx sub n : Nat) : State := s.setReg idx sub (satAdd32 (s.reg idx sub) n)

/-- Add to a U64 counter, which wraps. -/
def State.inc64 (s : State) (idx sub n : Nat) : State := s.setReg idx sub (wrapAdd64 (s.reg idx sub) n)

/-- Add to a U8 counter, which saturates. -/
def State.inc8 (s : State) (idx sub n : Nat) : State := s.setReg idx sub (min (s.reg idx sub + n) 255)

/-- Set or clear a bit of an entry. -/
def State.regBit (s : State) (idx sub i : Nat) (b : Bool) : State := s.setReg idx sub (putBit (s.reg idx sub) i b)

/-- The live bytes of a DOMAIN entry. -/
def State.dom (s : State) (idx sub : Nat) : Bytes :=
  match lookup s.doms (key idx sub) with | some d => d.bytes | none => []

/-- The generation of a DOMAIN entry (R473). -/
def State.domGen (s : State) (idx sub : Nat) : Nat :=
  match lookup s.doms (key idx sub) with | some d => d.gen | none => 0

/-- Set the live value of a DOMAIN entry; its generation increments when the value changes (R473). -/
def State.setDom (s : State) (idx sub : Nat) (bs : Bytes) : State :=
  if s.dom idx sub = bs then s else { s with doms := insertKey s.doms (key idx sub) ⟨bs, (s.domGen idx sub + 1) % 2 ^ 32⟩ }

/-- The value of a DOMAIN entry that is read from the state has changed: its generation increments (R473). -/
def State.bumpDom (s : State) (idx sub : Nat) : State :=
  { s with doms := insertKey s.doms (key idx sub) ⟨s.dom idx sub, (s.domGen idx sub + 1) % 2 ^ 32⟩ }

/-- The staged or superseded value of an entry for an object that begins at `sc`, if it differs from the live one (R28). -/
def State.otherAt (s : State) (idx sub sc : Nat) : Option StagedVal :=
  let k := key idx sub
  match s.dict.armed.bind (fun a => if a.1 ≤ sc then (lookup a.2 k).map (fun w => w.value) else none) with
  | some v => some v
  | none => (s.dict.past.find? (fun p => p.key = k && decide (sc < p.sc))).map (fun p => p.value)

/-- The value of an entry for an object that begins at `sc` (R28): the armed value from SC_c on, and the old one before a past boundary. -/
def State.regAt (s : State) (idx sub sc : Nat) : Nat :=
  match s.otherAt idx sub sc with
  | some (.num v) => v
  | _ => s.reg idx sub

/-- The bytes of a DOMAIN entry for an object that begins at `sc` (R28). -/
def State.domAt (s : State) (idx sub sc : Nat) : Bytes :=
  match s.otherAt idx sub sc with
  | some (.dom b) => b
  | _ => s.dom idx sub

/-- The configuration epoch in force at an SC (R28, R29). -/
def State.epochAt (s : State) (sc : Nat) : Nat :=
  let ahead := match s.dict.armed with | some a => if a.1 ≤ sc then 1 else 0 | none => 0
  (s.reg 0x1100 1 + 2 ^ 32 + ahead - (s.dict.boundaries.filter (fun b => decide (sc < b))).length % 2 ^ 32) % 2 ^ 32

/-- Indices from `lo` to `hi` whose entry `sub` is stored with value `v`, ascending. -/
def State.idxWith (s : State) (lo hi sub v : Nat) : List Nat :=
  (s.regs.filter (fun p => decide (lo ≤ p.1 / 256) && decide (p.1 / 256 ≤ hi) && decide (p.1 % 256 = sub) && decide (p.2 = v))).map
    (fun p => p.1 / 256)

/-- Enable status codes (R575). -/
abbrev stOff : Nat := 0
abbrev stEnabling : Nat := 1
abbrev stOn : Nat := 2
abbrev stDisabling : Nat := 3
abbrev stPending : Nat := 4

/-! ## Free values -/

/-- Draw a free value of `w` bits (log 4). -/
def State.draw (s : State) (w : Nat) : Nat × State :=
  ((Config.freeBits w s.drawn).toNat, { s with drawn := s.drawn + 1 })

/-- Draw `n` bytes from the on-die entropy source (log 5). -/
def drawBytes : Nat → Nat → Bytes
  | _, 0 => []
  | k, n + 1 => Config.entropyByte k :: drawBytes (k + 1) n

/-! ## Output -/

/-- Something leaves the part. -/
def State.emit (s : State) (o : Output) : State := { s with outbox := s.outbox ++ [o] }

/-! ## Classes (R19) -/

abbrev clsB : Nat := 0
abbrev clsN : Nat := 1
abbrev clsH : Nat := 2
abbrev clsU : Nat := 3

/-! ## DRAM bytes -/

/-- What an unlisted DRAM byte reads as (log 6). -/
def dramEmpty : Byte := 0

/-- One byte of DRAM at a logical address. -/
def dramGet (m : List Host.Cell) (a : Nat) : Byte := match lookup m a with | some b => b | none => dramEmpty

/-- Store one byte, keeping the canonical form. -/
def dramPut (m : List Host.Cell) (a : Nat) (b : Byte) : List Host.Cell :=
  if b = dramEmpty then eraseKey m a else insertKey m a b

/-- `n` bytes of DRAM from an address, lowest first. -/
def dramRead (m : List Host.Cell) : Nat → Nat → Bytes
  | _, 0 => []
  | a, n + 1 => dramGet m a :: dramRead m (a + 1) n

/-- Store bytes from an address up. -/
def dramWrite (m : List Host.Cell) : Nat → Bytes → List Host.Cell
  | _, [] => m
  | a, b :: bs => dramWrite (dramPut m a b) (a + 1) bs

/-- The canonical form of DRAM: addresses strictly rising and no byte equal to what an unlisted one reads. -/
def dramWf (m : List Host.Cell) : Bool := sorted m && m.all (fun c => decide (c.2 ≠ dramEmpty))

/-! ## Time stamps -/

/-- TB`t` as a TIME80. -/
def State.tb80 (s : State) (t : Nat) : Nat :=
  let b := nthD Timebase.reset s.time.tbs t
  time80 b.sec b.ns

/-- SC as held in TCLK (R414). -/
def State.sc (s : State) : Nat := s.time.sc

/-! ## Dowel sources and event counters -/

/-- The counter modes COUNT and DURATION wrap at 48 bits and set OVF (R501). -/
def State.counterAdd (s : State) (n by_ : Nat) : State :=
  let c := nthD ⟨0, false⟩ s.dowel.counters n
  let v := c.value + by_
  let s := { s with dowel := { s.dowel with counters := modNth (fun c => { c with value := v % 2 ^ 48 }) s.dowel.counters n } }
  if v ≥ 2 ^ 48 then s.setReg (0x6A40 + n) 8 1 else s

/-- MAXIMUM keeps the largest value seen (R499). -/
def State.counterMax (s : State) (n v : Nat) : State :=
  { s with dowel := { s.dowel with counters := modNth (fun c => { c with value := max c.value v }) s.dowel.counters n } }

/-- One occurrence of an E source at the event counters that are ON and name it (R499, R500). -/
def State.countE (s : State) (src payload : Nat) : State :=
  (s.idxWith 0x6A40 0x6A7F 2 stOn).foldl (fun s idx =>
    if s.reg idx 3 = src then
      match s.reg idx 4 with
      | 0 => s.counterAdd (idx - 0x6A40) 1
      | 2 => s.counterMax (idx - 0x6A40) payload
      | _ => s
    else s) s

/-- A value of a V source at the event counters in MAXIMUM (R499). -/
def State.countV (s : State) (src v : Nat) : State :=
  (s.idxWith 0x6A40 0x6A7F 2 stOn).foldl (fun s idx =>
    if s.reg idx 3 = src && s.reg idx 4 = 2 then s.counterMax (idx - 0x6A40) v else s) s

/-- A Dowel source fires with an SC stamp (R483, R485): the event awaits its take, and the event counters see it. -/
def State.fireAt (s : State) (src payload sc : Nat) : State :=
  let e : Event := ⟨src, payload % 2 ^ 16, sc, 0, 0, s.time.tclk⟩
  ({ s with dowel := { s.dowel with fired := s.dowel.fired ++ [e] } }).countE src (payload % 2 ^ 16)

/-- A Dowel source fires now. -/
def State.fire (s : State) (src payload : Nat) : State := s.fireAt src payload s.sc

/-! ## Sessions and notifications (R474) -/

/-- Session `k` (1 to 8) is OPEN. -/
def State.sessionOpen (s : State) (k : Nat) : Bool :=
  decide (1 ≤ k) && decide (k ≤ 8) && decide (s.reg (0x1030 + k - 1) 1 = 1)

/-- Map the hidden state of session `k`. -/
def State.modSession (s : State) (k : Nat) (f : Session → Session) : State :=
  { s with dict := { s.dict with sessions := modNth f s.dict.sessions (k - 1) } }

/-- Hidden state of session `k`. -/
def State.session (s : State) (k : Nat) : Session := nthD Session.reset s.dict.sessions (k - 1)

/-- Queue one notification record, or count it lost at 256 (R474). -/
def Session.enqueue (x : Session) (r : Bytes) : Session :=
  if x.queue.length < 256 then { x with queue := x.queue ++ [r] } else { x with lost := x.lost + 1 }

/-- A 32-byte notification record: kind, TB0 and 16 bytes of content (R474). -/
def notifyRecord (kind tb0 : Nat) (content : Bytes) : Bytes :=
  BitVec.ofNat 8 kind :: (zeroBytes 3 ++ beBytes 10 tb0 ++ zeroBytes 2 ++ content)

/-- Queue a notification at session `k` when it is not the one left out and its mask has the bit set. -/
def State.notifyAt (s : State) (except_ bit kind : Nat) (content : Bytes) (k : Nat) : State :=
  if k ≠ except_ && bitAt (s.reg (0x102F + k) 8) bit then
    s.modSession k (fun x => x.enqueue (notifyRecord kind (s.tb80 0) content))
  else s

/-- The numbers of the open sessions. -/
def State.openSessions (s : State) : List Nat := (s.idxWith 0x1030 0x1037 1 1).map (fun idx => idx - 0x102F)

/-- Queue a notification at every open session whose mask has the bit set, but for one session. -/
def State.notifyBut (s : State) (except_ bit kind : Nat) (content : Bytes) : State :=
  s.openSessions.foldl (fun s k => s.notifyAt except_ bit kind content k) s

/-- Queue a notification at every open session whose mask has the bit set. -/
def State.notify (s : State) (bit kind : Nat) (content : Bytes) : State := s.notifyBut 0 bit kind content

/-! ## Abort log (R482) -/

/-- An abort log record: reason, session (FFh the device), entry, detail and SC_c. -/
def State.abortLog (s : State) (reason sess idx sub detail sc : Nat) : State :=
  let slot := s.reg 0x1110 1 % 16
  let rec_ := ((((((((s.tb80 0 * 2 ^ 8 + reason) * 2 ^ 8 + sess) * 2 ^ 16 + idx) * 2 ^ 8 + sub) * 2 ^ 8 + detail)
    * 2 ^ 32 + s.reg 0x1100 1) * 2 ^ 64 + sc) * 2 ^ 32)
  let s := (s.setReg 0x1110 (2 + slot) rec_).setReg 0x1110 1 ((slot + 1) % 16)
  s.notify 1 2 (BitVec.ofNat 8 slot :: BitVec.ofNat 8 reason :: zeroBytes 14)

/-! ## Non-volatile log (R543, R544) -/

/-- The class byte of a fault record. -/
def recClass (r : Nat) : Nat := bits r 143 136

/-- The action byte of a fault record. -/
def recAction (r : Nat) : Nat := bits r 135 128

/-- The instance field of a fault record. -/
def recInstance (r : Nat) : Nat := bits r 127 112

/-- A slot that makes a tile FAILED at reset and has not been cancelled: the ring skips it (R543, R151). -/
def NvSlot.keeps (x : NvSlot) : Bool := x.state = 1 && recClass x.record = 2 && recAction x.record = 0x0C

/-- The first slot from `i` on that the ring may overwrite, within `fuel` slots. -/
def nvFree (log : List (Nat × NvSlot)) : Nat → Nat → Nat
  | 0, i => i % 4096
  | fuel + 1, i =>
    match lookup log (i % 4096) with
    | some x => if x.keeps then nvFree log fuel (i + 1) else i % 4096
    | none => i % 4096

/-- Write a record to the slot after the newest. -/
def Nv.write (nv : Nv) (r : Nat) : Nv :=
  let i := nvFree nv.log 4096 (nv.newest + 1)
  { nv with log := insertKey nv.log i ⟨1, r⟩, newest := i, written := satAdd32 nv.written 1 }

/-- T_j lies in the window in which the log may be written (R544). -/
def State.nvWindow (s : State) : Bool :=
  let tj := s.sreg 16 0x7400 1
  decide (0 ≤ tj) && decide (tj ≤ 105 * 16)

/-- Place a record in the non-volatile log, or in the deferred queue, or drop it (R544). -/
def State.nvPlace (s : State) (r : Nat) : State :=
  if s.nvWindow && s.power.deferred.isEmpty then
    let nv := s.nv.write r
    { s with nv := nv, regs := insertKey (insertKey s.regs (key 0x7480 1) nv.newest) (key 0x7480 2) nv.written }
  else if s.power.deferred.length < 16 then { s with power := { s.power with deferred := s.power.deferred ++ [r] } }
  else { s with power := { s.power with deferredLost := satAdd32 s.power.deferredLost 1 } }

/-! ## Fault log (R522, R523) -/

/-- A 32-byte fault record. -/
def faultBytes (tb0 seq cls act inst_ cause intr detail : Nat) : Nat :=
  ((((((tb0 * 2 ^ 32 + seq) * 2 ^ 8 + cls) * 2 ^ 8 + act) * 2 ^ 16 + inst_ % 2 ^ 16) * 2 ^ 16 + cause % 2 ^ 16) * 2 ^ 32 + intr) * 2 ^ 64
    + detail % 2 ^ 64

/-- Classes whose records also go to the non-volatile log (R523). -/
def nvClass (cls : Nat) : Bool := cls = 2 || cls = 3 || cls = 4 || cls = 6 || cls = 8 || cls = 0x0F

/-- A record enters the fault log: the ring, its counters, FAULT_RECORD and the FAULT notification (R522). -/
def State.faultRecord (s : State) (cls act inst_ cause intr detail : Nat) : State :=
  let seq := s.reg 0x7000 7 % 2 ^ 32
  let r := faultBytes (s.tb80 0) seq cls act inst_ cause intr detail
  let slot := s.reg 0x7001 1 % 32
  let s := (s.setReg 0x7001 (2 + slot) r).setReg 0x7001 1 ((slot + 1) % 32)
  let s := (s.inc64 0x7000 7 1).inc32 0x7002 cls 1
  let s := s.fire 0x341 (seq % 2 ^ 16)
  let s := s.notify 2 3 (beBytes 4 seq ++ zeroBytes 12)
  if nvClass cls then s.nvPlace r else s

/-- Interruption field of a record whose action only started. -/
abbrev noInterruption : Nat := 0xFFFFFFFF

/-- A fault is detected and its action starts: a recovery begins (R508, R522). -/
def State.faultStart (s : State) (cls inst_ cause detail : Nat) : State :=
  let s := s.faultRecord cls 0x0C inst_ cause noInterruption detail
  { s with avail := { s.avail with recoveries := s.avail.recoveries ++ [⟨cls, inst_, s.time.tclk⟩] } }

/-- The action of a recovery completes with an action code: the second record, the counts, the recovery ends (R522, R525). -/
def State.faultDone (s : State) (cls act inst_ cause detail : Nat) : State :=
  match s.avail.recoveries.find? (fun r => r.cls = cls && r.inst = inst_) with
  | some r =>
    let ns := min ((s.time.tclk - r.tick) * 2) 0xFFFFFFFE
    let s := { s with avail := { s.avail with recoveries := s.avail.recoveries.erase r } }
    let s := (s.inc32 0x7000 2 1).setReg 0x7000 3 (max (s.reg 0x7000 3) ns)
    s.faultRecord cls act inst_ cause ns detail
  | none => s.faultRecord cls act inst_ cause noInterruption detail

/-- A recovery is in progress (7000h.01). -/
def State.recovering (s : State) : Bool := !s.avail.recoveries.isEmpty

/-! ## Task inputs (R490) -/

/-- An input that has had no delivery. -/
def InputState.reset : InputState := ⟨none, none, 0, 0, 0, [0, 0, 0, 0]⟩

/-- The state of a task input. -/
def State.input (s : State) (id : Nat) : InputState :=
  match lookup s.dowel.inputs id with | some x => x | none => InputState.reset

/-- Replace the state of a task input. -/
def State.setInput (s : State) (id : Nat) (x : InputState) : State :=
  { s with dowel := { s.dowel with inputs := insertKey s.dowel.inputs id x } }

/-- The event the consumer of an input has been given and has not taken. -/
def State.held (s : State) (id : Nat) : Option Event := (s.input id).held.map (fun d => d.event)

/-- The consumer takes its delivery; a pending event goes to it (R490). -/
def State.takeInput (s : State) (id : Nat) : State :=
  let x := s.input id
  s.setInput id { x with held := x.queued.map (fun d => { d with since := s.time.tclk }), queued := none }

/-! ## Refusals -/

/-- REFUSED details of R475. -/
abbrev dRange : Nat := 1
abbrev dNotOff : Nat := 2
abbrev dRule : Nat := 3
abbrev dCommitSc : Nat := 4
abbrev dArmed : Nat := 5
abbrev dStore : Nat := 6
abbrev dCheck : Nat := 7
abbrev dState : Nat := 8

/-- What a write's own rule answers: a new state, or a REFUSED detail. -/
abbrev Verdict := Except Nat State

/-- Accept with a state, or refuse. -/
def accept (ok : Bool) (detail : Nat) (s : State) : Verdict := if ok then .ok s else .error detail

/-- A unit in DISABLING reaches OFF: a latched enable is tested again, and is dropped with an abort log record if it fails (R575). -/
def State.reachOff (s : State) (idx en : Nat) (check : State → Nat) (enabling : State → State) : State :=
  let latched := s.reg idx (en + 1) = stPending
  let s := s.setReg idx (en + 1) stOff
  if latched then
    if check s = 0 then enabling (s.setReg idx (en + 1) stEnabling)
    else (s.setReg idx en 0).abortLog 6 0xFF idx en (check s) 0
  else s

/-- The port an arbiter grants among those requesting: the first at or after its pointer, wrapping (R21). -/
def rotating (n ptr : Nat) (ports : List Nat) : Option Nat :=
  (List.range n).map (fun i => (ptr + i) % n) |>.find? (fun p => ports.contains p)

/-- `f` folded over a list of instances. -/
def State.each {α : Type} (s : State) (xs : List α) (f : α → State → State) : State := xs.foldl (fun s x => f x s) s

/-- `f` when a condition holds, no effect otherwise. -/
def State.whenB (s : State) (c : Bool) (f : State → State) : State := if c then f s else s

end Sys2Proof.Machine
end

