-- ==== Sys2Proof/Machine/DspBase.lean ====
section
/-! DEFINITION. What every DSP operation shares: registers, addressing modes, poison, the exposed pipeline, traps and the issue of a bundle
(chapter 9, R278 to R304). -/

namespace Sys2Proof.Machine

/-! ## Access to a core -/

/-- Core `n`. -/
def State.core (s : State) (n : Nat) : DspCore := nthD DspCore.reset s.dsp.cores n

/-- Map core `n`. -/
def State.modCore (s : State) (n : Nat) (f : DspCore → DspCore) : State := { s with dsp := { s.dsp with cores := modNth f s.dsp.cores n } }

/-- Run state of core `n` (R309). -/
def State.dspRun (s : State) (n : Nat) : Nat := s.reg (0x5000 + n) 3

/-- Run states (R309). -/
abbrev dsStopped : Nat := 0
abbrev dsRunning : Nat := 1
abbrev dsWaiting : Nat := 2
abbrev dsHalted : Nat := 3
abbrev dsFaulted : Nat := 4
abbrev dsDebug : Nat := 5
abbrev dsLoading : Nat := 6

/-- Set the run state of core `n`; it reads STOPPED whenever the status does not read ON (R309). -/
def State.setDspRun (s : State) (n v : Nat) : State := s.setReg (0x5000 + n) 3 (if s.reg (0x5000 + n) 2 = stOn then v else dsStopped)

/-- Core `n` issues bundles: it runs or waits at a WAITE, or it goes on to its next boundary after a disable (R308, R309). -/
def State.dspIssues (s : State) (n : Nat) : Bool := s.dspRun n = dsRunning || s.dspRun n = dsWaiting || (s.core n).ending = some .issuing

/-- Trap causes, which are also vector numbers (R304). -/
abbrev cLoadEcc : Nat := 1
abbrev cFarFault : Nat := 2
abbrev cFarTimeout : Nat := 3
abbrev cAlign : Nat := 4
abbrev cBadAddr : Nat := 5
abbrev cRepMax : Nat := 6
abbrev cIllegalCr : Nat := 7
abbrev cSecure : Nat := 8
abbrev cSoft : Nat := 9
abbrev cImemEcc : Nat := 0x0A

/-- Bits of SR (R280). -/
abbrev srExc : Nat := 14
abbrev srIe : Nat := 13
abbrev srDz : Nat := 12
abbrev srSat : Nat := 11
abbrev srAsat : Nat := 10
abbrev srPsn : Nat := 9
/-- The bits of SR that MOVCW and RTI write. -/
abbrev srWritable : Nat := 0x7E0F

/-- Set sticky bits of SR. -/
def DspCore.stick (c : DspCore) (bit : Nat) : DspCore := { c with sr := setBit c.sr bit }

/-- A result saturated: a sticky bit, and the bundle counts as one that saturates (R281, R282). -/
def DspCore.saturated (c : DspCore) (bit : Nat) (b : Bool) : DspCore := if b then { c.stick bit with satNow := true } else c

/-- SR as it reads, for a core whose secure entry is `sec` (R280). -/
def DspCore.srValue (c : DspCore) (sec : Bool) : Nat := c.sr % 2 ^ 15 + ofBool sec * 2 ^ 15 + ofBool c.rep.isSome * 2 ^ 8

/-- D register `i`; a poisoned one reads 0 (R298). -/
def DspCore.dv (c : DspCore) (i : Nat) : Word32 := if nthD false c.dPoison i then 0 else nthD 0 c.d i

/-- D register `i` is poisoned. -/
def DspCore.poisoned (c : DspCore) (i : Nat) : Bool := nthD false c.dPoison i

/-! ## The pipeline (R291, R292) -/

/-- A write takes effect. -/
def DspCore.apply (c : DspCore) (w : RegWrite) : DspCore :=
  match w with
  | .d i v p => { c with d := modNth (fun _ => v) c.d i, dPoison := modNth (fun _ => p) c.dPoison i }
  | .a i v => { c with a := modNth (fun _ => v) c.a i }
  | .m i v => { c with m := modNth (fun _ => v) c.m i }
  | .ac i v => { c with acOut := modNth (fun _ => v) c.acOut i }
  | .flag i b => { c with sr := putBit c.sr i b }
  | .ie b => { c with sr := putBit c.sr srIe b }
  | .lr v => { c with lr := v }
  | .cr sel v =>
    match sel with
    | 0x00 => { c with sr := v &&& srWritable }
    | 0x01 => { c with imr := v % 2 ^ 8 }
    | 0x03 => { c with vbr := v % 2 ^ 13 / 4 * 4 }
    | 0x04 => { c with epc := v % 2 ^ 13 }
    | 0x05 => { c with esr := v &&& 0xFF0F }
    | 0x06 => { c with ecause := v % 2 ^ 16 }
    | 0x07 => { c with eaddr := v % 2 ^ 13 }
    | 0x08 => { c with edata := v }
    | 0x09 => { c with lr := v % 2 ^ 13 }
    | 0x0B => { c with bxm := v % 16 }
    | 0x0C => { c with bsh := v % 4 }
    | 0x0D => { c with bexp := v % 256 }
    | _ =>
      if 0x20 ≤ sel && sel < 0x28 then { c with am := modNth (fun _ => v) c.am (sel - 0x20) }
      else if 0x28 ≤ sel && sel < 0x30 then { c with ab := modNth (fun _ => BitVec.ofNat 32 v) c.ab (sel - 0x28) }
      else c

/-- Writes that make up `ws` take effect in order of their bundle; of those of one bundle, loads first, so that a slot A result is kept (R291). -/
def DspCore.applyAll (c : DspCore) (ws : List PendWrite) : DspCore :=
  let dues := (ws.map (fun w => w.due)).eraseDups
  let sorted_ := (List.range 32).flatMap (fun k => dues.filter (fun t => t = c.bundle + k))
  let late := dues.filter (fun t => decide (t < c.bundle))
  (late ++ sorted_).foldl (fun c t =>
    let now := ws.filter (fun w => w.due = t)
    (now.filter (fun w => w.load) ++ now.filter (fun w => !w.load)).foldl (fun c w => c.apply w.what) c) c

/-- The drain of R292: every write in flight completes. -/
def DspCore.drain (c : DspCore) : DspCore := { c.applyAll (c.writes ++ c.div.toList) with writes := [], div := none }

/-- Queue a write that bundle i + k sees first, from slot A. -/
def DspCore.queue (c : DspCore) (k : Nat) (w : RegWrite) : DspCore := { c with writes := c.writes ++ [⟨c.bundle + k, false, w⟩] }

/-- Queue the write of a load. -/
def DspCore.queueLoad (c : DspCore) (k : Nat) (w : RegWrite) : DspCore := { c with writes := c.writes ++ [⟨c.bundle + k, true, w⟩] }

/-- A D result of slot A; a poisoned one is 0 and sets PSN (R298). -/
def DspCore.result (c : DspCore) (k i : Nat) (v : Word32) (poison : Bool) : DspCore :=
  if poison then (c.queue k (.d i 0 true)).stick srPsn else c.queue k (.d i v false)

/-- An accumulator result (R291): the next accumulating operation sees it in bundle i + 1, moves in bundle i + 2. -/
def DspCore.setAc (c : DspCore) (i : Nat) (v : DspAcc) : DspCore :=
  let c := if v.poison then c.stick srPsn else c
  { c with ac := modNth (fun _ => v) c.ac i }.queue 2 (.ac i v)

/-! ## Traps (R303) -/

/-- A fault is detected: the first is the one taken, later ones count; with EXC set it is a double fault. -/
def DspCore.raise (c : DspCore) (cause code data bundle : Nat) : DspCore :=
  if bitAt c.sr srExc then { c with double := some (code * 256 + cause) }
  else match c.trap with
    | none => { c with trap := some ⟨cause, code, bundle, data, 0⟩ }
    | some t => { c with trap := some { t with further := min (t.further + 1) 15 } }

/-- A boundary between bundles at which a trap or interrupt may be taken (R301). -/
def DspCore.boundary (c : DspCore) : Bool := !c.issued && c.branch.isNone && c.rep.isNone

/-- Far accesses outstanding, as the entry shows them. -/
def State.showFar (s : State) (n : Nat) : State := s.setReg (0x5000 + n) 0x12 (s.core n).far.length

/-- A double fault found stops the core (R303). -/
def State.dspDouble (s : State) (n : Nat) : State :=
  match (s.core n).double with
  | none => s
  | some v =>
    let s := s.modCore n (fun c => { c.drain with double := none, issued := false, trap := none, ending := none })
    let s := (s.setReg (0x5000 + n) 0x0C (0x8000 + v % 4096)).setDspRun n dsFaulted
    (s.fire (0x105 + 8 * n) (0x8000 + v % 4096)).faultRecord 0x0C 0 n (v % 256) noInterruption s.sc

/-! ## Interrupt inputs (R300) -/

/-- The Dowel task input dsp.irq`i` of core `n`. -/
abbrev irqInput (n i : Nat) : Nat := 0x100 + 8 * n + i

/-- IPR of core `n`. -/
def State.dspIpr (s : State) (n : Nat) : Nat := (List.range 8).foldl (fun a i => if (s.held (irqInput n i)).isSome then a + 2 ^ i else a) 0

/-- Inputs whose interrupt could be taken now. -/
def State.dspIrqs (s : State) (n : Nat) : List Nat :=
  if bitAt (s.core n).sr srIe then (List.range 8).filter (fun i => bitAt (s.dspIpr n) i && bitAt (s.core n).imr i) else []

/-- The input chosen (R300): the highest class, then the rotating pointer. -/
def State.dspIrqChoice (s : State) (n : Nat) : Option Nat :=
  let cls := fun i => bits (s.reg (0x5000 + n) 0x13) (2 * i + 1) (2 * i)
  let is_ := s.dspIrqs n
  let top := is_.foldl (fun a i => max a (cls i)) 0
  rotating 8 (nthD 0 (s.core n).irqPtr top) (is_.filter (fun i => cls i = top))

/-! ## Issue -/


/-- The bundle at the PC; there are 8,192 (R276). -/
def DspCore.fetch (c : DspCore) : Option Nat := if c.pc < 8192 then some (c.imem.getD c.pc 0) else none

/-- Slot A and slot B of a bundle (R285). -/
def slotA (w : Nat) : Nat := w / 2 ^ 32
def slotB (w : Nat) : Nat := w % 2 ^ 32
/-- Fields of R286 and R288. -/
def fOp (w : Nat) : Nat := bits w 31 26
def fD (w : Nat) : Nat := bits w 25 22
def fX (w : Nat) : Nat := bits w 21 18
def fY (w : Nat) : Nat := bits w 17 14
def fZ (w : Nat) : Nat := bits w 13 10
def fF (w : Nat) : Nat := bits w 9 0
def fA (w : Nat) : Nat := bits w 21 19
def fM (w : Nat) : Nat := bits w 18 16
def fE (w : Nat) : Nat := bits w 15 12
def fB (w : Nat) : Nat := bits w 11 9
def fN (w : Nat) : Nat := bits w 8 6

/-- D registers that slot A names, as sources and as destinations. -/
def dRegsA (w : Nat) : List Nat :=
  let d := fD w
  let x := fX w
  let y := fY w
  match fOp w with
  | 0x01 => [x, y] | 0x02 => [x, y] | 0x03 => [x, y] | 0x04 => [x, y] | 0x05 => [x, y] | 0x06 => [x] | 0x07 => [x, y, fZ w]
  | 0x09 => [d] | 0x0A => [d, d + 1] | 0x0B => [d, x, y] | 0x0C => [d, x, y] | 0x0D => [d, x] | 0x0E => if bitAt w 0 then [x, y] else [x]
  | 0x10 => [d, x, y] | 0x11 => [d, x, y] | 0x12 => [d, x, y] | 0x13 => [d, x, y] | 0x14 => [d, x, y]
  | 0x15 => if bitAt w 9 then [d, x] else [d, x, y] | 0x16 => if bitAt w 9 then [d, x] else [d, x, y] | 0x17 => if bitAt w 9 then [d, x] else [d, x, y]
  | 0x18 => [d, x] | 0x19 => [d] | 0x1A => [d] | 0x1B => [x, y] | 0x1C => [d, x, y] | 0x1D => [d, x, y] | 0x1E => [d] | 0x1F => [x]
  | 0x20 => [d] | 0x21 => [x] | 0x2D => [d] | 0x2F => [d] | _ => []

/-- D registers that slot B names. -/
def dRegsB (w : Nat) : List Nat :=
  match fOp w with
  | 0x01 => [fD w] | 0x02 => [fD w] | 0x03 => [fD w] | 0x04 => [fD w] | 0x05 => [fD w, fE w] | 0x06 => [fD w, fE w] | 0x07 => [fD w, fE w]
  | 0x08 => [fD w] | 0x09 => [fD w] | _ => []

/-- A bundle stalls (R295, R299). -/
def DspCore.stalls (c : DspCore) (w : Nat) : Bool :=
  let loads := c.far.filter (fun f => !f.store)
  let stores := c.far.filter (fun f => f.store)
  let a := fOp (slotA w)
  let b := fOp (slotB w)
  loads.any (fun f => (dRegsA (slotA w)).contains f.dst || (dRegsB (slotB w)).contains f.dst)
    || (decide (0x28 ≤ a) && decide (a ≤ 0x2D) && !loads.isEmpty) || (b = 0x08 && decide (8 ≤ loads.length)) || (b = 0x09 && decide (8 ≤ stores.length))

/-- The events that the WAITE at the PC of core `n` takes now (R300). -/
def State.waitHits (s : State) (n : Nat) : Nat :=
  match (s.core n).fetch with
  | some w => if fOp (slotA w) = 0x2F then s.dspIpr n &&& (slotA w % 2 ^ 8) else 0
  | none => 0

/-- An event that the WAITE of a waiting core awaits sets it running (R309). -/
def State.wakeCore (s : State) (n : Nat) : State := if s.dspRun n = dsWaiting && s.waitHits n ≠ 0 then s.setDspRun n dsRunning else s

/-- The breakpoints of core `n` (R310). -/
def State.dspBreaks (s : State) (n : Nat) : List Nat :=
  if s.flag 0x1050 1 then [4, 5, 6, 7].map (s.reg (0xF500 + n)) else []

/-- A breakpoint stops the core before the bundle at its PC. -/
def State.atBreak (s : State) (n : Nat) : Bool :=
  let c := s.core n
  c.boundary && !c.passBreak && (s.dspBreaks n).contains c.pc

/-- Something other than the next bundle happens at this boundary (R301, R307, R308, R310). -/
def State.dspStopsHere (s : State) (n : Nat) : Bool :=
  let c := s.core n
  c.boundary && (c.trap.isSome || !(s.dspIrqs n).isEmpty || s.reg (0x5000 + n) 2 ≠ stOn || c.applyReq || c.haltReq || s.atBreak n)

/-- Core `n` issues, and its next slot A operation is `op`. -/
def State.issuesA (s : State) (n op : Nat) : Option Nat :=
  let c := s.core n
  if s.dspIssues n && !c.issued && !s.dspStopsHere n then
    match c.fetch with
    | some w => if fOp (slotA w) = op then some w else none
    | none => none
  else none

/-- A stalled tick (R299). -/
def State.dspStall (s : State) (n : Nat) : State :=
  (s.inc64 (0x5000 + n) 9 1).modCore n (fun c => { c with cycl := (c.cycl + 1) % 2 ^ 64 })

/-- The bundle at the PC issues: its slot A half. SR is restored where RTI's target issues (R293). -/
def State.beginBundle (s : State) (n : Nat) : State :=
  let c := s.core n
  ((s.setReg (0x5000 + n) 7 c.pc).setDspRun n dsRunning).modCore n (fun c =>
    let c := { c with issued := true, passBreak := false }
    match c.branch, c.rtiSr with
    | none, some v => { c with sr := v, rtiSr := none }
    | _, _ => c)

/-- Count a bundle that saturated. -/
def State.countSat (s : State) (n : Nat) : State :=
  if (s.core n).satNow then (s.inc64 (0x5000 + n) 0x11 1).modCore n (fun c => { c with satNow := false }) else s

/-- A slot A operation of core `n` whose effect needs the state; `f` gets the slot word. -/
def State.slotAWith (s : State) (n op : Nat) (f : Nat → State → State) : Result :=
  inst (decide (n < 16))
    (match s.issuesA n op with
     | none => .next s
     | some w => if (s.core n).stalls w then .next (s.dspStall n) else .next ((f (slotA w) (s.beginBundle n)).countSat n))

/-- A slot A operation of core `n` on the core's own state. -/
def State.slotAOp (s : State) (n op : Nat) (f : Nat → DspCore → DspCore) : Result := s.slotAWith n op (fun w s => s.modCore n (f w))

/-- The PC after a bundle (R293, R294). -/
def DspCore.advance (c : DspCore) : DspCore :=
  let nxt := (c.pc + 1) % 2 ^ 13
  match c.branch with
  | some (t, k) => if k = 1 then { c with branch := none, pc := t } else { c with branch := some (t, k - 1), pc := nxt }
  | none =>
    match c.skip with
    | some t => { c with skip := none, pc := t % 2 ^ 13 }
    | none =>
      match c.rep with
      | some r =>
        if r.armed then { c with rep := some { r with armed := false }, pc := nxt, lc := r.left }
        else if c.pc + 1 = r.start + r.len then
          if r.left = 0 then { c with rep := none, pc := nxt, lc := 0 }
          else { c with rep := some { r with left := r.left - 1 }, pc := r.start, lc := r.left - 1 }
        else { c with pc := nxt }
      | none => { c with pc := nxt }

/-- A bundle ends: what the next bundle sees takes effect. -/
def DspCore.endBundle (c : DspCore) : DspCore :=
  let c := { c with bundle := c.bundle + 1, cycl := (c.cycl + 1) % 2 ^ 64, issued := false }
  let c := c.applyAll ((c.writes ++ c.div.toList).filter (fun w => decide (w.due ≤ c.bundle)))
  { c with writes := c.writes.filter (fun w => decide (c.bundle < w.due)), div := c.div.filter (fun w => decide (c.bundle < w.due)) }.advance

/-- What a core does at the end of a bundle: a double fault, HALT, a disable, a debug halt (R303, R308, R310). -/
def State.afterBundle (s : State) (n : Nat) : State :=
  let c := s.core n
  if c.double.isSome then s.dspDouble n
  else if c.halting then ((s.modCore n (fun c => { c with halting := false, ending := none })).setDspRun n dsHalted).fire (0x104 + 8 * n) (s.reg (0x5000 + n) 7)
  else if c.boundary && s.reg (0x5000 + n) 2 ≠ stOn then (s.modCore n (fun c => { c.drain with ending := none })).setDspRun n dsStopped
  else if c.boundary && (c.haltReq || c.stepping) then
    (s.modCore n (fun c => { c.drain with haltReq := false, stepping := false })).setDspRun n dsDebug
  else s

/-- A slot B operation of core `n`, with which its bundle ends; `f` gets the slot word. -/
def State.slotBWith (s : State) (n op : Nat) (f : Nat → State → State) : Result :=
  inst (decide (n < 16))
    (match (s.core n).issued, (s.core n).fetch with
     | true, some w =>
       if fOp (slotB w) = op then
         .next ((((f (slotB w) s).modCore n DspCore.endBundle).inc64 (0x5000 + n) 8 1).afterBundle n)
       else .next s
     | _, _ => .next s)

/-- A slot B operation on the core's own state. -/
def State.slotBOp (s : State) (n op : Nat) (f : Nat → DspCore → DspCore) : Result := s.slotBWith n op (fun w s => s.modCore n (f w))

/-! ## Addressing modes (R296) -/

/-- The low `k` bits of `v`, reversed. -/
def revBits (k v : Nat) : Nat := (List.range k).foldl (fun a i => if bitAt v i then a + 2 ^ (k - 1 - i) else a) 0

/-- An address register after a post-modify by M register value `m` (R296). -/
def postModify (am : Nat) (base a m : Word32) : Word32 :=
  let b : Int := base.toNat
  match bits am 31 30 with
  | 1 =>
    let l : Int := if bits am 18 0 = 0 then 262144 else bits am 18 0
    let t := (a.toNat : Int) + m.toInt
    BitVec.ofInt 32 (if b + l ≤ t then t - l else if t < b then t + l else t)
  | 2 =>
    let k := bits am 4 0
    let o := (((a.toNat : Int) - b) / 4 % ((2 ^ k : Nat) : Int)).toNat
    let st := (m.toInt / 4 % ((2 ^ k : Nat) : Int)).toNat
    BitVec.ofInt 32 (b + 4 * (revBits k ((revBits k o + revBits k st) % 2 ^ k) : Nat))
  | _ => a + m

/-- Address register `i`, and its post-modify by M register `j`, which the next bundle sees. -/
def DspCore.areg (c : DspCore) (i : Nat) : Word32 := nthD 0 c.a i
def DspCore.post (c : DspCore) (i j : Nat) : DspCore :=
  c.queue 1 (.a i (postModify (nthD 0 c.am i) (nthD 0 c.ab i) (c.areg i) (nthD 0 c.m j)))

end Sys2Proof.Machine
end

