-- ==== Sys2Proof/Machine/Timing.lean ====
section
/-! DEFINITION. Reference selection, SC, timebases, pulses, captures and PTP (chapter 13). -/

namespace Sys2Proof.Machine

/-! ## Timebases (R416, R417) -/

/-- Timebase `t`. -/
def State.tb (s : State) (t : Nat) : Timebase := nthD Timebase.reset s.time.tbs t

/-- Map timebase `t`. -/
def State.modTb (s : State) (t : Nat) (f : Timebase → Timebase) : State :=
  { s with time := { s.time with tbs := modNth f s.time.tbs t } }

/-- Nanoseconds since the epoch of timebase `t`. -/
def Timebase.nanos (b : Timebase) : Nat := b.sec * 1000000000 + b.ns

/-- The increment of R416 for a rate and a slew in 10^-12; ties of the rounding go to even (log 20). -/
def tbIncrement (r slew : Int) : Int := rneDiv (((2 ^ 33 : Nat) : Int) * (1000000000000 + r + slew)) 1000000000000

/-- Add `inc` units of 2^-32 ns. -/
def Timebase.addUnits (b : Timebase) (inc : Int) : Timebase :=
  let total : Nat := (((b.sec * 1000000000 + b.ns) * 2 ^ 32 + b.frac : Nat) + inc).toNat
  { b with frac := total % 2 ^ 32, ns := total / 2 ^ 32 % 1000000000, sec := total / 2 ^ 32 / 1000000000 % 2 ^ 48 }

/-- One TCLK tick of an adjustable timebase (R417): rate `r`, slew limit in ppb. -/
def Timebase.tickSlew (b : Timebase) (r : Int) (ppb : Nat) : Timebase :=
  let base := tbIncrement r 0
  if b.outstanding = 0 then b.addUnits base
  else
    let lim : Int := if b.outstanding < 0 then -((ppb * 1000 : Nat) : Int) else ((ppb * 1000 : Nat) : Int)
    let gain := tbIncrement r lim - base
    if b.outstanding.natAbs ≤ gain.natAbs then { (b.addUnits (base + b.outstanding)) with outstanding := 0 }
    else { (b.addUnits (base + gain)) with outstanding := b.outstanding - gain }

/-- The increment of the next tick of an adjustable timebase (R416). -/
def Timebase.increment (b : Timebase) (r : Int) (ppb : Nat) : Int :=
  let base := tbIncrement r 0
  if b.outstanding = 0 then base
  else
    let gain := tbIncrement r (if b.outstanding < 0 then -((ppb * 1000 : Nat) : Int) else ((ppb * 1000 : Nat) : Int)) - base
    if b.outstanding.natAbs ≤ gain.natAbs then base + b.outstanding else base + gain

/-- The increment of timebase `t` as 6040h+t.08 and the page show it. -/
def State.tbInc (s : State) (t : Nat) : Nat :=
  if t < 6 then ((s.tb t).increment (s.sreg 32 (0x6040 + t) 2) (s.reg (0x6040 + t) 5)).toNat else s.reg (0x6040 + t) 8

/-- One TCLK tick of timebase `t`. -/
def State.tbTick (s : State) (t : Nat) : State :=
  let old := s.tb t
  let s := s.modTb t (fun b =>
    if t < 6 then b.tickSlew (s.sreg 32 (0x6040 + t) 2) (s.reg (0x6040 + t) 5)
    else b.addUnits (s.reg (0x6040 + t) 8))
  if t ≠ 0 && (s.tb t).sec ≠ old.sec then s.fire (0x308 + t) (s.tb t).sec else s

/-- Set a timebase to a time; its fraction is 0 and its outstanding offset is cleared (R417). -/
def State.tbStepTo (s : State) (t sec ns : Nat) : State :=
  (s.modTb t (fun b => { b with sec := sec, ns := ns, frac := 0, outstanding := 0 })).inc32 (0x6040 + t) 9 1

/-! ## One TCLK tick -/

/-- SC advances by f_SC / 500 MHz per TCLK tick, exactly (R413, R414). -/
def TimeState.tickSc (t : TimeState) (fsc : Nat) : TimeState :=
  let acc := t.scAcc + fsc
  { t with sc := (t.sc + acc / 500000000) % 2 ^ 64, scAcc := acc % 500000000, tclk := t.tclk + 1 }

/-- A waiting CLKOUT ball starts at the first SC with SC mod d = 0 between two ticks (R413). -/
def clkStarts (before after d : Nat) : Bool := d ≠ 0 && (before / d ≠ after / d || after % d = 0)

/-- One TCLK tick of SC and of the timebases; nothing moves while the reference unit is stopped (R415). -/
def State.clockTick (s : State) : State :=
  if s.time.running then
    let before := s.time.sc
    let s := { s with time := s.time.tickSc (s.reg 0x6000 3) }
    let s := s.each (List.range 8) (fun t s => s.tbTick t)
    let waits := (List.range 8).map (fun k => nthD false s.time.clkWait k && !clkStarts before s.time.sc (s.reg (0x6030 + k) 1))
    { s with time := { s.time with clkWait := waits } }
  else s

/-! ## Candidates (R402 to R406) -/

/-- Candidate `i`'s hidden state. -/
def State.cand (s : State) (i : Nat) : Candidate := nthD Candidate.reset s.time.cands i

/-- Map candidate `i`'s hidden state. -/
def State.modCand (s : State) (i : Nat) (f : Candidate → Candidate) : State :=
  { s with time := { s.time with cands := modNth f s.time.cands i } }

/-- Level of a grandmaster clockClass (R403). -/
def classLevel (c : Nat) : Nat :=
  if c = 6 then 2 else if c = 7 then 4 else if c = 13 || c = 14 then 6
  else if c = 52 || c = 58 || c = 187 || c = 193 then 8
  else if c = 135 || c = 140 || c = 150 || c = 160 || c = 165 then 10
  else if c = 248 then 14 else 15

/-- The port of the selected grandmaster is in SLAVE (portState 9; R404). -/
def State.ptpSlave (s : State) : Bool :=
  s.reg 0x6070 2 = stOn && (match s.time.gmPort with | some p => s.flag (0x6071 + p) 1 && s.reg (0x6071 + p) 2 = 9 | none => false)

/-- The level a candidate has by its mode and its messages (R402, R403). -/
def State.candLevel (s : State) (i : Nat) : Nat :=
  if s.reg (0x6010 + i) 6 = 1 then s.reg (0x6010 + i) 7
  else if i = 4 then (if s.ptpSlave then classLevel (s.reg 0x6070 0x0E) else 15)
  else match (s.cand i).qlReceived with | some q => q | none => s.reg (0x6010 + i) 7

/-- A candidate is eligible (R406); one of priority 0 is never selected (R399). -/
def State.candEligible (s : State) (i : Nat) : Bool :=
  bitAt (s.reg (0x6010 + i) 1) 1 && decide (s.reg (0x6010 + i) 8 < 15) && (s.cand i).wtr = 0 && decide (s.reg (0x6010 + i) 2 ≠ 0)

/-- Refresh the effective level and the eligible bit of every candidate. -/
def State.refreshCands (s : State) : State :=
  s.each (List.range 5) (fun i s =>
    let l := s.candLevel i
    let s := if s.reg (0x6010 + i) 8 = l then s else (s.setReg (0x6010 + i) 8 l).inc32 (0x6010 + i) 0x0F 1
    if bitAt (s.reg (0x6010 + i) 1) 2 = s.candEligible i then s else s.regBit (0x6010 + i) 1 2 (s.candEligible i))

/-- Candidate `i` is better than `j`: level, then priority, then index (R407). -/
def State.candBetter (s : State) (i j : Nat) : Bool :=
  let li := s.reg (0x6010 + i) 8
  let lj := s.reg (0x6010 + j) 8
  let pi := s.reg (0x6010 + i) 2
  let pj := s.reg (0x6010 + j) 2
  decide (li < lj) || (li = lj && (decide (pi < pj) || (pi = pj && decide (i < j))))

/-- The best eligible candidate (R407). -/
def State.bestCand (s : State) : Option Nat :=
  (List.range 5).foldl (fun b i =>
    if s.candEligible i then match b with
      | none => some i
      | some j => if s.candBetter i j then some i else some j
    else b) none

/-! ## Holdover (R410, R411) -/

/-- TB0 in ns. -/
def State.tb0Ns (s : State) : Nat := (s.tb 0).nanos

/-- The control word of holdover: the mean of the valid history seconds that lie in the window before the loss; none if there is none (R410). -/
def holdoverMean (h : List HistoryEntry) (lossNs guard window : Nat) : Option Int :=
  let hi : Int := (lossNs : Int) - (guard * 1000000000 : Nat)
  let lo : Int := hi - (window * 1000000000 : Nat)
  let xs := h.filter (fun e => e.valid && decide (lo ≤ ((e.sec * 1000000000 : Nat) : Int)) && decide ((((e.sec + 1) * 1000000000 : Nat) : Int) ≤ hi))
  if xs.length = 0 then none else some (rneDiv (xs.foldl (fun a e => a + e.value) 0) xs.length)

/-- The level of the cleaned output (R411). -/
def State.qlOut (s : State) : Nat :=
  let lv := fun i => if i < 5 then s.reg (0x6010 + i) 8 else 0
  match s.reg 0x6000 1 with
  | 2 => lv (s.reg 0x6000 2)
  | 3 => max (lv (s.reg 0x6000 2)) (lv s.time.prevCand)
  | 4 => max (s.reg 0x6000 0x0A) (lv s.time.lastCand)
  | _ => s.reg 0x6000 9

/-- Enter a state of R408 with a selected candidate (FFh none). -/
def State.enterRef (s : State) (st sel : Nat) : State :=
  let old := s.reg 0x6000 2
  let s := if old < 5 then s.regBit (0x6010 + old) 1 3 false else s
  let s := if sel < 5 then s.regBit (0x6010 + sel) 1 3 true else s
  let s := (s.setReg 0x6000 1 st).setReg 0x6000 2 sel
  let s := { s with time := { s.time with
    secondLocked := s.time.secondLocked && st = 2,
    acqWindow := s.time.acqWindow && st = 1 && sel = old,
    prevCand := if sel = old then s.time.prevCand else old,
    lastCand := if sel < 5 then sel else s.time.lastCand } }
  s.setReg 0x6000 8 s.qlOut

/-- Enter HOLDOVER from the history, or FREERUN when no valid history lies in the window (R410). -/
def State.enterHoldover (s : State) (lossNs : Nat) : State :=
  match holdoverMean s.time.history lossNs (s.reg 0x6000 6) (s.reg 0x6000 5) with
  | some c =>
    let s := (s.setReg 0x6000 0x0C (ofSigned 32 c)).setReg 0x6000 0x0D (ofSigned 32 c)
    (s.inc32 0x6000 0x0F 1).enterRef 4 0xFF
  | none => (s.setReg 0x6000 0x0C 0).enterRef 0 0xFF

/-- The loss instant when the last candidate is no longer eligible: the earliest among the candidates disqualified together with it, and now where
it has not been disqualified (R410, R412). -/
def State.lossInstant (s : State) : Nat :=
  let i := s.time.lastCand
  let out := fun j => !bitAt (s.reg (0x6010 + j) 1) 1 && (s.cand j).everDisqualified && (s.cand j).outNs = (s.cand i).outNs
  if i < 5 && out i then ((List.range 5).filter out).foldl (fun a j => min a (s.cand j).lossNs) (s.cand i).lossNs else s.tb0Ns

/-- No eligible candidate: where the state table of R408 leads. -/
def State.noCandidate (s : State) : State :=
  match s.reg 0x6000 1 with
  | 2 => s.enterHoldover s.lossInstant
  | 3 => s.enterHoldover s.lossInstant
  | 1 => (s.setReg 0x6000 0x0C 0).enterRef 0 0xFF
  | _ => s

/-- Select a candidate from the present state (R408). -/
def State.selectCand (s : State) (i : Nat) : State :=
  match s.reg 0x6000 1 with
  | 0 => s.enterRef 1 i
  | 1 => s.enterRef 1 i
  | _ => s.enterRef 3 i

/-- One evaluation of the selector (R407, R412); a switch in progress is left to complete unless its target was lost. -/
def State.evaluate (s : State) : State :=
  let sel := s.reg 0x6000 2
  let selOk := decide (sel < 5) && s.candEligible sel
  let force := s.reg 0x6000 0x11
  if s.reg 0x6000 1 = 3 && selOk then s.setReg 0x6000 8 s.qlOut
  else if force = 7 then (if s.reg 0x6000 1 = 0 then s else (s.setReg 0x6000 0x0C 0).enterRef 0 0xFF)
  else if force = 6 then (if s.reg 0x6000 1 = 4 then s else s.enterHoldover s.time.forceNs)
  else
    let best := if force = 0 then s.bestCand else if s.candEligible (force - 1) then some (force - 1) else none
    match best with
    | none =>
      if force ≠ 0 then
        (if s.reg 0x6000 1 = 4 || s.reg 0x6000 1 = 0 then s else s.enterHoldover (if sel + 1 = force then s.lossInstant else s.time.forceNs))
      else s.noCandidate
    | some b =>
      let strictly := decide (s.reg (0x6010 + b) 8 < s.reg (0x6010 + sel) 8)
        || (s.reg (0x6010 + b) 8 = s.reg (0x6010 + sel) 8 && decide (s.reg (0x6010 + b) 2 < s.reg (0x6010 + sel) 2))
      if b = sel then s.setReg 0x6000 8 s.qlOut
      else if !selOk || strictly || force ≠ 0 then s.selectCand b
      else s.setReg 0x6000 8 s.qlOut

/-- Refresh the candidates and evaluate. -/
def State.reselect (s : State) : State := s.refreshCands.evaluate

/-- Disqualify a candidate with a cause (R404, R405, R408); a fault record of class REF is written (R508). -/
def State.disqualify (s : State) (i cause : Nat) : State :=
  if bitAt (s.reg (0x6010 + i) 1) 1 then
    let s := ((s.regBit (0x6010 + i) 1 1 false).setReg (0x6010 + i) 0x0A cause).inc32 (0x6010 + i) 0x0D 1
    let s := s.modCand i (fun c => { c with failRun := 0, passRun := 0, everDisqualified := true, wtr := 0, outNs := s.tb0Ns })
    (s.setReg (0x6010 + i) 0x0C 0).faultRecord 9 0 i cause noInterruption s.sc
  else s

/-- A valid quality level message from a candidate (R402): two in a row take effect. -/
def State.qlMessage (s : State) (i q : Nat) : State :=
  let s := s.regBit (0x6010 + i) 1 4 true
  let s := s.modCand i (fun c => { c with qlAt := s.time.tclk, lastQl := some q, qlReceived := if c.lastQl = some q then some q else c.qlReceived })
  s.reselect

/-! ## Meanings: candidates -/

/-- QL_FRAME_RX (R401, R402). -/
def execQlFrameRx (cand word : Nat) (stop : Bool) (s : State) : Result :=
  inst (decide (cand < 2)) <|
  let q := bits word 11 8
  if stop && bits word 15 12 = 0xA && bits word 7 4 = q ^^^ 0xF && bits word 3 0 = 0 then .next (s.qlMessage cand q)
  else .next (s.inc32 (0x6010 + cand) 0x10 1)

/-- No valid QL message of a candidate has arrived within ql_timeout: the level falls back to ql_fixed and QL_VALID clears (R402). -/
def State.qlLost (s : State) (cand : Nat) : State :=
  ((s.regBit (0x6010 + cand) 1 4 false).modCand cand (fun c => { c with lastQl := none, qlReceived := none })).reselect

/-- QL_TIMEOUT (R402); within ql_timeout of a valid message its moment has not come (log 15). -/
def execQlTimeout (cand : Nat) (s : State) : Result :=
  inst (decide (cand < 4)) (.next (if (s.cand cand).qlAt + s.reg 0x6000 0x13 * 500000000 ≤ s.time.tclk then s.qlLost cand else s))

/-- A candidate loses its signal (R404). -/
def State.signalLoss (s : State) (cand : Nat) : State :=
  if bitAt (s.reg (0x6010 + cand) 1) 0 then
    let s := (s.regBit (0x6010 + cand) 1 0 false).inc32 (0x6010 + cand) 0x0E 1
    let s := s.modCand cand (fun c => { c with absent := true, passRun := 0, lossNs := s.tb0Ns })
    (s.disqualify cand 1).reselect
  else s

/-- SIGNAL_LOSS (R404): cause LOS at once. -/
def execSignalLoss (cand : Nat) (s : State) : Result :=
  inst (decide (cand < 5)) (.next (s.signalLoss cand))

/-- The signal status bit of a candidate is set (R404). -/
def State.signalReturn (s : State) (cand : Nat) : State := s.regBit (0x6010 + cand) 1 0 true

/-- SIGNAL_RETURN (R404): edges arrive again at REFA or REFB. -/
def execSignalReturn (cand : Nat) (s : State) : Result :=
  inst (decide (cand < 2)) (.next (s.signalReturn cand))

/-- Insertion into a rising list. -/
def insertInt (x : Int) : List Int → List Int
  | [] => [x]
  | y :: ys => if x ≤ y then x :: y :: ys else y :: insertInt x ys

/-- A list in rising order. -/
def sortInts (xs : List Int) : List Int := xs.foldr insertInt []

/-- Median of a list, doubled, so that the mean of two middle values is exact (R405, R537). -/
def median2 (xs : List Int) : Int :=
  let ys := sortInts xs
  let n := ys.length
  if n % 2 = 1 then 2 * ys.getD (n / 2) 0 else ys.getD (n / 2 - 1) 0 + ys.getD (n / 2) 0

/-- The measured offset of a candidate: REFP reports −r of TB0 (R405). -/
def State.windowY (s : State) (ys : List Int) (i : Nat) : Int := if i = 4 then -(s.sreg 32 0x6040 2) else ys.getD i 0

/-- Why a window fails for candidate `i`, or 0 (R405): 1 LOS, 2 LIMIT, 3 MEDIAN, 4 PULL. -/
def State.windowCause (s : State) (ys : List Int) (i : Nat) : Nat :=
  let others := (List.range 5).filter (fun j => j ≠ i && bitAt (s.reg (0x6010 + j) 1) 1 && s.reg (0x6010 + j) 2 ≠ 0)
  let y := s.windowY ys i
  let limit := s.reg (0x6010 + i) 5 * 10000
  if (s.cand i).absent || !bitAt (s.reg (0x6010 + i) 1) 0 then 1
  else if others.length < 2 && limit < y.natAbs then 2
  else if 2 ≤ others.length && 2 * limit < (2 * y - median2 (others.map (s.windowY ys))).natAbs then 3
  else if s.reg 0x6000 2 = i && s.reg 0x6000 0x10 * 1000000 < (s.sreg 32 0x6000 0x0C).natAbs then 4
  else 0

/-- One candidate at the end of a window, its cause taken from the state before any candidate was judged (R405, R406). -/
def State.judge (s : State) (i cause : Nat) (y : Int) : State :=
  let s := s.setReg (0x6010 + i) 9 (ofSigned 32 y)
  let c := s.cand i
  if cause ≠ 0 then
    let start := s.tb0Ns - 1000000000
    let s := (s.inc32 (0x6010 + i) 0x0B 1).modCand i (fun c =>
      { c with failRun := c.failRun + 1, passRun := 0, lossNs := if c.failRun = 0 then start else c.lossNs })
    if 3 ≤ c.failRun + 1 then s.disqualify i cause else s
  else
    let s := s.modCand i (fun c => { c with failRun := 0, passRun := c.passRun + 1 })
    if bitAt (s.reg (0x6010 + i) 1) 1 then s
    else if 3 ≤ c.passRun + 1 then
      let w := if c.everDisqualified then s.reg 0x6000 4 else 0
      ((s.regBit (0x6010 + i) 1 1 true).modCand i (fun c => { c with wtr := w })).setReg (0x6010 + i) 0x0C w
    else s

/-- A second of wait-to-restore passes for the candidates that were qualified at its start and still are (R406); the last one ends with WTR_EXPIRY. -/
def State.wtrSecond (s s0 : State) : State :=
  s.each ((List.range 5).filter (fun i => bitAt (s0.reg (0x6010 + i) 1) 1 && bitAt (s.reg (0x6010 + i) 1) 1 && decide (1 < (s.cand i).wtr))) (fun i s =>
    let w := (s.cand i).wtr - 1
    (s.modCand i (fun c => { c with wtr := w })).setReg (0x6010 + i) 0x0C w)

/-- MONITOR_WINDOW_END (R405, R407, R408): `ys` are the offsets of REFA to REFD, `control` the control word the loop holds. -/
def execMonitorWindowEnd (ys : List Int) (control : Int) (s : State) : Result :=
  if s.time.running then
    let st := s.reg 0x6000 1
    let s := s.inc64 0x6000 0x12 1
    let s := if 1 ≤ st && st ≤ 3 then s.setReg 0x6000 0x0C (ofSigned 32 control) else s
    let s0 := s
    let judged := (List.range 5).filter (fun i => s0.reg (0x6010 + i) 2 ≠ 0)
    let s := (s.each judged (fun i s => s.judge i (s0.windowCause ys i) (s0.windowY ys i))).wtrSecond s0
    let cs := (List.range 5).map (fun i => { s.cand i with absent := !bitAt (s.reg (0x6010 + i) 1) 0 })
    let s := { s with time := { s.time with cands := cs } }
    let sel := s.reg 0x6000 2
    let s := s.refreshCands
    let s := if st = 1 && sel < 5 && s.time.acqWindow && s.candEligible sel && (s0.windowY ys sel).natAbs ≤ 10000 then s.enterRef 2 sel else s
    let s := s.evaluate
    .next { s with time := { s.time with acqWindow := s.reg 0x6000 1 = 1 } }
  else .next s

/-- WTR_EXPIRY (R406): the last second of a wait-to-restore ends; before it its moment has not come (log 15). -/
def execWtrExpiry (cand : Nat) (s : State) : Result :=
  inst (decide (cand < 5)) <|
  if (s.cand cand).wtr ≠ 1 then .next s
  else .next ((s.modCand cand (fun c => { c with wtr := 0 })).setReg (0x6010 + cand) 0x0C 0).reselect

/-- SWITCH_COMPLETE (R409, R412): LOCKED, and the selector evaluates again. -/
def execSwitchComplete (s : State) : Result :=
  if s.reg 0x6000 1 = 3 then .next ((s.inc32 0x6000 0x0E 1).enterRef 2 (s.reg 0x6000 2)).reselect else .next s

/-- REF_ACQUIRE_TIMEOUT (R408): 10 s in ACQUIRE without lock. -/
def execRefAcquireTimeout (s : State) : Result :=
  if s.reg 0x6000 1 = 1 then .next (s.disqualify (s.reg 0x6000 2) 2).reselect else .next s

/-! ## Meanings: SC and PPS -/

/-- Keep the latest 3,600 seconds (R410). -/
def keepHistory (h : List HistoryEntry) (e : HistoryEntry) : List HistoryEntry := (h ++ [e]).drop (h.length + 1 - 3600)

/-- PPS (R410, R415): the seconds boundary of TB0. -/
def execPps (s : State) : Result :=
  if s.time.running then
    let b := s.tb 0
    let e : HistoryEntry := ⟨b.sec - 1, s.sreg 32 0x6000 0x0C, s.time.secondLocked⟩
    let s := { s with time := { s.time with history := keepHistory s.time.history e, secondLocked := s.reg 0x6000 1 = 2 } }
    let s := (((s.setReg 0x6020 2 s.sc).setReg 0x6020 3 b.sec).setReg 0x6020 4 (s.time.scAcc * 65536 / 500000000)).inc32 0x6020 5 1
    let s := s.setReg 0x6000 7 (s.time.history.filter (fun e => e.valid)).length
    .next (s.fire 0x308 b.sec)
  else .next s

/-- Every receive group is OFF. -/
def State.rxGroupsOff (s : State) : Bool := (List.range 32).all (fun g => s.reg (0x2440 + g) 2 = stOff)
/-- Every transmit group is OFF. -/
def State.txGroupsOff (s : State) : Bool := (List.range 16).all (fun g => s.reg (0x2460 + g) 2 = stOff)
/-- The crib and the image front end are OFF. -/
def State.cribImageOff (s : State) : Bool := s.reg 0x2800 2 = stOff && s.reg 0x4000 2 = stOff

/-- 01h written to 6020h.08 (R414). -/
def cmdScLoad (s : State) : Verdict :=
  accept (s.cribImageOff && s.rxGroupsOff) dNotOff { s with time := { s.time with loadArmed := true } }

/-- SC_LOAD_APPLY (R414): the next SCSYNC pulse. -/
def execScLoadApply (s : State) : Result :=
  if s.time.loadArmed && s.time.running then
    .next { s with time := { s.time with sc := s.reg 0x6020 7, scAcc := 0, loadArmed := false } }
  else .next s

/-- The servo owns TB0's corrections (R417). -/
def State.servoOwns (s : State) (t : Nat) : Bool := t = 0 && s.flag 0x6070 6

/-- An I64 written to 6040h+t.03 (R417). -/
def cmdAdjust (t : Nat) (v : Int) (s : State) : Verdict :=
  if 6 ≤ t then .error dRule
  else if s.servoOwns t then .error dState
  else .ok (s.modTb t (fun b => { b with outstanding := b.outstanding + v * ((2 ^ 32 : Nat) : Int) }))

/-- 01h written to 6040h+t.07 (R417, R418). -/
def cmdTbStep (t : Nat) (s : State) : Verdict :=
  if s.servoOwns t then .error dState
  else let v := s.reg (0x6040 + t) 6
    .ok (s.tbStepTo t (v / 2 ^ 32) (v % 2 ^ 32))

/-- A secure write of 1 to SET on the timebase page (R418, R419). -/
def State.tbPageSet (s : State) (t : Nat) : State :=
  s.modTb t (fun b => { b with sec := b.setSec, ns := b.setNs, frac := b.setFrac, outstanding := 0 })

/-! ## Meanings: TOUT and TIN -/

/-- TOUT ball `k`. -/
def State.tout (s : State) (k : Nat) : Tout := nthD ⟨false, 0⟩ s.time.touts k

/-- Map TOUT ball `k`. -/
def State.modTout (s : State) (k : Nat) (f : Tout → Tout) : State :=
  { s with time := { s.time with touts := modNth f s.time.touts k } }

/-- The active level of TOUT `k` (R420). -/
def State.toutLevel (s : State) (k : Nat) (active : Bool) : Bool := active != s.flag (0x6050 + k) 6

/-- A pulse starts: it ends w / 2 TCLK ticks later (R420). -/
def State.toutStart (s : State) (k : Nat) : State :=
  ((s.modTout k (fun t => { t with active := true, endsAt := s.time.tclk + s.reg (0x6050 + k) 5 / 2 })).inc64 (0x6050 + k) 7 1).emit
    (.tout k (s.toutLevel k true))

/-- TOUT_TIME_REACHED (R420): a PPS or PERIODIC edge. -/
def execToutTimeReached (k : Nat) (s : State) : Result :=
  inst (decide (k < 8)) <|
  if s.time.running && (s.reg (0x6050 + k) 1 = 1 || s.reg (0x6050 + k) 1 = 2) && !(s.tout k).active then .next (s.toutStart k)
  else .next s

/-- TOUT_EVENT (R420, R421): the delivery at tout.pulse<k> is taken; in EVENT mode it starts or extends a pulse. -/
def State.toutEvent (s : State) (k : Nat) : State :=
  match s.held (0x300 + k) with
  | none => s
  | some _ =>
    let s := s.takeInput (0x300 + k)
    if s.reg (0x6050 + k) 1 ≠ 3 then s
    else if (s.tout k).active then
      (s.modTout k (fun t => { t with endsAt := s.time.tclk + s.reg (0x6050 + k) 5 / 2 })).inc32 (0x6050 + k) 8 1
    else s.toutStart k

/-- TOUT_EVENT (R420). -/
def execToutEvent (k : Nat) (s : State) : Result := inst (decide (k < 8)) (.next (s.toutEvent k))

/-- TOUT_PULSE_END (R420): the ball returns to its inactive level. -/
def execToutPulseEnd (k : Nat) (s : State) : Result :=
  inst (decide (k < 8)) <|
  if (s.tout k).active && decide ((s.tout k).endsAt ≤ s.time.tclk) then
    .next ((s.modTout k (fun t => { t with active := false })).emit (.tout k (s.toutLevel k false)))
  else .next s

/-- A capture at TIN `k` (R422): time, SC, direction, count, and TIN_CAPk. -/
def State.capture (s : State) (k dir : Nat) : State :=
  let s := ((s.setReg (0x6060 + k) 4 (s.tb80 (s.reg (0x6060 + k) 2))).setReg (0x6060 + k) 5 s.sc).setReg (0x6060 + k) 6 dir
  (s.inc64 (0x6060 + k) 7 1).fire (0x300 + k) dir

/-- TIN_CAPTURE (R422): an edge whose new level held for `held` ticks. -/
def execTinCapture (k : Nat) (rising : Bool) (held : Nat) (s : State) : Result :=
  inst (decide (k < 8)) <|
  if held < s.reg (0x6060 + k) 3 then .next (s.inc32 (0x6060 + k) 8 1)
  else
    let s := { s with time := { s.time with tin := modNth (fun _ => rising) s.time.tin k } }
    let dir := if rising then 1 else 2
    let sel := s.reg (0x6060 + k) 1
    if sel = dir || sel = 3 then .next (s.capture k dir) else .next s

/-! ## Meanings: PTP -/

/-- One servo update with offset `off` in ns (R425). The sync interval is 2^logSync seconds. -/
def State.servo (s : State) (port : Nat) (off : Int) : State :=
  let thr := s.reg 0x6070 7
  if !s.time.servoLocked || (thr ≠ 0 && (thr : Int) < off.natAbs) then
    let b := s.tb 0
    let now : Int := (b.nanos : Int) - off
    let s := s.modTb 0 (fun b => { b with sec := (now / 1000000000).toNat, ns := (now % 1000000000).toNat, outstanding := 0 })
    (s.inc32 0x6040 9 1 |> fun s => { s with time := { s.time with servoLocked := true } })
  else
    let l := s.sreg 8 (0x6071 + port) 6
    let r := s.sreg 32 0x6040 2
    let d : Int := if 0 ≤ l then rneDiv (1000 * off) (16 * 2 ^ l.toNat) else rneDiv (1000 * off * ((2 ^ (-l).toNat : Nat) : Int)) 16
    let r' := clampInt (-200000000) 200000000 (r - d)
    (s.setReg 0x6040 2 (ofSigned 32 r')).modTb 0 (fun b => { b with outstanding := -off * ((2 ^ 32 : Nat) : Int) })

/-- A Sync, or the Follow_Up of one, sets offset, path delay and REFP's signal, and drives the servo (R404, R424, R425). -/
def State.ptpSync (s : State) (port : Nat) (m : PtpMsg) : State :=
  let rx : Int := (s.tb0Ns : Int) - (s.reg (0x6071 + port) 4 : Int) / 1000
  let off := rx - m.origin - m.correction - m.pathDelay - s.sreg 32 (0x6071 + port) 5 / 1000
  let s := (s.setReg 0x6070 0x0B (ofSigned 64 off)).setReg 0x6070 0x0C (ofSigned 64 m.pathDelay)
  let s := s.signalReturn 4
  if s.flag 0x6070 6 then s.servo port off else s

/-- A message that IEEE 1588 can give: its type, the port state it leads to (01h to 09h), and the width of the grandmaster fields (R430). -/
def ptpMsgOk (m : PtpMsg) : Bool :=
  decide (m.kind < 16) && decide (1 ≤ m.portState) && decide (m.portState ≤ 9) && decide (m.gmClass < 256) && decide (m.gmIdentity < 2 ^ 64)

/-- The state of a port after a message: what the best master clock algorithm gives, but never MASTER with slave_only set (R423, 6070h.0A). -/
def State.ptpState (s : State) (port : Nat) (m : PtpMsg) : Nat :=
  if m.portState = 6 && s.flag 0x6070 0x0A then s.reg (0x6071 + port) 2 else m.portState

/-- The port of the selected grandmaster follows the port states (R404); the servo starts anew when it leaves SLAVE. -/
def State.ptpPort (s : State) (port st : Nat) : State :=
  if st = 9 then { s with time := { s.time with gmPort := some port } }
  else if s.time.gmPort = some port then { s with time := { s.time with gmPort := none, servoLocked := false } }
  else s

/-- The TB0 stamp of a message on its way in, in ns (R424). -/
def State.ptpRxStamp (s : State) (port : Nat) : Nat := s.tb0Ns - s.reg (0x6071 + port) 4 / 1000

/-- PTP_EVENT_RX (R423 to R425): `portState` and the grandmaster fields are what the best master clock algorithm gives after this message (log 21). -/
def execPtpEventRx (port : Nat) (msg : PtpMsg) (s : State) : Result :=
  inst (decide (port < 2) && ptpMsgOk msg) <|
  if s.reg 0x6070 2 = stOn && s.flag (0x6071 + port) 1 then
    let st := s.ptpState port msg
    let s := (s.inc64 (0x6071 + port) 9 1).setReg (0x6071 + port) 2 st
    let s := (s.setReg 0x6070 0x0D msg.gmIdentity).setReg 0x6070 0x0E msg.gmClass
    let s := s.ptpPort port st
    let s := if msg.kind = 2 then { s with time := { s.time with pdelayRx := modNth (fun _ => s.ptpRxStamp port) s.time.pdelayRx port } } else s
    let s := if st = 9 && (msg.kind = 0 || msg.kind = 8) then s.ptpSync port msg else s
    .next s.reselect
  else .next s

/-- What is inserted on the fly into a departing frame whose TB0 stamp is `t` ns (R424): the originTimestamp of a Sync, the correctionField of a
Pdelay_Resp (the time since its request came, in units of 2^-16 ns), and nothing into another message. -/
def State.ptpInsert (s : State) (port kind t : Nat) : Bytes :=
  if kind = 0 then beBytes 6 (t / 1000000000) ++ beBytes 4 (t % 1000000000)
  else if kind = 3 then beBytes 8 (ofSigned 64 (((t : Int) - nthD 0 s.time.pdelayRx port) * 65536))
  else []

/-- PTP_MESSAGE_TX (R424): the departing frame is stamped in TB0 at its message timestamp point. -/
def execPtpMessageTx (port kind : Nat) (s : State) : Result :=
  inst (decide (port < 2) && decide (kind < 16)) <|
  if s.reg 0x6070 2 = stOn && s.flag (0x6071 + port) 1 then
    let t := s.tb0Ns + s.reg (0x6071 + port) 3 / 1000
    .next ((s.inc64 (0x6071 + port) 0x0A 1).emit (.ptp port kind (s.ptpInsert port kind t)))
  else .next s

/-! ## Write rules of chapter 13 -/

/-- The receive lane a REFC or REFD entry names satisfies R400, or is FFh. -/
def State.refLaneOk (s : State) (v : Nat) : Bool :=
  v = 0xFF || (v % 4 = 0 && decide (v / 4 < s.board.rxQuads) && s.flag (0x2410 + v / 4) 3)

/-- The refusal a write to an entry of chapter 13 meets, or 0. -/
def timingCheck (s : State) (idx sub v : Nat) : Nat :=
  if idx = 0x6000 && sub = 3 then (if s.cribImageOff && s.rxGroupsOff && s.txGroupsOff then 0 else dNotOff)
  else if 0x6010 ≤ idx && idx ≤ 0x6014 && (sub = 3 || sub = 4) then
    if s.reg 0x6000 2 = idx - 0x6010 then dState else if sub = 4 && !s.refLaneOk v then dRule else 0
  else if idx = 0x6040 && sub = 2 then (if s.flag 0x6070 6 then dState else 0)
  else if 0x6050 ≤ idx && idx ≤ 0x6057 && sub = 4 then (if s.reg idx 5 ≥ v then dRule else 0)
  else if 0x6050 ≤ idx && idx ≤ 0x6057 && sub = 5 then (if v ≥ s.reg idx 4 then dRule else 0)
  else 0

/-- A written entry of a candidate takes effect: a lane newly named gives or takes the signal (R404), and a changed level is evaluated (R407). -/
def State.candWritten (s : State) (i sub : Nat) : State :=
  let s := if sub = 4 && (i = 2 || i = 3) then
      (let v := s.reg (0x6010 + i) 4
       if v < 128 && s.reg (0x2500 + v) 1 = 3 then s.signalReturn i else s.signalLoss i) else s
  let t := s.refreshCands
  if (List.range 5).any (fun j => t.reg (0x6010 + j) 8 ≠ s.reg (0x6010 + j) 8) then t.evaluate else t

/-- What a taken write to an entry of chapter 13 sets in motion. -/
def timingAfter (s : State) (idx sub : Nat) : State :=
  if idx = 0x6000 && sub = 0x11 then
    (let s := { s with time := { s.time with forceNs := s.tb0Ns } }
     if s.reg 0x6000 1 = 3 then s else s.reselect)
  else if idx = 0x6000 && (sub = 9 || sub = 0x0A) then s.setReg 0x6000 8 s.qlOut
  else if 0x6010 ≤ idx && idx ≤ 0x6014 then s.candWritten (idx - 0x6010) sub
  else if 0x6050 ≤ idx && idx ≤ 0x6057 && sub = 6 then s.emit (.tout (idx - 0x6050) (s.toutLevel (idx - 0x6050) (s.tout (idx - 0x6050)).active))
  else if 0x6030 ≤ idx && idx ≤ 0x6037 then { s with time := { s.time with clkWait := modNth (fun _ => true) s.time.clkWait (idx - 0x6030) } }
  else s

end Sys2Proof.Machine
end

