-- ==== Sys2Proof/Machine/Dowel.lean ====
section
/-! DEFINITION. Dowel event routing and event counters (chapter 16). -/

namespace Sys2Proof.Machine

/-! ## Sources and inputs (R485, R486, R500) -/

/-- A Dowel source of R485 exists in this part. -/
def sourceExists (b : Board) (id : Nat) : Bool :=
  if id = 0 then true
  else if 0x10 ≤ id && id ≤ 0x13 then true
  else if 0x20 ≤ id && id < 0x40 then decide (id % 8 < 6) && decide ((id - 0x20) / 8 < b.bays)
  else if 0x40 ≤ id && id < 0x80 then true
  else if 0x80 ≤ id && id ≤ 0x87 then b.inspect
  else if 0x100 ≤ id && id < 0x180 then decide (id % 8 < 7) && decide ((id - 0x100) / 8 < b.cores)
  else if 0x200 ≤ id && id < 0x280 then true
  else if 0x300 ≤ id && id < 0x310 then true
  else if 0x310 ≤ id && id ≤ 0x328 then b.inspect
  else if 0x340 ≤ id && id ≤ 0x342 then true
  else if 0x380 ≤ id && id < 0x3A0 then true
  else decide (0x400 ≤ id) && decide (id < 0x420)

/-- A task input of R486 exists in this part. -/
def inputExists (b : Board) (id : Nat) : Bool :=
  if 0x10 ≤ id && id < 0x18 then true
  else if 0x20 ≤ id && id < 0x24 then decide (id - 0x20 < b.bays)
  else if 0x100 ≤ id && id < 0x180 then decide ((id - 0x100) / 8 < b.cores)
  else if 0x200 ≤ id && id < 0x280 then true
  else if 0x300 ≤ id && id < 0x308 then true
  else if id = 0x310 || id = 0x311 then b.inspect
  else if 0x381 ≤ id && id ≤ 0x388 then true
  else if 0x390 ≤ id && id < 0x394 then true
  else (decide (0x400 ≤ id) && decide (id < 0x420)) || (decide (0x420 ≤ id) && decide (id < 0x428))

/-- The unit of a source is secure: a core or a DMA channel whose secure entry is set (R493). -/
def State.sourceSecure (s : State) (id : Nat) : Bool :=
  (decide (0x100 ≤ id) && decide (id < 0x180) && s.flag (0x5000 + (id - 0x100) / 8) 5)
  || (decide (0x200 ≤ id) && decide (id < 0x280) && s.flag (0x5D40 + (id - 0x200) / 2) 5)

/-- A task input is secure at present (R486). -/
def State.inputSecure (s : State) (id : Nat) : Bool := s.sourceSecure id

/-- Kinds of counter sources (R500). -/
inductive SourceKind where
  | event | level | value | none_
  deriving DecidableEq, Repr

/-- The kind of a counter source that exists in this part, or `none_` (R500). -/
def counterKind (b : Board) (id : Nat) : SourceKind :=
  if id < 0x500 then (if sourceExists b id then .event else .none_)
  else if 0x800 ≤ id && id < 0x910 then (if (id - 0x800) / 68 < b.bays then .level else .none_)
  else if id = 0xA00 || id = 0xA01 then .event
  else if 0xB00 ≤ id && id < 0xB88 then
    (let a := (id - 0xB00) / 4
     if 12 ≤ a && a < 28 && b.cores ≤ a - 12 then .none_ else .level)
  else if 0xC00 ≤ id && id < 0xC60 then (if (id - 0xC00) / 4 < b.channels then .level else .none_)
  else if 0xD00 ≤ id && id < 0xD80 then (if id - 0xD00 < 4 * b.rxQuads then .event else .none_)
  else if 0xD80 ≤ id && id < 0xDC0 then (if id - 0xD80 < 4 * b.txQuads then .event else .none_)
  else if 0xE00 ≤ id && id < 0xE04 then .event
  else if 0xE04 ≤ id && id < 0xE08 then .value
  else if 0xE08 ≤ id && id < 0xE10 then (if id % 4 < b.bays then .level else .none_)
  else .none_

/-- A counter mode fits a kind (R499). -/
def modeFits (mode : Nat) (k : SourceKind) : Bool :=
  match mode, k with
  | 0, .event => true | 0, .level => true
  | 1, .level => true
  | 2, .event => true | 2, .value => true
  | _, _ => false

/-- The refusal of a counter enable, or 0 (R499, R500). -/
def counterEnableCheck (s : State) (n : Nat) : Nat :=
  let k := counterKind s.board (s.reg (0x6A40 + n) 3)
  if k = .none_ then dRange else if modeFits (s.reg (0x6A40 + n) 4) k then 0 else dRule

/-! ## Gates (R488) -/

/-- The gate codes that are not reserved. -/
def gateDefined (g : Nat) : Bool :=
  decide (g ≤ 0x20) || (decide (0x40 ≤ g) && decide (g < 0x50)) || (decide (0x50 ≤ g) && decide (g < 0x58)) || g = 0x60 || g = 0x61

/-- The level of a gate. -/
def State.gateLevel (s : State) (g : Nat) : Bool :=
  if g = 0 then true
  else if g ≤ 0x20 then bitAt (s.reg 0x6800 1) (g - 1)
  else if 0x40 ≤ g && g < 0x48 then nthD false s.time.tin (g - 0x40)
  else if 0x48 ≤ g && g < 0x50 then (s.tout (g - 0x48)).active
  else if 0x50 ≤ g && g < 0x54 then s.board.inspect && bits (s.reg (0x6400 + (g - 0x50)) 0x0B) 3 2 = 1
  else if 0x54 ≤ g && g < 0x58 then s.board.inspect && bitAt (s.reg (0x6400 + (g - 0x54)) 0x0B) 0
  else if g = 0x60 then s.reg 0x6000 1 = 2
  else if g = 0x61 then s.reg 0x2800 2 = stOn
  else false

/-! ## Taking and delivering events (R487 to R491) -/

/-- Insertion of an event by source id, after equals. -/
def insertEvent (e : Event) : List Event → List Event
  | [] => [e]
  | f :: fs => if e.source < f.source then e :: f :: fs else f :: insertEvent e fs

/-- Events in ascending source id (R487). -/
def sortEvents (es : List Event) : List Event := es.foldl (fun a e => insertEvent e a) []

/-- A relay's event keeps its generation and visited set; another takes the next generation and an empty set (R487). -/
def State.stampEvent (s : State) (e : Event) : Event × State :=
  if 0x400 ≤ e.source then (e, s)
  else ({ e with gen := s.reg 0x6800 3, visited := 0 }, s.setReg 0x6800 3 ((s.reg 0x6800 3 + 1) % 2 ^ 16))

/-- One channel takes one event: the secure test, the loop test, the gate (R488, R491, R493). The delivery, if any, is returned. -/
def State.channelTake (s : State) (c : Nat) (e : Event) : Option Delivery × State :=
  let idx := 0x6900 + c
  let s := s.inc64 0x6800 4 1
  if !s.flag idx 4 && (s.sourceSecure e.source || s.inputSecure (s.reg idx 6)) then
    (none, (s.inc32 idx 0x0D 1).inc32 0x6800 7 1)
  else if bitAt e.visited c then (none, (s.inc32 idx 0x0C 1).inc32 0x6800 5 1)
  else if (s.gateLevel (s.reg idx 7) != s.flag idx 8) then
    let e := { e with visited := setBit e.visited c }
    let s := (((s.inc64 idx 0x0A 1).setReg idx 0x0E e.sc).setReg idx 0x0F e.payload).setReg idx 0x10 e.gen
    (some ⟨c, e, 0⟩, s)
  else (none, s.inc32 idx 0x0B 1)

/-- Channel `c` takes an event of its source (R494, R497): it reached ON before the event's tick, and it is ON still or was disabled in the tick at
which the event reached tick 1 or later. -/
def State.channelTakes (s : State) (c : Nat) (e : Event) : Bool :=
  match lookup s.dowel.spans c with
  | some x => decide (x.onAt < e.tick) && (s.reg (0x6900 + c) 2 = stOn || decide (e.tick < x.offAt))
  | none => s.reg (0x6900 + c) 2 = stOn

/-- Every channel that names the source and takes its events takes this one. -/
def State.routeEvent (s : State) (e : Event) : List Delivery × State :=
  let (e, s) := s.stampEvent e
  ((s.idxWith 0x6900 0x69FF 5 e.source).filter (fun i => s.channelTakes (i - 0x6900) e)).foldl (fun (ds, s) i =>
    let (d, s) := s.channelTake (i - 0x6900) e
    (match d with | some d => ds ++ [d] | none => ds, s)) ([], s)

/-- The class of a channel as R19 codes it. -/
def State.channelClass (s : State) (c : Nat) : Nat := s.reg (0x6900 + c) 9

/-- R21 among ports of one class: the first at or after the pointer, wrapping at 256. -/
def rotate256 (ptr : Nat) (ports : List Nat) : Nat :=
  match ports.find? (fun p => decide (ptr ≤ p)) with | some p => p | none => ports.headD 0

/-- Deliveries that reach one input in one tick merge into the one R21 grants (R489). -/
def State.mergeDeliveries (s : State) (id : Nat) (ds : List Delivery) : Option Delivery × State :=
  match ds with
  | [] => (none, s)
  | d0 :: _ =>
    let cls := ds.foldl (fun a d => max a (s.channelClass d.channel)) (s.channelClass d0.channel)
    let x := s.input id
    let ports := (List.range 256).filter (fun c => ds.any (fun d => d.channel = c && s.channelClass c = cls))
    let w := rotate256 (nthD 0 x.ptr cls) ports
    let win := (ds.find? (fun d => d.channel = w)).getD d0
    let vis := ds.foldl (fun a d => a ||| d.event.visited) 0
    let x := { x with merged := satAdd32 x.merged (ds.length - 1), ptr := modNth (fun _ => (w + 1) % 256) x.ptr cls }
    (some { win with event := { win.event with visited := vis } }, s.setInput id x)

/-- A delivery reaches its input: to the consumer, pending, or an overrun (R490, R492). -/
def State.deliver (s : State) (id : Nat) (d : Delivery) : State :=
  let x := s.input id
  let x := { x with delivered := wrapAdd64 x.delivered 1 }
  if 0x381 ≤ id && id ≤ 0x388 && !s.sessionOpen (id - 0x380) then s.setInput id { x with overruns := satAdd32 x.overruns 1 }
  else match x.held, x.queued with
    | none, _ =>
      let s := s.setInput id { x with held := some { d with since := s.time.tclk } }
      if 0x100 ≤ id && id < 0x180 then s.wakeCore ((id - 0x100) / 8) else s
    | some _, none => s.setInput id { x with queued := some d }
    | some _, some _ => s.setInput id { x with overruns := satAdd32 x.overruns 1 }

/-- The inputs that deliveries name, each once, in order of first naming. -/
def State.inputsOf (s : State) (ds : List Delivery) : List Nat :=
  ds.foldl (fun a d => let i := s.reg (0x6900 + d.channel) 6; if a.contains i then a else a ++ [i]) []

/-- The deliveries of one tick reach their inputs, merged where several name one. -/
def State.deliverAll (s : State) (ds : List Delivery) : State :=
  (s.inputsOf ds).foldl (fun s id =>
    match s.mergeDeliveries id (ds.filter (fun d => s.reg (0x6900 + d.channel) 6 = id)) with
    | (some d, s) => s.deliver id d
    | (none, s) => s) s

/-- The earliest tick, not later than now, of the events that have not been taken. -/
def State.eventTick (s : State) : Option Nat := ((s.dowel.fired.map (fun e => e.tick)).filter (fun t => decide (t ≤ s.time.tclk))).min?

/-- The events of the earliest tick are taken, merged and delivered. -/
def State.takeEvents (s : State) : State :=
  match s.eventTick with
  | none => s
  | some t =>
    let now := s.dowel.fired.filter (fun e => e.tick = t)
    let s := { s with dowel := { s.dowel with fired := s.dowel.fired.filter (fun e => e.tick ≠ t) } }
    let r := (sortEvents now).foldl (fun (a : List Delivery × State) e => let n := a.2.routeEvent e; (a.1 ++ n.1, n.2)) ([], s)
    r.2.deliverAll r.1

/-- EVENT_TAKE (R487): the events that leave their synchronisers in one tick, through to their task inputs. -/
def execEventTake (s : State) : Result := .next (if s.time.running then s.takeEvents else s)

/-! ## Relays, SOFT, ALERT -/

/-- An event joins those that have not been taken. -/
def State.pushEvent (s : State) (e : Event) : State := { s with dowel := { s.dowel with fired := s.dowel.fired ++ [e] } }

/-- A relay emits what it holds, with its generation and visited set, 1 + d TCLK after the delivery (R495); before that its moment has not come
(log 15). -/
def State.relayEmit (s : State) (r : Nat) : State :=
  match (s.input (0x400 + r)).held with
  | none => s
  | some d =>
    if s.time.tclk < d.since + 1 + s.reg (0x6810 + r) 1 then s
    else
      let s := (s.takeInput (0x400 + r)).inc64 (0x6810 + r) 2 1
      (s.pushEvent { d.event with source := 0x400 + r, tick := s.time.tclk }).countE (0x400 + r) d.event.payload

/-- RELAY_EMIT (R495). -/
def execRelayEmit (r : Nat) (s : State) : Result := inst (decide (r < 32)) (.next (s.relayEmit r))

/-- SOFT_n fires at the next tick; two writes in one tick make one event (R495, R497). -/
def State.soft (s : State) (n : Nat) : State :=
  if s.dowel.fired.any (fun e => e.source = 0x380 + n && e.tick = s.time.tclk + 1) then s
  else (s.pushEvent ⟨0x380 + n, 0, s.sc, 0, 0, s.time.tclk + 1⟩).countE (0x380 + n) 0

/-- s written to 6800h.02 (R504). -/
def cmdSoft (n : Nat) (s : State) : Verdict := accept (decide (n < 32)) dRange (s.soft n)

/-- Ball ALERT`k`_N after a change of what holds it low: 6830h+k.03 reads whether anything does. -/
def State.setAlert (s : State) (k : Nat) (b : AlertBall) : State :=
  ({ s with dowel := { s.dowel with alerts := modNth (fun _ => b) s.dowel.alerts k } }).setReg (0x6830 + k) 3 (ofBool (b.latched || b.pulse.isSome))

/-- What holds ball ALERT`k`_N low. -/
def State.alertBall (s : State) (k : Nat) : AlertBall := nthD ⟨false, none⟩ s.dowel.alerts k

/-- ALERT_DELIVERY (R496): a pulse lasts for the width from the next tick, and a later delivery moves its end. -/
def State.alertDelivery (s : State) (k : Nat) : State :=
  match s.held (0x390 + k) with
  | none => s
  | some _ =>
    let s := (s.takeInput (0x390 + k)).inc32 (0x6830 + k) 5 1
    match s.reg (0x6830 + k) 1 with
    | 1 => s.setAlert k { s.alertBall k with pulse := some (s.time.tclk + 1 + s.reg (0x6830 + k) 2) }
    | 2 => s.setAlert k { s.alertBall k with latched := true }
    | _ => s

/-- ALERT_DELIVERY (R496). -/
def execAlertDelivery (k : Nat) (s : State) : Result := inst (decide (k < 4)) (.next (s.alertDelivery k))

/-- ALERT_PULSE_END (R496): the width has elapsed; before that its moment has not come (log 15). -/
def State.alertPulseEnd (s : State) (k : Nat) : State :=
  match (s.alertBall k).pulse with
  | some t => if t ≤ s.time.tclk then s.setAlert k { s.alertBall k with pulse := none } else s
  | none => s

/-- ALERT_PULSE_END (R496). -/
def execAlertPulseEnd (k : Nat) (s : State) : Result := inst (decide (k < 4)) (.next (s.alertPulseEnd k))

/-- 01h written to 6830h+k.04: a latched ball is released, a pulse goes on (R496). -/
def cmdRelease (k : Nat) (s : State) : Verdict :=
  .ok (if (s.alertBall k).latched then s.setAlert k { s.alertBall k with latched := false } else s)

/-! ## Counters and snapshots (R499 to R503) -/

/-- The value of counter `n`. -/
def State.counter (s : State) (n : Nat) : Nat := (nthD ⟨0, false⟩ s.dowel.counters n).value

/-- A counter's value becomes 0. -/
def State.counterZero (s : State) (n : Nat) : State :=
  { s with dowel := { s.dowel with counters := modNth (fun c => { c with value := 0 }) s.dowel.counters n } }

/-- One ON counter of a group at its snapshot. -/
def State.snapCounter (s : State) (g n : Nat) : State :=
  let s := s.setReg (0x6A40 + n) 7 (s.counter n)
  if s.flag (0x6A10 + g) 4 then s.counterZero n else s

/-- Group `g` takes a snapshot, once per tick (R502). -/
def State.snapshot (s : State) (g : Nat) : State :=
  if nthD none s.dowel.snapTick g = some s.time.tclk then s else
  let s := { s with dowel := { s.dowel with snapTick := modNth (fun _ => some s.time.tclk) s.dowel.snapTick g } }
  let s := s.each ((s.idxWith 0x6A40 0x6A7F 2 stOn).filter (fun i => s.reg i 5 = g)) (fun i s => s.snapCounter g (i - 0x6A40))
  ((s.inc64 (0x6A10 + g) 5 1).setReg (0x6A10 + g) 6 (s.tb80 0)).setReg (0x6A10 + g) 7 s.sc

/-- A time in ns as a TIME80. -/
def time80OfNs (ns : Nat) : Nat := time80 (ns / 1000000000) (ns % 1000000000)

/-- A TIME80 in ns. -/
def nsOfTime80 (v : Nat) : Nat := v / 2 ^ 32 * 1000000000 + v % 2 ^ 32

/-- The next snapshot time: the least time + n × period later than now (R502). -/
def nextSnapTime (t period now : Nat) : Nat := if now < t then t else t + ((now - t) / period + 1) * period

/-- The single snapshot time of group `g` has been served, or waits again. -/
def State.setSnapDone (s : State) (g : Nat) (b : Bool) : State := { s with dowel := { s.dowel with snapDone := modNth (fun _ => b) s.dowel.snapDone g } }

/-- Group `g` waits for its snapshot time and TB0 has reached it (R502). -/
def State.snapTimeReached (s : State) (g : Nat) : Bool :=
  (s.reg (0x6A10 + g) 1 = 1 || s.reg (0x6A10 + g) 1 = 3) && !nthD false s.dowel.snapDone g && decide (nsOfTime80 (s.reg (0x6A10 + g) 2) ≤ s.tb0Ns)

/-- The snapshot of a reached time: with a period, the next time follows; without one, the group waits for no further time (R502). -/
def State.snapAtTime (s : State) (g : Nat) : State :=
  let p := s.reg (0x6A10 + g) 3
  let s := s.snapshot g
  if p = 0 then s.setSnapDone g true
  else s.setReg (0x6A10 + g) 2 (time80OfNs (nextSnapTime (nsOfTime80 (s.reg (0x6A10 + g) 2)) p s.tb0Ns))

/-- SNAPSHOT_TIME (R502); before TB0 reaches the time its moment has not come (log 15). -/
def execSnapshotTime (g : Nat) (s : State) : Result := inst (decide (g < 8)) (.next (if s.snapTimeReached g then s.snapAtTime g else s))

/-- A delivery at ctr.snap<g> is taken; the group snapshots in EVENT and BOTH (R502). -/
def State.snapEvent (s : State) (g : Nat) : State :=
  match s.held (0x420 + g) with
  | none => s
  | some _ =>
    let s := s.takeInput (0x420 + g)
    if s.reg (0x6A10 + g) 1 = 2 || s.reg (0x6A10 + g) 1 = 3 then s.snapshot g else s

/-- SNAPSHOT_EVENT (R502). -/
def execSnapshotEvent (g : Nat) (s : State) : Result := inst (decide (g < 8)) (.next (s.snapEvent g))

/-- 01h written to 6A10h+g.08 (R502). -/
def cmdSnapNow (g : Nat) (s : State) : Verdict := .ok (s.snapshot g)

/-- A counter is cleared, from the dictionary or the page (R501, R503). -/
def cmdCounterClear (n : Nat) (s : State) : Verdict := .ok (s.counterZero n)

/-- COUNTER_WRAP (R501): an increment at 2^48 − 1 wraps to 0 and sets OVF; MAXIMUM never wraps. -/
def execCounterWrap (n : Nat) (s : State) : Result :=
  inst (decide (n < 64)) <|
  if s.reg (0x6A40 + n) 2 = stOn && s.reg (0x6A40 + n) 4 ≠ 2 && s.counter n = 2 ^ 48 - 1 then .next (s.counterAdd n 1) else .next s

/-! ## Ownership and write rules (R492, R493) -/

/-- The role of a session: 0 Observer, 1 Operator, 2 Integrator, 3 Service (R460). -/
def State.role (s : State) (sess : Nat) : Nat := s.reg (0x1030 + sess - 1) 2

/-- A session may write a channel's entries (R492). -/
def State.ownerAllows (s : State) (c sess : Nat) : Bool :=
  let o := s.reg (0x6900 + c) 3
  let r := s.role sess
  if o = 0 then decide (1 ≤ r)
  else if 0x10 ≤ o && o < 0x20 then r = 2
  else o = 0x20 + sess || r = 2

/-- An owner code is not reserved and names a present core or an open session; 0 if so, a refusal detail otherwise (R492). -/
def State.ownerCheck (s : State) (v : Nat) : Nat :=
  if v = 0 then 0
  else if 0x10 ≤ v && v < 0x20 then (if v - 0x10 < s.board.cores then 0 else dRule)
  else if 0x21 ≤ v && v ≤ 0x28 then (if s.sessionOpen (v - 0x20) then 0 else dRule)
  else dRange

/-- A channel with these fields keeps R493. -/
def State.secureOk (s : State) (secure : Bool) (src inp : Nat) : Bool := secure || (!s.sourceSecure src && !s.inputSecure inp)

/-- The refusal a write to an entry of chapter 16 meets, or 0. -/
def dowelCheck (s : State) (sess idx sub v : Nat) : Nat :=
  if 0x6900 ≤ idx && idx ≤ 0x69FF then
    let c := idx - 0x6900
    if !s.ownerAllows c sess then dRule
    else if sub = 3 then s.ownerCheck v
    else if sub = 4 then (if s.secureOk (v = 1) (s.reg idx 5) (s.reg idx 6) then 0 else dRule)
    else if sub = 5 then (if !sourceExists s.board v then dRange else if s.secureOk (s.flag idx 4) v (s.reg idx 6) then 0 else dRule)
    else if sub = 6 then (if !inputExists s.board v then dRange else if s.secureOk (s.flag idx 4) (s.reg idx 5) v then 0 else dRule)
    else if sub = 7 then (if gateDefined v then 0 else dRange)
    else 0
  else if idx = 0x6802 && sub = 1 then (if inputExists s.board v then 0 else dRange)
  else 0

/-- A channel is enabled (R494): from OFF, or latched during DISABLING. -/
def State.channelEnable (s : State) (c : Nat) : State :=
  match s.reg (0x6900 + c) 2 with
  | 0 => (s.setReg (0x6900 + c) 1 1).setReg (0x6900 + c) 2 stEnabling
  | 3 => (s.setReg (0x6900 + c) 1 1).setReg (0x6900 + c) 2 stPending
  | _ => s

/-- A channel reaches ON at this tick (R494). -/
def State.channelReaches (s : State) (c : Nat) : State :=
  { s with dowel := { s.dowel with spans := insertKey s.dowel.spans c ⟨s.time.tclk, s.time.tclk⟩ } }

/-- A channel that was ON is disabled at this tick. -/
def State.channelLeaves (s : State) (c : Nat) : State :=
  match lookup s.dowel.spans c with
  | some x => { s with dowel := { s.dowel with spans := insertKey s.dowel.spans c { x with offAt := s.time.tclk } } }
  | none => s

/-- A channel is disabled (R494). -/
def State.channelDisable (s : State) (c : Nat) : State :=
  let s := if s.flag (0x6900 + c) 1 then s.setReg (0x6900 + c) 1 0 else s
  match s.reg (0x6900 + c) 2 with
  | 1 => s.setReg (0x6900 + c) 2 stDisabling
  | 2 => (s.setReg (0x6900 + c) 2 stDisabling).channelLeaves c
  | 4 => s.setReg (0x6900 + c) 2 stDisabling
  | _ => s

/-- What a write to an entry of chapter 16 does beside storing it: a new time, period or trigger makes a group wait for its time again. -/
def dowelAfter (s : State) (idx sub : Nat) : State :=
  if 0x6A10 ≤ idx && idx < 0x6A18 && 1 ≤ sub && sub ≤ 3 then s.setSnapDone (idx - 0x6A10) false else s

/-- A counter reaches ON with value 0 (R501). -/
def State.counterOn (s : State) (n : Nat) : State := s.counterZero n

/-- A secure write to ATTR of channel `c` (R498): discarded and counted where the rule says so. -/
def State.attrWrite (s : State) (c value : Nat) : State :=
  let owner := bits value 63 56
  let sec := bitAt value 55
  if s.reg (0x6900 + c) 2 = stOff && s.ownerCheck owner = 0 && s.secureOk sec (s.reg (0x6900 + c) 5) (s.reg (0x6900 + c) 6) then
    (s.setReg (0x6900 + c) 3 owner).setReg (0x6900 + c) 4 (ofBool sec)
  else s.inc32 0x6800 6 1

end Sys2Proof.Machine
end

