-- ==== Sys2Proof/Machine/Float.lean ====
section
/-! DEFINITION. IEEE 754 binary floating point on bit patterns, exact arithmetic and one rounding to nearest even:
binary64 for the observer (R437), binary32 for F32 entries (R453), binary16 for compressed dumps (R192). -/

namespace Sys2Proof.Machine

/-- A format: significand bits with the hidden one, and exponent bits. -/
structure FloatFmt where
  p : Nat
  e : Nat
  deriving DecidableEq, Repr

/-- binary64. -/
def fmt64 : FloatFmt := ⟨53, 11⟩
/-- binary32. -/
def fmt32 : FloatFmt := ⟨24, 8⟩
/-- binary16. -/
def fmt16 : FloatFmt := ⟨11, 5⟩

/-- A value: not a number, an infinity, or the exact number ± mag × 2^exp. -/
inductive FloatVal where
  | nan
  | inf (neg : Bool)
  | fin (neg : Bool) (mag : Nat) (exp : Int)
  deriving DecidableEq, Repr

/-- Exponent bias of a format. -/
def FloatFmt.bias (f : FloatFmt) : Int := ((2 ^ (f.e - 1) : Nat) : Int) - 1

/-- The value of a bit pattern. -/
def FloatFmt.decode (f : FloatFmt) (v : Nat) : FloatVal :=
  let neg := bitAt v (f.p - 1 + f.e)
  let ex := bits v (f.p - 2 + f.e) (f.p - 1)
  let m := v % 2 ^ (f.p - 1)
  if ex = 2 ^ f.e - 1 then (if m = 0 then .inf neg else .nan)
  else if ex = 0 then .fin neg m (1 - f.bias - ((f.p - 1 : Nat) : Int))
  else .fin neg (m + 2 ^ (f.p - 1)) ((ex : Int) - f.bias - ((f.p - 1 : Nat) : Int))

/-- The quiet NaN this model answers (log 22). -/
def FloatFmt.qnan (f : FloatFmt) : Nat := (2 ^ f.e - 1) * 2 ^ (f.p - 1) + 2 ^ (f.p - 2)

/-- The pattern of an infinity. -/
def FloatFmt.infBits (f : FloatFmt) (neg : Bool) : Nat := ofBool neg * 2 ^ (f.p - 1 + f.e) + (2 ^ f.e - 1) * 2 ^ (f.p - 1)

/-- Round an exact number to a format: nearest, ties to even, overflow to infinity, subnormals kept. -/
def FloatFmt.round (f : FloatFmt) (neg : Bool) (mag : Nat) (exp : Int) : Nat :=
  if mag = 0 then ofBool neg * 2 ^ (f.p - 1 + f.e) else
  let emin : Int := 1 - f.bias - ((f.p - 1 : Nat) : Int)
  let len : Int := (Nat.log2 mag + 1 : Nat)
  let q0 := exp + len - (f.p : Int)
  let q := if q0 < emin then emin else q0
  let m : Nat := if exp < q then (rneShift (mag : Int) (q - exp).toNat).toNat else mag * 2 ^ (exp - q).toNat
  let (m, q) := if m = 2 ^ f.p then (2 ^ (f.p - 1), q + 1) else (m, q)
  let s := ofBool neg * 2 ^ (f.p - 1 + f.e)
  if m < 2 ^ (f.p - 1) then s + m
  else
    let ex := q + f.bias + ((f.p - 1 : Nat) : Int)
    if ex ≥ ((2 ^ f.e - 1 : Nat) : Int) then f.infBits neg else s + ex.toNat * 2 ^ (f.p - 1) + (m - 2 ^ (f.p - 1))

/-- A value in a format. -/
def FloatFmt.encode (f : FloatFmt) : FloatVal → Nat
  | .nan => f.qnan
  | .inf n => f.infBits n
  | .fin n m e => f.round n m e

/-- Exact sum. -/
def FloatVal.add : FloatVal → FloatVal → FloatVal
  | .nan, _ => .nan
  | _, .nan => .nan
  | .inf a, .inf b => if a = b then .inf a else .nan
  | .inf a, _ => .inf a
  | _, .inf b => .inf b
  | .fin a m e, .fin b n g =>
    let x := if e < g then e else g
    let i : Int := (if a then -1 else 1) * ((m * 2 ^ (e - x).toNat : Nat) : Int)
    let j : Int := (if b then -1 else 1) * ((n * 2 ^ (g - x).toNat : Nat) : Int)
    let t := i + j
    if t = 0 then .fin (a && b) 0 x else .fin (decide (t < 0)) t.natAbs x

/-- Negation. -/
def FloatVal.neg : FloatVal → FloatVal
  | .nan => .nan
  | .inf a => .inf (!a)
  | .fin a m e => .fin (!a) m e

/-- Exact product. -/
def FloatVal.mul : FloatVal → FloatVal → FloatVal
  | .nan, _ => .nan
  | _, .nan => .nan
  | .inf a, .inf b => .inf (a != b)
  | .inf a, .fin b n _ => if n = 0 then .nan else .inf (a != b)
  | .fin a m _, .inf b => if m = 0 then .nan else .inf (a != b)
  | .fin a m e, .fin b n g => .fin (a != b) (m * n) (e + g)

/-- Sum in a format. -/
def FloatFmt.add (f : FloatFmt) (x y : Nat) : Nat := f.encode ((f.decode x).add (f.decode y))

/-- Difference in a format. -/
def FloatFmt.sub (f : FloatFmt) (x y : Nat) : Nat := f.encode ((f.decode x).add (f.decode y).neg)

/-- Product in a format. -/
def FloatFmt.mul (f : FloatFmt) (x y : Nat) : Nat := f.encode ((f.decode x).mul (f.decode y))

/-- An integer in a format. -/
def FloatFmt.ofInt (f : FloatFmt) (i : Int) : Nat := f.round (decide (i < 0)) i.natAbs 0

/-- A pattern of one format in another. -/
def FloatFmt.convert (src dst : FloatFmt) (x : Nat) : Nat := dst.encode (src.decode x)

/-- A F32 that R437 refuses as a gain: negative, infinite or NaN. Negative zero counts as negative (log 22). -/
def gainRefused (v : Nat) : Bool :=
  match fmt32.decode v with
  | .nan => true
  | .inf _ => true
  | .fin n _ _ => n

end Sys2Proof.Machine
end

