-- ==== Sys2Proof/Machine/Position.lean ====
section
/-! DEFINITION. Position interface: axes, observer, direction, compare lists, line generator and LTRIG balls (chapter 14). -/

namespace Sys2Proof.Machine

/-- Axis `a`. -/
def State.axis (s : State) (a : Nat) : Axis := nthD Axis.reset s.pos.axes a

/-- Map axis `a`. -/
def State.modAxis (s : State) (a : Nat) (f : Axis → Axis) : State := { s with pos := { s.pos with axes := modNth f s.pos.axes a } }

/-- Compare list `m`. -/
def State.clist (s : State) (m : Nat) : CompareList := nthD ⟨[], false, [], 0⟩ s.pos.lists m

/-- Map compare list `m`. -/
def State.modList (s : State) (m : Nat) (f : CompareList → CompareList) : State :=
  { s with pos := { s.pos with lists := modNth f s.pos.lists m } }

/-- Map the line generator. -/
def State.modGen (s : State) (f : LineGen → LineGen) : State := { s with pos := { s.pos with gen := f s.pos.gen } }

/-- The position of an axis (R436). -/
def State.position (s : State) (a : Nat) : Int := s.sreg 64 (0x6400 + a) 9

/-- The direction flag: 0 UNKNOWN, 1 FWD, 2 REV (R439). -/
def State.direction (s : State) (a : Nat) : Nat := bits (s.reg (0x6400 + a) 0x0B) 3 2

/-- The axis reads ON. -/
def State.axisOn (s : State) (a : Nat) : Bool := s.reg (0x6400 + a) 2 = stOn

/-! ## Compare lists (R440 to R444) -/

/-- What a position does to an entry. -/
inductive Match where
  | stays | fires | missed
  deriving DecidableEq, Repr

/-- The placement test of R441. -/
def placeTest (e : CompareEntry) (p : Int) (flag : Nat) : Match :=
  match e.dir with
  | 1 => if e.target < p then .missed else if p = e.target && flag = 1 then .fires else .stays
  | 2 => if p < e.target then .missed else if p = e.target && flag = 2 then .fires else .stays
  | _ => if p = e.target then .fires else .stays

/-- The test of an ARMED entry at a tick (R441). -/
def armedTest (e : CompareEntry) (p : Int) (flag late : Nat) : Match :=
  match e.dir with
  | 1 => if flag = 1 && e.target ≤ p then (if p ≤ e.target + late then .fires else .missed) else .stays
  | 2 => if flag = 2 && p ≤ e.target then (if e.target - late ≤ p then .fires else .missed) else .stays
  | _ =>
    if (e.above && e.target ≤ p) || (!e.above && p ≤ e.target) then
      (if (p - e.target).natAbs ≤ late then .fires else .missed)
    else .stays

/-- A marker entry that gets no pulse counts in its rule's unmarked (R443, R267). -/
def State.unmarked (s : State) (m : Nat) (e : CompareEntry) : State := if e.marker then s.inc32 (0x4490 + m) 8 1 else s

/-- The active level of CMPOUTm (R442). -/
def State.cmpLevel (s : State) (m : Nat) (active : Bool) : Bool := active != s.flag (0x6410 + m) 4

/-- Now, in halves of a TCLK tick: a PCLK tick is five of them (R32). -/
def State.halfTicks (s : State) : Nat := 2 * s.time.tclk

/-- An entry fires (R442): a pulse, or a merged firing, and the pulse ends `width` PCLK ticks from now (R444). -/
def State.compareFire (s : State) (m : Nat) (e : CompareEntry) : State :=
  let s := (s.inc64 (0x6410 + m) 0x0E 1).fire (0x320 + m) e.tag
  let s := s.modList m (fun l => { l with endsAt := s.halfTicks + 5 * s.reg (0x6410 + m) 3 })
  if (s.clist m).active then s.inc32 (0x6410 + m) 0x11 1
  else (s.modList m (fun l => { l with active := true })).emit (.cmpout m (s.cmpLevel m true))

/-- An entry is MISSED (R443). -/
def State.compareMissed (s : State) (m : Nat) (e : CompareEntry) : State :=
  let s := ((s.inc32 (0x6410 + m) 0x0F 1).setReg (0x6410 + m) 0x12 (ofSigned 64 e.target)).setReg (0x6410 + m) 0x13 e.tag
  (s.fire (0x324 + m) e.tag).unmarked m e

/-- An entry is CANCELLED (R443). -/
def State.compareCancel (s : State) (m : Nat) (e : CompareEntry) : State := (s.inc32 (0x6410 + m) 0x10 1).unmarked m e

/-- Show the number of ARMED entries (6410h+m.0D). -/
def State.showArmed (s : State) (m : Nat) : State := s.setReg (0x6410 + m) 0x0D (s.clist m).entries.length

/-- Apply a test to every entry of list `m` on axis `a`, in order of placement. -/
def State.sweepList (s : State) (m a : Nat) (test : CompareEntry → Match) : State :=
  let es := (s.clist m).entries
  let hit := es.filter (fun e => e.axis = a && test e ≠ .stays)
  if hit.isEmpty then s else
  let s := s.modList m (fun l => { l with entries := es.filter (fun e => !(e.axis = a && test e ≠ .stays)) })
  (s.each hit (fun e s => if test e = .fires then s.compareFire m e else s.compareMissed m e)).showArmed m

/-- Compare matching after a count on axis `a`, in every list that is ON (R441). -/
def State.compareSweep (s : State) (a : Nat) : State :=
  s.each (List.range 4) (fun m s =>
    if s.reg (0x6410 + m) 2 = stOn then s.sweepList m a (fun e => armedTest e (s.position a) (s.direction a) (s.reg (0x6410 + m) 5)) else s)

/-- Place an entry in list `m` (R440, R441). -/
def State.placeEntry (s : State) (m : Nat) (e : CompareEntry) : State :=
  let p := s.position e.axis
  let e := { e with above := decide (p < e.target) }
  match placeTest e p (s.direction e.axis) with
  | .fires => s.compareFire m e
  | .missed => s.compareMissed m e
  | .stays => (s.modList m (fun l => { l with entries := l.entries ++ [e] })).showArmed m

/-- The list and the axis take entries, and `room` slots are free (R440). -/
def State.placeable (s : State) (m axis room : Nat) : Bool :=
  s.reg (0x6410 + m) 2 = stOn && s.axisOn axis && decide ((s.clist m).entries.length + room ≤ 4096)

/-- 01h written to 6410h+m.0B (R440): refused when the list is full or not ON, or the axis not ON; a waiting marker entry takes the last slot. -/
def cmdPlace (m : Nat) (s : State) : Verdict :=
  let e : CompareEntry := ⟨s.reg (0x6410 + m) 7, s.sreg 64 (0x6410 + m) 8, s.reg (0x6410 + m) 9, s.reg (0x6410 + m) 0x0A, false, false⟩
  if 2 < e.dir then .error dRange
  else accept (s.placeable m e.axis (if (s.clist m).arriving.isEmpty then 1 else 2)) dState (s.placeEntry m e)

/-- Cancel the entries of list `m` that `sel` picks. -/
def State.cancelEntries (s : State) (m : Nat) (sel : CompareEntry → Bool) : State :=
  let es := (s.clist m).entries
  let hit := es.filter sel
  if hit.isEmpty then s else
  let s := s.modList m (fun l => { l with entries := es.filter (fun e => !sel e) })
  (s.each hit (fun e s => s.compareCancel m e)).showArmed m

/-- 01h written to 6410h+m.0C (R443). -/
def cmdCompareClear (m : Nat) (s : State) : Verdict := .ok (s.cancelEntries m (fun _ => true))

/-- MARKER_ENTRY_ARRIVE (R440, R267): the oldest offered entry reaches list `m`. -/
def State.markerArrive (s : State) (m : Nat) : State :=
  match (s.clist m).arriving with
  | [] => s
  | e :: rest =>
    let s := s.modList m (fun l => { l with arriving := rest })
    if s.placeable m e.axis 1 then (s.inc32 (0x4490 + m) 7 1).placeEntry m e
    else (s.inc32 (0x4490 + m) 8 1).fire 0x87 m

/-- MARKER_ENTRY_ARRIVE (R440). -/
def execMarkerEntryArrive (m : Nat) (s : State) : Result := inst (decide (m < 4)) (.next (s.markerArrive m))

/-- CMPOUT_PULSE_END (R442). -/
def execCmpoutPulseEnd (m : Nat) (s : State) : Result :=
  inst (decide (m < 4)) <|
  if (s.clist m).active && decide ((s.clist m).endsAt ≤ s.halfTicks) then .next ((s.modList m (fun l => { l with active := false })).emit (.cmpout m (s.cmpLevel m false)))
  else .next s

/-! ## Line generator (R445 to R447) -/

/-- PCLK ticks since the generator's latest edge: PCLK runs at 2/5 of TCLK (R32). -/
def State.sinceEdge (s : State) : Option Nat := s.pos.gen.lastOut.map (fun t => (s.time.tclk - t) * 2 / 5)

/-- `n` edges fall due in one tick (R446). -/
def State.edgesDue : Nat → State → State
  | 0, s => s
  | n + 1, s =>
    let g := s.pos.gen
    let late := decide (0 < g.owed) || (match s.sinceEdge with | some d => decide (d < s.reg 0x6420 6) | none => false)
    let s := s.modGen (fun g => { g with k := g.k + 1 })
    let s := if 255 ≤ g.owed then s.inc32 0x6420 9 1
      else
        let s := s.modGen (fun g => { g with owed := g.owed + 1 })
        if late then s.inc32 0x6420 8 1 else s
    State.edgesDue n s

/-- Number of edges an axis position makes due in all (R445). -/
def edgesAt (p p0 : Int) (d dir : Nat) : Nat :=
  let m := if dir = 2 then p0 - p else p - p0
  if m ≤ 0 then 0 else (65536 * m.toNat) / d

/-- The generator looks at its source axis after a position change (R445). -/
def State.genSweep (s : State) (a : Nat) : State :=
  if s.reg 0x6420 2 = stOn && s.reg 0x6420 3 = a then
    s.edgesDue (edgesAt (s.position a) s.pos.gen.p0 (s.reg 0x6420 4) (s.reg 0x6420 5) - s.pos.gen.k)
  else s

/-- TIMER_LINE_EDGE (R445). -/
def execTimerLineEdge (s : State) : Result :=
  if s.board.inspect && s.reg 0x6420 2 = stOn && s.reg 0x6420 3 = 4 then .next (s.edgesDue 1) else .next s

/-- The line index an edge that leaves now takes at the front end (R213); the generator's own count while the front end is OFF (log 23). -/
def State.nextEdgeIndex (s : State) : Nat :=
  if s.reg 0x4000 2 = stOn || s.reg 0x4000 2 = stEnabling then s.pos.gen.nextLine + s.pos.gen.feed.length else s.reg 0x6420 7

/-- An owed edge leaves (a TIMER generator has no axis and latches position 0, log 57): position, SC and TB0 are latched, the LTRIG delay lines take it, LINE_EDGE fires (R446, R447). -/
def State.edgeOut (s : State) : State :=
  let src := s.reg 0x6420 3
  let p := if src < 4 then s.position src else 0
  let i := s.nextEdgeIndex
  let balls := (List.range 16).filter (fun j => s.flag (0x6430 + j) 1)
  let fly := balls.map (fun j => (⟨j, s.reg (0x6430 + j) 2, s.halfTicks + 5 * s.reg (0x6430 + j) 2⟩ : LtrigPulse))
  let feed := if s.reg 0x4000 2 = stOff then s.pos.gen.feed else s.pos.gen.feed ++ [⟨p, s.sc, s.tb80 0, fly.map (fun x => (x.ball, x.delay))⟩]
  let s := s.modGen (fun g => { g with owed := g.owed - 1, lastOut := some s.time.tclk, inFlight := g.inFlight ++ fly, feed := feed })
  let s := (((s.inc64 0x6420 7 1).setReg 0x6420 0x0A (ofSigned 64 p)).setReg 0x6420 0x0B s.sc).setReg 0x6420 0x0C (s.tb80 0)
  s.fire 0x328 i

/-- An owed edge may leave: at least min_interval after the one before (R446). -/
def State.edgeMayLeave (s : State) : Bool :=
  decide (0 < s.pos.gen.owed) && (match s.sinceEdge with | some d => decide (s.reg 0x6420 6 ≤ d) | none => true)

/-- LINE_EDGE_EMIT (R446). -/
def execLineEdgeEmit (s : State) : Result := if s.edgeMayLeave then .next s.edgeOut else .next s

/-- Remove the first pulse of a ball. -/
def dropPulse (j : Nat) : List LtrigPulse → List LtrigPulse
  | [] => []
  | p :: ps => if p.ball = j then ps else p :: dropPulse j ps

/-- A pulse of ball `j` is in flight whose delay has run out (R447). -/
def State.pulseDue (s : State) (j : Nat) : Bool :=
  match s.pos.gen.inFlight.find? (fun p => p.ball = j) with | some p => decide (p.due ≤ s.halfTicks) | none => false

/-- LTRIG_PULSE (R447): the oldest edge in flight at ball j pulses it for its width. -/
def execLtrigPulse (j : Nat) (s : State) : Result :=
  inst (decide (j < 16)) <|
  if s.pulseDue j then
    let s := s.modGen (fun g => { g with inFlight := dropPulse j g.inFlight })
    .next (s.emit (.ltrig j (!s.flag (0x6430 + j) 4) (s.reg (0x6430 + j) 3)))
  else .next s

/-! ## Counting (R433 to R439) -/

/-- Set the direction flag (R439). -/
def State.setDirection (s : State) (a d : Nat) (p : Int) : State :=
  let s := s.setReg (0x6400 + a) 0x0B (putBits (putBit (s.reg (0x6400 + a) 0x0B) 1 false) 3 2 d)
  let s := s.modAxis a (fun x => { x with extremum := p, revHold := false })
  (s.inc32 (0x6400 + a) 0x13 1).fire (0x31C + a) d

/-- A move against the flag opens: SPEED_SETTLING (R439). -/
def State.openReverse (s : State) (a : Nat) : State :=
  (s.regBit (0x6400 + a) 0x0B 1 true).modAxis a (fun x => { x with revHold := true })

/-- The direction logic after a move from `p` to `q` (R439). -/
def State.directionMove (s : State) (a : Nat) (p q : Int) : State :=
  let x := s.axis a
  match s.direction a with
  | 0 => if 2 ≤ (q - x.onValue).natAbs then s.setDirection a (if x.onValue < q then 1 else 2) q else s
  | 1 =>
    if p ≤ q then s.modAxis a (fun x => { x with extremum := if x.extremum ≤ q then q else x.extremum })
    else if q + 2 ≤ x.extremum then s.setDirection a 2 q else s.openReverse a
  | _ =>
    if q ≤ p then s.modAxis a (fun x => { x with extremum := if q ≤ x.extremum then q else x.extremum })
    else if x.extremum + 2 ≤ q then s.setDirection a 1 q else s.openReverse a

/-- The first count after standstill clears STANDSTILL and sets SPEED_SETTLING; counts are numbered up to 2, an SSI delta as one (R438;
log 57). -/
def State.standCount (s : State) (a : Nat) : State :=
  let f := s.reg (0x6400 + a) 0x0B
  if bitAt f 0 then
    (s.setReg (0x6400 + a) 0x0B (putBit (putBit f 0 false) 1 true)).modAxis a (fun x => { x with sinceStill := 1, speedOn := false })
  else s.modAxis a (fun x => { x with sinceStill := min 2 (x.sinceStill + 1) })

/-- The position of an axis moves by a count or an SSI delta; direction, compare entries and line edges follow in that order (R436 to R446). -/
def State.move (s : State) (a : Nat) (delta : Int) : State :=
  if delta = 0 then s else
  let p := s.position a
  let q := toSigned 64 (ofSigned 64 (p + delta))
  let s := s.setReg (0x6400 + a) 9 (ofSigned 64 q)
  let s := ((s.modAxis a (fun x => { x with lastCount := s.time.tclk })).standCount a).directionMove a p q
  (s.compareSweep a).genSweep a

/-- A quadrature, Hall or SSI error (R433 to R435). -/
def State.posError (s : State) (a : Nat) : State := (s.inc32 (0x6400 + a) 0x11 1).fire (0x310 + a) 0

/-- The count sense after the invert entry, in every mode (R433, R434, R449; for SSI log 57). -/
def State.sense (s : State) (a : Nat) (d : Int) : Int := if s.flag (0x6400 + a) 4 then -d else d

/-- Four-fold decoding: A leading B is forward (R433). -/
def quadStep (a b a' b' : Bool) : Int :=
  let ph := fun (a b : Bool) => if a then (if b then 2 else 1) else (if b then 3 else 0)
  let d : Nat := (ph a' b' + 4 - ph a b) % 4
  if d = 1 then 1 else if d = 3 then -1 else 0

/-- A ball level that does not hold for min_width is rejected and counted (R432). -/
def State.glitch (s : State) (a : Nat) : State := s.inc32 (0x6400 + a) 0x12 1

/-- ENCODER_EDGE (R433): the filtered levels after the change, held for `held` PCLK ticks. The filter runs whether or not the axis is ON, so that
an axis starts from the levels its balls have. -/
def execEncoderEdge (axis : Nat) (a b : Bool) (held : Nat) (s : State) : Result :=
  inst (decide (axis < 4)) <|
  if s.board.inspect && s.reg (0x6400 + axis) 3 = 0 then
    if held < s.reg (0x6400 + axis) 5 then .next (s.glitch axis)
    else
      let x := s.axis axis
      let s := s.modAxis axis (fun x => { x with a := a, b := b })
      if !s.axisOn axis then .next s
      else if a != x.a && b != x.b then .next (s.posError axis)
      else .next (s.move axis (s.sense axis (quadStep x.a x.b a b)))
  else .next s

/-- Rank of a Hall state in forward order; none for 000b and 111b (R434). -/
def hallRank (h : Nat) : Option Nat :=
  match h with
  | 1 => some 0 | 3 => some 1 | 2 => some 2 | 6 => some 3 | 4 => some 4 | 5 => some 5 | _ => none

/-- A Hall state against the reference (R434; after a move between states that are not adjacent the next valid state is the reference, log 57). -/
def State.hallMove (s : State) (a h : Nat) : State :=
  match (s.axis a).hall, hallRank h with
  | none, some _ => s.modAxis a (fun x => { x with hall := some h })
  | none, none => s.posError a
  | some _, none => (s.modAxis a (fun x => { x with hall := none })).posError a
  | some g, some n =>
    let d := (n + 6 - (hallRank g).getD 0) % 6
    if d = 0 then s
    else if d = 1 then (s.modAxis a (fun x => { x with hall := some h })).move a (s.sense a 1)
    else if d = 5 then (s.modAxis a (fun x => { x with hall := some h })).move a (s.sense a (-1))
    else (s.modAxis a (fun x => { x with hall := none })).posError a

/-- HALL_STATE (R434). -/
def execHallState (axis uvw held : Nat) (s : State) : Result :=
  inst (decide (axis < 4) && decide (uvw < 8)) <|
  if s.board.inspect && s.axisOn axis && s.reg (0x6400 + axis) 3 = 1 then
    if held < s.reg (0x6400 + axis) 5 then .next (s.glitch axis) else .next (s.hallMove axis uvw)
  else .next s

/-- Gray code to binary, over `n` bits (R435). -/
def grayToBin : Nat → Nat → Nat
  | 0, v => v
  | n + 1, v => grayToBin n v ^^^ (v >>> (n + 1))

/-- The parity bit a frame must carry (R435). -/
def ssiParityOk (mode n value : Nat) (parity : Bool) : Bool :=
  let ones := popCount n value + ofBool parity
  match mode with | 1 => ones % 2 = 0 | 2 => ones % 2 = 1 | _ => true

/-- The axis reaches ON: direction UNKNOWN, observer at the position (R439; the observer's start is log 24). -/
def State.axisStart (s : State) (a : Nat) : State :=
  let p := s.position a
  let s := s.setReg (0x6400 + a) 2 stOn
  let s := s.setReg (0x6400 + a) 0x0B (putBit 0 4 (bitAt (s.reg (0x6400 + a) 0x0B) 4))
  s.modAxis a (fun x => { x with
    phat := fmt64.ofInt p, vhat := 0, ahat := 0, extremum := p, onValue := p, sinceStill := 2, speedOn := true, revHold := false,
    lastCount := s.time.tclk })

/-- An SSI frame (R435). -/
def State.ssiFrame (s : State) (a v : Nat) (parity : Bool) : State :=
  let n := s.reg (0x6400 + a) 0x14
  let v := v % 2 ^ n
  let bin := if s.reg (0x6400 + a) 0x17 = 1 then grayToBin n v % 2 ^ n else v
  if !ssiParityOk (s.reg (0x6400 + a) 0x18) n v parity then s.posError a
  else match (s.axis a).ssiRef with
    | none =>
      let s := s.modAxis a (fun x => { x with ssiRef := some bin })
      if s.reg (0x6400 + a) 2 = stEnabling then s.axisStart a else s
    | some r =>
      let d : Int := (((bin : Int) - r + ((2 ^ (n - 1) : Nat) : Int)) % ((2 ^ n : Nat) : Int)) - ((2 ^ (n - 1) : Nat) : Int)
      if s.reg (0x6400 + a) 0x19 < d.natAbs then s.posError a
      else (s.modAxis a (fun x => { x with ssiRef := some bin })).move a (s.sense a d)

/-- SSI_FRAME (R435). -/
def execSsiFrame (axis value : Nat) (parity : Bool) (s : State) : Result :=
  inst (decide (axis < 4)) <|
  if s.board.inspect && s.reg (0x6400 + axis) 3 = 2 && (s.axisOn axis || s.reg (0x6400 + axis) 2 = stEnabling) then
    .next (s.ssiFrame axis value parity)
  else .next s

/-- A preset (R436): observer, extremum and generator thresholds move by the same step; ARMED entries are tested as at placement. -/
def State.preset (s : State) (a : Nat) : State :=
  let p := s.position a
  let v := s.sreg 64 (0x6400 + a) 7
  let d := v - p
  let s := s.setReg (0x6400 + a) 9 (ofSigned 64 v)
  let s := s.modAxis a (fun x =>
    { x with phat := fmt64.add x.phat (fmt64.ofInt d), extremum := x.extremum + d, onValue := x.onValue + d })
  let s := if s.reg 0x6420 3 = a then s.modGen (fun g => { g with p0 := g.p0 + d }) else s
  s.each (List.range 4) (fun m s =>
    let f := s.direction a
    let s := s.sweepList m a (fun e => placeTest e v f)
    s.modList m (fun l => { l with entries := l.entries.map (fun e => if e.axis = a then { e with above := decide (v < e.target) } else e) }))

/-- 01h written to 6400h+a.08 (R436). -/
def cmdPreset (a : Nat) (s : State) : Verdict := .ok (s.preset a)

/-- A rising Z edge under the index mode (R433). -/
def State.indexEdge (s : State) (a : Nat) : State :=
  let m := s.reg (0x6400 + a) 6
  if m = 1 || m = 2 then
    let s := (s.setReg (0x6400 + a) 0x10 (ofSigned 64 (s.position a))).fire (0x314 + a) 0
    if m = 2 then ((s.preset a).setReg (0x6400 + a) 6 1).regBit (0x6400 + a) 0x0B 4 false else s
  else s

/-- INDEX_EDGE (R432, R433): a rising edge of Z; Z is the index only in QUAD. -/
def execIndexEdge (axis held : Nat) (s : State) : Result :=
  inst (decide (axis < 4)) <|
  if s.board.inspect && s.axisOn axis && s.reg (0x6400 + axis) 3 = 0 then
    if held < s.reg (0x6400 + axis) 5 then .next (s.glitch axis) else .next (s.indexEdge axis)
  else .next s

/-- One observer update in binary64 (R437), and the reported speed (R438). -/
def State.observe (s : State) (a : Nat) : State :=
  let x := s.axis a
  let gain := fun sub => fmt32.convert fmt64 (s.reg (0x6400 + a) sub)
  let e := fmt64.sub (fmt64.ofInt (s.position a)) x.phat
  let ph := fmt64.add (fmt64.add x.phat x.vhat) (fmt64.mul (gain 0x0D) e)
  let vh := fmt64.add (fmt64.add x.vhat x.ahat) (fmt64.mul (gain 0x0E) e)
  let ah := fmt64.add x.ahat (fmt64.mul (gain 0x0F) e)
  let speed := fmt64.convert fmt32 (fmt64.mul vh (fmt64.ofInt 1000000))
  let s := s.modAxis a (fun x => { x with phat := ph, vhat := vh, ahat := ah, speedOn := x.speedOn || x.sinceStill = 2 })
  let s := s.setReg (0x6400 + a) 0x0A (if x.speedOn then speed else 0)
  if x.speedOn && !x.revHold && bitAt (s.reg (0x6400 + a) 0x0B) 1 then s.regBit (0x6400 + a) 0x0B 1 false else s

/-- OBSERVER_UPDATE (R437): every 1 µs. -/
def execObserverUpdate (axis : Nat) (s : State) : Result :=
  inst (decide (axis < 4)) <| if s.board.inspect && s.axisOn axis then .next (s.observe axis) else .next s

/-- Standstill is declared (R438). -/
def State.standstill (s : State) (a : Nat) : State :=
  let s := s.modAxis a (fun x =>
    { x with phat := fmt64.ofInt (s.position a), vhat := 0, ahat := 0, sinceStill := 0, speedOn := false })
  ((s.regBit (0x6400 + a) 0x0B 0 true).setReg (0x6400 + a) 0x0A 0).fire (0x318 + a) 0

/-- An axis that is not at standstill has made no count for T_still (R438). -/
def State.stillDue (s : State) (a : Nat) : Bool :=
  !bitAt (s.reg (0x6400 + a) 0x0B) 0 && decide ((s.axis a).lastCount + s.reg (0x6400 + a) 0x0C * 500000 ≤ s.time.tclk)

/-- STANDSTILL (R438). -/
def execStandstill (axis : Nat) (s : State) : Result :=
  inst (decide (axis < 4)) <|
  .next (if s.board.inspect && s.axisOn axis && s.stillDue axis then s.standstill axis else s)

/-! ## Enables and write rules (R448) -/

/-- The refusal of an enable of a list or of the generator, or 0 (R448; the axis of a list is that of its next placed entry, log 57). -/
def positionEnableCheck (s : State) (idx : Nat) : Nat :=
  if 0x6410 ≤ idx && idx ≤ 0x6413 then (if s.axisOn (s.reg idx 7) then 0 else dRule)
  else if idx = 0x6420 then
    let src := s.reg 0x6420 3
    if src = 4 then (if s.reg 0x6420 6 ≤ s.reg 0x6420 4 then 0 else dRule)
    else if s.axisOn src then 0 else dRule
  else 0

/-- The generator reaches ON: p_0 and k (R445). -/
def State.genStart (s : State) : State :=
  let src := s.reg 0x6420 3
  (s.setReg 0x6420 2 stOn).modGen (fun g => { g with p0 := if src < 4 then s.position src else 0, k := 0, owed := 0, lastOut := none })

/-- Every list drops the entries that name an axis leaving ON (R443). -/
def State.axisLeaves (s : State) (a : Nat) : State := s.each (List.range 4) (fun m s => s.cancelEntries m (fun e => e.axis = a))

/-- The refusal a write to an entry of chapter 14 meets, or 0. -/
def positionCheck (s : State) (idx sub v : Nat) : Nat :=
  if 0x6400 ≤ idx && idx ≤ 0x6403 then
    if sub = 6 then (if v ≤ 2 then 0 else dRange)
    else if sub = 0x0D || sub = 0x0E || sub = 0x0F then (if gainRefused v then dRange else 0)
    else if sub = 0x16 || sub = 0x15 || sub = 0x14 || sub = 0x18 then
      let get := fun k => if sub = k then v else s.reg idx k
      let n := get 0x14 + (if get 0x18 = 0 then 0 else 1)
      if get 0x16 * 100 < n * get 0x15 + 2000 then dRule else 0
    else 0
  else if 0x6410 ≤ idx && idx ≤ 0x6413 && (sub = 6 || sub = 9) then (if v ≤ 2 || sub = 9 then 0 else dRange)
  else if idx = 0x6420 && sub = 4 then (if s.reg 0x6420 3 = 4 then (if v < s.reg 0x6420 6 then dRule else 0) else if v < 65536 then dRule else 0)
  else if 0x6430 ≤ idx && idx ≤ 0x643F && sub = 3 then (if s.reg 0x6420 6 ≤ v then dRule else 0)
  else 0

/-- What a taken write to an entry of chapter 14 sets in motion: HOME arms its flag bit (R449). -/
def positionAfter (s : State) (idx sub : Nat) : State :=
  if 0x6400 ≤ idx && idx ≤ 0x6403 && sub = 6 then s.regBit idx 0x0B 4 (s.reg idx 6 = 2) else s

end Sys2Proof.Machine
end

