-- ==== Sys2Proof/Machine/Avail.lean ====
section
/-! DEFINITION. Management pairs, failover, live firmware update (chapter 17) and the test access port (R569). -/

namespace Sys2Proof.Machine

/-- State of pair `p`: 0 ACTIVE, 1 STANDBY, 2 SELFTEST, 3 FAILED, 4 LOADING (R526). -/
def State.pair (s : State) (p : Nat) : Nat := s.reg 0x7020 (2 + p)

/-- Set the state of pair `p`. -/
def State.setPair (s : State) (p v : Nat) : State := s.setReg 0x7020 (2 + p) v

/-- A pair reads STANDBY (R513). -/
def State.hasStandby (s : State) : Bool := s.pair 0 = 1 || s.pair 1 = 1

/-- Firmware slot `k` of board flash. -/
def State.fwSlot (s : State) (k : Nat) : FwSlot := nthD ⟨0, 0, 4⟩ s.nv.slots k

/-- The running slot, with its version and CRC in the identity entries (R476, R526). -/
def State.runSlot (s : State) (k : Nat) : State :=
  ((s.setReg 0x7010 5 k).setReg 0x1000 5 (s.fwSlot k).version).setReg 0x1000 6 (s.fwSlot k).crc

/-- PROBATION starts, for its full length of 7010h.09 seconds (R519, R520). -/
def State.startProbation (s : State) : State := { s with avail := { s.avail with probationEnds := s.time.tclk + s.reg 0x7010 9 * 500000000 } }

/-- How a failover ends an update in progress (R519, R520); a commanded one in PROBATION restarts it. -/
def State.failUpdate (s : State) (cause : Nat) : State :=
  let u := s.reg 0x7010 4
  if u = 1 || u = 2 then
    (s.setReg 0x7010 4 5).faultRecord 0x0F 0x0B (s.reg 0x7020 1) cause noInterruption s.sc
  else if u = 3 && cause = 4 then s.startProbation
  else if u = 3 then
    ((s.runSlot s.avail.prevSlot).setReg 0x7010 4 6).faultRecord 0x0F 0x0A (s.reg 0x7020 1) cause noInterruption s.sc
  else s

/-- The STANDBY pair takes over, or the pair that was loading for an update, with the old firmware (R519); without one, no pair is ACTIVE and the dictionary is unreachable (R512, R513).
The gap is at most 2 ms, in µs, and otherwise free. -/
def State.failover (s : State) (cause : Nat) : State :=
  let a := s.reg 0x7020 1
  let b := 1 - a
  let s := s.faultStart 8 a cause s.sc
  if s.pair b = 1 || s.pair b = 4 then
    let (g, s) := s.draw 32
    let s := (((s.setPair a 2).setPair b 0).setReg 0x7020 1 b).inc32 0x7020 4 1
    let s := (s.setReg 0x7020 5 cause).setReg 0x7020 7 (g % 2001)
    (s.faultDone 8 7 a cause s.sc).failUpdate cause
  else
    let s := (s.setPair a 2).faultDone 8 8 a cause s.sc
    { s with avail := { s.avail with dead := true } }

/-- The management processor runs: the part is powered and boot firmware has started. -/
def State.mgmtRuns (s : State) : Bool := s.power.dictUp && !s.avail.dead

/-- LOCKSTEP_MISMATCH (R512). -/
def execLockstepMismatch (s : State) : Result := if s.mgmtRuns then .next (s.failover 1) else .next s

/-- WATCHDOG_EXPIRY (R513). -/
def execWatchdogExpiry (s : State) : Result := if s.mgmtRuns then .next (s.failover 2) else .next s

/-- 01h written to 7020h.06 (R513). -/
def cmdFailover (s : State) : Verdict := accept s.hasStandby dState (s.failover 4)

/-- PAIR_SELFTEST_COMPLETE (R512). -/
def execPairSelftestComplete (passed : Bool) (s : State) : Result :=
  let v := if passed then 1 else 3
  if s.pair 0 = 2 then .next (s.setPair 0 v) else if s.pair 1 = 2 then .next (s.setPair 1 v) else .next s

/-- The verdict on an image written to 7010h.01 (R518): 0 passes, 1 BAD_SIGNATURE, 2 or 3 BAD_FORMAT. -/
def imageVerdict (bs : Bytes) : Nat := min (Config.imageCheck bs).toNat 2

/-- Store a firmware slot in flash and show its version. -/
def State.setSlot (s : State) (k : Nat) (x : FwSlot) : State :=
  let s := { s with nv := { s.nv with slots := modNth (fun _ => x) s.nv.slots k } }
  s.setReg 0x7010 (7 + k) x.version

/-- The slot a new image goes to: the one that is not running, or slot 0 in RECOVERY (R518, R546). -/
def State.targetSlot (s : State) : Nat := if s.power.recovery then 0 else 1 - s.reg 0x7010 5

/-- An image is written (R518): refused with CHECK and the cause, or WRITING until the flash write completes. -/
def State.writeImage (s : State) (bs : Bytes) : Nat × State :=
  match imageVerdict bs with
  | 0 =>
    let s := (s.setSlot s.targetSlot ⟨0, 0, 4⟩).setReg 0x7010 2 1
    (0, { s with avail := { s.avail with imageVersion := (Config.imageVersion bs).toNat, imageCrc := crc32c bs } })
  | v => (dCheck, (s.setSlot s.targetSlot ⟨0, 0, 4⟩).setReg 0x7010 2 (if v = 1 then 3 else 4))

/-- The conditions of R519 for an activation. -/
def State.canActivate (s : State) : Bool :=
  let u := s.reg 0x7010 4
  s.hasStandby && !s.recovering && (u = 0 || u = 4 || u = 5 || u = 6) && s.reg 0x7010 2 = 2

/-- 01h written to 7010h.03 (R519): the STANDBY pair enters LOADING. -/
def cmdActivate (s : State) : Verdict :=
  let b := if s.pair 0 = 1 then 0 else 1
  accept s.canActivate dState ((s.setPair b 4).setReg 0x7010 4 1)

/-- LOADING_COMPLETE (R519). -/
def execLoadingComplete (s : State) : Result := if s.reg 0x7010 4 = 1 then .next (s.setReg 0x7010 4 2) else .next s

/-- HANDOVER_COMPLETE (R519): the loaded pair is ACTIVE, the former one STANDBY, and PROBATION starts. `gap` is the unavailability in µs. -/
def execHandoverComplete (gap : Nat) (s : State) : Result :=
  if s.reg 0x7010 4 = 2 then
    let a := s.reg 0x7020 1
    let old := s.reg 0x7010 5
    let s := (((s.setPair a 1).setPair (1 - a) 0).setReg 0x7020 1 (1 - a)).setReg 0x7020 5 3
    let s := (s.setReg 0x7020 7 (gap % 2 ^ 32)).runSlot (1 - old)
    .next ({ s with avail := { s.avail with prevSlot := old } }.startProbation.setReg 0x7010 4 3)
  else .next s

/-- PROBATION_END (R520): the boot slot becomes the running slot and the update reads DONE; before the end of PROBATION its moment has not come
(log 15). -/
def execProbationEnd (s : State) : Result :=
  if s.reg 0x7010 4 = 3 && decide (s.avail.probationEnds ≤ s.time.tclk) then
    let k := s.reg 0x7010 5
    let s := { s with nv := { s.nv with bootSlot := k } }
    let s := ((s.setReg 0x7010 6 k).setReg 0x7010 4 4).inc32 0x7010 0x0A 1
    .next (s.faultRecord 0x0F 9 (s.reg 0x7020 1) 0 noInterruption s.sc)
  else .next s

/-! ## Test access port (R569) -/

/-- Set the TAP. -/
def State.tap (s : State) (ir dr drive : Nat) : State :=
  { s with power := { s.power with tapIr := ir, tapDr := dr, tapDrive := drive } }

/-- The identification register (R569). -/
def State.idcode (s : State) : Nat :=
  (s.board.silicon % 16) * 2 ^ 28 + (if s.board.code = 3 then 0x4096 else 0x8192) * 2 ^ 12 + 0x0E9 * 2 + 1

/-- EXTEST (R569): in effect only while PORST_N is low, BYPASS otherwise. `balls` are the levels captured, `cells` the cells shifted in. -/
def execExtest (balls cells : Nat) (s : State) : Result :=
  if s.power.porstN then .next (s.tap 0x00 0 0)
  else .next { s.tap 0x00 balls 1 with power := { (s.tap 0x00 balls 1).power with tapCells := cells } }

/-- IDCODE (R569). -/
def execIdcode (s : State) : Result := .next (s.tap 0x01 s.idcode 0)

/-- SAMPLE_PRELOAD (R569): captures the balls and loads the cells; the balls keep their function. -/
def execSamplePreload (balls cells : Nat) (s : State) : Result :=
  .next { s.tap 0x02 balls 0 with power := { (s.tap 0x02 balls 0).power with tapCells := cells } }

/-- CLAMP (R569): the balls hold the preloaded cells while PORST_N is low, BYPASS otherwise. -/
def execClamp (s : State) : Result := .next (s.tap 0x03 0 (if s.power.porstN then 0 else 1))

/-- HIGHZ (R569): the balls go to high impedance while PORST_N is low, BYPASS otherwise. -/
def execHighz (s : State) : Result := .next (s.tap 0x04 0 (if s.power.porstN then 0 else 2))

/-- BYPASS (R569): the one-bit bypass register captures 0. -/
def execBypass (s : State) : Result := .next (s.tap 0xFF 0 0)

end Sys2Proof.Machine
end

