-- ==== Sys2Proof/Machine/DramMap.lean ====
section
/-! DEFINITION. The logical DRAM space: its mapping to channels, stripes and device coordinates; the channels' accesses, queues and losses; the parity
engine; and the reads and writes that every other unit makes (chapter 11). -/

namespace Sys2Proof.Machine

/-! ## Space and mapping (R337 to R340) -/

/-- Units of 64 bytes that make one GiB. -/
abbrev unitsPerGib : Nat := 2 ^ 24

/-- Present channels n. -/
def State.dramN (s : State) : Nat := s.board.channels

/-- Protected size Q per channel in GiB (5800h.04). -/
def State.dramQ (s : State) : Nat := s.reg 0x5800 4

/-- Protected units of a channel (R337). -/
def State.protUnits (s : State) : Nat := unitsPerGib * s.dramQ

/-- P of R337 in bytes. -/
def State.protSize (s : State) : Nat := 2 ^ 30 * ((s.dramN - 1) * s.dramQ)

/-- U of R337 in bytes. -/
def State.unprotSize (s : State) : Nat := 2 ^ 30 * (s.dramN * (s.reg 0x5800 3 - s.dramQ))

/-- An address lies in the logical DRAM space (R337). -/
def State.dramExists (s : State) (a : Nat) : Bool := decide (a < s.protSize + s.unprotSize)

/-- The channel that holds a stripe's parity (R338). -/
def parityChannel (n stripe : Nat) : Nat := n - 1 - stripe % n

/-- The channel of data position `i` of a stripe (R338). -/
def dataChannel (n stripe i : Nat) : Nat := (parityChannel n stripe + 1 + i) % n

/-- Channel and local unit of a logical address (R338, R339), if it exists. -/
def State.mapAddr (s : State) (a : Nat) : Option (Nat × Nat) :=
  let n := s.dramN
  if a < s.protSize then
    let u := a / 64
    some (dataChannel n (u / (n - 1)) (u % (n - 1)), u / (n - 1))
  else if s.dramExists a then
    let u := (a - s.protSize) / 64
    some (u % n, unitsPerGib * s.dramQ + u / n)
  else none

/-- Logical ranks of an organisation (R335). -/
def orgRanks (org : Nat) : Nat := if org = 0 || org = 2 then 1 else 2

/-- Package ranks of an organisation (R335). -/
def orgPackages (org : Nat) : Nat := if org = 1 || org = 3 then 2 else 1

/-- Rows of a bank (R335). -/
def orgRows (org : Nat) : Nat := if org = 2 || org = 3 || org = 5 then 98304 else 65536

/-- Device coordinates of a unit (R340). `col` is the column field, which selects the burst. -/
structure Coord where
  sub : Nat
  col : Nat
  group : Nat
  bank : Nat
  rank : Nat
  row : Nat
  deriving DecidableEq, Repr

/-- The device column address of a burst (R340). -/
def Coord.column (c : Coord) : Nat := 16 * c.col

/-- The coordinates of a channel-local unit under an address order (R340). -/
def coordOf (order ranks u : Nat) : Coord :=
  let sub := u % 2
  let u := u / 2
  match order with
  | 0 => ⟨sub, u % 128, u / 128 % 8, u / 1024 % 4, u / 4096 % ranks, u / 4096 / ranks⟩
  | 3 => ⟨sub, u / ranks / 8 % 128, u / ranks % 8, u / ranks / 1024 % 4, u % ranks, u / ranks / 4096⟩
  | _ =>
    let row := u / 4096 / ranks
    let x := order = 2
    ⟨sub, u / 8 % 128, u % 8 ^^^ (if x then bits row 2 0 else 0), u / 1024 % 4 ^^^ (if x then bits row 4 3 else 0), u / 4096 % ranks, row⟩

/-- The channel-local unit at coordinates under an address order: `coordOf` taken back. -/
def localOf (order ranks : Nat) (c : Coord) : Nat :=
  match order with
  | 0 => c.sub + 2 * (c.col + 128 * (c.group + 8 * (c.bank + 4 * (c.rank + ranks * c.row))))
  | 3 => c.sub + 2 * (c.rank + ranks * (c.group + 8 * (c.col + 128 * (c.bank + 4 * c.row))))
  | _ =>
    let x := order = 2
    c.sub + 2 * ((c.group ^^^ (if x then bits c.row 2 0 else 0)) + 8 * (c.col + 128 * ((c.bank ^^^ (if x then bits c.row 4 3 else 0)) + 4 * (c.rank + ranks * c.row))))

/-- A number for coordinates: device content stays where it is when the address order changes. -/
def Coord.number (ranks : Nat) (c : Coord) : Nat := localOf 0 ranks c

/-- The bank (rank, bank, bank group, subchannel) in one number. -/
def Coord.bankId (c : Coord) : Nat := ((c.rank * 4 + c.bank) * 8 + c.group) * 2 + c.sub

/-- The rank of a bank. -/
def bankRank (b : Nat) : Nat := b / 64

/-- The coordinates of a local unit under the address order in force (5800h.05). -/
def State.coord (s : State) (u : Nat) : Coord := coordOf (s.reg 0x5800 5) (orgRanks (s.reg 0x5800 1)) u

/-- The key of a unit of a channel's devices. -/
def unitKey (ch unit : Nat) : Nat := ch * 2 ^ 40 + unit

/-- The key of the device unit that a channel-local unit is. -/
def State.deviceKey (s : State) (ch u : Nat) : Nat := unitKey ch ((s.coord u).number (orgRanks (s.reg 0x5800 1)))

/-- The channel-local unit of a device unit. -/
def State.localUnit (s : State) (k : Nat) : Nat :=
  let ranks := orgRanks (s.reg 0x5800 1)
  localOf (s.reg 0x5800 5) ranks (coordOf 0 ranks (k % 2 ^ 40))

/-! ## Channels -/

/-- Replace the DRAM controllers' state. -/
def State.setDdr (s : State) (d : DramState) : State := { s with ddr := d }

/-- A channel beside its entries. -/
def State.chan (s : State) (ch : Nat) : DramChannel := (lookup s.ddr.channels ch).getD (DramChannel.reset s.nv.boots ch)

/-- Map a channel. -/
def State.modChan (s : State) (ch : Nat) (f : DramChannel → DramChannel) : State :=
  s.setDdr { s.ddr with channels := insertKey s.ddr.channels ch (f (s.chan ch)) }

/-- State of a channel (R351): 0 ONLINE, 1 OFFLINE, 2 LOST, 3 REBUILDING. -/
def State.chanState (s : State) (ch : Nat) : Nat := s.reg (0x5810 + ch) 1

/-- Present channels in a state of R351. -/
def State.channelsIn (s : State) (st : Nat) : List Nat := (List.range s.dramN).filter (fun c => s.chanState c = st)

/-- Neighbours of a row that the bank has (R350). -/
def neighbours (rows radius row : Nat) : List Nat :=
  [(1, true), (1, false), (2, true), (2, false)].filterMap (fun d =>
    if radius < d.1 then none
    else if d.2 then (if row + d.1 < rows then some (row + d.1) else none)
    else if d.1 ≤ row then some (row - d.1) else none)

/-- The open row of a bank closes: the neighbour refresh that its ACT called for follows, by ACT and PRE of each neighbour (R350). Those ACTs
step the LFSR and call for no other one (log 31). -/
def State.closeRow (s : State) (ch bank : Nat) : State :=
  let x := s.chan ch
  match lookup x.rows bank with
  | none => s
  | some row =>
    let n := if x.owed.contains bank then (neighbours (orgRows (s.reg 0x5800 1)) (s.reg 0x5800 9) row).length else 0
    let s := s.modChan ch (fun x => { x with lfsr := lfsrSteps n x.lfsr, rows := eraseKey x.rows bank, owed := x.owed.filter (fun b => b ≠ bank) })
    if n = 0 then s else (s.inc64 (0x5810 + ch) 7 n).inc64 (0x5810 + ch) 9 n

/-- Every open row of a channel that satisfies a condition closes. -/
def State.closeRows (s : State) (ch : Nat) (p : Nat → Bool) : State :=
  s.each (((s.chan ch).rows.map (fun r => r.1)).filter p) (fun b s => s.closeRow ch b)

/-- An ACT of a row of a bank whose rows are closed: the LFSR steps, and may call for a neighbour refresh (R350). -/
def State.activate (s : State) (ch bank row : Nat) : State :=
  let k := s.reg 0x5800 8
  (s.modChan ch (fun x =>
    let l := lfsrStep x.lfsr
    { x with lfsr := l, rows := insertKey x.rows bank row, owed := if l % 2 ^ k = 0 then bank :: x.owed else x.owed })).inc64 (0x5810 + ch) 7 1

/-- The device access of a unit: a row hit, or the close of another row and an ACT (R346). -/
def State.access (s : State) (ch u : Nat) : State :=
  let c := s.coord u
  if lookup (s.chan ch).rows c.bankId = some c.row then s.inc64 (0x5810 + ch) 8 1
  else (s.closeRow ch c.bankId).activate ch c.bankId c.row

/-! ## Content of units (R338, R344) -/

/-- The 64 bytes that a channel's devices hold of a unit. -/
def State.devUnit (s : State) (ch u : Nat) : Bytes := dramRead s.dram (64 * s.deviceKey ch u) 64

/-- The XOR of two units. -/
def xorBytes (a b : Bytes) : Bytes := List.zipWith (fun x y => x ^^^ y) a b

/-- The accumulator of a stripe, empty when none is open. -/
def State.stripeAcc (s : State) (stripe : Nat) : StripeAcc := (lookup s.ddr.stripes stripe).getD ⟨0, zeroBytes 64, zeroBytes 64⟩

/-- What a channel contributes of a stripe: its data unit, or the parity that stands for the units as they are now. -/
def State.stripePart (s : State) (ch stripe : Nat) : Bytes :=
  if ch = parityChannel s.dramN stripe then xorBytes (s.devUnit ch stripe) (s.stripeAcc stripe).delta else s.devUnit ch stripe

/-- The other n − 1 channels of a stripe. -/
def State.others (s : State) (ch : Nat) : List Nat := (List.range s.dramN).filter (fun c => c ≠ ch)

/-- The XOR of the other n − 1 units of a stripe (R344). -/
def State.xorOthers (s : State) (ch stripe : Nat) : Bytes := (s.others ch).foldl (fun a c => xorBytes a (s.stripePart c stripe)) (zeroBytes 64)

/-- Reads of a unit go to its channel's devices: at once, or when an OFFLINE channel returns for an unprotected one (R351). A REBUILDING channel holds
its unprotected units and the protected ones below the progress point (R353). -/
def State.unitDirect (s : State) (ch u : Nat) : Bool :=
  match s.chanState ch with
  | 0 => true
  | 1 => decide (s.protUnits ≤ u)
  | 3 => decide (s.protUnits ≤ u) || decide (u < (s.chan ch).progress)
  | _ => false

/-- The device content of a unit is uncorrectable (R344). -/
def State.unitBad (s : State) (ch u : Nat) : Bool := s.ddr.bad.contains (s.deviceKey ch u)

/-- A unit can be read from its channel's devices. -/
def State.unitGood (s : State) (ch u : Nat) : Bool := s.unitDirect ch u && !s.unitBad ch u

/-- A protected unit can be rebuilt from the other n − 1 units of its stripe (R344). -/
def State.rebuildable (s : State) (ch stripe : Nat) : Bool := (s.others ch).all (fun c => s.unitGood c stripe)

/-- A unit of a channel can be read, if need be by a rebuild (R344, R351). -/
def State.localReadable (s : State) (ch u : Nat) : Bool := s.unitGood ch u || (decide (u < s.protUnits) && s.rebuildable ch u)

/-- The content of a unit of a channel: from its devices, or rebuilt. -/
def State.localUnitBytes (s : State) (ch u : Nat) : Bytes :=
  if s.unitGood ch u || decide (s.protUnits ≤ u) then s.devUnit ch u else s.xorOthers ch u

/-- A read of the unit at a logical address succeeds, if need be by a rebuild (R344, R351). -/
def State.unitReadable (s : State) (a : Nat) : Bool :=
  match s.mapAddr a with
  | none => false
  | some (ch, u) => s.localReadable ch u

/-- The open assembly of a protected unit. -/
def State.assembly (s : State) (u : Nat) : Option Assembly := s.ddr.assemblies.find? (fun x => x.unit = u)

/-- Bytes of `new` where the mask has a bit, and of `old` elsewhere. -/
def mergeMask (mask : Nat) (old new : Bytes) : Bytes := (List.range 64).map (fun i => if bitAt mask i then new.getD i 0 else old.getD i 0)

/-- The 64 bytes of logical unit `u` as a read returns them: bytes in an open assembly are served from the engine (R342). -/
def State.unitNow (s : State) (u : Nat) : Bytes :=
  let old := match s.mapAddr (64 * u) with | some (ch, l) => s.localUnitBytes ch l | none => zeroBytes 64
  match s.assembly u with | some x => mergeMask x.mask old x.data | none => old

/-- Every DRAM unit that a range touches. -/
def unitsOf (a n : Nat) : List Nat := if n = 0 then [] else (List.range ((a + n - 1) / 64 + 1 - a / 64)).map (fun i => a / 64 + i)

/-- `n` bytes of logical DRAM from an address. -/
def State.load (s : State) (a n : Nat) : Bytes := slice ((unitsOf a n).flatMap s.unitNow) (a % 64) n

/-- A byte can be read: its unit can, or an open assembly holds it (R342). -/
def State.byteReadable (s : State) (a : Nat) : Bool :=
  s.unitReadable a || (match s.assembly (a / 64) with | some x => bitAt x.mask (a % 64) | none => false)

/-- Every unit is readable as things stand: every channel is ONLINE and no unit is uncorrectable. -/
def State.allGood (s : State) : Bool := s.ddr.bad.isEmpty && (List.range s.dramN).all (fun c => s.chanState c = 0)

/-- Every byte of a range can be read. -/
def State.rangeReadable (s : State) (a n : Nat) : Bool :=
  if s.allGood then decide (n = 0) || s.dramExists (a + n - 1) else (List.range n).all (fun i => s.byteReadable (a + i))

/-- What a reader of the unit streams gets: a beat that fails reads as zero (R382). -/
def State.loadZ (s : State) (a n : Nat) : Bytes :=
  if s.rangeReadable a n then s.load a n
  else ((List.range n).zip (s.load a n)).map (fun p => if s.byteReadable (a + p.1) then p.2 else 0)

/-! ## Device accesses -/

/-- Read a unit of a channel's devices. -/
def State.deviceRead (s : State) (ch u : Nat) : State := (s.access ch u).inc64 (0x5810 + ch) 5 1

/-- The content of a device unit changes. -/
def State.putUnit (s : State) (ch u : Nat) (v : Bytes) : State := { s with dram := dramWrite s.dram (64 * s.deviceKey ch u) v }

/-- A unit's content is good, or uncorrectable. -/
def State.markUnit (s : State) (ch u : Nat) (isBad : Bool) : State :=
  let k := s.deviceKey ch u
  let rest := s.ddr.bad.filter (fun x => x ≠ k)
  s.setDdr { s.ddr with bad := if isBad then k :: rest else rest }

/-- Write a unit of a channel; its content is good again. A LOST channel is not written (R351). -/
def State.deviceWrite (s : State) (ch u : Nat) (v : Bytes) : State :=
  if s.chanState ch = 2 then s else (((s.access ch u).inc64 (0x5810 + ch) 6 1).putUnit ch u v).markUnit ch u false

/-- A read fails (R344). -/
def State.readFails (s : State) (ch u : Nat) : State := (s.inc32 0x5801 6 1).faultRecord 0x0D 8 ch 0 noInterruption (64 * u)

/-- A protected unit is rebuilt on a read: the other units of the stripe are read (R344). -/
def State.rebuildRead (s : State) (ch u : Nat) : State := (s.each (s.others ch) (fun c s => s.deviceRead c u)).inc64 0x5801 5 1

/-! ## The parity engine (R341) -/

/-- The size of the parity engine's store. -/
abbrev engineBytes : Nat := 16777216

/-- The engine's occupancy: 64 bytes for each assembly and accumulator. -/
def DramState.occupancy (d : DramState) : Nat := 64 * (d.assemblies.length + d.stripes.length)

/-- The engine has no space for another assembly with its accumulator. -/
def DramState.full (d : DramState) : Bool := decide (engineBytes < d.occupancy + 128)

/-- Bits of a mask for `n` bytes from offset `off`. -/
def maskOf (off n : Nat) : Nat := (2 ^ n - 1) <<< off

/-- `bs` in place of the bytes of `old` from offset `off`. -/
def overlay (old : Bytes) (off : Nat) (bs : Bytes) : Bytes := old.take off ++ bs ++ old.drop (off + bs.length)

/-- Merge bytes into their unit's assembly, which opens if there is none (R341). -/
def mergeUnit (tick u off : Nat) (bs : Bytes) : List Assembly → List Assembly
  | [] => [⟨u, maskOf off bs.length, tick, overlay (zeroBytes 64) off bs⟩]
  | x :: xs =>
    if x.unit = u then { x with mask := x.mask ||| maskOf off bs.length, data := overlay x.data off bs } :: xs else x :: mergeUnit tick u off bs xs

/-- A channel is present, and writes to it are not held (R351). -/
def State.writable (s : State) (ch : Nat) : Bool := s.chanState ch ≠ 1

/-- A unit read for the engine: from its devices, or rebuilt, or the read fails (R341, R344). -/
def State.engineRead (s : State) (ch u : Nat) : State :=
  if s.unitGood ch u then s.deviceRead ch u else if s.rebuildable ch u then s.rebuildRead ch u else s.readFails ch u

/-- Data positions of a stripe that have not closed. -/
def openPositions (d closed : Nat) : List Nat := (List.range d).filter (fun i => !bitAt closed i)

/-- The parity of a stripe is written, after completion reads of the units that have not closed (R341). Where one of those cannot be read from its
devices, the parity follows from the old one; a parity unit that is uncorrectable then stays so (log 32). -/
def State.closeStripe (s : State) (stripe : Nat) : State :=
  let n := s.dramN
  let p := parityChannel n stripe
  let x := s.stripeAcc stripe
  let rest := (openPositions (n - 1) x.closed).map (dataChannel n stripe)
  let plain := rest.all (fun c => s.unitGood c stripe)
  let bad := !plain && s.unitBad p stripe
  let parity := if plain then rest.foldl (fun a c => xorBytes a (s.devUnit c stripe)) x.sum else s.stripePart p stripe
  let s := s.each rest (fun c s => s.engineRead c stripe)
  let s := if rest.isEmpty then s.inc64 0x5801 1 1 else (s.inc64 0x5801 2 1).inc64 0x5801 4 rest.length
  let s := (s.setDdr { s.ddr with stripes := eraseKey s.ddr.stripes stripe }).deviceWrite p stripe parity
  if bad then s.markUnit p stripe true else s

/-- A closed unit enters its stripe's accumulator, and is written to its channel unless that is LOST (R341, R351). The parity unit of a stripe in
which the unit's old content was beyond reading becomes uncorrectable (log 32). -/
def State.enterStripe (s : State) (ch stripe pos : Nat) (v : Bytes) : State :=
  let x := s.stripeAcc stripe
  let old := s.localUnitBytes ch stripe
  let lost := !s.localReadable ch stripe
  let sum := xorBytes (if bitAt x.closed pos then xorBytes x.sum old else x.sum) v
  let acc : StripeAcc := ⟨setBit x.closed pos, sum, xorBytes x.delta (xorBytes old v)⟩
  let s := (s.setDdr { s.ddr with stripes := insertKey s.ddr.stripes stripe acc }).deviceWrite ch stripe v
  if lost then s.markUnit (parityChannel s.dramN stripe) stripe true else s

/-- The unit of an assembly, completed with its old bytes: a merge read (R341). Old bytes that cannot be read are free values (log 32). -/
def State.completeUnit (s : State) (x : Assembly) (ch stripe : Nat) : Bytes × State :=
  if x.mask = 2 ^ 64 - 1 then (x.data, s)
  else if s.localReadable ch stripe then (mergeMask x.mask (s.localUnitBytes ch stripe) x.data, (s.engineRead ch stripe).inc64 0x5801 3 1)
  else
    let d := s.draw 512
    (mergeMask x.mask (beBytes 64 d.1) x.data, (d.2.engineRead ch stripe).inc64 0x5801 3 1)

/-- An assembly closes: completed if need be, written, and entered in its stripe's accumulator, which closes when it is whole or asked to; the parity
of an OFFLINE channel is held (R341, R351). -/
def State.closeAssembly (s : State) (x : Assembly) (close : Bool) : State :=
  let s := s.setDdr { s.ddr with assemblies := s.ddr.assemblies.erase x }
  match s.mapAddr (64 * x.unit) with
  | none => s
  | some (ch, stripe) =>
    let r := s.completeUnit x ch stripe
    let s := r.2.enterStripe ch stripe (x.unit % (s.dramN - 1)) r.1
    if (close || popCount (s.dramN - 1) (s.stripeAcc stripe).closed = s.dramN - 1) && s.writable (parityChannel s.dramN stripe) then s.closeStripe stripe else s

/-- The channel of an assembly's unit. -/
def State.assemblyChannel (s : State) (x : Assembly) : Nat := match s.mapAddr (64 * x.unit) with | some (ch, _) => ch | none => 0

/-- An assembly is whole, or has outlived its lifetime (R341). -/
def State.closeDue (s : State) (x : Assembly) : Bool := x.mask = 2 ^ 64 - 1 || decide (500 * s.reg 0x5800 0x0B < s.time.tclk - x.opened)

/-- The assembly that closes next (R341): one that is whole, else the oldest if it has outlived its lifetime or the engine needs its space.
One for an OFFLINE channel is held (R351). -/
def State.nextClose (s : State) : Option Assembly :=
  let ready := s.ddr.assemblies.filter (fun x => s.writable (s.assemblyChannel x))
  match ready.find? (fun x => x.mask = 2 ^ 64 - 1) with
  | some x => some x
  | none =>
    match ready with
    | x :: _ => if s.closeDue x || s.ddr.full || !s.ddr.writers.isEmpty then some x else none
    | [] => none

/-- The engine makes room: it closes the oldest assembly that it may write, with its stripe (R341). -/
def State.makeRoom (s : State) : State :=
  if s.ddr.full then
    match s.ddr.assemblies.find? (fun x => s.writable (s.assemblyChannel x)) with
    | some x => s.closeAssembly x true
    | none => s
  else s

/-- The engine can take a write of a unit: it has an assembly for it, or space for one. -/
def State.engineTakes (s : State) (u : Nat) : Bool := (s.assembly u).isSome || !s.ddr.full

/-- The engine accepts a write (R341, R342). -/
def State.engineAccept (s : State) (u off : Nat) (bs : Bytes) : State :=
  let s := s.setDdr { s.ddr with assemblies := mergeUnit s.time.tclk u off bs s.ddr.assemblies }
  s.setReg 0x5801 7 (max (s.reg 0x5801 7) s.ddr.occupancy)

/-- Writes that have waited enter the engine in their order, as far as its space goes. -/
def State.admitWriters (s : State) : State :=
  s.each s.ddr.writers (fun w s =>
    if s.ddr.writers.head? = some w && s.engineTakes w.unit then
      (s.setDdr { s.ddr with writers := s.ddr.writers.tail }).engineAccept w.unit w.off w.data
    else s)

/-- A write of a protected unit reaches the engine; without space it waits (R341). -/
def State.engineWrite (s : State) (u off : Nat) (bs : Bytes) (cls : Nat) : State :=
  let s := if (s.assembly u).isSome then s else s.makeRoom
  if s.ddr.writers.isEmpty && s.engineTakes u then s.engineAccept u off bs
  else s.setDdr { s.ddr with writers := s.ddr.writers ++ [⟨u, off, bs, cls⟩] }

/-! ## Class U (R24, R348) -/

/-- Units that class U may move on a channel in 1 µs (R348). -/
def meterLimit (speed : Nat) : Nat := match speed with | 0 => 37 | 1 => 50 | _ => 62

/-- The class U meter of a channel counts a unit (R24, R348). -/
def State.meterU (s : State) (ch cls : Nat) : State :=
  if cls ≠ 3 then s
  else
    let w := s.time.tclk / 500
    let x := s.chan ch
    let n := if x.meterWindow = w then x.meterUnits + 1 else 1
    let s := s.modChan ch (fun x => { x with meterWindow := w, meterUnits := n })
    if n = meterLimit (s.reg 0x5800 2) + 1 then s.inc32 (0x5810 + ch) 0x0B 1 else s

/-! ## Unprotected units and the queue of a controller (R339, R346, R351) -/

/-- A write of bytes of an unprotected unit; the controller merges one that is not whole, and an uncorrectable unit stays so unless it is whole. -/
def State.plainWrite (s : State) (ch u off : Nat) (bs : Bytes) : State :=
  if bs.length = 64 then s.deviceWrite ch u bs
  else
    let bad := s.unitBad ch u
    let v := overlay (s.devUnit ch u) off bs
    ((s.deviceRead ch u).deviceWrite ch u v).whenB bad (fun s => s.markUnit ch u true)

/-- DRAM transaction tags (R39). -/
abbrev dramTags : Nat := 4096

/-- A pool of R39 is found full: POOL_FULL (R500). -/
def State.poolFull (s : State) (i : Nat) : State := s.countE (0xE00 + i) 0

/-- A request waits at its controller (R346, R351); the tags it is drawn from may all be in use (R39). -/
def State.enqueue (s : State) (r : DramReq) : State :=
  let s := if dramTags ≤ s.ddr.queue.length then s.poolFull 0 else s
  s.setDdr { s.ddr with queue := s.ddr.queue ++ [r] }

/-- A write of an unprotected unit: it waits while its channel is OFFLINE, and fails while it is LOST (R351). -/
def State.unprotWrite (s : State) (ch u off : Nat) (bs : Bytes) (cls : Nat) : State :=
  match s.chanState ch with
  | 1 => s.enqueue ⟨ch, u, some (off, bs), cls, s.time.tclk⟩
  | 2 => s
  | _ => s.plainWrite ch u off bs

/-! ## Writes (R20, R342) -/

/-- The units of a write: unit, offset in it, and bytes. -/
def chunks (a : Nat) (bs : Bytes) : List (Nat × Nat × Bytes) :=
  (unitsOf a bs.length).map (fun u =>
    let lo := max a (64 * u)
    (u, lo - 64 * u, slice bs (lo - a) (64 * u + 64 - lo)))

/-- Bytes of one unit are written with the class of their request. -/
def State.storeUnit (s : State) (cls u off : Nat) (bs : Bytes) : State :=
  match s.mapAddr (64 * u) with
  | none => s
  | some (ch, l) =>
    let s := s.meterU ch cls
    if 64 * u < s.protSize then s.engineWrite u off bs cls else s.unprotWrite ch l off bs cls

/-- A write reaches the parity engine, or for an unprotected address the controller, with its class (R20, R341, R342): every later read returns it. -/
def State.store (s : State) (cls a : Nat) (bs : Bytes) : State := s.each (chunks a bs) (fun c s => s.storeUnit cls c.1 c.2.1 c.2.2)

/-! ## Delays of a channel, and its return and loss (R351 to R354) -/

/-- The live delay block of a channel (5840h+ch.01). -/
def State.liveBlock (s : State) (ch : Nat) : Bytes :=
  let d := s.dom (0x5840 + ch) 1
  if !d.isEmpty then d
  else match lookup s.nv.delays (24 * s.reg 0x5800 2 + ch) with
    | some b => b
    | none => emptyBlock (s.reg 0x5800 2) (s.reg 0x5800 1)

/-- The shadow delay block of a channel (5840h+ch.02). -/
def State.shadowBlock (s : State) (ch : Nat) : Bytes := let d := s.dom (0x5840 + ch) 2; if d.isEmpty then s.liveBlock ch else d

/-- New live delays of a channel, with their verify margin (R355). -/
def State.takeDelays (s : State) (ch : Nat) (b : Bytes) : State := (s.setDom (0x5840 + ch) 1 b).setReg (0x5840 + ch) 4 (field b 6 2)

/-- The writes that the engine has held for a channel, and the parities, are written (R351): assemblies that are due and stripes that are whole. -/
def State.releaseHeld (s : State) (ch : Nat) : State :=
  let s := s.each (s.ddr.assemblies.filter (fun x => s.assemblyChannel x = ch && s.closeDue x)) (fun x s => s.closeAssembly x false)
  s.each (s.ddr.stripes.filter (fun p => parityChannel s.dramN p.1 = ch && popCount (s.dramN - 1) p.2.closed = s.dramN - 1)) (fun p s => s.closeStripe p.1)

/-- DCLK ticks of a channel in 1 µs, by speed (R32, R359). -/
def dclkMhz (speed : Nat) : Nat := match speed with | 0 => 600 | 1 => 800 | _ => 1000

/-- The request that a controller serves next (R346): of the highest class, the oldest if it has waited beyond the starvation limit, else the oldest
that hits an open row, else the oldest; never one ahead of an older one to the same unit. -/
def State.nextReq (s : State) (ch : Nat) : Option DramReq :=
  let reqs := (s.ddr.queue.filter (fun r => r.ch = ch)).take 256
  let top := reqs.filter (fun r => r.cls = reqs.foldl (fun a r => max a r.cls) 0)
  let hits := fun (r : DramReq) => let c := s.coord r.unit; lookup (s.chan ch).rows c.bankId = some c.row
  match top with
  | [] => none
  | o :: _ =>
    let starved := decide (s.reg 0x5800 0x0A * 500 < (s.time.tclk - o.tick) * dclkMhz (s.reg 0x5800 2))
    let pick := if starved then o else (top.find? hits).getD o
    reqs.find? (fun r => r.unit = pick.unit)

/-- A unit of a channel read uncorrectable is counted (R352). -/
def State.countUncorrectable (s : State) (ch u : Nat) : State :=
  let s := (s.inc32 (0x5810 + ch) 3 1).setReg (0x5810 + ch) 4 (64 * u)
  s.modChan ch (fun x => { x with errors := (x.errors.filter (fun t => decide (s.time.tclk - t < 500000))) ++ [s.time.tclk] })

/-- Uncorrectable units of the last millisecond have reached the threshold of a channel (R352). -/
def State.tooManyErrors (s : State) (ch : Nat) : Bool := s.chanState ch ≠ 2 && decide (s.reg 0x5800 0x0D ≤ (s.chan ch).errors.length)

/-- A unit of a channel is read, with what ECC found: 0 no error, 1 corrected, 2 uncorrectable (R336, R344). A rebuilt unit is written back. -/
def State.readUnitOnly (s : State) (ch u err : Nat) : State :=
  let prot := decide (u < s.protUnits)
  if s.unitDirect ch u then
    if err < 2 && !s.unitBad ch u then
      let s := s.deviceRead ch u
      if err = 1 then (s.inc64 (0x5810 + ch) 2 1).setReg (0x5810 + ch) 4 (64 * u) else s
    else
      let ok := prot && s.rebuildable ch u
      let v := s.xorOthers ch u
      let s := (s.deviceRead ch u).markUnit ch u true
      let s := if prot then s.faultStart 5 ch 0 (64 * u) else s
      let s := if ok then ((s.rebuildRead ch u).deviceWrite ch u v).faultDone 5 5 ch 0 (64 * u)
               else if prot then (s.readFails ch u).faultDone 5 8 ch 0 (64 * u) else s.readFails ch u
      s.countUncorrectable ch u
  else if prot && s.rebuildable ch u then s.rebuildRead ch u
  else s.readFails ch u

/-- A waiting request of a controller is served (R346). -/
def State.serveReq (s : State) (r : DramReq) : State :=
  let s := s.setDdr { s.ddr with queue := s.ddr.queue.erase r }
  match r.write with
  | some (off, bs) => s.plainWrite r.ch r.unit off bs
  | none => s.readUnitOnly r.ch r.unit 0

/-- The queue of a controller is served, in the order of R346; `fuel` bounds its length. -/
def State.serveQueue (s : State) (ch : Nat) : Nat → State
  | 0 => s
  | fuel + 1 => match s.nextReq ch with | some r => (s.serveReq r).serveQueue ch fuel | none => s

/-- An OFFLINE channel returns ONLINE (R351): held writes are written, waiting requests served. A channel in a frequency change takes its shadow
delays on the way (R360). -/
def State.backOnline (s : State) (ch : Nat) : State :=
  let s := s.setReg (0x5810 + ch) 1 0
  let s := if s.ddr.freqNext = some ch then
      let s := s.takeDelays ch (s.shadowBlock ch)
      s.setDdr { s.ddr with freqNext := some (ch + 1) }
    else s
  ((s.releaseHeld ch).admitWriters).serveQueue ch s.ddr.queue.length

/-- A channel goes OFFLINE: its banks are precharged (R351, R360). -/
def State.goOffline (s : State) (ch : Nat) : State := (s.closeRows ch (fun _ => true)).setReg (0x5810 + ch) 1 1

/-- The requests that wait at a channel fail (R351): reads count. -/
def State.failQueue (s : State) (ch : Nat) : State :=
  let mine := s.ddr.queue.filter (fun r => r.ch = ch)
  let s := s.setDdr { s.ddr with queue := s.ddr.queue.filter (fun r => r.ch ≠ ch) }
  s.each (mine.filter (fun r => r.write.isNone)) (fun r s => s.readFails ch r.unit)

/-- A channel becomes LOST (R352, R354): another one that is OFFLINE first returns, and its held writes are written. -/
def State.channelLost (s : State) (ch cause : Nat) : State :=
  if s.chanState ch = 2 then s
  else
    let s := s.each ((s.channelsIn 1).filter (fun c => c ≠ ch)) (fun c s => s.backOnline c)
    let s := if s.ddr.freqNext.isSome then (s.setDdr { s.ddr with freqNext := none }).setReg 0x5800 0x10 3 else s
    let s := if s.reg (0x5840 + ch) 6 = 1 then s.setReg (0x5840 + ch) 6 3 else s
    let s := ((s.faultStart 6 ch cause s.sc).setReg (0x5810 + ch) 1 2).setReg (0x5810 + ch) 0x10 cause
    let s := (s.setReg (0x5810 + ch) 0x0F 0).modChan ch (fun x => { x with rows := [], owed := [], errors := [], applyRanks := [], progress := 0, credit := 0 })
    let s := (s.failQueue ch).releaseHeld ch
    (s.admitWriters.fire 0x340 ch).faultDone 6 6 ch cause s.sc

/-- A unit of a channel is read; too many uncorrectable ones lose the channel (R344, R352). -/
def State.readUnit (s : State) (ch u err : Nat) : State :=
  let s := s.readUnitOnly ch u err
  if s.tooManyErrors ch then s.channelLost ch 1 else s

/-! ## Reads (R20, R342, R344) -/

/-- A read of `n` bytes from `a` needs the DRAM for its part of unit `u`: the engine does not hold it all (R342). -/
def State.needsDram (s : State) (a n u : Nat) : Bool :=
  match s.assembly u with
  | some x =>
    let lo := max a (64 * u)
    let m := maskOf (lo - 64 * u) (min (a + n) (64 * u + 64) - lo)
    x.mask &&& m ≠ m
  | none => true

/-- What a read of a logical range by a request of a class does: the units that the engine does not hold are read, metered for class U; an
unprotected one of an OFFLINE channel is read once that returns (R342, R344, R348, R351). -/
def State.readRange (s : State) (cls a n : Nat) : State :=
  s.each ((unitsOf a n).filter (s.needsDram a n)) (fun u s =>
    match s.mapAddr (64 * u) with
    | some (ch, l) =>
      if s.chanState ch = 1 && decide (s.protUnits ≤ l) then (s.meterU ch cls).enqueue ⟨ch, l, none, cls, s.time.tclk⟩ else (s.meterU ch cls).readUnit ch l 0
    | none => s)

end Sys2Proof.Machine
end

