-- ==== Sys2Proof/Machine/Sheaf.lean ====
section
/-! DEFINITION. Sheaf links: frames, items, control words, lanes, groups, spare-lane failover and PRBS (chapter 2). -/

namespace Sys2Proof.Machine

/-! ## Hidden state of lanes, groups and streams -/

/-- A receive lane begins again, its elastic buffer centred. -/
def RxLane.again (x : RxLane) : RxLane := { RxLane.reset with prbs := x.prbs, stopped := x.stopped }

/-- Receive lane `n`. -/
def State.rxLane (s : State) (n : Nat) : RxLane := (lookup s.sheaf.rx n).getD RxLane.reset
/-- Replace receive lane `n`. -/
def State.setRx (s : State) (n : Nat) (x : RxLane) : State := { s with sheaf := { s.sheaf with rx := insertKey s.sheaf.rx n x } }
/-- Map receive lane `n`. -/
def State.modRx (s : State) (n : Nat) (f : RxLane → RxLane) : State := s.setRx n (f (s.rxLane n))
/-- Transmit lane `n`. -/
def State.txLane (s : State) (n : Nat) : TxLane := (lookup s.sheaf.tx n).getD TxLane.reset
/-- Replace transmit lane `n`. -/
def State.setTx (s : State) (n : Nat) (x : TxLane) : State := { s with sheaf := { s.sheaf with tx := insertKey s.sheaf.tx n x } }
/-- The group whose entries are at index `idx`. -/
def State.group (s : State) (idx : Nat) : LinkGroup := (lookup s.sheaf.groups idx).getD LinkGroup.reset
/-- Replace a group. -/
def State.setGroup (s : State) (idx : Nat) (x : LinkGroup) : State :=
  { s with sheaf := { s.sheaf with groups := insertKey s.sheaf.groups idx x } }
/-- Output stream `k`. -/
def State.stream (s : State) (k : Nat) : OutStream := (lookup s.sheaf.streams k).getD OutStream.reset
/-- Replace output stream `k`, showing its credit (R79). -/
def State.setStream (s : State) (k : Nat) (x : OutStream) : State :=
  ({ s with sheaf := { s.sheaf with streams := insertKey s.sheaf.streams k x } }).setReg (0x2700 + k) 4 ((x.limit + 2 ^ 32 - x.sent) % 2 ^ 32)

/-! ## Groups (R62) -/

/-- First lane of a group. -/
def State.firstLane (s : State) (idx : Nat) : Nat := s.reg idx 3
/-- Active lanes of a group. -/
def State.activeLanes (s : State) (idx : Nat) : Nat := s.reg idx 4
/-- Lanes of a group, its spare included. -/
def State.laneCount (s : State) (idx : Nat) : Nat := s.reg idx 4 + ofBool (s.flag idx 5)
/-- The lanes of a group by device number. -/
def State.lanesOf (s : State) (idx : Nat) : List Nat := (List.range (s.laneCount idx)).map (fun i => s.firstLane idx + i)
/-- A lane belongs to a group. -/
def State.inGroup (s : State) (idx lane : Nat) : Bool :=
  decide (s.firstLane idx ≤ lane) && decide (lane < s.firstLane idx + s.laneCount idx)

/-- Groups of one direction whose status is not OFF: receive groups from 2440h, transmit groups from 2460h. -/
def State.liveGroups (s : State) (tx : Bool) : List Nat :=
  let lo := if tx then 0x2460 else 0x2440
  let hi := if tx then 0x246F else 0x245F
  s.idxWith lo hi 2 stEnabling ++ s.idxWith lo hi 2 stOn ++ s.idxWith lo hi 2 stDisabling ++ s.idxWith lo hi 2 stPending

/-- The group of one direction that a lane belongs to, if it is not OFF. -/
def State.groupOf (s : State) (tx : Bool) (lane : Nat) : Option Nat := (s.liveGroups tx).find? (fun g => s.inGroup g lane)

/-- A group is enabled: ENABLING or ON. -/
def State.groupUp (s : State) (idx : Nat) : Bool := s.reg idx 2 = stOn || s.reg idx 2 = stEnabling

/-- Lane state codes of R61. -/
abbrev lnOff : Nat := 0
abbrev lnAcquire : Nat := 1
abbrev lnSearch : Nat := 2
abbrev lnLocked : Nat := 3
abbrev lnFailed : Nat := 4
abbrev lnPrbs : Nat := 5

/-- The state of a receive lane. -/
def State.rxState (s : State) (n : Nat) : Nat := s.reg (0x2500 + n) 1

/-- The master of a quad: its lowest lane in LOCKED (R42). -/
def State.masterOf (s : State) (q : Nat) : Nat :=
  match (List.range 4).find? (fun i => s.rxState (4 * q + i) = lnLocked) with | some i => 4 * q + i | none => 0xFF

/-- A receive lane changes state: the quad's master and a candidate that names the lane follow (R42, R404). -/
def State.setLaneState (s : State) (n st : Nat) : State :=
  let s := s.setReg (0x2500 + n) 1 st
  let m := s.masterOf (n / 4)
  let s := if s.reg (0x2410 + n / 4) 2 = m then s else s.setReg (0x2410 + n / 4) 2 m
  s.each [2, 3] (fun i s => if s.reg (0x6010 + i) 4 = n then (if st = lnLocked then s.signalReturn i else s.signalLoss i) else s)

/-- A lane of a group carries items: a receive lane that is LOCKED, a transmit lane that is not FAILED. -/
def State.carries (s : State) (tx : Bool) (lane : Nat) : Bool :=
  if tx then s.reg (0x2600 + lane) 1 ≠ lnFailed else s.rxState lane = lnLocked

/-- The lanes of a group's map that carry items, by device number. -/
def State.carrying (s : State) (idx : Nat) : List Nat :=
  ((setBitsOf 17 (s.reg idx 8)).map (fun i => s.firstLane idx + i)).filter (s.carries (decide (0x2460 ≤ idx)))

/-- The link state of a group: UP when as many lanes carry items as it has active lanes, else DEGRADED (R65, R69). -/
def State.showLink (s : State) (idx : Nat) : State :=
  s.setReg idx 7 (if (s.carrying idx).length = s.activeLanes idx then 2 else 3)

/-- The quad's line rate entry is equal over the quads of a group's lanes, all of them present (R62). -/
def State.ratesAgree (s : State) (tx : Bool) (idx : Nat) : Bool :=
  let base := if tx then 0x2430 else 0x2410
  let quads := if tx then s.board.txQuads else s.board.rxQuads
  (s.lanesOf idx).all (fun n => decide (n / 4 < quads) && s.reg (base + n / 4) 1 = s.reg (base + s.firstLane idx / 4) 1)

/-- The refusal of a group enable, or 0 (R62). The return lane belongs to a group that is ENABLING or ON; the group's own lanes may lie in no group
that is not OFF, since a group in DISABLING still sends and receives on its lanes (DESIGN CHOICE, log 51). -/
def groupEnableCheck (s : State) (idx : Nat) : Nat :=
  let tx := decide (0x2460 ≤ idx)
  let others := (s.liveGroups tx).filter (fun g => g ≠ idx)
  let disjoint := (s.lanesOf idx).all (fun n => !others.any (fun g => s.inGroup g n))
  let ret := s.reg idx 6
  let retOk := ret ≠ 0xFF && (s.liveGroups (!tx)).any (fun g => s.groupUp g && s.inGroup g ret)
  if s.ratesAgree tx idx && disjoint && (!s.flag idx 5 || retOk) then 0 else dRule

/-! ## Control words and items out (R56 to R60, R66) -/

/-- Fields of a header, with its HCRC (R49, R51). -/
def mkHeader (type cls len stream chan seq : Nat) : Nat :=
  let v := ((((type * 4 + cls) * 2048 + len) * 4096 + stream) * 4096 + chan) * 32768 + seq
  v * 256 + crc8 56 v 0

/-- A whole item with its trailer (R50, R52). -/
def mkItem (type cls stream chan seq : Nat) (words : List Nat) : Item :=
  let h := mkHeader type cls words.length stream chan seq
  ⟨h, words, crcWords (h :: words)⟩

/-- The bytes of an item in transmission order; an IDLE or bare header has no trailer. -/
def itemBytesOf (i : Item) : Bytes :=
  beBytes 8 i.header ++ i.payload.flatMap (beBytes 8) ++ (if i.payload.isEmpty then [] else beBytes 4 i.trailer)

/-- The bits of an item as a number, the first bit sent highest. -/
def itemNat (i : Item) : Nat :=
  if i.payload.isEmpty then i.header else i.payload.foldl (fun a w => a * 2 ^ 64 + w) i.header * 2 ^ 32 + i.trailer

/-- The number of bits of an item (R50). -/
def itemLen (i : Item) : Nat := if i.payload.isEmpty then 64 else 96 + 64 * i.payload.length

/-- The IDLE item (R50). -/
def idleItem : Item := mkItem 0 0 0 0 0 []

/-- The control item of a control word (R56). -/
def ctrlItem (w : Nat) : Item := mkItem 4 3 0 0 0 [w]

/-! ## Frames out (R44 to R48) -/

/-- The Sheaf sync word (R45). -/
def syncWord : Nat := 0x8F3AD25C71E4B609

/-- The next scrambler output bit (R46). -/
def prbsBit (st : Nat) : Bool := bitAt st 30 != bitAt st 27

/-- The scrambler state after one bit. -/
def prbsNext (st : Nat) : Nat := (st * 2 + ofBool (prbsBit st)) % 2 ^ 31

/-- A frame body being sent (R46, R47): the run of identical line bits and its bit, the scrambler, the data bits left, and the line bits so far. -/
structure BodyTx where
  run : Nat
  prev : Bool
  scr : Nat
  left : Nat
  line : Nat
  deriving DecidableEq, Repr

/-- The next line bit of a body: after a run of 48 the stuff bit, else the next data bit scrambled (R46, R47). -/
def BodyTx.step (data : Nat) (c : BodyTx) : BodyTx :=
  if c.run = 48 then { c with run := 1, prev := !c.prev, line := 2 * c.line + ofBool (!c.prev) }
  else
    let b := bitAt data (c.left - 1) != prbsBit c.scr
    ⟨if c.run ≠ 0 && b = c.prev then c.run + 1 else 1, b, prbsNext c.scr, c.left - 1, 2 * c.line + ofBool b⟩

/-- `n` line bits of a body. -/
def BodyTx.steps (data : Nat) : Nat → BodyTx → BodyTx
  | 0, c => c
  | n + 1, c => BodyTx.steps data n (c.step data)

/-- The pointer of the frame that begins with the item bits waiting on a lane (R48). -/
def TxLane.pointer (x : TxLane) : Nat := match x.heads with | h :: _ => if h < 7936 then h else 0xFFFF | [] => 0xFFFF

/-- The next frame of a lane (R44 to R48) and the lane after it. -/
def TxLane.frame (x : TxLane) : Nat × TxLane :=
  let c := BodyTx.steps (x.pointer * 2 ^ x.len + x.data) 8128 ⟨0, false, 0x7FFFFFFF, x.len + 16, 0⟩
  let sent := x.len - c.left
  (syncWord * 2 ^ 8128 + c.line,
    { x with data := x.data % 2 ^ c.left, len := c.left, heads := (x.heads.filter (fun h => decide (sent ≤ h))).map (fun h => h - sent),
             frames := x.frames + 1 })

/-- The frames that the waiting item bits of a lane fill: a frame leaves once it cannot run short, with `fuel` frames at most (R47, log 52). -/
def TxLane.fill : Nat → TxLane → List Nat × TxLane
  | 0, x => ([], x)
  | fuel + 1, x =>
    if x.len < 8112 then ([], x)
    else
      let r := x.frame
      let d := TxLane.fill fuel r.2
      (r.1 :: d.1, d.2)

/-- An item joins the bits waiting on a lane. -/
def TxLane.append (x : TxLane) (i : Item) : TxLane :=
  { x with data := x.data * 2 ^ itemLen i + itemNat i, len := x.len + itemLen i, heads := x.heads ++ [x.len] }

/-- Replace transmit lane `n` and send the frames that its bits fill. -/
def State.sendFrames (s : State) (n : Nat) (x : TxLane) : State :=
  let r := x.fill (x.len / 7943 + 1)
  (s.setTx n r.2).each r.1 (fun f s => s.emit (.frame n f))

/-- An item starts on a lane: its bits join the lane's stream (R44). -/
def State.sendItem (s : State) (lane : Nat) (i : Item) : State := s.sendFrames lane ((s.txLane lane).append i)

/-- A lane whose next `real` bits belong to items goes on with IDLE items up to the next sync word, with `fuel` frames at most (R65). -/
def TxLane.drain : Nat → Nat → TxLane → List Nat × TxLane
  | 0, _, x => ([], { x with data := 0, len := 0, heads := [] })
  | fuel + 1, real, x =>
    if real = 0 then ([], { x with data := 0, len := 0, heads := [] })
    else
      let x := (List.replicate ((8175 - x.len) / 64) idleItem).foldl TxLane.append x
      let r := x.frame
      let d := TxLane.drain fuel (real - (x.len - r.2.len)) r.2
      (r.1 :: d.1, d.2)

/-- The item in progress on a lane is finished, and IDLE items follow up to the next sync word (R65). -/
def State.drainLane (s : State) (lane : Nat) : State :=
  let x := s.txLane lane
  let r := x.drain 2 x.len
  (s.setTx lane r.2).each r.1 (fun f s => s.emit (.frame lane f))

/-- A control word's payload (R56). -/
def ctrlWord (code value : Nat) : Nat := code * 2 ^ 56 + value % 2 ^ 56

/-- A transmit lane may carry control words: it belongs to an enabled group and is not FAILED (R60). -/
def State.controlOk (s : State) (lane : Nat) : Bool :=
  s.reg (0x2600 + lane) 1 ≠ lnFailed && (match s.groupOf true lane with | some g => s.groupUp g | none => false)

/-- Queue a control word on a lane; one that may not be sent is dropped (R60). -/
def State.queueControl (s : State) (lane word : Nat) : State :=
  if s.controlOk lane then s.setTx lane { s.txLane lane with control := (s.txLane lane).control ++ [word] } else s

/-- A LANE_MAP or LANE_ACK word: the Karosh's own first lane in the first-lane field (R56, R576). -/
def mapWord (code gen first map : Nat) : Nat := ctrlWord code (gen % 256 * 2 ^ 48 + first * 2 ^ 32 + map % 2 ^ 17)

/-- The lowest lane of a map, by device number; for a map with no lane, which R70 does not provide for, the group's first lane (DESIGN CHOICE, log 51). -/
def State.lowestLane (s : State) (idx map : Nat) : Nat := s.firstLane idx + ((setBitsOf 17 map).headD 0)

/-- The CAM_SET words of a list of control words are lost and counted (R60, R228). -/
def State.camSetsLost (s : State) (ws : List Nat) : State :=
  let n := (ws.filter (fun w => bits w 63 56 = 2)).length
  if n = 0 then s else s.inc32 0x4001 0x0B n

/-- A lane that may send no control words any more drops those it has queued (R60). -/
def State.dropControl (s : State) (lane : Nat) : State :=
  (s.setTx lane { s.txLane lane with control := [] }).camSetsLost (s.txLane lane).control

/-- The credit test of R59. -/
def creditOk (x : OutStream) (len : Nat) : Bool :=
  let d := (x.sent + len + 2 ^ 32 - x.limit) % 2 ^ 32
  d = 0 || decide (2 ^ 31 ≤ d)

/-- A packet of `len` words has the credit that its stream needs (R59). -/
def State.credited (s : State) (k len : Nat) : Bool := !s.flag (0x2700 + k) 3 || creditOk (s.stream k) len

/-- A group consists of lanes reserved for class U only (R66). -/
def State.reserved (s : State) (g : Nat) : Bool := (s.lanesOf g).all (bitAt (s.reg 0x2400 2))

/-- A stream's first ready packet may start on a lane (R59, R66, R67). -/
def State.mayStart (s : State) (g lane k : Nat) : Bool :=
  match (s.stream k).ready with
  | [] => false
  | p :: _ =>
    let cls := s.reg (0x2700 + k) 2
    0x2460 + s.reg (0x2700 + k) 1 = g
    && s.credited k p.words.length
    && (cls ≠ 3 || s.reserved g)
    && (cls = 3 || !bitAt (s.reg 0x2400 2) lane || decide (p.words.length ≤ 128))

/-- The stream that R21 grants on a lane: the highest class, then the lane's pointer of that class. -/
def State.chooseStream (s : State) (g lane : Nat) : Option Nat :=
  let ks := (s.sheaf.streams.map (fun p => p.1)).filter (fun k => s.mayStart g lane k)
  match ks with
  | [] => none
  | k0 :: _ =>
    let cls := ks.foldl (fun a k => max a (s.reg (0x2700 + k) 2)) (s.reg (0x2700 + k0) 2)
    some (rotate256 (nthD 0 (s.txLane lane).ptr cls) (ks.filter (fun k => s.reg (0x2700 + k) 2 = cls)))

/-- A packet of a stream has left: a fragment of a staged record counts, and its last one counts the record and frees its staging slot (R169, R210). -/
def State.fragmentSent (s : State) (k : Nat) (p : OutPacket) : State :=
  match (s.stream k).slot with
  | none => s
  | some (slot, left) =>
    let s := s.inc64 0x3600 3 1
    if 1 < left then s.setStream k { s.stream k with slot := some (slot, left - 1) }
    else
      let w := nthD 0 p.words 1
      let len := bits w 52 40 + bits w 39 30
      let s := (s.setStream k { s.stream k with slot := none }).inc64 0x3600 2 1
      let s := { s with xarray := { s.xarray with staged := s.xarray.staged.filter (fun e => e.slot ≠ slot) } }
      (s.whenB (bitAt w 53) (fun s => s.inc64 0x3600 4 1)).whenB (len = 2056 || len = 1048) (fun s => s.inc64 0x3600 5 1)

/-- The first ready packet of a stream leaves on a lane (R60, R66). -/
def State.sendPacket (s : State) (lane k : Nat) : State :=
  match (s.stream k).ready with
  | [] => s
  | p :: rest =>
    let x := s.stream k
    let cls := s.reg (0x2700 + k) 2
    let seq := s.reg (0x2700 + k) 5
    let i := mkItem 3 cls k p.channel seq p.words
    let s := s.setStream k { x with sent := (x.sent + p.words.length) % 2 ^ 32, ready := rest }
    let s := s.setReg (0x2700 + k) 5 ((seq + 1) % 2 ^ 15)
    let s := s.setTx lane { s.txLane lane with ptr := modNth (fun _ => (k + 1) % 256) (s.txLane lane).ptr cls }
    (((s.emit (.item lane (itemBytesOf i))).sendItem lane i).fragmentSent k p)

/-- A queued control word leaves on a lane (R56, R60). -/
def State.sendControl (s : State) (lane w : Nat) : State := (s.emit (.item lane (itemBytesOf (ctrlItem w)))).sendItem lane (ctrlItem w)

/-- One item starts on a lane (R60, R66): a queued control word, else a packet, else IDLE, which is not counted. -/
def State.itemTx (s : State) (lane : Nat) : State :=
  match s.groupOf true lane with
  | none => s
  | some g =>
    if !s.groupUp g || s.reg (0x2600 + lane) 1 = lnFailed then s
    else match (s.txLane lane).control with
      | w :: rest =>
        let s := s.setTx lane { s.txLane lane with control := rest }
        ((s.sendControl lane w).inc64 (0x2600 + lane) 2 1).countE (0xD80 + lane) 0
      | [] =>
        if s.reg g 2 = stOn && bitAt (s.reg g 8) (lane - s.firstLane g) then
          match s.chooseStream g lane with
          | some k => ((s.sendPacket lane k).inc64 (0x2600 + lane) 2 1).countE (0xD80 + lane) 0
          | none => s.sendItem lane idleItem
        else s.sendItem lane idleItem

/-- ITEM_TX (R60, R66). -/
def execItemTx (lane : Nat) (s : State) : Result := inst (decide (lane < 64)) (.next (s.itemTx lane))

/-- A producer makes a packet ready on a stream; a stream whose group entry is FFh discards it (R79). -/
def State.streamPut (s : State) (k : Nat) (p : OutPacket) : State :=
  if s.reg (0x2700 + k) 1 = 0xFF then s else s.setStream k { s.stream k with ready := (s.stream k).ready ++ [p] }

/-- QL words on every lane of every enabled group that is not FAILED (R57). -/
def execQlSend (s : State) : Result :=
  let w := ctrlWord 1 (s.reg 0x6000 8 * 2 ^ 52)
  .next (s.each ((s.liveGroups true).filter s.groupUp) (fun g s => s.each (s.lanesOf g) (fun n s => s.queueControl n w)))

/-! ## Failover (R67 to R72) -/

/-- The next map of a group after the waiting failures: failed lanes cleared; the spare set where it is present, unused and not FAILED. -/
def State.nextMap (s : State) (tx : Bool) (idx : Nat) (failed : List Nat) : Nat :=
  let st := fun n => if tx then s.reg (0x2600 + n) 1 else s.rxState n
  let cur := s.reg idx 8
  let base := failed.foldl (fun m n => clearBit m (n - s.firstLane idx)) cur
  let sp := s.activeLanes idx
  let used := failed.any (fun n => bitAt cur (n - s.firstLane idx))
  if used && s.flag idx 5 && !bitAt cur sp && st (s.firstLane idx + sp) ≠ lnFailed then setBit base sp else base

/-- Send a LANE_MAP for the failures of a receive group on its return lane (R69). -/
def State.sendRxMap (s : State) (idx : Nat) (failed : List Nat) : State :=
  let m := s.nextMap false idx failed
  let gen := (s.reg idx 9 + 1) % 256
  let s := s.setGroup idx { s.group idx with sent := some ⟨gen, m, 1, (s.group idx).round, failed⟩, waiting := [] }
  (s.inc32 idx 0x0A 1).queueControl (s.reg idx 6) (mapWord 4 gen (s.firstLane idx) m)

/-- The frame a transmit group is in: the most frames any of its lanes has sent. -/
def State.txRound (s : State) (g : Nat) : Nat := (s.lanesOf g).foldl (fun a n => max a (s.txLane n).frames) 0

/-- A transmit group takes the failed lanes out of its map, and sends the map on its lowest lane with a generation (R70). -/
def State.sendTxMap (s : State) (g gen : Nat) (failed : List Nat) : State :=
  let m := s.nextMap true g failed
  let s := ((s.setReg g 8 m).setReg g 9 gen).showLink g
  let s := s.setGroup g { s.group g with sent := some ⟨gen, m, 1, s.txRound g, failed⟩, waiting := [] }
  (s.queueControl (s.lowestLane g m) (mapWord 4 gen (s.firstLane g) m)).each failed (fun lane s => s.faultDone 4 4 lane 0 s.sc)

/-- The failover in progress ends; failures that waited go into the next map (R71). -/
def State.nextFailover (s : State) (idx : Nat) : State :=
  match (s.group idx).waiting with
  | [] => s.setGroup idx { s.group idx with sent := none }
  | ws => if 0x2460 ≤ idx then (s.inc32 idx 0x0A 1).sendTxMap idx ((s.reg idx 9 + 1) % 256) ws else s.sendRxMap idx ws

/-- The LANE_MAP a group has sent still waits in the queue of a lane. -/
def State.mapWaits (s : State) (idx lane : Nat) (x : MapSent) : Bool :=
  (s.txLane lane).control.contains (mapWord 4 x.gen (s.firstLane idx) x.map)

/-- A disable ends a failover in progress: its records complete with action REPORTED (R71, R522). -/
def State.endFailover (s : State) (idx : Nat) : State :=
  let x := s.group idx
  let lanes := (match x.sent with | some y => y.lanes | none => []) ++ x.waiting
  let s := s.setGroup idx { x with sent := none, waiting := [] }
  let cls := if 0x2460 ≤ idx then 4 else 3
  s.each (lanes.filter (fun n => s.avail.recoveries.any (fun r => r.cls = cls && r.inst = n))) (fun n s => s.faultDone cls 8 n 0 s.sc)

/-- A receive lane of an ON group fails (R68, R69, R71); failover starts when 2400h.03 is set. A failure that changes no map, or only clears
the lane in lane_use, is one record with action LOGGED; one in the frame of a LANE_MAP that has not left joins that map, and a later one goes into
the next map (log 49). -/
def State.rxLaneFail (s : State) (lane : Nat) : State :=
  match s.groupOf false lane with
  | none => s.setLaneState lane lnAcquire
  | some g =>
    if s.rxState lane = lnFailed || s.reg g 2 ≠ stOn then s.setLaneState lane lnFailed
    else
      let s := s.setLaneState lane lnFailed
      let i := lane - s.firstLane g
      let logged := s.faultRecord 3 0 lane 0 noInterruption s.sc
      if !bitAt (s.reg g 8) i && !(match (s.group g).sent with | some x => bitAt x.map i | none => false) then logged
      else if !s.flag 0x2400 3 then logged.setReg g 7 3
      else if s.reg g 6 = 0xFF then (logged.setReg g 8 (clearBit (s.reg g 8) i)).setReg g 7 3
      else
        let s := s.faultStart 3 lane 0 s.sc
        match (s.group g).sent with
        | none => s.sendRxMap g [lane]
        | some x =>
          if x.frame = (s.group g).round && s.mapWaits g (s.reg g 6) x then
            let y : MapSent := { x with map := s.nextMap false g (x.lanes ++ [lane]), lanes := x.lanes ++ [lane] }
            let word := fun (z : MapSent) => mapWord 4 z.gen (s.firstLane g) z.map
            let l := s.txLane (s.reg g 6)
            (s.setGroup g { s.group g with sent := some y }).setTx (s.reg g 6)
              { l with control := l.control.map (fun w => if w = word x then word y else w) }
          else s.setGroup g { s.group g with waiting := (s.group g).waiting ++ [lane] }

/-- RX_LANE_FAIL (R68): the criterion is met on a lane of an ON group. -/
def execRxLaneFail (lane : Nat) (s : State) : Result :=
  inst (decide (lane < 128)) <|
  match s.groupOf false lane with
  | some g => if s.reg g 2 = stOn && s.rxState lane ≠ lnFailed then .next (s.rxLaneFail lane) else .next s
  | none => .next s

/-- A skipped control word (R576). -/
def State.skipControl (s : State) : State := s.inc32 0x2401 2 1

/-- A matching LANE_ACK ends the failover of a group: a receive group's map is in force (R69, R70, R576). -/
def State.ackGroup (s : State) (tx : Bool) (g : Nat) (x : MapSent) : State :=
  if tx then s.nextFailover g
  else
    let s := ((s.setReg g 8 x.map).setReg g 9 x.gen).showLink g
    (s.each x.lanes (fun lane s => s.faultDone 3 4 lane 0 s.sc)).nextFailover g

/-- LANE_ACK on a lane: the receive group the lane belongs to, or the transmit group whose return lane it is (R576). -/
def State.laneAck (s : State) (lane gen map : Nat) : State :=
  let hit := fun g => match (s.group g).sent with | some x => x.gen = gen && x.map = map % 2 ^ 17 | none => false
  match (s.liveGroups false).find? (fun g => s.inGroup g lane && hit g) with
  | some g => (match (s.group g).sent with | some x => s.ackGroup false g x | none => s)
  | none =>
    match (s.liveGroups true).find? (fun g => s.reg g 6 = lane && hit g) with
    | some g => (match (s.group g).sent with | some x => s.ackGroup true g x | none => s)
    | none => s.skipControl

/-- LANE_ACK_RX (R576). -/
def execLaneAckRx (lane gen map : Nat) (s : State) : Result := inst (decide (lane < 128)) (.next (s.laneAck lane gen map))

/-- LANE_MAP_RETRY (R69): again, at most 3 times; after the fourth unanswered send the failover ends DEGRADED. -/
def execLaneMapRetry (g : Nat) (s : State) : Result :=
  inst (decide (g < 32)) <|
  let idx := 0x2440 + g
  match (s.group idx).sent with
  | none => .next s
  | some x =>
    if x.sends < 4 then
      .next ((s.setGroup idx { s.group idx with sent := some { x with sends := x.sends + 1 } }).queueControl (s.reg idx 6)
        (mapWord 4 x.gen (s.firstLane idx) x.map))
    else
      let s := ((s.setReg idx 8 x.map).setReg idx 9 x.gen).setReg idx 7 3
      .next ((s.each x.lanes (fun lane s => s.faultDone 3 8 lane 0 s.sc)).nextFailover idx)

/-- A LANE_MAP from a sink on the return lane of an enabled transmit group (R70, R71). Where several groups name the lane, which R576 does not provide
for, the first in group order takes the word (DESIGN CHOICE, log 51). -/
def State.laneMap (s : State) (lane gen map : Nat) : State :=
  match (s.liveGroups true).find? (fun g => s.groupUp g && s.reg g 6 = lane) with
  | none => s.skipControl
  | some g =>
    let m := map % 2 ^ 17
    let s := if s.reg g 9 = gen then s
      else
        let lost := s.firstLane g + ((setBitsOf 17 (s.reg g 8)).find? (fun i => !bitAt m i)).getD 0
        let s := s.faultStart 4 lost 0 s.sc
        let s := (((s.setReg g 8 m).setReg g 9 (gen % 256)).inc32 g 0x0A 1).showLink g
        s.faultDone 4 4 lost 0 s.sc
    s.queueControl (s.lowestLane g (s.reg g 8)) (mapWord 5 gen (s.firstLane g) m)

/-- LANE_MAP_RX (R70). -/
def execLaneMapRx (lane gen map : Nat) (s : State) : Result :=
  inst (decide (lane < 128)) (.next (s.laneMap lane gen map))

/-- The serialiser check fails a transmit lane (R68, R70, R71): the lane leaves the map, the spare joins, and the map is sent on its lowest lane.
The failure is complete once its map is applied. One in the frame of a LANE_MAP that has not left joins that map; a later one waits for the
LANE_ACK (log 49). -/
def State.txLaneFail (s : State) (lane : Nat) : State :=
  match s.groupOf true lane with
  | none => s
  | some g =>
    let unsent := match (s.group g).sent with | some x => x.frame = s.txRound g && (s.lanesOf g).any (fun n => s.mapWaits g n x) | none => false
    let dropOld := fun (s : State) => match (s.group g).sent with
      | some x => s.each (s.lanesOf g) (fun n s =>
          s.setTx n { s.txLane n with control := (s.txLane n).control.filter (fun w => !unsent || w ≠ mapWord 4 x.gen (s.firstLane g) x.map) })
      | none => s
    let s := dropOld ((s.setReg (0x2600 + lane) 1 lnFailed).dropControl lane)
    if !bitAt (s.reg g 8) (lane - s.firstLane g) then s.faultRecord 4 0 lane 0 noInterruption s.sc
    else
      let s := s.faultStart 4 lane 0 s.sc
      match (s.group g).sent with
      | none => (s.inc32 g 0x0A 1).sendTxMap g ((s.reg g 9 + 1) % 256) [lane]
      | some _ => if unsent then s.sendTxMap g (s.reg g 9) [lane]
                  else s.setGroup g { s.group g with waiting := (s.group g).waiting ++ [lane] }

/-- TX_LANE_FAIL (R68, R70). A lane that fails while its group is ENABLING fails for the group when the group reaches ON, as R63 has it for receive
lanes (DEDUCED, log 51). -/
def execTxLaneFail (lane : Nat) (s : State) : Result :=
  inst (decide (lane < 64)) <|
  match s.groupOf true lane with
  | some g =>
    if s.reg (0x2600 + lane) 1 ≠ 1 then .next s
    else if s.reg g 2 = stOn then .next (s.txLaneFail lane)
    else .next ((s.setReg (0x2600 + lane) 1 lnFailed).dropControl lane)
  | none => .next s

/-! ## Lane events (R61) -/

/-- LANE_LOCK (R61): ACQUIRE to SEARCH. -/
def execLaneLock (lane : Nat) (s : State) : Result :=
  inst (decide (lane < 128)) <|
  if s.rxState lane = lnAcquire then .next ((s.setRx lane (s.rxLane lane).again).setLaneState lane lnSearch)
  else .next s

/-- LANE_LOCK_TIMEOUT (R61): each 1 ms without lock counts. -/
def execLaneLockTimeout (lane : Nat) (s : State) : Result :=
  inst (decide (lane < 128)) <| if s.rxState lane = lnAcquire then .next (s.inc32 (0x2500 + lane) 2 1) else .next s

/-- Loss of clock recovery (R61, R68): FAILED on an ON group, ACQUIRE otherwise. -/
def State.clockLoss (s : State) (lane : Nat) : State :=
  if s.rxState lane = lnSearch || s.rxState lane = lnLocked then
    match s.groupOf false lane with
    | some g => if s.reg g 2 = stOn then s.rxLaneFail lane else s.setLaneState lane lnAcquire
    | none => s.setLaneState lane lnAcquire
  else s

/-- CLOCK_RECOVERY_LOSS (R61). -/
def execClockRecoveryLoss (lane : Nat) (s : State) : Result := inst (decide (lane < 128)) (.next (s.clockLoss lane))

/-! ## Items in (R49 to R54, R576) -/

/-- Count an error of R54 on a lane, in its entry and at the event counters. -/
def State.laneError (s : State) (lane sub : Nat) : State := (s.inc32 (0x2500 + lane) sub 1).countE (0xD00 + lane) 0

/-- One more item error in the frame in progress (R68). -/
def State.itemError (s : State) (lane : Nat) : State :=
  s.modRx lane (fun x => { x with errors := modNth (· + 1) x.errors 0 })

/-- Bits 64 to 63 + d of the history shifted by d: how many of the numbers that fall 64 behind never arrived (R54). -/
def gapsOf (seen d : Nat) : Nat := d - popCount d ((seen * 2 ^ d) / 2 ^ 64)

/-- Sequence tracking of one packet: the new record and the gaps counted (R54). -/
def SeqTrack.advance (t : Option SeqTrack) (q : Nat) : SeqTrack × Nat :=
  match t with
  | none => (⟨q, 2 ^ 64 - 1⟩, 0)
  | some t =>
    let d := (q + 2 ^ 15 - t.highest) % 2 ^ 15
    if 1 ≤ d && d ≤ 2 ^ 14 - 1 then (⟨q, ((t.seen * 2 ^ d) + 1) % 2 ^ 64⟩, gapsOf t.seen d)
    else
      let b := (t.highest + 2 ^ 15 - q) % 2 ^ 15
      (⟨t.highest, if b < 64 then setBit t.seen b else t.seen⟩, 0)

/-- The key of a received stream's sequence record. -/
def seqKey (g type stream : Nat) : Nat := (g * 16 + type) * 4096 + stream

/-- The sequence records of a type of stream are forgotten for the streams named: their next packet sets the highest SEQ anew (R54). -/
def State.forgetSeqs (s : State) (type : Nat) (named : Nat → Bool) : State :=
  { s with sheaf := { s.sheaf with seqs := s.sheaf.seqs.filter (fun p => !(decide (p.1 / 4096 % 16 = type) && named (p.1 % 4096))) } }

/-- A data stream is configured at the receiver: an enabled input block (2800h.07), or a camera that is not OFF (R54; log 51). -/
def State.streamConfigured (s : State) (type stream : Nat) : Bool :=
  if type = 1 then decide (stream < 128) && bitAt (s.reg 0x2800 7) stream
  else if type = 2 then decide (stream < 16) && s.board.inspect && s.reg (0x4010 + stream) 2 ≠ stOff
  else false

/-- A checked data packet: its sequence number, then its unit's queue (R54, R63, R73). -/
def State.dataItem (s : State) (g lane type : Nat) (i : Item) : State :=
  let stream := bits i.header 46 35
  let seq := bits i.header 22 8
  if !s.streamConfigured type stream then s.inc32 0x2401 1 1
  else
    let k := seqKey (g - 0x2440) type stream
    let (t, n) := SeqTrack.advance (lookup s.sheaf.seqs k) seq
    let s := if n = 0 then s else s.inc32 0x2401 3 n
    let p : Packet := ⟨g - 0x2440, lane, stream, bits i.header 34 23, seq, i.payload⟩
    let sh := { s.sheaf with seqs := insertKey s.sheaf.seqs k t }
    if type = 1 then { s with sheaf := { sh with samples := sh.samples ++ [p] } }
    else { s with sheaf := { sh with pixels := sh.pixels ++ [p] } }

/-- QL: passed to the candidate whose lane it arrives on, discarded elsewhere (R57, R576). -/
def State.qlRx (s : State) (lane level : Nat) : State :=
  s.each [2, 3] (fun i s => if s.reg (0x6010 + i) 4 = lane then s.qlMessage i level else s)

/-- CREDIT: taken on the return lane of the stream's group only (R59, R576). -/
def State.creditRx (s : State) (lane k limit : Nat) : State :=
  let h := s.reg (0x2700 + k) 1
  if k < 256 && h < 16 && s.reg (0x2460 + h) 6 = lane then s.setStream k { s.stream k with limit := limit % 2 ^ 32 }
  else s.skipControl

/-- A received control word (R56, R576). -/
def State.controlRx (s : State) (lane w : Nat) : State :=
  match bits w 63 56 with
  | 1 => s.qlRx lane (bits w 55 52)
  | 3 => s.creditRx lane (bits w 55 44) (bits w 31 0)
  | 4 => s.laneMap lane (bits w 55 48) (bits w 16 0)
  | 5 => s.laneAck lane (bits w 55 48) (bits w 16 0)
  | _ => s.skipControl

/-- LEN lies in the range of R50 for its TYPE. -/
def lenOk (type len : Nat) : Bool :=
  if type = 0 then len = 0 else if type ≤ 3 then decide (1 ≤ len) && decide (len ≤ 1024) else if type = 4 then len = 1 else true

/-- A header that HCRC and LEN pass; otherwise the entry that counts its error: 3 hcrc_err, or 0 for LEN (R54). -/
def headerFault (h : Nat) : Option Nat :=
  if crc8 56 (h / 256) 0 ≠ h % 256 then some 3
  else if lenOk (bits h 63 60) (bits h 57 47) then none else some 0

/-- A lane loses its item boundary: it discards item bits up to the next header that a valid pointer locates (R54). -/
def State.loseBoundary (s : State) (lane : Nat) : State := s.modRx lane (fun x => { x with tracking := false, got := 0, acc := 0, total := 0 })

/-- A pointer is invalid or disagrees with the tracked boundary (R54); it is no item error of R68. -/
def State.pointerError (s : State) (lane : Nat) : State := (s.laneError lane 3).loseBoundary lane

/-- Count a header fault; the lane loses its item boundary (R54, R68). -/
def State.headerError (s : State) (lane sub : Nat) : State :=
  let s := if sub = 3 then s.laneError lane 3 else (s.inc32 0x2401 4 1).countE (0xD00 + lane) 0
  (s.itemError lane).loseBoundary lane

/-- The checks of R54 on a whole item; the flag tells that it is to be delivered. -/
def State.itemCheck (s : State) (lane : Nat) (i : Item) : State × Bool :=
  match headerFault i.header with
  | some sub => (s.headerError lane sub, false)
  | none =>
    let type := bits i.header 63 60
    if type = 0 then (s, false)
    else if 5 ≤ type then ((s.inc32 0x2401 2 1).countE (0xD00 + lane) 0, false)
    else if crcWords (i.header :: i.payload) ≠ i.trailer then ((s.laneError lane 4).itemError lane, false)
    else (s, true)

/-- A checked item of a lane of group `g` is delivered (R54, R63). -/
def State.deliverItem (s : State) (g lane : Nat) (i : Item) : State :=
  if bits i.header 63 60 = 4 then s.controlRx lane (i.payload.headD 0) else s.dataItem g lane (bits i.header 63 60) i

/-- A whole item on a lane of group `g` (R54). -/
def State.itemIn (s : State) (g lane : Nat) (i : Item) : State :=
  match s.itemCheck lane i with
  | (s, true) => s.deliverItem g lane i
  | (s, false) => s

/-- The failure criterion of R68 on item errors, in an ON group. -/
def State.checkErrors (s : State) (lane : Nat) : State :=
  let n := (s.rxLane lane).errors.foldl (· + ·) 0
  if s.reg 0x2400 4 ≤ n && s.rxState lane = lnLocked then
    match s.groupOf false lane with
    | some g => if s.reg g 2 = stOn then s.rxLaneFail lane else s
    | none => s
  else s

/-- The group a LOCKED lane delivers for: an ON group, or one in DISABLING until the item then in progress on the lane has ended (R65, R67). -/
def State.deliversFor (s : State) (lane : Nat) : Option Nat :=
  if s.rxState lane = lnLocked then
    match s.groupOf false lane with
    | some g =>
      if s.reg g 2 = stOn then some g
      else if (s.reg g 2 = stDisabling || s.reg g 2 = stPending) && !(s.rxLane lane).stopped then some g else none
    | none => none
  else none

/-- Items follow one another with no gap (R66), so the first item that a lane ends after a disable is the one that was in progress; delivery ends with it (R65). -/
def State.lastItem (s : State) (g lane : Nat) : State :=
  if s.reg g 2 = stOn then s else s.modRx lane (fun x => { x with stopped := true })

/-- ITEM_RX (R54, R65). -/
def execItemRx (lane : Nat) (item : Item) (s : State) : Result :=
  inst (decide (lane < 128)) <|
  match s.deliversFor lane with
  | some g => .next (((s.itemIn g lane item).checkErrors lane).lastItem g lane)
  | none => .next s

/-- QL_RX (R576). -/
def execQlRx (lane level : Nat) (s : State) : Result :=
  inst (decide (lane < 128) && decide (level < 16)) (.next (s.qlRx lane level))

/-- CREDIT_RX (R59, R576). -/
def execCreditRx (lane stream limit : Nat) (s : State) : Result :=
  inst (decide (lane < 128) && decide (stream < 4096)) (.next (s.creditRx lane stream limit))

/-! ## Frames in (R44 to R48) -/

/-- The low `n` bits of `v`, most significant first. -/
def toBits : Nat → Nat → List Bool
  | 0, _ => []
  | n + 1, v => bitAt v n :: toBits n v

/-- Delete stuff bits: the data bits in order and the stuffing violations (R47). `run` identical bits end at `prev`. -/
def destuff : Nat → Bool → List Bool → List Bool × Nat
  | _, _, [] => ([], 0)
  | run, prev, b :: bs =>
    if run = 48 then
      let (ds, v) := destuff 1 b bs
      (ds, v + ofBool (b = prev))
    else
      let (ds, v) := destuff (if run ≠ 0 && b = prev then run + 1 else 1) b bs
      (b :: ds, v)

/-- Descramble data bits from a state (R46). -/
def descramble : Nat → List Bool → List Bool
  | _, [] => []
  | st, b :: bs => (b != prbsBit st) :: descramble (prbsNext st) bs

/-- The number a list of bits spells. -/
def ofBits (bs : List Bool) : Nat := bs.foldl (fun a b => 2 * a + ofBool b) 0

/-- The bits an item has in all, from its header (R50). -/
def itemBits (h : Nat) : Nat := if bits h 63 60 = 0 then 64 else 64 + 64 * bits h 57 47 + 32

/-- Split assembled item bits into header, payload words and trailer. -/
def splitItem (total acc : Nat) : Item :=
  if total = 64 then ⟨acc, [], 0⟩
  else
    let n := (total - 96) / 64
    ⟨acc >>> (total - 64), (List.range n).map (fun i => (acc >>> (total - 128 - 64 * i)) % 2 ^ 64), acc % 2 ^ 32⟩

/-- What the frame decoder carries along a frame: the pointer, whether a first header was seen, whether delivery ends at the next item boundary,
the state, and the items to deliver, latest first. -/
structure FrameScan where
  pointer : Nat
  index : Nat
  first : Bool
  last : Bool
  st : State
  items : List Item
  deriving DecidableEq, Repr

/-- The last bit of an item has come: the item is checked and kept for its delivery (R54, R73). -/
def FrameScan.item (lane : Nat) (f : FrameScan) (i : Item) : FrameScan :=
  let r := f.st.itemCheck lane i
  { f with st := r.1, items := if r.2 then i :: f.items else f.items }

/-- One item bit of a frame (R48, R54). -/
def FrameScan.bit (lane : Nat) (f : FrameScan) (b : Bool) : FrameScan :=
  let x := f.st.rxLane lane
  let boundary := x.tracking && x.got = 0
  -- a tracked boundary must agree with the pointer at the first header of the frame
  let clash := !f.first && ((boundary && decide (f.index < 7936) && f.pointer ≠ f.index) || (x.tracking && x.got ≠ 0 && f.pointer = f.index))
  let s := if clash then f.st.pointerError lane else f.st
  let x := s.rxLane lane
  let start := f.index = f.pointer && !(x.tracking && x.got ≠ 0)
  let x := if start then { x with tracking := true } else x
  let seen := f.first || boundary || start
  if !x.tracking || (f.last && x.got = 0) then { f with index := f.index + 1, first := seen, st := s.setRx lane x }
  else
    let x := { x with got := x.got + 1, acc := x.acc * 2 + ofBool b }
    let s := s.setRx lane x
    let f := { f with index := f.index + 1, first := seen, st := s }
    if x.got = 64 then
      match headerFault x.acc with
      | some sub => { f with st := s.headerError lane sub }
      | none =>
        let t := itemBits x.acc
        { f with st := s.setRx lane (if t = 64 then { x with got := 0, acc := 0, total := 0 } else { x with total := t }) }
    else if 64 < x.got && x.got = x.total then
      { f with st := s.setRx lane { x with got := 0, acc := 0, total := 0 } }.item lane (splitItem x.total x.acc)
    else f

/-- The body of a frame, and the items it completes (R46 to R48, R54). -/
def State.frameBody (s : State) (lane body : Nat) (last : Bool) : State × List Item :=
  let d := destuff 0 false (toBits 8128 body)
  let s := if d.2 = 0 then s else (s.inc32 (0x2500 + lane) 5 d.2).countE (0xD00 + lane) 0
  let data := descramble 0x7FFFFFFF d.1
  let ptr := ofBits (data.take 16)
  let bad := decide (7936 ≤ ptr) && decide (ptr < 0xFFFF)
  let s := if bad then s.pointerError lane else s
  let f := (data.drop 16).foldl (FrameScan.bit lane) ⟨if bad then 0xFFFF else ptr, 0, false, last, s, []⟩
  (f.st, f.items.reverse)

/-! ## Delivery in the order of R63 -/

/-- The items of a group's frame are delivered, by group lane and place in the frame, and the next frame begins (R63). -/
def State.flushDesk (s : State) (g : Nat) : State :=
  let x := s.group g
  let s := s.setGroup g { x with desk := [], round := x.round + 1 }
  s.each (s.lanesOf g) (fun n s => s.each ((x.desk.filter (fun p => p.1 = n)).flatMap (fun p => p.2)) (fun i s => s.deliverItem g n i))

/-- Every LOCKED lane of a group has its part of the frame in the desk. -/
def State.deskFull (s : State) (g : Nat) : Bool :=
  (s.lanesOf g).all (fun n => s.rxState n ≠ lnLocked || (s.group g).desk.any (fun p => p.1 = n))

/-- A lane's part of the frame joins the desk of its group; a lane that already has its part there begins the next frame. -/
def State.deskFrame (s : State) (g lane : Nat) (items : List Item) : State :=
  let s := if (s.group g).desk.any (fun p => p.1 = lane) then s.flushDesk g else s
  let s := s.setGroup g { s.group g with desk := (s.group g).desk ++ [(lane, items)] }
  if s.deskFull g || s.reg g 2 ≠ stOn then s.flushDesk g else s


/-- The link state of an ON group follows a lane that has become LOCKED (R65). -/
def State.lockedShows (s : State) (lane : Nat) : State :=
  match s.groupOf false lane with
  | some g => if s.reg g 2 = stOn then s.showLink g else s
  | none => s

/-- A frame on a lane in SEARCH (R61): five matches in a row lock it. -/
def State.searchFrame (s : State) (lane sync : Nat) : State :=
  if sync = syncWord then
    if 4 ≤ (s.rxLane lane).hits then
      ((s.setRx lane (s.rxLane lane).again).setLaneState lane lnLocked).lockedShows lane
    else s.modRx lane (fun x => { x with hits := x.hits + 1 })
  else s.modRx lane (fun x => { x with hits := 0 })

/-- The sync word of a frame on a LOCKED lane (R54): more than 3 wrong bits are an absence, 4 in a row lose the lane. -/
def State.syncCheck (s : State) (lane sync : Nat) : State :=
  if popCount 64 (sync ^^^ syncWord) ≤ 3 then s.modRx lane (fun x => { x with misses := 0 })
  else
    let s := (s.laneError lane 2).modRx lane (fun x => { x with misses := x.misses + 1 })
    if 4 ≤ (s.rxLane lane).misses then
      match s.groupOf false lane with
      | some g => if s.reg g 2 = stOn then s.rxLaneFail lane
        else (s.setRx lane (s.rxLane lane).again).setLaneState lane lnSearch
      | none => (s.setRx lane (s.rxLane lane).again).setLaneState lane lnSearch
    else s

/-- The skew of a lane (R63, R68). -/
def State.skewCheck (s : State) (lane skew : Nat) : State :=
  let s := s.setReg (0x2500 + lane) 7 (min skew 0xFFFF)
  if 256 < skew then
    match s.groupOf false lane with
    | some g => if s.reg g 2 = stOn then s.rxLaneFail lane else s.setLaneState lane lnFailed
    | none => s
  else s

/-- The words by which a lane's elastic buffer delays it to the latest LOCKED lane of its group, at most 4 (R63, R64). -/
def State.deskewWords (s : State) (lane : Nat) : Nat :=
  match s.groupOf false lane with
  | some g =>
    let latest := ((s.lanesOf g).filter (fun n => s.rxState n = lnLocked)).foldl (fun a n => max a (s.reg (0x2500 + n) 7)) 0
    min 4 ((latest - s.reg (0x2500 + lane) 7 + 63) / 64)
  | none => 0

/-- The fill of a lane's elastic buffer in words: its centre, its deskew and the phase wander (R64). -/
def State.elasticFill (s : State) (lane : Nat) (wander : Int) : Int := 8 + (s.deskewWords lane : Int) + wander

/-- A frame on a LOCKED lane. An elastic buffer that would hold less than 0 or more than 16 words is re-centred, and the frame is discarded (R54, R64). -/
def State.lockedFrame (s : State) (lane line : Nat) (wander : Int) : State :=
  let s := s.modRx lane (fun x => { x with errors := 0 :: x.errors.take 3 })
  let fill := s.elasticFill lane wander
  if fill < 0 ∨ 16 < fill then
    let s := ((s.laneError lane 6).loseBoundary lane).modRx lane (fun x => { x with elastic := 8 })
    match s.deliversFor lane with
    | some g => s.deskFrame g lane []
    | none => s
  else
    let s := s.modRx lane (fun x => { x with elastic := fill.toNat })
    match s.deliversFor lane with
    | some g =>
      let r := s.frameBody lane (line % 2 ^ 8128) (s.reg g 2 ≠ stOn)
      let s := (r.1.deskFrame g lane r.2).checkErrors lane
      if (s.rxLane lane).got = 0 then s.lastItem g lane else s
    | none => s

/-- SHEAF_FRAME_RX (R44 to R48, R54, R61, R63, R64): 8,192 line bits, the first in the highest place, with the measured skew and the elastic
buffer's phase wander in words. The frame whose sync word locks the lane is itself decoded: the manual says nothing of it (DESIGN CHOICE, log 51). -/
def execSheafFrameRx (lane line skew : Nat) (wander : Int) (s : State) : Result :=
  inst (decide (lane < 128) && decide (line < 2 ^ 8192)) <|
  let sync := line >>> 8128
  let s := if s.rxState lane = lnSearch then s.searchFrame lane sync
    else if s.rxState lane = lnLocked then s.syncCheck lane sync else s
  let s := if s.rxState lane = lnLocked then s.skewCheck lane skew else s
  if s.rxState lane = lnLocked then .next (s.lockedFrame lane line wander) else .next s

/-! ## Group ON and OFF (R62, R65) -/

/-- A group is enabled: its lanes start, but for those in PRBS mode, and its link is ALIGNING (R61, R65). -/
def State.groupEnabling (s : State) (idx : Nat) : State :=
  let s := (s.setReg idx 2 stEnabling).setReg idx 7 1
  let s := s.setGroup idx LinkGroup.reset
  s.each (s.lanesOf idx) (fun n s =>
    if 0x2460 ≤ idx then (if s.reg (0x2600 + n) 1 = lnPrbs then s else (s.setReg (0x2600 + n) 1 1).setTx n TxLane.reset)
    else if s.rxState n = lnPrbs then s else (s.setRx n RxLane.reset).setLaneState n lnAcquire)

/-- A group goes to DISABLING (R65, R71): a failover ends, the items a receive group has kept for their order are delivered, and the lanes of a
transmit group finish their item, send IDLE up to the next sync word, and drop their control words (R60). -/
def State.groupDisabling (s : State) (idx : Nat) : State :=
  let s := s.endFailover idx
  if 0x2460 ≤ idx then s.each (s.lanesOf idx) (fun n s => if s.reg (0x2600 + n) 1 = 1 then (s.dropControl n).drainLane n else s)
  else if (s.group idx).desk.isEmpty then s else s.flushDesk idx

/-- A group reaches ON with its initial map; lanes FAILED while ENABLING fail now (R63, R65, R71). -/
def State.groupOn (s : State) (idx : Nat) : State :=
  let n := s.activeLanes idx
  let s := ((s.setReg idx 2 stOn).setReg idx 8 (2 ^ n - 1)).setReg idx 9 0
  let s := s.setGroup idx LinkGroup.reset
  if 0x2460 ≤ idx then
    let s := s.setReg idx 7 2
    let s := s.each ((s.lanesOf idx).filter (fun l => s.reg (0x2600 + l) 1 = lnFailed)) (fun l s => (s.setReg (0x2600 + l) 1 1).txLaneFail l)
    s.each ((List.range 256).filter (fun k => s.reg (0x2700 + k) 1 = idx - 0x2460)) (fun k s =>
      s.setStream k { s.stream k with sent := 0, limit := 0 })
  else
    let s := { s with sheaf := { s.sheaf with seqs := s.sheaf.seqs.filter (fun p => p.1 / 65536 ≠ idx - 0x2440) } }
    let active := (s.lanesOf idx).take n
    let s := s.setReg idx 7 (if active.all (fun l => s.rxState l = lnLocked) then 2 else 3)
    let bad := (s.lanesOf idx).filter (fun l => s.rxState l = lnFailed)
    s.each bad (fun l s => (s.setReg (0x2500 + l) 1 lnLocked).rxLaneFail l)

/-- GROUP_ON (R65): every active lane LOCKED and within skew, or 10 ms after the enable. -/
def execGroupOn (idx : Nat) (s : State) : Result :=
  inst (decide (0x2440 ≤ idx) && decide (idx ≤ 0x246F)) <|
  if s.reg idx 2 = stEnabling then .next (s.groupOn idx) else .next s

/-- A group reaches OFF: lanes OFF but for those in PRBS mode, link DOWN (R61, R65). -/
def State.groupOff (s : State) (idx : Nat) : State :=
  let s := ((s.setReg idx 2 stOff).setReg idx 7 0).setReg idx 8 0
  let s := s.setGroup idx LinkGroup.reset
  s.each (s.lanesOf idx) (fun n s =>
    if 0x2460 ≤ idx then (if s.reg (0x2600 + n) 1 = lnPrbs then s else (s.setReg (0x2600 + n) 1 lnOff).setTx n TxLane.reset)
    else if s.rxState n = lnPrbs then s else s.setLaneState n lnOff)

/-! ## PRBS (R74) and counters (R75) -/

/-- One received bit at the checker; the flag tells a mismatch. -/
def PrbsCheck.bit (c : PrbsCheck) (b : Bool) : PrbsCheck × Bool :=
  if 0 < c.toLoad then (⟨c.toLoad - 1, (c.state * 2 + ofBool b) % 2 ^ 31, 0, []⟩, false)
  else
    let wrong := b != prbsBit c.state
    let es := if wrong then (c.bits :: c.errors).take 64 else c.errors
    let c' : PrbsCheck := ⟨0, prbsNext c.state, c.bits + 1, es⟩
    if wrong && es.length = 64 && decide (c.bits < es.getLastD 0 + 1024) then (⟨31, 0, 0, []⟩, true) else (c', wrong)

/-- Bits on a lane in PRBS mode. -/
def State.prbsRx (s : State) (lane : Nat) (rx : List Bool) : State :=
  let (c, n) := rx.foldl (fun (c, n) b => let (c', w) := PrbsCheck.bit c b; (c', n + ofBool w)) ((s.rxLane lane).prbs, 0)
  let s := s.modRx lane (fun x => { x with prbs := c })
  let s := if n = 0 then s else s.inc32 (0x2500 + lane) 8 n
  s.regBit 0x2402 4 lane (c.toLoad = 0)

/-- PRBS_RECEIVE (R74). -/
def execPrbsReceive (lane : Nat) (rx : List Bool) (s : State) : Result :=
  inst (decide (lane < 128)) <| if s.rxState lane = lnPrbs then .next (s.prbsRx lane rx) else .next s

/-- The lanes of one direction that are in PRBS mode: those named that the part has. A bit of a lane that the variant lacks is held, and the ball
stays inert (R9, R571; DESIGN CHOICE, log 51). -/
def State.prbsLanes (s : State) (tx : Bool) (v : Nat) : List Nat :=
  (setBitsOf 128 v).filter (fun n => n / 4 < (if tx then s.board.txQuads else s.board.rxQuads))

/-- 01h written to 2402h.03: the next bit on every transmit lane in PRBS mode is inverted (R74). -/
def cmdPrbsInject (s : State) : Verdict :=
  .ok (s.each (s.prbsLanes true (s.reg 0x2402 2)) (fun n s => s.setTx n { s.txLane n with invert := true }))

/-- `n` bits of the PRBS31 sequence from a state, and the state after them (R46, R74). -/
def prbsRun : Nat → Nat → List Bool × Nat
  | 0, st => ([], st)
  | n + 1, st => let r := prbsRun n (prbsNext st); (prbsBit st :: r.1, r.2)

/-- Sixteenths of a line bit in one TCLK tick, by rate code: 20.625, 51.5625 and 64 bits (R40, R76). -/
def bitsPerTick (code : Nat) : Nat := match code with | 0 => 330 | 1 => 825 | _ => 1024

/-- The line bits of one TCLK tick leave a transmit lane in PRBS mode (R74). -/
def State.prbsTx (s : State) (n : Nat) : State :=
  let x := s.txLane n
  let t := x.phase + bitsPerTick (s.reg (0x2430 + n / 4) 1)
  let r := prbsRun (t / 16) x.prbs
  let out := if x.invert then modNth (fun b => !b) r.1 0 else r.1
  (s.setTx n { x with prbs := r.2, phase := t % 16, invert := false }).emit (.prbs n out)

/-- The Sheaf counters (R54, R74, R77, R78). -/
def isSheafCounter (idx sub : Nat) : Bool :=
  (idx = 0x2401 && decide (1 ≤ sub)) || (decide (0x2440 ≤ idx) && decide (idx ≤ 0x246F) && sub = 0x0A)
  || (decide (0x2500 ≤ idx) && decide (idx ≤ 0x257F) && (sub = 2 || sub = 3 || sub = 4 || sub = 5 || sub = 6 || sub = 8))
  || (decide (0x2600 ≤ idx) && decide (idx ≤ 0x263F) && sub = 2)

/-- 01h written to 2400h.05: every Sheaf counter reads 0 (R75). -/
def cmdSheafClear (s : State) : Verdict := .ok { s with regs := s.regs.filter (fun p => !isSheafCounter (p.1 / 256) (p.1 % 256)) }

/-! ## Write rules -/

/-- The lanes of a quad all lie in groups that are OFF. -/
def State.quadOff (s : State) (tx : Bool) (q : Nat) : Bool := (List.range 4).all (fun i => (s.groupOf tx (4 * q + i)).isNone)

/-- The owning unit of a Sheaf RWX entry is OFF. -/
def sheafOwnerOff (s : State) (idx sub : Nat) : Bool :=
  if 0x2440 ≤ idx && idx ≤ 0x246F then s.reg idx 2 = stOff
  else if 0x2410 ≤ idx && idx ≤ 0x242F then s.quadOff false (idx - 0x2410)
  else if 0x2430 ≤ idx && idx ≤ 0x243F then s.quadOff true (idx - 0x2430)
  else if idx = 0x2400 && sub = 2 then s.txGroupsOff
  else true

/-- Lanes whose bit a write to 2402h.01 or .02 changes lie in no live group (R74). -/
def State.prbsLanesOff (s : State) (sub v : Nat) : Bool :=
  (setBitsOf 128 (v ^^^ s.reg 0x2402 sub)).all (fun n => (s.groupOf (sub = 2) n).isNone)

/-- A class U stream lies on a group made of reserved lanes only, and is uncredited (R66). -/
def State.classUOk (s : State) (grp cls : Nat) (credited : Bool) : Bool :=
  cls ≠ 3 || (!credited && (decide (16 ≤ grp) || s.reserved (0x2460 + grp)))

/-- The refusal a write to an entry of chapter 2 meets, or 0; `eff` reads an entry as it will stand when the pending set is committed. -/
def sheafCheck (s : State) (eff : Nat → Nat → Nat) (idx sub v : Nat) : Nat :=
  if idx = 0x2400 && sub = 2 then (if popCount 64 v = 8 then 0 else dRange)
  else if idx = 0x2402 && (sub = 1 || sub = 2) then (if s.prbsLanesOff sub v then 0 else dNotOff)
  else if 0x2700 ≤ idx && idx ≤ 0x27FF then
    let get := fun k => if sub = k then v else eff idx k
    if s.classUOk (get 1) (get 2) (get 3 = 1) then 0 else dRule
  else 0

/-- A stream's packets are discarded (R79, R169): a record whose fragments wait among them is discarded with its staging slot. -/
def State.discardReady (s : State) (k : Nat) : State :=
  let stats := ((s.stream k).ready.filter (fun p => bits (p.words.getD 1 0) 63 60 = 0xC)).length
  let s := s.whenB (decide (0 < stats)) (fun s => s.inc32 0x4001 0x0A stats)
  let t := s.setStream k { s.stream k with ready := [], slot := none }
  match (s.stream k).slot with
  | some (slot, _) => { t with xarray := { t.xarray with staged := t.xarray.staged.filter (fun e => e.slot ≠ slot) } }.inc64 0x3400 0x0D 1
  | none => t

/-- What a changed entry of chapter 2 sets in motion: PRBS lanes start and stop, credit totals restart (R59, R74). -/
def sheafAfter (s : State) (idx sub old : Nat) : State :=
  let v := s.reg idx sub
  if idx = 0x2402 && sub = 1 then
    s.each (s.prbsLanes false (old ^^^ v)) (fun n s =>
      if bitAt v n then (s.setRx n RxLane.reset).setLaneState n lnPrbs
      else (s.setLaneState n lnOff).regBit 0x2402 4 n false)
  else if idx = 0x2402 && sub = 2 then
    s.each (s.prbsLanes true (old ^^^ v)) (fun n s => (s.setReg (0x2600 + n) 1 (if bitAt v n then lnPrbs else lnOff)).setTx n TxLane.reset)
  else if 0x2700 ≤ idx && idx ≤ 0x27FF && ((sub = 1 && old ≠ v) || (sub = 3 && old = 0 && v = 1)) then
    let k := idx - 0x2700
    let s := if sub = 1 && v = 0xFF then s.discardReady k else s
    s.setStream k { s.stream k with sent := 0, limit := 0 }
  else s

end Sys2Proof.Machine
end

