-- ==== Sys2Proof/Machine/Winnow.lean ====
section
/-! DEFINITION. Winnow decimation and the image scalers (chapter 10). -/

namespace Sys2Proof.Machine

/-! ## Channels -/

/-- The engine is ON. -/
def State.winnowOn (s : State) : Bool := s.reg 0x4800 2 = stOn

/-- Map channel `c`. -/
def State.modWin (s : State) (c : Nat) (f : WinChannel → WinChannel) : State :=
  { s with winnow := { s.winnow with channels := modNth f s.winnow.channels c } }

/-- Channel `c`. -/
def State.win (s : State) (c : Nat) : WinChannel := nthD WinChannel.reset s.winnow.channels c

/-- Map scaler `x`. -/
def State.modScaler (s : State) (x : Nat) (f : Scaler → Scaler) : State :=
  { s with winnow := { s.winnow with scalers := modNth f s.winnow.scalers x } }

/-- Scaler `x`. -/
def State.scaler (s : State) (x : Nat) : Scaler := nthD Scaler.reset s.winnow.scalers x

/-- The user of a channel (4810h+c.05). -/
def State.winUser (s : State) (c : Nat) : Nat := s.reg (0x4810 + c) 5

/-- A user takes a channel: its history is emptied (R319). -/
def State.takeChannel (s : State) (c user : Nat) : State := (s.setReg (0x4810 + c) 5 user).modWin c (fun _ => WinChannel.reset)

/-- A user leaves a channel. -/
def State.leaveChannel (s : State) (c : Nat) : State := s.setReg (0x4810 + c) 5 0xFFFF

/-- A value reaches a channel's queue (R314). -/
def State.winPush (s : State) (c : Nat) (v : WinVal) : State :=
  if !s.winnowOn then s.inc32 0x4800 4 1
  else if 128 ≤ (s.win c).queue.length then (s.modWin c (fun x => { x with gap := true })).inc32 (0x4810 + c) 8 1
  else s.modWin c (fun x => { x with queue := x.queue ++ [v] })

/-! ## Half-band and boxcar arithmetic (R315 to R318, R323) -/

/-- Coefficient c[H][m] of the live sets (R320). -/
def State.coeff (s : State) (long : Bool) (m : Nat) : Int := s.sreg 32 0x4801 (if long then 6 + m else m)

/-- The half-length of a stage. -/
def halfLength (long : Bool) : Nat := if long then 23 else 11

/-- A half-band output from a centre and taps at offsets ±(2m − 1), clamped to `hi` (R315). The flag tells of a clamp. -/
def halfBand (coeff : Nat → Int) (h hi centre : Nat) (tap : Nat → Nat × Nat) : Nat × Bool :=
  let acc : Int := (List.range ((h + 1) / 2)).foldl (fun a i =>
    let t := tap (2 * i + 1)
    a + coeff (i + 1) * ((t.1 : Int) + t.2)) (4194304 * centre)
  let y := (acc + 4194304) / 8388608
  ((clampInt 0 hi y).toNat, decide (y < 0) || decide ((hi : Int) < y))

/-- A stage takes an input; on one of odd index it gives an output (R315, R318). -/
def HalfStage.push (coeff : Nat → Int) (long : Bool) (x : HalfStage) (v : Nat × Bool) : HalfStage × Option (Nat × Bool) :=
  let h := halfLength long
  let hist := if x.hist.isEmpty then List.replicate (2 * h + 1) v else (v :: x.hist).take (2 * h + 1)
  if x.odd then
    let at_ := fun i => hist.getD i (0, false)
    let y := halfBand coeff h 0xFFFFFFFF (at_ h).1 (fun d => ((at_ (h + d)).1, (at_ (h - d)).1))
    let mark := (at_ h).2 || (List.range ((h + 1) / 2)).any (fun i => (at_ (h + (2 * i + 1))).2 || (at_ (h - (2 * i + 1))).2)
    (⟨hist, false⟩, some (y.1, y.2 || mark))
  else (⟨hist, true⟩, none)

/-- A value goes through stages from `i` up (R315). -/
def State.stagesPush (s : State) (longs : Nat) : Nat → List HalfStage → Nat × Bool → List HalfStage × Option (Nat × Bool)
  | _, [], v => ([], some v)
  | i, x :: xs, v =>
    let long := bitAt longs i
    match x.push (s.coeff long) long v with
    | (x', some w) => let r := s.stagesPush longs (i + 1) xs w; (x' :: r.1, r.2)
    | (x', none) => (x' :: xs, none)

/-- A channel carries one queued value (R315, R317). -/
def State.winCarry (s : State) (c : Nat) (x : WinChannel) (v : WinVal) : WinChannel × Option WinVal :=
  let n := s.reg (0x4810 + c) 2
  if s.reg (0x4810 + c) 1 = 1 then
    let sum := x.boxSum + v.v
    if x.boxCount + 1 = 2 ^ n then
      let y := if n = 0 then sum else (sum + 2 ^ (n - 1)) / 2 ^ n
      ({ x with boxSum := 0, boxCount := 0, gap := false }, some { v with v := y, sat := false, gap := x.gap })
    else ({ x with boxSum := sum, boxCount := x.boxCount + 1 }, none)
  else
    let stages := if x.stages.length = n then x.stages else List.replicate n ⟨[], false⟩
    let r := s.stagesPush (s.reg (0x4810 + c) 3) 0 stages (v.v, v.sat)
    match r.2 with
    | some y => ({ x with stages := r.1, gap := false }, some { v with v := y.1, sat := y.2, gap := x.gap })
    | none => ({ x with stages := r.1 }, none)

/-- One queued value of a channel, with its counters and its way out. -/
def State.winStep (s : State) (c : Nat) : State :=
  match (s.win c).queue with
  | [] => s
  | v :: rest =>
    let r := s.winCarry c { s.win c with queue := rest } v
    let s := s.modWin c (fun _ => r.1)
    match r.2 with
    | some y =>
      let s := (s.inc64 (0x4810 + c) 6 1).whenB y.sat (fun s => s.inc32 (0x4810 + c) 7 1)
      { s with winnow := { s.winnow with outputs := s.winnow.outputs ++ [⟨c, y⟩] } }
    | none => s

/-! ## Scalers (R322 to R326) -/

/-- One half-band stage over a line (R323). -/
def State.lineStage (s : State) (long : Bool) (v : List (Nat × Bool)) : List (Nat × Bool) :=
  let w := v.length
  let h := halfLength long
  let at_ := fun (i : Int) => v.getD (clampInt 0 ((w : Int) - 1) i).toNat (0, false)
  (List.range (w / 2)).map (fun (j : Nat) =>
    let m0 : Int := 2 * (j : Int)
    let y := halfBand (s.coeff long) h 65535 (at_ m0).1 (fun (d : Nat) => ((at_ (m0 - d)).1, (at_ (m0 + d)).1))
    let mark := (at_ m0).2 || (List.range ((h + 1) / 2)).any (fun (i : Nat) => (at_ (m0 - (2 * i + 1 : Nat))).2 || (at_ (m0 + (2 * i + 1 : Nat))).2)
    (y.1, y.2 || mark))

/-- `a` half-band stages over a line, from stage `i` up (R323). -/
def State.lineStages (s : State) (longs : Nat) : Nat → Nat → List (Nat × Bool) → List (Nat × Bool)
  | 0, _, v => v
  | a + 1, i, v => s.lineStages longs a (i + 1) (s.lineStage (bitAt longs i) v)

/-- Horizontal scaling of a cropped line (R323). -/
def State.scaleLine (s : State) (x : Nat) (pixels : List Nat) : List (Nat × Bool) :=
  let i := 0x4880 + x
  let a := s.reg i 8
  if s.reg i 7 = 1 then
    (List.range (pixels.length / 2 ^ a)).map (fun j =>
      let sum := (slice' pixels (j * 2 ^ a) (2 ^ a)).foldl (· + ·) 0
      (if a = 0 then sum else (sum + 2 ^ (a - 1)) / 2 ^ a, false))
  else s.lineStages (s.reg i 9) a 0 (pixels.map (fun p => (p, false)))
where
  /-- `n` elements from an offset. -/
  slice' (xs : List Nat) (off n : Nat) : List Nat := (xs.drop off).take n

/-- An empty group for a line (R324). -/
def State.newGroup (s : State) (x : Nat) (l : ScalerLine) : ScalerGroup :=
  let size := 2 ^ s.reg (0x4880 + x) 0x0A
  let q := l.row / size
  let left := s.reg 0x4000 3 - q * size
  { frame := l.frame, number := q, size := min size left, seen := 0, n := 0, sums := [], sats := [], short := decide (left < size), drop := false,
    impaired := false, sc := l.sc, index := l.index, epoch := l.epoch }

/-- Add lists of numbers, the second taken whole where the first is empty. -/
def addLists : List Nat → List Nat → List Nat
  | [], ys => ys
  | xs, [] => xs
  | x :: xs, y :: ys => (x + y) :: addLists xs ys

/-- Join marks. -/
def orLists : List Bool → List Bool → List Bool
  | [], ys => ys
  | xs, [] => xs
  | x :: xs, y :: ys => (x || y) :: orLists xs ys

/-- What a group takes from a line whether it was received or dropped: the marks of its record, and, of the earliest line of the group, its SC,
line index and configuration epoch (R324, R326). A dropped line is counted before the lines of its group that are still held, so the earliest line
is the one of least line index, not the first one counted. -/
def ScalerGroup.head (g : ScalerGroup) (l : ScalerLine) : ScalerGroup :=
  let g := { g with seen := g.seen + 1, impaired := g.impaired || l.impaired }
  if l.index < g.index then { g with sc := l.sc, index := l.index, epoch := l.epoch } else g

/-- A group after one of its lines was received, or dropped when there is none (R324); a dropped line that is the last one of its frame also
marks the group SHORT (R330). -/
def ScalerGroup.add (g : ScalerGroup) (l : ScalerLine) (last : Bool) (line : Option (List (Nat × Bool))) : ScalerGroup :=
  let g := g.head l
  match line with
  | some ps => { g with n := g.n + 1, sums := addLists g.sums (ps.map (fun p => p.1)), sats := orLists g.sats (ps.map (fun p => p.2)) }
  | none => { g with drop := true, short := g.short || last }

/-- A line counts in its group; a group whose last line has come closes, and one with no line received sends nothing (R324). -/
def State.groupLine (s : State) (x : Nat) (l : ScalerLine) (line : Option (List (Nat × Bool))) : State :=
  let size := 2 ^ s.reg (0x4880 + x) 0x0A
  let mine := fun (g : ScalerGroup) => decide (g.frame = l.frame) && decide (g.number = l.row / size)
  let groups := (s.scaler x).groups
  let g := ((groups.find? mine).getD (s.newGroup x l)).add l (decide (l.row + 1 = s.reg 0x4000 3)) line
  let rest := groups.filter (fun g => !mine g)
  if g.seen < g.size then s.modScaler x (fun y => { y with groups := rest ++ [g] })
  else
    let s := s.modScaler x (fun y => { y with groups := rest, ready := if g.n = 0 then y.ready else y.ready ++ [g] })
    if g.n = 0 then s.inc32 (0x4880 + x) 0x0E 1 else s

/-- A stitched line reaches a scaler (R325, R329): the frame after an enable starts it, and a line that finds both places held is dropped. -/
def State.scalerLine (s : State) (x : Nat) (l : ScalerLine) : State :=
  let i := 0x4880 + x
  let s := if s.reg i 2 = stEnabling && l.row = 0 then s.setReg i 2 stOn else s
  let s := if l.row = 0 then s.modScaler x (fun y => { y with inFrame := s.reg i 2 = stOn }) else s
  let y := s.scaler x
  if (s.reg i 2 = stOn || s.reg i 2 = stDisabling || s.reg i 2 = stPending) && y.inFrame then
    let s := if l.row + 1 = s.reg 0x4000 3 then s.modScaler x (fun y => { y with inFrame := false }) else s
    if y.current.isNone then s.modScaler x (fun y => { y with current := some l, taken := 0 })
    else if y.waiting.isNone then s.modScaler x (fun y => { y with waiting := some l })
    else (s.inc32 i 0x0E 1).groupLine x l none
  else s

/-- A service of a channel of a scaler's span takes the next 64 cropped pixels; a whole line is scaled into its group (R322, R324). -/
def State.scalerService (s : State) (x : Nat) : State :=
  let y := s.scaler x
  match y.current with
  | none => s
  | some l =>
    if y.taken + 64 < l.pixels.length then s.modScaler x (fun y => { y with taken := y.taken + 64 })
    else
      let s := s.modScaler x (fun y => { y with current := y.waiting, waiting := none, taken := 0 })
      s.groupLine x l (some (s.scaleLine x l.pixels))

/-- `n` repetitions of a step. -/
def State.repeatN (f : State → State) : Nat → State → State
  | 0, s => s
  | n + 1, s => State.repeatN f n (f s)

/-- The engine serves its channels: it is ON, or it is in DISABLING and a scaler is not yet OFF or its current round is not finished (R313, R328). -/
def State.winnowServes (s : State) : Bool :=
  s.winnowOn || ((s.reg 0x4800 2 = stDisabling || s.reg 0x4800 2 = stPending)
    && ((List.range 8).any (fun x => s.reg (0x4880 + x) 2 ≠ stOff) || s.winnow.cycle % 64 ≠ 0))

/-- The engine in DISABLING has finished: every scaler reads OFF and the current round is complete (R328). -/
def State.winnowIdle (s : State) : Bool := (List.range 8).all (fun x => s.reg (0x4880 + x) 2 = stOff) && decide (s.winnow.cycle % 64 = 0)

/-- WINNOW_SERVICE (R313, R314): the engine serves the channel of its cycle; a monitor channel carries up to 64 queued values. -/
def execWinnowService (s : State) : Result :=
  if s.winnowServes then
    let c := s.winnow.cycle % 64
    let s := { s with winnow := { s.winnow with cycle := s.winnow.cycle + 1 } }
    let s := s.setReg 0x4800 3 (s.winnow.cycle / 64)
    let u := s.winUser c
    .next (if u < 64 then State.repeatN (fun s => s.winStep c) (min 64 (s.win c).queue.length) s
           else if 0x100 ≤ u && u < 0x108 then s.scalerService (u - 0x100) else s)
  else .next s

/-- Pixels of a packet, packed into words (R326, R236). -/
def packPixels (y8 : Bool) : Nat → List Nat → List Nat
  | 0, _ => []
  | fuel + 1, ps =>
    if ps.isEmpty then []
    else
      let k := if y8 then 8 else 4
      let w := (List.range k).foldl (fun a i => a * 2 ^ (64 / k) + ps.getD i 0) 0
      w :: packPixels y8 fuel (ps.drop k)

/-- Y8 of a pixel (R236). -/
def toY8 (y : Nat) : Nat := min ((y + 128) / 256) 255

/-- The packets of a group (R326). -/
def State.groupPackets (s : State) (x : Nat) (g : ScalerGroup) : List OutPacket :=
  let y8 := s.reg (0x4880 + x) 0x0B = 1
  let per := if y8 then 7936 else 3968
  let out := g.sums.map (fun v => let y := (v + g.n / 2) / g.n; if y8 then toY8 y else y)
  (List.range ((out.length + per - 1) / per)).map (fun k =>
    let px := (out.drop (k * per)).take per
    let sat := ((g.sats.drop (k * per)).take per).any id
    let w1 := 0xE * 2 ^ 60 + x * 2 ^ 57 + ofBool y8 * 2 ^ 56 + ofBool g.short * 2 ^ 55 + ofBool g.drop * 2 ^ 54 + ofBool sat * 2 ^ 53
      + ofBool g.impaired * 2 ^ 52 + (k * per / 64) % 2 ^ 13 * 2 ^ 32 + g.frame % 2 ^ 32
    ⟨0, g.sc :: w1 :: g.index :: (g.epoch * 2 ^ 32 + g.number % 65536 * 65536 + g.n) :: packPixels y8 (px.length + 1) px⟩)

/-- SCALER_GROUP_SEND (R324, R326). A group whose stream still holds packets waits (R59). -/
def execScalerGroupSend (scaler : Nat) (s : State) : Result :=
  let stream := s.reg (0x4880 + scaler) 0x0C
  inst (decide (scaler < 8))
    (match (s.scaler scaler).ready with
     | [] => .next s
     | g :: rest =>
       if !(s.stream stream).ready.isEmpty then .next s else
       let ps := s.groupPackets scaler g
       let s := s.modScaler scaler (fun y => { y with ready := rest })
       .next ((s.each ps (fun p s => s.streamPut stream p)).inc64 (0x4880 + scaler) 0x0D 1))

/-! ## Enables (R328, R329) -/

/-- The engine reaches ON: every channel is empty and rounds count from 0 (R313, R319, R328). -/
def State.winnowTurnsOn (s : State) : State :=
  let w := { s.winnow with cycle := 0, channels := List.replicate 64 WinChannel.reset }
  ({ s with winnow := w }).setReg 0x4800 3 0

/-- The engine reaches OFF: queued values are discarded, and what a service has already put out goes on to its comparator (R328). -/
def State.winnowTurnsOff (s : State) : State :=
  { s with winnow := { s.winnow with channels := List.replicate 64 WinChannel.reset } }

/-- The channels of a scaler's span. -/
def State.spanOf (s : State) (x : Nat) : List Nat := (List.range (s.reg (0x4880 + x) 4)).map (fun i => s.reg (0x4880 + x) 3 + i)

/-- Image buffer bytes a scaler reserves (R325). -/
def State.scalerBytes (s : State) (x : Nat) : Nat :=
  4 * s.reg (0x4880 + x) 6 + 4 * (s.reg (0x4880 + x) 6 / 2 ^ s.reg (0x4880 + x) 8)

/-- The image buffer in use (4800h.05). -/
def State.bufferUsed (s : State) : Nat :=
  ((List.range 8).filter (fun x => s.reg (0x4880 + x) 2 ≠ stOff)).foldl (fun a x => a + s.scalerBytes x) 0

/-- The refusal of a scaler enable, or 0 (R329). -/
def scalerEnableCheck (s : State) (x : Nat) : Nat :=
  let i := 0x4880 + x
  let wc := s.reg i 6
  let a := s.reg i 8
  let span := s.spanOf x
  if !s.winnowOn || s.reg 0x4400 2 ≠ stOn || wc = 0 || wc % 2 ^ (a + 6) ≠ 0 || s.reg i 5 % 64 ≠ 0
      || s.reg 0x4400 3 < s.reg i 5 + wc || span.any (fun c => decide (64 ≤ c) || (s.winUser c ≠ 0xFFFF && s.winUser c ≠ 0x100 + x))
      || (8388608 < s.bufferUsed + (if s.reg i 2 = stOff then s.scalerBytes x else 0)) || s.reg i 0x0C = 0xFF then dRule
  else 0

/-- A scaler starts: it takes its span. -/
def State.scalerEnabling (s : State) (x : Nat) : State := (s.each (s.spanOf x) (fun c s => s.takeChannel c (0x100 + x))).modScaler x (fun _ => Scaler.reset)

/-- A scaler has sent what its last frame gave (R329). -/
def State.scalerIdle (s : State) (x : Nat) : Bool :=
  let y := s.scaler x
  y.current.isNone && y.waiting.isNone && y.groups.isEmpty && y.ready.isEmpty && !y.inFrame

/-- A scaler reaches OFF: its channels are released. -/
def State.scalerTurnsOff (s : State) (x : Nat) : State := (s.each (s.spanOf x) (fun c s => s.leaveChannel c)).modScaler x (fun _ => Scaler.reset)

/-! ## Write rules and views -/

/-- The owning unit of a Winnow RWX entry is OFF. -/
def winnowOwnerOff (s : State) (idx : Nat) : Bool :=
  if idx = 0x4801 then s.reg 0x4800 2 = stOff
  else if 0x4810 ≤ idx && idx ≤ 0x484F then s.winUser (idx - 0x4810) = 0xFFFF
  else if 0x4880 ≤ idx && idx ≤ 0x4887 then s.reg idx 2 = stOff
  else true

/-- The refusal a write to an entry of chapter 10 meets, or 0 (R320, R332). -/
def winnowCheck (s : State) (idx sub v : Nat) : Nat :=
  if idx = 0x4801 then
    let set := if sub ≤ 6 then (List.range 6).map (· + 1) else (List.range 12).map (· + 7)
    let sum : Int := set.foldl (fun a k => a + (if k = sub then toSigned 32 v else s.sreg 32 0x4801 k)) 0
    if 8388608 ≤ (toSigned 32 v).natAbs then dRange else if sum = 2097152 then 0 else dRule
  else if 0x4810 ≤ idx && idx ≤ 0x484F then
    match sub with
    | 1 => if v = 0 && 8 < s.reg idx 2 then dRule else 0
    | 2 => if v ≤ (if s.reg idx 1 = 1 then 16 else 8) then 0 else dRange
    | _ => 0
  else 0

/-- 2D of a channel (R316). -/
def State.delayX2 (s : State) (c : Nat) : Nat :=
  let n := s.reg (0x4810 + c) 2
  if s.reg (0x4810 + c) 1 = 1 then 2 ^ n - 1
  else 2 * (List.range n).foldl (fun a i => a + halfLength (bitAt (s.reg (0x4810 + c) 3) i) * 2 ^ i) 0

/-- Entries of chapter 10 that are read from its state. -/
def winnowView (s : State) (idx sub : Nat) : Option Nat :=
  if idx = 0x4800 && sub = 5 then some s.bufferUsed
  else if 0x4810 ≤ idx && idx ≤ 0x484F && sub = 4 then some (s.delayX2 (idx - 0x4810))
  else none

end Sys2Proof.Machine
end

