-- ==== Sys2Proof/Machine/Camera.lean ====
section
/-! DEFINITION. The image front end: line matching, correction, demosaicing, camera settings and statistics (chapter 7). -/

namespace Sys2Proof.Machine

/-! ## Lines, frames and cameras -/

/-- Map the front end. -/
def State.modFront (s : State) (f : FrontState → FrontState) : State := { s with insp := { s.insp with front := f s.insp.front } }

/-- Camera `c` beside its entries. -/
def State.cam (s : State) (c : Nat) : Camera := nthD Camera.reset s.insp.front.cams c

/-- Map camera `c`. -/
def State.modCam (s : State) (c : Nat) (f : Camera → Camera) : State := s.modFront (fun x => { x with cams := modNth f x.cams c })

/-- L_F (R213). -/
def State.frameLen (s : State) : Nat := s.reg 0x4000 3

/-- The latest line clock edge. -/
def State.latestEdge (s : State) : Option EdgeRec := s.insp.front.edges.head?

/-- The edge of a line index. -/
def State.edgeOf (s : State) (l : Nat) : Option EdgeRec := s.insp.front.edges.find? (fun e => e.index = l)

/-- The SC that decides which configuration a frame uses (R28): that of its first line clock edge. -/
def State.frameSc (s : State) (f : Nat) : Nat := match s.edgeOf (f * s.frameLen) with | some e => e.sc | none => s.sc

/-- An entry with apply point FRAME, for the frame of a line. -/
def State.lineReg (s : State) (l idx sub : Nat) : Nat := s.regAt idx sub (s.frameSc (l / s.frameLen))

/-- Bits of a raw pixel (R215). -/
def depthOf (code : Nat) : Nat := match code with | 0 => 8 | 1 => 10 | 2 => 12 | _ => 16

/-- A camera is DUAL. -/
def State.dual (s : State) (c : Nat) : Bool := s.reg (0x4010 + c) 3 = 1

/-- Sensor rows of a camera. -/
def State.camRows (s : State) (c : Nat) : Nat := if s.dual c then 2 else 1

/-- Width W of a camera. -/
def State.camWidth (s : State) (c : Nat) : Nat := s.reg (0x4010 + c) 4

/-- Row delay d (R222); 0 for a mono camera. -/
def State.rowDelay (s : State) (c : Nat) : Int := if s.dual c then s.sreg 8 (0x4010 + c) 8 else 0

/-- The settings generation in force for a frame (R226). -/
def State.genFor (s : State) (f : Nat) : Nat :=
  match s.insp.front.gens.find? (fun g => decide (g.1 ≤ f)) with | some g => g.2 | none => s.reg 0x4000 7

/-! ## Packets (R216 to R220) -/

/-- The pixels of a packet's words (R216). -/
def unpackPixels (b : Nat) (ws : List Nat) : List Nat :=
  let v := ws.foldl (fun a w => a * 2 ^ 64 + w) 0
  let n := 64 * ws.length / b
  (List.range n).map (fun i => (v >>> (64 * ws.length - b * (i + 1))) % 2 ^ b)

/-- Stage A on one pixel (R220): its pixel code. -/
def stageA (b : Nat) (o : Int) (g : Nat) (x : Nat) : Nat :=
  let y := (((x * 2 ^ (16 - b) : Nat) : Int) - o) * g + 2048
  let y := y / 4096
  let c := clampInt 0 65535 y
  c.toNat + 65536 * ofBool (c ≠ y) + 131072 * ofBool (x = 2 ^ b - 1)

/-- Offset and gain of a pixel in a flat field; an empty one is the identity (R240). -/
def flatField (ff : Bytes) (x : Nat) : Int × Nat := if ff.isEmpty then (0, 4096) else (toSigned 16 (field ff (4 * x) 2), field ff (4 * x + 2) 2)

/-- The SC of an edge at an LTRIG ball, if the ball repeats it (R447). -/
def State.ballSc (s : State) (e : EdgeRec) (ball : Nat) : Option Nat :=
  (e.balls.find? (fun b => b.1 = ball)).map (fun b => e.sc + b.2 * s.reg 0x6000 3 / 200000000)

/-- The line clock edge a packet's SC matches (R217): the latest one. -/
def State.matchEdge (s : State) (c sc : Nat) : Option EdgeRec :=
  s.insp.front.edges.find? (fun e => match s.ballSc e (s.reg (0x4010 + c) 7) with
    | some t => decide (t ≤ sc) && decide (sc ≤ t + s.reg 0x4000 5)
    | none => false)

/-- Pixels received of a row. -/
def rowPixels (segs : List (Nat × List Nat)) : Nat := segs.foldl (fun a g => a + g.2.length) 0

/-- A received line of a camera. -/
def State.camLine (s : State) (c l : Nat) : Option CamLine := (s.cam c).lines.find? (fun x => x.line = l)

/-- Every pixel of every row of a line has arrived (R219). -/
def State.lineWhole (s : State) (c l : Nat) : Bool :=
  match s.camLine c l with
  | some x => (List.range (s.camRows c)).all (fun r => rowPixels (nthD [] x.rows r) = s.camWidth c)
  | none => false

/-- Line `l` of a camera is closed (R219). -/
def State.lineClosed (s : State) (c l : Nat) : Bool :=
  s.lineWhole c l || (match s.latestEdge with | some e => decide (l + s.reg 0x4000 4 ≤ e.index) | none => false)

/-- Two pixel ranges share a pixel. -/
def rangesMeet (a n b m : Nat) : Bool := decide (a < b + m) && decide (b < a + n)

/-- Raw buffer bytes a camera is given (R235). -/
def State.rawShare (s : State) (c : Nat) : Nat :=
  (s.reg 0x4000 4 + 1) * s.camRows c * s.camWidth c * depthOf (s.reg (0x4010 + c) 5) / 8

/-- Raw bytes of a camera's packets that wait for stage A. -/
def State.rawHeld (s : State) (c : Nat) : Nat := (s.insp.front.raw.filter (fun p => p.cam = c)).foldl (fun a p => a + p.bytes) 0

/-- The bridge offset after an accepted packet (R218). -/
def State.bridgeOffset (s : State) (c line l : Nat) : State :=
  let i := 0x4010 + c
  let off := (line + 2 ^ 32 - l % 2 ^ 32) % 2 ^ 32
  let s := if s.flag i 0x0D && s.reg i 0x0C ≠ off then s.inc32 0x4001 0x0C 1 else s
  (s.setReg i 0x0C off).setReg i 0x0D 1

/-- The pixels of an accepted packet enter their line, and wait for stage A in the raw input buffer (R217, R235). -/
def State.takePixels (s : State) (c l row first gen bytes : Nat) (px : List Nat) : State :=
  let add := fun (x : CamLine) =>
    { x with rows := modNth (fun segs => segs ++ [(first, px)]) x.rows row,
             gens := modNth (fun gs => if gs.contains gen then gs else gs ++ [gen]) x.gens row }
  (s.modCam c (fun x =>
    if x.lines.any (fun y => y.line = l) then { x with lines := x.lines.map (fun y => if y.line = l then add y else y) }
    else { x with lines := x.lines ++ [add ⟨l, [[], []], [[], []]⟩] })).modFront (fun x => { x with raw := x.raw ++ [⟨c, l, bytes⟩] })

/-- The tests of R217, in its order. An accepted packet that finds its camera's share of the raw input buffer full is discarded (R235). -/
def State.pixelPacket (s : State) (p : Packet) : State :=
  let c := p.stream
  let i := 0x4010 + c
  let w1 := p.words.getD 1 0
  let b := depthOf (s.reg i 5)
  let n := p.words.length - 2
  let row := bits w1 23 23
  let first := 64 * bits w1 8 0
  let count := 64 * n / b
  if s.reg 0x4000 2 ≠ stOn || (s.reg i 2 ≠ stEnabling && s.reg i 2 ≠ stOn) || p.group ≠ s.reg i 6 then s.inc32 0x2401 1 1
  else if p.channel ≠ 0 || bits w1 22 20 ≠ s.reg i 5 || bits w1 19 9 ≠ 0 || n = 0 || n % b ≠ 0 || (row = 1 && !s.dual c)
      || s.camWidth c < first + count then s.inc32 0x4001 2 1
  else match s.matchEdge c (p.words.getD 0 0) with
    | none => s.inc32 0x4001 1 1
    | some e =>
      if s.lineClosed c e.index then s.inc32 0x4001 3 1
      else if (match s.camLine c e.index with
          | some x => (nthD [] x.rows row).any (fun g => rangesMeet g.1 g.2.length first count) | none => false) then s.inc32 0x4001 4 1
      else
        let s := (s.bridgeOffset c (bits w1 63 32) e.index).setReg i 0x0F (bits w1 31 24)
        if s.rawShare c < s.rawHeld c + 8 * n then s.inc32 0x4001 8 1
        else s.takePixels c e.index row first (bits w1 31 24) (8 * n) (unpackPixels b (p.words.drop 2))

/-- Stage A takes the oldest packet of the camera whose turn it is (R21, R234). What it computes shows where stage B reads the pixels. -/
def State.stageATurn (s : State) : State :=
  match rotating 16 s.insp.front.ptrA (s.insp.front.raw.map (fun p => p.cam)) with
  | some c =>
    s.modFront (fun x => { x with raw := (match x.raw.find? (fun p => p.cam = c) with | some p => x.raw.erase p | none => x.raw), ptrA := (c + 1) % 16 })
  | none => s

/-- PIXEL_PACKET_RX (R217): the packets that have arrived are tested in their order, and stage A corrects one. -/
def execPixelPacketRx (s : State) : Result :=
  .next ((({ s with sheaf := { s.sheaf with pixels := [] } } : State).each s.sheaf.pixels (fun p s => s.pixelPacket p)).stageATurn)

/-! ## Stage B (R219, R221 to R224) -/

/-- Bits of a pixel code: filled, VERTICAL, replaced. -/
abbrev pxFilled : Nat := 18
abbrev pxVertical : Nat := 19
abbrev pxReplaced : Nat := 20

/-- A pixel code's value. -/
def pxValue (v : Nat) : Nat := v % 65536

/-- Stage A on the segments of a row (R220). -/
def correctRow (b : Nat) (ff : Bytes) (segs : List (Nat × List Nat)) : List (Nat × List Nat) :=
  segs.map (fun g => (g.1, (List.range g.2.length).map (fun i => let f := flatField ff (g.1 + i); stageA b f.1 f.2 (g.2.getD i 0))))

/-- A row of a closed line with its missing pixels filled (R219). -/
def fillRow (w : Nat) (zero : Bool) (prev : List Nat) (segs : List (Nat × List Nat)) : List Nat :=
  (List.range w).map (fun x =>
    match segs.find? (fun g => decide (g.1 ≤ x) && decide (x < g.1 + g.2.length)) with
    | some g => g.2.getD (x - g.1) 0
    | none => (if zero then 0 else prev.getD x 0) + 2 ^ pxFilled)

/-- Pixel `x` is marked in a defect map (R242). -/
def marked (dm : Bytes) (x : Nat) : Bool := !dm.isEmpty && bitAt (dm.getD (x / 8) 0).toNat (7 - x % 8)

/-- Replacement of the pixels a defect map marks (R221). -/
def replaceRow (step : Nat) (dm : Bytes) (prev row : List Nat) : List Nat :=
  if dm.isEmpty then row else
  let w := row.length
  let v := fun x => pxValue (row.getD x 0)
  (List.range w).map (fun x =>
    let old := row.getD x 0
    if marked dm x then
      let js := [1, 2, 3, 4]
      let left := (js.find? (fun j => decide (step * j ≤ x) && !marked dm (x - step * j))).map (fun j => v (x - step * j))
      let right := (js.find? (fun j => decide (x + step * j < w) && !marked dm (x + step * j))).map (fun j => v (x + step * j))
      let r := match left, right with
        | some a, some b => ((a + b + 1) / 2, false)
        | some a, none => (a, false)
        | none, some b => (b, false)
        | none, none => (prev.getD x 0, true)
      old - pxValue old + r.1 + 2 ^ pxReplaced + (if r.2 then 2 ^ pxVertical else 0)
    else old)

/-- The missing colour at a column from its neighbours (R223). -/
def missingColour (w : Nat) (g k : Nat → Int) (x : Nat) : Nat :=
  let cl := k (x - 1) - g (x - 1)
  let cr := k (x + 1) - g (x + 1)
  let dl := (g x - g (x - 1)).natAbs
  let dr := (g x - g (x + 1)).natAbs
  let c := if x = 0 then cr else if x = w - 1 then cl else if 2 * dl ≤ dr then cl else if 2 * dr ≤ dl then cr else (cl + cr + 1) / 2
  (clampInt 0 65535 (g x + c)).toNat

/-- Planes Y, R, G, B of a dual-line output line (R222, R223). -/
def demosaic (row0 row1 : List Nat) : List (List Nat) :=
  let w := row0.length
  let a := fun x => pxValue (row0.getD x 0)
  let b := fun x => pxValue (row1.getD x 0)
  let g := fun x => if x % 2 = 0 then b x else a x
  let known := fun x => if x % 2 = 0 then a x else b x
  let rs := (List.range w).map (fun x => if x % 2 = 0 then known x else missingColour w (fun i => g i) (fun i => known i) x)
  let bs := (List.range w).map (fun x => if x % 2 = 1 then known x else missingColour w (fun i => g i) (fun i => known i) x)
  let gs := (List.range w).map g
  let ys := (List.range w).map (fun x => (77 * rs.getD x 0 + 150 * gs.getD x 0 + 29 * bs.getD x 0 + 128) / 256)
  [ys, rs, gs, bs]

/-- The corrected row `r` of sensor line `m`, with the tables in force for the frame `f` of its output line (R220 to R222); a line that does not exist is
all missing. -/
def State.stageRow (s : State) (c r : Nat) (m : Int) (f : Nat) : List Nat :=
  let segs := if m < 0 then [] else match s.camLine c m.toNat with | some x => nthD [] x.rows r | none => []
  let prev := nthD [] (s.cam c).prev r
  let ff := s.domAt (0x4050 + c) (r + 1) (s.frameSc f)
  let row := fillRow (s.camWidth c) (s.reg 0x4000 6 = 1) prev (correctRow (depthOf (s.reg (0x4010 + c) 5)) ff segs)
  replaceRow (if s.dual c then 2 else 1) (s.domAt (0x4070 + c) (r + 1) (s.frameSc f)) prev row

/-- GEN values received for row `r` of sensor line `m`. -/
def State.lineGens (s : State) (c r : Nat) (m : Int) : List Nat :=
  if m < 0 then [] else match s.camLine c m.toNat with | some x => nthD [] x.gens r | none => []

/-- GEN of a row differs from the generation in force for its line's frame (R227). -/
def State.rowMismatch (s : State) (c r : Nat) (m : Int) : Bool := (s.lineGens c r m).any (fun g => g ≠ s.genFor (m.toNat / s.frameLen) % 256)

/-! ## Statistics (R230 to R233) -/

/-- Empty statistics of a frame. -/
def StatsAcc.start (f : Nat) (colour : Bool) : StatsAcc :=
  { frame := f, lines := 0, excluded := 0, pixels := 0, rawSat := 0, clamped := 0, replaced := 0, lo := 0xFFFF, hi := 0,
    sums := List.replicate 6 0, hist := List.replicate 256 0, flags := 8 * ofBool colour }

/-- One counted pixel (R230, R233): its row codes and its plane values, Y first. -/
def StatsAcc.pixel (a : StatsAcc) (codes : List Nat) (planes : List Nat) : StatsAcc :=
  let y := planes.headD 0
  let cols := match planes with | [_, r, g, b] => [r, g, b] | _ => [y, 0, 0]
  let any := fun bit => codes.any (fun v => bitAt v bit)
  { a with pixels := a.pixels + 1, rawSat := satAdd32 a.rawSat (ofBool (any 17)), clamped := satAdd32 a.clamped (ofBool (any 16)),
           replaced := satAdd32 a.replaced (ofBool (any pxReplaced)), lo := min a.lo y, hi := max a.hi y,
           sums := (List.range 3).foldl (fun m i =>
             let v := cols.getD i 0
             modNth (fun t => t + v * v) (modNth (fun t => t + v) m (2 * i)) (2 * i + 1)) a.sums,
           hist := modNth (fun n => satAdd32 n 1) a.hist (y / 256) }

/-- An output line enters the statistics of its frame (R232). -/
def StatsAcc.line (a : StatsAcc) (lo hi : Nat) (x : FifoLine) (rows planes : List (List Nat)) : StatsAcc :=
  let f := ofBool x.genMismatch * 128 + ofBool x.splitGen * 64 + ofBool x.isPartial * 32 + ofBool x.missing * 16
  let a := { a with flags := a.flags ||| f }
  if x.genMismatch || x.splitGen then { a with excluded := satAdd32 a.excluded 1 }
  else
    let w := (planes.headD []).length
    (List.range w).foldl (fun a p =>
      let codes := rows.map (fun r => r.getD p 0)
      if p < lo || hi < p || codes.any (fun v => bitAt v pxFilled || bitAt v pxVertical) then a
      else a.pixel codes (planes.map (fun r => r.getD p 0))) { a with lines := satAdd32 a.lines 1 }

/-- The words of a statistics record (R233). -/
def State.statsWords (s : State) (c lo hi : Nat) (a : StatsAcc) : List Nat :=
  let e := match s.edgeOf (a.frame * s.frameLen) with | some e => e | none => ⟨0, 0, 0, 0, []⟩
  let w1 := 0xC * 2 ^ 60 + c * 2 ^ 56 + a.frame % 2 ^ 32 * 2 ^ 24 + s.reg 0x4000 0x0A * 2 ^ 8 + a.flags
  let pair := fun x y => x * 2 ^ 32 + y
  [e.sc, w1, pair (s.genFor a.frame) (s.epochAt e.sc), pair a.lines a.excluded, a.pixels, pair a.rawSat a.clamped,
   a.replaced * 2 ^ 32 + lo * 2 ^ 16 + hi, e.tb0 / 2 ^ 32 * 2 ^ 16, e.tb0 % 2 ^ 32 * 2 ^ 32]
    ++ a.sums ++ (List.range 128).map (fun h => pair (a.hist.getD (2 * h) 0) (a.hist.getD (2 * h + 1) 0))

/-- A statistics packet goes to its stream (R79, R231): one with no group discards it; else it may wait there until one frame has gone by. -/
def State.sendStats (s : State) (stream : Nat) (ws : List Nat) : State :=
  if stream = 0xFF then s
  else if s.reg (0x2700 + stream) 1 = 0xFF then s.inc32 0x4001 0x0A 1
  else
    let now := match s.latestEdge with | some e => e.index | none => 0
    (s.streamPut stream ⟨0, ws⟩).modFront (fun x => { x with owed := x.owed ++ [⟨stream, ws, now + s.frameLen⟩] })

/-- Statistics packets that have waited at their streams for one frame are discarded and counted (R231). -/
def State.statsLate (s : State) (l : Nat) : State :=
  let due := s.insp.front.owed.filter (fun o => decide (o.limit ≤ l))
  (s.each due (fun o s =>
    if (s.stream o.stream).ready.contains ⟨0, o.words⟩ then
      (s.setStream o.stream { s.stream o.stream with ready := (s.stream o.stream).ready.erase ⟨0, o.words⟩ }).inc32 0x4001 0x0A 1
    else s)).modFront (fun x => { x with owed := x.owed.filter (fun o => decide (l < o.limit)) })

/-- A statistics record is formed: copied, stored in the ring, sent on its stream (R231). With no pixel counted, the minimum and maximum are free values (log 33). -/
def State.formStats (s : State) (c : Nat) (a : StatsAcc) : State :=
  let d := s.draw 32
  let s := if a.pixels = 0 then d.2 else s
  let ws := if a.pixels = 0 then s.statsWords c (d.1 / 65536) (d.1 % 65536) a else s.statsWords c a.lo a.hi a
  let bytes := ws.flatMap (beBytes 8)
  let s := s.setReg (0x4090 + c) 1 (ofBytes bytes)
  let s := if s.flag 0x4000 0x10 then s.store clsH (s.reg 0x4000 0x0C + (a.frame % 8 * 16 + c) * 2048) bytes else s
  let stream := s.regAt 0x4000 0x0B (s.frameSc a.frame)
  (s.sendStats stream ws).fire 0x80 c

/-- STATS_RECORD_FORMED (R231): not before the line clock edge of the next frame. -/
def execStatsRecordFormed (camera : Nat) (s : State) : Result :=
  inst (decide (camera < 16))
    (match (s.cam camera).ready, s.latestEdge with
     | a :: rest, some e =>
       if (a.frame + 1) * s.frameLen ≤ e.index then .next ((s.modCam camera (fun x => { x with ready := rest })).formStats camera a) else .next s
     | _, _ => .next s)

/-! ## An output line (R222 to R224) -/

/-- What stage B makes of an output line: the state, the line's flags and its planes. -/
structure OutLine where
  s : State
  info : FifoLine
  planes : List (List Nat)

/-- The next output line of a camera can be formed: both rows have closed and passed stage A (R219, R222, R234). -/
def State.outReady (s : State) (c : Nat) : Bool :=
  let x := s.cam c
  let l := x.nextOut
  let m := (l : Int) + s.rowDelay c
  x.firstLine.isSome && (match x.lastLine with | some k => decide (l ≤ k) | none => true) && s.lineClosed c l && (decide (m < 0) || s.lineClosed c m.toNat)
    && !s.insp.front.raw.any (fun p => p.cam = c && (p.line = l || (p.line : Int) = m))

/-- The camera whose closed line stage B takes next (R21, R234). -/
def State.stageBCam (s : State) : Option Nat := rotating 16 s.insp.front.ptrB ((List.range 16).filter s.outReady)

/-- Stage B on the next output line of a camera (R221 to R224, R229, R232). -/
def State.stageB (s : State) (c : Nat) : OutLine :=
  let x := s.cam c
  let l := x.nextOut
  let f := l / s.frameLen
  let ms : List Int := if s.dual c then [l, (l : Int) + s.rowDelay c] else [l]
  let rows := (List.range ms.length).map (fun r => s.stageRow c r (ms.getD r 0) f)
  let planes := if s.dual c then demosaic (rows.getD 0 []) (rows.getD 1 []) else rows.map (fun r => r.map pxValue)
  let filled := rows.any (fun r => r.any (fun v => bitAt v pxFilled))
  let isMissing := rows.all (fun r => r.all (fun v => bitAt v pxFilled))
  let mism := (List.range ms.length).any (fun r => s.rowMismatch c r (ms.getD r 0))
  let split := s.dual c && (s.lineGens c 0 (ms.getD 0 0)).any (fun g => (s.lineGens c 1 (ms.getD 1 0)).any (fun h => g ≠ h))
  let info : FifoLine := ⟨l, f, s.genFor f, s.epochAt (s.frameSc f), s.dual c, filled && !isMissing, isMissing, mism, split, planes.headD []⟩
  let i := 0x4010 + c
  let acc := (x.stats.getD (StatsAcc.start f (s.dual c))).line (s.lineReg l i 9) (s.lineReg l i 0x0A) info rows planes
  let last := (l + 1) % s.frameLen = 0
  let old := match s.latestEdge with | some e => fun (y : CamLine) => decide (y.line + s.reg 0x4000 4 ≤ e.index) && decide (y.line + 4 < l) | none => fun _ => false
  let s := s.modCam c (fun x => { x with nextOut := l + 1, prev := rows.map (fun r => r.map pxValue), stats := if last then none else some acc,
                                         ready := if last then x.ready ++ [acc] else x.ready, lines := x.lines.filter (fun y => !old y) })
  let replaced := rows.foldl (fun a r => a + (r.filter (fun v => bitAt v pxReplaced)).length) 0
  let s := ((s.inc64 i 0x0B 1).inc64 i 0x0E replaced)
  let s := if isMissing then s.inc32 0x4001 5 1 else if filled then s.inc32 0x4001 6 1 else s
  let s := if mism then s.inc32 0x4001 7 1 else s
  ⟨s, info, planes⟩

/-! ## Camera settings (R225 to R228) -/

/-- The setting number and value of a settings entry; none for an unused opaque slot (R225). -/
def State.setting (s : State) (c sub : Nat) : Option (Nat × Nat) :=
  let v := s.reg (0x4030 + c) sub
  if sub ≤ 4 then some (sub - 1, v) else if bits v 43 32 = 0 then none else some (bits v 43 32, v % 2 ^ 32)

/-- Insert by setting number. -/
def insertSetting (x : Nat × Nat) : List (Nat × Nat) → List (Nat × Nat)
  | [] => [x]
  | y :: ys => if x.1 ≤ y.1 then x :: y :: ys else y :: insertSetting x ys

/-- Queue a CAM_SET word, or count it lost (R60, R228). -/
def State.camSet (s : State) (c gen n v : Nat) : State :=
  let lane := s.reg (0x2440 + s.reg (0x4010 + c) 6) 6
  let up := match s.groupOf true lane with | some g => s.reg g 2 = stOn | none => false
  if up && s.controlOk lane then s.queueControl lane (ctrlWord 2 (c * 2 ^ 52 + n * 2 ^ 40 + gen % 256 * 2 ^ 32 + v)) else s.inc32 0x4001 0x0B 1

/-- The words of some settings of a camera in ascending setting number, then APPLY (R226). -/
def State.sendSettings (s : State) (c gen applyLine : Nat) (subs : List Nat) : State :=
  let ws := (subs.filterMap (s.setting c)).foldl (fun l x => insertSetting x l) []
  (s.each ws (fun w s => s.camSet c gen w.1 w.2)).camSet c gen 0xFFF applyLine

/-- An armed set that changes settings becomes live (R226): `keys` lists camera and sub-index. -/
def State.settingsLive (s : State) (keys : List (Nat × Nat)) : State :=
  if keys.isEmpty then s
  else
    let s := s.setReg 0x4000 7 ((s.reg 0x4000 7 + 1) % 2 ^ 32)
    match s.latestEdge with
    | some e => s.modFront (fun x => { x with changed := x.changed ++ keys.filter (fun k => !x.changed.contains k), changeFrame := some (e.index / s.frameLen) })
    | none => s

/-- The settings of frame `f − 1` are sent at its end, and their generation is in force from the frame after (R226). -/
def State.settingsBoundary (s : State) (f : Nat) : State :=
  match s.insp.front.changeFrame with
  | none => s
  | some _ =>
    let gen := s.reg 0x4000 7
    let keys := s.insp.front.changed
    let s := s.each ((List.range 16).filter (fun c => s.reg (0x4010 + c) 2 = stOn || s.reg (0x4010 + c) 2 = stEnabling)) (fun c s =>
      let i := 0x4010 + c
      let at_ := if s.flag i 0x0D then ((f + 1) * s.frameLen + s.reg i 0x0C) % 2 ^ 32 else 0xFFFFFFFF
      s.sendSettings c gen at_ ((keys.filter (fun k => k.1 = c)).map (fun k => k.2)))
    s.modFront (fun x => { x with changed := [], changeFrame := none, gens := (f + 1, gen) :: x.gens })

/-! ## Enables (R235, R239) -/

/-- A camera is enabled. -/
def State.camEnabled (s : State) (c : Nat) : Bool := s.reg (0x4010 + c) 2 ≠ stOff

/-- The raw input buffer would hold the shares of the enabled cameras and of `c` (R235). -/
def State.rawFits (s : State) (extra : List Nat) : Bool :=
  decide (((List.range 16).filter (fun c => s.camEnabled c || extra.contains c)).foldl (fun a c => a + s.rawShare c) 0 ≤ 12582912)

/-- Bytes of a stored pixel (R236). -/
def pixelBytes (format : Nat) : Nat := match format with | 0 => 2 | 1 => 1 | 2 => 3 | _ => 6

/-- line_pitch (R236). -/
def linePitch (w format : Nat) : Nat := 64 + (w * pixelBytes format + 63) / 64 * 64

/-- slot_bytes (R236). -/
def State.slotBytesFor (s : State) (w format : Nat) : Nat := (s.frameLen * linePitch w format + 1048575) / 1048576 * 1048576

/-- The largest slot the frame store may need (R236). -/
def State.slotLimit (s : State) : Nat := s.slotBytesFor (s.reg 0x4400 4) (s.reg 0x4000 0x0F)

/-- The refusal of a front end enable, or 0 (R239). -/
def frontEnableCheck (s : State) : Nat :=
  if s.rawFits [] && (s.reg 0x4000 0x0E = 0 || decide (s.reg 0x4000 0x0D + s.reg 0x4000 0x0E * s.slotLimit ≤ s.protSize + s.unprotSize)) then 0 else dRule

/-- The refusal of a camera enable, or 0 (R239). -/
def cameraEnableCheck (s : State) (c : Nat) : Nat :=
  if s.rawFits [c] && s.reg (0x2440 + s.reg (0x4010 + c) 6) 6 ≠ 0xFF then 0 else dRule

/-- The front end enters ENABLING: the next edge becomes line 0, and no bridge offset of the run is known (R213, R218, R239). -/
def State.frontEnabling (s : State) : State :=
  let s := s.modGen (fun g => { g with feed := [], nextLine := 0 })
  let s := s.each (List.range 16) (fun c s => s.setReg (0x4010 + c) 0x0D 0)
  s.modFront (fun x => { x with edges := [], lastLine := none, gens := [], changed := [], changeFrame := none, slotSize := s.slotLimit, raw := [] })

/-- A camera enters ENABLING: every setting is sent (R228). -/
def State.cameraEnabling (s : State) (c : Nat) : State :=
  ((s.forgetSeqs 2 (fun k => decide (k = c))).modCam c (fun _ => Camera.reset)).sendSettings c (s.reg 0x4000 7) 0xFFFFFFFF ((List.range 32).map (· + 1))

/-- The last line of the frame in progress. -/
def State.frameEnd (s : State) : Option Nat := s.latestEdge.map (fun e => (e.index / s.frameLen + 1) * s.frameLen - 1)

/-- A camera enters DISABLING: it completes the frame in progress (R239). -/
def State.cameraDisabling (s : State) (c : Nat) : State :=
  s.modCam c (fun x => { x with lastLine := if x.firstLine.isSome then s.frameEnd else none })

/-- The front end enters DISABLING, and every camera with it (R239). -/
def State.frontDisabling (s : State) : State :=
  let s := s.modFront (fun x => { x with lastLine := s.frameEnd })
  s.each (List.range 16) (fun c s =>
    let i := 0x4010 + c
    let st := s.reg i 2
    if st = stOn || st = stEnabling then ((s.setReg i 1 0).setReg i 2 stDisabling).cameraDisabling c
    else if st = stPending then (s.setReg i 1 0).setReg i 2 stDisabling else s)

/-- A camera in DISABLING has handed over its last line and its statistics. -/
def State.cameraIdle (s : State) (c : Nat) : Bool :=
  let x := s.cam c
  match x.firstLine, x.lastLine with
  | some _, some k => decide (k < x.nextOut) && x.ready.isEmpty
  | _, _ => true

/-- The front end in DISABLING has completed its frame, and every camera that was disabled with it is OFF; one enabled meanwhile waits in ENABLING for
the next run (R239). -/
def State.frontIdle (s : State) : Bool :=
  (List.range 16).all (fun c => !s.camEnabled c || s.reg (0x4010 + c) 2 = stEnabling) &&
  (match s.insp.front.lastLine, s.latestEdge with | some k, some e => decide (k ≤ e.index) | _, _ => true)

/-- A camera reaches OFF. -/
def State.cameraTurnsOff (s : State) (c : Nat) : State :=
  (s.modCam c (fun x => { Camera.reset with fifo := x.fifo })).modFront (fun x => { x with raw := x.raw.filter (fun p => p.cam ≠ c) })

/-! ## Write rules (R225, R236, R240 to R242) -/

/-- The owning unit of an RWX entry of chapter 7 is OFF. -/
def cameraOwnerOff (s : State) (idx : Nat) : Bool := if 0x4010 ≤ idx && idx ≤ 0x401F then s.reg idx 2 = stOff else s.reg 0x4000 2 = stOff

/-- The refusal a write to an entry of chapter 7 meets, or 0. `eff` reads an entry as it will stand. -/
def cameraCheck (s : State) (eff : Nat → Nat → Nat) (idx sub v : Nat) : Nat :=
  if idx = 0x4000 && sub = 0x0F then
    if 3 < v then dRange
    else (if s.reg 0x4000 2 ≠ stOff && s.insp.front.slotSize < s.slotBytesFor (s.reg 0x4400 3) v then dRule else 0)
  else if 0x4010 ≤ idx && idx ≤ 0x401F then (if (sub = 8 && v = 0 && s.reg idx 3 = 1) || (sub = 3 && v = 1 && s.reg idx 8 = 0) then dRange else 0)
  else if 0x4030 ≤ idx && idx ≤ 0x403F && 5 ≤ sub && sub ≤ 0x20 then
    let n := bits v 43 32
    if 2 ^ 44 ≤ v || (n ≠ 0 && (n < 0x100 || 0xFFE < n)) then dRange
    else if n ≠ 0 && (List.range 28).any (fun i => i + 5 ≠ sub && bits (eff idx (i + 5)) 43 32 = n) then dRule else 0
  else 0

/-- An armed table has not been applied yet (R240): SC_c has not come, or no frame has begun since. -/
def State.tableWaits (s : State) (idx sub : Nat) : Bool :=
  let k := key idx sub
  (match s.dict.armed with | some a => (lookup a.2 k).isSome | none => false) ||
  (s.reg 0x4000 2 ≠ stOff && (match s.latestEdge with
    | some e => s.dict.past.any (fun p => p.key = k && decide (s.frameSc (e.index / s.frameLen) < p.sc))
    | none => false))

/-- The refusal that a flat field or defect map meets, or 0 (R240, R242). -/
def cameraDomCheck (s : State) (idx sub : Nat) (bs : Bytes) : Nat :=
  let c := idx % 16
  let want := if idx < 0x4070 then 4 * s.camWidth c else s.camWidth c / 8
  if bs.length ≠ 0 && bs.length ≠ want then dRange
  else if s.tableWaits idx sub then dState else 0

end Sys2Proof.Machine
end

