-- ==== Sys2Proof/Machine/Trig.lean ====
section
/-! DEFINITION. Cosine and sine of a fraction of a turn, in fixed point: the rotator table of R86 and every other table the manual gives as a rounded trigonometric value. -/

namespace Sys2Proof.Machine

/-- π in units of 2^-60. -/
def piFixed : Int := 3622009729038561421

/-- The sum of a Taylor series in units of 2^-60: `t` is the term of order `n`, `a2` the square of the angle. -/
def taylor (a2 : Int) : Nat → Nat → Int → Int
  | 0, _, _ => 0
  | fuel + 1, n, t => t + taylor a2 fuel (n + 2) (-(t * a2 / ((2 ^ 60 : Nat) : Int)) / (((n + 1) * (n + 2) : Nat) : Int))

/-- Cosine and sine of `r / n` of a turn for `r / n` at most a quarter, in units of 2^-60. -/
def cosSinQuarter (r n : Nat) : Int × Int :=
  let a := piFixed * (2 * (r : Int)) / (n : Int)
  let a2 := a * a / ((2 ^ 60 : Nat) : Int)
  (taylor a2 16 0 ((2 ^ 60 : Nat) : Int), taylor a2 16 1 a)

/-- Cosine and sine of `k / n` of a turn in units of 2^-60, for `n` a multiple of 4. -/
def cosSin (k n : Nat) : Int × Int :=
  let k := k % n
  let r := k % (n / 4)
  let cs := if r = 0 then (((2 ^ 60 : Nat) : Int), 0) else cosSinQuarter r n
  match k / (n / 4) with
  | 0 => cs
  | 1 => (-cs.2, cs.1)
  | 2 => (-cs.1, -cs.2)
  | _ => (cs.2, -cs.1)

/-- `amp` times a value in units of 2^-60, rounded to the nearest integer. -/
def scaleFixed (amp : Nat) (x : Int) : Int := rneShift ((amp : Int) * x) 60

/-- The rotator table of R86: cosine and sine of `k / 4096` of a turn, times 32,767. -/
def rotator (k : Nat) : Int × Int :=
  let cs := cosSin k 4096
  (scaleFixed 32767 cs.1, scaleFixed 32767 cs.2)

end Sys2Proof.Machine
end

