-- ==== Sys2Proof/Machine/Crib.lean ====
section
/-! DEFINITION. Stream conditioning, crib, loft readout, silos and silo readout (chapter 3). -/

namespace Sys2Proof.Machine

/-! ## Geometry (R80, R92) -/

/-- The crib is ON. -/
def State.cribOn (s : State) : Bool := s.reg 0x2800 2 = stOn

/-- Bits of a conditioned sample (R80). -/
def sampleWidth (format : Nat) : Nat := if format = 2 then 16 else 8

/-- The flag code of a stored sample (R82). -/
def flagSample (format : Nat) : Nat := if format = 2 then 0x8080 else 0x88

/-- Enabled blocks, ascending. -/
def blocksOf (blocks : Nat) : List Nat := setBitsOf 128 blocks

/-- Bytes of a slab (R92). -/
def slabBytes (chans blocks format : Nat) : Nat := 64 * chans * (64 * popCount 128 blocks) * sampleWidth format / 8

/-- The slab size of the live geometry. -/
def State.slabBytes (s : State) : Nat := Machine.slabBytes (s.reg 0x2800 4) (s.reg 0x2800 7) (s.reg 0x2800 3)

/-- SC of spectrum `n` (R80). -/
def State.spectrumSc (s : State) (n : Nat) : Nat := s.reg 0x2800 6 + n * s.reg 0x2800 5

/-- The byte ranges held by silos that are not FREE. -/
def State.siloRanges (s : State) : List (Nat × Nat) :=
  ((List.range 64).filter (fun j => s.reg (0x2840 + j) 1 ≠ 0)).flatMap (fun j =>
    let x := nthD Silo.reset s.crib.silos j
    x.slabs.map (fun p => (p.2, Machine.slabBytes x.channels x.blocks x.format)))

/-- The ring positions of an enable: those that overlap no range of a silo that is not FREE (R92, R108). -/
def State.ringPositions (s : State) : List Nat :=
  let b := s.slabBytes
  if b = 0 then [] else
  let held := s.siloRanges
  ((List.range (s.reg 0x2800 9 / b)).map (fun k => s.reg 0x2800 8 + k * b)).filter (fun a =>
    held.all (fun h => decide (a + b ≤ h.1) || decide (h.1 + h.2 ≤ a)))

/-- The loft step S in spectra (R113). -/
def stepSpectra (code : Nat) : Nat := 256 * 2 ^ code

/-- R_min of R102, from the values `eff` gives: the widest window of a bay with a channel. -/
def ringMin (bays : Nat) (eff : Nat → Nat → Nat) : Nat :=
  let w := (List.range bays).foldl (fun a k => if eff (0x2810 + k) 1 = 0 then a else max a (eff (0x2810 + k) 2 / 64)) 0
  2 * w + eff 0x2800 0x0A + 2

/-- The ring condition of R102 for a ring of `r` positions and a pin limit. -/
def ringOk (r rmin limit : Nat) : Bool := decide (rmin ≤ r) && (limit = 0 || decide (limit ≤ r - rmin))

/-- The loft half condition of R98. -/
def loftOk (bays : Nat) (eff : Nat → Nat → Nat) : Bool :=
  (List.range bays).all (fun k =>
    decide (64 * popCount 128 (eff 0x2800 7) * stepSpectra (eff (0x2810 + k) 3) * sampleWidth (eff 0x2800 3) / 8 ≤ 4194304))

/-! ## Silo pins (R105, R106) -/

/-- Silo `j` beside its entries. -/
def State.silo (s : State) (j : Nat) : Silo := nthD Silo.reset s.crib.silos j

/-- Replace silo `j`. -/
def State.modSilo (s : State) (j : Nat) (f : Silo → Silo) : State :=
  { s with crib := { s.crib with silos := modNth f s.crib.silos j } }

/-- The state code of silo `j` (R107). -/
def State.siloState (s : State) (j : Nat) : Nat := s.reg (0x2840 + j) 1

/-- Addresses of the pinned slabs, each once (R106). -/
def State.pinnedAddrs (s : State) : List Nat :=
  (s.crib.silos.flatMap (fun x => if x.inEffect then x.slabs.map (fun p => p.2) else [])).eraseDups

/-- Set a flag of a silo: 0 TRUNC_PRE, 1 TRUNC_POST, 2 LOST. -/
def State.siloFlag (s : State) (j bit : Nat) : State := s.regBit (0x2840 + j) 7 bit true

/-- Show what a silo holds in its entries. -/
def State.showSilo (s : State) (j : Nat) : State :=
  let x := s.silo j
  let sc := fun (p : Nat × Nat) (off : Nat) => x.origin + (64 * p.1 + off) * x.period
  match x.slabs.head?, x.slabs.getLast? with
  | some a, some b =>
    ((s.setReg (0x2840 + j) 2 (sc a 0)).setReg (0x2840 + j) 3 (sc b 63)).setReg (0x2840 + j) 9
      (x.slabs.length * Machine.slabBytes x.channels x.blocks x.format)
  | _, _ => s.setReg (0x2840 + j) 9 0

/-- The silo ends at its last pinned slab (R106). -/
def Silo.cut (x : Silo) : Silo :=
  { x with closed := true, stop := match x.slabs.getLast? with | some p => p.1 + 1 | none => x.first }

/-- Insert by slab index. -/
def insertPair (p : Nat × Nat) : List (Nat × Nat) → List (Nat × Nat)
  | [] => [p]
  | q :: qs => if p.1 ≤ q.1 then p :: q :: qs else q :: insertPair p qs

/-- Ascending by slab index. -/
def sortPairs (ps : List (Nat × Nat)) : List (Nat × Nat) := ps.foldr insertPair []

/-- Pin one slab for a silo, whose slabs stay in ascending order, unless the pin limit forbids it (R106). -/
def State.pinSlab (s : State) (j idx addr : Nat) : State :=
  if (s.silo j).closed then s
  else
    let pinned := s.pinnedAddrs
    if pinned.contains addr || decide (pinned.length < s.reg 0x2800 0x0C) then
      (s.modSilo j (fun x => { x with slabs := insertPair (idx, addr) x.slabs })).showSilo j
    else (s.modSilo j Silo.cut).siloFlag j 1

/-- A silo reaches HELD: SILO_HELD fires (R107). -/
def State.siloHeld (s : State) (j : Nat) : State := (s.setReg (0x2840 + j) 1 2).fire 0x12 j

/-- A FILLING silo with nothing left to wait for goes to HELD (R107). -/
def State.settleSilo (s : State) (j : Nat) : State :=
  let x := s.silo j
  if s.siloState j = 1 && x.inEffect && (x.closed || decide (x.stop ≤ s.crib.sealedTo))
      && x.slabs.all (fun p => decide (p.1 < s.crib.sealedTo)) then s.siloHeld j
  else s

/-- The pins of silo `j` take effect (R105, R106). -/
def State.pinsEffect (s : State) (j : Nat) : State :=
  let x := s.silo j
  let later := if s.sc < s.reg 0x2800 6 then 0 else (s.sc - s.reg 0x2800 6) / (64 * s.reg 0x2800 5) + 1
  let inside := s.crib.slabs.filter (fun b => decide (x.first ≤ b.index) && decide (b.index < x.stop))
  let present := inside.filterMap (fun b => b.addr.map (fun a => (b.index, a)))
  let known := (inside.filter (fun b => decide (b.index < later))).length
  let pre := decide (known < min x.stop later - x.first)
  let lost := inside.any (fun b => b.addr.isNone)
  let full := decide (s.reg 0x2800 0x0C ≤ s.pinnedAddrs.length)
  let s := s.modSilo j (fun x => { x with inEffect := true, later := later })
  let s := (s.whenB pre (fun s => s.siloFlag j 0)).whenB lost (fun s => s.siloFlag j 2)
  let s := if present.isEmpty && (full || decide (x.stop ≤ later)) then (s.siloFlag j 0).modSilo j (fun x => { x with closed := true })
           else s.each (sortPairs present) (fun p s => s.pinSlab j p.1 p.2)
  (s.showSilo j).settleSilo j

/-- PINS_TAKE_EFFECT (R105). -/
def execPinsTakeEffect (silo : Nat) (s : State) : Result :=
  inst (decide (silo < 64)) (if s.siloState silo = 1 && !(s.silo silo).inEffect then .next (s.pinsEffect silo) else .next s)

/-! ## Claiming slabs (R93) -/

/-- Whether a loft step of `spectra` spectra from `first` uses slab `i`. -/
def usesSlab (first spectra i : Nat) : Bool := decide (first < 64 * (i + 1)) && decide (64 * i < first + spectra)

/-- Whether bay `k` still has to read slab `i` (R95): the reader has not passed it, or a loft half or work order on it is not retired (R132). -/
def State.bayNeeds (s : State) (k i : Nat) : Bool :=
  let b := nthD ⟨0, none⟩ s.crib.bays k
  (match b.reading with
   | some w => decide (b.start ≤ 64 * i) &&
      !(decide (64 * i < b.start + w.len) && decide (w.done + 1 = w.chans.length) && decide (64 * i < b.start + w.next * w.step))
   | none => s.regAt (0x2810 + k) 1 (s.spectrumSc b.start) ≠ 0 && decide (b.start ≤ 64 * i)) ||
  (List.range 2).any (fun h =>
    let x := nthD LoftHalf.reset s.crib.lofts (2 * k + h)
    x.held && usesSlab (x.window + x.step * x.spectra) x.spectra i) ||
  s.xarray.orders.any (fun o => o.bay = k && (match o.half with | some x => usesSlab x.first x.spectra i | none => false))

/-- A slab is read-complete (R95). -/
def State.readComplete (s : State) (i : Nat) : Bool := (List.range s.board.bays).all (fun k => !s.bayNeeds k i)

/-- The position the writer claims (R93): an empty one, else the one of the oldest sealed, read and unpinned slab. -/
def State.freePosition (s : State) : Option Nat :=
  let used := s.crib.slabs.filterMap (fun b => b.addr)
  match s.crib.ring.find? (fun a => !used.contains a) with
  | some a => some a
  | none =>
    let pinned := s.pinnedAddrs
    let free := s.crib.slabs.filter (fun b => decide (b.index < s.crib.sealedTo) &&
      (match b.addr with | some a => !pinned.contains a | none => false) && s.readComplete b.index)
    (free.foldl (fun (a : Option Slab) b => match a with | some o => if b.index < o.index then some b else some o | none => some b) none).bind
      (fun b => b.addr)

/-- Replace the slab records. -/
def State.setSlabs (s : State) (slabs : List Slab) : State := { s with crib := { s.crib with slabs := slabs } }

/-- The first write to a slab claims a position, or the slab is lost and CRIB_FULL fires (R93). A silo whose window it lies in pins it (R105). -/
def State.claimSlab (s : State) (i : Nat) : State :=
  match s.freePosition with
  | some a =>
    let s := s.setSlabs (s.crib.slabs.filter (fun b => b.addr ≠ some a) ++ [⟨i, some a, []⟩])
    s.each (List.range 64) (fun j s =>
      let x := s.silo j
      if s.siloState j = 1 && x.inEffect && decide (x.later ≤ i) && decide (i < x.stop) then (s.pinSlab j i a).settleSilo j else s)
  | none =>
    let s := s.setSlabs (s.crib.slabs ++ [⟨i, none, []⟩])
    let s := (s.inc32 0x2801 7 1).fire 0x10 (i % 65536)
    s.each (List.range 64) (fun j s =>
      let x := s.silo j
      if s.siloState j = 1 && x.inEffect && decide (x.first ≤ i) && decide (i < x.stop) then s.siloFlag j 2 else s)

/-- Write a conditioned sample to crib spectrum `n` of channel `c`, block rank `r`, input `i` (R86, R87, R92, R93). -/
def State.writeSample (s : State) (n c r i code : Nat) : State :=
  let idx := n / 64
  let s := if s.crib.slabs.any (fun b => b.index = idx) then s else s.claimSlab idx
  match s.crib.slabs.find? (fun b => b.index = idx) with
  | some ⟨_, some a, written⟩ =>
    let q := ((c * popCount 128 (s.reg 0x2800 7) + r) * 64 + n % 64) * 64 + i
    if written.contains q then s.inc32 0x2801 0x0C 1
    else
      let bytes := sampleWidth (s.reg 0x2800 3) / 8
      let s := s.store clsH (a + q * bytes) (beBytes bytes code)
      s.setSlabs (s.crib.slabs.map (fun b => if b.index = idx then { b with written := q :: b.written } else b))
  | _ => s

/-! ## Conditioning (R86) -/

/-- The value the conditioning stage forms: components, power, and whether it saturated and is flagged by its code. -/
structure Conditioned where
  re : Int
  im : Int
  power : Int
  saturated : Bool
  coded : Bool
  deriving DecidableEq, Repr

/-- Delay and flagging only. -/
def bypassSample (x : Nat) : Conditioned :=
  let xr := toSigned 4 (bits x 7 4)
  let xi := toSigned 4 (bits x 3 0)
  ⟨xr, xi, xr * xr + xi * xi, false, xr = -8 || xi = -8⟩

/-- Rotation by `theta`, gain and requantisation to the limit `lim`. -/
def rotateSample (x theta gain : Nat) (lim : Int) : Conditioned :=
  let xr := toSigned 8 (bits x 15 8)
  let xi := toSigned 8 (bits x 7 0)
  let w := rotator (bits theta 31 20)
  let yr := (xr * w.1 - xi * w.2 + 16384) / 32768
  let yi := (xr * w.2 + xi * w.1 + 16384) / 32768
  let gr := toSigned 16 (bits gain 31 16)
  let gi := toSigned 16 (bits gain 15 0)
  let qr := (yr * gr - yi * gi + 2048) / 4096
  let qi := (yr * gi + yi * gr + 2048) / 4096
  ⟨clampInt (-lim) lim qr, clampInt (-lim) lim qi, min (qr * qr + qi * qi) 65535, decide (qr.natAbs > lim.natAbs) || decide (qi.natAbs > lim.natAbs),
   xr = -128 || xi = -128⟩

/-- The phase θ of a sample (R86), with the conditioning values in force at its SC. -/
def State.phase (s : State) (b i c sc : Nat) : Nat :=
  let t := ((sc : Int) - (s.regAt (0x2880 + b) 1 sc : Nat)) / (s.reg 0x2800 5 : Nat)
  let phi : Int := (s.regAt (0x2A00 + b) (1 + i) sc : Nat) + c * (s.regAt (0x2A00 + b) (0x41 + i) sc : Nat)
  let rate := toSigned 32 (s.regAt (0x2A80 + b) (1 + i) sc) + c * toSigned 32 (s.regAt (0x2A80 + b) (0x41 + i) sc)
  ((phi + t * rate) % 4294967296).toNat

/-- The power limit of a channel (2802h.02). -/
def State.chanPmax (s : State) (c sc : Nat) : Nat :=
  let bs := s.domAt 0x2802 2 sc
  if bs.isEmpty then 0xFFFF else field bs (2 * c) 2

/-- The conditioned sample of input `i` of block `b`, channel `c`, and whether it is flagged (R86). -/
def State.condition (s : State) (b i c sc x : Nat) : Conditioned × Bool :=
  let format := s.reg 0x2800 3
  let v := if format = 0 then bypassSample x
           else rotateSample x (s.phase b i c sc) (s.regAt (0x2980 + b) (1 + i) sc) (if format = 1 then 7 else 127)
  (v, v.coded || bitAt (s.regAt (0x2880 + b) 2 sc) i || bitAt (s.regAt 0x2802 1 sc) c
      || decide (((s.regAt (0x2880 + b) (3 + i) sc : Nat) : Int) < v.power) || decide (((s.chanPmax c sc : Nat) : Int) < v.power))

/-- The stored bits of a conditioned sample (R82, R86). -/
def sampleCode (format : Nat) (v : Conditioned) (flagged : Bool) : Nat :=
  if flagged then flagSample format
  else if format = 2 then ofSigned 8 v.re * 256 + ofSigned 8 v.im else ofSigned 4 v.re * 16 + ofSigned 4 v.im

/-- Condition one accepted sample and write it; its counters follow R89. -/
def State.takeSample (s : State) (b r i c n x : Nat) : State :=
  let sc := s.spectrumSc n
  let v := s.condition b i c sc x
  let s := if v.2 then s.inc64 (0x2B00 + b) (1 + i) 1 else if v.1.saturated then s.inc64 (0x2B00 + b) 0x42 1 else s
  s.writeSample (n + s.regAt (0x2900 + b) (1 + i) sc) c r i (sampleCode (s.reg 0x2800 3) v.1 v.2)

/-! ## Packets (R83, R84) -/

/-- Payload words a spectrum takes. -/
def spectrumWords (format : Nat) : Nat := if format = 0 then 8 else 16

/-- The ingest sample of input `i` of the `j`-th spectrum of a DATA_SAMPLE payload (R83). -/
def ingestSample (format : Nat) (words : List Nat) (j i : Nat) : Nat :=
  if format = 0 then (words.getD (1 + 8 * j + i / 8) 0) / 2 ^ (56 - 8 * (i % 8)) % 256
  else (words.getD (1 + 16 * j + i / 4) 0) / 2 ^ (48 - 16 * (i % 4)) % 65536

/-- The number of spectra a packet carries, if its LEN matches the format (R83). -/
def packetSpectra (format len : Nat) : Option Nat :=
  let u := spectrumWords format
  let k := (len - 1) / u
  if 1 ≤ k && k ≤ (if format = 0 then 127 else 63) && len = 1 + u * k then some k else none

/-- The key of an accepted spectrum. -/
def acceptKey (n c b : Nat) : Nat := (n * 4096 + c) * 128 + b

/-- Any sample of the packet has its target slab sealed (R84). -/
def State.anySealed (s : State) (b n k : Nat) : Bool :=
  (List.range k).any (fun j => (List.range 64).any (fun i =>
    decide ((n + j + s.regAt (0x2900 + b) (1 + i) (s.spectrumSc (n + j))) / 64 < s.crib.sealedTo)))

/-- The crib writer's action on a DATA_SAMPLE packet (R84). -/
def State.samplePacket (s : State) (p : Packet) : State :=
  let format := s.reg 0x2800 3
  let b := p.stream
  let sc := p.words.headD 0
  let step := s.reg 0x2800 5
  let origin := s.reg 0x2800 6
  if !s.cribOn || decide (128 ≤ b) || !bitAt (s.reg 0x2800 7) b then s.inc32 0x2401 1 1
  else match packetSpectra format p.words.length with
    | none => s.inc32 0x2801 0x0B 1
    | some k =>
      if decide (s.reg 0x2800 4 ≤ p.channel) || decide (sc < origin) || decide ((sc - origin) % step ≠ 0) then s.inc32 0x2801 0x0B 1
      else if s.sc + 64 * step < sc then s.inc32 0x2801 9 1
      else
        let n := (sc - origin) / step
        if s.anySealed b n k then s.inc32 0x2801 8 1
        else if (List.range k).any (fun j => s.crib.accepted.contains (acceptKey (n + j) p.channel b)) then s.inc32 0x2801 0x0A 1
        else
          let r := popCount b (s.reg 0x2800 7)
          let s := { s with crib := { s.crib with accepted := (List.range k).map (fun j => acceptKey (n + j) p.channel b) ++ s.crib.accepted } }
          s.each (List.range k) (fun j s => s.each (List.range 64) (fun i s =>
            s.takeSample b r i p.channel (n + j) (ingestSample format p.words j i)))

/-- SAMPLE_PACKET_RX (R84): the oldest sample packet the lanes have delivered. -/
def execSamplePacketRx (s : State) : Result :=
  match s.sheaf.samples with
  | [] => .next s
  | p :: ps => .next (({ s with sheaf := { s.sheaf with samples := ps } }).samplePacket p)

/-! ## Sealing (R85, R94) -/

/-- The seal margin in SC ticks, rounded up (R94). -/
def State.sealMargin (s : State) : Nat := (s.reg 0x2800 0x0B * s.reg 0x6000 3 + 999999) / 1000000

/-- Fill the positions of a slab that nothing wrote with flag codes (R85). -/
def State.fillSlab (s : State) (b : Slab) : State :=
  match b.addr with
  | none => s
  | some a =>
    let format := s.reg 0x2800 3
    let bytes := sampleWidth format / 8
    s.each ((List.range (4096 * s.reg 0x2800 4 * popCount 128 (s.reg 0x2800 7))).filter (fun q => !b.written.contains q))
      (fun q s => s.store clsH (a + q * bytes) (beBytes bytes (flagSample format)))

/-- Sample positions of block rank `r` that nothing wrote in a slab (R85). -/
def missingOf (chans nb r : Nat) (written : List Nat) : Nat :=
  4096 * chans - (written.filter (fun q => decide (q / 4096 % nb = r))).length

/-- Seal the next slab (R85, R94, R105). -/
def State.sealSlab (s : State) : State :=
  let i := s.crib.sealedTo
  let found := s.crib.slabs.find? (fun b => b.index = i)
  let written := match found with | some b => b.written | none => []
  let bl := blocksOf (s.reg 0x2800 7)
  let s := s.each (bl.zip (List.range bl.length)) (fun p s =>
    s.inc64 (0x2B00 + p.1) 0x41 (missingOf (s.reg 0x2800 4) bl.length p.2 written))
  let s := match found with | some b => s.fillSlab b | none => s
  let s := s.setSlabs (s.crib.slabs.map (fun b => if b.index = i then { b with written := [] } else b))
  let s := { s with crib := { s.crib with sealedTo := i + 1 } }
  let s := s.setReg 0x2801 3 i
  s.each (List.range 64) (fun j s =>
    let x := s.silo j
    let s := if found.isNone && s.siloState j = 1 && x.inEffect && !x.closed && decide (x.later ≤ i) && decide (i < x.stop) then s.siloFlag j 2 else s
    s.settleSilo j)

/-- The SC at which the next slab is sealed (R94). -/
def State.sealDue (s : State) : Nat := s.reg 0x2800 6 + 64 * (s.crib.sealedTo + 1) * s.reg 0x2800 5 + s.sealMargin

/-- SLAB_SEAL (R94): once the SC has passed the next slab's end plus the seal margin. -/
def execSlabSeal (s : State) : Result := if s.cribOn && decide (s.sealDue ≤ s.sc) then .next s.sealSlab else .next s

/-! ## Windows and loft steps (R96, R97) -/

/-- The reader of bay `k`. -/
def State.bayReader (s : State) (k : Nat) : BayReader := nthD ⟨0, none⟩ s.crib.bays k

/-- Replace the reader of bay `k`. -/
def State.setReader (s : State) (k : Nat) (b : BayReader) : State :=
  { s with crib := { s.crib with bays := modNth (fun _ => b) s.crib.bays k } }

/-- Half `h` of the loft of bay `k`. -/
def State.loftHalf (s : State) (k h : Nat) : LoftHalf := nthD LoftHalf.reset s.crib.lofts (2 * k + h)

/-- Replace half `h` of the loft of bay `k`. -/
def State.setHalf (s : State) (k h : Nat) (x : LoftHalf) : State :=
  { s with crib := { s.crib with lofts := modNth (fun _ => x) s.crib.lofts (2 * k + h) } }

/-- A bay's reader starts its next window, once its last slab is sealed (R96, R97). A window without channels ends at once. -/
def State.windowStart (s : State) (k : Nat) : State :=
  let b := s.bayReader k
  let sc := s.spectrumSc b.start
  let len := s.regAt (0x2810 + k) 2 sc
  let chans := (setBitsOf 4096 (s.regAt (0x2810 + k) 1 sc)).filter (fun c => decide (c < s.reg 0x2800 4))
  if s.cribOn && b.reading.isNone && decide (b.start + len ≤ 64 * s.crib.sealedTo) then
    match chans with
    | [] => s.setReader k ⟨b.start + len, none⟩
    | c :: _ =>
      ((s.setReader k ⟨b.start, some ⟨len, stepSpectra (s.regAt (0x2810 + k) 3 sc), chans, 0, 0, false⟩⟩).setReg (0x2810 + k) 4 b.start).setReg
        (0x2810 + k) 5 c
  else s

/-- WINDOW_START (R97). -/
def execWindowStart (bay : Nat) (s : State) : Result :=
  inst (decide (bay < 4)) (if bay < s.board.bays then .next (s.windowStart bay) else .next s)

/-- The numbers that bytes spell two by two. -/
def pairs16 : Bytes → List Nat
  | a :: b :: rest => (a.toNat * 256 + b.toNat) :: pairs16 rest
  | _ => []

/-- The address of the 4,096 samples of block rank `r` of channel `c` in the slab with index `idx`, if it is in the ring (R92). -/
def State.granuleAddr (s : State) (idx c r : Nat) : Option Nat :=
  match s.crib.slabs.find? (fun b => b.index = idx) with
  | some ⟨_, some a, _⟩ => some (a + (c * popCount 128 (s.reg 0x2800 7) + r) * 4096 * (sampleWidth (s.reg 0x2800 3) / 8))
  | _ => none

/-- Sixty-four spectra of a channel and block rank of a sealed slab: each stored sample, or nothing where it reads as flagged (R82, R344). -/
def State.granule (s : State) (idx c r : Nat) : List (Option Nat) :=
  match s.granuleAddr idx c r with
  | none => List.replicate 4096 none
  | some a =>
    let format := s.reg 0x2800 3
    let bytes := sampleWidth format / 8
    let vals := s.load a (4096 * bytes)
    let vals := if bytes = 2 then pairs16 vals else vals.map (fun b => b.toNat)
    let keep := fun (v : Nat) => if v = flagSample format then none else some v
    if s.rangeReadable a (4096 * bytes) then vals.map keep
    else ((List.range 4096).zip vals).map (fun p => if s.byteReadable (a + p.1 * bytes) then keep p.2 else none)

/-- The samples of one block rank of a loft step (R97). -/
def State.rankSamples (s : State) (start c spectra r : Nat) : List (Nat × Nat) :=
  (List.range (spectra / 64)).flatMap (fun j =>
    ((List.range 4096).zip (s.granule (start / 64 + j) c r)).filterMap (fun p => p.2.map (fun v => ((r * spectra + 64 * j) * 64 + p.1, v))))

/-- The contents of a loft step (R97). -/
def State.stepSamples (s : State) (start c spectra : Nat) : List (Nat × Nat) :=
  (List.range (popCount 128 (s.reg 0x2800 7))).flatMap (s.rankSamples start c spectra)

/-- The DRAM reads of one block rank of a loft step, in class H (R22, R97). -/
def State.rankReads (s : State) (start c spectra r : Nat) : State :=
  s.each (List.range (spectra / 64)) (fun j s =>
    match s.granuleAddr (start / 64 + j) c r with
    | some a => s.readRange clsH a (4096 * (sampleWidth (s.reg 0x2800 3) / 8))
    | none => s)

/-- The DRAM reads of a loft step. -/
def State.stepReads (s : State) (start c spectra : Nat) : State :=
  s.each (List.range (popCount 128 (s.reg 0x2800 7))) (fun r s => s.rankReads start c spectra r)

/-- The reader of bay `k` fills a released half with its next step and hands it to the Jig (R97). After the last step of a disabled crib the rest of
the window is discarded (R111). -/
def State.loftFill (s : State) (k : Nat) : State :=
  let b := s.bayReader k
  match b.reading, (List.range 2).find? (fun h => !(s.loftHalf k h).held) with
  | some w, some h =>
    let c := w.chans.getD w.done 0
    let first := b.start + w.next * w.step
    let half : LoftHalf :=
      { held := true, taken := false, seq := s.reg (0x2810 + k) 7, window := b.start, channel := c, step := w.next, spectra := w.step,
        steps := w.len / w.step, firstChannel := w.chans.headD 0, lastChannel := w.chans.getLastD 0, blocks := s.reg 0x2800 7,
        format := s.reg 0x2800 3, sc := s.spectrumSc first, period := s.reg 0x2800 5, origin := s.reg 0x2800 6, samples := s.stepSamples first c w.step }
    let s := ((s.stepReads first c w.step).setHalf k h half).inc64 (0x2810 + k) 7 1
    if w.ending then s.setReader k ⟨b.start, none⟩
    else if w.next + 1 < w.len / w.step then s.setReader k ⟨b.start, some { w with next := w.next + 1 }⟩
    else if w.done + 1 < w.chans.length then
      (s.setReader k ⟨b.start, some { w with done := w.done + 1, next := 0 }⟩).setReg (0x2810 + k) 5 (w.chans.getD (w.done + 1) 0)
    else s.setReader k ⟨b.start + w.len, none⟩
  | _, _ => s

/-- Each TCLK tick a reader waits for a half, its stall counter takes two FCLK ticks (R97). -/
def State.cribTick (s : State) : State :=
  s.each (List.range s.board.bays) (fun k s =>
    if (s.bayReader k).reading.isSome && (s.loftHalf k 0).held && (s.loftHalf k 1).held then s.inc64 (0x2810 + k) 8 2 else s)

/-! ## Triggers (R103, R104) -/

/-- The silo geometry entry (R113). -/
def State.geometryBytes (s : State) : Nat :=
  (((s.reg 0x2800 7 * 2 ^ 16 + s.reg 0x2800 4) * 2 ^ 8 + s.reg 0x2800 3) * 2 ^ 8 * 2 ^ 32 + s.reg 0x2800 5) * 2 ^ 64 + s.reg 0x2800 6

/-- A trigger with a profile, a trigger time and a source code takes the lowest FREE silo, or is refused (R104). -/
def State.trigger (s : State) (p scTrig source : Nat) : State :=
  let free := (List.range 64).find? (fun j => s.siloState j = 0)
  match (if s.cribOn && s.flag (0x2820 + p) 1 then free else none) with
  | none => (s.inc32 0x2800 0x0E 1).fire 0x11 p
  | some j =>
    let nTrig := ((scTrig : Int) - (s.reg 0x2800 6 : Nat)) / (s.reg 0x2800 5 : Nat)
    let first := ((nTrig - (s.reg (0x2820 + p) 2 : Nat)) / 64).toNat
    let last := ((nTrig + (s.reg (0x2820 + p) 3 : Nat)) / 64).toNat
    let silo : Silo :=
      { first := first, stop := last + 1, inEffect := false, later := 0, closed := false, slabs := [], blocks := s.reg 0x2800 7,
        channels := s.reg 0x2800 4, format := s.reg 0x2800 3, period := s.reg 0x2800 5, origin := s.reg 0x2800 6 }
    let i := 0x2840 + j
    let s := s.modSilo j (fun _ => silo)
    let s := (((s.setReg i 1 1).setReg i 2 0).setReg i 3 0).setReg i 4 scTrig
    let s := (((s.setReg i 5 (s.tb80 0)).setReg i 6 source).setReg i 7 0).setReg i 8 (s.reg 0x1100 1)
    ((s.setReg i 9 0).setReg i 0x0A s.geometryBytes).inc32 0x2800 0x0D 1

/-- CRIB_FREEZE (R103, R104): the crib takes the event its freeze input holds. -/
def execCribFreeze (profile : Nat) (s : State) : Result :=
  inst (decide (profile < 8))
    (match s.held (0x10 + profile) with
     | some e => .next ((s.takeInput (0x10 + profile)).trigger profile e.sc profile)
     | none => .next s)

/-- A write of 01h to 2803h.03 (R103). -/
def cmdFire (s : State) : Verdict := .ok (s.trigger (s.reg 0x2803 1) (s.reg 0x2803 2) 0x100)

/-! ## Release (R107) -/

/-- End the readout of a silo, if it is the one being read. -/
def State.endReadout (s : State) (status : Nat) : State := ({ s with crib := { s.crib with readout := none } }).setReg 0x2804 9 status

/-- A write of 01h to 2840h+j.0B (R107): a READING silo's readout aborts. -/
def cmdSiloRelease (j : Nat) (s : State) : Verdict :=
  let st := s.siloState j
  if st = 0 || st = 4 then .error dState
  else
    let s := if st = 3 then s.endReadout 3 else s
    .ok ((s.setReg (0x2840 + j) 1 4).modSilo j (fun x => { x with closed := true }))

/-- RELEASE_COMPLETE (R107): pin counts are decremented and the silo is FREE. -/
def execSiloReleaseComplete (silo : Nat) (s : State) : Result :=
  inst (decide (silo < 64))
    (if s.siloState silo = 4 then .next ((s.setReg (0x2840 + silo) 1 0).modSilo silo (fun _ => Silo.reset)) else .next s)

/-! ## Silo readout (R109, R110) -/

/-- The refusal of a readout start, or 0 (R109): STATE for the silo and a running readout, RULE for ranges and the stream (log 48). -/
def State.readoutCheck (s : State) : Nat :=
  let j := s.reg 0x2804 1
  let x := s.silo j
  if s.siloState j ≠ 2 || s.crib.readout.isSome then dState
  else if decide (s.reg 0x2804 2 ≤ s.reg 0x2804 3) && decide (s.reg 0x2804 3 < x.channels)
    && decide (s.reg 0x2804 4 ≤ s.reg 0x2804 5) && decide (s.reg 0x2804 5 < popCount 128 x.blocks)
    && s.reg (0x2700 + s.reg 0x2804 6) 1 ≠ 0xFF then 0
  else dRule

/-- Start the readout the entries describe. -/
def State.readoutStart (s : State) : State :=
  let j := s.reg 0x2804 1
  let r : Readout :=
    { silo := j, stream := s.reg 0x2804 6, firstChannel := s.reg 0x2804 2, lastChannel := s.reg 0x2804 3, firstRank := s.reg 0x2804 4,
      lastRank := s.reg 0x2804 5, slab := (s.silo j).first, channel := s.reg 0x2804 2, rank := s.reg 0x2804 4, half := 0 }
  ((({ s with crib := { s.crib with readout := some r } }).setReg 0x2804 9 1).setReg 0x2804 0x0A 0).setReg (0x2840 + j) 1 3

/-- A write of 01h to 2804h.07 (R109). -/
def cmdReadoutStart (s : State) : Verdict := if s.readoutCheck = 0 then .ok s.readoutStart else .error s.readoutCheck

/-- The status a refused start leaves (R109). -/
def State.readoutRefused (s : State) : State := s.setReg 0x2804 9 4

/-- A write of 01h to 2804h.08 (R112). -/
def cmdReadoutAbort (s : State) : Verdict :=
  match s.crib.readout with
  | some r => .ok ((s.endReadout 3).siloHeld r.silo)
  | none => .ok s

/-- The address of the 4,096 bytes that a readout packet carries, if the silo holds their slab (R110). -/
def Readout.addr (r : Readout) (x : Silo) : Option Nat :=
  (x.slabs.find? (fun p => p.1 = r.slab)).map (fun p =>
    p.2 + (r.channel * popCount 128 x.blocks + r.rank) * (4096 * (sampleWidth x.format / 8)) + r.half * 4096)

/-- The bytes of a readout packet, unless its slab was lost or absent or DRAM cannot read them (R110, R344). -/
def State.readoutBytes (s : State) (x : Silo) (r : Readout) : Option Bytes :=
  (r.addr x).bind (fun a => if s.rangeReadable a 4096 then some (s.load a 4096) else none)

/-- Eight bytes to a word, most significant first. -/
def words64 : Bytes → List Nat
  | a :: b :: c :: d :: e :: f :: g :: h :: rest => ofBytes [a, b, c, d, e, f, g, h] :: words64 rest
  | _ => []

/-- The 512 data words of a readout packet (R110): flag codes when it is LOST. -/
def State.readoutWords (s : State) (x : Silo) (r : Readout) : List Nat :=
  match s.readoutBytes x r with
  | some b => words64 b
  | none => List.replicate 512 (if x.format = 2 then 0x8080808080808080 else 0x8888888888888888)

/-- The place of the packet after this one, or none when the readout is done (R110). -/
def Readout.after (r : Readout) (x : Silo) : Option Readout :=
  if x.format = 2 && r.half = 0 then some { r with half := 1 }
  else if r.rank < r.lastRank then some { r with rank := r.rank + 1, half := 0 }
  else if r.channel < r.lastChannel then some { r with channel := r.channel + 1, rank := r.firstRank, half := 0 }
  else if r.slab + 1 < x.stop then some { r with slab := r.slab + 1, channel := r.firstChannel, rank := r.firstRank, half := 0 }
  else none

/-- The packet at the readout's place (R110); LOST is set when its slab was lost or absent, or DRAM could not read it (R344). -/
def State.readoutPacket (s : State) (r : Readout) : OutPacket :=
  let x := s.silo r.silo
  let lost := (s.readoutBytes x r).isNone
  let sc := x.origin + (64 * r.slab + 32 * r.half) * x.period
  let head := 1 * 2 ^ 60 + r.silo * 2 ^ 54 + r.channel * 2 ^ 42 + ((blocksOf x.blocks).getD r.rank 0) * 2 ^ 35 + x.format * 2 ^ 33
    + s.reg (0x2840 + r.silo) 8 * 2 + ofBool lost
  ⟨0, sc :: head :: s.readoutWords x r⟩

/-- The DRAM read of a readout packet, in the class of 2804h.0B (R22, R109). -/
def State.readoutRead (s : State) (r : Readout) : State :=
  match r.addr (s.silo r.silo) with
  | some a => s.readRange (s.reg 0x2804 0x0B) a 4096
  | none => s

/-- READOUT_PACKET (R109, R110): it waits while the stream's group is not ON or the packet before it has not left (R59, R79), and aborts when the
stream has no group. -/
def execReadoutPacket (s : State) : Result :=
  match s.crib.readout with
  | none => .next s
  | some r =>
    let grp := s.reg (0x2700 + r.stream) 1
    if grp = 0xFF then .next ((s.endReadout 3).siloHeld r.silo)
    else if (r.slab < (s.silo r.silo).stop) = false then .next (((s.endReadout 2).siloHeld r.silo).fire 0x13 r.silo)
    else if s.reg (0x2460 + grp) 2 = stOn && (s.stream r.stream).ready.isEmpty then
      let s' := ((s.readoutRead r).streamPut r.stream (s.readoutPacket r)).inc32 0x2804 0x0A 1
      match r.after (s.silo r.silo) with
      | some n => .next { s' with crib := { s'.crib with readout := some n } }
      | none => .next (((s'.endReadout 2).siloHeld r.silo).fire 0x13 r.silo)
    else .next s

/-! ## Enable and disable (R111) -/

/-- The refusal of a crib enable, or 0 (R81, R102, R111). -/
def cribEnableCheck (s : State) : Nat :=
  let c := s.reg 0x2800 4
  if 250000000 * s.reg 0x2800 5 < c * s.reg 0x6000 3 || s.reg 0x2800 7 = 0
      || s.reg 0x5800 6 < s.reg 0x2800 8 + s.reg 0x2800 9
      || !ringOk s.ringPositions.length (ringMin s.board.bays s.reg) (s.reg 0x2800 0x0C) then dRule
  else 0

/-- ENABLING builds the ring (R111). -/
def State.cribEnabling (s : State) : State :=
  let ring := s.ringPositions
  let s := s.forgetSeqs 1 (fun _ => true)
  ({ s with crib := { s.crib with ring := ring, slabs := [], accepted := [] } }.setReg 0x2801 1 s.slabBytes).setReg 0x2801 2 ring.length

/-- The crib reaches ON: every slab below the first whole one counts as sealed, and the bays' windows start there (R94, R96). -/
def State.cribTurnsOn (s : State) : State :=
  let span := 64 * s.reg 0x2800 5
  let first := (s.sc - s.reg 0x2800 6 + span - 1) / span
  let crib := { s.crib with sealedTo := first, bays := List.replicate 4 ⟨64 * first, none⟩ }
  ({ s with crib := crib }).setReg 0x2801 3 (first - 1)

/-- A reader of a crib that is disabled finishes the loft step in progress, for which a half is free, and discards the rest of its window (R111). -/
def State.endReader (s : State) (k : Nat) : State :=
  let b := s.bayReader k
  match b.reading with
  | some w => s.setReader k (if (List.range 2).any (fun h => !(s.loftHalf k h).held) then ⟨b.start, some { w with ending := true }⟩ else ⟨b.start, none⟩)
  | none => s

/-- DISABLING: pins still on their way take effect; FILLING silos are HELD with TRUNC_POST, and nothing more is written to their slabs; no new window
starts, and readers finish the step in progress (R107, R111). -/
def State.cribDisabling (s : State) : State :=
  let s := s.each (List.range 64) (fun j s => if s.siloState j = 1 && !(s.silo j).inEffect then s.pinsEffect j else s)
  let s := s.each (s.crib.slabs.filter (fun b => decide (s.crib.sealedTo ≤ b.index) && (match b.addr with | some a => s.pinnedAddrs.contains a | none => false)))
    (fun b s => s.fillSlab b)
  let s := s.each (List.range 64) (fun j s => if s.siloState j = 1 then ((s.modSilo j Silo.cut).siloFlag j 1).siloHeld j else s)
  s.each (List.range 4) (fun k s => s.endReader k)

/-- Every reader of the crib has finished. -/
def State.cribIdle (s : State) : Bool := s.crib.bays.all (fun b => b.reading.isNone)

/-- The crib reaches OFF: unread windows and unpinned slabs are discarded (R111). -/
def State.cribTurnsOff (s : State) : State :=
  { s with crib := { s.crib with slabs := [], accepted := [], bays := s.crib.bays.map (fun b => ⟨b.start, none⟩) } }

/-! ## Write rules and computed views -/

/-- The owning unit of a crib RWX entry is OFF (R111). -/
def cribOwnerOff (s : State) : Bool := s.reg 0x2800 2 = stOff

/-- Values an index range holds, live or pending. -/
def State.allValues (s : State) (lo hi : Nat) : List Nat :=
  (s.regs.filter (fun p => decide (lo ≤ p.1 / 256) && decide (p.1 / 256 ≤ hi) && p.1 % 256 ≠ 0)).map (fun p => p.2) ++
  (s.dict.pendingSet.filter (fun p => decide (lo ≤ p.1 / 256) && decide (p.1 / 256 ≤ hi))).filterMap
    (fun p => match p.2.value with | .num v => some v | .dom _ => none)

/-- The refusal a write to an entry of chapter 3 meets, or 0 (R87, R96, R98, R102). -/
def cribCheck (s : State) (eff : Nat → Nat → Nat) (idx sub v : Nat) : Nat :=
  let eff' := fun i k => if i = idx && k = sub then v else eff i k
  let ring := fun (_ : Unit) => cribOwnerOff s || ringOk (s.reg 0x2801 2) (ringMin s.board.bays eff') (eff' 0x2800 0x0C)
  if idx = 0x2800 then
    if sub = 3 || sub = 7 then (if loftOk s.board.bays eff' then 0 else dRule)
    else if sub = 0x0A then (if (s.allValues 0x2900 0x297F).all (fun d => decide (d < 64 * v)) then 0 else dRule)
    else if sub = 0x0C then (if v = 0 || ring () then 0 else dRule)
    else 0
  else if 0x2810 ≤ idx && idx ≤ 0x2813 && sub ≤ 3 then
    let t := eff' idx 2
    let st := stepSpectra (eff' idx 3)
    if (sub = 1 || (decide (st ≤ t) && decide (t % st = 0) && loftOk s.board.bays eff')) && ring () then 0 else dRule
  else if 0x2900 ≤ idx && idx ≤ 0x297F then (if v < 64 * s.reg 0x2800 0x0A then 0 else dRule)
  else 0

/-- The refusal a whole value of 2802h.02 meets, or 0 (R112). -/
def cribDomCheck (bs : Bytes) : Nat := if bs.length = 0 || bs.length = 8192 then 0 else dRange

/-- Sealed windows of bay `k` that wait (R100). -/
def State.windowLag (s : State) (k : Nat) : Nat :=
  let b := s.bayReader k
  let from_ := b.start + (match b.reading with | some w => w.len | none => 0)
  let len := s.regAt (0x2810 + k) 2 (s.spectrumSc from_)
  if s.cribOn && len ≠ 0 then (64 * s.crib.sealedTo - from_) / len else 0

/-- The entries of chapter 3 that are read from the crib's state. -/
def cribView (s : State) (idx sub : Nat) : Option Nat :=
  if idx = 0x2801 then
    match sub with
    | 4 =>
      let busy := s.crib.slabs.filter (fun b => match b.addr with
        | some a => !(decide (b.index < s.crib.sealedTo) && !s.pinnedAddrs.contains a && s.readComplete b.index)
        | none => false)
      some (s.crib.ring.length - busy.length)
    | 5 => some s.pinnedAddrs.length
    | 6 => some ((s.crib.slabs.filter (fun b => decide (b.index < s.crib.sealedTo) && b.addr.isSome && !s.readComplete b.index)).length)
    | _ => none
  else if 0x2810 ≤ idx && idx ≤ 0x2813 && sub = 6 then some (s.windowLag (idx - 0x2810))
  else none

end Sys2Proof.Machine
end

