-- ==== Sys2Proof/Machine/Granary.lean ====
section
/-! DEFINITION. Products, short sums, bins, folds, spills and dump records (chapter 5), and the compressed body (R192). -/

namespace Sys2Proof.Machine

/-! ## Work-order fields (R119, R121) -/

/-- OP of a work order. -/
def woOp (w : Nat) : Nat := bits w 127 124
/-- CLASS of a work order. -/
def woClass (w : Nat) : Nat := bits w 123 122
/-- BIN of a work order. -/
def woBin (w : Nat) : Nat := bits w 121 109
/-- BLKA of a work order. -/
def woBlka (w : Nat) : Nat := bits w 108 102
/-- BLKB of a work order. -/
def woBlkb (w : Nat) : Nat := bits w 101 95
/-- CHAN of a work order. -/
def woChan (w : Nat) : Nat := bits w 94 83
/-- WSLOT of a BEAM work order. -/
def woWslot (w : Nat) : Nat := bits w 69 64
/-- SEG of a BEAM work order. -/
def woSeg (w : Nat) : Nat := bits w 63 60
/-- Lines of an XREG work order (SLEN). -/
def woSlen (w : Nat) : Nat := 256 * 2 ^ bits w 69 68
/-- STREAM of a DUMP. -/
def woStream (w : Nat) : Nat := bits w 69 62
/-- CLR of a DUMP. -/
def woClr (w : Nat) : Bool := bitAt w 61
/-- COMP of a DUMP. -/
def woComp (w : Nat) : Bool := bitAt w 60

/-- CORR4 or CORR8. -/
def isCorr (op : Nat) : Bool := op = 1 || op = 2
/-- BEAM4 or BEAM8. -/
def isBeam (op : Nat) : Bool := op = 3 || op = 4

/-- The pair index of R171 and R187. -/
def pairIndex (nb a b : Nat) : Int := (a : Int) * nb - (a : Int) * ((a : Int) - 1) / 2 + ((b : Int) - a)

/-! ## Products and short sums (R155 to R158) -/

/-- A complex value. -/
abbrev Cplx := Int × Int

/-- x × conj(y) (R156). -/
def mulConj (x y : Cplx) : Cplx := (x.1 * y.1 + x.2 * y.2, x.2 * y.1 - x.1 * y.2)

/-- w × x (R156). -/
def mulC (w x : Cplx) : Cplx := (w.1 * x.1 - w.2 * x.2, w.1 * x.2 + w.2 * x.1)

/-- The sample a stored pattern stands for; a flagged one contributes zero (R82). -/
def sampleValue (wide : Bool) (v : Nat) : Cplx :=
  if wide then
    let x : Cplx := (toSigned 8 (bits v 15 8), toSigned 8 (bits v 7 0))
    if x.1 = -128 || x.2 = -128 then (0, 0) else x
  else
    let x : Cplx := (toSigned 4 (bits v 7 4), toSigned 4 (bits v 3 0))
    if x.1 = -8 || x.2 = -8 then (0, 0) else x

/-- A sample of pulled blocks: input `i` at spectrum `t` of block rank `r`, for a step of `len` spectra; one not listed is flagged. -/
def pulledSample (wide : Bool) (len : Nat) (samples : List (Nat × Nat)) (r t i : Nat) : Cplx :=
  match lookup samples ((r * len + t) * 64 + i) with
  | some v => sampleValue wide v
  | none => (0, 0)

/-- The product shift of R157. -/
def shiftProduct (k : Nat) (c : Int) : Int := if k = 0 then c else (c + ((2 ^ (k - 1) : Nat) : Int)) / ((2 ^ k : Nat) : Int)

/-- One component of a lane over a pass: its short sum, and whether an addition left the range (R158). At k = 6 additions clamp. -/
def laneSum (w k : Nat) (terms : List Int) : Int × Bool :=
  terms.foldl (fun a c =>
    let n := a.1 + shiftProduct k c
    let m := satSigned w n
    if m = n then (n, a.2) else (if k = 6 then m else n, true)) (0, false)

/-- The outcome of a pass: its short sums, and whether any addition overflowed. -/
structure PassResult where
  sums : List Cplx
  ovr : Bool
  deriving DecidableEq, Repr

/-- A pass whose lane `i` adds `terms i`. -/
def runPass (w k : Nat) (terms : Nat → List Cplx) : PassResult :=
  let lanes := (List.range 4096).map (fun i =>
    let ts := terms i
    (laneSum w k (ts.map (fun t => t.1)), laneSum w k (ts.map (fun t => t.2))))
  ⟨lanes.map (fun l => (l.1.1, l.2.1)), lanes.any (fun l => l.1.2 || l.2.2)⟩

/-- The largest absolute component. -/
def peakOf (vs : List Cplx) : Nat := vs.foldl (fun a v => max a (max v.1.natAbs v.2.natAbs)) 0

/-- A weight of a block (R195). -/
def weightAt (block : Bytes) (m i : Nat) : Cplx :=
  (toSigned 8 ((block.getD (2 * (64 * m + i)) 0).toNat), toSigned 8 ((block.getD (2 * (64 * m + i) + 1) 0).toNat))

/-- The terms of lane `i` of a work order (R156, R184, R197). Weight blocks are read through `weights`. -/
def laneTerms (w : Nat) (len : Nat) (samples : List (Nat × Nat)) (weights : Nat → Bytes) (i : Nat) : List Cplx :=
  let op := woOp w
  let wide := op = 2 || op = 4
  if isBeam op then
    (List.range (woBlkb w + 1 - woBlka w)).flatMap (fun r =>
      let block := weights (woWslot w + r)
      (List.range 64).map (fun u =>
        mulC (weightAt block (i % 64) u) (pulledSample wide len samples (woBlka w + r) (64 * woSeg w + i / 64) u)))
  else
    (List.range len).map (fun t =>
      mulConj (pulledSample wide len samples (woBlka w) t (i / 64)) (pulledSample wide len samples (woBlkb w) t (i % 64)))

/-- The short-sum width of an operation (R155). -/
def sumWidth (op : Nat) : Nat := if op = 2 || op = 4 then 32 else 16

/-! ## Folding (R161 to R163) -/

/-- The stochastic right shift of R162: the value and the LFSR after it. -/
def stochShift (lfsr : Nat) (v : Int) (m : Nat) : Int × Nat :=
  if m = 0 then (v, lfsr)
  else
    let l := lfsrSteps 32 lfsr
    ((v + ((l % 2 ^ m : Nat) : Int)) / ((2 ^ m : Nat) : Int), l)

/-- The seed of R162. -/
def lfsrSeed (bin half dumpEpoch : Nat) : Nat :=
  let s := ((bin * 2 + half) * 0x9E3779B1 + dumpEpoch) % 2 ^ 32
  if s = 0 then 1 else s

/-- `n` divided by `2 ^ m`, rounded up. -/
def ceilShift (n m : Nat) : Nat := (n + 2 ^ m - 1) / 2 ^ m

/-- The exponent R161 chooses, going no higher than `cap`; the flag tells whether its test passes. -/
def chooseExp (lim cap peak e ps k : Nat) : Nat → Nat → Nat × Bool
  | 0, e2 => (e2, decide (ceilShift peak (e2 - e) + ceilShift ps (e2 - k) ≤ lim))
  | fuel + 1, e2 =>
    if ceilShift peak (e2 - e) + ceilShift ps (e2 - k) ≤ lim then (e2, true)
    else if e2 < cap then chooseExp lim cap peak e ps k fuel (e2 + 1) else (e2, false)

/-- The result of adding a bank into an accumulator. -/
structure FoldOut where
  vals : List Cplx
  lfsr : Nat
  peak : Nat
  clamped : Bool
  deriving DecidableEq, Repr

/-- One component of a fold: both shifts in the order of R163, then the clamp. -/
def foldPart (lim : Int) (mb ms : Nat) (lfsr : Nat) (a b : Int) : Int × Nat × Bool :=
  let x := stochShift lfsr a mb
  let y := stochShift x.2 b ms
  let t := x.1 + y.1
  let c := clampInt (-lim) lim t
  (c, y.2, decide (c ≠ t))

/-- `n` values of a fold, ascending, real part first (R163). -/
def foldVals (lim : Int) (mb ms : Nat) : Nat → List Cplx → List Cplx → Nat → FoldOut
  | 0, _, _, lfsr => ⟨[], lfsr, 0, false⟩
  | n + 1, xs, ys, lfsr =>
    let x := xs.headD (0, 0)
    let y := ys.headD (0, 0)
    let re := foldPart lim mb ms lfsr x.1 y.1
    let im := foldPart lim mb ms re.2.1 x.2 y.2
    let rest := foldVals lim mb ms n xs.tail ys.tail im.2.1
    ⟨(re.1, im.1) :: rest.vals, rest.lfsr, max (max re.1.natAbs im.1.natAbs) rest.peak, re.2.2 || im.2.2 || rest.clamped⟩

/-- The limit of a bin or half (R161). -/
def binLimit (split : Bool) : Nat := if split then 2 ^ 15 - 1 else 2 ^ 31 - 1

/-- A fold needs a spill first (R173). -/
def needsSpill (a : Acc) (ps k : Nat) : Bool :=
  a.peak ≠ 0 && !(chooseExp (binLimit true) (max a.e k) a.peak a.e ps k 0 (max a.e k)).2

/-- What a fold takes from the tag of its bank, worked out by the controller. -/
structure FoldTag where
  bin : Nat
  half : Nat
  bits : Nat
  k : Nat
  sat : Bool
  peak : Nat
  firstSc : Nat
  endSc : Nat
  dumpEpoch : Nat
  cfgEpoch : Nat
  deriving DecidableEq, Repr

/-- The accumulator as the first fold finds it: LFSR seeded and the first fold's fields recorded (R163). -/
def Acc.open (a : Acc) (t : FoldTag) : Acc :=
  if a.folds ≠ 0 then a
  else { a with lfsr := lfsrSeed t.bin t.half t.dumpEpoch, firstSc := t.firstSc, cfgEpoch := t.cfgEpoch, dumpEpoch := t.dumpEpoch, op := woOp t.bits,
                chan := woChan t.bits, blka := woBlka t.bits, blkb := woBlkb t.bits, seg := if isBeam (woOp t.bits) then woSeg t.bits else 0 }

/-- A later fold differs in kind from the first (R164). -/
def Acc.differs (a : Acc) (w : Nat) : Bool :=
  a.folds ≠ 0 && (a.op ≠ woOp w || a.chan ≠ woChan w || (isCorr (woOp w) && (a.blka ≠ woBlka w || a.blkb ≠ woBlkb w))
    || (isBeam (woOp w) && a.seg ≠ woSeg w))

/-- A fold into a bin or half (R161, R163, R164), and whether it renormalised and clamped. A half goes no higher than max(e, k) (R173). -/
def Acc.fold (a : Acc) (split : Bool) (t : FoldTag) (sums : List Cplx) : Acc × Bool × Bool :=
  let mixed := a.differs t.bits
  let beam := isBeam (woOp t.bits)
  let a0 := a.open t
  let e := if a0.peak = 0 then t.k else a0.e
  let lim := binLimit split
  let e2 := (chooseExp lim (if split then max e t.k else 31) a0.peak e t.peak t.k 31 (max e t.k)).1
  let out := foldVals (lim : Nat) (e2 - e) (e2 - t.k) 4096 a0.vals sums a0.lfsr
  let a' :=
    { a0 with vals := out.vals, lfsr := out.lfsr, e := e2, peak := out.peak, folds := satAdd32 a0.folds 1,
              endSc := t.endSc, maxK := max a0.maxK t.k, sat := a0.sat || t.sat,
              satPasses := if t.sat then min (a0.satPasses + 1) 0xFFFF else a0.satPasses, binSat := a0.binSat || out.clamped,
              mixed := a0.mixed || mixed, blka := if beam then min a0.blka (woBlka t.bits) else a0.blka,
              blkb := if beam then max a0.blkb (woBlkb t.bits) else a0.blkb }
  (a', decide (max e t.k < e2), out.clamped)

/-- The half added to its spill image (R173): values, exponent and the half's LFSR after the draws. -/
structure Merge where
  vals : List Cplx
  e : Nat
  peak : Nat
  lfsr : Nat
  clamped : Bool
  deriving DecidableEq, Repr

/-- Image + half with the fold rules at lim = 2^31 − 1 (R173). `img` holds the image's values, or none where it counts as zero. -/
def Acc.merge (a : Acc) (img : List Cplx) : Merge :=
  let ipeak := if img.isEmpty then 0 else a.imgPeak
  let e := if ipeak = 0 then a.e else a.eImg
  let lim := binLimit false
  let e2 := (chooseExp lim 31 ipeak e a.peak a.e 31 (max e a.e)).1
  let out := foldVals (lim : Nat) (e2 - e) (e2 - a.e) 4096 img a.vals a.lfsr
  ⟨out.vals, e2, out.peak, out.lfsr, out.clamped⟩

/-- The half after a spill (R173). -/
def Acc.spilled (a : Acc) (m : Merge) : Acc :=
  { a with vals := [], peak := 0, img := true, eImg := m.e, imgPeak := m.peak, lfsr := m.lfsr, binSat := a.binSat || m.clamped }

/-- Values with the words at some indices replaced by 0 + 0j (R511). -/
def dropWords (bad : List Nat) (vals : List Cplx) : List Cplx :=
  if bad.isEmpty then vals else (List.range 4096).map (fun i => if bad.contains i then (0, 0) else vals.getD i (0, 0))

/-! ## Tags and records (R160, R168, R170, R192) -/

/-- The tag of R160. `split` marks a half of a split bin. DESIGN CHOICE (log 53): NARROW reads 1 for every half of a split bin, a cleared one too. -/
def Acc.tag (a : Acc) (split : Bool) : Nat :=
  let f := ofBool a.spillErr * 128 + ofBool a.mixed * 64 + ofBool a.img * 32 + ofBool split * 8 + ofBool a.invalid * 4 + ofBool a.binSat * 2 + ofBool a.sat
  let hi := ((((((((a.folds * 2 ^ 64 + a.firstSc) * 2 ^ 64 + a.endSc) * 2 ^ 32 + a.cfgEpoch) * 2 ^ 32 + a.dumpEpoch) * 2 ^ 32 + a.lfsr) * 2 ^ 32 + a.peak)
    * 2 ^ 32 + a.imgPeak) * 2 ^ 4 + a.op) * 2 ^ 12 + a.chan
  let lo := ((((((hi * 2 ^ 7 + a.blka) * 2 ^ 7 + a.blkb) * 2 ^ 5 + a.e) * 2 ^ 5 + a.eImg) * 2 ^ 8 + f) * 2 ^ 4 + a.maxK) * 2 ^ 16 + a.satPasses
  (lo * 2 ^ 4 + a.seg) * 2 ^ 120

/-- binary16 of v × 2^−16 (R192). -/
def half16 (v : Int) : Nat := fmt16.round (decide (v < 0)) v.natAbs (-16)

/-- A value of a compressed body (R192). -/
def compValue (v : Cplx) : Nat := half16 v.1 * 65536 + half16 v.2

/-- The body words of a record (R168, R192). -/
def bodyWords (comp : Bool) (vals : List Cplx) : List Nat :=
  if comp then (List.range 2048).map (fun q => compValue (vals.getD (2 * q) (0, 0)) * 2 ^ 32 + compValue (vals.getD (2 * q + 1) (0, 0)))
  else (List.range 4096).map (fun i => let v := vals.getD i (0, 0); ofSigned 32 v.1 * 2 ^ 32 + ofSigned 32 v.2)

/-- A dump record (R168) of an accumulator whose body is `vals` at exponent `e` with a peak; the record number is filled in when it leaves its dump path. -/
def recordWords (a : Acc) (split : Bool) (bin half : Nat) (w : Nat) (vals : List Cplx) (e peak : Nat) : List Nat :=
  let empty := decide (a.folds = 0)
  let comp := woComp w
  let f := ofBool a.spillErr * 128 + ofBool a.mixed * 64 + ofBool empty * 32 + ofBool comp * 16 + ofBool split * 8 + ofBool a.invalid * 4
    + ofBool a.binSat * 2 + ofBool a.sat
  let w0 := 2 ^ 56 + bin * 2 ^ 43 + half * 2 ^ 42 + a.blka * 2 ^ 35 + a.blkb * 2 ^ 28 + a.chan * 2 ^ 16 + a.op * 2 ^ 12 + a.maxK * 2 ^ 8 + f
  [w0, a.firstSc, a.endSc, a.folds * 2 ^ 32 + a.cfgEpoch, a.dumpEpoch * 2 ^ 32 + (if empty then 0 else e) * 2 ^ 27 + a.satPasses, 0,
   woStream w * 2 ^ 32 + (if empty then 0 else peak), 0] ++ bodyWords comp (if empty then [] else vals)

/-- The record of a DUMP of a bin whose logical tile is unplaced (R170). -/
def invalidRecord (w : Nat) : List Nat :=
  [2 ^ 56 + woBin w * 2 ^ 43 + ofBool (woComp w) * 16 + 4, 0, 0, 0, 0, 0, woStream w * 2 ^ 32, 0] ++ bodyWords (woComp w) []

/-! ## Where bins lie (R118, R171, R172) -/

/-- The bin is split (R171). -/
def State.isSplit (s : State) (bin : Nat) : Bool := decide (s.reg 0x3400 1 ≤ bin)

/-- The half a CORR or DUMP work order selects (R171); 0 for a full bin. -/
def State.halfOf (s : State) (w nb : Nat) : Nat :=
  if s.isSplit (woBin w) && decide ((s.reg 0x3400 2 : Int) ≤ pairIndex nb (woBlka w) (woBlkb w)) then 1 else 0

/-- The accumulator of a tile's slot and half. -/
def State.acc (s : State) (g slot half : Nat) : Acc := (lookup s.xarray.bins ((g * 24 + slot) * 2 + half)).getD Acc.reset

/-- Replace an accumulator. -/
def State.setAcc (s : State) (g slot half : Nat) (a : Acc) : State :=
  { s with xarray := { s.xarray with bins := insertKey s.xarray.bins ((g * 24 + slot) * 2 + half) a } }

/-- The logical DRAM address of a spill image (R172). -/
def State.spillAddr (s : State) (bin half : Nat) : Nat := s.reg 0x3400 3 + ((bin - s.reg 0x3400 1) * 2 + half) * 32768

/-- The values of a spill image. -/
def imageVals (bs : Bytes) : List Cplx := (List.range 4096).map (fun i => (toSigned 32 (field bs (8 * i) 4), toSigned 32 (field bs (8 * i + 4) 4)))

/-- The bytes of a spill image. -/
def imageBytes (vals : List Cplx) : Bytes := vals.flatMap (fun v => beBytes 4 (ofSigned 32 v.1) ++ beBytes 4 (ofSigned 32 v.2))

/-- ZERO, and the clear of a clearing DUMP, on a full bin or both halves of a split one (R166). -/
def State.clearBin (s : State) (g slot : Nat) : State := (s.setAcc g slot 0 Acc.reset).setAcc g slot 1 Acc.reset

/-- Uncorrectable granary words in an accumulator (R511): each is replaced by zero and recorded. -/
def State.granaryEcc (s : State) (g slot half bin : Nat) (bad : List Nat) : State :=
  let a := s.acc g slot half
  if bad.isEmpty then s
  else (s.setAcc g slot half { a with vals := dropWords bad a.vals }).each bad (fun i s => s.faultRecord 7 0 bin i noInterruption a.firstSc)

end Sys2Proof.Machine
end

