-- ==== Sys2Proof/Machine/Dram.lean ====
section
/-! DEFINITION. DRAM controllers, the parity engine, delays and frequency changes (chapter 11). -/

namespace Sys2Proof.Machine

/-! ## Loss of a channel, and its rebuild (R351 to R354) -/

/-- CHANNEL_LOST (R352) with a cause the hardware finds: read timeout, PLL, verify; UNCORR follows from the error count itself. -/
def execChannelLost (ch cause : Nat) (s : State) : Result :=
  inst (decide (ch < 24) && decide (1 ≤ cause) && decide (cause ≤ 5))
    (.next (if ch < s.dramN && 2 ≤ cause && cause ≤ 4 then s.channelLost ch cause else s))

/-- A write of 01h to 5810h+ch.0D (R352). -/
def cmdDeclareLost (ch : Nat) (s : State) : Verdict := .ok (s.channelLost ch 5)

/-- One record of a delay block (R355) from 16-bit values by byte offset: CS and CA delays, ten devices, forty lanes, and zeros. Delays have 13 bits. -/
def delayRecord (w : Nat → Nat) (at_ : Nat) : Bytes :=
  let delay := fun off => beBytes 2 (w (at_ + off) % 8192)
  (List.range 15).flatMap (fun i => delay (2 * i))
    ++ (List.range 10).flatMap (fun d => delay (30 + 6 * d) ++ delay (32 + 6 * d) ++ beBytes 2 (w (at_ + 34 + 6 * d) % 65536))
    ++ (List.range 80).flatMap (fun i => delay (90 + 2 * i)) ++ zeroBytes 6

/-- A delay block (R355) from 16-bit values by byte offset, with zeros where the layout has them and for an absent package rank. -/
def delayBlock (speed org margin : Nat) (w : Nat → Nat) : Bytes :=
  [BitVec.ofNat 8 speed, BitVec.ofNat 8 org] ++ beBytes 2 (w 2 % 8192) ++ beBytes 2 (w 4 % 8192) ++ beBytes 2 margin ++ zeroBytes 56
    ++ (List.range 4).flatMap (fun q => if q / 2 < orgPackages org then delayRecord w (64 + 256 * q) else zeroBytes 256)

/-- The block that a training sets, with its verify margin: free values in the fields of R355 (R357). -/
def State.trainDraw (s : State) : Nat × Bytes × State :=
  let m := s.draw 16
  let d := m.2.draw (8 * 1088)
  (m.1, delayBlock (s.reg 0x5800 2) (s.reg 0x5800 1) m.1 (fun off => bits d.1 (8 * off + 15) (8 * off)), d.2)

/-- Bytes of unprotected units of a channel become zero (R353). -/
def State.zeroUnprotected (s : State) (ch : Nat) : State :=
  let mine := fun (k : Nat) => k / 2 ^ 40 = ch && decide (s.protUnits ≤ s.localUnit k)
  { s with dram := s.dram.filter (fun c => !mine (c.1 / 64)) }.setDdr { s.ddr with bad := s.ddr.bad.filter (fun k => !mine k) }

/-- A write of 01h to 5810h+ch.0E (R353): the channel trains; on success it starts to rebuild. -/
def cmdRebuild (ch : Nat) (s : State) : Verdict :=
  if s.chanState ch ≠ 2 then .error dState
  else
    let t := s.trainDraw
    let s := t.2.2
    if t.1 < s.reg 0x5800 0x12 then .ok (s.setReg (0x5840 + ch) 4 t.1)
    else .ok (((((s.takeDelays ch t.2.1).setReg (0x5810 + ch) 1 3).setReg (0x5810 + ch) 0x0F 0).zeroUnprotected ch).modChan ch
      (fun x => { x with progress := 0, credit := 0 }))

/-- A protected unit of a REBUILDING channel is rebuilt, written to it, and read from it from then on (R353). A stripe with another unit that cannot be
read leaves the unit uncorrectable. -/
def State.rebuildUnit (s : State) (ch u : Nat) : State :=
  let ok := s.rebuildable ch u
  let v := s.xorOthers ch u
  let s := s.each (s.others ch) (fun c s => s.deviceRead c u)
  let s := s.deviceWrite ch u v
  let s := if ok then s else s.markUnit ch u true
  let s := s.modChan ch (fun x => { x with progress := u + 1 })
  s.setReg (0x5810 + ch) 0x0F ((u + 1) / unitsPerGib)

/-- A rebuild may go on: no other channel is LOST or rebuilds. -/
def State.rebuildRuns (s : State) (ch : Nat) : Bool := s.chanState ch = 3 && (s.others ch).all (fun c => decide (s.chanState c < 2))

/-- One TCLK tick of a rebuild (R353): 5800h.11 gives 2 bits of reading for each Gb/s, and a unit takes n − 1 units of 512 bits. -/
def State.rebuildTick (s : State) (ch : Nat) : State :=
  let x := s.chan ch
  let cost := 512 * (s.dramN - 1)
  let saved := x.credit + 2 * s.reg 0x5800 0x11
  let k := min (saved / cost) (s.protUnits - x.progress)
  let s := s.modChan ch (fun x => { x with credit := saved % cost })
  s.each ((List.range k).map (fun i => x.progress + i)) (fun u s => s.rebuildUnit ch u)

/-- Rebuilds go on by one TCLK tick, and writers that wait for the parity engine count their FCLK ticks (R341, R353). -/
def State.dramTick (s : State) : State :=
  let s := s.each ((s.channelsIn 3).filter s.rebuildRuns) (fun c s => s.rebuildTick c)
  if s.ddr.writers.isEmpty then s else s.inc64 0x5801 8 (2 * s.ddr.writers.length)

/-- The protected local units, from `lo` on, of which a device of some channel holds a byte that is not zero, or an uncorrectable unit. -/
def State.heldUnits (s : State) (lo : Nat) : List Nat :=
  (((s.dram.map (fun c => s.localUnit (c.1 / 64))) ++ s.ddr.bad.map s.localUnit).filter (fun u => decide (lo ≤ u) && decide (u < s.protUnits))).eraseDups

/-- The units that a rebuild has still to do when it completes: they are read and written (R353); those whose stripes hold zeros alone stay as they are. -/
def State.rebuildRest (s : State) (ch : Nat) : State :=
  let lo := (s.chan ch).progress
  let rest := s.protUnits - lo
  let s := s.each (s.heldUnits lo) (fun u s =>
    let ok := s.rebuildable ch u
    (s.putUnit ch u (s.xorOthers ch u)).markUnit ch u (!ok))
  let s := s.each (s.others ch) (fun c s => s.inc64 (0x5810 + c) 5 rest)
  (s.inc64 (0x5810 + ch) 6 rest).modChan ch (fun x => { x with progress := 0, credit := 0 })

/-- REBUILD_COMPLETE (R353): not while another channel is LOST or rebuilds. -/
def execRebuildComplete (ch : Nat) (s : State) : Result :=
  inst (decide (ch < 24))
    (if ch < s.dramN && s.rebuildRuns ch then
      let s := (s.rebuildRest ch).setReg (0x5810 + ch) 1 0
      .next ((s.setReg (0x5810 + ch) 0x0F s.dramQ).faultRecord 6 5 ch (s.reg (0x5810 + ch) 0x10) noInterruption s.sc)
     else .next s)

/-! ## Reads (R344, R345, R348) -/

/-- DRAM_READ (R344): a read of the unit at a logical address with the class of its request, and what ECC found. A unit with all its bytes in an open
assembly is served from the engine (R342); an unprotected access to an OFFLINE channel waits at its controller (R351). -/
def execDramRead (addr cls err : Nat) (s : State) : Result :=
  inst (decide (cls < 4) && decide (err < 3))
    (match s.mapAddr addr with
     | none => .next s
     | some (ch, u) =>
       if !s.needsDram (addr / 64 * 64) 64 (addr / 64) then .next s
       else
         let s := s.meterU ch cls
         if s.chanState ch = 1 && decide (s.protUnits ≤ u) then .next (s.enqueue ⟨ch, u, none, cls, s.time.tclk⟩) else .next (s.readUnit ch u err))

/-- SCRUB_READ (R345). -/
def execScrubRead (ch err : Nat) (s : State) : Result :=
  inst (decide (ch < 24) && decide (err < 3))
    (if s.reg 0x5800 0x0C ≠ 0 && s.chanState ch = 0 && ch < s.dramN then
      let u := (s.chan ch).scrub
      let s := s.modChan ch (fun x => { x with scrub := if u + 1 < unitsPerGib * s.reg 0x5800 3 then u + 1 else 0 })
      let fixed := err = 1 && !s.unitBad ch u
      let v := s.devUnit ch u
      let s := s.readUnit ch u err
      .next (if fixed then s.deviceWrite ch u v else s)
     else .next s)

/-! ## The parity engine (R341) -/

/-- PARITY_ENGINE_WRITE (R341), by the crib writer (class H). A write that finds the engine full waits. -/
def execParityEngineWrite (addr : Nat) (data : Bytes) (s : State) : Result :=
  if !data.isEmpty && addr + data.length ≤ s.protSize then .next (s.store 2 addr data) else .next s

/-- ASSEMBLY_CLOSE (R341). `closeStripe` tells that the stripe's accumulator closes as well, although units of it have not closed. Writers that waited
enter as far as there is space. -/
def execAssemblyClose (closeStripe : Bool) (s : State) : Result :=
  match s.nextClose with
  | some x => .next (s.closeAssembly x closeStripe).admitWriters
  | none => .next s

/-- Every open assembly and parity is written, as before self-refresh (R361). -/
def State.flushEngine (s : State) : State :=
  let s := s.each s.ddr.assemblies (fun x s => s.closeAssembly x false)
  s.each s.ddr.stripes (fun p s => s.closeStripe p.1)

/-! ## Refresh (R349) -/

/-- A rank's REFab is issued: its rows close, and it takes the delays it waits for (R346, R358). -/
def State.refresh (s : State) (ch rank : Nat) : State :=
  let x := s.chan ch
  let left := x.applyRanks.filter (fun r => r ≠ rank)
  let s := (s.closeRows ch (fun b => bankRank b = rank)).modChan ch (fun x => { x with applyRanks := left })
  if left.isEmpty && !x.applyRanks.isEmpty then s.takeDelays ch x.applyBlock else s

/-- REFRESH_DUE (R349). `busy` tells that class U or H requests wait: up to four refreshes are postponed. -/
def execRefreshDue (ch rank : Nat) (busy : Bool) (s : State) : Result :=
  inst (decide (ch < 24) && decide (rank < 2))
    (if ch < s.dramN && rank < orgRanks (s.reg 0x5800 1) && s.chanState ch ≠ 1 then
      let p := nthD 0 (s.chan ch).postponed rank
      let set := fun (s : State) n => s.modChan ch (fun x => { x with postponed := modNth (fun _ => n) x.postponed rank })
      if busy && p < 4 then .next ((set s (p + 1)).inc32 (0x5810 + ch) 0x0A 1)
      else .next ((set s (if busy then p else 0)).refresh ch rank)
     else .next s)

/-- MR4_READ (R349): the rate code of each rank; `above` tells that one reports a rate above 1×, which halves tREFI. -/
def execMr4Read (ch : Nat) (codes : List Nat) (above : Bool) (s : State) : Result :=
  inst (decide (ch < 24))
    (if ch < s.dramN then .next ((s.setReg (0x5810 + ch) 0x0C ((codes.foldl max 0) % 256)).modChan ch (fun x => { x with halved := above })) else .next s)

/-! ## Delays (R355 to R358) -/

/-- Every delay field of a block is at most 8,191 (R355). -/
def delaysOk (b : Bytes) : Bool :=
  let u16 := fun off => decide (field b off 2 ≤ 8191)
  u16 2 && u16 4 && (List.range 4).all (fun q =>
    let r := 64 + 256 * q
    (List.range 15).all (fun i => u16 (r + 2 * i)) && (List.range 10).all (fun d => u16 (r + 30 + 6 * d) && u16 (r + 32 + 6 * d)) &&
    (List.range 80).all (fun i => u16 (r + 90 + 2 * i)))

/-- The refusal a written shadow block meets, or 0 (R358, R363): its length, its organisation and its values. -/
def dramDomCheck (s : State) (b : Bytes) : Nat :=
  if b.length ≠ 1088 then dRange else if field b 1 1 = s.reg 0x5800 1 && delaysOk b then 0 else dCheck

/-- The ranks of a channel wait for their next refresh to take a block. -/
def State.startApply (s : State) (ch : Nat) (b : Bytes) : State :=
  s.modChan ch (fun x => { x with applyRanks := List.range (orgRanks (s.reg 0x5800 1)), applyBlock := b })

/-- A write of 01h to 5840h+ch.03 (R358): a block of another speed is refused. -/
def cmdApplyDelays (ch : Nat) (s : State) : Verdict :=
  accept (field (s.shadowBlock ch) 0 1 = s.reg 0x5800 2) dRule (s.startApply ch (s.shadowBlock ch))

/-- A channel is not ONLINE. -/
def State.anyNotOnline (s : State) : Bool := (List.range s.dramN).any (fun c => s.chanState c ≠ 0)

/-- A write of 01h to 5840h+ch.05 (R354, R358). -/
def cmdRecalibrate (ch : Nat) (s : State) : Verdict := accept (!s.anyNotOnline) dState (s.setReg (0x5840 + ch) 6 1)

/-- A recalibration that was refused shows so. -/
def State.recalRefused (s : State) (ch : Nat) : State := s.setReg (0x5840 + ch) 6 4

/-- A recalibration's last window ends with its margin and the block it found, in the layout of R355 (R352, R358). -/
def State.recalDone (s : State) (ch margin : Nat) (b : Bytes) : State :=
  let s := s.setReg (0x5840 + ch) 4 (margin % 65536)
  if margin % 65536 < s.reg 0x5800 0x12 then (s.setReg (0x5840 + ch) 6 3).channelLost ch 4
  else (s.setReg (0x5840 + ch) 6 2).startApply ch (delayBlock (s.reg 0x5800 2) (s.reg 0x5800 1) margin (fun off => field b off 2))

/-- RECAL_WINDOW (R358): an OFFLINE window starts on an ONLINE channel and ends on an OFFLINE one; the last one gives the verify margin and the new block. -/
def execRecalWindow (ch : Nat) (final : Bool) (margin : Nat) (block : Bytes) (s : State) : Result :=
  inst (decide (ch < 24))
    (if s.reg (0x5840 + ch) 6 = 1 && ch < s.dramN && s.ddr.freqNext ≠ some ch then
      match s.chanState ch with
      | 0 => .next (s.goOffline ch)
      | 1 => let s := s.backOnline ch; .next (if final then s.recalDone ch margin block else s)
      | _ => .next s
     else .next s)

/-! ## Frequency change (R360) -/

/-- A frequency change may start (R360). -/
def State.freqOk (s : State) : Bool :=
  let t := s.reg 0x5800 0x0E
  !s.anyNotOnline && s.ddr.freqNext.isNone &&
  (List.range 15).all (fun i => s.reg 0x5871 (i + 1) = (dramTiming (s.reg 0x5800 1) t).getD i 0) &&
  (List.range s.dramN).all (fun c => field (s.shadowBlock c) 0 1 = t)

/-- A write of 01h to 5800h.0F (R360). -/
def cmdFreqChange (s : State) : Verdict := accept s.freqOk dState ((s.setDdr { s.ddr with freqNext := some 0 }).setReg 0x5800 0x10 1)

/-- A change that was refused shows so. -/
def State.freqRefused (s : State) : State := s.setReg 0x5800 0x10 4

/-- The last channel has changed: the timing banks and the speed change (R360). -/
def State.freqDone (s : State) : State :=
  let s' := s.each ((List.range 15).map (· + 1)) (fun i t => (t.setReg 0x5870 i (s.reg 0x5871 i)).setReg 0x5871 i (s.reg 0x5870 i))
  ((s'.setReg 0x5800 2 (s.reg 0x5800 0x0E)).setReg 0x5800 0x10 2).setDdr { s.ddr with freqNext := none }

/-- CHANNEL_FREQ_SWITCH (R360): the next channel goes OFFLINE, or an OFFLINE one ends its change. -/
def execChannelFreqSwitch (s : State) : Result :=
  match s.ddr.freqNext with
  | none => .next s
  | some ch =>
    match s.chanState ch with
    | 0 => .next (s.goOffline ch)
    | 1 => let s := s.backOnline ch; .next (if s.dramN ≤ ch + 1 then s.freqDone else s)
    | _ => .next s

/-! ## The delay table (R356, R357) -/

/-- The speeds for which `get` has a block of every channel, and those blocks by channel. -/
def State.blocksOf (s : State) (get : Nat → Nat → Option Bytes) : List (Nat × List Bytes) :=
  (List.range 3).filterMap (fun sp =>
    let blocks := (List.range s.dramN).map (get sp)
    if blocks.all (fun b => b.isSome) then some (sp, blocks.map (fun b => b.getD [])) else none)

/-- The block of a speed and channel in the delay table. -/
def State.tableBlock (s : State) (sp c : Nat) : Option Bytes := lookup s.nv.delays (24 * sp + c)

/-- The speeds for which blocks are known: the live ones, and those of the table. -/
def State.knownBlocks (s : State) : List (Nat × List Bytes) := s.blocksOf (fun sp c => if sp = s.reg 0x5800 2 then some (s.liveBlock c) else s.tableBlock sp c)

/-- The speeds a set of blocks covers (5880h.04). -/
def speedsOf (known : List (Nat × List Bytes)) : Nat := known.foldl (fun a p => a + 2 ^ p.1) 0

/-- A write of 01h to 5880h.02 (R357): the live blocks become the table in flash. -/
def cmdStoreDelays (s : State) : Verdict :=
  let known := s.knownBlocks
  let delays := known.foldl (fun m p => (List.range p.2.length).foldl (fun m c => insertKey m (24 * p.1 + c) (p.2.getD c [])) m) ([] : List (Nat × Bytes))
  let start := if s.nv.org s.dramN = 0xFF then s.reg 0x5800 2 else s.nv.dramSpeed
  let crc := crc32c (tableBytes (s.reg 0x5800 1) s.dramN start known)
  let nv := { s.nv with dramMagic := tableMagic, dramVersion := 1, dramOrg := s.reg 0x5800 1, dramChannels := s.dramN, dramSpeed := start, dramCrc := crc, delays := delays }
  let s := { s with nv := nv }
  .ok (((s.setReg 0x5880 1 0).setReg 0x5880 3 crc).setReg 0x5880 4 (speedsOf known))

/-- A channel trains at the start-up speed; one that fails is LOST (R357). -/
def State.trainChannel (s : State) (ch : Nat) : State :=
  let t := s.trainDraw
  let s := t.2.2.takeDelays ch t.2.1
  if t.1 < s.reg 0x5800 0x12 then s.channelLost ch 4 else s

/-- The organisation is unknown: no valid table is loaded (R335). -/
def State.noTable (s : State) : State := (((s.setReg 0x5800 1 0xFF).setReg 0x5800 3 0).setReg 0x5800 4 0).setReg 0x5800 6 0

/-- The start-up procedure of R357: the table's head and CRC are checked; the channels for which it has no block are trained. -/
def State.dramStart (s : State) : State :=
  let known := s.blocksOf s.tableBlock
  let crc := crc32c (tableBytes s.nv.dramOrg s.nv.dramChannels s.nv.dramSpeed known)
  if s.nv.org s.dramN ≠ 0xFF && crc = s.nv.dramCrc then
    let s := ((s.setReg 0x5880 1 0).setReg 0x5880 3 crc).setReg 0x5880 4 (speedsOf known)
    if known.any (fun p => p.1 = s.nv.dramSpeed) then s else (s.each (List.range s.dramN) (fun ch s => s.trainChannel ch)).setReg 0x5880 1 4
  else (s.noTable.each (List.range s.dramN) (fun ch s => s.trainChannel ch)).setReg 0x5880 1 4

/-! ## Write rules and views -/

/-- The refusal a write to an entry of chapter 11 meets, or 0. -/
def dramCheck (s : State) (idx sub v : Nat) : Nat := if idx = 0x5800 && sub = 4 then (if v ≤ s.reg 0x5800 3 then 0 else dRange) else 0

/-- The sizes of the logical space follow Q (R337). What the engine holds is first written under the mapping of the old value (log 55). -/
def dramAfter (s : State) (idx sub old : Nat) : State :=
  if idx = 0x5800 && sub = 4 then
    let q := s.reg 0x5800 4
    let s := ((s.setReg 0x5800 4 old).flushEngine).setReg 0x5800 4 q
    (s.setReg 0x5800 6 s.protSize).setReg 0x5800 7 s.unprotSize
  else s

/-- Delay blocks as read. -/
def dramDomView (s : State) (idx sub : Nat) : Option Bytes :=
  if 0x5840 ≤ idx && idx < 0x5840 + s.dramN then
    match sub with | 1 => some (s.liveBlock (idx - 0x5840)) | 2 => some (s.shadowBlock (idx - 0x5840)) | _ => none
  else none

end Sys2Proof.Machine
end

