-- ==== Sys2Proof/Machine/DspA.lean ====
section
/-! DEFINITION. Slot A operations of the DSP cores (chapter 9, R281 to R287, R293, R294). -/

namespace Sys2Proof.Machine

/-! ## Complex arithmetic (R281) -/

/-- Real and imaginary halves of a D value (R278). -/
def cRe (v : Word32) : Int := toSigned 16 (v.toNat / 2 ^ 16)
def cIm (v : Word32) : Int := toSigned 16 v.toNat

/-- A complex value from two components. -/
def cPack (re im : Int) : Word32 := BitVec.ofNat 32 (ofSigned 16 re * 2 ^ 16 + ofSigned 16 im)

/-- x × y, and x × conj(y). -/
def cMul (x y : Word32) : Int × Int := (cRe x * cRe y - cIm x * cIm y, cRe x * cIm y + cIm x * cRe y)
def cMulConj (x y : Word32) : Int × Int := (cRe x * cRe y + cIm x * cIm y, cIm x * cRe y - cRe x * cIm y)

/-- An accumulator component after the clamp of R281. -/
def acClamp (v : Int) : Int := clampInt (-(2 ^ 39 - 1)) (2 ^ 39 - 1) v

/-- Accumulator `i` takes a value: clamped, ASAT set when it clamps, 0 when poisoned (R281, R298). -/
def DspCore.putAc (c : DspCore) (i : Nat) (re im : Int) (poison : Bool) : DspCore :=
  if poison then c.setAc i ⟨0, 0, true⟩
  else (c.saturated srAsat (acClamp re ≠ re || acClamp im ≠ im)).setAc i ⟨acClamp re, acClamp im, false⟩

/-- The accumulator that f[0] names. -/
def acSel (w : Nat) : Nat := w % 2
/-- Its value as the next accumulating operation sees it. -/
def DspCore.acc (c : DspCore) (i : Nat) : DspAcc := nthD DspAcc.zero c.ac i
/-- Its value as MVA sees it. -/
def DspCore.accOut (c : DspCore) (i : Nat) : DspAcc := nthD DspAcc.zero c.acOut i

/-- A multiply into an accumulator: `keep` times the old value plus `sign` times the product. -/
def DspCore.mulAcc (c : DspCore) (w : Nat) (keep sign : Int) (p : Word32 → Word32 → Int × Int) : DspCore :=
  let x := fX w
  let y := fY w
  let o := c.acc (acSel w)
  let v := p (c.dv x) (c.dv y)
  c.putAc (acSel w) (keep * o.re + sign * v.1) (keep * o.im + sign * v.2) (c.poisoned x || c.poisoned y || (keep ≠ 0 && o.poison))

/-- NOP of slot A (R287). -/
def execSlotANop (core : Nat) (s : State) : Result := s.slotAOp core 0x00 (fun _ c => c)
/-- CMUL (R287). -/
def execCmul (core : Nat) (s : State) : Result := s.slotAOp core 0x01 (fun w c => c.mulAcc w 0 1 cMul)
/-- CMULJ (R287). -/
def execCmulj (core : Nat) (s : State) : Result := s.slotAOp core 0x02 (fun w c => c.mulAcc w 0 1 cMulConj)
/-- CMAC (R287). -/
def execCmac (core : Nat) (s : State) : Result := s.slotAOp core 0x03 (fun w c => c.mulAcc w 1 1 cMul)
/-- CMACJ (R287). -/
def execCmacj (core : Nat) (s : State) : Result := s.slotAOp core 0x04 (fun w c => c.mulAcc w 1 1 cMulConj)
/-- CMSU (R287). -/
def execCmsu (core : Nat) (s : State) : Result := s.slotAOp core 0x05 (fun w c => c.mulAcc w 1 (-1) cMul)

/-- CMAG (R287): the imaginary part is unchanged. -/
def execCmag (core : Nat) (s : State) : Result :=
  s.slotAOp core 0x06 (fun w c =>
    let v := c.dv (fX w)
    let o := c.acc (acSel w)
    c.putAc (acSel w) (o.re + cRe v * cRe v + cIm v * cIm v) o.im (c.poisoned (fX w) || o.poison))

/-- CBFLY (R287): AC0 and AC1 from x·2^15 plus and minus y × z. -/
def execCbfly (core : Nat) (s : State) : Result :=
  s.slotAOp core 0x07 (fun w c =>
    let x := c.dv (fX w)
    let p := cMul (c.dv (fY w)) (c.dv (fZ w))
    let bad := c.poisoned (fX w) || c.poisoned (fY w) || c.poisoned (fZ w)
    (c.putAc 0 (cRe x * 2 ^ 15 + p.1) (cIm x * 2 ^ 15 + p.2) bad).putAc 1 (cRe x * 2 ^ 15 - p.1) (cIm x * 2 ^ 15 - p.2) bad)

/-- ACLR (R287). -/
def execAclr (core : Nat) (s : State) : Result :=
  s.slotAOp core 0x08 (fun w c => if bitAt w 1 then (c.setAc 0 DspAcc.zero).setAc 1 DspAcc.zero else c.setAc (acSel w) DspAcc.zero)

/-! ## Moves and block scaling (R282, R283) -/

/-- One component moved with shift `sh` to limit `lim`, and whether it clamped (R282). -/
def moveComp (sh : Nat) (lim v : Int) : Int × Bool :=
  let r := if sh = 0 then v else (v + ((2 ^ (sh - 1) : Nat) : Int)) / ((2 ^ sh : Nat) : Int)
  let c := clampInt (-lim - 1) lim r
  (c, decide (c ≠ r))

/-- The headroom of a 16-bit component (R283). -/
def headroom (v : Int) : Nat :=
  ((List.range 15).takeWhile (fun n => decide (-((2 ^ (14 - n) : Nat) : Int) ≤ v) && decide (v < ((2 ^ (14 - n) : Nat) : Int)))).length

/-- BXM takes the headroom of both components of a value (R283), for the bundle that follows. -/
def DspCore.detect (c : DspCore) (vs : List Word32) : DspCore :=
  let m := vs.foldl (fun a v => min a (min (headroom (cRe v)) (headroom (cIm v)))) c.bxm
  c.queue 1 (.cr 0x0B m)

/-- The shift of a move (R282). -/
def DspCore.moveShift (c : DspCore) (w : Nat) : Nat :=
  (match bits w 2 1 with | 0 => 0 | 1 => 1 | 2 => 2 | _ => c.bsh) + (if bitAt w 3 then 15 else 0)

/-- An accumulator moved to a D value, with its saturation (R282). -/
def DspCore.moved (c : DspCore) (w i : Nat) : Word32 × Bool :=
  let v := c.accOut i
  let sh := c.moveShift w
  if bitAt w 5 then
    let r := moveComp sh (2 ^ 31 - 1) v.re
    (BitVec.ofInt 32 r.1, r.2)
  else
    let r := moveComp sh 32767 v.re
    let q := moveComp sh 32767 v.im
    (cPack r.1 q.1, r.2 || q.2)

/-- MVA (R282). -/
def execMva (core : Nat) (s : State) : Result :=
  s.slotAOp core 0x09 (fun w c =>
    let bad := (c.accOut (acSel w)).poison
    let r := c.moved w (acSel w)
    let c := if bad then c else c.saturated srSat r.2
    let c := if bitAt w 4 && !bitAt w 5 && !bad then c.detect [r.1] else c
    c.result 2 (fD w) r.1 bad)

/-- MVA2 (R282). -/
def execMva2 (core : Nat) (s : State) : Result :=
  s.slotAOp core 0x0A (fun w c =>
    let b0 := (c.accOut 0).poison
    let b1 := (c.accOut 1).poison
    let r0 := c.moved w 0
    let r1 := c.moved w 1
    let c := c.saturated srSat ((!b0 && r0.2) || (!b1 && r1.2))
    let c := if bitAt w 4 then c.detect ((if b0 then [] else [r0.1]) ++ (if b1 then [] else [r1.1])) else c
    (c.result 2 (fD w) r0.1 b0).result 2 (fD w + 1) r1.1 b1)

/-- A saturating complex result (R284). -/
def DspCore.complexResult (c : DspCore) (w : Nat) (re im : Int) (poison : Bool) : DspCore :=
  let a := clampInt (-32768) 32767 re
  let b := clampInt (-32768) 32767 im
  let c := if poison then c else c.saturated srSat (a ≠ re || b ≠ im)
  c.result 1 (fD w) (cPack a b) poison

/-- Either of x and y is poisoned. -/
def DspCore.badXY (c : DspCore) (w : Nat) : Bool := c.poisoned (fX w) || c.poisoned (fY w)

/-- CADD (R284). -/
def execCadd (core : Nat) (s : State) : Result :=
  s.slotAOp core 0x0B (fun w c =>
    let x := c.dv (fX w)
    let y := c.dv (fY w)
    c.complexResult w (cRe x + cRe y) (cIm x + cIm y) (c.badXY w))
/-- CSUB (R284). -/
def execCsub (core : Nat) (s : State) : Result :=
  s.slotAOp core 0x0C (fun w c =>
    let x := c.dv (fX w)
    let y := c.dv (fY w)
    c.complexResult w (cRe x - cRe y) (cIm x - cIm y) (c.badXY w))
/-- CCONJ (R284). -/
def execCconj (core : Nat) (s : State) : Result :=
  s.slotAOp core 0x0D (fun w c => c.complexResult w (cRe (c.dv (fX w))) (-cIm (c.dv (fX w))) (c.poisoned (fX w)))

/-- BEXD (R283): a poisoned operand is ignored (R298). -/
def execBexd (core : Nat) (s : State) : Result :=
  s.slotAOp core 0x0E (fun w c =>
    let rs := if bitAt w 0 then [fX w, fY w] else [fX w]
    c.detect ((rs.filter (fun r => !c.poisoned r)).map c.dv))

/-- BEXS (R283). -/
def execBexs (core : Nat) (s : State) : Result :=
  s.slotAOp core 0x0F (fun w c =>
    let sh := bits w 1 0 - c.bxm
    ((c.queue 1 (.cr 0x0C sh)).queue 1 (.cr 0x0D (min (c.bexp + sh) 255))).queue 1 (.cr 0x0B 15))

/-! ## Integers (R284, R287) -/

/-- An integer operation on x and y. -/
def DspCore.intOp (c : DspCore) (k w : Nat) (f : Word32 → Word32 → Word32) : DspCore :=
  c.result k (fD w) (f (c.dv (fX w)) (c.dv (fY w))) (c.badXY w)

/-- ADD (R287). -/
def execAddD (core : Nat) (s : State) : Result := s.slotAOp core 0x10 (fun w c => c.intOp 1 w (fun x y => x + y))
/-- SUB (R287). -/
def execSubD (core : Nat) (s : State) : Result := s.slotAOp core 0x11 (fun w c => c.intOp 1 w (fun x y => x - y))
/-- AND (R287). -/
def execAndD (core : Nat) (s : State) : Result := s.slotAOp core 0x12 (fun w c => c.intOp 1 w (fun x y => x &&& y))
/-- OR (R287). -/
def execOrD (core : Nat) (s : State) : Result := s.slotAOp core 0x13 (fun w c => c.intOp 1 w (fun x y => x ||| y))
/-- XOR (R287). -/
def execXorD (core : Nat) (s : State) : Result := s.slotAOp core 0x14 (fun w c => c.intOp 1 w (fun x y => x ^^^ y))

/-- A shift by y[4:0], or by f[4:0] with f[9] set (R287). -/
def DspCore.shiftOp (c : DspCore) (w : Nat) (f : Word32 → Nat → Word32) : DspCore :=
  if bitAt w 9 then c.result 1 (fD w) (f (c.dv (fX w)) (bits w 4 0)) (c.poisoned (fX w))
  else c.result 1 (fD w) (f (c.dv (fX w)) ((c.dv (fY w)).toNat % 32)) (c.badXY w)

/-- SHL (R287). -/
def execShl (core : Nat) (s : State) : Result := s.slotAOp core 0x15 (fun w c => c.shiftOp w (fun x k => x <<< k))
/-- ASR (R287). -/
def execAsr (core : Nat) (s : State) : Result := s.slotAOp core 0x16 (fun w c => c.shiftOp w (fun x k => x.sshiftRight k))
/-- LSR (R287). -/
def execLsr (core : Nat) (s : State) : Result := s.slotAOp core 0x17 (fun w c => c.shiftOp w (fun x k => x >>> k))

/-- ADDI (R287): imm14 is sign-extended. -/
def execAddi (core : Nat) (s : State) : Result :=
  s.slotAOp core 0x18 (fun w c => c.result 1 (fD w) (c.dv (fX w) + BitVec.ofInt 32 (toSigned 14 w)) (c.poisoned (fX w)))
/-- MOVI (R287): imm16 is sign-extended. -/
def execMovi (core : Nat) (s : State) : Result := s.slotAOp core 0x19 (fun w c => c.result 1 (fD w) (BitVec.ofInt 32 (toSigned 16 w)) false)
/-- MOVHI (R287). -/
def execMovhi (core : Nat) (s : State) : Result :=
  s.slotAOp core 0x1A (fun w c => c.result 1 (fD w) (BitVec.ofNat 32 (w % 2 ^ 16 * 2 ^ 16 + (c.dv (fD w)).toNat % 2 ^ 16)) (c.poisoned (fD w)))

/-- A condition of CMP (R287). -/
def cmpHolds (cond : Nat) (x y : Word32) : Bool :=
  match cond with
  | 0 => x == y | 1 => x != y | 2 => x.slt y | 3 => x.sle y | 4 => x.ult y | 5 => x.ule y | _ => false

/-- CMP (R287): a poisoned operand gives 0 (R298). -/
def execCmpD (core : Nat) (s : State) : Result :=
  s.slotAOp core 0x1B (fun w c => c.queue 1 (.flag (fD w % 4) (!c.badXY w && cmpHolds (bits w 2 0) (c.dv (fX w)) (c.dv (fY w)))))

/-- MUL (R284). -/
def execMulD (core : Nat) (s : State) : Result := s.slotAOp core 0x1C (fun w c => c.intOp 2 w (fun x y => x * y))

/-- x div y truncated toward zero, and whether DZ is set (R284). -/
def dspDiv (x y : Word32) : Word32 × Bool :=
  if y = 0 then (if 0 ≤ x.toInt then (0x7FFFFFFF, true) else (0x80000000, true))
  else if x = 0x80000000 && y = 0xFFFFFFFF then (0x7FFFFFFF, true)
  else (BitVec.ofInt 32 (x.toInt.tdiv y.toInt), false)

/-- DIV (R284, R291): a DIV in flight completes first, and the ticks until then are stalls. -/
def execDivD (core : Nat) (s : State) : Result :=
  s.slotAWith core 0x1D (fun w s =>
    let c := s.core core
    let wait := match c.div with | some p => p.due - c.bundle | none => 0
    let s := (s.inc64 (0x5000 + core) 9 wait).modCore core (fun c =>
      match c.div with
      | some p => { c.apply p.what with div := none, cycl := (c.cycl + wait) % 2 ^ 64 }
      | none => c)
    s.modCore core (fun c =>
      let r := dspDiv (c.dv (fX w)) (c.dv (fY w))
      let bad := c.badXY w
      let c := if bad then c.stick srPsn else if r.2 then c.stick srDz else c
      { c with div := some ⟨c.bundle + 18, false, .d (fD w) (if bad then 0 else r.1) bad⟩ }))

/-! ## Control registers (R279) -/

/-- A control register as MOVC reads it; none for a reserved selector. -/
def State.crRead (s : State) (n sel : Nat) : Option Nat :=
  let c := s.core n
  match sel with
  | 0x00 => some (c.srValue (s.flag (0x5000 + n) 5))
  | 0x01 => some c.imr
  | 0x02 => some (s.dspIpr n)
  | 0x03 => some c.vbr
  | 0x04 => some c.epc
  | 0x05 => some c.esr
  | 0x06 => some c.ecause
  | 0x07 => some c.eaddr
  | 0x08 => some c.edata
  | 0x09 => some c.lr
  | 0x0A => some c.lc
  | 0x0B => some c.bxm
  | 0x0C => some c.bsh
  | 0x0D => some c.bexp
  | 0x0E => some (c.cycl % 2 ^ 32)
  | 0x0F => some c.cych
  | 0x10 => some n
  | _ =>
    if 0x20 ≤ sel && sel < 0x28 then some (nthD 0 c.am (sel - 0x20))
    else if 0x28 ≤ sel && sel < 0x30 then some (nthD 0 c.ab (sel - 0x28)).toNat
    else none

/-- MOVCW may write a selector with this value (R279, R296). -/
def crWritable (sel v : Nat) : Bool :=
  if sel ≤ 0x0D then sel ≠ 0x02 && sel ≠ 0x0A
  else if 0x20 ≤ sel && sel < 0x28 then bits v 31 30 ≠ 3 && bits v 29 19 = 0
  else decide (0x28 ≤ sel) && decide (sel < 0x30)

/-- MOVC (R279): a read of CYCL latches CYCH; a reserved selector raises ILLEGAL_CR. -/
def execMovc (core : Nat) (s : State) : Result :=
  s.slotAWith core 0x1E (fun w s =>
    let sel := bits w 5 0
    match s.crRead core sel with
    | some v => s.modCore core (fun c => { c with cych := if sel = 0x0E then c.cycl / 2 ^ 32 else c.cych }.result 1 (fD w) (BitVec.ofNat 32 v) false)
    | none => s.modCore core (fun c => c.raise cIllegalCr 0 0 c.pc))

/-- MOVCW (R279): a poisoned source writes 0 (R298). -/
def execMovcw (core : Nat) (s : State) : Result :=
  s.slotAOp core 0x1F (fun w c =>
    let sel := bits w 5 0
    let v := (c.dv (fX w)).toNat
    if crWritable sel v then c.queue 1 (.cr sel v) else c.raise cIllegalCr 0 0 c.pc)

/-- MOVAR (R287). -/
def execMovar (core : Nat) (s : State) : Result :=
  s.slotAOp core 0x20 (fun w c =>
    let i := bits w 3 0
    c.result 1 (fD w) (if i < 8 then nthD 0 c.a i else nthD 0 c.m (i - 8)) false)
/-- MOVRA (R287): a poisoned source writes 0 (R298). -/
def execMovra (core : Nat) (s : State) : Result :=
  s.slotAOp core 0x21 (fun w c =>
    let i := bits w 3 0
    let v := c.dv (fX w)
    c.queue 1 (if i < 8 then .a i v else .m (i - 8) v))

/-! ## Program flow (R293, R294) -/

/-- A cond field (R286). -/
def DspCore.cond (c : DspCore) (k : Nat) : Bool :=
  if k < 4 then k = 0 else if k < 8 then bitAt c.sr (k - 4) else if k < 12 then !bitAt c.sr (k - 8) else false

/-- The target issues after two delay slots. -/
def DspCore.branchTo (c : DspCore) (t : Nat) : DspCore := { c with branch := some (t % 2 ^ 13, 3) }

/-- BR (R293). One that is not taken goes on after its delay slots, and no boundary lies before or between them either (R292, R301). -/
def execBr (core : Nat) (s : State) : Result := s.slotAOp core 0x28 (fun w c => c.branchTo (if c.cond (fD w) then bits w 12 0 else c.pc + 3))
/-- CALL (R293). -/
def execCall (core : Nat) (s : State) : Result :=
  s.slotAOp core 0x29 (fun w c => (c.queue 1 (.lr ((c.pc + 3) % 2 ^ 13))).branchTo (bits w 12 0))
/-- RET (R293). -/
def execRet (core : Nat) (s : State) : Result := s.slotAOp core 0x2A (fun _ c => c.branchTo c.lr)
/-- RTI (R293): SR is restored when the target issues. -/
def execRti (core : Nat) (s : State) : Result :=
  s.slotAOp core 0x2B (fun _ c => { c.branchTo c.epc with rtiSr := some (c.esr &&& srWritable) })

/-- A repeat of the next `l` bundles `k` times (R294). -/
def DspCore.startRep (c : DspCore) (l k : Nat) : DspCore := { c with rep := some ⟨c.pc + 1, l, k - 1, true⟩ }

/-- REP (R294). -/
def execRep (core : Nat) (s : State) : Result := s.slotAOp core 0x2C (fun w c => c.startRep (bits w 16 12 + 1) (bits w 11 0 + 1))

/-- REPD (R294): 0 skips the block; a count above 4,096 or count × length above REP_MAX traps and skips it. -/
def execRepd (core : Nat) (s : State) : Result :=
  s.slotAWith core 0x2D (fun w s =>
    let max_ := s.reg (0x5000 + core) 4
    s.modCore core (fun c =>
      let k := (c.dv (fD w)).toNat
      let l := bits w 16 12 + 1
      let c := if c.poisoned (fD w) then c.stick srPsn else c
      let ovr := { c with skip := some (c.pc + 1 + l) }
      if k = 0 then ovr else if 4096 < k || max_ < k * l then ovr.raise cRepMax 0 0 c.pc else c.startRep l k))

/-- EIDI (R287). -/
def execEidi (core : Nat) (s : State) : Result := s.slotAOp core 0x2E (fun w c => c.queue 1 (.ie (bitAt w 0)))

/-- WAITE (R300): with no event at its inputs it has not issued, and the core waits. -/
def execWaite (core : Nat) (s : State) : Result :=
  inst (decide (core < 16))
    (match s.issuesA core 0x2F with
     | none => .next s
     | some w =>
       if (s.core core).stalls w then .next (s.dspStall core)
       else
         let hit := s.dspIpr core &&& (slotA w % 2 ^ 8)
         if hit = 0 then .next (s.setDspRun core dsWaiting)
         else
           let s := (s.beginBundle core).each (setBitsOf 8 hit) (fun i s => s.takeInput (irqInput core i))
           .next (s.modCore core (fun c => c.result 1 (fD (slotA w)) (BitVec.ofNat 32 hit) false)))

/-- SIGE (R287). -/
def execSige (core : Nat) (s : State) : Result := s.slotAWith core 0x30 (fun w s => s.fire (0x100 + 8 * core + bits w 1 0) 0)
/-- TRAP (R287). -/
def execTrapD (core : Nat) (s : State) : Result := s.slotAOp core 0x31 (fun w c => c.raise cSoft (bits w 3 0) 0 c.pc)
/-- HALT (R287): the core stops once the bundle has ended. -/
def execHaltD (core : Nat) (s : State) : Result := s.slotAOp core 0x32 (fun _ c => { c with halting := true })

end Sys2Proof.Machine
end

