-- ==== Sys2Proof/Machine/DspB.lean ====
section
/-! DEFINITION. Slot B operations of the DSP cores, far accesses, traps, interrupts, images and debug
(chapter 9, R288, R289, R297 to R310). -/

namespace Sys2Proof.Machine

/-! ## Local accesses (R297) -/

/-- The fault of a local access, if any. -/
def localFault (a : Nat) : Option Nat := if a % 4 ≠ 0 then some cAlign else if 0x40000 ≤ a then some cBadAddr else none

/-- A word of data memory, most significant byte at the lowest address. -/
def DspCore.word (c : DspCore) (a : Nat) : Word32 := BitVec.ofNat 32 (ofBytes (dramRead c.dmem a 4))

/-- A word stored. -/
def DspCore.putWord (c : DspCore) (a : Nat) (v : Word32) : DspCore := { c with dmem := dramWrite c.dmem a (beBytes 4 v.toNat) }

/-- A local load (R297): the word, or 0 with poison and its trap. `ecc` is 1 for a corrected error and 2 for an uncorrectable one. -/
def DspCore.loadTo (c : DspCore) (dst : Nat) (addr : Word32) (ecc : Nat) : DspCore :=
  let fail := fun cause => ((c.queueLoad 3 (.d dst 0 true)).stick srPsn).raise cause 0 addr.toNat c.pc
  match localFault addr.toNat with
  | some cause => fail cause
  | none => if ecc = 2 then fail cLoadEcc else c.queueLoad 3 (.d dst (c.word addr.toNat) false)

/-- A local store of D register `x` (R297, R298): a failing one writes nothing. -/
def DspCore.storeFrom (c : DspCore) (x : Nat) (addr : Word32) : DspCore :=
  match localFault addr.toNat with
  | some cause => c.raise cause 0 addr.toNat c.pc
  | none => c.putWord addr.toNat (c.dv x)

/-- Corrected errors of a bundle's loads (R297). -/
def State.countEcc (s : State) (n : Nat) (ecc : List Nat) : State :=
  s.inc32 (0x5000 + n) 0x10 (ecc.filter (fun e => e = 1)).length

/-- Address of an O form. -/
def DspCore.offAddr (c : DspCore) (w : Nat) : Word32 := c.areg (fA w) + BitVec.ofInt 32 (4 * toSigned 12 w)

/-- NOP of slot B (R289). -/
def execSlotBNop (core : Nat) (s : State) : Result := s.slotBOp core 0x00 (fun _ c => c)

/-- LD (R289). `ecc` tells what the check of the word read finds. -/
def execLd (core : Nat) (ecc : List Nat) (s : State) : Result :=
  s.slotBWith core 0x01 (fun w s =>
    (s.countEcc core (ecc.take 1)).modCore core (fun c => (c.loadTo (fD w) (c.areg (fA w)) (ecc.getD 0 0)).post (fA w) (fM w)))
/-- LDO (R289). -/
def execLdo (core : Nat) (ecc : List Nat) (s : State) : Result :=
  s.slotBWith core 0x02 (fun w s => (s.countEcc core (ecc.take 1)).modCore core (fun c => c.loadTo (fD w) (c.offAddr w) (ecc.getD 0 0)))
/-- ST (R289). -/
def execSt (core : Nat) (s : State) : Result :=
  s.slotBOp core 0x03 (fun w c => (c.storeFrom (fD w) (c.areg (fA w))).post (fA w) (fM w))
/-- STO (R289). -/
def execSto (core : Nat) (s : State) : Result := s.slotBOp core 0x04 (fun w c => c.storeFrom (fD w) (c.offAddr w))
/-- LD2 (R289). -/
def execLd2 (core : Nat) (ecc : List Nat) (s : State) : Result :=
  s.slotBWith core 0x05 (fun w s =>
    (s.countEcc core (ecc.take 2)).modCore core (fun c =>
      (((c.loadTo (fD w) (c.areg (fA w)) (ecc.getD 0 0)).loadTo (fE w) (c.areg (fB w)) (ecc.getD 1 0)).post (fA w) (fM w)).post (fB w) (fN w)))
/-- ST2 (R289): where both address one word, it holds e. -/
def execSt2 (core : Nat) (s : State) : Result :=
  s.slotBOp core 0x06 (fun w c =>
    (((c.storeFrom (fD w) (c.areg (fA w))).storeFrom (fE w) (c.areg (fB w))).post (fA w) (fM w)).post (fB w) (fN w))
/-- LDST (R289): where both address one word, the load returns the old word. -/
def execLdst (core : Nat) (ecc : List Nat) (s : State) : Result :=
  s.slotBWith core 0x07 (fun w s =>
    (s.countEcc core (ecc.take 1)).modCore core (fun c =>
      (((c.loadTo (fD w) (c.areg (fA w)) (ecc.getD 0 0)).storeFrom (fE w) (c.areg (fB w))).post (fA w) (fM w)).post (fB w) (fN w)))

/-! ## Far accesses (R299) -/

/-- The fault of a far access that never leaves the core. -/
def farFault (a : Nat) : Option Nat := if a % 4 ≠ 0 then some cAlign else if a < 0x80000000 then some cBadAddr else none

/-- A far access enters the core's fabric port. -/
def DspCore.farIssue (c : DspCore) (store : Bool) (dst addr data : Nat) : DspCore :=
  { c with far := c.far ++ [⟨c.nextId, store, dst, addr, data, c.pc, false⟩], nextId := c.nextId + 1 }

/-- FLD (R299): the destination is outstanding until the word arrives. -/
def execFld (core : Nat) (s : State) : Result :=
  s.slotBWith core 0x08 (fun w s =>
    (s.modCore core (fun c =>
      let a := (c.areg (fA w)).toNat
      (match farFault a with
       | some cause => ((c.queueLoad 1 (.d (fD w) 0 true)).stick srPsn).raise cause 0 a c.pc
       | none => c.farIssue false (fD w) a 0).post (fA w) (fM w))).showFar core)
/-- FST (R299). -/
def execFst (core : Nat) (s : State) : Result :=
  s.slotBWith core 0x09 (fun w s =>
    (s.modCore core (fun c =>
      let a := (c.areg (fA w)).toNat
      (match farFault a with
       | some cause => c.raise cause 0 a c.pc
       | none => c.farIssue true 0 a (c.dv (fD w)).toNat).post (fA w) (fM w))).showFar core)
/-- AMOD (R289). -/
def execAmod (core : Nat) (s : State) : Result := s.slotBOp core 0x0A (fun w c => c.post (fA w) (fM w))
/-- LDAI (R289). -/
def execLdai (core : Nat) (s : State) : Result := s.slotBOp core 0x0B (fun w c => c.queue 1 (.a (fA w) (BitVec.ofNat 32 (bits w 18 0))))

/-- A far load ends with a word, or with 0, poison and a trap. -/
def DspCore.farEnds (c : DspCore) (f : FarOp) (trap : Option Nat) (v : Nat) : DspCore :=
  let c := { c with far := c.far.filter (fun g => g.id ≠ f.id) }
  match trap, f.store with
  | none, false => c.apply (.d f.dst (BitVec.ofNat 32 v) false)
  | none, true => c
  | some t, false => ((c.apply (.d f.dst 0 true)).stick srPsn).raise t 0 f.addr f.bundle
  | some t, true => c.raise t 0 f.addr f.bundle

/-- A double fault raised between bundles stops the core at once. -/
def State.settleDouble (s : State) (n : Nat) : State := if (s.core n).issued then s else s.dspDouble n

/-- FAR_RESPONSE (R299): the oldest response reaches the core; SECURE has a trap of its own. -/
def execFarResponse (core : Nat) (s : State) : Result :=
  inst (decide (core < 16))
    (match (s.core core).responses with
     | [] => .next s
     | r :: rest =>
       let s := s.modCore core (fun c => { c with responses := rest })
       match (s.core core).far.find? (fun f => f.id = r.id) with
       | none => .next s
       | some f =>
         let trap := match r.cause with | 0 => none | 5 => some cSecure | _ => some cFarFault
         .next (((s.modCore core (fun c => c.farEnds f trap r.data)).showFar core).settleDouble core))

/-- FAR_TIMEOUT (R299): the oldest far load outstanding gets no response. -/
def execFarTimeout (core : Nat) (s : State) : Result :=
  inst (decide (core < 16))
    (match (s.core core).far.find? (fun f => !f.store) with
     | none => .next s
     | some f => .next (((s.modCore core (fun c => c.farEnds f (some cFarTimeout) 0)).showFar core).settleDouble core))

/-! ## Entry to traps and interrupts (R303) -/

/-- The core enters vector `v`: the drain, EPC, ESR, IE and the PC. -/
def DspCore.enter (c : DspCore) (sec : Bool) (v : Nat) : DspCore :=
  let c := c.drain
  let c := { c with epc := c.pc, esr := c.srValue sec, rtiSr := none }
  { c with sr := clearBit c.sr srIe, pc := (c.vbr + 4 * v) % 2 ^ 13 }

/-- The largest deferral seen (R302). -/
def State.noteDeferral (s : State) (n d : Nat) : State := s.setReg (0x5000 + n) 0x0F (max (s.reg (0x5000 + n) 0x0F) (min d (2 ^ 32 - 1)))

/-- A core that may enter a handler. -/
def State.mayEnter (s : State) (n : Nat) : Bool :=
  (s.dspRun n = dsRunning || s.dspRun n = dsWaiting) && (s.core n).boundary && s.reg (0x5000 + n) 2 = stOn

/-- TRAP_ENTRY (R303): the pending trap is taken. `imem` tells of an error the fetch of the next bundle finds: 1 corrected, 2 uncorrectable (IMEM_ECC).
`deferral` is the time it has waited, in DSPCLK. -/
def execTrapEntry (core imem deferral : Nat) (s : State) : Result :=
  inst (decide (core < 16))
    (let i := 0x5000 + core
     let s := if imem = 1 then s.inc32 i 0x10 1 else s
     let s := if imem = 2 && (s.core core).trap.isNone && s.mayEnter core then
         (s.modCore core (fun c => c.raise cImemEcc 0 0 c.pc)).settleDouble core else s
     match s.mayEnter core, (s.core core).trap with
     | true, some t =>
       let sec := s.flag i 5
       let s := s.modCore core (fun c =>
         let c := c.enter sec t.cause
         { c with ecause := t.further * 2 ^ 12 + t.code * 2 ^ 8 + t.cause, edata := t.data, eaddr := t.bundle, sr := setBit c.sr srExc, trap := none })
       let s := (((s.inc32 i 0x0A 1).setReg i 0x0C (t.code * 2 ^ 8 + t.cause)).setReg i 0x0D t.bundle).setReg i 0x0E t.data
       .next (((s.noteDeferral core deferral).setDspRun core dsRunning).fire (0x106 + 8 * core) (t.code * 2 ^ 8 + t.cause))
     | _, _ => .next s)

/-- INTERRUPT_ENTRY (R300, R303). `deferral` is the time the request has waited, in DSPCLK. -/
def execInterruptEntry (core deferral : Nat) (s : State) : Result :=
  inst (decide (core < 16))
    (match s.mayEnter core && (s.core core).trap.isNone, s.dspIrqChoice core with
     | true, some i =>
       let cls := bits (s.reg (0x5000 + core) 0x13) (2 * i + 1) (2 * i)
       let sec := s.flag (0x5000 + core) 5
       let s := (s.takeInput (irqInput core i)).modCore core (fun c =>
         { c.enter sec (16 + i) with irqPtr := modNth (fun _ => (i + 1) % 8) c.irqPtr cls })
       .next (((s.inc64 (0x5000 + core) 0x0B 1).noteDeferral core deferral).setDspRun core dsRunning)
     | _, _ => .next s)

/-! ## Program images (R305 to R308) -/

/-- Header fields of an image (R305). -/
def imgCodeLen (b : Bytes) : Nat := field b 6 2
def imgEntry (b : Bytes) : Nat := field b 8 2
def imgVbr (b : Bytes) : Nat := field b 10 2
def imgSegs (b : Bytes) : Nat := field b 12 2

/-- Bundle `i` of an image. -/
def imgBundle (b : Bytes) (i : Nat) : Nat := field b (64 + 8 * i) 8

/-- `n` segments follow, each with its descriptor and as many bytes as it declares, and nothing else (R305). -/
def imgFits : Nat → Bytes → Bool
  | 0, b => b.isEmpty
  | n + 1, b => let len := 8 + field b 4 4; decide (8 ≤ b.length) && decide (len ≤ b.length) && imgFits n (b.drop len)

/-- The data segments: offset and bytes. -/
def imgSegments : Nat → Bytes → List (Nat × Bytes)
  | 0, _ => []
  | n + 1, b =>
    let len := field b 4 4
    (field b 0 4, slice b 8 len) :: imgSegments n (b.drop (8 + len))

/-- Every segment of an image. -/
def imgData (b : Bytes) : List (Nat × Bytes) := imgSegments (imgSegs b) (b.drop (64 + 8 * imgCodeLen b))

/-- The registers restart as R279 and R280 say; memories, IPR and far accesses stay. -/
def DspCore.restart (c : DspCore) (entry vbr : Nat) : DspCore :=
  { DspCore.reset with imem := c.imem, dmem := c.dmem, vbr := vbr, pc := entry, nextId := c.nextId, imageNew := c.imageNew, haltReq := c.haltReq,
                       bundle := c.bundle, irqPtr := c.irqPtr }

/-- The live image of core `n`. -/
def State.dspImage (s : State) (n : Nat) : Bytes := s.dom (0x5100 + n) 1

/-- Code and data segments of the live image are copied, and the registers restart at its entry (R307, R308). -/
def State.dspLoad (s : State) (n : Nat) : State :=
  let b := s.dspImage n
  s.modCore n (fun c =>
    let c := if c.imageNew then
        { c with imem := (List.range (imgCodeLen b)).map (imgBundle b) ++ c.imem.drop (imgCodeLen b), dmem := (imgData b).foldl (fun m x => dramWrite m x.1 x.2) c.dmem, imageNew := false }
      else c
    c.restart (imgEntry b) (imgVbr b))

/-- The live image of core `n` has changed at an apply point (R307). -/
def State.dspImageLive (s : State) (n : Nat) : State :=
  let b := s.dspImage n
  let s := (s.setReg (0x5000 + n) 0x14 (if b.isEmpty then 0 else crc32c b)).modCore n (fun c => { c with imageNew := true })
  if s.reg (0x5000 + n) 2 = stOff then s.inc32 (0x5100 + n) 4 1 else s.modCore n (fun c => { c with applyReq := true })

/-- IMAGE_APPLY (R307): at a boundary with no far access outstanding the core enters LOADING. -/
def execImageApply (core : Nat) (s : State) : Result :=
  inst (decide (core < 16))
    (let c := s.core core
     let r := s.dspRun core
     if c.applyReq && c.far.isEmpty && (decide (2 ≤ r) && decide (r ≤ 5) || (r = dsRunning && c.boundary)) then
       .next (((s.modCore core (fun c => { c.drain with applyReq := false })).inc32 (0x5100 + core) 4 1).setDspRun core dsLoading)
     else .next s)

/-- IMAGE_LOAD_COMPLETE (R307): the core restarts at the entry; a halt written meanwhile stops it at the boundary before its first bundle (R310). -/
def execImageLoadComplete (core : Nat) (s : State) : Result :=
  inst (decide (core < 16))
    (if s.dspRun core = dsLoading || (s.core core).ending = some .loading then
       .next (((s.dspLoad core).modCore core (fun c => { c with haltReq := false })).setDspRun core (if (s.core core).haltReq then dsDebug else dsRunning))
     else .next s)

/-! ## Enables (R308) -/

/-- The refusal of a core enable, or 0. -/
def dspEnableCheck (s : State) (n : Nat) : Nat := if (s.dspImage n).isEmpty then dRule else 0

/-- A core enters ENABLING: its image is copied if it is new, its registers restart and IPR is cleared. -/
def State.dspEnabling (s : State) (n : Nat) : State :=
  let s := (s.dspLoad n).modCore n (fun c => { c with haltReq := false, applyReq := false })
  (s.each (List.range 8) (fun i s => s.setInput (irqInput n i) { s.input (irqInput n i) with held := none, queued := none })).setDspRun n dsStopped

/-- A core reaches ON. -/
def State.dspTurnsOn (s : State) (n : Nat) : State := s.setDspRun n dsRunning

/-- A core enters DISABLING: it stops at the next boundary, or at once where it issues nothing (R308). -/
def State.dspDisabling (s : State) (n : Nat) : State :=
  let r := s.dspRun n
  (if r = dsLoading then s.modCore n (fun c => { c with ending := some .loading })
   else if r = dsRunning && !(s.core n).boundary then s.modCore n (fun c => { c with ending := some .issuing })
   else s.modCore n DspCore.drain).setDspRun n dsStopped

/-- A core in DISABLING is done: it issues nothing, copies nothing and has no far access outstanding. -/
def State.dspIdle (s : State) (n : Nat) : Bool := (s.core n).ending.isNone && (s.core n).far.isEmpty

/-- A core reaches OFF: an image whose boundary it never reached is live all the same and counts as applied (R307, R311). -/
def State.dspTurnsOff (s : State) (n : Nat) : State :=
  if (s.core n).applyReq then (s.modCore n (fun c => { c with applyReq := false })).inc32 (0x5100 + n) 4 1 else s

/-! ## Debug (R310, R312) -/

/-- 01h written to F500h+n.01: the core halts at the next boundary, which is now where it has none to wait for. -/
def cmdDspHalt (n : Nat) (s : State) : Verdict :=
  let r := s.dspRun n
  .ok (if r = dsWaiting || (r = dsRunning && (s.core n).boundary) then
         (s.modCore n (fun c => { c.drain with haltReq := false, stepping := false })).setDspRun n dsDebug
       else if r = dsRunning || r = dsLoading then s.modCore n (fun c => { c with haltReq := true })
       else s)

/-- 01h written to F500h+n.02. -/
def cmdDspResume (n : Nat) (s : State) : Verdict :=
  accept (s.dspRun n = dsDebug) dState ((s.modCore n (fun c => { c with passBreak := true })).setDspRun n dsRunning)

/-- 01h written to F500h+n.03. -/
def cmdDspStep (n : Nat) (s : State) : Verdict :=
  accept (s.dspRun n = dsDebug) dState ((s.modCore n (fun c => { c with passBreak := true, stepping := true })).setDspRun n dsRunning)

/-- BREAKPOINT (R310): the bundle at the PC is a breakpoint and the boundary before it is interruptible. -/
def execBreakpointHit (core : Nat) (s : State) : Result :=
  inst (decide (core < 16))
    (if s.dspRun core = dsRunning && s.atBreak core then
       .next ((s.modCore core (fun c => { c.drain with haltReq := false, stepping := false })).setDspRun core dsDebug)
     else .next s)

/-- The register image F500h+n.09 (R312). -/
def State.dspRegs (s : State) (n : Nat) : Bytes :=
  let c := s.core n
  let words := fun (ws : List Word32) => ws.flatMap (fun w => beBytes 4 w.toNat)
  let ac := fun i => let v := c.accOut i; beBytes 5 (ofSigned 40 v.re) ++ beBytes 5 (ofSigned 40 v.im)
  let mask := fun (bs : List Bool) => (bs.zipIdx).foldl (fun a p => if p.1 then a + 2 ^ p.2 else a) 0
  words c.d ++ beBytes 2 (mask c.dPoison) ++ beBytes 1 (mask (c.acOut.map (fun x => x.poison))) ++ [0] ++ words c.a ++ words c.m ++ ac 0 ++ ac 1 ++ zeroBytes 8
    ++ (List.range 48).flatMap (fun i => beBytes 4 ((s.crRead n i).getD 0)) ++ beBytes 2 c.pc ++ zeroBytes 2

/-- A write of the register image in DEBUG_HALT: RO control registers keep their values. -/
def State.setDspRegs (s : State) (n : Nat) (b : Bytes) : State :=
  let words := fun off k => (List.range k).map (fun i => BitVec.ofNat 32 (field b (off + 4 * i) 4))
  let ac := fun i => (⟨acClamp (toSigned 40 (field b (132 + 10 * i) 5)), acClamp (toSigned 40 (field b (137 + 10 * i) 5)), bitAt (field b 66 1) i⟩ : DspAcc)
  s.modCore n (fun c =>
    let c := { c with d := words 0 16, dPoison := (List.range 16).map (bitAt (field b 64 2)), a := words 68 8, m := words 100 8,
                      ac := [ac 0, ac 1], acOut := [ac 0, ac 1], pc := field b 352 2 % 2 ^ 13 }
    (List.range 48).foldl (fun c i => let v := field b (160 + 4 * i) 4; if crWritable i v then c.apply (.cr i v) else c) c)

/-- Core entries whose value is computed. -/
def dspView (s : State) (idx sub : Nat) : Option Nat :=
  if 0xF500 ≤ idx && idx < 0xF510 then
    match sub with | 8 => some (s.core (idx - 0xF500)).pc | 9 => some (ofBytes (s.dspRegs (idx - 0xF500))) | _ => none
  else none

/-- DSPCLK ticks of one TCLK tick for a core that is ON and issues nothing: twelve for every five TCLK. -/
def State.dspTick (s : State) : State :=
  s.each ((List.range 16).filter (fun n => s.reg (0x5000 + n) 2 = stOn && s.dspRun n ≠ dsRunning)) (fun n s =>
    s.modCore n (fun c => { c with cycl := (c.cycl + (c.phase + 12) / 5) % 2 ^ 64, phase := (c.phase + 12) % 5 }))

/-! ## Checking an image (R285, R290, R295, R306) -/

/-- The bits of a slot A word that its operation may set; none for a reserved opcode or field code. -/
def slotAMask (w : Nat) : Option Nat :=
  let op := fOp w
  let xy := 0x003FC000
  let dxy := 0x03FFC000
  let dx := 0x03FC0000
  let m : Option Nat :=
    if op = 0 || op = 0x2A || op = 0x2B || op = 0x32 then some 0
    else if op ≤ 5 then some (xy + 1) else if op = 6 then some 0x003C0001 else if op = 7 then some (xy + 0x3C00)
    else if op = 8 then some 3 else if op = 9 then some 0x03C0003F else if op = 0x0A then some 0x03C0001E
    else if op = 0x0B || op = 0x0C then some dxy else if op = 0x0D then some dx
    else if op = 0x0E then some (if bitAt w 0 then xy + 1 else 0x003C0000) else if op = 0x0F then some 3
    else if op ≤ 0x14 then some dxy
    else if op ≤ 0x17 then some (if bitAt w 9 then dx + 0x21F else dxy)
    else if op = 0x18 then some (dx + 0x3FFF) else if op = 0x19 || op = 0x1A then some 0x03C0FFFF
    else if op = 0x1B then (if bits w 2 0 < 6 then some (xy + 0x00C00007) else none)
    else if op = 0x1C || op = 0x1D then some dxy
    else if op = 0x1E then some 0x03C0003F else if op = 0x1F then some 0x003C003F
    else if op = 0x20 then some 0x03C0000F else if op = 0x21 then some 0x003C000F
    else if op = 0x28 then (if fD w = 0 || (4 ≤ fD w && fD w < 12) then some 0x03C01FFF else none)
    else if op = 0x29 then some 0x1FFF else if op = 0x2C then some 0x1FFFF else if op = 0x2D then some 0x03C1F000
    else if op = 0x2E then some 1 else if op = 0x2F then some 0x03C000FF else if op = 0x30 then some 3 else if op = 0x31 then some 0x0F
    else none
  m.map (fun v => v + 0xFC000000)

/-- The same for a slot B word. -/
def slotBMask (w : Nat) : Option Nat :=
  let op := fOp w
  let m : Option Nat :=
    if op = 0 then some 0
    else if op = 1 || op = 3 || op = 8 || op = 9 then some 0x03FF0000
    else if op = 2 || op = 4 then some 0x03F80FFF
    else if 5 ≤ op && op ≤ 7 then some 0x03FFFFC0
    else if op = 0x0A then some 0x003F0000 else if op = 0x0B then some 0x003FFFFF else none
  m.map (fun v => v + 0xFC000000)

/-- A word holds no reserved opcode and no reserved bit. -/
def withinMask (m : Option Nat) (w : Nat) : Bool := match m with | some v => w &&& v = w | none => false

/-- Registers a bundle writes (R290): D from 0, A from 16, M from 24, control registers from 32, accumulators from 96. -/
def bundleWrites (w : Nat) : List Nat :=
  let a := slotA w
  let b := slotB w
  let d := fD a
  let op := fOp a
  let wa := if op = 7 then [96, 97] else if op = 8 && bitAt a 1 then [96, 97] else if 1 ≤ op && op ≤ 8 then [96 + acSel a]
    else if op = 0x0A then [d, d + 1] else if op = 9 || (0x0B ≤ op && op ≤ 0x0D) || (0x10 ≤ op && op ≤ 0x1A) || (0x1C ≤ op && op ≤ 0x1E) || op = 0x20 || op = 0x2F then [d]
    else if op = 0x1F then [32 + bits a 5 0] else if op = 0x21 then [16 + bits a 3 0] else []
  let ob := fOp b
  let wb := if ob = 1 || ob = 8 then [fD b, 16 + fA b] else if ob = 2 then [fD b] else if ob = 3 || ob = 9 || ob = 0x0A || ob = 0x0B then [16 + fA b]
    else if ob = 5 then [fD b, fE b, 16 + fA b, 16 + fB b] else if ob = 6 then [16 + fA b, 16 + fB b] else if ob = 7 then [fD b, 16 + fA b, 16 + fB b] else []
  wa ++ wb

/-- A bundle may not stand in a delay slot or a repeat block (R295). -/
def bundleForbidden (w : Nat) : Bool :=
  let a := fOp (slotA w)
  let b := fOp (slotB w)
  (decide (0x28 ≤ a) && decide (a ≤ 0x2D)) || a = 0x2F || a = 0x31 || a = 0x32 || a = 0x1D || b = 8 || b = 9

/-- The failure of bundle `i`, if any: a code of R306. -/
def bundleError (code : List Nat) (repMax i : Nat) : Option Nat :=
  let w := code.getD i 0
  let a := slotA w
  let op := fOp a
  let len := code.length
  let badAt := fun j => decide (len ≤ j) || bundleForbidden (code.getD j 0)
  let l := bits a 16 12 + 1
  if !(withinMask (slotAMask a) a && withinMask (slotBMask (slotB w)) (slotB w)) then some 2
  else if !decide (bundleWrites w).Nodup || (op = 0x0A && fD a % 2 = 1) then some 3
  else if 0x28 ≤ op && op ≤ 0x2B && (badAt (i + 1) || badAt (i + 2)) then some 4
  else if (op = 0x2C || op = 0x2D) && (List.range l).any (fun k => badAt (i + 1 + k)) then some 5
  else if op = 0x2C && decide (repMax < (bits a 11 0 + 1) * l) then some 6
  else if (op = 0x28 || op = 0x29) && decide (len ≤ bits a 12 0) then some 7
  else none

/-- The header of an image is right (R305). -/
def imgHeaderOk (b : Bytes) : Bool :=
  let n := imgCodeLen b
  field b 0 4 = 0x4B445350 && field b 4 2 = 1 && decide (1 ≤ n) && decide (n ≤ 8192) && decide (imgEntry b < n)
    && imgVbr b % 4 = 0 && decide (imgVbr b + 95 < n) && decide (imgSegs b ≤ 64) && (slice b 14 50).all (fun x => x = 0)
    && decide (b.length ≤ 328256) && decide (64 + 8 * n ≤ b.length) && imgFits (imgSegs b) (b.drop (64 + 8 * n))

/-- The data segments are whole, lie in the data memory and do not overlap (R305, R306). -/
def imgSegmentsOk : List (Nat × Bytes) → Bool
  | [] => true
  | (o, d) :: rest =>
    o % 4 = 0 && d.length % 4 = 0 && decide (4 ≤ d.length) && decide (o + d.length ≤ 262144)
      && rest.all (fun y => decide (o + d.length ≤ y.1) || decide (y.1 + y.2.length ≤ o)) && imgSegmentsOk rest

/-- The first failure of an image: code and bundle (R306). An empty image means no program. -/
def imageError (b : Bytes) (repMax : Nat) : Option (Nat × Nat) :=
  if b.isEmpty then none
  else if !imgHeaderOk b then some (1, 0)
  else
    let code := (List.range (imgCodeLen b)).map (imgBundle b)
    match (List.range code.length).findSome? (fun i => (bundleError code repMax i).map (fun e => (e, i))) with
    | some e => some e
    | none => if imgSegmentsOk (imgData b) then none else some (8, 0)

/-- An image is written to 5100h+n.01 (R306): its refusal, and the state with the failure recorded. -/
def State.checkImage (s : State) (n : Nat) (b : Bytes) : Nat × State :=
  match imageError b (s.reg (0x5000 + n) 4) with
  | none => (0, s)
  | some (e, i) => (dCheck, (s.setReg (0x5100 + n) 2 e).setReg (0x5100 + n) 3 i)

/-- The largest static REP count × length of an image (R307). -/
def imageRepMax (b : Bytes) : Nat :=
  (List.range (imgCodeLen b)).foldl (fun m i =>
    let a := slotA (imgBundle b i)
    if fOp a = 0x2C then max m ((bits a 11 0 + 1) * (bits a 16 12 + 1)) else m) 0

/-- The refusal a write to an entry of a core meets, or 0 (R307, R311, R312). `pending` is a staged image, if there is one. -/
def dspCheck (s : State) (pending : Option Bytes) (idx sub v : Nat) : Nat :=
  if 0x5000 ≤ idx && idx < 0x5010 && sub = 4 then
    (if imageRepMax (s.dspImage (idx - 0x5000)) ≤ v && imageRepMax (pending.getD []) ≤ v then 0 else dRule)
  else if 0xF500 ≤ idx && idx < 0xF510 && sub = 9 then (if s.dspRun (idx - 0xF500) = dsDebug then 0 else dNotOff)
  else 0

/-- The owning unit of a core's RWX entries is OFF (R311). -/
def dspOwnerOff (s : State) (idx : Nat) : Bool := s.reg (0x5000 + idx % 16) 2 = stOff

end Sys2Proof.Machine
end

