-- ==== Sys2Proof/Machine/Translate.lean ====
section
/-! DEFINITION. Windows, page tables, the TLB, the physical space, fabric faults, locks, and access to DRAM and data memories
(chapter 12, R364 to R384). -/

namespace Sys2Proof.Machine

/-- Map the fabric. -/
def State.modFab (s : State) (f : FabricState → FabricState) : State := { s with fabric := f s.fabric }

/-- Fabric cause codes (R381). -/
abbrev cNone : Nat := 0
abbrev cWindowMiss : Nat := 1
abbrev cDecode : Nat := 2
abbrev cPermR : Nat := 3
abbrev cPermW : Nat := 4
abbrev cFabSecure : Nat := 5
abbrev cPteInvalid : Nat := 6
abbrev cPteRsvd : Nat := 7
abbrev cWalkError : Nat := 8
abbrev cAccessFail : Nat := 9
abbrev cTimeout : Nat := 0x0A
abbrev cLockBroken : Nat := 0x0B
abbrev cMisalign : Nat := 0x0C
abbrev cBadDesc : Nat := 0x0D
abbrev cAborted : Nat := 0x0E

/-! ## Masters and targets (R364 to R366) -/

/-- A master id that is not reserved. -/
def masterOk (m : Nat) : Bool := m = 0 || (decide (0x10 ≤ m) && decide (m ≤ 0x67))
/-- A DSP far port. -/
def isDsp (m : Nat) : Bool := decide (0x10 ≤ m) && decide (m < 0x20)
/-- A DMA channel. -/
def isDma (m : Nat) : Bool := decide (0x20 ≤ m) && decide (m < 0x60)
/-- A windowed master. -/
def windowed (m : Nat) : Bool := isDsp m || isDma m

/-- What answers at an address. -/
inductive FabTarget where
  | dram (a : Nat)
  | mem (n off : Nat)
  | chan (c off : Nat)
  | xlat (off : Nat)
  | time (off : Nat)
  | dowel (off : Nat)
  | counter (off : Nat)
  | rom (off : Nat)
  | sram (off : Nat)
  | flash (off : Nat)
  deriving DecidableEq, Repr

/-- The target at a physical address (R365). -/
def State.physTarget (s : State) (a : Nat) : Option FabTarget :=
  let p := 0x3FF00000000
  if a < 0x24000000000 then (if s.dramExists a then some (.dram a) else none)
  else if a < p then none
  else
    let o := a - p
    if o < 0x400000 then (if o / 0x40000 < s.board.cores then some (.mem (o / 0x40000) (o % 0x40000)) else none)
    else if 0x1000000 ≤ o && o < 0x1040000 then some (.chan ((o - 0x1000000) / 4096) (o % 4096))
    else if 0x2000000 ≤ o && o < 0x2001000 then some (.xlat (o % 4096))
    else if 0x2010000 ≤ o && o < 0x2020000 then some (.time (o % 65536))
    else if 0x2020000 ≤ o && o < 0x2030000 then some (.dowel (o % 65536))
    else if 0x2030000 ≤ o && o < 0x2040000 then some (.counter (o % 65536))
    else none

/-- The target at an address of the management processor's own space (R372). -/
def State.mgmtTarget (s : State) (a : Nat) : Option FabTarget :=
  if a < 0x200000 then
    if s.flag 0x5C00 1 then some (.sram a) else if a < 0x40000 then some (.rom a) else none
  else if 0x10000000 ≤ a && a < 0x10040000 then some (.rom (a - 0x10000000))
  else if 0x20000000 ≤ a && a < 0x20200000 then some (.sram (a - 0x20000000))
  else if 0x30000000 ≤ a && a < 0x40000000 then some (.flash (a - 0x30000000))
  else if 0x400000000000 ≤ a && a < 0x440000000000 then s.physTarget (a - 0x400000000000)
  else none

/-- A path exists from a master to a target (R366). -/
def hasPath (m : Nat) (t : FabTarget) : Bool :=
  match t with
  | .dram _ => m ≠ 0x67
  | .mem _ _ => m = 0 || windowed m
  | .chan _ _ => m = 0 || isDsp m
  | .xlat _ => m = 0 || isDsp m
  | .time _ => m = 0 || isDsp m
  | .dowel _ => m = 0 || isDsp m
  | .counter _ => m = 0 || isDsp m
  | .rom _ => m = 0 || m = 0x67
  | .sram _ => m = 0 || m = 0x67
  | .flash _ => m = 0

/-- A target accepts only secure requests (R365). -/
def State.secureOnly (s : State) (t : FabTarget) : Bool :=
  match t with
  | .mem n _ => s.flag (0x5000 + n) 5
  | .chan c _ => s.flag (0x5D40 + c) 5
  | _ => false

/-- The target a master reaches, or a cause: no target, no path, then SECURE (R365, R366). -/
def State.route (s : State) (m a : Nat) (secure : Bool) : Except Nat FabTarget :=
  match (if m = 0 || m = 0x67 then s.mgmtTarget a else s.physTarget a) with
  | none => .error cDecode
  | some t => if !hasPath m t then .error cDecode else if s.secureOnly t && !secure then .error cFabSecure else .ok t

/-! ## Faults (R382, R384, R522) -/

/-- A fabric fault is logged: its counters, the fabric log, and the device's fault log at most once per master, cause and millisecond. -/
def State.fabFault (s : State) (m cause cls : Nat) (write secure : Bool) (window wa pa : Nat) : State :=
  let s := (s.inc64 0x5C00 4 1).inc32 0x5C03 cause 1
  let slot := s.reg 0x5C02 1
  let r := ((((((s.tb80 0 * 256 + m) * 256 + cause) * 256 + (cls % 4 * 64 + ofBool write * 32 + ofBool secure * 16)) * 256 + window) * 2 ^ 16) * 2 ^ 64 + wa % 2 ^ 64) * 2 ^ 64 + pa % 2 ^ 64
  let s := (s.setReg 0x5C02 (2 + slot) r).setReg 0x5C02 1 ((slot + 1) % 16)
  let now := s.time.tclk
  let seen := s.avail.fabricSeen.any (fun (x : Nat × Nat × Nat) => x.1 = m && x.2.1 = cause && decide (now < x.2.2 + 500000))
  if seen then s.inc32 0x7000 8 1
  else
    let s := { s with avail := { s.avail with fabricSeen := s.avail.fabricSeen.filter (fun (x : Nat × Nat × Nat) => decide (now < x.2.2 + 500000)) ++ [(m, cause, now)] } }
    s.faultRecord 0x0B 0 m cause noInterruption s.sc

/-! ## Windows and page tables (R374 to R379) -/

/-- The window a request uses: the lowest-numbered that is not OFF, holds the master and the address (R375). -/
def State.windowFor (s : State) (m w : Nat) : Option Nat :=
  (List.range 32).find? (fun i =>
    let x := 0x5C40 + i
    s.reg x 1 ≠ 0 && bitAt (s.reg x 2) (m - 0x10) && decide (s.reg x 3 ≤ w) && decide (w < s.reg x 3 + s.reg x 4))

/-- The permission check of R375: S, then R or W. -/
def permCheck (r w sec write secure : Bool) : Nat :=
  if sec && !secure then cFabSecure else if write && !w then cPermW else if !write && !r then cPermR else 0

/-- Bits of offset below a leaf of a level. -/
def leafBits (level : Nat) : Nat := match level with | 1 => 30 | 2 => 21 | _ => 12

/-- The index into a table of a level (R377). -/
def tableIndex (level o : Nat) : Nat := match level with | 1 => bits o 41 30 | 2 => bits o 29 21 | _ => bits o 20 12

/-- What a walk gives: the addresses of the entries read, and a leaf or a cause with the cause of a failed table read. -/
structure WalkResult where
  reads : List Nat
  leaf : Option TlbEntry
  cause : Nat
  readCause : Nat
  at_ : Nat
  deriving DecidableEq, Repr

/-- Walk from a table of level `level` (R377 to R379); `fuel` counts the levels left. -/
def State.walkFrom (s : State) (window o : Nat) : Nat → Nat → List Nat → WalkResult
  | 0, _, reads => ⟨reads, none, cPteRsvd, 0, 0⟩
  | fuel + 1, table, reads =>
    let level := 3 - fuel
    let a := table + 8 * tableIndex level o
    if !s.dramExists a then ⟨reads ++ [a], none, cWalkError, cDecode, a⟩
    else if !s.rangeReadable a 8 then ⟨reads ++ [a], none, cWalkError, cAccessFail, a⟩
    else
      let e := field (s.load a 8) 0 8
      let kind := bits e 59 58
      let pa := bits e 41 12 * 4096
      if !bitAt e 63 then ⟨reads ++ [a], none, cPteInvalid, 0, a⟩
      else if 2 ≤ kind || bits e 57 42 ≠ 0 || bits e 11 0 ≠ 0 then ⟨reads ++ [a], none, cPteRsvd, 0, a⟩
      else if kind = 0 then
        if bits e 62 60 ≠ 0 || level = 3 then ⟨reads ++ [a], none, cPteRsvd, 0, a⟩ else s.walkFrom window o fuel pa (reads ++ [a])
      else if pa % 2 ^ leafBits level ≠ 0 then ⟨reads ++ [a], none, cPteRsvd, 0, a⟩
      else ⟨reads ++ [a], some ⟨window, level, o / 2 ^ leafBits level, pa, bitAt e 62, bitAt e 61, bitAt e 60⟩, 0, 0, a⟩

/-- The walk for an offset of a window. -/
def State.walk (s : State) (window o : Nat) : WalkResult := s.walkFrom window o 3 (s.reg (0x5C40 + window) 5) []

/-- The TLB set of an entry (R379). -/
def TlbEntry.set (e : TlbEntry) : Nat := (37 * e.window + e.page) % 256

/-- A TLB lookup (R379). -/
def State.tlbFind (s : State) (window o : Nat) : Option TlbEntry :=
  s.fabric.tlb.find? (fun e => e.window = window && e.page = o / 2 ^ leafBits e.level)

/-- An entry is used or installed; the least recently used of a full set leaves (R379). -/
def State.tlbTouch (s : State) (e : TlbEntry) : State :=
  s.modFab (fun f =>
    let rest := f.tlb.filter (fun x => x ≠ e)
    let same := rest.filter (fun x => x.set = e.set)
    let rest := if 8 ≤ same.length then (match same.getLast? with | some x => rest.filter (fun y => y ≠ x) | none => rest) else rest
    { f with tlb := e :: rest })

/-- How a window address translates at present: a cause, a physical address with its TLB entry if any, or a TLB miss (R375, R379). -/
inductive Xlate where
  | fault (cause window : Nat)
  | miss (window : Nat)
  | phys (window pa : Nat) (entry : Option TlbEntry)
  deriving DecidableEq, Repr

/-- The end of a translation through a leaf. -/
def leafXlate (window o : Nat) (e : TlbEntry) (write secure : Bool) : Xlate :=
  match permCheck e.r e.w e.sec write secure with
  | 0 => .phys window (e.addr + o % 2 ^ leafBits e.level) (some e)
  | c => .fault c window

/-- Translate a window address without a walk. -/
def State.xlate (s : State) (m w : Nat) (write secure : Bool) : Xlate :=
  match s.windowFor m w with
  | none => .fault cWindowMiss 0xFF
  | some i =>
    let x := 0x5C40 + i
    let p := s.reg x 6
    let o := w - s.reg x 3
    match permCheck (bitAt p 0) (bitAt p 1) (bitAt p 2) write secure with
    | 0 =>
      if s.reg x 1 = 1 then .phys i (s.reg x 5 + o) none
      else match s.tlbFind i o with
        | some e => leafXlate i o e write secure
        | none => .miss i
    | c => .fault c i

/-- Translate with a walk at once, without counting: what a locked sequence names (R371). -/
def State.probe (s : State) (m w : Nat) (write secure : Bool) : Option Nat :=
  match s.xlate m w write secure with
  | .phys _ pa _ => some pa
  | .fault _ _ => none
  | .miss i =>
    let o := w - s.reg (0x5C40 + i) 3
    match (s.walk i o).leaf with
    | some e => match leafXlate i o e write secure with | .phys _ pa _ => some pa | _ => none
    | none => none

/-- The walk of a missing request completes: its reads made in the class of the request and counted, the leaf installed, a failed table read logged for the walker (R379, R383). -/
def State.walkNow (s : State) (cls i o : Nat) (write secure : Bool) : Xlate × State :=
  let r := s.walk i o
  let s := (s.each (r.reads.filter s.dramExists) (fun a s => s.readRange cls a 8)).inc64 0x5C01 5 r.reads.length
  match r.leaf with
  | some e => (leafXlate i o e write secure, s.tlbTouch e)
  | none =>
    let s := if r.readCause = 0 then s else s.fabFault 0x66 r.readCause cls false false 0xFF r.at_ r.at_
    (.fault r.cause i, s)

/-- Discard the TLB entries of a window (R376, R380). Its walks stay: their requests walk again. -/
def State.tlbDrop (s : State) (window : Nat) : State := s.modFab (fun f => { f with tlb := f.tlb.filter (fun e => e.window ≠ window) })

/-! ## Locks (R371) -/

/-- Another master's lock holds a request to a target of `n` bytes. -/
def State.lockedOut (s : State) (m : Nat) (t : FabTarget) (n : Nat) : Bool :=
  s.fabric.locks.any (fun l =>
    l.master ≠ m && (match t with
      | .dram a => (unitsOf a n).any (fun u => l.units.contains u)
      | .mem k _ => l.mems.contains k
      | _ => false))

/-- What a lock on a target holds. -/
def FabLock.add (l : FabLock) (t : FabTarget) (n : Nat) : FabLock :=
  match t with
  | .dram a => { l with units := (l.units ++ unitsOf a n).eraseDups }
  | .mem k _ => { l with mems := (l.mems ++ [k]).eraseDups }
  | _ => l

/-- A locked sequence begins. -/
def State.lockStart (s : State) (l : FabLock) : State := (s.inc64 0x5C00 2 1).modFab (fun f => { f with locks := f.locks ++ [l] })

/-- A locked sequence of a master ends. -/
def State.lockEnd (s : State) (m : Nat) : State := s.modFab (fun f => { f with locks := f.locks.filter (fun l => l.master ≠ m) })

/-- LOCK_BROKEN (R371): a lock held 64 FCLK is released; the rest of its sequence completes unlocked. -/
def execLockBroken (master : Nat) (s : State) : Result :=
  inst (masterOk master)
    (match s.fabric.locks.find? (fun l => l.master = master) with
     | none => .next s
     | some l =>
       let pa := match l.units with | u :: _ => 64 * u | [] => match l.mems with | n :: _ => 0x3FF00000000 + n * 0x40000 | [] => 0
       .next (((s.lockEnd master).inc32 0x5C00 3 1).fabFault master cLockBroken 0 false false 0xFF pa pa))

/-! ## Access to DRAM and data memories -/

/-- The arbiter of a target (R500). -/
def arbiterOf (t : FabTarget) : Nat :=
  match t with
  | .dram a => a / 64 % 12
  | .mem n _ => 12 + n
  | .chan _ _ => 28
  | .xlat _ => 29
  | .time _ => 30
  | .dowel _ => 31
  | .counter _ => 32
  | _ => 33

/-- A granted beat is metered (R370): the 126th class U beat of a window counts it. A window of 1 µs is 500 TCLK. -/
def State.meter (s : State) (t : FabTarget) (cls : Nat) : State :=
  if cls ≠ 3 then s
  else
    let a := arbiterOf t
    let w := s.time.tclk / 500
    let n := match s.fabric.meters.find? (fun m => m.arbiter = a && m.window = w) with | some m => m.beats + 1 | none => 1
    let s := s.modFab (fun f => { f with meters := f.meters.filter (fun m => m.arbiter ≠ a) ++ [⟨a, w, n⟩] })
    if n = 126 then s.inc32 0x5C00 5 1 else s

/-- A request to DRAM or a data memory (R342, R344, R351, R382), in its class (R20): bytes read, or a cause. `err` is what a data memory finds. -/
def State.storeAccess (s : State) (cls : Nat) (t : FabTarget) (write : Bool) (data : Bytes) (n err : Nat) : Except Nat Bytes × State :=
  match t with
  | .dram a =>
    if n ≠ 0 && !s.dramExists (a + n - 1) then (.error cDecode, s)
    else if write then
      let lost := decide (s.protSize ≤ a) && (match s.mapAddr a with | some (ch, _) => s.chanState ch = 2 | none => true)
      if lost then (.error cAccessFail, s) else (.ok [], s.store cls a (data.take n))
    else (if s.rangeReadable a n then .ok (s.load a n) else .error cAccessFail, s.readRange cls a n)
  | .mem k o =>
    if 0x40000 < o + n then (.error cDecode, s)
    else if err = 2 then (.error cAccessFail, s)
    else
      let s := if err = 1 then s.inc32 (0x5000 + k) 0x10 1 else s
      if write then (.ok [], s.modCore k (fun c => { c with dmem := dramWrite c.dmem o (data.take n) }))
      else (.ok (dramRead (s.core k).dmem o n), s)
  | _ => (.error cDecode, s)

/-- A request of a windowed master to DRAM or a data memory, translated with a walk if need be: the write-back of a descriptor (R386). -/
def State.windowedAccess (s : State) (m cls w : Nat) (write secure : Bool) (data : Bytes) (n : Nat) : Except Nat Bytes × State :=
  let r := match s.xlate m w write secure with
    | .miss i => (s.inc64 0x5C01 4 1).walkNow cls i (w - s.reg (0x5C40 + i) 3) write secure
    | x => (x, s)
  match r.1 with
  | .fault c i => (.error c, r.2.fabFault m c cls write secure i w 0)
  | .miss i => (.error cWalkError, r.2.fabFault m cWalkError cls write secure i w 0)
  | .phys i pa _ =>
    let s := r.2.inc64 (0x5C40 + i) 7 1
    match s.route m pa secure with
    | .error c => (.error c, s.fabFault m c cls write secure i w pa)
    | .ok t =>
      let o := (s.meter t cls).storeAccess cls t write data n 0
      match o.1 with
      | .ok b => (.ok b, o.2)
      | .error c => (.error c, o.2.fabFault m c cls write secure i w pa)

/-! ## Write rules (R374, R380) -/

/-- The refusal a write to a window entry meets, or 0 (R374). `eff` reads the window as it will stand. -/
def windowCheck (s : State) (eff : Nat → Nat → Nat) (idx sub v : Nat) : Nat :=
  if 0x5C40 ≤ idx && idx < 0x5C60 then
    let r := fun k => if k = sub then v else eff idx k
    if sub = 2 && (List.range 16).any (fun n => decide (s.board.cores ≤ n) && bitAt v n) then dRule
    else if (sub = 3 && v % 4096 ≠ 0) || (sub = 4 && (v % 4096 ≠ 0 || v = 0 || decide (2 ^ 42 < v))) then dRange
    else if (sub = 3 || sub = 4) && decide (2 ^ 48 < r 3 + r 4) then dRule
    else if r 1 = 1 && (sub = 1 || sub = 4 || sub = 5) && (r 5 % 4096 ≠ 0 || decide (2 ^ 42 < r 5 + r 4)) then dRule
    else if r 1 = 2 && (sub = 1 || sub = 5) && r 5 % 32768 ≠ 0 then dRule
    else 0
  else 0

/-- Windows whose entries have just become live lose their TLB entries (R376). -/
def State.windowsLive (s : State) (keys : List Nat) : State :=
  s.each ((List.range 32).filter (fun i => keys.any (fun k => k / 256 = 0x5C40 + i))) (fun i s => s.tlbDrop i)

/-- A window number written to 5C01h.01 (R380). -/
def cmdInvWindow (w : Nat) (s : State) : Verdict := accept (decide (w < 32)) dRange (s.tlbDrop w)

/-- 01h written to 5C01h.02 (R380). -/
def cmdInvAll (s : State) : Verdict := .ok (s.modFab (fun f => { f with tlb := [] }))

/-- The class of a request of a master (R20, R22): H of the management processor and of the unit streams whose class nothing configures, the configured one
of a DSP core or DMA channel, else what its stream gives it (log 55). -/
def State.masterClass (s : State) (m given : Nat) : Nat :=
  if m = 0 || (decide (0x63 ≤ m) && decide (m ≤ 0x65)) then 2
  else if isDsp m then s.reg (0x5000 + (m - 0x10)) 6
  else if isDma m then s.reg (0x5D40 + (m - 0x20)) 4
  else given % 4

/-- A register page of the fabric reached by a master: the state, or the fault of a master that has no path to it. -/
def State.onPage (s : State) (m pa : Nat) (secure : Bool) (f : State → State) : State :=
  match s.route m (if m = 0 then 0x400000000000 + pa else pa) secure with
  | .ok _ => f s
  | .error c => s.fabFault m c (s.masterClass m 0) true secure 0xFF pa pa

/-- PAGE_INV_WINDOW (R380): a number with no window is ignored. -/
def execPageInvWindow (master window : Nat) (s : State) : Result :=
  inst (masterOk master) (.next (s.onPage master 0x3FF02000000 (master = 0) (fun s => s.tlbDrop window)))

/-- PAGE_INV_ALL (R380). -/
def execPageInvAll (master : Nat) (s : State) : Result :=
  inst (masterOk master) (.next (s.onPage master 0x3FF02000008 (master = 0) (fun s => s.modFab (fun f => { f with tlb := [] }))))

end Sys2Proof.Machine
end

