-- ==== Sys2Proof/Machine/Dma.lean ====
section
/-! DEFINITION. DMA channels and movers (chapter 12, R386 to R395). -/

namespace Sys2Proof.Machine

/-- Channel `c`. -/
def State.dma (s : State) (c : Nat) : DmaChan := nthD DmaChan.reset s.fabric.chans c

/-- Map channel `c`. -/
def State.modDma (s : State) (c : Nat) (f : DmaChan → DmaChan) : State := s.modFab (fun x => { x with chans := modNth f x.chans c })

/-- Run state of a channel (R393). -/
def State.dmaRun (s : State) (c : Nat) : Nat := s.reg (0x5D40 + c) 3

/-- Set the run state of a channel. -/
def State.setDmaRun (s : State) (c v : Nat) : State := s.setReg (0x5D40 + c) 3 v

/-- Run states (R393). -/
abbrev dmIdle : Nat := 0
abbrev dmActive : Nat := 1
abbrev dmAborting : Nat := 2
abbrev dmAborted : Nat := 3
abbrev dmFaulted : Nat := 4
abbrev dmDone : Nat := 5
abbrev dmError : Nat := 6

/-! ## Descriptors (R386) -/

/-- Fields of a descriptor's eight words. -/
def dscWord (d : List Nat) (i : Nat) : Nat := d.getD i 0
def dscSrc (d : List Nat) : Nat := bits (dscWord d 0) 47 0
def dscDst (d : List Nat) : Nat := bits (dscWord d 1) 47 0
def dscLen (d : List Nat) : Nat := bits (dscWord d 2) 39 0
def dscNext (d : List Nat) : Nat := bits (dscWord d 3) 47 0
def dscOp (d : List Nat) : Nat := bits (dscWord d 4) 63 60
def dscChain (d : List Nat) : Bool := bitAt (dscWord d 4) 59
def dscIrq (d : List Nat) : Bool := bitAt (dscWord d 4) 58
def dscLock (d : List Nat) : Bool := bitAt (dscWord d 4) 57
def dscWb (d : List Nat) : Bool := bitAt (dscWord d 4) 56
def dscTag (d : List Nat) : Nat := bits (dscWord d 4) 55 48
/-- The descriptor is a FILL. -/
def dscFill (d : List Nat) : Bool := dscOp d = 1

/-- The check of a fetched descriptor: a cause, or 0 (R386). -/
def dscCheck (d : List Nat) : Nat :=
  let fill := dscFill d
  if (!fill && dscSrc d % 64 ≠ 0) || dscDst d % 64 ≠ 0 || dscLen d % 64 ≠ 0 || (dscChain d && dscNext d % 64 ≠ 0) then cMisalign
  else if 2 ≤ dscOp d || bits (dscWord d 0) 63 48 ≠ 0 || bits (dscWord d 1) 63 48 ≠ 0 || bits (dscWord d 2) 63 40 ≠ 0 || bits (dscWord d 3) 63 48 ≠ 0
      || bits (dscWord d 4) 47 0 ≠ 0 || dscWord d 6 ≠ 0 || dscLen d = 0 || (dscLock d && (fill || decide (1024 < dscLen d))) then cBadDesc
  else 0

/-- The class of a channel's requests, and its secure attribute (R391). -/
def State.dmaClass (s : State) (c : Nat) : Nat := s.reg (0x5D40 + c) 4
def State.dmaSecure (s : State) (c : Nat) : Bool := s.flag (0x5D40 + c) 5

/-- A channel gives up its mover and its lock. -/
def State.dmaRelease (s : State) (c : Nat) : State := (s.modDma c (fun x => { x with mover := false })).lockEnd (0x20 + c)

/-- Status is written back to word 7 if the descriptor asks for it (R386, R388). -/
def State.writeBack (s : State) (c cause residue : Nat) : State :=
  match (s.dma c).desc with
  | some d =>
    if dscWb d then
      (s.windowedAccess (0x20 + c) (s.dmaClass c) (s.reg (0x5D40 + c) 0x0B + 56) true (s.dmaSecure c)
        (beBytes 8 (cause * 2 ^ 56 + dscTag d * 2 ^ 48 + residue % 2 ^ 40)) 8).2
    else s
  | none => s

/-- DMA_FAULT fires with a cause (R386, R389, R392). -/
def State.dmaFaultEvent (s : State) (c cause : Nat) : State := s.fire (0x201 + 2 * c) cause

/-- A channel takes a new descriptor address and becomes ready (R387, R391). -/
def State.dmaFetch (s : State) (c addr : Nat) : State :=
  (s.setReg (0x5D40 + c) 0x0B addr).modDma c (fun x =>
    { DmaChan.reset with fetch := some addr, mover := x.mover, turnStart := x.turnStart, turnBytes := x.turnBytes })

/-! ## Commands (R387, R389, R392) -/

/-- A start: accepted, or the refusal detail; a misaligned address is reported as MISALIGN (R387). -/
def State.dmaStart (s : State) (c : Nat) : Nat × State :=
  let i := 0x5D40 + c
  let r := s.dmaRun c
  if s.reg i 2 ≠ stOn || r = dmActive || r = dmAborting then (dState, s)
  else if s.reg i 6 % 64 ≠ 0 then (dRule, s.setReg i 0x0A cMisalign)
  else
    let s := (((s.setReg i 0x0A 0).setReg i 0x0C 0).setReg i 0x0F 0).modDma c (fun _ => DmaChan.reset)
    (0, (s.dmaFetch c (s.reg i 6)).setDmaRun c dmActive)

/-- Requests of a master that have not been granted are dropped. -/
def State.dropRequests (s : State) (m : Nat) : State :=
  s.modFab (fun f => { f with walks := f.walks.filter (fun w => w.master ≠ m), waiting := f.waiting.filter (fun w => w.master ≠ m) })

/-- A channel becomes ABORTED (R392). -/
def State.dmaAbortedNow (s : State) (c : Nat) : State :=
  let i := 0x5D40 + c
  let x := s.dma c
  let residue := match x.desc with | some d => dscLen d - x.writeOff | none => 0
  let s := ((s.setReg i 0x0A cAborted).setReg i 0x0C residue).writeBack c cAborted residue
  (((s.dmaRelease c).dropRequests (0x20 + c)).modDma c (fun x => { x with buffer := [], fault := none, fetch := none, fetched := none })).setDmaRun c dmAborted |>.dmaFaultEvent c cAborted

/-- An abort (R392). -/
def State.dmaAbort (s : State) (c : Nat) : State :=
  match s.dmaRun c with
  | 1 => if (s.dma c).mover then s.setDmaRun c dmAborting else s.dmaAbortedNow c
  | 4 => s.setDmaRun c dmAborted
  | _ => s

/-- A resume of the same descriptor at LEN − residue (R389). -/
def State.dmaResume (s : State) (c : Nat) : Nat × State :=
  let i := 0x5D40 + c
  let r := s.dmaRun c
  if s.reg i 2 ≠ stOn || (r ≠ dmFaulted && r ≠ dmAborted) then (dState, s)
  else
    let s := match (s.dma c).desc with
      | some d =>
        let o := dscLen d - s.reg i 0x0C
        s.modDma c (fun x => { x with readOff := o, writeOff := o, buffer := [], fault := none })
      | none => s.dmaFetch c (s.reg i 0x0B)
    (0, s.setDmaRun c dmActive)

/-- The descriptor in progress is abandoned: NEXT follows, or the chain ends (R389). -/
def State.dmaNext (s : State) (c : Nat) : State :=
  match (s.dma c).desc with
  | some d => if dscChain d then (s.dmaFetch c (dscNext d)).setDmaRun c dmActive else (s.dmaRelease c).setDmaRun c dmDone
  | none => (s.dmaRelease c).setDmaRun c dmDone

/-- A resume at NEXT (R389). -/
def State.dmaResumeNext (s : State) (c : Nat) : Nat × State :=
  let r := s.dmaRun c
  if s.reg (0x5D40 + c) 2 ≠ stOn || (r ≠ dmFaulted && r ≠ dmAborted) then (dState, s) else (0, s.dmaNext c)

/-- The command register of a channel's page (R390): a command refused has no effect. -/
def State.dmaPageCmd (s : State) (c v : Nat) : State :=
  match v with
  | 1 => (s.dmaStart c).2
  | 2 => s.dmaAbort c
  | 3 => (s.dmaResume c).2
  | 4 => (s.dmaResumeNext c).2
  | _ => s

/-- What a refusal detail makes of a dictionary command. -/
def ofDetail (r : Nat × State) : Verdict := if r.1 = 0 then .ok r.2 else .error r.1

/-- 01h written to 5D40h+c.07. -/
def cmdDmaStart (c : Nat) (s : State) : Verdict := ofDetail (s.dmaStart c)
/-- 01h written to 5D40h+c.08. -/
def cmdDmaAbort (c : Nat) (s : State) : Verdict := .ok (s.dmaAbort c)
/-- 01h written to 5D40h+c.09. -/
def cmdDmaResume (c : Nat) (s : State) : Verdict := ofDetail (s.dmaResume c)
/-- 02h written to 5D40h+c.09. -/
def cmdDmaResumeNext (c : Nat) (s : State) : Verdict := ofDetail (s.dmaResumeNext c)

/-- An event at dma.start of channel `c`: a refusal is counted (R387). -/
def State.dmaStartEvent (s : State) (c : Nat) : State :=
  if (s.held (0x200 + 2 * c)).isSome then
    let r := (s.takeInput (0x200 + 2 * c)).dmaStart c
    if r.1 = 0 then r.2 else r.2.inc32 (0x5D40 + c) 0x13 1
  else s

/-- An event at dma.abort of channel `c` (R392). -/
def State.dmaAbortEvent (s : State) (c : Nat) : State :=
  if (s.held (0x201 + 2 * c)).isSome then (s.takeInput (0x201 + 2 * c)).dmaAbort c else s

/-! ## Progress of a descriptor -/

/-- DESCRIPTOR_FETCH (R386): the fetched descriptor is checked; its transfer begins, or the channel enters ERROR. -/
def execDescriptorFetch (c : Nat) (s : State) : Result :=
  inst (decide (c < 64))
    (match (s.dma c).fetched with
     | none => .next s
     | some b =>
       if s.dmaRun c ≠ dmActive then .next s
       else
         let i := 0x5D40 + c
         let d := (List.range 8).map (fun k => field b (8 * k) 8)
         let e := dscCheck d
         let s := (s.modDma c (fun x => { x with fetched := none })).setReg i 0x0D (dscTag d)
         if e = 0 then
           .next ((s.setReg i 0x0C (dscLen d)).modDma c (fun x => { x with desc := some d, readOff := 0, writeOff := 0, buffer := [], fault := none }))
         else
           let s := s.fabFault (0x20 + c) e (s.dmaClass c) false (s.dmaSecure c) 0xFF (s.reg i 0x0B) 0
           .next ((((s.setReg i 0x0A e).dmaRelease c).setDmaRun c dmError).dmaFaultEvent c e))

/-- DESCRIPTOR_COMPLETE (R388): after the last write. -/
def execDescriptorComplete (c : Nat) (s : State) : Result :=
  inst (decide (c < 64))
    (let x := s.dma c
     match x.desc with
     | some d =>
       if s.dmaRun c = dmActive && x.writeOff = dscLen d && x.fault.isNone then
         let i := 0x5D40 + c
         let s := ((s.setReg i 0x0A 0).setReg i 0x0C 0).writeBack c 0 0
         let s := (s.inc64 i 0x11 1).inc64 0x5D00 5 1
         let s := if dscIrq d then s.fire (0x200 + 2 * c) (dscTag d) else s
         .next ((s.lockEnd (0x20 + c)).dmaNext c)
       else .next s
     | none => .next s)

/-- DMA_BEAT_FAULT (R389): the first faulting beat is recorded once every earlier beat has been written. -/
def execDmaBeatFault (c : Nat) (s : State) : Result :=
  inst (decide (c < 64))
    (let x := s.dma c
     match x.fault with
     | some f =>
       if (s.dmaRun c = dmActive || s.dmaRun c = dmAborting) && x.buffer.all (fun b => decide (f.off ≤ b.1)) then
         let i := 0x5D40 + c
         let residue := match x.desc with | some d => dscLen d - f.off | none => 0
         let s := (((s.setReg i 0x0A f.cause).setReg i 0x0F f.side).setReg i 0x0E f.wa).setReg i 0x0C residue
         let s := (s.writeBack c f.cause residue).dmaRelease c
         .next (((s.modDma c (fun x => { x with buffer := [], fault := none, fetch := none })).setDmaRun c dmFaulted).dmaFaultEvent c f.cause)
       else .next s
     | none => .next s)

/-- ABORT_COMPLETE (R392): the bursts already issued have completed. -/
def execAbortComplete (c : Nat) (s : State) : Result :=
  inst (decide (c < 64))
    (let x := s.dma c
     let busy := s.fabric.walks.any (fun w => w.master = 0x20 + c) || s.fabric.waiting.any (fun w => w.master = 0x20 + c)
     if s.dmaRun c = dmAborting && x.buffer.isEmpty && x.fault.isNone && !busy then .next (s.dmaAbortedNow c) else .next s)

/-! ## Movers (R391) -/

/-- Channels that hold a mover, and ready channels. -/
def State.holders (s : State) : List Nat := (List.range 64).filter (fun c => (s.dma c).mover)
def State.readyChans (s : State) : List Nat := (s.idxWith 0x5D40 0x5D7F 3 dmActive).filterMap (fun i => if (s.dma (i - 0x5D40)).mover then none else some (i - 0x5D40))

/-- A channel takes a mover and its turn begins. -/
def State.takeMover (s : State) (c : Nat) : State :=
  s.modFab (fun f =>
    { f with chans := modNth (fun x => { x with mover := true, turnStart := f.turns, turnBytes := 0 }) f.chans c, turns := f.turns + 1,
             moverPtr := modNth (fun _ => (c + 1) % 64) f.moverPtr (s.dmaClass c) })

/-- The holder that a ready channel of class `cls` pre-empts: the lowest class below it, then the earliest turn; never a locked one (R391, R395). -/
def State.victim (s : State) (cls : Nat) : Option Nat :=
  let hs := s.holders.filter (fun c => decide (s.dmaClass c < cls) && !(match (s.dma c).desc with | some d => dscLock d | none => false))
  hs.foldl (fun b c =>
    match b with
    | none => some c
    | some h =>
      if s.dmaClass c < s.dmaClass h || (s.dmaClass c = s.dmaClass h && (s.dma c).turnStart < (s.dma h).turnStart) then some c else some h) none

/-- MOVER_ASSIGN (R391). -/
def execMoverAssign (s : State) : Result :=
  let rs := s.readyChans
  let top := rs.foldl (fun a c => max a (s.dmaClass c)) 0
  match rotating 64 (nthD 0 s.fabric.moverPtr top) (rs.filter (fun c => s.dmaClass c = top)) with
  | none => .next s
  | some c =>
    if s.holders.length < 4 then .next (s.takeMover c)
    else match s.victim top with
      | some h => .next ((((s.modDma h (fun x => { x with mover := false })).inc32 (0x5D40 + h) 0x12 1).inc64 0x5D00 6 1).takeMover c)
      | none => .next s

/-- A turn of 16 KiB ends: the mover goes if a ready channel of the class waits, else a new turn begins (R391). -/
def State.endTurn (s : State) (c : Nat) : State :=
  let x := s.dma c
  if x.turnBytes < 16384 then s
  else if (match x.desc with | some d => dscLock d | none => false) then s
  else if s.readyChans.any (fun k => s.dmaClass k = s.dmaClass c) then s.modDma c (fun x => { x with mover := false, turnBytes := 0 })
  else s.modFab (fun f => { f with chans := modNth (fun x => { x with turnStart := f.turns, turnBytes := 0 }) f.chans c, turns := f.turns + 1 })

/-! ## Requests of a channel -/

/-- What a channel asks of the fabric next: kind (0 descriptor fetch, 1 read, 2 write), window address, data. `write` picks the side of a transfer. -/
def State.dmaRequest (s : State) (c : Nat) (write : Bool) : Option (Nat × Nat × Bytes) :=
  let x := s.dma c
  let r := s.dmaRun c
  if !x.mover then none
  else match x.fetch, x.desc with
    | some a, _ => if r = dmActive && x.fault.isNone then some (0, a, []) else none
    | none, some d =>
      if write then
        if dscFill d then
          if r = dmActive && x.fault.isNone && x.writeOff < dscLen d then
            some (2, dscDst d + x.writeOff, (List.replicate 8 (beBytes 8 (dscWord d 5))).flatten)
          else none
        else match x.buffer with
          | b :: _ => if (r = dmActive || r = dmAborting) && (match x.fault with | some f => decide (b.1 < f.off) | none => true) then some (2, dscDst d + b.1, b.2) else none
          | [] => none
      else if r = dmActive && x.fault.isNone && !dscFill d && x.readOff < dscLen d && x.buffer.length < 256 then some (1, dscSrc d + x.readOff, [])
      else none
    | none, none => none

/-- A beat of a channel ends with its bytes or a cause. -/
def State.dmaBeat (s : State) (c kind wa : Nat) (r : Except Nat Bytes) : State :=
  let i := 0x5D40 + c
  match r, kind with
  | .error e, 0 => s.modDma c (fun x => { x with fault := some ⟨e, 3, wa, 0⟩ })
  | .error e, 1 => s.modDma c (fun x => { x with fault := some ⟨e, 1, wa, x.readOff⟩ })
  | .error e, _ => s.modDma c (fun x => { x with fault := some ⟨e, 2, wa, x.writeOff⟩, buffer := [] })
  | .ok b, 0 => s.modDma c (fun x => { x with fetch := none, fetched := some b })
  | .ok b, 1 => s.modDma c (fun x => { x with buffer := x.buffer ++ [(x.readOff, b)], readOff := x.readOff + 64 })
  | .ok _, _ =>
    let s := s.modDma c (fun x => { x with buffer := x.buffer.drop 1, writeOff := x.writeOff + 64, turnBytes := x.turnBytes + 64 })
    let left := match (s.dma c).desc with | some d => dscLen d - (s.dma c).writeOff | none => 0
    (((s.inc64 i 0x10 64).inc64 0x5D00 4 64).setReg i 0x0C left).endTurn c

/-- The lock of a LOCK descriptor, before its first beat: every unit that it names; none while another master's lock holds one (R371). -/
def State.dmaLock (s : State) (c : Nat) : Option State :=
  let x := s.dma c
  match x.desc with
  | some d =>
    if dscLock d && x.readOff = 0 && x.fetch.isNone && !(s.fabric.locks.any (fun l => l.master = 0x20 + c)) then
      let m := 0x20 + c
      let offs := (List.range (dscLen d / 64)).map (fun k => 64 * k)
      let pas := offs.filterMap (fun o => s.probe m (dscSrc d + o) false (s.dmaSecure c)) ++ offs.filterMap (fun o => s.probe m (dscDst d + o) true (s.dmaSecure c))
      let ts := pas.filterMap (fun a => s.physTarget a)
      if ts.any (fun t => s.lockedOut m t 64) then none
      else some (s.lockStart (ts.foldl (fun l t => l.add t 64) ⟨m, [], [], s.time.tclk⟩))
    else some s
  | none => some s

/-! ## Enables (R394) -/

/-- The refusal of a channel enable, or 0: the engine must be ON. -/
def dmaEnableCheck (s : State) : Nat := if s.reg 0x5D00 2 = stOn then 0 else dRule

/-- A channel reaches ON, in IDLE. -/
def State.dmaTurnsOn (s : State) (c : Nat) : State := (s.modDma c (fun _ => DmaChan.reset)).setDmaRun c dmIdle

/-- A channel in DISABLING is done. -/
def State.dmaIdle (s : State) (c : Nat) : Bool := s.dmaRun c ≠ dmActive && s.dmaRun c ≠ dmAborting

/-- The engine in DISABLING is done: every channel reads OFF. -/
def State.dmaEngineIdle (s : State) : Bool := (List.range 64).all (fun c => s.reg (0x5D40 + c) 2 = stOff)

/-- The owning unit of a channel's RWX entries is OFF (R398). -/
def dmaOwnerOff (s : State) (idx : Nat) : Bool := s.reg idx 2 = stOff

end Sys2Proof.Machine
end

