-- ==== Sys2Proof/Machine/Fabric.lean ====
section
/-! DEFINITION. The register pages and the requests of every master through the fabric
(chapter 12, R365, R375 to R383, R390; chapter 13, R419; chapter 16, R498 and R503). -/

namespace Sys2Proof.Machine

/-! ## Register pages: 64-bit registers, most significant byte first -/

/-- A read of the DMA page of channel `c` (R390). -/
def State.chanPage (s : State) (c off : Nat) : Nat :=
  let i := 0x5D40 + c
  match off with
  | 0x00 => s.reg i 6
  | 0x10 => s.reg i 2 * 2 ^ 16 + s.reg i 0x0A * 2 ^ 8 + s.reg i 3
  | 0x18 => s.reg i 0x0C
  | 0x20 => s.reg i 0x0B
  | 0x28 => s.reg i 0x0E
  | _ => 0

/-- The NS register of a timebase. -/
def nsWord (ns frac : Nat) : Nat := ns * 2 ^ 32 + frac

/-- A read of the timebase page (R419): SEC latches NS, SC latches SC_FRAC. -/
def State.timePage (s : State) (off : Nat) : Nat × State :=
  if off = 0x800 then (s.sc, { s with time := { s.time with scFracLatch := s.time.scAcc * 65536 / 500000000 } })
  else if off = 0x808 then (s.time.scFracLatch, s)
  else if 0x800 ≤ off then (0, s)
  else
    let t := off / 0x100
    let b := s.tb t
    match off % 0x100 with
    | 0x00 => (b.sec, s.modTb t (fun b => { b with latchNs := b.ns, latchFrac := b.frac }))
    | 0x08 => (nsWord b.latchNs b.latchFrac, s)
    | 0x10 => (s.tbInc t, s)
    | 0x18 => (if 6 ≤ t then b.setSec else 0, s)
    | 0x20 => (if 6 ≤ t then nsWord b.setNs b.setFrac else 0, s)
    | 0x30 => (if t < 6 then s.reg (0x6040 + t) 2 else 0, s)
    | _ => (0, s)

/-- CONFIG of a Dowel channel (R498). -/
def State.dowelConfig (s : State) (c : Nat) : Nat :=
  let r := s.reg (0x6900 + c)
  r 5 * 2 ^ 48 + r 6 * 2 ^ 32 + r 7 * 2 ^ 24 + r 8 * 2 ^ 23 + r 9 * 2 ^ 21

/-- A read of the Dowel page (R498). -/
def State.dowelPage (s : State) (off : Nat) : Nat :=
  if off = 0x8000 then s.reg 0x6800 1
  else if 0x8000 ≤ off then 0
  else
    let c := off / 0x80
    let r := s.reg (0x6900 + c)
    match off % 0x80 with
    | 0x08 => s.dowelConfig c
    | 0x10 => r 2 * 2 ^ 56 + r 3 * 2 ^ 48 + r 4 * 2 ^ 47
    | 0x18 => r 0x0A
    | 0x20 => r 3 * 2 ^ 56 + r 4 * 2 ^ 55
    | _ => 0

/-- A read of the event counter page (R503). -/
def State.counterPage (s : State) (off : Nat) : Nat :=
  let n := off / 0x40
  if 64 ≤ n then 0
  else
    let g := 0x6A10 + s.reg (0x6A40 + n) 5
    match off % 0x40 with
    | 0x00 => s.counter n
    | 0x08 => s.reg (0x6A40 + n) 7
    | 0x10 => s.reg g 6 / 2 ^ 32
    | 0x18 => s.reg g 6 % 2 ^ 32 * 2 ^ 32
    | 0x20 => s.reg g 7
    | _ => 0

/-- The value of one register of a page, with the effect of reading it. -/
def State.pageRead (s : State) (t : FabTarget) : Nat × State :=
  match t with
  | .chan c off => (s.chanPage c off, s)
  | .time off => s.timePage off
  | .dowel off => (s.dowelPage off, s)
  | .counter off => (s.counterPage off, s)
  | _ => (0, s)

/-- A Dowel page register refuses a write without the secure attribute (R498). -/
def State.dowelSecure (s : State) (off : Nat) : Bool := decide (off < 0x8000) && (s.flag (0x6900 + off / 0x80) 4 || off % 0x80 = 0x20)

/-- A write to a page register is refused with SECURE (R365, R419, R498). -/
def State.pageSecure (s : State) (t : FabTarget) : Bool :=
  match t with
  | .time off => decide (0x600 ≤ off) && decide (off < 0x800) && (off % 0x100 = 0x10 || off % 0x100 = 0x18 || off % 0x100 = 0x20 || off % 0x100 = 0x28)
  | .dowel off => s.dowelSecure off
  | _ => false

/-- A master may write the page registers of a channel (R492): the management processor, and the core that owns it. -/
def State.pageOwner (s : State) (m c : Nat) : Bool := m = 0 || s.reg (0x6900 + c) 3 = m

/-- CONFIG is written (R498): source, consumer and class only while the channel is OFF. A write that R493 refuses, or that would change one of them
in another status (R494), is discarded and counted. -/
def State.configWrite (s : State) (c v : Nat) : State :=
  let i := 0x6900 + c
  let off := s.reg i 2 = stOff
  let src := bits v 63 48
  let inp := bits v 47 32
  let same := src = s.reg i 5 && inp = s.reg i 6 && bits v 22 21 = s.reg i 9
  let ok := gateDefined (bits v 31 24) &&
    (if off then sourceExists s.board src && inputExists s.board inp && s.secureOk (s.flag i 4) src inp else same)
  if !ok then s.inc32 0x6800 6 1
  else
    let s := (s.setReg i 7 (bits v 31 24)).setReg i 8 (bits v 23 23)
    if off then ((s.setReg i 5 src).setReg i 6 inp).setReg i 9 (bits v 22 21) else s

/-- A write to a register of the Dowel page (R498). -/
def State.dowelPageWrite (s : State) (m off v : Nat) : State :=
  if off = 0x8000 then s.setReg 0x6800 1 (v % 2 ^ 32)
  else if off = 0x8008 then (if v < 32 then s.soft v else s)
  else if 0x8000 ≤ off then s
  else
    let c := off / 0x80
    let known := off % 0x80 = 0 || off % 0x80 = 8 || off % 0x80 = 0x20
    if !known then s
    else if !s.pageOwner m c then s.inc32 0x6800 6 1
    else match off % 0x80 with
      | 0x00 => if v = 1 then s.channelEnable c else if v = 2 then s.channelDisable c else s
      | 0x08 => s.configWrite c v
      | _ => s.attrWrite c v

/-- A write to one register of a page. -/
def State.pageWrite (s : State) (m : Nat) (t : FabTarget) (v : Nat) : State :=
  match t with
  | .chan c off => if off = 0 then s.setReg (0x5D40 + c) 6 v else if off = 8 then s.dmaPageCmd c v else s
  | .xlat off => if off = 0 then (if v < 32 then s.tlbDrop v else s) else if off = 8 then (if v = 1 then s.modFab (fun f => { f with tlb := [] }) else s) else s
  | .time off =>
    let t := off / 0x100
    if t = 6 || t = 7 then
      match off % 0x100 with
      | 0x10 => s.setReg (0x6040 + t) 8 v
      | 0x18 => s.modTb t (fun b => { b with setSec := v % 2 ^ 48 })
      | 0x20 => s.modTb t (fun b => { b with setNs := v / 2 ^ 32, setFrac := v % 2 ^ 32 })
      | 0x28 => if v = 1 then s.tbPageSet t else s
      | _ => s
    else s
  | .dowel off => s.dowelPageWrite m off v
  | .counter off => if off % 0x40 = 0x28 && off / 0x40 < 64 && v = 1 then s.counterZero (off / 0x40) else s
  | _ => s

/-- The register at an offset of a page, moved to offset `o`. -/
def FabTarget.shift (t : FabTarget) (o : Nat) : FabTarget :=
  match t with
  | .chan c _ => .chan c o
  | .xlat _ => .xlat o
  | .time _ => .time o
  | .dowel _ => .dowel o
  | .counter _ => .counter o
  | t => t

/-- The offset of a page target, and the size of its page. -/
def FabTarget.pageOff (t : FabTarget) : Option (Nat × Nat) :=
  match t with
  | .chan _ o => some (o, 4096)
  | .xlat o => some (o, 4096)
  | .time o => some (o, 65536)
  | .dowel o => some (o, 65536)
  | .counter o => some (o, 65536)
  | _ => none

/-- The registers that a range of a page touches. -/
def pageRegs (off n : Nat) : List Nat := if n = 0 then [] else (List.range ((off + n - 1) / 8 + 1 - off / 8)).map (fun i => 8 * (off / 8 + i))

/-- Bytes of a register replaced where a write covers them. -/
def mergeReg (old r off : Nat) (data : Bytes) : Nat :=
  ofBytes ((List.range 8).map (fun i => if off ≤ r + i && r + i < off + data.length then data.getD (r + i - off) 0 else BitVec.ofNat 8 (old / 256 ^ (7 - i))))

/-- A request to a register page: bytes read, or a cause (R365, R381, R419, R498). -/
def State.pageAccess (s : State) (m : Nat) (t : FabTarget) (off len : Nat) (write secure : Bool) (data : Bytes) (n err : Nat) : Except Nat Bytes × State :=
  if err = 3 then (.error cTimeout, s)
  else if len < off + n then (.error cDecode, s)
  else
    let rs := pageRegs off n
    if write then
      if !secure && rs.any (fun r => s.pageSecure (t.shift r)) then (.error cFabSecure, s)
      else (.ok [], s.each rs (fun r s => s.pageWrite m (t.shift r) (mergeReg (s.pageRead (t.shift r)).1 r off (data.take n))))
    else
      let o := rs.foldl (fun (a : Bytes × State) r => let x := a.2.pageRead (t.shift r); (a.1 ++ beBytes 8 x.1, x.2)) ([], s)
      (.ok (slice o.1 (off % 8) n), o.2)

/-- A request reaches its target. -/
def State.targetAccess (s : State) (m cls : Nat) (t : FabTarget) (write secure : Bool) (data : Bytes) (n err : Nat) : Except Nat Bytes × State :=
  match t with
  | .rom o => if write then (.ok [], s) else (.ok ((List.range n).map (fun i => Config.romByte (o + i))), s)
  | .flash o => if write then (.ok [], s) else (.ok ((List.range n).map (fun i => Config.flashByte (o + i))), s)
  | .sram o =>
    if write then (.ok [], s.modFab (fun f => { f with sram := dramWrite f.sram o (data.take n) }))
    else (.ok (dramRead s.fabric.sram o n), s)
  | _ =>
    match t.pageOff with
    | some (o, len) => s.pageAccess m t o len write secure data n err
    | none => s.storeAccess cls t write data n err

/-! ## Responses (R383) -/

/-- A request of a master ends with bytes or a cause. `tag` tells a core's access or a channel's beat. -/
def State.finishRequest (s : State) (m tag wa : Nat) (r : Except Nat Bytes) : State :=
  if isDsp m then
    let v : FarResp := match r with | .ok b => ⟨tag, 0, ofBytes b⟩ | .error e => ⟨tag, e, 0⟩
    s.modCore (m - 0x10) (fun c => { c with responses := c.responses ++ [v] })
  else if isDma m then s.dmaBeat (m - 0x20) tag wa r
  else s.modFab (fun f => { f with readData := match r with | .ok b => b | .error _ => [] })

/-! ## Arbiters (R21, R369) -/

/-- A request that has reached its target waits there: another master's lock holds the place (R371), or an OFFLINE channel an unprotected unit (R351). -/
def State.heldReq (s : State) (w : FabWait) (t : FabTarget) : Bool :=
  s.lockedOut w.master t w.req.size ||
  (match t with
   | .dram a => (unitsOf a w.req.size).any (fun u => match s.mapAddr (64 * u) with | some (ch, l) => decide (s.protUnits ≤ l) && s.chanState ch = 1 | none => false)
   | _ => false)

/-- The target of a waiting request; one that the logical space no longer has answers DECODE as DRAM does. -/
def State.waitTarget (s : State) (w : FabWait) : FabTarget :=
  ((if w.master = 0 || w.master = 0x67 then s.mgmtTarget w.pa else s.physTarget w.pa)).getD (.dram w.pa)

/-- The requests that an arbiter may grant: those that nothing holds, and that have no earlier one of their master ahead (R368). -/
def State.grantable (s : State) : List FabWait → List FabWait → List (FabWait × FabTarget)
  | _, [] => []
  | earlier, w :: ws =>
    let t := s.waitTarget w
    if s.heldReq w t || earlier.any (fun e => e.master = w.master) then s.grantable (earlier ++ [w]) ws else (w, t) :: s.grantable (earlier ++ [w]) ws

/-- The next grant: at the arbiter of the oldest request that may be granted, the highest class, and in it the rotating pointer over master ids (R21, R369). -/
def State.nextGrant (s : State) : Option (FabWait × FabTarget) :=
  match s.grantable [] s.fabric.waiting with
  | [] => none
  | g :: gs =>
    let a := arbiterOf g.2
    let here := (g :: gs).filter (fun x => arbiterOf x.2 = a)
    let cls := here.foldl (fun c x => max c x.1.req.cls) 0
    let top := here.filter (fun x => x.1.req.cls = cls)
    (rotating 256 ((lookup s.fabric.ptrs (4 * a + cls)).getD 0) (top.map (fun x => x.1.master))).bind (fun m => top.find? (fun x => x.1.master = m))

/-- The sequence of a locked request of the management processor begins, or names one more place (R371). -/
def State.lockFor (s : State) (w : FabWait) (t : FabTarget) : State :=
  if w.master = 0 && w.req.lock ≠ 0 then
    (if s.fabric.locks.any (fun l => l.master = 0) then s else s.lockStart ⟨0, [], [], s.time.tclk⟩).modFab
      (fun f => { f with locks := f.locks.map (fun l => if l.master = 0 then l.add t w.req.size else l) })
  else s

/-- A request is granted: it leaves its arbiter, whose pointer moves on, and has its effect (R21, R369, R382). -/
def State.grantReq (s : State) (w : FabWait) (t : FabTarget) : State :=
  let q := w.req
  let s := s.modFab (fun f => { f with waiting := f.waiting.erase w, ptrs := insertKey f.ptrs (4 * arbiterOf t + q.cls) ((w.master + 1) % 256) })
  let o := ((s.lockFor w t).meter t q.cls).targetAccess w.master q.cls t q.write q.secure q.data q.size q.err
  let s := match o.1 with
    | .ok b => o.2.finishRequest w.master w.tag q.addr (.ok b)
    | .error c => (o.2.fabFault w.master c q.cls q.write q.secure w.window q.addr w.pa).finishRequest w.master w.tag q.addr (.error c)
  if w.master = 0 && q.lock = 2 then s.lockEnd 0 else s

/-- The arbiters grant what they can; `fuel` counts the requests. -/
def State.grantAll : Nat → State → State
  | 0, s => s
  | fuel + 1, s => match s.nextGrant with | some (w, t) => State.grantAll fuel (s.grantReq w t) | none => s

/-- A translated request is routed to its target's arbiter, and granted there unless it must wait (R369, R371, R382). -/
def State.deliverRequest (s : State) (m tag window pa : Nat) (q : FabReq) : State :=
  match s.route m pa q.secure with
  | .error c => (s.fabFault m c q.cls q.write q.secure window q.addr pa).finishRequest m tag q.addr (.error c)
  | .ok _ => State.grantAll (s.fabric.waiting.length + 1) (s.modFab (fun f => { f with waiting := f.waiting ++ [⟨m, tag, window, pa, q⟩] }))

/-- A translation's end, for a request that waits for nothing else. -/
def State.endXlate (s : State) (m tag : Nat) (q : FabReq) (x : Xlate) : State :=
  match x with
  | .fault c i => (s.fabFault m c q.cls q.write q.secure i q.addr 0).finishRequest m tag q.addr (.error c)
  | .miss _ => (s.inc64 0x5C01 4 1).modFab (fun f => { f with walks := f.walks ++ [⟨m, tag, q⟩] })
  | .phys i pa e =>
    let s := match e with | some e => s.tlbTouch e | none => s
    (s.inc64 (0x5C40 + i) 7 1).deliverRequest m tag i pa q

/-- A request of a master is on its way: in a walk, or at an arbiter. -/
def State.inFlight (s : State) (m : Nat) : Bool := s.fabric.walks.any (fun w => w.master = m) || s.fabric.waiting.any (fun w => w.master = m)

/-- A windowed request issues (R375), once the one before it of its master has been granted (R368). -/
def State.issueWindowed (s : State) (m tag : Nat) (q : FabReq) : Option State :=
  if s.inFlight m then none
  else
    let x := s.xlate m q.addr q.write q.secure
    match x with
    | .phys _ _ (some _) => some ((s.inc64 0x5C01 3 1).endXlate m tag q x)
    | _ => some (s.endXlate m tag q x)

/-- The next far access of core `n` (R299). -/
def State.coreRequest (s : State) (n : Nat) (err : Nat) : Option State :=
  match (s.core n).far.find? (fun f => !f.sent) with
  | none => none
  | some f =>
    let q : FabReq := ⟨f.addr - 0x80000000, 4, f.store, beBytes 4 f.data, s.masterClass (0x10 + n) 0, s.flag (0x5000 + n) 5, 0, err⟩
    (s.modCore n (fun c => { c with far := c.far.map (fun g => if g.id = f.id then { g with sent := true } else g) })).issueWindowed (0x10 + n) f.id q

/-- The next read of channel `c` finds its 16 bursts buffered (R39, R391). -/
def State.burstsFull (s : State) (c : Nat) (write : Bool) : Bool :=
  let x := s.dma c
  !write && x.mover && s.dmaRun c = dmActive && x.fetch.isNone && decide (256 ≤ x.buffer.length)
    && (match x.desc with | some d => !dscFill d && decide (x.readOff < dscLen d) | none => false)

/-- The next request of channel `c` (R391). One that finds its burst tags in use counts (R39, R500). -/
def State.chanRequest (s : State) (c : Nat) (r : FabReq) : Option State :=
  if s.burstsFull c r.write then some (s.poolFull 2)
  else match s.dmaRequest c r.write with
    | none => none
    | some (kind, wa, data) =>
      match (if kind = 1 then s.dmaLock c else some s) with
      | none => none
      | some s => s.issueWindowed (0x20 + c) kind ⟨wa, 64, kind = 2, data, s.dmaClass c, s.dmaSecure c, 0, r.err⟩

/-- Fabric tags of an unwindowed master: 128 of the management processor, 512 that the others share (R39, R367). -/
def State.tagsLeft (s : State) (m : Nat) : Bool :=
  if m = 0 then decide ((s.fabric.waiting.filter (fun w => w.master = 0)).length < 128)
  else decide ((s.fabric.waiting.filter (fun w => decide (0x60 ≤ w.master))).length < 512)

/-- The next request of an unwindowed master: the management processor's are secure (R372). One that finds no tag counts, and waits at its source. -/
def State.plainRequest (s : State) (m : Nat) (r : FabReq) : State :=
  if !s.tagsLeft m then s.poolFull 3 else s.deliverRequest m 0 0xFF r.addr { r with secure := m = 0, cls := s.masterClass m r.cls }

/-- FABRIC_REQUEST (R375): a request of a master is windowed, translated, checked, routed and granted, or ends in a fault. One that must wait does so at its
walk or its arbiter, or has no effect yet. -/
def execFabricRequest (master : Nat) (req : FabReq) (s : State) : Result :=
  inst (masterOk master)
    (.next (if isDsp master then (s.coreRequest (master - 0x10) req.err).getD s
            else if isDma master then (s.chanRequest (master - 0x20) req).getD s
            else s.plainRequest master req))

/-- PAGE_WALK_COMPLETE (R379): one of the 16 walks in progress completes; its request is translated by the windows then in force (R376). -/
def execPageWalkComplete (walk : Nat) (s : State) : Result :=
  inst (decide (walk < 16))
    (match s.fabric.walks[walk]? with
     | none => .next s
     | some k =>
       let q := k.req
       let r := match s.xlate k.master q.addr q.write q.secure with
         | .miss i => s.walkNow q.cls i (q.addr - s.reg (0x5C40 + i) 3) q.write q.secure
         | x => (x, s)
       .next ((r.2.modFab (fun f => { f with walks := f.walks.eraseIdx walk })).endXlate k.master k.tag q r.1))

/-- A request waits at an arbiter in a class (R500). -/
def State.arbiterWaits (s : State) (a cls : Nat) : Bool :=
  s.fabric.waiting.any (fun w => w.req.cls = cls && arbiterOf (s.waitTarget w) = a && s.lockedOut w.master (s.waitTarget w) w.req.size)

/-- A request waits at a DRAM controller in a class (R351, R500). -/
def State.controllerWaits (s : State) (ch cls : Nat) : Bool :=
  s.ddr.queue.any (fun r => r.ch = ch && r.cls = cls) ||
  s.fabric.waiting.any (fun w => w.req.cls = cls && (match s.waitTarget w with
    | .dram a => (unitsOf a w.req.size).any (fun u => match s.mapAddr (64 * u) with | some (c, l) => c = ch && decide (s.protUnits ≤ l) && s.chanState c = 1 | none => false)
    | _ => false))

/-- Operations in flight in a pool of R39. -/
def State.poolUse (s : State) (i : Nat) : Nat :=
  match i with
  | 0 => s.ddr.queue.length
  | 1 => (s.xarray.orders.filter (fun o => o.phase = .queued)).length
  | 2 => ((List.range 64).map (fun c => ((s.dma c).buffer.length + 15) / 16)).foldl (fun a n => a + n) 0
  | _ => (s.fabric.waiting.filter (fun w => !isDma w.master)).length + (s.fabric.walks.filter (fun w => isDsp w.master)).length

/-- FCLK ticks of misses that wait for a free walk, two for each TCLK tick (R379). -/
def State.walkTick (s : State) : State :=
  let n := s.fabric.walks.length - 16
  if n = 0 then s else s.inc64 0x5C01 6 (2 * n)

/-- ATTR (R498): a write to the ATTR register of channel `c` from a page. -/
def State.attrPage (s : State) (master : Nat) (secure : Bool) (c value : Nat) : State :=
  let pa := 0x3FF02020000 + 0x80 * c + 0x20
  s.onPage master pa secure (fun s =>
    if !secure then s.fabFault master cFabSecure (s.masterClass master 0) true secure 0xFF pa pa
    else s.dowelPageWrite master (0x80 * c + 0x20) value)

/-- ATTR (R498). -/
def execChannelAttr (master : Nat) (secure : Bool) (c value : Nat) (s : State) : Result :=
  inst (masterOk master && decide (c < 256)) (.next (s.attrPage master secure c value))

/-- SET (R418, R419): a write of 1 to SET of timebase `t` on the timebase page. TB0 to TB5 have no such register; a non-secure write to TB6 or TB7 is refused with SECURE. -/
def execTbSet (master : Nat) (secure : Bool) (t : Nat) (s : State) : Result :=
  inst (decide (t < 8) && masterOk master)
    (let pa := 0x3FF02010000 + 0x100 * t + 0x28
     .next (s.onPage master pa secure (fun s =>
       if t < 6 then s
       else if !secure then s.fabFault master cFabSecure (s.masterClass master 0) true secure 0xFF pa pa
       else s.tbPageSet t)))

/-- A channel's register page reached by a master (R390). -/
def State.chanOnPage (s : State) (master : Nat) (secure : Bool) (c : Nat) (f : State → State) : State :=
  s.onPage master (0x3FF01000000 + 4096 * c + 8) secure f

end Sys2Proof.Machine
end

