-- ==== Sys2Proof/Machine/Jig.lean ====
section
/-! DEFINITION. The Jigs: cut lists, loft halves, checks and dispatch of work orders (chapter 4, R119 to R141). -/

namespace Sys2Proof.Machine

/-! ## Jigs, tiles and ports -/

/-- The Jig of bay `k`. -/
def State.jig (s : State) (k : Nat) : Jig := nthD Jig.reset s.xarray.jigs k

/-- Map the Jig of bay `k`. -/
def State.modJig (s : State) (k : Nat) (f : Jig → Jig) : State := { s with xarray := { s.xarray with jigs := modNth f s.xarray.jigs k } }

/-- Replace the list of work orders. -/
def State.setOrders (s : State) (os : List WorkOrder) : State := { s with xarray := { s.xarray with orders := os } }

/-- Map one work order. -/
def State.modOrder (s : State) (id : Nat) (f : WorkOrder → WorkOrder) : State :=
  s.setOrders (s.xarray.orders.map (fun o => if o.id = id then f o else o))

/-- Run states of R138. -/
abbrev jgStopped : Nat := 0
abbrev jgRunning : Nat := 1
abbrev jgWaitStep : Nat := 2
abbrev jgWaitEvt : Nat := 3
abbrev jgWaitFence : Nat := 4
abbrev jgWaitPort : Nat := 5
abbrev jgDone : Nat := 6
abbrev jgError : Nat := 7

/-- The Jig's run state. -/
def State.runState (s : State) (k : Nat) : Nat := s.reg (0x3010 + k) 3

/-- Set the Jig's run state. -/
def State.setRun (s : State) (k v : Nat) : State := s.setReg (0x3010 + k) 3 v

/-- The Jig goes on at an entry. -/
def State.goto (s : State) (k pc : Nat) : State := s.setReg (0x3010 + k) 4 pc

/-- The Jig goes on at the next entry. -/
def State.nextEntry (s : State) (k : Nat) : State := s.goto k (s.reg (0x3010 + k) 4 + 1)

/-- Position of the physical tile that holds a logical tile, 7Fh if unplaced (R153). -/
def State.placement (s : State) (lam : Nat) : Nat := s.reg (0x2110 + lam / 64) (lam % 64 + 1) % 128

/-- Placement epoch of a logical tile (R146). -/
def State.placeEpoch (s : State) (lam : Nat) : Nat := bits (s.reg (0x2110 + lam / 64) (lam % 64 + 1)) 15 8

/-- The physical tile that holds a logical tile. -/
def State.tileOf (s : State) (lam : Nat) : Option Nat :=
  let p := s.placement lam
  if p = 0x7F then none else some (lam / 64 * 68 + p)

/-- A logical tile is designated for class U (R153). -/
def State.uTile (s : State) (lam : Nat) : Bool := bitAt (s.reg (0x2110 + lam / 64) 0x41) (lam % 64)

/-- Work orders in the port queue of a logical tile. -/
def State.queue (s : State) (lam : Nat) : List WorkOrder := s.xarray.orders.filter (fun o => o.lam = lam && o.phase = .queued)

/-- A work order of a class can enter the port of a logical tile (R125). -/
def State.portOpen (s : State) (lam cls : Nat) : Bool :=
  let q := s.queue lam
  decide (q.length < 8) &&
    (cls = 3 || !s.uTile lam || decide ((q.filter (fun o => woClass o.bits ≠ 3)).length < 6))

/-! ## Loft halves (R132, R141) -/

/-- The Jig's current half. -/
def State.currentHalf (s : State) (k : Nat) : Option LoftHalf :=
  (s.jig k).half.bind (fun q => ((List.range 2).map (s.loftHalf k)).find? (fun x => x.held && x.taken && x.seq = q))

/-- A work order still needs its half loaded (R132). -/
def State.needsHalf (s : State) (k seq : Nat) : Bool :=
  s.xarray.orders.any (fun o => o.bay = k && (match o.half with | some x => x.seq = seq | none => false)
    && (!o.pulled || (s.uTile o.lam && o.phase ≠ .done)))

/-- Release every half that the Jig has left and that no work order needs (R132); in ERROR the Jig keeps them (R139). -/
def State.releaseHalves (s : State) (k : Nat) : State :=
  if s.runState k = jgError then s
  else s.each (List.range 2) (fun h s =>
    let x := s.loftHalf k h
    if x.held && x.taken && (s.jig k).half ≠ some x.seq && !s.needsHalf k x.seq then s.setHalf k h { x with held := false } else s)

/-- Swap to a cut list (R141): entry 0, loop counters and error cleared, and the first WAIT_STEP completes at once. -/
def State.swapList (s : State) (k : Nat) (list : Bytes) : State :=
  let s := s.modJig k (fun j => { j with list := list, loops := [], sweep := none, freeStep := true, swapDue := false })
  (((s.goto k 0).setReg (0x3010 + k) 5 0).setReg (0x3010 + k) 6 0).setRun k jgRunning

/-- The oldest filled half the Jig has not taken. -/
def State.readyHalf (s : State) (k : Nat) : Option Nat :=
  let ready := (List.range 2).filter (fun h => (s.loftHalf k h).held && !(s.loftHalf k h).taken)
  match ready with
  | [a, b] => some (if (s.loftHalf k a).seq ≤ (s.loftHalf k b).seq then a else b)
  | a :: _ => some a
  | [] => none

/-- The cut list due at a half: the latest one live by the start of the window the half begins (R141). -/
def State.listDue (s : State) (k : Nat) (x : LoftHalf) : Option Bytes :=
  if x.step = 0 && x.channel = x.firstChannel then ((s.jig k).lists.filter (fun l => decide (l.1 ≤ x.sc))).getLast?.map (fun l => l.2) else none

/-- The Jig takes a filled half: the previous one is released as R132 says, and a due cut list is swapped in. The flag tells of a swap. -/
def State.takeHalf (s : State) (k h : Nat) : State × Bool :=
  let x := s.loftHalf k h
  let s := (s.setHalf k h { x with taken := true }).modJig k (fun j => { j with half := some x.seq })
  let s := ((s.setReg (0x3010 + k) 0x0D x.channel).setReg (0x3010 + k) 0x0E x.step).releaseHalves k
  match s.listDue k x with
  | some l => (((s.modJig k (fun j => { j with lists := j.lists.filter (fun p => decide (x.sc < p.1)) })).swapList k l), true)
  | none => (s, false)

/-- The Jig takes a half at its WAIT_STEP entry. -/
def State.stepTaken (s : State) (k h : Nat) : State :=
  let r := s.takeHalf k h
  if r.2 then r.1 else (r.1.nextEntry k).setRun k jgRunning

/-- A half has become ready: a Jig in WAIT_STEP takes it, and one in DONE or ERROR does so when a cut list is due at it (R138, R141). -/
def State.halfReady (s : State) (k : Nat) : State :=
  match s.readyHalf k with
  | none => s
  | some h =>
    if s.reg (0x3010 + k) 2 ≠ stOn then s
    else if s.runState k = jgWaitStep then s.stepTaken k h
    else if (s.runState k = jgDone || s.runState k = jgError) && (s.listDue k (s.loftHalf k h)).isSome then (s.takeHalf k h).1
    else s

/-- LOFT_STEP_FILL (R97): the reader fills a half and hands it to the Jig. -/
def execLoftStepFill (bay : Nat) (s : State) : Result :=
  inst (decide (bay < 4)) (if s.cribOn || s.reg 0x2800 2 = stDisabling then .next ((s.loftFill bay).halfReady bay) else .next s)

/-! ## Errors (R139) -/

/-- The Jig enters ERROR. -/
def State.jigFail (s : State) (k code : Nat) : State :=
  let i := 0x3010 + k
  let s := s.modJig k (fun j => { j with sweep := none })
  (((s.setRun k jgError).setReg i 5 code).setReg i 6 (s.reg i 4)).fire (0x23 + 8 * k) code

/-- A cut list that waits for the end of an entry is swapped in (R141). -/
def State.lateSwap (s : State) (k : Nat) : State :=
  if (s.jig k).swapDue then
    match (s.jig k).lists.getLast? with
    | some l => (s.modJig k (fun j => { j with lists := [] })).swapList k l.2
    | none => s
  else s

/-- Reserved bits of a work-order entry are 0, with SLEN, SCOPE and RCNT as R139 asks (R119, R121, R122). DESIGN CHOICE (log 53): LC, bit 82, counts as
reserved for XREG and ZERO, which use no channel. -/
def reservedClear (w : Nat) : Bool :=
  match woOp w with
  | 1 | 2 => bits w 69 0 = 0
  | 3 | 4 | 7 => bits w 59 0 = 0
  | 5 => bits w 67 0 = 0 && bits w 82 70 = 0 && bits w 69 68 ≠ 3
  | 6 => bits w 69 0 = 0 && bits w 108 82 = 0
  | 8 => bits w 66 0 = 0 && bits w 121 70 = 0 && decide (bits w 69 68 < 2)
  | _ => true

/-- The entry's operation is defined (R120, R136). -/
def opDefined (w : Nat) : Bool :=
  let op := woOp w
  if op = 15 then decide (bits w 123 120 < 8) else 1 ≤ op && op ≤ 8

/-- Staging bytes a work order needs (R123). -/
def stagingNeed (op a b s slen : Nat) : Nat :=
  match op with
  | 1 => (if a = b then 1 else 2) * 64 * s
  | 2 => (if a = b then 1 else 2) * 128 * s
  | 3 => (b + 1 - a) * 4096
  | 4 => (b + 1 - a) * 8192
  | 5 => 2 * 64 * slen
  | _ => 0

/-- The check of one work order of an entry, as R139 lists the codes; 0 when it may be issued. -/
def State.orderCheck (s : State) (k : Nat) (x : Sweep) : Nat :=
  let op := woOp x.word
  let half := s.currentHalf k
  let nb := match half with | some h => popCount 128 h.blocks | none => popCount 128 (s.reg 0x2800 7)
  let format := match half with | some h => h.format | none => s.reg 0x2800 3
  let spectra := match half with | some h => h.spectra | none => 0
  let uses := isCorr op || isBeam op
  if !opDefined x.word then 1
  else if !reservedClear x.word then 2
  else if s.board.bins ≤ x.bin then 3
  else if (uses && (decide (nb ≤ x.blka) || decide (nb ≤ x.blkb))) || (isBeam op && decide (x.blkb < x.blka))
      || (op = 5 && (decide (32 ≤ x.blka) || decide (32 ≤ x.blkb))) || (op = 7 && x.left < bits x.word 81 70 && decide (nb ≤ x.blka)) then 4
  else if ((op = 1 || op = 3) && format = 2) || ((op = 2 || op = 4) && format ≠ 2) then 5
  else if (isBeam op && !bitAt s.board.presence 11) || (op = 5 && !bitAt s.board.presence 8) then 6
  else if (uses || bitAt x.word 82) && half.isNone then 7
  else if uses && !bitAt x.word 82 && (match half with | some h => woChan x.word ≠ h.channel | none => false) then 8
  else if isBeam op && (decide (63 < woWslot x.word + (x.blkb - x.blka)) || decide (spectra / 64 ≤ x.seg)) then 0xB
  else if 262144 < stagingNeed op x.blka x.blkb spectra (woSlen x.word) then 0xC
  else 0

/-- The bits of a work order as issued: the fields of the sweep, and CHAN replaced when LC is set (R119, R122). -/
def State.orderBits (s : State) (k : Nat) (x : Sweep) : Nat :=
  let w := putBits (putBits (putBits x.word 121 109 x.bin) 108 102 x.blka) 101 95 x.blkb
  let w := if isBeam (woOp w) then putBits w 63 60 x.seg else w
  if bitAt w 82 then (match s.currentHalf k with | some h => putBits w 94 83 h.channel | none => w) else w

/-- The next work order of a sweep (R122), for `nb` enabled blocks. -/
def Sweep.advance (x : Sweep) (nb : Nat) : Sweep :=
  let op := woOp x.word
  let x := { x with bin := x.bin + 1, left := x.left - 1 }
  if isCorr op || op = 7 then
    if x.blkb + 1 = nb then { x with blka := x.blka + 1, blkb := x.blka + 1 } else { x with blkb := x.blkb + 1 }
  else if isBeam op then { x with seg := x.seg + 1 }
  else x

/-- The half a work order names. -/
def halfRef (x : LoftHalf) : HalfRef :=
  ⟨x.seq, x.window + x.step * x.spectra, x.spectra, x.channel, x.blocks, x.format, x.sc, x.period, x.origin⟩

/-- A work order for an unplaced logical tile is discarded and counts as completed; a DUMP of one leaves an INVALID record (R150). -/
def State.discardUnplaced (s : State) (k lam w id : Nat) : State :=
  let s := (s.inc64 (0x3010 + k) 8 1).inc32 (0x2100 + lam / 64) 5 1
  if woOp w = 7 then
    let r : DumpRec := ⟨272, id, k, woClass w, woStream w, invalidRecord w⟩
    ({ s with xarray := { s.xarray with dumps := s.xarray.dumps ++ [r] } }).inc64 0x3400 0x0F 1
  else s

/-- The port of a logical tile has let in a work order of a class from a Jig: the rotating pointer of that class moves on (R21, R125). -/
def State.portGrant (s : State) (lam cls k : Nat) : State :=
  let ptrs := (lookup s.xarray.ports lam).getD [0, 0, 0, 0]
  { s with xarray := { s.xarray with ports := insertKey s.xarray.ports lam (modNth (fun _ => (k + 1) % 4) ptrs cls) } }

/-- A work order joins the queue of its port (R124). -/
def State.enqueueOrder (s : State) (k lam w id : Nat) : State :=
  let uses := isCorr (woOp w) || isBeam (woOp w)
  let o : WorkOrder :=
    { id := id, bay := k, bits := w, entry := s.reg (0x3010 + k) 4, lam := lam, epoch := s.placeEpoch lam,
      half := if uses then (s.currentHalf k).map halfRef else none, phase := .queued, k := 0, shim := false, pulled := false, samples := [], cfg := 0 }
  (s.setOrders (s.xarray.orders ++ [o])).portGrant lam (woClass w) k

/-- A work order goes to the tile that holds its logical tile, if one does. -/
def State.placeOrder (s : State) (k lam w id : Nat) : Option Nat → State
  | none => s.discardUnplaced k lam w id
  | some _ => s.enqueueOrder k lam w id

/-- Issue one work order to its port (R124). -/
def State.issueOrder (s : State) (k : Nat) (x : Sweep) : State :=
  let w := s.orderBits k x
  let lam := x.bin % s.board.logicalTiles
  let s := s.inc64 (0x3010 + k) 7 1
  let s := if woClass w = 3 && !s.uTile lam then s.inc32 0x3000 0x0A 1 else s
  let id := s.xarray.nextOrder
  let s := { s with xarray := { s.xarray with nextOrder := id + 1 } }
  s.placeOrder k lam w id (s.tileOf lam)

/-- Issue the rest of a sweep, as far as checks and ports allow (R122, R124, R139). A full port counts once for each wait (R39, R500). -/
def State.runSweep (s : State) (k : Nat) : Nat → Sweep → State
  | 0, _ => s
  | fuel + 1, x =>
    let code := s.orderCheck k x
    if code ≠ 0 then (s.jigFail k code).lateSwap k
    else
      let lam := x.bin % s.board.logicalTiles
      if (s.tileOf lam).isSome && !s.portOpen lam (woClass x.word) then
        let s := if s.runState k = jgWaitPort then s else s.poolFull 1
        (s.modJig k (fun j => { j with sweep := some x })).setRun k jgWaitPort
      else
        let s := (s.issueOrder k x).setRun k jgRunning
        if x.left = 0 then ((s.modJig k (fun j => { j with sweep := none })).nextEntry k).lateSwap k
        else
          let nb := match s.currentHalf k with | some h => popCount 128 h.blocks | none => popCount 128 (s.reg 0x2800 7)
          s.runSweep k fuel (x.advance nb)

/-- A Jig waiting at a port goes on (R138). -/
def State.resumePort (s : State) (k : Nat) : State :=
  match (s.jig k).sweep with
  | some x => s.runSweep k (x.left + 1) x
  | none => s

/-- The Jigs that wait at the port of a logical tile go on as slots free: highest class first, then by the port's rotating pointer (R21, R125). -/
def State.wakePort (s : State) (lam : Nat) : State :=
  let waiting := (List.range 4).filter (fun k => s.runState k = jgWaitPort &&
    (match (s.jig k).sweep with | some x => x.bin % s.board.logicalTiles = lam && s.portOpen lam (woClass x.word) | none => false))
  let clsOf := fun k => match (s.jig k).sweep with | some x => woClass x.word | none => 0
  match waiting with
  | [] => s
  | k0 :: _ =>
    let cls := waiting.foldl (fun a k => max a (clsOf k)) (clsOf k0)
    let ptrs := (lookup s.xarray.ports lam).getD [0, 0, 0, 0]
    match rotating 4 (ptrs.getD cls 0) (waiting.filter (fun k => clsOf k = cls)) with
    | some k => s.resumePort k
    | none => s

/-! ## Running entries (R134 to R137) -/

/-- The entry at an index of the Jig's cut list, if there is one. -/
def State.entryAt (s : State) (k i : Nat) : Option Nat :=
  let l := (s.jig k).list
  if 16 * i + 16 ≤ l.length then some (field l (16 * i) 16) else none

/-- The Jig fetches its entry for a command that runs entries of one kind: an undefined operation is the error BAD_OP whatever the command,
an entry of another kind is left alone. -/
def State.atEntry (s : State) (k : Nat) (kind : Nat → Bool) (run : Nat → State) : State :=
  if s.reg (0x3010 + k) 2 = stOn && s.runState k = jgRunning then
    match s.entryAt k (s.reg (0x3010 + k) 4) with
    | some w => if !opDefined w then s.jigFail k 1 else if kind w then run w else s
    | none => s
  else s

/-- Run the work-order entry at the Jig's place, or go on with one that waited at a port (R122, R124). -/
def State.issueEntry (s : State) (k op : Nat) : State :=
  if s.reg (0x3010 + k) 2 = stOn && s.runState k = jgWaitPort then
    (match (s.jig k).sweep with | some x => if woOp x.word = op then s.resumePort k else s | none => s)
  else s.atEntry k (fun w => woOp w = op) (fun w =>
    let n := bits w 81 70
    s.runSweep k (n + 1) ⟨w, woBin w, woBlka w, woBlkb w, woSeg w, n⟩)

/-- CORR4 (R120). -/
def execCorr4 (bay : Nat) (s : State) : Result := inst (decide (bay < 4)) (.next (s.issueEntry bay 1))
/-- CORR8 (R120). -/
def execCorr8 (bay : Nat) (s : State) : Result := inst (decide (bay < 4)) (.next (s.issueEntry bay 2))
/-- BEAM4 (R120). -/
def execBeam4 (bay : Nat) (s : State) : Result := inst (decide (bay < 4)) (.next (s.issueEntry bay 3))
/-- BEAM8 (R120). -/
def execBeam8 (bay : Nat) (s : State) : Result := inst (decide (bay < 4)) (.next (s.issueEntry bay 4))
/-- XREG (R120). -/
def execXreg (bay : Nat) (s : State) : Result := inst (decide (bay < 4)) (.next (s.issueEntry bay 5))
/-- ZERO (R120, R166): its work orders clear their bins when their tiles run them. -/
def execZero (bay : Nat) (s : State) : Result := inst (decide (bay < 4)) (.next (s.issueEntry bay 6))
/-- DUMP (R120, R167): its work orders form their records when their tiles run them. -/
def execDump (bay : Nat) (s : State) : Result := inst (decide (bay < 4)) (.next (s.issueEntry bay 7))

/-- Work orders in a fence's scope are outstanding (R121, R137). -/
def State.fenceHeld (s : State) (k w : Nat) : Bool :=
  s.xarray.orders.any (fun o => o.bay = k && (bits w 69 68 = 0 || woClass o.bits = woClass w))

/-- A fence passes: JIG_FENCE fires when EVT is set (R137). -/
def State.fencePass (s : State) (k w : Nat) : State :=
  let s := if bitAt w 67 then s.fire (0x22 + 8 * k) (s.reg (0x3010 + k) 4) else s
  ((s.nextEntry k).setRun k jgRunning).lateSwap k

/-- FENCE (R137). -/
def execCutFence (bay : Nat) (s : State) : Result :=
  inst (decide (bay < 4)) (.next (s.atEntry bay (fun w => woOp w = 8) (fun w =>
    if !reservedClear w then s.jigFail bay 2 else if s.fenceHeld bay w then s.setRun bay jgWaitFence else s.fencePass bay w)))

/-- FENCE_PASS (R137). -/
def execFencePass (bay : Nat) (s : State) : Result :=
  inst (decide (bay < 4))
    (if s.runState bay = jgWaitFence then
      match s.entryAt bay (s.reg (0x3010 + bay) 4) with
      | some w => if s.fenceHeld bay w then .next s else .next (s.fencePass bay w)
      | none => .next s
     else .next s)

/-- A control entry of one code whose reserved bits are 0 runs; a set reserved bit is an error (R135, R139). -/
def State.control (s : State) (k code : Nat) (run : Nat → State) : State :=
  s.atEntry k (fun w => woOp w = 15 && bits w 123 120 = code) (fun w => if bits w 80 0 = 0 then run w else s.jigFail k 2)

/-- The Jig enters DONE and JIG_DONE fires (R136). -/
def State.jigEnd (s : State) (k : Nat) : State := (s.setRun k jgDone).fire (0x20 + 8 * k) 0

/-- END (R134, R136): the entry, or running past the last one. -/
def execCutEnd (bay : Nat) (s : State) : Result :=
  inst (decide (bay < 4))
    (if s.reg (0x3010 + bay) 2 = stOn && s.runState bay = jgRunning && (s.entryAt bay (s.reg (0x3010 + bay) 4)).isNone then .next (s.jigEnd bay)
     else .next (s.control bay 0 (fun _ => s.jigEnd bay)))

/-- WAIT_STEP (R132, R136, R141). -/
def execCutWaitStep (bay : Nat) (s : State) : Result :=
  inst (decide (bay < 4)) (.next (s.control bay 1 (fun _ =>
    if (s.jig bay).freeStep then (s.modJig bay (fun j => { j with freeStep := false })).nextEntry bay
    else match s.readyHalf bay with
      | some h => s.stepTaken bay h
      | none => s.setRun bay jgWaitStep)))

/-- A TARGET at or beyond the last entry is an error (R139). -/
def State.targetOk (s : State) (k target : Nat) : Bool := decide (target + 1 < (s.jig k).list.length / 16)

/-- JUMP (R136). -/
def execCutJump (bay : Nat) (s : State) : Result :=
  inst (decide (bay < 4)) (.next (s.control bay 2 (fun w =>
    if s.targetOk bay (bits w 119 108) then s.goto bay (bits w 119 108) else s.jigFail bay 0xA)))

/-- The step tests of R136; with no current half every test is false. -/
def State.stepTest (s : State) (k test : Nat) : Bool :=
  match s.currentHalf k with
  | none => false
  | some x =>
    let last := x.step + 1 = x.steps
    match test with
    | 0 => x.step = 0
    | 1 => last
    | 2 => x.step = 0 && x.channel = x.firstChannel
    | _ => last && x.channel = x.lastChannel

/-- IF_STEP (R136). -/
def execCutIfStep (bay : Nat) (s : State) : Result :=
  inst (decide (bay < 4)) (.next (s.control bay 3 (fun w =>
    if !s.targetOk bay (bits w 119 108) then s.jigFail bay 0xA
    else if s.stepTest bay (bits w 82 81) != bitAt w 83 then s.goto bay (bits w 119 108) else s.nextEntry bay)))

/-- T/S of the bay: of the current half's window, else of the live entries (R136). -/
def State.stepsOf (s : State) (k : Nat) : Nat :=
  match s.currentHalf k with
  | some x => x.steps
  | none => s.reg (0x2810 + k) 2 / stepSpectra (s.reg (0x2810 + k) 3)

/-- LOOP (R136). -/
def execCutLoop (bay : Nat) (s : State) : Result :=
  inst (decide (bay < 4)) (.next (s.control bay 4 (fun w =>
    let n := bits w 107 92
    if 4 ≤ (s.jig bay).loops.length then s.jigFail bay 9
    else (s.modJig bay (fun j => { j with loops := (if n = 0 then s.stepsOf bay else n, s.reg (0x3010 + bay) 4) :: j.loops })).nextEntry bay)))

/-- ENDLOOP (R136). -/
def execCutEndloop (bay : Nat) (s : State) : Result :=
  inst (decide (bay < 4)) (.next (s.control bay 5 (fun _ =>
    match (s.jig bay).loops with
    | [] => s.jigFail bay 9
    | (n, at_) :: rest =>
      if n - 1 ≠ 0 then (s.modJig bay (fun j => { j with loops := (n - 1, at_) :: rest })).goto bay (at_ + 1)
      else (s.modJig bay (fun j => { j with loops := rest })).nextEntry bay)))

/-- The Jig consumes the event its jig.go input holds, or waits for one (R136). -/
def State.waitEvent (s : State) (k : Nat) : State :=
  if (s.held (0x20 + k)).isSome then (((s.takeInput (0x20 + k)).nextEntry k).setRun k jgRunning).lateSwap k else s.setRun k jgWaitEvt

/-- A Jig in WAIT_EVT finds an event at its input (R138). -/
def State.goEvent (s : State) (k : Nat) : State := if s.runState k = jgWaitEvt then s.waitEvent k else s

/-- WAIT_EVT (R136): at its entry, or when the event it waits for has come. -/
def execCutWaitEvt (bay : Nat) (s : State) : Result :=
  inst (decide (bay < 4))
    (if s.runState bay = jgWaitEvt then .next (s.goEvent bay) else .next (s.control bay 6 (fun _ => s.waitEvent bay)))

/-- EVENT (R136). -/
def execCutEvent (bay : Nat) (s : State) : Result :=
  inst (decide (bay < 4)) (.next (s.control bay 7 (fun w => (s.fire (0x21 + 8 * bay) (bits w 91 84)).nextEntry bay)))

/-! ## Restart, enable, disable, new cut lists (R140, R141) -/

/-- A write of 01h to 3010h+k.10 (R140): halves kept in ERROR are let go but for the current one (R139). -/
def cmdJigRestart (k : Nat) (s : State) : Verdict :=
  if s.runState k = jgDone || s.runState k = jgError then
    let s := s.modJig k (fun j => { j with loops := [] })
    .ok (((((s.goto k 0).setReg (0x3010 + k) 5 0).setReg (0x3010 + k) 6 0).setRun k jgRunning).releaseHalves k)
  else .error dState

/-- The Jig reaches ON: it takes the live cut list and runs from entry 0 (R138, R140). -/
def State.jigOn (s : State) (k : Nat) : State :=
  let s := s.modJig k (fun _ => { Jig.reset with list := s.dom (0x3020 + k) 1 })
  ((((s.goto k 0).setReg (0x3010 + k) 5 0).setReg (0x3010 + k) 6 0).setRun k jgRunning).halfReady k

/-- Every work order the Jig has issued has completed (R140). -/
def State.jigIdle (s : State) (k : Nat) : Bool := s.xarray.orders.all (fun o => o.bay ≠ k)

/-- The Jig reaches OFF: both halves are released and retired (R140). -/
def State.jigOff (s : State) (k : Nat) : State :=
  let s := s.modJig k (fun j => { Jig.reset with list := j.list })
  let s := s.each (List.range 2) (fun h s => s.setHalf k h { s.loftHalf k h with held := false })
  s.setRun k jgStopped

/-- The Jig is within an entry that ends by itself: a sweep, or a wait for a fence or an event (R141). -/
def State.withinEntry (s : State) (k : Nat) : Bool := (s.jig k).sweep.isSome || s.runState k = jgWaitFence || s.runState k = jgWaitEvt

/-- A disable of a Jig: it fetches no further entry and reads STOPPED (R138, R140). -/
def State.jigDisabling (s : State) (k : Nat) : State := ((s.modJig k (fun j => { j with sweep := none, swapDue := false })).setRun k jgStopped).releaseHalves k

/-- A new cut list of bay `k` has become live at `sc` (R141): at TICK when the bay reads no channel, else at the window it applies to. A WAIT_STEP
entry is left for the swap, as it is in the other case (log 53). -/
def State.cutListLive (s : State) (k sc : Nat) : State :=
  if s.reg (0x3010 + k) 2 ≠ stOn then s
  else
    let l := s.dom (0x3020 + k) 1
    let s := s.modJig k (fun j => { j with lists := j.lists ++ [(sc, l)] })
    if s.reg (0x2810 + k) 1 ≠ 0 then s
    else if s.withinEntry k then s.modJig k (fun j => { j with swapDue := true })
    else (s.modJig k (fun j => { j with lists := [] })).swapList k l

/-- Every Jig is OFF, which the X-array's own entries ask (R152, R182). -/
def State.jigsOff (s : State) : Bool := (List.range 4).all (fun k => s.reg (0x3010 + k) 2 = stOff)

end Sys2Proof.Machine
end

