-- ==== Sys2Proof/Machine/Tiles.lean ====
section
/-! DEFINITION. Tiles: running work orders, passes, folds, spills, shimming and re-seating (chapter 4, R125 to R151; chapter 5, R158 to R178). -/

namespace Sys2Proof.Machine

/-! ## Physical tiles -/

/-- Physical tile `g`. -/
def State.tile (s : State) (g : Nat) : Tile := (lookup s.xarray.tiles g).getD Tile.reset

/-- Replace physical tile `g`. -/
def State.setTile (s : State) (g : Nat) (t : Tile) : State := { s with xarray := { s.xarray with tiles := insertKey s.xarray.tiles g t } }

/-- Re-seats of a bay, the one in progress first. -/
def State.reseatsOf (s : State) (bay : Nat) : List Reseat := nthD [] s.xarray.reseats bay

/-- Replace the re-seats of a bay. -/
def State.setReseats (s : State) (bay : Nat) (rs : List Reseat) : State :=
  { s with xarray := { s.xarray with reseats := modNth (fun _ => rs) s.xarray.reseats bay } }

/-- Tile `g` is fenced: it is the source of a re-seat (R147). -/
def State.fenced (s : State) (g : Nat) : Bool := (s.reseatsOf (g / 68)).any (fun r => r.source = g)

/-- The logical tile that tile `g` serves, if it is IN_SERVICE and not fenced. -/
def State.serves (s : State) (g : Nat) : Option Nat :=
  if s.reg (0x2200 + g) 1 = 0 && !s.fenced g then some (g / 68 * 64 + s.reg (0x2200 + g) 2) else none

/-- The work order whose pass, or DUMP, runs for a logical tile. -/
def State.running (s : State) (lam : Nat) : Option WorkOrder := s.xarray.orders.find? (fun o => o.lam = lam && o.phase = .running)

/-- The work order with an id. -/
def State.order (s : State) (id : Nat) : Option WorkOrder := s.xarray.orders.find? (fun o => o.id = id)

/-- A weight slot of a tile (R195); 8,192 zero bytes after reset. -/
def State.weightSlot (s : State) (g slot : Nat) : Bytes := (lookup s.xarray.weights (g * 64 + slot)).getD []

/-! ## Selection and pull (R116, R127, R128) -/

/-- The work order may start: its bin has no earlier one queued or running, and no weight load holds it (R127, R128, R197). -/
def eligible (loads : List WeightLoad) (earlier : List WorkOrder) (o : WorkOrder) : Bool :=
  o.phase = .queued && earlier.all (fun e => e.phase = .done || woBin e.bits ≠ woBin o.bits) &&
    !(isBeam (woOp o.bits) && loads.any (fun l => l.lam = o.lam && (match o.half with | some h => decide (l.sc ≤ h.sc) | none => false)))

/-- The eligible work orders of a logical tile in arrival order. -/
def eligibleOf (loads : List WeightLoad) (lam : Nat) : List WorkOrder → List WorkOrder → List WorkOrder
  | _, [] => []
  | earlier, o :: os =>
    if o.lam = lam && eligible loads earlier o then o :: eligibleOf loads lam (earlier ++ [o]) os
    else eligibleOf loads lam (earlier ++ [o]) os

/-- The work order a tile starts: the highest class, and within it the one that arrived first (R127). -/
def State.nextOrder (s : State) (lam : Nat) : Option WorkOrder :=
  let es := eligibleOf s.xarray.loads lam [] s.xarray.orders
  let cls := es.foldl (fun a o => max a (woClass o.bits)) 0
  es.find? (fun o => woClass o.bits = cls)

/-- Samples of the block ranks of a loft half that are wanted. -/
def pickBlocks (len : Nat) (want : Nat → Bool) (samples : List (Nat × Nat)) : List (Nat × Nat) :=
  samples.filter (fun p => want (p.1 / (len * 64)))

/-- The spectra of a pass's samples. -/
def passLen (o : WorkOrder) : Nat := match o.half with | some h => h.spectra | none => woSlen o.bits

/-- The two ends of a work order, once each. -/
def woEnds (w : Nat) : List Nat := if woBlka w = woBlkb w then [woBlka w] else [woBlka w, woBlkb w]

/-- The blocks a work order has in staging, by Jig, loft half, rank and part of it, with their bytes (R116, R123). -/
def WorkOrder.blocks (o : WorkOrder) : List (List Nat × Nat) :=
  let w := o.bits
  let op := woOp w
  match o.half with
  | some h =>
    if isCorr op then (woEnds w).map (fun r => ([o.bay, h.seq, r, 16], 64 * h.spectra * op))
    else if isBeam op then (List.range (woBlkb w + 1 - woBlka w)).map (fun j => ([o.bay, h.seq, woBlka w + j, woSeg w], 4096 * (op - 2)))
    else []
  | none => if op = 5 then (woEnds w).map (fun r => ([o.bay, o.id, r, 17], 64 * woSlen w)) else []

/-- Bytes of staging that work orders take together: a block they share counts once (R116). -/
def orderBytes (os : List WorkOrder) : Nat := ((os.flatMap WorkOrder.blocks).eraseDups.map (fun b => b.2)).foldl (fun a n => a + n) 0

/-- The blocks of some work orders fit in the 256 KiB of a tile's staging (R115). -/
def stagingFits (os : List WorkOrder) : Bool := decide (orderBytes os ≤ 262144)

/-- The work orders of a logical tile whose blocks are in staging: pulled, and not committed (R116). -/
def State.stagedOrders (s : State) (lam : Nat) : List WorkOrder := s.xarray.orders.filter (fun o => o.lam = lam && o.pulled && o.phase ≠ .done)

/-- The loft half of a work order, while its Jig holds it. -/
def State.heldHalf (s : State) (o : WorkOrder) (h : HalfRef) : Option LoftHalf := ((List.range 2).map (s.loftHalf o.bay)).find? (fun x => x.held && x.seq = h.seq)

/-- The address of a block of a registration record (R121). -/
def State.regBlockAddr (s : State) (w blk : Nat) : Nat := s.reg 0x3000 3 + woChan w * 2097152 + blk * 64 * woSlen w

/-- The 4+4 samples of a block of a registration record (R121): the byte of line `t` and sample `i` is at 64t + i of the block. -/
def State.regBlock (s : State) (w blk : Nat) : List (Nat × Nat) :=
  let n := 64 * woSlen w
  let a := s.regBlockAddr w blk
  (((List.range n).zip (s.load a n)).filter (fun p => s.byteReadable (a + p.1))).map (fun p => (blk * n + p.1, ofBytes [p.2]))

/-- One block of a work order as it is pulled: from staging if another work order has it there, else from the loft half while its Jig holds it, else
from the crib (R116, R147). -/
def State.pullBlock (s : State) (o : WorkOrder) (h : HalfRef) (b : List Nat × Nat) : List (Nat × Nat) :=
  let r := nthD 0 b.1 2
  match (s.stagedOrders o.lam).find? (fun p => p.blocks.contains b) with
  | some p => pickBlocks h.spectra (fun x => x = r) p.samples
  | none =>
    match s.heldHalf o h with
    | some x => pickBlocks h.spectra (fun x => x = r) x.samples
    | none => s.rankSamples h.first h.channel h.spectra r

/-- The blocks a work order pulls (R116, R121, R147). -/
def State.pullBlocks (s : State) (o : WorkOrder) : List (Nat × Nat) :=
  match o.half with
  | some h => o.blocks.flatMap (s.pullBlock o h)
  | none => (woEnds o.bits).flatMap (s.regBlock o.bits)

/-- The DRAM reads of a pull: of the registration record in the class of the work order, of the crib in class H (R20, R22). -/
def State.pullReads (s : State) (o : WorkOrder) : State :=
  match o.half with
  | some h =>
    if (s.heldHalf o h).isSome then s
    else s.each (o.blocks.filter (fun b => !(s.stagedOrders o.lam).any (fun p => p.blocks.contains b)))
      (fun b s => s.rankReads h.first h.channel h.spectra (nthD 0 b.1 2))
  | none => s.each (woEnds o.bits) (fun r s => s.readRange (woClass o.bits) (s.regBlockAddr o.bits r) (64 * woSlen o.bits))

/-- A work order pulls its blocks; its loft half may then be released (R116, R132). -/
def State.pullOrder (s : State) (o : WorkOrder) : State :=
  ((s.pullReads o).modOrder o.id (fun x => { x with pulled := true, samples := s.pullBlocks o })).releaseHalves o.bay

/-- The work order may start beside those that run or fold: its blocks are in staging, or would find space once those of waiting work orders are
dropped (R116, R129). -/
def State.canStage (s : State) (o : WorkOrder) : Bool :=
  o.pulled || 5 < woOp o.bits || stagingFits ((s.stagedOrders o.lam).filter (fun p => p.phase ≠ .queued) ++ [o])

/-- Space in staging for a work order that starts: where there is none, the blocks of those that wait in the queue are dropped, and pulled again when
these start (R129; log 53). -/
def State.makeSpaceFor (s : State) (o : WorkOrder) : State :=
  if stagingFits (s.stagedOrders o.lam ++ [o]) then s
  else s.setOrders (s.xarray.orders.map (fun p => if p.lam = o.lam && p.phase = .queued then { p with pulled := false, samples := [] } else p))

/-- The work order that a tile would start once those it has started are done. -/
def State.orderAhead (s : State) (lam : Nat) : Option WorkOrder :=
  let es := eligibleOf s.xarray.loads lam [] (s.xarray.orders.map (fun o => if o.lam = lam && o.phase ≠ .queued then { o with phase := .done } else o))
  let cls := es.foldl (fun a o => max a (woClass o.bits)) 0
  es.find? (fun o => woClass o.bits = cls)

/-- A tile pulls the blocks of its next work order while the current one runs, as far as staging is free (R116). -/
def State.pullAhead (s : State) (lam : Nat) : State :=
  match s.orderAhead lam with
  | some o => if o.pulled || 5 < woOp o.bits || !stagingFits (s.stagedOrders lam ++ [o]) then s else s.pullOrder o
  | none => s

/-! ## Committing (R131, R132) -/

/-- A work order commits on tile `g`. -/
def State.commitOrder (s : State) (g : Nat) (o : WorkOrder) : State :=
  ((s.modOrder o.id (fun o => { o with phase := .done, samples := [] })).inc64 (0x2200 + g) 3 1).releaseHalves o.bay

/-- Bytes of logical DRAM can be written: none lies outside the space, or is an unprotected one of a LOST channel (R339, R351). -/
def State.rangeWritable (s : State) (a n : Nat) : Bool :=
  (unitsOf a n).all (fun u => match s.mapAddr (64 * u) with | some (ch, l) => decide (l < s.protUnits) || s.chanState ch ≠ 2 | none => false)

/-- Enabled blocks of the geometry a work order was issued under. -/
def State.orderBlocks (s : State) (o : WorkOrder) : Nat :=
  match o.half with | some h => popCount 128 h.blocks | none => popCount 128 (s.reg 0x2800 7)

/-- The spill image of a half as a merge reads it: nothing while IMG is clear, none if DRAM cannot read it (R172, R175). -/
def State.readImage (s : State) (a : Acc) (bin half : Nat) : Option (List Cplx) :=
  if !a.img then some []
  else if s.rangeReadable (s.spillAddr bin half) 32768 then some (imageVals (s.load (s.spillAddr bin half) 32768))
  else none

/-- A half whose image could not be read (R175): it keeps its value, and its image counts as zero from then on (log 53). -/
def Acc.imageLost (a : Acc) : Acc := { a with spillErr := true, invalid := true, img := false, eImg := 0, imgPeak := 0 }

/-- A DUMP reads its bin into the dump path of tile `g` (R167, R173, R175). -/
def State.dumpRead (s : State) (g : Nat) (o : WorkOrder) (bad : List Nat) : State :=
  let w := o.bits
  let bin := woBin w
  let slot := bin / s.board.logicalTiles
  let split := s.isSplit bin
  let half := s.halfOf w (s.orderBlocks o)
  let s := s.granaryEcc g slot half bin bad
  let a := s.acc g slot half
  let put := fun (s : State) (words : List Nat) =>
    let r : DumpRec := ⟨g, o.id, o.bay, woClass w, woStream w, words⟩
    (({ s with xarray := { s.xarray with dumps := s.xarray.dumps ++ [r] } }).inc64 0x3400 0x0F 1).commitOrder g o
  if split then
    let img := s.readImage a bin half
    let s := if a.img then s.readRange (woClass w) (s.spillAddr bin half) 32768 else s
    let a := if img.isNone then a.imageLost else a
    let m := a.merge (img.getD [])
    let a := { a with lfsr := m.lfsr, binSat := a.binSat || m.clamped }
    let s := if m.clamped then s.inc64 0x3400 0x0A 1 else s
    put (s.setAcc g slot half (if woClr w then Acc.reset else a)) (recordWords a true bin half w m.vals m.e m.peak)
  else put (if woClr w then s.setAcc g slot 0 Acc.reset else s) (recordWords a false bin 0 w a.vals a.e a.peak)

/-- The dump path of a tile holds a record that has not been placed. -/
def State.pathBusy (s : State) (g : Nat) : Bool := s.xarray.dumps.any (fun r => r.tile = g)

/-- A work order starts on tile `g` (R127): its blocks are pulled, and then those of the next (R116); a ZERO clears its bin; a DUMP reads its bin once its
dump path is free. -/
def State.startOrder (s : State) (g : Nat) (o : WorkOrder) (bad : List Nat) : State :=
  let op := woOp o.bits
  let s := if o.pulled || 5 < op then s else (s.makeSpaceFor o).pullOrder o
  let epoch := s.placeEpoch o.lam
  let cfg := s.reg 0x1100 1
  let s := (s.modOrder o.id (fun x => { x with phase := .running, epoch := epoch, cfg := cfg, pulled := true })).releaseHalves o.bay
  let s :=
    if op = 6 then (s.clearBin g (woBin o.bits / s.board.logicalTiles)).commitOrder g o
    else if op = 7 then (if s.pathBusy g then s else s.dumpRead g o bad)
    else s
  (s.pullAhead o.lam).wakePort o.lam

/-- WORK_ORDER_START (R127): a tile with no pass running, and with a free short-sum bank and staging for a pass, starts its next work order. -/
def execWorkOrderStart (tile : Nat) (bad : List Nat) (s : State) : Result :=
  inst (decide (tile < 272))
    (match s.serves tile with
     | none => .next s
     | some lam =>
       match s.running lam, s.nextOrder lam with
       | none, some o =>
         if (woOp o.bits ≤ 5 && (s.tile tile).banks.all (fun b => b.busy)) || !s.canStage o then .next s else .next (s.startOrder tile o bad)
       | _, _ => .next s)

/-- CLASS_U_YIELD (R129): on a designated tile the running lower-class work order, a DUMP that
waits too, yields to an eligible class U work order on another bin. -/
def execClassUYield (tile : Nat) (s : State) : Result :=
  inst (decide (tile < 272))
    (match s.serves tile with
     | none => .next s
     | some lam =>
       match s.running lam, s.nextOrder lam with
       | some r, some o =>
         if s.uTile lam && woClass r.bits ≠ 3 && woClass o.bits = 3 then
           .next ((s.modOrder r.id (fun x => { x with phase := .queued })).inc64 0x3000 9 1)
         else .next s
       | _, _ => .next s)

/-! ## Passes (R130, R158) -/

/-- The pass of a work order on tile `g` at its product shift. -/
def State.pass (s : State) (g : Nat) (o : WorkOrder) : PassResult :=
  runPass (sumWidth (woOp o.bits)) o.k (laneTerms o.bits (passLen o) o.samples (s.weightSlot g))

/-- The pass running on a tile, with its work order. -/
def State.passOn (s : State) (g : Nat) : Option (WorkOrder × PassResult) :=
  match (s.serves g).bind s.running with
  | some o => if woOp o.bits ≤ 5 then some (o, s.pass g o) else none
  | none => none

/-- PASS_OVERFLOW (R130, R158). -/
def execPassOverflow (tile : Nat) (s : State) : Result :=
  inst (decide (tile < 272))
    (match s.passOn tile with
     | some (o, p) =>
       if p.ovr && decide (o.k < 6) then
         .next (((s.modOrder o.id (fun o => { o with k := o.k + 1 })).inc64 0x3000 4 1).inc64 (0x3010 + o.bay) 0x0C 1 |>.countE 0xA01 0)
       else .next s
     | none => .next s)

/-- SC of the first spectrum of a pass; 0 for XREG (R158, R197). -/
def passFirstSc (o : WorkOrder) : Nat :=
  match o.half with
  | some h => if isBeam (woOp o.bits) then h.sc + 64 * woSeg o.bits * h.period else h.sc
  | none => 0

/-- The bank a completed pass hands over (R158). -/
def passBank (o : WorkOrder) (p : PassResult) : Bank :=
  ⟨true, o.id, o.bits, o.epoch, o.k, p.ovr, peakOf p.sums, passFirstSc o, p.sums⟩

/-- PASS_COMPLETE (R130, R158). A replay after a shim ends the recovery of its cell (R508). -/
def execPassComplete (tile : Nat) (s : State) : Result :=
  inst (decide (tile < 272))
    (match s.passOn tile with
     | some (o, p) =>
       let t := s.tile tile
       match (List.range 2).find? (fun i => !(nthD Bank.reset t.banks i).busy) with
       | some i =>
         if p.ovr && decide (o.k < 6) then .next s
         else
           let s := s.setTile tile { t with banks := modNth (fun _ => passBank o p) t.banks i, fill := i }
           let s := if p.ovr then s.inc64 0x3000 5 1 else s
           let s := s.modOrder o.id (fun o => { o with phase := .folding, shim := false })
           .next (if o.shim then s.faultDone 1 2 tile 0 s.sc else s)
       | none => .next s
     | none => .next s)

/-! ## Folds and spills (R163, R165, R173 to R176) -/

/-- Free a bank. -/
def State.freeBank (s : State) (g i : Nat) : State :=
  let t := s.tile g
  s.setTile g { t with banks := modNth (fun b => { b with busy := false }) t.banks i }

/-- A bank's result is still wanted: its work order waits for it under the current placement epoch (R146). -/
def State.bankCurrent (s : State) (g : Nat) (b : Bank) : Option WorkOrder :=
  match s.serves g, s.order b.order with
  | some lam, some o =>
    if o.lam = lam && (o.phase = .folding || o.phase = .spilling) && b.epoch = s.placeEpoch lam && o.epoch = b.epoch then some o else none
  | _, _ => none

/-- What a fold takes from the bank and its work order's half (R160, R162, R163); the epoch of an XREG is that of its start (R29). -/
def State.foldTag (s : State) (o : WorkOrder) (b : Bank) (half : Nat) : FoldTag :=
  let len := match o.half with | some h => (if isBeam (woOp o.bits) then 64 else h.spectra) * h.period | none => 0
  { bin := woBin b.bits, half := half, bits := b.bits, k := b.k, sat := b.sat, peak := b.peak, firstSc := b.firstSc, endSc := b.firstSc + len,
    dumpEpoch := match o.half with | some h => (b.firstSc - h.origin) / h.period % 2 ^ 32 | none => woChan b.bits,
    cfgEpoch := match o.half with | some _ => s.epochAt b.firstSc | none => o.cfg }

/-- The fold itself, with its counters (R163, R164, R176). -/
def State.foldBank (s : State) (g : Nat) (o : WorkOrder) (b : Bank) : State :=
  let bin := woBin b.bits
  let slot := bin / s.board.logicalTiles
  let split := s.isSplit bin
  if split && !isCorr (woOp b.bits) then
    let spoil := fun (s : State) h => s.setAcc g slot h { s.acc g slot h with invalid := true }
    (spoil (spoil s 0) 1).inc32 0x3400 0x0B 1
  else
    let half := s.halfOf b.bits (s.orderBlocks o)
    let a := s.acc g slot half
    let r := a.fold split (s.foldTag o b half) b.sums
    let s := ((s.setAcc g slot half r.1).inc64 0x3400 6 1).inc64 0x3401 (b.k + 1) 1
    let s := if r.2.1 then s.inc64 0x3400 7 1 else s
    let s := if b.sat then s.inc64 0x3400 8 1 else s
    let s := if r.2.2 then s.inc64 0x3400 0x0A 1 else s
    if r.1.mixed && !a.mixed then s.inc32 0x3400 0x10 1 else s

/-- The fold of bank `i` ends: the bank is free and its work order commits. -/
def State.foldEnd (s : State) (g i : Nat) (o : WorkOrder) (b : Bank) : State := (((s.foldBank g o b).freeBank g i).commitOrder g o).pullAhead o.lam

/-- Bank `i` of tile `g` reaches its fold: rejected by placement epoch, started on a spill or waiting for the one that runs, or folded (R146, R173, R174). -/
def State.foldStep (s : State) (g i : Nat) (b : Bank) (bad : List Nat) : State :=
  match s.bankCurrent g b with
  | none => (s.freeBank g i).inc64 0x3000 7 1
  | some o =>
    let bin := woBin b.bits
    let slot := bin / s.board.logicalTiles
    let half := if isCorr (woOp b.bits) then s.halfOf b.bits (s.orderBlocks o) else 0
    let s := s.granaryEcc g slot half bin bad
    if s.isSplit bin && isCorr (woOp b.bits) && needsSpill (s.acc g slot half) b.peak b.k then
      if (s.tile g).spill.isSome then s.modOrder o.id (fun o => { o with phase := .spilling })
      else
        let s := s.setTile g { s.tile g with spill := some i }
        (s.modOrder o.id (fun o => { o with phase := .spilling })).inc64 0x3400 9 1
    else s.foldEnd g i o b

/-- The banks the granary controller holds for a tile, the one handed over first at the front, but for one whose fold waits for a spill. -/
def Tile.pendingBanks (t : Tile) : List Nat :=
  [1 - t.fill, t.fill].filter (fun i => (nthD Bank.reset t.banks i).busy && t.spill ≠ some i)

/-- FOLD_COMPLETE (R163). `bad` lists long sums whose granary word read uncorrectable (R511). -/
def execFoldComplete (tile : Nat) (bad : List Nat) (s : State) : Result :=
  inst (decide (tile < 272))
    (match (s.tile tile).pendingBanks with
     | i :: _ => .next (s.foldStep tile i (nthD Bank.reset (s.tile tile).banks i) bad)
     | [] => .next s)

/-- The spill of a half into its image, in the class of its work order (R173 to R175). An image that cannot be written leaves the half as it is, with
SPILL_ERR (R160; log 53). -/
def State.spillHalf (s : State) (cls g slot half bin : Nat) : State :=
  let a := s.acc g slot half
  let addr := s.spillAddr bin half
  let img := s.readImage a bin half
  let s := if a.img then s.readRange cls addr 32768 else s
  match img with
  | some img =>
    if s.rangeWritable addr 32768 then
      let m := a.merge img
      let s := s.store cls addr (imageBytes m.vals)
      let s := if m.clamped then s.inc64 0x3400 0x0A 1 else s
      s.setAcc g slot half (a.spilled m)
    else s.setAcc g slot half { a with spillErr := true }
  | none => s.setAcc g slot half a.imageLost

/-- SPILL_COMPLETE (R173): the image is written, and the waiting fold proceeds, or is rejected if its placement has gone (R178). -/
def execSpillComplete (tile : Nat) (bad : List Nat) (s : State) : Result :=
  inst (decide (tile < 272))
    (match (s.tile tile).spill with
     | none => .next s
     | some i =>
       let b := nthD Bank.reset (s.tile tile).banks i
       let bin := woBin b.bits
       let slot := bin / s.board.logicalTiles
       let half := s.halfOf b.bits (match s.order b.order with | some o => s.orderBlocks o | none => popCount 128 (s.reg 0x2800 7))
       let s := ((s.granaryEcc tile slot half bin bad).spillHalf (woClass b.bits) tile slot half bin)
       let s := s.setTile tile { s.tile tile with spill := none }
       match s.bankCurrent tile b with
       | some o => .next (s.foldEnd tile i o b)
       | none => .next ((s.freeBank tile i).inc64 0x3000 7 1))

/-- WORK_ORDER_COMPLETE (R131): the oldest committed work order of a Jig is reported to it. The Jig rejects a report under an old placement epoch
(R146); the tile that took over reports it again (log 53). -/
def execWorkOrderComplete (bay : Nat) (s : State) : Result :=
  inst (decide (bay < 4))
    (match s.xarray.orders.find? (fun o => o.bay = bay && o.phase = .done) with
     | some o =>
       let epoch := s.placeEpoch o.lam
       if o.epoch ≠ epoch then .next ((s.modOrder o.id (fun x => { x with epoch := epoch })).inc64 0x3000 7 1)
       else .next (((s.setOrders (s.xarray.orders.filter (fun x => x.id ≠ o.id))).inc64 (0x3010 + bay) 8 1).releaseHalves bay)
     | none => .next s)

/-! ## Re-seating (R145 to R151) -/

/-- Tiles of a bay in a state: 0 IN_SERVICE, 1 SPARE, 2 FAILED. -/
def State.tilesIn (s : State) (bay st : Nat) : List Nat :=
  ((List.range 68).map (fun t => bay * 68 + t)).filter (fun g => s.reg (0x2200 + g) 1 = st)

/-- Show the tile counts of a bay (R153). -/
def State.showBay (s : State) (bay : Nat) : State :=
  let s := ((s.setReg (0x2100 + bay) 1 (s.tilesIn bay 0).length).setReg (0x2100 + bay) 2 (s.tilesIn bay 1).length).setReg (0x2100 + bay) 3 (s.tilesIn bay 2).length
  s.setReg (0x2100 + bay) 4 ((List.range 64).filter (fun l => s.placement (bay * 64 + l) = 0x7F)).length

/-- Set the state, logical tile and cause of a tile. -/
def State.setTileState (s : State) (g st logical cause : Nat) : State :=
  ((s.setReg (0x2200 + g) 1 st).setReg (0x2200 + g) 2 logical).setReg (0x2200 + g) 5 cause

/-- A tile that served a logical tile is FAILED with a cause; its granary keeps what it held (R181). -/
def State.retireTile (s : State) (g lam cause : Nat) : State := (s.setTile g { s.tile g with was := some lam }).setTileState g 2 0xFF cause

/-- Write a placement entry. -/
def State.setPlacement (s : State) (lam epoch pos : Nat) : State := s.setReg (0x2110 + lam / 64) (lam % 64 + 1) (epoch % 256 * 256 + pos)

/-- The next placement epoch of a logical tile (R146). -/
def State.bumpEpoch (s : State) (lam : Nat) : State := s.setPlacement lam (s.placeEpoch lam + 1) (s.placement lam)

/-- Work orders of a logical tile that had started pulling and not committed return to the head of the port queue in arrival order; their blocks are
pulled again (R147). -/
def State.returnOrders (s : State) (lam : Nat) : State :=
  let back := fun (o : WorkOrder) => o.lam = lam && o.pulled && o.phase ≠ .done
  let os := s.xarray.orders
  s.setOrders ((os.filter back).map (fun o => { o with phase := .queued, k := 0, shim := false, pulled := false, samples := [] })
    ++ os.filter (fun o => !back o))

/-- Every work order of an unplaced logical tile is discarded and counts as completed; a DUMP sends an invalid record (R150, R170). -/
def State.discardOrders (s : State) (lam : Nat) : State :=
  let mine := s.xarray.orders.filter (fun o => o.lam = lam && o.phase ≠ .done)
  let s := s.setOrders (s.xarray.orders.filter (fun o => o.lam ≠ lam || o.phase = .done))
  let s := s.each mine (fun o s =>
    let s := (s.inc64 (0x3010 + o.bay) 8 1).inc32 (0x2100 + lam / 64) 5 1
    if woOp o.bits = 7 then
      let r : DumpRec := ⟨272, o.id, o.bay, woClass o.bits, woStream o.bits, invalidRecord o.bits⟩
      ({ s with xarray := { s.xarray with dumps := s.xarray.dumps ++ [r] } }).inc64 0x3400 0x0F 1
    else s)
  (s.each (List.range 4) (fun k s => s.releaseHalves k)).wakePort lam

/-- A logical tile is left without a tile (R150). -/
def State.unplace (s : State) (lam source cause : Nat) : State :=
  let bay := lam / 64
  let s := s.setPlacement lam (s.placeEpoch lam) 0x7F
  let s := s.retireTile source lam cause
  let s := ((s.discardOrders lam).fire (0x25 + 8 * bay) lam).faultDone 2 8 source cause s.sc
  s.showBay bay

/-- The first re-seat of a bay that waits takes the lowest SPARE tile, or leaves its logical tile unplaced (R147, R149, R150). -/
def State.startReseat (s : State) (bay : Nat) : Nat → State
  | 0 => s
  | fuel + 1 =>
    match s.reseatsOf bay with
    | [] => s.setReg (0x2100 + bay) 6 0
    | r :: rest =>
      if r.target.isSome then s
      else match s.tilesIn bay 1 with
        | q :: _ => (s.setReseats bay ({ r with target := some q } :: rest)).setReg (0x2100 + bay) 6 1
        | [] =>
          let s := s.setReseats bay rest
          (if r.source < 272 then s.unplace r.lam r.source r.cause else s).startReseat bay fuel

/-- A tile that serves a logical tile fails: its passes are returned and the logical tile waits for a re-seat (R145, R147). -/
def State.failServing (s : State) (g cause lam : Nat) : State :=
  let bay := g / 68
  let s := if (s.running lam).any (fun o => o.shim) then s.faultDone 1 8 g 0 s.sc else s
  let s := (s.bumpEpoch lam).returnOrders lam
  (s.setReseats bay (s.reseatsOf bay ++ [⟨lam, g, cause, none⟩])).startReseat bay 70

/-- A tile that serves no logical tile fails. A re-seat that was copying to it starts again with the next spare (R149). -/
def State.failIdle (s : State) (g cause : Nat) : State :=
  let bay := g / 68
  let s := (s.setTileState g 2 0xFF cause).faultDone 2 8 g cause s.sc
  let s := s.each ((s.reseatsOf bay).filter (fun r => r.target = some g)) (fun r s => s.bumpEpoch r.lam)
  let s := s.setReseats bay ((s.reseatsOf bay).map (fun r => if r.target = some g then { r with target := none } else r))
  (s.showBay bay).startReseat bay 70

/-- What a failed tile does next, by the logical tile it served. -/
def State.failAs (s : State) (g cause : Nat) : Option Nat → State
  | some lam => s.failServing g cause lam
  | none => s.failIdle g cause

/-- A tile fails (R145, R147). -/
def State.tileFail (s : State) (g cause : Nat) : State :=
  let s := s.faultStart 2 g cause s.sc
  s.failAs g cause (s.serves g)

/-- TILE_FAIL (R145, R147) with a cause of R145. A tile that has already failed, or that is fenced, is left alone. -/
def execTileFail (tile cause : Nat) (s : State) : Result :=
  inst (decide (tile < 272) && decide (1 ≤ cause) && decide (cause ≤ 7))
    (if tile / 68 < s.board.bays && s.reg (0x2200 + tile) 1 ≠ 2 && !s.fenced tile then .next (s.tileFail tile cause) else .next s)

/-- RESIDUE_MISMATCH (R143, R144). -/
def execResidueMismatch (tile : Nat) (s : State) : Result :=
  inst (decide (tile < 272))
    (match (s.serves tile).bind s.running with
     | some o =>
       if 5 < woOp o.bits then .next s
       else if (s.tile tile).spareCells = 0 then .next (s.tileFail tile 1)
       else if o.shim then .next (s.tileFail tile 2)
       else
         let t := s.tile tile
         let s := (s.setTile tile { t with spareCells := t.spareCells - 1 }).modOrder o.id (fun o => { o with shim := true })
         .next (((s.faultStart 1 tile 0 s.sc).inc64 0x3000 6 1).countE 0xA00 0)
     | none => .next s)

/-- Copy the 24 bins, their tags and the weight store of a tile to another (R147, R178). -/
def State.copyTile (s : State) (p q : Nat) : State :=
  let bins := (List.range 48).foldl (fun m i =>
    match lookup s.xarray.bins (p * 48 + i) with | some a => insertKey m (q * 48 + i) a | none => eraseKey m (q * 48 + i)) s.xarray.bins
  let weights := (List.range 64).foldl (fun m i =>
    match lookup s.xarray.weights (p * 64 + i) with | some b => insertKey m (q * 64 + i) b | none => eraseKey m (q * 64 + i)) s.xarray.weights
  { s with xarray := { s.xarray with bins := bins, weights := weights } }

/-- A tile placed without a source holds no content of its bins: they are INVALID (R150). -/
def State.voidBins (s : State) (q : Nat) : State :=
  s.each (List.range 48) (fun i s => s.setAcc q (i / 2) (i % 2) { Acc.reset with invalid := true })

/-- A logical tile owes a load of the weights of every group placed on it (R196, R197). -/
def State.oweWeights (s : State) (lam : Nat) : State :=
  let gs := (List.range 16).filter (fun g => bitAt (s.reg (0x3810 + g) 4) lam && !s.xarray.loads.any (fun l => l.lam = lam && l.group = g))
  { s with xarray := { s.xarray with loads := s.xarray.loads ++ gs.map (fun g => ⟨lam, g, s.sc⟩) } }

/-- A re-seat ends (R147). A tile placed without a source loads its weights from DRAM. -/
def State.reseatEnd (s : State) (bay : Nat) (r : Reseat) (q : Nat) (rest : List Reseat) : State :=
  let s := if r.source < 272 then s.copyTile r.source q else s.voidBins q
  let s := (s.setTileState q 0 (r.lam % 64) 0).setPlacement r.lam (s.placeEpoch r.lam) (q % 68)
  let s := if r.source < 272 then (s.retireTile r.source r.lam r.cause).faultDone 2 3 r.source r.cause s.sc else s.oweWeights r.lam
  let s := ((s.setReseats bay rest).inc32 0x3000 8 1).fire (0x24 + 8 * bay) q
  (s.showBay bay).startReseat bay 70

/-- RESEAT_COMPLETE (R147): the copy waits for a spill that still runs on the failed tile (R178). -/
def execReseatComplete (bay : Nat) (s : State) : Result :=
  inst (decide (bay < 4))
    (match s.reseatsOf bay with
     | r :: rest =>
       match r.target with
       | some q => if r.source < 272 && (s.tile r.source).spill.isSome then .next s else .next (s.reseatEnd bay r q rest)
       | none => .next s
     | [] => .next s)

/-- A write of 01h to 2200h+g.06 (R151). DESIGN CHOICE (log 53): it is refused while a retest of the tile runs. -/
def cmdRetest (g : Nat) (s : State) : Verdict :=
  accept (s.reg (0x2200 + g) 1 = 2 && !s.xarray.retests.contains g) dState
    { s with xarray := { s.xarray with retests := s.xarray.retests ++ [g] } }

/-- Cancel the non-volatile log records that make a tile FAILED (R151). -/
def cancelTile (g : Nat) (log : List (Nat × NvSlot)) : List (Nat × NvSlot) :=
  log.map (fun p => if p.2.state = 1 && recClass p.2.record = 2 && recInstance p.2.record = g then (p.1, { p.2 with state := 2 }) else p)

/-- The lowest unplaced logical tile of a bay that no re-seat is placing. -/
def State.unplaced (s : State) (bay : Nat) : Option Nat :=
  ((List.range 64).map (fun l => bay * 64 + l)).find? (fun lam => s.placement lam = 0x7F && !(s.reseatsOf bay).any (fun r => r.lam = lam))

/-- RETEST_COMPLETE (R151). -/
def execRetestComplete (tile : Nat) (passed : Bool) (s : State) : Result :=
  inst (decide (tile < 272))
    (if s.xarray.retests.contains tile then
      let bay := tile / 68
      let s := { s with xarray := { s.xarray with retests := s.xarray.retests.filter (fun g => g ≠ tile) } }
      if passed then
        let deferred := s.power.deferred.filter (fun r => !((NvSlot.mk 1 r).keeps && recInstance r = tile))
        let s := { s with nv := { s.nv with log := cancelTile tile s.nv.log }, power := { s.power with deferred := deferred } }
        let s := (s.setTileState tile 1 0xFF 0).showBay bay
        match s.unplaced bay with
        | some lam =>
          let s := s.bumpEpoch lam
          .next ((s.setReseats bay (s.reseatsOf bay ++ [⟨lam, 272, 0, none⟩])).startReseat bay 70)
        | none => .next s
      else .next (s.setReg (0x2200 + tile) 5 6)
     else .next s)

/-! ## Debug window and views (R181, R183) -/

/-- The bin id a slot of a physical tile holds: of the logical tile it serves, or served last (R118, R181). -/
def State.binAt (s : State) (g slot : Nat) : Option Nat :=
  if s.reg (0x2200 + g) 1 = 0 then some (slot * s.board.logicalTiles + g / 68 * 64 + s.reg (0x2200 + g) 2)
  else (s.tile g).was.map (fun lam => slot * s.board.logicalTiles + lam)

/-- A slot of a physical tile holds a split bin. -/
def State.slotSplit (s : State) (g slot : Nat) : Bool := match s.binAt g slot with | some b => s.isSplit b | none => false

/-- The bank tag of R181 as 32 bytes. -/
def bankTag (b : Bank) : Nat :=
  ((((b.bits * 2 ^ 64 + b.firstSc) * 2 ^ 32 + b.peak) * 2 ^ 8 + b.epoch) * 2 ^ 8 + b.k * 32 + ofBool b.sat * 16) * 2 ^ 16

/-- Entries of chapters 4 and 5 that are read from the X-array's state. -/
def xarrayView (s : State) (idx sub : Nat) : Option Nat :=
  if 0x3010 ≤ idx && idx ≤ 0x3013 then
    match sub with
    | 9 => some (s.xarray.orders.filter (fun o => o.bay = idx - 0x3010)).length
    | 0x0F => some (s.jig (idx - 0x3010)).loops.length
    | _ => none
  else if idx = 0x3402 && sub = 3 then
    let bin := s.reg 0x3402 1
    match s.tileOf (bin % s.board.logicalTiles) with
    | some g => some ((s.acc g (bin / s.board.logicalTiles) (s.reg 0x3402 2)).tag (s.isSplit bin))
    | none => some (({ Acc.reset with invalid := true } : Acc).tag false)
  else if idx = 0xF400 && sub = 5 then
    let g := s.reg 0xF400 1
    some ((s.acc g (s.reg 0xF400 2) (s.reg 0xF400 3)).tag (s.slotSplit g (s.reg 0xF400 2)))
  else if idx = 0xF400 && sub = 8 then some (bankTag (nthD Bank.reset (s.tile (s.reg 0xF400 1)).banks (s.reg 0xF400 6)))
  else none

/-- DOMAIN entries of the debug window (R181). -/
def xarrayDomView (s : State) (idx sub : Nat) : Option Bytes :=
  if idx = 0xF400 && sub = 4 then
    let g := s.reg 0xF400 1
    let a := s.acc g (s.reg 0xF400 2) (s.reg 0xF400 3)
    let split := s.slotSplit g (s.reg 0xF400 2)
    let w := if split then 16 else 32
    some ((List.range 4096).flatMap (fun i =>
      let v := a.vals.getD i (0, 0)
      beBytes (w / 8) (ofSigned w v.1) ++ beBytes (w / 8) (ofSigned w v.2)))
  else if idx = 0xF400 && sub = 7 then
    let b := nthD Bank.reset (s.tile (s.reg 0xF400 1)).banks (s.reg 0xF400 6)
    some ((List.range 4096).flatMap (fun i =>
      let v := b.sums.getD i (0, 0)
      beBytes 4 (ofSigned 32 v.1) ++ beBytes 4 (ofSigned 32 v.2)))
  else none

/-! ## Write rules (R141, R152 to R154, R181 to R183) -/

/-- The owning unit of an RWX entry of chapters 4 and 5 is OFF. -/
def xarrayOwnerOff (s : State) (idx : Nat) : Bool :=
  if 0x2110 ≤ idx && idx ≤ 0x2113 then s.reg (0x3010 + (idx - 0x2110)) 2 = stOff
  else s.jigsOff

/-- Bytes of the spill image region of a split_base (R172). -/
def State.imageRegion (s : State) (splitBase : Nat) : Nat := (s.board.bins - splitBase) * 2 * 32768

/-- The refusal a write to an entry of chapters 4 and 5 meets, or 0. -/
def xarrayCheck (s : State) (idx sub v : Nat) : Nat :=
  if 0x2110 ≤ idx && idx ≤ 0x2113 && sub = 0x41 then
    let others := ((List.range 4).filter (fun k => 0x2110 + k ≠ idx)).foldl (fun a k => a + popCount 64 (s.reg (0x2110 + k) 0x41)) 0
    if popCount 64 v ≤ 4 && popCount 64 v + others ≤ 16 then 0 else dRange
  else if idx = 0x3400 then
    match sub with
    | 1 => if v ≤ s.board.bins && s.reg 0x3400 3 + s.imageRegion v ≤ s.protSize then 0 else dRange
    | 3 => if v < s.protSize && v + s.imageRegion (s.reg 0x3400 1) ≤ s.protSize then 0 else dRange
    | _ => 0
  else if idx = 0x3402 then
    match sub with
    | 1 => if v < s.board.bins then 0 else dRange
    | 2 => if v = 1 && !s.isSplit (s.reg 0x3402 1) then dRange else 0
    | _ => 0
  else if idx = 0xF400 then
    if !s.jigsOff then dNotOff
    else match sub with
      | 1 => if v < s.board.bays * 68 then 0 else dRange
      | 3 => if v = 1 && !s.slotSplit (s.reg 0xF400 1) (s.reg 0xF400 2) then dRange else 0
      | _ => 0
  else 0

/-- The refusal a whole cut list meets, or 0 (R152). -/
def cutListCheck (bs : Bytes) : Nat := if bs.length % 16 = 0 && decide (bs.length ≤ 65536) then 0 else dRange

/-- A changed split_base clears the bins whose kind it changes (DESIGN CHOICE, log 25). -/
def xarrayAfter (s : State) (idx sub old : Nat) : State :=
  if idx = 0x3400 && sub = 1 then
    let lo := min old (s.reg 0x3400 1)
    let hi := max old (s.reg 0x3400 1)
    let n := s.board.logicalTiles
    s.each ((List.range (hi - lo)).map (fun i => lo + i)) (fun bin s =>
      match s.tileOf (bin % n) with | some g => s.clearBin g (bin / n) | none => s)
  else s

end Sys2Proof.Machine
end

