-- ==== Sys2Proof/Machine/Outputs.lean ====
section
/-! DEFINITION. Staging of dump records, visibility fragments, the beam formatter, weights and monitor slots (chapter 5, R167 to R169; chapter 6). -/

namespace Sys2Proof.Machine

/-! ## Leaving the dump paths (R169, R187) -/

/-- Bytes of a staging slot (R169). -/
abbrev slotBytes : Nat := 33792

/-- Map the X-array. -/
def State.modX (s : State) (f : XArrayState → XArrayState) : State := { s with xarray := f s.xarray }

/-- The earlier DUMP work orders of a record's Jig on its stream that have not read their bins (R187). -/
def State.dumpsBefore (s : State) (r : DumpRec) : List WorkOrder :=
  s.xarray.orders.filter (fun o => o.bay = r.bay && woOp o.bits = 7 && woStream o.bits = r.stream && decide (o.id < r.order) && o.phase ≠ .done)

/-- Record `e` goes before record `r`: an earlier one of the same Jig on the same stream (R187). -/
def DumpRec.before (e r : DumpRec) : Bool := e.bay = r.bay && e.stream = r.stream && decide (e.order < r.order)

/-- Record `x` waits for record `y` to leave its dump path: `y` goes before it, or holds the path of an earlier DUMP. -/
def State.waitsFor (s : State) (x y : DumpRec) : Bool := y.before x || (s.dumpsBefore x).any (fun o => s.tileOf o.lam = some y.tile)

/-- The records that wait for one of `ys`, directly or through others, and `ys` themselves. -/
def State.waitersOf (s : State) : Nat → List DumpRec → List DumpRec
  | 0, ys => ys
  | fuel + 1, ys => s.waitersOf fuel (ys ++ s.xarray.dumps.filter (fun x => !ys.contains x && ys.any (s.waitsFor x)))

/-- A record waits in its dump path for an earlier record or DUMP of its Jig on its stream (R187). A DUMP whose dump path holds a record that
waits, through others or not, for this one does not hold it back: it would wait for itself (log 30). -/
def State.heldBack (s : State) (r : DumpRec) : Bool :=
  s.xarray.dumps.any (fun e => e.before r) ||
  (s.dumpsBefore r).any (fun o => !((s.waitersOf s.xarray.dumps.length [r]).any (fun x => s.tileOf o.lam = some x.tile)))

/-- A record of a stream is discarded without a slot (R169). -/
def State.discardsDump (s : State) (r : DumpRec) : Bool := s.reg (0x2700 + r.stream) 1 = 0xFF || s.reg 0x3400 5 = 0

/-- The lowest free staging slot. -/
def State.freeSlot (s : State) : Option Nat := (List.range (s.reg 0x3400 5)).find? (fun i => !s.xarray.staged.any (fun r => r.slot = i))

/-- The next record number of an output stream (R168). -/
def State.recordNumber (s : State) (stream : Nat) : Nat := (lookup s.xarray.recno stream).getD 0

/-- Take a record out of its dump path; it gets its record number (R168). A DUMP that waits for that path then reads its bin (R167). -/
def State.leavePath (s : State) (r : DumpRec) (bad : List Nat) : State :=
  let n := s.recordNumber r.stream
  let s := s.modX (fun x => { x with dumps := x.dumps.filter (fun e => e.order ≠ r.order), recno := insertKey x.recno r.stream ((n + 1) % 2 ^ 64) })
  match (s.serves r.tile).bind s.running with
  | some o => if woOp o.bits = 7 then s.dumpRead r.tile o bad else s
  | none => s

/-- The record the arbiter lets leave: the highest class, and within it the rotating pointer over global tile ids (R21, R22, R169). -/
def State.nextDump (s : State) : Option DumpRec :=
  let ready := s.xarray.dumps.filter (fun r => !s.heldBack r)
  match ready.find? s.discardsDump with
  | some r => some r
  | none =>
    let cls := ready.foldl (fun a r => max a r.cls) 0
    let top := ready.filter (fun r => r.cls = cls)
    (rotating 273 (nthD 0 s.xarray.dumpPtr cls) (top.map (fun r => r.tile))).bind (fun p => top.find? (fun r => r.tile = p))

/-- Bytes of 64-bit words, most significant byte first. -/
def wordBytes (ws : List Nat) : Bytes := ws.flatMap (beBytes 8)

/-- The 64-bit words bytes spell. -/
def bytesWords (bs : Bytes) : List Nat := (List.range (bs.length / 8)).map (fun i => field bs (8 * i) 8)

/-- DUMP_RECORD_STAGED (R169). `bad` lists granary words that a DUMP waiting for the freed path finds uncorrectable (R511). -/
def execDumpRecordStaged (bad : List Nat) (s : State) : Result :=
  match s.nextDump with
  | none => .next s
  | some r =>
    if s.discardsDump r then .next ((s.leavePath r bad).inc64 0x3400 0x0D 1)
    else match s.freeSlot with
      | none => .next s
      | some slot =>
        let words := modNth (fun _ => s.recordNumber r.stream) r.words 5
        let s := s.modX (fun x => { x with dumpPtr := modNth (fun _ => (r.tile + 1) % 273) x.dumpPtr r.cls,
                                           staged := x.staged ++ [⟨slot, r.stream, r.cls, words.length⟩] })
        .next ((s.store r.cls (s.reg 0x3400 4 + slot * slotBytes) (wordBytes words)).leavePath r bad)

/-! ## Records read from staging -/

/-- The oldest staged record of a stream. -/
def State.oldestStaged (s : State) (stream : Nat) : Option StagedRec := s.xarray.staged.find? (fun r => r.stream = stream)

/-- Free a staging slot. -/
def State.freeStaged (s : State) (r : StagedRec) : State := s.modX (fun x => { x with staged := x.staged.filter (fun e => e.slot ≠ r.slot) })

/-- The words of a staged record. -/
def State.stagedWords (s : State) (r : StagedRec) : List Nat := bytesWords (s.loadZ (s.reg 0x3400 4 + r.slot * slotBytes) (8 * r.len))

/-- The DRAM reads of a staged record, in the class of its DUMP (R169). -/
def State.readStaged (s : State) (r : StagedRec) : State := s.readRange r.cls (s.reg 0x3400 4 + r.slot * slotBytes) (8 * r.len)

/-- A header word of a record. -/
def recWord (ws : List Nat) (i : Nat) : Nat := ws.getD i 0

/-- The SC under which a record is handled; a record of an unplaced tile has no first_sc and takes the live values (R170, R198). -/
def State.recordSc (s : State) (ws : List Nat) : Nat := if recWord ws 1 = 0 then s.sc else recWord ws 1

/-- The beam group a stream is bound to for a record, and its mode (R198, R199). -/
def State.boundGroup (s : State) (stream sc : Nat) : Option (Nat × Nat) :=
  ((List.range 16).find? (fun g => s.regAt (0x3810 + g) 2 sc = stream && s.regAt (0x3810 + g) 1 sc ≠ 0)).map
    (fun g => (g, s.regAt (0x3810 + g) 1 sc))

/-- What becomes of a record when its turn comes: discarded, waiting, or sent (R79, R169). -/
inductive Turn where
  | discard | wait | send
  deriving DecidableEq, Repr

/-- The turn of a stream (R79, R169). -/
def State.turn (s : State) (stream : Nat) : Turn :=
  let g := s.reg (0x2700 + stream) 1
  if g = 0xFF then .discard else if s.reg (0x2460 + g) 2 = stOn then .send else .wait

/-! ## Fragments (R188 to R192) -/

/-- Indices 64a + b with a ≤ b, in the order of R191. -/
def triangleOrder : List Nat := (List.range 64).flatMap (fun a => (List.range (64 - a)).map (fun j => 64 * a + a + j))

/-- Pack 32-bit values two to a word. -/
def pack32 : List Nat → List Nat
  | a :: b :: rest => (a * 2 ^ 32 + b) :: pack32 rest
  | [a] => [a * 2 ^ 32]
  | [] => []

/-- A record in triangle form (R191). -/
def triangleWords (ws : List Nat) : List Nat :=
  if bitAt (recWord ws 0) 4 then
    ws.take 8 ++ pack32 (triangleOrder.map (fun i => let w := recWord ws (8 + i / 2); if i % 2 = 0 then w / 2 ^ 32 else w % 2 ^ 32))
  else ws.take 8 ++ triangleOrder.map (fun i => recWord ws (8 + i))

/-- A record goes out in triangle form (R191). -/
def State.isTriangle (s : State) (stream : Nat) (ws : List Nat) : Bool :=
  let w0 := recWord ws 0
  bitAt (s.reg 0x3600 1) stream && isCorr (bits w0 15 12) && bits w0 41 35 = bits w0 34 28 && !bitAt w0 5 && !bitAt w0 2

/-- The fragments of a record (R188, R189). -/
def fragments (tri : Bool) (ws : List Nat) : List OutPacket :=
  let l := ws.length
  let n := 1 + (l - 520 + 511) / 512
  (List.range n).map (fun f =>
    let a := if f = 0 then 0 else 520 + 512 * (f - 1)
    let part := (ws.drop a).take (if f = 0 then 520 else 512)
    let w1 := 8 * 2 ^ 60 + f * 2 ^ 57 + (n - 1) * 2 ^ 54 + ofBool tri * 2 ^ 53 + a * 2 ^ 40 + part.length * 2 ^ 30 + recWord ws 5 % 2 ^ 30
    ⟨0, recWord ws 1 :: w1 :: part⟩)

/-- The fragments of a record in the form that its stream has now (R188, R191). -/
def State.formFragments (s : State) (stream : Nat) (ws : List Nat) : List OutPacket :=
  let tri := s.isTriangle stream ws
  fragments tri (if tri then triangleWords ws else ws)

/-- A record begins to leave as fragments: they wait at its stream, and its staging slot stays taken until the last of them has left (R169, R188). -/
def State.sendFragments (s : State) (stream slot : Nat) (ws : List Nat) : State :=
  let ps := s.formFragments stream ws
  s.setStream stream { s.stream stream with ready := ps, slot := some (slot, ps.length) }

/-- tri_streams has been written: a record whose first fragment has not left takes its form anew (R210). -/
def State.reformFragments (s : State) : State :=
  s.each s.sheaf.streams (fun p s =>
    match p.2.slot, p.2.ready with
    | some (slot, _), q :: _ =>
      (match s.xarray.staged.find? (fun r => r.slot = slot) with
       | some r =>
         if bits (nthD 0 q.words 1) 59 57 = 0 then
           let ps := s.formFragments p.1 (s.stagedWords r)
           s.setStream p.1 { s.stream p.1 with ready := ps ++ p.2.ready.filter (fun o => bits (nthD 0 o.words 1) 63 60 ≠ 8), slot := some (slot, ps.length) }
         else s
       | none => s)
    | _, _ => s)

/-- Dovetail takes the records of a stream itself (R254); a registration stream of FFh is none. -/
def State.registrationStream (s : State) (stream : Nat) : Bool := s.reg 0x4400 2 ≠ stOff && s.reg 0x4400 7 = stream && stream ≠ 0xFF

/-- A stream can take what a producer has for it: nothing that was made before waits there for credit or a lane (R59, R79). -/
def State.streamFree (s : State) (stream : Nat) : Bool := (s.stream stream).ready.isEmpty

/-- RECORD_FRAGMENTS_SEND (R169, R188): the oldest record of a stream, unless a beam group takes it, once the stream can take its fragments. -/
def execRecordFragmentsSend (stream : Nat) (s : State) : Result :=
  inst (decide (stream < 256))
    (if s.registrationStream stream then .next s else match s.oldestStaged stream with
     | none => .next s
     | some r =>
       match s.turn stream with
       | .discard => .next ((s.freeStaged r).inc64 0x3400 0x0D 1)
       | .wait => .next s
       | .send =>
         let ws := s.stagedWords r
         if (s.boundGroup stream (s.recordSc ws)).isSome || !s.streamFree stream then .next s else .next ((s.readStaged r).sendFragments stream r.slot ws))

/-! ## Voltage packets (R200, R201) -/

/-- A component at its record's exponent, requantised (R200); the flag tells of a clamp. -/
def requantise (sigma e : Nat) (v : Int) : Int × Bool :=
  let q : Int := if e < sigma then (v + ((2 ^ (sigma - e - 1) : Nat) : Int)) / ((2 ^ (sigma - e) : Nat) : Int) else v * ((2 ^ (e - sigma) : Nat) : Int)
  let c := clampInt (-127) 127 q
  (c, decide (c ≠ q))

/-- The value a binary16 pattern codes, in units of 2^−16 with the factor 2^16 of R192 put back; subnormal and normal numbers only. -/
def half16Value (h : Nat) : Int :=
  let m := h % 1024
  let e := bits h 14 10
  let v : Int := if e = 0 then (m : Int) * 2 ^ 16 else ((1024 + m : Nat) : Int) * 2 ^ (15 + e)
  let v := v / 2 ^ 24
  if bitAt h 15 then -v else v

/-- Long sum `i` of a record, both components (R168, R192). -/
def recordValue (ws : List Nat) (i : Nat) : Cplx :=
  if bitAt (recWord ws 0) 4 then
    let w := recWord ws (8 + i / 2)
    let q := if i % 2 = 0 then w / 2 ^ 32 else w % 2 ^ 32
    (half16Value (q / 65536), half16Value (q % 65536))
  else (toSigned 32 (recWord ws (8 + i) / 2 ^ 32), toSigned 32 (recWord ws (8 + i) % 2 ^ 32))

/-- Flag INVALID of a record. -/
def recInvalid (ws : List Nat) : Bool := bitAt (recWord ws 0) 2

/-- One voltage packet (R201), with the number of components clamped. -/
def voltagePacket (g sigma period part : Nat) (ws : List Nat) : OutPacket × Nat :=
  let w0 := recWord ws 0
  let e := bits (recWord ws 4) 31 27
  let inv := recInvalid ws
  let vals := (List.range 2048).map (fun i =>
    let v := recordValue ws (2048 * part + i)
    if inv then ((-128, false), (-128, false)) else (requantise sigma e v.1, requantise sigma e v.2))
  let clamped := vals.foldl (fun a v => a + ofBool v.1.2 + ofBool v.2.2) 0
  let sc := if inv then 0 else (recWord ws 1 + 32 * part * period) % 2 ^ 64
  let chan := if inv then 0 else bits w0 27 16
  let w1 := 9 * 2 ^ 60 + g * 2 ^ 56 + chan * 2 ^ 44 + part * 2 ^ 43 + ofBool inv * 2 ^ 42 + ofBool (bitAt w0 0 || bitAt w0 1) * 2 ^ 41
    + ofBool (bitAt w0 6) * 2 ^ 40 + bits w0 41 35 * 2 ^ 33 + bits w0 34 28 * 2 ^ 26 + recWord ws 5 % 2 ^ 26
  let w2 := recWord ws 3 % 2 ^ 32 * 2 ^ 32 + min clamped 0xFFFF * 2 ^ 16 + sigma * 2 ^ 8 + e
  let body := (List.range 512).map (fun j => (List.range 4).foldl (fun a m =>
    let v := vals.getD (4 * j + m) ((0, false), (0, false))
    a * 2 ^ 16 + ofSigned 8 v.1.1 * 256 + ofSigned 8 v.2.1) 0)
  (⟨0, sc :: w1 :: w2 :: body⟩, clamped)

/-- A record in a voltage mode (R198, R201). -/
def State.formatVoltage (s : State) (g stream sc : Nat) (ws : List Nat) : State :=
  let pk := fun part => voltagePacket g (s.regAt (0x3810 + g) 6 sc) (s.reg 0x2800 5) part ws
  ((((s.streamPut stream (pk 0).1).streamPut stream (pk 1).1).inc64 0x3800 4 1).inc64 0x3800 6 ((pk 0).2 + (pk 1).2))

/-! ## Power sums (R202, R203, R205) -/

/-- P of a component pair before its clamp (R202). -/
def beamPower (e rho : Nat) (v : Cplx) : Nat := ((v.1 * v.1 + v.2 * v.2).natAbs * 2 ^ (2 * e)) / 2 ^ rho

/-- A record's powers added to an open sum (R202). -/
def PowerSum.add (p : PowerSum) (rho : Nat) (ws : List Nat) : PowerSum :=
  let e := bits (recWord ws 4) 31 27
  let out := (List.range 4096).map (fun i =>
    let q := beamPower e rho (recordValue ws i)
    let t := p.sums.getD i 0 + min q (2 ^ 32 - 1)
    (min t (2 ^ 48 - 1), decide (2 ^ 32 ≤ q) || decide (2 ^ 48 ≤ t)))
  let chan := bits (recWord ws 0) 27 16
  { p with sums := out.map (fun x => x.1), sat := p.sat || out.any (fun x => x.2), chans := if p.chans.contains chan then p.chans else chan :: p.chans }

/-- One power packet (R203). -/
def powerPacket (g lo hi rho quarter : Nat) (isPartial sat : Bool) (p : PowerSum) (vals : List Nat) : OutPacket :=
  let w1 := 0xA * 2 ^ 60 + g * 2 ^ 56 + lo * 2 ^ 44 + hi * 2 ^ 32 + quarter * 2 ^ 30 + ofBool isPartial * 2 ^ 29 + ofBool sat * 2 ^ 28
  ⟨0, (p.firstSc + 16 * quarter * p.period) % 2 ^ 64 :: w1 :: (p.cfgEpoch * 2 ^ 32 + rho * 2 ^ 24) :: pack32 ((vals.drop (1024 * quarter)).take 1024)⟩

/-- The monitor slots that follow a group and hold their Winnow channel. -/
def State.monitorsOf (s : State) (g : Nat) : List Nat := (List.range 64).filter (fun j => s.reg (0x3900 + j) 2 ≠ stOff && s.reg (0x3900 + j) 3 = g)

/-- A closed sum feeds the monitor slots of its group (R205). -/
def State.feedMonitors (s : State) (g : Nat) (p : PowerSum) (vals : List Nat) : State :=
  s.each (s.monitorsOf g) (fun j s =>
    s.each (List.range 64) (fun t s =>
      s.winPush (s.reg (0x3900 + j) 5) ⟨vals.getD (64 * t + s.reg (0x3900 + j) 4) 0, p.firstSc + t * p.period, p.period, false, false⟩))

/-- A sum closes (R202, R203): power packets in mode POWER, and its values to the monitor slots. -/
def State.closePower (s : State) (g : Nat) (p : PowerSum) (isPartial : Bool) : State :=
  let i := 0x3810 + g
  let sc := p.firstSc
  let vals := p.sums.map (fun v => min v (2 ^ 32 - 1))
  let sat := p.sat || p.sums.any (fun v => decide (2 ^ 32 ≤ v))
  let s := s.modX (fun x => { x with power := modNth (fun ps => ps.filter (fun q => q.firstSc ≠ sc)) x.power g })
  let s := if isPartial then s.inc32 0x3800 7 1 else s
  let s := if s.regAt i 1 sc = 2 then
      s.each (List.range 4) (fun q s => s.streamPut (s.regAt i 2 sc) (powerPacket g (s.regAt i 8 sc) (s.regAt i 9 sc) (s.regAt i 7 sc) q isPartial sat p vals))
    else s
  s.feedMonitors g p vals

/-- The open sums of a group, the older first. -/
def State.openSums (s : State) (g : Nat) : List PowerSum :=
  match nthD [] s.xarray.power g with
  | [a, b] => if a.firstSc ≤ b.firstSc then [a, b] else [b, a]
  | ps => ps

/-- Every open sum of a group closes as PARTIAL (R198, R204). -/
def State.closeAll (s : State) (g : Nat) : State := s.each (s.openSums g) (fun p s => s.closePower g p true)

/-- A record contributes to the open sum of its first_sc, which closes once every channel has (R202). -/
def State.contribute (s : State) (g sc : Nat) (ws : List Nat) : State :=
  let i := 0x3810 + g
  let s := s.modX (fun x => { x with power := modNth (fun ps => ps.map (fun p => if p.firstSc = sc then p.add (s.regAt i 7 sc) ws else p)) x.power g })
  match (s.openSums g).find? (fun p => p.firstSc = sc) with
  | some p => if s.regAt i 9 sc + 1 - s.regAt i 8 sc ≤ p.chans.length then s.closePower g p false else s
  | none => s

/-- A record opens a sum; an open one that is not of the two latest first_sc seen closes first (R202). -/
def State.openPower (s : State) (g sc : Nat) (ws : List Nat) : State :=
  let seen := nthD [] s.xarray.powerSeen g
  let seen := if seen.headD 0 < sc then (sc :: seen).take 2 else (seen ++ [sc]).take 2
  let s := s.each ((s.openSums g).filter (fun a => !seen.contains a.firstSc)) (fun a s => s.closePower g a true)
  let p : PowerSum := ⟨sc, [], [], false, recWord ws 3 % 2 ^ 32, s.reg 0x2800 5⟩
  s.modX (fun x => { x with power := modNth (fun ps => ps ++ [p]) x.power g, powerSeen := modNth (fun _ => seen) x.powerSeen g })

/-- A first_sc not seen yet opens a sum when it is later than the ones seen, or fewer than two have been seen (R202). -/
def State.opensSum (s : State) (g sc : Nat) : Bool :=
  let seen := nthD [] s.xarray.powerSeen g
  seen.all (fun x => decide (x < sc)) || (decide (seen.length < 2) && !seen.contains sc)

/-- A record that is neither of an open sum nor opens one: it is late (R202). -/
def State.lateRecord (s : State) (g sc : Nat) (ws : List Nat) : Bool :=
  let chan := bits (recWord ws 0) 27 16
  !recInvalid ws && decide (s.regAt (0x3810 + g) 8 sc ≤ chan) && decide (chan ≤ s.regAt (0x3810 + g) 9 sc)
    && !(s.openSums g).any (fun p => p.firstSc = sc) && !s.opensSum g sc

/-- A record in a power mode (R198, R202). -/
def State.formatPower (s : State) (g sc : Nat) (ws : List Nat) : State :=
  if recInvalid ws then s.closeAll g
  else
    let chan := bits (recWord ws 0) 27 16
    if chan < s.regAt (0x3810 + g) 8 sc || s.regAt (0x3810 + g) 9 sc < chan then s.inc64 0x3800 5 1
    else if (s.openSums g).any (fun p => p.firstSc = sc) then (s.inc64 0x3800 5 1).contribute g sc ws
    else if s.opensSum g sc then ((s.inc64 0x3800 5 1).openPower g sc ws).contribute g sc ws
    else s.inc32 0x3800 8 1

/-- The formatter's action on a record (R198, R199); one that a power mode discards as late is not formatted (R202, R211). -/
def State.formatRecord (s : State) (g mode stream : Nat) (ws : List Nat) : State :=
  let sc := s.recordSc ws
  let w0 := recWord ws 0
  if s.reg 0x3800 2 ≠ stOn || (!recInvalid ws && (bitAt w0 5 || !isBeam (bits w0 15 12))) then s.inc32 0x3800 8 1
  else
    let s := if mode = 2 && s.lateRecord g sc ws then s else s.inc64 (0x3810 + g) 0x0A 1
    let s := if mode = 1 || mode = 3 then s.formatVoltage g stream sc ws else s
    if mode = 2 || mode = 3 then s.formatPower g sc ws else s

/-- FORMAT_RECORD (R198): the oldest record of a bound stream, once the packets of the one before it have left (R59). -/
def execFormatRecord (stream : Nat) (s : State) : Result :=
  inst (decide (stream < 256))
    (if s.registrationStream stream then .next s else match s.oldestStaged stream with
     | none => .next s
     | some r =>
       let ws := s.stagedWords r
       match s.boundGroup stream (s.recordSc ws), s.turn stream with
       | some (g, mode), .send => if s.streamFree stream then .next (((s.readStaged r).formatRecord g mode stream ws).freeStaged r) else .next s
       | some _, .discard => .next ((s.freeStaged r).inc64 0x3400 0x0D 1)
       | _, _ => .next s)

/-- The formatter reaches OFF (R204). -/
def State.formatterTurnsOff (s : State) : State :=
  (s.each (List.range 16) (fun g s => s.closeAll g)).modX (fun x => { x with powerSeen := List.replicate 16 [] })

/-! ## Weights (R195 to R197) -/

/-- The address of the live, or pending, weights of a group (R197). -/
def State.weightAddr (s : State) (g : Nat) (pend : Bool) : Nat := s.reg 0x3800 3 + g * 1048576 + (if pend then 524288 else 0)

/-- Keep weights of a group in their half of its region (R197), in class H (log 55). -/
def State.keepWeights (s : State) (g : Nat) (pend : Bool) (bs : Bytes) : State := if bs.isEmpty then s else s.store clsH (s.weightAddr g pend) bs

/-- Logical tiles of a group's placement. -/
def State.groupTiles (s : State) (g : Nat) : List Nat := setBitsOf 256 (s.reg (0x3810 + g) 4)

/-- The tiles of a group owe a load (R197). -/
def State.oweLoads (s : State) (g sc : Nat) : State := s.modX (fun x => { x with loads := x.loads ++ (s.groupTiles g).map (fun lam => ⟨lam, g, sc⟩) })

/-- New weights of a group become live at `sc` (R197). -/
def State.weightsLive (s : State) (g sc : Nat) : State := (s.keepWeights g false (s.dom (0x3880 + g) 1)).oweLoads g sc

/-- The base of the region moves: the weights in force, and those pending or armed, are kept there (R197). -/
def State.moveWeights (s : State) : State :=
  s.each (List.range 16) (fun g s =>
    let k := key (0x3880 + g) 1
    let staged := match lookup s.dict.pendingSet k, s.dict.armed.bind (fun a => lookup a.2 k) with
      | some w, _ => some w.value
      | none, some w => some w.value
      | none, none => none
    let s := s.keepWeights g false (s.dom (0x3880 + g) 1)
    match staged with | some (.dom bs) => s.keepWeights g true bs | _ => s)

/-- Load the changed slots of a group into tile `p` (R197). -/
def State.loadSlots (s : State) (p g : Nat) : State :=
  let n := (s.dom (0x3880 + g) 1).length / 8192
  let base := s.reg (0x3810 + g) 5
  s.each (List.range n) (fun r s =>
    let slot := base + r
    let block := s.loadZ (s.weightAddr g false + 8192 * r) 8192
    let s := s.readRange clsH (s.weightAddr g false + 8192 * r) 8192
    let old := s.weightSlot p slot
    if (if old.isEmpty then zeroBytes 8192 else old) = block then s
    else (s.modX (fun x => { x with weights := insertKey x.weights (p * 64 + slot) block })).inc64 0x3800 9 1)

/-- WEIGHT_LOAD (R197): once no BEAM pass of an earlier half is uncommitted, a tile loads its changed slots; the held work orders are then free. An
unplaced logical tile goes on owing its load. -/
def execWeightLoad (lam : Nat) (s : State) : Result :=
  inst (decide (lam < 256))
    (match s.xarray.loads.find? (fun l => l.lam = lam) with
     | none => .next s
     | some l =>
       let earlier := fun (o : WorkOrder) => o.lam = lam && isBeam (woOp o.bits) && o.phase ≠ .done &&
         (o.phase ≠ .queued || (match o.half with | some h => decide (h.sc < l.sc) | none => false))
       if s.xarray.orders.any earlier then .next s
       else match s.tileOf lam with
         | some p =>
           if s.fenced p then .next s
           else .next ((s.modX (fun x => { x with loads := x.loads.erase l })).loadSlots p l.group)
         | none => .next s)

/-! ## Monitor slots (R205 to R208, R212) -/

/-- The refusal of a monitor slot's enable, or 0 (R205). -/
def monitorEnableCheck (s : State) (j : Nat) : Nat :=
  let u := s.winUser (s.reg (0x3900 + j) 5)
  if u = 0xFFFF || u = j then 0 else dRule

/-- A slot enters ENABLING: it takes its channel (R319). -/
def State.monitorEnabling (s : State) (j : Nat) : State := s.takeChannel (s.reg (0x3900 + j) 5) j

/-- A slot reaches OFF: it leaves its channel, and a latched enable is tested (R575). -/
def State.monitorOff (s : State) (j : Nat) : State :=
  (s.leaveChannel (s.reg (0x3900 + j) 5)).reachOff (0x3900 + j) 1 (fun s => monitorEnableCheck s j) (fun s => s.monitorEnabling j)

/-- Values taken in HOLDOFF by a slot. -/
def State.setHoldoff (s : State) (j n : Nat) : State := { s with winnow := { s.winnow with holdoff := modNth (fun _ => n) s.winnow.holdoff j } }

/-- A crossing (R206 to R208). -/
def State.crossing (s : State) (j : Nat) (y : WinVal) : State :=
  let i := 0x3900 + j
  let d := (s.delayX2 (s.reg i 5) + 1) / 2
  let sc := ofSigned 64 ((y.sc : Int) - ((d * y.period : Nat) : Int))
  let s := (s.inc32 i 0x0B 1).fireAt (0x40 + j) (s.reg i 3 * 256 + s.reg i 4) sc
  let s := (s.setHoldoff j 0).setReg i 0x0A (if s.reg i 8 = 0 then 2 else 1)
  if s.reg i 9 = 0xFF then s
  else
    let tb := nthD Timebase.reset s.time.tbs 0
    let w1 := 0xB * 2 ^ 60 + j * 2 ^ 54 + s.reg i 3 * 2 ^ 50 + s.reg i 4 * 2 ^ 44 + s.epochAt y.sc * 2 ^ 12
    s.streamPut (s.reg i 9) ⟨0, [sc, w1, y.v * 2 ^ 32 + s.reg i 6, tb.sec * 2 ^ 16, tb.ns * 2 ^ 32]⟩

/-- A value meets a slot that is ON (R206). -/
def State.compareValue (s : State) (j : Nat) (y : WinVal) : State :=
  let i := 0x3900 + j
  let s := s.setReg i 0x0C y.v
  let theta := s.reg i 6
  match s.reg i 0x0A with
  | 0 => if theta < y.v then s.crossing j y else s
  | 1 =>
    let s := if theta < y.v then s.inc32 i 0x0D 1 else s
    let n := nthD 0 s.winnow.holdoff j + 1
    let s := s.setHoldoff j n
    if s.reg i 8 ≤ n then s.setReg i 0x0A 2 else s
  | _ => if y.v ≤ theta - s.reg i 7 then s.setReg i 0x0A 0 else s

/-- A decimated value reaches the slot that uses its channel (R206, R212). -/
def State.monitorValue (s : State) (j : Nat) (y : WinVal) : State :=
  let i := 0x3900 + j
  match s.reg i 2 with
  | 1 => (((s.setReg i 2 stOn).setReg i 0x0A 0).setHoldoff j 0).compareValue j y
  | 2 => s.compareValue j y
  | 3 => s.monitorOff j
  | 4 => s.monitorOff j
  | _ => s

/-- WINNOW_OUTPUT (R206). -/
def execWinnowOutput (s : State) : Result :=
  match s.winnow.outputs with
  | [] => .next s
  | o :: rest =>
    let s := { s with winnow := { s.winnow with outputs := rest } }
    let u := s.winUser o.channel
    .next (if u < 64 then s.monitorValue u o.value else s)

/-! ## Write rules (R196 to R198, R211, R212) -/

/-- The owning unit of an RWX entry of chapter 6 is OFF. -/
def outputsOwnerOff (s : State) (idx : Nat) : Bool :=
  if 0x3900 ≤ idx && idx ≤ 0x393F then s.reg idx 2 = stOff else s.reg 0x3800 2 = stOff

/-- The staged value of an entry in a set. -/
def stagedIn (set : List (Nat × Staged)) (idx sub : Nat) : Option StagedVal := (lookup set (key idx sub)).map (fun x => x.value)

/-- The armed set, empty when there is none. -/
def State.armedSet (s : State) : List (Nat × Staged) := match s.dict.armed with | some a => a.2 | none => []

/-- How a number stands once the armed set is live. -/
def State.armedReg (s : State) (idx sub : Nat) : Nat := match stagedIn s.armedSet idx sub with | some (.num v) => v | _ => s.reg idx sub

/-- Weight blocks of a group: the live ones (stage 0), those once the armed set is live (1), and those once the pending set is too (2). -/
def State.weightBlocks (s : State) : Nat → Nat → Nat
  | 0, g => (s.dom (0x3880 + g) 1).length / 8192
  | n + 1, g =>
    match stagedIn (if n = 0 then s.armedSet else s.dict.pendingSet) (0x3880 + g) 1 with
    | some (.dom b) => b.length / 8192
    | _ => s.weightBlocks n g

/-- One slot of one logical tile would serve two groups (R196). -/
def State.slotsClash (s : State) (len : Nat → Nat) (g tiles base n : Nat) : Bool :=
  decide (0 < n) && (List.range 16).any (fun x => x ≠ g && (s.reg (0x3810 + x) 4 &&& tiles) ≠ 0 && decide (0 < len x) &&
    decide (s.reg (0x3810 + x) 5 < base + n) && decide (base < s.reg (0x3810 + x) 5 + len x))

/-- The refusal that a placement of weights meets, or 0 (R195, R196). -/
def State.weightsCheck (s : State) (len : Nat → Nat) (g tiles base n : Nat) : Nat :=
  if 2 ^ s.board.logicalTiles ≤ tiles || 64 < base + n then dRange else if s.slotsClash len g tiles base n then dRule else 0

/-- The refusal that a new place for a group's weights meets, or 0: it must hold for the live weights and for every set on its way (R196). -/
def State.placeCheck (s : State) (g tiles base : Nat) : Nat :=
  (((List.range 3).map (fun n => s.weightsCheck (s.weightBlocks n) g tiles base (s.weightBlocks n g))).find? (· ≠ 0)).getD 0

/-- A group with a mode and a stream would be bound to a stream that another group is bound to, live, armed or pending (R198). -/
def State.boundTwice (s : State) (eff : Nat → Nat → Nat) (g mode stream : Nat) : Bool :=
  mode ≠ 0 && stream ≠ 0xFF && (List.range 16).any (fun x => x ≠ g &&
    [s.reg, s.armedReg, eff].any (fun get => get (0x3810 + x) 1 ≠ 0 && get (0x3810 + x) 2 = stream))

/-- The refusal a write to an entry of chapter 6 meets, or 0. `eff` reads an entry as it will stand. -/
def outputsCheck (s : State) (eff : Nat → Nat → Nat) (idx sub v : Nat) : Nat :=
  if idx = 0x3800 && sub = 3 then (if v + 16777216 ≤ s.protSize then 0 else dRange)
  else if 0x3810 ≤ idx && idx ≤ 0x381F then
    let g := idx - 0x3810
    match sub with
    | 1 => if s.boundTwice eff g v (eff idx 2) then dRule else 0
    | 2 => if s.boundTwice eff g (eff idx 1) v then dRule else 0
    | 4 => s.placeCheck g v (s.reg idx 5)
    | 5 => s.placeCheck g (s.reg idx 4) v
    | 9 => if v < eff idx 8 then dRange else 0
    | _ => 0
  else if 0x3900 ≤ idx && idx ≤ 0x393F && sub = 9 then
    let g := s.reg (0x2700 + v) 1
    if v = 0xFF || (s.reg (0x2700 + v) 2 = 3 && decide (g < 16) && (s.lanesOf (0x2460 + g)).all (fun n => bitAt (s.reg 0x2400 2) n)) then 0 else dRule
  else 0

/-- The refusal whole weights meet, or 0 (R195, R196). -/
def outputsDomCheck (s : State) (idx : Nat) (bs : Bytes) : Nat :=
  let g := idx - 0x3880
  if bs.length % 8192 ≠ 0 then dRange else s.weightsCheck (s.weightBlocks 2) g (s.reg (0x3810 + g) 4) (s.reg (0x3810 + g) 5) (bs.length / 8192)

/-- What a write of chapter 6 does beside storing its value (R196, R197, R210). -/
def outputsAfter (s : State) (idx sub : Nat) : State :=
  if idx = 0x3600 && sub = 1 then s.reformFragments
  else if idx = 0x3800 && sub = 3 then s.moveWeights
  else if 0x3810 ≤ idx && idx ≤ 0x381F && (sub = 4 || sub = 5) then s.oweLoads (idx - 0x3810) 0
  else s

end Sys2Proof.Machine
end

