-- ==== Sys2Proof/Machine/Taps.lean ====
section
/-! DEFINITION. The default tap table of R250: row p holds taps 0 to 15 of phase p, worked out from the formula of R250 with 60 decimal digits. -/

namespace Sys2Proof.Machine

/-- Phases 0 to 15. -/
def taps0 : List (List Int) :=
  [ [0, 0, 0, 0, 0, 0, 0, 16384, 0, 0, 0, 0, 0, 0, 0, 0],
    [-4, 10, -19, 35, -61, 110, -243, 16378, 251, -112, 62, -36, 20, -10, 4, -1],
    [-8, 19, -38, 69, -121, 217, -478, 16359, 511, -226, 125, -72, 40, -20, 9, -2],
    [-12, 28, -57, 103, -180, 322, -704, 16329, 778, -342, 189, -109, 60, -30, 13, -4],
    [-16, 37, -75, 136, -237, 424, -921, 16282, 1053, -460, 254, -146, 81, -41, 18, -5],
    [-19, 46, -92, 168, -293, 523, -1129, 16223, 1335, -579, 319, -183, 102, -52, 22, -7],
    [-22, 54, -109, 198, -346, 619, -1328, 16149, 1624, -699, 385, -221, 123, -62, 27, -8],
    [-26, 62, -125, 228, -399, 712, -1518, 16064, 1920, -819, 450, -258, 144, -73, 32, -10],
    [-29, 70, -141, 257, -449, 801, -1698, 15965, 2222, -941, 516, -296, 165, -84, 37, -11],
    [-31, 77, -156, 285, -497, 886, -1869, 15853, 2530, -1062, 582, -334, 186, -95, 42, -13],
    [-34, 84, -170, 311, -544, 967, -2030, 15730, 2844, -1183, 647, -371, 207, -106, 46, -14],
    [-37, 90, -184, 336, -588, 1045, -2182, 15595, 3163, -1304, 712, -408, 228, -117, 51, -16],
    [-39, 96, -196, 360, -630, 1118, -2324, 15447, 3487, -1425, 776, -445, 249, -128, 56, -18],
    [-41, 102, -208, 383, -669, 1188, -2456, 15284, 3816, -1544, 840, -482, 269, -139, 61, -20],
    [-43, 107, -220, 404, -707, 1253, -2579, 15113, 4149, -1662, 902, -518, 290, -150, 66, -21],
    [-45, 112, -230, 424, -742, 1314, -2692, 14930, 4485, -1779, 963, -553, 309, -160, 71, -23] ]

/-- Phases 16 to 31. -/
def taps1 : List (List Int) :=
  [ [-46, 117, -240, 442, -774, 1370, -2795, 14732, 4825, -1893, 1023, -587, 329, -170, 76, -25],
    [-48, 121, -249, 459, -805, 1423, -2889, 14528, 5168, -2006, 1082, -621, 348, -181, 81, -27],
    [-49, 125, -257, 475, -832, 1470, -2973, 14307, 5514, -2116, 1139, -653, 367, -191, 86, -28],
    [-50, 128, -264, 489, -857, 1513, -3048, 14082, 5861, -2223, 1194, -685, 384, -200, 90, -30],
    [-51, 131, -271, 502, -880, 1552, -3113, 13844, 6210, -2327, 1247, -715, 402, -210, 95, -32],
    [-51, 133, -277, 513, -900, 1586, -3169, 13597, 6561, -2427, 1298, -744, 418, -219, 99, -34],
    [-52, 135, -281, 523, -917, 1616, -3216, 13339, 6911, -2524, 1347, -772, 434, -227, 103, -35],
    [-52, 137, -285, 531, -932, 1641, -3254, 13075, 7262, -2617, 1393, -798, 449, -236, 107, -37],
    [-52, 138, -289, 538, -944, 1662, -3283, 12799, 7613, -2705, 1436, -822, 464, -243, 111, -39],
    [-52, 139, -291, 543, -954, 1678, -3303, 12516, 7963, -2788, 1477, -845, 477, -251, 115, -40],
    [-52, 139, -293, 547, -962, 1690, -3315, 12229, 8312, -2867, 1515, -867, 489, -258, 119, -42],
    [-52, 139, -294, 549, -966, 1697, -3318, 11931, 8659, -2940, 1549, -886, 501, -264, 122, -43],
    [-52, 139, -294, 550, -969, 1700, -3313, 11628, 9004, -3008, 1581, -904, 511, -270, 125, -44],
    [-51, 138, -293, 550, -969, 1699, -3300, 11317, 9346, -3069, 1609, -920, 520, -275, 128, -46],
    [-51, 137, -292, 548, -966, 1694, -3279, 11002, 9685, -3125, 1633, -933, 528, -280, 130, -47],
    [-50, 136, -290, 545, -961, 1684, -3251, 10680, 10021, -3174, 1654, -945, 535, -284, 132, -48] ]

/-- Phases 32 to 47. -/
def taps2 : List (List Int) :=
  [ [-49, 134, -287, 541, -954, 1671, -3216, 10352, 10352, -3216, 1671, -954, 541, -287, 134, -49],
    [-48, 132, -284, 535, -945, 1654, -3174, 10021, 10680, -3251, 1684, -961, 545, -290, 136, -50],
    [-47, 130, -280, 528, -933, 1633, -3125, 9685, 11002, -3279, 1694, -966, 548, -292, 137, -51],
    [-46, 128, -275, 520, -920, 1609, -3069, 9346, 11317, -3300, 1699, -969, 550, -293, 138, -51],
    [-44, 125, -270, 511, -904, 1581, -3008, 9004, 11628, -3313, 1700, -969, 550, -294, 139, -52],
    [-43, 122, -264, 501, -886, 1549, -2940, 8659, 11931, -3318, 1697, -966, 549, -294, 139, -52],
    [-42, 119, -258, 489, -867, 1515, -2867, 8312, 12229, -3315, 1690, -962, 547, -293, 139, -52],
    [-40, 115, -251, 477, -845, 1477, -2788, 7963, 12516, -3303, 1678, -954, 543, -291, 139, -52],
    [-39, 111, -243, 464, -822, 1436, -2705, 7613, 12799, -3283, 1662, -944, 538, -289, 138, -52],
    [-37, 107, -236, 449, -798, 1393, -2617, 7262, 13075, -3254, 1641, -932, 531, -285, 137, -52],
    [-35, 103, -227, 434, -772, 1347, -2524, 6911, 13339, -3216, 1616, -917, 523, -281, 135, -52],
    [-34, 99, -219, 418, -744, 1298, -2427, 6561, 13597, -3169, 1586, -900, 513, -277, 133, -51],
    [-32, 95, -210, 402, -715, 1247, -2327, 6210, 13844, -3113, 1552, -880, 502, -271, 131, -51],
    [-30, 90, -200, 384, -685, 1194, -2223, 5861, 14082, -3048, 1513, -857, 489, -264, 128, -50],
    [-28, 86, -191, 367, -653, 1139, -2116, 5514, 14307, -2973, 1470, -832, 475, -257, 125, -49],
    [-27, 81, -181, 348, -621, 1082, -2006, 5168, 14528, -2889, 1423, -805, 459, -249, 121, -48] ]

/-- Phases 48 to 63. -/
def taps3 : List (List Int) :=
  [ [-25, 76, -170, 329, -587, 1023, -1893, 4825, 14732, -2795, 1370, -774, 442, -240, 117, -46],
    [-23, 71, -160, 309, -553, 963, -1779, 4485, 14930, -2692, 1314, -742, 424, -230, 112, -45],
    [-21, 66, -150, 290, -518, 902, -1662, 4149, 15113, -2579, 1253, -707, 404, -220, 107, -43],
    [-20, 61, -139, 269, -482, 840, -1544, 3816, 15284, -2456, 1188, -669, 383, -208, 102, -41],
    [-18, 56, -128, 249, -445, 776, -1425, 3487, 15447, -2324, 1118, -630, 360, -196, 96, -39],
    [-16, 51, -117, 228, -408, 712, -1304, 3163, 15595, -2182, 1045, -588, 336, -184, 90, -37],
    [-14, 46, -106, 207, -371, 647, -1183, 2844, 15730, -2030, 967, -544, 311, -170, 84, -34],
    [-13, 42, -95, 186, -334, 582, -1062, 2530, 15853, -1869, 886, -497, 285, -156, 77, -31],
    [-11, 37, -84, 165, -296, 516, -941, 2222, 15965, -1698, 801, -449, 257, -141, 70, -29],
    [-10, 32, -73, 144, -258, 450, -819, 1920, 16064, -1518, 712, -399, 228, -125, 62, -26],
    [-8, 27, -62, 123, -221, 385, -699, 1624, 16149, -1328, 619, -346, 198, -109, 54, -22],
    [-7, 22, -52, 102, -183, 319, -579, 1335, 16223, -1129, 523, -293, 168, -92, 46, -19],
    [-5, 18, -41, 81, -146, 254, -460, 1053, 16282, -921, 424, -237, 136, -75, 37, -16],
    [-4, 13, -30, 60, -109, 189, -342, 778, 16329, -704, 322, -180, 103, -57, 28, -12],
    [-2, 9, -20, 40, -72, 125, -226, 511, 16359, -478, 217, -121, 69, -38, 19, -8],
    [-1, 4, -10, 20, -36, 62, -112, 251, 16378, -243, 110, -61, 35, -19, 10, -4] ]

/-- The default tap table (R250). -/
def defaultTaps : List (List Int) := taps0 ++ taps1 ++ taps2 ++ taps3

/-- The default table as it reads (R250). -/
def defaultTapBytes : Bytes := defaultTaps.flatMap (fun r => r.flatMap (fun h => beBytes 2 (ofSigned 16 h)))

end Sys2Proof.Machine
end

