-- ==== Sys2Proof/Machine/Dovetail.lean ====
section
/-! DEFINITION. Dovetail: line FIFOs, stitching, registration and the frame store (chapter 8, R244 to R258; chapter 7, R236 to R238),
with the line clock and stage B commands that drive it. -/

namespace Sys2Proof.Machine

/-! ## Slots (R244 to R246) -/

/-- Map Dovetail. -/
def State.modDove (s : State) (f : DoveState → DoveState) : State := { s with insp := { s.insp with dove := f s.insp.dove } }

/-- Dovetail beside its entries. -/
def State.dove (s : State) : DoveState := s.insp.dove

/-- The camera of slot `k`. -/
def State.slotCam (s : State) (k : Nat) : Nat := s.reg (0x4410 + k) 1

/-- The slots in use (R244). -/
def State.slots (s : State) : List Nat := (List.range 16).takeWhile (fun k => s.slotCam k ≠ 0xFF)

/-- W_s (R244). -/
def State.stitchWidth (s : State) : Nat := match s.slots.getLast? with | some k => s.reg (0x4410 + k) 3 + 1 | none => 0

/-- W_s as it is in force: fixed while Dovetail is not OFF (R244). -/
def State.widthNow (s : State) : Nat := if s.reg 0x4400 2 = stOff then s.stitchWidth else s.reg 0x4400 3

/-- Planes stitched (R246). -/
def State.planesNow (s : State) : Nat := if s.slots.any (fun k => s.dual (s.slotCam k)) then 4 else 1

/-- The slots meet the geometry of R244. -/
def State.geometryOk (s : State) : Bool :=
  let ks := s.slots
  let cams := ks.map s.slotCam
  let w := s.stitchWidth
  !ks.isEmpty && s.reg 0x4410 2 = 0 && ks.all (fun k => k + 1 = ks.length || s.reg (0x4410 + k + 1) 2 = s.reg (0x4410 + k) 3 + 1)
    && w % 64 = 0 && decide (w ≤ s.reg 0x4400 4) && decide cams.Nodup

/-- The refusal of a Dovetail enable, or 0 (R236, R244, R254). -/
def doveEnableCheck (s : State) : Nat :=
  let st := s.reg 0x4400 7
  let fits := s.reg 0x4000 2 = stOff || s.reg 0x4000 0x0E = 0 || decide (s.slotBytesFor s.stitchWidth (s.reg 0x4000 0x0F) ≤ s.insp.front.slotSize)
  if s.geometryOk && fits && (decide (s.slots.length < 2) || (st ≠ 0xFF && s.reg (0x2700 + st) 1 ≠ 0xFF)) then 0 else dRule

/-- Dovetail enters ENABLING: the width is fixed, the corrections start at 0 (R244, R258). -/
def State.doveEnabling (s : State) : State :=
  let s := s.setReg 0x4400 3 s.stitchWidth
  (s.each (List.range 16) (fun k s => (s.setReg (0x4410 + k) 6 0).setReg (0x4410 + k) 7 0)).modDove (fun _ => DoveState.reset)

/-- Sums from the first element on, each with those before it. -/
def runningSums : Int → List Int → List Int
  | _, [] => []
  | a, x :: xs => (a + x) :: runningSums (a + x) xs

/-- Positions and line advances at a frame boundary, before the clamp (R245). -/
def State.slotGeometry (s : State) : List Int × List Int :=
  let ks := s.slots
  let corr := fun sub w (k : Nat) => if k = 0 then 0 else s.sreg w (0x4410 + k) sub
  let cp := runningSums 0 (ks.map (corr 6 32))
  let cl := runningSums 0 (ks.map (corr 7 16))
  (ks.map (fun k => s.sreg 32 (0x4410 + k) 4 + cp.getD k 0), ks.map (fun k => (s.reg (0x4410 + k) 5 : Int) + cl.getD k 0))

/-- Corrections that apply at the first line of frame `f` (R257, R258). -/
def State.applyCorr (s : State) (f : Nat) : State :=
  let us := s.dove.updates.filter (fun u => decide (u.frame ≤ f))
  let s := s.each (us.filter (fun u => !u.clear) ++ us.filter (fun u => u.clear)) (fun u s =>
    (s.setReg (0x4410 + u.slot) 6 (ofSigned 32 u.pos)).setReg (0x4410 + u.slot) 7 (ofSigned 16 u.line))
  s.modDove (fun d => { d with updates := d.updates.filter (fun u => decide (f < u.frame)) })

/-- A frame boundary of Dovetail (R245, R248). `first` marks the first frame of a run. -/
def State.doveBoundary (s : State) (f : Nat) (first : Bool) : State :=
  let s := s.applyCorr f
  let g := s.slotGeometry
  s.each s.slots (fun k s =>
    let i := 0x4410 + k
    let a := clampInt 0 255 (g.2.getD k 0)
    let old : Int := s.reg i 9
    let s := if a ≠ g.2.getD k 0 then s.inc32 0x4400 0x18 1 else s
    let s := if first then s else if old < a then s.inc32 0x4400 0x16 (a - old).toNat else s.inc32 0x4400 0x17 (old - a).toNat
    (s.setReg i 8 (ofSigned 32 (g.1.getD k 0))).setReg i 9 a.toNat)

/-! ## Line FIFOs (R247) -/

/-- Bytes of a FIFO line (R247). -/
abbrev fifoLineBytes : Nat := 262144

/-- The address of a camera line in its FIFO (R247). -/
def State.fifoAddr (s : State) (c l : Nat) : Nat := s.reg 0x4400 6 + (c * 256 + l % 256) * fifoLineBytes

/-- U16 values from bytes. -/
def u16s (bs : Bytes) : List Nat := (List.range (bs.length / 2)).map (fun i => field bs (2 * i) 2)

/-- Plane `q` of a camera line in the FIFO. -/
def State.fifoPlane (s : State) (c l q : Nat) : List Nat := u16s (s.loadZ (s.fifoAddr c l + 2 * s.camWidth c * q) (2 * s.camWidth c))

/-- What a camera line carries, while the FIFO holds it. -/
def State.fifoLine (s : State) (c l : Nat) : Option FifoLine := ((s.cam c).fifo.take 256).find? (fun x => x.line = l)

/-- A camera supplies its line `m`: it is ON, or completing its last frame, and `m` lies in its run (R247). -/
def State.supplies (s : State) (c m : Nat) : Bool :=
  let x := s.cam c
  let st := s.reg (0x4010 + c) 2
  (st = stOn || st = stDisabling || st = stPending) && (match x.firstLine with | some a => decide (a ≤ m) | none => false)
    && (match x.lastLine with | some b => decide (m ≤ b) | none => true)

/-- An output line that registration may still read (R253): the FIFO's 256, and as many before them. -/
def State.regFifoLine (s : State) (c l : Nat) : Option FifoLine := (s.cam c).fifo.find? (fun x => x.line = l)

/-- Enter an output line in its FIFO, in class H (R247). -/
def State.fifoPut (s : State) (c : Nat) (x : FifoLine) (planes : List (List Nat)) : State :=
  (s.store clsH (s.fifoAddr c x.line) (planes.flatten.flatMap (beBytes 2))).modCam c (fun y => { y with fifo := (x :: y.fifo).take 512 })

/-! ## Registration records (R252, R253) -/

/-- The lines of a registration window (R252). -/
def State.regSlen (s : State) : Nat := 256 * 2 ^ s.reg 0x4400 8

/-- A camera line that registration may use. -/
def FifoLine.clean (x : FifoLine) : Bool := !(x.isPartial || x.missing || x.genMismatch || x.splitGen)

/-- A rounded, clamped gradient (R253). -/
def regGradient (q : Nat) (g : Int) : Nat :=
  let v := if q = 0 then g else (g + ((2 ^ (q - 1) : Nat) : Int)) / ((2 ^ q : Nat) : Int)
  ofSigned 4 (clampInt (-7) 7 v)

/-- The 64 samples of camera line `m` about a seam, for a slot at `pos` (R253). -/
def State.regSamples (s : State) (c m q : Nat) (pos : Int) (seam : Nat) : Bytes :=
  let w := s.camWidth c
  match s.regFifoLine c m, (if m = 0 then none else s.regFifoLine c (m - 1)) with
  | some a, some b =>
    if a.clean && b.clean then
      let y := a.y
      let z := b.y
      (List.range 64).map (fun (i : Nat) =>
        let sx : Int := (64 * ((seam : Int) - 32 + (i : Int)) - pos + 32) / 64
        if sx - 1 < 0 || (w : Int) - 1 < sx + 1 then 0x88
        else
          let x := sx.toNat
          let gx : Int := (y.getD (x + 1) 0 : Int) - y.getD (x - 1) 0
          let gy : Int := (y.getD x 0 : Int) - z.getD x 0
          BitVec.ofNat 8 (regGradient q gx * 16 + regGradient q gy))
    else List.replicate 64 0x88
  | _, _ => List.replicate 64 0x88

/-- Bytes of a registration record's place (R253). -/
abbrev regRecordBytes : Nat := 2097152

/-- Camera line `m` of slot `k` enters the records of the round (R253). -/
def State.regLine (s : State) (r : Round) (k m : Nat) : State :=
  let c := s.slotCam k
  let q := s.regAt 0x4400 0x0A (s.frameSc r.frame)
  let base := s.reg 0x3000 3
  let t0 : Int := (m : Int) - r.l0 - (r.adv.getD k 0 : Int)
  let put := fun (s : State) p j (t : Int) (bs : Bytes) =>
    if 0 ≤ t && t < r.slen then s.store clsH (base + p * regRecordBytes + j * 64 * r.slen + 64 * t.toNat) bs else s
  let s := if k + 1 < s.slots.length then put s k 0 t0 (s.regSamples c m q (r.pos.getD k 0) (s.reg (0x4410 + k + 1) 2)) else s
  if k = 0 then s
  else
    let bs := s.regSamples c m q (r.pos.getD k 0) (s.reg (0x4410 + k) 2)
    s.each ((List.range 31).map (· + 1)) (fun j s => put s (k - 1) j (t0 - j + 16) bs)

/-- The last camera line of slot `k` that a round uses (R253). -/
def Round.lastFor (r : Round) (k : Nat) : Nat := r.l0 + r.slen - 1 + r.adv.getD k 0 + (if k = 0 then 0 else 15)

/-- A round starts at stitched line `l0` of frame `f`, or the frame has none (R252). Samples no line gives stay flagged. -/
def State.roundStart (s : State) (f l0 : Nat) : State :=
  let ks := s.slots
  if ks.length < 2 then s
  else if (match s.dove.round with | some r => !r.complete | none => false) then
    (s.each ks.tail (fun k s => s.inc32 (0x4410 + k) 0x0A 1)).inc32 0x4400 0x13 1
  else
    let slen := s.regSlen
    let r : Round := { frame := f, l0 := l0, slen := slen, copied := 0, start := ks.map (fun k => (s.sreg 32 (0x4410 + k) 6, s.sreg 16 (0x4410 + k) 7)),
                       pos := ks.map (fun k => s.sreg 32 (0x4410 + k) 8), adv := ks.map (fun k => s.reg (0x4410 + k) 9), passed := [],
                       written := false, complete := false, ovr := false }
    let s := (s.inc64 0x4400 0x12 1).modDove (fun d => { d with round := some r })
    let s := s.each (List.range (ks.length - 1)) (fun p s => s.store clsH (s.reg 0x3000 3 + p * regRecordBytes) (List.replicate (32 * 64 * slen) 0x88))
    s.each ks (fun k s =>
      let x := s.cam (s.slotCam k)
      s.each ((x.fifo.map (fun y => y.line)).reverse) (fun m s => s.regLine r k m))

/-- A camera line that has left stage B enters the round in hand. -/
def State.regFeed (s : State) (c m : Nat) : State :=
  match s.dove.round with
  | some r => if r.written then s else s.each (s.slots.filter (fun k => s.slotCam k = c)) (fun k s => s.regLine r k m)
  | none => s

/-- STAGE_B_LINE (R221, R224, R234, R247): the next output line of a camera, when it is that camera's turn (R21) among those whose rows have closed. -/
def execStageBLine (camera : Nat) (s : State) : Result :=
  inst (decide (camera < 16))
    (if s.stageBCam = some camera then
      let o := (s.modFront (fun x => { x with ptrB := (camera + 1) % 16 })).stageB camera
      .next (if s.reg 0x4400 2 = stOff then o.s else (o.s.fifoPut camera o.info o.planes).regFeed camera o.info.line)
    else .next s)

/-- REG_READY (R253): every line the round uses has left stage B. -/
def execRegReady (s : State) : Result :=
  match s.dove.round with
  | some r =>
    let done := s.slots.all (fun k => let c := s.slotCam k; !s.supplies c (r.lastFor k) || decide (r.lastFor k < (s.cam c).nextOut))
    if !r.written && done then .next ((s.modDove (fun d => { d with round := some { r with written := true } })).fire 0x82 r.frame) else .next s
  | none => .next s

/-- The round header (R255). -/
def State.roundHeader (s : State) (r : Round) : Bytes :=
  let sc := match s.edgeOf r.l0 with | some e => e.sc | none => 0
  beBytes 4 (r.frame % 2 ^ 32) ++ [BitVec.ofNat 8 (s.slots.length - 1), BitVec.ofNat 8 (s.reg 0x4400 8), 0, 0] ++ beBytes 8 sc ++ zeroBytes 48

/-- A record of the round has been copied (R255). -/
def State.regCopied (s : State) : State :=
  match s.dove.round with
  | some r =>
    let r := { r with copied := r.copied + 1 }
    let whole := decide ((s.slots.length - 1) * 31 ≤ r.copied) && !r.complete
    let s := s.modDove (fun d => { d with round := some { r with complete := r.complete || whole } })
    if whole then (s.store clsH (s.reg 0x4400 0x0B) (s.roundHeader r)).fire 0x83 r.frame else s
  | none => s

/-- REG_RECORD_TAKE (R255); a registration stream of FFh is none (R254). -/
def execRegRecordTake (s : State) : Result :=
  if s.reg 0x4400 2 = stOff || s.reg 0x4400 7 = 0xFF then .next s
  else match s.oldestStaged (s.reg 0x4400 7) with
    | none => .next s
    | some x =>
      let ws := s.stagedWords x
      let w0 := recWord ws 0
      let r := bits w0 27 16
      let b := bits w0 34 28
      let s := (s.readStaged x).freeStaged x
      if bits w0 15 12 = 5 && r + 1 < s.slots.length && bits w0 41 35 = 0 && 1 ≤ b && b ≤ 31 then
        .next (s.store clsH (s.reg 0x4400 0x0B + 65536 + (32 * r + b) * 33792) (wordBytes ws)).regCopied
      else .next (s.inc32 0x4400 0x15 1)

/-! ## Updates (R256 to R258) -/

/-- Pair `p` of an update block passes (R257). -/
def State.pairPasses (s : State) (blk : Bytes) (p : Nat) : Bool :=
  let o := 16 + 16 * p
  let q1 := field blk (o + 6) 4
  let q2 := field blk (o + 10) 4
  field blk (o + 14) 1 = 0 && decide (s.reg 0x4400 0x0D ≤ q1) && decide (s.reg 0x4400 0x0E * q2 ≤ 16 * q1)
    && decide ((toSigned 32 (field blk o 4)).natAbs ≤ s.reg 0x4400 0x0F) && decide ((toSigned 16 (field blk (o + 4) 2)).natAbs ≤ s.reg 0x4400 0x10)

/-- A read that counts: passing pairs replace what they had set for the coming boundary (R257). -/
def State.takeUpdate (s : State) (r : Round) (blk : Bytes) : State :=
  s.each ((List.range (s.slots.length - 1)).filter (s.pairPasses blk)) (fun p s =>
    let k := p + 1
    let st := r.start.getD k (0, 0)
    let u : CorrUpdate := ⟨r.frame + 1, k, st.1 + toSigned 32 (field blk (16 + 16 * p) 4), st.2 + toSigned 16 (field blk (20 + 16 * p) 2), false⟩
    s.modDove (fun d => { d with updates := d.updates.filter (fun v => v.clear || v.slot ≠ k) ++ [u],
                                 round := d.round.map (fun x => { x with passed := if x.passed.contains k then x.passed else k :: x.passed }) }))

/-- An event at dove.shift (R257). -/
def State.doveShift (s : State) : State :=
  if s.reg 0x4400 2 = stOff then s
  else
    let blk := s.loadZ (s.reg 0x4400 0x0C) 256
    let f := field blk 0 4
    let s := s.readRange clsH (s.reg 0x4400 0x0C) 256
    let late := (s.inc32 0x4400 0x14 1).fire 0x84 f
    match s.dove.round, s.latestEdge with
    | some r, some e => if r.complete && f = r.frame % 2 ^ 32 && e.index < (r.frame + 1) * s.frameLen then s.takeUpdate r blk else late
    | _, _ => late

/-- DOVE_SHIFT (R257): Dovetail takes the event at its input. -/
def execDoveShift (s : State) : Result :=
  match s.held 0x311 with | some _ => .next (s.takeInput 0x311).doveShift | none => .next s

/-- A write of 01h to 4410h+k.0B (R258). -/
def cmdClearCorr (k : Nat) (s : State) : Verdict :=
  let f := match s.latestEdge with | some e => e.index / s.frameLen + 1 | none => 0
  accept (k ≠ 0 && s.slots.contains k) dRule (s.modDove (fun d => { d with updates := d.updates ++ [⟨f, k, 0, 0, true⟩] }))

/-- The reads of a round end at the boundary of the next frame: pairs that passed in none count (R257). -/
def State.roundBoundary (s : State) (f : Nat) : State :=
  match s.dove.round with
  | some r =>
    if r.frame < f && !r.ovr then
      (s.each (s.slots.tail.filter (fun k => !r.passed.contains k)) (fun k s => s.inc32 (0x4410 + k) 0x0A 1)).modDove
        (fun d => { d with round := some { r with ovr := true } })
    else s
  | none => s

/-! ## The frame store (R236 to R238) -/

/-- Slots of the frame store in a state. -/
def State.slotsIn (s : State) (st : Nat) : List Nat := (List.range (s.reg 0x4000 0x0E)).filter (fun k => s.reg (0x40C0 + k) 1 = st)

/-- The slot the frame store takes for a frame: the lowest FREE one, else the FILLED one of the oldest frame (R238). -/
def State.chooseSlot (s : State) : Option Nat :=
  match s.slotsIn 0 with
  | k :: _ => some k
  | [] => (s.slotsIn 2).foldl (fun b k => match b with | some j => if s.reg (0x40C0 + k) 3 < s.reg (0x40C0 + j) 3 then some k else b | none => some k) none

/-- A frame begins in the frame store (R238). -/
def State.frameOpen (s : State) (f sc : Nat) : State :=
  if s.reg 0x4000 0x0E = 0 then s.modFront (fun x => { x with writing := none })
  else match s.chooseSlot with
    | some k =>
      let i := 0x40C0 + k
      ((((s.setReg i 1 1).setReg i 2 (f % 2 ^ 32)).setReg i 3 sc).setReg i 6 0).modFront (fun x => { x with writing := some (k, f) })
    | none => ((s.inc32 0x4001 9 1).fire 0x81 f).modFront (fun x => { x with writing := none })

/-- Pixels of a stored line (R236). -/
def storedPixels (format : Nat) (planes : List (List Nat)) : Bytes :=
  let y := nthD [] planes 0
  let rgb := fun q => if planes.length = 4 then nthD [] planes (q + 1) else y
  match format with
  | 0 => y.flatMap (beBytes 2)
  | 1 => y.map (fun v => BitVec.ofNat 8 (toY8 v))
  | 2 => (List.range y.length).flatMap (fun x => (List.range 3).map (fun q => BitVec.ofNat 8 (toY8 ((rgb q).getD x 0))))
  | _ => (List.range y.length).flatMap (fun x => (List.range 3).flatMap (fun q => beBytes 2 ((rgb q).getD x 0)))

/-- What each slot supplied for a stitched line: camera, and its line when it supplied one. -/
abbrev Supply := List (Nat × Option FifoLine)

/-- One bit for each camera. -/
def cameraBits (sup : Supply) (p : FifoLine → Bool) : Nat :=
  sup.foldl (fun a x => a + (match x.2 with | some y => if p y then 2 ^ x.1 else 0 | none => 0)) 0

/-- The line record of a stitched line (R237, R251). -/
def State.lineRecord (s : State) (e : EdgeRec) (sup : Supply) : Bytes :=
  let f := e.index / s.frameLen
  beBytes 8 e.index ++ beBytes 8 e.sc ++ beBytes 10 e.tb0 ++ zeroBytes 2 ++ beBytes 8 (ofSigned 64 e.position) ++ beBytes 4 (f % 2 ^ 32)
    ++ beBytes 4 (s.genFor f) ++ beBytes 4 (s.epochAt (s.frameSc f)) ++ beBytes 2 (cameraBits sup (fun x => x.isPartial || x.missing))
    ++ beBytes 2 (cameraBits sup (fun x => x.genMismatch)) ++ beBytes 2 (cameraBits sup (fun x => x.splitGen)) ++ beBytes 2 (cameraBits sup (fun _ => true)) ++ zeroBytes 8

/-- A stitched line is written to its slot (R236). -/
def State.frameLine (s : State) (e : EdgeRec) (sup : Supply) (planes : List (List Nat)) : State :=
  match s.insp.front.writing with
  | none => s
  | some (k, f) =>
    let fmt := s.lineReg e.index 0x4000 0x0F
    let w := s.reg 0x4400 3
    let a := s.reg 0x4000 0x0D + k * s.slotBytesFor w fmt + (e.index - f * s.frameLen) * linePitch w fmt
    (s.store clsH a (padTo 64 (s.lineRecord e sup ++ storedPixels fmt planes))).setReg (0x40C0 + k) 6 (s.reg (0x40C0 + k) 6 + 1)

/-- FRAME_SLOT_FILLED (R238): a slot whose last line has been written; a hold given meanwhile takes effect. -/
def execFrameSlotFilled (s : State) : Result :=
  match (s.slotsIn 1).find? (fun k => s.reg (0x40C0 + k) 6 = s.frameLen) with
  | some k =>
    let st := if s.insp.front.holds.contains k then 3 else 2
    .next ((s.setReg (0x40C0 + k) 1 st).modFront (fun x =>
      { x with holds := x.holds.filter (fun j => j ≠ k), writing := if x.writing.any (fun p => p.1 = k) then none else x.writing }))
  | none => .next s

/-- A write of 01h to 40C0h+k.04 (R238). -/
def cmdHold (k : Nat) (s : State) : Verdict :=
  if s.reg 0x4000 0x0E ≤ k then .error dState
  else match s.reg (0x40C0 + k) 1 with
    | 1 => .ok (s.modFront (fun x => { x with holds := if x.holds.contains k then x.holds else x.holds ++ [k] }))
    | 2 => .ok (s.setReg (0x40C0 + k) 1 3)
    | _ => .error dState

/-- An event at fstore.hold (R238): the slot being written is held. -/
def State.holdEvent (s : State) : State :=
  match s.insp.front.writing with
  | some (k, _) => s.modFront (fun x => { x with holds := if x.holds.contains k then x.holds else x.holds ++ [k] })
  | none => s

/-- A write of 01h to 40C0h+k.05 (R238). -/
def cmdSlotRelease (k : Nat) (s : State) : Verdict :=
  accept (decide (k < s.reg 0x4000 0x0E) && s.reg (0x40C0 + k) 1 = 3) dState (s.setReg (0x40C0 + k) 1 2)

/-! ## Stitching (R247 to R251) -/

/-- Tap h[p][t] (R250). -/
def State.tapCoef (s : State) (p t : Nat) : Int :=
  let d := s.dom 0x4440 1
  if d.isEmpty then (defaultTaps.getD p []).getD t 0 else toSigned 16 (field d (32 * p + 2 * t) 2)

/-- One plane value of a stitched pixel (R249). -/
def State.resample (s : State) (w : Nat) (pos : Int) (v : List Nat) (x : Nat) : Nat :=
  let sf : Int := 64 * (x : Int) - pos
  let i := sf / 64
  let p := (sf % 64).toNat
  let acc := (List.range 16).foldl (fun a t => a + s.tapCoef p t * (v.getD (clampInt 0 ((w : Int) - 1) (i - 7 + t)).toNat 0 : Int)) (0 : Int)
  (clampInt 0 65535 ((acc + 8192) / 16384)).toNat

/-- The camera line slot `k` takes for stitched line `l` (R247). -/
def State.slotSource (s : State) (k l : Nat) : Nat := l + s.reg (0x4410 + k) 9

/-- Slot `k` can supply stitched line `l` (R247). -/
def State.slotReady (s : State) (k l : Nat) : Bool :=
  let c := s.slotCam k
  let m := s.slotSource k l
  !s.supplies c m || decide (m < (s.cam c).nextOut)

/-- What slot `k` supplies for stitched line `l`. -/
def State.slotSupply (s : State) (k l : Nat) : Nat × Option FifoLine :=
  let c := s.slotCam k
  (c, if s.supplies c (s.slotSource k l) then s.fifoLine c (s.slotSource k l) else none)

/-- Plane `q` of slot `k` in stitched line `l`; 0 throughout from a camera that supplies nothing. -/
def State.slotPlane (s : State) (k l q : Nat) (x : Option FifoLine) : List Nat :=
  let i := 0x4410 + k
  let xs := (List.range (s.reg i 3 + 1 - s.reg i 2)).map (fun j => s.reg i 2 + j)
  match x with
  | none => xs.map (fun _ => 0)
  | some y =>
    let c := s.slotCam k
    let v := s.fifoPlane c (s.slotSource k l) (if y.dual then q else 0)
    xs.map (s.resample (s.camWidth c) (s.sreg 32 i 8) v)

/-- The FIFO reads of slot `k` for stitched line `l`, in class H (R247). -/
def State.fifoRead (s : State) (k l : Nat) (x : Option FifoLine) : State :=
  match x with
  | none => s
  | some y =>
    let c := s.slotCam k
    s.readRange clsH (s.fifoAddr c (s.slotSource k l)) (2 * s.camWidth c * (if y.dual then 4 else 1))

/-- A stitched line goes to the scalers (R251, R322). -/
def State.feedScalers (s : State) (e : EdgeRec) (y : List Nat) (impaired : Bool) : State :=
  let f := e.index / s.frameLen
  s.each (List.range 8) (fun x s =>
    let i := 0x4880 + x
    s.scalerLine x ⟨(y.drop (s.reg i 5)).take (s.reg i 6), f, e.index % s.frameLen, e.index, e.sc, s.epochAt (s.frameSc f), impaired⟩)

/-- A stitched line goes to Gleaner, which reaches ON at the first line of a frame (R251, R270). -/
def State.feedGleaner (s : State) (e : EdgeRec) (y : List Nat) (sup : Supply) : State :=
  let start := s.reg 0x4480 2 = stEnabling && e.index % s.frameLen = 0
  let s := if start then (s.setReg 0x4480 2 stOn).setReg 0x4480 0x15 0 else s
  let bad := (s.slots.zip sup).filterMap (fun p =>
    match p.2.2 with
    | some x => if x.clean then none else some (s.reg (0x4410 + p.1) 2, s.reg (0x4410 + p.1) 3)
    | none => none)
  let g := s.insp.glean
  let g := if start then { GleanState.reset with running := true, fresh := true } else g
  let g := if g.running then { g with queue := g.queue ++ [⟨e.index, y, bad⟩] } else g
  { s with insp := { s.insp with glean := g } }

/-- A stitched line (R247 to R252): its planes, the frame store, the scalers and Gleaner; a round starts at its window. -/
def State.stitch (s : State) (e : EdgeRec) : State :=
  let l := e.index
  let f := l / s.frameLen
  let sup := s.slots.map (fun k => s.slotSupply k l)
  let planes := (List.range s.planesNow).map (fun q => (s.slots.zip sup).flatMap (fun p => s.slotPlane p.1 l q p.2.2))
  let y := nthD [] planes 0
  let impaired := sup.any (fun x => match x.2 with | some a => !a.clean | none => false)
  let s := s.each (s.slots.zip sup) (fun p s => s.fifoRead p.1 l p.2.2)
  let s := if l % s.frameLen = 0 then s.frameOpen f e.sc else s
  let s := ((s.frameLine e sup planes).feedScalers e y impaired).feedGleaner e y sup
  let s := (s.inc64 0x4400 0x11 1).modDove (fun d => { d with next := l + 1, fresh := false })
  let s := if l = f * s.frameLen + s.lineReg l 0x4400 9 then s.roundStart f l else s
  if s.dove.lastLine = some l then s.modDove (fun d => { d with running := false, round := none }) else s

/-- STITCHED_LINE (R247): the next line, once every slot can supply it. -/
def execStitchedLine (s : State) : Result :=
  if !s.dove.running then .next s
  else
    let l := s.dove.next
    match s.edgeOf l with
    | none => .next s
    | some e =>
      let s' := if l % s.frameLen = 0 then s.doveBoundary (l / s.frameLen) s.dove.fresh else s
      if s'.slots.all (fun k => s'.slotReady k l) then .next (s'.stitch e) else .next s

/-! ## The line clock (R213, R219, R226, R239, R269) -/

/-- The first line of a frame reaches the front end: cameras and Dovetail turn ON, settings leave, reads of the round end. -/
def State.frameEdge (s : State) (i : Nat) : State :=
  let f := i / s.frameLen
  let s := s.settingsBoundary f
  let s := s.each ((List.range 16).filter (fun c => s.reg (0x4010 + c) 2 = stEnabling)) (fun c s =>
    (s.setReg (0x4010 + c) 2 stOn).modCam c (fun x => { x with firstLine := some i, nextOut := i }))
  let s := s.roundBoundary f
  if s.reg 0x4400 2 = stEnabling then (s.setReg 0x4400 2 stOn).modDove (fun d => { d with running := true, fresh := true, next := i }) else s

/-- Edges that the front end keeps: the longest frame, the largest line advance, and the 65,538 lines of R264 lie within them. -/
abbrev edgesKept : Nat := 67000

/-- LINE_CLOCK_EDGE (R213): the edge takes the next line index; the front end reaches ON at line 0. -/
def execLineClockEdge (s : State) : Result :=
  match s.pos.gen.feed with
  | [] => .next s
  | g :: rest =>
    let i := s.pos.gen.nextLine
    let s := s.modGen (fun x => { x with feed := rest, nextLine := i + 1 })
    if s.reg 0x4000 2 = stOff then .next s
    else
      let s := if s.reg 0x4000 2 = stEnabling then
          ((s.setReg 0x4000 2 stOn).setReg 0x4000 0x0A ((s.reg 0x4000 0x0A + 1) % 65536)).modFront (fun x => { x with gens := [(0, s.reg 0x4000 7)] })
        else s
      let s := s.modFront (fun x => { x with edges := (⟨i, g.sc, g.tb0, g.position, g.balls⟩ :: x.edges).take edgesKept })
      let s := ((s.setReg 0x4000 8 i).setReg 0x4000 9 (i / s.frameLen % 2 ^ 32)).statsLate i
      .next (if i % s.frameLen = 0 && s.reg 0x4000 2 = stOn then s.frameEdge i
             else if i % s.frameLen = 0 then (s.settingsBoundary (i / s.frameLen)).roundBoundary (i / s.frameLen) else s)

/-! ## Enables and write rules -/

/-- Dovetail enters DISABLING: it completes the frame in progress and ends its round (R269). -/
def State.doveDisabling (s : State) : State :=
  let d := s.dove
  if !d.running then s
  else if d.next % s.frameLen = 0 then s.modDove (fun d => { d with running := false, round := none })
  else s.modDove (fun d => { d with lastLine := some ((d.next / s.frameLen + 1) * s.frameLen - 1) })

/-- Dovetail in DISABLING is done (R269). -/
def State.doveIdle (s : State) : Bool := !s.dove.running && s.reg 0x4480 2 = stOff

/-- The owning unit of an RWX entry of Dovetail is OFF (R272). -/
def doveOwnerOff (s : State) (idx sub : Nat) : Bool := s.reg 0x4400 2 = stOff && (idx ≠ 0x4400 || sub ≠ 4 || s.reg 0x4000 2 = stOff)

/-- The refusal a write to an entry of Dovetail meets, or 0 (R252). -/
def doveCheck (s : State) (idx sub v : Nat) : Nat :=
  if idx = 0x4400 && sub = 9 then (if v + s.regSlen ≤ s.frameLen then 0 else dRule) else 0

/-- The refusal a tap table meets, or 0 (R250). -/
def tapsCheck (bs : Bytes) : Nat :=
  if bs.length ≠ 2048 then dRange
  else if (List.range 64).all (fun p => (List.range 16).foldl (fun a t => a + toSigned 16 (field bs (32 * p + 2 * t) 2)) (0 : Int) = 16384) then 0 else dRule

/-- Entries of the frame slots that lie beyond fs_slots read FREE (R243); the planes stitched follow the slots' cameras (R246). -/
def cameraView (s : State) (idx sub : Nat) : Option Nat :=
  if 0x40C0 ≤ idx && idx ≤ 0x40FF && sub = 1 && s.reg 0x4000 0x0E ≤ idx - 0x40C0 then some 0
  else if idx = 0x4400 && sub = 5 then some s.planesNow else none

/-- The tap table as it reads (R250). -/
def doveDomView (s : State) (idx sub : Nat) : Option Bytes :=
  if idx = 0x4440 && sub = 1 && (s.dom 0x4440 1).isEmpty then some defaultTapBytes else none

end Sys2Proof.Machine
end

