-- ==== Sys2Proof/Machine/Gleaner.lean ====
section
/-! DEFINITION. Gleaner: references, labelling, records and the marker path (chapter 8, R259 to R267, R270). -/

namespace Sys2Proof.Machine

/-- Gleaner beside its entries. -/
def State.glean (s : State) : GleanState := s.insp.glean

/-- Map Gleaner. -/
def State.modGlean (s : State) (f : GleanState → GleanState) : State := { s with insp := { s.insp with glean := f s.insp.glean } }

/-! ## Deviations and candidates (R259, R260) -/

/-- Settings of Gleaner in force for the frame of a line. -/
structure GleanCfg where
  adaptive : Bool
  alpha : Nat
  polarity : Nat
  tHi : Nat
  tLo : Nat
  minArea : Nat
  maxLines : Nat
  xLo : Nat
  xHi : Nat
  table : Bytes
  deriving DecidableEq, Repr

/-- The settings for stitched line `l` (R270, R274). -/
def State.gleanCfg (s : State) (l : Nat) : GleanCfg :=
  let r := s.lineReg l 0x4480
  ⟨r 3 = 1, r 4, r 5, r 6, r 7, r 8, r 9, r 0x0A, min (r 0x0B) (s.reg 0x4400 3 - 1), s.domAt 0x4481 1 (s.frameSc (l / s.frameLen))⟩

/-- The reference of a pixel (R259). -/
def GleanCfg.reference (c : GleanCfg) (cols : List Nat) (x : Nat) : Nat :=
  if c.adaptive then (cols.getD x 0 + 128) / 256 else field c.table (2 * x) 2

/-- The deviation of polarity `p` from d (R259). -/
def deviation (p : Nat) (d : Int) : Int := match p with | 1 => d | 0 => -d | _ => d.natAbs

/-- A candidate pixel: its place, dev, and d. -/
structure Cand where
  x : Nat
  dev : Int
  d : Int
  deriving DecidableEq, Repr

/-- The candidates of a line, ascending (R260). -/
def GleanCfg.candidates (c : GleanCfg) (cols : List Nat) (ln : StitchedLine) : List Cand :=
  (List.range ln.y.length).filterMap (fun x =>
    let d : Int := (ln.y.getD x 0 : Int) - c.reference cols x
    let v := deviation c.polarity d
    if (c.tLo : Int) ≤ v && decide (c.xLo ≤ x) && decide (x ≤ c.xHi) && ln.excluded.all (fun e => x < e.1 || e.2 < x) then some ⟨x, v, d⟩ else none)

/-- Column states after a line (R259). -/
def GleanCfg.updateCols (c : GleanCfg) (cols : List Nat) (ln : StitchedLine) (cands : List Cand) : List Nat :=
  if !c.adaptive then cols
  else (List.range ln.y.length).map (fun x =>
    let a := cols.getD x 0
    if cands.any (fun k => k.x = x) then a else (((a : Int) + (256 * (ln.y.getD x 0 : Int) - a) / ((2 ^ c.alpha : Nat) : Int))).toNat)

/-! ## Labelling (R261 to R263) -/

/-- Open blobs at most (R263). -/
abbrev blobLimit : Nat := 16384

/-- Labelling of one line: open blobs, labels of the previous line and of this one (latest first), the blobs cut in this line with the blob that
continues each, and whether a candidate found the table full. -/
structure Labelling where
  blobs : List Blob
  prev : List (Nat × Nat)
  cur : List (Nat × Nat)
  nextId : Nat
  cut : List (Nat × Option Nat)
  full : Bool
  deriving DecidableEq, Repr

/-- The union of two open blobs, under the name of the first (R261). -/
def Blob.merge (a b : Blob) : Blob :=
  let older := if b.y0 < a.y0 || (b.y0 = a.y0 && b.first < a.first) then b else a
  { id := a.id, y0 := older.y0, first := older.first, xmin := min a.xmin b.xmin, xmax := max a.xmax b.xmax, area := a.area + b.area,
    sumX := a.sumX + b.sumX, sumL := a.sumL + b.sumL, maxDev := max a.maxDev b.maxDev, sumDev := a.sumDev + b.sumDev,
    bright := a.bright || b.bright, dark := a.dark || b.dark, flagged := a.flagged || b.flagged, cont := a.cont || b.cont,
    strong := a.strong || b.strong, last := max a.last b.last }

/-- An empty blob whose top pixel is `x` of line `l`. -/
def Blob.opened (id l x : Nat) (cont strong : Bool) : Blob := ⟨id, l, x, x, x, 0, 0, 0, 0, 0, false, false, false, cont, strong, l⟩

/-- A candidate enters a blob. -/
def Blob.add (b : Blob) (l tHi : Nat) (k : Cand) (flag : Bool) : Blob :=
  { b with xmin := min b.xmin k.x, xmax := max b.xmax k.x, area := b.area + 1, sumX := b.sumX + k.x, sumL := b.sumL + l,
           maxDev := max b.maxDev k.dev.toNat, sumDev := b.sumDev + k.dev.toNat, bright := b.bright || decide (0 < k.d),
           dark := b.dark || decide (k.d < 0), flagged := b.flagged || flag, strong := b.strong || decide ((tHi : Int) ≤ k.dev), last := l }

/-- Blob `b` takes over the labels of blob `a` (R261). -/
def Labelling.join (g : Labelling) (a b : Nat) : Labelling :=
  match g.blobs.find? (fun x => x.id = a), g.blobs.find? (fun x => x.id = b) with
  | some y, some z =>
    let sub := fun (p : Nat × Nat) => if p.2 = a then (p.1, b) else p
    { g with blobs := (g.blobs.filter (fun x => x.id ≠ a)).map (fun x => if x.id = b then z.merge y else x),
             prev := g.prev.map sub, cur := g.cur.map sub,
             cut := g.cut.map (fun p => if p.2 = some a then (p.1, some b) else p) }
  | _, _ => g

/-- Open a blob if the table has room (R263). -/
def Labelling.openAt (g : Labelling) (l x : Nat) (cont strong : Bool) : Labelling × Option Nat :=
  if g.blobs.length < blobLimit then
    ({ g with blobs := g.blobs ++ [Blob.opened g.nextId l x cont strong], nextId := g.nextId + 1 }, some g.nextId)
  else ({ g with full := true }, none)

/-- The blob a pixel of line `l` joins through blob `id` of the previous line; a blob that would grow beyond `maxLines` is cut and continued (R262). -/
def Labelling.through (g : Labelling) (maxLines l x id : Nat) : Labelling × Option Nat :=
  match g.blobs.find? (fun b => b.id = id) with
  | none => (g, none)
  | some b =>
    if l - b.y0 + 1 ≤ maxLines then (g, some id)
    else match g.cut.find? (fun p => p.1 = id) with
      | some (_, some n) => (g, some n)
      | _ =>
        let o := g.openAt l x true b.strong
        ({ o.1 with cut := o.1.cut.filter (fun p => p.1 ≠ id) ++ [(id, o.2)] }, o.2)

/-- Blobs of the previous line that touch pixel `x` (R260). -/
def Labelling.above (g : Labelling) (x : Nat) : List Nat :=
  ((g.prev.filter (fun p => decide (x ≤ p.1 + 1) && decide (p.1 ≤ x + 1))).map (fun p => p.2)).eraseDups

/-- One candidate of line `l` (R261 to R263). -/
def Labelling.pixel (maxLines tHi l : Nat) (flag : Bool) (g : Labelling) (k : Cand) : Labelling :=
  let left := match g.cur.head? with | some p => if p.1 + 1 = k.x then [p.2] else [] | none => []
  let up := g.above k.x
  let r := up.foldl (fun (a : Labelling × List Nat) id =>
    let o := a.1.through maxLines l k.x id
    (o.1, a.2 ++ o.2.toList)) (g, left)
  let r := if left.isEmpty && up.isEmpty then
      let o := r.1.openAt l k.x false false
      (o.1, o.2.toList)
    else r
  match r.2.eraseDups with
  | [] => r.1
  | id :: others =>
    let g := others.foldl (fun g a => g.join a id) r.1
    { g with blobs := g.blobs.map (fun b => if b.id = id then b.add l tHi k flag else b), cur := (k.x, id) :: g.cur }

/-! ## Records (R262 to R265) -/

/-- Row centroid below the top line, in 1/16 line (R264). -/
def Blob.cy (b : Blob) : Nat := (16 * (b.sumL - b.area * b.y0) + b.area / 2) / b.area

/-- The line whose position and time the record carries (R264). -/
def Blob.yc (b : Blob) : Nat := b.y0 + (b.cy + 8) / 16

/-- The position latched at y_c (R264). -/
def State.blobPosition (s : State) (b : Blob) : Int := match s.edgeOf b.yc with | some e => e.position | none => 0

/-- The eight words of a record (R264). -/
def State.blobRecord (s : State) (c : GleanCfg) (b : Blob) (cut mark : Bool) (q : Nat) : List Nat :=
  let tb := match s.edgeOf b.yc with | some e => e.tb0 | none => 0
  let f := b.y0 / s.frameLen
  let edge := b.xmin = c.xLo || b.xmax = c.xHi
  let flags := ofBool cut * 64 + ofBool b.cont * 32 + ofBool b.bright * 16 + ofBool b.dark * 8 + ofBool edge * 4 + ofBool b.flagged * 2 + ofBool mark
  let cx := (16 * b.sumX + b.area / 2) / b.area
  [b.y0, ofSigned 64 (s.blobPosition b), (tb / 2 ^ 32) % 2 ^ 48 * 2 ^ 16 + (b.last - b.y0) % 2 ^ 16, tb % 2 ^ 32 * 2 ^ 32 + f % 2 ^ 32,
   b.xmin * 2 ^ 45 + b.xmax * 2 ^ 26 + b.first * 2 ^ 7 + flags,
   min b.area (2 ^ 32 - 1) * 2 ^ 32 + b.maxDev * 2 ^ 16 + s.epochAt (s.frameSc f) % 2 ^ 16,
   min b.sumDev (2 ^ 40 - 1) * 2 ^ 24 + cx, b.cy * 2 ^ 44 + s.genFor f % 256 * 2 ^ 36 + q]

/-- Rule `m` is offered a blob that closes at line `l` (R266). -/
def State.ruleTakes (s : State) (l m : Nat) (b : Blob) : Bool :=
  let r := s.lineReg l (0x4490 + m)
  r 1 = 1 && decide (r 4 ≤ b.area) && decide (r 5 ≤ b.maxDev)

/-- The rules that a blob is offered to. -/
def State.rulesFor (s : State) (l : Nat) (b : Blob) : List Nat := (List.range 4).filter (fun m => s.ruleTakes l m b)

/-- Blobs by ascending x_min, and in order of opening where that is equal. -/
def insertBlob (b : Blob) : List Blob → List Blob
  | [] => [b]
  | x :: xs => if b.xmin < x.xmin || (b.xmin = x.xmin && b.id < x.id) then b :: x :: xs else x :: insertBlob b xs

/-- Blobs in order of x_min. -/
def sortBlobs (bs : List Blob) : List Blob := bs.foldl (fun acc b => insertBlob b acc) []

/-- Records of a frame at most (R263). -/
abbrev frameRecordLimit : Nat := 65536

/-- What the closures of one line have produced so far: the state, the records, and the offers made. -/
structure Closing where
  s : State
  records : List (Blob × List Nat)
  offers : Nat
  deriving DecidableEq, Repr

/-- One blob closes and produces its record (R263 to R267). -/
def Closing.record (c : GleanCfg) (l : Nat) (cutIds : List Nat) (o : Closing) (b : Blob) : Closing :=
  let s := o.s
  let f := b.y0 / s.frameLen
  let n := match lookup s.glean.counts f with | some n => n | none => 0
  if frameRecordLimit ≤ n then
    let s := s.inc32 0x4480 0x12 1
    let s := if n = frameRecordLimit then (s.modGlean (fun g => { g with counts := insertKey g.counts f (n + 1) })).fire 0x85 f else s
    { o with s := s }
  else
    let s := s.modGlean (fun g => { g with counts := insertKey g.counts f (n + 1) })
    let q := s.reg 0x4480 0x15
    let rules := s.rulesFor l b
    let ws := s.blobRecord c b (cutIds.contains b.id) (!rules.isEmpty) q
    let slots := s.reg 0x4480 0x0E
    let s := if slots = 0 then s else s.store clsH (s.reg 0x4480 0x0D + q % slots * 64) (wordBytes ws)
    let s := (s.setReg 0x4480 0x15 ((q + 1) % 2 ^ 32)).inc64 0x4480 0x0F 1
    let r := rules.foldl (fun (a : State × Nat) m =>
      let i := 0x4490 + m
      let t := toSigned 64 (ofSigned 64 (s.blobPosition b + toSigned 64 (s.lineReg l i 3)))
      let e : CompareEntry := ⟨s.lineReg l i 2, t, s.reg (0x6410 + m) 6, q, true, false⟩
      let s := (a.1.inc32 i 6 1).modList m (fun x => { x with arriving := x.arriving ++ [e] })
      (if a.2 < 64 then s else s.inc32 i 9 1, a.2 + 1)) (s, o.offers)
    { s := r.1, records := o.records ++ [(b, ws)], offers := r.2 }

/-- Records of a line in packets of at most 64 (R265). -/
def State.sendRecords (s : State) (stream : Nat) : Nat → List (Blob × List Nat) → State
  | 0, _ => s
  | fuel + 1, rs =>
    match rs with
    | [] => s
    | (b, ws) :: _ =>
      let part := rs.take 64
      let sc := match s.edgeOf b.y0 with | some e => e.sc | none => 0
      let w1 := 0xD * 2 ^ 60 + part.length * 2 ^ 52 + ws.getD 7 0 % 2 ^ 32
      (s.streamPut stream ⟨0, sc :: w1 :: part.flatMap (fun r => r.2)⟩).sendRecords stream fuel (rs.drop 64)

/-- The blobs that close at the end of line `l` (R262). -/
def State.closeBlobs (s : State) (c : GleanCfg) (l : Nat) (bs : List Blob) (cutIds : List Nat) : State :=
  let small := bs.filter (fun b => decide (b.area < c.minArea))
  let big := bs.filter (fun b => decide (c.minArea ≤ b.area))
  let weak := bs.filter (fun b => !b.strong)
  let good := sortBlobs (big.filter (fun b => b.strong))
  let s := (s.inc64 0x4480 0x10 small.length).inc64 0x4480 0x11 weak.length
  let offered := good.filter (fun b => !(s.rulesFor l b).isEmpty)
  let others := good.filter (fun b => (s.rulesFor l b).isEmpty)
  let o := (offered ++ others).foldl (Closing.record c l cutIds) ⟨s, [], 0⟩
  let stream := s.lineReg l 0x4480 0x0C
  let s := if stream = 0xFF then o.s else o.s.sendRecords stream o.records.length o.records
  if o.records.isEmpty then s else s.fire 0x86 o.records.length

/-- Gleaner stops: nothing is open and nothing waits. -/
def State.gleanStop (s : State) : State :=
  (s.modGlean (fun g => { g with running := false, queue := [], blobs := [], labels := [], counts := [] })).setReg 0x4480 0x14 0

/-- Gleaner has been disabled and completes its frame (R270). -/
def State.gleanEnding (s : State) : Bool := s.reg 0x4480 2 = stDisabling || s.reg 0x4480 2 = stPending

/-- One stitched line (R259 to R265, R270). -/
def State.gleanLine (s : State) (ln : StitchedLine) : State :=
  let l := ln.line
  let g := s.glean
  let c := s.gleanCfg l
  let cols := if g.fresh then ln.y.map (fun y => 256 * y) else g.cols
  let cands := c.candidates cols ln
  let r := cands.foldl (Labelling.pixel c.maxLines c.tHi l (!ln.excluded.isEmpty)) ⟨g.blobs, g.labels, [], g.nextId, [], false⟩
  let cutIds := r.cut.map (fun p => p.1)
  let ending := s.gleanEnding && l % s.frameLen + 1 = s.frameLen
  let closing := fun (b : Blob) => ending || decide (b.last < l) || cutIds.contains b.id
  let forced := if ending then (r.blobs.filter (fun b => b.last = l)).map (fun b => b.id) else []
  let kept := r.blobs.filter (fun b => !closing b)
  let s := s.modGlean (fun g =>
    { g with fresh := false, cols := c.updateCols cols ln cands, blobs := kept, labels := r.cur, nextId := r.nextId,
             counts := g.counts.filter (fun p => decide (l < (p.1 + 1) * s.frameLen + 65538)) })
  let s := if r.full then s.inc32 0x4480 0x13 1 else s
  let s := s.setReg 0x4480 0x14 kept.length
  let s := s.closeBlobs c l (r.blobs.filter closing) (cutIds ++ forced)
  if ending then s.gleanStop else s

/-- GLEANER_LINE (R261): the next stitched line. -/
def execGleanerLine (s : State) : Result :=
  match s.glean.queue with
  | [] => .next s
  | ln :: rest => .next ((s.modGlean (fun g => { g with queue := rest })).gleanLine ln)

/-! ## Enables and write rules (R270) -/

/-- The refusal of a Gleaner enable, or 0. -/
def gleanEnableCheck (s : State) : Nat := if s.reg 0x4400 2 = stOn then 0 else dRule

/-- Gleaner enters ENABLING: nothing is left of an earlier run. -/
def State.gleanEnabling (s : State) : State := s.gleanStop

/-- Gleaner enters DISABLING. Between two frames it closes what is open at once (R270). -/
def State.gleanDisabling (s : State) : State :=
  let g := s.glean
  let next := match g.queue with | x :: _ => x.line | [] => s.dove.next
  if !g.running then s
  else if next % s.frameLen = 0 then
    (s.closeBlobs (s.gleanCfg (next - 1)) (next - 1) g.blobs (g.blobs.map (fun b => b.id))).gleanStop
  else s

/-- Gleaner in DISABLING is done. -/
def State.gleanIdle (s : State) : Bool := !s.glean.running

/-- The owning unit of an RWX entry of Gleaner is OFF (R274). -/
def gleanOwnerOff (s : State) : Bool := s.reg 0x4480 2 = stOff

/-- The refusal a write to an entry of Gleaner meets, or 0 (R260, R275). `eff` reads an entry as it will stand. -/
def gleanCheck (s : State) (eff : Nat → Nat → Nat) (idx sub v : Nat) : Nat :=
  if idx = 0x4480 && sub = 7 then (if v ≤ eff 0x4480 6 then 0 else dRule)
  else if idx = 0x4480 && sub = 5 then (if v < 3 then 0 else dRange)
  else if idx = 0x4480 && sub = 6 then (if eff 0x4480 7 ≤ v then 0 else dRule)
  else if 0x4490 ≤ idx && idx < 0x4494 && sub = 2 then (if s.board.inspect && v < 4 then 0 else dRange)
  else 0

/-- The refusal a reference table meets, or 0 (R259). -/
def gleanDomCheck (s : State) (bs : Bytes) : Nat := if bs.isEmpty || bs.length = 2 * s.widthNow then 0 else dRange

end Sys2Proof.Machine
end

