-- ==== Sys2Proof/Machine/Sha.lean ====
section
/-! DEFINITION. SHA-256 (FIPS 180-4) and HMAC (RFC 2104), which tag every FDP frame (R458, R460). -/

namespace Sys2Proof.Machine

/-- A 32-bit word rotated right. -/
def rotr32 (x n : Nat) : Nat := (x >>> n) ||| ((x <<< (32 - n)) % 2 ^ 32)

/-- The four mixing functions of SHA-256. -/
def shaS0 (x : Nat) : Nat := rotr32 x 2 ^^^ rotr32 x 13 ^^^ rotr32 x 22
def shaS1 (x : Nat) : Nat := rotr32 x 6 ^^^ rotr32 x 11 ^^^ rotr32 x 25
def shaW0 (x : Nat) : Nat := rotr32 x 7 ^^^ rotr32 x 18 ^^^ (x >>> 3)
def shaW1 (x : Nat) : Nat := rotr32 x 17 ^^^ rotr32 x 19 ^^^ (x >>> 10)

/-- The largest number of at most 36 bits whose `k`-th power does not exceed `n`, found from the top bit down. -/
def rootFloor (k n : Nat) : Nat := (List.range 36).foldl (fun r i => let t := r + 2 ^ (35 - i); if t ^ k ≤ n then t else r) 0

/-- The first 64 primes. -/
def primes64 : List Nat := (List.range 312).filter (fun p => decide (2 ≤ p) && (List.range p).all (fun d => decide (d < 2) || p % d ≠ 0))

/-- The round constants: the first 32 bits of the fractional parts of the cube roots of the first 64 primes. -/
def shaK : List Nat := primes64.map (fun p => rootFloor 3 (p * 2 ^ 96) % 2 ^ 32)

/-- The eight working words. -/
structure ShaWords where
  a : Nat
  b : Nat
  c : Nat
  d : Nat
  e : Nat
  f : Nat
  g : Nat
  h : Nat
  deriving DecidableEq, Repr

/-- The initial hash value: the first 32 bits of the fractional parts of the square roots of the first eight primes. -/
def ShaWords.init : ShaWords :=
  let h := fun i => rootFloor 2 (primes64.getD i 0 * 2 ^ 64) % 2 ^ 32
  ⟨h 0, h 1, h 2, h 3, h 4, h 5, h 6, h 7⟩

/-- One round with a constant and a schedule word. -/
def ShaWords.round (x : ShaWords) (k w : Nat) : ShaWords :=
  let ch := (x.e &&& x.f) ^^^ ((x.e ^^^ 0xFFFFFFFF) &&& x.g)
  let maj := (x.a &&& x.b) ^^^ (x.a &&& x.c) ^^^ (x.b &&& x.c)
  let t1 := x.h + shaS1 x.e + ch + k + w
  let t2 := shaS0 x.a + maj
  ⟨(t1 + t2) % 2 ^ 32, x.a, x.b, x.c, (x.d + t1) % 2 ^ 32, x.e, x.f, x.g⟩

/-- The rounds of one block; `win` holds the next sixteen schedule words. -/
def shaRounds : List Nat → List Nat → ShaWords → ShaWords
  | [], _, x => x
  | k :: ks, win, x =>
    let w := win.headD 0
    let next := (shaW1 (win.getD 14 0) + win.getD 9 0 + shaW0 (win.getD 1 0) + w) % 2 ^ 32
    shaRounds ks (win.drop 1 ++ [next]) (x.round k w)

/-- The hash value after one block of sixteen words. -/
def ShaWords.block (x : ShaWords) (ws : List Nat) : ShaWords :=
  let y := shaRounds shaK ws x
  ⟨(x.a + y.a) % 2 ^ 32, (x.b + y.b) % 2 ^ 32, (x.c + y.c) % 2 ^ 32, (x.d + y.d) % 2 ^ 32,
   (x.e + y.e) % 2 ^ 32, (x.f + y.f) % 2 ^ 32, (x.g + y.g) % 2 ^ 32, (x.h + y.h) % 2 ^ 32⟩

/-- A message with its padding: 80h, zeros, the length in bits. -/
def shaPad (m : Bytes) : Bytes :=
  let n := m.length
  m ++ [0x80] ++ zeroBytes ((119 - n % 64) % 64) ++ beBytes 8 (8 * n)

/-- `n` blocks of a padded message. -/
def shaBlocks : Nat → Bytes → ShaWords → ShaWords
  | 0, _, x => x
  | n + 1, m, x => shaBlocks n (m.drop 64) (x.block ((List.range 16).map (fun i => field m (4 * i) 4)))

/-- SHA-256. -/
def sha256 (m : Bytes) : Bytes :=
  let p := shaPad m
  let x := shaBlocks (p.length / 64) p ShaWords.init
  [x.a, x.b, x.c, x.d, x.e, x.f, x.g, x.h].flatMap (fun w => beBytes 4 w)

/-- HMAC-SHA-256. -/
def hmac (k m : Bytes) : Bytes :=
  let k := (if 64 < k.length then sha256 k else k)
  let k := k ++ zeroBytes (64 - k.length)
  sha256 (k.map (fun b => b ^^^ 0x5C) ++ sha256 (k.map (fun b => b ^^^ 0x36) ++ m))

end Sys2Proof.Machine
end

