-- ==== Sys2Proof/Machine/Session.lean ====
section
/-! DEFINITION. Ethernet ports, FDP frames on their way out, sessions and notifications (R457 to R464, R474, R478 to R480). -/

namespace Sys2Proof.Machine

/-! ## Frames (R458) -/

/-- Frame kinds. -/
abbrev kOpen : Nat := 1
abbrev kOpenAck : Nat := 2
abbrev kRequest : Nat := 3
abbrev kResponse : Nat := 4
abbrev kNotify : Nat := 5
abbrev kNotifyAck : Nat := 6
abbrev kClose : Nat := 7
abbrev kKeyInit : Nat := 9

/-- The header and body of a frame. -/
def frameHead (kind sess seq : Nat) (body : Bytes) : Bytes :=
  beBytes 2 0x4644 ++ beBytes 1 1 ++ beBytes 1 kind ++ beBytes 2 sess ++ zeroBytes 2 ++ beBytes 8 seq ++ beBytes 2 body.length ++ zeroBytes 6 ++ body

/-- A whole frame with its tag. -/
def frameOf (kind sess seq : Nat) (body key : Bytes) : Bytes :=
  let h := frameHead kind sess seq body
  h ++ hmac key h

/-- The entry index of session `k`. -/
def sessIdx (k : Nat) : Nat := 0x102F + k

/-- An Ethernet port takes frames: it is ON and has its link (R478). -/
def State.portUp (s : State) (p : Nat) : Bool := decide (p < 2) && s.reg (0x1010 + p) 2 = stOn && s.reg (0x1010 + p) 4 ≠ 0

/-- A port still sends: it is not OFF, and has its link. -/
def State.portSends (s : State) (p : Nat) : Bool := decide (p < 2) && decide (2 ≤ s.reg (0x1010 + p) 2) && s.reg (0x1010 + p) 4 ≠ 0

/-- Something leaves on an Ethernet port, and is counted (R477). -/
def State.portSend (s : State) (p : Nat) (o : Output) : State := if s.portSends p then (s.emit o).inc64 (0x1010 + p) 0x0B 1 else s

/-- A frame to the controller of session `k`. -/
def State.sendTo (s : State) (k : Nat) (frame : Bytes) : State :=
  let i := sessIdx k
  s.portSend (s.reg i 5) (.udp (s.reg i 5) (s.reg i 3) (s.reg i 4) frame)

/-- The Karosh's next own SEQ of session `k` (R462). -/
def State.nextTx (s : State) (k : Nat) : State := s.setReg (sessIdx k) 7 (wrapAdd64 (s.reg (sessIdx k) 7) 1)

/-! ## Closing a session (R462, R473, R480, R492) -/

/-- Debug mode ends, with its record (R480, R522). -/
def State.debugLeave (s : State) : State :=
  let k := s.reg 0x1050 3
  ((s.setReg 0x1050 1 0).setReg 0x1050 3 0).faultRecord 0x0E 0 k 2 noInterruption s.sc

/-- Debug mode starts, with its record. -/
def State.debugEnter (s : State) (k : Nat) : State :=
  ((s.setReg 0x1050 1 1).setReg 0x1050 3 k).faultRecord 0x0E 0 k 1 noInterruption s.sc

/-- An open transfer of session `k` is abandoned and logged (R473). -/
def State.abandon (s : State) (k : Nat) : State :=
  match (s.session k).transfer with
  | none => s
  | some t => (s.modSession k (fun x => { x with transfer := none })).abortLog 5 k (t.key / 256) (t.key % 256) 0 0

/-- The entries of a session read their defaults again. -/
def State.freeSession (s : State) (k : Nat) : State :=
  let s := s.each ((List.range 10).map (· + 1)) (fun j s => s.setReg (sessIdx k) j 0)
  s.modSession k (fun _ => Session.reset)

/-- Session `k` closes. A CLOSE leaves when the Karosh is the one that closes it (R462).
A session whose REQUEST is in hand closes once its RESPONSE has left. -/
def State.closeSession (s : State) (k : Nat) (send : Bool) : State :=
  if !s.sessionOpen k then s
  else if s.dict.serving.any (fun p => p.1 = k) then { s with dict := { s.dict with serving := some (k, true) } }
  else
    let role := s.role k
    let s := if send then let s := s.nextTx k; s.sendTo k (frameOf kClose k (s.reg (sessIdx k) 7) [] (s.session k).key) else s
    let s := s.abandon k
    let s := if s.flag 0x1050 1 && s.reg 0x1050 3 = k then s.debugLeave else s
    let s := (s.freeSession k).each ((List.range 256).filter (fun c => s.reg (0x6900 + c) 3 = 0x20 + k)) (fun c s => s.channelDisable c)
    let s := s.setInput (0x380 + k) { s.input (0x380 + k) with held := none, queued := none }
    s.notifyBut k 4 5 (BitVec.ofNat 8 k :: BitVec.ofNat 8 role :: 1 :: zeroBytes 13)

/-- Every session that satisfies a test closes. -/
def State.closeWhere (s : State) (p : Nat → Bool) : State :=
  s.each ((List.range 8).map (· + 1)) (fun k s => if s.sessionOpen k && p k then s.closeSession k true else s)

/-- The sessions bound to a port close. -/
def State.closePort (s : State) (p : Nat) : State := s.closeWhere (fun k => s.reg (sessIdx k) 5 = p)

/-- The lowest free session (R460). -/
def State.freeId (s : State) : Option Nat := ((List.range 8).map (· + 1)).find? (fun k => !s.sessionOpen k)

/-- An authenticated frame restarts the idle time. -/
def State.heard (s : State) (k : Nat) : State := s.setReg (sessIdx k) 9 (s.reg 0x1038 2)

/-- SESSION_IDLE_TIMEOUT (R462). -/
def execSessionIdleTimeout (sess : Nat) (s : State) : Result :=
  inst (decide (1 ≤ sess) && decide (sess ≤ 8)) (.next (s.closeSession sess true))

/-- TRANSFER_ABANDONED (R473): no segment for 10 s. -/
def execTransferAbandoned (sess : Nat) (s : State) : Result :=
  inst (decide (1 ≤ sess) && decide (sess ≤ 8)) (.next (s.abandon sess))

/-! ## Notifications (R474) -/

/-- What one NOTIFY carries: up to 44 records, a LOST record first when records were dropped. -/
def State.notifyBatch (s : State) (k : Nat) : List Bytes :=
  let x := s.session k
  if 0 < x.lost then notifyRecord 6 (s.tb80 0) (beBytes 4 (min x.lost 0xFFFFFFFF) ++ zeroBytes 12) :: x.queue.take 43 else x.queue.take 44

/-- Queued records leave in a NOTIFY. -/
def State.notifySend (s : State) (k : Nat) : State :=
  let rs := s.notifyBatch k
  let left := if 0 < (s.session k).lost then 43 else 44
  let s := s.nextTx k
  let seq := s.reg (sessIdx k) 7
  let s := s.modSession k (fun x => { x with queue := x.queue.drop left, lost := 0, sent := x.sent ++ [⟨seq, rs, 0⟩] })
  s.sendTo k (frameOf kNotify k seq rs.flatten (s.session k).key)

/-- NOTIFY_SEND (R474). -/
def execNotifySend (sess : Nat) (s : State) : Result :=
  inst (decide (1 ≤ sess) && decide (sess ≤ 8))
    (if s.sessionOpen sess && !(s.session sess).queue.isEmpty then .next (s.notifySend sess) else .next s)

/-- A NOTIFY 20 ms old leaves again with its own SEQ, or is dropped after its third resend. -/
def State.notifyResend (s : State) (k seq : Nat) : State :=
  match (s.session k).sent.find? (fun n => n.seq = seq) with
  | none => s
  | some n =>
    if n.resends < 3 then
      (s.modSession k (fun x => { x with sent := x.sent.map (fun m => if m.seq = seq then { m with resends := m.resends + 1 } else m) })).sendTo k
        (frameOf kNotify k seq n.records.flatten (s.session k).key)
    else s.modSession k (fun x => { x with sent := x.sent.filter (fun m => m.seq ≠ seq) })

/-- NOTIFY_RESEND (R474). -/
def execNotifyResend (sess seq : Nat) (s : State) : Result :=
  inst (decide (1 ≤ sess) && decide (sess ≤ 8)) (if s.sessionOpen sess then .next (s.notifyResend sess seq) else .next s)

/-- An event at fdp.event of session `k` becomes a notification (R474). -/
def State.eventNotify (s : State) (k : Nat) : State :=
  match (s.input (0x380 + k)).held with
  | none => s
  | some d =>
    let s := s.takeInput (0x380 + k)
    if s.sessionOpen k && bitAt (s.reg (sessIdx k) 8) 3 then
      s.modSession k (fun x => x.enqueue (notifyRecord 4 (s.tb80 0) (beBytes 1 d.channel ++ zeroBytes 7 ++ beBytes 8 d.event.sc)))
    else s

/-! ## ARP, ICMP and links (R457, R478) -/

/-- A frame has come in on a port. -/
def State.rxFrame (s : State) (p : Nat) : State := s.inc64 (0x1010 + p) 0x0A 1

/-- ARP_REQUEST (R457): a request for the port's own address is answered. -/
def execArpRequest (port sender target : Nat) (s : State) : Result :=
  inst (decide (port < 2))
    (if s.power.dictUp && s.portUp port then
      let s := s.rxFrame port
      .next (if target = s.reg (0x1010 + port) 6 then s.portSend port (.arp port sender) else s.inc32 (0x1010 + port) 0x0C 1)
     else .next s)

/-- ICMP_ECHO (R457). -/
def execIcmpEcho (port sender target : Nat) (payload : Bytes) (s : State) : Result :=
  inst (decide (port < 2))
    (if s.power.dictUp && s.portUp port then
      let s := s.rxFrame port
      .next (if target = s.reg (0x1010 + port) 6 then s.portSend port (.icmp port sender payload) else s.inc32 (0x1010 + port) 0x0C 1)
     else .next s)

/-- The links a port mode allows: AUTO takes 10GBASE-R or 1000BASE-X, SGMII only when selected (R478). -/
def linkAllowed (mode link : Nat) : Bool :=
  match mode with
  | 0 => decide (link ≤ 2)
  | 1 => link = 0 || link = 1
  | 2 => link = 0 || link = 2
  | _ => link = 0 || (decide (3 ≤ link) && decide (link ≤ 5))

/-- PORT_LINK_CHANGE (R478). -/
def execPortLinkChange (port link : Nat) (s : State) : Result :=
  inst (decide (port < 2))
    (if decide (2 ≤ s.reg (0x1010 + port) 2) && linkAllowed (s.reg (0x1010 + port) 3) link then .next (s.setReg (0x1010 + port) 4 link) else .next s)

end Sys2Proof.Machine
end

