-- ==== Sys2Proof/Machine/Units.lean ====
section
/-! DEFINITION. Units with an enable entry and an enable status (R575): what enabling and disabling each one does,
and the commands that carry a unit from one status to the next. Every such unit has its enable in sub-index 01h and its status in 02h. -/

namespace Sys2Proof.Machine

/-- The kinds of units that have an enable status. -/
inductive UnitKind where
  | port | group | crib | jig | formatter | monitor | front | camera | dove | gleaner | winnow | scaler | core | dmaEngine | dmaChannel
  | ptp | axis | list | generator | dowel | counter
  deriving DecidableEq, Repr

/-- The kind of the unit whose enable entry lies at an index. -/
def unitKind (idx : Nat) : Option UnitKind :=
  if idx = 0x1010 || idx = 0x1011 then some .port
  else if 0x2440 ≤ idx && idx ≤ 0x246F then some .group
  else if idx = 0x2800 then some .crib
  else if 0x3010 ≤ idx && idx ≤ 0x3013 then some .jig
  else if idx = 0x3800 then some .formatter
  else if 0x3900 ≤ idx && idx ≤ 0x393F then some .monitor
  else if idx = 0x4000 then some .front
  else if 0x4010 ≤ idx && idx ≤ 0x401F then some .camera
  else if idx = 0x4400 then some .dove
  else if idx = 0x4480 then some .gleaner
  else if idx = 0x4800 then some .winnow
  else if 0x4880 ≤ idx && idx ≤ 0x4887 then some .scaler
  else if 0x5000 ≤ idx && idx ≤ 0x500F then some .core
  else if idx = 0x5D00 then some .dmaEngine
  else if 0x5D40 ≤ idx && idx ≤ 0x5D7F then some .dmaChannel
  else if idx = 0x6070 then some .ptp
  else if 0x6400 ≤ idx && idx ≤ 0x6403 then some .axis
  else if 0x6410 ≤ idx && idx ≤ 0x6413 then some .list
  else if idx = 0x6420 then some .generator
  else if 0x6900 ≤ idx && idx ≤ 0x69FF then some .dowel
  else if 0x6A40 ≤ idx && idx ≤ 0x6A7F then some .counter
  else none

/-- The enable status of a unit. -/
def State.status (s : State) (idx : Nat) : Nat := s.reg idx 2

/-- The refusal detail of an enable, or 0. -/
def enableCheck (s : State) (u : UnitKind) (idx : Nat) : Nat :=
  match u with
  | .group => groupEnableCheck s idx
  | .crib => cribEnableCheck s
  | .monitor => monitorEnableCheck s (idx - 0x3900)
  | .front => frontEnableCheck s
  | .camera => cameraEnableCheck s (idx - 0x4010)
  | .dove => doveEnableCheck s
  | .gleaner => gleanEnableCheck s
  | .scaler => scalerEnableCheck s (idx - 0x4880)
  | .core => dspEnableCheck s (idx - 0x5000)
  | .dmaChannel => dmaEnableCheck s
  | .list | .generator => positionEnableCheck s idx
  | .counter => counterEnableCheck s (idx - 0x6A40)
  | .port | .jig | .formatter | .winnow | .dmaEngine | .ptp | .axis | .dowel => 0

/-- What entering ENABLING does. -/
def State.startEnabling (s : State) (u : UnitKind) (idx : Nat) : State :=
  match u with
  | .group => s.groupEnabling idx
  | .crib => s.cribEnabling
  | .monitor => s.monitorEnabling (idx - 0x3900)
  | .front => s.frontEnabling
  | .camera => s.cameraEnabling (idx - 0x4010)
  | .dove => s.doveEnabling
  | .gleaner => s.gleanEnabling
  | .scaler => s.scalerEnabling (idx - 0x4880)
  | .core => s.dspEnabling (idx - 0x5000)
  | .axis => s.modAxis (idx - 0x6400) (fun x => { x with hall := none, ssiRef := none })
  | .ptp => s.each (List.range 2) (fun p s => if s.flag (0x6071 + p) 1 then s.setReg (0x6071 + p) 2 4 else s)
  | .port | .jig | .formatter | .winnow | .dmaEngine | .dmaChannel | .list | .generator | .dowel | .counter => s

/-- Reaching ON, for the units whose completion is an event of its own; `none` where another command brings the unit to ON. -/
def State.reachOn (s : State) (u : UnitKind) (idx : Nat) : Option State :=
  let on := s.setReg idx 2 stOn
  match u with
  | .port | .formatter | .dmaEngine | .ptp | .list => some on
  | .dowel => some (on.channelReaches (idx - 0x6900))
  | .group => some (s.groupOn idx)
  | .crib => some on.cribTurnsOn
  | .jig => some (on.jigOn (idx - 0x3010))
  | .winnow => some on.winnowTurnsOn
  | .core => some (on.dspTurnsOn (idx - 0x5000))
  | .dmaChannel => some (on.dmaTurnsOn (idx - 0x5D40))
  | .axis => if s.reg idx 3 = 2 then none else some (s.axisStart (idx - 0x6400))
  | .generator => some s.genStart
  | .counter => some (on.counterOn (idx - 0x6A40))
  | .monitor | .front | .camera | .dove | .gleaner | .scaler => none

/-- Put a unit that is ENABLING, ON or PENDING_ENABLE into DISABLING, without the effects of its kind. -/
def State.toDisabling (s : State) (idx : Nat) (keep : Bool) : State := (if keep then s else s.setReg idx 1 0).setReg idx 2 stDisabling

/-- A unit runs: ENABLING or ON. -/
def State.unitRuns (s : State) (idx : Nat) : Bool := s.status idx = stEnabling || s.status idx = stOn

/-- What entering DISABLING from the status `was` does to a unit of a kind with no dependants. -/
def State.startDisabling (s : State) (u : UnitKind) (idx was : Nat) : State :=
  match u with
  | .port => s.closePort (idx - 0x1010)
  | .group => s.groupDisabling idx
  | .crib => s.cribDisabling
  | .camera => s.cameraDisabling (idx - 0x4010)
  | .front => s.frontDisabling
  | .dove => s.doveDisabling
  | .gleaner => s.gleanDisabling
  | .core => s.dspDisabling (idx - 0x5000)
  | .dmaChannel => s.dmaAbort (idx - 0x5D40)
  | .axis => s.axisLeaves (idx - 0x6400)
  | .list => s.cancelEntries (idx - 0x6410) (fun _ => true)
  | .jig => s.jigDisabling (idx - 0x3010)
  | .dowel => if was = stOn then s.channelLeaves (idx - 0x6900) else s
  | .formatter | .monitor | .winnow | .scaler | .dmaEngine | .ptp | .generator | .counter => s

/-- A disable of a unit that has no dependants (R575); `keep` leaves the enable entry as it is (R530). A scaler that waits for its first frame
reaches OFF at once (R330). -/
def State.disableOne (s : State) (u : UnitKind) (idx : Nat) (keep : Bool) : State :=
  match s.status idx with
  | 1 =>
    let s := (s.toDisabling idx keep).startDisabling u idx stEnabling
    if u = .scaler then (s.scalerTurnsOff (idx - 0x4880)).setReg idx 2 stOff else s
  | 2 => (s.toDisabling idx keep).startDisabling u idx stOn
  | 4 => s.toDisabling idx keep
  | _ => if keep then s else if s.flag idx 1 then s.setReg idx 1 0 else s

/-- The units that a unit's disable disables first (R269, R328, R329, R394, R448). -/
def State.dependants (s : State) (u : UnitKind) (idx : Nat) : List (UnitKind × Nat) :=
  match u with
  | .dove => (UnitKind.gleaner, 0x4480) :: (List.range 8).map (fun x => (UnitKind.scaler, 0x4880 + x))
  | .winnow => (List.range 8).map (fun x => (UnitKind.scaler, 0x4880 + x))
  | .dmaEngine => (List.range 64).map (fun c => (UnitKind.dmaChannel, 0x5D40 + c))
  | .axis => if s.reg 0x6420 3 = idx - 0x6400 then [(UnitKind.generator, 0x6420)] else []
  | _ => []

/-- A disable of a unit and of what depends on it. -/
def State.disableUnit (s : State) (u : UnitKind) (idx : Nat) (keep : Bool) : State :=
  let s := if s.unitRuns idx then (s.dependants u idx).foldl (fun s d => if s.status d.2 = stOff then s else s.disableOne d.1 d.2 keep) s else s
  s.disableOne u idx keep

/-- The drain of a unit in DISABLING is complete. -/
def State.drained (s : State) (u : UnitKind) (idx : Nat) : Bool :=
  match u with
  | .jig => s.jigIdle (idx - 0x3010)
  | .monitor => false
  | .front => s.frontIdle
  | .camera => s.cameraIdle (idx - 0x4010)
  | .dove => s.doveIdle
  | .gleaner => s.gleanIdle
  | .winnow => s.winnowIdle
  | .scaler => s.scalerIdle (idx - 0x4880)
  | .core => s.dspIdle (idx - 0x5000)
  | .dmaEngine => s.dmaEngineIdle
  | .dmaChannel => s.dmaIdle (idx - 0x5D40)
  | .list => !(s.clist (idx - 0x6410)).active
  | .generator => s.pos.gen.owed = 0 && s.pos.gen.inFlight.isEmpty
  | .crib => s.cribIdle
  | .port | .group | .formatter | .ptp | .axis | .dowel | .counter => true

/-- What reaching OFF does to a unit. -/
def State.turnOff (s : State) (u : UnitKind) (idx : Nat) : State :=
  match u with
  | .port => s.setReg idx 4 0
  | .group => s.groupOff idx
  | .crib => s.cribTurnsOff
  | .jig => s.jigOff (idx - 0x3010)
  | .formatter => s.formatterTurnsOff
  | .monitor => s.leaveChannel (s.reg idx 5)
  | .camera => s.cameraTurnsOff (idx - 0x4010)
  | .winnow => s.winnowTurnsOff
  | .scaler => s.scalerTurnsOff (idx - 0x4880)
  | .ptp => (s.each (List.range 2) (fun p s => (s.setReg (0x6071 + p) 2 3).ptpPort p 3)).signalLoss 4
  | .core => s.dspTurnsOff (idx - 0x5000)
  | .front | .dove | .gleaner | .dmaEngine | .dmaChannel | .axis | .list | .generator | .dowel | .counter => s

/-- A unit in DISABLING reaches OFF, and a latched enable is tested again (R575). -/
def State.unitOff (s : State) (u : UnitKind) (idx : Nat) : State :=
  let latched := s.status idx = stPending
  let s := s.turnOff u idx
  let s := if latched then s.setReg idx 2 stPending else s
  s.reachOff idx 1 (fun s => enableCheck s u idx) (fun s => s.startEnabling u idx)

/-! ## KEEP and enables (R530 to R532) -/

/-- The power state reads KEEP_ENTRY, KEEP or KEEP_EXIT: an enable write of a stopped unit changes its entry only (R532). -/
def State.keeping (s : State) : Bool := decide (3 ≤ s.reg 0x2000 1) && decide (s.reg 0x2000 1 ≤ 5)

/-- The unit at an index is one that KEEP stops (R530, R531). -/
def State.keepStops (s : State) (u : UnitKind) (idx : Nat) : Bool :=
  match u with
  | .port => idx - 0x1010 ≠ s.reg 0x2000 8
  | .ptp | .dowel | .counter => !s.flag 0x2000 7
  | _ => true

/-- A written enable (R575): the refusal detail, or the new state. -/
def State.enableUnit (s : State) (u : UnitKind) (idx : Nat) : Verdict :=
  if s.keeping && s.keepStops u idx then .ok (s.setReg idx 1 1)
  else match s.status idx with
    | 0 =>
      if enableCheck s u idx = 0 then .ok (((s.setReg idx 1 1).setReg idx 2 stEnabling).startEnabling u idx)
      else .error (enableCheck s u idx)
    | 3 => if enableCheck s u idx = 0 then .ok ((s.setReg idx 1 1).setReg idx 2 stPending) else .error (enableCheck s u idx)
    | _ => .ok (s.setReg idx 1 1)

/-- A written disable (R575). -/
def State.disableWritten (s : State) (u : UnitKind) (idx : Nat) : State :=
  if s.keeping && s.keepStops u idx then s.setReg idx 1 0 else (s.disableUnit u idx false).setReg idx 1 0

/-! ## Completion (R575) -/

/-- ENABLING_COMPLETE. A unit whose ON is an event of another row (a line clock edge, a value, a frame) is unchanged. -/
def execEnablingComplete (idx : Nat) (s : State) : Result :=
  inst (unitKind idx).isSome
    (match unitKind idx with
     | some u => if s.status idx = stEnabling then .next ((s.reachOn u idx).getD s) else .next s
     | none => .next s)

/-! ## Stopping for KEEP (R530) -/

/-- The units of each step of R530, in the order in which they stop. -/
def State.keepUnits (s : State) (step : Nat) : List (UnitKind × Nat) :=
  let span := fun (u : UnitKind) (lo n : Nat) => (List.range n).map (fun i => (u, lo + i))
  match step with
  | 1 => span .scaler 0x4880 8 ++ [(.gleaner, 0x4480), (.dove, 0x4400)] ++ span .camera 0x4010 16 ++ [(.front, 0x4000), (.generator, 0x6420)]
      ++ span .list 0x6410 4 ++ span .axis 0x6400 4
  | 2 => [(.crib, 0x2800)] ++ span .jig 0x3010 4 ++ [(.formatter, 0x3800)] ++ span .monitor 0x3900 64 ++ [(.winnow, 0x4800)]
  | 3 => span .core 0x5000 16 ++ span .dmaChannel 0x5D40 64 ++ [(.dmaEngine, 0x5D00)]
  | 4 => span .group 0x2460 16 ++ span .group 0x2440 32
  | 5 => if s.flag 0x2000 7 then [] else [(.ptp, 0x6070)]
  | _ => []

/-- The units of a step of R530 that have not reached OFF. -/
def State.keepLeft (s : State) (step : Nat) : List (UnitKind × Nat) := (s.keepUnits step).filter (fun d => s.status d.2 ≠ stOff)

/-- The units of a step stop without changing their enable entries. -/
def State.keepStop (s : State) (step : Nat) : State := (s.keepUnits step).foldl (fun s d => if s.status d.2 = stOff then s else s.disableUnit d.1 d.2 true) s

/-- In KEEP_ENTRY, each step starts once every unit of the step before it reads OFF; `fuel` counts the steps left. -/
def State.keepSteps : Nat → State → State
  | 0, s => s
  | fuel + 1, s =>
    let k := s.power.keepStep
    if s.reg 0x2000 1 = 3 && decide (1 ≤ k) && decide (k ≤ 5) && (s.keepLeft k).isEmpty then
      let s := { s with power := { s.power with keepStep := k + 1 } }
      State.keepSteps fuel (s.keepStop (k + 1))
    else s

/-- KEEP_ENTRY goes as far as the units that have reached OFF allow. -/
def State.keepAdvance (s : State) : State := s.keepSteps 5

/-- DISABLING_COMPLETE. A monitor slot reaches OFF at its next value only (R212). -/
def execDisablingComplete (idx : Nat) (s : State) : Result :=
  inst (unitKind idx).isSome
    (match unitKind idx with
     | some u =>
       if (s.status idx = stDisabling || s.status idx = stPending) && s.drained u idx then .next (s.unitOff u idx).keepAdvance else .next s
     | none => .next s)

end Sys2Proof.Machine
end

