-- ==== Sys2Proof/Machine/Power.lean ====
section
/-! DEFINITION. Power states, KEEP, reset and boot, housekeeping and thermal control (chapter 18), the undervoltage detectors and
the JTAG reset (chapter 19), the fault conditions (R524, R525) and the end of a firmware flash write (R518). -/

namespace Sys2Proof.Machine

/-- Map the power state. -/
def State.modPower (s : State) (f : PowerState → PowerState) : State := { s with power := f s.power }

/-- Power state codes of R527. -/
abbrev pwOff : Nat := 0
abbrev pwStarting : Nat := 1
abbrev pwRun : Nat := 2
abbrev pwKeepEntry : Nat := 3
abbrev pwKeep : Nat := 4
abbrev pwKeepExit : Nat := 5

/-- The power state (2000h.01). -/
def State.pwState (s : State) : Nat := s.reg 0x2000 1

/-- Set the power state. -/
def State.setPw (s : State) (v : Nat) : State := s.setReg 0x2000 1 v

/-! ## Conditions and balls (R408, R524, R525, R535, R539) -/

/-- A group's spare lane is in use or FAILED. -/
def State.spareTrouble (s : State) (idx : Nat) : Bool :=
  let n := s.activeLanes idx
  let lane := s.firstLane idx + n
  s.flag idx 5 && s.status idx ≠ stOff &&
    (bitAt (s.reg idx 8) n || (if 0x2460 ≤ idx then s.reg (0x2600 + lane) 1 = lnFailed else s.rxState lane = lnFailed))

/-- The conditions of 7000h.04. -/
def State.conditions (s : State) : Nat :=
  let groups := (List.range 48).map (fun i => 0x2440 + i)
  let bays := List.range s.board.bays
  let bit := fun (b : Bool) (i : Nat) => ofBool b * 2 ^ i
  bit (!s.hasStandby) 0 + bit (bays.any (fun k => s.reg (0x2100 + k) 2 = 0)) 1 + bit (bays.any (fun k => s.reg (0x2100 + k) 4 ≠ 0)) 2
  + bit (groups.any (fun g => s.reg g 7 = 3)) 3 + bit (groups.any s.spareTrouble) 4
  + bit ((List.range s.dramN).any (fun c => s.chanState c = 2)) 5 + bit ((List.range s.dramN).any (fun c => s.chanState c = 3)) 6
  + bit (s.reg 0x6000 1 = 4) 7 + bit (s.reg 0x6000 1 = 0) 8 + bit (s.reg 0x7412 1 ≠ 0) 9
  + bit ((List.range s.board.cores).any (fun n => s.dspRun n = dsFaulted)) 10 + bit (s.reg 0x7010 4 = 3) 11

/-- The mask and the conditions share a bit (7000h.06, R524). -/
def State.faultBit (s : State) : Bool := (s.conditions &&& s.reg 0x7000 5) ≠ 0

/-- Ball FAULT_N is driven low (R513, R524, R535, R545). -/
def State.faultN (s : State) : Bool :=
  !s.power.porstN || s.pwState = pwOff || s.pwState = pwStarting || s.avail.dead || s.faultBit

/-- Balls RSTATE[2:0] (R408, R535, R545). -/
def State.rstate (s : State) : Nat := if s.power.porstN && s.pwState ≠ pwOff && s.time.running then s.reg 0x6000 1 % 8 else 7

/-- Ball THERM_N is driven low (R539, R541). -/
def State.thermN (s : State) : Bool := bits (s.reg 0x7400 0x0B) 2 0 ≠ 0 || s.power.thermalOff

/-- Balls ALERT0_N to ALERT3_N driven low (R496, R535). -/
def State.alertN (s : State) (k : Nat) : Bool :=
  s.power.porstN && s.pwState ≠ pwOff && ((s.alertBall k).latched || (s.alertBall k).pulse.isSome)

/-! ## Non-volatile records of this chapter (R543) -/

/-- A record that goes to the non-volatile log alone. The manual gives it no sequence of the fault log, so that field is free. -/
def State.nvRecord (s : State) (cls inst_ cause detail : Nat) : State :=
  let (q, s) := s.draw 32
  s.nvPlace (faultBytes (s.tb80 0) q cls 0 inst_ cause noInterruption detail)

/-! ## Reset (R25, R545) -/

/-- Entries that a reset leaves: the counter of ignored restarts. -/
def keptAtReset (k : Nat) : Bool := k = key 0x7400 0x10

/-- Entries that OFF leaves: those of housekeeping, which runs on. -/
def keptInOff (k : Nat) : Bool := decide (0x7400 ≤ k / 256) && decide (k / 256 ≤ 0x7431)

/-- Every unit is reset; what the board, the non-volatile store, housekeeping's queue and the test port hold stays. `kept` names the entries that stay. -/
def State.resetUnits (s : State) (kept : Nat → Bool) : State :=
  let t := State.ofReset s.board s.nv
  let p := s.power
  { t with
    pending := s.pending, drawn := s.drawn, outbox := s.outbox, regs := s.regs.filter (fun e => kept e.1),
    power := { t.power with
      pwrEn := p.pwrEn, porstN := p.porstN, thermalOff := p.thermalOff, undervoltOff := p.undervoltOff, deferred := p.deferred,
      mismatch := p.mismatch, tapIr := p.tapIr, tapDr := p.tapDr, tapCells := p.tapCells, tapDrive := p.tapDrive } }

/-- The power state is OFF (R535, R541): every store but those of housekeeping is lost. -/
def State.powerOff (s : State) : State := (s.resetUnits keptInOff).setPw pwOff

/-- The reset and boot sequence begins (R545) with a reset cause (7800h.02). -/
def State.restart (s : State) (cause : Nat) : State :=
  let s := (s.resetUnits keptAtReset).modPower (fun p => { p with thermalOff := false, undervoltOff := false, resetCause := cause, mismatch := List.replicate 32 0 })
  let s := { s with nv := { s.nv with boots := satAdd32 s.nv.boots 1 } }
  (s.setPw pwStarting).setReg 0x7800 2 cause

/-- A reset as PORST_N makes it, with a cause (R549, R569). -/
def State.resetPulse (s : State) (cause : Nat) : State :=
  if s.power.pwrEn then s.restart cause else (s.resetUnits keptAtReset).setPw pwOff

/-- PORST_N_ASSERT (R545). -/
def execPorstNAssert (s : State) : Result :=
  .next (if s.power.porstN then (s.resetUnits keptAtReset).modPower (fun p => { p with porstN := false }) else s)

/-- PORST_N_RELEASE (R535, R542, R545). -/
def execPorstNRelease (s : State) : Result :=
  .next (if s.power.porstN then s
    else (s.modPower (fun p => { p with porstN := true })).resetPulse (if s.power.thermalOff then 2 else 0))

/-- PWR_EN_FALL (R535). -/
def execPwrEnFall (s : State) : Result :=
  .next (if !s.power.pwrEn then s
    else
      let s := s.modPower (fun p => { p with pwrEn := false })
      if s.power.porstN && s.pwState ≠ pwOff then (s.nvRecord 0x21 0 0 s.sc).powerOff else s)

/-- PWR_EN_RISE (R535, R542). -/
def execPwrEnRise (s : State) : Result :=
  .next (if s.power.pwrEn then s
    else
      let s := s.modPower (fun p => { p with pwrEn := true })
      if !s.power.porstN || s.pwState ≠ pwOff then s
      else if s.power.thermalOff then (if s.sreg 16 0x7400 1 < 115 * 16 then s.restart 2 else s.inc8 0x7400 0x10 1)
      else s.restart 1)

/-- The first voltage channel of each rail of R560, in the order of its table. -/
def railChannel : List Nat := [0, 8, 12, 16, 18, 19, 25, 29, 33, 35, 37, 38, 39]

/-- UNDERVOLTAGE (R563). `rail` counts the rows of R560; VAON, row 4, has no detector. -/
def execUndervoltage (rail : Nat) (s : State) : Result :=
  inst (decide (rail < 13) && decide (rail ≠ 4))
    (.next (if s.power.porstN && s.pwState ≠ pwOff then
        ((s.nvRecord 0x21 0 (0x100 + railChannel.getD rail 0) s.sc).modPower (fun p => { p with undervoltOff := true })).powerOff
      else s))

/-- VAON_LOW (R563): housekeeping is reset and the deferred queue is lost. -/
def execVaonLow (s : State) : Result :=
  .next ({ s with regs := s.regs.filter (fun e => !keptInOff e.1) }.modPower (fun p =>
    { p with deferred := [], deferredLost := 0, mismatch := List.replicate 32 0, thermalOff := false, undervoltOff := false }))

/-- 01h written to 2000h.0B (R549). -/
def cmdReset (s : State) : Verdict := .ok (s.resetPulse 3)

/-- JTAG_RESET (R569). -/
def execJtagReset (s : State) : Result :=
  .next (if s.power.porstN then (s.tap 0x20 0 0).resetPulse 4 else s.tap 0x20 0 0)

/-! ## Boot (R545, R546) -/

/-- The slot that boots: the boot slot if its image is valid, else the other one, else none (R546). -/
def State.slotToBoot (s : State) : Option Nat :=
  let b := s.nv.bootSlot
  if (s.fwSlot b).check = 1 then some b else if (s.fwSlot (1 - b)).check = 1 then some (1 - b) else none

/-- The boot ROM reports the slots it has tried (7800h.04 and .05). -/
def State.showChecks (s : State) : State :=
  let b := s.nv.bootSlot
  let s := s.setReg 0x7800 (4 + b) (s.fwSlot b).check
  if (s.fwSlot b).check = 1 then s else s.setReg 0x7800 (5 - b) (s.fwSlot (1 - b)).check

/-- A pair as its lockstep check leaves it. -/
def bootPair (ok active : Bool) : Nat := if !ok then 3 else if active then 0 else 1

/-- DICTIONARY_REACHABLE (R545, R546): the pairs `m0` and `m1` have passed their lockstep checks or not; `micros` is the time since release. -/
def execDictionaryReachable (micros : Nat) (m0 m1 : Bool) (s : State) : Result :=
  .next (if !s.power.porstN || s.pwState ≠ pwStarting || s.power.dictUp || s.board.testMode || (!m0 && !m1) then s
    else
      let s := s.showChecks.setReg 0x7800 6 (min micros 0xFFFFFFFF)
      let s := ((s.setReg 0x7020 1 (ofBool (!m0))).setPair 0 (bootPair m0 true)).setPair 1 (bootPair m1 (!m0))
      let s := s.each (List.range 2) (fun p s => s.setReg (0x1010 + p) 2 stOn)
      match s.slotToBoot with
      | some k =>
        let s := ((s.runSlot k).setReg 0x7800 3 k).setReg 0x5C00 1 1
        { s.modPower (fun p => { p with dictUp := true }) with time := { s.time with running := true } }
      | none => (s.setReg 0x7800 1 4).modPower (fun p => { p with dictUp := true, recovery := true }))

/-- Tiles that the non-volatile log and the deferred queue record as failed (R151, R544). -/
def State.loggedTiles (s : State) : List Nat :=
  (s.nv.log.filter (fun p => p.2.keeps)).map (fun p => recInstance p.2.record) ++
  (s.power.deferred.filter (fun r => (NvSlot.mk 1 r).keeps)).map recInstance

/-- The placement of a bay is built (R151). -/
def State.placeBay (s : State) (bay : Nat) (logged bad : List Nat) : State :=
  let isBad := fun t => logged.contains (bay * 68 + t) || bad.contains (bay * 68 + t)
  if (List.range 68).all (fun t => !isBad t) then s
  else
    let fused := (s.board.inService bay).filter (fun t => !isBad t)
    let spares := (List.range 68).filter (fun t => s.board.isSpare bay t && !isBad t)
    let used := fused ++ spares.take (64 - fused.length)
    let serving := (List.range 68).filter (fun t => used.contains t)
    let s := s.each (List.range 68) (fun t s =>
      let g := bay * 68 + t
      if bad.contains g then s.setTileState g 2 0xFF 6
      else if logged.contains g then s.setTileState g 2 0xFF 7
      else if serving.contains t then s.setTileState g 0 (serving.takeWhile (fun u => u < t)).length 0
      else s.setTileState g 1 0xFF 0)
    (s.each (List.range 64) (fun l s => s.setPlacement (bay * 64 + l) 0 (serving.getD l 0x7F))).showBay bay

/-- Tiles FAILED by the log and by the self-test; a tile in both reads SELFTEST, and a self-test failure that the log does not hold is recorded (R151, R522, log 47). -/
def State.placeTiles (s : State) (bad : List Nat) : State :=
  let here := fun g => decide (g < s.board.bays * 68)
  let logged := s.loggedTiles.filter here
  let bad := bad.filter here
  let s := s.each (List.range s.board.bays) (fun bay s => s.placeBay bay logged bad)
  let fresh := bad.filter (fun g => !logged.contains g)
  (s.each fresh (fun g s => s.faultRecord 2 0x0C g 6 noInterruption s.sc)).setReg 0x7800 9 bad.length

/-- Lanes whose calibration failed read FAILED: 0 to 127 receive, 128 to 191 transmit (7800h.0A). -/
def State.failLanes (s : State) (lanes : List Nat) : State :=
  let ls := lanes.filter (fun n => if n < 128 then decide (n / 4 < s.board.rxQuads) else decide (n < 192) && decide ((n - 128) / 4 < s.board.txQuads))
  (s.each ls (fun n s => if n < 128 then s.setLaneState n lnFailed else s.setReg (0x2600 + (n - 128)) 1 lnFailed)).setReg 0x7800 0x0A (min ls.length 255)

/-- The shim map that the self-test builds (R144): a cell it finds faulty takes a spare one. `cells` names a tile once for each. -/
def State.shimMap (s : State) (cells : List Nat) : State :=
  s.each ((cells.filter (fun g => decide (g < s.board.bays * 68))).eraseDups) (fun g s => s.setTile g { s.tile g with spareCells := 4 - cells.count g })

/-- BOOT_COMPLETE (R545): tiles that failed the self-test, the tiles of cells it found faulty, and lanes that failed calibration come with the command. -/
def execBootComplete (micros : Nat) (found : SelfTest) (badLanes : List Nat) (s : State) : Result :=
  .next (if s.pwState = pwStarting && s.power.dictUp && !s.power.recovery && s.power.porstN then
      let s := (((s.dramStart.placeTiles found.tiles).shimMap found.cells).failLanes badLanes).setPw pwRun
      let s := (s.setReg 0x7800 1 3).setReg 0x7800 7 (min micros 0xFFFFFFFF)
      let s := s.nvRecord 0x22 (s.reg 0x7800 3) (s.reg 0x7800 2) (min micros 0xFFFFFFFF)
      if s.power.resetCause = 2 then s.setReg 0x7400 0x10 0 else s
    else s)

/-- FIRMWARE_FLASH_COMPLETE (R518, R546): the slot holds the image, or the write failed. In RECOVERY the part then resets. -/
def execFirmwareFlashComplete (ok : Bool) (s : State) : Result :=
  .next (if s.reg 0x7010 2 = 1 then
      (if ok then
        let s := (s.setSlot s.targetSlot ⟨s.avail.imageVersion, s.avail.imageCrc, 1⟩).setReg 0x7010 2 2
        if s.power.recovery then { s with nv := { s.nv with bootSlot := 0 } }.resetPulse 5 else s
       else s.setReg 0x7010 2 5)
    else s)

/-! ## KEEP (R529 to R533) -/

/-- The conditions of R529. -/
def State.keepOk (s : State) : Bool :=
  let u := s.reg 0x7010 4
  let p := 0x1010 + s.reg 0x2000 8
  s.pwState = pwRun && s.dict.armed.isNone && !s.recovering && !(u = 1 || u = 2 || u = 3)
    && s.status p = stOn && (s.reg p 4 = 2 || s.reg p 4 = 3)

/-- 01h written to 2000h.04 (R529, R548). -/
def cmdKeep (s : State) : Verdict :=
  if s.pwState = pwKeepEntry && s.flag 0x2000 0x0A then .ok (s.setReg 0x2000 0x0A 0)
  else accept s.keepOk dState (((s.setPw pwKeepEntry).modPower (fun p => { p with keepStep := 1, keepSince := s.time.tclk })).keepStop 1).keepAdvance

/-- 01h written to 2000h.05 (R533, R548). -/
def cmdWake (s : State) : Verdict :=
  if s.pwState = pwKeepEntry then .ok (s.setReg 0x2000 0x0A 1) else accept (s.pwState = pwKeep) dState (s.setPw pwKeepExit)

/-- The work in progress of a unit is abandoned (R530). -/
def State.abandonWork (s : State) (u : UnitKind) (idx : Nat) : State :=
  match u with
  | .jig => { s with xarray := { s.xarray with orders := s.xarray.orders.filter (fun o => o.bay ≠ idx - 0x3010) } }
  | .camera => s.modCam (idx - 0x4010) (fun _ => Camera.reset)
  | .front => s.modFront (fun _ => FrontState.reset)
  | .dove => s.modDove (fun _ => DoveState.reset)
  | .gleaner => s.gleanStop
  | .core =>
    let n := idx - 0x5000
    (((s.modCore n (fun c => { c.drain with far := [], responses := [], ending := none })).showFar n).dropRequests (0x10 + n)).setDspRun n dsStopped
  | .dmaChannel => ((s.modDma (idx - 0x5D40) (fun _ => DmaChan.reset)).lockEnd (0x20 + (idx - 0x5D40))).setDmaRun (idx - 0x5D40) dmIdle
  | .list => s.modList (idx - 0x6410) (fun l => { l with active := false })
  | .generator => s.modGen (fun g => { g with owed := 0, inFlight := [] })
  | _ => s

/-- A unit is forced OFF, and counted (2000h.0E). -/
def State.forceOff (s : State) (u : UnitKind) (idx : Nat) : State :=
  let s := if s.unitRuns idx || s.status idx = stPending then s.disableUnit u idx true else s
  (((s.abandonWork u idx).turnOff u idx).setReg idx 2 stOff).inc32 0x2000 0x0E 1

/-- KEEP_TIMEOUT (R530); before keep_timeout its moment has not come (log 15). -/
def execKeepTimeout (s : State) : Result :=
  .next (if s.pwState = pwKeepEntry && decide (s.power.keepSince + s.reg 0x2000 9 * 500000 ≤ s.time.tclk) then
      let s := s.each [1, 2, 3, 4, 5] (fun step s => (s.keepUnits step).foldl (fun s d => if s.status d.2 = stOff then s else s.forceOff d.1 d.2) s)
      s.modPower (fun p => { p with keepStep := 6 })
    else s)

/-- What KEEP loses (R531): lofts, short-sum banks, dump paths, Sheaf buffers and Winnow histories, and with keep_granary clear the granary and the weight stores. -/
def State.keepLoss (s : State) : State :=
  let x := s.xarray
  let x := { x with tiles := x.tiles.map (fun p => (p.1, { p.2 with banks := Tile.reset.banks, fill := 0, spill := none })), dumps := [] }
  let x := if s.flag 0x2000 6 then x else { x with bins := [], weights := [] }
  { s with
    xarray := x,
    crib := { s.crib with lofts := CribState.reset.lofts },
    sheaf := { s.sheaf with rx := [] },
    winnow := { s.winnow with channels := WinnowState.reset.channels, outputs := [] } }

/-- The other Ethernet port stops: the Karosh closes its sessions (R464, R530). -/
def State.stopOtherPort (s : State) : State :=
  let p := 1 - s.reg 0x2000 8
  if s.status (0x1010 + p) = stOff then s else ((s.closePort p).setReg (0x1010 + p) 2 stOff).setReg (0x1010 + p) 4 0

/-- KEEP_ENTRY_COMPLETE (R530): steps 5 to 7, once every unit is OFF; `micros` is the time of the entry. -/
def execKeepEntryComplete (micros : Nat) (s : State) : Result :=
  let s := s.keepAdvance
  .next (if s.pwState = pwKeepEntry && s.power.keepStep = 6 then
      let s := (s.flushEngine.keepLoss).stopOtherPort
      let s := s.each (List.range s.dramN) (fun ch s => s.modChan ch (fun x => { x with rows := [] }))
      let s := if s.flag 0x2000 7 then s else { s with time := { s.time with running := false } }
      let s := ((s.inc32 0x2000 0x0C 1).setReg 0x2000 0x0F (min micros 0xFFFFFFFF)).modPower (fun p => { p with keepStep := 0 })
      if s.flag 0x2000 0x0A then (s.setReg 0x2000 0x0A 0).setPw pwKeepExit else s.setPw pwKeep
    else s)

/-- Every unit that a KEEP has stopped, in the reverse of the order in which they stopped. -/
def State.wakeUnits (s : State) : List (UnitKind × Nat) :=
  ((List.range 2).map (fun p => (UnitKind.port, 0x1010 + p)) ++ [(.ptp, 0x6070)])
  ++ ([4, 3, 2, 1].flatMap (fun k => (s.keepUnits k).reverse))
  ++ (List.range 256).map (fun c => (UnitKind.dowel, 0x6900 + c)) ++ (List.range 64).map (fun n => (UnitKind.counter, 0x6A40 + n))

/-- At exit a unit follows its enable entry (R532, R533). -/
def State.followEnable (s : State) (u : UnitKind) (idx : Nat) : State :=
  if s.flag idx 1 then (if s.status idx = stOff then (s.setReg idx 2 stEnabling).startEnabling u idx else s)
  else if s.status idx = stOff then s else s.disableUnit u idx false

/-- The weight stores reload from the weights in force (R533). -/
def State.reloadWeights (s : State) : State :=
  s.each (List.range 16) (fun g s => s.each (s.groupTiles g) (fun lam s => match s.tileOf lam with | some p => s.loadSlots p g | none => s))

/-- The reference unit restarts in FREERUN (R533). -/
def State.restartRef (s : State) : State :=
  if s.time.running then s
  else ({ s with time := { s.time with running := true } }.enterRef 0 0xFF).reselect

/-- KEEP_EXIT_COMPLETE (R533). -/
def execKeepExitComplete (micros : Nat) (s : State) : Result :=
  .next (if s.pwState = pwKeepExit then
      let s := if s.flag 0x2000 6 then s else s.reloadWeights
      let s := (s.restartRef.setPw pwRun).setReg 0x2000 0x10 (min micros 0xFFFFFFFF)
      s.wakeUnits.foldl (fun s d => s.followEnable d.1 d.2) s
    else s)

/-! ## Housekeeping rounds (R536 to R544) -/

/-- The neighbours of a sensor on the 4 × 8 grid (R537). -/
def sensorNeighbours (n : Nat) : List Nat :=
  (List.range 32).filter (fun m =>
    (m / 8 = n / 8 && (m + 1 = n || n + 1 = m)) || (m % 8 = n % 8 && (m + 8 = n || n + 8 = m)))

/-- The mismatch count of a sensor after a round (R537). -/
def mismatchNext (failed : Nat) (raw : List Int) (old n : Nat) : Nat :=
  let ns := (sensorNeighbours n).filter (fun m => !bitAt failed m)
  let d := 2 * raw.getD n 0 - median2 (ns.map (fun m => raw.getD m 0))
  if 2 ≤ ns.length && decide (2 * 240 < d.natAbs) then old + 1 else 0

/-- The value of a sensor: its reading, or the substitute of a failed one (R537). The manual leaves open how the mean of two readings that differ by
an odd number of steps is rounded, and what stands in when every sensor has failed: `free` is the value drawn for that. -/
def sensorValue (failed : Nat) (raw : List Int) (free : Nat) (n : Nat) : Int :=
  if !bitAt failed n then raw.getD n 0
  else
    let ns := ((sensorNeighbours n).filter (fun m => !bitAt failed m)).map (fun m => raw.getD m 0)
    let all := ((List.range 32).filter (fun m => !bitAt failed m)).map (fun m => raw.getD m 0)
    if !ns.isEmpty then (median2 ns + ((free % 2 : Nat) : Int)) / 2
    else match all with
      | x :: xs => xs.foldl max x
      | [] => toSigned 16 free

/-- The sensor test (R537). -/
def State.sensorTest (s : State) (raw : List Int) : State :=
  let failed := s.reg 0x7412 1
  let counts := (List.range 32).map (fun n => if bitAt failed n then nthD 0 s.power.mismatch n else mismatchNext failed raw (nthD 0 s.power.mismatch n) n)
  let fresh := (List.range 32).filter (fun n => !bitAt failed n && decide (3 ≤ counts.getD n 0))
  let s := s.modPower (fun p => { p with mismatch := counts })
  let s := s.setReg 0x7412 1 (fresh.foldl setBit failed)
  let s := s.setReg 0x7412 2 ((List.range 32).foldl (fun a n => if counts.getD n 0 = 0 then a else setBit a n) 0)
  s.each fresh (fun n s => s.faultRecord 0x0A 0 n 0 noInterruption s.sc)

/-- The place of the largest value, the first among equals. -/
def hottest (vs : List Int) : Nat := (vs.zipIdx.foldl (fun a p => if a.1 < p.1 then p else a) (vs.headD 0, 0)).2

/-- Values, raw readings and T_j of a round (R538, R551). -/
def State.junction (s : State) (raw : List Int) (free : Nat) : State :=
  let vals := (List.range 32).map (sensorValue (s.reg 0x7412 1) raw free)
  let s := s.each (List.range 32) (fun n s => (s.setReg 0x7410 (n + 1) (ofSigned 16 (vals.getD n 0))).setReg 0x7411 (n + 1) (ofSigned 16 (raw.getD n 0)))
  let h := hottest vals
  let tj := vals.getD h 0
  let s := (s.setReg 0x7400 1 (ofSigned 16 tj)).setReg 0x7400 3 h
  s.setReg 0x7400 2 (ofSigned 16 (max tj (s.sreg 16 0x7400 2)))

/-- An action starts at its threshold and ends 5 °C below it (R539). -/
def thermalHold (tj threshold : Int) (was : Bool) : Bool := decide (threshold ≤ tj) || (was && decide (threshold - 80 ≤ tj))

/-- m as a binary32 pattern (R528). -/
def throttleFactor (mode n : Nat) : Nat :=
  match mode with
  | 1 => fmt32.ofInt 2
  | 2 => fmt32.ofInt 4
  | 3 => let q := n * 2 ^ 60 / (n - 1); fmt32.round false (2 * q + ofBool (n * 2 ^ 60 % (n - 1) ≠ 0)) (-61)
  | _ => fmt32.ofInt 1

/-- Warning and throttle (R539, R540). -/
def State.thermalState (s : State) : State :=
  let tj := s.sreg 16 0x7400 1
  let old := s.reg 0x7400 0x0B
  let warn := thermalHold tj (16 * (s.reg 0x7400 4 : Int)) (bitAt old 0)
  let force := s.flag 0x7400 0x0A
  let byTj := thermalHold tj (16 * (s.reg 0x7400 5 : Int)) (bitAt old 1 || (bitAt old 2 && !force))
  let s := s.setReg 0x7400 0x0B (ofBool warn + 2 * ofBool byTj + 4 * ofBool force)
  let s := if warn && !bitAt old 0 then (s.inc32 0x7400 0x0C 1).whenB (s.pwState ≠ pwOff) (fun s => s.fire 0x342 (s.reg 0x7400 3)) else s
  let on := byTj || force
  let s := if on && !(bitAt old 1 || bitAt old 2) then s.inc32 0x7400 0x0D 1 else s
  let mode := if on then s.reg 0x7400 8 else 0
  let s := s.modPower (fun p => { p with skipN := s.reg 0x7400 9 })
  (s.setReg 0x2000 2 mode).setReg 0x2000 3 (throttleFactor mode (s.reg 0x7400 9))

/-- Thermal shutdown (R541). -/
def State.thermalShutdown (s : State) : State :=
  if s.pwState ≠ pwOff && s.power.porstN && decide (120 * 16 ≤ s.sreg 16 0x7400 1) then
    ((s.nvRecord 0x20 (s.reg 0x7400 3) (s.reg 0x7400 1) s.sc).modPower (fun p => { p with thermalOff := true })).powerOff
  else s

/-- Deferred records go to the log, oldest first (R544). -/
def State.drainDeferred (s : State) : State :=
  if s.nvWindow then
    let rs := s.power.deferred
    (s.modPower (fun p => { p with deferred := [] })).each rs (fun r s => s.nvPlace r)
  else s

/-- Times in ms that a round adds to (7400h.0E, .0F, 2000h.0D). -/
def State.roundTimes (s : State) : State :=
  let s := s.inc64 0x7400 0x0F 1
  let s := if s.pwState = pwKeep then s.inc64 0x2000 0x0D 1 else s
  if s.pwState = pwRun && s.reg 0x2000 2 ≠ 0 then s.inc64 0x7400 0x0E 1 else s

/-- HOUSEKEEPING_ROUND (R536): the raw readings of the round, in the units of its channels. -/
def execHousekeepingRound (temps : List Int) (volts amps : List Nat) (s : State) : Result :=
  let s := s.each (List.range 40) (fun v s => s.setReg 0x7420 (v + 1) (volts.getD v 0 % 65536))
  let s := s.each (List.range 24) (fun c s => s.setReg 0x7430 (c + 1) (amps.getD c 0 % 65536))
  let (free, s) := s.draw 16
  let s := (s.sensorTest temps).junction temps free
  .next (s.roundTimes.thermalState.thermalShutdown.drainDeferred)

/-! ## Session commands of chapter 18 are in the command file. Write rules: -/

/-- The refusal a write to an entry of chapter 18 meets, or 0 (R539). -/
def powerCheck (s : State) (idx sub v : Nat) : Nat :=
  if idx = 0x7400 && sub = 4 then (if s.reg 0x7400 5 < v then dRange else 0)
  else if idx = 0x7400 && sub = 5 then (if v < s.reg 0x7400 4 then dRange else 0)
  else 0

/-- Entries of chapters 17 and 18 that are read from the state. -/
def powerView (s : State) (idx sub : Nat) : Option Nat :=
  if idx = 0x7000 then match sub with | 1 => some (ofBool s.recovering) | 4 => some s.conditions | 6 => some (ofBool s.faultN) | _ => none
  else if idx = 0x7480 then
    let slot := lookup s.nv.log (s.reg 0x7480 3)
    match sub with
    | 1 => some s.nv.newest
    | 2 => some s.nv.written
    | 4 => some (match slot with | some x => x.record | none => 0)
    | 5 => some (match slot with | some x => x.state | none => 0)
    | 6 => some s.power.deferred.length
    | 7 => some s.power.deferredLost
    | _ => none
  else if idx = 0x7481 && 1 ≤ sub && sub ≤ 0x10 then some (s.power.deferred.getD (sub - 1) 0)
  else none

end Sys2Proof.Machine
end

