-- ==== Sys2Proof/Machine/DictSvc.lean ====
section
/-! DEFINITION. The dictionary service (chapter 15): reading entries, the checks of a write, the pending and armed sets, and the epoch boundary. -/

namespace Sys2Proof.Machine

/-! ## Status codes (R475) -/

abbrev stOk : Nat := 0
abbrev stNoEntry : Nat := 1
abbrev stAbsent : Nat := 2
abbrev stRole : Nat := 3
abbrev stAccess : Nat := 4
abbrev stLength : Nat := 5
abbrev stRefused : Nat := 6
abbrev stDebugOff : Nat := 7
abbrev stNotDone : Nat := 8
abbrev stBadOp : Nat := 9
abbrev stTransfer : Nat := 10
abbrev stBusy : Nat := 11
abbrev stRoom : Nat := 12

/-! ## Presence (R7, R475) -/

/-- An index belongs to a unit that is absent in this variant (R4, R5). The Sheaf groups number as many as the quads: R7 and chapter 2 give the
EFK4096-I no count of its own, and the model takes receive groups 16 to 31 and transmit groups 8 to 15 as absent (DESIGN CHOICE, log 54). -/
def Board.absent (b : Board) (idx : Nat) : Bool :=
  let at_ := fun lo n have_ => decide (lo ≤ idx) && decide (idx < lo + n) && decide (have_ ≤ idx - lo)
  at_ 0x2100 4 b.bays || at_ 0x2110 4 b.bays || at_ 0x2810 4 b.bays || at_ 0x3010 4 b.bays || at_ 0x3020 4 b.bays
  || at_ 0x2200 272 (68 * b.bays)
  || at_ 0x2410 32 b.rxQuads || at_ 0x2440 32 b.rxQuads || at_ 0x2500 128 (4 * b.rxQuads)
  || at_ 0x2430 16 b.txQuads || at_ 0x2460 16 b.txQuads || at_ 0x2600 64 (4 * b.txQuads)
  || at_ 0x5000 16 b.cores || at_ 0x5100 16 b.cores || at_ 0xF500 16 b.cores
  || at_ 0x5810 24 b.channels || at_ 0x5840 24 b.channels
  || (!b.inspect && (decide (0x4000 ≤ idx) && decide (idx < 0x4800) || decide (0x4880 ≤ idx) && decide (idx < 0x4888)
        || decide (0x6400 ≤ idx) && decide (idx < 0x6500)))

/-- What RECOVERY serves (R546). -/
def servedInRecovery (idx sub : Nat) : Bool :=
  (decide (0x1000 ≤ idx) && decide (idx < 0x1100)) || (idx = 0x7010 && (sub = 1 || sub = 2)) || idx = 0x7800

/-! ## Reading (R453, R454, R481) -/

/-- The entry that 1102h.01 selects. -/
def State.selected (s : State) : Nat := s.reg 0x1102 1 % 2 ^ 24

/-- Where an entry is staged: 1 pending, 2 armed, 3 both. -/
def State.whereStaged (s : State) (k : Nat) : Nat :=
  ofBool (lookup s.dict.pendingSet k).isSome + 2 * ofBool (lookup s.armedSet k).isSome

/-- The size of the type of an entry. -/
def sizeOf (idx sub : Nat) : Nat := match rowOf idx sub with | some r => r.ty.size | none => 0

/-- A staged value as it travels (R453). -/
def stagedBytes (k : Nat) : Option Staged → Bytes
  | none => []
  | some x => match x.value with | .num v => beBytes (sizeOf (k / 256) (k % 256)) v | .dom b => b

/-- 1103h.01: the entries of the pending and armed sets, ascending. -/
def State.stagedList (s : State) : Bytes :=
  let keys := (s.dict.pendingSet ++ s.armedSet).foldl (fun m p => insertKey m p.1 ()) ([] : List (Nat × Unit))
  keys.flatMap (fun p => beBytes 4 (p.1 * 256 + s.whereStaged p.1))

/-- Entries of chapter 15 that are read from the state. -/
def dictView (s : State) (idx sub : Nat) : Option Nat :=
  if idx = 0x1040 && sub = 5 then some ((List.range 4).foldl (fun a i => if (nthD none s.nv.keys i).isSome then a + 2 ^ i else a) 0)
  else if idx = 0x1100 then
    match sub with
    | 3 => some (ofBool s.dict.armed.isSome)
    | 4 => some (match s.dict.armed with | some a => a.1 | none => 0)
    | 5 => some s.dict.pendingSet.length
    | 6 => some s.armedSet.length
    | _ => none
  else if idx = 0x1102 then
    match sub with
    | 2 => some (s.whereStaged s.selected)
    | 5 => some (match lookup s.dict.pendingSet s.selected with | some x => x.writer | none => 0)
    | _ => none
  else none

/-- DOMAIN entries of chapter 15 that are read from the state. -/
def dictDomView (s : State) (idx sub : Nat) : Option Bytes :=
  if idx = 0x1102 && sub = 3 then some (stagedBytes s.selected (lookup s.dict.pendingSet s.selected))
  else if idx = 0x1102 && sub = 4 then some (stagedBytes s.selected (lookup s.armedSet s.selected))
  else if idx = 0x1103 && sub = 1 then some s.stagedList
  else none

/-- Entries of chapters 13 and 16 that are read from the state. -/
def timeView (s : State) (idx sub : Nat) : Option Nat :=
  if idx = 0x6020 && sub = 1 then some s.sc
  else if 0x6040 ≤ idx && idx ≤ 0x6047 then
    match sub with
    | 1 => some (s.tb80 (idx - 0x6040))
    | 4 => some (ofSigned 64 ((s.tb (idx - 0x6040)).outstanding / ((2 ^ 32 : Nat) : Int)))
    | 8 => some (s.tbInc (idx - 0x6040))
    | _ => none
  else if idx = 0x6802 then
    let x := s.input (s.reg 0x6802 1)
    match sub with | 2 => some x.merged | 3 => some x.overruns | 4 => some (ofBool x.queued.isSome) | 5 => some x.delivered | _ => none
  else if 0x6A40 ≤ idx && idx ≤ 0x6A7F && sub = 6 then some (s.counter (idx - 0x6A40))
  else none

/-- What a read of a number entry returns. -/
def State.readNum (s : State) (idx sub : Nat) : Nat :=
  let v := match idx / 4096 with
    | 1 => dictView s idx sub
    | 2 => cribView s idx sub
    | 3 => xarrayView s idx sub
    | 4 => if idx < 0x4800 then cameraView s idx sub else winnowView s idx sub
    | 6 => timeView s idx sub
    | 7 => powerView s idx sub
    | 15 => if idx < 0xF500 then xarrayView s idx sub else dspView s idx sub
    | _ => none
  match v with | some v => v | none => s.reg idx sub

/-- What a read of a DOMAIN entry sees (R473). -/
def State.readDom (s : State) (idx sub : Nat) : Bytes :=
  let v := match idx / 4096 with
    | 1 => dictDomView s idx sub
    | 4 => doveDomView s idx sub
    | 5 => dramDomView s idx sub
    | 15 => xarrayDomView s idx sub
    | _ => none
  match v with | some b => b | none => s.dom idx sub

/-! ## The first checks (R7, R454, R456, R463) -/

/-- A role may write entries of a write role. -/
def WriteRole.allows (w : WriteRole) (role : Nat) : Bool :=
  match w with
  | .operator | .nobody => decide (1 ≤ role)
  | .integratorOrService => decide (2 ≤ role)
  | .integrator => role = 2
  | .service => role = 3

/-- The row an operation meets, or the status that ends it. An entry that the variant lacks is UNIT_ABSENT before any other check, in the debug
window too (R7, R475). An entry that RECOVERY does not serve is REFUSED: R546 names no status (DESIGN CHOICE, log 54). -/
def State.gate (s : State) (sess idx sub : Nat) : Except Nat Row :=
  match rowOf idx sub with
  | some r =>
    if s.board.absent idx then .error stAbsent
    else if 0xF000 ≤ idx && !s.flag 0x1050 1 then .error stDebugOff
    else if s.power.recovery && !servedInRecovery idx sub then .error stRefused
    else if 0xF000 ≤ idx && s.role sess ≠ 3 then .error stRole
    else .ok r
  | none => .error (if 0xF000 ≤ idx && !s.flag 0x1050 1 then stDebugOff else stNoEntry)

/-- The row a write meets: role, then access. -/
def State.writeGate (s : State) (sess idx sub : Nat) : Except Nat Row :=
  match s.gate sess idx sub with
  | .error e => .error e
  | .ok r => if !r.role.allows (s.role sess) then .error stRole else if r.acc = .ro then .error stAccess else .ok r

/-! ## The owning chapters' checks -/

/-- How entries will stand: numbers, and images of the cores (R465, R470). -/
structure Ahead where
  num : Nat → Nat → Nat
  image : Nat → Option Bytes

/-- A staged DOMAIN value in a set. -/
def stagedDom (set : List (Nat × Staged)) (idx sub : Nat) : Option Bytes :=
  match stagedIn set idx sub with | some (.dom b) => some b | _ => none

/-- How entries stand once the numbers of one set, and the images of another, are live. -/
def State.ahead (s : State) (nums doms : List (Nat × Staged)) : Ahead :=
  { num := fun idx sub => match stagedIn nums idx sub with | some (.num v) => v | _ => s.reg idx sub
    image := fun n => stagedDom doms (0x5100 + n) 1 }

/-- How entries stand for a staged write: pending values where they exist (R465). -/
def State.aheadStaged (s : State) : Ahead := s.ahead s.dict.pendingSet s.dict.pendingSet

/-- How entries stand for a live write: live numbers, with pending images (R307). -/
def State.aheadLive (s : State) : Ahead := s.ahead [] s.dict.pendingSet

/-- Every unit that uses DRAM is OFF (R337): those with a DRAM address entry, the cores and the DMA channels. -/
def State.dramUsersOff (s : State) : Bool :=
  let off := fun lo n => (List.range n).all (fun i => s.reg (lo + i) 2 = stOff)
  off 0x2800 1 && off 0x3010 4 && off 0x3800 1 && off 0x4000 1 && off 0x4400 1 && off 0x4480 1 && off 0x5000 16 && off 0x5D40 64

/-- The owning unit of an RWX entry is OFF (R26, R454). -/
def State.ownerOff (s : State) (idx sub : Nat) : Bool :=
  match idx / 256 with
  | 0x24 => sheafOwnerOff s idx sub
  | 0x28 => cribOwnerOff s
  | 0x21 | 0x30 | 0x34 => xarrayOwnerOff s idx
  | 0x38 | 0x39 => outputsOwnerOff s idx
  | 0x40 => cameraOwnerOff s idx
  | 0x44 => if idx < 0x4480 then doveOwnerOff s idx sub else gleanOwnerOff s
  | 0x48 => winnowOwnerOff s idx
  | 0x50 => dspOwnerOff s idx
  | 0x58 => s.dramUsersOff
  | 0x60 => s.reg 0x6070 2 = stOff
  | _ => s.reg idx 2 = stOff

/-- A mask of ones above zeros (R477). -/
def netmaskOk (v : Nat) : Bool := ((v ^^^ 0xFFFFFFFF) &&& ((v ^^^ 0xFFFFFFFF) + 1)) = 0

/-- The refusal a write to 1102h.01 meets, or 0 (R481). -/
def State.selectCheck (s : State) (v : Nat) : Nat :=
  if 2 ^ 24 ≤ v then dRange
  else match rowOf (v / 256) (v % 256) with
    | some r => if r.acc = .rws then (if s.board.absent (v / 256) then dRange else 0) else dRule
    | none => dRule

/-- The refusal a number meets in its owning chapter, or 0. -/
def State.entryCheck (s : State) (a : Ahead) (sess idx sub v : Nat) : Nat :=
  match idx / 256 with
  | 0x10 =>
    if (idx = 0x1010 || idx = 0x1011) && sub = 7 then (if netmaskOk v then 0 else dRange)
    else if 0x1030 ≤ idx && idx < 0x1038 && sub = 8 then (if idx = sessIdx sess then 0 else dRule)
    else 0
  | 0x11 => if idx = 0x1102 && sub = 1 then s.selectCheck v else 0
  | 0x24 | 0x25 | 0x26 | 0x27 => sheafCheck s a.num idx sub v
  | 0x28 | 0x29 | 0x2A | 0x2B => cribCheck s a.num idx sub v
  | 0x21 | 0x30 | 0x34 | 0xF4 => xarrayCheck s idx sub v
  | 0x38 | 0x39 => outputsCheck s a.num idx sub v
  | 0x40 => cameraCheck s a.num idx sub v
  | 0x44 => if idx < 0x4480 then doveCheck s idx sub v else gleanCheck s a.num idx sub v
  | 0x48 => winnowCheck s idx sub v
  | 0x50 | 0xF5 => dspCheck s (a.image (idx % 16)) idx sub v
  | 0x58 => dramCheck s idx sub v
  | 0x5C => windowCheck s a.num idx sub v
  | 0x60 => timingCheck s idx sub v
  | 0x64 => positionCheck s idx sub v
  | 0x68 | 0x69 => dowelCheck s sess idx sub v
  | 0x74 => powerCheck s idx sub v
  | _ => 0

/-- The refusal a DOMAIN value meets in its owning chapter, and the state with what the check itself records. -/
def State.domCheck (s : State) (a : Ahead) (idx sub : Nat) (bs : Bytes) : Nat × State :=
  match idx / 256 with
  | 0x28 => (cribDomCheck bs, s)
  | 0x30 => (cutListCheck bs, s)
  | 0x38 => (outputsDomCheck s idx bs, s)
  | 0x40 => (cameraDomCheck s idx sub bs, s)
  | 0x44 => (if idx = 0x4440 then tapsCheck bs else gleanDomCheck s bs, s)
  | 0x51 => s.checkImage (idx - 0x5100) bs
  | 0x58 => (dramDomCheck s bs, s)
  | _ => (0, s)

/-! ## Staged writes (R465, R471) -/

/-- The entries whose staged values the dictionary store does not hold (R197, R471). -/
def keptElsewhere (k : Nat) : Bool := decide (0x3880 ≤ k / 256) && decide (k / 256 < 0x3890)

/-- Bytes of the dictionary store in use, but for the pending value of one entry. -/
def State.storeUsed (s : State) (skip : Nat) : Nat :=
  let size := fun (p : Nat × Staged) => if keptElsewhere p.1 then 0 else match p.2.value with | .dom b => b.length | .num _ => 0
  ((s.dict.pendingSet.filter (fun p => p.1 ≠ skip)).map size).sum + (s.armedSet.map size).sum
    + (s.dict.sessions.map (fun x => match x.transfer with | some t => t.total | none => 0)).sum

/-- A value would go beyond a limit of R471. -/
def State.storeFull (s : State) (k : Nat) (v : StagedVal) : Bool :=
  ((lookup s.dict.pendingSet k).isNone && decide (4096 ≤ s.dict.pendingSet.length)) ||
  (match v with | .num _ => false | .dom b => !keptElsewhere k && decide (8388608 < s.storeUsed k + b.length))

/-- The DOMAIN entries that show the staged sets have new values (R473). -/
def State.stagedChanged (s old : State) : State :=
  [(0x1102, 3), (0x1102, 4), (0x1103, 1)].foldl (fun s p => if s.readDom p.1 p.2 = old.readDom p.1 p.2 then s else s.bumpDom p.1 p.2) s

/-- Replace the staged sets. -/
def State.setStaged (s : State) (pend : List (Nat × Staged)) (armed : Option (Nat × List (Nat × Staged))) : State :=
  { s with dict := { s.dict with pendingSet := pend, armed := armed } }.stagedChanged s

/-- A checked staged write enters the pending set (R26, R30, R465); pending weights go to their place in DRAM (R197). -/
def State.stage (s : State) (sess k : Nat) (v : StagedVal) : Verdict :=
  if s.storeFull k v then .error dStore
  else
    let clash := match lookup s.dict.pendingSet k with | some x => decide (x.writer ≠ sess) | none => false
    let s := s.whenB clash (fun s => s.inc32 0x1100 7 1)
    let s := s.setStaged (insertKey s.dict.pendingSet k ⟨v, sess⟩) s.dict.armed
    .ok (match v with | .dom b => if keptElsewhere k then s.keepWeights (k / 256 - 0x3880) true b else s | .num _ => s)

/-! ## Live writes (R26, R30) -/

/-- A live write is noted; one that overwrites another session's since the last boundary is a conflict (R30). -/
def State.liveWrite (s : State) (sess k : Nat) : State :=
  let s := s.whenB ((lookup s.dict.liveWriters k).any (fun w => w ≠ sess)) (fun s => s.inc32 0x1100 7 1)
  { s with dict := { s.dict with liveWriters := insertKey s.dict.liveWriters k sess } }

/-- The idle time left follows a changed timeout (R462). -/
def State.idleChanged (s : State) (old new : Nat) : State :=
  s.each ((List.range 8).map (· + 1)) (fun k s => if s.sessionOpen k then s.setReg (sessIdx k) 9 (s.reg (sessIdx k) 9 + new - old) else s)

/-- The DOMAIN entries of the debug window show another bin or bank (R473). -/
def State.windowMoved (s : State) (sub : Nat) : State := if sub = 6 then s.bumpDom 0xF400 7 else s.bumpDom 0xF400 4

/-- A number becomes the live value of an entry, with what its owning chapter does then. -/
def State.setLive (s : State) (idx sub v : Nat) : State :=
  let old := s.reg idx sub
  let t := s.setReg idx sub v
  match idx / 256 with
  | 0x10 => if idx = 0x1038 && sub = 2 then t.idleChanged old v else t
  | 0x11 => if idx = 0x1102 then t.stagedChanged s else t
  | 0x24 | 0x27 => sheafAfter t idx sub old
  | 0x28 => if idx = 0x2800 && sub = 7 then t.forgetSeqs 1 (fun b => bitAt v b && !bitAt old b) else t
  | 0x34 => xarrayAfter t idx sub old
  | 0x36 | 0x38 => outputsAfter t idx sub
  | 0x58 => dramAfter t idx sub old
  | 0x60 => timingAfter t idx sub
  | 0x64 => positionAfter t idx sub
  | 0x6A => dowelAfter t idx sub
  | 0xF4 => let t := t.windowMoved sub; if sub = 1 then t.windowMoved 6 else t
  | 0xF5 => if sub = 9 then s.setDspRegs (idx - 0xF500) (beBytes 356 v) else t
  | _ => t

/-- A written enable entry (R575), or any other live number. -/
def State.writeLive (s : State) (idx sub v : Nat) : Verdict :=
  match (if sub = 1 then unitKind idx else none) with
  | some u => if v = 1 then s.enableUnit u idx else .ok (s.disableWritten u idx)
  | none => .ok (s.setLive idx sub v)

/-- A DOMAIN becomes live: the firmware image goes to its flash slot (R518), the others hold their bytes. -/
def State.writeLiveDom (s : State) (idx sub : Nat) (bs : Bytes) : Nat × State :=
  if idx = 0x7010 then
    let r := s.writeImage bs
    (r.1, if r.1 = 0 then r.2.setDom idx sub bs else r.2)
  else (0, s.setDom idx sub bs)

/-! ## Commit (R27, R469) -/

/-- The SC that will be held some TCLK ticks from now (R413, R414). -/
def State.scAfter (s : State) (ticks : Nat) : Nat := s.sc + (s.time.scAcc + ticks * s.reg 0x6000 3) / 500000000

/-- The refusal a commit meets, or 0. -/
def State.commitCheck (s : State) (c : Nat) : Nat :=
  if s.dict.armed.isSome then dArmed
  else if c < s.scAfter 500000 || s.scAfter 30000000000 < c then dCommitSc else 0

/-- SC_c written to 1101h.01. -/
def cmdCommit (c : Nat) (s : State) : Verdict :=
  if s.commitCheck c = 0 then .ok ((s.setStaged [] (some (c, s.dict.pendingSet))).inc32 0x1101 4 1) else .error (s.commitCheck c)

/-- A refused commit is counted and logged. -/
def State.commitRefused (s : State) (sess c detail : Nat) : State := (s.inc32 0x1101 5 1).abortLog 1 sess 0 0 detail c

/-- 01h written to 1101h.02. -/
def cmdDiscard (sess : Nat) (s : State) : Verdict := .ok ((s.setStaged [] s.dict.armed).abortLog 2 sess 0 0 0 0)

/-- 01h written to 1101h.03: SC_c must be 1 ms ahead. -/
def cmdDisarm (sess : Nat) (s : State) : Verdict :=
  match s.dict.armed with
  | some a => if a.1 < s.scAfter 500000 then .error dState else .ok ((s.setStaged s.dict.pendingSet none).abortLog 3 sess 0 0 0 a.1)
  | none => .error dState

/-! ## The epoch boundary (R28, R470) -/

/-- The apply point of an entry. -/
def applyOf (k : Nat) : Apply := match rowOf (k / 256) (k % 256) with | some r => r.apply | none => .live

/-- An armed entry is checked again: the refusal detail, and the state with what the check records (R470). -/
def State.recheck (s : State) (set : List (Nat × Staged)) (k : Nat) (v : StagedVal) : Nat × State :=
  let live := set.filter (fun p => applyOf p.1 = applyOf k)
  let a := s.ahead live live
  match v with
  | .num v => (s.entryCheck a 0 (k / 256) (k % 256) v, s)
  | .dom b => s.domCheck a (k / 256) (k % 256) b

/-- The armed entries that pass, ascending, and the state with every skip recorded. -/
def State.sift (s : State) (set : List (Nat × Staged)) (c : Nat) : List (Nat × Staged) → List (Nat × Staged) × State
  | [] => ([], s)
  | p :: ps =>
    let r := s.recheck set p.1 p.2.value
    if r.1 = 0 then
      let q := r.2.sift set c ps
      (p :: q.1, q.2)
    else ((r.2.inc32 0x1100 8 1).abortLog 4 0xFF (p.1 / 256) (p.1 % 256) r.1 c).sift set c ps

/-- The value of an entry before a boundary. -/
def State.before (s : State) (p : Nat × Staged) (c : Nat) : Past :=
  ⟨p.1, c, match p.2.value with | .num _ => .num (s.reg (p.1 / 256) (p.1 % 256)) | .dom _ => .dom (s.dom (p.1 / 256) (p.1 % 256))⟩

/-- An armed value becomes the live one. -/
def State.takeStaged (s : State) (p : Nat × Staged) : State :=
  match p.2.value with
  | .num v => s.setReg (p.1 / 256) (p.1 % 256) v
  | .dom b => s.setDom (p.1 / 256) (p.1 % 256) b

/-- What an entry that has become live sets in motion in its owning chapter. `old` is its number before. -/
def State.applied (s : State) (c k old : Nat) : State :=
  let idx := k / 256
  let sub := k % 256
  match idx / 256 with
  | 0x10 => s.closePort (idx - 0x1010)
  | 0x27 => sheafAfter s idx sub old
  | 0x30 => s.cutListLive (idx - 0x3020) c
  | 0x38 => if 0x3880 ≤ idx then s.weightsLive (idx - 0x3880) c else s
  | 0x51 => s.dspImageLive (idx - 0x5100)
  | _ => s

/-- Entries of camera settings among the keys, as camera and sub-index (R226). -/
def settingKeys (ks : List Nat) : List (Nat × Nat) :=
  (ks.filter (fun k => decide (0x4030 ≤ k / 256) && decide (k / 256 < 0x4040))).map (fun k => (k / 256 - 0x4030, k % 256))

/-- The armed set becomes live at the epoch boundary (R28, R470, R474). -/
def State.boundary (s : State) (c : Nat) (set : List (Nat × Staged)) : State :=
  let r := (s.setStaged s.dict.pendingSet none).sift set c set
  let taken := r.1
  let was := r.2
  let dict := { was.dict with past := was.dict.past ++ taken.map (fun p => was.before p c), boundaries := was.dict.boundaries ++ [c], liveWriters := [] }
  let now := ({ was with dict := dict }.setReg 0x1100 1 ((was.reg 0x1100 1 + 1) % 2 ^ 32)).setReg 0x1100 2 c
  let now := now.each taken (fun p s => s.takeStaged p)
  let now := now.each taken (fun p s => s.applied c p.1 (was.reg (p.1 / 256) (p.1 % 256)))
  let keys := taken.map (fun p => p.1)
  let changed := keys.filter (fun k => was.reg (k / 256) (k % 256) ≠ now.reg (k / 256) (k % 256))
  let now := (now.settingsLive (settingKeys changed)).windowsLive keys
  now.notify 0 1 (beBytes 4 (now.reg 0x1100 1) ++ beBytes 8 c ++ zeroBytes 4)

/-- EPOCH_BOUNDARY (R28): the SC held in TCLK is SC_c or more; before that its moment has not come (log 15). -/
def execEpochBoundary (s : State) : Result :=
  match s.dict.armed with
  | some a => if s.time.running && decide (a.1 ≤ s.sc) then .next (s.boundary a.1 a.2) else .next s
  | none => .next s

/-! ## DESCRIBE (R466) -/

/-- The 16 bytes of DESCRIBE. -/
def Row.describe (r : Row) : Bytes :=
  let size := match r.ty with | .domain n => n | t => t.size
  beBytes 1 r.ty.code ++ beBytes 1 r.acc.code ++ beBytes 1 r.apply.code ++ beBytes 1 r.role.code ++ beBytes 4 size ++ zeroBytes 8

end Sys2Proof.Machine
end

