-- ==== Sys2Proof/Machine/Commands.lean ====
section
/-! DEFINITION. Writing an entry (R454, R465): the CMD entries of every chapter, the order of the checks, and the commands that
are single writes of one entry by an open session. -/

namespace Sys2Proof.Machine

/-! ## Session commands (R479, R480) -/

/-- 01h written to 1030h+k-1.0B. -/
def cmdSessionClose (sess k : Nat) (s : State) : Verdict :=
  if sess ≠ k && s.role sess ≠ 2 then .error dRule else if !s.sessionOpen k then .error dState else .ok (s.closeSession k true)

/-- A key written to 1040h.01 to .04: zeros unset it, and every other session of the role closes. -/
def cmdKeySet (sess role : Nat) (newKey : Bytes) (s : State) : Verdict :=
  let zero := newKey.all (fun b => b = 0)
  if zero && role = 2 then .error dRule
  else
    let s := { s with nv := { s.nv with keys := modNth (fun _ => if zero then none else some newKey) s.nv.keys role } }
    .ok (s.closeWhere (fun k => k ≠ sess && s.role k = role))

/-- 01h or 02h written to 1050h.02. -/
def cmdDebug (sess v : Nat) (s : State) : Verdict :=
  if v = 1 then accept (!s.flag 0x1050 1) dState (s.debugEnter sess) else accept (s.flag 0x1050 1) dState s.debugLeave

/-! ## CMD entries -/

/-- CMD entries of chapters 1, 15, 17 and 18. -/
def State.systemCmd (s : State) (sess idx sub v : Nat) (data : Bytes) : Verdict :=
  if 0x1030 ≤ idx && idx < 0x1038 then cmdSessionClose sess (idx - 0x102F) s
  else if idx = 0x1040 then cmdKeySet sess (sub - 1) data s
  else if idx = 0x1050 then cmdDebug sess v s
  else if idx = 0x1101 then (match sub with | 1 => cmdCommit v s | 2 => cmdDiscard sess s | _ => cmdDisarm sess s)
  else if idx = 0x2000 then (match sub with | 4 => cmdKeep s | 5 => cmdWake s | _ => cmdReset s)
  else if idx = 0x7010 then cmdActivate s
  else cmdFailover s

/-- CMD entries of chapters 2 to 6. -/
def State.arrayCmd (s : State) (idx sub : Nat) : Verdict :=
  if 0x2200 ≤ idx && idx < 0x2310 then cmdRetest (idx - 0x2200) s
  else if idx = 0x2400 then cmdSheafClear s
  else if idx = 0x2402 then cmdPrbsInject s
  else if idx = 0x2803 then cmdFire s
  else if idx = 0x2804 then (if sub = 7 then cmdReadoutStart s else cmdReadoutAbort s)
  else if 0x2840 ≤ idx && idx < 0x2880 then cmdSiloRelease (idx - 0x2840) s
  else cmdJigRestart (idx - 0x3010) s

/-- CMD entries of chapters 7 to 9. -/
def State.inspectCmd (s : State) (idx sub : Nat) : Verdict :=
  if 0x40C0 ≤ idx && idx < 0x4100 then (if sub = 4 then cmdHold (idx - 0x40C0) s else cmdSlotRelease (idx - 0x40C0) s)
  else if idx < 0x5000 then cmdClearCorr (idx - 0x4410) s
  else match sub with
    | 1 => cmdDspHalt (idx - 0xF500) s
    | 2 => cmdDspResume (idx - 0xF500) s
    | _ => cmdDspStep (idx - 0xF500) s

/-- CMD entries of chapters 11 and 12. -/
def State.memoryCmd (s : State) (idx sub v : Nat) : Verdict :=
  if idx = 0x5800 then cmdFreqChange s
  else if idx < 0x5840 then (if sub = 0x0D then cmdDeclareLost (idx - 0x5810) s else cmdRebuild (idx - 0x5810) s)
  else if idx < 0x5880 then (if sub = 3 then cmdApplyDelays (idx - 0x5840) s else cmdRecalibrate (idx - 0x5840) s)
  else if idx = 0x5880 then cmdStoreDelays s
  else if idx = 0x5C01 then (if sub = 1 then cmdInvWindow v s else cmdInvAll s)
  else match sub with
    | 7 => cmdDmaStart (idx - 0x5D40) s
    | 8 => cmdDmaAbort (idx - 0x5D40) s
    | _ => if v = 1 then cmdDmaResume (idx - 0x5D40) s else cmdDmaResumeNext (idx - 0x5D40) s

/-- CMD entries of chapters 13, 14 and 16. -/
def State.timeCmd (s : State) (idx sub v : Nat) : Verdict :=
  if idx = 0x6020 then cmdScLoad s
  else if idx < 0x6050 then (if sub = 3 then cmdAdjust (idx - 0x6040) (toSigned 64 v) s else cmdTbStep (idx - 0x6040) s)
  else if idx < 0x6410 then cmdPreset (idx - 0x6400) s
  else if idx < 0x6500 then (if sub = 0x0B then cmdPlace (idx - 0x6410) s else cmdCompareClear (idx - 0x6410) s)
  else if idx = 0x6800 then cmdSoft v s
  else if idx < 0x6A00 then cmdRelease (idx - 0x6830) s
  else if idx < 0x6A40 then cmdSnapNow (idx - 0x6A10) s
  else cmdCounterClear (idx - 0x6A40) s

/-- The CMD entries of units that KEEP stops (R530, R532). -/
def State.cmdStopped (s : State) (idx : Nat) : Bool :=
  if idx < 0x2100 || (0x7000 ≤ idx && idx < 0x8000) then false
  else if 0x6000 ≤ idx && idx < 0x7000 then !s.flag 0x2000 7 || (decide (0x6400 ≤ idx) && decide (idx < 0x6500))
  else true

/-- A named value written to a CMD entry: the new state, or the refusal detail (R454, R532). -/
def State.command (s : State) (sess idx sub v : Nat) (data : Bytes) : Verdict :=
  if s.pwState = pwKeep && (s.cmdStopped idx || (idx = 0x1101 && sub = 1)) then .error dState
  else match idx / 4096 with
    | 1 | 7 => s.systemCmd sess idx sub v data
    | 2 => if idx = 0x2000 then s.systemCmd sess idx sub v data else s.arrayCmd idx sub
    | 3 => s.arrayCmd idx sub
    | 4 | 15 => s.inspectCmd idx sub
    | 5 => s.memoryCmd idx sub v
    | _ => s.timeCmd idx sub v

/-- What a refused command leaves behind; a misaligned start address is reported as MISALIGN (R387). -/
def State.commandRefused (s : State) (sess idx sub v detail : Nat) : State :=
  if idx = 0x1101 && sub = 1 then (if s.pwState = pwKeep then s else s.commitRefused sess v detail)
  else if idx = 0x2804 && sub = 7 then s.readoutRefused
  else if 0x5840 ≤ idx && idx < 0x5860 && sub = 5 then s.recalRefused (idx - 0x5840)
  else if idx = 0x5800 && sub = 0x0F then s.freqRefused
  else if 0x5D40 ≤ idx && idx < 0x5D80 && sub = 7 && detail = dRule then s.setReg idx 0x0A cMisalign
  else s

/-! ## Writing (R453, R454, R465) -/

/-- What an operation answers: status, REFUSED or TRANSFER detail, and its data. -/
structure Answer where
  status : Nat
  detail : Nat
  data : Bytes
  deriving DecidableEq, Repr

/-- A status with no detail and no data. -/
def Answer.of (status : Nat) : Answer := ⟨status, if status = stRefused then dState else 0, []⟩

/-- A refusal with its detail. -/
def Answer.refuse (detail : Nat) : Answer := ⟨stRefused, detail, []⟩

/-- What a verdict answers; a refusal leaves the state as it was. -/
def answer (s : State) (v : Verdict) : Answer × State := match v with | .ok t => (.of stOk, t) | .error d => (.refuse d, s)

/-- The numbers a CMD entry names: 01h where its row gives no other (R454). -/
def Row.names (r : Row) (v : Nat) : Bool := if r.ty = .cmd && r.ranges.isEmpty then v = 1 else r.inRange v

/-- A command is written. -/
def State.writeCmd (s : State) (sess idx sub : Nat) (r : Row) (data : Bytes) : Answer × State :=
  let v := ofBytes data
  if !r.names v then (.refuse dRange, s)
  else match s.command sess idx sub v data with
    | .ok t => (.of stOk, t)
    | .error d => (.refuse d, s.commandRefused sess idx sub v d)

/-- A number is written to an entry that is not a CMD. -/
def State.writeNumber (s : State) (sess idx sub : Nat) (r : Row) (v : Nat) : Answer × State :=
  if !r.inRange v then (.refuse dRange, s)
  else
    let c := s.entryCheck (if r.acc = .rws then s.aheadStaged else s.aheadLive) sess idx sub v
    if c ≠ 0 then (.refuse c, s)
    else match r.acc with
      | .rws => answer s (s.stage sess (key idx sub) (.num v))
      | .w1c =>
        let old := s.reg idx sub
        (.of stOk, (s.setReg idx sub (old - (old &&& v))).liveWrite sess (key idx sub))
      | _ =>
        match s.writeLive idx sub v with
        | .ok t => (.of stOk, t.liveWrite sess (key idx sub))
        | .error d => (.refuse d, s)

/-- A whole DOMAIN value is written. -/
def State.writeDomain (s : State) (sess idx sub : Nat) (r : Row) (bs : Bytes) : Answer × State :=
  let c := s.domCheck (if r.acc = .rws then s.aheadStaged else s.aheadLive) idx sub bs
  if c.1 ≠ 0 then (.refuse c.1, c.2)
  else if r.acc = .rws then answer c.2 (c.2.stage sess (key idx sub) (.dom bs))
  else
    let t := c.2.writeLiveDom idx sub bs
    if t.1 ≠ 0 then (.refuse t.1, t.2) else (.of stOk, t.2.liveWrite sess (key idx sub))

/-- A write of an entry by a session, in the order of the checks of R475, R463, R454 and R453. -/
def State.writeEntry (s : State) (sess idx sub : Nat) (data : Bytes) : Answer × State :=
  match s.writeGate sess idx sub with
  | .error e => (.of e, s)
  | .ok r =>
    let dom := match r.ty with | .domain _ => true | _ => false
    if !dom && data.length ≠ r.ty.size then (.of stLength, s)
    else if r.acc = .rwx && !s.ownerOff idx sub then (.refuse dNotOff, s)
    else if r.acc = .cmd then s.writeCmd sess idx sub r data
    else if dom then s.writeDomain sess idx sub r data
    else s.writeNumber sess idx sub r (ofBytes data)

/-- Note the result record of an operation (R465). A session that a reset or its own close has ended gets none. -/
def State.result (s : State) (sess op idx sub : Nat) (a : Answer) : State :=
  if s.sessionOpen sess then { s with dict := { s.dict with results := s.dict.results ++ [⟨op, a.status, idx, sub, a.detail, a.data⟩] } } else s

/-- The state after a write by an open session, with its result record; a session that is not open has no effect. -/
def State.sessionWrite (s : State) (sess idx sub : Nat) (data : Bytes) : State :=
  if s.sessionOpen sess then
    let r := s.writeEntry sess idx sub data
    r.2.result sess 2 idx sub r.1
  else s

/-! ## The commands that are writes of one entry -/

/-- DICT_WRITE (R454). -/
def execDictWrite (sess idx sub : Nat) (data : Bytes) (s : State) : Result := .next (s.sessionWrite sess idx sub data)
/-- COMMIT (R27, R469). -/
def execCommit (sess sc : Nat) (s : State) : Result := inst (decide (sc < 2 ^ 64)) (.next (s.sessionWrite sess 0x1101 1 (beBytes 8 sc)))
/-- DISCARD (R469). -/
def execDiscard (sess : Nat) (s : State) : Result := .next (s.sessionWrite sess 0x1101 2 [1])
/-- DISARM (R469). -/
def execDisarm (sess : Nat) (s : State) : Result := .next (s.sessionWrite sess 0x1101 3 [1])
/-- ENABLE_WRITE (R575): 1 written to the enable entry at an index. -/
def execEnableWrite (sess idx : Nat) (s : State) : Result := inst (unitKind idx).isSome (.next (s.sessionWrite sess idx 1 [1]))
/-- DISABLE_WRITE (R575). -/
def execDisableWrite (sess idx : Nat) (s : State) : Result := inst (unitKind idx).isSome (.next (s.sessionWrite sess idx 1 [0]))
/-- PRBS_INJECT (R74). -/
def execPrbsInject (sess : Nat) (s : State) : Result := .next (s.sessionWrite sess 0x2402 3 [1])
/-- SHEAF_COUNTER_CLEAR (2400h.05). -/
def execSheafCounterClear (sess : Nat) (s : State) : Result := .next (s.sessionWrite sess 0x2400 5 [1])
/-- FIRE (R103). -/
def execFireTrigger (sess : Nat) (s : State) : Result := .next (s.sessionWrite sess 0x2803 3 [1])
/-- SILO_RELEASE (R107). -/
def execSiloRelease (sess silo : Nat) (s : State) : Result := inst (decide (silo < 64)) (.next (s.sessionWrite sess (0x2840 + silo) 0x0B [1]))
/-- READOUT_START (R112). -/
def execReadoutStart (sess : Nat) (s : State) : Result := .next (s.sessionWrite sess 0x2804 7 [1])
/-- READOUT_ABORT (R112). -/
def execReadoutAbort (sess : Nat) (s : State) : Result := .next (s.sessionWrite sess 0x2804 8 [1])
/-- RESTART (R140). -/
def execJigRestart (sess bay : Nat) (s : State) : Result := inst (decide (bay < 4)) (.next (s.sessionWrite sess (0x3010 + bay) 0x10 [1]))
/-- RETEST (R151). -/
def execRetest (sess tile : Nat) (s : State) : Result := inst (decide (tile < 272)) (.next (s.sessionWrite sess (0x2200 + tile) 6 [1]))
/-- HOLD (R238): of a slot by a session, or by an event at fstore.hold. -/
def execFrameHold (sess : Nat) (slot : Option Nat) (s : State) : Result :=
  match slot with
  | some k => inst (decide (k < 64)) (.next (s.sessionWrite sess (0x40C0 + k) 4 [1]))
  | none => .next (if (s.held 0x310).isSome then (s.takeInput 0x310).holdEvent else s)
/-- FRAME_SLOT_RELEASE (R238). -/
def execFrameSlotRelease (sess slot : Nat) (s : State) : Result := inst (decide (slot < 64)) (.next (s.sessionWrite sess (0x40C0 + slot) 5 [1]))
/-- CLEAR_CORR (4410h+k.0B). -/
def execClearCorr (sess k : Nat) (s : State) : Result := inst (decide (k < 16)) (.next (s.sessionWrite sess (0x4410 + k) 0x0B [1]))
/-- DEBUG_HALT_CMD (R310). -/
def execDebugHaltCmd (sess core : Nat) (s : State) : Result := inst (decide (core < 16)) (.next (s.sessionWrite sess (0xF500 + core) 1 [1]))
/-- RESUME (R310). -/
def execDebugResume (sess core : Nat) (s : State) : Result := inst (decide (core < 16)) (.next (s.sessionWrite sess (0xF500 + core) 2 [1]))
/-- STEP (R310). -/
def execDebugStep (sess core : Nat) (s : State) : Result := inst (decide (core < 16)) (.next (s.sessionWrite sess (0xF500 + core) 3 [1]))
/-- DECLARE_LOST (R352). -/
def execDeclareLost (sess ch : Nat) (s : State) : Result := inst (decide (ch < 24)) (.next (s.sessionWrite sess (0x5810 + ch) 0x0D [1]))
/-- REBUILD (R353). -/
def execRebuild (sess ch : Nat) (s : State) : Result := inst (decide (ch < 24)) (.next (s.sessionWrite sess (0x5810 + ch) 0x0E [1]))
/-- APPLY (R358). -/
def execApplyDelays (sess ch : Nat) (s : State) : Result := inst (decide (ch < 24)) (.next (s.sessionWrite sess (0x5840 + ch) 3 [1]))
/-- RECALIBRATE (R358). -/
def execRecalibrate (sess ch : Nat) (s : State) : Result := inst (decide (ch < 24)) (.next (s.sessionWrite sess (0x5840 + ch) 5 [1]))
/-- FREQ_CHANGE (R360). -/
def execFreqChange (sess : Nat) (s : State) : Result := .next (s.sessionWrite sess 0x5800 0x0F [1])
/-- STORE (R357). -/
def execStoreDelays (sess : Nat) (s : State) : Result := .next (s.sessionWrite sess 0x5880 2 [1])
/-- INV_WINDOW (R380). -/
def execInvWindow (sess window : Nat) (s : State) : Result := inst (decide (window < 256)) (.next (s.sessionWrite sess 0x5C01 1 (beBytes 1 window)))
/-- INV_ALL (R380). -/
def execInvAll (sess : Nat) (s : State) : Result := .next (s.sessionWrite sess 0x5C01 2 [1])

/-- A DMA command by its three ways in: the CMD entry, the CMD register of the page, and the task input. -/
def State.dmaBy (s : State) (via : DmaVia) (c sub v page : Nat) (event : State → State) : State :=
  match via with
  | .fdp sess => s.sessionWrite sess (0x5D40 + c) sub [BitVec.ofNat 8 v]
  | .page master secure => s.chanOnPage master secure c (fun s => s.dmaPageCmd c page)
  | .event => event s

/-- The channel and the master of a DMA command exist in the manual's numbering. -/
def dmaViaOk (via : DmaVia) (c : Nat) : Bool := decide (c < 64) && (match via with | .page m _ => masterOk m | _ => true)

/-- DMA_START (R387). -/
def execDmaStart (via : DmaVia) (c : Nat) (s : State) : Result := inst (dmaViaOk via c) (.next (s.dmaBy via c 7 1 1 (fun s => s.dmaStartEvent c)))
/-- DMA_ABORT (R392). -/
def execDmaAbort (via : DmaVia) (c : Nat) (s : State) : Result := inst (dmaViaOk via c) (.next (s.dmaBy via c 8 1 2 (fun s => s.dmaAbortEvent c)))
/-- DMA_RESUME (R389); no event resumes. -/
def execDmaResume (via : DmaVia) (c : Nat) (s : State) : Result := inst (dmaViaOk via c) (.next (s.dmaBy via c 9 1 3 id))
/-- DMA_RESUME_NEXT (R389); no event resumes. -/
def execDmaResumeNext (via : DmaVia) (c : Nat) (s : State) : Result := inst (dmaViaOk via c) (.next (s.dmaBy via c 9 2 4 id))

/-- LOAD (R414). -/
def execScLoad (sess : Nat) (s : State) : Result := .next (s.sessionWrite sess 0x6020 8 [1])
/-- ADJUST (R417). -/
def execAdjust (sess t : Nat) (v : Int) (s : State) : Result := inst (decide (t < 8) && decide (-(2 ^ 63) ≤ v) && decide (v < 2 ^ 63)) (.next (s.sessionWrite sess (0x6040 + t) 3 (beBytes 8 (ofSigned 64 v))))
/-- TB_STEP (R417, R418). -/
def execTbStep (sess t : Nat) (s : State) : Result := inst (decide (t < 8)) (.next (s.sessionWrite sess (0x6040 + t) 7 [1]))
/-- PRESET (6400h+a.08). -/
def execAxisPreset (sess axis : Nat) (s : State) : Result := inst (decide (axis < 4)) (.next (s.sessionWrite sess (0x6400 + axis) 8 [1]))
/-- PLACE (R440). -/
def execComparePlace (sess m : Nat) (s : State) : Result := inst (decide (m < 4)) (.next (s.sessionWrite sess (0x6410 + m) 0x0B [1]))
/-- CLEAR (R443). -/
def execCompareClear (sess m : Nat) (s : State) : Result := inst (decide (m < 4)) (.next (s.sessionWrite sess (0x6410 + m) 0x0C [1]))

/-- A number below 32 written to the SOFT register of the Dowel page, or to 6800h.02 (R495, R498, R504). -/
def execSoftEvent (via : Via) (n : Nat) (s : State) : Result :=
  match via with
  | .fdp sess => inst (decide (n < 256)) (.next (s.sessionWrite sess 0x6800 2 (beBytes 1 n)))
  | .page master secure => inst (masterOk master && decide (n < 2 ^ 64)) (.next (s.onPage master 0x3FF02028008 secure (fun s => s.dowelPageWrite master 0x8008 n)))
/-- RELEASE (R496). -/
def execAlertRelease (sess k : Nat) (s : State) : Result := inst (decide (k < 4)) (.next (s.sessionWrite sess (0x6830 + k) 4 [1]))
/-- SNAP_NOW (R502). -/
def execSnapNow (sess g : Nat) (s : State) : Result := inst (decide (g < 8)) (.next (s.sessionWrite sess (0x6A10 + g) 8 [1]))
/-- OVF_CLEAR (R501): 1 written to the OVF flag. -/
def execOvfClear (sess n : Nat) (s : State) : Result := inst (decide (n < 64)) (.next (s.sessionWrite sess (0x6A40 + n) 8 [1]))
/-- COUNTER_CLEAR (R501, R503). -/
def execCounterClear (via : Via) (n : Nat) (s : State) : Result :=
  inst (decide (n < 64) && (match via with | .page m _ => masterOk m | _ => true))
    (.next (match via with
     | .fdp sess => s.sessionWrite sess (0x6A40 + n) 9 [1]
     | .page master secure => s.onPage master (0x3FF02030000 + 0x40 * n + 0x28) secure (fun s => s.counterZero n)))

/-- FAILOVER (R513). -/
def execFailover (sess : Nat) (s : State) : Result := .next (s.sessionWrite sess 0x7020 6 [1])
/-- ACTIVATE (R519). -/
def execActivate (sess : Nat) (s : State) : Result := .next (s.sessionWrite sess 0x7010 3 [1])
/-- KEEP (R529). -/
def execKeep (sess : Nat) (s : State) : Result := .next (s.sessionWrite sess 0x2000 4 [1])
/-- WAKE (R533). -/
def execWake (sess : Nat) (s : State) : Result := .next (s.sessionWrite sess 0x2000 5 [1])
/-- RESET (R549). -/
def execDeviceReset (sess : Nat) (s : State) : Result := .next (s.sessionWrite sess 0x2000 0x0B [1])
/-- SESSION_CLOSE (R479). -/
def execSessionClose (sess target : Nat) (s : State) : Result :=
  inst (decide (1 ≤ target) && decide (target ≤ 8)) (.next (s.sessionWrite sess (0x102F + target) 0x0B [1]))
/-- KEY_SET (R480). -/
def execKeySet (sess role : Nat) (newKey : Bytes) (s : State) : Result := inst (decide (role < 4)) (.next (s.sessionWrite sess 0x1040 (role + 1) newKey))
/-- DEBUG_ENTER (R480). -/
def execDebugEnter (sess : Nat) (s : State) : Result := .next (s.sessionWrite sess 0x1050 2 [1])
/-- DEBUG_LEAVE (R480). -/
def execDebugLeave (sess : Nat) (s : State) : Result := .next (s.sessionWrite sess 0x1050 2 [2])

end Sys2Proof.Machine
end

