-- ==== Sys2Proof/Machine/Consumers.lean ====
section
/-! DEFINITION. CONSUMER_TAKE: the consumer of a task input takes its delivery (R486, R490). -/

namespace Sys2Proof.Machine

/-- What the consumer of an input does with its delivery. A Jig and a core take theirs when WAIT_EVT, an interrupt entry or WAITE consumes it,
which are commands of their own. -/
def State.consume (s : State) (id : Nat) : Result :=
  if 0x10 ≤ id && id < 0x18 then execCribFreeze (id - 0x10) s
  else if 0x200 ≤ id && id < 0x280 then
    .next (if id % 2 = 0 then s.dmaStartEvent ((id - 0x200) / 2) else s.dmaAbortEvent ((id - 0x200) / 2))
  else if 0x300 ≤ id && id < 0x308 then execToutEvent (id - 0x300) s
  else if id = 0x310 then .next (if (s.held 0x310).isSome then (s.takeInput 0x310).holdEvent else s)
  else if id = 0x311 then execDoveShift s
  else if 0x381 ≤ id && id ≤ 0x388 then .next (s.eventNotify (id - 0x380))
  else if 0x390 ≤ id && id < 0x394 then .next (s.alertDelivery (id - 0x390))
  else if 0x400 ≤ id && id < 0x420 then .next (s.relayEmit (id - 0x400))
  else if 0x420 ≤ id && id < 0x428 then .next (s.snapEvent (id - 0x420))
  else .next s

/-- CONSUMER_TAKE (R490): with nothing held, or on an input that does not exist in this part, nothing happens. -/
def execConsumerTake (input : Nat) (s : State) : Result :=
  inst (decide (input < 0x428)) (if inputExists s.board input && (s.held input).isSome then s.consume input else .next s)

end Sys2Proof.Machine
end

