-- ==== Sys2Proof/Machine/Fdp.lean ====
section
/-! DEFINITION. FDP (chapter 15): operations and their results, large objects, REQUEST and RESPONSE, opening and closing sessions,
and the frames of the two Ethernet ports in receive order. -/

namespace Sys2Proof.Machine

/-- A TRANSFER answer with its detail (R475). -/
def Answer.transfer (detail : Nat) : Answer := ⟨stTransfer, detail, []⟩

abbrev trNoneOpen : Nat := 1
abbrev trOffset : Nat := 2
abbrev trOverrun : Nat := 3
abbrev trShort : Nat := 4
abbrev trCrc : Nat := 5
abbrev trTooLarge : Nat := 6
abbrev trOpen : Nat := 7

/-- The largest length of a DOMAIN row. -/
def Row.domainMax (r : Row) : Option Nat := match r.ty with | .domain n => some n | _ => none

/-! ## READ, WRITE and DESCRIBE (R465, R466) -/

/-- An entry whose read needs a unit stopped: the bins and banks of the debug window (R181), and the registers of a core (R312). -/
def State.readBlocked (s : State) (idx sub : Nat) : Bool :=
  (idx = 0xF400 && !s.jigsOff) || (decide (0xF500 ≤ idx) && decide (idx < 0xF510) && sub = 9 && s.dspRun (idx - 0xF500) ≠ dsDebug)

/-- READ. -/
def State.readOp (s : State) (sess idx sub : Nat) : Answer :=
  match s.gate sess idx sub with
  | .error e => .of e
  | .ok r =>
    if r.acc = .cmd then .of stAccess
    else if s.readBlocked idx sub then .refuse dNotOff
    else match r.ty with
      | .domain _ => ⟨stOk, 0, beBytes 4 (s.readDom idx sub).length ++ beBytes 4 (s.domGen idx sub)⟩
      | t => ⟨stOk, 0, beBytes t.size (s.readNum idx sub)⟩

/-- DESCRIBE. -/
def State.describeOp (s : State) (sess idx sub : Nat) : Answer :=
  match s.gate sess idx sub with
  | .error e => .of e
  | .ok r => ⟨stOk, 0, r.describe⟩

/-- The state of an entry bars any write of it: the owning unit is not OFF, or an armed set holds a table that may not be replaced (R242, R454). -/
def State.barred (s : State) (r : Row) (idx sub : Nat) : Nat :=
  if r.acc = .rwx && !s.ownerOff idx sub then dNotOff
  else if 0x4050 ≤ idx && idx < 0x4080 && (lookup s.armedSet (key idx sub)).isSome then dArmed
  else 0

/-- WRITE: a DOMAIN of more than 1,400 bytes is TOO_LARGE (R472). -/
def State.writeOp (s : State) (sess idx sub : Nat) (data : Bytes) : Answer × State :=
  match s.writeGate sess idx sub with
  | .error e => (.of e, s)
  | .ok r =>
    if r.domainMax.isSome && decide (1400 < data.length) then
      (if s.barred r idx sub ≠ 0 then (.refuse (s.barred r idx sub), s) else (.transfer trTooLarge, s))
    else s.writeEntry sess idx sub data

/-! ## Large objects (R472, R473) -/

/-- Set the transfer of a session. -/
def State.setTransfer (s : State) (sess : Nat) (t : Option Transfer) : State := s.modSession sess (fun x => { x with transfer := t })

/-- DOM_BEGIN. -/
def State.domBegin (s : State) (sess idx sub total : Nat) : Answer × State :=
  match s.writeGate sess idx sub with
  | .error e => (.of e, s)
  | .ok r =>
    match r.domainMax with
    | none => (.of stBadOp, s)
    | some n =>
      if s.barred r idx sub ≠ 0 then (.refuse (s.barred r idx sub), s)
      else if n < total then (.transfer trTooLarge, s)
      else if (s.session sess).transfer.isSome then (.transfer trOpen, s)
      else if 4 ≤ (s.dict.sessions.filter (fun x => x.transfer.isSome)).length then (.of stBusy, s)
      else if 8388608 < s.storeUsed 0 + total then (.refuse dStore, s)
      else (.of stOk, s.setTransfer sess (some ⟨key idx sub, total, [], false⟩))

/-- The open transfer of a session, if it is the one of an entry. -/
def State.transferOf (s : State) (sess idx sub : Nat) : Option Transfer :=
  match (s.session sess).transfer with | some t => if t.key = key idx sub then some t else none | none => none

/-- DOM_SEG. -/
def State.domSeg (s : State) (sess idx sub off : Nat) (data : Bytes) : Answer × State :=
  match s.transferOf sess idx sub with
  | none => (.transfer trNoneOpen, s)
  | some t =>
    if data.isEmpty then (.of stLength, s)
    else if 1400 < data.length then (.transfer trTooLarge, s)
    else if t.failed then (.transfer trCrc, s)
    else if off ≠ t.data.length then (.transfer trOffset, s)
    else if t.total < t.data.length + data.length then (.transfer trOverrun, s)
    else (.of stOk, s.setTransfer sess (some { t with data := t.data ++ data }))

/-- DOM_END: the object is written as one write of its entry. -/
def State.domEnd (s : State) (sess idx sub crc : Nat) : Answer × State :=
  match s.transferOf sess idx sub with
  | none => (.transfer trNoneOpen, s)
  | some t =>
    if t.failed then (.transfer trCrc, s)
    else if t.data.length < t.total then (.transfer trShort, s)
    else if crc32c t.data ≠ crc then (.transfer trCrc, s.setTransfer sess (some { t with failed := true }))
    else (s.setTransfer sess none).writeEntry sess idx sub t.data

/-- DOM_READ. -/
def State.domRead (s : State) (sess idx sub off len : Nat) : Answer :=
  match s.gate sess idx sub with
  | .error e => .of e
  | .ok r =>
    if r.domainMax.isNone then .of stBadOp
    else if s.readBlocked idx sub then .refuse dNotOff
    else if len = 0 || 1400 < len then .refuse dRange
    else ⟨stOk, 0, beBytes 4 (s.domGen idx sub) ++ zeroBytes 4 ++ slice (s.readDom idx sub) off len⟩

/-- DOM_CANCEL. -/
def State.domCancel (s : State) (sess idx sub : Nat) : Answer × State :=
  match s.transferOf sess idx sub with
  | none => (.transfer trNoneOpen, s)
  | some _ => (.of stOk, s.setTransfer sess none)

/-! ## One operation of a body (R465) -/

/-- An operation record: its head and data. `bad` tells that head byte 1 or 5 is not 0. -/
structure OpRecord where
  op : Nat
  idx : Nat
  sub : Nat
  bad : Bool
  data : Bytes
  deriving DecidableEq, Repr

/-- The records of a body; none when they do not exactly fill it. `fuel` bounds their number. -/
def parseOps : Nat → Bytes → Option (List OpRecord)
  | _, [] => some []
  | 0, _ => none
  | fuel + 1, b =>
    let n := field b 6 2
    let size := 8 + (n + 7) / 8 * 8
    if b.length < 8 || b.length < size then none
    else (parseOps fuel (b.drop size)).map (fun l => ⟨field b 0 1, field b 2 2, field b 4 1, field b 1 1 ≠ 0 || field b 5 1 ≠ 0, slice b 8 n⟩ :: l)

/-- Carry out one operation. -/
def State.runOp (s : State) (sess : Nat) (o : OpRecord) : Answer × State :=
  if o.bad then (.of stBadOp, s)
  else match o.op with
    | 1 => (s.readOp sess o.idx o.sub, s)
    | 2 => s.writeOp sess o.idx o.sub o.data
    | 3 => (s.describeOp sess o.idx o.sub, s)
    | 4 => if o.data.length = 8 then s.domBegin sess o.idx o.sub (field o.data 0 4) else (.of stLength, s)
    | 5 => if o.data.length < 8 then (.of stLength, s) else s.domSeg sess o.idx o.sub (field o.data 0 4) (o.data.drop 8)
    | 6 => if o.data.length = 8 then s.domEnd sess o.idx o.sub (field o.data 0 4) else (.of stLength, s)
    | 7 => if o.data.length = 8 then (s.domRead sess o.idx o.sub (field o.data 0 4) (field o.data 4 2), s) else (.of stLength, s)
    | 8 => s.domCancel sess o.idx o.sub
    | _ => (.of stBadOp, s)

/-- An operation by an open session, with its result record. -/
def State.sessionOp (s : State) (sess : Nat) (o : OpRecord) : State :=
  if s.sessionOpen sess then
    let r := s.runOp sess o
    r.2.result sess o.op o.idx o.sub r.1
  else s

/-- READ (R465). -/
def execFdpRead (sess idx sub : Nat) (s : State) : Result := .next (s.sessionOp sess ⟨1, idx, sub, false, []⟩)
/-- WRITE (R465). -/
def execFdpWrite (sess idx sub : Nat) (data : Bytes) (s : State) : Result := .next (s.sessionOp sess ⟨2, idx, sub, false, data⟩)
/-- DESCRIBE (R466). -/
def execFdpDescribe (sess idx sub : Nat) (s : State) : Result := .next (s.sessionOp sess ⟨3, idx, sub, false, []⟩)
/-- DOM_BEGIN (R472). -/
def execDomBegin (sess idx sub total : Nat) (s : State) : Result :=
  inst (decide (total < 2 ^ 32)) (.next (s.sessionOp sess ⟨4, idx, sub, false, beBytes 4 total ++ zeroBytes 4⟩))
/-- DOM_SEG (R472). -/
def execDomSeg (sess idx sub off : Nat) (data : Bytes) (s : State) : Result :=
  inst (decide (off < 2 ^ 32)) (.next (s.sessionOp sess ⟨5, idx, sub, false, beBytes 4 off ++ zeroBytes 4 ++ data⟩))
/-- DOM_END (R472). -/
def execDomEnd (sess idx sub crc : Nat) (s : State) : Result :=
  inst (decide (crc < 2 ^ 32)) (.next (s.sessionOp sess ⟨6, idx, sub, false, beBytes 4 crc ++ zeroBytes 4⟩))
/-- DOM_READ (R472, R473). -/
def execDomRead (sess idx sub off len : Nat) (s : State) : Result :=
  inst (decide (off < 2 ^ 32) && decide (len < 2 ^ 16)) (.next (s.sessionOp sess ⟨7, idx, sub, false, beBytes 4 off ++ beBytes 2 len ++ zeroBytes 2⟩))
/-- DOM_CANCEL (R472). -/
def execDomCancel (sess idx sub : Nat) (s : State) : Result := .next (s.sessionOp sess ⟨8, idx, sub, false, []⟩)

/-! ## REQUEST and RESPONSE (R462, R465, R467) -/

/-- Bytes of a result record. -/
def Answer.room (a : Answer) : Nat := 8 + (a.data.length + 7) / 8 * 8

/-- A result record. -/
def OpResult.bytes (r : OpResult) : Bytes :=
  beBytes 1 r.op ++ beBytes 1 r.status ++ beBytes 2 r.idx ++ beBytes 1 r.sub ++ beBytes 1 r.detail ++ beBytes 2 r.data.length ++ padTo 8 r.data

/-- The operations of a body in order; one whose result does not fit beside the `used` bytes and the heads of the later ones is not carried out (R465). -/
def State.runOps (s : State) (sess : Nat) : Nat → List OpRecord → State
  | _, [] => s
  | used, o :: os =>
    let r := s.runOp sess o
    if 1416 < used + r.1.room + 8 * os.length then (s.result sess o.op o.idx o.sub (.of stRoom)).runOps sess (used + 8) os
    else (r.2.result sess o.op o.idx o.sub r.1).runOps sess (used + r.1.room) os

/-- The answers of an ATOMIC body checked against the state in force, each with whether its result fits (R467). -/
def State.preview (s : State) (sess : Nat) : Nat → List OpRecord → List (OpRecord × Answer × Bool)
  | _, [] => []
  | used, o :: os =>
    let a := (s.runOp sess o).1
    let fits := decide (used + a.room + 8 * os.length ≤ 1416)
    (o, a, fits) :: s.preview sess (used + if fits then a.room else 8) os

/-- An ATOMIC body: all of it, or none with the reasons (R467). -/
def State.runAtomic (s : State) (sess : Nat) (os : List OpRecord) : State :=
  let bad := fun (o : OpRecord) => o.bad || !(o.op = 1 || o.op = 2 || o.op = 3)
  if os.any bad then os.foldl (fun s o => s.result sess o.op o.idx o.sub (.of (if bad o then stBadOp else stNotDone))) s
  else
    let ps := s.preview sess 0 os
    if ps.all (fun p => p.2.1.status = stOk && p.2.2) then s.runOps sess 0 os
    else ps.foldl (fun s p => s.result sess p.1.op p.1.idx p.1.sub
      (if p.2.1.status ≠ stOk then p.2.1 else if p.2.2 then .of stNotDone else .of stRoom)) s

/-- Whether a SEQ is new to a session (R462). -/
def State.seqNew (s : State) (k seq : Nat) : Bool :=
  let high := s.reg (sessIdx k) 6
  seq ≠ 0 && (decide (high < seq) || (decide (high ≤ seq + 64) && !(s.session k).executed.contains seq))

/-- A SEQ is recorded as executed. -/
def State.seqDone (s : State) (k seq : Nat) : State :=
  let high := max (s.reg (sessIdx k) 6) seq
  (s.setReg (sessIdx k) 6 high).modSession k (fun x => { x with executed := seq :: x.executed.filter (fun q => decide (high ≤ q + 64)) })

/-- The RESPONSE leaves and is kept among the 16 latest; a close that waited for it follows. -/
def State.respond (s : State) (k seq : Nat) (tag : Bytes) : State :=
  let closing := s.dict.serving.any (fun p => p.1 = k && p.2)
  let body := (s.dict.results.map OpResult.bytes).flatten
  let s := { s with dict := { s.dict with results := [], serving := none } }
  if !s.sessionOpen k then s
  else
    let s := s.modSession k (fun x => { x with stored := (⟨seq, tag, body⟩ :: x.stored).take 16 })
    let s := (s.inc64 (sessIdx k) 0x0A 1).sendTo k (frameOf kResponse k seq body (s.session k).key)
    if closing then s.closeSession k true else s

/-- A new REQUEST is executed. -/
def State.executeRequest (s : State) (k seq : Nat) (atomic : Bool) (ops : List OpRecord) (tag : Bytes) : State :=
  let s := s.seqDone k seq
  let s := { s with dict := { s.dict with results := [], serving := some (k, false) } }
  (if atomic then s.runAtomic k ops else s.runOps k 0 ops).respond k seq tag

/-- A REQUEST whose tag and binding are right: executed, answered from the store, or dropped (R462). -/
def State.takeRequest (s : State) (k : Nat) (f : FdpFrame) (ops : List OpRecord) : State :=
  match (s.session k).stored.find? (fun r => r.seq = f.seq && r.tag = f.tag) with
  | some r => s.sendTo k (frameOf kResponse k f.seq r.body (s.session k).key)
  | none => if s.seqNew k f.seq then s.executeRequest k f.seq (bitAt f.flags 0) ops f.tag else s.inc32 0x1038 4 1

/-! ## Frames of a session (R458, R462) -/

/-- A frame fails its tag, its session or its binding. -/
def State.authFail (s : State) : State := s.inc32 0x1038 3 1

/-- A malformed frame. -/
def State.malformed (s : State) : State := s.inc32 0x1038 7 1

/-- A frame of an open session, from its bound peer, tagged under its key; its idle time starts again. -/
def State.inSession (s : State) (peer : Peer) (f : FdpFrame) (k : State → State) : State :=
  let i := sessIdx f.session
  if s.sessionOpen f.session && hmac (s.session f.session).key f.covered = f.tag
      && s.reg i 5 = peer.port && s.reg i 3 = peer.ip && s.reg i 4 = peer.udp then
    k (s.heard f.session)
  else s.authFail

/-- A REQUEST: parsed before its tag is checked (R458). -/
def State.rxRequest (s : State) (peer : Peer) (f : FdpFrame) : State :=
  match parseOps 256 f.body with
  | none => s.malformed
  | some ops => s.inSession peer f (fun s => s.takeRequest f.session f ops)

/-- A NOTIFY_ACK ends the resends of the NOTIFY whose SEQ it echoes (R474). -/
def State.rxNotifyAck (s : State) (peer : Peer) (f : FdpFrame) : State :=
  s.inSession peer f (fun s => s.modSession f.session (fun x => { x with sent := x.sent.filter (fun n => n.seq ≠ f.seq) }))

/-- A CLOSE with a new SEQ closes its session (R462). -/
def State.rxClose (s : State) (peer : Peer) (f : FdpFrame) : State :=
  s.inSession peer f (fun s => if s.seqNew f.session f.seq then (s.seqDone f.session f.seq).closeSession f.session false else s)

/-! ## OPEN and KEY_INIT (R460, R461) -/

/-- The role key of a role, if it is set. -/
def State.roleKey (s : State) (role : Nat) : Option Bytes := nthD none s.nv.keys role

/-- A reply to a peer that has no session. -/
def State.reply (s : State) (peer : Peer) (frame : Bytes) : State := s.portSend peer.port (.udp peer.port peer.ip peer.udp frame)

/-- Session `k` opens with a role, a peer and its key (R460, R474). -/
def State.openSession (s : State) (k role : Nat) (peer : Peer) (sk : Bytes) : State :=
  let s := s.freeSession k
  let i := sessIdx k
  let s := ((((s.setReg i 1 1).setReg i 2 role).setReg i 3 peer.ip).setReg i 4 peer.udp).setReg i 5 peer.port
  let s := ((s.modSession k (fun x => { x with key := sk })).heard k).inc32 0x1038 5 1
  s.notifyBut k 4 5 (BitVec.ofNat 8 k :: BitVec.ofNat 8 role :: zeroBytes 14)

/-- The session key (R460). -/
def sessionKey (role client device : Bytes) (k : Nat) : Bytes := hmac role (beBytes 4 0x46445031 ++ client ++ device ++ beBytes 2 k)

/-- A well-formed OPEN whose role key is set and whose tag verifies. -/
def State.grantOpen (s : State) (peer : Peer) (role : Nat) (client rk : Bytes) : State :=
  match s.freeId with
  | none => (s.reply peer (frameOf kOpenAck 0 0 (beBytes 1 stBusy ++ zeroBytes 23) rk)).inc32 0x1038 6 1
  | some k =>
    let device := drawBytes s.drawn 16
    let s := { s with drawn := s.drawn + 16 }
    let s := s.reply peer (frameOf kOpenAck k 0 (zeroBytes 8 ++ device) rk)
    s.openSession k role peer (sessionKey rk client device k)

/-- OPEN. RECOVERY accepts only Integrator sessions (R546). -/
def State.rxOpen (s : State) (peer : Peer) (f : FdpFrame) : State :=
  if f.session ≠ 0 || f.seq ≠ 0 || f.body.length ≠ 24 || !(slice f.body 1 7).all (fun b => b = 0) then s.malformed
  else
    let role := field f.body 0 1
    match s.roleKey role with
    | some rk =>
      if hmac rk f.covered = f.tag && decide (role ≤ 3) && (!s.power.recovery || role = 2) then s.grantOpen peer role (slice f.body 8 16) rk
      else s.authFail
    | none => s.authFail

/-- KEY_INIT. -/
def State.rxKeyInit (s : State) (peer : Peer) (f : FdpFrame) : State :=
  if f.session ≠ 0 || f.seq ≠ 0 || f.body.length ≠ 32 || (s.roleKey 2).isSome then s.malformed
  else if hmac f.body f.covered ≠ f.tag then s.authFail
  else ({ s with nv := { s.nv with keys := modNth (fun _ => some f.body) s.nv.keys 2 } }).reply peer (frameOf kKeyInit 0 0 [] f.body)

/-! ## Datagrams (R458, R459, R512) -/

/-- The kind and the fields of a datagram that keeps the layout of R458. -/
def parseFrame (d : Bytes) : Option (Nat × FdpFrame) :=
  let n := d.length
  let kind := field d 3 1
  if n < 56 || 1472 < n then none
  else if field d 0 2 ≠ 0x4644 || field d 2 1 ≠ 1 || field d 7 1 ≠ 0 || field d 18 6 ≠ 0 then none
  else if field d 16 2 ≠ n - 56 || n % 8 ≠ 0 then none
  else if 2 ≤ field d 6 1 || (field d 6 1 = 1 && kind ≠ kRequest) then none
  else some (kind, ⟨field d 4 2, field d 6 1, field d 8 8, slice d 24 (n - 56), d.take (n - 32), d.drop (n - 32)⟩)

/-- One datagram is handled. -/
def State.datagram (s : State) (peer : Peer) (d : Bytes) : State :=
  match parseFrame d with
  | none => s.malformed
  | some (kind, f) =>
    match kind with
    | 1 => s.rxOpen peer f
    | 3 => s.rxRequest peer f
    | 6 => s.rxNotifyAck peer f
    | 7 => s.rxClose peer f
    | 9 => s.rxKeyInit peer f
    | _ => s.malformed

/-- The management processor takes frames: a pair is ACTIVE and no handover is under way (R512, R519). -/
def State.fdpReady (s : State) : Bool := s.mgmtRuns && s.reg 0x7010 4 ≠ 2

/-- Waiting frames are taken in device receive order: arrival order within a port, R21 between the ports (R459). `fuel` bounds their number. -/
def State.takeFrames : Nat → State → State
  | 0, s => s
  | fuel + 1, s =>
    match (if s.fdpReady then rotating 2 s.avail.rxPtr (s.avail.rxQueue.map (fun q => q.1)) else none) with
    | none => s
    | some p =>
      match s.avail.rxQueue.find? (fun q => q.1 = p) with
      | none => s
      | some q =>
        let s := { s with avail := { s.avail with rxQueue := s.avail.rxQueue.erase q, rxPtr := (p + 1) % 2 } }
        State.takeFrames fuel (s.datagram ⟨q.1, q.2.1, q.2.2.1⟩ q.2.2.2)

/-- Every waiting frame is taken if the dictionary is available. -/
def State.serve (s : State) : State := s.takeFrames s.avail.rxQueue.length

/-- A datagram to the FDP port of a port that is up joins its port's queue of 512 frames (R512). -/
def State.arrive (s : State) (peer : Peer) (d : Bytes) : State :=
  let s := s.rxFrame peer.port
  if 512 ≤ (s.avail.rxQueue.filter (fun q => q.1 = peer.port)).length then s.inc32 (0x1010 + peer.port) 0x0C 1
  else { s with avail := { s.avail with rxQueue := s.avail.rxQueue ++ [(peer.port, peer.ip, peer.udp, d)] } }

/-- FDP_FRAME_RX (R457 to R459). -/
def execFdpFrameRx (peer : Peer) (datagram : Bytes) (s : State) : Result :=
  inst (decide (peer.port < 2)) (.next (if s.power.dictUp && s.portUp peer.port then (s.arrive peer datagram).serve else s))

/-- A frame whose layout has been checked is handled, once the dictionary is available. -/
def State.onFrame (s : State) (peer : Peer) (f : State → State) : State := if s.fdpReady && s.portUp peer.port then f s else s

/-- OPEN (R460). -/
def execFdpOpen (peer : Peer) (frame : FdpFrame) (s : State) : Result := inst (decide (peer.port < 2)) (.next (s.onFrame peer (fun s => s.rxOpen peer frame)))
/-- KEY_INIT (R461). -/
def execKeyInit (peer : Peer) (frame : FdpFrame) (s : State) : Result := inst (decide (peer.port < 2)) (.next (s.onFrame peer (fun s => s.rxKeyInit peer frame)))
/-- REQUEST (R462, R465). -/
def execFdpRequest (peer : Peer) (frame : FdpFrame) (s : State) : Result := inst (decide (peer.port < 2)) (.next (s.onFrame peer (fun s => s.rxRequest peer frame)))
/-- NOTIFY_ACK (R474). -/
def execNotifyAck (peer : Peer) (frame : FdpFrame) (s : State) : Result := inst (decide (peer.port < 2)) (.next (s.onFrame peer (fun s => s.rxNotifyAck peer frame)))
/-- CLOSE_FRAME (R462). -/
def execCloseFrame (peer : Peer) (frame : FdpFrame) (s : State) : Result := inst (decide (peer.port < 2)) (.next (s.onFrame peer (fun s => s.rxClose peer frame)))

end Sys2Proof.Machine
end

