-- ==== Sys2Proof/Machine/Dispatch.lean ====
section
/-! DEFINITION. One arm per command: the command's own meaning. -/

namespace Sys2Proof.Machine

/-- The effect of a command on everything but the queue. -/
def exec (i : Instr) (s : State) : Host.Outcome State Fault Refusal :=
  match i with
  | .dictWrite sess idx sub data => Sys2Proof.Machine.execDictWrite sess idx sub data s
  | .commit sess sc => Sys2Proof.Machine.execCommit sess sc s
  | .discard sess => Sys2Proof.Machine.execDiscard sess s
  | .disarm sess => Sys2Proof.Machine.execDisarm sess s
  | .epochBoundary => Sys2Proof.Machine.execEpochBoundary s
  | .enableWrite sess idx => Sys2Proof.Machine.execEnableWrite sess idx s
  | .disableWrite sess idx => Sys2Proof.Machine.execDisableWrite sess idx s
  | .enablingComplete idx => Sys2Proof.Machine.execEnablingComplete idx s
  | .disablingComplete idx => Sys2Proof.Machine.execDisablingComplete idx s
  | .laneLock lane => Sys2Proof.Machine.execLaneLock lane s
  | .laneLockTimeout lane => Sys2Proof.Machine.execLaneLockTimeout lane s
  | .clockRecoveryLoss lane => Sys2Proof.Machine.execClockRecoveryLoss lane s
  | .sheafFrameRx lane line skew wander => Sys2Proof.Machine.execSheafFrameRx lane line skew wander s
  | .itemRx lane item => Sys2Proof.Machine.execItemRx lane item s
  | .qlRx lane level => Sys2Proof.Machine.execQlRx lane level s
  | .creditRx lane stream limit => Sys2Proof.Machine.execCreditRx lane stream limit s
  | .laneMapRx lane gen map => Sys2Proof.Machine.execLaneMapRx lane gen map s
  | .laneAckRx lane gen map => Sys2Proof.Machine.execLaneAckRx lane gen map s
  | .groupOn idx => Sys2Proof.Machine.execGroupOn idx s
  | .rxLaneFail lane => Sys2Proof.Machine.execRxLaneFail lane s
  | .laneMapRetry g => Sys2Proof.Machine.execLaneMapRetry g s
  | .txLaneFail lane => Sys2Proof.Machine.execTxLaneFail lane s
  | .itemTx lane => Sys2Proof.Machine.execItemTx lane s
  | .qlSend => Sys2Proof.Machine.execQlSend s
  | .prbsInject sess => Sys2Proof.Machine.execPrbsInject sess s
  | .sheafCounterClear sess => Sys2Proof.Machine.execSheafCounterClear sess s
  | .samplePacketRx => Sys2Proof.Machine.execSamplePacketRx s
  | .slabSeal => Sys2Proof.Machine.execSlabSeal s
  | .windowStart bay => Sys2Proof.Machine.execWindowStart bay s
  | .loftStepFill bay => Sys2Proof.Machine.execLoftStepFill bay s
  | .cribFreeze profile => Sys2Proof.Machine.execCribFreeze profile s
  | .fireTrigger sess => Sys2Proof.Machine.execFireTrigger sess s
  | .pinsTakeEffect silo => Sys2Proof.Machine.execPinsTakeEffect silo s
  | .siloRelease sess silo => Sys2Proof.Machine.execSiloRelease sess silo s
  | .siloReleaseComplete silo => Sys2Proof.Machine.execSiloReleaseComplete silo s
  | .readoutStart sess => Sys2Proof.Machine.execReadoutStart sess s
  | .readoutPacket => Sys2Proof.Machine.execReadoutPacket s
  | .readoutAbort sess => Sys2Proof.Machine.execReadoutAbort sess s
  | .corr4 bay => Sys2Proof.Machine.execCorr4 bay s
  | .corr8 bay => Sys2Proof.Machine.execCorr8 bay s
  | .beam4 bay => Sys2Proof.Machine.execBeam4 bay s
  | .beam8 bay => Sys2Proof.Machine.execBeam8 bay s
  | .xreg bay => Sys2Proof.Machine.execXreg bay s
  | .zero bay => Sys2Proof.Machine.execZero bay s
  | .dump bay => Sys2Proof.Machine.execDump bay s
  | .cutFence bay => Sys2Proof.Machine.execCutFence bay s
  | .fencePass bay => Sys2Proof.Machine.execFencePass bay s
  | .cutEnd bay => Sys2Proof.Machine.execCutEnd bay s
  | .cutWaitStep bay => Sys2Proof.Machine.execCutWaitStep bay s
  | .cutJump bay => Sys2Proof.Machine.execCutJump bay s
  | .cutIfStep bay => Sys2Proof.Machine.execCutIfStep bay s
  | .cutLoop bay => Sys2Proof.Machine.execCutLoop bay s
  | .cutEndloop bay => Sys2Proof.Machine.execCutEndloop bay s
  | .cutWaitEvt bay => Sys2Proof.Machine.execCutWaitEvt bay s
  | .cutEvent bay => Sys2Proof.Machine.execCutEvent bay s
  | .jigRestart sess bay => Sys2Proof.Machine.execJigRestart sess bay s
  | .workOrderStart tile bad => Sys2Proof.Machine.execWorkOrderStart tile bad s
  | .classUYield tile => Sys2Proof.Machine.execClassUYield tile s
  | .passOverflow tile => Sys2Proof.Machine.execPassOverflow tile s
  | .passComplete tile => Sys2Proof.Machine.execPassComplete tile s
  | .foldComplete tile bad => Sys2Proof.Machine.execFoldComplete tile bad s
  | .spillComplete tile bad => Sys2Proof.Machine.execSpillComplete tile bad s
  | .workOrderComplete bay => Sys2Proof.Machine.execWorkOrderComplete bay s
  | .dumpRecordStaged bad => Sys2Proof.Machine.execDumpRecordStaged bad s
  | .recordFragmentsSend stream => Sys2Proof.Machine.execRecordFragmentsSend stream s
  | .residueMismatch tile => Sys2Proof.Machine.execResidueMismatch tile s
  | .tileFail tile cause => Sys2Proof.Machine.execTileFail tile cause s
  | .reseatComplete bay => Sys2Proof.Machine.execReseatComplete bay s
  | .retest sess tile => Sys2Proof.Machine.execRetest sess tile s
  | .retestComplete tile passed => Sys2Proof.Machine.execRetestComplete tile passed s
  | .weightLoad lam => Sys2Proof.Machine.execWeightLoad lam s
  | .formatRecord stream => Sys2Proof.Machine.execFormatRecord stream s
  | .winnowService => Sys2Proof.Machine.execWinnowService s
  | .winnowOutput => Sys2Proof.Machine.execWinnowOutput s
  | .scalerGroupSend scaler => Sys2Proof.Machine.execScalerGroupSend scaler s
  | .lineClockEdge => Sys2Proof.Machine.execLineClockEdge s
  | .pixelPacketRx => Sys2Proof.Machine.execPixelPacketRx s
  | .stageBLine camera => Sys2Proof.Machine.execStageBLine camera s
  | .statsRecordFormed camera => Sys2Proof.Machine.execStatsRecordFormed camera s
  | .frameSlotFilled => Sys2Proof.Machine.execFrameSlotFilled s
  | .frameHold sess slot => Sys2Proof.Machine.execFrameHold sess slot s
  | .frameSlotRelease sess slot => Sys2Proof.Machine.execFrameSlotRelease sess slot s
  | .stitchedLine => Sys2Proof.Machine.execStitchedLine s
  | .regReady => Sys2Proof.Machine.execRegReady s
  | .regRecordTake => Sys2Proof.Machine.execRegRecordTake s
  | .doveShift => Sys2Proof.Machine.execDoveShift s
  | .clearCorr sess k => Sys2Proof.Machine.execClearCorr sess k s
  | .gleanerLine => Sys2Proof.Machine.execGleanerLine s
  | .slotANop core => Sys2Proof.Machine.execSlotANop core s
  | .cmul core => Sys2Proof.Machine.execCmul core s
  | .cmulj core => Sys2Proof.Machine.execCmulj core s
  | .cmac core => Sys2Proof.Machine.execCmac core s
  | .cmacj core => Sys2Proof.Machine.execCmacj core s
  | .cmsu core => Sys2Proof.Machine.execCmsu core s
  | .cmag core => Sys2Proof.Machine.execCmag core s
  | .cbfly core => Sys2Proof.Machine.execCbfly core s
  | .aclr core => Sys2Proof.Machine.execAclr core s
  | .mva core => Sys2Proof.Machine.execMva core s
  | .mva2 core => Sys2Proof.Machine.execMva2 core s
  | .cadd core => Sys2Proof.Machine.execCadd core s
  | .csub core => Sys2Proof.Machine.execCsub core s
  | .cconj core => Sys2Proof.Machine.execCconj core s
  | .bexd core => Sys2Proof.Machine.execBexd core s
  | .bexs core => Sys2Proof.Machine.execBexs core s
  | .addD core => Sys2Proof.Machine.execAddD core s
  | .subD core => Sys2Proof.Machine.execSubD core s
  | .andD core => Sys2Proof.Machine.execAndD core s
  | .orD core => Sys2Proof.Machine.execOrD core s
  | .xorD core => Sys2Proof.Machine.execXorD core s
  | .shl core => Sys2Proof.Machine.execShl core s
  | .asr core => Sys2Proof.Machine.execAsr core s
  | .lsr core => Sys2Proof.Machine.execLsr core s
  | .addi core => Sys2Proof.Machine.execAddi core s
  | .movi core => Sys2Proof.Machine.execMovi core s
  | .movhi core => Sys2Proof.Machine.execMovhi core s
  | .cmpD core => Sys2Proof.Machine.execCmpD core s
  | .mulD core => Sys2Proof.Machine.execMulD core s
  | .divD core => Sys2Proof.Machine.execDivD core s
  | .movc core => Sys2Proof.Machine.execMovc core s
  | .movcw core => Sys2Proof.Machine.execMovcw core s
  | .movar core => Sys2Proof.Machine.execMovar core s
  | .movra core => Sys2Proof.Machine.execMovra core s
  | .br core => Sys2Proof.Machine.execBr core s
  | .call core => Sys2Proof.Machine.execCall core s
  | .ret core => Sys2Proof.Machine.execRet core s
  | .rti core => Sys2Proof.Machine.execRti core s
  | .rep core => Sys2Proof.Machine.execRep core s
  | .repd core => Sys2Proof.Machine.execRepd core s
  | .eidi core => Sys2Proof.Machine.execEidi core s
  | .waite core => Sys2Proof.Machine.execWaite core s
  | .sige core => Sys2Proof.Machine.execSige core s
  | .trapD core => Sys2Proof.Machine.execTrapD core s
  | .haltD core => Sys2Proof.Machine.execHaltD core s
  | .slotBNop core => Sys2Proof.Machine.execSlotBNop core s
  | .ld core ecc => Sys2Proof.Machine.execLd core ecc s
  | .ldo core ecc => Sys2Proof.Machine.execLdo core ecc s
  | .st core => Sys2Proof.Machine.execSt core s
  | .sto core => Sys2Proof.Machine.execSto core s
  | .ld2 core ecc => Sys2Proof.Machine.execLd2 core ecc s
  | .st2 core => Sys2Proof.Machine.execSt2 core s
  | .ldst core ecc => Sys2Proof.Machine.execLdst core ecc s
  | .fld core => Sys2Proof.Machine.execFld core s
  | .fst core => Sys2Proof.Machine.execFst core s
  | .amod core => Sys2Proof.Machine.execAmod core s
  | .ldai core => Sys2Proof.Machine.execLdai core s
  | .farResponse core => Sys2Proof.Machine.execFarResponse core s
  | .farTimeout core => Sys2Proof.Machine.execFarTimeout core s
  | .trapEntry core imem deferral => Sys2Proof.Machine.execTrapEntry core imem deferral s
  | .interruptEntry core deferral => Sys2Proof.Machine.execInterruptEntry core deferral s
  | .imageApply core => Sys2Proof.Machine.execImageApply core s
  | .imageLoadComplete core => Sys2Proof.Machine.execImageLoadComplete core s
  | .debugHaltCmd sess core => Sys2Proof.Machine.execDebugHaltCmd sess core s
  | .debugResume sess core => Sys2Proof.Machine.execDebugResume sess core s
  | .debugStep sess core => Sys2Proof.Machine.execDebugStep sess core s
  | .breakpointHit core => Sys2Proof.Machine.execBreakpointHit core s
  | .parityEngineWrite addr data => Sys2Proof.Machine.execParityEngineWrite addr data s
  | .assemblyClose closeStripe => Sys2Proof.Machine.execAssemblyClose closeStripe s
  | .dramRead addr cls err => Sys2Proof.Machine.execDramRead addr cls err s
  | .scrubRead ch err => Sys2Proof.Machine.execScrubRead ch err s
  | .refreshDue ch rank busy => Sys2Proof.Machine.execRefreshDue ch rank busy s
  | .mr4Read ch codes above => Sys2Proof.Machine.execMr4Read ch codes above s
  | .channelLost ch cause => Sys2Proof.Machine.execChannelLost ch cause s
  | .declareLost sess ch => Sys2Proof.Machine.execDeclareLost sess ch s
  | .rebuild sess ch => Sys2Proof.Machine.execRebuild sess ch s
  | .rebuildComplete ch => Sys2Proof.Machine.execRebuildComplete ch s
  | .applyDelays sess ch => Sys2Proof.Machine.execApplyDelays sess ch s
  | .recalibrate sess ch => Sys2Proof.Machine.execRecalibrate sess ch s
  | .recalWindow ch final margin block => Sys2Proof.Machine.execRecalWindow ch final margin block s
  | .freqChange sess => Sys2Proof.Machine.execFreqChange sess s
  | .channelFreqSwitch => Sys2Proof.Machine.execChannelFreqSwitch s
  | .storeDelays sess => Sys2Proof.Machine.execStoreDelays sess s
  | .fabricRequest master req => Sys2Proof.Machine.execFabricRequest master req s
  | .pageWalkComplete walk => Sys2Proof.Machine.execPageWalkComplete walk s
  | .lockBroken master => Sys2Proof.Machine.execLockBroken master s
  | .invWindow sess window => Sys2Proof.Machine.execInvWindow sess window s
  | .invAll sess => Sys2Proof.Machine.execInvAll sess s
  | .pageInvWindow master window => Sys2Proof.Machine.execPageInvWindow master window s
  | .pageInvAll master => Sys2Proof.Machine.execPageInvAll master s
  | .dmaStart via c => Sys2Proof.Machine.execDmaStart via c s
  | .descriptorFetch c => Sys2Proof.Machine.execDescriptorFetch c s
  | .descriptorComplete c => Sys2Proof.Machine.execDescriptorComplete c s
  | .dmaBeatFault c => Sys2Proof.Machine.execDmaBeatFault c s
  | .dmaAbort via c => Sys2Proof.Machine.execDmaAbort via c s
  | .abortComplete c => Sys2Proof.Machine.execAbortComplete c s
  | .dmaResume via c => Sys2Proof.Machine.execDmaResume via c s
  | .dmaResumeNext via c => Sys2Proof.Machine.execDmaResumeNext via c s
  | .moverAssign => Sys2Proof.Machine.execMoverAssign s
  | .qlFrameRx cand word stop => Sys2Proof.Machine.execQlFrameRx cand word stop s
  | .qlTimeout cand => Sys2Proof.Machine.execQlTimeout cand s
  | .signalLoss cand => Sys2Proof.Machine.execSignalLoss cand s
  | .monitorWindowEnd ys control => Sys2Proof.Machine.execMonitorWindowEnd ys control s
  | .wtrExpiry cand => Sys2Proof.Machine.execWtrExpiry cand s
  | .switchComplete => Sys2Proof.Machine.execSwitchComplete s
  | .refAcquireTimeout => Sys2Proof.Machine.execRefAcquireTimeout s
  | .pps => Sys2Proof.Machine.execPps s
  | .scLoad sess => Sys2Proof.Machine.execScLoad sess s
  | .scLoadApply => Sys2Proof.Machine.execScLoadApply s
  | .adjust sess t v => Sys2Proof.Machine.execAdjust sess t v s
  | .tbStep sess t => Sys2Proof.Machine.execTbStep sess t s
  | .tbSet master secure t => Sys2Proof.Machine.execTbSet master secure t s
  | .toutTimeReached k => Sys2Proof.Machine.execToutTimeReached k s
  | .toutEvent k => Sys2Proof.Machine.execToutEvent k s
  | .toutPulseEnd k => Sys2Proof.Machine.execToutPulseEnd k s
  | .tinCapture k rising held => Sys2Proof.Machine.execTinCapture k rising held s
  | .ptpEventRx port msg => Sys2Proof.Machine.execPtpEventRx port msg s
  | .ptpMessageTx port kind => Sys2Proof.Machine.execPtpMessageTx port kind s
  | .encoderEdge axis a b held => Sys2Proof.Machine.execEncoderEdge axis a b held s
  | .hallState axis uvw held => Sys2Proof.Machine.execHallState axis uvw held s
  | .ssiFrame axis value parity => Sys2Proof.Machine.execSsiFrame axis value parity s
  | .indexEdge axis held => Sys2Proof.Machine.execIndexEdge axis held s
  | .axisPreset sess axis => Sys2Proof.Machine.execAxisPreset sess axis s
  | .observerUpdate axis => Sys2Proof.Machine.execObserverUpdate axis s
  | .standstill axis => Sys2Proof.Machine.execStandstill axis s
  | .comparePlace sess m => Sys2Proof.Machine.execComparePlace sess m s
  | .markerEntryArrive m => Sys2Proof.Machine.execMarkerEntryArrive m s
  | .compareClear sess m => Sys2Proof.Machine.execCompareClear sess m s
  | .cmpoutPulseEnd m => Sys2Proof.Machine.execCmpoutPulseEnd m s
  | .lineEdgeEmit => Sys2Proof.Machine.execLineEdgeEmit s
  | .timerLineEdge => Sys2Proof.Machine.execTimerLineEdge s
  | .ltrigPulse j => Sys2Proof.Machine.execLtrigPulse j s
  | .fdpFrameRx peer datagram => Sys2Proof.Machine.execFdpFrameRx peer datagram s
  | .fdpOpen peer frame => Sys2Proof.Machine.execFdpOpen peer frame s
  | .keyInit peer frame => Sys2Proof.Machine.execKeyInit peer frame s
  | .fdpRequest peer frame => Sys2Proof.Machine.execFdpRequest peer frame s
  | .notifyAck peer frame => Sys2Proof.Machine.execNotifyAck peer frame s
  | .closeFrame peer frame => Sys2Proof.Machine.execCloseFrame peer frame s
  | .fdpRead sess idx sub => Sys2Proof.Machine.execFdpRead sess idx sub s
  | .fdpWrite sess idx sub data => Sys2Proof.Machine.execFdpWrite sess idx sub data s
  | .fdpDescribe sess idx sub => Sys2Proof.Machine.execFdpDescribe sess idx sub s
  | .domBegin sess idx sub total => Sys2Proof.Machine.execDomBegin sess idx sub total s
  | .domSeg sess idx sub off data => Sys2Proof.Machine.execDomSeg sess idx sub off data s
  | .domEnd sess idx sub crc => Sys2Proof.Machine.execDomEnd sess idx sub crc s
  | .domRead sess idx sub off len => Sys2Proof.Machine.execDomRead sess idx sub off len s
  | .domCancel sess idx sub => Sys2Proof.Machine.execDomCancel sess idx sub s
  | .transferAbandoned sess => Sys2Proof.Machine.execTransferAbandoned sess s
  | .sessionIdleTimeout sess => Sys2Proof.Machine.execSessionIdleTimeout sess s
  | .sessionClose sess target => Sys2Proof.Machine.execSessionClose sess target s
  | .notifySend sess => Sys2Proof.Machine.execNotifySend sess s
  | .notifyResend sess seq => Sys2Proof.Machine.execNotifyResend sess seq s
  | .keySet sess role newKey => Sys2Proof.Machine.execKeySet sess role newKey s
  | .debugEnter sess => Sys2Proof.Machine.execDebugEnter sess s
  | .debugLeave sess => Sys2Proof.Machine.execDebugLeave sess s
  | .arpRequest port sender target => Sys2Proof.Machine.execArpRequest port sender target s
  | .icmpEcho port sender target payload => Sys2Proof.Machine.execIcmpEcho port sender target payload s
  | .portLinkChange port link => Sys2Proof.Machine.execPortLinkChange port link s
  | .eventTake => Sys2Proof.Machine.execEventTake s
  | .consumerTake input => Sys2Proof.Machine.execConsumerTake input s
  | .relayEmit r => Sys2Proof.Machine.execRelayEmit r s
  | .softEvent via n => Sys2Proof.Machine.execSoftEvent via n s
  | .channelAttr master secure c value => Sys2Proof.Machine.execChannelAttr master secure c value s
  | .alertDelivery k => Sys2Proof.Machine.execAlertDelivery k s
  | .alertPulseEnd k => Sys2Proof.Machine.execAlertPulseEnd k s
  | .alertRelease sess k => Sys2Proof.Machine.execAlertRelease sess k s
  | .snapshotTime g => Sys2Proof.Machine.execSnapshotTime g s
  | .snapshotEvent g => Sys2Proof.Machine.execSnapshotEvent g s
  | .snapNow sess g => Sys2Proof.Machine.execSnapNow sess g s
  | .counterClear via n => Sys2Proof.Machine.execCounterClear via n s
  | .ovfClear sess n => Sys2Proof.Machine.execOvfClear sess n s
  | .counterWrap n => Sys2Proof.Machine.execCounterWrap n s
  | .lockstepMismatch => Sys2Proof.Machine.execLockstepMismatch s
  | .watchdogExpiry => Sys2Proof.Machine.execWatchdogExpiry s
  | .failover sess => Sys2Proof.Machine.execFailover sess s
  | .pairSelftestComplete passed => Sys2Proof.Machine.execPairSelftestComplete passed s
  | .firmwareFlashComplete ok => Sys2Proof.Machine.execFirmwareFlashComplete ok s
  | .activate sess => Sys2Proof.Machine.execActivate sess s
  | .loadingComplete => Sys2Proof.Machine.execLoadingComplete s
  | .handoverComplete gap => Sys2Proof.Machine.execHandoverComplete gap s
  | .probationEnd => Sys2Proof.Machine.execProbationEnd s
  | .keep sess => Sys2Proof.Machine.execKeep sess s
  | .keepTimeout => Sys2Proof.Machine.execKeepTimeout s
  | .keepEntryComplete micros => Sys2Proof.Machine.execKeepEntryComplete micros s
  | .wake sess => Sys2Proof.Machine.execWake sess s
  | .keepExitComplete micros => Sys2Proof.Machine.execKeepExitComplete micros s
  | .deviceReset sess => Sys2Proof.Machine.execDeviceReset sess s
  | .pwrEnFall => Sys2Proof.Machine.execPwrEnFall s
  | .pwrEnRise => Sys2Proof.Machine.execPwrEnRise s
  | .porstNAssert => Sys2Proof.Machine.execPorstNAssert s
  | .porstNRelease => Sys2Proof.Machine.execPorstNRelease s
  | .dictionaryReachable micros m0 m1 => Sys2Proof.Machine.execDictionaryReachable micros m0 m1 s
  | .bootComplete micros found badLanes => Sys2Proof.Machine.execBootComplete micros found badLanes s
  | .housekeepingRound temps volts amps => Sys2Proof.Machine.execHousekeepingRound temps volts amps s
  | .undervoltage rail => Sys2Proof.Machine.execUndervoltage rail s
  | .vaonLow => Sys2Proof.Machine.execVaonLow s
  | .extest balls cells => Sys2Proof.Machine.execExtest balls cells s
  | .idcode => Sys2Proof.Machine.execIdcode s
  | .samplePreload balls cells => Sys2Proof.Machine.execSamplePreload balls cells s
  | .clamp => Sys2Proof.Machine.execClamp s
  | .highz => Sys2Proof.Machine.execHighz s
  | .jtagReset => Sys2Proof.Machine.execJtagReset s
  | .bypass => Sys2Proof.Machine.execBypass s
  | .prbsReceive lane rx => Sys2Proof.Machine.execPrbsReceive lane rx s
  | .signalReturn cand => Sys2Proof.Machine.execSignalReturn cand s

end Sys2Proof.Machine
end

