-- ==== Sys2Proof/Machine/Tick.lean ====
section
/-! DEFINITION. What one TCLK tick does when no command waits: the clock, and the counters that count ticks of a state.
XCLK has three ticks and FCLK two for each TCLK tick (R32); THROTTLE drops XCLK ticks (R528), and KEEP stops both (R530). -/

namespace Sys2Proof.Machine

/-- XCLK cycle `j` of the undivided clock is kept in the throttle mode in force (R528). -/
def xclkKept (mode n j : Nat) : Bool :=
  match mode with
  | 1 => j % 2 = 0
  | 2 => j % 4 = 0
  | 3 => j % n ≠ 0
  | _ => true

/-- XCLK ticks of the next TCLK tick. -/
def State.xclkTicks (s : State) : Nat :=
  ((List.range 3).filter (fun j => xclkKept (s.reg 0x2000 2) s.power.skipN (s.dowel.xphase + j))).length

/-- The undivided XCLK phase moves on, modulo the division in force. -/
def State.nextPhase (s : State) : State :=
  let d := match s.reg 0x2000 2 with | 1 => 2 | 2 => 4 | 3 => s.power.skipN | _ => 1
  { s with dowel := { s.dowel with xphase := (s.dowel.xphase + 3) % d } }

/-- A pass runs on tile `g`. -/
def State.passRuns (s : State) (g : Nat) : Bool :=
  match s.serves g with
  | some lam => (match s.running lam with | some o => decide (woOp o.bits ≤ 5) | none => false)
  | none => false

/-- A filled loft half waits for its Jig (R133). -/
def State.halfWaits (s : State) (k : Nat) : Bool := (List.range 2).any (fun h => (s.loftHalf k h).held && !(s.loftHalf k h).taken)

/-- The Jig of bay `k` waits for a port. -/
def State.portWaits (s : State) (k : Nat) : Bool := s.reg (0x3010 + k) 2 = stOn && s.runState k = jgWaitPort

/-- The level of a level source of R500. -/
def State.sourceLevel (s : State) (id : Nat) : Bool :=
  if 0x800 ≤ id && id < 0x910 then s.passRuns (id - 0x800)
  else if 0xB00 ≤ id && id < 0xB88 then s.arbiterWaits ((id - 0xB00) / 4) ((id - 0xB00) % 4)
  else if 0xC00 ≤ id && id < 0xC60 then s.controllerWaits ((id - 0xC00) / 4) ((id - 0xC00) % 4)
  else if 0xE08 ≤ id && id < 0xE0C then s.halfWaits (id - 0xE08)
  else if 0xE0C ≤ id && id < 0xE10 then s.portWaits (id - 0xE0C)
  else false

/-- DCLK ticks of a TCLK tick: 1,000, 800 or 600 MHz by the DRAM speed (R32). -/
def State.dclkTicks (s : State) : Nat :=
  let k := match s.reg 0x5800 2 with | 2 => 10 | 1 => 8 | _ => 6
  ((s.time.tclk + 1) * k) / 5 - (s.time.tclk * k) / 5

/-- Ticks of the domain of a level source in one TCLK tick with `x` XCLK ticks: FCLK at the arbiters, DCLK at the controllers, XCLK elsewhere (R32, R500). -/
def State.sourceTicks (s : State) (id x : Nat) : Nat :=
  if 0xB00 ≤ id && id < 0xB88 then 2 else if 0xC00 ≤ id && id < 0xC60 then s.dclkTicks else x

/-- One counter with a level source: rising edges in COUNT, ticks of the source's domain in DURATION (R499). -/
def State.countLevel (s : State) (n x : Nat) : State :=
  let ticks := s.sourceTicks (s.reg (0x6A40 + n) 3) x
  let level := s.sourceLevel (s.reg (0x6A40 + n) 3)
  let was := (nthD ⟨0, false⟩ s.dowel.counters n).level
  let s := { s with dowel := { s.dowel with counters := modNth (fun c => { c with level := level }) s.dowel.counters n } }
  match s.reg (0x6A40 + n) 4 with
  | 0 => if level && !was then s.counterAdd n 1 else s
  | 1 => if level && decide (0 < ticks) then s.counterAdd n ticks else s
  | _ => s

/-- The ON counters whose source is a level. -/
def State.levelCounters (s : State) : List Nat :=
  ((s.idxWith 0x6A40 0x6A7F 2 stOn).filter (fun i => counterKind s.board (s.reg i 3) = .level)).map (fun i => i - 0x6A40)

/-- BEAM work orders that a weight load holds (R197). -/
def State.heldBeams (s : State) : Nat :=
  (s.xarray.orders.filter (fun o => o.phase = .queued && isBeam (woOp o.bits) &&
    s.xarray.loads.any (fun l => l.lam = o.lam && (match o.half with | some h => decide (l.sc ≤ h.sc) | none => false)))).length

/-- Work orders in a phase. -/
def State.inPhase (s : State) (p : WorkOrder → Bool) : Nat := (s.xarray.orders.filter p).length

/-- A U64 tick counter of an entry, when there is something to add. -/
def State.addTicks (s : State) (idx sub n : Nat) : State := if n = 0 then s else s.inc64 idx sub n

/-- The X-array's counters over some XCLK ticks (R133, R167, R174, R197, 2200h+g.04, 3010h+k.0A). -/
def State.xclkCount (s : State) (x : Nat) : State :=
  let s := s.each ((List.range (68 * s.board.bays)).filter s.passRuns) (fun g s => s.addTicks (0x2200 + g) 4 x)
  let s := s.each (List.range s.board.bays) (fun k s =>
    let s := if s.portWaits k then s.addTicks (0x3010 + k) 0x0A x else s
    if s.halfWaits k then s.addTicks (0x3010 + k) 0x0B x else s)
  let s := s.addTicks 0x3400 0x0C (x * s.inPhase (fun o => o.phase = .spilling))
  let s := s.addTicks 0x3400 0x0E (x * s.inPhase (fun o => o.phase = .running && woOp o.bits = 7))
  s.addTicks 0x3800 0x0A (x * s.heldBeams)

/-- XCLK and FCLK run: the part is powered and not in KEEP (R530). -/
def State.clocksRun (s : State) : Bool := s.pwState = pwStarting || s.pwState = pwRun || s.pwState = pwKeepEntry || s.pwState = pwKeepExit

/-- Once a second, every open session is one second nearer its idle close (1030h+s.09). -/
def State.idleSecond (s : State) : State :=
  if s.time.tclk % 500000000 = 0 then
    s.each ((List.range 8).map (· + 1)) (fun k s => if s.sessionOpen k then s.setReg (sessIdx k) 9 (s.reg (sessIdx k) 9 - 1) else s)
  else s

/-- One TCLK tick with no command (log 46). -/
def State.tick (s : State) : State :=
  if s.time.running then
    let s := s.clockTick.idleSecond
    let s :=
      if s.clocksRun then
        let x := s.xclkTicks
        let s := (s.each s.levelCounters (fun n s => s.countLevel n x)).xclkCount x
        let s := s.each (List.range 4) (fun i s => s.countV (0xE04 + i) (s.poolUse i))
        let s := s.each (s.prbsLanes true (s.reg 0x2402 2)) (fun m s => s.prbsTx m)
        let s := State.grantAll s.fabric.waiting.length s
        s.nextPhase.cribTick.dspTick.dramTick.walkTick
      else s
    s.serve.keepAdvance
  else s.serve

end Sys2Proof.Machine
end

