-- ==== Sys2Proof/WellFormed.lean ====
section
/-! DEFINITION. Which commands are well formed: every operand that names an instance, or that a field of the manual holds, lies in its range (log 2, log 3). -/

namespace Sys2Proof

/-- The operands lie in the ranges the manual gives them; a meaning stops on the others with `noSuchInstance`. -/
def Instr.wf (i : Instr) : Bool :=
  match i with
  | .dictWrite _ _ _ _ => true
  | .commit _ sc => decide (sc < 2 ^ 64)
  | .discard _ => true
  | .disarm _ => true
  | .epochBoundary => true
  | .enableWrite _ idx => (Machine.unitKind idx).isSome
  | .disableWrite _ idx => (Machine.unitKind idx).isSome
  | .enablingComplete idx => (Machine.unitKind idx).isSome
  | .disablingComplete idx => (Machine.unitKind idx).isSome
  | .laneLock lane => decide (lane < 128)
  | .laneLockTimeout lane => decide (lane < 128)
  | .clockRecoveryLoss lane => decide (lane < 128)
  | .sheafFrameRx lane line _ _ => decide (lane < 128) && decide (line < 2 ^ 8192)
  | .itemRx lane _ => decide (lane < 128)
  | .qlRx lane level => decide (lane < 128) && decide (level < 16)
  | .creditRx lane stream _ => decide (lane < 128) && decide (stream < 4096)
  | .laneMapRx lane _ _ => decide (lane < 128)
  | .laneAckRx lane _ _ => decide (lane < 128)
  | .groupOn idx => decide (0x2440 ≤ idx) && decide (idx ≤ 0x246F)
  | .rxLaneFail lane => decide (lane < 128)
  | .laneMapRetry g => decide (g < 32)
  | .txLaneFail lane => decide (lane < 64)
  | .itemTx lane => decide (lane < 64)
  | .qlSend => true
  | .prbsInject _ => true
  | .sheafCounterClear _ => true
  | .samplePacketRx => true
  | .slabSeal => true
  | .windowStart bay => decide (bay < 4)
  | .loftStepFill bay => decide (bay < 4)
  | .cribFreeze profile => decide (profile < 8)
  | .fireTrigger _ => true
  | .pinsTakeEffect silo => decide (silo < 64)
  | .siloRelease _ silo => decide (silo < 64)
  | .siloReleaseComplete silo => decide (silo < 64)
  | .readoutStart _ => true
  | .readoutPacket => true
  | .readoutAbort _ => true
  | .corr4 bay => decide (bay < 4)
  | .corr8 bay => decide (bay < 4)
  | .beam4 bay => decide (bay < 4)
  | .beam8 bay => decide (bay < 4)
  | .xreg bay => decide (bay < 4)
  | .zero bay => decide (bay < 4)
  | .dump bay => decide (bay < 4)
  | .cutFence bay => decide (bay < 4)
  | .fencePass bay => decide (bay < 4)
  | .cutEnd bay => decide (bay < 4)
  | .cutWaitStep bay => decide (bay < 4)
  | .cutJump bay => decide (bay < 4)
  | .cutIfStep bay => decide (bay < 4)
  | .cutLoop bay => decide (bay < 4)
  | .cutEndloop bay => decide (bay < 4)
  | .cutWaitEvt bay => decide (bay < 4)
  | .cutEvent bay => decide (bay < 4)
  | .jigRestart _ bay => decide (bay < 4)
  | .workOrderStart tile _ => decide (tile < 272)
  | .classUYield tile => decide (tile < 272)
  | .passOverflow tile => decide (tile < 272)
  | .passComplete tile => decide (tile < 272)
  | .foldComplete tile _ => decide (tile < 272)
  | .spillComplete tile _ => decide (tile < 272)
  | .workOrderComplete bay => decide (bay < 4)
  | .dumpRecordStaged _ => true
  | .recordFragmentsSend stream => decide (stream < 256)
  | .residueMismatch tile => decide (tile < 272)
  | .tileFail tile cause => decide (tile < 272) && decide (1 ≤ cause) && decide (cause ≤ 7)
  | .reseatComplete bay => decide (bay < 4)
  | .retest _ tile => decide (tile < 272)
  | .retestComplete tile _ => decide (tile < 272)
  | .weightLoad lam => decide (lam < 256)
  | .formatRecord stream => decide (stream < 256)
  | .winnowService => true
  | .winnowOutput => true
  | .scalerGroupSend scaler => decide (scaler < 8)
  | .lineClockEdge => true
  | .pixelPacketRx => true
  | .stageBLine camera => decide (camera < 16)
  | .statsRecordFormed camera => decide (camera < 16)
  | .frameSlotFilled => true
  | .frameHold _ slot => match slot with | some k => decide (k < 64) | none => true
  | .frameSlotRelease _ slot => decide (slot < 64)
  | .stitchedLine => true
  | .regReady => true
  | .regRecordTake => true
  | .doveShift => true
  | .clearCorr _ k => decide (k < 16)
  | .gleanerLine => true
  | .slotANop core => decide (core < 16)
  | .cmul core => decide (core < 16)
  | .cmulj core => decide (core < 16)
  | .cmac core => decide (core < 16)
  | .cmacj core => decide (core < 16)
  | .cmsu core => decide (core < 16)
  | .cmag core => decide (core < 16)
  | .cbfly core => decide (core < 16)
  | .aclr core => decide (core < 16)
  | .mva core => decide (core < 16)
  | .mva2 core => decide (core < 16)
  | .cadd core => decide (core < 16)
  | .csub core => decide (core < 16)
  | .cconj core => decide (core < 16)
  | .bexd core => decide (core < 16)
  | .bexs core => decide (core < 16)
  | .addD core => decide (core < 16)
  | .subD core => decide (core < 16)
  | .andD core => decide (core < 16)
  | .orD core => decide (core < 16)
  | .xorD core => decide (core < 16)
  | .shl core => decide (core < 16)
  | .asr core => decide (core < 16)
  | .lsr core => decide (core < 16)
  | .addi core => decide (core < 16)
  | .movi core => decide (core < 16)
  | .movhi core => decide (core < 16)
  | .cmpD core => decide (core < 16)
  | .mulD core => decide (core < 16)
  | .divD core => decide (core < 16)
  | .movc core => decide (core < 16)
  | .movcw core => decide (core < 16)
  | .movar core => decide (core < 16)
  | .movra core => decide (core < 16)
  | .br core => decide (core < 16)
  | .call core => decide (core < 16)
  | .ret core => decide (core < 16)
  | .rti core => decide (core < 16)
  | .rep core => decide (core < 16)
  | .repd core => decide (core < 16)
  | .eidi core => decide (core < 16)
  | .waite core => decide (core < 16)
  | .sige core => decide (core < 16)
  | .trapD core => decide (core < 16)
  | .haltD core => decide (core < 16)
  | .slotBNop core => decide (core < 16)
  | .ld core _ => decide (core < 16)
  | .ldo core _ => decide (core < 16)
  | .st core => decide (core < 16)
  | .sto core => decide (core < 16)
  | .ld2 core _ => decide (core < 16)
  | .st2 core => decide (core < 16)
  | .ldst core _ => decide (core < 16)
  | .fld core => decide (core < 16)
  | .fst core => decide (core < 16)
  | .amod core => decide (core < 16)
  | .ldai core => decide (core < 16)
  | .farResponse core => decide (core < 16)
  | .farTimeout core => decide (core < 16)
  | .trapEntry core _ _ => decide (core < 16)
  | .interruptEntry core _ => decide (core < 16)
  | .imageApply core => decide (core < 16)
  | .imageLoadComplete core => decide (core < 16)
  | .debugHaltCmd _ core => decide (core < 16)
  | .debugResume _ core => decide (core < 16)
  | .debugStep _ core => decide (core < 16)
  | .breakpointHit core => decide (core < 16)
  | .parityEngineWrite _ _ => true
  | .assemblyClose _ => true
  | .dramRead _ cls err => decide (cls < 4) && decide (err < 3)
  | .scrubRead ch err => decide (ch < 24) && decide (err < 3)
  | .refreshDue ch rank _ => decide (ch < 24) && decide (rank < 2)
  | .mr4Read ch _ _ => decide (ch < 24)
  | .channelLost ch cause => decide (ch < 24) && decide (1 ≤ cause) && decide (cause ≤ 5)
  | .declareLost _ ch => decide (ch < 24)
  | .rebuild _ ch => decide (ch < 24)
  | .rebuildComplete ch => decide (ch < 24)
  | .applyDelays _ ch => decide (ch < 24)
  | .recalibrate _ ch => decide (ch < 24)
  | .recalWindow ch _ _ _ => decide (ch < 24)
  | .freqChange _ => true
  | .channelFreqSwitch => true
  | .storeDelays _ => true
  | .fabricRequest master _ => Machine.masterOk master
  | .pageWalkComplete walk => decide (walk < 16)
  | .lockBroken master => Machine.masterOk master
  | .invWindow _ window => decide (window < 256)
  | .invAll _ => true
  | .pageInvWindow master _ => Machine.masterOk master
  | .pageInvAll master => Machine.masterOk master
  | .dmaStart via c => Machine.dmaViaOk via c
  | .descriptorFetch c => decide (c < 64)
  | .descriptorComplete c => decide (c < 64)
  | .dmaBeatFault c => decide (c < 64)
  | .dmaAbort via c => Machine.dmaViaOk via c
  | .abortComplete c => decide (c < 64)
  | .dmaResume via c => Machine.dmaViaOk via c
  | .dmaResumeNext via c => Machine.dmaViaOk via c
  | .moverAssign => true
  | .qlFrameRx cand _ _ => decide (cand < 2)
  | .qlTimeout cand => decide (cand < 4)
  | .signalLoss cand => decide (cand < 5)
  | .monitorWindowEnd _ _ => true
  | .wtrExpiry cand => decide (cand < 5)
  | .switchComplete => true
  | .refAcquireTimeout => true
  | .pps => true
  | .scLoad _ => true
  | .scLoadApply => true
  | .adjust _ t v => decide (t < 8) && decide (-(2 ^ 63) ≤ v) && decide (v < 2 ^ 63)
  | .tbStep _ t => decide (t < 8)
  | .tbSet master _ t => decide (t < 8) && Machine.masterOk master
  | .toutTimeReached k => decide (k < 8)
  | .toutEvent k => decide (k < 8)
  | .toutPulseEnd k => decide (k < 8)
  | .tinCapture k _ _ => decide (k < 8)
  | .ptpEventRx port m => decide (port < 2) && decide (m.kind < 16) && decide (1 ≤ m.portState) && decide (m.portState ≤ 9) && decide (m.gmClass < 256)
      && decide (m.gmIdentity < 2 ^ 64)
  | .ptpMessageTx port kind => decide (port < 2) && decide (kind < 16)
  | .encoderEdge axis _ _ _ => decide (axis < 4)
  | .hallState axis uvw _ => decide (axis < 4) && decide (uvw < 8)
  | .ssiFrame axis _ _ => decide (axis < 4)
  | .indexEdge axis _ => decide (axis < 4)
  | .axisPreset _ axis => decide (axis < 4)
  | .observerUpdate axis => decide (axis < 4)
  | .standstill axis => decide (axis < 4)
  | .comparePlace _ m => decide (m < 4)
  | .markerEntryArrive m => decide (m < 4)
  | .compareClear _ m => decide (m < 4)
  | .cmpoutPulseEnd m => decide (m < 4)
  | .lineEdgeEmit => true
  | .timerLineEdge => true
  | .ltrigPulse j => decide (j < 16)
  | .fdpFrameRx peer _ => decide (peer.port < 2)
  | .fdpOpen peer _ => decide (peer.port < 2)
  | .keyInit peer _ => decide (peer.port < 2)
  | .fdpRequest peer _ => decide (peer.port < 2)
  | .notifyAck peer _ => decide (peer.port < 2)
  | .closeFrame peer _ => decide (peer.port < 2)
  | .fdpRead _ _ _ => true
  | .fdpWrite _ _ _ _ => true
  | .fdpDescribe _ _ _ => true
  | .domBegin _ _ _ total => decide (total < 2 ^ 32)
  | .domSeg _ _ _ off _ => decide (off < 2 ^ 32)
  | .domEnd _ _ _ crc => decide (crc < 2 ^ 32)
  | .domRead _ _ _ off len => decide (off < 2 ^ 32) && decide (len < 2 ^ 16)
  | .domCancel _ _ _ => true
  | .transferAbandoned sess => decide (1 ≤ sess) && decide (sess ≤ 8)
  | .sessionIdleTimeout sess => decide (1 ≤ sess) && decide (sess ≤ 8)
  | .sessionClose _ target => decide (1 ≤ target) && decide (target ≤ 8)
  | .notifySend sess => decide (1 ≤ sess) && decide (sess ≤ 8)
  | .notifyResend sess _ => decide (1 ≤ sess) && decide (sess ≤ 8)
  | .keySet _ role _ => decide (role < 4)
  | .debugEnter _ => true
  | .debugLeave _ => true
  | .arpRequest port _ _ => decide (port < 2)
  | .icmpEcho port _ _ _ => decide (port < 2)
  | .portLinkChange port _ => decide (port < 2)
  | .eventTake => true
  | .consumerTake input => decide (input < 0x428)
  | .relayEmit r => decide (r < 32)
  | .softEvent via n => match via with | .fdp _ => decide (n < 256) | .page m _ => Machine.masterOk m && decide (n < 2 ^ 64)
  | .channelAttr master _ c _ => Machine.masterOk master && decide (c < 256)
  | .alertDelivery k => decide (k < 4)
  | .alertPulseEnd k => decide (k < 4)
  | .alertRelease _ k => decide (k < 4)
  | .snapshotTime g => decide (g < 8)
  | .snapshotEvent g => decide (g < 8)
  | .snapNow _ g => decide (g < 8)
  | .counterClear via n => decide (n < 64) && (match via with | .page m _ => Machine.masterOk m | _ => true)
  | .ovfClear _ n => decide (n < 64)
  | .counterWrap n => decide (n < 64)
  | .lockstepMismatch => true
  | .watchdogExpiry => true
  | .failover _ => true
  | .pairSelftestComplete _ => true
  | .firmwareFlashComplete _ => true
  | .activate _ => true
  | .loadingComplete => true
  | .handoverComplete _ => true
  | .probationEnd => true
  | .keep _ => true
  | .keepTimeout => true
  | .keepEntryComplete _ => true
  | .wake _ => true
  | .keepExitComplete _ => true
  | .deviceReset _ => true
  | .pwrEnFall => true
  | .pwrEnRise => true
  | .porstNAssert => true
  | .porstNRelease => true
  | .dictionaryReachable _ _ _ => true
  | .bootComplete _ _ _ => true
  | .housekeepingRound _ _ _ => true
  | .undervoltage rail => decide (rail < 13) && decide (rail ≠ 4)
  | .vaonLow => true
  | .extest _ _ => true
  | .idcode => true
  | .samplePreload _ _ => true
  | .clamp => true
  | .highz => true
  | .jtagReset => true
  | .bypass => true
  | .prbsReceive lane _ => decide (lane < 128)
  | .signalReturn cand => decide (cand < 2)

end Sys2Proof
end

