-- ==== Sys2Proof/Safety.lean ====
section
/-! DEFINITION. What counts as a safe run: the stored maps stay in their canonical form, and no waiting command names an instance the manual lacks. -/

namespace Sys2Proof.Machine

/-- The maps of State are in the one form in which equal contents are equal data:
registers and DOMAIN entries by rising key, DRAM by rising address with no byte listed that reads as an unlisted one (log 6). -/
def State.Canonical (s : State) : Prop := sorted s.regs = true ∧ sorted s.doms = true ∧ dramWf s.dram = true

/-- What every command keeps, from one state to a later one: the queue of waiting commands and the part itself are as they were,
stored maps stay in canonical form, no free value is drawn twice, and nothing that left the part is taken back. -/
structure State.Keeps (s t : State) : Prop where
  pending : t.pending = s.pending
  board : t.board = s.board
  regs : sorted s.regs = true → sorted t.regs = true
  doms : sorted s.doms = true → sorted t.doms = true
  dram : dramWf s.dram = true → dramWf t.dram = true
  drawn : s.drawn ≤ t.drawn
  outbox : s.outbox <+: t.outbox

/-- Every waiting command is well formed. -/
def State.QueueOk (s : State) : Prop := s.pending.all Instr.wf = true

/-- A safe state: canonical, with a well-formed queue. -/
def State.Safe (s : State) : Prop := s.Canonical ∧ s.QueueOk

/-- One step goes on. -/
def Continues (s : State) : Prop := ∃ t, step s = .next t

/-- A command completes: it has a next state, and `P` holds of it. -/
def Completes (i : Instr) (s : State) (P : State → Prop) : Prop := ∃ t, exec i s = .next t ∧ P t

/-- Session `sess` is open, and the service's first checks (unit absent, debug, role, access: R454, R456, R463, R475) let it write an entry. -/
def State.lets (s : State) (sess idx sub : Nat) : Prop := s.sessionOpen sess = true ∧ ∃ r, s.writeGate sess idx sub = .ok r

/-- As `lets`, for a CMD entry of a unit that KEEP stops: the part is not in KEEP (R532). -/
def State.letsCmd (s : State) (sess idx sub : Nat) : Prop := s.lets sess idx sub ∧ s.pwState ≠ pwKeep

/-- The parts of State a command may change: the fields, with those of the dictionary service apart. -/
inductive Part where
  | nv | regs | doms | drawn | dram | outbox | time | pos | dowel | avail | power | fabric | dsp | insp | winnow | ddr | xarray | crib | sheaf
  | sessions | staged | epochs | results | serving
  deriving DecidableEq, Repr

/-- A part is as it was. -/
def Part.same (p : Part) (s t : State) : Prop :=
  match p with
  | .nv => t.nv = s.nv
  | .regs => t.regs = s.regs
  | .doms => t.doms = s.doms
  | .drawn => t.drawn = s.drawn
  | .dram => t.dram = s.dram
  | .outbox => t.outbox = s.outbox
  | .time => t.time = s.time
  | .pos => t.pos = s.pos
  | .dowel => t.dowel = s.dowel
  | .avail => t.avail = s.avail
  | .power => t.power = s.power
  | .fabric => t.fabric = s.fabric
  | .dsp => t.dsp = s.dsp
  | .insp => t.insp = s.insp
  | .winnow => t.winnow = s.winnow
  | .ddr => t.ddr = s.ddr
  | .xarray => t.xarray = s.xarray
  | .crib => t.crib = s.crib
  | .sheaf => t.sheaf = s.sheaf
  | .sessions => t.dict.sessions = s.dict.sessions
  | .staged => t.dict.pendingSet = s.dict.pendingSet ∧ t.dict.armed = s.dict.armed
  | .epochs => t.dict.past = s.dict.past ∧ t.dict.boundaries = s.dict.boundaries ∧ t.dict.liveWriters = s.dict.liveWriters
  | .results => t.dict.results = s.dict.results
  | .serving => t.dict.serving = s.dict.serving

/-- Every part is as it was, but for those listed. -/
def State.SameBut (ps : List Part) (s t : State) : Prop := ∀ p, p ∉ ps → p.same s t
/-- Every part of State. -/
def Part.all : List Part :=
  [.nv, .regs, .doms, .drawn, .dram, .outbox, .time, .pos, .dowel, .avail, .power, .fabric, .dsp, .insp, .winnow, .ddr, .xarray, .crib, .sheaf, .sessions, .staged, .epochs, .results, .serving]

/-- Every part but a few. -/
def Part.allBut (ps : List Part) : List Part := Part.all.filter (fun p => !ps.contains p)

/-- The parts of State that a command may change at all; a write of an entry by a session may reach any part, for its entry may be any. -/
def touches (i : Instr) : List Part :=
  match i with
  | .dictWrite _ _ _ _ => Part.all
  | .commit _ _ | .discard _ | .disarm _ => [.regs, .doms, .sessions, .staged, .results]
  | .epochBoundary => Part.allBut [.pos, .avail, .winnow, .crib, .results]
  | .enableWrite _ _ | .disableWrite _ _ => Part.all
  | .enablingComplete _ => [.nv, .regs, .time, .pos, .dowel, .avail, .power, .fabric, .winnow, .xarray, .crib, .sheaf, .sessions]
  | .disablingComplete _ => Part.allBut [.staged, .epochs, .results]
  | .laneLock _ => [.nv, .regs, .time, .dowel, .power, .sheaf, .sessions]
  | .laneLockTimeout _ => [.regs]
  | .clockRecoveryLoss _ | .sheafFrameRx _ _ _ _ | .itemRx _ _ => [.nv, .regs, .time, .dowel, .avail, .power, .sheaf, .sessions]
  | .qlRx _ _ => [.regs, .time]
  | .creditRx _ _ _ => [.regs, .sheaf]
  | .laneMapRx _ _ _ | .laneAckRx _ _ _ => [.nv, .regs, .dowel, .avail, .power, .sheaf, .sessions]
  | .groupOn _ | .rxLaneFail _ => [.nv, .regs, .time, .dowel, .avail, .power, .sheaf, .sessions]
  | .laneMapRetry _ | .txLaneFail _ => [.nv, .regs, .dowel, .avail, .power, .sheaf, .sessions]
  | .itemTx _ => [.regs, .outbox, .dowel, .xarray, .sheaf]
  | .qlSend => [.sheaf]
  | .prbsInject _ => [.sheaf, .results]
  | .sheafCounterClear _ => [.regs, .results]
  | .samplePacketRx => [.nv, .regs, .drawn, .dram, .dowel, .power, .ddr, .crib, .sheaf, .sessions]
  | .slabSeal => [.nv, .regs, .drawn, .dram, .dowel, .power, .ddr, .crib, .sessions]
  | .windowStart _ => [.regs, .crib]
  | .loftStepFill _ => [.nv, .regs, .doms, .drawn, .dram, .dowel, .avail, .power, .ddr, .xarray, .crib, .sessions]
  | .cribFreeze _ => [.regs, .dowel, .crib]
  | .fireTrigger _ => [.regs, .dowel, .crib, .results]
  | .pinsTakeEffect _ => [.regs, .dowel, .crib]
  | .siloRelease _ _ => [.regs, .crib, .results]
  | .siloReleaseComplete _ => [.regs, .crib]
  | .readoutStart _ => [.regs, .crib, .results]
  | .readoutPacket => [.nv, .regs, .doms, .drawn, .dram, .dowel, .avail, .power, .ddr, .crib, .sheaf, .sessions]
  | .readoutAbort _ => [.regs, .dowel, .crib, .results]
  | .corr4 _ | .corr8 _ | .beam4 _ | .beam8 _ | .xreg _ | .zero _ | .dump _ | .cutFence _ | .fencePass _ | .cutEnd _ => [.regs, .dowel, .xarray]
  | .cutWaitStep _ => [.regs, .dowel, .xarray, .crib]
  | .cutJump _ | .cutIfStep _ | .cutLoop _ | .cutEndloop _ | .cutWaitEvt _ | .cutEvent _ => [.regs, .dowel, .xarray]
  | .jigRestart _ _ => [.regs, .xarray, .crib, .results]
  | .workOrderStart _ _ => [.nv, .regs, .doms, .drawn, .dram, .dowel, .avail, .power, .ddr, .xarray, .crib, .sessions]
  | .classUYield _ => [.regs, .xarray]
  | .passOverflow _ => [.regs, .dowel, .xarray]
  | .passComplete _ => [.nv, .regs, .dowel, .avail, .power, .xarray, .sessions]
  | .foldComplete _ _ | .spillComplete _ _ => [.nv, .regs, .doms, .drawn, .dram, .dowel, .avail, .power, .ddr, .xarray, .crib, .sessions]
  | .workOrderComplete _ => [.regs, .xarray, .crib]
  | .dumpRecordStaged _ => [.nv, .regs, .doms, .drawn, .dram, .dowel, .avail, .power, .ddr, .xarray, .crib, .sessions]
  | .recordFragmentsSend _ => [.nv, .regs, .doms, .drawn, .dram, .dowel, .avail, .power, .ddr, .xarray, .sheaf, .sessions]
  | .residueMismatch _ | .tileFail _ _ | .reseatComplete _ => [.nv, .regs, .dowel, .avail, .power, .xarray, .crib, .sessions]
  | .retest _ _ => [.xarray, .results]
  | .retestComplete _ _ => [.nv, .regs, .dowel, .avail, .power, .xarray, .crib, .sessions]
  | .weightLoad _ => [.nv, .regs, .doms, .drawn, .dram, .dowel, .avail, .power, .ddr, .xarray, .sessions]
  | .formatRecord _ => [.nv, .regs, .doms, .drawn, .dram, .dowel, .avail, .power, .winnow, .ddr, .xarray, .sheaf, .sessions]
  | .winnowService => [.regs, .winnow]
  | .winnowOutput => [.regs, .dowel, .winnow, .sheaf, .sessions]
  | .scalerGroupSend _ => [.regs, .winnow, .sheaf]
  | .lineClockEdge => [.regs, .pos, .insp, .sheaf]
  | .pixelPacketRx => [.regs, .insp, .sheaf]
  | .stageBLine _ => [.nv, .regs, .drawn, .dram, .dowel, .power, .insp, .ddr, .sessions]
  | .statsRecordFormed _ => [.nv, .regs, .drawn, .dram, .dowel, .power, .insp, .ddr, .sheaf, .sessions]
  | .frameSlotFilled => [.regs, .insp]
  | .frameHold _ _ => [.regs, .dowel, .insp, .results]
  | .frameSlotRelease _ _ => [.regs, .results]
  | .stitchedLine => [.nv, .regs, .doms, .drawn, .dram, .dowel, .avail, .power, .insp, .winnow, .ddr, .sessions]
  | .regReady => [.regs, .dowel, .insp]
  | .regRecordTake => [.nv, .regs, .doms, .drawn, .dram, .dowel, .avail, .power, .insp, .ddr, .xarray, .sessions]
  | .doveShift => [.nv, .regs, .doms, .drawn, .dram, .dowel, .avail, .power, .insp, .ddr, .sessions]
  | .clearCorr _ _ => [.insp, .results]
  | .gleanerLine => [.nv, .regs, .drawn, .dram, .pos, .dowel, .power, .insp, .ddr, .sheaf, .sessions]
  | .slotANop _ | .cmul _ | .cmulj _ | .cmac _ | .cmacj _ | .cmsu _ | .cmag _ | .cbfly _ | .aclr _ | .mva _ | .mva2 _
  | .cadd _ | .csub _ | .cconj _ | .bexd _ | .bexs _ | .addD _ | .subD _ | .andD _ | .orD _ | .xorD _ | .shl _ | .asr _
  | .lsr _ | .addi _ | .movi _ | .movhi _ | .cmpD _ | .mulD _ | .divD _ | .movc _ | .movcw _ | .movar _ | .movra _ | .br _
  | .call _ | .ret _ | .rti _ | .rep _ | .repd _ | .eidi _ => [.regs, .dsp]
  | .waite _ | .sige _ => [.regs, .dowel, .dsp]
  | .trapD _ | .haltD _ => [.regs, .dsp]
  | .slotBNop _ | .ld _ _ | .ldo _ _ | .st _ | .sto _ | .ld2 _ _ | .st2 _ | .ldst _ _ | .fld _ | .fst _ | .amod _ | .ldai _
  | .farResponse _ | .farTimeout _ | .trapEntry _ _ _ => [.nv, .regs, .dowel, .power, .dsp, .sessions]
  | .interruptEntry _ _ => [.regs, .dowel, .dsp]
  | .imageApply _ | .imageLoadComplete _ => [.regs, .dsp]
  | .debugHaltCmd _ _ | .debugResume _ _ | .debugStep _ _ => [.regs, .dsp, .results]
  | .breakpointHit _ => [.regs, .dsp]
  | .parityEngineWrite _ _ | .assemblyClose _ => [.nv, .regs, .drawn, .dram, .dowel, .power, .ddr, .sessions]
  | .dramRead _ _ _ | .scrubRead _ _ => [.nv, .regs, .doms, .drawn, .dram, .dowel, .avail, .power, .ddr, .sessions]
  | .refreshDue _ _ _ => [.regs, .doms, .ddr]
  | .mr4Read _ _ _ => [.regs, .ddr]
  | .channelLost _ _ => [.nv, .regs, .doms, .drawn, .dram, .dowel, .avail, .power, .ddr, .sessions]
  | .declareLost _ _ => [.nv, .regs, .doms, .drawn, .dram, .dowel, .avail, .power, .ddr, .sessions, .results]
  | .rebuild _ _ => [.regs, .doms, .drawn, .dram, .ddr, .results]
  | .rebuildComplete _ => [.nv, .regs, .dram, .dowel, .power, .ddr, .sessions]
  | .applyDelays _ _ => [.ddr, .results]
  | .recalibrate _ _ => [.regs, .results]
  | .recalWindow _ _ _ _ => [.nv, .regs, .doms, .drawn, .dram, .dowel, .avail, .power, .ddr, .sessions]
  | .freqChange _ => [.regs, .ddr, .results]
  | .channelFreqSwitch => [.nv, .regs, .doms, .drawn, .dram, .dowel, .avail, .power, .ddr, .sessions]
  | .storeDelays _ => [.nv, .regs, .results]
  | .fabricRequest _ _ | .pageWalkComplete _ => [.nv, .regs, .doms, .drawn, .dram, .time, .dowel, .avail, .power, .fabric, .dsp, .ddr, .sessions]
  | .lockBroken _ => [.nv, .regs, .dowel, .avail, .power, .fabric, .sessions]
  | .invWindow _ _ | .invAll _ => [.fabric, .results]
  | .pageInvWindow _ _ | .pageInvAll _ => [.nv, .regs, .dowel, .avail, .power, .fabric, .sessions]
  | .dmaStart _ _ => [.nv, .regs, .doms, .drawn, .dram, .dowel, .avail, .power, .fabric, .dsp, .ddr, .sessions, .results]
  | .descriptorFetch _ => [.nv, .regs, .dowel, .avail, .power, .fabric, .sessions]
  | .descriptorComplete _ | .dmaBeatFault _ => [.nv, .regs, .doms, .drawn, .dram, .dowel, .avail, .power, .fabric, .dsp, .ddr, .sessions]
  | .dmaAbort _ _ => [.nv, .regs, .doms, .drawn, .dram, .dowel, .avail, .power, .fabric, .dsp, .ddr, .sessions, .results]
  | .abortComplete _ => [.nv, .regs, .doms, .drawn, .dram, .dowel, .avail, .power, .fabric, .dsp, .ddr, .sessions]
  | .dmaResume _ _ | .dmaResumeNext _ _ => [.nv, .regs, .doms, .drawn, .dram, .dowel, .avail, .power, .fabric, .dsp, .ddr, .sessions, .results]
  | .moverAssign => [.regs, .fabric]
  | .qlFrameRx _ _ _ | .qlTimeout _ => [.regs, .time]
  | .signalLoss _ | .monitorWindowEnd _ _ => [.nv, .regs, .time, .dowel, .power, .sessions]
  | .wtrExpiry _ | .switchComplete => [.regs, .time]
  | .refAcquireTimeout => [.nv, .regs, .time, .dowel, .power, .sessions]
  | .pps => [.regs, .time, .dowel]
  | .scLoad _ => [.time, .results]
  | .scLoadApply => [.time]
  | .adjust _ _ _ => [.time, .results]
  | .tbStep _ _ => [.regs, .time, .results]
  | .tbSet _ _ _ => [.nv, .regs, .time, .dowel, .avail, .power, .sessions]
  | .toutTimeReached _ => [.regs, .outbox, .time]
  | .toutEvent _ => [.regs, .outbox, .time, .dowel]
  | .toutPulseEnd _ => [.outbox, .time]
  | .tinCapture _ _ _ => [.regs, .time, .dowel]
  | .ptpEventRx _ _ => [.regs, .time]
  | .ptpMessageTx _ _ => [.regs, .outbox]
  | .encoderEdge _ _ _ _ | .hallState _ _ _ | .ssiFrame _ _ _ | .indexEdge _ _ => [.regs, .outbox, .pos, .dowel]
  | .axisPreset _ _ => [.regs, .outbox, .pos, .dowel, .results]
  | .observerUpdate _ => [.regs, .pos]
  | .standstill _ => [.regs, .pos, .dowel]
  | .comparePlace _ _ => [.regs, .outbox, .pos, .dowel, .results]
  | .markerEntryArrive _ => [.regs, .outbox, .pos, .dowel]
  | .compareClear _ _ => [.regs, .pos, .results]
  | .cmpoutPulseEnd _ => [.outbox, .pos]
  | .lineEdgeEmit => [.regs, .pos, .dowel]
  | .timerLineEdge => [.regs, .pos]
  | .ltrigPulse _ => [.outbox, .pos]
  | .fdpFrameRx _ _ => Part.all
  | .fdpOpen _ _ => [.regs, .drawn, .outbox, .sessions]
  | .keyInit _ _ => [.nv, .regs, .outbox]
  | .fdpRequest _ _ => Part.all
  | .notifyAck _ _ => [.regs, .sessions]
  | .closeFrame _ _ => [.nv, .regs, .outbox, .dowel, .power, .sessions, .serving]
  | .fdpRead _ _ _ | .fdpWrite _ _ _ _ | .fdpDescribe _ _ _ | .domBegin _ _ _ _ | .domSeg _ _ _ _ _ | .domEnd _ _ _ _
  | .domRead _ _ _ _ _ | .domCancel _ _ _ => Part.all
  | .transferAbandoned _ => [.regs, .sessions]
  | .sessionIdleTimeout _ => [.nv, .regs, .outbox, .dowel, .power, .sessions, .serving]
  | .sessionClose _ _ => [.nv, .regs, .outbox, .dowel, .power, .sessions, .results, .serving]
  | .notifySend _ | .notifyResend _ _ => [.regs, .outbox, .sessions]
  | .keySet _ _ _ => [.nv, .regs, .outbox, .dowel, .power, .sessions, .results, .serving]
  | .debugEnter _ | .debugLeave _ => [.nv, .regs, .dowel, .power, .sessions, .results]
  | .arpRequest _ _ _ | .icmpEcho _ _ _ _ => [.regs, .outbox]
  | .portLinkChange _ _ => [.regs]
  | .eventTake => [.regs, .dowel]
  | .consumerTake _ => Part.allBut [.pos, .winnow, .xarray, .sheaf, .staged, .epochs, .results, .serving]
  | .relayEmit _ => [.regs, .dowel]
  | .softEvent _ _ => [.nv, .regs, .dowel, .avail, .power, .sessions, .results]
  | .channelAttr _ _ _ _ => [.nv, .regs, .dowel, .avail, .power, .sessions]
  | .alertDelivery _ | .alertPulseEnd _ => [.regs, .dowel]
  | .alertRelease _ _ => [.regs, .dowel, .results]
  | .snapshotTime _ | .snapshotEvent _ => [.regs, .dowel]
  | .snapNow _ _ => [.regs, .dowel, .results]
  | .counterClear _ _ => [.nv, .regs, .dowel, .avail, .power, .sessions, .results]
  | .ovfClear _ _ => [.regs, .epochs, .results]
  | .counterWrap _ => [.regs, .dowel]
  | .lockstepMismatch | .watchdogExpiry => [.nv, .regs, .drawn, .dowel, .avail, .power, .sessions]
  | .failover _ => [.nv, .regs, .drawn, .dowel, .avail, .power, .sessions, .results]
  | .pairSelftestComplete _ => [.regs]
  | .firmwareFlashComplete _ => Part.allBut [.drawn, .outbox]
  | .activate _ => [.regs, .results]
  | .loadingComplete => [.regs]
  | .handoverComplete _ => [.regs, .avail]
  | .probationEnd => [.nv, .regs, .dowel, .power, .sessions]
  | .keep _ => Part.allBut [.staged, .epochs]
  | .keepTimeout | .keepEntryComplete _ => Part.allBut [.staged, .epochs, .results]
  | .wake _ => [.regs, .results]
  | .keepExitComplete _ => Part.allBut [.staged, .epochs, .results]
  | .deviceReset _ => Part.allBut [.drawn, .outbox]
  | .pwrEnFall => Part.allBut [.outbox]
  | .pwrEnRise => Part.allBut [.drawn, .outbox]
  | .porstNAssert => Part.allBut [.nv, .drawn, .outbox]
  | .porstNRelease => Part.allBut [.drawn, .outbox]
  | .dictionaryReachable _ _ _ => [.regs, .time, .power]
  | .bootComplete _ _ _ => [.nv, .regs, .doms, .drawn, .dram, .time, .dowel, .avail, .power, .ddr, .xarray, .sessions]
  | .housekeepingRound _ _ _ | .undervoltage _ => Part.allBut [.outbox]
  | .vaonLow => [.regs, .power]
  | .extest _ _ | .idcode | .samplePreload _ _ | .clamp | .highz => [.power]
  | .jtagReset => Part.allBut [.drawn, .outbox]
  | .bypass => [.power]
  | .prbsReceive _ _ => [.regs, .sheaf]
  | .signalReturn _ => [.regs]

/-- The lowest index of an entry that a command may change, the conflict counters and the abort log (1100h to 1110h) apart; 10000h where it changes none.
It is 0 for a command that may write any entry. -/
def lowestEntry (i : Instr) : Nat :=
  match i with
  | .dictWrite _ _ _ _ => 0
  | .commit _ _ | .discard _ | .disarm _ => 0x10000
  | .epochBoundary | .enableWrite _ _ | .disableWrite _ _ | .enablingComplete _ | .disablingComplete _ => 0
  | .laneLock _ => 0x2410
  | .laneLockTimeout _ => 0x2500
  | .clockRecoveryLoss _ => 0x2410
  | .sheafFrameRx _ _ _ _ | .itemRx _ _ => 0x2401
  | .qlRx _ _ => 0x6000
  | .creditRx _ _ _ | .laneMapRx _ _ _ | .laneAckRx _ _ _ => 0x2401
  | .groupOn _ => 0
  | .rxLaneFail _ => 0x2410
  | .laneMapRetry _ | .txLaneFail _ => 0x2440
  | .itemTx _ => 0x2600
  | .qlSend | .prbsInject _ => 0x10000
  | .sheafCounterClear _ => 0
  | .samplePacketRx => 0x2401
  | .slabSeal => 0x2801
  | .windowStart _ | .loftStepFill _ => 0x2810
  | .cribFreeze _ | .fireTrigger _ => 0x2800
  | .pinsTakeEffect _ => 0x2840
  | .siloRelease _ _ => 0x2804
  | .siloReleaseComplete _ => 0x2840
  | .readoutStart _ => 0x2804
  | .readoutPacket => 0x2700
  | .readoutAbort _ => 0x2804
  | .corr4 _ | .corr8 _ | .beam4 _ | .beam8 _ | .xreg _ | .zero _ | .dump _ => 0x2100
  | .cutFence _ | .fencePass _ | .cutEnd _ | .cutWaitStep _ | .cutJump _ | .cutIfStep _ | .cutLoop _ | .cutEndloop _
  | .cutWaitEvt _ | .cutEvent _ | .jigRestart _ _ => 0x3010
  | .workOrderStart _ _ => 0x2100
  | .classUYield _ | .passOverflow _ | .passComplete _ => 0x3000
  | .foldComplete _ _ | .spillComplete _ _ => 0x2200
  | .workOrderComplete _ => 0x3000
  | .dumpRecordStaged _ => 0x2200
  | .recordFragmentsSend _ => 0x2700
  | .residueMismatch _ | .tileFail _ _ | .reseatComplete _ => 0x2100
  | .retest _ _ => 0x10000
  | .retestComplete _ _ => 0x2100
  | .weightLoad _ => 0x3800
  | .formatRecord _ => 0x2700
  | .winnowService => 0x4800
  | .winnowOutput | .scalerGroupSend _ | .lineClockEdge => 0x2700
  | .pixelPacketRx => 0x2401
  | .stageBLine _ => 0x4001
  | .statsRecordFormed _ => 0x2700
  | .frameSlotFilled | .frameHold _ _ | .frameSlotRelease _ _ => 0x40C0
  | .stitchedLine => 0x4001
  | .regReady => 0x6A40
  | .regRecordTake | .doveShift => 0x4400
  | .clearCorr _ _ => 0x10000
  | .gleanerLine => 0x2700
  | .slotANop _ | .cmul _ | .cmulj _ | .cmac _ | .cmacj _ | .cmsu _ | .cmag _ | .cbfly _ | .aclr _ | .mva _ | .mva2 _
  | .cadd _ | .csub _ | .cconj _ | .bexd _ | .bexs _ | .addD _ | .subD _ | .andD _ | .orD _ | .xorD _ | .shl _ | .asr _
  | .lsr _ | .addi _ | .movi _ | .movhi _ | .cmpD _ | .mulD _ | .divD _ | .movc _ | .movcw _ | .movar _ | .movra _ | .br _
  | .call _ | .ret _ | .rti _ | .rep _ | .repd _ | .eidi _ | .waite _ | .sige _ | .trapD _ | .haltD _ | .slotBNop _
  | .ld _ _ | .ldo _ _ | .st _ | .sto _ | .ld2 _ _ | .st2 _ | .ldst _ _ | .fld _ | .fst _ | .amod _ | .ldai _
  | .farResponse _ | .farTimeout _ | .trapEntry _ _ _ | .interruptEntry _ _ | .imageApply _ | .imageLoadComplete _
  | .debugHaltCmd _ _ | .debugResume _ _ | .debugStep _ _ | .breakpointHit _ => 0x5000
  | .parityEngineWrite _ _ | .assemblyClose _ => 0x5801
  | .dramRead _ _ _ | .scrubRead _ _ => 0x5800
  | .refreshDue _ _ _ | .mr4Read _ _ _ => 0x5810
  | .channelLost _ _ | .declareLost _ _ => 0x5800
  | .rebuild _ _ | .rebuildComplete _ => 0x5810
  | .applyDelays _ _ => 0x10000
  | .recalibrate _ _ => 0x5840
  | .recalWindow _ _ _ _ | .freqChange _ | .channelFreqSwitch => 0x5800
  | .storeDelays _ => 0
  | .fabricRequest _ _ | .pageWalkComplete _ => 0x5000
  | .lockBroken _ => 0x5C00
  | .invWindow _ _ | .invAll _ => 0x10000
  | .pageInvWindow _ _ | .pageInvAll _ => 0x5C00
  | .dmaStart _ _ => 0x5000
  | .descriptorFetch _ => 0x5C00
  | .descriptorComplete _ | .dmaBeatFault _ | .dmaAbort _ _ | .abortComplete _ | .dmaResume _ _ | .dmaResumeNext _ _ => 0x5000
  | .moverAssign => 0x5D00
  | .qlFrameRx _ _ _ | .qlTimeout _ | .signalLoss _ | .monitorWindowEnd _ _ | .wtrExpiry _ | .switchComplete
  | .refAcquireTimeout | .pps => 0x6000
  | .scLoad _ | .scLoadApply | .adjust _ _ _ => 0x10000
  | .tbStep _ _ => 0x6040
  | .tbSet _ _ _ => 0x5C00
  | .toutTimeReached _ | .toutEvent _ => 0x6050
  | .toutPulseEnd _ => 0x10000
  | .tinCapture _ _ _ => 0x6060
  | .ptpEventRx _ _ => 0x6000
  | .ptpMessageTx _ _ => 0x6071
  | .encoderEdge _ _ _ _ | .hallState _ _ _ | .ssiFrame _ _ _ | .indexEdge _ _ | .axisPreset _ _ => 0x4490
  | .observerUpdate _ | .standstill _ => 0x6400
  | .comparePlace _ _ | .markerEntryArrive _ | .compareClear _ _ => 0x4490
  | .cmpoutPulseEnd _ => 0x10000
  | .lineEdgeEmit | .timerLineEdge => 0x6420
  | .ltrigPulse _ => 0x10000
  | .fdpFrameRx _ _ => 0
  | .fdpOpen _ _ | .keyInit _ _ => 0x1010
  | .fdpRequest _ _ => 0
  | .notifyAck _ _ => 0x102F
  | .closeFrame _ _ => 0x1010
  | .fdpRead _ _ _ | .fdpWrite _ _ _ _ | .fdpDescribe _ _ _ | .domBegin _ _ _ _ | .domSeg _ _ _ _ _ | .domEnd _ _ _ _
  | .domRead _ _ _ _ _ | .domCancel _ _ _ => 0
  | .transferAbandoned _ => 0x10000
  | .sessionIdleTimeout _ | .sessionClose _ _ | .notifySend _ | .notifyResend _ _ | .keySet _ _ _ => 0x1010
  | .debugEnter _ | .debugLeave _ => 0x1050
  | .arpRequest _ _ _ | .icmpEcho _ _ _ _ | .portLinkChange _ _ => 0x1010
  | .eventTake => 0x5000
  | .consumerTake _ => 0x2800
  | .relayEmit _ => 0x6810
  | .softEvent _ _ | .channelAttr _ _ _ _ => 0x5C00
  | .alertDelivery _ | .alertPulseEnd _ | .alertRelease _ _ => 0x6830
  | .snapshotTime _ | .snapshotEvent _ | .snapNow _ _ => 0x6A10
  | .counterClear _ _ => 0x5C00
  | .ovfClear _ _ | .counterWrap _ => 0x6A40
  | .lockstepMismatch | .watchdogExpiry | .failover _ => 0x1000
  | .pairSelftestComplete _ => 0x7020
  | .firmwareFlashComplete _ => 0
  | .activate _ | .loadingComplete => 0x7010
  | .handoverComplete _ => 0x1000
  | .probationEnd | .keep _ | .keepTimeout | .keepEntryComplete _ => 0
  | .wake _ => 0x2000
  | .keepExitComplete _ | .deviceReset _ | .pwrEnFall | .pwrEnRise | .porstNAssert | .porstNRelease => 0
  | .dictionaryReachable _ _ _ => 0x1000
  | .bootComplete _ _ _ => 0x2000
  | .housekeepingRound _ _ _ | .undervoltage _ | .vaonLow => 0
  | .extest _ _ | .idcode | .samplePreload _ _ | .clamp | .highz => 0x10000
  | .jtagReset => 0
  | .bypass => 0x10000
  | .prbsReceive _ _ => 0x2402
  | .signalReturn _ => 0x6010

end Sys2Proof.Machine
end

