-- ==== Sys2Proof/Terms.lean ====
section
/-! DEFINITION. Words the statements use beside those of Safety: where a Jig stands, the work orders of an issue, and what a weight slot holds. -/

namespace Sys2Proof.Machine

/-- The Jig of bay `k` is ON and RUNNING, at entry `pc` of its cut list, which is `w`. -/
def State.jigAt (s : State) (k pc w : Nat) : Prop :=
  k < 4 ∧ s.reg (0x3010 + k) 2 = stOn ∧ s.runState k = jgRunning ∧ s.reg (0x3010 + k) 4 = pc ∧ s.entryAt k pc = some w

/-- A control entry of a code, its reserved bits 0. -/
def controlEntry (code w : Nat) : Prop := woOp w = 15 ∧ bits w 123 120 = code ∧ bits w 80 0 = 0

/-- The Jig of bay `k` is at entry `pc` in run state `run`. -/
def State.jigGoes (t : State) (k pc run : Nat) : Prop := t.reg (0x3010 + k) 4 = pc ∧ t.runState k = run

/-- The Jig of bay `k` stands in ERROR with a code and the entry it was at. -/
def State.jigFailed (t : State) (k pc code : Nat) : Prop := t.runState k = jgError ∧ t.reg (0x3010 + k) 5 = code ∧ t.reg (0x3010 + k) 6 = pc
/-- The issue of a work-order entry begins with its own fields. -/
def sweepOf (w : Nat) : Sweep := ⟨w, woBin w, woBlka w, woBlkb w, woSeg w, bits w 81 70⟩
/-- The logical tile of the next work order of a sweep. -/
def State.sweepTile (s : State) (x : Sweep) : Nat := x.bin % s.board.logicalTiles
/-- Enabled blocks, of the Jig's current half or else of the live entries. -/
def State.sweepBlocks (s : State) (k : Nat) : Nat :=
  match s.currentHalf k with | some h => popCount 128 h.blocks | none => popCount 128 (s.reg 0x2800 7)

/-- The 8,192 bytes of a weight slot of a tile; a slot never loaded holds zero bytes (R195). -/
def State.slotContent (s : State) (p slot : Nat) : Bytes := if (s.weightSlot p slot).isEmpty then zeroBytes 8192 else s.weightSlot p slot

/-- The front end and the packet's camera take packets, and the packet came on the camera's group (R217). -/
def State.pixelTaken (s : State) (p : Packet) : Prop :=
  s.reg 0x4000 2 = stOn ∧ (s.reg (0x4010 + p.stream) 2 = stOn ∨ s.reg (0x4010 + p.stream) 2 = stEnabling) ∧ p.group = s.reg (0x4010 + p.stream) 6

/-- The words of a pixel packet have the form of R216 for its camera. -/
def State.pixelShape (s : State) (p : Packet) : Prop :=
  p.channel = 0 ∧ bits (p.words.getD 1 0) 22 20 = s.reg (0x4010 + p.stream) 5 ∧ bits (p.words.getD 1 0) 19 9 = 0 ∧ 2 < p.words.length ∧
    (p.words.length - 2) % depthOf (s.reg (0x4010 + p.stream) 5) = 0 ∧ (bits (p.words.getD 1 0) 23 23 = 1 → s.dual p.stream = true) ∧
    64 * bits (p.words.getD 1 0) 8 0 + 64 * (p.words.length - 2) / depthOf (s.reg (0x4010 + p.stream) 5) ≤ s.camWidth p.stream

/-- A core as the operations of the bundle at its PC find it (R293). -/
def State.begun (s : State) (n : Nat) : DspCore := (s.beginBundle n).core n

/-- Core `n` issues and does not stall; the slot A word of the bundle at its PC is `w`, of opcode `op`, and `c` is the core as it finds it. -/
def State.atA (s : State) (n op w : Nat) (c : DspCore) : Prop :=
  n < 16 ∧ n < s.dsp.cores.length ∧ (∃ b, s.issuesA n op = some b ∧ slotA b = w ∧ (s.core n).stalls b = false) ∧ s.begun n = c

/-- From `c` to `c'` a bundle's slot A has queued some writes, and changed none of D, A, M, data memory, PC and far accesses. -/
def DspCore.wrote (c c' : DspCore) (ws : List PendWrite) : Prop :=
  c'.writes = c.writes ++ ws ∧ c'.d = c.d ∧ c'.a = c.a ∧ c'.m = c.m ∧ c'.dmem = c.dmem ∧ c'.pc = c.pc ∧ c'.far = c.far ∧ c'.issued = c.issued

/-- A D result of slot A `k` bundles on; a poisoned one is 0 and sets PSN, and `sat` sets SAT (R284, R298). -/
def DspCore.dResult (c c' : DspCore) (k w : Nat) (v : Word32) (bad sat : Bool) : Prop :=
  c.wrote c' [⟨c.bundle + k, false, .d (fD w) (if bad then 0 else v) bad⟩] ∧ c'.ac = c.ac ∧
    c'.sr = (if bad then setBit c.sr srPsn else if sat then setBit c.sr srSat else c.sr)

/-- A saturating complex result (R284). -/
def DspCore.complexSum (c c' : DspCore) (w : Nat) (re im : Int) (bad : Bool) : Prop :=
  c.dResult c' 1 w (cPack (clampInt (-32768) 32767 re) (clampInt (-32768) 32767 im)) bad
    (decide (clampInt (-32768) 32767 re ≠ re) || decide (clampInt (-32768) 32767 im ≠ im))

/-- An accumulator value: clamped, or 0 and poisoned (R281, R298). -/
def accValue (re im : Int) (bad : Bool) : DspAcc := if bad then ⟨0, 0, true⟩ else ⟨acClamp re, acClamp im, false⟩

/-- An accumulator result of slot A: for the next bundle's arithmetic, and two bundles on for moves (R281, R291, R298). -/
def DspCore.acResult (c c' : DspCore) (i : Nat) (re im : Int) (bad : Bool) : Prop :=
  c.wrote c' [⟨c.bundle + 2, false, .ac i (accValue re im bad)⟩] ∧ c'.ac = modNth (fun _ => accValue re im bad) c.ac i ∧
    c'.sr = (if bad then setBit c.sr srPsn else if acClamp re = re ∧ acClamp im = im then c.sr else setBit c.sr srAsat)

/-- One event of a source is added to those fired in this tick (R483). -/
def State.fires (s t : State) (src payload : Nat) : Prop := t.dowel.fired = s.dowel.fired ++ [⟨src, payload % 2 ^ 16, s.sc, 0, 0, s.time.tclk⟩]

/-- One event of a source is the last of those fired on the way, after any that DRAM accesses of the same operation fire (R483, R522). -/
def State.firesLast (s t : State) (src payload : Nat) : Prop :=
  ∃ es, t.dowel.fired = s.dowel.fired ++ es ++ [⟨src, payload % 2 ^ 16, s.sc, 0, 0, s.time.tclk⟩] ∧ ∀ e ∈ es, e.source = 0x340 ∨ e.source = 0x341

/-- Core `n` has issued the slot A half of the bundle at its PC, whose slot B word is `w`, of opcode `op`; `c` is the core. -/
def State.atB (s : State) (n op w : Nat) (c : DspCore) : Prop :=
  n < 16 ∧ n < s.dsp.cores.length ∧ (∃ b, (s.core n).fetch = some b ∧ slotB b = w ∧ fOp w = op) ∧ c.issued = true ∧ s.core n = c

/-- Nothing but the next bundle follows the bundle of core `n`: it is ON, and no double fault, HALT or debug halt is pending. -/
def State.goesOn (s : State) (n : Nat) (c : DspCore) : Prop :=
  s.reg (0x5000 + n) 2 = stOn ∧ c.double = none ∧ c.halting = false ∧ c.haltReq = false ∧ c.stepping = false

/-- `c` with writes queued after those in flight. -/
def DspCore.queued (c : DspCore) (ws : List PendWrite) : DspCore := { c with writes := c.writes ++ ws }

/-- The write by which the next bundle sees address register `i` post-modified by M register `j` (R296). -/
def DspCore.postWrite (c : DspCore) (i j : Nat) : PendWrite :=
  ⟨c.bundle + 1, false, .a i (postModify (nthD 0 c.am i) (nthD 0 c.ab i) (c.areg i) (nthD 0 c.m j))⟩

/-- The write of a load, three bundles on (R291). -/
def DspCore.loadWrite (c : DspCore) (i : Nat) (v : Word32) (bad : Bool) : PendWrite := ⟨c.bundle + 3, true, .d i v bad⟩

/-- An address that a local access takes: aligned and in the data memory (R297). -/
def localOk (a : Word32) : Prop := a.toNat % 4 = 0 ∧ a.toNat < 0x40000

/-- No read changes what the DRAM holds: every unit is good, and no channel stands at its error threshold (R344, R352). -/
def State.dramSteady (s : State) : Prop := s.allGood = true ∧ ∀ c, c < s.dramN → s.tooManyErrors c = false

/-- `n` protected bytes from `a` find space in the parity engine at once, and what it holds is whole units (R341). -/
def State.engineRoom (s : State) (a n : Nat) : Prop :=
  a + n ≤ s.protSize ∧ s.ddr.writers = [] ∧ (∀ x ∈ s.ddr.assemblies, x.data.length = 64) ∧ (∀ st, (s.stripeAcc st).delta.length = 64) ∧
    s.ddr.occupancy + 128 * (unitsOf a n).length ≤ engineBytes

/-- The frames that leave a transmit lane when the bits of an item join those waiting on it (R44 to R48). -/
def State.framesWith (s : State) (lane : Nat) (i : Item) : List Output :=
  let x := (s.txLane lane).append i
  (x.fill (x.len / 7943 + 1)).1.map (fun f => .frame lane f)

/-- The state in which the armed entries are checked again at the boundary: no set is armed (R28, R470). -/
def State.atBoundary (s : State) : State := State.setStaged s s.dict.pendingSet none

end Sys2Proof.Machine
end

