-- ==== Sys2Proof/Certificates/Slice0/Obligations.lean ====
section
/-! DEFINITION. The statements for the provers. Each docstring names the rules of spec/ its statement formalises. -/

set_option linter.all false

open Sys2Proof Sys2Proof.Machine

/-! ## The whole machine -/

/-- A step takes the command at the front of the queue and runs it on the state with the queue's rest (the block's step; log 46 for the empty queue). -/
def Obligations.StepRunsFrontCommand : Prop :=
  ∀ (s : State) (i : Instr) (q : List Instr), s.pending = i :: q → step s = exec i (s.withPending q)

/-- With no command waiting, no frame waiting and no entry into KEEP under way, a step is one TCLK tick: the tick counter of a running reference
unit goes up by one, and a part whose reference unit does not run stays as it is (the model's choice, log 46). -/
def Obligations.EmptyQueueStepIsOneTick : Prop :=
  ∀ s : State, s.pending = [] → s.avail.rxQueue = [] → s.reg 0x2000 1 ≠ 3 →
    ∃ t, step s = .next t ∧ t.pending = [] ∧ t.board = s.board ∧ (s.fabric.waiting = [] → t.nv = s.nv) ∧
      (s.time.running = true → t.time.tclk = s.time.tclk + 1) ∧ (s.time.running = false → t = s)

/-- A command whose operands lie in the manual's ranges has a next state in every state; any other stops with `noSuchInstance`. No command is refused. -/
def Obligations.CommandsStopOnlyOnMissingInstances : Prop :=
  ∀ (i : Instr) (s : State), (i.wf = true → ∃ t, exec i s = .next t) ∧ (i.wf = false → exec i s = .fault .noSuchInstance)

/-- Every command keeps the queue and the part as they are, the stored maps canonical, free values undrawn twice, and what left the part.
The frame of every command: the parts of the state outside `touches i` are as they were.
The register frame of every command: an entry below `lowestEntry i` reads as before, the conflict counters and the abort log (1100h to 1110h) apart. -/
def Obligations.EveryCommandFrame : Prop :=
  (∀ (i : Instr) (s t : State), exec i s = .next t → s.Keeps t) ∧
  (∀ (i : Instr) (s t : State), exec i s = .next t → s.SameBut (touches i) t) ∧
  (∀ (i : Instr) (s t : State), exec i s = .next t →
      ∀ idx sub, idx < lowestEntry i → sub < 256 → (idx < 0x1100 ∨ 0x1110 < idx) → t.reg idx sub = s.reg idx sub)

/-- Every step from a safe state ends in a safe state: stored maps canonical, every waiting command well formed.
A safe state runs for any number of steps, and every state it reaches is safe. -/
def Obligations.EveryStepKeepsSafe : Prop :=
  (∀ s t : State, s.Safe → step s = .next t → t.Safe) ∧
  (∀ (n : Nat) (s : State), s.Safe → ∃ t, Sys2Proof.core.run n s = .next t ∧ t.Safe ∧ t.board = s.board)

/-- After reset every entry of access RW, RWS or RWX holds its default (R25), the state is safe, and no command waits.
Defaults that vary by part are those of the part of log 1. -/
def Obligations.ResetHoldsDefaults : Prop :=
  State.reset.Safe ∧ State.reset.pending = [] ∧
    ∀ (board : Board) (nv : Nv) (idx sub : Nat) (r : Row), rowOf idx sub = some r → r.acc = .rw ∨ r.acc = .rws ∨ r.acc = .rwx →
      (State.ofReset board nv).reg idx sub = (match partDefault board nv idx sub with | some v => v | none => r.dflt)

/-- The presence map of 1020h in each variant, and its reading of absent instances (R4, R5, R6, R7).
An operation on an entry of an absent unit answers UNIT_ABSENT and has no effect, in RECOVERY and in the debug window too; one on an entry no variant
has answers NO_ENTRY, or DEBUG_OFF where it lies in the debug window outside debug mode (R7, R456, R475). -/
def Obligations.AbsentUnitsAndThePresenceMap : Prop :=
  (∀ (b : Board) (nv : Nv), let s := State.ofReset b nv
      s.reg 0x1020 0 = 7 ∧
      s.reg 0x1020 1 = (match b.variant with | .f => 0x0F8F | .x => 0x080F | .i => 0x0F83) ∧
      s.reg 0x1020 2 = (match b.variant with | .f => 4 | .x => 4 | .i => 2) ∧
      s.reg 0x1020 3 = (match b.variant with | .f => 24 | .x => 24 | .i => 12) ∧
      s.reg 0x1020 4 = (match b.variant with | .f => 32 | .x => 32 | .i => 16) ∧
      s.reg 0x1020 5 = (match b.variant with | .f => 16 | .x => 16 | .i => 8) ∧
      s.reg 0x1020 6 = (match b.variant with | .f => 16 | .x => 16 | .i => 8) ∧
      s.reg 0x1020 7 = (match b.variant with | .f => 1 | .x => 2 | .i => 3)) ∧
  (∀ (s : State) (sess idx sub : Nat) (data : Bytes), s.sessionOpen sess = true →
      ∀ e, ((rowOf idx sub).isSome = true ∧ s.board.absent idx = true ∧ e = 2) ∨ (rowOf idx sub = none ∧ (idx < 0xF000 ∨ s.flag 0x1050 1 = true) ∧ e = 1) ∨
        (rowOf idx sub = none ∧ 0xF000 ≤ idx ∧ s.flag 0x1050 1 = false ∧ e = stDebugOff) →
      let no := fun (op : Nat) => Host.Outcome.next (φ := Fault) (ρ := Refusal) { s with dict := { s.dict with results := s.dict.results ++ [⟨op, e, idx, sub, 0, []⟩] } }
      exec (.fdpRead sess idx sub) s = no 1 ∧ exec (.fdpWrite sess idx sub data) s = no 2 ∧ exec (.dictWrite sess idx sub data) s = no 2 ∧
        exec (.fdpDescribe sess idx sub) s = no 3)

/-! ## The dictionary service (chapters 1 and 15) -/

/-- DICT_WRITE of an RWS entry: a checked value enters the pending set, and no live value changes (R26).
COMMIT, DISCARD and DISARM (R27, R469): a commit whose SC_c lies from 1 ms to 60 s ahead moves the whole pending set into the armed set, and a new,
empty pending set starts; a discard empties the pending set; a disarm 1 ms or more ahead drops the armed set.
A commit is refused with ARMED_EXISTS while an armed set exists, whatever SC_c is, and otherwise with COMMIT_SC when SC_c is less than 1 ms or more than
60 s ahead; the pending set and the armed set stay as they are (R27). -/
def Obligations.CommitsMoveThePendingSet : Prop :=
  (∀ (s : State) (sess idx sub : Nat) (data : Bytes) (r : Row), s.sessionOpen sess = true → s.writeGate sess idx sub = .ok r → r.acc = .rws →
      (∀ n, r.ty ≠ .domain n) → data.length = r.ty.size → r.inRange (ofBytes data) = true →
      s.entryCheck s.aheadStaged sess idx sub (ofBytes data) = 0 → s.storeFull (key idx sub) (.num (ofBytes data)) = false →
      Completes (.dictWrite sess idx sub data) s (fun t =>
        t.dict.pendingSet = insertKey s.dict.pendingSet (key idx sub) ⟨.num (ofBytes data), sess⟩ ∧ t.dict.armed = s.dict.armed ∧
        (∀ j b, b < 256 → ¬(j = 0x1100 ∧ b = 7) → t.reg j b = s.reg j b) ∧
        t.dict.results = s.dict.results ++ [⟨2, 0, idx, sub, 0, []⟩])) ∧
  (∀ (s : State) (sess : Nat),
      (∀ c, c < 2 ^ 64 → s.letsCmd sess 0x1101 1 → s.dict.armed = none → s.scAfter 500000 ≤ c → c ≤ s.scAfter 30000000000 →
        Completes (.commit sess c) s (fun t => t.dict.armed = some (c, s.dict.pendingSet) ∧ t.dict.pendingSet = [] ∧
          t.reg 0x1101 4 = min (s.reg 0x1101 4 + 1) 0xFFFFFFFF ∧ ∀ j b, b < 256 → j ≠ 0x1101 → t.reg j b = s.reg j b)) ∧
      (s.lets sess 0x1101 2 → Completes (.discard sess) s (fun t => t.dict.pendingSet = [] ∧ t.dict.armed = s.dict.armed ∧
        ∀ j b, b < 256 → j ≠ 0x1110 → t.reg j b = s.reg j b)) ∧
      (∀ a, s.lets sess 0x1101 3 → s.dict.armed = some a → s.scAfter 500000 ≤ a.1 →
        Completes (.disarm sess) s (fun t => t.dict.armed = none ∧ t.dict.pendingSet = s.dict.pendingSet ∧
          ∀ j b, b < 256 → j ≠ 0x1110 → t.reg j b = s.reg j b))) ∧
  (∀ (s : State) (sess c detail : Nat), c < 2 ^ 64 → s.letsCmd sess 0x1101 1 →
      (s.dict.armed ≠ none ∧ detail = 5) ∨ (s.dict.armed = none ∧ (c < s.scAfter 500000 ∨ s.scAfter 30000000000 < c) ∧ detail = 4) →
      Completes (.commit sess c) s (fun t => t.dict.pendingSet = s.dict.pendingSet ∧ t.dict.armed = s.dict.armed ∧
        t.dict.results = s.dict.results ++ [⟨2, 6, 0x1101, 1, detail, []⟩] ∧ t.reg 0x1101 5 = min (s.reg 0x1101 5 + 1) 0xFFFFFFFF))

/-- DICT_WRITE of an RWX entry whose unit is not OFF is refused and changes nothing (R26). -/
def Obligations.WriteOfRunningUnitsEntryIsRefused : Prop :=
  ∀ (s : State) (sess idx sub : Nat) (data : Bytes) (r : Row), s.sessionOpen sess = true → s.writeGate sess idx sub = .ok r → r.acc = .rwx →
    s.ownerOff idx sub = false → ((∃ n, r.ty = .domain n) ∨ data.length = r.ty.size) →
    exec (.dictWrite sess idx sub data) s =
      .next { s with dict := { s.dict with results := s.dict.results ++ [⟨2, 6, idx, sub, 2, []⟩] } }

/-- Two sessions that write one entry into one pending set: the later value remains, and the conflict counter counts the overwritten write (R30).
A second write by the same session is no conflict. -/
def Obligations.LaterStagedWriteRemains : Prop :=
  ∀ (s : State) (k : Nat) (v : StagedVal) (sess : Nat) (old : Staged), lookup s.dict.pendingSet k = some old → s.storeFull k v = false → keptElsewhere k = false →
    ∃ t, s.stage sess k v = .ok t ∧ lookup t.dict.pendingSet k = some ⟨v, sess⟩ ∧
      t.reg 0x1100 7 = (if old.writer = sess then s.reg 0x1100 7 else min (s.reg 0x1100 7 + 1) 0xFFFFFFFF)

/-- EPOCH_BOUNDARY (R28): at SC_c every armed number that passes its check becomes live together, the configuration epoch goes up by one, wrapping, and no
armed set is left. Stated for armed numbers of entries whose owning chapter does nothing more when they become live (no port address, stream binding,
cut list, weights, core image, camera setting or window); the others reach the same entries by the same step. Before SC_c nothing happens. -/
def Obligations.EpochBoundaryMakesArmedSetLive : Prop :=
  ∀ (s : State) (c : Nat) (set : List (Nat × Staged)), s.dict.armed = some (c, set) → (s.sc < c → exec .epochBoundary s = .next s) ∧
   (s.time.running = true → c ≤ s.sc →
    (set.map (fun p => p.1)).Nodup →
    (∀ p ∈ set, (∃ v, p.2.value = .num v) ∧ p.1 / 65536 ∉ [0x10, 0x27, 0x30, 0x38, 0x40, 0x51, 0x5C, 0x11]) →
    (∀ p ∈ set, (s.atBoundary.recheck set p.1 p.2.value).1 = 0) →
    Completes .epochBoundary s (fun t =>
      (∀ p ∈ set, ∀ v, p.2.value = .num v → t.reg (p.1 / 256) (p.1 % 256) = v) ∧
      (∀ j b, b < 256 → key j b ∉ set.map (fun p => p.1) → ¬(j = 0x1100 ∧ (b = 1 ∨ b = 2)) → t.reg j b = s.reg j b) ∧
      t.reg 0x1100 1 = (s.reg 0x1100 1 + 1) % 2 ^ 32 ∧ t.reg 0x1100 2 = c ∧
      t.dict.armed = none ∧ t.dict.pendingSet = s.dict.pendingSet ∧ t.time.sc = s.time.sc))

/-- ENABLE_WRITE (R575): an enable of an OFF unit that passes its tests makes the status ENABLING; of a unit in DISABLING it is latched, and the status
reads PENDING_ENABLE; one that fails its unit's test is refused with that detail and changes nothing. KEEP and its transitions are R532's.
DISABLE_WRITE (R575): a disable of a unit that is ON or ENABLING makes the status DISABLING; one of a unit whose enable is latched drops the latch;
a scaler that is still ENABLING goes OFF at once (R330).
ENABLING_COMPLETE and DISABLING_COMPLETE (R575): a unit whose own completion this row is goes from ENABLING to ON, and a drained unit goes from DISABLING
to OFF. The receive groups are the clause of GROUP_ON. -/
def Obligations.UnitsAreEnabledAndDisabled : Prop :=
  (∀ (s : State) (sess idx : Nat) (u : UnitKind), s.lets sess idx 1 → unitKind idx = some u → s.entryCheck s.aheadLive sess idx 1 1 = 0 → s.keeping = false →
      (s.status idx = 0 → enableCheck s u idx = 0 → Completes (.enableWrite sess idx) s (fun t => t.status idx = 1 ∧ t.reg idx 1 = 1)) ∧
      (s.status idx = 3 → enableCheck s u idx = 0 → Completes (.enableWrite sess idx) s (fun t => t.status idx = 4 ∧ t.reg idx 1 = 1)) ∧
      (s.status idx = 0 ∨ s.status idx = 3 → enableCheck s u idx ≠ 0 →
        exec (.enableWrite sess idx) s =
          .next { s with dict := { s.dict with results := s.dict.results ++ [⟨2, 6, idx, 1, enableCheck s u idx, []⟩] } })) ∧
  (∀ (s : State) (sess idx : Nat) (u : UnitKind), s.lets sess idx 1 → unitKind idx = some u → s.entryCheck s.aheadLive sess idx 1 0 = 0 → s.keeping = false →
      s.status idx = 1 ∨ s.status idx = 2 ∨ s.status idx = 4 →
      Completes (.disableWrite sess idx) s (fun t => t.status idx = (if u = .scaler ∧ s.status idx = 1 then 0 else 3) ∧ t.reg idx 1 = 0)) ∧
  (∀ (s : State) (idx : Nat) (u : UnitKind), unitKind idx = some u →
      (s.status idx = 1 → (u = .group → 0x2460 ≤ idx) → (u = .axis → s.reg idx 3 ≠ 2) → u ∉ [.monitor, .front, .camera, .dove, .gleaner, .scaler] →
        Completes (.enablingComplete idx) s (fun t => t.status idx = 2)) ∧
      (s.status idx = 3 → s.drained u idx = true → s.reg 0x2000 1 ≠ 3 → Completes (.disablingComplete idx) s (fun t => t.status idx = 0)))

/-! ## Sessions and notifications (chapter 15) -/

/-- SESSION_IDLE_TIMEOUT, SESSION_CLOSE and CLOSE_FRAME (R462): the session closes, its entries read their defaults, and the Karosh's own close sends a
CLOSE with its next SEQ. A session may close itself; an Integrator may close any (R479). The close of a session whose REQUEST is in hand waits for its RESPONSE.
KEY_SET, DEBUG_ENTER, DEBUG_LEAVE and TRANSFER_ABANDONED (R480, R473): a role's key is replaced, or unset by zeros; debug mode starts and ends with the
session that asked; an open transfer is dropped. -/
def Obligations.SessionsCloseAndKeysAreSet : Prop :=
  (∀ (s : State) (k : Nat), s.sessionOpen k = true → s.dict.serving = none →
      let closed := fun (t : State) => (∀ b, 1 ≤ b → b ≤ 10 → t.reg (0x102F + k) b = 0) ∧ (t.session k).key = [] ∧ (t.session k).transfer = none
      Completes (.sessionIdleTimeout k) s (fun t => closed t ∧ (s.portSends (s.reg (0x102F + k) 5) = true →
        t.outbox = s.outbox ++ [.udp (s.reg (0x102F + k) 5) (s.reg (0x102F + k) 3) (s.reg (0x102F + k) 4)
          (frameOf 7 k (wrapAdd64 (s.reg (0x102F + k) 7) 1) [] (s.session k).key)])) ∧
      (∀ sess, s.lets sess (0x102F + k) 11 → sess = k ∨ s.role sess = 2 → Completes (.sessionClose sess k) s closed) ∧
      (∀ (peer : Peer) (f : FdpFrame), peer.port < 2 → s.fdpReady = true → s.portUp peer.port = true → f.session = k →
        hmac (s.session k).key f.covered = f.tag → s.reg (0x102F + k) 5 = peer.port → s.reg (0x102F + k) 3 = peer.ip → s.reg (0x102F + k) 4 = peer.udp →
        s.seqNew k f.seq = true → Completes (.closeFrame peer f) s closed)) ∧
  (∀ (s : State) (sess : Nat),
      (∀ role newKey, role < 4 → newKey.length = 32 → s.lets sess 0x1040 (role + 1) → ¬(role = 2 ∧ newKey.all (fun b => b = 0) = true) →
        role < s.nv.keys.length →
        Completes (.keySet sess role newKey) s (fun t => nthD none t.nv.keys role = if newKey.all (fun b => b = 0) then none else some newKey)) ∧
      (s.lets sess 0x1050 2 → s.reg 0x1050 1 = 0 → Completes (.debugEnter sess) s (fun t => t.reg 0x1050 1 = 1 ∧ t.reg 0x1050 3 = sess)) ∧
      (s.lets sess 0x1050 2 → s.reg 0x1050 1 ≠ 0 → Completes (.debugLeave sess) s (fun t => t.reg 0x1050 1 = 0 ∧ t.reg 0x1050 3 = 0)) ∧
      (∀ k x, 1 ≤ k → k ≤ 8 → k - 1 < s.dict.sessions.length → (s.session k).transfer = some x →
        Completes (.transferAbandoned k) s (fun t => (t.session k).transfer = none ∧
          ∀ j, j ≠ k - 1 → (nthD Session.reset t.dict.sessions j).transfer = (nthD Session.reset s.dict.sessions j).transfer)))

/-- NOTIFY_SEND, NOTIFY_RESEND and NOTIFY_ACK (R474): queued records, at most 44 with a LOST record first, leave in one NOTIFY with the Karosh's next SEQ; an
unacknowledged NOTIFY leaves again with its own SEQ, and is dropped after its third resend; an acknowledgement ends the resends of the SEQ it echoes. -/
def Obligations.NotificationsLeaveAndAreAcknowledged : Prop :=
  ∀ (s : State) (k : Nat), s.sessionOpen k = true → k - 1 < s.dict.sessions.length → s.portSends (s.reg (0x102F + k) 5) = true →
    let udp := fun (p : Bytes) => Output.udp (s.reg (0x102F + k) 5) (s.reg (0x102F + k) 3) (s.reg (0x102F + k) 4) p
    let seq := wrapAdd64 (s.reg (0x102F + k) 7) 1
    ((s.session k).queue ≠ [] →
      Completes (.notifySend k) s (fun t =>
        t.outbox = s.outbox ++ [udp (frameOf 5 k seq (s.notifyBatch k).flatten (s.session k).key)] ∧ t.reg (0x102F + k) 7 = seq ∧
        (t.session k).sent = (s.session k).sent ++ [⟨seq, s.notifyBatch k, 0⟩] ∧
        (t.session k).queue = (s.session k).queue.drop (if 0 < (s.session k).lost then 43 else 44) ∧ (t.session k).lost = 0)) ∧
    (∀ q n, (s.session k).sent.find? (fun n => n.seq = q) = some n →
      (n.resends < 3 → Completes (.notifyResend k q) s (fun t => t.outbox = s.outbox ++ [udp (frameOf 5 k q n.records.flatten (s.session k).key)])) ∧
      (3 ≤ n.resends → Completes (.notifyResend k q) s (fun t => t.outbox = s.outbox ∧ (t.session k).sent = (s.session k).sent.filter (fun m => m.seq ≠ q)))) ∧
    (∀ (peer : Peer) (f : FdpFrame), peer.port < 2 → s.fdpReady = true → s.portUp peer.port = true → f.session = k →
      hmac (s.session k).key f.covered = f.tag → s.reg (0x102F + k) 5 = peer.port → s.reg (0x102F + k) 3 = peer.ip → s.reg (0x102F + k) 4 = peer.udp →
      Completes (.notifyAck peer f) s (fun t => (t.session k).sent = (s.session k).sent.filter (fun n => n.seq ≠ f.seq) ∧
        t.reg (0x102F + k) 9 = s.reg 0x1038 2))

/-! ## FDP (chapter 15) -/

/-- READ and DESCRIBE (R465, R466): the operation answers OK with the entry's bytes, or with its description, and changes nothing else.
WRITE completes as DICT_WRITE does, so that a checked value of an RWS entry enters the pending set (R26), but for a DOMAIN of more than 1,400 bytes, which must come as a transfer and is answered TRANSFER, TOO_LARGE (R465, R472). -/
def Obligations.FdpReadsAndWrites : Prop :=
  (∀ (s : State) (sess idx sub : Nat) (r : Row), s.sessionOpen sess = true → s.gate sess idx sub = .ok r →
      let answered := fun (op : Nat) (d : Bytes) => Host.Outcome.next (φ := Fault) (ρ := Refusal)
        { s with dict := { s.dict with results := s.dict.results ++ [⟨op, 0, idx, sub, 0, d⟩] } }
      (r.acc ≠ .cmd → s.readBlocked idx sub = false → (∀ n, r.ty ≠ .domain n) →
        exec (.fdpRead sess idx sub) s = answered 1 (beBytes r.ty.size (s.readNum idx sub))) ∧
      (∀ n, r.acc ≠ .cmd → s.readBlocked idx sub = false → r.ty = .domain n →
        exec (.fdpRead sess idx sub) s = answered 1 (beBytes 4 (s.readDom idx sub).length ++ beBytes 4 (s.domGen idx sub))) ∧
      (r.acc = .cmd → exec (.fdpRead sess idx sub) s =
        .next { s with dict := { s.dict with results := s.dict.results ++ [⟨1, 4, idx, sub, 0, []⟩] } }) ∧
      exec (.fdpDescribe sess idx sub) s = answered 3 r.describe) ∧
  (∀ (s : State) (sess idx sub : Nat) (data : Bytes) (r : Row), s.sessionOpen sess = true → s.writeGate sess idx sub = .ok r →
      ((r.domainMax = none ∨ data.length ≤ 1400) → Completes (.fdpWrite sess idx sub data) s (fun t => exec (.dictWrite sess idx sub data) s = .next t)) ∧
      (r.acc = .rws → (∀ n, r.ty ≠ .domain n) → data.length = r.ty.size → r.inRange (ofBytes data) = true →
        s.entryCheck s.aheadStaged sess idx sub (ofBytes data) = 0 → s.storeFull (key idx sub) (.num (ofBytes data)) = false →
        Completes (.fdpWrite sess idx sub data) s (fun t => t.dict.pendingSet = insertKey s.dict.pendingSet (key idx sub) ⟨.num (ofBytes data), sess⟩ ∧
          t.dict.results = s.dict.results ++ [⟨2, 0, idx, sub, 0, []⟩])) ∧
      (r.domainMax ≠ none → 1400 < data.length → s.barred r idx sub = 0 →
        exec (.fdpWrite sess idx sub data) s =
          .next { s with dict := { s.dict with results := s.dict.results ++ [⟨2, 0x0A, idx, sub, 6, []⟩] } }))

/-- DOM_BEGIN, DOM_SEG, DOM_END, DOM_READ and DOM_CANCEL (R472, R473): a transfer opens with its length, takes its segments in order, and is written to its
entry as one write once all bytes are there and the CRC-32C agrees; a read answers the generation and a slice; a cancel drops the transfer. -/
def Obligations.TransfersCarryDomains : Prop :=
  ∀ (s : State) (sess idx sub : Nat), s.sessionOpen sess = true → sess - 1 < s.dict.sessions.length →
    (∀ total r n, s.writeGate sess idx sub = .ok r → r.ty = .domain n → s.barred r idx sub = 0 → total ≤ n → n < 2 ^ 32 → (s.session sess).transfer = none →
      (s.dict.sessions.filter (fun x => x.transfer.isSome)).length < 4 → s.storeUsed 0 + total ≤ 8388608 →
      Completes (.domBegin sess idx sub total) s (fun t => (t.session sess).transfer = some ⟨key idx sub, total, [], false⟩ ∧ t.regs = s.regs ∧ t.doms = s.doms)) ∧
    (∀ x data, (s.session sess).transfer = some x → x.key = key idx sub → x.failed = false → data ≠ [] → data.length ≤ 1400 →
      x.data.length + data.length ≤ x.total → x.data.length < 2 ^ 32 →
      Completes (.domSeg sess idx sub x.data.length data) s (fun t =>
        (t.session sess).transfer = some ⟨x.key, x.total, x.data ++ data, false⟩ ∧ t.regs = s.regs ∧ t.doms = s.doms)) ∧
    (∀ x, (s.session sess).transfer = some x → x.key = key idx sub → x.failed = false → x.data.length = x.total →
      let u := s.setTransfer sess none
      let w := u.writeEntry sess idx sub x.data
      Completes (.domEnd sess idx sub (crc32c x.data)) s (fun t => t = w.2.result sess 6 idx sub w.1) ∧
      (∀ crc, crc < 2 ^ 32 → crc ≠ crc32c x.data → Completes (.domEnd sess idx sub crc) s (fun t =>
        (t.session sess).transfer = some ⟨x.key, x.total, x.data, true⟩ ∧ t.regs = s.regs ∧ t.doms = s.doms))) ∧
    (∀ r n off len, s.gate sess idx sub = .ok r → r.ty = .domain n → s.readBlocked idx sub = false → off < 2 ^ 32 → 0 < len → len ≤ 1400 →
      exec (.domRead sess idx sub off len) s = .next { s with dict := { s.dict with results := s.dict.results ++
        [⟨7, 0, idx, sub, 0, beBytes 4 (s.domGen idx sub) ++ zeroBytes 4 ++ slice (s.readDom idx sub) off len⟩] } }) ∧
    (∀ x, (s.session sess).transfer = some x → x.key = key idx sub →
      Completes (.domCancel sess idx sub) s (fun t => (t.session sess).transfer = none ∧ t.regs = s.regs ∧ t.doms = s.doms))

/-- OPEN and KEY_INIT (R460, R461): a well-formed OPEN tagged under its role's key opens the lowest free session for its peer, with a session key that covers
both nonces; while the Integrator key is unset, a KEY_INIT sets it; a second one is malformed. The device nonce is a free value (log 5). -/
def Obligations.OpenGrantsTheLowestFreeSession : Prop :=
  ∀ (s : State) (peer : Peer) (f : FdpFrame), peer.port < 2 → s.fdpReady = true → s.portUp peer.port = true → f.session = 0 → f.seq = 0 → s.power.recovery = false →
    (∀ role rk k, f.body.length = 24 → (slice f.body 1 7).all (fun b => b = 0) = true → field f.body 0 1 = role → role ≤ 3 → s.roleKey role = some rk →
      hmac rk f.covered = f.tag → s.freeId = some k → s.dict.sessions.length = 8 →
      Completes (.fdpOpen peer f) s (fun t => t.sessionOpen k = true ∧ t.reg (0x102F + k) 2 = role ∧ t.reg (0x102F + k) 3 = peer.ip ∧
        t.reg (0x102F + k) 4 = peer.udp ∧ t.reg (0x102F + k) 5 = peer.port ∧ t.reg 0x1038 5 = min (s.reg 0x1038 5 + 1) 0xFFFFFFFF ∧
        (t.session k).key = hmac rk (beBytes 4 0x46445031 ++ slice f.body 8 16 ++ drawBytes s.drawn 16 ++ beBytes 2 k) ∧ t.drawn = s.drawn + 16)) ∧
    (f.body.length = 32 → s.roleKey 2 = none → 2 < s.nv.keys.length → hmac f.body f.covered = f.tag →
      Completes (.keyInit peer f) s (fun t => t.roleKey 2 = some f.body)) ∧
    (f.body.length = 32 → s.roleKey 2 ≠ none → Completes (.keyInit peer f) s (fun t => t.nv = s.nv ∧ t.reg 0x1038 7 = min (s.reg 0x1038 7 + 1) 0xFFFFFFFF))

/-- REQUEST (R462, R465): a request of one READ with a new SEQ is answered in one RESPONSE that is kept; the same request again is answered from the store
and executed no second time; an old SEQ with no stored response is dropped and counted. -/
def Obligations.RequestsExecuteOnce : Prop :=
  ∀ (s : State) (peer : Peer) (f : FdpFrame) (ops : List OpRecord), peer.port < 2 → s.fdpReady = true → s.portUp peer.port = true →
    parseOps 256 f.body = some ops → s.sessionOpen f.session = true → f.session - 1 < s.dict.sessions.length →
    hmac (s.session f.session).key f.covered = f.tag → s.reg (0x102F + f.session) 5 = peer.port → s.reg (0x102F + f.session) 3 = peer.ip →
    s.reg (0x102F + f.session) 4 = peer.udp →
    let known := (s.session f.session).stored.find? (fun r => r.seq = f.seq && r.tag = f.tag)
    let udp := fun (body : Bytes) => Output.udp peer.port peer.ip peer.udp (frameOf 4 f.session f.seq body (s.session f.session).key)
    (∀ r, known = some r → Completes (.fdpRequest peer f) s (fun t => t.outbox = s.outbox ++ [udp r.body] ∧ t.dict = s.dict)) ∧
    (known = none → s.seqNew f.session f.seq = false → Completes (.fdpRequest peer f) s (fun t =>
      t.reg 0x1038 4 = min (s.reg 0x1038 4 + 1) 0xFFFFFFFF ∧ t.dict = s.dict ∧ t.outbox = s.outbox)) ∧
    (known = none → s.seqNew f.session f.seq = true → bitAt f.flags 0 = false → s.dict.serving = none → ∀ o r, ops = [o] → o.op = 1 → o.bad = false →
      s.gate f.session o.idx o.sub = .ok r → r.acc = .ro → (∀ n, r.ty ≠ .domain n) → s.readBlocked o.idx o.sub = false → r.ty.size ≤ 1400 → o.idx / 256 = 0x20 →
      let d := beBytes r.ty.size (s.readNum o.idx o.sub)
      let body := OpResult.bytes ⟨1, 0, o.idx, o.sub, 0, d⟩
      Completes (.fdpRequest peer f) s (fun t => t.outbox = s.outbox ++ [udp body] ∧
        t.reg (0x102F + f.session) 6 = max (s.reg (0x102F + f.session) 6) f.seq ∧
        t.reg (0x102F + f.session) 0x0A = wrapAdd64 (s.reg (0x102F + f.session) 0x0A) 1 ∧
        (t.session f.session).stored = (⟨f.seq, f.tag, body⟩ :: (s.session f.session).stored).take 16))

/-- FDP_FRAME_RX (R457, R458): with an empty receive queue, a datagram that keeps the layout completes as its kind's row does, and any other only counts as
malformed; both count as received.
ARP_REQUEST, ICMP_ECHO and PORT_LINK_CHANGE (R457, R478): a port that is up answers for its own address and drops what names another; the link state of a
port that is not OFF follows the ball for the links its mode allows. -/
def Obligations.DatagramsAndPortsAnswer : Prop :=
  (∀ (s : State) (peer : Peer) (d : Bytes), peer.port < 2 → s.power.dictUp = true → s.portUp peer.port = true → s.fdpReady = true → s.avail.rxQueue = [] →
      s.avail.rxPtr < 2 →
      let u := ({ s with avail := { s.avail with rxPtr := (peer.port + 1) % 2 } } : State).inc64 (0x1010 + peer.port) 0x0A 1
      (parseFrame d = none → exec (.fdpFrameRx peer d) s = .next (u.inc32 0x1038 7 1)) ∧
      (∀ f, (parseFrame d = some (1, f) → Completes (.fdpFrameRx peer d) s (fun t => exec (.fdpOpen peer f) u = .next t)) ∧
        (parseFrame d = some (3, f) → Completes (.fdpFrameRx peer d) s (fun t => exec (.fdpRequest peer f) u = .next t)) ∧
        (parseFrame d = some (6, f) → Completes (.fdpFrameRx peer d) s (fun t => exec (.notifyAck peer f) u = .next t)) ∧
        (parseFrame d = some (7, f) → Completes (.fdpFrameRx peer d) s (fun t => exec (.closeFrame peer f) u = .next t)) ∧
        (parseFrame d = some (9, f) → Completes (.fdpFrameRx peer d) s (fun t => exec (.keyInit peer f) u = .next t)))) ∧
  (∀ (s : State) (p : Nat), p < 2 →
      (∀ sender target payload, s.power.dictUp = true → s.portUp p = true →
        (target = s.reg (0x1010 + p) 6 → Completes (.arpRequest p sender target) s (fun t => t.outbox = s.outbox ++ [.arp p sender]) ∧
          Completes (.icmpEcho p sender target payload) s (fun t => t.outbox = s.outbox ++ [.icmp p sender payload])) ∧
        (target ≠ s.reg (0x1010 + p) 6 →
          Completes (.arpRequest p sender target) s (fun t => t.outbox = s.outbox ∧ t.reg (0x1010 + p) 0x0C = min (s.reg (0x1010 + p) 0x0C + 1) 0xFFFFFFFF) ∧
          Completes (.icmpEcho p sender target payload) s (fun t => t.outbox = s.outbox ∧ t.reg (0x1010 + p) 0x0C = min (s.reg (0x1010 + p) 0x0C + 1) 0xFFFFFFFF))) ∧
      (∀ link, 2 ≤ s.reg (0x1010 + p) 2 → linkAllowed (s.reg (0x1010 + p) 3) link = true →
        exec (.portLinkChange p link) s = .next (s.setReg (0x1010 + p) 4 link)))

/-! ## Sheaf (chapter 2) -/

/-- LANE_LOCK, LANE_LOCK_TIMEOUT, CLOCK_RECOVERY_LOSS and SHEAF_FRAME_RX (R61, R54, R68): a lane goes from ACQUIRE to SEARCH when it locks, counts each 1 ms
without lock, and returns to ACQUIRE when its clock is lost, or is FAILED where its group is ON; in SEARCH five sync words in a row lock it, and in LOCKED
four absences in a row lose it. -/
def Obligations.ReceiveLanesFollowTheirEvents : Prop :=
  ∀ (s : State) (lane : Nat), lane < 128 →
    let inOn := match s.groupOf false lane with | some g => s.reg g 2 = stOn | none => False
    let noneYet := match s.groupOf false lane with | some g => s.reg g 2 = stEnabling | none => True
    (s.rxState lane = lnAcquire →
      Completes (.laneLock lane) s (fun t => t.rxState lane = lnSearch) ∧
      Completes (.laneLockTimeout lane) s (fun t => t.reg (0x2500 + lane) 2 = satAdd32 (s.reg (0x2500 + lane) 2) 1 ∧ t.rxState lane = lnAcquire)) ∧
    (s.rxState lane = lnSearch ∨ s.rxState lane = lnLocked →
      (inOn → Completes (.clockRecoveryLoss lane) s (fun t => t.rxState lane = lnFailed)) ∧
      (¬inOn → Completes (.clockRecoveryLoss lane) s (fun t => t.rxState lane = lnAcquire))) ∧
    (∀ line skew wander, line < 2 ^ 8192 → s.rxState lane = lnSearch →
      (line >>> 8128 = syncWord → (s.rxLane lane).hits < 4 → Completes (.sheafFrameRx lane line skew wander) s (fun t =>
        t.rxState lane = lnSearch ∧ (t.rxLane lane).hits = (s.rxLane lane).hits + 1)) ∧
      (line >>> 8128 ≠ syncWord → Completes (.sheafFrameRx lane line skew wander) s (fun t => t.rxState lane = lnSearch ∧ (t.rxLane lane).hits = 0)) ∧
      (line >>> 8128 = syncWord → 4 ≤ (s.rxLane lane).hits → skew ≤ 256 → noneYet → s.reg 0x6012 4 ≠ lane → s.reg 0x6013 4 ≠ lane →
        Completes (.sheafFrameRx lane line skew wander) s (fun t => t.rxState lane = lnLocked ∧ t.reg (0x2500 + lane) 7 = skew))) ∧
    (∀ line skew wander, line < 2 ^ 8192 → s.rxState lane = lnLocked → 3 < popCount 64 ((line >>> 8128) ^^^ syncWord) → 3 ≤ (s.rxLane lane).misses →
      (inOn → Completes (.sheafFrameRx lane line skew wander) s (fun t =>
        t.rxState lane = lnFailed ∧ t.reg (0x2500 + lane) 2 = satAdd32 (s.reg (0x2500 + lane) 2) 1)) ∧
      (¬inOn → Completes (.sheafFrameRx lane line skew wander) s (fun t =>
        t.rxState lane = lnSearch ∧ t.reg (0x2500 + lane) 2 = satAdd32 (s.reg (0x2500 + lane) 2) 1)))

/-- ITEM_RX (R54): an item on a LOCKED lane of an ON group is checked for HCRC, LEN, TYPE and ICRC, in that order, and each error is counted; a sample or
pixel packet of a configured stream that passes goes to its unit's queue, and one of another stream only counts. -/
def Obligations.ItemsAreCheckedInOrder : Prop :=
  ∀ (s : State) (lane g : Nat) (i : Item), lane < 128 → s.deliversFor lane = some g →
    let type := bits i.header 63 60
    let stream := bits i.header 46 35
    let p : Packet := ⟨g - 0x2440, lane, stream, bits i.header 34 23, bits i.header 22 8, i.payload⟩
    (crc8 56 (i.header / 256) 0 ≠ i.header % 256 → Completes (.itemRx lane i) s (fun t =>
      t.reg (0x2500 + lane) 3 = satAdd32 (s.reg (0x2500 + lane) 3) 1 ∧ t.sheaf.samples = s.sheaf.samples ∧ t.sheaf.pixels = s.sheaf.pixels)) ∧
    (crc8 56 (i.header / 256) 0 = i.header % 256 → lenOk type (bits i.header 57 47) = false → Completes (.itemRx lane i) s (fun t =>
      t.reg 0x2401 4 = satAdd32 (s.reg 0x2401 4) 1 ∧ t.sheaf.samples = s.sheaf.samples ∧ t.sheaf.pixels = s.sheaf.pixels)) ∧
    (headerFault i.header = none → 5 ≤ type → Completes (.itemRx lane i) s (fun t =>
      t.reg 0x2401 2 = satAdd32 (s.reg 0x2401 2) 1 ∧ t.sheaf.samples = s.sheaf.samples ∧ t.sheaf.pixels = s.sheaf.pixels)) ∧
    (headerFault i.header = none → 1 ≤ type → type ≤ 4 → crcWords (i.header :: i.payload) ≠ i.trailer → Completes (.itemRx lane i) s (fun t =>
      t.reg (0x2500 + lane) 4 = satAdd32 (s.reg (0x2500 + lane) 4) 1 ∧ t.sheaf.samples = s.sheaf.samples ∧ t.sheaf.pixels = s.sheaf.pixels)) ∧
    (headerFault i.header = none → crcWords (i.header :: i.payload) = i.trailer →
      (type = 1 → s.streamConfigured 1 stream = true → Completes (.itemRx lane i) s (fun t =>
        t.sheaf.samples = s.sheaf.samples ++ [p] ∧ t.sheaf.pixels = s.sheaf.pixels)) ∧
      (type = 2 → s.streamConfigured 2 stream = true → Completes (.itemRx lane i) s (fun t =>
        t.sheaf.pixels = s.sheaf.pixels ++ [p] ∧ t.sheaf.samples = s.sheaf.samples)) ∧
      (1 ≤ type → type ≤ 3 → s.streamConfigured type stream = false → Completes (.itemRx lane i) s (fun t =>
        t.reg 0x2401 1 = satAdd32 (s.reg 0x2401 1) 1 ∧ t.sheaf.samples = s.sheaf.samples ∧ t.sheaf.pixels = s.sheaf.pixels)))

/-- QL_RX, CREDIT_RX, LANE_MAP_RX and LANE_ACK_RX (R57, R59, R69, R70, R576): each control word is taken where the manual puts it and counts as skipped elsewhere.
LANE_MAP_RETRY and QL_SEND (R69, R57, R60): an unanswered LANE_MAP leaves again, and after its fourth send the map is in force and the link DEGRADED; a QL
word is queued on every lane of an enabled transmit group that may carry control words. -/
def Obligations.ControlWordsAreTakenAndSent : Prop :=
  (∀ (s : State) (lane : Nat), lane < 128 →
      (∀ level i, level < 16 → i = 2 ∨ i = 3 → i < s.time.cands.length → s.reg (0x6010 + i) 4 = lane →
        Completes (.qlRx lane level) s (fun t => (t.cand i).lastQl = some level)) ∧
      (∀ level, level < 16 → s.reg 0x6012 4 ≠ lane → s.reg 0x6013 4 ≠ lane → exec (.qlRx lane level) s = .next s) ∧
      (∀ k limit, k < 256 → s.reg (0x2700 + k) 1 < 16 → s.reg (0x2460 + s.reg (0x2700 + k) 1) 6 = lane →
        Completes (.creditRx lane k limit) s (fun t => (t.stream k).limit = limit % 2 ^ 32 ∧ (t.stream k).sent = (s.stream k).sent ∧
          (t.stream k).ready = (s.stream k).ready ∧ t.reg (0x2700 + k) 4 = (limit % 2 ^ 32 + 2 ^ 32 - (s.stream k).sent) % 2 ^ 32)) ∧
      (∀ k limit, k < 4096 → (256 ≤ k ∨ 16 ≤ s.reg (0x2700 + k) 1 ∨ s.reg (0x2460 + s.reg (0x2700 + k) 1) 6 ≠ lane) →
        exec (.creditRx lane k limit) s = .next (s.setReg 0x2401 2 (satAdd32 (s.reg 0x2401 2) 1))) ∧
      (∀ gen map, (∀ g ∈ s.liveGroups true, s.groupUp g = true → s.reg g 6 ≠ lane) →
        exec (.laneMapRx lane gen map) s = .next (s.setReg 0x2401 2 (satAdd32 (s.reg 0x2401 2) 1))) ∧
      (∀ gen map g, (s.liveGroups true).find? (fun g => s.groupUp g && s.reg g 6 = lane) = some g →
        let m := if s.reg g 9 = gen then s.reg g 8 else map % 2 ^ 17
        let low := s.lowestLane g m
        Completes (.laneMapRx lane gen map) s (fun t => t.reg g 8 = m ∧
          (s.reg g 9 ≠ gen → t.reg g 9 = gen % 256 ∧ t.reg g 0x0A = satAdd32 (s.reg g 0x0A) 1 ∧
            t.reg g 7 = (if ((setBitsOf 17 m).filter (fun i => s.reg (0x2600 + (s.firstLane g + i)) 1 ≠ lnFailed)).length = s.activeLanes g then 2 else 3)) ∧
          (s.controlOk low = true → (t.txLane low).control = (s.txLane low).control ++ [mapWord 5 gen (s.firstLane g) (map % 2 ^ 17)]))) ∧
      (∀ gen map g x, (s.liveGroups false).find? (fun g => s.inGroup g lane &&
          (match (s.group g).sent with | some x => x.gen = gen && x.map = map % 2 ^ 17 | none => false)) = some g → (s.group g).sent = some x →
        Completes (.laneAckRx lane gen map) s (fun t => t.reg g 8 = map % 2 ^ 17 ∧ t.reg g 9 = gen ∧
          t.reg g 7 = (if ((setBitsOf 17 (map % 2 ^ 17)).filter (fun i => s.rxState (s.firstLane g + i) = lnLocked)).length = s.activeLanes g then 2 else 3) ∧ ((s.group g).waiting = [] → (t.group g).sent = none))) ∧
      (∀ gen map, (∀ tx, ∀ g ∈ s.liveGroups tx, (s.group g).sent = none) →
        exec (.laneAckRx lane gen map) s = .next (s.setReg 0x2401 2 (satAdd32 (s.reg 0x2401 2) 1)))) ∧
  (∀ (s : State),
      (∀ g x, g < 32 → (s.group (0x2440 + g)).sent = some x →
        let ret := s.reg (0x2440 + g) 6
        (x.sends < 4 → Completes (.laneMapRetry g) s (fun t => (t.group (0x2440 + g)).sent = some { x with sends := x.sends + 1 } ∧
          (s.controlOk ret = true → (t.txLane ret).control = (s.txLane ret).control ++ [mapWord 4 x.gen (s.firstLane (0x2440 + g)) x.map]))) ∧
        (4 ≤ x.sends → Completes (.laneMapRetry g) s (fun t => t.reg (0x2440 + g) 8 = x.map ∧ t.reg (0x2440 + g) 9 = x.gen ∧ t.reg (0x2440 + g) 7 = 3))) ∧
      (∀ n, (((s.liveGroups true).filter s.groupUp).filter (fun g => s.inGroup g n)).length ≤ 1 →
        Completes .qlSend s (fun t => (t.txLane n).control = (s.txLane n).control ++
          (if s.controlOk n = true then [ctrlWord 1 (s.reg 0x6000 8 * 2 ^ 52)] else []))))

/-- GROUP_ON, RX_LANE_FAIL and TX_LANE_FAIL (R62, R65, R68, R69, R70): a group reaches ON with its active lanes in its map; a failed lane is FAILED, and the next
map, with the spare in its place, is sent with the next generation.
What a failed lane without a map of its own does is the model's choice (log 49). -/
def Obligations.GroupsComeUpAndFailOver : Prop :=
  ∀ (s : State),
    (∀ g, 0x2440 ≤ g → g ≤ 0x246F → s.reg g 2 = stEnabling →
      Completes (.groupOn g) s (fun t => t.reg g 2 = stOn ∧
        (0x2460 ≤ g → (∀ l ∈ s.lanesOf g, s.reg (0x2600 + l) 1 ≠ lnFailed) → t.reg g 8 = 2 ^ s.activeLanes g - 1 ∧ t.reg g 9 = 0 ∧ t.reg g 7 = 2) ∧
        (g < 0x2460 → (∀ l ∈ s.lanesOf g, s.rxState l ≠ lnFailed) → t.reg g 8 = 2 ^ s.activeLanes g - 1 ∧ t.reg g 9 = 0 ∧
          t.reg g 7 = (if ((s.lanesOf g).take (s.activeLanes g)).all (fun l => s.rxState l = lnLocked) then 2 else 3)))) ∧
    (∀ lane g, lane < 128 → s.groupOf false lane = some g → s.reg g 2 = stOn → s.rxState lane ≠ lnFailed →
      Completes (.rxLaneFail lane) s (fun t => t.rxState lane = lnFailed ∧
        (bitAt (s.reg g 8) (lane - s.firstLane g) = true → s.flag 0x2400 3 = true → s.reg g 6 ≠ 0xFF → (s.group g).sent = none →
          (t.group g).sent = some ⟨(s.reg g 9 + 1) % 256, s.nextMap false g [lane], 1, (s.group g).round, [lane]⟩ ∧ t.reg g 0x0A = satAdd32 (s.reg g 0x0A) 1) ∧
        (bitAt (s.reg g 8) (lane - s.firstLane g) = false → t.reg g 8 = s.reg g 8 ∧ t.reg g 0x0A = s.reg g 0x0A))) ∧
    (∀ lane g, lane < 64 → s.groupOf true lane = some g → s.reg g 2 = stOn → s.reg (0x2600 + lane) 1 = 1 →
      Completes (.txLaneFail lane) s (fun t => t.reg (0x2600 + lane) 1 = lnFailed ∧
        (bitAt (s.reg g 8) (lane - s.firstLane g) = true → (s.group g).sent = none →
          t.reg g 8 = s.nextMap true g [lane] ∧ t.reg g 9 = (s.reg g 9 + 1) % 256 ∧ t.reg g 0x0A = satAdd32 (s.reg g 0x0A) 1 ∧
          (t.group g).sent = some ⟨(s.reg g 9 + 1) % 256, s.nextMap true g [lane], 1, s.txRound g, [lane]⟩)))

/-- ITEM_TX (R44, R56, R60, R66): on a lane of an enabled group that is not FAILED a queued control word leaves first, as a CTRL item, then the first packet of
the stream chosen for the lane with its stream's next sequence number, and else an IDLE, which counts nothing; the item's bits join the lane's frames, and the
frames they fill leave. A fragment of a staged record is counted as it leaves, and the last one counts the record and frees its staging slot (R169, R210).
PRBS_INJECT, PRBS_RECEIVE and SHEAF_COUNTER_CLEAR (R74, R75): the next bit of every transmit lane in PRBS mode will be inverted; the checker takes each received bit
and counts each mismatch; a clear makes every Sheaf counter read 0 and no other entry changes. -/
def Obligations.ItemsLeaveAndLinksAreTested : Prop :=
  (∀ (s : State) (lane g : Nat), lane < 64 → s.groupOf true lane = some g → s.groupUp g = true → s.reg (0x2600 + lane) 1 ≠ lnFailed →
      let idle := Completes (.itemTx lane) s (fun t => t.outbox = s.outbox ++ s.framesWith lane idleItem ∧ t.regs = s.regs ∧ t.sheaf.streams = s.sheaf.streams)
      (∀ w rest, (s.txLane lane).control = w :: rest → Completes (.itemTx lane) s (fun t =>
        t.outbox = s.outbox ++ .item lane (itemBytesOf (mkItem 4 3 0 0 0 [w])) :: s.framesWith lane (mkItem 4 3 0 0 0 [w]) ∧
        (t.txLane lane).control = rest ∧ t.reg (0x2600 + lane) 2 = wrapAdd64 (s.reg (0x2600 + lane) 2) 1)) ∧
      ((s.txLane lane).control = [] → s.reg g 2 = stOn → bitAt (s.reg g 8) (lane - s.firstLane g) = true →
        (∀ k p rest, k < 256 → s.chooseStream g lane = some k → (s.stream k).ready = p :: rest →
          let i := mkItem 3 (s.reg (0x2700 + k) 2) k p.channel (s.reg (0x2700 + k) 5) p.words
          Completes (.itemTx lane) s (fun t =>
            t.outbox = s.outbox ++ .item lane (itemBytesOf i) :: s.framesWith lane i ∧
            (t.stream k).ready = rest ∧ t.reg (0x2700 + k) 5 = (s.reg (0x2700 + k) 5 + 1) % 2 ^ 15 ∧
            (t.stream k).sent = ((s.stream k).sent + p.words.length) % 2 ^ 32 ∧
            t.reg (0x2600 + lane) 2 = wrapAdd64 (s.reg (0x2600 + lane) 2) 1 ∧
            (∀ slot left, (s.stream k).slot = some (slot, left) → t.reg 0x3600 3 = wrapAdd64 (s.reg 0x3600 3) 1 ∧
              (1 < left → (t.stream k).slot = some (slot, left - 1) ∧ t.xarray = s.xarray ∧ t.reg 0x3600 2 = s.reg 0x3600 2) ∧
              (left ≤ 1 → (t.stream k).slot = none ∧ t.xarray.staged = s.xarray.staged.filter (fun e => e.slot ≠ slot) ∧
                t.reg 0x3600 2 = wrapAdd64 (s.reg 0x3600 2) 1)))) ∧
        (s.chooseStream g lane = none → idle)) ∧
      ((s.txLane lane).control = [] → (s.reg g 2 ≠ stOn ∨ bitAt (s.reg g 8) (lane - s.firstLane g) = false) → idle)) ∧
  (∀ (s : State),
      (∀ sess, s.letsCmd sess 0x2402 3 → Completes (.prbsInject sess) s (fun t =>
        (∀ n ∈ s.prbsLanes true (s.reg 0x2402 2), (t.txLane n).invert = true) ∧ t.outbox = s.outbox ∧ t.regs = s.regs)) ∧
      (∀ sess, s.letsCmd sess 0x2400 5 → Completes (.sheafCounterClear sess) s (fun t => ∀ i a, a < 256 →
        t.reg i a = (if isSheafCounter i a = true then 0 else s.reg i a))) ∧
      (∀ lane rx, lane < 128 → s.rxState lane = lnPrbs →
        let r := rx.foldl (fun (x : PrbsCheck × Nat) b => ((x.1.bit b).1, x.2 + ofBool (x.1.bit b).2)) ((s.rxLane lane).prbs, 0)
        Completes (.prbsReceive lane rx) s (fun t => (t.rxLane lane).prbs = r.1 ∧
          t.reg (0x2500 + lane) 8 = (if r.2 = 0 then s.reg (0x2500 + lane) 8 else satAdd32 (s.reg (0x2500 + lane) 8) r.2) ∧
          bitAt (t.reg 0x2402 4) lane = decide (r.1.toLoad = 0))))

/-! ## Crib (chapter 3) -/

/-- SAMPLE_PACKET_RX (R83, R84): the oldest sample packet leaves the queue; one that fails a check only counts, in the order of R84, and one that passes has its
spectra accepted.
SLAB_SEAL, WINDOW_START and LOFT_STEP_FILL (R94, R96, R97): the next slab is sealed once the SC has passed its end plus the seal margin; a bay's window starts once its last
slab is sealed; its reader fills a released half with its next step. -/
def Obligations.SamplesReachTheLofts : Prop :=
  (∀ (s : State) (p : Packet) (ps : List Packet), s.sheaf.samples = p :: ps →
      let u : State := { s with sheaf := { s.sheaf with samples := ps } }
      let counted := fun (i a : Nat) => Host.Outcome.next (φ := Fault) (ρ := Refusal) (u.setReg i a (satAdd32 (s.reg i a) 1))
      let sc := p.words.headD 0
      let origin := s.reg 0x2800 6
      let step := s.reg 0x2800 5
      let n := (sc - origin) / step
      (s.cribOn = false ∨ 128 ≤ p.stream ∨ bitAt (s.reg 0x2800 7) p.stream = false → exec .samplePacketRx s = counted 0x2401 1) ∧
      (s.cribOn = true → p.stream < 128 → bitAt (s.reg 0x2800 7) p.stream = true →
        (packetSpectra (s.reg 0x2800 3) p.words.length = none → exec .samplePacketRx s = counted 0x2801 0x0B) ∧
        (∀ k, packetSpectra (s.reg 0x2800 3) p.words.length = some k →
          (s.reg 0x2800 4 ≤ p.channel ∨ sc < origin ∨ (sc - origin) % step ≠ 0 → exec .samplePacketRx s = counted 0x2801 0x0B) ∧
          (p.channel < s.reg 0x2800 4 → origin ≤ sc → (sc - origin) % step = 0 →
            (s.sc + 64 * step < sc → exec .samplePacketRx s = counted 0x2801 9) ∧
            (sc ≤ s.sc + 64 * step → s.anySealed p.stream n k = true → exec .samplePacketRx s = counted 0x2801 8) ∧
            (sc ≤ s.sc + 64 * step → s.anySealed p.stream n k = false →
              (∃ j, j < k ∧ acceptKey (n + j) p.channel p.stream ∈ s.crib.accepted) → exec .samplePacketRx s = counted 0x2801 0x0A) ∧
            (sc ≤ s.sc + 64 * step → s.anySealed p.stream n k = false →
              (∀ j, j < k → acceptKey (n + j) p.channel p.stream ∉ s.crib.accepted) → Completes .samplePacketRx s (fun t =>
                t.crib.accepted = (List.range k).map (fun j => acceptKey (n + j) p.channel p.stream) ++ s.crib.accepted ∧
                t.crib.sealedTo = s.crib.sealedTo ∧ t.sheaf.samples = ps ∧ t.reg 0x2801 8 = s.reg 0x2801 8 ∧ t.reg 0x2801 9 = s.reg 0x2801 9 ∧
                t.reg 0x2801 0x0B = s.reg 0x2801 0x0B)))))) ∧
  (∀ (s : State), s.cribOn = true →
      (let due := s.reg 0x2800 6 + 64 * (s.crib.sealedTo + 1) * s.reg 0x2800 5 + s.sealMargin
       (due ≤ s.sc → Completes .slabSeal s (fun t => t.crib.sealedTo = s.crib.sealedTo + 1 ∧ t.reg 0x2801 3 = s.crib.sealedTo ∧ t.time = s.time)) ∧
       (s.sc < due → exec .slabSeal s = .next s)) ∧
      (∀ k, k < 4 → k < s.board.bays → k < s.crib.bays.length →
        let b := s.bayReader k
        let sc := s.spectrumSc b.start
        let len := s.regAt (0x2810 + k) 2 sc
        let chans := (setBitsOf 4096 (s.regAt (0x2810 + k) 1 sc)).filter (fun c => decide (c < s.reg 0x2800 4))
        b.reading = none →
        (b.start + len ≤ 64 * s.crib.sealedTo →
          (chans = [] → Completes (.windowStart k) s (fun t => t.bayReader k = ⟨b.start + len, none⟩)) ∧
          (∀ c rest, chans = c :: rest → Completes (.windowStart k) s (fun t =>
            t.bayReader k = ⟨b.start, some ⟨len, stepSpectra (s.regAt (0x2810 + k) 3 sc), chans, 0, 0, false⟩⟩ ∧
            t.reg (0x2810 + k) 4 = b.start ∧ t.reg (0x2810 + k) 5 = c))) ∧
        (64 * s.crib.sealedTo < b.start + len → exec (.windowStart k) s = .next s)) ∧
      (∀ k h w, k < 4 → k < s.crib.bays.length → (s.bayReader k).reading = some w → 2 * k + h < s.crib.lofts.length →
        (List.range 2).find? (fun h => !(s.loftHalf k h).held) = some h → s.reg (0x3010 + k) 2 ≠ stOn →
        let c := w.chans.getD w.done 0
        let first := (s.bayReader k).start + w.next * w.step
        Completes (.loftStepFill k) s (fun t => (t.loftHalf k h).held = true ∧ (t.loftHalf k h).taken = false ∧ (t.loftHalf k h).channel = c ∧
          (t.loftHalf k h).step = w.next ∧ (t.loftHalf k h).sc = s.spectrumSc first ∧ (t.loftHalf k h).samples = s.stepSamples first c w.step ∧
          t.reg (0x2810 + k) 7 = wrapAdd64 (s.reg (0x2810 + k) 7) 1 ∧
          t.bayReader k = (if w.ending = true then ⟨(s.bayReader k).start, none⟩
            else if w.next + 1 < w.len / w.step then ⟨(s.bayReader k).start, some { w with next := w.next + 1 }⟩
            else if w.done + 1 < w.chans.length then ⟨(s.bayReader k).start, some { w with done := w.done + 1, next := 0 }⟩
            else ⟨(s.bayReader k).start + w.len, none⟩))))

/-- CRIB_FREEZE, FIRE, PINS_TAKE_EFFECT, RELEASE and RELEASE_COMPLETE (R103 to R107): a trigger takes the lowest FREE silo, which goes to FILLING with its time
and source, and is refused with an event and a count where none is free; its pins take effect; a release goes through RELEASING to FREE.
READOUT_START, READOUT_PACKET and READOUT_ABORT (R109, R110, R112): a start takes the ranges of 2804h and the silo is READING, and one that is refused
leaves status 04h; each packet goes to the readout's stream once the one before it has left (R59), and after the last the silo is HELD again with SILO_DONE; an abort leaves status 03h.
Which detail a refused start reports is the model's choice (log 48). -/
def Obligations.SilosFillAndAreReadOut : Prop :=
  (∀ (s : State),
      let free := (List.range 64).find? (fun j => s.siloState j = 0)
      let filling := fun (t : State) (j sc source : Nat) => t.siloState j = 1 ∧ t.reg (0x2840 + j) 4 = sc ∧ t.reg (0x2840 + j) 6 = source ∧
        t.reg (0x2840 + j) 8 = s.reg 0x1100 1 ∧ t.reg 0x2800 0x0D = satAdd32 (s.reg 0x2800 0x0D) 1 ∧ t.reg 0x2800 0x0E = s.reg 0x2800 0x0E
      let refused := fun (t : State) (p : Nat) => s.fires t 0x11 p ∧ t.reg 0x2800 0x0E = satAdd32 (s.reg 0x2800 0x0E) 1 ∧ t.crib = s.crib
      (∀ p e, p < 8 → s.held (0x10 + p) = some e →
        (∀ j, s.cribOn = true → s.flag (0x2820 + p) 1 = true → free = some j → Completes (.cribFreeze p) s (fun t => filling t j e.sc p)) ∧
        (s.cribOn = false ∨ s.flag (0x2820 + p) 1 = false ∨ free = none → Completes (.cribFreeze p) s (fun t => refused t p))) ∧
      (∀ sess, s.letsCmd sess 0x2803 3 → s.reg 0x2803 1 < 8 →
        (∀ j, s.cribOn = true → s.flag (0x2820 + s.reg 0x2803 1) 1 = true → free = some j →
          Completes (.fireTrigger sess) s (fun t => filling t j (s.reg 0x2803 2) 0x100)) ∧
        (s.cribOn = false ∨ s.flag (0x2820 + s.reg 0x2803 1) 1 = false ∨ free = none →
          Completes (.fireTrigger sess) s (fun t => refused t (s.reg 0x2803 1)))) ∧
      (∀ j, j < 64 → j < s.crib.silos.length →
        (s.siloState j = 1 → (s.silo j).inEffect = false → Completes (.pinsTakeEffect j) s (fun t =>
          (t.silo j).inEffect = true ∧ (t.siloState j = 1 ∨ t.siloState j = 2))) ∧
        (∀ sess, s.letsCmd sess (0x2840 + j) 11 → (s.siloState j = 1 ∨ s.siloState j = 2 ∨ s.siloState j = 3) →
          Completes (.siloRelease sess j) s (fun t => t.siloState j = 4 ∧ (t.silo j).closed = true ∧
            (s.siloState j = 3 → t.crib.readout = none ∧ t.reg 0x2804 9 = 3))) ∧
        (s.siloState j = 4 → Completes (.siloReleaseComplete j) s (fun t => t.siloState j = 0 ∧ t.silo j = Silo.reset)))) ∧
  (∀ (s : State),
      (∀ sess, s.letsCmd sess 0x2804 7 →
        (s.readoutCheck = 0 → Completes (.readoutStart sess) s (fun t => t.siloState (s.reg 0x2804 1) = 3 ∧ t.reg 0x2804 9 = 1 ∧ t.reg 0x2804 0x0A = 0 ∧
          t.crib.readout = some ⟨s.reg 0x2804 1, s.reg 0x2804 6, s.reg 0x2804 2, s.reg 0x2804 3, s.reg 0x2804 4, s.reg 0x2804 5,
            (s.silo (s.reg 0x2804 1)).first, s.reg 0x2804 2, s.reg 0x2804 4, 0⟩)) ∧
        (s.readoutCheck ≠ 0 → Completes (.readoutStart sess) s (fun t => t.crib = s.crib ∧ t.reg 0x2804 9 = 4))) ∧
      (∀ r, s.crib.readout = some r → r.silo < 64 →
        let grp := s.reg (0x2700 + r.stream) 1
        (∀ sess, s.letsCmd sess 0x2804 8 → Completes (.readoutAbort sess) s (fun t => t.crib.readout = none ∧ t.reg 0x2804 9 = 3 ∧ t.siloState r.silo = 2)) ∧
        (grp ≠ 0xFF → r.slab < (s.silo r.silo).stop → s.reg (0x2460 + grp) 2 ≠ stOn ∨ (s.stream r.stream).ready ≠ [] → exec .readoutPacket s = .next s) ∧
        (grp ≠ 0xFF → r.slab < (s.silo r.silo).stop → s.reg (0x2460 + grp) 2 = stOn → (s.stream r.stream).ready = [] →
          (∀ n, r.after (s.silo r.silo) = some n → Completes .readoutPacket s (fun t => t.crib.readout = some n ∧
            (t.stream r.stream).ready = [s.readoutPacket r] ∧ t.reg 0x2804 0x0A = satAdd32 (s.reg 0x2804 0x0A) 1)) ∧
          (r.after (s.silo r.silo) = none → Completes .readoutPacket s (fun t => t.crib.readout = none ∧ t.reg 0x2804 9 = 2 ∧ t.siloState r.silo = 2 ∧
            (t.stream r.stream).ready = [s.readoutPacket r] ∧ t.reg 0x2804 0x0A = satAdd32 (s.reg 0x2804 0x0A) 1 ∧
            t.dowel.fired = (s.readoutRead r).dowel.fired ++ [⟨0x12, r.silo, s.sc, 0, 0, s.time.tclk⟩, ⟨0x13, r.silo, s.sc, 0, 0, s.time.tclk⟩])))))

/-! ## Jigs (chapter 4) -/

/-- CORR4, CORR8, BEAM4, BEAM8, XREG, ZERO and DUMP (R119 to R124, R139, R150): a running Jig at such an entry checks it; a failed check is an ERROR with the
code R139 lists; a full port makes the Jig wait with its sweep kept; otherwise the work order joins its port's queue, and one for an unplaced logical tile is
discarded as completed. The last work order of an entry is followed by the next entry. -/
def Obligations.WorkOrderEntriesIssue : Prop :=
  ∀ (s : State) (k pc w op : Nat) (i : Instr),
    (op, i) ∈ [(1, Instr.corr4 k), (2, .corr8 k), (3, .beam4 k), (4, .beam8 k), (5, .xreg k), (6, .zero k), (7, .dump k)] →
    s.jigAt k pc w → woOp w = op → (s.jig k).swapDue = false → k < s.xarray.jigs.length →
    let x := sweepOf w
    let lam := s.sweepTile x
    let b := s.orderBits k x
    let o : WorkOrder :=
      { id := s.xarray.nextOrder, bay := k, bits := b, entry := pc, lam := lam, epoch := s.placeEpoch lam,
        half := if isCorr (woOp b) || isBeam (woOp b) then (s.currentHalf k).map halfRef else none, phase := .queued, k := 0, shim := false,
        pulled := false, samples := [], cfg := 0 }
    (s.orderCheck k x ≠ 0 → Completes i s (fun t => t.jigFailed k pc (s.orderCheck k x) ∧ t.xarray.orders = s.xarray.orders)) ∧
    (s.orderCheck k x = 0 → (s.tileOf lam).isSome = true → s.portOpen lam (woClass w) = false →
      Completes i s (fun t => t.jigGoes k pc jgWaitPort ∧ (t.jig k).sweep = some x ∧ t.xarray.orders = s.xarray.orders)) ∧
    (s.orderCheck k x = 0 → x.left = 0 → (s.tileOf lam).isSome = true → s.portOpen lam (woClass w) = true →
      Completes i s (fun t => t.jigGoes k (pc + 1) jgRunning ∧ t.xarray.orders = s.xarray.orders ++ [o] ∧ t.xarray.nextOrder = s.xarray.nextOrder + 1 ∧
        t.reg (0x3010 + k) 7 = wrapAdd64 (s.reg (0x3010 + k) 7) 1 ∧ t.reg (0x3010 + k) 8 = s.reg (0x3010 + k) 8)) ∧
    (s.orderCheck k x = 0 → x.left = 0 → lam < 256 → s.tileOf lam = none →
      Completes i s (fun t => t.jigGoes k (pc + 1) jgRunning ∧ t.xarray.orders = s.xarray.orders ∧
        t.reg (0x3010 + k) 7 = wrapAdd64 (s.reg (0x3010 + k) 7) 1 ∧ t.reg (0x3010 + k) 8 = wrapAdd64 (s.reg (0x3010 + k) 8) 1))

/-- FENCE and FENCE_PASS (R121, R137): a fence waits while a work order in its scope is outstanding, and passes then, with JIG_FENCE when EVT is set. A cut list
that became live meanwhile is swapped in then, from its entry 0 (R141).
A Jig past its last entry ends; one in WAIT_EVT goes on when its event has come, with a cut list that became live meanwhile (R141); JIG_RESTART from DONE or ERROR runs the cut list from entry 0
(R134, R136, R138, R140). -/
def Obligations.JigsWaitAndRestart : Prop :=
  (∀ (s : State) (k pc w : Nat), pc < 65536 →
      (s.fenceHeld k w = true ↔ ∃ o ∈ s.xarray.orders, o.bay = k ∧ (bits w 69 68 = 0 ∨ woClass o.bits = woClass w)) ∧
      let passed := fun (t : State) => t.jigGoes k (pc + 1) jgRunning ∧ t.xarray = s.xarray ∧
        t.dowel.fired = s.dowel.fired ++ (if bitAt w 67 then [⟨0x22 + 8 * k, pc, s.sc, 0, 0, s.time.tclk⟩] else [])
      (s.jigAt k pc w → woOp w = 8 →
        (reservedClear w = false → Completes (.cutFence k) s (fun t => t.jigFailed k pc 2)) ∧
        (reservedClear w = true → s.fenceHeld k w = true → Completes (.cutFence k) s (fun t => t.jigGoes k pc jgWaitFence)) ∧
        (reservedClear w = true → s.fenceHeld k w = false → (s.jig k).swapDue = false → Completes (.cutFence k) s passed) ∧
        (∀ l, reservedClear w = true → s.fenceHeld k w = false → (s.jig k).swapDue = true → (s.jig k).lists.getLast? = some l → k < s.xarray.jigs.length →
          Completes (.cutFence k) s (fun t => t.jigGoes k 0 jgRunning ∧ (t.jig k).list = l.2 ∧ (t.jig k).loops = []))) ∧
      (k < 4 → s.runState k = jgWaitFence → s.reg (0x3010 + k) 4 = pc → s.entryAt k pc = some w →
        (s.fenceHeld k w = true → exec (.fencePass k) s = .next s) ∧ (s.fenceHeld k w = false → (s.jig k).swapDue = false → Completes (.fencePass k) s passed) ∧
        (∀ l, s.fenceHeld k w = false → (s.jig k).swapDue = true → (s.jig k).lists.getLast? = some l → k < s.xarray.jigs.length →
          Completes (.fencePass k) s (fun t => t.jigGoes k 0 jgRunning ∧ (t.jig k).list = l.2 ∧ (t.jig k).loops = [])))) ∧
  (∀ (s : State) (k pc : Nat), k < 4 →
      (s.reg (0x3010 + k) 2 = stOn → s.runState k = jgRunning → s.reg (0x3010 + k) 4 = pc → s.entryAt k pc = none →
        Completes (.cutEnd k) s (fun t => t.jigGoes k pc jgDone ∧ s.fires t (0x20 + 8 * k) 0)) ∧
      (s.runState k = jgWaitEvt → s.reg (0x3010 + k) 4 = pc → (s.held (0x20 + k)).isSome = true →
        ((s.jig k).swapDue = false → Completes (.cutWaitEvt k) s (fun t => t.jigGoes k (pc + 1) jgRunning)) ∧
        (∀ l, (s.jig k).swapDue = true → (s.jig k).lists.getLast? = some l → k < s.xarray.jigs.length →
          Completes (.cutWaitEvt k) s (fun t => t.jigGoes k 0 jgRunning ∧ (t.jig k).list = l.2))) ∧
      (∀ sess, s.letsCmd sess (0x3010 + k) 16 → k < s.xarray.jigs.length → s.runState k = jgDone ∨ s.runState k = jgError →
        Completes (.jigRestart sess k) s (fun t => t.jigGoes k 0 jgRunning ∧ t.reg (0x3010 + k) 5 = 0 ∧ t.reg (0x3010 + k) 6 = 0 ∧ (t.jig k).loops = [])))

/-- END, WAIT_STEP, JUMP, IF_STEP, LOOP, ENDLOOP, WAIT_EVT and EVENT (R134 to R139): where each control entry takes a running Jig, and that a reserved bit that
is set, a target beyond the list and a loop nested too deep or not open are errors. -/
def Obligations.ControlEntriesSteerTheJig : Prop :=
  ∀ (s : State) (k pc w : Nat), s.jigAt k pc w → k < s.xarray.jigs.length →
    (∀ c i, (c, i) ∈ [(0, Instr.cutEnd k), (1, .cutWaitStep k), (2, .cutJump k), (3, .cutIfStep k), (4, .cutLoop k), (5, .cutEndloop k), (6, .cutWaitEvt k),
        (7, .cutEvent k)] → woOp w = 15 → bits w 123 120 = c → bits w 80 0 ≠ 0 → Completes i s (fun t => t.jigFailed k pc 2)) ∧
    (controlEntry 0 w → Completes (.cutEnd k) s (fun t => t.jigGoes k pc jgDone ∧ s.fires t (0x20 + 8 * k) 0)) ∧
    (controlEntry 1 w →
      ((s.jig k).freeStep = true → Completes (.cutWaitStep k) s (fun t => t.jigGoes k (pc + 1) jgRunning ∧ (t.jig k).freeStep = false)) ∧
      ((s.jig k).freeStep = false → s.readyHalf k = none → Completes (.cutWaitStep k) s (fun t => t.jigGoes k pc jgWaitStep)) ∧
      (∀ h, (s.jig k).freeStep = false → s.readyHalf k = some h → s.listDue k (s.loftHalf k h) = none →
        Completes (.cutWaitStep k) s (fun t => t.jigGoes k (pc + 1) jgRunning ∧ (t.jig k).half = some (s.loftHalf k h).seq ∧
          t.reg (0x3010 + k) 0x0D = (s.loftHalf k h).channel ∧ t.reg (0x3010 + k) 0x0E = (s.loftHalf k h).step))) ∧
    (controlEntry 2 w →
      (s.targetOk k (bits w 119 108) = true → Completes (.cutJump k) s (fun t => t.jigGoes k (bits w 119 108) jgRunning)) ∧
      (s.targetOk k (bits w 119 108) = false → Completes (.cutJump k) s (fun t => t.jigFailed k pc 0xA))) ∧
    (controlEntry 3 w →
      (s.targetOk k (bits w 119 108) = true → Completes (.cutIfStep k) s (fun t =>
        t.jigGoes k (if s.stepTest k (bits w 82 81) = bitAt w 83 then pc + 1 else bits w 119 108) jgRunning)) ∧
      (s.targetOk k (bits w 119 108) = false → Completes (.cutIfStep k) s (fun t => t.jigFailed k pc 0xA))) ∧
    (controlEntry 4 w →
      ((s.jig k).loops.length < 4 → Completes (.cutLoop k) s (fun t => t.jigGoes k (pc + 1) jgRunning ∧
        (t.jig k).loops = (if bits w 107 92 = 0 then s.stepsOf k else bits w 107 92, pc) :: (s.jig k).loops)) ∧
      (4 ≤ (s.jig k).loops.length → Completes (.cutLoop k) s (fun t => t.jigFailed k pc 9))) ∧
    (controlEntry 5 w →
      ((s.jig k).loops = [] → Completes (.cutEndloop k) s (fun t => t.jigFailed k pc 9)) ∧
      (∀ n a rest, (s.jig k).loops = (n, a) :: rest →
        (2 ≤ n → Completes (.cutEndloop k) s (fun t => t.jigGoes k (a + 1) jgRunning ∧ (t.jig k).loops = (n - 1, a) :: rest)) ∧
        (n ≤ 1 → Completes (.cutEndloop k) s (fun t => t.jigGoes k (pc + 1) jgRunning ∧ (t.jig k).loops = rest)))) ∧
    (controlEntry 6 w →
      (s.held (0x20 + k) = none → Completes (.cutWaitEvt k) s (fun t => t.jigGoes k pc jgWaitEvt ∧ t.dowel = s.dowel)) ∧
      ((s.held (0x20 + k)).isSome = true → (s.jig k).swapDue = false → Completes (.cutWaitEvt k) s (fun t => t.jigGoes k (pc + 1) jgRunning ∧
        t.dowel = (s.takeInput (0x20 + k)).dowel))) ∧
    (controlEntry 7 w → Completes (.cutEvent k) s (fun t => t.jigGoes k (pc + 1) jgRunning ∧ s.fires t (0x21 + 8 * k) (bits w 91 84)))

/-! ## Tiles and the granary (chapters 4 and 5) -/

/-- WORK_ORDER_START and CLASS_U_YIELD (R127 to R129, R166, R167): a tile that serves a logical tile with nothing running starts the next work order of its
port, with its blocks pulled into staging that has room (R115, R116); a ZERO clears its bin and commits at once; a DUMP whose path is free leaves its record there and
commits; a class U work order sends the running one back to the queue.
PASS_OVERFLOW and PASS_COMPLETE (R130, R158): a pass that overflowed below shift 6 runs again at the next shift; else it hands its short sums, in a bank
with its tag, to the granary controller. -/
def Obligations.WorkOrdersRunTheirPasses : Prop :=
  (∀ (s : State) (tile lam : Nat) (o : WorkOrder), tile < 272 → s.serves tile = some lam → s.nextOrder lam = some o →
      let run := fun (x : WorkOrder) => { x with phase := .running, epoch := s.placeEpoch o.lam, cfg := s.reg 0x1100 1, pulled := true }
      let space := s.makeSpaceFor o
      (∀ bad, s.running lam = none →
        (1 ≤ woOp o.bits → woOp o.bits ≤ 5 → (s.tile tile).banks.all (fun b => b.busy) = false → s.canStage o = true → Completes (.workOrderStart tile bad) s (fun t =>
          (o.pulled = true → run o ∈ t.xarray.orders) ∧
          (o.pulled = false → run { o with samples := space.pullBlocks o } ∈ t.xarray.orders) ∧
          t.xarray.bins = s.xarray.bins ∧ t.xarray.tiles = s.xarray.tiles)) ∧
        (woOp o.bits ≤ 5 → (s.tile tile).banks.all (fun b => b.busy) = true ∨ s.canStage o = false → exec (.workOrderStart tile bad) s = .next s) ∧
        (woOp o.bits = 6 → Completes (.workOrderStart tile bad) s (fun t =>
          { run o with phase := .done, samples := [] } ∈ t.xarray.orders ∧
          ∀ h, h < 2 → t.acc tile (woBin o.bits / s.board.logicalTiles) h = Acc.reset)) ∧
        (woOp o.bits = 7 → s.pathBusy tile = false → Completes (.workOrderStart tile bad) s (fun t =>
          { run o with phase := .done, samples := [] } ∈ t.xarray.orders ∧
          ∃ r ∈ t.xarray.dumps, r.tile = tile ∧ r.order = o.id ∧ r.bay = o.bay ∧ r.stream = woStream o.bits ∧ r.cls = woClass o.bits)) ∧
        (woOp o.bits = 7 → s.pathBusy tile = true → Completes (.workOrderStart tile bad) s (fun t =>
          run o ∈ t.xarray.orders ∧ t.xarray.bins = s.xarray.bins))) ∧
      (∀ r, s.running lam = some r → s.uTile lam = true → woClass r.bits ≠ 3 → woClass o.bits = 3 →
        Completes (.classUYield tile) s (fun t => { r with phase := .queued } ∈ t.xarray.orders ∧ t.reg 0x3000 9 = wrapAdd64 (s.reg 0x3000 9) 1))) ∧
  (∀ (s : State) (tile : Nat) (o : WorkOrder) (p : PassResult), tile < 272 → s.passOn tile = some (o, p) →
      ((p.ovr = true ∧ o.k < 6) → Completes (.passOverflow tile) s (fun t => { o with k := o.k + 1 } ∈ t.xarray.orders ∧
          t.reg 0x3000 4 = wrapAdd64 (s.reg 0x3000 4) 1) ∧
        exec (.passComplete tile) s = .next s) ∧
      (¬(p.ovr = true ∧ o.k < 6) → exec (.passOverflow tile) s = .next s ∧
        (∀ i, (List.range 2).find? (fun i => !(nthD Bank.reset (s.tile tile).banks i).busy) = some i → i < (s.tile tile).banks.length →
          Completes (.passComplete tile) s (fun t => { o with phase := .folding, shim := false } ∈ t.xarray.orders ∧ (t.tile tile).fill = i ∧
            nthD Bank.reset (t.tile tile).banks i = passBank o p)) ∧
        ((List.range 2).find? (fun i => !(nthD Bank.reset (s.tile tile).banks i).busy) = none → exec (.passComplete tile) s = .next s)))

/-- FOLD_COMPLETE and SPILL_COMPLETE (R146, R163, R173 to R176): the oldest bank is folded into its bin by the rules of R161 to R164 and its work order commits;
one whose placement has gone is dropped and counted; a fold that needs a spill waits for it, or for the one that runs, and proceeds after it. -/
def Obligations.FoldsAndSpills : Prop :=
  ∀ (s : State) (tile i : Nat) (bad : List Nat), tile < 272 →
    let b := nthD Bank.reset (s.tile tile).banks i
    let slot := woBin b.bits / s.board.logicalTiles
    let half := fun (o : WorkOrder) => if isCorr (woOp b.bits) then s.halfOf b.bits (s.orderBlocks o) else 0
    let clean := fun (o : WorkOrder) => s.granaryEcc tile slot (half o) (woBin b.bits) bad
    let freed := fun (t : State) => (nthD Bank.reset (t.tile tile).banks i).busy = false
    let committed := fun (t : State) (o : WorkOrder) => { o with phase := .done, samples := [] } ∈ t.xarray.orders ∧
      t.reg (0x2200 + tile) 3 = wrapAdd64 (s.reg (0x2200 + tile) 3) 1
    (∀ is, (s.tile tile).pendingBanks = i :: is → i < (s.tile tile).banks.length →
      (s.bankCurrent tile b = none → Completes (.foldComplete tile bad) s (fun t => freed t ∧ t.reg 0x3000 7 = wrapAdd64 (s.reg 0x3000 7) 1 ∧
        t.xarray.orders = s.xarray.orders ∧ t.xarray.bins = s.xarray.bins)) ∧
      (∀ o, s.bankCurrent tile b = some o →
        (s.isSplit (woBin b.bits) = false → Completes (.foldComplete tile bad) s (fun t => freed t ∧ committed t o ∧
          t.acc tile slot ((clean o).halfOf b.bits ((clean o).orderBlocks o)) = (((clean o).acc tile slot ((clean o).halfOf b.bits ((clean o).orderBlocks o))).fold false
            ((clean o).foldTag o b ((clean o).halfOf b.bits ((clean o).orderBlocks o))) b.sums).1)) ∧
        (s.isSplit (woBin b.bits) = true → isCorr (woOp b.bits) = true →
          (needsSpill ((clean o).acc tile slot (half o)) b.peak b.k = true → (s.tile tile).spill = none →
            Completes (.foldComplete tile bad) s (fun t => (t.tile tile).spill = some i ∧ { o with phase := .spilling } ∈ t.xarray.orders ∧
              t.reg 0x3400 9 = wrapAdd64 (s.reg 0x3400 9) 1)) ∧
          (∀ j, needsSpill ((clean o).acc tile slot (half o)) b.peak b.k = true → (s.tile tile).spill = some j →
            Completes (.foldComplete tile bad) s (fun t => t.xarray.tiles = s.xarray.tiles ∧ { o with phase := .spilling } ∈ t.xarray.orders ∧
              t.xarray.bins = (clean o).xarray.bins)) ∧
          (needsSpill ((clean o).acc tile slot (half o)) b.peak b.k = false → Completes (.foldComplete tile bad) s (fun t => freed t ∧ committed t o))) ∧
        (s.isSplit (woBin b.bits) = true → isCorr (woOp b.bits) = false → Completes (.foldComplete tile bad) s (fun t => freed t ∧ committed t o ∧
          (t.acc tile slot 0).invalid = true ∧ (t.acc tile slot 1).invalid = true ∧ t.reg 0x3400 0x0B = satAdd32 (s.reg 0x3400 0x0B) 1)))) ∧
    ((s.tile tile).spill = some i → i < (s.tile tile).banks.length → s.reg (0x2200 + tile) 2 < 256 →
      (∀ o, s.bankCurrent tile b = some o → Completes (.spillComplete tile bad) s (fun t => freed t ∧ (t.tile tile).spill = none ∧ committed t o)) ∧
      (s.bankCurrent tile b = none → Completes (.spillComplete tile bad) s (fun t => freed t ∧ (t.tile tile).spill = none ∧
        t.reg 0x3000 7 = wrapAdd64 (s.reg 0x3000 7) 1)))

/-- WORK_ORDER_COMPLETE and WEIGHT_LOAD (R131, R146, R197): the oldest committed work order of a Jig leaves the X-array and is counted, but a report under an old
placement epoch is rejected and counted, and made again (log 53); a tile that owes a load takes each block of its group's weights into its slots, read with every
channel ONLINE; an unplaced logical tile goes on owing it.
RETEST and RETEST_COMPLETE (R151): a FAILED tile may be retested once at a time; one that passes is SPARE again, its shims as they were (R144), and one that does
not has cause 06h. -/
def Obligations.OrdersReportAndTilesAreRetested : Prop :=
  (∀ (s : State),
      (∀ bay o, bay < 4 → s.xarray.orders.find? (fun o => o.bay = bay && o.phase = .done) = some o →
        (o.epoch = s.placeEpoch o.lam → Completes (.workOrderComplete bay) s (fun t => t.xarray.orders = s.xarray.orders.filter (fun x => x.id ≠ o.id) ∧
          t.reg (0x3010 + bay) 8 = wrapAdd64 (s.reg (0x3010 + bay) 8) 1 ∧ t.reg 0x3000 7 = s.reg 0x3000 7)) ∧
        (o.epoch ≠ s.placeEpoch o.lam → Completes (.workOrderComplete bay) s (fun t => { o with epoch := s.placeEpoch o.lam } ∈ t.xarray.orders ∧
          t.reg (0x3010 + bay) 8 = s.reg (0x3010 + bay) 8 ∧ t.reg 0x3000 7 = wrapAdd64 (s.reg 0x3000 7) 1))) ∧
      (∀ lam l p, lam < 256 → s.xarray.loads.find? (fun l => l.lam = lam) = some l →
        s.xarray.orders.any (fun o => o.lam = lam && isBeam (woOp o.bits) && o.phase ≠ .done &&
          (o.phase ≠ .queued || (match o.half with | some h => decide (h.sc < l.sc) | none => false))) = false →
        s.tileOf lam = some p → s.fenced p = false →
        Completes (.weightLoad lam) s (fun t => t.xarray.loads = s.xarray.loads.erase l ∧
          (s.dramSteady → ∀ r, r < (s.dom (0x3880 + l.group) 1).length / 8192 →
            t.slotContent p (s.reg (0x3810 + l.group) 5 + r) = s.loadZ (s.weightAddr l.group false + 8192 * r) 8192)) ∧
        (s.xarray.loads.any (fun l => l.lam = lam) = true → s.tileOf lam = none → exec (.weightLoad lam) s = .next s))) ∧
  (∀ (s : State) (tile : Nat), tile < 272 →
      (∀ sess, s.letsCmd sess (0x2200 + tile) 6 → s.reg (0x2200 + tile) 1 = 2 → s.xarray.retests.contains tile = false →
        Completes (.retest sess tile) s (fun t => t.xarray.retests = s.xarray.retests ++ [tile])) ∧
      (s.xarray.retests.contains tile = true →
        Completes (.retestComplete tile false) s (fun t => t.reg (0x2200 + tile) 5 = 6 ∧ t.xarray.retests = s.xarray.retests.filter (fun g => g ≠ tile)) ∧
        (s.reseatsOf (tile / 68) = [] → tile / 68 < s.xarray.reseats.length → Completes (.retestComplete tile true) s (fun t =>
          t.reg (0x2200 + tile) 1 = 1 ∧ t.reg (0x2200 + tile) 2 = 0xFF ∧ t.reg (0x2200 + tile) 5 = 0 ∧ t.xarray.tiles = s.xarray.tiles ∧
          t.xarray.retests = s.xarray.retests.filter (fun g => g ≠ tile)))))

/-- RESIDUE_MISMATCH, TILE_FAIL and RESEAT_COMPLETE (R143 to R150): a first mismatch takes a spare cell and replays the pass; a tile with none left fails; a tile
that fails is fenced and its logical tile waits for the lowest SPARE tile, or is left unplaced; a re-seat ends with the placement on the new tile. -/
def Obligations.TilesFailAndReseat : Prop :=
  ∀ (s : State) (tile : Nat), tile < 272 →
    let bay := tile / 68
    (∀ lam o, s.serves tile = some lam → s.running lam = some o → woOp o.bits ≤ 5 →
      ((s.tile tile).spareCells ≠ 0 → o.shim = false → Completes (.residueMismatch tile) s (fun t =>
        (t.tile tile).spareCells = (s.tile tile).spareCells - 1 ∧ { o with shim := true } ∈ t.xarray.orders ∧ t.reg 0x3000 6 = wrapAdd64 (s.reg 0x3000 6) 1)) ∧
      ((s.tile tile).spareCells = 0 → bay < s.board.bays → exec (.residueMismatch tile) s = exec (.tileFail tile 1) s) ∧
      ((s.tile tile).spareCells ≠ 0 → o.shim = true → bay < s.board.bays → exec (.residueMismatch tile) s = exec (.tileFail tile 2) s)) ∧
    (∀ cause, 1 ≤ cause → cause ≤ 7 → bay < s.board.bays → s.reseatsOf bay = [] → bay < s.xarray.reseats.length →
      (∀ lam, s.serves tile = some lam → lam < 256 →
        (∀ q qs, s.tilesIn bay 1 = q :: qs → Completes (.tileFail tile cause) s (fun t => t.reseatsOf bay = [⟨lam, tile, cause, some q⟩] ∧
          t.fenced tile = true ∧ t.reg (0x2100 + bay) 6 = 1 ∧ t.placeEpoch lam = (s.placeEpoch lam + 1) % 256)) ∧
        (s.tilesIn bay 1 = [] → Completes (.tileFail tile cause) s (fun t => t.reseatsOf bay = [] ∧ t.reg (0x2100 + bay) 6 = 0 ∧
          t.reg (0x2200 + tile) 1 = 2 ∧ t.reg (0x2200 + tile) 5 = cause ∧ t.placement lam = 0x7F))) ∧
      (s.reg (0x2200 + tile) 1 = 1 → Completes (.tileFail tile cause) s (fun t =>
        t.reg (0x2200 + tile) 1 = 2 ∧ t.reg (0x2200 + tile) 2 = 0xFF ∧ t.reg (0x2200 + tile) 5 = cause))) ∧
    (∀ k r q, k < 4 → k < s.xarray.reseats.length → s.reseatsOf k = [r] → r.target = some q → q < 272 → r.lam < 256 → r.source ≠ q →
      (r.source < 272 → (s.tile r.source).spill = none) →
      Completes (.reseatComplete k) s (fun t => t.reseatsOf k = [] ∧ t.reg (0x2100 + k) 6 = 0 ∧ t.reg (0x2200 + q) 1 = 0 ∧
        t.reg (0x2200 + q) 2 = r.lam % 64 ∧ t.placement r.lam = q % 68 ∧ t.reg 0x3000 8 = satAdd32 (s.reg 0x3000 8) 1 ∧
        (r.source < 272 → t.reg (0x2200 + r.source) 1 = 2 ∧ t.reg (0x2200 + r.source) 5 = r.cause)))

/-- DUMP_RECORD_STAGED, RECORD_FRAGMENTS_SEND and FORMAT_RECORD (R168, R169, R188, R198, R200): a record the arbiter chooses takes a staging slot and its record
number, or is dropped and counted; the oldest staged record of a stream, once the stream can take it (R59), becomes its fragments, or goes through the beam group
bound to it, where one too late for its sums is not counted as formatted (R202, R211).
What holds a record in its dump path is the model's reading (log 30). -/
def Obligations.RecordsAreStagedAndSent : Prop :=
  ∀ (s : State),
    (∀ bad r, s.nextDump = some r →
      let numbered := fun (t : State) => lookup t.xarray.recno r.stream = some ((s.recordNumber r.stream + 1) % 2 ^ 64)
      (s.discardsDump r = true → Completes (.dumpRecordStaged bad) s (fun t => t.xarray.staged = s.xarray.staged ∧ numbered t ∧
        t.reg 0x3400 0x0D = wrapAdd64 (s.reg 0x3400 0x0D) 1)) ∧
      (∀ slot, s.discardsDump r = false → s.freeSlot = some slot → Completes (.dumpRecordStaged bad) s (fun t =>
        t.xarray.staged = s.xarray.staged ++ [⟨slot, r.stream, r.cls, r.words.length⟩] ∧ numbered t)) ∧
      (s.discardsDump r = false → s.freeSlot = none → exec (.dumpRecordStaged bad) s = .next s)) ∧
    (∀ stream r, stream < 256 → s.registrationStream stream = false → s.oldestStaged stream = some r →
      let ws := s.stagedWords r
      let sc := s.recordSc ws
      let freed := fun (t : State) => t.xarray.staged = s.xarray.staged.filter (fun e => e.slot ≠ r.slot)
      let tri := s.isTriangle stream ws
      (s.turn stream = .discard → Completes (.recordFragmentsSend stream) s (fun t => freed t ∧ t.reg 0x3400 0x0D = wrapAdd64 (s.reg 0x3400 0x0D) 1)) ∧
      (s.turn stream = .wait → exec (.recordFragmentsSend stream) s = .next s) ∧
      (s.turn stream = .send → s.boundGroup stream sc = none → (s.stream stream).ready = [] → Completes (.recordFragmentsSend stream) s (fun t =>
        t.xarray.staged = s.xarray.staged ∧ (t.stream stream).ready = fragments tri (if tri then triangleWords ws else ws) ∧
        (t.stream stream).slot = some (r.slot, (t.stream stream).ready.length))) ∧
      (s.turn stream = .send → s.boundGroup stream sc = none → (s.stream stream).ready ≠ [] → exec (.recordFragmentsSend stream) s = .next s) ∧
      (∀ g mode, s.boundGroup stream sc = some (g, mode) →
        (s.turn stream = .discard → Completes (.formatRecord stream) s (fun t => freed t ∧ t.reg 0x3400 0x0D = wrapAdd64 (s.reg 0x3400 0x0D) 1)) ∧
        (s.turn stream = .wait → exec (.formatRecord stream) s = .next s) ∧
        (s.turn stream = .send → (s.stream stream).ready ≠ [] → exec (.formatRecord stream) s = .next s) ∧
        (s.turn stream = .send → (s.stream stream).ready = [] → s.reg 0x3800 2 ≠ stOn → Completes (.formatRecord stream) s (fun t => freed t ∧
          t.reg 0x3800 8 = satAdd32 (s.reg 0x3800 8) 1 ∧ t.sheaf = s.sheaf)) ∧
        (s.turn stream = .send → (s.stream stream).ready = [] → s.reg 0x3800 2 = stOn →
          (recInvalid ws = true ∨ (bitAt (recWord ws 0) 5 = false ∧ isBeam (bits (recWord ws 0) 15 12) = true)) →
          Completes (.formatRecord stream) s (fun t => freed t ∧
            (mode ≠ 2 ∨ s.lateRecord g sc ws = false → t.reg (0x3810 + g) 0x0A = wrapAdd64 (s.reg (0x3810 + g) 0x0A) 1) ∧
            (mode = 2 → s.lateRecord g sc ws = true → t.reg (0x3810 + g) 0x0A = s.reg (0x3810 + g) 0x0A ∧ t.reg 0x3800 8 = satAdd32 (s.reg 0x3800 8) 1) ∧
            (mode = 1 → t.reg 0x3800 4 = wrapAdd64 (s.reg 0x3800 4) 1 ∧ (t.stream stream).ready =
              [(voltagePacket g (s.regAt (0x3810 + g) 6 sc) (s.reg 0x2800 5) 0 ws).1, (voltagePacket g (s.regAt (0x3810 + g) 6 sc) (s.reg 0x2800 5) 1 ws).1])))))

/-! ## Winnow (chapters 6 and 10) -/

/-- WINNOW_SERVICE, WINNOW_OUTPUT and SCALER_GROUP_SEND (R206, R207, R313 to R317, R322, R324, R326): each cycle, while the engine is ON and until its scalers and its round are done
after a disable, serves one channel, which carries its queued value into its filter; a value that comes out meets its monitor slot's threshold; a closed group of a scaler leaves as its packets, once the
ones before have left (R59). -/
def Obligations.WinnowServesItsChannels : Prop :=
  ∀ (s : State),
    (s.winnowServes = false → exec .winnowService s = .next s) ∧
    (s.winnowOn = true ∨ (s.reg 0x4800 2 = stDisabling ∧ ((∃ x, x < 8 ∧ s.reg (0x4880 + x) 2 ≠ stOff) ∨ s.winnow.cycle % 64 ≠ 0)) →
      let c := s.winnow.cycle % 64
      let u := s.winUser c
      Completes .winnowService s (fun t => t.winnow.cycle = s.winnow.cycle + 1 ∧ t.reg 0x4800 3 = (s.winnow.cycle + 1) / 64) ∧
      (∀ v x r, u < 64 → c < s.winnow.channels.length → (s.win c).queue = [v] → s.winCarry c { s.win c with queue := [] } v = (x, r) →
        Completes .winnowService s (fun t => t.win c = x ∧ t.winnow.outputs = s.winnow.outputs ++ (r.map (fun y => ⟨c, y⟩)).toList ∧
          t.reg (0x4810 + c) 6 = if r.isSome then wrapAdd64 (s.reg (0x4810 + c) 6) 1 else s.reg (0x4810 + c) 6)) ∧
      (∀ k l, k < 8 → u = 0x100 + k → k < s.winnow.scalers.length → (s.scaler k).current = some l → (s.scaler k).taken + 64 < l.pixels.length →
        Completes .winnowService s (fun t => (t.scaler k).taken = (s.scaler k).taken + 64 ∧ (t.scaler k).current = some l))) ∧
    (∀ o rest, s.winnow.outputs = o :: rest →
      let j := s.winUser o.channel
      let i := 0x3900 + j
      let y := o.value
      (64 ≤ j → exec .winnowOutput s = .next { s with winnow := { s.winnow with outputs := rest } }) ∧
      (j < 64 → s.reg i 2 = stOn → s.reg i 0x0A = 0 →
        (s.reg i 6 < y.v → Completes .winnowOutput s (fun t => t.winnow.outputs = rest ∧ t.reg i 0x0C = y.v ∧
          t.reg i 0x0B = satAdd32 (s.reg i 0x0B) 1 ∧ t.reg i 0x0A = (if s.reg i 8 = 0 then 2 else 1) ∧
          t.dowel.fired = s.dowel.fired ++ [⟨0x40 + j, (s.reg i 3 * 256 + s.reg i 4) % 2 ^ 16,
            ofSigned 64 ((y.sc : Int) - (((s.delayX2 (s.reg i 5) + 1) / 2 * y.period : Nat) : Int)), 0, 0, s.time.tclk⟩])) ∧
        (y.v ≤ s.reg i 6 → Completes .winnowOutput s (fun t => t.winnow.outputs = rest ∧ t.reg i 0x0C = y.v ∧ t.reg i 0x0A = 0 ∧
          t.reg i 0x0B = s.reg i 0x0B ∧ t.dowel = s.dowel))) ∧
      (j < 64 → s.reg i 2 = stOn → s.reg i 0x0A = 2 → Completes .winnowOutput s (fun t => t.winnow.outputs = rest ∧ t.reg i 0x0C = y.v ∧
        t.reg i 0x0A = (if y.v ≤ s.reg i 6 - s.reg i 7 then 0 else 2)))) ∧
    (∀ x g rest, x < 8 → x < s.winnow.scalers.length → (s.scaler x).ready = g :: rest →
      let stream := s.reg (0x4880 + x) 0x0C
      ((s.stream stream).ready ≠ [] → exec (.scalerGroupSend x) s = .next s) ∧
      ((s.stream stream).ready = [] → Completes (.scalerGroupSend x) s (fun t => (t.scaler x).ready = rest ∧ t.reg (0x4880 + x) 0x0D = wrapAdd64 (s.reg (0x4880 + x) 0x0D) 1 ∧
        (s.reg (0x2700 + stream) 1 ≠ 0xFF → (t.stream stream).ready = s.groupPackets x g))))

/-! ## Inspection (chapters 7 and 8) -/

/-- LINE_CLOCK_EDGE, PIXEL_PACKET_RX, STAGE_B_LINE and STATS_RECORD_FORMED (R213, R216 to R219, R221, R231, R234, R235): an edge takes the next line index; the
pixel packets that have arrived are tested in order, one that fails a test of R217 only counts there, and one that passes enters its line if its camera's share
of the raw input buffer has room; stage A takes one packet; stage B takes the next output line of the camera whose turn it is; a closed statistics record is formed.
The minimum and maximum of a record with no pixel are free values (log 33). -/
def Obligations.LinesAndPixelsArrive : Prop :=
  ∀ (s : State),
    (∀ g rest, s.pos.gen.feed = g :: rest →
      let i := s.pos.gen.nextLine
      (s.reg 0x4000 2 = stOff → Completes .lineClockEdge s (fun t => t.pos.gen.feed = rest ∧ t.pos.gen.nextLine = i + 1 ∧ t.insp = s.insp)) ∧
      (s.reg 0x4000 2 ≠ stOff → Completes .lineClockEdge s (fun t => t.pos.gen.feed = rest ∧ t.pos.gen.nextLine = i + 1 ∧
        t.latestEdge = some ⟨i, g.sc, g.tb0, g.position, g.balls⟩ ∧ t.reg 0x4000 8 = i ∧ t.reg 0x4000 9 = i / s.frameLen % 2 ^ 32 ∧
        (s.reg 0x4000 2 = stEnabling → t.reg 0x4000 2 = stOn)))) ∧
    (exec .pixelPacketRx s = .next ((s.sheaf.pixels.foldl State.pixelPacket { s with sheaf := { s.sheaf with pixels := [] } }).stageATurn)) ∧
    (∀ p, p.stream < s.insp.front.cams.length →
      let counted := fun (i a : Nat) => s.pixelPacket p = s.setReg i a (satAdd32 (s.reg i a) 1)
      let c := p.stream
      let w1 := p.words.getD 1 0
      let first := 64 * bits w1 8 0
      let count := 64 * (p.words.length - 2) / depthOf (s.reg (0x4010 + c) 5)
      let meets := fun (e : EdgeRec) => match s.camLine c e.index with
        | some x => (nthD [] x.rows (bits w1 23 23)).any (fun g => rangesMeet g.1 g.2.length first count)
        | none => false
      (¬s.pixelTaken p → counted 0x2401 1) ∧
      (s.pixelTaken p → ¬s.pixelShape p → counted 0x4001 2) ∧
      (s.pixelTaken p → s.pixelShape p → s.matchEdge c (p.words.getD 0 0) = none → counted 0x4001 1) ∧
      (∀ e, s.pixelTaken p → s.pixelShape p → s.matchEdge c (p.words.getD 0 0) = some e →
        (s.lineClosed c e.index = true → counted 0x4001 3) ∧
        (s.lineClosed c e.index = false → meets e = true → counted 0x4001 4) ∧
        (s.lineClosed c e.index = false → meets e = false →
          let t := s.pixelPacket p
          let fits := s.rawHeld c + 8 * (p.words.length - 2) ≤ s.rawShare c
          t.reg (0x4010 + c) 0x0F = bits w1 31 24 ∧ t.reg (0x4010 + c) 0x0D = 1 ∧
          (fits → (t.camLine c e.index).isSome = true ∧ t.rawHeld c = s.rawHeld c + 8 * (p.words.length - 2) ∧ t.reg 0x4001 8 = s.reg 0x4001 8) ∧
          (¬fits → t.insp = s.insp ∧ t.reg 0x4001 8 = satAdd32 (s.reg 0x4001 8) 1)))) ∧
    (∀ p rest, s.insp.front.raw = p :: rest → rest.all (fun q => q.cam = p.cam) = true → p.cam < 16 → s.sheaf.pixels = [] →
      Completes .pixelPacketRx s (fun t => t.insp.front.raw = rest ∧ t.insp.front.ptrA = (p.cam + 1) % 16)) ∧
    (∀ c, c < 16 → s.outReady c = false → exec (.stageBLine c) s = .next s) ∧
    (∀ c j, c < 16 → j < 16 → s.outReady j = true → (j + 16 - s.insp.front.ptrB % 16) % 16 < (c + 16 - s.insp.front.ptrB % 16) % 16 →
      exec (.stageBLine c) s = .next s) ∧
    (∀ c, c < 16 → c < s.insp.front.cams.length →
      (s.outReady c = true → (∀ j, j < 16 → s.outReady j = true → (c + 16 - s.insp.front.ptrB % 16) % 16 ≤ (j + 16 - s.insp.front.ptrB % 16) % 16) →
        Completes (.stageBLine c) s (fun t => (t.cam c).nextOut = (s.cam c).nextOut + 1 ∧ t.insp.front.ptrB = (c + 1) % 16 ∧
          t.reg (0x4010 + c) 0x0B = wrapAdd64 (s.reg (0x4010 + c) 0x0B) 1)) ∧
      (∀ a rest e, (s.cam c).ready = a :: rest → s.latestEdge = some e →
        ((a.frame + 1) * s.frameLen ≤ e.index → Completes (.statsRecordFormed c) s (fun t => (t.cam c).ready = rest ∧ s.firesLast t 0x80 c)) ∧
        (e.index < (a.frame + 1) * s.frameLen → exec (.statsRecordFormed c) s = .next s)))

/-- FRAME_SLOT_FILLED, FRAME_HOLD, FRAME_SLOT_RELEASE and STITCHED_LINE (R236 to R238, R247, R251): a slot whose last line is written is FILLED, or HELD where a
hold waits; a hold of a slot being written waits, and one of a FILLED slot holds it; a HELD slot may be released; the next line is stitched once every slot can
supply it. -/
def Obligations.FramesAreStoredAndStitched : Prop :=
  ∀ (s : State),
    (∀ k, (s.slotsIn 1).find? (fun k => s.reg (0x40C0 + k) 6 = s.frameLen) = some k → Completes .frameSlotFilled s (fun t =>
      t.reg (0x40C0 + k) 1 = (if s.insp.front.holds.contains k then 3 else 2) ∧ k ∉ t.insp.front.holds ∧ ∀ f, t.insp.front.writing ≠ some (k, f))) ∧
    ((s.slotsIn 1).find? (fun k => s.reg (0x40C0 + k) 6 = s.frameLen) = none → exec .frameSlotFilled s = .next s) ∧
    (∀ sess k, k < 64 → k < s.reg 0x4000 0x0E →
      (s.letsCmd sess (0x40C0 + k) 4 →
        (s.reg (0x40C0 + k) 1 = 1 → Completes (.frameHold sess (some k)) s (fun t => k ∈ t.insp.front.holds ∧ t.reg (0x40C0 + k) 1 = 1)) ∧
        (s.reg (0x40C0 + k) 1 = 2 → Completes (.frameHold sess (some k)) s (fun t => t.reg (0x40C0 + k) 1 = 3))) ∧
      (s.letsCmd sess (0x40C0 + k) 5 → s.reg (0x40C0 + k) 1 = 3 → Completes (.frameSlotRelease sess k) s (fun t => t.reg (0x40C0 + k) 1 = 2))) ∧
    (∀ sess k f, (s.held 0x310).isSome = true → s.insp.front.writing = some (k, f) → Completes (.frameHold sess none) s (fun t =>
      k ∈ t.insp.front.holds ∧ t.regs = s.regs ∧ (t.input 0x310).held = (s.input 0x310).queued)) ∧
    (∀ e, s.dove.running = true → s.edgeOf s.dove.next = some e →
      let l := s.dove.next
      let u := if l % s.frameLen = 0 then s.doveBoundary (l / s.frameLen) s.dove.fresh else s
      (u.slots.all (fun k => u.slotReady k l) = true → Completes .stitchedLine s (fun t => t.dove.next = l + 1 ∧
        t.reg 0x4400 0x11 = wrapAdd64 (u.reg 0x4400 0x11) 1 ∧ (u.dove.lastLine = some l → t.dove.running = false ∧ t.dove.round = none))) ∧
      (u.slots.all (fun k => u.slotReady k l) = false → exec .stitchedLine s = .next s))

/-- REG_READY, REG_RECORD_TAKE, DOVE_SHIFT, CLEAR_CORR and GLEANER_LINE (R253, R255 to R258, R261, R270): a round whose lines have all left stage B is written; a
staged registration record is copied, and another on that stream counts; an update block read in time sets its passing pairs and a late one only counts; a
correction is cleared at the next frame; Gleaner takes the next stitched line, and stops after the last of its frame when it is being disabled. -/
def Obligations.RegistrationAndGleaner : Prop :=
  ∀ (s : State),
    (∀ r, s.dove.round = some r → r.written = false →
      (∀ k ∈ s.slots, s.supplies (s.slotCam k) (r.lastFor k) = true → r.lastFor k < (s.cam (s.slotCam k)).nextOut) →
      Completes .regReady s (fun t => t.dove.round = some { r with written := true } ∧ s.fires t 0x82 r.frame)) ∧
    (∀ x, s.reg 0x4400 2 ≠ stOff → s.reg 0x4400 7 ≠ 0xFF → s.oldestStaged (s.reg 0x4400 7) = some x →
      let w0 := recWord (s.stagedWords x) 0
      let good := bits w0 15 12 = 5 ∧ bits w0 27 16 + 1 < s.slots.length ∧ bits w0 41 35 = 0 ∧ 1 ≤ bits w0 34 28 ∧ bits w0 34 28 ≤ 31
      let freed := fun (t : State) => t.xarray.staged = s.xarray.staged.filter (fun e => e.slot ≠ x.slot)
      (good → Completes .regRecordTake s (fun t => freed t ∧ ∀ r, s.dove.round = some r → ∃ q, t.dove.round = some q ∧ q.copied = r.copied + 1)) ∧
      (¬good → Completes .regRecordTake s (fun t => freed t ∧ t.reg 0x4400 0x15 = satAdd32 (s.reg 0x4400 0x15) 1 ∧ t.dove = s.dove))) ∧
    (s.reg 0x4400 2 = stOff ∨ s.reg 0x4400 7 = 0xFF → exec .regRecordTake s = .next s) ∧
    ((s.held 0x311).isSome = true → s.reg 0x4400 2 ≠ stOff →
      let blk := s.loadZ (s.reg 0x4400 0x0C) 256
      let f := field blk 0 4
      let inTime := fun (r : Round) (e : EdgeRec) => r.complete = true ∧ f = r.frame % 2 ^ 32 ∧ e.index < (r.frame + 1) * s.frameLen
      (∀ r e, s.dove.round = some r → s.latestEdge = some e → inTime r e → Completes .doveShift s (fun t => t.reg 0x4400 0x14 = s.reg 0x4400 0x14 ∧
        ∀ p, p + 1 < s.slots.length → s.pairPasses blk p = true →
          (⟨r.frame + 1, p + 1, (r.start.getD (p + 1) (0, 0)).1 + toSigned 32 (field blk (16 + 16 * p) 4),
            (r.start.getD (p + 1) (0, 0)).2 + toSigned 16 (field blk (20 + 16 * p) 2), false⟩ : CorrUpdate) ∈ t.dove.updates)) ∧
      ((∀ r e, s.dove.round = some r → s.latestEdge = some e → ¬inTime r e) → Completes .doveShift s (fun t => t.dove = s.dove ∧ s.firesLast t 0x84 f ∧
        t.reg 0x4400 0x14 = satAdd32 (s.reg 0x4400 0x14) 1))) ∧
    (∀ sess k, k < 16 → s.letsCmd sess (0x4410 + k) 11 → k ≠ 0 → s.slots.contains k = true → Completes (.clearCorr sess k) s (fun t =>
      t.dove.updates = s.dove.updates ++ [⟨match s.latestEdge with | some e => e.index / s.frameLen + 1 | none => 0, k, 0, 0, true⟩])) ∧
    (∀ ln rest, s.glean.queue = ln :: rest →
      ((s.gleanEnding = true ∧ ln.line % s.frameLen + 1 = s.frameLen) → Completes .gleanerLine s (fun t =>
        t.glean.queue = [] ∧ t.glean.running = false ∧ t.glean.blobs = [] ∧ t.reg 0x4480 0x14 = 0)) ∧
      (¬(s.gleanEnding = true ∧ ln.line % s.frameLen + 1 = s.frameLen) → Completes .gleanerLine s (fun t =>
        t.glean.queue = rest ∧ t.glean.running = s.glean.running ∧ t.reg 0x4480 0x14 = t.glean.blobs.length)))

/-! ## DSP cores (chapter 9) -/

/-- CMUL, CMULJ, CMAC, CMACJ, CMSU, CMAG, CBFLY, ACLR, MVA and MVA2 (R281, R282, R287, R291, R298): what the accumulators hold for the next bundle, which write is
queued, and what a poisoned operand and a clamp do; a move shifts, rounds and saturates. -/
def Obligations.DspAccumulates : Prop :=
  ∀ (s : State) (n w : Nat) (c : DspCore),
    let x := c.dv (fX w)
    let y := c.dv (fY w)
    let z := c.dv (fZ w)
    let o := c.acc (w % 2)
    let bad := c.poisoned (fX w) || c.poisoned (fY w)
    let ac := fun (i : Instr) (re im : Int) (p : Bool) => Completes i s (fun t => c.acResult (t.core n) (w % 2) re im p)
    (s.atA n 0x01 w c → ac (.cmul n) (cMul x y).1 (cMul x y).2 bad) ∧
    (s.atA n 0x02 w c → ac (.cmulj n) (cMulConj x y).1 (cMulConj x y).2 bad) ∧
    (s.atA n 0x03 w c → ac (.cmac n) (o.re + (cMul x y).1) (o.im + (cMul x y).2) (bad || o.poison)) ∧
    (s.atA n 0x04 w c → ac (.cmacj n) (o.re + (cMulConj x y).1) (o.im + (cMulConj x y).2) (bad || o.poison)) ∧
    (s.atA n 0x05 w c → ac (.cmsu n) (o.re - (cMul x y).1) (o.im - (cMul x y).2) (bad || o.poison)) ∧
    (s.atA n 0x06 w c → ac (.cmag n) (o.re + cRe x * cRe x + cIm x * cIm x) o.im (c.poisoned (fX w) || o.poison)) ∧
    (s.atA n 0x07 w c → Completes (.cbfly n) s (fun t =>
      let p := cMul y z
      let b := bad || c.poisoned (fZ w)
      let v0 := accValue (cRe x * 2 ^ 15 + p.1) (cIm x * 2 ^ 15 + p.2) b
      let v1 := accValue (cRe x * 2 ^ 15 - p.1) (cIm x * 2 ^ 15 - p.2) b
      c.wrote (t.core n) [⟨c.bundle + 2, false, .ac 0 v0⟩, ⟨c.bundle + 2, false, .ac 1 v1⟩] ∧
        (t.core n).ac = modNth (fun _ => v1) (modNth (fun _ => v0) c.ac 0) 1)) ∧
    (s.atA n 0x08 w c → Completes (.aclr n) s (fun t =>
      (bitAt w 1 = false → c.wrote (t.core n) [⟨c.bundle + 2, false, .ac (w % 2) DspAcc.zero⟩] ∧ (t.core n).ac = modNth (fun _ => DspAcc.zero) c.ac (w % 2)) ∧
      (bitAt w 1 = true → c.wrote (t.core n) [⟨c.bundle + 2, false, .ac 0 DspAcc.zero⟩, ⟨c.bundle + 2, false, .ac 1 DspAcc.zero⟩] ∧
        (t.core n).ac = modNth (fun _ => DspAcc.zero) (modNth (fun _ => DspAcc.zero) c.ac 0) 1))) ∧
    (s.atA n 0x09 w c → Completes (.mva n) s (fun t =>
      let r := c.moved w (w % 2)
      let p := (c.accOut (w % 2)).poison
      ((bitAt w 4 && !bitAt w 5 && !p) = false → c.dResult (t.core n) 2 w r.1 p r.2) ∧
      ((bitAt w 4 && !bitAt w 5 && !p) = true → c.wrote (t.core n)
        [⟨c.bundle + 1, false, .cr 0x0B (min c.bxm (min (headroom (cRe r.1)) (headroom (cIm r.1))))⟩, ⟨c.bundle + 2, false, .d (fD w) r.1 false⟩]))) ∧
    (s.atA n 0x0A w c → bitAt w 4 = false → Completes (.mva2 n) s (fun t =>
      let d := fun i => if (c.accOut i).poison then (0 : Word32) else (c.moved w i).1
      c.wrote (t.core n) [⟨c.bundle + 2, false, .d (fD w) (d 0) (c.accOut 0).poison⟩, ⟨c.bundle + 2, false, .d (fD w + 1) (d 1) (c.accOut 1).poison⟩])) ∧
    (s.atA n 0x0A w c → bitAt w 4 = true → (c.accOut 0).poison = false → (c.accOut 1).poison = false → Completes (.mva2 n) s (fun t =>
      let r0 := (c.moved w 0).1
      let r1 := (c.moved w 1).1
      let room := fun (v : Word32) => min (headroom (cRe v)) (headroom (cIm v))
      c.wrote (t.core n) [⟨c.bundle + 1, false, .cr 0x0B (min (min c.bxm (room r0)) (room r1))⟩, ⟨c.bundle + 2, false, .d (fD w) r0 false⟩,
        ⟨c.bundle + 2, false, .d (fD w + 1) r1 false⟩]))

/-- CADD, CSUB, CCONJ, BEXD, BEXS, the integer operations, the shifts, the immediates, CMP, MUL and DIV (R283, R284, R287, R291, R298): the D result or flag that the
next bundle sees, and the divider's result 18 bundles on. -/
def Obligations.DspComputes : Prop :=
  ∀ (s : State) (n w : Nat) (c : DspCore),
    let x := c.dv (fX w)
    let y := c.dv (fY w)
    let res := fun (i : Instr) (k : Nat) (v : Word32) (p : Bool) => Completes i s (fun t => c.dResult (t.core n) k w v p false)
    let cplx := fun (i : Instr) (re im : Int) (p : Bool) => Completes i s (fun t => c.complexSum (t.core n) w re im p)
    let sh := if bitAt w 9 then bits w 4 0 else y.toNat % 32
    let shBad := if bitAt w 9 then c.poisoned (fX w) else c.badXY w
    (s.atA n 0x0B w c → cplx (.cadd n) (cRe x + cRe y) (cIm x + cIm y) (c.badXY w)) ∧
    (s.atA n 0x0C w c → cplx (.csub n) (cRe x - cRe y) (cIm x - cIm y) (c.badXY w)) ∧
    (s.atA n 0x0D w c → cplx (.cconj n) (cRe x) (-cIm x) (c.poisoned (fX w))) ∧
    (s.atA n 0x0E w c → Completes (.bexd n) s (fun t => c.wrote (t.core n) [⟨c.bundle + 1, false, .cr 0x0B
      ((((if bitAt w 0 then [fX w, fY w] else [fX w]).filter (fun r => !c.poisoned r)).map c.dv).foldl
        (fun a v => min a (min (headroom (cRe v)) (headroom (cIm v)))) c.bxm)⟩])) ∧
    (s.atA n 0x0F w c → Completes (.bexs n) s (fun t => c.wrote (t.core n) [⟨c.bundle + 1, false, .cr 0x0C (bits w 1 0 - c.bxm)⟩,
      ⟨c.bundle + 1, false, .cr 0x0D (min (c.bexp + (bits w 1 0 - c.bxm)) 255)⟩, ⟨c.bundle + 1, false, .cr 0x0B 15⟩])) ∧
    (s.atA n 0x10 w c → res (.addD n) 1 (x + y) (c.badXY w)) ∧
    (s.atA n 0x11 w c → res (.subD n) 1 (x - y) (c.badXY w)) ∧
    (s.atA n 0x12 w c → res (.andD n) 1 (x &&& y) (c.badXY w)) ∧
    (s.atA n 0x13 w c → res (.orD n) 1 (x ||| y) (c.badXY w)) ∧
    (s.atA n 0x14 w c → res (.xorD n) 1 (x ^^^ y) (c.badXY w)) ∧
    (s.atA n 0x15 w c → res (.shl n) 1 (x <<< sh) shBad) ∧
    (s.atA n 0x16 w c → res (.asr n) 1 (x.sshiftRight sh) shBad) ∧
    (s.atA n 0x17 w c → res (.lsr n) 1 (x >>> sh) shBad) ∧
    (s.atA n 0x18 w c → res (.addi n) 1 (x + BitVec.ofInt 32 (toSigned 14 w)) (c.poisoned (fX w))) ∧
    (s.atA n 0x19 w c → res (.movi n) 1 (BitVec.ofInt 32 (toSigned 16 w)) false) ∧
    (s.atA n 0x1A w c → res (.movhi n) 1 (BitVec.ofNat 32 (w % 2 ^ 16 * 2 ^ 16 + (c.dv (fD w)).toNat % 2 ^ 16)) (c.poisoned (fD w))) ∧
    (s.atA n 0x1B w c → Completes (.cmpD n) s (fun t => c.wrote (t.core n)
      [⟨c.bundle + 1, false, .flag (fD w % 4) (!c.badXY w && cmpHolds (bits w 2 0) x y)⟩])) ∧
    (s.atA n 0x1C w c → res (.mulD n) 2 (x * y) (c.badXY w)) ∧
    (s.atA n 0x1D w c → c.div = none → Completes (.divD n) s (fun t => c.wrote (t.core n) [] ∧
      (t.core n).div = some ⟨c.bundle + 18, false, .d (fD w) (if c.badXY w then 0 else (dspDiv x y).1) (c.badXY w)⟩ ∧
      (t.core n).sr = (if c.badXY w then setBit c.sr srPsn else if (dspDiv x y).2 then setBit c.sr srDz else c.sr) ∧
      t.reg (0x5000 + n) 9 = wrapAdd64 (s.reg (0x5000 + n) 9) 0)) ∧
    (∀ p, s.atA n 0x1D w c → c.div = some p → Completes (.divD n) s (fun t =>
      let e := c.apply p.what
      (t.core n).div = some ⟨e.bundle + 18, false, .d (fD w) (if e.badXY w then 0 else (dspDiv (e.dv (fX w)) (e.dv (fY w))).1) (e.badXY w)⟩ ∧
      t.reg (0x5000 + n) 9 = wrapAdd64 (s.reg (0x5000 + n) 9) (p.due - c.bundle)))

/-- MOVC, MOVCW, MOVAR, MOVRA, EIDI, WAITE, SIGE, TRAP, HALT and the slot A NOP (R279, R287, R296, R298, R300, R303): control and address registers move; a reserved
selector or value traps; WAITE takes the events at its inputs or waits; SIGE fires its source.
BR, CALL, RET, RTI, REP and REPD (R286, R293, R294): a branch names its target for after two delay slots, and one not taken the bundle
after them; RTI also the SR to restore; a repeat holds its block and
count; REPD skips its block for a count of 0, and traps for one that is too large. -/
def Obligations.DspMovesEventsAndBranches : Prop :=
  (∀ (s : State) (n w : Nat) (c : DspCore),
      let x := c.dv (fX w)
      let sel := bits w 5 0
      let i := bits w 3 0
      let wr := fun (t : State) (v : RegWrite) => c.wrote (t.core n) [⟨c.bundle + 1, false, v⟩]
      let traps := fun (t : State) (cause code : Nat) => bitAt c.sr srExc = false → c.trap = none → (t.core n).trap = some ⟨cause, code, c.pc, 0, 0⟩
      (s.atA n 0x00 w c → Completes (.slotANop n) s (fun t => c.wrote (t.core n) [])) ∧
      (s.atA n 0x1E w c →
        (∀ v, (s.beginBundle n).crRead n sel = some v → Completes (.movc n) s (fun t => wr t (.d (fD w) (BitVec.ofNat 32 v) false) ∧
          (t.core n).cych = (if sel = 0x0E then c.cycl / 2 ^ 32 else c.cych))) ∧
        ((s.beginBundle n).crRead n sel = none → Completes (.movc n) s (fun t => traps t cIllegalCr 0))) ∧
      (s.atA n 0x1F w c →
        (crWritable sel x.toNat = true → Completes (.movcw n) s (fun t => wr t (.cr sel x.toNat))) ∧
        (crWritable sel x.toNat = false → Completes (.movcw n) s (fun t => traps t cIllegalCr 0))) ∧
      (s.atA n 0x20 w c → Completes (.movar n) s (fun t => wr t (.d (fD w) (if i < 8 then nthD 0 c.a i else nthD 0 c.m (i - 8)) false))) ∧
      (s.atA n 0x21 w c → Completes (.movra n) s (fun t => wr t (if i < 8 then .a i x else .m (i - 8) x))) ∧
      (s.atA n 0x2E w c → Completes (.eidi n) s (fun t => wr t (.ie (bitAt w 0)))) ∧
      (s.atA n 0x2F w c →
        let hit := s.dspIpr n &&& (w % 2 ^ 8)
        (hit = 0 → exec (.waite n) s = .next (s.setReg (0x5000 + n) 3 (if s.reg (0x5000 + n) 2 = stOn then dsWaiting else dsStopped))) ∧
        (hit ≠ 0 → Completes (.waite n) s (fun t => wr t (.d (fD w) (BitVec.ofNat 32 hit) false) ∧
          t.dspRun n = (if s.reg (0x5000 + n) 2 = stOn then dsRunning else dsStopped)))) ∧
      (s.atA n 0x30 w c → Completes (.sige n) s (fun t => c.wrote (t.core n) [] ∧ s.fires t (0x100 + 8 * n + bits w 1 0) 0)) ∧
      (s.atA n 0x31 w c → Completes (.trapD n) s (fun t => c.wrote (t.core n) [] ∧ traps t cSoft (bits w 3 0))) ∧
      (s.atA n 0x32 w c → Completes (.haltD n) s (fun t => c.wrote (t.core n) [] ∧ (t.core n).halting = true))) ∧
  (∀ (s : State) (n w : Nat) (c : DspCore),
      let aims := fun (t : State) (a : Nat) => (t.core n).branch = some (a % 2 ^ 13, 3) ∧ (t.core n).pc = c.pc
      let len := bits w 16 12 + 1
      let k := (c.dv (fD w)).toNat
      (s.atA n 0x28 w c →
        (c.cond (fD w) = true → Completes (.br n) s (fun t => aims t (bits w 12 0))) ∧
        (c.cond (fD w) = false → Completes (.br n) s (fun t => aims t (c.pc + 3)))) ∧
      (s.atA n 0x29 w c → Completes (.call n) s (fun t => aims t (bits w 12 0) ∧
        (t.core n).writes = c.writes ++ [⟨c.bundle + 1, false, .lr ((c.pc + 3) % 2 ^ 13)⟩])) ∧
      (s.atA n 0x2A w c → Completes (.ret n) s (fun t => aims t c.lr)) ∧
      (s.atA n 0x2B w c → Completes (.rti n) s (fun t => aims t c.epc ∧ (t.core n).rtiSr = some (c.esr &&& srWritable))) ∧
      (s.atA n 0x2C w c → Completes (.rep n) s (fun t => (t.core n).rep = some ⟨c.pc + 1, len, bits w 11 0, true⟩ ∧ (t.core n).pc = c.pc)) ∧
      (s.atA n 0x2D w c →
        (k = 0 → Completes (.repd n) s (fun t => (t.core n).skip = some (c.pc + 1 + len) ∧ (t.core n).rep = c.rep)) ∧
        (k ≠ 0 → k ≤ 4096 → k * len ≤ s.reg (0x5000 + n) 4 → Completes (.repd n) s (fun t => (t.core n).rep = some ⟨c.pc + 1, len, k - 1, true⟩ ∧
          (t.core n).skip = c.skip)) ∧
        (k ≠ 0 → (4096 < k ∨ s.reg (0x5000 + n) 4 < k * len) → bitAt c.sr srExc = false → c.trap = none →
          Completes (.repd n) s (fun t => (t.core n).skip = some (c.pc + 1 + len) ∧ (t.core n).rep = c.rep ∧
            (t.core n).trap = some ⟨cRepMax, 0, c.pc, 0, 0⟩))))

/-- The slot B operations (R289, R296, R297, R299): with its slot B operation a bundle ends. Loads queue their word for three bundles on, stores write data memory,
each addressing form post-modifies its register; an access that is misaligned, outside or uncorrectable traps; far accesses join those outstanding. -/
def Obligations.DspSlotB : Prop :=
  ∀ (s : State) (n w : Nat) (c : DspCore) (ecc : List Nat),
    let a := c.areg (fA w)
    let b := c.areg (fB w)
    let off := c.offAddr w
    let ends := fun (i : Instr) (c' : DspCore) => Completes i s (fun t => t.core n = c'.endBundle)
    let pa := c.postWrite (fA w) (fM w)
    let pb := c.postWrite (fB w) (fN w)
    let put := fun (c' : DspCore) (x : Nat) (p : Word32) => { c' with dmem := dramWrite c'.dmem p.toNat (beBytes 4 (c.dv x).toNat) }
    let trap := fun (p : Word32) (cause : Nat) => some (PendTrap.mk cause 0 c.pc p.toNat 0)
    let fails := fun (p : Word32) (e cause : Nat) => localFault p.toNat = some cause ∨ (localOk p ∧ e = 2 ∧ cause = cLoadEcc)
    s.goesOn n c →
    (s.atB n 0x00 w c → ends (.slotBNop n) c) ∧
    (s.atB n 0x01 w c →
      (localOk a → ecc.getD 0 0 ≠ 2 → ends (.ld n ecc) (c.queued [c.loadWrite (fD w) (c.word a.toNat) false, pa])) ∧
      (∀ cause, fails a (ecc.getD 0 0) cause → bitAt c.sr srExc = false → c.trap = none →
        ends (.ld n ecc) (({ c with sr := setBit c.sr srPsn, trap := trap a cause } : DspCore).queued [c.loadWrite (fD w) 0 true, pa]))) ∧
    (s.atB n 0x02 w c →
      (localOk off → ecc.getD 0 0 ≠ 2 → ends (.ldo n ecc) (c.queued [c.loadWrite (fD w) (c.word off.toNat) false])) ∧
      (∀ cause, fails off (ecc.getD 0 0) cause → bitAt c.sr srExc = false → c.trap = none →
        ends (.ldo n ecc) (({ c with sr := setBit c.sr srPsn, trap := trap off cause } : DspCore).queued [c.loadWrite (fD w) 0 true]))) ∧
    (s.atB n 0x03 w c →
      (localOk a → ends (.st n) ((put c (fD w) a).queued [pa])) ∧
      (∀ cause, localFault a.toNat = some cause → bitAt c.sr srExc = false → c.trap = none →
        ends (.st n) (({ c with trap := trap a cause } : DspCore).queued [pa]))) ∧
    (s.atB n 0x04 w c →
      (localOk off → ends (.sto n) (put c (fD w) off)) ∧
      (∀ cause, localFault off.toNat = some cause → bitAt c.sr srExc = false → c.trap = none → ends (.sto n) { c with trap := trap off cause })) ∧
    (s.atB n 0x05 w c → localOk a → localOk b → ecc.getD 0 0 ≠ 2 → ecc.getD 1 0 ≠ 2 →
      ends (.ld2 n ecc) (c.queued [c.loadWrite (fD w) (c.word a.toNat) false, c.loadWrite (fE w) (c.word b.toNat) false, pa, pb])) ∧
    (s.atB n 0x06 w c → localOk a → localOk b → ends (.st2 n) ((put (put c (fD w) a) (fE w) b).queued [pa, pb])) ∧
    (s.atB n 0x07 w c → localOk a → localOk b → ecc.getD 0 0 ≠ 2 →
      ends (.ldst n ecc) ((put c (fE w) b).queued [c.loadWrite (fD w) (c.word a.toNat) false, pa, pb])) ∧
    (s.atB n 0x08 w c → farFault a.toNat = none →
      Completes (.fld n) s (fun t => t.reg (0x5000 + n) 0x12 = c.far.length + 1 ∧ t.core n =
        (({ c with far := c.far ++ [⟨c.nextId, false, fD w, a.toNat, 0, c.pc, false⟩], nextId := c.nextId + 1 } : DspCore).queued [pa]).endBundle)) ∧
    (s.atB n 0x09 w c → farFault a.toNat = none →
      Completes (.fst n) s (fun t => t.reg (0x5000 + n) 0x12 = c.far.length + 1 ∧ t.core n =
        (({ c with far := c.far ++ [⟨c.nextId, true, 0, a.toNat, (c.dv (fD w)).toNat, c.pc, false⟩], nextId := c.nextId + 1 } : DspCore).queued [pa]).endBundle)) ∧
    (s.atB n 0x0A w c → ends (.amod n) (c.queued [pa])) ∧
    (s.atB n 0x0B w c → ends (.ldai n) (c.queued [⟨c.bundle + 1, false, .a (fA w) (BitVec.ofNat 32 (bits w 18 0))⟩]))

/-- TRAP_ENTRY, INTERRUPT_ENTRY, FAR_RESPONSE and FAR_TIMEOUT (R299, R300, R303): at a boundary a pending trap, or the chosen interrupt, drains the pipeline, saves PC
and SR and goes to its vector with IE clear; a response completes its far access, and a failing one poisons its destination and traps.
IMAGE_APPLY, IMAGE_LOAD_COMPLETE, DEBUG_HALT, RESUME, STEP and BREAKPOINT (R307, R310): a staged image is loaded at a boundary with no far access outstanding and
the core restarts at its entry; a debug halt drains the core at a boundary and waits for one elsewhere; resume and step run it on past a breakpoint. The run state reads STOPPED
whenever the status is not ON (R309). -/
def Obligations.DspTrapsResponsesAndImages : Prop :=
  (∀ (s : State) (n : Nat), n < 16 → n < s.dsp.cores.length →
      let i := 0x5000 + n
      let c := s.core n
      let sec := s.flag i 5
      (∀ tr deferral, s.mayEnter n = true → c.trap = some tr → Completes (.trapEntry n 0 deferral) s (fun t =>
        (t.core n).pc = (c.drain.vbr + 4 * tr.cause) % 2 ^ 13 ∧ (t.core n).epc = c.drain.pc ∧ (t.core n).esr = c.drain.srValue sec ∧
        (t.core n).sr = setBit (clearBit c.drain.sr srIe) srExc ∧ (t.core n).ecause = tr.further * 2 ^ 12 + tr.code * 2 ^ 8 + tr.cause ∧
        (t.core n).edata = tr.data ∧ (t.core n).eaddr = tr.bundle ∧ (t.core n).trap = none ∧ t.dspRun n = dsRunning ∧
        t.reg i 0x0A = satAdd32 (s.reg i 0x0A) 1 ∧ s.fires t (0x106 + 8 * n) (tr.code * 2 ^ 8 + tr.cause))) ∧
      (∀ j deferral, s.mayEnter n = true → c.trap = none → s.dspIrqChoice n = some j → Completes (.interruptEntry n deferral) s (fun t =>
        (t.core n).pc = (c.drain.vbr + 4 * (16 + j)) % 2 ^ 13 ∧ (t.core n).epc = c.drain.pc ∧ (t.core n).esr = c.drain.srValue sec ∧
        (t.core n).sr = clearBit c.drain.sr srIe ∧ t.dspRun n = dsRunning ∧ t.reg i 0x0B = wrapAdd64 (s.reg i 0x0B) 1 ∧
        (t.input (irqInput n j)).held = (s.input (irqInput n j)).queued)) ∧
      (∀ r rest f, c.responses = r :: rest → c.far.find? (fun f => f.id = r.id) = some f → c.double = none →
        let far := c.far.filter (fun g => g.id ≠ f.id)
        (r.cause = 0 → f.store = false → Completes (.farResponse n) s (fun t => (t.core n).far = far ∧ (t.core n).responses = rest ∧
          t.reg i 0x12 = far.length ∧ (t.core n).d = modNth (fun _ => BitVec.ofNat 32 r.data) c.d f.dst ∧
          (t.core n).dPoison = modNth (fun _ => false) c.dPoison f.dst)) ∧
        (r.cause = 0 → f.store = true → Completes (.farResponse n) s (fun t => (t.core n).far = far ∧ (t.core n).responses = rest ∧ (t.core n).d = c.d)) ∧
        (r.cause ≠ 0 → bitAt c.sr srExc = false → c.trap = none → Completes (.farResponse n) s (fun t => (t.core n).far = far ∧
          (t.core n).trap = some ⟨if r.cause = 5 then cSecure else cFarFault, 0, f.bundle, f.addr, 0⟩ ∧
          (f.store = false → (t.core n).d = modNth (fun _ => 0) c.d f.dst ∧ (t.core n).dPoison = modNth (fun _ => true) c.dPoison f.dst ∧
            (t.core n).sr = setBit c.sr srPsn)))) ∧
      (∀ f, c.far.find? (fun f => !f.store) = some f → c.double = none → bitAt c.sr srExc = false → c.trap = none →
        Completes (.farTimeout n) s (fun t => (t.core n).far = c.far.filter (fun g => g.id ≠ f.id) ∧ (t.core n).trap = some ⟨cFarTimeout, 0, f.bundle, f.addr, 0⟩ ∧
          (t.core n).d = modNth (fun _ => 0) c.d f.dst ∧ (t.core n).dPoison = modNth (fun _ => true) c.dPoison f.dst))) ∧
  (∀ (s : State) (n : Nat), n < 16 → n < s.dsp.cores.length →
      let c := s.core n
      let img := s.dspImage n
      let runs := fun (t : State) (v : Nat) => t.dspRun n = if s.reg (0x5000 + n) 2 = stOn then v else dsStopped
      ((c.applyReq = true → c.far = [] → (2 ≤ s.dspRun n ∧ s.dspRun n ≤ 5) ∨ (s.dspRun n = dsRunning ∧ c.boundary = true) →
        Completes (.imageApply n) s (fun t => runs t dsLoading ∧ (t.core n).applyReq = false ∧
          t.reg (0x5100 + n) 4 = satAdd32 (s.reg (0x5100 + n) 4) 1))) ∧
      (s.dspRun n = dsLoading ∨ c.ending = some .loading → Completes (.imageLoadComplete n) s (fun t => runs t (if c.haltReq then dsDebug else dsRunning) ∧
        (t.core n).pc = imgEntry img ∧ (t.core n).vbr = imgVbr img ∧ (t.core n).d = List.replicate 16 0 ∧
        (c.imageNew = true → (t.core n).imem = (List.range (imgCodeLen img)).map (imgBundle img) ++ c.imem.drop (imgCodeLen img)))) ∧
      (∀ sess, s.letsCmd sess (0xF500 + n) 1 →
        (s.dspRun n = dsWaiting ∨ (s.dspRun n = dsRunning ∧ c.boundary = true) → Completes (.debugHaltCmd sess n) s (fun t =>
          runs t dsDebug ∧ t.core n = { c.drain with haltReq := false, stepping := false })) ∧
        ((s.dspRun n = dsRunning ∧ c.boundary = false) ∨ s.dspRun n = dsLoading → Completes (.debugHaltCmd sess n) s (fun t =>
          t.dspRun n = s.dspRun n ∧ (t.core n).haltReq = true))) ∧
      (∀ sess, s.dspRun n = dsDebug →
        (s.letsCmd sess (0xF500 + n) 2 → Completes (.debugResume sess n) s (fun t => runs t dsRunning ∧ (t.core n).passBreak = true ∧ (t.core n).stepping = c.stepping)) ∧
        (s.letsCmd sess (0xF500 + n) 3 → Completes (.debugStep sess n) s (fun t => runs t dsRunning ∧ (t.core n).passBreak = true ∧ (t.core n).stepping = true))) ∧
      (s.dspRun n = dsRunning → s.atBreak n = true → Completes (.breakpointHit n) s (fun t =>
        runs t dsDebug ∧ t.core n = { c.drain with haltReq := false, stepping := false })))

/-! ## DRAM (chapter 11) -/

/-- PARITY_ENGINE_WRITE, ASSEMBLY_CLOSE, DRAM_READ, SCRUB_READ, REFRESH_DUE and MR4_READ (R339 to R342, R344 to R346, R349, R351, R352, R358): where an unprotected
address maps, and that a device unit keeps its place under an address order; written bytes are held by open assemblies and read from then on, and no other byte
changes; a write without space waits; an assembly that closes is written and enters its stripe's accumulator, whose parity is written when the stripe is whole; a
read counts what ECC found; an uncorrectable unit is rebuilt and written back, and its channel lost at the threshold; a unit of a channel that does not serve is
rebuilt from the others, and an unprotected one of an OFFLINE channel waits; a scrub takes the next unit and writes a corrected one back; a refresh closes its
rank's rows and takes waiting delays; a busy one is postponed.
A byte never written reads 00h (log 6) and the ACTs of a neighbour refresh step the LFSR (log 31) by the model's choice; unreadable old bytes are free values (log 32). -/
def Obligations.DramWritesReadsAndRefreshes : Prop :=
  ∀ (s : State), dramWf s.dram = true →
    let one := s.ddr.writers = []
    (∀ a, s.protSize ≤ a → s.dramExists a = true →
      s.mapAddr a = some ((a - s.protSize) / 64 % s.dramN, s.dramQ * 2 ^ 24 + (a - s.protSize) / 64 / s.dramN)) ∧
    (∀ c u, u < 2 ^ 40 → s.localUnit (s.deviceKey c u) = u) ∧
    (∀ addr data, (data = [] ∨ s.protSize < addr + data.length) → exec (.parityEngineWrite addr data) s = .next s) ∧
    (∀ addr data, data ≠ [] → addr + data.length ≤ s.protSize → one →
      (s.engineRoom addr data.length →
        Completes (.parityEngineWrite addr data) s (fun t => t.load addr data.length = data ∧ t.dram = s.dram ∧
          (∀ a, a < addr ∨ addr + data.length ≤ a → t.load a 1 = s.load a 1) ∧ t.reg 0x5801 7 = max (s.reg 0x5801 7) t.ddr.occupancy ∧
          ∀ i, i < data.length → ∃ x ∈ t.ddr.assemblies, x.unit = (addr + i) / 64 ∧ bitAt x.mask ((addr + i) % 64) = true)) ∧
      (engineBytes < s.ddr.occupancy + 128 → (∀ x ∈ s.ddr.assemblies, s.chanState (s.assemblyChannel x) = 1) → s.assembly (addr / 64) = none →
        addr % 64 + data.length ≤ 64 → Completes (.parityEngineWrite addr data) s (fun t =>
          t.ddr.writers = [⟨addr / 64, addr % 64, data, 2⟩] ∧ t.ddr.assemblies = s.ddr.assemblies ∧ t.dram = s.dram))) ∧
    (∀ close, s.nextClose = none → exec (.assemblyClose close) s = .next s) ∧
    (∀ close x ch stripe, s.nextClose = some x → s.mapAddr (64 * x.unit) = some (ch, stripe) → one → 64 * x.unit < s.protSize → x.data.length = 64 →
      let d := s.dramN - 1
      let p := parityChannel s.dramN stripe
      let acc := s.stripeAcc stripe
      let closed := setBit acc.closed (x.unit % d)
      let whole := x.mask = 2 ^ 64 - 1
      Completes (.assemblyClose close) s (fun t => t.ddr.assemblies = s.ddr.assemblies.erase x ∧
        (s.chanState ch ≠ 2 → (whole → t.devUnit ch stripe = x.data) ∧
          (¬whole → s.localReadable ch stripe = true → t.devUnit ch stripe = mergeMask x.mask (s.localUnitBytes ch stripe) x.data)) ∧
        (t.reg 0x5801 3 = if x.mask = 2 ^ 64 - 1 then s.reg 0x5801 3 else wrapAdd64 (s.reg 0x5801 3) 1) ∧
        (s.chanState p = 1 ∨ (close = false ∧ popCount d closed ≠ d) → (t.stripeAcc stripe).closed = closed) ∧
        (s.chanState p ≠ 1 → popCount d closed = d → (sorted s.ddr.stripes = true → lookup t.ddr.stripes stripe = none) ∧
          t.reg 0x5801 1 = wrapAdd64 (s.reg 0x5801 1) 1 ∧
          (s.chanState p = 0 → s.chanState ch = 0 → bitAt acc.closed (x.unit % d) = false → acc.sum.length = 64 →
            t.devUnit p stripe = xorBytes acc.sum (t.devUnit ch stripe))) ∧
        (s.chanState p ≠ 1 → close = true → popCount d closed ≠ d → t.reg 0x5801 2 = wrapAdd64 (s.reg 0x5801 2) 1 ∧
          t.reg 0x5801 4 = wrapAdd64 (s.reg 0x5801 4) (openPositions d closed).length))) ∧
    (∀ addr cls err ch u, cls < 4 → err < 3 → s.mapAddr addr = some (ch, u) →
      let recent := (s.chan ch).errors.filter (fun t => decide (s.time.tclk - t < 500000))
      (s.needsDram (addr / 64 * 64) 64 (addr / 64) = false → exec (.dramRead addr cls err) s = .next s) ∧
      (s.needsDram (addr / 64 * 64) 64 (addr / 64) = true →
        (s.chanState ch = 0 → err < 2 → s.unitBad ch u = false → s.tooManyErrors ch = false → Completes (.dramRead addr cls err) s (fun t =>
          t.dram = s.dram ∧ t.ddr.bad = s.ddr.bad ∧ t.reg (0x5810 + ch) 5 = wrapAdd64 (s.reg (0x5810 + ch) 5) 1 ∧
          (err = 1 → t.reg (0x5810 + ch) 2 = wrapAdd64 (s.reg (0x5810 + ch) 2) 1 ∧ t.reg (0x5810 + ch) 4 = 64 * u) ∧
          (err = 0 → t.reg (0x5810 + ch) 2 = s.reg (0x5810 + ch) 2 ∧ t.reg (0x5810 + ch) 4 = s.reg (0x5810 + ch) 4))) ∧
        (s.chanState ch = 0 → err = 2 → u < s.protUnits → s.rebuildable ch u = true → (s.stripeAcc u).delta.length = 64 →
          (recent.length + 1 < s.reg 0x5800 0x0D → Completes (.dramRead addr cls err) s (fun t =>
            t.devUnit ch u = s.xorOthers ch u ∧ t.unitBad ch u = false ∧ t.reg 0x5801 5 = wrapAdd64 (s.reg 0x5801 5) 1 ∧
            t.reg (0x5810 + ch) 3 = satAdd32 (s.reg (0x5810 + ch) 3) 1 ∧ t.reg (0x5810 + ch) 4 = 64 * u ∧ t.chanState ch = 0)) ∧
          (s.reg 0x5800 0x0D ≤ recent.length + 1 → Completes (.dramRead addr cls err) s (fun t => t.chanState ch = 2 ∧ t.reg (0x5810 + ch) 0x10 = 1))) ∧
        (s.chanState ch = 1 ∨ s.chanState ch = 2 → u < s.protUnits → s.tooManyErrors ch = false → Completes (.dramRead addr cls err) s (fun t => t.dram = s.dram ∧
          (s.rebuildable ch u = true → t.reg 0x5801 5 = wrapAdd64 (s.reg 0x5801 5) 1) ∧
          (s.rebuildable ch u = false → t.reg 0x5801 6 = satAdd32 (s.reg 0x5801 6) 1))) ∧
        (s.chanState ch = 1 → s.protUnits ≤ u → Completes (.dramRead addr cls err) s (fun t =>
          t.dram = s.dram ∧ t.ddr.queue = s.ddr.queue ++ [⟨ch, u, none, cls, s.time.tclk⟩])))) ∧
    (∀ ch err, ch < s.dramN → s.reg 0x5800 0x0C ≠ 0 → s.chanState ch = 0 →
      let u := (s.chan ch).scrub
      (s.unitBad ch u = false → err < 2 → s.tooManyErrors ch = false → Completes (.scrubRead ch err) s (fun t =>
        (t.chan ch).scrub = (if u + 1 < unitsPerGib * s.reg 0x5800 3 then u + 1 else 0) ∧ t.dram = s.dram ∧
        t.reg (0x5810 + ch) 5 = wrapAdd64 (s.reg (0x5810 + ch) 5) 1 ∧
        (err = 1 → t.reg (0x5810 + ch) 2 = wrapAdd64 (s.reg (0x5810 + ch) 2) 1 ∧ t.reg (0x5810 + ch) 6 = wrapAdd64 (s.reg (0x5810 + ch) 6) 1) ∧
        (err = 0 → t.reg (0x5810 + ch) 6 = s.reg (0x5810 + ch) 6)))) ∧
    (∀ ch rank, ch < s.dramN → rank < orgRanks (s.reg 0x5800 1) → s.chanState ch ≠ 1 →
      let taken := fun (t : State) => (t.chan ch).rows = (s.chan ch).rows.filter (fun p => bankRank p.1 ≠ rank) ∧
        ((s.chan ch).applyRanks = [rank] → t.reg (0x5840 + ch) 4 = field (s.chan ch).applyBlock 6 2 ∧ t.dom (0x5840 + ch) 1 = (s.chan ch).applyBlock)
      Completes (.refreshDue ch rank false) s (fun t => taken t ∧ nthD 0 (t.chan ch).postponed rank = 0) ∧
      (nthD 0 (s.chan ch).postponed rank = 4 → Completes (.refreshDue ch rank true) s taken) ∧
      (nthD 0 (s.chan ch).postponed rank < 4 → rank < (s.chan ch).postponed.length → Completes (.refreshDue ch rank true) s (fun t =>
        nthD 0 (t.chan ch).postponed rank = nthD 0 (s.chan ch).postponed rank + 1 ∧ (t.chan ch).rows = (s.chan ch).rows ∧
        t.reg (0x5810 + ch) 0x0A = satAdd32 (s.reg (0x5810 + ch) 0x0A) 1))) ∧
    (∀ ch codes above, ch < s.dramN → Completes (.mr4Read ch codes above) s (fun t =>
      t.reg (0x5810 + ch) 0x0C = codes.foldl max 0 % 256 ∧ (t.chan ch).halved = above ∧ t.dram = s.dram))

/-- CHANNEL_LOST, DECLARE_LOST, REBUILD and REBUILD_COMPLETE (R351 to R354): a channel is lost with its cause, requests that wait at it fail, and one in a window of
a recalibration or a frequency change first returns ONLINE; a rebuild trains the channel, whose margin is a free value (log 4), and clears its unprotected units; a
rebuilt one is ONLINE, with the units it holds rebuilt from the others.
APPLY, RECALIBRATE, RECAL_WINDOW, FREQ_CHANGE, CHANNEL_FREQ_SWITCH and STORE (R351, R354 to R358, R360): shadow delays wait for a refresh of each rank;
a recalibration takes the channel OFFLINE for each of its windows and ends with its margin and its block in the layout of R355, a lost channel where the margin is
too small; a frequency change takes the channels one by one, and after the last the timing banks and the speed change; the live blocks become the table in flash. -/
def Obligations.DramChannelsChange : Prop :=
  (∀ (s : State) (ch : Nat), ch < s.dramN →
      let gone := fun (cause : Nat) (t : State) => t.chanState ch = 2 ∧ t.reg (0x5810 + ch) 0x10 = cause ∧ t.reg (0x5810 + ch) 0x0F = 0 ∧ t.ddr.freqNext = none ∧
        (∀ r ∈ t.ddr.queue, r.ch ≠ ch) ∧ (s.ddr.assemblies = [] → s.ddr.stripes = [] → s.ddr.queue = [] → s.ddr.writers = [] → t.dram = s.dram) ∧
        ∀ c, c < s.dramN → c ≠ ch → t.chanState c = if s.chanState c = 1 then 0 else s.chanState c
      (∀ cause, 1 ≤ cause → cause ≤ 5 → (s.chanState ch = 2 ∨ cause = 1 ∨ cause = 5) → exec (.channelLost ch cause) s = .next s) ∧
      (∀ cause, 2 ≤ cause → cause ≤ 4 → s.chanState ch ≠ 2 → Completes (.channelLost ch cause) s (gone cause)) ∧
      (∀ sess, s.letsCmd sess (0x5810 + ch) 0x0D → s.chanState ch ≠ 2 → Completes (.declareLost sess ch) s (gone 5)) ∧
      (∀ sess, s.letsCmd sess (0x5810 + ch) 0x0E → s.chanState ch = 2 →
        let m := (s.draw 16).1
        (m < s.reg 0x5800 0x12 → Completes (.rebuild sess ch) s (fun t => t.chanState ch = 2 ∧ t.reg (0x5840 + ch) 4 = m ∧ t.dram = s.dram)) ∧
        (s.reg 0x5800 0x12 ≤ m → Completes (.rebuild sess ch) s (fun t => t.chanState ch = 3 ∧ t.reg (0x5810 + ch) 0x0F = 0 ∧
          ∀ c u, u < 2 ^ 40 → t.devUnit c u = if c = ch ∧ s.protUnits ≤ u then zeroBytes 64 else s.devUnit c u))) ∧
      (s.chanState ch = 3 →
        ((∀ c, c < s.dramN → c ≠ ch → s.chanState c < 2) → Completes (.rebuildComplete ch) s (fun t =>
          t.chanState ch = 0 ∧ t.reg (0x5810 + ch) 0x0F = s.dramQ ∧
          (s.protUnits ≤ 2 ^ 40 → dramWf s.dram = true → ∀ u ∈ s.heldUnits (s.chan ch).progress, (s.stripeAcc u).delta.length = 64 →
            t.devUnit ch u = s.xorOthers ch u ∧ t.unitBad ch u = !s.rebuildable ch u))) ∧
        (∀ c, c < s.dramN → c ≠ ch → 2 ≤ s.chanState c → exec (.rebuildComplete ch) s = .next s))) ∧
  (∀ (s : State) (ch : Nat), ch < s.dramN →
      (∀ sess, s.letsCmd sess (0x5840 + ch) 3 → field (s.shadowBlock ch) 0 1 = s.reg 0x5800 2 → Completes (.applyDelays sess ch) s (fun t =>
        (t.chan ch).applyRanks = List.range (orgRanks (s.reg 0x5800 1)) ∧ (t.chan ch).applyBlock = s.shadowBlock ch ∧ t.regs = s.regs ∧ t.doms = s.doms)) ∧
      (∀ sess, s.letsCmd sess (0x5840 + ch) 5 →
        (s.anyNotOnline = false → Completes (.recalibrate sess ch) s (fun t => t.reg (0x5840 + ch) 6 = 1 ∧ t.ddr = s.ddr)) ∧
        (s.anyNotOnline = true → Completes (.recalibrate sess ch) s (fun t => t.reg (0x5840 + ch) 6 = 4 ∧ t.ddr = s.ddr))) ∧
      (∀ final margin block, s.reg (0x5840 + ch) 6 = 1 → s.ddr.freqNext ≠ some ch →
        (s.chanState ch = 0 → Completes (.recalWindow ch final margin block) s (fun t => t.chanState ch = 1 ∧ (t.chan ch).rows = [] ∧ t.reg (0x5840 + ch) 6 = 1)) ∧
        (s.chanState ch = 1 → final = false → Completes (.recalWindow ch final margin block) s (fun t => t.chanState ch = 0 ∧ t.reg (0x5840 + ch) 6 = 1)) ∧
        (s.chanState ch = 1 → final = true → margin < 2 ^ 16 →
          (s.reg 0x5800 0x12 ≤ margin → Completes (.recalWindow ch final margin block) s (fun t => t.chanState ch = 0 ∧ t.reg (0x5840 + ch) 6 = 2 ∧
            t.reg (0x5840 + ch) 4 = margin ∧ (t.chan ch).applyRanks = List.range (orgRanks (s.reg 0x5800 1)) ∧
            (t.chan ch).applyBlock = delayBlock (s.reg 0x5800 2) (s.reg 0x5800 1) margin (fun off => field block off 2))) ∧
          (margin < s.reg 0x5800 0x12 → Completes (.recalWindow ch final margin block) s (fun t => t.chanState ch = 2 ∧ t.reg (0x5840 + ch) 6 = 3 ∧
            t.reg (0x5840 + ch) 4 = margin ∧ t.reg (0x5810 + ch) 0x10 = 4)))) ∧
      (∀ sess, s.letsCmd sess 0x5800 0x0F → s.freqOk = true → Completes (.freqChange sess) s (fun t => t.ddr.freqNext = some 0 ∧ t.reg 0x5800 0x10 = 1)) ∧
      (s.ddr.freqNext = some ch →
        (s.chanState ch = 0 → Completes .channelFreqSwitch s (fun t => t.chanState ch = 1 ∧ t.ddr.freqNext = some ch ∧ (t.chan ch).rows = [])) ∧
        (s.chanState ch = 1 →
          (ch + 1 < s.dramN → Completes .channelFreqSwitch s (fun t => t.chanState ch = 0 ∧ t.ddr.freqNext = some (ch + 1) ∧
            t.dom (0x5840 + ch) 1 = s.shadowBlock ch ∧ t.reg (0x5840 + ch) 4 = field (s.shadowBlock ch) 6 2)) ∧
          (ch + 1 = s.dramN → Completes .channelFreqSwitch s (fun t => t.chanState ch = 0 ∧ t.ddr.freqNext = none ∧ t.reg 0x5800 2 = s.reg 0x5800 0x0E ∧
            t.reg 0x5800 0x10 = 2 ∧ ∀ i, 1 ≤ i → i ≤ 15 → t.reg 0x5870 i = s.reg 0x5871 i ∧ t.reg 0x5871 i = s.reg 0x5870 i)))) ∧
      (∀ sess, s.letsCmd sess 0x5880 2 → Completes (.storeDelays sess) s (fun t => t.reg 0x5880 1 = 0 ∧ t.nv.dramMagic = tableMagic ∧ t.nv.dramVersion = 1 ∧
        t.nv.dramOrg = s.reg 0x5800 1 ∧ t.nv.dramChannels = s.dramN ∧ t.reg 0x5880 4 = speedsOf s.knownBlocks ∧ t.dram = s.dram ∧ t.ddr = s.ddr ∧
        (s.reg 0x5800 2 < 3 → lookup t.nv.delays (24 * s.reg 0x5800 2 + ch) = some (s.liveBlock ch)))))

/-! ## Fabric and DMA (chapter 12) -/

/-- FABRIC_REQUEST (R365, R366, R368, R369, R371, R372, R375, R379, R381 to R383, R386, R391): an unwindowed master's request that reaches no target is logged and
answers its cause, one that is held waits at its arbiter, and one to SRAM or DRAM moves its bytes; a core's far access and a channel's beat are translated by their
window, wait behind a request of their own master, start a walk on a TLB miss, and end in their bytes or in a fault; a read of a channel that finds its burst tags
in use only counts.
A byte never written reads 00h by the model's choice (log 6). -/
def Obligations.RequestsOfEveryMaster : Prop :=
  ∀ (s : State), s.fabric.waiting = [] →
    let kept := fun (t : State) => s.dramSteady → t.dram = s.dram
    let failed := fun (t : State) (cause : Nat) => t.reg 0x5C00 4 = wrapAdd64 (s.reg 0x5C00 4) 1 ∧ t.reg 0x5C03 cause = satAdd32 (s.reg 0x5C03 cause) 1 ∧ kept t
    (∀ m (r : FabReq), masterOk m = true → windowed m = false →
      let q : FabReq := { r with secure := m = 0, cls := s.masterClass m r.cls }
      let w : FabWait := ⟨m, 0, 0xFF, r.addr, q⟩
      (∀ cause, s.route m r.addr q.secure = .error cause → Completes (.fabricRequest m r) s (fun t => failed t cause ∧ t.fabric.readData = [] ∧ t.dram = s.dram)) ∧
      (∀ x, s.route m r.addr q.secure = .ok x → s.heldReq w x = true → Completes (.fabricRequest m r) s (fun t =>
        t.fabric.waiting = [w] ∧ t.dram = s.dram ∧ t.regs = s.regs)) ∧
      (∀ a, s.route m r.addr q.secure = .ok (.dram a) → s.heldReq w (.dram a) = false → r.lock = 0 → (r.size = 0 ∨ s.dramExists (a + r.size - 1) = true) →
        (r.write = false → s.rangeReadable a r.size = true → Completes (.fabricRequest m r) s (fun t => t.fabric.readData = s.load a r.size ∧ kept t)) ∧
        (r.write = false → s.rangeReadable a r.size = false → Completes (.fabricRequest m r) s (fun t => t.fabric.readData = [] ∧ failed t cAccessFail)) ∧
        (r.write = true → s.engineRoom a (r.data.take r.size).length → a < s.protSize → Completes (.fabricRequest m r) s (fun t =>
          t.load a (r.data.take r.size).length = r.data.take r.size))) ∧
      (∀ o, s.route m r.addr q.secure = .ok (.sram o) → s.heldReq w (.sram o) = false → r.lock = 0 → Completes (.fabricRequest m r) s (fun t => t.dram = s.dram ∧
        if r.write then t.fabric.sram = dramWrite s.fabric.sram o (r.data.take r.size)
        else t.fabric.readData = dramRead s.fabric.sram o r.size ∧ t.fabric.sram = s.fabric.sram))) ∧
    (∀ n f (r : FabReq), n < 16 → n < s.dsp.cores.length → (s.core n).far.find? (fun f => !f.sent) = some f →
      let m := 0x10 + n
      let sec := s.flag (0x5000 + n) 5
      let q : FabReq := ⟨f.addr - 0x80000000, 4, f.store, beBytes 4 f.data, s.masterClass m 0, sec, 0, r.err⟩
      let x := s.xlate m q.addr f.store sec
      (s.inFlight m = true → exec (.fabricRequest m r) s = .next s) ∧
      (s.inFlight m = false →
        (∀ cause i, x = .fault cause i → Completes (.fabricRequest m r) s (fun t => failed t cause ∧ (t.core n).responses = (s.core n).responses ++ [⟨f.id, cause, 0⟩])) ∧
        (∀ i, x = .miss i → Completes (.fabricRequest m r) s (fun t => t.reg 0x5C01 4 = wrapAdd64 (s.reg 0x5C01 4) 1 ∧
          t.fabric.walks = s.fabric.walks ++ [⟨m, f.id, q⟩])) ∧
        (∀ i pa e a, x = .phys i pa e → s.route m pa sec = .ok (.dram a) → s.heldReq ⟨m, f.id, i, pa, q⟩ (.dram a) = false → s.dramExists (a + 3) = true →
          (f.store = false → s.rangeReadable a 4 = true → Completes (.fabricRequest m r) s (fun t =>
            (t.core n).responses = (s.core n).responses ++ [⟨f.id, 0, ofBytes (s.load a 4)⟩] ∧ kept t ∧
            t.reg (0x5C40 + i) 7 = wrapAdd64 (s.reg (0x5C40 + i) 7) 1 ∧ t.reg 0x5C01 3 = if e.isSome then wrapAdd64 (s.reg 0x5C01 3) 1 else s.reg 0x5C01 3)) ∧
          (f.store = true → s.engineRoom a 4 → Completes (.fabricRequest m r) s (fun t => t.load a 4 = beBytes 4 f.data))))) ∧
    (∀ c (r : FabReq), c < 64 → s.burstsFull c r.write = true → Completes (.fabricRequest (0x20 + c) r) s (fun t => t.fabric = s.fabric ∧ t.dram = s.dram)) ∧
    (∀ c (r : FabReq) kind wa data, c < 64 → c < s.fabric.chans.length → s.burstsFull c r.write = false → s.dmaRequest c r.write = some (kind, wa, data) →
      (∀ d, (s.dma c).desc = some d → dscLock d = false) →
      let m := 0x20 + c
      let q : FabReq := ⟨wa, 64, kind = 2, data, s.dmaClass c, s.dmaSecure c, 0, r.err⟩
      let x := s.xlate m wa (kind = 2) (s.dmaSecure c)
      (s.inFlight m = true → exec (.fabricRequest m r) s = .next s) ∧
      (s.inFlight m = false →
        (∀ cause i, x = .fault cause i → Completes (.fabricRequest m r) s (fun t => failed t cause ∧
          ∃ b, (t.dma c).fault = some b ∧ b.cause = cause ∧ b.wa = wa ∧ b.side = (if kind = 0 then 3 else kind))) ∧
        (∀ i pa e a, x = .phys i pa e → s.route m pa (s.dmaSecure c) = .ok (.dram a) → s.heldReq ⟨m, kind, i, pa, q⟩ (.dram a) = false → s.dramExists (a + 63) = true →
          (kind = 0 → s.rangeReadable a 64 = true → Completes (.fabricRequest m r) s (fun t =>
            (t.dma c).fetched = some (s.load a 64) ∧ (t.dma c).fetch = none ∧ kept t)) ∧
          (kind = 1 → s.rangeReadable a 64 = true → Completes (.fabricRequest m r) s (fun t =>
            (t.dma c).buffer = (s.dma c).buffer ++ [((s.dma c).readOff, s.load a 64)] ∧ (t.dma c).readOff = (s.dma c).readOff + 64 ∧ kept t)) ∧
          (kind = 2 → data.length = 64 → s.engineRoom a 64 → Completes (.fabricRequest m r) s (fun t => t.load a 64 = data ∧
            (t.dma c).writeOff = (s.dma c).writeOff + 64 ∧ t.reg (0x5D40 + c) 0x10 = wrapAdd64 (s.reg (0x5D40 + c) 0x10) 64 ∧
            t.reg 0x5D00 4 = wrapAdd64 (s.reg 0x5D00 4) 64)))))

/-- PAGE_WALK_COMPLETE, LOCK_BROKEN, INV_WINDOW, INV_ALL, PAGE_INV_WINDOW and PAGE_INV_ALL (R371, R377 to R381): a walk that finds its leaf installs it and its request
goes on, and one that does not ends in its cause; a lock broken is counted and logged; an invalidation discards TLB entries. -/
def Obligations.WalksLocksAndInvalidations : Prop :=
  ∀ (s : State),
    let dropped := fun (w : Nat) (t : State) => t.fabric.tlb = s.fabric.tlb.filter (fun e => e.window ≠ w) ∧ t.fabric.walks = s.fabric.walks ∧ t.regs = s.regs
    let emptied := fun (t : State) => t.fabric.tlb = [] ∧ t.fabric.walks = s.fabric.walks ∧ t.regs = s.regs
    (∀ walk, walk < 16 → s.fabric.walks[walk]? = none → exec (.pageWalkComplete walk) s = .next s) ∧
    (∀ walk k i, walk < 16 → s.fabric.walks[walk]? = some k → s.fabric.waiting = [] →
      s.xlate k.master k.req.addr k.req.write k.req.secure = .miss i →
      let o := k.req.addr - s.reg (0x5C40 + i) 3
      (∀ e pa a, (s.walk i o).leaf = some e → leafXlate i o e k.req.write k.req.secure = .phys i pa (some e) →
        s.route k.master pa k.req.secure = .ok (.dram a) →
        Completes (.pageWalkComplete walk) s (fun t => t.fabric.walks = s.fabric.walks.eraseIdx walk ∧ e ∈ t.fabric.tlb ∧
          t.reg 0x5C01 5 = wrapAdd64 (s.reg 0x5C01 5) (s.walk i o).reads.length ∧ t.reg (0x5C40 + i) 7 = wrapAdd64 (s.reg (0x5C40 + i) 7) 1)) ∧
      ((s.walk i o).leaf = none → Completes (.pageWalkComplete walk) s (fun t => t.fabric.walks = s.fabric.walks.eraseIdx walk ∧ t.fabric.tlb = s.fabric.tlb ∧
        t.reg 0x5C01 5 = wrapAdd64 (s.reg 0x5C01 5) (s.walk i o).reads.length ∧
        t.reg 0x5C03 (s.walk i o).cause = satAdd32 (s.reg 0x5C03 (s.walk i o).cause) 1))) ∧
    (∀ m, masterOk m = true →
      ((∀ l ∈ s.fabric.locks, l.master ≠ m) → exec (.lockBroken m) s = .next s) ∧
      ((∃ l ∈ s.fabric.locks, l.master = m) → Completes (.lockBroken m) s (fun t => t.fabric.locks = s.fabric.locks.filter (fun l => l.master ≠ m) ∧
        t.reg 0x5C00 3 = satAdd32 (s.reg 0x5C00 3) 1 ∧ t.reg 0x5C03 0x0B = satAdd32 (s.reg 0x5C03 0x0B) 1))) ∧
    (∀ sess w, w < 32 → s.letsCmd sess 0x5C01 1 → Completes (.invWindow sess w) s (dropped w)) ∧
    (∀ sess, s.letsCmd sess 0x5C01 2 → Completes (.invAll sess) s emptied) ∧
    (∀ m, masterOk m = true →
      (m = 0 ∨ isDsp m = true → (∀ w, Completes (.pageInvWindow m w) s (dropped w)) ∧ Completes (.pageInvAll m) s emptied) ∧
      (m ≠ 0 → isDsp m = false → ∀ i, i = .pageInvAll m ∨ (∃ w, i = .pageInvWindow m w) → Completes i s (fun t =>
        t.fabric = s.fabric ∧ t.reg 0x5C03 cDecode = satAdd32 (s.reg 0x5C03 cDecode) 1)))

/-- DMA_START, DESCRIPTOR_FETCH, DESCRIPTOR_COMPLETE and DMA_BEAT_FAULT (R386 to R389): a start by a session, the page or an event fetches the descriptor at the
channel's address; a good descriptor begins its transfer and a bad one ends in ERROR; a transfer that is written is counted and goes on to NEXT or DONE; and the
first faulting beat, once the beats before it are written, leaves the channel FAULTED with its cause, side, address and residue. -/
def Obligations.DescriptorsRun : Prop :=
  ∀ (s : State) (c : Nat), c < 64 → c < s.fabric.chans.length →
    let i := 0x5D40 + c
    let begun := fun (t : State) => t.dmaRun c = dmActive ∧ (t.dma c).fetch = some (s.reg i 6) ∧ (t.dma c).desc = none ∧ t.reg i 0x0B = s.reg i 6 ∧ t.reg i 0x0A = 0 ∧ t.reg i 0x0C = 0
    let starts := fun (via : DmaVia) =>
      (s.reg i 2 = stOn → s.dmaRun c ≠ dmActive → s.dmaRun c ≠ dmAborting → (s.reg i 6 % 64 = 0 → Completes (.dmaStart via c) s begun) ∧
        (s.reg i 6 % 64 ≠ 0 → Completes (.dmaStart via c) s (fun t => t.dmaRun c = s.dmaRun c ∧ t.reg i 0x0A = cMisalign ∧ t.fabric.chans = s.fabric.chans))) ∧
      (s.reg i 2 ≠ stOn ∨ s.dmaRun c = dmActive ∨ s.dmaRun c = dmAborting → Completes (.dmaStart via c) s (fun t => t.dmaRun c = s.dmaRun c ∧ t.fabric.chans = s.fabric.chans))
    (∀ sess, s.letsCmd sess i 7 → starts (.fdp sess)) ∧
    ((s.held (0x200 + 2 * c)).isSome = true → starts .event) ∧
    (∀ m secure x, masterOk m = true → s.route m (if m = 0 then 0x400000000000 + (0x3FF01000000 + 4096 * c + 8) else 0x3FF01000000 + 4096 * c + 8) secure = .ok x →
      starts (.page m secure)) ∧
    (∀ b, (s.dma c).fetched = some b → s.dmaRun c = dmActive →
      let d := (List.range 8).map (fun k => field b (8 * k) 8)
      (dscCheck d = 0 → Completes (.descriptorFetch c) s (fun t => (t.dma c).desc = some d ∧ (t.dma c).fetched = none ∧ (t.dma c).readOff = 0 ∧ (t.dma c).writeOff = 0 ∧
        t.reg i 0x0C = dscLen d ∧ t.reg i 0x0D = dscTag d ∧ t.dmaRun c = dmActive)) ∧
      (dscCheck d ≠ 0 → Completes (.descriptorFetch c) s (fun t => t.dmaRun c = dmError ∧ t.reg i 0x0A = dscCheck d ∧ t.reg i 0x0D = dscTag d ∧
        (t.dma c).fetched = none ∧ (t.dma c).mover = false))) ∧
    (∀ d, (s.dma c).desc = some d → s.dmaRun c = dmActive → (s.dma c).writeOff = dscLen d → (s.dma c).fault = none →
      Completes (.descriptorComplete c) s (fun t => t.reg i 0x0C = 0 ∧ t.reg i 0x11 = wrapAdd64 (s.reg i 0x11) 1 ∧
        t.reg 0x5D00 5 = wrapAdd64 (s.reg 0x5D00 5) 1 ∧ (∀ l ∈ t.fabric.locks, l.master ≠ 0x20 + c) ∧ (dscWb d = false → t.dram = s.dram) ∧
        (dscChain d = true → t.dmaRun c = dmActive ∧ (t.dma c).fetch = some (dscNext d) ∧ t.reg i 0x0B = dscNext d) ∧
        (dscChain d = false → t.dmaRun c = dmDone ∧ (t.dma c).mover = false))) ∧
    (∀ f, (s.dma c).fault = some f → s.dmaRun c = dmActive ∨ s.dmaRun c = dmAborting → (s.dma c).buffer.all (fun b => decide (f.off ≤ b.1)) = true →
      Completes (.dmaBeatFault c) s (fun t => t.dmaRun c = dmFaulted ∧ t.reg i 0x0A = f.cause ∧ t.reg i 0x0F = f.side ∧ t.reg i 0x0E = f.wa ∧
        (∀ d, (s.dma c).desc = some d → t.reg i 0x0C = dscLen d - f.off) ∧ (t.dma c).mover = false ∧ (t.dma c).buffer = [] ∧ (t.dma c).fault = none))

/-- DMA_ABORT, ABORT_COMPLETE, DMA_RESUME, DMA_RESUME_NEXT and MOVER_ASSIGN (R389, R391, R392): an abort ends a channel without a mover at once and waits for the bursts
of one that has it; a resume goes on at the residue, or at NEXT; and a mover goes to the ready channel of the highest class, from a holder of a lower class where
all four are held. -/
def Obligations.AbortsResumesAndMovers : Prop :=
  ∀ (s : State),
    (∀ c, c < 64 → c < s.fabric.chans.length →
      let i := 0x5D40 + c
      let aborted := fun (t : State) => t.dmaRun c = dmAborted ∧ t.reg i 0x0A = cAborted ∧ (t.dma c).mover = false ∧ (t.dma c).buffer = [] ∧
        (∀ d, (s.dma c).desc = some d → t.reg i 0x0C = dscLen d - (s.dma c).writeOff)
      let aborts := fun (via : DmaVia) =>
        (s.dmaRun c = dmActive → (s.dma c).mover = false → Completes (.dmaAbort via c) s aborted) ∧
        (s.dmaRun c = dmActive → (s.dma c).mover = true → Completes (.dmaAbort via c) s (fun t => t.dmaRun c = dmAborting ∧ t.fabric = s.fabric)) ∧
        (s.dmaRun c = dmFaulted → Completes (.dmaAbort via c) s (fun t => t.dmaRun c = dmAborted ∧ t.fabric = s.fabric)) ∧
        (s.dmaRun c ≠ dmActive → s.dmaRun c ≠ dmFaulted → Completes (.dmaAbort via c) s (fun t => t.regs = s.regs ∧ t.fabric = s.fabric))
      (∀ sess, s.letsCmd sess i 8 → aborts (.fdp sess)) ∧
      ((s.held (0x201 + 2 * c)).isSome = true → aborts .event) ∧
      (s.dmaRun c = dmAborting → (s.dma c).buffer = [] → (s.dma c).fault = none → s.inFlight (0x20 + c) = false → Completes (.abortComplete c) s aborted) ∧
      (∀ sess, s.letsCmd sess i 9 →
        (s.reg i 2 = stOn → s.dmaRun c = dmFaulted ∨ s.dmaRun c = dmAborted →
          (∀ d, (s.dma c).desc = some d →
            Completes (.dmaResume (.fdp sess) c) s (fun t => t.dmaRun c = dmActive ∧ (t.dma c).desc = some d ∧ (t.dma c).readOff = dscLen d - s.reg i 0x0C ∧
              (t.dma c).writeOff = dscLen d - s.reg i 0x0C ∧ (t.dma c).fault = none) ∧
            (dscChain d = true → Completes (.dmaResumeNext (.fdp sess) c) s (fun t => t.dmaRun c = dmActive ∧ (t.dma c).fetch = some (dscNext d))) ∧
            (dscChain d = false → Completes (.dmaResumeNext (.fdp sess) c) s (fun t => t.dmaRun c = dmDone))) ∧
          ((s.dma c).desc = none → Completes (.dmaResume (.fdp sess) c) s (fun t => t.dmaRun c = dmActive ∧ (t.dma c).fetch = some (s.reg i 0x0B)) ∧
            Completes (.dmaResumeNext (.fdp sess) c) s (fun t => t.dmaRun c = dmDone))) ∧
        (s.reg i 2 ≠ stOn → Completes (.dmaResume (.fdp sess) c) s (fun t => t.regs = s.regs ∧ t.fabric = s.fabric) ∧
          Completes (.dmaResumeNext (.fdp sess) c) s (fun t => t.regs = s.regs ∧ t.fabric = s.fabric)))) ∧
    (s.readyChans = [] → exec .moverAssign s = .next s) ∧
    (∀ c, s.fabric.chans.length = 64 →
      let top := s.readyChans.foldl (fun a c => max a (s.dmaClass c)) 0
      rotating 64 (nthD 0 s.fabric.moverPtr top) (s.readyChans.filter (fun c => s.dmaClass c = top)) = some c →
      (s.holders.length < 4 → Completes .moverAssign s (fun t => (t.dma c).mover = true ∧ (t.dma c).turnBytes = 0 ∧ t.regs = s.regs)) ∧
      (4 ≤ s.holders.length → s.victim top = none → exec .moverAssign s = .next s) ∧
      (∀ h, 4 ≤ s.holders.length → s.victim top = some h → Completes .moverAssign s (fun t => (t.dma c).mover = true ∧ (t.dma h).mover = false ∧
        t.reg (0x5D40 + h) 0x12 = satAdd32 (s.reg (0x5D40 + h) 0x12) 1 ∧ t.reg 0x5D00 6 = wrapAdd64 (s.reg 0x5D00 6) 1)))

/-! ## Timing (chapter 13) -/

/-- QL_FRAME_RX, QL_TIMEOUT, SIGNAL_LOSS, SIGNAL_RETURN, MONITOR_WINDOW_END, WTR_EXPIRY, SWITCH_COMPLETE and REF_ACQUIRE_TIMEOUT (R401, R402, R404 to R406, R408,
R409): a valid quality level counts from the second one in a row, and a bad frame only counts; a timeout, once it is due, falls back to the fixed level; the
last second of a wait to restore ends with its expiry; a candidate that loses its
signal, fails three windows or does not lock in time is disqualified with its cause; and a complete switch is counted and locks on the candidate that is still best. -/
def Obligations.ReferenceCandidatesAreJudged : Prop :=
  ∀ (s : State),
    (∀ c word stop, c < 2 → c < s.time.cands.length →
      let q := bits word 11 8
      let ok := stop = true ∧ bits word 15 12 = 0xA ∧ bits word 7 4 = q ^^^ 0xF ∧ bits word 3 0 = 0
      (ok → Completes (.qlFrameRx c word stop) s (fun t => (t.cand c).lastQl = some q ∧ (t.cand c).qlAt = s.time.tclk ∧ bitAt (t.reg (0x6010 + c) 1) 4 = true ∧
        ((s.cand c).lastQl = some q → (t.cand c).qlReceived = some q ∧ (s.reg (0x6010 + c) 6 ≠ 1 → t.reg (0x6010 + c) 8 = q)) ∧
        ((s.cand c).lastQl ≠ some q → (t.cand c).qlReceived = (s.cand c).qlReceived))) ∧
      (¬ok → Completes (.qlFrameRx c word stop) s (fun t => t.time = s.time ∧ t.reg (0x6010 + c) 0x10 = satAdd32 (s.reg (0x6010 + c) 0x10) 1))) ∧
    (∀ c, c < 4 → c < s.time.cands.length →
      let due := (s.cand c).qlAt + s.reg 0x6000 0x13 * 500000000
      (s.time.tclk < due → exec (.qlTimeout c) s = .next s) ∧
      (due ≤ s.time.tclk → Completes (.qlTimeout c) s (fun t => (t.cand c).lastQl = none ∧ (t.cand c).qlReceived = none ∧
        bitAt (t.reg (0x6010 + c) 1) 4 = false ∧ t.reg (0x6010 + c) 8 = s.reg (0x6010 + c) 7))) ∧
    (∀ c, c < 5 → c < s.time.cands.length →
      (bitAt (s.reg (0x6010 + c) 1) 0 = false → exec (.signalLoss c) s = .next s) ∧
      (bitAt (s.reg (0x6010 + c) 1) 0 = true → Completes (.signalLoss c) s (fun t => bitAt (t.reg (0x6010 + c) 1) 0 = false ∧ bitAt (t.reg (0x6010 + c) 1) 1 = false ∧
        (t.cand c).absent = true ∧ (t.cand c).lossNs = s.tb0Ns ∧ t.reg (0x6010 + c) 0x0E = satAdd32 (s.reg (0x6010 + c) 0x0E) 1 ∧
        (bitAt (s.reg (0x6010 + c) 1) 1 = true → t.reg (0x6010 + c) 0x0A = 1 ∧ t.reg (0x6010 + c) 0x0D = satAdd32 (s.reg (0x6010 + c) 0x0D) 1)))) ∧
    (∀ c, c < 2 → Completes (.signalReturn c) s (fun t => t.time = s.time ∧ t.reg (0x6010 + c) 1 = setBit (s.reg (0x6010 + c) 1) 0)) ∧
    (∀ ys control, s.time.running = false → exec (.monitorWindowEnd ys control) s = .next s) ∧
    (∀ ys control c, s.time.running = true → c < 5 → c < s.time.cands.length → s.reg (0x6010 + c) 2 ≠ 0 →
      let u := if 1 ≤ s.reg 0x6000 1 ∧ s.reg 0x6000 1 ≤ 3 then s.setReg 0x6000 0x0C (ofSigned 32 control) else s
      let cause := u.windowCause ys c
      Completes (.monitorWindowEnd ys control) s (fun t => t.reg 0x6000 0x12 = wrapAdd64 (s.reg 0x6000 0x12) 1 ∧
        t.reg (0x6010 + c) 9 = ofSigned 32 (s.windowY ys c) ∧ (t.cand c).absent = !bitAt (s.reg (0x6010 + c) 1) 0 ∧
        (cause = 0 → (t.cand c).failRun = 0 ∧ (t.cand c).passRun = (s.cand c).passRun + 1 ∧
          (bitAt (s.reg (0x6010 + c) 1) 1 = true → (t.cand c).wtr = if 1 < (s.cand c).wtr then (s.cand c).wtr - 1 else (s.cand c).wtr) ∧
          (3 ≤ (s.cand c).passRun + 1 → bitAt (t.reg (0x6010 + c) 1) 1 = true)) ∧
        (cause ≠ 0 → t.reg (0x6010 + c) 0x0B = satAdd32 (s.reg (0x6010 + c) 0x0B) 1 ∧ (t.cand c).passRun = 0 ∧
          (2 ≤ (s.cand c).failRun → bitAt (t.reg (0x6010 + c) 1) 1 = false ∧ (bitAt (s.reg (0x6010 + c) 1) 1 = true → t.reg (0x6010 + c) 0x0A = cause)) ∧
          ((s.cand c).failRun < 2 → (t.cand c).failRun = (s.cand c).failRun + 1)))) ∧
    (∀ c, c < 5 → c < s.time.cands.length → ((s.cand c).wtr ≠ 1 → exec (.wtrExpiry c) s = .next s) ∧
      ((s.cand c).wtr = 1 → Completes (.wtrExpiry c) s (fun t => (t.cand c).wtr = 0 ∧ t.reg (0x6010 + c) 0x0C = 0))) ∧
    (s.reg 0x6000 1 ≠ 3 → exec .switchComplete s = .next s) ∧
    (s.reg 0x6000 1 = 3 → Completes .switchComplete s (fun t => t.reg 0x6000 0x0E = satAdd32 (s.reg 0x6000 0x0E) 1 ∧
      (s.reg 0x6000 0x11 = 0 → (((s.inc32 0x6000 0x0E 1).enterRef 2 (s.reg 0x6000 2)).refreshCands).bestCand = some (s.reg 0x6000 2) →
        t.reg 0x6000 1 = 2 ∧ t.reg 0x6000 2 = s.reg 0x6000 2))) ∧
    (s.reg 0x6000 1 ≠ 1 → exec .refAcquireTimeout s = .next s) ∧
    (s.reg 0x6000 1 = 1 → s.reg 0x6000 2 < 5 → bitAt (s.reg (0x6010 + s.reg 0x6000 2) 1) 1 = true → Completes .refAcquireTimeout s (fun t =>
      t.reg (0x6010 + s.reg 0x6000 2) 0x0A = 2 ∧ bitAt (t.reg (0x6010 + s.reg 0x6000 2) 1) 1 = false ∧
      t.reg (0x6010 + s.reg 0x6000 2) 0x0D = satAdd32 (s.reg (0x6010 + s.reg 0x6000 2) 0x0D) 1))

/-- PPS, SC_LOAD, SC_LOAD_APPLY, ADJUST, TB_STEP, TB_SET, PTP_EVENT_RX and PTP_MESSAGE_TX (R410, R414, R415, R417 to R419, R424, R425): the seconds boundary is
recorded; an armed load sets SC at its pulse; an offset joins the outstanding one, and a step or a secure SET sets the timebase and clears it; a message of the
selected clock gives the offset, which the servo steps or slews; and a departing Sync carries
TB0, a departing Pdelay_Resp the time since its request came.
The grandmaster fields come with the message (log 21). -/
def Obligations.TimebasesFollowTheirCommands : Prop :=
  ∀ (s : State),
    (s.time.running = false → exec .pps s = .next s) ∧
    (s.time.running = true → Completes .pps s (fun t => t.reg 0x6020 2 = s.sc ∧ t.reg 0x6020 3 = (s.tb 0).sec ∧ t.reg 0x6020 5 = satAdd32 (s.reg 0x6020 5) 1 ∧
      t.time.history = keepHistory s.time.history ⟨(s.tb 0).sec - 1, s.sreg 32 0x6000 0x0C, s.time.secondLocked⟩ ∧ s.fires t 0x308 (s.tb 0).sec)) ∧
    (∀ sess, s.letsCmd sess 0x6020 8 →
      (s.cribImageOff = true → s.rxGroupsOff = true → Completes (.scLoad sess) s (fun t => t.time = { s.time with loadArmed := true } ∧ t.regs = s.regs)) ∧
      ((s.cribImageOff && s.rxGroupsOff) = false → Completes (.scLoad sess) s (fun t => t.time = s.time ∧ t.regs = s.regs))) ∧
    (s.time.loadArmed = true → s.time.running = true → Completes .scLoadApply s (fun t =>
      t.time.sc = s.reg 0x6020 7 ∧ t.time.scAcc = 0 ∧ t.time.loadArmed = false ∧ t.time.tbs = s.time.tbs ∧ t.regs = s.regs)) ∧
    (s.time.loadArmed = false ∨ s.time.running = false → exec .scLoadApply s = .next s) ∧
    (∀ n, n < 8 → n < s.time.tbs.length →
      (∀ sess v, -(2 ^ 63) ≤ v → v < 2 ^ 63 → s.letsCmd sess (0x6040 + n) 3 → n < 6 → s.servoOwns n = false → Completes (.adjust sess n v) s (fun t =>
        t.tb n = { s.tb n with outstanding := (s.tb n).outstanding + v * 2 ^ 32 } ∧ t.regs = s.regs)) ∧
      (∀ sess v, -(2 ^ 63) ≤ v → v < 2 ^ 63 → s.letsCmd sess (0x6040 + n) 3 → (6 ≤ n ∨ s.servoOwns n = true) →
        Completes (.adjust sess n v) s (fun t => t.time = s.time ∧ t.regs = s.regs)) ∧
      (∀ sess, s.letsCmd sess (0x6040 + n) 7 → s.servoOwns n = false → Completes (.tbStep sess n) s (fun t =>
        t.tb n = { s.tb n with sec := s.reg (0x6040 + n) 6 / 2 ^ 32, ns := s.reg (0x6040 + n) 6 % 2 ^ 32, frac := 0, outstanding := 0 } ∧
        t.reg (0x6040 + n) 9 = satAdd32 (s.reg (0x6040 + n) 9) 1)) ∧
      (∀ m, m = 0 ∨ isDsp m = true →
        (∀ secure, n < 6 → exec (.tbSet m secure n) s = .next s) ∧
        (6 ≤ n → Completes (.tbSet m true n) s (fun t => t.regs = s.regs ∧
          t.tb n = { s.tb n with sec := (s.tb n).setSec, ns := (s.tb n).setNs, frac := (s.tb n).setFrac, outstanding := 0 })) ∧
        (6 ≤ n → Completes (.tbSet m false n) s (fun t => t.time = s.time ∧ t.reg 0x5C03 cFabSecure = satAdd32 (s.reg 0x5C03 cFabSecure) 1)))) ∧
    (∀ port (m : PtpMsg), port < 2 → port < s.time.pdelayRx.length → ptpMsgOk m = true → s.reg 0x6070 2 = stOn → s.flag (0x6071 + port) 1 = true →
      let st := if m.portState = 6 ∧ s.flag 0x6070 0x0A = true then s.reg (0x6071 + port) 2 else m.portState
      let off := ((s.tb0Ns : Nat) : Int) - ((s.reg (0x6071 + port) 4 : Nat) : Int) / 1000 - m.origin - m.correction - m.pathDelay - s.sreg 32 (0x6071 + port) 5 / 1000
      let now := ((s.tb0Ns : Nat) : Int) - off
      Completes (.ptpEventRx port m) s (fun t => t.reg (0x6071 + port) 9 = wrapAdd64 (s.reg (0x6071 + port) 9) 1 ∧ t.reg (0x6071 + port) 2 = st ∧
        t.reg 0x6070 0x0D = m.gmIdentity ∧ t.reg 0x6070 0x0E = m.gmClass ∧ (st = 9 → t.time.gmPort = some port) ∧
        (st ≠ 9 → t.time.tbs = s.time.tbs ∧ (s.time.gmPort = some port → t.time.gmPort = none ∧ t.time.servoLocked = false)) ∧
        (m.kind = 2 → nthD 0 t.time.pdelayRx port = s.tb0Ns - s.reg (0x6071 + port) 4 / 1000) ∧
        (st = 9 → m.kind = 0 ∨ m.kind = 8 → t.reg 0x6070 0x0B = ofSigned 64 off ∧ t.reg 0x6070 0x0C = ofSigned 64 m.pathDelay ∧
          bitAt (t.reg 0x6014 1) 0 = true ∧
          (s.flag 0x6070 6 = false → t.time.tbs = s.time.tbs) ∧
          (s.flag 0x6070 6 = true → 0 < s.time.tbs.length →
            ((s.time.servoLocked = false ∨ (s.reg 0x6070 7 ≠ 0 ∧ s.reg 0x6070 7 < off.natAbs)) → t.time.servoLocked = true ∧
              t.tb 0 = { s.tb 0 with sec := (now / 1000000000).toNat, ns := (now % 1000000000).toNat, outstanding := 0 } ∧
              t.reg 0x6040 9 = satAdd32 (s.reg 0x6040 9) 1) ∧
            (s.time.servoLocked = true → s.reg 0x6070 7 = 0 ∨ off.natAbs ≤ s.reg 0x6070 7 →
              t.tb 0 = { s.tb 0 with outstanding := -off * 2 ^ 32 } ∧ t.reg 0x6040 9 = s.reg 0x6040 9))))) ∧
    (∀ port kind, port < 2 → kind < 16 → s.reg 0x6070 2 = stOn → s.flag (0x6071 + port) 1 = true →
      let x := s.tb0Ns + s.reg (0x6071 + port) 3 / 1000
      let inserted := if kind = 0 then beBytes 6 (x / 1000000000) ++ beBytes 4 (x % 1000000000)
        else if kind = 3 then beBytes 8 (ofSigned 64 (((x : Int) - nthD 0 s.time.pdelayRx port) * 65536)) else []
      Completes (.ptpMessageTx port kind) s (fun t => t.outbox = s.outbox ++ [.ptp port kind inserted] ∧
        t.reg (0x6071 + port) 0x0A = wrapAdd64 (s.reg (0x6071 + port) 0x0A) 1)) ∧
    (∀ port kind (m : PtpMsg), port < 2 → kind < 16 → ptpMsgOk m = true → s.reg 0x6070 2 ≠ stOn ∨ s.flag (0x6071 + port) 1 = false →
      exec (.ptpEventRx port m) s = .next s ∧ exec (.ptpMessageTx port kind) s = .next s)

/-- TOUT_TIME_REACHED, TOUT_EVENT, TOUT_PULSE_END and TIN_CAPTURE (R420 to R422): a due edge or an event at tout.pulse starts a pulse, which leaves on its ball; an
event in a pulse makes it longer; the pulse ends on the ball once its width has gone by; a glitch only counts; and an edge of a selected direction is captured with TB and SC. -/
def Obligations.PulsesAndCaptures : Prop :=
  ∀ (s : State) (k : Nat), k < 8 →
    let started := fun (t : State) => (t.tout k).active = true ∧ (t.tout k).endsAt = s.time.tclk + s.reg (0x6050 + k) 5 / 2 ∧
      t.reg (0x6050 + k) 7 = wrapAdd64 (s.reg (0x6050 + k) 7) 1 ∧ t.outbox = s.outbox ++ [.tout k (s.toutLevel k true)]
    let free := (s.tout k).active = false
    (k < s.time.touts.length →
      (s.time.running = true → s.reg (0x6050 + k) 1 = 1 ∨ s.reg (0x6050 + k) 1 = 2 → free → Completes (.toutTimeReached k) s started) ∧
      (s.time.running = false ∨ (s.reg (0x6050 + k) 1 ≠ 1 ∧ s.reg (0x6050 + k) 1 ≠ 2) ∨ ¬free → exec (.toutTimeReached k) s = .next s) ∧
      ((s.held (0x300 + k)).isSome = true →
        (s.reg (0x6050 + k) 1 = 3 → free → Completes (.toutEvent k) s started) ∧
        (s.reg (0x6050 + k) 1 = 3 → ¬free → Completes (.toutEvent k) s (fun t => (t.tout k).active = true ∧
          (t.tout k).endsAt = s.time.tclk + s.reg (0x6050 + k) 5 / 2 ∧ t.reg (0x6050 + k) 8 = satAdd32 (s.reg (0x6050 + k) 8) 1 ∧ t.outbox = s.outbox)) ∧
        (s.reg (0x6050 + k) 1 ≠ 3 → Completes (.toutEvent k) s (fun t => (t.input (0x300 + k)).held = (s.input (0x300 + k)).queued ∧
          t.time = s.time ∧ t.regs = s.regs))) ∧
      (s.held (0x300 + k) = none → exec (.toutEvent k) s = .next s) ∧
      (¬free → s.time.tclk < (s.tout k).endsAt → exec (.toutPulseEnd k) s = .next s) ∧
      (¬free → (s.tout k).endsAt ≤ s.time.tclk → Completes (.toutPulseEnd k) s (fun t => (t.tout k).active = false ∧ t.outbox = s.outbox ++ [.tout k (s.toutLevel k false)] ∧ t.regs = s.regs)) ∧
      (free → exec (.toutPulseEnd k) s = .next s)) ∧
    (∀ rising held,
      let dir := if rising then 1 else 2
      let sel := s.reg (0x6060 + k) 1
      (held < s.reg (0x6060 + k) 3 → Completes (.tinCapture k rising held) s (fun t => t.reg (0x6060 + k) 8 = satAdd32 (s.reg (0x6060 + k) 8) 1 ∧ t.time = s.time)) ∧
      (s.reg (0x6060 + k) 3 ≤ held → sel = dir ∨ sel = 3 → Completes (.tinCapture k rising held) s (fun t =>
        t.reg (0x6060 + k) 4 = s.tb80 (s.reg (0x6060 + k) 2) ∧ t.reg (0x6060 + k) 5 = s.sc ∧ t.reg (0x6060 + k) 6 = dir ∧
        t.reg (0x6060 + k) 7 = wrapAdd64 (s.reg (0x6060 + k) 7) 1 ∧ s.fires t (0x300 + k) dir)) ∧
      (s.reg (0x6060 + k) 3 ≤ held → sel ≠ dir → sel ≠ 3 → Completes (.tinCapture k rising held) s (fun t =>
        t.regs = s.regs ∧ t.time.tin = modNth (fun _ => rising) s.time.tin k)))

/-! ## Position (chapter 14) -/

/-- ENCODER_EDGE, HALL_STATE, SSI_FRAME, INDEX_EDGE, AXIS_PRESET, OBSERVER_UPDATE and STANDSTILL (R432 to R438): a glitch only counts; an edge, a Hall state or an SSI
frame moves the position by its count in the sense of the invert entry, and an impossible one is an error; an index or a preset records or sets the position; the
observer advances by its three gains; and a standstill, once no count has come for its
time, clears speed and observer.
Where the observer starts is the model's choice (log 24). -/
def Obligations.PositionsFollowTheirSensors : Prop :=
  ∀ (s : State) (a : Nat), a < 4 → a < s.pos.axes.length →
    let i := 0x6400 + a
    let movedBy := fun (d : Int) (t : State) => t.reg i 9 = ofSigned 64 (s.position a + d)
    let failed := fun (t : State) => t.reg i 0x11 = satAdd32 (s.reg i 0x11) 1 ∧ t.reg i 9 = s.reg i 9
    let glitched := fun (t : State) => t.reg i 0x12 = satAdd32 (s.reg i 0x12) 1 ∧ t.reg i 9 = s.reg i 9 ∧ t.pos = s.pos
    (s.board.inspect = true → s.axisOn a = true →
      (s.reg i 3 = 0 →
        (∀ x y held, held < s.reg i 5 → Completes (.encoderEdge a x y held) s glitched ∧ Completes (.indexEdge a held) s glitched) ∧
        (∀ x y held, s.reg i 5 ≤ held →
          let d := s.sense a (quadStep (s.axis a).a (s.axis a).b x y)
          ((x ≠ (s.axis a).a ∧ y ≠ (s.axis a).b) → Completes (.encoderEdge a x y held) s (fun t => failed t ∧ (t.axis a).a = x ∧ (t.axis a).b = y)) ∧
          ((x = (s.axis a).a ∨ y = (s.axis a).b) → Completes (.encoderEdge a x y held) s (fun t => (t.axis a).a = x ∧ (t.axis a).b = y ∧
            (d ≠ 0 → movedBy d t) ∧ (d = 0 → t.regs = s.regs)))) ∧
        (∀ held, s.reg i 5 ≤ held →
          (s.reg i 6 = 0 → exec (.indexEdge a held) s = .next s) ∧
          (s.reg i 6 = 1 → Completes (.indexEdge a held) s (fun t => t.reg i 0x10 = ofSigned 64 (s.position a) ∧ t.pos = s.pos ∧ s.fires t (0x314 + a) 0)) ∧
          (s.reg i 6 = 2 → Completes (.indexEdge a held) s (fun t => t.reg i 0x10 = ofSigned 64 (s.position a) ∧ t.reg i 6 = 1 ∧
            t.reg i 9 = ofSigned 64 (s.sreg 64 i 7))))) ∧
      (s.reg i 3 = 1 → ∀ h held, h < 8 →
        (held < s.reg i 5 → Completes (.hallState a h held) s glitched) ∧
        (s.reg i 5 ≤ held →
          ((s.axis a).hall = none → hallRank h ≠ none → Completes (.hallState a h held) s (fun t => (t.axis a).hall = some h ∧ t.regs = s.regs)) ∧
          (hallRank h = none → Completes (.hallState a h held) s (fun t => (t.axis a).hall = none ∧ failed t)) ∧
          (∀ g n, (s.axis a).hall = some g → hallRank h = some n →
            let d := (n + 6 - (hallRank g).getD 0) % 6
            (d = 0 → exec (.hallState a h held) s = .next s) ∧
            (d = 1 → Completes (.hallState a h held) s (fun t => (t.axis a).hall = some h ∧ movedBy (s.sense a 1) t)) ∧
            (d = 5 → Completes (.hallState a h held) s (fun t => (t.axis a).hall = some h ∧ movedBy (s.sense a (-1)) t)) ∧
            (2 ≤ d → d ≤ 4 → Completes (.hallState a h held) s (fun t => (t.axis a).hall = none ∧ failed t))))) ∧
      (s.reg i 3 = 2 → ∀ value parity,
        let n := s.reg i 0x14
        let v := value % 2 ^ n
        let bin := if s.reg i 0x17 = 1 then grayToBin n v % 2 ^ n else v
        (ssiParityOk (s.reg i 0x18) n v parity = false → Completes (.ssiFrame a value parity) s (fun t => failed t ∧ t.pos = s.pos)) ∧
        (ssiParityOk (s.reg i 0x18) n v parity = true →
          ((s.axis a).ssiRef = none → Completes (.ssiFrame a value parity) s (fun t => (t.axis a).ssiRef = some bin ∧ t.regs = s.regs)) ∧
          (∀ r, (s.axis a).ssiRef = some r →
            let d : Int := (((bin : Int) - r + ((2 ^ (n - 1) : Nat) : Int)) % ((2 ^ n : Nat) : Int)) - ((2 ^ (n - 1) : Nat) : Int)
            (s.reg i 0x19 < d.natAbs → Completes (.ssiFrame a value parity) s (fun t => failed t ∧ t.pos = s.pos)) ∧
            (d.natAbs ≤ s.reg i 0x19 → s.sense a d ≠ 0 → Completes (.ssiFrame a value parity) s (fun t => (t.axis a).ssiRef = some bin ∧ movedBy (s.sense a d) t))))) ∧
      (let x := s.axis a
       let gain := fun sub => fmt32.convert fmt64 (s.reg i sub)
       let e := fmt64.sub (fmt64.ofInt (s.position a)) x.phat
       Completes (.observerUpdate a) s (fun t => (t.axis a).phat = fmt64.add (fmt64.add x.phat x.vhat) (fmt64.mul (gain 0x0D) e) ∧
         (t.axis a).vhat = fmt64.add (fmt64.add x.vhat x.ahat) (fmt64.mul (gain 0x0E) e) ∧ (t.axis a).ahat = fmt64.add x.ahat (fmt64.mul (gain 0x0F) e) ∧
         (x.speedOn = true → t.reg i 0x0A = fmt64.convert fmt32 (fmt64.mul (t.axis a).vhat (fmt64.ofInt 1000000))) ∧ t.reg i 9 = s.reg i 9)) ∧
      (bitAt (s.reg i 0x0B) 0 = false → s.time.tclk < (s.axis a).lastCount + s.reg i 0x0C * 500000 → exec (.standstill a) s = .next s) ∧
      (bitAt (s.reg i 0x0B) 0 = false → (s.axis a).lastCount + s.reg i 0x0C * 500000 ≤ s.time.tclk → Completes (.standstill a) s (fun t => bitAt (t.reg i 0x0B) 0 = true ∧ t.reg i 0x0A = 0 ∧ (t.axis a).vhat = 0 ∧
        (t.axis a).ahat = 0 ∧ (t.axis a).phat = fmt64.ofInt (s.position a) ∧ s.fires t (0x318 + a) 0)) ∧
      (bitAt (s.reg i 0x0B) 0 = true → exec (.standstill a) s = .next s)) ∧
    (s.board.inspect = true → s.axisOn a = false → s.reg i 3 = 0 → ∀ x y held, s.reg i 5 ≤ held → Completes (.encoderEdge a x y held) s (fun t =>
      (t.axis a).a = x ∧ (t.axis a).b = y ∧ t.regs = s.regs)) ∧
    (s.board.inspect = true → s.reg i 3 = 2 → s.reg i 2 = stEnabling → (s.axis a).ssiRef = none → ∀ value parity,
      ssiParityOk (s.reg i 0x18) (s.reg i 0x14) (value % 2 ^ s.reg i 0x14) parity = true → Completes (.ssiFrame a value parity) s (fun t => t.reg i 2 = stOn ∧ t.direction a = 0)) ∧
    (∀ sess, s.letsCmd sess i 8 → Completes (.axisPreset sess a) s (fun t => t.reg i 9 = ofSigned 64 (s.sreg 64 i 7)))

/-- COMPARE_PLACE, MARKER_ENTRY_ARRIVE, COMPARE_CLEAR and CMPOUT_PULSE_END (R440 to R444): an entry placed is ARMED, fires at once or is MISSED, by where its axis
stands; a marker's entry that finds no room is counted; a clear cancels every entry; and a pulse ends on its ball when its width has gone by.
TIMER_LINE_EDGE, LINE_EDGE_EMIT and LTRIG_PULSE (R445 to R447): a timer edge is owed, or lost when 255 are; an owed edge leaves, not before min_interval, with
position, SC and TB0 latched; and the oldest edge in flight at a ball pulses it for its width when its delay has run out.
The line index an edge takes while the front end is OFF is the model's choice (log 23). -/
def Obligations.ComparesAndLineEdges : Prop :=
  (∀ (s : State) (m : Nat), m < 4 → m < s.pos.lists.length →
      let i := 0x6410 + m
      let l := s.clist m
      let placed := fun (e : CompareEntry) (t : State) =>
        let p := s.position e.axis
        let test := placeTest e p (s.direction e.axis)
        (test = .stays → (t.clist m).entries = l.entries ++ [{ e with above := decide (p < e.target) }] ∧ t.reg i 0x0D = l.entries.length + 1 ∧ t.outbox = s.outbox) ∧
        (test = .fires → (t.clist m).entries = l.entries ∧ (t.clist m).active = true ∧ (t.clist m).endsAt = 2 * s.time.tclk + 5 * s.reg i 3 ∧
          t.reg i 0x0E = wrapAdd64 (s.reg i 0x0E) 1 ∧ s.fires t (0x320 + m) e.tag ∧
          (l.active = false → t.outbox = s.outbox ++ [.cmpout m (s.cmpLevel m true)]) ∧
          (l.active = true → t.outbox = s.outbox ∧ t.reg i 0x11 = satAdd32 (s.reg i 0x11) 1)) ∧
        (test = .missed → (t.clist m).entries = l.entries ∧ t.reg i 0x0F = satAdd32 (s.reg i 0x0F) 1 ∧ t.reg i 0x12 = ofSigned 64 e.target ∧ t.reg i 0x13 = e.tag ∧
          s.fires t (0x324 + m) e.tag)
      (∀ sess, s.letsCmd sess i 0x0B →
        let e : CompareEntry := ⟨s.reg i 7, s.sreg 64 i 8, s.reg i 9, s.reg i 0x0A, false, false⟩
        let room := s.placeable m e.axis (if l.arriving.isEmpty then 1 else 2)
        (e.dir ≤ 2 → room = true → Completes (.comparePlace sess m) s (placed e)) ∧
        (2 < e.dir ∨ room = false → Completes (.comparePlace sess m) s (fun t => t.pos = s.pos ∧ t.regs = s.regs))) ∧
      (l.arriving = [] → exec (.markerEntryArrive m) s = .next s) ∧
      (∀ e rest, l.arriving = e :: rest →
        (s.placeable m e.axis 1 = true → Completes (.markerEntryArrive m) s (fun t => (t.clist m).arriving = rest ∧ placed e t ∧
          t.reg (0x4490 + m) 7 = satAdd32 (s.reg (0x4490 + m) 7) 1)) ∧
        (s.placeable m e.axis 1 = false → Completes (.markerEntryArrive m) s (fun t => (t.clist m).arriving = rest ∧ (t.clist m).entries = l.entries ∧
          t.reg (0x4490 + m) 8 = satAdd32 (s.reg (0x4490 + m) 8) 1 ∧ s.fires t 0x87 m))) ∧
      (∀ sess, s.letsCmd sess i 0x0C → Completes (.compareClear sess m) s (fun t => (t.clist m).entries = [] ∧
        (l.entries ≠ [] → t.reg i 0x0D = 0 ∧ t.reg i 0x10 = satAdd32 (s.reg i 0x10) l.entries.length))) ∧
      (l.active = true → 2 * s.time.tclk < l.endsAt → exec (.cmpoutPulseEnd m) s = .next s) ∧
      (l.active = true → l.endsAt ≤ 2 * s.time.tclk → Completes (.cmpoutPulseEnd m) s (fun t => (t.clist m).active = false ∧ (t.clist m).entries = l.entries ∧
        t.outbox = s.outbox ++ [.cmpout m (s.cmpLevel m false)] ∧ t.regs = s.regs)) ∧
      (l.active = false → exec (.cmpoutPulseEnd m) s = .next s)) ∧
  (∀ (s : State),
      let g := s.pos.gen
      let timer := s.board.inspect = true ∧ s.reg 0x6420 2 = stOn ∧ s.reg 0x6420 3 = 4
      let late := 0 < g.owed ∨ ∃ d, s.sinceEdge = some d ∧ d < s.reg 0x6420 6
      (¬timer → exec .timerLineEdge s = .next s) ∧
      (timer →
        (g.owed < 255 → Completes .timerLineEdge s (fun t => t.pos.gen = { g with k := g.k + 1, owed := g.owed + 1 } ∧
          (late → t.reg 0x6420 8 = satAdd32 (s.reg 0x6420 8) 1) ∧ (¬late → t.regs = s.regs))) ∧
        (255 ≤ g.owed → Completes .timerLineEdge s (fun t => t.pos.gen = { g with k := g.k + 1 } ∧ t.reg 0x6420 9 = satAdd32 (s.reg 0x6420 9) 1))) ∧
      let soon := ∃ d, s.sinceEdge = some d ∧ d < s.reg 0x6420 6
      (g.owed = 0 ∨ soon → exec .lineEdgeEmit s = .next s) ∧
      (0 < g.owed → ¬soon → Completes .lineEdgeEmit s (fun t => t.pos.gen.owed = g.owed - 1 ∧ t.pos.gen.lastOut = some s.time.tclk ∧ t.reg 0x6420 7 = wrapAdd64 (s.reg 0x6420 7) 1 ∧
        t.reg 0x6420 0x0A = ofSigned 64 (if s.reg 0x6420 3 < 4 then s.position (s.reg 0x6420 3) else 0) ∧ t.reg 0x6420 0x0B = s.sc ∧ t.reg 0x6420 0x0C = s.tb80 0 ∧
        s.fires t 0x328 s.nextEdgeIndex ∧ t.pos.gen.feed.length = (if s.reg 0x4000 2 = stOff then g.feed.length else g.feed.length + 1) ∧
        ∀ j, j < 16 → s.flag (0x6430 + j) 1 = true → (⟨j, s.reg (0x6430 + j) 2, 2 * s.time.tclk + 5 * s.reg (0x6430 + j) 2⟩ : LtrigPulse) ∈ t.pos.gen.inFlight)) ∧
      (∀ j, j < 16 →
        (∀ p, g.inFlight.find? (fun p => p.ball = j) = some p →
          (2 * s.time.tclk < p.due → exec (.ltrigPulse j) s = .next s) ∧
          (p.due ≤ 2 * s.time.tclk → Completes (.ltrigPulse j) s (fun t => t.pos.gen.inFlight = dropPulse j g.inFlight ∧ t.regs = s.regs ∧
            t.outbox = s.outbox ++ [.ltrig j (!s.flag (0x6430 + j) 4) (s.reg (0x6430 + j) 3)]))) ∧
        ((∀ p ∈ g.inFlight, p.ball ≠ j) → exec (.ltrigPulse j) s = .next s)))

/-! ## Dowel and event counters (chapter 16) -/

/-- EVENT_TAKE, CONSUMER_TAKE, RELAY_EMIT, SOFT_EVENT and CHANNEL_ATTR (R486 to R493, R495, R498): an event that one channel takes
(R494: one that was ON before its tick) is delivered to its free input, or held
by the gate, or discarded as a loop; a consumer takes its delivery and does what its own command does; a relay sends on what it holds once its
delay has gone by; a soft event fires at the next tick, once; and a secure ATTR write gives a channel that is OFF its owner and attribute. -/
def Obligations.EventsReachTheirInputs : Prop :=
  ∀ (s : State),
    let pages := fun (m : Nat) => m = 0 ∨ isDsp m = true
    (s.time.running = false ∨ (∀ e ∈ s.dowel.fired, s.time.tclk < e.tick) → exec .eventTake s = .next s) ∧
    (∀ e c, s.time.running = true → s.dowel.fired = [e] → e.tick ≤ s.time.tclk → c < 256 →
      (s.idxWith 0x6900 0x69FF 5 e.source).filter (fun i => s.channelTakes (i - 0x6900) e) = [0x6900 + c] →
      let i := 0x6900 + c
      let id := s.reg i 6
      let seen := if 0x400 ≤ e.source then e.visited else 0
      (s.flag i 4 || (!s.sourceSecure e.source && !s.inputSecure id)) = true →
        (bitAt seen c = true → Completes .eventTake s (fun t => t.dowel.fired = [] ∧ t.reg i 0x0C = satAdd32 (s.reg i 0x0C) 1 ∧ t.dowel.inputs = s.dowel.inputs)) ∧
        (bitAt seen c = false → s.gateLevel (s.reg i 7) = s.flag i 8 → Completes .eventTake s (fun t => t.dowel.fired = [] ∧
          t.reg i 0x0B = satAdd32 (s.reg i 0x0B) 1 ∧ t.dowel.inputs = s.dowel.inputs)) ∧
        (bitAt seen c = false → s.gateLevel (s.reg i 7) ≠ s.flag i 8 → Completes .eventTake s (fun t => t.dowel.fired = [] ∧
          t.reg i 0x0A = wrapAdd64 (s.reg i 0x0A) 1 ∧ t.reg i 0x0E = e.sc ∧ t.reg i 0x0F = e.payload ∧ (t.input id).delivered = wrapAdd64 (s.input id).delivered 1 ∧
          ((s.input id).held = none → id < 0x381 ∨ 0x388 < id → ∃ d, (t.input id).held = some d ∧ d.since = s.time.tclk ∧ d.channel = c ∧ d.event.source = e.source ∧
            d.event.payload = e.payload ∧ d.event.sc = e.sc ∧ bitAt d.event.visited c = true)))) ∧
    (∀ id, id < 0x428 → inputExists s.board id = false ∨ s.held id = none → exec (.consumerTake id) s = .next s) ∧
    (∀ id, (0x300 ≤ id ∧ id < 0x308) ∨ (0x381 ≤ id ∧ id ≤ 0x388) ∨ (0x390 ≤ id ∧ id < 0x394) ∨ (0x420 ≤ id ∧ id < 0x428) → (s.held id).isSome = true →
      Completes (.consumerTake id) s (fun t => (t.input id).held = (s.input id).queued)) ∧
    (∀ k, (s.held (0x300 + k)).isSome = true → k < 8 → exec (.consumerTake (0x300 + k)) s = exec (.toutEvent k) s) ∧
    (∀ k, (s.held (0x390 + k)).isSome = true → k < 4 → exec (.consumerTake (0x390 + k)) s = exec (.alertDelivery k) s) ∧
    (∀ r, r < 32 →
      (s.held (0x400 + r) = none → exec (.relayEmit r) s = .next s) ∧
      (∀ d, (s.input (0x400 + r)).held = some d → exec (.consumerTake (0x400 + r)) s = exec (.relayEmit r) s ∧
        (s.time.tclk < d.since + 1 + s.reg (0x6810 + r) 1 → exec (.relayEmit r) s = .next s) ∧
        (d.since + 1 + s.reg (0x6810 + r) 1 ≤ s.time.tclk → Completes (.relayEmit r) s (fun t =>
          t.dowel.fired = s.dowel.fired ++ [{ d.event with source := 0x400 + r, tick := s.time.tclk }] ∧ (t.input (0x400 + r)).held = (s.input (0x400 + r)).queued ∧
          t.reg (0x6810 + r) 2 = wrapAdd64 (s.reg (0x6810 + r) 2) 1)))) ∧
    (∀ n via, n < 32 → (∃ sess, via = .fdp sess ∧ s.letsCmd sess 0x6800 2) ∨ (∃ m secure, via = .page m secure ∧ pages m) →
      ((∃ e ∈ s.dowel.fired, e.source = 0x380 + n ∧ e.tick = s.time.tclk + 1) → Completes (.softEvent via n) s (fun t => t.dowel = s.dowel ∧ t.regs = s.regs)) ∧
      ((∀ e ∈ s.dowel.fired, ¬(e.source = 0x380 + n ∧ e.tick = s.time.tclk + 1)) → Completes (.softEvent via n) s (fun t =>
        t.dowel.fired = s.dowel.fired ++ [⟨0x380 + n, 0, s.sc, 0, 0, s.time.tclk + 1⟩]))) ∧
    (∀ m c v, c < 256 → pages m →
      let owner := bits v 63 56
      let sec := bitAt v 55
      let i := 0x6900 + c
      Completes (.channelAttr m false c v) s (fun t => t.reg 0x5C03 cFabSecure = satAdd32 (s.reg 0x5C03 cFabSecure) 1 ∧ t.reg i 3 = s.reg i 3 ∧ t.reg i 4 = s.reg i 4) ∧
      (s.pageOwner m c = true → s.reg i 2 = stOff → s.ownerCheck owner = 0 → s.secureOk sec (s.reg i 5) (s.reg i 6) = true →
        Completes (.channelAttr m true c v) s (fun t => t.reg i 3 = owner ∧ t.reg i 4 = ofBool sec)) ∧
      (s.pageOwner m c = false ∨ s.reg i 2 ≠ stOff → Completes (.channelAttr m true c v) s (fun t => t.reg i 3 = s.reg i 3 ∧ t.reg i 4 = s.reg i 4 ∧
        t.reg 0x6800 6 = satAdd32 (s.reg 0x6800 6) 1)))

/-- ALERT_DELIVERY, ALERT_PULSE_END, ALERT_RELEASE, SNAPSHOT_TIME, SNAPSHOT_EVENT, SNAP_NOW, COUNTER_CLEAR, OVF_CLEAR and COUNTER_WRAP (R496, R501 to R503): a delivery
drives its ball as the mode says; a pulse ends when its width has gone by, and a latched ball is released; a snapshot, at its time or by an event, copies every counter of its group that is ON, at most once a tick; and a
counter is cleared, its overflow flag is cleared by writing 1, and a wrap sets it. -/
def Obligations.AlertsAndCounters : Prop :=
  ∀ (s : State),
    (∀ k, k < 4 →
      let i := 0x6830 + k
      (s.held (0x390 + k) = none → exec (.alertDelivery k) s = .next s) ∧
      ((s.held (0x390 + k)).isSome = true → k < s.dowel.alerts.length → Completes (.alertDelivery k) s (fun t => t.reg i 5 = satAdd32 (s.reg i 5) 1 ∧
        (t.input (0x390 + k)).held = (s.input (0x390 + k)).queued ∧
        (s.reg i 1 = 1 → t.reg i 3 = 1 ∧ t.alertBall k = { s.alertBall k with pulse := some (s.time.tclk + 1 + s.reg i 2) }) ∧
        (s.reg i 1 = 2 → t.reg i 3 = 1 ∧ t.alertBall k = { s.alertBall k with latched := true }) ∧
        (s.reg i 1 ≠ 1 → s.reg i 1 ≠ 2 → t.reg i 3 = s.reg i 3 ∧ t.alertBall k = s.alertBall k))) ∧
      (∀ e, (s.alertBall k).pulse = some e → (s.time.tclk < e → exec (.alertPulseEnd k) s = .next s) ∧
        (e ≤ s.time.tclk → k < s.dowel.alerts.length → Completes (.alertPulseEnd k) s (fun t =>
          t.reg i 3 = ofBool (s.alertBall k).latched ∧ t.alertBall k = { s.alertBall k with pulse := none }))) ∧
      ((s.alertBall k).pulse = none → exec (.alertPulseEnd k) s = .next s) ∧
      (∀ sess, s.letsCmd sess i 4 →
        ((s.alertBall k).latched = true → k < s.dowel.alerts.length → Completes (.alertRelease sess k) s (fun t =>
          t.reg i 3 = ofBool (s.alertBall k).pulse.isSome ∧ t.alertBall k = { s.alertBall k with latched := false })) ∧
        ((s.alertBall k).latched = false → Completes (.alertRelease sess k) s (fun t => t.regs = s.regs ∧ t.dowel = s.dowel)))) ∧
    (∀ g, g < 8 → g < s.dowel.snapTick.length → nthD none s.dowel.snapTick g ≠ some s.time.tclk → sorted s.regs = true →
      let i := 0x6A10 + g
      let taken := fun (t : State) => t.reg i 5 = wrapAdd64 (s.reg i 5) 1 ∧ t.reg i 6 = s.tb80 0 ∧ t.reg i 7 = s.sc ∧
        nthD none t.dowel.snapTick g = some s.time.tclk ∧ ∀ n, n < 64 → n < s.dowel.counters.length → s.reg (0x6A40 + n) 2 = stOn → s.reg (0x6A40 + n) 5 = g →
          t.reg (0x6A40 + n) 7 = s.counter n ∧ t.counter n = if s.flag i 4 then 0 else s.counter n
      let due := (s.reg i 1 = 1 ∨ s.reg i 1 = 3) ∧ nthD false s.dowel.snapDone g = false ∧ nsOfTime80 (s.reg i 2) ≤ s.tb0Ns
      (due → g < s.dowel.snapDone.length → Completes (.snapshotTime g) s (fun t => taken t ∧ nthD false t.dowel.snapDone g = decide (s.reg i 3 = 0) ∧
        t.reg i 2 = if s.reg i 3 = 0 then s.reg i 2 else time80OfNs (nextSnapTime (nsOfTime80 (s.reg i 2)) (s.reg i 3) s.tb0Ns))) ∧
      (¬due → exec (.snapshotTime g) s = .next s) ∧
      ((s.held (0x420 + g)).isSome = true → s.reg i 1 = 2 ∨ s.reg i 1 = 3 → Completes (.snapshotEvent g) s taken) ∧
      ((s.held (0x420 + g)).isSome = true → s.reg i 1 ≠ 2 → s.reg i 1 ≠ 3 → Completes (.snapshotEvent g) s (fun t => t.regs = s.regs ∧
        (t.input (0x420 + g)).held = (s.input (0x420 + g)).queued)) ∧
      (∀ sess, s.letsCmd sess i 8 → Completes (.snapNow sess g) s taken)) ∧
    (∀ n, n < 64 →
      let i := 0x6A40 + n
      (∀ via, (∃ sess, via = .fdp sess ∧ s.letsCmd sess i 9) ∨ (∃ m secure, via = .page m secure ∧ (m = 0 ∨ isDsp m = true)) →
        Completes (.counterClear via n) s (fun t => t.counter n = 0 ∧ t.regs = s.regs)) ∧
      (∀ sess, s.lets sess i 8 → Completes (.ovfClear sess n) s (fun t => t.reg i 8 = s.reg i 8 - (s.reg i 8 &&& 1) ∧ t.dowel = s.dowel)) ∧
      (s.reg i 2 = stOn → s.reg i 4 ≠ 2 → s.counter n = 2 ^ 48 - 1 → Completes (.counterWrap n) s (fun t => t.counter n = 0 ∧ t.reg i 8 = 1)) ∧
      (s.counter n ≠ 2 ^ 48 - 1 → exec (.counterWrap n) s = .next s))

/-! ## Availability, power and test access (chapters 17 to 19) -/

/-- LOCKSTEP_MISMATCH, WATCHDOG_EXPIRY, FAILOVER, PAIR_SELFTEST_COMPLETE, ACTIVATE, LOADING_COMPLETE, HANDOVER_COMPLETE, PROBATION_END and FIRMWARE_FLASH_COMPLETE (R512,
R513, R518 to R520, R526): a failing ACTIVE pair goes to SELFTEST and the STANDBY pair takes over, or none is ACTIVE; an update loads the STANDBY pair, hands over,
and after probation, no sooner than its end, keeps its slot; and a failover ends an update in progress,
or restarts a probation it was commanded in. The gap of a failover is a free value of at most 2 ms (log 4).
What the check of an image finds is a free value (log 8). -/
def Obligations.PairsFailOverAndUpdate : Prop :=
  ∀ (s : State),
    let a := s.reg 0x7020 1
    let b := 1 - a
    let u := s.reg 0x7010 4
    let takesOver := fun (cause : Nat) (t : State) => t.pair a = 2 ∧ t.pair b = 0 ∧ t.reg 0x7020 1 = b ∧ t.reg 0x7020 4 = satAdd32 (s.reg 0x7020 4) 1 ∧
      t.reg 0x7020 5 = cause ∧ t.reg 0x7020 7 ≤ 2000 ∧ t.avail.dead = s.avail.dead ∧
      t.reg 0x7010 4 = (if u = 1 ∨ u = 2 then 5 else if u = 3 ∧ cause ≠ 4 then 6 else u) ∧
      t.avail.probationEnds = (if u = 3 ∧ cause = 4 then s.time.tclk + s.reg 0x7010 9 * 500000000 else s.avail.probationEnds)
    (∀ i cause, (i = Instr.lockstepMismatch ∧ cause = 1) ∨ (i = Instr.watchdogExpiry ∧ cause = 2) →
      (s.mgmtRuns = false → exec i s = .next s) ∧
      (s.mgmtRuns = true → a ≤ 1 → (s.pair b = 1 ∨ s.pair b = 4 → Completes i s (takesOver cause)) ∧
        (s.pair b ≠ 1 → s.pair b ≠ 4 → Completes i s (fun t => t.pair a = 2 ∧ t.avail.dead = true ∧ t.reg 0x7020 1 = a)))) ∧
    (∀ sess, s.lets sess 0x7020 6 → (a ≤ 1 → s.pair b = 1 → Completes (.failover sess) s (takesOver 4)) ∧
      (s.hasStandby = false → Completes (.failover sess) s (fun t => t.regs = s.regs ∧ t.avail = s.avail))) ∧
    (∀ passed, (s.pair 0 = 2 → Completes (.pairSelftestComplete passed) s (fun t => t.pair 0 = (if passed then 1 else 3) ∧ t.pair 1 = s.pair 1)) ∧
      (s.pair 0 ≠ 2 → s.pair 1 = 2 → Completes (.pairSelftestComplete passed) s (fun t => t.pair 1 = (if passed then 1 else 3) ∧ t.pair 0 = s.pair 0)) ∧
      (s.pair 0 ≠ 2 → s.pair 1 ≠ 2 → exec (.pairSelftestComplete passed) s = .next s)) ∧
    (∀ sess, s.lets sess 0x7010 3 →
      (s.canActivate = true → Completes (.activate sess) s (fun t => t.reg 0x7010 4 = 1 ∧ t.pair (if s.pair 0 = 1 then 0 else 1) = 4)) ∧
      (s.canActivate = false → Completes (.activate sess) s (fun t => t.regs = s.regs ∧ t.avail = s.avail))) ∧
    (u = 1 → Completes .loadingComplete s (fun t => t.reg 0x7010 4 = 2 ∧ t.avail = s.avail)) ∧
    (u ≠ 1 → exec .loadingComplete s = .next s) ∧
    (∀ gap, (u = 2 → a ≤ 1 → Completes (.handoverComplete gap) s (fun t => t.pair a = 1 ∧ t.pair b = 0 ∧ t.reg 0x7020 1 = b ∧ t.reg 0x7020 5 = 3 ∧
        t.reg 0x7020 7 = gap % 2 ^ 32 ∧ t.reg 0x7010 5 = 1 - s.reg 0x7010 5 ∧ t.avail.prevSlot = s.reg 0x7010 5 ∧ t.reg 0x7010 4 = 3 ∧
        t.avail.probationEnds = s.time.tclk + s.reg 0x7010 9 * 500000000 ∧ t.reg 0x1000 5 = (s.fwSlot (1 - s.reg 0x7010 5)).version)) ∧
      (u ≠ 2 → exec (.handoverComplete gap) s = .next s)) ∧
    (u = 3 → s.avail.probationEnds ≤ s.time.tclk → Completes .probationEnd s (fun t => t.nv.bootSlot = s.reg 0x7010 5 ∧ t.reg 0x7010 6 = s.reg 0x7010 5 ∧ t.reg 0x7010 4 = 4 ∧
      t.reg 0x7010 0x0A = satAdd32 (s.reg 0x7010 0x0A) 1)) ∧
    (u ≠ 3 ∨ s.time.tclk < s.avail.probationEnds → exec .probationEnd s = .next s) ∧
    (s.reg 0x7010 2 = 1 →
      Completes (.firmwareFlashComplete false) s (fun t => t.reg 0x7010 2 = 5 ∧ t.nv = s.nv) ∧
      (s.power.recovery = false → s.targetSlot < s.nv.slots.length → Completes (.firmwareFlashComplete true) s (fun t => t.reg 0x7010 2 = 2 ∧
        t.fwSlot s.targetSlot = ⟨s.avail.imageVersion, s.avail.imageCrc, 1⟩ ∧ t.reg 0x7010 (7 + s.targetSlot) = s.avail.imageVersion)) ∧
      (s.power.recovery = true → s.power.pwrEn = true → Completes (.firmwareFlashComplete true) s (fun t => t.nv.bootSlot = 0 ∧ t.pwState = pwStarting ∧ t.reg 0x7800 2 = 5))) ∧
    (∀ ok, s.reg 0x7010 2 ≠ 1 → exec (.firmwareFlashComplete ok) s = .next s)

/-- KEEP, KEEP_TIMEOUT, KEEP_ENTRY_COMPLETE, WAKE and KEEP_EXIT_COMPLETE (R529 to R533, R548): KEEP starts under its conditions; after its units are OFF, or at the
timeout, its entry ends in KEEP, or in KEEP_EXIT for a pending wake, with what KEEP loses lost; a wake leaves KEEP or waits for the entry; and an exit ends in RUN. -/
def Obligations.KeepIsEnteredAndLeft : Prop :=
  ∀ (s : State),
    (∀ sess, s.lets sess 0x2000 4 →
      (s.keepOk = true → Completes (.keep sess) s (fun t => t.pwState = pwKeepEntry ∧ 1 ≤ t.power.keepStep ∧ t.power.keepSince = s.time.tclk)) ∧
      (s.pwState = pwKeepEntry → s.flag 0x2000 0x0A = true → Completes (.keep sess) s (fun t => t.reg 0x2000 0x0A = 0 ∧ t.pwState = pwKeepEntry ∧ t.power = s.power)) ∧
      (s.keepOk = false → s.pwState ≠ pwKeepEntry → Completes (.keep sess) s (fun t => t.regs = s.regs ∧ t.power = s.power))) ∧
    (s.pwState = pwKeepEntry → s.power.keepSince + s.reg 0x2000 9 * 500000 ≤ s.time.tclk → Completes .keepTimeout s (fun t => t.pwState = pwKeepEntry ∧ t.power.keepStep = 6)) ∧
    (s.pwState ≠ pwKeepEntry ∨ s.time.tclk < s.power.keepSince + s.reg 0x2000 9 * 500000 → exec .keepTimeout s = .next s) ∧
    (∀ micros, s.pwState ≠ pwKeepEntry → exec (.keepEntryComplete micros) s = .next s) ∧
    (∀ micros, s.pwState = pwKeepEntry → s.power.keepStep = 6 → Completes (.keepEntryComplete micros) s (fun t =>
      t.pwState = (if s.flag 0x2000 0x0A then pwKeepExit else pwKeep) ∧ t.reg 0x2000 0x0A = 0 ∧ t.reg 0x2000 0x0C = satAdd32 (s.reg 0x2000 0x0C) 1 ∧
      t.reg 0x2000 0x0F = min micros 0xFFFFFFFF ∧ t.power.keepStep = 0 ∧ t.crib.lofts = CribState.reset.lofts ∧ t.winnow.channels = WinnowState.reset.channels ∧
      t.sheaf.rx = [] ∧ t.xarray.dumps = [] ∧ t.time.running = (s.time.running && s.flag 0x2000 7) ∧
      (s.flag 0x2000 6 = false → t.xarray.bins = [] ∧ t.xarray.weights = []) ∧ (s.flag 0x2000 6 = true → t.xarray.bins = s.xarray.bins ∧ t.xarray.weights = s.xarray.weights))) ∧
    (∀ sess, s.lets sess 0x2000 5 →
      (s.pwState = pwKeep → Completes (.wake sess) s (fun t => t.pwState = pwKeepExit ∧ t.power = s.power)) ∧
      (s.pwState = pwKeepEntry → Completes (.wake sess) s (fun t => t.reg 0x2000 0x0A = 1 ∧ t.pwState = pwKeepEntry ∧ t.power = s.power)) ∧
      (s.pwState ≠ pwKeep → s.pwState ≠ pwKeepEntry → Completes (.wake sess) s (fun t => t.regs = s.regs ∧ t.power = s.power))) ∧
    (∀ micros, s.pwState ≠ pwKeepExit → exec (.keepExitComplete micros) s = .next s) ∧
    (∀ micros, s.pwState = pwKeepExit → Completes (.keepExitComplete micros) s (fun t => t.pwState = pwRun ∧ t.reg 0x2000 0x10 = min micros 0xFFFFFFFF ∧
      t.time.running = true))

/-- DEVICE_RESET, JTAG_RESET, PWR_EN_FALL, PWR_EN_RISE, PORST_N_ASSERT, PORST_N_RELEASE, UNDERVOLTAGE, VAON_LOW, DICTIONARY_REACHABLE and BOOT_COMPLETE (R25, R535,
R541, R542, R545, R546, R549, R563, R569): a reset leaves every entry at its default but for its cause and the power state, and every unit at its reset state, and
the part starts; power is lost to OFF, and a start that a hot part ignores is counted; the dictionary is reachable from the slot that boots, or in RECOVERY; and
the boot ends in RUN.
What a tile in both the log and the self-test reads is the model's choice (log 47); what a slot's image check finds is a free value (log 8). -/
def Obligations.PowerResetAndBoot : Prop :=
  ∀ (s : State),
    let cleared := fun (t : State) => t.dram = [] ∧ t.doms = [] ∧ t.time = TimeState.reset ∧ t.pos = PosState.reset ∧ t.dowel = DowelState.reset ∧
      t.fabric = FabricState.reset ∧ t.dsp = DspState.reset ∧ t.crib = CribState.reset ∧ t.dict = DictState.reset ∧ t.pending = s.pending ∧ t.board = s.board
    let starts := fun (cause : Nat) (t : State) => cleared t ∧ t.pwState = pwStarting ∧ t.reg 0x7800 2 = cause ∧ t.power.resetCause = cause ∧ t.power.dictUp = false ∧
      t.nv = { s.nv with boots := satAdd32 s.nv.boots 1 } ∧
      ∀ idx sub, sub < 256 → (idx, sub) ≠ (0x2000, 1) → (idx, sub) ≠ (0x7800, 2) → (idx, sub) ≠ (0x7400, 0x10) → t.reg idx sub = entryDefault s.board t.nv idx sub
    let off := fun (t : State) => cleared t ∧ t.pwState = pwOff ∧ t.outbox = s.outbox ∧
      ∀ idx sub, sub < 256 → (idx < 0x7400 ∨ 0x7431 < idx) → (idx, sub) ≠ (0x2000, 1) → t.reg idx sub = entryDefault s.board t.nv idx sub
    (∀ sess, s.lets sess 0x2000 0x0B → (s.power.pwrEn = true → Completes (.deviceReset sess) s (starts 3)) ∧ (s.power.pwrEn = false → Completes (.deviceReset sess) s off)) ∧
    (s.power.porstN = true → s.power.pwrEn = true → Completes .jtagReset s (fun t => starts 4 t ∧ t.power.tapIr = 0x20)) ∧
    (s.power.porstN = false → Completes .jtagReset s (fun t => t.power = { s.power with tapIr := 0x20, tapDr := 0, tapDrive := 0 } ∧ t.regs = s.regs)) ∧
    (s.power.pwrEn = false → exec .pwrEnFall s = .next s) ∧
    (s.power.pwrEn = true → s.power.porstN = true → s.pwState ≠ pwOff → Completes .pwrEnFall s (fun t => off t ∧ t.power.pwrEn = false)) ∧
    (s.power.pwrEn = true → s.power.porstN = false ∨ s.pwState = pwOff → Completes .pwrEnFall s (fun t => t.power = { s.power with pwrEn := false } ∧ t.regs = s.regs)) ∧
    (s.power.pwrEn = true → exec .pwrEnRise s = .next s) ∧
    (s.power.pwrEn = false → s.power.porstN = true → s.pwState = pwOff →
      (s.power.thermalOff = false → Completes .pwrEnRise s (fun t => starts 1 t ∧ t.power.pwrEn = true)) ∧
      (s.power.thermalOff = true → s.sreg 16 0x7400 1 < 115 * 16 → Completes .pwrEnRise s (starts 2)) ∧
      (s.power.thermalOff = true → 115 * 16 ≤ s.sreg 16 0x7400 1 → Completes .pwrEnRise s (fun t => t.pwState = pwOff ∧ t.power.pwrEn = true ∧
        t.reg 0x7400 0x10 = min (s.reg 0x7400 0x10 + 1) 255))) ∧
    (s.power.porstN = false → exec .porstNAssert s = .next s) ∧
    (s.power.porstN = true → Completes .porstNAssert s (fun t => cleared t ∧ t.power.porstN = false ∧ t.nv = s.nv)) ∧
    (s.power.porstN = true → exec .porstNRelease s = .next s) ∧
    (s.power.porstN = false → (s.power.pwrEn = true → Completes .porstNRelease s (fun t => starts (if s.power.thermalOff then 2 else 0) t ∧ t.power.porstN = true)) ∧
      (s.power.pwrEn = false → Completes .porstNRelease s (fun t => off t ∧ t.power.porstN = true))) ∧
    (∀ rail, rail < 13 → rail ≠ 4 → (s.power.porstN = true → s.pwState ≠ pwOff → Completes (.undervoltage rail) s (fun t => off t ∧ t.power.undervoltOff = true)) ∧
      (s.power.porstN = false ∨ s.pwState = pwOff → exec (.undervoltage rail) s = .next s)) ∧
    Completes .vaonLow s (fun t => t.power.deferred = [] ∧ t.power.deferredLost = 0 ∧ ∀ idx sub, sub < 256 →
      t.reg idx sub = if 0x7400 ≤ idx ∧ idx ≤ 0x7431 then entryDefault s.board s.nv idx sub else s.reg idx sub) ∧
    (∀ micros m0 m1,
      let may := s.power.porstN = true ∧ s.pwState = pwStarting ∧ s.power.dictUp = false ∧ s.board.testMode = false ∧ (m0 = true ∨ m1 = true)
      (¬may → exec (.dictionaryReachable micros m0 m1) s = .next s) ∧
      (may → Completes (.dictionaryReachable micros m0 m1) s (fun t => t.power.dictUp = true ∧ t.reg 0x7800 6 = min micros 0xFFFFFFFF ∧ t.reg 0x7020 1 = ofBool (!m0) ∧
        t.pair 0 = bootPair m0 true ∧ t.pair 1 = bootPair m1 (!m0) ∧ t.reg 0x1010 2 = stOn ∧ t.reg 0x1011 2 = stOn ∧
        (∀ k, s.slotToBoot = some k → t.time.running = true ∧ t.reg 0x7800 3 = k ∧ t.reg 0x7010 5 = k ∧ t.reg 0x5C00 1 = 1 ∧ t.power.recovery = s.power.recovery) ∧
        (s.slotToBoot = none → t.power.recovery = true ∧ t.reg 0x7800 1 = 4)))) ∧
    (∀ micros tiles cells lanes,
      let may := s.pwState = pwStarting ∧ s.power.dictUp = true ∧ s.power.recovery = false ∧ s.power.porstN = true
      (¬may → exec (.bootComplete micros ⟨tiles, cells⟩ lanes) s = .next s) ∧
      (may → Completes (.bootComplete micros ⟨tiles, cells⟩ lanes) s (fun t => t.pwState = pwRun ∧ t.reg 0x7800 1 = 3 ∧ t.reg 0x7800 7 = min micros 0xFFFFFFFF ∧
        t.reg 0x7800 9 = (tiles.filter (fun g => decide (g < s.board.bays * 68))).length ∧ (s.power.resetCause = 2 → t.reg 0x7400 0x10 = 0) ∧
        ∀ g, g < s.board.bays * 68 → g ∈ cells → (t.tile g).spareCells = 4 - cells.count g)))

/-- HOUSEKEEPING_ROUND, EXTEST, IDCODE, SAMPLE_PRELOAD, CLAMP, HIGHZ and BYPASS (R536 to R541, R551, R569): a round takes its readings; with every sensor good, the
junction temperature is the hottest reading, and the part turns off at 120 °C; and a test instruction selects its register and drives balls only while PORST_N is low.
How the mean that stands in for a failed sensor rounds is a free value (log 4). -/
def Obligations.HousekeepingAndTestAccess : Prop :=
  ∀ (s : State),
    (∀ temps volts amps,
      let vals := (List.range 32).map (fun n => temps.getD n 0)
      let tj := toSigned 16 (ofSigned 16 (vals.getD (hottest vals) 0))
      Completes (.housekeepingRound temps volts amps) s (fun t => t.reg 0x7400 0x0F = wrapAdd64 (s.reg 0x7400 0x0F) 1 ∧
        (∀ v, v < 40 → t.reg 0x7420 (v + 1) = volts.getD v 0 % 65536) ∧ (∀ c, c < 24 → t.reg 0x7430 (c + 1) = amps.getD c 0 % 65536) ∧
        (s.reg 0x7412 1 = 0 → (∀ n, n < 32 → mismatchNext 0 temps (nthD 0 s.power.mismatch n) n < 3) →
          (∀ n, n < 32 → t.reg 0x7410 (n + 1) = ofSigned 16 (temps.getD n 0) ∧ t.reg 0x7411 (n + 1) = ofSigned 16 (temps.getD n 0)) ∧
          t.reg 0x7400 1 = ofSigned 16 (vals.getD (hottest vals) 0) ∧ t.reg 0x7400 3 = hottest vals ∧ t.reg 0x7412 1 = 0 ∧
          bitAt (t.reg 0x7400 0x0B) 0 = thermalHold tj (16 * (s.reg 0x7400 4 : Int)) (bitAt (s.reg 0x7400 0x0B) 0) ∧
          (s.pwState ≠ pwOff → s.power.porstN = true → 120 * 16 ≤ tj → t.pwState = pwOff ∧ t.power.thermalOff = true ∧ t.dram = []) ∧
          (tj < 120 * 16 → t.pwState = s.pwState ∧ t.power.thermalOff = s.power.thermalOff ∧ t.dram = s.dram)))) ∧
    (let tapped := fun (i : Instr) (ir dr cells drive : Nat) =>
       exec i s = .next { s with power := { s.power with tapIr := ir, tapDr := dr, tapCells := cells, tapDrive := drive } }
     let kept := s.power.tapCells
     (∀ balls cells,
       (s.power.porstN = false → tapped (.extest balls cells) 0x00 balls cells 1) ∧
       (s.power.porstN = true → tapped (.extest balls cells) 0x00 0 kept 0) ∧
       tapped (.samplePreload balls cells) 0x02 balls cells 0) ∧
     tapped .idcode 0x01 s.idcode kept 0 ∧
     tapped .clamp 0x03 0 kept (if s.power.porstN then 0 else 1) ∧
     tapped .highz 0x04 0 kept (if s.power.porstN then 0 else 2) ∧
     tapped .bypass 0xFF 0 kept 0)
end

