-- ==== Sys2Proof/Laws/Assoc.lean ====
section
/-! SUPPORT. Laws of the sorted maps, of DRAM bytes, and of entries read after they are written. -/

set_option Elab.async false

namespace Sys2Proof.Machine

variable {α : Type}

/-! ## lookup after insertKey, eraseKey and filter -/

@[simp] theorem lookup_insertKey_same (m : List (Nat × α)) (k : Nat) (v : α) : lookup (insertKey m k v) k = some v := by
  induction m with
  | nil => simp [insertKey, lookup]
  | cons p m ih =>
    obtain ⟨a, w⟩ := p
    simp only [insertKey]
    split
    · simp [lookup]
    · split
      · simp [lookup]
      · simp only [lookup]; rw [if_neg ‹_›]; exact ih

@[simp] theorem lookup_insertKey_other (m : List (Nat × α)) {k x : Nat} (v : α) (h : x ≠ k) :
    lookup (insertKey m k v) x = lookup m x := by
  induction m with
  | nil => simp [insertKey, lookup, h]
  | cons p m ih =>
    obtain ⟨a, w⟩ := p
    simp only [insertKey]
    split
    · simp [lookup, h]
    · split
      · subst k; simp [lookup, h]
      · simp only [lookup, ih]

/-- What a map holds after one insertion. -/
theorem lookup_insertKey (m : List (Nat × α)) (k x : Nat) (v : α) :
    lookup (insertKey m k v) x = if x = k then some v else lookup m x := by
  split
  · subst x; simp
  · simp [*]

@[simp] theorem lookup_eraseKey_other (m : List (Nat × α)) {k x : Nat} (h : x ≠ k) : lookup (eraseKey m k) x = lookup m x := by
  induction m with
  | nil => rfl
  | cons p m ih =>
    obtain ⟨a, w⟩ := p
    simp only [eraseKey]
    split
    · subst a; simp [lookup, h]
    · simp only [lookup, ih]

theorem lookup_below {m : List (Nat × α)} {lo x : Nat} (h : sortedFrom lo m = true) (hx : x < lo) : lookup m x = none := by
  induction m generalizing lo with
  | nil => rfl
  | cons p m ih =>
    obtain ⟨a, w⟩ := p
    simp only [sortedFrom, Bool.and_eq_true, decide_eq_true_eq] at h
    simp only [lookup]
    rw [if_neg (by omega)]
    exact ih h.2 (by omega)

theorem lookup_eraseKey_from {m : List (Nat × α)} {lo : Nat} (k : Nat) (h : sortedFrom lo m = true) : lookup (eraseKey m k) k = none := by
  induction m generalizing lo with
  | nil => rfl
  | cons p m ih =>
    obtain ⟨a, w⟩ := p
    simp only [sortedFrom, Bool.and_eq_true, decide_eq_true_eq] at h
    simp only [eraseKey]
    split
    · subst a; exact lookup_below h.2 (by omega)
    · simp only [lookup]; rw [if_neg ‹_›]; exact ih h.2

@[simp] theorem lookup_eraseKey_same {m : List (Nat × α)} (k : Nat) (h : sorted m = true) : lookup (eraseKey m k) k = none :=
  lookup_eraseKey_from k h

/-! ## The keys stay strictly rising -/

theorem sortedFrom_mono {m : List (Nat × α)} {lo lo' : Nat} (h : sortedFrom lo m = true) (hl : lo' ≤ lo) : sortedFrom lo' m = true := by
  cases m with
  | nil => rfl
  | cons p m =>
    obtain ⟨a, w⟩ := p
    simp only [sortedFrom, Bool.and_eq_true, decide_eq_true_eq] at h ⊢
    exact ⟨by omega, h.2⟩

theorem sortedFrom_insertKey {m : List (Nat × α)} {lo k : Nat} (v : α) (h : sortedFrom lo m = true) (hk : lo ≤ k) :
    sortedFrom lo (insertKey m k v) = true := by
  induction m generalizing lo with
  | nil => simp [insertKey, sortedFrom, hk]
  | cons p m ih =>
    obtain ⟨a, w⟩ := p
    simp only [sortedFrom, Bool.and_eq_true, decide_eq_true_eq] at h
    simp only [insertKey]
    split
    · simp only [sortedFrom, Bool.and_eq_true, decide_eq_true_eq]; exact ⟨hk, by omega, h.2⟩
    · split
      · subst a; simp only [sortedFrom, Bool.and_eq_true, decide_eq_true_eq]; exact ⟨hk, h.2⟩
      · simp only [sortedFrom, Bool.and_eq_true, decide_eq_true_eq]; exact ⟨h.1, ih h.2 (by omega)⟩

theorem sortedFrom_eraseKey {m : List (Nat × α)} {lo : Nat} (k : Nat) (h : sortedFrom lo m = true) :
    sortedFrom lo (eraseKey m k) = true := by
  induction m generalizing lo with
  | nil => rfl
  | cons p m ih =>
    obtain ⟨a, w⟩ := p
    simp only [sortedFrom, Bool.and_eq_true, decide_eq_true_eq] at h
    simp only [eraseKey]
    split
    · exact sortedFrom_mono h.2 (by omega)
    · simp only [sortedFrom, Bool.and_eq_true, decide_eq_true_eq]; exact ⟨h.1, ih h.2⟩

theorem sortedFrom_filter {m : List (Nat × α)} {lo : Nat} (f : Nat × α → Bool) (h : sortedFrom lo m = true) :
    sortedFrom lo (m.filter f) = true := by
  induction m generalizing lo with
  | nil => rfl
  | cons p m ih =>
    obtain ⟨a, w⟩ := p
    simp only [sortedFrom, Bool.and_eq_true, decide_eq_true_eq] at h
    simp only [List.filter]
    split
    · simp only [sortedFrom, Bool.and_eq_true, decide_eq_true_eq]; exact ⟨h.1, ih h.2⟩
    · exact sortedFrom_mono (ih h.2) (by omega)

theorem sorted_insertKey {m : List (Nat × α)} (k : Nat) (v : α) (h : sorted m = true) : sorted (insertKey m k v) = true :=
  sortedFrom_insertKey v h (Nat.zero_le k)

theorem sorted_eraseKey {m : List (Nat × α)} (k : Nat) (h : sorted m = true) : sorted (eraseKey m k) = true := sortedFrom_eraseKey k h

theorem sorted_filter {m : List (Nat × α)} (f : Nat × α → Bool) (h : sorted m = true) : sorted (m.filter f) = true := sortedFrom_filter f h

/-! ## DRAM -/

theorem mem_insertKey {m : List (Nat × α)} {k : Nat} {v : α} {c : Nat × α} (h : c ∈ insertKey m k v) : c = (k, v) ∨ c ∈ m := by
  induction m with
  | nil => simpa [insertKey] using h
  | cons p m ih =>
    obtain ⟨a, w⟩ := p
    simp only [insertKey] at h
    split at h
    · simpa using h
    · split at h
      · rcases List.mem_cons.1 h with h | h
        · exact .inl h
        · exact .inr (List.mem_cons_of_mem _ h)
      · rcases List.mem_cons.1 h with h | h
        · exact .inr (by simp [h])
        · rcases ih h with h | h
          · exact .inl h
          · exact .inr (List.mem_cons_of_mem _ h)

theorem mem_eraseKey {m : List (Nat × α)} {k : Nat} {c : Nat × α} (h : c ∈ eraseKey m k) : c ∈ m := by
  induction m with
  | nil => exact h
  | cons p m ih =>
    obtain ⟨a, w⟩ := p
    simp only [eraseKey] at h
    split at h
    · exact List.mem_cons_of_mem _ h
    · rcases List.mem_cons.1 h with h | h
      · simp [h]
      · exact List.mem_cons_of_mem _ (ih h)

/-- Storing one byte keeps the canonical form. -/
theorem dramWf_put {m : List Host.Cell} (a : Nat) (b : Byte) (h : dramWf m = true) : dramWf (dramPut m a b) = true := by
  simp only [dramWf, Bool.and_eq_true, List.all_eq_true, decide_eq_true_eq] at h ⊢
  obtain ⟨hs, hn⟩ := h
  simp only [dramPut]
  split
  · exact ⟨sorted_eraseKey a hs, fun c hc => hn c (mem_eraseKey hc)⟩
  · refine ⟨sorted_insertKey a b hs, fun c hc => ?_⟩
    rcases mem_insertKey hc with rfl | hc
    · assumption
    · exact hn c hc

/-- Storing bytes keeps the canonical form. -/
theorem dramWf_write {m : List Host.Cell} (a : Nat) (bs : Bytes) (h : dramWf m = true) : dramWf (dramWrite m a bs) = true := by
  induction bs generalizing m a with
  | nil => exact h
  | cons b bs ih => exact ih (a + 1) (dramWf_put a b h)

/-- Dropping bytes keeps the canonical form. -/
theorem dramWf_filter {m : List Host.Cell} (f : Host.Cell → Bool) (h : dramWf m = true) : dramWf (m.filter f) = true := by
  simp only [dramWf, Bool.and_eq_true, List.all_eq_true, decide_eq_true_eq] at h ⊢
  exact ⟨sorted_filter f h.1, fun c hc => h.2 c (List.mem_filter.1 hc).1⟩

/-- One byte read after one byte is stored. -/
theorem dramGet_put {m : List Host.Cell} (a x : Nat) (b : Byte) (h : dramWf m = true) :
    dramGet (dramPut m a b) x = if x = a then b else dramGet m x := by
  simp only [dramWf, Bool.and_eq_true] at h
  by_cases hb : b = dramEmpty
  · simp only [dramGet, dramPut, if_pos hb]
    by_cases hx : x = a
    · subst x; rw [lookup_eraseKey_same a h.1, hb]; simp
    · simp [hx]
  · simp only [dramGet, dramPut, if_neg hb]
    by_cases hx : x = a
    · subst x; simp
    · simp [hx]

/-- One byte read after bytes are stored: the stored one inside them, the old one elsewhere. -/
theorem dramGet_write {m : List Host.Cell} (a x : Nat) (bs : Bytes) (h : dramWf m = true) :
    dramGet (dramWrite m a bs) x = if a ≤ x ∧ x < a + bs.length then bs.getD (x - a) 0 else dramGet m x := by
  induction bs generalizing m a with
  | nil =>
    rw [if_neg (by simp)]; rfl
  | cons b bs ih =>
    rw [dramWrite, ih (a + 1) (dramWf_put a b h), dramGet_put a x b h]
    simp only [List.length_cons]
    by_cases h1 : x = a
    · subst x; rw [if_neg (by omega), if_pos rfl, if_pos (by omega)]; simp
    · by_cases h2 : a + 1 ≤ x ∧ x < a + 1 + bs.length
      · rw [if_pos h2, if_pos (by omega)]
        obtain ⟨d, hd⟩ : ∃ d, x - a = d + 1 := ⟨x - a - 1, by omega⟩
        have : x - (a + 1) = d := by omega
        rw [hd, this]; rfl
      · rw [if_neg h2, if_neg h1, if_neg (by omega)]

theorem dramRead_length (m : List Host.Cell) (a n : Nat) : (dramRead m a n).length = n := by
  induction n generalizing a with
  | zero => rfl
  | succ n ih => simp [dramRead, ih]

/-- The i-th byte of a read is the byte at that address. -/
theorem dramRead_getD (m : List Host.Cell) (a n i : Nat) (h : i < n) : (dramRead m a n).getD i 0 = dramGet m (a + i) := by
  induction n generalizing a i with
  | zero => omega
  | succ n ih =>
    cases i with
    | zero => rfl
    | succ i => simpa [dramRead, Nat.add_assoc, Nat.add_comm 1 i] using ih (a + 1) i (by omega)

/-! ## Entries -/

/-- A key names one entry: its index and sub-index come back. -/
theorem key_inj {i j a b : Nat} (ha : a < 256) (hb : b < 256) : key i a = key j b ↔ i = j ∧ a = b := by
  simp only [key]; omega

@[simp] theorem reg_setReg_same (s : State) (i a v : Nat) : (s.setReg i a v).reg i a = v := by
  simp [State.reg, State.setReg]

/-- Writing one entry leaves every other as it was. -/
theorem reg_setReg_key (s : State) {i j a b : Nat} (v : Nat) (h : key j b ≠ key i a) : (s.setReg i a v).reg j b = s.reg j b := by
  simp [State.reg, State.setReg, h]

theorem reg_setReg_other (s : State) {i j a b : Nat} (v : Nat) (ha : a < 256) (hb : b < 256) (h : j ≠ i ∨ b ≠ a) :
    (s.setReg i a v).reg j b = s.reg j b := by
  apply reg_setReg_key
  intro e
  have := (key_inj hb ha).1 e
  omega

/-- What an entry reads after one write. -/
theorem reg_setReg (s : State) (i a j b v : Nat) :
    (s.setReg i a v).reg j b = if key j b = key i a then v else s.reg j b := by
  split
  · next h => simp [State.reg, State.setReg, h]
  · next h => exact reg_setReg_key s v h

/-- `reg` looks only at the entries, the part and the non-volatile store. -/
theorem reg_congr {s t : State} (hr : t.regs = s.regs) (hb : t.board = s.board) (hn : t.nv = s.nv) (i a : Nat) : t.reg i a = s.reg i a := by
  simp [State.reg, hr, hb, hn]

end Sys2Proof.Machine
end

