-- ==== Sys2Proof/Laws/Frame.lean ====
section
/-! SUPPORT. What every operation leaves alone (State.SameBut): the relation, its forms for the answers of meanings, and the primitive updates. -/

set_option Elab.async false

namespace Sys2Proof.Machine

variable {s0 s t : State} {m : Nat}

/-- The number of a part: the bit that stands for it in a set of parts. -/
def Part.bit (p : Part) : Nat :=
  match p with
  | .nv => 0 | .regs => 1 | .doms => 2 | .drawn => 3 | .dram => 4 | .outbox => 5 | .time => 6 | .pos => 7 | .dowel => 8 | .avail => 9 | .power => 10 | .fabric => 11 | .dsp => 12 | .insp => 13 | .winnow => 14 | .ddr => 15 | .xarray => 16 | .crib => 17 | .sheaf => 18 | .sessions => 19 | .staged => 20 | .epochs => 21 | .results => 22 | .serving => 23
/-- The set `a` lies within the set `b`. -/
abbrev Within (a b : Nat) : Prop := a &&& b = a

theorem within_tr {a b c : Nat} (h : Within a b) (k : Within b c) : Within a c := by
  unfold Within at *
  rw [← h, Nat.and_assoc, k]
theorem wt {a b c : Nat} (k : Within b c) (h : Within a b := by decide) : Within a c := within_tr h k
theorem within_refl (a : Nat) : Within a a := Nat.and_self a
theorem within_bit {a b i : Nat} (h : Within a b) (k : b.testBit i = false) : a.testBit i = false := by
  rw [← h, Nat.testBit_and, k, Bool.and_false]

/-- From `s0` to `s`, only the parts of the set `m` have changed. -/
structure Fr (m : Nat) (s0 s : State) : Prop where
  same : ∀ p : Part, m.testBit p.bit = false → p.same s0 s

theorem Part.same_refl (p : Part) (s : State) : p.same s s := by
  cases p <;> first | exact rfl | exact ⟨rfl, rfl, rfl⟩ | exact ⟨rfl, rfl⟩
theorem Part.same_trans (p : Part) {a b c : State} (h : p.same a b) (k : p.same b c) : p.same a c := by
  cases p <;> first
    | exact Eq.trans k h
    | exact ⟨Eq.trans k.1 h.1, Eq.trans k.2.1 h.2.1, Eq.trans k.2.2 h.2.2⟩
    | exact ⟨Eq.trans k.1 h.1, Eq.trans k.2 h.2⟩

theorem fr_refl (s : State) : Fr m s s := ⟨fun p _ => p.same_refl s⟩
theorem fr_trans {a b c : State} (h : Fr m a b) (k : Fr m b c) : Fr m a c := ⟨fun p hp => p.same_trans (h.same p hp) (k.same p hp)⟩
theorem fr_weaken {a b : Nat} (hs : Within a b) (h : Fr a s t) : Fr b s t := ⟨fun p hp => h.same p (within_bit hs hp)⟩
/-- In the words of the statements: every part but those of a list is as it was. -/
theorem sameBut_of_fr {ps : List Part} (h : Fr m s t) (hp : ∀ p : Part, p ∈ ps ∨ m.testBit p.bit = false) : s.SameBut ps t :=
  fun p hn => h.same p ((hp p).resolve_left hn)

/-- A meaning's answer, where it is a next state, has the frame. -/
structure FrR (m : Nat) (s0 : State) (r : Result) : Prop where
  fr : ∀ t, r = .next t → Fr m s0 t
/-- A verdict, where it accepts, has the frame. -/
structure FrV (m : Nat) (s0 : State) (r : Verdict) : Prop where
  fr : ∀ t, r = .ok t → Fr m s0 t
/-- An optional state, where there is one, has the frame. -/
structure FrO (m : Nat) (s0 : State) (r : Option State) : Prop where
  fr : ∀ t, r = some t → Fr m s0 t
/-- A state paired with an answer has the frame. -/
structure FrP {α : Type} (m : Nat) (s0 : State) (p : α × State) : Prop where
  fr : Fr m s0 p.2
/-- A state paired with a flag has the frame. -/
structure FrF {β : Type} (m : Nat) (s0 : State) (p : State × β) : Prop where
  fr : Fr m s0 p.1

theorem frR_next (h : Fr m s0 s) : FrR m s0 (.next s) := ⟨fun t e => by cases e; exact h⟩
theorem frR_fault (f : Fault) : FrR m s0 (.fault f) := ⟨fun t e => by cases e⟩
theorem frR_refused (f : Refusal) : FrR m s0 (.refused f) := ⟨fun t e => by cases e⟩
theorem frV_ok (h : Fr m s0 s) : FrV m s0 (.ok s) := ⟨fun t e => by cases e; exact h⟩
theorem frV_error (d : Nat) : FrV m s0 (.error d) := ⟨fun t e => by cases e⟩
theorem frO_some (h : Fr m s0 s) : FrO m s0 (some s) := ⟨fun t e => by cases e; exact h⟩
theorem frO_none : FrO m s0 none := ⟨fun t e => by cases e⟩
theorem fr_of_ok {v : Verdict} (e : v = .ok t) (h : FrV m s0 v) : Fr m s0 t := h.fr t e
theorem fr_of_some {v : Option State} (e : v = some t) (h : FrO m s0 v) : Fr m s0 t := h.fr t e
theorem frP_mk {α : Type} {a : α} (h : Fr m s0 s) : FrP m s0 (a, s) := ⟨h⟩
theorem frF_mk {β : Type} {b : β} (h : Fr m s0 s) : FrF m s0 (s, b) := ⟨h⟩
theorem fr_fst {β : Type} {p : State × β} (h : FrF m s0 p) : Fr m s0 p.1 := h.fr
theorem fr_snd {α : Type} {p : α × State} (h : FrP m s0 p) : Fr m s0 p.2 := h.fr
theorem fr_of_pair {α : Type} {a : α} {p : α × State} (e : p = (a, t)) (h : FrP m s0 p) : Fr m s0 t := by rw [e] at h; exact h.fr
theorem fr_of_pairF {β : Type} {b : β} {p : State × β} (e : p = (t, b)) (h : FrF m s0 p) : Fr m s0 t := by rw [e] at h; exact h.fr
theorem fr_getD {o : Option State} (h : FrO m s0 o) (hs : Fr m s0 s) : Fr m s0 (o.getD s) := by
  cases o with
  | none => exact hs
  | some t => exact h.fr t rfl
theorem frR_inst {ok : Bool} {r : Result} (h : FrR m s0 r) : FrR m s0 (inst ok r) := by
  unfold inst; split
  · exact h
  · exact frR_fault _
theorem frV_accept {ok : Bool} {d : Nat} (h : Fr m s0 s) : FrV m s0 (accept ok d s) := by
  unfold accept; split
  · exact frV_ok h
  · exact frV_error d

/-! ## One part changes -/

theorem fr_change {n : Nat} (hm : Within n m) (h : Fr m s0 s) (k : Fr n s t) : Fr m s0 t := fr_trans h (fr_weaken hm k)

theorem fr_mk_nv {v} (hm : Within 1 m) (h : Fr m s0 s) : Fr m s0 ⟨s.pending, s.board, v, s.regs, s.doms, s.drawn, s.dram, s.outbox, s.time, s.pos, s.dowel, s.avail, s.power, s.dict, s.fabric, s.dsp, s.insp, s.winnow, s.ddr, s.xarray, s.crib, s.sheaf⟩ :=
  fr_change hm h ⟨fun p hp => by cases p <;> first | exact absurd hp (by decide) | exact rfl | exact ⟨rfl, rfl, rfl⟩ | exact ⟨rfl, rfl⟩⟩
theorem fr_mk_regs {v} (hm : Within 2 m) (h : Fr m s0 s) : Fr m s0 ⟨s.pending, s.board, s.nv, v, s.doms, s.drawn, s.dram, s.outbox, s.time, s.pos, s.dowel, s.avail, s.power, s.dict, s.fabric, s.dsp, s.insp, s.winnow, s.ddr, s.xarray, s.crib, s.sheaf⟩ :=
  fr_change hm h ⟨fun p hp => by cases p <;> first | exact absurd hp (by decide) | exact rfl | exact ⟨rfl, rfl, rfl⟩ | exact ⟨rfl, rfl⟩⟩
theorem fr_mk_doms {v} (hm : Within 4 m) (h : Fr m s0 s) : Fr m s0 ⟨s.pending, s.board, s.nv, s.regs, v, s.drawn, s.dram, s.outbox, s.time, s.pos, s.dowel, s.avail, s.power, s.dict, s.fabric, s.dsp, s.insp, s.winnow, s.ddr, s.xarray, s.crib, s.sheaf⟩ :=
  fr_change hm h ⟨fun p hp => by cases p <;> first | exact absurd hp (by decide) | exact rfl | exact ⟨rfl, rfl, rfl⟩ | exact ⟨rfl, rfl⟩⟩
theorem fr_mk_drawn {v} (hm : Within 8 m) (h : Fr m s0 s) : Fr m s0 ⟨s.pending, s.board, s.nv, s.regs, s.doms, v, s.dram, s.outbox, s.time, s.pos, s.dowel, s.avail, s.power, s.dict, s.fabric, s.dsp, s.insp, s.winnow, s.ddr, s.xarray, s.crib, s.sheaf⟩ :=
  fr_change hm h ⟨fun p hp => by cases p <;> first | exact absurd hp (by decide) | exact rfl | exact ⟨rfl, rfl, rfl⟩ | exact ⟨rfl, rfl⟩⟩
theorem fr_mk_dram {v} (hm : Within 16 m) (h : Fr m s0 s) : Fr m s0 ⟨s.pending, s.board, s.nv, s.regs, s.doms, s.drawn, v, s.outbox, s.time, s.pos, s.dowel, s.avail, s.power, s.dict, s.fabric, s.dsp, s.insp, s.winnow, s.ddr, s.xarray, s.crib, s.sheaf⟩ :=
  fr_change hm h ⟨fun p hp => by cases p <;> first | exact absurd hp (by decide) | exact rfl | exact ⟨rfl, rfl, rfl⟩ | exact ⟨rfl, rfl⟩⟩
theorem fr_mk_outbox {v} (hm : Within 32 m) (h : Fr m s0 s) : Fr m s0 ⟨s.pending, s.board, s.nv, s.regs, s.doms, s.drawn, s.dram, v, s.time, s.pos, s.dowel, s.avail, s.power, s.dict, s.fabric, s.dsp, s.insp, s.winnow, s.ddr, s.xarray, s.crib, s.sheaf⟩ :=
  fr_change hm h ⟨fun p hp => by cases p <;> first | exact absurd hp (by decide) | exact rfl | exact ⟨rfl, rfl, rfl⟩ | exact ⟨rfl, rfl⟩⟩
theorem fr_mk_time {v} (hm : Within 64 m) (h : Fr m s0 s) : Fr m s0 ⟨s.pending, s.board, s.nv, s.regs, s.doms, s.drawn, s.dram, s.outbox, v, s.pos, s.dowel, s.avail, s.power, s.dict, s.fabric, s.dsp, s.insp, s.winnow, s.ddr, s.xarray, s.crib, s.sheaf⟩ :=
  fr_change hm h ⟨fun p hp => by cases p <;> first | exact absurd hp (by decide) | exact rfl | exact ⟨rfl, rfl, rfl⟩ | exact ⟨rfl, rfl⟩⟩
theorem fr_mk_pos {v} (hm : Within 128 m) (h : Fr m s0 s) : Fr m s0 ⟨s.pending, s.board, s.nv, s.regs, s.doms, s.drawn, s.dram, s.outbox, s.time, v, s.dowel, s.avail, s.power, s.dict, s.fabric, s.dsp, s.insp, s.winnow, s.ddr, s.xarray, s.crib, s.sheaf⟩ :=
  fr_change hm h ⟨fun p hp => by cases p <;> first | exact absurd hp (by decide) | exact rfl | exact ⟨rfl, rfl, rfl⟩ | exact ⟨rfl, rfl⟩⟩
theorem fr_mk_dowel {v} (hm : Within 256 m) (h : Fr m s0 s) : Fr m s0 ⟨s.pending, s.board, s.nv, s.regs, s.doms, s.drawn, s.dram, s.outbox, s.time, s.pos, v, s.avail, s.power, s.dict, s.fabric, s.dsp, s.insp, s.winnow, s.ddr, s.xarray, s.crib, s.sheaf⟩ :=
  fr_change hm h ⟨fun p hp => by cases p <;> first | exact absurd hp (by decide) | exact rfl | exact ⟨rfl, rfl, rfl⟩ | exact ⟨rfl, rfl⟩⟩
theorem fr_mk_avail {v} (hm : Within 512 m) (h : Fr m s0 s) : Fr m s0 ⟨s.pending, s.board, s.nv, s.regs, s.doms, s.drawn, s.dram, s.outbox, s.time, s.pos, s.dowel, v, s.power, s.dict, s.fabric, s.dsp, s.insp, s.winnow, s.ddr, s.xarray, s.crib, s.sheaf⟩ :=
  fr_change hm h ⟨fun p hp => by cases p <;> first | exact absurd hp (by decide) | exact rfl | exact ⟨rfl, rfl, rfl⟩ | exact ⟨rfl, rfl⟩⟩
theorem fr_mk_power {v} (hm : Within 1024 m) (h : Fr m s0 s) : Fr m s0 ⟨s.pending, s.board, s.nv, s.regs, s.doms, s.drawn, s.dram, s.outbox, s.time, s.pos, s.dowel, s.avail, v, s.dict, s.fabric, s.dsp, s.insp, s.winnow, s.ddr, s.xarray, s.crib, s.sheaf⟩ :=
  fr_change hm h ⟨fun p hp => by cases p <;> first | exact absurd hp (by decide) | exact rfl | exact ⟨rfl, rfl, rfl⟩ | exact ⟨rfl, rfl⟩⟩
theorem fr_mk_fabric {v} (hm : Within 2048 m) (h : Fr m s0 s) : Fr m s0 ⟨s.pending, s.board, s.nv, s.regs, s.doms, s.drawn, s.dram, s.outbox, s.time, s.pos, s.dowel, s.avail, s.power, s.dict, v, s.dsp, s.insp, s.winnow, s.ddr, s.xarray, s.crib, s.sheaf⟩ :=
  fr_change hm h ⟨fun p hp => by cases p <;> first | exact absurd hp (by decide) | exact rfl | exact ⟨rfl, rfl, rfl⟩ | exact ⟨rfl, rfl⟩⟩
theorem fr_mk_dsp {v} (hm : Within 4096 m) (h : Fr m s0 s) : Fr m s0 ⟨s.pending, s.board, s.nv, s.regs, s.doms, s.drawn, s.dram, s.outbox, s.time, s.pos, s.dowel, s.avail, s.power, s.dict, s.fabric, v, s.insp, s.winnow, s.ddr, s.xarray, s.crib, s.sheaf⟩ :=
  fr_change hm h ⟨fun p hp => by cases p <;> first | exact absurd hp (by decide) | exact rfl | exact ⟨rfl, rfl, rfl⟩ | exact ⟨rfl, rfl⟩⟩
theorem fr_mk_insp {v} (hm : Within 8192 m) (h : Fr m s0 s) : Fr m s0 ⟨s.pending, s.board, s.nv, s.regs, s.doms, s.drawn, s.dram, s.outbox, s.time, s.pos, s.dowel, s.avail, s.power, s.dict, s.fabric, s.dsp, v, s.winnow, s.ddr, s.xarray, s.crib, s.sheaf⟩ :=
  fr_change hm h ⟨fun p hp => by cases p <;> first | exact absurd hp (by decide) | exact rfl | exact ⟨rfl, rfl, rfl⟩ | exact ⟨rfl, rfl⟩⟩
theorem fr_mk_winnow {v} (hm : Within 16384 m) (h : Fr m s0 s) : Fr m s0 ⟨s.pending, s.board, s.nv, s.regs, s.doms, s.drawn, s.dram, s.outbox, s.time, s.pos, s.dowel, s.avail, s.power, s.dict, s.fabric, s.dsp, s.insp, v, s.ddr, s.xarray, s.crib, s.sheaf⟩ :=
  fr_change hm h ⟨fun p hp => by cases p <;> first | exact absurd hp (by decide) | exact rfl | exact ⟨rfl, rfl, rfl⟩ | exact ⟨rfl, rfl⟩⟩
theorem fr_mk_ddr {v} (hm : Within 32768 m) (h : Fr m s0 s) : Fr m s0 ⟨s.pending, s.board, s.nv, s.regs, s.doms, s.drawn, s.dram, s.outbox, s.time, s.pos, s.dowel, s.avail, s.power, s.dict, s.fabric, s.dsp, s.insp, s.winnow, v, s.xarray, s.crib, s.sheaf⟩ :=
  fr_change hm h ⟨fun p hp => by cases p <;> first | exact absurd hp (by decide) | exact rfl | exact ⟨rfl, rfl, rfl⟩ | exact ⟨rfl, rfl⟩⟩
theorem fr_mk_xarray {v} (hm : Within 65536 m) (h : Fr m s0 s) : Fr m s0 ⟨s.pending, s.board, s.nv, s.regs, s.doms, s.drawn, s.dram, s.outbox, s.time, s.pos, s.dowel, s.avail, s.power, s.dict, s.fabric, s.dsp, s.insp, s.winnow, s.ddr, v, s.crib, s.sheaf⟩ :=
  fr_change hm h ⟨fun p hp => by cases p <;> first | exact absurd hp (by decide) | exact rfl | exact ⟨rfl, rfl, rfl⟩ | exact ⟨rfl, rfl⟩⟩
theorem fr_mk_crib {v} (hm : Within 131072 m) (h : Fr m s0 s) : Fr m s0 ⟨s.pending, s.board, s.nv, s.regs, s.doms, s.drawn, s.dram, s.outbox, s.time, s.pos, s.dowel, s.avail, s.power, s.dict, s.fabric, s.dsp, s.insp, s.winnow, s.ddr, s.xarray, v, s.sheaf⟩ :=
  fr_change hm h ⟨fun p hp => by cases p <;> first | exact absurd hp (by decide) | exact rfl | exact ⟨rfl, rfl, rfl⟩ | exact ⟨rfl, rfl⟩⟩
theorem fr_mk_sheaf {v} (hm : Within 262144 m) (h : Fr m s0 s) : Fr m s0 ⟨s.pending, s.board, s.nv, s.regs, s.doms, s.drawn, s.dram, s.outbox, s.time, s.pos, s.dowel, s.avail, s.power, s.dict, s.fabric, s.dsp, s.insp, s.winnow, s.ddr, s.xarray, s.crib, v⟩ :=
  fr_change hm h ⟨fun p hp => by cases p <;> first | exact absurd hp (by decide) | exact rfl | exact ⟨rfl, rfl, rfl⟩ | exact ⟨rfl, rfl⟩⟩
theorem fr_mk_sessions {v0} (hm : Within 524288 m) (h : Fr m s0 s) : Fr m s0 ⟨s.pending, s.board, s.nv, s.regs, s.doms, s.drawn, s.dram, s.outbox, s.time, s.pos, s.dowel, s.avail, s.power, ⟨v0, s.dict.pendingSet, s.dict.armed, s.dict.past, s.dict.boundaries, s.dict.liveWriters, s.dict.results, s.dict.serving⟩, s.fabric, s.dsp, s.insp, s.winnow, s.ddr, s.xarray, s.crib, s.sheaf⟩ :=
  fr_change hm h ⟨fun p hp => by cases p <;> first | exact absurd hp (by decide) | exact rfl | exact ⟨rfl, rfl, rfl⟩ | exact ⟨rfl, rfl⟩⟩
theorem fr_mk_staged {v0 v1} (hm : Within 1048576 m) (h : Fr m s0 s) : Fr m s0 ⟨s.pending, s.board, s.nv, s.regs, s.doms, s.drawn, s.dram, s.outbox, s.time, s.pos, s.dowel, s.avail, s.power, ⟨s.dict.sessions, v0, v1, s.dict.past, s.dict.boundaries, s.dict.liveWriters, s.dict.results, s.dict.serving⟩, s.fabric, s.dsp, s.insp, s.winnow, s.ddr, s.xarray, s.crib, s.sheaf⟩ :=
  fr_change hm h ⟨fun p hp => by cases p <;> first | exact absurd hp (by decide) | exact rfl | exact ⟨rfl, rfl, rfl⟩ | exact ⟨rfl, rfl⟩⟩
theorem fr_mk_epochs {v0 v1 v2} (hm : Within 2097152 m) (h : Fr m s0 s) : Fr m s0 ⟨s.pending, s.board, s.nv, s.regs, s.doms, s.drawn, s.dram, s.outbox, s.time, s.pos, s.dowel, s.avail, s.power, ⟨s.dict.sessions, s.dict.pendingSet, s.dict.armed, v0, v1, v2, s.dict.results, s.dict.serving⟩, s.fabric, s.dsp, s.insp, s.winnow, s.ddr, s.xarray, s.crib, s.sheaf⟩ :=
  fr_change hm h ⟨fun p hp => by cases p <;> first | exact absurd hp (by decide) | exact rfl | exact ⟨rfl, rfl, rfl⟩ | exact ⟨rfl, rfl⟩⟩
theorem fr_mk_results {v0} (hm : Within 4194304 m) (h : Fr m s0 s) : Fr m s0 ⟨s.pending, s.board, s.nv, s.regs, s.doms, s.drawn, s.dram, s.outbox, s.time, s.pos, s.dowel, s.avail, s.power, ⟨s.dict.sessions, s.dict.pendingSet, s.dict.armed, s.dict.past, s.dict.boundaries, s.dict.liveWriters, v0, s.dict.serving⟩, s.fabric, s.dsp, s.insp, s.winnow, s.ddr, s.xarray, s.crib, s.sheaf⟩ :=
  fr_change hm h ⟨fun p hp => by cases p <;> first | exact absurd hp (by decide) | exact rfl | exact ⟨rfl, rfl, rfl⟩ | exact ⟨rfl, rfl⟩⟩
theorem fr_mk_serving {v0} (hm : Within 8388608 m) (h : Fr m s0 s) : Fr m s0 ⟨s.pending, s.board, s.nv, s.regs, s.doms, s.drawn, s.dram, s.outbox, s.time, s.pos, s.dowel, s.avail, s.power, ⟨s.dict.sessions, s.dict.pendingSet, s.dict.armed, s.dict.past, s.dict.boundaries, s.dict.liveWriters, s.dict.results, v0⟩, s.fabric, s.dsp, s.insp, s.winnow, s.ddr, s.xarray, s.crib, s.sheaf⟩ :=
  fr_change hm h ⟨fun p hp => by cases p <;> first | exact absurd hp (by decide) | exact rfl | exact ⟨rfl, rfl, rfl⟩ | exact ⟨rfl, rfl⟩⟩

theorem fr_mk_nv_power {v0 v1} (hm : Within 1025 m) (h : Fr m s0 s) : Fr m s0 ⟨s.pending, s.board, v0, s.regs, s.doms, s.drawn, s.dram, s.outbox, s.time, s.pos, s.dowel, s.avail, v1, s.dict, s.fabric, s.dsp, s.insp, s.winnow, s.ddr, s.xarray, s.crib, s.sheaf⟩ :=
  fr_change hm h ⟨fun p hp => by cases p <;> first | exact absurd hp (by decide) | exact rfl | exact ⟨rfl, rfl, rfl⟩ | exact ⟨rfl, rfl⟩⟩
theorem fr_mk_nv_regs {v0 v1} (hm : Within 3 m) (h : Fr m s0 s) : Fr m s0 ⟨s.pending, s.board, v0, v1, s.doms, s.drawn, s.dram, s.outbox, s.time, s.pos, s.dowel, s.avail, s.power, s.dict, s.fabric, s.dsp, s.insp, s.winnow, s.ddr, s.xarray, s.crib, s.sheaf⟩ :=
  fr_change hm h ⟨fun p hp => by cases p <;> first | exact absurd hp (by decide) | exact rfl | exact ⟨rfl, rfl, rfl⟩ | exact ⟨rfl, rfl⟩⟩
theorem fr_mk_retest {v0 v1 v2} (hm : Within 66561 m) (h : Fr m s0 s) : Fr m s0 ⟨s.pending, s.board, v0, s.regs, s.doms, s.drawn, s.dram, s.outbox, s.time, s.pos, s.dowel, s.avail, v1, s.dict, s.fabric, s.dsp, s.insp, s.winnow, s.ddr, v2, s.crib, s.sheaf⟩ :=
  fr_change hm h ⟨fun p hp => by cases p <;> first | exact absurd hp (by decide) | exact rfl | exact ⟨rfl, rfl, rfl⟩ | exact ⟨rfl, rfl⟩⟩
theorem fr_mk_keepLoss {v0 v1 v2 v3} (hm : Within 475136 m) (h : Fr m s0 s) : Fr m s0 ⟨s.pending, s.board, s.nv, s.regs, s.doms, s.drawn, s.dram, s.outbox, s.time, s.pos, s.dowel, s.avail, s.power, s.dict, s.fabric, s.dsp, s.insp, v3, s.ddr, v0, v1, v2⟩ :=
  fr_change hm h ⟨fun p hp => by cases p <;> first | exact absurd hp (by decide) | exact rfl | exact ⟨rfl, rfl, rfl⟩ | exact ⟨rfl, rfl⟩⟩
theorem fr_mk_answer {v0 v1} (hm : Within 12582912 m) (h : Fr m s0 s) : Fr m s0 ⟨s.pending, s.board, s.nv, s.regs, s.doms, s.drawn, s.dram, s.outbox, s.time, s.pos, s.dowel, s.avail, s.power, ⟨s.dict.sessions, s.dict.pendingSet, s.dict.armed, s.dict.past, s.dict.boundaries, s.dict.liveWriters, v0, v1⟩, s.fabric, s.dsp, s.insp, s.winnow, s.ddr, s.xarray, s.crib, s.sheaf⟩ :=
  fr_change hm h ⟨fun p hp => by cases p <;> first | exact absurd hp (by decide) | exact rfl | exact ⟨rfl, rfl, rfl⟩ | exact ⟨rfl, rfl⟩⟩

theorem fr_setReg {i a v : Nat} (hm : Within 2 m) (h : Fr m s0 s) : Fr m s0 (s.setReg i a v) := fr_mk_regs hm h
theorem fr_setDom {i a : Nat} {bs : Bytes} (hm : Within 4 m) (h : Fr m s0 s) : Fr m s0 (s.setDom i a bs) := by
  unfold State.setDom; split
  · exact h
  · exact fr_mk_doms hm h
theorem fr_bumpDom {i a : Nat} (hm : Within 4 m) (h : Fr m s0 s) : Fr m s0 (s.bumpDom i a) := fr_mk_doms hm h
theorem fr_draw {w : Nat} (hm : Within 8 m) (h : Fr m s0 s) : FrP m s0 (s.draw w) := ⟨fr_mk_drawn hm h⟩
theorem fr_emit {o : Output} (hm : Within 32 m) (h : Fr m s0 s) : Fr m s0 (s.emit o) := fr_mk_outbox hm h
theorem fr_putUnit {ch u : Nat} {v : Bytes} (hm : Within 16 m) (h : Fr m s0 s) : Fr m s0 (s.putUnit ch u v) := fr_mk_dram hm h

/-- All a reset of the units may change: everything but the non-volatile store, the draws and what has left. -/
abbrev resetParts : Nat := 16777174
theorem fr_resetUnits {kept : Nat → Bool} (hm : Within resetParts m) (h : Fr m s0 s) : Fr m s0 (s.resetUnits kept) :=
  fr_change hm h ⟨fun p hp => by cases p <;> first | exact absurd hp (by decide) | exact rfl⟩

/-! ## Control structure -/

theorem fr_foldl {α : Type} {xs : List α} {f : State → α → State} (h : Fr m s0 s) (hf : ∀ s x, Fr m s0 s → Fr m s0 (f s x)) :
    Fr m s0 (xs.foldl f s) := by
  induction xs generalizing s with
  | nil => exact h
  | cons x xs ih => exact ih (hf s x h)

theorem fr_foldl2 {α β : Type} {xs : List α} {f : β × State → α → β × State} {p : β × State} (h : Fr m s0 p.2)
    (hf : ∀ p x, Fr m s0 p.2 → FrP m s0 (f p x)) : FrP m s0 (xs.foldl f p) := by
  induction xs generalizing p with
  | nil => exact ⟨h⟩
  | cons x xs ih => exact ih (hf p x h).fr

theorem fr_foldl1 {α β : Type} {xs : List α} {f : State × β → α → State × β} {p : State × β} (h : Fr m s0 p.1)
    (hf : ∀ p x, Fr m s0 p.1 → FrF m s0 (f p x)) : FrF m s0 (xs.foldl f p) := by
  induction xs generalizing p with
  | nil => exact ⟨h⟩
  | cons x xs ih => exact ih (hf p x h).fr

theorem fr_each {α : Type} {xs : List α} {f : α → State → State} (h : Fr m s0 s) (hf : ∀ x s, Fr m s0 s → Fr m s0 (f x s)) :
    Fr m s0 (s.each xs f) := fr_foldl h (fun s x hs => hf x s hs)

theorem fr_whenB {c : Bool} {f : State → State} (h : Fr m s0 s) (hf : ∀ s, Fr m s0 s → Fr m s0 (f s)) : Fr m s0 (s.whenB c f) := by
  unfold State.whenB; split
  · exact hf s h
  · exact h

end Sys2Proof.Machine
end

