-- ==== Sys2Proof/Laws/FrameOps.lean ====
section
/-! SUPPORT. What the definitions of Machine/Ops.lean leave alone (Fr). -/

set_option Elab.async false

namespace Sys2Proof.Machine

theorem fr_inc32 {m : Nat} (hm : Within 2 m) {s0 s : State} {a1 a2 a3} (h : Fr m s0 s) : Fr m s0 (State.inc32 s a1 a2 a3) := by
  unfold State.inc32
  with_reducible (apply fr_setReg (wt hm); assumption)

theorem fr_inc64 {m : Nat} (hm : Within 2 m) {s0 s : State} {a1 a2 a3} (h : Fr m s0 s) : Fr m s0 (State.inc64 s a1 a2 a3) := by
  unfold State.inc64
  with_reducible (apply fr_setReg (wt hm); assumption)

theorem fr_inc8 {m : Nat} (hm : Within 2 m) {s0 s : State} {a1 a2 a3} (h : Fr m s0 s) : Fr m s0 (State.inc8 s a1 a2 a3) := by
  unfold State.inc8
  with_reducible (apply fr_setReg (wt hm); assumption)

theorem fr_regBit {m : Nat} (hm : Within 2 m) {s0 s : State} {a1 a2 a3 a4} (h : Fr m s0 s) : Fr m s0 (State.regBit s a1 a2 a3 a4) := by
  unfold State.regBit
  with_reducible (apply fr_setReg (wt hm); assumption)

theorem fr_counterAdd {m : Nat} (hm : Within 258 m) {s0 s : State} {a1 a2} (h : Fr m s0 s) : Fr m s0 (State.counterAdd s a1 a2) := by
  unfold State.counterAdd
  dsimp only; split; with_reducible apply fr_setReg (wt hm); apply fr_mk_dowel (wt hm); with_reducible assumption
  apply fr_mk_dowel (wt hm); with_reducible assumption

theorem fr_counterMax {m : Nat} (hm : Within 256 m) {s0 s : State} {a1 a2} (h : Fr m s0 s) : Fr m s0 (State.counterMax s a1 a2) := by
  unfold State.counterMax
  apply fr_mk_dowel (wt hm); with_reducible assumption

theorem fr_countE {m : Nat} (hm : Within 258 m) {s0 s : State} {a1 a2} (h : Fr m s0 s) : Fr m s0 (State.countE s a1 a2) := by
  unfold State.countE
  with_reducible (apply fr_foldl; assumption); intro _ _ _; split; split
  with_reducible (apply fr_counterAdd (wt hm); assumption; apply fr_counterMax (wt hm); assumption; assumption; assumption)

theorem fr_countV {m : Nat} (hm : Within 256 m) {s0 s : State} {a1 a2} (h : Fr m s0 s) : Fr m s0 (State.countV s a1 a2) := by
  unfold State.countV
  with_reducible (apply fr_foldl; assumption); intro _ _ _; split; with_reducible (apply fr_counterMax (wt hm); assumption; assumption)

theorem fr_fireAt {m : Nat} (hm : Within 258 m) {s0 s : State} {a1 a2 a3} (h : Fr m s0 s) : Fr m s0 (State.fireAt s a1 a2 a3) := by
  unfold State.fireAt
  dsimp only; with_reducible apply fr_countE (wt hm); apply fr_mk_dowel (wt hm); with_reducible assumption

theorem fr_fire {m : Nat} (hm : Within 258 m) {s0 s : State} {a1 a2} (h : Fr m s0 s) : Fr m s0 (State.fire s a1 a2) := by
  unfold State.fire
  with_reducible (apply fr_fireAt (wt hm); assumption)

theorem fr_modSession {m : Nat} (hm : Within 524288 m) {s0 s : State} {a1 a2} (h : Fr m s0 s) : Fr m s0 (State.modSession s a1 a2) := by
  unfold State.modSession
  apply fr_mk_sessions (wt hm); with_reducible assumption

theorem fr_notifyAt {m : Nat} (hm : Within 524288 m) {s0 s : State} {a1 a2 a3 a4 a5} (h : Fr m s0 s) : Fr m s0 (State.notifyAt s a1 a2 a3 a4 a5) := by
  unfold State.notifyAt
  split; with_reducible (apply fr_modSession (wt hm); assumption; assumption)

theorem fr_notifyBut {m : Nat} (hm : Within 524288 m) {s0 s : State} {a1 a2 a3 a4} (h : Fr m s0 s) : Fr m s0 (State.notifyBut s a1 a2 a3 a4) := by
  unfold State.notifyBut
  with_reducible (apply fr_foldl; assumption); intro _ _ _; with_reducible (apply fr_notifyAt (wt hm); assumption)

theorem fr_notify {m : Nat} (hm : Within 524288 m) {s0 s : State} {a1 a2 a3} (h : Fr m s0 s) : Fr m s0 (State.notify s a1 a2 a3) := by
  unfold State.notify
  with_reducible (apply fr_notifyBut (wt hm); assumption)

theorem fr_abortLog {m : Nat} (hm : Within 524290 m) {s0 s : State} {a1 a2 a3 a4 a5 a6} (h : Fr m s0 s) : Fr m s0 (State.abortLog s a1 a2 a3 a4 a5 a6) := by
  unfold State.abortLog
  dsimp only; with_reducible (apply fr_notify (wt hm); apply fr_setReg (wt hm); apply fr_setReg (wt hm); assumption)

theorem fr_nvPlace {m : Nat} (hm : Within 1027 m) {s0 s : State} {r : Nat} (h : Fr m s0 s) : Fr m s0 (s.nvPlace r) := by
  unfold State.nvPlace
  dsimp only
  split
  · exact (fr_mk_nv_regs (wt hm)) h
  · split
    · exact (fr_mk_power (wt hm)) h
    · exact (fr_mk_power (wt hm)) h

theorem fr_faultRecord {m : Nat} (hm : Within 525571 m) {s0 s : State} {a1 a2 a3 a4 a5 a6} (h : Fr m s0 s) : Fr m s0 (State.faultRecord s a1 a2 a3 a4 a5 a6) := by
  unfold State.faultRecord
  dsimp only; split; with_reducible (apply fr_nvPlace (wt hm); apply fr_notify (wt hm); apply fr_fire (wt hm); apply fr_inc32 (wt hm))
  with_reducible (apply fr_inc64 (wt hm); apply fr_setReg (wt hm); apply fr_setReg (wt hm); assumption; apply fr_notify (wt hm))
  with_reducible (apply fr_fire (wt hm); apply fr_inc32 (wt hm); apply fr_inc64 (wt hm); apply fr_setReg (wt hm))
  with_reducible (apply fr_setReg (wt hm); assumption)

theorem fr_faultStart {m : Nat} (hm : Within 526083 m) {s0 s : State} {a1 a2 a3 a4} (h : Fr m s0 s) : Fr m s0 (State.faultStart s a1 a2 a3 a4) := by
  unfold State.faultStart
  dsimp only; apply fr_mk_avail (wt hm); with_reducible (apply fr_faultRecord (wt hm); assumption)

theorem fr_faultDone {m : Nat} (hm : Within 526083 m) {s0 s : State} {a1 a2 a3 a4 a5} (h : Fr m s0 s) : Fr m s0 (State.faultDone s a1 a2 a3 a4 a5) := by
  unfold State.faultDone
  split; dsimp only; with_reducible (apply fr_faultRecord (wt hm); apply fr_setReg (wt hm); apply fr_inc32 (wt hm))
  apply fr_mk_avail (wt hm); with_reducible (assumption; apply fr_faultRecord (wt hm); assumption)

theorem fr_setInput {m : Nat} (hm : Within 256 m) {s0 s : State} {a1 a2} (h : Fr m s0 s) : Fr m s0 (State.setInput s a1 a2) := by
  unfold State.setInput
  apply fr_mk_dowel (wt hm); with_reducible assumption

theorem fr_takeInput {m : Nat} (hm : Within 256 m) {s0 s : State} {a1} (h : Fr m s0 s) : Fr m s0 (State.takeInput s a1) := by
  unfold State.takeInput
  dsimp only; with_reducible (apply fr_setInput (wt hm); assumption)

theorem fr_accept {m : Nat} {s0 s : State} {a0 a1} (h : Fr m s0 s) : FrV m s0 (accept a0 a1 s) := by
  unfold accept
  split; with_reducible (apply frV_ok; assumption; apply frV_error)

theorem fr_reachOff {m : Nat} (hm : Within 524290 m) {s0 s : State} {idx en : Nat} {check : State → Nat} {enabling : State → State} (h : Fr m s0 s)
    (he : ∀ t, Fr m s0 t → Fr m s0 (enabling t)) : Fr m s0 (s.reachOff idx en check enabling) := by
  unfold State.reachOff
  dsimp only
  split
  · split
    · exact he _ ((fr_setReg (wt hm)) ((fr_setReg (wt hm)) h))
    · exact (fr_abortLog (wt hm)) ((fr_setReg (wt hm)) ((fr_setReg (wt hm)) h))
  · exact (fr_setReg (wt hm)) h

end Sys2Proof.Machine
end

