-- ==== Sys2Proof/Laws/FrameTiming.lean ====
section
/-! SUPPORT. What the definitions of Machine/Timing.lean leave alone (Fr). -/

set_option Elab.async false

namespace Sys2Proof.Machine

theorem fr_modTb {m : Nat} (hm : Within 64 m) {s0 s : State} {a1 a2} (h : Fr m s0 s) : Fr m s0 (State.modTb s a1 a2) := by
  unfold State.modTb
  apply fr_mk_time (wt hm); with_reducible assumption

theorem fr_tbTick {m : Nat} (hm : Within 322 m) {s0 s : State} {a1} (h : Fr m s0 s) : Fr m s0 (State.tbTick s a1) := by
  unfold State.tbTick
  dsimp only; split; split; with_reducible (apply fr_fire (wt hm); apply fr_modTb (wt hm); assumption; apply fr_modTb (wt hm); assumption)
  split; with_reducible (apply fr_fire (wt hm); apply fr_modTb (wt hm); assumption; apply fr_modTb (wt hm); assumption)

theorem fr_tbStepTo {m : Nat} (hm : Within 66 m) {s0 s : State} {a1 a2 a3} (h : Fr m s0 s) : Fr m s0 (State.tbStepTo s a1 a2 a3) := by
  unfold State.tbStepTo
  with_reducible (apply fr_inc32 (wt hm); apply fr_modTb (wt hm); assumption)

theorem fr_clockTick {m : Nat} (hm : Within 322 m) {s0 s : State} (h : Fr m s0 s) : Fr m s0 (State.clockTick s) := by
  unfold State.clockTick
  split; dsimp only; apply fr_mk_time (wt hm); with_reducible apply fr_each; apply fr_mk_time (wt hm); with_reducible assumption
  intro _ _ _; with_reducible (apply fr_tbTick (wt hm); assumption; assumption)

theorem fr_modCand {m : Nat} (hm : Within 64 m) {s0 s : State} {a1 a2} (h : Fr m s0 s) : Fr m s0 (State.modCand s a1 a2) := by
  unfold State.modCand
  apply fr_mk_time (wt hm); with_reducible assumption

theorem fr_refreshCands {m : Nat} (hm : Within 2 m) {s0 s : State} (h : Fr m s0 s) : Fr m s0 (State.refreshCands s) := by
  unfold State.refreshCands
  with_reducible (apply fr_each; assumption); intro _ _ _; dsimp only; split; split
  with_reducible (assumption; apply fr_regBit (wt hm); assumption); split
  with_reducible (apply fr_inc32 (wt hm); apply fr_setReg (wt hm); assumption; apply fr_regBit (wt hm); apply fr_inc32 (wt hm))
  with_reducible (apply fr_setReg (wt hm); assumption)

theorem fr_enterRef {m : Nat} (hm : Within 66 m) {s0 s : State} {a1 a2} (h : Fr m s0 s) : Fr m s0 (State.enterRef s a1 a2) := by
  unfold State.enterRef
  dsimp only; with_reducible apply fr_setReg (wt hm); apply fr_mk_time (wt hm)
  with_reducible (apply fr_setReg (wt hm); apply fr_setReg (wt hm)); split; with_reducible apply fr_regBit (wt hm); split
  with_reducible (apply fr_regBit (wt hm); assumption; assumption); split
  with_reducible (apply fr_regBit (wt hm); assumption; assumption)

theorem fr_enterHoldover {m : Nat} (hm : Within 66 m) {s0 s : State} {a1} (h : Fr m s0 s) : Fr m s0 (State.enterHoldover s a1) := by
  unfold State.enterHoldover
  split; dsimp only
  with_reducible (apply fr_enterRef (wt hm); apply fr_inc32 (wt hm); apply fr_setReg (wt hm); apply fr_setReg (wt hm); assumption)
  with_reducible (apply fr_enterRef (wt hm); apply fr_setReg (wt hm); assumption)

theorem fr_noCandidate {m : Nat} (hm : Within 66 m) {s0 s : State} (h : Fr m s0 s) : Fr m s0 (State.noCandidate s) := by
  unfold State.noCandidate
  split
  with_reducible (apply fr_enterHoldover (wt hm); assumption; apply fr_enterHoldover (wt hm); assumption; apply fr_enterRef (wt hm))
  with_reducible (apply fr_setReg (wt hm); assumption; assumption)

theorem fr_selectCand {m : Nat} (hm : Within 66 m) {s0 s : State} {a1} (h : Fr m s0 s) : Fr m s0 (State.selectCand s a1) := by
  unfold State.selectCand
  split
  with_reducible (apply fr_enterRef (wt hm); assumption; apply fr_enterRef (wt hm); assumption; apply fr_enterRef (wt hm); assumption)

theorem fr_evaluate {m : Nat} (hm : Within 66 m) {s0 s : State} (h : Fr m s0 s) : Fr m s0 (State.evaluate s) := by
  unfold State.evaluate
  dsimp only; split; with_reducible (apply fr_setReg (wt hm); assumption); split; split
  with_reducible (assumption; apply fr_enterRef (wt hm); apply fr_setReg (wt hm); assumption); split; split
  with_reducible (assumption; apply fr_enterHoldover (wt hm); assumption); split; split; split
  with_reducible (assumption; apply fr_enterHoldover (wt hm); assumption; apply fr_noCandidate (wt hm); assumption); split
  with_reducible (apply fr_setReg (wt hm); assumption); split
  with_reducible (apply fr_selectCand (wt hm); assumption; apply fr_setReg (wt hm); assumption)

theorem fr_reselect {m : Nat} (hm : Within 66 m) {s0 s : State} (h : Fr m s0 s) : Fr m s0 (State.reselect s) := by
  unfold State.reselect
  with_reducible (apply fr_evaluate (wt hm); apply fr_refreshCands (wt hm); assumption)

theorem fr_disqualify {m : Nat} (hm : Within 525635 m) {s0 s : State} {a1 a2} (h : Fr m s0 s) : Fr m s0 (State.disqualify s a1 a2) := by
  unfold State.disqualify
  split; dsimp only
  with_reducible (apply fr_faultRecord (wt hm); apply fr_setReg (wt hm); apply fr_modCand (wt hm); apply fr_inc32 (wt hm))
  with_reducible (apply fr_setReg (wt hm); apply fr_regBit (wt hm); assumption; assumption)

theorem fr_qlMessage {m : Nat} (hm : Within 66 m) {s0 s : State} {a1 a2} (h : Fr m s0 s) : Fr m s0 (State.qlMessage s a1 a2) := by
  unfold State.qlMessage
  dsimp only; with_reducible (apply fr_reselect (wt hm); apply fr_modCand (wt hm); apply fr_regBit (wt hm); assumption)

theorem fr_execQlFrameRx {m : Nat} (hm : Within 66 m) {s0 s : State} {a0 a1 a2} (h : Fr m s0 s) : FrR m s0 (execQlFrameRx a0 a1 a2 s) := by
  unfold execQlFrameRx
  with_reducible apply frR_inst; dsimp only; split
  with_reducible (apply frR_next; apply fr_qlMessage (wt hm); assumption; apply frR_next; apply fr_inc32 (wt hm); assumption)

theorem fr_qlLost {m : Nat} (hm : Within 66 m) {s0 s : State} {a1} (h : Fr m s0 s) : Fr m s0 (State.qlLost s a1) := by
  unfold State.qlLost
  with_reducible (apply fr_reselect (wt hm); apply fr_modCand (wt hm); apply fr_regBit (wt hm); assumption)

theorem fr_execQlTimeout {m : Nat} (hm : Within 66 m) {s0 s : State} {a0} (h : Fr m s0 s) : FrR m s0 (execQlTimeout a0 s) := by
  unfold execQlTimeout
  with_reducible (apply frR_inst; apply frR_next); split; with_reducible (apply fr_qlLost (wt hm); assumption; assumption)

theorem fr_signalLoss {m : Nat} (hm : Within 525635 m) {s0 s : State} {a1} (h : Fr m s0 s) : Fr m s0 (State.signalLoss s a1) := by
  unfold State.signalLoss
  split; dsimp only
  with_reducible (apply fr_reselect (wt hm); apply fr_disqualify (wt hm); apply fr_modCand (wt hm); apply fr_inc32 (wt hm))
  with_reducible (apply fr_regBit (wt hm); assumption; assumption)

theorem fr_execSignalLoss {m : Nat} (hm : Within 525635 m) {s0 s : State} {a0} (h : Fr m s0 s) : FrR m s0 (execSignalLoss a0 s) := by
  unfold execSignalLoss
  with_reducible (apply frR_inst; apply frR_next; apply fr_signalLoss (wt hm); assumption)

theorem fr_signalReturn {m : Nat} (hm : Within 2 m) {s0 s : State} {a1} (h : Fr m s0 s) : Fr m s0 (State.signalReturn s a1) := by
  unfold State.signalReturn
  with_reducible (apply fr_regBit (wt hm); assumption)

theorem fr_execSignalReturn {m : Nat} (hm : Within 2 m) {s0 s : State} {a0} (h : Fr m s0 s) : FrR m s0 (execSignalReturn a0 s) := by
  unfold execSignalReturn
  with_reducible (apply frR_inst; apply frR_next; apply fr_signalReturn (wt hm); assumption)

theorem fr_judge {m : Nat} (hm : Within 525635 m) {s0 s : State} {a1 a2 a3} (h : Fr m s0 s) : Fr m s0 (State.judge s a1 a2 a3) := by
  unfold State.judge
  dsimp only; split; split
  with_reducible (apply fr_disqualify (wt hm); apply fr_modCand (wt hm); apply fr_inc32 (wt hm); apply fr_setReg (wt hm); assumption)
  with_reducible (apply fr_modCand (wt hm); apply fr_inc32 (wt hm); apply fr_setReg (wt hm); assumption); split
  with_reducible (apply fr_modCand (wt hm); apply fr_setReg (wt hm); assumption); split
  with_reducible (apply fr_setReg (wt hm); apply fr_modCand (wt hm); apply fr_regBit (wt hm); apply fr_modCand (wt hm))
  with_reducible (apply fr_setReg (wt hm); assumption; apply fr_modCand (wt hm); apply fr_setReg (wt hm); assumption)

theorem fr_wtrSecond {m : Nat} (hm : Within 66 m) {s0 s : State} {a1} (h : Fr m s0 s) : Fr m s0 (State.wtrSecond s a1) := by
  unfold State.wtrSecond
  with_reducible (apply fr_each; assumption); intro _ _ _; dsimp only
  with_reducible (apply fr_setReg (wt hm); apply fr_modCand (wt hm); assumption)

theorem fr_execMonitorWindowEnd {m : Nat} (hm : Within 525635 m) {s0 s : State} {a0 a1} (h : Fr m s0 s) : FrR m s0 (execMonitorWindowEnd a0 a1 s) := by
  unfold execMonitorWindowEnd
  split; dsimp only; with_reducible apply frR_next; apply fr_mk_time (wt hm); with_reducible apply fr_evaluate (wt hm); split; split
  with_reducible (apply fr_enterRef (wt hm); apply fr_refreshCands (wt hm)); apply fr_mk_time (wt hm)
  with_reducible (apply fr_wtrSecond (wt hm); apply fr_each; apply fr_setReg (wt hm); apply fr_inc64 (wt hm); assumption); intro _ _ _
  with_reducible (apply fr_judge (wt hm); assumption; apply fr_refreshCands (wt hm)); apply fr_mk_time (wt hm)
  with_reducible (apply fr_wtrSecond (wt hm); apply fr_each; apply fr_setReg (wt hm); apply fr_inc64 (wt hm); assumption); intro _ _ _
  with_reducible (apply fr_judge (wt hm); assumption); split; with_reducible (apply fr_enterRef (wt hm); apply fr_refreshCands (wt hm))
  apply fr_mk_time (wt hm); with_reducible (apply fr_wtrSecond (wt hm); apply fr_each; apply fr_inc64 (wt hm); assumption); intro _ _ _
  with_reducible (apply fr_judge (wt hm); assumption; apply fr_refreshCands (wt hm)); apply fr_mk_time (wt hm)
  with_reducible (apply fr_wtrSecond (wt hm); apply fr_each; apply fr_inc64 (wt hm); assumption); intro _ _ _
  with_reducible (apply fr_judge (wt hm); assumption; apply frR_next; assumption)

theorem fr_execWtrExpiry {m : Nat} (hm : Within 66 m) {s0 s : State} {a0} (h : Fr m s0 s) : FrR m s0 (execWtrExpiry a0 s) := by
  unfold execWtrExpiry
  with_reducible apply frR_inst; split
  with_reducible (apply frR_next; assumption; apply frR_next; apply fr_reselect (wt hm); apply fr_setReg (wt hm))
  with_reducible (apply fr_modCand (wt hm); assumption)

theorem fr_execSwitchComplete {m : Nat} (hm : Within 66 m) {s0 s : State} (h : Fr m s0 s) : FrR m s0 (execSwitchComplete s) := by
  unfold execSwitchComplete
  split; with_reducible (apply frR_next; apply fr_reselect (wt hm); apply fr_enterRef (wt hm); apply fr_inc32 (wt hm); assumption)
  with_reducible (apply frR_next; assumption)

theorem fr_execRefAcquireTimeout {m : Nat} (hm : Within 525635 m) {s0 s : State} (h : Fr m s0 s) : FrR m s0 (execRefAcquireTimeout s) := by
  unfold execRefAcquireTimeout
  split; with_reducible (apply frR_next; apply fr_reselect (wt hm); apply fr_disqualify (wt hm); assumption; apply frR_next; assumption)

theorem fr_execPps {m : Nat} (hm : Within 322 m) {s0 s : State} (h : Fr m s0 s) : FrR m s0 (execPps s) := by
  unfold execPps
  split; dsimp only
  with_reducible (apply frR_next; apply fr_fire (wt hm); apply fr_setReg (wt hm); apply fr_inc32 (wt hm); apply fr_setReg (wt hm))
  with_reducible (apply fr_setReg (wt hm); apply fr_setReg (wt hm)); apply fr_mk_time (wt hm)
  with_reducible (assumption; apply frR_next; assumption)

theorem fr_cmdScLoad {m : Nat} (hm : Within 64 m) {s0 s : State} (h : Fr m s0 s) : FrV m s0 (cmdScLoad s) := by
  unfold cmdScLoad
  with_reducible apply frV_accept; apply fr_mk_time (wt hm); with_reducible assumption

theorem fr_execScLoadApply {m : Nat} (hm : Within 64 m) {s0 s : State} (h : Fr m s0 s) : FrR m s0 (execScLoadApply s) := by
  unfold execScLoadApply
  split; with_reducible apply frR_next; apply fr_mk_time (wt hm); with_reducible (assumption; apply frR_next; assumption)

theorem fr_cmdAdjust {m : Nat} (hm : Within 64 m) {s0 s : State} {a0 a1} (h : Fr m s0 s) : FrV m s0 (cmdAdjust a0 a1 s) := by
  unfold cmdAdjust
  split; with_reducible apply frV_error; split; with_reducible (apply frV_error; apply frV_ok; apply fr_modTb (wt hm); assumption)

theorem fr_cmdTbStep {m : Nat} (hm : Within 66 m) {s0 s : State} {a0} (h : Fr m s0 s) : FrV m s0 (cmdTbStep a0 s) := by
  unfold cmdTbStep
  split; with_reducible apply frV_error; dsimp only; with_reducible (apply frV_ok; apply fr_tbStepTo (wt hm); assumption)

theorem fr_tbPageSet {m : Nat} (hm : Within 64 m) {s0 s : State} {a1} (h : Fr m s0 s) : Fr m s0 (State.tbPageSet s a1) := by
  unfold State.tbPageSet
  with_reducible (apply fr_modTb (wt hm); assumption)

theorem fr_modTout {m : Nat} (hm : Within 64 m) {s0 s : State} {a1 a2} (h : Fr m s0 s) : Fr m s0 (State.modTout s a1 a2) := by
  unfold State.modTout
  apply fr_mk_time (wt hm); with_reducible assumption

theorem fr_toutStart {m : Nat} (hm : Within 98 m) {s0 s : State} {a1} (h : Fr m s0 s) : Fr m s0 (State.toutStart s a1) := by
  unfold State.toutStart
  with_reducible (apply fr_emit (wt hm); apply fr_inc64 (wt hm); apply fr_modTout (wt hm); assumption)

theorem fr_execToutTimeReached {m : Nat} (hm : Within 98 m) {s0 s : State} {a0} (h : Fr m s0 s) : FrR m s0 (execToutTimeReached a0 s) := by
  unfold execToutTimeReached
  with_reducible apply frR_inst; split
  with_reducible (apply frR_next; apply fr_toutStart (wt hm); assumption; apply frR_next; assumption)

theorem fr_toutEvent {m : Nat} (hm : Within 354 m) {s0 s : State} {a1} (h : Fr m s0 s) : Fr m s0 (State.toutEvent s a1) := by
  unfold State.toutEvent
  split; with_reducible assumption; dsimp only; split; with_reducible (apply fr_takeInput (wt hm); assumption); split
  with_reducible (apply fr_inc32 (wt hm); apply fr_modTout (wt hm); apply fr_takeInput (wt hm); assumption; apply fr_toutStart (wt hm))
  with_reducible (apply fr_takeInput (wt hm); assumption)

theorem fr_execToutEvent {m : Nat} (hm : Within 354 m) {s0 s : State} {a0} (h : Fr m s0 s) : FrR m s0 (execToutEvent a0 s) := by
  unfold execToutEvent
  with_reducible (apply frR_inst; apply frR_next; apply fr_toutEvent (wt hm); assumption)

theorem fr_execToutPulseEnd {m : Nat} (hm : Within 96 m) {s0 s : State} {a0} (h : Fr m s0 s) : FrR m s0 (execToutPulseEnd a0 s) := by
  unfold execToutPulseEnd
  with_reducible apply frR_inst; split
  with_reducible (apply frR_next; apply fr_emit (wt hm); apply fr_modTout (wt hm); assumption; apply frR_next; assumption)

theorem fr_capture {m : Nat} (hm : Within 258 m) {s0 s : State} {a1 a2} (h : Fr m s0 s) : Fr m s0 (State.capture s a1 a2) := by
  unfold State.capture
  dsimp only; with_reducible (apply fr_fire (wt hm); apply fr_inc64 (wt hm); apply fr_setReg (wt hm); apply fr_setReg (wt hm))
  with_reducible (apply fr_setReg (wt hm); assumption)

theorem fr_execTinCapture {m : Nat} (hm : Within 322 m) {s0 s : State} {a0 a1 a2} (h : Fr m s0 s) : FrR m s0 (execTinCapture a0 a1 a2 s) := by
  unfold execTinCapture
  with_reducible apply frR_inst; split; with_reducible (apply frR_next; apply fr_inc32 (wt hm); assumption); dsimp only; split; split
  with_reducible (apply frR_next; apply fr_capture (wt hm)); apply fr_mk_time (wt hm); with_reducible (assumption; apply frR_next)
  apply fr_mk_time (wt hm); with_reducible assumption; split; with_reducible (apply frR_next; apply fr_capture (wt hm))
  apply fr_mk_time (wt hm); with_reducible (assumption; apply frR_next); apply fr_mk_time (wt hm); with_reducible assumption

theorem fr_servo {m : Nat} (hm : Within 66 m) {s0 s : State} {a1 a2} (h : Fr m s0 s) : Fr m s0 (State.servo s a1 a2) := by
  unfold State.servo
  dsimp only; split; apply fr_mk_time (wt hm)
  with_reducible (apply fr_inc32 (wt hm); apply fr_modTb (wt hm); assumption; apply fr_modTb (wt hm); apply fr_setReg (wt hm))
  with_reducible assumption

theorem fr_ptpSync {m : Nat} (hm : Within 66 m) {s0 s : State} {a1 a2} (h : Fr m s0 s) : Fr m s0 (State.ptpSync s a1 a2) := by
  unfold State.ptpSync
  dsimp only; split
  with_reducible (apply fr_servo (wt hm); apply fr_signalReturn (wt hm); apply fr_setReg (wt hm); apply fr_setReg (wt hm); assumption)
  with_reducible (apply fr_signalReturn (wt hm); apply fr_setReg (wt hm); apply fr_setReg (wt hm); assumption)

theorem fr_ptpPort {m : Nat} (hm : Within 64 m) {s0 s : State} {a1 a2} (h : Fr m s0 s) : Fr m s0 (State.ptpPort s a1 a2) := by
  unfold State.ptpPort
  split; apply fr_mk_time (wt hm); with_reducible assumption; split; apply fr_mk_time (wt hm); with_reducible (assumption; assumption)

theorem fr_execPtpEventRx {m : Nat} (hm : Within 66 m) {s0 s : State} {a0 a1} (h : Fr m s0 s) : FrR m s0 (execPtpEventRx a0 a1 s) := by
  unfold execPtpEventRx
  with_reducible apply frR_inst; split; dsimp only; with_reducible (apply frR_next; apply fr_reselect (wt hm)); split
  with_reducible apply fr_ptpSync (wt hm); split; apply fr_mk_time (wt hm)
  with_reducible (apply fr_ptpPort (wt hm); apply fr_setReg (wt hm); apply fr_setReg (wt hm); apply fr_setReg (wt hm))
  with_reducible (apply fr_inc64 (wt hm); assumption; apply fr_ptpPort (wt hm); apply fr_setReg (wt hm); apply fr_setReg (wt hm))
  with_reducible (apply fr_setReg (wt hm); apply fr_inc64 (wt hm); assumption); split; apply fr_mk_time (wt hm)
  with_reducible (apply fr_ptpPort (wt hm); apply fr_setReg (wt hm); apply fr_setReg (wt hm); apply fr_setReg (wt hm))
  with_reducible (apply fr_inc64 (wt hm); assumption; apply fr_ptpPort (wt hm); apply fr_setReg (wt hm); apply fr_setReg (wt hm))
  with_reducible (apply fr_setReg (wt hm); apply fr_inc64 (wt hm); assumption; apply frR_next; assumption)

theorem fr_execPtpMessageTx {m : Nat} (hm : Within 34 m) {s0 s : State} {a0 a1} (h : Fr m s0 s) : FrR m s0 (execPtpMessageTx a0 a1 s) := by
  unfold execPtpMessageTx
  with_reducible apply frR_inst; split; dsimp only
  with_reducible (apply frR_next; apply fr_emit (wt hm); apply fr_inc64 (wt hm); assumption; apply frR_next; assumption)

theorem fr_candWritten {m : Nat} (hm : Within 525635 m) {s0 s : State} {a1 a2} (h : Fr m s0 s) : Fr m s0 (State.candWritten s a1 a2) := by
  unfold State.candWritten
  dsimp only; split; split; split
  with_reducible (apply fr_evaluate (wt hm); apply fr_refreshCands (wt hm); apply fr_signalReturn (wt hm); assumption)
  with_reducible (apply fr_refreshCands (wt hm); apply fr_signalReturn (wt hm); assumption); split
  with_reducible (apply fr_evaluate (wt hm); apply fr_refreshCands (wt hm); apply fr_signalLoss (wt hm); assumption)
  with_reducible (apply fr_refreshCands (wt hm); apply fr_signalLoss (wt hm); assumption); split
  with_reducible (apply fr_evaluate (wt hm); apply fr_refreshCands (wt hm); assumption; apply fr_refreshCands (wt hm); assumption)

theorem fr_timingAfter {m : Nat} (hm : Within 525667 m) {s0 s : State} {a1 a2} (h : Fr m s0 s) : Fr m s0 (timingAfter s a1 a2) := by
  unfold timingAfter
  split; dsimp only; split; apply fr_mk_time (wt hm); with_reducible (assumption; apply fr_reselect (wt hm)); apply fr_mk_time (wt hm)
  with_reducible assumption; split; with_reducible (apply fr_setReg (wt hm); assumption); split
  with_reducible (apply fr_candWritten (wt hm); assumption); split; with_reducible (apply fr_emit (wt hm); assumption); split
  apply fr_mk_time (wt hm); with_reducible (assumption; assumption)

end Sys2Proof.Machine
end

