-- ==== Sys2Proof/Laws/FrameDspBase.lean ====
section
/-! SUPPORT. What the definitions of Machine/DspBase.lean leave alone (Fr). -/

set_option Elab.async false

namespace Sys2Proof.Machine

theorem fr_modCore {m : Nat} (hm : Within 4096 m) {s0 s : State} {a1 a2} (h : Fr m s0 s) : Fr m s0 (State.modCore s a1 a2) := by
  unfold State.modCore
  apply fr_mk_dsp (wt hm); with_reducible assumption

theorem fr_setDspRun {m : Nat} (hm : Within 2 m) {s0 s : State} {a1 a2} (h : Fr m s0 s) : Fr m s0 (State.setDspRun s a1 a2) := by
  unfold State.setDspRun
  with_reducible (apply fr_setReg (wt hm); assumption)

theorem fr_showFar {m : Nat} (hm : Within 2 m) {s0 s : State} {a1} (h : Fr m s0 s) : Fr m s0 (State.showFar s a1) := by
  unfold State.showFar
  with_reducible (apply fr_setReg (wt hm); assumption)

theorem fr_dspDouble {m : Nat} (hm : Within 529667 m) {s0 s : State} {a1} (h : Fr m s0 s) : Fr m s0 (State.dspDouble s a1) := by
  unfold State.dspDouble
  split; with_reducible assumption; dsimp only
  with_reducible (apply fr_faultRecord (wt hm); apply fr_fire (wt hm); apply fr_setDspRun (wt hm); apply fr_setReg (wt hm))
  with_reducible (apply fr_modCore (wt hm); assumption)

theorem fr_wakeCore {m : Nat} (hm : Within 2 m) {s0 s : State} {a1} (h : Fr m s0 s) : Fr m s0 (State.wakeCore s a1) := by
  unfold State.wakeCore
  split; with_reducible (apply fr_setDspRun (wt hm); assumption; assumption)

theorem fr_dspStall {m : Nat} (hm : Within 4098 m) {s0 s : State} {a1} (h : Fr m s0 s) : Fr m s0 (State.dspStall s a1) := by
  unfold State.dspStall
  with_reducible (apply fr_modCore (wt hm); apply fr_inc64 (wt hm); assumption)

theorem fr_beginBundle {m : Nat} (hm : Within 4098 m) {s0 s : State} {a1} (h : Fr m s0 s) : Fr m s0 (State.beginBundle s a1) := by
  unfold State.beginBundle
  dsimp only; with_reducible (apply fr_modCore (wt hm); apply fr_setDspRun (wt hm); apply fr_setReg (wt hm); assumption)

theorem fr_countSat {m : Nat} (hm : Within 4098 m) {s0 s : State} {a1} (h : Fr m s0 s) : Fr m s0 (State.countSat s a1) := by
  unfold State.countSat
  split; with_reducible (apply fr_modCore (wt hm); apply fr_inc64 (wt hm); assumption; assumption)

theorem fr_slotAWith {m : Nat} (hm : Within 4098 m) {s0 s : State} {n op : Nat} {f : Nat → State → State} (h : Fr m s0 s)
    (hf : ∀ w t, Fr m s0 t → Fr m s0 (f w t)) : FrR m s0 (s.slotAWith n op f) := by
  unfold State.slotAWith
  repeat' first
    | assumption
    | with_reducible first | apply frR_inst | apply frR_next | apply fr_dspStall (wt hm) | apply fr_countSat (wt hm) | apply hf | apply fr_beginBundle (wt hm)
    | split

theorem fr_slotAOp {m : Nat} (hm : Within 4098 m) {s0 s : State} {a1 a2 a3} (h : Fr m s0 s) : FrR m s0 (State.slotAOp s a1 a2 a3) := by
  unfold State.slotAOp
  with_reducible (apply fr_slotAWith (wt hm); assumption); intro _ _ _; with_reducible (apply fr_modCore (wt hm); assumption)

theorem fr_afterBundle {m : Nat} (hm : Within 529667 m) {s0 s : State} {a1} (h : Fr m s0 s) : Fr m s0 (State.afterBundle s a1) := by
  unfold State.afterBundle
  dsimp only; split; with_reducible (apply fr_dspDouble (wt hm); assumption); split
  with_reducible (apply fr_fire (wt hm); apply fr_setDspRun (wt hm); apply fr_modCore (wt hm); assumption); split
  with_reducible (apply fr_setDspRun (wt hm); apply fr_modCore (wt hm); assumption); split
  with_reducible (apply fr_setDspRun (wt hm); apply fr_modCore (wt hm); assumption; assumption)

theorem fr_slotBWith {m : Nat} (hm : Within 529667 m) {s0 s : State} {n op : Nat} {f : Nat → State → State} (h : Fr m s0 s)
    (hf : ∀ w t, Fr m s0 t → Fr m s0 (f w t)) : FrR m s0 (s.slotBWith n op f) := by
  unfold State.slotBWith
  repeat' first
    | assumption
    | with_reducible first | apply frR_inst | apply frR_next | apply fr_afterBundle (wt hm) | apply fr_inc64 (wt hm) | apply fr_modCore (wt hm) | apply hf
    | split

theorem fr_slotBOp {m : Nat} (hm : Within 529667 m) {s0 s : State} {a1 a2 a3} (h : Fr m s0 s) : FrR m s0 (State.slotBOp s a1 a2 a3) := by
  unfold State.slotBOp
  with_reducible (apply fr_slotBWith (wt hm); assumption); intro _ _ _; with_reducible (apply fr_modCore (wt hm); assumption)

end Sys2Proof.Machine
end

