-- ==== Sys2Proof/Laws/FrameDowel.lean ====
section
/-! SUPPORT. What the definitions of Machine/Dowel.lean leave alone (Fr). -/

set_option Elab.async false

namespace Sys2Proof.Machine

theorem fr_stampEvent {m : Nat} (hm : Within 2 m) {s0 s : State} {a1} (h : Fr m s0 s) : FrP m s0 (State.stampEvent s a1) := by
  unfold State.stampEvent
  split; with_reducible (apply frP_mk; assumption; apply frP_mk; apply fr_setReg (wt hm); assumption)

theorem fr_channelTake {m : Nat} (hm : Within 2 m) {s0 s : State} {a1 a2} (h : Fr m s0 s) : FrP m s0 (State.channelTake s a1 a2) := by
  unfold State.channelTake
  dsimp only; split; with_reducible (apply frP_mk; apply fr_inc32 (wt hm); apply fr_inc32 (wt hm); apply fr_inc64 (wt hm); assumption)
  split; with_reducible (apply frP_mk; apply fr_inc32 (wt hm); apply fr_inc32 (wt hm); apply fr_inc64 (wt hm); assumption); split
  with_reducible (apply frP_mk; apply fr_setReg (wt hm); apply fr_setReg (wt hm); apply fr_setReg (wt hm); apply fr_inc64 (wt hm))
  with_reducible (apply fr_inc64 (wt hm); assumption; apply frP_mk; apply fr_inc32 (wt hm); apply fr_inc64 (wt hm); assumption)

theorem fr_routeEvent {m : Nat} (hm : Within 2 m) {s0 s : State} {a1} (h : Fr m s0 s) : FrP m s0 (State.routeEvent s a1) := by
  unfold State.routeEvent
  split
  with_reducible (apply fr_foldl2; apply fr_snd; apply frP_mk; apply fr_of_pair (by assumption); apply fr_stampEvent (wt hm); assumption)
  intro _ _ _; split; split; with_reducible (apply frP_mk; apply fr_of_pair (by assumption); apply fr_channelTake (wt hm); assumption)

theorem fr_mergeDeliveries {m : Nat} (hm : Within 256 m) {s0 s : State} {a1 a2} (h : Fr m s0 s) : FrP m s0 (State.mergeDeliveries s a1 a2) := by
  unfold State.mergeDeliveries
  split; with_reducible (apply frP_mk; assumption); dsimp only; with_reducible (apply frP_mk; apply fr_setInput (wt hm); assumption)

theorem fr_deliver {m : Nat} (hm : Within 258 m) {s0 s : State} {a1 a2} (h : Fr m s0 s) : Fr m s0 (State.deliver s a1 a2) := by
  unfold State.deliver
  dsimp only; split; with_reducible (apply fr_setInput (wt hm); assumption); split; split
  with_reducible (apply fr_wakeCore (wt hm); apply fr_setInput (wt hm); assumption; apply fr_setInput (wt hm); assumption)
  with_reducible (apply fr_setInput (wt hm); assumption; apply fr_setInput (wt hm); assumption)

theorem fr_deliverAll {m : Nat} (hm : Within 258 m) {s0 s : State} {a1} (h : Fr m s0 s) : Fr m s0 (State.deliverAll s a1) := by
  unfold State.deliverAll
  with_reducible (apply fr_foldl; assumption); intro _ _ _; split
  with_reducible (apply fr_deliver (wt hm); apply fr_of_pair (by assumption); apply fr_mergeDeliveries (wt hm); assumption)
  with_reducible (apply fr_of_pair (by assumption); apply fr_mergeDeliveries (wt hm); assumption)

theorem fr_takeEvents {m : Nat} (hm : Within 258 m) {s0 s : State} (h : Fr m s0 s) : Fr m s0 (State.takeEvents s) := by
  unfold State.takeEvents
  split; with_reducible assumption; dsimp only
  with_reducible (apply fr_deliverAll (wt hm); apply fr_snd; apply fr_foldl2; apply fr_snd; apply frP_mk); apply fr_mk_dowel (wt hm)
  with_reducible assumption; intro _ _ _; with_reducible (apply frP_mk; apply fr_snd; apply fr_routeEvent (wt hm); assumption)

theorem fr_execEventTake {m : Nat} (hm : Within 258 m) {s0 s : State} (h : Fr m s0 s) : FrR m s0 (execEventTake s) := by
  unfold execEventTake
  with_reducible apply frR_next; split; with_reducible (apply fr_takeEvents (wt hm); assumption; assumption)

theorem fr_pushEvent {m : Nat} (hm : Within 256 m) {s0 s : State} {a1} (h : Fr m s0 s) : Fr m s0 (State.pushEvent s a1) := by
  unfold State.pushEvent
  apply fr_mk_dowel (wt hm); with_reducible assumption

theorem fr_relayEmit {m : Nat} (hm : Within 258 m) {s0 s : State} {a1} (h : Fr m s0 s) : Fr m s0 (State.relayEmit s a1) := by
  unfold State.relayEmit
  split; with_reducible assumption; split; with_reducible assumption; dsimp only
  with_reducible (apply fr_countE (wt hm); apply fr_pushEvent (wt hm); apply fr_inc64 (wt hm); apply fr_takeInput (wt hm); assumption)

theorem fr_execRelayEmit {m : Nat} (hm : Within 258 m) {s0 s : State} {a0} (h : Fr m s0 s) : FrR m s0 (execRelayEmit a0 s) := by
  unfold execRelayEmit
  with_reducible (apply frR_inst; apply frR_next; apply fr_relayEmit (wt hm); assumption)

theorem fr_soft {m : Nat} (hm : Within 258 m) {s0 s : State} {a1} (h : Fr m s0 s) : Fr m s0 (State.soft s a1) := by
  unfold State.soft
  split; with_reducible (assumption; apply fr_countE (wt hm); apply fr_pushEvent (wt hm); assumption)

theorem fr_cmdSoft {m : Nat} (hm : Within 258 m) {s0 s : State} {a0} (h : Fr m s0 s) : FrV m s0 (cmdSoft a0 s) := by
  unfold cmdSoft
  with_reducible (apply frV_accept; apply fr_soft (wt hm); assumption)

theorem fr_setAlert {m : Nat} (hm : Within 258 m) {s0 s : State} {a1 a2} (h : Fr m s0 s) : Fr m s0 (State.setAlert s a1 a2) := by
  unfold State.setAlert
  with_reducible apply fr_setReg (wt hm); apply fr_mk_dowel (wt hm); with_reducible assumption

theorem fr_alertDelivery {m : Nat} (hm : Within 258 m) {s0 s : State} {a1} (h : Fr m s0 s) : Fr m s0 (State.alertDelivery s a1) := by
  unfold State.alertDelivery
  split; with_reducible assumption; dsimp only; split
  with_reducible (apply fr_setAlert (wt hm); apply fr_inc32 (wt hm); apply fr_takeInput (wt hm); assumption; apply fr_setAlert (wt hm))
  with_reducible (apply fr_inc32 (wt hm); apply fr_takeInput (wt hm); assumption; apply fr_inc32 (wt hm); apply fr_takeInput (wt hm))
  with_reducible assumption

theorem fr_execAlertDelivery {m : Nat} (hm : Within 258 m) {s0 s : State} {a0} (h : Fr m s0 s) : FrR m s0 (execAlertDelivery a0 s) := by
  unfold execAlertDelivery
  with_reducible (apply frR_inst; apply frR_next; apply fr_alertDelivery (wt hm); assumption)

theorem fr_alertPulseEnd {m : Nat} (hm : Within 258 m) {s0 s : State} {a1} (h : Fr m s0 s) : Fr m s0 (State.alertPulseEnd s a1) := by
  unfold State.alertPulseEnd
  split; split; with_reducible (apply fr_setAlert (wt hm); assumption; assumption; assumption)

theorem fr_execAlertPulseEnd {m : Nat} (hm : Within 258 m) {s0 s : State} {a0} (h : Fr m s0 s) : FrR m s0 (execAlertPulseEnd a0 s) := by
  unfold execAlertPulseEnd
  with_reducible (apply frR_inst; apply frR_next; apply fr_alertPulseEnd (wt hm); assumption)

theorem fr_cmdRelease {m : Nat} (hm : Within 258 m) {s0 s : State} {a0} (h : Fr m s0 s) : FrV m s0 (cmdRelease a0 s) := by
  unfold cmdRelease
  with_reducible apply frV_ok; split; with_reducible (apply fr_setAlert (wt hm); assumption; assumption)

theorem fr_counterZero {m : Nat} (hm : Within 256 m) {s0 s : State} {a1} (h : Fr m s0 s) : Fr m s0 (State.counterZero s a1) := by
  unfold State.counterZero
  apply fr_mk_dowel (wt hm); with_reducible assumption

theorem fr_snapCounter {m : Nat} (hm : Within 258 m) {s0 s : State} {a1 a2} (h : Fr m s0 s) : Fr m s0 (State.snapCounter s a1 a2) := by
  unfold State.snapCounter
  dsimp only; split
  with_reducible (apply fr_counterZero (wt hm); apply fr_setReg (wt hm); assumption; apply fr_setReg (wt hm); assumption)

theorem fr_snapshot {m : Nat} (hm : Within 258 m) {s0 s : State} {a1} (h : Fr m s0 s) : Fr m s0 (State.snapshot s a1) := by
  unfold State.snapshot
  split; with_reducible assumption; dsimp only
  with_reducible (apply fr_setReg (wt hm); apply fr_setReg (wt hm); apply fr_inc64 (wt hm); apply fr_each); apply fr_mk_dowel (wt hm)
  with_reducible assumption; intro _ _ _; with_reducible (apply fr_snapCounter (wt hm); assumption)

theorem fr_setSnapDone {m : Nat} (hm : Within 256 m) {s0 s : State} {a1 a2} (h : Fr m s0 s) : Fr m s0 (State.setSnapDone s a1 a2) := by
  unfold State.setSnapDone
  apply fr_mk_dowel (wt hm); with_reducible assumption

theorem fr_snapAtTime {m : Nat} (hm : Within 258 m) {s0 s : State} {a1} (h : Fr m s0 s) : Fr m s0 (State.snapAtTime s a1) := by
  unfold State.snapAtTime
  dsimp only; split; with_reducible (apply fr_setSnapDone (wt hm); apply fr_snapshot (wt hm); assumption; apply fr_setReg (wt hm))
  with_reducible (apply fr_snapshot (wt hm); assumption)

theorem fr_execSnapshotTime {m : Nat} (hm : Within 258 m) {s0 s : State} {a0} (h : Fr m s0 s) : FrR m s0 (execSnapshotTime a0 s) := by
  unfold execSnapshotTime
  with_reducible (apply frR_inst; apply frR_next); split; with_reducible (apply fr_snapAtTime (wt hm); assumption; assumption)

theorem fr_snapEvent {m : Nat} (hm : Within 258 m) {s0 s : State} {a1} (h : Fr m s0 s) : Fr m s0 (State.snapEvent s a1) := by
  unfold State.snapEvent
  split; with_reducible assumption; dsimp only; split
  with_reducible (apply fr_snapshot (wt hm); apply fr_takeInput (wt hm); assumption; apply fr_takeInput (wt hm); assumption)

theorem fr_execSnapshotEvent {m : Nat} (hm : Within 258 m) {s0 s : State} {a0} (h : Fr m s0 s) : FrR m s0 (execSnapshotEvent a0 s) := by
  unfold execSnapshotEvent
  with_reducible (apply frR_inst; apply frR_next; apply fr_snapEvent (wt hm); assumption)

theorem fr_cmdSnapNow {m : Nat} (hm : Within 258 m) {s0 s : State} {a0} (h : Fr m s0 s) : FrV m s0 (cmdSnapNow a0 s) := by
  unfold cmdSnapNow
  with_reducible (apply frV_ok; apply fr_snapshot (wt hm); assumption)

theorem fr_cmdCounterClear {m : Nat} (hm : Within 256 m) {s0 s : State} {a0} (h : Fr m s0 s) : FrV m s0 (cmdCounterClear a0 s) := by
  unfold cmdCounterClear
  with_reducible (apply frV_ok; apply fr_counterZero (wt hm); assumption)

theorem fr_execCounterWrap {m : Nat} (hm : Within 258 m) {s0 s : State} {a0} (h : Fr m s0 s) : FrR m s0 (execCounterWrap a0 s) := by
  unfold execCounterWrap
  with_reducible apply frR_inst; split
  with_reducible (apply frR_next; apply fr_counterAdd (wt hm); assumption; apply frR_next; assumption)

theorem fr_channelEnable {m : Nat} (hm : Within 2 m) {s0 s : State} {a1} (h : Fr m s0 s) : Fr m s0 (State.channelEnable s a1) := by
  unfold State.channelEnable
  split; with_reducible (apply fr_setReg (wt hm); apply fr_setReg (wt hm); assumption; apply fr_setReg (wt hm); apply fr_setReg (wt hm))
  with_reducible (assumption; assumption)

theorem fr_channelReaches {m : Nat} (hm : Within 256 m) {s0 s : State} {a1} (h : Fr m s0 s) : Fr m s0 (State.channelReaches s a1) := by
  unfold State.channelReaches
  apply fr_mk_dowel (wt hm); with_reducible assumption

theorem fr_channelLeaves {m : Nat} (hm : Within 256 m) {s0 s : State} {a1} (h : Fr m s0 s) : Fr m s0 (State.channelLeaves s a1) := by
  unfold State.channelLeaves
  split; apply fr_mk_dowel (wt hm); with_reducible (assumption; assumption)

theorem fr_channelDisable {m : Nat} (hm : Within 258 m) {s0 s : State} {a1} (h : Fr m s0 s) : Fr m s0 (State.channelDisable s a1) := by
  unfold State.channelDisable
  dsimp only; split; with_reducible apply fr_setReg (wt hm); split
  with_reducible (apply fr_setReg (wt hm); assumption; assumption; apply fr_channelLeaves (wt hm); apply fr_setReg (wt hm)); split
  with_reducible (apply fr_setReg (wt hm); assumption; assumption; apply fr_setReg (wt hm)); split
  with_reducible (apply fr_setReg (wt hm); assumption; assumption); split
  with_reducible (apply fr_setReg (wt hm); assumption; assumption)

theorem fr_dowelAfter {m : Nat} (hm : Within 256 m) {s0 s : State} {a1 a2} (h : Fr m s0 s) : Fr m s0 (dowelAfter s a1 a2) := by
  unfold dowelAfter
  split; with_reducible (apply fr_setSnapDone (wt hm); assumption; assumption)

theorem fr_counterOn {m : Nat} (hm : Within 256 m) {s0 s : State} {a1} (h : Fr m s0 s) : Fr m s0 (State.counterOn s a1) := by
  unfold State.counterOn
  with_reducible (apply fr_counterZero (wt hm); assumption)

theorem fr_attrWrite {m : Nat} (hm : Within 2 m) {s0 s : State} {a1 a2} (h : Fr m s0 s) : Fr m s0 (State.attrWrite s a1 a2) := by
  unfold State.attrWrite
  dsimp only; split; with_reducible (apply fr_setReg (wt hm); apply fr_setReg (wt hm); assumption; apply fr_inc32 (wt hm); assumption)

end Sys2Proof.Machine
end

