-- ==== Sys2Proof/Laws/FramePosition.lean ====
section
/-! SUPPORT. What the definitions of Machine/Position.lean leave alone (Fr). -/

set_option Elab.async false

namespace Sys2Proof.Machine

theorem fr_modAxis {m : Nat} (hm : Within 128 m) {s0 s : State} {a1 a2} (h : Fr m s0 s) : Fr m s0 (State.modAxis s a1 a2) := by
  unfold State.modAxis
  apply fr_mk_pos (wt hm); with_reducible assumption

theorem fr_modList {m : Nat} (hm : Within 128 m) {s0 s : State} {a1 a2} (h : Fr m s0 s) : Fr m s0 (State.modList s a1 a2) := by
  unfold State.modList
  apply fr_mk_pos (wt hm); with_reducible assumption

theorem fr_modGen {m : Nat} (hm : Within 128 m) {s0 s : State} {a1} (h : Fr m s0 s) : Fr m s0 (State.modGen s a1) := by
  unfold State.modGen
  apply fr_mk_pos (wt hm); with_reducible assumption

theorem fr_unmarked {m : Nat} (hm : Within 2 m) {s0 s : State} {a1 a2} (h : Fr m s0 s) : Fr m s0 (State.unmarked s a1 a2) := by
  unfold State.unmarked
  split; with_reducible (apply fr_inc32 (wt hm); assumption; assumption)

theorem fr_compareFire {m : Nat} (hm : Within 418 m) {s0 s : State} {a1 a2} (h : Fr m s0 s) : Fr m s0 (State.compareFire s a1 a2) := by
  unfold State.compareFire
  dsimp only; split
  with_reducible (apply fr_inc32 (wt hm); apply fr_modList (wt hm); apply fr_fire (wt hm); apply fr_inc64 (wt hm); assumption)
  with_reducible (apply fr_emit (wt hm); apply fr_modList (wt hm); apply fr_modList (wt hm); apply fr_fire (wt hm))
  with_reducible (apply fr_inc64 (wt hm); assumption)

theorem fr_compareMissed {m : Nat} (hm : Within 258 m) {s0 s : State} {a1 a2} (h : Fr m s0 s) : Fr m s0 (State.compareMissed s a1 a2) := by
  unfold State.compareMissed
  dsimp only; with_reducible (apply fr_unmarked (wt hm); apply fr_fire (wt hm); apply fr_setReg (wt hm); apply fr_setReg (wt hm))
  with_reducible (apply fr_inc32 (wt hm); assumption)

theorem fr_compareCancel {m : Nat} (hm : Within 2 m) {s0 s : State} {a1 a2} (h : Fr m s0 s) : Fr m s0 (State.compareCancel s a1 a2) := by
  unfold State.compareCancel
  with_reducible (apply fr_unmarked (wt hm); apply fr_inc32 (wt hm); assumption)

theorem fr_showArmed {m : Nat} (hm : Within 2 m) {s0 s : State} {a1} (h : Fr m s0 s) : Fr m s0 (State.showArmed s a1) := by
  unfold State.showArmed
  with_reducible (apply fr_setReg (wt hm); assumption)

theorem fr_sweepList {m : Nat} (hm : Within 418 m) {s0 s : State} {a1 a2 a3} (h : Fr m s0 s) : Fr m s0 (State.sweepList s a1 a2 a3) := by
  unfold State.sweepList
  dsimp only; split; with_reducible (assumption; apply fr_showArmed (wt hm); apply fr_each; apply fr_modList (wt hm); assumption)
  intro _ _ _; split; with_reducible (apply fr_compareFire (wt hm); assumption; apply fr_compareMissed (wt hm); assumption)

theorem fr_compareSweep {m : Nat} (hm : Within 418 m) {s0 s : State} {a1} (h : Fr m s0 s) : Fr m s0 (State.compareSweep s a1) := by
  unfold State.compareSweep
  with_reducible (apply fr_each; assumption); intro _ _ _; split; with_reducible (apply fr_sweepList (wt hm); assumption; assumption)

theorem fr_placeEntry {m : Nat} (hm : Within 418 m) {s0 s : State} {a1 a2} (h : Fr m s0 s) : Fr m s0 (State.placeEntry s a1 a2) := by
  unfold State.placeEntry
  dsimp only; split
  with_reducible (apply fr_compareFire (wt hm); assumption; apply fr_compareMissed (wt hm); assumption; apply fr_showArmed (wt hm))
  with_reducible (apply fr_modList (wt hm); assumption)

theorem fr_cmdPlace {m : Nat} (hm : Within 418 m) {s0 s : State} {a0} (h : Fr m s0 s) : FrV m s0 (cmdPlace a0 s) := by
  unfold cmdPlace
  dsimp only; split; with_reducible (apply frV_error; apply frV_accept; apply fr_placeEntry (wt hm); assumption)

theorem fr_cancelEntries {m : Nat} (hm : Within 130 m) {s0 s : State} {a1 a2} (h : Fr m s0 s) : Fr m s0 (State.cancelEntries s a1 a2) := by
  unfold State.cancelEntries
  dsimp only; split; with_reducible (assumption; apply fr_showArmed (wt hm); apply fr_each; apply fr_modList (wt hm); assumption)
  intro _ _ _; with_reducible (apply fr_compareCancel (wt hm); assumption)

theorem fr_cmdCompareClear {m : Nat} (hm : Within 130 m) {s0 s : State} {a0} (h : Fr m s0 s) : FrV m s0 (cmdCompareClear a0 s) := by
  unfold cmdCompareClear
  with_reducible (apply frV_ok; apply fr_cancelEntries (wt hm); assumption)

theorem fr_markerArrive {m : Nat} (hm : Within 418 m) {s0 s : State} {a1} (h : Fr m s0 s) : Fr m s0 (State.markerArrive s a1) := by
  unfold State.markerArrive
  split; with_reducible assumption; dsimp only; split
  with_reducible (apply fr_placeEntry (wt hm); apply fr_inc32 (wt hm); apply fr_modList (wt hm); assumption; apply fr_fire (wt hm))
  with_reducible (apply fr_inc32 (wt hm); apply fr_modList (wt hm); assumption)

theorem fr_execMarkerEntryArrive {m : Nat} (hm : Within 418 m) {s0 s : State} {a0} (h : Fr m s0 s) : FrR m s0 (execMarkerEntryArrive a0 s) := by
  unfold execMarkerEntryArrive
  with_reducible (apply frR_inst; apply frR_next; apply fr_markerArrive (wt hm); assumption)

theorem fr_execCmpoutPulseEnd {m : Nat} (hm : Within 160 m) {s0 s : State} {a0} (h : Fr m s0 s) : FrR m s0 (execCmpoutPulseEnd a0 s) := by
  unfold execCmpoutPulseEnd
  with_reducible apply frR_inst; split
  with_reducible (apply frR_next; apply fr_emit (wt hm); apply fr_modList (wt hm); assumption; apply frR_next; assumption)

theorem fr_edgesDue {m : Nat} (hm : Within 130 m) {s0 s : State} {n : Nat} (h : Fr m s0 s) : Fr m s0 (State.edgesDue n s) := by
  induction n generalizing s with
  | zero => exact h
  | succ n ih =>
    unfold State.edgesDue
    dsimp only
    apply ih
    repeat' first | assumption | with_reducible first | apply fr_inc32 (wt hm) | apply fr_modGen (wt hm) | split

theorem fr_genSweep {m : Nat} (hm : Within 130 m) {s0 s : State} {a1} (h : Fr m s0 s) : Fr m s0 (State.genSweep s a1) := by
  unfold State.genSweep
  split; with_reducible (apply fr_edgesDue (wt hm); assumption; assumption)

theorem fr_execTimerLineEdge {m : Nat} (hm : Within 130 m) {s0 s : State} (h : Fr m s0 s) : FrR m s0 (execTimerLineEdge s) := by
  unfold execTimerLineEdge
  split; with_reducible (apply frR_next; apply fr_edgesDue (wt hm); assumption; apply frR_next; assumption)

theorem fr_edgeOut {m : Nat} (hm : Within 386 m) {s0 s : State} (h : Fr m s0 s) : Fr m s0 (State.edgeOut s) := by
  unfold State.edgeOut
  dsimp only; with_reducible (apply fr_fire (wt hm); apply fr_setReg (wt hm); apply fr_setReg (wt hm); apply fr_setReg (wt hm))
  with_reducible (apply fr_inc64 (wt hm); apply fr_modGen (wt hm); assumption)

theorem fr_execLineEdgeEmit {m : Nat} (hm : Within 386 m) {s0 s : State} (h : Fr m s0 s) : FrR m s0 (execLineEdgeEmit s) := by
  unfold execLineEdgeEmit
  split; with_reducible (apply frR_next; apply fr_edgeOut (wt hm); assumption; apply frR_next; assumption)

theorem fr_execLtrigPulse {m : Nat} (hm : Within 160 m) {s0 s : State} {a0} (h : Fr m s0 s) : FrR m s0 (execLtrigPulse a0 s) := by
  unfold execLtrigPulse
  with_reducible apply frR_inst; split; dsimp only
  with_reducible (apply frR_next; apply fr_emit (wt hm); apply fr_modGen (wt hm); assumption; apply frR_next; assumption)

theorem fr_setDirection {m : Nat} (hm : Within 386 m) {s0 s : State} {a1 a2 a3} (h : Fr m s0 s) : Fr m s0 (State.setDirection s a1 a2 a3) := by
  unfold State.setDirection
  dsimp only
  with_reducible (apply fr_fire (wt hm); apply fr_inc32 (wt hm); apply fr_modAxis (wt hm); apply fr_setReg (wt hm); assumption)

theorem fr_openReverse {m : Nat} (hm : Within 130 m) {s0 s : State} {a1} (h : Fr m s0 s) : Fr m s0 (State.openReverse s a1) := by
  unfold State.openReverse
  with_reducible (apply fr_modAxis (wt hm); apply fr_regBit (wt hm); assumption)

theorem fr_directionMove {m : Nat} (hm : Within 386 m) {s0 s : State} {a1 a2 a3} (h : Fr m s0 s) : Fr m s0 (State.directionMove s a1 a2 a3) := by
  unfold State.directionMove
  dsimp only; split; split; with_reducible (apply fr_setDirection (wt hm); assumption; assumption); split
  with_reducible (apply fr_modAxis (wt hm); assumption); split
  with_reducible (apply fr_setDirection (wt hm); assumption; apply fr_openReverse (wt hm); assumption); split
  with_reducible (apply fr_modAxis (wt hm); assumption); split
  with_reducible (apply fr_setDirection (wt hm); assumption; apply fr_openReverse (wt hm); assumption)

theorem fr_standCount {m : Nat} (hm : Within 130 m) {s0 s : State} {a1} (h : Fr m s0 s) : Fr m s0 (State.standCount s a1) := by
  unfold State.standCount
  dsimp only; split; with_reducible (apply fr_modAxis (wt hm); apply fr_setReg (wt hm); assumption; apply fr_modAxis (wt hm); assumption)

theorem fr_move {m : Nat} (hm : Within 418 m) {s0 s : State} {a1 a2} (h : Fr m s0 s) : Fr m s0 (State.move s a1 a2) := by
  unfold State.move
  split; with_reducible assumption; dsimp only
  with_reducible (apply fr_genSweep (wt hm); apply fr_compareSweep (wt hm); apply fr_directionMove (wt hm); apply fr_standCount (wt hm))
  with_reducible (apply fr_modAxis (wt hm); apply fr_setReg (wt hm); assumption)

theorem fr_posError {m : Nat} (hm : Within 258 m) {s0 s : State} {a1} (h : Fr m s0 s) : Fr m s0 (State.posError s a1) := by
  unfold State.posError
  with_reducible (apply fr_fire (wt hm); apply fr_inc32 (wt hm); assumption)

theorem fr_glitch {m : Nat} (hm : Within 2 m) {s0 s : State} {a1} (h : Fr m s0 s) : Fr m s0 (State.glitch s a1) := by
  unfold State.glitch
  with_reducible (apply fr_inc32 (wt hm); assumption)

theorem fr_execEncoderEdge {m : Nat} (hm : Within 418 m) {s0 s : State} {a0 a1 a2 a3} (h : Fr m s0 s) : FrR m s0 (execEncoderEdge a0 a1 a2 a3 s) := by
  unfold execEncoderEdge
  with_reducible apply frR_inst; split; split; with_reducible (apply frR_next; apply fr_glitch (wt hm); assumption); dsimp only; split
  with_reducible (apply frR_next; apply fr_modAxis (wt hm); assumption); split
  with_reducible (apply frR_next; apply fr_posError (wt hm); apply fr_modAxis (wt hm); assumption; apply frR_next; apply fr_move (wt hm))
  with_reducible (apply fr_modAxis (wt hm); assumption; apply frR_next; assumption)

theorem fr_hallMove {m : Nat} (hm : Within 418 m) {s0 s : State} {a1 a2} (h : Fr m s0 s) : Fr m s0 (State.hallMove s a1 a2) := by
  unfold State.hallMove
  split; with_reducible (apply fr_modAxis (wt hm); assumption; apply fr_posError (wt hm); assumption; apply fr_posError (wt hm))
  with_reducible (apply fr_modAxis (wt hm); assumption); dsimp only; split; with_reducible assumption; split
  with_reducible (apply fr_move (wt hm); apply fr_modAxis (wt hm); assumption); split
  with_reducible (apply fr_move (wt hm); apply fr_modAxis (wt hm); assumption; apply fr_posError (wt hm); apply fr_modAxis (wt hm))
  with_reducible assumption

theorem fr_execHallState {m : Nat} (hm : Within 418 m) {s0 s : State} {a0 a1 a2} (h : Fr m s0 s) : FrR m s0 (execHallState a0 a1 a2 s) := by
  unfold execHallState
  with_reducible apply frR_inst; split; split
  with_reducible (apply frR_next; apply fr_glitch (wt hm); assumption; apply frR_next; apply fr_hallMove (wt hm); assumption)
  with_reducible (apply frR_next; assumption)

theorem fr_axisStart {m : Nat} (hm : Within 130 m) {s0 s : State} {a1} (h : Fr m s0 s) : Fr m s0 (State.axisStart s a1) := by
  unfold State.axisStart
  dsimp only; with_reducible (apply fr_modAxis (wt hm); apply fr_setReg (wt hm); apply fr_setReg (wt hm); assumption)

theorem fr_ssiFrame {m : Nat} (hm : Within 418 m) {s0 s : State} {a1 a2 a3} (h : Fr m s0 s) : Fr m s0 (State.ssiFrame s a1 a2 a3) := by
  unfold State.ssiFrame
  dsimp only; split; with_reducible (apply fr_posError (wt hm); assumption); split; split; split
  with_reducible (apply fr_axisStart (wt hm); apply fr_modAxis (wt hm); assumption; apply fr_modAxis (wt hm); assumption); split
  with_reducible (apply fr_axisStart (wt hm); apply fr_modAxis (wt hm); assumption; apply fr_modAxis (wt hm); assumption); split; split
  with_reducible (apply fr_posError (wt hm); assumption; apply fr_move (wt hm); apply fr_modAxis (wt hm); assumption); split
  with_reducible (apply fr_posError (wt hm); assumption; apply fr_move (wt hm); apply fr_modAxis (wt hm); assumption)

theorem fr_execSsiFrame {m : Nat} (hm : Within 418 m) {s0 s : State} {a0 a1 a2} (h : Fr m s0 s) : FrR m s0 (execSsiFrame a0 a1 a2 s) := by
  unfold execSsiFrame
  with_reducible apply frR_inst; split; with_reducible (apply frR_next; apply fr_ssiFrame (wt hm); assumption; apply frR_next; assumption)

theorem fr_preset {m : Nat} (hm : Within 418 m) {s0 s : State} {a1} (h : Fr m s0 s) : Fr m s0 (State.preset s a1) := by
  unfold State.preset
  dsimp only; with_reducible apply fr_each; split
  with_reducible (apply fr_modGen (wt hm); apply fr_modAxis (wt hm); apply fr_setReg (wt hm); assumption; apply fr_modAxis (wt hm))
  with_reducible (apply fr_setReg (wt hm); assumption); intro _ _ _
  with_reducible (apply fr_modList (wt hm); apply fr_sweepList (wt hm); assumption)

theorem fr_cmdPreset {m : Nat} (hm : Within 418 m) {s0 s : State} {a0} (h : Fr m s0 s) : FrV m s0 (cmdPreset a0 s) := by
  unfold cmdPreset
  with_reducible (apply frV_ok; apply fr_preset (wt hm); assumption)

theorem fr_indexEdge {m : Nat} (hm : Within 418 m) {s0 s : State} {a1} (h : Fr m s0 s) : Fr m s0 (State.indexEdge s a1) := by
  unfold State.indexEdge
  dsimp only; split; split
  with_reducible (apply fr_regBit (wt hm); apply fr_setReg (wt hm); apply fr_preset (wt hm); apply fr_fire (wt hm))
  with_reducible (apply fr_setReg (wt hm); assumption; apply fr_fire (wt hm); apply fr_setReg (wt hm); assumption; assumption)

theorem fr_execIndexEdge {m : Nat} (hm : Within 418 m) {s0 s : State} {a0 a1} (h : Fr m s0 s) : FrR m s0 (execIndexEdge a0 a1 s) := by
  unfold execIndexEdge
  with_reducible apply frR_inst; split; split
  with_reducible (apply frR_next; apply fr_glitch (wt hm); assumption; apply frR_next; apply fr_indexEdge (wt hm); assumption)
  with_reducible (apply frR_next; assumption)

theorem fr_observe {m : Nat} (hm : Within 130 m) {s0 s : State} {a1} (h : Fr m s0 s) : Fr m s0 (State.observe s a1) := by
  unfold State.observe
  dsimp only; split; split
  with_reducible (apply fr_regBit (wt hm); apply fr_setReg (wt hm); apply fr_modAxis (wt hm); assumption; apply fr_setReg (wt hm))
  with_reducible (apply fr_modAxis (wt hm); assumption); split
  with_reducible (apply fr_regBit (wt hm); apply fr_setReg (wt hm); apply fr_modAxis (wt hm); assumption; apply fr_setReg (wt hm))
  with_reducible (apply fr_modAxis (wt hm); assumption)

theorem fr_execObserverUpdate {m : Nat} (hm : Within 130 m) {s0 s : State} {a0} (h : Fr m s0 s) : FrR m s0 (execObserverUpdate a0 s) := by
  unfold execObserverUpdate
  with_reducible apply frR_inst; split; with_reducible (apply frR_next; apply fr_observe (wt hm); assumption; apply frR_next; assumption)

theorem fr_standstill {m : Nat} (hm : Within 386 m) {s0 s : State} {a1} (h : Fr m s0 s) : Fr m s0 (State.standstill s a1) := by
  unfold State.standstill
  dsimp only
  with_reducible (apply fr_fire (wt hm); apply fr_setReg (wt hm); apply fr_regBit (wt hm); apply fr_modAxis (wt hm); assumption)

theorem fr_execStandstill {m : Nat} (hm : Within 386 m) {s0 s : State} {a0} (h : Fr m s0 s) : FrR m s0 (execStandstill a0 s) := by
  unfold execStandstill
  with_reducible (apply frR_inst; apply frR_next); split; with_reducible (apply fr_standstill (wt hm); assumption; assumption)

theorem fr_genStart {m : Nat} (hm : Within 130 m) {s0 s : State} (h : Fr m s0 s) : Fr m s0 (State.genStart s) := by
  unfold State.genStart
  dsimp only; with_reducible (apply fr_modGen (wt hm); apply fr_setReg (wt hm); assumption)

theorem fr_axisLeaves {m : Nat} (hm : Within 130 m) {s0 s : State} {a1} (h : Fr m s0 s) : Fr m s0 (State.axisLeaves s a1) := by
  unfold State.axisLeaves
  with_reducible (apply fr_each; assumption); intro _ _ _; with_reducible (apply fr_cancelEntries (wt hm); assumption)

theorem fr_positionAfter {m : Nat} (hm : Within 2 m) {s0 s : State} {a1 a2} (h : Fr m s0 s) : Fr m s0 (positionAfter s a1 a2) := by
  unfold positionAfter
  split; with_reducible (apply fr_regBit (wt hm); assumption; assumption)

end Sys2Proof.Machine
end

