-- ==== Sys2Proof/Laws/FrameAvail.lean ====
section
/-! SUPPORT. What the definitions of Machine/Avail.lean leave alone (Fr). -/

set_option Elab.async false

namespace Sys2Proof.Machine

theorem fr_setPair {m : Nat} (hm : Within 2 m) {s0 s : State} {a1 a2} (h : Fr m s0 s) : Fr m s0 (State.setPair s a1 a2) := by
  unfold State.setPair
  with_reducible (apply fr_setReg (wt hm); assumption)

theorem fr_runSlot {m : Nat} (hm : Within 2 m) {s0 s : State} {a1} (h : Fr m s0 s) : Fr m s0 (State.runSlot s a1) := by
  unfold State.runSlot
  with_reducible (apply fr_setReg (wt hm); apply fr_setReg (wt hm); apply fr_setReg (wt hm); assumption)

theorem fr_startProbation {m : Nat} (hm : Within 512 m) {s0 s : State} (h : Fr m s0 s) : Fr m s0 (State.startProbation s) := by
  unfold State.startProbation
  apply fr_mk_avail (wt hm); with_reducible assumption

theorem fr_failUpdate {m : Nat} (hm : Within 526083 m) {s0 s : State} {a1} (h : Fr m s0 s) : Fr m s0 (State.failUpdate s a1) := by
  unfold State.failUpdate
  dsimp only; split; with_reducible (apply fr_faultRecord (wt hm); apply fr_setReg (wt hm); assumption); split
  with_reducible (apply fr_startProbation (wt hm); assumption); split
  with_reducible (apply fr_faultRecord (wt hm); apply fr_setReg (wt hm); apply fr_runSlot (wt hm); assumption; assumption)

theorem fr_failover {m : Nat} (hm : Within 526091 m) {s0 s : State} {a1} (h : Fr m s0 s) : Fr m s0 (State.failover s a1) := by
  unfold State.failover
  dsimp only; split
  with_reducible (apply fr_failUpdate (wt hm); apply fr_faultDone (wt hm); apply fr_setReg (wt hm); apply fr_setReg (wt hm))
  with_reducible (apply fr_inc32 (wt hm); apply fr_setReg (wt hm); apply fr_setPair (wt hm); apply fr_setPair (wt hm); apply fr_snd)
  with_reducible (apply fr_draw (wt hm); apply fr_faultStart (wt hm); assumption); apply fr_mk_avail (wt hm)
  with_reducible (apply fr_faultDone (wt hm); apply fr_setPair (wt hm); apply fr_faultStart (wt hm); assumption)

theorem fr_execLockstepMismatch {m : Nat} (hm : Within 526091 m) {s0 s : State} (h : Fr m s0 s) : FrR m s0 (execLockstepMismatch s) := by
  unfold execLockstepMismatch
  split; with_reducible (apply frR_next; apply fr_failover (wt hm); assumption; apply frR_next; assumption)

theorem fr_execWatchdogExpiry {m : Nat} (hm : Within 526091 m) {s0 s : State} (h : Fr m s0 s) : FrR m s0 (execWatchdogExpiry s) := by
  unfold execWatchdogExpiry
  split; with_reducible (apply frR_next; apply fr_failover (wt hm); assumption; apply frR_next; assumption)

theorem fr_cmdFailover {m : Nat} (hm : Within 526091 m) {s0 s : State} (h : Fr m s0 s) : FrV m s0 (cmdFailover s) := by
  unfold cmdFailover
  with_reducible (apply frV_accept; apply fr_failover (wt hm); assumption)

theorem fr_execPairSelftestComplete {m : Nat} (hm : Within 2 m) {s0 s : State} {a0} (h : Fr m s0 s) : FrR m s0 (execPairSelftestComplete a0 s) := by
  unfold execPairSelftestComplete
  dsimp only; split; with_reducible (apply frR_next; apply fr_setPair (wt hm); assumption); split
  with_reducible (apply frR_next; apply fr_setPair (wt hm); assumption; apply frR_next; assumption)

theorem fr_setSlot {m : Nat} (hm : Within 3 m) {s0 s : State} {a1 a2} (h : Fr m s0 s) : Fr m s0 (State.setSlot s a1 a2) := by
  unfold State.setSlot
  dsimp only; with_reducible apply fr_setReg (wt hm); apply fr_mk_nv (wt hm); with_reducible assumption

theorem fr_writeImage {m : Nat} (hm : Within 515 m) {s0 s : State} {a1} (h : Fr m s0 s) : FrP m s0 (State.writeImage s a1) := by
  unfold State.writeImage
  split; dsimp only; with_reducible apply frP_mk; apply fr_mk_avail (wt hm)
  with_reducible (apply fr_setReg (wt hm); apply fr_setSlot (wt hm); assumption; apply frP_mk; apply fr_setReg (wt hm))
  with_reducible (apply fr_setSlot (wt hm); assumption)

theorem fr_cmdActivate {m : Nat} (hm : Within 2 m) {s0 s : State} (h : Fr m s0 s) : FrV m s0 (cmdActivate s) := by
  unfold cmdActivate
  dsimp only; with_reducible (apply frV_accept; apply fr_setReg (wt hm); apply fr_setPair (wt hm); assumption)

theorem fr_execLoadingComplete {m : Nat} (hm : Within 2 m) {s0 s : State} (h : Fr m s0 s) : FrR m s0 (execLoadingComplete s) := by
  unfold execLoadingComplete
  split; with_reducible (apply frR_next; apply fr_setReg (wt hm); assumption; apply frR_next; assumption)

theorem fr_execHandoverComplete {m : Nat} (hm : Within 514 m) {s0 s : State} {a0} (h : Fr m s0 s) : FrR m s0 (execHandoverComplete a0 s) := by
  unfold execHandoverComplete
  split; dsimp only; with_reducible (apply frR_next; apply fr_setReg (wt hm); apply fr_startProbation (wt hm)); apply fr_mk_avail (wt hm)
  with_reducible (apply fr_runSlot (wt hm); apply fr_setReg (wt hm); apply fr_setReg (wt hm); apply fr_setReg (wt hm))
  with_reducible (apply fr_setPair (wt hm); apply fr_setPair (wt hm); assumption; apply frR_next; assumption)

theorem fr_execProbationEnd {m : Nat} (hm : Within 525571 m) {s0 s : State} (h : Fr m s0 s) : FrR m s0 (execProbationEnd s) := by
  unfold execProbationEnd
  split; dsimp only
  with_reducible (apply frR_next; apply fr_faultRecord (wt hm); apply fr_inc32 (wt hm); apply fr_setReg (wt hm); apply fr_setReg (wt hm))
  apply fr_mk_nv (wt hm); with_reducible (assumption; apply frR_next; assumption)

theorem fr_tap {m : Nat} (hm : Within 1024 m) {s0 s : State} {a1 a2 a3} (h : Fr m s0 s) : Fr m s0 (State.tap s a1 a2 a3) := by
  unfold State.tap
  apply fr_mk_power (wt hm); with_reducible assumption

theorem fr_execExtest {m : Nat} (hm : Within 1024 m) {s0 s : State} {a0 a1} (h : Fr m s0 s) : FrR m s0 (execExtest a0 a1 s) := by
  unfold execExtest
  split; with_reducible (apply frR_next; apply fr_tap (wt hm); assumption; apply frR_next); dsimp only; apply fr_mk_power (wt hm)
  with_reducible (apply fr_tap (wt hm); assumption)

theorem fr_execIdcode {m : Nat} (hm : Within 1024 m) {s0 s : State} (h : Fr m s0 s) : FrR m s0 (execIdcode s) := by
  unfold execIdcode
  with_reducible (apply frR_next; apply fr_tap (wt hm); assumption)

theorem fr_execSamplePreload {m : Nat} (hm : Within 1024 m) {s0 s : State} {a0 a1} (h : Fr m s0 s) : FrR m s0 (execSamplePreload a0 a1 s) := by
  unfold execSamplePreload
  with_reducible apply frR_next; dsimp only; apply fr_mk_power (wt hm); with_reducible (apply fr_tap (wt hm); assumption)

theorem fr_execClamp {m : Nat} (hm : Within 1024 m) {s0 s : State} (h : Fr m s0 s) : FrR m s0 (execClamp s) := by
  unfold execClamp
  with_reducible (apply frR_next; apply fr_tap (wt hm); assumption)

theorem fr_execHighz {m : Nat} (hm : Within 1024 m) {s0 s : State} (h : Fr m s0 s) : FrR m s0 (execHighz s) := by
  unfold execHighz
  with_reducible (apply frR_next; apply fr_tap (wt hm); assumption)

theorem fr_execBypass {m : Nat} (hm : Within 1024 m) {s0 s : State} (h : Fr m s0 s) : FrR m s0 (execBypass s) := by
  unfold execBypass
  with_reducible (apply frR_next; apply fr_tap (wt hm); assumption)

end Sys2Proof.Machine
end

