-- ==== Sys2Proof/Laws/FrameDramMap.lean ====
section
/-! SUPPORT. What the definitions of Machine/DramMap.lean leave alone (Fr). -/

set_option Elab.async false

namespace Sys2Proof.Machine

theorem fr_setDdr {m : Nat} (hm : Within 32768 m) {s0 s : State} {a1} (h : Fr m s0 s) : Fr m s0 (State.setDdr s a1) := by
  unfold State.setDdr
  apply fr_mk_ddr (wt hm); with_reducible assumption

theorem fr_modChan {m : Nat} (hm : Within 32768 m) {s0 s : State} {a1 a2} (h : Fr m s0 s) : Fr m s0 (State.modChan s a1 a2) := by
  unfold State.modChan
  with_reducible (apply fr_setDdr (wt hm); assumption)

theorem fr_closeRow {m : Nat} (hm : Within 32770 m) {s0 s : State} {a1 a2} (h : Fr m s0 s) : Fr m s0 (State.closeRow s a1 a2) := by
  unfold State.closeRow
  dsimp only; split; with_reducible assumption; split; split
  with_reducible (apply fr_modChan (wt hm); assumption; apply fr_inc64 (wt hm); apply fr_inc64 (wt hm); apply fr_modChan (wt hm))
  with_reducible assumption; split
  with_reducible (apply fr_modChan (wt hm); assumption; apply fr_inc64 (wt hm); apply fr_inc64 (wt hm); apply fr_modChan (wt hm))
  with_reducible assumption

theorem fr_closeRows {m : Nat} (hm : Within 32770 m) {s0 s : State} {a1 a2} (h : Fr m s0 s) : Fr m s0 (State.closeRows s a1 a2) := by
  unfold State.closeRows
  with_reducible (apply fr_each; assumption); intro _ _ _; with_reducible (apply fr_closeRow (wt hm); assumption)

theorem fr_activate {m : Nat} (hm : Within 32770 m) {s0 s : State} {a1 a2 a3} (h : Fr m s0 s) : Fr m s0 (State.activate s a1 a2 a3) := by
  unfold State.activate
  dsimp only; with_reducible (apply fr_inc64 (wt hm); apply fr_modChan (wt hm); assumption)

theorem fr_access {m : Nat} (hm : Within 32770 m) {s0 s : State} {a1 a2} (h : Fr m s0 s) : Fr m s0 (State.access s a1 a2) := by
  unfold State.access
  dsimp only; split; with_reducible (apply fr_inc64 (wt hm); assumption; apply fr_activate (wt hm); apply fr_closeRow (wt hm); assumption)

theorem fr_deviceRead {m : Nat} (hm : Within 32770 m) {s0 s : State} {a1 a2} (h : Fr m s0 s) : Fr m s0 (State.deviceRead s a1 a2) := by
  unfold State.deviceRead
  with_reducible (apply fr_inc64 (wt hm); apply fr_access (wt hm); assumption)

theorem fr_markUnit {m : Nat} (hm : Within 32768 m) {s0 s : State} {a1 a2 a3} (h : Fr m s0 s) : Fr m s0 (State.markUnit s a1 a2 a3) := by
  unfold State.markUnit
  dsimp only; with_reducible (apply fr_setDdr (wt hm); assumption)

theorem fr_deviceWrite {m : Nat} (hm : Within 32786 m) {s0 s : State} {a1 a2 a3} (h : Fr m s0 s) : Fr m s0 (State.deviceWrite s a1 a2 a3) := by
  unfold State.deviceWrite
  split; with_reducible (assumption; apply fr_markUnit (wt hm); apply fr_putUnit (wt hm); apply fr_inc64 (wt hm); apply fr_access (wt hm))
  with_reducible assumption

theorem fr_readFails {m : Nat} (hm : Within 525571 m) {s0 s : State} {a1 a2} (h : Fr m s0 s) : Fr m s0 (State.readFails s a1 a2) := by
  unfold State.readFails
  with_reducible (apply fr_faultRecord (wt hm); apply fr_inc32 (wt hm); assumption)

theorem fr_rebuildRead {m : Nat} (hm : Within 32770 m) {s0 s : State} {a1 a2} (h : Fr m s0 s) : Fr m s0 (State.rebuildRead s a1 a2) := by
  unfold State.rebuildRead
  with_reducible (apply fr_inc64 (wt hm); apply fr_each; assumption); intro _ _ _
  with_reducible (apply fr_deviceRead (wt hm); assumption)

theorem fr_engineRead {m : Nat} (hm : Within 558339 m) {s0 s : State} {a1 a2} (h : Fr m s0 s) : Fr m s0 (State.engineRead s a1 a2) := by
  unfold State.engineRead
  split; with_reducible (apply fr_deviceRead (wt hm); assumption); split
  with_reducible (apply fr_rebuildRead (wt hm); assumption; apply fr_readFails (wt hm); assumption)

theorem fr_closeStripe {m : Nat} (hm : Within 558355 m) {s0 s : State} {a1} (h : Fr m s0 s) : Fr m s0 (State.closeStripe s a1) := by
  unfold State.closeStripe
  dsimp only; split; with_reducible (apply fr_markUnit (wt hm); apply fr_deviceWrite (wt hm); apply fr_setDdr (wt hm)); split
  with_reducible (apply fr_inc64 (wt hm); apply fr_each; assumption); intro _ _ _
  with_reducible (apply fr_engineRead (wt hm); assumption; apply fr_inc64 (wt hm); apply fr_inc64 (wt hm); apply fr_each; assumption)
  intro _ _ _; with_reducible (apply fr_engineRead (wt hm); assumption; apply fr_deviceWrite (wt hm); apply fr_setDdr (wt hm)); split
  with_reducible (apply fr_inc64 (wt hm); apply fr_each; assumption); intro _ _ _
  with_reducible (apply fr_engineRead (wt hm); assumption; apply fr_inc64 (wt hm); apply fr_inc64 (wt hm); apply fr_each; assumption)
  intro _ _ _; with_reducible (apply fr_engineRead (wt hm); assumption)

theorem fr_enterStripe {m : Nat} (hm : Within 32786 m) {s0 s : State} {a1 a2 a3 a4} (h : Fr m s0 s) : Fr m s0 (State.enterStripe s a1 a2 a3 a4) := by
  unfold State.enterStripe
  dsimp only; split; with_reducible (apply fr_markUnit (wt hm); apply fr_deviceWrite (wt hm); apply fr_setDdr (wt hm); assumption)
  with_reducible (apply fr_deviceWrite (wt hm); apply fr_setDdr (wt hm); assumption)

theorem fr_completeUnit {m : Nat} (hm : Within 558347 m) {s0 s : State} {a1 a2 a3} (h : Fr m s0 s) : FrP m s0 (State.completeUnit s a1 a2 a3) := by
  unfold State.completeUnit
  split; with_reducible (apply frP_mk; assumption); split
  with_reducible (apply frP_mk; apply fr_inc64 (wt hm); apply fr_engineRead (wt hm); assumption); dsimp only
  with_reducible (apply frP_mk; apply fr_inc64 (wt hm); apply fr_engineRead (wt hm); apply fr_snd; apply fr_draw (wt hm); assumption)

theorem fr_closeAssembly {m : Nat} (hm : Within 558363 m) {s0 s : State} {a1 a2} (h : Fr m s0 s) : Fr m s0 (State.closeAssembly s a1 a2) := by
  unfold State.closeAssembly
  dsimp only; split; with_reducible (apply fr_setDdr (wt hm); assumption); split
  with_reducible (apply fr_closeStripe (wt hm); apply fr_enterStripe (wt hm); apply fr_snd; apply fr_completeUnit (wt hm))
  with_reducible (apply fr_setDdr (wt hm); assumption; apply fr_enterStripe (wt hm); apply fr_snd; apply fr_completeUnit (wt hm))
  with_reducible (apply fr_setDdr (wt hm); assumption)

theorem fr_makeRoom {m : Nat} (hm : Within 558363 m) {s0 s : State} (h : Fr m s0 s) : Fr m s0 (State.makeRoom s) := by
  unfold State.makeRoom
  split; split; with_reducible (apply fr_closeAssembly (wt hm); assumption; assumption; assumption)

theorem fr_engineAccept {m : Nat} (hm : Within 32770 m) {s0 s : State} {a1 a2 a3} (h : Fr m s0 s) : Fr m s0 (State.engineAccept s a1 a2 a3) := by
  unfold State.engineAccept
  dsimp only; with_reducible (apply fr_setReg (wt hm); apply fr_setDdr (wt hm); assumption)

theorem fr_admitWriters {m : Nat} (hm : Within 32770 m) {s0 s : State} (h : Fr m s0 s) : Fr m s0 (State.admitWriters s) := by
  unfold State.admitWriters
  with_reducible (apply fr_each; assumption); intro _ _ _; split
  with_reducible (apply fr_engineAccept (wt hm); apply fr_setDdr (wt hm); assumption; assumption)

theorem fr_engineWrite {m : Nat} (hm : Within 558363 m) {s0 s : State} {a1 a2 a3 a4} (h : Fr m s0 s) : Fr m s0 (State.engineWrite s a1 a2 a3 a4) := by
  unfold State.engineWrite
  dsimp only; split; split; with_reducible (apply fr_engineAccept (wt hm); assumption; apply fr_setDdr (wt hm); assumption); split
  with_reducible (apply fr_engineAccept (wt hm); apply fr_makeRoom (wt hm); assumption; apply fr_setDdr (wt hm))
  with_reducible (apply fr_makeRoom (wt hm); assumption)

theorem fr_meterU {m : Nat} (hm : Within 32770 m) {s0 s : State} {a1 a2} (h : Fr m s0 s) : Fr m s0 (State.meterU s a1 a2) := by
  unfold State.meterU
  split; with_reducible assumption; dsimp only; split; split
  with_reducible (apply fr_inc32 (wt hm); apply fr_modChan (wt hm); assumption; apply fr_modChan (wt hm); assumption); split
  with_reducible (apply fr_inc32 (wt hm); apply fr_modChan (wt hm); assumption; apply fr_modChan (wt hm); assumption)

theorem fr_plainWrite {m : Nat} (hm : Within 32786 m) {s0 s : State} {a1 a2 a3 a4} (h : Fr m s0 s) : Fr m s0 (State.plainWrite s a1 a2 a3 a4) := by
  unfold State.plainWrite
  split; with_reducible (apply fr_deviceWrite (wt hm); assumption); dsimp only
  with_reducible (apply fr_whenB; apply fr_deviceWrite (wt hm); apply fr_deviceRead (wt hm); assumption); intro _ _
  with_reducible (apply fr_markUnit (wt hm); assumption)

theorem fr_poolFull {m : Nat} (hm : Within 258 m) {s0 s : State} {a1} (h : Fr m s0 s) : Fr m s0 (State.poolFull s a1) := by
  unfold State.poolFull
  with_reducible (apply fr_countE (wt hm); assumption)

theorem fr_enqueue {m : Nat} (hm : Within 33026 m) {s0 s : State} {a1} (h : Fr m s0 s) : Fr m s0 (State.enqueue s a1) := by
  unfold State.enqueue
  dsimp only; with_reducible apply fr_setDdr (wt hm); split; with_reducible (apply fr_poolFull (wt hm); assumption; assumption)

theorem fr_unprotWrite {m : Nat} (hm : Within 33042 m) {s0 s : State} {a1 a2 a3 a4 a5} (h : Fr m s0 s) : Fr m s0 (State.unprotWrite s a1 a2 a3 a4 a5) := by
  unfold State.unprotWrite
  split; with_reducible (apply fr_enqueue (wt hm); assumption; assumption; apply fr_plainWrite (wt hm); assumption)

theorem fr_storeUnit {m : Nat} (hm : Within 558363 m) {s0 s : State} {a1 a2 a3 a4} (h : Fr m s0 s) : Fr m s0 (State.storeUnit s a1 a2 a3 a4) := by
  unfold State.storeUnit
  split; with_reducible assumption; dsimp only; split
  with_reducible (apply fr_engineWrite (wt hm); apply fr_meterU (wt hm); assumption; apply fr_unprotWrite (wt hm))
  with_reducible (apply fr_meterU (wt hm); assumption)

theorem fr_store {m : Nat} (hm : Within 558363 m) {s0 s : State} {a1 a2 a3} (h : Fr m s0 s) : Fr m s0 (State.store s a1 a2 a3) := by
  unfold State.store
  with_reducible (apply fr_each; assumption); intro _ _ _; with_reducible (apply fr_storeUnit (wt hm); assumption)

theorem fr_takeDelays {m : Nat} (hm : Within 6 m) {s0 s : State} {a1 a2} (h : Fr m s0 s) : Fr m s0 (State.takeDelays s a1 a2) := by
  unfold State.takeDelays
  with_reducible (apply fr_setReg (wt hm); apply fr_setDom (wt hm); assumption)

theorem fr_releaseHeld {m : Nat} (hm : Within 558363 m) {s0 s : State} {a1} (h : Fr m s0 s) : Fr m s0 (State.releaseHeld s a1) := by
  unfold State.releaseHeld
  dsimp only; with_reducible (apply fr_each; apply fr_each; assumption); intro _ _ _
  with_reducible (apply fr_closeAssembly (wt hm); assumption); intro _ _ _; with_reducible (apply fr_closeStripe (wt hm); assumption)

theorem fr_countUncorrectable {m : Nat} (hm : Within 32770 m) {s0 s : State} {a1 a2} (h : Fr m s0 s) : Fr m s0 (State.countUncorrectable s a1 a2) := by
  unfold State.countUncorrectable
  dsimp only; with_reducible (apply fr_modChan (wt hm); apply fr_setReg (wt hm); apply fr_inc32 (wt hm); assumption)

theorem fr_readUnitOnly {m : Nat} (hm : Within 558867 m) {s0 s : State} {a1 a2 a3} (h : Fr m s0 s) : Fr m s0 (State.readUnitOnly s a1 a2 a3) := by
  unfold State.readUnitOnly
  dsimp only; split; split; split
  with_reducible (apply fr_setReg (wt hm); apply fr_inc64 (wt hm); apply fr_deviceRead (wt hm); assumption; apply fr_deviceRead (wt hm))
  with_reducible (assumption; apply fr_countUncorrectable (wt hm)); split
  with_reducible (apply fr_faultDone (wt hm); apply fr_deviceWrite (wt hm); apply fr_rebuildRead (wt hm)); split
  with_reducible (apply fr_faultStart (wt hm); apply fr_markUnit (wt hm); apply fr_deviceRead (wt hm); assumption)
  with_reducible (apply fr_markUnit (wt hm); apply fr_deviceRead (wt hm); assumption); split
  with_reducible (apply fr_faultDone (wt hm); apply fr_readFails (wt hm); apply fr_faultStart (wt hm); apply fr_markUnit (wt hm))
  with_reducible (apply fr_deviceRead (wt hm); assumption; apply fr_readFails (wt hm); apply fr_markUnit (wt hm))
  with_reducible (apply fr_deviceRead (wt hm); assumption); split
  with_reducible (apply fr_rebuildRead (wt hm); assumption; apply fr_readFails (wt hm); assumption)

theorem fr_serveReq {m : Nat} (hm : Within 558867 m) {s0 s : State} {a1} (h : Fr m s0 s) : Fr m s0 (State.serveReq s a1) := by
  unfold State.serveReq
  dsimp only; split; with_reducible (apply fr_plainWrite (wt hm); apply fr_setDdr (wt hm); assumption; apply fr_readUnitOnly (wt hm))
  with_reducible (apply fr_setDdr (wt hm); assumption)

theorem fr_serveQueue {m : Nat} (hm : Within 558867 m) {s0 s : State} {ch n : Nat} (h : Fr m s0 s) : Fr m s0 (State.serveQueue s ch n) := by
  induction n generalizing s with
  | zero => exact h
  | succ n ih =>
    unfold State.serveQueue
    split; apply ih; with_reducible (apply fr_serveReq (wt hm); assumption; assumption)

theorem fr_backOnline {m : Nat} (hm : Within 558879 m) {s0 s : State} {a1} (h : Fr m s0 s) : Fr m s0 (State.backOnline s a1) := by
  unfold State.backOnline
  dsimp only; with_reducible (apply fr_serveQueue (wt hm); apply fr_admitWriters (wt hm); apply fr_releaseHeld (wt hm)); split
  with_reducible (apply fr_setDdr (wt hm); apply fr_takeDelays (wt hm); apply fr_setReg (wt hm); assumption; apply fr_setReg (wt hm))
  with_reducible assumption

theorem fr_goOffline {m : Nat} (hm : Within 32770 m) {s0 s : State} {a1} (h : Fr m s0 s) : Fr m s0 (State.goOffline s a1) := by
  unfold State.goOffline
  with_reducible (apply fr_setReg (wt hm); apply fr_closeRows (wt hm); assumption)

theorem fr_failQueue {m : Nat} (hm : Within 558339 m) {s0 s : State} {a1} (h : Fr m s0 s) : Fr m s0 (State.failQueue s a1) := by
  unfold State.failQueue
  dsimp only; with_reducible (apply fr_each; apply fr_setDdr (wt hm); assumption); intro _ _ _
  with_reducible (apply fr_readFails (wt hm); assumption)

theorem fr_channelLost {m : Nat} (hm : Within 558879 m) {s0 s : State} {a1 a2} (h : Fr m s0 s) : Fr m s0 (State.channelLost s a1 a2) := by
  unfold State.channelLost
  split; with_reducible assumption; dsimp only
  with_reducible (apply fr_faultDone (wt hm); apply fr_fire (wt hm); apply fr_admitWriters (wt hm); apply fr_releaseHeld (wt hm))
  with_reducible (apply fr_failQueue (wt hm); apply fr_modChan (wt hm); apply fr_setReg (wt hm); apply fr_setReg (wt hm))
  with_reducible (apply fr_setReg (wt hm); apply fr_faultStart (wt hm)); split; split
  with_reducible (apply fr_setReg (wt hm); apply fr_setReg (wt hm); apply fr_setDdr (wt hm); apply fr_each; assumption); intro _ _ _
  with_reducible (apply fr_backOnline (wt hm); assumption; apply fr_setReg (wt hm); apply fr_setDdr (wt hm); apply fr_each; assumption)
  intro _ _ _; with_reducible (apply fr_backOnline (wt hm); assumption); split
  with_reducible (apply fr_setReg (wt hm); apply fr_each; assumption); intro _ _ _
  with_reducible (apply fr_backOnline (wt hm); assumption; apply fr_each; assumption); intro _ _ _
  with_reducible (apply fr_backOnline (wt hm); assumption)

theorem fr_readUnit {m : Nat} (hm : Within 558879 m) {s0 s : State} {a1 a2 a3} (h : Fr m s0 s) : Fr m s0 (State.readUnit s a1 a2 a3) := by
  unfold State.readUnit
  dsimp only; split
  with_reducible (apply fr_channelLost (wt hm); apply fr_readUnitOnly (wt hm); assumption; apply fr_readUnitOnly (wt hm); assumption)

theorem fr_readRange {m : Nat} (hm : Within 558879 m) {s0 s : State} {a1 a2 a3} (h : Fr m s0 s) : Fr m s0 (State.readRange s a1 a2 a3) := by
  unfold State.readRange
  with_reducible (apply fr_each; assumption); intro _ _ _; split; split
  with_reducible (apply fr_enqueue (wt hm); apply fr_meterU (wt hm); assumption; apply fr_readUnit (wt hm); apply fr_meterU (wt hm))
  with_reducible (assumption; assumption)

end Sys2Proof.Machine
end

