-- ==== Sys2Proof/Laws/FrameSheaf.lean ====
section
/-! SUPPORT. What the definitions of Machine/Sheaf.lean leave alone (Fr). -/

set_option Elab.async false

namespace Sys2Proof.Machine

theorem fr_setRx {m : Nat} (hm : Within 262144 m) {s0 s : State} {a1 a2} (h : Fr m s0 s) : Fr m s0 (State.setRx s a1 a2) := by
  unfold State.setRx
  apply fr_mk_sheaf (wt hm); with_reducible assumption

theorem fr_modRx {m : Nat} (hm : Within 262144 m) {s0 s : State} {a1 a2} (h : Fr m s0 s) : Fr m s0 (State.modRx s a1 a2) := by
  unfold State.modRx
  with_reducible (apply fr_setRx (wt hm); assumption)

theorem fr_setTx {m : Nat} (hm : Within 262144 m) {s0 s : State} {a1 a2} (h : Fr m s0 s) : Fr m s0 (State.setTx s a1 a2) := by
  unfold State.setTx
  apply fr_mk_sheaf (wt hm); with_reducible assumption

theorem fr_setGroup {m : Nat} (hm : Within 262144 m) {s0 s : State} {a1 a2} (h : Fr m s0 s) : Fr m s0 (State.setGroup s a1 a2) := by
  unfold State.setGroup
  apply fr_mk_sheaf (wt hm); with_reducible assumption

theorem fr_setStream {m : Nat} (hm : Within 262146 m) {s0 s : State} {a1 a2} (h : Fr m s0 s) : Fr m s0 (State.setStream s a1 a2) := by
  unfold State.setStream
  with_reducible apply fr_setReg (wt hm); apply fr_mk_sheaf (wt hm); with_reducible assumption

theorem fr_setLaneState {m : Nat} (hm : Within 525635 m) {s0 s : State} {a1 a2} (h : Fr m s0 s) : Fr m s0 (State.setLaneState s a1 a2) := by
  unfold State.setLaneState
  dsimp only; with_reducible apply fr_each; split
  with_reducible (apply fr_setReg (wt hm); assumption; apply fr_setReg (wt hm); apply fr_setReg (wt hm); assumption); intro _ _ _; split
  split; with_reducible (apply fr_signalReturn (wt hm); assumption; apply fr_signalLoss (wt hm); assumption; assumption)

theorem fr_showLink {m : Nat} (hm : Within 2 m) {s0 s : State} {a1} (h : Fr m s0 s) : Fr m s0 (State.showLink s a1) := by
  unfold State.showLink
  with_reducible (apply fr_setReg (wt hm); assumption)

theorem fr_sendFrames {m : Nat} (hm : Within 262176 m) {s0 s : State} {a1 a2} (h : Fr m s0 s) : Fr m s0 (State.sendFrames s a1 a2) := by
  unfold State.sendFrames
  dsimp only; with_reducible (apply fr_each; apply fr_setTx (wt hm); assumption); intro _ _ _
  with_reducible (apply fr_emit (wt hm); assumption)

theorem fr_sendItem {m : Nat} (hm : Within 262176 m) {s0 s : State} {a1 a2} (h : Fr m s0 s) : Fr m s0 (State.sendItem s a1 a2) := by
  unfold State.sendItem
  with_reducible (apply fr_sendFrames (wt hm); assumption)

theorem fr_drainLane {m : Nat} (hm : Within 262176 m) {s0 s : State} {a1} (h : Fr m s0 s) : Fr m s0 (State.drainLane s a1) := by
  unfold State.drainLane
  dsimp only; with_reducible (apply fr_each; apply fr_setTx (wt hm); assumption); intro _ _ _
  with_reducible (apply fr_emit (wt hm); assumption)

theorem fr_queueControl {m : Nat} (hm : Within 262144 m) {s0 s : State} {a1 a2} (h : Fr m s0 s) : Fr m s0 (State.queueControl s a1 a2) := by
  unfold State.queueControl
  split; with_reducible (apply fr_setTx (wt hm); assumption; assumption)

theorem fr_camSetsLost {m : Nat} (hm : Within 2 m) {s0 s : State} {a1} (h : Fr m s0 s) : Fr m s0 (State.camSetsLost s a1) := by
  unfold State.camSetsLost
  dsimp only; split; with_reducible (assumption; apply fr_inc32 (wt hm); assumption)

theorem fr_dropControl {m : Nat} (hm : Within 262146 m) {s0 s : State} {a1} (h : Fr m s0 s) : Fr m s0 (State.dropControl s a1) := by
  unfold State.dropControl
  with_reducible (apply fr_camSetsLost (wt hm); apply fr_setTx (wt hm); assumption)

theorem fr_fragmentSent {m : Nat} (hm : Within 327682 m) {s0 s : State} {a1 a2} (h : Fr m s0 s) : Fr m s0 (State.fragmentSent s a1 a2) := by
  unfold State.fragmentSent
  split; with_reducible assumption; dsimp only; split
  with_reducible (apply fr_setStream (wt hm); apply fr_inc64 (wt hm); assumption; apply fr_whenB; apply fr_whenB)
  apply fr_mk_xarray (wt hm); with_reducible (apply fr_inc64 (wt hm); apply fr_setStream (wt hm); apply fr_inc64 (wt hm); assumption)
  intro _ _; with_reducible (apply fr_inc64 (wt hm); assumption); intro _ _; with_reducible (apply fr_inc64 (wt hm); assumption)

theorem fr_sendPacket {m : Nat} (hm : Within 327714 m) {s0 s : State} {a1 a2} (h : Fr m s0 s) : Fr m s0 (State.sendPacket s a1 a2) := by
  unfold State.sendPacket
  split; with_reducible assumption; dsimp only
  with_reducible (apply fr_fragmentSent (wt hm); apply fr_sendItem (wt hm); apply fr_emit (wt hm); apply fr_setTx (wt hm))
  with_reducible (apply fr_setReg (wt hm); apply fr_setStream (wt hm); assumption)

theorem fr_sendControl {m : Nat} (hm : Within 262176 m) {s0 s : State} {a1 a2} (h : Fr m s0 s) : Fr m s0 (State.sendControl s a1 a2) := by
  unfold State.sendControl
  with_reducible (apply fr_sendItem (wt hm); apply fr_emit (wt hm); assumption)

theorem fr_itemTx {m : Nat} (hm : Within 327970 m) {s0 s : State} {a1} (h : Fr m s0 s) : Fr m s0 (State.itemTx s a1) := by
  unfold State.itemTx
  split; with_reducible assumption; split; with_reducible assumption; split; dsimp only
  with_reducible (apply fr_countE (wt hm); apply fr_inc64 (wt hm); apply fr_sendControl (wt hm); apply fr_setTx (wt hm); assumption)
  split; split
  with_reducible (apply fr_countE (wt hm); apply fr_inc64 (wt hm); apply fr_sendPacket (wt hm); assumption; apply fr_sendItem (wt hm))
  with_reducible (assumption; apply fr_sendItem (wt hm); assumption)

theorem fr_execItemTx {m : Nat} (hm : Within 327970 m) {s0 s : State} {a0} (h : Fr m s0 s) : FrR m s0 (execItemTx a0 s) := by
  unfold execItemTx
  with_reducible (apply frR_inst; apply frR_next; apply fr_itemTx (wt hm); assumption)

theorem fr_streamPut {m : Nat} (hm : Within 262146 m) {s0 s : State} {a1 a2} (h : Fr m s0 s) : Fr m s0 (State.streamPut s a1 a2) := by
  unfold State.streamPut
  split; with_reducible (assumption; apply fr_setStream (wt hm); assumption)

theorem fr_execQlSend {m : Nat} (hm : Within 262144 m) {s0 s : State} (h : Fr m s0 s) : FrR m s0 (execQlSend s) := by
  unfold execQlSend
  dsimp only; with_reducible (apply frR_next; apply fr_each; assumption); intro _ _ _; with_reducible (apply fr_each; assumption)
  intro _ _ _; with_reducible (apply fr_queueControl (wt hm); assumption)

theorem fr_sendRxMap {m : Nat} (hm : Within 262146 m) {s0 s : State} {a1 a2} (h : Fr m s0 s) : Fr m s0 (State.sendRxMap s a1 a2) := by
  unfold State.sendRxMap
  dsimp only; with_reducible (apply fr_queueControl (wt hm); apply fr_inc32 (wt hm); apply fr_setGroup (wt hm); assumption)

theorem fr_sendTxMap {m : Nat} (hm : Within 788227 m) {s0 s : State} {a1 a2 a3} (h : Fr m s0 s) : Fr m s0 (State.sendTxMap s a1 a2 a3) := by
  unfold State.sendTxMap
  dsimp only; with_reducible (apply fr_each; apply fr_queueControl (wt hm); apply fr_setGroup (wt hm); apply fr_showLink (wt hm))
  with_reducible (apply fr_setReg (wt hm); apply fr_setReg (wt hm); assumption); intro _ _ _
  with_reducible (apply fr_faultDone (wt hm); assumption)

theorem fr_nextFailover {m : Nat} (hm : Within 788227 m) {s0 s : State} {a1} (h : Fr m s0 s) : Fr m s0 (State.nextFailover s a1) := by
  unfold State.nextFailover
  split; with_reducible (apply fr_setGroup (wt hm); assumption); split
  with_reducible (apply fr_sendTxMap (wt hm); apply fr_inc32 (wt hm); assumption; apply fr_sendRxMap (wt hm); assumption)

theorem fr_endFailover {m : Nat} (hm : Within 788227 m) {s0 s : State} {a1} (h : Fr m s0 s) : Fr m s0 (State.endFailover s a1) := by
  unfold State.endFailover
  dsimp only; with_reducible (apply fr_each; apply fr_setGroup (wt hm); assumption); intro _ _ _
  with_reducible (apply fr_faultDone (wt hm); assumption)

theorem fr_rxLaneFail {m : Nat} (hm : Within 788291 m) {s0 s : State} {a1} (h : Fr m s0 s) : Fr m s0 (State.rxLaneFail s a1) := by
  unfold State.rxLaneFail
  split; with_reducible (apply fr_setLaneState (wt hm); assumption); split; with_reducible (apply fr_setLaneState (wt hm); assumption)
  dsimp only; split; split; with_reducible (apply fr_faultRecord (wt hm); apply fr_setLaneState (wt hm); assumption); split
  with_reducible (apply fr_setReg (wt hm); apply fr_faultRecord (wt hm); apply fr_setLaneState (wt hm); assumption); split
  with_reducible (apply fr_setReg (wt hm); apply fr_setReg (wt hm); apply fr_faultRecord (wt hm); apply fr_setLaneState (wt hm))
  with_reducible assumption; split
  with_reducible (apply fr_sendRxMap (wt hm); apply fr_faultStart (wt hm); apply fr_setLaneState (wt hm); assumption); split
  with_reducible (apply fr_setTx (wt hm); apply fr_setGroup (wt hm); apply fr_faultStart (wt hm); apply fr_setLaneState (wt hm))
  with_reducible (assumption; apply fr_setGroup (wt hm); apply fr_faultStart (wt hm); apply fr_setLaneState (wt hm); assumption); split
  with_reducible (apply fr_faultRecord (wt hm); apply fr_setLaneState (wt hm); assumption); split
  with_reducible (apply fr_setReg (wt hm); apply fr_faultRecord (wt hm); apply fr_setLaneState (wt hm); assumption); split
  with_reducible (apply fr_setReg (wt hm); apply fr_setReg (wt hm); apply fr_faultRecord (wt hm); apply fr_setLaneState (wt hm))
  with_reducible assumption; split
  with_reducible (apply fr_sendRxMap (wt hm); apply fr_faultStart (wt hm); apply fr_setLaneState (wt hm); assumption); split
  with_reducible (apply fr_setTx (wt hm); apply fr_setGroup (wt hm); apply fr_faultStart (wt hm); apply fr_setLaneState (wt hm))
  with_reducible (assumption; apply fr_setGroup (wt hm); apply fr_faultStart (wt hm); apply fr_setLaneState (wt hm); assumption)

theorem fr_execRxLaneFail {m : Nat} (hm : Within 788291 m) {s0 s : State} {a0} (h : Fr m s0 s) : FrR m s0 (execRxLaneFail a0 s) := by
  unfold execRxLaneFail
  with_reducible apply frR_inst; split; split
  with_reducible (apply frR_next; apply fr_rxLaneFail (wt hm); assumption; apply frR_next; assumption; apply frR_next; assumption)

theorem fr_skipControl {m : Nat} (hm : Within 2 m) {s0 s : State} (h : Fr m s0 s) : Fr m s0 (State.skipControl s) := by
  unfold State.skipControl
  with_reducible (apply fr_inc32 (wt hm); assumption)

theorem fr_ackGroup {m : Nat} (hm : Within 788227 m) {s0 s : State} {a1 a2 a3} (h : Fr m s0 s) : Fr m s0 (State.ackGroup s a1 a2 a3) := by
  unfold State.ackGroup
  split; with_reducible (apply fr_nextFailover (wt hm); assumption); dsimp only
  with_reducible (apply fr_nextFailover (wt hm); apply fr_each; apply fr_showLink (wt hm); apply fr_setReg (wt hm))
  with_reducible (apply fr_setReg (wt hm); assumption); intro _ _ _; with_reducible (apply fr_faultDone (wt hm); assumption)

theorem fr_laneAck {m : Nat} (hm : Within 788227 m) {s0 s : State} {a1 a2 a3} (h : Fr m s0 s) : Fr m s0 (State.laneAck s a1 a2 a3) := by
  unfold State.laneAck
  dsimp only; split; split; with_reducible (apply fr_ackGroup (wt hm); assumption; assumption); split; split
  with_reducible (apply fr_ackGroup (wt hm); assumption; assumption; apply fr_skipControl (wt hm); assumption)

theorem fr_execLaneAckRx {m : Nat} (hm : Within 788227 m) {s0 s : State} {a0 a1 a2} (h : Fr m s0 s) : FrR m s0 (execLaneAckRx a0 a1 a2 s) := by
  unfold execLaneAckRx
  with_reducible (apply frR_inst; apply frR_next; apply fr_laneAck (wt hm); assumption)

theorem fr_execLaneMapRetry {m : Nat} (hm : Within 788227 m) {s0 s : State} {a0} (h : Fr m s0 s) : FrR m s0 (execLaneMapRetry a0 s) := by
  unfold execLaneMapRetry
  with_reducible apply frR_inst; dsimp only; split; with_reducible (apply frR_next; assumption); split
  with_reducible (apply frR_next; apply fr_queueControl (wt hm); apply fr_setGroup (wt hm); assumption; apply frR_next)
  with_reducible (apply fr_nextFailover (wt hm); apply fr_each; apply fr_setReg (wt hm); apply fr_setReg (wt hm))
  with_reducible (apply fr_setReg (wt hm); assumption); intro _ _ _; with_reducible (apply fr_faultDone (wt hm); assumption)

theorem fr_laneMap {m : Nat} (hm : Within 788227 m) {s0 s : State} {a1 a2 a3} (h : Fr m s0 s) : Fr m s0 (State.laneMap s a1 a2 a3) := by
  unfold State.laneMap
  split; with_reducible (apply fr_skipControl (wt hm); assumption); dsimp only; with_reducible apply fr_queueControl (wt hm); split
  with_reducible (assumption; apply fr_faultDone (wt hm); apply fr_showLink (wt hm); apply fr_inc32 (wt hm); apply fr_setReg (wt hm))
  with_reducible (apply fr_setReg (wt hm); apply fr_faultStart (wt hm); assumption)

theorem fr_execLaneMapRx {m : Nat} (hm : Within 788227 m) {s0 s : State} {a0 a1 a2} (h : Fr m s0 s) : FrR m s0 (execLaneMapRx a0 a1 a2 s) := by
  unfold execLaneMapRx
  with_reducible (apply frR_inst; apply frR_next; apply fr_laneMap (wt hm); assumption)

theorem fr_txLaneFail {m : Nat} (hm : Within 788227 m) {s0 s : State} {a1} (h : Fr m s0 s) : Fr m s0 (State.txLaneFail s a1) := by
  unfold State.txLaneFail
  split; with_reducible assumption; dsimp only; split; split; split
  with_reducible (apply fr_faultRecord (wt hm); apply fr_each; apply fr_dropControl (wt hm); apply fr_setReg (wt hm); assumption)
  intro _ _ _; with_reducible (apply fr_setTx (wt hm); assumption); split
  with_reducible (apply fr_sendTxMap (wt hm); apply fr_inc32 (wt hm); apply fr_faultStart (wt hm); apply fr_each)
  with_reducible (apply fr_dropControl (wt hm); apply fr_setReg (wt hm); assumption); intro _ _ _
  with_reducible (apply fr_setTx (wt hm); assumption); split
  with_reducible (apply fr_sendTxMap (wt hm); apply fr_faultStart (wt hm); apply fr_each; apply fr_dropControl (wt hm))
  with_reducible (apply fr_setReg (wt hm); assumption); intro _ _ _
  with_reducible (apply fr_setTx (wt hm); assumption; apply fr_setGroup (wt hm); apply fr_faultStart (wt hm); apply fr_each)
  with_reducible (apply fr_dropControl (wt hm); apply fr_setReg (wt hm); assumption); intro _ _ _
  with_reducible (apply fr_setTx (wt hm); assumption); split
  with_reducible (apply fr_faultRecord (wt hm); apply fr_dropControl (wt hm); apply fr_setReg (wt hm); assumption); split
  with_reducible (apply fr_sendTxMap (wt hm); apply fr_inc32 (wt hm); apply fr_faultStart (wt hm); apply fr_dropControl (wt hm))
  with_reducible (apply fr_setReg (wt hm); assumption); split
  with_reducible (apply fr_sendTxMap (wt hm); apply fr_faultStart (wt hm); apply fr_dropControl (wt hm); apply fr_setReg (wt hm))
  with_reducible (assumption; apply fr_setGroup (wt hm); apply fr_faultStart (wt hm); apply fr_dropControl (wt hm))
  with_reducible (apply fr_setReg (wt hm); assumption); split; split
  with_reducible (apply fr_faultRecord (wt hm); apply fr_each; apply fr_dropControl (wt hm); apply fr_setReg (wt hm); assumption)
  intro _ _ _; with_reducible (apply fr_setTx (wt hm); assumption); split
  with_reducible (apply fr_sendTxMap (wt hm); apply fr_inc32 (wt hm); apply fr_faultStart (wt hm); apply fr_each)
  with_reducible (apply fr_dropControl (wt hm); apply fr_setReg (wt hm); assumption); intro _ _ _
  with_reducible (apply fr_setTx (wt hm); assumption); split
  with_reducible (apply fr_sendTxMap (wt hm); apply fr_faultStart (wt hm); apply fr_each; apply fr_dropControl (wt hm))
  with_reducible (apply fr_setReg (wt hm); assumption); intro _ _ _
  with_reducible (apply fr_setTx (wt hm); assumption; apply fr_setGroup (wt hm); apply fr_faultStart (wt hm); apply fr_each)
  with_reducible (apply fr_dropControl (wt hm); apply fr_setReg (wt hm); assumption); intro _ _ _
  with_reducible (apply fr_setTx (wt hm); assumption); split
  with_reducible (apply fr_faultRecord (wt hm); apply fr_dropControl (wt hm); apply fr_setReg (wt hm); assumption); split
  with_reducible (apply fr_sendTxMap (wt hm); apply fr_inc32 (wt hm); apply fr_faultStart (wt hm); apply fr_dropControl (wt hm))
  with_reducible (apply fr_setReg (wt hm); assumption); split
  with_reducible (apply fr_sendTxMap (wt hm); apply fr_faultStart (wt hm); apply fr_dropControl (wt hm); apply fr_setReg (wt hm))
  with_reducible (assumption; apply fr_setGroup (wt hm); apply fr_faultStart (wt hm); apply fr_dropControl (wt hm))
  with_reducible (apply fr_setReg (wt hm); assumption)

theorem fr_execTxLaneFail {m : Nat} (hm : Within 788227 m) {s0 s : State} {a0} (h : Fr m s0 s) : FrR m s0 (execTxLaneFail a0 s) := by
  unfold execTxLaneFail
  with_reducible apply frR_inst; split; split; with_reducible (apply frR_next; assumption); split
  with_reducible (apply frR_next; apply fr_txLaneFail (wt hm); assumption; apply frR_next; apply fr_dropControl (wt hm))
  with_reducible (apply fr_setReg (wt hm); assumption; apply frR_next; assumption)

theorem fr_execLaneLock {m : Nat} (hm : Within 787779 m) {s0 s : State} {a0} (h : Fr m s0 s) : FrR m s0 (execLaneLock a0 s) := by
  unfold execLaneLock
  with_reducible apply frR_inst; split
  with_reducible (apply frR_next; apply fr_setLaneState (wt hm); apply fr_setRx (wt hm); assumption; apply frR_next; assumption)

theorem fr_execLaneLockTimeout {m : Nat} (hm : Within 2 m) {s0 s : State} {a0} (h : Fr m s0 s) : FrR m s0 (execLaneLockTimeout a0 s) := by
  unfold execLaneLockTimeout
  with_reducible apply frR_inst; split; with_reducible (apply frR_next; apply fr_inc32 (wt hm); assumption; apply frR_next; assumption)

theorem fr_clockLoss {m : Nat} (hm : Within 788291 m) {s0 s : State} {a1} (h : Fr m s0 s) : Fr m s0 (State.clockLoss s a1) := by
  unfold State.clockLoss
  split; split; split
  with_reducible (apply fr_rxLaneFail (wt hm); assumption; apply fr_setLaneState (wt hm); assumption; apply fr_setLaneState (wt hm))
  with_reducible (assumption; assumption)

theorem fr_execClockRecoveryLoss {m : Nat} (hm : Within 788291 m) {s0 s : State} {a0} (h : Fr m s0 s) : FrR m s0 (execClockRecoveryLoss a0 s) := by
  unfold execClockRecoveryLoss
  with_reducible (apply frR_inst; apply frR_next; apply fr_clockLoss (wt hm); assumption)

theorem fr_laneError {m : Nat} (hm : Within 258 m) {s0 s : State} {a1 a2} (h : Fr m s0 s) : Fr m s0 (State.laneError s a1 a2) := by
  unfold State.laneError
  with_reducible (apply fr_countE (wt hm); apply fr_inc32 (wt hm); assumption)

theorem fr_itemError {m : Nat} (hm : Within 262144 m) {s0 s : State} {a1} (h : Fr m s0 s) : Fr m s0 (State.itemError s a1) := by
  unfold State.itemError
  with_reducible (apply fr_modRx (wt hm); assumption)

theorem fr_forgetSeqs {m : Nat} (hm : Within 262144 m) {s0 s : State} {a1 a2} (h : Fr m s0 s) : Fr m s0 (State.forgetSeqs s a1 a2) := by
  unfold State.forgetSeqs
  apply fr_mk_sheaf (wt hm); with_reducible assumption

theorem fr_dataItem {m : Nat} (hm : Within 262146 m) {s0 s : State} {a1 a2 a3 a4} (h : Fr m s0 s) : Fr m s0 (State.dataItem s a1 a2 a3 a4) := by
  unfold State.dataItem
  dsimp only; split; with_reducible (apply fr_inc32 (wt hm); assumption); split; apply fr_mk_sheaf (wt hm); split
  with_reducible (assumption; apply fr_inc32 (wt hm); assumption); apply fr_mk_sheaf (wt hm); split
  with_reducible (assumption; apply fr_inc32 (wt hm); assumption)

theorem fr_qlRx {m : Nat} (hm : Within 66 m) {s0 s : State} {a1 a2} (h : Fr m s0 s) : Fr m s0 (State.qlRx s a1 a2) := by
  unfold State.qlRx
  with_reducible (apply fr_each; assumption); intro _ _ _; split; with_reducible (apply fr_qlMessage (wt hm); assumption; assumption)

theorem fr_creditRx {m : Nat} (hm : Within 262146 m) {s0 s : State} {a1 a2 a3} (h : Fr m s0 s) : Fr m s0 (State.creditRx s a1 a2 a3) := by
  unfold State.creditRx
  dsimp only; split; with_reducible (apply fr_setStream (wt hm); assumption; apply fr_skipControl (wt hm); assumption)

theorem fr_controlRx {m : Nat} (hm : Within 788291 m) {s0 s : State} {a1 a2} (h : Fr m s0 s) : Fr m s0 (State.controlRx s a1 a2) := by
  unfold State.controlRx
  split; with_reducible (apply fr_qlRx (wt hm); assumption; apply fr_creditRx (wt hm); assumption; apply fr_laneMap (wt hm); assumption)
  with_reducible (apply fr_laneAck (wt hm); assumption; apply fr_skipControl (wt hm); assumption)

theorem fr_loseBoundary {m : Nat} (hm : Within 262144 m) {s0 s : State} {a1} (h : Fr m s0 s) : Fr m s0 (State.loseBoundary s a1) := by
  unfold State.loseBoundary
  with_reducible (apply fr_modRx (wt hm); assumption)

theorem fr_pointerError {m : Nat} (hm : Within 262402 m) {s0 s : State} {a1} (h : Fr m s0 s) : Fr m s0 (State.pointerError s a1) := by
  unfold State.pointerError
  with_reducible (apply fr_loseBoundary (wt hm); apply fr_laneError (wt hm); assumption)

theorem fr_headerError {m : Nat} (hm : Within 262402 m) {s0 s : State} {a1 a2} (h : Fr m s0 s) : Fr m s0 (State.headerError s a1 a2) := by
  unfold State.headerError
  dsimp only; with_reducible (apply fr_loseBoundary (wt hm); apply fr_itemError (wt hm)); split
  with_reducible (apply fr_laneError (wt hm); assumption; apply fr_countE (wt hm); apply fr_inc32 (wt hm); assumption)

theorem fr_itemCheck {m : Nat} (hm : Within 262402 m) {s0 s : State} {a1 a2} (h : Fr m s0 s) : FrF m s0 (State.itemCheck s a1 a2) := by
  unfold State.itemCheck
  split; with_reducible (apply frF_mk; apply fr_headerError (wt hm); assumption); dsimp only; split
  with_reducible (apply frF_mk; assumption); split
  with_reducible (apply frF_mk; apply fr_countE (wt hm); apply fr_inc32 (wt hm); assumption); split
  with_reducible (apply frF_mk; apply fr_itemError (wt hm); apply fr_laneError (wt hm); assumption; apply frF_mk; assumption)

theorem fr_deliverItem {m : Nat} (hm : Within 788291 m) {s0 s : State} {a1 a2 a3} (h : Fr m s0 s) : Fr m s0 (State.deliverItem s a1 a2 a3) := by
  unfold State.deliverItem
  split; with_reducible (apply fr_controlRx (wt hm); assumption; apply fr_dataItem (wt hm); assumption)

theorem fr_itemIn {m : Nat} (hm : Within 788291 m) {s0 s : State} {a1 a2 a3} (h : Fr m s0 s) : Fr m s0 (State.itemIn s a1 a2 a3) := by
  unfold State.itemIn
  split; with_reducible (apply fr_deliverItem (wt hm); apply fr_of_pairF (by assumption); apply fr_itemCheck (wt hm); assumption)
  with_reducible (apply fr_of_pairF (by assumption); apply fr_itemCheck (wt hm); assumption)

theorem fr_checkErrors {m : Nat} (hm : Within 788291 m) {s0 s : State} {a1} (h : Fr m s0 s) : Fr m s0 (State.checkErrors s a1) := by
  unfold State.checkErrors
  dsimp only; split; split; split; with_reducible (apply fr_rxLaneFail (wt hm); assumption; assumption; assumption; assumption)

theorem fr_lastItem {m : Nat} (hm : Within 262144 m) {s0 s : State} {a1 a2} (h : Fr m s0 s) : Fr m s0 (State.lastItem s a1 a2) := by
  unfold State.lastItem
  split; with_reducible (assumption; apply fr_modRx (wt hm); assumption)

theorem fr_execItemRx {m : Nat} (hm : Within 788291 m) {s0 s : State} {a0 a1} (h : Fr m s0 s) : FrR m s0 (execItemRx a0 a1 s) := by
  unfold execItemRx
  with_reducible apply frR_inst; split
  with_reducible (apply frR_next; apply fr_lastItem (wt hm); apply fr_checkErrors (wt hm); apply fr_itemIn (wt hm); assumption)
  with_reducible (apply frR_next; assumption)

theorem fr_execQlRx {m : Nat} (hm : Within 66 m) {s0 s : State} {a0 a1} (h : Fr m s0 s) : FrR m s0 (execQlRx a0 a1 s) := by
  unfold execQlRx
  with_reducible (apply frR_inst; apply frR_next; apply fr_qlRx (wt hm); assumption)

theorem fr_execCreditRx {m : Nat} (hm : Within 262146 m) {s0 s : State} {a0 a1 a2} (h : Fr m s0 s) : FrR m s0 (execCreditRx a0 a1 a2 s) := by
  unfold execCreditRx
  with_reducible (apply frR_inst; apply frR_next; apply fr_creditRx (wt hm); assumption)

theorem fr_FrameScan_item {m : Nat} (hm : Within 262402 m) {s0 : State} {lane : Nat} {f : FrameScan} {i : Item} (h : Fr m s0 f.st) : Fr m s0 ((FrameScan.item lane f i).st) := by
  unfold FrameScan.item
  dsimp only; with_reducible (apply fr_fst; apply fr_itemCheck (wt hm); assumption)

theorem fr_FrameScan_bit {m : Nat} (hm : Within 262402 m) {s0 : State} {lane : Nat} {f : FrameScan} {b : Bool} (h : Fr m s0 f.st) : Fr m s0 ((FrameScan.bit lane f b).st) := by
  unfold FrameScan.bit
  extract_lets x boundary clash s1 x1 start x2 seen x3 s2 f2 t
  have k : Fr m s0 s1 := by
    simp only [s1]
    split; with_reducible (apply fr_pointerError (wt hm); assumption; assumption)
  clear_value s1
  have k2 : Fr m s0 s2 := by
    simp only [s2]
    with_reducible (apply fr_setRx (wt hm); assumption)
  have k3 : Fr m s0 f2.st := k2
  clear_value f2 s2
  split; dsimp only; with_reducible (apply fr_setRx (wt hm); assumption); split; split; dsimp only
  with_reducible (apply fr_headerError (wt hm); assumption); dsimp only; with_reducible (apply fr_setRx (wt hm); assumption); split
  with_reducible apply fr_FrameScan_item (wt hm); dsimp only; with_reducible (apply fr_setRx (wt hm); assumption; assumption)

theorem fr_frameBody {m : Nat} (hm : Within 262402 m) {s0 s : State} {lane body : Nat} {last : Bool} (h : Fr m s0 s) : FrF m s0 (State.frameBody s lane body last) := by
  have fold (l : List Bool) (f : FrameScan) (k : Fr m s0 f.st) : Fr m s0 ((l.foldl (FrameScan.bit lane) f).st) := by
    induction l generalizing f with
    | nil => exact k
    | cons b l ih =>
      apply ih
      with_reducible (apply fr_FrameScan_bit (wt hm); assumption)
  unfold State.frameBody
  apply frF_mk
  apply fold
  dsimp only; split; with_reducible apply fr_pointerError (wt hm); split
  with_reducible (assumption; apply fr_countE (wt hm); apply fr_inc32 (wt hm); assumption); split
  with_reducible (assumption; apply fr_countE (wt hm); apply fr_inc32 (wt hm); assumption)

theorem fr_flushDesk {m : Nat} (hm : Within 788291 m) {s0 s : State} {a1} (h : Fr m s0 s) : Fr m s0 (State.flushDesk s a1) := by
  unfold State.flushDesk
  dsimp only; with_reducible (apply fr_each; apply fr_setGroup (wt hm); assumption); intro _ _ _
  with_reducible (apply fr_each; assumption); intro _ _ _; with_reducible (apply fr_deliverItem (wt hm); assumption)

theorem fr_deskFrame {m : Nat} (hm : Within 788291 m) {s0 s : State} {a1 a2 a3} (h : Fr m s0 s) : Fr m s0 (State.deskFrame s a1 a2 a3) := by
  unfold State.deskFrame
  dsimp only; split; split; with_reducible (apply fr_flushDesk (wt hm); apply fr_setGroup (wt hm); apply fr_flushDesk (wt hm); assumption)
  with_reducible (apply fr_setGroup (wt hm); apply fr_flushDesk (wt hm); assumption); split
  with_reducible (apply fr_flushDesk (wt hm); apply fr_setGroup (wt hm); assumption; apply fr_setGroup (wt hm); assumption)

theorem fr_lockedShows {m : Nat} (hm : Within 2 m) {s0 s : State} {a1} (h : Fr m s0 s) : Fr m s0 (State.lockedShows s a1) := by
  unfold State.lockedShows
  split; split; with_reducible (apply fr_showLink (wt hm); assumption; assumption; assumption)

theorem fr_searchFrame {m : Nat} (hm : Within 787779 m) {s0 s : State} {a1 a2} (h : Fr m s0 s) : Fr m s0 (State.searchFrame s a1 a2) := by
  unfold State.searchFrame
  split; split; with_reducible (apply fr_lockedShows (wt hm); apply fr_setLaneState (wt hm); apply fr_setRx (wt hm); assumption)
  with_reducible (apply fr_modRx (wt hm); assumption; apply fr_modRx (wt hm); assumption)

theorem fr_syncCheck {m : Nat} (hm : Within 788291 m) {s0 s : State} {a1 a2} (h : Fr m s0 s) : Fr m s0 (State.syncCheck s a1 a2) := by
  unfold State.syncCheck
  split; with_reducible (apply fr_modRx (wt hm); assumption); dsimp only; split; split; split
  with_reducible (apply fr_rxLaneFail (wt hm); apply fr_modRx (wt hm); apply fr_laneError (wt hm); assumption)
  with_reducible (apply fr_setLaneState (wt hm); apply fr_setRx (wt hm); apply fr_modRx (wt hm); apply fr_laneError (wt hm); assumption)
  with_reducible (apply fr_setLaneState (wt hm); apply fr_setRx (wt hm); apply fr_modRx (wt hm); apply fr_laneError (wt hm); assumption)
  with_reducible (apply fr_modRx (wt hm); apply fr_laneError (wt hm); assumption)

theorem fr_skewCheck {m : Nat} (hm : Within 788291 m) {s0 s : State} {a1 a2} (h : Fr m s0 s) : Fr m s0 (State.skewCheck s a1 a2) := by
  unfold State.skewCheck
  dsimp only; split; split; split
  with_reducible (apply fr_rxLaneFail (wt hm); apply fr_setReg (wt hm); assumption; apply fr_setLaneState (wt hm))
  with_reducible (apply fr_setReg (wt hm); assumption; apply fr_setReg (wt hm); assumption; apply fr_setReg (wt hm); assumption)

theorem fr_lockedFrame {m : Nat} (hm : Within 788291 m) {s0 s : State} {a1 a2 a3} (h : Fr m s0 s) : Fr m s0 (State.lockedFrame s a1 a2 a3) := by
  unfold State.lockedFrame
  dsimp only; split; split
  with_reducible (apply fr_deskFrame (wt hm); apply fr_modRx (wt hm); apply fr_loseBoundary (wt hm); apply fr_laneError (wt hm))
  with_reducible (apply fr_modRx (wt hm); assumption; apply fr_modRx (wt hm); apply fr_loseBoundary (wt hm); apply fr_laneError (wt hm))
  with_reducible (apply fr_modRx (wt hm); assumption); split; split
  with_reducible (apply fr_lastItem (wt hm); apply fr_checkErrors (wt hm); apply fr_deskFrame (wt hm); apply fr_fst)
  with_reducible (apply fr_frameBody (wt hm); apply fr_modRx (wt hm); apply fr_modRx (wt hm); assumption; apply fr_checkErrors (wt hm))
  with_reducible (apply fr_deskFrame (wt hm); apply fr_fst; apply fr_frameBody (wt hm); apply fr_modRx (wt hm); apply fr_modRx (wt hm))
  with_reducible (assumption; apply fr_modRx (wt hm); apply fr_modRx (wt hm); assumption)

theorem fr_execSheafFrameRx {m : Nat} (hm : Within 788291 m) {s0 s : State} {a0 a1 a2 a3} (h : Fr m s0 s) : FrR m s0 (execSheafFrameRx a0 a1 a2 a3 s) := by
  unfold execSheafFrameRx
  with_reducible apply frR_inst; dsimp only; split; split; split
  with_reducible (apply frR_next; apply fr_lockedFrame (wt hm); apply fr_skewCheck (wt hm); apply fr_searchFrame (wt hm); assumption)
  with_reducible (apply frR_next; apply fr_skewCheck (wt hm); apply fr_searchFrame (wt hm); assumption; apply frR_next)
  with_reducible (apply fr_searchFrame (wt hm); assumption); split; split; split
  with_reducible (apply frR_next; apply fr_lockedFrame (wt hm); apply fr_skewCheck (wt hm); apply fr_syncCheck (wt hm); assumption)
  with_reducible (apply frR_next; apply fr_skewCheck (wt hm); apply fr_syncCheck (wt hm); assumption; apply frR_next)
  with_reducible (apply fr_syncCheck (wt hm); assumption; apply frR_next; assumption)

theorem fr_groupEnabling {m : Nat} (hm : Within 787779 m) {s0 s : State} {a1} (h : Fr m s0 s) : Fr m s0 (State.groupEnabling s a1) := by
  unfold State.groupEnabling
  dsimp only; with_reducible (apply fr_each; apply fr_setGroup (wt hm); apply fr_setReg (wt hm); apply fr_setReg (wt hm); assumption)
  intro _ _ _; split; split; with_reducible (assumption; apply fr_setTx (wt hm); apply fr_setReg (wt hm); assumption); split
  with_reducible (assumption; apply fr_setLaneState (wt hm); apply fr_setRx (wt hm); assumption)

theorem fr_groupDisabling {m : Nat} (hm : Within 788323 m) {s0 s : State} {a1} (h : Fr m s0 s) : Fr m s0 (State.groupDisabling s a1) := by
  unfold State.groupDisabling
  dsimp only; split; with_reducible (apply fr_each; apply fr_endFailover (wt hm); assumption); intro _ _ _; split
  with_reducible (apply fr_drainLane (wt hm); apply fr_dropControl (wt hm); assumption; assumption); split
  with_reducible (apply fr_endFailover (wt hm); assumption; apply fr_flushDesk (wt hm); apply fr_endFailover (wt hm); assumption)

theorem fr_groupOn {m : Nat} (hm : Within 788291 m) {s0 s : State} {a1} (h : Fr m s0 s) : Fr m s0 (State.groupOn s a1) := by
  unfold State.groupOn
  dsimp only; split
  with_reducible (apply fr_each; apply fr_each; apply fr_setReg (wt hm); apply fr_setGroup (wt hm); apply fr_setReg (wt hm))
  with_reducible (apply fr_setReg (wt hm); apply fr_setReg (wt hm); assumption); intro _ _ _
  with_reducible (apply fr_txLaneFail (wt hm); apply fr_setReg (wt hm); assumption); intro _ _ _
  with_reducible (apply fr_setStream (wt hm); assumption; apply fr_each; apply fr_setReg (wt hm)); apply fr_mk_sheaf (wt hm)
  with_reducible (apply fr_setGroup (wt hm); apply fr_setReg (wt hm); apply fr_setReg (wt hm); apply fr_setReg (wt hm); assumption)
  intro _ _ _; with_reducible (apply fr_rxLaneFail (wt hm); apply fr_setReg (wt hm); assumption)

theorem fr_execGroupOn {m : Nat} (hm : Within 788291 m) {s0 s : State} {a0} (h : Fr m s0 s) : FrR m s0 (execGroupOn a0 s) := by
  unfold execGroupOn
  with_reducible apply frR_inst; split; with_reducible (apply frR_next; apply fr_groupOn (wt hm); assumption; apply frR_next; assumption)

theorem fr_groupOff {m : Nat} (hm : Within 787779 m) {s0 s : State} {a1} (h : Fr m s0 s) : Fr m s0 (State.groupOff s a1) := by
  unfold State.groupOff
  dsimp only
  with_reducible (apply fr_each; apply fr_setGroup (wt hm); apply fr_setReg (wt hm); apply fr_setReg (wt hm); apply fr_setReg (wt hm))
  with_reducible assumption; intro _ _ _; split; split
  with_reducible (assumption; apply fr_setTx (wt hm); apply fr_setReg (wt hm); assumption); split
  with_reducible (assumption; apply fr_setLaneState (wt hm); assumption)

theorem fr_prbsRx {m : Nat} (hm : Within 262146 m) {s0 s : State} {a1 a2} (h : Fr m s0 s) : Fr m s0 (State.prbsRx s a1 a2) := by
  unfold State.prbsRx
  split; dsimp only; with_reducible apply fr_regBit (wt hm); split
  with_reducible (apply fr_modRx (wt hm); assumption; apply fr_inc32 (wt hm); apply fr_modRx (wt hm); assumption)

theorem fr_execPrbsReceive {m : Nat} (hm : Within 262146 m) {s0 s : State} {a0 a1} (h : Fr m s0 s) : FrR m s0 (execPrbsReceive a0 a1 s) := by
  unfold execPrbsReceive
  with_reducible apply frR_inst; split; with_reducible (apply frR_next; apply fr_prbsRx (wt hm); assumption; apply frR_next; assumption)

theorem fr_cmdPrbsInject {m : Nat} (hm : Within 262144 m) {s0 s : State} (h : Fr m s0 s) : FrV m s0 (cmdPrbsInject s) := by
  unfold cmdPrbsInject
  with_reducible (apply frV_ok; apply fr_each; assumption); intro _ _ _; with_reducible (apply fr_setTx (wt hm); assumption)

theorem fr_prbsTx {m : Nat} (hm : Within 262176 m) {s0 s : State} {a1} (h : Fr m s0 s) : Fr m s0 (State.prbsTx s a1) := by
  unfold State.prbsTx
  dsimp only; with_reducible (apply fr_emit (wt hm); apply fr_setTx (wt hm); assumption)

theorem fr_cmdSheafClear {m : Nat} (hm : Within 2 m) {s0 s : State} (h : Fr m s0 s) : FrV m s0 (cmdSheafClear s) := by
  unfold cmdSheafClear
  with_reducible apply frV_ok; apply fr_mk_regs (wt hm); with_reducible assumption

theorem fr_discardReady {m : Nat} (hm : Within 327682 m) {s0 s : State} {a1} (h : Fr m s0 s) : Fr m s0 (State.discardReady s a1) := by
  unfold State.discardReady
  dsimp only; split; with_reducible apply fr_inc64 (wt hm); apply fr_mk_xarray (wt hm)
  with_reducible (apply fr_setStream (wt hm); apply fr_whenB; assumption); intro _ _
  with_reducible (apply fr_inc32 (wt hm); assumption; apply fr_setStream (wt hm); apply fr_whenB; assumption); intro _ _
  with_reducible (apply fr_inc32 (wt hm); assumption)

theorem fr_sheafAfter {m : Nat} (hm : Within 853315 m) {s0 s : State} {a1 a2 a3} (h : Fr m s0 s) : Fr m s0 (sheafAfter s a1 a2 a3) := by
  unfold sheafAfter
  dsimp only; split; with_reducible (apply fr_each; assumption); intro _ _ _; split
  with_reducible (apply fr_setLaneState (wt hm); apply fr_setRx (wt hm); assumption; apply fr_regBit (wt hm))
  with_reducible (apply fr_setLaneState (wt hm); assumption); split; with_reducible (apply fr_each; assumption); intro _ _ _
  with_reducible (apply fr_setTx (wt hm); apply fr_setReg (wt hm); assumption); split; with_reducible apply fr_setStream (wt hm); split
  with_reducible (apply fr_discardReady (wt hm); assumption; assumption; assumption)

end Sys2Proof.Machine
end

