-- ==== Sys2Proof/Laws/FrameWinnow.lean ====
section
/-! SUPPORT. What the definitions of Machine/Winnow.lean leave alone (Fr). -/

set_option Elab.async false

namespace Sys2Proof.Machine

theorem fr_modWin {m : Nat} (hm : Within 16384 m) {s0 s : State} {a1 a2} (h : Fr m s0 s) : Fr m s0 (State.modWin s a1 a2) := by
  unfold State.modWin
  apply fr_mk_winnow (wt hm); with_reducible assumption

theorem fr_modScaler {m : Nat} (hm : Within 16384 m) {s0 s : State} {a1 a2} (h : Fr m s0 s) : Fr m s0 (State.modScaler s a1 a2) := by
  unfold State.modScaler
  apply fr_mk_winnow (wt hm); with_reducible assumption

theorem fr_takeChannel {m : Nat} (hm : Within 16386 m) {s0 s : State} {a1 a2} (h : Fr m s0 s) : Fr m s0 (State.takeChannel s a1 a2) := by
  unfold State.takeChannel
  with_reducible (apply fr_modWin (wt hm); apply fr_setReg (wt hm); assumption)

theorem fr_leaveChannel {m : Nat} (hm : Within 2 m) {s0 s : State} {a1} (h : Fr m s0 s) : Fr m s0 (State.leaveChannel s a1) := by
  unfold State.leaveChannel
  with_reducible (apply fr_setReg (wt hm); assumption)

theorem fr_winPush {m : Nat} (hm : Within 16386 m) {s0 s : State} {a1 a2} (h : Fr m s0 s) : Fr m s0 (State.winPush s a1 a2) := by
  unfold State.winPush
  split; with_reducible (apply fr_inc32 (wt hm); assumption); split
  with_reducible (apply fr_inc32 (wt hm); apply fr_modWin (wt hm); assumption; apply fr_modWin (wt hm); assumption)

theorem fr_winStep {m : Nat} (hm : Within 16386 m) {s0 s : State} {a1} (h : Fr m s0 s) : Fr m s0 (State.winStep s a1) := by
  unfold State.winStep
  split; with_reducible assumption; dsimp only; split; apply fr_mk_winnow (wt hm)
  with_reducible (apply fr_whenB; apply fr_inc64 (wt hm); apply fr_modWin (wt hm); assumption); intro _ _
  with_reducible (apply fr_inc32 (wt hm); assumption; apply fr_modWin (wt hm); assumption)

theorem fr_groupLine {m : Nat} (hm : Within 16386 m) {s0 s : State} {a1 a2 a3} (h : Fr m s0 s) : Fr m s0 (State.groupLine s a1 a2 a3) := by
  unfold State.groupLine
  dsimp only; split; with_reducible (apply fr_modScaler (wt hm); assumption); split
  with_reducible (apply fr_inc32 (wt hm); apply fr_modScaler (wt hm); assumption; apply fr_modScaler (wt hm); assumption)

theorem fr_scalerLine {m : Nat} (hm : Within 16386 m) {s0 s : State} {a1 a2} (h : Fr m s0 s) : Fr m s0 (State.scalerLine s a1 a2) := by
  unfold State.scalerLine
  dsimp only; split; split; split; split; with_reducible apply fr_modScaler (wt hm); split
  with_reducible (apply fr_modScaler (wt hm); apply fr_modScaler (wt hm); apply fr_setReg (wt hm); assumption)
  with_reducible (apply fr_modScaler (wt hm); apply fr_setReg (wt hm); assumption); split; with_reducible apply fr_modScaler (wt hm)
  split; with_reducible (apply fr_modScaler (wt hm); apply fr_modScaler (wt hm); apply fr_setReg (wt hm); assumption)
  with_reducible (apply fr_modScaler (wt hm); apply fr_setReg (wt hm); assumption; apply fr_groupLine (wt hm); apply fr_inc32 (wt hm))
  split; with_reducible (apply fr_modScaler (wt hm); apply fr_modScaler (wt hm); apply fr_setReg (wt hm); assumption)
  with_reducible (apply fr_modScaler (wt hm); apply fr_setReg (wt hm); assumption; apply fr_modScaler (wt hm); apply fr_setReg (wt hm))
  with_reducible assumption; split; split; with_reducible apply fr_modScaler (wt hm); split
  with_reducible (apply fr_modScaler (wt hm); apply fr_modScaler (wt hm); assumption; apply fr_modScaler (wt hm); assumption); split
  with_reducible apply fr_modScaler (wt hm); split
  with_reducible (apply fr_modScaler (wt hm); apply fr_modScaler (wt hm); assumption; apply fr_modScaler (wt hm); assumption)
  with_reducible (apply fr_groupLine (wt hm); apply fr_inc32 (wt hm)); split
  with_reducible (apply fr_modScaler (wt hm); apply fr_modScaler (wt hm); assumption; apply fr_modScaler (wt hm); assumption)
  with_reducible (apply fr_modScaler (wt hm); assumption); split; split; split; with_reducible apply fr_modScaler (wt hm); split
  with_reducible (apply fr_modScaler (wt hm); apply fr_setReg (wt hm); assumption; apply fr_setReg (wt hm); assumption); split
  with_reducible apply fr_modScaler (wt hm); split
  with_reducible (apply fr_modScaler (wt hm); apply fr_setReg (wt hm); assumption; apply fr_setReg (wt hm); assumption)
  with_reducible (apply fr_groupLine (wt hm); apply fr_inc32 (wt hm)); split
  with_reducible (apply fr_modScaler (wt hm); apply fr_setReg (wt hm); assumption; apply fr_setReg (wt hm); assumption)
  with_reducible (apply fr_setReg (wt hm); assumption); split; split; with_reducible apply fr_modScaler (wt hm); split
  with_reducible (apply fr_modScaler (wt hm); assumption; assumption); split; with_reducible apply fr_modScaler (wt hm); split
  with_reducible (apply fr_modScaler (wt hm); assumption; assumption; apply fr_groupLine (wt hm); apply fr_inc32 (wt hm)); split
  with_reducible (apply fr_modScaler (wt hm); assumption; assumption; assumption)

theorem fr_scalerService {m : Nat} (hm : Within 16386 m) {s0 s : State} {a1} (h : Fr m s0 s) : Fr m s0 (State.scalerService s a1) := by
  unfold State.scalerService
  dsimp only; split; with_reducible assumption; split
  with_reducible (apply fr_modScaler (wt hm); assumption; apply fr_groupLine (wt hm); apply fr_modScaler (wt hm); assumption)

theorem fr_repeatN {m : Nat} (hm : Within 0 m) {s0 : State} {f : State → State} {n : Nat} {s : State} (h : Fr m s0 s) (hf : ∀ t, Fr m s0 t → Fr m s0 (f t)) :
    Fr m s0 (State.repeatN f n s) := by
  induction n generalizing s with
  | zero => exact h
  | succ n ih => exact ih (hf s h)

theorem fr_execWinnowService {m : Nat} (hm : Within 16386 m) {s0 s : State} (h : Fr m s0 s) : FrR m s0 (execWinnowService s) := by
  unfold execWinnowService
  split; dsimp only; with_reducible apply frR_next; split; with_reducible (apply fr_repeatN (wt hm); apply fr_setReg (wt hm))
  apply fr_mk_winnow (wt hm); with_reducible assumption; intro _ _; with_reducible (apply fr_winStep (wt hm); assumption); split
  with_reducible (apply fr_scalerService (wt hm); apply fr_setReg (wt hm)); apply fr_mk_winnow (wt hm)
  with_reducible (assumption; apply fr_setReg (wt hm)); apply fr_mk_winnow (wt hm)
  with_reducible (assumption; apply frR_next; assumption)

theorem fr_execScalerGroupSend {m : Nat} (hm : Within 278530 m) {s0 s : State} {a0} (h : Fr m s0 s) : FrR m s0 (execScalerGroupSend a0 s) := by
  unfold execScalerGroupSend
  dsimp only; with_reducible apply frR_inst; split; with_reducible (apply frR_next; assumption); split
  with_reducible (apply frR_next; assumption; apply frR_next; apply fr_inc64 (wt hm); apply fr_each; apply fr_modScaler (wt hm))
  with_reducible assumption; intro _ _ _; with_reducible (apply fr_streamPut (wt hm); assumption)

theorem fr_winnowTurnsOn {m : Nat} (hm : Within 16386 m) {s0 s : State} (h : Fr m s0 s) : Fr m s0 (State.winnowTurnsOn s) := by
  unfold State.winnowTurnsOn
  dsimp only; with_reducible apply fr_setReg (wt hm); apply fr_mk_winnow (wt hm); with_reducible assumption

theorem fr_winnowTurnsOff {m : Nat} (hm : Within 16384 m) {s0 s : State} (h : Fr m s0 s) : Fr m s0 (State.winnowTurnsOff s) := by
  unfold State.winnowTurnsOff
  apply fr_mk_winnow (wt hm); with_reducible assumption

theorem fr_scalerEnabling {m : Nat} (hm : Within 16386 m) {s0 s : State} {a1} (h : Fr m s0 s) : Fr m s0 (State.scalerEnabling s a1) := by
  unfold State.scalerEnabling
  with_reducible (apply fr_modScaler (wt hm); apply fr_each; assumption); intro _ _ _
  with_reducible (apply fr_takeChannel (wt hm); assumption)

theorem fr_scalerTurnsOff {m : Nat} (hm : Within 16386 m) {s0 s : State} {a1} (h : Fr m s0 s) : Fr m s0 (State.scalerTurnsOff s a1) := by
  unfold State.scalerTurnsOff
  with_reducible (apply fr_modScaler (wt hm); apply fr_each; assumption); intro _ _ _
  with_reducible (apply fr_leaveChannel (wt hm); assumption)

end Sys2Proof.Machine
end

