-- ==== Sys2Proof/Laws/FrameCamera.lean ====
section
/-! SUPPORT. What the definitions of Machine/Camera.lean leave alone (Fr). -/

set_option Elab.async false

namespace Sys2Proof.Machine

theorem fr_modFront {m : Nat} (hm : Within 8192 m) {s0 s : State} {a1} (h : Fr m s0 s) : Fr m s0 (State.modFront s a1) := by
  unfold State.modFront
  apply fr_mk_insp (wt hm); with_reducible assumption

theorem fr_modCam {m : Nat} (hm : Within 8192 m) {s0 s : State} {a1 a2} (h : Fr m s0 s) : Fr m s0 (State.modCam s a1 a2) := by
  unfold State.modCam
  with_reducible (apply fr_modFront (wt hm); assumption)

theorem fr_bridgeOffset {m : Nat} (hm : Within 2 m) {s0 s : State} {a1 a2 a3} (h : Fr m s0 s) : Fr m s0 (State.bridgeOffset s a1 a2 a3) := by
  unfold State.bridgeOffset
  dsimp only; with_reducible (apply fr_setReg (wt hm); apply fr_setReg (wt hm)); split
  with_reducible (apply fr_inc32 (wt hm); assumption; assumption)

theorem fr_takePixels {m : Nat} (hm : Within 8192 m) {s0 s : State} {a1 a2 a3 a4 a5 a6 a7} (h : Fr m s0 s) : Fr m s0 (State.takePixels s a1 a2 a3 a4 a5 a6 a7) := by
  unfold State.takePixels
  dsimp only; with_reducible (apply fr_modFront (wt hm); apply fr_modCam (wt hm); assumption)

theorem fr_pixelPacket {m : Nat} (hm : Within 8194 m) {s0 s : State} {a1} (h : Fr m s0 s) : Fr m s0 (State.pixelPacket s a1) := by
  unfold State.pixelPacket
  dsimp only; split; with_reducible (apply fr_inc32 (wt hm); assumption); split; with_reducible (apply fr_inc32 (wt hm); assumption)
  split; with_reducible (apply fr_inc32 (wt hm); assumption); split; with_reducible (apply fr_inc32 (wt hm); assumption); split; split
  with_reducible (apply fr_inc32 (wt hm); assumption); split
  with_reducible (apply fr_inc32 (wt hm); apply fr_setReg (wt hm); apply fr_bridgeOffset (wt hm); assumption)
  with_reducible (apply fr_takePixels (wt hm); apply fr_setReg (wt hm); apply fr_bridgeOffset (wt hm); assumption); split
  with_reducible (apply fr_inc32 (wt hm); assumption); split
  with_reducible (apply fr_inc32 (wt hm); apply fr_setReg (wt hm); apply fr_bridgeOffset (wt hm); assumption)
  with_reducible (apply fr_takePixels (wt hm); apply fr_setReg (wt hm); apply fr_bridgeOffset (wt hm); assumption)

theorem fr_stageATurn {m : Nat} (hm : Within 8192 m) {s0 s : State} (h : Fr m s0 s) : Fr m s0 (State.stageATurn s) := by
  unfold State.stageATurn
  split; with_reducible (apply fr_modFront (wt hm); assumption; assumption)

theorem fr_execPixelPacketRx {m : Nat} (hm : Within 270338 m) {s0 s : State} (h : Fr m s0 s) : FrR m s0 (execPixelPacketRx s) := by
  unfold execPixelPacketRx
  with_reducible (apply frR_next; apply fr_stageATurn (wt hm); apply fr_each); apply fr_mk_sheaf (wt hm); with_reducible assumption
  intro _ _ _; with_reducible (apply fr_pixelPacket (wt hm); assumption)

theorem fr_sendStats {m : Nat} (hm : Within 270338 m) {s0 s : State} {a1 a2} (h : Fr m s0 s) : Fr m s0 (State.sendStats s a1 a2) := by
  unfold State.sendStats
  split; with_reducible assumption; split; with_reducible (apply fr_inc32 (wt hm); assumption); dsimp only
  with_reducible (apply fr_modFront (wt hm); apply fr_streamPut (wt hm); assumption)

theorem fr_statsLate {m : Nat} (hm : Within 270338 m) {s0 s : State} {a1} (h : Fr m s0 s) : Fr m s0 (State.statsLate s a1) := by
  unfold State.statsLate
  dsimp only; with_reducible (apply fr_modFront (wt hm); apply fr_each; assumption); intro _ _ _; split
  with_reducible (apply fr_inc32 (wt hm); apply fr_setStream (wt hm); assumption; assumption)

theorem fr_formStats {m : Nat} (hm : Within 828699 m) {s0 s : State} {a1 a2} (h : Fr m s0 s) : Fr m s0 (State.formStats s a1 a2) := by
  unfold State.formStats
  dsimp only; with_reducible (apply fr_fire (wt hm); apply fr_sendStats (wt hm)); split; split
  with_reducible (apply fr_store (wt hm); apply fr_setReg (wt hm); apply fr_snd; apply fr_draw (wt hm); assumption)
  with_reducible (apply fr_setReg (wt hm); apply fr_snd; apply fr_draw (wt hm); assumption); split
  with_reducible (apply fr_store (wt hm); apply fr_setReg (wt hm); assumption; apply fr_setReg (wt hm); assumption)

theorem fr_execStatsRecordFormed {m : Nat} (hm : Within 828699 m) {s0 s : State} {a0} (h : Fr m s0 s) : FrR m s0 (execStatsRecordFormed a0 s) := by
  unfold execStatsRecordFormed
  with_reducible apply frR_inst; split; split
  with_reducible (apply frR_next; apply fr_formStats (wt hm); apply fr_modCam (wt hm); assumption; apply frR_next; assumption)
  with_reducible (apply frR_next; assumption)

theorem fr_stageB {m : Nat} (hm : Within 8194 m) {s0 s : State} {c : Nat} (h : Fr m s0 s) : Fr m s0 ((State.stageB s c).s) := by
  unfold State.stageB
  extract_lets x l f ms rows planes filled isMissing mism split info i acc last old s1 replaced s2 s3 s4
  have k : Fr m s0 s2 := by
    simp only [s2, s1]
    with_reducible (apply fr_inc64 (wt hm); apply fr_inc64 (wt hm); apply fr_modCam (wt hm); assumption)
  clear_value s2
  have k3 : Fr m s0 s3 := by
    simp only [s3]
    split; with_reducible (apply fr_inc32 (wt hm); assumption); split; with_reducible (apply fr_inc32 (wt hm); assumption; assumption)
  clear_value s3
  show Fr m s0 s4
  simp only [s4]
  split; with_reducible (apply fr_inc32 (wt hm); assumption; assumption)

theorem fr_camSet {m : Nat} (hm : Within 262146 m) {s0 s : State} {a1 a2 a3 a4} (h : Fr m s0 s) : Fr m s0 (State.camSet s a1 a2 a3 a4) := by
  unfold State.camSet
  dsimp only; split; split; with_reducible (apply fr_queueControl (wt hm); assumption; apply fr_inc32 (wt hm); assumption); split
  with_reducible (apply fr_queueControl (wt hm); assumption; apply fr_inc32 (wt hm); assumption)

theorem fr_sendSettings {m : Nat} (hm : Within 262146 m) {s0 s : State} {a1 a2 a3 a4} (h : Fr m s0 s) : Fr m s0 (State.sendSettings s a1 a2 a3 a4) := by
  unfold State.sendSettings
  dsimp only; with_reducible (apply fr_camSet (wt hm); apply fr_each; assumption); intro _ _ _
  with_reducible (apply fr_camSet (wt hm); assumption)

theorem fr_settingsLive {m : Nat} (hm : Within 8194 m) {s0 s : State} {a1} (h : Fr m s0 s) : Fr m s0 (State.settingsLive s a1) := by
  unfold State.settingsLive
  split; with_reducible assumption; dsimp only; split
  with_reducible (apply fr_modFront (wt hm); apply fr_setReg (wt hm); assumption; apply fr_setReg (wt hm); assumption)

theorem fr_settingsBoundary {m : Nat} (hm : Within 270338 m) {s0 s : State} {a1} (h : Fr m s0 s) : Fr m s0 (State.settingsBoundary s a1) := by
  unfold State.settingsBoundary
  split; with_reducible assumption; dsimp only; with_reducible (apply fr_modFront (wt hm); apply fr_each; assumption); intro _ _ _
  with_reducible (apply fr_sendSettings (wt hm); assumption)

theorem fr_frontEnabling {m : Nat} (hm : Within 8322 m) {s0 s : State} (h : Fr m s0 s) : Fr m s0 (State.frontEnabling s) := by
  unfold State.frontEnabling
  dsimp only; with_reducible (apply fr_modFront (wt hm); apply fr_each; apply fr_modGen (wt hm); assumption); intro _ _ _
  with_reducible (apply fr_setReg (wt hm); assumption)

theorem fr_cameraEnabling {m : Nat} (hm : Within 270338 m) {s0 s : State} {a1} (h : Fr m s0 s) : Fr m s0 (State.cameraEnabling s a1) := by
  unfold State.cameraEnabling
  with_reducible (apply fr_sendSettings (wt hm); apply fr_modCam (wt hm); apply fr_forgetSeqs (wt hm); assumption)

theorem fr_cameraDisabling {m : Nat} (hm : Within 8192 m) {s0 s : State} {a1} (h : Fr m s0 s) : Fr m s0 (State.cameraDisabling s a1) := by
  unfold State.cameraDisabling
  with_reducible (apply fr_modCam (wt hm); assumption)

theorem fr_frontDisabling {m : Nat} (hm : Within 8194 m) {s0 s : State} (h : Fr m s0 s) : Fr m s0 (State.frontDisabling s) := by
  unfold State.frontDisabling
  dsimp only; with_reducible (apply fr_each; apply fr_modFront (wt hm); assumption); intro _ _ _; split
  with_reducible (apply fr_cameraDisabling (wt hm); apply fr_setReg (wt hm); apply fr_setReg (wt hm); assumption); split
  with_reducible (apply fr_setReg (wt hm); apply fr_setReg (wt hm); assumption; assumption)

theorem fr_cameraTurnsOff {m : Nat} (hm : Within 8192 m) {s0 s : State} {a1} (h : Fr m s0 s) : Fr m s0 (State.cameraTurnsOff s a1) := by
  unfold State.cameraTurnsOff
  with_reducible (apply fr_modFront (wt hm); apply fr_modCam (wt hm); assumption)

end Sys2Proof.Machine
end

