-- ==== Sys2Proof/Laws/FrameSession.lean ====
section
/-! SUPPORT. What the definitions of Machine/Session.lean leave alone (Fr). -/

set_option Elab.async false

namespace Sys2Proof.Machine

theorem fr_portSend {m : Nat} (hm : Within 34 m) {s0 s : State} {a1 a2} (h : Fr m s0 s) : Fr m s0 (State.portSend s a1 a2) := by
  unfold State.portSend
  split; with_reducible (apply fr_inc64 (wt hm); apply fr_emit (wt hm); assumption; assumption)

theorem fr_sendTo {m : Nat} (hm : Within 34 m) {s0 s : State} {a1 a2} (h : Fr m s0 s) : Fr m s0 (State.sendTo s a1 a2) := by
  unfold State.sendTo
  dsimp only; with_reducible (apply fr_portSend (wt hm); assumption)

theorem fr_nextTx {m : Nat} (hm : Within 2 m) {s0 s : State} {a1} (h : Fr m s0 s) : Fr m s0 (State.nextTx s a1) := by
  unfold State.nextTx
  with_reducible (apply fr_setReg (wt hm); assumption)

theorem fr_debugLeave {m : Nat} (hm : Within 525571 m) {s0 s : State} (h : Fr m s0 s) : Fr m s0 (State.debugLeave s) := by
  unfold State.debugLeave
  dsimp only; with_reducible (apply fr_faultRecord (wt hm); apply fr_setReg (wt hm); apply fr_setReg (wt hm); assumption)

theorem fr_debugEnter {m : Nat} (hm : Within 525571 m) {s0 s : State} {a1} (h : Fr m s0 s) : Fr m s0 (State.debugEnter s a1) := by
  unfold State.debugEnter
  with_reducible (apply fr_faultRecord (wt hm); apply fr_setReg (wt hm); apply fr_setReg (wt hm); assumption)

theorem fr_abandon {m : Nat} (hm : Within 524290 m) {s0 s : State} {a1} (h : Fr m s0 s) : Fr m s0 (State.abandon s a1) := by
  unfold State.abandon
  split; with_reducible (assumption; apply fr_abortLog (wt hm); apply fr_modSession (wt hm); assumption)

theorem fr_freeSession {m : Nat} (hm : Within 524290 m) {s0 s : State} {a1} (h : Fr m s0 s) : Fr m s0 (State.freeSession s a1) := by
  unfold State.freeSession
  dsimp only; with_reducible (apply fr_modSession (wt hm); apply fr_each; assumption); intro _ _ _
  with_reducible (apply fr_setReg (wt hm); assumption)

theorem fr_closeSession {m : Nat} (hm : Within 8914211 m) {s0 s : State} {a1 a2} (h : Fr m s0 s) : Fr m s0 (State.closeSession s a1 a2) := by
  unfold State.closeSession
  split; with_reducible assumption; dsimp only; split; apply fr_mk_serving (wt hm)
  with_reducible (assumption; apply fr_notifyBut (wt hm); apply fr_setInput (wt hm); apply fr_each; apply fr_freeSession (wt hm)); split
  split
  with_reducible (apply fr_debugLeave (wt hm); apply fr_abandon (wt hm); apply fr_sendTo (wt hm); apply fr_nextTx (wt hm); assumption)
  with_reducible (apply fr_abandon (wt hm); apply fr_sendTo (wt hm); apply fr_nextTx (wt hm); assumption); split
  with_reducible (apply fr_debugLeave (wt hm); apply fr_abandon (wt hm); assumption; apply fr_abandon (wt hm); assumption); intro _ _ _
  with_reducible (apply fr_channelDisable (wt hm); assumption)

theorem fr_closeWhere {m : Nat} (hm : Within 8914211 m) {s0 s : State} {a1} (h : Fr m s0 s) : Fr m s0 (State.closeWhere s a1) := by
  unfold State.closeWhere
  with_reducible (apply fr_each; assumption); intro _ _ _; split; with_reducible (apply fr_closeSession (wt hm); assumption; assumption)

theorem fr_closePort {m : Nat} (hm : Within 8914211 m) {s0 s : State} {a1} (h : Fr m s0 s) : Fr m s0 (State.closePort s a1) := by
  unfold State.closePort
  with_reducible (apply fr_closeWhere (wt hm); assumption)

theorem fr_heard {m : Nat} (hm : Within 2 m) {s0 s : State} {a1} (h : Fr m s0 s) : Fr m s0 (State.heard s a1) := by
  unfold State.heard
  with_reducible (apply fr_setReg (wt hm); assumption)

theorem fr_execSessionIdleTimeout {m : Nat} (hm : Within 8914211 m) {s0 s : State} {a0} (h : Fr m s0 s) : FrR m s0 (execSessionIdleTimeout a0 s) := by
  unfold execSessionIdleTimeout
  with_reducible (apply frR_inst; apply frR_next; apply fr_closeSession (wt hm); assumption)

theorem fr_execTransferAbandoned {m : Nat} (hm : Within 524290 m) {s0 s : State} {a0} (h : Fr m s0 s) : FrR m s0 (execTransferAbandoned a0 s) := by
  unfold execTransferAbandoned
  with_reducible (apply frR_inst; apply frR_next; apply fr_abandon (wt hm); assumption)

theorem fr_notifySend {m : Nat} (hm : Within 524322 m) {s0 s : State} {a1} (h : Fr m s0 s) : Fr m s0 (State.notifySend s a1) := by
  unfold State.notifySend
  dsimp only; with_reducible (apply fr_sendTo (wt hm); apply fr_modSession (wt hm); apply fr_nextTx (wt hm); assumption)

theorem fr_execNotifySend {m : Nat} (hm : Within 524322 m) {s0 s : State} {a0} (h : Fr m s0 s) : FrR m s0 (execNotifySend a0 s) := by
  unfold execNotifySend
  with_reducible apply frR_inst; split
  with_reducible (apply frR_next; apply fr_notifySend (wt hm); assumption; apply frR_next; assumption)

theorem fr_notifyResend {m : Nat} (hm : Within 524322 m) {s0 s : State} {a1 a2} (h : Fr m s0 s) : Fr m s0 (State.notifyResend s a1 a2) := by
  unfold State.notifyResend
  split; with_reducible assumption; split
  with_reducible (apply fr_sendTo (wt hm); apply fr_modSession (wt hm); assumption; apply fr_modSession (wt hm); assumption)

theorem fr_execNotifyResend {m : Nat} (hm : Within 524322 m) {s0 s : State} {a0 a1} (h : Fr m s0 s) : FrR m s0 (execNotifyResend a0 a1 s) := by
  unfold execNotifyResend
  with_reducible apply frR_inst; split
  with_reducible (apply frR_next; apply fr_notifyResend (wt hm); assumption; apply frR_next; assumption)

theorem fr_eventNotify {m : Nat} (hm : Within 524544 m) {s0 s : State} {a1} (h : Fr m s0 s) : Fr m s0 (State.eventNotify s a1) := by
  unfold State.eventNotify
  split; with_reducible assumption; dsimp only; split
  with_reducible (apply fr_modSession (wt hm); apply fr_takeInput (wt hm); assumption; apply fr_takeInput (wt hm); assumption)

theorem fr_rxFrame {m : Nat} (hm : Within 2 m) {s0 s : State} {a1} (h : Fr m s0 s) : Fr m s0 (State.rxFrame s a1) := by
  unfold State.rxFrame
  with_reducible (apply fr_inc64 (wt hm); assumption)

theorem fr_execArpRequest {m : Nat} (hm : Within 34 m) {s0 s : State} {a0 a1 a2} (h : Fr m s0 s) : FrR m s0 (execArpRequest a0 a1 a2 s) := by
  unfold execArpRequest
  with_reducible apply frR_inst; split; dsimp only; with_reducible apply frR_next; split
  with_reducible (apply fr_portSend (wt hm); apply fr_rxFrame (wt hm); assumption; apply fr_inc32 (wt hm); apply fr_rxFrame (wt hm))
  with_reducible (assumption; apply frR_next; assumption)

theorem fr_execIcmpEcho {m : Nat} (hm : Within 34 m) {s0 s : State} {a0 a1 a2 a3} (h : Fr m s0 s) : FrR m s0 (execIcmpEcho a0 a1 a2 a3 s) := by
  unfold execIcmpEcho
  with_reducible apply frR_inst; split; dsimp only; with_reducible apply frR_next; split
  with_reducible (apply fr_portSend (wt hm); apply fr_rxFrame (wt hm); assumption; apply fr_inc32 (wt hm); apply fr_rxFrame (wt hm))
  with_reducible (assumption; apply frR_next; assumption)

theorem fr_execPortLinkChange {m : Nat} (hm : Within 2 m) {s0 s : State} {a0 a1} (h : Fr m s0 s) : FrR m s0 (execPortLinkChange a0 a1 s) := by
  unfold execPortLinkChange
  with_reducible apply frR_inst; split; with_reducible (apply frR_next; apply fr_setReg (wt hm); assumption; apply frR_next; assumption)

end Sys2Proof.Machine
end

