-- ==== Sys2Proof/Laws/FrameCrib.lean ====
section
/-! SUPPORT. What the definitions of Machine/Crib.lean leave alone (Fr). -/

set_option Elab.async false

namespace Sys2Proof.Machine

theorem fr_modSilo {m : Nat} (hm : Within 131072 m) {s0 s : State} {a1 a2} (h : Fr m s0 s) : Fr m s0 (State.modSilo s a1 a2) := by
  unfold State.modSilo
  apply fr_mk_crib (wt hm); with_reducible assumption

theorem fr_siloFlag {m : Nat} (hm : Within 2 m) {s0 s : State} {a1 a2} (h : Fr m s0 s) : Fr m s0 (State.siloFlag s a1 a2) := by
  unfold State.siloFlag
  with_reducible (apply fr_regBit (wt hm); assumption)

theorem fr_showSilo {m : Nat} (hm : Within 2 m) {s0 s : State} {a1} (h : Fr m s0 s) : Fr m s0 (State.showSilo s a1) := by
  unfold State.showSilo
  dsimp only; split
  with_reducible (apply fr_setReg (wt hm); apply fr_setReg (wt hm); apply fr_setReg (wt hm); assumption; apply fr_setReg (wt hm))
  with_reducible assumption

theorem fr_pinSlab {m : Nat} (hm : Within 131074 m) {s0 s : State} {a1 a2 a3} (h : Fr m s0 s) : Fr m s0 (State.pinSlab s a1 a2 a3) := by
  unfold State.pinSlab
  split; with_reducible assumption; dsimp only; split
  with_reducible (apply fr_showSilo (wt hm); apply fr_modSilo (wt hm); assumption; apply fr_siloFlag (wt hm); apply fr_modSilo (wt hm))
  with_reducible assumption

theorem fr_siloHeld {m : Nat} (hm : Within 258 m) {s0 s : State} {a1} (h : Fr m s0 s) : Fr m s0 (State.siloHeld s a1) := by
  unfold State.siloHeld
  with_reducible (apply fr_fire (wt hm); apply fr_setReg (wt hm); assumption)

theorem fr_settleSilo {m : Nat} (hm : Within 258 m) {s0 s : State} {a1} (h : Fr m s0 s) : Fr m s0 (State.settleSilo s a1) := by
  unfold State.settleSilo
  dsimp only; split; with_reducible (apply fr_siloHeld (wt hm); assumption; assumption)

theorem fr_pinsEffect {m : Nat} (hm : Within 131330 m) {s0 s : State} {a1} (h : Fr m s0 s) : Fr m s0 (State.pinsEffect s a1) := by
  unfold State.pinsEffect
  dsimp only; with_reducible (apply fr_settleSilo (wt hm); apply fr_showSilo (wt hm)); split; split
  with_reducible (apply fr_modSilo (wt hm); apply fr_siloFlag (wt hm); apply fr_whenB; apply fr_whenB; apply fr_modSilo (wt hm))
  with_reducible assumption; intro _ _; with_reducible (apply fr_siloFlag (wt hm); assumption); intro _ _
  with_reducible (apply fr_siloFlag (wt hm); assumption; apply fr_each; apply fr_whenB; apply fr_whenB; apply fr_modSilo (wt hm))
  with_reducible assumption; intro _ _; with_reducible (apply fr_siloFlag (wt hm); assumption); intro _ _
  with_reducible (apply fr_siloFlag (wt hm); assumption); intro _ _ _; with_reducible (apply fr_pinSlab (wt hm); assumption); split
  with_reducible (apply fr_modSilo (wt hm); apply fr_siloFlag (wt hm); apply fr_whenB; apply fr_whenB; apply fr_modSilo (wt hm))
  with_reducible assumption; intro _ _; with_reducible (apply fr_siloFlag (wt hm); assumption); intro _ _
  with_reducible (apply fr_siloFlag (wt hm); assumption; apply fr_each; apply fr_whenB; apply fr_whenB; apply fr_modSilo (wt hm))
  with_reducible assumption; intro _ _; with_reducible (apply fr_siloFlag (wt hm); assumption); intro _ _
  with_reducible (apply fr_siloFlag (wt hm); assumption); intro _ _ _; with_reducible (apply fr_pinSlab (wt hm); assumption)

theorem fr_execPinsTakeEffect {m : Nat} (hm : Within 131330 m) {s0 s : State} {a0} (h : Fr m s0 s) : FrR m s0 (execPinsTakeEffect a0 s) := by
  unfold execPinsTakeEffect
  with_reducible apply frR_inst; split
  with_reducible (apply frR_next; apply fr_pinsEffect (wt hm); assumption; apply frR_next; assumption)

theorem fr_setSlabs {m : Nat} (hm : Within 131072 m) {s0 s : State} {a1} (h : Fr m s0 s) : Fr m s0 (State.setSlabs s a1) := by
  unfold State.setSlabs
  apply fr_mk_crib (wt hm); with_reducible assumption

theorem fr_claimSlab {m : Nat} (hm : Within 131330 m) {s0 s : State} {a1} (h : Fr m s0 s) : Fr m s0 (State.claimSlab s a1) := by
  unfold State.claimSlab
  split; dsimp only; with_reducible (apply fr_each; apply fr_setSlabs (wt hm); assumption); intro _ _ _; split
  with_reducible (apply fr_settleSilo (wt hm); apply fr_pinSlab (wt hm); assumption; assumption); dsimp only
  with_reducible (apply fr_each; apply fr_fire (wt hm); apply fr_inc32 (wt hm); apply fr_setSlabs (wt hm); assumption); intro _ _ _; split
  with_reducible (apply fr_siloFlag (wt hm); assumption; assumption)

theorem fr_writeSample {m : Nat} (hm : Within 689435 m) {s0 s : State} {a1 a2 a3 a4 a5} (h : Fr m s0 s) : Fr m s0 (State.writeSample s a1 a2 a3 a4 a5) := by
  unfold State.writeSample
  dsimp only; split; split; split
  with_reducible (apply fr_inc32 (wt hm); assumption; apply fr_setSlabs (wt hm); apply fr_store (wt hm); assumption); split
  with_reducible (apply fr_inc32 (wt hm); apply fr_claimSlab (wt hm); assumption; apply fr_setSlabs (wt hm); apply fr_store (wt hm))
  with_reducible (apply fr_claimSlab (wt hm); assumption); split; with_reducible (assumption; apply fr_claimSlab (wt hm); assumption)

theorem fr_takeSample {m : Nat} (hm : Within 689435 m) {s0 s : State} {a1 a2 a3 a4 a5 a6} (h : Fr m s0 s) : Fr m s0 (State.takeSample s a1 a2 a3 a4 a5 a6) := by
  unfold State.takeSample
  dsimp only; with_reducible apply fr_writeSample (wt hm); split; with_reducible (apply fr_inc64 (wt hm); assumption); split
  with_reducible (apply fr_inc64 (wt hm); assumption; assumption)

theorem fr_samplePacket {m : Nat} (hm : Within 689435 m) {s0 s : State} {a1} (h : Fr m s0 s) : Fr m s0 (State.samplePacket s a1) := by
  unfold State.samplePacket
  dsimp only; split; with_reducible (apply fr_inc32 (wt hm); assumption); split; with_reducible (apply fr_inc32 (wt hm); assumption)
  split; with_reducible (apply fr_inc32 (wt hm); assumption); split; with_reducible (apply fr_inc32 (wt hm); assumption); split
  with_reducible (apply fr_inc32 (wt hm); assumption); split; with_reducible (apply fr_inc32 (wt hm); assumption; apply fr_each)
  apply fr_mk_crib (wt hm); with_reducible assumption; intro _ _ _; with_reducible (apply fr_each; assumption); intro _ _ _
  with_reducible (apply fr_takeSample (wt hm); assumption)

theorem fr_execSamplePacketRx {m : Nat} (hm : Within 951579 m) {s0 s : State} (h : Fr m s0 s) : FrR m s0 (execSamplePacketRx s) := by
  unfold execSamplePacketRx
  split; with_reducible (apply frR_next; assumption; apply frR_next; apply fr_samplePacket (wt hm)); apply fr_mk_sheaf (wt hm)
  with_reducible assumption

theorem fr_fillSlab {m : Nat} (hm : Within 558363 m) {s0 s : State} {a1} (h : Fr m s0 s) : Fr m s0 (State.fillSlab s a1) := by
  unfold State.fillSlab
  split; with_reducible assumption; dsimp only; with_reducible (apply fr_each; assumption); intro _ _ _
  with_reducible (apply fr_store (wt hm); assumption)

theorem fr_sealSlab {m : Nat} (hm : Within 689435 m) {s0 s : State} (h : Fr m s0 s) : Fr m s0 (State.sealSlab s) := by
  unfold State.sealSlab
  dsimp only; with_reducible (apply fr_each; apply fr_setReg (wt hm)); apply fr_mk_crib (wt hm); with_reducible apply fr_setSlabs (wt hm)
  split; with_reducible (apply fr_fillSlab (wt hm); apply fr_each; assumption); intro _ _ _
  with_reducible (apply fr_inc64 (wt hm); assumption; apply fr_each; assumption); intro _ _ _
  with_reducible (apply fr_inc64 (wt hm); assumption); intro _ _ _; with_reducible apply fr_settleSilo (wt hm); split
  with_reducible (apply fr_siloFlag (wt hm); assumption; assumption)

theorem fr_execSlabSeal {m : Nat} (hm : Within 689435 m) {s0 s : State} (h : Fr m s0 s) : FrR m s0 (execSlabSeal s) := by
  unfold execSlabSeal
  split; with_reducible (apply frR_next; apply fr_sealSlab (wt hm); assumption; apply frR_next; assumption)

theorem fr_setReader {m : Nat} (hm : Within 131072 m) {s0 s : State} {a1 a2} (h : Fr m s0 s) : Fr m s0 (State.setReader s a1 a2) := by
  unfold State.setReader
  apply fr_mk_crib (wt hm); with_reducible assumption

theorem fr_setHalf {m : Nat} (hm : Within 131072 m) {s0 s : State} {a1 a2 a3} (h : Fr m s0 s) : Fr m s0 (State.setHalf s a1 a2 a3) := by
  unfold State.setHalf
  apply fr_mk_crib (wt hm); with_reducible assumption

theorem fr_windowStart {m : Nat} (hm : Within 131074 m) {s0 s : State} {a1} (h : Fr m s0 s) : Fr m s0 (State.windowStart s a1) := by
  unfold State.windowStart
  dsimp only; split; split
  with_reducible (apply fr_setReader (wt hm); assumption; apply fr_setReg (wt hm); apply fr_setReg (wt hm); apply fr_setReader (wt hm))
  with_reducible (assumption; assumption)

theorem fr_execWindowStart {m : Nat} (hm : Within 131074 m) {s0 s : State} {a0} (h : Fr m s0 s) : FrR m s0 (execWindowStart a0 s) := by
  unfold execWindowStart
  with_reducible apply frR_inst; split
  with_reducible (apply frR_next; apply fr_windowStart (wt hm); assumption; apply frR_next; assumption)

theorem fr_rankReads {m : Nat} (hm : Within 558879 m) {s0 s : State} {a1 a2 a3 a4} (h : Fr m s0 s) : Fr m s0 (State.rankReads s a1 a2 a3 a4) := by
  unfold State.rankReads
  with_reducible (apply fr_each; assumption); intro _ _ _; split; with_reducible (apply fr_readRange (wt hm); assumption; assumption)

theorem fr_stepReads {m : Nat} (hm : Within 558879 m) {s0 s : State} {a1 a2 a3} (h : Fr m s0 s) : Fr m s0 (State.stepReads s a1 a2 a3) := by
  unfold State.stepReads
  with_reducible (apply fr_each; assumption); intro _ _ _; with_reducible (apply fr_rankReads (wt hm); assumption)

theorem fr_loftFill {m : Nat} (hm : Within 689951 m) {s0 s : State} {a1} (h : Fr m s0 s) : Fr m s0 (State.loftFill s a1) := by
  unfold State.loftFill
  dsimp only; split; split
  with_reducible (apply fr_setReader (wt hm); apply fr_inc64 (wt hm); apply fr_setHalf (wt hm); apply fr_stepReads (wt hm); assumption)
  split
  with_reducible (apply fr_setReader (wt hm); apply fr_inc64 (wt hm); apply fr_setHalf (wt hm); apply fr_stepReads (wt hm); assumption)
  split; with_reducible (apply fr_setReg (wt hm); apply fr_setReader (wt hm); apply fr_inc64 (wt hm); apply fr_setHalf (wt hm))
  with_reducible (apply fr_stepReads (wt hm); assumption; apply fr_setReader (wt hm); apply fr_inc64 (wt hm); apply fr_setHalf (wt hm))
  with_reducible (apply fr_stepReads (wt hm); assumption; assumption)

theorem fr_cribTick {m : Nat} (hm : Within 2 m) {s0 s : State} (h : Fr m s0 s) : Fr m s0 (State.cribTick s) := by
  unfold State.cribTick
  with_reducible (apply fr_each; assumption); intro _ _ _; split; with_reducible (apply fr_inc64 (wt hm); assumption; assumption)

theorem fr_trigger {m : Nat} (hm : Within 131330 m) {s0 s : State} {a1 a2 a3} (h : Fr m s0 s) : Fr m s0 (State.trigger s a1 a2 a3) := by
  unfold State.trigger
  dsimp only; split
  with_reducible (apply fr_fire (wt hm); apply fr_inc32 (wt hm); assumption; apply fr_inc32 (wt hm); apply fr_setReg (wt hm))
  with_reducible (apply fr_setReg (wt hm); apply fr_setReg (wt hm); apply fr_setReg (wt hm); apply fr_setReg (wt hm))
  with_reducible (apply fr_setReg (wt hm); apply fr_setReg (wt hm); apply fr_setReg (wt hm); apply fr_setReg (wt hm))
  with_reducible (apply fr_setReg (wt hm); apply fr_modSilo (wt hm); assumption)

theorem fr_execCribFreeze {m : Nat} (hm : Within 131330 m) {s0 s : State} {a0} (h : Fr m s0 s) : FrR m s0 (execCribFreeze a0 s) := by
  unfold execCribFreeze
  with_reducible apply frR_inst; split
  with_reducible (apply frR_next; apply fr_trigger (wt hm); apply fr_takeInput (wt hm); assumption; apply frR_next; assumption)

theorem fr_cmdFire {m : Nat} (hm : Within 131330 m) {s0 s : State} (h : Fr m s0 s) : FrV m s0 (cmdFire s) := by
  unfold cmdFire
  with_reducible (apply frV_ok; apply fr_trigger (wt hm); assumption)

theorem fr_endReadout {m : Nat} (hm : Within 131074 m) {s0 s : State} {a1} (h : Fr m s0 s) : Fr m s0 (State.endReadout s a1) := by
  unfold State.endReadout
  with_reducible apply fr_setReg (wt hm); apply fr_mk_crib (wt hm); with_reducible assumption

theorem fr_cmdSiloRelease {m : Nat} (hm : Within 131074 m) {s0 s : State} {a0} (h : Fr m s0 s) : FrV m s0 (cmdSiloRelease a0 s) := by
  unfold cmdSiloRelease
  dsimp only; split; with_reducible (apply frV_error; apply frV_ok; apply fr_modSilo (wt hm); apply fr_setReg (wt hm)); split
  with_reducible (apply fr_endReadout (wt hm); assumption; assumption)

theorem fr_execSiloReleaseComplete {m : Nat} (hm : Within 131074 m) {s0 s : State} {a0} (h : Fr m s0 s) : FrR m s0 (execSiloReleaseComplete a0 s) := by
  unfold execSiloReleaseComplete
  with_reducible apply frR_inst; split
  with_reducible (apply frR_next; apply fr_modSilo (wt hm); apply fr_setReg (wt hm); assumption; apply frR_next; assumption)

theorem fr_readoutStart {m : Nat} (hm : Within 131074 m) {s0 s : State} (h : Fr m s0 s) : Fr m s0 (State.readoutStart s) := by
  unfold State.readoutStart
  dsimp only; with_reducible (apply fr_setReg (wt hm); apply fr_setReg (wt hm); apply fr_setReg (wt hm)); apply fr_mk_crib (wt hm)
  with_reducible assumption

theorem fr_cmdReadoutStart {m : Nat} (hm : Within 131074 m) {s0 s : State} (h : Fr m s0 s) : FrV m s0 (cmdReadoutStart s) := by
  unfold cmdReadoutStart
  split; with_reducible (apply frV_ok; apply fr_readoutStart (wt hm); assumption; apply frV_error)

theorem fr_readoutRefused {m : Nat} (hm : Within 2 m) {s0 s : State} (h : Fr m s0 s) : Fr m s0 (State.readoutRefused s) := by
  unfold State.readoutRefused
  with_reducible (apply fr_setReg (wt hm); assumption)

theorem fr_cmdReadoutAbort {m : Nat} (hm : Within 131330 m) {s0 s : State} (h : Fr m s0 s) : FrV m s0 (cmdReadoutAbort s) := by
  unfold cmdReadoutAbort
  split; with_reducible (apply frV_ok; apply fr_siloHeld (wt hm); apply fr_endReadout (wt hm); assumption; apply frV_ok; assumption)

theorem fr_readoutRead {m : Nat} (hm : Within 558879 m) {s0 s : State} {a1} (h : Fr m s0 s) : Fr m s0 (State.readoutRead s a1) := by
  unfold State.readoutRead
  split; with_reducible (apply fr_readRange (wt hm); assumption; assumption)

theorem fr_execReadoutPacket {m : Nat} (hm : Within 952095 m) {s0 s : State} (h : Fr m s0 s) : FrR m s0 (execReadoutPacket s) := by
  unfold execReadoutPacket
  split; with_reducible (apply frR_next; assumption); dsimp only; split
  with_reducible (apply frR_next; apply fr_siloHeld (wt hm); apply fr_endReadout (wt hm); assumption); split
  with_reducible (apply frR_next; apply fr_fire (wt hm); apply fr_siloHeld (wt hm); apply fr_endReadout (wt hm); assumption); split; split
  with_reducible apply frR_next; apply fr_mk_crib (wt hm)
  with_reducible (apply fr_inc32 (wt hm); apply fr_streamPut (wt hm); apply fr_readoutRead (wt hm); assumption; apply frR_next)
  with_reducible (apply fr_fire (wt hm); apply fr_siloHeld (wt hm); apply fr_endReadout (wt hm); apply fr_inc32 (wt hm))
  with_reducible (apply fr_streamPut (wt hm); apply fr_readoutRead (wt hm); assumption; apply frR_next; assumption)

theorem fr_cribEnabling {m : Nat} (hm : Within 393218 m) {s0 s : State} (h : Fr m s0 s) : Fr m s0 (State.cribEnabling s) := by
  unfold State.cribEnabling
  dsimp only; with_reducible (apply fr_setReg (wt hm); apply fr_setReg (wt hm)); apply fr_mk_crib (wt hm)
  with_reducible (apply fr_forgetSeqs (wt hm); assumption)

theorem fr_cribTurnsOn {m : Nat} (hm : Within 131074 m) {s0 s : State} (h : Fr m s0 s) : Fr m s0 (State.cribTurnsOn s) := by
  unfold State.cribTurnsOn
  dsimp only; with_reducible apply fr_setReg (wt hm); apply fr_mk_crib (wt hm); with_reducible assumption

theorem fr_endReader {m : Nat} (hm : Within 131072 m) {s0 s : State} {a1} (h : Fr m s0 s) : Fr m s0 (State.endReader s a1) := by
  unfold State.endReader
  dsimp only; split; with_reducible (apply fr_setReader (wt hm); assumption; assumption)

theorem fr_cribDisabling {m : Nat} (hm : Within 689435 m) {s0 s : State} (h : Fr m s0 s) : Fr m s0 (State.cribDisabling s) := by
  unfold State.cribDisabling
  dsimp only; with_reducible (apply fr_each; apply fr_each; apply fr_each; apply fr_each; assumption); intro _ _ _; split
  with_reducible (apply fr_pinsEffect (wt hm); assumption; assumption); intro _ _ _
  with_reducible (apply fr_fillSlab (wt hm); assumption); intro _ _ _; split
  with_reducible (apply fr_siloHeld (wt hm); apply fr_siloFlag (wt hm); apply fr_modSilo (wt hm); assumption; assumption); intro _ _ _
  with_reducible (apply fr_endReader (wt hm); assumption)

theorem fr_cribTurnsOff {m : Nat} (hm : Within 131072 m) {s0 s : State} (h : Fr m s0 s) : Fr m s0 (State.cribTurnsOff s) := by
  unfold State.cribTurnsOff
  apply fr_mk_crib (wt hm); with_reducible assumption

end Sys2Proof.Machine
end

