-- ==== Sys2Proof/Laws/FrameGranary.lean ====
section
/-! SUPPORT. What the definitions of Machine/Granary.lean leave alone (Fr). -/

set_option Elab.async false

namespace Sys2Proof.Machine

theorem fr_setAcc {m : Nat} (hm : Within 65536 m) {s0 s : State} {a1 a2 a3 a4} (h : Fr m s0 s) : Fr m s0 (State.setAcc s a1 a2 a3 a4) := by
  unfold State.setAcc
  apply fr_mk_xarray (wt hm); with_reducible assumption

theorem fr_clearBin {m : Nat} (hm : Within 65536 m) {s0 s : State} {a1 a2} (h : Fr m s0 s) : Fr m s0 (State.clearBin s a1 a2) := by
  unfold State.clearBin
  with_reducible (apply fr_setAcc (wt hm); apply fr_setAcc (wt hm); assumption)

theorem fr_granaryEcc {m : Nat} (hm : Within 591107 m) {s0 s : State} {a1 a2 a3 a4 a5} (h : Fr m s0 s) : Fr m s0 (State.granaryEcc s a1 a2 a3 a4 a5) := by
  unfold State.granaryEcc
  dsimp only; split; with_reducible (assumption; apply fr_each; apply fr_setAcc (wt hm); assumption); intro _ _ _
  with_reducible (apply fr_faultRecord (wt hm); assumption)

end Sys2Proof.Machine
end

