-- ==== Sys2Proof/Laws/FrameJig.lean ====
section
/-! SUPPORT. What the definitions of Machine/Jig.lean leave alone (Fr). -/

set_option Elab.async false

namespace Sys2Proof.Machine

theorem fr_modJig {m : Nat} (hm : Within 65536 m) {s0 s : State} {a1 a2} (h : Fr m s0 s) : Fr m s0 (State.modJig s a1 a2) := by
  unfold State.modJig
  apply fr_mk_xarray (wt hm); with_reducible assumption

theorem fr_setOrders {m : Nat} (hm : Within 65536 m) {s0 s : State} {a1} (h : Fr m s0 s) : Fr m s0 (State.setOrders s a1) := by
  unfold State.setOrders
  apply fr_mk_xarray (wt hm); with_reducible assumption

theorem fr_modOrder {m : Nat} (hm : Within 65536 m) {s0 s : State} {a1 a2} (h : Fr m s0 s) : Fr m s0 (State.modOrder s a1 a2) := by
  unfold State.modOrder
  with_reducible (apply fr_setOrders (wt hm); assumption)

theorem fr_setRun {m : Nat} (hm : Within 2 m) {s0 s : State} {a1 a2} (h : Fr m s0 s) : Fr m s0 (State.setRun s a1 a2) := by
  unfold State.setRun
  with_reducible (apply fr_setReg (wt hm); assumption)

theorem fr_goto {m : Nat} (hm : Within 2 m) {s0 s : State} {a1 a2} (h : Fr m s0 s) : Fr m s0 (State.goto s a1 a2) := by
  unfold State.goto
  with_reducible (apply fr_setReg (wt hm); assumption)

theorem fr_nextEntry {m : Nat} (hm : Within 2 m) {s0 s : State} {a1} (h : Fr m s0 s) : Fr m s0 (State.nextEntry s a1) := by
  unfold State.nextEntry
  with_reducible (apply fr_goto (wt hm); assumption)

theorem fr_releaseHalves {m : Nat} (hm : Within 131072 m) {s0 s : State} {a1} (h : Fr m s0 s) : Fr m s0 (State.releaseHalves s a1) := by
  unfold State.releaseHalves
  split; with_reducible (assumption; apply fr_each; assumption); intro _ _ _; dsimp only; split
  with_reducible (apply fr_setHalf (wt hm); assumption; assumption)

theorem fr_swapList {m : Nat} (hm : Within 65538 m) {s0 s : State} {a1 a2} (h : Fr m s0 s) : Fr m s0 (State.swapList s a1 a2) := by
  unfold State.swapList
  dsimp only; with_reducible (apply fr_setRun (wt hm); apply fr_setReg (wt hm); apply fr_setReg (wt hm); apply fr_goto (wt hm))
  with_reducible (apply fr_modJig (wt hm); assumption)

theorem fr_takeHalf {m : Nat} (hm : Within 196610 m) {s0 s : State} {a1 a2} (h : Fr m s0 s) : FrF m s0 (State.takeHalf s a1 a2) := by
  unfold State.takeHalf
  dsimp only; split; with_reducible (apply frF_mk; apply fr_swapList (wt hm); apply fr_modJig (wt hm); apply fr_releaseHalves (wt hm))
  with_reducible (apply fr_setReg (wt hm); apply fr_setReg (wt hm); apply fr_modJig (wt hm); apply fr_setHalf (wt hm); assumption)
  with_reducible (apply frF_mk; apply fr_releaseHalves (wt hm); apply fr_setReg (wt hm); apply fr_setReg (wt hm))
  with_reducible (apply fr_modJig (wt hm); apply fr_setHalf (wt hm); assumption)

theorem fr_stepTaken {m : Nat} (hm : Within 196610 m) {s0 s : State} {a1 a2} (h : Fr m s0 s) : Fr m s0 (State.stepTaken s a1 a2) := by
  unfold State.stepTaken
  dsimp only; split
  with_reducible (apply fr_fst; apply fr_takeHalf (wt hm); assumption; apply fr_setRun (wt hm); apply fr_nextEntry (wt hm); apply fr_fst)
  with_reducible (apply fr_takeHalf (wt hm); assumption)

theorem fr_halfReady {m : Nat} (hm : Within 196610 m) {s0 s : State} {a1} (h : Fr m s0 s) : Fr m s0 (State.halfReady s a1) := by
  unfold State.halfReady
  split; with_reducible assumption; split; with_reducible assumption; split; with_reducible (apply fr_stepTaken (wt hm); assumption)
  split; with_reducible (apply fr_fst; apply fr_takeHalf (wt hm); assumption; assumption)

theorem fr_execLoftStepFill {m : Nat} (hm : Within 755487 m) {s0 s : State} {a0} (h : Fr m s0 s) : FrR m s0 (execLoftStepFill a0 s) := by
  unfold execLoftStepFill
  with_reducible apply frR_inst; split
  with_reducible (apply frR_next; apply fr_halfReady (wt hm); apply fr_loftFill (wt hm); assumption; apply frR_next; assumption)

theorem fr_jigFail {m : Nat} (hm : Within 65794 m) {s0 s : State} {a1 a2} (h : Fr m s0 s) : Fr m s0 (State.jigFail s a1 a2) := by
  unfold State.jigFail
  dsimp only; with_reducible (apply fr_fire (wt hm); apply fr_setReg (wt hm); apply fr_setReg (wt hm); apply fr_setRun (wt hm))
  with_reducible (apply fr_modJig (wt hm); assumption)

theorem fr_lateSwap {m : Nat} (hm : Within 65538 m) {s0 s : State} {a1} (h : Fr m s0 s) : Fr m s0 (State.lateSwap s a1) := by
  unfold State.lateSwap
  split; split; with_reducible (apply fr_swapList (wt hm); apply fr_modJig (wt hm); assumption; assumption; assumption)

theorem fr_discardUnplaced {m : Nat} (hm : Within 65538 m) {s0 s : State} {a1 a2 a3 a4} (h : Fr m s0 s) : Fr m s0 (State.discardUnplaced s a1 a2 a3 a4) := by
  unfold State.discardUnplaced
  dsimp only; split; with_reducible apply fr_inc64 (wt hm); apply fr_mk_xarray (wt hm)
  with_reducible (apply fr_inc32 (wt hm); apply fr_inc64 (wt hm); assumption; apply fr_inc32 (wt hm); apply fr_inc64 (wt hm); assumption)

theorem fr_portGrant {m : Nat} (hm : Within 65536 m) {s0 s : State} {a1 a2 a3} (h : Fr m s0 s) : Fr m s0 (State.portGrant s a1 a2 a3) := by
  unfold State.portGrant
  dsimp only; apply fr_mk_xarray (wt hm); with_reducible assumption

theorem fr_enqueueOrder {m : Nat} (hm : Within 65536 m) {s0 s : State} {a1 a2 a3 a4} (h : Fr m s0 s) : Fr m s0 (State.enqueueOrder s a1 a2 a3 a4) := by
  unfold State.enqueueOrder
  dsimp only; with_reducible (apply fr_portGrant (wt hm); apply fr_setOrders (wt hm); assumption)

theorem fr_placeOrder {m : Nat} (hm : Within 65538 m) {s0 s : State} {a1 a2 a3 a4 a5} (h : Fr m s0 s) : Fr m s0 (State.placeOrder s a1 a2 a3 a4 a5) := by
  unfold State.placeOrder
  split; with_reducible (apply fr_discardUnplaced (wt hm); assumption; apply fr_enqueueOrder (wt hm); assumption)

theorem fr_issueOrder {m : Nat} (hm : Within 65538 m) {s0 s : State} {a1 a2} (h : Fr m s0 s) : Fr m s0 (State.issueOrder s a1 a2) := by
  unfold State.issueOrder
  dsimp only; with_reducible apply fr_placeOrder (wt hm); apply fr_mk_xarray (wt hm); split
  with_reducible (apply fr_inc32 (wt hm); apply fr_inc64 (wt hm); assumption; apply fr_inc64 (wt hm); assumption)

theorem fr_runSweep {m : Nat} (hm : Within 65794 m) {s0 s : State} {k fuel : Nat} {x : Sweep} (h : Fr m s0 s) : Fr m s0 (State.runSweep s k fuel x) := by
  induction fuel generalizing s x with
  | zero => exact h
  | succ n ih =>
    unfold State.runSweep
    dsimp only; split; with_reducible (apply fr_lateSwap (wt hm); apply fr_jigFail (wt hm); assumption); split
    with_reducible (apply fr_setRun (wt hm); apply fr_modJig (wt hm)); split
    with_reducible (assumption; apply fr_poolFull (wt hm); assumption); split
    with_reducible (apply fr_lateSwap (wt hm); apply fr_nextEntry (wt hm); apply fr_modJig (wt hm); apply fr_setRun (wt hm))
    with_reducible (apply fr_issueOrder (wt hm); assumption); apply ih
    with_reducible (apply fr_setRun (wt hm); apply fr_issueOrder (wt hm); assumption)

theorem fr_resumePort {m : Nat} (hm : Within 65794 m) {s0 s : State} {a1} (h : Fr m s0 s) : Fr m s0 (State.resumePort s a1) := by
  unfold State.resumePort
  split; with_reducible (apply fr_runSweep (wt hm); assumption; assumption)

theorem fr_wakePort {m : Nat} (hm : Within 65794 m) {s0 s : State} {a1} (h : Fr m s0 s) : Fr m s0 (State.wakePort s a1) := by
  unfold State.wakePort
  dsimp only; split; with_reducible assumption; split; with_reducible (apply fr_resumePort (wt hm); assumption; assumption)

theorem fr_atEntry {m : Nat} (hm : Within 65794 m) {s0 s : State} {k : Nat} {kind : Nat → Bool} {run : Nat → State} (h : Fr m s0 s) (hr : ∀ w, Fr m s0 (run w)) :
    Fr m s0 (s.atEntry k kind run) := by
  unfold State.atEntry
  repeat' first | assumption | exact hr _ | with_reducible apply fr_jigFail (wt hm) | split

theorem fr_issueEntry {m : Nat} (hm : Within 65794 m) {s0 s : State} {a1 a2} (h : Fr m s0 s) : Fr m s0 (State.issueEntry s a1 a2) := by
  unfold State.issueEntry
  split; split; split
  with_reducible (apply fr_resumePort (wt hm); assumption; assumption; assumption; apply fr_atEntry (wt hm); assumption); intro _
  dsimp only; with_reducible (apply fr_runSweep (wt hm); assumption)

theorem fr_execCorr4 {m : Nat} (hm : Within 65794 m) {s0 s : State} {a0} (h : Fr m s0 s) : FrR m s0 (execCorr4 a0 s) := by
  unfold execCorr4
  with_reducible (apply frR_inst; apply frR_next; apply fr_issueEntry (wt hm); assumption)

theorem fr_execCorr8 {m : Nat} (hm : Within 65794 m) {s0 s : State} {a0} (h : Fr m s0 s) : FrR m s0 (execCorr8 a0 s) := by
  unfold execCorr8
  with_reducible (apply frR_inst; apply frR_next; apply fr_issueEntry (wt hm); assumption)

theorem fr_execBeam4 {m : Nat} (hm : Within 65794 m) {s0 s : State} {a0} (h : Fr m s0 s) : FrR m s0 (execBeam4 a0 s) := by
  unfold execBeam4
  with_reducible (apply frR_inst; apply frR_next; apply fr_issueEntry (wt hm); assumption)

theorem fr_execBeam8 {m : Nat} (hm : Within 65794 m) {s0 s : State} {a0} (h : Fr m s0 s) : FrR m s0 (execBeam8 a0 s) := by
  unfold execBeam8
  with_reducible (apply frR_inst; apply frR_next; apply fr_issueEntry (wt hm); assumption)

theorem fr_execXreg {m : Nat} (hm : Within 65794 m) {s0 s : State} {a0} (h : Fr m s0 s) : FrR m s0 (execXreg a0 s) := by
  unfold execXreg
  with_reducible (apply frR_inst; apply frR_next; apply fr_issueEntry (wt hm); assumption)

theorem fr_execZero {m : Nat} (hm : Within 65794 m) {s0 s : State} {a0} (h : Fr m s0 s) : FrR m s0 (execZero a0 s) := by
  unfold execZero
  with_reducible (apply frR_inst; apply frR_next; apply fr_issueEntry (wt hm); assumption)

theorem fr_execDump {m : Nat} (hm : Within 65794 m) {s0 s : State} {a0} (h : Fr m s0 s) : FrR m s0 (execDump a0 s) := by
  unfold execDump
  with_reducible (apply frR_inst; apply frR_next; apply fr_issueEntry (wt hm); assumption)

theorem fr_fencePass {m : Nat} (hm : Within 65794 m) {s0 s : State} {a1 a2} (h : Fr m s0 s) : Fr m s0 (State.fencePass s a1 a2) := by
  unfold State.fencePass
  dsimp only; with_reducible (apply fr_lateSwap (wt hm); apply fr_setRun (wt hm); apply fr_nextEntry (wt hm)); split
  with_reducible (apply fr_fire (wt hm); assumption; assumption)

theorem fr_execCutFence {m : Nat} (hm : Within 65794 m) {s0 s : State} {a0} (h : Fr m s0 s) : FrR m s0 (execCutFence a0 s) := by
  unfold execCutFence
  with_reducible (apply frR_inst; apply frR_next; apply fr_atEntry (wt hm); assumption); intro _; split
  with_reducible (apply fr_jigFail (wt hm); assumption); split
  with_reducible (apply fr_setRun (wt hm); assumption; apply fr_fencePass (wt hm); assumption)

theorem fr_execFencePass {m : Nat} (hm : Within 65794 m) {s0 s : State} {a0} (h : Fr m s0 s) : FrR m s0 (execFencePass a0 s) := by
  unfold execFencePass
  with_reducible apply frR_inst; split; split; split
  with_reducible (apply frR_next; assumption; apply frR_next; apply fr_fencePass (wt hm); assumption; apply frR_next; assumption)
  with_reducible (apply frR_next; assumption)

theorem fr_control {m : Nat} (hm : Within 65794 m) {s0 s : State} {k code : Nat} {run : Nat → State} (h : Fr m s0 s) (hr : ∀ w, Fr m s0 (run w)) :
    Fr m s0 (s.control k code run) := by
  unfold State.control
  apply fr_atEntry (wt hm) h
  intro w
  split
  · exact hr w
  · exact (fr_jigFail (wt hm)) h

theorem fr_jigEnd {m : Nat} (hm : Within 258 m) {s0 s : State} {a1} (h : Fr m s0 s) : Fr m s0 (State.jigEnd s a1) := by
  unfold State.jigEnd
  with_reducible (apply fr_fire (wt hm); apply fr_setRun (wt hm); assumption)

theorem fr_execCutEnd {m : Nat} (hm : Within 65794 m) {s0 s : State} {a0} (h : Fr m s0 s) : FrR m s0 (execCutEnd a0 s) := by
  unfold execCutEnd
  with_reducible apply frR_inst; split
  with_reducible (apply frR_next; apply fr_jigEnd (wt hm); assumption; apply frR_next; apply fr_control (wt hm); assumption); intro _
  with_reducible (apply fr_jigEnd (wt hm); assumption)

theorem fr_execCutWaitStep {m : Nat} (hm : Within 196866 m) {s0 s : State} {a0} (h : Fr m s0 s) : FrR m s0 (execCutWaitStep a0 s) := by
  unfold execCutWaitStep
  with_reducible (apply frR_inst; apply frR_next; apply fr_control (wt hm); assumption); intro _; split
  with_reducible (apply fr_nextEntry (wt hm); apply fr_modJig (wt hm); assumption); split
  with_reducible (apply fr_stepTaken (wt hm); assumption; apply fr_setRun (wt hm); assumption)

theorem fr_execCutJump {m : Nat} (hm : Within 65794 m) {s0 s : State} {a0} (h : Fr m s0 s) : FrR m s0 (execCutJump a0 s) := by
  unfold execCutJump
  with_reducible (apply frR_inst; apply frR_next; apply fr_control (wt hm); assumption); intro _; split
  with_reducible (apply fr_goto (wt hm); assumption; apply fr_jigFail (wt hm); assumption)

theorem fr_execCutIfStep {m : Nat} (hm : Within 65794 m) {s0 s : State} {a0} (h : Fr m s0 s) : FrR m s0 (execCutIfStep a0 s) := by
  unfold execCutIfStep
  with_reducible (apply frR_inst; apply frR_next; apply fr_control (wt hm); assumption); intro _; split
  with_reducible (apply fr_jigFail (wt hm); assumption); split
  with_reducible (apply fr_goto (wt hm); assumption; apply fr_nextEntry (wt hm); assumption)

theorem fr_execCutLoop {m : Nat} (hm : Within 65794 m) {s0 s : State} {a0} (h : Fr m s0 s) : FrR m s0 (execCutLoop a0 s) := by
  unfold execCutLoop
  with_reducible (apply frR_inst; apply frR_next; apply fr_control (wt hm); assumption); intro _; dsimp only; split
  with_reducible (apply fr_jigFail (wt hm); assumption; apply fr_nextEntry (wt hm); apply fr_modJig (wt hm); assumption)

theorem fr_execCutEndloop {m : Nat} (hm : Within 65794 m) {s0 s : State} {a0} (h : Fr m s0 s) : FrR m s0 (execCutEndloop a0 s) := by
  unfold execCutEndloop
  with_reducible (apply frR_inst; apply frR_next; apply fr_control (wt hm); assumption); intro _; split
  with_reducible (apply fr_jigFail (wt hm); assumption); split
  with_reducible (apply fr_goto (wt hm); apply fr_modJig (wt hm); assumption; apply fr_nextEntry (wt hm); apply fr_modJig (wt hm))
  with_reducible assumption

theorem fr_waitEvent {m : Nat} (hm : Within 65794 m) {s0 s : State} {a1} (h : Fr m s0 s) : Fr m s0 (State.waitEvent s a1) := by
  unfold State.waitEvent
  split
  with_reducible (apply fr_lateSwap (wt hm); apply fr_setRun (wt hm); apply fr_nextEntry (wt hm); apply fr_takeInput (wt hm); assumption)
  with_reducible (apply fr_setRun (wt hm); assumption)

theorem fr_goEvent {m : Nat} (hm : Within 65794 m) {s0 s : State} {a1} (h : Fr m s0 s) : Fr m s0 (State.goEvent s a1) := by
  unfold State.goEvent
  split; with_reducible (apply fr_waitEvent (wt hm); assumption; assumption)

theorem fr_execCutWaitEvt {m : Nat} (hm : Within 65794 m) {s0 s : State} {a0} (h : Fr m s0 s) : FrR m s0 (execCutWaitEvt a0 s) := by
  unfold execCutWaitEvt
  with_reducible apply frR_inst; split
  with_reducible (apply frR_next; apply fr_goEvent (wt hm); assumption; apply frR_next; apply fr_control (wt hm); assumption); intro _
  with_reducible (apply fr_waitEvent (wt hm); assumption)

theorem fr_execCutEvent {m : Nat} (hm : Within 65794 m) {s0 s : State} {a0} (h : Fr m s0 s) : FrR m s0 (execCutEvent a0 s) := by
  unfold execCutEvent
  with_reducible (apply frR_inst; apply frR_next; apply fr_control (wt hm); assumption); intro _
  with_reducible (apply fr_nextEntry (wt hm); apply fr_fire (wt hm); assumption)

theorem fr_cmdJigRestart {m : Nat} (hm : Within 196610 m) {s0 s : State} {a0} (h : Fr m s0 s) : FrV m s0 (cmdJigRestart a0 s) := by
  unfold cmdJigRestart
  split; dsimp only; with_reducible (apply frV_ok; apply fr_releaseHalves (wt hm); apply fr_setRun (wt hm); apply fr_setReg (wt hm))
  with_reducible (apply fr_setReg (wt hm); apply fr_goto (wt hm); apply fr_modJig (wt hm); assumption; apply frV_error)

theorem fr_jigOn {m : Nat} (hm : Within 196610 m) {s0 s : State} {a1} (h : Fr m s0 s) : Fr m s0 (State.jigOn s a1) := by
  unfold State.jigOn
  dsimp only; with_reducible (apply fr_halfReady (wt hm); apply fr_setRun (wt hm); apply fr_setReg (wt hm); apply fr_setReg (wt hm))
  with_reducible (apply fr_goto (wt hm); apply fr_modJig (wt hm); assumption)

theorem fr_jigOff {m : Nat} (hm : Within 196610 m) {s0 s : State} {a1} (h : Fr m s0 s) : Fr m s0 (State.jigOff s a1) := by
  unfold State.jigOff
  dsimp only; with_reducible (apply fr_setRun (wt hm); apply fr_each; apply fr_modJig (wt hm); assumption); intro _ _ _
  with_reducible (apply fr_setHalf (wt hm); assumption)

theorem fr_jigDisabling {m : Nat} (hm : Within 196610 m) {s0 s : State} {a1} (h : Fr m s0 s) : Fr m s0 (State.jigDisabling s a1) := by
  unfold State.jigDisabling
  with_reducible (apply fr_releaseHalves (wt hm); apply fr_setRun (wt hm); apply fr_modJig (wt hm); assumption)

theorem fr_cutListLive {m : Nat} (hm : Within 65538 m) {s0 s : State} {a1 a2} (h : Fr m s0 s) : Fr m s0 (State.cutListLive s a1 a2) := by
  unfold State.cutListLive
  split; with_reducible assumption; dsimp only; split; with_reducible (apply fr_modJig (wt hm); assumption); split
  with_reducible (apply fr_modJig (wt hm); apply fr_modJig (wt hm); assumption; apply fr_swapList (wt hm); apply fr_modJig (wt hm))
  with_reducible (apply fr_modJig (wt hm); assumption)

end Sys2Proof.Machine
end

