-- ==== Sys2Proof/Laws/FrameTiles.lean ====
section
/-! SUPPORT. What the definitions of Machine/Tiles.lean leave alone (Fr). -/

set_option Elab.async false

namespace Sys2Proof.Machine

theorem fr_setTile {m : Nat} (hm : Within 65536 m) {s0 s : State} {a1 a2} (h : Fr m s0 s) : Fr m s0 (State.setTile s a1 a2) := by
  unfold State.setTile
  apply fr_mk_xarray (wt hm); with_reducible assumption

theorem fr_setReseats {m : Nat} (hm : Within 65536 m) {s0 s : State} {a1 a2} (h : Fr m s0 s) : Fr m s0 (State.setReseats s a1 a2) := by
  unfold State.setReseats
  apply fr_mk_xarray (wt hm); with_reducible assumption

theorem fr_pullReads {m : Nat} (hm : Within 558879 m) {s0 s : State} {a1} (h : Fr m s0 s) : Fr m s0 (State.pullReads s a1) := by
  unfold State.pullReads
  split; split; with_reducible (assumption; apply fr_each; assumption); intro _ _ _
  with_reducible (apply fr_rankReads (wt hm); assumption; apply fr_each; assumption); intro _ _ _
  with_reducible (apply fr_readRange (wt hm); assumption)

theorem fr_pullOrder {m : Nat} (hm : Within 755487 m) {s0 s : State} {a1} (h : Fr m s0 s) : Fr m s0 (State.pullOrder s a1) := by
  unfold State.pullOrder
  with_reducible (apply fr_releaseHalves (wt hm); apply fr_modOrder (wt hm); apply fr_pullReads (wt hm); assumption)

theorem fr_makeSpaceFor {m : Nat} (hm : Within 65536 m) {s0 s : State} {a1} (h : Fr m s0 s) : Fr m s0 (State.makeSpaceFor s a1) := by
  unfold State.makeSpaceFor
  split; with_reducible (assumption; apply fr_setOrders (wt hm); assumption)

theorem fr_pullAhead {m : Nat} (hm : Within 755487 m) {s0 s : State} {a1} (h : Fr m s0 s) : Fr m s0 (State.pullAhead s a1) := by
  unfold State.pullAhead
  split; split; with_reducible (assumption; apply fr_pullOrder (wt hm); assumption; assumption)

theorem fr_commitOrder {m : Nat} (hm : Within 196610 m) {s0 s : State} {a1 a2} (h : Fr m s0 s) : Fr m s0 (State.commitOrder s a1 a2) := by
  unfold State.commitOrder
  with_reducible (apply fr_releaseHalves (wt hm); apply fr_inc64 (wt hm); apply fr_modOrder (wt hm); assumption)

theorem fr_dumpRead {m : Nat} (hm : Within 755487 m) {s0 s : State} {a1 a2 a3} (h : Fr m s0 s) : Fr m s0 (State.dumpRead s a1 a2 a3) := by
  unfold State.dumpRead
  dsimp only; split; with_reducible (apply fr_commitOrder (wt hm); apply fr_inc64 (wt hm)); apply fr_mk_xarray (wt hm)
  with_reducible apply fr_setAcc (wt hm); split; split; with_reducible apply fr_inc64 (wt hm); split
  with_reducible (apply fr_readRange (wt hm); apply fr_granaryEcc (wt hm); assumption; apply fr_granaryEcc (wt hm); assumption); split
  with_reducible (apply fr_readRange (wt hm); apply fr_granaryEcc (wt hm); assumption; apply fr_granaryEcc (wt hm); assumption); split
  with_reducible apply fr_inc64 (wt hm); split
  with_reducible (apply fr_readRange (wt hm); apply fr_granaryEcc (wt hm); assumption; apply fr_granaryEcc (wt hm); assumption); split
  with_reducible (apply fr_readRange (wt hm); apply fr_granaryEcc (wt hm); assumption; apply fr_granaryEcc (wt hm); assumption)
  with_reducible (apply fr_commitOrder (wt hm); apply fr_inc64 (wt hm)); apply fr_mk_xarray (wt hm); split
  with_reducible (apply fr_setAcc (wt hm); apply fr_granaryEcc (wt hm); assumption; apply fr_granaryEcc (wt hm); assumption)

theorem fr_startOrder {m : Nat} (hm : Within 755487 m) {s0 s : State} {a1 a2 a3} (h : Fr m s0 s) : Fr m s0 (State.startOrder s a1 a2 a3) := by
  unfold State.startOrder
  dsimp only; with_reducible (apply fr_wakePort (wt hm); apply fr_pullAhead (wt hm)); split
  with_reducible (apply fr_commitOrder (wt hm); apply fr_clearBin (wt hm); apply fr_releaseHalves (wt hm); apply fr_modOrder (wt hm))
  split; with_reducible (assumption; apply fr_pullOrder (wt hm); apply fr_makeSpaceFor (wt hm); assumption); split; split; split
  with_reducible (apply fr_releaseHalves (wt hm); apply fr_modOrder (wt hm); assumption; apply fr_dumpRead (wt hm))
  with_reducible (apply fr_releaseHalves (wt hm); apply fr_modOrder (wt hm); assumption); split
  with_reducible (apply fr_releaseHalves (wt hm); apply fr_modOrder (wt hm); apply fr_pullOrder (wt hm); apply fr_makeSpaceFor (wt hm))
  with_reducible (assumption; apply fr_dumpRead (wt hm); apply fr_releaseHalves (wt hm); apply fr_modOrder (wt hm))
  with_reducible (apply fr_pullOrder (wt hm); apply fr_makeSpaceFor (wt hm); assumption; apply fr_releaseHalves (wt hm))
  with_reducible apply fr_modOrder (wt hm); split
  with_reducible (assumption; apply fr_pullOrder (wt hm); apply fr_makeSpaceFor (wt hm); assumption)

theorem fr_execWorkOrderStart {m : Nat} (hm : Within 755487 m) {s0 s : State} {a0 a1} (h : Fr m s0 s) : FrR m s0 (execWorkOrderStart a0 a1 s) := by
  unfold execWorkOrderStart
  with_reducible apply frR_inst; split; with_reducible (apply frR_next; assumption); split; split
  with_reducible (apply frR_next; assumption; apply frR_next; apply fr_startOrder (wt hm); assumption; apply frR_next; assumption)

theorem fr_execClassUYield {m : Nat} (hm : Within 65538 m) {s0 s : State} {a0} (h : Fr m s0 s) : FrR m s0 (execClassUYield a0 s) := by
  unfold execClassUYield
  with_reducible apply frR_inst; split; with_reducible (apply frR_next; assumption); split; split
  with_reducible (apply frR_next; apply fr_inc64 (wt hm); apply fr_modOrder (wt hm); assumption; apply frR_next; assumption)
  with_reducible (apply frR_next; assumption)

theorem fr_execPassOverflow {m : Nat} (hm : Within 65794 m) {s0 s : State} {a0} (h : Fr m s0 s) : FrR m s0 (execPassOverflow a0 s) := by
  unfold execPassOverflow
  with_reducible apply frR_inst; split; split
  with_reducible (apply frR_next; apply fr_countE (wt hm); apply fr_inc64 (wt hm); apply fr_inc64 (wt hm); apply fr_modOrder (wt hm))
  with_reducible (assumption; apply frR_next; assumption; apply frR_next; assumption)

theorem fr_execPassComplete {m : Nat} (hm : Within 591619 m) {s0 s : State} {a0} (h : Fr m s0 s) : FrR m s0 (execPassComplete a0 s) := by
  unfold execPassComplete
  with_reducible apply frR_inst; split; dsimp only; split; split; with_reducible (apply frR_next; assumption; apply frR_next); split
  with_reducible (apply fr_faultDone (wt hm); apply fr_modOrder (wt hm)); split
  with_reducible (apply fr_inc64 (wt hm); apply fr_setTile (wt hm); assumption; apply fr_setTile (wt hm); assumption)
  with_reducible apply fr_modOrder (wt hm); split
  with_reducible (apply fr_inc64 (wt hm); apply fr_setTile (wt hm); assumption; apply fr_setTile (wt hm); assumption; apply frR_next)
  with_reducible (assumption; apply frR_next; assumption)

theorem fr_freeBank {m : Nat} (hm : Within 65536 m) {s0 s : State} {a1 a2} (h : Fr m s0 s) : Fr m s0 (State.freeBank s a1 a2) := by
  unfold State.freeBank
  dsimp only; with_reducible (apply fr_setTile (wt hm); assumption)

theorem fr_foldBank {m : Nat} (hm : Within 65538 m) {s0 s : State} {a1 a2 a3} (h : Fr m s0 s) : Fr m s0 (State.foldBank s a1 a2 a3) := by
  unfold State.foldBank
  dsimp only; split; with_reducible (apply fr_inc32 (wt hm); apply fr_setAcc (wt hm); apply fr_setAcc (wt hm); assumption); split
  with_reducible apply fr_inc32 (wt hm); split; with_reducible apply fr_inc64 (wt hm); split; with_reducible apply fr_inc64 (wt hm); split
  with_reducible (apply fr_inc64 (wt hm); apply fr_inc64 (wt hm); apply fr_inc64 (wt hm); apply fr_setAcc (wt hm); assumption)
  with_reducible (apply fr_inc64 (wt hm); apply fr_inc64 (wt hm); apply fr_setAcc (wt hm); assumption); split
  with_reducible (apply fr_inc64 (wt hm); apply fr_inc64 (wt hm); apply fr_inc64 (wt hm); apply fr_setAcc (wt hm); assumption)
  with_reducible (apply fr_inc64 (wt hm); apply fr_inc64 (wt hm); apply fr_setAcc (wt hm); assumption); split
  with_reducible apply fr_inc64 (wt hm); split
  with_reducible (apply fr_inc64 (wt hm); apply fr_inc64 (wt hm); apply fr_inc64 (wt hm); apply fr_setAcc (wt hm); assumption)
  with_reducible (apply fr_inc64 (wt hm); apply fr_inc64 (wt hm); apply fr_setAcc (wt hm); assumption); split
  with_reducible (apply fr_inc64 (wt hm); apply fr_inc64 (wt hm); apply fr_inc64 (wt hm); apply fr_setAcc (wt hm); assumption)
  with_reducible (apply fr_inc64 (wt hm); apply fr_inc64 (wt hm); apply fr_setAcc (wt hm); assumption); split
  with_reducible apply fr_inc64 (wt hm); split; with_reducible apply fr_inc64 (wt hm); split
  with_reducible (apply fr_inc64 (wt hm); apply fr_inc64 (wt hm); apply fr_inc64 (wt hm); apply fr_setAcc (wt hm); assumption)
  with_reducible (apply fr_inc64 (wt hm); apply fr_inc64 (wt hm); apply fr_setAcc (wt hm); assumption); split
  with_reducible (apply fr_inc64 (wt hm); apply fr_inc64 (wt hm); apply fr_inc64 (wt hm); apply fr_setAcc (wt hm); assumption)
  with_reducible (apply fr_inc64 (wt hm); apply fr_inc64 (wt hm); apply fr_setAcc (wt hm); assumption); split
  with_reducible apply fr_inc64 (wt hm); split
  with_reducible (apply fr_inc64 (wt hm); apply fr_inc64 (wt hm); apply fr_inc64 (wt hm); apply fr_setAcc (wt hm); assumption)
  with_reducible (apply fr_inc64 (wt hm); apply fr_inc64 (wt hm); apply fr_setAcc (wt hm); assumption); split
  with_reducible (apply fr_inc64 (wt hm); apply fr_inc64 (wt hm); apply fr_inc64 (wt hm); apply fr_setAcc (wt hm); assumption)
  with_reducible (apply fr_inc64 (wt hm); apply fr_inc64 (wt hm); apply fr_setAcc (wt hm); assumption)

theorem fr_foldEnd {m : Nat} (hm : Within 755487 m) {s0 s : State} {a1 a2 a3 a4} (h : Fr m s0 s) : Fr m s0 (State.foldEnd s a1 a2 a3 a4) := by
  unfold State.foldEnd
  with_reducible (apply fr_pullAhead (wt hm); apply fr_commitOrder (wt hm); apply fr_freeBank (wt hm); apply fr_foldBank (wt hm))
  with_reducible assumption

theorem fr_foldStep {m : Nat} (hm : Within 755487 m) {s0 s : State} {a1 a2 a3 a4} (h : Fr m s0 s) : Fr m s0 (State.foldStep s a1 a2 a3 a4) := by
  unfold State.foldStep
  split; with_reducible (apply fr_inc64 (wt hm); apply fr_freeBank (wt hm); assumption); dsimp only; split; split; split
  with_reducible (apply fr_modOrder (wt hm); apply fr_granaryEcc (wt hm); assumption; apply fr_inc64 (wt hm); apply fr_modOrder (wt hm))
  with_reducible (apply fr_setTile (wt hm); apply fr_granaryEcc (wt hm); assumption; apply fr_foldEnd (wt hm))
  with_reducible (apply fr_granaryEcc (wt hm); assumption); split; split
  with_reducible (apply fr_modOrder (wt hm); apply fr_granaryEcc (wt hm); assumption; apply fr_inc64 (wt hm); apply fr_modOrder (wt hm))
  with_reducible (apply fr_setTile (wt hm); apply fr_granaryEcc (wt hm); assumption; apply fr_foldEnd (wt hm))
  with_reducible (apply fr_granaryEcc (wt hm); assumption)

theorem fr_execFoldComplete {m : Nat} (hm : Within 755487 m) {s0 s : State} {a0 a1} (h : Fr m s0 s) : FrR m s0 (execFoldComplete a0 a1 s) := by
  unfold execFoldComplete
  with_reducible apply frR_inst; split; with_reducible (apply frR_next; apply fr_foldStep (wt hm); assumption; apply frR_next; assumption)

theorem fr_spillHalf {m : Nat} (hm : Within 624415 m) {s0 s : State} {a1 a2 a3 a4 a5} (h : Fr m s0 s) : Fr m s0 (State.spillHalf s a1 a2 a3 a4 a5) := by
  unfold State.spillHalf
  dsimp only; split; split; split; with_reducible apply fr_setAcc (wt hm); split
  with_reducible (apply fr_inc64 (wt hm); apply fr_store (wt hm); apply fr_readRange (wt hm); assumption; apply fr_store (wt hm))
  with_reducible (apply fr_readRange (wt hm); assumption; apply fr_setAcc (wt hm); apply fr_readRange (wt hm); assumption); split
  with_reducible apply fr_setAcc (wt hm); split
  with_reducible (apply fr_inc64 (wt hm); apply fr_store (wt hm); assumption; apply fr_store (wt hm); assumption)
  with_reducible (apply fr_setAcc (wt hm); assumption; apply fr_setAcc (wt hm)); split
  with_reducible (apply fr_readRange (wt hm); assumption; assumption)

theorem fr_execSpillComplete {m : Nat} (hm : Within 755487 m) {s0 s : State} {a0 a1} (h : Fr m s0 s) : FrR m s0 (execSpillComplete a0 a1 s) := by
  unfold execSpillComplete
  with_reducible apply frR_inst; split; with_reducible (apply frR_next; assumption); dsimp only; split
  with_reducible (apply frR_next; apply fr_foldEnd (wt hm); apply fr_setTile (wt hm); apply fr_spillHalf (wt hm))
  with_reducible (apply fr_granaryEcc (wt hm); assumption; apply frR_next; apply fr_inc64 (wt hm); apply fr_freeBank (wt hm))
  with_reducible (apply fr_setTile (wt hm); apply fr_spillHalf (wt hm); apply fr_granaryEcc (wt hm); assumption)

theorem fr_execWorkOrderComplete {m : Nat} (hm : Within 196610 m) {s0 s : State} {a0} (h : Fr m s0 s) : FrR m s0 (execWorkOrderComplete a0 s) := by
  unfold execWorkOrderComplete
  with_reducible apply frR_inst; split; dsimp only; split
  with_reducible (apply frR_next; apply fr_inc64 (wt hm); apply fr_modOrder (wt hm); assumption; apply frR_next)
  with_reducible (apply fr_releaseHalves (wt hm); apply fr_inc64 (wt hm); apply fr_setOrders (wt hm); assumption; apply frR_next)
  with_reducible assumption

theorem fr_showBay {m : Nat} (hm : Within 2 m) {s0 s : State} {a1} (h : Fr m s0 s) : Fr m s0 (State.showBay s a1) := by
  unfold State.showBay
  dsimp only
  with_reducible (apply fr_setReg (wt hm); apply fr_setReg (wt hm); apply fr_setReg (wt hm); apply fr_setReg (wt hm); assumption)

theorem fr_setTileState {m : Nat} (hm : Within 2 m) {s0 s : State} {a1 a2 a3 a4} (h : Fr m s0 s) : Fr m s0 (State.setTileState s a1 a2 a3 a4) := by
  unfold State.setTileState
  with_reducible (apply fr_setReg (wt hm); apply fr_setReg (wt hm); apply fr_setReg (wt hm); assumption)

theorem fr_retireTile {m : Nat} (hm : Within 65538 m) {s0 s : State} {a1 a2 a3} (h : Fr m s0 s) : Fr m s0 (State.retireTile s a1 a2 a3) := by
  unfold State.retireTile
  with_reducible (apply fr_setTileState (wt hm); apply fr_setTile (wt hm); assumption)

theorem fr_setPlacement {m : Nat} (hm : Within 2 m) {s0 s : State} {a1 a2 a3} (h : Fr m s0 s) : Fr m s0 (State.setPlacement s a1 a2 a3) := by
  unfold State.setPlacement
  with_reducible (apply fr_setReg (wt hm); assumption)

theorem fr_bumpEpoch {m : Nat} (hm : Within 2 m) {s0 s : State} {a1} (h : Fr m s0 s) : Fr m s0 (State.bumpEpoch s a1) := by
  unfold State.bumpEpoch
  with_reducible (apply fr_setPlacement (wt hm); assumption)

theorem fr_returnOrders {m : Nat} (hm : Within 65536 m) {s0 s : State} {a1} (h : Fr m s0 s) : Fr m s0 (State.returnOrders s a1) := by
  unfold State.returnOrders
  dsimp only; with_reducible (apply fr_setOrders (wt hm); assumption)

theorem fr_discardOrders {m : Nat} (hm : Within 196866 m) {s0 s : State} {a1} (h : Fr m s0 s) : Fr m s0 (State.discardOrders s a1) := by
  unfold State.discardOrders
  dsimp only; with_reducible (apply fr_wakePort (wt hm); apply fr_each; apply fr_each; apply fr_setOrders (wt hm); assumption)
  intro _ _ _; split; with_reducible apply fr_inc64 (wt hm); apply fr_mk_xarray (wt hm)
  with_reducible (apply fr_inc32 (wt hm); apply fr_inc64 (wt hm); assumption; apply fr_inc32 (wt hm); apply fr_inc64 (wt hm); assumption)
  intro _ _ _; with_reducible (apply fr_releaseHalves (wt hm); assumption)

theorem fr_unplace {m : Nat} (hm : Within 722691 m) {s0 s : State} {a1 a2 a3} (h : Fr m s0 s) : Fr m s0 (State.unplace s a1 a2 a3) := by
  unfold State.unplace
  dsimp only; with_reducible (apply fr_showBay (wt hm); apply fr_faultDone (wt hm); apply fr_fire (wt hm); apply fr_discardOrders (wt hm))
  with_reducible (apply fr_retireTile (wt hm); apply fr_setPlacement (wt hm); assumption)

theorem fr_startReseat {m : Nat} (hm : Within 722691 m) {s0 s : State} {bay fuel : Nat} (h : Fr m s0 s) : Fr m s0 (s.startReseat bay fuel) := by
  induction fuel generalizing s with
  | zero => exact h
  | succ n ih =>
    unfold State.startReseat
    split
    · exact (fr_setReg (wt hm)) h
    · split
      · exact h
      · split
        · exact (fr_setReg (wt hm)) ((fr_setReseats (wt hm)) h)
        · apply ih
          split
          · exact (fr_unplace (wt hm)) ((fr_setReseats (wt hm)) h)
          · exact (fr_setReseats (wt hm)) h

theorem fr_failServing {m : Nat} (hm : Within 722691 m) {s0 s : State} {a1 a2 a3} (h : Fr m s0 s) : Fr m s0 (State.failServing s a1 a2 a3) := by
  unfold State.failServing
  dsimp only
  with_reducible (apply fr_startReseat (wt hm); apply fr_setReseats (wt hm); apply fr_returnOrders (wt hm); apply fr_bumpEpoch (wt hm))
  split; with_reducible (apply fr_faultDone (wt hm); assumption; assumption)

theorem fr_failIdle {m : Nat} (hm : Within 722691 m) {s0 s : State} {a1 a2} (h : Fr m s0 s) : Fr m s0 (State.failIdle s a1 a2) := by
  unfold State.failIdle
  dsimp only; with_reducible (apply fr_startReseat (wt hm); apply fr_showBay (wt hm); apply fr_setReseats (wt hm); apply fr_each)
  with_reducible (apply fr_faultDone (wt hm); apply fr_setTileState (wt hm); assumption); intro _ _ _
  with_reducible (apply fr_bumpEpoch (wt hm); assumption)

theorem fr_failAs {m : Nat} (hm : Within 722691 m) {s0 s : State} {a1 a2 a3} (h : Fr m s0 s) : Fr m s0 (State.failAs s a1 a2 a3) := by
  unfold State.failAs
  split; with_reducible (apply fr_failServing (wt hm); assumption; apply fr_failIdle (wt hm); assumption)

theorem fr_tileFail {m : Nat} (hm : Within 722691 m) {s0 s : State} {a1 a2} (h : Fr m s0 s) : Fr m s0 (State.tileFail s a1 a2) := by
  unfold State.tileFail
  dsimp only; with_reducible (apply fr_failAs (wt hm); apply fr_faultStart (wt hm); assumption)

theorem fr_execTileFail {m : Nat} (hm : Within 722691 m) {s0 s : State} {a0 a1} (h : Fr m s0 s) : FrR m s0 (execTileFail a0 a1 s) := by
  unfold execTileFail
  with_reducible apply frR_inst; split; with_reducible (apply frR_next; apply fr_tileFail (wt hm); assumption; apply frR_next; assumption)

theorem fr_execResidueMismatch {m : Nat} (hm : Within 722691 m) {s0 s : State} {a0} (h : Fr m s0 s) : FrR m s0 (execResidueMismatch a0 s) := by
  unfold execResidueMismatch
  with_reducible apply frR_inst; split; split; with_reducible (apply frR_next; assumption); split
  with_reducible (apply frR_next; apply fr_tileFail (wt hm); assumption); split
  with_reducible (apply frR_next; apply fr_tileFail (wt hm); assumption); dsimp only
  with_reducible (apply frR_next; apply fr_countE (wt hm); apply fr_inc64 (wt hm); apply fr_faultStart (wt hm))
  with_reducible (apply fr_modOrder (wt hm); apply fr_setTile (wt hm); assumption; apply frR_next; assumption)

theorem fr_copyTile {m : Nat} (hm : Within 65536 m) {s0 s : State} {a1 a2} (h : Fr m s0 s) : Fr m s0 (State.copyTile s a1 a2) := by
  unfold State.copyTile
  dsimp only; apply fr_mk_xarray (wt hm); with_reducible assumption

theorem fr_voidBins {m : Nat} (hm : Within 65536 m) {s0 s : State} {a1} (h : Fr m s0 s) : Fr m s0 (State.voidBins s a1) := by
  unfold State.voidBins
  with_reducible (apply fr_each; assumption); intro _ _ _; with_reducible (apply fr_setAcc (wt hm); assumption)

theorem fr_oweWeights {m : Nat} (hm : Within 65536 m) {s0 s : State} {a1} (h : Fr m s0 s) : Fr m s0 (State.oweWeights s a1) := by
  unfold State.oweWeights
  dsimp only; apply fr_mk_xarray (wt hm); with_reducible assumption

theorem fr_reseatEnd {m : Nat} (hm : Within 722691 m) {s0 s : State} {a1 a2 a3 a4} (h : Fr m s0 s) : Fr m s0 (State.reseatEnd s a1 a2 a3 a4) := by
  unfold State.reseatEnd
  dsimp only; with_reducible (apply fr_startReseat (wt hm); apply fr_showBay (wt hm); apply fr_fire (wt hm); apply fr_inc32 (wt hm))
  with_reducible apply fr_setReseats (wt hm); split
  with_reducible (apply fr_faultDone (wt hm); apply fr_retireTile (wt hm); apply fr_setPlacement (wt hm); apply fr_setTileState (wt hm))
  with_reducible (apply fr_copyTile (wt hm); assumption; apply fr_oweWeights (wt hm); apply fr_setPlacement (wt hm))
  with_reducible (apply fr_setTileState (wt hm); apply fr_voidBins (wt hm); assumption)

theorem fr_execReseatComplete {m : Nat} (hm : Within 722691 m) {s0 s : State} {a0} (h : Fr m s0 s) : FrR m s0 (execReseatComplete a0 s) := by
  unfold execReseatComplete
  with_reducible apply frR_inst; split; split; split
  with_reducible (apply frR_next; assumption; apply frR_next; apply fr_reseatEnd (wt hm); assumption; apply frR_next; assumption)
  with_reducible (apply frR_next; assumption)

theorem fr_cmdRetest {m : Nat} (hm : Within 65536 m) {s0 s : State} {a0} (h : Fr m s0 s) : FrV m s0 (cmdRetest a0 s) := by
  unfold cmdRetest
  with_reducible apply frV_accept; apply fr_mk_xarray (wt hm); with_reducible assumption

theorem fr_execRetestComplete {m : Nat} (hm : Within 722691 m) {s0 s : State} {a0 a1} (h : Fr m s0 s) : FrR m s0 (execRetestComplete a0 a1 s) := by
  unfold execRetestComplete
  with_reducible apply frR_inst; split; dsimp only; split; split
  with_reducible (apply frR_next; apply fr_startReseat (wt hm); apply fr_setReseats (wt hm); apply fr_bumpEpoch (wt hm))
  with_reducible (apply fr_showBay (wt hm); apply fr_setTileState (wt hm)); apply fr_mk_retest (wt hm)
  with_reducible (assumption; apply frR_next; apply fr_showBay (wt hm); apply fr_setTileState (wt hm)); apply fr_mk_retest (wt hm)
  with_reducible (assumption; apply frR_next; apply fr_setReg (wt hm)); apply fr_mk_xarray (wt hm)
  with_reducible (assumption; apply frR_next; assumption)

theorem fr_xarrayAfter {m : Nat} (hm : Within 65536 m) {s0 s : State} {a1 a2 a3} (h : Fr m s0 s) : Fr m s0 (xarrayAfter s a1 a2 a3) := by
  unfold xarrayAfter
  split; dsimp only; with_reducible (apply fr_each; assumption); intro _ _ _; split
  with_reducible (apply fr_clearBin (wt hm); assumption; assumption; assumption)

end Sys2Proof.Machine
end

