-- ==== Sys2Proof/Laws/FrameOutputs.lean ====
section
/-! SUPPORT. What the definitions of Machine/Outputs.lean leave alone (Fr). -/

set_option Elab.async false

namespace Sys2Proof.Machine

theorem fr_modX {m : Nat} (hm : Within 65536 m) {s0 s : State} {a1} (h : Fr m s0 s) : Fr m s0 (State.modX s a1) := by
  unfold State.modX
  apply fr_mk_xarray (wt hm); with_reducible assumption

theorem fr_leavePath {m : Nat} (hm : Within 755487 m) {s0 s : State} {a1 a2} (h : Fr m s0 s) : Fr m s0 (State.leavePath s a1 a2) := by
  unfold State.leavePath
  dsimp only; split; split
  with_reducible (apply fr_dumpRead (wt hm); apply fr_modX (wt hm); assumption; apply fr_modX (wt hm); assumption; apply fr_modX (wt hm))
  with_reducible assumption

theorem fr_execDumpRecordStaged {m : Nat} (hm : Within 755487 m) {s0 s : State} {a0} (h : Fr m s0 s) : FrR m s0 (execDumpRecordStaged a0 s) := by
  unfold execDumpRecordStaged
  split; with_reducible (apply frR_next; assumption); split
  with_reducible (apply frR_next; apply fr_inc64 (wt hm); apply fr_leavePath (wt hm); assumption); split
  with_reducible (apply frR_next; assumption); dsimp only
  with_reducible (apply frR_next; apply fr_leavePath (wt hm); apply fr_store (wt hm); apply fr_modX (wt hm); assumption)

theorem fr_freeStaged {m : Nat} (hm : Within 65536 m) {s0 s : State} {a1} (h : Fr m s0 s) : Fr m s0 (State.freeStaged s a1) := by
  unfold State.freeStaged
  with_reducible (apply fr_modX (wt hm); assumption)

theorem fr_readStaged {m : Nat} (hm : Within 558879 m) {s0 s : State} {a1} (h : Fr m s0 s) : Fr m s0 (State.readStaged s a1) := by
  unfold State.readStaged
  with_reducible (apply fr_readRange (wt hm); assumption)

theorem fr_sendFragments {m : Nat} (hm : Within 262146 m) {s0 s : State} {a1 a2 a3} (h : Fr m s0 s) : Fr m s0 (State.sendFragments s a1 a2 a3) := by
  unfold State.sendFragments
  dsimp only; with_reducible (apply fr_setStream (wt hm); assumption)

theorem fr_reformFragments {m : Nat} (hm : Within 262146 m) {s0 s : State} (h : Fr m s0 s) : Fr m s0 (State.reformFragments s) := by
  unfold State.reformFragments
  with_reducible (apply fr_each; assumption); intro _ _ _; split; split; split; dsimp only
  with_reducible (apply fr_setStream (wt hm); assumption; assumption; assumption; assumption)

theorem fr_execRecordFragmentsSend {m : Nat} (hm : Within 886559 m) {s0 s : State} {a0} (h : Fr m s0 s) : FrR m s0 (execRecordFragmentsSend a0 s) := by
  unfold execRecordFragmentsSend
  with_reducible apply frR_inst; split; with_reducible (apply frR_next; assumption); split; with_reducible (apply frR_next; assumption)
  split; with_reducible (apply frR_next; apply fr_inc64 (wt hm); apply fr_freeStaged (wt hm); assumption; apply frR_next; assumption)
  dsimp only; split
  with_reducible (apply frR_next; assumption; apply frR_next; apply fr_sendFragments (wt hm); apply fr_readStaged (wt hm); assumption)

theorem fr_formatVoltage {m : Nat} (hm : Within 262146 m) {s0 s : State} {a1 a2 a3 a4} (h : Fr m s0 s) : Fr m s0 (State.formatVoltage s a1 a2 a3 a4) := by
  unfold State.formatVoltage
  dsimp only
  with_reducible (apply fr_inc64 (wt hm); apply fr_inc64 (wt hm); apply fr_streamPut (wt hm); apply fr_streamPut (wt hm); assumption)

theorem fr_feedMonitors {m : Nat} (hm : Within 16386 m) {s0 s : State} {a1 a2 a3} (h : Fr m s0 s) : Fr m s0 (State.feedMonitors s a1 a2 a3) := by
  unfold State.feedMonitors
  with_reducible (apply fr_each; assumption); intro _ _ _; with_reducible (apply fr_each; assumption); intro _ _ _
  with_reducible (apply fr_winPush (wt hm); assumption)

theorem fr_closePower {m : Nat} (hm : Within 344066 m) {s0 s : State} {a1 a2 a3} (h : Fr m s0 s) : Fr m s0 (State.closePower s a1 a2 a3) := by
  unfold State.closePower
  dsimp only; with_reducible apply fr_feedMonitors (wt hm); split; split
  with_reducible (apply fr_each; apply fr_inc32 (wt hm); apply fr_modX (wt hm); assumption); intro _ _ _
  with_reducible (apply fr_streamPut (wt hm); assumption; apply fr_inc32 (wt hm); apply fr_modX (wt hm); assumption); split
  with_reducible (apply fr_each; apply fr_modX (wt hm); assumption); intro _ _ _
  with_reducible (apply fr_streamPut (wt hm); assumption; apply fr_modX (wt hm); assumption)

theorem fr_closeAll {m : Nat} (hm : Within 344066 m) {s0 s : State} {a1} (h : Fr m s0 s) : Fr m s0 (State.closeAll s a1) := by
  unfold State.closeAll
  with_reducible (apply fr_each; assumption); intro _ _ _; with_reducible (apply fr_closePower (wt hm); assumption)

theorem fr_contribute {m : Nat} (hm : Within 344066 m) {s0 s : State} {a1 a2 a3} (h : Fr m s0 s) : Fr m s0 (State.contribute s a1 a2 a3) := by
  unfold State.contribute
  dsimp only; split; split
  with_reducible (apply fr_closePower (wt hm); apply fr_modX (wt hm); assumption; apply fr_modX (wt hm); assumption)
  with_reducible (apply fr_modX (wt hm); assumption)

theorem fr_openPower {m : Nat} (hm : Within 344066 m) {s0 s : State} {a1 a2 a3} (h : Fr m s0 s) : Fr m s0 (State.openPower s a1 a2 a3) := by
  unfold State.openPower
  dsimp only; with_reducible (apply fr_modX (wt hm); apply fr_each; assumption); intro _ _ _
  with_reducible (apply fr_closePower (wt hm); assumption)

theorem fr_formatPower {m : Nat} (hm : Within 344066 m) {s0 s : State} {a1 a2 a3} (h : Fr m s0 s) : Fr m s0 (State.formatPower s a1 a2 a3) := by
  unfold State.formatPower
  split; with_reducible (apply fr_closeAll (wt hm); assumption); dsimp only; split; with_reducible (apply fr_inc64 (wt hm); assumption)
  split; with_reducible (apply fr_contribute (wt hm); apply fr_inc64 (wt hm); assumption); split
  with_reducible (apply fr_contribute (wt hm); apply fr_openPower (wt hm); apply fr_inc64 (wt hm); assumption; apply fr_inc32 (wt hm))
  with_reducible assumption

theorem fr_formatRecord {m : Nat} (hm : Within 344066 m) {s0 s : State} {a1 a2 a3 a4} (h : Fr m s0 s) : Fr m s0 (State.formatRecord s a1 a2 a3 a4) := by
  unfold State.formatRecord
  dsimp only; split; with_reducible (apply fr_inc32 (wt hm); assumption); split; with_reducible apply fr_formatPower (wt hm); split
  with_reducible apply fr_formatVoltage (wt hm); split; with_reducible (assumption; apply fr_inc64 (wt hm); assumption); split
  with_reducible (assumption; apply fr_inc64 (wt hm); assumption); split; with_reducible apply fr_formatVoltage (wt hm); split
  with_reducible (assumption; apply fr_inc64 (wt hm); assumption); split; with_reducible (assumption; apply fr_inc64 (wt hm); assumption)

theorem fr_execFormatRecord {m : Nat} (hm : Within 902943 m) {s0 s : State} {a0} (h : Fr m s0 s) : FrR m s0 (execFormatRecord a0 s) := by
  unfold execFormatRecord
  with_reducible apply frR_inst; split; with_reducible (apply frR_next; assumption); split; with_reducible (apply frR_next; assumption)
  dsimp only; split; split
  with_reducible (apply frR_next; apply fr_freeStaged (wt hm); apply fr_formatRecord (wt hm); apply fr_readStaged (wt hm); assumption)
  with_reducible (apply frR_next; assumption; apply frR_next; apply fr_inc64 (wt hm); apply fr_freeStaged (wt hm); assumption)
  with_reducible (apply frR_next; assumption)

theorem fr_formatterTurnsOff {m : Nat} (hm : Within 344066 m) {s0 s : State} (h : Fr m s0 s) : Fr m s0 (State.formatterTurnsOff s) := by
  unfold State.formatterTurnsOff
  with_reducible (apply fr_modX (wt hm); apply fr_each; assumption); intro _ _ _; with_reducible (apply fr_closeAll (wt hm); assumption)

theorem fr_keepWeights {m : Nat} (hm : Within 558363 m) {s0 s : State} {a1 a2 a3} (h : Fr m s0 s) : Fr m s0 (State.keepWeights s a1 a2 a3) := by
  unfold State.keepWeights
  split; with_reducible (assumption; apply fr_store (wt hm); assumption)

theorem fr_oweLoads {m : Nat} (hm : Within 65536 m) {s0 s : State} {a1 a2} (h : Fr m s0 s) : Fr m s0 (State.oweLoads s a1 a2) := by
  unfold State.oweLoads
  with_reducible (apply fr_modX (wt hm); assumption)

theorem fr_weightsLive {m : Nat} (hm : Within 623899 m) {s0 s : State} {a1 a2} (h : Fr m s0 s) : Fr m s0 (State.weightsLive s a1 a2) := by
  unfold State.weightsLive
  with_reducible (apply fr_oweLoads (wt hm); apply fr_keepWeights (wt hm); assumption)

theorem fr_moveWeights {m : Nat} (hm : Within 558363 m) {s0 s : State} (h : Fr m s0 s) : Fr m s0 (State.moveWeights s) := by
  unfold State.moveWeights
  with_reducible (apply fr_each; assumption); intro _ _ _; dsimp only; split
  with_reducible (apply fr_keepWeights (wt hm); apply fr_keepWeights (wt hm); assumption; apply fr_keepWeights (wt hm); assumption)

theorem fr_loadSlots {m : Nat} (hm : Within 624415 m) {s0 s : State} {a1 a2} (h : Fr m s0 s) : Fr m s0 (State.loadSlots s a1 a2) := by
  unfold State.loadSlots
  dsimp only; with_reducible (apply fr_each; assumption); intro _ _ _; split; split
  with_reducible (apply fr_readRange (wt hm); assumption; apply fr_inc64 (wt hm); apply fr_modX (wt hm); apply fr_readRange (wt hm))
  with_reducible assumption; split
  with_reducible (apply fr_readRange (wt hm); assumption; apply fr_inc64 (wt hm); apply fr_modX (wt hm); apply fr_readRange (wt hm))
  with_reducible assumption

theorem fr_execWeightLoad {m : Nat} (hm : Within 624415 m) {s0 s : State} {a0} (h : Fr m s0 s) : FrR m s0 (execWeightLoad a0 s) := by
  unfold execWeightLoad
  with_reducible apply frR_inst; split; with_reducible (apply frR_next; assumption); dsimp only; split
  with_reducible (apply frR_next; assumption); split; split
  with_reducible (apply frR_next; assumption; apply frR_next; apply fr_loadSlots (wt hm); apply fr_modX (wt hm); assumption)
  with_reducible (apply frR_next; assumption)

theorem fr_monitorEnabling {m : Nat} (hm : Within 16386 m) {s0 s : State} {a1} (h : Fr m s0 s) : Fr m s0 (State.monitorEnabling s a1) := by
  unfold State.monitorEnabling
  with_reducible (apply fr_takeChannel (wt hm); assumption)

theorem fr_monitorOff {m : Nat} (hm : Within 540674 m) {s0 s : State} {a1} (h : Fr m s0 s) : Fr m s0 (State.monitorOff s a1) := by
  unfold State.monitorOff
  with_reducible (apply fr_reachOff (wt hm); apply fr_leaveChannel (wt hm); assumption); intro _ _
  with_reducible (apply fr_monitorEnabling (wt hm); assumption)

theorem fr_setHoldoff {m : Nat} (hm : Within 16384 m) {s0 s : State} {a1 a2} (h : Fr m s0 s) : Fr m s0 (State.setHoldoff s a1 a2) := by
  unfold State.setHoldoff
  apply fr_mk_winnow (wt hm); with_reducible assumption

theorem fr_crossing {m : Nat} (hm : Within 278786 m) {s0 s : State} {a1 a2} (h : Fr m s0 s) : Fr m s0 (State.crossing s a1 a2) := by
  unfold State.crossing
  dsimp only; split; split
  with_reducible (apply fr_setReg (wt hm); apply fr_setHoldoff (wt hm); apply fr_fireAt (wt hm); apply fr_inc32 (wt hm); assumption)
  with_reducible (apply fr_streamPut (wt hm); apply fr_setReg (wt hm); apply fr_setHoldoff (wt hm); apply fr_fireAt (wt hm))
  with_reducible (apply fr_inc32 (wt hm); assumption); split
  with_reducible (apply fr_setReg (wt hm); apply fr_setHoldoff (wt hm); apply fr_fireAt (wt hm); apply fr_inc32 (wt hm); assumption)
  with_reducible (apply fr_streamPut (wt hm); apply fr_setReg (wt hm); apply fr_setHoldoff (wt hm); apply fr_fireAt (wt hm))
  with_reducible (apply fr_inc32 (wt hm); assumption)

theorem fr_compareValue {m : Nat} (hm : Within 278786 m) {s0 s : State} {a1 a2} (h : Fr m s0 s) : Fr m s0 (State.compareValue s a1 a2) := by
  unfold State.compareValue
  dsimp only; split; split
  with_reducible (apply fr_crossing (wt hm); apply fr_setReg (wt hm); assumption; apply fr_setReg (wt hm); assumption); split; split
  with_reducible (apply fr_setReg (wt hm); apply fr_setHoldoff (wt hm); apply fr_inc32 (wt hm); apply fr_setReg (wt hm); assumption)
  with_reducible (apply fr_setHoldoff (wt hm); apply fr_inc32 (wt hm); apply fr_setReg (wt hm); assumption); split
  with_reducible (apply fr_setReg (wt hm); apply fr_setHoldoff (wt hm); apply fr_setReg (wt hm); assumption; apply fr_setHoldoff (wt hm))
  with_reducible (apply fr_setReg (wt hm); assumption); split
  with_reducible (apply fr_setReg (wt hm); apply fr_setReg (wt hm); assumption; apply fr_setReg (wt hm); assumption)

theorem fr_monitorValue {m : Nat} (hm : Within 803074 m) {s0 s : State} {a1 a2} (h : Fr m s0 s) : Fr m s0 (State.monitorValue s a1 a2) := by
  unfold State.monitorValue
  dsimp only; split
  with_reducible (apply fr_compareValue (wt hm); apply fr_setHoldoff (wt hm); apply fr_setReg (wt hm); apply fr_setReg (wt hm))
  with_reducible (assumption; apply fr_compareValue (wt hm); assumption; apply fr_monitorOff (wt hm); assumption)
  with_reducible (apply fr_monitorOff (wt hm); assumption; assumption)

theorem fr_execWinnowOutput {m : Nat} (hm : Within 803074 m) {s0 s : State} (h : Fr m s0 s) : FrR m s0 (execWinnowOutput s) := by
  unfold execWinnowOutput
  split; with_reducible (apply frR_next; assumption); dsimp only; with_reducible apply frR_next; split
  with_reducible apply fr_monitorValue (wt hm); apply fr_mk_winnow (wt hm); with_reducible assumption; apply fr_mk_winnow (wt hm)
  with_reducible assumption

theorem fr_outputsAfter {m : Nat} (hm : Within 886043 m) {s0 s : State} {a1 a2} (h : Fr m s0 s) : Fr m s0 (outputsAfter s a1 a2) := by
  unfold outputsAfter
  split; with_reducible (apply fr_reformFragments (wt hm); assumption); split; with_reducible (apply fr_moveWeights (wt hm); assumption)
  split; with_reducible (apply fr_oweLoads (wt hm); assumption; assumption)

end Sys2Proof.Machine
end

