-- ==== Sys2Proof/Laws/FrameDovetail.lean ====
section
/-! SUPPORT. What the definitions of Machine/Dovetail.lean leave alone (Fr). -/

set_option Elab.async false

namespace Sys2Proof.Machine

theorem fr_modDove {m : Nat} (hm : Within 8192 m) {s0 s : State} {a1} (h : Fr m s0 s) : Fr m s0 (State.modDove s a1) := by
  unfold State.modDove
  apply fr_mk_insp (wt hm); with_reducible assumption

theorem fr_doveEnabling {m : Nat} (hm : Within 8194 m) {s0 s : State} (h : Fr m s0 s) : Fr m s0 (State.doveEnabling s) := by
  unfold State.doveEnabling
  dsimp only; with_reducible (apply fr_modDove (wt hm); apply fr_each; apply fr_setReg (wt hm); assumption); intro _ _ _
  with_reducible (apply fr_setReg (wt hm); apply fr_setReg (wt hm); assumption)

theorem fr_applyCorr {m : Nat} (hm : Within 8194 m) {s0 s : State} {a1} (h : Fr m s0 s) : Fr m s0 (State.applyCorr s a1) := by
  unfold State.applyCorr
  dsimp only; with_reducible (apply fr_modDove (wt hm); apply fr_each; assumption); intro _ _ _
  with_reducible (apply fr_setReg (wt hm); apply fr_setReg (wt hm); assumption)

theorem fr_doveBoundary {m : Nat} (hm : Within 8194 m) {s0 s : State} {a1 a2} (h : Fr m s0 s) : Fr m s0 (State.doveBoundary s a1 a2) := by
  unfold State.doveBoundary
  dsimp only; with_reducible (apply fr_each; apply fr_applyCorr (wt hm); assumption); intro _ _ _
  with_reducible (apply fr_setReg (wt hm); apply fr_setReg (wt hm)); split; split
  with_reducible (apply fr_inc32 (wt hm); assumption; assumption); split; with_reducible apply fr_inc32 (wt hm); split
  with_reducible (apply fr_inc32 (wt hm); assumption; assumption; apply fr_inc32 (wt hm)); split
  with_reducible (apply fr_inc32 (wt hm); assumption; assumption)

theorem fr_fifoPut {m : Nat} (hm : Within 566555 m) {s0 s : State} {a1 a2 a3} (h : Fr m s0 s) : Fr m s0 (State.fifoPut s a1 a2 a3) := by
  unfold State.fifoPut
  with_reducible (apply fr_modCam (wt hm); apply fr_store (wt hm); assumption)

theorem fr_regLine {m : Nat} (hm : Within 558363 m) {s0 s : State} {a1 a2 a3} (h : Fr m s0 s) : Fr m s0 (State.regLine s a1 a2 a3) := by
  unfold State.regLine
  dsimp only; split; split; split; with_reducible (apply fr_store (wt hm); assumption; assumption; assumption; apply fr_each); split
  split; with_reducible (apply fr_store (wt hm); assumption; assumption; assumption); intro _ _ _; split
  with_reducible (apply fr_store (wt hm); assumption; assumption)

theorem fr_roundStart {m : Nat} (hm : Within 566555 m) {s0 s : State} {a1 a2} (h : Fr m s0 s) : Fr m s0 (State.roundStart s a1 a2) := by
  unfold State.roundStart
  dsimp only; split; with_reducible assumption; split; split; with_reducible (apply fr_inc32 (wt hm); apply fr_each; assumption)
  intro _ _ _
  with_reducible (apply fr_inc32 (wt hm); assumption; apply fr_each; apply fr_each; apply fr_modDove (wt hm); apply fr_inc64 (wt hm))
  with_reducible assumption; intro _ _ _; with_reducible (apply fr_store (wt hm); assumption); intro _ _ _
  with_reducible (apply fr_each; assumption); intro _ _ _; with_reducible (apply fr_regLine (wt hm); assumption); split
  with_reducible (apply fr_inc32 (wt hm); apply fr_each; assumption); intro _ _ _
  with_reducible (apply fr_inc32 (wt hm); assumption; apply fr_each; apply fr_each; apply fr_modDove (wt hm); apply fr_inc64 (wt hm))
  with_reducible assumption; intro _ _ _; with_reducible (apply fr_store (wt hm); assumption); intro _ _ _
  with_reducible (apply fr_each; assumption); intro _ _ _; with_reducible (apply fr_regLine (wt hm); assumption)

theorem fr_regFeed {m : Nat} (hm : Within 558363 m) {s0 s : State} {a1 a2} (h : Fr m s0 s) : Fr m s0 (State.regFeed s a1 a2) := by
  unfold State.regFeed
  split; split; with_reducible (assumption; apply fr_each; assumption); intro _ _ _
  with_reducible (apply fr_regLine (wt hm); assumption; assumption)

theorem fr_execStageBLine {m : Nat} (hm : Within 566555 m) {s0 s : State} {a0} (h : Fr m s0 s) : FrR m s0 (execStageBLine a0 s) := by
  unfold execStageBLine
  with_reducible apply frR_inst; split; dsimp only; with_reducible apply frR_next; split
  with_reducible (apply fr_stageB (wt hm); apply fr_modFront (wt hm); assumption; apply fr_regFeed (wt hm); apply fr_fifoPut (wt hm))
  with_reducible (apply fr_stageB (wt hm); apply fr_modFront (wt hm); assumption; apply frR_next; assumption)

theorem fr_execRegReady {m : Nat} (hm : Within 8450 m) {s0 s : State} (h : Fr m s0 s) : FrR m s0 (execRegReady s) := by
  unfold execRegReady
  split; dsimp only; split
  with_reducible (apply frR_next; apply fr_fire (wt hm); apply fr_modDove (wt hm); assumption; apply frR_next; assumption)
  with_reducible (apply frR_next; assumption)

theorem fr_regCopied {m : Nat} (hm : Within 566555 m) {s0 s : State} (h : Fr m s0 s) : Fr m s0 (State.regCopied s) := by
  unfold State.regCopied
  split; dsimp only; split
  with_reducible (apply fr_fire (wt hm); apply fr_store (wt hm); apply fr_modDove (wt hm); assumption; apply fr_modDove (wt hm))
  with_reducible (assumption; assumption)

theorem fr_execRegRecordTake {m : Nat} (hm : Within 632607 m) {s0 s : State} (h : Fr m s0 s) : FrR m s0 (execRegRecordTake s) := by
  unfold execRegRecordTake
  split; with_reducible (apply frR_next; assumption); split; with_reducible (apply frR_next; assumption); dsimp only; split
  with_reducible (apply frR_next; apply fr_regCopied (wt hm); apply fr_store (wt hm); apply fr_freeStaged (wt hm))
  with_reducible (apply fr_readStaged (wt hm); assumption; apply frR_next; apply fr_inc32 (wt hm); apply fr_freeStaged (wt hm))
  with_reducible (apply fr_readStaged (wt hm); assumption)

theorem fr_takeUpdate {m : Nat} (hm : Within 8192 m) {s0 s : State} {a1 a2} (h : Fr m s0 s) : Fr m s0 (State.takeUpdate s a1 a2) := by
  unfold State.takeUpdate
  with_reducible (apply fr_each; assumption); intro _ _ _; dsimp only; with_reducible (apply fr_modDove (wt hm); assumption)

theorem fr_doveShift {m : Nat} (hm : Within 567071 m) {s0 s : State} (h : Fr m s0 s) : Fr m s0 (State.doveShift s) := by
  unfold State.doveShift
  split; with_reducible assumption; dsimp only; split; split
  with_reducible (apply fr_takeUpdate (wt hm); apply fr_readRange (wt hm); assumption; apply fr_fire (wt hm); apply fr_inc32 (wt hm))
  with_reducible (apply fr_readRange (wt hm); assumption; apply fr_fire (wt hm); apply fr_inc32 (wt hm); apply fr_readRange (wt hm))
  with_reducible assumption

theorem fr_execDoveShift {m : Nat} (hm : Within 567071 m) {s0 s : State} (h : Fr m s0 s) : FrR m s0 (execDoveShift s) := by
  unfold execDoveShift
  split; with_reducible (apply frR_next; apply fr_doveShift (wt hm); apply fr_takeInput (wt hm); assumption; apply frR_next; assumption)

theorem fr_cmdClearCorr {m : Nat} (hm : Within 8192 m) {s0 s : State} {a0} (h : Fr m s0 s) : FrV m s0 (cmdClearCorr a0 s) := by
  unfold cmdClearCorr
  dsimp only; with_reducible (apply frV_accept; apply fr_modDove (wt hm); assumption)

theorem fr_roundBoundary {m : Nat} (hm : Within 8194 m) {s0 s : State} {a1} (h : Fr m s0 s) : Fr m s0 (State.roundBoundary s a1) := by
  unfold State.roundBoundary
  split; split; with_reducible (apply fr_modDove (wt hm); apply fr_each; assumption); intro _ _ _
  with_reducible (apply fr_inc32 (wt hm); assumption; assumption; assumption)

theorem fr_frameOpen {m : Nat} (hm : Within 8450 m) {s0 s : State} {a1 a2} (h : Fr m s0 s) : Fr m s0 (State.frameOpen s a1 a2) := by
  unfold State.frameOpen
  split; with_reducible (apply fr_modFront (wt hm); assumption); split; dsimp only
  with_reducible (apply fr_modFront (wt hm); apply fr_setReg (wt hm); apply fr_setReg (wt hm); apply fr_setReg (wt hm))
  with_reducible (apply fr_setReg (wt hm); assumption; apply fr_modFront (wt hm); apply fr_fire (wt hm); apply fr_inc32 (wt hm))
  with_reducible assumption

theorem fr_frameLine {m : Nat} (hm : Within 558363 m) {s0 s : State} {a1 a2 a3} (h : Fr m s0 s) : Fr m s0 (State.frameLine s a1 a2 a3) := by
  unfold State.frameLine
  split; with_reducible assumption; dsimp only; with_reducible (apply fr_setReg (wt hm); apply fr_store (wt hm); assumption)

theorem fr_execFrameSlotFilled {m : Nat} (hm : Within 8194 m) {s0 s : State} (h : Fr m s0 s) : FrR m s0 (execFrameSlotFilled s) := by
  unfold execFrameSlotFilled
  split; dsimp only
  with_reducible (apply frR_next; apply fr_modFront (wt hm); apply fr_setReg (wt hm); assumption; apply frR_next; assumption)

theorem fr_cmdHold {m : Nat} (hm : Within 8194 m) {s0 s : State} {a0} (h : Fr m s0 s) : FrV m s0 (cmdHold a0 s) := by
  unfold cmdHold
  split; with_reducible apply frV_error; split
  with_reducible (apply frV_ok; apply fr_modFront (wt hm); assumption; apply frV_ok; apply fr_setReg (wt hm); assumption)
  with_reducible apply frV_error

theorem fr_holdEvent {m : Nat} (hm : Within 8192 m) {s0 s : State} (h : Fr m s0 s) : Fr m s0 (State.holdEvent s) := by
  unfold State.holdEvent
  split; with_reducible (apply fr_modFront (wt hm); assumption; assumption)

theorem fr_cmdSlotRelease {m : Nat} (hm : Within 2 m) {s0 s : State} {a0} (h : Fr m s0 s) : FrV m s0 (cmdSlotRelease a0 s) := by
  unfold cmdSlotRelease
  with_reducible (apply frV_accept; apply fr_setReg (wt hm); assumption)

theorem fr_fifoRead {m : Nat} (hm : Within 558879 m) {s0 s : State} {a1 a2 a3} (h : Fr m s0 s) : Fr m s0 (State.fifoRead s a1 a2 a3) := by
  unfold State.fifoRead
  split; with_reducible assumption; dsimp only; with_reducible (apply fr_readRange (wt hm); assumption)

theorem fr_feedScalers {m : Nat} (hm : Within 16386 m) {s0 s : State} {a1 a2 a3} (h : Fr m s0 s) : Fr m s0 (State.feedScalers s a1 a2 a3) := by
  unfold State.feedScalers
  dsimp only; with_reducible (apply fr_each; assumption); intro _ _ _; with_reducible (apply fr_scalerLine (wt hm); assumption)

theorem fr_feedGleaner {m : Nat} (hm : Within 8194 m) {s0 s : State} {a1 a2 a3} (h : Fr m s0 s) : Fr m s0 (State.feedGleaner s a1 a2 a3) := by
  unfold State.feedGleaner
  dsimp only; apply fr_mk_insp (wt hm); split; with_reducible (apply fr_setReg (wt hm); apply fr_setReg (wt hm); assumption; assumption)

theorem fr_stitch {m : Nat} (hm : Within 583455 m) {s0 s : State} {a1} (h : Fr m s0 s) : Fr m s0 (State.stitch s a1) := by
  unfold State.stitch
  dsimp only; split; split; split
  with_reducible (apply fr_modDove (wt hm); apply fr_roundStart (wt hm); apply fr_modDove (wt hm); apply fr_inc64 (wt hm))
  with_reducible (apply fr_feedGleaner (wt hm); apply fr_feedScalers (wt hm); apply fr_frameLine (wt hm); apply fr_frameOpen (wt hm))
  with_reducible (apply fr_each; assumption); intro _ _ _
  with_reducible (apply fr_fifoRead (wt hm); assumption; apply fr_roundStart (wt hm); apply fr_modDove (wt hm); apply fr_inc64 (wt hm))
  with_reducible (apply fr_feedGleaner (wt hm); apply fr_feedScalers (wt hm); apply fr_frameLine (wt hm); apply fr_frameOpen (wt hm))
  with_reducible (apply fr_each; assumption); intro _ _ _; with_reducible (apply fr_fifoRead (wt hm); assumption); split
  with_reducible (apply fr_modDove (wt hm); apply fr_modDove (wt hm); apply fr_inc64 (wt hm); apply fr_feedGleaner (wt hm))
  with_reducible (apply fr_feedScalers (wt hm); apply fr_frameLine (wt hm); apply fr_frameOpen (wt hm); apply fr_each; assumption)
  intro _ _ _
  with_reducible (apply fr_fifoRead (wt hm); assumption; apply fr_modDove (wt hm); apply fr_inc64 (wt hm); apply fr_feedGleaner (wt hm))
  with_reducible (apply fr_feedScalers (wt hm); apply fr_frameLine (wt hm); apply fr_frameOpen (wt hm); apply fr_each; assumption)
  intro _ _ _; with_reducible (apply fr_fifoRead (wt hm); assumption); split; split
  with_reducible (apply fr_modDove (wt hm); apply fr_roundStart (wt hm); apply fr_modDove (wt hm); apply fr_inc64 (wt hm))
  with_reducible (apply fr_feedGleaner (wt hm); apply fr_feedScalers (wt hm); apply fr_frameLine (wt hm); apply fr_each; assumption)
  intro _ _ _
  with_reducible (apply fr_fifoRead (wt hm); assumption; apply fr_roundStart (wt hm); apply fr_modDove (wt hm); apply fr_inc64 (wt hm))
  with_reducible (apply fr_feedGleaner (wt hm); apply fr_feedScalers (wt hm); apply fr_frameLine (wt hm); apply fr_each; assumption)
  intro _ _ _; with_reducible (apply fr_fifoRead (wt hm); assumption); split
  with_reducible (apply fr_modDove (wt hm); apply fr_modDove (wt hm); apply fr_inc64 (wt hm); apply fr_feedGleaner (wt hm))
  with_reducible (apply fr_feedScalers (wt hm); apply fr_frameLine (wt hm); apply fr_each; assumption); intro _ _ _
  with_reducible (apply fr_fifoRead (wt hm); assumption; apply fr_modDove (wt hm); apply fr_inc64 (wt hm); apply fr_feedGleaner (wt hm))
  with_reducible (apply fr_feedScalers (wt hm); apply fr_frameLine (wt hm); apply fr_each; assumption); intro _ _ _
  with_reducible (apply fr_fifoRead (wt hm); assumption)

theorem fr_execStitchedLine {m : Nat} (hm : Within 583455 m) {s0 s : State} (h : Fr m s0 s) : FrR m s0 (execStitchedLine s) := by
  unfold execStitchedLine
  split; with_reducible (apply frR_next; assumption); dsimp only; split; with_reducible (apply frR_next; assumption); split; split
  with_reducible (apply frR_next; apply fr_stitch (wt hm); apply fr_doveBoundary (wt hm); assumption; apply frR_next; assumption); split
  with_reducible (apply frR_next; apply fr_stitch (wt hm); assumption; apply frR_next; assumption)

theorem fr_frameEdge {m : Nat} (hm : Within 270338 m) {s0 s : State} {a1} (h : Fr m s0 s) : Fr m s0 (State.frameEdge s a1) := by
  unfold State.frameEdge
  dsimp only; split; with_reducible (apply fr_modDove (wt hm); apply fr_setReg (wt hm); apply fr_roundBoundary (wt hm); apply fr_each)
  with_reducible (apply fr_settingsBoundary (wt hm); assumption); intro _ _ _
  with_reducible (apply fr_modCam (wt hm); apply fr_setReg (wt hm); assumption; apply fr_roundBoundary (wt hm); apply fr_each)
  with_reducible (apply fr_settingsBoundary (wt hm); assumption); intro _ _ _
  with_reducible (apply fr_modCam (wt hm); apply fr_setReg (wt hm); assumption)

theorem fr_execLineClockEdge {m : Nat} (hm : Within 270466 m) {s0 s : State} (h : Fr m s0 s) : FrR m s0 (execLineClockEdge s) := by
  unfold execLineClockEdge
  split; with_reducible (apply frR_next; assumption); dsimp only; split
  with_reducible (apply frR_next; apply fr_modGen (wt hm); assumption; apply frR_next); split; split
  with_reducible (apply fr_frameEdge (wt hm); apply fr_statsLate (wt hm); apply fr_setReg (wt hm); apply fr_setReg (wt hm))
  with_reducible (apply fr_modFront (wt hm); apply fr_modFront (wt hm); apply fr_setReg (wt hm); apply fr_setReg (wt hm))
  with_reducible (apply fr_modGen (wt hm); assumption); split
  with_reducible (apply fr_roundBoundary (wt hm); apply fr_settingsBoundary (wt hm); apply fr_statsLate (wt hm); apply fr_setReg (wt hm))
  with_reducible (apply fr_setReg (wt hm); apply fr_modFront (wt hm); apply fr_modFront (wt hm); apply fr_setReg (wt hm))
  with_reducible (apply fr_setReg (wt hm); apply fr_modGen (wt hm); assumption; apply fr_statsLate (wt hm); apply fr_setReg (wt hm))
  with_reducible (apply fr_setReg (wt hm); apply fr_modFront (wt hm); apply fr_modFront (wt hm); apply fr_setReg (wt hm))
  with_reducible (apply fr_setReg (wt hm); apply fr_modGen (wt hm); assumption); split
  with_reducible (apply fr_frameEdge (wt hm); apply fr_statsLate (wt hm); apply fr_setReg (wt hm); apply fr_setReg (wt hm))
  with_reducible (apply fr_modFront (wt hm); apply fr_modGen (wt hm); assumption); split
  with_reducible (apply fr_roundBoundary (wt hm); apply fr_settingsBoundary (wt hm); apply fr_statsLate (wt hm); apply fr_setReg (wt hm))
  with_reducible (apply fr_setReg (wt hm); apply fr_modFront (wt hm); apply fr_modGen (wt hm); assumption; apply fr_statsLate (wt hm))
  with_reducible (apply fr_setReg (wt hm); apply fr_setReg (wt hm); apply fr_modFront (wt hm); apply fr_modGen (wt hm); assumption)

theorem fr_doveDisabling {m : Nat} (hm : Within 8192 m) {s0 s : State} (h : Fr m s0 s) : Fr m s0 (State.doveDisabling s) := by
  unfold State.doveDisabling
  dsimp only; split; with_reducible assumption; split
  with_reducible (apply fr_modDove (wt hm); assumption; apply fr_modDove (wt hm); assumption)

end Sys2Proof.Machine
end

