-- ==== Sys2Proof/Laws/FrameGleaner.lean ====
section
/-! SUPPORT. What the definitions of Machine/Gleaner.lean leave alone (Fr). -/

set_option Elab.async false

namespace Sys2Proof.Machine

theorem fr_modGlean {m : Nat} (hm : Within 8192 m) {s0 s : State} {a1} (h : Fr m s0 s) : Fr m s0 (State.modGlean s a1) := by
  unfold State.modGlean
  apply fr_mk_insp (wt hm); with_reducible assumption

theorem fr_Closing_record {m : Nat} (hm : Within 566683 m) {s0 : State} {c l cutIds} {o : Closing} {b : Blob} (h : Fr m s0 o.s) : Fr m s0 ((Closing.record c l cutIds o b).s) := by
  unfold Closing.record
  extract_lets s f n s1 s2 s3 q rules ws slots s4 s5 r
  have k : Fr m s0 s := h
  clear_value s
  split
  · show Fr m s0 s2
    simp only [s2, s1]
    split; with_reducible (apply fr_fire (wt hm); apply fr_modGlean (wt hm); apply fr_inc32 (wt hm); assumption; apply fr_inc32 (wt hm))
    with_reducible assumption
  · have k4 : Fr m s0 s4 := by
      simp only [s4, s3]
      split; with_reducible (apply fr_modGlean (wt hm); assumption; apply fr_store (wt hm); apply fr_modGlean (wt hm); assumption)
    clear_value s4
    have k5 : Fr m s0 s5 := by
      simp only [s5]
      with_reducible (apply fr_inc64 (wt hm); apply fr_setReg (wt hm); assumption)
    clear_value s5
    show Fr m s0 r.1
    simp only [r]
    with_reducible (apply fr_fst; apply fr_foldl1; assumption); intro _ _ _; with_reducible apply frF_mk; split
    with_reducible (apply fr_modList (wt hm); apply fr_inc32 (wt hm); assumption; apply fr_inc32 (wt hm); apply fr_modList (wt hm))
    with_reducible (apply fr_inc32 (wt hm); assumption)

theorem fr_sendRecords {m : Nat} (hm : Within 262146 m) {s0 s : State} {stream fuel : Nat} {rs} (h : Fr m s0 s) : Fr m s0 (s.sendRecords stream fuel rs) := by
  induction fuel generalizing s rs with
  | zero => exact h
  | succ n ih =>
    unfold State.sendRecords
    split
    · exact h
    · exact ih ((fr_streamPut (wt hm)) h)

theorem fr_closeBlobs {m : Nat} (hm : Within 828827 m) {s0 s : State} {c l bs cutIds} (h : Fr m s0 s) : Fr m s0 (State.closeBlobs s c l bs cutIds) := by
  have fold (l' : List Blob) (o : Closing) (k : Fr m s0 o.s) : Fr m s0 ((l'.foldl (Closing.record c l cutIds) o).s) := by
    induction l' generalizing o with
    | nil => exact k
    | cons b l' ih =>
      apply ih
      with_reducible (apply fr_Closing_record (wt hm); assumption)
  unfold State.closeBlobs
  extract_lets small big weak good s1 offered others o stream s2
  have k1 : Fr m s0 s1 := by
    simp only [s1]
    with_reducible (apply fr_inc64 (wt hm); apply fr_inc64 (wt hm); assumption)
  have ko : Fr m s0 o.s := fold _ _ k1
  clear_value o
  have k2 : Fr m s0 s2 := by
    simp only [s2]
    split; with_reducible (assumption; apply fr_sendRecords (wt hm); assumption)
  clear_value s2
  split; with_reducible (assumption; apply fr_fire (wt hm); assumption)

theorem fr_gleanStop {m : Nat} (hm : Within 8194 m) {s0 s : State} (h : Fr m s0 s) : Fr m s0 (State.gleanStop s) := by
  unfold State.gleanStop
  with_reducible (apply fr_setReg (wt hm); apply fr_modGlean (wt hm); assumption)

theorem fr_gleanLine {m : Nat} (hm : Within 828827 m) {s0 s : State} {a1} (h : Fr m s0 s) : Fr m s0 (State.gleanLine s a1) := by
  unfold State.gleanLine
  dsimp only; split; with_reducible (apply fr_gleanStop (wt hm); apply fr_closeBlobs (wt hm); apply fr_setReg (wt hm)); split; split
  with_reducible (apply fr_inc32 (wt hm); apply fr_modGlean (wt hm); assumption; apply fr_modGlean (wt hm); assumption); split
  with_reducible (apply fr_inc32 (wt hm); apply fr_modGlean (wt hm); assumption; apply fr_modGlean (wt hm); assumption)
  with_reducible (apply fr_closeBlobs (wt hm); apply fr_setReg (wt hm)); split; split
  with_reducible (apply fr_inc32 (wt hm); apply fr_modGlean (wt hm); assumption; apply fr_modGlean (wt hm); assumption); split
  with_reducible (apply fr_inc32 (wt hm); apply fr_modGlean (wt hm); assumption; apply fr_modGlean (wt hm); assumption)

theorem fr_execGleanerLine {m : Nat} (hm : Within 828827 m) {s0 s : State} (h : Fr m s0 s) : FrR m s0 (execGleanerLine s) := by
  unfold execGleanerLine
  split; with_reducible (apply frR_next; assumption; apply frR_next; apply fr_gleanLine (wt hm); apply fr_modGlean (wt hm); assumption)

theorem fr_gleanEnabling {m : Nat} (hm : Within 8194 m) {s0 s : State} (h : Fr m s0 s) : Fr m s0 (State.gleanEnabling s) := by
  unfold State.gleanEnabling
  with_reducible (apply fr_gleanStop (wt hm); assumption)

theorem fr_gleanDisabling {m : Nat} (hm : Within 828827 m) {s0 s : State} (h : Fr m s0 s) : Fr m s0 (State.gleanDisabling s) := by
  unfold State.gleanDisabling
  dsimp only; split; with_reducible assumption; split; split
  with_reducible (apply fr_gleanStop (wt hm); apply fr_closeBlobs (wt hm); assumption; assumption); split
  with_reducible (apply fr_gleanStop (wt hm); apply fr_closeBlobs (wt hm); assumption; assumption)

end Sys2Proof.Machine
end

