-- ==== Sys2Proof/Laws/FrameTranslate.lean ====
section
/-! SUPPORT. What the definitions of Machine/Translate.lean leave alone (Fr). -/

set_option Elab.async false

namespace Sys2Proof.Machine

theorem fr_modFab {m : Nat} (hm : Within 2048 m) {s0 s : State} {a1} (h : Fr m s0 s) : Fr m s0 (State.modFab s a1) := by
  unfold State.modFab
  apply fr_mk_fabric (wt hm); with_reducible assumption

theorem fr_fabFault {m : Nat} (hm : Within 526083 m) {s0 s : State} {a1 a2 a3 a4 a5 a6 a7 a8} (h : Fr m s0 s) : Fr m s0 (State.fabFault s a1 a2 a3 a4 a5 a6 a7 a8) := by
  unfold State.fabFault
  dsimp only; split; with_reducible (apply fr_inc32 (wt hm); apply fr_setReg (wt hm); apply fr_setReg (wt hm); apply fr_inc32 (wt hm))
  with_reducible (apply fr_inc64 (wt hm); assumption; apply fr_faultRecord (wt hm)); apply fr_mk_avail (wt hm)
  with_reducible (apply fr_setReg (wt hm); apply fr_setReg (wt hm); apply fr_inc32 (wt hm); apply fr_inc64 (wt hm); assumption)

theorem fr_tlbTouch {m : Nat} (hm : Within 2048 m) {s0 s : State} {a1} (h : Fr m s0 s) : Fr m s0 (State.tlbTouch s a1) := by
  unfold State.tlbTouch
  with_reducible (apply fr_modFab (wt hm); assumption)

theorem fr_walkNow {m : Nat} (hm : Within 560927 m) {s0 s : State} {a1 a2 a3 a4 a5} (h : Fr m s0 s) : FrP m s0 (State.walkNow s a1 a2 a3 a4 a5) := by
  unfold State.walkNow
  dsimp only; split; with_reducible (apply frP_mk; apply fr_tlbTouch (wt hm); apply fr_inc64 (wt hm); apply fr_each; assumption)
  intro _ _ _; with_reducible (apply fr_readRange (wt hm); assumption; apply frP_mk); split
  with_reducible (apply fr_inc64 (wt hm); apply fr_each; assumption); intro _ _ _
  with_reducible (apply fr_readRange (wt hm); assumption; apply fr_fabFault (wt hm); apply fr_inc64 (wt hm); apply fr_each; assumption)
  intro _ _ _; with_reducible (apply fr_readRange (wt hm); assumption)

theorem fr_tlbDrop {m : Nat} (hm : Within 2048 m) {s0 s : State} {a1} (h : Fr m s0 s) : Fr m s0 (State.tlbDrop s a1) := by
  unfold State.tlbDrop
  with_reducible (apply fr_modFab (wt hm); assumption)

theorem fr_lockStart {m : Nat} (hm : Within 2050 m) {s0 s : State} {a1} (h : Fr m s0 s) : Fr m s0 (State.lockStart s a1) := by
  unfold State.lockStart
  with_reducible (apply fr_modFab (wt hm); apply fr_inc64 (wt hm); assumption)

theorem fr_lockEnd {m : Nat} (hm : Within 2048 m) {s0 s : State} {a1} (h : Fr m s0 s) : Fr m s0 (State.lockEnd s a1) := by
  unfold State.lockEnd
  with_reducible (apply fr_modFab (wt hm); assumption)

theorem fr_execLockBroken {m : Nat} (hm : Within 528131 m) {s0 s : State} {a0} (h : Fr m s0 s) : FrR m s0 (execLockBroken a0 s) := by
  unfold execLockBroken
  with_reducible apply frR_inst; split; with_reducible (apply frR_next; assumption); dsimp only
  with_reducible (apply frR_next; apply fr_fabFault (wt hm); apply fr_inc32 (wt hm); apply fr_lockEnd (wt hm); assumption)

theorem fr_meter {m : Nat} (hm : Within 2050 m) {s0 s : State} {a1 a2} (h : Fr m s0 s) : Fr m s0 (State.meter s a1 a2) := by
  unfold State.meter
  split; with_reducible assumption; dsimp only; split; split
  with_reducible (apply fr_inc32 (wt hm); apply fr_modFab (wt hm); assumption; apply fr_modFab (wt hm); assumption); split
  with_reducible (apply fr_inc32 (wt hm); apply fr_modFab (wt hm); assumption; apply fr_modFab (wt hm); assumption)

theorem fr_storeAccess {m : Nat} (hm : Within 562975 m) {s0 s : State} {a1 a2 a3 a4 a5 a6} (h : Fr m s0 s) : FrP m s0 (State.storeAccess s a1 a2 a3 a4 a5 a6) := by
  unfold State.storeAccess
  split; split; with_reducible (apply frP_mk; assumption); split; dsimp only; split; split
  with_reducible (apply frP_mk; assumption; apply frP_mk; apply fr_store (wt hm); assumption); split
  with_reducible (apply frP_mk; assumption; apply frP_mk; apply fr_store (wt hm); assumption; apply frP_mk; apply fr_readRange (wt hm))
  with_reducible assumption; split; with_reducible (apply frP_mk; assumption); split; with_reducible (apply frP_mk; assumption)
  dsimp only; split; with_reducible (apply frP_mk; apply fr_modCore (wt hm)); split
  with_reducible (apply fr_inc32 (wt hm); assumption; assumption; apply frP_mk); split
  with_reducible (apply fr_inc32 (wt hm); assumption; assumption; apply frP_mk; assumption)

theorem fr_windowedAccess {m : Nat} (hm : Within 565023 m) {s0 s : State} {a1 a2 a3 a4 a5 a6 a7} (h : Fr m s0 s) : FrP m s0 (State.windowedAccess s a1 a2 a3 a4 a5 a6 a7) := by
  unfold State.windowedAccess
  dsimp only; split; with_reducible (apply frP_mk; apply fr_fabFault (wt hm); apply fr_snd); split
  with_reducible (apply fr_walkNow (wt hm); apply fr_inc64 (wt hm); assumption; apply frP_mk; assumption; apply frP_mk)
  with_reducible (apply fr_fabFault (wt hm); apply fr_snd); split
  with_reducible (apply fr_walkNow (wt hm); apply fr_inc64 (wt hm); assumption; apply frP_mk; assumption); split
  with_reducible (apply frP_mk; apply fr_fabFault (wt hm); apply fr_inc64 (wt hm); apply fr_snd); split
  with_reducible (apply fr_walkNow (wt hm); apply fr_inc64 (wt hm); assumption; apply frP_mk; assumption); split
  with_reducible (apply frP_mk; apply fr_snd; apply fr_storeAccess (wt hm); apply fr_meter (wt hm); apply fr_inc64 (wt hm); apply fr_snd)
  split; with_reducible (apply fr_walkNow (wt hm); apply fr_inc64 (wt hm); assumption; apply frP_mk; assumption; apply frP_mk)
  with_reducible (apply fr_fabFault (wt hm); apply fr_snd; apply fr_storeAccess (wt hm); apply fr_meter (wt hm); apply fr_inc64 (wt hm))
  with_reducible apply fr_snd; split
  with_reducible (apply fr_walkNow (wt hm); apply fr_inc64 (wt hm); assumption; apply frP_mk; assumption)

theorem fr_windowsLive {m : Nat} (hm : Within 2048 m) {s0 s : State} {a1} (h : Fr m s0 s) : Fr m s0 (State.windowsLive s a1) := by
  unfold State.windowsLive
  with_reducible (apply fr_each; assumption); intro _ _ _; with_reducible (apply fr_tlbDrop (wt hm); assumption)

theorem fr_cmdInvWindow {m : Nat} (hm : Within 2048 m) {s0 s : State} {a0} (h : Fr m s0 s) : FrV m s0 (cmdInvWindow a0 s) := by
  unfold cmdInvWindow
  with_reducible (apply frV_accept; apply fr_tlbDrop (wt hm); assumption)

theorem fr_cmdInvAll {m : Nat} (hm : Within 2048 m) {s0 s : State} (h : Fr m s0 s) : FrV m s0 (cmdInvAll s) := by
  unfold cmdInvAll
  with_reducible (apply frV_ok; apply fr_modFab (wt hm); assumption)

theorem fr_onPage {m : Nat} (hm : Within 526083 m) {s0 s : State} {mst pa : Nat} {secure : Bool} {f : State → State} (h : Fr m s0 s)
    (hf : ∀ t, Fr m s0 t → Fr m s0 (f t)) : Fr m s0 (s.onPage mst pa secure f) := by
  unfold State.onPage
  split
  · exact hf s h
  · exact (fr_fabFault (wt hm)) h

theorem fr_execPageInvWindow {m : Nat} (hm : Within 528131 m) {s0 s : State} {a0 a1} (h : Fr m s0 s) : FrR m s0 (execPageInvWindow a0 a1 s) := by
  unfold execPageInvWindow
  with_reducible (apply frR_inst; apply frR_next; apply fr_onPage (wt hm); assumption); intro _ _
  with_reducible (apply fr_tlbDrop (wt hm); assumption)

theorem fr_execPageInvAll {m : Nat} (hm : Within 528131 m) {s0 s : State} {a0} (h : Fr m s0 s) : FrR m s0 (execPageInvAll a0 s) := by
  unfold execPageInvAll
  with_reducible (apply frR_inst; apply frR_next; apply fr_onPage (wt hm); assumption); intro _ _
  with_reducible (apply fr_modFab (wt hm); assumption)

end Sys2Proof.Machine
end

