-- ==== Sys2Proof/Laws/FrameDma.lean ====
section
/-! SUPPORT. What the definitions of Machine/Dma.lean leave alone (Fr). -/

set_option Elab.async false

namespace Sys2Proof.Machine

theorem fr_modDma {m : Nat} (hm : Within 2048 m) {s0 s : State} {a1 a2} (h : Fr m s0 s) : Fr m s0 (State.modDma s a1 a2) := by
  unfold State.modDma
  with_reducible (apply fr_modFab (wt hm); assumption)

theorem fr_setDmaRun {m : Nat} (hm : Within 2 m) {s0 s : State} {a1 a2} (h : Fr m s0 s) : Fr m s0 (State.setDmaRun s a1 a2) := by
  unfold State.setDmaRun
  with_reducible (apply fr_setReg (wt hm); assumption)

theorem fr_dmaRelease {m : Nat} (hm : Within 2048 m) {s0 s : State} {a1} (h : Fr m s0 s) : Fr m s0 (State.dmaRelease s a1) := by
  unfold State.dmaRelease
  with_reducible (apply fr_lockEnd (wt hm); apply fr_modDma (wt hm); assumption)

theorem fr_writeBack {m : Nat} (hm : Within 565023 m) {s0 s : State} {a1 a2 a3} (h : Fr m s0 s) : Fr m s0 (State.writeBack s a1 a2 a3) := by
  unfold State.writeBack
  split; split; with_reducible (apply fr_snd; apply fr_windowedAccess (wt hm); assumption; assumption; assumption)

theorem fr_dmaFaultEvent {m : Nat} (hm : Within 258 m) {s0 s : State} {a1 a2} (h : Fr m s0 s) : Fr m s0 (State.dmaFaultEvent s a1 a2) := by
  unfold State.dmaFaultEvent
  with_reducible (apply fr_fire (wt hm); assumption)

theorem fr_dmaFetch {m : Nat} (hm : Within 2050 m) {s0 s : State} {a1 a2} (h : Fr m s0 s) : Fr m s0 (State.dmaFetch s a1 a2) := by
  unfold State.dmaFetch
  with_reducible (apply fr_modDma (wt hm); apply fr_setReg (wt hm); assumption)

theorem fr_dmaStart {m : Nat} (hm : Within 2050 m) {s0 s : State} {a1} (h : Fr m s0 s) : FrP m s0 (State.dmaStart s a1) := by
  unfold State.dmaStart
  dsimp only; split; with_reducible (apply frP_mk; assumption); split
  with_reducible (apply frP_mk; apply fr_setReg (wt hm); assumption; apply frP_mk; apply fr_setDmaRun (wt hm); apply fr_dmaFetch (wt hm))
  with_reducible (apply fr_modDma (wt hm); apply fr_setReg (wt hm); apply fr_setReg (wt hm); apply fr_setReg (wt hm); assumption)

theorem fr_dropRequests {m : Nat} (hm : Within 2048 m) {s0 s : State} {a1} (h : Fr m s0 s) : Fr m s0 (State.dropRequests s a1) := by
  unfold State.dropRequests
  with_reducible (apply fr_modFab (wt hm); assumption)

theorem fr_dmaAbortedNow {m : Nat} (hm : Within 565023 m) {s0 s : State} {a1} (h : Fr m s0 s) : Fr m s0 (State.dmaAbortedNow s a1) := by
  unfold State.dmaAbortedNow
  dsimp only
  with_reducible (apply fr_dmaFaultEvent (wt hm); apply fr_setDmaRun (wt hm); apply fr_modDma (wt hm); apply fr_dropRequests (wt hm))
  with_reducible (apply fr_dmaRelease (wt hm); apply fr_writeBack (wt hm); apply fr_setReg (wt hm); apply fr_setReg (wt hm); assumption)

theorem fr_dmaAbort {m : Nat} (hm : Within 565023 m) {s0 s : State} {a1} (h : Fr m s0 s) : Fr m s0 (State.dmaAbort s a1) := by
  unfold State.dmaAbort
  split; split
  with_reducible (apply fr_setDmaRun (wt hm); assumption; apply fr_dmaAbortedNow (wt hm); assumption; apply fr_setDmaRun (wt hm))
  with_reducible (assumption; assumption)

theorem fr_dmaResume {m : Nat} (hm : Within 2050 m) {s0 s : State} {a1} (h : Fr m s0 s) : FrP m s0 (State.dmaResume s a1) := by
  unfold State.dmaResume
  dsimp only; split; with_reducible (apply frP_mk; assumption; apply frP_mk; apply fr_setDmaRun (wt hm)); split
  with_reducible (apply fr_modDma (wt hm); assumption; apply fr_dmaFetch (wt hm); assumption)

theorem fr_dmaNext {m : Nat} (hm : Within 2050 m) {s0 s : State} {a1} (h : Fr m s0 s) : Fr m s0 (State.dmaNext s a1) := by
  unfold State.dmaNext
  split; split; with_reducible (apply fr_setDmaRun (wt hm); apply fr_dmaFetch (wt hm); assumption; apply fr_setDmaRun (wt hm))
  with_reducible (apply fr_dmaRelease (wt hm); assumption; apply fr_setDmaRun (wt hm); apply fr_dmaRelease (wt hm); assumption)

theorem fr_dmaResumeNext {m : Nat} (hm : Within 2050 m) {s0 s : State} {a1} (h : Fr m s0 s) : FrP m s0 (State.dmaResumeNext s a1) := by
  unfold State.dmaResumeNext
  dsimp only; split; with_reducible (apply frP_mk; assumption; apply frP_mk; apply fr_dmaNext (wt hm); assumption)

theorem fr_dmaPageCmd {m : Nat} (hm : Within 565023 m) {s0 s : State} {a1 a2} (h : Fr m s0 s) : Fr m s0 (State.dmaPageCmd s a1 a2) := by
  unfold State.dmaPageCmd
  split; with_reducible (apply fr_snd; apply fr_dmaStart (wt hm); assumption; apply fr_dmaAbort (wt hm); assumption; apply fr_snd)
  with_reducible (apply fr_dmaResume (wt hm); assumption; apply fr_snd; apply fr_dmaResumeNext (wt hm); assumption; assumption)

theorem fr_ofDetail {m : Nat} (hm : Within 0 m) {s0 : State} {r : Nat × State} (h : FrP m s0 r) : FrV m s0 (ofDetail r) := by
  unfold ofDetail
  split
  · exact frV_ok h.fr
  · exact frV_error _

theorem fr_cmdDmaStart {m : Nat} (hm : Within 2050 m) {s0 s : State} {a0} (h : Fr m s0 s) : FrV m s0 (cmdDmaStart a0 s) := by
  unfold cmdDmaStart
  with_reducible (apply fr_ofDetail (wt hm); apply fr_dmaStart (wt hm); assumption)

theorem fr_cmdDmaAbort {m : Nat} (hm : Within 565023 m) {s0 s : State} {a0} (h : Fr m s0 s) : FrV m s0 (cmdDmaAbort a0 s) := by
  unfold cmdDmaAbort
  with_reducible (apply frV_ok; apply fr_dmaAbort (wt hm); assumption)

theorem fr_cmdDmaResume {m : Nat} (hm : Within 2050 m) {s0 s : State} {a0} (h : Fr m s0 s) : FrV m s0 (cmdDmaResume a0 s) := by
  unfold cmdDmaResume
  with_reducible (apply fr_ofDetail (wt hm); apply fr_dmaResume (wt hm); assumption)

theorem fr_cmdDmaResumeNext {m : Nat} (hm : Within 2050 m) {s0 s : State} {a0} (h : Fr m s0 s) : FrV m s0 (cmdDmaResumeNext a0 s) := by
  unfold cmdDmaResumeNext
  with_reducible (apply fr_ofDetail (wt hm); apply fr_dmaResumeNext (wt hm); assumption)

theorem fr_dmaStartEvent {m : Nat} (hm : Within 2306 m) {s0 s : State} {a1} (h : Fr m s0 s) : Fr m s0 (State.dmaStartEvent s a1) := by
  unfold State.dmaStartEvent
  split; dsimp only; split
  with_reducible (apply fr_snd; apply fr_dmaStart (wt hm); apply fr_takeInput (wt hm); assumption; apply fr_inc32 (wt hm); apply fr_snd)
  with_reducible (apply fr_dmaStart (wt hm); apply fr_takeInput (wt hm); assumption; assumption)

theorem fr_dmaAbortEvent {m : Nat} (hm : Within 565023 m) {s0 s : State} {a1} (h : Fr m s0 s) : Fr m s0 (State.dmaAbortEvent s a1) := by
  unfold State.dmaAbortEvent
  split; with_reducible (apply fr_dmaAbort (wt hm); apply fr_takeInput (wt hm); assumption; assumption)

theorem fr_execDescriptorFetch {m : Nat} (hm : Within 528131 m) {s0 s : State} {a0} (h : Fr m s0 s) : FrR m s0 (execDescriptorFetch a0 s) := by
  unfold execDescriptorFetch
  with_reducible apply frR_inst; split; with_reducible (apply frR_next; assumption); split; with_reducible (apply frR_next; assumption)
  dsimp only; split
  with_reducible (apply frR_next; apply fr_modDma (wt hm); apply fr_setReg (wt hm); apply fr_setReg (wt hm); apply fr_modDma (wt hm))
  with_reducible (assumption; apply frR_next; apply fr_dmaFaultEvent (wt hm); apply fr_setDmaRun (wt hm); apply fr_dmaRelease (wt hm))
  with_reducible (apply fr_setReg (wt hm); apply fr_fabFault (wt hm); apply fr_setReg (wt hm); apply fr_modDma (wt hm); assumption)

theorem fr_execDescriptorComplete {m : Nat} (hm : Within 565023 m) {s0 s : State} {a0} (h : Fr m s0 s) : FrR m s0 (execDescriptorComplete a0 s) := by
  unfold execDescriptorComplete
  with_reducible apply frR_inst; dsimp only; split; split
  with_reducible (apply frR_next; apply fr_dmaNext (wt hm); apply fr_lockEnd (wt hm)); split
  with_reducible (apply fr_fire (wt hm); apply fr_inc64 (wt hm); apply fr_inc64 (wt hm); apply fr_writeBack (wt hm))
  with_reducible (apply fr_setReg (wt hm); apply fr_setReg (wt hm); assumption; apply fr_inc64 (wt hm); apply fr_inc64 (wt hm))
  with_reducible (apply fr_writeBack (wt hm); apply fr_setReg (wt hm); apply fr_setReg (wt hm); assumption; apply frR_next; assumption)
  with_reducible (apply frR_next; assumption)

theorem fr_execDmaBeatFault {m : Nat} (hm : Within 565023 m) {s0 s : State} {a0} (h : Fr m s0 s) : FrR m s0 (execDmaBeatFault a0 s) := by
  unfold execDmaBeatFault
  with_reducible apply frR_inst; dsimp only; split; split
  with_reducible (apply frR_next; apply fr_dmaFaultEvent (wt hm); apply fr_setDmaRun (wt hm); apply fr_modDma (wt hm))
  with_reducible (apply fr_dmaRelease (wt hm); apply fr_writeBack (wt hm); apply fr_setReg (wt hm); apply fr_setReg (wt hm))
  with_reducible (apply fr_setReg (wt hm); apply fr_setReg (wt hm); assumption; apply frR_next; assumption; apply frR_next; assumption)

theorem fr_execAbortComplete {m : Nat} (hm : Within 565023 m) {s0 s : State} {a0} (h : Fr m s0 s) : FrR m s0 (execAbortComplete a0 s) := by
  unfold execAbortComplete
  with_reducible apply frR_inst; dsimp only; split
  with_reducible (apply frR_next; apply fr_dmaAbortedNow (wt hm); assumption; apply frR_next; assumption)

theorem fr_takeMover {m : Nat} (hm : Within 2048 m) {s0 s : State} {a1} (h : Fr m s0 s) : Fr m s0 (State.takeMover s a1) := by
  unfold State.takeMover
  with_reducible (apply fr_modFab (wt hm); assumption)

theorem fr_execMoverAssign {m : Nat} (hm : Within 2050 m) {s0 s : State} (h : Fr m s0 s) : FrR m s0 (execMoverAssign s) := by
  unfold execMoverAssign
  dsimp only; split; with_reducible (apply frR_next; assumption); split
  with_reducible (apply frR_next; apply fr_takeMover (wt hm); assumption); split
  with_reducible (apply frR_next; apply fr_takeMover (wt hm); apply fr_inc64 (wt hm); apply fr_inc32 (wt hm); apply fr_modDma (wt hm))
  with_reducible (assumption; apply frR_next; assumption)

theorem fr_endTurn {m : Nat} (hm : Within 2048 m) {s0 s : State} {a1} (h : Fr m s0 s) : Fr m s0 (State.endTurn s a1) := by
  unfold State.endTurn
  dsimp only; split; with_reducible assumption; split; split; with_reducible assumption; split
  with_reducible (apply fr_modDma (wt hm); assumption; apply fr_modFab (wt hm); assumption); split; with_reducible assumption; split
  with_reducible (apply fr_modDma (wt hm); assumption; apply fr_modFab (wt hm); assumption)

theorem fr_dmaBeat {m : Nat} (hm : Within 2050 m) {s0 s : State} {a1 a2 a3 a4} (h : Fr m s0 s) : Fr m s0 (State.dmaBeat s a1 a2 a3 a4) := by
  unfold State.dmaBeat
  dsimp only; split
  with_reducible (apply fr_modDma (wt hm); assumption; apply fr_modDma (wt hm); assumption; apply fr_modDma (wt hm); assumption)
  with_reducible (apply fr_modDma (wt hm); assumption; apply fr_modDma (wt hm); assumption; apply fr_endTurn (wt hm))
  with_reducible (apply fr_setReg (wt hm); apply fr_inc64 (wt hm); apply fr_inc64 (wt hm); apply fr_modDma (wt hm); assumption)

theorem fr_dmaLock {m : Nat} (hm : Within 2050 m) {s0 s : State} {a1} (h : Fr m s0 s) : FrO m s0 (State.dmaLock s a1) := by
  unfold State.dmaLock
  dsimp only; split; split; split
  with_reducible (apply frO_none; apply frO_some; apply fr_lockStart (wt hm); assumption; apply frO_some; assumption; apply frO_some)
  with_reducible assumption

theorem fr_dmaTurnsOn {m : Nat} (hm : Within 2050 m) {s0 s : State} {a1} (h : Fr m s0 s) : Fr m s0 (State.dmaTurnsOn s a1) := by
  unfold State.dmaTurnsOn
  with_reducible (apply fr_setDmaRun (wt hm); apply fr_modDma (wt hm); assumption)

end Sys2Proof.Machine
end

