-- ==== Sys2Proof/Laws/FrameFabric.lean ====
section
/-! SUPPORT. What the definitions of Machine/Fabric.lean leave alone (Fr). -/

set_option Elab.async false

namespace Sys2Proof.Machine

theorem fr_timePage {m : Nat} (hm : Within 64 m) {s0 s : State} {a1} (h : Fr m s0 s) : FrP m s0 (State.timePage s a1) := by
  unfold State.timePage
  split; with_reducible apply frP_mk; apply fr_mk_time (wt hm); with_reducible assumption; split
  with_reducible (apply frP_mk; assumption); split; with_reducible (apply frP_mk; assumption); dsimp only; split
  with_reducible (apply frP_mk; apply fr_modTb (wt hm); assumption; apply frP_mk; assumption; apply frP_mk; assumption; apply frP_mk)
  with_reducible (assumption; apply frP_mk; assumption; apply frP_mk; assumption; apply frP_mk; assumption)

theorem fr_pageRead {m : Nat} (hm : Within 64 m) {s0 s : State} {a1} (h : Fr m s0 s) : FrP m s0 (State.pageRead s a1) := by
  unfold State.pageRead
  split
  with_reducible (apply frP_mk; assumption; apply fr_timePage (wt hm); assumption; apply frP_mk; assumption; apply frP_mk; assumption)
  with_reducible (apply frP_mk; assumption)

theorem fr_configWrite {m : Nat} (hm : Within 2 m) {s0 s : State} {a1 a2} (h : Fr m s0 s) : Fr m s0 (State.configWrite s a1 a2) := by
  unfold State.configWrite
  dsimp only; split; split
  with_reducible (apply fr_inc32 (wt hm); assumption; apply fr_setReg (wt hm); apply fr_setReg (wt hm); apply fr_setReg (wt hm))
  with_reducible (apply fr_setReg (wt hm); apply fr_setReg (wt hm); assumption); split
  with_reducible (apply fr_inc32 (wt hm); assumption; apply fr_setReg (wt hm); apply fr_setReg (wt hm); assumption)

theorem fr_dowelPageWrite {m : Nat} (hm : Within 258 m) {s0 s : State} {a1 a2 a3} (h : Fr m s0 s) : Fr m s0 (State.dowelPageWrite s a1 a2 a3) := by
  unfold State.dowelPageWrite
  split; with_reducible (apply fr_setReg (wt hm); assumption); split; split
  with_reducible (apply fr_soft (wt hm); assumption; assumption); split; with_reducible assumption; dsimp only; split
  with_reducible assumption; split; with_reducible (apply fr_inc32 (wt hm); assumption); split; split
  with_reducible (apply fr_channelEnable (wt hm); assumption); split
  with_reducible (apply fr_channelDisable (wt hm); assumption; assumption; apply fr_configWrite (wt hm); assumption)
  with_reducible (apply fr_attrWrite (wt hm); assumption)

theorem fr_pageWrite {m : Nat} (hm : Within 565087 m) {s0 s : State} {a1 a2 a3} (h : Fr m s0 s) : Fr m s0 (State.pageWrite s a1 a2 a3) := by
  unfold State.pageWrite
  split; split; with_reducible (apply fr_setReg (wt hm); assumption); split
  with_reducible (apply fr_dmaPageCmd (wt hm); assumption; assumption); split; split
  with_reducible (apply fr_tlbDrop (wt hm); assumption; assumption); split; split
  with_reducible (apply fr_modFab (wt hm); assumption; assumption; assumption); dsimp only; split; split
  with_reducible (apply fr_setReg (wt hm); assumption; apply fr_modTb (wt hm); assumption; apply fr_modTb (wt hm); assumption); split
  with_reducible (apply fr_tbPageSet (wt hm); assumption; assumption; assumption; assumption; apply fr_dowelPageWrite (wt hm))
  with_reducible assumption; split; with_reducible (apply fr_counterZero (wt hm); assumption; assumption; assumption)

theorem fr_pageAccess {m : Nat} (hm : Within 565087 m) {s0 s : State} {a1 a2 a3 a4 a5 a6 a7 a8 a9} (h : Fr m s0 s) : FrP m s0 (State.pageAccess s a1 a2 a3 a4 a5 a6 a7 a8 a9) := by
  unfold State.pageAccess
  split; with_reducible (apply frP_mk; assumption); split; with_reducible (apply frP_mk; assumption); dsimp only; split; split
  with_reducible (apply frP_mk; assumption; apply frP_mk; apply fr_each; assumption); intro _ _ _
  with_reducible (apply fr_pageWrite (wt hm); assumption; apply frP_mk; apply fr_snd; apply fr_foldl2; assumption); intro _ _ _
  with_reducible (apply frP_mk; apply fr_snd; apply fr_pageRead (wt hm); assumption)

theorem fr_targetAccess {m : Nat} (hm : Within 565087 m) {s0 s : State} {a1 a2 a3 a4 a5 a6 a7 a8} (h : Fr m s0 s) : FrP m s0 (State.targetAccess s a1 a2 a3 a4 a5 a6 a7 a8) := by
  unfold State.targetAccess
  split; split; with_reducible (apply frP_mk; assumption; apply frP_mk; assumption); split
  with_reducible (apply frP_mk; assumption; apply frP_mk; assumption); split
  with_reducible (apply frP_mk; apply fr_modFab (wt hm); assumption; apply frP_mk; assumption); split
  with_reducible (apply fr_pageAccess (wt hm); assumption; apply fr_storeAccess (wt hm); assumption)

theorem fr_finishRequest {m : Nat} (hm : Within 6146 m) {s0 s : State} {a1 a2 a3 a4} (h : Fr m s0 s) : Fr m s0 (State.finishRequest s a1 a2 a3 a4) := by
  unfold State.finishRequest
  split; dsimp only; with_reducible (apply fr_modCore (wt hm); assumption); split
  with_reducible (apply fr_dmaBeat (wt hm); assumption; apply fr_modFab (wt hm); assumption)

theorem fr_lockFor {m : Nat} (hm : Within 2050 m) {s0 s : State} {a1 a2} (h : Fr m s0 s) : Fr m s0 (State.lockFor s a1 a2) := by
  unfold State.lockFor
  split; with_reducible apply fr_modFab (wt hm); split; with_reducible (assumption; apply fr_lockStart (wt hm); assumption; assumption)

theorem fr_grantReq {m : Nat} (hm : Within 565087 m) {s0 s : State} {a1 a2} (h : Fr m s0 s) : Fr m s0 (State.grantReq s a1 a2) := by
  unfold State.grantReq
  dsimp only; split; with_reducible apply fr_lockEnd (wt hm); split
  with_reducible (apply fr_finishRequest (wt hm); apply fr_snd; apply fr_targetAccess (wt hm); apply fr_meter (wt hm))
  with_reducible (apply fr_lockFor (wt hm); apply fr_modFab (wt hm); assumption; apply fr_finishRequest (wt hm))
  with_reducible (apply fr_fabFault (wt hm); apply fr_snd; apply fr_targetAccess (wt hm); apply fr_meter (wt hm))
  with_reducible (apply fr_lockFor (wt hm); apply fr_modFab (wt hm); assumption); split
  with_reducible (apply fr_finishRequest (wt hm); apply fr_snd; apply fr_targetAccess (wt hm); apply fr_meter (wt hm))
  with_reducible (apply fr_lockFor (wt hm); apply fr_modFab (wt hm); assumption; apply fr_finishRequest (wt hm))
  with_reducible (apply fr_fabFault (wt hm); apply fr_snd; apply fr_targetAccess (wt hm); apply fr_meter (wt hm))
  with_reducible (apply fr_lockFor (wt hm); apply fr_modFab (wt hm); assumption)

theorem fr_grantAll {m : Nat} (hm : Within 565087 m) {s0 s : State} {n : Nat} (h : Fr m s0 s) : Fr m s0 (State.grantAll n s) := by
  induction n generalizing s with
  | zero => exact h
  | succ n ih =>
    unfold State.grantAll
    split; apply ih; with_reducible (apply fr_grantReq (wt hm); assumption; assumption)

theorem fr_deliverRequest {m : Nat} (hm : Within 565087 m) {s0 s : State} {a1 a2 a3 a4 a5} (h : Fr m s0 s) : Fr m s0 (State.deliverRequest s a1 a2 a3 a4 a5) := by
  unfold State.deliverRequest
  split; with_reducible (apply fr_finishRequest (wt hm); apply fr_fabFault (wt hm); assumption; apply fr_grantAll (wt hm))
  with_reducible (apply fr_modFab (wt hm); assumption)

theorem fr_endXlate {m : Nat} (hm : Within 565087 m) {s0 s : State} {a1 a2 a3 a4} (h : Fr m s0 s) : Fr m s0 (State.endXlate s a1 a2 a3 a4) := by
  unfold State.endXlate
  split
  with_reducible (apply fr_finishRequest (wt hm); apply fr_fabFault (wt hm); assumption; apply fr_modFab (wt hm); apply fr_inc64 (wt hm))
  with_reducible assumption; dsimp only; with_reducible (apply fr_deliverRequest (wt hm); apply fr_inc64 (wt hm)); split
  with_reducible (apply fr_tlbTouch (wt hm); assumption; assumption)

theorem fr_issueWindowed {m : Nat} (hm : Within 565087 m) {s0 s : State} {a1 a2 a3} (h : Fr m s0 s) : FrO m s0 (State.issueWindowed s a1 a2 a3) := by
  unfold State.issueWindowed
  split; with_reducible apply frO_none; dsimp only; split
  with_reducible (apply frO_some; apply fr_endXlate (wt hm); apply fr_inc64 (wt hm); assumption; apply frO_some)
  with_reducible (apply fr_endXlate (wt hm); assumption)

theorem fr_coreRequest {m : Nat} (hm : Within 565087 m) {s0 s : State} {a1 a2} (h : Fr m s0 s) : FrO m s0 (State.coreRequest s a1 a2) := by
  unfold State.coreRequest
  split; with_reducible apply frO_none; dsimp only; with_reducible (apply fr_issueWindowed (wt hm); apply fr_modCore (wt hm); assumption)

theorem fr_chanRequest {m : Nat} (hm : Within 565087 m) {s0 s : State} {a1 a2} (h : Fr m s0 s) : FrO m s0 (State.chanRequest s a1 a2) := by
  unfold State.chanRequest
  split; with_reducible (apply frO_some; apply fr_poolFull (wt hm); assumption); split; with_reducible apply frO_none; split
  with_reducible (apply frO_none; apply fr_issueWindowed (wt hm); apply fr_of_some (by assumption)); split
  with_reducible (apply fr_dmaLock (wt hm); assumption; apply frO_some; assumption)

theorem fr_plainRequest {m : Nat} (hm : Within 565087 m) {s0 s : State} {a1 a2} (h : Fr m s0 s) : Fr m s0 (State.plainRequest s a1 a2) := by
  unfold State.plainRequest
  split; with_reducible (apply fr_poolFull (wt hm); assumption; apply fr_deliverRequest (wt hm); assumption)

theorem fr_execFabricRequest {m : Nat} (hm : Within 565087 m) {s0 s : State} {a0 a1} (h : Fr m s0 s) : FrR m s0 (execFabricRequest a0 a1 s) := by
  unfold execFabricRequest
  with_reducible (apply frR_inst; apply frR_next); split
  with_reducible (apply fr_getD; apply fr_coreRequest (wt hm); assumption; assumption); split
  with_reducible (apply fr_getD; apply fr_chanRequest (wt hm); assumption; assumption; apply fr_plainRequest (wt hm); assumption)

theorem fr_execPageWalkComplete {m : Nat} (hm : Within 565087 m) {s0 s : State} {a0} (h : Fr m s0 s) : FrR m s0 (execPageWalkComplete a0 s) := by
  unfold execPageWalkComplete
  with_reducible apply frR_inst; split; with_reducible (apply frR_next; assumption); dsimp only
  with_reducible (apply frR_next; apply fr_endXlate (wt hm); apply fr_modFab (wt hm); apply fr_snd); split
  with_reducible (apply fr_walkNow (wt hm); assumption; apply frP_mk; assumption)

theorem fr_walkTick {m : Nat} (hm : Within 2 m) {s0 s : State} (h : Fr m s0 s) : Fr m s0 (State.walkTick s) := by
  unfold State.walkTick
  dsimp only; split; with_reducible (assumption; apply fr_inc64 (wt hm); assumption)

theorem fr_attrPage {m : Nat} (hm : Within 526083 m) {s0 s : State} {a1 a2 a3 a4} (h : Fr m s0 s) : Fr m s0 (State.attrPage s a1 a2 a3 a4) := by
  unfold State.attrPage
  dsimp only; with_reducible (apply fr_onPage (wt hm); assumption); intro _ _; split
  with_reducible (apply fr_fabFault (wt hm); assumption; apply fr_dowelPageWrite (wt hm); assumption)

theorem fr_execChannelAttr {m : Nat} (hm : Within 526083 m) {s0 s : State} {a0 a1 a2 a3} (h : Fr m s0 s) : FrR m s0 (execChannelAttr a0 a1 a2 a3 s) := by
  unfold execChannelAttr
  with_reducible (apply frR_inst; apply frR_next; apply fr_attrPage (wt hm); assumption)

theorem fr_execTbSet {m : Nat} (hm : Within 526147 m) {s0 s : State} {a0 a1 a2} (h : Fr m s0 s) : FrR m s0 (execTbSet a0 a1 a2 s) := by
  unfold execTbSet
  with_reducible apply frR_inst; dsimp only; with_reducible (apply frR_next; apply fr_onPage (wt hm); assumption); intro _ _; split
  with_reducible assumption; split; with_reducible (apply fr_fabFault (wt hm); assumption; apply fr_tbPageSet (wt hm); assumption)

theorem fr_chanOnPage {m : Nat} (hm : Within 526083 m) {s0 s : State} {mst c : Nat} {secure : Bool} {f : State → State} (h : Fr m s0 s)
    (hf : ∀ t, Fr m s0 t → Fr m s0 (f t)) : Fr m s0 (s.chanOnPage mst secure c f) := (fr_onPage (wt hm)) h hf

end Sys2Proof.Machine
end

