-- ==== Sys2Proof/Laws/FrameDspA.lean ====
section
/-! SUPPORT. What the definitions of Machine/DspA.lean leave alone (Fr). -/

set_option Elab.async false

namespace Sys2Proof.Machine

theorem fr_execSlotANop {m : Nat} (hm : Within 4098 m) {s0 s : State} {a0} (h : Fr m s0 s) : FrR m s0 (execSlotANop a0 s) := by
  unfold execSlotANop
  with_reducible (apply fr_slotAOp (wt hm); assumption)

theorem fr_execCmul {m : Nat} (hm : Within 4098 m) {s0 s : State} {a0} (h : Fr m s0 s) : FrR m s0 (execCmul a0 s) := by
  unfold execCmul
  with_reducible (apply fr_slotAOp (wt hm); assumption)

theorem fr_execCmulj {m : Nat} (hm : Within 4098 m) {s0 s : State} {a0} (h : Fr m s0 s) : FrR m s0 (execCmulj a0 s) := by
  unfold execCmulj
  with_reducible (apply fr_slotAOp (wt hm); assumption)

theorem fr_execCmac {m : Nat} (hm : Within 4098 m) {s0 s : State} {a0} (h : Fr m s0 s) : FrR m s0 (execCmac a0 s) := by
  unfold execCmac
  with_reducible (apply fr_slotAOp (wt hm); assumption)

theorem fr_execCmacj {m : Nat} (hm : Within 4098 m) {s0 s : State} {a0} (h : Fr m s0 s) : FrR m s0 (execCmacj a0 s) := by
  unfold execCmacj
  with_reducible (apply fr_slotAOp (wt hm); assumption)

theorem fr_execCmsu {m : Nat} (hm : Within 4098 m) {s0 s : State} {a0} (h : Fr m s0 s) : FrR m s0 (execCmsu a0 s) := by
  unfold execCmsu
  with_reducible (apply fr_slotAOp (wt hm); assumption)

theorem fr_execCmag {m : Nat} (hm : Within 4098 m) {s0 s : State} {a0} (h : Fr m s0 s) : FrR m s0 (execCmag a0 s) := by
  unfold execCmag
  with_reducible (apply fr_slotAOp (wt hm); assumption)

theorem fr_execCbfly {m : Nat} (hm : Within 4098 m) {s0 s : State} {a0} (h : Fr m s0 s) : FrR m s0 (execCbfly a0 s) := by
  unfold execCbfly
  with_reducible (apply fr_slotAOp (wt hm); assumption)

theorem fr_execAclr {m : Nat} (hm : Within 4098 m) {s0 s : State} {a0} (h : Fr m s0 s) : FrR m s0 (execAclr a0 s) := by
  unfold execAclr
  with_reducible (apply fr_slotAOp (wt hm); assumption)

theorem fr_execMva {m : Nat} (hm : Within 4098 m) {s0 s : State} {a0} (h : Fr m s0 s) : FrR m s0 (execMva a0 s) := by
  unfold execMva
  with_reducible (apply fr_slotAOp (wt hm); assumption)

theorem fr_execMva2 {m : Nat} (hm : Within 4098 m) {s0 s : State} {a0} (h : Fr m s0 s) : FrR m s0 (execMva2 a0 s) := by
  unfold execMva2
  with_reducible (apply fr_slotAOp (wt hm); assumption)

theorem fr_execCadd {m : Nat} (hm : Within 4098 m) {s0 s : State} {a0} (h : Fr m s0 s) : FrR m s0 (execCadd a0 s) := by
  unfold execCadd
  with_reducible (apply fr_slotAOp (wt hm); assumption)

theorem fr_execCsub {m : Nat} (hm : Within 4098 m) {s0 s : State} {a0} (h : Fr m s0 s) : FrR m s0 (execCsub a0 s) := by
  unfold execCsub
  with_reducible (apply fr_slotAOp (wt hm); assumption)

theorem fr_execCconj {m : Nat} (hm : Within 4098 m) {s0 s : State} {a0} (h : Fr m s0 s) : FrR m s0 (execCconj a0 s) := by
  unfold execCconj
  with_reducible (apply fr_slotAOp (wt hm); assumption)

theorem fr_execBexd {m : Nat} (hm : Within 4098 m) {s0 s : State} {a0} (h : Fr m s0 s) : FrR m s0 (execBexd a0 s) := by
  unfold execBexd
  with_reducible (apply fr_slotAOp (wt hm); assumption)

theorem fr_execBexs {m : Nat} (hm : Within 4098 m) {s0 s : State} {a0} (h : Fr m s0 s) : FrR m s0 (execBexs a0 s) := by
  unfold execBexs
  with_reducible (apply fr_slotAOp (wt hm); assumption)

theorem fr_execAddD {m : Nat} (hm : Within 4098 m) {s0 s : State} {a0} (h : Fr m s0 s) : FrR m s0 (execAddD a0 s) := by
  unfold execAddD
  with_reducible (apply fr_slotAOp (wt hm); assumption)

theorem fr_execSubD {m : Nat} (hm : Within 4098 m) {s0 s : State} {a0} (h : Fr m s0 s) : FrR m s0 (execSubD a0 s) := by
  unfold execSubD
  with_reducible (apply fr_slotAOp (wt hm); assumption)

theorem fr_execAndD {m : Nat} (hm : Within 4098 m) {s0 s : State} {a0} (h : Fr m s0 s) : FrR m s0 (execAndD a0 s) := by
  unfold execAndD
  with_reducible (apply fr_slotAOp (wt hm); assumption)

theorem fr_execOrD {m : Nat} (hm : Within 4098 m) {s0 s : State} {a0} (h : Fr m s0 s) : FrR m s0 (execOrD a0 s) := by
  unfold execOrD
  with_reducible (apply fr_slotAOp (wt hm); assumption)

theorem fr_execXorD {m : Nat} (hm : Within 4098 m) {s0 s : State} {a0} (h : Fr m s0 s) : FrR m s0 (execXorD a0 s) := by
  unfold execXorD
  with_reducible (apply fr_slotAOp (wt hm); assumption)

theorem fr_execShl {m : Nat} (hm : Within 4098 m) {s0 s : State} {a0} (h : Fr m s0 s) : FrR m s0 (execShl a0 s) := by
  unfold execShl
  with_reducible (apply fr_slotAOp (wt hm); assumption)

theorem fr_execAsr {m : Nat} (hm : Within 4098 m) {s0 s : State} {a0} (h : Fr m s0 s) : FrR m s0 (execAsr a0 s) := by
  unfold execAsr
  with_reducible (apply fr_slotAOp (wt hm); assumption)

theorem fr_execLsr {m : Nat} (hm : Within 4098 m) {s0 s : State} {a0} (h : Fr m s0 s) : FrR m s0 (execLsr a0 s) := by
  unfold execLsr
  with_reducible (apply fr_slotAOp (wt hm); assumption)

theorem fr_execAddi {m : Nat} (hm : Within 4098 m) {s0 s : State} {a0} (h : Fr m s0 s) : FrR m s0 (execAddi a0 s) := by
  unfold execAddi
  with_reducible (apply fr_slotAOp (wt hm); assumption)

theorem fr_execMovi {m : Nat} (hm : Within 4098 m) {s0 s : State} {a0} (h : Fr m s0 s) : FrR m s0 (execMovi a0 s) := by
  unfold execMovi
  with_reducible (apply fr_slotAOp (wt hm); assumption)

theorem fr_execMovhi {m : Nat} (hm : Within 4098 m) {s0 s : State} {a0} (h : Fr m s0 s) : FrR m s0 (execMovhi a0 s) := by
  unfold execMovhi
  with_reducible (apply fr_slotAOp (wt hm); assumption)

theorem fr_execCmpD {m : Nat} (hm : Within 4098 m) {s0 s : State} {a0} (h : Fr m s0 s) : FrR m s0 (execCmpD a0 s) := by
  unfold execCmpD
  with_reducible (apply fr_slotAOp (wt hm); assumption)

theorem fr_execMulD {m : Nat} (hm : Within 4098 m) {s0 s : State} {a0} (h : Fr m s0 s) : FrR m s0 (execMulD a0 s) := by
  unfold execMulD
  with_reducible (apply fr_slotAOp (wt hm); assumption)

theorem fr_execDivD {m : Nat} (hm : Within 4098 m) {s0 s : State} {a0} (h : Fr m s0 s) : FrR m s0 (execDivD a0 s) := by
  unfold execDivD
  with_reducible (apply fr_slotAWith (wt hm); assumption); intro _ _ _; dsimp only
  with_reducible (apply fr_modCore (wt hm); apply fr_modCore (wt hm); apply fr_inc64 (wt hm); assumption)

theorem fr_execMovc {m : Nat} (hm : Within 4098 m) {s0 s : State} {a0} (h : Fr m s0 s) : FrR m s0 (execMovc a0 s) := by
  unfold execMovc
  with_reducible (apply fr_slotAWith (wt hm); assumption); intro _ _ _; dsimp only; split
  with_reducible (apply fr_modCore (wt hm); assumption; apply fr_modCore (wt hm); assumption)

theorem fr_execMovcw {m : Nat} (hm : Within 4098 m) {s0 s : State} {a0} (h : Fr m s0 s) : FrR m s0 (execMovcw a0 s) := by
  unfold execMovcw
  with_reducible (apply fr_slotAOp (wt hm); assumption)

theorem fr_execMovar {m : Nat} (hm : Within 4098 m) {s0 s : State} {a0} (h : Fr m s0 s) : FrR m s0 (execMovar a0 s) := by
  unfold execMovar
  with_reducible (apply fr_slotAOp (wt hm); assumption)

theorem fr_execMovra {m : Nat} (hm : Within 4098 m) {s0 s : State} {a0} (h : Fr m s0 s) : FrR m s0 (execMovra a0 s) := by
  unfold execMovra
  with_reducible (apply fr_slotAOp (wt hm); assumption)

theorem fr_execBr {m : Nat} (hm : Within 4098 m) {s0 s : State} {a0} (h : Fr m s0 s) : FrR m s0 (execBr a0 s) := by
  unfold execBr
  with_reducible (apply fr_slotAOp (wt hm); assumption)

theorem fr_execCall {m : Nat} (hm : Within 4098 m) {s0 s : State} {a0} (h : Fr m s0 s) : FrR m s0 (execCall a0 s) := by
  unfold execCall
  with_reducible (apply fr_slotAOp (wt hm); assumption)

theorem fr_execRet {m : Nat} (hm : Within 4098 m) {s0 s : State} {a0} (h : Fr m s0 s) : FrR m s0 (execRet a0 s) := by
  unfold execRet
  with_reducible (apply fr_slotAOp (wt hm); assumption)

theorem fr_execRti {m : Nat} (hm : Within 4098 m) {s0 s : State} {a0} (h : Fr m s0 s) : FrR m s0 (execRti a0 s) := by
  unfold execRti
  with_reducible (apply fr_slotAOp (wt hm); assumption)

theorem fr_execRep {m : Nat} (hm : Within 4098 m) {s0 s : State} {a0} (h : Fr m s0 s) : FrR m s0 (execRep a0 s) := by
  unfold execRep
  with_reducible (apply fr_slotAOp (wt hm); assumption)

theorem fr_execRepd {m : Nat} (hm : Within 4098 m) {s0 s : State} {a0} (h : Fr m s0 s) : FrR m s0 (execRepd a0 s) := by
  unfold execRepd
  with_reducible (apply fr_slotAWith (wt hm); assumption); intro _ _ _; dsimp only; with_reducible (apply fr_modCore (wt hm); assumption)

theorem fr_execEidi {m : Nat} (hm : Within 4098 m) {s0 s : State} {a0} (h : Fr m s0 s) : FrR m s0 (execEidi a0 s) := by
  unfold execEidi
  with_reducible (apply fr_slotAOp (wt hm); assumption)

theorem fr_execWaite {m : Nat} (hm : Within 4354 m) {s0 s : State} {a0} (h : Fr m s0 s) : FrR m s0 (execWaite a0 s) := by
  unfold execWaite
  with_reducible apply frR_inst; split; with_reducible (apply frR_next; assumption); split
  with_reducible (apply frR_next; apply fr_dspStall (wt hm); assumption); dsimp only; split
  with_reducible (apply frR_next; apply fr_setDspRun (wt hm); assumption; apply frR_next; apply fr_modCore (wt hm); apply fr_each)
  with_reducible (apply fr_beginBundle (wt hm); assumption); intro _ _ _; with_reducible (apply fr_takeInput (wt hm); assumption)

theorem fr_execSige {m : Nat} (hm : Within 4354 m) {s0 s : State} {a0} (h : Fr m s0 s) : FrR m s0 (execSige a0 s) := by
  unfold execSige
  with_reducible (apply fr_slotAWith (wt hm); assumption); intro _ _ _; with_reducible (apply fr_fire (wt hm); assumption)

theorem fr_execTrapD {m : Nat} (hm : Within 4098 m) {s0 s : State} {a0} (h : Fr m s0 s) : FrR m s0 (execTrapD a0 s) := by
  unfold execTrapD
  with_reducible (apply fr_slotAOp (wt hm); assumption)

theorem fr_execHaltD {m : Nat} (hm : Within 4098 m) {s0 s : State} {a0} (h : Fr m s0 s) : FrR m s0 (execHaltD a0 s) := by
  unfold execHaltD
  with_reducible (apply fr_slotAOp (wt hm); assumption)

end Sys2Proof.Machine
end

