-- ==== Sys2Proof/Laws/FrameDspB.lean ====
section
/-! SUPPORT. What the definitions of Machine/DspB.lean leave alone (Fr). -/

set_option Elab.async false

namespace Sys2Proof.Machine

theorem fr_countEcc {m : Nat} (hm : Within 2 m) {s0 s : State} {a1 a2} (h : Fr m s0 s) : Fr m s0 (State.countEcc s a1 a2) := by
  unfold State.countEcc
  with_reducible (apply fr_inc32 (wt hm); assumption)

theorem fr_execSlotBNop {m : Nat} (hm : Within 529667 m) {s0 s : State} {a0} (h : Fr m s0 s) : FrR m s0 (execSlotBNop a0 s) := by
  unfold execSlotBNop
  with_reducible (apply fr_slotBOp (wt hm); assumption)

theorem fr_execLd {m : Nat} (hm : Within 529667 m) {s0 s : State} {a0 a1} (h : Fr m s0 s) : FrR m s0 (execLd a0 a1 s) := by
  unfold execLd
  with_reducible (apply fr_slotBWith (wt hm); assumption); intro _ _ _
  with_reducible (apply fr_modCore (wt hm); apply fr_countEcc (wt hm); assumption)

theorem fr_execLdo {m : Nat} (hm : Within 529667 m) {s0 s : State} {a0 a1} (h : Fr m s0 s) : FrR m s0 (execLdo a0 a1 s) := by
  unfold execLdo
  with_reducible (apply fr_slotBWith (wt hm); assumption); intro _ _ _
  with_reducible (apply fr_modCore (wt hm); apply fr_countEcc (wt hm); assumption)

theorem fr_execSt {m : Nat} (hm : Within 529667 m) {s0 s : State} {a0} (h : Fr m s0 s) : FrR m s0 (execSt a0 s) := by
  unfold execSt
  with_reducible (apply fr_slotBOp (wt hm); assumption)

theorem fr_execSto {m : Nat} (hm : Within 529667 m) {s0 s : State} {a0} (h : Fr m s0 s) : FrR m s0 (execSto a0 s) := by
  unfold execSto
  with_reducible (apply fr_slotBOp (wt hm); assumption)

theorem fr_execLd2 {m : Nat} (hm : Within 529667 m) {s0 s : State} {a0 a1} (h : Fr m s0 s) : FrR m s0 (execLd2 a0 a1 s) := by
  unfold execLd2
  with_reducible (apply fr_slotBWith (wt hm); assumption); intro _ _ _
  with_reducible (apply fr_modCore (wt hm); apply fr_countEcc (wt hm); assumption)

theorem fr_execSt2 {m : Nat} (hm : Within 529667 m) {s0 s : State} {a0} (h : Fr m s0 s) : FrR m s0 (execSt2 a0 s) := by
  unfold execSt2
  with_reducible (apply fr_slotBOp (wt hm); assumption)

theorem fr_execLdst {m : Nat} (hm : Within 529667 m) {s0 s : State} {a0 a1} (h : Fr m s0 s) : FrR m s0 (execLdst a0 a1 s) := by
  unfold execLdst
  with_reducible (apply fr_slotBWith (wt hm); assumption); intro _ _ _
  with_reducible (apply fr_modCore (wt hm); apply fr_countEcc (wt hm); assumption)

theorem fr_execFld {m : Nat} (hm : Within 529667 m) {s0 s : State} {a0} (h : Fr m s0 s) : FrR m s0 (execFld a0 s) := by
  unfold execFld
  with_reducible (apply fr_slotBWith (wt hm); assumption); intro _ _ _
  with_reducible (apply fr_showFar (wt hm); apply fr_modCore (wt hm); assumption)

theorem fr_execFst {m : Nat} (hm : Within 529667 m) {s0 s : State} {a0} (h : Fr m s0 s) : FrR m s0 (execFst a0 s) := by
  unfold execFst
  with_reducible (apply fr_slotBWith (wt hm); assumption); intro _ _ _
  with_reducible (apply fr_showFar (wt hm); apply fr_modCore (wt hm); assumption)

theorem fr_execAmod {m : Nat} (hm : Within 529667 m) {s0 s : State} {a0} (h : Fr m s0 s) : FrR m s0 (execAmod a0 s) := by
  unfold execAmod
  with_reducible (apply fr_slotBOp (wt hm); assumption)

theorem fr_execLdai {m : Nat} (hm : Within 529667 m) {s0 s : State} {a0} (h : Fr m s0 s) : FrR m s0 (execLdai a0 s) := by
  unfold execLdai
  with_reducible (apply fr_slotBOp (wt hm); assumption)

theorem fr_settleDouble {m : Nat} (hm : Within 529667 m) {s0 s : State} {a1} (h : Fr m s0 s) : Fr m s0 (State.settleDouble s a1) := by
  unfold State.settleDouble
  split; with_reducible (assumption; apply fr_dspDouble (wt hm); assumption)

theorem fr_execFarResponse {m : Nat} (hm : Within 529667 m) {s0 s : State} {a0} (h : Fr m s0 s) : FrR m s0 (execFarResponse a0 s) := by
  unfold execFarResponse
  with_reducible apply frR_inst; split; with_reducible (apply frR_next; assumption); dsimp only; split
  with_reducible (apply frR_next; apply fr_modCore (wt hm); assumption; apply frR_next; apply fr_settleDouble (wt hm))
  with_reducible (apply fr_showFar (wt hm); apply fr_modCore (wt hm); apply fr_modCore (wt hm); assumption)

theorem fr_execFarTimeout {m : Nat} (hm : Within 529667 m) {s0 s : State} {a0} (h : Fr m s0 s) : FrR m s0 (execFarTimeout a0 s) := by
  unfold execFarTimeout
  with_reducible apply frR_inst; split
  with_reducible (apply frR_next; assumption; apply frR_next; apply fr_settleDouble (wt hm); apply fr_showFar (wt hm))
  with_reducible (apply fr_modCore (wt hm); assumption)

theorem fr_noteDeferral {m : Nat} (hm : Within 2 m) {s0 s : State} {a1 a2} (h : Fr m s0 s) : Fr m s0 (State.noteDeferral s a1 a2) := by
  unfold State.noteDeferral
  with_reducible (apply fr_setReg (wt hm); assumption)

theorem fr_execTrapEntry {m : Nat} (hm : Within 529667 m) {s0 s : State} {a0 a1 a2} (h : Fr m s0 s) : FrR m s0 (execTrapEntry a0 a1 a2 s) := by
  unfold execTrapEntry
  with_reducible apply frR_inst; dsimp only; split
  with_reducible (apply frR_next; apply fr_fire (wt hm); apply fr_setDspRun (wt hm); apply fr_noteDeferral (wt hm))
  with_reducible (apply fr_setReg (wt hm); apply fr_setReg (wt hm); apply fr_setReg (wt hm); apply fr_inc32 (wt hm))
  with_reducible apply fr_modCore (wt hm); split; split
  with_reducible (apply fr_settleDouble (wt hm); apply fr_modCore (wt hm); apply fr_inc32 (wt hm); assumption; apply fr_inc32 (wt hm))
  with_reducible assumption; split
  with_reducible (apply fr_settleDouble (wt hm); apply fr_modCore (wt hm); assumption; assumption; apply frR_next); split; split
  with_reducible (apply fr_settleDouble (wt hm); apply fr_modCore (wt hm); apply fr_inc32 (wt hm); assumption; apply fr_inc32 (wt hm))
  with_reducible assumption; split; with_reducible (apply fr_settleDouble (wt hm); apply fr_modCore (wt hm); assumption; assumption)

theorem fr_execInterruptEntry {m : Nat} (hm : Within 4354 m) {s0 s : State} {a0 a1} (h : Fr m s0 s) : FrR m s0 (execInterruptEntry a0 a1 s) := by
  unfold execInterruptEntry
  with_reducible apply frR_inst; split; dsimp only
  with_reducible (apply frR_next; apply fr_setDspRun (wt hm); apply fr_noteDeferral (wt hm); apply fr_inc64 (wt hm))
  with_reducible (apply fr_modCore (wt hm); apply fr_takeInput (wt hm); assumption; apply frR_next; assumption)

theorem fr_dspLoad {m : Nat} (hm : Within 4096 m) {s0 s : State} {a1} (h : Fr m s0 s) : Fr m s0 (State.dspLoad s a1) := by
  unfold State.dspLoad
  dsimp only; with_reducible (apply fr_modCore (wt hm); assumption)

theorem fr_dspImageLive {m : Nat} (hm : Within 4098 m) {s0 s : State} {a1} (h : Fr m s0 s) : Fr m s0 (State.dspImageLive s a1) := by
  unfold State.dspImageLive
  dsimp only; split; split
  with_reducible (apply fr_inc32 (wt hm); apply fr_modCore (wt hm); apply fr_setReg (wt hm); assumption; apply fr_modCore (wt hm))
  with_reducible (apply fr_modCore (wt hm); apply fr_setReg (wt hm); assumption); split
  with_reducible (apply fr_inc32 (wt hm); apply fr_modCore (wt hm); apply fr_setReg (wt hm); assumption; apply fr_modCore (wt hm))
  with_reducible (apply fr_modCore (wt hm); apply fr_setReg (wt hm); assumption)

theorem fr_execImageApply {m : Nat} (hm : Within 4098 m) {s0 s : State} {a0} (h : Fr m s0 s) : FrR m s0 (execImageApply a0 s) := by
  unfold execImageApply
  with_reducible apply frR_inst; dsimp only; split
  with_reducible (apply frR_next; apply fr_setDspRun (wt hm); apply fr_inc32 (wt hm); apply fr_modCore (wt hm); assumption)
  with_reducible (apply frR_next; assumption)

theorem fr_execImageLoadComplete {m : Nat} (hm : Within 4098 m) {s0 s : State} {a0} (h : Fr m s0 s) : FrR m s0 (execImageLoadComplete a0 s) := by
  unfold execImageLoadComplete
  with_reducible apply frR_inst; split
  with_reducible (apply frR_next; apply fr_setDspRun (wt hm); apply fr_modCore (wt hm); apply fr_dspLoad (wt hm); assumption)
  with_reducible (apply frR_next; assumption)

theorem fr_dspEnabling {m : Nat} (hm : Within 4354 m) {s0 s : State} {a1} (h : Fr m s0 s) : Fr m s0 (State.dspEnabling s a1) := by
  unfold State.dspEnabling
  dsimp only; with_reducible (apply fr_setDspRun (wt hm); apply fr_each; apply fr_modCore (wt hm); apply fr_dspLoad (wt hm); assumption)
  intro _ _ _; with_reducible (apply fr_setInput (wt hm); assumption)

theorem fr_dspTurnsOn {m : Nat} (hm : Within 2 m) {s0 s : State} {a1} (h : Fr m s0 s) : Fr m s0 (State.dspTurnsOn s a1) := by
  unfold State.dspTurnsOn
  with_reducible (apply fr_setDspRun (wt hm); assumption)

theorem fr_dspDisabling {m : Nat} (hm : Within 4098 m) {s0 s : State} {a1} (h : Fr m s0 s) : Fr m s0 (State.dspDisabling s a1) := by
  unfold State.dspDisabling
  dsimp only; with_reducible apply fr_setDspRun (wt hm); split; with_reducible (apply fr_modCore (wt hm); assumption); split
  with_reducible (apply fr_modCore (wt hm); assumption; apply fr_modCore (wt hm); assumption)

theorem fr_dspTurnsOff {m : Nat} (hm : Within 4098 m) {s0 s : State} {a1} (h : Fr m s0 s) : Fr m s0 (State.dspTurnsOff s a1) := by
  unfold State.dspTurnsOff
  split; with_reducible (apply fr_inc32 (wt hm); apply fr_modCore (wt hm); assumption; assumption)

theorem fr_cmdDspHalt {m : Nat} (hm : Within 4098 m) {s0 s : State} {a0} (h : Fr m s0 s) : FrV m s0 (cmdDspHalt a0 s) := by
  unfold cmdDspHalt
  dsimp only; with_reducible apply frV_ok; split; with_reducible (apply fr_setDspRun (wt hm); apply fr_modCore (wt hm); assumption); split
  with_reducible (apply fr_modCore (wt hm); assumption; assumption)

theorem fr_cmdDspResume {m : Nat} (hm : Within 4098 m) {s0 s : State} {a0} (h : Fr m s0 s) : FrV m s0 (cmdDspResume a0 s) := by
  unfold cmdDspResume
  with_reducible (apply frV_accept; apply fr_setDspRun (wt hm); apply fr_modCore (wt hm); assumption)

theorem fr_cmdDspStep {m : Nat} (hm : Within 4098 m) {s0 s : State} {a0} (h : Fr m s0 s) : FrV m s0 (cmdDspStep a0 s) := by
  unfold cmdDspStep
  with_reducible (apply frV_accept; apply fr_setDspRun (wt hm); apply fr_modCore (wt hm); assumption)

theorem fr_execBreakpointHit {m : Nat} (hm : Within 4098 m) {s0 s : State} {a0} (h : Fr m s0 s) : FrR m s0 (execBreakpointHit a0 s) := by
  unfold execBreakpointHit
  with_reducible apply frR_inst; split
  with_reducible (apply frR_next; apply fr_setDspRun (wt hm); apply fr_modCore (wt hm); assumption; apply frR_next; assumption)

theorem fr_setDspRegs {m : Nat} (hm : Within 4096 m) {s0 s : State} {a1 a2} (h : Fr m s0 s) : Fr m s0 (State.setDspRegs s a1 a2) := by
  unfold State.setDspRegs
  dsimp only; with_reducible (apply fr_modCore (wt hm); assumption)

theorem fr_dspTick {m : Nat} (hm : Within 4096 m) {s0 s : State} (h : Fr m s0 s) : Fr m s0 (State.dspTick s) := by
  unfold State.dspTick
  with_reducible (apply fr_each; assumption); intro _ _ _; with_reducible (apply fr_modCore (wt hm); assumption)

theorem fr_checkImage {m : Nat} (hm : Within 2 m) {s0 s : State} {a1 a2} (h : Fr m s0 s) : FrP m s0 (State.checkImage s a1 a2) := by
  unfold State.checkImage
  split; with_reducible (apply frP_mk; assumption; apply frP_mk; apply fr_setReg (wt hm); apply fr_setReg (wt hm); assumption)

end Sys2Proof.Machine
end

