-- ==== Sys2Proof/Laws/FrameUnits.lean ====
section
/-! SUPPORT. What the definitions of Machine/Units.lean leave alone (Fr). -/

set_option Elab.async false

namespace Sys2Proof.Machine

theorem fr_startEnabling {m : Nat} (hm : Within 947651 m) {s0 s : State} {a1 a2} (h : Fr m s0 s) : Fr m s0 (State.startEnabling s a1 a2) := by
  unfold State.startEnabling
  split; with_reducible (apply fr_groupEnabling (wt hm); assumption; apply fr_cribEnabling (wt hm); assumption)
  with_reducible (apply fr_monitorEnabling (wt hm); assumption; apply fr_frontEnabling (wt hm); assumption)
  with_reducible (apply fr_cameraEnabling (wt hm); assumption; apply fr_doveEnabling (wt hm); assumption; apply fr_gleanEnabling (wt hm))
  with_reducible (assumption; apply fr_scalerEnabling (wt hm); assumption; apply fr_dspEnabling (wt hm); assumption)
  with_reducible (apply fr_modAxis (wt hm); assumption; apply fr_each; assumption); intro _ _ _; split
  with_reducible (apply fr_setReg (wt hm); assumption; assumption; assumption; assumption; assumption; assumption; assumption)
  with_reducible (assumption; assumption; assumption; assumption; assumption)

theorem fr_reachOn {m : Nat} (hm : Within 1003459 m) {s0 s : State} {a1 a2} (h : Fr m s0 s) : FrO m s0 (State.reachOn s a1 a2) := by
  unfold State.reachOn
  dsimp only; split
  with_reducible (apply frO_some; apply fr_setReg (wt hm); assumption; apply frO_some; apply fr_setReg (wt hm); assumption)
  with_reducible (apply frO_some; apply fr_setReg (wt hm); assumption; apply frO_some; apply fr_setReg (wt hm); assumption)
  with_reducible (apply frO_some; apply fr_setReg (wt hm); assumption; apply frO_some; apply fr_channelReaches (wt hm))
  with_reducible (apply fr_setReg (wt hm); assumption; apply frO_some; apply fr_groupOn (wt hm); assumption; apply frO_some)
  with_reducible (apply fr_cribTurnsOn (wt hm); apply fr_setReg (wt hm); assumption; apply frO_some; apply fr_jigOn (wt hm))
  with_reducible (apply fr_setReg (wt hm); assumption; apply frO_some; apply fr_winnowTurnsOn (wt hm); apply fr_setReg (wt hm))
  with_reducible (assumption; apply frO_some; apply fr_dspTurnsOn (wt hm); apply fr_setReg (wt hm); assumption; apply frO_some)
  with_reducible (apply fr_dmaTurnsOn (wt hm); apply fr_setReg (wt hm); assumption); split
  with_reducible (apply frO_none; apply frO_some; apply fr_axisStart (wt hm); assumption; apply frO_some; apply fr_genStart (wt hm))
  with_reducible (assumption; apply frO_some; apply fr_counterOn (wt hm); apply fr_setReg (wt hm); assumption; apply frO_none)
  with_reducible (apply frO_none; apply frO_none; apply frO_none; apply frO_none; apply frO_none)

theorem fr_toDisabling {m : Nat} (hm : Within 2 m) {s0 s : State} {a1 a2} (h : Fr m s0 s) : Fr m s0 (State.toDisabling s a1 a2) := by
  unfold State.toDisabling
  with_reducible apply fr_setReg (wt hm); split; with_reducible (assumption; apply fr_setReg (wt hm); assumption)

theorem fr_startDisabling {m : Nat} (hm : Within 9420799 m) {s0 s : State} {a1 a2 a3} (h : Fr m s0 s) : Fr m s0 (State.startDisabling s a1 a2 a3) := by
  unfold State.startDisabling
  split
  with_reducible (apply fr_closePort (wt hm); assumption; apply fr_groupDisabling (wt hm); assumption; apply fr_cribDisabling (wt hm))
  with_reducible (assumption; apply fr_cameraDisabling (wt hm); assumption; apply fr_frontDisabling (wt hm); assumption)
  with_reducible (apply fr_doveDisabling (wt hm); assumption; apply fr_gleanDisabling (wt hm); assumption; apply fr_dspDisabling (wt hm))
  with_reducible (assumption; apply fr_dmaAbort (wt hm); assumption; apply fr_axisLeaves (wt hm); assumption)
  with_reducible (apply fr_cancelEntries (wt hm); assumption; apply fr_jigDisabling (wt hm); assumption); split
  with_reducible (apply fr_channelLeaves (wt hm); assumption; assumption; assumption; assumption; assumption; assumption; assumption)
  with_reducible (assumption; assumption; assumption)

theorem fr_disableOne {m : Nat} (hm : Within 9437183 m) {s0 s : State} {a1 a2 a3} (h : Fr m s0 s) : Fr m s0 (State.disableOne s a1 a2 a3) := by
  unfold State.disableOne
  split; dsimp only; split; with_reducible (apply fr_setReg (wt hm); apply fr_scalerTurnsOff (wt hm); apply fr_startDisabling (wt hm))
  with_reducible (apply fr_toDisabling (wt hm); assumption; apply fr_startDisabling (wt hm); apply fr_toDisabling (wt hm); assumption)
  with_reducible (apply fr_startDisabling (wt hm); apply fr_toDisabling (wt hm); assumption; apply fr_toDisabling (wt hm); assumption)
  split; with_reducible assumption; split; with_reducible (apply fr_setReg (wt hm); assumption; assumption)

theorem fr_disableUnit {m : Nat} (hm : Within 9437183 m) {s0 s : State} {a1 a2 a3} (h : Fr m s0 s) : Fr m s0 (State.disableUnit s a1 a2 a3) := by
  unfold State.disableUnit
  dsimp only; with_reducible apply fr_disableOne (wt hm); split; with_reducible (apply fr_foldl; assumption); intro _ _ _; split
  with_reducible (assumption; apply fr_disableOne (wt hm); assumption; assumption)

theorem fr_turnOff {m : Nat} (hm : Within 1013059 m) {s0 s : State} {a1 a2} (h : Fr m s0 s) : Fr m s0 (State.turnOff s a1 a2) := by
  unfold State.turnOff
  split
  with_reducible (apply fr_setReg (wt hm); assumption; apply fr_groupOff (wt hm); assumption; apply fr_cribTurnsOff (wt hm); assumption)
  with_reducible (apply fr_jigOff (wt hm); assumption; apply fr_formatterTurnsOff (wt hm); assumption; apply fr_leaveChannel (wt hm))
  with_reducible (assumption; apply fr_cameraTurnsOff (wt hm); assumption; apply fr_winnowTurnsOff (wt hm); assumption)
  with_reducible (apply fr_scalerTurnsOff (wt hm); assumption; apply fr_signalLoss (wt hm); apply fr_each; assumption); intro _ _ _
  with_reducible (apply fr_ptpPort (wt hm); apply fr_setReg (wt hm); assumption; apply fr_dspTurnsOff (wt hm); assumption; assumption)
  with_reducible (assumption; assumption; assumption; assumption; assumption; assumption; assumption; assumption; assumption)

theorem fr_unitOff {m : Nat} (hm : Within 1013187 m) {s0 s : State} {a1 a2} (h : Fr m s0 s) : Fr m s0 (State.unitOff s a1 a2) := by
  unfold State.unitOff
  dsimp only; with_reducible apply fr_reachOff (wt hm); split
  with_reducible (apply fr_setReg (wt hm); apply fr_turnOff (wt hm); assumption; apply fr_turnOff (wt hm); assumption); intro _ _
  with_reducible (apply fr_startEnabling (wt hm); assumption)

theorem fr_enableUnit {m : Nat} (hm : Within 947651 m) {s0 s : State} {a1 a2} (h : Fr m s0 s) : FrV m s0 (State.enableUnit s a1 a2) := by
  unfold State.enableUnit
  split; with_reducible (apply frV_ok; apply fr_setReg (wt hm); assumption); split; split
  with_reducible (apply frV_ok; apply fr_startEnabling (wt hm); apply fr_setReg (wt hm); apply fr_setReg (wt hm); assumption)
  with_reducible apply frV_error; split
  with_reducible (apply frV_ok; apply fr_setReg (wt hm); apply fr_setReg (wt hm); assumption; apply frV_error; apply frV_ok)
  with_reducible (apply fr_setReg (wt hm); assumption)

theorem fr_disableWritten {m : Nat} (hm : Within 9437183 m) {s0 s : State} {a1 a2} (h : Fr m s0 s) : Fr m s0 (State.disableWritten s a1 a2) := by
  unfold State.disableWritten
  split; with_reducible (apply fr_setReg (wt hm); assumption; apply fr_setReg (wt hm); apply fr_disableUnit (wt hm); assumption)

theorem fr_execEnablingComplete {m : Nat} (hm : Within 1003459 m) {s0 s : State} {a0} (h : Fr m s0 s) : FrR m s0 (execEnablingComplete a0 s) := by
  unfold execEnablingComplete
  with_reducible apply frR_inst; split; split
  with_reducible (apply frR_next; apply fr_getD; apply fr_reachOn (wt hm); assumption; assumption; apply frR_next; assumption)
  with_reducible (apply frR_next; assumption)

theorem fr_keepStop {m : Nat} (hm : Within 9437183 m) {s0 s : State} {a1} (h : Fr m s0 s) : Fr m s0 (State.keepStop s a1) := by
  unfold State.keepStop
  with_reducible (apply fr_foldl; assumption); intro _ _ _; split; with_reducible (assumption; apply fr_disableUnit (wt hm); assumption)

theorem fr_keepSteps {m : Nat} (hm : Within 9437183 m) {s0 s : State} {n : Nat} (h : Fr m s0 s) : Fr m s0 (State.keepSteps n s) := by
  induction n generalizing s with
  | zero => exact h
  | succ n ih =>
    unfold State.keepSteps
    dsimp only; split; apply ih; with_reducible apply fr_keepStop (wt hm); apply fr_mk_power (wt hm)
    with_reducible (assumption; assumption)

theorem fr_keepAdvance {m : Nat} (hm : Within 9437183 m) {s0 s : State} (h : Fr m s0 s) : Fr m s0 (State.keepAdvance s) := by
  unfold State.keepAdvance
  with_reducible (apply fr_keepSteps (wt hm); assumption)

theorem fr_execDisablingComplete {m : Nat} (hm : Within 9437183 m) {s0 s : State} {a0} (h : Fr m s0 s) : FrR m s0 (execDisablingComplete a0 s) := by
  unfold execDisablingComplete
  with_reducible apply frR_inst; split; split
  with_reducible (apply frR_next; apply fr_keepAdvance (wt hm); apply fr_unitOff (wt hm); assumption; apply frR_next; assumption)
  with_reducible (apply frR_next; assumption)

end Sys2Proof.Machine
end

