-- ==== Sys2Proof/Laws/FrameDram.lean ====
section
/-! SUPPORT. What the definitions of Machine/Dram.lean leave alone (Fr). -/

set_option Elab.async false

namespace Sys2Proof.Machine

theorem fr_execChannelLost {m : Nat} (hm : Within 558879 m) {s0 s : State} {a0 a1} (h : Fr m s0 s) : FrR m s0 (execChannelLost a0 a1 s) := by
  unfold execChannelLost
  with_reducible (apply frR_inst; apply frR_next); split; with_reducible (apply fr_channelLost (wt hm); assumption; assumption)

theorem fr_cmdDeclareLost {m : Nat} (hm : Within 558879 m) {s0 s : State} {a0} (h : Fr m s0 s) : FrV m s0 (cmdDeclareLost a0 s) := by
  unfold cmdDeclareLost
  with_reducible (apply frV_ok; apply fr_channelLost (wt hm); assumption)

theorem fr_trainDraw {m : Nat} (hm : Within 8 m) {s0 s : State} (h : Fr m s0 s) : Fr m s0 ((State.trainDraw s).2.2) := by
  unfold State.trainDraw
  dsimp only
  with_reducible (apply fr_snd; apply fr_draw (wt hm); apply fr_snd; apply fr_draw (wt hm); assumption)

theorem fr_zeroUnprotected {m : Nat} (hm : Within 32784 m) {s0 s : State} {a1} (h : Fr m s0 s) : Fr m s0 (State.zeroUnprotected s a1) := by
  unfold State.zeroUnprotected
  dsimp only; with_reducible apply fr_setDdr (wt hm); apply fr_mk_dram (wt hm); with_reducible assumption

theorem fr_cmdRebuild {m : Nat} (hm : Within 32798 m) {s0 s : State} {a0} (h : Fr m s0 s) : FrV m s0 (cmdRebuild a0 s) := by
  unfold cmdRebuild
  split; with_reducible apply frV_error; dsimp only; split
  with_reducible (apply frV_ok; apply fr_setReg (wt hm); apply fr_trainDraw (wt hm); assumption; apply frV_ok; apply fr_modChan (wt hm))
  with_reducible (apply fr_zeroUnprotected (wt hm); apply fr_setReg (wt hm); apply fr_setReg (wt hm); apply fr_takeDelays (wt hm))
  with_reducible (apply fr_trainDraw (wt hm); assumption)

theorem fr_rebuildUnit {m : Nat} (hm : Within 32786 m) {s0 s : State} {a1 a2} (h : Fr m s0 s) : Fr m s0 (State.rebuildUnit s a1 a2) := by
  unfold State.rebuildUnit
  dsimp only; with_reducible (apply fr_setReg (wt hm); apply fr_modChan (wt hm)); split
  with_reducible (apply fr_deviceWrite (wt hm); apply fr_each; assumption); intro _ _ _
  with_reducible (apply fr_deviceRead (wt hm); assumption; apply fr_markUnit (wt hm); apply fr_deviceWrite (wt hm); apply fr_each)
  with_reducible assumption; intro _ _ _; with_reducible (apply fr_deviceRead (wt hm); assumption)

theorem fr_rebuildTick {m : Nat} (hm : Within 32786 m) {s0 s : State} {a1} (h : Fr m s0 s) : Fr m s0 (State.rebuildTick s a1) := by
  unfold State.rebuildTick
  dsimp only; with_reducible (apply fr_each; apply fr_modChan (wt hm); assumption); intro _ _ _
  with_reducible (apply fr_rebuildUnit (wt hm); assumption)

theorem fr_dramTick {m : Nat} (hm : Within 32786 m) {s0 s : State} (h : Fr m s0 s) : Fr m s0 (State.dramTick s) := by
  unfold State.dramTick
  dsimp only; split; with_reducible (apply fr_each; assumption); intro _ _ _
  with_reducible (apply fr_rebuildTick (wt hm); assumption; apply fr_inc64 (wt hm); apply fr_each; assumption); intro _ _ _
  with_reducible (apply fr_rebuildTick (wt hm); assumption)

theorem fr_rebuildRest {m : Nat} (hm : Within 32786 m) {s0 s : State} {a1} (h : Fr m s0 s) : Fr m s0 (State.rebuildRest s a1) := by
  unfold State.rebuildRest
  dsimp only; with_reducible (apply fr_modChan (wt hm); apply fr_inc64 (wt hm); apply fr_each; apply fr_each; assumption); intro _ _ _
  with_reducible (apply fr_markUnit (wt hm); apply fr_putUnit (wt hm); assumption); intro _ _ _
  with_reducible (apply fr_inc64 (wt hm); assumption)

theorem fr_execRebuildComplete {m : Nat} (hm : Within 558355 m) {s0 s : State} {a0} (h : Fr m s0 s) : FrR m s0 (execRebuildComplete a0 s) := by
  unfold execRebuildComplete
  with_reducible apply frR_inst; split; dsimp only
  with_reducible (apply frR_next; apply fr_faultRecord (wt hm); apply fr_setReg (wt hm); apply fr_setReg (wt hm))
  with_reducible (apply fr_rebuildRest (wt hm); assumption; apply frR_next; assumption)

theorem fr_execDramRead {m : Nat} (hm : Within 558879 m) {s0 s : State} {a0 a1 a2} (h : Fr m s0 s) : FrR m s0 (execDramRead a0 a1 a2 s) := by
  unfold execDramRead
  with_reducible apply frR_inst; split; with_reducible (apply frR_next; assumption); split; with_reducible (apply frR_next; assumption)
  dsimp only; split; with_reducible (apply frR_next; apply fr_enqueue (wt hm); apply fr_meterU (wt hm); assumption; apply frR_next)
  with_reducible (apply fr_readUnit (wt hm); apply fr_meterU (wt hm); assumption)

theorem fr_execScrubRead {m : Nat} (hm : Within 558879 m) {s0 s : State} {a0 a1} (h : Fr m s0 s) : FrR m s0 (execScrubRead a0 a1 s) := by
  unfold execScrubRead
  with_reducible apply frR_inst; split; dsimp only; with_reducible apply frR_next; split; split
  with_reducible (apply fr_deviceWrite (wt hm); apply fr_readUnit (wt hm); apply fr_modChan (wt hm); assumption)
  with_reducible (apply fr_readUnit (wt hm); apply fr_modChan (wt hm); assumption); split
  with_reducible (apply fr_deviceWrite (wt hm); apply fr_readUnit (wt hm); apply fr_modChan (wt hm); assumption)
  with_reducible (apply fr_readUnit (wt hm); apply fr_modChan (wt hm); assumption; apply frR_next; assumption)

theorem fr_execParityEngineWrite {m : Nat} (hm : Within 558363 m) {s0 s : State} {a0 a1} (h : Fr m s0 s) : FrR m s0 (execParityEngineWrite a0 a1 s) := by
  unfold execParityEngineWrite
  split; with_reducible (apply frR_next; apply fr_store (wt hm); assumption; apply frR_next; assumption)

theorem fr_execAssemblyClose {m : Nat} (hm : Within 558363 m) {s0 s : State} {a0} (h : Fr m s0 s) : FrR m s0 (execAssemblyClose a0 s) := by
  unfold execAssemblyClose
  split
  with_reducible (apply frR_next; apply fr_admitWriters (wt hm); apply fr_closeAssembly (wt hm); assumption; apply frR_next; assumption)

theorem fr_flushEngine {m : Nat} (hm : Within 558363 m) {s0 s : State} (h : Fr m s0 s) : Fr m s0 (State.flushEngine s) := by
  unfold State.flushEngine
  dsimp only; with_reducible (apply fr_each; apply fr_each; assumption); intro _ _ _
  with_reducible (apply fr_closeAssembly (wt hm); assumption); intro _ _ _; with_reducible (apply fr_closeStripe (wt hm); assumption)

theorem fr_refresh {m : Nat} (hm : Within 32774 m) {s0 s : State} {a1 a2} (h : Fr m s0 s) : Fr m s0 (State.refresh s a1 a2) := by
  unfold State.refresh
  dsimp only; split; with_reducible (apply fr_takeDelays (wt hm); apply fr_modChan (wt hm); apply fr_closeRows (wt hm); assumption)
  with_reducible (apply fr_modChan (wt hm); apply fr_closeRows (wt hm); assumption)

theorem fr_execRefreshDue {m : Nat} (hm : Within 32774 m) {s0 s : State} {a0 a1 a2} (h : Fr m s0 s) : FrR m s0 (execRefreshDue a0 a1 a2 s) := by
  unfold execRefreshDue
  with_reducible apply frR_inst; split; dsimp only; split
  with_reducible (apply frR_next; apply fr_inc32 (wt hm); apply fr_modChan (wt hm); assumption; apply frR_next; apply fr_refresh (wt hm))
  with_reducible (apply fr_modChan (wt hm); assumption; apply frR_next; assumption)

theorem fr_execMr4Read {m : Nat} (hm : Within 32770 m) {s0 s : State} {a0 a1 a2} (h : Fr m s0 s) : FrR m s0 (execMr4Read a0 a1 a2 s) := by
  unfold execMr4Read
  with_reducible apply frR_inst; split
  with_reducible (apply frR_next; apply fr_modChan (wt hm); apply fr_setReg (wt hm); assumption; apply frR_next; assumption)

theorem fr_startApply {m : Nat} (hm : Within 32768 m) {s0 s : State} {a1 a2} (h : Fr m s0 s) : Fr m s0 (State.startApply s a1 a2) := by
  unfold State.startApply
  with_reducible (apply fr_modChan (wt hm); assumption)

theorem fr_cmdApplyDelays {m : Nat} (hm : Within 32768 m) {s0 s : State} {a0} (h : Fr m s0 s) : FrV m s0 (cmdApplyDelays a0 s) := by
  unfold cmdApplyDelays
  with_reducible (apply frV_accept; apply fr_startApply (wt hm); assumption)

theorem fr_cmdRecalibrate {m : Nat} (hm : Within 2 m) {s0 s : State} {a0} (h : Fr m s0 s) : FrV m s0 (cmdRecalibrate a0 s) := by
  unfold cmdRecalibrate
  with_reducible (apply frV_accept; apply fr_setReg (wt hm); assumption)

theorem fr_recalRefused {m : Nat} (hm : Within 2 m) {s0 s : State} {a1} (h : Fr m s0 s) : Fr m s0 (State.recalRefused s a1) := by
  unfold State.recalRefused
  with_reducible (apply fr_setReg (wt hm); assumption)

theorem fr_recalDone {m : Nat} (hm : Within 558879 m) {s0 s : State} {a1 a2 a3} (h : Fr m s0 s) : Fr m s0 (State.recalDone s a1 a2 a3) := by
  unfold State.recalDone
  dsimp only; split; with_reducible (apply fr_channelLost (wt hm); apply fr_setReg (wt hm); apply fr_setReg (wt hm); assumption)
  with_reducible (apply fr_startApply (wt hm); apply fr_setReg (wt hm); apply fr_setReg (wt hm); assumption)

theorem fr_execRecalWindow {m : Nat} (hm : Within 558879 m) {s0 s : State} {a0 a1 a2 a3} (h : Fr m s0 s) : FrR m s0 (execRecalWindow a0 a1 a2 a3 s) := by
  unfold execRecalWindow
  with_reducible apply frR_inst; split; split; with_reducible (apply frR_next; apply fr_goOffline (wt hm); assumption); dsimp only
  with_reducible apply frR_next; split
  with_reducible (apply fr_recalDone (wt hm); apply fr_backOnline (wt hm); assumption; apply fr_backOnline (wt hm); assumption)
  with_reducible (apply frR_next; assumption; apply frR_next; assumption)

theorem fr_cmdFreqChange {m : Nat} (hm : Within 32770 m) {s0 s : State} (h : Fr m s0 s) : FrV m s0 (cmdFreqChange s) := by
  unfold cmdFreqChange
  with_reducible (apply frV_accept; apply fr_setReg (wt hm); apply fr_setDdr (wt hm); assumption)

theorem fr_freqRefused {m : Nat} (hm : Within 2 m) {s0 s : State} (h : Fr m s0 s) : Fr m s0 (State.freqRefused s) := by
  unfold State.freqRefused
  with_reducible (apply fr_setReg (wt hm); assumption)

theorem fr_freqDone {m : Nat} (hm : Within 32770 m) {s0 s : State} (h : Fr m s0 s) : Fr m s0 (State.freqDone s) := by
  unfold State.freqDone
  dsimp only; with_reducible (apply fr_setDdr (wt hm); apply fr_setReg (wt hm); apply fr_setReg (wt hm); apply fr_each; assumption)
  intro _ _ _; with_reducible (apply fr_setReg (wt hm); apply fr_setReg (wt hm); assumption)

theorem fr_execChannelFreqSwitch {m : Nat} (hm : Within 558879 m) {s0 s : State} (h : Fr m s0 s) : FrR m s0 (execChannelFreqSwitch s) := by
  unfold execChannelFreqSwitch
  split; with_reducible (apply frR_next; assumption); split; with_reducible (apply frR_next; apply fr_goOffline (wt hm); assumption)
  dsimp only; with_reducible apply frR_next; split
  with_reducible (apply fr_freqDone (wt hm); apply fr_backOnline (wt hm); assumption; apply fr_backOnline (wt hm); assumption)
  with_reducible (apply frR_next; assumption)

theorem fr_cmdStoreDelays {m : Nat} (hm : Within 3 m) {s0 s : State} (h : Fr m s0 s) : FrV m s0 (cmdStoreDelays s) := by
  unfold cmdStoreDelays
  dsimp only; with_reducible (apply frV_ok; apply fr_setReg (wt hm); apply fr_setReg (wt hm); apply fr_setReg (wt hm))
  apply fr_mk_nv (wt hm); with_reducible assumption

theorem fr_trainChannel {m : Nat} (hm : Within 558879 m) {s0 s : State} {a1} (h : Fr m s0 s) : Fr m s0 (State.trainChannel s a1) := by
  unfold State.trainChannel
  dsimp only; split; with_reducible (apply fr_channelLost (wt hm); apply fr_takeDelays (wt hm); apply fr_trainDraw (wt hm); assumption)
  with_reducible (apply fr_takeDelays (wt hm); apply fr_trainDraw (wt hm); assumption)

theorem fr_noTable {m : Nat} (hm : Within 2 m) {s0 s : State} (h : Fr m s0 s) : Fr m s0 (State.noTable s) := by
  unfold State.noTable
  with_reducible (apply fr_setReg (wt hm); apply fr_setReg (wt hm); apply fr_setReg (wt hm); apply fr_setReg (wt hm); assumption)

theorem fr_dramStart {m : Nat} (hm : Within 558879 m) {s0 s : State} (h : Fr m s0 s) : Fr m s0 (State.dramStart s) := by
  unfold State.dramStart
  dsimp only; split; split
  with_reducible (apply fr_setReg (wt hm); apply fr_setReg (wt hm); apply fr_setReg (wt hm); assumption; apply fr_setReg (wt hm))
  with_reducible (apply fr_each; apply fr_setReg (wt hm); apply fr_setReg (wt hm); apply fr_setReg (wt hm); assumption); intro _ _ _
  with_reducible (apply fr_trainChannel (wt hm); assumption; apply fr_setReg (wt hm); apply fr_each; apply fr_noTable (wt hm))
  with_reducible assumption; intro _ _ _; with_reducible (apply fr_trainChannel (wt hm); assumption)

theorem fr_dramAfter {m : Nat} (hm : Within 558363 m) {s0 s : State} {a1 a2 a3} (h : Fr m s0 s) : Fr m s0 (dramAfter s a1 a2 a3) := by
  unfold dramAfter
  split; dsimp only
  with_reducible (apply fr_setReg (wt hm); apply fr_setReg (wt hm); apply fr_setReg (wt hm); apply fr_flushEngine (wt hm))
  with_reducible (apply fr_setReg (wt hm); assumption; assumption)

end Sys2Proof.Machine
end

