-- ==== Sys2Proof/Laws/FramePower.lean ====
section
/-! SUPPORT. What the definitions of Machine/Power.lean leave alone (Fr). -/

set_option Elab.async false

namespace Sys2Proof.Machine

theorem fr_modPower {m : Nat} (hm : Within 1024 m) {s0 s : State} {a1} (h : Fr m s0 s) : Fr m s0 (State.modPower s a1) := by
  unfold State.modPower
  apply fr_mk_power (wt hm); with_reducible assumption

theorem fr_setPw {m : Nat} (hm : Within 2 m) {s0 s : State} {a1} (h : Fr m s0 s) : Fr m s0 (State.setPw s a1) := by
  unfold State.setPw
  with_reducible (apply fr_setReg (wt hm); assumption)

theorem fr_nvRecord {m : Nat} (hm : Within 1035 m) {s0 s : State} {a1 a2 a3 a4} (h : Fr m s0 s) : Fr m s0 (State.nvRecord s a1 a2 a3 a4) := by
  unfold State.nvRecord
  split; with_reducible (apply fr_nvPlace (wt hm); apply fr_of_pair (by assumption); apply fr_draw (wt hm); assumption)

theorem fr_powerOff {m : Nat} (hm : Within 16777174 m) {s0 s : State} (h : Fr m s0 s) : Fr m s0 (State.powerOff s) := by
  unfold State.powerOff
  with_reducible (apply fr_setPw (wt hm); apply fr_resetUnits (wt hm); assumption)

theorem fr_restart {m : Nat} (hm : Within 16777175 m) {s0 s : State} {a1} (h : Fr m s0 s) : Fr m s0 (State.restart s a1) := by
  unfold State.restart
  dsimp only; with_reducible (apply fr_setReg (wt hm); apply fr_setPw (wt hm)); apply fr_mk_nv (wt hm)
  with_reducible (apply fr_modPower (wt hm); apply fr_resetUnits (wt hm); assumption)

theorem fr_resetPulse {m : Nat} (hm : Within 16777175 m) {s0 s : State} {a1} (h : Fr m s0 s) : Fr m s0 (State.resetPulse s a1) := by
  unfold State.resetPulse
  split; with_reducible (apply fr_restart (wt hm); assumption; apply fr_setPw (wt hm); apply fr_resetUnits (wt hm); assumption)

theorem fr_execPorstNAssert {m : Nat} (hm : Within 16777174 m) {s0 s : State} (h : Fr m s0 s) : FrR m s0 (execPorstNAssert s) := by
  unfold execPorstNAssert
  with_reducible apply frR_next; split; with_reducible (apply fr_modPower (wt hm); apply fr_resetUnits (wt hm); assumption; assumption)

theorem fr_execPorstNRelease {m : Nat} (hm : Within 16777175 m) {s0 s : State} (h : Fr m s0 s) : FrR m s0 (execPorstNRelease s) := by
  unfold execPorstNRelease
  with_reducible apply frR_next; split; with_reducible (assumption; apply fr_resetPulse (wt hm); apply fr_modPower (wt hm); assumption)

theorem fr_execPwrEnFall {m : Nat} (hm : Within 16777183 m) {s0 s : State} (h : Fr m s0 s) : FrR m s0 (execPwrEnFall s) := by
  unfold execPwrEnFall
  with_reducible apply frR_next; split; with_reducible assumption; dsimp only; split
  with_reducible (apply fr_powerOff (wt hm); apply fr_nvRecord (wt hm); apply fr_modPower (wt hm); assumption; apply fr_modPower (wt hm))
  with_reducible assumption

theorem fr_execPwrEnRise {m : Nat} (hm : Within 16777175 m) {s0 s : State} (h : Fr m s0 s) : FrR m s0 (execPwrEnRise s) := by
  unfold execPwrEnRise
  with_reducible apply frR_next; split; with_reducible assumption; dsimp only; split
  with_reducible (apply fr_modPower (wt hm); assumption); split; split
  with_reducible (apply fr_restart (wt hm); apply fr_modPower (wt hm); assumption; apply fr_inc8 (wt hm); apply fr_modPower (wt hm))
  with_reducible (assumption; apply fr_restart (wt hm); apply fr_modPower (wt hm); assumption)

theorem fr_execUndervoltage {m : Nat} (hm : Within 16777183 m) {s0 s : State} {a0} (h : Fr m s0 s) : FrR m s0 (execUndervoltage a0 s) := by
  unfold execUndervoltage
  with_reducible (apply frR_inst; apply frR_next); split
  with_reducible (apply fr_powerOff (wt hm); apply fr_modPower (wt hm); apply fr_nvRecord (wt hm); assumption; assumption)

theorem fr_execVaonLow {m : Nat} (hm : Within 1026 m) {s0 s : State} (h : Fr m s0 s) : FrR m s0 (execVaonLow s) := by
  unfold execVaonLow
  with_reducible (apply frR_next; apply fr_modPower (wt hm)); apply fr_mk_regs (wt hm); with_reducible assumption

theorem fr_cmdReset {m : Nat} (hm : Within 16777175 m) {s0 s : State} (h : Fr m s0 s) : FrV m s0 (cmdReset s) := by
  unfold cmdReset
  with_reducible (apply frV_ok; apply fr_resetPulse (wt hm); assumption)

theorem fr_execJtagReset {m : Nat} (hm : Within 16777175 m) {s0 s : State} (h : Fr m s0 s) : FrR m s0 (execJtagReset s) := by
  unfold execJtagReset
  with_reducible apply frR_next; split
  with_reducible (apply fr_resetPulse (wt hm); apply fr_tap (wt hm); assumption; apply fr_tap (wt hm); assumption)

theorem fr_showChecks {m : Nat} (hm : Within 2 m) {s0 s : State} (h : Fr m s0 s) : Fr m s0 (State.showChecks s) := by
  unfold State.showChecks
  dsimp only; split; with_reducible (apply fr_setReg (wt hm); assumption; apply fr_setReg (wt hm); apply fr_setReg (wt hm); assumption)

theorem fr_execDictionaryReachable {m : Nat} (hm : Within 1090 m) {s0 s : State} {a0 a1 a2} (h : Fr m s0 s) : FrR m s0 (execDictionaryReachable a0 a1 a2 s) := by
  unfold execDictionaryReachable
  with_reducible apply frR_next; split; with_reducible assumption; dsimp only; split; apply fr_mk_time (wt hm)
  with_reducible (apply fr_modPower (wt hm); apply fr_setReg (wt hm); apply fr_setReg (wt hm); apply fr_runSlot (wt hm); apply fr_each)
  with_reducible (apply fr_setPair (wt hm); apply fr_setPair (wt hm); apply fr_setReg (wt hm); apply fr_setReg (wt hm))
  with_reducible (apply fr_showChecks (wt hm); assumption); intro _ _ _
  with_reducible (apply fr_setReg (wt hm); assumption; apply fr_modPower (wt hm); apply fr_setReg (wt hm); apply fr_each)
  with_reducible (apply fr_setPair (wt hm); apply fr_setPair (wt hm); apply fr_setReg (wt hm); apply fr_setReg (wt hm))
  with_reducible (apply fr_showChecks (wt hm); assumption); intro _ _ _; with_reducible (apply fr_setReg (wt hm); assumption)

theorem fr_placeBay {m : Nat} (hm : Within 2 m) {s0 s : State} {a1 a2 a3} (h : Fr m s0 s) : Fr m s0 (State.placeBay s a1 a2 a3) := by
  unfold State.placeBay
  dsimp only; split; with_reducible (assumption; apply fr_showBay (wt hm); apply fr_each; apply fr_each; assumption); intro _ _ _; split
  with_reducible (apply fr_setTileState (wt hm); assumption); split; with_reducible (apply fr_setTileState (wt hm); assumption); split
  with_reducible (apply fr_setTileState (wt hm); assumption; apply fr_setTileState (wt hm); assumption); intro _ _ _
  with_reducible (apply fr_setPlacement (wt hm); assumption)

theorem fr_placeTiles {m : Nat} (hm : Within 525571 m) {s0 s : State} {a1} (h : Fr m s0 s) : Fr m s0 (State.placeTiles s a1) := by
  unfold State.placeTiles
  dsimp only; with_reducible (apply fr_setReg (wt hm); apply fr_each; apply fr_each; assumption); intro _ _ _
  with_reducible (apply fr_placeBay (wt hm); assumption); intro _ _ _; with_reducible (apply fr_faultRecord (wt hm); assumption)

theorem fr_failLanes {m : Nat} (hm : Within 525635 m) {s0 s : State} {a1} (h : Fr m s0 s) : Fr m s0 (State.failLanes s a1) := by
  unfold State.failLanes
  dsimp only; with_reducible (apply fr_setReg (wt hm); apply fr_each; assumption); intro _ _ _; split
  with_reducible (apply fr_setLaneState (wt hm); assumption; apply fr_setReg (wt hm); assumption)

theorem fr_shimMap {m : Nat} (hm : Within 65536 m) {s0 s : State} {a1} (h : Fr m s0 s) : Fr m s0 (State.shimMap s a1) := by
  unfold State.shimMap
  with_reducible (apply fr_each; assumption); intro _ _ _; with_reducible (apply fr_setTile (wt hm); assumption)

theorem fr_execBootComplete {m : Nat} (hm : Within 624479 m) {s0 s : State} {a0 a1 a2} (h : Fr m s0 s) : FrR m s0 (execBootComplete a0 a1 a2 s) := by
  unfold execBootComplete
  with_reducible apply frR_next; split; dsimp only; split
  with_reducible (apply fr_setReg (wt hm); apply fr_nvRecord (wt hm); apply fr_setReg (wt hm); apply fr_setReg (wt hm))
  with_reducible (apply fr_setPw (wt hm); apply fr_failLanes (wt hm); apply fr_shimMap (wt hm); apply fr_placeTiles (wt hm))
  with_reducible (apply fr_dramStart (wt hm); assumption; apply fr_nvRecord (wt hm); apply fr_setReg (wt hm); apply fr_setReg (wt hm))
  with_reducible (apply fr_setPw (wt hm); apply fr_failLanes (wt hm); apply fr_shimMap (wt hm); apply fr_placeTiles (wt hm))
  with_reducible (apply fr_dramStart (wt hm); assumption; assumption)

theorem fr_execFirmwareFlashComplete {m : Nat} (hm : Within 16777175 m) {s0 s : State} {a0} (h : Fr m s0 s) : FrR m s0 (execFirmwareFlashComplete a0 s) := by
  unfold execFirmwareFlashComplete
  with_reducible apply frR_next; split; split; dsimp only; split; with_reducible apply fr_resetPulse (wt hm); apply fr_mk_nv (wt hm)
  with_reducible (apply fr_setReg (wt hm); apply fr_setSlot (wt hm); assumption; apply fr_setReg (wt hm); apply fr_setSlot (wt hm))
  with_reducible (assumption; apply fr_setReg (wt hm); assumption; assumption)

theorem fr_cmdKeep {m : Nat} (hm : Within 9437183 m) {s0 s : State} (h : Fr m s0 s) : FrV m s0 (cmdKeep s) := by
  unfold cmdKeep
  split; with_reducible (apply frV_ok; apply fr_setReg (wt hm); assumption; apply frV_accept; apply fr_keepAdvance (wt hm))
  with_reducible (apply fr_keepStop (wt hm); apply fr_modPower (wt hm); apply fr_setPw (wt hm); assumption)

theorem fr_cmdWake {m : Nat} (hm : Within 2 m) {s0 s : State} (h : Fr m s0 s) : FrV m s0 (cmdWake s) := by
  unfold cmdWake
  split; with_reducible (apply frV_ok; apply fr_setReg (wt hm); assumption; apply frV_accept; apply fr_setPw (wt hm); assumption)

theorem fr_abandonWork {m : Nat} (hm : Within 80002 m) {s0 s : State} {a1 a2} (h : Fr m s0 s) : Fr m s0 (State.abandonWork s a1 a2) := by
  unfold State.abandonWork
  split; apply fr_mk_xarray (wt hm)
  with_reducible (assumption; apply fr_modCam (wt hm); assumption; apply fr_modFront (wt hm); assumption; apply fr_modDove (wt hm))
  with_reducible (assumption; apply fr_gleanStop (wt hm); assumption); dsimp only
  with_reducible (apply fr_setDspRun (wt hm); apply fr_dropRequests (wt hm); apply fr_showFar (wt hm); apply fr_modCore (wt hm))
  with_reducible (assumption; apply fr_setDmaRun (wt hm); apply fr_lockEnd (wt hm); apply fr_modDma (wt hm); assumption)
  with_reducible (apply fr_modList (wt hm); assumption; apply fr_modGen (wt hm); assumption; assumption)

theorem fr_forceOff {m : Nat} (hm : Within 9437183 m) {s0 s : State} {a1 a2} (h : Fr m s0 s) : Fr m s0 (State.forceOff s a1 a2) := by
  unfold State.forceOff
  dsimp only; with_reducible (apply fr_inc32 (wt hm); apply fr_setReg (wt hm); apply fr_turnOff (wt hm); apply fr_abandonWork (wt hm))
  split; with_reducible (apply fr_disableUnit (wt hm); assumption; assumption)

theorem fr_execKeepTimeout {m : Nat} (hm : Within 9437183 m) {s0 s : State} (h : Fr m s0 s) : FrR m s0 (execKeepTimeout s) := by
  unfold execKeepTimeout
  with_reducible apply frR_next; split; dsimp only; with_reducible (apply fr_modPower (wt hm); apply fr_each; assumption); intro _ _ _
  with_reducible (apply fr_foldl; assumption); intro _ _ _; split
  with_reducible (assumption; apply fr_forceOff (wt hm); assumption; assumption)

theorem fr_keepLoss {m : Nat} (hm : Within 475136 m) {s0 s : State} (h : Fr m s0 s) : Fr m s0 (State.keepLoss s) := by
  unfold State.keepLoss
  dsimp only; apply fr_mk_keepLoss (wt hm); with_reducible assumption

theorem fr_stopOtherPort {m : Nat} (hm : Within 8914211 m) {s0 s : State} (h : Fr m s0 s) : Fr m s0 (State.stopOtherPort s) := by
  unfold State.stopOtherPort
  dsimp only; split; with_reducible (assumption; apply fr_setReg (wt hm); apply fr_setReg (wt hm); apply fr_closePort (wt hm); assumption)

theorem fr_execKeepEntryComplete {m : Nat} (hm : Within 9437183 m) {s0 s : State} {a0} (h : Fr m s0 s) : FrR m s0 (execKeepEntryComplete a0 s) := by
  unfold execKeepEntryComplete
  dsimp only; with_reducible apply frR_next; split; split; split
  with_reducible (apply fr_setPw (wt hm); apply fr_setReg (wt hm); apply fr_modPower (wt hm); apply fr_setReg (wt hm))
  with_reducible (apply fr_inc32 (wt hm); apply fr_each; apply fr_stopOtherPort (wt hm); apply fr_keepLoss (wt hm))
  with_reducible (apply fr_flushEngine (wt hm); apply fr_keepAdvance (wt hm); assumption); intro _ _ _
  with_reducible (apply fr_modChan (wt hm); assumption; apply fr_setPw (wt hm); apply fr_modPower (wt hm); apply fr_setReg (wt hm))
  with_reducible (apply fr_inc32 (wt hm); apply fr_each; apply fr_stopOtherPort (wt hm); apply fr_keepLoss (wt hm))
  with_reducible (apply fr_flushEngine (wt hm); apply fr_keepAdvance (wt hm); assumption); intro _ _ _
  with_reducible (apply fr_modChan (wt hm); assumption); split
  with_reducible (apply fr_setPw (wt hm); apply fr_setReg (wt hm); apply fr_modPower (wt hm); apply fr_setReg (wt hm))
  with_reducible apply fr_inc32 (wt hm); apply fr_mk_time (wt hm)
  with_reducible (apply fr_each; apply fr_stopOtherPort (wt hm); apply fr_keepLoss (wt hm); apply fr_flushEngine (wt hm))
  with_reducible (apply fr_keepAdvance (wt hm); assumption); intro _ _ _
  with_reducible (apply fr_modChan (wt hm); assumption; apply fr_setPw (wt hm); apply fr_modPower (wt hm); apply fr_setReg (wt hm))
  with_reducible apply fr_inc32 (wt hm); apply fr_mk_time (wt hm)
  with_reducible (apply fr_each; apply fr_stopOtherPort (wt hm); apply fr_keepLoss (wt hm); apply fr_flushEngine (wt hm))
  with_reducible (apply fr_keepAdvance (wt hm); assumption); intro _ _ _
  with_reducible (apply fr_modChan (wt hm); assumption; apply fr_keepAdvance (wt hm); assumption)

theorem fr_followEnable {m : Nat} (hm : Within 9437183 m) {s0 s : State} {a1 a2} (h : Fr m s0 s) : Fr m s0 (State.followEnable s a1 a2) := by
  unfold State.followEnable
  split; split; with_reducible (apply fr_startEnabling (wt hm); apply fr_setReg (wt hm); assumption; assumption); split
  with_reducible (assumption; apply fr_disableUnit (wt hm); assumption)

theorem fr_reloadWeights {m : Nat} (hm : Within 624415 m) {s0 s : State} (h : Fr m s0 s) : Fr m s0 (State.reloadWeights s) := by
  unfold State.reloadWeights
  with_reducible (apply fr_each; assumption); intro _ _ _; with_reducible (apply fr_each; assumption); intro _ _ _; split
  with_reducible (apply fr_loadSlots (wt hm); assumption; assumption)

theorem fr_restartRef {m : Nat} (hm : Within 66 m) {s0 s : State} (h : Fr m s0 s) : Fr m s0 (State.restartRef s) := by
  unfold State.restartRef
  split; with_reducible (assumption; apply fr_reselect (wt hm); apply fr_enterRef (wt hm)); apply fr_mk_time (wt hm)
  with_reducible assumption

theorem fr_execKeepExitComplete {m : Nat} (hm : Within 9437183 m) {s0 s : State} {a0} (h : Fr m s0 s) : FrR m s0 (execKeepExitComplete a0 s) := by
  unfold execKeepExitComplete
  with_reducible apply frR_next; split; dsimp only
  with_reducible (apply fr_foldl; apply fr_setReg (wt hm); apply fr_setPw (wt hm); apply fr_restartRef (wt hm)); split
  with_reducible (assumption; apply fr_reloadWeights (wt hm); assumption); intro _ _ _
  with_reducible (apply fr_followEnable (wt hm); assumption; assumption)

theorem fr_sensorTest {m : Nat} (hm : Within 525571 m) {s0 s : State} {a1} (h : Fr m s0 s) : Fr m s0 (State.sensorTest s a1) := by
  unfold State.sensorTest
  dsimp only; with_reducible (apply fr_each; apply fr_setReg (wt hm); apply fr_setReg (wt hm); apply fr_modPower (wt hm); assumption)
  intro _ _ _; with_reducible (apply fr_faultRecord (wt hm); assumption)

theorem fr_junction {m : Nat} (hm : Within 2 m) {s0 s : State} {a1 a2} (h : Fr m s0 s) : Fr m s0 (State.junction s a1 a2) := by
  unfold State.junction
  dsimp only; with_reducible (apply fr_setReg (wt hm); apply fr_setReg (wt hm); apply fr_setReg (wt hm); apply fr_each; assumption)
  intro _ _ _; with_reducible (apply fr_setReg (wt hm); apply fr_setReg (wt hm); assumption)

theorem fr_thermalState {m : Nat} (hm : Within 1282 m) {s0 s : State} (h : Fr m s0 s) : Fr m s0 (State.thermalState s) := by
  unfold State.thermalState
  dsimp only; with_reducible (apply fr_setReg (wt hm); apply fr_setReg (wt hm); apply fr_modPower (wt hm)); split
  with_reducible apply fr_inc32 (wt hm); split
  with_reducible (apply fr_whenB; apply fr_inc32 (wt hm); apply fr_setReg (wt hm); assumption); intro _ _
  with_reducible (apply fr_fire (wt hm); assumption; apply fr_setReg (wt hm); assumption); split
  with_reducible (apply fr_whenB; apply fr_inc32 (wt hm); apply fr_setReg (wt hm); assumption); intro _ _
  with_reducible (apply fr_fire (wt hm); assumption; apply fr_setReg (wt hm); assumption)

theorem fr_thermalShutdown {m : Nat} (hm : Within 16777183 m) {s0 s : State} (h : Fr m s0 s) : Fr m s0 (State.thermalShutdown s) := by
  unfold State.thermalShutdown
  split; with_reducible (apply fr_powerOff (wt hm); apply fr_modPower (wt hm); apply fr_nvRecord (wt hm); assumption; assumption)

theorem fr_drainDeferred {m : Nat} (hm : Within 1027 m) {s0 s : State} (h : Fr m s0 s) : Fr m s0 (State.drainDeferred s) := by
  unfold State.drainDeferred
  split; dsimp only; with_reducible (apply fr_each; apply fr_modPower (wt hm); assumption); intro _ _ _
  with_reducible (apply fr_nvPlace (wt hm); assumption; assumption)

theorem fr_roundTimes {m : Nat} (hm : Within 2 m) {s0 s : State} (h : Fr m s0 s) : Fr m s0 (State.roundTimes s) := by
  unfold State.roundTimes
  dsimp only; split; split
  with_reducible (apply fr_inc64 (wt hm); apply fr_inc64 (wt hm); apply fr_inc64 (wt hm); assumption; apply fr_inc64 (wt hm))
  with_reducible (apply fr_inc64 (wt hm); assumption); split
  with_reducible (apply fr_inc64 (wt hm); apply fr_inc64 (wt hm); assumption; apply fr_inc64 (wt hm); assumption)

theorem fr_execHousekeepingRound {m : Nat} (hm : Within 16777183 m) {s0 s : State} {a0 a1 a2} (h : Fr m s0 s) : FrR m s0 (execHousekeepingRound a0 a1 a2 s) := by
  unfold execHousekeepingRound
  dsimp only
  with_reducible (apply frR_next; apply fr_drainDeferred (wt hm); apply fr_thermalShutdown (wt hm); apply fr_thermalState (wt hm))
  with_reducible (apply fr_roundTimes (wt hm); apply fr_junction (wt hm); apply fr_sensorTest (wt hm); apply fr_snd)
  with_reducible (apply fr_draw (wt hm); apply fr_each; apply fr_each; assumption); intro _ _ _
  with_reducible (apply fr_setReg (wt hm); assumption); intro _ _ _; with_reducible (apply fr_setReg (wt hm); assumption)

end Sys2Proof.Machine
end

