-- ==== Sys2Proof/Laws/FrameDictSvc.lean ====
section
/-! SUPPORT. What the definitions of Machine/DictSvc.lean leave alone (Fr). -/

set_option Elab.async false

namespace Sys2Proof.Machine

theorem fr_domCheck {m : Nat} (hm : Within 2 m) {s0 s : State} {a1 a2 a3 a4} (h : Fr m s0 s) : FrP m s0 (State.domCheck s a1 a2 a3 a4) := by
  unfold State.domCheck
  split
  with_reducible (apply frP_mk; assumption; apply frP_mk; assumption; apply frP_mk; assumption; apply frP_mk; assumption; apply frP_mk)
  with_reducible (assumption; apply fr_checkImage (wt hm); assumption; apply frP_mk; assumption; apply frP_mk; assumption)

theorem fr_stagedChanged {m : Nat} (hm : Within 4 m) {s0 s : State} {a1} (h : Fr m s0 s) : Fr m s0 (State.stagedChanged s a1) := by
  unfold State.stagedChanged
  with_reducible (apply fr_foldl; assumption); intro _ _ _; split; with_reducible (assumption; apply fr_bumpDom (wt hm); assumption)

theorem fr_setStaged {m : Nat} (hm : Within 1048580 m) {s0 s : State} {a1 a2} (h : Fr m s0 s) : Fr m s0 (State.setStaged s a1 a2) := by
  unfold State.setStaged
  with_reducible apply fr_stagedChanged (wt hm); apply fr_mk_staged (wt hm); with_reducible assumption

theorem fr_stage {m : Nat} (hm : Within 1606943 m) {s0 s : State} {a1 a2 a3} (h : Fr m s0 s) : FrV m s0 (State.stage s a1 a2 a3) := by
  unfold State.stage
  split; with_reducible apply frV_error; dsimp only; with_reducible apply frV_ok; split; split
  with_reducible (apply fr_keepWeights (wt hm); apply fr_setStaged (wt hm); apply fr_whenB; assumption); intro _ _
  with_reducible (apply fr_inc32 (wt hm); assumption; apply fr_setStaged (wt hm); apply fr_whenB; assumption); intro _ _
  with_reducible (apply fr_inc32 (wt hm); assumption; apply fr_setStaged (wt hm); apply fr_whenB; assumption); intro _ _
  with_reducible (apply fr_inc32 (wt hm); assumption)

theorem fr_liveWrite {m : Nat} (hm : Within 2097154 m) {s0 s : State} {a1 a2} (h : Fr m s0 s) : Fr m s0 (State.liveWrite s a1 a2) := by
  unfold State.liveWrite
  dsimp only; apply fr_mk_epochs (wt hm); with_reducible (apply fr_whenB; assumption); intro _ _
  with_reducible (apply fr_inc32 (wt hm); assumption)

theorem fr_idleChanged {m : Nat} (hm : Within 2 m) {s0 s : State} {a1 a2} (h : Fr m s0 s) : Fr m s0 (State.idleChanged s a1 a2) := by
  unfold State.idleChanged
  with_reducible (apply fr_each; assumption); intro _ _ _; split; with_reducible (apply fr_setReg (wt hm); assumption; assumption)

theorem fr_windowMoved {m : Nat} (hm : Within 4 m) {s0 s : State} {a1} (h : Fr m s0 s) : Fr m s0 (State.windowMoved s a1) := by
  unfold State.windowMoved
  split; with_reducible (apply fr_bumpDom (wt hm); assumption; apply fr_bumpDom (wt hm); assumption)

theorem fr_setLive {m : Nat} (hm : Within 890239 m) {s0 s : State} {a1 a2 a3} (h : Fr m s0 s) : Fr m s0 (State.setLive s a1 a2 a3) := by
  unfold State.setLive
  dsimp only; split; split
  with_reducible (apply fr_idleChanged (wt hm); apply fr_setReg (wt hm); assumption; apply fr_setReg (wt hm); assumption); split
  with_reducible (apply fr_stagedChanged (wt hm); apply fr_setReg (wt hm); assumption; apply fr_setReg (wt hm); assumption)
  with_reducible (apply fr_sheafAfter (wt hm); apply fr_setReg (wt hm); assumption; apply fr_sheafAfter (wt hm); apply fr_setReg (wt hm))
  with_reducible assumption; split
  with_reducible (apply fr_forgetSeqs (wt hm); apply fr_setReg (wt hm); assumption; apply fr_setReg (wt hm); assumption)
  with_reducible (apply fr_xarrayAfter (wt hm); apply fr_setReg (wt hm); assumption; apply fr_outputsAfter (wt hm))
  with_reducible (apply fr_setReg (wt hm); assumption; apply fr_outputsAfter (wt hm); apply fr_setReg (wt hm); assumption)
  with_reducible (apply fr_dramAfter (wt hm); apply fr_setReg (wt hm); assumption; apply fr_timingAfter (wt hm); apply fr_setReg (wt hm))
  with_reducible (assumption; apply fr_positionAfter (wt hm); apply fr_setReg (wt hm); assumption; apply fr_dowelAfter (wt hm))
  with_reducible (apply fr_setReg (wt hm); assumption); split
  with_reducible (apply fr_windowMoved (wt hm); apply fr_windowMoved (wt hm); apply fr_setReg (wt hm); assumption)
  with_reducible (apply fr_windowMoved (wt hm); apply fr_setReg (wt hm); assumption); split
  with_reducible (apply fr_setDspRegs (wt hm); assumption; apply fr_setReg (wt hm); assumption; apply fr_setReg (wt hm); assumption)

theorem fr_writeLive {m : Nat} (hm : Within 9437183 m) {s0 s : State} {a1 a2 a3} (h : Fr m s0 s) : FrV m s0 (State.writeLive s a1 a2 a3) := by
  unfold State.writeLive
  split; split
  with_reducible (apply fr_enableUnit (wt hm); assumption; apply frV_ok; apply fr_disableWritten (wt hm); assumption; apply frV_ok)
  with_reducible (apply fr_setLive (wt hm); assumption)

theorem fr_writeLiveDom {m : Nat} (hm : Within 519 m) {s0 s : State} {a1 a2 a3} (h : Fr m s0 s) : FrP m s0 (State.writeLiveDom s a1 a2 a3) := by
  unfold State.writeLiveDom
  split; dsimp only; with_reducible apply frP_mk; split
  with_reducible (apply fr_setDom (wt hm); apply fr_snd; apply fr_writeImage (wt hm); assumption; apply fr_snd)
  with_reducible (apply fr_writeImage (wt hm); assumption; apply frP_mk; apply fr_setDom (wt hm); assumption)

theorem fr_cmdCommit {m : Nat} (hm : Within 1048582 m) {s0 s : State} {a0} (h : Fr m s0 s) : FrV m s0 (cmdCommit a0 s) := by
  unfold cmdCommit
  split; with_reducible (apply frV_ok; apply fr_inc32 (wt hm); apply fr_setStaged (wt hm); assumption; apply frV_error)

theorem fr_commitRefused {m : Nat} (hm : Within 524290 m) {s0 s : State} {a1 a2 a3} (h : Fr m s0 s) : Fr m s0 (State.commitRefused s a1 a2 a3) := by
  unfold State.commitRefused
  with_reducible (apply fr_abortLog (wt hm); apply fr_inc32 (wt hm); assumption)

theorem fr_cmdDiscard {m : Nat} (hm : Within 1572870 m) {s0 s : State} {a0} (h : Fr m s0 s) : FrV m s0 (cmdDiscard a0 s) := by
  unfold cmdDiscard
  with_reducible (apply frV_ok; apply fr_abortLog (wt hm); apply fr_setStaged (wt hm); assumption)

theorem fr_cmdDisarm {m : Nat} (hm : Within 1572870 m) {s0 s : State} {a0} (h : Fr m s0 s) : FrV m s0 (cmdDisarm a0 s) := by
  unfold cmdDisarm
  split; split
  with_reducible (apply frV_error; apply frV_ok; apply fr_abortLog (wt hm); apply fr_setStaged (wt hm); assumption; apply frV_error)

theorem fr_recheck {m : Nat} (hm : Within 2 m) {s0 s : State} {a1 a2 a3} (h : Fr m s0 s) : FrP m s0 (State.recheck s a1 a2 a3) := by
  unfold State.recheck
  dsimp only; split; with_reducible (apply frP_mk; assumption; apply fr_domCheck (wt hm); assumption)

theorem fr_sift {m : Nat} (hm : Within 524290 m) {s0 s : State} {set c l} (h : Fr m s0 s) : FrP m s0 (s.sift set c l) := by
  induction l generalizing s with
  | nil => exact ⟨h⟩
  | cons p ps ih =>
    unfold State.sift
    dsimp only
    split
    · exact ⟨(ih ((fr_recheck (wt hm)) h).fr).fr⟩
    · exact ih ((fr_abortLog (wt hm)) ((fr_inc32 (wt hm)) ((fr_recheck (wt hm)) h).fr))

theorem fr_takeStaged {m : Nat} (hm : Within 6 m) {s0 s : State} {a1} (h : Fr m s0 s) : Fr m s0 (State.takeStaged s a1) := by
  unfold State.takeStaged
  split; with_reducible (apply fr_setReg (wt hm); assumption; apply fr_setDom (wt hm); assumption)

theorem fr_applied {m : Nat} (hm : Within 9278843 m) {s0 s : State} {a1 a2 a3} (h : Fr m s0 s) : Fr m s0 (State.applied s a1 a2 a3) := by
  unfold State.applied
  dsimp only; split
  with_reducible (apply fr_closePort (wt hm); assumption; apply fr_sheafAfter (wt hm); assumption; apply fr_cutListLive (wt hm))
  with_reducible assumption; split
  with_reducible (apply fr_weightsLive (wt hm); assumption; assumption; apply fr_dspImageLive (wt hm); assumption; assumption)

theorem fr_boundary {m : Nat} (hm : Within 12434815 m) {s0 s : State} {a1 a2} (h : Fr m s0 s) : Fr m s0 (State.boundary s a1 a2) := by
  unfold State.boundary
  dsimp only
  with_reducible (apply fr_notify (wt hm); apply fr_windowsLive (wt hm); apply fr_settingsLive (wt hm); apply fr_each; apply fr_each)
  with_reducible (apply fr_setReg (wt hm); apply fr_setReg (wt hm)); apply fr_mk_epochs (wt hm)
  with_reducible (apply fr_snd; apply fr_sift (wt hm); apply fr_setStaged (wt hm); assumption); intro _ _ _
  with_reducible (apply fr_takeStaged (wt hm); assumption); intro _ _ _; with_reducible (apply fr_applied (wt hm); assumption)

theorem fr_execEpochBoundary {m : Nat} (hm : Within 12434815 m) {s0 s : State} (h : Fr m s0 s) : FrR m s0 (execEpochBoundary s) := by
  unfold execEpochBoundary
  split; split
  with_reducible (apply frR_next; apply fr_boundary (wt hm); assumption; apply frR_next; assumption; apply frR_next; assumption)

end Sys2Proof.Machine
end

