-- ==== Sys2Proof/Laws/FrameCommands.lean ====
section
/-! SUPPORT. What the definitions of Machine/Commands.lean leave alone (Fr). -/

set_option Elab.async false

namespace Sys2Proof.Machine

theorem fr_cmdSessionClose {m : Nat} (hm : Within 8914211 m) {s0 s : State} {a0 a1} (h : Fr m s0 s) : FrV m s0 (cmdSessionClose a0 a1 s) := by
  unfold cmdSessionClose
  split; with_reducible apply frV_error; split; with_reducible (apply frV_error; apply frV_ok; apply fr_closeSession (wt hm); assumption)

theorem fr_cmdKeySet {m : Nat} (hm : Within 8914211 m) {s0 s : State} {a0 a1 a2} (h : Fr m s0 s) : FrV m s0 (cmdKeySet a0 a1 a2 s) := by
  unfold cmdKeySet
  dsimp only; split; with_reducible (apply frV_error; apply frV_ok; apply fr_closeWhere (wt hm)); apply fr_mk_nv (wt hm)
  with_reducible assumption

theorem fr_cmdDebug {m : Nat} (hm : Within 525571 m) {s0 s : State} {a0 a1} (h : Fr m s0 s) : FrV m s0 (cmdDebug a0 a1 s) := by
  unfold cmdDebug
  split
  with_reducible (apply frV_accept; apply fr_debugEnter (wt hm); assumption; apply frV_accept; apply fr_debugLeave (wt hm); assumption)

theorem fr_systemCmd {m : Nat} (hm : Within 16777215 m) {s0 s : State} {a1 a2 a3 a4 a5} (h : Fr m s0 s) : FrV m s0 (State.systemCmd s a1 a2 a3 a4 a5) := by
  unfold State.systemCmd
  split; with_reducible (apply fr_cmdSessionClose (wt hm); assumption); split; with_reducible (apply fr_cmdKeySet (wt hm); assumption)
  split; with_reducible (apply fr_cmdDebug (wt hm); assumption); split; split
  with_reducible (apply fr_cmdCommit (wt hm); assumption; apply fr_cmdDiscard (wt hm); assumption; apply fr_cmdDisarm (wt hm))
  with_reducible assumption; split; split
  with_reducible (apply fr_cmdKeep (wt hm); assumption; apply fr_cmdWake (wt hm); assumption; apply fr_cmdReset (wt hm); assumption)
  split; with_reducible (apply fr_cmdActivate (wt hm); assumption; apply fr_cmdFailover (wt hm); assumption)

theorem fr_arrayCmd {m : Nat} (hm : Within 459010 m) {s0 s : State} {a1 a2} (h : Fr m s0 s) : FrV m s0 (State.arrayCmd s a1 a2) := by
  unfold State.arrayCmd
  split; with_reducible (apply fr_cmdRetest (wt hm); assumption); split; with_reducible (apply fr_cmdSheafClear (wt hm); assumption)
  split; with_reducible (apply fr_cmdPrbsInject (wt hm); assumption); split; with_reducible (apply fr_cmdFire (wt hm); assumption); split
  split; with_reducible (apply fr_cmdReadoutStart (wt hm); assumption; apply fr_cmdReadoutAbort (wt hm); assumption); split
  with_reducible (apply fr_cmdSiloRelease (wt hm); assumption; apply fr_cmdJigRestart (wt hm); assumption)

theorem fr_inspectCmd {m : Nat} (hm : Within 12290 m) {s0 s : State} {a1 a2} (h : Fr m s0 s) : FrV m s0 (State.inspectCmd s a1 a2) := by
  unfold State.inspectCmd
  split; split; with_reducible (apply fr_cmdHold (wt hm); assumption; apply fr_cmdSlotRelease (wt hm); assumption); split
  with_reducible (apply fr_cmdClearCorr (wt hm); assumption); split
  with_reducible (apply fr_cmdDspHalt (wt hm); assumption; apply fr_cmdDspResume (wt hm); assumption; apply fr_cmdDspStep (wt hm))
  with_reducible assumption

theorem fr_memoryCmd {m : Nat} (hm : Within 565023 m) {s0 s : State} {a1 a2 a3} (h : Fr m s0 s) : FrV m s0 (State.memoryCmd s a1 a2 a3) := by
  unfold State.memoryCmd
  split; with_reducible (apply fr_cmdFreqChange (wt hm); assumption); split; split
  with_reducible (apply fr_cmdDeclareLost (wt hm); assumption; apply fr_cmdRebuild (wt hm); assumption); split; split
  with_reducible (apply fr_cmdApplyDelays (wt hm); assumption; apply fr_cmdRecalibrate (wt hm); assumption); split
  with_reducible (apply fr_cmdStoreDelays (wt hm); assumption); split; split
  with_reducible (apply fr_cmdInvWindow (wt hm); assumption; apply fr_cmdInvAll (wt hm); assumption); split
  with_reducible (apply fr_cmdDmaStart (wt hm); assumption; apply fr_cmdDmaAbort (wt hm); assumption); split
  with_reducible (apply fr_cmdDmaResume (wt hm); assumption; apply fr_cmdDmaResumeNext (wt hm); assumption)

theorem fr_timeCmd {m : Nat} (hm : Within 482 m) {s0 s : State} {a1 a2 a3} (h : Fr m s0 s) : FrV m s0 (State.timeCmd s a1 a2 a3) := by
  unfold State.timeCmd
  split; with_reducible (apply fr_cmdScLoad (wt hm); assumption); split; split
  with_reducible (apply fr_cmdAdjust (wt hm); assumption; apply fr_cmdTbStep (wt hm); assumption); split
  with_reducible (apply fr_cmdPreset (wt hm); assumption); split; split
  with_reducible (apply fr_cmdPlace (wt hm); assumption; apply fr_cmdCompareClear (wt hm); assumption); split
  with_reducible (apply fr_cmdSoft (wt hm); assumption); split; with_reducible (apply fr_cmdRelease (wt hm); assumption); split
  with_reducible (apply fr_cmdSnapNow (wt hm); assumption; apply fr_cmdCounterClear (wt hm); assumption)

theorem fr_command {m : Nat} (hm : Within 16777215 m) {s0 s : State} {a1 a2 a3 a4 a5} (h : Fr m s0 s) : FrV m s0 (State.command s a1 a2 a3 a4 a5) := by
  unfold State.command
  split; with_reducible apply frV_error; split
  with_reducible (apply fr_systemCmd (wt hm); assumption; apply fr_systemCmd (wt hm); assumption); split
  with_reducible (apply fr_systemCmd (wt hm); assumption; apply fr_arrayCmd (wt hm); assumption; apply fr_arrayCmd (wt hm); assumption)
  with_reducible (apply fr_inspectCmd (wt hm); assumption; apply fr_inspectCmd (wt hm); assumption; apply fr_memoryCmd (wt hm))
  with_reducible (assumption; apply fr_timeCmd (wt hm); assumption)

theorem fr_commandRefused {m : Nat} (hm : Within 524290 m) {s0 s : State} {a1 a2 a3 a4 a5} (h : Fr m s0 s) : Fr m s0 (State.commandRefused s a1 a2 a3 a4 a5) := by
  unfold State.commandRefused
  split; split; with_reducible (assumption; apply fr_commitRefused (wt hm); assumption); split
  with_reducible (apply fr_readoutRefused (wt hm); assumption); split; with_reducible (apply fr_recalRefused (wt hm); assumption); split
  with_reducible (apply fr_freqRefused (wt hm); assumption); split; with_reducible (apply fr_setReg (wt hm); assumption; assumption)

theorem fr_answer {m : Nat} (hm : Within 0 m) {s0 s : State} {v : Verdict} (h : Fr m s0 s) (hv : FrV m s0 v) : FrP m s0 (answer s v) := by
  unfold answer
  split
  · exact ⟨hv.fr _ rfl⟩
  · exact ⟨h⟩

theorem fr_writeCmd {m : Nat} (hm : Within 16777215 m) {s0 s : State} {a1 a2 a3 a4 a5} (h : Fr m s0 s) : FrP m s0 (State.writeCmd s a1 a2 a3 a4 a5) := by
  unfold State.writeCmd
  dsimp only; split; with_reducible (apply frP_mk; assumption); split
  with_reducible (apply frP_mk; apply fr_of_ok (by assumption); apply fr_command (wt hm); assumption; apply frP_mk)
  with_reducible (apply fr_commandRefused (wt hm); assumption)

theorem fr_writeNumber {m : Nat} (hm : Within 12582911 m) {s0 s : State} {a1 a2 a3 a4 a5} (h : Fr m s0 s) : FrP m s0 (State.writeNumber s a1 a2 a3 a4 a5) := by
  unfold State.writeNumber
  split; with_reducible (apply frP_mk; assumption); dsimp only; split; split; with_reducible (apply frP_mk; assumption); split
  with_reducible (apply fr_answer (wt hm); assumption; apply fr_stage (wt hm); assumption; apply frP_mk; apply fr_liveWrite (wt hm))
  with_reducible (apply fr_setReg (wt hm); assumption); split
  with_reducible (apply frP_mk; apply fr_liveWrite (wt hm); apply fr_of_ok (by assumption); apply fr_writeLive (wt hm); assumption)
  with_reducible (apply frP_mk; assumption); split; with_reducible (apply frP_mk; assumption); split
  with_reducible (apply fr_answer (wt hm); assumption; apply fr_stage (wt hm); assumption; apply frP_mk; apply fr_liveWrite (wt hm))
  with_reducible (apply fr_setReg (wt hm); assumption); split
  with_reducible (apply frP_mk; apply fr_liveWrite (wt hm); apply fr_of_ok (by assumption); apply fr_writeLive (wt hm); assumption)
  with_reducible (apply frP_mk; assumption)

theorem fr_writeDomain {m : Nat} (hm : Within 3704607 m) {s0 s : State} {a1 a2 a3 a4 a5} (h : Fr m s0 s) : FrP m s0 (State.writeDomain s a1 a2 a3 a4 a5) := by
  unfold State.writeDomain
  dsimp only; split; split
  with_reducible (apply frP_mk; apply fr_snd; apply fr_domCheck (wt hm); assumption; apply fr_answer (wt hm); apply fr_snd)
  with_reducible (apply fr_domCheck (wt hm); assumption; apply fr_stage (wt hm); apply fr_snd; apply fr_domCheck (wt hm); assumption)
  split; with_reducible (apply frP_mk; apply fr_snd; apply fr_domCheck (wt hm); assumption); split
  with_reducible (apply frP_mk; apply fr_snd; apply fr_writeLiveDom (wt hm); apply fr_snd; apply fr_domCheck (wt hm); assumption)
  with_reducible (apply frP_mk; apply fr_liveWrite (wt hm); apply fr_snd; apply fr_writeLiveDom (wt hm); apply fr_snd)
  with_reducible (apply fr_domCheck (wt hm); assumption)

theorem fr_writeEntry {m : Nat} (hm : Within 16777215 m) {s0 s : State} {a1 a2 a3 a4} (h : Fr m s0 s) : FrP m s0 (State.writeEntry s a1 a2 a3 a4) := by
  unfold State.writeEntry
  split; with_reducible (apply frP_mk; assumption); dsimp only; split; split; with_reducible (apply frP_mk; assumption); split
  with_reducible (apply frP_mk; assumption); split; with_reducible (apply fr_writeCmd (wt hm); assumption); split
  with_reducible (apply fr_writeDomain (wt hm); assumption; apply fr_writeNumber (wt hm); assumption); split
  with_reducible (apply frP_mk; assumption); split; with_reducible (apply frP_mk; assumption); split
  with_reducible (apply fr_writeCmd (wt hm); assumption); split
  with_reducible (apply fr_writeDomain (wt hm); assumption; apply fr_writeNumber (wt hm); assumption)

theorem fr_result {m : Nat} (hm : Within 4194304 m) {s0 s : State} {a1 a2 a3 a4 a5} (h : Fr m s0 s) : Fr m s0 (State.result s a1 a2 a3 a4 a5) := by
  unfold State.result
  dsimp only; split; apply fr_mk_results (wt hm); with_reducible (assumption; assumption)

theorem fr_sessionWrite {m : Nat} (hm : Within 16777215 m) {s0 s : State} {a1 a2 a3 a4} (h : Fr m s0 s) : Fr m s0 (State.sessionWrite s a1 a2 a3 a4) := by
  unfold State.sessionWrite
  split; dsimp only; with_reducible (apply fr_result (wt hm); apply fr_snd; apply fr_writeEntry (wt hm); assumption; assumption)

theorem fr_execDictWrite {m : Nat} (hm : Within 16777215 m) {s0 s : State} {a0 a1 a2 a3} (h : Fr m s0 s) : FrR m s0 (execDictWrite a0 a1 a2 a3 s) := by
  unfold execDictWrite
  with_reducible (apply frR_next; apply fr_sessionWrite (wt hm); assumption)

theorem fr_execCommit {m : Nat} (hm : Within 16777215 m) {s0 s : State} {a0 a1} (h : Fr m s0 s) : FrR m s0 (execCommit a0 a1 s) := by
  unfold execCommit
  with_reducible (apply frR_inst; apply frR_next; apply fr_sessionWrite (wt hm); assumption)

theorem fr_execDiscard {m : Nat} (hm : Within 16777215 m) {s0 s : State} {a0} (h : Fr m s0 s) : FrR m s0 (execDiscard a0 s) := by
  unfold execDiscard
  with_reducible (apply frR_next; apply fr_sessionWrite (wt hm); assumption)

theorem fr_execDisarm {m : Nat} (hm : Within 16777215 m) {s0 s : State} {a0} (h : Fr m s0 s) : FrR m s0 (execDisarm a0 s) := by
  unfold execDisarm
  with_reducible (apply frR_next; apply fr_sessionWrite (wt hm); assumption)

theorem fr_execEnableWrite {m : Nat} (hm : Within 16777215 m) {s0 s : State} {a0 a1} (h : Fr m s0 s) : FrR m s0 (execEnableWrite a0 a1 s) := by
  unfold execEnableWrite
  with_reducible (apply frR_inst; apply frR_next; apply fr_sessionWrite (wt hm); assumption)

theorem fr_execDisableWrite {m : Nat} (hm : Within 16777215 m) {s0 s : State} {a0 a1} (h : Fr m s0 s) : FrR m s0 (execDisableWrite a0 a1 s) := by
  unfold execDisableWrite
  with_reducible (apply frR_inst; apply frR_next; apply fr_sessionWrite (wt hm); assumption)

theorem fr_execPrbsInject {m : Nat} (hm : Within 16777215 m) {s0 s : State} {a0} (h : Fr m s0 s) : FrR m s0 (execPrbsInject a0 s) := by
  unfold execPrbsInject
  with_reducible (apply frR_next; apply fr_sessionWrite (wt hm); assumption)

theorem fr_execSheafCounterClear {m : Nat} (hm : Within 16777215 m) {s0 s : State} {a0} (h : Fr m s0 s) : FrR m s0 (execSheafCounterClear a0 s) := by
  unfold execSheafCounterClear
  with_reducible (apply frR_next; apply fr_sessionWrite (wt hm); assumption)

theorem fr_execFireTrigger {m : Nat} (hm : Within 16777215 m) {s0 s : State} {a0} (h : Fr m s0 s) : FrR m s0 (execFireTrigger a0 s) := by
  unfold execFireTrigger
  with_reducible (apply frR_next; apply fr_sessionWrite (wt hm); assumption)

theorem fr_execSiloRelease {m : Nat} (hm : Within 16777215 m) {s0 s : State} {a0 a1} (h : Fr m s0 s) : FrR m s0 (execSiloRelease a0 a1 s) := by
  unfold execSiloRelease
  with_reducible (apply frR_inst; apply frR_next; apply fr_sessionWrite (wt hm); assumption)

theorem fr_execReadoutStart {m : Nat} (hm : Within 16777215 m) {s0 s : State} {a0} (h : Fr m s0 s) : FrR m s0 (execReadoutStart a0 s) := by
  unfold execReadoutStart
  with_reducible (apply frR_next; apply fr_sessionWrite (wt hm); assumption)

theorem fr_execReadoutAbort {m : Nat} (hm : Within 16777215 m) {s0 s : State} {a0} (h : Fr m s0 s) : FrR m s0 (execReadoutAbort a0 s) := by
  unfold execReadoutAbort
  with_reducible (apply frR_next; apply fr_sessionWrite (wt hm); assumption)

theorem fr_execJigRestart {m : Nat} (hm : Within 16777215 m) {s0 s : State} {a0 a1} (h : Fr m s0 s) : FrR m s0 (execJigRestart a0 a1 s) := by
  unfold execJigRestart
  with_reducible (apply frR_inst; apply frR_next; apply fr_sessionWrite (wt hm); assumption)

theorem fr_execRetest {m : Nat} (hm : Within 16777215 m) {s0 s : State} {a0 a1} (h : Fr m s0 s) : FrR m s0 (execRetest a0 a1 s) := by
  unfold execRetest
  with_reducible (apply frR_inst; apply frR_next; apply fr_sessionWrite (wt hm); assumption)

theorem fr_execFrameHold {m : Nat} (hm : Within 16777215 m) {s0 s : State} {a0 a1} (h : Fr m s0 s) : FrR m s0 (execFrameHold a0 a1 s) := by
  unfold execFrameHold
  split; with_reducible (apply frR_inst; apply frR_next; apply fr_sessionWrite (wt hm); assumption; apply frR_next); split
  with_reducible (apply fr_holdEvent (wt hm); apply fr_takeInput (wt hm); assumption; assumption)

theorem fr_execFrameSlotRelease {m : Nat} (hm : Within 16777215 m) {s0 s : State} {a0 a1} (h : Fr m s0 s) : FrR m s0 (execFrameSlotRelease a0 a1 s) := by
  unfold execFrameSlotRelease
  with_reducible (apply frR_inst; apply frR_next; apply fr_sessionWrite (wt hm); assumption)

theorem fr_execClearCorr {m : Nat} (hm : Within 16777215 m) {s0 s : State} {a0 a1} (h : Fr m s0 s) : FrR m s0 (execClearCorr a0 a1 s) := by
  unfold execClearCorr
  with_reducible (apply frR_inst; apply frR_next; apply fr_sessionWrite (wt hm); assumption)

theorem fr_execDebugHaltCmd {m : Nat} (hm : Within 16777215 m) {s0 s : State} {a0 a1} (h : Fr m s0 s) : FrR m s0 (execDebugHaltCmd a0 a1 s) := by
  unfold execDebugHaltCmd
  with_reducible (apply frR_inst; apply frR_next; apply fr_sessionWrite (wt hm); assumption)

theorem fr_execDebugResume {m : Nat} (hm : Within 16777215 m) {s0 s : State} {a0 a1} (h : Fr m s0 s) : FrR m s0 (execDebugResume a0 a1 s) := by
  unfold execDebugResume
  with_reducible (apply frR_inst; apply frR_next; apply fr_sessionWrite (wt hm); assumption)

theorem fr_execDebugStep {m : Nat} (hm : Within 16777215 m) {s0 s : State} {a0 a1} (h : Fr m s0 s) : FrR m s0 (execDebugStep a0 a1 s) := by
  unfold execDebugStep
  with_reducible (apply frR_inst; apply frR_next; apply fr_sessionWrite (wt hm); assumption)

theorem fr_execDeclareLost {m : Nat} (hm : Within 16777215 m) {s0 s : State} {a0 a1} (h : Fr m s0 s) : FrR m s0 (execDeclareLost a0 a1 s) := by
  unfold execDeclareLost
  with_reducible (apply frR_inst; apply frR_next; apply fr_sessionWrite (wt hm); assumption)

theorem fr_execRebuild {m : Nat} (hm : Within 16777215 m) {s0 s : State} {a0 a1} (h : Fr m s0 s) : FrR m s0 (execRebuild a0 a1 s) := by
  unfold execRebuild
  with_reducible (apply frR_inst; apply frR_next; apply fr_sessionWrite (wt hm); assumption)

theorem fr_execApplyDelays {m : Nat} (hm : Within 16777215 m) {s0 s : State} {a0 a1} (h : Fr m s0 s) : FrR m s0 (execApplyDelays a0 a1 s) := by
  unfold execApplyDelays
  with_reducible (apply frR_inst; apply frR_next; apply fr_sessionWrite (wt hm); assumption)

theorem fr_execRecalibrate {m : Nat} (hm : Within 16777215 m) {s0 s : State} {a0 a1} (h : Fr m s0 s) : FrR m s0 (execRecalibrate a0 a1 s) := by
  unfold execRecalibrate
  with_reducible (apply frR_inst; apply frR_next; apply fr_sessionWrite (wt hm); assumption)

theorem fr_execFreqChange {m : Nat} (hm : Within 16777215 m) {s0 s : State} {a0} (h : Fr m s0 s) : FrR m s0 (execFreqChange a0 s) := by
  unfold execFreqChange
  with_reducible (apply frR_next; apply fr_sessionWrite (wt hm); assumption)

theorem fr_execStoreDelays {m : Nat} (hm : Within 16777215 m) {s0 s : State} {a0} (h : Fr m s0 s) : FrR m s0 (execStoreDelays a0 s) := by
  unfold execStoreDelays
  with_reducible (apply frR_next; apply fr_sessionWrite (wt hm); assumption)

theorem fr_execInvWindow {m : Nat} (hm : Within 16777215 m) {s0 s : State} {a0 a1} (h : Fr m s0 s) : FrR m s0 (execInvWindow a0 a1 s) := by
  unfold execInvWindow
  with_reducible (apply frR_inst; apply frR_next; apply fr_sessionWrite (wt hm); assumption)

theorem fr_execInvAll {m : Nat} (hm : Within 16777215 m) {s0 s : State} {a0} (h : Fr m s0 s) : FrR m s0 (execInvAll a0 s) := by
  unfold execInvAll
  with_reducible (apply frR_next; apply fr_sessionWrite (wt hm); assumption)

theorem fr_dmaBy {m : Nat} (hm : Within 16777215 m) {s0 s : State} {via : DmaVia} {c sub v page : Nat} {event : State → State} (h : Fr m s0 s)
    (hf : ∀ t, Fr m s0 t → Fr m s0 (event t)) : Fr m s0 (s.dmaBy via c sub v page event) := by
  unfold State.dmaBy
  split
  · exact (fr_sessionWrite (wt hm)) h
  · exact (fr_chanOnPage (wt hm)) h (fun t ht => (fr_dmaPageCmd (wt hm)) ht)
  · exact hf s h

theorem fr_execDmaStart {m : Nat} (hm : Within 16777215 m) {s0 s : State} {a0 a1} (h : Fr m s0 s) : FrR m s0 (execDmaStart a0 a1 s) := by
  unfold execDmaStart
  with_reducible (apply frR_inst; apply frR_next; apply fr_dmaBy (wt hm); assumption); intro _ _
  with_reducible (apply fr_dmaStartEvent (wt hm); assumption)

theorem fr_execDmaAbort {m : Nat} (hm : Within 16777215 m) {s0 s : State} {a0 a1} (h : Fr m s0 s) : FrR m s0 (execDmaAbort a0 a1 s) := by
  unfold execDmaAbort
  with_reducible (apply frR_inst; apply frR_next; apply fr_dmaBy (wt hm); assumption); intro _ _
  with_reducible (apply fr_dmaAbortEvent (wt hm); assumption)

theorem fr_execDmaResume {m : Nat} (hm : Within 16777215 m) {s0 s : State} {a0 a1} (h : Fr m s0 s) : FrR m s0 (execDmaResume a0 a1 s) := by
  unfold execDmaResume
  with_reducible (apply frR_inst; apply frR_next; apply fr_dmaBy (wt hm); assumption); intro _ _; dsimp only [id]
  with_reducible assumption

theorem fr_execDmaResumeNext {m : Nat} (hm : Within 16777215 m) {s0 s : State} {a0 a1} (h : Fr m s0 s) : FrR m s0 (execDmaResumeNext a0 a1 s) := by
  unfold execDmaResumeNext
  with_reducible (apply frR_inst; apply frR_next; apply fr_dmaBy (wt hm); assumption); intro _ _; dsimp only [id]
  with_reducible assumption

theorem fr_execScLoad {m : Nat} (hm : Within 16777215 m) {s0 s : State} {a0} (h : Fr m s0 s) : FrR m s0 (execScLoad a0 s) := by
  unfold execScLoad
  with_reducible (apply frR_next; apply fr_sessionWrite (wt hm); assumption)

theorem fr_execAdjust {m : Nat} (hm : Within 16777215 m) {s0 s : State} {a0 a1 a2} (h : Fr m s0 s) : FrR m s0 (execAdjust a0 a1 a2 s) := by
  unfold execAdjust
  with_reducible (apply frR_inst; apply frR_next; apply fr_sessionWrite (wt hm); assumption)

theorem fr_execTbStep {m : Nat} (hm : Within 16777215 m) {s0 s : State} {a0 a1} (h : Fr m s0 s) : FrR m s0 (execTbStep a0 a1 s) := by
  unfold execTbStep
  with_reducible (apply frR_inst; apply frR_next; apply fr_sessionWrite (wt hm); assumption)

theorem fr_execAxisPreset {m : Nat} (hm : Within 16777215 m) {s0 s : State} {a0 a1} (h : Fr m s0 s) : FrR m s0 (execAxisPreset a0 a1 s) := by
  unfold execAxisPreset
  with_reducible (apply frR_inst; apply frR_next; apply fr_sessionWrite (wt hm); assumption)

theorem fr_execComparePlace {m : Nat} (hm : Within 16777215 m) {s0 s : State} {a0 a1} (h : Fr m s0 s) : FrR m s0 (execComparePlace a0 a1 s) := by
  unfold execComparePlace
  with_reducible (apply frR_inst; apply frR_next; apply fr_sessionWrite (wt hm); assumption)

theorem fr_execCompareClear {m : Nat} (hm : Within 16777215 m) {s0 s : State} {a0 a1} (h : Fr m s0 s) : FrR m s0 (execCompareClear a0 a1 s) := by
  unfold execCompareClear
  with_reducible (apply frR_inst; apply frR_next; apply fr_sessionWrite (wt hm); assumption)

theorem fr_execSoftEvent {m : Nat} (hm : Within 16777215 m) {s0 s : State} {a0 a1} (h : Fr m s0 s) : FrR m s0 (execSoftEvent a0 a1 s) := by
  unfold execSoftEvent
  split; with_reducible (apply frR_inst; apply frR_next; apply fr_sessionWrite (wt hm); assumption; apply frR_inst; apply frR_next)
  with_reducible (apply fr_onPage (wt hm); assumption); intro _ _; with_reducible (apply fr_dowelPageWrite (wt hm); assumption)

theorem fr_execAlertRelease {m : Nat} (hm : Within 16777215 m) {s0 s : State} {a0 a1} (h : Fr m s0 s) : FrR m s0 (execAlertRelease a0 a1 s) := by
  unfold execAlertRelease
  with_reducible (apply frR_inst; apply frR_next; apply fr_sessionWrite (wt hm); assumption)

theorem fr_execSnapNow {m : Nat} (hm : Within 16777215 m) {s0 s : State} {a0 a1} (h : Fr m s0 s) : FrR m s0 (execSnapNow a0 a1 s) := by
  unfold execSnapNow
  with_reducible (apply frR_inst; apply frR_next; apply fr_sessionWrite (wt hm); assumption)

theorem fr_execOvfClear {m : Nat} (hm : Within 16777215 m) {s0 s : State} {a0 a1} (h : Fr m s0 s) : FrR m s0 (execOvfClear a0 a1 s) := by
  unfold execOvfClear
  with_reducible (apply frR_inst; apply frR_next; apply fr_sessionWrite (wt hm); assumption)

theorem fr_execCounterClear {m : Nat} (hm : Within 16777215 m) {s0 s : State} {a0 a1} (h : Fr m s0 s) : FrR m s0 (execCounterClear a0 a1 s) := by
  unfold execCounterClear
  with_reducible (apply frR_inst; apply frR_next); split
  with_reducible (apply fr_sessionWrite (wt hm); assumption; apply fr_onPage (wt hm); assumption); intro _ _
  with_reducible (apply fr_counterZero (wt hm); assumption)

theorem fr_execFailover {m : Nat} (hm : Within 16777215 m) {s0 s : State} {a0} (h : Fr m s0 s) : FrR m s0 (execFailover a0 s) := by
  unfold execFailover
  with_reducible (apply frR_next; apply fr_sessionWrite (wt hm); assumption)

theorem fr_execActivate {m : Nat} (hm : Within 16777215 m) {s0 s : State} {a0} (h : Fr m s0 s) : FrR m s0 (execActivate a0 s) := by
  unfold execActivate
  with_reducible (apply frR_next; apply fr_sessionWrite (wt hm); assumption)

theorem fr_execKeep {m : Nat} (hm : Within 16777215 m) {s0 s : State} {a0} (h : Fr m s0 s) : FrR m s0 (execKeep a0 s) := by
  unfold execKeep
  with_reducible (apply frR_next; apply fr_sessionWrite (wt hm); assumption)

theorem fr_execWake {m : Nat} (hm : Within 16777215 m) {s0 s : State} {a0} (h : Fr m s0 s) : FrR m s0 (execWake a0 s) := by
  unfold execWake
  with_reducible (apply frR_next; apply fr_sessionWrite (wt hm); assumption)

theorem fr_execDeviceReset {m : Nat} (hm : Within 16777215 m) {s0 s : State} {a0} (h : Fr m s0 s) : FrR m s0 (execDeviceReset a0 s) := by
  unfold execDeviceReset
  with_reducible (apply frR_next; apply fr_sessionWrite (wt hm); assumption)

theorem fr_execSessionClose {m : Nat} (hm : Within 16777215 m) {s0 s : State} {a0 a1} (h : Fr m s0 s) : FrR m s0 (execSessionClose a0 a1 s) := by
  unfold execSessionClose
  with_reducible (apply frR_inst; apply frR_next; apply fr_sessionWrite (wt hm); assumption)

theorem fr_execKeySet {m : Nat} (hm : Within 16777215 m) {s0 s : State} {a0 a1 a2} (h : Fr m s0 s) : FrR m s0 (execKeySet a0 a1 a2 s) := by
  unfold execKeySet
  with_reducible (apply frR_inst; apply frR_next; apply fr_sessionWrite (wt hm); assumption)

theorem fr_execDebugEnter {m : Nat} (hm : Within 16777215 m) {s0 s : State} {a0} (h : Fr m s0 s) : FrR m s0 (execDebugEnter a0 s) := by
  unfold execDebugEnter
  with_reducible (apply frR_next; apply fr_sessionWrite (wt hm); assumption)

theorem fr_execDebugLeave {m : Nat} (hm : Within 16777215 m) {s0 s : State} {a0} (h : Fr m s0 s) : FrR m s0 (execDebugLeave a0 s) := by
  unfold execDebugLeave
  with_reducible (apply frR_next; apply fr_sessionWrite (wt hm); assumption)

end Sys2Proof.Machine
end

