-- ==== Sys2Proof/Laws/FrameConsumers.lean ====
section
/-! SUPPORT. What the definitions of Machine/Consumers.lean leave alone (Fr). -/

set_option Elab.async false

namespace Sys2Proof.Machine

theorem fr_consume {m : Nat} (hm : Within 704383 m) {s0 s : State} {a1} (h : Fr m s0 s) : FrR m s0 (State.consume s a1) := by
  unfold State.consume
  split; with_reducible (apply fr_execCribFreeze (wt hm); assumption); split; with_reducible apply frR_next; split
  with_reducible (apply fr_dmaStartEvent (wt hm); assumption; apply fr_dmaAbortEvent (wt hm); assumption); split
  with_reducible (apply fr_execToutEvent (wt hm); assumption); split; with_reducible apply frR_next; split
  with_reducible (apply fr_holdEvent (wt hm); apply fr_takeInput (wt hm); assumption; assumption); split
  with_reducible (apply fr_execDoveShift (wt hm); assumption); split
  with_reducible (apply frR_next; apply fr_eventNotify (wt hm); assumption); split
  with_reducible (apply frR_next; apply fr_alertDelivery (wt hm); assumption); split
  with_reducible (apply frR_next; apply fr_relayEmit (wt hm); assumption); split
  with_reducible (apply frR_next; apply fr_snapEvent (wt hm); assumption; apply frR_next; assumption)

theorem fr_execConsumerTake {m : Nat} (hm : Within 704383 m) {s0 s : State} {a0} (h : Fr m s0 s) : FrR m s0 (execConsumerTake a0 s) := by
  unfold execConsumerTake
  with_reducible apply frR_inst; split; with_reducible (apply fr_consume (wt hm); assumption; apply frR_next; assumption)

end Sys2Proof.Machine
end

