-- ==== Sys2Proof/Laws/FrameFdp.lean ====
section
/-! SUPPORT. What the definitions of Machine/Fdp.lean leave alone (Fr). -/

set_option Elab.async false

namespace Sys2Proof.Machine

theorem fr_writeOp {m : Nat} (hm : Within 16777215 m) {s0 s : State} {a1 a2 a3 a4} (h : Fr m s0 s) : FrP m s0 (State.writeOp s a1 a2 a3 a4) := by
  unfold State.writeOp
  split; with_reducible (apply frP_mk; assumption); split; split
  with_reducible (apply frP_mk; assumption; apply frP_mk; assumption; apply fr_writeEntry (wt hm); assumption)

theorem fr_setTransfer {m : Nat} (hm : Within 524288 m) {s0 s : State} {a1 a2} (h : Fr m s0 s) : Fr m s0 (State.setTransfer s a1 a2) := by
  unfold State.setTransfer
  with_reducible (apply fr_modSession (wt hm); assumption)

theorem fr_domBegin {m : Nat} (hm : Within 524288 m) {s0 s : State} {a1 a2 a3 a4} (h : Fr m s0 s) : FrP m s0 (State.domBegin s a1 a2 a3 a4) := by
  unfold State.domBegin
  split; with_reducible (apply frP_mk; assumption); split; with_reducible (apply frP_mk; assumption); split
  with_reducible (apply frP_mk; assumption); split; with_reducible (apply frP_mk; assumption); split
  with_reducible (apply frP_mk; assumption); split; with_reducible (apply frP_mk; assumption); split
  with_reducible (apply frP_mk; assumption; apply frP_mk; apply fr_setTransfer (wt hm); assumption)

theorem fr_domSeg {m : Nat} (hm : Within 524288 m) {s0 s : State} {a1 a2 a3 a4 a5} (h : Fr m s0 s) : FrP m s0 (State.domSeg s a1 a2 a3 a4 a5) := by
  unfold State.domSeg
  split; with_reducible (apply frP_mk; assumption); split; with_reducible (apply frP_mk; assumption); split
  with_reducible (apply frP_mk; assumption); split; with_reducible (apply frP_mk; assumption); split
  with_reducible (apply frP_mk; assumption); split
  with_reducible (apply frP_mk; assumption; apply frP_mk; apply fr_setTransfer (wt hm); assumption)

theorem fr_domEnd {m : Nat} (hm : Within 16777215 m) {s0 s : State} {a1 a2 a3 a4} (h : Fr m s0 s) : FrP m s0 (State.domEnd s a1 a2 a3 a4) := by
  unfold State.domEnd
  split; with_reducible (apply frP_mk; assumption); split; with_reducible (apply frP_mk; assumption); split
  with_reducible (apply frP_mk; assumption); split
  with_reducible (apply frP_mk; apply fr_setTransfer (wt hm); assumption; apply fr_writeEntry (wt hm); apply fr_setTransfer (wt hm))
  with_reducible assumption

theorem fr_domCancel {m : Nat} (hm : Within 524288 m) {s0 s : State} {a1 a2 a3} (h : Fr m s0 s) : FrP m s0 (State.domCancel s a1 a2 a3) := by
  unfold State.domCancel
  split; with_reducible (apply frP_mk; assumption; apply frP_mk; apply fr_setTransfer (wt hm); assumption)

theorem fr_runOp {m : Nat} (hm : Within 16777215 m) {s0 s : State} {a1 a2} (h : Fr m s0 s) : FrP m s0 (State.runOp s a1 a2) := by
  unfold State.runOp
  split; with_reducible (apply frP_mk; assumption); split
  with_reducible (apply frP_mk; assumption; apply fr_writeOp (wt hm); assumption; apply frP_mk; assumption); split
  with_reducible (apply fr_domBegin (wt hm); assumption; apply frP_mk; assumption); split
  with_reducible (apply frP_mk; assumption; apply fr_domSeg (wt hm); assumption); split
  with_reducible (apply fr_domEnd (wt hm); assumption; apply frP_mk; assumption); split
  with_reducible (apply frP_mk; assumption; apply frP_mk; assumption; apply fr_domCancel (wt hm); assumption; apply frP_mk; assumption)

theorem fr_sessionOp {m : Nat} (hm : Within 16777215 m) {s0 s : State} {a1 a2} (h : Fr m s0 s) : Fr m s0 (State.sessionOp s a1 a2) := by
  unfold State.sessionOp
  split; dsimp only; with_reducible (apply fr_result (wt hm); apply fr_snd; apply fr_runOp (wt hm); assumption; assumption)

theorem fr_execFdpRead {m : Nat} (hm : Within 16777215 m) {s0 s : State} {a0 a1 a2} (h : Fr m s0 s) : FrR m s0 (execFdpRead a0 a1 a2 s) := by
  unfold execFdpRead
  with_reducible (apply frR_next; apply fr_sessionOp (wt hm); assumption)

theorem fr_execFdpWrite {m : Nat} (hm : Within 16777215 m) {s0 s : State} {a0 a1 a2 a3} (h : Fr m s0 s) : FrR m s0 (execFdpWrite a0 a1 a2 a3 s) := by
  unfold execFdpWrite
  with_reducible (apply frR_next; apply fr_sessionOp (wt hm); assumption)

theorem fr_execFdpDescribe {m : Nat} (hm : Within 16777215 m) {s0 s : State} {a0 a1 a2} (h : Fr m s0 s) : FrR m s0 (execFdpDescribe a0 a1 a2 s) := by
  unfold execFdpDescribe
  with_reducible (apply frR_next; apply fr_sessionOp (wt hm); assumption)

theorem fr_execDomBegin {m : Nat} (hm : Within 16777215 m) {s0 s : State} {a0 a1 a2 a3} (h : Fr m s0 s) : FrR m s0 (execDomBegin a0 a1 a2 a3 s) := by
  unfold execDomBegin
  with_reducible (apply frR_inst; apply frR_next; apply fr_sessionOp (wt hm); assumption)

theorem fr_execDomSeg {m : Nat} (hm : Within 16777215 m) {s0 s : State} {a0 a1 a2 a3 a4} (h : Fr m s0 s) : FrR m s0 (execDomSeg a0 a1 a2 a3 a4 s) := by
  unfold execDomSeg
  with_reducible (apply frR_inst; apply frR_next; apply fr_sessionOp (wt hm); assumption)

theorem fr_execDomEnd {m : Nat} (hm : Within 16777215 m) {s0 s : State} {a0 a1 a2 a3} (h : Fr m s0 s) : FrR m s0 (execDomEnd a0 a1 a2 a3 s) := by
  unfold execDomEnd
  with_reducible (apply frR_inst; apply frR_next; apply fr_sessionOp (wt hm); assumption)

theorem fr_execDomRead {m : Nat} (hm : Within 16777215 m) {s0 s : State} {a0 a1 a2 a3 a4} (h : Fr m s0 s) : FrR m s0 (execDomRead a0 a1 a2 a3 a4 s) := by
  unfold execDomRead
  with_reducible (apply frR_inst; apply frR_next; apply fr_sessionOp (wt hm); assumption)

theorem fr_execDomCancel {m : Nat} (hm : Within 16777215 m) {s0 s : State} {a0 a1 a2} (h : Fr m s0 s) : FrR m s0 (execDomCancel a0 a1 a2 s) := by
  unfold execDomCancel
  with_reducible (apply frR_next; apply fr_sessionOp (wt hm); assumption)

theorem fr_runOps {m : Nat} (hm : Within 16777215 m) {s0 s : State} {sess used : Nat} {os} (h : Fr m s0 s) : Fr m s0 (s.runOps sess used os) := by
  induction os generalizing s used with
  | nil => exact h
  | cons o os ih =>
    unfold State.runOps
    dsimp only
    split
    · exact ih ((fr_result (wt hm)) h)
    · exact ih ((fr_result (wt hm)) ((fr_runOp (wt hm)) h).fr)

theorem fr_runAtomic {m : Nat} (hm : Within 16777215 m) {s0 s : State} {a1 a2} (h : Fr m s0 s) : Fr m s0 (State.runAtomic s a1 a2) := by
  unfold State.runAtomic
  dsimp only; split; with_reducible (apply fr_foldl; assumption); intro _ _ _; with_reducible (apply fr_result (wt hm); assumption); split
  with_reducible (apply fr_runOps (wt hm); assumption; apply fr_foldl; assumption); intro _ _ _
  with_reducible (apply fr_result (wt hm); assumption)

theorem fr_seqDone {m : Nat} (hm : Within 524290 m) {s0 s : State} {a1 a2} (h : Fr m s0 s) : Fr m s0 (State.seqDone s a1 a2) := by
  unfold State.seqDone
  dsimp only; with_reducible (apply fr_modSession (wt hm); apply fr_setReg (wt hm); assumption)

theorem fr_respond {m : Nat} (hm : Within 13108515 m) {s0 s : State} {a1 a2 a3} (h : Fr m s0 s) : Fr m s0 (State.respond s a1 a2 a3) := by
  unfold State.respond
  dsimp only; split; apply fr_mk_answer (wt hm); with_reducible assumption; split
  with_reducible (apply fr_closeSession (wt hm); apply fr_sendTo (wt hm); apply fr_inc64 (wt hm); apply fr_modSession (wt hm))
  apply fr_mk_answer (wt hm); with_reducible (assumption; apply fr_sendTo (wt hm); apply fr_inc64 (wt hm); apply fr_modSession (wt hm))
  apply fr_mk_answer (wt hm); with_reducible assumption

theorem fr_executeRequest {m : Nat} (hm : Within 16777215 m) {s0 s : State} {a1 a2 a3 a4 a5} (h : Fr m s0 s) : Fr m s0 (State.executeRequest s a1 a2 a3 a4 a5) := by
  unfold State.executeRequest
  dsimp only; with_reducible apply fr_respond (wt hm); split; with_reducible apply fr_runAtomic (wt hm); apply fr_mk_answer (wt hm)
  with_reducible (apply fr_seqDone (wt hm); assumption; apply fr_runOps (wt hm)); apply fr_mk_answer (wt hm)
  with_reducible (apply fr_seqDone (wt hm); assumption)

theorem fr_takeRequest {m : Nat} (hm : Within 16777215 m) {s0 s : State} {a1 a2 a3} (h : Fr m s0 s) : Fr m s0 (State.takeRequest s a1 a2 a3) := by
  unfold State.takeRequest
  split; with_reducible (apply fr_sendTo (wt hm); assumption); split
  with_reducible (apply fr_executeRequest (wt hm); assumption; apply fr_inc32 (wt hm); assumption)

theorem fr_authFail {m : Nat} (hm : Within 2 m) {s0 s : State} (h : Fr m s0 s) : Fr m s0 (State.authFail s) := by
  unfold State.authFail
  with_reducible (apply fr_inc32 (wt hm); assumption)

theorem fr_malformed {m : Nat} (hm : Within 2 m) {s0 s : State} (h : Fr m s0 s) : Fr m s0 (State.malformed s) := by
  unfold State.malformed
  with_reducible (apply fr_inc32 (wt hm); assumption)

theorem fr_inSession {m : Nat} (hm : Within 2 m) {s0 s : State} {peer : Peer} {f : FdpFrame} {k : State → State} (h : Fr m s0 s)
    (hf : ∀ t, Fr m s0 t → Fr m s0 (k t)) : Fr m s0 (s.inSession peer f k) := by
  unfold State.inSession
  dsimp only
  split
  · exact hf _ ((fr_heard (wt hm)) h)
  · exact (fr_authFail (wt hm)) h

theorem fr_rxRequest {m : Nat} (hm : Within 16777215 m) {s0 s : State} {a1 a2} (h : Fr m s0 s) : Fr m s0 (State.rxRequest s a1 a2) := by
  unfold State.rxRequest
  split; with_reducible (apply fr_malformed (wt hm); assumption; apply fr_inSession (wt hm); assumption); intro _ _
  with_reducible (apply fr_takeRequest (wt hm); assumption)

theorem fr_rxNotifyAck {m : Nat} (hm : Within 524290 m) {s0 s : State} {a1 a2} (h : Fr m s0 s) : Fr m s0 (State.rxNotifyAck s a1 a2) := by
  unfold State.rxNotifyAck
  with_reducible (apply fr_inSession (wt hm); assumption); intro _ _; with_reducible (apply fr_modSession (wt hm); assumption)

theorem fr_rxClose {m : Nat} (hm : Within 8914211 m) {s0 s : State} {a1 a2} (h : Fr m s0 s) : Fr m s0 (State.rxClose s a1 a2) := by
  unfold State.rxClose
  with_reducible (apply fr_inSession (wt hm); assumption); intro _ _; split
  with_reducible (apply fr_closeSession (wt hm); apply fr_seqDone (wt hm); assumption; assumption)

theorem fr_reply {m : Nat} (hm : Within 34 m) {s0 s : State} {a1 a2} (h : Fr m s0 s) : Fr m s0 (State.reply s a1 a2) := by
  unfold State.reply
  with_reducible (apply fr_portSend (wt hm); assumption)

theorem fr_openSession {m : Nat} (hm : Within 524290 m) {s0 s : State} {a1 a2 a3 a4} (h : Fr m s0 s) : Fr m s0 (State.openSession s a1 a2 a3 a4) := by
  unfold State.openSession
  dsimp only; with_reducible (apply fr_notifyBut (wt hm); apply fr_inc32 (wt hm); apply fr_heard (wt hm); apply fr_modSession (wt hm))
  with_reducible (apply fr_setReg (wt hm); apply fr_setReg (wt hm); apply fr_setReg (wt hm); apply fr_setReg (wt hm))
  with_reducible (apply fr_setReg (wt hm); apply fr_freeSession (wt hm); assumption)

theorem fr_grantOpen {m : Nat} (hm : Within 524330 m) {s0 s : State} {a1 a2 a3 a4} (h : Fr m s0 s) : Fr m s0 (State.grantOpen s a1 a2 a3 a4) := by
  unfold State.grantOpen
  split; with_reducible (apply fr_inc32 (wt hm); apply fr_reply (wt hm); assumption); dsimp only
  with_reducible (apply fr_openSession (wt hm); apply fr_reply (wt hm)); apply fr_mk_drawn (wt hm); with_reducible assumption

theorem fr_rxOpen {m : Nat} (hm : Within 524330 m) {s0 s : State} {a1 a2} (h : Fr m s0 s) : Fr m s0 (State.rxOpen s a1 a2) := by
  unfold State.rxOpen
  split; with_reducible (apply fr_malformed (wt hm); assumption); dsimp only; split; split
  with_reducible (apply fr_grantOpen (wt hm); assumption; apply fr_authFail (wt hm); assumption; apply fr_authFail (wt hm); assumption)

theorem fr_rxKeyInit {m : Nat} (hm : Within 35 m) {s0 s : State} {a1 a2} (h : Fr m s0 s) : Fr m s0 (State.rxKeyInit s a1 a2) := by
  unfold State.rxKeyInit
  split; with_reducible (apply fr_malformed (wt hm); assumption); split
  with_reducible (apply fr_authFail (wt hm); assumption; apply fr_reply (wt hm)); apply fr_mk_nv (wt hm); with_reducible assumption

theorem fr_datagram {m : Nat} (hm : Within 16777215 m) {s0 s : State} {a1 a2} (h : Fr m s0 s) : Fr m s0 (State.datagram s a1 a2) := by
  unfold State.datagram
  split; with_reducible (apply fr_malformed (wt hm); assumption); split
  with_reducible (apply fr_rxOpen (wt hm); assumption; apply fr_rxRequest (wt hm); assumption; apply fr_rxNotifyAck (wt hm); assumption)
  with_reducible (apply fr_rxClose (wt hm); assumption; apply fr_rxKeyInit (wt hm); assumption; apply fr_malformed (wt hm); assumption)

theorem fr_takeFrames {m : Nat} (hm : Within 16777215 m) {s0 s : State} {n : Nat} (h : Fr m s0 s) : Fr m s0 (State.takeFrames n s) := by
  induction n generalizing s with
  | zero => exact h
  | succ n ih =>
    unfold State.takeFrames
    split
    · exact h
    · split
      · exact h
      · exact ih ((fr_datagram (wt hm)) ((fr_mk_avail (wt hm)) h))

theorem fr_serve {m : Nat} (hm : Within 16777215 m) {s0 s : State} (h : Fr m s0 s) : Fr m s0 (State.serve s) := by
  unfold State.serve
  with_reducible (apply fr_takeFrames (wt hm); assumption)

theorem fr_arrive {m : Nat} (hm : Within 514 m) {s0 s : State} {a1 a2} (h : Fr m s0 s) : Fr m s0 (State.arrive s a1 a2) := by
  unfold State.arrive
  dsimp only; split; with_reducible (apply fr_inc32 (wt hm); apply fr_rxFrame (wt hm); assumption); apply fr_mk_avail (wt hm)
  with_reducible (apply fr_rxFrame (wt hm); assumption)

theorem fr_execFdpFrameRx {m : Nat} (hm : Within 16777215 m) {s0 s : State} {a0 a1} (h : Fr m s0 s) : FrR m s0 (execFdpFrameRx a0 a1 s) := by
  unfold execFdpFrameRx
  with_reducible (apply frR_inst; apply frR_next); split
  with_reducible (apply fr_serve (wt hm); apply fr_arrive (wt hm); assumption; assumption)

theorem fr_onFrame {m : Nat} (hm : Within 0 m) {s0 s : State} {peer : Peer} {f : State → State} (h : Fr m s0 s)
    (hf : ∀ t, Fr m s0 t → Fr m s0 (f t)) : Fr m s0 (s.onFrame peer f) := by
  unfold State.onFrame
  split
  · exact hf s h
  · exact h

theorem fr_execFdpOpen {m : Nat} (hm : Within 524330 m) {s0 s : State} {a0 a1} (h : Fr m s0 s) : FrR m s0 (execFdpOpen a0 a1 s) := by
  unfold execFdpOpen
  with_reducible (apply frR_inst; apply frR_next; apply fr_onFrame (wt hm); assumption); intro _ _
  with_reducible (apply fr_rxOpen (wt hm); assumption)

theorem fr_execKeyInit {m : Nat} (hm : Within 35 m) {s0 s : State} {a0 a1} (h : Fr m s0 s) : FrR m s0 (execKeyInit a0 a1 s) := by
  unfold execKeyInit
  with_reducible (apply frR_inst; apply frR_next; apply fr_onFrame (wt hm); assumption); intro _ _
  with_reducible (apply fr_rxKeyInit (wt hm); assumption)

theorem fr_execFdpRequest {m : Nat} (hm : Within 16777215 m) {s0 s : State} {a0 a1} (h : Fr m s0 s) : FrR m s0 (execFdpRequest a0 a1 s) := by
  unfold execFdpRequest
  with_reducible (apply frR_inst; apply frR_next; apply fr_onFrame (wt hm); assumption); intro _ _
  with_reducible (apply fr_rxRequest (wt hm); assumption)

theorem fr_execNotifyAck {m : Nat} (hm : Within 524290 m) {s0 s : State} {a0 a1} (h : Fr m s0 s) : FrR m s0 (execNotifyAck a0 a1 s) := by
  unfold execNotifyAck
  with_reducible (apply frR_inst; apply frR_next; apply fr_onFrame (wt hm); assumption); intro _ _
  with_reducible (apply fr_rxNotifyAck (wt hm); assumption)

theorem fr_execCloseFrame {m : Nat} (hm : Within 8914211 m) {s0 s : State} {a0 a1} (h : Fr m s0 s) : FrR m s0 (execCloseFrame a0 a1 s) := by
  unfold execCloseFrame
  with_reducible (apply frR_inst; apply frR_next; apply fr_onFrame (wt hm); assumption); intro _ _
  with_reducible (apply fr_rxClose (wt hm); assumption)

end Sys2Proof.Machine
end

