-- ==== Sys2Proof/Laws/FrameTick.lean ====
section
/-! SUPPORT. What the definitions of Machine/Tick.lean leave alone (Fr). -/

set_option Elab.async false

namespace Sys2Proof.Machine

theorem fr_nextPhase {m : Nat} (hm : Within 256 m) {s0 s : State} (h : Fr m s0 s) : Fr m s0 (State.nextPhase s) := by
  unfold State.nextPhase
  dsimp only; apply fr_mk_dowel (wt hm); with_reducible assumption

theorem fr_countLevel {m : Nat} (hm : Within 258 m) {s0 s : State} {a1 a2} (h : Fr m s0 s) : Fr m s0 (State.countLevel s a1 a2) := by
  unfold State.countLevel
  dsimp only; split; split; with_reducible apply fr_counterAdd (wt hm); apply fr_mk_dowel (wt hm); with_reducible assumption
  apply fr_mk_dowel (wt hm); with_reducible assumption; split; with_reducible apply fr_counterAdd (wt hm); apply fr_mk_dowel (wt hm)
  with_reducible assumption; apply fr_mk_dowel (wt hm); with_reducible assumption; apply fr_mk_dowel (wt hm); with_reducible assumption

theorem fr_addTicks {m : Nat} (hm : Within 2 m) {s0 s : State} {a1 a2 a3} (h : Fr m s0 s) : Fr m s0 (State.addTicks s a1 a2 a3) := by
  unfold State.addTicks
  split; with_reducible (assumption; apply fr_inc64 (wt hm); assumption)

theorem fr_xclkCount {m : Nat} (hm : Within 2 m) {s0 s : State} {a1} (h : Fr m s0 s) : Fr m s0 (State.xclkCount s a1) := by
  unfold State.xclkCount
  dsimp only
  with_reducible (apply fr_addTicks (wt hm); apply fr_addTicks (wt hm); apply fr_addTicks (wt hm); apply fr_each; apply fr_each)
  with_reducible assumption; intro _ _ _; with_reducible (apply fr_addTicks (wt hm); assumption); intro _ _ _; split; split
  with_reducible (apply fr_addTicks (wt hm); apply fr_addTicks (wt hm); assumption; apply fr_addTicks (wt hm); assumption); split
  with_reducible (apply fr_addTicks (wt hm); assumption; assumption)

theorem fr_idleSecond {m : Nat} (hm : Within 2 m) {s0 s : State} (h : Fr m s0 s) : Fr m s0 (State.idleSecond s) := by
  unfold State.idleSecond
  split; with_reducible (apply fr_each; assumption); intro _ _ _; split
  with_reducible (apply fr_setReg (wt hm); assumption; assumption; assumption)

theorem fr_tick {m : Nat} (hm : Within 16777215 m) {s0 s : State} (h : Fr m s0 s) : Fr m s0 (State.tick s) := by
  unfold State.tick
  split; dsimp only; with_reducible (apply fr_keepAdvance (wt hm); apply fr_serve (wt hm)); split
  with_reducible (apply fr_walkTick (wt hm); apply fr_dramTick (wt hm); apply fr_dspTick (wt hm); apply fr_cribTick (wt hm))
  with_reducible (apply fr_nextPhase (wt hm); apply fr_grantAll (wt hm); apply fr_each; apply fr_each; apply fr_xclkCount (wt hm))
  with_reducible (apply fr_each; apply fr_idleSecond (wt hm); apply fr_clockTick (wt hm); assumption); intro _ _ _
  with_reducible (apply fr_countLevel (wt hm); assumption); intro _ _ _; with_reducible (apply fr_countV (wt hm); assumption); intro _ _ _
  with_reducible (apply fr_prbsTx (wt hm); assumption; apply fr_idleSecond (wt hm); apply fr_clockTick (wt hm); assumption)
  with_reducible (apply fr_serve (wt hm); assumption)

end Sys2Proof.Machine
end

