-- ==== Sys2Proof/Laws/Writes.lean ====
section
/-! SUPPORT. The commands that are single writes of a CMD entry: the row each one meets, and what exec answers once the service lets the write through. -/

set_option Elab.async false

namespace Sys2Proof.Machine

set_option linter.unusedSimpArgs false

/-- The gate passes only the row that holds the entry. -/
theorem gate_row {s : State} {sess idx sub : Nat} {r : Row} (h : s.gate sess idx sub = .ok r) : rowOf idx sub = some r := by
  unfold State.gate at h
  cases hr : rowOf idx sub with
  | none => rw [hr] at h; cases h
  | some r' =>
    rw [hr] at h
    dsimp only at h
    repeat' split at h
    all_goals cases h
    rfl

/-- A write that is let through meets the row that holds the entry. -/
theorem writeGate_row {s : State} {sess idx sub : Nat} {r : Row} (h : s.writeGate sess idx sub = .ok r) : rowOf idx sub = some r := by
  unfold State.writeGate at h
  cases hg : s.gate sess idx sub with
  | error e => rw [hg] at h; cases h
  | ok r' =>
    rw [hg] at h
    dsimp only at h
    split at h
    · cases h
    · split at h
      · cases h
      · cases h
        exact gate_row hg

/-- An open session's write, with its answer spelt out. -/
theorem sessionWrite_open {s : State} {sess idx sub : Nat} {data : Bytes} (h : s.sessionOpen sess = true) :
    s.sessionWrite sess idx sub data = (s.writeEntry sess idx sub data).2.result sess 2 idx sub (s.writeEntry sess idx sub data).1 := by
  unfold State.sessionWrite
  rw [if_pos h]

/-- What a write of a CMD entry leaves, from its verdict (R454, R465). -/
def State.commanded (s : State) (sess idx sub v : Nat) (x : Verdict) : State :=
  match x with
  | .ok t => t.result sess 2 idx sub (.of stOk)
  | .error d => (s.commandRefused sess idx sub v d).result sess 2 idx sub (.refuse d)

/-- A write of a CMD entry that is let through, of the right length and with a named value, is its command. -/
theorem sessionWrite_cmd {s : State} {sess idx sub : Nat} {data : Bytes} {r : Row} (hl : s.lets sess idx sub) (hr : rowOf idx sub = some r)
    (hc : r.acc = .cmd) (hlen : data.length = r.ty.size) (hpos : data.length ≠ 0) (hn : r.names (ofBytes data) = true) :
    s.sessionWrite sess idx sub data = s.commanded sess idx sub (ofBytes data) (s.command sess idx sub (ofBytes data) data) := by
  obtain ⟨ho, r', hg⟩ := hl
  have hr' := writeGate_row hg
  rw [hr] at hr'
  cases hr'
  rw [sessionWrite_open ho]
  have hw : s.writeEntry sess idx sub data = s.writeCmd sess idx sub r data := by
    unfold State.writeEntry
    rw [hg]
    dsimp only
    cases hty : r.ty <;> simp [hty, Ty.size] at hlen <;> simp_all [Ty.size]
  rw [hw]
  unfold State.writeCmd State.commanded
  simp only [hn, Bool.not_true, Bool.false_eq_true, if_false]
  split <;> simp_all

/-- `result` changes the list of results only. -/
@[simp] theorem result_regs (s : State) (sess op i a : Nat) (x : Answer) : (s.result sess op i a x).regs = s.regs := by
  unfold State.result; split <;> rfl
@[simp] theorem result_board (s : State) (sess op i a : Nat) (x : Answer) : (s.result sess op i a x).board = s.board := by
  unfold State.result; split <;> rfl
@[simp] theorem result_nv (s : State) (sess op i a : Nat) (x : Answer) : (s.result sess op i a x).nv = s.nv := by
  unfold State.result; split <;> rfl
@[simp] theorem result_reg (s : State) (sess op i a : Nat) (x : Answer) (j b : Nat) : (s.result sess op i a x).reg j b = s.reg j b := by
  unfold State.result; split <;> rfl
@[simp] theorem result_pending (s : State) (sess op i a : Nat) (x : Answer) : (s.result sess op i a x).pending = s.pending := by
  unfold State.result; split <;> rfl
@[simp] theorem result_doms (s : State) (sess op i a : Nat) (x : Answer) : (s.result sess op i a x).doms = s.doms := by
  unfold State.result; split <;> rfl
@[simp] theorem result_drawn (s : State) (sess op i a : Nat) (x : Answer) : (s.result sess op i a x).drawn = s.drawn := by
  unfold State.result; split <;> rfl
@[simp] theorem result_dram (s : State) (sess op i a : Nat) (x : Answer) : (s.result sess op i a x).dram = s.dram := by
  unfold State.result; split <;> rfl
@[simp] theorem result_outbox (s : State) (sess op i a : Nat) (x : Answer) : (s.result sess op i a x).outbox = s.outbox := by
  unfold State.result; split <;> rfl
@[simp] theorem result_time (s : State) (sess op i a : Nat) (x : Answer) : (s.result sess op i a x).time = s.time := by
  unfold State.result; split <;> rfl
@[simp] theorem result_pos (s : State) (sess op i a : Nat) (x : Answer) : (s.result sess op i a x).pos = s.pos := by
  unfold State.result; split <;> rfl
@[simp] theorem result_dowel (s : State) (sess op i a : Nat) (x : Answer) : (s.result sess op i a x).dowel = s.dowel := by
  unfold State.result; split <;> rfl
@[simp] theorem result_avail (s : State) (sess op i a : Nat) (x : Answer) : (s.result sess op i a x).avail = s.avail := by
  unfold State.result; split <;> rfl
@[simp] theorem result_power (s : State) (sess op i a : Nat) (x : Answer) : (s.result sess op i a x).power = s.power := by
  unfold State.result; split <;> rfl
@[simp] theorem result_fabric (s : State) (sess op i a : Nat) (x : Answer) : (s.result sess op i a x).fabric = s.fabric := by
  unfold State.result; split <;> rfl
@[simp] theorem result_dsp (s : State) (sess op i a : Nat) (x : Answer) : (s.result sess op i a x).dsp = s.dsp := by
  unfold State.result; split <;> rfl
@[simp] theorem result_insp (s : State) (sess op i a : Nat) (x : Answer) : (s.result sess op i a x).insp = s.insp := by
  unfold State.result; split <;> rfl
@[simp] theorem result_winnow (s : State) (sess op i a : Nat) (x : Answer) : (s.result sess op i a x).winnow = s.winnow := by
  unfold State.result; split <;> rfl
@[simp] theorem result_ddr (s : State) (sess op i a : Nat) (x : Answer) : (s.result sess op i a x).ddr = s.ddr := by
  unfold State.result; split <;> rfl
@[simp] theorem result_xarray (s : State) (sess op i a : Nat) (x : Answer) : (s.result sess op i a x).xarray = s.xarray := by
  unfold State.result; split <;> rfl
@[simp] theorem result_crib (s : State) (sess op i a : Nat) (x : Answer) : (s.result sess op i a x).crib = s.crib := by
  unfold State.result; split <;> rfl
@[simp] theorem result_sheaf (s : State) (sess op i a : Nat) (x : Answer) : (s.result sess op i a x).sheaf = s.sheaf := by
  unfold State.result; split <;> rfl
@[simp] theorem result_dict_sessions (s : State) (sess op i a : Nat) (x : Answer) : (s.result sess op i a x).dict.sessions = s.dict.sessions := by
  unfold State.result; split <;> rfl
@[simp] theorem result_dict_pendingSet (s : State) (sess op i a : Nat) (x : Answer) : (s.result sess op i a x).dict.pendingSet = s.dict.pendingSet := by
  unfold State.result; split <;> rfl
@[simp] theorem result_dict_armed (s : State) (sess op i a : Nat) (x : Answer) : (s.result sess op i a x).dict.armed = s.dict.armed := by
  unfold State.result; split <;> rfl
@[simp] theorem result_dict_past (s : State) (sess op i a : Nat) (x : Answer) : (s.result sess op i a x).dict.past = s.dict.past := by
  unfold State.result; split <;> rfl
@[simp] theorem result_dict_boundaries (s : State) (sess op i a : Nat) (x : Answer) : (s.result sess op i a x).dict.boundaries = s.dict.boundaries := by
  unfold State.result; split <;> rfl
@[simp] theorem result_dict_liveWriters (s : State) (sess op i a : Nat) (x : Answer) : (s.result sess op i a x).dict.liveWriters = s.dict.liveWriters := by
  unfold State.result; split <;> rfl
@[simp] theorem result_dict_serving (s : State) (sess op i a : Nat) (x : Answer) : (s.result sess op i a x).dict.serving = s.dict.serving := by
  unfold State.result; split <;> rfl

/-- One byte in one octet. -/
theorem ofBytes_beBytes_one {n : Nat} (h : n < 256) : ofBytes (beBytes 1 n) = n := by
  simp only [beBytes, ofBytes, List.foldl, BitVec.toNat_ofNat, Nat.pow_zero, Nat.div_one]
  omega

/-! ## Rows and commands -/


theorem row_discard : rowOf 0x1101 2 = some ⟨0x1101, 1, 2, 2, .cmd, .cmd, .live, .operator, 0, [], 1⟩ := by decide

theorem command_discard {s : State} {sess : Nat} : s.command sess 0x1101 2 1 [1] = cmdDiscard sess s := by
  simp [State.command, State.cmdStopped, State.arrayCmd, State.inspectCmd, State.memoryCmd, State.timeCmd, State.systemCmd]

theorem exec_discard {s : State} {sess : Nat} (hl : s.lets sess 0x1101 2) :
    exec (.discard sess) s = .next (s.commanded sess 0x1101 2 1 (cmdDiscard sess s)) := by
  have e := sessionWrite_cmd (data := [1]) hl (row_discard) rfl rfl (by decide) rfl
  rw [show ofBytes [1] = 1 from rfl, command_discard] at e
  show execDiscard sess s = _
  unfold execDiscard
  rw [e]

theorem row_disarm : rowOf 0x1101 3 = some ⟨0x1101, 1, 3, 3, .cmd, .cmd, .live, .operator, 0, [], 1⟩ := by decide

theorem command_disarm {s : State} {sess : Nat} : s.command sess 0x1101 3 1 [1] = cmdDisarm sess s := by
  simp [State.command, State.cmdStopped, State.arrayCmd, State.inspectCmd, State.memoryCmd, State.timeCmd, State.systemCmd]

theorem exec_disarm {s : State} {sess : Nat} (hl : s.lets sess 0x1101 3) :
    exec (.disarm sess) s = .next (s.commanded sess 0x1101 3 1 (cmdDisarm sess s)) := by
  have e := sessionWrite_cmd (data := [1]) hl (row_disarm) rfl rfl (by decide) rfl
  rw [show ofBytes [1] = 1 from rfl, command_disarm] at e
  show execDisarm sess s = _
  unfold execDisarm
  rw [e]

theorem row_prbsInject : rowOf 0x2402 3 = some ⟨0x2402, 1, 3, 3, .cmd, .cmd, .live, .operator, 0, [], 1⟩ := by decide

theorem command_prbsInject {s : State} {sess : Nat} (hk : s.pwState ≠ pwKeep) : s.command sess 0x2402 3 1 [1] = cmdPrbsInject s := by
  simp [State.command, State.cmdStopped, State.arrayCmd, State.inspectCmd, State.memoryCmd, State.timeCmd, State.systemCmd, hk]

theorem exec_prbsInject {s : State} {sess : Nat} (hl : s.letsCmd sess 0x2402 3) :
    exec (.prbsInject sess) s = .next (s.commanded sess 0x2402 3 1 (cmdPrbsInject s)) := by
  have e := sessionWrite_cmd (data := [1]) hl.1 (row_prbsInject) rfl rfl (by decide) rfl
  rw [show ofBytes [1] = 1 from rfl, command_prbsInject hl.2] at e
  show execPrbsInject sess s = _
  unfold execPrbsInject
  rw [e]

theorem row_sheafCounterClear : rowOf 0x2400 5 = some ⟨0x2400, 1, 5, 5, .cmd, .cmd, .live, .operator, 0, [], 1⟩ := by decide

theorem command_sheafCounterClear {s : State} {sess : Nat} (hk : s.pwState ≠ pwKeep) : s.command sess 0x2400 5 1 [1] = cmdSheafClear s := by
  simp [State.command, State.cmdStopped, State.arrayCmd, State.inspectCmd, State.memoryCmd, State.timeCmd, State.systemCmd, hk]

theorem exec_sheafCounterClear {s : State} {sess : Nat} (hl : s.letsCmd sess 0x2400 5) :
    exec (.sheafCounterClear sess) s = .next (s.commanded sess 0x2400 5 1 (cmdSheafClear s)) := by
  have e := sessionWrite_cmd (data := [1]) hl.1 (row_sheafCounterClear) rfl rfl (by decide) rfl
  rw [show ofBytes [1] = 1 from rfl, command_sheafCounterClear hl.2] at e
  show execSheafCounterClear sess s = _
  unfold execSheafCounterClear
  rw [e]

theorem row_fireTrigger : rowOf 0x2803 3 = some ⟨0x2803, 1, 3, 3, .cmd, .cmd, .live, .operator, 0, [], 1⟩ := by decide

theorem command_fireTrigger {s : State} {sess : Nat} (hk : s.pwState ≠ pwKeep) : s.command sess 0x2803 3 1 [1] = cmdFire s := by
  simp [State.command, State.cmdStopped, State.arrayCmd, State.inspectCmd, State.memoryCmd, State.timeCmd, State.systemCmd, hk]

theorem exec_fireTrigger {s : State} {sess : Nat} (hl : s.letsCmd sess 0x2803 3) :
    exec (.fireTrigger sess) s = .next (s.commanded sess 0x2803 3 1 (cmdFire s)) := by
  have e := sessionWrite_cmd (data := [1]) hl.1 (row_fireTrigger) rfl rfl (by decide) rfl
  rw [show ofBytes [1] = 1 from rfl, command_fireTrigger hl.2] at e
  show execFireTrigger sess s = _
  unfold execFireTrigger
  rw [e]

set_option maxRecDepth 20000 in
theorem row_siloRelease {silo : Nat} (h : silo < 64) : rowOf (0x2840 + silo) 11 = some ⟨0x2840, 64, 11, 11, .cmd, .cmd, .live, .operator, 0, [], 1⟩ := by
  have := (by decide : ∀ x < 64, rowOf (0x2840 + x) 11 = some ⟨0x2840, 64, 11, 11, .cmd, .cmd, .live, .operator, 0, [], 1⟩) silo h
  exact this

theorem command_siloRelease {s : State} {sess : Nat} {silo : Nat} (h : silo < 64) (hk : s.pwState ≠ pwKeep) : s.command sess (0x2840 + silo) 11 1 [1] = cmdSiloRelease silo s := by
  have h4 : (0x2840 + silo) / 4096 = 2 := by omega
  have hx : (0x2840 + silo) - 0x2840 = silo := by omega
  unfold State.command
  rw [if_neg (by simp [hk])]
  simp only [h4, State.arrayCmd, State.inspectCmd, State.memoryCmd, State.timeCmd, State.systemCmd, hx]
  repeat' split
  all_goals first | with_reducible rfl | (exfalso; simp_all; done) | (exfalso; simp_all; omega)

theorem exec_siloRelease {s : State} {sess : Nat} {silo : Nat} (h : silo < 64) (hl : s.letsCmd sess (0x2840 + silo) 11) :
    exec (.siloRelease sess silo) s = .next (s.commanded sess (0x2840 + silo) 11 1 (cmdSiloRelease silo s)) := by
  have e := sessionWrite_cmd (data := [1]) hl.1 (row_siloRelease h) rfl rfl (by decide) rfl
  rw [show ofBytes [1] = 1 from rfl, command_siloRelease h hl.2] at e
  show execSiloRelease sess silo s = _
  unfold execSiloRelease
  rw [e]
  rw [show inst (decide (silo < 64)) _ = _ from if_pos (decide_eq_true h)]

theorem row_readoutStart : rowOf 0x2804 7 = some ⟨0x2804, 1, 7, 7, .cmd, .cmd, .live, .operator, 0, [], 1⟩ := by decide

theorem command_readoutStart {s : State} {sess : Nat} (hk : s.pwState ≠ pwKeep) : s.command sess 0x2804 7 1 [1] = cmdReadoutStart s := by
  simp [State.command, State.cmdStopped, State.arrayCmd, State.inspectCmd, State.memoryCmd, State.timeCmd, State.systemCmd, hk]

theorem exec_readoutStart {s : State} {sess : Nat} (hl : s.letsCmd sess 0x2804 7) :
    exec (.readoutStart sess) s = .next (s.commanded sess 0x2804 7 1 (cmdReadoutStart s)) := by
  have e := sessionWrite_cmd (data := [1]) hl.1 (row_readoutStart) rfl rfl (by decide) rfl
  rw [show ofBytes [1] = 1 from rfl, command_readoutStart hl.2] at e
  show execReadoutStart sess s = _
  unfold execReadoutStart
  rw [e]

theorem row_readoutAbort : rowOf 0x2804 8 = some ⟨0x2804, 1, 8, 8, .cmd, .cmd, .live, .operator, 0, [], 1⟩ := by decide

theorem command_readoutAbort {s : State} {sess : Nat} (hk : s.pwState ≠ pwKeep) : s.command sess 0x2804 8 1 [1] = cmdReadoutAbort s := by
  simp [State.command, State.cmdStopped, State.arrayCmd, State.inspectCmd, State.memoryCmd, State.timeCmd, State.systemCmd, hk]

theorem exec_readoutAbort {s : State} {sess : Nat} (hl : s.letsCmd sess 0x2804 8) :
    exec (.readoutAbort sess) s = .next (s.commanded sess 0x2804 8 1 (cmdReadoutAbort s)) := by
  have e := sessionWrite_cmd (data := [1]) hl.1 (row_readoutAbort) rfl rfl (by decide) rfl
  rw [show ofBytes [1] = 1 from rfl, command_readoutAbort hl.2] at e
  show execReadoutAbort sess s = _
  unfold execReadoutAbort
  rw [e]

set_option maxRecDepth 20000 in
theorem row_jigRestart {bay : Nat} (h : bay < 4) : rowOf (0x3010 + bay) 16 = some ⟨0x3010, 4, 16, 16, .cmd, .cmd, .live, .operator, 0, [], 1⟩ := by
  have := (by decide : ∀ x < 4, rowOf (0x3010 + x) 16 = some ⟨0x3010, 4, 16, 16, .cmd, .cmd, .live, .operator, 0, [], 1⟩) bay h
  exact this

theorem command_jigRestart {s : State} {sess : Nat} {bay : Nat} (h : bay < 4) (hk : s.pwState ≠ pwKeep) : s.command sess (0x3010 + bay) 16 1 [1] = cmdJigRestart bay s := by
  have h4 : (0x3010 + bay) / 4096 = 3 := by omega
  have hx : (0x3010 + bay) - 0x3010 = bay := by omega
  unfold State.command
  rw [if_neg (by simp [hk])]
  simp only [h4, State.arrayCmd, State.inspectCmd, State.memoryCmd, State.timeCmd, State.systemCmd, hx]
  repeat' split
  all_goals first | with_reducible rfl | (exfalso; simp_all; done) | (exfalso; simp_all; omega)

theorem exec_jigRestart {s : State} {sess : Nat} {bay : Nat} (h : bay < 4) (hl : s.letsCmd sess (0x3010 + bay) 16) :
    exec (.jigRestart sess bay) s = .next (s.commanded sess (0x3010 + bay) 16 1 (cmdJigRestart bay s)) := by
  have e := sessionWrite_cmd (data := [1]) hl.1 (row_jigRestart h) rfl rfl (by decide) rfl
  rw [show ofBytes [1] = 1 from rfl, command_jigRestart h hl.2] at e
  show execJigRestart sess bay s = _
  unfold execJigRestart
  rw [e]
  rw [show inst (decide (bay < 4)) _ = _ from if_pos (decide_eq_true h)]

set_option maxRecDepth 20000 in
theorem row_retest {tile : Nat} (h : tile < 272) : rowOf (0x2200 + tile) 6 = some ⟨0x2200, 272, 6, 6, .cmd, .cmd, .live, .integratorOrService, 0, [], 1⟩ := by
  have := (by decide : ∀ x < 272, rowOf (0x2200 + x) 6 = some ⟨0x2200, 272, 6, 6, .cmd, .cmd, .live, .integratorOrService, 0, [], 1⟩) tile h
  exact this

theorem command_retest {s : State} {sess : Nat} {tile : Nat} (h : tile < 272) (hk : s.pwState ≠ pwKeep) : s.command sess (0x2200 + tile) 6 1 [1] = cmdRetest tile s := by
  have h4 : (0x2200 + tile) / 4096 = 2 := by omega
  have hx : (0x2200 + tile) - 0x2200 = tile := by omega
  unfold State.command
  rw [if_neg (by simp [hk])]
  simp only [h4, State.arrayCmd, State.inspectCmd, State.memoryCmd, State.timeCmd, State.systemCmd, hx]
  repeat' split
  all_goals first | with_reducible rfl | (exfalso; simp_all; done) | (exfalso; simp_all; omega)

theorem exec_retest {s : State} {sess : Nat} {tile : Nat} (h : tile < 272) (hl : s.letsCmd sess (0x2200 + tile) 6) :
    exec (.retest sess tile) s = .next (s.commanded sess (0x2200 + tile) 6 1 (cmdRetest tile s)) := by
  have e := sessionWrite_cmd (data := [1]) hl.1 (row_retest h) rfl rfl (by decide) rfl
  rw [show ofBytes [1] = 1 from rfl, command_retest h hl.2] at e
  show execRetest sess tile s = _
  unfold execRetest
  rw [e]
  rw [show inst (decide (tile < 272)) _ = _ from if_pos (decide_eq_true h)]

set_option maxRecDepth 20000 in
theorem row_frameSlotRelease {slot : Nat} (h : slot < 64) : rowOf (0x40C0 + slot) 5 = some ⟨0x40C0, 64, 5, 5, .cmd, .cmd, .live, .operator, 0, [], 1⟩ := by
  have := (by decide : ∀ x < 64, rowOf (0x40C0 + x) 5 = some ⟨0x40C0, 64, 5, 5, .cmd, .cmd, .live, .operator, 0, [], 1⟩) slot h
  exact this

theorem command_frameSlotRelease {s : State} {sess : Nat} {slot : Nat} (h : slot < 64) (hk : s.pwState ≠ pwKeep) : s.command sess (0x40C0 + slot) 5 1 [1] = cmdSlotRelease slot s := by
  have h4 : (0x40C0 + slot) / 4096 = 4 := by omega
  have hx : (0x40C0 + slot) - 0x40C0 = slot := by omega
  unfold State.command
  rw [if_neg (by simp [hk])]
  simp only [h4, State.arrayCmd, State.inspectCmd, State.memoryCmd, State.timeCmd, State.systemCmd, hx]
  repeat' split
  all_goals first | with_reducible rfl | (exfalso; simp_all; done) | (exfalso; simp_all; omega)

theorem exec_frameSlotRelease {s : State} {sess : Nat} {slot : Nat} (h : slot < 64) (hl : s.letsCmd sess (0x40C0 + slot) 5) :
    exec (.frameSlotRelease sess slot) s = .next (s.commanded sess (0x40C0 + slot) 5 1 (cmdSlotRelease slot s)) := by
  have e := sessionWrite_cmd (data := [1]) hl.1 (row_frameSlotRelease h) rfl rfl (by decide) rfl
  rw [show ofBytes [1] = 1 from rfl, command_frameSlotRelease h hl.2] at e
  show execFrameSlotRelease sess slot s = _
  unfold execFrameSlotRelease
  rw [e]
  rw [show inst (decide (slot < 64)) _ = _ from if_pos (decide_eq_true h)]

set_option maxRecDepth 20000 in
theorem row_clearCorr {k : Nat} (h : k < 16) : rowOf (0x4410 + k) 11 = some ⟨0x4410, 16, 11, 11, .cmd, .cmd, .live, .operator, 0, [], 1⟩ := by
  have := (by decide : ∀ x < 16, rowOf (0x4410 + x) 11 = some ⟨0x4410, 16, 11, 11, .cmd, .cmd, .live, .operator, 0, [], 1⟩) k h
  exact this

theorem command_clearCorr {s : State} {sess : Nat} {k : Nat} (h : k < 16) (hk : s.pwState ≠ pwKeep) : s.command sess (0x4410 + k) 11 1 [1] = cmdClearCorr k s := by
  have h4 : (0x4410 + k) / 4096 = 4 := by omega
  have hx : (0x4410 + k) - 0x4410 = k := by omega
  unfold State.command
  rw [if_neg (by simp [hk])]
  simp only [h4, State.arrayCmd, State.inspectCmd, State.memoryCmd, State.timeCmd, State.systemCmd, hx]
  repeat' split
  all_goals first | with_reducible rfl | (exfalso; simp_all; done) | (exfalso; simp_all; omega)

theorem exec_clearCorr {s : State} {sess : Nat} {k : Nat} (h : k < 16) (hl : s.letsCmd sess (0x4410 + k) 11) :
    exec (.clearCorr sess k) s = .next (s.commanded sess (0x4410 + k) 11 1 (cmdClearCorr k s)) := by
  have e := sessionWrite_cmd (data := [1]) hl.1 (row_clearCorr h) rfl rfl (by decide) rfl
  rw [show ofBytes [1] = 1 from rfl, command_clearCorr h hl.2] at e
  show execClearCorr sess k s = _
  unfold execClearCorr
  rw [e]
  rw [show inst (decide (k < 16)) _ = _ from if_pos (decide_eq_true h)]

set_option maxRecDepth 20000 in
theorem row_debugHaltCmd {core : Nat} (h : core < 16) : rowOf (0xF500 + core) 1 = some ⟨0xF500, 16, 1, 1, .cmd, .cmd, .live, .operator, 0, [], 1⟩ := by
  have := (by decide : ∀ x < 16, rowOf (0xF500 + x) 1 = some ⟨0xF500, 16, 1, 1, .cmd, .cmd, .live, .operator, 0, [], 1⟩) core h
  exact this

theorem command_debugHaltCmd {s : State} {sess : Nat} {core : Nat} (h : core < 16) (hk : s.pwState ≠ pwKeep) : s.command sess (0xF500 + core) 1 1 [1] = cmdDspHalt core s := by
  have h4 : (0xF500 + core) / 4096 = 15 := by omega
  have hx : (0xF500 + core) - 0xF500 = core := by omega
  unfold State.command
  rw [if_neg (by simp [hk])]
  simp only [h4, State.arrayCmd, State.inspectCmd, State.memoryCmd, State.timeCmd, State.systemCmd, hx]
  repeat' split
  all_goals first | with_reducible rfl | (exfalso; simp_all; done) | (exfalso; simp_all; omega)

theorem exec_debugHaltCmd {s : State} {sess : Nat} {core : Nat} (h : core < 16) (hl : s.letsCmd sess (0xF500 + core) 1) :
    exec (.debugHaltCmd sess core) s = .next (s.commanded sess (0xF500 + core) 1 1 (cmdDspHalt core s)) := by
  have e := sessionWrite_cmd (data := [1]) hl.1 (row_debugHaltCmd h) rfl rfl (by decide) rfl
  rw [show ofBytes [1] = 1 from rfl, command_debugHaltCmd h hl.2] at e
  show execDebugHaltCmd sess core s = _
  unfold execDebugHaltCmd
  rw [e]
  rw [show inst (decide (core < 16)) _ = _ from if_pos (decide_eq_true h)]

set_option maxRecDepth 20000 in
theorem row_debugResume {core : Nat} (h : core < 16) : rowOf (0xF500 + core) 2 = some ⟨0xF500, 16, 2, 2, .cmd, .cmd, .live, .operator, 0, [], 1⟩ := by
  have := (by decide : ∀ x < 16, rowOf (0xF500 + x) 2 = some ⟨0xF500, 16, 2, 2, .cmd, .cmd, .live, .operator, 0, [], 1⟩) core h
  exact this

theorem command_debugResume {s : State} {sess : Nat} {core : Nat} (h : core < 16) (hk : s.pwState ≠ pwKeep) : s.command sess (0xF500 + core) 2 1 [1] = cmdDspResume core s := by
  have h4 : (0xF500 + core) / 4096 = 15 := by omega
  have hx : (0xF500 + core) - 0xF500 = core := by omega
  unfold State.command
  rw [if_neg (by simp [hk])]
  simp only [h4, State.arrayCmd, State.inspectCmd, State.memoryCmd, State.timeCmd, State.systemCmd, hx]
  repeat' split
  all_goals first | with_reducible rfl | (exfalso; simp_all; done) | (exfalso; simp_all; omega)

theorem exec_debugResume {s : State} {sess : Nat} {core : Nat} (h : core < 16) (hl : s.letsCmd sess (0xF500 + core) 2) :
    exec (.debugResume sess core) s = .next (s.commanded sess (0xF500 + core) 2 1 (cmdDspResume core s)) := by
  have e := sessionWrite_cmd (data := [1]) hl.1 (row_debugResume h) rfl rfl (by decide) rfl
  rw [show ofBytes [1] = 1 from rfl, command_debugResume h hl.2] at e
  show execDebugResume sess core s = _
  unfold execDebugResume
  rw [e]
  rw [show inst (decide (core < 16)) _ = _ from if_pos (decide_eq_true h)]

set_option maxRecDepth 20000 in
theorem row_debugStep {core : Nat} (h : core < 16) : rowOf (0xF500 + core) 3 = some ⟨0xF500, 16, 3, 3, .cmd, .cmd, .live, .operator, 0, [], 1⟩ := by
  have := (by decide : ∀ x < 16, rowOf (0xF500 + x) 3 = some ⟨0xF500, 16, 3, 3, .cmd, .cmd, .live, .operator, 0, [], 1⟩) core h
  exact this

theorem command_debugStep {s : State} {sess : Nat} {core : Nat} (h : core < 16) (hk : s.pwState ≠ pwKeep) : s.command sess (0xF500 + core) 3 1 [1] = cmdDspStep core s := by
  have h4 : (0xF500 + core) / 4096 = 15 := by omega
  have hx : (0xF500 + core) - 0xF500 = core := by omega
  unfold State.command
  rw [if_neg (by simp [hk])]
  simp only [h4, State.arrayCmd, State.inspectCmd, State.memoryCmd, State.timeCmd, State.systemCmd, hx]
  repeat' split
  all_goals first | with_reducible rfl | (exfalso; simp_all; done) | (exfalso; simp_all; omega)

theorem exec_debugStep {s : State} {sess : Nat} {core : Nat} (h : core < 16) (hl : s.letsCmd sess (0xF500 + core) 3) :
    exec (.debugStep sess core) s = .next (s.commanded sess (0xF500 + core) 3 1 (cmdDspStep core s)) := by
  have e := sessionWrite_cmd (data := [1]) hl.1 (row_debugStep h) rfl rfl (by decide) rfl
  rw [show ofBytes [1] = 1 from rfl, command_debugStep h hl.2] at e
  show execDebugStep sess core s = _
  unfold execDebugStep
  rw [e]
  rw [show inst (decide (core < 16)) _ = _ from if_pos (decide_eq_true h)]

set_option maxRecDepth 20000 in
theorem row_declareLost {ch : Nat} (h : ch < 24) : rowOf (0x5810 + ch) 13 = some ⟨0x5810, 24, 13, 13, .cmd, .cmd, .live, .operator, 0, [], 1⟩ := by
  have := (by decide : ∀ x < 24, rowOf (0x5810 + x) 13 = some ⟨0x5810, 24, 13, 13, .cmd, .cmd, .live, .operator, 0, [], 1⟩) ch h
  exact this

theorem command_declareLost {s : State} {sess : Nat} {ch : Nat} (h : ch < 24) (hk : s.pwState ≠ pwKeep) : s.command sess (0x5810 + ch) 13 1 [1] = cmdDeclareLost ch s := by
  have h4 : (0x5810 + ch) / 4096 = 5 := by omega
  have hx : (0x5810 + ch) - 0x5810 = ch := by omega
  unfold State.command
  rw [if_neg (by simp [hk])]
  simp only [h4, State.arrayCmd, State.inspectCmd, State.memoryCmd, State.timeCmd, State.systemCmd, hx]
  repeat' split
  all_goals first | with_reducible rfl | (exfalso; simp_all; done) | (exfalso; simp_all; omega)

theorem exec_declareLost {s : State} {sess : Nat} {ch : Nat} (h : ch < 24) (hl : s.letsCmd sess (0x5810 + ch) 13) :
    exec (.declareLost sess ch) s = .next (s.commanded sess (0x5810 + ch) 13 1 (cmdDeclareLost ch s)) := by
  have e := sessionWrite_cmd (data := [1]) hl.1 (row_declareLost h) rfl rfl (by decide) rfl
  rw [show ofBytes [1] = 1 from rfl, command_declareLost h hl.2] at e
  show execDeclareLost sess ch s = _
  unfold execDeclareLost
  rw [e]
  rw [show inst (decide (ch < 24)) _ = _ from if_pos (decide_eq_true h)]

set_option maxRecDepth 20000 in
theorem row_rebuild {ch : Nat} (h : ch < 24) : rowOf (0x5810 + ch) 14 = some ⟨0x5810, 24, 14, 14, .cmd, .cmd, .live, .operator, 0, [], 1⟩ := by
  have := (by decide : ∀ x < 24, rowOf (0x5810 + x) 14 = some ⟨0x5810, 24, 14, 14, .cmd, .cmd, .live, .operator, 0, [], 1⟩) ch h
  exact this

theorem command_rebuild {s : State} {sess : Nat} {ch : Nat} (h : ch < 24) (hk : s.pwState ≠ pwKeep) : s.command sess (0x5810 + ch) 14 1 [1] = cmdRebuild ch s := by
  have h4 : (0x5810 + ch) / 4096 = 5 := by omega
  have hx : (0x5810 + ch) - 0x5810 = ch := by omega
  unfold State.command
  rw [if_neg (by simp [hk])]
  simp only [h4, State.arrayCmd, State.inspectCmd, State.memoryCmd, State.timeCmd, State.systemCmd, hx]
  repeat' split
  all_goals first | with_reducible rfl | (exfalso; simp_all; done) | (exfalso; simp_all; omega)

theorem exec_rebuild {s : State} {sess : Nat} {ch : Nat} (h : ch < 24) (hl : s.letsCmd sess (0x5810 + ch) 14) :
    exec (.rebuild sess ch) s = .next (s.commanded sess (0x5810 + ch) 14 1 (cmdRebuild ch s)) := by
  have e := sessionWrite_cmd (data := [1]) hl.1 (row_rebuild h) rfl rfl (by decide) rfl
  rw [show ofBytes [1] = 1 from rfl, command_rebuild h hl.2] at e
  show execRebuild sess ch s = _
  unfold execRebuild
  rw [e]
  rw [show inst (decide (ch < 24)) _ = _ from if_pos (decide_eq_true h)]

set_option maxRecDepth 20000 in
theorem row_applyDelays {ch : Nat} (h : ch < 24) : rowOf (0x5840 + ch) 3 = some ⟨0x5840, 24, 3, 3, .cmd, .cmd, .live, .operator, 0, [], 1⟩ := by
  have := (by decide : ∀ x < 24, rowOf (0x5840 + x) 3 = some ⟨0x5840, 24, 3, 3, .cmd, .cmd, .live, .operator, 0, [], 1⟩) ch h
  exact this

theorem command_applyDelays {s : State} {sess : Nat} {ch : Nat} (h : ch < 24) (hk : s.pwState ≠ pwKeep) : s.command sess (0x5840 + ch) 3 1 [1] = cmdApplyDelays ch s := by
  have h4 : (0x5840 + ch) / 4096 = 5 := by omega
  have hx : (0x5840 + ch) - 0x5840 = ch := by omega
  unfold State.command
  rw [if_neg (by simp [hk])]
  simp only [h4, State.arrayCmd, State.inspectCmd, State.memoryCmd, State.timeCmd, State.systemCmd, hx]
  repeat' split
  all_goals first | with_reducible rfl | (exfalso; simp_all; done) | (exfalso; simp_all; omega)

theorem exec_applyDelays {s : State} {sess : Nat} {ch : Nat} (h : ch < 24) (hl : s.letsCmd sess (0x5840 + ch) 3) :
    exec (.applyDelays sess ch) s = .next (s.commanded sess (0x5840 + ch) 3 1 (cmdApplyDelays ch s)) := by
  have e := sessionWrite_cmd (data := [1]) hl.1 (row_applyDelays h) rfl rfl (by decide) rfl
  rw [show ofBytes [1] = 1 from rfl, command_applyDelays h hl.2] at e
  show execApplyDelays sess ch s = _
  unfold execApplyDelays
  rw [e]
  rw [show inst (decide (ch < 24)) _ = _ from if_pos (decide_eq_true h)]

set_option maxRecDepth 20000 in
theorem row_recalibrate {ch : Nat} (h : ch < 24) : rowOf (0x5840 + ch) 5 = some ⟨0x5840, 24, 5, 5, .cmd, .cmd, .live, .operator, 0, [], 1⟩ := by
  have := (by decide : ∀ x < 24, rowOf (0x5840 + x) 5 = some ⟨0x5840, 24, 5, 5, .cmd, .cmd, .live, .operator, 0, [], 1⟩) ch h
  exact this

theorem command_recalibrate {s : State} {sess : Nat} {ch : Nat} (h : ch < 24) (hk : s.pwState ≠ pwKeep) : s.command sess (0x5840 + ch) 5 1 [1] = cmdRecalibrate ch s := by
  have h4 : (0x5840 + ch) / 4096 = 5 := by omega
  have hx : (0x5840 + ch) - 0x5840 = ch := by omega
  unfold State.command
  rw [if_neg (by simp [hk])]
  simp only [h4, State.arrayCmd, State.inspectCmd, State.memoryCmd, State.timeCmd, State.systemCmd, hx]
  repeat' split
  all_goals first | with_reducible rfl | (exfalso; simp_all; done) | (exfalso; simp_all; omega)

theorem exec_recalibrate {s : State} {sess : Nat} {ch : Nat} (h : ch < 24) (hl : s.letsCmd sess (0x5840 + ch) 5) :
    exec (.recalibrate sess ch) s = .next (s.commanded sess (0x5840 + ch) 5 1 (cmdRecalibrate ch s)) := by
  have e := sessionWrite_cmd (data := [1]) hl.1 (row_recalibrate h) rfl rfl (by decide) rfl
  rw [show ofBytes [1] = 1 from rfl, command_recalibrate h hl.2] at e
  show execRecalibrate sess ch s = _
  unfold execRecalibrate
  rw [e]
  rw [show inst (decide (ch < 24)) _ = _ from if_pos (decide_eq_true h)]

theorem row_freqChange : rowOf 0x5800 15 = some ⟨0x5800, 1, 15, 15, .cmd, .cmd, .live, .operator, 0, [], 1⟩ := by decide

theorem command_freqChange {s : State} {sess : Nat} (hk : s.pwState ≠ pwKeep) : s.command sess 0x5800 15 1 [1] = cmdFreqChange s := by
  simp [State.command, State.cmdStopped, State.arrayCmd, State.inspectCmd, State.memoryCmd, State.timeCmd, State.systemCmd, hk]

theorem exec_freqChange {s : State} {sess : Nat} (hl : s.letsCmd sess 0x5800 15) :
    exec (.freqChange sess) s = .next (s.commanded sess 0x5800 15 1 (cmdFreqChange s)) := by
  have e := sessionWrite_cmd (data := [1]) hl.1 (row_freqChange) rfl rfl (by decide) rfl
  rw [show ofBytes [1] = 1 from rfl, command_freqChange hl.2] at e
  show execFreqChange sess s = _
  unfold execFreqChange
  rw [e]

theorem row_storeDelays : rowOf 0x5880 2 = some ⟨0x5880, 1, 2, 2, .cmd, .cmd, .live, .integratorOrService, 0, [], 1⟩ := by decide

theorem command_storeDelays {s : State} {sess : Nat} (hk : s.pwState ≠ pwKeep) : s.command sess 0x5880 2 1 [1] = cmdStoreDelays s := by
  simp [State.command, State.cmdStopped, State.arrayCmd, State.inspectCmd, State.memoryCmd, State.timeCmd, State.systemCmd, hk]

theorem exec_storeDelays {s : State} {sess : Nat} (hl : s.letsCmd sess 0x5880 2) :
    exec (.storeDelays sess) s = .next (s.commanded sess 0x5880 2 1 (cmdStoreDelays s)) := by
  have e := sessionWrite_cmd (data := [1]) hl.1 (row_storeDelays) rfl rfl (by decide) rfl
  rw [show ofBytes [1] = 1 from rfl, command_storeDelays hl.2] at e
  show execStoreDelays sess s = _
  unfold execStoreDelays
  rw [e]

theorem row_invAll : rowOf 0x5C01 2 = some ⟨0x5C01, 1, 2, 2, .cmd, .cmd, .live, .operator, 0, [], 1⟩ := by decide

theorem command_invAll {s : State} {sess : Nat} (hk : s.pwState ≠ pwKeep) : s.command sess 0x5C01 2 1 [1] = cmdInvAll s := by
  simp [State.command, State.cmdStopped, State.arrayCmd, State.inspectCmd, State.memoryCmd, State.timeCmd, State.systemCmd, hk]

theorem exec_invAll {s : State} {sess : Nat} (hl : s.letsCmd sess 0x5C01 2) :
    exec (.invAll sess) s = .next (s.commanded sess 0x5C01 2 1 (cmdInvAll s)) := by
  have e := sessionWrite_cmd (data := [1]) hl.1 (row_invAll) rfl rfl (by decide) rfl
  rw [show ofBytes [1] = 1 from rfl, command_invAll hl.2] at e
  show execInvAll sess s = _
  unfold execInvAll
  rw [e]

theorem row_scLoad : rowOf 0x6020 8 = some ⟨0x6020, 1, 8, 8, .cmd, .cmd, .live, .operator, 0, [], 1⟩ := by decide

theorem command_scLoad {s : State} {sess : Nat} (hk : s.pwState ≠ pwKeep) : s.command sess 0x6020 8 1 [1] = cmdScLoad s := by
  simp [State.command, State.cmdStopped, State.arrayCmd, State.inspectCmd, State.memoryCmd, State.timeCmd, State.systemCmd, hk]

theorem exec_scLoad {s : State} {sess : Nat} (hl : s.letsCmd sess 0x6020 8) :
    exec (.scLoad sess) s = .next (s.commanded sess 0x6020 8 1 (cmdScLoad s)) := by
  have e := sessionWrite_cmd (data := [1]) hl.1 (row_scLoad) rfl rfl (by decide) rfl
  rw [show ofBytes [1] = 1 from rfl, command_scLoad hl.2] at e
  show execScLoad sess s = _
  unfold execScLoad
  rw [e]

set_option maxRecDepth 20000 in
theorem row_tbStep {t : Nat} (h : t < 8) : rowOf (0x6040 + t) 7 = some ⟨0x6040, 8, 7, 7, .cmd, .cmd, .live, .integrator, 0, [], 1⟩ := by
  have := (by decide : ∀ x < 8, rowOf (0x6040 + x) 7 = some ⟨0x6040, 8, 7, 7, .cmd, .cmd, .live, .integrator, 0, [], 1⟩) t h
  exact this

theorem command_tbStep {s : State} {sess : Nat} {t : Nat} (h : t < 8) (hk : s.pwState ≠ pwKeep) : s.command sess (0x6040 + t) 7 1 [1] = cmdTbStep t s := by
  have h4 : (0x6040 + t) / 4096 = 6 := by omega
  have hx : (0x6040 + t) - 0x6040 = t := by omega
  unfold State.command
  rw [if_neg (by simp [hk])]
  simp only [h4, State.arrayCmd, State.inspectCmd, State.memoryCmd, State.timeCmd, State.systemCmd, hx]
  repeat' split
  all_goals first | with_reducible rfl | (exfalso; simp_all; done) | (exfalso; simp_all; omega)

theorem exec_tbStep {s : State} {sess : Nat} {t : Nat} (h : t < 8) (hl : s.letsCmd sess (0x6040 + t) 7) :
    exec (.tbStep sess t) s = .next (s.commanded sess (0x6040 + t) 7 1 (cmdTbStep t s)) := by
  have e := sessionWrite_cmd (data := [1]) hl.1 (row_tbStep h) rfl rfl (by decide) rfl
  rw [show ofBytes [1] = 1 from rfl, command_tbStep h hl.2] at e
  show execTbStep sess t s = _
  unfold execTbStep
  rw [e]
  rw [show inst (decide (t < 8)) _ = _ from if_pos (decide_eq_true h)]

set_option maxRecDepth 20000 in
theorem row_axisPreset {axis : Nat} (h : axis < 4) : rowOf (0x6400 + axis) 8 = some ⟨0x6400, 4, 8, 8, .cmd, .cmd, .live, .operator, 0, [], 1⟩ := by
  have := (by decide : ∀ x < 4, rowOf (0x6400 + x) 8 = some ⟨0x6400, 4, 8, 8, .cmd, .cmd, .live, .operator, 0, [], 1⟩) axis h
  exact this

theorem command_axisPreset {s : State} {sess : Nat} {axis : Nat} (h : axis < 4) (hk : s.pwState ≠ pwKeep) : s.command sess (0x6400 + axis) 8 1 [1] = cmdPreset axis s := by
  have h4 : (0x6400 + axis) / 4096 = 6 := by omega
  have hx : (0x6400 + axis) - 0x6400 = axis := by omega
  unfold State.command
  rw [if_neg (by simp [hk])]
  simp only [h4, State.arrayCmd, State.inspectCmd, State.memoryCmd, State.timeCmd, State.systemCmd, hx]
  repeat' split
  all_goals first | with_reducible rfl | (exfalso; simp_all; done) | (exfalso; simp_all; omega)

theorem exec_axisPreset {s : State} {sess : Nat} {axis : Nat} (h : axis < 4) (hl : s.letsCmd sess (0x6400 + axis) 8) :
    exec (.axisPreset sess axis) s = .next (s.commanded sess (0x6400 + axis) 8 1 (cmdPreset axis s)) := by
  have e := sessionWrite_cmd (data := [1]) hl.1 (row_axisPreset h) rfl rfl (by decide) rfl
  rw [show ofBytes [1] = 1 from rfl, command_axisPreset h hl.2] at e
  show execAxisPreset sess axis s = _
  unfold execAxisPreset
  rw [e]
  rw [show inst (decide (axis < 4)) _ = _ from if_pos (decide_eq_true h)]

set_option maxRecDepth 20000 in
theorem row_comparePlace {m : Nat} (h : m < 4) : rowOf (0x6410 + m) 11 = some ⟨0x6410, 4, 11, 11, .cmd, .cmd, .live, .operator, 0, [], 1⟩ := by
  have := (by decide : ∀ x < 4, rowOf (0x6410 + x) 11 = some ⟨0x6410, 4, 11, 11, .cmd, .cmd, .live, .operator, 0, [], 1⟩) m h
  exact this

theorem command_comparePlace {s : State} {sess : Nat} {m : Nat} (h : m < 4) (hk : s.pwState ≠ pwKeep) : s.command sess (0x6410 + m) 11 1 [1] = cmdPlace m s := by
  have h4 : (0x6410 + m) / 4096 = 6 := by omega
  have hx : (0x6410 + m) - 0x6410 = m := by omega
  unfold State.command
  rw [if_neg (by simp [hk])]
  simp only [h4, State.arrayCmd, State.inspectCmd, State.memoryCmd, State.timeCmd, State.systemCmd, hx]
  repeat' split
  all_goals first | with_reducible rfl | (exfalso; simp_all; done) | (exfalso; simp_all; omega)

theorem exec_comparePlace {s : State} {sess : Nat} {m : Nat} (h : m < 4) (hl : s.letsCmd sess (0x6410 + m) 11) :
    exec (.comparePlace sess m) s = .next (s.commanded sess (0x6410 + m) 11 1 (cmdPlace m s)) := by
  have e := sessionWrite_cmd (data := [1]) hl.1 (row_comparePlace h) rfl rfl (by decide) rfl
  rw [show ofBytes [1] = 1 from rfl, command_comparePlace h hl.2] at e
  show execComparePlace sess m s = _
  unfold execComparePlace
  rw [e]
  rw [show inst (decide (m < 4)) _ = _ from if_pos (decide_eq_true h)]

set_option maxRecDepth 20000 in
theorem row_compareClear {m : Nat} (h : m < 4) : rowOf (0x6410 + m) 12 = some ⟨0x6410, 4, 12, 12, .cmd, .cmd, .live, .operator, 0, [], 1⟩ := by
  have := (by decide : ∀ x < 4, rowOf (0x6410 + x) 12 = some ⟨0x6410, 4, 12, 12, .cmd, .cmd, .live, .operator, 0, [], 1⟩) m h
  exact this

theorem command_compareClear {s : State} {sess : Nat} {m : Nat} (h : m < 4) (hk : s.pwState ≠ pwKeep) : s.command sess (0x6410 + m) 12 1 [1] = cmdCompareClear m s := by
  have h4 : (0x6410 + m) / 4096 = 6 := by omega
  have hx : (0x6410 + m) - 0x6410 = m := by omega
  unfold State.command
  rw [if_neg (by simp [hk])]
  simp only [h4, State.arrayCmd, State.inspectCmd, State.memoryCmd, State.timeCmd, State.systemCmd, hx]
  repeat' split
  all_goals first | with_reducible rfl | (exfalso; simp_all; done) | (exfalso; simp_all; omega)

theorem exec_compareClear {s : State} {sess : Nat} {m : Nat} (h : m < 4) (hl : s.letsCmd sess (0x6410 + m) 12) :
    exec (.compareClear sess m) s = .next (s.commanded sess (0x6410 + m) 12 1 (cmdCompareClear m s)) := by
  have e := sessionWrite_cmd (data := [1]) hl.1 (row_compareClear h) rfl rfl (by decide) rfl
  rw [show ofBytes [1] = 1 from rfl, command_compareClear h hl.2] at e
  show execCompareClear sess m s = _
  unfold execCompareClear
  rw [e]
  rw [show inst (decide (m < 4)) _ = _ from if_pos (decide_eq_true h)]

set_option maxRecDepth 20000 in
theorem row_alertRelease {k : Nat} (h : k < 4) : rowOf (0x6830 + k) 4 = some ⟨0x6830, 4, 4, 4, .cmd, .cmd, .live, .operator, 0, [], 1⟩ := by
  have := (by decide : ∀ x < 4, rowOf (0x6830 + x) 4 = some ⟨0x6830, 4, 4, 4, .cmd, .cmd, .live, .operator, 0, [], 1⟩) k h
  exact this

theorem command_alertRelease {s : State} {sess : Nat} {k : Nat} (h : k < 4) (hk : s.pwState ≠ pwKeep) : s.command sess (0x6830 + k) 4 1 [1] = cmdRelease k s := by
  have h4 : (0x6830 + k) / 4096 = 6 := by omega
  have hx : (0x6830 + k) - 0x6830 = k := by omega
  unfold State.command
  rw [if_neg (by simp [hk])]
  simp only [h4, State.arrayCmd, State.inspectCmd, State.memoryCmd, State.timeCmd, State.systemCmd, hx]
  repeat' split
  all_goals first | with_reducible rfl | (exfalso; simp_all; done) | (exfalso; simp_all; omega)

theorem exec_alertRelease {s : State} {sess : Nat} {k : Nat} (h : k < 4) (hl : s.letsCmd sess (0x6830 + k) 4) :
    exec (.alertRelease sess k) s = .next (s.commanded sess (0x6830 + k) 4 1 (cmdRelease k s)) := by
  have e := sessionWrite_cmd (data := [1]) hl.1 (row_alertRelease h) rfl rfl (by decide) rfl
  rw [show ofBytes [1] = 1 from rfl, command_alertRelease h hl.2] at e
  show execAlertRelease sess k s = _
  unfold execAlertRelease
  rw [e]
  rw [show inst (decide (k < 4)) _ = _ from if_pos (decide_eq_true h)]

set_option maxRecDepth 20000 in
theorem row_snapNow {g : Nat} (h : g < 8) : rowOf (0x6A10 + g) 8 = some ⟨0x6A10, 8, 8, 8, .cmd, .cmd, .live, .operator, 0, [], 1⟩ := by
  have := (by decide : ∀ x < 8, rowOf (0x6A10 + x) 8 = some ⟨0x6A10, 8, 8, 8, .cmd, .cmd, .live, .operator, 0, [], 1⟩) g h
  exact this

theorem command_snapNow {s : State} {sess : Nat} {g : Nat} (h : g < 8) (hk : s.pwState ≠ pwKeep) : s.command sess (0x6A10 + g) 8 1 [1] = cmdSnapNow g s := by
  have h4 : (0x6A10 + g) / 4096 = 6 := by omega
  have hx : (0x6A10 + g) - 0x6A10 = g := by omega
  unfold State.command
  rw [if_neg (by simp [hk])]
  simp only [h4, State.arrayCmd, State.inspectCmd, State.memoryCmd, State.timeCmd, State.systemCmd, hx]
  repeat' split
  all_goals first | with_reducible rfl | (exfalso; simp_all; done) | (exfalso; simp_all; omega)

theorem exec_snapNow {s : State} {sess : Nat} {g : Nat} (h : g < 8) (hl : s.letsCmd sess (0x6A10 + g) 8) :
    exec (.snapNow sess g) s = .next (s.commanded sess (0x6A10 + g) 8 1 (cmdSnapNow g s)) := by
  have e := sessionWrite_cmd (data := [1]) hl.1 (row_snapNow h) rfl rfl (by decide) rfl
  rw [show ofBytes [1] = 1 from rfl, command_snapNow h hl.2] at e
  show execSnapNow sess g s = _
  unfold execSnapNow
  rw [e]
  rw [show inst (decide (g < 8)) _ = _ from if_pos (decide_eq_true h)]

theorem row_failover : rowOf 0x7020 6 = some ⟨0x7020, 1, 6, 6, .cmd, .cmd, .live, .integrator, 0, [], 1⟩ := by decide

theorem command_failover {s : State} {sess : Nat} : s.command sess 0x7020 6 1 [1] = cmdFailover s := by
  simp [State.command, State.cmdStopped, State.arrayCmd, State.inspectCmd, State.memoryCmd, State.timeCmd, State.systemCmd]

theorem exec_failover {s : State} {sess : Nat} (hl : s.lets sess 0x7020 6) :
    exec (.failover sess) s = .next (s.commanded sess 0x7020 6 1 (cmdFailover s)) := by
  have e := sessionWrite_cmd (data := [1]) hl (row_failover) rfl rfl (by decide) rfl
  rw [show ofBytes [1] = 1 from rfl, command_failover] at e
  show execFailover sess s = _
  unfold execFailover
  rw [e]

theorem row_activate : rowOf 0x7010 3 = some ⟨0x7010, 1, 3, 3, .cmd, .cmd, .live, .integrator, 0, [], 1⟩ := by decide

theorem command_activate {s : State} {sess : Nat} : s.command sess 0x7010 3 1 [1] = cmdActivate s := by
  simp [State.command, State.cmdStopped, State.arrayCmd, State.inspectCmd, State.memoryCmd, State.timeCmd, State.systemCmd]

theorem exec_activate {s : State} {sess : Nat} (hl : s.lets sess 0x7010 3) :
    exec (.activate sess) s = .next (s.commanded sess 0x7010 3 1 (cmdActivate s)) := by
  have e := sessionWrite_cmd (data := [1]) hl (row_activate) rfl rfl (by decide) rfl
  rw [show ofBytes [1] = 1 from rfl, command_activate] at e
  show execActivate sess s = _
  unfold execActivate
  rw [e]

theorem row_keep : rowOf 0x2000 4 = some ⟨0x2000, 1, 4, 4, .cmd, .cmd, .live, .operator, 0, [], 1⟩ := by decide

theorem command_keep {s : State} {sess : Nat} : s.command sess 0x2000 4 1 [1] = cmdKeep s := by
  simp [State.command, State.cmdStopped, State.arrayCmd, State.inspectCmd, State.memoryCmd, State.timeCmd, State.systemCmd]

theorem exec_keep {s : State} {sess : Nat} (hl : s.lets sess 0x2000 4) :
    exec (.keep sess) s = .next (s.commanded sess 0x2000 4 1 (cmdKeep s)) := by
  have e := sessionWrite_cmd (data := [1]) hl (row_keep) rfl rfl (by decide) rfl
  rw [show ofBytes [1] = 1 from rfl, command_keep] at e
  show execKeep sess s = _
  unfold execKeep
  rw [e]

theorem row_wake : rowOf 0x2000 5 = some ⟨0x2000, 1, 5, 5, .cmd, .cmd, .live, .operator, 0, [], 1⟩ := by decide

theorem command_wake {s : State} {sess : Nat} : s.command sess 0x2000 5 1 [1] = cmdWake s := by
  simp [State.command, State.cmdStopped, State.arrayCmd, State.inspectCmd, State.memoryCmd, State.timeCmd, State.systemCmd]

theorem exec_wake {s : State} {sess : Nat} (hl : s.lets sess 0x2000 5) :
    exec (.wake sess) s = .next (s.commanded sess 0x2000 5 1 (cmdWake s)) := by
  have e := sessionWrite_cmd (data := [1]) hl (row_wake) rfl rfl (by decide) rfl
  rw [show ofBytes [1] = 1 from rfl, command_wake] at e
  show execWake sess s = _
  unfold execWake
  rw [e]

theorem row_deviceReset : rowOf 0x2000 11 = some ⟨0x2000, 1, 11, 11, .cmd, .cmd, .live, .integrator, 0, [], 1⟩ := by decide

theorem command_deviceReset {s : State} {sess : Nat} : s.command sess 0x2000 11 1 [1] = cmdReset s := by
  simp [State.command, State.cmdStopped, State.arrayCmd, State.inspectCmd, State.memoryCmd, State.timeCmd, State.systemCmd]

theorem exec_deviceReset {s : State} {sess : Nat} (hl : s.lets sess 0x2000 11) :
    exec (.deviceReset sess) s = .next (s.commanded sess 0x2000 11 1 (cmdReset s)) := by
  have e := sessionWrite_cmd (data := [1]) hl (row_deviceReset) rfl rfl (by decide) rfl
  rw [show ofBytes [1] = 1 from rfl, command_deviceReset] at e
  show execDeviceReset sess s = _
  unfold execDeviceReset
  rw [e]

theorem row_debugEnter : rowOf 0x1050 2 = some ⟨0x1050, 1, 2, 2, .cmd, .cmd, .live, .service, 0, [(1, 2)], 1⟩ := by decide

theorem command_debugEnter {s : State} {sess : Nat} : s.command sess 0x1050 2 1 [1] = cmdDebug sess 1 s := by
  simp [State.command, State.cmdStopped, State.arrayCmd, State.inspectCmd, State.memoryCmd, State.timeCmd, State.systemCmd]

theorem exec_debugEnter {s : State} {sess : Nat} (hl : s.lets sess 0x1050 2) :
    exec (.debugEnter sess) s = .next (s.commanded sess 0x1050 2 1 (cmdDebug sess 1 s)) := by
  have e := sessionWrite_cmd (data := [1]) hl (row_debugEnter) rfl rfl (by decide) rfl
  rw [show ofBytes [1] = 1 from rfl, command_debugEnter] at e
  show execDebugEnter sess s = _
  unfold execDebugEnter
  rw [e]

theorem row_debugLeave : rowOf 0x1050 2 = some ⟨0x1050, 1, 2, 2, .cmd, .cmd, .live, .service, 0, [(1, 2)], 1⟩ := by decide

theorem command_debugLeave {s : State} {sess : Nat} : s.command sess 0x1050 2 2 [2] = cmdDebug sess 2 s := by
  simp [State.command, State.cmdStopped, State.arrayCmd, State.inspectCmd, State.memoryCmd, State.timeCmd, State.systemCmd]

theorem exec_debugLeave {s : State} {sess : Nat} (hl : s.lets sess 0x1050 2) :
    exec (.debugLeave sess) s = .next (s.commanded sess 0x1050 2 2 (cmdDebug sess 2 s)) := by
  have e := sessionWrite_cmd (data := [2]) hl (row_debugLeave) rfl rfl (by decide) rfl
  rw [show ofBytes [2] = 2 from rfl, command_debugLeave] at e
  show execDebugLeave sess s = _
  unfold execDebugLeave
  rw [e]

/-- Bytes, most significant first, read back (R453). -/
theorem foldl_beBytes (n v acc : Nat) : (beBytes n v).foldl (fun a b => a * 256 + b.toNat) acc = acc * 256 ^ n + v % 256 ^ n := by
  induction n generalizing acc with
  | zero => simp [beBytes, Nat.mod_one]
  | succ n ih =>
    have hp : 256 ^ (n + 1) = 256 ^ n * 256 := Nat.pow_succ _ _
    have hm : v % (256 ^ n * 256) = v % 256 ^ n + 256 ^ n * (v / 256 ^ n % 256) := Nat.mod_mul
    simp only [beBytes, List.foldl, ih, BitVec.toNat_ofNat, hp, hm, Nat.add_mul]
    rw [Nat.mul_comm (256 ^ n) (v / 256 ^ n % 256), show (2 : Nat) ^ 8 = 256 from rfl, Nat.mul_assoc, Nat.mul_comm 256 (256 ^ n)]
    omega

/-- Bytes, most significant first, read back (R453). -/
theorem ofBytes_beBytes {n v : Nat} (h : v < 256 ^ n) : ofBytes (beBytes n v) = v := by
  unfold ofBytes
  rw [foldl_beBytes, Nat.zero_mul, Nat.zero_add, Nat.mod_eq_of_lt h]

theorem length_beBytes (n v : Nat) : (beBytes n v).length = n := by
  induction n with
  | zero => rfl
  | succ n ih => simp [beBytes, ih]

theorem row_commit : rowOf 0x1101 1 = some ⟨0x1101, 1, 1, 1, .u64, .cmd, .live, .operator, 0, [], 1⟩ := by decide

theorem exec_commit {s : State} {sess sc : Nat} (h : sc < 2 ^ 64) (hl : s.letsCmd sess 0x1101 1) :
    exec (.commit sess sc) s = .next (s.commanded sess 0x1101 1 sc (cmdCommit sc s)) := by
  have e := sessionWrite_cmd (data := beBytes 8 sc) hl.1 row_commit rfl (length_beBytes 8 sc) (by rw [length_beBytes]; decide)
    (by simp [Row.names, Row.inRange, Nat.mod_one])
  rw [ofBytes_beBytes (by simpa using h)] at e
  have hc : s.command sess 0x1101 1 sc (beBytes 8 sc) = cmdCommit sc s := by
    simp [State.command, State.cmdStopped, State.systemCmd, hl.2]
  rw [hc] at e
  show execCommit sess sc s = _
  unfold execCommit
  rw [e, show inst (decide (sc < 2 ^ 64)) _ = _ from if_pos (decide_eq_true h)]

theorem row_invWindow : rowOf 0x5C01 1 = some ⟨0x5C01, 1, 1, 1, .cmd, .cmd, .live, .operator, 0, [(0, 31)], 1⟩ := by decide

theorem exec_invWindow {s : State} {sess w : Nat} (h : w < 32) (hl : s.letsCmd sess 0x5C01 1) :
    exec (.invWindow sess w) s = .next (s.commanded sess 0x5C01 1 w (cmdInvWindow w s)) := by
  have hv : ofBytes (beBytes 1 w) = w := ofBytes_beBytes (by omega)
  have e := sessionWrite_cmd (data := beBytes 1 w) hl.1 row_invWindow rfl (length_beBytes 1 w) (by rw [length_beBytes]; decide)
    (by rw [hv]; exact (by decide : ∀ x < 32, (⟨0x5C01, 1, 1, 1, .cmd, .cmd, .live, .operator, 0, [(0, 31)], 1⟩ : Row).names x = true) w h)
  rw [hv] at e
  have hc : s.command sess 0x5C01 1 w (beBytes 1 w) = cmdInvWindow w s := by
    simp [State.command, State.cmdStopped, State.memoryCmd, hl.2]
  rw [hc] at e
  show execInvWindow sess w s = _
  unfold execInvWindow
  rw [e, show inst (decide (w < 256)) _ = _ from if_pos (decide_eq_true (by omega))]

/-- Row 5D40h.07, .08 or .09. -/
theorem row_dma {c : Nat} (h : c < 64) :
    rowOf (0x5D40 + c) 7 = some ⟨0x5D40, 64, 7, 7, .cmd, .cmd, .live, .operator, 0, [], 1⟩ ∧
    rowOf (0x5D40 + c) 8 = some ⟨0x5D40, 64, 8, 8, .cmd, .cmd, .live, .operator, 0, [], 1⟩ ∧
    rowOf (0x5D40 + c) 9 = some ⟨0x5D40, 64, 9, 9, .cmd, .cmd, .live, .operator, 0, [(1, 2)], 1⟩ :=
  (by decide : ∀ x < 64, rowOf (0x5D40 + x) 7 = some ⟨0x5D40, 64, 7, 7, .cmd, .cmd, .live, .operator, 0, [], 1⟩ ∧
    rowOf (0x5D40 + x) 8 = some ⟨0x5D40, 64, 8, 8, .cmd, .cmd, .live, .operator, 0, [], 1⟩ ∧
    rowOf (0x5D40 + x) 9 = some ⟨0x5D40, 64, 9, 9, .cmd, .cmd, .live, .operator, 0, [(1, 2)], 1⟩) c h

theorem command_dma {s : State} {sess c sub v : Nat} {data : Bytes} (h : c < 64) (hk : s.pwState ≠ pwKeep) :
    s.command sess (0x5D40 + c) sub v data = match sub with
      | 7 => cmdDmaStart c s
      | 8 => cmdDmaAbort c s
      | _ => if v = 1 then cmdDmaResume c s else cmdDmaResumeNext c s := by
  have h4 : (0x5D40 + c) / 4096 = 5 := by omega
  have hx : (0x5D40 + c) - 0x5D40 = c := by omega
  unfold State.command
  rw [if_neg (by simp [hk])]
  simp only [h4, State.memoryCmd, hx]
  rw [if_neg (by omega), if_neg (by omega), if_neg (by omega), if_neg (by omega), if_neg (by omega)]
  all_goals rfl

theorem exec_dmaStart {s : State} {sess c : Nat} (h : c < 64) (hl : s.letsCmd sess (0x5D40 + c) 7) :
    exec (.dmaStart (.fdp sess) c) s = .next (s.commanded sess (0x5D40 + c) 7 1 (cmdDmaStart c s)) := by
  have e := sessionWrite_cmd (data := [1]) hl.1 (row_dma h).1 rfl rfl (by decide) rfl
  rw [show ofBytes [1] = 1 from rfl, command_dma h hl.2] at e
  show execDmaStart (.fdp sess) c s = _
  unfold execDmaStart dmaViaOk State.dmaBy
  rw [show inst (decide (c < 64) && true) _ = _ from if_pos (by simp [h])]
  exact congrArg _ e

theorem exec_dmaAbort {s : State} {sess c : Nat} (h : c < 64) (hl : s.letsCmd sess (0x5D40 + c) 8) :
    exec (.dmaAbort (.fdp sess) c) s = .next (s.commanded sess (0x5D40 + c) 8 1 (cmdDmaAbort c s)) := by
  have e := sessionWrite_cmd (data := [1]) hl.1 (row_dma h).2.1 rfl rfl (by decide) rfl
  rw [show ofBytes [1] = 1 from rfl, command_dma h hl.2] at e
  show execDmaAbort (.fdp sess) c s = _
  unfold execDmaAbort dmaViaOk State.dmaBy
  rw [show inst (decide (c < 64) && true) _ = _ from if_pos (by simp [h])]
  exact congrArg _ e

theorem exec_dmaResume {s : State} {sess c : Nat} (h : c < 64) (hl : s.letsCmd sess (0x5D40 + c) 9) :
    exec (.dmaResume (.fdp sess) c) s = .next (s.commanded sess (0x5D40 + c) 9 1 (cmdDmaResume c s)) := by
  have e := sessionWrite_cmd (data := [1]) hl.1 (row_dma h).2.2 rfl rfl (by decide) rfl
  rw [show ofBytes [1] = 1 from rfl, command_dma h hl.2] at e
  show execDmaResume (.fdp sess) c s = _
  unfold execDmaResume dmaViaOk State.dmaBy
  rw [show inst (decide (c < 64) && true) _ = _ from if_pos (by simp [h])]
  exact congrArg _ e

theorem exec_dmaResumeNext {s : State} {sess c : Nat} (h : c < 64) (hl : s.letsCmd sess (0x5D40 + c) 9) :
    exec (.dmaResumeNext (.fdp sess) c) s = .next (s.commanded sess (0x5D40 + c) 9 2 (cmdDmaResumeNext c s)) := by
  have e := sessionWrite_cmd (data := [2]) hl.1 (row_dma h).2.2 rfl rfl (by decide) rfl
  rw [show ofBytes [2] = 2 from rfl, command_dma h hl.2] at e
  show execDmaResumeNext (.fdp sess) c s = _
  unfold execDmaResumeNext dmaViaOk State.dmaBy
  rw [show inst (decide (c < 64) && true) _ = _ from if_pos (by simp [h])]
  exact congrArg _ e

/-- Two's complement patterns read back. -/
theorem toSigned_ofSigned_64 {v : Int} (h1 : -(2 ^ 63) ≤ v) (h2 : v < 2 ^ 63) : toSigned 64 (ofSigned 64 v) = v := by
  unfold toSigned ofSigned
  simp only [show (64 : Nat) - 1 = 63 from rfl]
  have hm : 0 ≤ v % ((2 ^ 64 : Nat) : Int) := Int.emod_nonneg _ (by decide)
  have hlt : v % ((2 ^ 64 : Nat) : Int) < ((2 ^ 64 : Nat) : Int) := Int.emod_lt_of_pos _ (by decide)
  split <;> omega

theorem ofSigned_lt_64 (v : Int) : ofSigned 64 v < 2 ^ 64 := by
  unfold ofSigned
  have hlt : v % ((2 ^ 64 : Nat) : Int) < ((2 ^ 64 : Nat) : Int) := Int.emod_lt_of_pos _ (by decide)
  have hm : 0 ≤ v % ((2 ^ 64 : Nat) : Int) := Int.emod_nonneg _ (by decide)
  omega

theorem row_adjust {t : Nat} (h : t < 8) : rowOf (0x6040 + t) 3 = some ⟨0x6040, 8, 3, 3, .i64, .cmd, .live, .operator, 0, [], 1⟩ := by
  have := (by decide : ∀ x < 8, rowOf (0x6040 + x) 3 = some ⟨0x6040, 8, 3, 3, .i64, .cmd, .live, .operator, 0, [], 1⟩) t h
  exact this

theorem exec_adjust {s : State} {sess t : Nat} {v : Int} (h : t < 8) (h1 : -(2 ^ 63) ≤ v) (h2 : v < 2 ^ 63) (hl : s.letsCmd sess (0x6040 + t) 3) :
    exec (.adjust sess t v) s = .next (s.commanded sess (0x6040 + t) 3 (ofSigned 64 v) (cmdAdjust t v s)) := by
  have hv : ofBytes (beBytes 8 (ofSigned 64 v)) = ofSigned 64 v := ofBytes_beBytes (by simpa using ofSigned_lt_64 v)
  have e := sessionWrite_cmd (data := beBytes 8 (ofSigned 64 v)) hl.1 (row_adjust h) rfl (length_beBytes 8 _) (by rw [length_beBytes]; decide)
    (by simp [Row.names, Row.inRange, Nat.mod_one])
  have hc : s.command sess (0x6040 + t) 3 (ofSigned 64 v) (beBytes 8 (ofSigned 64 v)) = cmdAdjust t v s := by
    have h4 : (0x6040 + t) / 4096 = 6 := by omega
    have hx : (0x6040 + t) - 0x6040 = t := by omega
    unfold State.command
    rw [if_neg (by simp [hl.2])]
    simp only [h4, State.timeCmd, hx]
    rw [if_neg (by omega), if_pos (by omega), if_pos trivial, toSigned_ofSigned_64 h1 h2]
  rw [hv, hc] at e
  show execAdjust sess t v s = _
  unfold execAdjust
  rw [e, show inst (decide (t < 8) && decide (-(2 ^ 63) ≤ v) && decide (v < 2 ^ 63)) _ = _ from if_pos (by simp [h]; omega)]

theorem row_soft : rowOf 0x6800 2 = some ⟨0x6800, 1, 2, 2, .u8, .cmd, .live, .operator, 0, [(0, 31)], 1⟩ := by decide

theorem exec_softEvent {s : State} {sess n : Nat} (h : n < 32) (hl : s.letsCmd sess 0x6800 2 ∨ (s.lets sess 0x6800 2 ∧ s.flag 0x2000 7 = true)) :
    exec (.softEvent (.fdp sess) n) s = .next (s.commanded sess 0x6800 2 n (cmdSoft n s)) := by
  have hl0 : s.lets sess 0x6800 2 := hl.elim (fun x => x.1) (fun x => x.1)
  have hv : ofBytes (beBytes 1 n) = n := ofBytes_beBytes (by omega)
  have e := sessionWrite_cmd (data := beBytes 1 n) hl0 row_soft rfl (length_beBytes 1 n) (by rw [length_beBytes]; decide)
    (by rw [hv]; exact (by decide : ∀ x < 32, (⟨0x6800, 1, 2, 2, .u8, .cmd, .live, .operator, 0, [(0, 31)], 1⟩ : Row).names x = true) n h)
  rw [hv] at e
  have hc : s.command sess 0x6800 2 n (beBytes 1 n) = cmdSoft n s := by
    obtain ⟨-, hk⟩ | ⟨-, hk⟩ := hl
    · simp [State.command, State.timeCmd, hk]
    · simp [State.command, State.cmdStopped, State.timeCmd, hk]
  rw [hc] at e
  show inst (decide (n < 256)) _ = _
  rw [e, show inst (decide (n < 256)) _ = _ from if_pos (decide_eq_true (by omega))]

theorem row_counterClear {n : Nat} (h : n < 64) : rowOf (0x6A40 + n) 9 = some ⟨0x6A40, 64, 9, 9, .cmd, .cmd, .live, .operator, 0, [], 1⟩ := by
  have := (by decide : ∀ x < 64, rowOf (0x6A40 + x) 9 = some ⟨0x6A40, 64, 9, 9, .cmd, .cmd, .live, .operator, 0, [], 1⟩) n h
  exact this

theorem exec_counterClear {s : State} {sess n : Nat} (h : n < 64) (hl : s.letsCmd sess (0x6A40 + n) 9) :
    exec (.counterClear (.fdp sess) n) s = .next (s.commanded sess (0x6A40 + n) 9 1 (cmdCounterClear n s)) := by
  have e := sessionWrite_cmd (data := [1]) hl.1 (row_counterClear h) rfl rfl (by decide) rfl
  have hc : s.command sess (0x6A40 + n) 9 1 [1] = cmdCounterClear n s := by
    have h4 : (0x6A40 + n) / 4096 = 6 := by omega
    have hx : (0x6A40 + n) - 0x6A40 = n := by omega
    unfold State.command
    rw [if_neg (by simp [hl.2])]
    simp only [h4, State.timeCmd, hx]
    repeat' split
    all_goals first | with_reducible rfl | (exfalso; simp_all; done) | (exfalso; simp_all; omega)
  rw [show ofBytes [1] = 1 from rfl, hc] at e
  show inst (decide (n < 64) && true) (.next (s.sessionWrite sess (0x6A40 + n) 9 [1])) = _
  rw [e, show inst (decide (n < 64) && true) _ = _ from if_pos (by simp [h])]

theorem row_sessionClose {k : Nat} (h1 : 1 ≤ k) (h : k ≤ 8) : rowOf (0x102F + k) 11 = some ⟨0x1030, 8, 11, 11, .cmd, .cmd, .live, .operator, 0, [], 1⟩ := by
  have := (by decide : ∀ x < 8, rowOf (0x1030 + x) 11 = some ⟨0x1030, 8, 11, 11, .cmd, .cmd, .live, .operator, 0, [], 1⟩) (k - 1) (by omega)
  rw [show 0x1030 + (k - 1) = 0x102F + k by omega] at this
  exact this

theorem exec_sessionClose {s : State} {sess k : Nat} (h1 : 1 ≤ k) (h : k ≤ 8) (hl : s.lets sess (0x102F + k) 11) :
    exec (.sessionClose sess k) s = .next (s.commanded sess (0x102F + k) 11 1 (cmdSessionClose sess k s)) := by
  have e := sessionWrite_cmd (data := [1]) hl (row_sessionClose h1 h) rfl rfl (by decide) rfl
  have hc : s.command sess (0x102F + k) 11 1 [1] = cmdSessionClose sess k s := by
    have h4 : (0x102F + k) / 4096 = 1 := by omega
    have hx : (0x102F + k) - 0x102F = k := by omega
    unfold State.command
    rw [if_neg (by simp [State.cmdStopped]; omega)]
    simp only [h4, State.systemCmd, hx]
    rw [if_pos (by simp; omega)]
  rw [show ofBytes [1] = 1 from rfl, hc] at e
  show execSessionClose sess k s = _
  unfold execSessionClose
  rw [e, show inst (decide (1 ≤ k) && decide (k ≤ 8)) _ = _ from if_pos (by simp [h1, h])]

theorem row_keySet {role : Nat} (h : role < 4) : rowOf 0x1040 (role + 1) = some ⟨0x1040, 1, role + 1, role + 1, .octets 32, .cmd, .live, .integrator, 0, [], 1⟩ := by
  have := (by decide : ∀ x < 4, rowOf 0x1040 (x + 1) = some ⟨0x1040, 1, x + 1, x + 1, .octets 32, .cmd, .live, .integrator, 0, [], 1⟩) role h
  exact this

theorem exec_frameHold {s : State} {sess k : Nat} (h : k < 64) (hl : s.letsCmd sess (0x40C0 + k) 4) :
    exec (.frameHold sess (some k)) s = .next (s.commanded sess (0x40C0 + k) 4 1 (cmdHold k s)) := by
  have hr : rowOf (0x40C0 + k) 4 = some ⟨0x40C0, 64, 4, 4, .cmd, .cmd, .live, .operator, 0, [], 1⟩ :=
    (by decide : ∀ x < 64, rowOf (0x40C0 + x) 4 = some ⟨0x40C0, 64, 4, 4, .cmd, .cmd, .live, .operator, 0, [], 1⟩) k h
  have e := sessionWrite_cmd (data := [1]) hl.1 hr rfl rfl (by decide) rfl
  have hc : s.command sess (0x40C0 + k) 4 1 [1] = cmdHold k s := by
    have h4 : (0x40C0 + k) / 4096 = 4 := by omega
    have hx : (0x40C0 + k) - 0x40C0 = k := by omega
    unfold State.command
    rw [if_neg (by simp [hl.2])]
    simp only [h4, State.inspectCmd, hx]
    rw [if_pos (by simp; omega), if_pos trivial]
  rw [show ofBytes [1] = 1 from rfl, hc] at e
  show inst (decide (k < 64)) _ = _
  rw [e, show inst (decide (k < 64)) _ = _ from if_pos (decide_eq_true h)]

end Sys2Proof.Machine
end

