-- ==== Sys2Proof/Laws/FrameWrites.lean ====
section
/-! SUPPORT. What the commands that are single writes of a CMD entry leave alone: their own effect, whatever the service answers. -/

set_option Elab.async false

namespace Sys2Proof.Machine

set_option linter.unusedVariables false
set_option linter.unusedSimpArgs false

theorem fr_result0 {q : Nat} (hm : Within 4194304 q) {s0 s : State} {a b c d : Nat} {x : Answer} (h : Fr q s0 s) : Fr q s0 (s.result a b c d x) := by
  unfold State.result
  split
  · exact fr_mk_results hm h
  · exact h

/-- A write that meets the row of a CMD entry changes what its command changes, and its result record. -/
theorem fr_sessionWrite_cmd {q : Nat} (hm : Within 4194304 q) {s : State} {sess idx sub : Nat} {data : Bytes} {r : Row} (hr : rowOf idx sub = some r)
    (hc : r.acc = .cmd) (hd : ∀ n, r.ty ≠ .domain n) (hv : FrV q s (s.command sess idx sub (ofBytes data) data))
    (hx : ∀ d, Fr q s (s.commandRefused sess idx sub (ofBytes data) d)) : Fr q s (s.sessionWrite sess idx sub data) := by
  unfold State.sessionWrite
  split
  · apply fr_result0 hm
    unfold State.writeEntry
    cases hg : s.writeGate sess idx sub with
    | error e => exact fr_refl s
    | ok r' =>
      have hr' := writeGate_row hg
      rw [hr] at hr'
      cases hr'
      dsimp only
      have hcmd : Fr q s (s.writeCmd sess idx sub r data).2 := by
        unfold State.writeCmd
        dsimp only
        split
        · exact fr_refl s
        · split
          · next e => exact hv.fr _ e
          · exact hx _
      repeat' split
      all_goals first | exact fr_refl s | exact hcmd | exact absurd ‹_› (hd _) | exact absurd hc ‹_›
  · exact fr_refl s


theorem frx_discard {q : Nat} (hm : Within 5767174 q) {s : State} {sess : Nat} : FrR q s (exec (.discard sess) s) := by
  have main : Fr q s (s.sessionWrite sess 0x1101 2 [1]) := by
    have hv : FrV q s (s.command sess 0x1101 2 1 [1]) := by
      unfold State.command
      split
      · exact frV_error _
      · simp [State.arrayCmd, State.inspectCmd, State.memoryCmd, State.timeCmd, State.systemCmd]
        exact fr_cmdDiscard (wt hm) (fr_refl s)
    have hx : ∀ d, Fr q s (s.commandRefused sess 0x1101 2 1 d) := by
      intro d
      unfold State.commandRefused
      repeat' split
      all_goals first | exact fr_refl s | (exfalso; simp_all; done) | (exfalso; simp_all; omega)
    exact fr_sessionWrite_cmd (wt hm) (row_discard) rfl (by simp) hv hx
  show FrR q s (execDiscard sess s)
  exact frR_next main

theorem frx_disarm {q : Nat} (hm : Within 5767174 q) {s : State} {sess : Nat} : FrR q s (exec (.disarm sess) s) := by
  have main : Fr q s (s.sessionWrite sess 0x1101 3 [1]) := by
    have hv : FrV q s (s.command sess 0x1101 3 1 [1]) := by
      unfold State.command
      split
      · exact frV_error _
      · simp [State.arrayCmd, State.inspectCmd, State.memoryCmd, State.timeCmd, State.systemCmd]
        exact fr_cmdDisarm (wt hm) (fr_refl s)
    have hx : ∀ d, Fr q s (s.commandRefused sess 0x1101 3 1 d) := by
      intro d
      unfold State.commandRefused
      repeat' split
      all_goals first | exact fr_refl s | (exfalso; simp_all; done) | (exfalso; simp_all; omega)
    exact fr_sessionWrite_cmd (wt hm) (row_disarm) rfl (by simp) hv hx
  show FrR q s (execDisarm sess s)
  exact frR_next main

theorem frx_prbsInject {q : Nat} (hm : Within 4456448 q) {s : State} {sess : Nat} : FrR q s (exec (.prbsInject sess) s) := by
  have main : Fr q s (s.sessionWrite sess 0x2402 3 [1]) := by
    have hv : FrV q s (s.command sess 0x2402 3 1 [1]) := by
      unfold State.command
      split
      · exact frV_error _
      · simp [State.arrayCmd, State.inspectCmd, State.memoryCmd, State.timeCmd, State.systemCmd]
        exact fr_cmdPrbsInject (wt hm) (fr_refl s)
    have hx : ∀ d, Fr q s (s.commandRefused sess 0x2402 3 1 d) := by
      intro d
      unfold State.commandRefused
      repeat' split
      all_goals first | exact fr_refl s | (exfalso; simp_all; done) | (exfalso; simp_all; omega)
    exact fr_sessionWrite_cmd (wt hm) (row_prbsInject) rfl (by simp) hv hx
  show FrR q s (execPrbsInject sess s)
  exact frR_next main

theorem frx_sheafCounterClear {q : Nat} (hm : Within 4194306 q) {s : State} {sess : Nat} : FrR q s (exec (.sheafCounterClear sess) s) := by
  have main : Fr q s (s.sessionWrite sess 0x2400 5 [1]) := by
    have hv : FrV q s (s.command sess 0x2400 5 1 [1]) := by
      unfold State.command
      split
      · exact frV_error _
      · simp [State.arrayCmd, State.inspectCmd, State.memoryCmd, State.timeCmd, State.systemCmd]
        exact fr_cmdSheafClear (wt hm) (fr_refl s)
    have hx : ∀ d, Fr q s (s.commandRefused sess 0x2400 5 1 d) := by
      intro d
      unfold State.commandRefused
      repeat' split
      all_goals first | exact fr_refl s | (exfalso; simp_all; done) | (exfalso; simp_all; omega)
    exact fr_sessionWrite_cmd (wt hm) (row_sheafCounterClear) rfl (by simp) hv hx
  show FrR q s (execSheafCounterClear sess s)
  exact frR_next main

theorem frx_fireTrigger {q : Nat} (hm : Within 4325634 q) {s : State} {sess : Nat} : FrR q s (exec (.fireTrigger sess) s) := by
  have main : Fr q s (s.sessionWrite sess 0x2803 3 [1]) := by
    have hv : FrV q s (s.command sess 0x2803 3 1 [1]) := by
      unfold State.command
      split
      · exact frV_error _
      · simp [State.arrayCmd, State.inspectCmd, State.memoryCmd, State.timeCmd, State.systemCmd]
        exact fr_cmdFire (wt hm) (fr_refl s)
    have hx : ∀ d, Fr q s (s.commandRefused sess 0x2803 3 1 d) := by
      intro d
      unfold State.commandRefused
      repeat' split
      all_goals first | exact fr_refl s | (exfalso; simp_all; done) | (exfalso; simp_all; omega)
    exact fr_sessionWrite_cmd (wt hm) (row_fireTrigger) rfl (by simp) hv hx
  show FrR q s (execFireTrigger sess s)
  exact frR_next main

theorem frx_siloRelease {q : Nat} (hm : Within 4325378 q) {s : State} {sess : Nat} {silo : Nat} : FrR q s (exec (.siloRelease sess silo) s) := by
  have main (h : silo < 64) : Fr q s (s.sessionWrite sess (0x2840 + silo) 11 [1]) := by
    have hv : FrV q s (s.command sess (0x2840 + silo) 11 1 [1]) := by
      have h4 : (0x2840 + silo) / 4096 = 2 := by omega
      have hx : (0x2840 + silo) - 0x2840 = silo := by omega
      unfold State.command
      split
      · exact frV_error _
      · simp only [h4, State.arrayCmd, State.inspectCmd, State.memoryCmd, State.timeCmd, State.systemCmd, hx]
        repeat' split
        all_goals first | with_reducible exact fr_cmdSiloRelease (wt hm) (fr_refl s) | (exfalso; simp_all; done) | (exfalso; simp_all; omega)
    have hx : ∀ d, Fr q s (s.commandRefused sess (0x2840 + silo) 11 1 d) := by
      intro d
      unfold State.commandRefused
      repeat' split
      all_goals first | exact fr_refl s | (exfalso; simp_all; done) | (exfalso; simp_all; omega)
    exact fr_sessionWrite_cmd (wt hm) (row_siloRelease h) rfl (by simp) hv hx
  show FrR q s (execSiloRelease sess silo s)
  unfold execSiloRelease inst
  split
  · next h0 =>
    have h : silo < 64 := of_decide_eq_true h0
    exact frR_next (main h)
  · exact frR_fault _

theorem frx_readoutStart {q : Nat} (hm : Within 4325378 q) {s : State} {sess : Nat} : FrR q s (exec (.readoutStart sess) s) := by
  have main : Fr q s (s.sessionWrite sess 0x2804 7 [1]) := by
    have hv : FrV q s (s.command sess 0x2804 7 1 [1]) := by
      unfold State.command
      split
      · exact frV_error _
      · simp [State.arrayCmd, State.inspectCmd, State.memoryCmd, State.timeCmd, State.systemCmd]
        exact fr_cmdReadoutStart (wt hm) (fr_refl s)
    have hx : ∀ d, Fr q s (s.commandRefused sess 0x2804 7 1 d) := by
      intro d
      unfold State.commandRefused
      repeat' split
      all_goals first | with_reducible exact fr_refl s | with_reducible exact fr_readoutRefused (wt hm) (fr_refl s) | (exfalso; simp_all; done) | (exfalso; simp_all; omega)
    exact fr_sessionWrite_cmd (wt hm) (row_readoutStart) rfl (by simp) hv hx
  show FrR q s (execReadoutStart sess s)
  exact frR_next main

theorem frx_readoutAbort {q : Nat} (hm : Within 4325634 q) {s : State} {sess : Nat} : FrR q s (exec (.readoutAbort sess) s) := by
  have main : Fr q s (s.sessionWrite sess 0x2804 8 [1]) := by
    have hv : FrV q s (s.command sess 0x2804 8 1 [1]) := by
      unfold State.command
      split
      · exact frV_error _
      · simp [State.arrayCmd, State.inspectCmd, State.memoryCmd, State.timeCmd, State.systemCmd]
        exact fr_cmdReadoutAbort (wt hm) (fr_refl s)
    have hx : ∀ d, Fr q s (s.commandRefused sess 0x2804 8 1 d) := by
      intro d
      unfold State.commandRefused
      repeat' split
      all_goals first | exact fr_refl s | (exfalso; simp_all; done) | (exfalso; simp_all; omega)
    exact fr_sessionWrite_cmd (wt hm) (row_readoutAbort) rfl (by simp) hv hx
  show FrR q s (execReadoutAbort sess s)
  exact frR_next main

theorem frx_jigRestart {q : Nat} (hm : Within 4390914 q) {s : State} {sess : Nat} {bay : Nat} : FrR q s (exec (.jigRestart sess bay) s) := by
  have main (h : bay < 4) : Fr q s (s.sessionWrite sess (0x3010 + bay) 16 [1]) := by
    have hv : FrV q s (s.command sess (0x3010 + bay) 16 1 [1]) := by
      have h4 : (0x3010 + bay) / 4096 = 3 := by omega
      have hx : (0x3010 + bay) - 0x3010 = bay := by omega
      unfold State.command
      split
      · exact frV_error _
      · simp only [h4, State.arrayCmd, State.inspectCmd, State.memoryCmd, State.timeCmd, State.systemCmd, hx]
        repeat' split
        all_goals first | with_reducible exact fr_cmdJigRestart (wt hm) (fr_refl s) | (exfalso; simp_all; done) | (exfalso; simp_all; omega)
    have hx : ∀ d, Fr q s (s.commandRefused sess (0x3010 + bay) 16 1 d) := by
      intro d
      unfold State.commandRefused
      repeat' split
      all_goals first | exact fr_refl s | (exfalso; simp_all; done) | (exfalso; simp_all; omega)
    exact fr_sessionWrite_cmd (wt hm) (row_jigRestart h) rfl (by simp) hv hx
  show FrR q s (execJigRestart sess bay s)
  unfold execJigRestart inst
  split
  · next h0 =>
    have h : bay < 4 := of_decide_eq_true h0
    exact frR_next (main h)
  · exact frR_fault _

theorem frx_retest {q : Nat} (hm : Within 4259840 q) {s : State} {sess : Nat} {tile : Nat} : FrR q s (exec (.retest sess tile) s) := by
  have main (h : tile < 272) : Fr q s (s.sessionWrite sess (0x2200 + tile) 6 [1]) := by
    have hv : FrV q s (s.command sess (0x2200 + tile) 6 1 [1]) := by
      have h4 : (0x2200 + tile) / 4096 = 2 := by omega
      have hx : (0x2200 + tile) - 0x2200 = tile := by omega
      unfold State.command
      split
      · exact frV_error _
      · simp only [h4, State.arrayCmd, State.inspectCmd, State.memoryCmd, State.timeCmd, State.systemCmd, hx]
        repeat' split
        all_goals first | with_reducible exact fr_cmdRetest (wt hm) (fr_refl s) | (exfalso; simp_all; done) | (exfalso; simp_all; omega)
    have hx : ∀ d, Fr q s (s.commandRefused sess (0x2200 + tile) 6 1 d) := by
      intro d
      unfold State.commandRefused
      repeat' split
      all_goals first | exact fr_refl s | (exfalso; simp_all; done) | (exfalso; simp_all; omega)
    exact fr_sessionWrite_cmd (wt hm) (row_retest h) rfl (by simp) hv hx
  show FrR q s (execRetest sess tile s)
  unfold execRetest inst
  split
  · next h0 =>
    have h : tile < 272 := of_decide_eq_true h0
    exact frR_next (main h)
  · exact frR_fault _

theorem frx_frameSlotRelease {q : Nat} (hm : Within 4194306 q) {s : State} {sess : Nat} {slot : Nat} : FrR q s (exec (.frameSlotRelease sess slot) s) := by
  have main (h : slot < 64) : Fr q s (s.sessionWrite sess (0x40C0 + slot) 5 [1]) := by
    have hv : FrV q s (s.command sess (0x40C0 + slot) 5 1 [1]) := by
      have h4 : (0x40C0 + slot) / 4096 = 4 := by omega
      have hx : (0x40C0 + slot) - 0x40C0 = slot := by omega
      unfold State.command
      split
      · exact frV_error _
      · simp only [h4, State.arrayCmd, State.inspectCmd, State.memoryCmd, State.timeCmd, State.systemCmd, hx]
        repeat' split
        all_goals first | with_reducible exact fr_cmdSlotRelease (wt hm) (fr_refl s) | (exfalso; simp_all; done) | (exfalso; simp_all; omega)
    have hx : ∀ d, Fr q s (s.commandRefused sess (0x40C0 + slot) 5 1 d) := by
      intro d
      unfold State.commandRefused
      repeat' split
      all_goals first | exact fr_refl s | (exfalso; simp_all; done) | (exfalso; simp_all; omega)
    exact fr_sessionWrite_cmd (wt hm) (row_frameSlotRelease h) rfl (by simp) hv hx
  show FrR q s (execFrameSlotRelease sess slot s)
  unfold execFrameSlotRelease inst
  split
  · next h0 =>
    have h : slot < 64 := of_decide_eq_true h0
    exact frR_next (main h)
  · exact frR_fault _

theorem frx_clearCorr {q : Nat} (hm : Within 4202496 q) {s : State} {sess : Nat} {k : Nat} : FrR q s (exec (.clearCorr sess k) s) := by
  have main (h : k < 16) : Fr q s (s.sessionWrite sess (0x4410 + k) 11 [1]) := by
    have hv : FrV q s (s.command sess (0x4410 + k) 11 1 [1]) := by
      have h4 : (0x4410 + k) / 4096 = 4 := by omega
      have hx : (0x4410 + k) - 0x4410 = k := by omega
      unfold State.command
      split
      · exact frV_error _
      · simp only [h4, State.arrayCmd, State.inspectCmd, State.memoryCmd, State.timeCmd, State.systemCmd, hx]
        repeat' split
        all_goals first | with_reducible exact fr_cmdClearCorr (wt hm) (fr_refl s) | (exfalso; simp_all; done) | (exfalso; simp_all; omega)
    have hx : ∀ d, Fr q s (s.commandRefused sess (0x4410 + k) 11 1 d) := by
      intro d
      unfold State.commandRefused
      repeat' split
      all_goals first | exact fr_refl s | (exfalso; simp_all; done) | (exfalso; simp_all; omega)
    exact fr_sessionWrite_cmd (wt hm) (row_clearCorr h) rfl (by simp) hv hx
  show FrR q s (execClearCorr sess k s)
  unfold execClearCorr inst
  split
  · next h0 =>
    have h : k < 16 := of_decide_eq_true h0
    exact frR_next (main h)
  · exact frR_fault _

theorem frx_debugHaltCmd {q : Nat} (hm : Within 4198402 q) {s : State} {sess : Nat} {core : Nat} : FrR q s (exec (.debugHaltCmd sess core) s) := by
  have main (h : core < 16) : Fr q s (s.sessionWrite sess (0xF500 + core) 1 [1]) := by
    have hv : FrV q s (s.command sess (0xF500 + core) 1 1 [1]) := by
      have h4 : (0xF500 + core) / 4096 = 15 := by omega
      have hx : (0xF500 + core) - 0xF500 = core := by omega
      unfold State.command
      split
      · exact frV_error _
      · simp only [h4, State.arrayCmd, State.inspectCmd, State.memoryCmd, State.timeCmd, State.systemCmd, hx]
        repeat' split
        all_goals first | with_reducible exact fr_cmdDspHalt (wt hm) (fr_refl s) | (exfalso; simp_all; done) | (exfalso; simp_all; omega)
    have hx : ∀ d, Fr q s (s.commandRefused sess (0xF500 + core) 1 1 d) := by
      intro d
      unfold State.commandRefused
      repeat' split
      all_goals first | exact fr_refl s | (exfalso; simp_all; done) | (exfalso; simp_all; omega)
    exact fr_sessionWrite_cmd (wt hm) (row_debugHaltCmd h) rfl (by simp) hv hx
  show FrR q s (execDebugHaltCmd sess core s)
  unfold execDebugHaltCmd inst
  split
  · next h0 =>
    have h : core < 16 := of_decide_eq_true h0
    exact frR_next (main h)
  · exact frR_fault _

theorem frx_debugResume {q : Nat} (hm : Within 4198402 q) {s : State} {sess : Nat} {core : Nat} : FrR q s (exec (.debugResume sess core) s) := by
  have main (h : core < 16) : Fr q s (s.sessionWrite sess (0xF500 + core) 2 [1]) := by
    have hv : FrV q s (s.command sess (0xF500 + core) 2 1 [1]) := by
      have h4 : (0xF500 + core) / 4096 = 15 := by omega
      have hx : (0xF500 + core) - 0xF500 = core := by omega
      unfold State.command
      split
      · exact frV_error _
      · simp only [h4, State.arrayCmd, State.inspectCmd, State.memoryCmd, State.timeCmd, State.systemCmd, hx]
        repeat' split
        all_goals first | with_reducible exact fr_cmdDspResume (wt hm) (fr_refl s) | (exfalso; simp_all; done) | (exfalso; simp_all; omega)
    have hx : ∀ d, Fr q s (s.commandRefused sess (0xF500 + core) 2 1 d) := by
      intro d
      unfold State.commandRefused
      repeat' split
      all_goals first | exact fr_refl s | (exfalso; simp_all; done) | (exfalso; simp_all; omega)
    exact fr_sessionWrite_cmd (wt hm) (row_debugResume h) rfl (by simp) hv hx
  show FrR q s (execDebugResume sess core s)
  unfold execDebugResume inst
  split
  · next h0 =>
    have h : core < 16 := of_decide_eq_true h0
    exact frR_next (main h)
  · exact frR_fault _

theorem frx_debugStep {q : Nat} (hm : Within 4198402 q) {s : State} {sess : Nat} {core : Nat} : FrR q s (exec (.debugStep sess core) s) := by
  have main (h : core < 16) : Fr q s (s.sessionWrite sess (0xF500 + core) 3 [1]) := by
    have hv : FrV q s (s.command sess (0xF500 + core) 3 1 [1]) := by
      have h4 : (0xF500 + core) / 4096 = 15 := by omega
      have hx : (0xF500 + core) - 0xF500 = core := by omega
      unfold State.command
      split
      · exact frV_error _
      · simp only [h4, State.arrayCmd, State.inspectCmd, State.memoryCmd, State.timeCmd, State.systemCmd, hx]
        repeat' split
        all_goals first | with_reducible exact fr_cmdDspStep (wt hm) (fr_refl s) | (exfalso; simp_all; done) | (exfalso; simp_all; omega)
    have hx : ∀ d, Fr q s (s.commandRefused sess (0xF500 + core) 3 1 d) := by
      intro d
      unfold State.commandRefused
      repeat' split
      all_goals first | exact fr_refl s | (exfalso; simp_all; done) | (exfalso; simp_all; omega)
    exact fr_sessionWrite_cmd (wt hm) (row_debugStep h) rfl (by simp) hv hx
  show FrR q s (execDebugStep sess core s)
  unfold execDebugStep inst
  split
  · next h0 =>
    have h : core < 16 := of_decide_eq_true h0
    exact frR_next (main h)
  · exact frR_fault _

theorem frx_declareLost {q : Nat} (hm : Within 4753183 q) {s : State} {sess : Nat} {ch : Nat} : FrR q s (exec (.declareLost sess ch) s) := by
  have main (h : ch < 24) : Fr q s (s.sessionWrite sess (0x5810 + ch) 13 [1]) := by
    have hv : FrV q s (s.command sess (0x5810 + ch) 13 1 [1]) := by
      have h4 : (0x5810 + ch) / 4096 = 5 := by omega
      have hx : (0x5810 + ch) - 0x5810 = ch := by omega
      unfold State.command
      split
      · exact frV_error _
      · simp only [h4, State.arrayCmd, State.inspectCmd, State.memoryCmd, State.timeCmd, State.systemCmd, hx]
        repeat' split
        all_goals first | with_reducible exact fr_cmdDeclareLost (wt hm) (fr_refl s) | (exfalso; simp_all; done) | (exfalso; simp_all; omega)
    have hx : ∀ d, Fr q s (s.commandRefused sess (0x5810 + ch) 13 1 d) := by
      intro d
      unfold State.commandRefused
      repeat' split
      all_goals first | exact fr_refl s | (exfalso; simp_all; done) | (exfalso; simp_all; omega)
    exact fr_sessionWrite_cmd (wt hm) (row_declareLost h) rfl (by simp) hv hx
  show FrR q s (execDeclareLost sess ch s)
  unfold execDeclareLost inst
  split
  · next h0 =>
    have h : ch < 24 := of_decide_eq_true h0
    exact frR_next (main h)
  · exact frR_fault _

theorem frx_rebuild {q : Nat} (hm : Within 4227102 q) {s : State} {sess : Nat} {ch : Nat} : FrR q s (exec (.rebuild sess ch) s) := by
  have main (h : ch < 24) : Fr q s (s.sessionWrite sess (0x5810 + ch) 14 [1]) := by
    have hv : FrV q s (s.command sess (0x5810 + ch) 14 1 [1]) := by
      have h4 : (0x5810 + ch) / 4096 = 5 := by omega
      have hx : (0x5810 + ch) - 0x5810 = ch := by omega
      unfold State.command
      split
      · exact frV_error _
      · simp only [h4, State.arrayCmd, State.inspectCmd, State.memoryCmd, State.timeCmd, State.systemCmd, hx]
        repeat' split
        all_goals first | with_reducible exact fr_cmdRebuild (wt hm) (fr_refl s) | (exfalso; simp_all; done) | (exfalso; simp_all; omega)
    have hx : ∀ d, Fr q s (s.commandRefused sess (0x5810 + ch) 14 1 d) := by
      intro d
      unfold State.commandRefused
      repeat' split
      all_goals first | exact fr_refl s | (exfalso; simp_all; done) | (exfalso; simp_all; omega)
    exact fr_sessionWrite_cmd (wt hm) (row_rebuild h) rfl (by simp) hv hx
  show FrR q s (execRebuild sess ch s)
  unfold execRebuild inst
  split
  · next h0 =>
    have h : ch < 24 := of_decide_eq_true h0
    exact frR_next (main h)
  · exact frR_fault _

theorem frx_applyDelays {q : Nat} (hm : Within 4227072 q) {s : State} {sess : Nat} {ch : Nat} : FrR q s (exec (.applyDelays sess ch) s) := by
  have main (h : ch < 24) : Fr q s (s.sessionWrite sess (0x5840 + ch) 3 [1]) := by
    have hv : FrV q s (s.command sess (0x5840 + ch) 3 1 [1]) := by
      have h4 : (0x5840 + ch) / 4096 = 5 := by omega
      have hx : (0x5840 + ch) - 0x5840 = ch := by omega
      unfold State.command
      split
      · exact frV_error _
      · simp only [h4, State.arrayCmd, State.inspectCmd, State.memoryCmd, State.timeCmd, State.systemCmd, hx]
        repeat' split
        all_goals first | with_reducible exact fr_cmdApplyDelays (wt hm) (fr_refl s) | (exfalso; simp_all; done) | (exfalso; simp_all; omega)
    have hx : ∀ d, Fr q s (s.commandRefused sess (0x5840 + ch) 3 1 d) := by
      intro d
      unfold State.commandRefused
      repeat' split
      all_goals first | exact fr_refl s | (exfalso; simp_all; done) | (exfalso; simp_all; omega)
    exact fr_sessionWrite_cmd (wt hm) (row_applyDelays h) rfl (by simp) hv hx
  show FrR q s (execApplyDelays sess ch s)
  unfold execApplyDelays inst
  split
  · next h0 =>
    have h : ch < 24 := of_decide_eq_true h0
    exact frR_next (main h)
  · exact frR_fault _

theorem frx_recalibrate {q : Nat} (hm : Within 4194306 q) {s : State} {sess : Nat} {ch : Nat} : FrR q s (exec (.recalibrate sess ch) s) := by
  have main (h : ch < 24) : Fr q s (s.sessionWrite sess (0x5840 + ch) 5 [1]) := by
    have hv : FrV q s (s.command sess (0x5840 + ch) 5 1 [1]) := by
      have h4 : (0x5840 + ch) / 4096 = 5 := by omega
      have hx : (0x5840 + ch) - 0x5840 = ch := by omega
      unfold State.command
      split
      · exact frV_error _
      · simp only [h4, State.arrayCmd, State.inspectCmd, State.memoryCmd, State.timeCmd, State.systemCmd, hx]
        repeat' split
        all_goals first | with_reducible exact fr_cmdRecalibrate (wt hm) (fr_refl s) | (exfalso; simp_all; done) | (exfalso; simp_all; omega)
    have hx : ∀ d, Fr q s (s.commandRefused sess (0x5840 + ch) 5 1 d) := by
      intro d
      unfold State.commandRefused
      repeat' split
      all_goals first | with_reducible exact fr_refl s | with_reducible exact fr_recalRefused (wt hm) (fr_refl s) | (exfalso; simp_all; done) | (exfalso; simp_all; omega)
    exact fr_sessionWrite_cmd (wt hm) (row_recalibrate h) rfl (by simp) hv hx
  show FrR q s (execRecalibrate sess ch s)
  unfold execRecalibrate inst
  split
  · next h0 =>
    have h : ch < 24 := of_decide_eq_true h0
    exact frR_next (main h)
  · exact frR_fault _

theorem frx_freqChange {q : Nat} (hm : Within 4227074 q) {s : State} {sess : Nat} : FrR q s (exec (.freqChange sess) s) := by
  have main : Fr q s (s.sessionWrite sess 0x5800 15 [1]) := by
    have hv : FrV q s (s.command sess 0x5800 15 1 [1]) := by
      unfold State.command
      split
      · exact frV_error _
      · simp [State.arrayCmd, State.inspectCmd, State.memoryCmd, State.timeCmd, State.systemCmd]
        exact fr_cmdFreqChange (wt hm) (fr_refl s)
    have hx : ∀ d, Fr q s (s.commandRefused sess 0x5800 15 1 d) := by
      intro d
      unfold State.commandRefused
      repeat' split
      all_goals first | with_reducible exact fr_refl s | with_reducible exact fr_freqRefused (wt hm) (fr_refl s) | (exfalso; simp_all; done) | (exfalso; simp_all; omega)
    exact fr_sessionWrite_cmd (wt hm) (row_freqChange) rfl (by simp) hv hx
  show FrR q s (execFreqChange sess s)
  exact frR_next main

theorem frx_storeDelays {q : Nat} (hm : Within 4194307 q) {s : State} {sess : Nat} : FrR q s (exec (.storeDelays sess) s) := by
  have main : Fr q s (s.sessionWrite sess 0x5880 2 [1]) := by
    have hv : FrV q s (s.command sess 0x5880 2 1 [1]) := by
      unfold State.command
      split
      · exact frV_error _
      · simp [State.arrayCmd, State.inspectCmd, State.memoryCmd, State.timeCmd, State.systemCmd]
        exact fr_cmdStoreDelays (wt hm) (fr_refl s)
    have hx : ∀ d, Fr q s (s.commandRefused sess 0x5880 2 1 d) := by
      intro d
      unfold State.commandRefused
      repeat' split
      all_goals first | exact fr_refl s | (exfalso; simp_all; done) | (exfalso; simp_all; omega)
    exact fr_sessionWrite_cmd (wt hm) (row_storeDelays) rfl (by simp) hv hx
  show FrR q s (execStoreDelays sess s)
  exact frR_next main

theorem frx_invAll {q : Nat} (hm : Within 4196352 q) {s : State} {sess : Nat} : FrR q s (exec (.invAll sess) s) := by
  have main : Fr q s (s.sessionWrite sess 0x5C01 2 [1]) := by
    have hv : FrV q s (s.command sess 0x5C01 2 1 [1]) := by
      unfold State.command
      split
      · exact frV_error _
      · simp [State.arrayCmd, State.inspectCmd, State.memoryCmd, State.timeCmd, State.systemCmd]
        exact fr_cmdInvAll (wt hm) (fr_refl s)
    have hx : ∀ d, Fr q s (s.commandRefused sess 0x5C01 2 1 d) := by
      intro d
      unfold State.commandRefused
      repeat' split
      all_goals first | exact fr_refl s | (exfalso; simp_all; done) | (exfalso; simp_all; omega)
    exact fr_sessionWrite_cmd (wt hm) (row_invAll) rfl (by simp) hv hx
  show FrR q s (execInvAll sess s)
  exact frR_next main

theorem frx_scLoad {q : Nat} (hm : Within 4194368 q) {s : State} {sess : Nat} : FrR q s (exec (.scLoad sess) s) := by
  have main : Fr q s (s.sessionWrite sess 0x6020 8 [1]) := by
    have hv : FrV q s (s.command sess 0x6020 8 1 [1]) := by
      unfold State.command
      split
      · exact frV_error _
      · simp [State.arrayCmd, State.inspectCmd, State.memoryCmd, State.timeCmd, State.systemCmd]
        exact fr_cmdScLoad (wt hm) (fr_refl s)
    have hx : ∀ d, Fr q s (s.commandRefused sess 0x6020 8 1 d) := by
      intro d
      unfold State.commandRefused
      repeat' split
      all_goals first | exact fr_refl s | (exfalso; simp_all; done) | (exfalso; simp_all; omega)
    exact fr_sessionWrite_cmd (wt hm) (row_scLoad) rfl (by simp) hv hx
  show FrR q s (execScLoad sess s)
  exact frR_next main

theorem frx_tbStep {q : Nat} (hm : Within 4194370 q) {s : State} {sess : Nat} {t : Nat} : FrR q s (exec (.tbStep sess t) s) := by
  have main (h : t < 8) : Fr q s (s.sessionWrite sess (0x6040 + t) 7 [1]) := by
    have hv : FrV q s (s.command sess (0x6040 + t) 7 1 [1]) := by
      have h4 : (0x6040 + t) / 4096 = 6 := by omega
      have hx : (0x6040 + t) - 0x6040 = t := by omega
      unfold State.command
      split
      · exact frV_error _
      · simp only [h4, State.arrayCmd, State.inspectCmd, State.memoryCmd, State.timeCmd, State.systemCmd, hx]
        repeat' split
        all_goals first | with_reducible exact fr_cmdTbStep (wt hm) (fr_refl s) | (exfalso; simp_all; done) | (exfalso; simp_all; omega)
    have hx : ∀ d, Fr q s (s.commandRefused sess (0x6040 + t) 7 1 d) := by
      intro d
      unfold State.commandRefused
      repeat' split
      all_goals first | exact fr_refl s | (exfalso; simp_all; done) | (exfalso; simp_all; omega)
    exact fr_sessionWrite_cmd (wt hm) (row_tbStep h) rfl (by simp) hv hx
  show FrR q s (execTbStep sess t s)
  unfold execTbStep inst
  split
  · next h0 =>
    have h : t < 8 := of_decide_eq_true h0
    exact frR_next (main h)
  · exact frR_fault _

theorem frx_axisPreset {q : Nat} (hm : Within 4194722 q) {s : State} {sess : Nat} {axis : Nat} : FrR q s (exec (.axisPreset sess axis) s) := by
  have main (h : axis < 4) : Fr q s (s.sessionWrite sess (0x6400 + axis) 8 [1]) := by
    have hv : FrV q s (s.command sess (0x6400 + axis) 8 1 [1]) := by
      have h4 : (0x6400 + axis) / 4096 = 6 := by omega
      have hx : (0x6400 + axis) - 0x6400 = axis := by omega
      unfold State.command
      split
      · exact frV_error _
      · simp only [h4, State.arrayCmd, State.inspectCmd, State.memoryCmd, State.timeCmd, State.systemCmd, hx]
        repeat' split
        all_goals first | with_reducible exact fr_cmdPreset (wt hm) (fr_refl s) | (exfalso; simp_all; done) | (exfalso; simp_all; omega)
    have hx : ∀ d, Fr q s (s.commandRefused sess (0x6400 + axis) 8 1 d) := by
      intro d
      unfold State.commandRefused
      repeat' split
      all_goals first | exact fr_refl s | (exfalso; simp_all; done) | (exfalso; simp_all; omega)
    exact fr_sessionWrite_cmd (wt hm) (row_axisPreset h) rfl (by simp) hv hx
  show FrR q s (execAxisPreset sess axis s)
  unfold execAxisPreset inst
  split
  · next h0 =>
    have h : axis < 4 := of_decide_eq_true h0
    exact frR_next (main h)
  · exact frR_fault _

theorem frx_comparePlace {q : Nat} (hm : Within 4194722 q) {s : State} {sess : Nat} {m : Nat} : FrR q s (exec (.comparePlace sess m) s) := by
  have main (h : m < 4) : Fr q s (s.sessionWrite sess (0x6410 + m) 11 [1]) := by
    have hv : FrV q s (s.command sess (0x6410 + m) 11 1 [1]) := by
      have h4 : (0x6410 + m) / 4096 = 6 := by omega
      have hx : (0x6410 + m) - 0x6410 = m := by omega
      unfold State.command
      split
      · exact frV_error _
      · simp only [h4, State.arrayCmd, State.inspectCmd, State.memoryCmd, State.timeCmd, State.systemCmd, hx]
        repeat' split
        all_goals first | with_reducible exact fr_cmdPlace (wt hm) (fr_refl s) | (exfalso; simp_all; done) | (exfalso; simp_all; omega)
    have hx : ∀ d, Fr q s (s.commandRefused sess (0x6410 + m) 11 1 d) := by
      intro d
      unfold State.commandRefused
      repeat' split
      all_goals first | exact fr_refl s | (exfalso; simp_all; done) | (exfalso; simp_all; omega)
    exact fr_sessionWrite_cmd (wt hm) (row_comparePlace h) rfl (by simp) hv hx
  show FrR q s (execComparePlace sess m s)
  unfold execComparePlace inst
  split
  · next h0 =>
    have h : m < 4 := of_decide_eq_true h0
    exact frR_next (main h)
  · exact frR_fault _

theorem frx_compareClear {q : Nat} (hm : Within 4194434 q) {s : State} {sess : Nat} {m : Nat} : FrR q s (exec (.compareClear sess m) s) := by
  have main (h : m < 4) : Fr q s (s.sessionWrite sess (0x6410 + m) 12 [1]) := by
    have hv : FrV q s (s.command sess (0x6410 + m) 12 1 [1]) := by
      have h4 : (0x6410 + m) / 4096 = 6 := by omega
      have hx : (0x6410 + m) - 0x6410 = m := by omega
      unfold State.command
      split
      · exact frV_error _
      · simp only [h4, State.arrayCmd, State.inspectCmd, State.memoryCmd, State.timeCmd, State.systemCmd, hx]
        repeat' split
        all_goals first | with_reducible exact fr_cmdCompareClear (wt hm) (fr_refl s) | (exfalso; simp_all; done) | (exfalso; simp_all; omega)
    have hx : ∀ d, Fr q s (s.commandRefused sess (0x6410 + m) 12 1 d) := by
      intro d
      unfold State.commandRefused
      repeat' split
      all_goals first | exact fr_refl s | (exfalso; simp_all; done) | (exfalso; simp_all; omega)
    exact fr_sessionWrite_cmd (wt hm) (row_compareClear h) rfl (by simp) hv hx
  show FrR q s (execCompareClear sess m s)
  unfold execCompareClear inst
  split
  · next h0 =>
    have h : m < 4 := of_decide_eq_true h0
    exact frR_next (main h)
  · exact frR_fault _

theorem frx_alertRelease {q : Nat} (hm : Within 4194562 q) {s : State} {sess : Nat} {k : Nat} : FrR q s (exec (.alertRelease sess k) s) := by
  have main (h : k < 4) : Fr q s (s.sessionWrite sess (0x6830 + k) 4 [1]) := by
    have hv : FrV q s (s.command sess (0x6830 + k) 4 1 [1]) := by
      have h4 : (0x6830 + k) / 4096 = 6 := by omega
      have hx : (0x6830 + k) - 0x6830 = k := by omega
      unfold State.command
      split
      · exact frV_error _
      · simp only [h4, State.arrayCmd, State.inspectCmd, State.memoryCmd, State.timeCmd, State.systemCmd, hx]
        repeat' split
        all_goals first | with_reducible exact fr_cmdRelease (wt hm) (fr_refl s) | (exfalso; simp_all; done) | (exfalso; simp_all; omega)
    have hx : ∀ d, Fr q s (s.commandRefused sess (0x6830 + k) 4 1 d) := by
      intro d
      unfold State.commandRefused
      repeat' split
      all_goals first | exact fr_refl s | (exfalso; simp_all; done) | (exfalso; simp_all; omega)
    exact fr_sessionWrite_cmd (wt hm) (row_alertRelease h) rfl (by simp) hv hx
  show FrR q s (execAlertRelease sess k s)
  unfold execAlertRelease inst
  split
  · next h0 =>
    have h : k < 4 := of_decide_eq_true h0
    exact frR_next (main h)
  · exact frR_fault _

theorem frx_snapNow {q : Nat} (hm : Within 4194562 q) {s : State} {sess : Nat} {g : Nat} : FrR q s (exec (.snapNow sess g) s) := by
  have main (h : g < 8) : Fr q s (s.sessionWrite sess (0x6A10 + g) 8 [1]) := by
    have hv : FrV q s (s.command sess (0x6A10 + g) 8 1 [1]) := by
      have h4 : (0x6A10 + g) / 4096 = 6 := by omega
      have hx : (0x6A10 + g) - 0x6A10 = g := by omega
      unfold State.command
      split
      · exact frV_error _
      · simp only [h4, State.arrayCmd, State.inspectCmd, State.memoryCmd, State.timeCmd, State.systemCmd, hx]
        repeat' split
        all_goals first | with_reducible exact fr_cmdSnapNow (wt hm) (fr_refl s) | (exfalso; simp_all; done) | (exfalso; simp_all; omega)
    have hx : ∀ d, Fr q s (s.commandRefused sess (0x6A10 + g) 8 1 d) := by
      intro d
      unfold State.commandRefused
      repeat' split
      all_goals first | exact fr_refl s | (exfalso; simp_all; done) | (exfalso; simp_all; omega)
    exact fr_sessionWrite_cmd (wt hm) (row_snapNow h) rfl (by simp) hv hx
  show FrR q s (execSnapNow sess g s)
  unfold execSnapNow inst
  split
  · next h0 =>
    have h : g < 8 := of_decide_eq_true h0
    exact frR_next (main h)
  · exact frR_fault _

theorem frx_failover {q : Nat} (hm : Within 4720395 q) {s : State} {sess : Nat} : FrR q s (exec (.failover sess) s) := by
  have main : Fr q s (s.sessionWrite sess 0x7020 6 [1]) := by
    have hv : FrV q s (s.command sess 0x7020 6 1 [1]) := by
      unfold State.command
      split
      · exact frV_error _
      · simp [State.arrayCmd, State.inspectCmd, State.memoryCmd, State.timeCmd, State.systemCmd]
        exact fr_cmdFailover (wt hm) (fr_refl s)
    have hx : ∀ d, Fr q s (s.commandRefused sess 0x7020 6 1 d) := by
      intro d
      unfold State.commandRefused
      repeat' split
      all_goals first | exact fr_refl s | (exfalso; simp_all; done) | (exfalso; simp_all; omega)
    exact fr_sessionWrite_cmd (wt hm) (row_failover) rfl (by simp) hv hx
  show FrR q s (execFailover sess s)
  exact frR_next main

theorem frx_activate {q : Nat} (hm : Within 4194306 q) {s : State} {sess : Nat} : FrR q s (exec (.activate sess) s) := by
  have main : Fr q s (s.sessionWrite sess 0x7010 3 [1]) := by
    have hv : FrV q s (s.command sess 0x7010 3 1 [1]) := by
      unfold State.command
      split
      · exact frV_error _
      · simp [State.arrayCmd, State.inspectCmd, State.memoryCmd, State.timeCmd, State.systemCmd]
        exact fr_cmdActivate (wt hm) (fr_refl s)
    have hx : ∀ d, Fr q s (s.commandRefused sess 0x7010 3 1 d) := by
      intro d
      unfold State.commandRefused
      repeat' split
      all_goals first | exact fr_refl s | (exfalso; simp_all; done) | (exfalso; simp_all; omega)
    exact fr_sessionWrite_cmd (wt hm) (row_activate) rfl (by simp) hv hx
  show FrR q s (execActivate sess s)
  exact frR_next main

theorem frx_keep {q : Nat} (hm : Within 13631487 q) {s : State} {sess : Nat} : FrR q s (exec (.keep sess) s) := by
  have main : Fr q s (s.sessionWrite sess 0x2000 4 [1]) := by
    have hv : FrV q s (s.command sess 0x2000 4 1 [1]) := by
      unfold State.command
      split
      · exact frV_error _
      · simp [State.arrayCmd, State.inspectCmd, State.memoryCmd, State.timeCmd, State.systemCmd]
        exact fr_cmdKeep (wt hm) (fr_refl s)
    have hx : ∀ d, Fr q s (s.commandRefused sess 0x2000 4 1 d) := by
      intro d
      unfold State.commandRefused
      repeat' split
      all_goals first | exact fr_refl s | (exfalso; simp_all; done) | (exfalso; simp_all; omega)
    exact fr_sessionWrite_cmd (wt hm) (row_keep) rfl (by simp) hv hx
  show FrR q s (execKeep sess s)
  exact frR_next main

theorem frx_wake {q : Nat} (hm : Within 4194306 q) {s : State} {sess : Nat} : FrR q s (exec (.wake sess) s) := by
  have main : Fr q s (s.sessionWrite sess 0x2000 5 [1]) := by
    have hv : FrV q s (s.command sess 0x2000 5 1 [1]) := by
      unfold State.command
      split
      · exact frV_error _
      · simp [State.arrayCmd, State.inspectCmd, State.memoryCmd, State.timeCmd, State.systemCmd]
        exact fr_cmdWake (wt hm) (fr_refl s)
    have hx : ∀ d, Fr q s (s.commandRefused sess 0x2000 5 1 d) := by
      intro d
      unfold State.commandRefused
      repeat' split
      all_goals first | exact fr_refl s | (exfalso; simp_all; done) | (exfalso; simp_all; omega)
    exact fr_sessionWrite_cmd (wt hm) (row_wake) rfl (by simp) hv hx
  show FrR q s (execWake sess s)
  exact frR_next main

theorem frx_deviceReset {q : Nat} (hm : Within 16777175 q) {s : State} {sess : Nat} : FrR q s (exec (.deviceReset sess) s) := by
  have main : Fr q s (s.sessionWrite sess 0x2000 11 [1]) := by
    have hv : FrV q s (s.command sess 0x2000 11 1 [1]) := by
      unfold State.command
      split
      · exact frV_error _
      · simp [State.arrayCmd, State.inspectCmd, State.memoryCmd, State.timeCmd, State.systemCmd]
        exact fr_cmdReset (wt hm) (fr_refl s)
    have hx : ∀ d, Fr q s (s.commandRefused sess 0x2000 11 1 d) := by
      intro d
      unfold State.commandRefused
      repeat' split
      all_goals first | exact fr_refl s | (exfalso; simp_all; done) | (exfalso; simp_all; omega)
    exact fr_sessionWrite_cmd (wt hm) (row_deviceReset) rfl (by simp) hv hx
  show FrR q s (execDeviceReset sess s)
  exact frR_next main

theorem frx_debugEnter {q : Nat} (hm : Within 4719875 q) {s : State} {sess : Nat} : FrR q s (exec (.debugEnter sess) s) := by
  have main : Fr q s (s.sessionWrite sess 0x1050 2 [1]) := by
    have hv : FrV q s (s.command sess 0x1050 2 1 [1]) := by
      unfold State.command
      split
      · exact frV_error _
      · simp [State.arrayCmd, State.inspectCmd, State.memoryCmd, State.timeCmd, State.systemCmd]
        exact fr_cmdDebug (wt hm) (fr_refl s)
    have hx : ∀ d, Fr q s (s.commandRefused sess 0x1050 2 1 d) := by
      intro d
      unfold State.commandRefused
      repeat' split
      all_goals first | exact fr_refl s | (exfalso; simp_all; done) | (exfalso; simp_all; omega)
    exact fr_sessionWrite_cmd (wt hm) (row_debugEnter) rfl (by simp) hv hx
  show FrR q s (execDebugEnter sess s)
  exact frR_next main

theorem frx_debugLeave {q : Nat} (hm : Within 4719875 q) {s : State} {sess : Nat} : FrR q s (exec (.debugLeave sess) s) := by
  have main : Fr q s (s.sessionWrite sess 0x1050 2 [2]) := by
    have hv : FrV q s (s.command sess 0x1050 2 2 [2]) := by
      unfold State.command
      split
      · exact frV_error _
      · simp [State.arrayCmd, State.inspectCmd, State.memoryCmd, State.timeCmd, State.systemCmd]
        exact fr_cmdDebug (wt hm) (fr_refl s)
    have hx : ∀ d, Fr q s (s.commandRefused sess 0x1050 2 2 d) := by
      intro d
      unfold State.commandRefused
      repeat' split
      all_goals first | exact fr_refl s | (exfalso; simp_all; done) | (exfalso; simp_all; omega)
    exact fr_sessionWrite_cmd (wt hm) (row_debugLeave) rfl (by simp) hv hx
  show FrR q s (execDebugLeave sess s)
  exact frR_next main


theorem frx_commit {q : Nat} (hm : Within 5767174 q) {s : State} {sess sc : Nat} : FrR q s (exec (.commit sess sc) s) := by
  show FrR q s (execCommit sess sc s)
  unfold execCommit inst
  split
  · refine frR_next (fr_sessionWrite_cmd (wt hm) row_commit rfl (by simp) ?_ (fun d => ?_))
    · unfold State.command
      split
      · exact frV_error _
      · exact fr_cmdCommit (wt hm) (fr_refl s)
    · unfold State.commandRefused
      repeat' split
      all_goals first | exact fr_refl s | exact fr_commitRefused (wt hm) (fr_refl s) | (exfalso; simp_all; done)
  · exact frR_fault _

theorem frx_invWindow {q : Nat} (hm : Within 4196352 q) {s : State} {sess w : Nat} : FrR q s (exec (.invWindow sess w) s) := by
  show FrR q s (execInvWindow sess w s)
  unfold execInvWindow inst
  split
  · refine frR_next (fr_sessionWrite_cmd (wt hm) row_invWindow rfl (by simp) ?_ (fun d => ?_))
    · unfold State.command
      split
      · exact frV_error _
      · exact fr_cmdInvWindow (wt hm) (fr_refl s)
    · unfold State.commandRefused
      repeat' split
      all_goals first | exact fr_refl s | (exfalso; simp_all; done)
  · exact frR_fault _

theorem frx_adjust {q : Nat} (hm : Within 4194368 q) {s : State} {sess t : Nat} {v : Int} : FrR q s (exec (.adjust sess t v) s) := by
  show FrR q s (execAdjust sess t v s)
  unfold execAdjust inst
  split
  · next h0 =>
    have h : t < 8 := by simp at h0; omega
    refine frR_next (fr_sessionWrite_cmd (wt hm) (row_adjust h) rfl (by simp) ?_ (fun d => ?_))
    · have h4 : (0x6040 + t) / 4096 = 6 := by omega
      unfold State.command
      split
      · exact frV_error _
      · simp only [h4, State.timeCmd]
        rw [if_neg (by omega), if_pos (by omega), if_pos trivial]
        exact fr_cmdAdjust (wt hm) (fr_refl s)
    · unfold State.commandRefused
      repeat' split
      all_goals first | exact fr_refl s | (exfalso; simp_all; done) | (exfalso; simp_all; omega)
  · exact frR_fault _

theorem frx_sessionClose {q : Nat} (hm : Within 13108515 q) {s : State} {sess k : Nat} : FrR q s (exec (.sessionClose sess k) s) := by
  show FrR q s (execSessionClose sess k s)
  unfold execSessionClose inst
  split
  · next h0 =>
    have h : 1 ≤ k ∧ k ≤ 8 := by simpa using h0
    refine frR_next (fr_sessionWrite_cmd (wt hm) (row_sessionClose h.1 h.2) rfl (by simp) ?_ (fun d => ?_))
    · have h4 : (0x102F + k) / 4096 = 1 := by omega
      unfold State.command
      split
      · exact frV_error _
      · simp only [h4, State.systemCmd]
        rw [if_pos (by simp; omega)]
        exact fr_cmdSessionClose (wt hm) (fr_refl s)
    · unfold State.commandRefused
      repeat' split
      all_goals first | exact fr_refl s | (exfalso; simp_all; done) | (exfalso; simp_all; omega)
  · exact frR_fault _

theorem frx_keySet {q : Nat} (hm : Within 13108515 q) {s : State} {sess role : Nat} {k : Bytes} : FrR q s (exec (.keySet sess role k) s) := by
  show FrR q s (execKeySet sess role k s)
  unfold execKeySet inst
  split
  · next h0 =>
    have h : role < 4 := of_decide_eq_true h0
    refine frR_next (fr_sessionWrite_cmd (wt hm) (row_keySet h) rfl (by simp) ?_ (fun d => ?_))
    · unfold State.command
      split
      · exact frV_error _
      · simp [State.systemCmd]
        exact fr_cmdKeySet (wt hm) (fr_refl s)
    · unfold State.commandRefused
      repeat' split
      all_goals first | exact fr_refl s | (exfalso; simp_all; done) | (exfalso; simp_all; omega)
  · exact frR_fault _

theorem fr_holdEvent0 {q : Nat} (hm : Within 4202754 q) {s : State} : FrR q s (exec (.frameHold 0 none) s) := by
  show FrR q s (execFrameHold 0 none s)
  unfold execFrameHold
  apply frR_next
  split
  · exact fr_holdEvent (wt hm) (fr_takeInput (wt hm) (fr_refl s))
  · exact fr_refl s

theorem frx_frameHold {q : Nat} (hm : Within 4202754 q) {s : State} {sess : Nat} {slot : Option Nat} : FrR q s (exec (.frameHold sess slot) s) := by
  cases slot with
  | none => exact fr_holdEvent0 hm
  | some k =>
    show FrR q s (execFrameHold sess (some k) s)
    unfold execFrameHold inst
    dsimp only
    split
    · next h0 =>
      have h : k < 64 := of_decide_eq_true h0
      have hr : rowOf (0x40C0 + k) 4 = some ⟨0x40C0, 64, 4, 4, .cmd, .cmd, .live, .operator, 0, [], 1⟩ :=
        (by decide : ∀ x < 64, rowOf (0x40C0 + x) 4 = some ⟨0x40C0, 64, 4, 4, .cmd, .cmd, .live, .operator, 0, [], 1⟩) k h
      refine frR_next (fr_sessionWrite_cmd (wt hm) hr rfl (by simp) ?_ (fun d => ?_))
      · have h4 : (0x40C0 + k) / 4096 = 4 := by omega
        unfold State.command
        split
        · exact frV_error _
        · simp only [h4, State.inspectCmd]
          rw [if_pos (by simp; omega), if_pos trivial]
          exact fr_cmdHold (wt hm) (fr_refl s)
      · unfold State.commandRefused
        repeat' split
        all_goals first | exact fr_refl s | (exfalso; simp_all; done) | (exfalso; simp_all; omega)
    · exact frR_fault _

theorem fr_dmaFdp {q : Nat} (hm : Within 4759327 q) {s : State} {sess c sub : Nat} {b : Byte} (h : c < 64) (hs : sub = 7 ∨ sub = 8 ∨ sub = 9) :
    Fr q s (s.sessionWrite sess (0x5D40 + c) sub [b]) := by
  have hr : ∃ rs, rowOf (0x5D40 + c) sub = some ⟨0x5D40, 64, sub, sub, .cmd, .cmd, .live, .operator, 0, rs, 1⟩ := by
    obtain rfl | rfl | rfl := hs
    · exact ⟨_, (row_dma h).1⟩
    · exact ⟨_, (row_dma h).2.1⟩
    · exact ⟨_, (row_dma h).2.2⟩
  obtain ⟨rs, hr⟩ := hr
  refine fr_sessionWrite_cmd (wt hm) hr rfl (by simp) ?_ (fun d => ?_)
  · have h4 : (0x5D40 + c) / 4096 = 5 := by omega
    have hx : (0x5D40 + c) - 0x5D40 = c := by omega
    unfold State.command
    split
    · exact frV_error _
    · simp only [h4, State.memoryCmd, hx]
      rw [if_neg (by omega), if_neg (by omega), if_neg (by omega), if_neg (by omega), if_neg (by omega)]
      repeat' split
      all_goals first
        | exact fr_cmdDmaStart (wt hm) (fr_refl s) | exact fr_cmdDmaAbort (wt hm) (fr_refl s)
        | exact fr_cmdDmaResume (wt hm) (fr_refl s) | exact fr_cmdDmaResumeNext (wt hm) (fr_refl s)
  · unfold State.commandRefused
    repeat' split
    all_goals first | exact fr_refl s | exact fr_setReg (wt hm) (fr_refl s) | (exfalso; simp_all; done) | (exfalso; simp_all; omega)

theorem fr_dmaBy0 {q : Nat} (hm : Within 4759327 q) {s : State} {via : DmaVia} {c sub v page : Nat} {event : State → State} (h : c < 64)
    (hs : sub = 7 ∨ sub = 8 ∨ sub = 9) (hf : Fr q s (event s)) : Fr q s (s.dmaBy via c sub v page event) := by
  unfold State.dmaBy
  split
  · exact fr_dmaFdp (wt hm) h hs
  · exact fr_chanOnPage (wt hm) (fr_refl s) (fun t ht => fr_dmaPageCmd (wt hm) ht)
  · exact hf

theorem dmaViaOk_lt {via : DmaVia} {c : Nat} (h : dmaViaOk via c = true) : c < 64 := by
  unfold dmaViaOk at h
  simp only [Bool.and_eq_true, decide_eq_true_eq] at h
  exact h.1

theorem frx_dmaStart {q : Nat} (hm : Within 4759327 q) {s : State} {via : DmaVia} {c : Nat} : FrR q s (exec (.dmaStart via c) s) := by
  show FrR q s (inst _ _)
  unfold inst
  split
  · next h => exact frR_next (fr_dmaBy0 hm (dmaViaOk_lt h) (by simp) (fr_dmaStartEvent (wt hm) (fr_refl s)))
  · exact frR_fault _

theorem frx_dmaAbort {q : Nat} (hm : Within 4759327 q) {s : State} {via : DmaVia} {c : Nat} : FrR q s (exec (.dmaAbort via c) s) := by
  show FrR q s (inst _ _)
  unfold inst
  split
  · next h => exact frR_next (fr_dmaBy0 hm (dmaViaOk_lt h) (by simp) (fr_dmaAbortEvent (wt hm) (fr_refl s)))
  · exact frR_fault _

theorem frx_dmaResume {q : Nat} (hm : Within 4759327 q) {s : State} {via : DmaVia} {c : Nat} : FrR q s (exec (.dmaResume via c) s) := by
  show FrR q s (inst _ _)
  unfold inst
  split
  · next h => exact frR_next (fr_dmaBy0 hm (dmaViaOk_lt h) (by simp) (fr_refl s))
  · exact frR_fault _

theorem frx_dmaResumeNext {q : Nat} (hm : Within 4759327 q) {s : State} {via : DmaVia} {c : Nat} : FrR q s (exec (.dmaResumeNext via c) s) := by
  show FrR q s (inst _ _)
  unfold inst
  split
  · next h => exact frR_next (fr_dmaBy0 hm (dmaViaOk_lt h) (by simp) (fr_refl s))
  · exact frR_fault _

theorem frx_softEvent {q : Nat} (hm : Within 4720387 q) {s : State} {via : Via} {n : Nat} : FrR q s (exec (.softEvent via n) s) := by
  cases via with
  | fdp sess =>
    show FrR q s (inst _ _)
    unfold inst
    split
    · refine frR_next (fr_sessionWrite_cmd (wt hm) row_soft rfl (by simp) ?_ (fun d => ?_))
      · unfold State.command
        split
        · exact frV_error _
        · simp [State.timeCmd]
          exact fr_cmdSoft (wt hm) (fr_refl s)
      · unfold State.commandRefused
        repeat' split
        all_goals first | exact fr_refl s | (exfalso; simp_all; done)
    · exact frR_fault _
  | page master secure =>
    show FrR q s (inst _ _)
    unfold inst
    split
    · exact frR_next (fr_onPage (wt hm) (fr_refl s) (fun t ht => fr_dowelPageWrite (wt hm) ht))
    · exact frR_fault _

theorem frx_counterClear {q : Nat} (hm : Within 4720387 q) {s : State} {via : Via} {n : Nat} : FrR q s (exec (.counterClear via n) s) := by
  cases via with
  | fdp sess =>
    show FrR q s (inst (decide (n < 64) && true) _)
    unfold inst
    split
    · next h0 =>
      have h : n < 64 := by
        simp only [Bool.and_true, decide_eq_true_eq] at h0
        exact h0
      apply frR_next
      refine fr_sessionWrite_cmd (wt hm) (row_counterClear h) rfl (by simp) ?_ (fun d => ?_)
      · have h4 : (0x6A40 + n) / 4096 = 6 := by omega
        unfold State.command
        split
        · exact frV_error _
        · simp only [h4, State.timeCmd]
          repeat' split
          all_goals first | with_reducible exact fr_cmdCounterClear (wt hm) (fr_refl s) | (exfalso; simp_all; done) | (exfalso; simp_all; omega)
      · unfold State.commandRefused
        repeat' split
        all_goals first | with_reducible exact fr_refl s | (exfalso; simp_all; done) | (exfalso; simp_all; omega)
    · exact frR_fault _
  | page master secure =>
    show FrR q s (inst (decide (n < 64) && masterOk master) _)
    unfold inst
    split
    · exact frR_next (fr_onPage (wt hm) (fr_refl s) (fun t ht => fr_counterZero (wt hm) ht))
    · exact frR_fault _

theorem row_ovf {n : Nat} (h : n < 64) : rowOf (0x6A40 + n) 8 = some ⟨0x6A40, 64, 8, 8, .bits8, .w1c, .live, .operator, 0, [], 1⟩ := by
  have := (by decide : ∀ x < 64, rowOf (0x6A40 + x) 8 = some ⟨0x6A40, 64, 8, 8, .bits8, .w1c, .live, .operator, 0, [], 1⟩) n h
  exact this

theorem frx_ovfClear {q : Nat} (hm : Within 6291458 q) {s : State} {sess n : Nat} : FrR q s (exec (.ovfClear sess n) s) := by
  show FrR q s (inst _ _)
  unfold inst
  split
  · next h0 =>
    have h : n < 64 := of_decide_eq_true h0
    apply frR_next
    unfold State.sessionWrite
    split
    · apply fr_result0 (wt hm)
      unfold State.writeEntry
      cases hg : s.writeGate sess (0x6A40 + n) 8 with
      | error e => exact fr_refl s
      | ok r' =>
        have hr' := writeGate_row hg
        rw [row_ovf h] at hr'
        cases hr'
        simp only [Ty.size, List.length, State.writeNumber]
        repeat' split
        all_goals first
          | exact fr_refl s
          | (exfalso; simp_all; done)
          | exact fr_liveWrite (wt hm) (fr_setReg (wt hm) (fr_refl s))
    · exact fr_refl s
  · exact frR_fault _

/-- From a set of changed parts to the words of the statements, by evaluation. -/
theorem sameBut_of_mask {m : Nat} {ps : List Part} {s t : State} (h : Fr m s t)
    (hb : Part.all.all (fun p => ps.contains p || !m.testBit p.bit) = true) : s.SameBut ps t := by
  refine sameBut_of_fr h (fun p => ?_)
  have hp := List.all_eq_true.mp hb p (by cases p <;> decide)
  simpa using hp

end Sys2Proof.Machine
end

