-- ==== Sys2Proof/Laws/Keeps.lean ====
section
/-! SUPPORT. What every operation keeps (State.Keeps): the relation, its forms for the answers of meanings, and the primitive updates. -/

set_option Elab.async false

namespace Sys2Proof.Machine

variable {s0 s t : State}

theorem keeps_refl (s : State) : s.Keeps s :=
  ⟨rfl, rfl, id, id, id, Nat.le_refl _, List.prefix_refl _⟩

theorem keeps_trans {a b c : State} (h : a.Keeps b) (k : b.Keeps c) : a.Keeps c :=
  ⟨k.pending.trans h.pending, k.board.trans h.board, fun x => k.regs (h.regs x), fun x => k.doms (h.doms x), fun x => k.dram (h.dram x),
    Nat.le_trans h.drawn k.drawn, h.outbox.trans k.outbox⟩

/-- A canonical state stays canonical. -/
theorem canonical_of_keeps (h : s.Keeps t) (c : s.Canonical) : t.Canonical := ⟨h.regs c.1, h.doms c.2.1, h.dram c.2.2⟩

/-- A meaning's answer, where it is a next state, keeps. -/
structure KeepsR (s0 : State) (r : Result) : Prop where
  keeps : ∀ t, r = .next t → s0.Keeps t
/-- A verdict, where it accepts, keeps. -/
structure KeepsV (s0 : State) (r : Verdict) : Prop where
  keeps : ∀ t, r = .ok t → s0.Keeps t
/-- An optional state, where there is one, keeps. -/
structure KeepsO (s0 : State) (r : Option State) : Prop where
  keeps : ∀ t, r = some t → s0.Keeps t

/-- A state paired with an answer keeps. -/
structure KeepsP {α : Type} (s0 : State) (p : α × State) : Prop where
  keeps : s0.Keeps p.2

/-- A state paired with a flag keeps. -/
structure KeepsF {β : Type} (s0 : State) (p : State × β) : Prop where
  keeps : s0.Keeps p.1

theorem keepsR_next (h : s0.Keeps s) : KeepsR s0 (.next s) := ⟨fun t e => by cases e; exact h⟩
theorem keepsR_fault (f : Fault) : KeepsR s0 (.fault f) := ⟨fun t e => by cases e⟩
theorem keepsR_refused (f : Refusal) : KeepsR s0 (.refused f) := ⟨fun t e => by cases e⟩
theorem keepsV_ok (h : s0.Keeps s) : KeepsV s0 (.ok s) := ⟨fun t e => by cases e; exact h⟩
theorem keepsV_error (d : Nat) : KeepsV s0 (.error d) := ⟨fun t e => by cases e⟩
theorem keepsO_some (h : s0.Keeps s) : KeepsO s0 (some s) := ⟨fun t e => by cases e; exact h⟩
theorem keepsO_none : KeepsO s0 none := ⟨fun t e => by cases e⟩

theorem keeps_of_ok {v : Verdict} (e : v = .ok t) (h : KeepsV s0 v) : s0.Keeps t := h.keeps t e
theorem keeps_of_some {v : Option State} (e : v = some t) (h : KeepsO s0 v) : s0.Keeps t := h.keeps t e
theorem keepsP_mk {α : Type} {a : α} (h : s0.Keeps s) : KeepsP s0 (a, s) := ⟨h⟩
theorem keepsF_mk {β : Type} {b : β} (h : s0.Keeps s) : KeepsF s0 (s, b) := ⟨h⟩
theorem keeps_fst {β : Type} {p : State × β} (h : KeepsF s0 p) : s0.Keeps p.1 := h.keeps
theorem keeps_snd {α : Type} {p : α × State} (h : KeepsP s0 p) : s0.Keeps p.2 := h.keeps
theorem keeps_of_pair {α : Type} {a : α} {p : α × State} (e : p = (a, t)) (h : KeepsP s0 p) : s0.Keeps t := by rw [e] at h; exact h.keeps
theorem keeps_of_pairF {β : Type} {b : β} {p : State × β} (e : p = (t, b)) (h : KeepsF s0 p) : s0.Keeps t := by rw [e] at h; exact h.keeps
theorem keeps_getD {o : Option State} (h : KeepsO s0 o) (hs : s0.Keeps s) : s0.Keeps (o.getD s) := by
  cases o with
  | none => exact hs
  | some t => exact h.keeps t rfl
theorem keepsR_inst {ok : Bool} {r : Result} (h : KeepsR s0 r) : KeepsR s0 (inst ok r) := by
  unfold inst; split
  · exact h
  · exact keepsR_fault _
theorem keepsV_accept {ok : Bool} {d : Nat} (h : s0.Keeps s) : KeepsV s0 (accept ok d s) := by
  unfold accept; split
  · exact keepsV_ok h
  · exact keepsV_error d

/-! ## Updates that touch none of the kept fields -/

theorem keeps_mk {nv time pos dowel avail power dict fabric dsp insp winnow ddr xarray crib sheaf} (h : s0.Keeps s) :
    s0.Keeps ⟨s.pending, s.board, nv, s.regs, s.doms, s.drawn, s.dram, s.outbox, time, pos, dowel, avail, power, dict, fabric, dsp, insp,
      winnow, ddr, xarray, crib, sheaf⟩ :=
  ⟨h.pending, h.board, h.regs, h.doms, h.dram, h.drawn, h.outbox⟩

/-- An update of entries that keeps the keys rising. -/
theorem keeps_regs {m : List (Nat × Nat)} {nv time pos dowel avail power dict fabric dsp insp winnow ddr xarray crib sheaf}
    (h : s0.Keeps s) (hm : sorted s.regs = true → sorted m = true) :
    s0.Keeps ⟨s.pending, s.board, nv, m, s.doms, s.drawn, s.dram, s.outbox, time, pos, dowel, avail, power, dict, fabric, dsp, insp,
      winnow, ddr, xarray, crib, sheaf⟩ :=
  ⟨h.pending, h.board, fun x => hm (h.regs x), h.doms, h.dram, h.drawn, h.outbox⟩

/-- An update of DRAM that keeps its canonical form. -/
theorem keeps_dram {m : List Host.Cell} {nv time pos dowel avail power dict fabric dsp insp winnow ddr xarray crib sheaf}
    (h : s0.Keeps s) (hm : dramWf s.dram = true → dramWf m = true) :
    s0.Keeps ⟨s.pending, s.board, nv, s.regs, s.doms, s.drawn, m, s.outbox, time, pos, dowel, avail, power, dict, fabric, dsp, insp,
      winnow, ddr, xarray, crib, sheaf⟩ :=
  ⟨h.pending, h.board, h.regs, h.doms, fun x => hm (h.dram x), h.drawn, h.outbox⟩

/-- More free values drawn. -/
theorem keeps_drawn {n : Nat} {nv time pos dowel avail power dict fabric dsp insp winnow ddr xarray crib sheaf} (h : s0.Keeps s) :
    s0.Keeps ⟨s.pending, s.board, nv, s.regs, s.doms, s.drawn + n, s.dram, s.outbox, time, pos, dowel, avail, power, dict, fabric, dsp, insp,
      winnow, ddr, xarray, crib, sheaf⟩ :=
  ⟨h.pending, h.board, h.regs, h.doms, h.dram, Nat.le_trans h.drawn (Nat.le_add_right _ _), h.outbox⟩

theorem keeps_setReg {i a v : Nat} (h : s0.Keeps s) : s0.Keeps (s.setReg i a v) := keeps_regs h (sorted_insertKey _ _)

theorem keeps_setDom {i a : Nat} {bs : Bytes} (h : s0.Keeps s) : s0.Keeps (s.setDom i a bs) := by
  unfold State.setDom; split
  · exact h
  · exact ⟨h.pending, h.board, h.regs, fun x => sorted_insertKey _ _ (h.doms x), h.dram, h.drawn, h.outbox⟩

theorem keeps_bumpDom {i a : Nat} (h : s0.Keeps s) : s0.Keeps (s.bumpDom i a) :=
  ⟨h.pending, h.board, h.regs, fun x => sorted_insertKey _ _ (h.doms x), h.dram, h.drawn, h.outbox⟩

theorem keeps_draw {w : Nat} (h : s0.Keeps s) : KeepsP s0 (s.draw w) := ⟨keeps_drawn h⟩

theorem keeps_emit {o : Output} (h : s0.Keeps s) : s0.Keeps (s.emit o) :=
  ⟨h.pending, h.board, h.regs, h.doms, h.dram, h.drawn, h.outbox.trans (List.prefix_append _ _)⟩

theorem keeps_putUnit {ch u : Nat} {v : Bytes} (h : s0.Keeps s) : s0.Keeps (s.putUnit ch u v) := keeps_dram h (dramWf_write _ _)

theorem keeps_resetUnits {kept : Nat → Bool} (h : s0.Keeps s) : s0.Keeps (s.resetUnits kept) :=
  ⟨h.pending, h.board, fun x => sorted_filter _ (h.regs x), fun _ => rfl, fun _ => rfl, h.drawn, h.outbox⟩

/-! ## Control structure -/

/-- What both branches have, the choice has. -/
theorem ite_ind {α : Type} {P : α → Prop} {c : Prop} [Decidable c] {a b : α} (ha : P a) (hb : P b) : P (if c then a else b) := by
  split
  · exact ha
  · exact hb


theorem keeps_foldl {α : Type} {xs : List α} {f : State → α → State} (h : s0.Keeps s) (hf : ∀ s x, s0.Keeps s → s0.Keeps (f s x)) :
    s0.Keeps (xs.foldl f s) := by
  induction xs generalizing s with
  | nil => exact h
  | cons x xs ih => exact ih (hf s x h)

theorem keeps_foldl2 {α β : Type} {xs : List α} {f : β × State → α → β × State} {p : β × State} (h : s0.Keeps p.2)
    (hf : ∀ p x, s0.Keeps p.2 → KeepsP s0 (f p x)) : KeepsP s0 (xs.foldl f p) := by
  induction xs generalizing p with
  | nil => exact ⟨h⟩
  | cons x xs ih => exact ih (hf p x h).keeps

theorem keeps_foldl1 {α β : Type} {xs : List α} {f : State × β → α → State × β} {p : State × β} (h : s0.Keeps p.1)
    (hf : ∀ p x, s0.Keeps p.1 → KeepsF s0 (f p x)) : KeepsF s0 (xs.foldl f p) := by
  induction xs generalizing p with
  | nil => exact ⟨h⟩
  | cons x xs ih => exact ih (hf p x h).keeps

theorem keeps_each {α : Type} {xs : List α} {f : α → State → State} (h : s0.Keeps s) (hf : ∀ x s, s0.Keeps s → s0.Keeps (f x s)) :
    s0.Keeps (s.each xs f) := keeps_foldl h (fun s x hs => hf x s hs)

theorem keeps_whenB {c : Bool} {f : State → State} (h : s0.Keeps s) (hf : ∀ s, s0.Keeps s → s0.Keeps (f s)) : s0.Keeps (s.whenB c f) := by
  unfold State.whenB; split
  · exact hf s h
  · exact h

end Sys2Proof.Machine
end

