-- ==== Sys2Proof/Laws/KeepsOps.lean ====
section
/-! SUPPORT. What the definitions of Machine/Ops.lean keep (State.Keeps). -/

set_option Elab.async false

namespace Sys2Proof.Machine

theorem keeps_inc32 {s0 s : State} {a1 a2 a3} (h : s0.Keeps s) : s0.Keeps (State.inc32 s a1 a2 a3) := by
  unfold State.inc32
  with_reducible (apply keeps_setReg; assumption)

theorem keeps_inc64 {s0 s : State} {a1 a2 a3} (h : s0.Keeps s) : s0.Keeps (State.inc64 s a1 a2 a3) := by
  unfold State.inc64
  with_reducible (apply keeps_setReg; assumption)

theorem keeps_inc8 {s0 s : State} {a1 a2 a3} (h : s0.Keeps s) : s0.Keeps (State.inc8 s a1 a2 a3) := by
  unfold State.inc8
  with_reducible (apply keeps_setReg; assumption)

theorem keeps_regBit {s0 s : State} {a1 a2 a3 a4} (h : s0.Keeps s) : s0.Keeps (State.regBit s a1 a2 a3 a4) := by
  unfold State.regBit
  with_reducible (apply keeps_setReg; assumption)

theorem keeps_counterAdd {s0 s : State} {a1 a2} (h : s0.Keeps s) : s0.Keeps (State.counterAdd s a1 a2) := by
  unfold State.counterAdd
  dsimp only; split; with_reducible (apply keeps_setReg; apply keeps_mk; assumption; apply keeps_mk; assumption)

theorem keeps_counterMax {s0 s : State} {a1 a2} (h : s0.Keeps s) : s0.Keeps (State.counterMax s a1 a2) := by
  unfold State.counterMax
  with_reducible (apply keeps_mk; assumption)

theorem keeps_countE {s0 s : State} {a1 a2} (h : s0.Keeps s) : s0.Keeps (State.countE s a1 a2) := by
  unfold State.countE
  with_reducible (apply keeps_foldl; assumption); intro _ _ _; split; split
  with_reducible (apply keeps_counterAdd; assumption; apply keeps_counterMax; assumption; assumption; assumption)

theorem keeps_countV {s0 s : State} {a1 a2} (h : s0.Keeps s) : s0.Keeps (State.countV s a1 a2) := by
  unfold State.countV
  with_reducible (apply keeps_foldl; assumption); intro _ _ _; split; with_reducible (apply keeps_counterMax; assumption; assumption)

theorem keeps_fireAt {s0 s : State} {a1 a2 a3} (h : s0.Keeps s) : s0.Keeps (State.fireAt s a1 a2 a3) := by
  unfold State.fireAt
  dsimp only; with_reducible (apply keeps_countE; apply keeps_mk; assumption)

theorem keeps_fire {s0 s : State} {a1 a2} (h : s0.Keeps s) : s0.Keeps (State.fire s a1 a2) := by
  unfold State.fire
  with_reducible (apply keeps_fireAt; assumption)

theorem keeps_modSession {s0 s : State} {a1 a2} (h : s0.Keeps s) : s0.Keeps (State.modSession s a1 a2) := by
  unfold State.modSession
  with_reducible (apply keeps_mk; assumption)

theorem keeps_notifyAt {s0 s : State} {a1 a2 a3 a4 a5} (h : s0.Keeps s) : s0.Keeps (State.notifyAt s a1 a2 a3 a4 a5) := by
  unfold State.notifyAt
  split; with_reducible (apply keeps_modSession; assumption; assumption)

theorem keeps_notifyBut {s0 s : State} {a1 a2 a3 a4} (h : s0.Keeps s) : s0.Keeps (State.notifyBut s a1 a2 a3 a4) := by
  unfold State.notifyBut
  with_reducible (apply keeps_foldl; assumption); intro _ _ _; with_reducible (apply keeps_notifyAt; assumption)

theorem keeps_notify {s0 s : State} {a1 a2 a3} (h : s0.Keeps s) : s0.Keeps (State.notify s a1 a2 a3) := by
  unfold State.notify
  with_reducible (apply keeps_notifyBut; assumption)

theorem keeps_abortLog {s0 s : State} {a1 a2 a3 a4 a5 a6} (h : s0.Keeps s) : s0.Keeps (State.abortLog s a1 a2 a3 a4 a5 a6) := by
  unfold State.abortLog
  dsimp only; with_reducible (apply keeps_notify; apply keeps_setReg; apply keeps_setReg; assumption)

theorem keeps_nvPlace {s0 s : State} {r : Nat} (h : s0.Keeps s) : s0.Keeps (s.nvPlace r) := by
  unfold State.nvPlace
  dsimp only
  split
  · exact keeps_regs h (fun x => sorted_insertKey _ _ (sorted_insertKey _ _ x))
  · split
    · exact keeps_mk h
    · exact keeps_mk h

theorem keeps_faultRecord {s0 s : State} {a1 a2 a3 a4 a5 a6} (h : s0.Keeps s) : s0.Keeps (State.faultRecord s a1 a2 a3 a4 a5 a6) := by
  unfold State.faultRecord
  dsimp only; split
  with_reducible (apply keeps_nvPlace; apply keeps_notify; apply keeps_fire; apply keeps_inc32; apply keeps_inc64; apply keeps_setReg)
  with_reducible (apply keeps_setReg; assumption; apply keeps_notify; apply keeps_fire; apply keeps_inc32; apply keeps_inc64)
  with_reducible (apply keeps_setReg; apply keeps_setReg; assumption)

theorem keeps_faultStart {s0 s : State} {a1 a2 a3 a4} (h : s0.Keeps s) : s0.Keeps (State.faultStart s a1 a2 a3 a4) := by
  unfold State.faultStart
  dsimp only; with_reducible (apply keeps_mk; apply keeps_faultRecord; assumption)

theorem keeps_faultDone {s0 s : State} {a1 a2 a3 a4 a5} (h : s0.Keeps s) : s0.Keeps (State.faultDone s a1 a2 a3 a4 a5) := by
  unfold State.faultDone
  split; dsimp only
  with_reducible (apply keeps_faultRecord; apply keeps_setReg; apply keeps_inc32; apply keeps_mk; assumption; apply keeps_faultRecord)
  with_reducible assumption

theorem keeps_setInput {s0 s : State} {a1 a2} (h : s0.Keeps s) : s0.Keeps (State.setInput s a1 a2) := by
  unfold State.setInput
  with_reducible (apply keeps_mk; assumption)

theorem keeps_takeInput {s0 s : State} {a1} (h : s0.Keeps s) : s0.Keeps (State.takeInput s a1) := by
  unfold State.takeInput
  dsimp only; with_reducible (apply keeps_setInput; assumption)

theorem keeps_accept {s0 s : State} {a0 a1} (h : s0.Keeps s) : KeepsV s0 (accept a0 a1 s) := by
  unfold accept
  split; with_reducible (apply keepsV_ok; assumption; apply keepsV_error)

theorem keeps_reachOff {s0 s : State} {idx en : Nat} {check : State → Nat} {enabling : State → State} (h : s0.Keeps s)
    (he : ∀ t, s0.Keeps t → s0.Keeps (enabling t)) : s0.Keeps (s.reachOff idx en check enabling) := by
  unfold State.reachOff
  dsimp only
  split
  · split
    · exact he _ (keeps_setReg (keeps_setReg h))
    · exact keeps_abortLog (keeps_setReg (keeps_setReg h))
  · exact keeps_setReg h

end Sys2Proof.Machine
end

