-- ==== Sys2Proof/Laws/KeepsTiming.lean ====
section
/-! SUPPORT. What the definitions of Machine/Timing.lean keep (State.Keeps). -/

set_option Elab.async false

namespace Sys2Proof.Machine

theorem keeps_modTb {s0 s : State} {a1 a2} (h : s0.Keeps s) : s0.Keeps (State.modTb s a1 a2) := by
  unfold State.modTb
  with_reducible (apply keeps_mk; assumption)

theorem keeps_tbTick {s0 s : State} {a1} (h : s0.Keeps s) : s0.Keeps (State.tbTick s a1) := by
  unfold State.tbTick
  dsimp only; split; split; with_reducible (apply keeps_fire; apply keeps_modTb; assumption; apply keeps_modTb; assumption); split
  with_reducible (apply keeps_fire; apply keeps_modTb; assumption; apply keeps_modTb; assumption)

theorem keeps_tbStepTo {s0 s : State} {a1 a2 a3} (h : s0.Keeps s) : s0.Keeps (State.tbStepTo s a1 a2 a3) := by
  unfold State.tbStepTo
  with_reducible (apply keeps_inc32; apply keeps_modTb; assumption)

theorem keeps_clockTick {s0 s : State} (h : s0.Keeps s) : s0.Keeps (State.clockTick s) := by
  unfold State.clockTick
  split; dsimp only; with_reducible (apply keeps_mk; apply keeps_each; apply keeps_mk; assumption); intro _ _ _
  with_reducible (apply keeps_tbTick; assumption; assumption)

theorem keeps_modCand {s0 s : State} {a1 a2} (h : s0.Keeps s) : s0.Keeps (State.modCand s a1 a2) := by
  unfold State.modCand
  with_reducible (apply keeps_mk; assumption)

theorem keeps_refreshCands {s0 s : State} (h : s0.Keeps s) : s0.Keeps (State.refreshCands s) := by
  unfold State.refreshCands
  with_reducible (apply keeps_each; assumption); intro _ _ _; dsimp only; split; split
  with_reducible (assumption; apply keeps_regBit; assumption); split
  with_reducible (apply keeps_inc32; apply keeps_setReg; assumption; apply keeps_regBit; apply keeps_inc32; apply keeps_setReg)
  with_reducible assumption

theorem keeps_enterRef {s0 s : State} {a1 a2} (h : s0.Keeps s) : s0.Keeps (State.enterRef s a1 a2) := by
  unfold State.enterRef
  dsimp only; with_reducible (apply keeps_setReg; apply keeps_mk; apply keeps_setReg; apply keeps_setReg); split
  with_reducible apply keeps_regBit; split; with_reducible (apply keeps_regBit; assumption; assumption); split
  with_reducible (apply keeps_regBit; assumption; assumption)

theorem keeps_enterHoldover {s0 s : State} {a1} (h : s0.Keeps s) : s0.Keeps (State.enterHoldover s a1) := by
  unfold State.enterHoldover
  split; dsimp only
  with_reducible (apply keeps_enterRef; apply keeps_inc32; apply keeps_setReg; apply keeps_setReg; assumption; apply keeps_enterRef)
  with_reducible (apply keeps_setReg; assumption)

theorem keeps_noCandidate {s0 s : State} (h : s0.Keeps s) : s0.Keeps (State.noCandidate s) := by
  unfold State.noCandidate
  split
  with_reducible (apply keeps_enterHoldover; assumption; apply keeps_enterHoldover; assumption; apply keeps_enterRef; apply keeps_setReg)
  with_reducible (assumption; assumption)

theorem keeps_selectCand {s0 s : State} {a1} (h : s0.Keeps s) : s0.Keeps (State.selectCand s a1) := by
  unfold State.selectCand
  split; with_reducible (apply keeps_enterRef; assumption; apply keeps_enterRef; assumption; apply keeps_enterRef; assumption)

theorem keeps_evaluate {s0 s : State} (h : s0.Keeps s) : s0.Keeps (State.evaluate s) := by
  unfold State.evaluate
  dsimp only; split; with_reducible (apply keeps_setReg; assumption); split; split
  with_reducible (assumption; apply keeps_enterRef; apply keeps_setReg; assumption); split; split
  with_reducible (assumption; apply keeps_enterHoldover; assumption); split; split; split
  with_reducible (assumption; apply keeps_enterHoldover; assumption; apply keeps_noCandidate; assumption); split
  with_reducible (apply keeps_setReg; assumption); split
  with_reducible (apply keeps_selectCand; assumption; apply keeps_setReg; assumption)

theorem keeps_reselect {s0 s : State} (h : s0.Keeps s) : s0.Keeps (State.reselect s) := by
  unfold State.reselect
  with_reducible (apply keeps_evaluate; apply keeps_refreshCands; assumption)

theorem keeps_disqualify {s0 s : State} {a1 a2} (h : s0.Keeps s) : s0.Keeps (State.disqualify s a1 a2) := by
  unfold State.disqualify
  split; dsimp only
  with_reducible (apply keeps_faultRecord; apply keeps_setReg; apply keeps_modCand; apply keeps_inc32; apply keeps_setReg)
  with_reducible (apply keeps_regBit; assumption; assumption)

theorem keeps_qlMessage {s0 s : State} {a1 a2} (h : s0.Keeps s) : s0.Keeps (State.qlMessage s a1 a2) := by
  unfold State.qlMessage
  dsimp only; with_reducible (apply keeps_reselect; apply keeps_modCand; apply keeps_regBit; assumption)

theorem keeps_execQlFrameRx {s0 s : State} {a0 a1 a2} (h : s0.Keeps s) : KeepsR s0 (execQlFrameRx a0 a1 a2 s) := by
  unfold execQlFrameRx
  with_reducible apply keepsR_inst; dsimp only; split
  with_reducible (apply keepsR_next; apply keeps_qlMessage; assumption; apply keepsR_next; apply keeps_inc32; assumption)

theorem keeps_qlLost {s0 s : State} {a1} (h : s0.Keeps s) : s0.Keeps (State.qlLost s a1) := by
  unfold State.qlLost
  with_reducible (apply keeps_reselect; apply keeps_modCand; apply keeps_regBit; assumption)

theorem keeps_execQlTimeout {s0 s : State} {a0} (h : s0.Keeps s) : KeepsR s0 (execQlTimeout a0 s) := by
  unfold execQlTimeout
  with_reducible (apply keepsR_inst; apply keepsR_next); split; with_reducible (apply keeps_qlLost; assumption; assumption)

theorem keeps_signalLoss {s0 s : State} {a1} (h : s0.Keeps s) : s0.Keeps (State.signalLoss s a1) := by
  unfold State.signalLoss
  split; dsimp only
  with_reducible (apply keeps_reselect; apply keeps_disqualify; apply keeps_modCand; apply keeps_inc32; apply keeps_regBit; assumption)
  with_reducible assumption

theorem keeps_execSignalLoss {s0 s : State} {a0} (h : s0.Keeps s) : KeepsR s0 (execSignalLoss a0 s) := by
  unfold execSignalLoss
  with_reducible (apply keepsR_inst; apply keepsR_next; apply keeps_signalLoss; assumption)

theorem keeps_signalReturn {s0 s : State} {a1} (h : s0.Keeps s) : s0.Keeps (State.signalReturn s a1) := by
  unfold State.signalReturn
  with_reducible (apply keeps_regBit; assumption)

theorem keeps_execSignalReturn {s0 s : State} {a0} (h : s0.Keeps s) : KeepsR s0 (execSignalReturn a0 s) := by
  unfold execSignalReturn
  with_reducible (apply keepsR_inst; apply keepsR_next; apply keeps_signalReturn; assumption)

theorem keeps_judge {s0 s : State} {a1 a2 a3} (h : s0.Keeps s) : s0.Keeps (State.judge s a1 a2 a3) := by
  unfold State.judge
  dsimp only; split; split
  with_reducible (apply keeps_disqualify; apply keeps_modCand; apply keeps_inc32; apply keeps_setReg; assumption; apply keeps_modCand)
  with_reducible (apply keeps_inc32; apply keeps_setReg; assumption); split
  with_reducible (apply keeps_modCand; apply keeps_setReg; assumption); split
  with_reducible (apply keeps_setReg; apply keeps_modCand; apply keeps_regBit; apply keeps_modCand; apply keeps_setReg; assumption)
  with_reducible (apply keeps_modCand; apply keeps_setReg; assumption)

theorem keeps_wtrSecond {s0 s : State} {a1} (h : s0.Keeps s) : s0.Keeps (State.wtrSecond s a1) := by
  unfold State.wtrSecond
  with_reducible (apply keeps_each; assumption); intro _ _ _; dsimp only
  with_reducible (apply keeps_setReg; apply keeps_modCand; assumption)

theorem keeps_execMonitorWindowEnd {s0 s : State} {a0 a1} (h : s0.Keeps s) : KeepsR s0 (execMonitorWindowEnd a0 a1 s) := by
  unfold execMonitorWindowEnd
  split; dsimp only; with_reducible (apply keepsR_next; apply keeps_mk; apply keeps_evaluate); split; split
  with_reducible (apply keeps_enterRef; apply keeps_refreshCands; apply keeps_mk; apply keeps_wtrSecond; apply keeps_each)
  with_reducible (apply keeps_setReg; apply keeps_inc64; assumption); intro _ _ _
  with_reducible (apply keeps_judge; assumption; apply keeps_refreshCands; apply keeps_mk; apply keeps_wtrSecond; apply keeps_each)
  with_reducible (apply keeps_setReg; apply keeps_inc64; assumption); intro _ _ _; with_reducible (apply keeps_judge; assumption); split
  with_reducible (apply keeps_enterRef; apply keeps_refreshCands; apply keeps_mk; apply keeps_wtrSecond; apply keeps_each)
  with_reducible (apply keeps_inc64; assumption); intro _ _ _
  with_reducible (apply keeps_judge; assumption; apply keeps_refreshCands; apply keeps_mk; apply keeps_wtrSecond; apply keeps_each)
  with_reducible (apply keeps_inc64; assumption); intro _ _ _
  with_reducible (apply keeps_judge; assumption; apply keepsR_next; assumption)

theorem keeps_execWtrExpiry {s0 s : State} {a0} (h : s0.Keeps s) : KeepsR s0 (execWtrExpiry a0 s) := by
  unfold execWtrExpiry
  with_reducible apply keepsR_inst; split
  with_reducible (apply keepsR_next; assumption; apply keepsR_next; apply keeps_reselect; apply keeps_setReg; apply keeps_modCand)
  with_reducible assumption

theorem keeps_execSwitchComplete {s0 s : State} (h : s0.Keeps s) : KeepsR s0 (execSwitchComplete s) := by
  unfold execSwitchComplete
  split; with_reducible (apply keepsR_next; apply keeps_reselect; apply keeps_enterRef; apply keeps_inc32; assumption; apply keepsR_next)
  with_reducible assumption

theorem keeps_execRefAcquireTimeout {s0 s : State} (h : s0.Keeps s) : KeepsR s0 (execRefAcquireTimeout s) := by
  unfold execRefAcquireTimeout
  split; with_reducible (apply keepsR_next; apply keeps_reselect; apply keeps_disqualify; assumption; apply keepsR_next; assumption)

theorem keeps_execPps {s0 s : State} (h : s0.Keeps s) : KeepsR s0 (execPps s) := by
  unfold execPps
  split; dsimp only
  with_reducible (apply keepsR_next; apply keeps_fire; apply keeps_setReg; apply keeps_inc32; apply keeps_setReg; apply keeps_setReg)
  with_reducible (apply keeps_setReg; apply keeps_mk; assumption; apply keepsR_next; assumption)

theorem keeps_cmdScLoad {s0 s : State} (h : s0.Keeps s) : KeepsV s0 (cmdScLoad s) := by
  unfold cmdScLoad
  with_reducible (apply keepsV_accept; apply keeps_mk; assumption)

theorem keeps_execScLoadApply {s0 s : State} (h : s0.Keeps s) : KeepsR s0 (execScLoadApply s) := by
  unfold execScLoadApply
  split; with_reducible (apply keepsR_next; apply keeps_mk; assumption; apply keepsR_next; assumption)

theorem keeps_cmdAdjust {s0 s : State} {a0 a1} (h : s0.Keeps s) : KeepsV s0 (cmdAdjust a0 a1 s) := by
  unfold cmdAdjust
  split; with_reducible apply keepsV_error; split; with_reducible (apply keepsV_error; apply keepsV_ok; apply keeps_modTb; assumption)

theorem keeps_cmdTbStep {s0 s : State} {a0} (h : s0.Keeps s) : KeepsV s0 (cmdTbStep a0 s) := by
  unfold cmdTbStep
  split; with_reducible apply keepsV_error; dsimp only; with_reducible (apply keepsV_ok; apply keeps_tbStepTo; assumption)

theorem keeps_tbPageSet {s0 s : State} {a1} (h : s0.Keeps s) : s0.Keeps (State.tbPageSet s a1) := by
  unfold State.tbPageSet
  with_reducible (apply keeps_modTb; assumption)

theorem keeps_modTout {s0 s : State} {a1 a2} (h : s0.Keeps s) : s0.Keeps (State.modTout s a1 a2) := by
  unfold State.modTout
  with_reducible (apply keeps_mk; assumption)

theorem keeps_toutStart {s0 s : State} {a1} (h : s0.Keeps s) : s0.Keeps (State.toutStart s a1) := by
  unfold State.toutStart
  with_reducible (apply keeps_emit; apply keeps_inc64; apply keeps_modTout; assumption)

theorem keeps_execToutTimeReached {s0 s : State} {a0} (h : s0.Keeps s) : KeepsR s0 (execToutTimeReached a0 s) := by
  unfold execToutTimeReached
  with_reducible apply keepsR_inst; split
  with_reducible (apply keepsR_next; apply keeps_toutStart; assumption; apply keepsR_next; assumption)

theorem keeps_toutEvent {s0 s : State} {a1} (h : s0.Keeps s) : s0.Keeps (State.toutEvent s a1) := by
  unfold State.toutEvent
  split; with_reducible assumption; dsimp only; split; with_reducible (apply keeps_takeInput; assumption); split
  with_reducible (apply keeps_inc32; apply keeps_modTout; apply keeps_takeInput; assumption; apply keeps_toutStart)
  with_reducible (apply keeps_takeInput; assumption)

theorem keeps_execToutEvent {s0 s : State} {a0} (h : s0.Keeps s) : KeepsR s0 (execToutEvent a0 s) := by
  unfold execToutEvent
  with_reducible (apply keepsR_inst; apply keepsR_next; apply keeps_toutEvent; assumption)

theorem keeps_execToutPulseEnd {s0 s : State} {a0} (h : s0.Keeps s) : KeepsR s0 (execToutPulseEnd a0 s) := by
  unfold execToutPulseEnd
  with_reducible apply keepsR_inst; split
  with_reducible (apply keepsR_next; apply keeps_emit; apply keeps_modTout; assumption; apply keepsR_next; assumption)

theorem keeps_capture {s0 s : State} {a1 a2} (h : s0.Keeps s) : s0.Keeps (State.capture s a1 a2) := by
  unfold State.capture
  dsimp only; with_reducible (apply keeps_fire; apply keeps_inc64; apply keeps_setReg; apply keeps_setReg; apply keeps_setReg; assumption)

theorem keeps_execTinCapture {s0 s : State} {a0 a1 a2} (h : s0.Keeps s) : KeepsR s0 (execTinCapture a0 a1 a2 s) := by
  unfold execTinCapture
  with_reducible apply keepsR_inst; split; with_reducible (apply keepsR_next; apply keeps_inc32; assumption); dsimp only; split; split
  with_reducible (apply keepsR_next; apply keeps_capture; apply keeps_mk; assumption; apply keepsR_next; apply keeps_mk; assumption)
  split
  with_reducible (apply keepsR_next; apply keeps_capture; apply keeps_mk; assumption; apply keepsR_next; apply keeps_mk; assumption)

theorem keeps_servo {s0 s : State} {a1 a2} (h : s0.Keeps s) : s0.Keeps (State.servo s a1 a2) := by
  unfold State.servo
  dsimp only; split
  with_reducible (apply keeps_mk; apply keeps_inc32; apply keeps_modTb; assumption; apply keeps_modTb; apply keeps_setReg; assumption)

theorem keeps_ptpSync {s0 s : State} {a1 a2} (h : s0.Keeps s) : s0.Keeps (State.ptpSync s a1 a2) := by
  unfold State.ptpSync
  dsimp only; split; with_reducible (apply keeps_servo; apply keeps_signalReturn; apply keeps_setReg; apply keeps_setReg; assumption)
  with_reducible (apply keeps_signalReturn; apply keeps_setReg; apply keeps_setReg; assumption)

theorem keeps_ptpPort {s0 s : State} {a1 a2} (h : s0.Keeps s) : s0.Keeps (State.ptpPort s a1 a2) := by
  unfold State.ptpPort
  split; with_reducible (apply keeps_mk; assumption); split; with_reducible (apply keeps_mk; assumption; assumption)

theorem keeps_execPtpEventRx {s0 s : State} {a0 a1} (h : s0.Keeps s) : KeepsR s0 (execPtpEventRx a0 a1 s) := by
  unfold execPtpEventRx
  with_reducible apply keepsR_inst; split; dsimp only; with_reducible (apply keepsR_next; apply keeps_reselect); split
  with_reducible apply keeps_ptpSync; split
  with_reducible (apply keeps_mk; apply keeps_ptpPort; apply keeps_setReg; apply keeps_setReg; apply keeps_setReg; apply keeps_inc64)
  with_reducible (assumption; apply keeps_ptpPort; apply keeps_setReg; apply keeps_setReg; apply keeps_setReg; apply keeps_inc64)
  with_reducible assumption; split
  with_reducible (apply keeps_mk; apply keeps_ptpPort; apply keeps_setReg; apply keeps_setReg; apply keeps_setReg; apply keeps_inc64)
  with_reducible (assumption; apply keeps_ptpPort; apply keeps_setReg; apply keeps_setReg; apply keeps_setReg; apply keeps_inc64)
  with_reducible (assumption; apply keepsR_next; assumption)

theorem keeps_execPtpMessageTx {s0 s : State} {a0 a1} (h : s0.Keeps s) : KeepsR s0 (execPtpMessageTx a0 a1 s) := by
  unfold execPtpMessageTx
  with_reducible apply keepsR_inst; split; dsimp only
  with_reducible (apply keepsR_next; apply keeps_emit; apply keeps_inc64; assumption; apply keepsR_next; assumption)

theorem keeps_candWritten {s0 s : State} {a1 a2} (h : s0.Keeps s) : s0.Keeps (State.candWritten s a1 a2) := by
  unfold State.candWritten
  dsimp only; split; split; split
  with_reducible (apply keeps_evaluate; apply keeps_refreshCands; apply keeps_signalReturn; assumption; apply keeps_refreshCands)
  with_reducible (apply keeps_signalReturn; assumption); split
  with_reducible (apply keeps_evaluate; apply keeps_refreshCands; apply keeps_signalLoss; assumption; apply keeps_refreshCands)
  with_reducible (apply keeps_signalLoss; assumption); split
  with_reducible (apply keeps_evaluate; apply keeps_refreshCands; assumption; apply keeps_refreshCands; assumption)

theorem keeps_timingAfter {s0 s : State} {a1 a2} (h : s0.Keeps s) : s0.Keeps (timingAfter s a1 a2) := by
  unfold timingAfter
  split; dsimp only; split; with_reducible (apply keeps_mk; assumption; apply keeps_reselect; apply keeps_mk; assumption); split
  with_reducible (apply keeps_setReg; assumption); split; with_reducible (apply keeps_candWritten; assumption); split
  with_reducible (apply keeps_emit; assumption); split; with_reducible (apply keeps_mk; assumption; assumption)

end Sys2Proof.Machine
end

