-- ==== Sys2Proof/Laws/KeepsDspBase.lean ====
section
/-! SUPPORT. What the definitions of Machine/DspBase.lean keep (State.Keeps). -/

set_option Elab.async false

namespace Sys2Proof.Machine

theorem keeps_modCore {s0 s : State} {a1 a2} (h : s0.Keeps s) : s0.Keeps (State.modCore s a1 a2) := by
  unfold State.modCore
  with_reducible (apply keeps_mk; assumption)

theorem keeps_setDspRun {s0 s : State} {a1 a2} (h : s0.Keeps s) : s0.Keeps (State.setDspRun s a1 a2) := by
  unfold State.setDspRun
  with_reducible (apply keeps_setReg; assumption)

theorem keeps_showFar {s0 s : State} {a1} (h : s0.Keeps s) : s0.Keeps (State.showFar s a1) := by
  unfold State.showFar
  with_reducible (apply keeps_setReg; assumption)

theorem keeps_dspDouble {s0 s : State} {a1} (h : s0.Keeps s) : s0.Keeps (State.dspDouble s a1) := by
  unfold State.dspDouble
  split; with_reducible assumption; dsimp only
  with_reducible (apply keeps_faultRecord; apply keeps_fire; apply keeps_setDspRun; apply keeps_setReg; apply keeps_modCore; assumption)

theorem keeps_wakeCore {s0 s : State} {a1} (h : s0.Keeps s) : s0.Keeps (State.wakeCore s a1) := by
  unfold State.wakeCore
  split; with_reducible (apply keeps_setDspRun; assumption; assumption)

theorem keeps_dspStall {s0 s : State} {a1} (h : s0.Keeps s) : s0.Keeps (State.dspStall s a1) := by
  unfold State.dspStall
  with_reducible (apply keeps_modCore; apply keeps_inc64; assumption)

theorem keeps_beginBundle {s0 s : State} {a1} (h : s0.Keeps s) : s0.Keeps (State.beginBundle s a1) := by
  unfold State.beginBundle
  dsimp only; with_reducible (apply keeps_modCore; apply keeps_setDspRun; apply keeps_setReg; assumption)

theorem keeps_countSat {s0 s : State} {a1} (h : s0.Keeps s) : s0.Keeps (State.countSat s a1) := by
  unfold State.countSat
  split; with_reducible (apply keeps_modCore; apply keeps_inc64; assumption; assumption)

theorem keeps_slotAWith {s0 s : State} {n op : Nat} {f : Nat → State → State} (h : s0.Keeps s)
    (hf : ∀ w t, s0.Keeps t → s0.Keeps (f w t)) : KeepsR s0 (s.slotAWith n op f) := by
  unfold State.slotAWith
  repeat' first
    | assumption
    | with_reducible first | apply keepsR_inst | apply keepsR_next | apply keeps_dspStall | apply keeps_countSat | apply hf | apply keeps_beginBundle
    | split

theorem keeps_slotAOp {s0 s : State} {a1 a2 a3} (h : s0.Keeps s) : KeepsR s0 (State.slotAOp s a1 a2 a3) := by
  unfold State.slotAOp
  with_reducible (apply keeps_slotAWith; assumption); intro _ _ _; with_reducible (apply keeps_modCore; assumption)

theorem keeps_afterBundle {s0 s : State} {a1} (h : s0.Keeps s) : s0.Keeps (State.afterBundle s a1) := by
  unfold State.afterBundle
  dsimp only; split; with_reducible (apply keeps_dspDouble; assumption); split
  with_reducible (apply keeps_fire; apply keeps_setDspRun; apply keeps_modCore; assumption); split
  with_reducible (apply keeps_setDspRun; apply keeps_modCore; assumption); split
  with_reducible (apply keeps_setDspRun; apply keeps_modCore; assumption; assumption)

theorem keeps_slotBWith {s0 s : State} {n op : Nat} {f : Nat → State → State} (h : s0.Keeps s)
    (hf : ∀ w t, s0.Keeps t → s0.Keeps (f w t)) : KeepsR s0 (s.slotBWith n op f) := by
  unfold State.slotBWith
  repeat' first
    | assumption
    | with_reducible first | apply keepsR_inst | apply keepsR_next | apply keeps_afterBundle | apply keeps_inc64 | apply keeps_modCore | apply hf
    | split

theorem keeps_slotBOp {s0 s : State} {a1 a2 a3} (h : s0.Keeps s) : KeepsR s0 (State.slotBOp s a1 a2 a3) := by
  unfold State.slotBOp
  with_reducible (apply keeps_slotBWith; assumption); intro _ _ _; with_reducible (apply keeps_modCore; assumption)

end Sys2Proof.Machine
end

