-- ==== Sys2Proof/Laws/KeepsDowel.lean ====
section
/-! SUPPORT. What the definitions of Machine/Dowel.lean keep (State.Keeps). -/

set_option Elab.async false

namespace Sys2Proof.Machine

theorem keeps_stampEvent {s0 s : State} {a1} (h : s0.Keeps s) : KeepsP s0 (State.stampEvent s a1) := by
  unfold State.stampEvent
  split; with_reducible (apply keepsP_mk; assumption; apply keepsP_mk; apply keeps_setReg; assumption)

theorem keeps_channelTake {s0 s : State} {a1 a2} (h : s0.Keeps s) : KeepsP s0 (State.channelTake s a1 a2) := by
  unfold State.channelTake
  dsimp only; split; with_reducible (apply keepsP_mk; apply keeps_inc32; apply keeps_inc32; apply keeps_inc64; assumption); split
  with_reducible (apply keepsP_mk; apply keeps_inc32; apply keeps_inc32; apply keeps_inc64; assumption); split
  with_reducible (apply keepsP_mk; apply keeps_setReg; apply keeps_setReg; apply keeps_setReg; apply keeps_inc64; apply keeps_inc64)
  with_reducible (assumption; apply keepsP_mk; apply keeps_inc32; apply keeps_inc64; assumption)

theorem keeps_routeEvent {s0 s : State} {a1} (h : s0.Keeps s) : KeepsP s0 (State.routeEvent s a1) := by
  unfold State.routeEvent
  split
  with_reducible (apply keeps_foldl2; apply keeps_snd; apply keepsP_mk; apply keeps_of_pair (by assumption); apply keeps_stampEvent)
  with_reducible assumption; intro _ _ _; split; split
  with_reducible (apply keepsP_mk; apply keeps_of_pair (by assumption); apply keeps_channelTake; assumption)

theorem keeps_mergeDeliveries {s0 s : State} {a1 a2} (h : s0.Keeps s) : KeepsP s0 (State.mergeDeliveries s a1 a2) := by
  unfold State.mergeDeliveries
  split; with_reducible (apply keepsP_mk; assumption); dsimp only; with_reducible (apply keepsP_mk; apply keeps_setInput; assumption)

theorem keeps_deliver {s0 s : State} {a1 a2} (h : s0.Keeps s) : s0.Keeps (State.deliver s a1 a2) := by
  unfold State.deliver
  dsimp only; split; with_reducible (apply keeps_setInput; assumption); split; split
  with_reducible (apply keeps_wakeCore; apply keeps_setInput; assumption; apply keeps_setInput; assumption; apply keeps_setInput)
  with_reducible (assumption; apply keeps_setInput; assumption)

theorem keeps_deliverAll {s0 s : State} {a1} (h : s0.Keeps s) : s0.Keeps (State.deliverAll s a1) := by
  unfold State.deliverAll
  with_reducible (apply keeps_foldl; assumption); intro _ _ _; split
  with_reducible (apply keeps_deliver; apply keeps_of_pair (by assumption); apply keeps_mergeDeliveries; assumption)
  with_reducible (apply keeps_of_pair (by assumption); apply keeps_mergeDeliveries; assumption)

theorem keeps_takeEvents {s0 s : State} (h : s0.Keeps s) : s0.Keeps (State.takeEvents s) := by
  unfold State.takeEvents
  split; with_reducible assumption; dsimp only
  with_reducible (apply keeps_deliverAll; apply keeps_snd; apply keeps_foldl2; apply keeps_snd; apply keepsP_mk; apply keeps_mk)
  with_reducible assumption; intro _ _ _; with_reducible (apply keepsP_mk; apply keeps_snd; apply keeps_routeEvent; assumption)

theorem keeps_execEventTake {s0 s : State} (h : s0.Keeps s) : KeepsR s0 (execEventTake s) := by
  unfold execEventTake
  with_reducible apply keepsR_next; split; with_reducible (apply keeps_takeEvents; assumption; assumption)

theorem keeps_pushEvent {s0 s : State} {a1} (h : s0.Keeps s) : s0.Keeps (State.pushEvent s a1) := by
  unfold State.pushEvent
  with_reducible (apply keeps_mk; assumption)

theorem keeps_relayEmit {s0 s : State} {a1} (h : s0.Keeps s) : s0.Keeps (State.relayEmit s a1) := by
  unfold State.relayEmit
  split; with_reducible assumption; split; with_reducible assumption; dsimp only
  with_reducible (apply keeps_countE; apply keeps_pushEvent; apply keeps_inc64; apply keeps_takeInput; assumption)

theorem keeps_execRelayEmit {s0 s : State} {a0} (h : s0.Keeps s) : KeepsR s0 (execRelayEmit a0 s) := by
  unfold execRelayEmit
  with_reducible (apply keepsR_inst; apply keepsR_next; apply keeps_relayEmit; assumption)

theorem keeps_soft {s0 s : State} {a1} (h : s0.Keeps s) : s0.Keeps (State.soft s a1) := by
  unfold State.soft
  split; with_reducible (assumption; apply keeps_countE; apply keeps_pushEvent; assumption)

theorem keeps_cmdSoft {s0 s : State} {a0} (h : s0.Keeps s) : KeepsV s0 (cmdSoft a0 s) := by
  unfold cmdSoft
  with_reducible (apply keepsV_accept; apply keeps_soft; assumption)

theorem keeps_setAlert {s0 s : State} {a1 a2} (h : s0.Keeps s) : s0.Keeps (State.setAlert s a1 a2) := by
  unfold State.setAlert
  with_reducible (apply keeps_setReg; apply keeps_mk; assumption)

theorem keeps_alertDelivery {s0 s : State} {a1} (h : s0.Keeps s) : s0.Keeps (State.alertDelivery s a1) := by
  unfold State.alertDelivery
  split; with_reducible assumption; dsimp only; split
  with_reducible (apply keeps_setAlert; apply keeps_inc32; apply keeps_takeInput; assumption; apply keeps_setAlert; apply keeps_inc32)
  with_reducible (apply keeps_takeInput; assumption; apply keeps_inc32; apply keeps_takeInput; assumption)

theorem keeps_execAlertDelivery {s0 s : State} {a0} (h : s0.Keeps s) : KeepsR s0 (execAlertDelivery a0 s) := by
  unfold execAlertDelivery
  with_reducible (apply keepsR_inst; apply keepsR_next; apply keeps_alertDelivery; assumption)

theorem keeps_alertPulseEnd {s0 s : State} {a1} (h : s0.Keeps s) : s0.Keeps (State.alertPulseEnd s a1) := by
  unfold State.alertPulseEnd
  split; split; with_reducible (apply keeps_setAlert; assumption; assumption; assumption)

theorem keeps_execAlertPulseEnd {s0 s : State} {a0} (h : s0.Keeps s) : KeepsR s0 (execAlertPulseEnd a0 s) := by
  unfold execAlertPulseEnd
  with_reducible (apply keepsR_inst; apply keepsR_next; apply keeps_alertPulseEnd; assumption)

theorem keeps_cmdRelease {s0 s : State} {a0} (h : s0.Keeps s) : KeepsV s0 (cmdRelease a0 s) := by
  unfold cmdRelease
  with_reducible apply keepsV_ok; split; with_reducible (apply keeps_setAlert; assumption; assumption)

theorem keeps_counterZero {s0 s : State} {a1} (h : s0.Keeps s) : s0.Keeps (State.counterZero s a1) := by
  unfold State.counterZero
  with_reducible (apply keeps_mk; assumption)

theorem keeps_snapCounter {s0 s : State} {a1 a2} (h : s0.Keeps s) : s0.Keeps (State.snapCounter s a1 a2) := by
  unfold State.snapCounter
  dsimp only; split; with_reducible (apply keeps_counterZero; apply keeps_setReg; assumption; apply keeps_setReg; assumption)

theorem keeps_snapshot {s0 s : State} {a1} (h : s0.Keeps s) : s0.Keeps (State.snapshot s a1) := by
  unfold State.snapshot
  split; with_reducible assumption; dsimp only
  with_reducible (apply keeps_setReg; apply keeps_setReg; apply keeps_inc64; apply keeps_each; apply keeps_mk; assumption); intro _ _ _
  with_reducible (apply keeps_snapCounter; assumption)

theorem keeps_setSnapDone {s0 s : State} {a1 a2} (h : s0.Keeps s) : s0.Keeps (State.setSnapDone s a1 a2) := by
  unfold State.setSnapDone
  with_reducible (apply keeps_mk; assumption)

theorem keeps_snapAtTime {s0 s : State} {a1} (h : s0.Keeps s) : s0.Keeps (State.snapAtTime s a1) := by
  unfold State.snapAtTime
  dsimp only; split
  with_reducible (apply keeps_setSnapDone; apply keeps_snapshot; assumption; apply keeps_setReg; apply keeps_snapshot; assumption)

theorem keeps_execSnapshotTime {s0 s : State} {a0} (h : s0.Keeps s) : KeepsR s0 (execSnapshotTime a0 s) := by
  unfold execSnapshotTime
  with_reducible (apply keepsR_inst; apply keepsR_next); split; with_reducible (apply keeps_snapAtTime; assumption; assumption)

theorem keeps_snapEvent {s0 s : State} {a1} (h : s0.Keeps s) : s0.Keeps (State.snapEvent s a1) := by
  unfold State.snapEvent
  split; with_reducible assumption; dsimp only; split
  with_reducible (apply keeps_snapshot; apply keeps_takeInput; assumption; apply keeps_takeInput; assumption)

theorem keeps_execSnapshotEvent {s0 s : State} {a0} (h : s0.Keeps s) : KeepsR s0 (execSnapshotEvent a0 s) := by
  unfold execSnapshotEvent
  with_reducible (apply keepsR_inst; apply keepsR_next; apply keeps_snapEvent; assumption)

theorem keeps_cmdSnapNow {s0 s : State} {a0} (h : s0.Keeps s) : KeepsV s0 (cmdSnapNow a0 s) := by
  unfold cmdSnapNow
  with_reducible (apply keepsV_ok; apply keeps_snapshot; assumption)

theorem keeps_cmdCounterClear {s0 s : State} {a0} (h : s0.Keeps s) : KeepsV s0 (cmdCounterClear a0 s) := by
  unfold cmdCounterClear
  with_reducible (apply keepsV_ok; apply keeps_counterZero; assumption)

theorem keeps_execCounterWrap {s0 s : State} {a0} (h : s0.Keeps s) : KeepsR s0 (execCounterWrap a0 s) := by
  unfold execCounterWrap
  with_reducible apply keepsR_inst; split
  with_reducible (apply keepsR_next; apply keeps_counterAdd; assumption; apply keepsR_next; assumption)

theorem keeps_channelEnable {s0 s : State} {a1} (h : s0.Keeps s) : s0.Keeps (State.channelEnable s a1) := by
  unfold State.channelEnable
  split
  with_reducible (apply keeps_setReg; apply keeps_setReg; assumption; apply keeps_setReg; apply keeps_setReg; assumption; assumption)

theorem keeps_channelReaches {s0 s : State} {a1} (h : s0.Keeps s) : s0.Keeps (State.channelReaches s a1) := by
  unfold State.channelReaches
  with_reducible (apply keeps_mk; assumption)

theorem keeps_channelLeaves {s0 s : State} {a1} (h : s0.Keeps s) : s0.Keeps (State.channelLeaves s a1) := by
  unfold State.channelLeaves
  split; with_reducible (apply keeps_mk; assumption; assumption)

theorem keeps_channelDisable {s0 s : State} {a1} (h : s0.Keeps s) : s0.Keeps (State.channelDisable s a1) := by
  unfold State.channelDisable
  dsimp only; split; with_reducible apply keeps_setReg; split
  with_reducible (apply keeps_setReg; assumption; assumption; apply keeps_channelLeaves; apply keeps_setReg); split
  with_reducible (apply keeps_setReg; assumption; assumption; apply keeps_setReg); split
  with_reducible (apply keeps_setReg; assumption; assumption); split; with_reducible (apply keeps_setReg; assumption; assumption)

theorem keeps_dowelAfter {s0 s : State} {a1 a2} (h : s0.Keeps s) : s0.Keeps (dowelAfter s a1 a2) := by
  unfold dowelAfter
  split; with_reducible (apply keeps_setSnapDone; assumption; assumption)

theorem keeps_counterOn {s0 s : State} {a1} (h : s0.Keeps s) : s0.Keeps (State.counterOn s a1) := by
  unfold State.counterOn
  with_reducible (apply keeps_counterZero; assumption)

theorem keeps_attrWrite {s0 s : State} {a1 a2} (h : s0.Keeps s) : s0.Keeps (State.attrWrite s a1 a2) := by
  unfold State.attrWrite
  dsimp only; split; with_reducible (apply keeps_setReg; apply keeps_setReg; assumption; apply keeps_inc32; assumption)

end Sys2Proof.Machine
end

