-- ==== Sys2Proof/Laws/KeepsPosition.lean ====
section
/-! SUPPORT. What the definitions of Machine/Position.lean keep (State.Keeps). -/

set_option Elab.async false

namespace Sys2Proof.Machine

theorem keeps_modAxis {s0 s : State} {a1 a2} (h : s0.Keeps s) : s0.Keeps (State.modAxis s a1 a2) := by
  unfold State.modAxis
  with_reducible (apply keeps_mk; assumption)

theorem keeps_modList {s0 s : State} {a1 a2} (h : s0.Keeps s) : s0.Keeps (State.modList s a1 a2) := by
  unfold State.modList
  with_reducible (apply keeps_mk; assumption)

theorem keeps_modGen {s0 s : State} {a1} (h : s0.Keeps s) : s0.Keeps (State.modGen s a1) := by
  unfold State.modGen
  with_reducible (apply keeps_mk; assumption)

theorem keeps_unmarked {s0 s : State} {a1 a2} (h : s0.Keeps s) : s0.Keeps (State.unmarked s a1 a2) := by
  unfold State.unmarked
  split; with_reducible (apply keeps_inc32; assumption; assumption)

theorem keeps_compareFire {s0 s : State} {a1 a2} (h : s0.Keeps s) : s0.Keeps (State.compareFire s a1 a2) := by
  unfold State.compareFire
  dsimp only; split
  with_reducible (apply keeps_inc32; apply keeps_modList; apply keeps_fire; apply keeps_inc64; assumption; apply keeps_emit)
  with_reducible (apply keeps_modList; apply keeps_modList; apply keeps_fire; apply keeps_inc64; assumption)

theorem keeps_compareMissed {s0 s : State} {a1 a2} (h : s0.Keeps s) : s0.Keeps (State.compareMissed s a1 a2) := by
  unfold State.compareMissed
  dsimp only
  with_reducible (apply keeps_unmarked; apply keeps_fire; apply keeps_setReg; apply keeps_setReg; apply keeps_inc32; assumption)

theorem keeps_compareCancel {s0 s : State} {a1 a2} (h : s0.Keeps s) : s0.Keeps (State.compareCancel s a1 a2) := by
  unfold State.compareCancel
  with_reducible (apply keeps_unmarked; apply keeps_inc32; assumption)

theorem keeps_showArmed {s0 s : State} {a1} (h : s0.Keeps s) : s0.Keeps (State.showArmed s a1) := by
  unfold State.showArmed
  with_reducible (apply keeps_setReg; assumption)

theorem keeps_sweepList {s0 s : State} {a1 a2 a3} (h : s0.Keeps s) : s0.Keeps (State.sweepList s a1 a2 a3) := by
  unfold State.sweepList
  dsimp only; split; with_reducible (assumption; apply keeps_showArmed; apply keeps_each; apply keeps_modList; assumption); intro _ _ _
  split; with_reducible (apply keeps_compareFire; assumption; apply keeps_compareMissed; assumption)

theorem keeps_compareSweep {s0 s : State} {a1} (h : s0.Keeps s) : s0.Keeps (State.compareSweep s a1) := by
  unfold State.compareSweep
  with_reducible (apply keeps_each; assumption); intro _ _ _; split; with_reducible (apply keeps_sweepList; assumption; assumption)

theorem keeps_placeEntry {s0 s : State} {a1 a2} (h : s0.Keeps s) : s0.Keeps (State.placeEntry s a1 a2) := by
  unfold State.placeEntry
  dsimp only; split
  with_reducible (apply keeps_compareFire; assumption; apply keeps_compareMissed; assumption; apply keeps_showArmed; apply keeps_modList)
  with_reducible assumption

theorem keeps_cmdPlace {s0 s : State} {a0} (h : s0.Keeps s) : KeepsV s0 (cmdPlace a0 s) := by
  unfold cmdPlace
  dsimp only; split; with_reducible (apply keepsV_error; apply keepsV_accept; apply keeps_placeEntry; assumption)

theorem keeps_cancelEntries {s0 s : State} {a1 a2} (h : s0.Keeps s) : s0.Keeps (State.cancelEntries s a1 a2) := by
  unfold State.cancelEntries
  dsimp only; split; with_reducible (assumption; apply keeps_showArmed; apply keeps_each; apply keeps_modList; assumption); intro _ _ _
  with_reducible (apply keeps_compareCancel; assumption)

theorem keeps_cmdCompareClear {s0 s : State} {a0} (h : s0.Keeps s) : KeepsV s0 (cmdCompareClear a0 s) := by
  unfold cmdCompareClear
  with_reducible (apply keepsV_ok; apply keeps_cancelEntries; assumption)

theorem keeps_markerArrive {s0 s : State} {a1} (h : s0.Keeps s) : s0.Keeps (State.markerArrive s a1) := by
  unfold State.markerArrive
  split; with_reducible assumption; dsimp only; split
  with_reducible (apply keeps_placeEntry; apply keeps_inc32; apply keeps_modList; assumption; apply keeps_fire; apply keeps_inc32)
  with_reducible (apply keeps_modList; assumption)

theorem keeps_execMarkerEntryArrive {s0 s : State} {a0} (h : s0.Keeps s) : KeepsR s0 (execMarkerEntryArrive a0 s) := by
  unfold execMarkerEntryArrive
  with_reducible (apply keepsR_inst; apply keepsR_next; apply keeps_markerArrive; assumption)

theorem keeps_execCmpoutPulseEnd {s0 s : State} {a0} (h : s0.Keeps s) : KeepsR s0 (execCmpoutPulseEnd a0 s) := by
  unfold execCmpoutPulseEnd
  with_reducible apply keepsR_inst; split
  with_reducible (apply keepsR_next; apply keeps_emit; apply keeps_modList; assumption; apply keepsR_next; assumption)

theorem keeps_edgesDue {s0 s : State} {n : Nat} (h : s0.Keeps s) : s0.Keeps (State.edgesDue n s) := by
  induction n generalizing s with
  | zero => exact h
  | succ n ih =>
    unfold State.edgesDue
    dsimp only
    apply ih
    repeat' first | assumption | with_reducible first | apply keeps_inc32 | apply keeps_modGen | split

theorem keeps_genSweep {s0 s : State} {a1} (h : s0.Keeps s) : s0.Keeps (State.genSweep s a1) := by
  unfold State.genSweep
  split; with_reducible (apply keeps_edgesDue; assumption; assumption)

theorem keeps_execTimerLineEdge {s0 s : State} (h : s0.Keeps s) : KeepsR s0 (execTimerLineEdge s) := by
  unfold execTimerLineEdge
  split; with_reducible (apply keepsR_next; apply keeps_edgesDue; assumption; apply keepsR_next; assumption)

theorem keeps_edgeOut {s0 s : State} (h : s0.Keeps s) : s0.Keeps (State.edgeOut s) := by
  unfold State.edgeOut
  dsimp only
  with_reducible (apply keeps_fire; apply keeps_setReg; apply keeps_setReg; apply keeps_setReg; apply keeps_inc64; apply keeps_modGen)
  with_reducible assumption

theorem keeps_execLineEdgeEmit {s0 s : State} (h : s0.Keeps s) : KeepsR s0 (execLineEdgeEmit s) := by
  unfold execLineEdgeEmit
  split; with_reducible (apply keepsR_next; apply keeps_edgeOut; assumption; apply keepsR_next; assumption)

theorem keeps_execLtrigPulse {s0 s : State} {a0} (h : s0.Keeps s) : KeepsR s0 (execLtrigPulse a0 s) := by
  unfold execLtrigPulse
  with_reducible apply keepsR_inst; split; dsimp only
  with_reducible (apply keepsR_next; apply keeps_emit; apply keeps_modGen; assumption; apply keepsR_next; assumption)

theorem keeps_setDirection {s0 s : State} {a1 a2 a3} (h : s0.Keeps s) : s0.Keeps (State.setDirection s a1 a2 a3) := by
  unfold State.setDirection
  dsimp only; with_reducible (apply keeps_fire; apply keeps_inc32; apply keeps_modAxis; apply keeps_setReg; assumption)

theorem keeps_openReverse {s0 s : State} {a1} (h : s0.Keeps s) : s0.Keeps (State.openReverse s a1) := by
  unfold State.openReverse
  with_reducible (apply keeps_modAxis; apply keeps_regBit; assumption)

theorem keeps_directionMove {s0 s : State} {a1 a2 a3} (h : s0.Keeps s) : s0.Keeps (State.directionMove s a1 a2 a3) := by
  unfold State.directionMove
  dsimp only; split; split; with_reducible (apply keeps_setDirection; assumption; assumption); split
  with_reducible (apply keeps_modAxis; assumption); split
  with_reducible (apply keeps_setDirection; assumption; apply keeps_openReverse; assumption); split
  with_reducible (apply keeps_modAxis; assumption); split
  with_reducible (apply keeps_setDirection; assumption; apply keeps_openReverse; assumption)

theorem keeps_standCount {s0 s : State} {a1} (h : s0.Keeps s) : s0.Keeps (State.standCount s a1) := by
  unfold State.standCount
  dsimp only; split; with_reducible (apply keeps_modAxis; apply keeps_setReg; assumption; apply keeps_modAxis; assumption)

theorem keeps_move {s0 s : State} {a1 a2} (h : s0.Keeps s) : s0.Keeps (State.move s a1 a2) := by
  unfold State.move
  split; with_reducible assumption; dsimp only
  with_reducible (apply keeps_genSweep; apply keeps_compareSweep; apply keeps_directionMove; apply keeps_standCount; apply keeps_modAxis)
  with_reducible (apply keeps_setReg; assumption)

theorem keeps_posError {s0 s : State} {a1} (h : s0.Keeps s) : s0.Keeps (State.posError s a1) := by
  unfold State.posError
  with_reducible (apply keeps_fire; apply keeps_inc32; assumption)

theorem keeps_glitch {s0 s : State} {a1} (h : s0.Keeps s) : s0.Keeps (State.glitch s a1) := by
  unfold State.glitch
  with_reducible (apply keeps_inc32; assumption)

theorem keeps_execEncoderEdge {s0 s : State} {a0 a1 a2 a3} (h : s0.Keeps s) : KeepsR s0 (execEncoderEdge a0 a1 a2 a3 s) := by
  unfold execEncoderEdge
  with_reducible apply keepsR_inst; split; split; with_reducible (apply keepsR_next; apply keeps_glitch; assumption); dsimp only; split
  with_reducible (apply keepsR_next; apply keeps_modAxis; assumption); split
  with_reducible (apply keepsR_next; apply keeps_posError; apply keeps_modAxis; assumption; apply keepsR_next; apply keeps_move)
  with_reducible (apply keeps_modAxis; assumption; apply keepsR_next; assumption)

theorem keeps_hallMove {s0 s : State} {a1 a2} (h : s0.Keeps s) : s0.Keeps (State.hallMove s a1 a2) := by
  unfold State.hallMove
  split; with_reducible (apply keeps_modAxis; assumption; apply keeps_posError; assumption; apply keeps_posError; apply keeps_modAxis)
  with_reducible assumption; dsimp only; split; with_reducible assumption; split
  with_reducible (apply keeps_move; apply keeps_modAxis; assumption); split
  with_reducible (apply keeps_move; apply keeps_modAxis; assumption; apply keeps_posError; apply keeps_modAxis; assumption)

theorem keeps_execHallState {s0 s : State} {a0 a1 a2} (h : s0.Keeps s) : KeepsR s0 (execHallState a0 a1 a2 s) := by
  unfold execHallState
  with_reducible apply keepsR_inst; split; split
  with_reducible (apply keepsR_next; apply keeps_glitch; assumption; apply keepsR_next; apply keeps_hallMove; assumption)
  with_reducible (apply keepsR_next; assumption)

theorem keeps_axisStart {s0 s : State} {a1} (h : s0.Keeps s) : s0.Keeps (State.axisStart s a1) := by
  unfold State.axisStart
  dsimp only; with_reducible (apply keeps_modAxis; apply keeps_setReg; apply keeps_setReg; assumption)

theorem keeps_ssiFrame {s0 s : State} {a1 a2 a3} (h : s0.Keeps s) : s0.Keeps (State.ssiFrame s a1 a2 a3) := by
  unfold State.ssiFrame
  dsimp only; split; with_reducible (apply keeps_posError; assumption); split; split; split
  with_reducible (apply keeps_axisStart; apply keeps_modAxis; assumption; apply keeps_modAxis; assumption); split
  with_reducible (apply keeps_axisStart; apply keeps_modAxis; assumption; apply keeps_modAxis; assumption); split; split
  with_reducible (apply keeps_posError; assumption; apply keeps_move; apply keeps_modAxis; assumption); split
  with_reducible (apply keeps_posError; assumption; apply keeps_move; apply keeps_modAxis; assumption)

theorem keeps_execSsiFrame {s0 s : State} {a0 a1 a2} (h : s0.Keeps s) : KeepsR s0 (execSsiFrame a0 a1 a2 s) := by
  unfold execSsiFrame
  with_reducible apply keepsR_inst; split
  with_reducible (apply keepsR_next; apply keeps_ssiFrame; assumption; apply keepsR_next; assumption)

theorem keeps_preset {s0 s : State} {a1} (h : s0.Keeps s) : s0.Keeps (State.preset s a1) := by
  unfold State.preset
  dsimp only; with_reducible apply keeps_each; split
  with_reducible (apply keeps_modGen; apply keeps_modAxis; apply keeps_setReg; assumption; apply keeps_modAxis; apply keeps_setReg)
  with_reducible assumption; intro _ _ _; with_reducible (apply keeps_modList; apply keeps_sweepList; assumption)

theorem keeps_cmdPreset {s0 s : State} {a0} (h : s0.Keeps s) : KeepsV s0 (cmdPreset a0 s) := by
  unfold cmdPreset
  with_reducible (apply keepsV_ok; apply keeps_preset; assumption)

theorem keeps_indexEdge {s0 s : State} {a1} (h : s0.Keeps s) : s0.Keeps (State.indexEdge s a1) := by
  unfold State.indexEdge
  dsimp only; split; split
  with_reducible (apply keeps_regBit; apply keeps_setReg; apply keeps_preset; apply keeps_fire; apply keeps_setReg; assumption)
  with_reducible (apply keeps_fire; apply keeps_setReg; assumption; assumption)

theorem keeps_execIndexEdge {s0 s : State} {a0 a1} (h : s0.Keeps s) : KeepsR s0 (execIndexEdge a0 a1 s) := by
  unfold execIndexEdge
  with_reducible apply keepsR_inst; split; split
  with_reducible (apply keepsR_next; apply keeps_glitch; assumption; apply keepsR_next; apply keeps_indexEdge; assumption)
  with_reducible (apply keepsR_next; assumption)

theorem keeps_observe {s0 s : State} {a1} (h : s0.Keeps s) : s0.Keeps (State.observe s a1) := by
  unfold State.observe
  dsimp only; split; split
  with_reducible (apply keeps_regBit; apply keeps_setReg; apply keeps_modAxis; assumption; apply keeps_setReg; apply keeps_modAxis)
  with_reducible assumption; split
  with_reducible (apply keeps_regBit; apply keeps_setReg; apply keeps_modAxis; assumption; apply keeps_setReg; apply keeps_modAxis)
  with_reducible assumption

theorem keeps_execObserverUpdate {s0 s : State} {a0} (h : s0.Keeps s) : KeepsR s0 (execObserverUpdate a0 s) := by
  unfold execObserverUpdate
  with_reducible apply keepsR_inst; split
  with_reducible (apply keepsR_next; apply keeps_observe; assumption; apply keepsR_next; assumption)

theorem keeps_standstill {s0 s : State} {a1} (h : s0.Keeps s) : s0.Keeps (State.standstill s a1) := by
  unfold State.standstill
  dsimp only; with_reducible (apply keeps_fire; apply keeps_setReg; apply keeps_regBit; apply keeps_modAxis; assumption)

theorem keeps_execStandstill {s0 s : State} {a0} (h : s0.Keeps s) : KeepsR s0 (execStandstill a0 s) := by
  unfold execStandstill
  with_reducible (apply keepsR_inst; apply keepsR_next); split; with_reducible (apply keeps_standstill; assumption; assumption)

theorem keeps_genStart {s0 s : State} (h : s0.Keeps s) : s0.Keeps (State.genStart s) := by
  unfold State.genStart
  dsimp only; with_reducible (apply keeps_modGen; apply keeps_setReg; assumption)

theorem keeps_axisLeaves {s0 s : State} {a1} (h : s0.Keeps s) : s0.Keeps (State.axisLeaves s a1) := by
  unfold State.axisLeaves
  with_reducible (apply keeps_each; assumption); intro _ _ _; with_reducible (apply keeps_cancelEntries; assumption)

theorem keeps_positionAfter {s0 s : State} {a1 a2} (h : s0.Keeps s) : s0.Keeps (positionAfter s a1 a2) := by
  unfold positionAfter
  split; with_reducible (apply keeps_regBit; assumption; assumption)

end Sys2Proof.Machine
end

