-- ==== Sys2Proof/Laws/KeepsAvail.lean ====
section
/-! SUPPORT. What the definitions of Machine/Avail.lean keep (State.Keeps). -/

set_option Elab.async false

namespace Sys2Proof.Machine

theorem keeps_setPair {s0 s : State} {a1 a2} (h : s0.Keeps s) : s0.Keeps (State.setPair s a1 a2) := by
  unfold State.setPair
  with_reducible (apply keeps_setReg; assumption)

theorem keeps_runSlot {s0 s : State} {a1} (h : s0.Keeps s) : s0.Keeps (State.runSlot s a1) := by
  unfold State.runSlot
  with_reducible (apply keeps_setReg; apply keeps_setReg; apply keeps_setReg; assumption)

theorem keeps_startProbation {s0 s : State} (h : s0.Keeps s) : s0.Keeps (State.startProbation s) := by
  unfold State.startProbation
  with_reducible (apply keeps_mk; assumption)

theorem keeps_failUpdate {s0 s : State} {a1} (h : s0.Keeps s) : s0.Keeps (State.failUpdate s a1) := by
  unfold State.failUpdate
  dsimp only; split; with_reducible (apply keeps_faultRecord; apply keeps_setReg; assumption); split
  with_reducible (apply keeps_startProbation; assumption); split
  with_reducible (apply keeps_faultRecord; apply keeps_setReg; apply keeps_runSlot; assumption; assumption)

theorem keeps_failover {s0 s : State} {a1} (h : s0.Keeps s) : s0.Keeps (State.failover s a1) := by
  unfold State.failover
  dsimp only; split
  with_reducible (apply keeps_failUpdate; apply keeps_faultDone; apply keeps_setReg; apply keeps_setReg; apply keeps_inc32)
  with_reducible (apply keeps_setReg; apply keeps_setPair; apply keeps_setPair; apply keeps_snd; apply keeps_draw)
  with_reducible (apply keeps_faultStart; assumption; apply keeps_mk; apply keeps_faultDone; apply keeps_setPair; apply keeps_faultStart)
  with_reducible assumption

theorem keeps_execLockstepMismatch {s0 s : State} (h : s0.Keeps s) : KeepsR s0 (execLockstepMismatch s) := by
  unfold execLockstepMismatch
  split; with_reducible (apply keepsR_next; apply keeps_failover; assumption; apply keepsR_next; assumption)

theorem keeps_execWatchdogExpiry {s0 s : State} (h : s0.Keeps s) : KeepsR s0 (execWatchdogExpiry s) := by
  unfold execWatchdogExpiry
  split; with_reducible (apply keepsR_next; apply keeps_failover; assumption; apply keepsR_next; assumption)

theorem keeps_cmdFailover {s0 s : State} (h : s0.Keeps s) : KeepsV s0 (cmdFailover s) := by
  unfold cmdFailover
  with_reducible (apply keepsV_accept; apply keeps_failover; assumption)

theorem keeps_execPairSelftestComplete {s0 s : State} {a0} (h : s0.Keeps s) : KeepsR s0 (execPairSelftestComplete a0 s) := by
  unfold execPairSelftestComplete
  dsimp only; split; with_reducible (apply keepsR_next; apply keeps_setPair; assumption); split
  with_reducible (apply keepsR_next; apply keeps_setPair; assumption; apply keepsR_next; assumption)

theorem keeps_setSlot {s0 s : State} {a1 a2} (h : s0.Keeps s) : s0.Keeps (State.setSlot s a1 a2) := by
  unfold State.setSlot
  dsimp only; with_reducible (apply keeps_setReg; apply keeps_mk; assumption)

theorem keeps_writeImage {s0 s : State} {a1} (h : s0.Keeps s) : KeepsP s0 (State.writeImage s a1) := by
  unfold State.writeImage
  split; dsimp only
  with_reducible (apply keepsP_mk; apply keeps_mk; apply keeps_setReg; apply keeps_setSlot; assumption; apply keepsP_mk)
  with_reducible (apply keeps_setReg; apply keeps_setSlot; assumption)

theorem keeps_cmdActivate {s0 s : State} (h : s0.Keeps s) : KeepsV s0 (cmdActivate s) := by
  unfold cmdActivate
  dsimp only; with_reducible (apply keepsV_accept; apply keeps_setReg; apply keeps_setPair; assumption)

theorem keeps_execLoadingComplete {s0 s : State} (h : s0.Keeps s) : KeepsR s0 (execLoadingComplete s) := by
  unfold execLoadingComplete
  split; with_reducible (apply keepsR_next; apply keeps_setReg; assumption; apply keepsR_next; assumption)

theorem keeps_execHandoverComplete {s0 s : State} {a0} (h : s0.Keeps s) : KeepsR s0 (execHandoverComplete a0 s) := by
  unfold execHandoverComplete
  split; dsimp only
  with_reducible (apply keepsR_next; apply keeps_setReg; apply keeps_startProbation; apply keeps_mk; apply keeps_runSlot)
  with_reducible (apply keeps_setReg; apply keeps_setReg; apply keeps_setReg; apply keeps_setPair; apply keeps_setPair; assumption)
  with_reducible (apply keepsR_next; assumption)

theorem keeps_execProbationEnd {s0 s : State} (h : s0.Keeps s) : KeepsR s0 (execProbationEnd s) := by
  unfold execProbationEnd
  split; dsimp only
  with_reducible (apply keepsR_next; apply keeps_faultRecord; apply keeps_inc32; apply keeps_setReg; apply keeps_setReg; apply keeps_mk)
  with_reducible (assumption; apply keepsR_next; assumption)

theorem keeps_tap {s0 s : State} {a1 a2 a3} (h : s0.Keeps s) : s0.Keeps (State.tap s a1 a2 a3) := by
  unfold State.tap
  with_reducible (apply keeps_mk; assumption)

theorem keeps_execExtest {s0 s : State} {a0 a1} (h : s0.Keeps s) : KeepsR s0 (execExtest a0 a1 s) := by
  unfold execExtest
  split; with_reducible (apply keepsR_next; apply keeps_tap; assumption; apply keepsR_next); dsimp only
  with_reducible (apply keeps_mk; apply keeps_tap; assumption)

theorem keeps_execIdcode {s0 s : State} (h : s0.Keeps s) : KeepsR s0 (execIdcode s) := by
  unfold execIdcode
  with_reducible (apply keepsR_next; apply keeps_tap; assumption)

theorem keeps_execSamplePreload {s0 s : State} {a0 a1} (h : s0.Keeps s) : KeepsR s0 (execSamplePreload a0 a1 s) := by
  unfold execSamplePreload
  with_reducible apply keepsR_next; dsimp only; with_reducible (apply keeps_mk; apply keeps_tap; assumption)

theorem keeps_execClamp {s0 s : State} (h : s0.Keeps s) : KeepsR s0 (execClamp s) := by
  unfold execClamp
  with_reducible (apply keepsR_next; apply keeps_tap; assumption)

theorem keeps_execHighz {s0 s : State} (h : s0.Keeps s) : KeepsR s0 (execHighz s) := by
  unfold execHighz
  with_reducible (apply keepsR_next; apply keeps_tap; assumption)

theorem keeps_execBypass {s0 s : State} (h : s0.Keeps s) : KeepsR s0 (execBypass s) := by
  unfold execBypass
  with_reducible (apply keepsR_next; apply keeps_tap; assumption)

end Sys2Proof.Machine
end

