-- ==== Sys2Proof/Laws/KeepsDramMap.lean ====
section
/-! SUPPORT. What the definitions of Machine/DramMap.lean keep (State.Keeps). -/

set_option Elab.async false

namespace Sys2Proof.Machine

theorem keeps_setDdr {s0 s : State} {a1} (h : s0.Keeps s) : s0.Keeps (State.setDdr s a1) := by
  unfold State.setDdr
  with_reducible (apply keeps_mk; assumption)

theorem keeps_modChan {s0 s : State} {a1 a2} (h : s0.Keeps s) : s0.Keeps (State.modChan s a1 a2) := by
  unfold State.modChan
  with_reducible (apply keeps_setDdr; assumption)

theorem keeps_closeRow {s0 s : State} {a1 a2} (h : s0.Keeps s) : s0.Keeps (State.closeRow s a1 a2) := by
  unfold State.closeRow
  dsimp only; split; with_reducible assumption; split; split
  with_reducible (apply keeps_modChan; assumption; apply keeps_inc64; apply keeps_inc64; apply keeps_modChan; assumption); split
  with_reducible (apply keeps_modChan; assumption; apply keeps_inc64; apply keeps_inc64; apply keeps_modChan; assumption)

theorem keeps_closeRows {s0 s : State} {a1 a2} (h : s0.Keeps s) : s0.Keeps (State.closeRows s a1 a2) := by
  unfold State.closeRows
  with_reducible (apply keeps_each; assumption); intro _ _ _; with_reducible (apply keeps_closeRow; assumption)

theorem keeps_activate {s0 s : State} {a1 a2 a3} (h : s0.Keeps s) : s0.Keeps (State.activate s a1 a2 a3) := by
  unfold State.activate
  dsimp only; with_reducible (apply keeps_inc64; apply keeps_modChan; assumption)

theorem keeps_access {s0 s : State} {a1 a2} (h : s0.Keeps s) : s0.Keeps (State.access s a1 a2) := by
  unfold State.access
  dsimp only; split; with_reducible (apply keeps_inc64; assumption; apply keeps_activate; apply keeps_closeRow; assumption)

theorem keeps_deviceRead {s0 s : State} {a1 a2} (h : s0.Keeps s) : s0.Keeps (State.deviceRead s a1 a2) := by
  unfold State.deviceRead
  with_reducible (apply keeps_inc64; apply keeps_access; assumption)

theorem keeps_markUnit {s0 s : State} {a1 a2 a3} (h : s0.Keeps s) : s0.Keeps (State.markUnit s a1 a2 a3) := by
  unfold State.markUnit
  dsimp only; with_reducible (apply keeps_setDdr; assumption)

theorem keeps_deviceWrite {s0 s : State} {a1 a2 a3} (h : s0.Keeps s) : s0.Keeps (State.deviceWrite s a1 a2 a3) := by
  unfold State.deviceWrite
  split; with_reducible (assumption; apply keeps_markUnit; apply keeps_putUnit; apply keeps_inc64; apply keeps_access; assumption)

theorem keeps_readFails {s0 s : State} {a1 a2} (h : s0.Keeps s) : s0.Keeps (State.readFails s a1 a2) := by
  unfold State.readFails
  with_reducible (apply keeps_faultRecord; apply keeps_inc32; assumption)

theorem keeps_rebuildRead {s0 s : State} {a1 a2} (h : s0.Keeps s) : s0.Keeps (State.rebuildRead s a1 a2) := by
  unfold State.rebuildRead
  with_reducible (apply keeps_inc64; apply keeps_each; assumption); intro _ _ _; with_reducible (apply keeps_deviceRead; assumption)

theorem keeps_engineRead {s0 s : State} {a1 a2} (h : s0.Keeps s) : s0.Keeps (State.engineRead s a1 a2) := by
  unfold State.engineRead
  split; with_reducible (apply keeps_deviceRead; assumption); split
  with_reducible (apply keeps_rebuildRead; assumption; apply keeps_readFails; assumption)

theorem keeps_closeStripe {s0 s : State} {a1} (h : s0.Keeps s) : s0.Keeps (State.closeStripe s a1) := by
  unfold State.closeStripe
  dsimp only; split; with_reducible (apply keeps_markUnit; apply keeps_deviceWrite; apply keeps_setDdr); split
  with_reducible (apply keeps_inc64; apply keeps_each; assumption); intro _ _ _
  with_reducible (apply keeps_engineRead; assumption; apply keeps_inc64; apply keeps_inc64; apply keeps_each; assumption); intro _ _ _
  with_reducible (apply keeps_engineRead; assumption; apply keeps_deviceWrite; apply keeps_setDdr); split
  with_reducible (apply keeps_inc64; apply keeps_each; assumption); intro _ _ _
  with_reducible (apply keeps_engineRead; assumption; apply keeps_inc64; apply keeps_inc64; apply keeps_each; assumption); intro _ _ _
  with_reducible (apply keeps_engineRead; assumption)

theorem keeps_enterStripe {s0 s : State} {a1 a2 a3 a4} (h : s0.Keeps s) : s0.Keeps (State.enterStripe s a1 a2 a3 a4) := by
  unfold State.enterStripe
  dsimp only; split
  with_reducible (apply keeps_markUnit; apply keeps_deviceWrite; apply keeps_setDdr; assumption; apply keeps_deviceWrite)
  with_reducible (apply keeps_setDdr; assumption)

theorem keeps_completeUnit {s0 s : State} {a1 a2 a3} (h : s0.Keeps s) : KeepsP s0 (State.completeUnit s a1 a2 a3) := by
  unfold State.completeUnit
  split; with_reducible (apply keepsP_mk; assumption); split
  with_reducible (apply keepsP_mk; apply keeps_inc64; apply keeps_engineRead; assumption); dsimp only
  with_reducible (apply keepsP_mk; apply keeps_inc64; apply keeps_engineRead; apply keeps_snd; apply keeps_draw; assumption)

theorem keeps_closeAssembly {s0 s : State} {a1 a2} (h : s0.Keeps s) : s0.Keeps (State.closeAssembly s a1 a2) := by
  unfold State.closeAssembly
  dsimp only; split; with_reducible (apply keeps_setDdr; assumption); split
  with_reducible (apply keeps_closeStripe; apply keeps_enterStripe; apply keeps_snd; apply keeps_completeUnit; apply keeps_setDdr)
  with_reducible (assumption; apply keeps_enterStripe; apply keeps_snd; apply keeps_completeUnit; apply keeps_setDdr; assumption)

theorem keeps_makeRoom {s0 s : State} (h : s0.Keeps s) : s0.Keeps (State.makeRoom s) := by
  unfold State.makeRoom
  split; split; with_reducible (apply keeps_closeAssembly; assumption; assumption; assumption)

theorem keeps_engineAccept {s0 s : State} {a1 a2 a3} (h : s0.Keeps s) : s0.Keeps (State.engineAccept s a1 a2 a3) := by
  unfold State.engineAccept
  dsimp only; with_reducible (apply keeps_setReg; apply keeps_setDdr; assumption)

theorem keeps_admitWriters {s0 s : State} (h : s0.Keeps s) : s0.Keeps (State.admitWriters s) := by
  unfold State.admitWriters
  with_reducible (apply keeps_each; assumption); intro _ _ _; split
  with_reducible (apply keeps_engineAccept; apply keeps_setDdr; assumption; assumption)

theorem keeps_engineWrite {s0 s : State} {a1 a2 a3 a4} (h : s0.Keeps s) : s0.Keeps (State.engineWrite s a1 a2 a3 a4) := by
  unfold State.engineWrite
  dsimp only; split; split; with_reducible (apply keeps_engineAccept; assumption; apply keeps_setDdr; assumption); split
  with_reducible (apply keeps_engineAccept; apply keeps_makeRoom; assumption; apply keeps_setDdr; apply keeps_makeRoom; assumption)

theorem keeps_meterU {s0 s : State} {a1 a2} (h : s0.Keeps s) : s0.Keeps (State.meterU s a1 a2) := by
  unfold State.meterU
  split; with_reducible assumption; dsimp only; split; split
  with_reducible (apply keeps_inc32; apply keeps_modChan; assumption; apply keeps_modChan; assumption); split
  with_reducible (apply keeps_inc32; apply keeps_modChan; assumption; apply keeps_modChan; assumption)

theorem keeps_plainWrite {s0 s : State} {a1 a2 a3 a4} (h : s0.Keeps s) : s0.Keeps (State.plainWrite s a1 a2 a3 a4) := by
  unfold State.plainWrite
  split; with_reducible (apply keeps_deviceWrite; assumption); dsimp only
  with_reducible (apply keeps_whenB; apply keeps_deviceWrite; apply keeps_deviceRead; assumption); intro _ _
  with_reducible (apply keeps_markUnit; assumption)

theorem keeps_poolFull {s0 s : State} {a1} (h : s0.Keeps s) : s0.Keeps (State.poolFull s a1) := by
  unfold State.poolFull
  with_reducible (apply keeps_countE; assumption)

theorem keeps_enqueue {s0 s : State} {a1} (h : s0.Keeps s) : s0.Keeps (State.enqueue s a1) := by
  unfold State.enqueue
  dsimp only; with_reducible apply keeps_setDdr; split; with_reducible (apply keeps_poolFull; assumption; assumption)

theorem keeps_unprotWrite {s0 s : State} {a1 a2 a3 a4 a5} (h : s0.Keeps s) : s0.Keeps (State.unprotWrite s a1 a2 a3 a4 a5) := by
  unfold State.unprotWrite
  split; with_reducible (apply keeps_enqueue; assumption; assumption; apply keeps_plainWrite; assumption)

theorem keeps_storeUnit {s0 s : State} {a1 a2 a3 a4} (h : s0.Keeps s) : s0.Keeps (State.storeUnit s a1 a2 a3 a4) := by
  unfold State.storeUnit
  split; with_reducible assumption; dsimp only; split
  with_reducible (apply keeps_engineWrite; apply keeps_meterU; assumption; apply keeps_unprotWrite; apply keeps_meterU; assumption)

theorem keeps_store {s0 s : State} {a1 a2 a3} (h : s0.Keeps s) : s0.Keeps (State.store s a1 a2 a3) := by
  unfold State.store
  with_reducible (apply keeps_each; assumption); intro _ _ _; with_reducible (apply keeps_storeUnit; assumption)

theorem keeps_takeDelays {s0 s : State} {a1 a2} (h : s0.Keeps s) : s0.Keeps (State.takeDelays s a1 a2) := by
  unfold State.takeDelays
  with_reducible (apply keeps_setReg; apply keeps_setDom; assumption)

theorem keeps_releaseHeld {s0 s : State} {a1} (h : s0.Keeps s) : s0.Keeps (State.releaseHeld s a1) := by
  unfold State.releaseHeld
  dsimp only; with_reducible (apply keeps_each; apply keeps_each; assumption); intro _ _ _
  with_reducible (apply keeps_closeAssembly; assumption); intro _ _ _; with_reducible (apply keeps_closeStripe; assumption)

theorem keeps_countUncorrectable {s0 s : State} {a1 a2} (h : s0.Keeps s) : s0.Keeps (State.countUncorrectable s a1 a2) := by
  unfold State.countUncorrectable
  dsimp only; with_reducible (apply keeps_modChan; apply keeps_setReg; apply keeps_inc32; assumption)

theorem keeps_readUnitOnly {s0 s : State} {a1 a2 a3} (h : s0.Keeps s) : s0.Keeps (State.readUnitOnly s a1 a2 a3) := by
  unfold State.readUnitOnly
  dsimp only; split; split; split
  with_reducible (apply keeps_setReg; apply keeps_inc64; apply keeps_deviceRead; assumption; apply keeps_deviceRead; assumption)
  with_reducible apply keeps_countUncorrectable; split
  with_reducible (apply keeps_faultDone; apply keeps_deviceWrite; apply keeps_rebuildRead); split
  with_reducible (apply keeps_faultStart; apply keeps_markUnit; apply keeps_deviceRead; assumption; apply keeps_markUnit)
  with_reducible (apply keeps_deviceRead; assumption); split
  with_reducible (apply keeps_faultDone; apply keeps_readFails; apply keeps_faultStart; apply keeps_markUnit; apply keeps_deviceRead)
  with_reducible (assumption; apply keeps_readFails; apply keeps_markUnit; apply keeps_deviceRead; assumption); split
  with_reducible (apply keeps_rebuildRead; assumption; apply keeps_readFails; assumption)

theorem keeps_serveReq {s0 s : State} {a1} (h : s0.Keeps s) : s0.Keeps (State.serveReq s a1) := by
  unfold State.serveReq
  dsimp only; split
  with_reducible (apply keeps_plainWrite; apply keeps_setDdr; assumption; apply keeps_readUnitOnly; apply keeps_setDdr; assumption)

theorem keeps_serveQueue  {s0 s : State} {ch n : Nat} (h : s0.Keeps s) : s0.Keeps (State.serveQueue s ch n) := by
  induction n generalizing s with
  | zero => exact h
  | succ n ih =>
    unfold State.serveQueue
    split; apply ih; with_reducible (apply keeps_serveReq; assumption; assumption)

theorem keeps_backOnline {s0 s : State} {a1} (h : s0.Keeps s) : s0.Keeps (State.backOnline s a1) := by
  unfold State.backOnline
  dsimp only; with_reducible (apply keeps_serveQueue; apply keeps_admitWriters; apply keeps_releaseHeld); split
  with_reducible (apply keeps_setDdr; apply keeps_takeDelays; apply keeps_setReg; assumption; apply keeps_setReg; assumption)

theorem keeps_goOffline {s0 s : State} {a1} (h : s0.Keeps s) : s0.Keeps (State.goOffline s a1) := by
  unfold State.goOffline
  with_reducible (apply keeps_setReg; apply keeps_closeRows; assumption)

theorem keeps_failQueue {s0 s : State} {a1} (h : s0.Keeps s) : s0.Keeps (State.failQueue s a1) := by
  unfold State.failQueue
  dsimp only; with_reducible (apply keeps_each; apply keeps_setDdr; assumption); intro _ _ _
  with_reducible (apply keeps_readFails; assumption)

theorem keeps_channelLost {s0 s : State} {a1 a2} (h : s0.Keeps s) : s0.Keeps (State.channelLost s a1 a2) := by
  unfold State.channelLost
  split; with_reducible assumption; dsimp only
  with_reducible (apply keeps_faultDone; apply keeps_fire; apply keeps_admitWriters; apply keeps_releaseHeld; apply keeps_failQueue)
  with_reducible (apply keeps_modChan; apply keeps_setReg; apply keeps_setReg; apply keeps_setReg; apply keeps_faultStart); split; split
  with_reducible (apply keeps_setReg; apply keeps_setReg; apply keeps_setDdr; apply keeps_each; assumption); intro _ _ _
  with_reducible (apply keeps_backOnline; assumption; apply keeps_setReg; apply keeps_setDdr; apply keeps_each; assumption); intro _ _ _
  with_reducible (apply keeps_backOnline; assumption); split; with_reducible (apply keeps_setReg; apply keeps_each; assumption)
  intro _ _ _; with_reducible (apply keeps_backOnline; assumption; apply keeps_each; assumption); intro _ _ _
  with_reducible (apply keeps_backOnline; assumption)

theorem keeps_readUnit {s0 s : State} {a1 a2 a3} (h : s0.Keeps s) : s0.Keeps (State.readUnit s a1 a2 a3) := by
  unfold State.readUnit
  dsimp only; split; with_reducible (apply keeps_channelLost; apply keeps_readUnitOnly; assumption; apply keeps_readUnitOnly; assumption)

theorem keeps_readRange {s0 s : State} {a1 a2 a3} (h : s0.Keeps s) : s0.Keeps (State.readRange s a1 a2 a3) := by
  unfold State.readRange
  with_reducible (apply keeps_each; assumption); intro _ _ _; split; split
  with_reducible (apply keeps_enqueue; apply keeps_meterU; assumption; apply keeps_readUnit; apply keeps_meterU; assumption; assumption)

end Sys2Proof.Machine
end

