-- ==== Sys2Proof/Laws/KeepsSheaf.lean ====
section
/-! SUPPORT. What the definitions of Machine/Sheaf.lean keep (State.Keeps). -/

set_option Elab.async false

namespace Sys2Proof.Machine

theorem keeps_setRx {s0 s : State} {a1 a2} (h : s0.Keeps s) : s0.Keeps (State.setRx s a1 a2) := by
  unfold State.setRx
  with_reducible (apply keeps_mk; assumption)

theorem keeps_modRx {s0 s : State} {a1 a2} (h : s0.Keeps s) : s0.Keeps (State.modRx s a1 a2) := by
  unfold State.modRx
  with_reducible (apply keeps_setRx; assumption)

theorem keeps_setTx {s0 s : State} {a1 a2} (h : s0.Keeps s) : s0.Keeps (State.setTx s a1 a2) := by
  unfold State.setTx
  with_reducible (apply keeps_mk; assumption)

theorem keeps_setGroup {s0 s : State} {a1 a2} (h : s0.Keeps s) : s0.Keeps (State.setGroup s a1 a2) := by
  unfold State.setGroup
  with_reducible (apply keeps_mk; assumption)

theorem keeps_setStream {s0 s : State} {a1 a2} (h : s0.Keeps s) : s0.Keeps (State.setStream s a1 a2) := by
  unfold State.setStream
  with_reducible (apply keeps_setReg; apply keeps_mk; assumption)

theorem keeps_setLaneState {s0 s : State} {a1 a2} (h : s0.Keeps s) : s0.Keeps (State.setLaneState s a1 a2) := by
  unfold State.setLaneState
  dsimp only; with_reducible apply keeps_each; split
  with_reducible (apply keeps_setReg; assumption; apply keeps_setReg; apply keeps_setReg; assumption); intro _ _ _; split; split
  with_reducible (apply keeps_signalReturn; assumption; apply keeps_signalLoss; assumption; assumption)

theorem keeps_showLink {s0 s : State} {a1} (h : s0.Keeps s) : s0.Keeps (State.showLink s a1) := by
  unfold State.showLink
  with_reducible (apply keeps_setReg; assumption)

theorem keeps_sendFrames {s0 s : State} {a1 a2} (h : s0.Keeps s) : s0.Keeps (State.sendFrames s a1 a2) := by
  unfold State.sendFrames
  dsimp only; with_reducible (apply keeps_each; apply keeps_setTx; assumption); intro _ _ _; with_reducible (apply keeps_emit; assumption)

theorem keeps_sendItem {s0 s : State} {a1 a2} (h : s0.Keeps s) : s0.Keeps (State.sendItem s a1 a2) := by
  unfold State.sendItem
  with_reducible (apply keeps_sendFrames; assumption)

theorem keeps_drainLane {s0 s : State} {a1} (h : s0.Keeps s) : s0.Keeps (State.drainLane s a1) := by
  unfold State.drainLane
  dsimp only; with_reducible (apply keeps_each; apply keeps_setTx; assumption); intro _ _ _; with_reducible (apply keeps_emit; assumption)

theorem keeps_queueControl {s0 s : State} {a1 a2} (h : s0.Keeps s) : s0.Keeps (State.queueControl s a1 a2) := by
  unfold State.queueControl
  split; with_reducible (apply keeps_setTx; assumption; assumption)

theorem keeps_camSetsLost {s0 s : State} {a1} (h : s0.Keeps s) : s0.Keeps (State.camSetsLost s a1) := by
  unfold State.camSetsLost
  dsimp only; split; with_reducible (assumption; apply keeps_inc32; assumption)

theorem keeps_dropControl {s0 s : State} {a1} (h : s0.Keeps s) : s0.Keeps (State.dropControl s a1) := by
  unfold State.dropControl
  with_reducible (apply keeps_camSetsLost; apply keeps_setTx; assumption)

theorem keeps_fragmentSent {s0 s : State} {a1 a2} (h : s0.Keeps s) : s0.Keeps (State.fragmentSent s a1 a2) := by
  unfold State.fragmentSent
  split; with_reducible assumption; dsimp only; split
  with_reducible (apply keeps_setStream; apply keeps_inc64; assumption; apply keeps_whenB; apply keeps_whenB; apply keeps_mk)
  with_reducible (apply keeps_inc64; apply keeps_setStream; apply keeps_inc64; assumption); intro _ _
  with_reducible (apply keeps_inc64; assumption); intro _ _; with_reducible (apply keeps_inc64; assumption)

theorem keeps_sendPacket {s0 s : State} {a1 a2} (h : s0.Keeps s) : s0.Keeps (State.sendPacket s a1 a2) := by
  unfold State.sendPacket
  split; with_reducible assumption; dsimp only
  with_reducible (apply keeps_fragmentSent; apply keeps_sendItem; apply keeps_emit; apply keeps_setTx; apply keeps_setReg)
  with_reducible (apply keeps_setStream; assumption)

theorem keeps_sendControl {s0 s : State} {a1 a2} (h : s0.Keeps s) : s0.Keeps (State.sendControl s a1 a2) := by
  unfold State.sendControl
  with_reducible (apply keeps_sendItem; apply keeps_emit; assumption)

theorem keeps_itemTx {s0 s : State} {a1} (h : s0.Keeps s) : s0.Keeps (State.itemTx s a1) := by
  unfold State.itemTx
  split; with_reducible assumption; split; with_reducible assumption; split; dsimp only
  with_reducible (apply keeps_countE; apply keeps_inc64; apply keeps_sendControl; apply keeps_setTx; assumption); split; split
  with_reducible (apply keeps_countE; apply keeps_inc64; apply keeps_sendPacket; assumption; apply keeps_sendItem; assumption)
  with_reducible (apply keeps_sendItem; assumption)

theorem keeps_execItemTx {s0 s : State} {a0} (h : s0.Keeps s) : KeepsR s0 (execItemTx a0 s) := by
  unfold execItemTx
  with_reducible (apply keepsR_inst; apply keepsR_next; apply keeps_itemTx; assumption)

theorem keeps_streamPut {s0 s : State} {a1 a2} (h : s0.Keeps s) : s0.Keeps (State.streamPut s a1 a2) := by
  unfold State.streamPut
  split; with_reducible (assumption; apply keeps_setStream; assumption)

theorem keeps_execQlSend {s0 s : State} (h : s0.Keeps s) : KeepsR s0 (execQlSend s) := by
  unfold execQlSend
  dsimp only; with_reducible (apply keepsR_next; apply keeps_each; assumption); intro _ _ _; with_reducible (apply keeps_each; assumption)
  intro _ _ _; with_reducible (apply keeps_queueControl; assumption)

theorem keeps_sendRxMap {s0 s : State} {a1 a2} (h : s0.Keeps s) : s0.Keeps (State.sendRxMap s a1 a2) := by
  unfold State.sendRxMap
  dsimp only; with_reducible (apply keeps_queueControl; apply keeps_inc32; apply keeps_setGroup; assumption)

theorem keeps_sendTxMap {s0 s : State} {a1 a2 a3} (h : s0.Keeps s) : s0.Keeps (State.sendTxMap s a1 a2 a3) := by
  unfold State.sendTxMap
  dsimp only; with_reducible (apply keeps_each; apply keeps_queueControl; apply keeps_setGroup; apply keeps_showLink; apply keeps_setReg)
  with_reducible (apply keeps_setReg; assumption); intro _ _ _; with_reducible (apply keeps_faultDone; assumption)

theorem keeps_nextFailover {s0 s : State} {a1} (h : s0.Keeps s) : s0.Keeps (State.nextFailover s a1) := by
  unfold State.nextFailover
  split; with_reducible (apply keeps_setGroup; assumption); split
  with_reducible (apply keeps_sendTxMap; apply keeps_inc32; assumption; apply keeps_sendRxMap; assumption)

theorem keeps_endFailover {s0 s : State} {a1} (h : s0.Keeps s) : s0.Keeps (State.endFailover s a1) := by
  unfold State.endFailover
  dsimp only; with_reducible (apply keeps_each; apply keeps_setGroup; assumption); intro _ _ _
  with_reducible (apply keeps_faultDone; assumption)

theorem keeps_rxLaneFail {s0 s : State} {a1} (h : s0.Keeps s) : s0.Keeps (State.rxLaneFail s a1) := by
  unfold State.rxLaneFail
  split; with_reducible (apply keeps_setLaneState; assumption); split; with_reducible (apply keeps_setLaneState; assumption); dsimp only
  split; split; with_reducible (apply keeps_faultRecord; apply keeps_setLaneState; assumption); split
  with_reducible (apply keeps_setReg; apply keeps_faultRecord; apply keeps_setLaneState; assumption); split
  with_reducible (apply keeps_setReg; apply keeps_setReg; apply keeps_faultRecord; apply keeps_setLaneState; assumption); split
  with_reducible (apply keeps_sendRxMap; apply keeps_faultStart; apply keeps_setLaneState; assumption); split
  with_reducible (apply keeps_setTx; apply keeps_setGroup; apply keeps_faultStart; apply keeps_setLaneState; assumption)
  with_reducible (apply keeps_setGroup; apply keeps_faultStart; apply keeps_setLaneState; assumption); split
  with_reducible (apply keeps_faultRecord; apply keeps_setLaneState; assumption); split
  with_reducible (apply keeps_setReg; apply keeps_faultRecord; apply keeps_setLaneState; assumption); split
  with_reducible (apply keeps_setReg; apply keeps_setReg; apply keeps_faultRecord; apply keeps_setLaneState; assumption); split
  with_reducible (apply keeps_sendRxMap; apply keeps_faultStart; apply keeps_setLaneState; assumption); split
  with_reducible (apply keeps_setTx; apply keeps_setGroup; apply keeps_faultStart; apply keeps_setLaneState; assumption)
  with_reducible (apply keeps_setGroup; apply keeps_faultStart; apply keeps_setLaneState; assumption)

theorem keeps_execRxLaneFail {s0 s : State} {a0} (h : s0.Keeps s) : KeepsR s0 (execRxLaneFail a0 s) := by
  unfold execRxLaneFail
  with_reducible apply keepsR_inst; split; split
  with_reducible (apply keepsR_next; apply keeps_rxLaneFail; assumption; apply keepsR_next; assumption; apply keepsR_next; assumption)

theorem keeps_skipControl {s0 s : State} (h : s0.Keeps s) : s0.Keeps (State.skipControl s) := by
  unfold State.skipControl
  with_reducible (apply keeps_inc32; assumption)

theorem keeps_ackGroup {s0 s : State} {a1 a2 a3} (h : s0.Keeps s) : s0.Keeps (State.ackGroup s a1 a2 a3) := by
  unfold State.ackGroup
  split; with_reducible (apply keeps_nextFailover; assumption); dsimp only
  with_reducible (apply keeps_nextFailover; apply keeps_each; apply keeps_showLink; apply keeps_setReg; apply keeps_setReg; assumption)
  intro _ _ _; with_reducible (apply keeps_faultDone; assumption)

theorem keeps_laneAck {s0 s : State} {a1 a2 a3} (h : s0.Keeps s) : s0.Keeps (State.laneAck s a1 a2 a3) := by
  unfold State.laneAck
  dsimp only; split; split; with_reducible (apply keeps_ackGroup; assumption; assumption); split; split
  with_reducible (apply keeps_ackGroup; assumption; assumption; apply keeps_skipControl; assumption)

theorem keeps_execLaneAckRx {s0 s : State} {a0 a1 a2} (h : s0.Keeps s) : KeepsR s0 (execLaneAckRx a0 a1 a2 s) := by
  unfold execLaneAckRx
  with_reducible (apply keepsR_inst; apply keepsR_next; apply keeps_laneAck; assumption)

theorem keeps_execLaneMapRetry {s0 s : State} {a0} (h : s0.Keeps s) : KeepsR s0 (execLaneMapRetry a0 s) := by
  unfold execLaneMapRetry
  with_reducible apply keepsR_inst; dsimp only; split; with_reducible (apply keepsR_next; assumption); split
  with_reducible (apply keepsR_next; apply keeps_queueControl; apply keeps_setGroup; assumption; apply keepsR_next)
  with_reducible (apply keeps_nextFailover; apply keeps_each; apply keeps_setReg; apply keeps_setReg; apply keeps_setReg; assumption)
  intro _ _ _; with_reducible (apply keeps_faultDone; assumption)

theorem keeps_laneMap {s0 s : State} {a1 a2 a3} (h : s0.Keeps s) : s0.Keeps (State.laneMap s a1 a2 a3) := by
  unfold State.laneMap
  split; with_reducible (apply keeps_skipControl; assumption); dsimp only; with_reducible apply keeps_queueControl; split
  with_reducible (assumption; apply keeps_faultDone; apply keeps_showLink; apply keeps_inc32; apply keeps_setReg; apply keeps_setReg)
  with_reducible (apply keeps_faultStart; assumption)

theorem keeps_execLaneMapRx {s0 s : State} {a0 a1 a2} (h : s0.Keeps s) : KeepsR s0 (execLaneMapRx a0 a1 a2 s) := by
  unfold execLaneMapRx
  with_reducible (apply keepsR_inst; apply keepsR_next; apply keeps_laneMap; assumption)

theorem keeps_txLaneFail {s0 s : State} {a1} (h : s0.Keeps s) : s0.Keeps (State.txLaneFail s a1) := by
  unfold State.txLaneFail
  split; with_reducible assumption; dsimp only; split; split; split
  with_reducible (apply keeps_faultRecord; apply keeps_each; apply keeps_dropControl; apply keeps_setReg; assumption); intro _ _ _
  with_reducible (apply keeps_setTx; assumption); split
  with_reducible (apply keeps_sendTxMap; apply keeps_inc32; apply keeps_faultStart; apply keeps_each; apply keeps_dropControl)
  with_reducible (apply keeps_setReg; assumption); intro _ _ _; with_reducible (apply keeps_setTx; assumption); split
  with_reducible (apply keeps_sendTxMap; apply keeps_faultStart; apply keeps_each; apply keeps_dropControl; apply keeps_setReg)
  with_reducible assumption; intro _ _ _
  with_reducible (apply keeps_setTx; assumption; apply keeps_setGroup; apply keeps_faultStart; apply keeps_each; apply keeps_dropControl)
  with_reducible (apply keeps_setReg; assumption); intro _ _ _; with_reducible (apply keeps_setTx; assumption); split
  with_reducible (apply keeps_faultRecord; apply keeps_dropControl; apply keeps_setReg; assumption); split
  with_reducible (apply keeps_sendTxMap; apply keeps_inc32; apply keeps_faultStart; apply keeps_dropControl; apply keeps_setReg)
  with_reducible assumption; split
  with_reducible (apply keeps_sendTxMap; apply keeps_faultStart; apply keeps_dropControl; apply keeps_setReg; assumption)
  with_reducible (apply keeps_setGroup; apply keeps_faultStart; apply keeps_dropControl; apply keeps_setReg; assumption); split; split
  with_reducible (apply keeps_faultRecord; apply keeps_each; apply keeps_dropControl; apply keeps_setReg; assumption); intro _ _ _
  with_reducible (apply keeps_setTx; assumption); split
  with_reducible (apply keeps_sendTxMap; apply keeps_inc32; apply keeps_faultStart; apply keeps_each; apply keeps_dropControl)
  with_reducible (apply keeps_setReg; assumption); intro _ _ _; with_reducible (apply keeps_setTx; assumption); split
  with_reducible (apply keeps_sendTxMap; apply keeps_faultStart; apply keeps_each; apply keeps_dropControl; apply keeps_setReg)
  with_reducible assumption; intro _ _ _
  with_reducible (apply keeps_setTx; assumption; apply keeps_setGroup; apply keeps_faultStart; apply keeps_each; apply keeps_dropControl)
  with_reducible (apply keeps_setReg; assumption); intro _ _ _; with_reducible (apply keeps_setTx; assumption); split
  with_reducible (apply keeps_faultRecord; apply keeps_dropControl; apply keeps_setReg; assumption); split
  with_reducible (apply keeps_sendTxMap; apply keeps_inc32; apply keeps_faultStart; apply keeps_dropControl; apply keeps_setReg)
  with_reducible assumption; split
  with_reducible (apply keeps_sendTxMap; apply keeps_faultStart; apply keeps_dropControl; apply keeps_setReg; assumption)
  with_reducible (apply keeps_setGroup; apply keeps_faultStart; apply keeps_dropControl; apply keeps_setReg; assumption)

theorem keeps_execTxLaneFail {s0 s : State} {a0} (h : s0.Keeps s) : KeepsR s0 (execTxLaneFail a0 s) := by
  unfold execTxLaneFail
  with_reducible apply keepsR_inst; split; split; with_reducible (apply keepsR_next; assumption); split
  with_reducible (apply keepsR_next; apply keeps_txLaneFail; assumption; apply keepsR_next; apply keeps_dropControl; apply keeps_setReg)
  with_reducible (assumption; apply keepsR_next; assumption)

theorem keeps_execLaneLock {s0 s : State} {a0} (h : s0.Keeps s) : KeepsR s0 (execLaneLock a0 s) := by
  unfold execLaneLock
  with_reducible apply keepsR_inst; split
  with_reducible (apply keepsR_next; apply keeps_setLaneState; apply keeps_setRx; assumption; apply keepsR_next; assumption)

theorem keeps_execLaneLockTimeout {s0 s : State} {a0} (h : s0.Keeps s) : KeepsR s0 (execLaneLockTimeout a0 s) := by
  unfold execLaneLockTimeout
  with_reducible apply keepsR_inst; split
  with_reducible (apply keepsR_next; apply keeps_inc32; assumption; apply keepsR_next; assumption)

theorem keeps_clockLoss {s0 s : State} {a1} (h : s0.Keeps s) : s0.Keeps (State.clockLoss s a1) := by
  unfold State.clockLoss
  split; split; split
  with_reducible (apply keeps_rxLaneFail; assumption; apply keeps_setLaneState; assumption; apply keeps_setLaneState; assumption)
  with_reducible assumption

theorem keeps_execClockRecoveryLoss {s0 s : State} {a0} (h : s0.Keeps s) : KeepsR s0 (execClockRecoveryLoss a0 s) := by
  unfold execClockRecoveryLoss
  with_reducible (apply keepsR_inst; apply keepsR_next; apply keeps_clockLoss; assumption)

theorem keeps_laneError {s0 s : State} {a1 a2} (h : s0.Keeps s) : s0.Keeps (State.laneError s a1 a2) := by
  unfold State.laneError
  with_reducible (apply keeps_countE; apply keeps_inc32; assumption)

theorem keeps_itemError {s0 s : State} {a1} (h : s0.Keeps s) : s0.Keeps (State.itemError s a1) := by
  unfold State.itemError
  with_reducible (apply keeps_modRx; assumption)

theorem keeps_forgetSeqs {s0 s : State} {a1 a2} (h : s0.Keeps s) : s0.Keeps (State.forgetSeqs s a1 a2) := by
  unfold State.forgetSeqs
  with_reducible (apply keeps_mk; assumption)

theorem keeps_dataItem {s0 s : State} {a1 a2 a3 a4} (h : s0.Keeps s) : s0.Keeps (State.dataItem s a1 a2 a3 a4) := by
  unfold State.dataItem
  dsimp only; split; with_reducible (apply keeps_inc32; assumption); split; with_reducible apply keeps_mk; split
  with_reducible (assumption; apply keeps_inc32; assumption; apply keeps_mk); split
  with_reducible (assumption; apply keeps_inc32; assumption)

theorem keeps_qlRx {s0 s : State} {a1 a2} (h : s0.Keeps s) : s0.Keeps (State.qlRx s a1 a2) := by
  unfold State.qlRx
  with_reducible (apply keeps_each; assumption); intro _ _ _; split; with_reducible (apply keeps_qlMessage; assumption; assumption)

theorem keeps_creditRx {s0 s : State} {a1 a2 a3} (h : s0.Keeps s) : s0.Keeps (State.creditRx s a1 a2 a3) := by
  unfold State.creditRx
  dsimp only; split; with_reducible (apply keeps_setStream; assumption; apply keeps_skipControl; assumption)

theorem keeps_controlRx {s0 s : State} {a1 a2} (h : s0.Keeps s) : s0.Keeps (State.controlRx s a1 a2) := by
  unfold State.controlRx
  split
  with_reducible (apply keeps_qlRx; assumption; apply keeps_creditRx; assumption; apply keeps_laneMap; assumption; apply keeps_laneAck)
  with_reducible (assumption; apply keeps_skipControl; assumption)

theorem keeps_loseBoundary {s0 s : State} {a1} (h : s0.Keeps s) : s0.Keeps (State.loseBoundary s a1) := by
  unfold State.loseBoundary
  with_reducible (apply keeps_modRx; assumption)

theorem keeps_pointerError {s0 s : State} {a1} (h : s0.Keeps s) : s0.Keeps (State.pointerError s a1) := by
  unfold State.pointerError
  with_reducible (apply keeps_loseBoundary; apply keeps_laneError; assumption)

theorem keeps_headerError {s0 s : State} {a1 a2} (h : s0.Keeps s) : s0.Keeps (State.headerError s a1 a2) := by
  unfold State.headerError
  dsimp only; with_reducible (apply keeps_loseBoundary; apply keeps_itemError); split
  with_reducible (apply keeps_laneError; assumption; apply keeps_countE; apply keeps_inc32; assumption)

theorem keeps_itemCheck {s0 s : State} {a1 a2} (h : s0.Keeps s) : KeepsF s0 (State.itemCheck s a1 a2) := by
  unfold State.itemCheck
  split; with_reducible (apply keepsF_mk; apply keeps_headerError; assumption); dsimp only; split
  with_reducible (apply keepsF_mk; assumption); split; with_reducible (apply keepsF_mk; apply keeps_countE; apply keeps_inc32; assumption)
  split; with_reducible (apply keepsF_mk; apply keeps_itemError; apply keeps_laneError; assumption; apply keepsF_mk; assumption)

theorem keeps_deliverItem {s0 s : State} {a1 a2 a3} (h : s0.Keeps s) : s0.Keeps (State.deliverItem s a1 a2 a3) := by
  unfold State.deliverItem
  split; with_reducible (apply keeps_controlRx; assumption; apply keeps_dataItem; assumption)

theorem keeps_itemIn {s0 s : State} {a1 a2 a3} (h : s0.Keeps s) : s0.Keeps (State.itemIn s a1 a2 a3) := by
  unfold State.itemIn
  split; with_reducible (apply keeps_deliverItem; apply keeps_of_pairF (by assumption); apply keeps_itemCheck; assumption)
  with_reducible (apply keeps_of_pairF (by assumption); apply keeps_itemCheck; assumption)

theorem keeps_checkErrors {s0 s : State} {a1} (h : s0.Keeps s) : s0.Keeps (State.checkErrors s a1) := by
  unfold State.checkErrors
  dsimp only; split; split; split; with_reducible (apply keeps_rxLaneFail; assumption; assumption; assumption; assumption)

theorem keeps_lastItem {s0 s : State} {a1 a2} (h : s0.Keeps s) : s0.Keeps (State.lastItem s a1 a2) := by
  unfold State.lastItem
  split; with_reducible (assumption; apply keeps_modRx; assumption)

theorem keeps_execItemRx {s0 s : State} {a0 a1} (h : s0.Keeps s) : KeepsR s0 (execItemRx a0 a1 s) := by
  unfold execItemRx
  with_reducible apply keepsR_inst; split
  with_reducible (apply keepsR_next; apply keeps_lastItem; apply keeps_checkErrors; apply keeps_itemIn; assumption; apply keepsR_next)
  with_reducible assumption

theorem keeps_execQlRx {s0 s : State} {a0 a1} (h : s0.Keeps s) : KeepsR s0 (execQlRx a0 a1 s) := by
  unfold execQlRx
  with_reducible (apply keepsR_inst; apply keepsR_next; apply keeps_qlRx; assumption)

theorem keeps_execCreditRx {s0 s : State} {a0 a1 a2} (h : s0.Keeps s) : KeepsR s0 (execCreditRx a0 a1 a2 s) := by
  unfold execCreditRx
  with_reducible (apply keepsR_inst; apply keepsR_next; apply keeps_creditRx; assumption)

theorem keeps_FrameScan_item  {s0 : State} {lane : Nat} {f : FrameScan} {i : Item} (h : s0.Keeps f.st) : s0.Keeps ((FrameScan.item lane f i).st) := by
  unfold FrameScan.item
  dsimp only; with_reducible (apply keeps_fst; apply keeps_itemCheck; assumption)

theorem keeps_FrameScan_bit  {s0 : State} {lane : Nat} {f : FrameScan} {b : Bool} (h : s0.Keeps f.st) : s0.Keeps ((FrameScan.bit lane f b).st) := by
  unfold FrameScan.bit
  extract_lets x boundary clash s1 x1 start x2 seen x3 s2 f2 t
  have k : s0.Keeps s1 := by
    simp only [s1]
    split; with_reducible (apply keeps_pointerError; assumption; assumption)
  clear_value s1
  have k2 : s0.Keeps s2 := by
    simp only [s2]
    with_reducible (apply keeps_setRx; assumption)
  have k3 : s0.Keeps f2.st := k2
  clear_value f2 s2
  split; dsimp only; with_reducible (apply keeps_setRx; assumption); split; split; dsimp only
  with_reducible (apply keeps_headerError; assumption); dsimp only; with_reducible (apply keeps_setRx; assumption); split
  with_reducible apply keeps_FrameScan_item; dsimp only; with_reducible (apply keeps_setRx; assumption; assumption)

theorem keeps_frameBody  {s0 s : State} {lane body : Nat} {last : Bool} (h : s0.Keeps s) : KeepsF s0 (State.frameBody s lane body last) := by
  have fold (l : List Bool) (f : FrameScan) (k : s0.Keeps f.st) : s0.Keeps ((l.foldl (FrameScan.bit lane) f).st) := by
    induction l generalizing f with
    | nil => exact k
    | cons b l ih =>
      apply ih
      with_reducible (apply keeps_FrameScan_bit; assumption)
  unfold State.frameBody
  apply keepsF_mk
  apply fold
  dsimp only; split; with_reducible apply keeps_pointerError; split
  with_reducible (assumption; apply keeps_countE; apply keeps_inc32; assumption); split
  with_reducible (assumption; apply keeps_countE; apply keeps_inc32; assumption)

theorem keeps_flushDesk {s0 s : State} {a1} (h : s0.Keeps s) : s0.Keeps (State.flushDesk s a1) := by
  unfold State.flushDesk
  dsimp only; with_reducible (apply keeps_each; apply keeps_setGroup; assumption); intro _ _ _
  with_reducible (apply keeps_each; assumption); intro _ _ _; with_reducible (apply keeps_deliverItem; assumption)

theorem keeps_deskFrame {s0 s : State} {a1 a2 a3} (h : s0.Keeps s) : s0.Keeps (State.deskFrame s a1 a2 a3) := by
  unfold State.deskFrame
  dsimp only; split; split
  with_reducible (apply keeps_flushDesk; apply keeps_setGroup; apply keeps_flushDesk; assumption; apply keeps_setGroup)
  with_reducible (apply keeps_flushDesk; assumption); split
  with_reducible (apply keeps_flushDesk; apply keeps_setGroup; assumption; apply keeps_setGroup; assumption)

theorem keeps_lockedShows {s0 s : State} {a1} (h : s0.Keeps s) : s0.Keeps (State.lockedShows s a1) := by
  unfold State.lockedShows
  split; split; with_reducible (apply keeps_showLink; assumption; assumption; assumption)

theorem keeps_searchFrame {s0 s : State} {a1 a2} (h : s0.Keeps s) : s0.Keeps (State.searchFrame s a1 a2) := by
  unfold State.searchFrame
  split; split
  with_reducible (apply keeps_lockedShows; apply keeps_setLaneState; apply keeps_setRx; assumption; apply keeps_modRx; assumption)
  with_reducible (apply keeps_modRx; assumption)

theorem keeps_syncCheck {s0 s : State} {a1 a2} (h : s0.Keeps s) : s0.Keeps (State.syncCheck s a1 a2) := by
  unfold State.syncCheck
  split; with_reducible (apply keeps_modRx; assumption); dsimp only; split; split; split
  with_reducible (apply keeps_rxLaneFail; apply keeps_modRx; apply keeps_laneError; assumption; apply keeps_setLaneState)
  with_reducible (apply keeps_setRx; apply keeps_modRx; apply keeps_laneError; assumption; apply keeps_setLaneState; apply keeps_setRx)
  with_reducible (apply keeps_modRx; apply keeps_laneError; assumption; apply keeps_modRx; apply keeps_laneError; assumption)

theorem keeps_skewCheck {s0 s : State} {a1 a2} (h : s0.Keeps s) : s0.Keeps (State.skewCheck s a1 a2) := by
  unfold State.skewCheck
  dsimp only; split; split; split
  with_reducible (apply keeps_rxLaneFail; apply keeps_setReg; assumption; apply keeps_setLaneState; apply keeps_setReg; assumption)
  with_reducible (apply keeps_setReg; assumption; apply keeps_setReg; assumption)

theorem keeps_lockedFrame {s0 s : State} {a1 a2 a3} (h : s0.Keeps s) : s0.Keeps (State.lockedFrame s a1 a2 a3) := by
  unfold State.lockedFrame
  dsimp only; split; split
  with_reducible (apply keeps_deskFrame; apply keeps_modRx; apply keeps_loseBoundary; apply keeps_laneError; apply keeps_modRx)
  with_reducible (assumption; apply keeps_modRx; apply keeps_loseBoundary; apply keeps_laneError; apply keeps_modRx; assumption); split
  split; with_reducible (apply keeps_lastItem; apply keeps_checkErrors; apply keeps_deskFrame; apply keeps_fst; apply keeps_frameBody)
  with_reducible (apply keeps_modRx; apply keeps_modRx; assumption; apply keeps_checkErrors; apply keeps_deskFrame; apply keeps_fst)
  with_reducible (apply keeps_frameBody; apply keeps_modRx; apply keeps_modRx; assumption; apply keeps_modRx; apply keeps_modRx)
  with_reducible assumption

theorem keeps_execSheafFrameRx {s0 s : State} {a0 a1 a2 a3} (h : s0.Keeps s) : KeepsR s0 (execSheafFrameRx a0 a1 a2 a3 s) := by
  unfold execSheafFrameRx
  with_reducible apply keepsR_inst; dsimp only; split; split; split
  with_reducible (apply keepsR_next; apply keeps_lockedFrame; apply keeps_skewCheck; apply keeps_searchFrame; assumption)
  with_reducible (apply keepsR_next; apply keeps_skewCheck; apply keeps_searchFrame; assumption; apply keepsR_next)
  with_reducible (apply keeps_searchFrame; assumption); split; split; split
  with_reducible (apply keepsR_next; apply keeps_lockedFrame; apply keeps_skewCheck; apply keeps_syncCheck; assumption)
  with_reducible (apply keepsR_next; apply keeps_skewCheck; apply keeps_syncCheck; assumption; apply keepsR_next; apply keeps_syncCheck)
  with_reducible (assumption; apply keepsR_next; assumption)

theorem keeps_groupEnabling {s0 s : State} {a1} (h : s0.Keeps s) : s0.Keeps (State.groupEnabling s a1) := by
  unfold State.groupEnabling
  dsimp only; with_reducible (apply keeps_each; apply keeps_setGroup; apply keeps_setReg; apply keeps_setReg; assumption); intro _ _ _
  split; split; with_reducible (assumption; apply keeps_setTx; apply keeps_setReg; assumption); split
  with_reducible (assumption; apply keeps_setLaneState; apply keeps_setRx; assumption)

theorem keeps_groupDisabling {s0 s : State} {a1} (h : s0.Keeps s) : s0.Keeps (State.groupDisabling s a1) := by
  unfold State.groupDisabling
  dsimp only; split; with_reducible (apply keeps_each; apply keeps_endFailover; assumption); intro _ _ _; split
  with_reducible (apply keeps_drainLane; apply keeps_dropControl; assumption; assumption); split
  with_reducible (apply keeps_endFailover; assumption; apply keeps_flushDesk; apply keeps_endFailover; assumption)

theorem keeps_groupOn {s0 s : State} {a1} (h : s0.Keeps s) : s0.Keeps (State.groupOn s a1) := by
  unfold State.groupOn
  dsimp only; split
  with_reducible (apply keeps_each; apply keeps_each; apply keeps_setReg; apply keeps_setGroup; apply keeps_setReg; apply keeps_setReg)
  with_reducible (apply keeps_setReg; assumption); intro _ _ _; with_reducible (apply keeps_txLaneFail; apply keeps_setReg; assumption)
  intro _ _ _
  with_reducible (apply keeps_setStream; assumption; apply keeps_each; apply keeps_setReg; apply keeps_mk; apply keeps_setGroup)
  with_reducible (apply keeps_setReg; apply keeps_setReg; apply keeps_setReg; assumption); intro _ _ _
  with_reducible (apply keeps_rxLaneFail; apply keeps_setReg; assumption)

theorem keeps_execGroupOn {s0 s : State} {a0} (h : s0.Keeps s) : KeepsR s0 (execGroupOn a0 s) := by
  unfold execGroupOn
  with_reducible apply keepsR_inst; split
  with_reducible (apply keepsR_next; apply keeps_groupOn; assumption; apply keepsR_next; assumption)

theorem keeps_groupOff {s0 s : State} {a1} (h : s0.Keeps s) : s0.Keeps (State.groupOff s a1) := by
  unfold State.groupOff
  dsimp only
  with_reducible (apply keeps_each; apply keeps_setGroup; apply keeps_setReg; apply keeps_setReg; apply keeps_setReg; assumption)
  intro _ _ _; split; split; with_reducible (assumption; apply keeps_setTx; apply keeps_setReg; assumption); split
  with_reducible (assumption; apply keeps_setLaneState; assumption)

theorem keeps_prbsRx {s0 s : State} {a1 a2} (h : s0.Keeps s) : s0.Keeps (State.prbsRx s a1 a2) := by
  unfold State.prbsRx
  split; dsimp only; with_reducible apply keeps_regBit; split
  with_reducible (apply keeps_modRx; assumption; apply keeps_inc32; apply keeps_modRx; assumption)

theorem keeps_execPrbsReceive {s0 s : State} {a0 a1} (h : s0.Keeps s) : KeepsR s0 (execPrbsReceive a0 a1 s) := by
  unfold execPrbsReceive
  with_reducible apply keepsR_inst; split
  with_reducible (apply keepsR_next; apply keeps_prbsRx; assumption; apply keepsR_next; assumption)

theorem keeps_cmdPrbsInject {s0 s : State} (h : s0.Keeps s) : KeepsV s0 (cmdPrbsInject s) := by
  unfold cmdPrbsInject
  with_reducible (apply keepsV_ok; apply keeps_each; assumption); intro _ _ _; with_reducible (apply keeps_setTx; assumption)

theorem keeps_prbsTx {s0 s : State} {a1} (h : s0.Keeps s) : s0.Keeps (State.prbsTx s a1) := by
  unfold State.prbsTx
  dsimp only; with_reducible (apply keeps_emit; apply keeps_setTx; assumption)

theorem keeps_cmdSheafClear {s0 s : State} (h : s0.Keeps s) : KeepsV s0 (cmdSheafClear s) := by
  unfold cmdSheafClear
  with_reducible (apply keepsV_ok; apply keeps_regs; assumption); exact sorted_filter _

theorem keeps_discardReady {s0 s : State} {a1} (h : s0.Keeps s) : s0.Keeps (State.discardReady s a1) := by
  unfold State.discardReady
  dsimp only; split; with_reducible (apply keeps_inc64; apply keeps_mk; apply keeps_setStream; apply keeps_whenB; assumption); intro _ _
  with_reducible (apply keeps_inc32; assumption; apply keeps_setStream; apply keeps_whenB; assumption); intro _ _
  with_reducible (apply keeps_inc32; assumption)

theorem keeps_sheafAfter {s0 s : State} {a1 a2 a3} (h : s0.Keeps s) : s0.Keeps (sheafAfter s a1 a2 a3) := by
  unfold sheafAfter
  dsimp only; split; with_reducible (apply keeps_each; assumption); intro _ _ _; split
  with_reducible (apply keeps_setLaneState; apply keeps_setRx; assumption; apply keeps_regBit; apply keeps_setLaneState; assumption)
  split; with_reducible (apply keeps_each; assumption); intro _ _ _; with_reducible (apply keeps_setTx; apply keeps_setReg; assumption)
  split; with_reducible apply keeps_setStream; split; with_reducible (apply keeps_discardReady; assumption; assumption; assumption)

end Sys2Proof.Machine
end

