-- ==== Sys2Proof/Laws/KeepsWinnow.lean ====
section
/-! SUPPORT. What the definitions of Machine/Winnow.lean keep (State.Keeps). -/

set_option Elab.async false

namespace Sys2Proof.Machine

theorem keeps_modWin {s0 s : State} {a1 a2} (h : s0.Keeps s) : s0.Keeps (State.modWin s a1 a2) := by
  unfold State.modWin
  with_reducible (apply keeps_mk; assumption)

theorem keeps_modScaler {s0 s : State} {a1 a2} (h : s0.Keeps s) : s0.Keeps (State.modScaler s a1 a2) := by
  unfold State.modScaler
  with_reducible (apply keeps_mk; assumption)

theorem keeps_takeChannel {s0 s : State} {a1 a2} (h : s0.Keeps s) : s0.Keeps (State.takeChannel s a1 a2) := by
  unfold State.takeChannel
  with_reducible (apply keeps_modWin; apply keeps_setReg; assumption)

theorem keeps_leaveChannel {s0 s : State} {a1} (h : s0.Keeps s) : s0.Keeps (State.leaveChannel s a1) := by
  unfold State.leaveChannel
  with_reducible (apply keeps_setReg; assumption)

theorem keeps_winPush {s0 s : State} {a1 a2} (h : s0.Keeps s) : s0.Keeps (State.winPush s a1 a2) := by
  unfold State.winPush
  split; with_reducible (apply keeps_inc32; assumption); split
  with_reducible (apply keeps_inc32; apply keeps_modWin; assumption; apply keeps_modWin; assumption)

theorem keeps_winStep {s0 s : State} {a1} (h : s0.Keeps s) : s0.Keeps (State.winStep s a1) := by
  unfold State.winStep
  split; with_reducible assumption; dsimp only; split
  with_reducible (apply keeps_mk; apply keeps_whenB; apply keeps_inc64; apply keeps_modWin; assumption); intro _ _
  with_reducible (apply keeps_inc32; assumption; apply keeps_modWin; assumption)

theorem keeps_groupLine {s0 s : State} {a1 a2 a3} (h : s0.Keeps s) : s0.Keeps (State.groupLine s a1 a2 a3) := by
  unfold State.groupLine
  dsimp only; split; with_reducible (apply keeps_modScaler; assumption); split
  with_reducible (apply keeps_inc32; apply keeps_modScaler; assumption; apply keeps_modScaler; assumption)

theorem keeps_scalerLine {s0 s : State} {a1 a2} (h : s0.Keeps s) : s0.Keeps (State.scalerLine s a1 a2) := by
  unfold State.scalerLine
  dsimp only; split; split; split; split; with_reducible apply keeps_modScaler; split
  with_reducible (apply keeps_modScaler; apply keeps_modScaler; apply keeps_setReg; assumption; apply keeps_modScaler)
  with_reducible (apply keeps_setReg; assumption); split; with_reducible apply keeps_modScaler; split
  with_reducible (apply keeps_modScaler; apply keeps_modScaler; apply keeps_setReg; assumption; apply keeps_modScaler)
  with_reducible (apply keeps_setReg; assumption; apply keeps_groupLine; apply keeps_inc32); split
  with_reducible (apply keeps_modScaler; apply keeps_modScaler; apply keeps_setReg; assumption; apply keeps_modScaler)
  with_reducible (apply keeps_setReg; assumption; apply keeps_modScaler; apply keeps_setReg; assumption); split; split
  with_reducible apply keeps_modScaler; split
  with_reducible (apply keeps_modScaler; apply keeps_modScaler; assumption; apply keeps_modScaler; assumption); split
  with_reducible apply keeps_modScaler; split
  with_reducible (apply keeps_modScaler; apply keeps_modScaler; assumption; apply keeps_modScaler; assumption; apply keeps_groupLine)
  with_reducible apply keeps_inc32; split
  with_reducible (apply keeps_modScaler; apply keeps_modScaler; assumption; apply keeps_modScaler; assumption; apply keeps_modScaler)
  with_reducible assumption; split; split; split; with_reducible apply keeps_modScaler; split
  with_reducible (apply keeps_modScaler; apply keeps_setReg; assumption; apply keeps_setReg; assumption); split
  with_reducible apply keeps_modScaler; split
  with_reducible (apply keeps_modScaler; apply keeps_setReg; assumption; apply keeps_setReg; assumption; apply keeps_groupLine)
  with_reducible apply keeps_inc32; split
  with_reducible (apply keeps_modScaler; apply keeps_setReg; assumption; apply keeps_setReg; assumption; apply keeps_setReg; assumption)
  split; split; with_reducible apply keeps_modScaler; split; with_reducible (apply keeps_modScaler; assumption; assumption); split
  with_reducible apply keeps_modScaler; split
  with_reducible (apply keeps_modScaler; assumption; assumption; apply keeps_groupLine; apply keeps_inc32); split
  with_reducible (apply keeps_modScaler; assumption; assumption; assumption)

theorem keeps_scalerService {s0 s : State} {a1} (h : s0.Keeps s) : s0.Keeps (State.scalerService s a1) := by
  unfold State.scalerService
  dsimp only; split; with_reducible assumption; split
  with_reducible (apply keeps_modScaler; assumption; apply keeps_groupLine; apply keeps_modScaler; assumption)

theorem keeps_repeatN {s0 : State} {f : State → State} {n : Nat} {s : State} (h : s0.Keeps s) (hf : ∀ t, s0.Keeps t → s0.Keeps (f t)) :
    s0.Keeps (State.repeatN f n s) := by
  induction n generalizing s with
  | zero => exact h
  | succ n ih => exact ih (hf s h)

theorem keeps_execWinnowService {s0 s : State} (h : s0.Keeps s) : KeepsR s0 (execWinnowService s) := by
  unfold execWinnowService
  split; dsimp only; with_reducible apply keepsR_next; split
  with_reducible (apply keeps_repeatN; apply keeps_setReg; apply keeps_mk; assumption); intro _ _
  with_reducible (apply keeps_winStep; assumption); split
  with_reducible (apply keeps_scalerService; apply keeps_setReg; apply keeps_mk; assumption; apply keeps_setReg; apply keeps_mk)
  with_reducible (assumption; apply keepsR_next; assumption)

theorem keeps_execScalerGroupSend {s0 s : State} {a0} (h : s0.Keeps s) : KeepsR s0 (execScalerGroupSend a0 s) := by
  unfold execScalerGroupSend
  dsimp only; with_reducible apply keepsR_inst; split; with_reducible (apply keepsR_next; assumption); split
  with_reducible (apply keepsR_next; assumption; apply keepsR_next; apply keeps_inc64; apply keeps_each; apply keeps_modScaler)
  with_reducible assumption; intro _ _ _; with_reducible (apply keeps_streamPut; assumption)

theorem keeps_winnowTurnsOn {s0 s : State} (h : s0.Keeps s) : s0.Keeps (State.winnowTurnsOn s) := by
  unfold State.winnowTurnsOn
  dsimp only; with_reducible (apply keeps_setReg; apply keeps_mk; assumption)

theorem keeps_winnowTurnsOff {s0 s : State} (h : s0.Keeps s) : s0.Keeps (State.winnowTurnsOff s) := by
  unfold State.winnowTurnsOff
  with_reducible (apply keeps_mk; assumption)

theorem keeps_scalerEnabling {s0 s : State} {a1} (h : s0.Keeps s) : s0.Keeps (State.scalerEnabling s a1) := by
  unfold State.scalerEnabling
  with_reducible (apply keeps_modScaler; apply keeps_each; assumption); intro _ _ _; with_reducible (apply keeps_takeChannel; assumption)

theorem keeps_scalerTurnsOff {s0 s : State} {a1} (h : s0.Keeps s) : s0.Keeps (State.scalerTurnsOff s a1) := by
  unfold State.scalerTurnsOff
  with_reducible (apply keeps_modScaler; apply keeps_each; assumption); intro _ _ _; with_reducible (apply keeps_leaveChannel; assumption)

end Sys2Proof.Machine
end

