-- ==== Sys2Proof/Laws/KeepsCamera.lean ====
section
/-! SUPPORT. What the definitions of Machine/Camera.lean keep (State.Keeps). -/

set_option Elab.async false

namespace Sys2Proof.Machine

theorem keeps_modFront {s0 s : State} {a1} (h : s0.Keeps s) : s0.Keeps (State.modFront s a1) := by
  unfold State.modFront
  with_reducible (apply keeps_mk; assumption)

theorem keeps_modCam {s0 s : State} {a1 a2} (h : s0.Keeps s) : s0.Keeps (State.modCam s a1 a2) := by
  unfold State.modCam
  with_reducible (apply keeps_modFront; assumption)

theorem keeps_bridgeOffset {s0 s : State} {a1 a2 a3} (h : s0.Keeps s) : s0.Keeps (State.bridgeOffset s a1 a2 a3) := by
  unfold State.bridgeOffset
  dsimp only; with_reducible (apply keeps_setReg; apply keeps_setReg); split; with_reducible (apply keeps_inc32; assumption; assumption)

theorem keeps_takePixels {s0 s : State} {a1 a2 a3 a4 a5 a6 a7} (h : s0.Keeps s) : s0.Keeps (State.takePixels s a1 a2 a3 a4 a5 a6 a7) := by
  unfold State.takePixels
  dsimp only; with_reducible (apply keeps_modFront; apply keeps_modCam; assumption)

theorem keeps_pixelPacket {s0 s : State} {a1} (h : s0.Keeps s) : s0.Keeps (State.pixelPacket s a1) := by
  unfold State.pixelPacket
  dsimp only; split; with_reducible (apply keeps_inc32; assumption); split; with_reducible (apply keeps_inc32; assumption); split
  with_reducible (apply keeps_inc32; assumption); split; with_reducible (apply keeps_inc32; assumption); split; split
  with_reducible (apply keeps_inc32; assumption); split
  with_reducible (apply keeps_inc32; apply keeps_setReg; apply keeps_bridgeOffset; assumption; apply keeps_takePixels)
  with_reducible (apply keeps_setReg; apply keeps_bridgeOffset; assumption); split; with_reducible (apply keeps_inc32; assumption); split
  with_reducible (apply keeps_inc32; apply keeps_setReg; apply keeps_bridgeOffset; assumption; apply keeps_takePixels)
  with_reducible (apply keeps_setReg; apply keeps_bridgeOffset; assumption)

theorem keeps_stageATurn {s0 s : State} (h : s0.Keeps s) : s0.Keeps (State.stageATurn s) := by
  unfold State.stageATurn
  split; with_reducible (apply keeps_modFront; assumption; assumption)

theorem keeps_execPixelPacketRx {s0 s : State} (h : s0.Keeps s) : KeepsR s0 (execPixelPacketRx s) := by
  unfold execPixelPacketRx
  with_reducible (apply keepsR_next; apply keeps_stageATurn; apply keeps_each; apply keeps_mk; assumption); intro _ _ _
  with_reducible (apply keeps_pixelPacket; assumption)

theorem keeps_sendStats {s0 s : State} {a1 a2} (h : s0.Keeps s) : s0.Keeps (State.sendStats s a1 a2) := by
  unfold State.sendStats
  split; with_reducible assumption; split; with_reducible (apply keeps_inc32; assumption); dsimp only
  with_reducible (apply keeps_modFront; apply keeps_streamPut; assumption)

theorem keeps_statsLate {s0 s : State} {a1} (h : s0.Keeps s) : s0.Keeps (State.statsLate s a1) := by
  unfold State.statsLate
  dsimp only; with_reducible (apply keeps_modFront; apply keeps_each; assumption); intro _ _ _; split
  with_reducible (apply keeps_inc32; apply keeps_setStream; assumption; assumption)

theorem keeps_formStats {s0 s : State} {a1 a2} (h : s0.Keeps s) : s0.Keeps (State.formStats s a1 a2) := by
  unfold State.formStats
  dsimp only; with_reducible (apply keeps_fire; apply keeps_sendStats); split; split
  with_reducible (apply keeps_store; apply keeps_setReg; apply keeps_snd; apply keeps_draw; assumption; apply keeps_setReg)
  with_reducible (apply keeps_snd; apply keeps_draw; assumption); split
  with_reducible (apply keeps_store; apply keeps_setReg; assumption; apply keeps_setReg; assumption)

theorem keeps_execStatsRecordFormed {s0 s : State} {a0} (h : s0.Keeps s) : KeepsR s0 (execStatsRecordFormed a0 s) := by
  unfold execStatsRecordFormed
  with_reducible apply keepsR_inst; split; split
  with_reducible (apply keepsR_next; apply keeps_formStats; apply keeps_modCam; assumption; apply keepsR_next; assumption)
  with_reducible (apply keepsR_next; assumption)

theorem keeps_stageB  {s0 s : State} {c : Nat} (h : s0.Keeps s) : s0.Keeps ((State.stageB s c).s) := by
  unfold State.stageB
  extract_lets x l f ms rows planes filled isMissing mism split info i acc last old s1 replaced s2 s3 s4
  have k : s0.Keeps s2 := by
    simp only [s2, s1]
    with_reducible (apply keeps_inc64; apply keeps_inc64; apply keeps_modCam; assumption)
  clear_value s2
  have k3 : s0.Keeps s3 := by
    simp only [s3]
    split; with_reducible (apply keeps_inc32; assumption); split; with_reducible (apply keeps_inc32; assumption; assumption)
  clear_value s3
  show s0.Keeps s4
  simp only [s4]
  split; with_reducible (apply keeps_inc32; assumption; assumption)

theorem keeps_camSet {s0 s : State} {a1 a2 a3 a4} (h : s0.Keeps s) : s0.Keeps (State.camSet s a1 a2 a3 a4) := by
  unfold State.camSet
  dsimp only; split; split; with_reducible (apply keeps_queueControl; assumption; apply keeps_inc32; assumption); split
  with_reducible (apply keeps_queueControl; assumption; apply keeps_inc32; assumption)

theorem keeps_sendSettings {s0 s : State} {a1 a2 a3 a4} (h : s0.Keeps s) : s0.Keeps (State.sendSettings s a1 a2 a3 a4) := by
  unfold State.sendSettings
  dsimp only; with_reducible (apply keeps_camSet; apply keeps_each; assumption); intro _ _ _
  with_reducible (apply keeps_camSet; assumption)

theorem keeps_settingsLive {s0 s : State} {a1} (h : s0.Keeps s) : s0.Keeps (State.settingsLive s a1) := by
  unfold State.settingsLive
  split; with_reducible assumption; dsimp only; split
  with_reducible (apply keeps_modFront; apply keeps_setReg; assumption; apply keeps_setReg; assumption)

theorem keeps_settingsBoundary {s0 s : State} {a1} (h : s0.Keeps s) : s0.Keeps (State.settingsBoundary s a1) := by
  unfold State.settingsBoundary
  split; with_reducible assumption; dsimp only; with_reducible (apply keeps_modFront; apply keeps_each; assumption); intro _ _ _
  with_reducible (apply keeps_sendSettings; assumption)

theorem keeps_frontEnabling {s0 s : State} (h : s0.Keeps s) : s0.Keeps (State.frontEnabling s) := by
  unfold State.frontEnabling
  dsimp only; with_reducible (apply keeps_modFront; apply keeps_each; apply keeps_modGen; assumption); intro _ _ _
  with_reducible (apply keeps_setReg; assumption)

theorem keeps_cameraEnabling {s0 s : State} {a1} (h : s0.Keeps s) : s0.Keeps (State.cameraEnabling s a1) := by
  unfold State.cameraEnabling
  with_reducible (apply keeps_sendSettings; apply keeps_modCam; apply keeps_forgetSeqs; assumption)

theorem keeps_cameraDisabling {s0 s : State} {a1} (h : s0.Keeps s) : s0.Keeps (State.cameraDisabling s a1) := by
  unfold State.cameraDisabling
  with_reducible (apply keeps_modCam; assumption)

theorem keeps_frontDisabling {s0 s : State} (h : s0.Keeps s) : s0.Keeps (State.frontDisabling s) := by
  unfold State.frontDisabling
  dsimp only; with_reducible (apply keeps_each; apply keeps_modFront; assumption); intro _ _ _; split
  with_reducible (apply keeps_cameraDisabling; apply keeps_setReg; apply keeps_setReg; assumption); split
  with_reducible (apply keeps_setReg; apply keeps_setReg; assumption; assumption)

theorem keeps_cameraTurnsOff {s0 s : State} {a1} (h : s0.Keeps s) : s0.Keeps (State.cameraTurnsOff s a1) := by
  unfold State.cameraTurnsOff
  with_reducible (apply keeps_modFront; apply keeps_modCam; assumption)

end Sys2Proof.Machine
end

