-- ==== Sys2Proof/Laws/KeepsSession.lean ====
section
/-! SUPPORT. What the definitions of Machine/Session.lean keep (State.Keeps). -/

set_option Elab.async false

namespace Sys2Proof.Machine

theorem keeps_portSend {s0 s : State} {a1 a2} (h : s0.Keeps s) : s0.Keeps (State.portSend s a1 a2) := by
  unfold State.portSend
  split; with_reducible (apply keeps_inc64; apply keeps_emit; assumption; assumption)

theorem keeps_sendTo {s0 s : State} {a1 a2} (h : s0.Keeps s) : s0.Keeps (State.sendTo s a1 a2) := by
  unfold State.sendTo
  dsimp only; with_reducible (apply keeps_portSend; assumption)

theorem keeps_nextTx {s0 s : State} {a1} (h : s0.Keeps s) : s0.Keeps (State.nextTx s a1) := by
  unfold State.nextTx
  with_reducible (apply keeps_setReg; assumption)

theorem keeps_debugLeave {s0 s : State} (h : s0.Keeps s) : s0.Keeps (State.debugLeave s) := by
  unfold State.debugLeave
  dsimp only; with_reducible (apply keeps_faultRecord; apply keeps_setReg; apply keeps_setReg; assumption)

theorem keeps_debugEnter {s0 s : State} {a1} (h : s0.Keeps s) : s0.Keeps (State.debugEnter s a1) := by
  unfold State.debugEnter
  with_reducible (apply keeps_faultRecord; apply keeps_setReg; apply keeps_setReg; assumption)

theorem keeps_abandon {s0 s : State} {a1} (h : s0.Keeps s) : s0.Keeps (State.abandon s a1) := by
  unfold State.abandon
  split; with_reducible (assumption; apply keeps_abortLog; apply keeps_modSession; assumption)

theorem keeps_freeSession {s0 s : State} {a1} (h : s0.Keeps s) : s0.Keeps (State.freeSession s a1) := by
  unfold State.freeSession
  dsimp only; with_reducible (apply keeps_modSession; apply keeps_each; assumption); intro _ _ _
  with_reducible (apply keeps_setReg; assumption)

theorem keeps_closeSession {s0 s : State} {a1 a2} (h : s0.Keeps s) : s0.Keeps (State.closeSession s a1 a2) := by
  unfold State.closeSession
  split; with_reducible assumption; split; with_reducible (apply keeps_mk; assumption); dsimp only
  with_reducible (apply keeps_notifyBut; apply keeps_setInput; apply keeps_each; apply keeps_freeSession); split; split
  with_reducible (apply keeps_debugLeave; apply keeps_abandon; apply keeps_sendTo; apply keeps_nextTx; assumption; apply keeps_abandon)
  with_reducible (apply keeps_sendTo; apply keeps_nextTx; assumption); split
  with_reducible (apply keeps_debugLeave; apply keeps_abandon; assumption; apply keeps_abandon; assumption); intro _ _ _
  with_reducible (apply keeps_channelDisable; assumption)

theorem keeps_closeWhere {s0 s : State} {a1} (h : s0.Keeps s) : s0.Keeps (State.closeWhere s a1) := by
  unfold State.closeWhere
  with_reducible (apply keeps_each; assumption); intro _ _ _; split; with_reducible (apply keeps_closeSession; assumption; assumption)

theorem keeps_closePort {s0 s : State} {a1} (h : s0.Keeps s) : s0.Keeps (State.closePort s a1) := by
  unfold State.closePort
  with_reducible (apply keeps_closeWhere; assumption)

theorem keeps_heard {s0 s : State} {a1} (h : s0.Keeps s) : s0.Keeps (State.heard s a1) := by
  unfold State.heard
  with_reducible (apply keeps_setReg; assumption)

theorem keeps_execSessionIdleTimeout {s0 s : State} {a0} (h : s0.Keeps s) : KeepsR s0 (execSessionIdleTimeout a0 s) := by
  unfold execSessionIdleTimeout
  with_reducible (apply keepsR_inst; apply keepsR_next; apply keeps_closeSession; assumption)

theorem keeps_execTransferAbandoned {s0 s : State} {a0} (h : s0.Keeps s) : KeepsR s0 (execTransferAbandoned a0 s) := by
  unfold execTransferAbandoned
  with_reducible (apply keepsR_inst; apply keepsR_next; apply keeps_abandon; assumption)

theorem keeps_notifySend {s0 s : State} {a1} (h : s0.Keeps s) : s0.Keeps (State.notifySend s a1) := by
  unfold State.notifySend
  dsimp only; with_reducible (apply keeps_sendTo; apply keeps_modSession; apply keeps_nextTx; assumption)

theorem keeps_execNotifySend {s0 s : State} {a0} (h : s0.Keeps s) : KeepsR s0 (execNotifySend a0 s) := by
  unfold execNotifySend
  with_reducible apply keepsR_inst; split
  with_reducible (apply keepsR_next; apply keeps_notifySend; assumption; apply keepsR_next; assumption)

theorem keeps_notifyResend {s0 s : State} {a1 a2} (h : s0.Keeps s) : s0.Keeps (State.notifyResend s a1 a2) := by
  unfold State.notifyResend
  split; with_reducible assumption; split
  with_reducible (apply keeps_sendTo; apply keeps_modSession; assumption; apply keeps_modSession; assumption)

theorem keeps_execNotifyResend {s0 s : State} {a0 a1} (h : s0.Keeps s) : KeepsR s0 (execNotifyResend a0 a1 s) := by
  unfold execNotifyResend
  with_reducible apply keepsR_inst; split
  with_reducible (apply keepsR_next; apply keeps_notifyResend; assumption; apply keepsR_next; assumption)

theorem keeps_eventNotify {s0 s : State} {a1} (h : s0.Keeps s) : s0.Keeps (State.eventNotify s a1) := by
  unfold State.eventNotify
  split; with_reducible assumption; dsimp only; split
  with_reducible (apply keeps_modSession; apply keeps_takeInput; assumption; apply keeps_takeInput; assumption)

theorem keeps_rxFrame {s0 s : State} {a1} (h : s0.Keeps s) : s0.Keeps (State.rxFrame s a1) := by
  unfold State.rxFrame
  with_reducible (apply keeps_inc64; assumption)

theorem keeps_execArpRequest {s0 s : State} {a0 a1 a2} (h : s0.Keeps s) : KeepsR s0 (execArpRequest a0 a1 a2 s) := by
  unfold execArpRequest
  with_reducible apply keepsR_inst; split; dsimp only; with_reducible apply keepsR_next; split
  with_reducible (apply keeps_portSend; apply keeps_rxFrame; assumption; apply keeps_inc32; apply keeps_rxFrame; assumption)
  with_reducible (apply keepsR_next; assumption)

theorem keeps_execIcmpEcho {s0 s : State} {a0 a1 a2 a3} (h : s0.Keeps s) : KeepsR s0 (execIcmpEcho a0 a1 a2 a3 s) := by
  unfold execIcmpEcho
  with_reducible apply keepsR_inst; split; dsimp only; with_reducible apply keepsR_next; split
  with_reducible (apply keeps_portSend; apply keeps_rxFrame; assumption; apply keeps_inc32; apply keeps_rxFrame; assumption)
  with_reducible (apply keepsR_next; assumption)

theorem keeps_execPortLinkChange {s0 s : State} {a0 a1} (h : s0.Keeps s) : KeepsR s0 (execPortLinkChange a0 a1 s) := by
  unfold execPortLinkChange
  with_reducible apply keepsR_inst; split
  with_reducible (apply keepsR_next; apply keeps_setReg; assumption; apply keepsR_next; assumption)

end Sys2Proof.Machine
end

