-- ==== Sys2Proof/Laws/KeepsCrib.lean ====
section
/-! SUPPORT. What the definitions of Machine/Crib.lean keep (State.Keeps). -/

set_option Elab.async false

namespace Sys2Proof.Machine

theorem keeps_modSilo {s0 s : State} {a1 a2} (h : s0.Keeps s) : s0.Keeps (State.modSilo s a1 a2) := by
  unfold State.modSilo
  with_reducible (apply keeps_mk; assumption)

theorem keeps_siloFlag {s0 s : State} {a1 a2} (h : s0.Keeps s) : s0.Keeps (State.siloFlag s a1 a2) := by
  unfold State.siloFlag
  with_reducible (apply keeps_regBit; assumption)

theorem keeps_showSilo {s0 s : State} {a1} (h : s0.Keeps s) : s0.Keeps (State.showSilo s a1) := by
  unfold State.showSilo
  dsimp only; split
  with_reducible (apply keeps_setReg; apply keeps_setReg; apply keeps_setReg; assumption; apply keeps_setReg; assumption)

theorem keeps_pinSlab {s0 s : State} {a1 a2 a3} (h : s0.Keeps s) : s0.Keeps (State.pinSlab s a1 a2 a3) := by
  unfold State.pinSlab
  split; with_reducible assumption; dsimp only; split
  with_reducible (apply keeps_showSilo; apply keeps_modSilo; assumption; apply keeps_siloFlag; apply keeps_modSilo; assumption)

theorem keeps_siloHeld {s0 s : State} {a1} (h : s0.Keeps s) : s0.Keeps (State.siloHeld s a1) := by
  unfold State.siloHeld
  with_reducible (apply keeps_fire; apply keeps_setReg; assumption)

theorem keeps_settleSilo {s0 s : State} {a1} (h : s0.Keeps s) : s0.Keeps (State.settleSilo s a1) := by
  unfold State.settleSilo
  dsimp only; split; with_reducible (apply keeps_siloHeld; assumption; assumption)

theorem keeps_pinsEffect {s0 s : State} {a1} (h : s0.Keeps s) : s0.Keeps (State.pinsEffect s a1) := by
  unfold State.pinsEffect
  dsimp only; with_reducible (apply keeps_settleSilo; apply keeps_showSilo); split; split
  with_reducible (apply keeps_modSilo; apply keeps_siloFlag; apply keeps_whenB; apply keeps_whenB; apply keeps_modSilo; assumption)
  intro _ _; with_reducible (apply keeps_siloFlag; assumption); intro _ _
  with_reducible (apply keeps_siloFlag; assumption; apply keeps_each; apply keeps_whenB; apply keeps_whenB; apply keeps_modSilo)
  with_reducible assumption; intro _ _; with_reducible (apply keeps_siloFlag; assumption); intro _ _
  with_reducible (apply keeps_siloFlag; assumption); intro _ _ _; with_reducible (apply keeps_pinSlab; assumption); split
  with_reducible (apply keeps_modSilo; apply keeps_siloFlag; apply keeps_whenB; apply keeps_whenB; apply keeps_modSilo; assumption)
  intro _ _; with_reducible (apply keeps_siloFlag; assumption); intro _ _
  with_reducible (apply keeps_siloFlag; assumption; apply keeps_each; apply keeps_whenB; apply keeps_whenB; apply keeps_modSilo)
  with_reducible assumption; intro _ _; with_reducible (apply keeps_siloFlag; assumption); intro _ _
  with_reducible (apply keeps_siloFlag; assumption); intro _ _ _; with_reducible (apply keeps_pinSlab; assumption)

theorem keeps_execPinsTakeEffect {s0 s : State} {a0} (h : s0.Keeps s) : KeepsR s0 (execPinsTakeEffect a0 s) := by
  unfold execPinsTakeEffect
  with_reducible apply keepsR_inst; split
  with_reducible (apply keepsR_next; apply keeps_pinsEffect; assumption; apply keepsR_next; assumption)

theorem keeps_setSlabs {s0 s : State} {a1} (h : s0.Keeps s) : s0.Keeps (State.setSlabs s a1) := by
  unfold State.setSlabs
  with_reducible (apply keeps_mk; assumption)

theorem keeps_claimSlab {s0 s : State} {a1} (h : s0.Keeps s) : s0.Keeps (State.claimSlab s a1) := by
  unfold State.claimSlab
  split; dsimp only; with_reducible (apply keeps_each; apply keeps_setSlabs; assumption); intro _ _ _; split
  with_reducible (apply keeps_settleSilo; apply keeps_pinSlab; assumption; assumption); dsimp only
  with_reducible (apply keeps_each; apply keeps_fire; apply keeps_inc32; apply keeps_setSlabs; assumption); intro _ _ _; split
  with_reducible (apply keeps_siloFlag; assumption; assumption)

theorem keeps_writeSample {s0 s : State} {a1 a2 a3 a4 a5} (h : s0.Keeps s) : s0.Keeps (State.writeSample s a1 a2 a3 a4 a5) := by
  unfold State.writeSample
  dsimp only; split; split; split; with_reducible (apply keeps_inc32; assumption; apply keeps_setSlabs; apply keeps_store; assumption)
  split
  with_reducible (apply keeps_inc32; apply keeps_claimSlab; assumption; apply keeps_setSlabs; apply keeps_store; apply keeps_claimSlab)
  with_reducible assumption; split; with_reducible (assumption; apply keeps_claimSlab; assumption)

theorem keeps_takeSample {s0 s : State} {a1 a2 a3 a4 a5 a6} (h : s0.Keeps s) : s0.Keeps (State.takeSample s a1 a2 a3 a4 a5 a6) := by
  unfold State.takeSample
  dsimp only; with_reducible apply keeps_writeSample; split; with_reducible (apply keeps_inc64; assumption); split
  with_reducible (apply keeps_inc64; assumption; assumption)

theorem keeps_samplePacket {s0 s : State} {a1} (h : s0.Keeps s) : s0.Keeps (State.samplePacket s a1) := by
  unfold State.samplePacket
  dsimp only; split; with_reducible (apply keeps_inc32; assumption); split; with_reducible (apply keeps_inc32; assumption); split
  with_reducible (apply keeps_inc32; assumption); split; with_reducible (apply keeps_inc32; assumption); split
  with_reducible (apply keeps_inc32; assumption); split
  with_reducible (apply keeps_inc32; assumption; apply keeps_each; apply keeps_mk; assumption); intro _ _ _
  with_reducible (apply keeps_each; assumption); intro _ _ _; with_reducible (apply keeps_takeSample; assumption)

theorem keeps_execSamplePacketRx {s0 s : State} (h : s0.Keeps s) : KeepsR s0 (execSamplePacketRx s) := by
  unfold execSamplePacketRx
  split; with_reducible (apply keepsR_next; assumption; apply keepsR_next; apply keeps_samplePacket; apply keeps_mk; assumption)

theorem keeps_fillSlab {s0 s : State} {a1} (h : s0.Keeps s) : s0.Keeps (State.fillSlab s a1) := by
  unfold State.fillSlab
  split; with_reducible assumption; dsimp only; with_reducible (apply keeps_each; assumption); intro _ _ _
  with_reducible (apply keeps_store; assumption)

theorem keeps_sealSlab {s0 s : State} (h : s0.Keeps s) : s0.Keeps (State.sealSlab s) := by
  unfold State.sealSlab
  dsimp only; with_reducible (apply keeps_each; apply keeps_setReg; apply keeps_mk; apply keeps_setSlabs); split
  with_reducible (apply keeps_fillSlab; apply keeps_each; assumption); intro _ _ _
  with_reducible (apply keeps_inc64; assumption; apply keeps_each; assumption); intro _ _ _
  with_reducible (apply keeps_inc64; assumption); intro _ _ _; with_reducible apply keeps_settleSilo; split
  with_reducible (apply keeps_siloFlag; assumption; assumption)

theorem keeps_execSlabSeal {s0 s : State} (h : s0.Keeps s) : KeepsR s0 (execSlabSeal s) := by
  unfold execSlabSeal
  split; with_reducible (apply keepsR_next; apply keeps_sealSlab; assumption; apply keepsR_next; assumption)

theorem keeps_setReader {s0 s : State} {a1 a2} (h : s0.Keeps s) : s0.Keeps (State.setReader s a1 a2) := by
  unfold State.setReader
  with_reducible (apply keeps_mk; assumption)

theorem keeps_setHalf {s0 s : State} {a1 a2 a3} (h : s0.Keeps s) : s0.Keeps (State.setHalf s a1 a2 a3) := by
  unfold State.setHalf
  with_reducible (apply keeps_mk; assumption)

theorem keeps_windowStart {s0 s : State} {a1} (h : s0.Keeps s) : s0.Keeps (State.windowStart s a1) := by
  unfold State.windowStart
  dsimp only; split; split
  with_reducible (apply keeps_setReader; assumption; apply keeps_setReg; apply keeps_setReg; apply keeps_setReader; assumption)
  with_reducible assumption

theorem keeps_execWindowStart {s0 s : State} {a0} (h : s0.Keeps s) : KeepsR s0 (execWindowStart a0 s) := by
  unfold execWindowStart
  with_reducible apply keepsR_inst; split
  with_reducible (apply keepsR_next; apply keeps_windowStart; assumption; apply keepsR_next; assumption)

theorem keeps_rankReads {s0 s : State} {a1 a2 a3 a4} (h : s0.Keeps s) : s0.Keeps (State.rankReads s a1 a2 a3 a4) := by
  unfold State.rankReads
  with_reducible (apply keeps_each; assumption); intro _ _ _; split; with_reducible (apply keeps_readRange; assumption; assumption)

theorem keeps_stepReads {s0 s : State} {a1 a2 a3} (h : s0.Keeps s) : s0.Keeps (State.stepReads s a1 a2 a3) := by
  unfold State.stepReads
  with_reducible (apply keeps_each; assumption); intro _ _ _; with_reducible (apply keeps_rankReads; assumption)

theorem keeps_loftFill {s0 s : State} {a1} (h : s0.Keeps s) : s0.Keeps (State.loftFill s a1) := by
  unfold State.loftFill
  dsimp only; split; split
  with_reducible (apply keeps_setReader; apply keeps_inc64; apply keeps_setHalf; apply keeps_stepReads; assumption); split
  with_reducible (apply keeps_setReader; apply keeps_inc64; apply keeps_setHalf; apply keeps_stepReads; assumption); split
  with_reducible (apply keeps_setReg; apply keeps_setReader; apply keeps_inc64; apply keeps_setHalf; apply keeps_stepReads; assumption)
  with_reducible (apply keeps_setReader; apply keeps_inc64; apply keeps_setHalf; apply keeps_stepReads; assumption; assumption)

theorem keeps_cribTick {s0 s : State} (h : s0.Keeps s) : s0.Keeps (State.cribTick s) := by
  unfold State.cribTick
  with_reducible (apply keeps_each; assumption); intro _ _ _; split; with_reducible (apply keeps_inc64; assumption; assumption)

theorem keeps_trigger {s0 s : State} {a1 a2 a3} (h : s0.Keeps s) : s0.Keeps (State.trigger s a1 a2 a3) := by
  unfold State.trigger
  dsimp only; split
  with_reducible (apply keeps_fire; apply keeps_inc32; assumption; apply keeps_inc32; apply keeps_setReg; apply keeps_setReg)
  with_reducible (apply keeps_setReg; apply keeps_setReg; apply keeps_setReg; apply keeps_setReg; apply keeps_setReg; apply keeps_setReg)
  with_reducible (apply keeps_setReg; apply keeps_setReg; apply keeps_modSilo; assumption)

theorem keeps_execCribFreeze {s0 s : State} {a0} (h : s0.Keeps s) : KeepsR s0 (execCribFreeze a0 s) := by
  unfold execCribFreeze
  with_reducible apply keepsR_inst; split
  with_reducible (apply keepsR_next; apply keeps_trigger; apply keeps_takeInput; assumption; apply keepsR_next; assumption)

theorem keeps_cmdFire {s0 s : State} (h : s0.Keeps s) : KeepsV s0 (cmdFire s) := by
  unfold cmdFire
  with_reducible (apply keepsV_ok; apply keeps_trigger; assumption)

theorem keeps_endReadout {s0 s : State} {a1} (h : s0.Keeps s) : s0.Keeps (State.endReadout s a1) := by
  unfold State.endReadout
  with_reducible (apply keeps_setReg; apply keeps_mk; assumption)

theorem keeps_cmdSiloRelease {s0 s : State} {a0} (h : s0.Keeps s) : KeepsV s0 (cmdSiloRelease a0 s) := by
  unfold cmdSiloRelease
  dsimp only; split; with_reducible (apply keepsV_error; apply keepsV_ok; apply keeps_modSilo; apply keeps_setReg); split
  with_reducible (apply keeps_endReadout; assumption; assumption)

theorem keeps_execSiloReleaseComplete {s0 s : State} {a0} (h : s0.Keeps s) : KeepsR s0 (execSiloReleaseComplete a0 s) := by
  unfold execSiloReleaseComplete
  with_reducible apply keepsR_inst; split
  with_reducible (apply keepsR_next; apply keeps_modSilo; apply keeps_setReg; assumption; apply keepsR_next; assumption)

theorem keeps_readoutStart {s0 s : State} (h : s0.Keeps s) : s0.Keeps (State.readoutStart s) := by
  unfold State.readoutStart
  dsimp only; with_reducible (apply keeps_setReg; apply keeps_setReg; apply keeps_setReg; apply keeps_mk; assumption)

theorem keeps_cmdReadoutStart {s0 s : State} (h : s0.Keeps s) : KeepsV s0 (cmdReadoutStart s) := by
  unfold cmdReadoutStart
  split; with_reducible (apply keepsV_ok; apply keeps_readoutStart; assumption; apply keepsV_error)

theorem keeps_readoutRefused {s0 s : State} (h : s0.Keeps s) : s0.Keeps (State.readoutRefused s) := by
  unfold State.readoutRefused
  with_reducible (apply keeps_setReg; assumption)

theorem keeps_cmdReadoutAbort {s0 s : State} (h : s0.Keeps s) : KeepsV s0 (cmdReadoutAbort s) := by
  unfold cmdReadoutAbort
  split; with_reducible (apply keepsV_ok; apply keeps_siloHeld; apply keeps_endReadout; assumption; apply keepsV_ok; assumption)

theorem keeps_readoutRead {s0 s : State} {a1} (h : s0.Keeps s) : s0.Keeps (State.readoutRead s a1) := by
  unfold State.readoutRead
  split; with_reducible (apply keeps_readRange; assumption; assumption)

theorem keeps_execReadoutPacket {s0 s : State} (h : s0.Keeps s) : KeepsR s0 (execReadoutPacket s) := by
  unfold execReadoutPacket
  split; with_reducible (apply keepsR_next; assumption); dsimp only; split
  with_reducible (apply keepsR_next; apply keeps_siloHeld; apply keeps_endReadout; assumption); split
  with_reducible (apply keepsR_next; apply keeps_fire; apply keeps_siloHeld; apply keeps_endReadout; assumption); split; split
  with_reducible (apply keepsR_next; apply keeps_mk; apply keeps_inc32; apply keeps_streamPut; apply keeps_readoutRead; assumption)
  with_reducible (apply keepsR_next; apply keeps_fire; apply keeps_siloHeld; apply keeps_endReadout; apply keeps_inc32)
  with_reducible (apply keeps_streamPut; apply keeps_readoutRead; assumption; apply keepsR_next; assumption)

theorem keeps_cribEnabling {s0 s : State} (h : s0.Keeps s) : s0.Keeps (State.cribEnabling s) := by
  unfold State.cribEnabling
  dsimp only; with_reducible (apply keeps_setReg; apply keeps_setReg; apply keeps_mk; apply keeps_forgetSeqs; assumption)

theorem keeps_cribTurnsOn {s0 s : State} (h : s0.Keeps s) : s0.Keeps (State.cribTurnsOn s) := by
  unfold State.cribTurnsOn
  dsimp only; with_reducible (apply keeps_setReg; apply keeps_mk; assumption)

theorem keeps_endReader {s0 s : State} {a1} (h : s0.Keeps s) : s0.Keeps (State.endReader s a1) := by
  unfold State.endReader
  dsimp only; split; with_reducible (apply keeps_setReader; assumption; assumption)

theorem keeps_cribDisabling {s0 s : State} (h : s0.Keeps s) : s0.Keeps (State.cribDisabling s) := by
  unfold State.cribDisabling
  dsimp only; with_reducible (apply keeps_each; apply keeps_each; apply keeps_each; apply keeps_each; assumption); intro _ _ _; split
  with_reducible (apply keeps_pinsEffect; assumption; assumption); intro _ _ _; with_reducible (apply keeps_fillSlab; assumption)
  intro _ _ _; split; with_reducible (apply keeps_siloHeld; apply keeps_siloFlag; apply keeps_modSilo; assumption; assumption)
  intro _ _ _; with_reducible (apply keeps_endReader; assumption)

theorem keeps_cribTurnsOff {s0 s : State} (h : s0.Keeps s) : s0.Keeps (State.cribTurnsOff s) := by
  unfold State.cribTurnsOff
  with_reducible (apply keeps_mk; assumption)

end Sys2Proof.Machine
end

