-- ==== Sys2Proof/Laws/KeepsGranary.lean ====
section
/-! SUPPORT. What the definitions of Machine/Granary.lean keep (State.Keeps). -/

set_option Elab.async false

namespace Sys2Proof.Machine

theorem keeps_setAcc {s0 s : State} {a1 a2 a3 a4} (h : s0.Keeps s) : s0.Keeps (State.setAcc s a1 a2 a3 a4) := by
  unfold State.setAcc
  with_reducible (apply keeps_mk; assumption)

theorem keeps_clearBin {s0 s : State} {a1 a2} (h : s0.Keeps s) : s0.Keeps (State.clearBin s a1 a2) := by
  unfold State.clearBin
  with_reducible (apply keeps_setAcc; apply keeps_setAcc; assumption)

theorem keeps_granaryEcc {s0 s : State} {a1 a2 a3 a4 a5} (h : s0.Keeps s) : s0.Keeps (State.granaryEcc s a1 a2 a3 a4 a5) := by
  unfold State.granaryEcc
  dsimp only; split; with_reducible (assumption; apply keeps_each; apply keeps_setAcc; assumption); intro _ _ _
  with_reducible (apply keeps_faultRecord; assumption)

end Sys2Proof.Machine
end

