-- ==== Sys2Proof/Laws/KeepsJig.lean ====
section
/-! SUPPORT. What the definitions of Machine/Jig.lean keep (State.Keeps). -/

set_option Elab.async false

namespace Sys2Proof.Machine

theorem keeps_modJig {s0 s : State} {a1 a2} (h : s0.Keeps s) : s0.Keeps (State.modJig s a1 a2) := by
  unfold State.modJig
  with_reducible (apply keeps_mk; assumption)

theorem keeps_setOrders {s0 s : State} {a1} (h : s0.Keeps s) : s0.Keeps (State.setOrders s a1) := by
  unfold State.setOrders
  with_reducible (apply keeps_mk; assumption)

theorem keeps_modOrder {s0 s : State} {a1 a2} (h : s0.Keeps s) : s0.Keeps (State.modOrder s a1 a2) := by
  unfold State.modOrder
  with_reducible (apply keeps_setOrders; assumption)

theorem keeps_setRun {s0 s : State} {a1 a2} (h : s0.Keeps s) : s0.Keeps (State.setRun s a1 a2) := by
  unfold State.setRun
  with_reducible (apply keeps_setReg; assumption)

theorem keeps_goto {s0 s : State} {a1 a2} (h : s0.Keeps s) : s0.Keeps (State.goto s a1 a2) := by
  unfold State.goto
  with_reducible (apply keeps_setReg; assumption)

theorem keeps_nextEntry {s0 s : State} {a1} (h : s0.Keeps s) : s0.Keeps (State.nextEntry s a1) := by
  unfold State.nextEntry
  with_reducible (apply keeps_goto; assumption)

theorem keeps_releaseHalves {s0 s : State} {a1} (h : s0.Keeps s) : s0.Keeps (State.releaseHalves s a1) := by
  unfold State.releaseHalves
  split; with_reducible (assumption; apply keeps_each; assumption); intro _ _ _; dsimp only; split
  with_reducible (apply keeps_setHalf; assumption; assumption)

theorem keeps_swapList {s0 s : State} {a1 a2} (h : s0.Keeps s) : s0.Keeps (State.swapList s a1 a2) := by
  unfold State.swapList
  dsimp only
  with_reducible (apply keeps_setRun; apply keeps_setReg; apply keeps_setReg; apply keeps_goto; apply keeps_modJig; assumption)

theorem keeps_takeHalf {s0 s : State} {a1 a2} (h : s0.Keeps s) : KeepsF s0 (State.takeHalf s a1 a2) := by
  unfold State.takeHalf
  dsimp only; split
  with_reducible (apply keepsF_mk; apply keeps_swapList; apply keeps_modJig; apply keeps_releaseHalves; apply keeps_setReg)
  with_reducible (apply keeps_setReg; apply keeps_modJig; apply keeps_setHalf; assumption; apply keepsF_mk; apply keeps_releaseHalves)
  with_reducible (apply keeps_setReg; apply keeps_setReg; apply keeps_modJig; apply keeps_setHalf; assumption)

theorem keeps_stepTaken {s0 s : State} {a1 a2} (h : s0.Keeps s) : s0.Keeps (State.stepTaken s a1 a2) := by
  unfold State.stepTaken
  dsimp only; split
  with_reducible (apply keeps_fst; apply keeps_takeHalf; assumption; apply keeps_setRun; apply keeps_nextEntry; apply keeps_fst)
  with_reducible (apply keeps_takeHalf; assumption)

theorem keeps_halfReady {s0 s : State} {a1} (h : s0.Keeps s) : s0.Keeps (State.halfReady s a1) := by
  unfold State.halfReady
  split; with_reducible assumption; split; with_reducible assumption; split; with_reducible (apply keeps_stepTaken; assumption); split
  with_reducible (apply keeps_fst; apply keeps_takeHalf; assumption; assumption)

theorem keeps_execLoftStepFill {s0 s : State} {a0} (h : s0.Keeps s) : KeepsR s0 (execLoftStepFill a0 s) := by
  unfold execLoftStepFill
  with_reducible apply keepsR_inst; split
  with_reducible (apply keepsR_next; apply keeps_halfReady; apply keeps_loftFill; assumption; apply keepsR_next; assumption)

theorem keeps_jigFail {s0 s : State} {a1 a2} (h : s0.Keeps s) : s0.Keeps (State.jigFail s a1 a2) := by
  unfold State.jigFail
  dsimp only
  with_reducible (apply keeps_fire; apply keeps_setReg; apply keeps_setReg; apply keeps_setRun; apply keeps_modJig; assumption)

theorem keeps_lateSwap {s0 s : State} {a1} (h : s0.Keeps s) : s0.Keeps (State.lateSwap s a1) := by
  unfold State.lateSwap
  split; split; with_reducible (apply keeps_swapList; apply keeps_modJig; assumption; assumption; assumption)

theorem keeps_discardUnplaced {s0 s : State} {a1 a2 a3 a4} (h : s0.Keeps s) : s0.Keeps (State.discardUnplaced s a1 a2 a3 a4) := by
  unfold State.discardUnplaced
  dsimp only; split
  with_reducible (apply keeps_inc64; apply keeps_mk; apply keeps_inc32; apply keeps_inc64; assumption; apply keeps_inc32)
  with_reducible (apply keeps_inc64; assumption)

theorem keeps_portGrant {s0 s : State} {a1 a2 a3} (h : s0.Keeps s) : s0.Keeps (State.portGrant s a1 a2 a3) := by
  unfold State.portGrant
  dsimp only; with_reducible (apply keeps_mk; assumption)

theorem keeps_enqueueOrder {s0 s : State} {a1 a2 a3 a4} (h : s0.Keeps s) : s0.Keeps (State.enqueueOrder s a1 a2 a3 a4) := by
  unfold State.enqueueOrder
  dsimp only; with_reducible (apply keeps_portGrant; apply keeps_setOrders; assumption)

theorem keeps_placeOrder {s0 s : State} {a1 a2 a3 a4 a5} (h : s0.Keeps s) : s0.Keeps (State.placeOrder s a1 a2 a3 a4 a5) := by
  unfold State.placeOrder
  split; with_reducible (apply keeps_discardUnplaced; assumption; apply keeps_enqueueOrder; assumption)

theorem keeps_issueOrder {s0 s : State} {a1 a2} (h : s0.Keeps s) : s0.Keeps (State.issueOrder s a1 a2) := by
  unfold State.issueOrder
  dsimp only; with_reducible (apply keeps_placeOrder; apply keeps_mk); split
  with_reducible (apply keeps_inc32; apply keeps_inc64; assumption; apply keeps_inc64; assumption)

theorem keeps_runSweep  {s0 s : State} {k fuel : Nat} {x : Sweep} (h : s0.Keeps s) : s0.Keeps (State.runSweep s k fuel x) := by
  induction fuel generalizing s x with
  | zero => exact h
  | succ n ih =>
    unfold State.runSweep
    dsimp only; split; with_reducible (apply keeps_lateSwap; apply keeps_jigFail; assumption); split
    with_reducible (apply keeps_setRun; apply keeps_modJig); split; with_reducible (assumption; apply keeps_poolFull; assumption); split
    with_reducible (apply keeps_lateSwap; apply keeps_nextEntry; apply keeps_modJig; apply keeps_setRun; apply keeps_issueOrder)
    with_reducible assumption; apply ih; with_reducible (apply keeps_setRun; apply keeps_issueOrder; assumption)

theorem keeps_resumePort {s0 s : State} {a1} (h : s0.Keeps s) : s0.Keeps (State.resumePort s a1) := by
  unfold State.resumePort
  split; with_reducible (apply keeps_runSweep; assumption; assumption)

theorem keeps_wakePort {s0 s : State} {a1} (h : s0.Keeps s) : s0.Keeps (State.wakePort s a1) := by
  unfold State.wakePort
  dsimp only; split; with_reducible assumption; split; with_reducible (apply keeps_resumePort; assumption; assumption)

theorem keeps_atEntry {s0 s : State} {k : Nat} {kind : Nat → Bool} {run : Nat → State} (h : s0.Keeps s) (hr : ∀ w, s0.Keeps (run w)) :
    s0.Keeps (s.atEntry k kind run) := by
  unfold State.atEntry
  repeat' first | assumption | exact hr _ | with_reducible apply keeps_jigFail | split

theorem keeps_issueEntry {s0 s : State} {a1 a2} (h : s0.Keeps s) : s0.Keeps (State.issueEntry s a1 a2) := by
  unfold State.issueEntry
  split; split; split; with_reducible (apply keeps_resumePort; assumption; assumption; assumption; apply keeps_atEntry; assumption)
  intro _; dsimp only; with_reducible (apply keeps_runSweep; assumption)

theorem keeps_execCorr4 {s0 s : State} {a0} (h : s0.Keeps s) : KeepsR s0 (execCorr4 a0 s) := by
  unfold execCorr4
  with_reducible (apply keepsR_inst; apply keepsR_next; apply keeps_issueEntry; assumption)

theorem keeps_execCorr8 {s0 s : State} {a0} (h : s0.Keeps s) : KeepsR s0 (execCorr8 a0 s) := by
  unfold execCorr8
  with_reducible (apply keepsR_inst; apply keepsR_next; apply keeps_issueEntry; assumption)

theorem keeps_execBeam4 {s0 s : State} {a0} (h : s0.Keeps s) : KeepsR s0 (execBeam4 a0 s) := by
  unfold execBeam4
  with_reducible (apply keepsR_inst; apply keepsR_next; apply keeps_issueEntry; assumption)

theorem keeps_execBeam8 {s0 s : State} {a0} (h : s0.Keeps s) : KeepsR s0 (execBeam8 a0 s) := by
  unfold execBeam8
  with_reducible (apply keepsR_inst; apply keepsR_next; apply keeps_issueEntry; assumption)

theorem keeps_execXreg {s0 s : State} {a0} (h : s0.Keeps s) : KeepsR s0 (execXreg a0 s) := by
  unfold execXreg
  with_reducible (apply keepsR_inst; apply keepsR_next; apply keeps_issueEntry; assumption)

theorem keeps_execZero {s0 s : State} {a0} (h : s0.Keeps s) : KeepsR s0 (execZero a0 s) := by
  unfold execZero
  with_reducible (apply keepsR_inst; apply keepsR_next; apply keeps_issueEntry; assumption)

theorem keeps_execDump {s0 s : State} {a0} (h : s0.Keeps s) : KeepsR s0 (execDump a0 s) := by
  unfold execDump
  with_reducible (apply keepsR_inst; apply keepsR_next; apply keeps_issueEntry; assumption)

theorem keeps_fencePass {s0 s : State} {a1 a2} (h : s0.Keeps s) : s0.Keeps (State.fencePass s a1 a2) := by
  unfold State.fencePass
  dsimp only; with_reducible (apply keeps_lateSwap; apply keeps_setRun; apply keeps_nextEntry); split
  with_reducible (apply keeps_fire; assumption; assumption)

theorem keeps_execCutFence {s0 s : State} {a0} (h : s0.Keeps s) : KeepsR s0 (execCutFence a0 s) := by
  unfold execCutFence
  with_reducible (apply keepsR_inst; apply keepsR_next; apply keeps_atEntry; assumption); intro _; split
  with_reducible (apply keeps_jigFail; assumption); split
  with_reducible (apply keeps_setRun; assumption; apply keeps_fencePass; assumption)

theorem keeps_execFencePass {s0 s : State} {a0} (h : s0.Keeps s) : KeepsR s0 (execFencePass a0 s) := by
  unfold execFencePass
  with_reducible apply keepsR_inst; split; split; split
  with_reducible (apply keepsR_next; assumption; apply keepsR_next; apply keeps_fencePass; assumption; apply keepsR_next; assumption)
  with_reducible (apply keepsR_next; assumption)

theorem keeps_control {s0 s : State} {k code : Nat} {run : Nat → State} (h : s0.Keeps s) (hr : ∀ w, s0.Keeps (run w)) :
    s0.Keeps (s.control k code run) := by
  unfold State.control
  apply keeps_atEntry h
  intro w
  split
  · exact hr w
  · exact keeps_jigFail h

theorem keeps_jigEnd {s0 s : State} {a1} (h : s0.Keeps s) : s0.Keeps (State.jigEnd s a1) := by
  unfold State.jigEnd
  with_reducible (apply keeps_fire; apply keeps_setRun; assumption)

theorem keeps_execCutEnd {s0 s : State} {a0} (h : s0.Keeps s) : KeepsR s0 (execCutEnd a0 s) := by
  unfold execCutEnd
  with_reducible apply keepsR_inst; split
  with_reducible (apply keepsR_next; apply keeps_jigEnd; assumption; apply keepsR_next; apply keeps_control; assumption); intro _
  with_reducible (apply keeps_jigEnd; assumption)

theorem keeps_execCutWaitStep {s0 s : State} {a0} (h : s0.Keeps s) : KeepsR s0 (execCutWaitStep a0 s) := by
  unfold execCutWaitStep
  with_reducible (apply keepsR_inst; apply keepsR_next; apply keeps_control; assumption); intro _; split
  with_reducible (apply keeps_nextEntry; apply keeps_modJig; assumption); split
  with_reducible (apply keeps_stepTaken; assumption; apply keeps_setRun; assumption)

theorem keeps_execCutJump {s0 s : State} {a0} (h : s0.Keeps s) : KeepsR s0 (execCutJump a0 s) := by
  unfold execCutJump
  with_reducible (apply keepsR_inst; apply keepsR_next; apply keeps_control; assumption); intro _; split
  with_reducible (apply keeps_goto; assumption; apply keeps_jigFail; assumption)

theorem keeps_execCutIfStep {s0 s : State} {a0} (h : s0.Keeps s) : KeepsR s0 (execCutIfStep a0 s) := by
  unfold execCutIfStep
  with_reducible (apply keepsR_inst; apply keepsR_next; apply keeps_control; assumption); intro _; split
  with_reducible (apply keeps_jigFail; assumption); split
  with_reducible (apply keeps_goto; assumption; apply keeps_nextEntry; assumption)

theorem keeps_execCutLoop {s0 s : State} {a0} (h : s0.Keeps s) : KeepsR s0 (execCutLoop a0 s) := by
  unfold execCutLoop
  with_reducible (apply keepsR_inst; apply keepsR_next; apply keeps_control; assumption); intro _; dsimp only; split
  with_reducible (apply keeps_jigFail; assumption; apply keeps_nextEntry; apply keeps_modJig; assumption)

theorem keeps_execCutEndloop {s0 s : State} {a0} (h : s0.Keeps s) : KeepsR s0 (execCutEndloop a0 s) := by
  unfold execCutEndloop
  with_reducible (apply keepsR_inst; apply keepsR_next; apply keeps_control; assumption); intro _; split
  with_reducible (apply keeps_jigFail; assumption); split
  with_reducible (apply keeps_goto; apply keeps_modJig; assumption; apply keeps_nextEntry; apply keeps_modJig; assumption)

theorem keeps_waitEvent {s0 s : State} {a1} (h : s0.Keeps s) : s0.Keeps (State.waitEvent s a1) := by
  unfold State.waitEvent
  split
  with_reducible (apply keeps_lateSwap; apply keeps_setRun; apply keeps_nextEntry; apply keeps_takeInput; assumption; apply keeps_setRun)
  with_reducible assumption

theorem keeps_goEvent {s0 s : State} {a1} (h : s0.Keeps s) : s0.Keeps (State.goEvent s a1) := by
  unfold State.goEvent
  split; with_reducible (apply keeps_waitEvent; assumption; assumption)

theorem keeps_execCutWaitEvt {s0 s : State} {a0} (h : s0.Keeps s) : KeepsR s0 (execCutWaitEvt a0 s) := by
  unfold execCutWaitEvt
  with_reducible apply keepsR_inst; split
  with_reducible (apply keepsR_next; apply keeps_goEvent; assumption; apply keepsR_next; apply keeps_control; assumption); intro _
  with_reducible (apply keeps_waitEvent; assumption)

theorem keeps_execCutEvent {s0 s : State} {a0} (h : s0.Keeps s) : KeepsR s0 (execCutEvent a0 s) := by
  unfold execCutEvent
  with_reducible (apply keepsR_inst; apply keepsR_next; apply keeps_control; assumption); intro _
  with_reducible (apply keeps_nextEntry; apply keeps_fire; assumption)

theorem keeps_cmdJigRestart {s0 s : State} {a0} (h : s0.Keeps s) : KeepsV s0 (cmdJigRestart a0 s) := by
  unfold cmdJigRestart
  split; dsimp only
  with_reducible (apply keepsV_ok; apply keeps_releaseHalves; apply keeps_setRun; apply keeps_setReg; apply keeps_setReg)
  with_reducible (apply keeps_goto; apply keeps_modJig; assumption; apply keepsV_error)

theorem keeps_jigOn {s0 s : State} {a1} (h : s0.Keeps s) : s0.Keeps (State.jigOn s a1) := by
  unfold State.jigOn
  dsimp only; with_reducible (apply keeps_halfReady; apply keeps_setRun; apply keeps_setReg; apply keeps_setReg; apply keeps_goto)
  with_reducible (apply keeps_modJig; assumption)

theorem keeps_jigOff {s0 s : State} {a1} (h : s0.Keeps s) : s0.Keeps (State.jigOff s a1) := by
  unfold State.jigOff
  dsimp only; with_reducible (apply keeps_setRun; apply keeps_each; apply keeps_modJig; assumption); intro _ _ _
  with_reducible (apply keeps_setHalf; assumption)

theorem keeps_jigDisabling {s0 s : State} {a1} (h : s0.Keeps s) : s0.Keeps (State.jigDisabling s a1) := by
  unfold State.jigDisabling
  with_reducible (apply keeps_releaseHalves; apply keeps_setRun; apply keeps_modJig; assumption)

theorem keeps_cutListLive {s0 s : State} {a1 a2} (h : s0.Keeps s) : s0.Keeps (State.cutListLive s a1 a2) := by
  unfold State.cutListLive
  split; with_reducible assumption; dsimp only; split; with_reducible (apply keeps_modJig; assumption); split
  with_reducible (apply keeps_modJig; apply keeps_modJig; assumption; apply keeps_swapList; apply keeps_modJig; apply keeps_modJig)
  with_reducible assumption

end Sys2Proof.Machine
end

