-- ==== Sys2Proof/Laws/KeepsTiles.lean ====
section
/-! SUPPORT. What the definitions of Machine/Tiles.lean keep (State.Keeps). -/

set_option Elab.async false

namespace Sys2Proof.Machine

theorem keeps_setTile {s0 s : State} {a1 a2} (h : s0.Keeps s) : s0.Keeps (State.setTile s a1 a2) := by
  unfold State.setTile
  with_reducible (apply keeps_mk; assumption)

theorem keeps_setReseats {s0 s : State} {a1 a2} (h : s0.Keeps s) : s0.Keeps (State.setReseats s a1 a2) := by
  unfold State.setReseats
  with_reducible (apply keeps_mk; assumption)

theorem keeps_pullReads {s0 s : State} {a1} (h : s0.Keeps s) : s0.Keeps (State.pullReads s a1) := by
  unfold State.pullReads
  split; split; with_reducible (assumption; apply keeps_each; assumption); intro _ _ _
  with_reducible (apply keeps_rankReads; assumption; apply keeps_each; assumption); intro _ _ _
  with_reducible (apply keeps_readRange; assumption)

theorem keeps_pullOrder {s0 s : State} {a1} (h : s0.Keeps s) : s0.Keeps (State.pullOrder s a1) := by
  unfold State.pullOrder
  with_reducible (apply keeps_releaseHalves; apply keeps_modOrder; apply keeps_pullReads; assumption)

theorem keeps_makeSpaceFor {s0 s : State} {a1} (h : s0.Keeps s) : s0.Keeps (State.makeSpaceFor s a1) := by
  unfold State.makeSpaceFor
  split; with_reducible (assumption; apply keeps_setOrders; assumption)

theorem keeps_pullAhead {s0 s : State} {a1} (h : s0.Keeps s) : s0.Keeps (State.pullAhead s a1) := by
  unfold State.pullAhead
  split; split; with_reducible (assumption; apply keeps_pullOrder; assumption; assumption)

theorem keeps_commitOrder {s0 s : State} {a1 a2} (h : s0.Keeps s) : s0.Keeps (State.commitOrder s a1 a2) := by
  unfold State.commitOrder
  with_reducible (apply keeps_releaseHalves; apply keeps_inc64; apply keeps_modOrder; assumption)

theorem keeps_dumpRead {s0 s : State} {a1 a2 a3} (h : s0.Keeps s) : s0.Keeps (State.dumpRead s a1 a2 a3) := by
  unfold State.dumpRead
  dsimp only; split; with_reducible (apply keeps_commitOrder; apply keeps_inc64; apply keeps_mk; apply keeps_setAcc); split; split
  with_reducible apply keeps_inc64; split
  with_reducible (apply keeps_readRange; apply keeps_granaryEcc; assumption; apply keeps_granaryEcc; assumption); split
  with_reducible (apply keeps_readRange; apply keeps_granaryEcc; assumption; apply keeps_granaryEcc; assumption); split
  with_reducible apply keeps_inc64; split
  with_reducible (apply keeps_readRange; apply keeps_granaryEcc; assumption; apply keeps_granaryEcc; assumption); split
  with_reducible (apply keeps_readRange; apply keeps_granaryEcc; assumption; apply keeps_granaryEcc; assumption; apply keeps_commitOrder)
  with_reducible (apply keeps_inc64; apply keeps_mk); split
  with_reducible (apply keeps_setAcc; apply keeps_granaryEcc; assumption; apply keeps_granaryEcc; assumption)

theorem keeps_startOrder {s0 s : State} {a1 a2 a3} (h : s0.Keeps s) : s0.Keeps (State.startOrder s a1 a2 a3) := by
  unfold State.startOrder
  dsimp only; with_reducible (apply keeps_wakePort; apply keeps_pullAhead); split
  with_reducible (apply keeps_commitOrder; apply keeps_clearBin; apply keeps_releaseHalves; apply keeps_modOrder); split
  with_reducible (assumption; apply keeps_pullOrder; apply keeps_makeSpaceFor; assumption); split; split; split
  with_reducible (apply keeps_releaseHalves; apply keeps_modOrder; assumption; apply keeps_dumpRead; apply keeps_releaseHalves)
  with_reducible (apply keeps_modOrder; assumption); split
  with_reducible (apply keeps_releaseHalves; apply keeps_modOrder; apply keeps_pullOrder; apply keeps_makeSpaceFor; assumption)
  with_reducible (apply keeps_dumpRead; apply keeps_releaseHalves; apply keeps_modOrder; apply keeps_pullOrder; apply keeps_makeSpaceFor)
  with_reducible (assumption; apply keeps_releaseHalves; apply keeps_modOrder); split
  with_reducible (assumption; apply keeps_pullOrder; apply keeps_makeSpaceFor; assumption)

theorem keeps_execWorkOrderStart {s0 s : State} {a0 a1} (h : s0.Keeps s) : KeepsR s0 (execWorkOrderStart a0 a1 s) := by
  unfold execWorkOrderStart
  with_reducible apply keepsR_inst; split; with_reducible (apply keepsR_next; assumption); split; split
  with_reducible (apply keepsR_next; assumption; apply keepsR_next; apply keeps_startOrder; assumption; apply keepsR_next; assumption)

theorem keeps_execClassUYield {s0 s : State} {a0} (h : s0.Keeps s) : KeepsR s0 (execClassUYield a0 s) := by
  unfold execClassUYield
  with_reducible apply keepsR_inst; split; with_reducible (apply keepsR_next; assumption); split; split
  with_reducible (apply keepsR_next; apply keeps_inc64; apply keeps_modOrder; assumption; apply keepsR_next; assumption)
  with_reducible (apply keepsR_next; assumption)

theorem keeps_execPassOverflow {s0 s : State} {a0} (h : s0.Keeps s) : KeepsR s0 (execPassOverflow a0 s) := by
  unfold execPassOverflow
  with_reducible apply keepsR_inst; split; split
  with_reducible (apply keepsR_next; apply keeps_countE; apply keeps_inc64; apply keeps_inc64; apply keeps_modOrder; assumption)
  with_reducible (apply keepsR_next; assumption; apply keepsR_next; assumption)

theorem keeps_execPassComplete {s0 s : State} {a0} (h : s0.Keeps s) : KeepsR s0 (execPassComplete a0 s) := by
  unfold execPassComplete
  with_reducible apply keepsR_inst; split; dsimp only; split; split; with_reducible (apply keepsR_next; assumption; apply keepsR_next)
  split; with_reducible (apply keeps_faultDone; apply keeps_modOrder); split
  with_reducible (apply keeps_inc64; apply keeps_setTile; assumption; apply keeps_setTile; assumption; apply keeps_modOrder); split
  with_reducible (apply keeps_inc64; apply keeps_setTile; assumption; apply keeps_setTile; assumption; apply keepsR_next; assumption)
  with_reducible (apply keepsR_next; assumption)

theorem keeps_freeBank {s0 s : State} {a1 a2} (h : s0.Keeps s) : s0.Keeps (State.freeBank s a1 a2) := by
  unfold State.freeBank
  dsimp only; with_reducible (apply keeps_setTile; assumption)

theorem keeps_foldBank {s0 s : State} {a1 a2 a3} (h : s0.Keeps s) : s0.Keeps (State.foldBank s a1 a2 a3) := by
  unfold State.foldBank
  dsimp only; split; with_reducible (apply keeps_inc32; apply keeps_setAcc; apply keeps_setAcc; assumption); split
  with_reducible apply keeps_inc32; split; with_reducible apply keeps_inc64; split; with_reducible apply keeps_inc64; split
  with_reducible (apply keeps_inc64; apply keeps_inc64; apply keeps_inc64; apply keeps_setAcc; assumption; apply keeps_inc64)
  with_reducible (apply keeps_inc64; apply keeps_setAcc; assumption); split
  with_reducible (apply keeps_inc64; apply keeps_inc64; apply keeps_inc64; apply keeps_setAcc; assumption; apply keeps_inc64)
  with_reducible (apply keeps_inc64; apply keeps_setAcc; assumption); split; with_reducible apply keeps_inc64; split
  with_reducible (apply keeps_inc64; apply keeps_inc64; apply keeps_inc64; apply keeps_setAcc; assumption; apply keeps_inc64)
  with_reducible (apply keeps_inc64; apply keeps_setAcc; assumption); split
  with_reducible (apply keeps_inc64; apply keeps_inc64; apply keeps_inc64; apply keeps_setAcc; assumption; apply keeps_inc64)
  with_reducible (apply keeps_inc64; apply keeps_setAcc; assumption); split; with_reducible apply keeps_inc64; split
  with_reducible apply keeps_inc64; split
  with_reducible (apply keeps_inc64; apply keeps_inc64; apply keeps_inc64; apply keeps_setAcc; assumption; apply keeps_inc64)
  with_reducible (apply keeps_inc64; apply keeps_setAcc; assumption); split
  with_reducible (apply keeps_inc64; apply keeps_inc64; apply keeps_inc64; apply keeps_setAcc; assumption; apply keeps_inc64)
  with_reducible (apply keeps_inc64; apply keeps_setAcc; assumption); split; with_reducible apply keeps_inc64; split
  with_reducible (apply keeps_inc64; apply keeps_inc64; apply keeps_inc64; apply keeps_setAcc; assumption; apply keeps_inc64)
  with_reducible (apply keeps_inc64; apply keeps_setAcc; assumption); split
  with_reducible (apply keeps_inc64; apply keeps_inc64; apply keeps_inc64; apply keeps_setAcc; assumption; apply keeps_inc64)
  with_reducible (apply keeps_inc64; apply keeps_setAcc; assumption)

theorem keeps_foldEnd {s0 s : State} {a1 a2 a3 a4} (h : s0.Keeps s) : s0.Keeps (State.foldEnd s a1 a2 a3 a4) := by
  unfold State.foldEnd
  with_reducible (apply keeps_pullAhead; apply keeps_commitOrder; apply keeps_freeBank; apply keeps_foldBank; assumption)

theorem keeps_foldStep {s0 s : State} {a1 a2 a3 a4} (h : s0.Keeps s) : s0.Keeps (State.foldStep s a1 a2 a3 a4) := by
  unfold State.foldStep
  split; with_reducible (apply keeps_inc64; apply keeps_freeBank; assumption); dsimp only; split; split; split
  with_reducible (apply keeps_modOrder; apply keeps_granaryEcc; assumption; apply keeps_inc64; apply keeps_modOrder; apply keeps_setTile)
  with_reducible (apply keeps_granaryEcc; assumption; apply keeps_foldEnd; apply keeps_granaryEcc; assumption); split; split
  with_reducible (apply keeps_modOrder; apply keeps_granaryEcc; assumption; apply keeps_inc64; apply keeps_modOrder; apply keeps_setTile)
  with_reducible (apply keeps_granaryEcc; assumption; apply keeps_foldEnd; apply keeps_granaryEcc; assumption)

theorem keeps_execFoldComplete {s0 s : State} {a0 a1} (h : s0.Keeps s) : KeepsR s0 (execFoldComplete a0 a1 s) := by
  unfold execFoldComplete
  with_reducible apply keepsR_inst; split
  with_reducible (apply keepsR_next; apply keeps_foldStep; assumption; apply keepsR_next; assumption)

theorem keeps_spillHalf {s0 s : State} {a1 a2 a3 a4 a5} (h : s0.Keeps s) : s0.Keeps (State.spillHalf s a1 a2 a3 a4 a5) := by
  unfold State.spillHalf
  dsimp only; split; split; split; with_reducible apply keeps_setAcc; split
  with_reducible (apply keeps_inc64; apply keeps_store; apply keeps_readRange; assumption; apply keeps_store; apply keeps_readRange)
  with_reducible (assumption; apply keeps_setAcc; apply keeps_readRange; assumption); split; with_reducible apply keeps_setAcc; split
  with_reducible (apply keeps_inc64; apply keeps_store; assumption; apply keeps_store; assumption; apply keeps_setAcc; assumption)
  with_reducible apply keeps_setAcc; split; with_reducible (apply keeps_readRange; assumption; assumption)

theorem keeps_execSpillComplete {s0 s : State} {a0 a1} (h : s0.Keeps s) : KeepsR s0 (execSpillComplete a0 a1 s) := by
  unfold execSpillComplete
  with_reducible apply keepsR_inst; split; with_reducible (apply keepsR_next; assumption); dsimp only; split
  with_reducible (apply keepsR_next; apply keeps_foldEnd; apply keeps_setTile; apply keeps_spillHalf; apply keeps_granaryEcc; assumption)
  with_reducible (apply keepsR_next; apply keeps_inc64; apply keeps_freeBank; apply keeps_setTile; apply keeps_spillHalf)
  with_reducible (apply keeps_granaryEcc; assumption)

theorem keeps_execWorkOrderComplete {s0 s : State} {a0} (h : s0.Keeps s) : KeepsR s0 (execWorkOrderComplete a0 s) := by
  unfold execWorkOrderComplete
  with_reducible apply keepsR_inst; split; dsimp only; split
  with_reducible (apply keepsR_next; apply keeps_inc64; apply keeps_modOrder; assumption; apply keepsR_next; apply keeps_releaseHalves)
  with_reducible (apply keeps_inc64; apply keeps_setOrders; assumption; apply keepsR_next; assumption)

theorem keeps_showBay {s0 s : State} {a1} (h : s0.Keeps s) : s0.Keeps (State.showBay s a1) := by
  unfold State.showBay
  dsimp only; with_reducible (apply keeps_setReg; apply keeps_setReg; apply keeps_setReg; apply keeps_setReg; assumption)

theorem keeps_setTileState {s0 s : State} {a1 a2 a3 a4} (h : s0.Keeps s) : s0.Keeps (State.setTileState s a1 a2 a3 a4) := by
  unfold State.setTileState
  with_reducible (apply keeps_setReg; apply keeps_setReg; apply keeps_setReg; assumption)

theorem keeps_retireTile {s0 s : State} {a1 a2 a3} (h : s0.Keeps s) : s0.Keeps (State.retireTile s a1 a2 a3) := by
  unfold State.retireTile
  with_reducible (apply keeps_setTileState; apply keeps_setTile; assumption)

theorem keeps_setPlacement {s0 s : State} {a1 a2 a3} (h : s0.Keeps s) : s0.Keeps (State.setPlacement s a1 a2 a3) := by
  unfold State.setPlacement
  with_reducible (apply keeps_setReg; assumption)

theorem keeps_bumpEpoch {s0 s : State} {a1} (h : s0.Keeps s) : s0.Keeps (State.bumpEpoch s a1) := by
  unfold State.bumpEpoch
  with_reducible (apply keeps_setPlacement; assumption)

theorem keeps_returnOrders {s0 s : State} {a1} (h : s0.Keeps s) : s0.Keeps (State.returnOrders s a1) := by
  unfold State.returnOrders
  dsimp only; with_reducible (apply keeps_setOrders; assumption)

theorem keeps_discardOrders {s0 s : State} {a1} (h : s0.Keeps s) : s0.Keeps (State.discardOrders s a1) := by
  unfold State.discardOrders
  dsimp only; with_reducible (apply keeps_wakePort; apply keeps_each; apply keeps_each; apply keeps_setOrders; assumption); intro _ _ _
  split; with_reducible (apply keeps_inc64; apply keeps_mk; apply keeps_inc32; apply keeps_inc64; assumption; apply keeps_inc32)
  with_reducible (apply keeps_inc64; assumption); intro _ _ _; with_reducible (apply keeps_releaseHalves; assumption)

theorem keeps_unplace {s0 s : State} {a1 a2 a3} (h : s0.Keeps s) : s0.Keeps (State.unplace s a1 a2 a3) := by
  unfold State.unplace
  dsimp only
  with_reducible (apply keeps_showBay; apply keeps_faultDone; apply keeps_fire; apply keeps_discardOrders; apply keeps_retireTile)
  with_reducible (apply keeps_setPlacement; assumption)

theorem keeps_startReseat {s0 s : State} {bay fuel : Nat} (h : s0.Keeps s) : s0.Keeps (s.startReseat bay fuel) := by
  induction fuel generalizing s with
  | zero => exact h
  | succ n ih =>
    unfold State.startReseat
    split
    · exact keeps_setReg h
    · split
      · exact h
      · split
        · exact keeps_setReg (keeps_setReseats h)
        · apply ih
          split
          · exact keeps_unplace (keeps_setReseats h)
          · exact keeps_setReseats h

theorem keeps_failServing {s0 s : State} {a1 a2 a3} (h : s0.Keeps s) : s0.Keeps (State.failServing s a1 a2 a3) := by
  unfold State.failServing
  dsimp only; with_reducible (apply keeps_startReseat; apply keeps_setReseats; apply keeps_returnOrders; apply keeps_bumpEpoch); split
  with_reducible (apply keeps_faultDone; assumption; assumption)

theorem keeps_failIdle {s0 s : State} {a1 a2} (h : s0.Keeps s) : s0.Keeps (State.failIdle s a1 a2) := by
  unfold State.failIdle
  dsimp only
  with_reducible (apply keeps_startReseat; apply keeps_showBay; apply keeps_setReseats; apply keeps_each; apply keeps_faultDone)
  with_reducible (apply keeps_setTileState; assumption); intro _ _ _; with_reducible (apply keeps_bumpEpoch; assumption)

theorem keeps_failAs {s0 s : State} {a1 a2 a3} (h : s0.Keeps s) : s0.Keeps (State.failAs s a1 a2 a3) := by
  unfold State.failAs
  split; with_reducible (apply keeps_failServing; assumption; apply keeps_failIdle; assumption)

theorem keeps_tileFail {s0 s : State} {a1 a2} (h : s0.Keeps s) : s0.Keeps (State.tileFail s a1 a2) := by
  unfold State.tileFail
  dsimp only; with_reducible (apply keeps_failAs; apply keeps_faultStart; assumption)

theorem keeps_execTileFail {s0 s : State} {a0 a1} (h : s0.Keeps s) : KeepsR s0 (execTileFail a0 a1 s) := by
  unfold execTileFail
  with_reducible apply keepsR_inst; split
  with_reducible (apply keepsR_next; apply keeps_tileFail; assumption; apply keepsR_next; assumption)

theorem keeps_execResidueMismatch {s0 s : State} {a0} (h : s0.Keeps s) : KeepsR s0 (execResidueMismatch a0 s) := by
  unfold execResidueMismatch
  with_reducible apply keepsR_inst; split; split; with_reducible (apply keepsR_next; assumption); split
  with_reducible (apply keepsR_next; apply keeps_tileFail; assumption); split
  with_reducible (apply keepsR_next; apply keeps_tileFail; assumption); dsimp only
  with_reducible (apply keepsR_next; apply keeps_countE; apply keeps_inc64; apply keeps_faultStart; apply keeps_modOrder)
  with_reducible (apply keeps_setTile; assumption; apply keepsR_next; assumption)

theorem keeps_copyTile {s0 s : State} {a1 a2} (h : s0.Keeps s) : s0.Keeps (State.copyTile s a1 a2) := by
  unfold State.copyTile
  dsimp only; with_reducible (apply keeps_mk; assumption)

theorem keeps_voidBins {s0 s : State} {a1} (h : s0.Keeps s) : s0.Keeps (State.voidBins s a1) := by
  unfold State.voidBins
  with_reducible (apply keeps_each; assumption); intro _ _ _; with_reducible (apply keeps_setAcc; assumption)

theorem keeps_oweWeights {s0 s : State} {a1} (h : s0.Keeps s) : s0.Keeps (State.oweWeights s a1) := by
  unfold State.oweWeights
  dsimp only; with_reducible (apply keeps_mk; assumption)

theorem keeps_reseatEnd {s0 s : State} {a1 a2 a3 a4} (h : s0.Keeps s) : s0.Keeps (State.reseatEnd s a1 a2 a3 a4) := by
  unfold State.reseatEnd
  dsimp only; with_reducible (apply keeps_startReseat; apply keeps_showBay; apply keeps_fire; apply keeps_inc32; apply keeps_setReseats)
  split; with_reducible (apply keeps_faultDone; apply keeps_retireTile; apply keeps_setPlacement; apply keeps_setTileState)
  with_reducible (apply keeps_copyTile; assumption; apply keeps_oweWeights; apply keeps_setPlacement; apply keeps_setTileState)
  with_reducible (apply keeps_voidBins; assumption)

theorem keeps_execReseatComplete {s0 s : State} {a0} (h : s0.Keeps s) : KeepsR s0 (execReseatComplete a0 s) := by
  unfold execReseatComplete
  with_reducible apply keepsR_inst; split; split; split
  with_reducible (apply keepsR_next; assumption; apply keepsR_next; apply keeps_reseatEnd; assumption; apply keepsR_next; assumption)
  with_reducible (apply keepsR_next; assumption)

theorem keeps_cmdRetest {s0 s : State} {a0} (h : s0.Keeps s) : KeepsV s0 (cmdRetest a0 s) := by
  unfold cmdRetest
  with_reducible (apply keepsV_accept; apply keeps_mk; assumption)

theorem keeps_execRetestComplete {s0 s : State} {a0 a1} (h : s0.Keeps s) : KeepsR s0 (execRetestComplete a0 a1 s) := by
  unfold execRetestComplete
  with_reducible apply keepsR_inst; split; dsimp only; split; split
  with_reducible (apply keepsR_next; apply keeps_startReseat; apply keeps_setReseats; apply keeps_bumpEpoch; apply keeps_showBay)
  with_reducible (apply keeps_setTileState; apply keeps_mk; assumption; apply keepsR_next; apply keeps_showBay; apply keeps_setTileState)
  with_reducible (apply keeps_mk; assumption; apply keepsR_next; apply keeps_setReg; apply keeps_mk; assumption; apply keepsR_next)
  with_reducible assumption

theorem keeps_xarrayAfter {s0 s : State} {a1 a2 a3} (h : s0.Keeps s) : s0.Keeps (xarrayAfter s a1 a2 a3) := by
  unfold xarrayAfter
  split; dsimp only; with_reducible (apply keeps_each; assumption); intro _ _ _; split
  with_reducible (apply keeps_clearBin; assumption; assumption; assumption)

end Sys2Proof.Machine
end

