-- ==== Sys2Proof/Laws/KeepsOutputs.lean ====
section
/-! SUPPORT. What the definitions of Machine/Outputs.lean keep (State.Keeps). -/

set_option Elab.async false

namespace Sys2Proof.Machine

theorem keeps_modX {s0 s : State} {a1} (h : s0.Keeps s) : s0.Keeps (State.modX s a1) := by
  unfold State.modX
  with_reducible (apply keeps_mk; assumption)

theorem keeps_leavePath {s0 s : State} {a1 a2} (h : s0.Keeps s) : s0.Keeps (State.leavePath s a1 a2) := by
  unfold State.leavePath
  dsimp only; split; split
  with_reducible (apply keeps_dumpRead; apply keeps_modX; assumption; apply keeps_modX; assumption; apply keeps_modX; assumption)

theorem keeps_execDumpRecordStaged {s0 s : State} {a0} (h : s0.Keeps s) : KeepsR s0 (execDumpRecordStaged a0 s) := by
  unfold execDumpRecordStaged
  split; with_reducible (apply keepsR_next; assumption); split
  with_reducible (apply keepsR_next; apply keeps_inc64; apply keeps_leavePath; assumption); split
  with_reducible (apply keepsR_next; assumption); dsimp only
  with_reducible (apply keepsR_next; apply keeps_leavePath; apply keeps_store; apply keeps_modX; assumption)

theorem keeps_freeStaged {s0 s : State} {a1} (h : s0.Keeps s) : s0.Keeps (State.freeStaged s a1) := by
  unfold State.freeStaged
  with_reducible (apply keeps_modX; assumption)

theorem keeps_readStaged {s0 s : State} {a1} (h : s0.Keeps s) : s0.Keeps (State.readStaged s a1) := by
  unfold State.readStaged
  with_reducible (apply keeps_readRange; assumption)

theorem keeps_sendFragments {s0 s : State} {a1 a2 a3} (h : s0.Keeps s) : s0.Keeps (State.sendFragments s a1 a2 a3) := by
  unfold State.sendFragments
  dsimp only; with_reducible (apply keeps_setStream; assumption)

theorem keeps_reformFragments {s0 s : State} (h : s0.Keeps s) : s0.Keeps (State.reformFragments s) := by
  unfold State.reformFragments
  with_reducible (apply keeps_each; assumption); intro _ _ _; split; split; split; dsimp only
  with_reducible (apply keeps_setStream; assumption; assumption; assumption; assumption)

theorem keeps_execRecordFragmentsSend {s0 s : State} {a0} (h : s0.Keeps s) : KeepsR s0 (execRecordFragmentsSend a0 s) := by
  unfold execRecordFragmentsSend
  with_reducible apply keepsR_inst; split; with_reducible (apply keepsR_next; assumption); split
  with_reducible (apply keepsR_next; assumption); split
  with_reducible (apply keepsR_next; apply keeps_inc64; apply keeps_freeStaged; assumption; apply keepsR_next; assumption); dsimp only
  split; with_reducible (apply keepsR_next; assumption; apply keepsR_next; apply keeps_sendFragments; apply keeps_readStaged; assumption)

theorem keeps_formatVoltage {s0 s : State} {a1 a2 a3 a4} (h : s0.Keeps s) : s0.Keeps (State.formatVoltage s a1 a2 a3 a4) := by
  unfold State.formatVoltage
  dsimp only; with_reducible (apply keeps_inc64; apply keeps_inc64; apply keeps_streamPut; apply keeps_streamPut; assumption)

theorem keeps_feedMonitors {s0 s : State} {a1 a2 a3} (h : s0.Keeps s) : s0.Keeps (State.feedMonitors s a1 a2 a3) := by
  unfold State.feedMonitors
  with_reducible (apply keeps_each; assumption); intro _ _ _; with_reducible (apply keeps_each; assumption); intro _ _ _
  with_reducible (apply keeps_winPush; assumption)

theorem keeps_closePower {s0 s : State} {a1 a2 a3} (h : s0.Keeps s) : s0.Keeps (State.closePower s a1 a2 a3) := by
  unfold State.closePower
  dsimp only; with_reducible apply keeps_feedMonitors; split; split
  with_reducible (apply keeps_each; apply keeps_inc32; apply keeps_modX; assumption); intro _ _ _
  with_reducible (apply keeps_streamPut; assumption; apply keeps_inc32; apply keeps_modX; assumption); split
  with_reducible (apply keeps_each; apply keeps_modX; assumption); intro _ _ _
  with_reducible (apply keeps_streamPut; assumption; apply keeps_modX; assumption)

theorem keeps_closeAll {s0 s : State} {a1} (h : s0.Keeps s) : s0.Keeps (State.closeAll s a1) := by
  unfold State.closeAll
  with_reducible (apply keeps_each; assumption); intro _ _ _; with_reducible (apply keeps_closePower; assumption)

theorem keeps_contribute {s0 s : State} {a1 a2 a3} (h : s0.Keeps s) : s0.Keeps (State.contribute s a1 a2 a3) := by
  unfold State.contribute
  dsimp only; split; split
  with_reducible (apply keeps_closePower; apply keeps_modX; assumption; apply keeps_modX; assumption; apply keeps_modX; assumption)

theorem keeps_openPower {s0 s : State} {a1 a2 a3} (h : s0.Keeps s) : s0.Keeps (State.openPower s a1 a2 a3) := by
  unfold State.openPower
  dsimp only; with_reducible (apply keeps_modX; apply keeps_each; assumption); intro _ _ _
  with_reducible (apply keeps_closePower; assumption)

theorem keeps_formatPower {s0 s : State} {a1 a2 a3} (h : s0.Keeps s) : s0.Keeps (State.formatPower s a1 a2 a3) := by
  unfold State.formatPower
  split; with_reducible (apply keeps_closeAll; assumption); dsimp only; split; with_reducible (apply keeps_inc64; assumption); split
  with_reducible (apply keeps_contribute; apply keeps_inc64; assumption); split
  with_reducible (apply keeps_contribute; apply keeps_openPower; apply keeps_inc64; assumption; apply keeps_inc32; assumption)

theorem keeps_formatRecord {s0 s : State} {a1 a2 a3 a4} (h : s0.Keeps s) : s0.Keeps (State.formatRecord s a1 a2 a3 a4) := by
  unfold State.formatRecord
  dsimp only; split; with_reducible (apply keeps_inc32; assumption); split; with_reducible apply keeps_formatPower; split
  with_reducible apply keeps_formatVoltage; split; with_reducible (assumption; apply keeps_inc64; assumption); split
  with_reducible (assumption; apply keeps_inc64; assumption); split; with_reducible apply keeps_formatVoltage; split
  with_reducible (assumption; apply keeps_inc64; assumption); split; with_reducible (assumption; apply keeps_inc64; assumption)

theorem keeps_execFormatRecord {s0 s : State} {a0} (h : s0.Keeps s) : KeepsR s0 (execFormatRecord a0 s) := by
  unfold execFormatRecord
  with_reducible apply keepsR_inst; split; with_reducible (apply keepsR_next; assumption); split
  with_reducible (apply keepsR_next; assumption); dsimp only; split; split
  with_reducible (apply keepsR_next; apply keeps_freeStaged; apply keeps_formatRecord; apply keeps_readStaged; assumption)
  with_reducible (apply keepsR_next; assumption; apply keepsR_next; apply keeps_inc64; apply keeps_freeStaged; assumption)
  with_reducible (apply keepsR_next; assumption)

theorem keeps_formatterTurnsOff {s0 s : State} (h : s0.Keeps s) : s0.Keeps (State.formatterTurnsOff s) := by
  unfold State.formatterTurnsOff
  with_reducible (apply keeps_modX; apply keeps_each; assumption); intro _ _ _; with_reducible (apply keeps_closeAll; assumption)

theorem keeps_keepWeights {s0 s : State} {a1 a2 a3} (h : s0.Keeps s) : s0.Keeps (State.keepWeights s a1 a2 a3) := by
  unfold State.keepWeights
  split; with_reducible (assumption; apply keeps_store; assumption)

theorem keeps_oweLoads {s0 s : State} {a1 a2} (h : s0.Keeps s) : s0.Keeps (State.oweLoads s a1 a2) := by
  unfold State.oweLoads
  with_reducible (apply keeps_modX; assumption)

theorem keeps_weightsLive {s0 s : State} {a1 a2} (h : s0.Keeps s) : s0.Keeps (State.weightsLive s a1 a2) := by
  unfold State.weightsLive
  with_reducible (apply keeps_oweLoads; apply keeps_keepWeights; assumption)

theorem keeps_moveWeights {s0 s : State} (h : s0.Keeps s) : s0.Keeps (State.moveWeights s) := by
  unfold State.moveWeights
  with_reducible (apply keeps_each; assumption); intro _ _ _; dsimp only; split
  with_reducible (apply keeps_keepWeights; apply keeps_keepWeights; assumption; apply keeps_keepWeights; assumption)

theorem keeps_loadSlots {s0 s : State} {a1 a2} (h : s0.Keeps s) : s0.Keeps (State.loadSlots s a1 a2) := by
  unfold State.loadSlots
  dsimp only; with_reducible (apply keeps_each; assumption); intro _ _ _; split; split
  with_reducible (apply keeps_readRange; assumption; apply keeps_inc64; apply keeps_modX; apply keeps_readRange; assumption); split
  with_reducible (apply keeps_readRange; assumption; apply keeps_inc64; apply keeps_modX; apply keeps_readRange; assumption)

theorem keeps_execWeightLoad {s0 s : State} {a0} (h : s0.Keeps s) : KeepsR s0 (execWeightLoad a0 s) := by
  unfold execWeightLoad
  with_reducible apply keepsR_inst; split; with_reducible (apply keepsR_next; assumption); dsimp only; split
  with_reducible (apply keepsR_next; assumption); split; split
  with_reducible (apply keepsR_next; assumption; apply keepsR_next; apply keeps_loadSlots; apply keeps_modX; assumption)
  with_reducible (apply keepsR_next; assumption)

theorem keeps_monitorEnabling {s0 s : State} {a1} (h : s0.Keeps s) : s0.Keeps (State.monitorEnabling s a1) := by
  unfold State.monitorEnabling
  with_reducible (apply keeps_takeChannel; assumption)

theorem keeps_monitorOff {s0 s : State} {a1} (h : s0.Keeps s) : s0.Keeps (State.monitorOff s a1) := by
  unfold State.monitorOff
  with_reducible (apply keeps_reachOff; apply keeps_leaveChannel; assumption); intro _ _
  with_reducible (apply keeps_monitorEnabling; assumption)

theorem keeps_setHoldoff {s0 s : State} {a1 a2} (h : s0.Keeps s) : s0.Keeps (State.setHoldoff s a1 a2) := by
  unfold State.setHoldoff
  with_reducible (apply keeps_mk; assumption)

theorem keeps_crossing {s0 s : State} {a1 a2} (h : s0.Keeps s) : s0.Keeps (State.crossing s a1 a2) := by
  unfold State.crossing
  dsimp only; split; split
  with_reducible (apply keeps_setReg; apply keeps_setHoldoff; apply keeps_fireAt; apply keeps_inc32; assumption; apply keeps_streamPut)
  with_reducible (apply keeps_setReg; apply keeps_setHoldoff; apply keeps_fireAt; apply keeps_inc32; assumption); split
  with_reducible (apply keeps_setReg; apply keeps_setHoldoff; apply keeps_fireAt; apply keeps_inc32; assumption; apply keeps_streamPut)
  with_reducible (apply keeps_setReg; apply keeps_setHoldoff; apply keeps_fireAt; apply keeps_inc32; assumption)

theorem keeps_compareValue {s0 s : State} {a1 a2} (h : s0.Keeps s) : s0.Keeps (State.compareValue s a1 a2) := by
  unfold State.compareValue
  dsimp only; split; split; with_reducible (apply keeps_crossing; apply keeps_setReg; assumption; apply keeps_setReg; assumption); split
  split
  with_reducible (apply keeps_setReg; apply keeps_setHoldoff; apply keeps_inc32; apply keeps_setReg; assumption; apply keeps_setHoldoff)
  with_reducible (apply keeps_inc32; apply keeps_setReg; assumption); split
  with_reducible (apply keeps_setReg; apply keeps_setHoldoff; apply keeps_setReg; assumption; apply keeps_setHoldoff; apply keeps_setReg)
  with_reducible assumption; split; with_reducible (apply keeps_setReg; apply keeps_setReg; assumption; apply keeps_setReg; assumption)

theorem keeps_monitorValue {s0 s : State} {a1 a2} (h : s0.Keeps s) : s0.Keeps (State.monitorValue s a1 a2) := by
  unfold State.monitorValue
  dsimp only; split; with_reducible (apply keeps_compareValue; apply keeps_setHoldoff; apply keeps_setReg; apply keeps_setReg; assumption)
  with_reducible (apply keeps_compareValue; assumption; apply keeps_monitorOff; assumption; apply keeps_monitorOff; assumption)
  with_reducible assumption

theorem keeps_execWinnowOutput {s0 s : State} (h : s0.Keeps s) : KeepsR s0 (execWinnowOutput s) := by
  unfold execWinnowOutput
  split; with_reducible (apply keepsR_next; assumption); dsimp only; with_reducible apply keepsR_next; split
  with_reducible (apply keeps_monitorValue; apply keeps_mk; assumption; apply keeps_mk; assumption)

theorem keeps_outputsAfter {s0 s : State} {a1 a2} (h : s0.Keeps s) : s0.Keeps (outputsAfter s a1 a2) := by
  unfold outputsAfter
  split; with_reducible (apply keeps_reformFragments; assumption); split; with_reducible (apply keeps_moveWeights; assumption); split
  with_reducible (apply keeps_oweLoads; assumption; assumption)

end Sys2Proof.Machine
end

