-- ==== Sys2Proof/Laws/KeepsDovetail.lean ====
section
/-! SUPPORT. What the definitions of Machine/Dovetail.lean keep (State.Keeps). -/

set_option Elab.async false

namespace Sys2Proof.Machine

theorem keeps_modDove {s0 s : State} {a1} (h : s0.Keeps s) : s0.Keeps (State.modDove s a1) := by
  unfold State.modDove
  with_reducible (apply keeps_mk; assumption)

theorem keeps_doveEnabling {s0 s : State} (h : s0.Keeps s) : s0.Keeps (State.doveEnabling s) := by
  unfold State.doveEnabling
  dsimp only; with_reducible (apply keeps_modDove; apply keeps_each; apply keeps_setReg; assumption); intro _ _ _
  with_reducible (apply keeps_setReg; apply keeps_setReg; assumption)

theorem keeps_applyCorr {s0 s : State} {a1} (h : s0.Keeps s) : s0.Keeps (State.applyCorr s a1) := by
  unfold State.applyCorr
  dsimp only; with_reducible (apply keeps_modDove; apply keeps_each; assumption); intro _ _ _
  with_reducible (apply keeps_setReg; apply keeps_setReg; assumption)

theorem keeps_doveBoundary {s0 s : State} {a1 a2} (h : s0.Keeps s) : s0.Keeps (State.doveBoundary s a1 a2) := by
  unfold State.doveBoundary
  dsimp only; with_reducible (apply keeps_each; apply keeps_applyCorr; assumption); intro _ _ _
  with_reducible (apply keeps_setReg; apply keeps_setReg); split; split; with_reducible (apply keeps_inc32; assumption; assumption); split
  with_reducible apply keeps_inc32; split; with_reducible (apply keeps_inc32; assumption; assumption; apply keeps_inc32); split
  with_reducible (apply keeps_inc32; assumption; assumption)

theorem keeps_fifoPut {s0 s : State} {a1 a2 a3} (h : s0.Keeps s) : s0.Keeps (State.fifoPut s a1 a2 a3) := by
  unfold State.fifoPut
  with_reducible (apply keeps_modCam; apply keeps_store; assumption)

theorem keeps_regLine {s0 s : State} {a1 a2 a3} (h : s0.Keeps s) : s0.Keeps (State.regLine s a1 a2 a3) := by
  unfold State.regLine
  dsimp only; split; split; split; with_reducible (apply keeps_store; assumption; assumption; assumption; apply keeps_each); split; split
  with_reducible (apply keeps_store; assumption; assumption; assumption); intro _ _ _; split
  with_reducible (apply keeps_store; assumption; assumption)

theorem keeps_roundStart {s0 s : State} {a1 a2} (h : s0.Keeps s) : s0.Keeps (State.roundStart s a1 a2) := by
  unfold State.roundStart
  dsimp only; split; with_reducible assumption; split; split; with_reducible (apply keeps_inc32; apply keeps_each; assumption)
  intro _ _ _
  with_reducible (apply keeps_inc32; assumption; apply keeps_each; apply keeps_each; apply keeps_modDove; apply keeps_inc64; assumption)
  intro _ _ _; with_reducible (apply keeps_store; assumption); intro _ _ _; with_reducible (apply keeps_each; assumption); intro _ _ _
  with_reducible (apply keeps_regLine; assumption); split; with_reducible (apply keeps_inc32; apply keeps_each; assumption); intro _ _ _
  with_reducible (apply keeps_inc32; assumption; apply keeps_each; apply keeps_each; apply keeps_modDove; apply keeps_inc64; assumption)
  intro _ _ _; with_reducible (apply keeps_store; assumption); intro _ _ _; with_reducible (apply keeps_each; assumption); intro _ _ _
  with_reducible (apply keeps_regLine; assumption)

theorem keeps_regFeed {s0 s : State} {a1 a2} (h : s0.Keeps s) : s0.Keeps (State.regFeed s a1 a2) := by
  unfold State.regFeed
  split; split; with_reducible (assumption; apply keeps_each; assumption); intro _ _ _
  with_reducible (apply keeps_regLine; assumption; assumption)

theorem keeps_execStageBLine {s0 s : State} {a0} (h : s0.Keeps s) : KeepsR s0 (execStageBLine a0 s) := by
  unfold execStageBLine
  with_reducible apply keepsR_inst; split; dsimp only; with_reducible apply keepsR_next; split
  with_reducible (apply keeps_stageB; apply keeps_modFront; assumption; apply keeps_regFeed; apply keeps_fifoPut; apply keeps_stageB)
  with_reducible (apply keeps_modFront; assumption; apply keepsR_next; assumption)

theorem keeps_execRegReady {s0 s : State} (h : s0.Keeps s) : KeepsR s0 (execRegReady s) := by
  unfold execRegReady
  split; dsimp only; split
  with_reducible (apply keepsR_next; apply keeps_fire; apply keeps_modDove; assumption; apply keepsR_next; assumption; apply keepsR_next)
  with_reducible assumption

theorem keeps_regCopied {s0 s : State} (h : s0.Keeps s) : s0.Keeps (State.regCopied s) := by
  unfold State.regCopied
  split; dsimp only; split
  with_reducible (apply keeps_fire; apply keeps_store; apply keeps_modDove; assumption; apply keeps_modDove; assumption; assumption)

theorem keeps_execRegRecordTake {s0 s : State} (h : s0.Keeps s) : KeepsR s0 (execRegRecordTake s) := by
  unfold execRegRecordTake
  split; with_reducible (apply keepsR_next; assumption); split; with_reducible (apply keepsR_next; assumption); dsimp only; split
  with_reducible (apply keepsR_next; apply keeps_regCopied; apply keeps_store; apply keeps_freeStaged; apply keeps_readStaged)
  with_reducible (assumption; apply keepsR_next; apply keeps_inc32; apply keeps_freeStaged; apply keeps_readStaged; assumption)

theorem keeps_takeUpdate {s0 s : State} {a1 a2} (h : s0.Keeps s) : s0.Keeps (State.takeUpdate s a1 a2) := by
  unfold State.takeUpdate
  with_reducible (apply keeps_each; assumption); intro _ _ _; dsimp only; with_reducible (apply keeps_modDove; assumption)

theorem keeps_doveShift {s0 s : State} (h : s0.Keeps s) : s0.Keeps (State.doveShift s) := by
  unfold State.doveShift
  split; with_reducible assumption; dsimp only; split; split
  with_reducible (apply keeps_takeUpdate; apply keeps_readRange; assumption; apply keeps_fire; apply keeps_inc32; apply keeps_readRange)
  with_reducible (assumption; apply keeps_fire; apply keeps_inc32; apply keeps_readRange; assumption)

theorem keeps_execDoveShift {s0 s : State} (h : s0.Keeps s) : KeepsR s0 (execDoveShift s) := by
  unfold execDoveShift
  split; with_reducible (apply keepsR_next; apply keeps_doveShift; apply keeps_takeInput; assumption; apply keepsR_next; assumption)

theorem keeps_cmdClearCorr {s0 s : State} {a0} (h : s0.Keeps s) : KeepsV s0 (cmdClearCorr a0 s) := by
  unfold cmdClearCorr
  dsimp only; with_reducible (apply keepsV_accept; apply keeps_modDove; assumption)

theorem keeps_roundBoundary {s0 s : State} {a1} (h : s0.Keeps s) : s0.Keeps (State.roundBoundary s a1) := by
  unfold State.roundBoundary
  split; split; with_reducible (apply keeps_modDove; apply keeps_each; assumption); intro _ _ _
  with_reducible (apply keeps_inc32; assumption; assumption; assumption)

theorem keeps_frameOpen {s0 s : State} {a1 a2} (h : s0.Keeps s) : s0.Keeps (State.frameOpen s a1 a2) := by
  unfold State.frameOpen
  split; with_reducible (apply keeps_modFront; assumption); split; dsimp only
  with_reducible (apply keeps_modFront; apply keeps_setReg; apply keeps_setReg; apply keeps_setReg; apply keeps_setReg; assumption)
  with_reducible (apply keeps_modFront; apply keeps_fire; apply keeps_inc32; assumption)

theorem keeps_frameLine {s0 s : State} {a1 a2 a3} (h : s0.Keeps s) : s0.Keeps (State.frameLine s a1 a2 a3) := by
  unfold State.frameLine
  split; with_reducible assumption; dsimp only; with_reducible (apply keeps_setReg; apply keeps_store; assumption)

theorem keeps_execFrameSlotFilled {s0 s : State} (h : s0.Keeps s) : KeepsR s0 (execFrameSlotFilled s) := by
  unfold execFrameSlotFilled
  split; dsimp only
  with_reducible (apply keepsR_next; apply keeps_modFront; apply keeps_setReg; assumption; apply keepsR_next; assumption)

theorem keeps_cmdHold {s0 s : State} {a0} (h : s0.Keeps s) : KeepsV s0 (cmdHold a0 s) := by
  unfold cmdHold
  split; with_reducible apply keepsV_error; split
  with_reducible (apply keepsV_ok; apply keeps_modFront; assumption; apply keepsV_ok; apply keeps_setReg; assumption; apply keepsV_error)

theorem keeps_holdEvent {s0 s : State} (h : s0.Keeps s) : s0.Keeps (State.holdEvent s) := by
  unfold State.holdEvent
  split; with_reducible (apply keeps_modFront; assumption; assumption)

theorem keeps_cmdSlotRelease {s0 s : State} {a0} (h : s0.Keeps s) : KeepsV s0 (cmdSlotRelease a0 s) := by
  unfold cmdSlotRelease
  with_reducible (apply keepsV_accept; apply keeps_setReg; assumption)

theorem keeps_fifoRead {s0 s : State} {a1 a2 a3} (h : s0.Keeps s) : s0.Keeps (State.fifoRead s a1 a2 a3) := by
  unfold State.fifoRead
  split; with_reducible assumption; dsimp only; with_reducible (apply keeps_readRange; assumption)

theorem keeps_feedScalers {s0 s : State} {a1 a2 a3} (h : s0.Keeps s) : s0.Keeps (State.feedScalers s a1 a2 a3) := by
  unfold State.feedScalers
  dsimp only; with_reducible (apply keeps_each; assumption); intro _ _ _; with_reducible (apply keeps_scalerLine; assumption)

theorem keeps_feedGleaner {s0 s : State} {a1 a2 a3} (h : s0.Keeps s) : s0.Keeps (State.feedGleaner s a1 a2 a3) := by
  unfold State.feedGleaner
  dsimp only; with_reducible apply keeps_mk; split; with_reducible (apply keeps_setReg; apply keeps_setReg; assumption; assumption)

theorem keeps_stitch {s0 s : State} {a1} (h : s0.Keeps s) : s0.Keeps (State.stitch s a1) := by
  unfold State.stitch
  dsimp only; split; split; split
  with_reducible (apply keeps_modDove; apply keeps_roundStart; apply keeps_modDove; apply keeps_inc64; apply keeps_feedGleaner)
  with_reducible (apply keeps_feedScalers; apply keeps_frameLine; apply keeps_frameOpen; apply keeps_each; assumption); intro _ _ _
  with_reducible (apply keeps_fifoRead; assumption; apply keeps_roundStart; apply keeps_modDove; apply keeps_inc64)
  with_reducible (apply keeps_feedGleaner; apply keeps_feedScalers; apply keeps_frameLine; apply keeps_frameOpen; apply keeps_each)
  with_reducible assumption; intro _ _ _; with_reducible (apply keeps_fifoRead; assumption); split
  with_reducible (apply keeps_modDove; apply keeps_modDove; apply keeps_inc64; apply keeps_feedGleaner; apply keeps_feedScalers)
  with_reducible (apply keeps_frameLine; apply keeps_frameOpen; apply keeps_each; assumption); intro _ _ _
  with_reducible (apply keeps_fifoRead; assumption; apply keeps_modDove; apply keeps_inc64; apply keeps_feedGleaner)
  with_reducible (apply keeps_feedScalers; apply keeps_frameLine; apply keeps_frameOpen; apply keeps_each; assumption); intro _ _ _
  with_reducible (apply keeps_fifoRead; assumption); split; split
  with_reducible (apply keeps_modDove; apply keeps_roundStart; apply keeps_modDove; apply keeps_inc64; apply keeps_feedGleaner)
  with_reducible (apply keeps_feedScalers; apply keeps_frameLine; apply keeps_each; assumption); intro _ _ _
  with_reducible (apply keeps_fifoRead; assumption; apply keeps_roundStart; apply keeps_modDove; apply keeps_inc64)
  with_reducible (apply keeps_feedGleaner; apply keeps_feedScalers; apply keeps_frameLine; apply keeps_each; assumption); intro _ _ _
  with_reducible (apply keeps_fifoRead; assumption); split
  with_reducible (apply keeps_modDove; apply keeps_modDove; apply keeps_inc64; apply keeps_feedGleaner; apply keeps_feedScalers)
  with_reducible (apply keeps_frameLine; apply keeps_each; assumption); intro _ _ _
  with_reducible (apply keeps_fifoRead; assumption; apply keeps_modDove; apply keeps_inc64; apply keeps_feedGleaner)
  with_reducible (apply keeps_feedScalers; apply keeps_frameLine; apply keeps_each; assumption); intro _ _ _
  with_reducible (apply keeps_fifoRead; assumption)

theorem keeps_execStitchedLine {s0 s : State} (h : s0.Keeps s) : KeepsR s0 (execStitchedLine s) := by
  unfold execStitchedLine
  split; with_reducible (apply keepsR_next; assumption); dsimp only; split; with_reducible (apply keepsR_next; assumption); split; split
  with_reducible (apply keepsR_next; apply keeps_stitch; apply keeps_doveBoundary; assumption; apply keepsR_next; assumption); split
  with_reducible (apply keepsR_next; apply keeps_stitch; assumption; apply keepsR_next; assumption)

theorem keeps_frameEdge {s0 s : State} {a1} (h : s0.Keeps s) : s0.Keeps (State.frameEdge s a1) := by
  unfold State.frameEdge
  dsimp only; split
  with_reducible (apply keeps_modDove; apply keeps_setReg; apply keeps_roundBoundary; apply keeps_each; apply keeps_settingsBoundary)
  with_reducible assumption; intro _ _ _
  with_reducible (apply keeps_modCam; apply keeps_setReg; assumption; apply keeps_roundBoundary; apply keeps_each)
  with_reducible (apply keeps_settingsBoundary; assumption); intro _ _ _
  with_reducible (apply keeps_modCam; apply keeps_setReg; assumption)

theorem keeps_execLineClockEdge {s0 s : State} (h : s0.Keeps s) : KeepsR s0 (execLineClockEdge s) := by
  unfold execLineClockEdge
  split; with_reducible (apply keepsR_next; assumption); dsimp only; split
  with_reducible (apply keepsR_next; apply keeps_modGen; assumption; apply keepsR_next); split; split
  with_reducible (apply keeps_frameEdge; apply keeps_statsLate; apply keeps_setReg; apply keeps_setReg; apply keeps_modFront)
  with_reducible (apply keeps_modFront; apply keeps_setReg; apply keeps_setReg; apply keeps_modGen; assumption); split
  with_reducible (apply keeps_roundBoundary; apply keeps_settingsBoundary; apply keeps_statsLate; apply keeps_setReg; apply keeps_setReg)
  with_reducible (apply keeps_modFront; apply keeps_modFront; apply keeps_setReg; apply keeps_setReg; apply keeps_modGen; assumption)
  with_reducible (apply keeps_statsLate; apply keeps_setReg; apply keeps_setReg; apply keeps_modFront; apply keeps_modFront)
  with_reducible (apply keeps_setReg; apply keeps_setReg; apply keeps_modGen; assumption); split
  with_reducible (apply keeps_frameEdge; apply keeps_statsLate; apply keeps_setReg; apply keeps_setReg; apply keeps_modFront)
  with_reducible (apply keeps_modGen; assumption); split
  with_reducible (apply keeps_roundBoundary; apply keeps_settingsBoundary; apply keeps_statsLate; apply keeps_setReg; apply keeps_setReg)
  with_reducible (apply keeps_modFront; apply keeps_modGen; assumption; apply keeps_statsLate; apply keeps_setReg; apply keeps_setReg)
  with_reducible (apply keeps_modFront; apply keeps_modGen; assumption)

theorem keeps_doveDisabling {s0 s : State} (h : s0.Keeps s) : s0.Keeps (State.doveDisabling s) := by
  unfold State.doveDisabling
  dsimp only; split; with_reducible assumption; split; with_reducible (apply keeps_modDove; assumption; apply keeps_modDove; assumption)

end Sys2Proof.Machine
end

