-- ==== Sys2Proof/Laws/KeepsGleaner.lean ====
section
/-! SUPPORT. What the definitions of Machine/Gleaner.lean keep (State.Keeps). -/

set_option Elab.async false

namespace Sys2Proof.Machine

theorem keeps_modGlean {s0 s : State} {a1} (h : s0.Keeps s) : s0.Keeps (State.modGlean s a1) := by
  unfold State.modGlean
  with_reducible (apply keeps_mk; assumption)

theorem keeps_Closing_record  {s0 : State} {c l cutIds} {o : Closing} {b : Blob} (h : s0.Keeps o.s) : s0.Keeps ((Closing.record c l cutIds o b).s) := by
  unfold Closing.record
  extract_lets s f n s1 s2 s3 q rules ws slots s4 s5 r
  have k : s0.Keeps s := h
  clear_value s
  split
  · show s0.Keeps s2
    simp only [s2, s1]
    split; with_reducible (apply keeps_fire; apply keeps_modGlean; apply keeps_inc32; assumption; apply keeps_inc32; assumption)
  · have k4 : s0.Keeps s4 := by
      simp only [s4, s3]
      split; with_reducible (apply keeps_modGlean; assumption; apply keeps_store; apply keeps_modGlean; assumption)
    clear_value s4
    have k5 : s0.Keeps s5 := by
      simp only [s5]
      with_reducible (apply keeps_inc64; apply keeps_setReg; assumption)
    clear_value s5
    show s0.Keeps r.1
    simp only [r]
    with_reducible (apply keeps_fst; apply keeps_foldl1; assumption); intro _ _ _; with_reducible apply keepsF_mk; split
    with_reducible (apply keeps_modList; apply keeps_inc32; assumption; apply keeps_inc32; apply keeps_modList; apply keeps_inc32)
    with_reducible assumption

theorem keeps_sendRecords {s0 s : State} {stream fuel : Nat} {rs} (h : s0.Keeps s) : s0.Keeps (s.sendRecords stream fuel rs) := by
  induction fuel generalizing s rs with
  | zero => exact h
  | succ n ih =>
    unfold State.sendRecords
    split
    · exact h
    · exact ih (keeps_streamPut h)

theorem keeps_closeBlobs  {s0 s : State} {c l bs cutIds} (h : s0.Keeps s) : s0.Keeps (State.closeBlobs s c l bs cutIds) := by
  have fold (l' : List Blob) (o : Closing) (k : s0.Keeps o.s) : s0.Keeps ((l'.foldl (Closing.record c l cutIds) o).s) := by
    induction l' generalizing o with
    | nil => exact k
    | cons b l' ih =>
      apply ih
      with_reducible (apply keeps_Closing_record; assumption)
  unfold State.closeBlobs
  extract_lets small big weak good s1 offered others o stream s2
  have k1 : s0.Keeps s1 := by
    simp only [s1]
    with_reducible (apply keeps_inc64; apply keeps_inc64; assumption)
  have ko : s0.Keeps o.s := fold _ _ k1
  clear_value o
  have k2 : s0.Keeps s2 := by
    simp only [s2]
    split; with_reducible (assumption; apply keeps_sendRecords; assumption)
  clear_value s2
  split; with_reducible (assumption; apply keeps_fire; assumption)

theorem keeps_gleanStop {s0 s : State} (h : s0.Keeps s) : s0.Keeps (State.gleanStop s) := by
  unfold State.gleanStop
  with_reducible (apply keeps_setReg; apply keeps_modGlean; assumption)

theorem keeps_gleanLine {s0 s : State} {a1} (h : s0.Keeps s) : s0.Keeps (State.gleanLine s a1) := by
  unfold State.gleanLine
  dsimp only; split; with_reducible (apply keeps_gleanStop; apply keeps_closeBlobs; apply keeps_setReg); split; split
  with_reducible (apply keeps_inc32; apply keeps_modGlean; assumption; apply keeps_modGlean; assumption); split
  with_reducible (apply keeps_inc32; apply keeps_modGlean; assumption; apply keeps_modGlean; assumption; apply keeps_closeBlobs)
  with_reducible apply keeps_setReg; split; split
  with_reducible (apply keeps_inc32; apply keeps_modGlean; assumption; apply keeps_modGlean; assumption); split
  with_reducible (apply keeps_inc32; apply keeps_modGlean; assumption; apply keeps_modGlean; assumption)

theorem keeps_execGleanerLine {s0 s : State} (h : s0.Keeps s) : KeepsR s0 (execGleanerLine s) := by
  unfold execGleanerLine
  split; with_reducible (apply keepsR_next; assumption; apply keepsR_next; apply keeps_gleanLine; apply keeps_modGlean; assumption)

theorem keeps_gleanEnabling {s0 s : State} (h : s0.Keeps s) : s0.Keeps (State.gleanEnabling s) := by
  unfold State.gleanEnabling
  with_reducible (apply keeps_gleanStop; assumption)

theorem keeps_gleanDisabling {s0 s : State} (h : s0.Keeps s) : s0.Keeps (State.gleanDisabling s) := by
  unfold State.gleanDisabling
  dsimp only; split; with_reducible assumption; split; split
  with_reducible (apply keeps_gleanStop; apply keeps_closeBlobs; assumption; assumption); split
  with_reducible (apply keeps_gleanStop; apply keeps_closeBlobs; assumption; assumption)

end Sys2Proof.Machine
end

