-- ==== Sys2Proof/Laws/KeepsTranslate.lean ====
section
/-! SUPPORT. What the definitions of Machine/Translate.lean keep (State.Keeps). -/

set_option Elab.async false

namespace Sys2Proof.Machine

theorem keeps_modFab {s0 s : State} {a1} (h : s0.Keeps s) : s0.Keeps (State.modFab s a1) := by
  unfold State.modFab
  with_reducible (apply keeps_mk; assumption)

theorem keeps_fabFault {s0 s : State} {a1 a2 a3 a4 a5 a6 a7 a8} (h : s0.Keeps s) : s0.Keeps (State.fabFault s a1 a2 a3 a4 a5 a6 a7 a8) := by
  unfold State.fabFault
  dsimp only; split
  with_reducible (apply keeps_inc32; apply keeps_setReg; apply keeps_setReg; apply keeps_inc32; apply keeps_inc64; assumption)
  with_reducible (apply keeps_faultRecord; apply keeps_mk; apply keeps_setReg; apply keeps_setReg; apply keeps_inc32; apply keeps_inc64)
  with_reducible assumption

theorem keeps_tlbTouch {s0 s : State} {a1} (h : s0.Keeps s) : s0.Keeps (State.tlbTouch s a1) := by
  unfold State.tlbTouch
  with_reducible (apply keeps_modFab; assumption)

theorem keeps_walkNow {s0 s : State} {a1 a2 a3 a4 a5} (h : s0.Keeps s) : KeepsP s0 (State.walkNow s a1 a2 a3 a4 a5) := by
  unfold State.walkNow
  dsimp only; split; with_reducible (apply keepsP_mk; apply keeps_tlbTouch; apply keeps_inc64; apply keeps_each; assumption); intro _ _ _
  with_reducible (apply keeps_readRange; assumption; apply keepsP_mk); split
  with_reducible (apply keeps_inc64; apply keeps_each; assumption); intro _ _ _
  with_reducible (apply keeps_readRange; assumption; apply keeps_fabFault; apply keeps_inc64; apply keeps_each; assumption); intro _ _ _
  with_reducible (apply keeps_readRange; assumption)

theorem keeps_tlbDrop {s0 s : State} {a1} (h : s0.Keeps s) : s0.Keeps (State.tlbDrop s a1) := by
  unfold State.tlbDrop
  with_reducible (apply keeps_modFab; assumption)

theorem keeps_lockStart {s0 s : State} {a1} (h : s0.Keeps s) : s0.Keeps (State.lockStart s a1) := by
  unfold State.lockStart
  with_reducible (apply keeps_modFab; apply keeps_inc64; assumption)

theorem keeps_lockEnd {s0 s : State} {a1} (h : s0.Keeps s) : s0.Keeps (State.lockEnd s a1) := by
  unfold State.lockEnd
  with_reducible (apply keeps_modFab; assumption)

theorem keeps_execLockBroken {s0 s : State} {a0} (h : s0.Keeps s) : KeepsR s0 (execLockBroken a0 s) := by
  unfold execLockBroken
  with_reducible apply keepsR_inst; split; with_reducible (apply keepsR_next; assumption); dsimp only
  with_reducible (apply keepsR_next; apply keeps_fabFault; apply keeps_inc32; apply keeps_lockEnd; assumption)

theorem keeps_meter {s0 s : State} {a1 a2} (h : s0.Keeps s) : s0.Keeps (State.meter s a1 a2) := by
  unfold State.meter
  split; with_reducible assumption; dsimp only; split; split
  with_reducible (apply keeps_inc32; apply keeps_modFab; assumption; apply keeps_modFab; assumption); split
  with_reducible (apply keeps_inc32; apply keeps_modFab; assumption; apply keeps_modFab; assumption)

theorem keeps_storeAccess {s0 s : State} {a1 a2 a3 a4 a5 a6} (h : s0.Keeps s) : KeepsP s0 (State.storeAccess s a1 a2 a3 a4 a5 a6) := by
  unfold State.storeAccess
  split; split; with_reducible (apply keepsP_mk; assumption); split; dsimp only; split; split
  with_reducible (apply keepsP_mk; assumption; apply keepsP_mk; apply keeps_store; assumption); split
  with_reducible (apply keepsP_mk; assumption; apply keepsP_mk; apply keeps_store; assumption; apply keepsP_mk; apply keeps_readRange)
  with_reducible assumption; split; with_reducible (apply keepsP_mk; assumption); split; with_reducible (apply keepsP_mk; assumption)
  dsimp only; split; with_reducible (apply keepsP_mk; apply keeps_modCore); split
  with_reducible (apply keeps_inc32; assumption; assumption; apply keepsP_mk); split
  with_reducible (apply keeps_inc32; assumption; assumption; apply keepsP_mk; assumption)

theorem keeps_windowedAccess {s0 s : State} {a1 a2 a3 a4 a5 a6 a7} (h : s0.Keeps s) : KeepsP s0 (State.windowedAccess s a1 a2 a3 a4 a5 a6 a7) := by
  unfold State.windowedAccess
  dsimp only; split; with_reducible (apply keepsP_mk; apply keeps_fabFault; apply keeps_snd); split
  with_reducible (apply keeps_walkNow; apply keeps_inc64; assumption; apply keepsP_mk; assumption; apply keepsP_mk; apply keeps_fabFault)
  with_reducible apply keeps_snd; split; with_reducible (apply keeps_walkNow; apply keeps_inc64; assumption; apply keepsP_mk; assumption)
  split; with_reducible (apply keepsP_mk; apply keeps_fabFault; apply keeps_inc64; apply keeps_snd); split
  with_reducible (apply keeps_walkNow; apply keeps_inc64; assumption; apply keepsP_mk; assumption); split
  with_reducible (apply keepsP_mk; apply keeps_snd; apply keeps_storeAccess; apply keeps_meter; apply keeps_inc64; apply keeps_snd); split
  with_reducible (apply keeps_walkNow; apply keeps_inc64; assumption; apply keepsP_mk; assumption; apply keepsP_mk; apply keeps_fabFault)
  with_reducible (apply keeps_snd; apply keeps_storeAccess; apply keeps_meter; apply keeps_inc64; apply keeps_snd); split
  with_reducible (apply keeps_walkNow; apply keeps_inc64; assumption; apply keepsP_mk; assumption)

theorem keeps_windowsLive {s0 s : State} {a1} (h : s0.Keeps s) : s0.Keeps (State.windowsLive s a1) := by
  unfold State.windowsLive
  with_reducible (apply keeps_each; assumption); intro _ _ _; with_reducible (apply keeps_tlbDrop; assumption)

theorem keeps_cmdInvWindow {s0 s : State} {a0} (h : s0.Keeps s) : KeepsV s0 (cmdInvWindow a0 s) := by
  unfold cmdInvWindow
  with_reducible (apply keepsV_accept; apply keeps_tlbDrop; assumption)

theorem keeps_cmdInvAll {s0 s : State} (h : s0.Keeps s) : KeepsV s0 (cmdInvAll s) := by
  unfold cmdInvAll
  with_reducible (apply keepsV_ok; apply keeps_modFab; assumption)

theorem keeps_onPage {s0 s : State} {m pa : Nat} {secure : Bool} {f : State → State} (h : s0.Keeps s)
    (hf : ∀ t, s0.Keeps t → s0.Keeps (f t)) : s0.Keeps (s.onPage m pa secure f) := by
  unfold State.onPage
  split
  · exact hf s h
  · exact keeps_fabFault h

theorem keeps_execPageInvWindow {s0 s : State} {a0 a1} (h : s0.Keeps s) : KeepsR s0 (execPageInvWindow a0 a1 s) := by
  unfold execPageInvWindow
  with_reducible (apply keepsR_inst; apply keepsR_next; apply keeps_onPage; assumption); intro _ _
  with_reducible (apply keeps_tlbDrop; assumption)

theorem keeps_execPageInvAll {s0 s : State} {a0} (h : s0.Keeps s) : KeepsR s0 (execPageInvAll a0 s) := by
  unfold execPageInvAll
  with_reducible (apply keepsR_inst; apply keepsR_next; apply keeps_onPage; assumption); intro _ _
  with_reducible (apply keeps_modFab; assumption)

end Sys2Proof.Machine
end

