-- ==== Sys2Proof/Laws/KeepsDma.lean ====
section
/-! SUPPORT. What the definitions of Machine/Dma.lean keep (State.Keeps). -/

set_option Elab.async false

namespace Sys2Proof.Machine

theorem keeps_modDma {s0 s : State} {a1 a2} (h : s0.Keeps s) : s0.Keeps (State.modDma s a1 a2) := by
  unfold State.modDma
  with_reducible (apply keeps_modFab; assumption)

theorem keeps_setDmaRun {s0 s : State} {a1 a2} (h : s0.Keeps s) : s0.Keeps (State.setDmaRun s a1 a2) := by
  unfold State.setDmaRun
  with_reducible (apply keeps_setReg; assumption)

theorem keeps_dmaRelease {s0 s : State} {a1} (h : s0.Keeps s) : s0.Keeps (State.dmaRelease s a1) := by
  unfold State.dmaRelease
  with_reducible (apply keeps_lockEnd; apply keeps_modDma; assumption)

theorem keeps_writeBack {s0 s : State} {a1 a2 a3} (h : s0.Keeps s) : s0.Keeps (State.writeBack s a1 a2 a3) := by
  unfold State.writeBack
  split; split; with_reducible (apply keeps_snd; apply keeps_windowedAccess; assumption; assumption; assumption)

theorem keeps_dmaFaultEvent {s0 s : State} {a1 a2} (h : s0.Keeps s) : s0.Keeps (State.dmaFaultEvent s a1 a2) := by
  unfold State.dmaFaultEvent
  with_reducible (apply keeps_fire; assumption)

theorem keeps_dmaFetch {s0 s : State} {a1 a2} (h : s0.Keeps s) : s0.Keeps (State.dmaFetch s a1 a2) := by
  unfold State.dmaFetch
  with_reducible (apply keeps_modDma; apply keeps_setReg; assumption)

theorem keeps_dmaStart {s0 s : State} {a1} (h : s0.Keeps s) : KeepsP s0 (State.dmaStart s a1) := by
  unfold State.dmaStart
  dsimp only; split; with_reducible (apply keepsP_mk; assumption); split
  with_reducible (apply keepsP_mk; apply keeps_setReg; assumption; apply keepsP_mk; apply keeps_setDmaRun; apply keeps_dmaFetch)
  with_reducible (apply keeps_modDma; apply keeps_setReg; apply keeps_setReg; apply keeps_setReg; assumption)

theorem keeps_dropRequests {s0 s : State} {a1} (h : s0.Keeps s) : s0.Keeps (State.dropRequests s a1) := by
  unfold State.dropRequests
  with_reducible (apply keeps_modFab; assumption)

theorem keeps_dmaAbortedNow {s0 s : State} {a1} (h : s0.Keeps s) : s0.Keeps (State.dmaAbortedNow s a1) := by
  unfold State.dmaAbortedNow
  dsimp only
  with_reducible (apply keeps_dmaFaultEvent; apply keeps_setDmaRun; apply keeps_modDma; apply keeps_dropRequests; apply keeps_dmaRelease)
  with_reducible (apply keeps_writeBack; apply keeps_setReg; apply keeps_setReg; assumption)

theorem keeps_dmaAbort {s0 s : State} {a1} (h : s0.Keeps s) : s0.Keeps (State.dmaAbort s a1) := by
  unfold State.dmaAbort
  split; split
  with_reducible (apply keeps_setDmaRun; assumption; apply keeps_dmaAbortedNow; assumption; apply keeps_setDmaRun; assumption)
  with_reducible assumption

theorem keeps_dmaResume {s0 s : State} {a1} (h : s0.Keeps s) : KeepsP s0 (State.dmaResume s a1) := by
  unfold State.dmaResume
  dsimp only; split; with_reducible (apply keepsP_mk; assumption; apply keepsP_mk; apply keeps_setDmaRun); split
  with_reducible (apply keeps_modDma; assumption; apply keeps_dmaFetch; assumption)

theorem keeps_dmaNext {s0 s : State} {a1} (h : s0.Keeps s) : s0.Keeps (State.dmaNext s a1) := by
  unfold State.dmaNext
  split; split
  with_reducible (apply keeps_setDmaRun; apply keeps_dmaFetch; assumption; apply keeps_setDmaRun; apply keeps_dmaRelease; assumption)
  with_reducible (apply keeps_setDmaRun; apply keeps_dmaRelease; assumption)

theorem keeps_dmaResumeNext {s0 s : State} {a1} (h : s0.Keeps s) : KeepsP s0 (State.dmaResumeNext s a1) := by
  unfold State.dmaResumeNext
  dsimp only; split; with_reducible (apply keepsP_mk; assumption; apply keepsP_mk; apply keeps_dmaNext; assumption)

theorem keeps_dmaPageCmd {s0 s : State} {a1 a2} (h : s0.Keeps s) : s0.Keeps (State.dmaPageCmd s a1 a2) := by
  unfold State.dmaPageCmd
  split; with_reducible (apply keeps_snd; apply keeps_dmaStart; assumption; apply keeps_dmaAbort; assumption; apply keeps_snd)
  with_reducible (apply keeps_dmaResume; assumption; apply keeps_snd; apply keeps_dmaResumeNext; assumption; assumption)

theorem keeps_ofDetail {s0 : State} {r : Nat × State} (h : KeepsP s0 r) : KeepsV s0 (ofDetail r) := by
  unfold ofDetail
  split
  · exact keepsV_ok h.keeps
  · exact keepsV_error _

theorem keeps_cmdDmaStart {s0 s : State} {a0} (h : s0.Keeps s) : KeepsV s0 (cmdDmaStart a0 s) := by
  unfold cmdDmaStart
  with_reducible (apply keeps_ofDetail; apply keeps_dmaStart; assumption)

theorem keeps_cmdDmaAbort {s0 s : State} {a0} (h : s0.Keeps s) : KeepsV s0 (cmdDmaAbort a0 s) := by
  unfold cmdDmaAbort
  with_reducible (apply keepsV_ok; apply keeps_dmaAbort; assumption)

theorem keeps_cmdDmaResume {s0 s : State} {a0} (h : s0.Keeps s) : KeepsV s0 (cmdDmaResume a0 s) := by
  unfold cmdDmaResume
  with_reducible (apply keeps_ofDetail; apply keeps_dmaResume; assumption)

theorem keeps_cmdDmaResumeNext {s0 s : State} {a0} (h : s0.Keeps s) : KeepsV s0 (cmdDmaResumeNext a0 s) := by
  unfold cmdDmaResumeNext
  with_reducible (apply keeps_ofDetail; apply keeps_dmaResumeNext; assumption)

theorem keeps_dmaStartEvent {s0 s : State} {a1} (h : s0.Keeps s) : s0.Keeps (State.dmaStartEvent s a1) := by
  unfold State.dmaStartEvent
  split; dsimp only; split
  with_reducible (apply keeps_snd; apply keeps_dmaStart; apply keeps_takeInput; assumption; apply keeps_inc32; apply keeps_snd)
  with_reducible (apply keeps_dmaStart; apply keeps_takeInput; assumption; assumption)

theorem keeps_dmaAbortEvent {s0 s : State} {a1} (h : s0.Keeps s) : s0.Keeps (State.dmaAbortEvent s a1) := by
  unfold State.dmaAbortEvent
  split; with_reducible (apply keeps_dmaAbort; apply keeps_takeInput; assumption; assumption)

theorem keeps_execDescriptorFetch {s0 s : State} {a0} (h : s0.Keeps s) : KeepsR s0 (execDescriptorFetch a0 s) := by
  unfold execDescriptorFetch
  with_reducible apply keepsR_inst; split; with_reducible (apply keepsR_next; assumption); split
  with_reducible (apply keepsR_next; assumption); dsimp only; split
  with_reducible (apply keepsR_next; apply keeps_modDma; apply keeps_setReg; apply keeps_setReg; apply keeps_modDma; assumption)
  with_reducible (apply keepsR_next; apply keeps_dmaFaultEvent; apply keeps_setDmaRun; apply keeps_dmaRelease; apply keeps_setReg)
  with_reducible (apply keeps_fabFault; apply keeps_setReg; apply keeps_modDma; assumption)

theorem keeps_execDescriptorComplete {s0 s : State} {a0} (h : s0.Keeps s) : KeepsR s0 (execDescriptorComplete a0 s) := by
  unfold execDescriptorComplete
  with_reducible apply keepsR_inst; dsimp only; split; split; with_reducible (apply keepsR_next; apply keeps_dmaNext; apply keeps_lockEnd)
  split
  with_reducible (apply keeps_fire; apply keeps_inc64; apply keeps_inc64; apply keeps_writeBack; apply keeps_setReg; apply keeps_setReg)
  with_reducible (assumption; apply keeps_inc64; apply keeps_inc64; apply keeps_writeBack; apply keeps_setReg; apply keeps_setReg)
  with_reducible (assumption; apply keepsR_next; assumption; apply keepsR_next; assumption)

theorem keeps_execDmaBeatFault {s0 s : State} {a0} (h : s0.Keeps s) : KeepsR s0 (execDmaBeatFault a0 s) := by
  unfold execDmaBeatFault
  with_reducible apply keepsR_inst; dsimp only; split; split
  with_reducible (apply keepsR_next; apply keeps_dmaFaultEvent; apply keeps_setDmaRun; apply keeps_modDma; apply keeps_dmaRelease)
  with_reducible (apply keeps_writeBack; apply keeps_setReg; apply keeps_setReg; apply keeps_setReg; apply keeps_setReg; assumption)
  with_reducible (apply keepsR_next; assumption; apply keepsR_next; assumption)

theorem keeps_execAbortComplete {s0 s : State} {a0} (h : s0.Keeps s) : KeepsR s0 (execAbortComplete a0 s) := by
  unfold execAbortComplete
  with_reducible apply keepsR_inst; dsimp only; split
  with_reducible (apply keepsR_next; apply keeps_dmaAbortedNow; assumption; apply keepsR_next; assumption)

theorem keeps_takeMover {s0 s : State} {a1} (h : s0.Keeps s) : s0.Keeps (State.takeMover s a1) := by
  unfold State.takeMover
  with_reducible (apply keeps_modFab; assumption)

theorem keeps_execMoverAssign {s0 s : State} (h : s0.Keeps s) : KeepsR s0 (execMoverAssign s) := by
  unfold execMoverAssign
  dsimp only; split; with_reducible (apply keepsR_next; assumption); split
  with_reducible (apply keepsR_next; apply keeps_takeMover; assumption); split
  with_reducible (apply keepsR_next; apply keeps_takeMover; apply keeps_inc64; apply keeps_inc32; apply keeps_modDma; assumption)
  with_reducible (apply keepsR_next; assumption)

theorem keeps_endTurn {s0 s : State} {a1} (h : s0.Keeps s) : s0.Keeps (State.endTurn s a1) := by
  unfold State.endTurn
  dsimp only; split; with_reducible assumption; split; split; with_reducible assumption; split
  with_reducible (apply keeps_modDma; assumption; apply keeps_modFab; assumption); split; with_reducible assumption; split
  with_reducible (apply keeps_modDma; assumption; apply keeps_modFab; assumption)

theorem keeps_dmaBeat {s0 s : State} {a1 a2 a3 a4} (h : s0.Keeps s) : s0.Keeps (State.dmaBeat s a1 a2 a3 a4) := by
  unfold State.dmaBeat
  dsimp only; split
  with_reducible (apply keeps_modDma; assumption; apply keeps_modDma; assumption; apply keeps_modDma; assumption; apply keeps_modDma)
  with_reducible (assumption; apply keeps_modDma; assumption; apply keeps_endTurn; apply keeps_setReg; apply keeps_inc64)
  with_reducible (apply keeps_inc64; apply keeps_modDma; assumption)

theorem keeps_dmaLock {s0 s : State} {a1} (h : s0.Keeps s) : KeepsO s0 (State.dmaLock s a1) := by
  unfold State.dmaLock
  dsimp only; split; split; split
  with_reducible (apply keepsO_none; apply keepsO_some; apply keeps_lockStart; assumption; apply keepsO_some; assumption)
  with_reducible (apply keepsO_some; assumption)

theorem keeps_dmaTurnsOn {s0 s : State} {a1} (h : s0.Keeps s) : s0.Keeps (State.dmaTurnsOn s a1) := by
  unfold State.dmaTurnsOn
  with_reducible (apply keeps_setDmaRun; apply keeps_modDma; assumption)

end Sys2Proof.Machine
end

