-- ==== Sys2Proof/Laws/KeepsFabric.lean ====
section
/-! SUPPORT. What the definitions of Machine/Fabric.lean keep (State.Keeps). -/

set_option Elab.async false

namespace Sys2Proof.Machine

theorem keeps_timePage {s0 s : State} {a1} (h : s0.Keeps s) : KeepsP s0 (State.timePage s a1) := by
  unfold State.timePage
  split; with_reducible (apply keepsP_mk; apply keeps_mk; assumption); split; with_reducible (apply keepsP_mk; assumption); split
  with_reducible (apply keepsP_mk; assumption); dsimp only; split
  with_reducible (apply keepsP_mk; apply keeps_modTb; assumption; apply keepsP_mk; assumption; apply keepsP_mk; assumption)
  with_reducible (apply keepsP_mk; assumption; apply keepsP_mk; assumption; apply keepsP_mk; assumption; apply keepsP_mk; assumption)

theorem keeps_pageRead {s0 s : State} {a1} (h : s0.Keeps s) : KeepsP s0 (State.pageRead s a1) := by
  unfold State.pageRead
  split; with_reducible (apply keepsP_mk; assumption; apply keeps_timePage; assumption; apply keepsP_mk; assumption; apply keepsP_mk)
  with_reducible (assumption; apply keepsP_mk; assumption)

theorem keeps_configWrite {s0 s : State} {a1 a2} (h : s0.Keeps s) : s0.Keeps (State.configWrite s a1 a2) := by
  unfold State.configWrite
  dsimp only; split; split
  with_reducible (apply keeps_inc32; assumption; apply keeps_setReg; apply keeps_setReg; apply keeps_setReg; apply keeps_setReg)
  with_reducible (apply keeps_setReg; assumption); split
  with_reducible (apply keeps_inc32; assumption; apply keeps_setReg; apply keeps_setReg; assumption)

theorem keeps_dowelPageWrite {s0 s : State} {a1 a2 a3} (h : s0.Keeps s) : s0.Keeps (State.dowelPageWrite s a1 a2 a3) := by
  unfold State.dowelPageWrite
  split; with_reducible (apply keeps_setReg; assumption); split; split; with_reducible (apply keeps_soft; assumption; assumption); split
  with_reducible assumption; dsimp only; split; with_reducible assumption; split; with_reducible (apply keeps_inc32; assumption); split
  split; with_reducible (apply keeps_channelEnable; assumption); split
  with_reducible (apply keeps_channelDisable; assumption; assumption; apply keeps_configWrite; assumption; apply keeps_attrWrite)
  with_reducible assumption

theorem keeps_pageWrite {s0 s : State} {a1 a2 a3} (h : s0.Keeps s) : s0.Keeps (State.pageWrite s a1 a2 a3) := by
  unfold State.pageWrite
  split; split; with_reducible (apply keeps_setReg; assumption); split; with_reducible (apply keeps_dmaPageCmd; assumption; assumption)
  split; split; with_reducible (apply keeps_tlbDrop; assumption; assumption); split; split
  with_reducible (apply keeps_modFab; assumption; assumption; assumption); dsimp only; split; split
  with_reducible (apply keeps_setReg; assumption; apply keeps_modTb; assumption; apply keeps_modTb; assumption); split
  with_reducible (apply keeps_tbPageSet; assumption; assumption; assumption; assumption; apply keeps_dowelPageWrite; assumption); split
  with_reducible (apply keeps_counterZero; assumption; assumption; assumption)

theorem keeps_pageAccess {s0 s : State} {a1 a2 a3 a4 a5 a6 a7 a8 a9} (h : s0.Keeps s) : KeepsP s0 (State.pageAccess s a1 a2 a3 a4 a5 a6 a7 a8 a9) := by
  unfold State.pageAccess
  split; with_reducible (apply keepsP_mk; assumption); split; with_reducible (apply keepsP_mk; assumption); dsimp only; split; split
  with_reducible (apply keepsP_mk; assumption; apply keepsP_mk; apply keeps_each; assumption); intro _ _ _
  with_reducible (apply keeps_pageWrite; assumption; apply keepsP_mk; apply keeps_snd; apply keeps_foldl2; assumption); intro _ _ _
  with_reducible (apply keepsP_mk; apply keeps_snd; apply keeps_pageRead; assumption)

theorem keeps_targetAccess {s0 s : State} {a1 a2 a3 a4 a5 a6 a7 a8} (h : s0.Keeps s) : KeepsP s0 (State.targetAccess s a1 a2 a3 a4 a5 a6 a7 a8) := by
  unfold State.targetAccess
  split; split; with_reducible (apply keepsP_mk; assumption; apply keepsP_mk; assumption); split
  with_reducible (apply keepsP_mk; assumption; apply keepsP_mk; assumption); split
  with_reducible (apply keepsP_mk; apply keeps_modFab; assumption; apply keepsP_mk; assumption); split
  with_reducible (apply keeps_pageAccess; assumption; apply keeps_storeAccess; assumption)

theorem keeps_finishRequest {s0 s : State} {a1 a2 a3 a4} (h : s0.Keeps s) : s0.Keeps (State.finishRequest s a1 a2 a3 a4) := by
  unfold State.finishRequest
  split; dsimp only; with_reducible (apply keeps_modCore; assumption); split
  with_reducible (apply keeps_dmaBeat; assumption; apply keeps_modFab; assumption)

theorem keeps_lockFor {s0 s : State} {a1 a2} (h : s0.Keeps s) : s0.Keeps (State.lockFor s a1 a2) := by
  unfold State.lockFor
  split; with_reducible apply keeps_modFab; split; with_reducible (assumption; apply keeps_lockStart; assumption; assumption)

theorem keeps_grantReq {s0 s : State} {a1 a2} (h : s0.Keeps s) : s0.Keeps (State.grantReq s a1 a2) := by
  unfold State.grantReq
  dsimp only; split; with_reducible apply keeps_lockEnd; split
  with_reducible (apply keeps_finishRequest; apply keeps_snd; apply keeps_targetAccess; apply keeps_meter; apply keeps_lockFor)
  with_reducible (apply keeps_modFab; assumption; apply keeps_finishRequest; apply keeps_fabFault; apply keeps_snd)
  with_reducible (apply keeps_targetAccess; apply keeps_meter; apply keeps_lockFor; apply keeps_modFab; assumption); split
  with_reducible (apply keeps_finishRequest; apply keeps_snd; apply keeps_targetAccess; apply keeps_meter; apply keeps_lockFor)
  with_reducible (apply keeps_modFab; assumption; apply keeps_finishRequest; apply keeps_fabFault; apply keeps_snd)
  with_reducible (apply keeps_targetAccess; apply keeps_meter; apply keeps_lockFor; apply keeps_modFab; assumption)

theorem keeps_grantAll  {s0 s : State} {n : Nat} (h : s0.Keeps s) : s0.Keeps (State.grantAll n s) := by
  induction n generalizing s with
  | zero => exact h
  | succ n ih =>
    unfold State.grantAll
    split; apply ih; with_reducible (apply keeps_grantReq; assumption; assumption)

theorem keeps_deliverRequest {s0 s : State} {a1 a2 a3 a4 a5} (h : s0.Keeps s) : s0.Keeps (State.deliverRequest s a1 a2 a3 a4 a5) := by
  unfold State.deliverRequest
  split
  with_reducible (apply keeps_finishRequest; apply keeps_fabFault; assumption; apply keeps_grantAll; apply keeps_modFab; assumption)

theorem keeps_endXlate {s0 s : State} {a1 a2 a3 a4} (h : s0.Keeps s) : s0.Keeps (State.endXlate s a1 a2 a3 a4) := by
  unfold State.endXlate
  split; with_reducible (apply keeps_finishRequest; apply keeps_fabFault; assumption; apply keeps_modFab; apply keeps_inc64; assumption)
  dsimp only; with_reducible (apply keeps_deliverRequest; apply keeps_inc64); split
  with_reducible (apply keeps_tlbTouch; assumption; assumption)

theorem keeps_issueWindowed {s0 s : State} {a1 a2 a3} (h : s0.Keeps s) : KeepsO s0 (State.issueWindowed s a1 a2 a3) := by
  unfold State.issueWindowed
  split; with_reducible apply keepsO_none; dsimp only; split
  with_reducible (apply keepsO_some; apply keeps_endXlate; apply keeps_inc64; assumption; apply keepsO_some; apply keeps_endXlate)
  with_reducible assumption

theorem keeps_coreRequest {s0 s : State} {a1 a2} (h : s0.Keeps s) : KeepsO s0 (State.coreRequest s a1 a2) := by
  unfold State.coreRequest
  split; with_reducible apply keepsO_none; dsimp only; with_reducible (apply keeps_issueWindowed; apply keeps_modCore; assumption)

theorem keeps_chanRequest {s0 s : State} {a1 a2} (h : s0.Keeps s) : KeepsO s0 (State.chanRequest s a1 a2) := by
  unfold State.chanRequest
  split; with_reducible (apply keepsO_some; apply keeps_poolFull; assumption); split; with_reducible apply keepsO_none; split
  with_reducible (apply keepsO_none; apply keeps_issueWindowed; apply keeps_of_some (by assumption)); split
  with_reducible (apply keeps_dmaLock; assumption; apply keepsO_some; assumption)

theorem keeps_plainRequest {s0 s : State} {a1 a2} (h : s0.Keeps s) : s0.Keeps (State.plainRequest s a1 a2) := by
  unfold State.plainRequest
  split; with_reducible (apply keeps_poolFull; assumption; apply keeps_deliverRequest; assumption)

theorem keeps_execFabricRequest {s0 s : State} {a0 a1} (h : s0.Keeps s) : KeepsR s0 (execFabricRequest a0 a1 s) := by
  unfold execFabricRequest
  with_reducible (apply keepsR_inst; apply keepsR_next); split
  with_reducible (apply keeps_getD; apply keeps_coreRequest; assumption; assumption); split
  with_reducible (apply keeps_getD; apply keeps_chanRequest; assumption; assumption; apply keeps_plainRequest; assumption)

theorem keeps_execPageWalkComplete {s0 s : State} {a0} (h : s0.Keeps s) : KeepsR s0 (execPageWalkComplete a0 s) := by
  unfold execPageWalkComplete
  with_reducible apply keepsR_inst; split; with_reducible (apply keepsR_next; assumption); dsimp only
  with_reducible (apply keepsR_next; apply keeps_endXlate; apply keeps_modFab; apply keeps_snd); split
  with_reducible (apply keeps_walkNow; assumption; apply keepsP_mk; assumption)

theorem keeps_walkTick {s0 s : State} (h : s0.Keeps s) : s0.Keeps (State.walkTick s) := by
  unfold State.walkTick
  dsimp only; split; with_reducible (assumption; apply keeps_inc64; assumption)

theorem keeps_attrPage {s0 s : State} {a1 a2 a3 a4} (h : s0.Keeps s) : s0.Keeps (State.attrPage s a1 a2 a3 a4) := by
  unfold State.attrPage
  dsimp only; with_reducible (apply keeps_onPage; assumption); intro _ _; split
  with_reducible (apply keeps_fabFault; assumption; apply keeps_dowelPageWrite; assumption)

theorem keeps_execChannelAttr {s0 s : State} {a0 a1 a2 a3} (h : s0.Keeps s) : KeepsR s0 (execChannelAttr a0 a1 a2 a3 s) := by
  unfold execChannelAttr
  with_reducible (apply keepsR_inst; apply keepsR_next; apply keeps_attrPage; assumption)

theorem keeps_execTbSet {s0 s : State} {a0 a1 a2} (h : s0.Keeps s) : KeepsR s0 (execTbSet a0 a1 a2 s) := by
  unfold execTbSet
  with_reducible apply keepsR_inst; dsimp only; with_reducible (apply keepsR_next; apply keeps_onPage; assumption); intro _ _; split
  with_reducible assumption; split; with_reducible (apply keeps_fabFault; assumption; apply keeps_tbPageSet; assumption)

theorem keeps_chanOnPage {s0 s : State} {m c : Nat} {secure : Bool} {f : State → State} (h : s0.Keeps s)
    (hf : ∀ t, s0.Keeps t → s0.Keeps (f t)) : s0.Keeps (s.chanOnPage m secure c f) := keeps_onPage h hf

end Sys2Proof.Machine
end

