-- ==== Sys2Proof/Laws/KeepsDspA.lean ====
section
/-! SUPPORT. What the definitions of Machine/DspA.lean keep (State.Keeps). -/

set_option Elab.async false

namespace Sys2Proof.Machine

theorem keeps_execSlotANop {s0 s : State} {a0} (h : s0.Keeps s) : KeepsR s0 (execSlotANop a0 s) := by
  unfold execSlotANop
  with_reducible (apply keeps_slotAOp; assumption)

theorem keeps_execCmul {s0 s : State} {a0} (h : s0.Keeps s) : KeepsR s0 (execCmul a0 s) := by
  unfold execCmul
  with_reducible (apply keeps_slotAOp; assumption)

theorem keeps_execCmulj {s0 s : State} {a0} (h : s0.Keeps s) : KeepsR s0 (execCmulj a0 s) := by
  unfold execCmulj
  with_reducible (apply keeps_slotAOp; assumption)

theorem keeps_execCmac {s0 s : State} {a0} (h : s0.Keeps s) : KeepsR s0 (execCmac a0 s) := by
  unfold execCmac
  with_reducible (apply keeps_slotAOp; assumption)

theorem keeps_execCmacj {s0 s : State} {a0} (h : s0.Keeps s) : KeepsR s0 (execCmacj a0 s) := by
  unfold execCmacj
  with_reducible (apply keeps_slotAOp; assumption)

theorem keeps_execCmsu {s0 s : State} {a0} (h : s0.Keeps s) : KeepsR s0 (execCmsu a0 s) := by
  unfold execCmsu
  with_reducible (apply keeps_slotAOp; assumption)

theorem keeps_execCmag {s0 s : State} {a0} (h : s0.Keeps s) : KeepsR s0 (execCmag a0 s) := by
  unfold execCmag
  with_reducible (apply keeps_slotAOp; assumption)

theorem keeps_execCbfly {s0 s : State} {a0} (h : s0.Keeps s) : KeepsR s0 (execCbfly a0 s) := by
  unfold execCbfly
  with_reducible (apply keeps_slotAOp; assumption)

theorem keeps_execAclr {s0 s : State} {a0} (h : s0.Keeps s) : KeepsR s0 (execAclr a0 s) := by
  unfold execAclr
  with_reducible (apply keeps_slotAOp; assumption)

theorem keeps_execMva {s0 s : State} {a0} (h : s0.Keeps s) : KeepsR s0 (execMva a0 s) := by
  unfold execMva
  with_reducible (apply keeps_slotAOp; assumption)

theorem keeps_execMva2 {s0 s : State} {a0} (h : s0.Keeps s) : KeepsR s0 (execMva2 a0 s) := by
  unfold execMva2
  with_reducible (apply keeps_slotAOp; assumption)

theorem keeps_execCadd {s0 s : State} {a0} (h : s0.Keeps s) : KeepsR s0 (execCadd a0 s) := by
  unfold execCadd
  with_reducible (apply keeps_slotAOp; assumption)

theorem keeps_execCsub {s0 s : State} {a0} (h : s0.Keeps s) : KeepsR s0 (execCsub a0 s) := by
  unfold execCsub
  with_reducible (apply keeps_slotAOp; assumption)

theorem keeps_execCconj {s0 s : State} {a0} (h : s0.Keeps s) : KeepsR s0 (execCconj a0 s) := by
  unfold execCconj
  with_reducible (apply keeps_slotAOp; assumption)

theorem keeps_execBexd {s0 s : State} {a0} (h : s0.Keeps s) : KeepsR s0 (execBexd a0 s) := by
  unfold execBexd
  with_reducible (apply keeps_slotAOp; assumption)

theorem keeps_execBexs {s0 s : State} {a0} (h : s0.Keeps s) : KeepsR s0 (execBexs a0 s) := by
  unfold execBexs
  with_reducible (apply keeps_slotAOp; assumption)

theorem keeps_execAddD {s0 s : State} {a0} (h : s0.Keeps s) : KeepsR s0 (execAddD a0 s) := by
  unfold execAddD
  with_reducible (apply keeps_slotAOp; assumption)

theorem keeps_execSubD {s0 s : State} {a0} (h : s0.Keeps s) : KeepsR s0 (execSubD a0 s) := by
  unfold execSubD
  with_reducible (apply keeps_slotAOp; assumption)

theorem keeps_execAndD {s0 s : State} {a0} (h : s0.Keeps s) : KeepsR s0 (execAndD a0 s) := by
  unfold execAndD
  with_reducible (apply keeps_slotAOp; assumption)

theorem keeps_execOrD {s0 s : State} {a0} (h : s0.Keeps s) : KeepsR s0 (execOrD a0 s) := by
  unfold execOrD
  with_reducible (apply keeps_slotAOp; assumption)

theorem keeps_execXorD {s0 s : State} {a0} (h : s0.Keeps s) : KeepsR s0 (execXorD a0 s) := by
  unfold execXorD
  with_reducible (apply keeps_slotAOp; assumption)

theorem keeps_execShl {s0 s : State} {a0} (h : s0.Keeps s) : KeepsR s0 (execShl a0 s) := by
  unfold execShl
  with_reducible (apply keeps_slotAOp; assumption)

theorem keeps_execAsr {s0 s : State} {a0} (h : s0.Keeps s) : KeepsR s0 (execAsr a0 s) := by
  unfold execAsr
  with_reducible (apply keeps_slotAOp; assumption)

theorem keeps_execLsr {s0 s : State} {a0} (h : s0.Keeps s) : KeepsR s0 (execLsr a0 s) := by
  unfold execLsr
  with_reducible (apply keeps_slotAOp; assumption)

theorem keeps_execAddi {s0 s : State} {a0} (h : s0.Keeps s) : KeepsR s0 (execAddi a0 s) := by
  unfold execAddi
  with_reducible (apply keeps_slotAOp; assumption)

theorem keeps_execMovi {s0 s : State} {a0} (h : s0.Keeps s) : KeepsR s0 (execMovi a0 s) := by
  unfold execMovi
  with_reducible (apply keeps_slotAOp; assumption)

theorem keeps_execMovhi {s0 s : State} {a0} (h : s0.Keeps s) : KeepsR s0 (execMovhi a0 s) := by
  unfold execMovhi
  with_reducible (apply keeps_slotAOp; assumption)

theorem keeps_execCmpD {s0 s : State} {a0} (h : s0.Keeps s) : KeepsR s0 (execCmpD a0 s) := by
  unfold execCmpD
  with_reducible (apply keeps_slotAOp; assumption)

theorem keeps_execMulD {s0 s : State} {a0} (h : s0.Keeps s) : KeepsR s0 (execMulD a0 s) := by
  unfold execMulD
  with_reducible (apply keeps_slotAOp; assumption)

theorem keeps_execDivD {s0 s : State} {a0} (h : s0.Keeps s) : KeepsR s0 (execDivD a0 s) := by
  unfold execDivD
  with_reducible (apply keeps_slotAWith; assumption); intro _ _ _; dsimp only
  with_reducible (apply keeps_modCore; apply keeps_modCore; apply keeps_inc64; assumption)

theorem keeps_execMovc {s0 s : State} {a0} (h : s0.Keeps s) : KeepsR s0 (execMovc a0 s) := by
  unfold execMovc
  with_reducible (apply keeps_slotAWith; assumption); intro _ _ _; dsimp only; split
  with_reducible (apply keeps_modCore; assumption; apply keeps_modCore; assumption)

theorem keeps_execMovcw {s0 s : State} {a0} (h : s0.Keeps s) : KeepsR s0 (execMovcw a0 s) := by
  unfold execMovcw
  with_reducible (apply keeps_slotAOp; assumption)

theorem keeps_execMovar {s0 s : State} {a0} (h : s0.Keeps s) : KeepsR s0 (execMovar a0 s) := by
  unfold execMovar
  with_reducible (apply keeps_slotAOp; assumption)

theorem keeps_execMovra {s0 s : State} {a0} (h : s0.Keeps s) : KeepsR s0 (execMovra a0 s) := by
  unfold execMovra
  with_reducible (apply keeps_slotAOp; assumption)

theorem keeps_execBr {s0 s : State} {a0} (h : s0.Keeps s) : KeepsR s0 (execBr a0 s) := by
  unfold execBr
  with_reducible (apply keeps_slotAOp; assumption)

theorem keeps_execCall {s0 s : State} {a0} (h : s0.Keeps s) : KeepsR s0 (execCall a0 s) := by
  unfold execCall
  with_reducible (apply keeps_slotAOp; assumption)

theorem keeps_execRet {s0 s : State} {a0} (h : s0.Keeps s) : KeepsR s0 (execRet a0 s) := by
  unfold execRet
  with_reducible (apply keeps_slotAOp; assumption)

theorem keeps_execRti {s0 s : State} {a0} (h : s0.Keeps s) : KeepsR s0 (execRti a0 s) := by
  unfold execRti
  with_reducible (apply keeps_slotAOp; assumption)

theorem keeps_execRep {s0 s : State} {a0} (h : s0.Keeps s) : KeepsR s0 (execRep a0 s) := by
  unfold execRep
  with_reducible (apply keeps_slotAOp; assumption)

theorem keeps_execRepd {s0 s : State} {a0} (h : s0.Keeps s) : KeepsR s0 (execRepd a0 s) := by
  unfold execRepd
  with_reducible (apply keeps_slotAWith; assumption); intro _ _ _; dsimp only; with_reducible (apply keeps_modCore; assumption)

theorem keeps_execEidi {s0 s : State} {a0} (h : s0.Keeps s) : KeepsR s0 (execEidi a0 s) := by
  unfold execEidi
  with_reducible (apply keeps_slotAOp; assumption)

theorem keeps_execWaite {s0 s : State} {a0} (h : s0.Keeps s) : KeepsR s0 (execWaite a0 s) := by
  unfold execWaite
  with_reducible apply keepsR_inst; split; with_reducible (apply keepsR_next; assumption); split
  with_reducible (apply keepsR_next; apply keeps_dspStall; assumption); dsimp only; split
  with_reducible (apply keepsR_next; apply keeps_setDspRun; assumption; apply keepsR_next; apply keeps_modCore; apply keeps_each)
  with_reducible (apply keeps_beginBundle; assumption); intro _ _ _; with_reducible (apply keeps_takeInput; assumption)

theorem keeps_execSige {s0 s : State} {a0} (h : s0.Keeps s) : KeepsR s0 (execSige a0 s) := by
  unfold execSige
  with_reducible (apply keeps_slotAWith; assumption); intro _ _ _; with_reducible (apply keeps_fire; assumption)

theorem keeps_execTrapD {s0 s : State} {a0} (h : s0.Keeps s) : KeepsR s0 (execTrapD a0 s) := by
  unfold execTrapD
  with_reducible (apply keeps_slotAOp; assumption)

theorem keeps_execHaltD {s0 s : State} {a0} (h : s0.Keeps s) : KeepsR s0 (execHaltD a0 s) := by
  unfold execHaltD
  with_reducible (apply keeps_slotAOp; assumption)

end Sys2Proof.Machine
end

