-- ==== Sys2Proof/Laws/KeepsDspB.lean ====
section
/-! SUPPORT. What the definitions of Machine/DspB.lean keep (State.Keeps). -/

set_option Elab.async false

namespace Sys2Proof.Machine

theorem keeps_countEcc {s0 s : State} {a1 a2} (h : s0.Keeps s) : s0.Keeps (State.countEcc s a1 a2) := by
  unfold State.countEcc
  with_reducible (apply keeps_inc32; assumption)

theorem keeps_execSlotBNop {s0 s : State} {a0} (h : s0.Keeps s) : KeepsR s0 (execSlotBNop a0 s) := by
  unfold execSlotBNop
  with_reducible (apply keeps_slotBOp; assumption)

theorem keeps_execLd {s0 s : State} {a0 a1} (h : s0.Keeps s) : KeepsR s0 (execLd a0 a1 s) := by
  unfold execLd
  with_reducible (apply keeps_slotBWith; assumption); intro _ _ _; with_reducible (apply keeps_modCore; apply keeps_countEcc; assumption)

theorem keeps_execLdo {s0 s : State} {a0 a1} (h : s0.Keeps s) : KeepsR s0 (execLdo a0 a1 s) := by
  unfold execLdo
  with_reducible (apply keeps_slotBWith; assumption); intro _ _ _; with_reducible (apply keeps_modCore; apply keeps_countEcc; assumption)

theorem keeps_execSt {s0 s : State} {a0} (h : s0.Keeps s) : KeepsR s0 (execSt a0 s) := by
  unfold execSt
  with_reducible (apply keeps_slotBOp; assumption)

theorem keeps_execSto {s0 s : State} {a0} (h : s0.Keeps s) : KeepsR s0 (execSto a0 s) := by
  unfold execSto
  with_reducible (apply keeps_slotBOp; assumption)

theorem keeps_execLd2 {s0 s : State} {a0 a1} (h : s0.Keeps s) : KeepsR s0 (execLd2 a0 a1 s) := by
  unfold execLd2
  with_reducible (apply keeps_slotBWith; assumption); intro _ _ _; with_reducible (apply keeps_modCore; apply keeps_countEcc; assumption)

theorem keeps_execSt2 {s0 s : State} {a0} (h : s0.Keeps s) : KeepsR s0 (execSt2 a0 s) := by
  unfold execSt2
  with_reducible (apply keeps_slotBOp; assumption)

theorem keeps_execLdst {s0 s : State} {a0 a1} (h : s0.Keeps s) : KeepsR s0 (execLdst a0 a1 s) := by
  unfold execLdst
  with_reducible (apply keeps_slotBWith; assumption); intro _ _ _; with_reducible (apply keeps_modCore; apply keeps_countEcc; assumption)

theorem keeps_execFld {s0 s : State} {a0} (h : s0.Keeps s) : KeepsR s0 (execFld a0 s) := by
  unfold execFld
  with_reducible (apply keeps_slotBWith; assumption); intro _ _ _; with_reducible (apply keeps_showFar; apply keeps_modCore; assumption)

theorem keeps_execFst {s0 s : State} {a0} (h : s0.Keeps s) : KeepsR s0 (execFst a0 s) := by
  unfold execFst
  with_reducible (apply keeps_slotBWith; assumption); intro _ _ _; with_reducible (apply keeps_showFar; apply keeps_modCore; assumption)

theorem keeps_execAmod {s0 s : State} {a0} (h : s0.Keeps s) : KeepsR s0 (execAmod a0 s) := by
  unfold execAmod
  with_reducible (apply keeps_slotBOp; assumption)

theorem keeps_execLdai {s0 s : State} {a0} (h : s0.Keeps s) : KeepsR s0 (execLdai a0 s) := by
  unfold execLdai
  with_reducible (apply keeps_slotBOp; assumption)

theorem keeps_settleDouble {s0 s : State} {a1} (h : s0.Keeps s) : s0.Keeps (State.settleDouble s a1) := by
  unfold State.settleDouble
  split; with_reducible (assumption; apply keeps_dspDouble; assumption)

theorem keeps_execFarResponse {s0 s : State} {a0} (h : s0.Keeps s) : KeepsR s0 (execFarResponse a0 s) := by
  unfold execFarResponse
  with_reducible apply keepsR_inst; split; with_reducible (apply keepsR_next; assumption); dsimp only; split
  with_reducible (apply keepsR_next; apply keeps_modCore; assumption; apply keepsR_next; apply keeps_settleDouble; apply keeps_showFar)
  with_reducible (apply keeps_modCore; apply keeps_modCore; assumption)

theorem keeps_execFarTimeout {s0 s : State} {a0} (h : s0.Keeps s) : KeepsR s0 (execFarTimeout a0 s) := by
  unfold execFarTimeout
  with_reducible apply keepsR_inst; split
  with_reducible (apply keepsR_next; assumption; apply keepsR_next; apply keeps_settleDouble; apply keeps_showFar; apply keeps_modCore)
  with_reducible assumption

theorem keeps_noteDeferral {s0 s : State} {a1 a2} (h : s0.Keeps s) : s0.Keeps (State.noteDeferral s a1 a2) := by
  unfold State.noteDeferral
  with_reducible (apply keeps_setReg; assumption)

theorem keeps_execTrapEntry {s0 s : State} {a0 a1 a2} (h : s0.Keeps s) : KeepsR s0 (execTrapEntry a0 a1 a2 s) := by
  unfold execTrapEntry
  with_reducible apply keepsR_inst; dsimp only; split
  with_reducible (apply keepsR_next; apply keeps_fire; apply keeps_setDspRun; apply keeps_noteDeferral; apply keeps_setReg)
  with_reducible (apply keeps_setReg; apply keeps_setReg; apply keeps_inc32; apply keeps_modCore); split; split
  with_reducible (apply keeps_settleDouble; apply keeps_modCore; apply keeps_inc32; assumption; apply keeps_inc32; assumption); split
  with_reducible (apply keeps_settleDouble; apply keeps_modCore; assumption; assumption; apply keepsR_next); split; split
  with_reducible (apply keeps_settleDouble; apply keeps_modCore; apply keeps_inc32; assumption; apply keeps_inc32; assumption); split
  with_reducible (apply keeps_settleDouble; apply keeps_modCore; assumption; assumption)

theorem keeps_execInterruptEntry {s0 s : State} {a0 a1} (h : s0.Keeps s) : KeepsR s0 (execInterruptEntry a0 a1 s) := by
  unfold execInterruptEntry
  with_reducible apply keepsR_inst; split; dsimp only
  with_reducible (apply keepsR_next; apply keeps_setDspRun; apply keeps_noteDeferral; apply keeps_inc64; apply keeps_modCore)
  with_reducible (apply keeps_takeInput; assumption; apply keepsR_next; assumption)

theorem keeps_dspLoad {s0 s : State} {a1} (h : s0.Keeps s) : s0.Keeps (State.dspLoad s a1) := by
  unfold State.dspLoad
  dsimp only; with_reducible (apply keeps_modCore; assumption)

theorem keeps_dspImageLive {s0 s : State} {a1} (h : s0.Keeps s) : s0.Keeps (State.dspImageLive s a1) := by
  unfold State.dspImageLive
  dsimp only; split; split
  with_reducible (apply keeps_inc32; apply keeps_modCore; apply keeps_setReg; assumption; apply keeps_modCore; apply keeps_modCore)
  with_reducible (apply keeps_setReg; assumption); split
  with_reducible (apply keeps_inc32; apply keeps_modCore; apply keeps_setReg; assumption; apply keeps_modCore; apply keeps_modCore)
  with_reducible (apply keeps_setReg; assumption)

theorem keeps_execImageApply {s0 s : State} {a0} (h : s0.Keeps s) : KeepsR s0 (execImageApply a0 s) := by
  unfold execImageApply
  with_reducible apply keepsR_inst; dsimp only; split
  with_reducible (apply keepsR_next; apply keeps_setDspRun; apply keeps_inc32; apply keeps_modCore; assumption; apply keepsR_next)
  with_reducible assumption

theorem keeps_execImageLoadComplete {s0 s : State} {a0} (h : s0.Keeps s) : KeepsR s0 (execImageLoadComplete a0 s) := by
  unfold execImageLoadComplete
  with_reducible apply keepsR_inst; split
  with_reducible (apply keepsR_next; apply keeps_setDspRun; apply keeps_modCore; apply keeps_dspLoad; assumption; apply keepsR_next)
  with_reducible assumption

theorem keeps_dspEnabling {s0 s : State} {a1} (h : s0.Keeps s) : s0.Keeps (State.dspEnabling s a1) := by
  unfold State.dspEnabling
  dsimp only; with_reducible (apply keeps_setDspRun; apply keeps_each; apply keeps_modCore; apply keeps_dspLoad; assumption); intro _ _ _
  with_reducible (apply keeps_setInput; assumption)

theorem keeps_dspTurnsOn {s0 s : State} {a1} (h : s0.Keeps s) : s0.Keeps (State.dspTurnsOn s a1) := by
  unfold State.dspTurnsOn
  with_reducible (apply keeps_setDspRun; assumption)

theorem keeps_dspDisabling {s0 s : State} {a1} (h : s0.Keeps s) : s0.Keeps (State.dspDisabling s a1) := by
  unfold State.dspDisabling
  dsimp only; with_reducible apply keeps_setDspRun; split; with_reducible (apply keeps_modCore; assumption); split
  with_reducible (apply keeps_modCore; assumption; apply keeps_modCore; assumption)

theorem keeps_dspTurnsOff {s0 s : State} {a1} (h : s0.Keeps s) : s0.Keeps (State.dspTurnsOff s a1) := by
  unfold State.dspTurnsOff
  split; with_reducible (apply keeps_inc32; apply keeps_modCore; assumption; assumption)

theorem keeps_cmdDspHalt {s0 s : State} {a0} (h : s0.Keeps s) : KeepsV s0 (cmdDspHalt a0 s) := by
  unfold cmdDspHalt
  dsimp only; with_reducible apply keepsV_ok; split; with_reducible (apply keeps_setDspRun; apply keeps_modCore; assumption); split
  with_reducible (apply keeps_modCore; assumption; assumption)

theorem keeps_cmdDspResume {s0 s : State} {a0} (h : s0.Keeps s) : KeepsV s0 (cmdDspResume a0 s) := by
  unfold cmdDspResume
  with_reducible (apply keepsV_accept; apply keeps_setDspRun; apply keeps_modCore; assumption)

theorem keeps_cmdDspStep {s0 s : State} {a0} (h : s0.Keeps s) : KeepsV s0 (cmdDspStep a0 s) := by
  unfold cmdDspStep
  with_reducible (apply keepsV_accept; apply keeps_setDspRun; apply keeps_modCore; assumption)

theorem keeps_execBreakpointHit {s0 s : State} {a0} (h : s0.Keeps s) : KeepsR s0 (execBreakpointHit a0 s) := by
  unfold execBreakpointHit
  with_reducible apply keepsR_inst; split
  with_reducible (apply keepsR_next; apply keeps_setDspRun; apply keeps_modCore; assumption; apply keepsR_next; assumption)

theorem keeps_setDspRegs {s0 s : State} {a1 a2} (h : s0.Keeps s) : s0.Keeps (State.setDspRegs s a1 a2) := by
  unfold State.setDspRegs
  dsimp only; with_reducible (apply keeps_modCore; assumption)

theorem keeps_dspTick {s0 s : State} (h : s0.Keeps s) : s0.Keeps (State.dspTick s) := by
  unfold State.dspTick
  with_reducible (apply keeps_each; assumption); intro _ _ _; with_reducible (apply keeps_modCore; assumption)

theorem keeps_checkImage {s0 s : State} {a1 a2} (h : s0.Keeps s) : KeepsP s0 (State.checkImage s a1 a2) := by
  unfold State.checkImage
  split; with_reducible (apply keepsP_mk; assumption; apply keepsP_mk; apply keeps_setReg; apply keeps_setReg; assumption)

end Sys2Proof.Machine
end

