-- ==== Sys2Proof/Laws/KeepsUnits.lean ====
section
/-! SUPPORT. What the definitions of Machine/Units.lean keep (State.Keeps). -/

set_option Elab.async false

namespace Sys2Proof.Machine

theorem keeps_startEnabling {s0 s : State} {a1 a2} (h : s0.Keeps s) : s0.Keeps (State.startEnabling s a1 a2) := by
  unfold State.startEnabling
  split
  with_reducible (apply keeps_groupEnabling; assumption; apply keeps_cribEnabling; assumption; apply keeps_monitorEnabling; assumption)
  with_reducible (apply keeps_frontEnabling; assumption; apply keeps_cameraEnabling; assumption; apply keeps_doveEnabling; assumption)
  with_reducible (apply keeps_gleanEnabling; assumption; apply keeps_scalerEnabling; assumption; apply keeps_dspEnabling; assumption)
  with_reducible (apply keeps_modAxis; assumption; apply keeps_each; assumption); intro _ _ _; split
  with_reducible (apply keeps_setReg; assumption; assumption; assumption; assumption; assumption; assumption; assumption; assumption)
  with_reducible (assumption; assumption; assumption; assumption)

theorem keeps_reachOn {s0 s : State} {a1 a2} (h : s0.Keeps s) : KeepsO s0 (State.reachOn s a1 a2) := by
  unfold State.reachOn
  dsimp only; split; with_reducible (apply keepsO_some; apply keeps_setReg; assumption; apply keepsO_some; apply keeps_setReg; assumption)
  with_reducible (apply keepsO_some; apply keeps_setReg; assumption; apply keepsO_some; apply keeps_setReg; assumption)
  with_reducible (apply keepsO_some; apply keeps_setReg; assumption; apply keepsO_some; apply keeps_channelReaches; apply keeps_setReg)
  with_reducible (assumption; apply keepsO_some; apply keeps_groupOn; assumption; apply keepsO_some; apply keeps_cribTurnsOn)
  with_reducible (apply keeps_setReg; assumption; apply keepsO_some; apply keeps_jigOn; apply keeps_setReg; assumption)
  with_reducible (apply keepsO_some; apply keeps_winnowTurnsOn; apply keeps_setReg; assumption; apply keepsO_some)
  with_reducible (apply keeps_dspTurnsOn; apply keeps_setReg; assumption; apply keepsO_some; apply keeps_dmaTurnsOn; apply keeps_setReg)
  with_reducible assumption; split
  with_reducible (apply keepsO_none; apply keepsO_some; apply keeps_axisStart; assumption; apply keepsO_some; apply keeps_genStart)
  with_reducible (assumption; apply keepsO_some; apply keeps_counterOn; apply keeps_setReg; assumption; apply keepsO_none)
  with_reducible (apply keepsO_none; apply keepsO_none; apply keepsO_none; apply keepsO_none; apply keepsO_none)

theorem keeps_toDisabling {s0 s : State} {a1 a2} (h : s0.Keeps s) : s0.Keeps (State.toDisabling s a1 a2) := by
  unfold State.toDisabling
  with_reducible apply keeps_setReg; split; with_reducible (assumption; apply keeps_setReg; assumption)

theorem keeps_startDisabling {s0 s : State} {a1 a2 a3} (h : s0.Keeps s) : s0.Keeps (State.startDisabling s a1 a2 a3) := by
  unfold State.startDisabling
  split; with_reducible (apply keeps_closePort; assumption; apply keeps_groupDisabling; assumption; apply keeps_cribDisabling; assumption)
  with_reducible (apply keeps_cameraDisabling; assumption; apply keeps_frontDisabling; assumption; apply keeps_doveDisabling; assumption)
  with_reducible (apply keeps_gleanDisabling; assumption; apply keeps_dspDisabling; assumption; apply keeps_dmaAbort; assumption)
  with_reducible (apply keeps_axisLeaves; assumption; apply keeps_cancelEntries; assumption; apply keeps_jigDisabling; assumption); split
  with_reducible (apply keeps_channelLeaves; assumption; assumption; assumption; assumption; assumption; assumption; assumption)
  with_reducible (assumption; assumption; assumption)

theorem keeps_disableOne {s0 s : State} {a1 a2 a3} (h : s0.Keeps s) : s0.Keeps (State.disableOne s a1 a2 a3) := by
  unfold State.disableOne
  split; dsimp only; split
  with_reducible (apply keeps_setReg; apply keeps_scalerTurnsOff; apply keeps_startDisabling; apply keeps_toDisabling; assumption)
  with_reducible (apply keeps_startDisabling; apply keeps_toDisabling; assumption; apply keeps_startDisabling; apply keeps_toDisabling)
  with_reducible (assumption; apply keeps_toDisabling; assumption); split; with_reducible assumption; split
  with_reducible (apply keeps_setReg; assumption; assumption)

theorem keeps_disableUnit {s0 s : State} {a1 a2 a3} (h : s0.Keeps s) : s0.Keeps (State.disableUnit s a1 a2 a3) := by
  unfold State.disableUnit
  dsimp only; with_reducible apply keeps_disableOne; split; with_reducible (apply keeps_foldl; assumption); intro _ _ _; split
  with_reducible (assumption; apply keeps_disableOne; assumption; assumption)

theorem keeps_turnOff {s0 s : State} {a1 a2} (h : s0.Keeps s) : s0.Keeps (State.turnOff s a1 a2) := by
  unfold State.turnOff
  split; with_reducible (apply keeps_setReg; assumption; apply keeps_groupOff; assumption; apply keeps_cribTurnsOff; assumption)
  with_reducible (apply keeps_jigOff; assumption; apply keeps_formatterTurnsOff; assumption; apply keeps_leaveChannel; assumption)
  with_reducible (apply keeps_cameraTurnsOff; assumption; apply keeps_winnowTurnsOff; assumption; apply keeps_scalerTurnsOff; assumption)
  with_reducible (apply keeps_signalLoss; apply keeps_each; assumption); intro _ _ _
  with_reducible (apply keeps_ptpPort; apply keeps_setReg; assumption; apply keeps_dspTurnsOff; assumption; assumption; assumption)
  with_reducible (assumption; assumption; assumption; assumption; assumption; assumption; assumption; assumption)

theorem keeps_unitOff {s0 s : State} {a1 a2} (h : s0.Keeps s) : s0.Keeps (State.unitOff s a1 a2) := by
  unfold State.unitOff
  dsimp only; with_reducible apply keeps_reachOff; split
  with_reducible (apply keeps_setReg; apply keeps_turnOff; assumption; apply keeps_turnOff; assumption); intro _ _
  with_reducible (apply keeps_startEnabling; assumption)

theorem keeps_enableUnit {s0 s : State} {a1 a2} (h : s0.Keeps s) : KeepsV s0 (State.enableUnit s a1 a2) := by
  unfold State.enableUnit
  split; with_reducible (apply keepsV_ok; apply keeps_setReg; assumption); split; split
  with_reducible (apply keepsV_ok; apply keeps_startEnabling; apply keeps_setReg; apply keeps_setReg; assumption; apply keepsV_error)
  split; with_reducible (apply keepsV_ok; apply keeps_setReg; apply keeps_setReg; assumption; apply keepsV_error; apply keepsV_ok)
  with_reducible (apply keeps_setReg; assumption)

theorem keeps_disableWritten {s0 s : State} {a1 a2} (h : s0.Keeps s) : s0.Keeps (State.disableWritten s a1 a2) := by
  unfold State.disableWritten
  split; with_reducible (apply keeps_setReg; assumption; apply keeps_setReg; apply keeps_disableUnit; assumption)

theorem keeps_execEnablingComplete {s0 s : State} {a0} (h : s0.Keeps s) : KeepsR s0 (execEnablingComplete a0 s) := by
  unfold execEnablingComplete
  with_reducible apply keepsR_inst; split; split
  with_reducible (apply keepsR_next; apply keeps_getD; apply keeps_reachOn; assumption; assumption; apply keepsR_next; assumption)
  with_reducible (apply keepsR_next; assumption)

theorem keeps_keepStop {s0 s : State} {a1} (h : s0.Keeps s) : s0.Keeps (State.keepStop s a1) := by
  unfold State.keepStop
  with_reducible (apply keeps_foldl; assumption); intro _ _ _; split; with_reducible (assumption; apply keeps_disableUnit; assumption)

theorem keeps_keepSteps  {s0 s : State} {n : Nat} (h : s0.Keeps s) : s0.Keeps (State.keepSteps n s) := by
  induction n generalizing s with
  | zero => exact h
  | succ n ih =>
    unfold State.keepSteps
    dsimp only; split; apply ih; with_reducible (apply keeps_keepStop; apply keeps_mk; assumption; assumption)

theorem keeps_keepAdvance {s0 s : State} (h : s0.Keeps s) : s0.Keeps (State.keepAdvance s) := by
  unfold State.keepAdvance
  with_reducible (apply keeps_keepSteps; assumption)

theorem keeps_execDisablingComplete {s0 s : State} {a0} (h : s0.Keeps s) : KeepsR s0 (execDisablingComplete a0 s) := by
  unfold execDisablingComplete
  with_reducible apply keepsR_inst; split; split
  with_reducible (apply keepsR_next; apply keeps_keepAdvance; apply keeps_unitOff; assumption; apply keepsR_next; assumption)
  with_reducible (apply keepsR_next; assumption)

end Sys2Proof.Machine
end

