-- ==== Sys2Proof/Laws/KeepsDram.lean ====
section
/-! SUPPORT. What the definitions of Machine/Dram.lean keep (State.Keeps). -/

set_option Elab.async false

namespace Sys2Proof.Machine

theorem keeps_execChannelLost {s0 s : State} {a0 a1} (h : s0.Keeps s) : KeepsR s0 (execChannelLost a0 a1 s) := by
  unfold execChannelLost
  with_reducible (apply keepsR_inst; apply keepsR_next); split; with_reducible (apply keeps_channelLost; assumption; assumption)

theorem keeps_cmdDeclareLost {s0 s : State} {a0} (h : s0.Keeps s) : KeepsV s0 (cmdDeclareLost a0 s) := by
  unfold cmdDeclareLost
  with_reducible (apply keepsV_ok; apply keeps_channelLost; assumption)

theorem keeps_trainDraw  {s0 s : State} (h : s0.Keeps s) : s0.Keeps ((State.trainDraw s).2.2) := by
  unfold State.trainDraw
  dsimp only
  with_reducible (apply keeps_snd; apply keeps_draw; apply keeps_snd; apply keeps_draw; assumption)

theorem keeps_zeroUnprotected {s0 s : State} {a1} (h : s0.Keeps s) : s0.Keeps (State.zeroUnprotected s a1) := by
  unfold State.zeroUnprotected
  with_reducible (apply keeps_setDdr; apply keeps_dram; assumption); exact dramWf_filter _

theorem keeps_cmdRebuild {s0 s : State} {a0} (h : s0.Keeps s) : KeepsV s0 (cmdRebuild a0 s) := by
  unfold cmdRebuild
  split; with_reducible apply keepsV_error; dsimp only; split
  with_reducible (apply keepsV_ok; apply keeps_setReg; apply keeps_trainDraw; assumption; apply keepsV_ok; apply keeps_modChan)
  with_reducible (apply keeps_zeroUnprotected; apply keeps_setReg; apply keeps_setReg; apply keeps_takeDelays; apply keeps_trainDraw)
  with_reducible assumption

theorem keeps_rebuildUnit {s0 s : State} {a1 a2} (h : s0.Keeps s) : s0.Keeps (State.rebuildUnit s a1 a2) := by
  unfold State.rebuildUnit
  dsimp only; with_reducible (apply keeps_setReg; apply keeps_modChan); split
  with_reducible (apply keeps_deviceWrite; apply keeps_each; assumption); intro _ _ _
  with_reducible (apply keeps_deviceRead; assumption; apply keeps_markUnit; apply keeps_deviceWrite; apply keeps_each; assumption)
  intro _ _ _; with_reducible (apply keeps_deviceRead; assumption)

theorem keeps_rebuildTick {s0 s : State} {a1} (h : s0.Keeps s) : s0.Keeps (State.rebuildTick s a1) := by
  unfold State.rebuildTick
  dsimp only; with_reducible (apply keeps_each; apply keeps_modChan; assumption); intro _ _ _
  with_reducible (apply keeps_rebuildUnit; assumption)

theorem keeps_dramTick {s0 s : State} (h : s0.Keeps s) : s0.Keeps (State.dramTick s) := by
  unfold State.dramTick
  dsimp only; split; with_reducible (apply keeps_each; assumption); intro _ _ _
  with_reducible (apply keeps_rebuildTick; assumption; apply keeps_inc64; apply keeps_each; assumption); intro _ _ _
  with_reducible (apply keeps_rebuildTick; assumption)

theorem keeps_rebuildRest {s0 s : State} {a1} (h : s0.Keeps s) : s0.Keeps (State.rebuildRest s a1) := by
  unfold State.rebuildRest
  dsimp only; with_reducible (apply keeps_modChan; apply keeps_inc64; apply keeps_each; apply keeps_each; assumption); intro _ _ _
  with_reducible (apply keeps_markUnit; apply keeps_putUnit; assumption); intro _ _ _; with_reducible (apply keeps_inc64; assumption)

theorem keeps_execRebuildComplete {s0 s : State} {a0} (h : s0.Keeps s) : KeepsR s0 (execRebuildComplete a0 s) := by
  unfold execRebuildComplete
  with_reducible apply keepsR_inst; split; dsimp only
  with_reducible (apply keepsR_next; apply keeps_faultRecord; apply keeps_setReg; apply keeps_setReg; apply keeps_rebuildRest)
  with_reducible (assumption; apply keepsR_next; assumption)

theorem keeps_execDramRead {s0 s : State} {a0 a1 a2} (h : s0.Keeps s) : KeepsR s0 (execDramRead a0 a1 a2 s) := by
  unfold execDramRead
  with_reducible apply keepsR_inst; split; with_reducible (apply keepsR_next; assumption); split
  with_reducible (apply keepsR_next; assumption); dsimp only; split
  with_reducible (apply keepsR_next; apply keeps_enqueue; apply keeps_meterU; assumption; apply keepsR_next; apply keeps_readUnit)
  with_reducible (apply keeps_meterU; assumption)

theorem keeps_execScrubRead {s0 s : State} {a0 a1} (h : s0.Keeps s) : KeepsR s0 (execScrubRead a0 a1 s) := by
  unfold execScrubRead
  with_reducible apply keepsR_inst; split; dsimp only; with_reducible apply keepsR_next; split; split
  with_reducible (apply keeps_deviceWrite; apply keeps_readUnit; apply keeps_modChan; assumption; apply keeps_readUnit)
  with_reducible (apply keeps_modChan; assumption); split
  with_reducible (apply keeps_deviceWrite; apply keeps_readUnit; apply keeps_modChan; assumption; apply keeps_readUnit)
  with_reducible (apply keeps_modChan; assumption; apply keepsR_next; assumption)

theorem keeps_execParityEngineWrite {s0 s : State} {a0 a1} (h : s0.Keeps s) : KeepsR s0 (execParityEngineWrite a0 a1 s) := by
  unfold execParityEngineWrite
  split; with_reducible (apply keepsR_next; apply keeps_store; assumption; apply keepsR_next; assumption)

theorem keeps_execAssemblyClose {s0 s : State} {a0} (h : s0.Keeps s) : KeepsR s0 (execAssemblyClose a0 s) := by
  unfold execAssemblyClose
  split
  with_reducible (apply keepsR_next; apply keeps_admitWriters; apply keeps_closeAssembly; assumption; apply keepsR_next; assumption)

theorem keeps_flushEngine {s0 s : State} (h : s0.Keeps s) : s0.Keeps (State.flushEngine s) := by
  unfold State.flushEngine
  dsimp only; with_reducible (apply keeps_each; apply keeps_each; assumption); intro _ _ _
  with_reducible (apply keeps_closeAssembly; assumption); intro _ _ _; with_reducible (apply keeps_closeStripe; assumption)

theorem keeps_refresh {s0 s : State} {a1 a2} (h : s0.Keeps s) : s0.Keeps (State.refresh s a1 a2) := by
  unfold State.refresh
  dsimp only; split; with_reducible (apply keeps_takeDelays; apply keeps_modChan; apply keeps_closeRows; assumption; apply keeps_modChan)
  with_reducible (apply keeps_closeRows; assumption)

theorem keeps_execRefreshDue {s0 s : State} {a0 a1 a2} (h : s0.Keeps s) : KeepsR s0 (execRefreshDue a0 a1 a2 s) := by
  unfold execRefreshDue
  with_reducible apply keepsR_inst; split; dsimp only; split
  with_reducible (apply keepsR_next; apply keeps_inc32; apply keeps_modChan; assumption; apply keepsR_next; apply keeps_refresh)
  with_reducible (apply keeps_modChan; assumption; apply keepsR_next; assumption)

theorem keeps_execMr4Read {s0 s : State} {a0 a1 a2} (h : s0.Keeps s) : KeepsR s0 (execMr4Read a0 a1 a2 s) := by
  unfold execMr4Read
  with_reducible apply keepsR_inst; split
  with_reducible (apply keepsR_next; apply keeps_modChan; apply keeps_setReg; assumption; apply keepsR_next; assumption)

theorem keeps_startApply {s0 s : State} {a1 a2} (h : s0.Keeps s) : s0.Keeps (State.startApply s a1 a2) := by
  unfold State.startApply
  with_reducible (apply keeps_modChan; assumption)

theorem keeps_cmdApplyDelays {s0 s : State} {a0} (h : s0.Keeps s) : KeepsV s0 (cmdApplyDelays a0 s) := by
  unfold cmdApplyDelays
  with_reducible (apply keepsV_accept; apply keeps_startApply; assumption)

theorem keeps_cmdRecalibrate {s0 s : State} {a0} (h : s0.Keeps s) : KeepsV s0 (cmdRecalibrate a0 s) := by
  unfold cmdRecalibrate
  with_reducible (apply keepsV_accept; apply keeps_setReg; assumption)

theorem keeps_recalRefused {s0 s : State} {a1} (h : s0.Keeps s) : s0.Keeps (State.recalRefused s a1) := by
  unfold State.recalRefused
  with_reducible (apply keeps_setReg; assumption)

theorem keeps_recalDone {s0 s : State} {a1 a2 a3} (h : s0.Keeps s) : s0.Keeps (State.recalDone s a1 a2 a3) := by
  unfold State.recalDone
  dsimp only; split; with_reducible (apply keeps_channelLost; apply keeps_setReg; apply keeps_setReg; assumption; apply keeps_startApply)
  with_reducible (apply keeps_setReg; apply keeps_setReg; assumption)

theorem keeps_execRecalWindow {s0 s : State} {a0 a1 a2 a3} (h : s0.Keeps s) : KeepsR s0 (execRecalWindow a0 a1 a2 a3 s) := by
  unfold execRecalWindow
  with_reducible apply keepsR_inst; split; split; with_reducible (apply keepsR_next; apply keeps_goOffline; assumption); dsimp only
  with_reducible apply keepsR_next; split
  with_reducible (apply keeps_recalDone; apply keeps_backOnline; assumption; apply keeps_backOnline; assumption; apply keepsR_next)
  with_reducible (assumption; apply keepsR_next; assumption)

theorem keeps_cmdFreqChange {s0 s : State} (h : s0.Keeps s) : KeepsV s0 (cmdFreqChange s) := by
  unfold cmdFreqChange
  with_reducible (apply keepsV_accept; apply keeps_setReg; apply keeps_setDdr; assumption)

theorem keeps_freqRefused {s0 s : State} (h : s0.Keeps s) : s0.Keeps (State.freqRefused s) := by
  unfold State.freqRefused
  with_reducible (apply keeps_setReg; assumption)

theorem keeps_freqDone {s0 s : State} (h : s0.Keeps s) : s0.Keeps (State.freqDone s) := by
  unfold State.freqDone
  dsimp only; with_reducible (apply keeps_setDdr; apply keeps_setReg; apply keeps_setReg; apply keeps_each; assumption); intro _ _ _
  with_reducible (apply keeps_setReg; apply keeps_setReg; assumption)

theorem keeps_execChannelFreqSwitch {s0 s : State} (h : s0.Keeps s) : KeepsR s0 (execChannelFreqSwitch s) := by
  unfold execChannelFreqSwitch
  split; with_reducible (apply keepsR_next; assumption); split; with_reducible (apply keepsR_next; apply keeps_goOffline; assumption)
  dsimp only; with_reducible apply keepsR_next; split
  with_reducible (apply keeps_freqDone; apply keeps_backOnline; assumption; apply keeps_backOnline; assumption; apply keepsR_next)
  with_reducible assumption

theorem keeps_cmdStoreDelays {s0 s : State} (h : s0.Keeps s) : KeepsV s0 (cmdStoreDelays s) := by
  unfold cmdStoreDelays
  dsimp only; with_reducible (apply keepsV_ok; apply keeps_setReg; apply keeps_setReg; apply keeps_setReg; apply keeps_mk; assumption)

theorem keeps_trainChannel {s0 s : State} {a1} (h : s0.Keeps s) : s0.Keeps (State.trainChannel s a1) := by
  unfold State.trainChannel
  dsimp only; split
  with_reducible (apply keeps_channelLost; apply keeps_takeDelays; apply keeps_trainDraw; assumption; apply keeps_takeDelays)
  with_reducible (apply keeps_trainDraw; assumption)

theorem keeps_noTable {s0 s : State} (h : s0.Keeps s) : s0.Keeps (State.noTable s) := by
  unfold State.noTable
  with_reducible (apply keeps_setReg; apply keeps_setReg; apply keeps_setReg; apply keeps_setReg; assumption)

theorem keeps_dramStart {s0 s : State} (h : s0.Keeps s) : s0.Keeps (State.dramStart s) := by
  unfold State.dramStart
  dsimp only; split; split
  with_reducible (apply keeps_setReg; apply keeps_setReg; apply keeps_setReg; assumption; apply keeps_setReg; apply keeps_each)
  with_reducible (apply keeps_setReg; apply keeps_setReg; apply keeps_setReg; assumption); intro _ _ _
  with_reducible (apply keeps_trainChannel; assumption; apply keeps_setReg; apply keeps_each; apply keeps_noTable; assumption)
  intro _ _ _; with_reducible (apply keeps_trainChannel; assumption)

theorem keeps_dramAfter {s0 s : State} {a1 a2 a3} (h : s0.Keeps s) : s0.Keeps (dramAfter s a1 a2 a3) := by
  unfold dramAfter
  split; dsimp only
  with_reducible (apply keeps_setReg; apply keeps_setReg; apply keeps_setReg; apply keeps_flushEngine; apply keeps_setReg; assumption)
  with_reducible assumption

end Sys2Proof.Machine
end

