-- ==== Sys2Proof/Laws/KeepsPower.lean ====
section
/-! SUPPORT. What the definitions of Machine/Power.lean keep (State.Keeps). -/

set_option Elab.async false

namespace Sys2Proof.Machine

theorem keeps_modPower {s0 s : State} {a1} (h : s0.Keeps s) : s0.Keeps (State.modPower s a1) := by
  unfold State.modPower
  with_reducible (apply keeps_mk; assumption)

theorem keeps_setPw {s0 s : State} {a1} (h : s0.Keeps s) : s0.Keeps (State.setPw s a1) := by
  unfold State.setPw
  with_reducible (apply keeps_setReg; assumption)

theorem keeps_nvRecord {s0 s : State} {a1 a2 a3 a4} (h : s0.Keeps s) : s0.Keeps (State.nvRecord s a1 a2 a3 a4) := by
  unfold State.nvRecord
  split; with_reducible (apply keeps_nvPlace; apply keeps_of_pair (by assumption); apply keeps_draw; assumption)

theorem keeps_powerOff {s0 s : State} (h : s0.Keeps s) : s0.Keeps (State.powerOff s) := by
  unfold State.powerOff
  with_reducible (apply keeps_setPw; apply keeps_resetUnits; assumption)

theorem keeps_restart {s0 s : State} {a1} (h : s0.Keeps s) : s0.Keeps (State.restart s a1) := by
  unfold State.restart
  dsimp only
  with_reducible (apply keeps_setReg; apply keeps_setPw; apply keeps_mk; apply keeps_modPower; apply keeps_resetUnits; assumption)

theorem keeps_resetPulse {s0 s : State} {a1} (h : s0.Keeps s) : s0.Keeps (State.resetPulse s a1) := by
  unfold State.resetPulse
  split; with_reducible (apply keeps_restart; assumption; apply keeps_setPw; apply keeps_resetUnits; assumption)

theorem keeps_execPorstNAssert {s0 s : State} (h : s0.Keeps s) : KeepsR s0 (execPorstNAssert s) := by
  unfold execPorstNAssert
  with_reducible apply keepsR_next; split; with_reducible (apply keeps_modPower; apply keeps_resetUnits; assumption; assumption)

theorem keeps_execPorstNRelease {s0 s : State} (h : s0.Keeps s) : KeepsR s0 (execPorstNRelease s) := by
  unfold execPorstNRelease
  with_reducible apply keepsR_next; split; with_reducible (assumption; apply keeps_resetPulse; apply keeps_modPower; assumption)

theorem keeps_execPwrEnFall {s0 s : State} (h : s0.Keeps s) : KeepsR s0 (execPwrEnFall s) := by
  unfold execPwrEnFall
  with_reducible apply keepsR_next; split; with_reducible assumption; dsimp only; split
  with_reducible (apply keeps_powerOff; apply keeps_nvRecord; apply keeps_modPower; assumption; apply keeps_modPower; assumption)

theorem keeps_execPwrEnRise {s0 s : State} (h : s0.Keeps s) : KeepsR s0 (execPwrEnRise s) := by
  unfold execPwrEnRise
  with_reducible apply keepsR_next; split; with_reducible assumption; dsimp only; split; with_reducible (apply keeps_modPower; assumption)
  split; split; with_reducible (apply keeps_restart; apply keeps_modPower; assumption; apply keeps_inc8; apply keeps_modPower; assumption)
  with_reducible (apply keeps_restart; apply keeps_modPower; assumption)

theorem keeps_execUndervoltage {s0 s : State} {a0} (h : s0.Keeps s) : KeepsR s0 (execUndervoltage a0 s) := by
  unfold execUndervoltage
  with_reducible (apply keepsR_inst; apply keepsR_next); split
  with_reducible (apply keeps_powerOff; apply keeps_modPower; apply keeps_nvRecord; assumption; assumption)

theorem keeps_execVaonLow {s0 s : State} (h : s0.Keeps s) : KeepsR s0 (execVaonLow s) := by
  unfold execVaonLow
  with_reducible (apply keepsR_next; apply keeps_modPower; apply keeps_regs; assumption); exact sorted_filter _

theorem keeps_cmdReset {s0 s : State} (h : s0.Keeps s) : KeepsV s0 (cmdReset s) := by
  unfold cmdReset
  with_reducible (apply keepsV_ok; apply keeps_resetPulse; assumption)

theorem keeps_execJtagReset {s0 s : State} (h : s0.Keeps s) : KeepsR s0 (execJtagReset s) := by
  unfold execJtagReset
  with_reducible apply keepsR_next; split
  with_reducible (apply keeps_resetPulse; apply keeps_tap; assumption; apply keeps_tap; assumption)

theorem keeps_showChecks {s0 s : State} (h : s0.Keeps s) : s0.Keeps (State.showChecks s) := by
  unfold State.showChecks
  dsimp only; split; with_reducible (apply keeps_setReg; assumption; apply keeps_setReg; apply keeps_setReg; assumption)

theorem keeps_execDictionaryReachable {s0 s : State} {a0 a1 a2} (h : s0.Keeps s) : KeepsR s0 (execDictionaryReachable a0 a1 a2 s) := by
  unfold execDictionaryReachable
  with_reducible apply keepsR_next; split; with_reducible assumption; dsimp only; split
  with_reducible (apply keeps_mk; apply keeps_modPower; apply keeps_setReg; apply keeps_setReg; apply keeps_runSlot; apply keeps_each)
  with_reducible (apply keeps_setPair; apply keeps_setPair; apply keeps_setReg; apply keeps_setReg; apply keeps_showChecks; assumption)
  intro _ _ _
  with_reducible (apply keeps_setReg; assumption; apply keeps_modPower; apply keeps_setReg; apply keeps_each; apply keeps_setPair)
  with_reducible (apply keeps_setPair; apply keeps_setReg; apply keeps_setReg; apply keeps_showChecks; assumption); intro _ _ _
  with_reducible (apply keeps_setReg; assumption)

theorem keeps_placeBay {s0 s : State} {a1 a2 a3} (h : s0.Keeps s) : s0.Keeps (State.placeBay s a1 a2 a3) := by
  unfold State.placeBay
  dsimp only; split; with_reducible (assumption; apply keeps_showBay; apply keeps_each; apply keeps_each; assumption); intro _ _ _; split
  with_reducible (apply keeps_setTileState; assumption); split; with_reducible (apply keeps_setTileState; assumption); split
  with_reducible (apply keeps_setTileState; assumption; apply keeps_setTileState; assumption); intro _ _ _
  with_reducible (apply keeps_setPlacement; assumption)

theorem keeps_placeTiles {s0 s : State} {a1} (h : s0.Keeps s) : s0.Keeps (State.placeTiles s a1) := by
  unfold State.placeTiles
  dsimp only; with_reducible (apply keeps_setReg; apply keeps_each; apply keeps_each; assumption); intro _ _ _
  with_reducible (apply keeps_placeBay; assumption); intro _ _ _; with_reducible (apply keeps_faultRecord; assumption)

theorem keeps_failLanes {s0 s : State} {a1} (h : s0.Keeps s) : s0.Keeps (State.failLanes s a1) := by
  unfold State.failLanes
  dsimp only; with_reducible (apply keeps_setReg; apply keeps_each; assumption); intro _ _ _; split
  with_reducible (apply keeps_setLaneState; assumption; apply keeps_setReg; assumption)

theorem keeps_shimMap {s0 s : State} {a1} (h : s0.Keeps s) : s0.Keeps (State.shimMap s a1) := by
  unfold State.shimMap
  with_reducible (apply keeps_each; assumption); intro _ _ _; with_reducible (apply keeps_setTile; assumption)

theorem keeps_execBootComplete {s0 s : State} {a0 a1 a2} (h : s0.Keeps s) : KeepsR s0 (execBootComplete a0 a1 a2 s) := by
  unfold execBootComplete
  with_reducible apply keepsR_next; split; dsimp only; split
  with_reducible (apply keeps_setReg; apply keeps_nvRecord; apply keeps_setReg; apply keeps_setReg; apply keeps_setPw)
  with_reducible (apply keeps_failLanes; apply keeps_shimMap; apply keeps_placeTiles; apply keeps_dramStart; assumption)
  with_reducible (apply keeps_nvRecord; apply keeps_setReg; apply keeps_setReg; apply keeps_setPw; apply keeps_failLanes)
  with_reducible (apply keeps_shimMap; apply keeps_placeTiles; apply keeps_dramStart; assumption; assumption)

theorem keeps_execFirmwareFlashComplete {s0 s : State} {a0} (h : s0.Keeps s) : KeepsR s0 (execFirmwareFlashComplete a0 s) := by
  unfold execFirmwareFlashComplete
  with_reducible apply keepsR_next; split; split; dsimp only; split
  with_reducible (apply keeps_resetPulse; apply keeps_mk; apply keeps_setReg; apply keeps_setSlot; assumption; apply keeps_setReg)
  with_reducible (apply keeps_setSlot; assumption; apply keeps_setReg; assumption; assumption)

theorem keeps_cmdKeep {s0 s : State} (h : s0.Keeps s) : KeepsV s0 (cmdKeep s) := by
  unfold cmdKeep
  split
  with_reducible (apply keepsV_ok; apply keeps_setReg; assumption; apply keepsV_accept; apply keeps_keepAdvance; apply keeps_keepStop)
  with_reducible (apply keeps_modPower; apply keeps_setPw; assumption)

theorem keeps_cmdWake {s0 s : State} (h : s0.Keeps s) : KeepsV s0 (cmdWake s) := by
  unfold cmdWake
  split; with_reducible (apply keepsV_ok; apply keeps_setReg; assumption; apply keepsV_accept; apply keeps_setPw; assumption)

theorem keeps_abandonWork {s0 s : State} {a1 a2} (h : s0.Keeps s) : s0.Keeps (State.abandonWork s a1 a2) := by
  unfold State.abandonWork
  split
  with_reducible (apply keeps_mk; assumption; apply keeps_modCam; assumption; apply keeps_modFront; assumption; apply keeps_modDove)
  with_reducible (assumption; apply keeps_gleanStop; assumption); dsimp only
  with_reducible (apply keeps_setDspRun; apply keeps_dropRequests; apply keeps_showFar; apply keeps_modCore; assumption)
  with_reducible (apply keeps_setDmaRun; apply keeps_lockEnd; apply keeps_modDma; assumption; apply keeps_modList; assumption)
  with_reducible (apply keeps_modGen; assumption; assumption)

theorem keeps_forceOff {s0 s : State} {a1 a2} (h : s0.Keeps s) : s0.Keeps (State.forceOff s a1 a2) := by
  unfold State.forceOff
  dsimp only; with_reducible (apply keeps_inc32; apply keeps_setReg; apply keeps_turnOff; apply keeps_abandonWork); split
  with_reducible (apply keeps_disableUnit; assumption; assumption)

theorem keeps_execKeepTimeout {s0 s : State} (h : s0.Keeps s) : KeepsR s0 (execKeepTimeout s) := by
  unfold execKeepTimeout
  with_reducible apply keepsR_next; split; dsimp only; with_reducible (apply keeps_modPower; apply keeps_each; assumption); intro _ _ _
  with_reducible (apply keeps_foldl; assumption); intro _ _ _; split
  with_reducible (assumption; apply keeps_forceOff; assumption; assumption)

theorem keeps_keepLoss {s0 s : State} (h : s0.Keeps s) : s0.Keeps (State.keepLoss s) := by
  unfold State.keepLoss
  dsimp only; with_reducible (apply keeps_mk; assumption)

theorem keeps_stopOtherPort {s0 s : State} (h : s0.Keeps s) : s0.Keeps (State.stopOtherPort s) := by
  unfold State.stopOtherPort
  dsimp only; split; with_reducible (assumption; apply keeps_setReg; apply keeps_setReg; apply keeps_closePort; assumption)

theorem keeps_execKeepEntryComplete {s0 s : State} {a0} (h : s0.Keeps s) : KeepsR s0 (execKeepEntryComplete a0 s) := by
  unfold execKeepEntryComplete
  dsimp only; with_reducible apply keepsR_next; split; split; split
  with_reducible (apply keeps_setPw; apply keeps_setReg; apply keeps_modPower; apply keeps_setReg; apply keeps_inc32; apply keeps_each)
  with_reducible (apply keeps_stopOtherPort; apply keeps_keepLoss; apply keeps_flushEngine; apply keeps_keepAdvance; assumption)
  intro _ _ _
  with_reducible (apply keeps_modChan; assumption; apply keeps_setPw; apply keeps_modPower; apply keeps_setReg; apply keeps_inc32)
  with_reducible (apply keeps_each; apply keeps_stopOtherPort; apply keeps_keepLoss; apply keeps_flushEngine; apply keeps_keepAdvance)
  with_reducible assumption; intro _ _ _; with_reducible (apply keeps_modChan; assumption); split
  with_reducible (apply keeps_setPw; apply keeps_setReg; apply keeps_modPower; apply keeps_setReg; apply keeps_inc32; apply keeps_mk)
  with_reducible (apply keeps_each; apply keeps_stopOtherPort; apply keeps_keepLoss; apply keeps_flushEngine; apply keeps_keepAdvance)
  with_reducible assumption; intro _ _ _
  with_reducible (apply keeps_modChan; assumption; apply keeps_setPw; apply keeps_modPower; apply keeps_setReg; apply keeps_inc32)
  with_reducible (apply keeps_mk; apply keeps_each; apply keeps_stopOtherPort; apply keeps_keepLoss; apply keeps_flushEngine)
  with_reducible (apply keeps_keepAdvance; assumption); intro _ _ _
  with_reducible (apply keeps_modChan; assumption; apply keeps_keepAdvance; assumption)

theorem keeps_followEnable {s0 s : State} {a1 a2} (h : s0.Keeps s) : s0.Keeps (State.followEnable s a1 a2) := by
  unfold State.followEnable
  split; split; with_reducible (apply keeps_startEnabling; apply keeps_setReg; assumption; assumption); split
  with_reducible (assumption; apply keeps_disableUnit; assumption)

theorem keeps_reloadWeights {s0 s : State} (h : s0.Keeps s) : s0.Keeps (State.reloadWeights s) := by
  unfold State.reloadWeights
  with_reducible (apply keeps_each; assumption); intro _ _ _; with_reducible (apply keeps_each; assumption); intro _ _ _; split
  with_reducible (apply keeps_loadSlots; assumption; assumption)

theorem keeps_restartRef {s0 s : State} (h : s0.Keeps s) : s0.Keeps (State.restartRef s) := by
  unfold State.restartRef
  split; with_reducible (assumption; apply keeps_reselect; apply keeps_enterRef; apply keeps_mk; assumption)

theorem keeps_execKeepExitComplete {s0 s : State} {a0} (h : s0.Keeps s) : KeepsR s0 (execKeepExitComplete a0 s) := by
  unfold execKeepExitComplete
  with_reducible apply keepsR_next; split; dsimp only
  with_reducible (apply keeps_foldl; apply keeps_setReg; apply keeps_setPw; apply keeps_restartRef); split
  with_reducible (assumption; apply keeps_reloadWeights; assumption); intro _ _ _
  with_reducible (apply keeps_followEnable; assumption; assumption)

theorem keeps_sensorTest {s0 s : State} {a1} (h : s0.Keeps s) : s0.Keeps (State.sensorTest s a1) := by
  unfold State.sensorTest
  dsimp only; with_reducible (apply keeps_each; apply keeps_setReg; apply keeps_setReg; apply keeps_modPower; assumption); intro _ _ _
  with_reducible (apply keeps_faultRecord; assumption)

theorem keeps_junction {s0 s : State} {a1 a2} (h : s0.Keeps s) : s0.Keeps (State.junction s a1 a2) := by
  unfold State.junction
  dsimp only; with_reducible (apply keeps_setReg; apply keeps_setReg; apply keeps_setReg; apply keeps_each; assumption); intro _ _ _
  with_reducible (apply keeps_setReg; apply keeps_setReg; assumption)

theorem keeps_thermalState {s0 s : State} (h : s0.Keeps s) : s0.Keeps (State.thermalState s) := by
  unfold State.thermalState
  dsimp only; with_reducible (apply keeps_setReg; apply keeps_setReg; apply keeps_modPower); split; with_reducible apply keeps_inc32
  split; with_reducible (apply keeps_whenB; apply keeps_inc32; apply keeps_setReg; assumption); intro _ _
  with_reducible (apply keeps_fire; assumption; apply keeps_setReg; assumption); split
  with_reducible (apply keeps_whenB; apply keeps_inc32; apply keeps_setReg; assumption); intro _ _
  with_reducible (apply keeps_fire; assumption; apply keeps_setReg; assumption)

theorem keeps_thermalShutdown {s0 s : State} (h : s0.Keeps s) : s0.Keeps (State.thermalShutdown s) := by
  unfold State.thermalShutdown
  split; with_reducible (apply keeps_powerOff; apply keeps_modPower; apply keeps_nvRecord; assumption; assumption)

theorem keeps_drainDeferred {s0 s : State} (h : s0.Keeps s) : s0.Keeps (State.drainDeferred s) := by
  unfold State.drainDeferred
  split; dsimp only; with_reducible (apply keeps_each; apply keeps_modPower; assumption); intro _ _ _
  with_reducible (apply keeps_nvPlace; assumption; assumption)

theorem keeps_roundTimes {s0 s : State} (h : s0.Keeps s) : s0.Keeps (State.roundTimes s) := by
  unfold State.roundTimes
  dsimp only; split; split
  with_reducible (apply keeps_inc64; apply keeps_inc64; apply keeps_inc64; assumption; apply keeps_inc64; apply keeps_inc64; assumption)
  split; with_reducible (apply keeps_inc64; apply keeps_inc64; assumption; apply keeps_inc64; assumption)

theorem keeps_execHousekeepingRound {s0 s : State} {a0 a1 a2} (h : s0.Keeps s) : KeepsR s0 (execHousekeepingRound a0 a1 a2 s) := by
  unfold execHousekeepingRound
  dsimp only; with_reducible (apply keepsR_next; apply keeps_drainDeferred; apply keeps_thermalShutdown; apply keeps_thermalState)
  with_reducible (apply keeps_roundTimes; apply keeps_junction; apply keeps_sensorTest; apply keeps_snd; apply keeps_draw)
  with_reducible (apply keeps_each; apply keeps_each; assumption); intro _ _ _; with_reducible (apply keeps_setReg; assumption)
  intro _ _ _; with_reducible (apply keeps_setReg; assumption)

end Sys2Proof.Machine
end

