-- ==== Sys2Proof/Laws/KeepsDictSvc.lean ====
section
/-! SUPPORT. What the definitions of Machine/DictSvc.lean keep (State.Keeps). -/

set_option Elab.async false

namespace Sys2Proof.Machine

theorem keeps_domCheck {s0 s : State} {a1 a2 a3 a4} (h : s0.Keeps s) : KeepsP s0 (State.domCheck s a1 a2 a3 a4) := by
  unfold State.domCheck
  split
  with_reducible (apply keepsP_mk; assumption; apply keepsP_mk; assumption; apply keepsP_mk; assumption; apply keepsP_mk; assumption)
  with_reducible (apply keepsP_mk; assumption; apply keeps_checkImage; assumption; apply keepsP_mk; assumption; apply keepsP_mk)
  with_reducible assumption

theorem keeps_stagedChanged {s0 s : State} {a1} (h : s0.Keeps s) : s0.Keeps (State.stagedChanged s a1) := by
  unfold State.stagedChanged
  with_reducible (apply keeps_foldl; assumption); intro _ _ _; split; with_reducible (assumption; apply keeps_bumpDom; assumption)

theorem keeps_setStaged {s0 s : State} {a1 a2} (h : s0.Keeps s) : s0.Keeps (State.setStaged s a1 a2) := by
  unfold State.setStaged
  with_reducible (apply keeps_stagedChanged; apply keeps_mk; assumption)

theorem keeps_stage {s0 s : State} {a1 a2 a3} (h : s0.Keeps s) : KeepsV s0 (State.stage s a1 a2 a3) := by
  unfold State.stage
  split; with_reducible apply keepsV_error; dsimp only; with_reducible apply keepsV_ok; split; split
  with_reducible (apply keeps_keepWeights; apply keeps_setStaged; apply keeps_whenB; assumption); intro _ _
  with_reducible (apply keeps_inc32; assumption; apply keeps_setStaged; apply keeps_whenB; assumption); intro _ _
  with_reducible (apply keeps_inc32; assumption; apply keeps_setStaged; apply keeps_whenB; assumption); intro _ _
  with_reducible (apply keeps_inc32; assumption)

theorem keeps_liveWrite {s0 s : State} {a1 a2} (h : s0.Keeps s) : s0.Keeps (State.liveWrite s a1 a2) := by
  unfold State.liveWrite
  dsimp only; with_reducible (apply keeps_mk; apply keeps_whenB; assumption); intro _ _; with_reducible (apply keeps_inc32; assumption)

theorem keeps_idleChanged {s0 s : State} {a1 a2} (h : s0.Keeps s) : s0.Keeps (State.idleChanged s a1 a2) := by
  unfold State.idleChanged
  with_reducible (apply keeps_each; assumption); intro _ _ _; split; with_reducible (apply keeps_setReg; assumption; assumption)

theorem keeps_windowMoved {s0 s : State} {a1} (h : s0.Keeps s) : s0.Keeps (State.windowMoved s a1) := by
  unfold State.windowMoved
  split; with_reducible (apply keeps_bumpDom; assumption; apply keeps_bumpDom; assumption)

theorem keeps_setLive {s0 s : State} {a1 a2 a3} (h : s0.Keeps s) : s0.Keeps (State.setLive s a1 a2 a3) := by
  unfold State.setLive
  dsimp only; split; split; with_reducible (apply keeps_idleChanged; apply keeps_setReg; assumption; apply keeps_setReg; assumption)
  split
  with_reducible (apply keeps_stagedChanged; apply keeps_setReg; assumption; apply keeps_setReg; assumption; apply keeps_sheafAfter)
  with_reducible (apply keeps_setReg; assumption; apply keeps_sheafAfter; apply keeps_setReg; assumption); split
  with_reducible (apply keeps_forgetSeqs; apply keeps_setReg; assumption; apply keeps_setReg; assumption; apply keeps_xarrayAfter)
  with_reducible (apply keeps_setReg; assumption; apply keeps_outputsAfter; apply keeps_setReg; assumption; apply keeps_outputsAfter)
  with_reducible (apply keeps_setReg; assumption; apply keeps_dramAfter; apply keeps_setReg; assumption; apply keeps_timingAfter)
  with_reducible (apply keeps_setReg; assumption; apply keeps_positionAfter; apply keeps_setReg; assumption; apply keeps_dowelAfter)
  with_reducible (apply keeps_setReg; assumption); split
  with_reducible (apply keeps_windowMoved; apply keeps_windowMoved; apply keeps_setReg; assumption; apply keeps_windowMoved)
  with_reducible (apply keeps_setReg; assumption); split
  with_reducible (apply keeps_setDspRegs; assumption; apply keeps_setReg; assumption; apply keeps_setReg; assumption)

theorem keeps_writeLive {s0 s : State} {a1 a2 a3} (h : s0.Keeps s) : KeepsV s0 (State.writeLive s a1 a2 a3) := by
  unfold State.writeLive
  split; split
  with_reducible (apply keeps_enableUnit; assumption; apply keepsV_ok; apply keeps_disableWritten; assumption; apply keepsV_ok)
  with_reducible (apply keeps_setLive; assumption)

theorem keeps_writeLiveDom {s0 s : State} {a1 a2 a3} (h : s0.Keeps s) : KeepsP s0 (State.writeLiveDom s a1 a2 a3) := by
  unfold State.writeLiveDom
  split; dsimp only; with_reducible apply keepsP_mk; split
  with_reducible (apply keeps_setDom; apply keeps_snd; apply keeps_writeImage; assumption; apply keeps_snd; apply keeps_writeImage)
  with_reducible (assumption; apply keepsP_mk; apply keeps_setDom; assumption)

theorem keeps_cmdCommit {s0 s : State} {a0} (h : s0.Keeps s) : KeepsV s0 (cmdCommit a0 s) := by
  unfold cmdCommit
  split; with_reducible (apply keepsV_ok; apply keeps_inc32; apply keeps_setStaged; assumption; apply keepsV_error)

theorem keeps_commitRefused {s0 s : State} {a1 a2 a3} (h : s0.Keeps s) : s0.Keeps (State.commitRefused s a1 a2 a3) := by
  unfold State.commitRefused
  with_reducible (apply keeps_abortLog; apply keeps_inc32; assumption)

theorem keeps_cmdDiscard {s0 s : State} {a0} (h : s0.Keeps s) : KeepsV s0 (cmdDiscard a0 s) := by
  unfold cmdDiscard
  with_reducible (apply keepsV_ok; apply keeps_abortLog; apply keeps_setStaged; assumption)

theorem keeps_cmdDisarm {s0 s : State} {a0} (h : s0.Keeps s) : KeepsV s0 (cmdDisarm a0 s) := by
  unfold cmdDisarm
  split; split
  with_reducible (apply keepsV_error; apply keepsV_ok; apply keeps_abortLog; apply keeps_setStaged; assumption; apply keepsV_error)

theorem keeps_recheck {s0 s : State} {a1 a2 a3} (h : s0.Keeps s) : KeepsP s0 (State.recheck s a1 a2 a3) := by
  unfold State.recheck
  dsimp only; split; with_reducible (apply keepsP_mk; assumption; apply keeps_domCheck; assumption)

theorem keeps_sift {s0 s : State} {set c l} (h : s0.Keeps s) : KeepsP s0 (s.sift set c l) := by
  induction l generalizing s with
  | nil => exact ⟨h⟩
  | cons p ps ih =>
    unfold State.sift
    dsimp only
    split
    · exact ⟨(ih (keeps_recheck h).keeps).keeps⟩
    · exact ih (keeps_abortLog (keeps_inc32 (keeps_recheck h).keeps))

theorem keeps_takeStaged {s0 s : State} {a1} (h : s0.Keeps s) : s0.Keeps (State.takeStaged s a1) := by
  unfold State.takeStaged
  split; with_reducible (apply keeps_setReg; assumption; apply keeps_setDom; assumption)

theorem keeps_applied {s0 s : State} {a1 a2 a3} (h : s0.Keeps s) : s0.Keeps (State.applied s a1 a2 a3) := by
  unfold State.applied
  dsimp only; split
  with_reducible (apply keeps_closePort; assumption; apply keeps_sheafAfter; assumption; apply keeps_cutListLive; assumption); split
  with_reducible (apply keeps_weightsLive; assumption; assumption; apply keeps_dspImageLive; assumption; assumption)

theorem keeps_boundary {s0 s : State} {a1 a2} (h : s0.Keeps s) : s0.Keeps (State.boundary s a1 a2) := by
  unfold State.boundary
  dsimp only; with_reducible (apply keeps_notify; apply keeps_windowsLive; apply keeps_settingsLive; apply keeps_each; apply keeps_each)
  with_reducible (apply keeps_setReg; apply keeps_setReg; apply keeps_mk; apply keeps_snd; apply keeps_sift; apply keeps_setStaged)
  with_reducible assumption; intro _ _ _; with_reducible (apply keeps_takeStaged; assumption); intro _ _ _
  with_reducible (apply keeps_applied; assumption)

theorem keeps_execEpochBoundary {s0 s : State} (h : s0.Keeps s) : KeepsR s0 (execEpochBoundary s) := by
  unfold execEpochBoundary
  split; split
  with_reducible (apply keepsR_next; apply keeps_boundary; assumption; apply keepsR_next; assumption; apply keepsR_next; assumption)

end Sys2Proof.Machine
end

