-- ==== Sys2Proof/Laws/KeepsCommands.lean ====
section
/-! SUPPORT. What the definitions of Machine/Commands.lean keep (State.Keeps). -/

set_option Elab.async false

namespace Sys2Proof.Machine

theorem keeps_cmdSessionClose {s0 s : State} {a0 a1} (h : s0.Keeps s) : KeepsV s0 (cmdSessionClose a0 a1 s) := by
  unfold cmdSessionClose
  split; with_reducible apply keepsV_error; split
  with_reducible (apply keepsV_error; apply keepsV_ok; apply keeps_closeSession; assumption)

theorem keeps_cmdKeySet {s0 s : State} {a0 a1 a2} (h : s0.Keeps s) : KeepsV s0 (cmdKeySet a0 a1 a2 s) := by
  unfold cmdKeySet
  dsimp only; split; with_reducible (apply keepsV_error; apply keepsV_ok; apply keeps_closeWhere; apply keeps_mk; assumption)

theorem keeps_cmdDebug {s0 s : State} {a0 a1} (h : s0.Keeps s) : KeepsV s0 (cmdDebug a0 a1 s) := by
  unfold cmdDebug
  split; with_reducible (apply keepsV_accept; apply keeps_debugEnter; assumption; apply keepsV_accept; apply keeps_debugLeave; assumption)

theorem keeps_systemCmd {s0 s : State} {a1 a2 a3 a4 a5} (h : s0.Keeps s) : KeepsV s0 (State.systemCmd s a1 a2 a3 a4 a5) := by
  unfold State.systemCmd
  split; with_reducible (apply keeps_cmdSessionClose; assumption); split; with_reducible (apply keeps_cmdKeySet; assumption); split
  with_reducible (apply keeps_cmdDebug; assumption); split; split
  with_reducible (apply keeps_cmdCommit; assumption; apply keeps_cmdDiscard; assumption; apply keeps_cmdDisarm; assumption); split; split
  with_reducible (apply keeps_cmdKeep; assumption; apply keeps_cmdWake; assumption; apply keeps_cmdReset; assumption); split
  with_reducible (apply keeps_cmdActivate; assumption; apply keeps_cmdFailover; assumption)

theorem keeps_arrayCmd {s0 s : State} {a1 a2} (h : s0.Keeps s) : KeepsV s0 (State.arrayCmd s a1 a2) := by
  unfold State.arrayCmd
  split; with_reducible (apply keeps_cmdRetest; assumption); split; with_reducible (apply keeps_cmdSheafClear; assumption); split
  with_reducible (apply keeps_cmdPrbsInject; assumption); split; with_reducible (apply keeps_cmdFire; assumption); split; split
  with_reducible (apply keeps_cmdReadoutStart; assumption; apply keeps_cmdReadoutAbort; assumption); split
  with_reducible (apply keeps_cmdSiloRelease; assumption; apply keeps_cmdJigRestart; assumption)

theorem keeps_inspectCmd {s0 s : State} {a1 a2} (h : s0.Keeps s) : KeepsV s0 (State.inspectCmd s a1 a2) := by
  unfold State.inspectCmd
  split; split; with_reducible (apply keeps_cmdHold; assumption; apply keeps_cmdSlotRelease; assumption); split
  with_reducible (apply keeps_cmdClearCorr; assumption); split
  with_reducible (apply keeps_cmdDspHalt; assumption; apply keeps_cmdDspResume; assumption; apply keeps_cmdDspStep; assumption)

theorem keeps_memoryCmd {s0 s : State} {a1 a2 a3} (h : s0.Keeps s) : KeepsV s0 (State.memoryCmd s a1 a2 a3) := by
  unfold State.memoryCmd
  split; with_reducible (apply keeps_cmdFreqChange; assumption); split; split
  with_reducible (apply keeps_cmdDeclareLost; assumption; apply keeps_cmdRebuild; assumption); split; split
  with_reducible (apply keeps_cmdApplyDelays; assumption; apply keeps_cmdRecalibrate; assumption); split
  with_reducible (apply keeps_cmdStoreDelays; assumption); split; split
  with_reducible (apply keeps_cmdInvWindow; assumption; apply keeps_cmdInvAll; assumption); split
  with_reducible (apply keeps_cmdDmaStart; assumption; apply keeps_cmdDmaAbort; assumption); split
  with_reducible (apply keeps_cmdDmaResume; assumption; apply keeps_cmdDmaResumeNext; assumption)

theorem keeps_timeCmd {s0 s : State} {a1 a2 a3} (h : s0.Keeps s) : KeepsV s0 (State.timeCmd s a1 a2 a3) := by
  unfold State.timeCmd
  split; with_reducible (apply keeps_cmdScLoad; assumption); split; split
  with_reducible (apply keeps_cmdAdjust; assumption; apply keeps_cmdTbStep; assumption); split
  with_reducible (apply keeps_cmdPreset; assumption); split; split
  with_reducible (apply keeps_cmdPlace; assumption; apply keeps_cmdCompareClear; assumption); split
  with_reducible (apply keeps_cmdSoft; assumption); split; with_reducible (apply keeps_cmdRelease; assumption); split
  with_reducible (apply keeps_cmdSnapNow; assumption; apply keeps_cmdCounterClear; assumption)

theorem keeps_command {s0 s : State} {a1 a2 a3 a4 a5} (h : s0.Keeps s) : KeepsV s0 (State.command s a1 a2 a3 a4 a5) := by
  unfold State.command
  split; with_reducible apply keepsV_error; split; with_reducible (apply keeps_systemCmd; assumption; apply keeps_systemCmd; assumption)
  split; with_reducible (apply keeps_systemCmd; assumption; apply keeps_arrayCmd; assumption; apply keeps_arrayCmd; assumption)
  with_reducible (apply keeps_inspectCmd; assumption; apply keeps_inspectCmd; assumption; apply keeps_memoryCmd; assumption)
  with_reducible (apply keeps_timeCmd; assumption)

theorem keeps_commandRefused {s0 s : State} {a1 a2 a3 a4 a5} (h : s0.Keeps s) : s0.Keeps (State.commandRefused s a1 a2 a3 a4 a5) := by
  unfold State.commandRefused
  split; split; with_reducible (assumption; apply keeps_commitRefused; assumption); split
  with_reducible (apply keeps_readoutRefused; assumption); split; with_reducible (apply keeps_recalRefused; assumption); split
  with_reducible (apply keeps_freqRefused; assumption); split; with_reducible (apply keeps_setReg; assumption; assumption)

theorem keeps_answer {s0 s : State} {v : Verdict} (h : s0.Keeps s) (hv : KeepsV s0 v) : KeepsP s0 (answer s v) := by
  unfold answer
  split
  · exact ⟨hv.keeps _ rfl⟩
  · exact ⟨h⟩

theorem keeps_writeCmd {s0 s : State} {a1 a2 a3 a4 a5} (h : s0.Keeps s) : KeepsP s0 (State.writeCmd s a1 a2 a3 a4 a5) := by
  unfold State.writeCmd
  dsimp only; split; with_reducible (apply keepsP_mk; assumption); split
  with_reducible (apply keepsP_mk; apply keeps_of_ok (by assumption); apply keeps_command; assumption; apply keepsP_mk)
  with_reducible (apply keeps_commandRefused; assumption)

theorem keeps_writeNumber {s0 s : State} {a1 a2 a3 a4 a5} (h : s0.Keeps s) : KeepsP s0 (State.writeNumber s a1 a2 a3 a4 a5) := by
  unfold State.writeNumber
  split; with_reducible (apply keepsP_mk; assumption); dsimp only; split; split; with_reducible (apply keepsP_mk; assumption); split
  with_reducible (apply keeps_answer; assumption; apply keeps_stage; assumption; apply keepsP_mk; apply keeps_liveWrite)
  with_reducible (apply keeps_setReg; assumption); split
  with_reducible (apply keepsP_mk; apply keeps_liveWrite; apply keeps_of_ok (by assumption); apply keeps_writeLive; assumption)
  with_reducible (apply keepsP_mk; assumption); split; with_reducible (apply keepsP_mk; assumption); split
  with_reducible (apply keeps_answer; assumption; apply keeps_stage; assumption; apply keepsP_mk; apply keeps_liveWrite)
  with_reducible (apply keeps_setReg; assumption); split
  with_reducible (apply keepsP_mk; apply keeps_liveWrite; apply keeps_of_ok (by assumption); apply keeps_writeLive; assumption)
  with_reducible (apply keepsP_mk; assumption)

theorem keeps_writeDomain {s0 s : State} {a1 a2 a3 a4 a5} (h : s0.Keeps s) : KeepsP s0 (State.writeDomain s a1 a2 a3 a4 a5) := by
  unfold State.writeDomain
  dsimp only; split; split
  with_reducible (apply keepsP_mk; apply keeps_snd; apply keeps_domCheck; assumption; apply keeps_answer; apply keeps_snd)
  with_reducible (apply keeps_domCheck; assumption; apply keeps_stage; apply keeps_snd; apply keeps_domCheck; assumption); split
  with_reducible (apply keepsP_mk; apply keeps_snd; apply keeps_domCheck; assumption); split
  with_reducible (apply keepsP_mk; apply keeps_snd; apply keeps_writeLiveDom; apply keeps_snd; apply keeps_domCheck; assumption)
  with_reducible (apply keepsP_mk; apply keeps_liveWrite; apply keeps_snd; apply keeps_writeLiveDom; apply keeps_snd)
  with_reducible (apply keeps_domCheck; assumption)

theorem keeps_writeEntry {s0 s : State} {a1 a2 a3 a4} (h : s0.Keeps s) : KeepsP s0 (State.writeEntry s a1 a2 a3 a4) := by
  unfold State.writeEntry
  split; with_reducible (apply keepsP_mk; assumption); dsimp only; split; split; with_reducible (apply keepsP_mk; assumption); split
  with_reducible (apply keepsP_mk; assumption); split; with_reducible (apply keeps_writeCmd; assumption); split
  with_reducible (apply keeps_writeDomain; assumption; apply keeps_writeNumber; assumption); split
  with_reducible (apply keepsP_mk; assumption); split; with_reducible (apply keepsP_mk; assumption); split
  with_reducible (apply keeps_writeCmd; assumption); split
  with_reducible (apply keeps_writeDomain; assumption; apply keeps_writeNumber; assumption)

theorem keeps_result {s0 s : State} {a1 a2 a3 a4 a5} (h : s0.Keeps s) : s0.Keeps (State.result s a1 a2 a3 a4 a5) := by
  unfold State.result
  split; with_reducible (apply keeps_mk; assumption; assumption)

theorem keeps_sessionWrite {s0 s : State} {a1 a2 a3 a4} (h : s0.Keeps s) : s0.Keeps (State.sessionWrite s a1 a2 a3 a4) := by
  unfold State.sessionWrite
  split; dsimp only; with_reducible (apply keeps_result; apply keeps_snd; apply keeps_writeEntry; assumption; assumption)

theorem keeps_execDictWrite {s0 s : State} {a0 a1 a2 a3} (h : s0.Keeps s) : KeepsR s0 (execDictWrite a0 a1 a2 a3 s) := by
  unfold execDictWrite
  with_reducible (apply keepsR_next; apply keeps_sessionWrite; assumption)

theorem keeps_execCommit {s0 s : State} {a0 a1} (h : s0.Keeps s) : KeepsR s0 (execCommit a0 a1 s) := by
  unfold execCommit
  with_reducible (apply keepsR_inst; apply keepsR_next; apply keeps_sessionWrite; assumption)

theorem keeps_execDiscard {s0 s : State} {a0} (h : s0.Keeps s) : KeepsR s0 (execDiscard a0 s) := by
  unfold execDiscard
  with_reducible (apply keepsR_next; apply keeps_sessionWrite; assumption)

theorem keeps_execDisarm {s0 s : State} {a0} (h : s0.Keeps s) : KeepsR s0 (execDisarm a0 s) := by
  unfold execDisarm
  with_reducible (apply keepsR_next; apply keeps_sessionWrite; assumption)

theorem keeps_execEnableWrite {s0 s : State} {a0 a1} (h : s0.Keeps s) : KeepsR s0 (execEnableWrite a0 a1 s) := by
  unfold execEnableWrite
  with_reducible (apply keepsR_inst; apply keepsR_next; apply keeps_sessionWrite; assumption)

theorem keeps_execDisableWrite {s0 s : State} {a0 a1} (h : s0.Keeps s) : KeepsR s0 (execDisableWrite a0 a1 s) := by
  unfold execDisableWrite
  with_reducible (apply keepsR_inst; apply keepsR_next; apply keeps_sessionWrite; assumption)

theorem keeps_execPrbsInject {s0 s : State} {a0} (h : s0.Keeps s) : KeepsR s0 (execPrbsInject a0 s) := by
  unfold execPrbsInject
  with_reducible (apply keepsR_next; apply keeps_sessionWrite; assumption)

theorem keeps_execSheafCounterClear {s0 s : State} {a0} (h : s0.Keeps s) : KeepsR s0 (execSheafCounterClear a0 s) := by
  unfold execSheafCounterClear
  with_reducible (apply keepsR_next; apply keeps_sessionWrite; assumption)

theorem keeps_execFireTrigger {s0 s : State} {a0} (h : s0.Keeps s) : KeepsR s0 (execFireTrigger a0 s) := by
  unfold execFireTrigger
  with_reducible (apply keepsR_next; apply keeps_sessionWrite; assumption)

theorem keeps_execSiloRelease {s0 s : State} {a0 a1} (h : s0.Keeps s) : KeepsR s0 (execSiloRelease a0 a1 s) := by
  unfold execSiloRelease
  with_reducible (apply keepsR_inst; apply keepsR_next; apply keeps_sessionWrite; assumption)

theorem keeps_execReadoutStart {s0 s : State} {a0} (h : s0.Keeps s) : KeepsR s0 (execReadoutStart a0 s) := by
  unfold execReadoutStart
  with_reducible (apply keepsR_next; apply keeps_sessionWrite; assumption)

theorem keeps_execReadoutAbort {s0 s : State} {a0} (h : s0.Keeps s) : KeepsR s0 (execReadoutAbort a0 s) := by
  unfold execReadoutAbort
  with_reducible (apply keepsR_next; apply keeps_sessionWrite; assumption)

theorem keeps_execJigRestart {s0 s : State} {a0 a1} (h : s0.Keeps s) : KeepsR s0 (execJigRestart a0 a1 s) := by
  unfold execJigRestart
  with_reducible (apply keepsR_inst; apply keepsR_next; apply keeps_sessionWrite; assumption)

theorem keeps_execRetest {s0 s : State} {a0 a1} (h : s0.Keeps s) : KeepsR s0 (execRetest a0 a1 s) := by
  unfold execRetest
  with_reducible (apply keepsR_inst; apply keepsR_next; apply keeps_sessionWrite; assumption)

theorem keeps_execFrameHold {s0 s : State} {a0 a1} (h : s0.Keeps s) : KeepsR s0 (execFrameHold a0 a1 s) := by
  unfold execFrameHold
  split; with_reducible (apply keepsR_inst; apply keepsR_next; apply keeps_sessionWrite; assumption; apply keepsR_next); split
  with_reducible (apply keeps_holdEvent; apply keeps_takeInput; assumption; assumption)

theorem keeps_execFrameSlotRelease {s0 s : State} {a0 a1} (h : s0.Keeps s) : KeepsR s0 (execFrameSlotRelease a0 a1 s) := by
  unfold execFrameSlotRelease
  with_reducible (apply keepsR_inst; apply keepsR_next; apply keeps_sessionWrite; assumption)

theorem keeps_execClearCorr {s0 s : State} {a0 a1} (h : s0.Keeps s) : KeepsR s0 (execClearCorr a0 a1 s) := by
  unfold execClearCorr
  with_reducible (apply keepsR_inst; apply keepsR_next; apply keeps_sessionWrite; assumption)

theorem keeps_execDebugHaltCmd {s0 s : State} {a0 a1} (h : s0.Keeps s) : KeepsR s0 (execDebugHaltCmd a0 a1 s) := by
  unfold execDebugHaltCmd
  with_reducible (apply keepsR_inst; apply keepsR_next; apply keeps_sessionWrite; assumption)

theorem keeps_execDebugResume {s0 s : State} {a0 a1} (h : s0.Keeps s) : KeepsR s0 (execDebugResume a0 a1 s) := by
  unfold execDebugResume
  with_reducible (apply keepsR_inst; apply keepsR_next; apply keeps_sessionWrite; assumption)

theorem keeps_execDebugStep {s0 s : State} {a0 a1} (h : s0.Keeps s) : KeepsR s0 (execDebugStep a0 a1 s) := by
  unfold execDebugStep
  with_reducible (apply keepsR_inst; apply keepsR_next; apply keeps_sessionWrite; assumption)

theorem keeps_execDeclareLost {s0 s : State} {a0 a1} (h : s0.Keeps s) : KeepsR s0 (execDeclareLost a0 a1 s) := by
  unfold execDeclareLost
  with_reducible (apply keepsR_inst; apply keepsR_next; apply keeps_sessionWrite; assumption)

theorem keeps_execRebuild {s0 s : State} {a0 a1} (h : s0.Keeps s) : KeepsR s0 (execRebuild a0 a1 s) := by
  unfold execRebuild
  with_reducible (apply keepsR_inst; apply keepsR_next; apply keeps_sessionWrite; assumption)

theorem keeps_execApplyDelays {s0 s : State} {a0 a1} (h : s0.Keeps s) : KeepsR s0 (execApplyDelays a0 a1 s) := by
  unfold execApplyDelays
  with_reducible (apply keepsR_inst; apply keepsR_next; apply keeps_sessionWrite; assumption)

theorem keeps_execRecalibrate {s0 s : State} {a0 a1} (h : s0.Keeps s) : KeepsR s0 (execRecalibrate a0 a1 s) := by
  unfold execRecalibrate
  with_reducible (apply keepsR_inst; apply keepsR_next; apply keeps_sessionWrite; assumption)

theorem keeps_execFreqChange {s0 s : State} {a0} (h : s0.Keeps s) : KeepsR s0 (execFreqChange a0 s) := by
  unfold execFreqChange
  with_reducible (apply keepsR_next; apply keeps_sessionWrite; assumption)

theorem keeps_execStoreDelays {s0 s : State} {a0} (h : s0.Keeps s) : KeepsR s0 (execStoreDelays a0 s) := by
  unfold execStoreDelays
  with_reducible (apply keepsR_next; apply keeps_sessionWrite; assumption)

theorem keeps_execInvWindow {s0 s : State} {a0 a1} (h : s0.Keeps s) : KeepsR s0 (execInvWindow a0 a1 s) := by
  unfold execInvWindow
  with_reducible (apply keepsR_inst; apply keepsR_next; apply keeps_sessionWrite; assumption)

theorem keeps_execInvAll {s0 s : State} {a0} (h : s0.Keeps s) : KeepsR s0 (execInvAll a0 s) := by
  unfold execInvAll
  with_reducible (apply keepsR_next; apply keeps_sessionWrite; assumption)

theorem keeps_dmaBy {s0 s : State} {via : DmaVia} {c sub v page : Nat} {event : State → State} (h : s0.Keeps s)
    (hf : ∀ t, s0.Keeps t → s0.Keeps (event t)) : s0.Keeps (s.dmaBy via c sub v page event) := by
  unfold State.dmaBy
  split
  · exact keeps_sessionWrite h
  · exact keeps_chanOnPage h (fun t ht => keeps_dmaPageCmd ht)
  · exact hf s h

theorem keeps_execDmaStart {s0 s : State} {a0 a1} (h : s0.Keeps s) : KeepsR s0 (execDmaStart a0 a1 s) := by
  unfold execDmaStart
  with_reducible (apply keepsR_inst; apply keepsR_next; apply keeps_dmaBy; assumption); intro _ _
  with_reducible (apply keeps_dmaStartEvent; assumption)

theorem keeps_execDmaAbort {s0 s : State} {a0 a1} (h : s0.Keeps s) : KeepsR s0 (execDmaAbort a0 a1 s) := by
  unfold execDmaAbort
  with_reducible (apply keepsR_inst; apply keepsR_next; apply keeps_dmaBy; assumption); intro _ _
  with_reducible (apply keeps_dmaAbortEvent; assumption)

theorem keeps_execDmaResume {s0 s : State} {a0 a1} (h : s0.Keeps s) : KeepsR s0 (execDmaResume a0 a1 s) := by
  unfold execDmaResume
  with_reducible (apply keepsR_inst; apply keepsR_next; apply keeps_dmaBy; assumption); intro _ _; dsimp only [id]
  with_reducible assumption

theorem keeps_execDmaResumeNext {s0 s : State} {a0 a1} (h : s0.Keeps s) : KeepsR s0 (execDmaResumeNext a0 a1 s) := by
  unfold execDmaResumeNext
  with_reducible (apply keepsR_inst; apply keepsR_next; apply keeps_dmaBy; assumption); intro _ _; dsimp only [id]
  with_reducible assumption

theorem keeps_execScLoad {s0 s : State} {a0} (h : s0.Keeps s) : KeepsR s0 (execScLoad a0 s) := by
  unfold execScLoad
  with_reducible (apply keepsR_next; apply keeps_sessionWrite; assumption)

theorem keeps_execAdjust {s0 s : State} {a0 a1 a2} (h : s0.Keeps s) : KeepsR s0 (execAdjust a0 a1 a2 s) := by
  unfold execAdjust
  with_reducible (apply keepsR_inst; apply keepsR_next; apply keeps_sessionWrite; assumption)

theorem keeps_execTbStep {s0 s : State} {a0 a1} (h : s0.Keeps s) : KeepsR s0 (execTbStep a0 a1 s) := by
  unfold execTbStep
  with_reducible (apply keepsR_inst; apply keepsR_next; apply keeps_sessionWrite; assumption)

theorem keeps_execAxisPreset {s0 s : State} {a0 a1} (h : s0.Keeps s) : KeepsR s0 (execAxisPreset a0 a1 s) := by
  unfold execAxisPreset
  with_reducible (apply keepsR_inst; apply keepsR_next; apply keeps_sessionWrite; assumption)

theorem keeps_execComparePlace {s0 s : State} {a0 a1} (h : s0.Keeps s) : KeepsR s0 (execComparePlace a0 a1 s) := by
  unfold execComparePlace
  with_reducible (apply keepsR_inst; apply keepsR_next; apply keeps_sessionWrite; assumption)

theorem keeps_execCompareClear {s0 s : State} {a0 a1} (h : s0.Keeps s) : KeepsR s0 (execCompareClear a0 a1 s) := by
  unfold execCompareClear
  with_reducible (apply keepsR_inst; apply keepsR_next; apply keeps_sessionWrite; assumption)

theorem keeps_execSoftEvent {s0 s : State} {a0 a1} (h : s0.Keeps s) : KeepsR s0 (execSoftEvent a0 a1 s) := by
  unfold execSoftEvent
  split; with_reducible (apply keepsR_inst; apply keepsR_next; apply keeps_sessionWrite; assumption; apply keepsR_inst; apply keepsR_next)
  with_reducible (apply keeps_onPage; assumption); intro _ _; with_reducible (apply keeps_dowelPageWrite; assumption)

theorem keeps_execAlertRelease {s0 s : State} {a0 a1} (h : s0.Keeps s) : KeepsR s0 (execAlertRelease a0 a1 s) := by
  unfold execAlertRelease
  with_reducible (apply keepsR_inst; apply keepsR_next; apply keeps_sessionWrite; assumption)

theorem keeps_execSnapNow {s0 s : State} {a0 a1} (h : s0.Keeps s) : KeepsR s0 (execSnapNow a0 a1 s) := by
  unfold execSnapNow
  with_reducible (apply keepsR_inst; apply keepsR_next; apply keeps_sessionWrite; assumption)

theorem keeps_execOvfClear {s0 s : State} {a0 a1} (h : s0.Keeps s) : KeepsR s0 (execOvfClear a0 a1 s) := by
  unfold execOvfClear
  with_reducible (apply keepsR_inst; apply keepsR_next; apply keeps_sessionWrite; assumption)

theorem keeps_execCounterClear {s0 s : State} {a0 a1} (h : s0.Keeps s) : KeepsR s0 (execCounterClear a0 a1 s) := by
  unfold execCounterClear
  with_reducible (apply keepsR_inst; apply keepsR_next); split
  with_reducible (apply keeps_sessionWrite; assumption; apply keeps_onPage; assumption); intro _ _
  with_reducible (apply keeps_counterZero; assumption)

theorem keeps_execFailover {s0 s : State} {a0} (h : s0.Keeps s) : KeepsR s0 (execFailover a0 s) := by
  unfold execFailover
  with_reducible (apply keepsR_next; apply keeps_sessionWrite; assumption)

theorem keeps_execActivate {s0 s : State} {a0} (h : s0.Keeps s) : KeepsR s0 (execActivate a0 s) := by
  unfold execActivate
  with_reducible (apply keepsR_next; apply keeps_sessionWrite; assumption)

theorem keeps_execKeep {s0 s : State} {a0} (h : s0.Keeps s) : KeepsR s0 (execKeep a0 s) := by
  unfold execKeep
  with_reducible (apply keepsR_next; apply keeps_sessionWrite; assumption)

theorem keeps_execWake {s0 s : State} {a0} (h : s0.Keeps s) : KeepsR s0 (execWake a0 s) := by
  unfold execWake
  with_reducible (apply keepsR_next; apply keeps_sessionWrite; assumption)

theorem keeps_execDeviceReset {s0 s : State} {a0} (h : s0.Keeps s) : KeepsR s0 (execDeviceReset a0 s) := by
  unfold execDeviceReset
  with_reducible (apply keepsR_next; apply keeps_sessionWrite; assumption)

theorem keeps_execSessionClose {s0 s : State} {a0 a1} (h : s0.Keeps s) : KeepsR s0 (execSessionClose a0 a1 s) := by
  unfold execSessionClose
  with_reducible (apply keepsR_inst; apply keepsR_next; apply keeps_sessionWrite; assumption)

theorem keeps_execKeySet {s0 s : State} {a0 a1 a2} (h : s0.Keeps s) : KeepsR s0 (execKeySet a0 a1 a2 s) := by
  unfold execKeySet
  with_reducible (apply keepsR_inst; apply keepsR_next; apply keeps_sessionWrite; assumption)

theorem keeps_execDebugEnter {s0 s : State} {a0} (h : s0.Keeps s) : KeepsR s0 (execDebugEnter a0 s) := by
  unfold execDebugEnter
  with_reducible (apply keepsR_next; apply keeps_sessionWrite; assumption)

theorem keeps_execDebugLeave {s0 s : State} {a0} (h : s0.Keeps s) : KeepsR s0 (execDebugLeave a0 s) := by
  unfold execDebugLeave
  with_reducible (apply keepsR_next; apply keeps_sessionWrite; assumption)

end Sys2Proof.Machine
end

