-- ==== Sys2Proof/Laws/KeepsConsumers.lean ====
section
/-! SUPPORT. What the definitions of Machine/Consumers.lean keep (State.Keeps). -/

set_option Elab.async false

namespace Sys2Proof.Machine

theorem keeps_consume {s0 s : State} {a1} (h : s0.Keeps s) : KeepsR s0 (State.consume s a1) := by
  unfold State.consume
  split; with_reducible (apply keeps_execCribFreeze; assumption); split; with_reducible apply keepsR_next; split
  with_reducible (apply keeps_dmaStartEvent; assumption; apply keeps_dmaAbortEvent; assumption); split
  with_reducible (apply keeps_execToutEvent; assumption); split; with_reducible apply keepsR_next; split
  with_reducible (apply keeps_holdEvent; apply keeps_takeInput; assumption; assumption); split
  with_reducible (apply keeps_execDoveShift; assumption); split; with_reducible (apply keepsR_next; apply keeps_eventNotify; assumption)
  split; with_reducible (apply keepsR_next; apply keeps_alertDelivery; assumption); split
  with_reducible (apply keepsR_next; apply keeps_relayEmit; assumption); split
  with_reducible (apply keepsR_next; apply keeps_snapEvent; assumption; apply keepsR_next; assumption)

theorem keeps_execConsumerTake {s0 s : State} {a0} (h : s0.Keeps s) : KeepsR s0 (execConsumerTake a0 s) := by
  unfold execConsumerTake
  with_reducible apply keepsR_inst; split; with_reducible (apply keeps_consume; assumption; apply keepsR_next; assumption)

end Sys2Proof.Machine
end

