-- ==== Sys2Proof/Laws/KeepsFdp.lean ====
section
/-! SUPPORT. What the definitions of Machine/Fdp.lean keep (State.Keeps). -/

set_option Elab.async false

namespace Sys2Proof.Machine

theorem keeps_writeOp {s0 s : State} {a1 a2 a3 a4} (h : s0.Keeps s) : KeepsP s0 (State.writeOp s a1 a2 a3 a4) := by
  unfold State.writeOp
  split; with_reducible (apply keepsP_mk; assumption); split; split
  with_reducible (apply keepsP_mk; assumption; apply keepsP_mk; assumption; apply keeps_writeEntry; assumption)

theorem keeps_setTransfer {s0 s : State} {a1 a2} (h : s0.Keeps s) : s0.Keeps (State.setTransfer s a1 a2) := by
  unfold State.setTransfer
  with_reducible (apply keeps_modSession; assumption)

theorem keeps_domBegin {s0 s : State} {a1 a2 a3 a4} (h : s0.Keeps s) : KeepsP s0 (State.domBegin s a1 a2 a3 a4) := by
  unfold State.domBegin
  split; with_reducible (apply keepsP_mk; assumption); split; with_reducible (apply keepsP_mk; assumption); split
  with_reducible (apply keepsP_mk; assumption); split; with_reducible (apply keepsP_mk; assumption); split
  with_reducible (apply keepsP_mk; assumption); split; with_reducible (apply keepsP_mk; assumption); split
  with_reducible (apply keepsP_mk; assumption; apply keepsP_mk; apply keeps_setTransfer; assumption)

theorem keeps_domSeg {s0 s : State} {a1 a2 a3 a4 a5} (h : s0.Keeps s) : KeepsP s0 (State.domSeg s a1 a2 a3 a4 a5) := by
  unfold State.domSeg
  split; with_reducible (apply keepsP_mk; assumption); split; with_reducible (apply keepsP_mk; assumption); split
  with_reducible (apply keepsP_mk; assumption); split; with_reducible (apply keepsP_mk; assumption); split
  with_reducible (apply keepsP_mk; assumption); split
  with_reducible (apply keepsP_mk; assumption; apply keepsP_mk; apply keeps_setTransfer; assumption)

theorem keeps_domEnd {s0 s : State} {a1 a2 a3 a4} (h : s0.Keeps s) : KeepsP s0 (State.domEnd s a1 a2 a3 a4) := by
  unfold State.domEnd
  split; with_reducible (apply keepsP_mk; assumption); split; with_reducible (apply keepsP_mk; assumption); split
  with_reducible (apply keepsP_mk; assumption); split
  with_reducible (apply keepsP_mk; apply keeps_setTransfer; assumption; apply keeps_writeEntry; apply keeps_setTransfer; assumption)

theorem keeps_domCancel {s0 s : State} {a1 a2 a3} (h : s0.Keeps s) : KeepsP s0 (State.domCancel s a1 a2 a3) := by
  unfold State.domCancel
  split; with_reducible (apply keepsP_mk; assumption; apply keepsP_mk; apply keeps_setTransfer; assumption)

theorem keeps_runOp {s0 s : State} {a1 a2} (h : s0.Keeps s) : KeepsP s0 (State.runOp s a1 a2) := by
  unfold State.runOp
  split; with_reducible (apply keepsP_mk; assumption); split
  with_reducible (apply keepsP_mk; assumption; apply keeps_writeOp; assumption; apply keepsP_mk; assumption); split
  with_reducible (apply keeps_domBegin; assumption; apply keepsP_mk; assumption); split
  with_reducible (apply keepsP_mk; assumption; apply keeps_domSeg; assumption); split
  with_reducible (apply keeps_domEnd; assumption; apply keepsP_mk; assumption); split
  with_reducible (apply keepsP_mk; assumption; apply keepsP_mk; assumption; apply keeps_domCancel; assumption; apply keepsP_mk)
  with_reducible assumption

theorem keeps_sessionOp {s0 s : State} {a1 a2} (h : s0.Keeps s) : s0.Keeps (State.sessionOp s a1 a2) := by
  unfold State.sessionOp
  split; dsimp only; with_reducible (apply keeps_result; apply keeps_snd; apply keeps_runOp; assumption; assumption)

theorem keeps_execFdpRead {s0 s : State} {a0 a1 a2} (h : s0.Keeps s) : KeepsR s0 (execFdpRead a0 a1 a2 s) := by
  unfold execFdpRead
  with_reducible (apply keepsR_next; apply keeps_sessionOp; assumption)

theorem keeps_execFdpWrite {s0 s : State} {a0 a1 a2 a3} (h : s0.Keeps s) : KeepsR s0 (execFdpWrite a0 a1 a2 a3 s) := by
  unfold execFdpWrite
  with_reducible (apply keepsR_next; apply keeps_sessionOp; assumption)

theorem keeps_execFdpDescribe {s0 s : State} {a0 a1 a2} (h : s0.Keeps s) : KeepsR s0 (execFdpDescribe a0 a1 a2 s) := by
  unfold execFdpDescribe
  with_reducible (apply keepsR_next; apply keeps_sessionOp; assumption)

theorem keeps_execDomBegin {s0 s : State} {a0 a1 a2 a3} (h : s0.Keeps s) : KeepsR s0 (execDomBegin a0 a1 a2 a3 s) := by
  unfold execDomBegin
  with_reducible (apply keepsR_inst; apply keepsR_next; apply keeps_sessionOp; assumption)

theorem keeps_execDomSeg {s0 s : State} {a0 a1 a2 a3 a4} (h : s0.Keeps s) : KeepsR s0 (execDomSeg a0 a1 a2 a3 a4 s) := by
  unfold execDomSeg
  with_reducible (apply keepsR_inst; apply keepsR_next; apply keeps_sessionOp; assumption)

theorem keeps_execDomEnd {s0 s : State} {a0 a1 a2 a3} (h : s0.Keeps s) : KeepsR s0 (execDomEnd a0 a1 a2 a3 s) := by
  unfold execDomEnd
  with_reducible (apply keepsR_inst; apply keepsR_next; apply keeps_sessionOp; assumption)

theorem keeps_execDomRead {s0 s : State} {a0 a1 a2 a3 a4} (h : s0.Keeps s) : KeepsR s0 (execDomRead a0 a1 a2 a3 a4 s) := by
  unfold execDomRead
  with_reducible (apply keepsR_inst; apply keepsR_next; apply keeps_sessionOp; assumption)

theorem keeps_execDomCancel {s0 s : State} {a0 a1 a2} (h : s0.Keeps s) : KeepsR s0 (execDomCancel a0 a1 a2 s) := by
  unfold execDomCancel
  with_reducible (apply keepsR_next; apply keeps_sessionOp; assumption)

theorem keeps_runOps {s0 s : State} {sess used : Nat} {os} (h : s0.Keeps s) : s0.Keeps (s.runOps sess used os) := by
  induction os generalizing s used with
  | nil => exact h
  | cons o os ih =>
    unfold State.runOps
    dsimp only
    split
    · exact ih (keeps_result h)
    · exact ih (keeps_result (keeps_runOp h).keeps)

theorem keeps_runAtomic {s0 s : State} {a1 a2} (h : s0.Keeps s) : s0.Keeps (State.runAtomic s a1 a2) := by
  unfold State.runAtomic
  dsimp only; split; with_reducible (apply keeps_foldl; assumption); intro _ _ _; with_reducible (apply keeps_result; assumption); split
  with_reducible (apply keeps_runOps; assumption; apply keeps_foldl; assumption); intro _ _ _
  with_reducible (apply keeps_result; assumption)

theorem keeps_seqDone {s0 s : State} {a1 a2} (h : s0.Keeps s) : s0.Keeps (State.seqDone s a1 a2) := by
  unfold State.seqDone
  dsimp only; with_reducible (apply keeps_modSession; apply keeps_setReg; assumption)

theorem keeps_respond {s0 s : State} {a1 a2 a3} (h : s0.Keeps s) : s0.Keeps (State.respond s a1 a2 a3) := by
  unfold State.respond
  dsimp only; split; with_reducible (apply keeps_mk; assumption); split
  with_reducible (apply keeps_closeSession; apply keeps_sendTo; apply keeps_inc64; apply keeps_modSession; apply keeps_mk; assumption)
  with_reducible (apply keeps_sendTo; apply keeps_inc64; apply keeps_modSession; apply keeps_mk; assumption)

theorem keeps_executeRequest {s0 s : State} {a1 a2 a3 a4 a5} (h : s0.Keeps s) : s0.Keeps (State.executeRequest s a1 a2 a3 a4 a5) := by
  unfold State.executeRequest
  dsimp only; with_reducible apply keeps_respond; split
  with_reducible (apply keeps_runAtomic; apply keeps_mk; apply keeps_seqDone; assumption; apply keeps_runOps; apply keeps_mk)
  with_reducible (apply keeps_seqDone; assumption)

theorem keeps_takeRequest {s0 s : State} {a1 a2 a3} (h : s0.Keeps s) : s0.Keeps (State.takeRequest s a1 a2 a3) := by
  unfold State.takeRequest
  split; with_reducible (apply keeps_sendTo; assumption); split
  with_reducible (apply keeps_executeRequest; assumption; apply keeps_inc32; assumption)

theorem keeps_authFail {s0 s : State} (h : s0.Keeps s) : s0.Keeps (State.authFail s) := by
  unfold State.authFail
  with_reducible (apply keeps_inc32; assumption)

theorem keeps_malformed {s0 s : State} (h : s0.Keeps s) : s0.Keeps (State.malformed s) := by
  unfold State.malformed
  with_reducible (apply keeps_inc32; assumption)

theorem keeps_inSession {s0 s : State} {peer : Peer} {f : FdpFrame} {k : State → State} (h : s0.Keeps s)
    (hf : ∀ t, s0.Keeps t → s0.Keeps (k t)) : s0.Keeps (s.inSession peer f k) := by
  unfold State.inSession
  dsimp only
  split
  · exact hf _ (keeps_heard h)
  · exact keeps_authFail h

theorem keeps_rxRequest {s0 s : State} {a1 a2} (h : s0.Keeps s) : s0.Keeps (State.rxRequest s a1 a2) := by
  unfold State.rxRequest
  split; with_reducible (apply keeps_malformed; assumption; apply keeps_inSession; assumption); intro _ _
  with_reducible (apply keeps_takeRequest; assumption)

theorem keeps_rxNotifyAck {s0 s : State} {a1 a2} (h : s0.Keeps s) : s0.Keeps (State.rxNotifyAck s a1 a2) := by
  unfold State.rxNotifyAck
  with_reducible (apply keeps_inSession; assumption); intro _ _; with_reducible (apply keeps_modSession; assumption)

theorem keeps_rxClose {s0 s : State} {a1 a2} (h : s0.Keeps s) : s0.Keeps (State.rxClose s a1 a2) := by
  unfold State.rxClose
  with_reducible (apply keeps_inSession; assumption); intro _ _; split
  with_reducible (apply keeps_closeSession; apply keeps_seqDone; assumption; assumption)

theorem keeps_reply {s0 s : State} {a1 a2} (h : s0.Keeps s) : s0.Keeps (State.reply s a1 a2) := by
  unfold State.reply
  with_reducible (apply keeps_portSend; assumption)

theorem keeps_openSession {s0 s : State} {a1 a2 a3 a4} (h : s0.Keeps s) : s0.Keeps (State.openSession s a1 a2 a3 a4) := by
  unfold State.openSession
  dsimp only; with_reducible (apply keeps_notifyBut; apply keeps_inc32; apply keeps_heard; apply keeps_modSession; apply keeps_setReg)
  with_reducible (apply keeps_setReg; apply keeps_setReg; apply keeps_setReg; apply keeps_setReg; apply keeps_freeSession; assumption)

theorem keeps_grantOpen {s0 s : State} {a1 a2 a3 a4} (h : s0.Keeps s) : s0.Keeps (State.grantOpen s a1 a2 a3 a4) := by
  unfold State.grantOpen
  split; with_reducible (apply keeps_inc32; apply keeps_reply; assumption; apply keeps_openSession; apply keeps_reply; apply keeps_drawn)
  with_reducible assumption

theorem keeps_rxOpen {s0 s : State} {a1 a2} (h : s0.Keeps s) : s0.Keeps (State.rxOpen s a1 a2) := by
  unfold State.rxOpen
  split; with_reducible (apply keeps_malformed; assumption); dsimp only; split; split
  with_reducible (apply keeps_grantOpen; assumption; apply keeps_authFail; assumption; apply keeps_authFail; assumption)

theorem keeps_rxKeyInit {s0 s : State} {a1 a2} (h : s0.Keeps s) : s0.Keeps (State.rxKeyInit s a1 a2) := by
  unfold State.rxKeyInit
  split; with_reducible (apply keeps_malformed; assumption); split
  with_reducible (apply keeps_authFail; assumption; apply keeps_reply; apply keeps_mk; assumption)

theorem keeps_datagram {s0 s : State} {a1 a2} (h : s0.Keeps s) : s0.Keeps (State.datagram s a1 a2) := by
  unfold State.datagram
  split; with_reducible (apply keeps_malformed; assumption); split
  with_reducible (apply keeps_rxOpen; assumption; apply keeps_rxRequest; assumption; apply keeps_rxNotifyAck; assumption)
  with_reducible (apply keeps_rxClose; assumption; apply keeps_rxKeyInit; assumption; apply keeps_malformed; assumption)

theorem keeps_takeFrames {s0 s : State} {n : Nat} (h : s0.Keeps s) : s0.Keeps (State.takeFrames n s) := by
  induction n generalizing s with
  | zero => exact h
  | succ n ih =>
    unfold State.takeFrames
    split
    · exact h
    · split
      · exact h
      · exact ih (keeps_datagram (keeps_mk h))

theorem keeps_serve {s0 s : State} (h : s0.Keeps s) : s0.Keeps (State.serve s) := by
  unfold State.serve
  with_reducible (apply keeps_takeFrames; assumption)

theorem keeps_arrive {s0 s : State} {a1 a2} (h : s0.Keeps s) : s0.Keeps (State.arrive s a1 a2) := by
  unfold State.arrive
  dsimp only; split; with_reducible (apply keeps_inc32; apply keeps_rxFrame; assumption; apply keeps_mk; apply keeps_rxFrame; assumption)

theorem keeps_execFdpFrameRx {s0 s : State} {a0 a1} (h : s0.Keeps s) : KeepsR s0 (execFdpFrameRx a0 a1 s) := by
  unfold execFdpFrameRx
  with_reducible (apply keepsR_inst; apply keepsR_next); split
  with_reducible (apply keeps_serve; apply keeps_arrive; assumption; assumption)

theorem keeps_onFrame {s0 s : State} {peer : Peer} {f : State → State} (h : s0.Keeps s)
    (hf : ∀ t, s0.Keeps t → s0.Keeps (f t)) : s0.Keeps (s.onFrame peer f) := by
  unfold State.onFrame
  split
  · exact hf s h
  · exact h

theorem keeps_execFdpOpen {s0 s : State} {a0 a1} (h : s0.Keeps s) : KeepsR s0 (execFdpOpen a0 a1 s) := by
  unfold execFdpOpen
  with_reducible (apply keepsR_inst; apply keepsR_next; apply keeps_onFrame; assumption); intro _ _
  with_reducible (apply keeps_rxOpen; assumption)

theorem keeps_execKeyInit {s0 s : State} {a0 a1} (h : s0.Keeps s) : KeepsR s0 (execKeyInit a0 a1 s) := by
  unfold execKeyInit
  with_reducible (apply keepsR_inst; apply keepsR_next; apply keeps_onFrame; assumption); intro _ _
  with_reducible (apply keeps_rxKeyInit; assumption)

theorem keeps_execFdpRequest {s0 s : State} {a0 a1} (h : s0.Keeps s) : KeepsR s0 (execFdpRequest a0 a1 s) := by
  unfold execFdpRequest
  with_reducible (apply keepsR_inst; apply keepsR_next; apply keeps_onFrame; assumption); intro _ _
  with_reducible (apply keeps_rxRequest; assumption)

theorem keeps_execNotifyAck {s0 s : State} {a0 a1} (h : s0.Keeps s) : KeepsR s0 (execNotifyAck a0 a1 s) := by
  unfold execNotifyAck
  with_reducible (apply keepsR_inst; apply keepsR_next; apply keeps_onFrame; assumption); intro _ _
  with_reducible (apply keeps_rxNotifyAck; assumption)

theorem keeps_execCloseFrame {s0 s : State} {a0 a1} (h : s0.Keeps s) : KeepsR s0 (execCloseFrame a0 a1 s) := by
  unfold execCloseFrame
  with_reducible (apply keepsR_inst; apply keepsR_next; apply keeps_onFrame; assumption); intro _ _
  with_reducible (apply keeps_rxClose; assumption)

end Sys2Proof.Machine
end

