-- ==== Sys2Proof/Laws/KeepsTick.lean ====
section
/-! SUPPORT. What the definitions of Machine/Tick.lean keep (State.Keeps). -/

set_option Elab.async false

namespace Sys2Proof.Machine

theorem keeps_nextPhase {s0 s : State} (h : s0.Keeps s) : s0.Keeps (State.nextPhase s) := by
  unfold State.nextPhase
  dsimp only; with_reducible (apply keeps_mk; assumption)

theorem keeps_countLevel {s0 s : State} {a1 a2} (h : s0.Keeps s) : s0.Keeps (State.countLevel s a1 a2) := by
  unfold State.countLevel
  dsimp only; split; split; with_reducible (apply keeps_counterAdd; apply keeps_mk; assumption; apply keeps_mk; assumption); split
  with_reducible (apply keeps_counterAdd; apply keeps_mk; assumption; apply keeps_mk; assumption; apply keeps_mk; assumption)

theorem keeps_addTicks {s0 s : State} {a1 a2 a3} (h : s0.Keeps s) : s0.Keeps (State.addTicks s a1 a2 a3) := by
  unfold State.addTicks
  split; with_reducible (assumption; apply keeps_inc64; assumption)

theorem keeps_xclkCount {s0 s : State} {a1} (h : s0.Keeps s) : s0.Keeps (State.xclkCount s a1) := by
  unfold State.xclkCount
  dsimp only
  with_reducible (apply keeps_addTicks; apply keeps_addTicks; apply keeps_addTicks; apply keeps_each; apply keeps_each; assumption)
  intro _ _ _; with_reducible (apply keeps_addTicks; assumption); intro _ _ _; split; split
  with_reducible (apply keeps_addTicks; apply keeps_addTicks; assumption; apply keeps_addTicks; assumption); split
  with_reducible (apply keeps_addTicks; assumption; assumption)

theorem keeps_idleSecond {s0 s : State} (h : s0.Keeps s) : s0.Keeps (State.idleSecond s) := by
  unfold State.idleSecond
  split; with_reducible (apply keeps_each; assumption); intro _ _ _; split
  with_reducible (apply keeps_setReg; assumption; assumption; assumption)

theorem keeps_tick {s0 s : State} (h : s0.Keeps s) : s0.Keeps (State.tick s) := by
  unfold State.tick
  split; dsimp only; with_reducible (apply keeps_keepAdvance; apply keeps_serve); split
  with_reducible (apply keeps_walkTick; apply keeps_dramTick; apply keeps_dspTick; apply keeps_cribTick; apply keeps_nextPhase)
  with_reducible (apply keeps_grantAll; apply keeps_each; apply keeps_each; apply keeps_xclkCount; apply keeps_each)
  with_reducible (apply keeps_idleSecond; apply keeps_clockTick; assumption); intro _ _ _
  with_reducible (apply keeps_countLevel; assumption); intro _ _ _; with_reducible (apply keeps_countV; assumption); intro _ _ _
  with_reducible (apply keeps_prbsTx; assumption; apply keeps_idleSecond; apply keeps_clockTick; assumption; apply keeps_serve)
  with_reducible assumption

end Sys2Proof.Machine
end

