-- ==== Sys2Proof/Laws/State.lean ====
section
/-! SUPPORT. Beside State: one lemma per field per update, each true by rfl. -/

set_option Elab.async false

namespace Sys2Proof.Machine

set_option linter.unusedVariables false

/-! ## setReg -/

@[simp] theorem setReg_pending (s : State) (i a v : Nat) : (s.setReg i a v).pending = s.pending := rfl
@[simp] theorem setReg_board (s : State) (i a v : Nat) : (s.setReg i a v).board = s.board := rfl
@[simp] theorem setReg_nv (s : State) (i a v : Nat) : (s.setReg i a v).nv = s.nv := rfl
@[simp] theorem setReg_regs (s : State) (i a v : Nat) : (s.setReg i a v).regs = insertKey s.regs (key i a) v := rfl
@[simp] theorem setReg_doms (s : State) (i a v : Nat) : (s.setReg i a v).doms = s.doms := rfl
@[simp] theorem setReg_drawn (s : State) (i a v : Nat) : (s.setReg i a v).drawn = s.drawn := rfl
@[simp] theorem setReg_dram (s : State) (i a v : Nat) : (s.setReg i a v).dram = s.dram := rfl
@[simp] theorem setReg_outbox (s : State) (i a v : Nat) : (s.setReg i a v).outbox = s.outbox := rfl
@[simp] theorem setReg_time (s : State) (i a v : Nat) : (s.setReg i a v).time = s.time := rfl
@[simp] theorem setReg_pos (s : State) (i a v : Nat) : (s.setReg i a v).pos = s.pos := rfl
@[simp] theorem setReg_dowel (s : State) (i a v : Nat) : (s.setReg i a v).dowel = s.dowel := rfl
@[simp] theorem setReg_avail (s : State) (i a v : Nat) : (s.setReg i a v).avail = s.avail := rfl
@[simp] theorem setReg_power (s : State) (i a v : Nat) : (s.setReg i a v).power = s.power := rfl
@[simp] theorem setReg_dict (s : State) (i a v : Nat) : (s.setReg i a v).dict = s.dict := rfl
@[simp] theorem setReg_fabric (s : State) (i a v : Nat) : (s.setReg i a v).fabric = s.fabric := rfl
@[simp] theorem setReg_dsp (s : State) (i a v : Nat) : (s.setReg i a v).dsp = s.dsp := rfl
@[simp] theorem setReg_insp (s : State) (i a v : Nat) : (s.setReg i a v).insp = s.insp := rfl
@[simp] theorem setReg_winnow (s : State) (i a v : Nat) : (s.setReg i a v).winnow = s.winnow := rfl
@[simp] theorem setReg_ddr (s : State) (i a v : Nat) : (s.setReg i a v).ddr = s.ddr := rfl
@[simp] theorem setReg_xarray (s : State) (i a v : Nat) : (s.setReg i a v).xarray = s.xarray := rfl
@[simp] theorem setReg_crib (s : State) (i a v : Nat) : (s.setReg i a v).crib = s.crib := rfl
@[simp] theorem setReg_sheaf (s : State) (i a v : Nat) : (s.setReg i a v).sheaf = s.sheaf := rfl

/-! ## bumpDom -/

@[simp] theorem bumpDom_pending (s : State) (i a : Nat) : (s.bumpDom i a).pending = s.pending := rfl
@[simp] theorem bumpDom_board (s : State) (i a : Nat) : (s.bumpDom i a).board = s.board := rfl
@[simp] theorem bumpDom_nv (s : State) (i a : Nat) : (s.bumpDom i a).nv = s.nv := rfl
@[simp] theorem bumpDom_regs (s : State) (i a : Nat) : (s.bumpDom i a).regs = s.regs := rfl
@[simp] theorem bumpDom_drawn (s : State) (i a : Nat) : (s.bumpDom i a).drawn = s.drawn := rfl
@[simp] theorem bumpDom_dram (s : State) (i a : Nat) : (s.bumpDom i a).dram = s.dram := rfl
@[simp] theorem bumpDom_outbox (s : State) (i a : Nat) : (s.bumpDom i a).outbox = s.outbox := rfl
@[simp] theorem bumpDom_time (s : State) (i a : Nat) : (s.bumpDom i a).time = s.time := rfl
@[simp] theorem bumpDom_pos (s : State) (i a : Nat) : (s.bumpDom i a).pos = s.pos := rfl
@[simp] theorem bumpDom_dowel (s : State) (i a : Nat) : (s.bumpDom i a).dowel = s.dowel := rfl
@[simp] theorem bumpDom_avail (s : State) (i a : Nat) : (s.bumpDom i a).avail = s.avail := rfl
@[simp] theorem bumpDom_power (s : State) (i a : Nat) : (s.bumpDom i a).power = s.power := rfl
@[simp] theorem bumpDom_dict (s : State) (i a : Nat) : (s.bumpDom i a).dict = s.dict := rfl
@[simp] theorem bumpDom_fabric (s : State) (i a : Nat) : (s.bumpDom i a).fabric = s.fabric := rfl
@[simp] theorem bumpDom_dsp (s : State) (i a : Nat) : (s.bumpDom i a).dsp = s.dsp := rfl
@[simp] theorem bumpDom_insp (s : State) (i a : Nat) : (s.bumpDom i a).insp = s.insp := rfl
@[simp] theorem bumpDom_winnow (s : State) (i a : Nat) : (s.bumpDom i a).winnow = s.winnow := rfl
@[simp] theorem bumpDom_ddr (s : State) (i a : Nat) : (s.bumpDom i a).ddr = s.ddr := rfl
@[simp] theorem bumpDom_xarray (s : State) (i a : Nat) : (s.bumpDom i a).xarray = s.xarray := rfl
@[simp] theorem bumpDom_crib (s : State) (i a : Nat) : (s.bumpDom i a).crib = s.crib := rfl
@[simp] theorem bumpDom_sheaf (s : State) (i a : Nat) : (s.bumpDom i a).sheaf = s.sheaf := rfl
@[simp] theorem bumpDom_reg (s : State) (i a : Nat) (idx_ sub_ : Nat) : (s.bumpDom i a).reg idx_ sub_ = s.reg idx_ sub_ := rfl
@[simp] theorem bumpDom_flag (s : State) (i a : Nat) (idx_ sub_ : Nat) : (s.bumpDom i a).flag idx_ sub_ = s.flag idx_ sub_ := rfl
@[simp] theorem bumpDom_sreg (s : State) (i a : Nat) (w_ idx_ sub_ : Nat) : (s.bumpDom i a).sreg w_ idx_ sub_ = s.sreg w_ idx_ sub_ := rfl
@[simp] theorem bumpDom_status (s : State) (i a : Nat) (idx_ : Nat) : (s.bumpDom i a).status idx_ = s.status idx_ := rfl

/-! ## emit -/

@[simp] theorem emit_pending (s : State) (o : Output) : (s.emit o).pending = s.pending := rfl
@[simp] theorem emit_board (s : State) (o : Output) : (s.emit o).board = s.board := rfl
@[simp] theorem emit_nv (s : State) (o : Output) : (s.emit o).nv = s.nv := rfl
@[simp] theorem emit_regs (s : State) (o : Output) : (s.emit o).regs = s.regs := rfl
@[simp] theorem emit_doms (s : State) (o : Output) : (s.emit o).doms = s.doms := rfl
@[simp] theorem emit_drawn (s : State) (o : Output) : (s.emit o).drawn = s.drawn := rfl
@[simp] theorem emit_dram (s : State) (o : Output) : (s.emit o).dram = s.dram := rfl
@[simp] theorem emit_outbox (s : State) (o : Output) : (s.emit o).outbox = s.outbox ++ [o] := rfl
@[simp] theorem emit_time (s : State) (o : Output) : (s.emit o).time = s.time := rfl
@[simp] theorem emit_pos (s : State) (o : Output) : (s.emit o).pos = s.pos := rfl
@[simp] theorem emit_dowel (s : State) (o : Output) : (s.emit o).dowel = s.dowel := rfl
@[simp] theorem emit_avail (s : State) (o : Output) : (s.emit o).avail = s.avail := rfl
@[simp] theorem emit_power (s : State) (o : Output) : (s.emit o).power = s.power := rfl
@[simp] theorem emit_dict (s : State) (o : Output) : (s.emit o).dict = s.dict := rfl
@[simp] theorem emit_fabric (s : State) (o : Output) : (s.emit o).fabric = s.fabric := rfl
@[simp] theorem emit_dsp (s : State) (o : Output) : (s.emit o).dsp = s.dsp := rfl
@[simp] theorem emit_insp (s : State) (o : Output) : (s.emit o).insp = s.insp := rfl
@[simp] theorem emit_winnow (s : State) (o : Output) : (s.emit o).winnow = s.winnow := rfl
@[simp] theorem emit_ddr (s : State) (o : Output) : (s.emit o).ddr = s.ddr := rfl
@[simp] theorem emit_xarray (s : State) (o : Output) : (s.emit o).xarray = s.xarray := rfl
@[simp] theorem emit_crib (s : State) (o : Output) : (s.emit o).crib = s.crib := rfl
@[simp] theorem emit_sheaf (s : State) (o : Output) : (s.emit o).sheaf = s.sheaf := rfl
@[simp] theorem emit_reg (s : State) (o : Output) (idx_ sub_ : Nat) : (s.emit o).reg idx_ sub_ = s.reg idx_ sub_ := rfl
@[simp] theorem emit_flag (s : State) (o : Output) (idx_ sub_ : Nat) : (s.emit o).flag idx_ sub_ = s.flag idx_ sub_ := rfl
@[simp] theorem emit_sreg (s : State) (o : Output) (w_ idx_ sub_ : Nat) : (s.emit o).sreg w_ idx_ sub_ = s.sreg w_ idx_ sub_ := rfl
@[simp] theorem emit_status (s : State) (o : Output) (idx_ : Nat) : (s.emit o).status idx_ = s.status idx_ := rfl

/-! ## draw -/

@[simp] theorem draw_pending (s : State) (w : Nat) : (s.draw w).2.pending = s.pending := rfl
@[simp] theorem draw_board (s : State) (w : Nat) : (s.draw w).2.board = s.board := rfl
@[simp] theorem draw_nv (s : State) (w : Nat) : (s.draw w).2.nv = s.nv := rfl
@[simp] theorem draw_regs (s : State) (w : Nat) : (s.draw w).2.regs = s.regs := rfl
@[simp] theorem draw_doms (s : State) (w : Nat) : (s.draw w).2.doms = s.doms := rfl
@[simp] theorem draw_drawn (s : State) (w : Nat) : (s.draw w).2.drawn = s.drawn + 1 := rfl
@[simp] theorem draw_dram (s : State) (w : Nat) : (s.draw w).2.dram = s.dram := rfl
@[simp] theorem draw_outbox (s : State) (w : Nat) : (s.draw w).2.outbox = s.outbox := rfl
@[simp] theorem draw_time (s : State) (w : Nat) : (s.draw w).2.time = s.time := rfl
@[simp] theorem draw_pos (s : State) (w : Nat) : (s.draw w).2.pos = s.pos := rfl
@[simp] theorem draw_dowel (s : State) (w : Nat) : (s.draw w).2.dowel = s.dowel := rfl
@[simp] theorem draw_avail (s : State) (w : Nat) : (s.draw w).2.avail = s.avail := rfl
@[simp] theorem draw_power (s : State) (w : Nat) : (s.draw w).2.power = s.power := rfl
@[simp] theorem draw_dict (s : State) (w : Nat) : (s.draw w).2.dict = s.dict := rfl
@[simp] theorem draw_fabric (s : State) (w : Nat) : (s.draw w).2.fabric = s.fabric := rfl
@[simp] theorem draw_dsp (s : State) (w : Nat) : (s.draw w).2.dsp = s.dsp := rfl
@[simp] theorem draw_insp (s : State) (w : Nat) : (s.draw w).2.insp = s.insp := rfl
@[simp] theorem draw_winnow (s : State) (w : Nat) : (s.draw w).2.winnow = s.winnow := rfl
@[simp] theorem draw_ddr (s : State) (w : Nat) : (s.draw w).2.ddr = s.ddr := rfl
@[simp] theorem draw_xarray (s : State) (w : Nat) : (s.draw w).2.xarray = s.xarray := rfl
@[simp] theorem draw_crib (s : State) (w : Nat) : (s.draw w).2.crib = s.crib := rfl
@[simp] theorem draw_sheaf (s : State) (w : Nat) : (s.draw w).2.sheaf = s.sheaf := rfl
@[simp] theorem draw_reg (s : State) (w : Nat) (idx_ sub_ : Nat) : (s.draw w).2.reg idx_ sub_ = s.reg idx_ sub_ := rfl
@[simp] theorem draw_flag (s : State) (w : Nat) (idx_ sub_ : Nat) : (s.draw w).2.flag idx_ sub_ = s.flag idx_ sub_ := rfl
@[simp] theorem draw_sreg (s : State) (w : Nat) (w_ idx_ sub_ : Nat) : (s.draw w).2.sreg w_ idx_ sub_ = s.sreg w_ idx_ sub_ := rfl
@[simp] theorem draw_status (s : State) (w : Nat) (idx_ : Nat) : (s.draw w).2.status idx_ = s.status idx_ := rfl

/-! ## putUnit -/

@[simp] theorem putUnit_pending (s : State) (ch u : Nat) (v : Bytes) : (s.putUnit ch u v).pending = s.pending := rfl
@[simp] theorem putUnit_board (s : State) (ch u : Nat) (v : Bytes) : (s.putUnit ch u v).board = s.board := rfl
@[simp] theorem putUnit_nv (s : State) (ch u : Nat) (v : Bytes) : (s.putUnit ch u v).nv = s.nv := rfl
@[simp] theorem putUnit_regs (s : State) (ch u : Nat) (v : Bytes) : (s.putUnit ch u v).regs = s.regs := rfl
@[simp] theorem putUnit_doms (s : State) (ch u : Nat) (v : Bytes) : (s.putUnit ch u v).doms = s.doms := rfl
@[simp] theorem putUnit_drawn (s : State) (ch u : Nat) (v : Bytes) : (s.putUnit ch u v).drawn = s.drawn := rfl
@[simp] theorem putUnit_dram (s : State) (ch u : Nat) (v : Bytes) : (s.putUnit ch u v).dram = dramWrite s.dram (64 * s.deviceKey ch u) v := rfl
@[simp] theorem putUnit_outbox (s : State) (ch u : Nat) (v : Bytes) : (s.putUnit ch u v).outbox = s.outbox := rfl
@[simp] theorem putUnit_time (s : State) (ch u : Nat) (v : Bytes) : (s.putUnit ch u v).time = s.time := rfl
@[simp] theorem putUnit_pos (s : State) (ch u : Nat) (v : Bytes) : (s.putUnit ch u v).pos = s.pos := rfl
@[simp] theorem putUnit_dowel (s : State) (ch u : Nat) (v : Bytes) : (s.putUnit ch u v).dowel = s.dowel := rfl
@[simp] theorem putUnit_avail (s : State) (ch u : Nat) (v : Bytes) : (s.putUnit ch u v).avail = s.avail := rfl
@[simp] theorem putUnit_power (s : State) (ch u : Nat) (v : Bytes) : (s.putUnit ch u v).power = s.power := rfl
@[simp] theorem putUnit_dict (s : State) (ch u : Nat) (v : Bytes) : (s.putUnit ch u v).dict = s.dict := rfl
@[simp] theorem putUnit_fabric (s : State) (ch u : Nat) (v : Bytes) : (s.putUnit ch u v).fabric = s.fabric := rfl
@[simp] theorem putUnit_dsp (s : State) (ch u : Nat) (v : Bytes) : (s.putUnit ch u v).dsp = s.dsp := rfl
@[simp] theorem putUnit_insp (s : State) (ch u : Nat) (v : Bytes) : (s.putUnit ch u v).insp = s.insp := rfl
@[simp] theorem putUnit_winnow (s : State) (ch u : Nat) (v : Bytes) : (s.putUnit ch u v).winnow = s.winnow := rfl
@[simp] theorem putUnit_ddr (s : State) (ch u : Nat) (v : Bytes) : (s.putUnit ch u v).ddr = s.ddr := rfl
@[simp] theorem putUnit_xarray (s : State) (ch u : Nat) (v : Bytes) : (s.putUnit ch u v).xarray = s.xarray := rfl
@[simp] theorem putUnit_crib (s : State) (ch u : Nat) (v : Bytes) : (s.putUnit ch u v).crib = s.crib := rfl
@[simp] theorem putUnit_sheaf (s : State) (ch u : Nat) (v : Bytes) : (s.putUnit ch u v).sheaf = s.sheaf := rfl
@[simp] theorem putUnit_reg (s : State) (ch u : Nat) (v : Bytes) (idx_ sub_ : Nat) : (s.putUnit ch u v).reg idx_ sub_ = s.reg idx_ sub_ := rfl
@[simp] theorem putUnit_flag (s : State) (ch u : Nat) (v : Bytes) (idx_ sub_ : Nat) : (s.putUnit ch u v).flag idx_ sub_ = s.flag idx_ sub_ := rfl
@[simp] theorem putUnit_sreg (s : State) (ch u : Nat) (v : Bytes) (w_ idx_ sub_ : Nat) : (s.putUnit ch u v).sreg w_ idx_ sub_ = s.sreg w_ idx_ sub_ := rfl
@[simp] theorem putUnit_status (s : State) (ch u : Nat) (v : Bytes) (idx_ : Nat) : (s.putUnit ch u v).status idx_ = s.status idx_ := rfl

/-! ## withPending -/

@[simp] theorem withPending_pending (s : State) (q : List Instr) : (s.withPending q).pending = q := rfl
@[simp] theorem withPending_board (s : State) (q : List Instr) : (s.withPending q).board = s.board := rfl
@[simp] theorem withPending_nv (s : State) (q : List Instr) : (s.withPending q).nv = s.nv := rfl
@[simp] theorem withPending_regs (s : State) (q : List Instr) : (s.withPending q).regs = s.regs := rfl
@[simp] theorem withPending_doms (s : State) (q : List Instr) : (s.withPending q).doms = s.doms := rfl
@[simp] theorem withPending_drawn (s : State) (q : List Instr) : (s.withPending q).drawn = s.drawn := rfl
@[simp] theorem withPending_dram (s : State) (q : List Instr) : (s.withPending q).dram = s.dram := rfl
@[simp] theorem withPending_outbox (s : State) (q : List Instr) : (s.withPending q).outbox = s.outbox := rfl
@[simp] theorem withPending_time (s : State) (q : List Instr) : (s.withPending q).time = s.time := rfl
@[simp] theorem withPending_pos (s : State) (q : List Instr) : (s.withPending q).pos = s.pos := rfl
@[simp] theorem withPending_dowel (s : State) (q : List Instr) : (s.withPending q).dowel = s.dowel := rfl
@[simp] theorem withPending_avail (s : State) (q : List Instr) : (s.withPending q).avail = s.avail := rfl
@[simp] theorem withPending_power (s : State) (q : List Instr) : (s.withPending q).power = s.power := rfl
@[simp] theorem withPending_dict (s : State) (q : List Instr) : (s.withPending q).dict = s.dict := rfl
@[simp] theorem withPending_fabric (s : State) (q : List Instr) : (s.withPending q).fabric = s.fabric := rfl
@[simp] theorem withPending_dsp (s : State) (q : List Instr) : (s.withPending q).dsp = s.dsp := rfl
@[simp] theorem withPending_insp (s : State) (q : List Instr) : (s.withPending q).insp = s.insp := rfl
@[simp] theorem withPending_winnow (s : State) (q : List Instr) : (s.withPending q).winnow = s.winnow := rfl
@[simp] theorem withPending_ddr (s : State) (q : List Instr) : (s.withPending q).ddr = s.ddr := rfl
@[simp] theorem withPending_xarray (s : State) (q : List Instr) : (s.withPending q).xarray = s.xarray := rfl
@[simp] theorem withPending_crib (s : State) (q : List Instr) : (s.withPending q).crib = s.crib := rfl
@[simp] theorem withPending_sheaf (s : State) (q : List Instr) : (s.withPending q).sheaf = s.sheaf := rfl
@[simp] theorem withPending_reg (s : State) (q : List Instr) (idx_ sub_ : Nat) : (s.withPending q).reg idx_ sub_ = s.reg idx_ sub_ := rfl
@[simp] theorem withPending_flag (s : State) (q : List Instr) (idx_ sub_ : Nat) : (s.withPending q).flag idx_ sub_ = s.flag idx_ sub_ := rfl
@[simp] theorem withPending_sreg (s : State) (q : List Instr) (w_ idx_ sub_ : Nat) : (s.withPending q).sreg w_ idx_ sub_ = s.sreg w_ idx_ sub_ := rfl
@[simp] theorem withPending_status (s : State) (q : List Instr) (idx_ : Nat) : (s.withPending q).status idx_ = s.status idx_ := rfl

/-! ## counterMax -/

@[simp] theorem counterMax_pending (s : State) (n v : Nat) : (s.counterMax n v).pending = s.pending := rfl
@[simp] theorem counterMax_board (s : State) (n v : Nat) : (s.counterMax n v).board = s.board := rfl
@[simp] theorem counterMax_nv (s : State) (n v : Nat) : (s.counterMax n v).nv = s.nv := rfl
@[simp] theorem counterMax_regs (s : State) (n v : Nat) : (s.counterMax n v).regs = s.regs := rfl
@[simp] theorem counterMax_doms (s : State) (n v : Nat) : (s.counterMax n v).doms = s.doms := rfl
@[simp] theorem counterMax_drawn (s : State) (n v : Nat) : (s.counterMax n v).drawn = s.drawn := rfl
@[simp] theorem counterMax_dram (s : State) (n v : Nat) : (s.counterMax n v).dram = s.dram := rfl
@[simp] theorem counterMax_outbox (s : State) (n v : Nat) : (s.counterMax n v).outbox = s.outbox := rfl
@[simp] theorem counterMax_time (s : State) (n v : Nat) : (s.counterMax n v).time = s.time := rfl
@[simp] theorem counterMax_pos (s : State) (n v : Nat) : (s.counterMax n v).pos = s.pos := rfl
@[simp] theorem counterMax_dowel (s : State) (n v : Nat) : (s.counterMax n v).dowel = { s.dowel with counters := modNth (fun c => { c with value := max c.value v }) s.dowel.counters n } := rfl
@[simp] theorem counterMax_avail (s : State) (n v : Nat) : (s.counterMax n v).avail = s.avail := rfl
@[simp] theorem counterMax_power (s : State) (n v : Nat) : (s.counterMax n v).power = s.power := rfl
@[simp] theorem counterMax_dict (s : State) (n v : Nat) : (s.counterMax n v).dict = s.dict := rfl
@[simp] theorem counterMax_fabric (s : State) (n v : Nat) : (s.counterMax n v).fabric = s.fabric := rfl
@[simp] theorem counterMax_dsp (s : State) (n v : Nat) : (s.counterMax n v).dsp = s.dsp := rfl
@[simp] theorem counterMax_insp (s : State) (n v : Nat) : (s.counterMax n v).insp = s.insp := rfl
@[simp] theorem counterMax_winnow (s : State) (n v : Nat) : (s.counterMax n v).winnow = s.winnow := rfl
@[simp] theorem counterMax_ddr (s : State) (n v : Nat) : (s.counterMax n v).ddr = s.ddr := rfl
@[simp] theorem counterMax_xarray (s : State) (n v : Nat) : (s.counterMax n v).xarray = s.xarray := rfl
@[simp] theorem counterMax_crib (s : State) (n v : Nat) : (s.counterMax n v).crib = s.crib := rfl
@[simp] theorem counterMax_sheaf (s : State) (n v : Nat) : (s.counterMax n v).sheaf = s.sheaf := rfl
@[simp] theorem counterMax_reg (s : State) (n v : Nat) (idx_ sub_ : Nat) : (s.counterMax n v).reg idx_ sub_ = s.reg idx_ sub_ := rfl
@[simp] theorem counterMax_flag (s : State) (n v : Nat) (idx_ sub_ : Nat) : (s.counterMax n v).flag idx_ sub_ = s.flag idx_ sub_ := rfl
@[simp] theorem counterMax_sreg (s : State) (n v : Nat) (w_ idx_ sub_ : Nat) : (s.counterMax n v).sreg w_ idx_ sub_ = s.sreg w_ idx_ sub_ := rfl
@[simp] theorem counterMax_status (s : State) (n v : Nat) (idx_ : Nat) : (s.counterMax n v).status idx_ = s.status idx_ := rfl

/-! ## modSession -/

@[simp] theorem modSession_pending (s : State) (k : Nat) (f : Session → Session) : (s.modSession k f).pending = s.pending := rfl
@[simp] theorem modSession_board (s : State) (k : Nat) (f : Session → Session) : (s.modSession k f).board = s.board := rfl
@[simp] theorem modSession_nv (s : State) (k : Nat) (f : Session → Session) : (s.modSession k f).nv = s.nv := rfl
@[simp] theorem modSession_regs (s : State) (k : Nat) (f : Session → Session) : (s.modSession k f).regs = s.regs := rfl
@[simp] theorem modSession_doms (s : State) (k : Nat) (f : Session → Session) : (s.modSession k f).doms = s.doms := rfl
@[simp] theorem modSession_drawn (s : State) (k : Nat) (f : Session → Session) : (s.modSession k f).drawn = s.drawn := rfl
@[simp] theorem modSession_dram (s : State) (k : Nat) (f : Session → Session) : (s.modSession k f).dram = s.dram := rfl
@[simp] theorem modSession_outbox (s : State) (k : Nat) (f : Session → Session) : (s.modSession k f).outbox = s.outbox := rfl
@[simp] theorem modSession_time (s : State) (k : Nat) (f : Session → Session) : (s.modSession k f).time = s.time := rfl
@[simp] theorem modSession_pos (s : State) (k : Nat) (f : Session → Session) : (s.modSession k f).pos = s.pos := rfl
@[simp] theorem modSession_dowel (s : State) (k : Nat) (f : Session → Session) : (s.modSession k f).dowel = s.dowel := rfl
@[simp] theorem modSession_avail (s : State) (k : Nat) (f : Session → Session) : (s.modSession k f).avail = s.avail := rfl
@[simp] theorem modSession_power (s : State) (k : Nat) (f : Session → Session) : (s.modSession k f).power = s.power := rfl
@[simp] theorem modSession_dict (s : State) (k : Nat) (f : Session → Session) : (s.modSession k f).dict = { s.dict with sessions := modNth f s.dict.sessions (k - 1) } := rfl
@[simp] theorem modSession_fabric (s : State) (k : Nat) (f : Session → Session) : (s.modSession k f).fabric = s.fabric := rfl
@[simp] theorem modSession_dsp (s : State) (k : Nat) (f : Session → Session) : (s.modSession k f).dsp = s.dsp := rfl
@[simp] theorem modSession_insp (s : State) (k : Nat) (f : Session → Session) : (s.modSession k f).insp = s.insp := rfl
@[simp] theorem modSession_winnow (s : State) (k : Nat) (f : Session → Session) : (s.modSession k f).winnow = s.winnow := rfl
@[simp] theorem modSession_ddr (s : State) (k : Nat) (f : Session → Session) : (s.modSession k f).ddr = s.ddr := rfl
@[simp] theorem modSession_xarray (s : State) (k : Nat) (f : Session → Session) : (s.modSession k f).xarray = s.xarray := rfl
@[simp] theorem modSession_crib (s : State) (k : Nat) (f : Session → Session) : (s.modSession k f).crib = s.crib := rfl
@[simp] theorem modSession_sheaf (s : State) (k : Nat) (f : Session → Session) : (s.modSession k f).sheaf = s.sheaf := rfl
@[simp] theorem modSession_reg (s : State) (k : Nat) (f : Session → Session) (idx_ sub_ : Nat) : (s.modSession k f).reg idx_ sub_ = s.reg idx_ sub_ := rfl
@[simp] theorem modSession_flag (s : State) (k : Nat) (f : Session → Session) (idx_ sub_ : Nat) : (s.modSession k f).flag idx_ sub_ = s.flag idx_ sub_ := rfl
@[simp] theorem modSession_sreg (s : State) (k : Nat) (f : Session → Session) (w_ idx_ sub_ : Nat) : (s.modSession k f).sreg w_ idx_ sub_ = s.sreg w_ idx_ sub_ := rfl
@[simp] theorem modSession_status (s : State) (k : Nat) (f : Session → Session) (idx_ : Nat) : (s.modSession k f).status idx_ = s.status idx_ := rfl

/-! ## setInput -/

@[simp] theorem setInput_pending (s : State) (id : Nat) (x : InputState) : (s.setInput id x).pending = s.pending := rfl
@[simp] theorem setInput_board (s : State) (id : Nat) (x : InputState) : (s.setInput id x).board = s.board := rfl
@[simp] theorem setInput_nv (s : State) (id : Nat) (x : InputState) : (s.setInput id x).nv = s.nv := rfl
@[simp] theorem setInput_regs (s : State) (id : Nat) (x : InputState) : (s.setInput id x).regs = s.regs := rfl
@[simp] theorem setInput_doms (s : State) (id : Nat) (x : InputState) : (s.setInput id x).doms = s.doms := rfl
@[simp] theorem setInput_drawn (s : State) (id : Nat) (x : InputState) : (s.setInput id x).drawn = s.drawn := rfl
@[simp] theorem setInput_dram (s : State) (id : Nat) (x : InputState) : (s.setInput id x).dram = s.dram := rfl
@[simp] theorem setInput_outbox (s : State) (id : Nat) (x : InputState) : (s.setInput id x).outbox = s.outbox := rfl
@[simp] theorem setInput_time (s : State) (id : Nat) (x : InputState) : (s.setInput id x).time = s.time := rfl
@[simp] theorem setInput_pos (s : State) (id : Nat) (x : InputState) : (s.setInput id x).pos = s.pos := rfl
@[simp] theorem setInput_dowel (s : State) (id : Nat) (x : InputState) : (s.setInput id x).dowel = { s.dowel with inputs := insertKey s.dowel.inputs id x } := rfl
@[simp] theorem setInput_avail (s : State) (id : Nat) (x : InputState) : (s.setInput id x).avail = s.avail := rfl
@[simp] theorem setInput_power (s : State) (id : Nat) (x : InputState) : (s.setInput id x).power = s.power := rfl
@[simp] theorem setInput_dict (s : State) (id : Nat) (x : InputState) : (s.setInput id x).dict = s.dict := rfl
@[simp] theorem setInput_fabric (s : State) (id : Nat) (x : InputState) : (s.setInput id x).fabric = s.fabric := rfl
@[simp] theorem setInput_dsp (s : State) (id : Nat) (x : InputState) : (s.setInput id x).dsp = s.dsp := rfl
@[simp] theorem setInput_insp (s : State) (id : Nat) (x : InputState) : (s.setInput id x).insp = s.insp := rfl
@[simp] theorem setInput_winnow (s : State) (id : Nat) (x : InputState) : (s.setInput id x).winnow = s.winnow := rfl
@[simp] theorem setInput_ddr (s : State) (id : Nat) (x : InputState) : (s.setInput id x).ddr = s.ddr := rfl
@[simp] theorem setInput_xarray (s : State) (id : Nat) (x : InputState) : (s.setInput id x).xarray = s.xarray := rfl
@[simp] theorem setInput_crib (s : State) (id : Nat) (x : InputState) : (s.setInput id x).crib = s.crib := rfl
@[simp] theorem setInput_sheaf (s : State) (id : Nat) (x : InputState) : (s.setInput id x).sheaf = s.sheaf := rfl
@[simp] theorem setInput_reg (s : State) (id : Nat) (x : InputState) (idx_ sub_ : Nat) : (s.setInput id x).reg idx_ sub_ = s.reg idx_ sub_ := rfl
@[simp] theorem setInput_flag (s : State) (id : Nat) (x : InputState) (idx_ sub_ : Nat) : (s.setInput id x).flag idx_ sub_ = s.flag idx_ sub_ := rfl
@[simp] theorem setInput_sreg (s : State) (id : Nat) (x : InputState) (w_ idx_ sub_ : Nat) : (s.setInput id x).sreg w_ idx_ sub_ = s.sreg w_ idx_ sub_ := rfl
@[simp] theorem setInput_status (s : State) (id : Nat) (x : InputState) (idx_ : Nat) : (s.setInput id x).status idx_ = s.status idx_ := rfl

/-! ## modTb -/

@[simp] theorem modTb_pending (s : State) (t : Nat) (f : Timebase → Timebase) : (s.modTb t f).pending = s.pending := rfl
@[simp] theorem modTb_board (s : State) (t : Nat) (f : Timebase → Timebase) : (s.modTb t f).board = s.board := rfl
@[simp] theorem modTb_nv (s : State) (t : Nat) (f : Timebase → Timebase) : (s.modTb t f).nv = s.nv := rfl
@[simp] theorem modTb_regs (s : State) (t : Nat) (f : Timebase → Timebase) : (s.modTb t f).regs = s.regs := rfl
@[simp] theorem modTb_doms (s : State) (t : Nat) (f : Timebase → Timebase) : (s.modTb t f).doms = s.doms := rfl
@[simp] theorem modTb_drawn (s : State) (t : Nat) (f : Timebase → Timebase) : (s.modTb t f).drawn = s.drawn := rfl
@[simp] theorem modTb_dram (s : State) (t : Nat) (f : Timebase → Timebase) : (s.modTb t f).dram = s.dram := rfl
@[simp] theorem modTb_outbox (s : State) (t : Nat) (f : Timebase → Timebase) : (s.modTb t f).outbox = s.outbox := rfl
@[simp] theorem modTb_time (s : State) (t : Nat) (f : Timebase → Timebase) : (s.modTb t f).time = { s.time with tbs := modNth f s.time.tbs t } := rfl
@[simp] theorem modTb_pos (s : State) (t : Nat) (f : Timebase → Timebase) : (s.modTb t f).pos = s.pos := rfl
@[simp] theorem modTb_dowel (s : State) (t : Nat) (f : Timebase → Timebase) : (s.modTb t f).dowel = s.dowel := rfl
@[simp] theorem modTb_avail (s : State) (t : Nat) (f : Timebase → Timebase) : (s.modTb t f).avail = s.avail := rfl
@[simp] theorem modTb_power (s : State) (t : Nat) (f : Timebase → Timebase) : (s.modTb t f).power = s.power := rfl
@[simp] theorem modTb_dict (s : State) (t : Nat) (f : Timebase → Timebase) : (s.modTb t f).dict = s.dict := rfl
@[simp] theorem modTb_fabric (s : State) (t : Nat) (f : Timebase → Timebase) : (s.modTb t f).fabric = s.fabric := rfl
@[simp] theorem modTb_dsp (s : State) (t : Nat) (f : Timebase → Timebase) : (s.modTb t f).dsp = s.dsp := rfl
@[simp] theorem modTb_insp (s : State) (t : Nat) (f : Timebase → Timebase) : (s.modTb t f).insp = s.insp := rfl
@[simp] theorem modTb_winnow (s : State) (t : Nat) (f : Timebase → Timebase) : (s.modTb t f).winnow = s.winnow := rfl
@[simp] theorem modTb_ddr (s : State) (t : Nat) (f : Timebase → Timebase) : (s.modTb t f).ddr = s.ddr := rfl
@[simp] theorem modTb_xarray (s : State) (t : Nat) (f : Timebase → Timebase) : (s.modTb t f).xarray = s.xarray := rfl
@[simp] theorem modTb_crib (s : State) (t : Nat) (f : Timebase → Timebase) : (s.modTb t f).crib = s.crib := rfl
@[simp] theorem modTb_sheaf (s : State) (t : Nat) (f : Timebase → Timebase) : (s.modTb t f).sheaf = s.sheaf := rfl
@[simp] theorem modTb_reg (s : State) (t : Nat) (f : Timebase → Timebase) (idx_ sub_ : Nat) : (s.modTb t f).reg idx_ sub_ = s.reg idx_ sub_ := rfl
@[simp] theorem modTb_flag (s : State) (t : Nat) (f : Timebase → Timebase) (idx_ sub_ : Nat) : (s.modTb t f).flag idx_ sub_ = s.flag idx_ sub_ := rfl
@[simp] theorem modTb_sreg (s : State) (t : Nat) (f : Timebase → Timebase) (w_ idx_ sub_ : Nat) : (s.modTb t f).sreg w_ idx_ sub_ = s.sreg w_ idx_ sub_ := rfl
@[simp] theorem modTb_status (s : State) (t : Nat) (f : Timebase → Timebase) (idx_ : Nat) : (s.modTb t f).status idx_ = s.status idx_ := rfl

/-! ## modCand -/

@[simp] theorem modCand_pending (s : State) (i : Nat) (f : Candidate → Candidate) : (s.modCand i f).pending = s.pending := rfl
@[simp] theorem modCand_board (s : State) (i : Nat) (f : Candidate → Candidate) : (s.modCand i f).board = s.board := rfl
@[simp] theorem modCand_nv (s : State) (i : Nat) (f : Candidate → Candidate) : (s.modCand i f).nv = s.nv := rfl
@[simp] theorem modCand_regs (s : State) (i : Nat) (f : Candidate → Candidate) : (s.modCand i f).regs = s.regs := rfl
@[simp] theorem modCand_doms (s : State) (i : Nat) (f : Candidate → Candidate) : (s.modCand i f).doms = s.doms := rfl
@[simp] theorem modCand_drawn (s : State) (i : Nat) (f : Candidate → Candidate) : (s.modCand i f).drawn = s.drawn := rfl
@[simp] theorem modCand_dram (s : State) (i : Nat) (f : Candidate → Candidate) : (s.modCand i f).dram = s.dram := rfl
@[simp] theorem modCand_outbox (s : State) (i : Nat) (f : Candidate → Candidate) : (s.modCand i f).outbox = s.outbox := rfl
@[simp] theorem modCand_time (s : State) (i : Nat) (f : Candidate → Candidate) : (s.modCand i f).time = { s.time with cands := modNth f s.time.cands i } := rfl
@[simp] theorem modCand_pos (s : State) (i : Nat) (f : Candidate → Candidate) : (s.modCand i f).pos = s.pos := rfl
@[simp] theorem modCand_dowel (s : State) (i : Nat) (f : Candidate → Candidate) : (s.modCand i f).dowel = s.dowel := rfl
@[simp] theorem modCand_avail (s : State) (i : Nat) (f : Candidate → Candidate) : (s.modCand i f).avail = s.avail := rfl
@[simp] theorem modCand_power (s : State) (i : Nat) (f : Candidate → Candidate) : (s.modCand i f).power = s.power := rfl
@[simp] theorem modCand_dict (s : State) (i : Nat) (f : Candidate → Candidate) : (s.modCand i f).dict = s.dict := rfl
@[simp] theorem modCand_fabric (s : State) (i : Nat) (f : Candidate → Candidate) : (s.modCand i f).fabric = s.fabric := rfl
@[simp] theorem modCand_dsp (s : State) (i : Nat) (f : Candidate → Candidate) : (s.modCand i f).dsp = s.dsp := rfl
@[simp] theorem modCand_insp (s : State) (i : Nat) (f : Candidate → Candidate) : (s.modCand i f).insp = s.insp := rfl
@[simp] theorem modCand_winnow (s : State) (i : Nat) (f : Candidate → Candidate) : (s.modCand i f).winnow = s.winnow := rfl
@[simp] theorem modCand_ddr (s : State) (i : Nat) (f : Candidate → Candidate) : (s.modCand i f).ddr = s.ddr := rfl
@[simp] theorem modCand_xarray (s : State) (i : Nat) (f : Candidate → Candidate) : (s.modCand i f).xarray = s.xarray := rfl
@[simp] theorem modCand_crib (s : State) (i : Nat) (f : Candidate → Candidate) : (s.modCand i f).crib = s.crib := rfl
@[simp] theorem modCand_sheaf (s : State) (i : Nat) (f : Candidate → Candidate) : (s.modCand i f).sheaf = s.sheaf := rfl
@[simp] theorem modCand_reg (s : State) (i : Nat) (f : Candidate → Candidate) (idx_ sub_ : Nat) : (s.modCand i f).reg idx_ sub_ = s.reg idx_ sub_ := rfl
@[simp] theorem modCand_flag (s : State) (i : Nat) (f : Candidate → Candidate) (idx_ sub_ : Nat) : (s.modCand i f).flag idx_ sub_ = s.flag idx_ sub_ := rfl
@[simp] theorem modCand_sreg (s : State) (i : Nat) (f : Candidate → Candidate) (w_ idx_ sub_ : Nat) : (s.modCand i f).sreg w_ idx_ sub_ = s.sreg w_ idx_ sub_ := rfl
@[simp] theorem modCand_status (s : State) (i : Nat) (f : Candidate → Candidate) (idx_ : Nat) : (s.modCand i f).status idx_ = s.status idx_ := rfl

/-! ## modTout -/

@[simp] theorem modTout_pending (s : State) (k : Nat) (f : Tout → Tout) : (s.modTout k f).pending = s.pending := rfl
@[simp] theorem modTout_board (s : State) (k : Nat) (f : Tout → Tout) : (s.modTout k f).board = s.board := rfl
@[simp] theorem modTout_nv (s : State) (k : Nat) (f : Tout → Tout) : (s.modTout k f).nv = s.nv := rfl
@[simp] theorem modTout_regs (s : State) (k : Nat) (f : Tout → Tout) : (s.modTout k f).regs = s.regs := rfl
@[simp] theorem modTout_doms (s : State) (k : Nat) (f : Tout → Tout) : (s.modTout k f).doms = s.doms := rfl
@[simp] theorem modTout_drawn (s : State) (k : Nat) (f : Tout → Tout) : (s.modTout k f).drawn = s.drawn := rfl
@[simp] theorem modTout_dram (s : State) (k : Nat) (f : Tout → Tout) : (s.modTout k f).dram = s.dram := rfl
@[simp] theorem modTout_outbox (s : State) (k : Nat) (f : Tout → Tout) : (s.modTout k f).outbox = s.outbox := rfl
@[simp] theorem modTout_time (s : State) (k : Nat) (f : Tout → Tout) : (s.modTout k f).time = { s.time with touts := modNth f s.time.touts k } := rfl
@[simp] theorem modTout_pos (s : State) (k : Nat) (f : Tout → Tout) : (s.modTout k f).pos = s.pos := rfl
@[simp] theorem modTout_dowel (s : State) (k : Nat) (f : Tout → Tout) : (s.modTout k f).dowel = s.dowel := rfl
@[simp] theorem modTout_avail (s : State) (k : Nat) (f : Tout → Tout) : (s.modTout k f).avail = s.avail := rfl
@[simp] theorem modTout_power (s : State) (k : Nat) (f : Tout → Tout) : (s.modTout k f).power = s.power := rfl
@[simp] theorem modTout_dict (s : State) (k : Nat) (f : Tout → Tout) : (s.modTout k f).dict = s.dict := rfl
@[simp] theorem modTout_fabric (s : State) (k : Nat) (f : Tout → Tout) : (s.modTout k f).fabric = s.fabric := rfl
@[simp] theorem modTout_dsp (s : State) (k : Nat) (f : Tout → Tout) : (s.modTout k f).dsp = s.dsp := rfl
@[simp] theorem modTout_insp (s : State) (k : Nat) (f : Tout → Tout) : (s.modTout k f).insp = s.insp := rfl
@[simp] theorem modTout_winnow (s : State) (k : Nat) (f : Tout → Tout) : (s.modTout k f).winnow = s.winnow := rfl
@[simp] theorem modTout_ddr (s : State) (k : Nat) (f : Tout → Tout) : (s.modTout k f).ddr = s.ddr := rfl
@[simp] theorem modTout_xarray (s : State) (k : Nat) (f : Tout → Tout) : (s.modTout k f).xarray = s.xarray := rfl
@[simp] theorem modTout_crib (s : State) (k : Nat) (f : Tout → Tout) : (s.modTout k f).crib = s.crib := rfl
@[simp] theorem modTout_sheaf (s : State) (k : Nat) (f : Tout → Tout) : (s.modTout k f).sheaf = s.sheaf := rfl
@[simp] theorem modTout_reg (s : State) (k : Nat) (f : Tout → Tout) (idx_ sub_ : Nat) : (s.modTout k f).reg idx_ sub_ = s.reg idx_ sub_ := rfl
@[simp] theorem modTout_flag (s : State) (k : Nat) (f : Tout → Tout) (idx_ sub_ : Nat) : (s.modTout k f).flag idx_ sub_ = s.flag idx_ sub_ := rfl
@[simp] theorem modTout_sreg (s : State) (k : Nat) (f : Tout → Tout) (w_ idx_ sub_ : Nat) : (s.modTout k f).sreg w_ idx_ sub_ = s.sreg w_ idx_ sub_ := rfl
@[simp] theorem modTout_status (s : State) (k : Nat) (f : Tout → Tout) (idx_ : Nat) : (s.modTout k f).status idx_ = s.status idx_ := rfl

/-! ## counterZero -/

@[simp] theorem counterZero_pending (s : State) (n : Nat) : (s.counterZero n).pending = s.pending := rfl
@[simp] theorem counterZero_board (s : State) (n : Nat) : (s.counterZero n).board = s.board := rfl
@[simp] theorem counterZero_nv (s : State) (n : Nat) : (s.counterZero n).nv = s.nv := rfl
@[simp] theorem counterZero_regs (s : State) (n : Nat) : (s.counterZero n).regs = s.regs := rfl
@[simp] theorem counterZero_doms (s : State) (n : Nat) : (s.counterZero n).doms = s.doms := rfl
@[simp] theorem counterZero_drawn (s : State) (n : Nat) : (s.counterZero n).drawn = s.drawn := rfl
@[simp] theorem counterZero_dram (s : State) (n : Nat) : (s.counterZero n).dram = s.dram := rfl
@[simp] theorem counterZero_outbox (s : State) (n : Nat) : (s.counterZero n).outbox = s.outbox := rfl
@[simp] theorem counterZero_time (s : State) (n : Nat) : (s.counterZero n).time = s.time := rfl
@[simp] theorem counterZero_pos (s : State) (n : Nat) : (s.counterZero n).pos = s.pos := rfl
@[simp] theorem counterZero_dowel (s : State) (n : Nat) : (s.counterZero n).dowel = { s.dowel with counters := modNth (fun c => { c with value := 0 }) s.dowel.counters n } := rfl
@[simp] theorem counterZero_avail (s : State) (n : Nat) : (s.counterZero n).avail = s.avail := rfl
@[simp] theorem counterZero_power (s : State) (n : Nat) : (s.counterZero n).power = s.power := rfl
@[simp] theorem counterZero_dict (s : State) (n : Nat) : (s.counterZero n).dict = s.dict := rfl
@[simp] theorem counterZero_fabric (s : State) (n : Nat) : (s.counterZero n).fabric = s.fabric := rfl
@[simp] theorem counterZero_dsp (s : State) (n : Nat) : (s.counterZero n).dsp = s.dsp := rfl
@[simp] theorem counterZero_insp (s : State) (n : Nat) : (s.counterZero n).insp = s.insp := rfl
@[simp] theorem counterZero_winnow (s : State) (n : Nat) : (s.counterZero n).winnow = s.winnow := rfl
@[simp] theorem counterZero_ddr (s : State) (n : Nat) : (s.counterZero n).ddr = s.ddr := rfl
@[simp] theorem counterZero_xarray (s : State) (n : Nat) : (s.counterZero n).xarray = s.xarray := rfl
@[simp] theorem counterZero_crib (s : State) (n : Nat) : (s.counterZero n).crib = s.crib := rfl
@[simp] theorem counterZero_sheaf (s : State) (n : Nat) : (s.counterZero n).sheaf = s.sheaf := rfl
@[simp] theorem counterZero_reg (s : State) (n : Nat) (idx_ sub_ : Nat) : (s.counterZero n).reg idx_ sub_ = s.reg idx_ sub_ := rfl
@[simp] theorem counterZero_flag (s : State) (n : Nat) (idx_ sub_ : Nat) : (s.counterZero n).flag idx_ sub_ = s.flag idx_ sub_ := rfl
@[simp] theorem counterZero_sreg (s : State) (n : Nat) (w_ idx_ sub_ : Nat) : (s.counterZero n).sreg w_ idx_ sub_ = s.sreg w_ idx_ sub_ := rfl
@[simp] theorem counterZero_status (s : State) (n : Nat) (idx_ : Nat) : (s.counterZero n).status idx_ = s.status idx_ := rfl

/-! ## modAxis -/

@[simp] theorem modAxis_pending (s : State) (a : Nat) (f : Axis → Axis) : (s.modAxis a f).pending = s.pending := rfl
@[simp] theorem modAxis_board (s : State) (a : Nat) (f : Axis → Axis) : (s.modAxis a f).board = s.board := rfl
@[simp] theorem modAxis_nv (s : State) (a : Nat) (f : Axis → Axis) : (s.modAxis a f).nv = s.nv := rfl
@[simp] theorem modAxis_regs (s : State) (a : Nat) (f : Axis → Axis) : (s.modAxis a f).regs = s.regs := rfl
@[simp] theorem modAxis_doms (s : State) (a : Nat) (f : Axis → Axis) : (s.modAxis a f).doms = s.doms := rfl
@[simp] theorem modAxis_drawn (s : State) (a : Nat) (f : Axis → Axis) : (s.modAxis a f).drawn = s.drawn := rfl
@[simp] theorem modAxis_dram (s : State) (a : Nat) (f : Axis → Axis) : (s.modAxis a f).dram = s.dram := rfl
@[simp] theorem modAxis_outbox (s : State) (a : Nat) (f : Axis → Axis) : (s.modAxis a f).outbox = s.outbox := rfl
@[simp] theorem modAxis_time (s : State) (a : Nat) (f : Axis → Axis) : (s.modAxis a f).time = s.time := rfl
@[simp] theorem modAxis_pos (s : State) (a : Nat) (f : Axis → Axis) : (s.modAxis a f).pos = { s.pos with axes := modNth f s.pos.axes a } := rfl
@[simp] theorem modAxis_dowel (s : State) (a : Nat) (f : Axis → Axis) : (s.modAxis a f).dowel = s.dowel := rfl
@[simp] theorem modAxis_avail (s : State) (a : Nat) (f : Axis → Axis) : (s.modAxis a f).avail = s.avail := rfl
@[simp] theorem modAxis_power (s : State) (a : Nat) (f : Axis → Axis) : (s.modAxis a f).power = s.power := rfl
@[simp] theorem modAxis_dict (s : State) (a : Nat) (f : Axis → Axis) : (s.modAxis a f).dict = s.dict := rfl
@[simp] theorem modAxis_fabric (s : State) (a : Nat) (f : Axis → Axis) : (s.modAxis a f).fabric = s.fabric := rfl
@[simp] theorem modAxis_dsp (s : State) (a : Nat) (f : Axis → Axis) : (s.modAxis a f).dsp = s.dsp := rfl
@[simp] theorem modAxis_insp (s : State) (a : Nat) (f : Axis → Axis) : (s.modAxis a f).insp = s.insp := rfl
@[simp] theorem modAxis_winnow (s : State) (a : Nat) (f : Axis → Axis) : (s.modAxis a f).winnow = s.winnow := rfl
@[simp] theorem modAxis_ddr (s : State) (a : Nat) (f : Axis → Axis) : (s.modAxis a f).ddr = s.ddr := rfl
@[simp] theorem modAxis_xarray (s : State) (a : Nat) (f : Axis → Axis) : (s.modAxis a f).xarray = s.xarray := rfl
@[simp] theorem modAxis_crib (s : State) (a : Nat) (f : Axis → Axis) : (s.modAxis a f).crib = s.crib := rfl
@[simp] theorem modAxis_sheaf (s : State) (a : Nat) (f : Axis → Axis) : (s.modAxis a f).sheaf = s.sheaf := rfl
@[simp] theorem modAxis_reg (s : State) (a : Nat) (f : Axis → Axis) (idx_ sub_ : Nat) : (s.modAxis a f).reg idx_ sub_ = s.reg idx_ sub_ := rfl
@[simp] theorem modAxis_flag (s : State) (a : Nat) (f : Axis → Axis) (idx_ sub_ : Nat) : (s.modAxis a f).flag idx_ sub_ = s.flag idx_ sub_ := rfl
@[simp] theorem modAxis_sreg (s : State) (a : Nat) (f : Axis → Axis) (w_ idx_ sub_ : Nat) : (s.modAxis a f).sreg w_ idx_ sub_ = s.sreg w_ idx_ sub_ := rfl
@[simp] theorem modAxis_status (s : State) (a : Nat) (f : Axis → Axis) (idx_ : Nat) : (s.modAxis a f).status idx_ = s.status idx_ := rfl

/-! ## modList -/

@[simp] theorem modList_pending (s : State) (m : Nat) (f : CompareList → CompareList) : (s.modList m f).pending = s.pending := rfl
@[simp] theorem modList_board (s : State) (m : Nat) (f : CompareList → CompareList) : (s.modList m f).board = s.board := rfl
@[simp] theorem modList_nv (s : State) (m : Nat) (f : CompareList → CompareList) : (s.modList m f).nv = s.nv := rfl
@[simp] theorem modList_regs (s : State) (m : Nat) (f : CompareList → CompareList) : (s.modList m f).regs = s.regs := rfl
@[simp] theorem modList_doms (s : State) (m : Nat) (f : CompareList → CompareList) : (s.modList m f).doms = s.doms := rfl
@[simp] theorem modList_drawn (s : State) (m : Nat) (f : CompareList → CompareList) : (s.modList m f).drawn = s.drawn := rfl
@[simp] theorem modList_dram (s : State) (m : Nat) (f : CompareList → CompareList) : (s.modList m f).dram = s.dram := rfl
@[simp] theorem modList_outbox (s : State) (m : Nat) (f : CompareList → CompareList) : (s.modList m f).outbox = s.outbox := rfl
@[simp] theorem modList_time (s : State) (m : Nat) (f : CompareList → CompareList) : (s.modList m f).time = s.time := rfl
@[simp] theorem modList_pos (s : State) (m : Nat) (f : CompareList → CompareList) : (s.modList m f).pos = { s.pos with lists := modNth f s.pos.lists m } := rfl
@[simp] theorem modList_dowel (s : State) (m : Nat) (f : CompareList → CompareList) : (s.modList m f).dowel = s.dowel := rfl
@[simp] theorem modList_avail (s : State) (m : Nat) (f : CompareList → CompareList) : (s.modList m f).avail = s.avail := rfl
@[simp] theorem modList_power (s : State) (m : Nat) (f : CompareList → CompareList) : (s.modList m f).power = s.power := rfl
@[simp] theorem modList_dict (s : State) (m : Nat) (f : CompareList → CompareList) : (s.modList m f).dict = s.dict := rfl
@[simp] theorem modList_fabric (s : State) (m : Nat) (f : CompareList → CompareList) : (s.modList m f).fabric = s.fabric := rfl
@[simp] theorem modList_dsp (s : State) (m : Nat) (f : CompareList → CompareList) : (s.modList m f).dsp = s.dsp := rfl
@[simp] theorem modList_insp (s : State) (m : Nat) (f : CompareList → CompareList) : (s.modList m f).insp = s.insp := rfl
@[simp] theorem modList_winnow (s : State) (m : Nat) (f : CompareList → CompareList) : (s.modList m f).winnow = s.winnow := rfl
@[simp] theorem modList_ddr (s : State) (m : Nat) (f : CompareList → CompareList) : (s.modList m f).ddr = s.ddr := rfl
@[simp] theorem modList_xarray (s : State) (m : Nat) (f : CompareList → CompareList) : (s.modList m f).xarray = s.xarray := rfl
@[simp] theorem modList_crib (s : State) (m : Nat) (f : CompareList → CompareList) : (s.modList m f).crib = s.crib := rfl
@[simp] theorem modList_sheaf (s : State) (m : Nat) (f : CompareList → CompareList) : (s.modList m f).sheaf = s.sheaf := rfl
@[simp] theorem modList_reg (s : State) (m : Nat) (f : CompareList → CompareList) (idx_ sub_ : Nat) : (s.modList m f).reg idx_ sub_ = s.reg idx_ sub_ := rfl
@[simp] theorem modList_flag (s : State) (m : Nat) (f : CompareList → CompareList) (idx_ sub_ : Nat) : (s.modList m f).flag idx_ sub_ = s.flag idx_ sub_ := rfl
@[simp] theorem modList_sreg (s : State) (m : Nat) (f : CompareList → CompareList) (w_ idx_ sub_ : Nat) : (s.modList m f).sreg w_ idx_ sub_ = s.sreg w_ idx_ sub_ := rfl
@[simp] theorem modList_status (s : State) (m : Nat) (f : CompareList → CompareList) (idx_ : Nat) : (s.modList m f).status idx_ = s.status idx_ := rfl

/-! ## modGen -/

@[simp] theorem modGen_pending (s : State) (f : LineGen → LineGen) : (s.modGen f).pending = s.pending := rfl
@[simp] theorem modGen_board (s : State) (f : LineGen → LineGen) : (s.modGen f).board = s.board := rfl
@[simp] theorem modGen_nv (s : State) (f : LineGen → LineGen) : (s.modGen f).nv = s.nv := rfl
@[simp] theorem modGen_regs (s : State) (f : LineGen → LineGen) : (s.modGen f).regs = s.regs := rfl
@[simp] theorem modGen_doms (s : State) (f : LineGen → LineGen) : (s.modGen f).doms = s.doms := rfl
@[simp] theorem modGen_drawn (s : State) (f : LineGen → LineGen) : (s.modGen f).drawn = s.drawn := rfl
@[simp] theorem modGen_dram (s : State) (f : LineGen → LineGen) : (s.modGen f).dram = s.dram := rfl
@[simp] theorem modGen_outbox (s : State) (f : LineGen → LineGen) : (s.modGen f).outbox = s.outbox := rfl
@[simp] theorem modGen_time (s : State) (f : LineGen → LineGen) : (s.modGen f).time = s.time := rfl
@[simp] theorem modGen_pos (s : State) (f : LineGen → LineGen) : (s.modGen f).pos = { s.pos with gen := f s.pos.gen } := rfl
@[simp] theorem modGen_dowel (s : State) (f : LineGen → LineGen) : (s.modGen f).dowel = s.dowel := rfl
@[simp] theorem modGen_avail (s : State) (f : LineGen → LineGen) : (s.modGen f).avail = s.avail := rfl
@[simp] theorem modGen_power (s : State) (f : LineGen → LineGen) : (s.modGen f).power = s.power := rfl
@[simp] theorem modGen_dict (s : State) (f : LineGen → LineGen) : (s.modGen f).dict = s.dict := rfl
@[simp] theorem modGen_fabric (s : State) (f : LineGen → LineGen) : (s.modGen f).fabric = s.fabric := rfl
@[simp] theorem modGen_dsp (s : State) (f : LineGen → LineGen) : (s.modGen f).dsp = s.dsp := rfl
@[simp] theorem modGen_insp (s : State) (f : LineGen → LineGen) : (s.modGen f).insp = s.insp := rfl
@[simp] theorem modGen_winnow (s : State) (f : LineGen → LineGen) : (s.modGen f).winnow = s.winnow := rfl
@[simp] theorem modGen_ddr (s : State) (f : LineGen → LineGen) : (s.modGen f).ddr = s.ddr := rfl
@[simp] theorem modGen_xarray (s : State) (f : LineGen → LineGen) : (s.modGen f).xarray = s.xarray := rfl
@[simp] theorem modGen_crib (s : State) (f : LineGen → LineGen) : (s.modGen f).crib = s.crib := rfl
@[simp] theorem modGen_sheaf (s : State) (f : LineGen → LineGen) : (s.modGen f).sheaf = s.sheaf := rfl
@[simp] theorem modGen_reg (s : State) (f : LineGen → LineGen) (idx_ sub_ : Nat) : (s.modGen f).reg idx_ sub_ = s.reg idx_ sub_ := rfl
@[simp] theorem modGen_flag (s : State) (f : LineGen → LineGen) (idx_ sub_ : Nat) : (s.modGen f).flag idx_ sub_ = s.flag idx_ sub_ := rfl
@[simp] theorem modGen_sreg (s : State) (f : LineGen → LineGen) (w_ idx_ sub_ : Nat) : (s.modGen f).sreg w_ idx_ sub_ = s.sreg w_ idx_ sub_ := rfl
@[simp] theorem modGen_status (s : State) (f : LineGen → LineGen) (idx_ : Nat) : (s.modGen f).status idx_ = s.status idx_ := rfl

/-! ## setDdr -/

@[simp] theorem setDdr_pending (s : State) (d : DramState) : (s.setDdr d).pending = s.pending := rfl
@[simp] theorem setDdr_board (s : State) (d : DramState) : (s.setDdr d).board = s.board := rfl
@[simp] theorem setDdr_nv (s : State) (d : DramState) : (s.setDdr d).nv = s.nv := rfl
@[simp] theorem setDdr_regs (s : State) (d : DramState) : (s.setDdr d).regs = s.regs := rfl
@[simp] theorem setDdr_doms (s : State) (d : DramState) : (s.setDdr d).doms = s.doms := rfl
@[simp] theorem setDdr_drawn (s : State) (d : DramState) : (s.setDdr d).drawn = s.drawn := rfl
@[simp] theorem setDdr_dram (s : State) (d : DramState) : (s.setDdr d).dram = s.dram := rfl
@[simp] theorem setDdr_outbox (s : State) (d : DramState) : (s.setDdr d).outbox = s.outbox := rfl
@[simp] theorem setDdr_time (s : State) (d : DramState) : (s.setDdr d).time = s.time := rfl
@[simp] theorem setDdr_pos (s : State) (d : DramState) : (s.setDdr d).pos = s.pos := rfl
@[simp] theorem setDdr_dowel (s : State) (d : DramState) : (s.setDdr d).dowel = s.dowel := rfl
@[simp] theorem setDdr_avail (s : State) (d : DramState) : (s.setDdr d).avail = s.avail := rfl
@[simp] theorem setDdr_power (s : State) (d : DramState) : (s.setDdr d).power = s.power := rfl
@[simp] theorem setDdr_dict (s : State) (d : DramState) : (s.setDdr d).dict = s.dict := rfl
@[simp] theorem setDdr_fabric (s : State) (d : DramState) : (s.setDdr d).fabric = s.fabric := rfl
@[simp] theorem setDdr_dsp (s : State) (d : DramState) : (s.setDdr d).dsp = s.dsp := rfl
@[simp] theorem setDdr_insp (s : State) (d : DramState) : (s.setDdr d).insp = s.insp := rfl
@[simp] theorem setDdr_winnow (s : State) (d : DramState) : (s.setDdr d).winnow = s.winnow := rfl
@[simp] theorem setDdr_ddr (s : State) (d : DramState) : (s.setDdr d).ddr = d := rfl
@[simp] theorem setDdr_xarray (s : State) (d : DramState) : (s.setDdr d).xarray = s.xarray := rfl
@[simp] theorem setDdr_crib (s : State) (d : DramState) : (s.setDdr d).crib = s.crib := rfl
@[simp] theorem setDdr_sheaf (s : State) (d : DramState) : (s.setDdr d).sheaf = s.sheaf := rfl
@[simp] theorem setDdr_reg (s : State) (d : DramState) (idx_ sub_ : Nat) : (s.setDdr d).reg idx_ sub_ = s.reg idx_ sub_ := rfl
@[simp] theorem setDdr_flag (s : State) (d : DramState) (idx_ sub_ : Nat) : (s.setDdr d).flag idx_ sub_ = s.flag idx_ sub_ := rfl
@[simp] theorem setDdr_sreg (s : State) (d : DramState) (w_ idx_ sub_ : Nat) : (s.setDdr d).sreg w_ idx_ sub_ = s.sreg w_ idx_ sub_ := rfl
@[simp] theorem setDdr_status (s : State) (d : DramState) (idx_ : Nat) : (s.setDdr d).status idx_ = s.status idx_ := rfl

/-! ## setRx -/

@[simp] theorem setRx_pending (s : State) (n : Nat) (x : RxLane) : (s.setRx n x).pending = s.pending := rfl
@[simp] theorem setRx_board (s : State) (n : Nat) (x : RxLane) : (s.setRx n x).board = s.board := rfl
@[simp] theorem setRx_nv (s : State) (n : Nat) (x : RxLane) : (s.setRx n x).nv = s.nv := rfl
@[simp] theorem setRx_regs (s : State) (n : Nat) (x : RxLane) : (s.setRx n x).regs = s.regs := rfl
@[simp] theorem setRx_doms (s : State) (n : Nat) (x : RxLane) : (s.setRx n x).doms = s.doms := rfl
@[simp] theorem setRx_drawn (s : State) (n : Nat) (x : RxLane) : (s.setRx n x).drawn = s.drawn := rfl
@[simp] theorem setRx_dram (s : State) (n : Nat) (x : RxLane) : (s.setRx n x).dram = s.dram := rfl
@[simp] theorem setRx_outbox (s : State) (n : Nat) (x : RxLane) : (s.setRx n x).outbox = s.outbox := rfl
@[simp] theorem setRx_time (s : State) (n : Nat) (x : RxLane) : (s.setRx n x).time = s.time := rfl
@[simp] theorem setRx_pos (s : State) (n : Nat) (x : RxLane) : (s.setRx n x).pos = s.pos := rfl
@[simp] theorem setRx_dowel (s : State) (n : Nat) (x : RxLane) : (s.setRx n x).dowel = s.dowel := rfl
@[simp] theorem setRx_avail (s : State) (n : Nat) (x : RxLane) : (s.setRx n x).avail = s.avail := rfl
@[simp] theorem setRx_power (s : State) (n : Nat) (x : RxLane) : (s.setRx n x).power = s.power := rfl
@[simp] theorem setRx_dict (s : State) (n : Nat) (x : RxLane) : (s.setRx n x).dict = s.dict := rfl
@[simp] theorem setRx_fabric (s : State) (n : Nat) (x : RxLane) : (s.setRx n x).fabric = s.fabric := rfl
@[simp] theorem setRx_dsp (s : State) (n : Nat) (x : RxLane) : (s.setRx n x).dsp = s.dsp := rfl
@[simp] theorem setRx_insp (s : State) (n : Nat) (x : RxLane) : (s.setRx n x).insp = s.insp := rfl
@[simp] theorem setRx_winnow (s : State) (n : Nat) (x : RxLane) : (s.setRx n x).winnow = s.winnow := rfl
@[simp] theorem setRx_ddr (s : State) (n : Nat) (x : RxLane) : (s.setRx n x).ddr = s.ddr := rfl
@[simp] theorem setRx_xarray (s : State) (n : Nat) (x : RxLane) : (s.setRx n x).xarray = s.xarray := rfl
@[simp] theorem setRx_crib (s : State) (n : Nat) (x : RxLane) : (s.setRx n x).crib = s.crib := rfl
@[simp] theorem setRx_sheaf (s : State) (n : Nat) (x : RxLane) : (s.setRx n x).sheaf = { s.sheaf with rx := insertKey s.sheaf.rx n x } := rfl
@[simp] theorem setRx_reg (s : State) (n : Nat) (x : RxLane) (idx_ sub_ : Nat) : (s.setRx n x).reg idx_ sub_ = s.reg idx_ sub_ := rfl
@[simp] theorem setRx_flag (s : State) (n : Nat) (x : RxLane) (idx_ sub_ : Nat) : (s.setRx n x).flag idx_ sub_ = s.flag idx_ sub_ := rfl
@[simp] theorem setRx_sreg (s : State) (n : Nat) (x : RxLane) (w_ idx_ sub_ : Nat) : (s.setRx n x).sreg w_ idx_ sub_ = s.sreg w_ idx_ sub_ := rfl
@[simp] theorem setRx_status (s : State) (n : Nat) (x : RxLane) (idx_ : Nat) : (s.setRx n x).status idx_ = s.status idx_ := rfl

/-! ## setTx -/

@[simp] theorem setTx_pending (s : State) (n : Nat) (x : TxLane) : (s.setTx n x).pending = s.pending := rfl
@[simp] theorem setTx_board (s : State) (n : Nat) (x : TxLane) : (s.setTx n x).board = s.board := rfl
@[simp] theorem setTx_nv (s : State) (n : Nat) (x : TxLane) : (s.setTx n x).nv = s.nv := rfl
@[simp] theorem setTx_regs (s : State) (n : Nat) (x : TxLane) : (s.setTx n x).regs = s.regs := rfl
@[simp] theorem setTx_doms (s : State) (n : Nat) (x : TxLane) : (s.setTx n x).doms = s.doms := rfl
@[simp] theorem setTx_drawn (s : State) (n : Nat) (x : TxLane) : (s.setTx n x).drawn = s.drawn := rfl
@[simp] theorem setTx_dram (s : State) (n : Nat) (x : TxLane) : (s.setTx n x).dram = s.dram := rfl
@[simp] theorem setTx_outbox (s : State) (n : Nat) (x : TxLane) : (s.setTx n x).outbox = s.outbox := rfl
@[simp] theorem setTx_time (s : State) (n : Nat) (x : TxLane) : (s.setTx n x).time = s.time := rfl
@[simp] theorem setTx_pos (s : State) (n : Nat) (x : TxLane) : (s.setTx n x).pos = s.pos := rfl
@[simp] theorem setTx_dowel (s : State) (n : Nat) (x : TxLane) : (s.setTx n x).dowel = s.dowel := rfl
@[simp] theorem setTx_avail (s : State) (n : Nat) (x : TxLane) : (s.setTx n x).avail = s.avail := rfl
@[simp] theorem setTx_power (s : State) (n : Nat) (x : TxLane) : (s.setTx n x).power = s.power := rfl
@[simp] theorem setTx_dict (s : State) (n : Nat) (x : TxLane) : (s.setTx n x).dict = s.dict := rfl
@[simp] theorem setTx_fabric (s : State) (n : Nat) (x : TxLane) : (s.setTx n x).fabric = s.fabric := rfl
@[simp] theorem setTx_dsp (s : State) (n : Nat) (x : TxLane) : (s.setTx n x).dsp = s.dsp := rfl
@[simp] theorem setTx_insp (s : State) (n : Nat) (x : TxLane) : (s.setTx n x).insp = s.insp := rfl
@[simp] theorem setTx_winnow (s : State) (n : Nat) (x : TxLane) : (s.setTx n x).winnow = s.winnow := rfl
@[simp] theorem setTx_ddr (s : State) (n : Nat) (x : TxLane) : (s.setTx n x).ddr = s.ddr := rfl
@[simp] theorem setTx_xarray (s : State) (n : Nat) (x : TxLane) : (s.setTx n x).xarray = s.xarray := rfl
@[simp] theorem setTx_crib (s : State) (n : Nat) (x : TxLane) : (s.setTx n x).crib = s.crib := rfl
@[simp] theorem setTx_sheaf (s : State) (n : Nat) (x : TxLane) : (s.setTx n x).sheaf = { s.sheaf with tx := insertKey s.sheaf.tx n x } := rfl
@[simp] theorem setTx_reg (s : State) (n : Nat) (x : TxLane) (idx_ sub_ : Nat) : (s.setTx n x).reg idx_ sub_ = s.reg idx_ sub_ := rfl
@[simp] theorem setTx_flag (s : State) (n : Nat) (x : TxLane) (idx_ sub_ : Nat) : (s.setTx n x).flag idx_ sub_ = s.flag idx_ sub_ := rfl
@[simp] theorem setTx_sreg (s : State) (n : Nat) (x : TxLane) (w_ idx_ sub_ : Nat) : (s.setTx n x).sreg w_ idx_ sub_ = s.sreg w_ idx_ sub_ := rfl
@[simp] theorem setTx_status (s : State) (n : Nat) (x : TxLane) (idx_ : Nat) : (s.setTx n x).status idx_ = s.status idx_ := rfl

/-! ## setGroup -/

@[simp] theorem setGroup_pending (s : State) (idx : Nat) (x : LinkGroup) : (s.setGroup idx x).pending = s.pending := rfl
@[simp] theorem setGroup_board (s : State) (idx : Nat) (x : LinkGroup) : (s.setGroup idx x).board = s.board := rfl
@[simp] theorem setGroup_nv (s : State) (idx : Nat) (x : LinkGroup) : (s.setGroup idx x).nv = s.nv := rfl
@[simp] theorem setGroup_regs (s : State) (idx : Nat) (x : LinkGroup) : (s.setGroup idx x).regs = s.regs := rfl
@[simp] theorem setGroup_doms (s : State) (idx : Nat) (x : LinkGroup) : (s.setGroup idx x).doms = s.doms := rfl
@[simp] theorem setGroup_drawn (s : State) (idx : Nat) (x : LinkGroup) : (s.setGroup idx x).drawn = s.drawn := rfl
@[simp] theorem setGroup_dram (s : State) (idx : Nat) (x : LinkGroup) : (s.setGroup idx x).dram = s.dram := rfl
@[simp] theorem setGroup_outbox (s : State) (idx : Nat) (x : LinkGroup) : (s.setGroup idx x).outbox = s.outbox := rfl
@[simp] theorem setGroup_time (s : State) (idx : Nat) (x : LinkGroup) : (s.setGroup idx x).time = s.time := rfl
@[simp] theorem setGroup_pos (s : State) (idx : Nat) (x : LinkGroup) : (s.setGroup idx x).pos = s.pos := rfl
@[simp] theorem setGroup_dowel (s : State) (idx : Nat) (x : LinkGroup) : (s.setGroup idx x).dowel = s.dowel := rfl
@[simp] theorem setGroup_avail (s : State) (idx : Nat) (x : LinkGroup) : (s.setGroup idx x).avail = s.avail := rfl
@[simp] theorem setGroup_power (s : State) (idx : Nat) (x : LinkGroup) : (s.setGroup idx x).power = s.power := rfl
@[simp] theorem setGroup_dict (s : State) (idx : Nat) (x : LinkGroup) : (s.setGroup idx x).dict = s.dict := rfl
@[simp] theorem setGroup_fabric (s : State) (idx : Nat) (x : LinkGroup) : (s.setGroup idx x).fabric = s.fabric := rfl
@[simp] theorem setGroup_dsp (s : State) (idx : Nat) (x : LinkGroup) : (s.setGroup idx x).dsp = s.dsp := rfl
@[simp] theorem setGroup_insp (s : State) (idx : Nat) (x : LinkGroup) : (s.setGroup idx x).insp = s.insp := rfl
@[simp] theorem setGroup_winnow (s : State) (idx : Nat) (x : LinkGroup) : (s.setGroup idx x).winnow = s.winnow := rfl
@[simp] theorem setGroup_ddr (s : State) (idx : Nat) (x : LinkGroup) : (s.setGroup idx x).ddr = s.ddr := rfl
@[simp] theorem setGroup_xarray (s : State) (idx : Nat) (x : LinkGroup) : (s.setGroup idx x).xarray = s.xarray := rfl
@[simp] theorem setGroup_crib (s : State) (idx : Nat) (x : LinkGroup) : (s.setGroup idx x).crib = s.crib := rfl
@[simp] theorem setGroup_sheaf (s : State) (idx : Nat) (x : LinkGroup) : (s.setGroup idx x).sheaf = { s.sheaf with groups := insertKey s.sheaf.groups idx x } := rfl
@[simp] theorem setGroup_reg (s : State) (idx : Nat) (x : LinkGroup) (idx_ sub_ : Nat) : (s.setGroup idx x).reg idx_ sub_ = s.reg idx_ sub_ := rfl
@[simp] theorem setGroup_flag (s : State) (idx : Nat) (x : LinkGroup) (idx_ sub_ : Nat) : (s.setGroup idx x).flag idx_ sub_ = s.flag idx_ sub_ := rfl
@[simp] theorem setGroup_sreg (s : State) (idx : Nat) (x : LinkGroup) (w_ idx_ sub_ : Nat) : (s.setGroup idx x).sreg w_ idx_ sub_ = s.sreg w_ idx_ sub_ := rfl
@[simp] theorem setGroup_status (s : State) (idx : Nat) (x : LinkGroup) (idx_ : Nat) : (s.setGroup idx x).status idx_ = s.status idx_ := rfl

/-! ## setStream -/

@[simp] theorem setStream_pending (s : State) (k : Nat) (x : OutStream) : (s.setStream k x).pending = s.pending := rfl
@[simp] theorem setStream_board (s : State) (k : Nat) (x : OutStream) : (s.setStream k x).board = s.board := rfl
@[simp] theorem setStream_nv (s : State) (k : Nat) (x : OutStream) : (s.setStream k x).nv = s.nv := rfl
@[simp] theorem setStream_regs (s : State) (k : Nat) (x : OutStream) : (s.setStream k x).regs = insertKey s.regs (key (0x2700 + k) 4) ((x.limit + 2 ^ 32 - x.sent) % 2 ^ 32) := rfl
@[simp] theorem setStream_doms (s : State) (k : Nat) (x : OutStream) : (s.setStream k x).doms = s.doms := rfl
@[simp] theorem setStream_drawn (s : State) (k : Nat) (x : OutStream) : (s.setStream k x).drawn = s.drawn := rfl
@[simp] theorem setStream_dram (s : State) (k : Nat) (x : OutStream) : (s.setStream k x).dram = s.dram := rfl
@[simp] theorem setStream_outbox (s : State) (k : Nat) (x : OutStream) : (s.setStream k x).outbox = s.outbox := rfl
@[simp] theorem setStream_time (s : State) (k : Nat) (x : OutStream) : (s.setStream k x).time = s.time := rfl
@[simp] theorem setStream_pos (s : State) (k : Nat) (x : OutStream) : (s.setStream k x).pos = s.pos := rfl
@[simp] theorem setStream_dowel (s : State) (k : Nat) (x : OutStream) : (s.setStream k x).dowel = s.dowel := rfl
@[simp] theorem setStream_avail (s : State) (k : Nat) (x : OutStream) : (s.setStream k x).avail = s.avail := rfl
@[simp] theorem setStream_power (s : State) (k : Nat) (x : OutStream) : (s.setStream k x).power = s.power := rfl
@[simp] theorem setStream_dict (s : State) (k : Nat) (x : OutStream) : (s.setStream k x).dict = s.dict := rfl
@[simp] theorem setStream_fabric (s : State) (k : Nat) (x : OutStream) : (s.setStream k x).fabric = s.fabric := rfl
@[simp] theorem setStream_dsp (s : State) (k : Nat) (x : OutStream) : (s.setStream k x).dsp = s.dsp := rfl
@[simp] theorem setStream_insp (s : State) (k : Nat) (x : OutStream) : (s.setStream k x).insp = s.insp := rfl
@[simp] theorem setStream_winnow (s : State) (k : Nat) (x : OutStream) : (s.setStream k x).winnow = s.winnow := rfl
@[simp] theorem setStream_ddr (s : State) (k : Nat) (x : OutStream) : (s.setStream k x).ddr = s.ddr := rfl
@[simp] theorem setStream_xarray (s : State) (k : Nat) (x : OutStream) : (s.setStream k x).xarray = s.xarray := rfl
@[simp] theorem setStream_crib (s : State) (k : Nat) (x : OutStream) : (s.setStream k x).crib = s.crib := rfl
@[simp] theorem setStream_sheaf (s : State) (k : Nat) (x : OutStream) : (s.setStream k x).sheaf = { s.sheaf with streams := insertKey s.sheaf.streams k x } := rfl

/-! ## pushEvent -/

@[simp] theorem pushEvent_pending (s : State) (e : Event) : (s.pushEvent e).pending = s.pending := rfl
@[simp] theorem pushEvent_board (s : State) (e : Event) : (s.pushEvent e).board = s.board := rfl
@[simp] theorem pushEvent_nv (s : State) (e : Event) : (s.pushEvent e).nv = s.nv := rfl
@[simp] theorem pushEvent_regs (s : State) (e : Event) : (s.pushEvent e).regs = s.regs := rfl
@[simp] theorem pushEvent_doms (s : State) (e : Event) : (s.pushEvent e).doms = s.doms := rfl
@[simp] theorem pushEvent_drawn (s : State) (e : Event) : (s.pushEvent e).drawn = s.drawn := rfl
@[simp] theorem pushEvent_dram (s : State) (e : Event) : (s.pushEvent e).dram = s.dram := rfl
@[simp] theorem pushEvent_outbox (s : State) (e : Event) : (s.pushEvent e).outbox = s.outbox := rfl
@[simp] theorem pushEvent_time (s : State) (e : Event) : (s.pushEvent e).time = s.time := rfl
@[simp] theorem pushEvent_pos (s : State) (e : Event) : (s.pushEvent e).pos = s.pos := rfl
@[simp] theorem pushEvent_dowel (s : State) (e : Event) : (s.pushEvent e).dowel = { s.dowel with fired := s.dowel.fired ++ [e] } := rfl
@[simp] theorem pushEvent_avail (s : State) (e : Event) : (s.pushEvent e).avail = s.avail := rfl
@[simp] theorem pushEvent_power (s : State) (e : Event) : (s.pushEvent e).power = s.power := rfl
@[simp] theorem pushEvent_dict (s : State) (e : Event) : (s.pushEvent e).dict = s.dict := rfl
@[simp] theorem pushEvent_fabric (s : State) (e : Event) : (s.pushEvent e).fabric = s.fabric := rfl
@[simp] theorem pushEvent_dsp (s : State) (e : Event) : (s.pushEvent e).dsp = s.dsp := rfl
@[simp] theorem pushEvent_insp (s : State) (e : Event) : (s.pushEvent e).insp = s.insp := rfl
@[simp] theorem pushEvent_winnow (s : State) (e : Event) : (s.pushEvent e).winnow = s.winnow := rfl
@[simp] theorem pushEvent_ddr (s : State) (e : Event) : (s.pushEvent e).ddr = s.ddr := rfl
@[simp] theorem pushEvent_xarray (s : State) (e : Event) : (s.pushEvent e).xarray = s.xarray := rfl
@[simp] theorem pushEvent_crib (s : State) (e : Event) : (s.pushEvent e).crib = s.crib := rfl
@[simp] theorem pushEvent_sheaf (s : State) (e : Event) : (s.pushEvent e).sheaf = s.sheaf := rfl
@[simp] theorem pushEvent_reg (s : State) (e : Event) (idx_ sub_ : Nat) : (s.pushEvent e).reg idx_ sub_ = s.reg idx_ sub_ := rfl
@[simp] theorem pushEvent_flag (s : State) (e : Event) (idx_ sub_ : Nat) : (s.pushEvent e).flag idx_ sub_ = s.flag idx_ sub_ := rfl
@[simp] theorem pushEvent_sreg (s : State) (e : Event) (w_ idx_ sub_ : Nat) : (s.pushEvent e).sreg w_ idx_ sub_ = s.sreg w_ idx_ sub_ := rfl
@[simp] theorem pushEvent_status (s : State) (e : Event) (idx_ : Nat) : (s.pushEvent e).status idx_ = s.status idx_ := rfl

/-! ## setSnapDone -/

@[simp] theorem setSnapDone_pending (s : State) (g : Nat) (b : Bool) : (s.setSnapDone g b).pending = s.pending := rfl
@[simp] theorem setSnapDone_board (s : State) (g : Nat) (b : Bool) : (s.setSnapDone g b).board = s.board := rfl
@[simp] theorem setSnapDone_nv (s : State) (g : Nat) (b : Bool) : (s.setSnapDone g b).nv = s.nv := rfl
@[simp] theorem setSnapDone_regs (s : State) (g : Nat) (b : Bool) : (s.setSnapDone g b).regs = s.regs := rfl
@[simp] theorem setSnapDone_doms (s : State) (g : Nat) (b : Bool) : (s.setSnapDone g b).doms = s.doms := rfl
@[simp] theorem setSnapDone_drawn (s : State) (g : Nat) (b : Bool) : (s.setSnapDone g b).drawn = s.drawn := rfl
@[simp] theorem setSnapDone_dram (s : State) (g : Nat) (b : Bool) : (s.setSnapDone g b).dram = s.dram := rfl
@[simp] theorem setSnapDone_outbox (s : State) (g : Nat) (b : Bool) : (s.setSnapDone g b).outbox = s.outbox := rfl
@[simp] theorem setSnapDone_time (s : State) (g : Nat) (b : Bool) : (s.setSnapDone g b).time = s.time := rfl
@[simp] theorem setSnapDone_pos (s : State) (g : Nat) (b : Bool) : (s.setSnapDone g b).pos = s.pos := rfl
@[simp] theorem setSnapDone_dowel (s : State) (g : Nat) (b : Bool) : (s.setSnapDone g b).dowel = { s.dowel with snapDone := modNth (fun _ => b) s.dowel.snapDone g } := rfl
@[simp] theorem setSnapDone_avail (s : State) (g : Nat) (b : Bool) : (s.setSnapDone g b).avail = s.avail := rfl
@[simp] theorem setSnapDone_power (s : State) (g : Nat) (b : Bool) : (s.setSnapDone g b).power = s.power := rfl
@[simp] theorem setSnapDone_dict (s : State) (g : Nat) (b : Bool) : (s.setSnapDone g b).dict = s.dict := rfl
@[simp] theorem setSnapDone_fabric (s : State) (g : Nat) (b : Bool) : (s.setSnapDone g b).fabric = s.fabric := rfl
@[simp] theorem setSnapDone_dsp (s : State) (g : Nat) (b : Bool) : (s.setSnapDone g b).dsp = s.dsp := rfl
@[simp] theorem setSnapDone_insp (s : State) (g : Nat) (b : Bool) : (s.setSnapDone g b).insp = s.insp := rfl
@[simp] theorem setSnapDone_winnow (s : State) (g : Nat) (b : Bool) : (s.setSnapDone g b).winnow = s.winnow := rfl
@[simp] theorem setSnapDone_ddr (s : State) (g : Nat) (b : Bool) : (s.setSnapDone g b).ddr = s.ddr := rfl
@[simp] theorem setSnapDone_xarray (s : State) (g : Nat) (b : Bool) : (s.setSnapDone g b).xarray = s.xarray := rfl
@[simp] theorem setSnapDone_crib (s : State) (g : Nat) (b : Bool) : (s.setSnapDone g b).crib = s.crib := rfl
@[simp] theorem setSnapDone_sheaf (s : State) (g : Nat) (b : Bool) : (s.setSnapDone g b).sheaf = s.sheaf := rfl
@[simp] theorem setSnapDone_reg (s : State) (g : Nat) (b : Bool) (idx_ sub_ : Nat) : (s.setSnapDone g b).reg idx_ sub_ = s.reg idx_ sub_ := rfl
@[simp] theorem setSnapDone_flag (s : State) (g : Nat) (b : Bool) (idx_ sub_ : Nat) : (s.setSnapDone g b).flag idx_ sub_ = s.flag idx_ sub_ := rfl
@[simp] theorem setSnapDone_sreg (s : State) (g : Nat) (b : Bool) (w_ idx_ sub_ : Nat) : (s.setSnapDone g b).sreg w_ idx_ sub_ = s.sreg w_ idx_ sub_ := rfl
@[simp] theorem setSnapDone_status (s : State) (g : Nat) (b : Bool) (idx_ : Nat) : (s.setSnapDone g b).status idx_ = s.status idx_ := rfl

/-! ## modWin -/

@[simp] theorem modWin_pending (s : State) (c : Nat) (f : WinChannel → WinChannel) : (s.modWin c f).pending = s.pending := rfl
@[simp] theorem modWin_board (s : State) (c : Nat) (f : WinChannel → WinChannel) : (s.modWin c f).board = s.board := rfl
@[simp] theorem modWin_nv (s : State) (c : Nat) (f : WinChannel → WinChannel) : (s.modWin c f).nv = s.nv := rfl
@[simp] theorem modWin_regs (s : State) (c : Nat) (f : WinChannel → WinChannel) : (s.modWin c f).regs = s.regs := rfl
@[simp] theorem modWin_doms (s : State) (c : Nat) (f : WinChannel → WinChannel) : (s.modWin c f).doms = s.doms := rfl
@[simp] theorem modWin_drawn (s : State) (c : Nat) (f : WinChannel → WinChannel) : (s.modWin c f).drawn = s.drawn := rfl
@[simp] theorem modWin_dram (s : State) (c : Nat) (f : WinChannel → WinChannel) : (s.modWin c f).dram = s.dram := rfl
@[simp] theorem modWin_outbox (s : State) (c : Nat) (f : WinChannel → WinChannel) : (s.modWin c f).outbox = s.outbox := rfl
@[simp] theorem modWin_time (s : State) (c : Nat) (f : WinChannel → WinChannel) : (s.modWin c f).time = s.time := rfl
@[simp] theorem modWin_pos (s : State) (c : Nat) (f : WinChannel → WinChannel) : (s.modWin c f).pos = s.pos := rfl
@[simp] theorem modWin_dowel (s : State) (c : Nat) (f : WinChannel → WinChannel) : (s.modWin c f).dowel = s.dowel := rfl
@[simp] theorem modWin_avail (s : State) (c : Nat) (f : WinChannel → WinChannel) : (s.modWin c f).avail = s.avail := rfl
@[simp] theorem modWin_power (s : State) (c : Nat) (f : WinChannel → WinChannel) : (s.modWin c f).power = s.power := rfl
@[simp] theorem modWin_dict (s : State) (c : Nat) (f : WinChannel → WinChannel) : (s.modWin c f).dict = s.dict := rfl
@[simp] theorem modWin_fabric (s : State) (c : Nat) (f : WinChannel → WinChannel) : (s.modWin c f).fabric = s.fabric := rfl
@[simp] theorem modWin_dsp (s : State) (c : Nat) (f : WinChannel → WinChannel) : (s.modWin c f).dsp = s.dsp := rfl
@[simp] theorem modWin_insp (s : State) (c : Nat) (f : WinChannel → WinChannel) : (s.modWin c f).insp = s.insp := rfl
@[simp] theorem modWin_winnow (s : State) (c : Nat) (f : WinChannel → WinChannel) : (s.modWin c f).winnow = { s.winnow with channels := modNth f s.winnow.channels c } := rfl
@[simp] theorem modWin_ddr (s : State) (c : Nat) (f : WinChannel → WinChannel) : (s.modWin c f).ddr = s.ddr := rfl
@[simp] theorem modWin_xarray (s : State) (c : Nat) (f : WinChannel → WinChannel) : (s.modWin c f).xarray = s.xarray := rfl
@[simp] theorem modWin_crib (s : State) (c : Nat) (f : WinChannel → WinChannel) : (s.modWin c f).crib = s.crib := rfl
@[simp] theorem modWin_sheaf (s : State) (c : Nat) (f : WinChannel → WinChannel) : (s.modWin c f).sheaf = s.sheaf := rfl
@[simp] theorem modWin_reg (s : State) (c : Nat) (f : WinChannel → WinChannel) (idx_ sub_ : Nat) : (s.modWin c f).reg idx_ sub_ = s.reg idx_ sub_ := rfl
@[simp] theorem modWin_flag (s : State) (c : Nat) (f : WinChannel → WinChannel) (idx_ sub_ : Nat) : (s.modWin c f).flag idx_ sub_ = s.flag idx_ sub_ := rfl
@[simp] theorem modWin_sreg (s : State) (c : Nat) (f : WinChannel → WinChannel) (w_ idx_ sub_ : Nat) : (s.modWin c f).sreg w_ idx_ sub_ = s.sreg w_ idx_ sub_ := rfl
@[simp] theorem modWin_status (s : State) (c : Nat) (f : WinChannel → WinChannel) (idx_ : Nat) : (s.modWin c f).status idx_ = s.status idx_ := rfl

/-! ## modScaler -/

@[simp] theorem modScaler_pending (s : State) (x : Nat) (f : Scaler → Scaler) : (s.modScaler x f).pending = s.pending := rfl
@[simp] theorem modScaler_board (s : State) (x : Nat) (f : Scaler → Scaler) : (s.modScaler x f).board = s.board := rfl
@[simp] theorem modScaler_nv (s : State) (x : Nat) (f : Scaler → Scaler) : (s.modScaler x f).nv = s.nv := rfl
@[simp] theorem modScaler_regs (s : State) (x : Nat) (f : Scaler → Scaler) : (s.modScaler x f).regs = s.regs := rfl
@[simp] theorem modScaler_doms (s : State) (x : Nat) (f : Scaler → Scaler) : (s.modScaler x f).doms = s.doms := rfl
@[simp] theorem modScaler_drawn (s : State) (x : Nat) (f : Scaler → Scaler) : (s.modScaler x f).drawn = s.drawn := rfl
@[simp] theorem modScaler_dram (s : State) (x : Nat) (f : Scaler → Scaler) : (s.modScaler x f).dram = s.dram := rfl
@[simp] theorem modScaler_outbox (s : State) (x : Nat) (f : Scaler → Scaler) : (s.modScaler x f).outbox = s.outbox := rfl
@[simp] theorem modScaler_time (s : State) (x : Nat) (f : Scaler → Scaler) : (s.modScaler x f).time = s.time := rfl
@[simp] theorem modScaler_pos (s : State) (x : Nat) (f : Scaler → Scaler) : (s.modScaler x f).pos = s.pos := rfl
@[simp] theorem modScaler_dowel (s : State) (x : Nat) (f : Scaler → Scaler) : (s.modScaler x f).dowel = s.dowel := rfl
@[simp] theorem modScaler_avail (s : State) (x : Nat) (f : Scaler → Scaler) : (s.modScaler x f).avail = s.avail := rfl
@[simp] theorem modScaler_power (s : State) (x : Nat) (f : Scaler → Scaler) : (s.modScaler x f).power = s.power := rfl
@[simp] theorem modScaler_dict (s : State) (x : Nat) (f : Scaler → Scaler) : (s.modScaler x f).dict = s.dict := rfl
@[simp] theorem modScaler_fabric (s : State) (x : Nat) (f : Scaler → Scaler) : (s.modScaler x f).fabric = s.fabric := rfl
@[simp] theorem modScaler_dsp (s : State) (x : Nat) (f : Scaler → Scaler) : (s.modScaler x f).dsp = s.dsp := rfl
@[simp] theorem modScaler_insp (s : State) (x : Nat) (f : Scaler → Scaler) : (s.modScaler x f).insp = s.insp := rfl
@[simp] theorem modScaler_winnow (s : State) (x : Nat) (f : Scaler → Scaler) : (s.modScaler x f).winnow = { s.winnow with scalers := modNth f s.winnow.scalers x } := rfl
@[simp] theorem modScaler_ddr (s : State) (x : Nat) (f : Scaler → Scaler) : (s.modScaler x f).ddr = s.ddr := rfl
@[simp] theorem modScaler_xarray (s : State) (x : Nat) (f : Scaler → Scaler) : (s.modScaler x f).xarray = s.xarray := rfl
@[simp] theorem modScaler_crib (s : State) (x : Nat) (f : Scaler → Scaler) : (s.modScaler x f).crib = s.crib := rfl
@[simp] theorem modScaler_sheaf (s : State) (x : Nat) (f : Scaler → Scaler) : (s.modScaler x f).sheaf = s.sheaf := rfl
@[simp] theorem modScaler_reg (s : State) (x : Nat) (f : Scaler → Scaler) (idx_ sub_ : Nat) : (s.modScaler x f).reg idx_ sub_ = s.reg idx_ sub_ := rfl
@[simp] theorem modScaler_flag (s : State) (x : Nat) (f : Scaler → Scaler) (idx_ sub_ : Nat) : (s.modScaler x f).flag idx_ sub_ = s.flag idx_ sub_ := rfl
@[simp] theorem modScaler_sreg (s : State) (x : Nat) (f : Scaler → Scaler) (w_ idx_ sub_ : Nat) : (s.modScaler x f).sreg w_ idx_ sub_ = s.sreg w_ idx_ sub_ := rfl
@[simp] theorem modScaler_status (s : State) (x : Nat) (f : Scaler → Scaler) (idx_ : Nat) : (s.modScaler x f).status idx_ = s.status idx_ := rfl

/-! ## modFront -/

@[simp] theorem modFront_pending (s : State) (f : FrontState → FrontState) : (s.modFront f).pending = s.pending := rfl
@[simp] theorem modFront_board (s : State) (f : FrontState → FrontState) : (s.modFront f).board = s.board := rfl
@[simp] theorem modFront_nv (s : State) (f : FrontState → FrontState) : (s.modFront f).nv = s.nv := rfl
@[simp] theorem modFront_regs (s : State) (f : FrontState → FrontState) : (s.modFront f).regs = s.regs := rfl
@[simp] theorem modFront_doms (s : State) (f : FrontState → FrontState) : (s.modFront f).doms = s.doms := rfl
@[simp] theorem modFront_drawn (s : State) (f : FrontState → FrontState) : (s.modFront f).drawn = s.drawn := rfl
@[simp] theorem modFront_dram (s : State) (f : FrontState → FrontState) : (s.modFront f).dram = s.dram := rfl
@[simp] theorem modFront_outbox (s : State) (f : FrontState → FrontState) : (s.modFront f).outbox = s.outbox := rfl
@[simp] theorem modFront_time (s : State) (f : FrontState → FrontState) : (s.modFront f).time = s.time := rfl
@[simp] theorem modFront_pos (s : State) (f : FrontState → FrontState) : (s.modFront f).pos = s.pos := rfl
@[simp] theorem modFront_dowel (s : State) (f : FrontState → FrontState) : (s.modFront f).dowel = s.dowel := rfl
@[simp] theorem modFront_avail (s : State) (f : FrontState → FrontState) : (s.modFront f).avail = s.avail := rfl
@[simp] theorem modFront_power (s : State) (f : FrontState → FrontState) : (s.modFront f).power = s.power := rfl
@[simp] theorem modFront_dict (s : State) (f : FrontState → FrontState) : (s.modFront f).dict = s.dict := rfl
@[simp] theorem modFront_fabric (s : State) (f : FrontState → FrontState) : (s.modFront f).fabric = s.fabric := rfl
@[simp] theorem modFront_dsp (s : State) (f : FrontState → FrontState) : (s.modFront f).dsp = s.dsp := rfl
@[simp] theorem modFront_insp (s : State) (f : FrontState → FrontState) : (s.modFront f).insp = { s.insp with front := f s.insp.front } := rfl
@[simp] theorem modFront_winnow (s : State) (f : FrontState → FrontState) : (s.modFront f).winnow = s.winnow := rfl
@[simp] theorem modFront_ddr (s : State) (f : FrontState → FrontState) : (s.modFront f).ddr = s.ddr := rfl
@[simp] theorem modFront_xarray (s : State) (f : FrontState → FrontState) : (s.modFront f).xarray = s.xarray := rfl
@[simp] theorem modFront_crib (s : State) (f : FrontState → FrontState) : (s.modFront f).crib = s.crib := rfl
@[simp] theorem modFront_sheaf (s : State) (f : FrontState → FrontState) : (s.modFront f).sheaf = s.sheaf := rfl
@[simp] theorem modFront_reg (s : State) (f : FrontState → FrontState) (idx_ sub_ : Nat) : (s.modFront f).reg idx_ sub_ = s.reg idx_ sub_ := rfl
@[simp] theorem modFront_flag (s : State) (f : FrontState → FrontState) (idx_ sub_ : Nat) : (s.modFront f).flag idx_ sub_ = s.flag idx_ sub_ := rfl
@[simp] theorem modFront_sreg (s : State) (f : FrontState → FrontState) (w_ idx_ sub_ : Nat) : (s.modFront f).sreg w_ idx_ sub_ = s.sreg w_ idx_ sub_ := rfl
@[simp] theorem modFront_status (s : State) (f : FrontState → FrontState) (idx_ : Nat) : (s.modFront f).status idx_ = s.status idx_ := rfl

/-! ## modSilo -/

@[simp] theorem modSilo_pending (s : State) (j : Nat) (f : Silo → Silo) : (s.modSilo j f).pending = s.pending := rfl
@[simp] theorem modSilo_board (s : State) (j : Nat) (f : Silo → Silo) : (s.modSilo j f).board = s.board := rfl
@[simp] theorem modSilo_nv (s : State) (j : Nat) (f : Silo → Silo) : (s.modSilo j f).nv = s.nv := rfl
@[simp] theorem modSilo_regs (s : State) (j : Nat) (f : Silo → Silo) : (s.modSilo j f).regs = s.regs := rfl
@[simp] theorem modSilo_doms (s : State) (j : Nat) (f : Silo → Silo) : (s.modSilo j f).doms = s.doms := rfl
@[simp] theorem modSilo_drawn (s : State) (j : Nat) (f : Silo → Silo) : (s.modSilo j f).drawn = s.drawn := rfl
@[simp] theorem modSilo_dram (s : State) (j : Nat) (f : Silo → Silo) : (s.modSilo j f).dram = s.dram := rfl
@[simp] theorem modSilo_outbox (s : State) (j : Nat) (f : Silo → Silo) : (s.modSilo j f).outbox = s.outbox := rfl
@[simp] theorem modSilo_time (s : State) (j : Nat) (f : Silo → Silo) : (s.modSilo j f).time = s.time := rfl
@[simp] theorem modSilo_pos (s : State) (j : Nat) (f : Silo → Silo) : (s.modSilo j f).pos = s.pos := rfl
@[simp] theorem modSilo_dowel (s : State) (j : Nat) (f : Silo → Silo) : (s.modSilo j f).dowel = s.dowel := rfl
@[simp] theorem modSilo_avail (s : State) (j : Nat) (f : Silo → Silo) : (s.modSilo j f).avail = s.avail := rfl
@[simp] theorem modSilo_power (s : State) (j : Nat) (f : Silo → Silo) : (s.modSilo j f).power = s.power := rfl
@[simp] theorem modSilo_dict (s : State) (j : Nat) (f : Silo → Silo) : (s.modSilo j f).dict = s.dict := rfl
@[simp] theorem modSilo_fabric (s : State) (j : Nat) (f : Silo → Silo) : (s.modSilo j f).fabric = s.fabric := rfl
@[simp] theorem modSilo_dsp (s : State) (j : Nat) (f : Silo → Silo) : (s.modSilo j f).dsp = s.dsp := rfl
@[simp] theorem modSilo_insp (s : State) (j : Nat) (f : Silo → Silo) : (s.modSilo j f).insp = s.insp := rfl
@[simp] theorem modSilo_winnow (s : State) (j : Nat) (f : Silo → Silo) : (s.modSilo j f).winnow = s.winnow := rfl
@[simp] theorem modSilo_ddr (s : State) (j : Nat) (f : Silo → Silo) : (s.modSilo j f).ddr = s.ddr := rfl
@[simp] theorem modSilo_xarray (s : State) (j : Nat) (f : Silo → Silo) : (s.modSilo j f).xarray = s.xarray := rfl
@[simp] theorem modSilo_crib (s : State) (j : Nat) (f : Silo → Silo) : (s.modSilo j f).crib = { s.crib with silos := modNth f s.crib.silos j } := rfl
@[simp] theorem modSilo_sheaf (s : State) (j : Nat) (f : Silo → Silo) : (s.modSilo j f).sheaf = s.sheaf := rfl
@[simp] theorem modSilo_reg (s : State) (j : Nat) (f : Silo → Silo) (idx_ sub_ : Nat) : (s.modSilo j f).reg idx_ sub_ = s.reg idx_ sub_ := rfl
@[simp] theorem modSilo_flag (s : State) (j : Nat) (f : Silo → Silo) (idx_ sub_ : Nat) : (s.modSilo j f).flag idx_ sub_ = s.flag idx_ sub_ := rfl
@[simp] theorem modSilo_sreg (s : State) (j : Nat) (f : Silo → Silo) (w_ idx_ sub_ : Nat) : (s.modSilo j f).sreg w_ idx_ sub_ = s.sreg w_ idx_ sub_ := rfl
@[simp] theorem modSilo_status (s : State) (j : Nat) (f : Silo → Silo) (idx_ : Nat) : (s.modSilo j f).status idx_ = s.status idx_ := rfl

/-! ## setSlabs -/

@[simp] theorem setSlabs_pending (s : State) (slabs : List Slab) : (s.setSlabs slabs).pending = s.pending := rfl
@[simp] theorem setSlabs_board (s : State) (slabs : List Slab) : (s.setSlabs slabs).board = s.board := rfl
@[simp] theorem setSlabs_nv (s : State) (slabs : List Slab) : (s.setSlabs slabs).nv = s.nv := rfl
@[simp] theorem setSlabs_regs (s : State) (slabs : List Slab) : (s.setSlabs slabs).regs = s.regs := rfl
@[simp] theorem setSlabs_doms (s : State) (slabs : List Slab) : (s.setSlabs slabs).doms = s.doms := rfl
@[simp] theorem setSlabs_drawn (s : State) (slabs : List Slab) : (s.setSlabs slabs).drawn = s.drawn := rfl
@[simp] theorem setSlabs_dram (s : State) (slabs : List Slab) : (s.setSlabs slabs).dram = s.dram := rfl
@[simp] theorem setSlabs_outbox (s : State) (slabs : List Slab) : (s.setSlabs slabs).outbox = s.outbox := rfl
@[simp] theorem setSlabs_time (s : State) (slabs : List Slab) : (s.setSlabs slabs).time = s.time := rfl
@[simp] theorem setSlabs_pos (s : State) (slabs : List Slab) : (s.setSlabs slabs).pos = s.pos := rfl
@[simp] theorem setSlabs_dowel (s : State) (slabs : List Slab) : (s.setSlabs slabs).dowel = s.dowel := rfl
@[simp] theorem setSlabs_avail (s : State) (slabs : List Slab) : (s.setSlabs slabs).avail = s.avail := rfl
@[simp] theorem setSlabs_power (s : State) (slabs : List Slab) : (s.setSlabs slabs).power = s.power := rfl
@[simp] theorem setSlabs_dict (s : State) (slabs : List Slab) : (s.setSlabs slabs).dict = s.dict := rfl
@[simp] theorem setSlabs_fabric (s : State) (slabs : List Slab) : (s.setSlabs slabs).fabric = s.fabric := rfl
@[simp] theorem setSlabs_dsp (s : State) (slabs : List Slab) : (s.setSlabs slabs).dsp = s.dsp := rfl
@[simp] theorem setSlabs_insp (s : State) (slabs : List Slab) : (s.setSlabs slabs).insp = s.insp := rfl
@[simp] theorem setSlabs_winnow (s : State) (slabs : List Slab) : (s.setSlabs slabs).winnow = s.winnow := rfl
@[simp] theorem setSlabs_ddr (s : State) (slabs : List Slab) : (s.setSlabs slabs).ddr = s.ddr := rfl
@[simp] theorem setSlabs_xarray (s : State) (slabs : List Slab) : (s.setSlabs slabs).xarray = s.xarray := rfl
@[simp] theorem setSlabs_crib (s : State) (slabs : List Slab) : (s.setSlabs slabs).crib = { s.crib with slabs := slabs } := rfl
@[simp] theorem setSlabs_sheaf (s : State) (slabs : List Slab) : (s.setSlabs slabs).sheaf = s.sheaf := rfl
@[simp] theorem setSlabs_reg (s : State) (slabs : List Slab) (idx_ sub_ : Nat) : (s.setSlabs slabs).reg idx_ sub_ = s.reg idx_ sub_ := rfl
@[simp] theorem setSlabs_flag (s : State) (slabs : List Slab) (idx_ sub_ : Nat) : (s.setSlabs slabs).flag idx_ sub_ = s.flag idx_ sub_ := rfl
@[simp] theorem setSlabs_sreg (s : State) (slabs : List Slab) (w_ idx_ sub_ : Nat) : (s.setSlabs slabs).sreg w_ idx_ sub_ = s.sreg w_ idx_ sub_ := rfl
@[simp] theorem setSlabs_status (s : State) (slabs : List Slab) (idx_ : Nat) : (s.setSlabs slabs).status idx_ = s.status idx_ := rfl

/-! ## setReader -/

@[simp] theorem setReader_pending (s : State) (k : Nat) (b : BayReader) : (s.setReader k b).pending = s.pending := rfl
@[simp] theorem setReader_board (s : State) (k : Nat) (b : BayReader) : (s.setReader k b).board = s.board := rfl
@[simp] theorem setReader_nv (s : State) (k : Nat) (b : BayReader) : (s.setReader k b).nv = s.nv := rfl
@[simp] theorem setReader_regs (s : State) (k : Nat) (b : BayReader) : (s.setReader k b).regs = s.regs := rfl
@[simp] theorem setReader_doms (s : State) (k : Nat) (b : BayReader) : (s.setReader k b).doms = s.doms := rfl
@[simp] theorem setReader_drawn (s : State) (k : Nat) (b : BayReader) : (s.setReader k b).drawn = s.drawn := rfl
@[simp] theorem setReader_dram (s : State) (k : Nat) (b : BayReader) : (s.setReader k b).dram = s.dram := rfl
@[simp] theorem setReader_outbox (s : State) (k : Nat) (b : BayReader) : (s.setReader k b).outbox = s.outbox := rfl
@[simp] theorem setReader_time (s : State) (k : Nat) (b : BayReader) : (s.setReader k b).time = s.time := rfl
@[simp] theorem setReader_pos (s : State) (k : Nat) (b : BayReader) : (s.setReader k b).pos = s.pos := rfl
@[simp] theorem setReader_dowel (s : State) (k : Nat) (b : BayReader) : (s.setReader k b).dowel = s.dowel := rfl
@[simp] theorem setReader_avail (s : State) (k : Nat) (b : BayReader) : (s.setReader k b).avail = s.avail := rfl
@[simp] theorem setReader_power (s : State) (k : Nat) (b : BayReader) : (s.setReader k b).power = s.power := rfl
@[simp] theorem setReader_dict (s : State) (k : Nat) (b : BayReader) : (s.setReader k b).dict = s.dict := rfl
@[simp] theorem setReader_fabric (s : State) (k : Nat) (b : BayReader) : (s.setReader k b).fabric = s.fabric := rfl
@[simp] theorem setReader_dsp (s : State) (k : Nat) (b : BayReader) : (s.setReader k b).dsp = s.dsp := rfl
@[simp] theorem setReader_insp (s : State) (k : Nat) (b : BayReader) : (s.setReader k b).insp = s.insp := rfl
@[simp] theorem setReader_winnow (s : State) (k : Nat) (b : BayReader) : (s.setReader k b).winnow = s.winnow := rfl
@[simp] theorem setReader_ddr (s : State) (k : Nat) (b : BayReader) : (s.setReader k b).ddr = s.ddr := rfl
@[simp] theorem setReader_xarray (s : State) (k : Nat) (b : BayReader) : (s.setReader k b).xarray = s.xarray := rfl
@[simp] theorem setReader_crib (s : State) (k : Nat) (b : BayReader) : (s.setReader k b).crib = { s.crib with bays := modNth (fun _ => b) s.crib.bays k } := rfl
@[simp] theorem setReader_sheaf (s : State) (k : Nat) (b : BayReader) : (s.setReader k b).sheaf = s.sheaf := rfl
@[simp] theorem setReader_reg (s : State) (k : Nat) (b : BayReader) (idx_ sub_ : Nat) : (s.setReader k b).reg idx_ sub_ = s.reg idx_ sub_ := rfl
@[simp] theorem setReader_flag (s : State) (k : Nat) (b : BayReader) (idx_ sub_ : Nat) : (s.setReader k b).flag idx_ sub_ = s.flag idx_ sub_ := rfl
@[simp] theorem setReader_sreg (s : State) (k : Nat) (b : BayReader) (w_ idx_ sub_ : Nat) : (s.setReader k b).sreg w_ idx_ sub_ = s.sreg w_ idx_ sub_ := rfl
@[simp] theorem setReader_status (s : State) (k : Nat) (b : BayReader) (idx_ : Nat) : (s.setReader k b).status idx_ = s.status idx_ := rfl

/-! ## setHalf -/

@[simp] theorem setHalf_pending (s : State) (k h : Nat) (x : LoftHalf) : (s.setHalf k h x).pending = s.pending := rfl
@[simp] theorem setHalf_board (s : State) (k h : Nat) (x : LoftHalf) : (s.setHalf k h x).board = s.board := rfl
@[simp] theorem setHalf_nv (s : State) (k h : Nat) (x : LoftHalf) : (s.setHalf k h x).nv = s.nv := rfl
@[simp] theorem setHalf_regs (s : State) (k h : Nat) (x : LoftHalf) : (s.setHalf k h x).regs = s.regs := rfl
@[simp] theorem setHalf_doms (s : State) (k h : Nat) (x : LoftHalf) : (s.setHalf k h x).doms = s.doms := rfl
@[simp] theorem setHalf_drawn (s : State) (k h : Nat) (x : LoftHalf) : (s.setHalf k h x).drawn = s.drawn := rfl
@[simp] theorem setHalf_dram (s : State) (k h : Nat) (x : LoftHalf) : (s.setHalf k h x).dram = s.dram := rfl
@[simp] theorem setHalf_outbox (s : State) (k h : Nat) (x : LoftHalf) : (s.setHalf k h x).outbox = s.outbox := rfl
@[simp] theorem setHalf_time (s : State) (k h : Nat) (x : LoftHalf) : (s.setHalf k h x).time = s.time := rfl
@[simp] theorem setHalf_pos (s : State) (k h : Nat) (x : LoftHalf) : (s.setHalf k h x).pos = s.pos := rfl
@[simp] theorem setHalf_dowel (s : State) (k h : Nat) (x : LoftHalf) : (s.setHalf k h x).dowel = s.dowel := rfl
@[simp] theorem setHalf_avail (s : State) (k h : Nat) (x : LoftHalf) : (s.setHalf k h x).avail = s.avail := rfl
@[simp] theorem setHalf_power (s : State) (k h : Nat) (x : LoftHalf) : (s.setHalf k h x).power = s.power := rfl
@[simp] theorem setHalf_dict (s : State) (k h : Nat) (x : LoftHalf) : (s.setHalf k h x).dict = s.dict := rfl
@[simp] theorem setHalf_fabric (s : State) (k h : Nat) (x : LoftHalf) : (s.setHalf k h x).fabric = s.fabric := rfl
@[simp] theorem setHalf_dsp (s : State) (k h : Nat) (x : LoftHalf) : (s.setHalf k h x).dsp = s.dsp := rfl
@[simp] theorem setHalf_insp (s : State) (k h : Nat) (x : LoftHalf) : (s.setHalf k h x).insp = s.insp := rfl
@[simp] theorem setHalf_winnow (s : State) (k h : Nat) (x : LoftHalf) : (s.setHalf k h x).winnow = s.winnow := rfl
@[simp] theorem setHalf_ddr (s : State) (k h : Nat) (x : LoftHalf) : (s.setHalf k h x).ddr = s.ddr := rfl
@[simp] theorem setHalf_xarray (s : State) (k h : Nat) (x : LoftHalf) : (s.setHalf k h x).xarray = s.xarray := rfl
@[simp] theorem setHalf_crib (s : State) (k h : Nat) (x : LoftHalf) : (s.setHalf k h x).crib = { s.crib with lofts := modNth (fun _ => x) s.crib.lofts (2 * k + h) } := rfl
@[simp] theorem setHalf_sheaf (s : State) (k h : Nat) (x : LoftHalf) : (s.setHalf k h x).sheaf = s.sheaf := rfl
@[simp] theorem setHalf_reg (s : State) (k h : Nat) (x : LoftHalf) (idx_ sub_ : Nat) : (s.setHalf k h x).reg idx_ sub_ = s.reg idx_ sub_ := rfl
@[simp] theorem setHalf_flag (s : State) (k h : Nat) (x : LoftHalf) (idx_ sub_ : Nat) : (s.setHalf k h x).flag idx_ sub_ = s.flag idx_ sub_ := rfl
@[simp] theorem setHalf_sreg (s : State) (k h : Nat) (x : LoftHalf) (w_ idx_ sub_ : Nat) : (s.setHalf k h x).sreg w_ idx_ sub_ = s.sreg w_ idx_ sub_ := rfl
@[simp] theorem setHalf_status (s : State) (k h : Nat) (x : LoftHalf) (idx_ : Nat) : (s.setHalf k h x).status idx_ = s.status idx_ := rfl

/-! ## setAcc -/

@[simp] theorem setAcc_pending (s : State) (g slot half : Nat) (a : Acc) : (s.setAcc g slot half a).pending = s.pending := rfl
@[simp] theorem setAcc_board (s : State) (g slot half : Nat) (a : Acc) : (s.setAcc g slot half a).board = s.board := rfl
@[simp] theorem setAcc_nv (s : State) (g slot half : Nat) (a : Acc) : (s.setAcc g slot half a).nv = s.nv := rfl
@[simp] theorem setAcc_regs (s : State) (g slot half : Nat) (a : Acc) : (s.setAcc g slot half a).regs = s.regs := rfl
@[simp] theorem setAcc_doms (s : State) (g slot half : Nat) (a : Acc) : (s.setAcc g slot half a).doms = s.doms := rfl
@[simp] theorem setAcc_drawn (s : State) (g slot half : Nat) (a : Acc) : (s.setAcc g slot half a).drawn = s.drawn := rfl
@[simp] theorem setAcc_dram (s : State) (g slot half : Nat) (a : Acc) : (s.setAcc g slot half a).dram = s.dram := rfl
@[simp] theorem setAcc_outbox (s : State) (g slot half : Nat) (a : Acc) : (s.setAcc g slot half a).outbox = s.outbox := rfl
@[simp] theorem setAcc_time (s : State) (g slot half : Nat) (a : Acc) : (s.setAcc g slot half a).time = s.time := rfl
@[simp] theorem setAcc_pos (s : State) (g slot half : Nat) (a : Acc) : (s.setAcc g slot half a).pos = s.pos := rfl
@[simp] theorem setAcc_dowel (s : State) (g slot half : Nat) (a : Acc) : (s.setAcc g slot half a).dowel = s.dowel := rfl
@[simp] theorem setAcc_avail (s : State) (g slot half : Nat) (a : Acc) : (s.setAcc g slot half a).avail = s.avail := rfl
@[simp] theorem setAcc_power (s : State) (g slot half : Nat) (a : Acc) : (s.setAcc g slot half a).power = s.power := rfl
@[simp] theorem setAcc_dict (s : State) (g slot half : Nat) (a : Acc) : (s.setAcc g slot half a).dict = s.dict := rfl
@[simp] theorem setAcc_fabric (s : State) (g slot half : Nat) (a : Acc) : (s.setAcc g slot half a).fabric = s.fabric := rfl
@[simp] theorem setAcc_dsp (s : State) (g slot half : Nat) (a : Acc) : (s.setAcc g slot half a).dsp = s.dsp := rfl
@[simp] theorem setAcc_insp (s : State) (g slot half : Nat) (a : Acc) : (s.setAcc g slot half a).insp = s.insp := rfl
@[simp] theorem setAcc_winnow (s : State) (g slot half : Nat) (a : Acc) : (s.setAcc g slot half a).winnow = s.winnow := rfl
@[simp] theorem setAcc_ddr (s : State) (g slot half : Nat) (a : Acc) : (s.setAcc g slot half a).ddr = s.ddr := rfl
@[simp] theorem setAcc_xarray (s : State) (g slot half : Nat) (a : Acc) : (s.setAcc g slot half a).xarray = { s.xarray with bins := insertKey s.xarray.bins ((g * 24 + slot) * 2 + half) a } := rfl
@[simp] theorem setAcc_crib (s : State) (g slot half : Nat) (a : Acc) : (s.setAcc g slot half a).crib = s.crib := rfl
@[simp] theorem setAcc_sheaf (s : State) (g slot half : Nat) (a : Acc) : (s.setAcc g slot half a).sheaf = s.sheaf := rfl
@[simp] theorem setAcc_reg (s : State) (g slot half : Nat) (a : Acc) (idx_ sub_ : Nat) : (s.setAcc g slot half a).reg idx_ sub_ = s.reg idx_ sub_ := rfl
@[simp] theorem setAcc_flag (s : State) (g slot half : Nat) (a : Acc) (idx_ sub_ : Nat) : (s.setAcc g slot half a).flag idx_ sub_ = s.flag idx_ sub_ := rfl
@[simp] theorem setAcc_sreg (s : State) (g slot half : Nat) (a : Acc) (w_ idx_ sub_ : Nat) : (s.setAcc g slot half a).sreg w_ idx_ sub_ = s.sreg w_ idx_ sub_ := rfl
@[simp] theorem setAcc_status (s : State) (g slot half : Nat) (a : Acc) (idx_ : Nat) : (s.setAcc g slot half a).status idx_ = s.status idx_ := rfl

/-! ## modJig -/

@[simp] theorem modJig_pending (s : State) (k : Nat) (f : Jig → Jig) : (s.modJig k f).pending = s.pending := rfl
@[simp] theorem modJig_board (s : State) (k : Nat) (f : Jig → Jig) : (s.modJig k f).board = s.board := rfl
@[simp] theorem modJig_nv (s : State) (k : Nat) (f : Jig → Jig) : (s.modJig k f).nv = s.nv := rfl
@[simp] theorem modJig_regs (s : State) (k : Nat) (f : Jig → Jig) : (s.modJig k f).regs = s.regs := rfl
@[simp] theorem modJig_doms (s : State) (k : Nat) (f : Jig → Jig) : (s.modJig k f).doms = s.doms := rfl
@[simp] theorem modJig_drawn (s : State) (k : Nat) (f : Jig → Jig) : (s.modJig k f).drawn = s.drawn := rfl
@[simp] theorem modJig_dram (s : State) (k : Nat) (f : Jig → Jig) : (s.modJig k f).dram = s.dram := rfl
@[simp] theorem modJig_outbox (s : State) (k : Nat) (f : Jig → Jig) : (s.modJig k f).outbox = s.outbox := rfl
@[simp] theorem modJig_time (s : State) (k : Nat) (f : Jig → Jig) : (s.modJig k f).time = s.time := rfl
@[simp] theorem modJig_pos (s : State) (k : Nat) (f : Jig → Jig) : (s.modJig k f).pos = s.pos := rfl
@[simp] theorem modJig_dowel (s : State) (k : Nat) (f : Jig → Jig) : (s.modJig k f).dowel = s.dowel := rfl
@[simp] theorem modJig_avail (s : State) (k : Nat) (f : Jig → Jig) : (s.modJig k f).avail = s.avail := rfl
@[simp] theorem modJig_power (s : State) (k : Nat) (f : Jig → Jig) : (s.modJig k f).power = s.power := rfl
@[simp] theorem modJig_dict (s : State) (k : Nat) (f : Jig → Jig) : (s.modJig k f).dict = s.dict := rfl
@[simp] theorem modJig_fabric (s : State) (k : Nat) (f : Jig → Jig) : (s.modJig k f).fabric = s.fabric := rfl
@[simp] theorem modJig_dsp (s : State) (k : Nat) (f : Jig → Jig) : (s.modJig k f).dsp = s.dsp := rfl
@[simp] theorem modJig_insp (s : State) (k : Nat) (f : Jig → Jig) : (s.modJig k f).insp = s.insp := rfl
@[simp] theorem modJig_winnow (s : State) (k : Nat) (f : Jig → Jig) : (s.modJig k f).winnow = s.winnow := rfl
@[simp] theorem modJig_ddr (s : State) (k : Nat) (f : Jig → Jig) : (s.modJig k f).ddr = s.ddr := rfl
@[simp] theorem modJig_xarray (s : State) (k : Nat) (f : Jig → Jig) : (s.modJig k f).xarray = { s.xarray with jigs := modNth f s.xarray.jigs k } := rfl
@[simp] theorem modJig_crib (s : State) (k : Nat) (f : Jig → Jig) : (s.modJig k f).crib = s.crib := rfl
@[simp] theorem modJig_sheaf (s : State) (k : Nat) (f : Jig → Jig) : (s.modJig k f).sheaf = s.sheaf := rfl
@[simp] theorem modJig_reg (s : State) (k : Nat) (f : Jig → Jig) (idx_ sub_ : Nat) : (s.modJig k f).reg idx_ sub_ = s.reg idx_ sub_ := rfl
@[simp] theorem modJig_flag (s : State) (k : Nat) (f : Jig → Jig) (idx_ sub_ : Nat) : (s.modJig k f).flag idx_ sub_ = s.flag idx_ sub_ := rfl
@[simp] theorem modJig_sreg (s : State) (k : Nat) (f : Jig → Jig) (w_ idx_ sub_ : Nat) : (s.modJig k f).sreg w_ idx_ sub_ = s.sreg w_ idx_ sub_ := rfl
@[simp] theorem modJig_status (s : State) (k : Nat) (f : Jig → Jig) (idx_ : Nat) : (s.modJig k f).status idx_ = s.status idx_ := rfl

/-! ## setOrders -/

@[simp] theorem setOrders_pending (s : State) (os : List WorkOrder) : (s.setOrders os).pending = s.pending := rfl
@[simp] theorem setOrders_board (s : State) (os : List WorkOrder) : (s.setOrders os).board = s.board := rfl
@[simp] theorem setOrders_nv (s : State) (os : List WorkOrder) : (s.setOrders os).nv = s.nv := rfl
@[simp] theorem setOrders_regs (s : State) (os : List WorkOrder) : (s.setOrders os).regs = s.regs := rfl
@[simp] theorem setOrders_doms (s : State) (os : List WorkOrder) : (s.setOrders os).doms = s.doms := rfl
@[simp] theorem setOrders_drawn (s : State) (os : List WorkOrder) : (s.setOrders os).drawn = s.drawn := rfl
@[simp] theorem setOrders_dram (s : State) (os : List WorkOrder) : (s.setOrders os).dram = s.dram := rfl
@[simp] theorem setOrders_outbox (s : State) (os : List WorkOrder) : (s.setOrders os).outbox = s.outbox := rfl
@[simp] theorem setOrders_time (s : State) (os : List WorkOrder) : (s.setOrders os).time = s.time := rfl
@[simp] theorem setOrders_pos (s : State) (os : List WorkOrder) : (s.setOrders os).pos = s.pos := rfl
@[simp] theorem setOrders_dowel (s : State) (os : List WorkOrder) : (s.setOrders os).dowel = s.dowel := rfl
@[simp] theorem setOrders_avail (s : State) (os : List WorkOrder) : (s.setOrders os).avail = s.avail := rfl
@[simp] theorem setOrders_power (s : State) (os : List WorkOrder) : (s.setOrders os).power = s.power := rfl
@[simp] theorem setOrders_dict (s : State) (os : List WorkOrder) : (s.setOrders os).dict = s.dict := rfl
@[simp] theorem setOrders_fabric (s : State) (os : List WorkOrder) : (s.setOrders os).fabric = s.fabric := rfl
@[simp] theorem setOrders_dsp (s : State) (os : List WorkOrder) : (s.setOrders os).dsp = s.dsp := rfl
@[simp] theorem setOrders_insp (s : State) (os : List WorkOrder) : (s.setOrders os).insp = s.insp := rfl
@[simp] theorem setOrders_winnow (s : State) (os : List WorkOrder) : (s.setOrders os).winnow = s.winnow := rfl
@[simp] theorem setOrders_ddr (s : State) (os : List WorkOrder) : (s.setOrders os).ddr = s.ddr := rfl
@[simp] theorem setOrders_xarray (s : State) (os : List WorkOrder) : (s.setOrders os).xarray = { s.xarray with orders := os } := rfl
@[simp] theorem setOrders_crib (s : State) (os : List WorkOrder) : (s.setOrders os).crib = s.crib := rfl
@[simp] theorem setOrders_sheaf (s : State) (os : List WorkOrder) : (s.setOrders os).sheaf = s.sheaf := rfl
@[simp] theorem setOrders_reg (s : State) (os : List WorkOrder) (idx_ sub_ : Nat) : (s.setOrders os).reg idx_ sub_ = s.reg idx_ sub_ := rfl
@[simp] theorem setOrders_flag (s : State) (os : List WorkOrder) (idx_ sub_ : Nat) : (s.setOrders os).flag idx_ sub_ = s.flag idx_ sub_ := rfl
@[simp] theorem setOrders_sreg (s : State) (os : List WorkOrder) (w_ idx_ sub_ : Nat) : (s.setOrders os).sreg w_ idx_ sub_ = s.sreg w_ idx_ sub_ := rfl
@[simp] theorem setOrders_status (s : State) (os : List WorkOrder) (idx_ : Nat) : (s.setOrders os).status idx_ = s.status idx_ := rfl

/-! ## setTile -/

@[simp] theorem setTile_pending (s : State) (g : Nat) (t : Tile) : (s.setTile g t).pending = s.pending := rfl
@[simp] theorem setTile_board (s : State) (g : Nat) (t : Tile) : (s.setTile g t).board = s.board := rfl
@[simp] theorem setTile_nv (s : State) (g : Nat) (t : Tile) : (s.setTile g t).nv = s.nv := rfl
@[simp] theorem setTile_regs (s : State) (g : Nat) (t : Tile) : (s.setTile g t).regs = s.regs := rfl
@[simp] theorem setTile_doms (s : State) (g : Nat) (t : Tile) : (s.setTile g t).doms = s.doms := rfl
@[simp] theorem setTile_drawn (s : State) (g : Nat) (t : Tile) : (s.setTile g t).drawn = s.drawn := rfl
@[simp] theorem setTile_dram (s : State) (g : Nat) (t : Tile) : (s.setTile g t).dram = s.dram := rfl
@[simp] theorem setTile_outbox (s : State) (g : Nat) (t : Tile) : (s.setTile g t).outbox = s.outbox := rfl
@[simp] theorem setTile_time (s : State) (g : Nat) (t : Tile) : (s.setTile g t).time = s.time := rfl
@[simp] theorem setTile_pos (s : State) (g : Nat) (t : Tile) : (s.setTile g t).pos = s.pos := rfl
@[simp] theorem setTile_dowel (s : State) (g : Nat) (t : Tile) : (s.setTile g t).dowel = s.dowel := rfl
@[simp] theorem setTile_avail (s : State) (g : Nat) (t : Tile) : (s.setTile g t).avail = s.avail := rfl
@[simp] theorem setTile_power (s : State) (g : Nat) (t : Tile) : (s.setTile g t).power = s.power := rfl
@[simp] theorem setTile_dict (s : State) (g : Nat) (t : Tile) : (s.setTile g t).dict = s.dict := rfl
@[simp] theorem setTile_fabric (s : State) (g : Nat) (t : Tile) : (s.setTile g t).fabric = s.fabric := rfl
@[simp] theorem setTile_dsp (s : State) (g : Nat) (t : Tile) : (s.setTile g t).dsp = s.dsp := rfl
@[simp] theorem setTile_insp (s : State) (g : Nat) (t : Tile) : (s.setTile g t).insp = s.insp := rfl
@[simp] theorem setTile_winnow (s : State) (g : Nat) (t : Tile) : (s.setTile g t).winnow = s.winnow := rfl
@[simp] theorem setTile_ddr (s : State) (g : Nat) (t : Tile) : (s.setTile g t).ddr = s.ddr := rfl
@[simp] theorem setTile_xarray (s : State) (g : Nat) (t : Tile) : (s.setTile g t).xarray = { s.xarray with tiles := insertKey s.xarray.tiles g t } := rfl
@[simp] theorem setTile_crib (s : State) (g : Nat) (t : Tile) : (s.setTile g t).crib = s.crib := rfl
@[simp] theorem setTile_sheaf (s : State) (g : Nat) (t : Tile) : (s.setTile g t).sheaf = s.sheaf := rfl
@[simp] theorem setTile_reg (s : State) (g : Nat) (t : Tile) (idx_ sub_ : Nat) : (s.setTile g t).reg idx_ sub_ = s.reg idx_ sub_ := rfl
@[simp] theorem setTile_flag (s : State) (g : Nat) (t : Tile) (idx_ sub_ : Nat) : (s.setTile g t).flag idx_ sub_ = s.flag idx_ sub_ := rfl
@[simp] theorem setTile_sreg (s : State) (g : Nat) (t : Tile) (w_ idx_ sub_ : Nat) : (s.setTile g t).sreg w_ idx_ sub_ = s.sreg w_ idx_ sub_ := rfl
@[simp] theorem setTile_status (s : State) (g : Nat) (t : Tile) (idx_ : Nat) : (s.setTile g t).status idx_ = s.status idx_ := rfl

/-! ## setReseats -/

@[simp] theorem setReseats_pending (s : State) (bay : Nat) (rs : List Reseat) : (s.setReseats bay rs).pending = s.pending := rfl
@[simp] theorem setReseats_board (s : State) (bay : Nat) (rs : List Reseat) : (s.setReseats bay rs).board = s.board := rfl
@[simp] theorem setReseats_nv (s : State) (bay : Nat) (rs : List Reseat) : (s.setReseats bay rs).nv = s.nv := rfl
@[simp] theorem setReseats_regs (s : State) (bay : Nat) (rs : List Reseat) : (s.setReseats bay rs).regs = s.regs := rfl
@[simp] theorem setReseats_doms (s : State) (bay : Nat) (rs : List Reseat) : (s.setReseats bay rs).doms = s.doms := rfl
@[simp] theorem setReseats_drawn (s : State) (bay : Nat) (rs : List Reseat) : (s.setReseats bay rs).drawn = s.drawn := rfl
@[simp] theorem setReseats_dram (s : State) (bay : Nat) (rs : List Reseat) : (s.setReseats bay rs).dram = s.dram := rfl
@[simp] theorem setReseats_outbox (s : State) (bay : Nat) (rs : List Reseat) : (s.setReseats bay rs).outbox = s.outbox := rfl
@[simp] theorem setReseats_time (s : State) (bay : Nat) (rs : List Reseat) : (s.setReseats bay rs).time = s.time := rfl
@[simp] theorem setReseats_pos (s : State) (bay : Nat) (rs : List Reseat) : (s.setReseats bay rs).pos = s.pos := rfl
@[simp] theorem setReseats_dowel (s : State) (bay : Nat) (rs : List Reseat) : (s.setReseats bay rs).dowel = s.dowel := rfl
@[simp] theorem setReseats_avail (s : State) (bay : Nat) (rs : List Reseat) : (s.setReseats bay rs).avail = s.avail := rfl
@[simp] theorem setReseats_power (s : State) (bay : Nat) (rs : List Reseat) : (s.setReseats bay rs).power = s.power := rfl
@[simp] theorem setReseats_dict (s : State) (bay : Nat) (rs : List Reseat) : (s.setReseats bay rs).dict = s.dict := rfl
@[simp] theorem setReseats_fabric (s : State) (bay : Nat) (rs : List Reseat) : (s.setReseats bay rs).fabric = s.fabric := rfl
@[simp] theorem setReseats_dsp (s : State) (bay : Nat) (rs : List Reseat) : (s.setReseats bay rs).dsp = s.dsp := rfl
@[simp] theorem setReseats_insp (s : State) (bay : Nat) (rs : List Reseat) : (s.setReseats bay rs).insp = s.insp := rfl
@[simp] theorem setReseats_winnow (s : State) (bay : Nat) (rs : List Reseat) : (s.setReseats bay rs).winnow = s.winnow := rfl
@[simp] theorem setReseats_ddr (s : State) (bay : Nat) (rs : List Reseat) : (s.setReseats bay rs).ddr = s.ddr := rfl
@[simp] theorem setReseats_xarray (s : State) (bay : Nat) (rs : List Reseat) : (s.setReseats bay rs).xarray = { s.xarray with reseats := modNth (fun _ => rs) s.xarray.reseats bay } := rfl
@[simp] theorem setReseats_crib (s : State) (bay : Nat) (rs : List Reseat) : (s.setReseats bay rs).crib = s.crib := rfl
@[simp] theorem setReseats_sheaf (s : State) (bay : Nat) (rs : List Reseat) : (s.setReseats bay rs).sheaf = s.sheaf := rfl
@[simp] theorem setReseats_reg (s : State) (bay : Nat) (rs : List Reseat) (idx_ sub_ : Nat) : (s.setReseats bay rs).reg idx_ sub_ = s.reg idx_ sub_ := rfl
@[simp] theorem setReseats_flag (s : State) (bay : Nat) (rs : List Reseat) (idx_ sub_ : Nat) : (s.setReseats bay rs).flag idx_ sub_ = s.flag idx_ sub_ := rfl
@[simp] theorem setReseats_sreg (s : State) (bay : Nat) (rs : List Reseat) (w_ idx_ sub_ : Nat) : (s.setReseats bay rs).sreg w_ idx_ sub_ = s.sreg w_ idx_ sub_ := rfl
@[simp] theorem setReseats_status (s : State) (bay : Nat) (rs : List Reseat) (idx_ : Nat) : (s.setReseats bay rs).status idx_ = s.status idx_ := rfl

/-! ## modX -/

@[simp] theorem modX_pending (s : State) (f : XArrayState → XArrayState) : (s.modX f).pending = s.pending := rfl
@[simp] theorem modX_board (s : State) (f : XArrayState → XArrayState) : (s.modX f).board = s.board := rfl
@[simp] theorem modX_nv (s : State) (f : XArrayState → XArrayState) : (s.modX f).nv = s.nv := rfl
@[simp] theorem modX_regs (s : State) (f : XArrayState → XArrayState) : (s.modX f).regs = s.regs := rfl
@[simp] theorem modX_doms (s : State) (f : XArrayState → XArrayState) : (s.modX f).doms = s.doms := rfl
@[simp] theorem modX_drawn (s : State) (f : XArrayState → XArrayState) : (s.modX f).drawn = s.drawn := rfl
@[simp] theorem modX_dram (s : State) (f : XArrayState → XArrayState) : (s.modX f).dram = s.dram := rfl
@[simp] theorem modX_outbox (s : State) (f : XArrayState → XArrayState) : (s.modX f).outbox = s.outbox := rfl
@[simp] theorem modX_time (s : State) (f : XArrayState → XArrayState) : (s.modX f).time = s.time := rfl
@[simp] theorem modX_pos (s : State) (f : XArrayState → XArrayState) : (s.modX f).pos = s.pos := rfl
@[simp] theorem modX_dowel (s : State) (f : XArrayState → XArrayState) : (s.modX f).dowel = s.dowel := rfl
@[simp] theorem modX_avail (s : State) (f : XArrayState → XArrayState) : (s.modX f).avail = s.avail := rfl
@[simp] theorem modX_power (s : State) (f : XArrayState → XArrayState) : (s.modX f).power = s.power := rfl
@[simp] theorem modX_dict (s : State) (f : XArrayState → XArrayState) : (s.modX f).dict = s.dict := rfl
@[simp] theorem modX_fabric (s : State) (f : XArrayState → XArrayState) : (s.modX f).fabric = s.fabric := rfl
@[simp] theorem modX_dsp (s : State) (f : XArrayState → XArrayState) : (s.modX f).dsp = s.dsp := rfl
@[simp] theorem modX_insp (s : State) (f : XArrayState → XArrayState) : (s.modX f).insp = s.insp := rfl
@[simp] theorem modX_winnow (s : State) (f : XArrayState → XArrayState) : (s.modX f).winnow = s.winnow := rfl
@[simp] theorem modX_ddr (s : State) (f : XArrayState → XArrayState) : (s.modX f).ddr = s.ddr := rfl
@[simp] theorem modX_xarray (s : State) (f : XArrayState → XArrayState) : (s.modX f).xarray = f s.xarray := rfl
@[simp] theorem modX_crib (s : State) (f : XArrayState → XArrayState) : (s.modX f).crib = s.crib := rfl
@[simp] theorem modX_sheaf (s : State) (f : XArrayState → XArrayState) : (s.modX f).sheaf = s.sheaf := rfl
@[simp] theorem modX_reg (s : State) (f : XArrayState → XArrayState) (idx_ sub_ : Nat) : (s.modX f).reg idx_ sub_ = s.reg idx_ sub_ := rfl
@[simp] theorem modX_flag (s : State) (f : XArrayState → XArrayState) (idx_ sub_ : Nat) : (s.modX f).flag idx_ sub_ = s.flag idx_ sub_ := rfl
@[simp] theorem modX_sreg (s : State) (f : XArrayState → XArrayState) (w_ idx_ sub_ : Nat) : (s.modX f).sreg w_ idx_ sub_ = s.sreg w_ idx_ sub_ := rfl
@[simp] theorem modX_status (s : State) (f : XArrayState → XArrayState) (idx_ : Nat) : (s.modX f).status idx_ = s.status idx_ := rfl

/-! ## setHoldoff -/

@[simp] theorem setHoldoff_pending (s : State) (j n : Nat) : (s.setHoldoff j n).pending = s.pending := rfl
@[simp] theorem setHoldoff_board (s : State) (j n : Nat) : (s.setHoldoff j n).board = s.board := rfl
@[simp] theorem setHoldoff_nv (s : State) (j n : Nat) : (s.setHoldoff j n).nv = s.nv := rfl
@[simp] theorem setHoldoff_regs (s : State) (j n : Nat) : (s.setHoldoff j n).regs = s.regs := rfl
@[simp] theorem setHoldoff_doms (s : State) (j n : Nat) : (s.setHoldoff j n).doms = s.doms := rfl
@[simp] theorem setHoldoff_drawn (s : State) (j n : Nat) : (s.setHoldoff j n).drawn = s.drawn := rfl
@[simp] theorem setHoldoff_dram (s : State) (j n : Nat) : (s.setHoldoff j n).dram = s.dram := rfl
@[simp] theorem setHoldoff_outbox (s : State) (j n : Nat) : (s.setHoldoff j n).outbox = s.outbox := rfl
@[simp] theorem setHoldoff_time (s : State) (j n : Nat) : (s.setHoldoff j n).time = s.time := rfl
@[simp] theorem setHoldoff_pos (s : State) (j n : Nat) : (s.setHoldoff j n).pos = s.pos := rfl
@[simp] theorem setHoldoff_dowel (s : State) (j n : Nat) : (s.setHoldoff j n).dowel = s.dowel := rfl
@[simp] theorem setHoldoff_avail (s : State) (j n : Nat) : (s.setHoldoff j n).avail = s.avail := rfl
@[simp] theorem setHoldoff_power (s : State) (j n : Nat) : (s.setHoldoff j n).power = s.power := rfl
@[simp] theorem setHoldoff_dict (s : State) (j n : Nat) : (s.setHoldoff j n).dict = s.dict := rfl
@[simp] theorem setHoldoff_fabric (s : State) (j n : Nat) : (s.setHoldoff j n).fabric = s.fabric := rfl
@[simp] theorem setHoldoff_dsp (s : State) (j n : Nat) : (s.setHoldoff j n).dsp = s.dsp := rfl
@[simp] theorem setHoldoff_insp (s : State) (j n : Nat) : (s.setHoldoff j n).insp = s.insp := rfl
@[simp] theorem setHoldoff_winnow (s : State) (j n : Nat) : (s.setHoldoff j n).winnow = { s.winnow with holdoff := modNth (fun _ => n) s.winnow.holdoff j } := rfl
@[simp] theorem setHoldoff_ddr (s : State) (j n : Nat) : (s.setHoldoff j n).ddr = s.ddr := rfl
@[simp] theorem setHoldoff_xarray (s : State) (j n : Nat) : (s.setHoldoff j n).xarray = s.xarray := rfl
@[simp] theorem setHoldoff_crib (s : State) (j n : Nat) : (s.setHoldoff j n).crib = s.crib := rfl
@[simp] theorem setHoldoff_sheaf (s : State) (j n : Nat) : (s.setHoldoff j n).sheaf = s.sheaf := rfl
@[simp] theorem setHoldoff_reg (s : State) (j n : Nat) (idx_ sub_ : Nat) : (s.setHoldoff j n).reg idx_ sub_ = s.reg idx_ sub_ := rfl
@[simp] theorem setHoldoff_flag (s : State) (j n : Nat) (idx_ sub_ : Nat) : (s.setHoldoff j n).flag idx_ sub_ = s.flag idx_ sub_ := rfl
@[simp] theorem setHoldoff_sreg (s : State) (j n : Nat) (w_ idx_ sub_ : Nat) : (s.setHoldoff j n).sreg w_ idx_ sub_ = s.sreg w_ idx_ sub_ := rfl
@[simp] theorem setHoldoff_status (s : State) (j n : Nat) (idx_ : Nat) : (s.setHoldoff j n).status idx_ = s.status idx_ := rfl

/-! ## modDove -/

@[simp] theorem modDove_pending (s : State) (f : DoveState → DoveState) : (s.modDove f).pending = s.pending := rfl
@[simp] theorem modDove_board (s : State) (f : DoveState → DoveState) : (s.modDove f).board = s.board := rfl
@[simp] theorem modDove_nv (s : State) (f : DoveState → DoveState) : (s.modDove f).nv = s.nv := rfl
@[simp] theorem modDove_regs (s : State) (f : DoveState → DoveState) : (s.modDove f).regs = s.regs := rfl
@[simp] theorem modDove_doms (s : State) (f : DoveState → DoveState) : (s.modDove f).doms = s.doms := rfl
@[simp] theorem modDove_drawn (s : State) (f : DoveState → DoveState) : (s.modDove f).drawn = s.drawn := rfl
@[simp] theorem modDove_dram (s : State) (f : DoveState → DoveState) : (s.modDove f).dram = s.dram := rfl
@[simp] theorem modDove_outbox (s : State) (f : DoveState → DoveState) : (s.modDove f).outbox = s.outbox := rfl
@[simp] theorem modDove_time (s : State) (f : DoveState → DoveState) : (s.modDove f).time = s.time := rfl
@[simp] theorem modDove_pos (s : State) (f : DoveState → DoveState) : (s.modDove f).pos = s.pos := rfl
@[simp] theorem modDove_dowel (s : State) (f : DoveState → DoveState) : (s.modDove f).dowel = s.dowel := rfl
@[simp] theorem modDove_avail (s : State) (f : DoveState → DoveState) : (s.modDove f).avail = s.avail := rfl
@[simp] theorem modDove_power (s : State) (f : DoveState → DoveState) : (s.modDove f).power = s.power := rfl
@[simp] theorem modDove_dict (s : State) (f : DoveState → DoveState) : (s.modDove f).dict = s.dict := rfl
@[simp] theorem modDove_fabric (s : State) (f : DoveState → DoveState) : (s.modDove f).fabric = s.fabric := rfl
@[simp] theorem modDove_dsp (s : State) (f : DoveState → DoveState) : (s.modDove f).dsp = s.dsp := rfl
@[simp] theorem modDove_insp (s : State) (f : DoveState → DoveState) : (s.modDove f).insp = { s.insp with dove := f s.insp.dove } := rfl
@[simp] theorem modDove_winnow (s : State) (f : DoveState → DoveState) : (s.modDove f).winnow = s.winnow := rfl
@[simp] theorem modDove_ddr (s : State) (f : DoveState → DoveState) : (s.modDove f).ddr = s.ddr := rfl
@[simp] theorem modDove_xarray (s : State) (f : DoveState → DoveState) : (s.modDove f).xarray = s.xarray := rfl
@[simp] theorem modDove_crib (s : State) (f : DoveState → DoveState) : (s.modDove f).crib = s.crib := rfl
@[simp] theorem modDove_sheaf (s : State) (f : DoveState → DoveState) : (s.modDove f).sheaf = s.sheaf := rfl
@[simp] theorem modDove_reg (s : State) (f : DoveState → DoveState) (idx_ sub_ : Nat) : (s.modDove f).reg idx_ sub_ = s.reg idx_ sub_ := rfl
@[simp] theorem modDove_flag (s : State) (f : DoveState → DoveState) (idx_ sub_ : Nat) : (s.modDove f).flag idx_ sub_ = s.flag idx_ sub_ := rfl
@[simp] theorem modDove_sreg (s : State) (f : DoveState → DoveState) (w_ idx_ sub_ : Nat) : (s.modDove f).sreg w_ idx_ sub_ = s.sreg w_ idx_ sub_ := rfl
@[simp] theorem modDove_status (s : State) (f : DoveState → DoveState) (idx_ : Nat) : (s.modDove f).status idx_ = s.status idx_ := rfl

/-! ## modGlean -/

@[simp] theorem modGlean_pending (s : State) (f : GleanState → GleanState) : (s.modGlean f).pending = s.pending := rfl
@[simp] theorem modGlean_board (s : State) (f : GleanState → GleanState) : (s.modGlean f).board = s.board := rfl
@[simp] theorem modGlean_nv (s : State) (f : GleanState → GleanState) : (s.modGlean f).nv = s.nv := rfl
@[simp] theorem modGlean_regs (s : State) (f : GleanState → GleanState) : (s.modGlean f).regs = s.regs := rfl
@[simp] theorem modGlean_doms (s : State) (f : GleanState → GleanState) : (s.modGlean f).doms = s.doms := rfl
@[simp] theorem modGlean_drawn (s : State) (f : GleanState → GleanState) : (s.modGlean f).drawn = s.drawn := rfl
@[simp] theorem modGlean_dram (s : State) (f : GleanState → GleanState) : (s.modGlean f).dram = s.dram := rfl
@[simp] theorem modGlean_outbox (s : State) (f : GleanState → GleanState) : (s.modGlean f).outbox = s.outbox := rfl
@[simp] theorem modGlean_time (s : State) (f : GleanState → GleanState) : (s.modGlean f).time = s.time := rfl
@[simp] theorem modGlean_pos (s : State) (f : GleanState → GleanState) : (s.modGlean f).pos = s.pos := rfl
@[simp] theorem modGlean_dowel (s : State) (f : GleanState → GleanState) : (s.modGlean f).dowel = s.dowel := rfl
@[simp] theorem modGlean_avail (s : State) (f : GleanState → GleanState) : (s.modGlean f).avail = s.avail := rfl
@[simp] theorem modGlean_power (s : State) (f : GleanState → GleanState) : (s.modGlean f).power = s.power := rfl
@[simp] theorem modGlean_dict (s : State) (f : GleanState → GleanState) : (s.modGlean f).dict = s.dict := rfl
@[simp] theorem modGlean_fabric (s : State) (f : GleanState → GleanState) : (s.modGlean f).fabric = s.fabric := rfl
@[simp] theorem modGlean_dsp (s : State) (f : GleanState → GleanState) : (s.modGlean f).dsp = s.dsp := rfl
@[simp] theorem modGlean_insp (s : State) (f : GleanState → GleanState) : (s.modGlean f).insp = { s.insp with glean := f s.insp.glean } := rfl
@[simp] theorem modGlean_winnow (s : State) (f : GleanState → GleanState) : (s.modGlean f).winnow = s.winnow := rfl
@[simp] theorem modGlean_ddr (s : State) (f : GleanState → GleanState) : (s.modGlean f).ddr = s.ddr := rfl
@[simp] theorem modGlean_xarray (s : State) (f : GleanState → GleanState) : (s.modGlean f).xarray = s.xarray := rfl
@[simp] theorem modGlean_crib (s : State) (f : GleanState → GleanState) : (s.modGlean f).crib = s.crib := rfl
@[simp] theorem modGlean_sheaf (s : State) (f : GleanState → GleanState) : (s.modGlean f).sheaf = s.sheaf := rfl
@[simp] theorem modGlean_reg (s : State) (f : GleanState → GleanState) (idx_ sub_ : Nat) : (s.modGlean f).reg idx_ sub_ = s.reg idx_ sub_ := rfl
@[simp] theorem modGlean_flag (s : State) (f : GleanState → GleanState) (idx_ sub_ : Nat) : (s.modGlean f).flag idx_ sub_ = s.flag idx_ sub_ := rfl
@[simp] theorem modGlean_sreg (s : State) (f : GleanState → GleanState) (w_ idx_ sub_ : Nat) : (s.modGlean f).sreg w_ idx_ sub_ = s.sreg w_ idx_ sub_ := rfl
@[simp] theorem modGlean_status (s : State) (f : GleanState → GleanState) (idx_ : Nat) : (s.modGlean f).status idx_ = s.status idx_ := rfl

/-! ## modCore -/

@[simp] theorem modCore_pending (s : State) (n : Nat) (f : DspCore → DspCore) : (s.modCore n f).pending = s.pending := rfl
@[simp] theorem modCore_board (s : State) (n : Nat) (f : DspCore → DspCore) : (s.modCore n f).board = s.board := rfl
@[simp] theorem modCore_nv (s : State) (n : Nat) (f : DspCore → DspCore) : (s.modCore n f).nv = s.nv := rfl
@[simp] theorem modCore_regs (s : State) (n : Nat) (f : DspCore → DspCore) : (s.modCore n f).regs = s.regs := rfl
@[simp] theorem modCore_doms (s : State) (n : Nat) (f : DspCore → DspCore) : (s.modCore n f).doms = s.doms := rfl
@[simp] theorem modCore_drawn (s : State) (n : Nat) (f : DspCore → DspCore) : (s.modCore n f).drawn = s.drawn := rfl
@[simp] theorem modCore_dram (s : State) (n : Nat) (f : DspCore → DspCore) : (s.modCore n f).dram = s.dram := rfl
@[simp] theorem modCore_outbox (s : State) (n : Nat) (f : DspCore → DspCore) : (s.modCore n f).outbox = s.outbox := rfl
@[simp] theorem modCore_time (s : State) (n : Nat) (f : DspCore → DspCore) : (s.modCore n f).time = s.time := rfl
@[simp] theorem modCore_pos (s : State) (n : Nat) (f : DspCore → DspCore) : (s.modCore n f).pos = s.pos := rfl
@[simp] theorem modCore_dowel (s : State) (n : Nat) (f : DspCore → DspCore) : (s.modCore n f).dowel = s.dowel := rfl
@[simp] theorem modCore_avail (s : State) (n : Nat) (f : DspCore → DspCore) : (s.modCore n f).avail = s.avail := rfl
@[simp] theorem modCore_power (s : State) (n : Nat) (f : DspCore → DspCore) : (s.modCore n f).power = s.power := rfl
@[simp] theorem modCore_dict (s : State) (n : Nat) (f : DspCore → DspCore) : (s.modCore n f).dict = s.dict := rfl
@[simp] theorem modCore_fabric (s : State) (n : Nat) (f : DspCore → DspCore) : (s.modCore n f).fabric = s.fabric := rfl
@[simp] theorem modCore_dsp (s : State) (n : Nat) (f : DspCore → DspCore) : (s.modCore n f).dsp = { s.dsp with cores := modNth f s.dsp.cores n } := rfl
@[simp] theorem modCore_insp (s : State) (n : Nat) (f : DspCore → DspCore) : (s.modCore n f).insp = s.insp := rfl
@[simp] theorem modCore_winnow (s : State) (n : Nat) (f : DspCore → DspCore) : (s.modCore n f).winnow = s.winnow := rfl
@[simp] theorem modCore_ddr (s : State) (n : Nat) (f : DspCore → DspCore) : (s.modCore n f).ddr = s.ddr := rfl
@[simp] theorem modCore_xarray (s : State) (n : Nat) (f : DspCore → DspCore) : (s.modCore n f).xarray = s.xarray := rfl
@[simp] theorem modCore_crib (s : State) (n : Nat) (f : DspCore → DspCore) : (s.modCore n f).crib = s.crib := rfl
@[simp] theorem modCore_sheaf (s : State) (n : Nat) (f : DspCore → DspCore) : (s.modCore n f).sheaf = s.sheaf := rfl
@[simp] theorem modCore_reg (s : State) (n : Nat) (f : DspCore → DspCore) (idx_ sub_ : Nat) : (s.modCore n f).reg idx_ sub_ = s.reg idx_ sub_ := rfl
@[simp] theorem modCore_flag (s : State) (n : Nat) (f : DspCore → DspCore) (idx_ sub_ : Nat) : (s.modCore n f).flag idx_ sub_ = s.flag idx_ sub_ := rfl
@[simp] theorem modCore_sreg (s : State) (n : Nat) (f : DspCore → DspCore) (w_ idx_ sub_ : Nat) : (s.modCore n f).sreg w_ idx_ sub_ = s.sreg w_ idx_ sub_ := rfl
@[simp] theorem modCore_status (s : State) (n : Nat) (f : DspCore → DspCore) (idx_ : Nat) : (s.modCore n f).status idx_ = s.status idx_ := rfl

/-! ## modFab -/

@[simp] theorem modFab_pending (s : State) (f : FabricState → FabricState) : (s.modFab f).pending = s.pending := rfl
@[simp] theorem modFab_board (s : State) (f : FabricState → FabricState) : (s.modFab f).board = s.board := rfl
@[simp] theorem modFab_nv (s : State) (f : FabricState → FabricState) : (s.modFab f).nv = s.nv := rfl
@[simp] theorem modFab_regs (s : State) (f : FabricState → FabricState) : (s.modFab f).regs = s.regs := rfl
@[simp] theorem modFab_doms (s : State) (f : FabricState → FabricState) : (s.modFab f).doms = s.doms := rfl
@[simp] theorem modFab_drawn (s : State) (f : FabricState → FabricState) : (s.modFab f).drawn = s.drawn := rfl
@[simp] theorem modFab_dram (s : State) (f : FabricState → FabricState) : (s.modFab f).dram = s.dram := rfl
@[simp] theorem modFab_outbox (s : State) (f : FabricState → FabricState) : (s.modFab f).outbox = s.outbox := rfl
@[simp] theorem modFab_time (s : State) (f : FabricState → FabricState) : (s.modFab f).time = s.time := rfl
@[simp] theorem modFab_pos (s : State) (f : FabricState → FabricState) : (s.modFab f).pos = s.pos := rfl
@[simp] theorem modFab_dowel (s : State) (f : FabricState → FabricState) : (s.modFab f).dowel = s.dowel := rfl
@[simp] theorem modFab_avail (s : State) (f : FabricState → FabricState) : (s.modFab f).avail = s.avail := rfl
@[simp] theorem modFab_power (s : State) (f : FabricState → FabricState) : (s.modFab f).power = s.power := rfl
@[simp] theorem modFab_dict (s : State) (f : FabricState → FabricState) : (s.modFab f).dict = s.dict := rfl
@[simp] theorem modFab_fabric (s : State) (f : FabricState → FabricState) : (s.modFab f).fabric = f s.fabric := rfl
@[simp] theorem modFab_dsp (s : State) (f : FabricState → FabricState) : (s.modFab f).dsp = s.dsp := rfl
@[simp] theorem modFab_insp (s : State) (f : FabricState → FabricState) : (s.modFab f).insp = s.insp := rfl
@[simp] theorem modFab_winnow (s : State) (f : FabricState → FabricState) : (s.modFab f).winnow = s.winnow := rfl
@[simp] theorem modFab_ddr (s : State) (f : FabricState → FabricState) : (s.modFab f).ddr = s.ddr := rfl
@[simp] theorem modFab_xarray (s : State) (f : FabricState → FabricState) : (s.modFab f).xarray = s.xarray := rfl
@[simp] theorem modFab_crib (s : State) (f : FabricState → FabricState) : (s.modFab f).crib = s.crib := rfl
@[simp] theorem modFab_sheaf (s : State) (f : FabricState → FabricState) : (s.modFab f).sheaf = s.sheaf := rfl
@[simp] theorem modFab_reg (s : State) (f : FabricState → FabricState) (idx_ sub_ : Nat) : (s.modFab f).reg idx_ sub_ = s.reg idx_ sub_ := rfl
@[simp] theorem modFab_flag (s : State) (f : FabricState → FabricState) (idx_ sub_ : Nat) : (s.modFab f).flag idx_ sub_ = s.flag idx_ sub_ := rfl
@[simp] theorem modFab_sreg (s : State) (f : FabricState → FabricState) (w_ idx_ sub_ : Nat) : (s.modFab f).sreg w_ idx_ sub_ = s.sreg w_ idx_ sub_ := rfl
@[simp] theorem modFab_status (s : State) (f : FabricState → FabricState) (idx_ : Nat) : (s.modFab f).status idx_ = s.status idx_ := rfl

/-! ## modPower -/

@[simp] theorem modPower_pending (s : State) (f : PowerState → PowerState) : (s.modPower f).pending = s.pending := rfl
@[simp] theorem modPower_board (s : State) (f : PowerState → PowerState) : (s.modPower f).board = s.board := rfl
@[simp] theorem modPower_nv (s : State) (f : PowerState → PowerState) : (s.modPower f).nv = s.nv := rfl
@[simp] theorem modPower_regs (s : State) (f : PowerState → PowerState) : (s.modPower f).regs = s.regs := rfl
@[simp] theorem modPower_doms (s : State) (f : PowerState → PowerState) : (s.modPower f).doms = s.doms := rfl
@[simp] theorem modPower_drawn (s : State) (f : PowerState → PowerState) : (s.modPower f).drawn = s.drawn := rfl
@[simp] theorem modPower_dram (s : State) (f : PowerState → PowerState) : (s.modPower f).dram = s.dram := rfl
@[simp] theorem modPower_outbox (s : State) (f : PowerState → PowerState) : (s.modPower f).outbox = s.outbox := rfl
@[simp] theorem modPower_time (s : State) (f : PowerState → PowerState) : (s.modPower f).time = s.time := rfl
@[simp] theorem modPower_pos (s : State) (f : PowerState → PowerState) : (s.modPower f).pos = s.pos := rfl
@[simp] theorem modPower_dowel (s : State) (f : PowerState → PowerState) : (s.modPower f).dowel = s.dowel := rfl
@[simp] theorem modPower_avail (s : State) (f : PowerState → PowerState) : (s.modPower f).avail = s.avail := rfl
@[simp] theorem modPower_power (s : State) (f : PowerState → PowerState) : (s.modPower f).power = f s.power := rfl
@[simp] theorem modPower_dict (s : State) (f : PowerState → PowerState) : (s.modPower f).dict = s.dict := rfl
@[simp] theorem modPower_fabric (s : State) (f : PowerState → PowerState) : (s.modPower f).fabric = s.fabric := rfl
@[simp] theorem modPower_dsp (s : State) (f : PowerState → PowerState) : (s.modPower f).dsp = s.dsp := rfl
@[simp] theorem modPower_insp (s : State) (f : PowerState → PowerState) : (s.modPower f).insp = s.insp := rfl
@[simp] theorem modPower_winnow (s : State) (f : PowerState → PowerState) : (s.modPower f).winnow = s.winnow := rfl
@[simp] theorem modPower_ddr (s : State) (f : PowerState → PowerState) : (s.modPower f).ddr = s.ddr := rfl
@[simp] theorem modPower_xarray (s : State) (f : PowerState → PowerState) : (s.modPower f).xarray = s.xarray := rfl
@[simp] theorem modPower_crib (s : State) (f : PowerState → PowerState) : (s.modPower f).crib = s.crib := rfl
@[simp] theorem modPower_sheaf (s : State) (f : PowerState → PowerState) : (s.modPower f).sheaf = s.sheaf := rfl
@[simp] theorem modPower_reg (s : State) (f : PowerState → PowerState) (idx_ sub_ : Nat) : (s.modPower f).reg idx_ sub_ = s.reg idx_ sub_ := rfl
@[simp] theorem modPower_flag (s : State) (f : PowerState → PowerState) (idx_ sub_ : Nat) : (s.modPower f).flag idx_ sub_ = s.flag idx_ sub_ := rfl
@[simp] theorem modPower_sreg (s : State) (f : PowerState → PowerState) (w_ idx_ sub_ : Nat) : (s.modPower f).sreg w_ idx_ sub_ = s.sreg w_ idx_ sub_ := rfl
@[simp] theorem modPower_status (s : State) (f : PowerState → PowerState) (idx_ : Nat) : (s.modPower f).status idx_ = s.status idx_ := rfl

end Sys2Proof.Machine
end

