-- ==== Sys2Proof/Laws/Ops.lean ====
section
/-! SUPPORT. What the shared operations of Machine/Ops.lean do: the fields they leave alone, and what every entry reads after them. -/

set_option Elab.async false

namespace Sys2Proof.Machine

set_option linter.unusedVariables false
set_option linter.unusedSimpArgs false

/-- What every step of a fold leaves alone, the fold leaves alone. -/
theorem foldl_same {α β γ : Type} (P : β → γ) {f : β → α → β} (hf : ∀ s x, P (f s x) = P s) (xs : List α) (s : β) : P (xs.foldl f s) = P s := by
  induction xs generalizing s with
  | nil => rfl
  | cons x xs ih => exact (ih (f s x)).trans (hf s x)

/-- As foldl_same, where only the members of the list keep it. -/
theorem foldl_same_mem {α β γ : Type} (P : β → γ) {f : β → α → β} (xs : List α) (s : β) (hf : ∀ s x, x ∈ xs → P (f s x) = P s) :
    P (xs.foldl f s) = P s := by
  induction xs generalizing s with
  | nil => rfl
  | cons x xs ih =>
    exact (ih (f s x) (fun t y hy => hf t y (List.mem_cons_of_mem _ hy))).trans (hf s x List.mem_cons_self)

/-- The indices `idxWith` lists lie in its range. -/
theorem idxWith_range {s : State} {lo hi sub v i : Nat} (h : i ∈ s.idxWith lo hi sub v) : lo ≤ i ∧ i ≤ hi := by
  simp only [State.idxWith, List.mem_map, List.mem_filter, Bool.and_eq_true, decide_eq_true_eq] at h
  obtain ⟨p, hp, rfl⟩ := h
  omega

/-! ## Counters of the dictionary -/

@[simp] theorem inc32_reg_same (s : State) (i a n : Nat) : (s.inc32 i a n).reg i a = satAdd32 (s.reg i a) n := reg_setReg_same _ _ _ _
@[simp] theorem inc64_reg_same (s : State) (i a n : Nat) : (s.inc64 i a n).reg i a = wrapAdd64 (s.reg i a) n := reg_setReg_same _ _ _ _
@[simp] theorem inc8_reg_same (s : State) (i a n : Nat) : (s.inc8 i a n).reg i a = min (s.reg i a + n) 255 := reg_setReg_same _ _ _ _
theorem inc32_reg_key (s : State) {i j a b : Nat} (n : Nat) (h : key j b ≠ key i a) : (s.inc32 i a n).reg j b = s.reg j b := reg_setReg_key _ _ h
theorem inc64_reg_key (s : State) {i j a b : Nat} (n : Nat) (h : key j b ≠ key i a) : (s.inc64 i a n).reg j b = s.reg j b := reg_setReg_key _ _ h
theorem inc8_reg_key (s : State) {i j a b : Nat} (n : Nat) (h : key j b ≠ key i a) : (s.inc8 i a n).reg j b = s.reg j b := reg_setReg_key _ _ h

/-! ## Fields the operations leave alone -/

@[simp] theorem inc32_pending (s : State) (i a n : Nat) : (s.inc32 i a n).pending = s.pending := rfl
@[simp] theorem inc32_board (s : State) (i a n : Nat) : (s.inc32 i a n).board = s.board := rfl
@[simp] theorem inc32_nv (s : State) (i a n : Nat) : (s.inc32 i a n).nv = s.nv := rfl
@[simp] theorem inc32_doms (s : State) (i a n : Nat) : (s.inc32 i a n).doms = s.doms := rfl
@[simp] theorem inc32_drawn (s : State) (i a n : Nat) : (s.inc32 i a n).drawn = s.drawn := rfl
@[simp] theorem inc32_dram (s : State) (i a n : Nat) : (s.inc32 i a n).dram = s.dram := rfl
@[simp] theorem inc32_outbox (s : State) (i a n : Nat) : (s.inc32 i a n).outbox = s.outbox := rfl
@[simp] theorem inc32_time (s : State) (i a n : Nat) : (s.inc32 i a n).time = s.time := rfl
@[simp] theorem inc32_pos (s : State) (i a n : Nat) : (s.inc32 i a n).pos = s.pos := rfl
@[simp] theorem inc32_dowel (s : State) (i a n : Nat) : (s.inc32 i a n).dowel = s.dowel := rfl
@[simp] theorem inc32_avail (s : State) (i a n : Nat) : (s.inc32 i a n).avail = s.avail := rfl
@[simp] theorem inc32_power (s : State) (i a n : Nat) : (s.inc32 i a n).power = s.power := rfl
@[simp] theorem inc32_dict (s : State) (i a n : Nat) : (s.inc32 i a n).dict = s.dict := rfl
@[simp] theorem inc32_fabric (s : State) (i a n : Nat) : (s.inc32 i a n).fabric = s.fabric := rfl
@[simp] theorem inc32_dsp (s : State) (i a n : Nat) : (s.inc32 i a n).dsp = s.dsp := rfl
@[simp] theorem inc32_insp (s : State) (i a n : Nat) : (s.inc32 i a n).insp = s.insp := rfl
@[simp] theorem inc32_winnow (s : State) (i a n : Nat) : (s.inc32 i a n).winnow = s.winnow := rfl
@[simp] theorem inc32_ddr (s : State) (i a n : Nat) : (s.inc32 i a n).ddr = s.ddr := rfl
@[simp] theorem inc32_xarray (s : State) (i a n : Nat) : (s.inc32 i a n).xarray = s.xarray := rfl
@[simp] theorem inc32_crib (s : State) (i a n : Nat) : (s.inc32 i a n).crib = s.crib := rfl
@[simp] theorem inc32_sheaf (s : State) (i a n : Nat) : (s.inc32 i a n).sheaf = s.sheaf := rfl
@[simp] theorem inc64_pending (s : State) (i a n : Nat) : (s.inc64 i a n).pending = s.pending := rfl
@[simp] theorem inc64_board (s : State) (i a n : Nat) : (s.inc64 i a n).board = s.board := rfl
@[simp] theorem inc64_nv (s : State) (i a n : Nat) : (s.inc64 i a n).nv = s.nv := rfl
@[simp] theorem inc64_doms (s : State) (i a n : Nat) : (s.inc64 i a n).doms = s.doms := rfl
@[simp] theorem inc64_drawn (s : State) (i a n : Nat) : (s.inc64 i a n).drawn = s.drawn := rfl
@[simp] theorem inc64_dram (s : State) (i a n : Nat) : (s.inc64 i a n).dram = s.dram := rfl
@[simp] theorem inc64_outbox (s : State) (i a n : Nat) : (s.inc64 i a n).outbox = s.outbox := rfl
@[simp] theorem inc64_time (s : State) (i a n : Nat) : (s.inc64 i a n).time = s.time := rfl
@[simp] theorem inc64_pos (s : State) (i a n : Nat) : (s.inc64 i a n).pos = s.pos := rfl
@[simp] theorem inc64_dowel (s : State) (i a n : Nat) : (s.inc64 i a n).dowel = s.dowel := rfl
@[simp] theorem inc64_avail (s : State) (i a n : Nat) : (s.inc64 i a n).avail = s.avail := rfl
@[simp] theorem inc64_power (s : State) (i a n : Nat) : (s.inc64 i a n).power = s.power := rfl
@[simp] theorem inc64_dict (s : State) (i a n : Nat) : (s.inc64 i a n).dict = s.dict := rfl
@[simp] theorem inc64_fabric (s : State) (i a n : Nat) : (s.inc64 i a n).fabric = s.fabric := rfl
@[simp] theorem inc64_dsp (s : State) (i a n : Nat) : (s.inc64 i a n).dsp = s.dsp := rfl
@[simp] theorem inc64_insp (s : State) (i a n : Nat) : (s.inc64 i a n).insp = s.insp := rfl
@[simp] theorem inc64_winnow (s : State) (i a n : Nat) : (s.inc64 i a n).winnow = s.winnow := rfl
@[simp] theorem inc64_ddr (s : State) (i a n : Nat) : (s.inc64 i a n).ddr = s.ddr := rfl
@[simp] theorem inc64_xarray (s : State) (i a n : Nat) : (s.inc64 i a n).xarray = s.xarray := rfl
@[simp] theorem inc64_crib (s : State) (i a n : Nat) : (s.inc64 i a n).crib = s.crib := rfl
@[simp] theorem inc64_sheaf (s : State) (i a n : Nat) : (s.inc64 i a n).sheaf = s.sheaf := rfl
@[simp] theorem inc8_pending (s : State) (i a n : Nat) : (s.inc8 i a n).pending = s.pending := rfl
@[simp] theorem inc8_board (s : State) (i a n : Nat) : (s.inc8 i a n).board = s.board := rfl
@[simp] theorem inc8_nv (s : State) (i a n : Nat) : (s.inc8 i a n).nv = s.nv := rfl
@[simp] theorem inc8_doms (s : State) (i a n : Nat) : (s.inc8 i a n).doms = s.doms := rfl
@[simp] theorem inc8_drawn (s : State) (i a n : Nat) : (s.inc8 i a n).drawn = s.drawn := rfl
@[simp] theorem inc8_dram (s : State) (i a n : Nat) : (s.inc8 i a n).dram = s.dram := rfl
@[simp] theorem inc8_outbox (s : State) (i a n : Nat) : (s.inc8 i a n).outbox = s.outbox := rfl
@[simp] theorem inc8_time (s : State) (i a n : Nat) : (s.inc8 i a n).time = s.time := rfl
@[simp] theorem inc8_pos (s : State) (i a n : Nat) : (s.inc8 i a n).pos = s.pos := rfl
@[simp] theorem inc8_dowel (s : State) (i a n : Nat) : (s.inc8 i a n).dowel = s.dowel := rfl
@[simp] theorem inc8_avail (s : State) (i a n : Nat) : (s.inc8 i a n).avail = s.avail := rfl
@[simp] theorem inc8_power (s : State) (i a n : Nat) : (s.inc8 i a n).power = s.power := rfl
@[simp] theorem inc8_dict (s : State) (i a n : Nat) : (s.inc8 i a n).dict = s.dict := rfl
@[simp] theorem inc8_fabric (s : State) (i a n : Nat) : (s.inc8 i a n).fabric = s.fabric := rfl
@[simp] theorem inc8_dsp (s : State) (i a n : Nat) : (s.inc8 i a n).dsp = s.dsp := rfl
@[simp] theorem inc8_insp (s : State) (i a n : Nat) : (s.inc8 i a n).insp = s.insp := rfl
@[simp] theorem inc8_winnow (s : State) (i a n : Nat) : (s.inc8 i a n).winnow = s.winnow := rfl
@[simp] theorem inc8_ddr (s : State) (i a n : Nat) : (s.inc8 i a n).ddr = s.ddr := rfl
@[simp] theorem inc8_xarray (s : State) (i a n : Nat) : (s.inc8 i a n).xarray = s.xarray := rfl
@[simp] theorem inc8_crib (s : State) (i a n : Nat) : (s.inc8 i a n).crib = s.crib := rfl
@[simp] theorem inc8_sheaf (s : State) (i a n : Nat) : (s.inc8 i a n).sheaf = s.sheaf := rfl
@[simp] theorem regBit_pending (s : State) (i a k : Nat) (b : Bool) : (s.regBit i a k b).pending = s.pending := rfl
@[simp] theorem regBit_board (s : State) (i a k : Nat) (b : Bool) : (s.regBit i a k b).board = s.board := rfl
@[simp] theorem regBit_nv (s : State) (i a k : Nat) (b : Bool) : (s.regBit i a k b).nv = s.nv := rfl
@[simp] theorem regBit_doms (s : State) (i a k : Nat) (b : Bool) : (s.regBit i a k b).doms = s.doms := rfl
@[simp] theorem regBit_drawn (s : State) (i a k : Nat) (b : Bool) : (s.regBit i a k b).drawn = s.drawn := rfl
@[simp] theorem regBit_dram (s : State) (i a k : Nat) (b : Bool) : (s.regBit i a k b).dram = s.dram := rfl
@[simp] theorem regBit_outbox (s : State) (i a k : Nat) (b : Bool) : (s.regBit i a k b).outbox = s.outbox := rfl
@[simp] theorem regBit_time (s : State) (i a k : Nat) (b : Bool) : (s.regBit i a k b).time = s.time := rfl
@[simp] theorem regBit_pos (s : State) (i a k : Nat) (b : Bool) : (s.regBit i a k b).pos = s.pos := rfl
@[simp] theorem regBit_dowel (s : State) (i a k : Nat) (b : Bool) : (s.regBit i a k b).dowel = s.dowel := rfl
@[simp] theorem regBit_avail (s : State) (i a k : Nat) (b : Bool) : (s.regBit i a k b).avail = s.avail := rfl
@[simp] theorem regBit_power (s : State) (i a k : Nat) (b : Bool) : (s.regBit i a k b).power = s.power := rfl
@[simp] theorem regBit_dict (s : State) (i a k : Nat) (b : Bool) : (s.regBit i a k b).dict = s.dict := rfl
@[simp] theorem regBit_fabric (s : State) (i a k : Nat) (b : Bool) : (s.regBit i a k b).fabric = s.fabric := rfl
@[simp] theorem regBit_dsp (s : State) (i a k : Nat) (b : Bool) : (s.regBit i a k b).dsp = s.dsp := rfl
@[simp] theorem regBit_insp (s : State) (i a k : Nat) (b : Bool) : (s.regBit i a k b).insp = s.insp := rfl
@[simp] theorem regBit_winnow (s : State) (i a k : Nat) (b : Bool) : (s.regBit i a k b).winnow = s.winnow := rfl
@[simp] theorem regBit_ddr (s : State) (i a k : Nat) (b : Bool) : (s.regBit i a k b).ddr = s.ddr := rfl
@[simp] theorem regBit_xarray (s : State) (i a k : Nat) (b : Bool) : (s.regBit i a k b).xarray = s.xarray := rfl
@[simp] theorem regBit_crib (s : State) (i a k : Nat) (b : Bool) : (s.regBit i a k b).crib = s.crib := rfl
@[simp] theorem regBit_sheaf (s : State) (i a k : Nat) (b : Bool) : (s.regBit i a k b).sheaf = s.sheaf := rfl
@[simp] theorem setDom_pending (s : State) (i a : Nat) (bs : Bytes) : (s.setDom i a bs).pending = s.pending := by unfold State.setDom; split <;> rfl
@[simp] theorem setDom_board (s : State) (i a : Nat) (bs : Bytes) : (s.setDom i a bs).board = s.board := by unfold State.setDom; split <;> rfl
@[simp] theorem setDom_nv (s : State) (i a : Nat) (bs : Bytes) : (s.setDom i a bs).nv = s.nv := by unfold State.setDom; split <;> rfl
@[simp] theorem setDom_drawn (s : State) (i a : Nat) (bs : Bytes) : (s.setDom i a bs).drawn = s.drawn := by unfold State.setDom; split <;> rfl
@[simp] theorem setDom_dram (s : State) (i a : Nat) (bs : Bytes) : (s.setDom i a bs).dram = s.dram := by unfold State.setDom; split <;> rfl
@[simp] theorem setDom_outbox (s : State) (i a : Nat) (bs : Bytes) : (s.setDom i a bs).outbox = s.outbox := by unfold State.setDom; split <;> rfl
@[simp] theorem setDom_time (s : State) (i a : Nat) (bs : Bytes) : (s.setDom i a bs).time = s.time := by unfold State.setDom; split <;> rfl
@[simp] theorem setDom_pos (s : State) (i a : Nat) (bs : Bytes) : (s.setDom i a bs).pos = s.pos := by unfold State.setDom; split <;> rfl
@[simp] theorem setDom_dowel (s : State) (i a : Nat) (bs : Bytes) : (s.setDom i a bs).dowel = s.dowel := by unfold State.setDom; split <;> rfl
@[simp] theorem setDom_avail (s : State) (i a : Nat) (bs : Bytes) : (s.setDom i a bs).avail = s.avail := by unfold State.setDom; split <;> rfl
@[simp] theorem setDom_power (s : State) (i a : Nat) (bs : Bytes) : (s.setDom i a bs).power = s.power := by unfold State.setDom; split <;> rfl
@[simp] theorem setDom_dict (s : State) (i a : Nat) (bs : Bytes) : (s.setDom i a bs).dict = s.dict := by unfold State.setDom; split <;> rfl
@[simp] theorem setDom_fabric (s : State) (i a : Nat) (bs : Bytes) : (s.setDom i a bs).fabric = s.fabric := by unfold State.setDom; split <;> rfl
@[simp] theorem setDom_dsp (s : State) (i a : Nat) (bs : Bytes) : (s.setDom i a bs).dsp = s.dsp := by unfold State.setDom; split <;> rfl
@[simp] theorem setDom_insp (s : State) (i a : Nat) (bs : Bytes) : (s.setDom i a bs).insp = s.insp := by unfold State.setDom; split <;> rfl
@[simp] theorem setDom_winnow (s : State) (i a : Nat) (bs : Bytes) : (s.setDom i a bs).winnow = s.winnow := by unfold State.setDom; split <;> rfl
@[simp] theorem setDom_ddr (s : State) (i a : Nat) (bs : Bytes) : (s.setDom i a bs).ddr = s.ddr := by unfold State.setDom; split <;> rfl
@[simp] theorem setDom_xarray (s : State) (i a : Nat) (bs : Bytes) : (s.setDom i a bs).xarray = s.xarray := by unfold State.setDom; split <;> rfl
@[simp] theorem setDom_crib (s : State) (i a : Nat) (bs : Bytes) : (s.setDom i a bs).crib = s.crib := by unfold State.setDom; split <;> rfl
@[simp] theorem setDom_sheaf (s : State) (i a : Nat) (bs : Bytes) : (s.setDom i a bs).sheaf = s.sheaf := by unfold State.setDom; split <;> rfl
@[simp] theorem setDom_regs (s : State) (i a : Nat) (bs : Bytes) : (s.setDom i a bs).regs = s.regs := by unfold State.setDom; split <;> rfl
@[simp] theorem counterAdd_pending (s : State) (n k : Nat) : (s.counterAdd n k).pending = s.pending := by simp only [State.counterAdd]; split <;> rfl
@[simp] theorem counterAdd_board (s : State) (n k : Nat) : (s.counterAdd n k).board = s.board := by simp only [State.counterAdd]; split <;> rfl
@[simp] theorem counterAdd_nv (s : State) (n k : Nat) : (s.counterAdd n k).nv = s.nv := by simp only [State.counterAdd]; split <;> rfl
@[simp] theorem counterAdd_doms (s : State) (n k : Nat) : (s.counterAdd n k).doms = s.doms := by simp only [State.counterAdd]; split <;> rfl
@[simp] theorem counterAdd_drawn (s : State) (n k : Nat) : (s.counterAdd n k).drawn = s.drawn := by simp only [State.counterAdd]; split <;> rfl
@[simp] theorem counterAdd_dram (s : State) (n k : Nat) : (s.counterAdd n k).dram = s.dram := by simp only [State.counterAdd]; split <;> rfl
@[simp] theorem counterAdd_outbox (s : State) (n k : Nat) : (s.counterAdd n k).outbox = s.outbox := by simp only [State.counterAdd]; split <;> rfl
@[simp] theorem counterAdd_time (s : State) (n k : Nat) : (s.counterAdd n k).time = s.time := by simp only [State.counterAdd]; split <;> rfl
@[simp] theorem counterAdd_pos (s : State) (n k : Nat) : (s.counterAdd n k).pos = s.pos := by simp only [State.counterAdd]; split <;> rfl
@[simp] theorem counterAdd_avail (s : State) (n k : Nat) : (s.counterAdd n k).avail = s.avail := by simp only [State.counterAdd]; split <;> rfl
@[simp] theorem counterAdd_power (s : State) (n k : Nat) : (s.counterAdd n k).power = s.power := by simp only [State.counterAdd]; split <;> rfl
@[simp] theorem counterAdd_dict (s : State) (n k : Nat) : (s.counterAdd n k).dict = s.dict := by simp only [State.counterAdd]; split <;> rfl
@[simp] theorem counterAdd_fabric (s : State) (n k : Nat) : (s.counterAdd n k).fabric = s.fabric := by simp only [State.counterAdd]; split <;> rfl
@[simp] theorem counterAdd_dsp (s : State) (n k : Nat) : (s.counterAdd n k).dsp = s.dsp := by simp only [State.counterAdd]; split <;> rfl
@[simp] theorem counterAdd_insp (s : State) (n k : Nat) : (s.counterAdd n k).insp = s.insp := by simp only [State.counterAdd]; split <;> rfl
@[simp] theorem counterAdd_winnow (s : State) (n k : Nat) : (s.counterAdd n k).winnow = s.winnow := by simp only [State.counterAdd]; split <;> rfl
@[simp] theorem counterAdd_ddr (s : State) (n k : Nat) : (s.counterAdd n k).ddr = s.ddr := by simp only [State.counterAdd]; split <;> rfl
@[simp] theorem counterAdd_xarray (s : State) (n k : Nat) : (s.counterAdd n k).xarray = s.xarray := by simp only [State.counterAdd]; split <;> rfl
@[simp] theorem counterAdd_crib (s : State) (n k : Nat) : (s.counterAdd n k).crib = s.crib := by simp only [State.counterAdd]; split <;> rfl
@[simp] theorem counterAdd_sheaf (s : State) (n k : Nat) : (s.counterAdd n k).sheaf = s.sheaf := by simp only [State.counterAdd]; split <;> rfl
@[simp] theorem countE_pending (s : State) (src p : Nat) : (s.countE src p).pending = s.pending := by
  unfold State.countE
  exact foldl_same State.pending (fun s idx => by repeat' first | rfl | (simp only [counterAdd_pending]; done) | split) _ _
@[simp] theorem countE_board (s : State) (src p : Nat) : (s.countE src p).board = s.board := by
  unfold State.countE
  exact foldl_same State.board (fun s idx => by repeat' first | rfl | (simp only [counterAdd_board]; done) | split) _ _
@[simp] theorem countE_nv (s : State) (src p : Nat) : (s.countE src p).nv = s.nv := by
  unfold State.countE
  exact foldl_same State.nv (fun s idx => by repeat' first | rfl | (simp only [counterAdd_nv]; done) | split) _ _
@[simp] theorem countE_doms (s : State) (src p : Nat) : (s.countE src p).doms = s.doms := by
  unfold State.countE
  exact foldl_same State.doms (fun s idx => by repeat' first | rfl | (simp only [counterAdd_doms]; done) | split) _ _
@[simp] theorem countE_drawn (s : State) (src p : Nat) : (s.countE src p).drawn = s.drawn := by
  unfold State.countE
  exact foldl_same State.drawn (fun s idx => by repeat' first | rfl | (simp only [counterAdd_drawn]; done) | split) _ _
@[simp] theorem countE_dram (s : State) (src p : Nat) : (s.countE src p).dram = s.dram := by
  unfold State.countE
  exact foldl_same State.dram (fun s idx => by repeat' first | rfl | (simp only [counterAdd_dram]; done) | split) _ _
@[simp] theorem countE_outbox (s : State) (src p : Nat) : (s.countE src p).outbox = s.outbox := by
  unfold State.countE
  exact foldl_same State.outbox (fun s idx => by repeat' first | rfl | (simp only [counterAdd_outbox]; done) | split) _ _
@[simp] theorem countE_time (s : State) (src p : Nat) : (s.countE src p).time = s.time := by
  unfold State.countE
  exact foldl_same State.time (fun s idx => by repeat' first | rfl | (simp only [counterAdd_time]; done) | split) _ _
@[simp] theorem countE_pos (s : State) (src p : Nat) : (s.countE src p).pos = s.pos := by
  unfold State.countE
  exact foldl_same State.pos (fun s idx => by repeat' first | rfl | (simp only [counterAdd_pos]; done) | split) _ _
@[simp] theorem countE_avail (s : State) (src p : Nat) : (s.countE src p).avail = s.avail := by
  unfold State.countE
  exact foldl_same State.avail (fun s idx => by repeat' first | rfl | (simp only [counterAdd_avail]; done) | split) _ _
@[simp] theorem countE_power (s : State) (src p : Nat) : (s.countE src p).power = s.power := by
  unfold State.countE
  exact foldl_same State.power (fun s idx => by repeat' first | rfl | (simp only [counterAdd_power]; done) | split) _ _
@[simp] theorem countE_dict (s : State) (src p : Nat) : (s.countE src p).dict = s.dict := by
  unfold State.countE
  exact foldl_same State.dict (fun s idx => by repeat' first | rfl | (simp only [counterAdd_dict]; done) | split) _ _
@[simp] theorem countE_fabric (s : State) (src p : Nat) : (s.countE src p).fabric = s.fabric := by
  unfold State.countE
  exact foldl_same State.fabric (fun s idx => by repeat' first | rfl | (simp only [counterAdd_fabric]; done) | split) _ _
@[simp] theorem countE_dsp (s : State) (src p : Nat) : (s.countE src p).dsp = s.dsp := by
  unfold State.countE
  exact foldl_same State.dsp (fun s idx => by repeat' first | rfl | (simp only [counterAdd_dsp]; done) | split) _ _
@[simp] theorem countE_insp (s : State) (src p : Nat) : (s.countE src p).insp = s.insp := by
  unfold State.countE
  exact foldl_same State.insp (fun s idx => by repeat' first | rfl | (simp only [counterAdd_insp]; done) | split) _ _
@[simp] theorem countE_winnow (s : State) (src p : Nat) : (s.countE src p).winnow = s.winnow := by
  unfold State.countE
  exact foldl_same State.winnow (fun s idx => by repeat' first | rfl | (simp only [counterAdd_winnow]; done) | split) _ _
@[simp] theorem countE_ddr (s : State) (src p : Nat) : (s.countE src p).ddr = s.ddr := by
  unfold State.countE
  exact foldl_same State.ddr (fun s idx => by repeat' first | rfl | (simp only [counterAdd_ddr]; done) | split) _ _
@[simp] theorem countE_xarray (s : State) (src p : Nat) : (s.countE src p).xarray = s.xarray := by
  unfold State.countE
  exact foldl_same State.xarray (fun s idx => by repeat' first | rfl | (simp only [counterAdd_xarray]; done) | split) _ _
@[simp] theorem countE_crib (s : State) (src p : Nat) : (s.countE src p).crib = s.crib := by
  unfold State.countE
  exact foldl_same State.crib (fun s idx => by repeat' first | rfl | (simp only [counterAdd_crib]; done) | split) _ _
@[simp] theorem countE_sheaf (s : State) (src p : Nat) : (s.countE src p).sheaf = s.sheaf := by
  unfold State.countE
  exact foldl_same State.sheaf (fun s idx => by repeat' first | rfl | (simp only [counterAdd_sheaf]; done) | split) _ _
@[simp] theorem countV_pending (s : State) (src v : Nat) : (s.countV src v).pending = s.pending := by
  unfold State.countV
  exact foldl_same State.pending (fun s idx => by repeat' first | rfl | (simp only [counterAdd_pending]; done) | split) _ _
@[simp] theorem countV_board (s : State) (src v : Nat) : (s.countV src v).board = s.board := by
  unfold State.countV
  exact foldl_same State.board (fun s idx => by repeat' first | rfl | (simp only [counterAdd_board]; done) | split) _ _
@[simp] theorem countV_nv (s : State) (src v : Nat) : (s.countV src v).nv = s.nv := by
  unfold State.countV
  exact foldl_same State.nv (fun s idx => by repeat' first | rfl | (simp only [counterAdd_nv]; done) | split) _ _
@[simp] theorem countV_doms (s : State) (src v : Nat) : (s.countV src v).doms = s.doms := by
  unfold State.countV
  exact foldl_same State.doms (fun s idx => by repeat' first | rfl | (simp only [counterAdd_doms]; done) | split) _ _
@[simp] theorem countV_drawn (s : State) (src v : Nat) : (s.countV src v).drawn = s.drawn := by
  unfold State.countV
  exact foldl_same State.drawn (fun s idx => by repeat' first | rfl | (simp only [counterAdd_drawn]; done) | split) _ _
@[simp] theorem countV_dram (s : State) (src v : Nat) : (s.countV src v).dram = s.dram := by
  unfold State.countV
  exact foldl_same State.dram (fun s idx => by repeat' first | rfl | (simp only [counterAdd_dram]; done) | split) _ _
@[simp] theorem countV_outbox (s : State) (src v : Nat) : (s.countV src v).outbox = s.outbox := by
  unfold State.countV
  exact foldl_same State.outbox (fun s idx => by repeat' first | rfl | (simp only [counterAdd_outbox]; done) | split) _ _
@[simp] theorem countV_time (s : State) (src v : Nat) : (s.countV src v).time = s.time := by
  unfold State.countV
  exact foldl_same State.time (fun s idx => by repeat' first | rfl | (simp only [counterAdd_time]; done) | split) _ _
@[simp] theorem countV_pos (s : State) (src v : Nat) : (s.countV src v).pos = s.pos := by
  unfold State.countV
  exact foldl_same State.pos (fun s idx => by repeat' first | rfl | (simp only [counterAdd_pos]; done) | split) _ _
@[simp] theorem countV_avail (s : State) (src v : Nat) : (s.countV src v).avail = s.avail := by
  unfold State.countV
  exact foldl_same State.avail (fun s idx => by repeat' first | rfl | (simp only [counterAdd_avail]; done) | split) _ _
@[simp] theorem countV_power (s : State) (src v : Nat) : (s.countV src v).power = s.power := by
  unfold State.countV
  exact foldl_same State.power (fun s idx => by repeat' first | rfl | (simp only [counterAdd_power]; done) | split) _ _
@[simp] theorem countV_dict (s : State) (src v : Nat) : (s.countV src v).dict = s.dict := by
  unfold State.countV
  exact foldl_same State.dict (fun s idx => by repeat' first | rfl | (simp only [counterAdd_dict]; done) | split) _ _
@[simp] theorem countV_fabric (s : State) (src v : Nat) : (s.countV src v).fabric = s.fabric := by
  unfold State.countV
  exact foldl_same State.fabric (fun s idx => by repeat' first | rfl | (simp only [counterAdd_fabric]; done) | split) _ _
@[simp] theorem countV_dsp (s : State) (src v : Nat) : (s.countV src v).dsp = s.dsp := by
  unfold State.countV
  exact foldl_same State.dsp (fun s idx => by repeat' first | rfl | (simp only [counterAdd_dsp]; done) | split) _ _
@[simp] theorem countV_insp (s : State) (src v : Nat) : (s.countV src v).insp = s.insp := by
  unfold State.countV
  exact foldl_same State.insp (fun s idx => by repeat' first | rfl | (simp only [counterAdd_insp]; done) | split) _ _
@[simp] theorem countV_winnow (s : State) (src v : Nat) : (s.countV src v).winnow = s.winnow := by
  unfold State.countV
  exact foldl_same State.winnow (fun s idx => by repeat' first | rfl | (simp only [counterAdd_winnow]; done) | split) _ _
@[simp] theorem countV_ddr (s : State) (src v : Nat) : (s.countV src v).ddr = s.ddr := by
  unfold State.countV
  exact foldl_same State.ddr (fun s idx => by repeat' first | rfl | (simp only [counterAdd_ddr]; done) | split) _ _
@[simp] theorem countV_xarray (s : State) (src v : Nat) : (s.countV src v).xarray = s.xarray := by
  unfold State.countV
  exact foldl_same State.xarray (fun s idx => by repeat' first | rfl | (simp only [counterAdd_xarray]; done) | split) _ _
@[simp] theorem countV_crib (s : State) (src v : Nat) : (s.countV src v).crib = s.crib := by
  unfold State.countV
  exact foldl_same State.crib (fun s idx => by repeat' first | rfl | (simp only [counterAdd_crib]; done) | split) _ _
@[simp] theorem countV_sheaf (s : State) (src v : Nat) : (s.countV src v).sheaf = s.sheaf := by
  unfold State.countV
  exact foldl_same State.sheaf (fun s idx => by repeat' first | rfl | (simp only [counterAdd_sheaf]; done) | split) _ _
@[simp] theorem countV_regs (s : State) (src v : Nat) : (s.countV src v).regs = s.regs := by
  unfold State.countV
  exact foldl_same State.regs (fun s idx => by split <;> rfl) _ _
@[simp] theorem fireAt_pending (s : State) (src p sc : Nat) : (s.fireAt src p sc).pending = s.pending := countE_pending _ _ _
@[simp] theorem fireAt_board (s : State) (src p sc : Nat) : (s.fireAt src p sc).board = s.board := countE_board _ _ _
@[simp] theorem fireAt_nv (s : State) (src p sc : Nat) : (s.fireAt src p sc).nv = s.nv := countE_nv _ _ _
@[simp] theorem fireAt_doms (s : State) (src p sc : Nat) : (s.fireAt src p sc).doms = s.doms := countE_doms _ _ _
@[simp] theorem fireAt_drawn (s : State) (src p sc : Nat) : (s.fireAt src p sc).drawn = s.drawn := countE_drawn _ _ _
@[simp] theorem fireAt_dram (s : State) (src p sc : Nat) : (s.fireAt src p sc).dram = s.dram := countE_dram _ _ _
@[simp] theorem fireAt_outbox (s : State) (src p sc : Nat) : (s.fireAt src p sc).outbox = s.outbox := countE_outbox _ _ _
@[simp] theorem fireAt_time (s : State) (src p sc : Nat) : (s.fireAt src p sc).time = s.time := countE_time _ _ _
@[simp] theorem fireAt_pos (s : State) (src p sc : Nat) : (s.fireAt src p sc).pos = s.pos := countE_pos _ _ _
@[simp] theorem fireAt_avail (s : State) (src p sc : Nat) : (s.fireAt src p sc).avail = s.avail := countE_avail _ _ _
@[simp] theorem fireAt_power (s : State) (src p sc : Nat) : (s.fireAt src p sc).power = s.power := countE_power _ _ _
@[simp] theorem fireAt_dict (s : State) (src p sc : Nat) : (s.fireAt src p sc).dict = s.dict := countE_dict _ _ _
@[simp] theorem fireAt_fabric (s : State) (src p sc : Nat) : (s.fireAt src p sc).fabric = s.fabric := countE_fabric _ _ _
@[simp] theorem fireAt_dsp (s : State) (src p sc : Nat) : (s.fireAt src p sc).dsp = s.dsp := countE_dsp _ _ _
@[simp] theorem fireAt_insp (s : State) (src p sc : Nat) : (s.fireAt src p sc).insp = s.insp := countE_insp _ _ _
@[simp] theorem fireAt_winnow (s : State) (src p sc : Nat) : (s.fireAt src p sc).winnow = s.winnow := countE_winnow _ _ _
@[simp] theorem fireAt_ddr (s : State) (src p sc : Nat) : (s.fireAt src p sc).ddr = s.ddr := countE_ddr _ _ _
@[simp] theorem fireAt_xarray (s : State) (src p sc : Nat) : (s.fireAt src p sc).xarray = s.xarray := countE_xarray _ _ _
@[simp] theorem fireAt_crib (s : State) (src p sc : Nat) : (s.fireAt src p sc).crib = s.crib := countE_crib _ _ _
@[simp] theorem fireAt_sheaf (s : State) (src p sc : Nat) : (s.fireAt src p sc).sheaf = s.sheaf := countE_sheaf _ _ _
@[simp] theorem fire_pending (s : State) (src p : Nat) : (s.fire src p).pending = s.pending := countE_pending _ _ _
@[simp] theorem fire_board (s : State) (src p : Nat) : (s.fire src p).board = s.board := countE_board _ _ _
@[simp] theorem fire_nv (s : State) (src p : Nat) : (s.fire src p).nv = s.nv := countE_nv _ _ _
@[simp] theorem fire_doms (s : State) (src p : Nat) : (s.fire src p).doms = s.doms := countE_doms _ _ _
@[simp] theorem fire_drawn (s : State) (src p : Nat) : (s.fire src p).drawn = s.drawn := countE_drawn _ _ _
@[simp] theorem fire_dram (s : State) (src p : Nat) : (s.fire src p).dram = s.dram := countE_dram _ _ _
@[simp] theorem fire_outbox (s : State) (src p : Nat) : (s.fire src p).outbox = s.outbox := countE_outbox _ _ _
@[simp] theorem fire_time (s : State) (src p : Nat) : (s.fire src p).time = s.time := countE_time _ _ _
@[simp] theorem fire_pos (s : State) (src p : Nat) : (s.fire src p).pos = s.pos := countE_pos _ _ _
@[simp] theorem fire_avail (s : State) (src p : Nat) : (s.fire src p).avail = s.avail := countE_avail _ _ _
@[simp] theorem fire_power (s : State) (src p : Nat) : (s.fire src p).power = s.power := countE_power _ _ _
@[simp] theorem fire_dict (s : State) (src p : Nat) : (s.fire src p).dict = s.dict := countE_dict _ _ _
@[simp] theorem fire_fabric (s : State) (src p : Nat) : (s.fire src p).fabric = s.fabric := countE_fabric _ _ _
@[simp] theorem fire_dsp (s : State) (src p : Nat) : (s.fire src p).dsp = s.dsp := countE_dsp _ _ _
@[simp] theorem fire_insp (s : State) (src p : Nat) : (s.fire src p).insp = s.insp := countE_insp _ _ _
@[simp] theorem fire_winnow (s : State) (src p : Nat) : (s.fire src p).winnow = s.winnow := countE_winnow _ _ _
@[simp] theorem fire_ddr (s : State) (src p : Nat) : (s.fire src p).ddr = s.ddr := countE_ddr _ _ _
@[simp] theorem fire_xarray (s : State) (src p : Nat) : (s.fire src p).xarray = s.xarray := countE_xarray _ _ _
@[simp] theorem fire_crib (s : State) (src p : Nat) : (s.fire src p).crib = s.crib := countE_crib _ _ _
@[simp] theorem fire_sheaf (s : State) (src p : Nat) : (s.fire src p).sheaf = s.sheaf := countE_sheaf _ _ _
@[simp] theorem notifyAt_pending (s : State) (e b k : Nat) (c : Bytes) (n : Nat) : (s.notifyAt e b k c n).pending = s.pending := by
  unfold State.notifyAt
  split <;> rfl
@[simp] theorem notifyAt_board (s : State) (e b k : Nat) (c : Bytes) (n : Nat) : (s.notifyAt e b k c n).board = s.board := by
  unfold State.notifyAt
  split <;> rfl
@[simp] theorem notifyAt_nv (s : State) (e b k : Nat) (c : Bytes) (n : Nat) : (s.notifyAt e b k c n).nv = s.nv := by
  unfold State.notifyAt
  split <;> rfl
@[simp] theorem notifyAt_doms (s : State) (e b k : Nat) (c : Bytes) (n : Nat) : (s.notifyAt e b k c n).doms = s.doms := by
  unfold State.notifyAt
  split <;> rfl
@[simp] theorem notifyAt_drawn (s : State) (e b k : Nat) (c : Bytes) (n : Nat) : (s.notifyAt e b k c n).drawn = s.drawn := by
  unfold State.notifyAt
  split <;> rfl
@[simp] theorem notifyAt_dram (s : State) (e b k : Nat) (c : Bytes) (n : Nat) : (s.notifyAt e b k c n).dram = s.dram := by
  unfold State.notifyAt
  split <;> rfl
@[simp] theorem notifyAt_outbox (s : State) (e b k : Nat) (c : Bytes) (n : Nat) : (s.notifyAt e b k c n).outbox = s.outbox := by
  unfold State.notifyAt
  split <;> rfl
@[simp] theorem notifyAt_time (s : State) (e b k : Nat) (c : Bytes) (n : Nat) : (s.notifyAt e b k c n).time = s.time := by
  unfold State.notifyAt
  split <;> rfl
@[simp] theorem notifyAt_pos (s : State) (e b k : Nat) (c : Bytes) (n : Nat) : (s.notifyAt e b k c n).pos = s.pos := by
  unfold State.notifyAt
  split <;> rfl
@[simp] theorem notifyAt_dowel (s : State) (e b k : Nat) (c : Bytes) (n : Nat) : (s.notifyAt e b k c n).dowel = s.dowel := by
  unfold State.notifyAt
  split <;> rfl
@[simp] theorem notifyAt_avail (s : State) (e b k : Nat) (c : Bytes) (n : Nat) : (s.notifyAt e b k c n).avail = s.avail := by
  unfold State.notifyAt
  split <;> rfl
@[simp] theorem notifyAt_power (s : State) (e b k : Nat) (c : Bytes) (n : Nat) : (s.notifyAt e b k c n).power = s.power := by
  unfold State.notifyAt
  split <;> rfl
@[simp] theorem notifyAt_fabric (s : State) (e b k : Nat) (c : Bytes) (n : Nat) : (s.notifyAt e b k c n).fabric = s.fabric := by
  unfold State.notifyAt
  split <;> rfl
@[simp] theorem notifyAt_dsp (s : State) (e b k : Nat) (c : Bytes) (n : Nat) : (s.notifyAt e b k c n).dsp = s.dsp := by
  unfold State.notifyAt
  split <;> rfl
@[simp] theorem notifyAt_insp (s : State) (e b k : Nat) (c : Bytes) (n : Nat) : (s.notifyAt e b k c n).insp = s.insp := by
  unfold State.notifyAt
  split <;> rfl
@[simp] theorem notifyAt_winnow (s : State) (e b k : Nat) (c : Bytes) (n : Nat) : (s.notifyAt e b k c n).winnow = s.winnow := by
  unfold State.notifyAt
  split <;> rfl
@[simp] theorem notifyAt_ddr (s : State) (e b k : Nat) (c : Bytes) (n : Nat) : (s.notifyAt e b k c n).ddr = s.ddr := by
  unfold State.notifyAt
  split <;> rfl
@[simp] theorem notifyAt_xarray (s : State) (e b k : Nat) (c : Bytes) (n : Nat) : (s.notifyAt e b k c n).xarray = s.xarray := by
  unfold State.notifyAt
  split <;> rfl
@[simp] theorem notifyAt_crib (s : State) (e b k : Nat) (c : Bytes) (n : Nat) : (s.notifyAt e b k c n).crib = s.crib := by
  unfold State.notifyAt
  split <;> rfl
@[simp] theorem notifyAt_sheaf (s : State) (e b k : Nat) (c : Bytes) (n : Nat) : (s.notifyAt e b k c n).sheaf = s.sheaf := by
  unfold State.notifyAt
  split <;> rfl
@[simp] theorem notifyAt_regs (s : State) (e b k : Nat) (c : Bytes) (n : Nat) : (s.notifyAt e b k c n).regs = s.regs := by
  unfold State.notifyAt
  split <;> rfl
@[simp] theorem notifyBut_pending (s : State) (e b k : Nat) (c : Bytes) : (s.notifyBut e b k c).pending = s.pending := foldl_same State.pending (fun s n => notifyAt_pending s e b k c n) _ _
@[simp] theorem notifyBut_board (s : State) (e b k : Nat) (c : Bytes) : (s.notifyBut e b k c).board = s.board := foldl_same State.board (fun s n => notifyAt_board s e b k c n) _ _
@[simp] theorem notifyBut_nv (s : State) (e b k : Nat) (c : Bytes) : (s.notifyBut e b k c).nv = s.nv := foldl_same State.nv (fun s n => notifyAt_nv s e b k c n) _ _
@[simp] theorem notifyBut_doms (s : State) (e b k : Nat) (c : Bytes) : (s.notifyBut e b k c).doms = s.doms := foldl_same State.doms (fun s n => notifyAt_doms s e b k c n) _ _
@[simp] theorem notifyBut_drawn (s : State) (e b k : Nat) (c : Bytes) : (s.notifyBut e b k c).drawn = s.drawn := foldl_same State.drawn (fun s n => notifyAt_drawn s e b k c n) _ _
@[simp] theorem notifyBut_dram (s : State) (e b k : Nat) (c : Bytes) : (s.notifyBut e b k c).dram = s.dram := foldl_same State.dram (fun s n => notifyAt_dram s e b k c n) _ _
@[simp] theorem notifyBut_outbox (s : State) (e b k : Nat) (c : Bytes) : (s.notifyBut e b k c).outbox = s.outbox := foldl_same State.outbox (fun s n => notifyAt_outbox s e b k c n) _ _
@[simp] theorem notifyBut_time (s : State) (e b k : Nat) (c : Bytes) : (s.notifyBut e b k c).time = s.time := foldl_same State.time (fun s n => notifyAt_time s e b k c n) _ _
@[simp] theorem notifyBut_pos (s : State) (e b k : Nat) (c : Bytes) : (s.notifyBut e b k c).pos = s.pos := foldl_same State.pos (fun s n => notifyAt_pos s e b k c n) _ _
@[simp] theorem notifyBut_dowel (s : State) (e b k : Nat) (c : Bytes) : (s.notifyBut e b k c).dowel = s.dowel := foldl_same State.dowel (fun s n => notifyAt_dowel s e b k c n) _ _
@[simp] theorem notifyBut_avail (s : State) (e b k : Nat) (c : Bytes) : (s.notifyBut e b k c).avail = s.avail := foldl_same State.avail (fun s n => notifyAt_avail s e b k c n) _ _
@[simp] theorem notifyBut_power (s : State) (e b k : Nat) (c : Bytes) : (s.notifyBut e b k c).power = s.power := foldl_same State.power (fun s n => notifyAt_power s e b k c n) _ _
@[simp] theorem notifyBut_fabric (s : State) (e b k : Nat) (c : Bytes) : (s.notifyBut e b k c).fabric = s.fabric := foldl_same State.fabric (fun s n => notifyAt_fabric s e b k c n) _ _
@[simp] theorem notifyBut_dsp (s : State) (e b k : Nat) (c : Bytes) : (s.notifyBut e b k c).dsp = s.dsp := foldl_same State.dsp (fun s n => notifyAt_dsp s e b k c n) _ _
@[simp] theorem notifyBut_insp (s : State) (e b k : Nat) (c : Bytes) : (s.notifyBut e b k c).insp = s.insp := foldl_same State.insp (fun s n => notifyAt_insp s e b k c n) _ _
@[simp] theorem notifyBut_winnow (s : State) (e b k : Nat) (c : Bytes) : (s.notifyBut e b k c).winnow = s.winnow := foldl_same State.winnow (fun s n => notifyAt_winnow s e b k c n) _ _
@[simp] theorem notifyBut_ddr (s : State) (e b k : Nat) (c : Bytes) : (s.notifyBut e b k c).ddr = s.ddr := foldl_same State.ddr (fun s n => notifyAt_ddr s e b k c n) _ _
@[simp] theorem notifyBut_xarray (s : State) (e b k : Nat) (c : Bytes) : (s.notifyBut e b k c).xarray = s.xarray := foldl_same State.xarray (fun s n => notifyAt_xarray s e b k c n) _ _
@[simp] theorem notifyBut_crib (s : State) (e b k : Nat) (c : Bytes) : (s.notifyBut e b k c).crib = s.crib := foldl_same State.crib (fun s n => notifyAt_crib s e b k c n) _ _
@[simp] theorem notifyBut_sheaf (s : State) (e b k : Nat) (c : Bytes) : (s.notifyBut e b k c).sheaf = s.sheaf := foldl_same State.sheaf (fun s n => notifyAt_sheaf s e b k c n) _ _
@[simp] theorem notifyBut_regs (s : State) (e b k : Nat) (c : Bytes) : (s.notifyBut e b k c).regs = s.regs := foldl_same State.regs (fun s n => notifyAt_regs s e b k c n) _ _
@[simp] theorem notify_pending (s : State) (b k : Nat) (c : Bytes) : (s.notify b k c).pending = s.pending := notifyBut_pending _ _ _ _ _
@[simp] theorem notify_board (s : State) (b k : Nat) (c : Bytes) : (s.notify b k c).board = s.board := notifyBut_board _ _ _ _ _
@[simp] theorem notify_nv (s : State) (b k : Nat) (c : Bytes) : (s.notify b k c).nv = s.nv := notifyBut_nv _ _ _ _ _
@[simp] theorem notify_doms (s : State) (b k : Nat) (c : Bytes) : (s.notify b k c).doms = s.doms := notifyBut_doms _ _ _ _ _
@[simp] theorem notify_drawn (s : State) (b k : Nat) (c : Bytes) : (s.notify b k c).drawn = s.drawn := notifyBut_drawn _ _ _ _ _
@[simp] theorem notify_dram (s : State) (b k : Nat) (c : Bytes) : (s.notify b k c).dram = s.dram := notifyBut_dram _ _ _ _ _
@[simp] theorem notify_outbox (s : State) (b k : Nat) (c : Bytes) : (s.notify b k c).outbox = s.outbox := notifyBut_outbox _ _ _ _ _
@[simp] theorem notify_time (s : State) (b k : Nat) (c : Bytes) : (s.notify b k c).time = s.time := notifyBut_time _ _ _ _ _
@[simp] theorem notify_pos (s : State) (b k : Nat) (c : Bytes) : (s.notify b k c).pos = s.pos := notifyBut_pos _ _ _ _ _
@[simp] theorem notify_dowel (s : State) (b k : Nat) (c : Bytes) : (s.notify b k c).dowel = s.dowel := notifyBut_dowel _ _ _ _ _
@[simp] theorem notify_avail (s : State) (b k : Nat) (c : Bytes) : (s.notify b k c).avail = s.avail := notifyBut_avail _ _ _ _ _
@[simp] theorem notify_power (s : State) (b k : Nat) (c : Bytes) : (s.notify b k c).power = s.power := notifyBut_power _ _ _ _ _
@[simp] theorem notify_fabric (s : State) (b k : Nat) (c : Bytes) : (s.notify b k c).fabric = s.fabric := notifyBut_fabric _ _ _ _ _
@[simp] theorem notify_dsp (s : State) (b k : Nat) (c : Bytes) : (s.notify b k c).dsp = s.dsp := notifyBut_dsp _ _ _ _ _
@[simp] theorem notify_insp (s : State) (b k : Nat) (c : Bytes) : (s.notify b k c).insp = s.insp := notifyBut_insp _ _ _ _ _
@[simp] theorem notify_winnow (s : State) (b k : Nat) (c : Bytes) : (s.notify b k c).winnow = s.winnow := notifyBut_winnow _ _ _ _ _
@[simp] theorem notify_ddr (s : State) (b k : Nat) (c : Bytes) : (s.notify b k c).ddr = s.ddr := notifyBut_ddr _ _ _ _ _
@[simp] theorem notify_xarray (s : State) (b k : Nat) (c : Bytes) : (s.notify b k c).xarray = s.xarray := notifyBut_xarray _ _ _ _ _
@[simp] theorem notify_crib (s : State) (b k : Nat) (c : Bytes) : (s.notify b k c).crib = s.crib := notifyBut_crib _ _ _ _ _
@[simp] theorem notify_sheaf (s : State) (b k : Nat) (c : Bytes) : (s.notify b k c).sheaf = s.sheaf := notifyBut_sheaf _ _ _ _ _
@[simp] theorem notify_regs (s : State) (b k : Nat) (c : Bytes) : (s.notify b k c).regs = s.regs := notifyBut_regs _ _ _ _ _
@[simp] theorem abortLog_pending (s : State) (r e i a d c : Nat) : (s.abortLog r e i a d c).pending = s.pending := by simp [State.abortLog]
@[simp] theorem abortLog_board (s : State) (r e i a d c : Nat) : (s.abortLog r e i a d c).board = s.board := by simp [State.abortLog]
@[simp] theorem abortLog_nv (s : State) (r e i a d c : Nat) : (s.abortLog r e i a d c).nv = s.nv := by simp [State.abortLog]
@[simp] theorem abortLog_doms (s : State) (r e i a d c : Nat) : (s.abortLog r e i a d c).doms = s.doms := by simp [State.abortLog]
@[simp] theorem abortLog_drawn (s : State) (r e i a d c : Nat) : (s.abortLog r e i a d c).drawn = s.drawn := by simp [State.abortLog]
@[simp] theorem abortLog_dram (s : State) (r e i a d c : Nat) : (s.abortLog r e i a d c).dram = s.dram := by simp [State.abortLog]
@[simp] theorem abortLog_outbox (s : State) (r e i a d c : Nat) : (s.abortLog r e i a d c).outbox = s.outbox := by simp [State.abortLog]
@[simp] theorem abortLog_time (s : State) (r e i a d c : Nat) : (s.abortLog r e i a d c).time = s.time := by simp [State.abortLog]
@[simp] theorem abortLog_pos (s : State) (r e i a d c : Nat) : (s.abortLog r e i a d c).pos = s.pos := by simp [State.abortLog]
@[simp] theorem abortLog_dowel (s : State) (r e i a d c : Nat) : (s.abortLog r e i a d c).dowel = s.dowel := by simp [State.abortLog]
@[simp] theorem abortLog_avail (s : State) (r e i a d c : Nat) : (s.abortLog r e i a d c).avail = s.avail := by simp [State.abortLog]
@[simp] theorem abortLog_power (s : State) (r e i a d c : Nat) : (s.abortLog r e i a d c).power = s.power := by simp [State.abortLog]
@[simp] theorem abortLog_fabric (s : State) (r e i a d c : Nat) : (s.abortLog r e i a d c).fabric = s.fabric := by simp [State.abortLog]
@[simp] theorem abortLog_dsp (s : State) (r e i a d c : Nat) : (s.abortLog r e i a d c).dsp = s.dsp := by simp [State.abortLog]
@[simp] theorem abortLog_insp (s : State) (r e i a d c : Nat) : (s.abortLog r e i a d c).insp = s.insp := by simp [State.abortLog]
@[simp] theorem abortLog_winnow (s : State) (r e i a d c : Nat) : (s.abortLog r e i a d c).winnow = s.winnow := by simp [State.abortLog]
@[simp] theorem abortLog_ddr (s : State) (r e i a d c : Nat) : (s.abortLog r e i a d c).ddr = s.ddr := by simp [State.abortLog]
@[simp] theorem abortLog_xarray (s : State) (r e i a d c : Nat) : (s.abortLog r e i a d c).xarray = s.xarray := by simp [State.abortLog]
@[simp] theorem abortLog_crib (s : State) (r e i a d c : Nat) : (s.abortLog r e i a d c).crib = s.crib := by simp [State.abortLog]
@[simp] theorem abortLog_sheaf (s : State) (r e i a d c : Nat) : (s.abortLog r e i a d c).sheaf = s.sheaf := by simp [State.abortLog]
@[simp] theorem nvPlace_pending (s : State) (r : Nat) : (s.nvPlace r).pending = s.pending := by simp only [State.nvPlace]; repeat' first | rfl | split
@[simp] theorem nvPlace_board (s : State) (r : Nat) : (s.nvPlace r).board = s.board := by simp only [State.nvPlace]; repeat' first | rfl | split
@[simp] theorem nvPlace_doms (s : State) (r : Nat) : (s.nvPlace r).doms = s.doms := by simp only [State.nvPlace]; repeat' first | rfl | split
@[simp] theorem nvPlace_drawn (s : State) (r : Nat) : (s.nvPlace r).drawn = s.drawn := by simp only [State.nvPlace]; repeat' first | rfl | split
@[simp] theorem nvPlace_dram (s : State) (r : Nat) : (s.nvPlace r).dram = s.dram := by simp only [State.nvPlace]; repeat' first | rfl | split
@[simp] theorem nvPlace_outbox (s : State) (r : Nat) : (s.nvPlace r).outbox = s.outbox := by simp only [State.nvPlace]; repeat' first | rfl | split
@[simp] theorem nvPlace_time (s : State) (r : Nat) : (s.nvPlace r).time = s.time := by simp only [State.nvPlace]; repeat' first | rfl | split
@[simp] theorem nvPlace_pos (s : State) (r : Nat) : (s.nvPlace r).pos = s.pos := by simp only [State.nvPlace]; repeat' first | rfl | split
@[simp] theorem nvPlace_dowel (s : State) (r : Nat) : (s.nvPlace r).dowel = s.dowel := by simp only [State.nvPlace]; repeat' first | rfl | split
@[simp] theorem nvPlace_avail (s : State) (r : Nat) : (s.nvPlace r).avail = s.avail := by simp only [State.nvPlace]; repeat' first | rfl | split
@[simp] theorem nvPlace_dict (s : State) (r : Nat) : (s.nvPlace r).dict = s.dict := by simp only [State.nvPlace]; repeat' first | rfl | split
@[simp] theorem nvPlace_fabric (s : State) (r : Nat) : (s.nvPlace r).fabric = s.fabric := by simp only [State.nvPlace]; repeat' first | rfl | split
@[simp] theorem nvPlace_dsp (s : State) (r : Nat) : (s.nvPlace r).dsp = s.dsp := by simp only [State.nvPlace]; repeat' first | rfl | split
@[simp] theorem nvPlace_insp (s : State) (r : Nat) : (s.nvPlace r).insp = s.insp := by simp only [State.nvPlace]; repeat' first | rfl | split
@[simp] theorem nvPlace_winnow (s : State) (r : Nat) : (s.nvPlace r).winnow = s.winnow := by simp only [State.nvPlace]; repeat' first | rfl | split
@[simp] theorem nvPlace_ddr (s : State) (r : Nat) : (s.nvPlace r).ddr = s.ddr := by simp only [State.nvPlace]; repeat' first | rfl | split
@[simp] theorem nvPlace_xarray (s : State) (r : Nat) : (s.nvPlace r).xarray = s.xarray := by simp only [State.nvPlace]; repeat' first | rfl | split
@[simp] theorem nvPlace_crib (s : State) (r : Nat) : (s.nvPlace r).crib = s.crib := by simp only [State.nvPlace]; repeat' first | rfl | split
@[simp] theorem nvPlace_sheaf (s : State) (r : Nat) : (s.nvPlace r).sheaf = s.sheaf := by simp only [State.nvPlace]; repeat' first | rfl | split
@[simp] theorem faultRecord_pending (s : State) (c a i u n d : Nat) : (s.faultRecord c a i u n d).pending = s.pending := by simp only [State.faultRecord]; split <;> simp
@[simp] theorem faultRecord_board (s : State) (c a i u n d : Nat) : (s.faultRecord c a i u n d).board = s.board := by simp only [State.faultRecord]; split <;> simp
@[simp] theorem faultRecord_doms (s : State) (c a i u n d : Nat) : (s.faultRecord c a i u n d).doms = s.doms := by simp only [State.faultRecord]; split <;> simp
@[simp] theorem faultRecord_drawn (s : State) (c a i u n d : Nat) : (s.faultRecord c a i u n d).drawn = s.drawn := by simp only [State.faultRecord]; split <;> simp
@[simp] theorem faultRecord_dram (s : State) (c a i u n d : Nat) : (s.faultRecord c a i u n d).dram = s.dram := by simp only [State.faultRecord]; split <;> simp
@[simp] theorem faultRecord_outbox (s : State) (c a i u n d : Nat) : (s.faultRecord c a i u n d).outbox = s.outbox := by simp only [State.faultRecord]; split <;> simp
@[simp] theorem faultRecord_time (s : State) (c a i u n d : Nat) : (s.faultRecord c a i u n d).time = s.time := by simp only [State.faultRecord]; split <;> simp
@[simp] theorem faultRecord_pos (s : State) (c a i u n d : Nat) : (s.faultRecord c a i u n d).pos = s.pos := by simp only [State.faultRecord]; split <;> simp
@[simp] theorem faultRecord_avail (s : State) (c a i u n d : Nat) : (s.faultRecord c a i u n d).avail = s.avail := by simp only [State.faultRecord]; split <;> simp
@[simp] theorem faultRecord_fabric (s : State) (c a i u n d : Nat) : (s.faultRecord c a i u n d).fabric = s.fabric := by simp only [State.faultRecord]; split <;> simp
@[simp] theorem faultRecord_dsp (s : State) (c a i u n d : Nat) : (s.faultRecord c a i u n d).dsp = s.dsp := by simp only [State.faultRecord]; split <;> simp
@[simp] theorem faultRecord_insp (s : State) (c a i u n d : Nat) : (s.faultRecord c a i u n d).insp = s.insp := by simp only [State.faultRecord]; split <;> simp
@[simp] theorem faultRecord_winnow (s : State) (c a i u n d : Nat) : (s.faultRecord c a i u n d).winnow = s.winnow := by simp only [State.faultRecord]; split <;> simp
@[simp] theorem faultRecord_ddr (s : State) (c a i u n d : Nat) : (s.faultRecord c a i u n d).ddr = s.ddr := by simp only [State.faultRecord]; split <;> simp
@[simp] theorem faultRecord_xarray (s : State) (c a i u n d : Nat) : (s.faultRecord c a i u n d).xarray = s.xarray := by simp only [State.faultRecord]; split <;> simp
@[simp] theorem faultRecord_crib (s : State) (c a i u n d : Nat) : (s.faultRecord c a i u n d).crib = s.crib := by simp only [State.faultRecord]; split <;> simp
@[simp] theorem faultRecord_sheaf (s : State) (c a i u n d : Nat) : (s.faultRecord c a i u n d).sheaf = s.sheaf := by simp only [State.faultRecord]; split <;> simp
@[simp] theorem faultStart_pending (s : State) (c i u d : Nat) : (s.faultStart c i u d).pending = s.pending := by simp [State.faultStart]
@[simp] theorem faultStart_board (s : State) (c i u d : Nat) : (s.faultStart c i u d).board = s.board := by simp [State.faultStart]
@[simp] theorem faultStart_doms (s : State) (c i u d : Nat) : (s.faultStart c i u d).doms = s.doms := by simp [State.faultStart]
@[simp] theorem faultStart_drawn (s : State) (c i u d : Nat) : (s.faultStart c i u d).drawn = s.drawn := by simp [State.faultStart]
@[simp] theorem faultStart_dram (s : State) (c i u d : Nat) : (s.faultStart c i u d).dram = s.dram := by simp [State.faultStart]
@[simp] theorem faultStart_outbox (s : State) (c i u d : Nat) : (s.faultStart c i u d).outbox = s.outbox := by simp [State.faultStart]
@[simp] theorem faultStart_time (s : State) (c i u d : Nat) : (s.faultStart c i u d).time = s.time := by simp [State.faultStart]
@[simp] theorem faultStart_pos (s : State) (c i u d : Nat) : (s.faultStart c i u d).pos = s.pos := by simp [State.faultStart]
@[simp] theorem faultStart_fabric (s : State) (c i u d : Nat) : (s.faultStart c i u d).fabric = s.fabric := by simp [State.faultStart]
@[simp] theorem faultStart_dsp (s : State) (c i u d : Nat) : (s.faultStart c i u d).dsp = s.dsp := by simp [State.faultStart]
@[simp] theorem faultStart_insp (s : State) (c i u d : Nat) : (s.faultStart c i u d).insp = s.insp := by simp [State.faultStart]
@[simp] theorem faultStart_winnow (s : State) (c i u d : Nat) : (s.faultStart c i u d).winnow = s.winnow := by simp [State.faultStart]
@[simp] theorem faultStart_ddr (s : State) (c i u d : Nat) : (s.faultStart c i u d).ddr = s.ddr := by simp [State.faultStart]
@[simp] theorem faultStart_xarray (s : State) (c i u d : Nat) : (s.faultStart c i u d).xarray = s.xarray := by simp [State.faultStart]
@[simp] theorem faultStart_crib (s : State) (c i u d : Nat) : (s.faultStart c i u d).crib = s.crib := by simp [State.faultStart]
@[simp] theorem faultStart_sheaf (s : State) (c i u d : Nat) : (s.faultStart c i u d).sheaf = s.sheaf := by simp [State.faultStart]
@[simp] theorem faultDone_pending (s : State) (c a i u d : Nat) : (s.faultDone c a i u d).pending = s.pending := by simp only [State.faultDone]; split <;> simp
@[simp] theorem faultDone_board (s : State) (c a i u d : Nat) : (s.faultDone c a i u d).board = s.board := by simp only [State.faultDone]; split <;> simp
@[simp] theorem faultDone_doms (s : State) (c a i u d : Nat) : (s.faultDone c a i u d).doms = s.doms := by simp only [State.faultDone]; split <;> simp
@[simp] theorem faultDone_drawn (s : State) (c a i u d : Nat) : (s.faultDone c a i u d).drawn = s.drawn := by simp only [State.faultDone]; split <;> simp
@[simp] theorem faultDone_dram (s : State) (c a i u d : Nat) : (s.faultDone c a i u d).dram = s.dram := by simp only [State.faultDone]; split <;> simp
@[simp] theorem faultDone_outbox (s : State) (c a i u d : Nat) : (s.faultDone c a i u d).outbox = s.outbox := by simp only [State.faultDone]; split <;> simp
@[simp] theorem faultDone_time (s : State) (c a i u d : Nat) : (s.faultDone c a i u d).time = s.time := by simp only [State.faultDone]; split <;> simp
@[simp] theorem faultDone_pos (s : State) (c a i u d : Nat) : (s.faultDone c a i u d).pos = s.pos := by simp only [State.faultDone]; split <;> simp
@[simp] theorem faultDone_fabric (s : State) (c a i u d : Nat) : (s.faultDone c a i u d).fabric = s.fabric := by simp only [State.faultDone]; split <;> simp
@[simp] theorem faultDone_dsp (s : State) (c a i u d : Nat) : (s.faultDone c a i u d).dsp = s.dsp := by simp only [State.faultDone]; split <;> simp
@[simp] theorem faultDone_insp (s : State) (c a i u d : Nat) : (s.faultDone c a i u d).insp = s.insp := by simp only [State.faultDone]; split <;> simp
@[simp] theorem faultDone_winnow (s : State) (c a i u d : Nat) : (s.faultDone c a i u d).winnow = s.winnow := by simp only [State.faultDone]; split <;> simp
@[simp] theorem faultDone_ddr (s : State) (c a i u d : Nat) : (s.faultDone c a i u d).ddr = s.ddr := by simp only [State.faultDone]; split <;> simp
@[simp] theorem faultDone_xarray (s : State) (c a i u d : Nat) : (s.faultDone c a i u d).xarray = s.xarray := by simp only [State.faultDone]; split <;> simp
@[simp] theorem faultDone_crib (s : State) (c a i u d : Nat) : (s.faultDone c a i u d).crib = s.crib := by simp only [State.faultDone]; split <;> simp
@[simp] theorem faultDone_sheaf (s : State) (c a i u d : Nat) : (s.faultDone c a i u d).sheaf = s.sheaf := by simp only [State.faultDone]; split <;> simp
@[simp] theorem takeInput_pending (s : State) (k : Nat) : (s.takeInput k).pending = s.pending := rfl
@[simp] theorem takeInput_board (s : State) (k : Nat) : (s.takeInput k).board = s.board := rfl
@[simp] theorem takeInput_nv (s : State) (k : Nat) : (s.takeInput k).nv = s.nv := rfl
@[simp] theorem takeInput_doms (s : State) (k : Nat) : (s.takeInput k).doms = s.doms := rfl
@[simp] theorem takeInput_drawn (s : State) (k : Nat) : (s.takeInput k).drawn = s.drawn := rfl
@[simp] theorem takeInput_dram (s : State) (k : Nat) : (s.takeInput k).dram = s.dram := rfl
@[simp] theorem takeInput_outbox (s : State) (k : Nat) : (s.takeInput k).outbox = s.outbox := rfl
@[simp] theorem takeInput_time (s : State) (k : Nat) : (s.takeInput k).time = s.time := rfl
@[simp] theorem takeInput_pos (s : State) (k : Nat) : (s.takeInput k).pos = s.pos := rfl
@[simp] theorem takeInput_avail (s : State) (k : Nat) : (s.takeInput k).avail = s.avail := rfl
@[simp] theorem takeInput_power (s : State) (k : Nat) : (s.takeInput k).power = s.power := rfl
@[simp] theorem takeInput_dict (s : State) (k : Nat) : (s.takeInput k).dict = s.dict := rfl
@[simp] theorem takeInput_fabric (s : State) (k : Nat) : (s.takeInput k).fabric = s.fabric := rfl
@[simp] theorem takeInput_dsp (s : State) (k : Nat) : (s.takeInput k).dsp = s.dsp := rfl
@[simp] theorem takeInput_insp (s : State) (k : Nat) : (s.takeInput k).insp = s.insp := rfl
@[simp] theorem takeInput_winnow (s : State) (k : Nat) : (s.takeInput k).winnow = s.winnow := rfl
@[simp] theorem takeInput_ddr (s : State) (k : Nat) : (s.takeInput k).ddr = s.ddr := rfl
@[simp] theorem takeInput_xarray (s : State) (k : Nat) : (s.takeInput k).xarray = s.xarray := rfl
@[simp] theorem takeInput_crib (s : State) (k : Nat) : (s.takeInput k).crib = s.crib := rfl
@[simp] theorem takeInput_sheaf (s : State) (k : Nat) : (s.takeInput k).sheaf = s.sheaf := rfl

/-! ## What entries read after them -/

/-- `reg` after an operation that changes neither entries, nor the part, nor the non-volatile store. -/
@[simp] theorem setDom_reg (s : State) (i a : Nat) (bs : Bytes) (j b : Nat) : (s.setDom i a bs).reg j b = s.reg j b :=
  reg_congr (by simp) (by simp) (by simp) j b
@[simp] theorem countV_reg (s : State) (src v j b : Nat) : (s.countV src v).reg j b = s.reg j b := reg_congr (by simp) (by simp) (by simp) j b
@[simp] theorem notifyBut_reg (s : State) (e k n : Nat) (c : Bytes) (j b : Nat) : (s.notifyBut e k n c).reg j b = s.reg j b :=
  reg_congr (by simp) (by simp) (by simp) j b
@[simp] theorem notify_reg (s : State) (k n : Nat) (c : Bytes) (j b : Nat) : (s.notify k n c).reg j b = s.reg j b := notifyBut_reg _ _ _ _ _ _ _
@[simp] theorem takeInput_reg (s : State) (k j b : Nat) : (s.takeInput k).reg j b = s.reg j b := rfl

/-- Keys of the overflow flags of the event counters (6A40h to 6A7Fh, sub-index 08h): all a Dowel source touches of the entries. -/
def isCounterOvf (k : Nat) : Prop := k % 256 = 8 ∧ 0x6A40 ≤ k / 256 ∧ k / 256 ≤ 0x6A7F

theorem counterAdd_reg (s : State) {n : Nat} (v : Nat) (hn : n < 64) {j b : Nat} (h : ¬ isCounterOvf (key j b)) :
    (s.counterAdd n v).reg j b = s.reg j b := by
  simp only [State.counterAdd]
  split
  · rw [reg_setReg_key]
    · rfl
    · intro e; apply h; rw [e]; simp only [isCounterOvf, key]; omega
  · rfl

theorem countE_reg (s : State) (src p : Nat) {j b : Nat} (h : ¬ isCounterOvf (key j b)) : (s.countE src p).reg j b = s.reg j b := by
  unfold State.countE
  refine foldl_same_mem (fun s : State => s.reg j b) _ _ (fun t idx hm => ?_)
  have := idxWith_range hm
  repeat' first | rfl | exact counterAdd_reg _ _ (by omega) h | split

theorem fireAt_reg (s : State) (src p sc : Nat) {j b : Nat} (h : ¬ isCounterOvf (key j b)) : (s.fireAt src p sc).reg j b = s.reg j b :=
  (countE_reg _ _ _ h).trans rfl

theorem fire_reg (s : State) (src p : Nat) {j b : Nat} (h : ¬ isCounterOvf (key j b)) : (s.fire src p).reg j b = s.reg j b := fireAt_reg _ _ _ _ h

/-- The abort log takes page 1110h only. -/
theorem abortLog_reg (s : State) (r e i a d c : Nat) {j b : Nat} (hb : b < 256) (h : j ≠ 0x1110) :
    (s.abortLog r e i a d c).reg j b = s.reg j b := by
  simp only [State.abortLog, notify_reg]
  rw [reg_setReg_key, reg_setReg_key]
  · simp only [key]; omega
  · simp only [key]; omega

/-- The defaults of entries other than those of the non-volatile log's page look at the slots, the delay table and the boot counter only. -/
theorem entryDefault_congr (b : Board) {nv nv' : Nv} (i a : Nat) (hs : nv'.slots = nv.slots) (hb : nv'.bootSlot = nv.bootSlot)
    (ho : nv'.dramOrg = nv.dramOrg) (hm : nv'.dramMagic = nv.dramMagic) (hv : nv'.dramVersion = nv.dramVersion)
    (hk : nv'.dramChannels = nv.dramChannels) (hp : nv'.dramSpeed = nv.dramSpeed) (hc : nv'.boots = nv.boots) (h : i ≠ 0x7480) :
    entryDefault b nv' i a = entryDefault b nv i a := by
  have e : partDefault b nv' i a = partDefault b nv i a := by
    unfold partDefault Nv.org
    simp only [hs, hb, ho, hm, hv, hk, hp, hc, if_neg h]
  simp only [entryDefault, e]

/-- The non-volatile log takes page 7480h only. -/
theorem nvPlace_reg (s : State) (r : Nat) {j b : Nat} (hb : b < 256) (h : j ≠ 0x7480) : (s.nvPlace r).reg j b = s.reg j b := by
  unfold State.nvPlace
  dsimp only
  repeat' split
  · have h1 : key j b ≠ key 0x7480 2 := by simp only [key]; omega
    have h2 : key j b ≠ key 0x7480 1 := by simp only [key]; omega
    simp only [State.reg, lookup_insertKey_other _ _ h1, lookup_insertKey_other _ _ h2]
    have e := entryDefault_congr s.board (nv := s.nv) (nv' := s.nv.write r) j b rfl rfl rfl rfl rfl rfl rfl rfl h
    split <;> simp_all
  · rfl
  · rfl

/-- A fault record takes pages 7000h, 7001h, 7002h and 7480h, and what a Dowel source takes. -/
theorem faultRecord_reg (s : State) (c a i u n d : Nat) {j b : Nat} (hb : b < 256) (h0 : j ≠ 0x7000) (h1 : j ≠ 0x7001) (h2 : j ≠ 0x7002)
    (h3 : j ≠ 0x7480) (h4 : ¬ isCounterOvf (key j b)) (hc : c < 256) :
    (s.faultRecord c a i u n d).reg j b = s.reg j b := by
  have e (x : State) : (if nvClass c then x.nvPlace (faultBytes (s.tb80 0) (s.reg 0x7000 7 % 2 ^ 32) c a i u n d) else x).reg j b = x.reg j b := by
    split
    · exact nvPlace_reg _ _ hb h3
    · rfl
  simp only [State.faultRecord]
  rw [e, notify_reg, fire_reg _ _ _ h4, inc32_reg_key, inc64_reg_key, reg_setReg_key, reg_setReg_key] <;> (simp only [key]; omega)

/-- As faultRecord_reg. -/
theorem faultStart_reg (s : State) (c i u d : Nat) {j b : Nat} (hb : b < 256) (h0 : j ≠ 0x7000) (h1 : j ≠ 0x7001) (h2 : j ≠ 0x7002)
    (h3 : j ≠ 0x7480) (h4 : ¬ isCounterOvf (key j b)) (hc : c < 256) :
    (s.faultStart c i u d).reg j b = s.reg j b :=
  (reg_congr (s := s.faultRecord c 0x0C i u noInterruption d) rfl rfl rfl j b).trans (faultRecord_reg s c _ i u _ d hb h0 h1 h2 h3 h4 hc)

/-- The counters of recoveries are of page 7000h: faultDone takes what faultRecord takes. -/
theorem faultDone_reg (s : State) (c a i u d : Nat) {j b : Nat} (hb : b < 256) (h0 : j ≠ 0x7000) (h1 : j ≠ 0x7001) (h2 : j ≠ 0x7002)
    (h3 : j ≠ 0x7480) (h4 : ¬ isCounterOvf (key j b)) (hc : c < 256) :
    (s.faultDone c a i u d).reg j b = s.reg j b := by
  unfold State.faultDone
  split
  · dsimp only
    rw [faultRecord_reg _ _ _ _ _ _ _ hb h0 h1 h2 h3 h4 hc, reg_setReg_key, inc32_reg_key] <;> first | rfl | (simp only [key]; omega)
  · exact faultRecord_reg _ _ _ _ _ _ _ hb h0 h1 h2 h3 h4 hc

end Sys2Proof.Machine
end

