-- ==== Sys2Proof/Laws/Low.lean ====
section
/-! SUPPORT. The lowest entry an operation may change (Low): entries below a bound read as before, but those of the abort log and the conflict counters. -/

set_option Elab.async false

namespace Sys2Proof.Machine

variable {s0 s t : State} {L : Nat}

/-- Every entry below index `L`, outside pages 1100h to 1110h, reads as before. -/
structure Low (L : Nat) (s0 s : State) : Prop where
  reg : ∀ j b, j < L → b < 256 → (j < 0x1100 ∨ 0x1110 < j) → s.reg j b = s0.reg j b

theorem low_refl (s : State) : Low L s s := ⟨fun _ _ _ _ _ => rfl⟩
theorem low_trans {a b c : State} (h : Low L a b) (k : Low L b c) : Low L a c :=
  ⟨fun j x hj hb he => (k.reg j x hj hb he).trans (h.reg j x hj hb he)⟩
theorem low_weaken {M : Nat} (hm : L ≤ M) (h : Low M s t) : Low L s t := ⟨fun j x hj hb he => h.reg j x (by omega) hb he⟩

/-- A meaning's answer, where it is a next state. -/
structure LowR (L : Nat) (s0 : State) (r : Result) : Prop where
  low : ∀ t, r = .next t → Low L s0 t
/-- A verdict, where it accepts. -/
structure LowV (L : Nat) (s0 : State) (r : Verdict) : Prop where
  low : ∀ t, r = .ok t → Low L s0 t
/-- An optional state, where there is one. -/
structure LowO (L : Nat) (s0 : State) (r : Option State) : Prop where
  low : ∀ t, r = some t → Low L s0 t
/-- A state paired with an answer. -/
structure LowP {α : Type} (L : Nat) (s0 : State) (p : α × State) : Prop where
  low : Low L s0 p.2
/-- A state paired with a flag. -/
structure LowF {β : Type} (L : Nat) (s0 : State) (p : State × β) : Prop where
  low : Low L s0 p.1

theorem lowR_next (h : Low L s0 s) : LowR L s0 (.next s) := ⟨fun t e => by cases e; exact h⟩
theorem lowR_fault (f : Fault) : LowR L s0 (.fault f) := ⟨fun t e => by cases e⟩
theorem lowR_refused (f : Refusal) : LowR L s0 (.refused f) := ⟨fun t e => by cases e⟩
theorem lowV_ok (h : Low L s0 s) : LowV L s0 (.ok s) := ⟨fun t e => by cases e; exact h⟩
theorem lowV_error (d : Nat) : LowV L s0 (.error d) := ⟨fun t e => by cases e⟩
theorem lowO_some (h : Low L s0 s) : LowO L s0 (some s) := ⟨fun t e => by cases e; exact h⟩
theorem lowO_none : LowO L s0 none := ⟨fun t e => by cases e⟩
theorem low_of_ok {v : Verdict} (e : v = .ok t) (h : LowV L s0 v) : Low L s0 t := h.low t e
theorem low_of_some {v : Option State} (e : v = some t) (h : LowO L s0 v) : Low L s0 t := h.low t e
theorem lowP_mk {α : Type} {a : α} (h : Low L s0 s) : LowP L s0 (a, s) := ⟨h⟩
theorem lowF_mk {β : Type} {b : β} (h : Low L s0 s) : LowF L s0 (s, b) := ⟨h⟩
theorem low_fst {β : Type} {p : State × β} (h : LowF L s0 p) : Low L s0 p.1 := h.low
theorem low_snd {α : Type} {p : α × State} (h : LowP L s0 p) : Low L s0 p.2 := h.low
theorem low_of_pair {α : Type} {a : α} {p : α × State} (e : p = (a, t)) (h : LowP L s0 p) : Low L s0 t := by rw [e] at h; exact h.low
theorem low_of_pairF {β : Type} {b : β} {p : State × β} (e : p = (t, b)) (h : LowF L s0 p) : Low L s0 t := by rw [e] at h; exact h.low
theorem low_getD {o : Option State} (h : LowO L s0 o) (hs : Low L s0 s) : Low L s0 (o.getD s) := by
  cases o with
  | none => exact hs
  | some t => exact h.low t rfl
theorem lowR_inst {ok : Bool} {r : Result} (h : LowR L s0 r) : LowR L s0 (inst ok r) := by
  unfold inst; split
  · exact h
  · exact lowR_fault _
theorem lowV_accept {ok : Bool} {d : Nat} (h : Low L s0 s) : LowV L s0 (accept ok d s) := by
  unfold accept; split
  · exact lowV_ok h
  · exact lowV_error d

/-! ## Updates -/

theorem low_mk {doms drawn dram outbox time pos dowel avail power dict fabric dsp insp winnow ddr xarray crib sheaf} (h : Low L s0 s) :
    Low L s0 ⟨s.pending, s.board, s.nv, s.regs, doms, drawn, dram, outbox, time, pos, dowel, avail, power, dict, fabric, dsp, insp,
      winnow, ddr, xarray, crib, sheaf⟩ := ⟨h.reg⟩

/-- The defaults of entries look at the slots, the delay table, the boot counter and the log's counters of the non-volatile store only. -/
theorem low_mk_nv {nv : Nv} {power xarray} (h : Low L s0 s) (hs : nv.slots = s.nv.slots := by rfl) (hb : nv.bootSlot = s.nv.bootSlot := by rfl)
    (ho : nv.dramOrg = s.nv.dramOrg := by rfl) (hm : nv.dramMagic = s.nv.dramMagic := by rfl) (hv : nv.dramVersion = s.nv.dramVersion := by rfl)
    (hk : nv.dramChannels = s.nv.dramChannels := by rfl) (hp : nv.dramSpeed = s.nv.dramSpeed := by rfl) (hc : nv.boots = s.nv.boots := by rfl)
    (hn : nv.newest = s.nv.newest := by rfl) (hw : nv.written = s.nv.written := by rfl) :
    Low L s0 ⟨s.pending, s.board, nv, s.regs, s.doms, s.drawn, s.dram, s.outbox, s.time, s.pos, s.dowel, s.avail, power, s.dict, s.fabric,
      s.dsp, s.insp, s.winnow, s.ddr, xarray, s.crib, s.sheaf⟩ := by
  refine ⟨fun j b hj hb' he => Eq.trans ?_ (h.reg j b hj hb' he)⟩
  have e : entryDefault s.board nv j b = entryDefault s.board s.nv j b := by
    unfold entryDefault partDefault Nv.org
    rw [hs, hb, ho, hm, hv, hk, hp, hc, hn, hw]
  show (match lookup s.regs (key j b) with | some v => v | none => entryDefault s.board nv j b) = s.reg j b
  rw [e]
  rfl

theorem low_setReg {i a v : Nat} (hi : L ≤ i ∨ (0x1100 ≤ i ∧ i ≤ 0x1110 ∧ a < 256)) (h : Low L s0 s) : Low L s0 (s.setReg i a v) := by
  refine ⟨fun j b hj hb he => ?_⟩
  rw [reg_setReg_key]
  · exact h.reg j b hj hb he
  · simp only [key]; omega

theorem low_inc32 {i a n : Nat} (hi : L ≤ i ∨ (0x1100 ≤ i ∧ i ≤ 0x1110 ∧ a < 256)) (h : Low L s0 s) : Low L s0 (s.inc32 i a n) := low_setReg hi h
theorem low_inc64 {i a n : Nat} (hi : L ≤ i ∨ (0x1100 ≤ i ∧ i ≤ 0x1110 ∧ a < 256)) (h : Low L s0 s) : Low L s0 (s.inc64 i a n) := low_setReg hi h
theorem low_inc8 {i a n : Nat} (hi : L ≤ i ∨ (0x1100 ≤ i ∧ i ≤ 0x1110 ∧ a < 256)) (h : Low L s0 s) : Low L s0 (s.inc8 i a n) := low_setReg hi h
theorem low_regBit {i a n : Nat} {b : Bool} (hi : L ≤ i ∨ (0x1100 ≤ i ∧ i ≤ 0x1110 ∧ a < 256)) (h : Low L s0 s) : Low L s0 (s.regBit i a n b) := low_setReg hi h
theorem low_setDom {i a : Nat} {bs : Bytes} (h : Low L s0 s) : Low L s0 (s.setDom i a bs) := by
  unfold State.setDom; split
  · exact h
  · exact low_mk h
theorem low_bumpDom {i a : Nat} (h : Low L s0 s) : Low L s0 (s.bumpDom i a) := low_mk h
theorem low_draw {w : Nat} (h : Low L s0 s) : LowP L s0 (s.draw w) := ⟨low_mk h⟩
theorem low_emit {o : Output} (h : Low L s0 s) : Low L s0 (s.emit o) := low_mk h
theorem low_putUnit {ch u : Nat} {v : Bytes} (h : Low L s0 s) : Low L s0 (s.putUnit ch u v) := low_mk h
theorem low_nvPlace {r : Nat} (hL : L ≤ 0x7480) (h : Low L s0 s) : Low L s0 (s.nvPlace r) :=
  ⟨fun j b hj hb he => (nvPlace_reg s r hb (by omega)).trans (h.reg j b hj hb he)⟩

/-- A group that is not OFF has its entries from 2440h up. -/
theorem liveGroups_ge {s : State} {tx : Bool} {g : Nat} (h : g ∈ s.liveGroups tx) : 0x2440 ≤ g := by
  unfold State.liveGroups at h
  simp only [List.mem_append] at h
  cases tx <;> simp only [Bool.false_eq_true, if_false, if_true] at h <;> obtain ((h | h) | h) | h := h <;>
    (have := idxWith_range h; omega)
theorem groupOf_ge {s : State} {tx : Bool} {lane g : Nat} (h : s.groupOf tx lane = some g) : 0x2440 ≤ g :=
  liveGroups_ge (List.mem_of_find?_eq_some h)
theorem find_ge {s : State} {tx : Bool} {p : Nat → Bool} {g : Nat} (h : (s.liveGroups tx).find? p = some g) : 0x2440 ≤ g :=
  liveGroups_ge (List.mem_of_find?_eq_some h)

/-! ## Control structure -/

theorem low_foldl {α : Type} {xs : List α} {f : State → α → State} (h : Low L s0 s) (hf : ∀ s x, Low L s0 s → Low L s0 (f s x)) :
    Low L s0 (xs.foldl f s) := by
  induction xs generalizing s with
  | nil => exact h
  | cons x xs ih => exact ih (hf s x h)

theorem low_foldl2 {α β : Type} {xs : List α} {f : β × State → α → β × State} {p : β × State} (h : Low L s0 p.2)
    (hf : ∀ p x, Low L s0 p.2 → LowP L s0 (f p x)) : LowP L s0 (xs.foldl f p) := by
  induction xs generalizing p with
  | nil => exact ⟨h⟩
  | cons x xs ih => exact ih (hf p x h).low

theorem low_foldl1 {α β : Type} {xs : List α} {f : State × β → α → State × β} {p : State × β} (h : Low L s0 p.1)
    (hf : ∀ p x, Low L s0 p.1 → LowF L s0 (f p x)) : LowF L s0 (xs.foldl f p) := by
  induction xs generalizing p with
  | nil => exact ⟨h⟩
  | cons x xs ih => exact ih (hf p x h).low

theorem low_each {α : Type} {xs : List α} {f : α → State → State} (h : Low L s0 s) (hf : ∀ x s, Low L s0 s → Low L s0 (f x s)) :
    Low L s0 (s.each xs f) := low_foldl h (fun s x hs => hf x s hs)

theorem low_whenB {c : Bool} {f : State → State} (h : Low L s0 s) (hf : ∀ s, Low L s0 s → Low L s0 (f s)) : Low L s0 (s.whenB c f) := by
  unfold State.whenB; split
  · exact hf s h
  · exact h

end Sys2Proof.Machine
end

