-- ==== Sys2Proof/Laws/LowOps.lean ====
section
/-! SUPPORT. The lowest entry each definition of Machine/Ops.lean may change (Low). -/

set_option Elab.async false

namespace Sys2Proof.Machine

set_option linter.unusedVariables false

theorem low_counterAdd {L : Nat} {s0 s : State} {a1 a2} (hL : L ≤ 27200) (h : Low L s0 s) : Low L s0 (State.counterAdd s a1 a2) := by
  unfold State.counterAdd
  dsimp only; split; with_reducible apply low_setReg (by omega); apply low_mk; with_reducible assumption; apply low_mk
  with_reducible assumption

theorem low_counterMax {L : Nat} {s0 s : State} {a1 a2} (h : Low L s0 s) : Low L s0 (State.counterMax s a1 a2) := by
  unfold State.counterMax
  apply low_mk; with_reducible assumption

theorem low_countE {L : Nat} {s0 s : State} {a1 a2} (hL : L ≤ 27200) (h : Low L s0 s) : Low L s0 (State.countE s a1 a2) := by
  unfold State.countE
  with_reducible (apply low_foldl; assumption); intro _ _ _; split; split
  with_reducible (apply low_counterAdd (by omega); assumption; apply low_counterMax; assumption; assumption; assumption)

theorem low_countV {L : Nat} {s0 s : State} {a1 a2} (h : Low L s0 s) : Low L s0 (State.countV s a1 a2) := by
  unfold State.countV
  with_reducible (apply low_foldl; assumption); intro _ _ _; split; with_reducible (apply low_counterMax; assumption; assumption)

theorem low_fireAt {L : Nat} {s0 s : State} {a1 a2 a3} (hL : L ≤ 27200) (h : Low L s0 s) : Low L s0 (State.fireAt s a1 a2 a3) := by
  unfold State.fireAt
  dsimp only; with_reducible apply low_countE (by omega); apply low_mk; with_reducible assumption

theorem low_fire {L : Nat} {s0 s : State} {a1 a2} (hL : L ≤ 27200) (h : Low L s0 s) : Low L s0 (State.fire s a1 a2) := by
  unfold State.fire
  with_reducible (apply low_fireAt (by omega); assumption)

theorem low_modSession {L : Nat} {s0 s : State} {a1 a2} (h : Low L s0 s) : Low L s0 (State.modSession s a1 a2) := by
  unfold State.modSession
  apply low_mk; with_reducible assumption

theorem low_notifyAt {L : Nat} {s0 s : State} {a1 a2 a3 a4 a5} (h : Low L s0 s) : Low L s0 (State.notifyAt s a1 a2 a3 a4 a5) := by
  unfold State.notifyAt
  split; with_reducible (apply low_modSession; assumption; assumption)

theorem low_notifyBut {L : Nat} {s0 s : State} {a1 a2 a3 a4} (h : Low L s0 s) : Low L s0 (State.notifyBut s a1 a2 a3 a4) := by
  unfold State.notifyBut
  with_reducible (apply low_foldl; assumption); intro _ _ _; with_reducible (apply low_notifyAt; assumption)

theorem low_notify {L : Nat} {s0 s : State} {a1 a2 a3} (h : Low L s0 s) : Low L s0 (State.notify s a1 a2 a3) := by
  unfold State.notify
  with_reducible (apply low_notifyBut; assumption)

theorem low_abortLog {L : Nat} {s0 s : State} {a1 a2 a3 a4 a5 a6} (h : Low L s0 s) : Low L s0 (State.abortLog s a1 a2 a3 a4 a5 a6) := by
  unfold State.abortLog
  dsimp only; with_reducible (apply low_notify; apply low_setReg (by omega); apply low_setReg (by omega); assumption)

theorem low_faultRecord {L : Nat} {s0 s : State} {a1 a2 a3 a4 a5 a6} (hL : L ≤ 27200) (h : Low L s0 s) : Low L s0 (State.faultRecord s a1 a2 a3 a4 a5 a6) := by
  unfold State.faultRecord
  dsimp only; split
  with_reducible (apply low_nvPlace (by omega); apply low_notify; apply low_fire (by omega); apply low_inc32 (by omega))
  with_reducible (apply low_inc64 (by omega); apply low_setReg (by omega); apply low_setReg (by omega); assumption; apply low_notify)
  with_reducible (apply low_fire (by omega); apply low_inc32 (by omega); apply low_inc64 (by omega); apply low_setReg (by omega))
  with_reducible (apply low_setReg (by omega); assumption)

theorem low_faultStart {L : Nat} {s0 s : State} {a1 a2 a3 a4} (hL : L ≤ 27200) (h : Low L s0 s) : Low L s0 (State.faultStart s a1 a2 a3 a4) := by
  unfold State.faultStart
  dsimp only; apply low_mk; with_reducible (apply low_faultRecord (by omega); assumption)

theorem low_faultDone {L : Nat} {s0 s : State} {a1 a2 a3 a4 a5} (hL : L ≤ 27200) (h : Low L s0 s) : Low L s0 (State.faultDone s a1 a2 a3 a4 a5) := by
  unfold State.faultDone
  split; dsimp only; with_reducible (apply low_faultRecord (by omega); apply low_setReg (by omega); apply low_inc32 (by omega))
  apply low_mk; with_reducible (assumption; apply low_faultRecord (by omega); assumption)

theorem low_setInput {L : Nat} {s0 s : State} {a1 a2} (h : Low L s0 s) : Low L s0 (State.setInput s a1 a2) := by
  unfold State.setInput
  apply low_mk; with_reducible assumption

theorem low_takeInput {L : Nat} {s0 s : State} {a1} (h : Low L s0 s) : Low L s0 (State.takeInput s a1) := by
  unfold State.takeInput
  dsimp only; with_reducible (apply low_setInput; assumption)

theorem low_accept {L : Nat} {s0 s : State} {a0 a1} (h : Low L s0 s) : LowV L s0 (accept a0 a1 s) := by
  unfold accept
  split; with_reducible (apply lowV_ok; assumption; apply lowV_error)

theorem low_reachOff {L : Nat} {s0 s : State} {idx en : Nat} {check : State → Nat} {enabling : State → State} (hi0 : L ≤ idx) (h : Low L s0 s)
    (he : ∀ t, Low L s0 t → Low L s0 (enabling t)) : Low L s0 (s.reachOff idx en check enabling) := by
  unfold State.reachOff
  dsimp only
  split
  · split
    · exact he _ ((low_setReg (by omega)) ((low_setReg (by omega)) h))
    · exact low_abortLog ((low_setReg (by omega)) ((low_setReg (by omega)) h))
  · exact (low_setReg (by omega)) h

end Sys2Proof.Machine
end

