-- ==== Sys2Proof/Laws/LowTiming.lean ====
section
/-! SUPPORT. The lowest entry each definition of Machine/Timing.lean may change (Low). -/

set_option Elab.async false

namespace Sys2Proof.Machine

set_option linter.unusedVariables false

theorem low_modTb {L : Nat} {s0 s : State} {a1 a2} (h : Low L s0 s) : Low L s0 (State.modTb s a1 a2) := by
  unfold State.modTb
  apply low_mk; with_reducible assumption

theorem low_tbTick {L : Nat} {s0 s : State} {a1} (hL : L ≤ 27200) (h : Low L s0 s) : Low L s0 (State.tbTick s a1) := by
  unfold State.tbTick
  dsimp only; split; split; with_reducible (apply low_fire (by omega); apply low_modTb; assumption; apply low_modTb; assumption); split
  with_reducible (apply low_fire (by omega); apply low_modTb; assumption; apply low_modTb; assumption)

theorem low_tbStepTo {L : Nat} {s0 s : State} {a1 a2 a3} (hL : L ≤ 24640) (h : Low L s0 s) : Low L s0 (State.tbStepTo s a1 a2 a3) := by
  unfold State.tbStepTo
  with_reducible (apply low_inc32 (by omega); apply low_modTb; assumption)

theorem low_clockTick {L : Nat} {s0 s : State} (hL : L ≤ 27200) (h : Low L s0 s) : Low L s0 (State.clockTick s) := by
  unfold State.clockTick
  split; dsimp only; apply low_mk; with_reducible apply low_each; apply low_mk; with_reducible assumption; intro _ _ _
  with_reducible (apply low_tbTick (by omega); assumption; assumption)

theorem low_modCand {L : Nat} {s0 s : State} {a1 a2} (h : Low L s0 s) : Low L s0 (State.modCand s a1 a2) := by
  unfold State.modCand
  apply low_mk; with_reducible assumption

theorem low_refreshCands {L : Nat} {s0 s : State} (hL : L ≤ 24592) (h : Low L s0 s) : Low L s0 (State.refreshCands s) := by
  unfold State.refreshCands
  with_reducible (apply low_each; assumption); intro _ _ _; dsimp only; split; split
  with_reducible (assumption; apply low_regBit (by omega); assumption); split
  with_reducible (apply low_inc32 (by omega); apply low_setReg (by omega); assumption; apply low_regBit (by omega))
  with_reducible (apply low_inc32 (by omega); apply low_setReg (by omega); assumption)

theorem low_enterRef {L : Nat} {s0 s : State} {a1 a2} (hL : L ≤ 24576) (h : Low L s0 s) : Low L s0 (State.enterRef s a1 a2) := by
  unfold State.enterRef
  dsimp only; with_reducible apply low_setReg (by omega); apply low_mk
  with_reducible (apply low_setReg (by omega); apply low_setReg (by omega)); split; with_reducible apply low_regBit (by omega); split
  with_reducible (apply low_regBit (by omega); assumption; assumption); split
  with_reducible (apply low_regBit (by omega); assumption; assumption)

theorem low_enterHoldover {L : Nat} {s0 s : State} {a1} (hL : L ≤ 24576) (h : Low L s0 s) : Low L s0 (State.enterHoldover s a1) := by
  unfold State.enterHoldover
  split; dsimp only
  with_reducible (apply low_enterRef (by omega); apply low_inc32 (by omega); apply low_setReg (by omega); apply low_setReg (by omega))
  with_reducible (assumption; apply low_enterRef (by omega); apply low_setReg (by omega); assumption)

theorem low_noCandidate {L : Nat} {s0 s : State} (hL : L ≤ 24576) (h : Low L s0 s) : Low L s0 (State.noCandidate s) := by
  unfold State.noCandidate
  split; with_reducible (apply low_enterHoldover (by omega); assumption; apply low_enterHoldover (by omega); assumption)
  with_reducible (apply low_enterRef (by omega); apply low_setReg (by omega); assumption; assumption)

theorem low_selectCand {L : Nat} {s0 s : State} {a1} (hL : L ≤ 24576) (h : Low L s0 s) : Low L s0 (State.selectCand s a1) := by
  unfold State.selectCand
  split
  with_reducible (apply low_enterRef (by omega); assumption; apply low_enterRef (by omega); assumption; apply low_enterRef (by omega))
  with_reducible assumption

theorem low_evaluate {L : Nat} {s0 s : State} (hL : L ≤ 24576) (h : Low L s0 s) : Low L s0 (State.evaluate s) := by
  unfold State.evaluate
  dsimp only; split; with_reducible (apply low_setReg (by omega); assumption); split; split
  with_reducible (assumption; apply low_enterRef (by omega); apply low_setReg (by omega); assumption); split; split
  with_reducible (assumption; apply low_enterHoldover (by omega); assumption); split; split; split
  with_reducible (assumption; apply low_enterHoldover (by omega); assumption; apply low_noCandidate (by omega); assumption); split
  with_reducible (apply low_setReg (by omega); assumption); split
  with_reducible (apply low_selectCand (by omega); assumption; apply low_setReg (by omega); assumption)

theorem low_reselect {L : Nat} {s0 s : State} (hL : L ≤ 24576) (h : Low L s0 s) : Low L s0 (State.reselect s) := by
  unfold State.reselect
  with_reducible (apply low_evaluate (by omega); apply low_refreshCands (by omega); assumption)

theorem low_disqualify {L : Nat} {s0 s : State} {a1 a2} (hL : L ≤ 24592) (h : Low L s0 s) : Low L s0 (State.disqualify s a1 a2) := by
  unfold State.disqualify
  split; dsimp only
  with_reducible (apply low_faultRecord (by omega); apply low_setReg (by omega); apply low_modCand; apply low_inc32 (by omega))
  with_reducible (apply low_setReg (by omega); apply low_regBit (by omega); assumption; assumption)

theorem low_qlMessage {L : Nat} {s0 s : State} {a1 a2} (hL : L ≤ 24576) (h : Low L s0 s) : Low L s0 (State.qlMessage s a1 a2) := by
  unfold State.qlMessage
  dsimp only; with_reducible (apply low_reselect (by omega); apply low_modCand; apply low_regBit (by omega); assumption)

theorem low_execQlFrameRx {L : Nat} {s0 s : State} {a0 a1 a2} (hL : L ≤ 24576) (h : Low L s0 s) : LowR L s0 (execQlFrameRx a0 a1 a2 s) := by
  unfold execQlFrameRx
  with_reducible apply lowR_inst; dsimp only; split
  with_reducible (apply lowR_next; apply low_qlMessage (by omega); assumption; apply lowR_next; apply low_inc32 (by omega); assumption)

theorem low_qlLost {L : Nat} {s0 s : State} {a1} (hL : L ≤ 24576) (h : Low L s0 s) : Low L s0 (State.qlLost s a1) := by
  unfold State.qlLost
  with_reducible (apply low_reselect (by omega); apply low_modCand; apply low_regBit (by omega); assumption)

theorem low_execQlTimeout {L : Nat} {s0 s : State} {a0} (hL : L ≤ 24576) (h : Low L s0 s) : LowR L s0 (execQlTimeout a0 s) := by
  unfold execQlTimeout
  with_reducible (apply lowR_inst; apply lowR_next); split; with_reducible (apply low_qlLost (by omega); assumption; assumption)

theorem low_signalLoss {L : Nat} {s0 s : State} {a1} (hL : L ≤ 24576) (h : Low L s0 s) : Low L s0 (State.signalLoss s a1) := by
  unfold State.signalLoss
  split; dsimp only
  with_reducible (apply low_reselect (by omega); apply low_disqualify (by omega); apply low_modCand; apply low_inc32 (by omega))
  with_reducible (apply low_regBit (by omega); assumption; assumption)

theorem low_execSignalLoss {L : Nat} {s0 s : State} {a0} (hL : L ≤ 24576) (h : Low L s0 s) : LowR L s0 (execSignalLoss a0 s) := by
  unfold execSignalLoss
  with_reducible (apply lowR_inst; apply lowR_next; apply low_signalLoss (by omega); assumption)

theorem low_signalReturn {L : Nat} {s0 s : State} {a1} (hL : L ≤ 24592) (h : Low L s0 s) : Low L s0 (State.signalReturn s a1) := by
  unfold State.signalReturn
  with_reducible (apply low_regBit (by omega); assumption)

theorem low_execSignalReturn {L : Nat} {s0 s : State} {a0} (hL : L ≤ 24592) (h : Low L s0 s) : LowR L s0 (execSignalReturn a0 s) := by
  unfold execSignalReturn
  with_reducible (apply lowR_inst; apply lowR_next; apply low_signalReturn (by omega); assumption)

theorem low_judge {L : Nat} {s0 s : State} {a1 a2 a3} (hL : L ≤ 24592) (h : Low L s0 s) : Low L s0 (State.judge s a1 a2 a3) := by
  unfold State.judge
  dsimp only; split; split
  with_reducible (apply low_disqualify (by omega); apply low_modCand; apply low_inc32 (by omega); apply low_setReg (by omega))
  with_reducible (assumption; apply low_modCand; apply low_inc32 (by omega); apply low_setReg (by omega); assumption); split
  with_reducible (apply low_modCand; apply low_setReg (by omega); assumption); split
  with_reducible (apply low_setReg (by omega); apply low_modCand; apply low_regBit (by omega); apply low_modCand)
  with_reducible (apply low_setReg (by omega); assumption; apply low_modCand; apply low_setReg (by omega); assumption)

theorem low_wtrSecond {L : Nat} {s0 s : State} {a1} (hL : L ≤ 24592) (h : Low L s0 s) : Low L s0 (State.wtrSecond s a1) := by
  unfold State.wtrSecond
  with_reducible (apply low_each; assumption); intro _ _ _; dsimp only
  with_reducible (apply low_setReg (by omega); apply low_modCand; assumption)

theorem low_execMonitorWindowEnd {L : Nat} {s0 s : State} {a0 a1} (hL : L ≤ 24576) (h : Low L s0 s) : LowR L s0 (execMonitorWindowEnd a0 a1 s) := by
  unfold execMonitorWindowEnd
  split; dsimp only; with_reducible apply lowR_next; apply low_mk; with_reducible apply low_evaluate (by omega); split; split
  with_reducible (apply low_enterRef (by omega); apply low_refreshCands (by omega)); apply low_mk
  with_reducible (apply low_wtrSecond (by omega); apply low_each; apply low_setReg (by omega); apply low_inc64 (by omega); assumption)
  intro _ _ _; with_reducible (apply low_judge (by omega); assumption; apply low_refreshCands (by omega)); apply low_mk
  with_reducible (apply low_wtrSecond (by omega); apply low_each; apply low_setReg (by omega); apply low_inc64 (by omega); assumption)
  intro _ _ _; with_reducible (apply low_judge (by omega); assumption); split
  with_reducible (apply low_enterRef (by omega); apply low_refreshCands (by omega)); apply low_mk
  with_reducible (apply low_wtrSecond (by omega); apply low_each; apply low_inc64 (by omega); assumption); intro _ _ _
  with_reducible (apply low_judge (by omega); assumption; apply low_refreshCands (by omega)); apply low_mk
  with_reducible (apply low_wtrSecond (by omega); apply low_each; apply low_inc64 (by omega); assumption); intro _ _ _
  with_reducible (apply low_judge (by omega); assumption; apply lowR_next; assumption)

theorem low_execWtrExpiry {L : Nat} {s0 s : State} {a0} (hL : L ≤ 24576) (h : Low L s0 s) : LowR L s0 (execWtrExpiry a0 s) := by
  unfold execWtrExpiry
  with_reducible apply lowR_inst; split
  with_reducible (apply lowR_next; assumption; apply lowR_next; apply low_reselect (by omega); apply low_setReg (by omega))
  with_reducible (apply low_modCand; assumption)

theorem low_execSwitchComplete {L : Nat} {s0 s : State} (hL : L ≤ 24576) (h : Low L s0 s) : LowR L s0 (execSwitchComplete s) := by
  unfold execSwitchComplete
  split
  with_reducible (apply lowR_next; apply low_reselect (by omega); apply low_enterRef (by omega); apply low_inc32 (by omega); assumption)
  with_reducible (apply lowR_next; assumption)

theorem low_execRefAcquireTimeout {L : Nat} {s0 s : State} (hL : L ≤ 24576) (h : Low L s0 s) : LowR L s0 (execRefAcquireTimeout s) := by
  unfold execRefAcquireTimeout
  split; with_reducible (apply lowR_next; apply low_reselect (by omega); apply low_disqualify (by omega); assumption; apply lowR_next)
  with_reducible assumption

theorem low_execPps {L : Nat} {s0 s : State} (hL : L ≤ 24576) (h : Low L s0 s) : LowR L s0 (execPps s) := by
  unfold execPps
  split; dsimp only; with_reducible (apply lowR_next; apply low_fire (by omega); apply low_setReg (by omega); apply low_inc32 (by omega))
  with_reducible (apply low_setReg (by omega); apply low_setReg (by omega); apply low_setReg (by omega)); apply low_mk
  with_reducible (assumption; apply lowR_next; assumption)

theorem low_cmdScLoad {L : Nat} {s0 s : State} (h : Low L s0 s) : LowV L s0 (cmdScLoad s) := by
  unfold cmdScLoad
  with_reducible apply lowV_accept; apply low_mk; with_reducible assumption

theorem low_execScLoadApply {L : Nat} {s0 s : State} (h : Low L s0 s) : LowR L s0 (execScLoadApply s) := by
  unfold execScLoadApply
  split; with_reducible apply lowR_next; apply low_mk; with_reducible (assumption; apply lowR_next; assumption)

theorem low_cmdAdjust {L : Nat} {s0 s : State} {a0 a1} (h : Low L s0 s) : LowV L s0 (cmdAdjust a0 a1 s) := by
  unfold cmdAdjust
  split; with_reducible apply lowV_error; split; with_reducible (apply lowV_error; apply lowV_ok; apply low_modTb; assumption)

theorem low_cmdTbStep {L : Nat} {s0 s : State} {a0} (hL : L ≤ 24640) (h : Low L s0 s) : LowV L s0 (cmdTbStep a0 s) := by
  unfold cmdTbStep
  split; with_reducible apply lowV_error; dsimp only; with_reducible (apply lowV_ok; apply low_tbStepTo (by omega); assumption)

theorem low_tbPageSet {L : Nat} {s0 s : State} {a1} (h : Low L s0 s) : Low L s0 (State.tbPageSet s a1) := by
  unfold State.tbPageSet
  with_reducible (apply low_modTb; assumption)

theorem low_modTout {L : Nat} {s0 s : State} {a1 a2} (h : Low L s0 s) : Low L s0 (State.modTout s a1 a2) := by
  unfold State.modTout
  apply low_mk; with_reducible assumption

theorem low_toutStart {L : Nat} {s0 s : State} {a1} (hL : L ≤ 24656) (h : Low L s0 s) : Low L s0 (State.toutStart s a1) := by
  unfold State.toutStart
  with_reducible (apply low_emit; apply low_inc64 (by omega); apply low_modTout; assumption)

theorem low_execToutTimeReached {L : Nat} {s0 s : State} {a0} (hL : L ≤ 24656) (h : Low L s0 s) : LowR L s0 (execToutTimeReached a0 s) := by
  unfold execToutTimeReached
  with_reducible apply lowR_inst; split
  with_reducible (apply lowR_next; apply low_toutStart (by omega); assumption; apply lowR_next; assumption)

theorem low_toutEvent {L : Nat} {s0 s : State} {a1} (hL : L ≤ 24656) (h : Low L s0 s) : Low L s0 (State.toutEvent s a1) := by
  unfold State.toutEvent
  split; with_reducible assumption; dsimp only; split; with_reducible (apply low_takeInput; assumption); split
  with_reducible (apply low_inc32 (by omega); apply low_modTout; apply low_takeInput; assumption; apply low_toutStart (by omega))
  with_reducible (apply low_takeInput; assumption)

theorem low_execToutEvent {L : Nat} {s0 s : State} {a0} (hL : L ≤ 24656) (h : Low L s0 s) : LowR L s0 (execToutEvent a0 s) := by
  unfold execToutEvent
  with_reducible (apply lowR_inst; apply lowR_next; apply low_toutEvent (by omega); assumption)

theorem low_execToutPulseEnd {L : Nat} {s0 s : State} {a0} (h : Low L s0 s) : LowR L s0 (execToutPulseEnd a0 s) := by
  unfold execToutPulseEnd
  with_reducible apply lowR_inst; split
  with_reducible (apply lowR_next; apply low_emit; apply low_modTout; assumption; apply lowR_next; assumption)

theorem low_capture {L : Nat} {s0 s : State} {a1 a2} (hL : L ≤ 24672) (h : Low L s0 s) : Low L s0 (State.capture s a1 a2) := by
  unfold State.capture
  dsimp only
  with_reducible (apply low_fire (by omega); apply low_inc64 (by omega); apply low_setReg (by omega); apply low_setReg (by omega))
  with_reducible (apply low_setReg (by omega); assumption)

theorem low_execTinCapture {L : Nat} {s0 s : State} {a0 a1 a2} (hL : L ≤ 24672) (h : Low L s0 s) : LowR L s0 (execTinCapture a0 a1 a2 s) := by
  unfold execTinCapture
  with_reducible apply lowR_inst; split; with_reducible (apply lowR_next; apply low_inc32 (by omega); assumption); dsimp only; split
  split; with_reducible (apply lowR_next; apply low_capture (by omega)); apply low_mk; with_reducible (assumption; apply lowR_next)
  apply low_mk; with_reducible assumption; split; with_reducible (apply lowR_next; apply low_capture (by omega)); apply low_mk
  with_reducible (assumption; apply lowR_next); apply low_mk; with_reducible assumption

theorem low_servo {L : Nat} {s0 s : State} {a1 a2} (hL : L ≤ 24640) (h : Low L s0 s) : Low L s0 (State.servo s a1 a2) := by
  unfold State.servo
  dsimp only; split; apply low_mk
  with_reducible (apply low_inc32 (by omega); apply low_modTb; assumption; apply low_modTb; apply low_setReg (by omega); assumption)

theorem low_ptpSync {L : Nat} {s0 s : State} {a1 a2} (hL : L ≤ 24592) (h : Low L s0 s) : Low L s0 (State.ptpSync s a1 a2) := by
  unfold State.ptpSync
  dsimp only; split; with_reducible (apply low_servo (by omega); apply low_signalReturn (by omega); apply low_setReg (by omega))
  with_reducible (apply low_setReg (by omega); assumption; apply low_signalReturn (by omega); apply low_setReg (by omega))
  with_reducible (apply low_setReg (by omega); assumption)

theorem low_ptpPort {L : Nat} {s0 s : State} {a1 a2} (h : Low L s0 s) : Low L s0 (State.ptpPort s a1 a2) := by
  unfold State.ptpPort
  split; apply low_mk; with_reducible assumption; split; apply low_mk; with_reducible (assumption; assumption)

theorem low_execPtpEventRx {L : Nat} {s0 s : State} {a0 a1} (hL : L ≤ 24576) (h : Low L s0 s) : LowR L s0 (execPtpEventRx a0 a1 s) := by
  unfold execPtpEventRx
  with_reducible apply lowR_inst; split; dsimp only; with_reducible (apply lowR_next; apply low_reselect (by omega)); split
  with_reducible apply low_ptpSync (by omega); split; apply low_mk
  with_reducible (apply low_ptpPort; apply low_setReg (by omega); apply low_setReg (by omega); apply low_setReg (by omega))
  with_reducible (apply low_inc64 (by omega); assumption; apply low_ptpPort; apply low_setReg (by omega); apply low_setReg (by omega))
  with_reducible (apply low_setReg (by omega); apply low_inc64 (by omega); assumption); split; apply low_mk
  with_reducible (apply low_ptpPort; apply low_setReg (by omega); apply low_setReg (by omega); apply low_setReg (by omega))
  with_reducible (apply low_inc64 (by omega); assumption; apply low_ptpPort; apply low_setReg (by omega); apply low_setReg (by omega))
  with_reducible (apply low_setReg (by omega); apply low_inc64 (by omega); assumption; apply lowR_next; assumption)

theorem low_execPtpMessageTx {L : Nat} {s0 s : State} {a0 a1} (hL : L ≤ 24689) (h : Low L s0 s) : LowR L s0 (execPtpMessageTx a0 a1 s) := by
  unfold execPtpMessageTx
  with_reducible apply lowR_inst; split; dsimp only
  with_reducible (apply lowR_next; apply low_emit; apply low_inc64 (by omega); assumption; apply lowR_next; assumption)

theorem low_candWritten {L : Nat} {s0 s : State} {a1 a2} (hL : L ≤ 24576) (h : Low L s0 s) : Low L s0 (State.candWritten s a1 a2) := by
  unfold State.candWritten
  dsimp only; split; split; split
  with_reducible (apply low_evaluate (by omega); apply low_refreshCands (by omega); apply low_signalReturn (by omega); assumption)
  with_reducible (apply low_refreshCands (by omega); apply low_signalReturn (by omega); assumption); split
  with_reducible (apply low_evaluate (by omega); apply low_refreshCands (by omega); apply low_signalLoss (by omega); assumption)
  with_reducible (apply low_refreshCands (by omega); apply low_signalLoss (by omega); assumption); split
  with_reducible (apply low_evaluate (by omega); apply low_refreshCands (by omega); assumption; apply low_refreshCands (by omega))
  with_reducible assumption

theorem low_timingAfter {L : Nat} {s0 s : State} {a1 a2} (hL : L ≤ 24576) (h : Low L s0 s) : Low L s0 (timingAfter s a1 a2) := by
  unfold timingAfter
  split; dsimp only; split; apply low_mk; with_reducible (assumption; apply low_reselect (by omega)); apply low_mk
  with_reducible assumption; split; with_reducible (apply low_setReg (by omega); assumption); split
  with_reducible (apply low_candWritten (by omega); assumption); split; with_reducible (apply low_emit; assumption); split; apply low_mk
  with_reducible (assumption; assumption)

end Sys2Proof.Machine
end

