-- ==== Sys2Proof/Laws/LowDspBase.lean ====
section
/-! SUPPORT. The lowest entry each definition of Machine/DspBase.lean may change (Low). -/

set_option Elab.async false

namespace Sys2Proof.Machine

set_option linter.unusedVariables false

theorem low_modCore {L : Nat} {s0 s : State} {a1 a2} (h : Low L s0 s) : Low L s0 (State.modCore s a1 a2) := by
  unfold State.modCore
  apply low_mk; with_reducible assumption

theorem low_setDspRun {L : Nat} {s0 s : State} {a1 a2} (hL : L ≤ 20480) (h : Low L s0 s) : Low L s0 (State.setDspRun s a1 a2) := by
  unfold State.setDspRun
  with_reducible (apply low_setReg (by omega); assumption)

theorem low_showFar {L : Nat} {s0 s : State} {a1} (hL : L ≤ 20480) (h : Low L s0 s) : Low L s0 (State.showFar s a1) := by
  unfold State.showFar
  with_reducible (apply low_setReg (by omega); assumption)

theorem low_dspDouble {L : Nat} {s0 s : State} {a1} (hL : L ≤ 20480) (h : Low L s0 s) : Low L s0 (State.dspDouble s a1) := by
  unfold State.dspDouble
  split; with_reducible assumption; dsimp only
  with_reducible (apply low_faultRecord (by omega); apply low_fire (by omega); apply low_setDspRun (by omega))
  with_reducible (apply low_setReg (by omega); apply low_modCore; assumption)

theorem low_wakeCore {L : Nat} {s0 s : State} {a1} (hL : L ≤ 20480) (h : Low L s0 s) : Low L s0 (State.wakeCore s a1) := by
  unfold State.wakeCore
  split; with_reducible (apply low_setDspRun (by omega); assumption; assumption)

theorem low_dspStall {L : Nat} {s0 s : State} {a1} (hL : L ≤ 20480) (h : Low L s0 s) : Low L s0 (State.dspStall s a1) := by
  unfold State.dspStall
  with_reducible (apply low_modCore; apply low_inc64 (by omega); assumption)

theorem low_beginBundle {L : Nat} {s0 s : State} {a1} (hL : L ≤ 20480) (h : Low L s0 s) : Low L s0 (State.beginBundle s a1) := by
  unfold State.beginBundle
  dsimp only; with_reducible (apply low_modCore; apply low_setDspRun (by omega); apply low_setReg (by omega); assumption)

theorem low_countSat {L : Nat} {s0 s : State} {a1} (hL : L ≤ 20480) (h : Low L s0 s) : Low L s0 (State.countSat s a1) := by
  unfold State.countSat
  split; with_reducible (apply low_modCore; apply low_inc64 (by omega); assumption; assumption)

theorem low_slotAWith {L : Nat} {s0 s : State} {n op : Nat} {f : Nat → State → State} (hL : L ≤ 20480) (h : Low L s0 s)
    (hf : ∀ w t, Low L s0 t → Low L s0 (f w t)) : LowR L s0 (s.slotAWith n op f) := by
  unfold State.slotAWith
  repeat' first
    | assumption
    | with_reducible first | apply lowR_inst | apply lowR_next | apply low_dspStall (by omega) | apply low_countSat (by omega) | apply hf | apply low_beginBundle (by omega)
    | split

theorem low_slotAOp {L : Nat} {s0 s : State} {a1 a2 a3} (hL : L ≤ 20480) (h : Low L s0 s) : LowR L s0 (State.slotAOp s a1 a2 a3) := by
  unfold State.slotAOp
  with_reducible (apply low_slotAWith (by omega); assumption); intro _ _ _; with_reducible (apply low_modCore; assumption)

theorem low_afterBundle {L : Nat} {s0 s : State} {a1} (hL : L ≤ 20480) (h : Low L s0 s) : Low L s0 (State.afterBundle s a1) := by
  unfold State.afterBundle
  dsimp only; split; with_reducible (apply low_dspDouble (by omega); assumption); split
  with_reducible (apply low_fire (by omega); apply low_setDspRun (by omega); apply low_modCore; assumption); split
  with_reducible (apply low_setDspRun (by omega); apply low_modCore; assumption); split
  with_reducible (apply low_setDspRun (by omega); apply low_modCore; assumption; assumption)

theorem low_slotBWith {L : Nat} {s0 s : State} {n op : Nat} {f : Nat → State → State} (hL : L ≤ 20480) (h : Low L s0 s)
    (hf : ∀ w t, Low L s0 t → Low L s0 (f w t)) : LowR L s0 (s.slotBWith n op f) := by
  unfold State.slotBWith
  repeat' first
    | assumption
    | with_reducible first | apply lowR_inst | apply lowR_next | apply low_afterBundle (by omega) | apply low_inc64 (by omega) | apply low_modCore | apply hf
    | split

theorem low_slotBOp {L : Nat} {s0 s : State} {a1 a2 a3} (hL : L ≤ 20480) (h : Low L s0 s) : LowR L s0 (State.slotBOp s a1 a2 a3) := by
  unfold State.slotBOp
  with_reducible (apply low_slotBWith (by omega); assumption); intro _ _ _; with_reducible (apply low_modCore; assumption)

end Sys2Proof.Machine
end

