-- ==== Sys2Proof/Laws/LowDowel.lean ====
section
/-! SUPPORT. The lowest entry each definition of Machine/Dowel.lean may change (Low). -/

set_option Elab.async false

namespace Sys2Proof.Machine

set_option linter.unusedVariables false

theorem low_stampEvent {L : Nat} {s0 s : State} {a1} (hL : L ≤ 26624) (h : Low L s0 s) : LowP L s0 (State.stampEvent s a1) := by
  unfold State.stampEvent
  split; with_reducible (apply lowP_mk; assumption; apply lowP_mk; apply low_setReg (by omega); assumption)

theorem low_channelTake {L : Nat} {s0 s : State} {a1 a2} (hL : L ≤ 26624) (h : Low L s0 s) : LowP L s0 (State.channelTake s a1 a2) := by
  unfold State.channelTake
  dsimp only; split
  with_reducible (apply lowP_mk; apply low_inc32 (by omega); apply low_inc32 (by omega); apply low_inc64 (by omega); assumption); split
  with_reducible (apply lowP_mk; apply low_inc32 (by omega); apply low_inc32 (by omega); apply low_inc64 (by omega); assumption); split
  with_reducible (apply lowP_mk; apply low_setReg (by omega); apply low_setReg (by omega); apply low_setReg (by omega))
  with_reducible (apply low_inc64 (by omega); apply low_inc64 (by omega); assumption; apply lowP_mk; apply low_inc32 (by omega))
  with_reducible (apply low_inc64 (by omega); assumption)

theorem low_routeEvent {L : Nat} {s0 s : State} {a1} (hL : L ≤ 26624) (h : Low L s0 s) : LowP L s0 (State.routeEvent s a1) := by
  unfold State.routeEvent
  split
  with_reducible (apply low_foldl2; apply low_snd; apply lowP_mk; apply low_of_pair (by assumption); apply low_stampEvent (by omega))
  with_reducible assumption; intro _ _ _; split; split
  with_reducible (apply lowP_mk; apply low_of_pair (by assumption); apply low_channelTake (by omega); assumption)

theorem low_mergeDeliveries {L : Nat} {s0 s : State} {a1 a2} (h : Low L s0 s) : LowP L s0 (State.mergeDeliveries s a1 a2) := by
  unfold State.mergeDeliveries
  split; with_reducible (apply lowP_mk; assumption); dsimp only; with_reducible (apply lowP_mk; apply low_setInput; assumption)

theorem low_deliver {L : Nat} {s0 s : State} {a1 a2} (hL : L ≤ 20480) (h : Low L s0 s) : Low L s0 (State.deliver s a1 a2) := by
  unfold State.deliver
  dsimp only; split; with_reducible (apply low_setInput; assumption); split; split
  with_reducible (apply low_wakeCore (by omega); apply low_setInput; assumption; apply low_setInput; assumption; apply low_setInput)
  with_reducible (assumption; apply low_setInput; assumption)

theorem low_deliverAll {L : Nat} {s0 s : State} {a1} (hL : L ≤ 20480) (h : Low L s0 s) : Low L s0 (State.deliverAll s a1) := by
  unfold State.deliverAll
  with_reducible (apply low_foldl; assumption); intro _ _ _; split
  with_reducible (apply low_deliver (by omega); apply low_of_pair (by assumption); apply low_mergeDeliveries; assumption)
  with_reducible (apply low_of_pair (by assumption); apply low_mergeDeliveries; assumption)

theorem low_takeEvents {L : Nat} {s0 s : State} (hL : L ≤ 20480) (h : Low L s0 s) : Low L s0 (State.takeEvents s) := by
  unfold State.takeEvents
  split; with_reducible assumption; dsimp only
  with_reducible (apply low_deliverAll (by omega); apply low_snd; apply low_foldl2; apply low_snd; apply lowP_mk); apply low_mk
  with_reducible assumption; intro _ _ _; with_reducible (apply lowP_mk; apply low_snd; apply low_routeEvent (by omega); assumption)

theorem low_execEventTake {L : Nat} {s0 s : State} (hL : L ≤ 20480) (h : Low L s0 s) : LowR L s0 (execEventTake s) := by
  unfold execEventTake
  with_reducible apply lowR_next; split; with_reducible (apply low_takeEvents (by omega); assumption; assumption)

theorem low_pushEvent {L : Nat} {s0 s : State} {a1} (h : Low L s0 s) : Low L s0 (State.pushEvent s a1) := by
  unfold State.pushEvent
  apply low_mk; with_reducible assumption

theorem low_relayEmit {L : Nat} {s0 s : State} {a1} (hL : L ≤ 26640) (h : Low L s0 s) : Low L s0 (State.relayEmit s a1) := by
  unfold State.relayEmit
  split; with_reducible assumption; split; with_reducible assumption; dsimp only
  with_reducible (apply low_countE (by omega); apply low_pushEvent; apply low_inc64 (by omega); apply low_takeInput; assumption)

theorem low_execRelayEmit {L : Nat} {s0 s : State} {a0} (hL : L ≤ 26640) (h : Low L s0 s) : LowR L s0 (execRelayEmit a0 s) := by
  unfold execRelayEmit
  with_reducible (apply lowR_inst; apply lowR_next; apply low_relayEmit (by omega); assumption)

theorem low_soft {L : Nat} {s0 s : State} {a1} (hL : L ≤ 27200) (h : Low L s0 s) : Low L s0 (State.soft s a1) := by
  unfold State.soft
  split; with_reducible (assumption; apply low_countE (by omega); apply low_pushEvent; assumption)

theorem low_cmdSoft {L : Nat} {s0 s : State} {a0} (hL : L ≤ 27200) (h : Low L s0 s) : LowV L s0 (cmdSoft a0 s) := by
  unfold cmdSoft
  with_reducible (apply lowV_accept; apply low_soft (by omega); assumption)

theorem low_setAlert {L : Nat} {s0 s : State} {a1 a2} (hL : L ≤ 26672) (h : Low L s0 s) : Low L s0 (State.setAlert s a1 a2) := by
  unfold State.setAlert
  with_reducible apply low_setReg (by omega); apply low_mk; with_reducible assumption

theorem low_alertDelivery {L : Nat} {s0 s : State} {a1} (hL : L ≤ 26672) (h : Low L s0 s) : Low L s0 (State.alertDelivery s a1) := by
  unfold State.alertDelivery
  split; with_reducible assumption; dsimp only; split
  with_reducible (apply low_setAlert (by omega); apply low_inc32 (by omega); apply low_takeInput; assumption)
  with_reducible (apply low_setAlert (by omega); apply low_inc32 (by omega); apply low_takeInput; assumption; apply low_inc32 (by omega))
  with_reducible (apply low_takeInput; assumption)

theorem low_execAlertDelivery {L : Nat} {s0 s : State} {a0} (hL : L ≤ 26672) (h : Low L s0 s) : LowR L s0 (execAlertDelivery a0 s) := by
  unfold execAlertDelivery
  with_reducible (apply lowR_inst; apply lowR_next; apply low_alertDelivery (by omega); assumption)

theorem low_alertPulseEnd {L : Nat} {s0 s : State} {a1} (hL : L ≤ 26672) (h : Low L s0 s) : Low L s0 (State.alertPulseEnd s a1) := by
  unfold State.alertPulseEnd
  split; split; with_reducible (apply low_setAlert (by omega); assumption; assumption; assumption)

theorem low_execAlertPulseEnd {L : Nat} {s0 s : State} {a0} (hL : L ≤ 26672) (h : Low L s0 s) : LowR L s0 (execAlertPulseEnd a0 s) := by
  unfold execAlertPulseEnd
  with_reducible (apply lowR_inst; apply lowR_next; apply low_alertPulseEnd (by omega); assumption)

theorem low_cmdRelease {L : Nat} {s0 s : State} {a0} (hL : L ≤ 26672) (h : Low L s0 s) : LowV L s0 (cmdRelease a0 s) := by
  unfold cmdRelease
  with_reducible apply lowV_ok; split; with_reducible (apply low_setAlert (by omega); assumption; assumption)

theorem low_counterZero {L : Nat} {s0 s : State} {a1} (h : Low L s0 s) : Low L s0 (State.counterZero s a1) := by
  unfold State.counterZero
  apply low_mk; with_reducible assumption

theorem low_snapCounter {L : Nat} {s0 s : State} {a1 a2} (hL : L ≤ 27200) (h : Low L s0 s) : Low L s0 (State.snapCounter s a1 a2) := by
  unfold State.snapCounter
  dsimp only; split
  with_reducible (apply low_counterZero; apply low_setReg (by omega); assumption; apply low_setReg (by omega); assumption)

theorem low_snapshot {L : Nat} {s0 s : State} {a1} (hL : L ≤ 27152) (h : Low L s0 s) : Low L s0 (State.snapshot s a1) := by
  unfold State.snapshot
  split; with_reducible assumption; dsimp only
  with_reducible (apply low_setReg (by omega); apply low_setReg (by omega); apply low_inc64 (by omega); apply low_each); apply low_mk
  with_reducible assumption; intro _ _ _; with_reducible (apply low_snapCounter (by omega); assumption)

theorem low_setSnapDone {L : Nat} {s0 s : State} {a1 a2} (h : Low L s0 s) : Low L s0 (State.setSnapDone s a1 a2) := by
  unfold State.setSnapDone
  apply low_mk; with_reducible assumption

theorem low_snapAtTime {L : Nat} {s0 s : State} {a1} (hL : L ≤ 27152) (h : Low L s0 s) : Low L s0 (State.snapAtTime s a1) := by
  unfold State.snapAtTime
  dsimp only; split; with_reducible (apply low_setSnapDone; apply low_snapshot (by omega); assumption; apply low_setReg (by omega))
  with_reducible (apply low_snapshot (by omega); assumption)

theorem low_execSnapshotTime {L : Nat} {s0 s : State} {a0} (hL : L ≤ 27152) (h : Low L s0 s) : LowR L s0 (execSnapshotTime a0 s) := by
  unfold execSnapshotTime
  with_reducible (apply lowR_inst; apply lowR_next); split; with_reducible (apply low_snapAtTime (by omega); assumption; assumption)

theorem low_snapEvent {L : Nat} {s0 s : State} {a1} (hL : L ≤ 27152) (h : Low L s0 s) : Low L s0 (State.snapEvent s a1) := by
  unfold State.snapEvent
  split; with_reducible assumption; dsimp only; split
  with_reducible (apply low_snapshot (by omega); apply low_takeInput; assumption; apply low_takeInput; assumption)

theorem low_execSnapshotEvent {L : Nat} {s0 s : State} {a0} (hL : L ≤ 27152) (h : Low L s0 s) : LowR L s0 (execSnapshotEvent a0 s) := by
  unfold execSnapshotEvent
  with_reducible (apply lowR_inst; apply lowR_next; apply low_snapEvent (by omega); assumption)

theorem low_cmdSnapNow {L : Nat} {s0 s : State} {a0} (hL : L ≤ 27152) (h : Low L s0 s) : LowV L s0 (cmdSnapNow a0 s) := by
  unfold cmdSnapNow
  with_reducible (apply lowV_ok; apply low_snapshot (by omega); assumption)

theorem low_cmdCounterClear {L : Nat} {s0 s : State} {a0} (h : Low L s0 s) : LowV L s0 (cmdCounterClear a0 s) := by
  unfold cmdCounterClear
  with_reducible (apply lowV_ok; apply low_counterZero; assumption)

theorem low_execCounterWrap {L : Nat} {s0 s : State} {a0} (hL : L ≤ 27200) (h : Low L s0 s) : LowR L s0 (execCounterWrap a0 s) := by
  unfold execCounterWrap
  with_reducible apply lowR_inst; split
  with_reducible (apply lowR_next; apply low_counterAdd (by omega); assumption; apply lowR_next; assumption)

theorem low_channelEnable {L : Nat} {s0 s : State} {a1} (hL : L ≤ 26880) (h : Low L s0 s) : Low L s0 (State.channelEnable s a1) := by
  unfold State.channelEnable
  split; with_reducible (apply low_setReg (by omega); apply low_setReg (by omega); assumption; apply low_setReg (by omega))
  with_reducible (apply low_setReg (by omega); assumption; assumption)

theorem low_channelReaches {L : Nat} {s0 s : State} {a1} (h : Low L s0 s) : Low L s0 (State.channelReaches s a1) := by
  unfold State.channelReaches
  apply low_mk; with_reducible assumption

theorem low_channelLeaves {L : Nat} {s0 s : State} {a1} (h : Low L s0 s) : Low L s0 (State.channelLeaves s a1) := by
  unfold State.channelLeaves
  split; apply low_mk; with_reducible (assumption; assumption)

theorem low_channelDisable {L : Nat} {s0 s : State} {a1} (hL : L ≤ 26880) (h : Low L s0 s) : Low L s0 (State.channelDisable s a1) := by
  unfold State.channelDisable
  dsimp only; split; with_reducible apply low_setReg (by omega); split
  with_reducible (apply low_setReg (by omega); assumption; assumption; apply low_channelLeaves; apply low_setReg (by omega)); split
  with_reducible (apply low_setReg (by omega); assumption; assumption; apply low_setReg (by omega)); split
  with_reducible (apply low_setReg (by omega); assumption; assumption); split
  with_reducible (apply low_setReg (by omega); assumption; assumption)

theorem low_dowelAfter {L : Nat} {s0 s : State} {a1 a2} (h : Low L s0 s) : Low L s0 (dowelAfter s a1 a2) := by
  unfold dowelAfter
  split; with_reducible (apply low_setSnapDone; assumption; assumption)

theorem low_counterOn {L : Nat} {s0 s : State} {a1} (h : Low L s0 s) : Low L s0 (State.counterOn s a1) := by
  unfold State.counterOn
  with_reducible (apply low_counterZero; assumption)

theorem low_attrWrite {L : Nat} {s0 s : State} {a1 a2} (hL : L ≤ 26624) (h : Low L s0 s) : Low L s0 (State.attrWrite s a1 a2) := by
  unfold State.attrWrite
  dsimp only; split
  with_reducible (apply low_setReg (by omega); apply low_setReg (by omega); assumption; apply low_inc32 (by omega); assumption)

end Sys2Proof.Machine
end

