-- ==== Sys2Proof/Laws/LowPosition.lean ====
section
/-! SUPPORT. The lowest entry each definition of Machine/Position.lean may change (Low). -/

set_option Elab.async false

namespace Sys2Proof.Machine

set_option linter.unusedVariables false

theorem low_modAxis {L : Nat} {s0 s : State} {a1 a2} (h : Low L s0 s) : Low L s0 (State.modAxis s a1 a2) := by
  unfold State.modAxis
  apply low_mk; with_reducible assumption

theorem low_modList {L : Nat} {s0 s : State} {a1 a2} (h : Low L s0 s) : Low L s0 (State.modList s a1 a2) := by
  unfold State.modList
  apply low_mk; with_reducible assumption

theorem low_modGen {L : Nat} {s0 s : State} {a1} (h : Low L s0 s) : Low L s0 (State.modGen s a1) := by
  unfold State.modGen
  apply low_mk; with_reducible assumption

theorem low_unmarked {L : Nat} {s0 s : State} {a1 a2} (hL : L ≤ 17552) (h : Low L s0 s) : Low L s0 (State.unmarked s a1 a2) := by
  unfold State.unmarked
  split; with_reducible (apply low_inc32 (by omega); assumption; assumption)

theorem low_compareFire {L : Nat} {s0 s : State} {a1 a2} (hL : L ≤ 25616) (h : Low L s0 s) : Low L s0 (State.compareFire s a1 a2) := by
  unfold State.compareFire
  dsimp only; split
  with_reducible (apply low_inc32 (by omega); apply low_modList; apply low_fire (by omega); apply low_inc64 (by omega); assumption)
  with_reducible (apply low_emit; apply low_modList; apply low_modList; apply low_fire (by omega); apply low_inc64 (by omega))
  with_reducible assumption

theorem low_compareMissed {L : Nat} {s0 s : State} {a1 a2} (hL : L ≤ 17552) (h : Low L s0 s) : Low L s0 (State.compareMissed s a1 a2) := by
  unfold State.compareMissed
  dsimp only
  with_reducible (apply low_unmarked (by omega); apply low_fire (by omega); apply low_setReg (by omega); apply low_setReg (by omega))
  with_reducible (apply low_inc32 (by omega); assumption)

theorem low_compareCancel {L : Nat} {s0 s : State} {a1 a2} (hL : L ≤ 17552) (h : Low L s0 s) : Low L s0 (State.compareCancel s a1 a2) := by
  unfold State.compareCancel
  with_reducible (apply low_unmarked (by omega); apply low_inc32 (by omega); assumption)

theorem low_showArmed {L : Nat} {s0 s : State} {a1} (hL : L ≤ 25616) (h : Low L s0 s) : Low L s0 (State.showArmed s a1) := by
  unfold State.showArmed
  with_reducible (apply low_setReg (by omega); assumption)

theorem low_sweepList {L : Nat} {s0 s : State} {a1 a2 a3} (hL : L ≤ 17552) (h : Low L s0 s) : Low L s0 (State.sweepList s a1 a2 a3) := by
  unfold State.sweepList
  dsimp only; split; with_reducible (assumption; apply low_showArmed (by omega); apply low_each; apply low_modList; assumption)
  intro _ _ _; split; with_reducible (apply low_compareFire (by omega); assumption; apply low_compareMissed (by omega); assumption)

theorem low_compareSweep {L : Nat} {s0 s : State} {a1} (hL : L ≤ 17552) (h : Low L s0 s) : Low L s0 (State.compareSweep s a1) := by
  unfold State.compareSweep
  with_reducible (apply low_each; assumption); intro _ _ _; split; with_reducible (apply low_sweepList (by omega); assumption; assumption)

theorem low_placeEntry {L : Nat} {s0 s : State} {a1 a2} (hL : L ≤ 17552) (h : Low L s0 s) : Low L s0 (State.placeEntry s a1 a2) := by
  unfold State.placeEntry
  dsimp only; split; with_reducible (apply low_compareFire (by omega); assumption; apply low_compareMissed (by omega); assumption)
  with_reducible (apply low_showArmed (by omega); apply low_modList; assumption)

theorem low_cmdPlace {L : Nat} {s0 s : State} {a0} (hL : L ≤ 17552) (h : Low L s0 s) : LowV L s0 (cmdPlace a0 s) := by
  unfold cmdPlace
  dsimp only; split; with_reducible (apply lowV_error; apply lowV_accept; apply low_placeEntry (by omega); assumption)

theorem low_cancelEntries {L : Nat} {s0 s : State} {a1 a2} (hL : L ≤ 17552) (h : Low L s0 s) : Low L s0 (State.cancelEntries s a1 a2) := by
  unfold State.cancelEntries
  dsimp only; split; with_reducible (assumption; apply low_showArmed (by omega); apply low_each; apply low_modList; assumption)
  intro _ _ _; with_reducible (apply low_compareCancel (by omega); assumption)

theorem low_cmdCompareClear {L : Nat} {s0 s : State} {a0} (hL : L ≤ 17552) (h : Low L s0 s) : LowV L s0 (cmdCompareClear a0 s) := by
  unfold cmdCompareClear
  with_reducible (apply lowV_ok; apply low_cancelEntries (by omega); assumption)

theorem low_markerArrive {L : Nat} {s0 s : State} {a1} (hL : L ≤ 17552) (h : Low L s0 s) : Low L s0 (State.markerArrive s a1) := by
  unfold State.markerArrive
  split; with_reducible assumption; dsimp only; split
  with_reducible (apply low_placeEntry (by omega); apply low_inc32 (by omega); apply low_modList; assumption; apply low_fire (by omega))
  with_reducible (apply low_inc32 (by omega); apply low_modList; assumption)

theorem low_execMarkerEntryArrive {L : Nat} {s0 s : State} {a0} (hL : L ≤ 17552) (h : Low L s0 s) : LowR L s0 (execMarkerEntryArrive a0 s) := by
  unfold execMarkerEntryArrive
  with_reducible (apply lowR_inst; apply lowR_next; apply low_markerArrive (by omega); assumption)

theorem low_execCmpoutPulseEnd {L : Nat} {s0 s : State} {a0} (h : Low L s0 s) : LowR L s0 (execCmpoutPulseEnd a0 s) := by
  unfold execCmpoutPulseEnd
  with_reducible apply lowR_inst; split
  with_reducible (apply lowR_next; apply low_emit; apply low_modList; assumption; apply lowR_next; assumption)

theorem low_edgesDue {L : Nat} {s0 s : State} {n : Nat} (hL : L ≤ 25632) (h : Low L s0 s) : Low L s0 (State.edgesDue n s) := by
  induction n generalizing s with
  | zero => exact h
  | succ n ih =>
    unfold State.edgesDue
    dsimp only
    apply ih
    repeat' first | assumption | with_reducible first | apply low_inc32 (by omega) | apply low_modGen | split

theorem low_genSweep {L : Nat} {s0 s : State} {a1} (hL : L ≤ 25632) (h : Low L s0 s) : Low L s0 (State.genSweep s a1) := by
  unfold State.genSweep
  split; with_reducible (apply low_edgesDue (by omega); assumption; assumption)

theorem low_execTimerLineEdge {L : Nat} {s0 s : State} (hL : L ≤ 25632) (h : Low L s0 s) : LowR L s0 (execTimerLineEdge s) := by
  unfold execTimerLineEdge
  split; with_reducible (apply lowR_next; apply low_edgesDue (by omega); assumption; apply lowR_next; assumption)

theorem low_edgeOut {L : Nat} {s0 s : State} (hL : L ≤ 25632) (h : Low L s0 s) : Low L s0 (State.edgeOut s) := by
  unfold State.edgeOut
  dsimp only
  with_reducible (apply low_fire (by omega); apply low_setReg (by omega); apply low_setReg (by omega); apply low_setReg (by omega))
  with_reducible (apply low_inc64 (by omega); apply low_modGen; assumption)

theorem low_execLineEdgeEmit {L : Nat} {s0 s : State} (hL : L ≤ 25632) (h : Low L s0 s) : LowR L s0 (execLineEdgeEmit s) := by
  unfold execLineEdgeEmit
  split; with_reducible (apply lowR_next; apply low_edgeOut (by omega); assumption; apply lowR_next; assumption)

theorem low_execLtrigPulse {L : Nat} {s0 s : State} {a0} (h : Low L s0 s) : LowR L s0 (execLtrigPulse a0 s) := by
  unfold execLtrigPulse
  with_reducible apply lowR_inst; split; dsimp only
  with_reducible (apply lowR_next; apply low_emit; apply low_modGen; assumption; apply lowR_next; assumption)

theorem low_setDirection {L : Nat} {s0 s : State} {a1 a2 a3} (hL : L ≤ 25600) (h : Low L s0 s) : Low L s0 (State.setDirection s a1 a2 a3) := by
  unfold State.setDirection
  dsimp only
  with_reducible (apply low_fire (by omega); apply low_inc32 (by omega); apply low_modAxis; apply low_setReg (by omega); assumption)

theorem low_openReverse {L : Nat} {s0 s : State} {a1} (hL : L ≤ 25600) (h : Low L s0 s) : Low L s0 (State.openReverse s a1) := by
  unfold State.openReverse
  with_reducible (apply low_modAxis; apply low_regBit (by omega); assumption)

theorem low_directionMove {L : Nat} {s0 s : State} {a1 a2 a3} (hL : L ≤ 25600) (h : Low L s0 s) : Low L s0 (State.directionMove s a1 a2 a3) := by
  unfold State.directionMove
  dsimp only; split; split; with_reducible (apply low_setDirection (by omega); assumption; assumption); split
  with_reducible (apply low_modAxis; assumption); split
  with_reducible (apply low_setDirection (by omega); assumption; apply low_openReverse (by omega); assumption); split
  with_reducible (apply low_modAxis; assumption); split
  with_reducible (apply low_setDirection (by omega); assumption; apply low_openReverse (by omega); assumption)

theorem low_standCount {L : Nat} {s0 s : State} {a1} (hL : L ≤ 25600) (h : Low L s0 s) : Low L s0 (State.standCount s a1) := by
  unfold State.standCount
  dsimp only; split; with_reducible (apply low_modAxis; apply low_setReg (by omega); assumption; apply low_modAxis; assumption)

theorem low_move {L : Nat} {s0 s : State} {a1 a2} (hL : L ≤ 17552) (h : Low L s0 s) : Low L s0 (State.move s a1 a2) := by
  unfold State.move
  split; with_reducible assumption; dsimp only
  with_reducible (apply low_genSweep (by omega); apply low_compareSweep (by omega); apply low_directionMove (by omega))
  with_reducible (apply low_standCount (by omega); apply low_modAxis; apply low_setReg (by omega); assumption)

theorem low_posError {L : Nat} {s0 s : State} {a1} (hL : L ≤ 25600) (h : Low L s0 s) : Low L s0 (State.posError s a1) := by
  unfold State.posError
  with_reducible (apply low_fire (by omega); apply low_inc32 (by omega); assumption)

theorem low_glitch {L : Nat} {s0 s : State} {a1} (hL : L ≤ 25600) (h : Low L s0 s) : Low L s0 (State.glitch s a1) := by
  unfold State.glitch
  with_reducible (apply low_inc32 (by omega); assumption)

theorem low_execEncoderEdge {L : Nat} {s0 s : State} {a0 a1 a2 a3} (hL : L ≤ 17552) (h : Low L s0 s) : LowR L s0 (execEncoderEdge a0 a1 a2 a3 s) := by
  unfold execEncoderEdge
  with_reducible apply lowR_inst; split; split; with_reducible (apply lowR_next; apply low_glitch (by omega); assumption); dsimp only
  split; with_reducible (apply lowR_next; apply low_modAxis; assumption); split
  with_reducible (apply lowR_next; apply low_posError (by omega); apply low_modAxis; assumption; apply lowR_next)
  with_reducible (apply low_move (by omega); apply low_modAxis; assumption; apply lowR_next; assumption)

theorem low_hallMove {L : Nat} {s0 s : State} {a1 a2} (hL : L ≤ 17552) (h : Low L s0 s) : Low L s0 (State.hallMove s a1 a2) := by
  unfold State.hallMove
  split; with_reducible (apply low_modAxis; assumption; apply low_posError (by omega); assumption; apply low_posError (by omega))
  with_reducible (apply low_modAxis; assumption); dsimp only; split; with_reducible assumption; split
  with_reducible (apply low_move (by omega); apply low_modAxis; assumption); split
  with_reducible (apply low_move (by omega); apply low_modAxis; assumption; apply low_posError (by omega); apply low_modAxis; assumption)

theorem low_execHallState {L : Nat} {s0 s : State} {a0 a1 a2} (hL : L ≤ 17552) (h : Low L s0 s) : LowR L s0 (execHallState a0 a1 a2 s) := by
  unfold execHallState
  with_reducible apply lowR_inst; split; split
  with_reducible (apply lowR_next; apply low_glitch (by omega); assumption; apply lowR_next; apply low_hallMove (by omega); assumption)
  with_reducible (apply lowR_next; assumption)

theorem low_axisStart {L : Nat} {s0 s : State} {a1} (hL : L ≤ 25600) (h : Low L s0 s) : Low L s0 (State.axisStart s a1) := by
  unfold State.axisStart
  dsimp only; with_reducible (apply low_modAxis; apply low_setReg (by omega); apply low_setReg (by omega); assumption)

theorem low_ssiFrame {L : Nat} {s0 s : State} {a1 a2 a3} (hL : L ≤ 17552) (h : Low L s0 s) : Low L s0 (State.ssiFrame s a1 a2 a3) := by
  unfold State.ssiFrame
  dsimp only; split; with_reducible (apply low_posError (by omega); assumption); split; split; split
  with_reducible (apply low_axisStart (by omega); apply low_modAxis; assumption; apply low_modAxis; assumption); split
  with_reducible (apply low_axisStart (by omega); apply low_modAxis; assumption; apply low_modAxis; assumption); split; split
  with_reducible (apply low_posError (by omega); assumption; apply low_move (by omega); apply low_modAxis; assumption); split
  with_reducible (apply low_posError (by omega); assumption; apply low_move (by omega); apply low_modAxis; assumption)

theorem low_execSsiFrame {L : Nat} {s0 s : State} {a0 a1 a2} (hL : L ≤ 17552) (h : Low L s0 s) : LowR L s0 (execSsiFrame a0 a1 a2 s) := by
  unfold execSsiFrame
  with_reducible apply lowR_inst; split
  with_reducible (apply lowR_next; apply low_ssiFrame (by omega); assumption; apply lowR_next; assumption)

theorem low_preset {L : Nat} {s0 s : State} {a1} (hL : L ≤ 17552) (h : Low L s0 s) : Low L s0 (State.preset s a1) := by
  unfold State.preset
  dsimp only; with_reducible apply low_each; split
  with_reducible (apply low_modGen; apply low_modAxis; apply low_setReg (by omega); assumption; apply low_modAxis)
  with_reducible (apply low_setReg (by omega); assumption); intro _ _ _
  with_reducible (apply low_modList; apply low_sweepList (by omega); assumption)

theorem low_cmdPreset {L : Nat} {s0 s : State} {a0} (hL : L ≤ 17552) (h : Low L s0 s) : LowV L s0 (cmdPreset a0 s) := by
  unfold cmdPreset
  with_reducible (apply lowV_ok; apply low_preset (by omega); assumption)

theorem low_indexEdge {L : Nat} {s0 s : State} {a1} (hL : L ≤ 17552) (h : Low L s0 s) : Low L s0 (State.indexEdge s a1) := by
  unfold State.indexEdge
  dsimp only; split; split
  with_reducible (apply low_regBit (by omega); apply low_setReg (by omega); apply low_preset (by omega); apply low_fire (by omega))
  with_reducible (apply low_setReg (by omega); assumption; apply low_fire (by omega); apply low_setReg (by omega); assumption)
  with_reducible assumption

theorem low_execIndexEdge {L : Nat} {s0 s : State} {a0 a1} (hL : L ≤ 17552) (h : Low L s0 s) : LowR L s0 (execIndexEdge a0 a1 s) := by
  unfold execIndexEdge
  with_reducible apply lowR_inst; split; split
  with_reducible (apply lowR_next; apply low_glitch (by omega); assumption; apply lowR_next; apply low_indexEdge (by omega); assumption)
  with_reducible (apply lowR_next; assumption)

theorem low_observe {L : Nat} {s0 s : State} {a1} (hL : L ≤ 25600) (h : Low L s0 s) : Low L s0 (State.observe s a1) := by
  unfold State.observe
  dsimp only; split; split
  with_reducible (apply low_regBit (by omega); apply low_setReg (by omega); apply low_modAxis; assumption; apply low_setReg (by omega))
  with_reducible (apply low_modAxis; assumption); split
  with_reducible (apply low_regBit (by omega); apply low_setReg (by omega); apply low_modAxis; assumption; apply low_setReg (by omega))
  with_reducible (apply low_modAxis; assumption)

theorem low_execObserverUpdate {L : Nat} {s0 s : State} {a0} (hL : L ≤ 25600) (h : Low L s0 s) : LowR L s0 (execObserverUpdate a0 s) := by
  unfold execObserverUpdate
  with_reducible apply lowR_inst; split
  with_reducible (apply lowR_next; apply low_observe (by omega); assumption; apply lowR_next; assumption)

theorem low_standstill {L : Nat} {s0 s : State} {a1} (hL : L ≤ 25600) (h : Low L s0 s) : Low L s0 (State.standstill s a1) := by
  unfold State.standstill
  dsimp only
  with_reducible (apply low_fire (by omega); apply low_setReg (by omega); apply low_regBit (by omega); apply low_modAxis; assumption)

theorem low_execStandstill {L : Nat} {s0 s : State} {a0} (hL : L ≤ 25600) (h : Low L s0 s) : LowR L s0 (execStandstill a0 s) := by
  unfold execStandstill
  with_reducible (apply lowR_inst; apply lowR_next); split; with_reducible (apply low_standstill (by omega); assumption; assumption)

theorem low_genStart {L : Nat} {s0 s : State} (hL : L ≤ 25632) (h : Low L s0 s) : Low L s0 (State.genStart s) := by
  unfold State.genStart
  dsimp only; with_reducible (apply low_modGen; apply low_setReg (by omega); assumption)

theorem low_axisLeaves {L : Nat} {s0 s : State} {a1} (hL : L ≤ 17552) (h : Low L s0 s) : Low L s0 (State.axisLeaves s a1) := by
  unfold State.axisLeaves
  with_reducible (apply low_each; assumption); intro _ _ _; with_reducible (apply low_cancelEntries (by omega); assumption)

theorem low_positionAfter {L : Nat} {s0 s : State} {a1 a2} (hi1 : L ≤ a1) (h : Low L s0 s) : Low L s0 (positionAfter s a1 a2) := by
  unfold positionAfter
  split; with_reducible (apply low_regBit (by omega); assumption; assumption)

end Sys2Proof.Machine
end

