-- ==== Sys2Proof/Laws/LowAvail.lean ====
section
/-! SUPPORT. The lowest entry each definition of Machine/Avail.lean may change (Low). -/

set_option Elab.async false

namespace Sys2Proof.Machine

set_option linter.unusedVariables false

theorem low_setPair {L : Nat} {s0 s : State} {a1 a2} (hL : L ≤ 28704) (h : Low L s0 s) : Low L s0 (State.setPair s a1 a2) := by
  unfold State.setPair
  with_reducible (apply low_setReg (by omega); assumption)

theorem low_runSlot {L : Nat} {s0 s : State} {a1} (hL : L ≤ 4096) (h : Low L s0 s) : Low L s0 (State.runSlot s a1) := by
  unfold State.runSlot
  with_reducible (apply low_setReg (by omega); apply low_setReg (by omega); apply low_setReg (by omega); assumption)

theorem low_startProbation {L : Nat} {s0 s : State} (h : Low L s0 s) : Low L s0 (State.startProbation s) := by
  unfold State.startProbation
  apply low_mk; with_reducible assumption

theorem low_failUpdate {L : Nat} {s0 s : State} {a1} (hL : L ≤ 4096) (h : Low L s0 s) : Low L s0 (State.failUpdate s a1) := by
  unfold State.failUpdate
  dsimp only; split; with_reducible (apply low_faultRecord (by omega); apply low_setReg (by omega); assumption); split
  with_reducible (apply low_startProbation; assumption); split
  with_reducible (apply low_faultRecord (by omega); apply low_setReg (by omega); apply low_runSlot (by omega); assumption; assumption)

theorem low_failover {L : Nat} {s0 s : State} {a1} (hL : L ≤ 4096) (h : Low L s0 s) : Low L s0 (State.failover s a1) := by
  unfold State.failover
  dsimp only; split; with_reducible (apply low_failUpdate (by omega); apply low_faultDone (by omega); apply low_setReg (by omega))
  with_reducible (apply low_setReg (by omega); apply low_inc32 (by omega); apply low_setReg (by omega); apply low_setPair (by omega))
  with_reducible (apply low_setPair (by omega); apply low_snd; apply low_draw; apply low_faultStart (by omega); assumption); apply low_mk
  with_reducible (apply low_faultDone (by omega); apply low_setPair (by omega); apply low_faultStart (by omega); assumption)

theorem low_execLockstepMismatch {L : Nat} {s0 s : State} (hL : L ≤ 4096) (h : Low L s0 s) : LowR L s0 (execLockstepMismatch s) := by
  unfold execLockstepMismatch
  split; with_reducible (apply lowR_next; apply low_failover (by omega); assumption; apply lowR_next; assumption)

theorem low_execWatchdogExpiry {L : Nat} {s0 s : State} (hL : L ≤ 4096) (h : Low L s0 s) : LowR L s0 (execWatchdogExpiry s) := by
  unfold execWatchdogExpiry
  split; with_reducible (apply lowR_next; apply low_failover (by omega); assumption; apply lowR_next; assumption)

theorem low_cmdFailover {L : Nat} {s0 s : State} (hL : L ≤ 4096) (h : Low L s0 s) : LowV L s0 (cmdFailover s) := by
  unfold cmdFailover
  with_reducible (apply lowV_accept; apply low_failover (by omega); assumption)

theorem low_execPairSelftestComplete {L : Nat} {s0 s : State} {a0} (hL : L ≤ 28704) (h : Low L s0 s) : LowR L s0 (execPairSelftestComplete a0 s) := by
  unfold execPairSelftestComplete
  dsimp only; split; with_reducible (apply lowR_next; apply low_setPair (by omega); assumption); split
  with_reducible (apply lowR_next; apply low_setPair (by omega); assumption; apply lowR_next; assumption)

theorem low_cmdActivate {L : Nat} {s0 s : State} (hL : L ≤ 28688) (h : Low L s0 s) : LowV L s0 (cmdActivate s) := by
  unfold cmdActivate
  dsimp only; with_reducible (apply lowV_accept; apply low_setReg (by omega); apply low_setPair (by omega); assumption)

theorem low_execLoadingComplete {L : Nat} {s0 s : State} (hL : L ≤ 28688) (h : Low L s0 s) : LowR L s0 (execLoadingComplete s) := by
  unfold execLoadingComplete
  split; with_reducible (apply lowR_next; apply low_setReg (by omega); assumption; apply lowR_next; assumption)

theorem low_execHandoverComplete {L : Nat} {s0 s : State} {a0} (hL : L ≤ 4096) (h : Low L s0 s) : LowR L s0 (execHandoverComplete a0 s) := by
  unfold execHandoverComplete
  split; dsimp only; with_reducible (apply lowR_next; apply low_setReg (by omega); apply low_startProbation); apply low_mk
  with_reducible (apply low_runSlot (by omega); apply low_setReg (by omega); apply low_setReg (by omega); apply low_setReg (by omega))
  with_reducible (apply low_setPair (by omega); apply low_setPair (by omega); assumption; apply lowR_next; assumption)

theorem low_tap {L : Nat} {s0 s : State} {a1 a2 a3} (h : Low L s0 s) : Low L s0 (State.tap s a1 a2 a3) := by
  unfold State.tap
  apply low_mk; with_reducible assumption

theorem low_execExtest {L : Nat} {s0 s : State} {a0 a1} (h : Low L s0 s) : LowR L s0 (execExtest a0 a1 s) := by
  unfold execExtest
  split; with_reducible (apply lowR_next; apply low_tap; assumption; apply lowR_next); dsimp only; apply low_mk
  with_reducible (apply low_tap; assumption)

theorem low_execIdcode {L : Nat} {s0 s : State} (h : Low L s0 s) : LowR L s0 (execIdcode s) := by
  unfold execIdcode
  with_reducible (apply lowR_next; apply low_tap; assumption)

theorem low_execSamplePreload {L : Nat} {s0 s : State} {a0 a1} (h : Low L s0 s) : LowR L s0 (execSamplePreload a0 a1 s) := by
  unfold execSamplePreload
  with_reducible apply lowR_next; dsimp only; apply low_mk; with_reducible (apply low_tap; assumption)

theorem low_execClamp {L : Nat} {s0 s : State} (h : Low L s0 s) : LowR L s0 (execClamp s) := by
  unfold execClamp
  with_reducible (apply lowR_next; apply low_tap; assumption)

theorem low_execHighz {L : Nat} {s0 s : State} (h : Low L s0 s) : LowR L s0 (execHighz s) := by
  unfold execHighz
  with_reducible (apply lowR_next; apply low_tap; assumption)

theorem low_execBypass {L : Nat} {s0 s : State} (h : Low L s0 s) : LowR L s0 (execBypass s) := by
  unfold execBypass
  with_reducible (apply lowR_next; apply low_tap; assumption)

end Sys2Proof.Machine
end

