-- ==== Sys2Proof/Laws/LowDramMap.lean ====
section
/-! SUPPORT. The lowest entry each definition of Machine/DramMap.lean may change (Low). -/

set_option Elab.async false

namespace Sys2Proof.Machine

set_option linter.unusedVariables false

theorem low_setDdr {L : Nat} {s0 s : State} {a1} (h : Low L s0 s) : Low L s0 (State.setDdr s a1) := by
  unfold State.setDdr
  apply low_mk; with_reducible assumption

theorem low_modChan {L : Nat} {s0 s : State} {a1 a2} (h : Low L s0 s) : Low L s0 (State.modChan s a1 a2) := by
  unfold State.modChan
  with_reducible (apply low_setDdr; assumption)

theorem low_closeRow {L : Nat} {s0 s : State} {a1 a2} (hL : L ≤ 22544) (h : Low L s0 s) : Low L s0 (State.closeRow s a1 a2) := by
  unfold State.closeRow
  dsimp only; split; with_reducible assumption; split; split
  with_reducible (apply low_modChan; assumption; apply low_inc64 (by omega); apply low_inc64 (by omega); apply low_modChan; assumption)
  split
  with_reducible (apply low_modChan; assumption; apply low_inc64 (by omega); apply low_inc64 (by omega); apply low_modChan; assumption)

theorem low_closeRows {L : Nat} {s0 s : State} {a1 a2} (hL : L ≤ 22544) (h : Low L s0 s) : Low L s0 (State.closeRows s a1 a2) := by
  unfold State.closeRows
  with_reducible (apply low_each; assumption); intro _ _ _; with_reducible (apply low_closeRow (by omega); assumption)

theorem low_activate {L : Nat} {s0 s : State} {a1 a2 a3} (hL : L ≤ 22544) (h : Low L s0 s) : Low L s0 (State.activate s a1 a2 a3) := by
  unfold State.activate
  dsimp only; with_reducible (apply low_inc64 (by omega); apply low_modChan; assumption)

theorem low_access {L : Nat} {s0 s : State} {a1 a2} (hL : L ≤ 22544) (h : Low L s0 s) : Low L s0 (State.access s a1 a2) := by
  unfold State.access
  dsimp only; split
  with_reducible (apply low_inc64 (by omega); assumption; apply low_activate (by omega); apply low_closeRow (by omega); assumption)

theorem low_deviceRead {L : Nat} {s0 s : State} {a1 a2} (hL : L ≤ 22544) (h : Low L s0 s) : Low L s0 (State.deviceRead s a1 a2) := by
  unfold State.deviceRead
  with_reducible (apply low_inc64 (by omega); apply low_access (by omega); assumption)

theorem low_markUnit {L : Nat} {s0 s : State} {a1 a2 a3} (h : Low L s0 s) : Low L s0 (State.markUnit s a1 a2 a3) := by
  unfold State.markUnit
  dsimp only; with_reducible (apply low_setDdr; assumption)

theorem low_deviceWrite {L : Nat} {s0 s : State} {a1 a2 a3} (hL : L ≤ 22544) (h : Low L s0 s) : Low L s0 (State.deviceWrite s a1 a2 a3) := by
  unfold State.deviceWrite
  split
  with_reducible (assumption; apply low_markUnit; apply low_putUnit; apply low_inc64 (by omega); apply low_access (by omega); assumption)

theorem low_readFails {L : Nat} {s0 s : State} {a1 a2} (hL : L ≤ 22529) (h : Low L s0 s) : Low L s0 (State.readFails s a1 a2) := by
  unfold State.readFails
  with_reducible (apply low_faultRecord (by omega); apply low_inc32 (by omega); assumption)

theorem low_rebuildRead {L : Nat} {s0 s : State} {a1 a2} (hL : L ≤ 22529) (h : Low L s0 s) : Low L s0 (State.rebuildRead s a1 a2) := by
  unfold State.rebuildRead
  with_reducible (apply low_inc64 (by omega); apply low_each; assumption); intro _ _ _
  with_reducible (apply low_deviceRead (by omega); assumption)

theorem low_engineRead {L : Nat} {s0 s : State} {a1 a2} (hL : L ≤ 22529) (h : Low L s0 s) : Low L s0 (State.engineRead s a1 a2) := by
  unfold State.engineRead
  split; with_reducible (apply low_deviceRead (by omega); assumption); split
  with_reducible (apply low_rebuildRead (by omega); assumption; apply low_readFails (by omega); assumption)

theorem low_closeStripe {L : Nat} {s0 s : State} {a1} (hL : L ≤ 22529) (h : Low L s0 s) : Low L s0 (State.closeStripe s a1) := by
  unfold State.closeStripe
  dsimp only; split; with_reducible (apply low_markUnit; apply low_deviceWrite (by omega); apply low_setDdr); split
  with_reducible (apply low_inc64 (by omega); apply low_each; assumption); intro _ _ _
  with_reducible (apply low_engineRead (by omega); assumption; apply low_inc64 (by omega); apply low_inc64 (by omega); apply low_each)
  with_reducible assumption; intro _ _ _
  with_reducible (apply low_engineRead (by omega); assumption; apply low_deviceWrite (by omega); apply low_setDdr); split
  with_reducible (apply low_inc64 (by omega); apply low_each; assumption); intro _ _ _
  with_reducible (apply low_engineRead (by omega); assumption; apply low_inc64 (by omega); apply low_inc64 (by omega); apply low_each)
  with_reducible assumption; intro _ _ _; with_reducible (apply low_engineRead (by omega); assumption)

theorem low_enterStripe {L : Nat} {s0 s : State} {a1 a2 a3 a4} (hL : L ≤ 22544) (h : Low L s0 s) : Low L s0 (State.enterStripe s a1 a2 a3 a4) := by
  unfold State.enterStripe
  dsimp only; split
  with_reducible (apply low_markUnit; apply low_deviceWrite (by omega); apply low_setDdr; assumption; apply low_deviceWrite (by omega))
  with_reducible (apply low_setDdr; assumption)

theorem low_completeUnit {L : Nat} {s0 s : State} {a1 a2 a3} (hL : L ≤ 22529) (h : Low L s0 s) : LowP L s0 (State.completeUnit s a1 a2 a3) := by
  unfold State.completeUnit
  split; with_reducible (apply lowP_mk; assumption); split
  with_reducible (apply lowP_mk; apply low_inc64 (by omega); apply low_engineRead (by omega); assumption); dsimp only
  with_reducible (apply lowP_mk; apply low_inc64 (by omega); apply low_engineRead (by omega); apply low_snd; apply low_draw; assumption)

theorem low_closeAssembly {L : Nat} {s0 s : State} {a1 a2} (hL : L ≤ 22529) (h : Low L s0 s) : Low L s0 (State.closeAssembly s a1 a2) := by
  unfold State.closeAssembly
  dsimp only; split; with_reducible (apply low_setDdr; assumption); split
  with_reducible (apply low_closeStripe (by omega); apply low_enterStripe (by omega); apply low_snd; apply low_completeUnit (by omega))
  with_reducible (apply low_setDdr; assumption; apply low_enterStripe (by omega); apply low_snd; apply low_completeUnit (by omega))
  with_reducible (apply low_setDdr; assumption)

theorem low_makeRoom {L : Nat} {s0 s : State} (hL : L ≤ 22529) (h : Low L s0 s) : Low L s0 (State.makeRoom s) := by
  unfold State.makeRoom
  split; split; with_reducible (apply low_closeAssembly (by omega); assumption; assumption; assumption)

theorem low_engineAccept {L : Nat} {s0 s : State} {a1 a2 a3} (hL : L ≤ 22529) (h : Low L s0 s) : Low L s0 (State.engineAccept s a1 a2 a3) := by
  unfold State.engineAccept
  dsimp only; with_reducible (apply low_setReg (by omega); apply low_setDdr; assumption)

theorem low_admitWriters {L : Nat} {s0 s : State} (hL : L ≤ 22529) (h : Low L s0 s) : Low L s0 (State.admitWriters s) := by
  unfold State.admitWriters
  with_reducible (apply low_each; assumption); intro _ _ _; split
  with_reducible (apply low_engineAccept (by omega); apply low_setDdr; assumption; assumption)

theorem low_engineWrite {L : Nat} {s0 s : State} {a1 a2 a3 a4} (hL : L ≤ 22529) (h : Low L s0 s) : Low L s0 (State.engineWrite s a1 a2 a3 a4) := by
  unfold State.engineWrite
  dsimp only; split; split; with_reducible (apply low_engineAccept (by omega); assumption; apply low_setDdr; assumption); split
  with_reducible (apply low_engineAccept (by omega); apply low_makeRoom (by omega); assumption; apply low_setDdr)
  with_reducible (apply low_makeRoom (by omega); assumption)

theorem low_meterU {L : Nat} {s0 s : State} {a1 a2} (hL : L ≤ 22544) (h : Low L s0 s) : Low L s0 (State.meterU s a1 a2) := by
  unfold State.meterU
  split; with_reducible assumption; dsimp only; split; split
  with_reducible (apply low_inc32 (by omega); apply low_modChan; assumption; apply low_modChan; assumption); split
  with_reducible (apply low_inc32 (by omega); apply low_modChan; assumption; apply low_modChan; assumption)

theorem low_plainWrite {L : Nat} {s0 s : State} {a1 a2 a3 a4} (hL : L ≤ 22544) (h : Low L s0 s) : Low L s0 (State.plainWrite s a1 a2 a3 a4) := by
  unfold State.plainWrite
  split; with_reducible (apply low_deviceWrite (by omega); assumption); dsimp only
  with_reducible (apply low_whenB; apply low_deviceWrite (by omega); apply low_deviceRead (by omega); assumption); intro _ _
  with_reducible (apply low_markUnit; assumption)

theorem low_poolFull {L : Nat} {s0 s : State} {a1} (hL : L ≤ 27200) (h : Low L s0 s) : Low L s0 (State.poolFull s a1) := by
  unfold State.poolFull
  with_reducible (apply low_countE (by omega); assumption)

theorem low_enqueue {L : Nat} {s0 s : State} {a1} (hL : L ≤ 27200) (h : Low L s0 s) : Low L s0 (State.enqueue s a1) := by
  unfold State.enqueue
  dsimp only; with_reducible apply low_setDdr; split; with_reducible (apply low_poolFull (by omega); assumption; assumption)

theorem low_unprotWrite {L : Nat} {s0 s : State} {a1 a2 a3 a4 a5} (hL : L ≤ 22544) (h : Low L s0 s) : Low L s0 (State.unprotWrite s a1 a2 a3 a4 a5) := by
  unfold State.unprotWrite
  split; with_reducible (apply low_enqueue (by omega); assumption; assumption; apply low_plainWrite (by omega); assumption)

theorem low_storeUnit {L : Nat} {s0 s : State} {a1 a2 a3 a4} (hL : L ≤ 22529) (h : Low L s0 s) : Low L s0 (State.storeUnit s a1 a2 a3 a4) := by
  unfold State.storeUnit
  split; with_reducible assumption; dsimp only; split
  with_reducible (apply low_engineWrite (by omega); apply low_meterU (by omega); assumption; apply low_unprotWrite (by omega))
  with_reducible (apply low_meterU (by omega); assumption)

theorem low_store {L : Nat} {s0 s : State} {a1 a2 a3} (hL : L ≤ 22529) (h : Low L s0 s) : Low L s0 (State.store s a1 a2 a3) := by
  unfold State.store
  with_reducible (apply low_each; assumption); intro _ _ _; with_reducible (apply low_storeUnit (by omega); assumption)

theorem low_takeDelays {L : Nat} {s0 s : State} {a1 a2} (hL : L ≤ 22592) (h : Low L s0 s) : Low L s0 (State.takeDelays s a1 a2) := by
  unfold State.takeDelays
  with_reducible (apply low_setReg (by omega); apply low_setDom; assumption)

theorem low_releaseHeld {L : Nat} {s0 s : State} {a1} (hL : L ≤ 22529) (h : Low L s0 s) : Low L s0 (State.releaseHeld s a1) := by
  unfold State.releaseHeld
  dsimp only; with_reducible (apply low_each; apply low_each; assumption); intro _ _ _
  with_reducible (apply low_closeAssembly (by omega); assumption); intro _ _ _
  with_reducible (apply low_closeStripe (by omega); assumption)

theorem low_countUncorrectable {L : Nat} {s0 s : State} {a1 a2} (hL : L ≤ 22544) (h : Low L s0 s) : Low L s0 (State.countUncorrectable s a1 a2) := by
  unfold State.countUncorrectable
  dsimp only; with_reducible (apply low_modChan; apply low_setReg (by omega); apply low_inc32 (by omega); assumption)

theorem low_readUnitOnly {L : Nat} {s0 s : State} {a1 a2 a3} (hL : L ≤ 22529) (h : Low L s0 s) : Low L s0 (State.readUnitOnly s a1 a2 a3) := by
  unfold State.readUnitOnly
  dsimp only; split; split; split
  with_reducible (apply low_setReg (by omega); apply low_inc64 (by omega); apply low_deviceRead (by omega); assumption)
  with_reducible (apply low_deviceRead (by omega); assumption; apply low_countUncorrectable (by omega)); split
  with_reducible (apply low_faultDone (by omega); apply low_deviceWrite (by omega); apply low_rebuildRead (by omega)); split
  with_reducible (apply low_faultStart (by omega); apply low_markUnit; apply low_deviceRead (by omega); assumption; apply low_markUnit)
  with_reducible (apply low_deviceRead (by omega); assumption); split
  with_reducible (apply low_faultDone (by omega); apply low_readFails (by omega); apply low_faultStart (by omega); apply low_markUnit)
  with_reducible (apply low_deviceRead (by omega); assumption; apply low_readFails (by omega); apply low_markUnit)
  with_reducible (apply low_deviceRead (by omega); assumption); split
  with_reducible (apply low_rebuildRead (by omega); assumption; apply low_readFails (by omega); assumption)

theorem low_serveReq {L : Nat} {s0 s : State} {a1} (hL : L ≤ 22529) (h : Low L s0 s) : Low L s0 (State.serveReq s a1) := by
  unfold State.serveReq
  dsimp only; split
  with_reducible (apply low_plainWrite (by omega); apply low_setDdr; assumption; apply low_readUnitOnly (by omega); apply low_setDdr)
  with_reducible assumption

theorem low_serveQueue {L : Nat} (hL : L ≤ 22529) {s0 s : State} {ch n : Nat} (h : Low L s0 s) : Low L s0 (State.serveQueue s ch n) := by
  induction n generalizing s with
  | zero => exact h
  | succ n ih =>
    unfold State.serveQueue
    split; apply ih; with_reducible (apply low_serveReq (by omega); assumption; assumption)

theorem low_backOnline {L : Nat} {s0 s : State} {a1} (hL : L ≤ 22529) (h : Low L s0 s) : Low L s0 (State.backOnline s a1) := by
  unfold State.backOnline
  dsimp only; with_reducible (apply low_serveQueue (by omega); apply low_admitWriters (by omega); apply low_releaseHeld (by omega)); split
  with_reducible (apply low_setDdr; apply low_takeDelays (by omega); apply low_setReg (by omega); assumption)
  with_reducible (apply low_setReg (by omega); assumption)

theorem low_goOffline {L : Nat} {s0 s : State} {a1} (hL : L ≤ 22544) (h : Low L s0 s) : Low L s0 (State.goOffline s a1) := by
  unfold State.goOffline
  with_reducible (apply low_setReg (by omega); apply low_closeRows (by omega); assumption)

theorem low_failQueue {L : Nat} {s0 s : State} {a1} (hL : L ≤ 22529) (h : Low L s0 s) : Low L s0 (State.failQueue s a1) := by
  unfold State.failQueue
  dsimp only; with_reducible (apply low_each; apply low_setDdr; assumption); intro _ _ _
  with_reducible (apply low_readFails (by omega); assumption)

theorem low_channelLost {L : Nat} {s0 s : State} {a1 a2} (hL : L ≤ 22528) (h : Low L s0 s) : Low L s0 (State.channelLost s a1 a2) := by
  unfold State.channelLost
  split; with_reducible assumption; dsimp only
  with_reducible (apply low_faultDone (by omega); apply low_fire (by omega); apply low_admitWriters (by omega))
  with_reducible (apply low_releaseHeld (by omega); apply low_failQueue (by omega); apply low_modChan; apply low_setReg (by omega))
  with_reducible (apply low_setReg (by omega); apply low_setReg (by omega); apply low_faultStart (by omega)); split; split
  with_reducible (apply low_setReg (by omega); apply low_setReg (by omega); apply low_setDdr; apply low_each; assumption); intro _ _ _
  with_reducible (apply low_backOnline (by omega); assumption; apply low_setReg (by omega); apply low_setDdr; apply low_each; assumption)
  intro _ _ _; with_reducible (apply low_backOnline (by omega); assumption); split
  with_reducible (apply low_setReg (by omega); apply low_each; assumption); intro _ _ _
  with_reducible (apply low_backOnline (by omega); assumption; apply low_each; assumption); intro _ _ _
  with_reducible (apply low_backOnline (by omega); assumption)

theorem low_readUnit {L : Nat} {s0 s : State} {a1 a2 a3} (hL : L ≤ 22528) (h : Low L s0 s) : Low L s0 (State.readUnit s a1 a2 a3) := by
  unfold State.readUnit
  dsimp only; split
  with_reducible (apply low_channelLost (by omega); apply low_readUnitOnly (by omega); assumption; apply low_readUnitOnly (by omega))
  with_reducible assumption

theorem low_readRange {L : Nat} {s0 s : State} {a1 a2 a3} (hL : L ≤ 22528) (h : Low L s0 s) : Low L s0 (State.readRange s a1 a2 a3) := by
  unfold State.readRange
  with_reducible (apply low_each; assumption); intro _ _ _; split; split
  with_reducible (apply low_enqueue (by omega); apply low_meterU (by omega); assumption; apply low_readUnit (by omega))
  with_reducible (apply low_meterU (by omega); assumption; assumption)

end Sys2Proof.Machine
end

