-- ==== Sys2Proof/Laws/LowSheaf.lean ====
section
/-! SUPPORT. The lowest entry each definition of Machine/Sheaf.lean may change (Low). -/

set_option Elab.async false

namespace Sys2Proof.Machine

set_option linter.unusedVariables false

theorem low_setRx {L : Nat} {s0 s : State} {a1 a2} (h : Low L s0 s) : Low L s0 (State.setRx s a1 a2) := by
  unfold State.setRx
  apply low_mk; with_reducible assumption

theorem low_modRx {L : Nat} {s0 s : State} {a1 a2} (h : Low L s0 s) : Low L s0 (State.modRx s a1 a2) := by
  unfold State.modRx
  with_reducible (apply low_setRx; assumption)

theorem low_setTx {L : Nat} {s0 s : State} {a1 a2} (h : Low L s0 s) : Low L s0 (State.setTx s a1 a2) := by
  unfold State.setTx
  apply low_mk; with_reducible assumption

theorem low_setGroup {L : Nat} {s0 s : State} {a1 a2} (h : Low L s0 s) : Low L s0 (State.setGroup s a1 a2) := by
  unfold State.setGroup
  apply low_mk; with_reducible assumption

theorem low_setStream {L : Nat} {s0 s : State} {a1 a2} (hL : L ≤ 9984) (h : Low L s0 s) : Low L s0 (State.setStream s a1 a2) := by
  unfold State.setStream
  with_reducible apply low_setReg (by omega); apply low_mk; with_reducible assumption

theorem low_setLaneState {L : Nat} {s0 s : State} {a1 a2} (hL : L ≤ 9232) (h : Low L s0 s) : Low L s0 (State.setLaneState s a1 a2) := by
  unfold State.setLaneState
  dsimp only; with_reducible apply low_each; split
  with_reducible (apply low_setReg (by omega); assumption; apply low_setReg (by omega); apply low_setReg (by omega); assumption)
  intro _ _ _; split; split
  with_reducible (apply low_signalReturn (by omega); assumption; apply low_signalLoss (by omega); assumption; assumption)

theorem low_showLink {L : Nat} {s0 s : State} {a1} (hi1 : L ≤ a1) (h : Low L s0 s) : Low L s0 (State.showLink s a1) := by
  unfold State.showLink
  with_reducible (apply low_setReg (by omega); assumption)

theorem low_sendFrames {L : Nat} {s0 s : State} {a1 a2} (h : Low L s0 s) : Low L s0 (State.sendFrames s a1 a2) := by
  unfold State.sendFrames
  dsimp only; with_reducible (apply low_each; apply low_setTx; assumption); intro _ _ _; with_reducible (apply low_emit; assumption)

theorem low_sendItem {L : Nat} {s0 s : State} {a1 a2} (h : Low L s0 s) : Low L s0 (State.sendItem s a1 a2) := by
  unfold State.sendItem
  with_reducible (apply low_sendFrames; assumption)

theorem low_drainLane {L : Nat} {s0 s : State} {a1} (h : Low L s0 s) : Low L s0 (State.drainLane s a1) := by
  unfold State.drainLane
  dsimp only; with_reducible (apply low_each; apply low_setTx; assumption); intro _ _ _; with_reducible (apply low_emit; assumption)

theorem low_queueControl {L : Nat} {s0 s : State} {a1 a2} (h : Low L s0 s) : Low L s0 (State.queueControl s a1 a2) := by
  unfold State.queueControl
  split; with_reducible (apply low_setTx; assumption; assumption)

theorem low_camSetsLost {L : Nat} {s0 s : State} {a1} (hL : L ≤ 16385) (h : Low L s0 s) : Low L s0 (State.camSetsLost s a1) := by
  unfold State.camSetsLost
  dsimp only; split; with_reducible (assumption; apply low_inc32 (by omega); assumption)

theorem low_dropControl {L : Nat} {s0 s : State} {a1} (hL : L ≤ 16385) (h : Low L s0 s) : Low L s0 (State.dropControl s a1) := by
  unfold State.dropControl
  with_reducible (apply low_camSetsLost (by omega); apply low_setTx; assumption)

theorem low_fragmentSent {L : Nat} {s0 s : State} {a1 a2} (hL : L ≤ 9984) (h : Low L s0 s) : Low L s0 (State.fragmentSent s a1 a2) := by
  unfold State.fragmentSent
  split; with_reducible assumption; dsimp only; split
  with_reducible (apply low_setStream (by omega); apply low_inc64 (by omega); assumption; apply low_whenB; apply low_whenB); apply low_mk
  with_reducible (apply low_inc64 (by omega); apply low_setStream (by omega); apply low_inc64 (by omega); assumption); intro _ _
  with_reducible (apply low_inc64 (by omega); assumption); intro _ _; with_reducible (apply low_inc64 (by omega); assumption)

theorem low_sendPacket {L : Nat} {s0 s : State} {a1 a2} (hL : L ≤ 9984) (h : Low L s0 s) : Low L s0 (State.sendPacket s a1 a2) := by
  unfold State.sendPacket
  split; with_reducible assumption; dsimp only
  with_reducible (apply low_fragmentSent (by omega); apply low_sendItem; apply low_emit; apply low_setTx; apply low_setReg (by omega))
  with_reducible (apply low_setStream (by omega); assumption)

theorem low_sendControl {L : Nat} {s0 s : State} {a1 a2} (h : Low L s0 s) : Low L s0 (State.sendControl s a1 a2) := by
  unfold State.sendControl
  with_reducible (apply low_sendItem; apply low_emit; assumption)

theorem low_itemTx {L : Nat} {s0 s : State} {a1} (hL : L ≤ 9728) (h : Low L s0 s) : Low L s0 (State.itemTx s a1) := by
  unfold State.itemTx
  split; with_reducible assumption; split; with_reducible assumption; split; dsimp only
  with_reducible (apply low_countE (by omega); apply low_inc64 (by omega); apply low_sendControl; apply low_setTx; assumption); split
  split; with_reducible (apply low_countE (by omega); apply low_inc64 (by omega); apply low_sendPacket (by omega); assumption)
  with_reducible (apply low_sendItem; assumption; apply low_sendItem; assumption)

theorem low_execItemTx {L : Nat} {s0 s : State} {a0} (hL : L ≤ 9728) (h : Low L s0 s) : LowR L s0 (execItemTx a0 s) := by
  unfold execItemTx
  with_reducible (apply lowR_inst; apply lowR_next; apply low_itemTx (by omega); assumption)

theorem low_streamPut {L : Nat} {s0 s : State} {a1 a2} (hL : L ≤ 9984) (h : Low L s0 s) : Low L s0 (State.streamPut s a1 a2) := by
  unfold State.streamPut
  split; with_reducible (assumption; apply low_setStream (by omega); assumption)

theorem low_execQlSend {L : Nat} {s0 s : State} (h : Low L s0 s) : LowR L s0 (execQlSend s) := by
  unfold execQlSend
  dsimp only; with_reducible (apply lowR_next; apply low_each; assumption); intro _ _ _; with_reducible (apply low_each; assumption)
  intro _ _ _; with_reducible (apply low_queueControl; assumption)

theorem low_sendRxMap {L : Nat} {s0 s : State} {a1 a2} (hi1 : L ≤ a1) (h : Low L s0 s) : Low L s0 (State.sendRxMap s a1 a2) := by
  unfold State.sendRxMap
  dsimp only; with_reducible (apply low_queueControl; apply low_inc32 (by omega); apply low_setGroup; assumption)

theorem low_sendTxMap {L : Nat} {s0 s : State} {a1 a2 a3} (hL : L ≤ 27200) (hi1 : L ≤ a1) (h : Low L s0 s) : Low L s0 (State.sendTxMap s a1 a2 a3) := by
  unfold State.sendTxMap
  dsimp only
  with_reducible (apply low_each; apply low_queueControl; apply low_setGroup; apply low_showLink (by omega); apply low_setReg (by omega))
  with_reducible (apply low_setReg (by omega); assumption); intro _ _ _; with_reducible (apply low_faultDone (by omega); assumption)

theorem low_nextFailover {L : Nat} {s0 s : State} {a1} (hL : L ≤ 27200) (hi1 : L ≤ a1) (h : Low L s0 s) : Low L s0 (State.nextFailover s a1) := by
  unfold State.nextFailover
  split; with_reducible (apply low_setGroup; assumption); split
  with_reducible (apply low_sendTxMap (by omega) (by omega); apply low_inc32 (by omega); assumption; apply low_sendRxMap (by omega))
  with_reducible assumption

theorem low_endFailover {L : Nat} {s0 s : State} {a1} (hL : L ≤ 27200) (h : Low L s0 s) : Low L s0 (State.endFailover s a1) := by
  unfold State.endFailover
  dsimp only; with_reducible (apply low_each; apply low_setGroup; assumption); intro _ _ _
  with_reducible (apply low_faultDone (by omega); assumption)

theorem low_rxLaneFail {L : Nat} {s0 s : State} {a1} (hL : L ≤ 9232) (h : Low L s0 s) : Low L s0 (State.rxLaneFail s a1) := by
  unfold State.rxLaneFail
  split; with_reducible (apply low_setLaneState (by omega); assumption); split
  with_reducible (apply low_setLaneState (by omega); assumption); dsimp only; split; split
  with_reducible (apply low_faultRecord (by omega); apply low_setLaneState (by omega); assumption); split
  with_reducible (apply low_setReg (by have := groupOf_ge (by assumption); omega); apply low_faultRecord (by omega))
  with_reducible (apply low_setLaneState (by omega); assumption); split
  with_reducible apply low_setReg (by have := groupOf_ge (by assumption); omega)
  with_reducible (apply low_setReg (by have := groupOf_ge (by assumption); omega); apply low_faultRecord (by omega))
  with_reducible (apply low_setLaneState (by omega); assumption); split
  with_reducible (apply low_sendRxMap (by have := groupOf_ge (by assumption); omega); apply low_faultStart (by omega))
  with_reducible (apply low_setLaneState (by omega); assumption); split
  with_reducible (apply low_setTx; apply low_setGroup; apply low_faultStart (by omega); apply low_setLaneState (by omega); assumption)
  with_reducible (apply low_setGroup; apply low_faultStart (by omega); apply low_setLaneState (by omega); assumption); split
  with_reducible (apply low_faultRecord (by omega); apply low_setLaneState (by omega); assumption); split
  with_reducible (apply low_setReg (by have := groupOf_ge (by assumption); omega); apply low_faultRecord (by omega))
  with_reducible (apply low_setLaneState (by omega); assumption); split
  with_reducible apply low_setReg (by have := groupOf_ge (by assumption); omega)
  with_reducible (apply low_setReg (by have := groupOf_ge (by assumption); omega); apply low_faultRecord (by omega))
  with_reducible (apply low_setLaneState (by omega); assumption); split
  with_reducible (apply low_sendRxMap (by have := groupOf_ge (by assumption); omega); apply low_faultStart (by omega))
  with_reducible (apply low_setLaneState (by omega); assumption); split
  with_reducible (apply low_setTx; apply low_setGroup; apply low_faultStart (by omega); apply low_setLaneState (by omega); assumption)
  with_reducible (apply low_setGroup; apply low_faultStart (by omega); apply low_setLaneState (by omega); assumption)

theorem low_execRxLaneFail {L : Nat} {s0 s : State} {a0} (hL : L ≤ 9232) (h : Low L s0 s) : LowR L s0 (execRxLaneFail a0 s) := by
  unfold execRxLaneFail
  with_reducible apply lowR_inst; split; split
  with_reducible (apply lowR_next; apply low_rxLaneFail (by omega); assumption; apply lowR_next; assumption; apply lowR_next; assumption)

theorem low_skipControl {L : Nat} {s0 s : State} (hL : L ≤ 9217) (h : Low L s0 s) : Low L s0 (State.skipControl s) := by
  unfold State.skipControl
  with_reducible (apply low_inc32 (by omega); assumption)

theorem low_ackGroup {L : Nat} {s0 s : State} {a1 a2 a3} (hL : L ≤ 27200) (hi2 : L ≤ a2) (h : Low L s0 s) : Low L s0 (State.ackGroup s a1 a2 a3) := by
  unfold State.ackGroup
  split; with_reducible (apply low_nextFailover (by omega) (by omega); assumption); dsimp only
  with_reducible (apply low_nextFailover (by omega) (by omega); apply low_each; apply low_showLink (by omega))
  with_reducible (apply low_setReg (by omega); apply low_setReg (by omega); assumption); intro _ _ _
  with_reducible (apply low_faultDone (by omega); assumption)

theorem low_laneAck {L : Nat} {s0 s : State} {a1 a2 a3} (hL : L ≤ 9217) (h : Low L s0 s) : Low L s0 (State.laneAck s a1 a2 a3) := by
  unfold State.laneAck
  dsimp only; split; split
  with_reducible (apply low_ackGroup (by omega) (by have := find_ge (by assumption); omega); assumption; assumption); split; split
  with_reducible (apply low_ackGroup (by omega) (by have := find_ge (by assumption); omega); assumption; assumption)
  with_reducible (apply low_skipControl (by omega); assumption)

theorem low_execLaneAckRx {L : Nat} {s0 s : State} {a0 a1 a2} (hL : L ≤ 9217) (h : Low L s0 s) : LowR L s0 (execLaneAckRx a0 a1 a2 s) := by
  unfold execLaneAckRx
  with_reducible (apply lowR_inst; apply lowR_next; apply low_laneAck (by omega); assumption)

theorem low_execLaneMapRetry {L : Nat} {s0 s : State} {a0} (hL : L ≤ 9280) (h : Low L s0 s) : LowR L s0 (execLaneMapRetry a0 s) := by
  unfold execLaneMapRetry
  with_reducible apply lowR_inst; dsimp only; split; with_reducible (apply lowR_next; assumption); split
  with_reducible (apply lowR_next; apply low_queueControl; apply low_setGroup; assumption; apply lowR_next)
  with_reducible (apply low_nextFailover (by omega) (by omega); apply low_each; apply low_setReg (by omega); apply low_setReg (by omega))
  with_reducible (apply low_setReg (by omega); assumption); intro _ _ _; with_reducible (apply low_faultDone (by omega); assumption)

theorem low_laneMap {L : Nat} {s0 s : State} {a1 a2 a3} (hL : L ≤ 9217) (h : Low L s0 s) : Low L s0 (State.laneMap s a1 a2 a3) := by
  unfold State.laneMap
  split; with_reducible (apply low_skipControl (by omega); assumption); dsimp only; with_reducible apply low_queueControl; split
  with_reducible (assumption; apply low_faultDone (by omega); apply low_showLink (by have := find_ge (by assumption); omega))
  with_reducible apply low_inc32 (by have := find_ge (by assumption); omega)
  with_reducible apply low_setReg (by have := find_ge (by assumption); omega)
  with_reducible (apply low_setReg (by have := find_ge (by assumption); omega); apply low_faultStart (by omega); assumption)

theorem low_execLaneMapRx {L : Nat} {s0 s : State} {a0 a1 a2} (hL : L ≤ 9217) (h : Low L s0 s) : LowR L s0 (execLaneMapRx a0 a1 a2 s) := by
  unfold execLaneMapRx
  with_reducible (apply lowR_inst; apply lowR_next; apply low_laneMap (by omega); assumption)

theorem low_txLaneFail {L : Nat} {s0 s : State} {a1} (hL : L ≤ 9280) (h : Low L s0 s) : Low L s0 (State.txLaneFail s a1) := by
  unfold State.txLaneFail
  split; with_reducible assumption; dsimp only; split; split; split
  with_reducible (apply low_faultRecord (by omega); apply low_each; apply low_dropControl (by omega); apply low_setReg (by omega))
  with_reducible assumption; intro _ _ _; with_reducible (apply low_setTx; assumption); split
  with_reducible apply low_sendTxMap (by omega) (by have := groupOf_ge (by assumption); omega)
  with_reducible (apply low_inc32 (by have := groupOf_ge (by assumption); omega); apply low_faultStart (by omega); apply low_each)
  with_reducible (apply low_dropControl (by omega); apply low_setReg (by omega); assumption); intro _ _ _
  with_reducible (apply low_setTx; assumption); split
  with_reducible (apply low_sendTxMap (by omega) (by have := groupOf_ge (by assumption); omega); apply low_faultStart (by omega))
  with_reducible (apply low_each; apply low_dropControl (by omega); apply low_setReg (by omega); assumption); intro _ _ _
  with_reducible (apply low_setTx; assumption; apply low_setGroup; apply low_faultStart (by omega); apply low_each)
  with_reducible (apply low_dropControl (by omega); apply low_setReg (by omega); assumption); intro _ _ _
  with_reducible (apply low_setTx; assumption); split
  with_reducible (apply low_faultRecord (by omega); apply low_dropControl (by omega); apply low_setReg (by omega); assumption); split
  with_reducible apply low_sendTxMap (by omega) (by have := groupOf_ge (by assumption); omega)
  with_reducible (apply low_inc32 (by have := groupOf_ge (by assumption); omega); apply low_faultStart (by omega))
  with_reducible (apply low_dropControl (by omega); apply low_setReg (by omega); assumption); split
  with_reducible (apply low_sendTxMap (by omega) (by have := groupOf_ge (by assumption); omega); apply low_faultStart (by omega))
  with_reducible (apply low_dropControl (by omega); apply low_setReg (by omega); assumption; apply low_setGroup)
  with_reducible (apply low_faultStart (by omega); apply low_dropControl (by omega); apply low_setReg (by omega); assumption); split
  split; with_reducible (apply low_faultRecord (by omega); apply low_each; apply low_dropControl (by omega); apply low_setReg (by omega))
  with_reducible assumption; intro _ _ _; with_reducible (apply low_setTx; assumption); split
  with_reducible apply low_sendTxMap (by omega) (by have := groupOf_ge (by assumption); omega)
  with_reducible (apply low_inc32 (by have := groupOf_ge (by assumption); omega); apply low_faultStart (by omega); apply low_each)
  with_reducible (apply low_dropControl (by omega); apply low_setReg (by omega); assumption); intro _ _ _
  with_reducible (apply low_setTx; assumption); split
  with_reducible (apply low_sendTxMap (by omega) (by have := groupOf_ge (by assumption); omega); apply low_faultStart (by omega))
  with_reducible (apply low_each; apply low_dropControl (by omega); apply low_setReg (by omega); assumption); intro _ _ _
  with_reducible (apply low_setTx; assumption; apply low_setGroup; apply low_faultStart (by omega); apply low_each)
  with_reducible (apply low_dropControl (by omega); apply low_setReg (by omega); assumption); intro _ _ _
  with_reducible (apply low_setTx; assumption); split
  with_reducible (apply low_faultRecord (by omega); apply low_dropControl (by omega); apply low_setReg (by omega); assumption); split
  with_reducible apply low_sendTxMap (by omega) (by have := groupOf_ge (by assumption); omega)
  with_reducible (apply low_inc32 (by have := groupOf_ge (by assumption); omega); apply low_faultStart (by omega))
  with_reducible (apply low_dropControl (by omega); apply low_setReg (by omega); assumption); split
  with_reducible (apply low_sendTxMap (by omega) (by have := groupOf_ge (by assumption); omega); apply low_faultStart (by omega))
  with_reducible (apply low_dropControl (by omega); apply low_setReg (by omega); assumption; apply low_setGroup)
  with_reducible (apply low_faultStart (by omega); apply low_dropControl (by omega); apply low_setReg (by omega); assumption)

theorem low_execTxLaneFail {L : Nat} {s0 s : State} {a0} (hL : L ≤ 9280) (h : Low L s0 s) : LowR L s0 (execTxLaneFail a0 s) := by
  unfold execTxLaneFail
  with_reducible apply lowR_inst; split; split; with_reducible (apply lowR_next; assumption); split
  with_reducible (apply lowR_next; apply low_txLaneFail (by omega); assumption; apply lowR_next; apply low_dropControl (by omega))
  with_reducible (apply low_setReg (by omega); assumption; apply lowR_next; assumption)

theorem low_execLaneLock {L : Nat} {s0 s : State} {a0} (hL : L ≤ 9232) (h : Low L s0 s) : LowR L s0 (execLaneLock a0 s) := by
  unfold execLaneLock
  with_reducible apply lowR_inst; split
  with_reducible (apply lowR_next; apply low_setLaneState (by omega); apply low_setRx; assumption; apply lowR_next; assumption)

theorem low_execLaneLockTimeout {L : Nat} {s0 s : State} {a0} (hL : L ≤ 9472) (h : Low L s0 s) : LowR L s0 (execLaneLockTimeout a0 s) := by
  unfold execLaneLockTimeout
  with_reducible apply lowR_inst; split
  with_reducible (apply lowR_next; apply low_inc32 (by omega); assumption; apply lowR_next; assumption)

theorem low_clockLoss {L : Nat} {s0 s : State} {a1} (hL : L ≤ 9232) (h : Low L s0 s) : Low L s0 (State.clockLoss s a1) := by
  unfold State.clockLoss
  split; split; split; with_reducible (apply low_rxLaneFail (by omega); assumption; apply low_setLaneState (by omega); assumption)
  with_reducible (apply low_setLaneState (by omega); assumption; assumption)

theorem low_execClockRecoveryLoss {L : Nat} {s0 s : State} {a0} (hL : L ≤ 9232) (h : Low L s0 s) : LowR L s0 (execClockRecoveryLoss a0 s) := by
  unfold execClockRecoveryLoss
  with_reducible (apply lowR_inst; apply lowR_next; apply low_clockLoss (by omega); assumption)

theorem low_laneError {L : Nat} {s0 s : State} {a1 a2} (hL : L ≤ 9472) (h : Low L s0 s) : Low L s0 (State.laneError s a1 a2) := by
  unfold State.laneError
  with_reducible (apply low_countE (by omega); apply low_inc32 (by omega); assumption)

theorem low_itemError {L : Nat} {s0 s : State} {a1} (h : Low L s0 s) : Low L s0 (State.itemError s a1) := by
  unfold State.itemError
  with_reducible (apply low_modRx; assumption)

theorem low_forgetSeqs {L : Nat} {s0 s : State} {a1 a2} (h : Low L s0 s) : Low L s0 (State.forgetSeqs s a1 a2) := by
  unfold State.forgetSeqs
  apply low_mk; with_reducible assumption

theorem low_dataItem {L : Nat} {s0 s : State} {a1 a2 a3 a4} (hL : L ≤ 9217) (h : Low L s0 s) : Low L s0 (State.dataItem s a1 a2 a3 a4) := by
  unfold State.dataItem
  dsimp only; split; with_reducible (apply low_inc32 (by omega); assumption); split; apply low_mk; split
  with_reducible (assumption; apply low_inc32 (by omega); assumption); apply low_mk; split
  with_reducible (assumption; apply low_inc32 (by omega); assumption)

theorem low_qlRx {L : Nat} {s0 s : State} {a1 a2} (hL : L ≤ 24576) (h : Low L s0 s) : Low L s0 (State.qlRx s a1 a2) := by
  unfold State.qlRx
  with_reducible (apply low_each; assumption); intro _ _ _; split; with_reducible (apply low_qlMessage (by omega); assumption; assumption)

theorem low_creditRx {L : Nat} {s0 s : State} {a1 a2 a3} (hL : L ≤ 9217) (h : Low L s0 s) : Low L s0 (State.creditRx s a1 a2 a3) := by
  unfold State.creditRx
  dsimp only; split; with_reducible (apply low_setStream (by omega); assumption; apply low_skipControl (by omega); assumption)

theorem low_controlRx {L : Nat} {s0 s : State} {a1 a2} (hL : L ≤ 9217) (h : Low L s0 s) : Low L s0 (State.controlRx s a1 a2) := by
  unfold State.controlRx
  split; with_reducible (apply low_qlRx (by omega); assumption; apply low_creditRx (by omega); assumption; apply low_laneMap (by omega))
  with_reducible (assumption; apply low_laneAck (by omega); assumption; apply low_skipControl (by omega); assumption)

theorem low_loseBoundary {L : Nat} {s0 s : State} {a1} (h : Low L s0 s) : Low L s0 (State.loseBoundary s a1) := by
  unfold State.loseBoundary
  with_reducible (apply low_modRx; assumption)

theorem low_pointerError {L : Nat} {s0 s : State} {a1} (hL : L ≤ 9472) (h : Low L s0 s) : Low L s0 (State.pointerError s a1) := by
  unfold State.pointerError
  with_reducible (apply low_loseBoundary; apply low_laneError (by omega); assumption)

theorem low_headerError {L : Nat} {s0 s : State} {a1 a2} (hL : L ≤ 9217) (h : Low L s0 s) : Low L s0 (State.headerError s a1 a2) := by
  unfold State.headerError
  dsimp only; with_reducible (apply low_loseBoundary; apply low_itemError); split
  with_reducible (apply low_laneError (by omega); assumption; apply low_countE (by omega); apply low_inc32 (by omega); assumption)

theorem low_itemCheck {L : Nat} {s0 s : State} {a1 a2} (hL : L ≤ 9217) (h : Low L s0 s) : LowF L s0 (State.itemCheck s a1 a2) := by
  unfold State.itemCheck
  split; with_reducible (apply lowF_mk; apply low_headerError (by omega); assumption); dsimp only; split
  with_reducible (apply lowF_mk; assumption); split
  with_reducible (apply lowF_mk; apply low_countE (by omega); apply low_inc32 (by omega); assumption); split
  with_reducible (apply lowF_mk; apply low_itemError; apply low_laneError (by omega); assumption; apply lowF_mk; assumption)

theorem low_deliverItem {L : Nat} {s0 s : State} {a1 a2 a3} (hL : L ≤ 9217) (h : Low L s0 s) : Low L s0 (State.deliverItem s a1 a2 a3) := by
  unfold State.deliverItem
  split; with_reducible (apply low_controlRx (by omega); assumption; apply low_dataItem (by omega); assumption)

theorem low_itemIn {L : Nat} {s0 s : State} {a1 a2 a3} (hL : L ≤ 9217) (h : Low L s0 s) : Low L s0 (State.itemIn s a1 a2 a3) := by
  unfold State.itemIn
  split; with_reducible (apply low_deliverItem (by omega); apply low_of_pairF (by assumption); apply low_itemCheck (by omega); assumption)
  with_reducible (apply low_of_pairF (by assumption); apply low_itemCheck (by omega); assumption)

theorem low_checkErrors {L : Nat} {s0 s : State} {a1} (hL : L ≤ 9232) (h : Low L s0 s) : Low L s0 (State.checkErrors s a1) := by
  unfold State.checkErrors
  dsimp only; split; split; split; with_reducible (apply low_rxLaneFail (by omega); assumption; assumption; assumption; assumption)

theorem low_lastItem {L : Nat} {s0 s : State} {a1 a2} (h : Low L s0 s) : Low L s0 (State.lastItem s a1 a2) := by
  unfold State.lastItem
  split; with_reducible (assumption; apply low_modRx; assumption)

theorem low_execItemRx {L : Nat} {s0 s : State} {a0 a1} (hL : L ≤ 9217) (h : Low L s0 s) : LowR L s0 (execItemRx a0 a1 s) := by
  unfold execItemRx
  with_reducible apply lowR_inst; split
  with_reducible (apply lowR_next; apply low_lastItem; apply low_checkErrors (by omega); apply low_itemIn (by omega); assumption)
  with_reducible (apply lowR_next; assumption)

theorem low_execQlRx {L : Nat} {s0 s : State} {a0 a1} (hL : L ≤ 24576) (h : Low L s0 s) : LowR L s0 (execQlRx a0 a1 s) := by
  unfold execQlRx
  with_reducible (apply lowR_inst; apply lowR_next; apply low_qlRx (by omega); assumption)

theorem low_execCreditRx {L : Nat} {s0 s : State} {a0 a1 a2} (hL : L ≤ 9217) (h : Low L s0 s) : LowR L s0 (execCreditRx a0 a1 a2 s) := by
  unfold execCreditRx
  with_reducible (apply lowR_inst; apply lowR_next; apply low_creditRx (by omega); assumption)

theorem low_FrameScan_item {L : Nat} (hL : L ≤ 9217) {s0 : State} {lane : Nat} {f : FrameScan} {i : Item} (h : Low L s0 f.st) : Low L s0 ((FrameScan.item lane f i).st) := by
  unfold FrameScan.item
  dsimp only; with_reducible (apply low_fst; apply low_itemCheck (by omega); assumption)

theorem low_FrameScan_bit {L : Nat} (hL : L ≤ 9217) {s0 : State} {lane : Nat} {f : FrameScan} {b : Bool} (h : Low L s0 f.st) : Low L s0 ((FrameScan.bit lane f b).st) := by
  unfold FrameScan.bit
  extract_lets x boundary clash s1 x1 start x2 seen x3 s2 f2 t
  have k : Low L s0 s1 := by
    simp only [s1]
    split; with_reducible (apply low_pointerError (by omega); assumption; assumption)
  clear_value s1
  have k2 : Low L s0 s2 := by
    simp only [s2]
    with_reducible (apply low_setRx; assumption)
  have k3 : Low L s0 f2.st := k2
  clear_value f2 s2
  split; dsimp only; with_reducible (apply low_setRx; assumption); split; split; dsimp only
  with_reducible (apply low_headerError (by omega); assumption); dsimp only; with_reducible (apply low_setRx; assumption); split
  with_reducible apply low_FrameScan_item (by omega); dsimp only; with_reducible (apply low_setRx; assumption; assumption)

theorem low_frameBody {L : Nat} (hL : L ≤ 9217) {s0 s : State} {lane body : Nat} {last : Bool} (h : Low L s0 s) : LowF L s0 (State.frameBody s lane body last) := by
  have fold (l : List Bool) (f : FrameScan) (k : Low L s0 f.st) : Low L s0 ((l.foldl (FrameScan.bit lane) f).st) := by
    induction l generalizing f with
    | nil => exact k
    | cons b l ih =>
      apply ih
      with_reducible (apply low_FrameScan_bit (by omega); assumption)
  unfold State.frameBody
  apply lowF_mk
  apply fold
  dsimp only; split; with_reducible apply low_pointerError (by omega); split
  with_reducible (assumption; apply low_countE (by omega); apply low_inc32 (by omega); assumption); split
  with_reducible (assumption; apply low_countE (by omega); apply low_inc32 (by omega); assumption)

theorem low_flushDesk {L : Nat} {s0 s : State} {a1} (hL : L ≤ 9217) (h : Low L s0 s) : Low L s0 (State.flushDesk s a1) := by
  unfold State.flushDesk
  dsimp only; with_reducible (apply low_each; apply low_setGroup; assumption); intro _ _ _; with_reducible (apply low_each; assumption)
  intro _ _ _; with_reducible (apply low_deliverItem (by omega); assumption)

theorem low_deskFrame {L : Nat} {s0 s : State} {a1 a2 a3} (hL : L ≤ 9217) (h : Low L s0 s) : Low L s0 (State.deskFrame s a1 a2 a3) := by
  unfold State.deskFrame
  dsimp only; split; split
  with_reducible (apply low_flushDesk (by omega); apply low_setGroup; apply low_flushDesk (by omega); assumption; apply low_setGroup)
  with_reducible (apply low_flushDesk (by omega); assumption); split
  with_reducible (apply low_flushDesk (by omega); apply low_setGroup; assumption; apply low_setGroup; assumption)

theorem low_lockedShows {L : Nat} {s0 s : State} {a1} (hL : L ≤ 9280) (h : Low L s0 s) : Low L s0 (State.lockedShows s a1) := by
  unfold State.lockedShows
  split; split; with_reducible (apply low_showLink (by have := groupOf_ge (by assumption); omega); assumption; assumption; assumption)

theorem low_searchFrame {L : Nat} {s0 s : State} {a1 a2} (hL : L ≤ 9232) (h : Low L s0 s) : Low L s0 (State.searchFrame s a1 a2) := by
  unfold State.searchFrame
  split; split
  with_reducible (apply low_lockedShows (by omega); apply low_setLaneState (by omega); apply low_setRx; assumption; apply low_modRx)
  with_reducible (assumption; apply low_modRx; assumption)

theorem low_syncCheck {L : Nat} {s0 s : State} {a1 a2} (hL : L ≤ 9232) (h : Low L s0 s) : Low L s0 (State.syncCheck s a1 a2) := by
  unfold State.syncCheck
  split; with_reducible (apply low_modRx; assumption); dsimp only; split; split; split
  with_reducible (apply low_rxLaneFail (by omega); apply low_modRx; apply low_laneError (by omega); assumption)
  with_reducible (apply low_setLaneState (by omega); apply low_setRx; apply low_modRx; apply low_laneError (by omega); assumption)
  with_reducible (apply low_setLaneState (by omega); apply low_setRx; apply low_modRx; apply low_laneError (by omega); assumption)
  with_reducible (apply low_modRx; apply low_laneError (by omega); assumption)

theorem low_skewCheck {L : Nat} {s0 s : State} {a1 a2} (hL : L ≤ 9232) (h : Low L s0 s) : Low L s0 (State.skewCheck s a1 a2) := by
  unfold State.skewCheck
  dsimp only; split; split; split
  with_reducible (apply low_rxLaneFail (by omega); apply low_setReg (by omega); assumption; apply low_setLaneState (by omega))
  with_reducible (apply low_setReg (by omega); assumption; apply low_setReg (by omega); assumption; apply low_setReg (by omega))
  with_reducible assumption

theorem low_lockedFrame {L : Nat} {s0 s : State} {a1 a2 a3} (hL : L ≤ 9217) (h : Low L s0 s) : Low L s0 (State.lockedFrame s a1 a2 a3) := by
  unfold State.lockedFrame
  dsimp only; split; split
  with_reducible (apply low_deskFrame (by omega); apply low_modRx; apply low_loseBoundary; apply low_laneError (by omega))
  with_reducible (apply low_modRx; assumption; apply low_modRx; apply low_loseBoundary; apply low_laneError (by omega); apply low_modRx)
  with_reducible assumption; split; split
  with_reducible (apply low_lastItem; apply low_checkErrors (by omega); apply low_deskFrame (by omega); apply low_fst)
  with_reducible (apply low_frameBody (by omega); apply low_modRx; apply low_modRx; assumption; apply low_checkErrors (by omega))
  with_reducible (apply low_deskFrame (by omega); apply low_fst; apply low_frameBody (by omega); apply low_modRx; apply low_modRx)
  with_reducible (assumption; apply low_modRx; apply low_modRx; assumption)

theorem low_execSheafFrameRx {L : Nat} {s0 s : State} {a0 a1 a2 a3} (hL : L ≤ 9217) (h : Low L s0 s) : LowR L s0 (execSheafFrameRx a0 a1 a2 a3 s) := by
  unfold execSheafFrameRx
  with_reducible apply lowR_inst; dsimp only; split; split; split
  with_reducible (apply lowR_next; apply low_lockedFrame (by omega); apply low_skewCheck (by omega); apply low_searchFrame (by omega))
  with_reducible (assumption; apply lowR_next; apply low_skewCheck (by omega); apply low_searchFrame (by omega); assumption)
  with_reducible (apply lowR_next; apply low_searchFrame (by omega); assumption); split; split; split
  with_reducible (apply lowR_next; apply low_lockedFrame (by omega); apply low_skewCheck (by omega); apply low_syncCheck (by omega))
  with_reducible (assumption; apply lowR_next; apply low_skewCheck (by omega); apply low_syncCheck (by omega); assumption)
  with_reducible (apply lowR_next; apply low_syncCheck (by omega); assumption; apply lowR_next; assumption)

theorem low_groupEnabling {L : Nat} {s0 s : State} {a1} (hL : L ≤ 9232) (hi1 : L ≤ a1) (h : Low L s0 s) : Low L s0 (State.groupEnabling s a1) := by
  unfold State.groupEnabling
  dsimp only; with_reducible (apply low_each; apply low_setGroup; apply low_setReg (by omega); apply low_setReg (by omega); assumption)
  intro _ _ _; split; split; with_reducible (assumption; apply low_setTx; apply low_setReg (by omega); assumption); split
  with_reducible (assumption; apply low_setLaneState (by omega); apply low_setRx; assumption)

theorem low_groupDisabling {L : Nat} {s0 s : State} {a1} (hL : L ≤ 9217) (h : Low L s0 s) : Low L s0 (State.groupDisabling s a1) := by
  unfold State.groupDisabling
  dsimp only; split; with_reducible (apply low_each; apply low_endFailover (by omega); assumption); intro _ _ _; split
  with_reducible (apply low_drainLane; apply low_dropControl (by omega); assumption; assumption); split
  with_reducible (apply low_endFailover (by omega); assumption; apply low_flushDesk (by omega); apply low_endFailover (by omega))
  with_reducible assumption

theorem low_groupOn {L : Nat} {s0 s : State} {a1} (hL : L ≤ 9232) (hi1 : L ≤ a1) (h : Low L s0 s) : Low L s0 (State.groupOn s a1) := by
  unfold State.groupOn
  dsimp only; split
  with_reducible (apply low_each; apply low_each; apply low_setReg (by omega); apply low_setGroup; apply low_setReg (by omega))
  with_reducible (apply low_setReg (by omega); apply low_setReg (by omega); assumption); intro _ _ _
  with_reducible (apply low_txLaneFail (by omega); apply low_setReg (by omega); assumption); intro _ _ _
  with_reducible (apply low_setStream (by omega); assumption; apply low_each; apply low_setReg (by omega)); apply low_mk
  with_reducible (apply low_setGroup; apply low_setReg (by omega); apply low_setReg (by omega); apply low_setReg (by omega); assumption)
  intro _ _ _; with_reducible (apply low_rxLaneFail (by omega); apply low_setReg (by omega); assumption)

theorem low_execGroupOn {L : Nat} {s0 s : State} {a0} (hL : L ≤ 9232) (hi0 : L ≤ a0) (h : Low L s0 s) : LowR L s0 (execGroupOn a0 s) := by
  unfold execGroupOn
  with_reducible apply lowR_inst; split
  with_reducible (apply lowR_next; apply low_groupOn (by omega) (by omega); assumption; apply lowR_next; assumption)

theorem low_groupOff {L : Nat} {s0 s : State} {a1} (hL : L ≤ 9232) (hi1 : L ≤ a1) (h : Low L s0 s) : Low L s0 (State.groupOff s a1) := by
  unfold State.groupOff
  dsimp only; with_reducible (apply low_each; apply low_setGroup; apply low_setReg (by omega); apply low_setReg (by omega))
  with_reducible (apply low_setReg (by omega); assumption); intro _ _ _; split; split
  with_reducible (assumption; apply low_setTx; apply low_setReg (by omega); assumption); split
  with_reducible (assumption; apply low_setLaneState (by omega); assumption)

theorem low_prbsRx {L : Nat} {s0 s : State} {a1 a2} (hL : L ≤ 9218) (h : Low L s0 s) : Low L s0 (State.prbsRx s a1 a2) := by
  unfold State.prbsRx
  split; dsimp only; with_reducible apply low_regBit (by omega); split
  with_reducible (apply low_modRx; assumption; apply low_inc32 (by omega); apply low_modRx; assumption)

theorem low_execPrbsReceive {L : Nat} {s0 s : State} {a0 a1} (hL : L ≤ 9218) (h : Low L s0 s) : LowR L s0 (execPrbsReceive a0 a1 s) := by
  unfold execPrbsReceive
  with_reducible apply lowR_inst; split
  with_reducible (apply lowR_next; apply low_prbsRx (by omega); assumption; apply lowR_next; assumption)

theorem low_cmdPrbsInject {L : Nat} {s0 s : State} (h : Low L s0 s) : LowV L s0 (cmdPrbsInject s) := by
  unfold cmdPrbsInject
  with_reducible (apply lowV_ok; apply low_each; assumption); intro _ _ _; with_reducible (apply low_setTx; assumption)

theorem low_prbsTx {L : Nat} {s0 s : State} {a1} (h : Low L s0 s) : Low L s0 (State.prbsTx s a1) := by
  unfold State.prbsTx
  dsimp only; with_reducible (apply low_emit; apply low_setTx; assumption)

theorem low_discardReady {L : Nat} {s0 s : State} {a1} (hL : L ≤ 9984) (h : Low L s0 s) : Low L s0 (State.discardReady s a1) := by
  unfold State.discardReady
  dsimp only; split; with_reducible apply low_inc64 (by omega); apply low_mk
  with_reducible (apply low_setStream (by omega); apply low_whenB; assumption); intro _ _
  with_reducible (apply low_inc32 (by omega); assumption; apply low_setStream (by omega); apply low_whenB; assumption); intro _ _
  with_reducible (apply low_inc32 (by omega); assumption)

theorem low_sheafAfter {L : Nat} {s0 s : State} {a1 a2 a3} (hL : L ≤ 9218) (h : Low L s0 s) : Low L s0 (sheafAfter s a1 a2 a3) := by
  unfold sheafAfter
  dsimp only; split; with_reducible (apply low_each; assumption); intro _ _ _; split
  with_reducible (apply low_setLaneState (by omega); apply low_setRx; assumption; apply low_regBit (by omega))
  with_reducible (apply low_setLaneState (by omega); assumption); split; with_reducible (apply low_each; assumption); intro _ _ _
  with_reducible (apply low_setTx; apply low_setReg (by omega); assumption); split; with_reducible apply low_setStream (by omega); split
  with_reducible (apply low_discardReady (by omega); assumption; assumption; assumption)

end Sys2Proof.Machine
end

