-- ==== Sys2Proof/Laws/LowWinnow.lean ====
section
/-! SUPPORT. The lowest entry each definition of Machine/Winnow.lean may change (Low). -/

set_option Elab.async false

namespace Sys2Proof.Machine

set_option linter.unusedVariables false

theorem low_modWin {L : Nat} {s0 s : State} {a1 a2} (h : Low L s0 s) : Low L s0 (State.modWin s a1 a2) := by
  unfold State.modWin
  apply low_mk; with_reducible assumption

theorem low_modScaler {L : Nat} {s0 s : State} {a1 a2} (h : Low L s0 s) : Low L s0 (State.modScaler s a1 a2) := by
  unfold State.modScaler
  apply low_mk; with_reducible assumption

theorem low_takeChannel {L : Nat} {s0 s : State} {a1 a2} (hL : L ≤ 18448) (h : Low L s0 s) : Low L s0 (State.takeChannel s a1 a2) := by
  unfold State.takeChannel
  with_reducible (apply low_modWin; apply low_setReg (by omega); assumption)

theorem low_leaveChannel {L : Nat} {s0 s : State} {a1} (hL : L ≤ 18448) (h : Low L s0 s) : Low L s0 (State.leaveChannel s a1) := by
  unfold State.leaveChannel
  with_reducible (apply low_setReg (by omega); assumption)

theorem low_winPush {L : Nat} {s0 s : State} {a1 a2} (hL : L ≤ 18432) (h : Low L s0 s) : Low L s0 (State.winPush s a1 a2) := by
  unfold State.winPush
  split; with_reducible (apply low_inc32 (by omega); assumption); split
  with_reducible (apply low_inc32 (by omega); apply low_modWin; assumption; apply low_modWin; assumption)

theorem low_winStep {L : Nat} {s0 s : State} {a1} (hL : L ≤ 18448) (h : Low L s0 s) : Low L s0 (State.winStep s a1) := by
  unfold State.winStep
  split; with_reducible assumption; dsimp only; split; apply low_mk
  with_reducible (apply low_whenB; apply low_inc64 (by omega); apply low_modWin; assumption); intro _ _
  with_reducible (apply low_inc32 (by omega); assumption; apply low_modWin; assumption)

theorem low_groupLine {L : Nat} {s0 s : State} {a1 a2 a3} (hL : L ≤ 18560) (h : Low L s0 s) : Low L s0 (State.groupLine s a1 a2 a3) := by
  unfold State.groupLine
  dsimp only; split; with_reducible (apply low_modScaler; assumption); split
  with_reducible (apply low_inc32 (by omega); apply low_modScaler; assumption; apply low_modScaler; assumption)

theorem low_scalerLine {L : Nat} {s0 s : State} {a1 a2} (hL : L ≤ 18560) (h : Low L s0 s) : Low L s0 (State.scalerLine s a1 a2) := by
  unfold State.scalerLine
  dsimp only; split; split; split; split; with_reducible apply low_modScaler; split
  with_reducible (apply low_modScaler; apply low_modScaler; apply low_setReg (by omega); assumption; apply low_modScaler)
  with_reducible (apply low_setReg (by omega); assumption); split; with_reducible apply low_modScaler; split
  with_reducible (apply low_modScaler; apply low_modScaler; apply low_setReg (by omega); assumption; apply low_modScaler)
  with_reducible (apply low_setReg (by omega); assumption; apply low_groupLine (by omega); apply low_inc32 (by omega)); split
  with_reducible (apply low_modScaler; apply low_modScaler; apply low_setReg (by omega); assumption; apply low_modScaler)
  with_reducible (apply low_setReg (by omega); assumption; apply low_modScaler; apply low_setReg (by omega); assumption); split; split
  with_reducible apply low_modScaler; split
  with_reducible (apply low_modScaler; apply low_modScaler; assumption; apply low_modScaler; assumption); split
  with_reducible apply low_modScaler; split
  with_reducible (apply low_modScaler; apply low_modScaler; assumption; apply low_modScaler; assumption; apply low_groupLine (by omega))
  with_reducible apply low_inc32 (by omega); split
  with_reducible (apply low_modScaler; apply low_modScaler; assumption; apply low_modScaler; assumption; apply low_modScaler; assumption)
  split; split; split; with_reducible apply low_modScaler; split
  with_reducible (apply low_modScaler; apply low_setReg (by omega); assumption; apply low_setReg (by omega); assumption); split
  with_reducible apply low_modScaler; split
  with_reducible (apply low_modScaler; apply low_setReg (by omega); assumption; apply low_setReg (by omega); assumption)
  with_reducible (apply low_groupLine (by omega); apply low_inc32 (by omega)); split
  with_reducible (apply low_modScaler; apply low_setReg (by omega); assumption; apply low_setReg (by omega); assumption)
  with_reducible (apply low_setReg (by omega); assumption); split; split; with_reducible apply low_modScaler; split
  with_reducible (apply low_modScaler; assumption; assumption); split; with_reducible apply low_modScaler; split
  with_reducible (apply low_modScaler; assumption; assumption; apply low_groupLine (by omega); apply low_inc32 (by omega)); split
  with_reducible (apply low_modScaler; assumption; assumption; assumption)

theorem low_scalerService {L : Nat} {s0 s : State} {a1} (hL : L ≤ 18560) (h : Low L s0 s) : Low L s0 (State.scalerService s a1) := by
  unfold State.scalerService
  dsimp only; split; with_reducible assumption; split
  with_reducible (apply low_modScaler; assumption; apply low_groupLine (by omega); apply low_modScaler; assumption)

theorem low_repeatN {L : Nat} {s0 : State} {f : State → State} {n : Nat} {s : State} (h : Low L s0 s) (hf : ∀ t, Low L s0 t → Low L s0 (f t)) :
    Low L s0 (State.repeatN f n s) := by
  induction n generalizing s with
  | zero => exact h
  | succ n ih => exact ih (hf s h)

theorem low_execWinnowService {L : Nat} {s0 s : State} (hL : L ≤ 18432) (h : Low L s0 s) : LowR L s0 (execWinnowService s) := by
  unfold execWinnowService
  split; dsimp only; with_reducible apply lowR_next; split; with_reducible (apply low_repeatN; apply low_setReg (by omega)); apply low_mk
  with_reducible assumption; intro _ _; with_reducible (apply low_winStep (by omega); assumption); split
  with_reducible (apply low_scalerService (by omega); apply low_setReg (by omega)); apply low_mk
  with_reducible (assumption; apply low_setReg (by omega)); apply low_mk; with_reducible (assumption; apply lowR_next; assumption)

theorem low_execScalerGroupSend {L : Nat} {s0 s : State} {a0} (hL : L ≤ 9984) (h : Low L s0 s) : LowR L s0 (execScalerGroupSend a0 s) := by
  unfold execScalerGroupSend
  dsimp only; with_reducible apply lowR_inst; split; with_reducible (apply lowR_next; assumption); split
  with_reducible (apply lowR_next; assumption; apply lowR_next; apply low_inc64 (by omega); apply low_each; apply low_modScaler)
  with_reducible assumption; intro _ _ _; with_reducible (apply low_streamPut (by omega); assumption)

theorem low_winnowTurnsOn {L : Nat} {s0 s : State} (hL : L ≤ 18432) (h : Low L s0 s) : Low L s0 (State.winnowTurnsOn s) := by
  unfold State.winnowTurnsOn
  dsimp only; with_reducible apply low_setReg (by omega); apply low_mk; with_reducible assumption

theorem low_winnowTurnsOff {L : Nat} {s0 s : State} (h : Low L s0 s) : Low L s0 (State.winnowTurnsOff s) := by
  unfold State.winnowTurnsOff
  apply low_mk; with_reducible assumption

theorem low_scalerEnabling {L : Nat} {s0 s : State} {a1} (hL : L ≤ 18448) (h : Low L s0 s) : Low L s0 (State.scalerEnabling s a1) := by
  unfold State.scalerEnabling
  with_reducible (apply low_modScaler; apply low_each; assumption); intro _ _ _
  with_reducible (apply low_takeChannel (by omega); assumption)

theorem low_scalerTurnsOff {L : Nat} {s0 s : State} {a1} (hL : L ≤ 18448) (h : Low L s0 s) : Low L s0 (State.scalerTurnsOff s a1) := by
  unfold State.scalerTurnsOff
  with_reducible (apply low_modScaler; apply low_each; assumption); intro _ _ _
  with_reducible (apply low_leaveChannel (by omega); assumption)

end Sys2Proof.Machine
end

