-- ==== Sys2Proof/Laws/LowCamera.lean ====
section
/-! SUPPORT. The lowest entry each definition of Machine/Camera.lean may change (Low). -/

set_option Elab.async false

namespace Sys2Proof.Machine

set_option linter.unusedVariables false

theorem low_modFront {L : Nat} {s0 s : State} {a1} (h : Low L s0 s) : Low L s0 (State.modFront s a1) := by
  unfold State.modFront
  apply low_mk; with_reducible assumption

theorem low_modCam {L : Nat} {s0 s : State} {a1 a2} (h : Low L s0 s) : Low L s0 (State.modCam s a1 a2) := by
  unfold State.modCam
  with_reducible (apply low_modFront; assumption)

theorem low_bridgeOffset {L : Nat} {s0 s : State} {a1 a2 a3} (hL : L ≤ 16385) (h : Low L s0 s) : Low L s0 (State.bridgeOffset s a1 a2 a3) := by
  unfold State.bridgeOffset
  dsimp only; with_reducible (apply low_setReg (by omega); apply low_setReg (by omega)); split
  with_reducible (apply low_inc32 (by omega); assumption; assumption)

theorem low_takePixels {L : Nat} {s0 s : State} {a1 a2 a3 a4 a5 a6 a7} (h : Low L s0 s) : Low L s0 (State.takePixels s a1 a2 a3 a4 a5 a6 a7) := by
  unfold State.takePixels
  dsimp only; with_reducible (apply low_modFront; apply low_modCam; assumption)

theorem low_pixelPacket {L : Nat} {s0 s : State} {a1} (hL : L ≤ 9217) (h : Low L s0 s) : Low L s0 (State.pixelPacket s a1) := by
  unfold State.pixelPacket
  dsimp only; split; with_reducible (apply low_inc32 (by omega); assumption); split
  with_reducible (apply low_inc32 (by omega); assumption); split; with_reducible (apply low_inc32 (by omega); assumption); split
  with_reducible (apply low_inc32 (by omega); assumption); split; split; with_reducible (apply low_inc32 (by omega); assumption); split
  with_reducible (apply low_inc32 (by omega); apply low_setReg (by omega); apply low_bridgeOffset (by omega); assumption)
  with_reducible (apply low_takePixels; apply low_setReg (by omega); apply low_bridgeOffset (by omega); assumption); split
  with_reducible (apply low_inc32 (by omega); assumption); split
  with_reducible (apply low_inc32 (by omega); apply low_setReg (by omega); apply low_bridgeOffset (by omega); assumption)
  with_reducible (apply low_takePixels; apply low_setReg (by omega); apply low_bridgeOffset (by omega); assumption)

theorem low_stageATurn {L : Nat} {s0 s : State} (h : Low L s0 s) : Low L s0 (State.stageATurn s) := by
  unfold State.stageATurn
  split; with_reducible (apply low_modFront; assumption; assumption)

theorem low_execPixelPacketRx {L : Nat} {s0 s : State} (hL : L ≤ 9217) (h : Low L s0 s) : LowR L s0 (execPixelPacketRx s) := by
  unfold execPixelPacketRx
  with_reducible (apply lowR_next; apply low_stageATurn; apply low_each); apply low_mk; with_reducible assumption; intro _ _ _
  with_reducible (apply low_pixelPacket (by omega); assumption)

theorem low_sendStats {L : Nat} {s0 s : State} {a1 a2} (hL : L ≤ 9984) (h : Low L s0 s) : Low L s0 (State.sendStats s a1 a2) := by
  unfold State.sendStats
  split; with_reducible assumption; split; with_reducible (apply low_inc32 (by omega); assumption); dsimp only
  with_reducible (apply low_modFront; apply low_streamPut (by omega); assumption)

theorem low_statsLate {L : Nat} {s0 s : State} {a1} (hL : L ≤ 9984) (h : Low L s0 s) : Low L s0 (State.statsLate s a1) := by
  unfold State.statsLate
  dsimp only; with_reducible (apply low_modFront; apply low_each; assumption); intro _ _ _; split
  with_reducible (apply low_inc32 (by omega); apply low_setStream (by omega); assumption; assumption)

theorem low_formStats {L : Nat} {s0 s : State} {a1 a2} (hL : L ≤ 9984) (h : Low L s0 s) : Low L s0 (State.formStats s a1 a2) := by
  unfold State.formStats
  dsimp only; with_reducible (apply low_fire (by omega); apply low_sendStats (by omega)); split; split
  with_reducible (apply low_store (by omega); apply low_setReg (by omega); apply low_snd; apply low_draw; assumption)
  with_reducible (apply low_setReg (by omega); apply low_snd; apply low_draw; assumption); split
  with_reducible (apply low_store (by omega); apply low_setReg (by omega); assumption; apply low_setReg (by omega); assumption)

theorem low_execStatsRecordFormed {L : Nat} {s0 s : State} {a0} (hL : L ≤ 9984) (h : Low L s0 s) : LowR L s0 (execStatsRecordFormed a0 s) := by
  unfold execStatsRecordFormed
  with_reducible apply lowR_inst; split; split
  with_reducible (apply lowR_next; apply low_formStats (by omega); apply low_modCam; assumption; apply lowR_next; assumption)
  with_reducible (apply lowR_next; assumption)

theorem low_stageB {L : Nat} (hL : L ≤ 16385) {s0 s : State} {c : Nat} (h : Low L s0 s) : Low L s0 ((State.stageB s c).s) := by
  unfold State.stageB
  extract_lets x l f ms rows planes filled isMissing mism split info i acc last old s1 replaced s2 s3 s4
  have k : Low L s0 s2 := by
    simp only [s2, s1]
    with_reducible (apply low_inc64 (by omega); apply low_inc64 (by omega); apply low_modCam; assumption)
  clear_value s2
  have k3 : Low L s0 s3 := by
    simp only [s3]
    split; with_reducible (apply low_inc32 (by omega); assumption); split
    with_reducible (apply low_inc32 (by omega); assumption; assumption)
  clear_value s3
  show Low L s0 s4
  simp only [s4]
  split; with_reducible (apply low_inc32 (by omega); assumption; assumption)

theorem low_camSet {L : Nat} {s0 s : State} {a1 a2 a3 a4} (hL : L ≤ 16385) (h : Low L s0 s) : Low L s0 (State.camSet s a1 a2 a3 a4) := by
  unfold State.camSet
  dsimp only; split; split; with_reducible (apply low_queueControl; assumption; apply low_inc32 (by omega); assumption); split
  with_reducible (apply low_queueControl; assumption; apply low_inc32 (by omega); assumption)

theorem low_sendSettings {L : Nat} {s0 s : State} {a1 a2 a3 a4} (hL : L ≤ 16385) (h : Low L s0 s) : Low L s0 (State.sendSettings s a1 a2 a3 a4) := by
  unfold State.sendSettings
  dsimp only; with_reducible (apply low_camSet (by omega); apply low_each; assumption); intro _ _ _
  with_reducible (apply low_camSet (by omega); assumption)

theorem low_settingsLive {L : Nat} {s0 s : State} {a1} (hL : L ≤ 16384) (h : Low L s0 s) : Low L s0 (State.settingsLive s a1) := by
  unfold State.settingsLive
  split; with_reducible assumption; dsimp only; split
  with_reducible (apply low_modFront; apply low_setReg (by omega); assumption; apply low_setReg (by omega); assumption)

theorem low_settingsBoundary {L : Nat} {s0 s : State} {a1} (hL : L ≤ 16385) (h : Low L s0 s) : Low L s0 (State.settingsBoundary s a1) := by
  unfold State.settingsBoundary
  split; with_reducible assumption; dsimp only; with_reducible (apply low_modFront; apply low_each; assumption); intro _ _ _
  with_reducible (apply low_sendSettings (by omega); assumption)

theorem low_frontEnabling {L : Nat} {s0 s : State} (hL : L ≤ 16400) (h : Low L s0 s) : Low L s0 (State.frontEnabling s) := by
  unfold State.frontEnabling
  dsimp only; with_reducible (apply low_modFront; apply low_each; apply low_modGen; assumption); intro _ _ _
  with_reducible (apply low_setReg (by omega); assumption)

theorem low_cameraEnabling {L : Nat} {s0 s : State} {a1} (hL : L ≤ 16385) (h : Low L s0 s) : Low L s0 (State.cameraEnabling s a1) := by
  unfold State.cameraEnabling
  with_reducible (apply low_sendSettings (by omega); apply low_modCam; apply low_forgetSeqs; assumption)

theorem low_cameraDisabling {L : Nat} {s0 s : State} {a1} (h : Low L s0 s) : Low L s0 (State.cameraDisabling s a1) := by
  unfold State.cameraDisabling
  with_reducible (apply low_modCam; assumption)

theorem low_frontDisabling {L : Nat} {s0 s : State} (hL : L ≤ 16400) (h : Low L s0 s) : Low L s0 (State.frontDisabling s) := by
  unfold State.frontDisabling
  dsimp only; with_reducible (apply low_each; apply low_modFront; assumption); intro _ _ _; split
  with_reducible (apply low_cameraDisabling; apply low_setReg (by omega); apply low_setReg (by omega); assumption); split
  with_reducible (apply low_setReg (by omega); apply low_setReg (by omega); assumption; assumption)

theorem low_cameraTurnsOff {L : Nat} {s0 s : State} {a1} (h : Low L s0 s) : Low L s0 (State.cameraTurnsOff s a1) := by
  unfold State.cameraTurnsOff
  with_reducible (apply low_modFront; apply low_modCam; assumption)

end Sys2Proof.Machine
end

