-- ==== Sys2Proof/Laws/LowSession.lean ====
section
/-! SUPPORT. The lowest entry each definition of Machine/Session.lean may change (Low). -/

set_option Elab.async false

namespace Sys2Proof.Machine

set_option linter.unusedVariables false

theorem low_portSend {L : Nat} {s0 s : State} {a1 a2} (hL : L ≤ 4112) (h : Low L s0 s) : Low L s0 (State.portSend s a1 a2) := by
  unfold State.portSend
  split; with_reducible (apply low_inc64 (by omega); apply low_emit; assumption; assumption)

theorem low_sendTo {L : Nat} {s0 s : State} {a1 a2} (hL : L ≤ 4112) (h : Low L s0 s) : Low L s0 (State.sendTo s a1 a2) := by
  unfold State.sendTo
  dsimp only; with_reducible (apply low_portSend (by omega); assumption)

theorem low_nextTx {L : Nat} {s0 s : State} {a1} (hL : L ≤ 4143) (h : Low L s0 s) : Low L s0 (State.nextTx s a1) := by
  unfold State.nextTx
  with_reducible (apply low_setReg (by simp only [sessIdx]; omega); assumption)

theorem low_debugLeave {L : Nat} {s0 s : State} (hL : L ≤ 4176) (h : Low L s0 s) : Low L s0 (State.debugLeave s) := by
  unfold State.debugLeave
  dsimp only; with_reducible (apply low_faultRecord (by omega); apply low_setReg (by omega); apply low_setReg (by omega); assumption)

theorem low_debugEnter {L : Nat} {s0 s : State} {a1} (hL : L ≤ 4176) (h : Low L s0 s) : Low L s0 (State.debugEnter s a1) := by
  unfold State.debugEnter
  with_reducible (apply low_faultRecord (by omega); apply low_setReg (by omega); apply low_setReg (by omega); assumption)

theorem low_abandon {L : Nat} {s0 s : State} {a1} (h : Low L s0 s) : Low L s0 (State.abandon s a1) := by
  unfold State.abandon
  split; with_reducible (assumption; apply low_abortLog; apply low_modSession; assumption)

theorem low_freeSession {L : Nat} {s0 s : State} {a1} (hL : L ≤ 4143) (h : Low L s0 s) : Low L s0 (State.freeSession s a1) := by
  unfold State.freeSession
  dsimp only; with_reducible (apply low_modSession; apply low_each; assumption); intro _ _ _
  with_reducible (apply low_setReg (by simp only [sessIdx]; omega); assumption)

theorem low_closeSession {L : Nat} {s0 s : State} {a1 a2} (hL : L ≤ 4112) (h : Low L s0 s) : Low L s0 (State.closeSession s a1 a2) := by
  unfold State.closeSession
  split; with_reducible assumption; split; apply low_mk; with_reducible assumption; dsimp only
  with_reducible (apply low_notifyBut; apply low_setInput; apply low_each; apply low_freeSession (by omega)); split; split
  with_reducible (apply low_debugLeave (by omega); apply low_abandon; apply low_sendTo (by omega); apply low_nextTx (by omega))
  with_reducible (assumption; apply low_abandon; apply low_sendTo (by omega); apply low_nextTx (by omega); assumption); split
  with_reducible (apply low_debugLeave (by omega); apply low_abandon; assumption; apply low_abandon; assumption); intro _ _ _
  with_reducible (apply low_channelDisable (by omega); assumption)

theorem low_closeWhere {L : Nat} {s0 s : State} {a1} (hL : L ≤ 4112) (h : Low L s0 s) : Low L s0 (State.closeWhere s a1) := by
  unfold State.closeWhere
  with_reducible (apply low_each; assumption); intro _ _ _; split
  with_reducible (apply low_closeSession (by omega); assumption; assumption)

theorem low_closePort {L : Nat} {s0 s : State} {a1} (hL : L ≤ 4112) (h : Low L s0 s) : Low L s0 (State.closePort s a1) := by
  unfold State.closePort
  with_reducible (apply low_closeWhere (by omega); assumption)

theorem low_heard {L : Nat} {s0 s : State} {a1} (hL : L ≤ 4143) (h : Low L s0 s) : Low L s0 (State.heard s a1) := by
  unfold State.heard
  with_reducible (apply low_setReg (by simp only [sessIdx]; omega); assumption)

theorem low_execSessionIdleTimeout {L : Nat} {s0 s : State} {a0} (hL : L ≤ 4112) (h : Low L s0 s) : LowR L s0 (execSessionIdleTimeout a0 s) := by
  unfold execSessionIdleTimeout
  with_reducible (apply lowR_inst; apply lowR_next; apply low_closeSession (by omega); assumption)

theorem low_execTransferAbandoned {L : Nat} {s0 s : State} {a0} (h : Low L s0 s) : LowR L s0 (execTransferAbandoned a0 s) := by
  unfold execTransferAbandoned
  with_reducible (apply lowR_inst; apply lowR_next; apply low_abandon; assumption)

theorem low_notifySend {L : Nat} {s0 s : State} {a1} (hL : L ≤ 4112) (h : Low L s0 s) : Low L s0 (State.notifySend s a1) := by
  unfold State.notifySend
  dsimp only; with_reducible (apply low_sendTo (by omega); apply low_modSession; apply low_nextTx (by omega); assumption)

theorem low_execNotifySend {L : Nat} {s0 s : State} {a0} (hL : L ≤ 4112) (h : Low L s0 s) : LowR L s0 (execNotifySend a0 s) := by
  unfold execNotifySend
  with_reducible apply lowR_inst; split
  with_reducible (apply lowR_next; apply low_notifySend (by omega); assumption; apply lowR_next; assumption)

theorem low_notifyResend {L : Nat} {s0 s : State} {a1 a2} (hL : L ≤ 4112) (h : Low L s0 s) : Low L s0 (State.notifyResend s a1 a2) := by
  unfold State.notifyResend
  split; with_reducible assumption; split
  with_reducible (apply low_sendTo (by omega); apply low_modSession; assumption; apply low_modSession; assumption)

theorem low_execNotifyResend {L : Nat} {s0 s : State} {a0 a1} (hL : L ≤ 4112) (h : Low L s0 s) : LowR L s0 (execNotifyResend a0 a1 s) := by
  unfold execNotifyResend
  with_reducible apply lowR_inst; split
  with_reducible (apply lowR_next; apply low_notifyResend (by omega); assumption; apply lowR_next; assumption)

theorem low_eventNotify {L : Nat} {s0 s : State} {a1} (h : Low L s0 s) : Low L s0 (State.eventNotify s a1) := by
  unfold State.eventNotify
  split; with_reducible assumption; dsimp only; split
  with_reducible (apply low_modSession; apply low_takeInput; assumption; apply low_takeInput; assumption)

theorem low_rxFrame {L : Nat} {s0 s : State} {a1} (hL : L ≤ 4112) (h : Low L s0 s) : Low L s0 (State.rxFrame s a1) := by
  unfold State.rxFrame
  with_reducible (apply low_inc64 (by omega); assumption)

theorem low_execArpRequest {L : Nat} {s0 s : State} {a0 a1 a2} (hL : L ≤ 4112) (h : Low L s0 s) : LowR L s0 (execArpRequest a0 a1 a2 s) := by
  unfold execArpRequest
  with_reducible apply lowR_inst; split; dsimp only; with_reducible apply lowR_next; split
  with_reducible (apply low_portSend (by omega); apply low_rxFrame (by omega); assumption; apply low_inc32 (by omega))
  with_reducible (apply low_rxFrame (by omega); assumption; apply lowR_next; assumption)

theorem low_execIcmpEcho {L : Nat} {s0 s : State} {a0 a1 a2 a3} (hL : L ≤ 4112) (h : Low L s0 s) : LowR L s0 (execIcmpEcho a0 a1 a2 a3 s) := by
  unfold execIcmpEcho
  with_reducible apply lowR_inst; split; dsimp only; with_reducible apply lowR_next; split
  with_reducible (apply low_portSend (by omega); apply low_rxFrame (by omega); assumption; apply low_inc32 (by omega))
  with_reducible (apply low_rxFrame (by omega); assumption; apply lowR_next; assumption)

theorem low_execPortLinkChange {L : Nat} {s0 s : State} {a0 a1} (hL : L ≤ 4112) (h : Low L s0 s) : LowR L s0 (execPortLinkChange a0 a1 s) := by
  unfold execPortLinkChange
  with_reducible apply lowR_inst; split
  with_reducible (apply lowR_next; apply low_setReg (by omega); assumption; apply lowR_next; assumption)

end Sys2Proof.Machine
end

