-- ==== Sys2Proof/Laws/LowCrib.lean ====
section
/-! SUPPORT. The lowest entry each definition of Machine/Crib.lean may change (Low). -/

set_option Elab.async false

namespace Sys2Proof.Machine

set_option linter.unusedVariables false

theorem low_modSilo {L : Nat} {s0 s : State} {a1 a2} (h : Low L s0 s) : Low L s0 (State.modSilo s a1 a2) := by
  unfold State.modSilo
  apply low_mk; with_reducible assumption

theorem low_siloFlag {L : Nat} {s0 s : State} {a1 a2} (hL : L ≤ 10304) (h : Low L s0 s) : Low L s0 (State.siloFlag s a1 a2) := by
  unfold State.siloFlag
  with_reducible (apply low_regBit (by omega); assumption)

theorem low_showSilo {L : Nat} {s0 s : State} {a1} (hL : L ≤ 10304) (h : Low L s0 s) : Low L s0 (State.showSilo s a1) := by
  unfold State.showSilo
  dsimp only; split; with_reducible (apply low_setReg (by omega); apply low_setReg (by omega); apply low_setReg (by omega); assumption)
  with_reducible (apply low_setReg (by omega); assumption)

theorem low_pinSlab {L : Nat} {s0 s : State} {a1 a2 a3} (hL : L ≤ 10304) (h : Low L s0 s) : Low L s0 (State.pinSlab s a1 a2 a3) := by
  unfold State.pinSlab
  split; with_reducible assumption; dsimp only; split
  with_reducible (apply low_showSilo (by omega); apply low_modSilo; assumption; apply low_siloFlag (by omega); apply low_modSilo)
  with_reducible assumption

theorem low_siloHeld {L : Nat} {s0 s : State} {a1} (hL : L ≤ 10304) (h : Low L s0 s) : Low L s0 (State.siloHeld s a1) := by
  unfold State.siloHeld
  with_reducible (apply low_fire (by omega); apply low_setReg (by omega); assumption)

theorem low_settleSilo {L : Nat} {s0 s : State} {a1} (hL : L ≤ 10304) (h : Low L s0 s) : Low L s0 (State.settleSilo s a1) := by
  unfold State.settleSilo
  dsimp only; split; with_reducible (apply low_siloHeld (by omega); assumption; assumption)

theorem low_pinsEffect {L : Nat} {s0 s : State} {a1} (hL : L ≤ 10304) (h : Low L s0 s) : Low L s0 (State.pinsEffect s a1) := by
  unfold State.pinsEffect
  dsimp only; with_reducible (apply low_settleSilo (by omega); apply low_showSilo (by omega)); split; split
  with_reducible (apply low_modSilo; apply low_siloFlag (by omega); apply low_whenB; apply low_whenB; apply low_modSilo; assumption)
  intro _ _; with_reducible (apply low_siloFlag (by omega); assumption); intro _ _
  with_reducible (apply low_siloFlag (by omega); assumption; apply low_each; apply low_whenB; apply low_whenB; apply low_modSilo)
  with_reducible assumption; intro _ _; with_reducible (apply low_siloFlag (by omega); assumption); intro _ _
  with_reducible (apply low_siloFlag (by omega); assumption); intro _ _ _; with_reducible (apply low_pinSlab (by omega); assumption)
  split
  with_reducible (apply low_modSilo; apply low_siloFlag (by omega); apply low_whenB; apply low_whenB; apply low_modSilo; assumption)
  intro _ _; with_reducible (apply low_siloFlag (by omega); assumption); intro _ _
  with_reducible (apply low_siloFlag (by omega); assumption; apply low_each; apply low_whenB; apply low_whenB; apply low_modSilo)
  with_reducible assumption; intro _ _; with_reducible (apply low_siloFlag (by omega); assumption); intro _ _
  with_reducible (apply low_siloFlag (by omega); assumption); intro _ _ _; with_reducible (apply low_pinSlab (by omega); assumption)

theorem low_execPinsTakeEffect {L : Nat} {s0 s : State} {a0} (hL : L ≤ 10304) (h : Low L s0 s) : LowR L s0 (execPinsTakeEffect a0 s) := by
  unfold execPinsTakeEffect
  with_reducible apply lowR_inst; split
  with_reducible (apply lowR_next; apply low_pinsEffect (by omega); assumption; apply lowR_next; assumption)

theorem low_setSlabs {L : Nat} {s0 s : State} {a1} (h : Low L s0 s) : Low L s0 (State.setSlabs s a1) := by
  unfold State.setSlabs
  apply low_mk; with_reducible assumption

theorem low_claimSlab {L : Nat} {s0 s : State} {a1} (hL : L ≤ 10241) (h : Low L s0 s) : Low L s0 (State.claimSlab s a1) := by
  unfold State.claimSlab
  split; dsimp only; with_reducible (apply low_each; apply low_setSlabs; assumption); intro _ _ _; split
  with_reducible (apply low_settleSilo (by omega); apply low_pinSlab (by omega); assumption; assumption); dsimp only
  with_reducible (apply low_each; apply low_fire (by omega); apply low_inc32 (by omega); apply low_setSlabs; assumption); intro _ _ _
  split; with_reducible (apply low_siloFlag (by omega); assumption; assumption)

theorem low_writeSample {L : Nat} {s0 s : State} {a1 a2 a3 a4 a5} (hL : L ≤ 10241) (h : Low L s0 s) : Low L s0 (State.writeSample s a1 a2 a3 a4 a5) := by
  unfold State.writeSample
  dsimp only; split; split; split
  with_reducible (apply low_inc32 (by omega); assumption; apply low_setSlabs; apply low_store (by omega); assumption); split
  with_reducible (apply low_inc32 (by omega); apply low_claimSlab (by omega); assumption; apply low_setSlabs; apply low_store (by omega))
  with_reducible (apply low_claimSlab (by omega); assumption); split
  with_reducible (assumption; apply low_claimSlab (by omega); assumption)

theorem low_takeSample {L : Nat} {s0 s : State} {a1 a2 a3 a4 a5 a6} (hL : L ≤ 10241) (h : Low L s0 s) : Low L s0 (State.takeSample s a1 a2 a3 a4 a5 a6) := by
  unfold State.takeSample
  dsimp only; with_reducible apply low_writeSample (by omega); split; with_reducible (apply low_inc64 (by omega); assumption); split
  with_reducible (apply low_inc64 (by omega); assumption; assumption)

theorem low_samplePacket {L : Nat} {s0 s : State} {a1} (hL : L ≤ 9217) (h : Low L s0 s) : Low L s0 (State.samplePacket s a1) := by
  unfold State.samplePacket
  dsimp only; split; with_reducible (apply low_inc32 (by omega); assumption); split
  with_reducible (apply low_inc32 (by omega); assumption); split; with_reducible (apply low_inc32 (by omega); assumption); split
  with_reducible (apply low_inc32 (by omega); assumption); split; with_reducible (apply low_inc32 (by omega); assumption); split
  with_reducible (apply low_inc32 (by omega); assumption; apply low_each); apply low_mk; with_reducible assumption; intro _ _ _
  with_reducible (apply low_each; assumption); intro _ _ _; with_reducible (apply low_takeSample (by omega); assumption)

theorem low_execSamplePacketRx {L : Nat} {s0 s : State} (hL : L ≤ 9217) (h : Low L s0 s) : LowR L s0 (execSamplePacketRx s) := by
  unfold execSamplePacketRx
  split; with_reducible (apply lowR_next; assumption; apply lowR_next; apply low_samplePacket (by omega)); apply low_mk
  with_reducible assumption

theorem low_fillSlab {L : Nat} {s0 s : State} {a1} (hL : L ≤ 22529) (h : Low L s0 s) : Low L s0 (State.fillSlab s a1) := by
  unfold State.fillSlab
  split; with_reducible assumption; dsimp only; with_reducible (apply low_each; assumption); intro _ _ _
  with_reducible (apply low_store (by omega); assumption)

theorem low_sealSlab {L : Nat} {s0 s : State} (hL : L ≤ 10241) (h : Low L s0 s) : Low L s0 (State.sealSlab s) := by
  unfold State.sealSlab
  dsimp only; with_reducible (apply low_each; apply low_setReg (by omega)); apply low_mk; with_reducible apply low_setSlabs; split
  with_reducible (apply low_fillSlab (by omega); apply low_each; assumption); intro _ _ _
  with_reducible (apply low_inc64 (by omega); assumption; apply low_each; assumption); intro _ _ _
  with_reducible (apply low_inc64 (by omega); assumption); intro _ _ _; with_reducible apply low_settleSilo (by omega); split
  with_reducible (apply low_siloFlag (by omega); assumption; assumption)

theorem low_execSlabSeal {L : Nat} {s0 s : State} (hL : L ≤ 10241) (h : Low L s0 s) : LowR L s0 (execSlabSeal s) := by
  unfold execSlabSeal
  split; with_reducible (apply lowR_next; apply low_sealSlab (by omega); assumption; apply lowR_next; assumption)

theorem low_setReader {L : Nat} {s0 s : State} {a1 a2} (h : Low L s0 s) : Low L s0 (State.setReader s a1 a2) := by
  unfold State.setReader
  apply low_mk; with_reducible assumption

theorem low_setHalf {L : Nat} {s0 s : State} {a1 a2 a3} (h : Low L s0 s) : Low L s0 (State.setHalf s a1 a2 a3) := by
  unfold State.setHalf
  apply low_mk; with_reducible assumption

theorem low_windowStart {L : Nat} {s0 s : State} {a1} (hL : L ≤ 10256) (h : Low L s0 s) : Low L s0 (State.windowStart s a1) := by
  unfold State.windowStart
  dsimp only; split; split
  with_reducible (apply low_setReader; assumption; apply low_setReg (by omega); apply low_setReg (by omega); apply low_setReader)
  with_reducible (assumption; assumption)

theorem low_execWindowStart {L : Nat} {s0 s : State} {a0} (hL : L ≤ 10256) (h : Low L s0 s) : LowR L s0 (execWindowStart a0 s) := by
  unfold execWindowStart
  with_reducible apply lowR_inst; split
  with_reducible (apply lowR_next; apply low_windowStart (by omega); assumption; apply lowR_next; assumption)

theorem low_rankReads {L : Nat} {s0 s : State} {a1 a2 a3 a4} (hL : L ≤ 22528) (h : Low L s0 s) : Low L s0 (State.rankReads s a1 a2 a3 a4) := by
  unfold State.rankReads
  with_reducible (apply low_each; assumption); intro _ _ _; split; with_reducible (apply low_readRange (by omega); assumption; assumption)

theorem low_stepReads {L : Nat} {s0 s : State} {a1 a2 a3} (hL : L ≤ 22528) (h : Low L s0 s) : Low L s0 (State.stepReads s a1 a2 a3) := by
  unfold State.stepReads
  with_reducible (apply low_each; assumption); intro _ _ _; with_reducible (apply low_rankReads (by omega); assumption)

theorem low_loftFill {L : Nat} {s0 s : State} {a1} (hL : L ≤ 10256) (h : Low L s0 s) : Low L s0 (State.loftFill s a1) := by
  unfold State.loftFill
  dsimp only; split; split
  with_reducible (apply low_setReader; apply low_inc64 (by omega); apply low_setHalf; apply low_stepReads (by omega); assumption); split
  with_reducible (apply low_setReader; apply low_inc64 (by omega); apply low_setHalf; apply low_stepReads (by omega); assumption); split
  with_reducible (apply low_setReg (by omega); apply low_setReader; apply low_inc64 (by omega); apply low_setHalf)
  with_reducible (apply low_stepReads (by omega); assumption; apply low_setReader; apply low_inc64 (by omega); apply low_setHalf)
  with_reducible (apply low_stepReads (by omega); assumption; assumption)

theorem low_cribTick {L : Nat} {s0 s : State} (hL : L ≤ 10256) (h : Low L s0 s) : Low L s0 (State.cribTick s) := by
  unfold State.cribTick
  with_reducible (apply low_each; assumption); intro _ _ _; split; with_reducible (apply low_inc64 (by omega); assumption; assumption)

theorem low_trigger {L : Nat} {s0 s : State} {a1 a2 a3} (hL : L ≤ 10240) (h : Low L s0 s) : Low L s0 (State.trigger s a1 a2 a3) := by
  unfold State.trigger
  dsimp only; split; with_reducible (apply low_fire (by omega); apply low_inc32 (by omega); assumption; apply low_inc32 (by omega))
  with_reducible (apply low_setReg (by omega); apply low_setReg (by omega); apply low_setReg (by omega); apply low_setReg (by omega))
  with_reducible (apply low_setReg (by omega); apply low_setReg (by omega); apply low_setReg (by omega); apply low_setReg (by omega))
  with_reducible (apply low_setReg (by omega); apply low_setReg (by omega); apply low_modSilo; assumption)

theorem low_execCribFreeze {L : Nat} {s0 s : State} {a0} (hL : L ≤ 10240) (h : Low L s0 s) : LowR L s0 (execCribFreeze a0 s) := by
  unfold execCribFreeze
  with_reducible apply lowR_inst; split
  with_reducible (apply lowR_next; apply low_trigger (by omega); apply low_takeInput; assumption; apply lowR_next; assumption)

theorem low_cmdFire {L : Nat} {s0 s : State} (hL : L ≤ 10240) (h : Low L s0 s) : LowV L s0 (cmdFire s) := by
  unfold cmdFire
  with_reducible (apply lowV_ok; apply low_trigger (by omega); assumption)

theorem low_endReadout {L : Nat} {s0 s : State} {a1} (hL : L ≤ 10244) (h : Low L s0 s) : Low L s0 (State.endReadout s a1) := by
  unfold State.endReadout
  with_reducible apply low_setReg (by omega); apply low_mk; with_reducible assumption

theorem low_cmdSiloRelease {L : Nat} {s0 s : State} {a0} (hL : L ≤ 10244) (h : Low L s0 s) : LowV L s0 (cmdSiloRelease a0 s) := by
  unfold cmdSiloRelease
  dsimp only; split; with_reducible (apply lowV_error; apply lowV_ok; apply low_modSilo; apply low_setReg (by omega)); split
  with_reducible (apply low_endReadout (by omega); assumption; assumption)

theorem low_execSiloReleaseComplete {L : Nat} {s0 s : State} {a0} (hL : L ≤ 10304) (h : Low L s0 s) : LowR L s0 (execSiloReleaseComplete a0 s) := by
  unfold execSiloReleaseComplete
  with_reducible apply lowR_inst; split
  with_reducible (apply lowR_next; apply low_modSilo; apply low_setReg (by omega); assumption; apply lowR_next; assumption)

theorem low_readoutStart {L : Nat} {s0 s : State} (hL : L ≤ 10244) (h : Low L s0 s) : Low L s0 (State.readoutStart s) := by
  unfold State.readoutStart
  dsimp only; with_reducible (apply low_setReg (by omega); apply low_setReg (by omega); apply low_setReg (by omega)); apply low_mk
  with_reducible assumption

theorem low_cmdReadoutStart {L : Nat} {s0 s : State} (hL : L ≤ 10244) (h : Low L s0 s) : LowV L s0 (cmdReadoutStart s) := by
  unfold cmdReadoutStart
  split; with_reducible (apply lowV_ok; apply low_readoutStart (by omega); assumption; apply lowV_error)

theorem low_readoutRefused {L : Nat} {s0 s : State} (hL : L ≤ 10244) (h : Low L s0 s) : Low L s0 (State.readoutRefused s) := by
  unfold State.readoutRefused
  with_reducible (apply low_setReg (by omega); assumption)

theorem low_cmdReadoutAbort {L : Nat} {s0 s : State} (hL : L ≤ 10244) (h : Low L s0 s) : LowV L s0 (cmdReadoutAbort s) := by
  unfold cmdReadoutAbort
  split
  with_reducible (apply lowV_ok; apply low_siloHeld (by omega); apply low_endReadout (by omega); assumption; apply lowV_ok; assumption)

theorem low_readoutRead {L : Nat} {s0 s : State} {a1} (hL : L ≤ 22528) (h : Low L s0 s) : Low L s0 (State.readoutRead s a1) := by
  unfold State.readoutRead
  split; with_reducible (apply low_readRange (by omega); assumption; assumption)

theorem low_execReadoutPacket {L : Nat} {s0 s : State} (hL : L ≤ 9984) (h : Low L s0 s) : LowR L s0 (execReadoutPacket s) := by
  unfold execReadoutPacket
  split; with_reducible (apply lowR_next; assumption); dsimp only; split
  with_reducible (apply lowR_next; apply low_siloHeld (by omega); apply low_endReadout (by omega); assumption); split
  with_reducible (apply lowR_next; apply low_fire (by omega); apply low_siloHeld (by omega); apply low_endReadout (by omega); assumption)
  split; split; with_reducible apply lowR_next; apply low_mk
  with_reducible (apply low_inc32 (by omega); apply low_streamPut (by omega); apply low_readoutRead (by omega); assumption)
  with_reducible (apply lowR_next; apply low_fire (by omega); apply low_siloHeld (by omega); apply low_endReadout (by omega))
  with_reducible (apply low_inc32 (by omega); apply low_streamPut (by omega); apply low_readoutRead (by omega); assumption)
  with_reducible (apply lowR_next; assumption)

theorem low_cribEnabling {L : Nat} {s0 s : State} (hL : L ≤ 10241) (h : Low L s0 s) : Low L s0 (State.cribEnabling s) := by
  unfold State.cribEnabling
  dsimp only; with_reducible (apply low_setReg (by omega); apply low_setReg (by omega)); apply low_mk
  with_reducible (apply low_forgetSeqs; assumption)

theorem low_cribTurnsOn {L : Nat} {s0 s : State} (hL : L ≤ 10241) (h : Low L s0 s) : Low L s0 (State.cribTurnsOn s) := by
  unfold State.cribTurnsOn
  dsimp only; with_reducible apply low_setReg (by omega); apply low_mk; with_reducible assumption

theorem low_endReader {L : Nat} {s0 s : State} {a1} (h : Low L s0 s) : Low L s0 (State.endReader s a1) := by
  unfold State.endReader
  dsimp only; split; with_reducible (apply low_setReader; assumption; assumption)

theorem low_cribDisabling {L : Nat} {s0 s : State} (hL : L ≤ 10304) (h : Low L s0 s) : Low L s0 (State.cribDisabling s) := by
  unfold State.cribDisabling
  dsimp only; with_reducible (apply low_each; apply low_each; apply low_each; apply low_each; assumption); intro _ _ _; split
  with_reducible (apply low_pinsEffect (by omega); assumption; assumption); intro _ _ _
  with_reducible (apply low_fillSlab (by omega); assumption); intro _ _ _; split
  with_reducible (apply low_siloHeld (by omega); apply low_siloFlag (by omega); apply low_modSilo; assumption; assumption); intro _ _ _
  with_reducible (apply low_endReader; assumption)

theorem low_cribTurnsOff {L : Nat} {s0 s : State} (h : Low L s0 s) : Low L s0 (State.cribTurnsOff s) := by
  unfold State.cribTurnsOff
  apply low_mk; with_reducible assumption

end Sys2Proof.Machine
end

