-- ==== Sys2Proof/Laws/LowGranary.lean ====
section
/-! SUPPORT. The lowest entry each definition of Machine/Granary.lean may change (Low). -/

set_option Elab.async false

namespace Sys2Proof.Machine

set_option linter.unusedVariables false

theorem low_setAcc {L : Nat} {s0 s : State} {a1 a2 a3 a4} (h : Low L s0 s) : Low L s0 (State.setAcc s a1 a2 a3 a4) := by
  unfold State.setAcc
  apply low_mk; with_reducible assumption

theorem low_clearBin {L : Nat} {s0 s : State} {a1 a2} (h : Low L s0 s) : Low L s0 (State.clearBin s a1 a2) := by
  unfold State.clearBin
  with_reducible (apply low_setAcc; apply low_setAcc; assumption)

theorem low_granaryEcc {L : Nat} {s0 s : State} {a1 a2 a3 a4 a5} (hL : L ≤ 27200) (h : Low L s0 s) : Low L s0 (State.granaryEcc s a1 a2 a3 a4 a5) := by
  unfold State.granaryEcc
  dsimp only; split; with_reducible (assumption; apply low_each; apply low_setAcc; assumption); intro _ _ _
  with_reducible (apply low_faultRecord (by omega); assumption)

end Sys2Proof.Machine
end

