-- ==== Sys2Proof/Laws/LowJig.lean ====
section
/-! SUPPORT. The lowest entry each definition of Machine/Jig.lean may change (Low). -/

set_option Elab.async false

namespace Sys2Proof.Machine

set_option linter.unusedVariables false

theorem low_modJig {L : Nat} {s0 s : State} {a1 a2} (h : Low L s0 s) : Low L s0 (State.modJig s a1 a2) := by
  unfold State.modJig
  apply low_mk; with_reducible assumption

theorem low_setOrders {L : Nat} {s0 s : State} {a1} (h : Low L s0 s) : Low L s0 (State.setOrders s a1) := by
  unfold State.setOrders
  apply low_mk; with_reducible assumption

theorem low_modOrder {L : Nat} {s0 s : State} {a1 a2} (h : Low L s0 s) : Low L s0 (State.modOrder s a1 a2) := by
  unfold State.modOrder
  with_reducible (apply low_setOrders; assumption)

theorem low_setRun {L : Nat} {s0 s : State} {a1 a2} (hL : L ≤ 12304) (h : Low L s0 s) : Low L s0 (State.setRun s a1 a2) := by
  unfold State.setRun
  with_reducible (apply low_setReg (by omega); assumption)

theorem low_goto {L : Nat} {s0 s : State} {a1 a2} (hL : L ≤ 12304) (h : Low L s0 s) : Low L s0 (State.goto s a1 a2) := by
  unfold State.goto
  with_reducible (apply low_setReg (by omega); assumption)

theorem low_nextEntry {L : Nat} {s0 s : State} {a1} (hL : L ≤ 12304) (h : Low L s0 s) : Low L s0 (State.nextEntry s a1) := by
  unfold State.nextEntry
  with_reducible (apply low_goto (by omega); assumption)

theorem low_releaseHalves {L : Nat} {s0 s : State} {a1} (h : Low L s0 s) : Low L s0 (State.releaseHalves s a1) := by
  unfold State.releaseHalves
  split; with_reducible (assumption; apply low_each; assumption); intro _ _ _; dsimp only; split
  with_reducible (apply low_setHalf; assumption; assumption)

theorem low_swapList {L : Nat} {s0 s : State} {a1 a2} (hL : L ≤ 12304) (h : Low L s0 s) : Low L s0 (State.swapList s a1 a2) := by
  unfold State.swapList
  dsimp only
  with_reducible (apply low_setRun (by omega); apply low_setReg (by omega); apply low_setReg (by omega); apply low_goto (by omega))
  with_reducible (apply low_modJig; assumption)

theorem low_takeHalf {L : Nat} {s0 s : State} {a1 a2} (hL : L ≤ 12304) (h : Low L s0 s) : LowF L s0 (State.takeHalf s a1 a2) := by
  unfold State.takeHalf
  dsimp only; split
  with_reducible (apply lowF_mk; apply low_swapList (by omega); apply low_modJig; apply low_releaseHalves; apply low_setReg (by omega))
  with_reducible (apply low_setReg (by omega); apply low_modJig; apply low_setHalf; assumption; apply lowF_mk; apply low_releaseHalves)
  with_reducible (apply low_setReg (by omega); apply low_setReg (by omega); apply low_modJig; apply low_setHalf; assumption)

theorem low_stepTaken {L : Nat} {s0 s : State} {a1 a2} (hL : L ≤ 12304) (h : Low L s0 s) : Low L s0 (State.stepTaken s a1 a2) := by
  unfold State.stepTaken
  dsimp only; split
  with_reducible (apply low_fst; apply low_takeHalf (by omega); assumption; apply low_setRun (by omega); apply low_nextEntry (by omega))
  with_reducible (apply low_fst; apply low_takeHalf (by omega); assumption)

theorem low_halfReady {L : Nat} {s0 s : State} {a1} (hL : L ≤ 12304) (h : Low L s0 s) : Low L s0 (State.halfReady s a1) := by
  unfold State.halfReady
  split; with_reducible assumption; split; with_reducible assumption; split; with_reducible (apply low_stepTaken (by omega); assumption)
  split; with_reducible (apply low_fst; apply low_takeHalf (by omega); assumption; assumption)

theorem low_execLoftStepFill {L : Nat} {s0 s : State} {a0} (hL : L ≤ 10256) (h : Low L s0 s) : LowR L s0 (execLoftStepFill a0 s) := by
  unfold execLoftStepFill
  with_reducible apply lowR_inst; split
  with_reducible (apply lowR_next; apply low_halfReady (by omega); apply low_loftFill (by omega); assumption; apply lowR_next)
  with_reducible assumption

theorem low_jigFail {L : Nat} {s0 s : State} {a1 a2} (hL : L ≤ 12304) (h : Low L s0 s) : Low L s0 (State.jigFail s a1 a2) := by
  unfold State.jigFail
  dsimp only
  with_reducible (apply low_fire (by omega); apply low_setReg (by omega); apply low_setReg (by omega); apply low_setRun (by omega))
  with_reducible (apply low_modJig; assumption)

theorem low_lateSwap {L : Nat} {s0 s : State} {a1} (hL : L ≤ 12304) (h : Low L s0 s) : Low L s0 (State.lateSwap s a1) := by
  unfold State.lateSwap
  split; split; with_reducible (apply low_swapList (by omega); apply low_modJig; assumption; assumption; assumption)

theorem low_discardUnplaced {L : Nat} {s0 s : State} {a1 a2 a3 a4} (hL : L ≤ 8448) (h : Low L s0 s) : Low L s0 (State.discardUnplaced s a1 a2 a3 a4) := by
  unfold State.discardUnplaced
  dsimp only; split; with_reducible apply low_inc64 (by omega); apply low_mk
  with_reducible (apply low_inc32 (by omega); apply low_inc64 (by omega); assumption; apply low_inc32 (by omega))
  with_reducible (apply low_inc64 (by omega); assumption)

theorem low_portGrant {L : Nat} {s0 s : State} {a1 a2 a3} (h : Low L s0 s) : Low L s0 (State.portGrant s a1 a2 a3) := by
  unfold State.portGrant
  dsimp only; apply low_mk; with_reducible assumption

theorem low_enqueueOrder {L : Nat} {s0 s : State} {a1 a2 a3 a4} (h : Low L s0 s) : Low L s0 (State.enqueueOrder s a1 a2 a3 a4) := by
  unfold State.enqueueOrder
  dsimp only; with_reducible (apply low_portGrant; apply low_setOrders; assumption)

theorem low_placeOrder {L : Nat} {s0 s : State} {a1 a2 a3 a4 a5} (hL : L ≤ 8448) (h : Low L s0 s) : Low L s0 (State.placeOrder s a1 a2 a3 a4 a5) := by
  unfold State.placeOrder
  split; with_reducible (apply low_discardUnplaced (by omega); assumption; apply low_enqueueOrder; assumption)

theorem low_issueOrder {L : Nat} {s0 s : State} {a1 a2} (hL : L ≤ 8448) (h : Low L s0 s) : Low L s0 (State.issueOrder s a1 a2) := by
  unfold State.issueOrder
  dsimp only; with_reducible apply low_placeOrder (by omega); apply low_mk; split
  with_reducible (apply low_inc32 (by omega); apply low_inc64 (by omega); assumption; apply low_inc64 (by omega); assumption)

theorem low_runSweep {L : Nat} (hL : L ≤ 8448) {s0 s : State} {k fuel : Nat} {x : Sweep} (h : Low L s0 s) : Low L s0 (State.runSweep s k fuel x) := by
  induction fuel generalizing s x with
  | zero => exact h
  | succ n ih =>
    unfold State.runSweep
    dsimp only; split; with_reducible (apply low_lateSwap (by omega); apply low_jigFail (by omega); assumption); split
    with_reducible (apply low_setRun (by omega); apply low_modJig); split
    with_reducible (assumption; apply low_poolFull (by omega); assumption); split
    with_reducible (apply low_lateSwap (by omega); apply low_nextEntry (by omega); apply low_modJig; apply low_setRun (by omega))
    with_reducible (apply low_issueOrder (by omega); assumption); apply ih
    with_reducible (apply low_setRun (by omega); apply low_issueOrder (by omega); assumption)

theorem low_resumePort {L : Nat} {s0 s : State} {a1} (hL : L ≤ 8448) (h : Low L s0 s) : Low L s0 (State.resumePort s a1) := by
  unfold State.resumePort
  split; with_reducible (apply low_runSweep (by omega); assumption; assumption)

theorem low_wakePort {L : Nat} {s0 s : State} {a1} (hL : L ≤ 8448) (h : Low L s0 s) : Low L s0 (State.wakePort s a1) := by
  unfold State.wakePort
  dsimp only; split; with_reducible assumption; split; with_reducible (apply low_resumePort (by omega); assumption; assumption)

theorem low_atEntry {L : Nat} {s0 s : State} {k : Nat} {kind : Nat → Bool} {run : Nat → State} (hL : L ≤ 12304) (h : Low L s0 s) (hr : ∀ w, Low L s0 (run w)) :
    Low L s0 (s.atEntry k kind run) := by
  unfold State.atEntry
  repeat' first | assumption | exact hr _ | with_reducible apply low_jigFail (by omega) | split

theorem low_issueEntry {L : Nat} {s0 s : State} {a1 a2} (hL : L ≤ 8448) (h : Low L s0 s) : Low L s0 (State.issueEntry s a1 a2) := by
  unfold State.issueEntry
  split; split; split
  with_reducible (apply low_resumePort (by omega); assumption; assumption; assumption; apply low_atEntry (by omega); assumption); intro _
  dsimp only; with_reducible (apply low_runSweep (by omega); assumption)

theorem low_execCorr4 {L : Nat} {s0 s : State} {a0} (hL : L ≤ 8448) (h : Low L s0 s) : LowR L s0 (execCorr4 a0 s) := by
  unfold execCorr4
  with_reducible (apply lowR_inst; apply lowR_next; apply low_issueEntry (by omega); assumption)

theorem low_execCorr8 {L : Nat} {s0 s : State} {a0} (hL : L ≤ 8448) (h : Low L s0 s) : LowR L s0 (execCorr8 a0 s) := by
  unfold execCorr8
  with_reducible (apply lowR_inst; apply lowR_next; apply low_issueEntry (by omega); assumption)

theorem low_execBeam4 {L : Nat} {s0 s : State} {a0} (hL : L ≤ 8448) (h : Low L s0 s) : LowR L s0 (execBeam4 a0 s) := by
  unfold execBeam4
  with_reducible (apply lowR_inst; apply lowR_next; apply low_issueEntry (by omega); assumption)

theorem low_execBeam8 {L : Nat} {s0 s : State} {a0} (hL : L ≤ 8448) (h : Low L s0 s) : LowR L s0 (execBeam8 a0 s) := by
  unfold execBeam8
  with_reducible (apply lowR_inst; apply lowR_next; apply low_issueEntry (by omega); assumption)

theorem low_execXreg {L : Nat} {s0 s : State} {a0} (hL : L ≤ 8448) (h : Low L s0 s) : LowR L s0 (execXreg a0 s) := by
  unfold execXreg
  with_reducible (apply lowR_inst; apply lowR_next; apply low_issueEntry (by omega); assumption)

theorem low_execZero {L : Nat} {s0 s : State} {a0} (hL : L ≤ 8448) (h : Low L s0 s) : LowR L s0 (execZero a0 s) := by
  unfold execZero
  with_reducible (apply lowR_inst; apply lowR_next; apply low_issueEntry (by omega); assumption)

theorem low_execDump {L : Nat} {s0 s : State} {a0} (hL : L ≤ 8448) (h : Low L s0 s) : LowR L s0 (execDump a0 s) := by
  unfold execDump
  with_reducible (apply lowR_inst; apply lowR_next; apply low_issueEntry (by omega); assumption)

theorem low_fencePass {L : Nat} {s0 s : State} {a1 a2} (hL : L ≤ 12304) (h : Low L s0 s) : Low L s0 (State.fencePass s a1 a2) := by
  unfold State.fencePass
  dsimp only; with_reducible (apply low_lateSwap (by omega); apply low_setRun (by omega); apply low_nextEntry (by omega)); split
  with_reducible (apply low_fire (by omega); assumption; assumption)

theorem low_execCutFence {L : Nat} {s0 s : State} {a0} (hL : L ≤ 12304) (h : Low L s0 s) : LowR L s0 (execCutFence a0 s) := by
  unfold execCutFence
  with_reducible (apply lowR_inst; apply lowR_next; apply low_atEntry (by omega); assumption); intro _; split
  with_reducible (apply low_jigFail (by omega); assumption); split
  with_reducible (apply low_setRun (by omega); assumption; apply low_fencePass (by omega); assumption)

theorem low_execFencePass {L : Nat} {s0 s : State} {a0} (hL : L ≤ 12304) (h : Low L s0 s) : LowR L s0 (execFencePass a0 s) := by
  unfold execFencePass
  with_reducible apply lowR_inst; split; split; split
  with_reducible (apply lowR_next; assumption; apply lowR_next; apply low_fencePass (by omega); assumption; apply lowR_next; assumption)
  with_reducible (apply lowR_next; assumption)

theorem low_control {L : Nat} {s0 s : State} {k code : Nat} {run : Nat → State} (hL : L ≤ 12304) (h : Low L s0 s) (hr : ∀ w, Low L s0 (run w)) :
    Low L s0 (s.control k code run) := by
  unfold State.control
  apply low_atEntry (by omega) h
  intro w
  split
  · exact hr w
  · exact (low_jigFail (by omega)) h

theorem low_jigEnd {L : Nat} {s0 s : State} {a1} (hL : L ≤ 12304) (h : Low L s0 s) : Low L s0 (State.jigEnd s a1) := by
  unfold State.jigEnd
  with_reducible (apply low_fire (by omega); apply low_setRun (by omega); assumption)

theorem low_execCutEnd {L : Nat} {s0 s : State} {a0} (hL : L ≤ 12304) (h : Low L s0 s) : LowR L s0 (execCutEnd a0 s) := by
  unfold execCutEnd
  with_reducible apply lowR_inst; split
  with_reducible (apply lowR_next; apply low_jigEnd (by omega); assumption; apply lowR_next; apply low_control (by omega); assumption)
  intro _; with_reducible (apply low_jigEnd (by omega); assumption)

theorem low_execCutWaitStep {L : Nat} {s0 s : State} {a0} (hL : L ≤ 12304) (h : Low L s0 s) : LowR L s0 (execCutWaitStep a0 s) := by
  unfold execCutWaitStep
  with_reducible (apply lowR_inst; apply lowR_next; apply low_control (by omega); assumption); intro _; split
  with_reducible (apply low_nextEntry (by omega); apply low_modJig; assumption); split
  with_reducible (apply low_stepTaken (by omega); assumption; apply low_setRun (by omega); assumption)

theorem low_execCutJump {L : Nat} {s0 s : State} {a0} (hL : L ≤ 12304) (h : Low L s0 s) : LowR L s0 (execCutJump a0 s) := by
  unfold execCutJump
  with_reducible (apply lowR_inst; apply lowR_next; apply low_control (by omega); assumption); intro _; split
  with_reducible (apply low_goto (by omega); assumption; apply low_jigFail (by omega); assumption)

theorem low_execCutIfStep {L : Nat} {s0 s : State} {a0} (hL : L ≤ 12304) (h : Low L s0 s) : LowR L s0 (execCutIfStep a0 s) := by
  unfold execCutIfStep
  with_reducible (apply lowR_inst; apply lowR_next; apply low_control (by omega); assumption); intro _; split
  with_reducible (apply low_jigFail (by omega); assumption); split
  with_reducible (apply low_goto (by omega); assumption; apply low_nextEntry (by omega); assumption)

theorem low_execCutLoop {L : Nat} {s0 s : State} {a0} (hL : L ≤ 12304) (h : Low L s0 s) : LowR L s0 (execCutLoop a0 s) := by
  unfold execCutLoop
  with_reducible (apply lowR_inst; apply lowR_next; apply low_control (by omega); assumption); intro _; dsimp only; split
  with_reducible (apply low_jigFail (by omega); assumption; apply low_nextEntry (by omega); apply low_modJig; assumption)

theorem low_execCutEndloop {L : Nat} {s0 s : State} {a0} (hL : L ≤ 12304) (h : Low L s0 s) : LowR L s0 (execCutEndloop a0 s) := by
  unfold execCutEndloop
  with_reducible (apply lowR_inst; apply lowR_next; apply low_control (by omega); assumption); intro _; split
  with_reducible (apply low_jigFail (by omega); assumption); split
  with_reducible (apply low_goto (by omega); apply low_modJig; assumption; apply low_nextEntry (by omega); apply low_modJig; assumption)

theorem low_waitEvent {L : Nat} {s0 s : State} {a1} (hL : L ≤ 12304) (h : Low L s0 s) : Low L s0 (State.waitEvent s a1) := by
  unfold State.waitEvent
  split; with_reducible (apply low_lateSwap (by omega); apply low_setRun (by omega); apply low_nextEntry (by omega); apply low_takeInput)
  with_reducible (assumption; apply low_setRun (by omega); assumption)

theorem low_goEvent {L : Nat} {s0 s : State} {a1} (hL : L ≤ 12304) (h : Low L s0 s) : Low L s0 (State.goEvent s a1) := by
  unfold State.goEvent
  split; with_reducible (apply low_waitEvent (by omega); assumption; assumption)

theorem low_execCutWaitEvt {L : Nat} {s0 s : State} {a0} (hL : L ≤ 12304) (h : Low L s0 s) : LowR L s0 (execCutWaitEvt a0 s) := by
  unfold execCutWaitEvt
  with_reducible apply lowR_inst; split
  with_reducible (apply lowR_next; apply low_goEvent (by omega); assumption; apply lowR_next; apply low_control (by omega); assumption)
  intro _; with_reducible (apply low_waitEvent (by omega); assumption)

theorem low_execCutEvent {L : Nat} {s0 s : State} {a0} (hL : L ≤ 12304) (h : Low L s0 s) : LowR L s0 (execCutEvent a0 s) := by
  unfold execCutEvent
  with_reducible (apply lowR_inst; apply lowR_next; apply low_control (by omega); assumption); intro _
  with_reducible (apply low_nextEntry (by omega); apply low_fire (by omega); assumption)

theorem low_cmdJigRestart {L : Nat} {s0 s : State} {a0} (hL : L ≤ 12304) (h : Low L s0 s) : LowV L s0 (cmdJigRestart a0 s) := by
  unfold cmdJigRestart
  split; dsimp only; with_reducible (apply lowV_ok; apply low_releaseHalves; apply low_setRun (by omega); apply low_setReg (by omega))
  with_reducible (apply low_setReg (by omega); apply low_goto (by omega); apply low_modJig; assumption; apply lowV_error)

theorem low_jigOn {L : Nat} {s0 s : State} {a1} (hL : L ≤ 12304) (h : Low L s0 s) : Low L s0 (State.jigOn s a1) := by
  unfold State.jigOn
  dsimp only
  with_reducible (apply low_halfReady (by omega); apply low_setRun (by omega); apply low_setReg (by omega); apply low_setReg (by omega))
  with_reducible (apply low_goto (by omega); apply low_modJig; assumption)

theorem low_jigOff {L : Nat} {s0 s : State} {a1} (hL : L ≤ 12304) (h : Low L s0 s) : Low L s0 (State.jigOff s a1) := by
  unfold State.jigOff
  dsimp only; with_reducible (apply low_setRun (by omega); apply low_each; apply low_modJig; assumption); intro _ _ _
  with_reducible (apply low_setHalf; assumption)

theorem low_jigDisabling {L : Nat} {s0 s : State} {a1} (hL : L ≤ 12304) (h : Low L s0 s) : Low L s0 (State.jigDisabling s a1) := by
  unfold State.jigDisabling
  with_reducible (apply low_releaseHalves; apply low_setRun (by omega); apply low_modJig; assumption)

theorem low_cutListLive {L : Nat} {s0 s : State} {a1 a2} (hL : L ≤ 12304) (h : Low L s0 s) : Low L s0 (State.cutListLive s a1 a2) := by
  unfold State.cutListLive
  split; with_reducible assumption; dsimp only; split; with_reducible (apply low_modJig; assumption); split
  with_reducible (apply low_modJig; apply low_modJig; assumption; apply low_swapList (by omega); apply low_modJig; apply low_modJig)
  with_reducible assumption

end Sys2Proof.Machine
end

