-- ==== Sys2Proof/Laws/LowTiles.lean ====
section
/-! SUPPORT. The lowest entry each definition of Machine/Tiles.lean may change (Low). -/

set_option Elab.async false

namespace Sys2Proof.Machine

set_option linter.unusedVariables false

theorem low_setTile {L : Nat} {s0 s : State} {a1 a2} (h : Low L s0 s) : Low L s0 (State.setTile s a1 a2) := by
  unfold State.setTile
  apply low_mk; with_reducible assumption

theorem low_setReseats {L : Nat} {s0 s : State} {a1 a2} (h : Low L s0 s) : Low L s0 (State.setReseats s a1 a2) := by
  unfold State.setReseats
  apply low_mk; with_reducible assumption

theorem low_pullReads {L : Nat} {s0 s : State} {a1} (hL : L ≤ 22528) (h : Low L s0 s) : Low L s0 (State.pullReads s a1) := by
  unfold State.pullReads
  split; split; with_reducible (assumption; apply low_each; assumption); intro _ _ _
  with_reducible (apply low_rankReads (by omega); assumption; apply low_each; assumption); intro _ _ _
  with_reducible (apply low_readRange (by omega); assumption)

theorem low_pullOrder {L : Nat} {s0 s : State} {a1} (hL : L ≤ 22528) (h : Low L s0 s) : Low L s0 (State.pullOrder s a1) := by
  unfold State.pullOrder
  with_reducible (apply low_releaseHalves; apply low_modOrder; apply low_pullReads (by omega); assumption)

theorem low_makeSpaceFor {L : Nat} {s0 s : State} {a1} (h : Low L s0 s) : Low L s0 (State.makeSpaceFor s a1) := by
  unfold State.makeSpaceFor
  split; with_reducible (assumption; apply low_setOrders; assumption)

theorem low_pullAhead {L : Nat} {s0 s : State} {a1} (hL : L ≤ 22528) (h : Low L s0 s) : Low L s0 (State.pullAhead s a1) := by
  unfold State.pullAhead
  split; split; with_reducible (assumption; apply low_pullOrder (by omega); assumption; assumption)

theorem low_commitOrder {L : Nat} {s0 s : State} {a1 a2} (hL : L ≤ 8704) (h : Low L s0 s) : Low L s0 (State.commitOrder s a1 a2) := by
  unfold State.commitOrder
  with_reducible (apply low_releaseHalves; apply low_inc64 (by omega); apply low_modOrder; assumption)

theorem low_dumpRead {L : Nat} {s0 s : State} {a1 a2 a3} (hL : L ≤ 8704) (h : Low L s0 s) : Low L s0 (State.dumpRead s a1 a2 a3) := by
  unfold State.dumpRead
  dsimp only; split; with_reducible (apply low_commitOrder (by omega); apply low_inc64 (by omega)); apply low_mk
  with_reducible apply low_setAcc; split; split; with_reducible apply low_inc64 (by omega); split
  with_reducible (apply low_readRange (by omega); apply low_granaryEcc (by omega); assumption; apply low_granaryEcc (by omega))
  with_reducible assumption; split
  with_reducible (apply low_readRange (by omega); apply low_granaryEcc (by omega); assumption; apply low_granaryEcc (by omega))
  with_reducible assumption; split; with_reducible apply low_inc64 (by omega); split
  with_reducible (apply low_readRange (by omega); apply low_granaryEcc (by omega); assumption; apply low_granaryEcc (by omega))
  with_reducible assumption; split
  with_reducible (apply low_readRange (by omega); apply low_granaryEcc (by omega); assumption; apply low_granaryEcc (by omega))
  with_reducible (assumption; apply low_commitOrder (by omega); apply low_inc64 (by omega)); apply low_mk; split
  with_reducible (apply low_setAcc; apply low_granaryEcc (by omega); assumption; apply low_granaryEcc (by omega); assumption)

theorem low_startOrder {L : Nat} {s0 s : State} {a1 a2 a3} (hL : L ≤ 8448) (h : Low L s0 s) : Low L s0 (State.startOrder s a1 a2 a3) := by
  unfold State.startOrder
  dsimp only; with_reducible (apply low_wakePort (by omega); apply low_pullAhead (by omega)); split
  with_reducible (apply low_commitOrder (by omega); apply low_clearBin; apply low_releaseHalves; apply low_modOrder); split
  with_reducible (assumption; apply low_pullOrder (by omega); apply low_makeSpaceFor; assumption); split; split; split
  with_reducible (apply low_releaseHalves; apply low_modOrder; assumption; apply low_dumpRead (by omega); apply low_releaseHalves)
  with_reducible (apply low_modOrder; assumption); split
  with_reducible (apply low_releaseHalves; apply low_modOrder; apply low_pullOrder (by omega); apply low_makeSpaceFor; assumption)
  with_reducible (apply low_dumpRead (by omega); apply low_releaseHalves; apply low_modOrder; apply low_pullOrder (by omega))
  with_reducible (apply low_makeSpaceFor; assumption; apply low_releaseHalves; apply low_modOrder); split
  with_reducible (assumption; apply low_pullOrder (by omega); apply low_makeSpaceFor; assumption)

theorem low_execWorkOrderStart {L : Nat} {s0 s : State} {a0 a1} (hL : L ≤ 8448) (h : Low L s0 s) : LowR L s0 (execWorkOrderStart a0 a1 s) := by
  unfold execWorkOrderStart
  with_reducible apply lowR_inst; split; with_reducible (apply lowR_next; assumption); split; split
  with_reducible (apply lowR_next; assumption; apply lowR_next; apply low_startOrder (by omega); assumption; apply lowR_next; assumption)

theorem low_execClassUYield {L : Nat} {s0 s : State} {a0} (hL : L ≤ 12288) (h : Low L s0 s) : LowR L s0 (execClassUYield a0 s) := by
  unfold execClassUYield
  with_reducible apply lowR_inst; split; with_reducible (apply lowR_next; assumption); split; split
  with_reducible (apply lowR_next; apply low_inc64 (by omega); apply low_modOrder; assumption; apply lowR_next; assumption)
  with_reducible (apply lowR_next; assumption)

theorem low_execPassOverflow {L : Nat} {s0 s : State} {a0} (hL : L ≤ 12288) (h : Low L s0 s) : LowR L s0 (execPassOverflow a0 s) := by
  unfold execPassOverflow
  with_reducible apply lowR_inst; split; split
  with_reducible (apply lowR_next; apply low_countE (by omega); apply low_inc64 (by omega); apply low_inc64 (by omega))
  with_reducible (apply low_modOrder; assumption; apply lowR_next; assumption; apply lowR_next; assumption)

theorem low_execPassComplete {L : Nat} {s0 s : State} {a0} (hL : L ≤ 12288) (h : Low L s0 s) : LowR L s0 (execPassComplete a0 s) := by
  unfold execPassComplete
  with_reducible apply lowR_inst; split; dsimp only; split; split; with_reducible (apply lowR_next; assumption; apply lowR_next); split
  with_reducible (apply low_faultDone (by omega); apply low_modOrder); split
  with_reducible (apply low_inc64 (by omega); apply low_setTile; assumption; apply low_setTile; assumption; apply low_modOrder); split
  with_reducible (apply low_inc64 (by omega); apply low_setTile; assumption; apply low_setTile; assumption; apply lowR_next; assumption)
  with_reducible (apply lowR_next; assumption)

theorem low_freeBank {L : Nat} {s0 s : State} {a1 a2} (h : Low L s0 s) : Low L s0 (State.freeBank s a1 a2) := by
  unfold State.freeBank
  dsimp only; with_reducible (apply low_setTile; assumption)

theorem low_foldBank {L : Nat} {s0 s : State} {a1 a2 a3} (hL : L ≤ 13312) (h : Low L s0 s) : Low L s0 (State.foldBank s a1 a2 a3) := by
  unfold State.foldBank
  dsimp only; split; with_reducible (apply low_inc32 (by omega); apply low_setAcc; apply low_setAcc; assumption); split
  with_reducible apply low_inc32 (by omega); split; with_reducible apply low_inc64 (by omega); split
  with_reducible apply low_inc64 (by omega); split
  with_reducible (apply low_inc64 (by omega); apply low_inc64 (by omega); apply low_inc64 (by omega); apply low_setAcc; assumption)
  with_reducible (apply low_inc64 (by omega); apply low_inc64 (by omega); apply low_setAcc; assumption); split
  with_reducible (apply low_inc64 (by omega); apply low_inc64 (by omega); apply low_inc64 (by omega); apply low_setAcc; assumption)
  with_reducible (apply low_inc64 (by omega); apply low_inc64 (by omega); apply low_setAcc; assumption); split
  with_reducible apply low_inc64 (by omega); split
  with_reducible (apply low_inc64 (by omega); apply low_inc64 (by omega); apply low_inc64 (by omega); apply low_setAcc; assumption)
  with_reducible (apply low_inc64 (by omega); apply low_inc64 (by omega); apply low_setAcc; assumption); split
  with_reducible (apply low_inc64 (by omega); apply low_inc64 (by omega); apply low_inc64 (by omega); apply low_setAcc; assumption)
  with_reducible (apply low_inc64 (by omega); apply low_inc64 (by omega); apply low_setAcc; assumption); split
  with_reducible apply low_inc64 (by omega); split; with_reducible apply low_inc64 (by omega); split
  with_reducible (apply low_inc64 (by omega); apply low_inc64 (by omega); apply low_inc64 (by omega); apply low_setAcc; assumption)
  with_reducible (apply low_inc64 (by omega); apply low_inc64 (by omega); apply low_setAcc; assumption); split
  with_reducible (apply low_inc64 (by omega); apply low_inc64 (by omega); apply low_inc64 (by omega); apply low_setAcc; assumption)
  with_reducible (apply low_inc64 (by omega); apply low_inc64 (by omega); apply low_setAcc; assumption); split
  with_reducible apply low_inc64 (by omega); split
  with_reducible (apply low_inc64 (by omega); apply low_inc64 (by omega); apply low_inc64 (by omega); apply low_setAcc; assumption)
  with_reducible (apply low_inc64 (by omega); apply low_inc64 (by omega); apply low_setAcc; assumption); split
  with_reducible (apply low_inc64 (by omega); apply low_inc64 (by omega); apply low_inc64 (by omega); apply low_setAcc; assumption)
  with_reducible (apply low_inc64 (by omega); apply low_inc64 (by omega); apply low_setAcc; assumption)

theorem low_foldEnd {L : Nat} {s0 s : State} {a1 a2 a3 a4} (hL : L ≤ 8704) (h : Low L s0 s) : Low L s0 (State.foldEnd s a1 a2 a3 a4) := by
  unfold State.foldEnd
  with_reducible (apply low_pullAhead (by omega); apply low_commitOrder (by omega); apply low_freeBank; apply low_foldBank (by omega))
  with_reducible assumption

theorem low_foldStep {L : Nat} {s0 s : State} {a1 a2 a3 a4} (hL : L ≤ 8704) (h : Low L s0 s) : Low L s0 (State.foldStep s a1 a2 a3 a4) := by
  unfold State.foldStep
  split; with_reducible (apply low_inc64 (by omega); apply low_freeBank; assumption); dsimp only; split; split; split
  with_reducible (apply low_modOrder; apply low_granaryEcc (by omega); assumption; apply low_inc64 (by omega); apply low_modOrder)
  with_reducible (apply low_setTile; apply low_granaryEcc (by omega); assumption; apply low_foldEnd (by omega))
  with_reducible (apply low_granaryEcc (by omega); assumption); split; split
  with_reducible (apply low_modOrder; apply low_granaryEcc (by omega); assumption; apply low_inc64 (by omega); apply low_modOrder)
  with_reducible (apply low_setTile; apply low_granaryEcc (by omega); assumption; apply low_foldEnd (by omega))
  with_reducible (apply low_granaryEcc (by omega); assumption)

theorem low_execFoldComplete {L : Nat} {s0 s : State} {a0 a1} (hL : L ≤ 8704) (h : Low L s0 s) : LowR L s0 (execFoldComplete a0 a1 s) := by
  unfold execFoldComplete
  with_reducible apply lowR_inst; split
  with_reducible (apply lowR_next; apply low_foldStep (by omega); assumption; apply lowR_next; assumption)

theorem low_spillHalf {L : Nat} {s0 s : State} {a1 a2 a3 a4 a5} (hL : L ≤ 13312) (h : Low L s0 s) : Low L s0 (State.spillHalf s a1 a2 a3 a4 a5) := by
  unfold State.spillHalf
  dsimp only; split; split; split; with_reducible apply low_setAcc; split
  with_reducible (apply low_inc64 (by omega); apply low_store (by omega); apply low_readRange (by omega); assumption)
  with_reducible (apply low_store (by omega); apply low_readRange (by omega); assumption; apply low_setAcc)
  with_reducible (apply low_readRange (by omega); assumption); split; with_reducible apply low_setAcc; split
  with_reducible (apply low_inc64 (by omega); apply low_store (by omega); assumption; apply low_store (by omega); assumption)
  with_reducible (apply low_setAcc; assumption; apply low_setAcc); split
  with_reducible (apply low_readRange (by omega); assumption; assumption)

theorem low_execSpillComplete {L : Nat} {s0 s : State} {a0 a1} (hL : L ≤ 8704) (h : Low L s0 s) : LowR L s0 (execSpillComplete a0 a1 s) := by
  unfold execSpillComplete
  with_reducible apply lowR_inst; split; with_reducible (apply lowR_next; assumption); dsimp only; split
  with_reducible (apply lowR_next; apply low_foldEnd (by omega); apply low_setTile; apply low_spillHalf (by omega))
  with_reducible (apply low_granaryEcc (by omega); assumption; apply lowR_next; apply low_inc64 (by omega); apply low_freeBank)
  with_reducible (apply low_setTile; apply low_spillHalf (by omega); apply low_granaryEcc (by omega); assumption)

theorem low_execWorkOrderComplete {L : Nat} {s0 s : State} {a0} (hL : L ≤ 12288) (h : Low L s0 s) : LowR L s0 (execWorkOrderComplete a0 s) := by
  unfold execWorkOrderComplete
  with_reducible apply lowR_inst; split; dsimp only; split
  with_reducible (apply lowR_next; apply low_inc64 (by omega); apply low_modOrder; assumption; apply lowR_next; apply low_releaseHalves)
  with_reducible (apply low_inc64 (by omega); apply low_setOrders; assumption; apply lowR_next; assumption)

theorem low_showBay {L : Nat} {s0 s : State} {a1} (hL : L ≤ 8448) (h : Low L s0 s) : Low L s0 (State.showBay s a1) := by
  unfold State.showBay
  dsimp only
  with_reducible (apply low_setReg (by omega); apply low_setReg (by omega); apply low_setReg (by omega); apply low_setReg (by omega))
  with_reducible assumption

theorem low_setTileState {L : Nat} {s0 s : State} {a1 a2 a3 a4} (hL : L ≤ 8704) (h : Low L s0 s) : Low L s0 (State.setTileState s a1 a2 a3 a4) := by
  unfold State.setTileState
  with_reducible (apply low_setReg (by omega); apply low_setReg (by omega); apply low_setReg (by omega); assumption)

theorem low_retireTile {L : Nat} {s0 s : State} {a1 a2 a3} (hL : L ≤ 8704) (h : Low L s0 s) : Low L s0 (State.retireTile s a1 a2 a3) := by
  unfold State.retireTile
  with_reducible (apply low_setTileState (by omega); apply low_setTile; assumption)

theorem low_setPlacement {L : Nat} {s0 s : State} {a1 a2 a3} (hL : L ≤ 8464) (h : Low L s0 s) : Low L s0 (State.setPlacement s a1 a2 a3) := by
  unfold State.setPlacement
  with_reducible (apply low_setReg (by omega); assumption)

theorem low_bumpEpoch {L : Nat} {s0 s : State} {a1} (hL : L ≤ 8464) (h : Low L s0 s) : Low L s0 (State.bumpEpoch s a1) := by
  unfold State.bumpEpoch
  with_reducible (apply low_setPlacement (by omega); assumption)

theorem low_returnOrders {L : Nat} {s0 s : State} {a1} (h : Low L s0 s) : Low L s0 (State.returnOrders s a1) := by
  unfold State.returnOrders
  dsimp only; with_reducible (apply low_setOrders; assumption)

theorem low_discardOrders {L : Nat} {s0 s : State} {a1} (hL : L ≤ 8448) (h : Low L s0 s) : Low L s0 (State.discardOrders s a1) := by
  unfold State.discardOrders
  dsimp only; with_reducible (apply low_wakePort (by omega); apply low_each; apply low_each; apply low_setOrders; assumption); intro _ _ _
  split; with_reducible apply low_inc64 (by omega); apply low_mk
  with_reducible (apply low_inc32 (by omega); apply low_inc64 (by omega); assumption; apply low_inc32 (by omega))
  with_reducible (apply low_inc64 (by omega); assumption); intro _ _ _; with_reducible (apply low_releaseHalves; assumption)

theorem low_unplace {L : Nat} {s0 s : State} {a1 a2 a3} (hL : L ≤ 8448) (h : Low L s0 s) : Low L s0 (State.unplace s a1 a2 a3) := by
  unfold State.unplace
  dsimp only; with_reducible (apply low_showBay (by omega); apply low_faultDone (by omega); apply low_fire (by omega))
  with_reducible (apply low_discardOrders (by omega); apply low_retireTile (by omega); apply low_setPlacement (by omega); assumption)

theorem low_startReseat {L : Nat} {s0 s : State} {bay fuel : Nat} (hL : L ≤ 8448) (h : Low L s0 s) : Low L s0 (s.startReseat bay fuel) := by
  induction fuel generalizing s with
  | zero => exact h
  | succ n ih =>
    unfold State.startReseat
    split
    · exact (low_setReg (by omega)) h
    · split
      · exact h
      · split
        · exact (low_setReg (by omega)) (low_setReseats h)
        · apply ih
          split
          · exact (low_unplace (by omega)) (low_setReseats h)
          · exact low_setReseats h

theorem low_failServing {L : Nat} {s0 s : State} {a1 a2 a3} (hL : L ≤ 8448) (h : Low L s0 s) : Low L s0 (State.failServing s a1 a2 a3) := by
  unfold State.failServing
  dsimp only
  with_reducible (apply low_startReseat (by omega); apply low_setReseats; apply low_returnOrders; apply low_bumpEpoch (by omega)); split
  with_reducible (apply low_faultDone (by omega); assumption; assumption)

theorem low_failIdle {L : Nat} {s0 s : State} {a1 a2} (hL : L ≤ 8448) (h : Low L s0 s) : Low L s0 (State.failIdle s a1 a2) := by
  unfold State.failIdle
  dsimp only; with_reducible (apply low_startReseat (by omega); apply low_showBay (by omega); apply low_setReseats; apply low_each)
  with_reducible (apply low_faultDone (by omega); apply low_setTileState (by omega); assumption); intro _ _ _
  with_reducible (apply low_bumpEpoch (by omega); assumption)

theorem low_failAs {L : Nat} {s0 s : State} {a1 a2 a3} (hL : L ≤ 8448) (h : Low L s0 s) : Low L s0 (State.failAs s a1 a2 a3) := by
  unfold State.failAs
  split; with_reducible (apply low_failServing (by omega); assumption; apply low_failIdle (by omega); assumption)

theorem low_tileFail {L : Nat} {s0 s : State} {a1 a2} (hL : L ≤ 8448) (h : Low L s0 s) : Low L s0 (State.tileFail s a1 a2) := by
  unfold State.tileFail
  dsimp only; with_reducible (apply low_failAs (by omega); apply low_faultStart (by omega); assumption)

theorem low_execTileFail {L : Nat} {s0 s : State} {a0 a1} (hL : L ≤ 8448) (h : Low L s0 s) : LowR L s0 (execTileFail a0 a1 s) := by
  unfold execTileFail
  with_reducible apply lowR_inst; split
  with_reducible (apply lowR_next; apply low_tileFail (by omega); assumption; apply lowR_next; assumption)

theorem low_execResidueMismatch {L : Nat} {s0 s : State} {a0} (hL : L ≤ 8448) (h : Low L s0 s) : LowR L s0 (execResidueMismatch a0 s) := by
  unfold execResidueMismatch
  with_reducible apply lowR_inst; split; split; with_reducible (apply lowR_next; assumption); split
  with_reducible (apply lowR_next; apply low_tileFail (by omega); assumption); split
  with_reducible (apply lowR_next; apply low_tileFail (by omega); assumption); dsimp only
  with_reducible (apply lowR_next; apply low_countE (by omega); apply low_inc64 (by omega); apply low_faultStart (by omega))
  with_reducible (apply low_modOrder; apply low_setTile; assumption; apply lowR_next; assumption)

theorem low_copyTile {L : Nat} {s0 s : State} {a1 a2} (h : Low L s0 s) : Low L s0 (State.copyTile s a1 a2) := by
  unfold State.copyTile
  dsimp only; apply low_mk; with_reducible assumption

theorem low_voidBins {L : Nat} {s0 s : State} {a1} (h : Low L s0 s) : Low L s0 (State.voidBins s a1) := by
  unfold State.voidBins
  with_reducible (apply low_each; assumption); intro _ _ _; with_reducible (apply low_setAcc; assumption)

theorem low_oweWeights {L : Nat} {s0 s : State} {a1} (h : Low L s0 s) : Low L s0 (State.oweWeights s a1) := by
  unfold State.oweWeights
  dsimp only; apply low_mk; with_reducible assumption

theorem low_reseatEnd {L : Nat} {s0 s : State} {a1 a2 a3 a4} (hL : L ≤ 8448) (h : Low L s0 s) : Low L s0 (State.reseatEnd s a1 a2 a3 a4) := by
  unfold State.reseatEnd
  dsimp only
  with_reducible (apply low_startReseat (by omega); apply low_showBay (by omega); apply low_fire (by omega); apply low_inc32 (by omega))
  with_reducible apply low_setReseats; split
  with_reducible (apply low_faultDone (by omega); apply low_retireTile (by omega); apply low_setPlacement (by omega))
  with_reducible (apply low_setTileState (by omega); apply low_copyTile; assumption; apply low_oweWeights)
  with_reducible (apply low_setPlacement (by omega); apply low_setTileState (by omega); apply low_voidBins; assumption)

theorem low_execReseatComplete {L : Nat} {s0 s : State} {a0} (hL : L ≤ 8448) (h : Low L s0 s) : LowR L s0 (execReseatComplete a0 s) := by
  unfold execReseatComplete
  with_reducible apply lowR_inst; split; split; split
  with_reducible (apply lowR_next; assumption; apply lowR_next; apply low_reseatEnd (by omega); assumption; apply lowR_next; assumption)
  with_reducible (apply lowR_next; assumption)

theorem low_cmdRetest {L : Nat} {s0 s : State} {a0} (h : Low L s0 s) : LowV L s0 (cmdRetest a0 s) := by
  unfold cmdRetest
  with_reducible apply lowV_accept; apply low_mk; with_reducible assumption

theorem low_execRetestComplete {L : Nat} {s0 s : State} {a0 a1} (hL : L ≤ 8448) (h : Low L s0 s) : LowR L s0 (execRetestComplete a0 a1 s) := by
  unfold execRetestComplete
  with_reducible apply lowR_inst; split; dsimp only; split; split
  with_reducible (apply lowR_next; apply low_startReseat (by omega); apply low_setReseats; apply low_bumpEpoch (by omega))
  with_reducible (apply low_showBay (by omega); apply low_setTileState (by omega)); refine low_mk_nv ?_
  with_reducible (assumption; apply lowR_next; apply low_showBay (by omega); apply low_setTileState (by omega)); refine low_mk_nv ?_
  with_reducible (assumption; apply lowR_next; apply low_setReg (by omega)); apply low_mk
  with_reducible (assumption; apply lowR_next; assumption)

theorem low_xarrayAfter {L : Nat} {s0 s : State} {a1 a2 a3} (h : Low L s0 s) : Low L s0 (xarrayAfter s a1 a2 a3) := by
  unfold xarrayAfter
  split; dsimp only; with_reducible (apply low_each; assumption); intro _ _ _; split
  with_reducible (apply low_clearBin; assumption; assumption; assumption)

end Sys2Proof.Machine
end

