-- ==== Sys2Proof/Laws/LowOutputs.lean ====
section
/-! SUPPORT. The lowest entry each definition of Machine/Outputs.lean may change (Low). -/

set_option Elab.async false

namespace Sys2Proof.Machine

set_option linter.unusedVariables false

theorem low_modX {L : Nat} {s0 s : State} {a1} (h : Low L s0 s) : Low L s0 (State.modX s a1) := by
  unfold State.modX
  apply low_mk; with_reducible assumption

theorem low_leavePath {L : Nat} {s0 s : State} {a1 a2} (hL : L ≤ 8704) (h : Low L s0 s) : Low L s0 (State.leavePath s a1 a2) := by
  unfold State.leavePath
  dsimp only; split; split
  with_reducible (apply low_dumpRead (by omega); apply low_modX; assumption; apply low_modX; assumption; apply low_modX; assumption)

theorem low_execDumpRecordStaged {L : Nat} {s0 s : State} {a0} (hL : L ≤ 8704) (h : Low L s0 s) : LowR L s0 (execDumpRecordStaged a0 s) := by
  unfold execDumpRecordStaged
  split; with_reducible (apply lowR_next; assumption); split
  with_reducible (apply lowR_next; apply low_inc64 (by omega); apply low_leavePath (by omega); assumption); split
  with_reducible (apply lowR_next; assumption); dsimp only
  with_reducible (apply lowR_next; apply low_leavePath (by omega); apply low_store (by omega); apply low_modX; assumption)

theorem low_freeStaged {L : Nat} {s0 s : State} {a1} (h : Low L s0 s) : Low L s0 (State.freeStaged s a1) := by
  unfold State.freeStaged
  with_reducible (apply low_modX; assumption)

theorem low_readStaged {L : Nat} {s0 s : State} {a1} (hL : L ≤ 22528) (h : Low L s0 s) : Low L s0 (State.readStaged s a1) := by
  unfold State.readStaged
  with_reducible (apply low_readRange (by omega); assumption)

theorem low_sendFragments {L : Nat} {s0 s : State} {a1 a2 a3} (hL : L ≤ 9984) (h : Low L s0 s) : Low L s0 (State.sendFragments s a1 a2 a3) := by
  unfold State.sendFragments
  dsimp only; with_reducible (apply low_setStream (by omega); assumption)

theorem low_reformFragments {L : Nat} {s0 s : State} (hL : L ≤ 9984) (h : Low L s0 s) : Low L s0 (State.reformFragments s) := by
  unfold State.reformFragments
  with_reducible (apply low_each; assumption); intro _ _ _; split; split; split; dsimp only
  with_reducible (apply low_setStream (by omega); assumption; assumption; assumption; assumption)

theorem low_execRecordFragmentsSend {L : Nat} {s0 s : State} {a0} (hL : L ≤ 9984) (h : Low L s0 s) : LowR L s0 (execRecordFragmentsSend a0 s) := by
  unfold execRecordFragmentsSend
  with_reducible apply lowR_inst; split; with_reducible (apply lowR_next; assumption); split; with_reducible (apply lowR_next; assumption)
  split; with_reducible (apply lowR_next; apply low_inc64 (by omega); apply low_freeStaged; assumption; apply lowR_next; assumption)
  dsimp only; split
  with_reducible (apply lowR_next; assumption; apply lowR_next; apply low_sendFragments (by omega); apply low_readStaged (by omega))
  with_reducible assumption

theorem low_formatVoltage {L : Nat} {s0 s : State} {a1 a2 a3 a4} (hL : L ≤ 9984) (h : Low L s0 s) : Low L s0 (State.formatVoltage s a1 a2 a3 a4) := by
  unfold State.formatVoltage
  dsimp only
  with_reducible (apply low_inc64 (by omega); apply low_inc64 (by omega); apply low_streamPut (by omega); apply low_streamPut (by omega))
  with_reducible assumption

theorem low_feedMonitors {L : Nat} {s0 s : State} {a1 a2 a3} (hL : L ≤ 18432) (h : Low L s0 s) : Low L s0 (State.feedMonitors s a1 a2 a3) := by
  unfold State.feedMonitors
  with_reducible (apply low_each; assumption); intro _ _ _; with_reducible (apply low_each; assumption); intro _ _ _
  with_reducible (apply low_winPush (by omega); assumption)

theorem low_closePower {L : Nat} {s0 s : State} {a1 a2 a3} (hL : L ≤ 9984) (h : Low L s0 s) : Low L s0 (State.closePower s a1 a2 a3) := by
  unfold State.closePower
  dsimp only; with_reducible apply low_feedMonitors (by omega); split; split
  with_reducible (apply low_each; apply low_inc32 (by omega); apply low_modX; assumption); intro _ _ _
  with_reducible (apply low_streamPut (by omega); assumption; apply low_inc32 (by omega); apply low_modX; assumption); split
  with_reducible (apply low_each; apply low_modX; assumption); intro _ _ _
  with_reducible (apply low_streamPut (by omega); assumption; apply low_modX; assumption)

theorem low_closeAll {L : Nat} {s0 s : State} {a1} (hL : L ≤ 9984) (h : Low L s0 s) : Low L s0 (State.closeAll s a1) := by
  unfold State.closeAll
  with_reducible (apply low_each; assumption); intro _ _ _; with_reducible (apply low_closePower (by omega); assumption)

theorem low_contribute {L : Nat} {s0 s : State} {a1 a2 a3} (hL : L ≤ 9984) (h : Low L s0 s) : Low L s0 (State.contribute s a1 a2 a3) := by
  unfold State.contribute
  dsimp only; split; split
  with_reducible (apply low_closePower (by omega); apply low_modX; assumption; apply low_modX; assumption; apply low_modX; assumption)

theorem low_openPower {L : Nat} {s0 s : State} {a1 a2 a3} (hL : L ≤ 9984) (h : Low L s0 s) : Low L s0 (State.openPower s a1 a2 a3) := by
  unfold State.openPower
  dsimp only; with_reducible (apply low_modX; apply low_each; assumption); intro _ _ _
  with_reducible (apply low_closePower (by omega); assumption)

theorem low_formatPower {L : Nat} {s0 s : State} {a1 a2 a3} (hL : L ≤ 9984) (h : Low L s0 s) : Low L s0 (State.formatPower s a1 a2 a3) := by
  unfold State.formatPower
  split; with_reducible (apply low_closeAll (by omega); assumption); dsimp only; split
  with_reducible (apply low_inc64 (by omega); assumption); split
  with_reducible (apply low_contribute (by omega); apply low_inc64 (by omega); assumption); split
  with_reducible (apply low_contribute (by omega); apply low_openPower (by omega); apply low_inc64 (by omega); assumption)
  with_reducible (apply low_inc32 (by omega); assumption)

theorem low_formatRecord {L : Nat} {s0 s : State} {a1 a2 a3 a4} (hL : L ≤ 9984) (h : Low L s0 s) : Low L s0 (State.formatRecord s a1 a2 a3 a4) := by
  unfold State.formatRecord
  dsimp only; split; with_reducible (apply low_inc32 (by omega); assumption); split; with_reducible apply low_formatPower (by omega)
  split; with_reducible apply low_formatVoltage (by omega); split; with_reducible (assumption; apply low_inc64 (by omega); assumption)
  split; with_reducible (assumption; apply low_inc64 (by omega); assumption); split; with_reducible apply low_formatVoltage (by omega)
  split; with_reducible (assumption; apply low_inc64 (by omega); assumption); split
  with_reducible (assumption; apply low_inc64 (by omega); assumption)

theorem low_execFormatRecord {L : Nat} {s0 s : State} {a0} (hL : L ≤ 9984) (h : Low L s0 s) : LowR L s0 (execFormatRecord a0 s) := by
  unfold execFormatRecord
  with_reducible apply lowR_inst; split; with_reducible (apply lowR_next; assumption); split; with_reducible (apply lowR_next; assumption)
  dsimp only; split; split
  with_reducible (apply lowR_next; apply low_freeStaged; apply low_formatRecord (by omega); apply low_readStaged (by omega); assumption)
  with_reducible (apply lowR_next; assumption; apply lowR_next; apply low_inc64 (by omega); apply low_freeStaged; assumption)
  with_reducible (apply lowR_next; assumption)

theorem low_formatterTurnsOff {L : Nat} {s0 s : State} (hL : L ≤ 9984) (h : Low L s0 s) : Low L s0 (State.formatterTurnsOff s) := by
  unfold State.formatterTurnsOff
  with_reducible (apply low_modX; apply low_each; assumption); intro _ _ _; with_reducible (apply low_closeAll (by omega); assumption)

theorem low_keepWeights {L : Nat} {s0 s : State} {a1 a2 a3} (hL : L ≤ 22529) (h : Low L s0 s) : Low L s0 (State.keepWeights s a1 a2 a3) := by
  unfold State.keepWeights
  split; with_reducible (assumption; apply low_store (by omega); assumption)

theorem low_oweLoads {L : Nat} {s0 s : State} {a1 a2} (h : Low L s0 s) : Low L s0 (State.oweLoads s a1 a2) := by
  unfold State.oweLoads
  with_reducible (apply low_modX; assumption)

theorem low_weightsLive {L : Nat} {s0 s : State} {a1 a2} (hL : L ≤ 22529) (h : Low L s0 s) : Low L s0 (State.weightsLive s a1 a2) := by
  unfold State.weightsLive
  with_reducible (apply low_oweLoads; apply low_keepWeights (by omega); assumption)

theorem low_moveWeights {L : Nat} {s0 s : State} (hL : L ≤ 22529) (h : Low L s0 s) : Low L s0 (State.moveWeights s) := by
  unfold State.moveWeights
  with_reducible (apply low_each; assumption); intro _ _ _; dsimp only; split
  with_reducible (apply low_keepWeights (by omega); apply low_keepWeights (by omega); assumption; apply low_keepWeights (by omega))
  with_reducible assumption

theorem low_loadSlots {L : Nat} {s0 s : State} {a1 a2} (hL : L ≤ 14336) (h : Low L s0 s) : Low L s0 (State.loadSlots s a1 a2) := by
  unfold State.loadSlots
  dsimp only; with_reducible (apply low_each; assumption); intro _ _ _; split; split
  with_reducible (apply low_readRange (by omega); assumption; apply low_inc64 (by omega); apply low_modX; apply low_readRange (by omega))
  with_reducible assumption; split
  with_reducible (apply low_readRange (by omega); assumption; apply low_inc64 (by omega); apply low_modX; apply low_readRange (by omega))
  with_reducible assumption

theorem low_execWeightLoad {L : Nat} {s0 s : State} {a0} (hL : L ≤ 14336) (h : Low L s0 s) : LowR L s0 (execWeightLoad a0 s) := by
  unfold execWeightLoad
  with_reducible apply lowR_inst; split; with_reducible (apply lowR_next; assumption); dsimp only; split
  with_reducible (apply lowR_next; assumption); split; split
  with_reducible (apply lowR_next; assumption; apply lowR_next; apply low_loadSlots (by omega); apply low_modX; assumption)
  with_reducible (apply lowR_next; assumption)

theorem low_monitorEnabling {L : Nat} {s0 s : State} {a1} (hL : L ≤ 18448) (h : Low L s0 s) : Low L s0 (State.monitorEnabling s a1) := by
  unfold State.monitorEnabling
  with_reducible (apply low_takeChannel (by omega); assumption)

theorem low_monitorOff {L : Nat} {s0 s : State} {a1} (hL : L ≤ 14592) (h : Low L s0 s) : Low L s0 (State.monitorOff s a1) := by
  unfold State.monitorOff
  with_reducible (apply low_reachOff (by omega); apply low_leaveChannel (by omega); assumption); intro _ _
  with_reducible (apply low_monitorEnabling (by omega); assumption)

theorem low_setHoldoff {L : Nat} {s0 s : State} {a1 a2} (h : Low L s0 s) : Low L s0 (State.setHoldoff s a1 a2) := by
  unfold State.setHoldoff
  apply low_mk; with_reducible assumption

theorem low_crossing {L : Nat} {s0 s : State} {a1 a2} (hL : L ≤ 9984) (h : Low L s0 s) : Low L s0 (State.crossing s a1 a2) := by
  unfold State.crossing
  dsimp only; split; split
  with_reducible (apply low_setReg (by omega); apply low_setHoldoff; apply low_fireAt (by omega); apply low_inc32 (by omega); assumption)
  with_reducible (apply low_streamPut (by omega); apply low_setReg (by omega); apply low_setHoldoff; apply low_fireAt (by omega))
  with_reducible (apply low_inc32 (by omega); assumption); split
  with_reducible (apply low_setReg (by omega); apply low_setHoldoff; apply low_fireAt (by omega); apply low_inc32 (by omega); assumption)
  with_reducible (apply low_streamPut (by omega); apply low_setReg (by omega); apply low_setHoldoff; apply low_fireAt (by omega))
  with_reducible (apply low_inc32 (by omega); assumption)

theorem low_compareValue {L : Nat} {s0 s : State} {a1 a2} (hL : L ≤ 9984) (h : Low L s0 s) : Low L s0 (State.compareValue s a1 a2) := by
  unfold State.compareValue
  dsimp only; split; split
  with_reducible (apply low_crossing (by omega); apply low_setReg (by omega); assumption; apply low_setReg (by omega); assumption); split
  split
  with_reducible (apply low_setReg (by omega); apply low_setHoldoff; apply low_inc32 (by omega); apply low_setReg (by omega); assumption)
  with_reducible (apply low_setHoldoff; apply low_inc32 (by omega); apply low_setReg (by omega); assumption); split
  with_reducible (apply low_setReg (by omega); apply low_setHoldoff; apply low_setReg (by omega); assumption; apply low_setHoldoff)
  with_reducible (apply low_setReg (by omega); assumption); split
  with_reducible (apply low_setReg (by omega); apply low_setReg (by omega); assumption; apply low_setReg (by omega); assumption)

theorem low_monitorValue {L : Nat} {s0 s : State} {a1 a2} (hL : L ≤ 9984) (h : Low L s0 s) : Low L s0 (State.monitorValue s a1 a2) := by
  unfold State.monitorValue
  dsimp only; split
  with_reducible (apply low_compareValue (by omega); apply low_setHoldoff; apply low_setReg (by omega); apply low_setReg (by omega))
  with_reducible (assumption; apply low_compareValue (by omega); assumption; apply low_monitorOff (by omega); assumption)
  with_reducible (apply low_monitorOff (by omega); assumption; assumption)

theorem low_execWinnowOutput {L : Nat} {s0 s : State} (hL : L ≤ 9984) (h : Low L s0 s) : LowR L s0 (execWinnowOutput s) := by
  unfold execWinnowOutput
  split; with_reducible (apply lowR_next; assumption); dsimp only; with_reducible apply lowR_next; split
  with_reducible apply low_monitorValue (by omega); apply low_mk; with_reducible assumption; apply low_mk; with_reducible assumption

theorem low_outputsAfter {L : Nat} {s0 s : State} {a1 a2} (hL : L ≤ 9984) (h : Low L s0 s) : Low L s0 (outputsAfter s a1 a2) := by
  unfold outputsAfter
  split; with_reducible (apply low_reformFragments (by omega); assumption); split
  with_reducible (apply low_moveWeights (by omega); assumption); split; with_reducible (apply low_oweLoads; assumption; assumption)

end Sys2Proof.Machine
end

