-- ==== Sys2Proof/Laws/LowDovetail.lean ====
section
/-! SUPPORT. The lowest entry each definition of Machine/Dovetail.lean may change (Low). -/

set_option Elab.async false

namespace Sys2Proof.Machine

set_option linter.unusedVariables false

theorem low_modDove {L : Nat} {s0 s : State} {a1} (h : Low L s0 s) : Low L s0 (State.modDove s a1) := by
  unfold State.modDove
  apply low_mk; with_reducible assumption

theorem low_doveEnabling {L : Nat} {s0 s : State} (hL : L ≤ 17408) (h : Low L s0 s) : Low L s0 (State.doveEnabling s) := by
  unfold State.doveEnabling
  dsimp only; with_reducible (apply low_modDove; apply low_each; apply low_setReg (by omega); assumption); intro _ _ _
  with_reducible (apply low_setReg (by omega); apply low_setReg (by omega); assumption)

theorem low_applyCorr {L : Nat} {s0 s : State} {a1} (hL : L ≤ 17424) (h : Low L s0 s) : Low L s0 (State.applyCorr s a1) := by
  unfold State.applyCorr
  dsimp only; with_reducible (apply low_modDove; apply low_each; assumption); intro _ _ _
  with_reducible (apply low_setReg (by omega); apply low_setReg (by omega); assumption)

theorem low_doveBoundary {L : Nat} {s0 s : State} {a1 a2} (hL : L ≤ 17408) (h : Low L s0 s) : Low L s0 (State.doveBoundary s a1 a2) := by
  unfold State.doveBoundary
  dsimp only; with_reducible (apply low_each; apply low_applyCorr (by omega); assumption); intro _ _ _
  with_reducible (apply low_setReg (by omega); apply low_setReg (by omega)); split; split
  with_reducible (apply low_inc32 (by omega); assumption; assumption); split; with_reducible apply low_inc32 (by omega); split
  with_reducible (apply low_inc32 (by omega); assumption; assumption; apply low_inc32 (by omega)); split
  with_reducible (apply low_inc32 (by omega); assumption; assumption)

theorem low_fifoPut {L : Nat} {s0 s : State} {a1 a2 a3} (hL : L ≤ 22529) (h : Low L s0 s) : Low L s0 (State.fifoPut s a1 a2 a3) := by
  unfold State.fifoPut
  with_reducible (apply low_modCam; apply low_store (by omega); assumption)

theorem low_regLine {L : Nat} {s0 s : State} {a1 a2 a3} (hL : L ≤ 22529) (h : Low L s0 s) : Low L s0 (State.regLine s a1 a2 a3) := by
  unfold State.regLine
  dsimp only; split; split; split; with_reducible (apply low_store (by omega); assumption; assumption; assumption; apply low_each); split
  split; with_reducible (apply low_store (by omega); assumption; assumption; assumption); intro _ _ _; split
  with_reducible (apply low_store (by omega); assumption; assumption)

theorem low_roundStart {L : Nat} {s0 s : State} {a1 a2} (hL : L ≤ 17408) (h : Low L s0 s) : Low L s0 (State.roundStart s a1 a2) := by
  unfold State.roundStart
  dsimp only; split; with_reducible assumption; split; split; with_reducible (apply low_inc32 (by omega); apply low_each; assumption)
  intro _ _ _
  with_reducible (apply low_inc32 (by omega); assumption; apply low_each; apply low_each; apply low_modDove; apply low_inc64 (by omega))
  with_reducible assumption; intro _ _ _; with_reducible (apply low_store (by omega); assumption); intro _ _ _
  with_reducible (apply low_each; assumption); intro _ _ _; with_reducible (apply low_regLine (by omega); assumption); split
  with_reducible (apply low_inc32 (by omega); apply low_each; assumption); intro _ _ _
  with_reducible (apply low_inc32 (by omega); assumption; apply low_each; apply low_each; apply low_modDove; apply low_inc64 (by omega))
  with_reducible assumption; intro _ _ _; with_reducible (apply low_store (by omega); assumption); intro _ _ _
  with_reducible (apply low_each; assumption); intro _ _ _; with_reducible (apply low_regLine (by omega); assumption)

theorem low_regFeed {L : Nat} {s0 s : State} {a1 a2} (hL : L ≤ 22529) (h : Low L s0 s) : Low L s0 (State.regFeed s a1 a2) := by
  unfold State.regFeed
  split; split; with_reducible (assumption; apply low_each; assumption); intro _ _ _
  with_reducible (apply low_regLine (by omega); assumption; assumption)

theorem low_execStageBLine {L : Nat} {s0 s : State} {a0} (hL : L ≤ 16385) (h : Low L s0 s) : LowR L s0 (execStageBLine a0 s) := by
  unfold execStageBLine
  with_reducible apply lowR_inst; split; dsimp only; with_reducible apply lowR_next; split
  with_reducible (apply low_stageB (by omega); apply low_modFront; assumption; apply low_regFeed (by omega))
  with_reducible (apply low_fifoPut (by omega); apply low_stageB (by omega); apply low_modFront; assumption; apply lowR_next; assumption)

theorem low_execRegReady {L : Nat} {s0 s : State} (hL : L ≤ 27200) (h : Low L s0 s) : LowR L s0 (execRegReady s) := by
  unfold execRegReady
  split; dsimp only; split
  with_reducible (apply lowR_next; apply low_fire (by omega); apply low_modDove; assumption; apply lowR_next; assumption)
  with_reducible (apply lowR_next; assumption)

theorem low_regCopied {L : Nat} {s0 s : State} (hL : L ≤ 22529) (h : Low L s0 s) : Low L s0 (State.regCopied s) := by
  unfold State.regCopied
  split; dsimp only; split
  with_reducible (apply low_fire (by omega); apply low_store (by omega); apply low_modDove; assumption; apply low_modDove; assumption)
  with_reducible assumption

theorem low_execRegRecordTake {L : Nat} {s0 s : State} (hL : L ≤ 17408) (h : Low L s0 s) : LowR L s0 (execRegRecordTake s) := by
  unfold execRegRecordTake
  split; with_reducible (apply lowR_next; assumption); split; with_reducible (apply lowR_next; assumption); dsimp only; split
  with_reducible (apply lowR_next; apply low_regCopied (by omega); apply low_store (by omega); apply low_freeStaged)
  with_reducible (apply low_readStaged (by omega); assumption; apply lowR_next; apply low_inc32 (by omega); apply low_freeStaged)
  with_reducible (apply low_readStaged (by omega); assumption)

theorem low_takeUpdate {L : Nat} {s0 s : State} {a1 a2} (h : Low L s0 s) : Low L s0 (State.takeUpdate s a1 a2) := by
  unfold State.takeUpdate
  with_reducible (apply low_each; assumption); intro _ _ _; dsimp only; with_reducible (apply low_modDove; assumption)

theorem low_doveShift {L : Nat} {s0 s : State} (hL : L ≤ 17408) (h : Low L s0 s) : Low L s0 (State.doveShift s) := by
  unfold State.doveShift
  split; with_reducible assumption; dsimp only; split; split
  with_reducible (apply low_takeUpdate; apply low_readRange (by omega); assumption; apply low_fire (by omega))
  with_reducible (apply low_inc32 (by omega); apply low_readRange (by omega); assumption; apply low_fire (by omega))
  with_reducible (apply low_inc32 (by omega); apply low_readRange (by omega); assumption)

theorem low_execDoveShift {L : Nat} {s0 s : State} (hL : L ≤ 17408) (h : Low L s0 s) : LowR L s0 (execDoveShift s) := by
  unfold execDoveShift
  split; with_reducible (apply lowR_next; apply low_doveShift (by omega); apply low_takeInput; assumption; apply lowR_next; assumption)

theorem low_cmdClearCorr {L : Nat} {s0 s : State} {a0} (h : Low L s0 s) : LowV L s0 (cmdClearCorr a0 s) := by
  unfold cmdClearCorr
  dsimp only; with_reducible (apply lowV_accept; apply low_modDove; assumption)

theorem low_roundBoundary {L : Nat} {s0 s : State} {a1} (hL : L ≤ 17424) (h : Low L s0 s) : Low L s0 (State.roundBoundary s a1) := by
  unfold State.roundBoundary
  split; split; with_reducible (apply low_modDove; apply low_each; assumption); intro _ _ _
  with_reducible (apply low_inc32 (by omega); assumption; assumption; assumption)

theorem low_frameOpen {L : Nat} {s0 s : State} {a1 a2} (hL : L ≤ 16385) (h : Low L s0 s) : Low L s0 (State.frameOpen s a1 a2) := by
  unfold State.frameOpen
  split; with_reducible (apply low_modFront; assumption); split; dsimp only
  with_reducible (apply low_modFront; apply low_setReg (by omega); apply low_setReg (by omega); apply low_setReg (by omega))
  with_reducible (apply low_setReg (by omega); assumption; apply low_modFront; apply low_fire (by omega); apply low_inc32 (by omega))
  with_reducible assumption

theorem low_frameLine {L : Nat} {s0 s : State} {a1 a2 a3} (hL : L ≤ 16576) (h : Low L s0 s) : Low L s0 (State.frameLine s a1 a2 a3) := by
  unfold State.frameLine
  split; with_reducible assumption; dsimp only; with_reducible (apply low_setReg (by omega); apply low_store (by omega); assumption)

theorem low_execFrameSlotFilled {L : Nat} {s0 s : State} (hL : L ≤ 16576) (h : Low L s0 s) : LowR L s0 (execFrameSlotFilled s) := by
  unfold execFrameSlotFilled
  split; dsimp only
  with_reducible (apply lowR_next; apply low_modFront; apply low_setReg (by omega); assumption; apply lowR_next; assumption)

theorem low_cmdHold {L : Nat} {s0 s : State} {a0} (hL : L ≤ 16576) (h : Low L s0 s) : LowV L s0 (cmdHold a0 s) := by
  unfold cmdHold
  split; with_reducible apply lowV_error; split
  with_reducible (apply lowV_ok; apply low_modFront; assumption; apply lowV_ok; apply low_setReg (by omega); assumption)
  with_reducible apply lowV_error

theorem low_holdEvent {L : Nat} {s0 s : State} (h : Low L s0 s) : Low L s0 (State.holdEvent s) := by
  unfold State.holdEvent
  split; with_reducible (apply low_modFront; assumption; assumption)

theorem low_cmdSlotRelease {L : Nat} {s0 s : State} {a0} (hL : L ≤ 16576) (h : Low L s0 s) : LowV L s0 (cmdSlotRelease a0 s) := by
  unfold cmdSlotRelease
  with_reducible (apply lowV_accept; apply low_setReg (by omega); assumption)

theorem low_fifoRead {L : Nat} {s0 s : State} {a1 a2 a3} (hL : L ≤ 22528) (h : Low L s0 s) : Low L s0 (State.fifoRead s a1 a2 a3) := by
  unfold State.fifoRead
  split; with_reducible assumption; dsimp only; with_reducible (apply low_readRange (by omega); assumption)

theorem low_feedScalers {L : Nat} {s0 s : State} {a1 a2 a3} (hL : L ≤ 18560) (h : Low L s0 s) : Low L s0 (State.feedScalers s a1 a2 a3) := by
  unfold State.feedScalers
  dsimp only; with_reducible (apply low_each; assumption); intro _ _ _; with_reducible (apply low_scalerLine (by omega); assumption)

theorem low_feedGleaner {L : Nat} {s0 s : State} {a1 a2 a3} (hL : L ≤ 17536) (h : Low L s0 s) : Low L s0 (State.feedGleaner s a1 a2 a3) := by
  unfold State.feedGleaner
  dsimp only; apply low_mk; split; with_reducible (apply low_setReg (by omega); apply low_setReg (by omega); assumption; assumption)

theorem low_stitch {L : Nat} {s0 s : State} {a1} (hL : L ≤ 16385) (h : Low L s0 s) : Low L s0 (State.stitch s a1) := by
  unfold State.stitch
  dsimp only; split; split; split
  with_reducible (apply low_modDove; apply low_roundStart (by omega); apply low_modDove; apply low_inc64 (by omega))
  with_reducible (apply low_feedGleaner (by omega); apply low_feedScalers (by omega); apply low_frameLine (by omega))
  with_reducible (apply low_frameOpen (by omega); apply low_each; assumption); intro _ _ _
  with_reducible (apply low_fifoRead (by omega); assumption; apply low_roundStart (by omega); apply low_modDove)
  with_reducible (apply low_inc64 (by omega); apply low_feedGleaner (by omega); apply low_feedScalers (by omega))
  with_reducible (apply low_frameLine (by omega); apply low_frameOpen (by omega); apply low_each; assumption); intro _ _ _
  with_reducible (apply low_fifoRead (by omega); assumption); split
  with_reducible (apply low_modDove; apply low_modDove; apply low_inc64 (by omega); apply low_feedGleaner (by omega))
  with_reducible (apply low_feedScalers (by omega); apply low_frameLine (by omega); apply low_frameOpen (by omega); apply low_each)
  with_reducible assumption; intro _ _ _
  with_reducible (apply low_fifoRead (by omega); assumption; apply low_modDove; apply low_inc64 (by omega))
  with_reducible (apply low_feedGleaner (by omega); apply low_feedScalers (by omega); apply low_frameLine (by omega))
  with_reducible (apply low_frameOpen (by omega); apply low_each; assumption); intro _ _ _
  with_reducible (apply low_fifoRead (by omega); assumption); split; split
  with_reducible (apply low_modDove; apply low_roundStart (by omega); apply low_modDove; apply low_inc64 (by omega))
  with_reducible (apply low_feedGleaner (by omega); apply low_feedScalers (by omega); apply low_frameLine (by omega); apply low_each)
  with_reducible assumption; intro _ _ _
  with_reducible (apply low_fifoRead (by omega); assumption; apply low_roundStart (by omega); apply low_modDove)
  with_reducible (apply low_inc64 (by omega); apply low_feedGleaner (by omega); apply low_feedScalers (by omega))
  with_reducible (apply low_frameLine (by omega); apply low_each; assumption); intro _ _ _
  with_reducible (apply low_fifoRead (by omega); assumption); split
  with_reducible (apply low_modDove; apply low_modDove; apply low_inc64 (by omega); apply low_feedGleaner (by omega))
  with_reducible (apply low_feedScalers (by omega); apply low_frameLine (by omega); apply low_each; assumption); intro _ _ _
  with_reducible (apply low_fifoRead (by omega); assumption; apply low_modDove; apply low_inc64 (by omega))
  with_reducible (apply low_feedGleaner (by omega); apply low_feedScalers (by omega); apply low_frameLine (by omega); apply low_each)
  with_reducible assumption; intro _ _ _; with_reducible (apply low_fifoRead (by omega); assumption)

theorem low_execStitchedLine {L : Nat} {s0 s : State} (hL : L ≤ 16385) (h : Low L s0 s) : LowR L s0 (execStitchedLine s) := by
  unfold execStitchedLine
  split; with_reducible (apply lowR_next; assumption); dsimp only; split; with_reducible (apply lowR_next; assumption); split; split
  with_reducible (apply lowR_next; apply low_stitch (by omega); apply low_doveBoundary (by omega); assumption; apply lowR_next)
  with_reducible assumption; split; with_reducible (apply lowR_next; apply low_stitch (by omega); assumption; apply lowR_next; assumption)

theorem low_frameEdge {L : Nat} {s0 s : State} {a1} (hL : L ≤ 16385) (h : Low L s0 s) : Low L s0 (State.frameEdge s a1) := by
  unfold State.frameEdge
  dsimp only; split; with_reducible (apply low_modDove; apply low_setReg (by omega); apply low_roundBoundary (by omega); apply low_each)
  with_reducible (apply low_settingsBoundary (by omega); assumption); intro _ _ _
  with_reducible (apply low_modCam; apply low_setReg (by omega); assumption; apply low_roundBoundary (by omega); apply low_each)
  with_reducible (apply low_settingsBoundary (by omega); assumption); intro _ _ _
  with_reducible (apply low_modCam; apply low_setReg (by omega); assumption)

theorem low_execLineClockEdge {L : Nat} {s0 s : State} (hL : L ≤ 9984) (h : Low L s0 s) : LowR L s0 (execLineClockEdge s) := by
  unfold execLineClockEdge
  split; with_reducible (apply lowR_next; assumption); dsimp only; split
  with_reducible (apply lowR_next; apply low_modGen; assumption; apply lowR_next); split; split
  with_reducible (apply low_frameEdge (by omega); apply low_statsLate (by omega); apply low_setReg (by omega))
  with_reducible (apply low_setReg (by omega); apply low_modFront; apply low_modFront; apply low_setReg (by omega))
  with_reducible (apply low_setReg (by omega); apply low_modGen; assumption); split
  with_reducible (apply low_roundBoundary (by omega); apply low_settingsBoundary (by omega); apply low_statsLate (by omega))
  with_reducible (apply low_setReg (by omega); apply low_setReg (by omega); apply low_modFront; apply low_modFront)
  with_reducible (apply low_setReg (by omega); apply low_setReg (by omega); apply low_modGen; assumption; apply low_statsLate (by omega))
  with_reducible (apply low_setReg (by omega); apply low_setReg (by omega); apply low_modFront; apply low_modFront)
  with_reducible (apply low_setReg (by omega); apply low_setReg (by omega); apply low_modGen; assumption); split
  with_reducible (apply low_frameEdge (by omega); apply low_statsLate (by omega); apply low_setReg (by omega))
  with_reducible (apply low_setReg (by omega); apply low_modFront; apply low_modGen; assumption); split
  with_reducible (apply low_roundBoundary (by omega); apply low_settingsBoundary (by omega); apply low_statsLate (by omega))
  with_reducible (apply low_setReg (by omega); apply low_setReg (by omega); apply low_modFront; apply low_modGen; assumption)
  with_reducible (apply low_statsLate (by omega); apply low_setReg (by omega); apply low_setReg (by omega); apply low_modFront)
  with_reducible (apply low_modGen; assumption)

theorem low_doveDisabling {L : Nat} {s0 s : State} (h : Low L s0 s) : Low L s0 (State.doveDisabling s) := by
  unfold State.doveDisabling
  dsimp only; split; with_reducible assumption; split; with_reducible (apply low_modDove; assumption; apply low_modDove; assumption)

end Sys2Proof.Machine
end

