-- ==== Sys2Proof/Laws/LowGleaner.lean ====
section
/-! SUPPORT. The lowest entry each definition of Machine/Gleaner.lean may change (Low). -/

set_option Elab.async false

namespace Sys2Proof.Machine

set_option linter.unusedVariables false

theorem low_modGlean {L : Nat} {s0 s : State} {a1} (h : Low L s0 s) : Low L s0 (State.modGlean s a1) := by
  unfold State.modGlean
  apply low_mk; with_reducible assumption

theorem low_Closing_record {L : Nat} (hL : L ≤ 17536) {s0 : State} {c l cutIds} {o : Closing} {b : Blob} (h : Low L s0 o.s) : Low L s0 ((Closing.record c l cutIds o b).s) := by
  unfold Closing.record
  extract_lets s f n s1 s2 s3 q rules ws slots s4 s5 r
  have k : Low L s0 s := h
  clear_value s
  split
  · show Low L s0 s2
    simp only [s2, s1]
    split
    with_reducible (apply low_fire (by omega); apply low_modGlean; apply low_inc32 (by omega); assumption; apply low_inc32 (by omega))
    with_reducible assumption
  · have k4 : Low L s0 s4 := by
      simp only [s4, s3]
      split; with_reducible (apply low_modGlean; assumption; apply low_store (by omega); apply low_modGlean; assumption)
    clear_value s4
    have k5 : Low L s0 s5 := by
      simp only [s5]
      with_reducible (apply low_inc64 (by omega); apply low_setReg (by omega); assumption)
    clear_value s5
    show Low L s0 r.1
    simp only [r]
    with_reducible (apply low_fst; apply low_foldl1; assumption); intro _ _ _; with_reducible apply lowF_mk; split
    with_reducible (apply low_modList; apply low_inc32 (by omega); assumption; apply low_inc32 (by omega); apply low_modList)
    with_reducible (apply low_inc32 (by omega); assumption)

theorem low_sendRecords {L : Nat} {s0 s : State} {stream fuel : Nat} {rs} (hL : L ≤ 9984) (h : Low L s0 s) : Low L s0 (s.sendRecords stream fuel rs) := by
  induction fuel generalizing s rs with
  | zero => exact h
  | succ n ih =>
    unfold State.sendRecords
    split
    · exact h
    · exact ih ((low_streamPut (by omega)) h)

theorem low_closeBlobs {L : Nat} (hL : L ≤ 9984) {s0 s : State} {c l bs cutIds} (h : Low L s0 s) : Low L s0 (State.closeBlobs s c l bs cutIds) := by
  have fold (l' : List Blob) (o : Closing) (k : Low L s0 o.s) : Low L s0 ((l'.foldl (Closing.record c l cutIds) o).s) := by
    induction l' generalizing o with
    | nil => exact k
    | cons b l' ih =>
      apply ih
      with_reducible (apply low_Closing_record (by omega); assumption)
  unfold State.closeBlobs
  extract_lets small big weak good s1 offered others o stream s2
  have k1 : Low L s0 s1 := by
    simp only [s1]
    with_reducible (apply low_inc64 (by omega); apply low_inc64 (by omega); assumption)
  have ko : Low L s0 o.s := fold _ _ k1
  clear_value o
  have k2 : Low L s0 s2 := by
    simp only [s2]
    split; with_reducible (assumption; apply low_sendRecords (by omega); assumption)
  clear_value s2
  split; with_reducible (assumption; apply low_fire (by omega); assumption)

theorem low_gleanStop {L : Nat} {s0 s : State} (hL : L ≤ 17536) (h : Low L s0 s) : Low L s0 (State.gleanStop s) := by
  unfold State.gleanStop
  with_reducible (apply low_setReg (by omega); apply low_modGlean; assumption)

theorem low_gleanLine {L : Nat} {s0 s : State} {a1} (hL : L ≤ 9984) (h : Low L s0 s) : Low L s0 (State.gleanLine s a1) := by
  unfold State.gleanLine
  dsimp only; split; with_reducible (apply low_gleanStop (by omega); apply low_closeBlobs (by omega); apply low_setReg (by omega)); split
  split; with_reducible (apply low_inc32 (by omega); apply low_modGlean; assumption; apply low_modGlean; assumption); split
  with_reducible (apply low_inc32 (by omega); apply low_modGlean; assumption; apply low_modGlean; assumption)
  with_reducible (apply low_closeBlobs (by omega); apply low_setReg (by omega)); split; split
  with_reducible (apply low_inc32 (by omega); apply low_modGlean; assumption; apply low_modGlean; assumption); split
  with_reducible (apply low_inc32 (by omega); apply low_modGlean; assumption; apply low_modGlean; assumption)

theorem low_execGleanerLine {L : Nat} {s0 s : State} (hL : L ≤ 9984) (h : Low L s0 s) : LowR L s0 (execGleanerLine s) := by
  unfold execGleanerLine
  split; with_reducible (apply lowR_next; assumption; apply lowR_next; apply low_gleanLine (by omega); apply low_modGlean; assumption)

theorem low_gleanEnabling {L : Nat} {s0 s : State} (hL : L ≤ 17536) (h : Low L s0 s) : Low L s0 (State.gleanEnabling s) := by
  unfold State.gleanEnabling
  with_reducible (apply low_gleanStop (by omega); assumption)

theorem low_gleanDisabling {L : Nat} {s0 s : State} (hL : L ≤ 9984) (h : Low L s0 s) : Low L s0 (State.gleanDisabling s) := by
  unfold State.gleanDisabling
  dsimp only; split; with_reducible assumption; split; split
  with_reducible (apply low_gleanStop (by omega); apply low_closeBlobs (by omega); assumption; assumption); split
  with_reducible (apply low_gleanStop (by omega); apply low_closeBlobs (by omega); assumption; assumption)

end Sys2Proof.Machine
end

