-- ==== Sys2Proof/Laws/LowTranslate.lean ====
section
/-! SUPPORT. The lowest entry each definition of Machine/Translate.lean may change (Low). -/

set_option Elab.async false

namespace Sys2Proof.Machine

set_option linter.unusedVariables false

theorem low_modFab {L : Nat} {s0 s : State} {a1} (h : Low L s0 s) : Low L s0 (State.modFab s a1) := by
  unfold State.modFab
  apply low_mk; with_reducible assumption

theorem low_fabFault {L : Nat} {s0 s : State} {a1 a2 a3 a4 a5 a6 a7 a8} (hL : L ≤ 23552) (h : Low L s0 s) : Low L s0 (State.fabFault s a1 a2 a3 a4 a5 a6 a7 a8) := by
  unfold State.fabFault
  dsimp only; split
  with_reducible (apply low_inc32 (by omega); apply low_setReg (by omega); apply low_setReg (by omega); apply low_inc32 (by omega))
  with_reducible (apply low_inc64 (by omega); assumption; apply low_faultRecord (by omega)); apply low_mk
  with_reducible (apply low_setReg (by omega); apply low_setReg (by omega); apply low_inc32 (by omega); apply low_inc64 (by omega))
  with_reducible assumption

theorem low_tlbTouch {L : Nat} {s0 s : State} {a1} (h : Low L s0 s) : Low L s0 (State.tlbTouch s a1) := by
  unfold State.tlbTouch
  with_reducible (apply low_modFab; assumption)

theorem low_walkNow {L : Nat} {s0 s : State} {a1 a2 a3 a4 a5} (hL : L ≤ 22528) (h : Low L s0 s) : LowP L s0 (State.walkNow s a1 a2 a3 a4 a5) := by
  unfold State.walkNow
  dsimp only; split; with_reducible (apply lowP_mk; apply low_tlbTouch; apply low_inc64 (by omega); apply low_each; assumption)
  intro _ _ _; with_reducible (apply low_readRange (by omega); assumption; apply lowP_mk); split
  with_reducible (apply low_inc64 (by omega); apply low_each; assumption); intro _ _ _
  with_reducible (apply low_readRange (by omega); assumption; apply low_fabFault (by omega); apply low_inc64 (by omega); apply low_each)
  with_reducible assumption; intro _ _ _; with_reducible (apply low_readRange (by omega); assumption)

theorem low_tlbDrop {L : Nat} {s0 s : State} {a1} (h : Low L s0 s) : Low L s0 (State.tlbDrop s a1) := by
  unfold State.tlbDrop
  with_reducible (apply low_modFab; assumption)

theorem low_lockStart {L : Nat} {s0 s : State} {a1} (hL : L ≤ 23552) (h : Low L s0 s) : Low L s0 (State.lockStart s a1) := by
  unfold State.lockStart
  with_reducible (apply low_modFab; apply low_inc64 (by omega); assumption)

theorem low_lockEnd {L : Nat} {s0 s : State} {a1} (h : Low L s0 s) : Low L s0 (State.lockEnd s a1) := by
  unfold State.lockEnd
  with_reducible (apply low_modFab; assumption)

theorem low_execLockBroken {L : Nat} {s0 s : State} {a0} (hL : L ≤ 23552) (h : Low L s0 s) : LowR L s0 (execLockBroken a0 s) := by
  unfold execLockBroken
  with_reducible apply lowR_inst; split; with_reducible (apply lowR_next; assumption); dsimp only
  with_reducible (apply lowR_next; apply low_fabFault (by omega); apply low_inc32 (by omega); apply low_lockEnd; assumption)

theorem low_meter {L : Nat} {s0 s : State} {a1 a2} (hL : L ≤ 23552) (h : Low L s0 s) : Low L s0 (State.meter s a1 a2) := by
  unfold State.meter
  split; with_reducible assumption; dsimp only; split; split
  with_reducible (apply low_inc32 (by omega); apply low_modFab; assumption; apply low_modFab; assumption); split
  with_reducible (apply low_inc32 (by omega); apply low_modFab; assumption; apply low_modFab; assumption)

theorem low_storeAccess {L : Nat} {s0 s : State} {a1 a2 a3 a4 a5 a6} (hL : L ≤ 20480) (h : Low L s0 s) : LowP L s0 (State.storeAccess s a1 a2 a3 a4 a5 a6) := by
  unfold State.storeAccess
  split; split; with_reducible (apply lowP_mk; assumption); split; dsimp only; split; split
  with_reducible (apply lowP_mk; assumption; apply lowP_mk; apply low_store (by omega); assumption); split
  with_reducible (apply lowP_mk; assumption; apply lowP_mk; apply low_store (by omega); assumption; apply lowP_mk)
  with_reducible (apply low_readRange (by omega); assumption); split; with_reducible (apply lowP_mk; assumption); split
  with_reducible (apply lowP_mk; assumption); dsimp only; split; with_reducible (apply lowP_mk; apply low_modCore); split
  with_reducible (apply low_inc32 (by omega); assumption; assumption; apply lowP_mk); split
  with_reducible (apply low_inc32 (by omega); assumption; assumption; apply lowP_mk; assumption)

theorem low_windowedAccess {L : Nat} {s0 s : State} {a1 a2 a3 a4 a5 a6 a7} (hL : L ≤ 20480) (h : Low L s0 s) : LowP L s0 (State.windowedAccess s a1 a2 a3 a4 a5 a6 a7) := by
  unfold State.windowedAccess
  dsimp only; split; with_reducible (apply lowP_mk; apply low_fabFault (by omega); apply low_snd); split
  with_reducible (apply low_walkNow (by omega); apply low_inc64 (by omega); assumption; apply lowP_mk; assumption; apply lowP_mk)
  with_reducible (apply low_fabFault (by omega); apply low_snd); split
  with_reducible (apply low_walkNow (by omega); apply low_inc64 (by omega); assumption; apply lowP_mk; assumption); split
  with_reducible (apply lowP_mk; apply low_fabFault (by omega); apply low_inc64 (by omega); apply low_snd); split
  with_reducible (apply low_walkNow (by omega); apply low_inc64 (by omega); assumption; apply lowP_mk; assumption); split
  with_reducible (apply lowP_mk; apply low_snd; apply low_storeAccess (by omega); apply low_meter (by omega); apply low_inc64 (by omega))
  with_reducible apply low_snd; split
  with_reducible (apply low_walkNow (by omega); apply low_inc64 (by omega); assumption; apply lowP_mk; assumption; apply lowP_mk)
  with_reducible (apply low_fabFault (by omega); apply low_snd; apply low_storeAccess (by omega); apply low_meter (by omega))
  with_reducible (apply low_inc64 (by omega); apply low_snd); split
  with_reducible (apply low_walkNow (by omega); apply low_inc64 (by omega); assumption; apply lowP_mk; assumption)

theorem low_windowsLive {L : Nat} {s0 s : State} {a1} (h : Low L s0 s) : Low L s0 (State.windowsLive s a1) := by
  unfold State.windowsLive
  with_reducible (apply low_each; assumption); intro _ _ _; with_reducible (apply low_tlbDrop; assumption)

theorem low_cmdInvWindow {L : Nat} {s0 s : State} {a0} (h : Low L s0 s) : LowV L s0 (cmdInvWindow a0 s) := by
  unfold cmdInvWindow
  with_reducible (apply lowV_accept; apply low_tlbDrop; assumption)

theorem low_cmdInvAll {L : Nat} {s0 s : State} (h : Low L s0 s) : LowV L s0 (cmdInvAll s) := by
  unfold cmdInvAll
  with_reducible (apply lowV_ok; apply low_modFab; assumption)

theorem low_onPage {L : Nat} {s0 s : State} {mst pa : Nat} {secure : Bool} {f : State → State} (hL : L ≤ 23552) (h : Low L s0 s)
    (hf : ∀ t, Low L s0 t → Low L s0 (f t)) : Low L s0 (s.onPage mst pa secure f) := by
  unfold State.onPage
  split
  · exact hf s h
  · exact (low_fabFault (by omega)) h

theorem low_execPageInvWindow {L : Nat} {s0 s : State} {a0 a1} (hL : L ≤ 23552) (h : Low L s0 s) : LowR L s0 (execPageInvWindow a0 a1 s) := by
  unfold execPageInvWindow
  with_reducible (apply lowR_inst; apply lowR_next; apply low_onPage (by omega); assumption); intro _ _
  with_reducible (apply low_tlbDrop; assumption)

theorem low_execPageInvAll {L : Nat} {s0 s : State} {a0} (hL : L ≤ 23552) (h : Low L s0 s) : LowR L s0 (execPageInvAll a0 s) := by
  unfold execPageInvAll
  with_reducible (apply lowR_inst; apply lowR_next; apply low_onPage (by omega); assumption); intro _ _
  with_reducible (apply low_modFab; assumption)

end Sys2Proof.Machine
end

