-- ==== Sys2Proof/Laws/LowDma.lean ====
section
/-! SUPPORT. The lowest entry each definition of Machine/Dma.lean may change (Low). -/

set_option Elab.async false

namespace Sys2Proof.Machine

set_option linter.unusedVariables false

theorem low_modDma {L : Nat} {s0 s : State} {a1 a2} (h : Low L s0 s) : Low L s0 (State.modDma s a1 a2) := by
  unfold State.modDma
  with_reducible (apply low_modFab; assumption)

theorem low_setDmaRun {L : Nat} {s0 s : State} {a1 a2} (hL : L ≤ 23872) (h : Low L s0 s) : Low L s0 (State.setDmaRun s a1 a2) := by
  unfold State.setDmaRun
  with_reducible (apply low_setReg (by omega); assumption)

theorem low_dmaRelease {L : Nat} {s0 s : State} {a1} (h : Low L s0 s) : Low L s0 (State.dmaRelease s a1) := by
  unfold State.dmaRelease
  with_reducible (apply low_lockEnd; apply low_modDma; assumption)

theorem low_writeBack {L : Nat} {s0 s : State} {a1 a2 a3} (hL : L ≤ 20480) (h : Low L s0 s) : Low L s0 (State.writeBack s a1 a2 a3) := by
  unfold State.writeBack
  split; split; with_reducible (apply low_snd; apply low_windowedAccess (by omega); assumption; assumption; assumption)

theorem low_dmaFaultEvent {L : Nat} {s0 s : State} {a1 a2} (hL : L ≤ 27200) (h : Low L s0 s) : Low L s0 (State.dmaFaultEvent s a1 a2) := by
  unfold State.dmaFaultEvent
  with_reducible (apply low_fire (by omega); assumption)

theorem low_dmaFetch {L : Nat} {s0 s : State} {a1 a2} (hL : L ≤ 23872) (h : Low L s0 s) : Low L s0 (State.dmaFetch s a1 a2) := by
  unfold State.dmaFetch
  with_reducible (apply low_modDma; apply low_setReg (by omega); assumption)

theorem low_dmaStart {L : Nat} {s0 s : State} {a1} (hL : L ≤ 23872) (h : Low L s0 s) : LowP L s0 (State.dmaStart s a1) := by
  unfold State.dmaStart
  dsimp only; split; with_reducible (apply lowP_mk; assumption); split
  with_reducible (apply lowP_mk; apply low_setReg (by omega); assumption; apply lowP_mk; apply low_setDmaRun (by omega))
  with_reducible (apply low_dmaFetch (by omega); apply low_modDma; apply low_setReg (by omega); apply low_setReg (by omega))
  with_reducible (apply low_setReg (by omega); assumption)

theorem low_dropRequests {L : Nat} {s0 s : State} {a1} (h : Low L s0 s) : Low L s0 (State.dropRequests s a1) := by
  unfold State.dropRequests
  with_reducible (apply low_modFab; assumption)

theorem low_dmaAbortedNow {L : Nat} {s0 s : State} {a1} (hL : L ≤ 20480) (h : Low L s0 s) : Low L s0 (State.dmaAbortedNow s a1) := by
  unfold State.dmaAbortedNow
  dsimp only
  with_reducible (apply low_dmaFaultEvent (by omega); apply low_setDmaRun (by omega); apply low_modDma; apply low_dropRequests)
  with_reducible (apply low_dmaRelease; apply low_writeBack (by omega); apply low_setReg (by omega); apply low_setReg (by omega))
  with_reducible assumption

theorem low_dmaAbort {L : Nat} {s0 s : State} {a1} (hL : L ≤ 20480) (h : Low L s0 s) : Low L s0 (State.dmaAbort s a1) := by
  unfold State.dmaAbort
  split; split; with_reducible (apply low_setDmaRun (by omega); assumption; apply low_dmaAbortedNow (by omega); assumption)
  with_reducible (apply low_setDmaRun (by omega); assumption; assumption)

theorem low_dmaResume {L : Nat} {s0 s : State} {a1} (hL : L ≤ 23872) (h : Low L s0 s) : LowP L s0 (State.dmaResume s a1) := by
  unfold State.dmaResume
  dsimp only; split; with_reducible (apply lowP_mk; assumption; apply lowP_mk; apply low_setDmaRun (by omega)); split
  with_reducible (apply low_modDma; assumption; apply low_dmaFetch (by omega); assumption)

theorem low_dmaNext {L : Nat} {s0 s : State} {a1} (hL : L ≤ 23872) (h : Low L s0 s) : Low L s0 (State.dmaNext s a1) := by
  unfold State.dmaNext
  split; split; with_reducible (apply low_setDmaRun (by omega); apply low_dmaFetch (by omega); assumption; apply low_setDmaRun (by omega))
  with_reducible (apply low_dmaRelease; assumption; apply low_setDmaRun (by omega); apply low_dmaRelease; assumption)

theorem low_dmaResumeNext {L : Nat} {s0 s : State} {a1} (hL : L ≤ 23872) (h : Low L s0 s) : LowP L s0 (State.dmaResumeNext s a1) := by
  unfold State.dmaResumeNext
  dsimp only; split; with_reducible (apply lowP_mk; assumption; apply lowP_mk; apply low_dmaNext (by omega); assumption)

theorem low_dmaPageCmd {L : Nat} {s0 s : State} {a1 a2} (hL : L ≤ 20480) (h : Low L s0 s) : Low L s0 (State.dmaPageCmd s a1 a2) := by
  unfold State.dmaPageCmd
  split
  with_reducible (apply low_snd; apply low_dmaStart (by omega); assumption; apply low_dmaAbort (by omega); assumption; apply low_snd)
  with_reducible (apply low_dmaResume (by omega); assumption; apply low_snd; apply low_dmaResumeNext (by omega); assumption; assumption)

theorem low_ofDetail {L : Nat} {s0 : State} {r : Nat × State} (h : LowP L s0 r) : LowV L s0 (ofDetail r) := by
  unfold ofDetail
  split
  · exact lowV_ok h.low
  · exact lowV_error _

theorem low_cmdDmaStart {L : Nat} {s0 s : State} {a0} (hL : L ≤ 23872) (h : Low L s0 s) : LowV L s0 (cmdDmaStart a0 s) := by
  unfold cmdDmaStart
  with_reducible (apply low_ofDetail; apply low_dmaStart (by omega); assumption)

theorem low_cmdDmaAbort {L : Nat} {s0 s : State} {a0} (hL : L ≤ 20480) (h : Low L s0 s) : LowV L s0 (cmdDmaAbort a0 s) := by
  unfold cmdDmaAbort
  with_reducible (apply lowV_ok; apply low_dmaAbort (by omega); assumption)

theorem low_cmdDmaResume {L : Nat} {s0 s : State} {a0} (hL : L ≤ 23872) (h : Low L s0 s) : LowV L s0 (cmdDmaResume a0 s) := by
  unfold cmdDmaResume
  with_reducible (apply low_ofDetail; apply low_dmaResume (by omega); assumption)

theorem low_cmdDmaResumeNext {L : Nat} {s0 s : State} {a0} (hL : L ≤ 23872) (h : Low L s0 s) : LowV L s0 (cmdDmaResumeNext a0 s) := by
  unfold cmdDmaResumeNext
  with_reducible (apply low_ofDetail; apply low_dmaResumeNext (by omega); assumption)

theorem low_dmaStartEvent {L : Nat} {s0 s : State} {a1} (hL : L ≤ 23872) (h : Low L s0 s) : Low L s0 (State.dmaStartEvent s a1) := by
  unfold State.dmaStartEvent
  split; dsimp only; split
  with_reducible (apply low_snd; apply low_dmaStart (by omega); apply low_takeInput; assumption; apply low_inc32 (by omega))
  with_reducible (apply low_snd; apply low_dmaStart (by omega); apply low_takeInput; assumption; assumption)

theorem low_dmaAbortEvent {L : Nat} {s0 s : State} {a1} (hL : L ≤ 20480) (h : Low L s0 s) : Low L s0 (State.dmaAbortEvent s a1) := by
  unfold State.dmaAbortEvent
  split; with_reducible (apply low_dmaAbort (by omega); apply low_takeInput; assumption; assumption)

theorem low_execDescriptorFetch {L : Nat} {s0 s : State} {a0} (hL : L ≤ 23552) (h : Low L s0 s) : LowR L s0 (execDescriptorFetch a0 s) := by
  unfold execDescriptorFetch
  with_reducible apply lowR_inst; split; with_reducible (apply lowR_next; assumption); split; with_reducible (apply lowR_next; assumption)
  dsimp only; split
  with_reducible (apply lowR_next; apply low_modDma; apply low_setReg (by omega); apply low_setReg (by omega); apply low_modDma)
  with_reducible (assumption; apply lowR_next; apply low_dmaFaultEvent (by omega); apply low_setDmaRun (by omega); apply low_dmaRelease)
  with_reducible (apply low_setReg (by omega); apply low_fabFault (by omega); apply low_setReg (by omega); apply low_modDma; assumption)

theorem low_execDescriptorComplete {L : Nat} {s0 s : State} {a0} (hL : L ≤ 20480) (h : Low L s0 s) : LowR L s0 (execDescriptorComplete a0 s) := by
  unfold execDescriptorComplete
  with_reducible apply lowR_inst; dsimp only; split; split
  with_reducible (apply lowR_next; apply low_dmaNext (by omega); apply low_lockEnd); split
  with_reducible (apply low_fire (by omega); apply low_inc64 (by omega); apply low_inc64 (by omega); apply low_writeBack (by omega))
  with_reducible (apply low_setReg (by omega); apply low_setReg (by omega); assumption; apply low_inc64 (by omega))
  with_reducible (apply low_inc64 (by omega); apply low_writeBack (by omega); apply low_setReg (by omega); apply low_setReg (by omega))
  with_reducible (assumption; apply lowR_next; assumption; apply lowR_next; assumption)

theorem low_execDmaBeatFault {L : Nat} {s0 s : State} {a0} (hL : L ≤ 20480) (h : Low L s0 s) : LowR L s0 (execDmaBeatFault a0 s) := by
  unfold execDmaBeatFault
  with_reducible apply lowR_inst; dsimp only; split; split
  with_reducible (apply lowR_next; apply low_dmaFaultEvent (by omega); apply low_setDmaRun (by omega); apply low_modDma)
  with_reducible (apply low_dmaRelease; apply low_writeBack (by omega); apply low_setReg (by omega); apply low_setReg (by omega))
  with_reducible (apply low_setReg (by omega); apply low_setReg (by omega); assumption; apply lowR_next; assumption; apply lowR_next)
  with_reducible assumption

theorem low_execAbortComplete {L : Nat} {s0 s : State} {a0} (hL : L ≤ 20480) (h : Low L s0 s) : LowR L s0 (execAbortComplete a0 s) := by
  unfold execAbortComplete
  with_reducible apply lowR_inst; dsimp only; split
  with_reducible (apply lowR_next; apply low_dmaAbortedNow (by omega); assumption; apply lowR_next; assumption)

theorem low_takeMover {L : Nat} {s0 s : State} {a1} (h : Low L s0 s) : Low L s0 (State.takeMover s a1) := by
  unfold State.takeMover
  with_reducible (apply low_modFab; assumption)

theorem low_execMoverAssign {L : Nat} {s0 s : State} (hL : L ≤ 23808) (h : Low L s0 s) : LowR L s0 (execMoverAssign s) := by
  unfold execMoverAssign
  dsimp only; split; with_reducible (apply lowR_next; assumption); split
  with_reducible (apply lowR_next; apply low_takeMover; assumption); split
  with_reducible (apply lowR_next; apply low_takeMover; apply low_inc64 (by omega); apply low_inc32 (by omega); apply low_modDma)
  with_reducible (assumption; apply lowR_next; assumption)

theorem low_endTurn {L : Nat} {s0 s : State} {a1} (h : Low L s0 s) : Low L s0 (State.endTurn s a1) := by
  unfold State.endTurn
  dsimp only; split; with_reducible assumption; split; split; with_reducible assumption; split
  with_reducible (apply low_modDma; assumption; apply low_modFab; assumption); split; with_reducible assumption; split
  with_reducible (apply low_modDma; assumption; apply low_modFab; assumption)

theorem low_dmaBeat {L : Nat} {s0 s : State} {a1 a2 a3 a4} (hL : L ≤ 23808) (h : Low L s0 s) : Low L s0 (State.dmaBeat s a1 a2 a3 a4) := by
  unfold State.dmaBeat
  dsimp only; split
  with_reducible (apply low_modDma; assumption; apply low_modDma; assumption; apply low_modDma; assumption; apply low_modDma; assumption)
  with_reducible (apply low_modDma; assumption; apply low_endTurn; apply low_setReg (by omega); apply low_inc64 (by omega))
  with_reducible (apply low_inc64 (by omega); apply low_modDma; assumption)

theorem low_dmaLock {L : Nat} {s0 s : State} {a1} (hL : L ≤ 23552) (h : Low L s0 s) : LowO L s0 (State.dmaLock s a1) := by
  unfold State.dmaLock
  dsimp only; split; split; split
  with_reducible (apply lowO_none; apply lowO_some; apply low_lockStart (by omega); assumption; apply lowO_some; assumption)
  with_reducible (apply lowO_some; assumption)

theorem low_dmaTurnsOn {L : Nat} {s0 s : State} {a1} (hL : L ≤ 23872) (h : Low L s0 s) : Low L s0 (State.dmaTurnsOn s a1) := by
  unfold State.dmaTurnsOn
  with_reducible (apply low_setDmaRun (by omega); apply low_modDma; assumption)

end Sys2Proof.Machine
end

