-- ==== Sys2Proof/Laws/LowFabric.lean ====
section
/-! SUPPORT. The lowest entry each definition of Machine/Fabric.lean may change (Low). -/

set_option Elab.async false

namespace Sys2Proof.Machine

set_option linter.unusedVariables false

theorem low_timePage {L : Nat} {s0 s : State} {a1} (h : Low L s0 s) : LowP L s0 (State.timePage s a1) := by
  unfold State.timePage
  split; with_reducible apply lowP_mk; apply low_mk; with_reducible assumption; split; with_reducible (apply lowP_mk; assumption); split
  with_reducible (apply lowP_mk; assumption); dsimp only; split
  with_reducible (apply lowP_mk; apply low_modTb; assumption; apply lowP_mk; assumption; apply lowP_mk; assumption; apply lowP_mk)
  with_reducible (assumption; apply lowP_mk; assumption; apply lowP_mk; assumption; apply lowP_mk; assumption)

theorem low_pageRead {L : Nat} {s0 s : State} {a1} (h : Low L s0 s) : LowP L s0 (State.pageRead s a1) := by
  unfold State.pageRead
  split; with_reducible (apply lowP_mk; assumption; apply low_timePage; assumption; apply lowP_mk; assumption; apply lowP_mk; assumption)
  with_reducible (apply lowP_mk; assumption)

theorem low_configWrite {L : Nat} {s0 s : State} {a1 a2} (hL : L ≤ 26624) (h : Low L s0 s) : Low L s0 (State.configWrite s a1 a2) := by
  unfold State.configWrite
  dsimp only; split; split
  with_reducible (apply low_inc32 (by omega); assumption; apply low_setReg (by omega); apply low_setReg (by omega))
  with_reducible (apply low_setReg (by omega); apply low_setReg (by omega); apply low_setReg (by omega); assumption); split
  with_reducible (apply low_inc32 (by omega); assumption; apply low_setReg (by omega); apply low_setReg (by omega); assumption)

theorem low_dowelPageWrite {L : Nat} {s0 s : State} {a1 a2 a3} (hL : L ≤ 26624) (h : Low L s0 s) : Low L s0 (State.dowelPageWrite s a1 a2 a3) := by
  unfold State.dowelPageWrite
  split; with_reducible (apply low_setReg (by omega); assumption); split; split
  with_reducible (apply low_soft (by omega); assumption; assumption); split; with_reducible assumption; dsimp only; split
  with_reducible assumption; split; with_reducible (apply low_inc32 (by omega); assumption); split; split
  with_reducible (apply low_channelEnable (by omega); assumption); split
  with_reducible (apply low_channelDisable (by omega); assumption; assumption; apply low_configWrite (by omega); assumption)
  with_reducible (apply low_attrWrite (by omega); assumption)

theorem low_pageWrite {L : Nat} {s0 s : State} {a1 a2 a3} (hL : L ≤ 20480) (h : Low L s0 s) : Low L s0 (State.pageWrite s a1 a2 a3) := by
  unfold State.pageWrite
  split; split; with_reducible (apply low_setReg (by omega); assumption); split
  with_reducible (apply low_dmaPageCmd (by omega); assumption; assumption); split; split
  with_reducible (apply low_tlbDrop; assumption; assumption); split; split
  with_reducible (apply low_modFab; assumption; assumption; assumption); dsimp only; split; split
  with_reducible (apply low_setReg (by omega); assumption; apply low_modTb; assumption; apply low_modTb; assumption); split
  with_reducible (apply low_tbPageSet; assumption; assumption; assumption; assumption; apply low_dowelPageWrite (by omega); assumption)
  split; with_reducible (apply low_counterZero; assumption; assumption; assumption)

theorem low_pageAccess {L : Nat} {s0 s : State} {a1 a2 a3 a4 a5 a6 a7 a8 a9} (hL : L ≤ 20480) (h : Low L s0 s) : LowP L s0 (State.pageAccess s a1 a2 a3 a4 a5 a6 a7 a8 a9) := by
  unfold State.pageAccess
  split; with_reducible (apply lowP_mk; assumption); split; with_reducible (apply lowP_mk; assumption); dsimp only; split; split
  with_reducible (apply lowP_mk; assumption; apply lowP_mk; apply low_each; assumption); intro _ _ _
  with_reducible (apply low_pageWrite (by omega); assumption; apply lowP_mk; apply low_snd; apply low_foldl2; assumption); intro _ _ _
  with_reducible (apply lowP_mk; apply low_snd; apply low_pageRead; assumption)

theorem low_targetAccess {L : Nat} {s0 s : State} {a1 a2 a3 a4 a5 a6 a7 a8} (hL : L ≤ 20480) (h : Low L s0 s) : LowP L s0 (State.targetAccess s a1 a2 a3 a4 a5 a6 a7 a8) := by
  unfold State.targetAccess
  split; split; with_reducible (apply lowP_mk; assumption; apply lowP_mk; assumption); split
  with_reducible (apply lowP_mk; assumption; apply lowP_mk; assumption); split
  with_reducible (apply lowP_mk; apply low_modFab; assumption; apply lowP_mk; assumption); split
  with_reducible (apply low_pageAccess (by omega); assumption; apply low_storeAccess (by omega); assumption)

theorem low_finishRequest {L : Nat} {s0 s : State} {a1 a2 a3 a4} (hL : L ≤ 23808) (h : Low L s0 s) : Low L s0 (State.finishRequest s a1 a2 a3 a4) := by
  unfold State.finishRequest
  split; dsimp only; with_reducible (apply low_modCore; assumption); split
  with_reducible (apply low_dmaBeat (by omega); assumption; apply low_modFab; assumption)

theorem low_lockFor {L : Nat} {s0 s : State} {a1 a2} (hL : L ≤ 23552) (h : Low L s0 s) : Low L s0 (State.lockFor s a1 a2) := by
  unfold State.lockFor
  split; with_reducible apply low_modFab; split; with_reducible (assumption; apply low_lockStart (by omega); assumption; assumption)

theorem low_grantReq {L : Nat} {s0 s : State} {a1 a2} (hL : L ≤ 20480) (h : Low L s0 s) : Low L s0 (State.grantReq s a1 a2) := by
  unfold State.grantReq
  dsimp only; split; with_reducible apply low_lockEnd; split
  with_reducible (apply low_finishRequest (by omega); apply low_snd; apply low_targetAccess (by omega); apply low_meter (by omega))
  with_reducible (apply low_lockFor (by omega); apply low_modFab; assumption; apply low_finishRequest (by omega))
  with_reducible (apply low_fabFault (by omega); apply low_snd; apply low_targetAccess (by omega); apply low_meter (by omega))
  with_reducible (apply low_lockFor (by omega); apply low_modFab; assumption); split
  with_reducible (apply low_finishRequest (by omega); apply low_snd; apply low_targetAccess (by omega); apply low_meter (by omega))
  with_reducible (apply low_lockFor (by omega); apply low_modFab; assumption; apply low_finishRequest (by omega))
  with_reducible (apply low_fabFault (by omega); apply low_snd; apply low_targetAccess (by omega); apply low_meter (by omega))
  with_reducible (apply low_lockFor (by omega); apply low_modFab; assumption)

theorem low_grantAll {L : Nat} (hL : L ≤ 20480) {s0 s : State} {n : Nat} (h : Low L s0 s) : Low L s0 (State.grantAll n s) := by
  induction n generalizing s with
  | zero => exact h
  | succ n ih =>
    unfold State.grantAll
    split; apply ih; with_reducible (apply low_grantReq (by omega); assumption; assumption)

theorem low_deliverRequest {L : Nat} {s0 s : State} {a1 a2 a3 a4 a5} (hL : L ≤ 20480) (h : Low L s0 s) : Low L s0 (State.deliverRequest s a1 a2 a3 a4 a5) := by
  unfold State.deliverRequest
  split; with_reducible (apply low_finishRequest (by omega); apply low_fabFault (by omega); assumption; apply low_grantAll (by omega))
  with_reducible (apply low_modFab; assumption)

theorem low_endXlate {L : Nat} {s0 s : State} {a1 a2 a3 a4} (hL : L ≤ 20480) (h : Low L s0 s) : Low L s0 (State.endXlate s a1 a2 a3 a4) := by
  unfold State.endXlate
  split; with_reducible (apply low_finishRequest (by omega); apply low_fabFault (by omega); assumption; apply low_modFab)
  with_reducible (apply low_inc64 (by omega); assumption); dsimp only
  with_reducible (apply low_deliverRequest (by omega); apply low_inc64 (by omega)); split
  with_reducible (apply low_tlbTouch; assumption; assumption)

theorem low_issueWindowed {L : Nat} {s0 s : State} {a1 a2 a3} (hL : L ≤ 20480) (h : Low L s0 s) : LowO L s0 (State.issueWindowed s a1 a2 a3) := by
  unfold State.issueWindowed
  split; with_reducible apply lowO_none; dsimp only; split
  with_reducible (apply lowO_some; apply low_endXlate (by omega); apply low_inc64 (by omega); assumption; apply lowO_some)
  with_reducible (apply low_endXlate (by omega); assumption)

theorem low_coreRequest {L : Nat} {s0 s : State} {a1 a2} (hL : L ≤ 20480) (h : Low L s0 s) : LowO L s0 (State.coreRequest s a1 a2) := by
  unfold State.coreRequest
  split; with_reducible apply lowO_none; dsimp only; with_reducible (apply low_issueWindowed (by omega); apply low_modCore; assumption)

theorem low_chanRequest {L : Nat} {s0 s : State} {a1 a2} (hL : L ≤ 20480) (h : Low L s0 s) : LowO L s0 (State.chanRequest s a1 a2) := by
  unfold State.chanRequest
  split; with_reducible (apply lowO_some; apply low_poolFull (by omega); assumption); split; with_reducible apply lowO_none; split
  with_reducible (apply lowO_none; apply low_issueWindowed (by omega); apply low_of_some (by assumption)); split
  with_reducible (apply low_dmaLock (by omega); assumption; apply lowO_some; assumption)

theorem low_plainRequest {L : Nat} {s0 s : State} {a1 a2} (hL : L ≤ 20480) (h : Low L s0 s) : Low L s0 (State.plainRequest s a1 a2) := by
  unfold State.plainRequest
  split; with_reducible (apply low_poolFull (by omega); assumption; apply low_deliverRequest (by omega); assumption)

theorem low_execFabricRequest {L : Nat} {s0 s : State} {a0 a1} (hL : L ≤ 20480) (h : Low L s0 s) : LowR L s0 (execFabricRequest a0 a1 s) := by
  unfold execFabricRequest
  with_reducible (apply lowR_inst; apply lowR_next); split
  with_reducible (apply low_getD; apply low_coreRequest (by omega); assumption; assumption); split
  with_reducible (apply low_getD; apply low_chanRequest (by omega); assumption; assumption; apply low_plainRequest (by omega))
  with_reducible assumption

theorem low_execPageWalkComplete {L : Nat} {s0 s : State} {a0} (hL : L ≤ 20480) (h : Low L s0 s) : LowR L s0 (execPageWalkComplete a0 s) := by
  unfold execPageWalkComplete
  with_reducible apply lowR_inst; split; with_reducible (apply lowR_next; assumption); dsimp only
  with_reducible (apply lowR_next; apply low_endXlate (by omega); apply low_modFab; apply low_snd); split
  with_reducible (apply low_walkNow (by omega); assumption; apply lowP_mk; assumption)

theorem low_walkTick {L : Nat} {s0 s : State} (hL : L ≤ 23553) (h : Low L s0 s) : Low L s0 (State.walkTick s) := by
  unfold State.walkTick
  dsimp only; split; with_reducible (assumption; apply low_inc64 (by omega); assumption)

theorem low_attrPage {L : Nat} {s0 s : State} {a1 a2 a3 a4} (hL : L ≤ 23552) (h : Low L s0 s) : Low L s0 (State.attrPage s a1 a2 a3 a4) := by
  unfold State.attrPage
  dsimp only; with_reducible (apply low_onPage (by omega); assumption); intro _ _; split
  with_reducible (apply low_fabFault (by omega); assumption; apply low_dowelPageWrite (by omega); assumption)

theorem low_execChannelAttr {L : Nat} {s0 s : State} {a0 a1 a2 a3} (hL : L ≤ 23552) (h : Low L s0 s) : LowR L s0 (execChannelAttr a0 a1 a2 a3 s) := by
  unfold execChannelAttr
  with_reducible (apply lowR_inst; apply lowR_next; apply low_attrPage (by omega); assumption)

theorem low_execTbSet {L : Nat} {s0 s : State} {a0 a1 a2} (hL : L ≤ 23552) (h : Low L s0 s) : LowR L s0 (execTbSet a0 a1 a2 s) := by
  unfold execTbSet
  with_reducible apply lowR_inst; dsimp only; with_reducible (apply lowR_next; apply low_onPage (by omega); assumption); intro _ _; split
  with_reducible assumption; split; with_reducible (apply low_fabFault (by omega); assumption; apply low_tbPageSet; assumption)

theorem low_chanOnPage {L : Nat} {s0 s : State} {mst c : Nat} {secure : Bool} {f : State → State} (hL : L ≤ 23552) (h : Low L s0 s)
    (hf : ∀ t, Low L s0 t → Low L s0 (f t)) : Low L s0 (s.chanOnPage mst secure c f) := (low_onPage (by omega)) h hf

end Sys2Proof.Machine
end

