-- ==== Sys2Proof/Laws/LowDspA.lean ====
section
/-! SUPPORT. The lowest entry each definition of Machine/DspA.lean may change (Low). -/

set_option Elab.async false

namespace Sys2Proof.Machine

set_option linter.unusedVariables false

theorem low_execSlotANop {L : Nat} {s0 s : State} {a0} (hL : L ≤ 20480) (h : Low L s0 s) : LowR L s0 (execSlotANop a0 s) := by
  unfold execSlotANop
  with_reducible (apply low_slotAOp (by omega); assumption)

theorem low_execCmul {L : Nat} {s0 s : State} {a0} (hL : L ≤ 20480) (h : Low L s0 s) : LowR L s0 (execCmul a0 s) := by
  unfold execCmul
  with_reducible (apply low_slotAOp (by omega); assumption)

theorem low_execCmulj {L : Nat} {s0 s : State} {a0} (hL : L ≤ 20480) (h : Low L s0 s) : LowR L s0 (execCmulj a0 s) := by
  unfold execCmulj
  with_reducible (apply low_slotAOp (by omega); assumption)

theorem low_execCmac {L : Nat} {s0 s : State} {a0} (hL : L ≤ 20480) (h : Low L s0 s) : LowR L s0 (execCmac a0 s) := by
  unfold execCmac
  with_reducible (apply low_slotAOp (by omega); assumption)

theorem low_execCmacj {L : Nat} {s0 s : State} {a0} (hL : L ≤ 20480) (h : Low L s0 s) : LowR L s0 (execCmacj a0 s) := by
  unfold execCmacj
  with_reducible (apply low_slotAOp (by omega); assumption)

theorem low_execCmsu {L : Nat} {s0 s : State} {a0} (hL : L ≤ 20480) (h : Low L s0 s) : LowR L s0 (execCmsu a0 s) := by
  unfold execCmsu
  with_reducible (apply low_slotAOp (by omega); assumption)

theorem low_execCmag {L : Nat} {s0 s : State} {a0} (hL : L ≤ 20480) (h : Low L s0 s) : LowR L s0 (execCmag a0 s) := by
  unfold execCmag
  with_reducible (apply low_slotAOp (by omega); assumption)

theorem low_execCbfly {L : Nat} {s0 s : State} {a0} (hL : L ≤ 20480) (h : Low L s0 s) : LowR L s0 (execCbfly a0 s) := by
  unfold execCbfly
  with_reducible (apply low_slotAOp (by omega); assumption)

theorem low_execAclr {L : Nat} {s0 s : State} {a0} (hL : L ≤ 20480) (h : Low L s0 s) : LowR L s0 (execAclr a0 s) := by
  unfold execAclr
  with_reducible (apply low_slotAOp (by omega); assumption)

theorem low_execMva {L : Nat} {s0 s : State} {a0} (hL : L ≤ 20480) (h : Low L s0 s) : LowR L s0 (execMva a0 s) := by
  unfold execMva
  with_reducible (apply low_slotAOp (by omega); assumption)

theorem low_execMva2 {L : Nat} {s0 s : State} {a0} (hL : L ≤ 20480) (h : Low L s0 s) : LowR L s0 (execMva2 a0 s) := by
  unfold execMva2
  with_reducible (apply low_slotAOp (by omega); assumption)

theorem low_execCadd {L : Nat} {s0 s : State} {a0} (hL : L ≤ 20480) (h : Low L s0 s) : LowR L s0 (execCadd a0 s) := by
  unfold execCadd
  with_reducible (apply low_slotAOp (by omega); assumption)

theorem low_execCsub {L : Nat} {s0 s : State} {a0} (hL : L ≤ 20480) (h : Low L s0 s) : LowR L s0 (execCsub a0 s) := by
  unfold execCsub
  with_reducible (apply low_slotAOp (by omega); assumption)

theorem low_execCconj {L : Nat} {s0 s : State} {a0} (hL : L ≤ 20480) (h : Low L s0 s) : LowR L s0 (execCconj a0 s) := by
  unfold execCconj
  with_reducible (apply low_slotAOp (by omega); assumption)

theorem low_execBexd {L : Nat} {s0 s : State} {a0} (hL : L ≤ 20480) (h : Low L s0 s) : LowR L s0 (execBexd a0 s) := by
  unfold execBexd
  with_reducible (apply low_slotAOp (by omega); assumption)

theorem low_execBexs {L : Nat} {s0 s : State} {a0} (hL : L ≤ 20480) (h : Low L s0 s) : LowR L s0 (execBexs a0 s) := by
  unfold execBexs
  with_reducible (apply low_slotAOp (by omega); assumption)

theorem low_execAddD {L : Nat} {s0 s : State} {a0} (hL : L ≤ 20480) (h : Low L s0 s) : LowR L s0 (execAddD a0 s) := by
  unfold execAddD
  with_reducible (apply low_slotAOp (by omega); assumption)

theorem low_execSubD {L : Nat} {s0 s : State} {a0} (hL : L ≤ 20480) (h : Low L s0 s) : LowR L s0 (execSubD a0 s) := by
  unfold execSubD
  with_reducible (apply low_slotAOp (by omega); assumption)

theorem low_execAndD {L : Nat} {s0 s : State} {a0} (hL : L ≤ 20480) (h : Low L s0 s) : LowR L s0 (execAndD a0 s) := by
  unfold execAndD
  with_reducible (apply low_slotAOp (by omega); assumption)

theorem low_execOrD {L : Nat} {s0 s : State} {a0} (hL : L ≤ 20480) (h : Low L s0 s) : LowR L s0 (execOrD a0 s) := by
  unfold execOrD
  with_reducible (apply low_slotAOp (by omega); assumption)

theorem low_execXorD {L : Nat} {s0 s : State} {a0} (hL : L ≤ 20480) (h : Low L s0 s) : LowR L s0 (execXorD a0 s) := by
  unfold execXorD
  with_reducible (apply low_slotAOp (by omega); assumption)

theorem low_execShl {L : Nat} {s0 s : State} {a0} (hL : L ≤ 20480) (h : Low L s0 s) : LowR L s0 (execShl a0 s) := by
  unfold execShl
  with_reducible (apply low_slotAOp (by omega); assumption)

theorem low_execAsr {L : Nat} {s0 s : State} {a0} (hL : L ≤ 20480) (h : Low L s0 s) : LowR L s0 (execAsr a0 s) := by
  unfold execAsr
  with_reducible (apply low_slotAOp (by omega); assumption)

theorem low_execLsr {L : Nat} {s0 s : State} {a0} (hL : L ≤ 20480) (h : Low L s0 s) : LowR L s0 (execLsr a0 s) := by
  unfold execLsr
  with_reducible (apply low_slotAOp (by omega); assumption)

theorem low_execAddi {L : Nat} {s0 s : State} {a0} (hL : L ≤ 20480) (h : Low L s0 s) : LowR L s0 (execAddi a0 s) := by
  unfold execAddi
  with_reducible (apply low_slotAOp (by omega); assumption)

theorem low_execMovi {L : Nat} {s0 s : State} {a0} (hL : L ≤ 20480) (h : Low L s0 s) : LowR L s0 (execMovi a0 s) := by
  unfold execMovi
  with_reducible (apply low_slotAOp (by omega); assumption)

theorem low_execMovhi {L : Nat} {s0 s : State} {a0} (hL : L ≤ 20480) (h : Low L s0 s) : LowR L s0 (execMovhi a0 s) := by
  unfold execMovhi
  with_reducible (apply low_slotAOp (by omega); assumption)

theorem low_execCmpD {L : Nat} {s0 s : State} {a0} (hL : L ≤ 20480) (h : Low L s0 s) : LowR L s0 (execCmpD a0 s) := by
  unfold execCmpD
  with_reducible (apply low_slotAOp (by omega); assumption)

theorem low_execMulD {L : Nat} {s0 s : State} {a0} (hL : L ≤ 20480) (h : Low L s0 s) : LowR L s0 (execMulD a0 s) := by
  unfold execMulD
  with_reducible (apply low_slotAOp (by omega); assumption)

theorem low_execDivD {L : Nat} {s0 s : State} {a0} (hL : L ≤ 20480) (h : Low L s0 s) : LowR L s0 (execDivD a0 s) := by
  unfold execDivD
  with_reducible (apply low_slotAWith (by omega); assumption); intro _ _ _; dsimp only
  with_reducible (apply low_modCore; apply low_modCore; apply low_inc64 (by omega); assumption)

theorem low_execMovc {L : Nat} {s0 s : State} {a0} (hL : L ≤ 20480) (h : Low L s0 s) : LowR L s0 (execMovc a0 s) := by
  unfold execMovc
  with_reducible (apply low_slotAWith (by omega); assumption); intro _ _ _; dsimp only; split
  with_reducible (apply low_modCore; assumption; apply low_modCore; assumption)

theorem low_execMovcw {L : Nat} {s0 s : State} {a0} (hL : L ≤ 20480) (h : Low L s0 s) : LowR L s0 (execMovcw a0 s) := by
  unfold execMovcw
  with_reducible (apply low_slotAOp (by omega); assumption)

theorem low_execMovar {L : Nat} {s0 s : State} {a0} (hL : L ≤ 20480) (h : Low L s0 s) : LowR L s0 (execMovar a0 s) := by
  unfold execMovar
  with_reducible (apply low_slotAOp (by omega); assumption)

theorem low_execMovra {L : Nat} {s0 s : State} {a0} (hL : L ≤ 20480) (h : Low L s0 s) : LowR L s0 (execMovra a0 s) := by
  unfold execMovra
  with_reducible (apply low_slotAOp (by omega); assumption)

theorem low_execBr {L : Nat} {s0 s : State} {a0} (hL : L ≤ 20480) (h : Low L s0 s) : LowR L s0 (execBr a0 s) := by
  unfold execBr
  with_reducible (apply low_slotAOp (by omega); assumption)

theorem low_execCall {L : Nat} {s0 s : State} {a0} (hL : L ≤ 20480) (h : Low L s0 s) : LowR L s0 (execCall a0 s) := by
  unfold execCall
  with_reducible (apply low_slotAOp (by omega); assumption)

theorem low_execRet {L : Nat} {s0 s : State} {a0} (hL : L ≤ 20480) (h : Low L s0 s) : LowR L s0 (execRet a0 s) := by
  unfold execRet
  with_reducible (apply low_slotAOp (by omega); assumption)

theorem low_execRti {L : Nat} {s0 s : State} {a0} (hL : L ≤ 20480) (h : Low L s0 s) : LowR L s0 (execRti a0 s) := by
  unfold execRti
  with_reducible (apply low_slotAOp (by omega); assumption)

theorem low_execRep {L : Nat} {s0 s : State} {a0} (hL : L ≤ 20480) (h : Low L s0 s) : LowR L s0 (execRep a0 s) := by
  unfold execRep
  with_reducible (apply low_slotAOp (by omega); assumption)

theorem low_execRepd {L : Nat} {s0 s : State} {a0} (hL : L ≤ 20480) (h : Low L s0 s) : LowR L s0 (execRepd a0 s) := by
  unfold execRepd
  with_reducible (apply low_slotAWith (by omega); assumption); intro _ _ _; dsimp only; with_reducible (apply low_modCore; assumption)

theorem low_execEidi {L : Nat} {s0 s : State} {a0} (hL : L ≤ 20480) (h : Low L s0 s) : LowR L s0 (execEidi a0 s) := by
  unfold execEidi
  with_reducible (apply low_slotAOp (by omega); assumption)

theorem low_execWaite {L : Nat} {s0 s : State} {a0} (hL : L ≤ 20480) (h : Low L s0 s) : LowR L s0 (execWaite a0 s) := by
  unfold execWaite
  with_reducible apply lowR_inst; split; with_reducible (apply lowR_next; assumption); split
  with_reducible (apply lowR_next; apply low_dspStall (by omega); assumption); dsimp only; split
  with_reducible (apply lowR_next; apply low_setDspRun (by omega); assumption; apply lowR_next; apply low_modCore; apply low_each)
  with_reducible (apply low_beginBundle (by omega); assumption); intro _ _ _; with_reducible (apply low_takeInput; assumption)

theorem low_execSige {L : Nat} {s0 s : State} {a0} (hL : L ≤ 20480) (h : Low L s0 s) : LowR L s0 (execSige a0 s) := by
  unfold execSige
  with_reducible (apply low_slotAWith (by omega); assumption); intro _ _ _; with_reducible (apply low_fire (by omega); assumption)

theorem low_execTrapD {L : Nat} {s0 s : State} {a0} (hL : L ≤ 20480) (h : Low L s0 s) : LowR L s0 (execTrapD a0 s) := by
  unfold execTrapD
  with_reducible (apply low_slotAOp (by omega); assumption)

theorem low_execHaltD {L : Nat} {s0 s : State} {a0} (hL : L ≤ 20480) (h : Low L s0 s) : LowR L s0 (execHaltD a0 s) := by
  unfold execHaltD
  with_reducible (apply low_slotAOp (by omega); assumption)

end Sys2Proof.Machine
end

