-- ==== Sys2Proof/Laws/LowDspB.lean ====
section
/-! SUPPORT. The lowest entry each definition of Machine/DspB.lean may change (Low). -/

set_option Elab.async false

namespace Sys2Proof.Machine

set_option linter.unusedVariables false

theorem low_countEcc {L : Nat} {s0 s : State} {a1 a2} (hL : L ≤ 20480) (h : Low L s0 s) : Low L s0 (State.countEcc s a1 a2) := by
  unfold State.countEcc
  with_reducible (apply low_inc32 (by omega); assumption)

theorem low_execSlotBNop {L : Nat} {s0 s : State} {a0} (hL : L ≤ 20480) (h : Low L s0 s) : LowR L s0 (execSlotBNop a0 s) := by
  unfold execSlotBNop
  with_reducible (apply low_slotBOp (by omega); assumption)

theorem low_execLd {L : Nat} {s0 s : State} {a0 a1} (hL : L ≤ 20480) (h : Low L s0 s) : LowR L s0 (execLd a0 a1 s) := by
  unfold execLd
  with_reducible (apply low_slotBWith (by omega); assumption); intro _ _ _
  with_reducible (apply low_modCore; apply low_countEcc (by omega); assumption)

theorem low_execLdo {L : Nat} {s0 s : State} {a0 a1} (hL : L ≤ 20480) (h : Low L s0 s) : LowR L s0 (execLdo a0 a1 s) := by
  unfold execLdo
  with_reducible (apply low_slotBWith (by omega); assumption); intro _ _ _
  with_reducible (apply low_modCore; apply low_countEcc (by omega); assumption)

theorem low_execSt {L : Nat} {s0 s : State} {a0} (hL : L ≤ 20480) (h : Low L s0 s) : LowR L s0 (execSt a0 s) := by
  unfold execSt
  with_reducible (apply low_slotBOp (by omega); assumption)

theorem low_execSto {L : Nat} {s0 s : State} {a0} (hL : L ≤ 20480) (h : Low L s0 s) : LowR L s0 (execSto a0 s) := by
  unfold execSto
  with_reducible (apply low_slotBOp (by omega); assumption)

theorem low_execLd2 {L : Nat} {s0 s : State} {a0 a1} (hL : L ≤ 20480) (h : Low L s0 s) : LowR L s0 (execLd2 a0 a1 s) := by
  unfold execLd2
  with_reducible (apply low_slotBWith (by omega); assumption); intro _ _ _
  with_reducible (apply low_modCore; apply low_countEcc (by omega); assumption)

theorem low_execSt2 {L : Nat} {s0 s : State} {a0} (hL : L ≤ 20480) (h : Low L s0 s) : LowR L s0 (execSt2 a0 s) := by
  unfold execSt2
  with_reducible (apply low_slotBOp (by omega); assumption)

theorem low_execLdst {L : Nat} {s0 s : State} {a0 a1} (hL : L ≤ 20480) (h : Low L s0 s) : LowR L s0 (execLdst a0 a1 s) := by
  unfold execLdst
  with_reducible (apply low_slotBWith (by omega); assumption); intro _ _ _
  with_reducible (apply low_modCore; apply low_countEcc (by omega); assumption)

theorem low_execFld {L : Nat} {s0 s : State} {a0} (hL : L ≤ 20480) (h : Low L s0 s) : LowR L s0 (execFld a0 s) := by
  unfold execFld
  with_reducible (apply low_slotBWith (by omega); assumption); intro _ _ _
  with_reducible (apply low_showFar (by omega); apply low_modCore; assumption)

theorem low_execFst {L : Nat} {s0 s : State} {a0} (hL : L ≤ 20480) (h : Low L s0 s) : LowR L s0 (execFst a0 s) := by
  unfold execFst
  with_reducible (apply low_slotBWith (by omega); assumption); intro _ _ _
  with_reducible (apply low_showFar (by omega); apply low_modCore; assumption)

theorem low_execAmod {L : Nat} {s0 s : State} {a0} (hL : L ≤ 20480) (h : Low L s0 s) : LowR L s0 (execAmod a0 s) := by
  unfold execAmod
  with_reducible (apply low_slotBOp (by omega); assumption)

theorem low_execLdai {L : Nat} {s0 s : State} {a0} (hL : L ≤ 20480) (h : Low L s0 s) : LowR L s0 (execLdai a0 s) := by
  unfold execLdai
  with_reducible (apply low_slotBOp (by omega); assumption)

theorem low_settleDouble {L : Nat} {s0 s : State} {a1} (hL : L ≤ 20480) (h : Low L s0 s) : Low L s0 (State.settleDouble s a1) := by
  unfold State.settleDouble
  split; with_reducible (assumption; apply low_dspDouble (by omega); assumption)

theorem low_execFarResponse {L : Nat} {s0 s : State} {a0} (hL : L ≤ 20480) (h : Low L s0 s) : LowR L s0 (execFarResponse a0 s) := by
  unfold execFarResponse
  with_reducible apply lowR_inst; split; with_reducible (apply lowR_next; assumption); dsimp only; split
  with_reducible (apply lowR_next; apply low_modCore; assumption; apply lowR_next; apply low_settleDouble (by omega))
  with_reducible (apply low_showFar (by omega); apply low_modCore; apply low_modCore; assumption)

theorem low_execFarTimeout {L : Nat} {s0 s : State} {a0} (hL : L ≤ 20480) (h : Low L s0 s) : LowR L s0 (execFarTimeout a0 s) := by
  unfold execFarTimeout
  with_reducible apply lowR_inst; split
  with_reducible (apply lowR_next; assumption; apply lowR_next; apply low_settleDouble (by omega); apply low_showFar (by omega))
  with_reducible (apply low_modCore; assumption)

theorem low_noteDeferral {L : Nat} {s0 s : State} {a1 a2} (hL : L ≤ 20480) (h : Low L s0 s) : Low L s0 (State.noteDeferral s a1 a2) := by
  unfold State.noteDeferral
  with_reducible (apply low_setReg (by omega); assumption)

theorem low_execTrapEntry {L : Nat} {s0 s : State} {a0 a1 a2} (hL : L ≤ 20480) (h : Low L s0 s) : LowR L s0 (execTrapEntry a0 a1 a2 s) := by
  unfold execTrapEntry
  with_reducible apply lowR_inst; dsimp only; split
  with_reducible (apply lowR_next; apply low_fire (by omega); apply low_setDspRun (by omega); apply low_noteDeferral (by omega))
  with_reducible (apply low_setReg (by omega); apply low_setReg (by omega); apply low_setReg (by omega); apply low_inc32 (by omega))
  with_reducible apply low_modCore; split; split
  with_reducible (apply low_settleDouble (by omega); apply low_modCore; apply low_inc32 (by omega); assumption)
  with_reducible (apply low_inc32 (by omega); assumption); split
  with_reducible (apply low_settleDouble (by omega); apply low_modCore; assumption; assumption; apply lowR_next); split; split
  with_reducible (apply low_settleDouble (by omega); apply low_modCore; apply low_inc32 (by omega); assumption)
  with_reducible (apply low_inc32 (by omega); assumption); split
  with_reducible (apply low_settleDouble (by omega); apply low_modCore; assumption; assumption)

theorem low_execInterruptEntry {L : Nat} {s0 s : State} {a0 a1} (hL : L ≤ 20480) (h : Low L s0 s) : LowR L s0 (execInterruptEntry a0 a1 s) := by
  unfold execInterruptEntry
  with_reducible apply lowR_inst; split; dsimp only
  with_reducible (apply lowR_next; apply low_setDspRun (by omega); apply low_noteDeferral (by omega); apply low_inc64 (by omega))
  with_reducible (apply low_modCore; apply low_takeInput; assumption; apply lowR_next; assumption)

theorem low_dspLoad {L : Nat} {s0 s : State} {a1} (h : Low L s0 s) : Low L s0 (State.dspLoad s a1) := by
  unfold State.dspLoad
  dsimp only; with_reducible (apply low_modCore; assumption)

theorem low_dspImageLive {L : Nat} {s0 s : State} {a1} (hL : L ≤ 20480) (h : Low L s0 s) : Low L s0 (State.dspImageLive s a1) := by
  unfold State.dspImageLive
  dsimp only; split; split
  with_reducible (apply low_inc32 (by omega); apply low_modCore; apply low_setReg (by omega); assumption; apply low_modCore)
  with_reducible (apply low_modCore; apply low_setReg (by omega); assumption); split
  with_reducible (apply low_inc32 (by omega); apply low_modCore; apply low_setReg (by omega); assumption; apply low_modCore)
  with_reducible (apply low_modCore; apply low_setReg (by omega); assumption)

theorem low_execImageApply {L : Nat} {s0 s : State} {a0} (hL : L ≤ 20480) (h : Low L s0 s) : LowR L s0 (execImageApply a0 s) := by
  unfold execImageApply
  with_reducible apply lowR_inst; dsimp only; split
  with_reducible (apply lowR_next; apply low_setDspRun (by omega); apply low_inc32 (by omega); apply low_modCore; assumption)
  with_reducible (apply lowR_next; assumption)

theorem low_execImageLoadComplete {L : Nat} {s0 s : State} {a0} (hL : L ≤ 20480) (h : Low L s0 s) : LowR L s0 (execImageLoadComplete a0 s) := by
  unfold execImageLoadComplete
  with_reducible apply lowR_inst; split
  with_reducible (apply lowR_next; apply low_setDspRun (by omega); apply low_modCore; apply low_dspLoad; assumption; apply lowR_next)
  with_reducible assumption

theorem low_dspEnabling {L : Nat} {s0 s : State} {a1} (hL : L ≤ 20480) (h : Low L s0 s) : Low L s0 (State.dspEnabling s a1) := by
  unfold State.dspEnabling
  dsimp only; with_reducible (apply low_setDspRun (by omega); apply low_each; apply low_modCore; apply low_dspLoad; assumption)
  intro _ _ _; with_reducible (apply low_setInput; assumption)

theorem low_dspTurnsOn {L : Nat} {s0 s : State} {a1} (hL : L ≤ 20480) (h : Low L s0 s) : Low L s0 (State.dspTurnsOn s a1) := by
  unfold State.dspTurnsOn
  with_reducible (apply low_setDspRun (by omega); assumption)

theorem low_dspDisabling {L : Nat} {s0 s : State} {a1} (hL : L ≤ 20480) (h : Low L s0 s) : Low L s0 (State.dspDisabling s a1) := by
  unfold State.dspDisabling
  dsimp only; with_reducible apply low_setDspRun (by omega); split; with_reducible (apply low_modCore; assumption); split
  with_reducible (apply low_modCore; assumption; apply low_modCore; assumption)

theorem low_dspTurnsOff {L : Nat} {s0 s : State} {a1} (hL : L ≤ 20736) (h : Low L s0 s) : Low L s0 (State.dspTurnsOff s a1) := by
  unfold State.dspTurnsOff
  split; with_reducible (apply low_inc32 (by omega); apply low_modCore; assumption; assumption)

theorem low_cmdDspHalt {L : Nat} {s0 s : State} {a0} (hL : L ≤ 20480) (h : Low L s0 s) : LowV L s0 (cmdDspHalt a0 s) := by
  unfold cmdDspHalt
  dsimp only; with_reducible apply lowV_ok; split; with_reducible (apply low_setDspRun (by omega); apply low_modCore; assumption); split
  with_reducible (apply low_modCore; assumption; assumption)

theorem low_cmdDspResume {L : Nat} {s0 s : State} {a0} (hL : L ≤ 20480) (h : Low L s0 s) : LowV L s0 (cmdDspResume a0 s) := by
  unfold cmdDspResume
  with_reducible (apply lowV_accept; apply low_setDspRun (by omega); apply low_modCore; assumption)

theorem low_cmdDspStep {L : Nat} {s0 s : State} {a0} (hL : L ≤ 20480) (h : Low L s0 s) : LowV L s0 (cmdDspStep a0 s) := by
  unfold cmdDspStep
  with_reducible (apply lowV_accept; apply low_setDspRun (by omega); apply low_modCore; assumption)

theorem low_execBreakpointHit {L : Nat} {s0 s : State} {a0} (hL : L ≤ 20480) (h : Low L s0 s) : LowR L s0 (execBreakpointHit a0 s) := by
  unfold execBreakpointHit
  with_reducible apply lowR_inst; split
  with_reducible (apply lowR_next; apply low_setDspRun (by omega); apply low_modCore; assumption; apply lowR_next; assumption)

theorem low_setDspRegs {L : Nat} {s0 s : State} {a1 a2} (h : Low L s0 s) : Low L s0 (State.setDspRegs s a1 a2) := by
  unfold State.setDspRegs
  dsimp only; with_reducible (apply low_modCore; assumption)

theorem low_dspTick {L : Nat} {s0 s : State} (h : Low L s0 s) : Low L s0 (State.dspTick s) := by
  unfold State.dspTick
  with_reducible (apply low_each; assumption); intro _ _ _; with_reducible (apply low_modCore; assumption)

theorem low_checkImage {L : Nat} {s0 s : State} {a1 a2} (hL : L ≤ 20736) (h : Low L s0 s) : LowP L s0 (State.checkImage s a1 a2) := by
  unfold State.checkImage
  split; with_reducible (apply lowP_mk; assumption; apply lowP_mk; apply low_setReg (by omega); apply low_setReg (by omega); assumption)

end Sys2Proof.Machine
end

