-- ==== Sys2Proof/Laws/LowUnits.lean ====
section
/-! SUPPORT. The lowest entry each definition of Machine/Units.lean may change (Low). -/

set_option Elab.async false

namespace Sys2Proof.Machine

set_option linter.unusedVariables false

theorem low_startEnabling {L : Nat} {s0 s : State} {a1 a2} (hL : L ≤ 9232) (hi2 : L ≤ a2) (h : Low L s0 s) : Low L s0 (State.startEnabling s a1 a2) := by
  unfold State.startEnabling
  split; with_reducible (apply low_groupEnabling (by omega) (by omega); assumption; apply low_cribEnabling (by omega); assumption)
  with_reducible (apply low_monitorEnabling (by omega); assumption; apply low_frontEnabling (by omega); assumption)
  with_reducible (apply low_cameraEnabling (by omega); assumption; apply low_doveEnabling (by omega); assumption)
  with_reducible (apply low_gleanEnabling (by omega); assumption; apply low_scalerEnabling (by omega); assumption)
  with_reducible (apply low_dspEnabling (by omega); assumption; apply low_modAxis; assumption; apply low_each; assumption); intro _ _ _
  split; with_reducible (apply low_setReg (by omega); assumption; assumption; assumption; assumption; assumption; assumption; assumption)
  with_reducible (assumption; assumption; assumption; assumption; assumption)

theorem low_reachOn {L : Nat} {s0 s : State} {a1 a2} (hL : L ≤ 9232) (hi2 : L ≤ a2) (h : Low L s0 s) : LowO L s0 (State.reachOn s a1 a2) := by
  unfold State.reachOn
  dsimp only; split
  with_reducible (apply lowO_some; apply low_setReg (by omega); assumption; apply lowO_some; apply low_setReg (by omega); assumption)
  with_reducible (apply lowO_some; apply low_setReg (by omega); assumption; apply lowO_some; apply low_setReg (by omega); assumption)
  with_reducible (apply lowO_some; apply low_setReg (by omega); assumption; apply lowO_some; apply low_channelReaches)
  with_reducible (apply low_setReg (by omega); assumption; apply lowO_some; apply low_groupOn (by omega) (by omega); assumption)
  with_reducible (apply lowO_some; apply low_cribTurnsOn (by omega); apply low_setReg (by omega); assumption; apply lowO_some)
  with_reducible (apply low_jigOn (by omega); apply low_setReg (by omega); assumption; apply lowO_some)
  with_reducible (apply low_winnowTurnsOn (by omega); apply low_setReg (by omega); assumption; apply lowO_some)
  with_reducible (apply low_dspTurnsOn (by omega); apply low_setReg (by omega); assumption; apply lowO_some)
  with_reducible (apply low_dmaTurnsOn (by omega); apply low_setReg (by omega); assumption); split
  with_reducible (apply lowO_none; apply lowO_some; apply low_axisStart (by omega); assumption; apply lowO_some)
  with_reducible (apply low_genStart (by omega); assumption; apply lowO_some; apply low_counterOn; apply low_setReg (by omega))
  with_reducible (assumption; apply lowO_none; apply lowO_none; apply lowO_none; apply lowO_none; apply lowO_none; apply lowO_none)

theorem low_toDisabling {L : Nat} {s0 s : State} {a1 a2} (hi1 : L ≤ a1) (h : Low L s0 s) : Low L s0 (State.toDisabling s a1 a2) := by
  unfold State.toDisabling
  with_reducible apply low_setReg (by omega); split; with_reducible (assumption; apply low_setReg (by omega); assumption)

theorem low_startDisabling {L : Nat} {s0 s : State} {a1 a2 a3} (hL : L ≤ 4112) (h : Low L s0 s) : Low L s0 (State.startDisabling s a1 a2 a3) := by
  unfold State.startDisabling
  split; with_reducible (apply low_closePort (by omega); assumption; apply low_groupDisabling (by omega); assumption)
  with_reducible (apply low_cribDisabling (by omega); assumption; apply low_cameraDisabling; assumption)
  with_reducible (apply low_frontDisabling (by omega); assumption; apply low_doveDisabling; assumption)
  with_reducible (apply low_gleanDisabling (by omega); assumption; apply low_dspDisabling (by omega); assumption)
  with_reducible (apply low_dmaAbort (by omega); assumption; apply low_axisLeaves (by omega); assumption)
  with_reducible (apply low_cancelEntries (by omega); assumption; apply low_jigDisabling (by omega); assumption); split
  with_reducible (apply low_channelLeaves; assumption; assumption; assumption; assumption; assumption; assumption; assumption)
  with_reducible (assumption; assumption; assumption)

theorem low_disableOne {L : Nat} {s0 s : State} {a1 a2 a3} (hL : L ≤ 4112) (hi2 : L ≤ a2) (h : Low L s0 s) : Low L s0 (State.disableOne s a1 a2 a3) := by
  unfold State.disableOne
  split; dsimp only; split
  with_reducible (apply low_setReg (by omega); apply low_scalerTurnsOff (by omega); apply low_startDisabling (by omega))
  with_reducible (apply low_toDisabling (by omega); assumption; apply low_startDisabling (by omega); apply low_toDisabling (by omega))
  with_reducible (assumption; apply low_startDisabling (by omega); apply low_toDisabling (by omega); assumption)
  with_reducible (apply low_toDisabling (by omega); assumption); split; with_reducible assumption; split
  with_reducible (apply low_setReg (by omega); assumption; assumption)

theorem low_turnOff {L : Nat} {s0 s : State} {a1 a2} (hL : L ≤ 9232) (hi2 : L ≤ a2) (h : Low L s0 s) : Low L s0 (State.turnOff s a1 a2) := by
  unfold State.turnOff
  split
  with_reducible (apply low_setReg (by omega); assumption; apply low_groupOff (by omega) (by omega); assumption; apply low_cribTurnsOff)
  with_reducible (assumption; apply low_jigOff (by omega); assumption; apply low_formatterTurnsOff (by omega); assumption)
  with_reducible (apply low_leaveChannel (by omega); assumption; apply low_cameraTurnsOff; assumption; apply low_winnowTurnsOff)
  with_reducible (assumption; apply low_scalerTurnsOff (by omega); assumption; apply low_signalLoss (by omega); apply low_each)
  with_reducible assumption; intro _ _ _
  with_reducible (apply low_ptpPort; apply low_setReg (by omega); assumption; apply low_dspTurnsOff (by omega); assumption; assumption)
  with_reducible (assumption; assumption; assumption; assumption; assumption; assumption; assumption; assumption; assumption)

theorem low_unitOff {L : Nat} {s0 s : State} {a1 a2} (hL : L ≤ 9232) (hi2 : L ≤ a2) (h : Low L s0 s) : Low L s0 (State.unitOff s a1 a2) := by
  unfold State.unitOff
  dsimp only; with_reducible apply low_reachOff (by omega); split
  with_reducible (apply low_setReg (by omega); apply low_turnOff (by omega) (by omega); assumption)
  with_reducible (apply low_turnOff (by omega) (by omega); assumption); intro _ _
  with_reducible (apply low_startEnabling (by omega) (by omega); assumption)

theorem low_enableUnit {L : Nat} {s0 s : State} {a1 a2} (hL : L ≤ 9232) (hi2 : L ≤ a2) (h : Low L s0 s) : LowV L s0 (State.enableUnit s a1 a2) := by
  unfold State.enableUnit
  split; with_reducible (apply lowV_ok; apply low_setReg (by omega); assumption); split; split
  with_reducible (apply lowV_ok; apply low_startEnabling (by omega) (by omega); apply low_setReg (by omega); apply low_setReg (by omega))
  with_reducible (assumption; apply lowV_error); split
  with_reducible (apply lowV_ok; apply low_setReg (by omega); apply low_setReg (by omega); assumption; apply lowV_error; apply lowV_ok)
  with_reducible (apply low_setReg (by omega); assumption)

theorem low_execEnablingComplete {L : Nat} {s0 s : State} {a0} (hL : L ≤ 9232) (hi0 : L ≤ a0) (h : Low L s0 s) : LowR L s0 (execEnablingComplete a0 s) := by
  unfold execEnablingComplete
  with_reducible apply lowR_inst; split; split
  with_reducible (apply lowR_next; apply low_getD; apply low_reachOn (by omega) (by omega); assumption; assumption; apply lowR_next)
  with_reducible (assumption; apply lowR_next; assumption)

end Sys2Proof.Machine
end

