-- ==== Sys2Proof/Laws/LowDram.lean ====
section
/-! SUPPORT. The lowest entry each definition of Machine/Dram.lean may change (Low). -/

set_option Elab.async false

namespace Sys2Proof.Machine

set_option linter.unusedVariables false

theorem low_execChannelLost {L : Nat} {s0 s : State} {a0 a1} (hL : L ≤ 22528) (h : Low L s0 s) : LowR L s0 (execChannelLost a0 a1 s) := by
  unfold execChannelLost
  with_reducible (apply lowR_inst; apply lowR_next); split; with_reducible (apply low_channelLost (by omega); assumption; assumption)

theorem low_cmdDeclareLost {L : Nat} {s0 s : State} {a0} (hL : L ≤ 22528) (h : Low L s0 s) : LowV L s0 (cmdDeclareLost a0 s) := by
  unfold cmdDeclareLost
  with_reducible (apply lowV_ok; apply low_channelLost (by omega); assumption)

theorem low_trainDraw {L : Nat} {s0 s : State} (h : Low L s0 s) : Low L s0 ((State.trainDraw s).2.2) := by
  unfold State.trainDraw
  dsimp only
  with_reducible (apply low_snd; apply low_draw; apply low_snd; apply low_draw; assumption)

theorem low_zeroUnprotected {L : Nat} {s0 s : State} {a1} (h : Low L s0 s) : Low L s0 (State.zeroUnprotected s a1) := by
  unfold State.zeroUnprotected
  dsimp only; with_reducible apply low_setDdr; apply low_mk; with_reducible assumption

theorem low_cmdRebuild {L : Nat} {s0 s : State} {a0} (hL : L ≤ 22544) (h : Low L s0 s) : LowV L s0 (cmdRebuild a0 s) := by
  unfold cmdRebuild
  split; with_reducible apply lowV_error; dsimp only; split
  with_reducible (apply lowV_ok; apply low_setReg (by omega); apply low_trainDraw; assumption; apply lowV_ok; apply low_modChan)
  with_reducible (apply low_zeroUnprotected; apply low_setReg (by omega); apply low_setReg (by omega); apply low_takeDelays (by omega))
  with_reducible (apply low_trainDraw; assumption)

theorem low_rebuildUnit {L : Nat} {s0 s : State} {a1 a2} (hL : L ≤ 22544) (h : Low L s0 s) : Low L s0 (State.rebuildUnit s a1 a2) := by
  unfold State.rebuildUnit
  dsimp only; with_reducible (apply low_setReg (by omega); apply low_modChan); split
  with_reducible (apply low_deviceWrite (by omega); apply low_each; assumption); intro _ _ _
  with_reducible (apply low_deviceRead (by omega); assumption; apply low_markUnit; apply low_deviceWrite (by omega); apply low_each)
  with_reducible assumption; intro _ _ _; with_reducible (apply low_deviceRead (by omega); assumption)

theorem low_rebuildTick {L : Nat} {s0 s : State} {a1} (hL : L ≤ 22544) (h : Low L s0 s) : Low L s0 (State.rebuildTick s a1) := by
  unfold State.rebuildTick
  dsimp only; with_reducible (apply low_each; apply low_modChan; assumption); intro _ _ _
  with_reducible (apply low_rebuildUnit (by omega); assumption)

theorem low_dramTick {L : Nat} {s0 s : State} (hL : L ≤ 22529) (h : Low L s0 s) : Low L s0 (State.dramTick s) := by
  unfold State.dramTick
  dsimp only; split; with_reducible (apply low_each; assumption); intro _ _ _
  with_reducible (apply low_rebuildTick (by omega); assumption; apply low_inc64 (by omega); apply low_each; assumption); intro _ _ _
  with_reducible (apply low_rebuildTick (by omega); assumption)

theorem low_rebuildRest {L : Nat} {s0 s : State} {a1} (hL : L ≤ 22544) (h : Low L s0 s) : Low L s0 (State.rebuildRest s a1) := by
  unfold State.rebuildRest
  dsimp only; with_reducible (apply low_modChan; apply low_inc64 (by omega); apply low_each; apply low_each; assumption); intro _ _ _
  with_reducible (apply low_markUnit; apply low_putUnit; assumption); intro _ _ _; with_reducible (apply low_inc64 (by omega); assumption)

theorem low_execRebuildComplete {L : Nat} {s0 s : State} {a0} (hL : L ≤ 22544) (h : Low L s0 s) : LowR L s0 (execRebuildComplete a0 s) := by
  unfold execRebuildComplete
  with_reducible apply lowR_inst; split; dsimp only
  with_reducible (apply lowR_next; apply low_faultRecord (by omega); apply low_setReg (by omega); apply low_setReg (by omega))
  with_reducible (apply low_rebuildRest (by omega); assumption; apply lowR_next; assumption)

theorem low_execDramRead {L : Nat} {s0 s : State} {a0 a1 a2} (hL : L ≤ 22528) (h : Low L s0 s) : LowR L s0 (execDramRead a0 a1 a2 s) := by
  unfold execDramRead
  with_reducible apply lowR_inst; split; with_reducible (apply lowR_next; assumption); split; with_reducible (apply lowR_next; assumption)
  dsimp only; split
  with_reducible (apply lowR_next; apply low_enqueue (by omega); apply low_meterU (by omega); assumption; apply lowR_next)
  with_reducible (apply low_readUnit (by omega); apply low_meterU (by omega); assumption)

theorem low_execScrubRead {L : Nat} {s0 s : State} {a0 a1} (hL : L ≤ 22528) (h : Low L s0 s) : LowR L s0 (execScrubRead a0 a1 s) := by
  unfold execScrubRead
  with_reducible apply lowR_inst; split; dsimp only; with_reducible apply lowR_next; split; split
  with_reducible (apply low_deviceWrite (by omega); apply low_readUnit (by omega); apply low_modChan; assumption)
  with_reducible (apply low_readUnit (by omega); apply low_modChan; assumption); split
  with_reducible (apply low_deviceWrite (by omega); apply low_readUnit (by omega); apply low_modChan; assumption)
  with_reducible (apply low_readUnit (by omega); apply low_modChan; assumption; apply lowR_next; assumption)

theorem low_execParityEngineWrite {L : Nat} {s0 s : State} {a0 a1} (hL : L ≤ 22529) (h : Low L s0 s) : LowR L s0 (execParityEngineWrite a0 a1 s) := by
  unfold execParityEngineWrite
  split; with_reducible (apply lowR_next; apply low_store (by omega); assumption; apply lowR_next; assumption)

theorem low_execAssemblyClose {L : Nat} {s0 s : State} {a0} (hL : L ≤ 22529) (h : Low L s0 s) : LowR L s0 (execAssemblyClose a0 s) := by
  unfold execAssemblyClose
  split
  with_reducible (apply lowR_next; apply low_admitWriters (by omega); apply low_closeAssembly (by omega); assumption; apply lowR_next)
  with_reducible assumption

theorem low_flushEngine {L : Nat} {s0 s : State} (hL : L ≤ 22529) (h : Low L s0 s) : Low L s0 (State.flushEngine s) := by
  unfold State.flushEngine
  dsimp only; with_reducible (apply low_each; apply low_each; assumption); intro _ _ _
  with_reducible (apply low_closeAssembly (by omega); assumption); intro _ _ _
  with_reducible (apply low_closeStripe (by omega); assumption)

theorem low_refresh {L : Nat} {s0 s : State} {a1 a2} (hL : L ≤ 22544) (h : Low L s0 s) : Low L s0 (State.refresh s a1 a2) := by
  unfold State.refresh
  dsimp only; split
  with_reducible (apply low_takeDelays (by omega); apply low_modChan; apply low_closeRows (by omega); assumption; apply low_modChan)
  with_reducible (apply low_closeRows (by omega); assumption)

theorem low_execRefreshDue {L : Nat} {s0 s : State} {a0 a1 a2} (hL : L ≤ 22544) (h : Low L s0 s) : LowR L s0 (execRefreshDue a0 a1 a2 s) := by
  unfold execRefreshDue
  with_reducible apply lowR_inst; split; dsimp only; split
  with_reducible (apply lowR_next; apply low_inc32 (by omega); apply low_modChan; assumption; apply lowR_next)
  with_reducible (apply low_refresh (by omega); apply low_modChan; assumption; apply lowR_next; assumption)

theorem low_execMr4Read {L : Nat} {s0 s : State} {a0 a1 a2} (hL : L ≤ 22544) (h : Low L s0 s) : LowR L s0 (execMr4Read a0 a1 a2 s) := by
  unfold execMr4Read
  with_reducible apply lowR_inst; split
  with_reducible (apply lowR_next; apply low_modChan; apply low_setReg (by omega); assumption; apply lowR_next; assumption)

theorem low_startApply {L : Nat} {s0 s : State} {a1 a2} (h : Low L s0 s) : Low L s0 (State.startApply s a1 a2) := by
  unfold State.startApply
  with_reducible (apply low_modChan; assumption)

theorem low_cmdApplyDelays {L : Nat} {s0 s : State} {a0} (h : Low L s0 s) : LowV L s0 (cmdApplyDelays a0 s) := by
  unfold cmdApplyDelays
  with_reducible (apply lowV_accept; apply low_startApply; assumption)

theorem low_cmdRecalibrate {L : Nat} {s0 s : State} {a0} (hL : L ≤ 22592) (h : Low L s0 s) : LowV L s0 (cmdRecalibrate a0 s) := by
  unfold cmdRecalibrate
  with_reducible (apply lowV_accept; apply low_setReg (by omega); assumption)

theorem low_recalRefused {L : Nat} {s0 s : State} {a1} (hL : L ≤ 22592) (h : Low L s0 s) : Low L s0 (State.recalRefused s a1) := by
  unfold State.recalRefused
  with_reducible (apply low_setReg (by omega); assumption)

theorem low_recalDone {L : Nat} {s0 s : State} {a1 a2 a3} (hL : L ≤ 22528) (h : Low L s0 s) : Low L s0 (State.recalDone s a1 a2 a3) := by
  unfold State.recalDone
  dsimp only; split
  with_reducible (apply low_channelLost (by omega); apply low_setReg (by omega); apply low_setReg (by omega); assumption)
  with_reducible (apply low_startApply; apply low_setReg (by omega); apply low_setReg (by omega); assumption)

theorem low_execRecalWindow {L : Nat} {s0 s : State} {a0 a1 a2 a3} (hL : L ≤ 22528) (h : Low L s0 s) : LowR L s0 (execRecalWindow a0 a1 a2 a3 s) := by
  unfold execRecalWindow
  with_reducible apply lowR_inst; split; split; with_reducible (apply lowR_next; apply low_goOffline (by omega); assumption); dsimp only
  with_reducible apply lowR_next; split
  with_reducible (apply low_recalDone (by omega); apply low_backOnline (by omega); assumption; apply low_backOnline (by omega))
  with_reducible (assumption; apply lowR_next; assumption; apply lowR_next; assumption)

theorem low_cmdFreqChange {L : Nat} {s0 s : State} (hL : L ≤ 22528) (h : Low L s0 s) : LowV L s0 (cmdFreqChange s) := by
  unfold cmdFreqChange
  with_reducible (apply lowV_accept; apply low_setReg (by omega); apply low_setDdr; assumption)

theorem low_freqRefused {L : Nat} {s0 s : State} (hL : L ≤ 22528) (h : Low L s0 s) : Low L s0 (State.freqRefused s) := by
  unfold State.freqRefused
  with_reducible (apply low_setReg (by omega); assumption)

theorem low_freqDone {L : Nat} {s0 s : State} (hL : L ≤ 22528) (h : Low L s0 s) : Low L s0 (State.freqDone s) := by
  unfold State.freqDone
  dsimp only; with_reducible (apply low_setDdr; apply low_setReg (by omega); apply low_setReg (by omega); apply low_each; assumption)
  intro _ _ _; with_reducible (apply low_setReg (by omega); apply low_setReg (by omega); assumption)

theorem low_execChannelFreqSwitch {L : Nat} {s0 s : State} (hL : L ≤ 22528) (h : Low L s0 s) : LowR L s0 (execChannelFreqSwitch s) := by
  unfold execChannelFreqSwitch
  split; with_reducible (apply lowR_next; assumption); split; with_reducible (apply lowR_next; apply low_goOffline (by omega); assumption)
  dsimp only; with_reducible apply lowR_next; split
  with_reducible (apply low_freqDone (by omega); apply low_backOnline (by omega); assumption; apply low_backOnline (by omega))
  with_reducible (assumption; apply lowR_next; assumption)

theorem low_trainChannel {L : Nat} {s0 s : State} {a1} (hL : L ≤ 22528) (h : Low L s0 s) : Low L s0 (State.trainChannel s a1) := by
  unfold State.trainChannel
  dsimp only; split; with_reducible (apply low_channelLost (by omega); apply low_takeDelays (by omega); apply low_trainDraw; assumption)
  with_reducible (apply low_takeDelays (by omega); apply low_trainDraw; assumption)

theorem low_noTable {L : Nat} {s0 s : State} (hL : L ≤ 22528) (h : Low L s0 s) : Low L s0 (State.noTable s) := by
  unfold State.noTable
  with_reducible (apply low_setReg (by omega); apply low_setReg (by omega); apply low_setReg (by omega); apply low_setReg (by omega))
  with_reducible assumption

theorem low_dramStart {L : Nat} {s0 s : State} (hL : L ≤ 22528) (h : Low L s0 s) : Low L s0 (State.dramStart s) := by
  unfold State.dramStart
  dsimp only; split; split
  with_reducible (apply low_setReg (by omega); apply low_setReg (by omega); apply low_setReg (by omega); assumption)
  with_reducible (apply low_setReg (by omega); apply low_each; apply low_setReg (by omega); apply low_setReg (by omega))
  with_reducible (apply low_setReg (by omega); assumption); intro _ _ _
  with_reducible (apply low_trainChannel (by omega); assumption; apply low_setReg (by omega); apply low_each)
  with_reducible (apply low_noTable (by omega); assumption); intro _ _ _; with_reducible (apply low_trainChannel (by omega); assumption)

theorem low_dramAfter {L : Nat} {s0 s : State} {a1 a2 a3} (hL : L ≤ 22528) (h : Low L s0 s) : Low L s0 (dramAfter s a1 a2 a3) := by
  unfold dramAfter
  split; dsimp only; with_reducible (apply low_setReg (by omega); apply low_setReg (by omega); apply low_setReg (by omega))
  with_reducible (apply low_flushEngine (by omega); apply low_setReg (by omega); assumption; assumption)

end Sys2Proof.Machine
end

