-- ==== Sys2Proof/Laws/LowPower.lean ====
section
/-! SUPPORT. The lowest entry each definition of Machine/Power.lean may change (Low). -/

set_option Elab.async false

namespace Sys2Proof.Machine

set_option linter.unusedVariables false

theorem low_modPower {L : Nat} {s0 s : State} {a1} (h : Low L s0 s) : Low L s0 (State.modPower s a1) := by
  unfold State.modPower
  apply low_mk; with_reducible assumption

theorem low_setPw {L : Nat} {s0 s : State} {a1} (hL : L ≤ 8192) (h : Low L s0 s) : Low L s0 (State.setPw s a1) := by
  unfold State.setPw
  with_reducible (apply low_setReg (by omega); assumption)

theorem low_nvRecord {L : Nat} {s0 s : State} {a1 a2 a3 a4} (hL : L ≤ 29824) (h : Low L s0 s) : Low L s0 (State.nvRecord s a1 a2 a3 a4) := by
  unfold State.nvRecord
  split; with_reducible (apply low_nvPlace (by omega); apply low_of_pair (by assumption); apply low_draw; assumption)

theorem low_showChecks {L : Nat} {s0 s : State} (hL : L ≤ 30720) (h : Low L s0 s) : Low L s0 (State.showChecks s) := by
  unfold State.showChecks
  dsimp only; split
  with_reducible (apply low_setReg (by omega); assumption; apply low_setReg (by omega); apply low_setReg (by omega); assumption)

theorem low_execDictionaryReachable {L : Nat} {s0 s : State} {a0 a1 a2} (hL : L ≤ 4096) (h : Low L s0 s) : LowR L s0 (execDictionaryReachable a0 a1 a2 s) := by
  unfold execDictionaryReachable
  with_reducible apply lowR_next; split; with_reducible assumption; dsimp only; split; apply low_mk
  with_reducible (apply low_modPower; apply low_setReg (by omega); apply low_setReg (by omega); apply low_runSlot (by omega))
  with_reducible (apply low_each; apply low_setPair (by omega); apply low_setPair (by omega); apply low_setReg (by omega))
  with_reducible (apply low_setReg (by omega); apply low_showChecks (by omega); assumption); intro _ _ _
  with_reducible (apply low_setReg (by omega); assumption; apply low_modPower; apply low_setReg (by omega); apply low_each)
  with_reducible (apply low_setPair (by omega); apply low_setPair (by omega); apply low_setReg (by omega); apply low_setReg (by omega))
  with_reducible (apply low_showChecks (by omega); assumption); intro _ _ _; with_reducible (apply low_setReg (by omega); assumption)

theorem low_placeBay {L : Nat} {s0 s : State} {a1 a2 a3} (hL : L ≤ 8448) (h : Low L s0 s) : Low L s0 (State.placeBay s a1 a2 a3) := by
  unfold State.placeBay
  dsimp only; split; with_reducible (assumption; apply low_showBay (by omega); apply low_each; apply low_each; assumption); intro _ _ _
  split; with_reducible (apply low_setTileState (by omega); assumption); split
  with_reducible (apply low_setTileState (by omega); assumption); split
  with_reducible (apply low_setTileState (by omega); assumption; apply low_setTileState (by omega); assumption); intro _ _ _
  with_reducible (apply low_setPlacement (by omega); assumption)

theorem low_placeTiles {L : Nat} {s0 s : State} {a1} (hL : L ≤ 8448) (h : Low L s0 s) : Low L s0 (State.placeTiles s a1) := by
  unfold State.placeTiles
  dsimp only; with_reducible (apply low_setReg (by omega); apply low_each; apply low_each; assumption); intro _ _ _
  with_reducible (apply low_placeBay (by omega); assumption); intro _ _ _; with_reducible (apply low_faultRecord (by omega); assumption)

theorem low_failLanes {L : Nat} {s0 s : State} {a1} (hL : L ≤ 9232) (h : Low L s0 s) : Low L s0 (State.failLanes s a1) := by
  unfold State.failLanes
  dsimp only; with_reducible (apply low_setReg (by omega); apply low_each; assumption); intro _ _ _; split
  with_reducible (apply low_setLaneState (by omega); assumption; apply low_setReg (by omega); assumption)

theorem low_shimMap {L : Nat} {s0 s : State} {a1} (h : Low L s0 s) : Low L s0 (State.shimMap s a1) := by
  unfold State.shimMap
  with_reducible (apply low_each; assumption); intro _ _ _; with_reducible (apply low_setTile; assumption)

theorem low_execBootComplete {L : Nat} {s0 s : State} {a0 a1 a2} (hL : L ≤ 8192) (h : Low L s0 s) : LowR L s0 (execBootComplete a0 a1 a2 s) := by
  unfold execBootComplete
  with_reducible apply lowR_next; split; dsimp only; split
  with_reducible (apply low_setReg (by omega); apply low_nvRecord (by omega); apply low_setReg (by omega); apply low_setReg (by omega))
  with_reducible (apply low_setPw (by omega); apply low_failLanes (by omega); apply low_shimMap; apply low_placeTiles (by omega))
  with_reducible (apply low_dramStart (by omega); assumption; apply low_nvRecord (by omega); apply low_setReg (by omega))
  with_reducible (apply low_setReg (by omega); apply low_setPw (by omega); apply low_failLanes (by omega); apply low_shimMap)
  with_reducible (apply low_placeTiles (by omega); apply low_dramStart (by omega); assumption; assumption)

theorem low_cmdWake {L : Nat} {s0 s : State} (hL : L ≤ 8192) (h : Low L s0 s) : LowV L s0 (cmdWake s) := by
  unfold cmdWake
  split
  with_reducible (apply lowV_ok; apply low_setReg (by omega); assumption; apply lowV_accept; apply low_setPw (by omega); assumption)

theorem low_abandonWork {L : Nat} {s0 s : State} {a1 a2} (hL : L ≤ 17536) (h : Low L s0 s) : Low L s0 (State.abandonWork s a1 a2) := by
  unfold State.abandonWork
  split; apply low_mk
  with_reducible (assumption; apply low_modCam; assumption; apply low_modFront; assumption; apply low_modDove; assumption)
  with_reducible (apply low_gleanStop (by omega); assumption); dsimp only
  with_reducible (apply low_setDspRun (by omega); apply low_dropRequests; apply low_showFar (by omega); apply low_modCore; assumption)
  with_reducible (apply low_setDmaRun (by omega); apply low_lockEnd; apply low_modDma; assumption; apply low_modList; assumption)
  with_reducible (apply low_modGen; assumption; assumption)

theorem low_keepLoss {L : Nat} {s0 s : State} (h : Low L s0 s) : Low L s0 (State.keepLoss s) := by
  unfold State.keepLoss
  dsimp only; apply low_mk; with_reducible assumption

theorem low_stopOtherPort {L : Nat} {s0 s : State} (hL : L ≤ 4112) (h : Low L s0 s) : Low L s0 (State.stopOtherPort s) := by
  unfold State.stopOtherPort
  dsimp only; split
  with_reducible (assumption; apply low_setReg (by omega); apply low_setReg (by omega); apply low_closePort (by omega); assumption)

theorem low_reloadWeights {L : Nat} {s0 s : State} (hL : L ≤ 14336) (h : Low L s0 s) : Low L s0 (State.reloadWeights s) := by
  unfold State.reloadWeights
  with_reducible (apply low_each; assumption); intro _ _ _; with_reducible (apply low_each; assumption); intro _ _ _; split
  with_reducible (apply low_loadSlots (by omega); assumption; assumption)

theorem low_restartRef {L : Nat} {s0 s : State} (hL : L ≤ 24576) (h : Low L s0 s) : Low L s0 (State.restartRef s) := by
  unfold State.restartRef
  split; with_reducible (assumption; apply low_reselect (by omega); apply low_enterRef (by omega)); apply low_mk
  with_reducible assumption

theorem low_sensorTest {L : Nat} {s0 s : State} {a1} (hL : L ≤ 27200) (h : Low L s0 s) : Low L s0 (State.sensorTest s a1) := by
  unfold State.sensorTest
  dsimp only; with_reducible (apply low_each; apply low_setReg (by omega); apply low_setReg (by omega); apply low_modPower; assumption)
  intro _ _ _; with_reducible (apply low_faultRecord (by omega); assumption)

theorem low_junction {L : Nat} {s0 s : State} {a1 a2} (hL : L ≤ 29696) (h : Low L s0 s) : Low L s0 (State.junction s a1 a2) := by
  unfold State.junction
  dsimp only
  with_reducible (apply low_setReg (by omega); apply low_setReg (by omega); apply low_setReg (by omega); apply low_each; assumption)
  intro _ _ _; with_reducible (apply low_setReg (by omega); apply low_setReg (by omega); assumption)

theorem low_thermalState {L : Nat} {s0 s : State} (hL : L ≤ 8192) (h : Low L s0 s) : Low L s0 (State.thermalState s) := by
  unfold State.thermalState
  dsimp only; with_reducible (apply low_setReg (by omega); apply low_setReg (by omega); apply low_modPower); split
  with_reducible apply low_inc32 (by omega); split
  with_reducible (apply low_whenB; apply low_inc32 (by omega); apply low_setReg (by omega); assumption); intro _ _
  with_reducible (apply low_fire (by omega); assumption; apply low_setReg (by omega); assumption); split
  with_reducible (apply low_whenB; apply low_inc32 (by omega); apply low_setReg (by omega); assumption); intro _ _
  with_reducible (apply low_fire (by omega); assumption; apply low_setReg (by omega); assumption)

theorem low_drainDeferred {L : Nat} {s0 s : State} (hL : L ≤ 29824) (h : Low L s0 s) : Low L s0 (State.drainDeferred s) := by
  unfold State.drainDeferred
  split; dsimp only; with_reducible (apply low_each; apply low_modPower; assumption); intro _ _ _
  with_reducible (apply low_nvPlace (by omega); assumption; assumption)

theorem low_roundTimes {L : Nat} {s0 s : State} (hL : L ≤ 8192) (h : Low L s0 s) : Low L s0 (State.roundTimes s) := by
  unfold State.roundTimes
  dsimp only; split; split
  with_reducible (apply low_inc64 (by omega); apply low_inc64 (by omega); apply low_inc64 (by omega); assumption)
  with_reducible (apply low_inc64 (by omega); apply low_inc64 (by omega); assumption); split
  with_reducible (apply low_inc64 (by omega); apply low_inc64 (by omega); assumption; apply low_inc64 (by omega); assumption)

end Sys2Proof.Machine
end

