-- ==== Sys2Proof/Laws/LowDictSvc.lean ====
section
/-! SUPPORT. The lowest entry each definition of Machine/DictSvc.lean may change (Low). -/

set_option Elab.async false

namespace Sys2Proof.Machine

set_option linter.unusedVariables false

theorem low_domCheck {L : Nat} {s0 s : State} {a1 a2 a3 a4} (hL : L ≤ 20736) (h : Low L s0 s) : LowP L s0 (State.domCheck s a1 a2 a3 a4) := by
  unfold State.domCheck
  split; with_reducible (apply lowP_mk; assumption; apply lowP_mk; assumption; apply lowP_mk; assumption; apply lowP_mk; assumption)
  with_reducible (apply lowP_mk; assumption; apply low_checkImage (by omega); assumption; apply lowP_mk; assumption; apply lowP_mk)
  with_reducible assumption

theorem low_stagedChanged {L : Nat} {s0 s : State} {a1} (h : Low L s0 s) : Low L s0 (State.stagedChanged s a1) := by
  unfold State.stagedChanged
  with_reducible (apply low_foldl; assumption); intro _ _ _; split; with_reducible (assumption; apply low_bumpDom; assumption)

theorem low_setStaged {L : Nat} {s0 s : State} {a1 a2} (h : Low L s0 s) : Low L s0 (State.setStaged s a1 a2) := by
  unfold State.setStaged
  with_reducible apply low_stagedChanged; apply low_mk; with_reducible assumption

theorem low_stage {L : Nat} {s0 s : State} {a1 a2 a3} (hL : L ≤ 22529) (h : Low L s0 s) : LowV L s0 (State.stage s a1 a2 a3) := by
  unfold State.stage
  split; with_reducible apply lowV_error; dsimp only; with_reducible apply lowV_ok; split; split
  with_reducible (apply low_keepWeights (by omega); apply low_setStaged; apply low_whenB; assumption); intro _ _
  with_reducible (apply low_inc32 (by omega); assumption; apply low_setStaged; apply low_whenB; assumption); intro _ _
  with_reducible (apply low_inc32 (by omega); assumption; apply low_setStaged; apply low_whenB; assumption); intro _ _
  with_reducible (apply low_inc32 (by omega); assumption)

theorem low_liveWrite {L : Nat} {s0 s : State} {a1 a2} (h : Low L s0 s) : Low L s0 (State.liveWrite s a1 a2) := by
  unfold State.liveWrite
  dsimp only; apply low_mk; with_reducible (apply low_whenB; assumption); intro _ _
  with_reducible (apply low_inc32 (by omega); assumption)

theorem low_idleChanged {L : Nat} {s0 s : State} {a1 a2} (hL : L ≤ 4143) (h : Low L s0 s) : Low L s0 (State.idleChanged s a1 a2) := by
  unfold State.idleChanged
  with_reducible (apply low_each; assumption); intro _ _ _; split
  with_reducible (apply low_setReg (by simp only [sessIdx]; omega); assumption; assumption)

theorem low_windowMoved {L : Nat} {s0 s : State} {a1} (h : Low L s0 s) : Low L s0 (State.windowMoved s a1) := by
  unfold State.windowMoved
  split; with_reducible (apply low_bumpDom; assumption; apply low_bumpDom; assumption)

theorem low_setLive {L : Nat} {s0 s : State} {a1 a2 a3} (hL : L ≤ 4143) (hi1 : L ≤ a1) (h : Low L s0 s) : Low L s0 (State.setLive s a1 a2 a3) := by
  unfold State.setLive
  dsimp only; split; split
  with_reducible (apply low_idleChanged (by omega); apply low_setReg (by omega); assumption; apply low_setReg (by omega); assumption)
  split; with_reducible (apply low_stagedChanged; apply low_setReg (by omega); assumption; apply low_setReg (by omega); assumption)
  with_reducible (apply low_sheafAfter (by omega); apply low_setReg (by omega); assumption; apply low_sheafAfter (by omega))
  with_reducible (apply low_setReg (by omega); assumption); split
  with_reducible (apply low_forgetSeqs; apply low_setReg (by omega); assumption; apply low_setReg (by omega); assumption)
  with_reducible (apply low_xarrayAfter; apply low_setReg (by omega); assumption; apply low_outputsAfter (by omega))
  with_reducible (apply low_setReg (by omega); assumption; apply low_outputsAfter (by omega); apply low_setReg (by omega); assumption)
  with_reducible (apply low_dramAfter (by omega); apply low_setReg (by omega); assumption; apply low_timingAfter (by omega))
  with_reducible (apply low_setReg (by omega); assumption; apply low_positionAfter (by omega); apply low_setReg (by omega); assumption)
  with_reducible (apply low_dowelAfter; apply low_setReg (by omega); assumption); split
  with_reducible (apply low_windowMoved; apply low_windowMoved; apply low_setReg (by omega); assumption; apply low_windowMoved)
  with_reducible (apply low_setReg (by omega); assumption); split
  with_reducible (apply low_setDspRegs; assumption; apply low_setReg (by omega); assumption; apply low_setReg (by omega); assumption)

theorem low_cmdCommit {L : Nat} {s0 s : State} {a0} (h : Low L s0 s) : LowV L s0 (cmdCommit a0 s) := by
  unfold cmdCommit
  split; with_reducible (apply lowV_ok; apply low_inc32 (by omega); apply low_setStaged; assumption; apply lowV_error)

theorem low_commitRefused {L : Nat} {s0 s : State} {a1 a2 a3} (h : Low L s0 s) : Low L s0 (State.commitRefused s a1 a2 a3) := by
  unfold State.commitRefused
  with_reducible (apply low_abortLog; apply low_inc32 (by omega); assumption)

theorem low_cmdDiscard {L : Nat} {s0 s : State} {a0} (h : Low L s0 s) : LowV L s0 (cmdDiscard a0 s) := by
  unfold cmdDiscard
  with_reducible (apply lowV_ok; apply low_abortLog; apply low_setStaged; assumption)

theorem low_cmdDisarm {L : Nat} {s0 s : State} {a0} (h : Low L s0 s) : LowV L s0 (cmdDisarm a0 s) := by
  unfold cmdDisarm
  split; split; with_reducible (apply lowV_error; apply lowV_ok; apply low_abortLog; apply low_setStaged; assumption; apply lowV_error)

theorem low_recheck {L : Nat} {s0 s : State} {a1 a2 a3} (hL : L ≤ 20736) (h : Low L s0 s) : LowP L s0 (State.recheck s a1 a2 a3) := by
  unfold State.recheck
  dsimp only; split; with_reducible (apply lowP_mk; assumption; apply low_domCheck (by omega); assumption)

theorem low_sift {L : Nat} {s0 s : State} {set c l} (hL : L ≤ 20736) (h : Low L s0 s) : LowP L s0 (s.sift set c l) := by
  induction l generalizing s with
  | nil => exact ⟨h⟩
  | cons p ps ih =>
    unfold State.sift
    dsimp only
    split
    · exact ⟨(ih ((low_recheck (by (try simp only [sessIdx]); omega)) h).low).low⟩
    · exact ih (low_abortLog ((low_inc32 (by (try simp only [sessIdx]); omega)) ((low_recheck (by (try simp only [sessIdx]); omega)) h).low))

theorem low_applied {L : Nat} {s0 s : State} {a1 a2 a3} (hL : L ≤ 4112) (h : Low L s0 s) : Low L s0 (State.applied s a1 a2 a3) := by
  unfold State.applied
  dsimp only; split; with_reducible (apply low_closePort (by omega); assumption; apply low_sheafAfter (by omega); assumption)
  with_reducible (apply low_cutListLive (by omega); assumption); split
  with_reducible (apply low_weightsLive (by omega); assumption; assumption; apply low_dspImageLive (by omega); assumption; assumption)

end Sys2Proof.Machine
end

