-- ==== Sys2Proof/Laws/LowCommands.lean ====
section
/-! SUPPORT. The lowest entry each definition of Machine/Commands.lean may change (Low). -/

set_option Elab.async false

namespace Sys2Proof.Machine

set_option linter.unusedVariables false

theorem low_cmdSessionClose {L : Nat} {s0 s : State} {a0 a1} (hL : L ≤ 4112) (h : Low L s0 s) : LowV L s0 (cmdSessionClose a0 a1 s) := by
  unfold cmdSessionClose
  split; with_reducible apply lowV_error; split
  with_reducible (apply lowV_error; apply lowV_ok; apply low_closeSession (by omega); assumption)

theorem low_cmdKeySet {L : Nat} {s0 s : State} {a0 a1 a2} (hL : L ≤ 4112) (h : Low L s0 s) : LowV L s0 (cmdKeySet a0 a1 a2 s) := by
  unfold cmdKeySet
  dsimp only; split; with_reducible (apply lowV_error; apply lowV_ok; apply low_closeWhere (by omega)); refine low_mk_nv ?_
  with_reducible assumption

theorem low_cmdDebug {L : Nat} {s0 s : State} {a0 a1} (hL : L ≤ 4176) (h : Low L s0 s) : LowV L s0 (cmdDebug a0 a1 s) := by
  unfold cmdDebug
  split
  with_reducible (apply lowV_accept; apply low_debugEnter (by omega); assumption; apply lowV_accept; apply low_debugLeave (by omega))
  with_reducible assumption

theorem low_inspectCmd {L : Nat} {s0 s : State} {a1 a2} (hL : L ≤ 16576) (h : Low L s0 s) : LowV L s0 (State.inspectCmd s a1 a2) := by
  unfold State.inspectCmd
  split; split; with_reducible (apply low_cmdHold (by omega); assumption; apply low_cmdSlotRelease (by omega); assumption); split
  with_reducible (apply low_cmdClearCorr; assumption); split
  with_reducible (apply low_cmdDspHalt (by omega); assumption; apply low_cmdDspResume (by omega); assumption)
  with_reducible (apply low_cmdDspStep (by omega); assumption)

theorem low_timeCmd {L : Nat} {s0 s : State} {a1 a2 a3} (hL : L ≤ 17552) (h : Low L s0 s) : LowV L s0 (State.timeCmd s a1 a2 a3) := by
  unfold State.timeCmd
  split; with_reducible (apply low_cmdScLoad; assumption); split; split
  with_reducible (apply low_cmdAdjust; assumption; apply low_cmdTbStep (by omega); assumption); split
  with_reducible (apply low_cmdPreset (by omega); assumption); split; split
  with_reducible (apply low_cmdPlace (by omega); assumption; apply low_cmdCompareClear (by omega); assumption); split
  with_reducible (apply low_cmdSoft (by omega); assumption); split; with_reducible (apply low_cmdRelease (by omega); assumption); split
  with_reducible (apply low_cmdSnapNow (by omega); assumption; apply low_cmdCounterClear; assumption)

theorem low_commandRefused {L : Nat} {s0 s : State} {a1 a2 a3 a4 a5} (hL : L ≤ 10244) (hi2 : L ≤ a2) (h : Low L s0 s) : Low L s0 (State.commandRefused s a1 a2 a3 a4 a5) := by
  unfold State.commandRefused
  split; split; with_reducible (assumption; apply low_commitRefused; assumption); split
  with_reducible (apply low_readoutRefused (by omega); assumption); split; with_reducible (apply low_recalRefused (by omega); assumption)
  split; with_reducible (apply low_freqRefused (by omega); assumption); split
  with_reducible (apply low_setReg (by omega); assumption; assumption)

theorem low_answer {L : Nat} {s0 s : State} {v : Verdict} (h : Low L s0 s) (hv : LowV L s0 v) : LowP L s0 (answer s v) := by
  unfold answer
  split
  · exact ⟨hv.low _ rfl⟩
  · exact ⟨h⟩

theorem low_result {L : Nat} {s0 s : State} {a1 a2 a3 a4 a5} (h : Low L s0 s) : Low L s0 (State.result s a1 a2 a3 a4 a5) := by
  unfold State.result
  split; apply low_mk; with_reducible (assumption; assumption)

end Sys2Proof.Machine
end

