-- ==== Sys2Proof/Laws/LowConsumers.lean ====
section
/-! SUPPORT. The lowest entry each definition of Machine/Consumers.lean may change (Low). -/

set_option Elab.async false

namespace Sys2Proof.Machine

set_option linter.unusedVariables false

theorem low_consume {L : Nat} {s0 s : State} {a1} (hL : L ≤ 10240) (h : Low L s0 s) : LowR L s0 (State.consume s a1) := by
  unfold State.consume
  split; with_reducible (apply low_execCribFreeze (by omega); assumption); split; with_reducible apply lowR_next; split
  with_reducible (apply low_dmaStartEvent (by omega); assumption; apply low_dmaAbortEvent (by omega); assumption); split
  with_reducible (apply low_execToutEvent (by omega); assumption); split; with_reducible apply lowR_next; split
  with_reducible (apply low_holdEvent; apply low_takeInput; assumption; assumption); split
  with_reducible (apply low_execDoveShift (by omega); assumption); split
  with_reducible (apply lowR_next; apply low_eventNotify; assumption); split
  with_reducible (apply lowR_next; apply low_alertDelivery (by omega); assumption); split
  with_reducible (apply lowR_next; apply low_relayEmit (by omega); assumption); split
  with_reducible (apply lowR_next; apply low_snapEvent (by omega); assumption; apply lowR_next; assumption)

theorem low_execConsumerTake {L : Nat} {s0 s : State} {a0} (hL : L ≤ 10240) (h : Low L s0 s) : LowR L s0 (execConsumerTake a0 s) := by
  unfold execConsumerTake
  with_reducible apply lowR_inst; split; with_reducible (apply low_consume (by omega); assumption; apply lowR_next; assumption)

end Sys2Proof.Machine
end

