-- ==== Sys2Proof/Laws/LowFdp.lean ====
section
/-! SUPPORT. The lowest entry each definition of Machine/Fdp.lean may change (Low). -/

set_option Elab.async false

namespace Sys2Proof.Machine

set_option linter.unusedVariables false

theorem low_setTransfer {L : Nat} {s0 s : State} {a1 a2} (h : Low L s0 s) : Low L s0 (State.setTransfer s a1 a2) := by
  unfold State.setTransfer
  with_reducible (apply low_modSession; assumption)

theorem low_domBegin {L : Nat} {s0 s : State} {a1 a2 a3 a4} (h : Low L s0 s) : LowP L s0 (State.domBegin s a1 a2 a3 a4) := by
  unfold State.domBegin
  split; with_reducible (apply lowP_mk; assumption); split; with_reducible (apply lowP_mk; assumption); split
  with_reducible (apply lowP_mk; assumption); split; with_reducible (apply lowP_mk; assumption); split
  with_reducible (apply lowP_mk; assumption); split; with_reducible (apply lowP_mk; assumption); split
  with_reducible (apply lowP_mk; assumption; apply lowP_mk; apply low_setTransfer; assumption)

theorem low_domSeg {L : Nat} {s0 s : State} {a1 a2 a3 a4 a5} (h : Low L s0 s) : LowP L s0 (State.domSeg s a1 a2 a3 a4 a5) := by
  unfold State.domSeg
  split; with_reducible (apply lowP_mk; assumption); split; with_reducible (apply lowP_mk; assumption); split
  with_reducible (apply lowP_mk; assumption); split; with_reducible (apply lowP_mk; assumption); split
  with_reducible (apply lowP_mk; assumption); split
  with_reducible (apply lowP_mk; assumption; apply lowP_mk; apply low_setTransfer; assumption)

theorem low_domCancel {L : Nat} {s0 s : State} {a1 a2 a3} (h : Low L s0 s) : LowP L s0 (State.domCancel s a1 a2 a3) := by
  unfold State.domCancel
  split; with_reducible (apply lowP_mk; assumption; apply lowP_mk; apply low_setTransfer; assumption)

theorem low_seqDone {L : Nat} {s0 s : State} {a1 a2} (hL : L ≤ 4143) (h : Low L s0 s) : Low L s0 (State.seqDone s a1 a2) := by
  unfold State.seqDone
  dsimp only; with_reducible (apply low_modSession; apply low_setReg (by simp only [sessIdx]; omega); assumption)

theorem low_respond {L : Nat} {s0 s : State} {a1 a2 a3} (hL : L ≤ 4112) (h : Low L s0 s) : Low L s0 (State.respond s a1 a2 a3) := by
  unfold State.respond
  dsimp only; split; apply low_mk; with_reducible assumption; split
  with_reducible (apply low_closeSession (by omega); apply low_sendTo (by omega); apply low_inc64 (by simp only [sessIdx]; omega))
  with_reducible apply low_modSession; apply low_mk
  with_reducible (assumption; apply low_sendTo (by omega); apply low_inc64 (by simp only [sessIdx]; omega); apply low_modSession)
  apply low_mk; with_reducible assumption

theorem low_authFail {L : Nat} {s0 s : State} (hL : L ≤ 4152) (h : Low L s0 s) : Low L s0 (State.authFail s) := by
  unfold State.authFail
  with_reducible (apply low_inc32 (by omega); assumption)

theorem low_malformed {L : Nat} {s0 s : State} (hL : L ≤ 4152) (h : Low L s0 s) : Low L s0 (State.malformed s) := by
  unfold State.malformed
  with_reducible (apply low_inc32 (by omega); assumption)

theorem low_inSession {L : Nat} {s0 s : State} {peer : Peer} {f : FdpFrame} {k : State → State} (hL : L ≤ 4143) (h : Low L s0 s)
    (hf : ∀ t, Low L s0 t → Low L s0 (k t)) : Low L s0 (s.inSession peer f k) := by
  unfold State.inSession
  dsimp only
  split
  · exact hf _ ((low_heard (by (try simp only [sessIdx]); omega)) h)
  · exact (low_authFail (by (try simp only [sessIdx]); omega)) h

theorem low_rxNotifyAck {L : Nat} {s0 s : State} {a1 a2} (hL : L ≤ 4143) (h : Low L s0 s) : Low L s0 (State.rxNotifyAck s a1 a2) := by
  unfold State.rxNotifyAck
  with_reducible (apply low_inSession (by omega); assumption); intro _ _; with_reducible (apply low_modSession; assumption)

theorem low_rxClose {L : Nat} {s0 s : State} {a1 a2} (hL : L ≤ 4112) (h : Low L s0 s) : Low L s0 (State.rxClose s a1 a2) := by
  unfold State.rxClose
  with_reducible (apply low_inSession (by omega); assumption); intro _ _; split
  with_reducible (apply low_closeSession (by omega); apply low_seqDone (by omega); assumption; assumption)

theorem low_reply {L : Nat} {s0 s : State} {a1 a2} (hL : L ≤ 4112) (h : Low L s0 s) : Low L s0 (State.reply s a1 a2) := by
  unfold State.reply
  with_reducible (apply low_portSend (by omega); assumption)

theorem low_openSession {L : Nat} {s0 s : State} {a1 a2 a3 a4} (hL : L ≤ 4143) (h : Low L s0 s) : Low L s0 (State.openSession s a1 a2 a3 a4) := by
  unfold State.openSession
  dsimp only; with_reducible (apply low_notifyBut; apply low_inc32 (by omega); apply low_heard (by omega); apply low_modSession)
  with_reducible (apply low_setReg (by simp only [sessIdx]; omega); apply low_setReg (by simp only [sessIdx]; omega))
  with_reducible (apply low_setReg (by simp only [sessIdx]; omega); apply low_setReg (by simp only [sessIdx]; omega))
  with_reducible (apply low_setReg (by simp only [sessIdx]; omega); apply low_freeSession (by omega); assumption)

theorem low_grantOpen {L : Nat} {s0 s : State} {a1 a2 a3 a4} (hL : L ≤ 4112) (h : Low L s0 s) : Low L s0 (State.grantOpen s a1 a2 a3 a4) := by
  unfold State.grantOpen
  split; with_reducible (apply low_inc32 (by omega); apply low_reply (by omega); assumption); dsimp only
  with_reducible (apply low_openSession (by omega); apply low_reply (by omega)); apply low_mk; with_reducible assumption

theorem low_rxOpen {L : Nat} {s0 s : State} {a1 a2} (hL : L ≤ 4112) (h : Low L s0 s) : Low L s0 (State.rxOpen s a1 a2) := by
  unfold State.rxOpen
  split; with_reducible (apply low_malformed (by omega); assumption); dsimp only; split; split
  with_reducible (apply low_grantOpen (by omega); assumption; apply low_authFail (by omega); assumption; apply low_authFail (by omega))
  with_reducible assumption

theorem low_rxKeyInit {L : Nat} {s0 s : State} {a1 a2} (hL : L ≤ 4112) (h : Low L s0 s) : Low L s0 (State.rxKeyInit s a1 a2) := by
  unfold State.rxKeyInit
  split; with_reducible (apply low_malformed (by omega); assumption); split
  with_reducible (apply low_authFail (by omega); assumption; apply low_reply (by omega)); refine low_mk_nv ?_; with_reducible assumption

theorem low_arrive {L : Nat} {s0 s : State} {a1 a2} (hL : L ≤ 4112) (h : Low L s0 s) : Low L s0 (State.arrive s a1 a2) := by
  unfold State.arrive
  dsimp only; split; with_reducible (apply low_inc32 (by omega); apply low_rxFrame (by omega); assumption); apply low_mk
  with_reducible (apply low_rxFrame (by omega); assumption)

theorem low_onFrame {L : Nat} {s0 s : State} {peer : Peer} {f : State → State} (h : Low L s0 s)
    (hf : ∀ t, Low L s0 t → Low L s0 (f t)) : Low L s0 (s.onFrame peer f) := by
  unfold State.onFrame
  split
  · exact hf s h
  · exact h

theorem low_execFdpOpen {L : Nat} {s0 s : State} {a0 a1} (hL : L ≤ 4112) (h : Low L s0 s) : LowR L s0 (execFdpOpen a0 a1 s) := by
  unfold execFdpOpen
  with_reducible (apply lowR_inst; apply lowR_next; apply low_onFrame; assumption); intro _ _
  with_reducible (apply low_rxOpen (by omega); assumption)

theorem low_execKeyInit {L : Nat} {s0 s : State} {a0 a1} (hL : L ≤ 4112) (h : Low L s0 s) : LowR L s0 (execKeyInit a0 a1 s) := by
  unfold execKeyInit
  with_reducible (apply lowR_inst; apply lowR_next; apply low_onFrame; assumption); intro _ _
  with_reducible (apply low_rxKeyInit (by omega); assumption)

theorem low_execNotifyAck {L : Nat} {s0 s : State} {a0 a1} (hL : L ≤ 4143) (h : Low L s0 s) : LowR L s0 (execNotifyAck a0 a1 s) := by
  unfold execNotifyAck
  with_reducible (apply lowR_inst; apply lowR_next; apply low_onFrame; assumption); intro _ _
  with_reducible (apply low_rxNotifyAck (by omega); assumption)

theorem low_execCloseFrame {L : Nat} {s0 s : State} {a0 a1} (hL : L ≤ 4112) (h : Low L s0 s) : LowR L s0 (execCloseFrame a0 a1 s) := by
  unfold execCloseFrame
  with_reducible (apply lowR_inst; apply lowR_next; apply low_onFrame; assumption); intro _ _
  with_reducible (apply low_rxClose (by omega); assumption)

end Sys2Proof.Machine
end

