-- ==== Sys2Proof/Laws/LowTick.lean ====
section
/-! SUPPORT. The lowest entry each definition of Machine/Tick.lean may change (Low). -/

set_option Elab.async false

namespace Sys2Proof.Machine

set_option linter.unusedVariables false

theorem low_nextPhase {L : Nat} {s0 s : State} (h : Low L s0 s) : Low L s0 (State.nextPhase s) := by
  unfold State.nextPhase
  dsimp only; apply low_mk; with_reducible assumption

theorem low_countLevel {L : Nat} {s0 s : State} {a1 a2} (hL : L ≤ 27200) (h : Low L s0 s) : Low L s0 (State.countLevel s a1 a2) := by
  unfold State.countLevel
  dsimp only; split; split; with_reducible apply low_counterAdd (by omega); apply low_mk; with_reducible assumption; apply low_mk
  with_reducible assumption; split; with_reducible apply low_counterAdd (by omega); apply low_mk; with_reducible assumption; apply low_mk
  with_reducible assumption; apply low_mk; with_reducible assumption

theorem low_addTicks {L : Nat} {s0 s : State} {a1 a2 a3} (hi1 : L ≤ a1) (h : Low L s0 s) : Low L s0 (State.addTicks s a1 a2 a3) := by
  unfold State.addTicks
  split; with_reducible (assumption; apply low_inc64 (by omega); assumption)

theorem low_xclkCount {L : Nat} {s0 s : State} {a1} (hL : L ≤ 8704) (h : Low L s0 s) : Low L s0 (State.xclkCount s a1) := by
  unfold State.xclkCount
  dsimp only; with_reducible (apply low_addTicks (by omega); apply low_addTicks (by omega); apply low_addTicks (by omega); apply low_each)
  with_reducible (apply low_each; assumption); intro _ _ _; with_reducible (apply low_addTicks (by omega); assumption); intro _ _ _; split
  split
  with_reducible (apply low_addTicks (by omega); apply low_addTicks (by omega); assumption; apply low_addTicks (by omega); assumption)
  split; with_reducible (apply low_addTicks (by omega); assumption; assumption)

theorem low_idleSecond {L : Nat} {s0 s : State} (hL : L ≤ 4143) (h : Low L s0 s) : Low L s0 (State.idleSecond s) := by
  unfold State.idleSecond
  split; with_reducible (apply low_each; assumption); intro _ _ _; split
  with_reducible (apply low_setReg (by simp only [sessIdx]; omega); assumption; assumption; assumption)

end Sys2Proof.Machine
end

