-- ==== Sys2Proof/Laws/LowWrites.lean ====
section
/-! SUPPORT. The lowest entry that the commands which are single writes of a CMD entry may change, whatever the service answers. -/

set_option Elab.async false

namespace Sys2Proof.Machine

set_option linter.unusedVariables false
set_option linter.unusedSimpArgs false

theorem low_result0 {L : Nat} {s0 s : State} {a b c d : Nat} {x : Answer} (h : Low L s0 s) : Low L s0 (s.result a b c d x) := by
  unfold State.result
  split
  · exact low_mk h
  · exact h

theorem low_sessionWrite_cmd {L : Nat} {s : State} {sess idx sub : Nat} {data : Bytes} {r : Row} (hr : rowOf idx sub = some r)
    (hc : r.acc = .cmd) (hd : ∀ n, r.ty ≠ .domain n) (hv : LowV L s (s.command sess idx sub (ofBytes data) data))
    (hx : ∀ d, Low L s (s.commandRefused sess idx sub (ofBytes data) d)) : Low L s (s.sessionWrite sess idx sub data) := by
  unfold State.sessionWrite
  split
  · apply low_result0
    unfold State.writeEntry
    cases hg : s.writeGate sess idx sub with
    | error e => exact low_refl s
    | ok r' =>
      have hr' := writeGate_row hg
      rw [hr] at hr'
      cases hr'
      dsimp only
      have hcmd : Low L s (s.writeCmd sess idx sub r data).2 := by
        unfold State.writeCmd
        dsimp only
        split
        · exact low_refl s
        · split
          · next e => exact hv.low _ e
          · exact hx _
      repeat' split
      all_goals first | exact low_refl s | exact hcmd | exact absurd ‹_› (hd _) | exact absurd hc ‹_›
  · exact low_refl s


theorem lowx_discard {L : Nat} {s : State} {sess : Nat} : LowR L s (exec (.discard sess) s) := by
  have main : Low L s (s.sessionWrite sess 0x1101 2 [1]) := by
    have hv : LowV L s (s.command sess 0x1101 2 1 [1]) := by
      unfold State.command
      split
      · exact lowV_error _
      · simp [State.arrayCmd, State.inspectCmd, State.memoryCmd, State.timeCmd, State.systemCmd]
        exact low_cmdDiscard (low_refl s)
    have hx : ∀ d, Low L s (s.commandRefused sess 0x1101 2 1 d) := by
      intro d
      unfold State.commandRefused
      repeat' split
      all_goals first | exact low_refl s | (exfalso; simp_all; done) | (exfalso; simp_all; omega)
    exact low_sessionWrite_cmd (row_discard) rfl (by simp) hv hx
  show LowR L s (execDiscard sess s)
  exact lowR_next main

theorem lowx_disarm {L : Nat} {s : State} {sess : Nat} : LowR L s (exec (.disarm sess) s) := by
  have main : Low L s (s.sessionWrite sess 0x1101 3 [1]) := by
    have hv : LowV L s (s.command sess 0x1101 3 1 [1]) := by
      unfold State.command
      split
      · exact lowV_error _
      · simp [State.arrayCmd, State.inspectCmd, State.memoryCmd, State.timeCmd, State.systemCmd]
        exact low_cmdDisarm (low_refl s)
    have hx : ∀ d, Low L s (s.commandRefused sess 0x1101 3 1 d) := by
      intro d
      unfold State.commandRefused
      repeat' split
      all_goals first | exact low_refl s | (exfalso; simp_all; done) | (exfalso; simp_all; omega)
    exact low_sessionWrite_cmd (row_disarm) rfl (by simp) hv hx
  show LowR L s (execDisarm sess s)
  exact lowR_next main

theorem lowx_prbsInject {L : Nat} {s : State} {sess : Nat} : LowR L s (exec (.prbsInject sess) s) := by
  have main : Low L s (s.sessionWrite sess 0x2402 3 [1]) := by
    have hv : LowV L s (s.command sess 0x2402 3 1 [1]) := by
      unfold State.command
      split
      · exact lowV_error _
      · simp [State.arrayCmd, State.inspectCmd, State.memoryCmd, State.timeCmd, State.systemCmd]
        exact low_cmdPrbsInject (low_refl s)
    have hx : ∀ d, Low L s (s.commandRefused sess 0x2402 3 1 d) := by
      intro d
      unfold State.commandRefused
      repeat' split
      all_goals first | exact low_refl s | (exfalso; simp_all; done) | (exfalso; simp_all; omega)
    exact low_sessionWrite_cmd (row_prbsInject) rfl (by simp) hv hx
  show LowR L s (execPrbsInject sess s)
  exact lowR_next main

theorem lowx_fireTrigger {L : Nat} (hL : L ≤ 10240) {s : State} {sess : Nat} : LowR L s (exec (.fireTrigger sess) s) := by
  have main : Low L s (s.sessionWrite sess 0x2803 3 [1]) := by
    have hv : LowV L s (s.command sess 0x2803 3 1 [1]) := by
      unfold State.command
      split
      · exact lowV_error _
      · simp [State.arrayCmd, State.inspectCmd, State.memoryCmd, State.timeCmd, State.systemCmd]
        exact low_cmdFire (by omega) (low_refl s)
    have hx : ∀ d, Low L s (s.commandRefused sess 0x2803 3 1 d) := by
      intro d
      unfold State.commandRefused
      repeat' split
      all_goals first | exact low_refl s | (exfalso; simp_all; done) | (exfalso; simp_all; omega)
    exact low_sessionWrite_cmd (row_fireTrigger) rfl (by simp) hv hx
  show LowR L s (execFireTrigger sess s)
  exact lowR_next main

theorem lowx_siloRelease {L : Nat} (hL : L ≤ 10244) {s : State} {sess : Nat} {silo : Nat} : LowR L s (exec (.siloRelease sess silo) s) := by
  have main (h : silo < 64) : Low L s (s.sessionWrite sess (0x2840 + silo) 11 [1]) := by
    have hv : LowV L s (s.command sess (0x2840 + silo) 11 1 [1]) := by
      have h4 : (0x2840 + silo) / 4096 = 2 := by omega
      have hx : (0x2840 + silo) - 0x2840 = silo := by omega
      unfold State.command
      split
      · exact lowV_error _
      · simp only [h4, State.arrayCmd, State.inspectCmd, State.memoryCmd, State.timeCmd, State.systemCmd, hx]
        repeat' split
        all_goals first | with_reducible exact low_cmdSiloRelease (by omega) (low_refl s) | (exfalso; simp_all; done) | (exfalso; simp_all; omega)
    have hx : ∀ d, Low L s (s.commandRefused sess (0x2840 + silo) 11 1 d) := by
      intro d
      unfold State.commandRefused
      repeat' split
      all_goals first | exact low_refl s | (exfalso; simp_all; done) | (exfalso; simp_all; omega)
    exact low_sessionWrite_cmd (row_siloRelease h) rfl (by simp) hv hx
  show LowR L s (execSiloRelease sess silo s)
  unfold execSiloRelease inst
  split
  · next h0 =>
    have h : silo < 64 := of_decide_eq_true h0
    exact lowR_next (main h)
  · exact lowR_fault _

theorem lowx_readoutStart {L : Nat} (hL : L ≤ 10244) {s : State} {sess : Nat} : LowR L s (exec (.readoutStart sess) s) := by
  have main : Low L s (s.sessionWrite sess 0x2804 7 [1]) := by
    have hv : LowV L s (s.command sess 0x2804 7 1 [1]) := by
      unfold State.command
      split
      · exact lowV_error _
      · simp [State.arrayCmd, State.inspectCmd, State.memoryCmd, State.timeCmd, State.systemCmd]
        exact low_cmdReadoutStart (by omega) (low_refl s)
    have hx : ∀ d, Low L s (s.commandRefused sess 0x2804 7 1 d) := by
      intro d
      unfold State.commandRefused
      repeat' split
      all_goals first | with_reducible exact low_refl s | with_reducible exact low_readoutRefused (by omega) (low_refl s) | (exfalso; simp_all; done) | (exfalso; simp_all; omega)
    exact low_sessionWrite_cmd (row_readoutStart) rfl (by simp) hv hx
  show LowR L s (execReadoutStart sess s)
  exact lowR_next main

theorem lowx_readoutAbort {L : Nat} (hL : L ≤ 10244) {s : State} {sess : Nat} : LowR L s (exec (.readoutAbort sess) s) := by
  have main : Low L s (s.sessionWrite sess 0x2804 8 [1]) := by
    have hv : LowV L s (s.command sess 0x2804 8 1 [1]) := by
      unfold State.command
      split
      · exact lowV_error _
      · simp [State.arrayCmd, State.inspectCmd, State.memoryCmd, State.timeCmd, State.systemCmd]
        exact low_cmdReadoutAbort (by omega) (low_refl s)
    have hx : ∀ d, Low L s (s.commandRefused sess 0x2804 8 1 d) := by
      intro d
      unfold State.commandRefused
      repeat' split
      all_goals first | exact low_refl s | (exfalso; simp_all; done) | (exfalso; simp_all; omega)
    exact low_sessionWrite_cmd (row_readoutAbort) rfl (by simp) hv hx
  show LowR L s (execReadoutAbort sess s)
  exact lowR_next main

theorem lowx_jigRestart {L : Nat} (hL : L ≤ 12304) {s : State} {sess : Nat} {bay : Nat} : LowR L s (exec (.jigRestart sess bay) s) := by
  have main (h : bay < 4) : Low L s (s.sessionWrite sess (0x3010 + bay) 16 [1]) := by
    have hv : LowV L s (s.command sess (0x3010 + bay) 16 1 [1]) := by
      have h4 : (0x3010 + bay) / 4096 = 3 := by omega
      have hx : (0x3010 + bay) - 0x3010 = bay := by omega
      unfold State.command
      split
      · exact lowV_error _
      · simp only [h4, State.arrayCmd, State.inspectCmd, State.memoryCmd, State.timeCmd, State.systemCmd, hx]
        repeat' split
        all_goals first | with_reducible exact low_cmdJigRestart (by omega) (low_refl s) | (exfalso; simp_all; done) | (exfalso; simp_all; omega)
    have hx : ∀ d, Low L s (s.commandRefused sess (0x3010 + bay) 16 1 d) := by
      intro d
      unfold State.commandRefused
      repeat' split
      all_goals first | exact low_refl s | (exfalso; simp_all; done) | (exfalso; simp_all; omega)
    exact low_sessionWrite_cmd (row_jigRestart h) rfl (by simp) hv hx
  show LowR L s (execJigRestart sess bay s)
  unfold execJigRestart inst
  split
  · next h0 =>
    have h : bay < 4 := of_decide_eq_true h0
    exact lowR_next (main h)
  · exact lowR_fault _

theorem lowx_retest {L : Nat} {s : State} {sess : Nat} {tile : Nat} : LowR L s (exec (.retest sess tile) s) := by
  have main (h : tile < 272) : Low L s (s.sessionWrite sess (0x2200 + tile) 6 [1]) := by
    have hv : LowV L s (s.command sess (0x2200 + tile) 6 1 [1]) := by
      have h4 : (0x2200 + tile) / 4096 = 2 := by omega
      have hx : (0x2200 + tile) - 0x2200 = tile := by omega
      unfold State.command
      split
      · exact lowV_error _
      · simp only [h4, State.arrayCmd, State.inspectCmd, State.memoryCmd, State.timeCmd, State.systemCmd, hx]
        repeat' split
        all_goals first | with_reducible exact low_cmdRetest (low_refl s) | (exfalso; simp_all; done) | (exfalso; simp_all; omega)
    have hx : ∀ d, Low L s (s.commandRefused sess (0x2200 + tile) 6 1 d) := by
      intro d
      unfold State.commandRefused
      repeat' split
      all_goals first | exact low_refl s | (exfalso; simp_all; done) | (exfalso; simp_all; omega)
    exact low_sessionWrite_cmd (row_retest h) rfl (by simp) hv hx
  show LowR L s (execRetest sess tile s)
  unfold execRetest inst
  split
  · next h0 =>
    have h : tile < 272 := of_decide_eq_true h0
    exact lowR_next (main h)
  · exact lowR_fault _

theorem lowx_frameSlotRelease {L : Nat} (hL : L ≤ 16576) {s : State} {sess : Nat} {slot : Nat} : LowR L s (exec (.frameSlotRelease sess slot) s) := by
  have main (h : slot < 64) : Low L s (s.sessionWrite sess (0x40C0 + slot) 5 [1]) := by
    have hv : LowV L s (s.command sess (0x40C0 + slot) 5 1 [1]) := by
      have h4 : (0x40C0 + slot) / 4096 = 4 := by omega
      have hx : (0x40C0 + slot) - 0x40C0 = slot := by omega
      unfold State.command
      split
      · exact lowV_error _
      · simp only [h4, State.arrayCmd, State.inspectCmd, State.memoryCmd, State.timeCmd, State.systemCmd, hx]
        repeat' split
        all_goals first | with_reducible exact low_cmdSlotRelease (by omega) (low_refl s) | (exfalso; simp_all; done) | (exfalso; simp_all; omega)
    have hx : ∀ d, Low L s (s.commandRefused sess (0x40C0 + slot) 5 1 d) := by
      intro d
      unfold State.commandRefused
      repeat' split
      all_goals first | exact low_refl s | (exfalso; simp_all; done) | (exfalso; simp_all; omega)
    exact low_sessionWrite_cmd (row_frameSlotRelease h) rfl (by simp) hv hx
  show LowR L s (execFrameSlotRelease sess slot s)
  unfold execFrameSlotRelease inst
  split
  · next h0 =>
    have h : slot < 64 := of_decide_eq_true h0
    exact lowR_next (main h)
  · exact lowR_fault _

theorem lowx_clearCorr {L : Nat} {s : State} {sess : Nat} {k : Nat} : LowR L s (exec (.clearCorr sess k) s) := by
  have main (h : k < 16) : Low L s (s.sessionWrite sess (0x4410 + k) 11 [1]) := by
    have hv : LowV L s (s.command sess (0x4410 + k) 11 1 [1]) := by
      have h4 : (0x4410 + k) / 4096 = 4 := by omega
      have hx : (0x4410 + k) - 0x4410 = k := by omega
      unfold State.command
      split
      · exact lowV_error _
      · simp only [h4, State.arrayCmd, State.inspectCmd, State.memoryCmd, State.timeCmd, State.systemCmd, hx]
        repeat' split
        all_goals first | with_reducible exact low_cmdClearCorr (low_refl s) | (exfalso; simp_all; done) | (exfalso; simp_all; omega)
    have hx : ∀ d, Low L s (s.commandRefused sess (0x4410 + k) 11 1 d) := by
      intro d
      unfold State.commandRefused
      repeat' split
      all_goals first | exact low_refl s | (exfalso; simp_all; done) | (exfalso; simp_all; omega)
    exact low_sessionWrite_cmd (row_clearCorr h) rfl (by simp) hv hx
  show LowR L s (execClearCorr sess k s)
  unfold execClearCorr inst
  split
  · next h0 =>
    have h : k < 16 := of_decide_eq_true h0
    exact lowR_next (main h)
  · exact lowR_fault _

theorem lowx_debugHaltCmd {L : Nat} (hL : L ≤ 20480) {s : State} {sess : Nat} {core : Nat} : LowR L s (exec (.debugHaltCmd sess core) s) := by
  have main (h : core < 16) : Low L s (s.sessionWrite sess (0xF500 + core) 1 [1]) := by
    have hv : LowV L s (s.command sess (0xF500 + core) 1 1 [1]) := by
      have h4 : (0xF500 + core) / 4096 = 15 := by omega
      have hx : (0xF500 + core) - 0xF500 = core := by omega
      unfold State.command
      split
      · exact lowV_error _
      · simp only [h4, State.arrayCmd, State.inspectCmd, State.memoryCmd, State.timeCmd, State.systemCmd, hx]
        repeat' split
        all_goals first | with_reducible exact low_cmdDspHalt (by omega) (low_refl s) | (exfalso; simp_all; done) | (exfalso; simp_all; omega)
    have hx : ∀ d, Low L s (s.commandRefused sess (0xF500 + core) 1 1 d) := by
      intro d
      unfold State.commandRefused
      repeat' split
      all_goals first | exact low_refl s | (exfalso; simp_all; done) | (exfalso; simp_all; omega)
    exact low_sessionWrite_cmd (row_debugHaltCmd h) rfl (by simp) hv hx
  show LowR L s (execDebugHaltCmd sess core s)
  unfold execDebugHaltCmd inst
  split
  · next h0 =>
    have h : core < 16 := of_decide_eq_true h0
    exact lowR_next (main h)
  · exact lowR_fault _

theorem lowx_debugResume {L : Nat} (hL : L ≤ 20480) {s : State} {sess : Nat} {core : Nat} : LowR L s (exec (.debugResume sess core) s) := by
  have main (h : core < 16) : Low L s (s.sessionWrite sess (0xF500 + core) 2 [1]) := by
    have hv : LowV L s (s.command sess (0xF500 + core) 2 1 [1]) := by
      have h4 : (0xF500 + core) / 4096 = 15 := by omega
      have hx : (0xF500 + core) - 0xF500 = core := by omega
      unfold State.command
      split
      · exact lowV_error _
      · simp only [h4, State.arrayCmd, State.inspectCmd, State.memoryCmd, State.timeCmd, State.systemCmd, hx]
        repeat' split
        all_goals first | with_reducible exact low_cmdDspResume (by omega) (low_refl s) | (exfalso; simp_all; done) | (exfalso; simp_all; omega)
    have hx : ∀ d, Low L s (s.commandRefused sess (0xF500 + core) 2 1 d) := by
      intro d
      unfold State.commandRefused
      repeat' split
      all_goals first | exact low_refl s | (exfalso; simp_all; done) | (exfalso; simp_all; omega)
    exact low_sessionWrite_cmd (row_debugResume h) rfl (by simp) hv hx
  show LowR L s (execDebugResume sess core s)
  unfold execDebugResume inst
  split
  · next h0 =>
    have h : core < 16 := of_decide_eq_true h0
    exact lowR_next (main h)
  · exact lowR_fault _

theorem lowx_debugStep {L : Nat} (hL : L ≤ 20480) {s : State} {sess : Nat} {core : Nat} : LowR L s (exec (.debugStep sess core) s) := by
  have main (h : core < 16) : Low L s (s.sessionWrite sess (0xF500 + core) 3 [1]) := by
    have hv : LowV L s (s.command sess (0xF500 + core) 3 1 [1]) := by
      have h4 : (0xF500 + core) / 4096 = 15 := by omega
      have hx : (0xF500 + core) - 0xF500 = core := by omega
      unfold State.command
      split
      · exact lowV_error _
      · simp only [h4, State.arrayCmd, State.inspectCmd, State.memoryCmd, State.timeCmd, State.systemCmd, hx]
        repeat' split
        all_goals first | with_reducible exact low_cmdDspStep (by omega) (low_refl s) | (exfalso; simp_all; done) | (exfalso; simp_all; omega)
    have hx : ∀ d, Low L s (s.commandRefused sess (0xF500 + core) 3 1 d) := by
      intro d
      unfold State.commandRefused
      repeat' split
      all_goals first | exact low_refl s | (exfalso; simp_all; done) | (exfalso; simp_all; omega)
    exact low_sessionWrite_cmd (row_debugStep h) rfl (by simp) hv hx
  show LowR L s (execDebugStep sess core s)
  unfold execDebugStep inst
  split
  · next h0 =>
    have h : core < 16 := of_decide_eq_true h0
    exact lowR_next (main h)
  · exact lowR_fault _

theorem lowx_declareLost {L : Nat} (hL : L ≤ 22528) {s : State} {sess : Nat} {ch : Nat} : LowR L s (exec (.declareLost sess ch) s) := by
  have main (h : ch < 24) : Low L s (s.sessionWrite sess (0x5810 + ch) 13 [1]) := by
    have hv : LowV L s (s.command sess (0x5810 + ch) 13 1 [1]) := by
      have h4 : (0x5810 + ch) / 4096 = 5 := by omega
      have hx : (0x5810 + ch) - 0x5810 = ch := by omega
      unfold State.command
      split
      · exact lowV_error _
      · simp only [h4, State.arrayCmd, State.inspectCmd, State.memoryCmd, State.timeCmd, State.systemCmd, hx]
        repeat' split
        all_goals first | with_reducible exact low_cmdDeclareLost (by omega) (low_refl s) | (exfalso; simp_all; done) | (exfalso; simp_all; omega)
    have hx : ∀ d, Low L s (s.commandRefused sess (0x5810 + ch) 13 1 d) := by
      intro d
      unfold State.commandRefused
      repeat' split
      all_goals first | exact low_refl s | (exfalso; simp_all; done) | (exfalso; simp_all; omega)
    exact low_sessionWrite_cmd (row_declareLost h) rfl (by simp) hv hx
  show LowR L s (execDeclareLost sess ch s)
  unfold execDeclareLost inst
  split
  · next h0 =>
    have h : ch < 24 := of_decide_eq_true h0
    exact lowR_next (main h)
  · exact lowR_fault _

theorem lowx_rebuild {L : Nat} (hL : L ≤ 22544) {s : State} {sess : Nat} {ch : Nat} : LowR L s (exec (.rebuild sess ch) s) := by
  have main (h : ch < 24) : Low L s (s.sessionWrite sess (0x5810 + ch) 14 [1]) := by
    have hv : LowV L s (s.command sess (0x5810 + ch) 14 1 [1]) := by
      have h4 : (0x5810 + ch) / 4096 = 5 := by omega
      have hx : (0x5810 + ch) - 0x5810 = ch := by omega
      unfold State.command
      split
      · exact lowV_error _
      · simp only [h4, State.arrayCmd, State.inspectCmd, State.memoryCmd, State.timeCmd, State.systemCmd, hx]
        repeat' split
        all_goals first | with_reducible exact low_cmdRebuild (by omega) (low_refl s) | (exfalso; simp_all; done) | (exfalso; simp_all; omega)
    have hx : ∀ d, Low L s (s.commandRefused sess (0x5810 + ch) 14 1 d) := by
      intro d
      unfold State.commandRefused
      repeat' split
      all_goals first | exact low_refl s | (exfalso; simp_all; done) | (exfalso; simp_all; omega)
    exact low_sessionWrite_cmd (row_rebuild h) rfl (by simp) hv hx
  show LowR L s (execRebuild sess ch s)
  unfold execRebuild inst
  split
  · next h0 =>
    have h : ch < 24 := of_decide_eq_true h0
    exact lowR_next (main h)
  · exact lowR_fault _

theorem lowx_applyDelays {L : Nat} {s : State} {sess : Nat} {ch : Nat} : LowR L s (exec (.applyDelays sess ch) s) := by
  have main (h : ch < 24) : Low L s (s.sessionWrite sess (0x5840 + ch) 3 [1]) := by
    have hv : LowV L s (s.command sess (0x5840 + ch) 3 1 [1]) := by
      have h4 : (0x5840 + ch) / 4096 = 5 := by omega
      have hx : (0x5840 + ch) - 0x5840 = ch := by omega
      unfold State.command
      split
      · exact lowV_error _
      · simp only [h4, State.arrayCmd, State.inspectCmd, State.memoryCmd, State.timeCmd, State.systemCmd, hx]
        repeat' split
        all_goals first | with_reducible exact low_cmdApplyDelays (low_refl s) | (exfalso; simp_all; done) | (exfalso; simp_all; omega)
    have hx : ∀ d, Low L s (s.commandRefused sess (0x5840 + ch) 3 1 d) := by
      intro d
      unfold State.commandRefused
      repeat' split
      all_goals first | exact low_refl s | (exfalso; simp_all; done) | (exfalso; simp_all; omega)
    exact low_sessionWrite_cmd (row_applyDelays h) rfl (by simp) hv hx
  show LowR L s (execApplyDelays sess ch s)
  unfold execApplyDelays inst
  split
  · next h0 =>
    have h : ch < 24 := of_decide_eq_true h0
    exact lowR_next (main h)
  · exact lowR_fault _

theorem lowx_recalibrate {L : Nat} (hL : L ≤ 22592) {s : State} {sess : Nat} {ch : Nat} : LowR L s (exec (.recalibrate sess ch) s) := by
  have main (h : ch < 24) : Low L s (s.sessionWrite sess (0x5840 + ch) 5 [1]) := by
    have hv : LowV L s (s.command sess (0x5840 + ch) 5 1 [1]) := by
      have h4 : (0x5840 + ch) / 4096 = 5 := by omega
      have hx : (0x5840 + ch) - 0x5840 = ch := by omega
      unfold State.command
      split
      · exact lowV_error _
      · simp only [h4, State.arrayCmd, State.inspectCmd, State.memoryCmd, State.timeCmd, State.systemCmd, hx]
        repeat' split
        all_goals first | with_reducible exact low_cmdRecalibrate (by omega) (low_refl s) | (exfalso; simp_all; done) | (exfalso; simp_all; omega)
    have hx : ∀ d, Low L s (s.commandRefused sess (0x5840 + ch) 5 1 d) := by
      intro d
      unfold State.commandRefused
      repeat' split
      all_goals first | with_reducible exact low_refl s | with_reducible exact low_recalRefused (by omega) (low_refl s) | (exfalso; simp_all; done) | (exfalso; simp_all; omega)
    exact low_sessionWrite_cmd (row_recalibrate h) rfl (by simp) hv hx
  show LowR L s (execRecalibrate sess ch s)
  unfold execRecalibrate inst
  split
  · next h0 =>
    have h : ch < 24 := of_decide_eq_true h0
    exact lowR_next (main h)
  · exact lowR_fault _

theorem lowx_freqChange {L : Nat} (hL : L ≤ 22528) {s : State} {sess : Nat} : LowR L s (exec (.freqChange sess) s) := by
  have main : Low L s (s.sessionWrite sess 0x5800 15 [1]) := by
    have hv : LowV L s (s.command sess 0x5800 15 1 [1]) := by
      unfold State.command
      split
      · exact lowV_error _
      · simp [State.arrayCmd, State.inspectCmd, State.memoryCmd, State.timeCmd, State.systemCmd]
        exact low_cmdFreqChange (by omega) (low_refl s)
    have hx : ∀ d, Low L s (s.commandRefused sess 0x5800 15 1 d) := by
      intro d
      unfold State.commandRefused
      repeat' split
      all_goals first | with_reducible exact low_refl s | with_reducible exact low_freqRefused (by omega) (low_refl s) | (exfalso; simp_all; done) | (exfalso; simp_all; omega)
    exact low_sessionWrite_cmd (row_freqChange) rfl (by simp) hv hx
  show LowR L s (execFreqChange sess s)
  exact lowR_next main

theorem lowx_invAll {L : Nat} {s : State} {sess : Nat} : LowR L s (exec (.invAll sess) s) := by
  have main : Low L s (s.sessionWrite sess 0x5C01 2 [1]) := by
    have hv : LowV L s (s.command sess 0x5C01 2 1 [1]) := by
      unfold State.command
      split
      · exact lowV_error _
      · simp [State.arrayCmd, State.inspectCmd, State.memoryCmd, State.timeCmd, State.systemCmd]
        exact low_cmdInvAll (low_refl s)
    have hx : ∀ d, Low L s (s.commandRefused sess 0x5C01 2 1 d) := by
      intro d
      unfold State.commandRefused
      repeat' split
      all_goals first | exact low_refl s | (exfalso; simp_all; done) | (exfalso; simp_all; omega)
    exact low_sessionWrite_cmd (row_invAll) rfl (by simp) hv hx
  show LowR L s (execInvAll sess s)
  exact lowR_next main

theorem lowx_scLoad {L : Nat} {s : State} {sess : Nat} : LowR L s (exec (.scLoad sess) s) := by
  have main : Low L s (s.sessionWrite sess 0x6020 8 [1]) := by
    have hv : LowV L s (s.command sess 0x6020 8 1 [1]) := by
      unfold State.command
      split
      · exact lowV_error _
      · simp [State.arrayCmd, State.inspectCmd, State.memoryCmd, State.timeCmd, State.systemCmd]
        exact low_cmdScLoad (low_refl s)
    have hx : ∀ d, Low L s (s.commandRefused sess 0x6020 8 1 d) := by
      intro d
      unfold State.commandRefused
      repeat' split
      all_goals first | exact low_refl s | (exfalso; simp_all; done) | (exfalso; simp_all; omega)
    exact low_sessionWrite_cmd (row_scLoad) rfl (by simp) hv hx
  show LowR L s (execScLoad sess s)
  exact lowR_next main

theorem lowx_tbStep {L : Nat} (hL : L ≤ 24640) {s : State} {sess : Nat} {t : Nat} : LowR L s (exec (.tbStep sess t) s) := by
  have main (h : t < 8) : Low L s (s.sessionWrite sess (0x6040 + t) 7 [1]) := by
    have hv : LowV L s (s.command sess (0x6040 + t) 7 1 [1]) := by
      have h4 : (0x6040 + t) / 4096 = 6 := by omega
      have hx : (0x6040 + t) - 0x6040 = t := by omega
      unfold State.command
      split
      · exact lowV_error _
      · simp only [h4, State.arrayCmd, State.inspectCmd, State.memoryCmd, State.timeCmd, State.systemCmd, hx]
        repeat' split
        all_goals first | with_reducible exact low_cmdTbStep (by omega) (low_refl s) | (exfalso; simp_all; done) | (exfalso; simp_all; omega)
    have hx : ∀ d, Low L s (s.commandRefused sess (0x6040 + t) 7 1 d) := by
      intro d
      unfold State.commandRefused
      repeat' split
      all_goals first | exact low_refl s | (exfalso; simp_all; done) | (exfalso; simp_all; omega)
    exact low_sessionWrite_cmd (row_tbStep h) rfl (by simp) hv hx
  show LowR L s (execTbStep sess t s)
  unfold execTbStep inst
  split
  · next h0 =>
    have h : t < 8 := of_decide_eq_true h0
    exact lowR_next (main h)
  · exact lowR_fault _

theorem lowx_axisPreset {L : Nat} (hL : L ≤ 17552) {s : State} {sess : Nat} {axis : Nat} : LowR L s (exec (.axisPreset sess axis) s) := by
  have main (h : axis < 4) : Low L s (s.sessionWrite sess (0x6400 + axis) 8 [1]) := by
    have hv : LowV L s (s.command sess (0x6400 + axis) 8 1 [1]) := by
      have h4 : (0x6400 + axis) / 4096 = 6 := by omega
      have hx : (0x6400 + axis) - 0x6400 = axis := by omega
      unfold State.command
      split
      · exact lowV_error _
      · simp only [h4, State.arrayCmd, State.inspectCmd, State.memoryCmd, State.timeCmd, State.systemCmd, hx]
        repeat' split
        all_goals first | with_reducible exact low_cmdPreset (by omega) (low_refl s) | (exfalso; simp_all; done) | (exfalso; simp_all; omega)
    have hx : ∀ d, Low L s (s.commandRefused sess (0x6400 + axis) 8 1 d) := by
      intro d
      unfold State.commandRefused
      repeat' split
      all_goals first | exact low_refl s | (exfalso; simp_all; done) | (exfalso; simp_all; omega)
    exact low_sessionWrite_cmd (row_axisPreset h) rfl (by simp) hv hx
  show LowR L s (execAxisPreset sess axis s)
  unfold execAxisPreset inst
  split
  · next h0 =>
    have h : axis < 4 := of_decide_eq_true h0
    exact lowR_next (main h)
  · exact lowR_fault _

theorem lowx_comparePlace {L : Nat} (hL : L ≤ 17552) {s : State} {sess : Nat} {m : Nat} : LowR L s (exec (.comparePlace sess m) s) := by
  have main (h : m < 4) : Low L s (s.sessionWrite sess (0x6410 + m) 11 [1]) := by
    have hv : LowV L s (s.command sess (0x6410 + m) 11 1 [1]) := by
      have h4 : (0x6410 + m) / 4096 = 6 := by omega
      have hx : (0x6410 + m) - 0x6410 = m := by omega
      unfold State.command
      split
      · exact lowV_error _
      · simp only [h4, State.arrayCmd, State.inspectCmd, State.memoryCmd, State.timeCmd, State.systemCmd, hx]
        repeat' split
        all_goals first | with_reducible exact low_cmdPlace (by omega) (low_refl s) | (exfalso; simp_all; done) | (exfalso; simp_all; omega)
    have hx : ∀ d, Low L s (s.commandRefused sess (0x6410 + m) 11 1 d) := by
      intro d
      unfold State.commandRefused
      repeat' split
      all_goals first | exact low_refl s | (exfalso; simp_all; done) | (exfalso; simp_all; omega)
    exact low_sessionWrite_cmd (row_comparePlace h) rfl (by simp) hv hx
  show LowR L s (execComparePlace sess m s)
  unfold execComparePlace inst
  split
  · next h0 =>
    have h : m < 4 := of_decide_eq_true h0
    exact lowR_next (main h)
  · exact lowR_fault _

theorem lowx_compareClear {L : Nat} (hL : L ≤ 17552) {s : State} {sess : Nat} {m : Nat} : LowR L s (exec (.compareClear sess m) s) := by
  have main (h : m < 4) : Low L s (s.sessionWrite sess (0x6410 + m) 12 [1]) := by
    have hv : LowV L s (s.command sess (0x6410 + m) 12 1 [1]) := by
      have h4 : (0x6410 + m) / 4096 = 6 := by omega
      have hx : (0x6410 + m) - 0x6410 = m := by omega
      unfold State.command
      split
      · exact lowV_error _
      · simp only [h4, State.arrayCmd, State.inspectCmd, State.memoryCmd, State.timeCmd, State.systemCmd, hx]
        repeat' split
        all_goals first | with_reducible exact low_cmdCompareClear (by omega) (low_refl s) | (exfalso; simp_all; done) | (exfalso; simp_all; omega)
    have hx : ∀ d, Low L s (s.commandRefused sess (0x6410 + m) 12 1 d) := by
      intro d
      unfold State.commandRefused
      repeat' split
      all_goals first | exact low_refl s | (exfalso; simp_all; done) | (exfalso; simp_all; omega)
    exact low_sessionWrite_cmd (row_compareClear h) rfl (by simp) hv hx
  show LowR L s (execCompareClear sess m s)
  unfold execCompareClear inst
  split
  · next h0 =>
    have h : m < 4 := of_decide_eq_true h0
    exact lowR_next (main h)
  · exact lowR_fault _

theorem lowx_alertRelease {L : Nat} (hL : L ≤ 26672) {s : State} {sess : Nat} {k : Nat} : LowR L s (exec (.alertRelease sess k) s) := by
  have main (h : k < 4) : Low L s (s.sessionWrite sess (0x6830 + k) 4 [1]) := by
    have hv : LowV L s (s.command sess (0x6830 + k) 4 1 [1]) := by
      have h4 : (0x6830 + k) / 4096 = 6 := by omega
      have hx : (0x6830 + k) - 0x6830 = k := by omega
      unfold State.command
      split
      · exact lowV_error _
      · simp only [h4, State.arrayCmd, State.inspectCmd, State.memoryCmd, State.timeCmd, State.systemCmd, hx]
        repeat' split
        all_goals first | with_reducible exact low_cmdRelease (by omega) (low_refl s) | (exfalso; simp_all; done) | (exfalso; simp_all; omega)
    have hx : ∀ d, Low L s (s.commandRefused sess (0x6830 + k) 4 1 d) := by
      intro d
      unfold State.commandRefused
      repeat' split
      all_goals first | exact low_refl s | (exfalso; simp_all; done) | (exfalso; simp_all; omega)
    exact low_sessionWrite_cmd (row_alertRelease h) rfl (by simp) hv hx
  show LowR L s (execAlertRelease sess k s)
  unfold execAlertRelease inst
  split
  · next h0 =>
    have h : k < 4 := of_decide_eq_true h0
    exact lowR_next (main h)
  · exact lowR_fault _

theorem lowx_snapNow {L : Nat} (hL : L ≤ 27152) {s : State} {sess : Nat} {g : Nat} : LowR L s (exec (.snapNow sess g) s) := by
  have main (h : g < 8) : Low L s (s.sessionWrite sess (0x6A10 + g) 8 [1]) := by
    have hv : LowV L s (s.command sess (0x6A10 + g) 8 1 [1]) := by
      have h4 : (0x6A10 + g) / 4096 = 6 := by omega
      have hx : (0x6A10 + g) - 0x6A10 = g := by omega
      unfold State.command
      split
      · exact lowV_error _
      · simp only [h4, State.arrayCmd, State.inspectCmd, State.memoryCmd, State.timeCmd, State.systemCmd, hx]
        repeat' split
        all_goals first | with_reducible exact low_cmdSnapNow (by omega) (low_refl s) | (exfalso; simp_all; done) | (exfalso; simp_all; omega)
    have hx : ∀ d, Low L s (s.commandRefused sess (0x6A10 + g) 8 1 d) := by
      intro d
      unfold State.commandRefused
      repeat' split
      all_goals first | exact low_refl s | (exfalso; simp_all; done) | (exfalso; simp_all; omega)
    exact low_sessionWrite_cmd (row_snapNow h) rfl (by simp) hv hx
  show LowR L s (execSnapNow sess g s)
  unfold execSnapNow inst
  split
  · next h0 =>
    have h : g < 8 := of_decide_eq_true h0
    exact lowR_next (main h)
  · exact lowR_fault _

theorem lowx_failover {L : Nat} (hL : L ≤ 4096) {s : State} {sess : Nat} : LowR L s (exec (.failover sess) s) := by
  have main : Low L s (s.sessionWrite sess 0x7020 6 [1]) := by
    have hv : LowV L s (s.command sess 0x7020 6 1 [1]) := by
      unfold State.command
      split
      · exact lowV_error _
      · simp [State.arrayCmd, State.inspectCmd, State.memoryCmd, State.timeCmd, State.systemCmd]
        exact low_cmdFailover (by omega) (low_refl s)
    have hx : ∀ d, Low L s (s.commandRefused sess 0x7020 6 1 d) := by
      intro d
      unfold State.commandRefused
      repeat' split
      all_goals first | exact low_refl s | (exfalso; simp_all; done) | (exfalso; simp_all; omega)
    exact low_sessionWrite_cmd (row_failover) rfl (by simp) hv hx
  show LowR L s (execFailover sess s)
  exact lowR_next main

theorem lowx_activate {L : Nat} (hL : L ≤ 28688) {s : State} {sess : Nat} : LowR L s (exec (.activate sess) s) := by
  have main : Low L s (s.sessionWrite sess 0x7010 3 [1]) := by
    have hv : LowV L s (s.command sess 0x7010 3 1 [1]) := by
      unfold State.command
      split
      · exact lowV_error _
      · simp [State.arrayCmd, State.inspectCmd, State.memoryCmd, State.timeCmd, State.systemCmd]
        exact low_cmdActivate (by omega) (low_refl s)
    have hx : ∀ d, Low L s (s.commandRefused sess 0x7010 3 1 d) := by
      intro d
      unfold State.commandRefused
      repeat' split
      all_goals first | exact low_refl s | (exfalso; simp_all; done) | (exfalso; simp_all; omega)
    exact low_sessionWrite_cmd (row_activate) rfl (by simp) hv hx
  show LowR L s (execActivate sess s)
  exact lowR_next main

theorem lowx_wake {L : Nat} (hL : L ≤ 8192) {s : State} {sess : Nat} : LowR L s (exec (.wake sess) s) := by
  have main : Low L s (s.sessionWrite sess 0x2000 5 [1]) := by
    have hv : LowV L s (s.command sess 0x2000 5 1 [1]) := by
      unfold State.command
      split
      · exact lowV_error _
      · simp [State.arrayCmd, State.inspectCmd, State.memoryCmd, State.timeCmd, State.systemCmd]
        exact low_cmdWake (by omega) (low_refl s)
    have hx : ∀ d, Low L s (s.commandRefused sess 0x2000 5 1 d) := by
      intro d
      unfold State.commandRefused
      repeat' split
      all_goals first | exact low_refl s | (exfalso; simp_all; done) | (exfalso; simp_all; omega)
    exact low_sessionWrite_cmd (row_wake) rfl (by simp) hv hx
  show LowR L s (execWake sess s)
  exact lowR_next main

theorem lowx_debugEnter {L : Nat} (hL : L ≤ 4176) {s : State} {sess : Nat} : LowR L s (exec (.debugEnter sess) s) := by
  have main : Low L s (s.sessionWrite sess 0x1050 2 [1]) := by
    have hv : LowV L s (s.command sess 0x1050 2 1 [1]) := by
      unfold State.command
      split
      · exact lowV_error _
      · simp [State.arrayCmd, State.inspectCmd, State.memoryCmd, State.timeCmd, State.systemCmd]
        exact low_cmdDebug (by omega) (low_refl s)
    have hx : ∀ d, Low L s (s.commandRefused sess 0x1050 2 1 d) := by
      intro d
      unfold State.commandRefused
      repeat' split
      all_goals first | exact low_refl s | (exfalso; simp_all; done) | (exfalso; simp_all; omega)
    exact low_sessionWrite_cmd (row_debugEnter) rfl (by simp) hv hx
  show LowR L s (execDebugEnter sess s)
  exact lowR_next main

theorem lowx_debugLeave {L : Nat} (hL : L ≤ 4176) {s : State} {sess : Nat} : LowR L s (exec (.debugLeave sess) s) := by
  have main : Low L s (s.sessionWrite sess 0x1050 2 [2]) := by
    have hv : LowV L s (s.command sess 0x1050 2 2 [2]) := by
      unfold State.command
      split
      · exact lowV_error _
      · simp [State.arrayCmd, State.inspectCmd, State.memoryCmd, State.timeCmd, State.systemCmd]
        exact low_cmdDebug (by omega) (low_refl s)
    have hx : ∀ d, Low L s (s.commandRefused sess 0x1050 2 2 d) := by
      intro d
      unfold State.commandRefused
      repeat' split
      all_goals first | exact low_refl s | (exfalso; simp_all; done) | (exfalso; simp_all; omega)
    exact low_sessionWrite_cmd (row_debugLeave) rfl (by simp) hv hx
  show LowR L s (execDebugLeave sess s)
  exact lowR_next main


theorem lowx_commit {L : Nat} {s : State} {sess sc : Nat} : LowR L s (exec (.commit sess sc) s) := by
  show LowR L s (execCommit sess sc s)
  unfold execCommit inst
  split
  · refine lowR_next (low_sessionWrite_cmd row_commit rfl (by simp) ?_ (fun d => ?_))
    · unfold State.command
      split
      · exact lowV_error _
      · exact low_cmdCommit (low_refl s)
    · unfold State.commandRefused
      repeat' split
      all_goals first | exact low_refl s | exact low_commitRefused (low_refl s) | (exfalso; simp_all; done)
  · exact lowR_fault _

theorem lowx_invWindow {L : Nat} {s : State} {sess w : Nat} : LowR L s (exec (.invWindow sess w) s) := by
  show LowR L s (execInvWindow sess w s)
  unfold execInvWindow inst
  split
  · refine lowR_next (low_sessionWrite_cmd row_invWindow rfl (by simp) ?_ (fun d => ?_))
    · unfold State.command
      split
      · exact lowV_error _
      · exact low_cmdInvWindow (low_refl s)
    · unfold State.commandRefused
      repeat' split
      all_goals first | exact low_refl s | (exfalso; simp_all; done)
  · exact lowR_fault _

theorem lowx_adjust {L : Nat} {s : State} {sess t : Nat} {v : Int} : LowR L s (exec (.adjust sess t v) s) := by
  show LowR L s (execAdjust sess t v s)
  unfold execAdjust inst
  split
  · next h0 =>
    have h : t < 8 := by simp at h0; omega
    refine lowR_next (low_sessionWrite_cmd (row_adjust h) rfl (by simp) ?_ (fun d => ?_))
    · have h4 : (0x6040 + t) / 4096 = 6 := by omega
      unfold State.command
      split
      · exact lowV_error _
      · simp only [h4, State.timeCmd]
        rw [if_neg (by omega), if_pos (by omega), if_pos trivial]
        exact low_cmdAdjust (low_refl s)
    · unfold State.commandRefused
      repeat' split
      all_goals first | exact low_refl s | (exfalso; simp_all; done) | (exfalso; simp_all; omega)
  · exact lowR_fault _

theorem lowx_sessionClose {L : Nat} (hL : L ≤ 4112) {s : State} {sess k : Nat} : LowR L s (exec (.sessionClose sess k) s) := by
  show LowR L s (execSessionClose sess k s)
  unfold execSessionClose inst
  split
  · next h0 =>
    have h : 1 ≤ k ∧ k ≤ 8 := by simpa using h0
    refine lowR_next (low_sessionWrite_cmd (row_sessionClose h.1 h.2) rfl (by simp) ?_ (fun d => ?_))
    · have h4 : (0x102F + k) / 4096 = 1 := by omega
      unfold State.command
      split
      · exact lowV_error _
      · simp only [h4, State.systemCmd]
        rw [if_pos (by simp; omega)]
        exact low_cmdSessionClose (by omega) (low_refl s)
    · unfold State.commandRefused
      repeat' split
      all_goals first | exact low_refl s | (exfalso; simp_all; done) | (exfalso; simp_all; omega)
  · exact lowR_fault _

theorem lowx_keySet {L : Nat} (hL : L ≤ 4112) {s : State} {sess role : Nat} {k : Bytes} : LowR L s (exec (.keySet sess role k) s) := by
  show LowR L s (execKeySet sess role k s)
  unfold execKeySet inst
  split
  · next h0 =>
    have h : role < 4 := of_decide_eq_true h0
    refine lowR_next (low_sessionWrite_cmd (row_keySet h) rfl (by simp) ?_ (fun d => ?_))
    · unfold State.command
      split
      · exact lowV_error _
      · simp [State.systemCmd]
        exact low_cmdKeySet (by omega) (low_refl s)
    · unfold State.commandRefused
      repeat' split
      all_goals first | exact low_refl s | (exfalso; simp_all; done) | (exfalso; simp_all; omega)
  · exact lowR_fault _

theorem low_holdEvent0 {L : Nat} {s : State} : LowR L s (exec (.frameHold 0 none) s) := by
  show LowR L s (execFrameHold 0 none s)
  unfold execFrameHold
  apply lowR_next
  split
  · exact low_holdEvent (low_takeInput (low_refl s))
  · exact low_refl s

theorem lowx_frameHold {L : Nat} (hL : L ≤ 16576) {s : State} {sess : Nat} {slot : Option Nat} : LowR L s (exec (.frameHold sess slot) s) := by
  cases slot with
  | none => exact low_holdEvent0
  | some k =>
    show LowR L s (execFrameHold sess (some k) s)
    unfold execFrameHold inst
    dsimp only
    split
    · next h0 =>
      have h : k < 64 := of_decide_eq_true h0
      have hr : rowOf (0x40C0 + k) 4 = some ⟨0x40C0, 64, 4, 4, .cmd, .cmd, .live, .operator, 0, [], 1⟩ :=
        (by decide : ∀ x < 64, rowOf (0x40C0 + x) 4 = some ⟨0x40C0, 64, 4, 4, .cmd, .cmd, .live, .operator, 0, [], 1⟩) k h
      refine lowR_next (low_sessionWrite_cmd hr rfl (by simp) ?_ (fun d => ?_))
      · have h4 : (0x40C0 + k) / 4096 = 4 := by omega
        unfold State.command
        split
        · exact lowV_error _
        · simp only [h4, State.inspectCmd]
          rw [if_pos (by simp; omega), if_pos trivial]
          exact low_cmdHold (by omega) (low_refl s)
      · unfold State.commandRefused
        repeat' split
        all_goals first | exact low_refl s | (exfalso; simp_all; done) | (exfalso; simp_all; omega)
    · exact lowR_fault _

theorem low_dmaFdp {L : Nat} (hL : L ≤ 20480) {s : State} {sess c sub : Nat} {b : Byte} (h : c < 64) (hs : sub = 7 ∨ sub = 8 ∨ sub = 9) :
    Low L s (s.sessionWrite sess (0x5D40 + c) sub [b]) := by
  have hr : ∃ rs, rowOf (0x5D40 + c) sub = some ⟨0x5D40, 64, sub, sub, .cmd, .cmd, .live, .operator, 0, rs, 1⟩ := by
    obtain rfl | rfl | rfl := hs
    · exact ⟨_, (row_dma h).1⟩
    · exact ⟨_, (row_dma h).2.1⟩
    · exact ⟨_, (row_dma h).2.2⟩
  obtain ⟨rs, hr⟩ := hr
  refine low_sessionWrite_cmd hr rfl (by simp) ?_ (fun d => ?_)
  · have h4 : (0x5D40 + c) / 4096 = 5 := by omega
    have hx : (0x5D40 + c) - 0x5D40 = c := by omega
    unfold State.command
    split
    · exact lowV_error _
    · simp only [h4, State.memoryCmd, hx]
      rw [if_neg (by omega), if_neg (by omega), if_neg (by omega), if_neg (by omega), if_neg (by omega)]
      repeat' split
      all_goals first
        | exact low_cmdDmaStart (by omega) (low_refl s) | exact low_cmdDmaAbort (by omega) (low_refl s)
        | exact low_cmdDmaResume (by omega) (low_refl s) | exact low_cmdDmaResumeNext (by omega) (low_refl s)
  · unfold State.commandRefused
    repeat' split
    all_goals first | exact low_refl s | exact low_setReg (.inl (by omega)) (low_refl s) | (exfalso; simp_all; done) | (exfalso; simp_all; omega)

theorem low_dmaBy0 {L : Nat} (hL : L ≤ 20480) {s : State} {via : DmaVia} {c sub v page : Nat} {event : State → State} (h : c < 64)
    (hs : sub = 7 ∨ sub = 8 ∨ sub = 9) (hf : Low L s (event s)) : Low L s (s.dmaBy via c sub v page event) := by
  unfold State.dmaBy
  split
  · exact low_dmaFdp (by omega) h hs
  · exact low_chanOnPage (by omega) (low_refl s) (fun t ht => low_dmaPageCmd (by omega) ht)
  · exact hf

theorem lowx_dmaStart {L : Nat} (hL : L ≤ 20480) {s : State} {via : DmaVia} {c : Nat} : LowR L s (exec (.dmaStart via c) s) := by
  show LowR L s (inst _ _)
  unfold inst
  split
  · next h => exact lowR_next (low_dmaBy0 (by omega) (dmaViaOk_lt h) (by simp) (low_dmaStartEvent (by omega) (low_refl s)))
  · exact lowR_fault _

theorem lowx_dmaAbort {L : Nat} (hL : L ≤ 20480) {s : State} {via : DmaVia} {c : Nat} : LowR L s (exec (.dmaAbort via c) s) := by
  show LowR L s (inst _ _)
  unfold inst
  split
  · next h => exact lowR_next (low_dmaBy0 (by omega) (dmaViaOk_lt h) (by simp) (low_dmaAbortEvent (by omega) (low_refl s)))
  · exact lowR_fault _

theorem lowx_dmaResume {L : Nat} (hL : L ≤ 20480) {s : State} {via : DmaVia} {c : Nat} : LowR L s (exec (.dmaResume via c) s) := by
  show LowR L s (inst _ _)
  unfold inst
  split
  · next h => exact lowR_next (low_dmaBy0 (by omega) (dmaViaOk_lt h) (by simp) (low_refl s))
  · exact lowR_fault _

theorem lowx_dmaResumeNext {L : Nat} (hL : L ≤ 20480) {s : State} {via : DmaVia} {c : Nat} : LowR L s (exec (.dmaResumeNext via c) s) := by
  show LowR L s (inst _ _)
  unfold inst
  split
  · next h => exact lowR_next (low_dmaBy0 (by omega) (dmaViaOk_lt h) (by simp) (low_refl s))
  · exact lowR_fault _

theorem lowx_softEvent {L : Nat} (hL : L ≤ 23552) {s : State} {via : Via} {n : Nat} : LowR L s (exec (.softEvent via n) s) := by
  cases via with
  | fdp sess =>
    show LowR L s (inst _ _)
    unfold inst
    split
    · refine lowR_next (low_sessionWrite_cmd row_soft rfl (by simp) ?_ (fun d => ?_))
      · unfold State.command
        split
        · exact lowV_error _
        · simp [State.timeCmd]
          exact low_cmdSoft (by omega) (low_refl s)
      · unfold State.commandRefused
        repeat' split
        all_goals first | exact low_refl s | (exfalso; simp_all; done)
    · exact lowR_fault _
  | page master secure =>
    show LowR L s (inst _ _)
    unfold inst
    split
    · exact lowR_next (low_onPage (by omega) (low_refl s) (fun t ht => low_dowelPageWrite (by omega) ht))
    · exact lowR_fault _

theorem lowx_counterClear {L : Nat} (hL : L ≤ 23552) {s : State} {via : Via} {n : Nat} : LowR L s (exec (.counterClear via n) s) := by
  cases via with
  | fdp sess =>
    show LowR L s (inst (decide (n < 64) && true) _)
    unfold inst
    split
    · next h0 =>
      have h : n < 64 := by
        simp only [Bool.and_true, decide_eq_true_eq] at h0
        exact h0
      apply lowR_next
      refine low_sessionWrite_cmd (row_counterClear h) rfl (by simp) ?_ (fun d => ?_)
      · have h4 : (0x6A40 + n) / 4096 = 6 := by omega
        unfold State.command
        split
        · exact lowV_error _
        · simp only [h4, State.timeCmd]
          repeat' split
          all_goals first | with_reducible exact low_cmdCounterClear (low_refl s) | (exfalso; simp_all; done) | (exfalso; simp_all; omega)
      · unfold State.commandRefused
        repeat' split
        all_goals first | with_reducible exact low_refl s | (exfalso; simp_all; done) | (exfalso; simp_all; omega)
    · exact lowR_fault _
  | page master secure =>
    show LowR L s (inst (decide (n < 64) && masterOk master) _)
    unfold inst
    split
    · exact lowR_next (low_onPage (by omega) (low_refl s) (fun t ht => low_counterZero ht))
    · exact lowR_fault _

theorem lowx_ovfClear {L : Nat} (hL : L ≤ 27200) {s : State} {sess n : Nat} : LowR L s (exec (.ovfClear sess n) s) := by
  show LowR L s (inst _ _)
  unfold inst
  split
  · next h0 =>
    have h : n < 64 := of_decide_eq_true h0
    apply lowR_next
    unfold State.sessionWrite
    split
    · apply low_result0
      unfold State.writeEntry
      cases hg : s.writeGate sess (0x6A40 + n) 8 with
      | error e => exact low_refl s
      | ok r' =>
        have hr' := writeGate_row hg
        rw [row_ovf h] at hr'
        cases hr'
        simp only [Ty.size, List.length, State.writeNumber]
        repeat' split
        all_goals first
          | exact low_refl s
          | (exfalso; simp_all; done)
          | exact low_liveWrite (low_setReg (by omega) (low_refl s))
    · exact low_refl s
  · exact lowR_fault _

end Sys2Proof.Machine
end

