-- ==== Sys2Proof/Laws/Service.lean ====
section
/-! SUPPORT. What the operations of the dictionary service do (chapter 15): the staged sets, live writes, and the writes of numbers. -/

set_option Elab.async false

namespace Sys2Proof.Machine

set_option linter.unusedSimpArgs false

@[simp] theorem stagedChanged_pending (s old : State) : (s.stagedChanged old).pending = s.pending := by
  unfold State.stagedChanged
  exact foldl_same State.pending (fun s p => by split <;> rfl) _ _
@[simp] theorem stagedChanged_board (s old : State) : (s.stagedChanged old).board = s.board := by
  unfold State.stagedChanged
  exact foldl_same State.board (fun s p => by split <;> rfl) _ _
@[simp] theorem stagedChanged_nv (s old : State) : (s.stagedChanged old).nv = s.nv := by
  unfold State.stagedChanged
  exact foldl_same State.nv (fun s p => by split <;> rfl) _ _
@[simp] theorem stagedChanged_regs (s old : State) : (s.stagedChanged old).regs = s.regs := by
  unfold State.stagedChanged
  exact foldl_same State.regs (fun s p => by split <;> rfl) _ _
@[simp] theorem stagedChanged_drawn (s old : State) : (s.stagedChanged old).drawn = s.drawn := by
  unfold State.stagedChanged
  exact foldl_same State.drawn (fun s p => by split <;> rfl) _ _
@[simp] theorem stagedChanged_dram (s old : State) : (s.stagedChanged old).dram = s.dram := by
  unfold State.stagedChanged
  exact foldl_same State.dram (fun s p => by split <;> rfl) _ _
@[simp] theorem stagedChanged_outbox (s old : State) : (s.stagedChanged old).outbox = s.outbox := by
  unfold State.stagedChanged
  exact foldl_same State.outbox (fun s p => by split <;> rfl) _ _
@[simp] theorem stagedChanged_time (s old : State) : (s.stagedChanged old).time = s.time := by
  unfold State.stagedChanged
  exact foldl_same State.time (fun s p => by split <;> rfl) _ _
@[simp] theorem stagedChanged_pos (s old : State) : (s.stagedChanged old).pos = s.pos := by
  unfold State.stagedChanged
  exact foldl_same State.pos (fun s p => by split <;> rfl) _ _
@[simp] theorem stagedChanged_dowel (s old : State) : (s.stagedChanged old).dowel = s.dowel := by
  unfold State.stagedChanged
  exact foldl_same State.dowel (fun s p => by split <;> rfl) _ _
@[simp] theorem stagedChanged_avail (s old : State) : (s.stagedChanged old).avail = s.avail := by
  unfold State.stagedChanged
  exact foldl_same State.avail (fun s p => by split <;> rfl) _ _
@[simp] theorem stagedChanged_power (s old : State) : (s.stagedChanged old).power = s.power := by
  unfold State.stagedChanged
  exact foldl_same State.power (fun s p => by split <;> rfl) _ _
@[simp] theorem stagedChanged_dict (s old : State) : (s.stagedChanged old).dict = s.dict := by
  unfold State.stagedChanged
  exact foldl_same State.dict (fun s p => by split <;> rfl) _ _
@[simp] theorem stagedChanged_fabric (s old : State) : (s.stagedChanged old).fabric = s.fabric := by
  unfold State.stagedChanged
  exact foldl_same State.fabric (fun s p => by split <;> rfl) _ _
@[simp] theorem stagedChanged_dsp (s old : State) : (s.stagedChanged old).dsp = s.dsp := by
  unfold State.stagedChanged
  exact foldl_same State.dsp (fun s p => by split <;> rfl) _ _
@[simp] theorem stagedChanged_insp (s old : State) : (s.stagedChanged old).insp = s.insp := by
  unfold State.stagedChanged
  exact foldl_same State.insp (fun s p => by split <;> rfl) _ _
@[simp] theorem stagedChanged_winnow (s old : State) : (s.stagedChanged old).winnow = s.winnow := by
  unfold State.stagedChanged
  exact foldl_same State.winnow (fun s p => by split <;> rfl) _ _
@[simp] theorem stagedChanged_ddr (s old : State) : (s.stagedChanged old).ddr = s.ddr := by
  unfold State.stagedChanged
  exact foldl_same State.ddr (fun s p => by split <;> rfl) _ _
@[simp] theorem stagedChanged_xarray (s old : State) : (s.stagedChanged old).xarray = s.xarray := by
  unfold State.stagedChanged
  exact foldl_same State.xarray (fun s p => by split <;> rfl) _ _
@[simp] theorem stagedChanged_crib (s old : State) : (s.stagedChanged old).crib = s.crib := by
  unfold State.stagedChanged
  exact foldl_same State.crib (fun s p => by split <;> rfl) _ _
@[simp] theorem stagedChanged_sheaf (s old : State) : (s.stagedChanged old).sheaf = s.sheaf := by
  unfold State.stagedChanged
  exact foldl_same State.sheaf (fun s p => by split <;> rfl) _ _
@[simp] theorem setStaged_pending (s : State) (p a) : (s.setStaged p a).pending = s.pending := stagedChanged_pending _ _
@[simp] theorem setStaged_board (s : State) (p a) : (s.setStaged p a).board = s.board := stagedChanged_board _ _
@[simp] theorem setStaged_nv (s : State) (p a) : (s.setStaged p a).nv = s.nv := stagedChanged_nv _ _
@[simp] theorem setStaged_regs (s : State) (p a) : (s.setStaged p a).regs = s.regs := stagedChanged_regs _ _
@[simp] theorem setStaged_drawn (s : State) (p a) : (s.setStaged p a).drawn = s.drawn := stagedChanged_drawn _ _
@[simp] theorem setStaged_dram (s : State) (p a) : (s.setStaged p a).dram = s.dram := stagedChanged_dram _ _
@[simp] theorem setStaged_outbox (s : State) (p a) : (s.setStaged p a).outbox = s.outbox := stagedChanged_outbox _ _
@[simp] theorem setStaged_time (s : State) (p a) : (s.setStaged p a).time = s.time := stagedChanged_time _ _
@[simp] theorem setStaged_pos (s : State) (p a) : (s.setStaged p a).pos = s.pos := stagedChanged_pos _ _
@[simp] theorem setStaged_dowel (s : State) (p a) : (s.setStaged p a).dowel = s.dowel := stagedChanged_dowel _ _
@[simp] theorem setStaged_avail (s : State) (p a) : (s.setStaged p a).avail = s.avail := stagedChanged_avail _ _
@[simp] theorem setStaged_power (s : State) (p a) : (s.setStaged p a).power = s.power := stagedChanged_power _ _
@[simp] theorem setStaged_fabric (s : State) (p a) : (s.setStaged p a).fabric = s.fabric := stagedChanged_fabric _ _
@[simp] theorem setStaged_dsp (s : State) (p a) : (s.setStaged p a).dsp = s.dsp := stagedChanged_dsp _ _
@[simp] theorem setStaged_insp (s : State) (p a) : (s.setStaged p a).insp = s.insp := stagedChanged_insp _ _
@[simp] theorem setStaged_winnow (s : State) (p a) : (s.setStaged p a).winnow = s.winnow := stagedChanged_winnow _ _
@[simp] theorem setStaged_ddr (s : State) (p a) : (s.setStaged p a).ddr = s.ddr := stagedChanged_ddr _ _
@[simp] theorem setStaged_xarray (s : State) (p a) : (s.setStaged p a).xarray = s.xarray := stagedChanged_xarray _ _
@[simp] theorem setStaged_crib (s : State) (p a) : (s.setStaged p a).crib = s.crib := stagedChanged_crib _ _
@[simp] theorem setStaged_sheaf (s : State) (p a) : (s.setStaged p a).sheaf = s.sheaf := stagedChanged_sheaf _ _
@[simp] theorem setStaged_dict (s : State) (p a) : (s.setStaged p a).dict = { s.dict with pendingSet := p, armed := a } := stagedChanged_dict _ _
@[simp] theorem setStaged_reg (s : State) (p a) (j b : Nat) : (s.setStaged p a).reg j b = s.reg j b := reg_congr (by simp) (by simp) (by simp) j b
@[simp] theorem notifyAt_dict_pendingSet (s : State) (e b k : Nat) (c : Bytes) (n : Nat) : (s.notifyAt e b k c n).dict.pendingSet = s.dict.pendingSet := by
  unfold State.notifyAt
  split <;> rfl
@[simp] theorem notifyBut_dict_pendingSet (s : State) (e b k : Nat) (c : Bytes) : (s.notifyBut e b k c).dict.pendingSet = s.dict.pendingSet :=
  foldl_same (fun s : State => s.dict.pendingSet) (fun s n => notifyAt_dict_pendingSet s e b k c n) _ _
@[simp] theorem notify_dict_pendingSet (s : State) (b k : Nat) (c : Bytes) : (s.notify b k c).dict.pendingSet = s.dict.pendingSet := notifyBut_dict_pendingSet _ _ _ _ _
@[simp] theorem abortLog_dict_pendingSet (s : State) (r e i a d c : Nat) : (s.abortLog r e i a d c).dict.pendingSet = s.dict.pendingSet := by simp [State.abortLog]
@[simp] theorem notifyAt_dict_armed (s : State) (e b k : Nat) (c : Bytes) (n : Nat) : (s.notifyAt e b k c n).dict.armed = s.dict.armed := by
  unfold State.notifyAt
  split <;> rfl
@[simp] theorem notifyBut_dict_armed (s : State) (e b k : Nat) (c : Bytes) : (s.notifyBut e b k c).dict.armed = s.dict.armed :=
  foldl_same (fun s : State => s.dict.armed) (fun s n => notifyAt_dict_armed s e b k c n) _ _
@[simp] theorem notify_dict_armed (s : State) (b k : Nat) (c : Bytes) : (s.notify b k c).dict.armed = s.dict.armed := notifyBut_dict_armed _ _ _ _ _
@[simp] theorem abortLog_dict_armed (s : State) (r e i a d c : Nat) : (s.abortLog r e i a d c).dict.armed = s.dict.armed := by simp [State.abortLog]
@[simp] theorem notifyAt_dict_past (s : State) (e b k : Nat) (c : Bytes) (n : Nat) : (s.notifyAt e b k c n).dict.past = s.dict.past := by
  unfold State.notifyAt
  split <;> rfl
@[simp] theorem notifyBut_dict_past (s : State) (e b k : Nat) (c : Bytes) : (s.notifyBut e b k c).dict.past = s.dict.past :=
  foldl_same (fun s : State => s.dict.past) (fun s n => notifyAt_dict_past s e b k c n) _ _
@[simp] theorem notify_dict_past (s : State) (b k : Nat) (c : Bytes) : (s.notify b k c).dict.past = s.dict.past := notifyBut_dict_past _ _ _ _ _
@[simp] theorem abortLog_dict_past (s : State) (r e i a d c : Nat) : (s.abortLog r e i a d c).dict.past = s.dict.past := by simp [State.abortLog]
@[simp] theorem notifyAt_dict_boundaries (s : State) (e b k : Nat) (c : Bytes) (n : Nat) : (s.notifyAt e b k c n).dict.boundaries = s.dict.boundaries := by
  unfold State.notifyAt
  split <;> rfl
@[simp] theorem notifyBut_dict_boundaries (s : State) (e b k : Nat) (c : Bytes) : (s.notifyBut e b k c).dict.boundaries = s.dict.boundaries :=
  foldl_same (fun s : State => s.dict.boundaries) (fun s n => notifyAt_dict_boundaries s e b k c n) _ _
@[simp] theorem notify_dict_boundaries (s : State) (b k : Nat) (c : Bytes) : (s.notify b k c).dict.boundaries = s.dict.boundaries := notifyBut_dict_boundaries _ _ _ _ _
@[simp] theorem abortLog_dict_boundaries (s : State) (r e i a d c : Nat) : (s.abortLog r e i a d c).dict.boundaries = s.dict.boundaries := by simp [State.abortLog]
@[simp] theorem notifyAt_dict_liveWriters (s : State) (e b k : Nat) (c : Bytes) (n : Nat) : (s.notifyAt e b k c n).dict.liveWriters = s.dict.liveWriters := by
  unfold State.notifyAt
  split <;> rfl
@[simp] theorem notifyBut_dict_liveWriters (s : State) (e b k : Nat) (c : Bytes) : (s.notifyBut e b k c).dict.liveWriters = s.dict.liveWriters :=
  foldl_same (fun s : State => s.dict.liveWriters) (fun s n => notifyAt_dict_liveWriters s e b k c n) _ _
@[simp] theorem notify_dict_liveWriters (s : State) (b k : Nat) (c : Bytes) : (s.notify b k c).dict.liveWriters = s.dict.liveWriters := notifyBut_dict_liveWriters _ _ _ _ _
@[simp] theorem abortLog_dict_liveWriters (s : State) (r e i a d c : Nat) : (s.abortLog r e i a d c).dict.liveWriters = s.dict.liveWriters := by simp [State.abortLog]
@[simp] theorem notifyAt_dict_results (s : State) (e b k : Nat) (c : Bytes) (n : Nat) : (s.notifyAt e b k c n).dict.results = s.dict.results := by
  unfold State.notifyAt
  split <;> rfl
@[simp] theorem notifyBut_dict_results (s : State) (e b k : Nat) (c : Bytes) : (s.notifyBut e b k c).dict.results = s.dict.results :=
  foldl_same (fun s : State => s.dict.results) (fun s n => notifyAt_dict_results s e b k c n) _ _
@[simp] theorem notify_dict_results (s : State) (b k : Nat) (c : Bytes) : (s.notify b k c).dict.results = s.dict.results := notifyBut_dict_results _ _ _ _ _
@[simp] theorem abortLog_dict_results (s : State) (r e i a d c : Nat) : (s.abortLog r e i a d c).dict.results = s.dict.results := by simp [State.abortLog]
@[simp] theorem notifyAt_dict_serving (s : State) (e b k : Nat) (c : Bytes) (n : Nat) : (s.notifyAt e b k c n).dict.serving = s.dict.serving := by
  unfold State.notifyAt
  split <;> rfl
@[simp] theorem notifyBut_dict_serving (s : State) (e b k : Nat) (c : Bytes) : (s.notifyBut e b k c).dict.serving = s.dict.serving :=
  foldl_same (fun s : State => s.dict.serving) (fun s n => notifyAt_dict_serving s e b k c n) _ _
@[simp] theorem notify_dict_serving (s : State) (b k : Nat) (c : Bytes) : (s.notify b k c).dict.serving = s.dict.serving := notifyBut_dict_serving _ _ _ _ _
@[simp] theorem abortLog_dict_serving (s : State) (r e i a d c : Nat) : (s.abortLog r e i a d c).dict.serving = s.dict.serving := by simp [State.abortLog]

/-! ## Writes of numbers -/

/-- An open session's write that the first checks let through, of the right length, is the write of a number. -/
theorem sessionWrite_number {s : State} {sess idx sub : Nat} {data : Bytes} {r : Row} (ho : s.sessionOpen sess = true)
    (hg : s.writeGate sess idx sub = .ok r) (hd : ∀ n, r.ty ≠ .domain n) (hlen : data.length = r.ty.size) (hx : r.acc ≠ .rwx ∨ s.ownerOff idx sub = true)
    (hc : r.acc ≠ .cmd) :
    s.sessionWrite sess idx sub data
      = (s.writeNumber sess idx sub r (ofBytes data)).2.result sess 2 idx sub (s.writeNumber sess idx sub r (ofBytes data)).1 := by
  have hw : s.writeEntry sess idx sub data = s.writeNumber sess idx sub r (ofBytes data) := by
    unfold State.writeEntry
    rw [hg]
    dsimp only
    have hx' : (decide (r.acc = .rwx) && !s.ownerOff idx sub) = false := by
      obtain hx | hx := hx <;> simp [hx]
    cases hty : r.ty <;> first
      | exact absurd hty (hd _)
      | (rw [hty] at hlen; simp [hx', hc, hlen])
  rw [sessionWrite_open ho, hw]

/-- A live write's note changes no entry but the conflict counter (R30). -/
theorem liveWrite_reg (s : State) (sess k : Nat) {j b : Nat} (h : key j b ≠ key 0x1100 7) : (s.liveWrite sess k).reg j b = s.reg j b := by
  unfold State.liveWrite State.whenB
  dsimp only
  split
  · exact inc32_reg_key s 1 h
  · rfl

end Sys2Proof.Machine
end

