-- ==== Sys2Proof/Laws/Effects.lean ====
section
/-! SUPPORT. Lemmas on what shared operations do to single entries and records, for proofs about commands: lanes, the timing selector, events, units, the crib, Jigs and tiles. -/

set_option Elab.async false

namespace Sys2Proof.Machine
set_option linter.all false

/-- An entry below a bound reads as before. -/
theorem Low.at {L j b : Nat} {s t : State} (h : Low L s t) (hj : j < L) (hb : b < 256 := by omega) (he : j < 0x1100 ∨ 0x1110 < j := by omega) :
    t.reg j b = s.reg j b := h.reg j b hj hb he

/-- A completion whose answer is known. -/
theorem completes_of {i : Instr} {s t : State} {P : State → Prop} (h : exec i s = .next t) (hp : P t) : Completes i s P := ⟨t, h, hp⟩

theorem inst_ok {ok : Bool} {r : Result} (h : ok = true) : inst ok r = r := by unfold inst; rw [if_pos h]

/-! lanes -/

theorem each_low {α : Type} {L : Nat} {xs : List α} {f : α → State → State} (hf : ∀ x s, Low L s (f x s)) (s : State) : Low L s (s.each xs f) := by
  unfold State.each
  induction xs generalizing s with
  | nil => exact low_refl s
  | cons x xs ih => exact low_trans (hf x s) (ih (f x s))

/-- What a lane's change of state leaves alone. -/
theorem setLaneState_reg (s : State) (n st : Nat) {j b : Nat} (hj : j < 0x6000) (hb : b < 256) (he : j < 0x1100 ∨ 0x1110 < j)
    (h1 : j ≠ 0x2500 + n ∨ b ≠ 1) (h2 : j ≠ 0x2410 + n / 4 ∨ b ≠ 2) : (s.setLaneState n st).reg j b = s.reg j b := by
  unfold State.setLaneState
  dsimp only
  rw [Low.at (L := 0x6000) (each_low (fun i s => by
    split
    · split
      · exact low_signalReturn (by omega) (low_refl s)
      · exact low_signalLoss (by omega) (low_refl s)
    · exact low_refl s) _) hj hb he]
  split
  · exact reg_setReg_key _ _ (by simp only [key]; omega)
  · rw [reg_setReg_key _ _ (by simp only [key]; omega), reg_setReg_key _ _ (by simp only [key]; omega)]

theorem setLaneState_same (s : State) (n st : Nat) (hn : n < 128) : (s.setLaneState n st).reg (0x2500 + n) 1 = st := by
  unfold State.setLaneState
  dsimp only
  rw [Low.at (L := 0x6000) (each_low (fun i s => by
    split
    · split
      · exact low_signalReturn (by omega) (low_refl s)
      · exact low_signalLoss (by omega) (low_refl s)
    · exact low_refl s) _) (by omega)]
  split
  · exact reg_setReg_same _ _ _ _
  · rw [reg_setReg_key _ _ (by simp only [key]; omega)]; exact reg_setReg_same _ _ _ _

@[simp] theorem modRx_reg (s : State) (n : Nat) (f : RxLane → RxLane) (j b : Nat) : (s.modRx n f).reg j b = s.reg j b := rfl

@[simp] theorem queueControl_reg (s : State) (n w j b : Nat) : (s.queueControl n w).reg j b = s.reg j b := by
  unfold State.queueControl; split <;> rfl

theorem filter_insertKey {α : Type} (p : Nat × α → Bool) (k : Nat) (v : α) (hp : ∀ w, p (k, w) = false) (m : List (Nat × α)) :
    (insertKey m k v).filter p = m.filter p := by
  induction m with
  | nil => simp [insertKey, hp]
  | cons q m ih =>
    obtain ⟨a, w⟩ := q
    simp only [insertKey]
    split
    · simp [hp]
    · split
      · subst k; simp [hp]
      · rw [List.filter_cons, List.filter_cons, ih]

/-- Indices found by an entry's value do not change with an entry outside the range. -/
theorem idxWith_setReg (s : State) {i a v lo hi sub w : Nat} (ha : a < 256) (h : i < lo ∨ hi < i ∨ a ≠ sub) :
    (s.setReg i a v).idxWith lo hi sub w = s.idxWith lo hi sub w := by
  unfold State.idxWith
  rw [setReg_regs, filter_insertKey]
  intro w
  simp only [key]
  have e1 : (i * 256 + a) / 256 = i := by omega
  have e2 : (i * 256 + a) % 256 = a := by omega
  simp only [e1, e2, Bool.and_eq_false_iff, decide_eq_false_iff_not]
  omega

theorem liveGroups_range {s : State} {tx : Bool} {g : Nat} (h : g ∈ s.liveGroups tx) :
    (if tx then 0x2460 else 0x2440) ≤ g ∧ g ≤ (if tx then 0x246F else 0x245F) := by
  unfold State.liveGroups at h
  simp only [List.mem_append] at h
  rcases h with ((h | h) | h) | h <;> exact idxWith_range h

theorem groupOf_range {s : State} {tx : Bool} {l g : Nat} (h : s.groupOf tx l = some g) :
    (if tx then 0x2460 else 0x2440) ≤ g ∧ g ≤ (if tx then 0x246F else 0x245F) := by
  unfold State.groupOf at h
  exact liveGroups_range (List.mem_of_find?_eq_some h)

theorem find?_congr {α : Type} {p q : α → Bool} {xs : List α} (h : ∀ x ∈ xs, p x = q x) : xs.find? p = xs.find? q := by
  induction xs with
  | nil => rfl
  | cons x xs ih =>
    rw [List.find?_cons, List.find?_cons, h x (by simp), ih (fun y hy => h y (by simp [hy]))]

theorem liveGroups_setReg (s : State) {i a v : Nat} (tx : Bool) (ha : a < 256) (h : i < 0x2440 ∨ 0x246F < i ∨ a ≠ 2) :
    (s.setReg i a v).liveGroups tx = s.liveGroups tx := by
  unfold State.liveGroups
  have e (w : Nat) : (s.setReg i a v).idxWith (if tx then 0x2460 else 0x2440) (if tx then 0x246F else 0x245F) 2 w = s.idxWith (if tx then 0x2460 else 0x2440) (if tx then 0x246F else 0x245F) 2 w :=
    idxWith_setReg s ha (by cases tx <;> simp <;> omega)
  simp only [e]

theorem groupOf_setReg (s : State) {i a v : Nat} (tx : Bool) (l : Nat) (ha : a < 256) (h : i < 0x2440 ∨ 0x246F < i ∨ a < 2 ∨ 5 < a) :
    (s.setReg i a v).groupOf tx l = s.groupOf tx l := by
  unfold State.groupOf
  rw [liveGroups_setReg s tx ha (by omega)]
  apply find?_congr
  intro g hg
  have hr := liveGroups_range hg
  have hg' : 0x2440 ≤ g ∧ g ≤ 0x246F := by cases tx <;> simp at hr <;> omega
  unfold State.inGroup State.firstLane State.laneCount State.flag
  rw [reg_setReg_key _ _ (by simp only [key]; omega), reg_setReg_key _ _ (by simp only [key]; omega), reg_setReg_key _ _ (by simp only [key]; omega)]

theorem setLaneState_groups (s : State) (n st : Nat) (hn : n < 128) (h2 : s.reg 0x6012 4 ≠ n) (h3 : s.reg 0x6013 4 ≠ n) (tx : Bool) (l : Nat) :
    (s.setLaneState n st).groupOf tx l = s.groupOf tx l := by
  have k (u : State) (hu : u = s.setReg (0x2500 + n) 1 st ∨ ∃ v, u = (s.setReg (0x2500 + n) 1 st).setReg (0x2410 + n / 4) 2 v) :
      u.groupOf tx l = s.groupOf tx l ∧ u.reg 0x6012 4 = s.reg 0x6012 4 ∧ u.reg 0x6013 4 = s.reg 0x6013 4 := by
    obtain rfl | ⟨v, rfl⟩ := hu
    · refine ⟨groupOf_setReg _ _ _ (by omega) (by omega), ?_, ?_⟩ <;> rw [reg_setReg_key _ _ (by simp only [key]; omega)]
    · refine ⟨(groupOf_setReg _ _ _ (by omega) (by omega)).trans (groupOf_setReg _ _ _ (by omega) (by omega)), ?_, ?_⟩ <;>
        rw [reg_setReg_key _ _ (by simp only [key]; omega), reg_setReg_key _ _ (by simp only [key]; omega)]
  unfold State.setLaneState State.each
  simp only [List.foldl]
  generalize hu : (if (s.setReg (0x2500 + n) 1 st).reg (0x2410 + n / 4) 2 = (s.setReg (0x2500 + n) 1 st).masterOf (n / 4) then s.setReg (0x2500 + n) 1 st
    else (s.setReg (0x2500 + n) 1 st).setReg (0x2410 + n / 4) 2 ((s.setReg (0x2500 + n) 1 st).masterOf (n / 4))) = u
  obtain ⟨k1, k2, k3⟩ := k u (by rw [← hu]; split; exact .inl rfl; exact .inr ⟨_, rfl⟩)
  rw [if_neg (show ¬ u.reg (0x6010 + 2) 4 = n by rw [← k2] at h2; exact h2), if_neg (show ¬ u.reg (0x6010 + 3) 4 = n by rw [← k3] at h3; exact h3)]
  exact k1

/-- A lane of an ON group that fails is FAILED (R61, R68). -/
theorem rxLaneFail_state {s : State} {lane g : Nat} (hl : lane < 128) (hg : s.groupOf false lane = some g) :
    (s.rxLaneFail lane).reg (0x2500 + lane) 1 = lnFailed := by
  have hr := groupOf_range hg
  simp only [Bool.false_eq_true, if_false] at hr
  unfold State.rxLaneFail
  simp only [hg]
  split
  · exact setLaneState_same _ _ _ hl
  · have h0 : (s.setLaneState lane lnFailed).reg (0x2500 + lane) 1 = lnFailed := setLaneState_same _ _ _ hl
    generalize s.setLaneState lane lnFailed = s1 at h0
    have hL : (s1.faultRecord 3 0 lane 0 noInterruption s1.sc).reg (0x2500 + lane) 1 = lnFailed :=
      (Low.at (L := 27200) (low_faultRecord (by omega) (low_refl s1)) (by omega)).trans h0
    have hS : (s1.faultStart 3 lane 0 s1.sc).reg (0x2500 + lane) 1 = lnFailed :=
      (Low.at (L := 27200) (low_faultStart (by omega) (low_refl s1)) (by omega)).trans h0
    generalize s1.faultRecord 3 0 lane 0 noInterruption s1.sc = sL at hL
    generalize s1.faultStart 3 lane 0 s1.sc = sS at hS
    repeat' split
    all_goals first
      | exact hL
      | exact hS
      | (rw [reg_setReg_key _ _ (by simp only [key]; omega), reg_setReg_key _ _ (by simp only [key]; omega)]; exact hL)
      | (rw [reg_setReg_key _ _ (by simp only [key]; omega)]; exact hL)
      | (unfold State.sendRxMap; rw [queueControl_reg, inc32_reg_key _ _ (by simp only [key]; omega)]; exact hS)

theorem find?_filter_and {α : Type} (p q : α → Bool) (xs : List α) : xs.find? (fun a => p a && q a) = (xs.filter p).find? q := by
  induction xs with
  | nil => rfl
  | cons a xs ih =>
    rw [List.find?_cons, List.filter_cons, ih]
    cases hp : p a
    · rfl
    · rw [if_pos rfl, List.find?_cons, Bool.true_and]

theorem insertKey_insertKey {α : Type} (m : List (Nat × α)) (k : Nat) (v w : α) : insertKey (insertKey m k v) k w = insertKey m k w := by
  induction m with
  | nil => simp [insertKey]
  | cons p m ih =>
    obtain ⟨a, x⟩ := p
    simp only [insertKey]
    split
    · simp [insertKey]
    · split
      · simp [insertKey]
      · simp [insertKey, *]

theorem setReg_setReg (s : State) (i a v w : Nat) : (s.setReg i a v).setReg i a w = s.setReg i a w := by
  unfold State.setReg; rw [insertKey_insertKey]

/-! timing selector -/

theorem enterRef_cands (s : State) (a b : Nat) : (s.enterRef a b).time.cands = s.time.cands := by
  unfold State.enterRef; dsimp only; repeat' split
  all_goals rfl

theorem enterHoldover_cands (s : State) (a : Nat) : (s.enterHoldover a).time.cands = s.time.cands := by
  unfold State.enterHoldover; split <;> rw [enterRef_cands] <;> rfl

theorem evaluate_cands (s : State) : s.evaluate.time.cands = s.time.cands := by
  unfold State.evaluate State.noCandidate State.selectCand
  dsimp only
  repeat' split
  all_goals first | rfl | (rw [enterHoldover_cands]; done) | (rw [enterRef_cands]; done) | (rw [enterRef_cands]; rfl)

theorem refreshCands_time (s : State) : s.refreshCands.time = s.time := by
  unfold State.refreshCands State.each
  refine foldl_same (fun s : State => s.time) (fun s i => ?_) _ _
  dsimp only; repeat' split
  all_goals rfl

theorem reselect_cands (s : State) : s.reselect.time.cands = s.time.cands := by
  unfold State.reselect; rw [evaluate_cands, refreshCands_time]

/-- The selector changes, of the candidates' entries, only status, level and the count of level changes. -/
theorem enterRef_reg (s : State) (a c : Nat) {j b : Nat} (h : 0x6010 ≤ j) (hb : b < 256) (h1 : b ≠ 1) : (s.enterRef a c).reg j b = s.reg j b := by
  unfold State.enterRef; dsimp only
  rw [reg_setReg_key _ _ (by simp only [key]; omega)]
  show State.reg (State.setReg (State.setReg _ _ _ _) _ _ _) _ _ = _
  rw [reg_setReg_key _ _ (by simp only [key]; omega), reg_setReg_key _ _ (by simp only [key]; omega)]
  repeat' split
  all_goals (try unfold State.regBit)
  all_goals first
    | rfl
    | rw [reg_setReg_key _ _ (by simp only [key]; omega), reg_setReg_key _ _ (by simp only [key]; omega)]
    | rw [reg_setReg_key _ _ (by simp only [key]; omega)]

theorem enterHoldover_reg (s : State) (a : Nat) {j b : Nat} (h : 0x6010 ≤ j) (hb : b < 256) (h1 : b ≠ 1) : (s.enterHoldover a).reg j b = s.reg j b := by
  unfold State.enterHoldover; split <;> rw [enterRef_reg _ _ _ h hb h1]
  · rw [inc32_reg_key _ _ (by simp only [key]; omega), reg_setReg_key _ _ (by simp only [key]; omega), reg_setReg_key _ _ (by simp only [key]; omega)]
  · rw [reg_setReg_key _ _ (by simp only [key]; omega)]

theorem evaluate_reg (s : State) {j b : Nat} (h : 0x6010 ≤ j) (hb : b < 256) (h1 : b ≠ 1) : s.evaluate.reg j b = s.reg j b := by
  unfold State.evaluate State.noCandidate State.selectCand
  dsimp only
  repeat' split
  all_goals first
    | rfl
    | rw [enterHoldover_reg _ _ h hb h1]
    | (rw [enterRef_reg _ _ _ h hb h1]; done)
    | (rw [enterRef_reg _ _ _ h hb h1, reg_setReg_key _ _ (by simp only [key]; omega)])
    | rw [reg_setReg_key _ _ (by simp only [key]; omega)]

theorem refreshCands_reg (s : State) {j b : Nat} (hb : b < 256) (h1 : b ≠ 1) (h2 : b ≠ 8) (h3 : b ≠ 0x0F) : s.refreshCands.reg j b = s.reg j b := by
  unfold State.refreshCands State.each
  refine foldl_same (fun s : State => s.reg j b) (fun s i => ?_) _ _
  dsimp only; unfold State.regBit
  repeat' split
  all_goals first
    | rfl
    | rw [reg_setReg_key _ _ (by simp only [key]; omega), inc32_reg_key _ _ (by simp only [key]; omega), reg_setReg_key _ _ (by simp only [key]; omega)]
    | rw [inc32_reg_key _ _ (by simp only [key]; omega), reg_setReg_key _ _ (by simp only [key]; omega)]
    | rw [reg_setReg_key _ _ (by simp only [key]; omega)]

theorem reselect_reg (s : State) {j b : Nat} (h : 0x6010 ≤ j) (hb : b < 256) (h1 : b ≠ 1) (h2 : b ≠ 8) (h3 : b ≠ 0x0F) : s.reselect.reg j b = s.reg j b :=
  (evaluate_reg _ h hb h1).trans (refreshCands_reg _ hb h1 h2 h3)

theorem nthD_modNth {α : Type} (d : α) (f : α → α) (xs : List α) (i : Nat) (h : i < xs.length) : nthD d (modNth f xs i) i = f (nthD d xs i) := by
  induction xs generalizing i with
  | nil => simp at h
  | cons x xs ih =>
    cases i with
    | zero => rfl
    | succ i => exact ih i (by simpa using h)

/-! Dowel -/

theorem countE_fired (s : State) (a b : Nat) : (s.countE a b).dowel.fired = s.dowel.fired := by
  unfold State.countE
  refine foldl_same (fun s : State => s.dowel.fired) (fun s i => ?_) _ _
  split
  · split
    · unfold State.counterAdd; dsimp only; split <;> rfl
    · rfl
    · rfl
  · rfl

theorem fire_fired (s : State) (a b : Nat) : (s.fire a b).dowel.fired = s.dowel.fired ++ [⟨a, b % 2 ^ 16, s.sc, 0, 0, s.time.tclk⟩] := by
  unfold State.fire State.fireAt; rw [countE_fired]

theorem fireAt_fired (s : State) (a b c : Nat) : (s.fireAt a b c).dowel.fired = s.dowel.fired ++ [⟨a, b % 2 ^ 16, c, 0, 0, s.time.tclk⟩] := by
  unfold State.fireAt; rw [countE_fired]

/-- Below the event counters, firing changes no entry. -/
theorem fire_low (s : State) (a b : Nat) {j c : Nat} (hj : j < 27200) (hb : c < 256) (he : j < 0x1100 ∨ 0x1110 < j) : (s.fire a b).reg j c = s.reg j c :=
  Low.at (L := 27200) (low_fire (by omega) (low_refl s)) hj hb he

theorem set_ne {s : State} {i a v j b : Nat} (hb : b < 256 := by omega) (ha : a < 256 := by omega) (h : j ≠ i ∨ b ≠ a := by omega) : (s.setReg i a v).reg j b = s.reg j b :=
  reg_setReg_key _ _ (by simp only [key]; omega)

theorem each_same {α γ : Type} (P : State → γ) {f : α → State → State} (hf : ∀ x s, P (f x s) = P s) (xs : List α) (s : State) : P (s.each xs f) = P s := by
  unfold State.each; exact foldl_same P (fun s x => hf x s) xs s

theorem each_same_mem {α γ : Type} (P : State → γ) {f : α → State → State} (xs : List α) (hf : ∀ x s, x ∈ xs → P (f x s) = P s) (s : State) : P (s.each xs f) = P s := by
  unfold State.each; exact foldl_same_mem P xs s (fun s x hx => hf x s hx)

theorem nth_modNth_ne {α : Type} (d : α) (f : α → α) (xs : List α) (i j : Nat) (h : i ≠ j) : nthD d (modNth f xs i) j = nthD d xs j := by
  induction xs generalizing i j with
  | nil => rfl
  | cons x xs ih =>
    cases i with
    | zero => cases j with
      | zero => omega
      | succ j => rfl
    | succ i => cases j with
      | zero => rfl
      | succ j => exact ih i j (by omega)

/-! a change of another part leaves every entry as it was -/

theorem with_time_reg (s : State) (x) (j b : Nat) : State.reg { s with time := x } j b = s.reg j b := rfl

theorem with_pos_reg (s : State) (x) (j b : Nat) : State.reg { s with pos := x } j b = s.reg j b := rfl

theorem with_dowel_reg (s : State) (x) (j b : Nat) : State.reg { s with dowel := x } j b = s.reg j b := rfl

theorem with_avail_reg (s : State) (x) (j b : Nat) : State.reg { s with avail := x } j b = s.reg j b := rfl

theorem with_power_reg (s : State) (x) (j b : Nat) : State.reg { s with power := x } j b = s.reg j b := rfl

theorem with_dict_reg (s : State) (x) (j b : Nat) : State.reg { s with dict := x } j b = s.reg j b := rfl

theorem with_fabric_reg (s : State) (x) (j b : Nat) : State.reg { s with fabric := x } j b = s.reg j b := rfl

theorem with_dsp_reg (s : State) (x) (j b : Nat) : State.reg { s with dsp := x } j b = s.reg j b := rfl

theorem with_insp_reg (s : State) (x) (j b : Nat) : State.reg { s with insp := x } j b = s.reg j b := rfl

theorem with_winnow_reg (s : State) (x) (j b : Nat) : State.reg { s with winnow := x } j b = s.reg j b := rfl

theorem with_ddr_reg (s : State) (x) (j b : Nat) : State.reg { s with ddr := x } j b = s.reg j b := rfl

theorem with_xarray_reg (s : State) (x) (j b : Nat) : State.reg { s with xarray := x } j b = s.reg j b := rfl

theorem with_crib_reg (s : State) (x) (j b : Nat) : State.reg { s with crib := x } j b = s.reg j b := rfl

theorem with_sheaf_reg (s : State) (x) (j b : Nat) : State.reg { s with sheaf := x } j b = s.reg j b := rfl

theorem with_drawn_reg (s : State) (x) (j b : Nat) : State.reg { s with drawn := x } j b = s.reg j b := rfl

theorem with_dram_reg (s : State) (x) (j b : Nat) : State.reg { s with dram := x } j b = s.reg j b := rfl

theorem with_outbox_reg (s : State) (x) (j b : Nat) : State.reg { s with outbox := x } j b = s.reg j b := rfl

theorem with_pending_reg (s : State) (x) (j b : Nat) : State.reg { s with pending := x } j b = s.reg j b := rfl

theorem with_doms_reg (s : State) (x) (j b : Nat) : State.reg { s with doms := x } j b = s.reg j b := rfl

/-- The enable entries of units are BOOL, and take both values. -/
def unitRowOk (idx : Nat) : Bool := match rowOf idx 1 with | some r => r.ty = .bool && r.acc = .rw && r.inRange 0 && r.inRange 1 | none => false

theorem unitRow_1010 : ∀ x < 2, unitRowOk (0x1010 + x) = true := by decide

theorem unitRow_2440 : ∀ x < 48, unitRowOk (0x2440 + x) = true := by decide

theorem unitRow_2800 : ∀ x < 1, unitRowOk (0x2800 + x) = true := by decide

theorem unitRow_3010 : ∀ x < 4, unitRowOk (0x3010 + x) = true := by decide

theorem unitRow_3800 : ∀ x < 1, unitRowOk (0x3800 + x) = true := by decide

theorem unitRow_3900 : ∀ x < 64, unitRowOk (0x3900 + x) = true := by decide

theorem unitRow_4000 : ∀ x < 1, unitRowOk (0x4000 + x) = true := by decide

theorem unitRow_4010 : ∀ x < 16, unitRowOk (0x4010 + x) = true := by decide

theorem unitRow_4400 : ∀ x < 1, unitRowOk (0x4400 + x) = true := by decide

theorem unitRow_4480 : ∀ x < 1, unitRowOk (0x4480 + x) = true := by decide

theorem unitRow_4800 : ∀ x < 1, unitRowOk (0x4800 + x) = true := by decide

theorem unitRow_4880 : ∀ x < 8, unitRowOk (0x4880 + x) = true := by decide

theorem unitRow_5000 : ∀ x < 16, unitRowOk (0x5000 + x) = true := by decide

theorem unitRow_5D00 : ∀ x < 1, unitRowOk (0x5D00 + x) = true := by decide

theorem unitRow_5D40 : ∀ x < 64, unitRowOk (0x5D40 + x) = true := by decide

theorem unitRow_6070 : ∀ x < 1, unitRowOk (0x6070 + x) = true := by decide

theorem unitRow_6400 : ∀ x < 4, unitRowOk (0x6400 + x) = true := by decide

theorem unitRow_6410 : ∀ x < 4, unitRowOk (0x6410 + x) = true := by decide

theorem unitRow_6420 : ∀ x < 1, unitRowOk (0x6420 + x) = true := by decide

theorem unitRow_6900a : ∀ x < 128, unitRowOk (0x6900 + x) = true := by decide

theorem unitRow_6900b : ∀ x < 128, unitRowOk (0x6980 + x) = true := by decide

theorem unitRow_6900 (x : Nat) (h : x < 256) : unitRowOk (0x6900 + x) = true := by
  by_cases c : x < 128
  · exact unitRow_6900a x c
  · have := unitRow_6900b (x - 128) (by omega)
    rwa [show 0x6980 + (x - 128) = 0x6900 + x by omega] at this

theorem unitRow_6A40 : ∀ x < 64, unitRowOk (0x6A40 + x) = true := by decide

theorem unit_row_of {b n idx : Nat} (h : ∀ x < n, unitRowOk (b + x) = true) (h1 : b ≤ idx) (h2 : idx < b + n) : unitRowOk idx = true := by
  have := h (idx - b) (by omega); rwa [show b + (idx - b) = idx by omega] at this

theorem ite_some {α : Type} {c : Prop} [Decidable c] {a u : α} {r : Option α} (h : (if c then some a else r) = some u) : (c ∧ a = u) ∨ (¬ c ∧ r = some u) := by
  by_cases hc : c
  · rw [if_pos hc] at h; exact .inl ⟨hc, Option.some.inj h⟩
  · rw [if_neg hc] at h; exact .inr ⟨hc, h⟩

theorem unit_row {idx : Nat} {u : UnitKind} (h : unitKind idx = some u) : unitRowOk idx = true := by
  unfold unitKind at h
  rcases ite_some h with ⟨c, _⟩ | ⟨_, h⟩
  · (try simp only [Bool.or_eq_true, Bool.and_eq_true, decide_eq_true_eq] at c); exact unit_row_of unitRow_1010 (by omega) (by omega)
  rcases ite_some h with ⟨c, _⟩ | ⟨_, h⟩
  · (try simp only [Bool.or_eq_true, Bool.and_eq_true, decide_eq_true_eq] at c); exact unit_row_of unitRow_2440 (by omega) (by omega)
  rcases ite_some h with ⟨c, _⟩ | ⟨_, h⟩
  · (try simp only [Bool.or_eq_true, Bool.and_eq_true, decide_eq_true_eq] at c); exact unit_row_of unitRow_2800 (by omega) (by omega)
  rcases ite_some h with ⟨c, _⟩ | ⟨_, h⟩
  · (try simp only [Bool.or_eq_true, Bool.and_eq_true, decide_eq_true_eq] at c); exact unit_row_of unitRow_3010 (by omega) (by omega)
  rcases ite_some h with ⟨c, _⟩ | ⟨_, h⟩
  · (try simp only [Bool.or_eq_true, Bool.and_eq_true, decide_eq_true_eq] at c); exact unit_row_of unitRow_3800 (by omega) (by omega)
  rcases ite_some h with ⟨c, _⟩ | ⟨_, h⟩
  · (try simp only [Bool.or_eq_true, Bool.and_eq_true, decide_eq_true_eq] at c); exact unit_row_of unitRow_3900 (by omega) (by omega)
  rcases ite_some h with ⟨c, _⟩ | ⟨_, h⟩
  · (try simp only [Bool.or_eq_true, Bool.and_eq_true, decide_eq_true_eq] at c); exact unit_row_of unitRow_4000 (by omega) (by omega)
  rcases ite_some h with ⟨c, _⟩ | ⟨_, h⟩
  · (try simp only [Bool.or_eq_true, Bool.and_eq_true, decide_eq_true_eq] at c); exact unit_row_of unitRow_4010 (by omega) (by omega)
  rcases ite_some h with ⟨c, _⟩ | ⟨_, h⟩
  · (try simp only [Bool.or_eq_true, Bool.and_eq_true, decide_eq_true_eq] at c); exact unit_row_of unitRow_4400 (by omega) (by omega)
  rcases ite_some h with ⟨c, _⟩ | ⟨_, h⟩
  · (try simp only [Bool.or_eq_true, Bool.and_eq_true, decide_eq_true_eq] at c); exact unit_row_of unitRow_4480 (by omega) (by omega)
  rcases ite_some h with ⟨c, _⟩ | ⟨_, h⟩
  · (try simp only [Bool.or_eq_true, Bool.and_eq_true, decide_eq_true_eq] at c); exact unit_row_of unitRow_4800 (by omega) (by omega)
  rcases ite_some h with ⟨c, _⟩ | ⟨_, h⟩
  · (try simp only [Bool.or_eq_true, Bool.and_eq_true, decide_eq_true_eq] at c); exact unit_row_of unitRow_4880 (by omega) (by omega)
  rcases ite_some h with ⟨c, _⟩ | ⟨_, h⟩
  · (try simp only [Bool.or_eq_true, Bool.and_eq_true, decide_eq_true_eq] at c); exact unit_row_of unitRow_5000 (by omega) (by omega)
  rcases ite_some h with ⟨c, _⟩ | ⟨_, h⟩
  · (try simp only [Bool.or_eq_true, Bool.and_eq_true, decide_eq_true_eq] at c); exact unit_row_of unitRow_5D00 (by omega) (by omega)
  rcases ite_some h with ⟨c, _⟩ | ⟨_, h⟩
  · (try simp only [Bool.or_eq_true, Bool.and_eq_true, decide_eq_true_eq] at c); exact unit_row_of unitRow_5D40 (by omega) (by omega)
  rcases ite_some h with ⟨c, _⟩ | ⟨_, h⟩
  · (try simp only [Bool.or_eq_true, Bool.and_eq_true, decide_eq_true_eq] at c); exact unit_row_of unitRow_6070 (by omega) (by omega)
  rcases ite_some h with ⟨c, _⟩ | ⟨_, h⟩
  · (try simp only [Bool.or_eq_true, Bool.and_eq_true, decide_eq_true_eq] at c); exact unit_row_of unitRow_6400 (by omega) (by omega)
  rcases ite_some h with ⟨c, _⟩ | ⟨_, h⟩
  · (try simp only [Bool.or_eq_true, Bool.and_eq_true, decide_eq_true_eq] at c); exact unit_row_of unitRow_6410 (by omega) (by omega)
  rcases ite_some h with ⟨c, _⟩ | ⟨_, h⟩
  · (try simp only [Bool.or_eq_true, Bool.and_eq_true, decide_eq_true_eq] at c); exact unit_row_of unitRow_6420 (by omega) (by omega)
  rcases ite_some h with ⟨c, _⟩ | ⟨_, h⟩
  · (try simp only [Bool.or_eq_true, Bool.and_eq_true, decide_eq_true_eq] at c); exact unit_row_of unitRow_6900 (by omega) (by omega)
  rcases ite_some h with ⟨c, _⟩ | ⟨_, h⟩
  · (try simp only [Bool.or_eq_true, Bool.and_eq_true, decide_eq_true_eq] at c); exact unit_row_of unitRow_6A40 (by omega) (by omega)
  · cases h

/-- Writing a BOOL enable entry. -/
theorem enable_write {s : State} {sess idx v : Nat} {u : UnitKind} (hl : s.lets sess idx 1) (hu : unitKind idx = some u) (hv : v = 0 ∨ v = 1)
    (hc : s.entryCheck s.aheadLive sess idx 1 v = 0) :
    s.sessionWrite sess idx 1 [BitVec.ofNat 8 v] = match s.writeLive idx 1 v with
      | .ok t => (t.liveWrite sess (key idx 1)).result sess 2 idx 1 (.of stOk)
      | .error d => s.result sess 2 idx 1 (.refuse d) := by
  obtain ⟨ho, r, hg⟩ := hl
  have hr := unit_row hu
  unfold unitRowOk at hr
  rw [writeGate_row hg] at hr
  simp only [Bool.and_eq_true, decide_eq_true_eq] at hr
  obtain ⟨⟨⟨h1, h2⟩, h3⟩, h4⟩ := hr
  have hb : ofBytes [BitVec.ofNat 8 v] = v := by obtain rfl | rfl := hv <;> rfl
  have hin : r.inRange v = true := by
    obtain rfl | rfl := hv
    · exact h3
    · exact h4
  rw [sessionWrite_number ho hg (by rw [h1]; simp) (by rw [h1]; rfl) (.inl (by rw [h2]; decide)) (by rw [h2]; decide), hb]
  unfold State.writeNumber
  simp only [h2, hin, hc, Bool.not_true, Bool.false_eq_true, if_false, ne_eq, not_true_eq_false, reduceCtorEq]
  cases s.writeLive idx 1 v <;> rfl

theorem writeLive_unit {s : State} {idx v : Nat} {u : UnitKind} (hu : unitKind idx = some u) :
    s.writeLive idx 1 v = if v = 1 then s.enableUnit u idx else .ok (s.disableWritten u idx) := by
  unfold State.writeLive; rw [if_pos rfl, hu]

theorem each_reg {α : Type} {xs : List α} {f : α → State → State} {j b : Nat} (s : State) (hf : ∀ x ∈ xs, ∀ s : State, (f x s).reg j b = s.reg j b) :
    (s.each xs f).reg j b = s.reg j b := by
  unfold State.each
  exact foldl_same_mem (fun s : State => s.reg j b) xs s (fun t x hx => hf x hx t)

theorem camSet_reg (s : State) (c g n v : Nat) {j b : Nat} (h : j ≠ 0x4001) (hb : b < 256) : (s.camSet c g n v).reg j b = s.reg j b := by
  unfold State.camSet
  dsimp only
  split
  · split
    · exact queueControl_reg _ _ _ _ _
    · exact inc32_reg_key _ _ (by simp only [key]; omega)
  · rw [if_neg (by simp)]; exact inc32_reg_key _ _ (by simp only [key]; omega)

theorem unitKind_range {idx : Nat} {u : UnitKind} (h : unitKind idx = some u) :
    match u with
    | .group => 0x2440 ≤ idx ∧ idx ≤ 0x246F | .crib => idx = 0x2800 | .monitor => 0x3900 ≤ idx ∧ idx ≤ 0x393F | .front => idx = 0x4000
    | .camera => 0x4010 ≤ idx ∧ idx ≤ 0x401F | .dove => idx = 0x4400 | .gleaner => idx = 0x4480 | .scaler => 0x4880 ≤ idx ∧ idx ≤ 0x4887
    | .core => 0x5000 ≤ idx ∧ idx ≤ 0x500F | .ptp => idx = 0x6070 | .port => idx = 0x1010 ∨ idx = 0x1011 | _ => True := by
  unfold unitKind at h
  iterate 21
    rcases ite_some h with ⟨c, rfl⟩ | ⟨_, h⟩
    · simpa using c
  cases h

theorem groupEnabling_reg {s : State} {idx b : Nat} (hr : 0x2440 ≤ idx ∧ idx ≤ 0x246F) (hb : b = 1 ∨ b = 2) (hs : s.reg idx 2 = stEnabling)
    (hlanes : ∀ n ∈ s.lanesOf idx, n < 128) : (s.groupEnabling idx).reg idx b = s.reg idx b := by
  unfold State.groupEnabling
  extract_lets u v
  have e : u.reg idx b = s.reg idx b := by
    show ((s.setReg idx 2 stEnabling).setReg idx 7 1).reg idx b = _
    obtain rfl | rfl := hb
    · rw [reg_setReg_key _ _ (by simp only [key]; omega), reg_setReg_key _ _ (by simp only [key]; omega)]
    · rw [reg_setReg_key _ _ (by simp only [key]; omega), reg_setReg_same, hs]
  have hl : u.lanesOf idx = s.lanesOf idx := by
    show ((s.setReg idx 2 stEnabling).setReg idx 7 1).lanesOf idx = s.lanesOf idx
    unfold State.lanesOf State.laneCount State.firstLane State.flag
    have k (c : Nat) (hc : c = 3 ∨ c = 4 ∨ c = 5) : ((s.setReg idx 2 stEnabling).setReg idx 7 1).reg idx c = s.reg idx c := by
      rw [reg_setReg_key _ _ (by simp only [key]; omega), reg_setReg_key _ _ (by simp only [key]; omega)]
    rw [k _ (by omega), k _ (by omega), k _ (by omega)]
  have e2 : v.reg idx b = s.reg idx b := e
  have hl2 : v.lanesOf idx = s.lanesOf idx := hl
  clear_value v u
  rw [← e2, hl2]
  apply each_reg
  intro n hn t
  have hn' : n < 128 := hlanes n hn
  repeat' split
  all_goals first
    | rfl
    | (show State.reg (State.setReg _ _ _ _) _ _ = _; rw [reg_setReg_key _ _ (by simp only [key]; omega)])
    | (rw [setLaneState_reg _ _ _ (by omega) (by omega) (by omega) (by omega) (by omega)]; rfl)

theorem cribEnabling_reg {s : State} {b : Nat} (hb : b = 1 ∨ b = 2) : s.cribEnabling.reg 0x2800 b = s.reg 0x2800 b := by
  unfold State.cribEnabling
  dsimp only
  rw [reg_setReg_key _ _ (by simp only [key]; omega), reg_setReg_key _ _ (by simp only [key]; omega)]; rfl

theorem monitorEnabling_reg {s : State} {idx b j : Nat} (hb : b = 1 ∨ b = 2) : (s.monitorEnabling j).reg idx b = s.reg idx b := by
  unfold State.monitorEnabling State.takeChannel
  show State.reg (State.setReg _ _ _ _) _ _ = _
  rw [reg_setReg_key _ _ (by simp only [key]; omega)]

theorem cameraEnabling_reg {s : State} {idx b j : Nat} (hi : 0x4010 ≤ idx) (hb : b = 1 ∨ b = 2) : (s.cameraEnabling j).reg idx b = s.reg idx b := by
  unfold State.cameraEnabling State.sendSettings
  dsimp only
  rw [camSet_reg _ _ _ _ _ (by omega) (by omega)]
  exact each_reg _ (fun x _ t => camSet_reg _ _ _ _ _ (by omega) (by omega))

theorem frontEnabling_reg {s : State} {b : Nat} (hb : b = 1 ∨ b = 2) : s.frontEnabling.reg 0x4000 b = s.reg 0x4000 b := by
  unfold State.frontEnabling
  extract_lets u v
  have e : u.reg 0x4000 b = s.reg 0x4000 b := rfl
  have e2 : v.reg 0x4000 b = u.reg 0x4000 b := each_reg _ (fun k hk t => reg_setReg_key _ _ (by simp only [key]; omega))
  clear_value v u
  show v.reg 0x4000 b = _
  rw [e2, e]

theorem modDove_reg1 (s : State) (f : DoveState → DoveState) (j b : Nat) : (s.modDove f).reg j b = s.reg j b := rfl

theorem doveEnabling_reg {s : State} {b : Nat} (hb : b = 1 ∨ b = 2) : s.doveEnabling.reg 0x4400 b = s.reg 0x4400 b := by
  unfold State.doveEnabling
  dsimp only
  rw [modDove_reg1, each_reg _ (fun k hk t => by rw [reg_setReg_key _ _ (by simp only [key]; omega), reg_setReg_key _ _ (by simp only [key]; omega)])]
  rw [reg_setReg_key _ _ (by simp only [key]; omega)]

theorem gleanEnabling_reg {s : State} {b : Nat} (hb : b = 1 ∨ b = 2) : s.gleanEnabling.reg 0x4480 b = s.reg 0x4480 b := by
  unfold State.gleanEnabling State.gleanStop
  rw [reg_setReg_key _ _ (by simp only [key]; omega)]; rfl

theorem scalerEnabling_reg {s : State} {idx b j : Nat} (hb : b = 1 ∨ b = 2) : (s.scalerEnabling j).reg idx b = s.reg idx b := by
  unfold State.scalerEnabling
  show State.reg (State.each _ _ _) _ _ = _
  refine each_reg _ (fun k hk t => ?_)
  unfold State.takeChannel
  show State.reg (State.setReg _ _ _ _) _ _ = _
  rw [reg_setReg_key _ _ (by simp only [key]; omega)]

theorem dspEnabling_reg {s : State} {idx b j : Nat} (hb : b = 1 ∨ b = 2) : (s.dspEnabling j).reg idx b = s.reg idx b := by
  unfold State.dspEnabling State.setDspRun
  dsimp only
  rw [reg_setReg_key _ _ (by simp only [key]; omega)]
  refine (each_reg _ (fun k hk t => ?_)).trans ?_
  · rfl
  · rfl

/-- Entering ENABLING leaves the enable and the status as written. -/
theorem startEnabling_reg {s : State} {u : UnitKind} {idx b : Nat} (hu : unitKind idx = some u) (hb : b = 1 ∨ b = 2) (hs : s.reg idx 2 = stEnabling)
    (hlanes : u = .group → ∀ n ∈ s.lanesOf idx, n < 128) : (s.startEnabling u idx).reg idx b = s.reg idx b := by
  have hr := unitKind_range hu
  unfold State.startEnabling
  cases u with
  | group => exact groupEnabling_reg hr hb hs (hlanes rfl)
  | crib => simp only at hr; subst hr; exact cribEnabling_reg hb
  | monitor => exact monitorEnabling_reg hb
  | front => simp only at hr; subst hr; exact frontEnabling_reg hb
  | camera => exact cameraEnabling_reg hr.1 hb
  | dove => simp only at hr; subst hr; exact doveEnabling_reg hb
  | gleaner => simp only at hr; subst hr; exact gleanEnabling_reg hb
  | scaler => exact scalerEnabling_reg hb
  | core => exact dspEnabling_reg hb
  | ptp =>
    simp only at hr; subst hr
    refine each_reg _ (fun k hk t => ?_)
    split
    · rw [reg_setReg_key _ _ (by simp only [key]; omega)]
    · rfl
  | _ => rfl

theorem unitKind_ge {idx : Nat} {u : UnitKind} (h : unitKind idx = some u) (hp : u ≠ .port) : 0x2440 ≤ idx := by
  unfold unitKind at h
  rcases ite_some h with ⟨c, rfl⟩ | ⟨_, h⟩
  · exact absurd rfl hp
  iterate 20
    rcases ite_some h with ⟨c, rfl⟩ | ⟨_, h⟩
    · (try simp only [Bool.and_eq_true, decide_eq_true_eq] at c)
      omega
  cases h

theorem groupLanes {s : State} {u : UnitKind} {idx : Nat} (h : enableCheck s u idx = 0) (hu : u = .group) : ∀ n ∈ s.lanesOf idx, n < 128 := by
  subst hu
  intro n hn
  unfold enableCheck groupEnableCheck at h
  dsimp only at h
  split at h
  · rename_i c
    simp only [Bool.and_eq_true] at c
    have hr := c.1.1
    unfold State.ratesAgree at hr
    simp only [List.all_eq_true, Bool.and_eq_true, decide_eq_true_eq] at hr
    have h1 := (hr n hn).1
    have q1 : s.board.rxQuads ≤ 32 := by unfold Board.rxQuads; split <;> omega
    have q2 : s.board.txQuads ≤ 32 := by unfold Board.txQuads; split <;> omega
    split at h1 <;> omega
  · cases h

/-- The state at a boundary once the values taken are live, before the notification. -/
def State.boundaryNow (was : State) (c : Nat) (taken : List (Nat × Staged)) : State :=
  ((({ was with dict := { was.dict with past := was.dict.past ++ taken.map (fun p => was.before p c), boundaries := was.dict.boundaries ++ [c], liveWriters := [] } } : State).setReg
    0x1100 1 ((was.reg 0x1100 1 + 1) % 2 ^ 32)).setReg 0x1100 2 c).each taken (fun p s => s.takeStaged p)

theorem each_id {α : Type} (xs : List α) (f : α → State → State) (s : State) (h : ∀ x ∈ xs, ∀ t : State, f x t = t) : s.each xs f = s := by
  unfold State.each
  induction xs generalizing s with
  | nil => rfl
  | cons x xs ih => rw [List.foldl_cons, h x (by simp), ih _ (fun y hy => h y (by simp [hy]))]

theorem settingKeys_filter {ks : List Nat} (p : Nat → Bool) (h : settingKeys ks = []) : settingKeys (ks.filter p) = [] := by
  unfold settingKeys at *
  rw [List.map_eq_nil_iff, List.filter_eq_nil_iff] at *
  exact fun k hk => h k (List.mem_filter.mp hk).1

/-- An epoch boundary whose armed set, once sifted, is known. -/
theorem boundary_of {u was : State} {c : Nat} {set taken : List (Nat × Staged)}
    (h : (u.setStaged u.dict.pendingSet none).sift set c set = (taken, was))
    (hk : settingKeys (taken.map (fun p => p.1)) = []) (hw : ∀ i < 32, (taken.map (fun p => p.1)).any (fun k => k / 256 = 0x5C40 + i) = false)
    (ha : ∀ p ∈ taken, ∀ (old : Nat) (s : State), s.applied c p.1 old = s) :
    ∃ k : Bytes, u.boundary c set = (was.boundaryNow c taken).notify 0 1 k := by
  have hs (t : State) : t.settingsLive [] = t := rfl
  have hwl (t : State) : t.windowsLive (taken.map (fun p => p.1)) = t := by
    unfold State.windowsLive
    have : (List.range 32).filter (fun i => (taken.map (fun p => p.1)).any (fun k => k / 256 = 0x5C40 + i)) = [] := by
      rw [List.filter_eq_nil_iff]
      intro i hi; rw [hw i (by simpa using hi)]; simp
    rw [this]; rfl
  unfold State.boundary
  rw [h]
  dsimp only
  rw [each_id _ (fun p s => s.applied c p.1 (was.reg (p.1 / 256) (p.1 % 256))) _ (fun p hp t => ha p hp _ t)]
  rw [settingKeys_filter _ hk, hs, hwl]
  exact ⟨_, rfl⟩

def setReadout (s : State) (r : Option Readout) : State := { s with crib := { s.crib with readout := r } }

theorem setReadout_reg (s : State) (r : Option Readout) (j b : Nat) : (setReadout s r).reg j b = s.reg j b := rfl

theorem setReadout_stream (s : State) (r : Option Readout) (k : Nat) : (setReadout s r).stream k = s.stream k := rfl

theorem endReadout_reg (s : State) (v : Nat) {j b : Nat} (hb : b < 256) (h : j ≠ 0x2804 ∨ b ≠ 9) : (s.endReadout v).reg j b = s.reg j b := by
  unfold State.endReadout; rw [reg_setReg_key _ _ (by simp only [key]; omega)]; rfl

theorem endReadout_sheaf (s : State) (v : Nat) : (s.endReadout v).sheaf = s.sheaf := rfl

theorem readoutPacket_some {s : State} {r n : Readout} (hr : s.crib.readout = some r) (h : s.reg (0x2700 + r.stream) 1 ≠ 0xFF)
    (hs : r.slab < (s.silo r.silo).stop) (hon : s.reg (0x2460 + s.reg (0x2700 + r.stream) 1) 2 = stOn) (hq : (s.stream r.stream).ready = []) (ha : r.after (s.silo r.silo) = some n) :
    execReadoutPacket s = .next (setReadout (((s.readoutRead r).streamPut r.stream (s.readoutPacket r)).inc32 0x2804 0x0A 1) (some n)) := by
  unfold execReadoutPacket
  rw [hr]
  simp only [if_neg h, hon, hq, List.isEmpty_nil, ha, hs, decide_true, Bool.and_true, if_true, Bool.true_eq_false, if_false]
  rfl

theorem readoutPacket_none {s : State} {r : Readout} (hr : s.crib.readout = some r) (h : s.reg (0x2700 + r.stream) 1 ≠ 0xFF)
    (hs : r.slab < (s.silo r.silo).stop) (hon : s.reg (0x2460 + s.reg (0x2700 + r.stream) 1) 2 = stOn) (hq : (s.stream r.stream).ready = []) (ha : r.after (s.silo r.silo) = none) :
    execReadoutPacket s = .next ((((((s.readoutRead r).streamPut r.stream (s.readoutPacket r)).inc32 0x2804 0x0A 1).endReadout 2).siloHeld r.silo).fire 0x13 r.silo) := by
  unfold execReadoutPacket
  rw [hr]
  simp only [if_neg h, hon, hq, List.isEmpty_nil, ha, hs, decide_true, Bool.and_true, if_true, Bool.true_eq_false, if_false]
  rfl

@[simp] theorem commanded_ok (s : State) (sess i a v : Nat) (t : State) : s.commanded sess i a v (.ok t) = t.result sess 2 i a (.of stOk) := rfl

theorem siloHeld_reg (s : State) (j : Nat) {i a : Nat} (hi : i < 0x2840 ∨ 0x287F < i ∨ (i ≠ 0x2840 + j) ∨ a ≠ 1) (h2 : i < 27200) (ha : a < 256)
    (he : i < 0x1100 ∨ 0x1110 < i) (hj : j < 64) : (s.siloHeld j).reg i a = s.reg i a := by
  unfold State.siloHeld
  rw [fire_low _ _ _ h2 ha he]
  exact set_ne (h := by omega)

theorem siloHeld_state (s : State) (j : Nat) (hj : j < 64) : (s.siloHeld j).reg (0x2840 + j) 1 = 2 := by
  unfold State.siloHeld
  rw [fire_low _ _ _ (by omega) (by omega) (by omega), reg_setReg_same]

theorem siloHeld_crib (s : State) (j : Nat) : (s.siloHeld j).crib = s.crib := by
  unfold State.siloHeld State.fire State.fireAt; simp

theorem siloHeld_fired (s : State) (j : Nat) (hj : j < 64) : (s.siloHeld j).dowel.fired = s.dowel.fired ++ [⟨0x12, j, s.sc, 0, 0, s.time.tclk⟩] := by
  unfold State.siloHeld; rw [fire_fired, Nat.mod_eq_of_lt (show j < 2 ^ 16 by omega)]; rfl

theorem trigger_taken {s : State} {p sc src j : Nat} (hp : p < 8) (h : s.cribOn = true) (hf : s.flag (0x2820 + p) 1 = true)
    (hj : (List.range 64).find? (fun j => s.siloState j = 0) = some j) :
    (s.trigger p sc src).reg (0x2840 + j) 1 = 1 ∧ (s.trigger p sc src).reg (0x2840 + j) 4 = sc ∧ (s.trigger p sc src).reg (0x2840 + j) 6 = src ∧
      (s.trigger p sc src).reg (0x2840 + j) 8 = s.reg 0x1100 1 ∧
      (s.trigger p sc src).reg 0x2800 0x0D = satAdd32 (s.reg 0x2800 0x0D) 1 ∧ (s.trigger p sc src).reg 0x2800 0x0E = s.reg 0x2800 0x0E := by
  have h64 : j < 64 := List.mem_range.mp (List.mem_of_find?_eq_some hj)
  unfold State.trigger
  rw [h, hf, Bool.true_and]
  simp only [if_true, hj]
  generalize hm : State.modSilo s j _ = u
  have hu (a b : Nat) : u.reg a b = s.reg a b := by rw [← hm]; rfl
  clear hm
  refine ⟨?_, ?_, ?_, ?_, ?_, ?_⟩
  · rw [inc32_reg_key _ _ (by simp only [key]; omega)]
    iterate 9 rw [set_ne]
    exact reg_setReg_same _ _ _ _
  · rw [inc32_reg_key _ _ (by simp only [key]; omega)]
    iterate 6 rw [set_ne]
    exact reg_setReg_same _ _ _ _
  · rw [inc32_reg_key _ _ (by simp only [key]; omega)]
    iterate 4 rw [set_ne]
    exact reg_setReg_same _ _ _ _
  · rw [inc32_reg_key _ _ (by simp only [key]; omega)]
    iterate 2 rw [set_ne]
    rw [reg_setReg_same]
    repeat rw [set_ne]
    rw [hu]
  · rw [inc32_reg_same]
    iterate 10 rw [set_ne]
    rw [hu]
  · rw [inc32_reg_key _ _ (by simp only [key]; omega)]
    iterate 10 rw [set_ne]
    rw [hu]

theorem siloFlag_crib (s : State) (j b : Nat) : (s.siloFlag j b).crib = s.crib := rfl

theorem showSilo_crib (s : State) (j : Nat) : (s.showSilo j).crib = s.crib := by
  unfold State.showSilo; (try dsimp only); split <;> rfl

theorem settleSilo_crib (s : State) (j : Nat) : (s.settleSilo j).crib = s.crib := by
  unfold State.settleSilo; (try dsimp only); split
  · exact siloHeld_crib _ _
  · rfl

/-- What the writer keeps of the crib while it stores samples. -/
def cribKept (s : State) : Nat × List Nat := (s.crib.sealedTo, s.crib.accepted)

theorem pinSlab_kept (s : State) (j i a : Nat) : cribKept (s.pinSlab j i a) = cribKept s := by
  unfold State.pinSlab; split
  · rfl
  · (try dsimp only); split
    · unfold cribKept; rw [showSilo_crib]; rfl
    · rfl

theorem claimSlab_kept (s : State) (i : Nat) : cribKept (s.claimSlab i) = cribKept s := by
  unfold State.claimSlab; split
  · try dsimp only
    refine Eq.trans (each_same cribKept (fun x s => ?_) _ _) rfl
    (try dsimp only); split
    · unfold cribKept; rw [settleSilo_crib]; exact pinSlab_kept _ _ _ _
    · rfl
  · try dsimp only
    refine Eq.trans (each_same cribKept (fun x s => ?_) _ _) ?_
    · (try dsimp only); split <;> rfl
    · unfold State.fire State.fireAt cribKept; simp only [countE_crib]; rfl

theorem store_crib' (s : State) (k a : Nat) (b : Bytes) : (s.store k a b).crib = s.crib := by
  have := fr_store (m := 558363) (a1 := k) (a2 := a) (a3 := b) (by decide) (fr_refl s)
  exact this.same .crib (by decide)

theorem writeSample_kept (s : State) (n c r i v : Nat) : cribKept (s.writeSample n c r i v) = cribKept s := by
  have hc : cribKept (if s.crib.slabs.any (fun b => b.index = n / 64) then s else s.claimSlab (n / 64)) = cribKept s := by
    split
    · rfl
    · exact claimSlab_kept _ _
  unfold State.writeSample
  extract_lets idx s1
  rw [show cribKept s = cribKept s1 from hc.symm]
  clear_value s1
  split
  · (try dsimp only); split
    · rfl
    · unfold cribKept State.setSlabs; dsimp only; rw [store_crib']
  · rfl

theorem takeSample_kept (s : State) (b r i c n x : Nat) : cribKept (s.takeSample b r i c n x) = cribKept s := by
  unfold State.takeSample; dsimp only
  rw [writeSample_kept]
  split
  · rfl
  · split <;> rfl

/-- The entries of the crib that count packets, while samples are stored. -/
theorem pinSlab_2801 (s : State) (j i a : Nat) (b : Nat) (hb : b < 256) : (s.pinSlab j i a).reg 0x2801 b = s.reg 0x2801 b :=
  Low.at (L := 10304) (low_pinSlab (by omega) (low_refl s)) (by omega)

theorem claimSlab_2801 (s : State) (i b : Nat) (hb : b < 256) (h7 : b ≠ 7) : (s.claimSlab i).reg 0x2801 b = s.reg 0x2801 b := by
  unfold State.claimSlab; split
  · try dsimp only
    refine Eq.trans (Low.at (L := 10304) (each_low (fun x s => ?_) _) (by omega)) rfl
    (try dsimp only); split
    · exact low_settleSilo (by omega) (low_pinSlab (by omega) (low_refl s))
    · exact low_refl s
  · try dsimp only
    refine Eq.trans (Low.at (L := 10304) (each_low (fun x s => ?_) _) (by omega)) ?_
    · (try dsimp only); split
      · exact low_siloFlag (by omega) (low_refl s)
      · exact low_refl s
    · rw [fire_low _ _ _ (by omega) (by omega) (by omega), inc32_reg_key _ _ (by simp only [key]; omega)]; rfl

theorem writeSample_2801 (s : State) (n c r i v b : Nat) (hb : b < 256) (h7 : b ≠ 7) (hc : b ≠ 0x0C) : (s.writeSample n c r i v).reg 0x2801 b = s.reg 0x2801 b := by
  have h1 : (if s.crib.slabs.any (fun b => b.index = n / 64) then s else s.claimSlab (n / 64)).reg 0x2801 b = s.reg 0x2801 b := by
    split
    · rfl
    · exact claimSlab_2801 _ _ _ hb h7
  unfold State.writeSample
  extract_lets idx s1
  rw [show s.reg 0x2801 b = s1.reg 0x2801 b from h1.symm]
  clear_value s1
  split
  · (try dsimp only); split
    · exact inc32_reg_key _ _ (by simp only [key]; omega)
    · unfold State.setSlabs
      show State.reg (State.store s1 _ _ _) 0x2801 b = _
      exact Low.at (L := 22529) (low_store (by omega) (low_refl s1)) (by omega)
  · rfl

theorem takeSample_2801 (s : State) (bl r i c n x b : Nat) (hb : b < 256) (h7 : b ≠ 7) (hc : b ≠ 0x0C) (h128 : bl < 128) (hi : i < 64) :
    (s.takeSample bl r i c n x).reg 0x2801 b = s.reg 0x2801 b := by
  unfold State.takeSample; dsimp only
  rw [writeSample_2801 _ _ _ _ _ _ _ hb h7 hc]
  split
  · exact inc64_reg_key _ _ (by simp only [key]; omega)
  · split
    · exact inc64_reg_key _ _ (by simp only [key]; omega)
    · rfl

theorem fillSlab_crib (s : State) (b : Slab) : (s.fillSlab b).crib = s.crib := by
  unfold State.fillSlab; split
  · rfl
  · exact each_same (fun s => s.crib) (fun x s => store_crib' _ _ _ _) _ _

theorem siloState_settle (s : State) (j : Nat) (hj : j < 64) (h : s.siloState j = 1) : (s.settleSilo j).siloState j = 1 ∨ (s.settleSilo j).siloState j = 2 := by
  unfold State.settleSilo; (try dsimp only); split
  · right; exact siloHeld_state _ _ hj
  · left; exact h

theorem showSilo_state (s : State) (j : Nat) (hj : j < 64) : (s.showSilo j).siloState j = s.siloState j := by
  unfold State.showSilo State.siloState; (try dsimp only); split
  · iterate 3 rw [set_ne]
  · rw [set_ne]

theorem silo_modSilo (s : State) (j : Nat) (f : Silo → Silo) (h : j < s.crib.silos.length) : (s.modSilo j f).silo j = f (s.silo j) :=
  nthD_modNth _ _ _ _ h

theorem modNth_length' {α : Type} (f : α → α) (xs : List α) (i : Nat) : (modNth f xs i).length = xs.length := by
  induction xs generalizing i with
  | nil => rfl
  | cons x xs ih => cases i <;> simp [modNth, ih]

/-- A silo whose pins took effect keeps that, its state and the number of silos while slabs are pinned. -/
structure PinKeep (j : Nat) (s t : State) : Prop where
  eff : j < s.crib.silos.length → (s.silo j).inEffect = true → (t.silo j).inEffect = true
  st : t.siloState j = s.siloState j
  len : t.crib.silos.length = s.crib.silos.length

theorem pinKeep_refl (j : Nat) (s : State) : PinKeep j s s := ⟨fun _ h => h, rfl, rfl⟩

theorem pinKeep_trans {j : Nat} {a b c : State} (h : PinKeep j a b) (k : PinKeep j b c) : PinKeep j a c :=
  ⟨fun hl he => k.eff (by rw [h.len]; exact hl) (h.eff hl he), k.st.trans h.st, k.len.trans h.len⟩

theorem pinKeep_mod (j : Nat) (s : State) (f : Silo → Silo) (hf : ∀ x, x.inEffect = true → (f x).inEffect = true) : PinKeep j s (s.modSilo j f) :=
  ⟨fun hl he => by rw [silo_modSilo _ _ _ hl]; exact hf _ he, rfl, modNth_length' _ _ _⟩

theorem pinKeep_flag (j b : Nat) (hj : j < 64) (s : State) : PinKeep j s (s.siloFlag j b) :=
  ⟨fun _ h => h, by unfold State.siloFlag State.regBit State.siloState; rw [set_ne], rfl⟩

theorem pinKeep_show (j : Nat) (hj : j < 64) (s : State) : PinKeep j s (s.showSilo j) :=
  ⟨fun _ h => by unfold State.silo at *; rw [showSilo_crib]; exact h, showSilo_state _ _ hj, by rw [showSilo_crib]⟩

theorem pinKeep_pin (j i a : Nat) (hj : j < 64) (s : State) : PinKeep j s (s.pinSlab j i a) := by
  unfold State.pinSlab; split
  · exact pinKeep_refl _ _
  · (try dsimp only); split
    · exact pinKeep_trans (pinKeep_mod j s (fun x => { x with slabs := insertPair (i, a) x.slabs }) (fun x h => h)) (pinKeep_show _ hj _)
    · exact pinKeep_trans (pinKeep_mod j s Silo.cut (fun x h => h)) (pinKeep_flag _ _ hj _)

theorem pinKeep_each {α : Type} (j : Nat) (xs : List α) (f : α → State → State) (hf : ∀ x s, PinKeep j s (f x s)) (s : State) : PinKeep j s (s.each xs f) := by
  unfold State.each
  induction xs generalizing s with
  | nil => exact pinKeep_refl _ _
  | cons x xs ih => exact pinKeep_trans (hf x s) (ih _)

theorem pinKeep_when (j : Nat) (s : State) (c : Bool) (f : State → State) (hf : ∀ s, PinKeep j s (f s)) : PinKeep j s (s.whenB c f) := by
  unfold State.whenB; split
  · exact hf s
  · exact pinKeep_refl _ _

theorem opDefined_control {w : Nat} (h : woOp w = 15) (h2 : bits w 123 120 < 8) : opDefined w = true := by
  unfold opDefined; dsimp only; rw [if_pos h]; exact decide_eq_true h2

theorem atEntry_run {s : State} {k pc w : Nat} {kind : Nat → Bool} {run : Nat → State} (h : s.jigAt k pc w) (hd : opDefined w = true) (hk : kind w = true) :
    s.atEntry k kind run = run w := by
  obtain ⟨h0, h1, h2, h3, h4⟩ := h
  unfold State.atEntry
  rw [if_pos (by simp [h1, h2]), h3, h4]
  dsimp only
  rw [hd, hk]; rfl

theorem control_run {s : State} {k pc w c : Nat} {run : Nat → State} (h : s.jigAt k pc w) (hc : controlEntry c w) (h8 : c < 8) :
    s.control k c run = run w := by
  obtain ⟨c1, c2, c3⟩ := hc
  unfold State.control
  rw [atEntry_run h (opDefined_control c1 (by omega)) (by simp [c1, c2]), if_pos c3]

theorem control_bad {s : State} {k pc w c : Nat} {run : Nat → State} (h : s.jigAt k pc w) (c1 : woOp w = 15) (c2 : bits w 123 120 = c) (h8 : c < 8)
    (c3 : bits w 80 0 ≠ 0) : s.control k c run = s.jigFail k 2 := by
  unfold State.control
  rw [atEntry_run h (opDefined_control c1 (by omega)) (by simp [c1, c2]), if_neg c3]

theorem jigFail_failed (s : State) (k code : Nat) (hk : k < 4) : (s.jigFail k code).jigFailed k (s.reg (0x3010 + k) 4) code := by
  unfold State.jigFail State.jigFailed State.runState
  dsimp only
  refine ⟨?_, ?_, ?_⟩
  · rw [fire_low _ _ _ (by omega) (by omega) (by omega)]
    iterate 2 rw [set_ne]
    exact reg_setReg_same _ _ _ _
  · rw [fire_low _ _ _ (by omega) (by omega) (by omega)]
    rw [set_ne]
    exact reg_setReg_same _ _ _ _
  · rw [fire_low _ _ _ (by omega) (by omega) (by omega), reg_setReg_same]
    rfl

theorem setRun_goes {s : State} {k pc run : Nat} (h : s.reg (0x3010 + k) 4 = pc) : (s.setRun k run).jigGoes k pc run := by
  unfold State.setRun
  exact ⟨by rw [set_ne]; exact h, reg_setReg_same _ _ _ _⟩

theorem next_goes {s : State} {k pc run : Nat} (h : s.reg (0x3010 + k) 4 = pc) (hr : s.runState k = run) : (s.nextEntry k).jigGoes k (pc + 1) run := by
  unfold State.nextEntry State.goto State.jigGoes State.runState
  rw [h]
  exact ⟨reg_setReg_same _ _ _ _, by rw [set_ne]; exact hr⟩

theorem goto_goes {s : State} {k pc run : Nat} (hr : s.runState k = run) : (s.goto k pc).jigGoes k pc run := by
  unfold State.goto State.jigGoes State.runState
  exact ⟨reg_setReg_same _ _ _ _, by rw [set_ne]; exact hr⟩

theorem jig_modJig (s : State) (k : Nat) (f : Jig → Jig) (h : k < s.xarray.jigs.length) : (s.modJig k f).jig k = f (s.jig k) := nthD_modNth _ _ _ _ h

theorem jigEnd_goes {s : State} {k pc : Nat} (hk : k < 4) (h : s.reg (0x3010 + k) 4 = pc) : (s.jigEnd k).jigGoes k pc jgDone ∧
    (s.jigEnd k).dowel.fired = s.dowel.fired ++ [⟨0x20 + 8 * k, 0, s.sc, 0, 0, s.time.tclk⟩] := by
  unfold State.jigEnd
  refine ⟨⟨?_, ?_⟩, ?_⟩
  · rw [fire_low _ _ _ (by omega) (by omega) (by omega)]; exact (setRun_goes h).1
  · unfold State.runState; rw [fire_low _ _ _ (by omega) (by omega) (by omega)]; exact (setRun_goes h).2
  · rw [fire_fired]; rfl

theorem lateSwap_off {s : State} {k : Nat} (h : (s.jig k).swapDue = false) : s.lateSwap k = s := by
  unfold State.lateSwap; rw [if_neg (by simp [h])]

theorem fencePass_goes {s : State} {k pc w : Nat} (hk : k < 4) (h : s.reg (0x3010 + k) 4 = pc) (hp : pc < 65536)
    (hs : (s.jig k).swapDue = false) : (s.fencePass k w).jigGoes k (pc + 1) jgRunning ∧
    (s.fencePass k w).dowel.fired = s.dowel.fired ++ (if bitAt w 67 then [⟨0x22 + 8 * k, pc, s.sc, 0, 0, s.time.tclk⟩] else []) := by
  unfold State.fencePass
  dsimp only
  split
  · rw [lateSwap_off (by simpa [State.jig, State.setRun, State.nextEntry, State.goto] using hs)]
    refine ⟨setRun_goes (next_goes (run := s.runState k) ?_ ?_).1, ?_⟩
    · rw [fire_low _ _ _ (by omega) (by omega) (by omega)]; exact h
    · unfold State.runState; rw [fire_low _ _ _ (by omega) (by omega) (by omega)]
    · show (State.fire _ _ _).dowel.fired = _
      rw [fire_fired, h, Nat.mod_eq_of_lt (by omega)]
  · rw [lateSwap_off (by simpa [State.jig, State.setRun, State.nextEntry, State.goto] using hs)]
    exact ⟨setRun_goes (next_goes (run := s.runState k) h rfl).1, by simp [State.setRun, State.nextEntry, State.goto]⟩

theorem releaseHalves_xarray (s : State) (k : Nat) : (s.releaseHalves k).xarray = s.xarray := by
  unfold State.releaseHalves; split
  · rfl
  · refine each_same (fun s => s.xarray) (fun h s => ?_) _ _
    dsimp only; split <;> rfl

theorem releaseHalves_reg (s : State) (k j b : Nat) : (s.releaseHalves k).reg j b = s.reg j b := by
  unfold State.releaseHalves; split
  · rfl
  · refine each_same (fun s => s.reg j b) (fun h s => ?_) _ _
    dsimp only; split <;> rfl

theorem waitEvent_goes {s : State} {k pc : Nat} (h : s.reg (0x3010 + k) 4 = pc) (hs : (s.jig k).swapDue = false) :
    (s.held (0x20 + k) = none → (s.waitEvent k).jigGoes k pc jgWaitEvt ∧ (s.waitEvent k).dowel = s.dowel) ∧
    ((s.held (0x20 + k)).isSome = true → (s.waitEvent k).jigGoes k (pc + 1) jgRunning ∧ (s.waitEvent k).dowel = (s.takeInput (0x20 + k)).dowel) := by
  refine ⟨fun he => ?_, fun he => ?_⟩
  · unfold State.waitEvent; rw [if_neg (by simp [he])]; exact ⟨setRun_goes h, rfl⟩
  · unfold State.waitEvent; rw [if_pos he, lateSwap_off (by simpa [State.jig, State.setRun, State.nextEntry, State.goto] using hs)]; exact ⟨setRun_goes (next_goes (run := s.runState k) h rfl).1, rfl⟩

theorem jigFail_xarray (s : State) (k c : Nat) : (s.jigFail k c).xarray = (s.modJig k (fun j => { j with sweep := none })).xarray := by
  unfold State.jigFail State.setRun; dsimp only; rw [fire_xarray, setReg_xarray, setReg_xarray, setReg_xarray]


theorem jig_of_xarray {s t : State} (h : t.xarray = s.xarray) (k : Nat) : t.jig k = s.jig k := by unfold State.jig; rw [h]

theorem issue_run {s : State} {k pc w op : Nat} {i : Instr}
    (hi : (op, i) ∈ [(1, Instr.corr4 k), (2, .corr8 k), (3, .beam4 k), (4, .beam8 k), (5, .xreg k), (6, .zero k), (7, .dump k)]) (h : s.jigAt k pc w)
    (ho : woOp w = op) : exec i s = .next (s.runSweep k (bits w 81 70 + 1) (sweepOf w)) := by
  have e (hd : opDefined w = true) : s.issueEntry k op = s.runSweep k (bits w 81 70 + 1) (sweepOf w) := by
    obtain ⟨h0, h1, h2, h3, h4⟩ := h
    unfold State.issueEntry
    rw [if_neg (by rw [h2]; simp), State.atEntry, if_pos (by simp [h1, h2]), h3, h4]
    dsimp only
    rw [hd, ho]; simp [sweepOf]
  have hk := h.1
  simp only [List.mem_cons, List.not_mem_nil, or_false, Prod.mk.injEq] at hi
  rcases hi with ⟨rfl, rfl⟩ | ⟨rfl, rfl⟩ | ⟨rfl, rfl⟩ | ⟨rfl, rfl⟩ | ⟨rfl, rfl⟩ | ⟨rfl, rfl⟩ | ⟨rfl, rfl⟩
  · show execCorr4 k s = _
    unfold execCorr4; rw [inst_ok (decide_eq_true hk), e (by unfold opDefined; simp [ho])]
  · show execCorr8 k s = _
    unfold execCorr8; rw [inst_ok (decide_eq_true hk), e (by unfold opDefined; simp [ho])]
  · show execBeam4 k s = _
    unfold execBeam4; rw [inst_ok (decide_eq_true hk), e (by unfold opDefined; simp [ho])]
  · show execBeam8 k s = _
    unfold execBeam8; rw [inst_ok (decide_eq_true hk), e (by unfold opDefined; simp [ho])]
  · show execXreg k s = _
    unfold execXreg; rw [inst_ok (decide_eq_true hk), e (by unfold opDefined; simp [ho])]
  · show execZero k s = _
    unfold execZero; rw [inst_ok (decide_eq_true hk), e (by unfold opDefined; simp [ho])]
  · show execDump k s = _
    unfold execDump; rw [inst_ok (decide_eq_true hk), e (by unfold opDefined; simp [ho])]

theorem issue_aux {s u : State} {k lam w : Nat} {y : Nat} (hx : u.xarray = s.xarray) (hc : u.crib = s.crib)
    (hp : u.reg (0x2110 + lam / 64) (lam % 64 + 1) = s.reg (0x2110 + lam / 64) (lam % 64 + 1)) (h4 : u.reg (0x3010 + k) 4 = s.reg (0x3010 + k) 4)
    (h3 : u.reg (0x3010 + k) 3 = s.reg (0x3010 + k) 3) (h8 : u.reg (0x3010 + k) 8 = s.reg (0x3010 + k) 8) (h7 : u.reg (0x3010 + k) 7 = y) :
    ∃ v : State, ({ u with xarray := { u.xarray with nextOrder := u.xarray.nextOrder + 1 } } : State).placeOrder k lam w u.xarray.nextOrder
        (State.tileOf { u with xarray := { u.xarray with nextOrder := u.xarray.nextOrder + 1 } } lam) =
      v.placeOrder k lam w s.xarray.nextOrder (s.tileOf lam) ∧
    v.xarray = { s.xarray with nextOrder := s.xarray.nextOrder + 1 } ∧ v.reg (0x3010 + k) 4 = s.reg (0x3010 + k) 4 ∧
    v.reg (0x3010 + k) 3 = s.reg (0x3010 + k) 3 ∧ v.crib = s.crib ∧ v.reg (0x3010 + k) 7 = y ∧ v.reg (0x3010 + k) 8 = s.reg (0x3010 + k) 8 := by
  have hr (j b : Nat) : ({ u with xarray := { u.xarray with nextOrder := u.xarray.nextOrder + 1 } } : State).reg j b = u.reg j b := rfl
  have ht : State.tileOf { u with xarray := { u.xarray with nextOrder := u.xarray.nextOrder + 1 } } lam = s.tileOf lam := by
    unfold State.tileOf State.placement; rw [hr, hp]
  refine ⟨{ u with xarray := { u.xarray with nextOrder := u.xarray.nextOrder + 1 } }, ?_, ?_, ?_, ?_, hc, ?_, ?_⟩
  · rw [ht, hx]
  · rw [hx]
  · rw [hr]; exact h4
  · rw [hr]; exact h3
  · rw [hr]; exact h7
  · rw [hr]; exact h8

theorem when32_reg (c : Bool) (u : State) (i a n : Nat) {j b : Nat} (h : key j b ≠ key i a) : (if c then u.inc32 i a n else u).reg j b = u.reg j b := by
  cases c
  · rfl
  · exact inc32_reg_key _ _ h

theorem when32_xarray (c : Bool) (u : State) (i a n : Nat) : (if c then u.inc32 i a n else u).xarray = u.xarray := by
  cases c
  · rfl
  · exact inc32_xarray _ _ _ _

theorem when32_crib (c : Bool) (u : State) (i a n : Nat) : (if c then u.inc32 i a n else u).crib = u.crib := by
  cases c
  · rfl
  · exact inc32_crib _ _ _ _

/-- The state an issue starts from: counted, numbered. -/
theorem issueOrder_eq (s : State) (k : Nat) (x : Sweep) : ∃ u : State, s.issueOrder k x = u.placeOrder k (s.sweepTile x) (s.orderBits k x) s.xarray.nextOrder (s.tileOf (s.sweepTile x)) ∧
    u.xarray = { s.xarray with nextOrder := s.xarray.nextOrder + 1 } ∧ u.reg (0x3010 + k) 4 = s.reg (0x3010 + k) 4 ∧
    u.reg (0x3010 + k) 3 = s.reg (0x3010 + k) 3 ∧ u.crib = s.crib ∧
    u.reg (0x3010 + k) 7 = wrapAdd64 (s.reg (0x3010 + k) 7) 1 ∧ u.reg (0x3010 + k) 8 = s.reg (0x3010 + k) 8 := by
  unfold State.issueOrder State.sweepTile
  have hlam : x.bin % s.board.logicalTiles < 256 := by
    have : x.bin % s.board.logicalTiles < s.board.logicalTiles := Nat.mod_lt _ (by unfold Board.logicalTiles Board.bays; split <;> omega)
    have h4 : s.board.logicalTiles ≤ 256 := by unfold Board.logicalTiles Board.bays; split <;> omega
    omega
  generalize s.orderBits k x = w
  generalize x.bin % s.board.logicalTiles = lam at hlam ⊢
  dsimp only
  refine issue_aux ?_ ?_ ?_ ?_ ?_ ?_ ?_
  · rw [when32_xarray, inc64_xarray]
  · rw [when32_crib, inc64_crib]
  · rw [when32_reg _ _ _ _ _ (by simp only [key]; omega), inc64_reg_key _ _ (by simp only [key]; omega)]
  · rw [when32_reg _ _ _ _ _ (by simp only [key]; omega), inc64_reg_key _ _ (by simp only [key]; omega)]
  · rw [when32_reg _ _ _ _ _ (by simp only [key]; omega), inc64_reg_key _ _ (by simp only [key]; omega)]
  · rw [when32_reg _ _ _ _ _ (by simp only [key]; omega), inc64_reg_key _ _ (by simp only [key]; omega)]
  · rw [when32_reg _ _ _ _ _ (by simp only [key]; omega), inc64_reg_same]

theorem runSweep_succ (s : State) (k fuel : Nat) (x : Sweep) : s.runSweep k (fuel + 1) x =
    (let code := s.orderCheck k x
    if code ≠ 0 then (s.jigFail k code).lateSwap k
    else
      let lam := x.bin % s.board.logicalTiles
      if (s.tileOf lam).isSome && !s.portOpen lam (woClass x.word) then
        let s := if s.runState k = jgWaitPort then s else s.poolFull 1
        (s.modJig k (fun j => { j with sweep := some x })).setRun k jgWaitPort
      else
        let s := (s.issueOrder k x).setRun k jgRunning
        if x.left = 0 then ((s.modJig k (fun j => { j with sweep := none })).nextEntry k).lateSwap k
        else
          let nb := match s.currentHalf k with | some h => popCount 128 h.blocks | none => popCount 128 (s.reg 0x2800 7)
          s.runSweep k fuel (x.advance nb)) := rfl

theorem runSweep_fail {s : State} {k n : Nat} {x : Sweep} (h : s.orderCheck k x ≠ 0) :
    s.runSweep k (n + 1) x = (s.jigFail k (s.orderCheck k x)).lateSwap k := by
  rw [runSweep_succ]
  dsimp only
  rw [if_pos h]

theorem runSweep_wait {s : State} {k n p : Nat} {x : Sweep} (h : s.orderCheck k x = 0) (ht : s.tileOf (s.sweepTile x) = some p)
    (hp : s.portOpen (s.sweepTile x) (woClass x.word) = false) :
    s.runSweep k (n + 1) x = ((if s.runState k = jgWaitPort then s else s.poolFull 1).modJig k (fun j => { j with sweep := some x })).setRun k jgWaitPort := by
  unfold State.sweepTile at ht hp
  rw [runSweep_succ]
  dsimp only
  rw [if_neg (by simp [h]), if_pos (by simp [hp, ht])]

theorem runSweep_last {s : State} {k n : Nat} {x : Sweep} (h : s.orderCheck k x = 0)
    (hp : s.tileOf (s.sweepTile x) = none ∨ s.portOpen (s.sweepTile x) (woClass x.word) = true) (hl : x.left = 0) :
    s.runSweep k (n + 1) x = (((((s.issueOrder k x).setRun k jgRunning).modJig k (fun j => { j with sweep := none })).nextEntry k)).lateSwap k := by
  unfold State.sweepTile at hp
  rw [runSweep_succ]
  dsimp only
  rw [if_neg (by simp [h]), if_neg (by
    rcases hp with hp | hp
    · rw [hp]; exact Bool.false_ne_true
    · rw [hp, Bool.not_true, Bool.and_false]; exact Bool.false_ne_true), if_pos hl]

theorem discard_eff (u : State) (k lam w id : Nat) (hk : k < 4) (hl : lam < 256) :
    (u.discardUnplaced k lam w id).xarray.orders = u.xarray.orders ∧ (u.discardUnplaced k lam w id).xarray.jigs = u.xarray.jigs ∧
    (u.discardUnplaced k lam w id).reg (0x3010 + k) 4 = u.reg (0x3010 + k) 4 ∧ (u.discardUnplaced k lam w id).reg (0x3010 + k) 7 = u.reg (0x3010 + k) 7 ∧
    (u.discardUnplaced k lam w id).reg (0x3010 + k) 8 = wrapAdd64 (u.reg (0x3010 + k) 8) 1 := by
  have hq (b : Nat) (hb : b < 256) (h8 : b ≠ 8) : ((u.inc64 (0x3010 + k) 8 1).inc32 (0x2100 + lam / 64) 5 1).reg (0x3010 + k) b = u.reg (0x3010 + k) b := by
    rw [inc32_reg_key _ _ (by simp only [key]; omega), inc64_reg_key _ _ (by simp only [key]; omega)]
  have hq8 : ((u.inc64 (0x3010 + k) 8 1).inc32 (0x2100 + lam / 64) 5 1).reg (0x3010 + k) 8 = wrapAdd64 (u.reg (0x3010 + k) 8) 1 := by
    rw [inc32_reg_key _ _ (by simp only [key]; omega), inc64_reg_same]
  have hx : ((u.inc64 (0x3010 + k) 8 1).inc32 (0x2100 + lam / 64) 5 1).xarray = u.xarray := by rw [inc32_xarray, inc64_xarray]
  have e : u.discardUnplaced k lam w id = if woOp w = 7 then
      ({ (u.inc64 (0x3010 + k) 8 1).inc32 (0x2100 + lam / 64) 5 1 with xarray := { ((u.inc64 (0x3010 + k) 8 1).inc32 (0x2100 + lam / 64) 5 1).xarray with
        dumps := ((u.inc64 (0x3010 + k) 8 1).inc32 (0x2100 + lam / 64) 5 1).xarray.dumps ++ [(⟨272, id, k, woClass w, woStream w, invalidRecord w⟩ : DumpRec)] } }).inc64 0x3400 0x0F 1
      else (u.inc64 (0x3010 + k) 8 1).inc32 (0x2100 + lam / 64) 5 1 := rfl
  rw [e]
  have h4 := hq 4 (by omega) (by omega)
  have h7 := hq 7 (by omega) (by omega)
  clear e hq
  generalize (u.inc64 (0x3010 + k) 8 1).inc32 (0x2100 + lam / 64) 5 1 = s1 at hx h4 h7 hq8 ⊢
  by_cases c : woOp w = 7
  · rw [if_pos c]
    refine ⟨?_, ?_, ?_, ?_, ?_⟩
    · rw [inc64_xarray, hx]
    · rw [inc64_xarray, hx]
    · rw [inc64_reg_key _ _ (by simp only [key]; omega), with_xarray_reg]; exact h4
    · rw [inc64_reg_key _ _ (by simp only [key]; omega), with_xarray_reg]; exact h7
    · rw [inc64_reg_key _ _ (by simp only [key]; omega), with_xarray_reg]; exact hq8
  · rw [if_neg c]
    exact ⟨by rw [hx], by rw [hx], h4, h7, hq8⟩

theorem last_goes {v : State} {k pc : Nat} (hl : k < v.xarray.jigs.length) (hs : (v.jig k).swapDue = false) (h4 : v.reg (0x3010 + k) 4 = pc) (t : State)
    (ht : t = (((v.setRun k jgRunning).modJig k (fun j => { j with sweep := none })).nextEntry k).lateSwap k) :
    t.jigGoes k (pc + 1) jgRunning ∧ t.xarray.orders = v.xarray.orders ∧ t.xarray.nextOrder = v.xarray.nextOrder ∧
    (∀ b, b < 256 → b ≠ 3 → b ≠ 4 → t.reg (0x3010 + k) b = v.reg (0x3010 + k) b) := by
  have hx0 : (v.setRun k jgRunning).xarray = v.xarray := setReg_xarray _ _ _ _
  have h40 : (v.setRun k jgRunning).reg (0x3010 + k) 4 = pc := by unfold State.setRun; rw [set_ne, h4]
  have h30 : (v.setRun k jgRunning).reg (0x3010 + k) 3 = jgRunning := reg_setReg_same _ _ _ _
  have hb0 (b : Nat) (hb : b < 256) (h3 : b ≠ 3) : (v.setRun k jgRunning).reg (0x3010 + k) b = v.reg (0x3010 + k) b := by unfold State.setRun; rw [set_ne]
  generalize v.setRun k jgRunning = u at *
  have hx1 : ((u.modJig k (fun j => { j with sweep := none })).nextEntry k).xarray = (u.modJig k (fun j => { j with sweep := none })).xarray := setReg_xarray _ _ _ _
  have hoff : (((u.modJig k (fun j => { j with sweep := none })).nextEntry k).jig k).swapDue = false := by
    rw [jig_of_xarray hx1, jig_modJig _ _ _ (by rw [hx0]; exact hl)]
    show (u.jig k).swapDue = false
    rw [jig_of_xarray hx0]; exact hs
  rw [lateSwap_off hoff] at ht
  subst ht
  refine ⟨⟨?_, ?_⟩, ?_, ?_, ?_⟩
  · unfold State.nextEntry State.goto
    rw [reg_setReg_same, modJig_reg, h40]
  · unfold State.nextEntry State.goto State.runState; rw [set_ne, modJig_reg]; exact h30
  · rw [hx1]; show u.xarray.orders = _; rw [hx0]
  · rw [hx1]; show u.xarray.nextOrder = _; rw [hx0]
  · intro b hb h3 h4'
    unfold State.nextEntry State.goto; rw [set_ne, modJig_reg]; exact hb0 b hb h3

theorem sweepBlocks_eq (u : State) (k : Nat) : u.sweepBlocks k = (match u.currentHalf k with | some h => popCount 128 h.blocks | none => popCount 128 (u.reg 0x2800 7)) := rfl

theorem runSweep_more {s : State} {k n p : Nat} {x : Sweep} (h : s.orderCheck k x = 0) (ht : s.tileOf (s.sweepTile x) = some p)
    (hp : s.portOpen (s.sweepTile x) (woClass x.word) = true) (hl : x.left ≠ 0) :
    s.runSweep k (n + 1) x = ((s.issueOrder k x).setRun k jgRunning).runSweep k n (x.advance (((s.issueOrder k x).setRun k jgRunning).sweepBlocks k)) := by
  unfold State.sweepTile at hp ht
  rw [runSweep_succ]
  dsimp only
  rw [if_neg (by simp [h]), if_neg (by simp [hp]), if_neg hl]
  generalize State.setRun (State.issueOrder s k x) k jgRunning = u
  exact congrArg (fun nb => u.runSweep k n (x.advance nb)) (sweepBlocks_eq u k).symm

/-- What a Jig that goes on leaves of the X-array: it only adds work orders and records of unplaced tiles. -/
structure Woken (s t : State) : Prop where
  orders : s.xarray.orders <+: t.xarray.orders
  dumps : s.xarray.dumps <+: t.xarray.dumps
  bins : t.xarray.bins = s.xarray.bins
  tiles : t.xarray.tiles = s.xarray.tiles

theorem woken_refl (s : State) : Woken s s := ⟨List.prefix_rfl, List.prefix_rfl, rfl, rfl⟩

theorem woken_trans {a b c : State} (h : Woken a b) (k : Woken b c) : Woken a c :=
  ⟨h.orders.trans k.orders, h.dumps.trans k.dumps, k.bins.trans h.bins, k.tiles.trans h.tiles⟩

theorem woken_of {s t : State} (h : t.xarray = s.xarray) : Woken s t := ⟨by rw [h], by rw [h], by rw [h], by rw [h]⟩

theorem woken_setReg (s : State) (i a v : Nat) : Woken s (s.setReg i a v) := woken_of (setReg_xarray _ _ _ _)

theorem woken_modJig (s : State) (k : Nat) (f : Jig → Jig) : Woken s (s.modJig k f) := ⟨List.prefix_rfl, List.prefix_rfl, rfl, rfl⟩

theorem woken_inc64 (s : State) (i a v : Nat) : Woken s (s.inc64 i a v) := woken_of (inc64_xarray _ _ _ _)

theorem woken_inc32 (s : State) (i a v : Nat) : Woken s (s.inc32 i a v) := woken_of (inc32_xarray _ _ _ _)

theorem woken_swap (s : State) (k : Nat) (l : Bytes) : Woken s (s.swapList k l) := by
  unfold State.swapList State.setRun State.goto
  exact woken_trans (woken_modJig s k _) (woken_trans (woken_setReg _ _ _ _) (woken_trans (woken_setReg _ _ _ _) (woken_trans (woken_setReg _ _ _ _) (woken_setReg _ _ _ _))))

theorem woken_late (s : State) (k : Nat) : Woken s (s.lateSwap k) := by
  unfold State.lateSwap; split
  · split
    · exact woken_trans (woken_modJig _ _ _) (woken_swap _ _ _)
    · exact woken_refl _
  · exact woken_refl _

theorem woken_fail (s : State) (k c : Nat) : Woken s (s.jigFail k c) := by
  unfold State.jigFail State.setRun
  exact woken_trans (woken_modJig s k _) (woken_trans (woken_setReg _ _ _ _) (woken_trans (woken_setReg _ _ _ _) (woken_trans (woken_setReg _ _ _ _) (woken_of (fire_xarray _ _ _)))))

theorem woken_place (s : State) (k lam w id : Nat) (o : Option Nat) : Woken s (s.placeOrder k lam w id o) := by
  unfold State.placeOrder; split
  · unfold State.discardUnplaced
    refine woken_trans (woken_inc64 s (0x3010 + k) 8 1) (woken_trans (woken_inc32 _ (0x2100 + lam / 64) 5 1) ?_)
    dsimp only
    generalize State.inc32 (State.inc64 s _ _ _) _ _ _ = u
    split
    · refine woken_trans ?_ (woken_inc64 _ _ _ _)
      exact ⟨List.prefix_rfl, List.prefix_append _ _, rfl, rfl⟩
    · exact woken_refl _
  · unfold State.enqueueOrder State.setOrders
    exact ⟨List.prefix_append _ _, List.prefix_rfl, rfl, rfl⟩

theorem woken_when32 (s : State) (c : Bool) (i a n : Nat) : Woken s (if c then s.inc32 i a n else s) := by
  cases c
  · exact woken_refl _
  · exact woken_inc32 _ _ _ _

theorem woken_number (v : State) (n : Nat) : Woken v { v with xarray := { v.xarray with nextOrder := n } } := ⟨List.prefix_rfl, List.prefix_rfl, rfl, rfl⟩

theorem woken_ports (v : State) (n : List (Nat × List Nat)) : Woken v { v with xarray := { v.xarray with ports := n } } := ⟨List.prefix_rfl, List.prefix_rfl, rfl, rfl⟩

theorem woken_issue (s : State) (k : Nat) (x : Sweep) : Woken s (s.issueOrder k x) := by
  unfold State.issueOrder
  generalize s.orderBits k x = w
  dsimp only
  refine woken_trans (woken_inc64 s (0x3010 + k) 7 1) ?_
  generalize State.inc64 s _ _ _ = u
  refine woken_trans (woken_when32 u (decide (woClass w = 3) && !u.uTile (x.bin % s.board.logicalTiles)) 0x3000 0x0A 1) ?_
  exact woken_trans (woken_number _ _) (woken_place _ _ _ _ _ _)

theorem woken_sweep (s : State) (k n : Nat) (x : Sweep) : Woken s (s.runSweep k n x) := by
  induction n generalizing s x with
  | zero => exact woken_refl _
  | succ n ih =>
    rw [runSweep_succ]
    dsimp only
    split
    · exact woken_trans (woken_fail _ _ _) (woken_late _ _)
    · split
      · refine woken_trans ?_ (woken_trans (woken_modJig _ k _) (woken_setReg _ _ _ _))
        split
        · exact woken_refl _
        · exact woken_of (countE_xarray _ _ _)
      · have h := woken_trans (woken_issue s k x) (woken_setReg (s.issueOrder k x) (0x3010 + k) 3 jgRunning)
        change Woken s ((s.issueOrder k x).setRun k jgRunning) at h
        generalize (s.issueOrder k x).setRun k jgRunning = u at h ⊢
        refine woken_trans h ?_
        split
        · exact woken_trans (woken_modJig u k _) (woken_trans (woken_setReg _ _ _ _) (woken_late _ _))
        · exact ih _ _

theorem woken_resume (s : State) (k : Nat) : Woken s (s.resumePort k) := by
  unfold State.resumePort; split
  · exact woken_sweep _ _ _ _
  · exact woken_refl _

theorem woken_wake (s : State) (lam : Nat) : Woken s (s.wakePort lam) := by
  unfold State.wakePort
  dsimp only
  split
  · exact woken_refl _
  · split
    · exact woken_trans (woken_ports _ _) (woken_resume _ _)
    · exact woken_refl _

theorem eligibleOf_mem (loads : List WeightLoad) (lam : Nat) : ∀ (e os : List WorkOrder) (o : WorkOrder), o ∈ eligibleOf loads lam e os → o ∈ os
  | _, [], _, h => by simp [eligibleOf] at h
  | e, x :: os, o, h => by
    unfold eligibleOf at h
    split at h
    · rcases List.mem_cons.mp h with h | h
      · exact List.mem_cons.mpr (.inl h)
      · exact List.mem_cons.mpr (.inr (eligibleOf_mem loads lam _ _ _ h))
    · exact List.mem_cons.mpr (.inr (eligibleOf_mem loads lam _ _ _ h))

theorem nextOrder_mem {s : State} {lam : Nat} {o : WorkOrder} (h : s.nextOrder lam = some o) : o ∈ s.xarray.orders := by
  unfold State.nextOrder at h
  exact eligibleOf_mem _ _ _ _ _ (List.mem_of_find?_eq_some h)

theorem modOrder_mem {s : State} {o : WorkOrder} {f : WorkOrder → WorkOrder} (h : o ∈ s.xarray.orders) : f o ∈ (s.modOrder o.id f).xarray.orders := by
  unfold State.modOrder State.setOrders
  exact List.mem_map.mpr ⟨o, h, if_pos rfl⟩

theorem commitOrder_orders (s : State) (g : Nat) (o : WorkOrder) : (s.commitOrder g o).xarray.orders =
    s.xarray.orders.map (fun x => if x.id = o.id then { x with phase := .done, samples := [] } else x) := by
  unfold State.commitOrder; rw [releaseHalves_xarray, inc64_xarray]; rfl

theorem commitOrder_tile (s : State) (g h : Nat) (o : WorkOrder) : (s.commitOrder g o).tile h = s.tile h := by
  unfold State.commitOrder State.tile; rw [releaseHalves_xarray, inc64_xarray]; rfl

theorem commitOrder_bins (s : State) (g : Nat) (o : WorkOrder) : (s.commitOrder g o).xarray.bins = s.xarray.bins := by
  unfold State.commitOrder; rw [releaseHalves_xarray, inc64_xarray]; rfl

theorem commitOrder_dumps (s : State) (g : Nat) (o : WorkOrder) : (s.commitOrder g o).xarray.dumps = s.xarray.dumps := by
  unfold State.commitOrder; rw [releaseHalves_xarray, inc64_xarray]; rfl

theorem modOrder_reg (s : State) (id : Nat) (f : WorkOrder → WorkOrder) (j b : Nat) : (s.modOrder id f).reg j b = s.reg j b := rfl

theorem commitOrder_reg (s : State) (g : Nat) (o : WorkOrder) : (s.commitOrder g o).reg (0x2200 + g) 3 = wrapAdd64 (s.reg (0x2200 + g) 3) 1 := by
  unfold State.commitOrder; rw [releaseHalves_reg, inc64_reg_same, modOrder_reg]

/-- The parts of the X-array that faults in the granary and folds leave alone. -/
def foldKept (s : State) : List WorkOrder × List (Nat × Tile) × List DumpRec := (s.xarray.orders, s.xarray.tiles, s.xarray.dumps)

theorem foldKept_of {s t : State} (h : t.xarray = s.xarray) : foldKept t = foldKept s := by unfold foldKept; rw [h]

theorem setAcc_kept (s : State) (g l h : Nat) (a : Acc) : foldKept (s.setAcc g l h a) = foldKept s := rfl

theorem ecc_kept (s : State) (g l h b : Nat) (bad : List Nat) : foldKept (s.granaryEcc g l h b bad) = foldKept s := by
  unfold State.granaryEcc; dsimp only; split
  · rfl
  · refine Eq.trans (each_same foldKept (fun i s => foldKept_of ?_) _ _) (setAcc_kept _ _ _ _ _)
    exact (fr_faultRecord (m := 526083) (by decide) (fr_refl s)).same .xarray (by decide)

theorem foldBank_kept (s : State) (g : Nat) (o : WorkOrder) (b : Bank) : foldKept (s.foldBank g o b) = foldKept s := by
  unfold State.foldBank; dsimp only; split
  · exact (foldKept_of (inc32_xarray _ _ _ _)).trans ((setAcc_kept _ _ _ _ _).trans (setAcc_kept _ _ _ _ _))
  · generalize s.halfOf _ _ = half
    generalize (s.acc g _ half).fold _ _ _ = r
    have h0 : foldKept (((s.setAcc g (woBin b.bits / s.board.logicalTiles) half r.1).inc64 0x3400 6 1).inc64 0x3401 (b.k + 1) 1) = foldKept s :=
      (foldKept_of (inc64_xarray _ _ _ _)).trans ((foldKept_of (inc64_xarray _ _ _ _)).trans (setAcc_kept _ _ _ _ _))
    generalize ((s.setAcc g (woBin b.bits / s.board.logicalTiles) half r.1).inc64 0x3400 6 1).inc64 0x3401 (b.k + 1) 1 = u at h0 ⊢
    have k (c : Prop) [Decidable c] (v : State) (i a n : Nat) (h : foldKept v = foldKept s) : foldKept (if c then v.inc64 i a n else v) = foldKept s := by
      split
      · exact (foldKept_of (inc64_xarray _ _ _ _)).trans h
      · exact h
    split
    · exact (foldKept_of (inc32_xarray _ _ _ _)).trans (k _ _ _ _ _ (k _ _ _ _ _ (k _ _ _ _ _ h0)))
    · exact k _ _ _ _ _ (k _ _ _ _ _ (k _ _ _ _ _ h0))

theorem tile_setTile (s : State) (g : Nat) (t : Tile) : (s.setTile g t).tile g = t := by
  unfold State.setTile State.tile; dsimp only; rw [lookup_insertKey_same]; rfl

theorem kept_tile {s t : State} (h : foldKept t = foldKept s) (g : Nat) : t.tile g = s.tile g := by
  unfold State.tile; rw [show t.xarray.tiles = s.xarray.tiles from congrArg (fun x => x.2.1) h]

theorem kept_orders {s t : State} (h : foldKept t = foldKept s) : t.xarray.orders = s.xarray.orders := congrArg (fun x => x.1) h

theorem readRange_kept (s : State) (c a n : Nat) : foldKept (s.readRange c a n) = foldKept s :=
  foldKept_of ((fr_readRange (m := 558879) (by decide) (fr_refl s)).same .xarray (by decide))

theorem spill_kept (s : State) (c g l h b : Nat) : foldKept (s.spillHalf c g l h b) = foldKept s := by
  unfold State.spillHalf; dsimp only
  generalize s.readImage _ _ _ = img
  have h0 : foldKept (if (s.acc g l h).img then s.readRange c (s.spillAddr b h) 32768 else s) = foldKept s := by
    split
    · exact readRange_kept _ _ _ _
    · rfl
  generalize (if (s.acc g l h).img then s.readRange c (s.spillAddr b h) 32768 else s) = v at h0 ⊢
  split
  · split
    · generalize Acc.merge _ _ = m
      have h1 : foldKept (v.store c (s.spillAddr b h) (imageBytes m.vals)) = foldKept v :=
        foldKept_of ((fr_store (m := 558363) (by decide) (fr_refl v)).same .xarray (by decide))
      generalize v.store c (s.spillAddr b h) (imageBytes m.vals) = u at h1 ⊢
      rw [setAcc_kept]; split
      · exact (foldKept_of (inc64_xarray _ _ _ _)).trans (h1.trans h0)
      · exact h1.trans h0
    · rw [setAcc_kept]; exact h0
  · rw [setAcc_kept]; exact h0

/-- The end of a fold, before the tile pulls the blocks of its next work order. -/
theorem foldEnd_eff (s : State) (g i : Nat) (o : WorkOrder) (b : Bank) (hg : g < 272) :
    let t := ((s.foldBank g o b).freeBank g i).commitOrder g o
    s.foldEnd g i o b = t.pullAhead o.lam ∧ t.reg (0x2200 + g) 3 = wrapAdd64 (s.reg (0x2200 + g) 3) 1 ∧
    t.xarray.orders = s.xarray.orders.map (fun x => if x.id = o.id then { x with phase := .done, samples := [] } else x) ∧
    t.tile g = { s.tile g with banks := modNth (fun b => { b with busy := false }) (s.tile g).banks i } := by
  refine ⟨rfl, ?_⟩
  have hk := foldBank_kept s g o b
  have hr : (s.foldBank g o b).reg (0x2200 + g) 3 = s.reg (0x2200 + g) 3 := Low.at (L := 13312) (low_foldBank (by omega) (low_refl s)) (by omega)
  generalize s.foldBank g o b = u at hk hr
  refine ⟨?_, ?_, ?_⟩
  · rw [commitOrder_reg]
    show wrapAdd64 (State.reg (State.setTile u g _) _ _) 1 = _
    rw [setTile_reg, hr]
  · rw [commitOrder_orders]
    show List.map _ u.xarray.orders = _
    rw [kept_orders hk]
  · rw [commitOrder_tile]; unfold State.freeBank; dsimp only
    rw [tile_setTile, kept_tile hk]

theorem bankCurrent_congr {s t : State} (h : foldKept t = foldKept s) (hr : ∀ j b, j < 10000 → b < 256 → 0x1110 < j → t.reg j b = s.reg j b)
    (hx : t.xarray.reseats = s.xarray.reseats) (g : Nat) (hg : g < 272) (hl : (s.reg (0x2200 + g) 2) < 256) (b : Bank) : t.bankCurrent g b = s.bankCurrent g b := by
  have hlam : g / 68 * 64 + s.reg (0x2200 + g) 2 < 64 * 16 := by omega
  have hs : t.serves g = s.serves g := by
    unfold State.serves State.fenced State.reseatsOf
    rw [hr _ _ (by omega) (by omega) (by omega), hr _ _ (by omega) (by omega) (by omega), hx]
  have ho : t.order b.order = s.order b.order := by unfold State.order; rw [kept_orders h]
  unfold State.bankCurrent
  rw [hs, ho]
  cases hsv : s.serves g with
  | none => rfl
  | some lam =>
    have : lam < 64 * 16 := by
      unfold State.serves at hsv
      split at hsv
      · cases hsv; exact hlam
      · cases hsv
    have hp : t.placeEpoch lam = s.placeEpoch lam := by unfold State.placeEpoch; rw [hr _ _ (by omega) (by omega) (by omega)]
    cases s.order b.order with
    | none => rfl
    | some o => dsimp only; rw [hp]

/-- What a DUMP that reads its bin leaves. -/
structure Dumped (s : State) (g : Nat) (o : WorkOrder) (t : State) : Prop where
  orders : t.xarray.orders = s.xarray.orders.map (fun x => if x.id = o.id then { x with phase := .done, samples := [] } else x)
  dump : ∃ r ∈ t.xarray.dumps, r.tile = g ∧ r.order = o.id ∧ r.bay = o.bay ∧ r.stream = woStream o.bits ∧ r.cls = woClass o.bits

theorem dumped_put {s u : State} {g : Nat} {o : WorkOrder} (h : foldKept u = foldKept s) (words : List Nat) :
    Dumped s g o ((({ u with xarray := { u.xarray with dumps := u.xarray.dumps ++ [(⟨g, o.id, o.bay, woClass o.bits, woStream o.bits, words⟩ : DumpRec)] } }).inc64 0x3400 0x0F 1).commitOrder g o) := by
  refine ⟨?_, ?_⟩
  · rw [commitOrder_orders, inc64_xarray]
    show List.map _ u.xarray.orders = _
    rw [kept_orders h]
  · rw [commitOrder_dumps, inc64_xarray]
    exact ⟨_, List.mem_append.mpr (.inr (List.mem_singleton.mpr rfl)), rfl, rfl, rfl, rfl, rfl⟩

theorem kept_when64 (s : State) (c : Bool) (i a n : Nat) : foldKept (if c = true then s.inc64 i a n else s) = foldKept s := by
  split
  · exact foldKept_of (inc64_xarray _ _ _ _)
  · rfl

theorem dumpRead_eff (s : State) (g : Nat) (o : WorkOrder) (bad : List Nat) : Dumped s g o (s.dumpRead g o bad) := by
  unfold State.dumpRead
  dsimp only
  have hk := ecc_kept s g (woBin o.bits / s.board.logicalTiles) (s.halfOf o.bits (s.orderBlocks o)) (woBin o.bits) bad
  generalize s.granaryEcc g (woBin o.bits / s.board.logicalTiles) (s.halfOf o.bits (s.orderBlocks o)) (woBin o.bits) bad = u at hk ⊢
  split
  · refine dumped_put ?_ _
    rw [setAcc_kept]
    have h0 : foldKept (if (u.acc g (woBin o.bits / s.board.logicalTiles) (s.halfOf o.bits (s.orderBlocks o))).img = true then
        u.readRange (woClass o.bits) (u.spillAddr (woBin o.bits) (s.halfOf o.bits (s.orderBlocks o))) 32768 else u) = foldKept s := by
      split
      · exact (readRange_kept _ _ _ _).trans hk
      · exact hk
    exact (kept_when64 _ _ _ _ _).trans h0
  · apply dumped_put
    split
    · rw [setAcc_kept]; exact hk
    · exact hk

theorem clearBin_acc (s : State) (g l h : Nat) (hh : h < 2) : (s.clearBin g l).acc g l h = Acc.reset := by
  unfold State.clearBin State.acc State.setAcc
  dsimp only
  rw [lookup_insertKey]
  split
  · rfl
  · rw [show h = 0 from by omega, lookup_insertKey_same]; rfl

theorem bins_acc {s t : State} (h : t.xarray.bins = s.xarray.bins) (g l k : Nat) : t.acc g l k = s.acc g l k := by unfold State.acc; rw [h]

end Sys2Proof.Machine
end

