-- ==== Sys2Proof/Laws/Effects2.lean ====
section
/-! SUPPORT. More lemmas on what shared operations do to single entries and records: staging, re-seats, reads of DRAM, inspection, DSP, memory, fabric, timing and service. -/

set_option Elab.async false

namespace Sys2Proof.Machine
set_option linter.all false

def stagingKept (s : State) : List StagedRec × List (Nat × Nat) := (s.xarray.staged, s.xarray.recno)

theorem stagingKept_of {s t : State} (h : t.xarray = s.xarray) : stagingKept t = stagingKept s := by unfold stagingKept; rw [h]

theorem ecc_staging (s : State) (g l h b : Nat) (bad : List Nat) : stagingKept (s.granaryEcc g l h b bad) = stagingKept s := by
  unfold State.granaryEcc; dsimp only; split
  · rfl
  · refine Eq.trans (each_same stagingKept (fun i s => stagingKept_of ?_) _ _) rfl
    exact (fr_faultRecord (m := 526083) (by decide) (fr_refl s)).same .xarray (by decide)

theorem commitOrder_staging (s : State) (g : Nat) (o : WorkOrder) : stagingKept (s.commitOrder g o) = stagingKept s := by
  unfold State.commitOrder
  rw [stagingKept_of (releaseHalves_xarray _ _), stagingKept_of (inc64_xarray _ _ _ _)]
  rfl

theorem dump_put_staging (s : State) (g : Nat) (o : WorkOrder) (ds : List DumpRec) :
    stagingKept ((({ s with xarray := { s.xarray with dumps := ds } }).inc64 0x3400 0x0F 1).commitOrder g o) = stagingKept s := by
  rw [commitOrder_staging, stagingKept_of (inc64_xarray _ _ _ _)]; rfl

theorem when64_staging (s : State) (c : Bool) (i a n : Nat) : stagingKept (if c = true then s.inc64 i a n else s) = stagingKept s := by
  split
  · exact stagingKept_of (inc64_xarray _ _ _ _)
  · rfl

theorem dumpRead_staging (s : State) (g : Nat) (o : WorkOrder) (bad : List Nat) : stagingKept (s.dumpRead g o bad) = stagingKept s := by
  unfold State.dumpRead
  dsimp only
  have hk := ecc_staging s g (woBin o.bits / s.board.logicalTiles) (s.halfOf o.bits (s.orderBlocks o)) (woBin o.bits) bad
  generalize s.granaryEcc g (woBin o.bits / s.board.logicalTiles) (s.halfOf o.bits (s.orderBlocks o)) (woBin o.bits) bad = u at hk ⊢
  split
  · rw [dump_put_staging]
    have h0 : stagingKept (if (u.acc g (woBin o.bits / s.board.logicalTiles) (s.halfOf o.bits (s.orderBlocks o))).img = true then
        u.readRange (woClass o.bits) (u.spillAddr (woBin o.bits) (s.halfOf o.bits (s.orderBlocks o))) 32768 else u) = stagingKept s := by
      split
      · exact (stagingKept_of ((fr_readRange (m := 558879) (by decide) (fr_refl u)).same .xarray (by decide))).trans hk
      · exact hk
    exact (when64_staging _ _ _ _ _).trans h0
  · rw [dump_put_staging]; split
    · exact hk
    · exact hk

theorem leavePath_staging (s : State) (r : DumpRec) (bad : List Nat) : stagingKept (s.leavePath r bad) =
    (s.xarray.staged, insertKey s.xarray.recno r.stream ((s.recordNumber r.stream + 1) % 2 ^ 64)) := by
  unfold State.leavePath
  dsimp only
  split
  · split
    · rw [dumpRead_staging]; rfl
    · rfl
  · rfl

theorem commitOrder_key (s : State) (g : Nat) (o : WorkOrder) {j b : Nat} (hb : b < 256) (h : b ≠ 3) : (s.commitOrder g o).reg j b = s.reg j b := by
  unfold State.commitOrder; rw [releaseHalves_reg, inc64_reg_key _ _ (by simp only [key]; omega), modOrder_reg]

theorem leavePath_recno (s : State) (r : DumpRec) (bad : List Nat) : (s.leavePath r bad).xarray.recno =
    insertKey s.xarray.recno r.stream ((s.recordNumber r.stream + 1) % 2 ^ 64) := congrArg Prod.snd (leavePath_staging s r bad)

theorem when64_reg (c : Bool) (u : State) (i a n : Nat) {j b : Nat} (h : key j b ≠ key i a) : (if c then u.inc64 i a n else u).reg j b = u.reg j b := by
  split
  · exact inc64_reg_key _ _ h
  · rfl

/-- A DUMP's read of its bin leaves the count of discarded records (R167). -/
theorem dumpRead_0D (s : State) (g : Nat) (o : WorkOrder) (bad : List Nat) : (s.dumpRead g o bad).reg 0x3400 0x0D = s.reg 0x3400 0x0D := by
  have put (u : State) (ds : List DumpRec) (h : u.reg 0x3400 0x0D = s.reg 0x3400 0x0D) :
      ((({ u with xarray := { u.xarray with dumps := ds } }).inc64 0x3400 0x0F 1).commitOrder g o).reg 0x3400 0x0D = s.reg 0x3400 0x0D := by
    rw [commitOrder_key _ _ _ (by omega) (by omega), inc64_reg_key _ _ (by simp only [key]; omega), with_xarray_reg]; exact h
  have hk : (s.granaryEcc g (woBin o.bits / s.board.logicalTiles) (s.halfOf o.bits (s.orderBlocks o)) (woBin o.bits) bad).reg 0x3400 0x0D = s.reg 0x3400 0x0D :=
    Low.at (L := 27200) (low_granaryEcc (by omega) (low_refl s)) (by omega)
  unfold State.dumpRead
  dsimp only
  generalize s.granaryEcc g (woBin o.bits / s.board.logicalTiles) (s.halfOf o.bits (s.orderBlocks o)) (woBin o.bits) bad = u at hk ⊢
  split
  · apply put
    have h0 : (if (u.acc g (woBin o.bits / s.board.logicalTiles) (s.halfOf o.bits (s.orderBlocks o))).img = true then
        u.readRange (woClass o.bits) (u.spillAddr (woBin o.bits) (s.halfOf o.bits (s.orderBlocks o))) 32768 else u).reg 0x3400 0x0D = s.reg 0x3400 0x0D := by
      split
      · exact (Low.at (L := 22528) (low_readRange (by omega) (low_refl u)) (by omega)).trans hk
      · exact hk
    show State.reg (State.setAcc _ _ _ _ _) _ _ = _
    exact (when64_reg _ _ _ _ _ (by simp only [key]; omega)).trans h0
  · apply put
    split
    · exact hk
    · exact hk

theorem leavePath_0D (s : State) (r : DumpRec) (bad : List Nat) : (s.leavePath r bad).reg 0x3400 0x0D = s.reg 0x3400 0x0D := by
  unfold State.leavePath
  dsimp only
  split
  · split
    · rw [dumpRead_0D]; rfl
    · rfl
  · rfl

theorem streamPuts_xarray (s : State) (k : Nat) (ps : List OutPacket) : (s.each ps (fun p s => s.streamPut k p)).xarray = s.xarray :=
  each_same (fun s : State => s.xarray) (fun p s => by unfold State.streamPut; split <;> rfl) _ _

theorem streamPut_reg' (s : State) (k : Nat) (p : OutPacket) {j b : Nat} (h : key j b ≠ key (0x2700 + k) 4) : (s.streamPut k p).reg j b = s.reg j b := by
  unfold State.streamPut; split
  · rfl
  · unfold State.setStream; rw [reg_setReg_key _ _ h, with_sheaf_reg]

theorem streamPut_xarray' (s : State) (k : Nat) (p : OutPacket) : (s.streamPut k p).xarray = s.xarray := by
  unfold State.streamPut; split <;> rfl

theorem streamPuts_reg (s : State) (k : Nat) (ps : List OutPacket) {j b : Nat} (h : key j b ≠ key (0x2700 + k) 4) : (s.each ps (fun p s => s.streamPut k p)).reg j b = s.reg j b :=
  each_same (fun s : State => s.reg j b) (fun p s => streamPut_reg' _ _ _ h) _ _

theorem when64_xarray (c : Bool) (u : State) (i a n : Nat) : (if c then u.inc64 i a n else u).xarray = u.xarray := by
  split
  · exact inc64_xarray _ _ _ _
  · rfl

theorem sendFragments_xarray (s : State) (k slot : Nat) (ws : List Nat) : (s.sendFragments k slot ws).xarray = s.xarray := rfl

theorem sendFragments_reg (s : State) (k slot : Nat) (ws : List Nat) {j b : Nat} (h : key j b ≠ key (0x2700 + k) 4) :
    (s.sendFragments k slot ws).reg j b = s.reg j b := by
  unfold State.sendFragments State.setStream; dsimp only; rw [reg_setReg_key _ _ h, with_sheaf_reg]

theorem freeStaged_reg (s : State) (r : StagedRec) (j b : Nat) : (s.freeStaged r).reg j b = s.reg j b := rfl

theorem formatVoltage_xarray (s : State) (g k sc : Nat) (ws : List Nat) : (s.formatVoltage g k sc ws).xarray = s.xarray := by
  unfold State.formatVoltage
  dsimp only
  rw [inc64_xarray, inc64_xarray, streamPut_xarray', streamPut_xarray']

theorem formatVoltage_reg (s : State) (g k sc : Nat) (ws : List Nat) {j b : Nat} (h0 : key j b ≠ key (0x2700 + k) 4) (h : key j b ≠ key 0x3800 6) (h2 : key j b ≠ key 0x3800 4) : (s.formatVoltage g k sc ws).reg j b = s.reg j b := by
  unfold State.formatVoltage
  dsimp only
  rw [inc64_reg_key _ _ h, inc64_reg_key _ _ h2, streamPut_reg' _ _ _ h0, streamPut_reg' _ _ _ h0]

theorem formatVoltage_count (s : State) (g k sc : Nat) (ws : List Nat) (hk : k < 256) : (s.formatVoltage g k sc ws).reg 0x3800 4 = wrapAdd64 (s.reg 0x3800 4) 1 := by
  unfold State.formatVoltage
  dsimp only
  rw [inc64_reg_key _ _ (by simp only [key]; omega), inc64_reg_same, streamPut_reg' _ _ _ (by simp only [key]; omega), streamPut_reg' _ _ _ (by simp only [key]; omega)]

theorem content_set (s : State) (p slot : Nat) (b : Bytes) (hb : b.length = 8192) :
    (s.modX (fun x => { x with weights := insertKey x.weights (p * 64 + slot) b })).slotContent p slot = b := by
  unfold State.slotContent
  rw [show (s.modX (fun x => { x with weights := insertKey x.weights (p * 64 + slot) b })).weightSlot p slot = b from by
    unfold State.weightSlot State.modX; dsimp only; rw [lookup_insertKey_same]; rfl]
  rw [if_neg]
  cases b with
  | nil => simp at hb
  | cons x xs => simp

theorem accept_yes {c : Bool} {d : Nat} {s : State} (h : c = true) : accept c d s = .ok s := by unfold accept; rw [if_pos h]

theorem accept_no {c : Bool} {d : Nat} {s : State} (h : c = false) : accept c d s = .error d := by unfold accept; rw [if_neg (by rw [h]; decide)]

theorem faultStart_at (s : State) (c i u d : Nat) {j b : Nat} (h1 : j < 27200 := by omega) (hb : b < 256 := by omega) (he : j < 0x1100 ∨ 0x1110 < j := by omega) :
    (s.faultStart c i u d).reg j b = s.reg j b := Low.at (L := 27200) (low_faultStart (by omega) (low_refl s)) h1 hb he

theorem faultDone_at (s : State) (c a i u d : Nat) {j b : Nat} (h1 : j < 27200 := by omega) (hb : b < 256 := by omega) (he : j < 0x1100 ∨ 0x1110 < j := by omega) :
    (s.faultDone c a i u d).reg j b = s.reg j b := Low.at (L := 27200) (low_faultDone (by omega) (low_refl s)) h1 hb he

theorem countE_at (s : State) (c a : Nat) {j b : Nat} (h1 : j < 27200 := by omega) (hb : b < 256 := by omega) (he : j < 0x1100 ∨ 0x1110 < j := by omega) :
    (s.countE c a).reg j b = s.reg j b := Low.at (L := 27200) (low_countE (by omega) (low_refl s)) h1 hb he

theorem serves_state {s : State} {g lam : Nat} (h : s.serves g = some lam) : s.reg (0x2200 + g) 1 = 0 ∧ s.fenced g = false ∧ lam = g / 68 * 64 + s.reg (0x2200 + g) 2 := by
  unfold State.serves at h
  split at h
  · rename_i hc
    simp only [Bool.and_eq_true, decide_eq_true_eq, Bool.not_eq_true'] at hc
    exact ⟨hc.1, hc.2, by injection h with h; exact h.symm⟩
  · cases h

theorem startReseat_nil {s : State} {bay n : Nat} (h : s.reseatsOf bay = []) : s.startReseat bay (n + 1) = s.setReg (0x2100 + bay) 6 0 := by
  rw [State.startReseat, h]

theorem startReseat_spare {s : State} {bay n q : Nat} {r : Reseat} {rest : List Reseat} {qs : List Nat} (h : s.reseatsOf bay = r :: rest)
    (ht : r.target = none) (hq : s.tilesIn bay 1 = q :: qs) :
    s.startReseat bay (n + 1) = (s.setReseats bay ({ r with target := some q } :: rest)).setReg (0x2100 + bay) 6 1 := by
  rw [State.startReseat, h]
  dsimp only
  rw [if_neg (by rw [ht]; decide), hq]

theorem reseatsOf_set {s : State} {bay : Nat} (rs : List Reseat) (h : bay < s.xarray.reseats.length) : (s.setReseats bay rs).reseatsOf bay = rs :=
  nthD_modNth [] _ _ _ h

theorem reseatsOf_of {s t : State} (h : t.xarray.reseats = s.xarray.reseats) (bay : Nat) : t.reseatsOf bay = s.reseatsOf bay := by
  unfold State.reseatsOf; rw [h]

theorem tilesIn_of {s t : State} {bay : Nat} (st : Nat) (h : ∀ g, g / 68 = bay → t.reg (0x2200 + g) 1 = s.reg (0x2200 + g) 1) : t.tilesIn bay st = s.tilesIn bay st := by
  unfold State.tilesIn
  apply List.filter_congr
  intro g hg
  obtain ⟨x, hx, rfl⟩ := List.mem_map.mp hg
  rw [h _ (by have := List.mem_range.mp hx; omega)]

theorem returnOrders_reg (s : State) (lam j b : Nat) : (s.returnOrders lam).reg j b = s.reg j b := rfl

theorem returnOrders_reseats (s : State) (lam : Nat) : (s.returnOrders lam).xarray.reseats = s.xarray.reseats := rfl

theorem bumpEpoch_reg (s : State) {lam j b : Nat} (hb : b < 256) (h : j < 0x2110 ∨ 0x2110 + lam / 64 < j) : (s.bumpEpoch lam).reg j b = s.reg j b := by
  unfold State.bumpEpoch State.setPlacement; rw [set_ne]

theorem bumpEpoch_xarray (s : State) (lam : Nat) : (s.bumpEpoch lam).xarray = s.xarray := setReg_xarray _ _ _ _

theorem showBay_xarray (s : State) (bay : Nat) : (s.showBay bay).xarray = s.xarray := by
  unfold State.showBay; simp only [setReg_xarray]

theorem showBay_reg (s : State) {bay j b : Nat} (hb : b < 256) (h : j ≠ 0x2100 + bay ∨ b = 0 ∨ 4 < b) : (s.showBay bay).reg j b = s.reg j b := by
  unfold State.showBay
  dsimp only
  rw [set_ne, set_ne, set_ne, set_ne]

theorem setTileState_xarray (s : State) (g a b c : Nat) : (s.setTileState g a b c).xarray = s.xarray := by
  unfold State.setTileState; simp only [setReg_xarray]

theorem setTileState_reg (s : State) {g a b c j x : Nat} (hb : x < 256) (h : j ≠ 0x2200 + g ∨ x = 0 ∨ x = 3 ∨ x = 4 ∨ 5 < x) :
    (s.setTileState g a b c).reg j x = s.reg j x := by
  unfold State.setTileState
  rw [set_ne, set_ne, set_ne]

theorem setTileState_state (s : State) (g a b c : Nat) : (s.setTileState g a b c).reg (0x2200 + g) 1 = a := by
  unfold State.setTileState; rw [set_ne, set_ne, reg_setReg_same]

theorem setTileState_logical (s : State) (g a b c : Nat) : (s.setTileState g a b c).reg (0x2200 + g) 2 = b := by
  unfold State.setTileState; rw [set_ne, reg_setReg_same]

theorem setTileState_cause (s : State) (g a b c : Nat) : (s.setTileState g a b c).reg (0x2200 + g) 5 = c := by
  unfold State.setTileState; rw [reg_setReg_same]

theorem setReg_reseatsOf (s : State) (i a v k : Nat) : (s.setReg i a v).reseatsOf k = s.reseatsOf k := reseatsOf_of (by rw [setReg_xarray]) _

theorem inc32_reseatsOf (s : State) (i a v k : Nat) : (s.inc32 i a v).reseatsOf k = s.reseatsOf k := reseatsOf_of (by rw [inc32_xarray]) _

theorem fire_reseatsOf (s : State) (a v k : Nat) : (s.fire a v).reseatsOf k = s.reseatsOf k := reseatsOf_of (by rw [fire_xarray]) _

theorem showBay_reseatsOf (s : State) (a k : Nat) : (s.showBay a).reseatsOf k = s.reseatsOf k := reseatsOf_of (by rw [showBay_xarray]) _

theorem faultDone_reseatsOf (s : State) (a b c d e k : Nat) : (s.faultDone a b c d e).reseatsOf k = s.reseatsOf k := reseatsOf_of (by rw [faultDone_xarray]) _

theorem setTileState_reseatsOf (s : State) (a b c d k : Nat) : (s.setTileState a b c d).reseatsOf k = s.reseatsOf k := reseatsOf_of (by rw [setTileState_xarray]) _

theorem fenced_of {s : State} {g : Nat} {r : Reseat} (h : r ∈ s.reseatsOf (g / 68)) (hr : r.source = g) : s.fenced g = true := by
  unfold State.fenced; rw [List.any_eq_true]; exact ⟨r, h, by simp [hr]⟩

theorem fenced_nil {s : State} {g : Nat} (h : s.reseatsOf (g / 68) = []) : s.fenced g = false := by
  unfold State.fenced; rw [h]; rfl

theorem serves_start (s : State) (c i u d g : Nat) (h : g < 272) : (s.faultStart c i u d).serves g = s.serves g := by
  unfold State.serves State.fenced State.reseatsOf; rw [faultStart_at, faultStart_at, faultStart_xarray]

theorem setTile_retests (s : State) (g : Nat) (t : Tile) : (s.setTile g t).xarray.retests = s.xarray.retests := rfl

theorem setTile_reseats (s : State) (g : Nat) (t : Tile) : (s.setTile g t).xarray.reseats = s.xarray.reseats := rfl

theorem setTile_reg' (s : State) (g : Nat) (t : Tile) (j b : Nat) : (s.setTile g t).reg j b = s.reg j b := rfl

theorem with_outputs_reg (s : State) (o : List WinOut) (j b : Nat) : State.reg { s with winnow := { s.winnow with outputs := o } } j b = s.reg j b := rfl

theorem scaler_mod {s : State} {x : Nat} (f : Scaler → Scaler) (h : x < s.winnow.scalers.length) : (s.modScaler x f).scaler x = f (s.scaler x) := nthD_modNth _ _ _ _ h

theorem win_mod {s : State} {x : Nat} (f : WinChannel → WinChannel) (h : x < s.winnow.channels.length) : (s.modWin x f).win x = f (s.win x) := nthD_modNth _ _ _ _ h

theorem cam_of {s t : State} (h : t.insp = s.insp) (c : Nat) : t.cam c = s.cam c := by unfold State.cam; rw [h]

theorem cam_mod {s : State} {c : Nat} (f : Camera → Camera) (h : c < s.insp.front.cams.length) : (s.modCam c f).cam c = f (s.cam c) := nthD_modNth _ _ _ _ h

theorem when32_insp (p : Prop) [Decidable p] (u : State) (i a n : Nat) : (if p then u.inc32 i a n else u).insp = u.insp := by
  split
  · exact inc32_insp _ _ _ _
  · rfl

theorem whenp32_reg (p : Prop) [Decidable p] (u : State) (i a n : Nat) {j b : Nat} (h : key j b ≠ key i a) : (if p then u.inc32 i a n else u).reg j b = u.reg j b := by
  split
  · exact inc32_reg_key _ _ h
  · rfl

theorem missed_eff (u : State) (p1 p2 p3 : Bool) (i k : Nat) (hi : i ≠ 0x4001) :
    (if p3 = true then (if p1 = true then ((u.inc64 i 0x0B 1).inc64 i 0x0E k).inc32 0x4001 5 1 else if p2 = true then ((u.inc64 i 0x0B 1).inc64 i 0x0E k).inc32 0x4001 6 1 else (u.inc64 i 0x0B 1).inc64 i 0x0E k).inc32 0x4001 7 1
      else (if p1 = true then ((u.inc64 i 0x0B 1).inc64 i 0x0E k).inc32 0x4001 5 1 else if p2 = true then ((u.inc64 i 0x0B 1).inc64 i 0x0E k).inc32 0x4001 6 1 else (u.inc64 i 0x0B 1).inc64 i 0x0E k)).insp = u.insp ∧
    (if p3 = true then (if p1 = true then ((u.inc64 i 0x0B 1).inc64 i 0x0E k).inc32 0x4001 5 1 else if p2 = true then ((u.inc64 i 0x0B 1).inc64 i 0x0E k).inc32 0x4001 6 1 else (u.inc64 i 0x0B 1).inc64 i 0x0E k).inc32 0x4001 7 1
      else (if p1 = true then ((u.inc64 i 0x0B 1).inc64 i 0x0E k).inc32 0x4001 5 1 else if p2 = true then ((u.inc64 i 0x0B 1).inc64 i 0x0E k).inc32 0x4001 6 1 else (u.inc64 i 0x0B 1).inc64 i 0x0E k)).reg i 0x0B = wrapAdd64 (u.reg i 0x0B) 1 := by
  have hz : ((u.inc64 i 0x0B 1).inc64 i 0x0E k).insp = u.insp ∧ ((u.inc64 i 0x0B 1).inc64 i 0x0E k).reg i 0x0B = wrapAdd64 (u.reg i 0x0B) 1 :=
    ⟨by rw [inc64_insp, inc64_insp], by rw [inc64_reg_key _ _ (by simp only [key]; omega), inc64_reg_same]⟩
  generalize (u.inc64 i 0x0B 1).inc64 i 0x0E k = z at hz
  have hy : (if p1 = true then z.inc32 0x4001 5 1 else if p2 = true then z.inc32 0x4001 6 1 else z).insp = u.insp ∧
      (if p1 = true then z.inc32 0x4001 5 1 else if p2 = true then z.inc32 0x4001 6 1 else z).reg i 0x0B = wrapAdd64 (u.reg i 0x0B) 1 := by
    cases p1 <;> cases p2 <;> simp only [if_true, if_false, Bool.false_eq_true]
    · exact hz
    · rw [inc32_insp, inc32_reg_key _ _ (by simp only [key]; omega)]; exact hz
    · rw [inc32_insp, inc32_reg_key _ _ (by simp only [key]; omega)]; exact hz
    · rw [inc32_insp, inc32_reg_key _ _ (by simp only [key]; omega)]; exact hz
  generalize (if p1 = true then z.inc32 0x4001 5 1 else if p2 = true then z.inc32 0x4001 6 1 else z) = y at hy
  cases p3 <;> simp only [if_true, if_false, Bool.false_eq_true]
  · exact hy
  · rw [inc32_insp, inc32_reg_key _ _ (by simp only [key]; omega)]; exact hy

/-- Stage B moves on to the next output line and counts it (R222). -/
theorem stageB_eff (s : State) {c : Nat} (h : c < s.insp.front.cams.length) (hc : c < 16) : ((s.stageB c).s.cam c).nextOut = (s.cam c).nextOut + 1 ∧
    (s.stageB c).s.reg (0x4010 + c) 0x0B = wrapAdd64 (s.reg (0x4010 + c) 0x0B) 1 ∧ (s.stageB c).s.insp.front.cams.length = s.insp.front.cams.length := by
  unfold State.stageB
  dsimp only
  generalize hf : State.modCam s c _ = u
  have hn : (u.cam c).nextOut = (s.cam c).nextOut + 1 := by rw [← hf, cam_mod _ h]
  have hr (j b : Nat) : u.reg j b = s.reg j b := by rw [← hf]; rfl
  have hz : u.insp.front.cams.length = s.insp.front.cams.length := by rw [← hf]; exact modNth_length' _ _ _
  clear hf
  refine ⟨(congrArg Camera.nextOut (cam_of (missed_eff u _ _ _ _ _ (by omega)).1 c)).trans hn, (missed_eff u _ _ _ _ _ (by omega)).2.trans (by rw [hr]), (congrArg (fun x : InspectState => x.front.cams.length) (missed_eff u _ _ _ _ _ (by omega)).1).trans hz⟩

theorem fifoPut_next (s : State) (c d : Nat) (x : FifoLine) (ps : List (List Nat)) (hc : c < s.insp.front.cams.length) (hd : d = c) : ((s.fifoPut c x ps).cam d).nextOut = (s.cam d).nextOut := by
  subst hd
  unfold State.fifoPut
  have e : (s.store clsH (s.fifoAddr d x.line) (ps.flatten.flatMap (beBytes 2))).insp = s.insp := (fr_store (m := 558363) (by decide) (fr_refl s)).same .insp (by decide)
  rw [cam_mod _ (by rw [e]; exact hc)]
  dsimp only
  rw [cam_of e]

def putOutput (s : State) (o : WinOut) : State := { s with winnow := { s.winnow with outputs := s.winnow.outputs ++ [o] } }

theorem winStep_out {s : State} {c : Nat} {v y : WinVal} {rest : List WinVal} {x : WinChannel} (hq : (s.win c).queue = v :: rest)
    (hc : s.winCarry c { s.win c with queue := rest } v = (x, some y)) (hs : y.sat = false) :
    s.winStep c = putOutput ((s.modWin c (fun _ => x)).inc64 (0x4810 + c) 6 1) ⟨c, y⟩ := by
  unfold State.winStep
  rw [hq]
  dsimp only
  rw [hc]
  dsimp only
  rw [hs]
  rfl

theorem putOutput_reg (s : State) (o : WinOut) (j b : Nat) : (putOutput s o).reg j b = s.reg j b := rfl

theorem value_run {s : State} {o : WinOut} {rest : List WinOut} {j : Nat} (ho : s.winnow.outputs = o :: rest) (hu : s.winUser o.channel = j) (hj : j < 64)
    (hon : s.reg (0x3900 + j) 2 = stOn) (ha : s.reg (0x3900 + j) 0x0A = 0) :
    execWinnowOutput s = .next (if s.reg (0x3900 + j) 6 < o.value.v then (({ s with winnow := { s.winnow with outputs := rest } } : State).setReg (0x3900 + j) 0x0C o.value.v).crossing j o.value
      else (({ s with winnow := { s.winnow with outputs := rest } } : State).setReg (0x3900 + j) 0x0C o.value.v)) := by
  unfold execWinnowOutput
  rw [ho]
  dsimp only
  generalize hw : ({ s with winnow := { s.winnow with outputs := rest } } : State) = w
  have hr (i b : Nat) : w.reg i b = s.reg i b := by rw [← hw, with_winnow_reg]
  have hwu : w.winUser o.channel = j := by rw [← hu]; unfold State.winUser; rw [hr]
  rw [hwu, if_pos hj]
  unfold State.monitorValue
  dsimp only
  rw [hr, hon]
  show Host.Outcome.next (w.compareValue j o.value) = _
  unfold State.compareValue
  dsimp only
  rw [set_ne, set_ne, hr, hr, ha]
  rfl

theorem streamPut_winnow' (s : State) (k : Nat) (p : OutPacket) : (s.streamPut k p).winnow = s.winnow := by unfold State.streamPut; split <;> rfl

theorem crossing_eq (s : State) (j : Nat) (y : WinVal) : ∃ p sc k q, s.crossing j y =
    (let u := (s.inc32 (0x3900 + j) 0x0B 1).fireAt (0x40 + j) p sc
     let v := (u.setHoldoff j 0).setReg (0x3900 + j) 0x0A (if u.reg (0x3900 + j) 8 = 0 then 2 else 1)
     if v.reg (0x3900 + j) 9 = 0xFF then v else v.streamPut k q) := ⟨_, _, _, _, rfl⟩

theorem crossing_eff (s : State) (j : Nat) (y : WinVal) (hj : j < 64) : (s.crossing j y).reg (0x3900 + j) 0x0B = satAdd32 (s.reg (0x3900 + j) 0x0B) 1 ∧
    (s.crossing j y).reg (0x3900 + j) 0x0A = (if s.reg (0x3900 + j) 8 = 0 then 2 else 1) ∧ (s.crossing j y).reg (0x3900 + j) 0x0C = s.reg (0x3900 + j) 0x0C ∧
    (s.crossing j y).winnow = (s.setHoldoff j 0).winnow := by
  obtain ⟨p, sc, k, q, e⟩ := crossing_eq s j y
  rw [e]
  clear e
  dsimp only
  generalize hu : (s.inc32 (0x3900 + j) 0x0B 1).fireAt (0x40 + j) p sc = u
  have hur (b : Nat) (hb : b < 256) : u.reg (0x3900 + j) b = (s.inc32 (0x3900 + j) 0x0B 1).reg (0x3900 + j) b := by
    rw [← hu]; exact Low.at (L := 27200) (low_fireAt (by omega) (low_refl _)) (by omega)
  have huw : u.winnow = s.winnow := by rw [← hu, fireAt_winnow, inc32_winnow]
  clear hu
  have hh : u.reg (0x3900 + j) 8 = s.reg (0x3900 + j) 8 := by
    rw [hur _ (by omega), inc32_reg_key _ _ (by simp only [key]; omega)]
  rw [hh]
  generalize hv : (u.setHoldoff j 0).setReg (0x3900 + j) 0x0A _ = v
  have hv1 : v.reg (0x3900 + j) 0x0B = satAdd32 (s.reg (0x3900 + j) 0x0B) 1 := by
    rw [← hv, set_ne, setHoldoff_reg, hur _ (by omega), inc32_reg_same]
  have hv2 : v.reg (0x3900 + j) 0x0A = (if s.reg (0x3900 + j) 8 = 0 then 2 else 1) := by rw [← hv, reg_setReg_same]
  have hv3 : v.reg (0x3900 + j) 0x0C = s.reg (0x3900 + j) 0x0C := by
    rw [← hv, set_ne, setHoldoff_reg, hur _ (by omega), inc32_reg_key _ _ (by simp only [key]; omega)]
  have hv4 : v.winnow = (s.setHoldoff j 0).winnow := by
    rw [← hv, setReg_winnow]; unfold State.setHoldoff; rw [huw]
  clear hv
  split
  · exact ⟨hv1, hv2, hv3, hv4⟩
  · refine ⟨?_, ?_, ?_, ?_⟩
    · rw [streamPut_reg' _ _ _ (by simp only [key]; omega)]; exact hv1
    · rw [streamPut_reg' _ _ _ (by simp only [key]; omega)]; exact hv2
    · rw [streamPut_reg' _ _ _ (by simp only [key]; omega)]; exact hv3
    · rw [streamPut_winnow']; exact hv4

theorem setHoldoff_outputs (s : State) (j n : Nat) : (s.setHoldoff j n).winnow.outputs = s.winnow.outputs := rfl

theorem edges_of_insp {s t : State} (h : t.insp = s.insp) : t.insp.front.edges = s.insp.front.edges := by rw [h]

theorem modDove_edges (s : State) (f : DoveState → DoveState) : (s.modDove f).insp.front.edges = s.insp.front.edges := rfl

theorem modCam_edges (s : State) (c : Nat) (f : Camera → Camera) : (s.modCam c f).insp.front.edges = s.insp.front.edges := rfl

theorem settingsBoundary_edges (s : State) (f : Nat) : (s.settingsBoundary f).insp.front.edges = s.insp.front.edges := by
  unfold State.settingsBoundary
  split
  · rfl
  · dsimp only
    exact each_same (fun s : State => s.insp.front.edges) (fun c s => edges_of_insp ((fr_sendSettings (m := 262146) (by decide) (fr_refl s)).same .insp (by decide))) _ _

theorem roundBoundary_edges (s : State) (f : Nat) : (s.roundBoundary f).insp.front.edges = s.insp.front.edges := by
  unfold State.roundBoundary
  split
  · split
    · rw [modDove_edges]
      exact each_same (fun s : State => s.insp.front.edges) (fun c s => edges_of_insp (inc32_insp _ _ _ _)) _ _
    · rfl
  · rfl

theorem frameEdge_edges (s : State) (i : Nat) : (s.frameEdge i).insp.front.edges = s.insp.front.edges := by
  unfold State.frameEdge
  dsimp only
  generalize hu : State.each _ _ _ = u
  have h1 : u.insp.front.edges = s.insp.front.edges := by
    rw [← hu]
    exact (each_same (fun s : State => s.insp.front.edges) (fun c s => by rw [modCam_edges, edges_of_insp (setReg_insp _ _ _ _)]) _ _).trans (settingsBoundary_edges _ _)
  split
  · rw [modDove_edges, edges_of_insp (setReg_insp _ _ _ _), roundBoundary_edges, h1]
  · rw [roundBoundary_edges, h1]

/-- What a line clock edge does beside its frame's first line. -/
structure EdgeTaken (s u : State) (g : LineEdge) (rest : List LineEdge) : Prop where
  feed : u.pos.gen.feed = rest
  next : u.pos.gen.nextLine = s.pos.gen.nextLine + 1
  edge : u.latestEdge = some ⟨s.pos.gen.nextLine, g.sc, g.tb0, g.position, g.balls⟩
  line : u.reg 0x4000 8 = s.pos.gen.nextLine
  frame : u.reg 0x4000 9 = s.pos.gen.nextLine / s.reg 0x4000 3 % 2 ^ 32
  on : s.reg 0x4000 2 = stEnabling → u.reg 0x4000 2 = stOn

theorem edgeTaken_low {s u v : State} {g : LineEdge} {rest : List LineEdge} (h : EdgeTaken s u g rest) (hp : v.pos = u.pos)
    (he : v.insp.front.edges = u.insp.front.edges) (hl : Low 16385 u v) : EdgeTaken s v g rest := by
  refine ⟨by rw [hp]; exact h.feed, by rw [hp]; exact h.next, ?_, ?_, ?_, fun k => ?_⟩
  · unfold State.latestEdge; rw [he]; exact h.edge
  · rw [hl.at (by omega)]; exact h.line
  · rw [hl.at (by omega)]; exact h.frame
  · rw [hl.at (by omega)]; exact h.on k

theorem bridgeOffset_0D (s : State) (c a l : Nat) : (s.bridgeOffset c a l).reg (0x4010 + c) 0x0D = 1 := by
  unfold State.bridgeOffset; dsimp only; rw [reg_setReg_same]

theorem bridgeOffset_insp (s : State) (c a l : Nat) : (s.bridgeOffset c a l).insp = s.insp :=
  (fr_bridgeOffset (m := 2) (by decide) (fr_refl s)).same .insp (by decide)

theorem bridgeOffset_sheaf (s : State) (c a l : Nat) : (s.bridgeOffset c a l).sheaf = s.sheaf :=
  (fr_bridgeOffset (m := 2) (by decide) (fr_refl s)).same .sheaf (by decide)

theorem modDove_dove (s : State) (f : DoveState → DoveState) : (s.modDove f).dove = f s.dove := rfl

theorem modDove_reg' (s : State) (f : DoveState → DoveState) (j b : Nat) : (s.modDove f).reg j b = s.reg j b := rfl

theorem dove_of {s t : State} (h : t.insp = s.insp) : t.dove = s.dove := by unfold State.dove; rw [h]

theorem takeInput_held (s : State) (k : Nat) : ((s.takeInput k).input k).held = (s.input k).queued.map (fun d => { d with since := s.time.tclk }) := by
  unfold State.takeInput State.setInput
  show (State.input _ k).held = _
  unfold State.input
  dsimp only
  rw [lookup_insertKey_same]

theorem input_of {s t : State} (h : t.dowel.inputs = s.dowel.inputs) (k : Nat) : t.input k = s.input k := by unfold State.input; rw [h]

theorem contains_add (xs : List Nat) (k : Nat) : k ∈ (if xs.contains k then xs else xs ++ [k]) := by
  by_cases h : xs.contains k = true
  · rw [if_pos h]; simpa using h
  · rw [if_neg h]; simp

theorem holdEvent_regs (s : State) : s.holdEvent.regs = s.regs := by unfold State.holdEvent; split <;> rfl

theorem holdEvent_dowel (s : State) : s.holdEvent.dowel = s.dowel := by unfold State.holdEvent; split <;> rfl

theorem cmdHold_filling {s : State} {k : Nat} (hn : k < s.reg 0x4000 0x0E) (h : s.reg (0x40C0 + k) 1 = 1) :
    cmdHold k s = .ok (s.modFront (fun x => { x with holds := if x.holds.contains k then x.holds else x.holds ++ [k] })) := by
  unfold cmdHold; rw [if_neg (by omega), h]; rfl

theorem cmdHold_filled {s : State} {k : Nat} (hn : k < s.reg 0x4000 0x0E) (h : s.reg (0x40C0 + k) 1 = 2) : cmdHold k s = .ok (s.setReg (0x40C0 + k) 1 3) := by
  unfold cmdHold; rw [if_neg (by omega), h]; rfl

theorem cmdHold_other {s : State} {k : Nat} (h1 : s.reg (0x40C0 + k) 1 ≠ 1) (h2 : s.reg (0x40C0 + k) 1 ≠ 2) : cmdHold k s = .error dState := by
  unfold cmdHold
  split
  · rfl
  · split
    · rename_i h; exact absurd h h1
    · rename_i h; exact absurd h h2
    · rfl

/-- What stitching a line keeps until it is counted. -/
def stitchKept (s : State) : DoveState × Nat := (s.dove, s.reg 0x4400 0x11)

theorem stitchKept_of {s t : State} (h : t.dove = s.dove) (hr : t.reg 0x4400 0x11 = s.reg 0x4400 0x11) : stitchKept t = stitchKept s := by
  unfold stitchKept; rw [h, hr]

theorem modFront_kept (s : State) (f : FrontState → FrontState) : stitchKept (s.modFront f) = stitchKept s := rfl

theorem frameOpen_kept (s : State) (f sc : Nat) : stitchKept (s.frameOpen f sc) = stitchKept s := by
  unfold State.frameOpen
  split
  · rfl
  · split
    · rw [modFront_kept]
      refine stitchKept_of (dove_of (by rw [setReg_insp, setReg_insp, setReg_insp, setReg_insp])) ?_
      rw [set_ne, set_ne, set_ne, set_ne]
    · rw [modFront_kept]
      refine stitchKept_of (dove_of (by rw [fire_insp, inc32_insp])) ?_
      rw [fire_low _ _ _ (by omega) (by omega) (by omega), inc32_reg_key _ _ (by simp only [key]; omega)]

theorem frameLine_kept (s : State) (e : EdgeRec) (sup : Supply) (ps : List (List Nat)) : stitchKept (s.frameLine e sup ps) = stitchKept s := by
  refine stitchKept_of (dove_of ((fr_frameLine (m := 558363) (by decide) (fr_refl s)).same .insp (by decide))) ?_
  unfold State.frameLine
  split
  · rfl
  · dsimp only
    rw [set_ne, Low.at (L := 22529) (low_store (by omega) (low_refl _)) (by omega)]

theorem feedScalers_kept (s : State) (e : EdgeRec) (y : List Nat) (b : Bool) : stitchKept (s.feedScalers e y b) = stitchKept s :=
  stitchKept_of (dove_of ((fr_feedScalers (m := 16386) (by decide) (fr_refl s)).same .insp (by decide))) (Low.at (L := 18560) (low_feedScalers (by omega) (low_refl s)) (by omega))

theorem feedGleaner_kept (s : State) (e : EdgeRec) (y : List Nat) (sup : Supply) : stitchKept (s.feedGleaner e y sup) = stitchKept s := by
  refine stitchKept_of ?_ (Low.at (L := 17536) (low_feedGleaner (by omega) (low_refl s)) (by omega))
  unfold State.feedGleaner State.dove
  dsimp only
  split
  · rw [setReg_insp, setReg_insp]
  · rfl

/-- What a round's start keeps. -/
def roundKept (s : State) : Nat × Bool × Option Nat × Nat := (s.dove.next, s.dove.running, s.dove.lastLine, s.reg 0x4400 0x11)

theorem roundKept_of {s t : State} (h : t.insp = s.insp) (hr : t.reg 0x4400 0x11 = s.reg 0x4400 0x11) : roundKept t = roundKept s := by
  unfold roundKept; rw [dove_of h, hr]

theorem roundStart_kept (s : State) (f l : Nat) : roundKept (s.roundStart f l) = roundKept s := by
  have hst (u : State) (c a : Nat) (b : Bytes) : roundKept (u.store c a b) = roundKept u :=
    roundKept_of ((fr_store (m := 558363) (by decide) (fr_refl u)).same .insp (by decide)) (Low.at (L := 22529) (low_store (by omega) (low_refl u)) (by omega))
  have hln (u : State) (r : Round) (k m : Nat) : roundKept (u.regLine r k m) = roundKept u :=
    roundKept_of ((fr_regLine (m := 558363) (by decide) (fr_refl u)).same .insp (by decide)) (Low.at (L := 22529) (low_regLine (by omega) (low_refl u)) (by omega))
  have hi (u : State) (i a : Nat) (h : a ≠ 0x11) (ha : a < 256) : roundKept (u.inc32 i a 1) = roundKept u :=
    roundKept_of (inc32_insp _ _ _ _) (inc32_reg_key _ _ (by simp only [key]; omega))
  unfold State.roundStart
  dsimp only
  have hmain (r : Round) (xs : List Nat) (F : Nat → State → State) (hF : ∀ k u, roundKept (F k u) = roundKept u) (ys : List Nat) (G : Nat → State → State) (hG : ∀ k u, roundKept (G k u) = roundKept u) :
      roundKept (State.each (State.each ((s.inc64 0x4400 0x12 1).modDove (fun d => { d with round := some r })) xs F) ys G) = roundKept s := by
    rw [each_same roundKept hG, each_same roundKept hF]
    show roundKept (State.modDove _ _) = _
    exact (show roundKept (State.modDove _ _) = roundKept (s.inc64 0x4400 0x12 1) from rfl).trans (roundKept_of (inc64_insp _ _ _ _) (inc64_reg_key _ _ (by simp only [key]; omega)))
  split
  · rfl
  · split
    all_goals first
      | (split
         · rw [hi _ _ _ (by omega) (by omega)]
           exact each_same roundKept (fun k u => hi u _ _ (by omega) (by omega)) _ _
         · exact hmain _ _ _ (fun p u => hst u _ _ _) _ _ (fun k u => each_same roundKept (fun m u => hln u _ _ _) _ _))
      | (rw [if_neg (by decide)]
         exact hmain _ _ _ (fun p u => hst u _ _ _) _ _ (fun k u => each_same roundKept (fun m u => hln u _ _ _) _ _))

theorem edgeOf_index {s : State} {l : Nat} {e : EdgeRec} (h : s.edgeOf l = some e) : e.index = l := by
  have := List.find?_some h; simpa using this

theorem freeStaged_staged (s : State) (r : StagedRec) : (s.freeStaged r).xarray.staged = s.xarray.staged.filter (fun e => e.slot ≠ r.slot) := rfl

theorem regCopied_copied (s : State) (r : Round) (h : s.dove.round = some r) : ∃ q, s.regCopied.dove.round = some q ∧ q.copied = r.copied + 1 := by
  unfold State.regCopied
  rw [h]
  dsimp only
  generalize hm : s.modDove _ = u
  have hu : ∃ q, u.dove.round = some q ∧ q.copied = r.copied + 1 := by rw [← hm, modDove_dove]; exact ⟨_, rfl, rfl⟩
  clear hm
  split
  · rw [dove_of (s := u.store _ _ _) (fire_insp _ _ _), dove_of (s := u) ((fr_store (m := 558363) (by decide) (fr_refl _)).same .insp (by decide))]
    exact hu
  · exact hu

theorem takeUpdate_regs (s : State) (r : Round) (b : Bytes) : (s.takeUpdate r b).regs = s.regs := by
  unfold State.takeUpdate; refine each_same (fun s : State => s.regs) (fun p s => ?_) _ s; rfl

theorem takeUpdate_dowel (s : State) (r : Round) (b : Bytes) : (s.takeUpdate r b).dowel = s.dowel := by
  unfold State.takeUpdate; refine each_same (fun s : State => s.dowel) (fun p s => ?_) _ s; rfl

/-- What closing blobs keeps of Gleaner. -/
def gleanKept (s : State) : List StitchedLine × Bool × List Blob × Nat := (s.glean.queue, s.glean.fresh, s.glean.blobs, s.reg 0x4480 0x14)

theorem gleanKept_of {s t : State} (h : t.insp = s.insp) (hr : t.reg 0x4480 0x14 = s.reg 0x4480 0x14) : gleanKept t = gleanKept s := by
  unfold gleanKept State.glean; rw [h, hr]

theorem glean_set (s : State) {i a v : Nat} (h : i ≠ 0x4480 ∨ a ≠ 0x14) (ha : a < 256) : gleanKept (s.setReg i a v) = gleanKept s :=
  gleanKept_of (setReg_insp _ _ _ _) (set_ne)

theorem glean_inc32 (s : State) {i a v : Nat} (h : i ≠ 0x4480 ∨ a ≠ 0x14) (ha : a < 256) : gleanKept (s.inc32 i a v) = gleanKept s :=
  gleanKept_of (inc32_insp _ _ _ _) (inc32_reg_key _ _ (by simp only [key]; omega))

theorem glean_inc64 (s : State) {i a v : Nat} (h : i ≠ 0x4480 ∨ a ≠ 0x14) (ha : a < 256) : gleanKept (s.inc64 i a v) = gleanKept s :=
  gleanKept_of (inc64_insp _ _ _ _) (inc64_reg_key _ _ (by simp only [key]; omega))

theorem glean_fire (s : State) (a p : Nat) : gleanKept (s.fire a p) = gleanKept s :=
  gleanKept_of (fire_insp _ _ _) (fire_low _ _ _ (by omega) (by omega) (by omega))

theorem glean_counts (s : State) (f : GleanState → List (Nat × Nat)) : gleanKept (s.modGlean (fun g => { g with counts := f g })) = gleanKept s := rfl

theorem glean_store (s : State) (k a : Nat) (b : Bytes) : gleanKept (s.store k a b) = gleanKept s :=
  gleanKept_of ((fr_store (m := 558363) (by decide) (fr_refl s)).same .insp (by decide)) (Low.at (L := 22529) (low_store (by omega) (low_refl s)) (by omega))

theorem glean_list (s : State) (m : Nat) (f) : gleanKept (s.modList m f) = gleanKept s := rfl

theorem record_kept (c : GleanCfg) (l : Nat) (cut : List Nat) (o : Closing) (b : Blob) : gleanKept (Closing.record c l cut o b).s = gleanKept o.s := by
  unfold Closing.record
  dsimp only
  split
  all_goals
    split
    · show gleanKept (if (_ : Nat) = frameRecordLimit then _ else _) = _
      split
      · exact (glean_fire _ _ _).trans ((glean_counts _ _).trans (glean_inc32 _ (by omega) (by omega)))
      · exact glean_inc32 _ (by omega) (by omega)
    · generalize hu : State.modGlean o.s _ = u
      have hk : gleanKept u = gleanKept o.s := by rw [← hu]; exact glean_counts _ _
      clear hu
      generalize hv : State.inc64 _ 0x4480 0x0F 1 = v
      have hvk : gleanKept v = gleanKept o.s := by
        rw [← hv, glean_inc64 _ (by omega) (by omega), glean_set _ (by omega) (by omega)]
        split
        · exact hk
        · rw [glean_store]; exact hk
      clear hv
      refine Eq.trans ?_ hvk
      refine foldl_same (fun a : State × Nat => gleanKept a.1) (fun a m => ?_) _ _
      dsimp only
      split
      · rw [glean_list, glean_inc32 _ (by omega) (by omega)]
      · rw [glean_inc32 _ (by omega) (by omega), glean_list, glean_inc32 _ (by omega) (by omega)]

theorem streamPut_kept (s : State) (k : Nat) (p : OutPacket) : gleanKept (s.streamPut k p) = gleanKept s := by
  unfold State.streamPut
  split
  · rfl
  · unfold State.setStream; rw [glean_set _ (by omega) (by omega)]; rfl

theorem sendRecords_kept (k : Nat) : ∀ (n : Nat) (rs : List (Blob × List Nat)) (s : State), gleanKept (s.sendRecords k n rs) = gleanKept s
  | 0, _, _ => rfl
  | n + 1, [], _ => rfl
  | n + 1, (b, ws) :: rest, s => by
    rw [State.sendRecords]
    rw [sendRecords_kept k n, streamPut_kept]

theorem closeBlobs_kept (s : State) (c : GleanCfg) (l : Nat) (bs : List Blob) (cut : List Nat) : gleanKept (s.closeBlobs c l bs cut) = gleanKept s := by
  unfold State.closeBlobs
  dsimp only
  generalize hv : State.inc64 _ 0x4480 0x11 _ = v
  have hvk : gleanKept v = gleanKept s := by rw [← hv, glean_inc64 _ (by omega) (by omega), glean_inc64 _ (by omega) (by omega)]
  clear hv
  generalize ho : List.foldl _ _ (List.filter _ _ ++ _) = o
  have hok : gleanKept o.s = gleanKept s := by
    rw [← ho]
    exact (foldl_same (fun o : Closing => gleanKept o.s) (fun o b => record_kept _ _ _ o b) _ _).trans hvk
  clear ho
  have hw (p : Prop) [Decidable p] (k : Nat) : gleanKept (if p then o.s else o.s.sendRecords k o.records.length o.records) = gleanKept s := by
    split
    · exact hok
    · rw [sendRecords_kept]; exact hok
  split
  · exact hw _ _
  · rw [glean_fire]; exact hw _ _

theorem gleanStop_eff (s : State) : s.gleanStop.glean.queue = [] ∧ s.gleanStop.glean.running = false ∧ s.gleanStop.glean.blobs = [] ∧ s.gleanStop.reg 0x4480 0x14 = 0 := by
  unfold State.gleanStop
  refine ⟨?_, ?_, ?_, reg_setReg_same _ _ _ _⟩
  all_goals unfold State.glean; rw [setReg_insp]; rfl

theorem core_mod {s : State} {n : Nat} (f : DspCore → DspCore) (h : n < s.dsp.cores.length) : (s.modCore n f).core n = f (s.core n) := nthD_modNth _ _ _ _ h

theorem core_of {s t : State} (h : t.dsp = s.dsp) (n : Nat) : t.core n = s.core n := by unfold State.core; rw [h]

theorem modCore_len (s : State) (n : Nat) (f : DspCore → DspCore) : (s.modCore n f).dsp.cores.length = s.dsp.cores.length := modNth_length' _ _ _

theorem begin_len (s : State) (n : Nat) : (s.beginBundle n).dsp.cores.length = s.dsp.cores.length := by
  unfold State.beginBundle State.setDspRun
  rw [modCore_len, setReg_dsp, setReg_dsp]

theorem countSat_core {s : State} {n : Nat} (h : n < s.dsp.cores.length) : (s.countSat n).core n = { s.core n with satNow := false } := by
  unfold State.countSat
  split
  · rw [core_mod _ (by rw [inc64_dsp]; exact h), core_of (inc64_dsp _ _ _ _)]
  · rename_i hs
    have : (s.core n).satNow = false := by simpa using hs
    generalize s.core n = c at this
    cases c; cases this; rfl

/-- A slot A operation on the core alone, in a bundle that issues. -/
theorem slotA_run {s : State} {n op w : Nat} {c : DspCore} {f : Nat → DspCore → DspCore} (h : s.atA n op w c) :
    ∃ t, s.slotAOp n op f = .next t ∧ t.core n = { f w c with satNow := false } := by
  obtain ⟨h1, h2, ⟨b, h3, h4, h5⟩, h6⟩ := h
  unfold State.slotAOp State.slotAWith
  rw [inst_ok (decide_eq_true h1), h3]
  dsimp only
  rw [if_neg (by rw [h5]; decide), h4]
  refine ⟨_, rfl, ?_⟩
  rw [countSat_core (by rw [modCore_len, begin_len]; exact h2), core_mod _ (by rw [begin_len]; exact h2), show (s.beginBundle n).core n = c from h6]

/-- A slot A operation that reads the state, in a bundle that issues. -/
theorem slotAWith_run {s : State} {n op w : Nat} {c : DspCore} {f : Nat → State → State} (h : s.atA n op w c)
    (hl : (f w (s.beginBundle n)).dsp.cores.length = (s.beginBundle n).dsp.cores.length) :
    ∃ t, s.slotAWith n op f = .next t ∧ t.core n = { (f w (s.beginBundle n)).core n with satNow := false } := by
  obtain ⟨h1, h2, ⟨b, h3, h4, h5⟩, h6⟩ := h
  unfold State.slotAWith
  rw [inst_ok (decide_eq_true h1), h3]
  dsimp only
  rw [if_neg (by rw [h5]; decide), h4]
  exact ⟨_, rfl, countSat_core (by rw [hl, begin_len]; exact h2)⟩

theorem slotA_done {s : State} {n op w : Nat} {c : DspCore} {f : Nat → DspCore → DspCore} {i : Instr} {P : State → Prop} (h : s.atA n op w c)
    (hi : exec i s = s.slotAOp n op f) (hp : ∀ t : State, t.core n = { f w c with satNow := false } → P t) : Completes i s P := by
  obtain ⟨t, e, ht⟩ := slotA_run (f := f) h
  exact ⟨t, hi.trans e, hp t ht⟩

theorem wrote_refl (c : DspCore) : c.wrote c [] := ⟨(List.append_nil _).symm, rfl, rfl, rfl, rfl, rfl, rfl, rfl⟩

theorem wrote_sat (c : DspCore) : c.wrote { c with satNow := false } [] := ⟨(List.append_nil _).symm, rfl, rfl, rfl, rfl, rfl, rfl, rfl⟩

theorem dResult_of (c : DspCore) (k w : Nat) (v : Word32) (bad : Bool) : c.dResult { c.result k (fD w) v bad with satNow := false } k w v bad false := by
  cases bad <;> exact ⟨⟨rfl, rfl, rfl, rfl, rfl, rfl, rfl, rfl⟩, rfl, rfl⟩

theorem acResult_of (c : DspCore) (i : Nat) (re im : Int) (bad : Bool) : c.acResult { c.putAc i re im bad with satNow := false } i re im bad := by
  unfold DspCore.acResult DspCore.putAc accValue
  cases bad
  · simp only [Bool.false_eq_true, if_false]
    by_cases h : acClamp re = re ∧ acClamp im = im
    · rw [if_pos h, show (decide (acClamp re ≠ re) || decide (acClamp im ≠ im)) = false from by simp [h.1, h.2]]
      exact ⟨⟨rfl, rfl, rfl, rfl, rfl, rfl, rfl, rfl⟩, rfl, rfl⟩
    · rw [if_neg h, show (decide (acClamp re ≠ re) || decide (acClamp im ≠ im)) = true from by
        simp only [Bool.or_eq_true, decide_eq_true_eq]; by_cases a : acClamp re = re
        · exact .inr (fun b => h ⟨a, b⟩)
        · exact .inl a]
      exact ⟨⟨rfl, rfl, rfl, rfl, rfl, rfl, rfl, rfl⟩, rfl, rfl⟩
  · simp only [if_true]
    exact ⟨⟨rfl, rfl, rfl, rfl, rfl, rfl, rfl, rfl⟩, rfl, rfl⟩

theorem mulAcc_of (c : DspCore) (w : Nat) (keep sign : Int) (p : Word32 → Word32 → Int × Int) {re im : Int} {bad : Bool}
    (h1 : keep * (c.acc (w % 2)).re + sign * (p (c.dv (fX w)) (c.dv (fY w))).1 = re) (h2 : keep * (c.acc (w % 2)).im + sign * (p (c.dv (fX w)) (c.dv (fY w))).2 = im)
    (h3 : (c.poisoned (fX w) || c.poisoned (fY w) || (keep ≠ 0 && (c.acc (w % 2)).poison)) = bad) :
    c.acResult { c.mulAcc w keep sign p with satNow := false } (w % 2) re im bad := by
  subst h1 h2 h3
  exact acResult_of _ _ _ _ _

theorem complexSum_of (c : DspCore) (w : Nat) (re im : Int) (bad : Bool) : c.complexSum { c.complexResult w re im bad with satNow := false } w re im bad := by
  unfold DspCore.complexSum DspCore.complexResult DspCore.saturated
  dsimp only
  generalize (decide (clampInt (-32768) 32767 re ≠ re) || decide (clampInt (-32768) 32767 im ≠ im)) = s
  cases bad <;> cases s <;> exact ⟨⟨rfl, rfl, rfl, rfl, rfl, rfl, rfl, rfl⟩, rfl, rfl⟩

theorem bexs_of (c : DspCore) (a b d : Nat) : c.wrote { ((c.queue 1 (.cr 0x0C a)).queue 1 (.cr 0x0D b)).queue 1 (.cr 0x0B d) with satNow := false }
    [⟨c.bundle + 1, false, .cr 0x0C a⟩, ⟨c.bundle + 1, false, .cr 0x0D b⟩, ⟨c.bundle + 1, false, .cr 0x0B d⟩] :=
  ⟨by unfold DspCore.queue; dsimp only; rw [List.append_assoc, List.append_assoc]; rfl, rfl, rfl, rfl, rfl, rfl, rfl, rfl⟩

def divWait (c : DspCore) : Nat := match c.div with | some p => p.due - c.bundle | none => 0

def divEnd (wait : Nat) (c : DspCore) : DspCore := match c.div with
          | some p => { c.apply p.what with div := none, cycl := (c.cycl + wait) % 2 ^ 64 }
          | none => c

def divStart (w : Nat) (c : DspCore) : DspCore :=
  let r := dspDiv (c.dv (fX w)) (c.dv (fY w))
  let bad := c.badXY w
  let c := if bad then c.stick srPsn else if r.2 then c.stick srDz else c
  { c with div := some ⟨c.bundle + 18, false, .d (fD w) (if bad then 0 else r.1) bad⟩ }

theorem divEnd_none {c : DspCore} {k : Nat} (h : c.div = none) : divEnd k c = c := by unfold divEnd; rw [h]

theorem divStart_of {c : DspCore} {w : Nat} (hb : c.badXY w = false) : 
    c.wrote { divStart w c with satNow := false } [] ∧ (divStart w c).div = some ⟨c.bundle + 18, false, .d (fD w) (dspDiv (c.dv (fX w)) (c.dv (fY w))).1 false⟩ ∧
      (divStart w c).sr = if (dspDiv (c.dv (fX w)) (c.dv (fY w))).2 then setBit c.sr srDz else c.sr := by
  unfold divStart
  dsimp only
  rw [hb]
  generalize dspDiv (c.dv (fX w)) (c.dv (fY w)) = r
  obtain ⟨q, z⟩ := r
  cases z <;> exact ⟨⟨(List.append_nil _).symm, rfl, rfl, rfl, rfl, rfl, rfl, rfl⟩, rfl, rfl⟩

theorem raise_of {c : DspCore} (cause code data b : Nat) (h1 : bitAt c.sr srExc = false) (h2 : c.trap = none) :
    c.wrote { c.raise cause code data b with satNow := false } [] ∧ ({ c.raise cause code data b with satNow := false } : DspCore).trap = some ⟨cause, code, b, data, 0⟩ := by
  unfold DspCore.raise
  rw [h1, if_neg (by decide), h2]
  exact ⟨wrote_sat c, rfl⟩

theorem bitAt_setBit_ne (v i j : Nat) (h : i ≠ j) : bitAt (setBit v i) j = bitAt v j := by
  have := Nat.testBit_or v (1 <<< i) j
  rw [Nat.one_shiftLeft, Nat.testBit_two_pow_of_ne h, Bool.or_false] at this
  unfold bitAt setBit
  rw [Nat.one_shiftLeft]
  unfold Nat.testBit at this
  rw [Nat.one_and_eq_mod_two, Nat.one_and_eq_mod_two] at this
  generalize (v ||| 2 ^ i) >>> j = a at *
  generalize v >>> j = b at *
  rcases Nat.mod_two_eq_zero_or_one a with h1 | h1 <;> rcases Nat.mod_two_eq_zero_or_one b with h2 | h2 <;> rw [h1, h2] at this <;> first | (rw [h1, h2]; done) | (simp at this)

theorem fires_of {s t : State} {a b : Nat} (u : State) (h : t.dowel.fired = (u.fire a b).dowel.fired) (h1 : u.dowel.fired = s.dowel.fired) (h2 : u.time = s.time) : s.fires t a b := by
  unfold State.fires
  rw [h, fire_fired, h1, h2]
  rw [show u.sc = s.sc from by unfold State.sc; rw [h2]]

def repdCore (w max_ : Nat) (c : DspCore) : DspCore :=
  let k := (c.dv (fD w)).toNat
  let l := bits w 16 12 + 1
  let c := if c.poisoned (fD w) then c.stick srPsn else c
  let ovr := { c with skip := some (c.pc + 1 + l) }
  if k = 0 then ovr else if 4096 < k || max_ < k * l then ovr.raise cRepMax 0 0 c.pc else c.startRep l k

theorem slotAOp_like {s : State} {n op w : Nat} {c : DspCore} {g : State → Nat → DspCore → DspCore} {i : Instr} {P : State → Prop} (h : s.atA n op w c)
    (hi : exec i s = s.slotAWith n op (fun w s => s.modCore n (g s w))) (hp : ∀ t : State, t.core n = { g (s.beginBundle n) w c with satNow := false } → P t) : Completes i s P := by
  obtain ⟨t, e, ht⟩ := slotAWith_run (f := fun w s => s.modCore n (g s w)) h (by rw [modCore_len])
  refine ⟨t, hi.trans e, hp t ?_⟩
  rw [ht, core_mod _ (by rw [begin_len]; exact h.2.1), show (s.beginBundle n).core n = c from h.2.2.2]

theorem poisoned_zero {c : DspCore} {i : Nat} (h : (c.dv i).toNat ≠ 0) : c.poisoned i = false := by
  by_contra h'
  refine h ?_
  unfold DspCore.dv
  rw [if_pos (by simpa [DspCore.poisoned] using h')]
  rfl

theorem setDspRun_core (s : State) (n v k : Nat) : (s.setDspRun n v).core k = s.core k := core_of (setReg_dsp _ _ _ _) _

theorem begin_reg (s : State) (n : Nat) {j b : Nat} (hb : b < 256) (h : b ≠ 7) (h3 : b ≠ 3) : (s.beginBundle n).reg j b = s.reg j b := by
  show ((s.setReg (0x5000 + n) 7 (s.core n).pc).setDspRun n dsRunning).reg j b = _
  unfold State.setDspRun
  rw [set_ne hb (by omega) (.inr h3), set_ne hb (by omega) (.inr h)]

theorem setDspRun_run {s : State} {n : Nat} (v : Nat) (h : s.reg (0x5000 + n) 2 = stOn) : (s.setDspRun n v).dspRun n = v := by
  unfold State.setDspRun State.dspRun; rw [reg_setReg_same, if_pos h]

theorem modCore_modCore (s : State) (n : Nat) (f g : DspCore → DspCore) : (s.modCore n f).modCore n g = s.modCore n (fun c => g (f c)) := by
  unfold State.modCore
  dsimp only
  have : ∀ xs : List DspCore, ∀ k, modNth g (modNth f xs k) k = modNth (fun c => g (f c)) xs k := by
    intro xs
    induction xs with
    | nil => intro k; rfl
    | cons x xs ih =>
      intro k
      cases k with
      | zero => rfl
      | succ k => show x :: modNth g (modNth f xs k) k = _; rw [ih]; rfl
  rw [this]

theorem settled {s : State} {n : Nat} (h : (s.core n).double = none) : s.settleDouble n = s := by
  unfold State.settleDouble State.dspDouble
  rw [h]
  exact ite_self _

theorem farEnds_run {s : State} {n : Nat} {i : Instr} {g : DspCore → DspCore} (hl : n < s.dsp.cores.length)
    (hi : exec i s = .next (((s.modCore n g).showFar n).settleDouble n)) (hd : (g (s.core n)).double = none) :
    ∃ t, exec i s = .next t ∧ t.core n = g (s.core n) ∧ t.reg (0x5000 + n) 0x12 = (g (s.core n)).far.length := by
  have h1 : ((s.modCore n g).showFar n).core n = g (s.core n) := by
    unfold State.showFar
    rw [core_of (setReg_dsp _ _ _ _), core_mod _ hl]
  rw [settled (by rw [h1]; exact hd)] at hi
  refine ⟨_, hi, h1, ?_⟩
  unfold State.showFar
  rw [reg_setReg_same, core_mod _ hl]

theorem farResponse_eq {s : State} {n : Nat} {r : FarResp} {f : FarOp} (hn : n < 16) (hl : n < s.dsp.cores.length) (hr : (s.core n).responses = [r]) (hf : (s.core n).far = [f])
    (hi : f.id = r.id) (tr : Option Nat) (ht : (match r.cause with | 0 => none | 5 => some cSecure | _ => some cFarFault) = tr) :
    exec (.farResponse n) s = .next (((s.modCore n (fun c => ({ c with responses := [] } : DspCore).farEnds f tr r.data)).showFar n).settleDouble n) := by
  subst ht
  show execFarResponse n s = _
  unfold execFarResponse
  rw [inst_ok (decide_eq_true hn), hr]
  dsimp only
  rw [core_mod _ hl]
  dsimp only
  rw [hf]
  have : [f].find? (fun f => decide (f.id = r.id)) = some f := by simp [hi]
  rw [this]
  dsimp only
  rw [modCore_modCore]
  all_goals rfl

theorem begin_dowel (s : State) (n : Nat) : (s.beginBundle n).dowel = s.dowel := rfl

theorem begin_time (s : State) (n : Nat) : (s.beginBundle n).time = s.time := rfl

theorem countSat_dowel (s : State) (n : Nat) : (s.countSat n).dowel = s.dowel := by
  unfold State.countSat; split
  · exact inc64_dowel s (0x5000 + n) 0x11 1
  · rfl

theorem slotAWith_fired {s : State} {n op w : Nat} {c : DspCore} {f : Nat → State → State} (h : s.atA n op w c)
    (hl : (f w (s.beginBundle n)).dsp.cores.length = (s.beginBundle n).dsp.cores.length) :
    ∃ t, s.slotAWith n op f = .next t ∧ t.core n = { (f w (s.beginBundle n)).core n with satNow := false } ∧ t.dowel.fired = (f w (s.beginBundle n)).dowel.fired := by
  obtain ⟨h1, h2, ⟨b, h3, h4, h5⟩, h6⟩ := h
  unfold State.slotAWith
  rw [inst_ok (decide_eq_true h1), h3]
  dsimp only
  rw [if_neg (by rw [h5]; decide), h4]
  exact ⟨_, rfl, countSat_core (by rw [hl, begin_len]; exact h2), by rw [countSat_dowel]⟩

theorem apply_same {α : Type} (P : DspCore → α) (h1 : ∀ c d p, P { c with d := d, dPoison := p } = P c) (h2 : ∀ c a, P { c with a := a } = P c) (h3 : ∀ c m, P { c with m := m } = P c)
    (h4 : ∀ c v, P { c with acOut := v } = P c) (h5 : ∀ c v, P { c with sr := v } = P c) (h6 : ∀ c v, P { c with lr := v } = P c)
    (h7 : ∀ c a b d e f g h i j k l, P { c with imr := a, vbr := b, epc := d, esr := e, ecause := f, eaddr := g, edata := h, bxm := i, bsh := j, bexp := k, am := l } = P c)
    (h8 : ∀ c v, P { c with ab := v } = P c) (c : DspCore) (w : RegWrite) : P (c.apply w) = P c := by
  unfold DspCore.apply
  split
  · exact h1 _ _ _
  · exact h2 _ _
  · exact h3 _ _
  · exact h4 _ _
  · exact h5 _ _
  · exact h5 _ _
  · exact h6 _ _
  · split
    · exact h5 _ _
    · exact h7 c _ _ _ _ _ _ _ _ _ _ _
    · exact h7 c _ _ _ _ _ _ _ _ _ _ _
    · exact h7 c _ _ _ _ _ _ _ _ _ _ _
    · exact h7 c _ _ _ _ _ _ _ _ _ _ _
    · exact h7 c _ _ _ _ _ _ _ _ _ _ _
    · exact h7 c _ _ _ _ _ _ _ _ _ _ _
    · exact h7 c _ _ _ _ _ _ _ _ _ _ _
    · exact h6 _ _
    · exact h7 c _ _ _ _ _ _ _ _ _ _ _
    · exact h7 c _ _ _ _ _ _ _ _ _ _ _
    · exact h7 c _ _ _ _ _ _ _ _ _ _ _
    · split
      · exact h7 c _ _ _ _ _ _ _ _ _ _ _
      · split
        · exact h8 _ _
        · rfl

theorem applyAll_same {α : Type} (P : DspCore → α) (h : ∀ c w, P (c.apply w) = P c) (c : DspCore) (ws : List PendWrite) : P (c.applyAll ws) = P c := by
  unfold DspCore.applyAll
  exact foldl_same P (fun c t => foldl_same P (fun c (w : PendWrite) => h c w.what) _ c) _ c

/-- A bundle's end up to the moves of the PC. -/
def DspCore.settle (c : DspCore) : DspCore :=
  let c := { c with bundle := c.bundle + 1, cycl := (c.cycl + 1) % 2 ^ 64, issued := false }
  let c := c.applyAll ((c.writes ++ c.div.toList).filter (fun w => decide (w.due ≤ c.bundle)))
  { c with writes := c.writes.filter (fun w => decide (c.bundle < w.due)), div := c.div.filter (fun w => decide (c.bundle < w.due)) }

theorem endBundle_settle (c : DspCore) : c.endBundle = c.settle.advance := rfl

/-- Fields that no write changes. -/
def DspCore.kept (c : DspCore) : (Nat × Nat × Bool × Nat × List Host.Cell) × (Option (Nat × Nat) × Option Nat × Option Repeat × Nat) × (Option Nat × Bool × Bool × Bool) :=
  ((c.pc, c.bundle, c.issued, c.cycl, c.dmem), (c.branch, c.skip, c.rep, c.lc), (c.double, c.halting, c.haltReq, c.stepping))

theorem apply_kept (c : DspCore) (w : RegWrite) : (c.apply w).kept = c.kept :=
  apply_same DspCore.kept (fun _ _ _ => rfl) (fun _ _ => rfl) (fun _ _ => rfl) (fun _ _ => rfl) (fun _ _ => rfl) (fun _ _ => rfl) (fun _ _ _ _ _ _ _ _ _ _ _ _ => rfl) (fun _ _ => rfl) c w

theorem settle_kept (c : DspCore) : c.settle.kept = ((c.pc, c.bundle + 1, false, (c.cycl + 1) % 2 ^ 64, c.dmem), (c.branch, c.skip, c.rep, c.lc), (c.double, c.halting, c.haltReq, c.stepping)) := by
  have := applyAll_same DspCore.kept apply_kept { c with bundle := c.bundle + 1, cycl := (c.cycl + 1) % 2 ^ 64, issued := false }
    ((c.writes ++ c.div.toList).filter (fun w => decide (w.due ≤ c.bundle + 1)))
  exact this

theorem advance_kept (c : DspCore) : (c.advance).bundle = c.bundle ∧ c.advance.issued = c.issued ∧ c.advance.cycl = c.cycl ∧ c.advance.dmem = c.dmem ∧
    c.advance.double = c.double ∧ c.advance.halting = c.halting ∧ c.advance.haltReq = c.haltReq ∧ c.advance.stepping = c.stepping := by
  unfold DspCore.advance
  dsimp only
  repeat' split
  all_goals exact ⟨rfl, rfl, rfl, rfl, rfl, rfl, rfl, rfl⟩

theorem end_kept (c : DspCore) : c.endBundle.bundle = c.bundle + 1 ∧ c.endBundle.issued = false ∧ c.endBundle.cycl = (c.cycl + 1) % 2 ^ 64 ∧ c.endBundle.dmem = c.dmem ∧
    c.endBundle.double = c.double ∧ c.endBundle.halting = c.halting ∧ c.endBundle.haltReq = c.haltReq ∧ c.endBundle.stepping = c.stepping := by
  have h := settle_kept c
  rw [endBundle_settle]
  have h2 := advance_kept c.settle
  generalize c.settle = u at *
  unfold DspCore.kept at h
  simp only [Prod.mk.injEq] at h
  obtain ⟨⟨a1, a2, a3, a4, a5⟩, ⟨b1, b2, b3, b4⟩, c1, c2, c3, c4⟩ := h
  obtain ⟨d1, d2, d3, d4, d5, d6, d7, d8⟩ := h2
  exact ⟨d1.trans a2, d2.trans a3, d3.trans a4, d4.trans a5, d5.trans c1, d6.trans c2, d7.trans c3, d8.trans c4⟩

/-- A slot B operation ends its bundle, and the next one follows. -/
theorem slotB_run {s : State} {n op w : Nat} {c c' : DspCore} {f : Nat → State → State} (h : s.atB n op w c) (hg : s.goesOn n c)
    (hl : (f w s).dsp.cores.length = s.dsp.cores.length) (hr : (f w s).reg (0x5000 + n) 2 = s.reg (0x5000 + n) 2) (hc : (f w s).core n = c')
    (hd : c'.double = c.double ∧ c'.halting = c.halting ∧ c'.haltReq = c.haltReq ∧ c'.stepping = c.stepping) :
    ∃ t, s.slotBWith n op f = .next t ∧ t.core n = c'.endBundle ∧ t = ((f w s).modCore n DspCore.endBundle).inc64 (0x5000 + n) 8 1 := by
  obtain ⟨h1, h2, ⟨b, h3, h4, h5⟩, h6, h7⟩ := h
  obtain ⟨g1, g2, g3, g4, g5⟩ := hg
  subst hc
  have hc2 : (((f w s).modCore n DspCore.endBundle).inc64 (0x5000 + n) 8 1).core n = ((f w s).core n).endBundle := by
    rw [core_of (inc64_dsp _ _ _ _), core_mod _ (by rw [hl]; exact h2)]
  obtain ⟨k1, k2, k3, k4, k5, k6, k7, k8⟩ := end_kept ((f w s).core n)
  refine ⟨_, ?_, hc2, rfl⟩
  unfold State.slotBWith
  rw [h7] at h3
  rw [inst_ok (decide_eq_true h1), h7, h6, h3]
  dsimp only
  rw [h4, if_pos h5]
  congr 1
  unfold State.afterBundle
  dsimp only
  rw [hc2, k5, hd.1, g2, k6, hd.2.1, g3, k7, hd.2.2.1, g4, k8, hd.2.2.2, g5]
  have hr2 : (((f w s).modCore n DspCore.endBundle).inc64 (0x5000 + n) 8 1).reg (0x5000 + n) 2 = stOn := by
    rw [inc64_reg_key _ _ (by simp [key])]
    exact hr.trans g1
  rw [hr2]
  simp

theorem slotB_done {s : State} {n op w : Nat} {c c' : DspCore} {f : Nat → DspCore → DspCore} {i : Instr} {P : State → Prop} (h : s.atB n op w c) (hg : s.goesOn n c)
    (hi : exec i s = s.slotBWith n op (fun w s => s.modCore n (f w))) (hf : f w c = c')
    (hd : c'.double = c.double ∧ c'.halting = c.halting ∧ c'.haltReq = c.haltReq ∧ c'.stepping = c.stepping)
    (hp : ∀ t : State, t.core n = c'.endBundle → t.reg (0x5000 + n) 8 = wrapAdd64 (s.reg (0x5000 + n) 8) 1 → P t) : Completes i s P := by
  obtain ⟨t, e, ht, hu⟩ := slotB_run (f := fun w s => s.modCore n (f w)) h hg (modCore_len _ _ _) rfl (c' := c') (by rw [core_mod _ h.2.1, h.2.2.2.2, hf]) hd
  refine ⟨t, hi.trans e, hp t ht ?_⟩
  rw [hu, inc64_reg_same]
  rfl

theorem slotBE_done {s : State} {n op w k : Nat} {ecc : List Nat} {c c' : DspCore} {f : Nat → DspCore → DspCore} {i : Instr} {P : State → Prop} (h : s.atB n op w c) (hg : s.goesOn n c)
    (hi : exec i s = s.slotBWith n op (fun w s => (s.countEcc n (ecc.take k)).modCore n (f w))) (hf : f w c = c')
    (hd : c'.double = c.double ∧ c'.halting = c.halting ∧ c'.haltReq = c.haltReq ∧ c'.stepping = c.stepping)
    (hp : ∀ t : State, t.core n = c'.endBundle → t.reg (0x5000 + n) 0x10 = satAdd32 (s.reg (0x5000 + n) 0x10) ((ecc.take k).filter (fun e => e = 1)).length → P t) : Completes i s P := by
  obtain ⟨t, e, ht, hu⟩ := slotB_run (f := fun w s => (s.countEcc n (ecc.take k)).modCore n (f w)) h hg (by rw [modCore_len]; unfold State.countEcc; rw [inc32_dsp])
    (inc32_reg_key _ _ (by simp [key])) (c' := c') (by rw [core_mod _ (by unfold State.countEcc; rw [inc32_dsp]; exact h.2.1)]; unfold State.countEcc; rw [core_of (inc32_dsp _ _ _ _), h.2.2.2.2, hf]) hd
  refine ⟨t, hi.trans e, hp t ht ?_⟩
  rw [hu, inc64_reg_key _ _ (by simp [key])]
  show (s.countEcc n (ecc.take k)).reg _ _ = _
  unfold State.countEcc
  rw [inc32_reg_same]

theorem faultRecord_at (s : State) (c a i u r d : Nat) {j b : Nat} (h1 : j < 27200 := by omega) (hb : b < 256 := by omega) (he : j < 0x1100 ∨ 0x1110 < j := by omega) :
    (s.faultRecord c a i u r d).reg j b = s.reg j b := Low.at (L := 27200) (low_faultRecord (by omega) (low_refl s)) h1 hb he

theorem post_queued (c : DspCore) (ws : List PendWrite) (i j : Nat) : (c.queued ws).post i j = c.queued (ws ++ [c.postWrite i j]) := by
  unfold DspCore.post DspCore.queue DspCore.queued
  dsimp only
  rw [List.append_assoc]
  rfl

theorem showFar_core (s : State) (n k : Nat) : (s.showFar n).core k = s.core k := core_of (setReg_dsp _ _ _ _) _

/-- A far access of slot B. -/
theorem farB_done {s : State} {n op w : Nat} {ws : List PendWrite} {c c' : DspCore} {f : Nat → DspCore → DspCore} {i : Instr} {P : State → Prop} (h : s.atB n op w c) (hg : s.goesOn n c)
    (hi : exec i s = s.slotBWith n op (fun w s => (s.modCore n (fun c => (f w c).post (fA w) (fM w))).showFar n)) (hf : f w c = c'.queued ws)
    (hd : c'.double = c.double ∧ c'.halting = c.halting ∧ c'.haltReq = c.haltReq ∧ c'.stepping = c.stepping)
    (hm : c'.a = c.a ∧ c'.m = c.m ∧ c'.am = c.am ∧ c'.ab = c.ab ∧ c'.bundle = c.bundle)
    (hp : ∀ t : State, t.core n = (c'.queued (ws ++ [c.postWrite (fA w) (fM w)])).endBundle → t.reg (0x5000 + n) 0x12 = c'.far.length → P t) : Completes i s P := by
  have hpw : c'.postWrite (fA w) (fM w) = c.postWrite (fA w) (fM w) := by
    unfold DspCore.postWrite DspCore.areg
    rw [hm.1, hm.2.1, hm.2.2.1, hm.2.2.2.1, hm.2.2.2.2]
  obtain ⟨t, e, ht, hu⟩ := slotB_run (f := fun w s => (s.modCore n (fun c => (f w c).post (fA w) (fM w))).showFar n) h hg
    (by show (State.setReg _ _ _ _).dsp.cores.length = _; rw [setReg_dsp, modCore_len]) (by unfold State.showFar; rw [set_ne]; rfl)
    (c' := c'.queued (ws ++ [c.postWrite (fA w) (fM w)])) (by rw [showFar_core, core_mod _ h.2.1, h.2.2.2.2, hf, post_queued, hpw]) hd
  refine ⟨t, hi.trans e, hp t ht ?_⟩
  rw [hu, inc64_reg_key _ _ (by simp [key])]
  show (State.showFar _ n).reg _ _ = _
  unfold State.showFar
  rw [reg_setReg_same, core_mod _ h.2.1, h.2.2.2.2, hf, post_queued]
  rfl

theorem nop_eq {s : State} {n w : Nat} {c : DspCore} (h : s.atB n 0x00 w c) :
    ∃ t, exec (.slotBNop n) s = .next t ∧ t = ((s.modCore n DspCore.endBundle).inc64 (0x5000 + n) 8 1).afterBundle n := by
  obtain ⟨h1, h2, ⟨b, h3, h4, h5⟩, h6, h7⟩ := h
  refine ⟨_, ?_, rfl⟩
  show execSlotBNop n s = _
  unfold execSlotBNop State.slotBOp State.slotBWith
  rw [h7] at h3
  rw [inst_ok (decide_eq_true h1), h7, h6, h3]
  dsimp only
  rw [h4, if_pos h5, modCore_modCore]

theorem localFault_ok {a : Word32} (h : localOk a) : localFault a.toNat = none := by
  unfold localFault; rw [if_neg (by simp [h.1]), if_neg (by have := h.2; omega)]

theorem load_ok {c : DspCore} {dst : Nat} {a : Word32} {e : Nat} (h : localOk a) (he : e ≠ 2) : c.loadTo dst a e = c.queued [c.loadWrite dst (c.word a.toNat) false] := by
  unfold DspCore.loadTo
  dsimp only
  rw [localFault_ok h]
  dsimp only
  rw [if_neg he]
  rfl

theorem load_bad {c : DspCore} {dst : Nat} {a : Word32} {e cause : Nat} (h1 : bitAt c.sr srExc = false) (h2 : c.trap = none)
    (h : localFault a.toNat = some cause ∨ (localOk a ∧ e = 2 ∧ cause = cLoadEcc)) :
    c.loadTo dst a e = ({ c with sr := setBit c.sr srPsn, trap := some ⟨cause, 0, c.pc, a.toNat, 0⟩ } : DspCore).queued [c.loadWrite dst 0 true] := by
  have hr : (((c.queueLoad 3 (.d dst 0 true)).stick srPsn).raise cause 0 a.toNat c.pc) =
      ({ c with sr := setBit c.sr srPsn, trap := some ⟨cause, 0, c.pc, a.toNat, 0⟩ } : DspCore).queued [c.loadWrite dst 0 true] := by
    unfold DspCore.raise
    rw [if_neg (by show ¬ bitAt (setBit c.sr srPsn) srExc = true; rw [bitAt_setBit_ne _ _ _ (by decide), h1]; decide)]
    show (match c.trap with | none => _ | some _ => _ : DspCore) = _
    rw [h2]
    rfl
  unfold DspCore.loadTo
  dsimp only
  rcases h with h | ⟨h, he, hc⟩
  · rw [h]; exact hr
  · rw [localFault_ok h]; dsimp only; rw [if_pos he, ← hc]; exact hr

theorem store_ok {c : DspCore} {x : Nat} {a : Word32} (h : localOk a) : c.storeFrom x a = { c with dmem := dramWrite c.dmem a.toNat (beBytes 4 (c.dv x).toNat) } := by
  unfold DspCore.storeFrom
  rw [localFault_ok h]
  rfl

theorem store_bad {c : DspCore} {x : Nat} {a : Word32} {cause : Nat} (h1 : bitAt c.sr srExc = false) (h2 : c.trap = none) (h : localFault a.toNat = some cause) :
    c.storeFrom x a = { c with trap := some ⟨cause, 0, c.pc, a.toNat, 0⟩ } := by
  unfold DspCore.storeFrom
  rw [h]
  dsimp only
  unfold DspCore.raise
  rw [h1, if_neg (by decide), h2]

end Sys2Proof.Machine
end

