-- ==== Sys2Proof/Laws/PerInstr.lean ====
section
/-! SUPPORT. The family `Wf`: a well-formed command names only instances, and holds only field values, below the bound the manual gives (log 3). -/

set_option Elab.async false

namespace Sys2Proof.Laws.Wf

/-- Each operand of a command that the manual bounds above, with its bound. -/
def ranges (i : Instr) : List (Nat × Nat) :=
  match i with
  | .dictWrite _ _ _ _ => []
  | .commit _ sc => [(sc, 2 ^ 64)]
  | .discard _ => []
  | .disarm _ => []
  | .epochBoundary => []
  | .enableWrite _ _ => []
  | .disableWrite _ _ => []
  | .enablingComplete _ => []
  | .disablingComplete _ => []
  | .laneLock lane => [(lane, 128)]
  | .laneLockTimeout lane => [(lane, 128)]
  | .clockRecoveryLoss lane => [(lane, 128)]
  | .sheafFrameRx lane line _ _ => [(lane, 128), (line, 2 ^ 8192)]
  | .itemRx lane _ => [(lane, 128)]
  | .qlRx lane level => [(lane, 128), (level, 16)]
  | .creditRx lane stream _ => [(lane, 128), (stream, 4096)]
  | .laneMapRx lane _ _ => [(lane, 128)]
  | .laneAckRx lane _ _ => [(lane, 128)]
  | .groupOn _ => []
  | .rxLaneFail lane => [(lane, 128)]
  | .laneMapRetry g => [(g, 32)]
  | .txLaneFail lane => [(lane, 64)]
  | .itemTx lane => [(lane, 64)]
  | .qlSend => []
  | .prbsInject _ => []
  | .sheafCounterClear _ => []
  | .samplePacketRx => []
  | .slabSeal => []
  | .windowStart bay => [(bay, 4)]
  | .loftStepFill bay => [(bay, 4)]
  | .cribFreeze profile => [(profile, 8)]
  | .fireTrigger _ => []
  | .pinsTakeEffect silo => [(silo, 64)]
  | .siloRelease _ silo => [(silo, 64)]
  | .siloReleaseComplete silo => [(silo, 64)]
  | .readoutStart _ => []
  | .readoutPacket => []
  | .readoutAbort _ => []
  | .corr4 bay => [(bay, 4)]
  | .corr8 bay => [(bay, 4)]
  | .beam4 bay => [(bay, 4)]
  | .beam8 bay => [(bay, 4)]
  | .xreg bay => [(bay, 4)]
  | .zero bay => [(bay, 4)]
  | .dump bay => [(bay, 4)]
  | .cutFence bay => [(bay, 4)]
  | .fencePass bay => [(bay, 4)]
  | .cutEnd bay => [(bay, 4)]
  | .cutWaitStep bay => [(bay, 4)]
  | .cutJump bay => [(bay, 4)]
  | .cutIfStep bay => [(bay, 4)]
  | .cutLoop bay => [(bay, 4)]
  | .cutEndloop bay => [(bay, 4)]
  | .cutWaitEvt bay => [(bay, 4)]
  | .cutEvent bay => [(bay, 4)]
  | .jigRestart _ bay => [(bay, 4)]
  | .workOrderStart tile _ => [(tile, 272)]
  | .classUYield tile => [(tile, 272)]
  | .passOverflow tile => [(tile, 272)]
  | .passComplete tile => [(tile, 272)]
  | .foldComplete tile _ => [(tile, 272)]
  | .spillComplete tile _ => [(tile, 272)]
  | .workOrderComplete bay => [(bay, 4)]
  | .dumpRecordStaged _ => []
  | .recordFragmentsSend stream => [(stream, 256)]
  | .residueMismatch tile => [(tile, 272)]
  | .tileFail tile _ => [(tile, 272)]
  | .reseatComplete bay => [(bay, 4)]
  | .retest _ tile => [(tile, 272)]
  | .retestComplete tile _ => [(tile, 272)]
  | .weightLoad lam => [(lam, 256)]
  | .formatRecord stream => [(stream, 256)]
  | .winnowService => []
  | .winnowOutput => []
  | .scalerGroupSend scaler => [(scaler, 8)]
  | .lineClockEdge => []
  | .pixelPacketRx => []
  | .stageBLine camera => [(camera, 16)]
  | .statsRecordFormed camera => [(camera, 16)]
  | .frameSlotFilled => []
  | .frameHold _ _ => []
  | .frameSlotRelease _ slot => [(slot, 64)]
  | .stitchedLine => []
  | .regReady => []
  | .regRecordTake => []
  | .doveShift => []
  | .clearCorr _ k => [(k, 16)]
  | .gleanerLine => []
  | .slotANop core => [(core, 16)]
  | .cmul core => [(core, 16)]
  | .cmulj core => [(core, 16)]
  | .cmac core => [(core, 16)]
  | .cmacj core => [(core, 16)]
  | .cmsu core => [(core, 16)]
  | .cmag core => [(core, 16)]
  | .cbfly core => [(core, 16)]
  | .aclr core => [(core, 16)]
  | .mva core => [(core, 16)]
  | .mva2 core => [(core, 16)]
  | .cadd core => [(core, 16)]
  | .csub core => [(core, 16)]
  | .cconj core => [(core, 16)]
  | .bexd core => [(core, 16)]
  | .bexs core => [(core, 16)]
  | .addD core => [(core, 16)]
  | .subD core => [(core, 16)]
  | .andD core => [(core, 16)]
  | .orD core => [(core, 16)]
  | .xorD core => [(core, 16)]
  | .shl core => [(core, 16)]
  | .asr core => [(core, 16)]
  | .lsr core => [(core, 16)]
  | .addi core => [(core, 16)]
  | .movi core => [(core, 16)]
  | .movhi core => [(core, 16)]
  | .cmpD core => [(core, 16)]
  | .mulD core => [(core, 16)]
  | .divD core => [(core, 16)]
  | .movc core => [(core, 16)]
  | .movcw core => [(core, 16)]
  | .movar core => [(core, 16)]
  | .movra core => [(core, 16)]
  | .br core => [(core, 16)]
  | .call core => [(core, 16)]
  | .ret core => [(core, 16)]
  | .rti core => [(core, 16)]
  | .rep core => [(core, 16)]
  | .repd core => [(core, 16)]
  | .eidi core => [(core, 16)]
  | .waite core => [(core, 16)]
  | .sige core => [(core, 16)]
  | .trapD core => [(core, 16)]
  | .haltD core => [(core, 16)]
  | .slotBNop core => [(core, 16)]
  | .ld core _ => [(core, 16)]
  | .ldo core _ => [(core, 16)]
  | .st core => [(core, 16)]
  | .sto core => [(core, 16)]
  | .ld2 core _ => [(core, 16)]
  | .st2 core => [(core, 16)]
  | .ldst core _ => [(core, 16)]
  | .fld core => [(core, 16)]
  | .fst core => [(core, 16)]
  | .amod core => [(core, 16)]
  | .ldai core => [(core, 16)]
  | .farResponse core => [(core, 16)]
  | .farTimeout core => [(core, 16)]
  | .trapEntry core _ _ => [(core, 16)]
  | .interruptEntry core _ => [(core, 16)]
  | .imageApply core => [(core, 16)]
  | .imageLoadComplete core => [(core, 16)]
  | .debugHaltCmd _ core => [(core, 16)]
  | .debugResume _ core => [(core, 16)]
  | .debugStep _ core => [(core, 16)]
  | .breakpointHit core => [(core, 16)]
  | .parityEngineWrite _ _ => []
  | .assemblyClose _ => []
  | .dramRead _ cls err => [(cls, 4), (err, 3)]
  | .scrubRead ch err => [(ch, 24), (err, 3)]
  | .refreshDue ch rank _ => [(ch, 24), (rank, 2)]
  | .mr4Read ch _ _ => [(ch, 24)]
  | .channelLost ch _ => [(ch, 24)]
  | .declareLost _ ch => [(ch, 24)]
  | .rebuild _ ch => [(ch, 24)]
  | .rebuildComplete ch => [(ch, 24)]
  | .applyDelays _ ch => [(ch, 24)]
  | .recalibrate _ ch => [(ch, 24)]
  | .recalWindow ch _ _ _ => [(ch, 24)]
  | .freqChange _ => []
  | .channelFreqSwitch => []
  | .storeDelays _ => []
  | .fabricRequest _ _ => []
  | .pageWalkComplete walk => [(walk, 16)]
  | .lockBroken _ => []
  | .invWindow _ window => [(window, 256)]
  | .invAll _ => []
  | .pageInvWindow _ _ => []
  | .pageInvAll _ => []
  | .dmaStart _ _ => []
  | .descriptorFetch c => [(c, 64)]
  | .descriptorComplete c => [(c, 64)]
  | .dmaBeatFault c => [(c, 64)]
  | .dmaAbort _ _ => []
  | .abortComplete c => [(c, 64)]
  | .dmaResume _ _ => []
  | .dmaResumeNext _ _ => []
  | .moverAssign => []
  | .qlFrameRx cand _ _ => [(cand, 2)]
  | .qlTimeout cand => [(cand, 4)]
  | .signalLoss cand => [(cand, 5)]
  | .monitorWindowEnd _ _ => []
  | .wtrExpiry cand => [(cand, 5)]
  | .switchComplete => []
  | .refAcquireTimeout => []
  | .pps => []
  | .scLoad _ => []
  | .scLoadApply => []
  | .adjust _ t _ => [(t, 8)]
  | .tbStep _ t => [(t, 8)]
  | .tbSet _ _ t => [(t, 8)]
  | .toutTimeReached k => [(k, 8)]
  | .toutEvent k => [(k, 8)]
  | .toutPulseEnd k => [(k, 8)]
  | .tinCapture k _ _ => [(k, 8)]
  | .ptpEventRx port m => [(port, 2), (m.kind, 16), (m.gmClass, 256), (m.gmIdentity, 2 ^ 64)]
  | .ptpMessageTx port kind => [(port, 2), (kind, 16)]
  | .encoderEdge axis _ _ _ => [(axis, 4)]
  | .hallState axis uvw _ => [(axis, 4), (uvw, 8)]
  | .ssiFrame axis _ _ => [(axis, 4)]
  | .indexEdge axis _ => [(axis, 4)]
  | .axisPreset _ axis => [(axis, 4)]
  | .observerUpdate axis => [(axis, 4)]
  | .standstill axis => [(axis, 4)]
  | .comparePlace _ m => [(m, 4)]
  | .markerEntryArrive m => [(m, 4)]
  | .compareClear _ m => [(m, 4)]
  | .cmpoutPulseEnd m => [(m, 4)]
  | .lineEdgeEmit => []
  | .timerLineEdge => []
  | .ltrigPulse j => [(j, 16)]
  | .fdpFrameRx _ _ => []
  | .fdpOpen _ _ => []
  | .keyInit _ _ => []
  | .fdpRequest _ _ => []
  | .notifyAck _ _ => []
  | .closeFrame _ _ => []
  | .fdpRead _ _ _ => []
  | .fdpWrite _ _ _ _ => []
  | .fdpDescribe _ _ _ => []
  | .domBegin _ _ _ total => [(total, 2 ^ 32)]
  | .domSeg _ _ _ off _ => [(off, 2 ^ 32)]
  | .domEnd _ _ _ crc => [(crc, 2 ^ 32)]
  | .domRead _ _ _ off len => [(off, 2 ^ 32), (len, 2 ^ 16)]
  | .domCancel _ _ _ => []
  | .transferAbandoned _ => []
  | .sessionIdleTimeout _ => []
  | .sessionClose _ _ => []
  | .notifySend _ => []
  | .notifyResend _ _ => []
  | .keySet _ role _ => [(role, 4)]
  | .debugEnter _ => []
  | .debugLeave _ => []
  | .arpRequest port _ _ => [(port, 2)]
  | .icmpEcho port _ _ _ => [(port, 2)]
  | .portLinkChange port _ => [(port, 2)]
  | .eventTake => []
  | .consumerTake input => [(input, 0x428)]
  | .relayEmit r => [(r, 32)]
  | .softEvent _ _ => []
  | .channelAttr _ _ c _ => [(c, 256)]
  | .alertDelivery k => [(k, 4)]
  | .alertPulseEnd k => [(k, 4)]
  | .alertRelease _ k => [(k, 4)]
  | .snapshotTime g => [(g, 8)]
  | .snapshotEvent g => [(g, 8)]
  | .snapNow _ g => [(g, 8)]
  | .counterClear _ _ => []
  | .ovfClear _ n => [(n, 64)]
  | .counterWrap n => [(n, 64)]
  | .lockstepMismatch => []
  | .watchdogExpiry => []
  | .failover _ => []
  | .pairSelftestComplete _ => []
  | .firmwareFlashComplete _ => []
  | .activate _ => []
  | .loadingComplete => []
  | .handoverComplete _ => []
  | .probationEnd => []
  | .keep _ => []
  | .keepTimeout => []
  | .keepEntryComplete _ => []
  | .wake _ => []
  | .keepExitComplete _ => []
  | .deviceReset _ => []
  | .pwrEnFall => []
  | .pwrEnRise => []
  | .porstNAssert => []
  | .porstNRelease => []
  | .dictionaryReachable _ _ _ => []
  | .bootComplete _ _ _ => []
  | .housekeepingRound _ _ _ => []
  | .undervoltage rail => [(rail, 13)]
  | .vaonLow => []
  | .extest _ _ => []
  | .idcode => []
  | .samplePreload _ _ => []
  | .clamp => []
  | .highz => []
  | .jtagReset => []
  | .bypass => []
  | .prbsReceive lane _ => [(lane, 128)]
  | .signalReturn cand => [(cand, 2)]

/-- Every bounded operand of a well-formed command lies below its bound. -/
def Statement (i : Instr) : Prop := i.wf = true → ∀ p ∈ ranges i, p.1 < p.2

theorem nil : ∀ p ∈ ([] : List (Nat × Nat)), p.1 < p.2 := fun _ hp => nomatch hp
theorem cons {a b : Nat} {ps : List (Nat × Nat)} (h : decide (a < b) = true) (hs : ∀ p ∈ ps, p.1 < p.2) : ∀ p ∈ (a, b) :: ps, p.1 < p.2 :=
  List.forall_mem_cons.mpr ⟨of_decide_eq_true h, hs⟩
theorem one {a b : Nat} (h : decide (a < b) = true) : ∀ p ∈ [(a, b)], p.1 < p.2 := cons h nil
theorem and_l {a b : Bool} (h : (a && b) = true) : a = true := (Bool.and_eq_true_iff.mp h).1
theorem and_r {a b : Bool} (h : (a && b) = true) : b = true := (Bool.and_eq_true_iff.mp h).2

theorem dictWrite (sess : Nat) (idx : Nat) (sub : Nat) (data : Bytes) : Statement (.dictWrite sess idx sub data) := fun _ _ hp => nomatch hp
theorem commit (sess : Nat) (sc : Nat) : Statement (.commit sess sc) := one
theorem discard (sess : Nat) : Statement (.discard sess) := fun _ _ hp => nomatch hp
theorem disarm (sess : Nat) : Statement (.disarm sess) := fun _ _ hp => nomatch hp
theorem epochBoundary : Statement (.epochBoundary) := fun _ _ hp => nomatch hp
theorem enableWrite (sess : Nat) (idx : Nat) : Statement (.enableWrite sess idx) := fun _ _ hp => nomatch hp
theorem disableWrite (sess : Nat) (idx : Nat) : Statement (.disableWrite sess idx) := fun _ _ hp => nomatch hp
theorem enablingComplete (idx : Nat) : Statement (.enablingComplete idx) := fun _ _ hp => nomatch hp
theorem disablingComplete (idx : Nat) : Statement (.disablingComplete idx) := fun _ _ hp => nomatch hp
theorem laneLock (lane : Nat) : Statement (.laneLock lane) := one
theorem laneLockTimeout (lane : Nat) : Statement (.laneLockTimeout lane) := one
theorem clockRecoveryLoss (lane : Nat) : Statement (.clockRecoveryLoss lane) := one
theorem sheafFrameRx (lane : Nat) (line : Nat) (skew : Nat) (wander : Int) : Statement (.sheafFrameRx lane line skew wander) := fun h => (cons (and_l h) (cons (and_r h) nil))
theorem itemRx (lane : Nat) (item : Item) : Statement (.itemRx lane item) := one
theorem qlRx (lane : Nat) (level : Nat) : Statement (.qlRx lane level) := fun h => (cons (and_l h) (cons (and_r h) nil))
theorem creditRx (lane : Nat) (stream : Nat) (limit : Nat) : Statement (.creditRx lane stream limit) := fun h => (cons (and_l h) (cons (and_r h) nil))
theorem laneMapRx (lane : Nat) (gen : Nat) (map : Nat) : Statement (.laneMapRx lane gen map) := one
theorem laneAckRx (lane : Nat) (gen : Nat) (map : Nat) : Statement (.laneAckRx lane gen map) := one
theorem groupOn (idx : Nat) : Statement (.groupOn idx) := fun _ _ hp => nomatch hp
theorem rxLaneFail (lane : Nat) : Statement (.rxLaneFail lane) := one
theorem laneMapRetry (g : Nat) : Statement (.laneMapRetry g) := one
theorem txLaneFail (lane : Nat) : Statement (.txLaneFail lane) := one
theorem itemTx (lane : Nat) : Statement (.itemTx lane) := one
theorem qlSend : Statement (.qlSend) := fun _ _ hp => nomatch hp
theorem prbsInject (sess : Nat) : Statement (.prbsInject sess) := fun _ _ hp => nomatch hp
theorem sheafCounterClear (sess : Nat) : Statement (.sheafCounterClear sess) := fun _ _ hp => nomatch hp
theorem samplePacketRx : Statement (.samplePacketRx) := fun _ _ hp => nomatch hp
theorem slabSeal : Statement (.slabSeal) := fun _ _ hp => nomatch hp
theorem windowStart (bay : Nat) : Statement (.windowStart bay) := one
theorem loftStepFill (bay : Nat) : Statement (.loftStepFill bay) := one
theorem cribFreeze (profile : Nat) : Statement (.cribFreeze profile) := one
theorem fireTrigger (sess : Nat) : Statement (.fireTrigger sess) := fun _ _ hp => nomatch hp
theorem pinsTakeEffect (silo : Nat) : Statement (.pinsTakeEffect silo) := one
theorem siloRelease (sess : Nat) (silo : Nat) : Statement (.siloRelease sess silo) := one
theorem siloReleaseComplete (silo : Nat) : Statement (.siloReleaseComplete silo) := one
theorem readoutStart (sess : Nat) : Statement (.readoutStart sess) := fun _ _ hp => nomatch hp
theorem readoutPacket : Statement (.readoutPacket) := fun _ _ hp => nomatch hp
theorem readoutAbort (sess : Nat) : Statement (.readoutAbort sess) := fun _ _ hp => nomatch hp
theorem corr4 (bay : Nat) : Statement (.corr4 bay) := one
theorem corr8 (bay : Nat) : Statement (.corr8 bay) := one
theorem beam4 (bay : Nat) : Statement (.beam4 bay) := one
theorem beam8 (bay : Nat) : Statement (.beam8 bay) := one
theorem xreg (bay : Nat) : Statement (.xreg bay) := one
theorem zero (bay : Nat) : Statement (.zero bay) := one
theorem dump (bay : Nat) : Statement (.dump bay) := one
theorem cutFence (bay : Nat) : Statement (.cutFence bay) := one
theorem fencePass (bay : Nat) : Statement (.fencePass bay) := one
theorem cutEnd (bay : Nat) : Statement (.cutEnd bay) := one
theorem cutWaitStep (bay : Nat) : Statement (.cutWaitStep bay) := one
theorem cutJump (bay : Nat) : Statement (.cutJump bay) := one
theorem cutIfStep (bay : Nat) : Statement (.cutIfStep bay) := one
theorem cutLoop (bay : Nat) : Statement (.cutLoop bay) := one
theorem cutEndloop (bay : Nat) : Statement (.cutEndloop bay) := one
theorem cutWaitEvt (bay : Nat) : Statement (.cutWaitEvt bay) := one
theorem cutEvent (bay : Nat) : Statement (.cutEvent bay) := one
theorem jigRestart (sess : Nat) (bay : Nat) : Statement (.jigRestart sess bay) := one
theorem workOrderStart (tile : Nat) (bad : List Nat) : Statement (.workOrderStart tile bad) := one
theorem classUYield (tile : Nat) : Statement (.classUYield tile) := one
theorem passOverflow (tile : Nat) : Statement (.passOverflow tile) := one
theorem passComplete (tile : Nat) : Statement (.passComplete tile) := one
theorem foldComplete (tile : Nat) (bad : List Nat) : Statement (.foldComplete tile bad) := one
theorem spillComplete (tile : Nat) (bad : List Nat) : Statement (.spillComplete tile bad) := one
theorem workOrderComplete (bay : Nat) : Statement (.workOrderComplete bay) := one
theorem dumpRecordStaged (bad : List Nat) : Statement (.dumpRecordStaged bad) := fun _ _ hp => nomatch hp
theorem recordFragmentsSend (stream : Nat) : Statement (.recordFragmentsSend stream) := one
theorem residueMismatch (tile : Nat) : Statement (.residueMismatch tile) := one
theorem tileFail (tile : Nat) (cause : Nat) : Statement (.tileFail tile cause) := fun h => (cons (and_l (and_l h)) nil)
theorem reseatComplete (bay : Nat) : Statement (.reseatComplete bay) := one
theorem retest (sess : Nat) (tile : Nat) : Statement (.retest sess tile) := one
theorem retestComplete (tile : Nat) (passed : Bool) : Statement (.retestComplete tile passed) := one
theorem weightLoad (lam : Nat) : Statement (.weightLoad lam) := one
theorem formatRecord (stream : Nat) : Statement (.formatRecord stream) := one
theorem winnowService : Statement (.winnowService) := fun _ _ hp => nomatch hp
theorem winnowOutput : Statement (.winnowOutput) := fun _ _ hp => nomatch hp
theorem scalerGroupSend (scaler : Nat) : Statement (.scalerGroupSend scaler) := one
theorem lineClockEdge : Statement (.lineClockEdge) := fun _ _ hp => nomatch hp
theorem pixelPacketRx : Statement (.pixelPacketRx) := fun _ _ hp => nomatch hp
theorem stageBLine (camera : Nat) : Statement (.stageBLine camera) := one
theorem statsRecordFormed (camera : Nat) : Statement (.statsRecordFormed camera) := one
theorem frameSlotFilled : Statement (.frameSlotFilled) := fun _ _ hp => nomatch hp
theorem frameHold (sess : Nat) (slot : Option Nat) : Statement (.frameHold sess slot) := fun _ _ hp => nomatch hp
theorem frameSlotRelease (sess : Nat) (slot : Nat) : Statement (.frameSlotRelease sess slot) := one
theorem stitchedLine : Statement (.stitchedLine) := fun _ _ hp => nomatch hp
theorem regReady : Statement (.regReady) := fun _ _ hp => nomatch hp
theorem regRecordTake : Statement (.regRecordTake) := fun _ _ hp => nomatch hp
theorem doveShift : Statement (.doveShift) := fun _ _ hp => nomatch hp
theorem clearCorr (sess : Nat) (k : Nat) : Statement (.clearCorr sess k) := one
theorem gleanerLine : Statement (.gleanerLine) := fun _ _ hp => nomatch hp
theorem slotANop (core : Nat) : Statement (.slotANop core) := one
theorem cmul (core : Nat) : Statement (.cmul core) := one
theorem cmulj (core : Nat) : Statement (.cmulj core) := one
theorem cmac (core : Nat) : Statement (.cmac core) := one
theorem cmacj (core : Nat) : Statement (.cmacj core) := one
theorem cmsu (core : Nat) : Statement (.cmsu core) := one
theorem cmag (core : Nat) : Statement (.cmag core) := one
theorem cbfly (core : Nat) : Statement (.cbfly core) := one
theorem aclr (core : Nat) : Statement (.aclr core) := one
theorem mva (core : Nat) : Statement (.mva core) := one
theorem mva2 (core : Nat) : Statement (.mva2 core) := one
theorem cadd (core : Nat) : Statement (.cadd core) := one
theorem csub (core : Nat) : Statement (.csub core) := one
theorem cconj (core : Nat) : Statement (.cconj core) := one
theorem bexd (core : Nat) : Statement (.bexd core) := one
theorem bexs (core : Nat) : Statement (.bexs core) := one
theorem addD (core : Nat) : Statement (.addD core) := one
theorem subD (core : Nat) : Statement (.subD core) := one
theorem andD (core : Nat) : Statement (.andD core) := one
theorem orD (core : Nat) : Statement (.orD core) := one
theorem xorD (core : Nat) : Statement (.xorD core) := one
theorem shl (core : Nat) : Statement (.shl core) := one
theorem asr (core : Nat) : Statement (.asr core) := one
theorem lsr (core : Nat) : Statement (.lsr core) := one
theorem addi (core : Nat) : Statement (.addi core) := one
theorem movi (core : Nat) : Statement (.movi core) := one
theorem movhi (core : Nat) : Statement (.movhi core) := one
theorem cmpD (core : Nat) : Statement (.cmpD core) := one
theorem mulD (core : Nat) : Statement (.mulD core) := one
theorem divD (core : Nat) : Statement (.divD core) := one
theorem movc (core : Nat) : Statement (.movc core) := one
theorem movcw (core : Nat) : Statement (.movcw core) := one
theorem movar (core : Nat) : Statement (.movar core) := one
theorem movra (core : Nat) : Statement (.movra core) := one
theorem br (core : Nat) : Statement (.br core) := one
theorem call (core : Nat) : Statement (.call core) := one
theorem ret (core : Nat) : Statement (.ret core) := one
theorem rti (core : Nat) : Statement (.rti core) := one
theorem rep (core : Nat) : Statement (.rep core) := one
theorem repd (core : Nat) : Statement (.repd core) := one
theorem eidi (core : Nat) : Statement (.eidi core) := one
theorem waite (core : Nat) : Statement (.waite core) := one
theorem sige (core : Nat) : Statement (.sige core) := one
theorem trapD (core : Nat) : Statement (.trapD core) := one
theorem haltD (core : Nat) : Statement (.haltD core) := one
theorem slotBNop (core : Nat) : Statement (.slotBNop core) := one
theorem ld (core : Nat) (ecc : List Nat) : Statement (.ld core ecc) := one
theorem ldo (core : Nat) (ecc : List Nat) : Statement (.ldo core ecc) := one
theorem st (core : Nat) : Statement (.st core) := one
theorem sto (core : Nat) : Statement (.sto core) := one
theorem ld2 (core : Nat) (ecc : List Nat) : Statement (.ld2 core ecc) := one
theorem st2 (core : Nat) : Statement (.st2 core) := one
theorem ldst (core : Nat) (ecc : List Nat) : Statement (.ldst core ecc) := one
theorem fld (core : Nat) : Statement (.fld core) := one
theorem fst (core : Nat) : Statement (.fst core) := one
theorem amod (core : Nat) : Statement (.amod core) := one
theorem ldai (core : Nat) : Statement (.ldai core) := one
theorem farResponse (core : Nat) : Statement (.farResponse core) := one
theorem farTimeout (core : Nat) : Statement (.farTimeout core) := one
theorem trapEntry (core : Nat) (imem : Nat) (deferral : Nat) : Statement (.trapEntry core imem deferral) := one
theorem interruptEntry (core : Nat) (deferral : Nat) : Statement (.interruptEntry core deferral) := one
theorem imageApply (core : Nat) : Statement (.imageApply core) := one
theorem imageLoadComplete (core : Nat) : Statement (.imageLoadComplete core) := one
theorem debugHaltCmd (sess : Nat) (core : Nat) : Statement (.debugHaltCmd sess core) := one
theorem debugResume (sess : Nat) (core : Nat) : Statement (.debugResume sess core) := one
theorem debugStep (sess : Nat) (core : Nat) : Statement (.debugStep sess core) := one
theorem breakpointHit (core : Nat) : Statement (.breakpointHit core) := one
theorem parityEngineWrite (addr : Nat) (data : Bytes) : Statement (.parityEngineWrite addr data) := fun _ _ hp => nomatch hp
theorem assemblyClose (closeStripe : Bool) : Statement (.assemblyClose closeStripe) := fun _ _ hp => nomatch hp
theorem dramRead (addr : Nat) (cls : Nat) (err : Nat) : Statement (.dramRead addr cls err) := fun h => (cons (and_l h) (cons (and_r h) nil))
theorem scrubRead (ch : Nat) (err : Nat) : Statement (.scrubRead ch err) := fun h => (cons (and_l h) (cons (and_r h) nil))
theorem refreshDue (ch : Nat) (rank : Nat) (busy : Bool) : Statement (.refreshDue ch rank busy) := fun h => (cons (and_l h) (cons (and_r h) nil))
theorem mr4Read (ch : Nat) (codes : List Nat) (above : Bool) : Statement (.mr4Read ch codes above) := one
theorem channelLost (ch : Nat) (cause : Nat) : Statement (.channelLost ch cause) := fun h => (cons (and_l (and_l h)) nil)
theorem declareLost (sess : Nat) (ch : Nat) : Statement (.declareLost sess ch) := one
theorem rebuild (sess : Nat) (ch : Nat) : Statement (.rebuild sess ch) := one
theorem rebuildComplete (ch : Nat) : Statement (.rebuildComplete ch) := one
theorem applyDelays (sess : Nat) (ch : Nat) : Statement (.applyDelays sess ch) := one
theorem recalibrate (sess : Nat) (ch : Nat) : Statement (.recalibrate sess ch) := one
theorem recalWindow (ch : Nat) (final : Bool) (margin : Nat) (block : Bytes) : Statement (.recalWindow ch final margin block) := one
theorem freqChange (sess : Nat) : Statement (.freqChange sess) := fun _ _ hp => nomatch hp
theorem channelFreqSwitch : Statement (.channelFreqSwitch) := fun _ _ hp => nomatch hp
theorem storeDelays (sess : Nat) : Statement (.storeDelays sess) := fun _ _ hp => nomatch hp
theorem fabricRequest (master : Nat) (req : FabReq) : Statement (.fabricRequest master req) := fun _ _ hp => nomatch hp
theorem pageWalkComplete (walk : Nat) : Statement (.pageWalkComplete walk) := one
theorem lockBroken (master : Nat) : Statement (.lockBroken master) := fun _ _ hp => nomatch hp
theorem invWindow (sess : Nat) (window : Nat) : Statement (.invWindow sess window) := one
theorem invAll (sess : Nat) : Statement (.invAll sess) := fun _ _ hp => nomatch hp
theorem pageInvWindow (master : Nat) (window : Nat) : Statement (.pageInvWindow master window) := fun _ _ hp => nomatch hp
theorem pageInvAll (master : Nat) : Statement (.pageInvAll master) := fun _ _ hp => nomatch hp
theorem dmaStart (via : DmaVia) (c : Nat) : Statement (.dmaStart via c) := fun _ _ hp => nomatch hp
theorem descriptorFetch (c : Nat) : Statement (.descriptorFetch c) := one
theorem descriptorComplete (c : Nat) : Statement (.descriptorComplete c) := one
theorem dmaBeatFault (c : Nat) : Statement (.dmaBeatFault c) := one
theorem dmaAbort (via : DmaVia) (c : Nat) : Statement (.dmaAbort via c) := fun _ _ hp => nomatch hp
theorem abortComplete (c : Nat) : Statement (.abortComplete c) := one
theorem dmaResume (via : DmaVia) (c : Nat) : Statement (.dmaResume via c) := fun _ _ hp => nomatch hp
theorem dmaResumeNext (via : DmaVia) (c : Nat) : Statement (.dmaResumeNext via c) := fun _ _ hp => nomatch hp
theorem moverAssign : Statement (.moverAssign) := fun _ _ hp => nomatch hp
theorem qlFrameRx (cand : Nat) (word : Nat) (stop : Bool) : Statement (.qlFrameRx cand word stop) := one
theorem qlTimeout (cand : Nat) : Statement (.qlTimeout cand) := one
theorem signalLoss (cand : Nat) : Statement (.signalLoss cand) := one
theorem monitorWindowEnd (ys : List Int) (control : Int) : Statement (.monitorWindowEnd ys control) := fun _ _ hp => nomatch hp
theorem wtrExpiry (cand : Nat) : Statement (.wtrExpiry cand) := one
theorem switchComplete : Statement (.switchComplete) := fun _ _ hp => nomatch hp
theorem refAcquireTimeout : Statement (.refAcquireTimeout) := fun _ _ hp => nomatch hp
theorem pps : Statement (.pps) := fun _ _ hp => nomatch hp
theorem scLoad (sess : Nat) : Statement (.scLoad sess) := fun _ _ hp => nomatch hp
theorem scLoadApply : Statement (.scLoadApply) := fun _ _ hp => nomatch hp
theorem adjust (sess : Nat) (t : Nat) (v : Int) : Statement (.adjust sess t v) := fun h => (cons (and_l (and_l h)) nil)
theorem tbStep (sess : Nat) (t : Nat) : Statement (.tbStep sess t) := one
theorem tbSet (master : Nat) (secure : Bool) (t : Nat) : Statement (.tbSet master secure t) := fun h => (cons (and_l h) nil)
theorem toutTimeReached (k : Nat) : Statement (.toutTimeReached k) := one
theorem toutEvent (k : Nat) : Statement (.toutEvent k) := one
theorem toutPulseEnd (k : Nat) : Statement (.toutPulseEnd k) := one
theorem tinCapture (k : Nat) (rising : Bool) (held : Nat) : Statement (.tinCapture k rising held) := one
theorem ptpEventRx (port : Nat) (msg : PtpMsg) : Statement (.ptpEventRx port msg) := fun h =>
  cons (and_l (and_l (and_l (and_l (and_l h))))) (cons (and_r (and_l (and_l (and_l (and_l h))))) (cons (and_r (and_l h)) (cons (and_r h) nil)))
theorem ptpMessageTx (port : Nat) (kind : Nat) : Statement (.ptpMessageTx port kind) := fun h => (cons (and_l h) (cons (and_r h) nil))
theorem encoderEdge (axis : Nat) (a : Bool) (b : Bool) (held : Nat) : Statement (.encoderEdge axis a b held) := one
theorem hallState (axis : Nat) (uvw : Nat) (held : Nat) : Statement (.hallState axis uvw held) := fun h => (cons (and_l h) (cons (and_r h) nil))
theorem ssiFrame (axis : Nat) (value : Nat) (parity : Bool) : Statement (.ssiFrame axis value parity) := one
theorem indexEdge (axis : Nat) (held : Nat) : Statement (.indexEdge axis held) := one
theorem axisPreset (sess : Nat) (axis : Nat) : Statement (.axisPreset sess axis) := one
theorem observerUpdate (axis : Nat) : Statement (.observerUpdate axis) := one
theorem standstill (axis : Nat) : Statement (.standstill axis) := one
theorem comparePlace (sess : Nat) (m : Nat) : Statement (.comparePlace sess m) := one
theorem markerEntryArrive (m : Nat) : Statement (.markerEntryArrive m) := one
theorem compareClear (sess : Nat) (m : Nat) : Statement (.compareClear sess m) := one
theorem cmpoutPulseEnd (m : Nat) : Statement (.cmpoutPulseEnd m) := one
theorem lineEdgeEmit : Statement (.lineEdgeEmit) := fun _ _ hp => nomatch hp
theorem timerLineEdge : Statement (.timerLineEdge) := fun _ _ hp => nomatch hp
theorem ltrigPulse (j : Nat) : Statement (.ltrigPulse j) := one
theorem fdpFrameRx (peer : Peer) (datagram : Bytes) : Statement (.fdpFrameRx peer datagram) := fun _ _ hp => nomatch hp
theorem fdpOpen (peer : Peer) (frame : FdpFrame) : Statement (.fdpOpen peer frame) := fun _ _ hp => nomatch hp
theorem keyInit (peer : Peer) (frame : FdpFrame) : Statement (.keyInit peer frame) := fun _ _ hp => nomatch hp
theorem fdpRequest (peer : Peer) (frame : FdpFrame) : Statement (.fdpRequest peer frame) := fun _ _ hp => nomatch hp
theorem notifyAck (peer : Peer) (frame : FdpFrame) : Statement (.notifyAck peer frame) := fun _ _ hp => nomatch hp
theorem closeFrame (peer : Peer) (frame : FdpFrame) : Statement (.closeFrame peer frame) := fun _ _ hp => nomatch hp
theorem fdpRead (sess : Nat) (idx : Nat) (sub : Nat) : Statement (.fdpRead sess idx sub) := fun _ _ hp => nomatch hp
theorem fdpWrite (sess : Nat) (idx : Nat) (sub : Nat) (data : Bytes) : Statement (.fdpWrite sess idx sub data) := fun _ _ hp => nomatch hp
theorem fdpDescribe (sess : Nat) (idx : Nat) (sub : Nat) : Statement (.fdpDescribe sess idx sub) := fun _ _ hp => nomatch hp
theorem domBegin (sess : Nat) (idx : Nat) (sub : Nat) (total : Nat) : Statement (.domBegin sess idx sub total) := one
theorem domSeg (sess : Nat) (idx : Nat) (sub : Nat) (off : Nat) (data : Bytes) : Statement (.domSeg sess idx sub off data) := one
theorem domEnd (sess : Nat) (idx : Nat) (sub : Nat) (crc : Nat) : Statement (.domEnd sess idx sub crc) := one
theorem domRead (sess : Nat) (idx : Nat) (sub : Nat) (off : Nat) (len : Nat) : Statement (.domRead sess idx sub off len) := fun h => (cons (and_l h) (cons (and_r h) nil))
theorem domCancel (sess : Nat) (idx : Nat) (sub : Nat) : Statement (.domCancel sess idx sub) := fun _ _ hp => nomatch hp
theorem transferAbandoned (sess : Nat) : Statement (.transferAbandoned sess) := fun _ _ hp => nomatch hp
theorem sessionIdleTimeout (sess : Nat) : Statement (.sessionIdleTimeout sess) := fun _ _ hp => nomatch hp
theorem sessionClose (sess : Nat) (target : Nat) : Statement (.sessionClose sess target) := fun _ _ hp => nomatch hp
theorem notifySend (sess : Nat) : Statement (.notifySend sess) := fun _ _ hp => nomatch hp
theorem notifyResend (sess : Nat) (seq : Nat) : Statement (.notifyResend sess seq) := fun _ _ hp => nomatch hp
theorem keySet (sess : Nat) (role : Nat) (newKey : Bytes) : Statement (.keySet sess role newKey) := one
theorem debugEnter (sess : Nat) : Statement (.debugEnter sess) := fun _ _ hp => nomatch hp
theorem debugLeave (sess : Nat) : Statement (.debugLeave sess) := fun _ _ hp => nomatch hp
theorem arpRequest (port : Nat) (sender : Nat) (target : Nat) : Statement (.arpRequest port sender target) := one
theorem icmpEcho (port : Nat) (sender : Nat) (target : Nat) (payload : Bytes) : Statement (.icmpEcho port sender target payload) := one
theorem portLinkChange (port : Nat) (link : Nat) : Statement (.portLinkChange port link) := one
theorem eventTake : Statement (.eventTake) := fun _ _ hp => nomatch hp
theorem consumerTake (input : Nat) : Statement (.consumerTake input) := one
theorem relayEmit (r : Nat) : Statement (.relayEmit r) := one
theorem softEvent (via : Via) (n : Nat) : Statement (.softEvent via n) := fun _ _ hp => nomatch hp
theorem channelAttr (master : Nat) (secure : Bool) (c : Nat) (value : Nat) : Statement (.channelAttr master secure c value) := fun h => (cons (and_r h) nil)
theorem alertDelivery (k : Nat) : Statement (.alertDelivery k) := one
theorem alertPulseEnd (k : Nat) : Statement (.alertPulseEnd k) := one
theorem alertRelease (sess : Nat) (k : Nat) : Statement (.alertRelease sess k) := one
theorem snapshotTime (g : Nat) : Statement (.snapshotTime g) := one
theorem snapshotEvent (g : Nat) : Statement (.snapshotEvent g) := one
theorem snapNow (sess : Nat) (g : Nat) : Statement (.snapNow sess g) := one
theorem counterClear (via : Via) (n : Nat) : Statement (.counterClear via n) := fun _ _ hp => nomatch hp
theorem ovfClear (sess : Nat) (n : Nat) : Statement (.ovfClear sess n) := one
theorem counterWrap (n : Nat) : Statement (.counterWrap n) := one
theorem lockstepMismatch : Statement (.lockstepMismatch) := fun _ _ hp => nomatch hp
theorem watchdogExpiry : Statement (.watchdogExpiry) := fun _ _ hp => nomatch hp
theorem failover (sess : Nat) : Statement (.failover sess) := fun _ _ hp => nomatch hp
theorem pairSelftestComplete (passed : Bool) : Statement (.pairSelftestComplete passed) := fun _ _ hp => nomatch hp
theorem firmwareFlashComplete (ok : Bool) : Statement (.firmwareFlashComplete ok) := fun _ _ hp => nomatch hp
theorem activate (sess : Nat) : Statement (.activate sess) := fun _ _ hp => nomatch hp
theorem loadingComplete : Statement (.loadingComplete) := fun _ _ hp => nomatch hp
theorem handoverComplete (gap : Nat) : Statement (.handoverComplete gap) := fun _ _ hp => nomatch hp
theorem probationEnd : Statement (.probationEnd) := fun _ _ hp => nomatch hp
theorem keep (sess : Nat) : Statement (.keep sess) := fun _ _ hp => nomatch hp
theorem keepTimeout : Statement (.keepTimeout) := fun _ _ hp => nomatch hp
theorem keepEntryComplete (micros : Nat) : Statement (.keepEntryComplete micros) := fun _ _ hp => nomatch hp
theorem wake (sess : Nat) : Statement (.wake sess) := fun _ _ hp => nomatch hp
theorem keepExitComplete (micros : Nat) : Statement (.keepExitComplete micros) := fun _ _ hp => nomatch hp
theorem deviceReset (sess : Nat) : Statement (.deviceReset sess) := fun _ _ hp => nomatch hp
theorem pwrEnFall : Statement (.pwrEnFall) := fun _ _ hp => nomatch hp
theorem pwrEnRise : Statement (.pwrEnRise) := fun _ _ hp => nomatch hp
theorem porstNAssert : Statement (.porstNAssert) := fun _ _ hp => nomatch hp
theorem porstNRelease : Statement (.porstNRelease) := fun _ _ hp => nomatch hp
theorem dictionaryReachable (micros : Nat) (m0 : Bool) (m1 : Bool) : Statement (.dictionaryReachable micros m0 m1) := fun _ _ hp => nomatch hp
theorem bootComplete (micros : Nat) (found : SelfTest) (badLanes : List Nat) : Statement (.bootComplete micros found badLanes) := fun _ _ hp => nomatch hp
theorem housekeepingRound (temps : List Int) (volts : List Nat) (amps : List Nat) : Statement (.housekeepingRound temps volts amps) := fun _ _ hp => nomatch hp
theorem undervoltage (rail : Nat) : Statement (.undervoltage rail) := fun h => (cons (and_l h) nil)
theorem vaonLow : Statement (.vaonLow) := fun _ _ hp => nomatch hp
theorem extest (balls : Nat) (cells : Nat) : Statement (.extest balls cells) := fun _ _ hp => nomatch hp
theorem idcode : Statement (.idcode) := fun _ _ hp => nomatch hp
theorem samplePreload (balls : Nat) (cells : Nat) : Statement (.samplePreload balls cells) := fun _ _ hp => nomatch hp
theorem clamp : Statement (.clamp) := fun _ _ hp => nomatch hp
theorem highz : Statement (.highz) := fun _ _ hp => nomatch hp
theorem jtagReset : Statement (.jtagReset) := fun _ _ hp => nomatch hp
theorem bypass : Statement (.bypass) := fun _ _ hp => nomatch hp
theorem prbsReceive (lane : Nat) (rx : List Bool) : Statement (.prbsReceive lane rx) := one
theorem signalReturn (cand : Nat) : Statement (.signalReturn cand) := one

end Sys2Proof.Laws.Wf
end

