-- ==== Sys2Proof/Tests/Slice0.lean ====
section
/-! SUPPORT. Tests: commands that each check of Instr.wf refuses, and for the statements of Certificates/Slice0/Obligations.lean states and operands that
meet their hypotheses, at the ends of their ranges. Each witness runs one command and looks at a field or two the manual fixes. -/

open Sys2Proof Sys2Proof.Machine
set_option maxRecDepth 100000
set_option linter.all false
set_option Elab.async false
namespace Sys2Proof.Tests
/-- Entries set to given values: index, sub-index, value. -/
def sets (s : State) (xs : List (Nat × Nat × Nat)) : State := xs.foldl (fun s x => s.setReg x.1 x.2.1 x.2.2) s
/-- A command runs and its next state passes a test. -/
def runs (i : Instr) (s : State) (p : State → Bool) : Bool := match exec i s with | .next t => p t | _ => false
/-- A command runs and changes nothing. -/
def stays (i : Instr) (s : State) : Bool := runs i s (fun t => decide (t = s))
/-- A session may write an entry, as a test; `lets_iff` says that it is `State.lets`. -/
def may (s : State) (sess idx sub : Nat) : Bool := s.sessionOpen sess && (match s.writeGate sess idx sub with | .ok _ => true | .error _ => false)
theorem lets_iff (s : State) (sess idx sub : Nat) : may s sess idx sub = true ↔ s.lets sess idx sub := by
  unfold may State.lets
  cases s.writeGate sess idx sub <;> simp
/-- As `may`, for a CMD entry that KEEP stops. -/
def mayCmd (s : State) (sess idx sub : Nat) : Bool := may s sess idx sub && decide (s.pwState ≠ pwKeep)
theorem letsCmd_iff (s : State) (sess idx sub : Nat) : mayCmd s sess idx sub = true ↔ s.letsCmd sess idx sub := by
  unfold mayCmd State.letsCmd
  rw [Bool.and_eq_true, lets_iff, decide_eq_true_iff]
/-- The part after reset, with a CRC of its delay table that a whole-state comparison need not compute. -/
def base : State := { State.reset with nv := { State.reset.nv with dramCrc := 0 } }
/-- Session 1 is open with the Service role, session 2 with the Integrator role, and the part runs. -/
def user : State := sets base [(0x1030, 1, 1), (0x1030, 2, 3), (0x1031, 1, 1), (0x1031, 2, 2), (0x2000, 1, 2)]
/-- Bytes placed in DRAM from a logical address, within one unit. -/
def place (s : State) (a : Nat) (bs : Bytes) : State :=
  match s.mapAddr a with | some (ch, u) => { s with dram := dramWrite s.dram (64 * s.deviceKey ch u + a % 64) bs } | none => s
/-- The reference unit runs. -/
def timed : State := { user with time := { user.time with running := true, tclk := 1000 } }
def fired (t : State) (src pay : Nat) : Bool := match t.dowel.fired with | [e] => decide (e.source = src) && decide (e.payload = pay) | _ => false

namespace Whole
/-! ### The whole machine -/
def waiting (q : List Instr) : State := { user with pending := q }
def absentUnit : State := { user with board := { user.board with variant := .i } }
theorem witness_step : (waiting [.idcode, .wake 1]).pending = .idcode :: [.wake 1] ∧ (match step (waiting [.idcode, .wake 1]), exec .idcode ((waiting [.idcode, .wake 1]).withPending [.wake 1]) with | .next t, .next u => decide (t = u) | _, _ => false) = true := by decide +kernel
theorem witness_tick : State.reset.pending = [] ∧ State.reset.avail.rxQueue = [] ∧ State.reset.reg 0x2000 1 ≠ 3 ∧ State.reset.time.running = false ∧
    timed.pending = [] ∧ timed.avail.rxQueue = [] ∧ timed.reg 0x2000 1 ≠ 3 ∧ timed.time.running = true ∧
    (match step timed with | .next t => decide (t.time.tclk = 1001) | _ => false) = true := by decide +kernel
theorem witness_frame : runs .idcode user (fun t => t.regs = user.regs) = true ∧ 0x2000 < lowestEntry (.idcode) ∧ 0x1111 < lowestEntry (.retest 1 271) ∧ runs (.retest 1 271) user (fun _ => true) = true := by decide +kernel
theorem witness_safe : (waiting [.idcode, .wake 1]).Safe ∧ (match step (waiting [.idcode, .wake 1]) with | .next t => true | _ => false) = true := ⟨⟨⟨by decide, by decide, by decide⟩, by rfl⟩, by decide +kernel⟩
theorem witness_rows : (rowOf 0x1011 1).map (fun r => (r.acc, r.dflt)) = some (.rw, 1) ∧ (rowOf 0x1011 7).map (fun r => r.acc) = some .rws ∧ (rowOf 0x2400 2).map (fun r => r.acc) = some .rwx ∧
    State.reset.reg 0x1011 7 = 0xFFFF0000 ∧ State.reset.reg 0x2400 2 = 255 := by decide +kernel
theorem witness_absent : absentUnit.sessionOpen 1 = true ∧ absentUnit.power.recovery = false ∧ (rowOf 0x2103 6).isSome = true ∧ absentUnit.board.absent 0x2103 = true ∧
    rowOf 0x1FFF 1 = none ∧ runs (.fdpRead 1 0x2103 6) absentUnit (fun t => t.dict.results.length = 1) = true := by decide +kernel
/-- Every command with operands in range is well formed. -/
theorem test_in_range_0 : ([
    .dictWrite 1 1 1 [], .commit 1 1, .discard 1, .disarm 1, .epochBoundary, .enableWrite 1 0x4000, .disableWrite 1 0x4000, .enablingComplete 0x4000,
    .disablingComplete 0x4000, .laneLock 1, .laneLockTimeout 1, .clockRecoveryLoss 1, .sheafFrameRx 1 1 1 0, .itemRx 1 ⟨0, [], 0⟩, .qlRx 1 1,
    .creditRx 1 1 1, .laneMapRx 1 1 1, .laneAckRx 1 1 1, .groupOn 0x2440, .rxLaneFail 1, .laneMapRetry 1, .txLaneFail 1, .itemTx 1, .qlSend,
    .prbsInject 1, .sheafCounterClear 1, .samplePacketRx, .slabSeal, .windowStart 1, .loftStepFill 1, .cribFreeze 1, .fireTrigger 1,
    .pinsTakeEffect 1, .siloRelease 1 1, .siloReleaseComplete 1, .readoutStart 1, .readoutPacket, .readoutAbort 1, .corr4 1, .corr8 1, .beam4 1,
    .beam8 1, .xreg 1, .zero 1, .dump 1, .cutFence 1, .fencePass 1, .cutEnd 1, .cutWaitStep 1, .cutJump 1, .cutIfStep 1, .cutLoop 1, .cutEndloop 1,
    .cutWaitEvt 1, .cutEvent 1, .jigRestart 1 1, .workOrderStart 1 [], .classUYield 1, .passOverflow 1,
    .passComplete 1] : List Instr).all Instr.wf = true := by decide +kernel
theorem test_in_range_1 : ([
    .foldComplete 1 [], .spillComplete 1 [], .workOrderComplete 1, .dumpRecordStaged [], .recordFragmentsSend 1, .residueMismatch 1, .tileFail 1 1,
    .reseatComplete 1, .retest 1 1, .retestComplete 1 false, .weightLoad 1, .formatRecord 1, .winnowService, .winnowOutput, .scalerGroupSend 1,
    .lineClockEdge, .pixelPacketRx, .stageBLine 1, .statsRecordFormed 1, .frameSlotFilled, .frameHold 1 none, .frameSlotRelease 1 1, .stitchedLine,
    .regReady, .regRecordTake, .doveShift, .clearCorr 1 1, .gleanerLine, .slotANop 1, .cmul 1, .cmulj 1, .cmac 1, .cmacj 1, .cmsu 1, .cmag 1,
    .cbfly 1, .aclr 1, .mva 1, .mva2 1, .cadd 1, .csub 1, .cconj 1, .bexd 1, .bexs 1, .addD 1, .subD 1, .andD 1, .orD 1, .xorD 1, .shl 1, .asr 1,
    .lsr 1, .addi 1, .movi 1, .movhi 1, .cmpD 1, .mulD 1, .divD 1, .movc 1, .movcw 1] : List Instr).all Instr.wf = true := by decide +kernel
theorem test_in_range_2 : ([
    .movar 1, .movra 1, .br 1, .call 1, .ret 1, .rti 1, .rep 1, .repd 1, .eidi 1, .waite 1, .sige 1, .trapD 1, .haltD 1, .slotBNop 1, .ld 1 [],
    .ldo 1 [], .st 1, .sto 1, .ld2 1 [], .st2 1, .ldst 1 [], .fld 1, .fst 1, .amod 1, .ldai 1, .farResponse 1, .farTimeout 1, .trapEntry 1 1 1,
    .interruptEntry 1 1, .imageApply 1, .imageLoadComplete 1, .debugHaltCmd 1 1, .debugResume 1 1, .debugStep 1 1, .breakpointHit 1,
    .parityEngineWrite 1 [], .assemblyClose false, .dramRead 1 1 1, .scrubRead 1 1, .refreshDue 1 1 false, .mr4Read 1 [] false, .channelLost 1 1,
    .declareLost 1 1, .rebuild 1 1, .rebuildComplete 1, .applyDelays 1 1, .recalibrate 1 1, .recalWindow 1 false 1 [], .freqChange 1,
    .channelFreqSwitch, .storeDelays 1, .fabricRequest 0 ⟨0, 0, false, [], 0, false, 0, 0⟩, .pageWalkComplete 1, .lockBroken 0, .invWindow 1 1,
    .invAll 1, .pageInvWindow 0 1, .pageInvAll 0, .dmaStart (.fdp 1) 1, .descriptorFetch 1] : List Instr).all Instr.wf = true := by decide +kernel
theorem test_in_range_3 : ([
    .descriptorComplete 1, .dmaBeatFault 1, .dmaAbort (.fdp 1) 1, .abortComplete 1, .dmaResume (.fdp 1) 1, .dmaResumeNext (.fdp 1) 1, .moverAssign,
    .qlFrameRx 1 1 false, .qlTimeout 1, .signalLoss 1, .monitorWindowEnd [] 0, .wtrExpiry 1, .switchComplete, .refAcquireTimeout, .pps, .scLoad 1,
    .scLoadApply, .adjust 1 1 0, .tbStep 1 1, .tbSet 0 false 1, .toutTimeReached 1, .toutEvent 1, .toutPulseEnd 1, .tinCapture 1 false 1,
    .ptpEventRx 1 ⟨0, 0, 0, 0, 0, 0, 1⟩, .ptpMessageTx 1 1, .encoderEdge 1 false false 1, .hallState 1 1 1, .ssiFrame 1 1 false, .indexEdge 1 1,
    .axisPreset 1 1, .observerUpdate 1, .standstill 1, .comparePlace 1 1, .markerEntryArrive 1, .compareClear 1 1, .cmpoutPulseEnd 1, .lineEdgeEmit,
    .timerLineEdge, .ltrigPulse 1, .fdpFrameRx ⟨0, 0, 0⟩ [], .fdpOpen ⟨0, 0, 0⟩ ⟨0, 0, 0, [], [], []⟩, .keyInit ⟨0, 0, 0⟩ ⟨0, 0, 0, [], [], []⟩,
    .fdpRequest ⟨0, 0, 0⟩ ⟨0, 0, 0, [], [], []⟩, .notifyAck ⟨0, 0, 0⟩ ⟨0, 0, 0, [], [], []⟩, .closeFrame ⟨0, 0, 0⟩ ⟨0, 0, 0, [], [], []⟩,
    .fdpRead 1 1 1, .fdpWrite 1 1 1 [], .fdpDescribe 1 1 1, .domBegin 1 1 1 1, .domSeg 1 1 1 1 [], .domEnd 1 1 1 1, .domRead 1 1 1 1 1,
    .domCancel 1 1 1, .transferAbandoned 1, .sessionIdleTimeout 1, .sessionClose 1 1, .notifySend 1, .notifyResend 1 1,
    .keySet 1 1 []] : List Instr).all Instr.wf = true := by decide +kernel
theorem test_in_range_4 : ([
    .debugEnter 1, .debugLeave 1, .arpRequest 1 1 1, .icmpEcho 1 1 1 [], .portLinkChange 1 1, .eventTake, .consumerTake 1, .relayEmit 1,
    .softEvent (.fdp 1) 1, .channelAttr 0 false 1 1, .alertDelivery 1, .alertPulseEnd 1, .alertRelease 1 1, .snapshotTime 1, .snapshotEvent 1,
    .snapNow 1 1, .counterClear (.fdp 1) 1, .ovfClear 1 1, .counterWrap 1, .lockstepMismatch, .watchdogExpiry, .failover 1,
    .pairSelftestComplete false, .firmwareFlashComplete false, .activate 1, .loadingComplete, .handoverComplete 1, .probationEnd, .keep 1,
    .keepTimeout, .keepEntryComplete 1, .wake 1, .keepExitComplete 1, .deviceReset 1, .pwrEnFall, .pwrEnRise, .porstNAssert, .porstNRelease,
    .dictionaryReachable 1 false false, .bootComplete 1 ⟨[], []⟩ [], .housekeepingRound [] [] [], .undervoltage 1, .vaonLow, .extest 1 1, .idcode,
    .samplePreload 1 1, .clamp, .highz, .jtagReset, .bypass, .prbsReceive 1 [],
    .signalReturn 1] : List Instr).all Instr.wf = true := by decide +kernel
/-- For every check of Instr.wf, a command that only it refuses. -/
theorem test_out_of_range_0 : ([
    .commit 1 (2 ^ 64), .enableWrite 1 0x1000, .disableWrite 1 0x1000, .enablingComplete 0x1000, .disablingComplete 0x1000, .laneLock 128,
    .laneLockTimeout 128, .clockRecoveryLoss 128, .sheafFrameRx 128 1 1 0, .sheafFrameRx 1 (2 ^ 8192) 1 0, .itemRx 128 ⟨0, [], 0⟩, .qlRx 128 1,
    .qlRx 1 16, .creditRx 128 1 1, .creditRx 1 4096 1, .laneMapRx 128 1 1, .laneAckRx 128 1 1, .groupOn 0x243F, .groupOn 0x2470, .rxLaneFail 128,
    .laneMapRetry 32, .txLaneFail 64, .itemTx 64, .windowStart 4, .loftStepFill 4, .cribFreeze 8, .pinsTakeEffect 64, .siloRelease 1 64,
    .siloReleaseComplete 64, .corr4 4, .corr8 4, .beam4 4, .beam8 4, .xreg 4, .zero 4, .dump 4, .cutFence 4, .fencePass 4, .cutEnd 4, .cutWaitStep 4,
    .cutJump 4, .cutIfStep 4, .cutLoop 4, .cutEndloop 4, .cutWaitEvt 4, .cutEvent 4, .jigRestart 1 4, .workOrderStart 272 [], .classUYield 272,
    .passOverflow 272, .passComplete 272, .foldComplete 272 [], .spillComplete 272 [], .workOrderComplete 4, .recordFragmentsSend 256,
    .residueMismatch 272, .tileFail 272 1, .tileFail 1 0, .tileFail 1 8,
    .reseatComplete 4] : List Instr).all (fun i => !i.wf) = true := by decide +kernel
theorem test_out_of_range_1 : ([
    .retest 1 272, .retestComplete 272 false, .weightLoad 256, .formatRecord 256, .scalerGroupSend 8, .statsRecordFormed 16, .frameHold 1 (some 64),
    .frameSlotRelease 1 64, .clearCorr 1 16, .slotANop 16, .cmul 16, .cmulj 16, .cmac 16, .cmacj 16, .cmsu 16, .cmag 16, .cbfly 16, .aclr 16,
    .mva 16, .mva2 16, .cadd 16, .csub 16, .cconj 16, .bexd 16, .bexs 16, .addD 16, .subD 16, .andD 16, .orD 16, .xorD 16, .shl 16, .asr 16, .lsr 16,
    .addi 16, .movi 16, .movhi 16, .cmpD 16, .mulD 16, .divD 16, .movc 16, .movcw 16, .movar 16, .movra 16, .br 16, .call 16, .ret 16, .rti 16,
    .rep 16, .repd 16, .eidi 16, .waite 16, .sige 16, .trapD 16, .haltD 16, .slotBNop 16, .ld 16 [], .ldo 16 [], .st 16, .sto 16,
    .ld2 16 []] : List Instr).all (fun i => !i.wf) = true := by decide +kernel
theorem test_out_of_range_2 : ([
    .st2 16, .ldst 16 [], .fld 16, .fst 16, .amod 16, .ldai 16, .farResponse 16, .farTimeout 16, .trapEntry 16 1 1, .interruptEntry 16 1,
    .imageApply 16, .imageLoadComplete 16, .debugHaltCmd 1 16, .debugResume 1 16, .debugStep 1 16, .breakpointHit 16, .dramRead 1 4 1,
    .dramRead 1 1 3, .scrubRead 24 1, .scrubRead 1 3, .refreshDue 24 1 false, .refreshDue 1 2 false, .mr4Read 24 [] false, .channelLost 24 1,
    .channelLost 1 0, .channelLost 1 6, .declareLost 1 24, .rebuild 1 24, .rebuildComplete 24, .applyDelays 1 24, .recalibrate 1 24,
    .recalWindow 24 false 1 [], .fabricRequest 1000 ⟨0, 0, false, [], 0, false, 0, 0⟩, .pageWalkComplete 16, .lockBroken 1000, .invWindow 1 256,
    .pageInvWindow 1000 1, .pageInvAll 1000, .dmaStart (.fdp 1) 64, .dmaStart (.page 1000 false) 1, .descriptorFetch 64, .descriptorComplete 64,
    .dmaBeatFault 64, .dmaAbort (.fdp 1) 64, .dmaAbort (.page 1000 false) 1, .abortComplete 64, .dmaResume (.fdp 1) 64,
    .dmaResume (.page 1000 false) 1, .dmaResumeNext (.fdp 1) 64, .dmaResumeNext (.page 1000 false) 1, .qlFrameRx 2 1 false, .qlTimeout 4,
    .signalLoss 5, .wtrExpiry 5, .adjust 1 8 0, .adjust 1 1 (-(2 ^ 63) - 1), .adjust 1 1 (2 ^ 63), .tbStep 1 8, .tbSet 0 false 8,
    .tbSet 1000 false 1] : List Instr).all (fun i => !i.wf) = true := by decide +kernel
theorem test_out_of_range_3 : ([
    .toutTimeReached 8, .toutEvent 8, .toutPulseEnd 8, .tinCapture 8 false 1, .ptpEventRx 2 ⟨0, 0, 0, 0, 0, 0, 1⟩,
    .ptpEventRx 1 ⟨16, 0, 0, 0, 0, 0, 1⟩, .ptpEventRx 1 ⟨0, 0, 0, 0, 0, 0, 0⟩, .ptpEventRx 1 ⟨0, 0, 0, 0, 0, 0, 10⟩,
    .ptpEventRx 1 ⟨0, 0, 0, 0, 256, 0, 1⟩, .ptpEventRx 1 ⟨0, 0, 0, 0, 0, (2 ^ 64), 1⟩, .ptpMessageTx 2 1, .ptpMessageTx 1 16,
    .encoderEdge 4 false false 1, .hallState 4 1 1, .hallState 1 8 1, .ssiFrame 4 1 false, .indexEdge 4 1, .axisPreset 1 4, .observerUpdate 4,
    .standstill 4, .comparePlace 1 4, .markerEntryArrive 4, .compareClear 1 4, .cmpoutPulseEnd 4, .ltrigPulse 16, .fdpFrameRx ⟨2, 0, 0⟩ [],
    .fdpOpen ⟨2, 0, 0⟩ ⟨0, 0, 0, [], [], []⟩, .keyInit ⟨2, 0, 0⟩ ⟨0, 0, 0, [], [], []⟩, .fdpRequest ⟨2, 0, 0⟩ ⟨0, 0, 0, [], [], []⟩,
    .notifyAck ⟨2, 0, 0⟩ ⟨0, 0, 0, [], [], []⟩, .closeFrame ⟨2, 0, 0⟩ ⟨0, 0, 0, [], [], []⟩, .domBegin 1 1 1 (2 ^ 32), .domSeg 1 1 1 (2 ^ 32) [],
    .domEnd 1 1 1 (2 ^ 32), .domRead 1 1 1 (2 ^ 32) 1, .domRead 1 1 1 1 (2 ^ 16), .transferAbandoned 0, .transferAbandoned 9, .sessionIdleTimeout 0,
    .sessionIdleTimeout 9, .sessionClose 1 0, .sessionClose 1 9, .notifySend 0, .notifySend 9, .notifyResend 0 1, .notifyResend 9 1, .keySet 1 4 [],
    .arpRequest 2 1 1, .icmpEcho 2 1 1 [], .portLinkChange 2 1, .consumerTake 0x428, .relayEmit 32, .softEvent (.fdp 1) 256,
    .softEvent (.page 1000 false) 1, .softEvent (.page 0 false) (2 ^ 64), .channelAttr 0 false 256 1, .channelAttr 1000 false 1 1, .alertDelivery 4,
    .alertPulseEnd 4, .alertRelease 1 4] : List Instr).all (fun i => !i.wf) = true := by decide +kernel
theorem test_out_of_range_4 : ([
    .snapshotTime 8, .snapshotEvent 8, .snapNow 1 8, .counterClear (.fdp 1) 64, .counterClear (.page 1000 false) 1, .ovfClear 1 64, .counterWrap 64,
    .undervoltage 13, .undervoltage 4, .prbsReceive 128 [], .signalReturn 2] : List Instr).all (fun i => !i.wf) = true := by decide +kernel
end Whole

namespace Dictionary
/-! ### The dictionary service -/
theorem witness_staged : (match user.writeGate 1 0x27FF 1 with | .ok r => decide (r.acc = .rws) && decide (r.ty = .u8) | _ => false) = true ∧ user.entryCheck user.aheadStaged 1 0x27FF 1 255 = 0 ∧
    user.storeFull (key 0x27FF 1) (.num 255) = false ∧
    runs (.dictWrite 1 0x27FF 1 [255]) user (fun t => t.dict.pendingSet = [(key 0x27FF 1, ⟨.num 255, 1⟩)] && t.reg 0x27FF 1 = user.reg 0x27FF 1 &&
      t.dict.results = [⟨2, 0, 0x27FF, 1, 0, []⟩]) = true := by decide +kernel
theorem witness_running : (match (sets user [(0x1011, 2, 2)]).writeGate 1 0x1011 3 with | .ok r => decide (r.acc = .rwx) | _ => false) = true ∧ (sets user [(0x1011, 2, 2)]).ownerOff 0x1011 3 = false ∧
    runs (.dictWrite 1 0x1011 3 [1]) (sets user [(0x1011, 2, 2)]) (fun t => t.dict.results = [⟨2, 6, 0x1011, 3, 2, []⟩]) = true := by decide +kernel
/-- Session 2 has staged one value. -/
def staged : State := { user with dict := { user.dict with pendingSet := [(key 0x27FF 1, ⟨.num 3, 2⟩)] } }
theorem witness_conflict : lookup staged.dict.pendingSet (key 0x27FF 1) = some ⟨.num 3, 2⟩ ∧ staged.storeFull (key 0x27FF 1) (.num 4) = false ∧ keptElsewhere (key 0x27FF 1) = false ∧
    runs (.dictWrite 1 0x27FF 1 [4]) staged (fun t => t.reg 0x1100 7 = 1 && lookup t.dict.pendingSet (key 0x27FF 1) = some ⟨.num 4, 1⟩) = true ∧
    runs (.dictWrite 2 0x27FF 1 [4]) staged (fun t => t.reg 0x1100 7 = 0) = true := by decide +kernel
/-- The set of `staged` is armed. -/
def armed (c : Nat) : State := { timed with dict := { timed.dict with armed := some (c, staged.dict.pendingSet) } }
theorem witness_commit : mayCmd staged 1 0x1101 1 = true ∧ staged.dict.armed = none ∧ staged.scAfter 500000 ≤ staged.scAfter 500000 ∧ staged.scAfter 500000 ≤ staged.scAfter 30000000000 ∧
    runs (.commit 1 (staged.scAfter 500000)) staged (fun t => t.dict.armed = some (staged.scAfter 500000, staged.dict.pendingSet) && t.dict.pendingSet = [] && t.reg 0x1101 4 = 1) = true ∧
    runs (.commit 1 (staged.scAfter 30000000000)) staged (fun t => t.dict.armed ≠ none) = true ∧
    0 < staged.scAfter 500000 ∧ runs (.commit 1 (staged.scAfter 500000 - 1)) staged (fun t => t.dict.armed = none && t.dict.pendingSet = staged.dict.pendingSet && t.dict.results = [⟨2, 6, 0x1101, 1, 4, []⟩] && t.reg 0x1101 5 = 1) = true ∧
    runs (.commit 1 (staged.scAfter 30000000000 + 1)) staged (fun t => t.dict.armed = none && t.reg 0x1101 5 = 1) = true ∧
    mayCmd (armed 9) 1 0x1101 1 = true ∧ runs (.commit 1 5) (armed 9) (fun t => t.dict.results = [⟨2, 6, 0x1101, 1, 5, []⟩]) = true ∧
    may staged 1 0x1101 2 = true ∧ runs (.discard 1) staged (fun t => t.dict.pendingSet = []) = true ∧
    may (armed (staged.scAfter 500000)) 1 0x1101 3 = true ∧ runs (.disarm 1) (armed (staged.scAfter 500000)) (fun t => t.dict.armed = none) = true := by decide +kernel
def armedUnit : State := { timed with time := { timed.time with sc := 9 }, dict := { timed.dict with armed := some (9, [(key 0x28FF 1, ⟨.num 77, 1⟩)]) } }
theorem witness_epoch : armedUnit.time.running = true ∧ key 0x28FF 1 / 65536 ∉ [0x10, 0x27, 0x30, 0x38, 0x40, 0x51, 0x5C, 0x11] ∧
    (armedUnit.atBoundary.recheck [(key 0x28FF 1, ⟨.num 77, 1⟩)] (key 0x28FF 1) (.num 77)).1 = 0 ∧
    runs .epochBoundary armedUnit (fun t => t.reg 0x28FF 1 = 77 && t.reg 0x1100 1 = 1 && t.reg 0x1100 2 = 9 && t.dict.armed = none && t.time.sc = armedUnit.time.sc) = true ∧ 9 ≤ armedUnit.sc ∧
    (armed 2000000).sc < 2000000 ∧ runs .epochBoundary (armed 2000000) (fun t => t.dict.armed ≠ none && t.reg 0x1100 1 = 0) = true := by decide +kernel
/-- Transmit group 15 with status `st`. -/
def grp (st : Nat) : State := sets user [(0x246F, 2, st), (0x246F, 1, 1)]
theorem witness_enable : may user 1 0x246F 1 = true ∧ unitKind 0x246F = some .group ∧ user.entryCheck user.aheadLive 1 0x246F 1 1 = 0 ∧ user.keeping = false ∧ user.status 0x246F = 0 ∧
    enableCheck user .group 0x246F = 0 ∧ runs (.enableWrite 1 0x246F) user (fun t => t.status 0x246F = 1 && t.reg 0x246F 1 = 1) = true ∧
    enableCheck (grp 3) .group 0x246F = 0 ∧ (grp 3).entryCheck (grp 3).aheadLive 1 0x246F 1 1 = 0 ∧ runs (.enableWrite 1 0x246F) (grp 3) (fun t => t.status 0x246F = 4) = true ∧
    (grp 2).entryCheck (grp 2).aheadLive 1 0x246F 1 0 = 0 ∧ runs (.disableWrite 1 0x246F) (grp 2) (fun t => t.status 0x246F = 3 && t.reg 0x246F 1 = 0) = true ∧
    runs (.disableWrite 1 0x246F) (grp 4) (fun t => t.status 0x246F = 3) = true ∧ runs (.enablingComplete 0x246F) (grp 1) (fun t => t.status 0x246F = 2) = true ∧
    (grp 3).drained .group 0x246F = true ∧ (grp 3).reg 0x2000 1 ≠ 3 ∧ runs (.disablingComplete 0x246F) (grp 3) (fun t => t.status 0x246F = 0) = true := by decide +kernel
def badGroup : State := sets user [(0x246F, 3, 63), (0x246F, 4, 16)]
theorem witness_enable_refused : may badGroup 1 0x246F 1 = true ∧ enableCheck badGroup .group 0x246F ≠ 0 ∧ badGroup.entryCheck badGroup.aheadLive 1 0x246F 1 1 = 0 ∧
    runs (.enableWrite 1 0x246F) badGroup (fun t => t.status 0x246F = 0 && t.dict.results = [⟨2, 6, 0x246F, 1, enableCheck badGroup .group 0x246F, []⟩]) = true := by decide +kernel
/-- Port 1 is up, the dictionary is served, and session 2 belongs to a controller there. -/
def peer : Peer := ⟨1, 0x0A000001, 4000⟩
def net : State := let s := sets user [(0x1011, 2, 2), (0x1011, 4, 3), (0x1011, 6, 0x0A000002), (0x1031, 5, 1), (0x1031, 3, 0x0A000001), (0x1031, 4, 4000), (0x1031, 6, 100)]
  { s with power := { s.power with dictUp := true } }
def netSess (f : Session → Session) : State := { net with dict := { net.dict with sessions := modNth f net.dict.sessions 1 } }
/-- A frame of session 2 tagged with its key (empty). -/
def frame (seq : Nat) (body : Bytes) : FdpFrame := ⟨2, 0, seq, body, body, hmac [] body⟩
theorem witness_close : net.sessionOpen 2 = true ∧ net.dict.serving = none ∧ net.portSends (net.reg 0x1031 5) = true ∧ may net 1 0x1030 11 = true ∧ may net 2 0x1030 11 = true ∧ net.role 2 = 2 ∧
    runs (.sessionIdleTimeout 2) net (fun t => !t.sessionOpen 2 && t.outbox.length = 1) = true ∧ runs (.sessionClose 2 1) net (fun t => !t.sessionOpen 1) = true ∧
    runs (.sessionClose 1 1) net (fun t => !t.sessionOpen 1) = true ∧ net.fdpReady = true ∧ net.portUp 1 = true ∧ net.seqNew 2 101 = true := by decide +kernel
theorem witness_close_tag : hmac (net.session 2).key (frame 101 []).covered = (frame 101 []).tag := rfl
def noted (n : Nat) : State := netSess (fun x => { x with queue := List.replicate 45 [1], lost := n, sent := [⟨7, [], 2⟩, ⟨8, [], 3⟩] })
theorem witness_notify : ((noted 0).session 2).queue ≠ [] ∧
    runs (.notifySend 2) (noted 0) (fun t => (t.session 2).queue.length = 1 && t.reg 0x1031 7 = 1 && t.outbox.length = 1 && (t.session 2).sent.length = 3) = true ∧
    runs (.notifySend 2) (noted 5) (fun t => (t.session 2).queue.length = 2 && (t.session 2).lost = 0) = true ∧
    runs (.notifyResend 2 7) (noted 0) (fun t => t.outbox.length = 1) = true ∧ runs (.notifyResend 2 8) (noted 0) (fun t => t.outbox = [] && (t.session 2).sent = [⟨7, [], 2⟩]) = true := by decide +kernel
theorem witness_keys : may user 2 0x1040 4 = true ∧ runs (.keySet 2 3 (List.replicate 32 5)) user (fun t => nthD none t.nv.keys 3 = some (List.replicate 32 5)) = true ∧
    runs (.keySet 2 0 (zeroBytes 32)) user (fun t => nthD none t.nv.keys 0 = none) = true ∧ may user 1 0x1050 2 = true ∧ user.reg 0x1050 1 = 0 ∧
    runs (.debugEnter 1) user (fun t => t.reg 0x1050 1 = 1 && t.reg 0x1050 3 = 1) = true ∧ may (sets user [(0x1050, 1, 1), (0x1050, 3, 1)]) 1 0x1050 2 = true ∧
    runs (.debugLeave 1) (sets user [(0x1050, 1, 1), (0x1050, 3, 1)]) (fun t => t.reg 0x1050 1 = 0 && t.reg 0x1050 3 = 0) = true ∧
    runs (.transferAbandoned 2) (netSess (fun x => { x with transfer := some ⟨1, 2, [], false⟩ })) (fun t => (t.session 2).transfer = none) = true := by decide +kernel
end Dictionary

namespace Protocol
/-- Port 1 is up, the dictionary is served, and session 2 belongs to a controller there. -/
def peer : Peer := ⟨1, 0x0A000001, 4000⟩
def net : State := let s := sets user [(0x1011, 2, 2), (0x1011, 4, 3), (0x1011, 6, 0x0A000002), (0x1031, 5, 1), (0x1031, 3, 0x0A000001), (0x1031, 4, 4000), (0x1031, 6, 100)]
  { s with power := { s.power with dictUp := true } }
def netSess (f : Session → Session) : State := { net with dict := { net.dict with sessions := modNth f net.dict.sessions 1 } }
/-- A frame of session 2 tagged with its key (empty). -/
def frame (seq : Nat) (body : Bytes) : FdpFrame := ⟨2, 0, seq, body, body, hmac [] body⟩
/-! ### FDP -/
theorem witness_read : ∃ r, net.gate 2 0x2000 1 = .ok r ∧ r.acc ≠ .cmd ∧ net.readBlocked 0x2000 1 = false ∧ r.ty.size = 1 ∧
    runs (.fdpRead 2 0x2000 1) net (fun t => t.dict.results = [⟨1, 0, 0x2000, 1, 0, [2]⟩]) = true ∧
    runs (.fdpDescribe 2 0x2000 1) net (fun t => t.dict.results = [⟨3, 0, 0x2000, 1, 0, r.describe⟩]) = true := ⟨_, rfl, by decide +kernel⟩
theorem witness_read_cmd : ∃ r, net.gate 2 0x2000 4 = .ok r ∧ r.acc = .cmd ∧ runs (.fdpRead 2 0x2000 4) net (fun t => t.dict.results = [⟨1, 4, 0x2000, 4, 0, []⟩]) = true := ⟨_, rfl, by decide +kernel⟩
def domed : State := { net with doms := [(key 0x407F 2, ⟨[1, 2, 3], 9⟩)] }
theorem witness_read_domain : ∃ r, domed.gate 2 0x407F 2 = .ok r ∧ r.ty = .domain 4096 ∧ domed.readBlocked 0x407F 2 = false ∧
    runs (.fdpRead 2 0x407F 2) domed (fun t => t.dict.results = [⟨1, 0, 0x407F, 2, 0, [0, 0, 0, 3, 0, 0, 0, 9]⟩]) = true ∧
    runs (.domRead 2 0x407F 2 1 1400) domed (fun t => t.dict.results = [⟨7, 0, 0x407F, 2, 0, [0, 0, 0, 9, 0, 0, 0, 0, 2, 3]⟩]) = true := ⟨_, rfl, by decide +kernel⟩
theorem witness_write : ∃ r, net.writeGate 2 0x407F 2 = .ok r ∧ r.domainMax ≠ none ∧ net.barred r 0x407F 2 = 0 ∧
    runs (.fdpWrite 2 0x407F 2 (List.replicate 1401 0)) net (fun t => t.dict.results = [⟨2, 10, 0x407F, 2, 6, []⟩]) = true := ⟨_, rfl, by decide +kernel⟩
theorem witness_write_staged : ∃ r, net.writeGate 2 0x4480 5 = .ok r ∧ r.acc = .rws ∧ r.domainMax = none ∧ r.ty = .enum8 ∧ r.inRange 1 = true ∧
    net.entryCheck net.aheadStaged 2 0x4480 5 1 = 0 ∧ net.storeFull (key 0x4480 5) (.num 1) = false ∧
    runs (.fdpWrite 2 0x4480 5 [1]) net (fun t => t.dict.pendingSet = [(key 0x4480 5, ⟨.num 1, 2⟩)] && t.dict.results = [⟨2, 0, 0x4480, 5, 0, []⟩]) = true := ⟨_, rfl, by decide +kernel⟩
/-- Session 2 has a transfer of three bytes open with some of them there. -/
def part (d : Bytes) : State := netSess (fun x => { x with transfer := some ⟨key 0x407F 2, 3, d, false⟩ })
theorem witness_transfers : 2 - 1 < net.dict.sessions.length ∧
    runs (.domBegin 2 0x407F 2 4096) net (fun t => (t.session 2).transfer = some ⟨key 0x407F 2, 4096, [], false⟩) = true ∧
    runs (.domSeg 2 0x407F 2 1 [8, 9]) (part [7]) (fun t => (t.session 2).transfer = some ⟨key 0x407F 2, 3, [7, 8, 9], false⟩) = true ∧
    runs (.domEnd 2 0x407F 2 0) (part [7, 8, 9]) (fun t => (t.session 2).transfer = some ⟨key 0x407F 2, 3, [7, 8, 9], true⟩) = true ∧ crc32c [7, 8, 9] ≠ 0 ∧
    runs (.domEnd 2 0x407F 2 (crc32c [7, 8, 9])) (part [7, 8, 9]) (fun t => (t.session 2).transfer = none) = true ∧
    runs (.domCancel 2 0x407F 2) (part [7]) (fun t => (t.session 2).transfer = none) = true := by decide +kernel
/-- An OPEN of the Observer role under the empty key, and one part whose keys are set. -/
def keyed : State := { net with nv := { net.nv with keys := [some [], none, some [1], none] } }
def openFrame : FdpFrame := ⟨0, 0, 0, zeroBytes 24, [], hmac [] []⟩
theorem witness_open : keyed.fdpReady = true ∧ openFrame.body.length = 24 ∧ (slice openFrame.body 1 7).all (fun b => b = 0) = true ∧ field openFrame.body 0 1 = 0 ∧
    keyed.roleKey 0 = some [] ∧ keyed.freeId = some 3 ∧ keyed.dict.sessions.length = 8 ∧ keyed.power.recovery = false ∧ net.roleKey 2 = none ∧ keyed.roleKey 2 ≠ none ∧ 2 < net.nv.keys.length ∧
    (zeroBytes 32).length = 32 ∧ runs (.keyInit peer ⟨0, 0, 0, zeroBytes 32, [], []⟩) keyed (fun t => t.nv = keyed.nv && t.reg 0x1038 7 = 1) = true := by decide +kernel
theorem witness_open_tag : hmac [] openFrame.covered = openFrame.tag := rfl
/-- One READ of 2000h.01. -/
def ask (seq : Nat) : FdpFrame := frame seq [1, 0, 0x20, 0, 1, 0, 0, 0]
theorem witness_request : parseOps 256 (ask 101).body = some [⟨1, 0x2000, 1, false, []⟩] ∧ net.sessionOpen 2 = true ∧
    (net.session 2).stored = [] ∧ net.seqNew 2 101 = true ∧ net.seqNew 2 35 = false ∧ bitAt (ask 101).flags 0 = false ∧ net.dict.serving = none ∧ net.readBlocked 0x2000 1 = false ∧
    net.reg 0x1031 5 = peer.port ∧ net.reg 0x1031 3 = peer.ip ∧ net.reg 0x1031 4 = peer.udp := by decide +kernel
theorem witness_request_entry : ∃ r, net.gate 2 0x2000 1 = .ok r ∧ r.acc = .ro ∧ r.ty = .enum8 := ⟨_, rfl, rfl, rfl⟩
theorem witness_request_stored (tag : Bytes) :
    ((netSess (fun x => { x with stored := [⟨101, tag, []⟩] })).session 2).stored.find? (fun r => r.seq = 101 && r.tag = tag) = some ⟨101, tag, []⟩ := by
  show ([⟨101, tag, []⟩] : List StoredResponse).find? (fun r => r.seq = 101 && r.tag = tag) = some ⟨101, tag, []⟩
  simp
/-- A frame of kind `k` with an empty body. -/
def datagram (k : Byte) : Bytes := [0x46, 0x44, 1, k, 0, 2, 0, 0] ++ zeroBytes 48
theorem witness_datagrams : net.avail.rxQueue = [] ∧ net.avail.rxPtr < 2 ∧ parseFrame [] = none ∧ runs (.fdpFrameRx peer []) net (fun t => t.reg 0x1038 7 = 1 && t.reg 0x1011 0x0A = 1) = true ∧
    [1, 3, 6, 7, 9].all (fun k => (match parseFrame (datagram k) with | some (x, f) => decide (x = k.toNat) && decide (f.session = 2) && decide (f.body = []) | none => false)) = true := by decide +kernel
theorem witness_ports : runs (.arpRequest 1 5 0x0A000002) net (fun t => t.outbox = [.arp 1 5]) = true ∧ runs (.icmpEcho 1 5 0x0A000002 [1]) net (fun t => t.outbox = [.icmp 1 5 [1]]) = true ∧
    runs (.arpRequest 1 5 0) net (fun t => t.outbox = [] && t.reg 0x1011 0x0C = 1) = true ∧ runs (.icmpEcho 1 5 0 []) net (fun t => t.outbox = [] && t.reg 0x1011 0x0C = 1) = true ∧
    linkAllowed (net.reg 0x1011 3) 2 = true ∧ runs (.portLinkChange 1 2) net (fun t => t.reg 0x1011 4 = 2) = true := by decide +kernel
end Protocol

namespace Sheaf
/-- Receive group 31 has lanes 126 and 127, the latter its spare, and transmit group 15 lanes 62 and 63; each has a return lane in the other. Status of both, and the lane states. -/
def link (st ln : Nat) : State := sets timed [(0x245F, 2, st), (0x245F, 3, 126), (0x245F, 4, 1), (0x245F, 5, 1), (0x245F, 6, 62), (0x245F, 8, 1), (0x245F, 9, 255),
  (0x246F, 2, st), (0x246F, 3, 62), (0x246F, 4, 1), (0x246F, 5, 1), (0x246F, 6, 127), (0x246F, 8, 1), (0x246F, 9, 255), (0x257E, 1, ln), (0x257F, 1, ln), (0x263E, 1, 1), (0x263F, 1, 1)]
/-! ### Sheaf -/
theorem witness_lanes : (link 1 1).rxState 127 = lnAcquire ∧ runs (.laneLock 127) (link 1 1) (fun t => t.rxState 127 = lnSearch) = true ∧
    runs (.laneLockTimeout 127) (link 1 1) (fun t => t.reg 0x257F 2 = 1 && t.rxState 127 = lnAcquire) = true ∧ (link 2 3).groupOf false 127 = some 0x245F ∧
    runs (.clockRecoveryLoss 127) (link 2 3) (fun t => t.rxState 127 = lnFailed) = true ∧ runs (.clockRecoveryLoss 127) (link 1 2) (fun t => t.rxState 127 = lnAcquire) = true := by decide +kernel
def line : Nat := syncWord * 2 ^ 8128
def hunt (st ln h m : Nat) : State := (link st ln).modRx 127 (fun x => { x with hits := h, misses := m })
theorem witness_frames : line < 2 ^ 8192 ∧ line >>> 8128 = syncWord ∧ 3 < popCount 64 ((0 >>> 8128) ^^^ syncWord) := by decide +kernel
theorem witness_search : runs (.sheafFrameRx 127 line 256 0) (hunt 1 2 3 0) (fun t => t.rxState 127 = lnSearch && (t.rxLane 127).hits = 4) = true ∧
    runs (.sheafFrameRx 127 0 256 0) (hunt 1 2 3 0) (fun t => t.rxState 127 = lnSearch && (t.rxLane 127).hits = 0) = true ∧
    (hunt 1 2 4 0).reg 0x6012 4 ≠ 127 ∧ (hunt 1 2 4 0).reg 0x6013 4 ≠ 127 ∧
    runs (.sheafFrameRx 127 line 256 0) (hunt 1 2 4 0) (fun t => t.rxState 127 = lnLocked && t.reg 0x257F 7 = 256) = true := by decide +kernel
theorem witness_losses : runs (.sheafFrameRx 127 0 0 0) (hunt 2 3 0 3) (fun t => t.rxState 127 = lnFailed && t.reg 0x257F 2 = 1) = true ∧
    runs (.sheafFrameRx 127 0 0 0) (hunt 1 3 0 3) (fun t => t.rxState 127 = lnSearch && t.reg 0x257F 2 = 1) = true := by decide +kernel
/-- Items of a type and stream with one payload word. -/
def item (type stream : Nat) : Item := mkItem type 2 stream 5 6 [7]
/-- Sample stream 127 and camera stream 15 are configured. -/
def configured : State := sets (link 2 3) [(0x2800, 7, 2 ^ 127), (0x2800, 2, 2), (0x4000, 2, 2), (0x4010, 2, 2)]
def hdr (type len stream : Nat) : Item := ⟨mkHeader type 2 len stream 0 0, [7], 0⟩
theorem witness_items : configured.deliversFor 127 = some 0x245F ∧ crc8 56 ((item 1 127).header / 256 + 1) 0 ≠ (item 1 127).header % 256 ∧
    runs (.itemRx 127 { item 1 127 with header := (item 1 127).header + 256 }) configured (fun t => t.reg 0x257F 3 = 1 && t.sheaf.samples = []) = true ∧
    lenOk 1 1025 = false ∧ runs (.itemRx 127 (hdr 1 1025 127)) configured (fun t => t.reg 0x2401 4 = 1 && t.sheaf.samples = []) = true ∧
    headerFault (hdr 5 1 127).header = none ∧ runs (.itemRx 127 (hdr 5 1 127)) configured (fun t => t.reg 0x2401 2 = 1) = true ∧
    headerFault (hdr 1 2 127).header = none ∧ runs (.itemRx 127 (hdr 1 2 127)) configured (fun t => t.reg 0x257F 4 = 1 && t.sheaf.samples = []) = true := by decide +kernel
theorem witness_packets : headerFault (mkItem 1 2 127 5 6 [7, 8]).header = none ∧ configured.streamConfigured 1 127 = true ∧
    runs (.itemRx 127 (mkItem 1 2 127 5 6 [7, 8])) configured (fun t => t.sheaf.samples = [⟨31, 127, 127, 5, 6, [7, 8]⟩]) = true ∧
    configured.streamConfigured 2 4095 = false ∧ headerFault (mkItem 2 2 4095 5 6 [7, 8, 9]).header = none ∧
    runs (.itemRx 127 (mkItem 2 2 4095 5 6 [7, 8, 9])) configured (fun t => t.reg 0x2401 1 = 1 && t.sheaf.pixels = []) = true := by decide +kernel
def ports : State := sets (link 2 3) [(0x6012, 4, 127), (0x27FF, 1, 15)]
theorem witness_words_in : runs (.qlRx 127 15) ports (fun t => (t.cand 2).lastQl = some 15) = true ∧ stays (.qlRx 126 0) ports = true ∧
    runs (.creditRx 127 255 (2 ^ 32 + 9)) ports (fun t => (t.stream 255).limit = 9 && t.reg 0x27FF 4 = 9) = true ∧
    runs (.creditRx 126 255 9) ports (fun t => t.reg 0x2401 2 = 1) = true ∧ runs (.creditRx 127 256 9) ports (fun t => t.reg 0x2401 2 = 1) = true ∧
    (ports.liveGroups true).find? (fun g => ports.groupUp g && ports.reg g 6 = 127) = some 0x246F ∧
    runs (.laneMapRx 127 7 2) ports (fun t => t.reg 0x246F 8 = 2 && t.reg 0x246F 9 = 7 && t.reg 0x246F 0x0A = 1 && t.reg 0x246F 7 = 2 && (t.txLane 63).control = [mapWord 5 7 62 2]) = true ∧
    runs (.laneMapRx 127 255 2) ports (fun t => t.reg 0x246F 8 = 1 && t.reg 0x246F 0x0A = 0) = true ∧
    runs (.laneMapRx 126 7 2) ports (fun t => t.reg 0x2401 2 = 1) = true := by decide +kernel
/-- A LANE_MAP of receive group 31 has been sent `n` times. -/
def mapped (n : Nat) : State := (link 2 3).setGroup 0x245F ⟨some ⟨0, 2, n, 0, [126]⟩, [], 0, []⟩
theorem witness_acks : ((mapped 1).liveGroups false).find? (fun g => (mapped 1).inGroup g 127 &&
      (match ((mapped 1).group g).sent with | some x => x.gen = 0 && x.map = 2 % 2 ^ 17 | none => false)) = some 0x245F ∧
    runs (.laneAckRx 127 0 2) (mapped 1) (fun t => t.reg 0x245F 8 = 2 && t.reg 0x245F 9 = 0 && t.reg 0x245F 7 = 2 && (t.group 0x245F).sent = none) = true ∧
    runs (.laneAckRx 127 0 2) (link 2 3) (fun t => t.reg 0x2401 2 = 1) = true ∧
    runs (.laneMapRetry 31) (mapped 3) (fun t => (t.group 0x245F).sent = some ⟨0, 2, 4, 0, [126]⟩ && (t.txLane 62).control = [mapWord 4 0 126 2]) = true ∧
    runs (.laneMapRetry 31) (mapped 4) (fun t => t.reg 0x245F 8 = 2 && t.reg 0x245F 9 = 0 && t.reg 0x245F 7 = 3) = true ∧
    ((((link 2 3).liveGroups true).filter (link 2 3).groupUp).filter (fun g => (link 2 3).inGroup g 63)).length ≤ 1 ∧ (link 2 3).controlOk 63 = true ∧
    runs .qlSend (link 2 3) (fun t => (t.txLane 63).control = [ctrlWord 1 ((link 2 3).reg 0x6000 8 * 2 ^ 52)] && (t.txLane 0).control = []) = true := by decide +kernel
theorem witness_groups : runs (.groupOn 0x246F) (link 1 1) (fun t => t.reg 0x246F 2 = 2 && t.reg 0x246F 8 = 1 && t.reg 0x246F 9 = 0 && t.reg 0x246F 7 = 2) = true ∧
    runs (.groupOn 0x245F) (link 1 3) (fun t => t.reg 0x245F 2 = 2 && t.reg 0x245F 8 = 1 && t.reg 0x245F 7 = 2) = true ∧
    runs (.groupOn 0x245F) (link 1 2) (fun t => t.reg 0x245F 7 = 3) = true ∧
    (sets (link 2 3) [(0x2400, 3, 1)]).flag 0x2400 3 = true ∧
    runs (.rxLaneFail 126) (sets (link 2 3) [(0x2400, 3, 1)]) (fun t => t.rxState 126 = 4 && (t.group 0x245F).sent = some ⟨0, 2, 1, 0, [126]⟩ && t.reg 0x245F 0x0A = 1) = true ∧
    runs (.rxLaneFail 127) (link 2 3) (fun t => t.rxState 127 = 4 && t.reg 0x245F 8 = 1 && t.reg 0x245F 0x0A = 0) = true ∧
    runs (.txLaneFail 62) (link 2 3) (fun t => t.reg 0x263E 1 = 4 && t.reg 0x246F 8 = 2 && t.reg 0x246F 9 = 0 && t.reg 0x246F 0x0A = 1 && (t.group 0x246F).sent = some ⟨0, 2, 1, 0, [62]⟩) = true := by decide +kernel
/-- Lane 62 has a control word queued, or stream 255 a packet. -/
def outItems (c : List Nat) (ps : List OutPacket) : State :=
  let s := (sets (link 2 3) [(0x27FF, 1, 15), (0x27FF, 2, 2), (0x27FF, 5, 2 ^ 15 - 1)]).setTx 62 { TxLane.reset with control := c }
  if ps = [] then s else s.setStream 255 { s.stream 255 with ready := ps }
/-- `outItems`, with stream 255's packet the last fragment of the record in slot 3, or the first of two. -/
def fragment (left : Nat) : State :=
  let s := (outItems [] [⟨4, [5]⟩]).setStream 255 { (outItems [] [⟨4, [5]⟩]).stream 255 with slot := some (3, left) }
  { s with xarray := { s.xarray with staged := [⟨3, 255, 2, 100⟩] } }
theorem witness_items_out : (link 2 3).groupOf true 62 = some 0x246F ∧ (link 2 3).groupUp 0x246F = true ∧ (link 2 3).reg 0x263E 1 ≠ lnFailed ∧ bitAt ((link 2 3).reg 0x246F 8) 0 = true ∧
    runs (.itemTx 62) (outItems [9] [⟨4, [5]⟩]) (fun t => t.outbox = [.item 62 (itemBytesOf (mkItem 4 3 0 0 0 [9]))] && (t.txLane 62).control = [] && t.reg 0x263E 2 = 1) = true ∧
    (outItems [] [⟨4, [5]⟩]).chooseStream 0x246F 62 = some 255 ∧ bitAt ((outItems [] []).reg 0x246F 8) 1 = false ∧
    runs (.itemTx 62) (outItems [] [⟨4, [5]⟩]) (fun t => t.outbox.length = 1 && t.reg 0x27FF 5 = 0 && (t.stream 255).sent = 1 && (t.stream 255).ready = [] && t.reg 0x263E 2 = 1) = true ∧
    (outItems [] []).chooseStream 0x246F 62 = none ∧ runs (.itemTx 62) (outItems [] []) (fun t => t.outbox = [] && t.reg 0x263E 2 = 0 && (t.txLane 62).len = 64) = true ∧
    runs (.itemTx 63) (outItems [] [⟨4, [5]⟩]) (fun t => t.outbox = [] && (t.txLane 63).len = 64) = true := by decide +kernel
theorem witness_fragments : (fragment 2).chooseStream 0x246F 62 = some 255 ∧ (fragment 1).chooseStream 0x246F 62 = some 255 ∧
    runs (.itemTx 62) (fragment 2) (fun t => (t.stream 255).slot = some (3, 1) && t.xarray.staged.length = 1 && t.reg 0x3600 3 = 1 && t.reg 0x3600 2 = 0) = true ∧
    runs (.itemTx 62) (fragment 1) (fun t => (t.stream 255).slot = none && t.xarray.staged = [] && t.reg 0x3600 3 = 1 && t.reg 0x3600 2 = 1) = true := by decide +kernel
theorem witness_link_tests : mayCmd user 1 0x2402 3 = true ∧ mayCmd user 1 0x2400 5 = true ∧
    runs (.prbsInject 1) (sets user [(0x2402, 2, 2 ^ 63 + 1)]) (fun t => (t.txLane 0).invert && (t.txLane 63).invert && !(t.txLane 1).invert && t.outbox = []) = true ∧
    runs (.sheafCounterClear 1) (sets user [(0x2401, 2, 5), (0x257F, 2, 7), (0x2700, 5, 3)]) (fun t => t.reg 0x2401 2 = 0 && t.reg 0x257F 2 = 0 && t.reg 0x2700 5 = 3) = true ∧
    runs (.prbsReceive 127 (List.replicate 31 true ++ [true, false])) (sets user [(0x257F, 1, 5)]) (fun t => t.reg 0x257F 8 = 1 && bitAt (t.reg 0x2402 4) 127) = true := by decide +kernel
end Sheaf

namespace Crib
/-! ### Crib -/
/-- The crib is ON: format 0, two channels, step 10, origin 100, block 127 enabled; SC is 1000. -/
def crib : State := let s := sets timed [(0x2800, 2, 2), (0x2800, 3, 0), (0x2800, 4, 2), (0x2800, 5, 10), (0x2800, 6, 100), (0x2800, 7, 2 ^ 127)]
  { s with time := { s.time with sc := 1000 } }
def pkt (stream ch sc n : Nat) : Packet := ⟨0, 0, stream, ch, 0, sc :: List.replicate n 0⟩
def got (p : Packet) (f : CribState → CribState) : State := { crib with sheaf := { crib.sheaf with samples := [p] }, crib := f crib.crib }
def w0 : Nat := spectrumWords 0
theorem witness_samples : crib.cribOn = true ∧ bitAt (crib.reg 0x2800 7) 127 = true ∧ packetSpectra 0 (1 + w0) = some 1 ∧ packetSpectra 0 (1 + w0 * 127) = some 127 ∧ packetSpectra 0 (1 + w0 * 128) = none ∧
    runs .samplePacketRx (got (pkt 128 0 100 w0) id) (fun t => t.reg 0x2401 1 = 1) = true ∧ runs .samplePacketRx (got (pkt 127 0 100 (w0 + 1)) id) (fun t => t.reg 0x2801 0x0B = 1) = true ∧
    runs .samplePacketRx (got (pkt 127 2 100 w0) id) (fun t => t.reg 0x2801 0x0B = 1) = true ∧ runs .samplePacketRx (got (pkt 127 0 101 w0) id) (fun t => t.reg 0x2801 0x0B = 1) = true ∧
    runs .samplePacketRx (got (pkt 127 0 1650 w0) id) (fun t => t.reg 0x2801 9 = 1) = true ∧
    runs .samplePacketRx (got (pkt 127 1 730 w0) (fun c => { c with sealedTo := 1 })) (fun t => t.reg 0x2801 8 = 1) = true ∧
    runs .samplePacketRx (got (pkt 127 1 740 w0) (fun c => { c with accepted := [acceptKey 64 1 127], sealedTo := 1 })) (fun t => t.reg 0x2801 0x0A = 1 && t.crib.accepted.length = 1) = true := by decide +kernel
theorem witness_sample_taken : runs .samplePacketRx (got (pkt 127 1 1640 w0) (fun c => { c with sealedTo := 1 })) (fun t => t.crib.accepted = [acceptKey 154 1 127] && t.crib.sealedTo = 1 && t.sheaf.samples = []) = true := by decide +kernel
/-- Bay 3's reader starts at spectrum 64 with windows of 64; its set has channel 1 or channel 2, which is not there. -/
def reader (sealed ch : Nat) (w : Option ReadWindow) : State := let s := sets crib [(0x2813, 2, 64), (0x2813, 1, 2 ^ ch), (0x2813, 3, 0), (0x2800, 7, 0)]
  { s with crib := { s.crib with sealedTo := sealed, bays := modNth (fun _ => ⟨64, w⟩) s.crib.bays 3 } }
/-- `reader 1 1 none` at an SC that lies `short` ticks before the end of slab 1 and its margin. -/
def sealing (short : Nat) : State := { reader 1 1 none with time := { timed.time with sc := 100 + 64 * 2 * 10 + (reader 1 1 none).sealMargin - short } }
theorem witness_seal : runs .slabSeal (sealing 0) (fun t => t.crib.sealedTo = 2 && t.reg 0x2801 3 = 1) = true ∧ (sealing 1).sc < 100 + 64 * 2 * 10 + (sealing 1).sealMargin ∧
    runs .slabSeal (sealing 1) (fun t => t.crib.sealedTo = 1) = true := by decide +kernel
theorem witness_windows : runs (.windowStart 3) (reader 2 1 none) (fun t => t.bayReader 3 = ⟨64, some ⟨64, 256, [1], 0, 0, false⟩⟩ && t.reg 0x2813 4 = 64 && t.reg 0x2813 5 = 1) = true ∧
    runs (.windowStart 3) (reader 2 2 none) (fun t => t.bayReader 3 = ⟨128, none⟩) = true ∧ stays (.windowStart 3) (reader 1 1 none) = true := by decide +kernel
def win2 (done next : Nat) : State := reader 2 1 (some ⟨512, 256, [1, 0], done, next, false⟩)
theorem witness_loft : (win2 0 1).loftHalf 3 0 = LoftHalf.reset ∧
    runs (.loftStepFill 3) (win2 0 0) (fun t => t.bayReader 3 = ⟨64, some ⟨512, 256, [1, 0], 0, 1, false⟩⟩ && (t.loftHalf 3 0).held && (t.loftHalf 3 0).channel = 1 && (t.loftHalf 3 0).sc = 740 && t.reg 0x2813 7 = 1) = true ∧
    runs (.loftStepFill 3) (win2 0 1) (fun t => t.bayReader 3 = ⟨64, some ⟨512, 256, [1, 0], 1, 0, false⟩⟩ && (t.loftHalf 3 0).sc = 740 + 2560) = true ∧
    runs (.loftStepFill 3) (win2 1 1) (fun t => t.bayReader 3 = ⟨576, none⟩ && (t.loftHalf 3 0).channel = 0) = true ∧
    runs (.loftStepFill 3) (reader 2 1 (some ⟨512, 256, [1, 0], 0, 0, true⟩)) (fun t => t.bayReader 3 = ⟨64, none⟩ && (t.loftHalf 3 0).held) = true := by decide +kernel
/-- Silo 63 alone is FREE, or none is; profile 7 is enabled, and has a trigger at its input. -/
def silos (free : Bool) (en : Nat) : State := let s := sets crib ([(0x2827, 1, en), (0x2803, 1, 7), (0x2803, 2, 990)] ++ (List.range 63).map (fun j => (0x2840 + j, 1, 2)) ++ [(0x287F, 1, ofBool (!free) * 2)])
  s.setInput 0x17 { (s.input 0x17) with held := some ⟨0, ⟨1, 2, 995, 0, 0, 0⟩, 0⟩ }
theorem witness_triggers : (List.range 64).find? (fun j => (silos true 1).siloState j = 0) = some 63 ∧
    runs (.cribFreeze 7) (silos true 1) (fun t => t.siloState 63 = 1 && t.reg 0x287F 4 = 995 && t.reg 0x287F 6 = 7 && t.reg 0x2800 0x0D = 1) = true ∧
    runs (.cribFreeze 7) (silos false 1) (fun t => fired t 0x11 7 && t.reg 0x2800 0x0E = 1) = true ∧ runs (.cribFreeze 7) (silos true 0) (fun t => t.siloState 63 = 0 && t.reg 0x2800 0x0E = 1) = true := by decide +kernel
theorem witness_fire : mayCmd (silos true 1) 1 0x2803 3 = true ∧ runs (.fireTrigger 1) (silos true 1) (fun t => t.siloState 63 = 1 && t.reg 0x287F 4 = 990 && t.reg 0x287F 6 = 0x100) = true ∧
    runs (.fireTrigger 1) (silos false 1) (fun t => fired t 0x11 7 && t.reg 0x2800 0x0E = 1) = true := by decide +kernel
def silo (st : Nat) (x : Silo) : State := let s := sets crib [(0x287F, 1, st), (0x2804, 1, 63), (0x2804, 2, 1), (0x2804, 3, 1), (0x2804, 4, 0), (0x2804, 5, 1), (0x2804, 6, 255), (0x27FF, 1, 15), (0x246F, 2, 2), (0x2804, 9, 1)]
  { s with crib := { s.crib with silos := modNth (fun _ => x) s.crib.silos 63 } }
def full : Silo := ⟨3, 5, true, 5, true, [(3, 0), (4, 65536)], 3, 2, 0, 10, 100⟩
def reading (slab rank : Nat) : State := let s := silo 3 full
  { s with crib := { s.crib with readout := some ⟨63, 255, 1, 1, 0, 1, slab, 1, rank, 0⟩ } }
theorem witness_silos : runs (.pinsTakeEffect 63) (silo 1 { full with inEffect := false }) (fun t => (t.silo 63).inEffect && (t.siloState 63 = 1 || t.siloState 63 = 2)) = true ∧
    mayCmd (reading 3 0) 1 0x287F 11 = true ∧ runs (.siloRelease 1 63) (reading 3 0) (fun t => t.siloState 63 = 4 && (t.silo 63).closed && t.crib.readout = none && t.reg 0x2804 9 = 3) = true ∧
    runs (.siloRelease 1 63) (silo 1 full) (fun t => t.siloState 63 = 4) = true ∧ runs (.siloReleaseComplete 63) (silo 4 full) (fun t => t.siloState 63 = 0 && t.silo 63 = Silo.reset) = true := by decide +kernel
theorem witness_readout : mayCmd (silo 2 full) 1 0x2804 7 = true ∧ (silo 2 full).readoutCheck = 0 ∧
    runs (.readoutStart 1) (silo 2 full) (fun t => t.siloState 63 = 3 && t.reg 0x2804 9 = 1 && t.crib.readout = some ⟨63, 255, 1, 1, 0, 1, 3, 1, 0, 0⟩) = true ∧
    (silo 1 full).readoutCheck ≠ 0 ∧ runs (.readoutStart 1) (silo 1 full) (fun t => t.reg 0x2804 9 = 4) = true ∧ mayCmd (reading 3 0) 1 0x2804 8 = true ∧
    runs (.readoutAbort 1) (reading 3 0) (fun t => t.crib.readout = none && t.reg 0x2804 9 = 3 && t.siloState 63 = 2) = true ∧
    stays .readoutPacket (sets (reading 3 0) [(0x246F, 2, 0)]) = true ∧
    stays .readoutPacket ((reading 3 0).setStream 255 { (reading 3 0).stream 255 with ready := [⟨1, [2]⟩] }) = true := by decide +kernel
theorem witness_readout_packets : runs .readoutPacket (reading 3 1) (fun t => t.crib.readout = some ⟨63, 255, 1, 1, 0, 1, 4, 1, 0, 0⟩ && (t.stream 255).ready.length = 1 && t.reg 0x2804 0x0A = 1) = true := by decide +kernel
theorem witness_readout_packets_1 : runs .readoutPacket (reading 4 1) (fun t => t.crib.readout = none && t.reg 0x2804 9 = 2 && t.siloState 63 = 2 && t.dowel.fired.length = 2) = true := by decide +kernel
end Crib

namespace Jigs
/-- Jig 3 is ON with run state `run` at entry `pc` of a cut list; a half of 256 spectra of channel 9 is its current half, and logical tile 255 is on tile 271. -/
def jig (run pc : Nat) (list : List Nat) (f : Jig → Jig) : State :=
  let s := sets timed [(0x3013, 2, 2), (0x3013, 3, run), (0x3013, 4, pc), (0x2113, 64, 5 * 256 + 67), (0x2800, 7, 3), (0x2800, 2, 2)]
  { s with xarray := { s.xarray with jigs := modNth (fun j => f { j with list := list.flatMap (beBytes 16), half := some 4 }) s.xarray.jigs 3, nextOrder := 70 }, crib := { s.crib with lofts := modNth (fun h => { h with held := true, taken := true, seq := 4, channel := 9, spectra := 256, blocks := 3 }) s.crib.lofts 7 } }
/-! ### Jigs -/
/-- A work order of one operation for bin 255, blocks 0 and 1 (CORR), one segment of block 0 (BEAM). -/
def wo (op : Nat) : Nat := op * 2 ^ 124 + 255 * 2 ^ 109 + (if op ≤ 2 then 2 ^ 95 else 0) + (if op ≤ 4 then 9 * 2 ^ 83 else 0)
def f8 (s : State) : State := { s with crib := { s.crib with lofts := modNth (fun h => { h with format := 2 }) s.crib.lofts 7 } }
def ord (op : Nat) : State := if op = 2 ∨ op = 4 then f8 (jig 1 0 [wo op] id) else jig 1 0 [wo op] id
theorem witness_orders : [1, 2, 3, 4, 5, 6, 7].all (fun op => (ord op).entryAt 3 0 = some (wo op) && woOp (wo op) = op && (ord op).orderCheck 3 (sweepOf (wo op)) = 0 &&
    (sweepOf (wo op)).left = 0 && (ord op).sweepTile (sweepOf (wo op)) = 255 && (ord op).tileOf 255 = some 271 && (ord op).portOpen 255 (woClass (wo op)) && !((ord op).jig 3).swapDue) = true := by decide +kernel
def issued (op : Nat) (i : Instr) : Bool := runs i (ord op) (fun t => t.runState 3 = 1 && t.reg 0x3013 4 = 1 && t.reg 0x3013 7 = 1 && t.xarray.nextOrder = 71 &&
  (match t.xarray.orders with | [o] => o.id = 70 && o.bits = wo op && o.lam = 255 && o.epoch = 5 && o.half.isSome == decide (op ≤ 4) | _ => false))
theorem witness_issue : (issued 1 (.corr4 3) && issued 2 (.corr8 3) && issued 3 (.beam4 3) && issued 4 (.beam8 3) && issued 5 (.xreg 3) && issued 6 (.zero 3) && issued 7 (.dump 3)) = true := by decide +kernel
def queued (n : Nat) : State := let s := jig 1 0 [wo 6] id
  { s with xarray := { s.xarray with orders := (List.range n).map (fun i => ⟨i, 3, wo 6, 0, 255, 5, none, .queued, 0, false, false, [], 0⟩) } }
theorem witness_port : (queued 8).portOpen 255 0 = false ∧ runs (.zero 3) (queued 8) (fun t => t.runState 3 = jgWaitPort && t.reg 0x3013 4 = 0 && (t.jig 3).sweep = some (sweepOf (wo 6)) && t.xarray.orders.length = 8) = true ∧
    runs (.zero 3) (queued 7) (fun t => t.runState 3 = jgRunning && t.xarray.orders.length = 8) = true ∧
    (sets (queued 0) [(0x2113, 64, 0x7F)]).tileOf 255 = none ∧ runs (.zero 3) (sets (queued 0) [(0x2113, 64, 0x7F)]) (fun t => t.xarray.orders = [] && t.reg 0x3013 7 = 1 && t.reg 0x3013 8 = 1 && t.reg 0x3013 4 = 1) = true ∧
    runs (.zero 3) (jig 1 0 [wo 6 + 1] id) (fun t => t.runState 3 = 7 && t.reg 0x3013 5 = 2 && t.reg 0x3013 6 = 0 && fired t 0x3B 2) = true := by decide +kernel
/-- A FENCE with EVT over all classes, or over class 2 only; orders of class 0 are outstanding. -/
def fence (scope : Nat) : Nat := 8 * 2 ^ 124 + 2 * 2 ^ 122 + scope * 2 ^ 68 + 2 ^ 67
def fenced (run n scope rsv : Nat) : State := let s := jig run 1 [0, fence scope + rsv] id
  { s with xarray := { s.xarray with orders := (queued n).xarray.orders } }
theorem witness_fences : (fenced 1 1 0 0).fenceHeld 3 (fence 0) = true ∧ (fenced 1 1 1 0).fenceHeld 3 (fence 1) = false ∧ (fenced 1 1 1 0).entryAt 3 1 = some (fence 1) ∧
    runs (.cutFence 3) (fenced 1 1 0 0) (fun t => t.runState 3 = jgWaitFence && t.reg 0x3013 4 = 1) = true ∧
    runs (.cutFence 3) (fenced 1 1 1 0) (fun t => t.runState 3 = 1 && t.reg 0x3013 4 = 2 && fired t 0x3A 1) = true ∧
    runs (.cutFence 3) (fenced 1 0 0 1) (fun t => t.runState 3 = 7 && t.reg 0x3013 5 = 2) = true ∧
    stays (.fencePass 3) (fenced 4 1 0 0) = true ∧ runs (.fencePass 3) (fenced 4 0 0 0) (fun t => t.runState 3 = 1 && t.reg 0x3013 4 = 2 && fired t 0x3A 1) = true := by decide +kernel
/-- A control entry. -/
def ctl (c rest : Nat) : Nat := 15 * 2 ^ 124 + c * 2 ^ 120 + rest
def at1 (w : Nat) (f : Jig → Jig) : State := jig 1 1 [0, w] f
theorem witness_control : controlEntry 7 (ctl 7 (255 * 2 ^ 84)) ∧ runs (.cutEvent 3) (at1 (ctl 7 (255 * 2 ^ 84)) id) (fun t => t.reg 0x3013 4 = 2 && fired t 0x39 255) = true ∧
    runs (.cutEvent 3) (at1 (ctl 7 1) id) (fun t => t.runState 3 = 7 && t.reg 0x3013 5 = 2) = true ∧
    runs (.cutEnd 3) (at1 (ctl 0 0) id) (fun t => t.runState 3 = 6 && t.reg 0x3013 4 = 1 && fired t 0x38 0) = true ∧
    runs (.cutWaitStep 3) (at1 (ctl 1 0) (fun j => { j with freeStep := true })) (fun t => t.reg 0x3013 4 = 2 && !(t.jig 3).freeStep) = true ∧
    runs (.cutWaitStep 3) (at1 (ctl 1 0) id) (fun t => t.runState 3 = jgWaitStep && t.reg 0x3013 4 = 1) = true ∧
    (jig 1 1 [0, ctl 2 (2 ^ 108), 0] id).targetOk 3 1 = true ∧ runs (.cutJump 3) (jig 1 1 [0, ctl 2 (2 ^ 108), 0] id) (fun t => t.reg 0x3013 4 = 1 && t.runState 3 = 1) = true ∧
    (at1 (ctl 2 0) id).targetOk 3 3 = false ∧ runs (.cutJump 3) (at1 (ctl 2 (3 * 2 ^ 108)) id) (fun t => t.runState 3 = 7 && t.reg 0x3013 5 = 10) = true ∧
    runs (.cutIfStep 3) (at1 (ctl 3 (3 * 2 ^ 108)) id) (fun t => t.reg 0x3013 5 = 10) = true := by
  simp only [controlEntry]; decide
theorem witness_loops : runs (.cutLoop 3) (at1 (ctl 4 (65535 * 2 ^ 92)) id) (fun t => t.reg 0x3013 4 = 2 && (t.jig 3).loops = [(65535, 1)]) = true ∧
    runs (.cutLoop 3) (at1 (ctl 4 0) id) (fun t => (t.jig 3).loops = [((at1 (ctl 4 0) id).stepsOf 3, 1)]) = true ∧
    runs (.cutLoop 3) (at1 (ctl 4 0) (fun j => { j with loops := List.replicate 4 (2, 0) })) (fun t => t.reg 0x3013 5 = 9) = true ∧
    runs (.cutEndloop 3) (at1 (ctl 5 0) id) (fun t => t.reg 0x3013 5 = 9) = true ∧
    runs (.cutEndloop 3) (at1 (ctl 5 0) (fun j => { j with loops := [(2, 0)] })) (fun t => t.reg 0x3013 4 = 1 && (t.jig 3).loops = [(1, 0)]) = true ∧
    runs (.cutEndloop 3) (at1 (ctl 5 0) (fun j => { j with loops := [(1, 0)] })) (fun t => t.reg 0x3013 4 = 2 && (t.jig 3).loops = []) = true ∧
    runs (.cutIfStep 3) (jig 1 1 [0, ctl 3 (2 ^ 108), 0] id) (fun t => t.reg 0x3013 4 = if (at1 0 id).stepTest 3 0 = false then 2 else 1) = true := by decide +kernel
def ev (s : State) : State := s.setInput 0x23 { (s.input 0x23) with held := some ⟨0, ⟨1, 2, 995, 0, 0, 0⟩, 0⟩ }
theorem witness_waits : runs (.cutWaitEvt 3) (at1 (ctl 6 0) id) (fun t => t.runState 3 = jgWaitEvt && t.reg 0x3013 4 = 1) = true ∧
    runs (.cutWaitEvt 3) (ev (at1 (ctl 6 0) id)) (fun t => t.reg 0x3013 4 = 2 && t.held 0x23 = none) = true ∧
    runs (.cutWaitEvt 3) (ev (jig 3 1 [0, ctl 6 0] id)) (fun t => t.reg 0x3013 4 = 2 && t.runState 3 = 1) = true ∧
    (jig 1 2 [0, 0] id).entryAt 3 2 = none ∧ runs (.cutEnd 3) (jig 1 2 [0, 0] id) (fun t => t.runState 3 = 6 && fired t 0x38 0) = true ∧
    mayCmd (jig 7 1 [] id) 1 0x3013 16 = true ∧ runs (.jigRestart 1 3) (jig 7 1 [0, 0] id) (fun t => t.runState 3 = 1 && t.reg 0x3013 4 = 0 && t.reg 0x3013 5 = 0) = true ∧
    runs (.jigRestart 1 3) (jig 6 1 [0, 0] (fun j => { j with loops := [(1, 1)] })) (fun t => t.runState 3 = 1 && (t.jig 3).loops = []) = true := by decide +kernel
def half8 (s : State) : State := { s with crib := { s.crib with lofts := modNth (fun h => { h with held := true, taken := false, seq := 8, channel := 9, step := 3 }) s.crib.lofts 6 } }
theorem witness_steps : (half8 (at1 (ctl 1 0) id)).readyHalf 3 = some 0 ∧ (half8 (at1 (ctl 1 0) id)).listDue 3 ((half8 (at1 (ctl 1 0) id)).loftHalf 3 0) = none ∧
    runs (.cutWaitStep 3) (half8 (at1 (ctl 1 0) id)) (fun t => t.reg 0x3013 4 = 2 && (t.jig 3).half = some 8 && t.reg 0x3013 0x0D = 9 && t.reg 0x3013 0x0E = 3) = true := by decide +kernel
/-- A cut list of one END entry is due at the next entry. -/
def due (run : Nat) (w : Nat) : State := jig run 1 [0, w] (fun j => { j with swapDue := true, lists := [(0, beBytes 16 (ctl 0 0))], loops := [(1, 1)] })
theorem witness_swaps : (due 1 0).fenceHeld 3 (fence 0) = false ∧
    runs (.cutFence 3) (due 1 (fence 0)) (fun t => t.runState 3 = 1 && t.reg 0x3013 4 = 0 && (t.jig 3).loops = [] && (t.jig 3).list = beBytes 16 (ctl 0 0)) = true ∧
    runs (.fencePass 3) (due 4 (fence 0)) (fun t => t.runState 3 = 1 && t.reg 0x3013 4 = 0 && (t.jig 3).list.length = 16) = true ∧
    runs (.cutWaitEvt 3) (ev (due 3 (ctl 6 0))) (fun t => t.runState 3 = 1 && t.reg 0x3013 4 = 0 && (t.jig 3).list.length = 16) = true := by decide +kernel
end Jigs

namespace Tiles
/-- Jig 3 is ON with run state `run` at entry `pc` of a cut list; a half of 256 spectra of channel 9 is its current half, and logical tile 255 is on tile 271. -/
def jig (run pc : Nat) (list : List Nat) (f : Jig → Jig) : State :=
  let s := sets timed [(0x3013, 2, 2), (0x3013, 3, run), (0x3013, 4, pc), (0x2113, 64, 5 * 256 + 67), (0x2800, 7, 3), (0x2800, 2, 2)]
  { s with xarray := { s.xarray with jigs := modNth (fun j => f { j with list := list.flatMap (beBytes 16), half := some 4 }) s.xarray.jigs 3, nextOrder := 70 }, crib := { s.crib with lofts := modNth (fun h => { h with held := true, taken := true, seq := 4, channel := 9, spectra := 256, blocks := 3 }) s.crib.lofts 7 } }
/-- A work order of one operation for bin 255, blocks 0 and 1 (CORR), one segment of block 0 (BEAM). -/
def wo (op : Nat) : Nat := op * 2 ^ 124 + 255 * 2 ^ 109 + (if op ≤ 2 then 2 ^ 95 else 0) + (if op ≤ 4 then 9 * 2 ^ 83 else 0)
/-! ### Tiles and the granary -/
/-- A work order of an operation for bin 255 of logical tile 255, in a phase. -/
def wk (id op cls : Nat) (ph : Phase) : WorkOrder := ⟨id, 3, wo op + cls * 2 ^ 122, 0, 255, 5, if op ≤ 4 then some ⟨4, 0, 256, 9, 3, 0, 0, 1, 0⟩ else none, ph, 0, false, false, [], 0⟩
/-- Tile 271 serves logical tile 255 with these work orders. -/
def tiles (os : List WorkOrder) (xs : List (Nat × Nat × Nat)) : State :=
  let s := sets (jig 1 0 [] id) ([(0x2200 + 271, 1, 0), (0x2200 + 271, 2, 63), (0x3400, 1, 6144)] ++ xs)
  { s with xarray := { s.xarray with orders := os } }
def busy (a b : Bool) (s : State) : State := s.setTile 271 { Tile.reset with banks := [{ Bank.reset with busy := a }, { Bank.reset with busy := b }] }
/-- A work order of an operation starts where a bank is free; the record an XREG takes is in staging. -/
def startsOp (op : Nat) : Bool := runs (.workOrderStart 271 []) (busy true false (tiles [{ wk 1 op 0 .queued with pulled := op = 5 }] [])) (fun t => (t.running 255).isSome)
theorem witness_starts_1 : startsOp 1 = true := by decide +kernel
theorem witness_starts_2 : startsOp 2 = true := by decide +kernel
theorem witness_starts_3 : startsOp 3 = true := by decide +kernel
theorem witness_starts_4 : startsOp 4 = true := by decide +kernel
theorem witness_starts_5 : startsOp 5 = true := by decide +kernel
theorem witness_orders_start : (tiles [wk 1 1 0 .queued] []).serves 271 = some 255 ∧ (tiles [wk 1 1 0 .queued] []).nextOrder 255 = some (wk 1 1 0 .queued) ∧
    (tiles [wk 1 1 0 .queued] []).running 255 = none ∧
    stays (.workOrderStart 271 []) (busy true true (tiles [wk 1 1 0 .queued] [])) = true ∧
    runs (.workOrderStart 271 []) (tiles [wk 1 6 0 .queued] []) (fun t => t.xarray.orders = [{ wk 1 6 0 .done with pulled := true }] && t.acc 271 0 0 = Acc.reset) = true ∧
    stays (.workOrderStart 271 []) (tiles [] []) = true := by decide +kernel
def path (s : State) : State := { s with xarray := { s.xarray with dumps := [⟨271, 77, 3, 0, 0, []⟩] } }
theorem witness_dumps_start : (path (tiles [wk 1 7 0 .queued] [])).pathBusy 271 = true ∧
    runs (.workOrderStart 271 []) (path (tiles [wk 1 7 0 .queued] [])) (fun t => t.xarray.orders = [{ wk 1 7 0 .running with pulled := true }] && t.xarray.dumps.length = 1) = true ∧
    (tiles [wk 1 7 0 .queued] []).pathBusy 271 = false ∧
    runs (.workOrderStart 271 []) (tiles [wk 1 7 0 .queued] []) (fun t => t.xarray.orders = [{ wk 1 7 0 .done with pulled := true }] &&
      (match t.xarray.dumps with | [r] => r.tile = 271 && r.order = 1 && r.bay = 3 && r.stream = 0 && r.cls = 0 | _ => false)) = true := by decide +kernel
def yields : State := tiles [wk 1 1 0 .running, { wk 2 6 3 .queued with bits := wo 6 + 3 * 2 ^ 122 + 2 ^ 109 }] [(0x2113, 0x41, 2 ^ 63)]
theorem witness_yield : yields.uTile 255 = true ∧ (yields.nextOrder 255).map (fun o => woClass o.bits) = some 3 ∧
    runs (.classUYield 271) yields (fun t => (t.running 255).isNone && t.reg 0x3000 9 = 1) = true := by decide +kernel
/-- A pass whose bank is busy with the fold of work order 1. -/
def folding (b : Bank) (spill : Option Nat) (xs : List (Nat × Nat × Nat)) : State :=
  (tiles [wk 1 1 0 (if spill = none then .folding else .spilling)] xs).setTile 271 { Tile.reset with banks := [Bank.reset, b], spill := spill }
def bank : Bank := ⟨true, 1, wo 1, 5, 0, false, 0, 0, []⟩
theorem witness_folds : ((folding bank none []).tile 271).pendingBanks = [1] ∧ (folding bank none []).isSplit 255 = false ∧
    (folding bank none [(0x3400, 1, 255)]).isSplit 255 = true ∧ needsSpill ((folding bank none [(0x3400, 1, 255)]).acc 271 0 0) 0 0 = false ∧
    needsSpill { Acc.reset with peak := 2 ^ 31, e := 0 } (2 ^ 31) 0 = true := by decide +kernel
theorem witness_folds_current : ((folding bank none []).bankCurrent 271 bank == some (wk 1 1 0 .folding)) = true := by decide +kernel
theorem witness_folds_stale : ((folding { bank with epoch := 4 } none []).bankCurrent 271 { bank with epoch := 4 }).isNone = true := by decide +kernel
theorem witness_folds_spilling : ((folding bank (some 1) []).bankCurrent 271 bank == some (wk 1 1 0 .spilling)) = true := by decide +kernel
theorem witness_folds_reject : runs (.foldComplete 271 []) (folding { bank with epoch := 4 } none []) (fun t => t.reg 0x3000 7 = 1 && t.xarray.orders = [wk 1 1 0 .folding] &&
    ((t.tile 271).banks.getD 1 bank).busy = false) = true := by decide +kernel
/-- A spill for a fold of an old placement epoch, whose image region is beyond the DRAM space. -/
def staleSpill : State := folding { bank with epoch := 4 } (some 1) [(0x3400, 3, 2 ^ 45)]
theorem witness_spills_reject : runs (.spillComplete 271 []) staleSpill (fun t => t.reg 0x3000 7 = 1 && (t.tile 271).spill = none) = true := by decide +kernel
theorem witness_orders_done : runs (.workOrderComplete 3) (tiles [wk 1 1 0 .queued, wk 2 1 0 .done] []) (fun t => t.xarray.orders = [wk 1 1 0 .queued] && t.reg 0x3013 8 = 1) = true := by decide +kernel
def owes : State := let s := tiles [] [(0x381F, 5, 7)]
  { s with xarray := { s.xarray with loads := [⟨255, 15, 0⟩] } }
theorem witness_weights : owes.xarray.loads.find? (fun l => l.lam = 255) = some ⟨255, 15, 0⟩ ∧ owes.tileOf 255 = some 271 ∧ owes.fenced 271 = false ∧
    runs (.weightLoad 255) owes (fun t => t.xarray.loads = []) = true := by decide +kernel
def shims (n : Nat) (shim : Bool) : State := (tiles [{ wk 1 1 0 .running with shim := shim }] []).setTile 271 { Tile.reset with spareCells := n }
theorem witness_mismatches : runs (.residueMismatch 271) (shims 1 false) (fun t => (t.tile 271).spareCells = 0 && t.reg 0x3000 6 = 1 && t.xarray.orders = [{ wk 1 1 0 .running with shim := true }]) = true ∧
    271 / 68 < (shims 0 false).board.bays ∧
    (match exec (.residueMismatch 271) (shims 0 false), exec (.tileFail 271 1) (shims 0 false) with | .next t, .next u => decide (t = u) | _, _ => false) = true ∧
    (match exec (.residueMismatch 271) (shims 1 true), exec (.tileFail 271 2) (shims 1 true) with | .next t, .next u => decide (t = u) | _, _ => false) = true := by decide +kernel
/-- Every other tile of bay 3 is in service, but for `spare`. -/
def bay (st spare : Nat) : State := tiles [] ((List.range 67).map (fun t => (0x2200 + 204 + t, 1, 0)) ++ [(0x2200 + 271, 1, st)] ++ (if spare = 0 then [] else [(0x2200 + spare, 1, 1)]))
theorem witness_tiles_fail : (bay 0 205).tilesIn 3 1 = [205] ∧ (bay 0 205).reseatsOf 3 = [] ∧
    runs (.tileFail 271 7) (bay 0 205) (fun t => t.reseatsOf 3 = [⟨255, 271, 7, some 205⟩] && t.fenced 271 && t.reg 0x2103 6 = 1 && t.placeEpoch 255 = 6) = true ∧
    (bay 0 0).tilesIn 3 1 = [] ∧ runs (.tileFail 271 1) (bay 0 0) (fun t => t.reseatsOf 3 = [] && t.reg 0x230F 1 = 2 && t.reg 0x230F 5 = 1 && t.placement 255 = 0x7F) = true ∧
    runs (.tileFail 271 6) (bay 1 0) (fun t => t.reg 0x230F 1 = 2 && t.reg 0x230F 2 = 0xFF && t.reg 0x230F 5 = 6) = true := by decide +kernel
def seating : State := { bay 0 205 with xarray := { (bay 0 205).xarray with reseats := [[], [], [], [⟨255, 271, 3, some 205⟩]] } }
theorem witness_reseats : seating.reseatsOf 3 = [⟨255, 271, 3, some 205⟩] ∧ (seating.tile 271).spill = none ∧
    runs (.reseatComplete 3) seating (fun t => t.reseatsOf 3 = [] && t.reg 0x22CD 1 = 0 && t.reg 0x22CD 2 = 63 && t.placement 255 = 1 && t.reg 0x3000 8 = 1 && t.reg 0x230F 1 = 2 && t.reg 0x230F 5 = 3) = true := by decide +kernel
def tested (s : State) : State := { s with xarray := { s.xarray with retests := [271] } }
theorem witness_retests : mayCmd (bay 2 0) 1 0x230F 6 = true ∧ runs (.retest 1 271) (bay 2 0) (fun t => t.xarray.retests = [271]) = true ∧
    runs (.retestComplete 271 false) (tested (bay 2 0)) (fun t => t.reg 0x230F 5 = 6 && t.xarray.retests = []) = true ∧
    runs (.retestComplete 271 true) (tested (bay 2 0)) (fun t => t.reg 0x230F 1 = 1 && t.reg 0x230F 2 = 0xFF && t.reg 0x230F 5 = 0 && t.tile 271 = Tile.reset && t.xarray.retests = []) = true := by decide +kernel
/-- A record for stream 255 waits in a dump path; staging has `n` slots, `used` of them full. -/
def rec (n used grp : Nat) : State := let s := tiles [] [(0x3400, 5, n), (0x27FF, 1, grp), (0x5800, 1, 1), (0x5800, 3, 64), (0x5800, 4, 1), (0x5800, 0x0C, 24), (0x246F, 2, 2)]
  { s with xarray := { s.xarray with dumps := [⟨271, 77, 3, 2, 255, [1, 2]⟩], staged := (List.range used).map (fun i => ⟨i, 255, 2, 6⟩) } }
theorem witness_staging : (rec 2 1 15).nextDump = some ⟨271, 77, 3, 2, 255, [1, 2]⟩ ∧ (rec 2 1 15).freeSlot = some 1 ∧
    runs (.dumpRecordStaged []) (rec 2 1 15) (fun t => t.xarray.staged = [⟨0, 255, 2, 6⟩, ⟨1, 255, 2, 2⟩] && lookup t.xarray.recno 255 = some 1) = true ∧
    stays (.dumpRecordStaged []) (rec 2 2 15) = true ∧ runs (.dumpRecordStaged []) (rec 2 0 255) (fun t => t.xarray.staged = [] && t.reg 0x3400 0x0D = 1 && lookup t.xarray.recno 255 = some 1) = true := by decide +kernel
theorem witness_records : (rec 2 1 15).registrationStream 255 = false ∧ (rec 2 1 15).oldestStaged 255 = some ⟨0, 255, 2, 6⟩ ∧ (rec 2 1 255).turn 255 = .discard ∧ (rec 2 1 14).turn 255 = .wait ∧ (rec 2 1 15).turn 255 = .send ∧
    (rec 2 1 15).boundGroup 255 0 = none ∧ runs (.recordFragmentsSend 255) (rec 2 1 15) (fun t => t.xarray.staged.length = 1 && (t.stream 255).ready.length = 1 && (t.stream 255).slot = some (0, 1) && t.reg 0x3600 2 = 0) = true ∧
    stays (.recordFragmentsSend 255) ((rec 2 1 15).setStream 255 { (rec 2 1 15).stream 255 with ready := [⟨1, [2]⟩] }) = true ∧
    stays (.recordFragmentsSend 255) (rec 2 1 14) = true ∧ runs (.recordFragmentsSend 255) (rec 2 1 255) (fun t => t.xarray.staged = [] && t.reg 0x3400 0x0D = 1) = true := by decide +kernel
/-- Beam group 15 takes stream 255 as voltage packets; the staged record is INVALID. -/
def bound (grp fmt : Nat) : State := let s := sets (rec 2 1 grp) [(0x381F, 2, 255), (0x381F, 1, 1), (0x3800, 2, fmt), (0x3800, 3, 2 ^ 20)]
  { s with dram := dramWrite [] (s.reg 0x3400 4 + 7) [4] }
theorem witness_formats : (bound 15 2).boundGroup 255 ((bound 15 2).recordSc ((bound 15 2).stagedWords ⟨0, 255, 2, 6⟩)) = some (15, 1) ∧ recInvalid ((bound 15 2).stagedWords ⟨0, 255, 2, 6⟩) = true ∧
    stays (.formatRecord 255) (bound 14 2) = true ∧ runs (.formatRecord 255) (bound 255 2) (fun t => t.xarray.staged = [] && t.reg 0x3400 0x0D = 1) = true ∧
    runs (.formatRecord 255) (bound 15 0) (fun t => t.xarray.staged = [] && t.reg 0x3800 8 = 1) = true := by decide +kernel
/-- A BEAM4 pass of 64 inputs of 7 + 7i with weights 127 + 127i for the first beam. -/
def bo (k : Nat) : WorkOrder := { wk 1 3 0 .running with pulled := true, k := k, samples := (List.range 64).map (fun i => (i, 0x77)) }
def hot (k : Nat) : State := let s := tiles [bo k] []
  { s with xarray := { s.xarray with weights := [(271 * 64, List.replicate 128 0x7F)] } }
theorem witness_overflow : ((hot 5).passOn 271).isSome = true ∧ ((hot 0).passOn 271).map (fun p => p.2.ovr) = some true := by decide +kernel
theorem witness_pass : (hot 6).passOn 271 = some (bo 6, (hot 6).pass 271 (bo 6)) ∧ ¬((bo 6).k < 6) ∧
    (List.range 2).find? (fun i => !(nthD Bank.reset ((hot 6).tile 271).banks i).busy) = some 0 := ⟨rfl, by decide +kernel⟩
theorem witness_reports : (tiles [wk 1 1 0 .done] []).placeEpoch 255 = 5 ∧
    runs (.workOrderComplete 3) (tiles [{ wk 1 1 0 .done with epoch := 4 }] []) (fun t => t.xarray.orders = [wk 1 1 0 .done] && t.reg 0x3013 8 = 0 && t.reg 0x3000 7 = 1) = true ∧
    owes.dramSteady ∧ (sets owes [(0x2113, 64, 0x7F)]).tileOf 255 = none ∧ stays (.weightLoad 255) (sets owes [(0x2113, 64, 0x7F)]) = true := by
  simp only [State.dramSteady]; decide +kernel
/-- A record of one BEAM4 bin with channel 0 and first_sc 0 waits for a group in a power mode that has seen two later sums. -/
def late (seen : List Nat) : State := let s := sets (rec 2 1 15) [(0x381F, 2, 255), (0x381F, 1, 2), (0x3800, 2, 2), (0x3800, 3, 2 ^ 20)]
  { s with dram := dramWrite [] (s.reg 0x3400 4 + 6) [0x30], xarray := { s.xarray with powerSeen := List.replicate 16 seen } }
theorem witness_late : (late [200, 100]).boundGroup 255 0 = some (15, 2) ∧ (late [200, 100]).lateRecord 15 0 ((late [200, 100]).stagedWords ⟨0, 255, 2, 6⟩) = true ∧
    (late []).lateRecord 15 0 ((late []).stagedWords ⟨0, 255, 2, 6⟩) = false ∧
    runs (.formatRecord 255) (late [200, 100]) (fun t => t.xarray.staged = [] && t.reg 0x381F 0x0A = 0 && t.reg 0x3800 8 = 1) = true ∧
    runs (.formatRecord 255) (late []) (fun t => t.xarray.staged = [] && t.reg 0x381F 0x0A = 1) = true ∧
    stays (.formatRecord 255) ((late []).setStream 255 { (late []).stream 255 with ready := [⟨1, [2]⟩] }) = true := by decide +kernel
end Tiles

namespace Winnow
/-! ### Winnow -/
/-- Winnow is ON at the cycle of channel 63, whose user is monitor slot 63; its filter is a boxcar of 2^n values. -/
def winnow (n u : Nat) (v : Nat) : State := let s := sets timed [(0x4800, 2, 2), (0x484F, 1, 1), (0x484F, 2, n), (0x484F, 5, u), (0x393F, 2, 2), (0x393F, 3, 15), (0x393F, 4, 63), (0x393F, 5, 63), (0x393F, 6, 100), (0x393F, 7, 10)]
  { s with winnow := { s.winnow with cycle := 127, channels := modNth (fun x => { x with queue := [⟨v, 900, 10, false, false⟩] }) s.winnow.channels 63 } }
theorem witness_service : stays .winnowService timed = true ∧ (winnow 0 63 5).winnowOn = true ∧ (winnow 0 63 5).winCarry 63 WinChannel.reset ⟨5, 900, 10, false, false⟩ = (WinChannel.reset, some ⟨5, 900, 10, false, false⟩) ∧
    runs .winnowService (winnow 0 63 5) (fun t => t.winnow.cycle = 128 && t.reg 0x4800 3 = 2 && t.winnow.outputs = [⟨63, ⟨5, 900, 10, false, false⟩⟩] && t.reg 0x484F 6 = 1 && t.win 63 = WinChannel.reset) = true ∧
    runs .winnowService (winnow 1 63 5) (fun t => t.winnow.outputs = [] && (t.win 63).boxSum = 5 && (t.win 63).boxCount = 1 && t.reg 0x484F 6 = 0) = true := by decide +kernel
def scal (n : Nat) : State := let s := winnow 0 0x107 0
  { s with winnow := { s.winnow with scalers := modNth (fun x => { x with current := some ⟨List.replicate n 7, 0, 0, 0, 0, 0, false⟩ }) s.winnow.scalers 7 } }
theorem witness_scaler : runs .winnowService (scal 65) (fun t => (t.scaler 7).taken = 64 && (t.scaler 7).current.isSome) = true := by decide +kernel
def outp (st v u : Nat) : State := let s := sets (winnow 0 u 0) [(0x393F, 0x0A, st), (0x393F, 8, 0)]
  { s with winnow := { s.winnow with outputs := [⟨63, ⟨v, 900, 10, false, false⟩⟩] } }
theorem witness_outputs : runs .winnowOutput (outp 0 101 63) (fun t => t.winnow.outputs = [] && t.reg 0x393F 0x0C = 101 && t.reg 0x393F 0x0B = 1 && t.reg 0x393F 0x0A = 2 &&
      t.dowel.fired = [⟨0x7F, 15 * 256 + 63, 900, 0, 0, 1000⟩]) = true ∧
    runs .winnowOutput (sets (outp 0 101 63) [(0x393F, 8, 1)]) (fun t => t.reg 0x393F 0x0A = 1) = true ∧
    runs .winnowOutput (outp 0 100 63) (fun t => t.reg 0x393F 0x0C = 100 && t.reg 0x393F 0x0A = 0 && t.dowel.fired = []) = true ∧
    runs .winnowOutput (outp 2 90 63) (fun t => t.reg 0x393F 0x0A = 0) = true ∧ runs .winnowOutput (outp 2 91 63) (fun t => t.reg 0x393F 0x0A = 2) = true ∧
    runs .winnowOutput (outp 0 101 64) (fun t => t.winnow.outputs = [] && t.regs = (outp 0 101 64).regs) = true := by decide +kernel
def group : ScalerGroup := ⟨3, 0, 2, 2, 2, List.replicate 64 10, List.replicate 64 false, false, false, false, 900, 6, 0⟩
def sends (grp : Nat) : State := let s := sets timed [(0x4887, 0x0C, 255), (0x4887, 0x0B, 1), (0x27FF, 1, grp)]
  { s with winnow := { s.winnow with scalers := modNth (fun x => { x with ready := [group] }) s.winnow.scalers 7 } }
theorem witness_groups_sent : runs (.scalerGroupSend 7) (sends 15) (fun t => (t.scaler 7).ready = [] && t.reg 0x4887 0x0D = 1 && (t.stream 255).ready.length = 1) = true ∧
    runs (.scalerGroupSend 7) (sends 255) (fun t => (t.scaler 7).ready = [] && (t.stream 255).ready = []) = true := by decide +kernel
end Winnow

namespace Inspection
/-! ### Inspection -/
/-- The front end with frames of 10 lines and a line wait of 4, and camera 15: 8-bit pixels, width 128, group 31. -/
def front (st cam : Nat) : State := sets timed [(0x4000, 2, st), (0x4000, 3, 10), (0x4000, 4, 4), (0x4000, 5, 20), (0x401F, 2, cam), (0x401F, 3, 0), (0x401F, 4, 128), (0x401F, 5, 0), (0x401F, 6, 31), (0x401F, 7, 15), (0x4000, 0x0E, 64)]
def edge : LineEdge := ⟨5, 800, 6, []⟩
def feeds (s : State) : State := s.modGen (fun g => { g with feed := [edge], nextLine := 29 })
theorem witness_edges : runs .lineClockEdge (feeds (front 0 0)) (fun t => t.pos.gen.feed = [] && t.pos.gen.nextLine = 30 && t.insp = (front 0 0).insp) = true ∧
    runs .lineClockEdge (feeds (front 1 0)) (fun t => t.latestEdge = some ⟨29, 800, 6, 5, []⟩ && t.reg 0x4000 8 = 29 && t.reg 0x4000 9 = 2 && t.reg 0x4000 2 = 2) = true := by decide +kernel
/-- Edges 0 to 29 have come, the last at SC 800; camera 15 has these lines. -/
def cam (st : Nat) (f : Camera → Camera) : State := let s := front 2 st
  { s with insp := { s.insp with front := { s.insp.front with edges := (List.range 30).reverse.map (fun i => ⟨i, 510 + 10 * i, 0, 0, [(15, 0)]⟩), cams := modNth f s.insp.front.cams 15 } } }
/-- A packet of 64 pixels of `line` from pixel 64 · `at_`. -/
def pix (sc at_ len : Nat) : Packet := ⟨31, 0, 15, 0, 0, sc :: at_ :: List.replicate len 0⟩
def px (p : Packet) (f : Camera → Camera) : State := { cam 2 f with sheaf := { (cam 2 f).sheaf with pixels := [p] } }
def have_ (l : Nat) : Camera → Camera := fun x => { x with lines := [⟨l, [[(64, List.replicate 64 0)]], []⟩] }
theorem witness_pixel_counts : runs .pixelPacketRx (px { pix 800 1 8 with group := 30 } id) (fun t => t.reg 0x2401 1 = 1) = true ∧
    runs .pixelPacketRx (px (pix 800 2 8) id) (fun t => t.reg 0x4001 2 = 1) = true ∧ runs .pixelPacketRx (px (pix 821 1 8) id) (fun t => t.reg 0x4001 1 = 1) = true ∧
    runs .pixelPacketRx (px (pix 760 1 8) id) (fun t => t.reg 0x4001 3 = 1) = true ∧ runs .pixelPacketRx (px (pix 800 1 8) (have_ 29)) (fun t => t.reg 0x4001 4 = 1) = true := by decide +kernel
theorem witness_pixels : (px (pix 800 0 8) (have_ 29)).pixelTaken (pix 800 0 8) ∧ (px (pix 800 0 8) (have_ 29)).pixelShape (pix 800 0 8) ∧
    (px (pix 800 0 8) (have_ 29)).matchEdge 15 800 = some ⟨29, 800, 0, 0, [(15, 0)]⟩ ∧ (px (pix 800 0 8) (have_ 29)).lineClosed 15 29 = false ∧
    (px (pix 800 0 8) (have_ 29)).rawHeld 15 + 64 ≤ (px (pix 800 0 8) (have_ 29)).rawShare 15 := by
  simp only [State.pixelTaken, State.pixelShape]; decide
theorem witness_pixels_in : runs .pixelPacketRx (px (pix 800 0 8) (have_ 29)) (fun t => t.sheaf.pixels = [] && (t.camLine 15 29).isSome && t.reg 0x401F 0x0F = 0 && t.reg 0x401F 0x0D = 1) = true := by decide +kernel
/-- `n` raw bytes of camera 15 wait for stage A when a packet of 64 arrives. -/
def raw (n : Nat) : State := let s := px (pix 800 0 8) id
  { s with insp := { s.insp with front := { s.insp.front with raw := [⟨15, 29, n⟩], ptrA := 3 } } }
theorem witness_raw : (raw 576).rawHeld 15 + 64 = (raw 576).rawShare 15 ∧ (raw 577).rawShare 15 < (raw 577).rawHeld 15 + 64 := by decide +kernel
theorem witness_raw_full : runs .pixelPacketRx (raw 577) (fun t => t.reg 0x4001 8 = 1 && t.insp.front.raw = [] && t.insp.front.ptrA = 0) = true ∧
    runs .pixelPacketRx (raw 576) (fun t => t.reg 0x4001 8 = 0 && t.insp.front.raw = [⟨15, 29, 64⟩] && t.insp.front.ptrA = 0) = true := by decide +kernel
def acc : StatsAcc := ⟨1, 0, 0, 0, 0, 0, 0, 0, 0, [0, 0, 0, 0, 0, 0], [], 0⟩
theorem witness_stage_b : (cam 2 (fun x => { x with firstLine := some 0, nextOut := 25 })).outReady 15 = true ∧ (cam 2 (fun x => { x with firstLine := some 0, nextOut := 26 })).outReady 15 = false ∧
    stays (.stageBLine 15) (cam 2 (fun x => { x with firstLine := some 0, nextOut := 26 })) = true ∧
    stays (.statsRecordFormed 15) (cam 2 (fun x => { x with ready := [{ acc with frame := 2 }] })) = true := by decide +kernel
theorem witness_stage_b_turn : (cam 2 (fun x => { x with firstLine := some 0, nextOut := 25 })).outReady 14 = false ∧
    runs (.stageBLine 15) (cam 2 (fun x => { x with firstLine := some 0, nextOut := 25 })) (fun t => (t.cam 15).nextOut = 26 && t.insp.front.ptrB = 0 && t.reg 0x401F 0x0B = 1) = true ∧
    stays (.stageBLine 14) ((cam 2 (fun x => { x with firstLine := some 0, nextOut := 25 })).modFront (fun x => { x with ptrB := 15 })) = true := by decide +kernel
theorem witness_stats : runs (.statsRecordFormed 15) (cam 2 (fun x => { x with ready := [acc] })) (fun t => (t.cam 15).ready = [] && fired t 0x80 15) = true := by decide +kernel
/-- Frame slot 63 in a state. -/
def slot (st lines : Nat) (hold : Bool) : State := let s := sets (cam 2 id) [(0x40FF, 1, st), (0x40FF, 6, lines)]
  { s with insp := { s.insp with front := { s.insp.front with writing := some (63, 2), holds := if hold then [63] else [] } } }
theorem witness_slots : (slot 1 10 false).slotsIn 1 = [63] ∧ (slot 1 10 false).frameLen = 10 ∧ runs .frameSlotFilled (slot 1 10 false) (fun t => t.reg 0x40FF 1 = 2 && t.insp.front.writing = none) = true ∧
    runs .frameSlotFilled (slot 1 10 true) (fun t => t.reg 0x40FF 1 = 3 && t.insp.front.holds = []) = true ∧ stays .frameSlotFilled (slot 1 9 false) = true ∧
    mayCmd user 1 0x40FF 4 = true ∧ mayCmd user 1 0x40FF 5 = true ∧ runs (.frameHold 1 (some 63)) (slot 1 9 false) (fun t => t.insp.front.holds = [63] && t.reg 0x40FF 1 = 1) = true ∧
    runs (.frameHold 1 (some 63)) (slot 2 9 false) (fun t => t.reg 0x40FF 1 = 3) = true ∧ runs (.frameSlotRelease 1 63) (slot 3 9 false) (fun t => t.reg 0x40FF 1 = 2) = true := by decide +kernel
def evAt (id : Nat) (s : State) : State := s.setInput id { (s.input id) with held := some ⟨0, ⟨1, 2, 995, 0, 0, 0⟩, 0⟩ }
theorem witness_hold_event : runs (.frameHold 0 none) (evAt 0x310 (slot 1 9 false)) (fun t => t.insp.front.holds = [63] && t.held 0x310 = none) = true := by decide +kernel
/-- Dovetail runs on slots 0 and 1, of cameras 15 and 14, at stitched line `l`. -/
def dove (st l out15 : Nat) (f : DoveState → DoveState) : State :=
  let s := sets (cam 2 (fun x => { x with firstLine := some 0, nextOut := out15 })) [(0x4400, 2, st), (0x4410, 1, 15), (0x4410, 3, 127), (0x4411, 1, 14), (0x4411, 2, 128), (0x4411, 3, 255), (0x401E, 4, 128), (0x4400, 7, 254)]
  { s with insp := { s.insp with dove := f { s.insp.dove with running := true, next := l } } }
theorem witness_stitched : (dove 2 21 22 id).slots = [0, 1] ∧ (dove 2 21 21 id).edgeOf 21 = some ⟨21, 720, 0, 0, [(15, 0)]⟩ ∧ ((dove 2 21 22 id).slots.all (fun k => (dove 2 21 22 id).slotReady k 21)) = true ∧
    ((dove 2 21 21 id).slots.all (fun k => (dove 2 21 21 id).slotReady k 21)) = false ∧ stays .stitchedLine (dove 2 21 21 id) = true ∧
    stays .regRecordTake (sets (dove 2 21 22 id) [(0x4400, 7, 255)]) = true := by decide +kernel
theorem witness_stitch : runs .stitchedLine (dove 2 21 22 (fun d => { d with lastLine := some 21 })) (fun t => t.dove.next = 22 && t.reg 0x4400 0x11 = 1 && !t.dove.running) = true := by decide +kernel
def round (w c : Bool) : Round := ⟨2, 3, 4, 0, [(0, 0), (7, 3)], [0, 0], [0, 0], [], w, c, false⟩
theorem witness_rounds : (round false false).lastFor 0 < 20 ∧ (dove 2 21 22 (fun d => { d with round := some (round false false) })).supplies 15 6 = true ∧
    runs .regReady (dove 2 21 22 (fun d => { d with round := some (round false false) })) (fun t => (t.dove.round.map (fun r => r.written)) = some true && fired t 0x82 2) = true := by decide +kernel
/-- A record staged on Dovetail's stream: an XREG record of blocks 0 and 1 (good), or an empty one. -/
def regRec (good : Bool) : State := let s := sets (dove 2 21 22 (fun d => { d with round := some (round true false) })) [(0x3400, 4, 0), (0x5800, 1, 1), (0x5800, 3, 64), (0x5800, 4, 1), (0x5800, 0x0C, 24)]
  { s with xarray := { s.xarray with staged := [⟨0, 254, 0, 6⟩] }, dram := if good then dramWrite [] 0 (beBytes 8 (5 * 2 ^ 12 + 2 ^ 28)) else [] }
theorem witness_reg_records : runs .regRecordTake (regRec true) (fun t => t.xarray.staged = [] && (t.dove.round.map (fun r => r.copied)) = some 1) = true ∧
    runs .regRecordTake (regRec false) (fun t => t.xarray.staged = [] && t.reg 0x4400 0x15 = 1 && (t.dove.round.map (fun r => r.copied)) = some 0) = true := by decide +kernel
/-- The update block at 1000h names frame `f`; pair 0 has a shift of 2 and 1 of full quality. -/
def shift (f : Nat) : State := let s := sets (evAt 0x311 (dove 2 21 22 (fun d => { d with round := some (round true true) }))) [(0x4400, 0x0C, 0x1000), (0x4400, 0x0F, 10), (0x4400, 0x10, 10), (0x5800, 1, 1), (0x5800, 3, 64), (0x5800, 4, 1), (0x5800, 0x0C, 24)]
  place s 0x1000 (beBytes 4 f ++ zeroBytes 12 ++ beBytes 4 2 ++ beBytes 2 1 ++ beBytes 4 0x7FFFFFFF ++ zeroBytes 6)
theorem witness_shift : (shift 2).pairPasses ((shift 2).loadZ 0x1000 256) 0 = true ∧
    runs .doveShift (shift 2) (fun t => t.dove.updates.contains ⟨3, 1, 9, 4, false⟩ && t.reg 0x4400 0x14 = 0) = true ∧
    runs .doveShift (shift 3) (fun t => t.dove.updates = [] && t.reg 0x4400 0x14 = 1 && fired t 0x84 3) = true ∧
    mayCmd (dove 2 21 22 id) 1 0x4411 11 = true ∧ runs (.clearCorr 1 1) (dove 2 21 22 id) (fun t => t.dove.updates = [⟨3, 1, 0, 0, true⟩]) = true := by decide +kernel
def glean (st l : Nat) : State := let s := sets (cam 2 id) [(0x4480, 2, st)]
  { s with insp := { s.insp with glean := { s.insp.glean with running := true, fresh := true, queue := [⟨l, [5, 6, 7], []⟩] } } }
theorem witness_glean : (glean 3 29).gleanEnding = true ∧ 29 % (glean 3 29).frameLen + 1 = (glean 3 29).frameLen ∧
    runs .gleanerLine (glean 3 29) (fun t => t.glean.queue = [] && !t.glean.running && t.glean.blobs = [] && t.reg 0x4480 0x14 = 0) = true ∧
    runs .gleanerLine (glean 3 28) (fun t => t.glean.queue = [] && t.glean.running && t.reg 0x4480 0x14 = t.glean.blobs.length) = true := by decide +kernel
end Inspection

namespace Dsp
/-! ### DSP cores -/
/-- A slot A or slot B word: opcode, D, X, Y and the rest (R286, R288). -/
def word (op d x y f : Nat) : Nat := op * 2 ^ 26 + d * 2 ^ 22 + x * 2 ^ 18 + y * 2 ^ 14 + f
/-- Core 15 is ON and runs; `b` is the bundle at its PC, which is 3. D1 is 3 + 4i, D2 is −2 + 5i, D3 is 5, D5 is poisoned. -/
def dsp (b : Nat) (f : DspCore → DspCore) : State :=
  (sets user [(0x500F, 2, 2), (0x500F, 3, 1), (0x500F, 4, 64)]).modCore 15 (fun c => f { c with
    imem := [0, 0, 0, b], pc := 3, bundle := 20,
    d := [0, 0x00030004, 0xFFFE0005, 5, 6], dPoison := [false, false, false, false, false, true],
    a := [0x100, 0x3FFFC, 2, 0x40000, 0x80000000, 0x104, 0, 0], m := [4, 0, 0, 0, 0, 0, 0, 8],
    dmem := dramWrite [] 0x100 [1, 2, 3, 4, 5, 6, 7, 8] })
def slotAt (w : Nat) (f : DspCore → DspCore) : State := dsp (w * 2 ^ 32) f
/-- Core 15 stands at slot A word `w`, as a test; `atA_of` says that it is `State.atA`. -/
def atA (w : Nat) (s : State) : Bool := decide (15 < s.dsp.cores.length) &&
  (match s.issuesA 15 (w / 2 ^ 26) with | some b => decide (slotA b = w) && !(s.core 15).stalls b | none => false)
theorem atA_of {w : Nat} {s : State} (h : atA w s = true) : s.atA 15 (w / 2 ^ 26) w (s.begun 15) := by
  unfold atA at h
  cases hb : s.issuesA 15 (w / 2 ^ 26) with
  | none => rw [hb] at h; simp at h
  | some b =>
    rw [hb] at h
    simp only [Bool.and_eq_true, decide_eq_true_iff, Bool.not_eq_true'] at h
    exact ⟨by decide, h.1, ⟨b, hb, h.2⟩, rfl⟩
/-- Every slot A operation issues on these words. -/
theorem witness_slot_a : ([0, 1, 2, 3, 4, 5, 6, 7, 8, 9, 0x0A, 0x0B, 0x0C, 0x0D, 0x0E, 0x0F, 0x10, 0x11, 0x12, 0x13, 0x14, 0x15, 0x16, 0x17, 0x18, 0x19, 0x1A, 0x1B, 0x1C, 0x1D, 0x1E, 0x1F,
    0x20, 0x21, 0x28, 0x29, 0x2A, 0x2B, 0x2C, 0x2D, 0x2E, 0x2F, 0x30, 0x31, 0x32].map (fun op => word op 0 1 2 0)).all (fun w => atA w (slotAt w id)) = true := by decide +kernel
def after (i : Instr) (s : State) (p : DspCore → Bool) : Bool := runs i s (fun t => p (t.core 15))
/-- A slot A operation's last queued write, two bundles on or the next. -/
def queues (i : Instr) (w : Nat) (k : Nat) (v : RegWrite) (f : DspCore → DspCore := id) : Bool := after i (slotAt w f) (fun c => c.writes.getLast? = some ⟨20 + k, false, v⟩)
/-- (3 + 4i)(−2 + 5i) = −26 + 7i, and (3 + 4i)(−2 − 5i) = 14 − 23i. -/
theorem witness_accumulates : queues (.cmul 15) (word 1 0 1 2 1) 2 (.ac 1 ⟨-26, 7, false⟩) = true ∧ queues (.cmulj 15) (word 2 0 1 2 0) 2 (.ac 0 ⟨14, -23, false⟩) = true ∧
    queues (.cmac 15) (word 3 0 1 2 0) 2 (.ac 0 ⟨2 ^ 39 - 1, 7, false⟩) (fun c => { c with ac := [⟨2 ^ 39 - 1, 0, false⟩, DspAcc.zero] }) = false ∧
    queues (.cmsu 15) (word 5 0 1 2 0) 2 (.ac 0 ⟨2 ^ 39 - 1, -7, false⟩) (fun c => { c with ac := [⟨2 ^ 39 - 1, 0, false⟩, DspAcc.zero] }) = true ∧
    queues (.cmul 15) (word 1 0 1 5 0) 2 (.ac 0 ⟨0, 0, true⟩) = true ∧ queues (.cmag 15) (word 6 0 1 0 0) 2 (.ac 0 ⟨25, 0, false⟩) = true ∧
    after (.aclr 15) (slotAt (word 8 0 0 0 2) id) (fun c => c.writes.length = 2) = true ∧ bitAt (word 8 0 0 0 0) 1 = false := by decide +kernel
def accs (c : DspCore) : DspCore := { c with acOut := [⟨70000, -70000, false⟩, ⟨9, 9, false⟩] }
theorem witness_moves : (bitAt (word 9 4 0 0 0) 4 && !bitAt (word 9 4 0 0 0) 5 && false) = false ∧ (bitAt (word 9 4 0 0 16) 4 && !bitAt (word 9 4 0 0 16) 5 && true) = true ∧
    ((slotAt (word 9 4 0 0 16) accs).begun 15 |>.accOut 0).poison = false ∧ ((slotAt (word 0x0A 4 0 0 16) accs).begun 15 |>.accOut 1).poison = false ∧
    bitAt (word 0x0A 4 0 0 16) 4 = true ∧ bitAt (word 0x0A 4 0 0 0) 4 = false ∧
    after (.mva 15) (slotAt (word 9 4 0 0 16) accs) (fun c => c.writes.length = 2) = true ∧ after (.mva2 15) (slotAt (word 0x0A 4 0 0 16) accs) (fun c => c.writes.length = 3) = true ∧
    queues (.mva 15) (word 9 4 0 0 32) 2 (.d 4 70000 false) accs = true := by decide +kernel
theorem witness_computes : queues (.cadd 15) (word 0x0B 4 1 2 0) 1 (.d 4 0x00010009 false) = true ∧ queues (.cconj 15) (word 0x0D 4 1 0 0) 1 (.d 4 0x0003FFFC false) = true ∧
    queues (.subD 15) (word 0x11 4 0 3 0) 1 (.d 4 0xFFFFFFFB false) = true ∧ queues (.asr 15) (word 0x16 4 2 0 0x204) 1 (.d 4 0xFFFFE000 false) = true ∧
    queues (.addi 15) (word 0x18 4 3 0 0x3FFF) 1 (.d 4 4 false) = true ∧ queues (.movhi 15) (word 0x1A 3 0 0 7) 1 (.d 3 0x00070005 false) = true ∧
    queues (.cmpD 15) (word 0x1B 4 2 1 2) 1 (.flag 0 true) = true ∧ queues (.mulD 15) (word 0x1C 4 3 3 0) 2 (.d 4 25 false) = true ∧ queues (.addD 15) (word 0x10 4 3 5 0) 1 (.d 4 0 true) = true := by decide +kernel
/-- A division by 0 sets DZ; a second division waits for the first. -/
theorem witness_divides : ((slotAt (word 0x1D 4 3 0 0) id).begun 15).div = none ∧
    after (.divD 15) (slotAt (word 0x1D 4 3 0 0) id) (fun c => c.div = some ⟨38, false, .d 4 0x7FFFFFFF false⟩ && bitAt c.sr 12) = true ∧
    runs (.divD 15) (slotAt (word 0x1D 4 3 1 0) (fun c => { c with div := some ⟨27, false, .d 1 2 false⟩ })) (fun t => (t.core 15).div = some ⟨38, false, .d 4 2 false⟩ && t.reg 0x500F 9 = 7) = true := by decide +kernel
theorem witness_control : ((slotAt (word 0x1E 4 0 0 0x0E) id).beginBundle 15).crRead 15 0x0E = some 0 ∧ ((slotAt (word 0x1E 4 0 0 0x3F) id).beginBundle 15).crRead 15 0x3F = none ∧
    after (.movc 15) (slotAt (word 0x1E 4 0 0 0x3F) id) (fun c => c.trap = some ⟨7, 0, 3, 0, 0⟩) = true ∧ crWritable 0x0C 5 = true ∧ crWritable 0x0A 5 = false ∧ crWritable 0x20 0xC0000000 = false ∧
    bitAt ((slotAt (word 0x1F 0 3 0 0x0A) id).begun 15).sr srExc = false ∧ ((slotAt (word 0x1F 0 3 0 0x0A) id).begun 15).trap = none ∧
    after (.movcw 15) (slotAt (word 0x1F 0 3 0 0x0A) id) (fun c => c.trap = some ⟨7, 0, 3, 0, 0⟩) = true ∧ queues (.movra 15) (word 0x21 0 3 0 8) 1 (.m 0 5) = true ∧ queues (.movar 15) (word 0x20 4 0 0 15) 1 (.d 4 8 false) = true := by decide +kernel
def given (s : State) (k : Nat) : State := s.setInput k { InputState.reset with held := some ⟨0, ⟨0x700, 0, 0, 0, 0, 0⟩, 0⟩ }
def input (w : Nat) (k : Nat) : State := given (slotAt w id) k
theorem witness_waits : (slotAt (word 0x2F 4 0 0 1) id).dspIpr 15 &&& (word 0x2F 4 0 0 1 % 2 ^ 8) = 0 ∧ atA (word 0x2F 4 0 0 1) (input (word 0x2F 4 0 0 1) (irqInput 15 0)) = true ∧
    (input (word 0x2F 4 0 0 1) (irqInput 15 0)).dspIpr 15 &&& (word 0x2F 4 0 0 1 % 2 ^ 8) ≠ 0 ∧
    runs (.waite 15) (input (word 0x2F 4 0 0 1) (irqInput 15 0)) (fun t => (t.core 15).writes = [⟨21, false, .d 4 1 false⟩] && t.dspRun 15 = 1) = true ∧
    runs (.sige 15) (slotAt (word 0x30 0 0 0 3) id) (fun t => fired t 0x17B 0) = true ∧ after (.trapD 15) (slotAt (word 0x31 0 0 0 15) id) (fun c => c.trap = some ⟨9, 15, 3, 0, 0⟩) = true := by decide +kernel
theorem witness_branches : ((slotAt (word 0x28 0 0 0 8191) id).begun 15).cond 0 = true ∧ ((slotAt (word 0x28 4 0 0 8191) id).begun 15).cond 4 = false ∧
    after (.br 15) (slotAt (word 0x28 0 0 0 8191) id) (fun c => c.branch = some (8191, 3)) = true ∧
    queues (.call 15) (word 0x29 0 0 0 9) 1 (.lr 6) = true ∧ after (.repd 15) (slotAt (word 0x2D 0 0 0 0) id) (fun c => c.skip = some 5 && c.rep.isNone) = true ∧
    after (.repd 15) (slotAt (word 0x2D 3 0 0 0x1000) id) (fun c => c.rep = some ⟨4, 2, 4, true⟩) = true ∧ (((slotAt (word 0x2D 1 0 0 0) id).begun 15).dv 1).toNat > 4096 ∧
    after (.repd 15) (slotAt (word 0x2D 1 0 0 0) id) (fun c => c.skip = some 5 && c.trap = some ⟨6, 0, 3, 0, 0⟩) = true ∧
    after (.repd 15) (slotAt (word 0x2D 3 0 0 0x1F000) id) (fun c => c.trap = some ⟨6, 0, 3, 0, 0⟩) = true := by decide +kernel
/-- Core 15 has issued slot A of its bundle and stands at slot B word `w`. -/
def second (w : Nat) (f : DspCore → DspCore := id) : State := dsp w (fun c => f { c with issued := true })
theorem second_goesOn : (second 0).goesOn 15 ((second 0).core 15) := ⟨by decide, by decide, by decide, by decide, by decide +kernel⟩
theorem witness_slot_b : ([0, 1, 2, 3, 4, 5, 6, 7, 8, 9, 0x0A, 0x0B].map (fun op => word op 0 0 0 0)).all (fun w => ((second w).core 15).issued &&
    (match ((second w).core 15).fetch with | some b => slotB b = w && fOp w = w / 2 ^ 26 | none => false)) = true := by decide +kernel
/-- Words of slot B with their own fields: D, A and M, then the rest. -/
def wordB (op d a m f : Nat) : Nat := op * 2 ^ 26 + d * 2 ^ 22 + a * 2 ^ 19 + m * 2 ^ 16 + f
theorem witness_loads : localOk 0x3FFFC ∧ localFault 2 = some cAlign ∧ localFault 0x40000 = some cBadAddr ∧ farFault 0x80000000 = none ∧
    after (.ld 15 []) (second (wordB 1 4 0 7 0)) (fun c => c.writes = [⟨23, true, .d 4 0x01020304 false⟩] && c.a.getD 0 0 = 0x108 && c.pc = 4) = true ∧
    after (.ld 15 [2]) (second (wordB 1 4 0 0 0)) (fun c => c.trap = some ⟨1, 0, 3, 0x100, 0⟩ && bitAt c.sr 9) = true ∧
    after (.ldo 15 []) (second (wordB 2 4 5 0 0xFFF)) (fun c => c.writes = [⟨23, true, .d 4 0x01020304 false⟩]) = true ∧
    after (.ldo 15 []) (second (wordB 2 4 2 0 0)) (fun c => c.trap = some ⟨4, 0, 3, 2, 0⟩) = true ∧
    after (.st 15) (second (wordB 3 1 1 0 0)) (fun c => (c.word 0x3FFFC) = 0x00030004 && c.a.getD 1 0 = 0x40000) = true ∧
    after (.st 15) (second (wordB 3 1 3 0 0)) (fun c => c.trap = some ⟨5, 0, 3, 0x40000, 0⟩ && c.dmem.length = 8) = true ∧
    after (.sto 15) (second (wordB 4 1 0 0 1)) (fun c => (c.word 0x104) = 0x00030004) = true := by
  refine ⟨⟨?_, ?_⟩, ?_⟩ <;> decide +kernel
theorem witness_pairs : after (.ld2 15 []) (second (wordB 5 4 0 0 (0x3000 + 5 * 512 + 7 * 64))) (fun c => c.writes.length = 2 && c.a.getD 5 0 = 0x10C) = true ∧
    after (.st2 15) (second (wordB 6 1 0 0 (0x2000 + 5 * 512))) (fun c => c.word 0x104 = 0xFFFE0005) = true ∧
    after (.ldst 15 []) (second (wordB 7 4 0 0 (0x2000 + 5 * 512))) (fun c => c.word 0x104 = 0xFFFE0005 && c.writes.length = 1) = true ∧
    runs (.fld 15) (second (wordB 8 4 4 0 0)) (fun t => t.reg 0x500F 0x12 = 1) = true ∧ after (.ldai 15) (second (wordB 0x0B 0 6 7 0xFFFF)) (fun c => c.a.getD 6 0 = 0x7FFFF) = true := by decide +kernel
def trapped : State := slotAt 0 (fun c => { c with trap := some ⟨2, 3, 1, 0x44, 2⟩, vbr := 0x40 })
theorem witness_trap : 15 < trapped.dsp.cores.length ∧ trapped.mayEnter 15 = true ∧ (trapped.core 15).trap = some ⟨2, 3, 1, 0x44, 2⟩ ∧
    runs (.trapEntry 15 0 0) trapped (fun t => (t.core 15).pc = 0x48 && (t.core 15).epc = 3 && (t.core 15).ecause = 0x2302 && t.reg 0x500F 0x0A = 1) = true := by decide +kernel
def asked : State := given (slotAt 0 (fun c => { c with sr := 0x2000, imr := 128 })) (irqInput 15 7)
theorem witness_interrupt : asked.mayEnter 15 = true ∧ (asked.core 15).trap = none ∧ asked.dspIrqChoice 15 = some 7 ∧
    runs (.interruptEntry 15 0) asked (fun t => (t.core 15).pc = 92 && t.reg 0x500F 0x0B = 1 && (t.input (irqInput 15 7)).held.isNone) = true := by decide +kernel
def far (store : Bool) (cause : Nat) : State := slotAt 0 (fun c => { c with far := [⟨6, store, 4, 0x80000000, 9, 2, true⟩], responses := [⟨6, cause, 0x1234⟩] })
theorem witness_far : [(false, 0), (true, 0), (false, 5), (true, 3)].all (fun x => let c := (far x.1 x.2).core 15
      c.responses = [⟨6, x.2, 0x1234⟩] && c.far.find? (fun f => f.id = 6) = some ⟨6, x.1, 4, 0x80000000, 9, 2, true⟩ && c.double.isNone && !bitAt c.sr 14 && c.trap.isNone) = true ∧
    after (.farResponse 15) (far false 0) (fun c => c.far = [] && c.d.getD 4 0 = 0x1234) = true ∧ after (.farResponse 15) (far false 5) (fun c => c.trap = some ⟨8, 0, 2, 0x80000000, 0⟩ && c.poisoned 4) = true ∧
    ((far false 0).core 15).far.find? (fun f => !f.store) = some ⟨6, false, 4, 0x80000000, 9, 2, true⟩ ∧ after (.farTimeout 15) (far false 0) (fun c => c.trap = some ⟨3, 0, 2, 0x80000000, 0⟩) = true := by decide +kernel
def run (r : Nat) (f : DspCore → DspCore) : State := (slotAt 0 f).setDspRun 15 r
/-- An image of one bundle 32, entry 0 and VBR 4. -/
def loading : State := (run 6 (fun c => { c with imageNew := true })).setDom 0x510F 1 (zeroBytes 6 ++ [0, 1, 0, 0, 0, 4] ++ zeroBytes 59 ++ [0x20])
theorem witness_images : [2, 3, 4, 5, 1].all (fun r => let s := run r (fun c => { c with applyReq := true })
      (s.core 15).applyReq && (s.core 15).far.isEmpty && s.dspRun 15 = r && (s.core 15).boundary && runs (.imageApply 15) s (fun t => t.dspRun 15 = 6 && t.reg 0x510F 4 = 1)) = true := by decide +kernel
theorem witness_loading : loading.dspRun 15 = 6 ∧ (loading.core 15).imageNew = true ∧ runs (.imageLoadComplete 15) loading (fun t => t.dspRun 15 = 1 && (t.core 15).vbr = 4 && (t.core 15).imem.length = (loading.core 15).imem.length) = true := by decide +kernel
def debug (r : Nat) (f : DspCore → DspCore) : State := sets (run r f) [(0x1050, 1, 1), (0x1050, 3, 1), (0xF50F, 7, 3)]
theorem witness_debug : [1, 2, 3].all (fun sub => mayCmd (debug 2 id) 1 0xF50F sub) = true ∧ mayCmd (debug 5 id) 1 0xF50F 2 = true ∧ mayCmd (debug 5 id) 1 0xF50F 3 = true ∧
    mayCmd (debug 1 (fun c => { c with issued := true })) 1 0xF50F 1 = true ∧ mayCmd (debug 6 id) 1 0xF50F 1 = true ∧
    runs (.debugHaltCmd 1 15) (debug 1 id) (fun t => t.dspRun 15 = 5) = true ∧ runs (.debugHaltCmd 1 15) (debug 1 (fun c => { c with issued := true })) (fun t => t.dspRun 15 = 1 && (t.core 15).haltReq) = true ∧
    runs (.debugResume 1 15) (debug 5 id) (fun t => t.dspRun 15 = 1 && !(t.core 15).stepping) = true ∧ runs (.debugStep 1 15) (debug 5 id) (fun t => t.dspRun 15 = 1 && (t.core 15).stepping) = true ∧
    (debug 1 id).atBreak 15 = true ∧ runs (.breakpointHit 15) (debug 1 id) (fun t => t.dspRun 15 = 5) = true := by decide +kernel
end Dsp

namespace Dram
/-! ### DRAM -/
/-- Organisation 1, one protected GiB in each of 24 channels. -/
def mem : State := sets user [(0x5800, 1, 1), (0x5800, 2, 0), (0x5800, 3, 64), (0x5800, 4, 1), (0x5800, 0x0C, 24)]
/-- Sixty-four bytes of 09h, and an open assembly of unit 0 with these bytes and a mask. -/
def nines : Bytes := List.replicate 64 9
def memAsm (mask : Nat) : State := { mem with ddr := { DramState.reset with assemblies := [⟨0, mask, 0, nines⟩] } }
theorem witness_dram_map : mem.protSize ≤ mem.protSize + 64 ∧ mem.dramExists (mem.protSize + 64) = true ∧ mem.mapAddr (mem.protSize + 64) = some (1, 2 ^ 24) := by decide +kernel
theorem witness_dram_place : mem.localUnit (mem.deviceKey 23 5) = 5 ∧ (sets mem [(0x5800, 5, 2)]).localUnit ((sets mem [(0x5800, 5, 2)]).deviceKey 23 (2 ^ 40 - 1)) = 2 ^ 40 - 1 := by decide +kernel
theorem witness_dram_write : mem.engineRoom 63 2 ∧ dramWf mem.dram = true ∧
    runs (.parityEngineWrite 63 [1, 2]) mem (fun t => t.load 63 2 = [1, 2] && t.load 62 1 = [0] && t.dram = [] && t.ddr.assemblies.length = 2 && t.reg 0x5801 7 = 128) = true := by
  refine ⟨⟨by decide +kernel, rfl, ?_, ?_, by decide +kernel⟩, by decide +kernel, by decide +kernel⟩
  · intro x h; cases h
  · intro st; rfl
theorem witness_dram_write_last : mem.protSize - 1 + [(7 : Byte)].length ≤ mem.protSize ∧
    runs (.parityEngineWrite (mem.protSize - 1) [7]) mem (fun t => t.load (mem.protSize - 1) 1 = [7]) = true := by decide +kernel
/-- The engine holds these stripe accumulators. -/
def engineOf (l : List (Nat × StripeAcc)) : State := { mem with ddr := DramState.mk [] l [] [] none [] [] }
theorem fullEngine (l : List (Nat × StripeAcc)) (h : l.length = 262143) : dramWf (engineOf l).dram = true ∧ (engineOf l).ddr.writers = [] ∧
    engineBytes < (engineOf l).ddr.occupancy + 128 ∧ (∀ x ∈ (engineOf l).ddr.assemblies, (engineOf l).chanState x.unit = 1) ∧
    (engineOf l).assembly 0 = none ∧ 0 + [(7 : Byte)].length ≤ (engineOf l).protSize := by
  refine ⟨rfl, rfl, ?_, fun x hx => (by cases hx), rfl, (by decide +kernel : 0 + [(7 : Byte)].length ≤ mem.protSize)⟩
  simp only [engineOf, DramState.occupancy, engineBytes, h, List.length_nil]; omega
theorem witness_dram_full : ∃ s : State, dramWf s.dram = true ∧ s.ddr.writers = [] ∧ engineBytes < s.ddr.occupancy + 128 ∧ (∀ x ∈ s.ddr.assemblies, s.chanState x.unit = 1) ∧
    s.assembly 0 = none ∧ 0 + [(7 : Byte)].length ≤ s.protSize := ⟨engineOf (List.replicate 262143 (0, ⟨0, [], []⟩)), fullEngine _ (List.length_replicate ..)⟩
theorem witness_dram_noClose : mem.nextClose = none ∧ stays (.assemblyClose true) mem = true := by decide +kernel
theorem witness_dram_close_whole : (memAsm (2 ^ 64 - 1)).nextClose = some ⟨0, 2 ^ 64 - 1, 0, nines⟩ ∧ mem.mapAddr 0 = some (0, 0) ∧ 64 * 0 < mem.protSize ∧
    popCount 23 (setBit 0 0) ≠ 23 ∧ mem.chanState (parityChannel 24 0) = 0 ∧
    runs (.assemblyClose false) (memAsm (2 ^ 64 - 1)) (fun t => t.ddr.assemblies = [] && t.devUnit 0 0 = nines && t.reg 0x5801 3 = 0 && (t.stripeAcc 0).closed = 1) = true ∧
    runs (.assemblyClose true) (memAsm (2 ^ 64 - 1)) (fun t => t.reg 0x5801 2 = 1 && t.reg 0x5801 4 = 22) = true := by decide +kernel
/-- Every data position of stripe 0 but the first has closed, with a sum of units of 04h. -/
def memLast : State := { memAsm (2 ^ 64 - 1) with ddr := { (memAsm (2 ^ 64 - 1)).ddr with stripes := [(0, ⟨2 ^ 23 - 2, List.replicate 64 4, zeroBytes 64⟩)] } }
theorem witness_dram_close_last : popCount 23 (setBit (memLast.stripeAcc 0).closed 0) = 23 ∧ bitAt (memLast.stripeAcc 0).closed 0 = false ∧ (memLast.stripeAcc 0).sum.length = 64 ∧ sorted memLast.ddr.stripes = true ∧
    runs (.assemblyClose false) memLast (fun t => t.reg 0x5801 1 = 1 && t.reg 0x5801 2 = 0 && t.ddr.stripes = [] && t.devUnit 23 0 = List.replicate 64 13) = true := by decide +kernel
def memOld : State := { memAsm 1 with time := { mem.time with tclk := 1000000000 } }
theorem witness_dram_close_part : memOld.nextClose = some ⟨0, 1, 0, nines⟩ ∧ memOld.localReadable 0 0 = true ∧
    runs (.assemblyClose false) memOld (fun t => t.reg 0x5801 3 = 1 && t.devUnit 0 0 = 9 :: zeroBytes 63 && t.ddr.assemblies = []) = true := by decide +kernel
theorem witness_dram_read : mem.mapAddr 64 = some (1, 0) ∧ mem.chanState 1 = 0 ∧ mem.unitBad 1 0 = false ∧ mem.tooManyErrors 1 = false ∧ mem.needsDram 64 64 1 = true ∧
    runs (.dramRead 64 3 1) mem (fun t => t.reg 0x5811 5 = 1 && t.reg 0x5811 2 = 1 && t.reg 0x5811 4 = 0 && t.ddr.bad = [] && t.dram = []) = true ∧
    runs (.dramRead 64 0 0) mem (fun t => t.reg 0x5811 5 = 1 && t.reg 0x5811 2 = 0) = true ∧
    (memAsm (2 ^ 64 - 1)).needsDram 0 64 0 = false ∧ stays (.dramRead 0 0 0) (memAsm (2 ^ 64 - 1)) = true := by decide +kernel
def memLost : State := sets mem [(0x5811, 1, 2)]
def memBad : State := { memLost with ddr := { memLost.ddr with bad := [memLost.deviceKey 0 0] } }
theorem witness_dram_rebuild : memLost.chanState 1 = 2 ∧ 0 < memLost.protUnits ∧ memLost.rebuildable 1 0 = true ∧ memLost.tooManyErrors 1 = false ∧
    runs (.dramRead 64 0 0) memLost (fun t => t.reg 0x5801 5 = 1 && t.dram = []) = true ∧ memBad.rebuildable 1 0 = false ∧
    runs (.dramRead 64 0 0) memBad (fun t => t.reg 0x5801 6 = 1) = true := by decide +kernel
theorem witness_dram_uncorrectable : mem.rebuildable 1 0 = true ∧ (mem.stripeAcc 0).delta.length = 64 ∧ ((mem.chan 1).errors.filter (fun t => decide (mem.time.tclk - t < 500000))).length + 1 = 1 ∧
    runs (.dramRead 64 0 2) (sets (place mem 0 [3]) [(0x5800, 0x0D, 2)]) (fun t => t.devUnit 1 0 = 3 :: zeroBytes 63 && t.unitBad 1 0 = false && t.reg 0x5801 5 = 1 && t.reg 0x5811 3 = 1 && t.chanState 1 = 0) = true ∧
    runs (.dramRead 64 0 2) (sets mem [(0x5800, 0x0D, 1)]) (fun t => t.chanState 1 = 2 && t.reg 0x5811 0x10 = 1) = true := by decide +kernel
theorem witness_dram_waits : mem.mapAddr (mem.protSize + 64) = some (1, 2 ^ 24) ∧ mem.protUnits ≤ 2 ^ 24 ∧
    runs (.dramRead (mem.protSize + 64) 3 0) (sets mem [(0x5811, 1, 1)]) (fun t => t.ddr.queue = [⟨1, 2 ^ 24, none, 3, t.time.tclk⟩] && t.dram = []) = true := by decide +kernel
theorem witness_dram_scrub : mem.reg 0x5800 0x0C ≠ 0 ∧ runs (.scrubRead 23 1) mem (fun t => (t.chan 23).scrub = 1 && t.reg 0x5827 2 = 1 && t.reg 0x5827 6 = 1 && t.reg 0x5827 5 = 1) = true ∧
    runs (.scrubRead 23 0) mem (fun t => t.reg 0x5827 6 = 0 && t.reg 0x5827 5 = 1) = true := by decide +kernel
def memRow (p : Nat) : State := mem.modChan 0 (fun x => { x with rows := [(0, 5), (64, 6)], postponed := [p, 0], applyRanks := [0], applyBlock := zeroBytes 6 ++ [1, 2] })
theorem witness_dram_refresh : 1 < orgRanks ((memRow 0).reg 0x5800 1) ∧ (memRow 0).chanState 0 ≠ 1 ∧
    runs (.refreshDue 0 0 false) (memRow 3) (fun t => (t.chan 0).rows = [(64, 6)] && t.reg 0x5840 4 = 258 && t.dom 0x5840 1 = zeroBytes 6 ++ [1, 2] && nthD 0 (t.chan 0).postponed 0 = 0) = true ∧
    runs (.refreshDue 0 0 true) (memRow 3) (fun t => (t.chan 0).rows = [(0, 5), (64, 6)] && nthD 0 (t.chan 0).postponed 0 = 4 && t.reg 0x5810 0x0A = 1) = true ∧
    runs (.refreshDue 0 0 true) (memRow 4) (fun t => (t.chan 0).rows = [(64, 6)]) = true := by decide +kernel
theorem witness_dram_mr4 : 23 < mem.dramN ∧ runs (.mr4Read 23 [1, 3, 2] true) mem (fun t => t.reg 0x5827 0x0C = 3 && (t.chan 23).halved) = true := by decide +kernel
theorem witness_dram_lost : mayCmd mem 1 0x5810 0x0D = true ∧ (sets mem [(0x5811, 1, 1)]).chanState 0 ≠ 2 ∧
    runs (.channelLost 0 4) (sets mem [(0x5811, 1, 1)]) (fun t => t.chanState 0 = 2 && t.reg 0x5810 0x10 = 4 && t.chanState 1 = 0 && t.ddr.freqNext = none) = true ∧
    runs (.declareLost 1 23) mem (fun t => t.chanState 23 = 2 && t.reg 0x5827 0x10 = 5) = true ∧ stays (.channelLost 0 5) mem = true := by decide +kernel
theorem witness_dram_rebuild_cmd : mayCmd memLost 1 0x5811 0x0E = true ∧ memLost.chanState 1 = 2 ∧ mayCmd (sets memLost [(0x5800, 0x12, 65536)]) 1 0x5811 0x0E = true := by decide +kernel
def memRebuilt : State := { sets mem [(0x5811, 1, 3)] with ddr := { DramState.reset with bad := [mem.deviceKey 1 7, mem.deviceKey 2 (2 ^ 24)] } }
theorem witness_dram_rebuilt : memRebuilt.chanState 1 = 3 ∧ (∀ c, c < 24 → c ≠ 1 → memRebuilt.chanState c < 2) ∧
    runs (.rebuildComplete 1) memRebuilt (fun t => t.chanState 1 = 0 && t.reg 0x5811 0x0F = 1 && t.ddr.bad = [mem.deviceKey 2 (2 ^ 24)]) = true ∧
    stays (.rebuildComplete 1) (sets memRebuilt [(0x5810, 1, 2)]) = true := by decide +kernel
theorem witness_dram_delays : mayCmd mem 1 0x5857 3 = true ∧ field (mem.shadowBlock 23) 0 1 = mem.reg 0x5800 2 ∧
    runs (.applyDelays 1 23) mem (fun t => (t.chan 23).applyRanks = [0, 1]) = true ∧ mayCmd mem 1 0x5840 5 = true ∧ mem.anyNotOnline = false ∧
    runs (.recalibrate 1 0) mem (fun t => t.reg 0x5840 6 = 1) = true ∧ mayCmd memLost 1 0x5840 5 = true ∧ memLost.anyNotOnline = true ∧
    runs (.recalibrate 1 0) memLost (fun t => t.reg 0x5840 6 = 4) = true := by decide +kernel
def memCal (st : Nat) : State := sets mem [(0x5840, 6, 1), (0x5810, 1, st), (0x5800, 0x12, 10)]
theorem witness_dram_windows : (memCal 0).reg 0x5840 6 = 1 ∧ (memCal 0).ddr.freqNext ≠ some 0 ∧
    runs (.recalWindow 0 false 0 []) (memCal 0) (fun t => t.chanState 0 = 1 && t.reg 0x5840 6 = 1) = true ∧
    runs (.recalWindow 0 false 0 []) (memCal 1) (fun t => t.chanState 0 = 0 && t.reg 0x5840 6 = 1) = true ∧
    runs (.recalWindow 0 true 10 [9]) (memCal 1) (fun t => t.chanState 0 = 0 && t.reg 0x5840 6 = 2 && t.reg 0x5840 4 = 10 && (t.chan 0).applyBlock.take 8 = [0, 1, 0, 0, 0, 0, 0, 10]) = true ∧
    runs (.recalWindow 0 true 9 [9]) (memCal 1) (fun t => t.chanState 0 = 2 && t.reg 0x5840 6 = 3 && t.reg 0x5840 4 = 9 && t.reg 0x5810 0x10 = 4) = true := by decide +kernel
def memFreq : State := sets mem ([(0x5800, 0x0E, 0)] ++ (List.range 15).map (fun i => (0x5871, i + 1, (dramTiming 1 0).getD i 0)))
def memChg (ch st : Nat) : State := { sets memFreq [(0x5810 + ch, 1, st), (0x5800, 0x0E, 1), (0x5871, 15, 77)] with ddr := { DramState.reset with freqNext := some ch } }
theorem witness_dram_freq : mayCmd memFreq 1 0x5800 0x0F = true ∧ memFreq.freqOk = true ∧ runs (.freqChange 1) memFreq (fun t => t.ddr.freqNext = some 0 && t.reg 0x5800 0x10 = 1) = true ∧
    runs .channelFreqSwitch (memChg 0 0) (fun t => t.chanState 0 = 1 && t.ddr.freqNext = some 0) = true ∧
    runs .channelFreqSwitch (memChg 0 1) (fun t => t.chanState 0 = 0 && t.ddr.freqNext = some 1 && t.dom 0x5840 1 = (memChg 0 1).shadowBlock 0) = true ∧
    runs .channelFreqSwitch (memChg 23 1) (fun t => t.chanState 23 = 0 && t.ddr.freqNext = none && t.reg 0x5800 2 = 1 && t.reg 0x5800 0x10 = 2 && t.reg 0x5870 15 = 77) = true := by decide +kernel
theorem witness_dram_store : mayCmd mem 1 0x5880 2 = true := by decide +kernel
end Dram

namespace Fabric
def mem : State := sets user [(0x5800, 1, 1), (0x5800, 2, 0), (0x5800, 3, 64), (0x5800, 4, 1), (0x5800, 0x0C, 24)]
/-! ### Fabric and DMA -/
/-- A request reaches a target, as a test. -/
def routes (s : State) (m a : Nat) (w : Bool) (x : FabTarget) : Bool := match s.route m a w with | .ok t => decide (t = x) | .error _ => false
/-- A request reaches nothing, for a cause. -/
def routesNot (s : State) (m a : Nat) (w : Bool) (c : Nat) : Bool := match s.route m a w with | .ok _ => false | .error x => decide (x = c)
/-- Request of an unwindowed master. -/
def req (a n : Nat) (w : Bool) : FabReq := ⟨a, n, w, [1, 2, 3, 4], 0, true, 0, 0⟩
theorem witness_fabric_unwindowed : masterOk 0 = true ∧ windowed 0 = false ∧ masterOk 0x67 = true ∧ windowed 0x60 = false ∧
    (∀ w, routesNot mem 0x60 0x24000000000 w cDecode = true) ∧
    runs (.fabricRequest 0x60 (req 0x24000000000 4 false)) mem (fun t => t.reg 0x5C00 4 = 1 && t.reg 0x5C03 cDecode = 1 && t.fabric.readData = []) = true ∧
    routes mem 0x67 0x10000000 false (.rom 0) = true ∧ routes mem 0 0x400000000000 true (.dram 0) = true ∧
    mem.lockedOut 0 (.dram 0) 4 = false ∧ mem.dramExists 3 = true ∧ mem.rangeReadable 0 4 = true ∧
    runs (.fabricRequest 0 (req 0x400000000000 4 false)) mem (fun t => t.fabric.readData = [0, 0, 0, 0]) = true ∧
    runs (.fabricRequest 0 (req 0x400000000000 4 true)) mem (fun t => t.load 0 4 = [1, 2, 3, 4]) = true ∧
    routes mem 0 0x201FFFFC true (.sram 0x1FFFFC) = true ∧
    runs (.fabricRequest 0 (req 0x201FFFFC 4 true)) mem (fun t => t.fabric.sram = dramWrite [] 0x1FFFFC [1, 2, 3, 4] && t.dram = []) = true ∧
    runs (.fabricRequest 0 (req 0x201FFFFC 4 false)) mem (fun t => t.fabric.readData = [0, 0, 0, 0] && t.fabric.sram = []) = true := by decide +kernel
def memHole : State := { sets mem [(0x5811, 1, 2), (0x5812, 1, 2)] with ddr := { DramState.reset with bad := [unitKey 1 0] } }
theorem witness_fabric_unreadable : routes memHole 0 0x400000000040 true (.dram 64) = true ∧ memHole.rangeReadable 64 4 = false ∧ memHole.dramExists 67 = true ∧
    runs (.fabricRequest 0 (req 0x400000000040 4 false)) memHole (fun t => t.fabric.readData = [] && t.reg 0x5C03 cAccessFail = 1 && t.dram = []) = true := by decide +kernel
/-- Window 31 of every master, one TiB from 0, onto DRAM from 0, readable and writable. -/
def win : State := sets mem [(0x5C5F, 1, 1), (0x5C5F, 2, 2 ^ 80 - 1), (0x5C5F, 3, 0), (0x5C5F, 4, 2 ^ 40), (0x5C5F, 5, 0), (0x5C5F, 6, 3)]
def far (s : State) (store : Bool) (a : Nat) : State := s.modCore 15 (fun c => { c with far := [⟨7, store, 0, 0x80000000 + a, 0x01020304, 0, false⟩] })
def walkOf (m : Nat) (w : Bool) : Walk := ⟨m, 7, ⟨0, 4, w, [], 0, false, 0, 0⟩⟩
/-- The same window, by page tables at DRAM address 1000h; `pte` is the first entry of the table. -/
def paged (pte : Nat) : State := let s := sets win [(0x5C5F, 1, 2), (0x5C5F, 5, 0x1000)]
  place s 0x1000 (beBytes 8 pte)
theorem witness_fabric_far : (far win false 64).xlate 0x1F 64 false false = .phys 31 64 none ∧ routes (far win false 64) 0x1F 64 false (.dram 64) = true ∧
    runs (.fabricRequest 0x1F (req 0 0 false)) (far win false 64) (fun t => (t.core 15).responses = [⟨7, 0, 0⟩] && t.reg 0x5C5F 7 = 1 && t.reg 0x5C01 3 = 0) = true ∧
    runs (.fabricRequest 0x1F (req 0 0 false)) (far win true 64) (fun t => t.load 64 4 = [1, 2, 3, 4]) = true ∧
    (far mem false 0).xlate 0x1F 0 false false = .fault cWindowMiss 0xFF ∧
    runs (.fabricRequest 0x1F (req 0 0 false)) (far mem false 0) (fun t => (t.core 15).responses = [⟨7, cWindowMiss, 0⟩] && t.reg 0x5C03 cWindowMiss = 1 && t.reg 0x5C00 4 = 1) = true ∧
    (far (paged 0) false 0).xlate 0x1F 0 false false = .miss 31 ∧
    runs (.fabricRequest 0x1F (req 0 0 false)) (far (paged 0) false 0) (fun t => t.fabric.walks.length = 1 && t.reg 0x5C01 4 = 1) = true ∧
    (far win false 0).inFlight 0x1F = false ∧
    stays (.fabricRequest 0x1F (req 0 0 false)) { far win false 0 with fabric := { win.fabric with walks := [walkOf 0x1F false] } } = true := by decide +kernel
/-- A descriptor of 64 bytes from 128 to 256, CHAIN and what word 4 adds. -/
def desc (w4 : Nat) : List Nat := [128, 256, 64, 0xFFC0, w4, 0x0102030405060708, 0, 0]
def chan (s : State) (run : Nat) (x : DmaChan) : State := (sets s [(0x5D7F, 2, 2), (0x5D7F, 3, run)]).modDma 63 (fun _ => x)
def idle : DmaChan := DmaChan.reset
def dmaOp (w : Bool) : Instr := .fabricRequest 0x5F (req 0 0 w)
theorem witness_fabric_dma_requests :
    (chan win 1 { idle with mover := true, fetch := some 128 }).dmaRequest 63 false = some (0, 128, []) ∧
    runs (dmaOp false) (chan win 1 { idle with mover := true, fetch := some 128 }) (fun t => (t.dma 63).fetched = some (zeroBytes 64) && (t.dma 63).fetch = none) = true ∧
    runs (dmaOp false) (chan mem 1 { idle with mover := true, fetch := some 128 })
      (fun t => (t.dma 63).fault = some ⟨cWindowMiss, 3, 128, 0⟩ && t.reg 0x5C03 cWindowMiss = 1) = true ∧
    (chan win 1 { idle with mover := true, desc := some (desc 0) }).dmaRequest 63 false = some (1, 128, []) ∧
    runs (dmaOp false) (chan win 1 { idle with mover := true, desc := some (desc 0) })
      (fun t => (t.dma 63).buffer = [(0, zeroBytes 64)] && (t.dma 63).readOff = 64) = true ∧
    runs (dmaOp true) (chan win 1 { idle with mover := true, desc := some (desc (2 ^ 60)) })
      (fun t => t.load 256 9 = [1, 2, 3, 4, 5, 6, 7, 8, 1] && (t.dma 63).writeOff = 64 && t.reg 0x5D7F 0x10 = 64 && t.reg 0x5D00 4 = 64) = true ∧
    runs (dmaOp true) (chan win 2 { idle with mover := true, desc := some (desc 0), buffer := [(0, beBytes 64 5)] })
      (fun t => t.load 319 1 = [5] && (t.dma 63).writeOff = 64) = true ∧
    runs (dmaOp true) (chan mem 1 { idle with mover := true, desc := some (desc (2 ^ 60)) })
      (fun t => (t.dma 63).fault = some ⟨cWindowMiss, 2, 256, 0⟩) = true := by decide +kernel
theorem witness_fabric_room : mem.engineRoom 0 64 ∧ mem.dramSteady := by
  refine ⟨⟨by decide +kernel, rfl, ?_, ?_, by decide +kernel⟩, by decide +kernel, by decide +kernel⟩
  · intro x h; cases h
  · intro st; rfl
/-- Channel 1 of DRAM is OFFLINE. -/
def memOff : State := sets mem [(0x5811, 1, 1)]
def offAddr : Nat := 0x400000000000 + mem.protSize + 64
theorem witness_fabric_held : routes memOff 0 offAddr true (.dram (mem.protSize + 64)) = true ∧
    memOff.heldReq ⟨0, 0, 0xFF, offAddr, { req offAddr 4 false with cls := memOff.masterClass 0 0 }⟩ (.dram (mem.protSize + 64)) = true ∧
    runs (.fabricRequest 0 (req offAddr 4 false)) memOff (fun t => t.fabric.waiting.length = 1 && t.regs = memOff.regs) = true := by decide +kernel
theorem witness_fabric_bursts : (chan win 1 { idle with mover := true, desc := some (desc 0), buffer := List.replicate 256 (0, []) }).burstsFull 63 false = true ∧
    runs (dmaOp false) (chan win 1 { idle with mover := true, desc := some (desc 0), buffer := List.replicate 256 (0, []) }) (fun t => (t.dma 63).buffer.length = 256 && t.fabric.waiting = []) = true ∧
    (chan { win with fabric := { win.fabric with walks := [⟨0x5F, 0, req 0 0 false⟩] } } 1 { idle with mover := true, fetch := some 128 }).inFlight 0x5F = true ∧
    runs (dmaOp false) (chan { win with fabric := { win.fabric with walks := [⟨0x5F, 0, req 0 0 false⟩] } } 1 { idle with mover := true, fetch := some 128 }) (fun t => (t.dma 63).fetch = some 128 && t.fabric.walks.length = 1) = true := by decide +kernel
/-- A leaf of 1 GiB onto 0 with R and W. -/
def leaf : Nat := 2 ^ 63 + 2 ^ 62 + 2 ^ 61 + 2 ^ 58
def walking (pte : Nat) : State := let s := far (paged pte) false 0
  { s with fabric := { s.fabric with walks := List.replicate 15 (walkOf 0x10 false) ++ [walkOf 0x1F false], tlb := [⟨30, 3, 0, 0, true, false, false⟩] } }
theorem witness_walks : (walking leaf).xlate 0x1F 0 false false = .miss 31 ∧ ((walking leaf).walk 31 0).leaf = some ⟨31, 1, 0, 0, true, true, false⟩ ∧
    (walking leaf).lockedOut 0x1F (.dram 0) 4 = false ∧
    runs (.pageWalkComplete 15) (walking leaf) (fun t => t.fabric.walks.length = 15 && t.fabric.tlb.length = 2 && t.reg 0x5C01 5 = 1 && t.reg 0x5C5F 7 = 1) = true ∧
    ((walking 0).walk 31 0).leaf = none ∧
    runs (.pageWalkComplete 15) (walking 0) (fun t => t.fabric.walks.length = 15 && t.fabric.tlb.length = 1 && t.reg 0x5C01 5 = 1 && t.reg 0x5C03 cPteInvalid = 1) = true ∧
    stays (.pageWalkComplete 15) mem = true := by decide +kernel
def locked : State := { walking 0 with fabric := { (walking 0).fabric with walks := [], locks := [⟨0x67, [1], [], 0⟩, ⟨0, [2], [0], 0⟩] } }
theorem witness_locks_invalidations :
    runs (.lockBroken 0x67) locked (fun t => t.fabric.locks = [⟨0, [2], [0], 0⟩] && t.reg 0x5C00 3 = 1 && t.reg 0x5C03 cLockBroken = 1) = true ∧ stays (.lockBroken 0x10) locked = true ∧
    mayCmd locked 1 0x5C01 1 = true ∧ mayCmd locked 1 0x5C01 2 = true ∧
    runs (.invWindow 1 30) locked (fun t => t.fabric.tlb = [] && t.regs = locked.regs) = true ∧ runs (.invWindow 1 31) locked (fun t => t.fabric.tlb.length = 1) = true ∧
    runs (.invAll 1) locked (fun t => t.fabric.tlb = []) = true ∧ runs (.pageInvWindow 0 30) locked (fun t => t.fabric.tlb = []) = true ∧
    runs (.pageInvAll 0x1F) locked (fun t => t.fabric.tlb = []) = true ∧
    runs (.pageInvAll 0x20) locked (fun t => t.fabric = locked.fabric && t.reg 0x5C03 cDecode = 1) = true := by decide +kernel
def startable (a : Nat) : State := sets (chan mem 0 idle) [(0x5D7F, 6, a)]
def dmaEvent (s : State) (id : Nat) : State := s.setInput id { (s.input id) with held := some ⟨0, ⟨1, 0, 0, 0, 0, 0⟩, 0⟩ }
theorem witness_dma_start : mayCmd (startable 64) 1 0x5D7F 7 = true ∧
    runs (.dmaStart (.fdp 1) 63) (startable 64) (fun t => t.dmaRun 63 = 1 && (t.dma 63).fetch = some 64 && t.reg 0x5D7F 0x0B = 64) = true ∧
    runs (.dmaStart (.fdp 1) 63) (startable 65) (fun t => t.dmaRun 63 = 0 && t.reg 0x5D7F 0x0A = cMisalign) = true ∧
    runs (.dmaStart (.fdp 1) 63) (sets (startable 64) [(0x5D7F, 3, 2)]) (fun t => t.dmaRun 63 = 2) = true ∧
    (dmaEvent (startable 64) 0x27E).held 0x27E ≠ none ∧ runs (.dmaStart .event 63) (dmaEvent (startable 64) 0x27E) (fun t => t.dmaRun 63 = 1) = true ∧
    runs (.dmaStart .event 63) (dmaEvent (startable 65) 0x27E) (fun t => t.dmaRun 63 = 0 && t.reg 0x5D7F 0x0A = cMisalign) = true ∧
    routes (startable 64) 0x1F (0x3FF01000000 + 4096 * 63 + 8) false (.chan 63 8) = true ∧
    runs (.dmaStart (.page 0x1F false) 63) (startable 64) (fun t => t.dmaRun 63 = 1) = true ∧
    runs (.dmaStart (.page 0 true) 63) (startable 65) (fun t => t.dmaRun 63 = 0 && t.reg 0x5D7F 0x0A = cMisalign) = true := by decide +kernel
def fetched (len : Nat) : State := chan mem 1 { idle with mover := true, fetched := some ((beBytes 8 0) ++ beBytes 8 64 ++ beBytes 8 len ++ zeroBytes 8 ++ beBytes 8 (2 ^ 63 / 8 + 5 * 2 ^ 48) ++ zeroBytes 24) }
theorem witness_descriptors :
    runs (.descriptorFetch 63) (fetched 64) (fun t => (t.dma 63).desc = some [0, 64, 64, 0, 2 ^ 60 + 5 * 2 ^ 48, 0, 0, 0] && t.reg 0x5D7F 0x0C = 64 && t.reg 0x5D7F 0x0D = 5 && t.dmaRun 63 = 1) = true ∧
    runs (.descriptorFetch 63) (fetched 0) (fun t => t.dmaRun 63 = 6 && t.reg 0x5D7F 0x0A = cBadDesc && t.reg 0x5D7F 0x0D = 5 && !(t.dma 63).mover) = true ∧
    runs (.descriptorFetch 63) (fetched 1) (fun t => t.dmaRun 63 = 6 && t.reg 0x5D7F 0x0A = cMisalign) = true ∧
    runs (.descriptorComplete 63) (chan mem 1 { idle with mover := true, desc := some (desc 0), writeOff := 64 })
      (fun t => t.dmaRun 63 = 5 && t.reg 0x5D7F 0x11 = 1 && t.reg 0x5D00 5 = 1 && !(t.dma 63).mover && t.dram = []) = true ∧
    runs (.descriptorComplete 63) (chan mem 1 { idle with mover := true, desc := some (desc (2 ^ 59)), writeOff := 64 })
      (fun t => t.dmaRun 63 = 1 && (t.dma 63).fetch = some 0xFFC0 && t.reg 0x5D7F 0x0B = 0xFFC0) = true ∧
    runs (.dmaBeatFault 63) (chan mem 2 { idle with mover := true, desc := some (desc 0), buffer := [(0, [])], fault := some ⟨2, 1, 128, 0⟩ })
      (fun t => t.dmaRun 63 = 4 && t.reg 0x5D7F 0x0A = 2 && t.reg 0x5D7F 0x0F = 1 && t.reg 0x5D7F 0x0E = 128 && t.reg 0x5D7F 0x0C = 64 && (t.dma 63).buffer = [] && !(t.dma 63).mover) = true := by decide +kernel
def act (x : DmaChan) (r : Nat) : State := sets (chan mem r { x with desc := some (desc (2 ^ 59)), writeOff := 0 }) [(0x5D7F, 0x0C, 64), (0x5D7F, 0x0B, 0x40)]
theorem witness_aborts : mayCmd (act idle 1) 1 0x5D7F 8 = true ∧
    runs (.dmaAbort (.fdp 1) 63) (act idle 1) (fun t => t.dmaRun 63 = 3 && t.reg 0x5D7F 0x0A = cAborted && t.reg 0x5D7F 0x0C = 64) = true ∧
    runs (.dmaAbort (.fdp 1) 63) (act { idle with mover := true } 1) (fun t => t.dmaRun 63 = 2 && (t.dma 63).mover) = true ∧
    runs (.dmaAbort (.fdp 1) 63) (act idle 4) (fun t => t.dmaRun 63 = 3 && t.fabric = (act idle 4).fabric) = true ∧
    runs (.dmaAbort (.fdp 1) 63) (act idle 5) (fun t => t.regs = (act idle 5).regs) = true ∧
    runs (.dmaAbort .event 63) (dmaEvent (act idle 1) 0x27F) (fun t => t.dmaRun 63 = 3) = true ∧
    runs (.abortComplete 63) (act { idle with mover := true } 2) (fun t => t.dmaRun 63 = 3 && t.reg 0x5D7F 0x0A = cAborted && !(t.dma 63).mover) = true := by decide +kernel
theorem witness_resumes : mayCmd (act idle 4) 1 0x5D7F 9 = true ∧
    runs (.dmaResume (.fdp 1) 63) (act idle 4) (fun t => t.dmaRun 63 = 1 && (t.dma 63).readOff = 0 && (t.dma 63).writeOff = 0) = true ∧
    runs (.dmaResumeNext (.fdp 1) 63) (act idle 3) (fun t => t.dmaRun 63 = 1 && (t.dma 63).fetch = some 0xFFC0) = true ∧
    runs (.dmaResumeNext (.fdp 1) 63) (chan mem 3 { idle with desc := some (desc 0) }) (fun t => t.dmaRun 63 = 5) = true ∧
    runs (.dmaResume (.fdp 1) 63) (sets (chan mem 4 idle) [(0x5D7F, 0x0B, 0x40)]) (fun t => t.dmaRun 63 = 1 && (t.dma 63).fetch = some 0x40) = true ∧
    runs (.dmaResumeNext (.fdp 1) 63) (chan mem 4 idle) (fun t => t.dmaRun 63 = 5) = true ∧
    runs (.dmaResume (.fdp 1) 63) (sets (act idle 4) [(0x5D7F, 2, 0)]) (fun t => t.dmaRun 63 = 4) = true := by decide +kernel
def movers (n : Nat) : State := (List.range n).foldl (fun s c => s.modDma c (fun x => { x with mover := true })) (sets (chan mem 1 idle) [(0x5D7F, 4, 3)])
theorem witness_movers : mem.readyChans = [] ∧ stays .moverAssign mem = true ∧ (movers 3).readyChans = [63] ∧ (movers 3).holders.length = 3 ∧
    runs .moverAssign (movers 3) (fun t => (t.dma 63).mover && (t.dma 0).mover) = true ∧ (movers 4).victim 3 = some 0 ∧
    runs .moverAssign (movers 4) (fun t => (t.dma 63).mover && !(t.dma 0).mover && t.reg 0x5D40 0x12 = 1 && t.reg 0x5D00 6 = 1) = true ∧
    (sets (movers 4) [(0x5D7F, 4, 0)]).victim 0 = none ∧ stays .moverAssign (sets (movers 4) [(0x5D7F, 4, 0)]) = true := by decide +kernel
end Fabric

namespace Timing
/-! ### Timing -/
/-- Line candidate 1 has seen level 2 once. -/
def ql (last : Option Nat) : State := timed.modCand 1 (fun c => { c with lastQl := last })
/-- Line candidate 3 has had a level, with a timeout of `secs` seconds. -/
def qlWait (secs : Nat) : State := (sets timed [(0x6000, 0x13, secs)]).modCand 3 (fun c => { c with lastQl := some 2, qlReceived := some 2, qlAt := 1000 })
/-- Candidate 4 of priority 1, with status bits `st`, and what else it holds. -/
def cand4 (st fails passes : Nat) : State := (sets timed [(0x6014, 1, st), (0x6014, 2, 1), (0x6014, 5, 10)]).modCand 4 (fun c => { c with failRun := fails, passRun := passes })
theorem witness_ql : runs (.qlFrameRx 1 0xA2D0 true) (ql (some 2)) (fun t => (t.cand 1).qlReceived = some 2 && t.reg 0x6011 8 = 2 && bitAt (t.reg 0x6011 1) 4) = true ∧
    timed.reg 0x6011 6 ≠ 1 ∧ runs (.qlFrameRx 1 0xA2D0 true) (ql none) (fun t => (t.cand 1).qlReceived = none && (t.cand 1).lastQl = some 2) = true ∧
    runs (.qlFrameRx 1 0xA2C0 true) (ql none) (fun t => t.reg 0x6011 0x10 = 1 && t.time = (ql none).time) = true ∧
    runs (.qlFrameRx 1 0xA2D0 false) (ql none) (fun t => t.reg 0x6011 0x10 = 1) = true ∧
    runs (.qlTimeout 3) (qlWait 0) (fun t => t.reg 0x6013 8 = timed.reg 0x6013 7 && (t.cand 3).qlReceived = none) = true ∧ stays (.qlTimeout 3) (qlWait 1) = true ∧
    stays (.signalLoss 4) timed = true ∧
    runs (.signalLoss 4) (cand4 3 0 0) (fun t => t.reg 0x6014 1 % 4 = 0 && t.reg 0x6014 0x0E = 1 && t.reg 0x6014 0x0A = 1 && t.reg 0x6014 0x0D = 1 && (t.cand 4).absent) = true ∧
    runs (.signalReturn 1) timed (fun t => t.reg 0x6011 1 % 2 = 1) = true := by decide +kernel
theorem witness_monitor : stays (.monitorWindowEnd [] 5) user = true ∧ (cand4 3 2 2).time.running = true ∧ (cand4 3 2 2).reg 0x6014 2 ≠ 0 ∧
    runs (.monitorWindowEnd [] 5) (cand4 1 2 2) (fun t => (t.cand 4).failRun = 0 && (t.cand 4).passRun = 3 && bitAt (t.reg 0x6014 1) 1 && t.reg 0x6000 0x12 = 1) = true ∧
    runs (.monitorWindowEnd [] 5) (cand4 2 2 2) (fun t => t.reg 0x6014 0x0B = 1 && t.reg 0x6014 0x0A = 1 && !bitAt (t.reg 0x6014 1) 1 && (t.cand 4).passRun = 0) = true ∧
    runs (.monitorWindowEnd [100001] 5) (sets timed [(0x6010, 1, 3), (0x6010, 2, 1), (0x6010, 5, 10)])
      (fun t => t.reg 0x6010 9 = 100001 && (t.cand 0).failRun = 1 && bitAt (t.reg 0x6010 1) 1) = true ∧
    runs (.monitorWindowEnd [100000] 5) (sets timed [(0x6010, 1, 3), (0x6010, 2, 1), (0x6010, 5, 10)]) (fun t => (t.cand 0).passRun = 1) = true := by decide +kernel
def switching (st : Nat) : State := sets (cand4 7 0 3) [(0x6000, 1, st), (0x6000, 2, 4), (0x6000, 0x11, 0), (0x6014, 6, 1), (0x6014, 7, 4)]
theorem witness_switch : stays (.wtrExpiry 4) timed = true ∧
    runs (.wtrExpiry 4) (timed.modCand 4 (fun c => { c with wtr := 1 })) (fun t => (t.cand 4).wtr = 0) = true ∧ stays (.wtrExpiry 4) (timed.modCand 4 (fun c => { c with wtr := 9 })) = true ∧ stays .switchComplete timed = true ∧
    ((((switching 3).inc32 0x6000 0x0E 1).enterRef 2 4).refreshCands).bestCand = some 4 ∧
    runs .switchComplete (switching 3) (fun t => t.reg 0x6000 0x0E = 1 && t.reg 0x6000 1 = 2 && t.reg 0x6000 2 = 4) = true ∧
    stays .refAcquireTimeout (switching 3) = true ∧ bitAt ((switching 1).reg 0x6014 1) 1 = true ∧
    runs .refAcquireTimeout (switching 1) (fun t => t.reg 0x6014 0x0A = 2 && !bitAt (t.reg 0x6014 1) 1 && t.reg 0x6014 0x0D = 1) = true := by decide +kernel
def tbAt (n : Nat) : State := timed.modTb n (fun x => { x with sec := 7, ns := 5, setSec := 9, setNs := 3, outstanding := 11 })
theorem witness_timebases : stays .pps user = true ∧ runs .pps (tbAt 0) (fun t => t.reg 0x6020 3 = 7 && t.reg 0x6020 5 = 1 && fired t 0x308 7 &&
      t.time.history = [⟨6, 0, false⟩]) = true ∧
    mayCmd user 1 0x6020 8 = true ∧ user.cribImageOff = true ∧ user.rxGroupsOff = true ∧
    runs (.scLoad 1) user (fun t => t.time.loadArmed) = true ∧ runs (.scLoad 1) (sets user [(0x245F, 2, 2)]) (fun t => !t.time.loadArmed) = true ∧
    runs .scLoadApply { (sets timed [(0x6020, 7, 123)]) with time := { timed.time with loadArmed := true } } (fun t => t.time.sc = 123 && !t.time.loadArmed) = true ∧
    stays .scLoadApply timed = true ∧
    mayCmd timed 1 0x6045 3 = true ∧ timed.servoOwns 5 = false ∧ runs (.adjust 1 5 (-(2 ^ 63))) (tbAt 5) (fun t => (t.tb 5).outstanding = 11 - 2 ^ 95) = true ∧
    mayCmd timed 1 0x6047 3 = true ∧ runs (.adjust 1 7 1) (tbAt 7) (fun t => (t.tb 7).outstanding = 11) = true ∧
    mayCmd timed 2 0x6045 7 = true ∧ runs (.tbStep 2 5) (sets (tbAt 5) [(0x6045, 6, 2 ^ 33 + 4)]) (fun t => (t.tb 5).sec = 2 && (t.tb 5).ns = 4 && (t.tb 5).outstanding = 0 && t.reg 0x6045 9 = 1) = true ∧
    stays (.tbSet 0x1F true 5) timed = true ∧ runs (.tbSet 0x1F true 6) (tbAt 6) (fun t => (t.tb 6).sec = 9 && (t.tb 6).ns = 3 && (t.tb 6).outstanding = 0) = true ∧
    runs (.tbSet 0 false 7) (tbAt 7) (fun t => (t.tb 7).sec = 7 && t.reg 0x5C03 cFabSecure = 1) = true := by decide +kernel
/-- The PTP unit is ON with its port 1; the servo's flag and threshold. -/
def ptp (servo thr : Nat) (locked : Bool) : State :=
  let s := sets timed [(0x6070, 2, 2), (0x6072, 1, 1), (0x6070, 6, servo), (0x6070, 7, thr)]
  { s with time := { s.time with servoLocked := locked, gmPort := some 1, tbs := modNth (fun x => { x with sec := 10, ns := 50 }) s.time.tbs 0 } }
def sync (st : Nat) : PtpMsg := ⟨0, 10000000000, 0, 20, 6, 77, st⟩
theorem witness_ptp : (ptp 1 0 false).flag 0x6072 1 = true ∧
    runs (.ptpEventRx 1 (sync 8)) (ptp 1 0 true) (fun t => t.reg 0x6072 9 = 1 && t.reg 0x6072 2 = 8 && t.reg 0x6070 0x0D = 77 && t.reg 0x6070 0x0E = 6 && !t.time.servoLocked && (t.tb 0).ns = 50) = true ∧
    runs (.ptpEventRx 1 (sync 9)) (ptp 0 0 false) (fun t => t.reg 0x6070 0x0B = 30 && t.reg 0x6070 0x0C = 20 && bitAt (t.reg 0x6014 1) 0 && (t.tb 0).ns = 50) = true ∧
    runs (.ptpEventRx 1 (sync 9)) (ptp 1 0 false) (fun t => t.time.servoLocked && (t.tb 0).ns = 20 && t.reg 0x6040 9 = 1) = true ∧
    runs (.ptpEventRx 1 (sync 9)) (ptp 1 29 true) (fun t => (t.tb 0).ns = 20 && t.reg 0x6040 9 = 1) = true ∧
    runs (.ptpEventRx 1 (sync 9)) (ptp 1 30 true) (fun t => (t.tb 0).ns = 50 && (t.tb 0).outstanding = -30 * 2 ^ 32 && t.reg 0x6040 9 = 0) = true ∧
    runs (.ptpMessageTx 1 15) (ptp 1 0 true) (fun t => t.outbox = [.ptp 1 15 []]) = true ∧ runs (.ptpMessageTx 1 3) (ptp 1 0 true) (fun t => t.outbox = [.ptp 1 3 (beBytes 8 (10000000050 * 65536))]) = true ∧
    runs (.ptpEventRx 1 { sync 9 with kind := 2 }) (ptp 1 0 true) (fun t => nthD 0 t.time.pdelayRx 1 = 10000000050) = true ∧
    runs (.ptpEventRx 1 (sync 6)) (sets (ptp 1 0 true) [(0x6070, 0x0A, 1), (0x6072, 2, 4)]) (fun t => t.reg 0x6072 2 = 4) = true ∧
    runs (.ptpMessageTx 1 0) (ptp 1 0 true) (fun t => t.outbox = [.ptp 1 0 [0, 0, 0, 0, 0, 10, 0, 0, 0, 50]] && t.reg 0x6072 0x0A = 1) = true ∧
    stays (.ptpEventRx 0 (sync 9)) (ptp 1 0 true) = true ∧ stays (.ptpMessageTx 0 0) (ptp 1 0 true) = true := by decide +kernel
def pulse (mode : Nat) (on : Bool) : State := (sets timed [(0x6057, 1, mode), (0x6057, 5, 100)]).modTout 7 (fun x => { x with active := on })
def pulseEvent (mode : Nat) (on : Bool) : State := (pulse mode on).setInput 0x307 { ((pulse mode on).input 0x307) with held := some ⟨0, ⟨1, 0, 0, 0, 0, 0⟩, 0⟩ }
theorem witness_pulses : runs (.toutTimeReached 7) (pulse 1 false) (fun t => (t.tout 7).active && (t.tout 7).endsAt = 1050 && t.reg 0x6057 7 = 1 &&
      t.outbox = [.tout 7 ((pulse 1 false).toutLevel 7 true)]) = true ∧
    runs (.toutTimeReached 7) (pulse 2 false) (fun t => (t.tout 7).active) = true ∧
    stays (.toutTimeReached 7) (pulse 0 false) = true ∧ stays (.toutTimeReached 7) (pulse 1 true) = true ∧
    runs (.toutEvent 7) (pulseEvent 3 false) (fun t => (t.tout 7).active && t.reg 0x6057 7 = 1) = true ∧
    runs (.toutEvent 7) (pulseEvent 3 true) (fun t => (t.tout 7).endsAt = 1050 && t.reg 0x6057 8 = 1 && t.outbox = []) = true ∧
    runs (.toutEvent 7) (pulseEvent 1 false) (fun t => !(t.tout 7).active && t.held 0x307 = none) = true ∧ stays (.toutEvent 7) (pulse 3 false) = true ∧
    runs (.toutPulseEnd 7) (pulse 1 true) (fun t => !(t.tout 7).active && t.outbox = [.tout 7 ((pulse 1 true).toutLevel 7 false)]) = true ∧
    stays (.toutPulseEnd 7) (pulse 1 false) = true ∧ stays (.toutPulseEnd 7) ((pulse 1 true).modTout 7 (fun x => { x with endsAt := 1001 })) = true := by decide +kernel
def cap (sel : Nat) : State := sets timed [(0x6067, 1, sel), (0x6067, 3, 10)]
theorem witness_captures : runs (.tinCapture 7 true 9) (cap 1) (fun t => t.reg 0x6067 8 = 1 && t.time = (cap 1).time) = true ∧
    runs (.tinCapture 7 true 10) (cap 1) (fun t => t.reg 0x6067 6 = 1 && t.reg 0x6067 7 = 1 && fired t 0x307 1) = true ∧
    runs (.tinCapture 7 false 10) (cap 3) (fun t => t.reg 0x6067 6 = 2 && fired t 0x307 2) = true ∧
    runs (.tinCapture 7 true 10) (cap 2) (fun t => t.reg 0x6067 7 = 0 && t.regs = (cap 2).regs && t.time.tin.getD 7 false) = true := by decide +kernel
end Timing

namespace Position
/-! ### Position -/
/-- Axis 3 is ON at position 100 with sensor `sensor`, min_width 10 and what its hidden state says. -/
def axis (sensor : Nat) (f : Axis → Axis) (xs : List (Nat × Nat × Nat)) : State :=
  (sets timed ([(0x6403, 2, 2), (0x6403, 3, sensor), (0x6403, 5, 10), (0x6403, 9, 100), (0x6403, 7, 2 ^ 64 - 5)] ++ xs)).modAxis 3 f
theorem witness_quadrature : (axis 0 id []).axisOn 3 = true ∧
    runs (.encoderEdge 3 true false 9) (axis 0 id []) (fun t => t.reg 0x6403 0x12 = 1 && t.reg 0x6403 9 = 100) = true ∧
    runs (.encoderEdge 3 true false 10) (axis 0 id []) (fun t => t.reg 0x6403 9 = 101 && (t.axis 3).a) = true ∧
    runs (.encoderEdge 3 true false 10) (axis 0 id [(0x6403, 4, 1)]) (fun t => t.reg 0x6403 9 = 99) = true ∧
    runs (.encoderEdge 3 true true 10) (axis 0 id []) (fun t => t.reg 0x6403 0x11 = 1 && t.reg 0x6403 9 = 100 && (t.axis 3).b) = true ∧
    runs (.encoderEdge 3 false false 10) (axis 0 id []) (fun t => t.reg 0x6403 9 = 100 && t.regs = (axis 0 id []).regs) = true ∧
    runs (.indexEdge 3 9) (axis 0 id []) (fun t => t.reg 0x6403 0x12 = 1) = true ∧ stays (.indexEdge 3 10) (axis 0 id []) = true ∧
    runs (.indexEdge 3 10) (axis 0 id [(0x6403, 6, 1)]) (fun t => t.reg 0x6403 0x10 = 100 && t.reg 0x6403 9 = 100 && fired t 0x317 0) = true ∧
    runs (.indexEdge 3 10) (axis 0 id [(0x6403, 6, 2)]) (fun t => t.reg 0x6403 0x10 = 100 && t.reg 0x6403 6 = 1 && t.reg 0x6403 9 = 2 ^ 64 - 5) = true ∧
    mayCmd timed 1 0x6403 8 = true ∧ runs (.axisPreset 1 3) (axis 0 id []) (fun t => t.reg 0x6403 9 = 2 ^ 64 - 5) = true := by decide +kernel
def hall (h : Option Nat) : State := axis 1 (fun x => { x with hall := h }) []
theorem witness_hall : runs (.hallState 3 1 9) (hall none) (fun t => t.reg 0x6403 0x12 = 1) = true ∧
    runs (.hallState 3 1 10) (hall none) (fun t => (t.axis 3).hall = some 1 && t.regs = (hall none).regs) = true ∧
    runs (.hallState 3 7 10) (hall (some 1)) (fun t => (t.axis 3).hall = none && t.reg 0x6403 0x11 = 1) = true ∧
    stays (.hallState 3 1 10) (hall (some 1)) = true ∧ runs (.hallState 3 3 10) (hall (some 1)) (fun t => t.reg 0x6403 9 = 101) = true ∧
    runs (.hallState 3 5 10) (hall (some 1)) (fun t => t.reg 0x6403 9 = 99) = true ∧
    runs (.hallState 3 4 10) (hall (some 1)) (fun t => (t.axis 3).hall = none && t.reg 0x6403 0x11 = 1 && t.reg 0x6403 9 = 100) = true := by decide +kernel
def ssi (st par : Nat) (r : Option Nat) : State := axis 2 (fun x => { x with ssiRef := r }) [(0x6403, 2, st), (0x6403, 0x14, 8), (0x6403, 0x17, 1), (0x6403, 0x18, par), (0x6403, 0x19, 10)]
theorem witness_ssi : ssiParityOk 1 8 3 true = false ∧ runs (.ssiFrame 3 3 true) (ssi 2 1 none) (fun t => t.reg 0x6403 0x11 = 1 && t.pos = (ssi 2 1 none).pos) = true ∧
    runs (.ssiFrame 3 3 false) (ssi 2 1 none) (fun t => (t.axis 3).ssiRef = some 2 && t.reg 0x6403 9 = 100) = true ∧
    runs (.ssiFrame 3 3 false) (ssi 2 0 (some 250)) (fun t => t.reg 0x6403 9 = 108 && (t.axis 3).ssiRef = some 2) = true ∧
    runs (.ssiFrame 3 3 false) (ssi 2 0 (some 248)) (fun t => t.reg 0x6403 9 = 110) = true ∧
    runs (.ssiFrame 3 3 false) (ssi 2 0 (some 247)) (fun t => t.reg 0x6403 9 = 100 && t.reg 0x6403 0x11 = 1 && (t.axis 3).ssiRef = some 247) = true ∧
    runs (.ssiFrame 3 3 false) (ssi 1 0 none) (fun t => t.reg 0x6403 2 = 2 && t.direction 3 = 0) = true := by decide +kernel
theorem witness_observer : runs (.observerUpdate 3) (axis 0 id [(0x6403, 0x0D, 0x3F000000), (0x6403, 0x0E, 0), (0x6403, 0x0F, 0)])
      (fun t => (t.axis 3).phat = fmt64.ofInt 50 && (t.axis 3).vhat = 0 && t.reg 0x6403 0x0A = 0) = true ∧
    runs (.standstill 3) (axis 0 (fun x => { x with vhat := 1 }) [(0x6403, 0x0C, 0)]) (fun t => t.reg 0x6403 0x0B = 1 && t.reg 0x6403 0x0A = 0 && (t.axis 3).vhat = 0 && (t.axis 3).phat = fmt64.ofInt 100 && fired t 0x31B 0) = true ∧
    stays (.standstill 3) (axis 0 id [(0x6403, 0x0B, 1)]) = true ∧ stays (.standstill 3) (axis 0 id [(0x6403, 0x0C, 1)]) = true ∧
    runs (.encoderEdge 3 true false 10) (axis 0 id [(0x6403, 2, 0)]) (fun t => (t.axis 3).a && t.reg 0x6403 9 = 100) = true := by decide +kernel
/-- Compare list 3 is ON for axis 3 at 100, target 7FFF... `tg`, direction `d`. -/
def cmp (tg d : Nat) (l : CompareList) : State := (axis 0 id [(0x6413, 2, 2), (0x6413, 7, 3), (0x6413, 8, tg), (0x6413, 9, d), (0x6413, 0x0A, 9)]).modList 3 (fun _ => l)
def entry (tg : Int) : CompareEntry := ⟨3, tg, 0, 9, true, false⟩
theorem witness_compare : mayCmd timed 1 0x6413 0x0B = true ∧ mayCmd timed 1 0x6413 0x0C = true ∧ (cmp 101 1 ⟨[], false, [], 0⟩).placeable 3 3 1 = true ∧
    runs (.comparePlace 1 3) (cmp 101 1 ⟨[], false, [], 0⟩) (fun t => (t.clist 3).entries = [⟨3, 101, 1, 9, false, true⟩] && t.reg 0x6413 0x0D = 1) = true ∧
    runs (.comparePlace 1 3) (cmp 99 1 ⟨[], false, [], 0⟩) (fun t => (t.clist 3).entries = [] && t.reg 0x6413 0x0F = 1 && t.reg 0x6413 0x12 = 99 && t.reg 0x6413 0x13 = 9 && fired t 0x327 9) = true ∧
    runs (.comparePlace 1 3) (cmp 100 0 ⟨[], false, [], 0⟩) (fun t => (t.clist 3).active && t.reg 0x6413 0x0E = 1 && fired t 0x323 9 && t.outbox = [.cmpout 3 ((cmp 100 0 ⟨[], false, [], 0⟩).cmpLevel 3 true)]) = true ∧
    runs (.comparePlace 1 3) (cmp 100 0 ⟨[], true, [], 0⟩) (fun t => t.outbox = [] && t.reg 0x6413 0x11 = 1) = true ∧
    runs (.comparePlace 1 3) (cmp 100 3 ⟨[], false, [], 0⟩) (fun t => (t.clist 3).entries = [] && t.reg 0x6413 0x0E = 0) = true ∧
    stays (.markerEntryArrive 3) (cmp 0 0 ⟨[], false, [], 0⟩) = true ∧
    runs (.markerEntryArrive 3) (cmp 0 0 ⟨[], false, [entry 101, entry 7], 0⟩) (fun t => (t.clist 3).arriving = [entry 7] && (t.clist 3).entries.length = 1 && t.reg 0x4493 7 = 1) = true ∧
    runs (.markerEntryArrive 3) (sets (cmp 0 0 ⟨[], false, [entry 101], 0⟩) [(0x6413, 2, 0)]) (fun t => (t.clist 3).arriving = [] && (t.clist 3).entries = [] && t.reg 0x4493 8 = 1 && fired t 0x87 3) = true ∧
    runs (.compareClear 1 3) (cmp 0 0 ⟨[entry 1, entry 2], false, [], 0⟩) (fun t => (t.clist 3).entries = [] && t.reg 0x6413 0x10 = 2 && t.reg 0x6413 0x0D = 0) = true ∧
    runs (.cmpoutPulseEnd 3) (cmp 0 0 ⟨[entry 1], true, [], 0⟩) (fun t => !(t.clist 3).active && t.outbox = [.cmpout 3 ((cmp 0 0 ⟨[], true, [], 0⟩).cmpLevel 3 false)]) = true ∧
    stays (.cmpoutPulseEnd 3) (cmp 0 0 ⟨[entry 1], false, [], 0⟩) = true ∧ stays (.cmpoutPulseEnd 3) (cmp 0 0 ⟨[entry 1], true, [], 2001⟩) = true := by decide +kernel
theorem cmp_full (l : List CompareEntry) (h : l.length = 4096) (a : List CompareEntry) : (cmp 0 0 ⟨l, false, a, 0⟩).placeable 3 3 1 = false := by
  have : ((cmp 0 0 ⟨l, false, a, 0⟩).clist 3).entries = l := rfl
  simp [State.placeable, this, h]
/-- The line generator is ON from the timer, with `owed` edges owed. -/
def lines (src owed : Nat) : State := (sets (axis 0 id []) [(0x6420, 2, 2), (0x6420, 3, src), (0x643F, 1, 1), (0x643F, 2, 6), (0x643F, 3, 9), (0x643F, 4, 1), (0x4000, 2, 2)]).modGen
  (fun g => { g with owed := owed, inFlight := [⟨15, 5, 2000⟩, ⟨15, 6, 2001⟩] })
theorem witness_line_edges : stays .timerLineEdge timed = true ∧ runs .timerLineEdge (lines 4 254) (fun t => t.pos.gen.owed = 255 && t.pos.gen.k = 1 && t.reg 0x6420 8 = 1) = true ∧
    runs .timerLineEdge (lines 4 0) (fun t => t.pos.gen.owed = 1 && t.reg 0x6420 8 = 0) = true ∧
    runs .timerLineEdge (lines 4 255) (fun t => t.pos.gen.owed = 255 && t.pos.gen.k = 1 && t.reg 0x6420 9 = 1) = true ∧ stays .lineEdgeEmit (lines 4 0) = true ∧
    runs .lineEdgeEmit (lines 3 1) (fun t => t.pos.gen.owed = 0 && t.reg 0x6420 7 = 1 && t.reg 0x6420 0x0A = 100 && t.pos.gen.lastOut = some 1000 && t.pos.gen.feed.length = 1 &&
      t.pos.gen.inFlight.contains ⟨15, 6, 2030⟩ && fired t 0x328 0) = true ∧
    runs .lineEdgeEmit (sets (lines 4 255) [(0x4000, 2, 0)]) (fun t => t.pos.gen.owed = 254 && t.reg 0x6420 0x0A = 0 && t.pos.gen.feed = []) = true ∧
    runs (.ltrigPulse 15) (lines 4 0) (fun t => t.pos.gen.inFlight = [⟨15, 6, 2001⟩] && t.outbox = [.ltrig 15 false 9]) = true ∧
    stays (.ltrigPulse 14) (lines 4 0) = true ∧ stays (.ltrigPulse 15) ((lines 4 0).modGen (fun g => { g with inFlight := [⟨15, 6, 2001⟩] })) = true ∧
    stays .lineEdgeEmit ((sets (lines 3 1) [(0x6420, 6, 5)]).modGen (fun g => { g with lastOut := some 999 })) = true := by decide +kernel
end Position

namespace Dowel
/-! ### Dowel and counters -/
def event (src visited : Nat) : Event := ⟨src, 9, 8, 7, visited, 1000⟩
/-- Channel 255 is ON from `src` to input `id`, with gate `gate` of polarity `pol`; one event of `src` has been fired. -/
def chanOn (src id gate pol visited : Nat) : State :=
  let s := sets timed [(0x69FF, 2, 2), (0x69FF, 5, src), (0x69FF, 6, id), (0x69FF, 7, gate), (0x69FF, 8, pol)]
  { s with dowel := { s.dowel with fired := [event src visited] } }
theorem witness_take : stays .eventTake timed = true ∧ ((chanOn 0x41F 0x427 0 0 0).idxWith 0x6900 0x69FF 2 stOn).filter (fun i => (chanOn 0x41F 0x427 0 0 0).reg i 5 = 0x41F) = [0x69FF] ∧
    (!(chanOn 0x41F 0x427 0 0 0).sourceSecure 0x41F && !(chanOn 0x41F 0x427 0 0 0).inputSecure 0x427) = true ∧
    runs .eventTake (chanOn 0x41F 0x427 0 0 (2 ^ 255)) (fun t => t.dowel.fired = [] && t.reg 0x69FF 0x0C = 1 && t.dowel.inputs = []) = true ∧
    runs .eventTake (chanOn 0x3FF 0x427 0 0 (2 ^ 255)) (fun t => t.reg 0x69FF 0x0C = 0 && t.reg 0x69FF 0x0A = 1) = true ∧
    runs .eventTake (chanOn 0x41F 0x427 0 1 0) (fun t => t.dowel.fired = [] && t.reg 0x69FF 0x0B = 1 && t.dowel.inputs = []) = true ∧
    runs .eventTake (chanOn 0x41F 0x427 0 0 1) (fun t => t.dowel.fired = [] && t.reg 0x69FF 0x0A = 1 && t.reg 0x69FF 0x0E = 8 && t.reg 0x69FF 0x0F = 9 &&
      (t.input 0x427).delivered = 1 && (match (t.input 0x427).held with | some d => decide (d.channel = 255) && bitAt d.event.visited 255 | none => false)) = true := by decide +kernel
def heldAt (id src : Nat) (xs : List (Nat × Nat × Nat)) : State := let s := sets timed xs
  s.setInput id { (s.input id) with held := some ⟨255, event src 0, 900⟩, queued := some ⟨3, event src 1, 900⟩ }
theorem witness_consumers : inputExists timed.board 0x427 = true ∧ stays (.consumerTake 0x427) timed = true ∧ stays (.consumerTake 0) timed = true ∧
    [0x300, 0x307, 0x381, 0x388, 0x390, 0x393, 0x400, 0x427].all (fun id => runs (.consumerTake id) (heldAt id 1 []) (fun t => (t.held id) = some (event 1 1))) = true ∧
    stays (.relayEmit 31) timed = true ∧
    runs (.relayEmit 31) (heldAt 0x41F 1 []) (fun t => t.dowel.fired = [⟨0x41F, 9, 8, 7, 0, 1000⟩] && t.reg 0x682F 2 = 1 && t.held 0x41F = some (event 1 1)) = true := by decide +kernel
theorem witness_soft : mayCmd timed 1 0x6800 2 = true ∧ runs (.softEvent (.fdp 1) 31) timed (fun t => fired t 0x39F 0) = true ∧
    runs (.softEvent (.page 0x1F false) 31) timed (fun t => fired t 0x39F 0) = true ∧
    runs (.softEvent (.page 0 true) 31) { timed with dowel := { timed.dowel with fired := [{ event 0x39F 0 with tick := 1001 }] } } (fun t => t.dowel.fired.length = 1) = true := by decide +kernel
def attr (st : Nat) : State := sets timed [(0x69FF, 2, st), (0x69FF, 3, 0x1F)]
theorem witness_attr : runs (.channelAttr 0x1F false 255 0) (attr 0) (fun t => t.reg 0x5C03 cFabSecure = 1 && t.reg 0x69FF 3 = 0x1F) = true ∧
    (attr 0).pageOwner 0 255 = true ∧ (attr 0).ownerCheck 0x10 = 0 ∧ (attr 0).secureOk true 0 0 = true ∧
    runs (.channelAttr 0 true 255 (0x10 * 2 ^ 56 + 2 ^ 55)) (attr 0) (fun t => t.reg 0x69FF 3 = 0x10 && t.reg 0x69FF 4 = 1) = true ∧
    (attr 0).pageOwner 0x10 255 = false ∧ runs (.channelAttr 0x10 true 255 0) (attr 0) (fun t => t.reg 0x69FF 3 = 0x1F && t.reg 0x6800 6 = 1) = true ∧
    runs (.channelAttr 0 true 255 0) (attr 2) (fun t => t.reg 0x69FF 3 = 0x1F && t.reg 0x6800 6 = 1) = true := by decide +kernel
/-- Ball ALERT3_N has a delivery in a mode, and is latched or in a pulse until a tick. -/
def alert (mode out : Nat) (l : Bool) (p : Option Nat) : State := let s := heldAt 0x393 1 [(0x6833, 1, mode), (0x6833, 2, 50), (0x6833, 3, out)]
  { s with dowel := { s.dowel with alerts := modNth (fun _ => ⟨l, p⟩) s.dowel.alerts 3 } }
theorem witness_alerts : stays (.alertDelivery 3) timed = true ∧ runs (.alertDelivery 3) (alert 1 0 false none) (fun t => t.reg 0x6833 3 = 1 && t.reg 0x6833 5 = 1 && t.alertBall 3 = ⟨false, some 1051⟩ && t.held 0x393 = some (event 1 1)) = true ∧
    runs (.alertDelivery 3) (alert 2 0 false none) (fun t => t.reg 0x6833 3 = 1 && t.alertBall 3 = ⟨true, none⟩) = true ∧
    runs (.alertDelivery 3) (alert 0 0 false none) (fun t => t.reg 0x6833 3 = 0 && t.reg 0x6833 5 = 1) = true ∧
    runs (.alertPulseEnd 3) (alert 1 1 false (some 1000)) (fun t => t.reg 0x6833 3 = 0 && t.alertBall 3 = ⟨false, none⟩) = true ∧
    runs (.alertPulseEnd 3) (alert 1 1 true (some 1000)) (fun t => t.reg 0x6833 3 = 1) = true ∧ stays (.alertPulseEnd 3) (alert 1 1 false (some 1001)) = true ∧
    stays (.alertPulseEnd 3) (alert 2 1 true none) = true ∧
    mayCmd timed 1 0x6833 4 = true ∧ runs (.alertRelease 1 3) (alert 2 1 true none) (fun t => t.reg 0x6833 3 = 0) = true ∧
    runs (.alertRelease 1 3) (alert 2 1 true (some 1001)) (fun t => t.reg 0x6833 3 = 1 && t.alertBall 3 = ⟨false, some 1001⟩) = true ∧
    runs (.alertRelease 1 3) (alert 1 1 false (some 1001)) (fun t => t.reg 0x6833 3 = 1) = true := by decide +kernel
/-- Snapshot group 7 in mode `mode`; counter 63 of it is ON at 2^48 − 1. -/
def snap (mode clear per : Nat) : State :=
  let s := heldAt 0x427 1 [(0x6A17, 1, mode), (0x6A17, 2, 5), (0x6A17, 3, per), (0x6A17, 4, clear), (0x6A7F, 2, 2), (0x6A7F, 5, 7), (0x6A7F, 8, 1)]
  { s.modTb 0 (fun x => { x with ns := 5 }) with dowel := { s.dowel with counters := modNth (fun _ => ⟨2 ^ 48 - 1, false⟩) s.dowel.counters 63 } }
def took (t : State) : Bool := t.reg 0x6A17 5 = 1 && t.reg 0x6A7F 7 = 2 ^ 48 - 1 && t.dowel.snapTick.getD 7 none = some 1000
theorem witness_snapshots : sorted (snap 1 0 0).regs = true ∧ runs (.snapshotTime 7) (snap 1 0 0) (fun t => took t && t.counter 63 = 2 ^ 48 - 1 && t.reg 0x6A17 2 = 5) = true ∧
    runs (.snapshotTime 7) (snap 3 1 1000) (fun t => took t && t.counter 63 = 0 && t.reg 0x6A17 2 = time80OfNs (nextSnapTime (nsOfTime80 5) 1000 5)) = true ∧
    stays (.snapshotTime 7) (snap 2 0 0) = true ∧ stays (.snapshotTime 7) (sets (snap 1 0 0) [(0x6A17, 2, 6)]) = true ∧
    stays (.snapshotTime 7) { snap 1 0 0 with dowel := { (snap 1 0 0).dowel with snapDone := modNth (fun _ => true) (snap 1 0 0).dowel.snapDone 7 } } = true ∧ runs (.snapshotEvent 7) (snap 2 0 0) took = true ∧ runs (.snapshotEvent 7) (snap 1 0 0) (fun t => t.reg 0x6A17 5 = 0 && t.held 0x427 = some (event 1 1)) = true ∧
    mayCmd timed 1 0x6A17 8 = true ∧ runs (.snapNow 1 7) (snap 0 0 0) took = true := by decide +kernel
theorem witness_counters : mayCmd timed 1 0x6A7F 9 = true ∧ runs (.counterClear (.fdp 1) 63) (snap 0 0 0) (fun t => t.counter 63 = 0) = true ∧
    runs (.counterClear (.page 0x1F false) 63) (snap 0 0 0) (fun t => t.counter 63 = 0) = true ∧
    may timed 1 0x6A7F 8 = true ∧ runs (.ovfClear 1 63) (snap 0 0 0) (fun t => t.reg 0x6A7F 8 = 0 && t.counter 63 = 2 ^ 48 - 1) = true ∧
    runs (.counterWrap 63) (sets (snap 0 0 0) [(0x6A7F, 8, 0)]) (fun t => t.counter 63 = 0 && t.reg 0x6A7F 8 = 1) = true ∧ stays (.counterWrap 62) (snap 0 0 0) = true := by decide +kernel
end Dowel

namespace System
/-! ### Availability, power and test access -/
/-- Pair 0 is ACTIVE, pair 1 as given; update state and staging state of the firmware. -/
def duo (b u st : Nat) : State := let s := sets user [(0x7020, 1, 0), (0x7020, 2, 0), (0x7020, 3, b), (0x7010, 4, u), (0x7010, 2, st)]
  { s with power := { s.power with dictUp := true } }
theorem witness_failovers : stays .lockstepMismatch user = true ∧ (duo 1 0 0).mgmtRuns = true ∧
    runs .lockstepMismatch (duo 1 2 0) (fun t => t.pair 0 = 2 && t.pair 1 = 0 && t.reg 0x7020 1 = 1 && t.reg 0x7020 4 = 1 && t.reg 0x7020 5 = 1 && t.reg 0x7010 4 = 5) = true ∧
    runs .watchdogExpiry (duo 4 3 0) (fun t => t.pair 0 = 2 && t.pair 1 = 0 && t.reg 0x7020 5 = 2 && t.reg 0x7010 4 = 6) = true ∧
    runs .watchdogExpiry (duo 3 0 0) (fun t => t.pair 0 = 2 && t.avail.dead && t.reg 0x7020 1 = 0) = true ∧
    may (duo 1 3 0) 2 0x7020 6 = true ∧ runs (.failover 2) (duo 1 3 0) (fun t => t.reg 0x7020 5 = 4 && t.reg 0x7010 4 = 3 && t.reg 0x7020 1 = 1) = true ∧
    runs (.failover 2) (sets (duo 1 3 0) [(0x7010, 9, 2)]) (fun t => t.avail.probationEnds = 1000000000 + t.time.tclk) = true ∧
    (duo 3 0 0).hasStandby = false ∧ runs (.failover 2) (duo 3 0 0) (fun t => t.regs = (duo 3 0 0).regs) = true ∧
    runs (.pairSelftestComplete true) (sets (duo 2 0 0) [(0x7020, 2, 2)]) (fun t => t.pair 0 = 1 && t.pair 1 = 2) = true ∧
    runs (.pairSelftestComplete false) (duo 2 0 0) (fun t => t.pair 0 = 0 && t.pair 1 = 3) = true ∧ stays (.pairSelftestComplete true) (duo 1 0 0) = true := by decide +kernel
theorem witness_updates : may (duo 1 0 2) 2 0x7010 3 = true ∧ (duo 1 0 2).canActivate = true ∧ runs (.activate 2) (duo 1 0 2) (fun t => t.reg 0x7010 4 = 1 && t.pair 1 = 4) = true ∧
    (duo 1 1 2).canActivate = false ∧ runs (.activate 2) (duo 1 1 2) (fun t => t.regs = (duo 1 1 2).regs) = true ∧
    runs .loadingComplete (duo 4 1 2) (fun t => t.reg 0x7010 4 = 2) = true ∧ stays .loadingComplete (duo 4 2 2) = true ∧
    runs (.handoverComplete (2 ^ 32 + 7)) (duo 4 2 2) (fun t => t.pair 0 = 1 && t.pair 1 = 0 && t.reg 0x7020 1 = 1 && t.reg 0x7020 5 = 3 && t.reg 0x7020 7 = 7 && t.reg 0x7010 5 = 1 && t.reg 0x7010 4 = 3) = true ∧
    stays (.handoverComplete 0) (duo 4 3 2) = true ∧
    runs .probationEnd (sets (duo 4 3 2) [(0x7010, 5, 1)]) (fun t => t.nv.bootSlot = 1 && t.reg 0x7010 6 = 1 && t.reg 0x7010 4 = 4 && t.reg 0x7010 0x0A = 1) = true ∧ stays .probationEnd (duo 4 2 2) = true ∧
    stays .probationEnd { duo 4 3 2 with avail := { (duo 4 3 2).avail with probationEnds := 1 } } = true ∧
    runs (.firmwareFlashComplete false) (duo 1 0 1) (fun t => t.reg 0x7010 2 = 5) = true ∧ (duo 1 0 1).targetSlot = 1 ∧
    runs (.firmwareFlashComplete true) (duo 1 0 1) (fun t => t.reg 0x7010 2 = 2 && (t.fwSlot 1).check = 1) = true ∧
    runs (.firmwareFlashComplete true) { duo 1 0 1 with power := { (duo 1 0 1).power with recovery := true } } (fun t => t.nv.bootSlot = 0 && t.pwState = pwStarting && t.reg 0x7800 2 = 5) = true ∧
    stays (.firmwareFlashComplete true) (duo 1 0 2) = true := by decide +kernel
/-- Power state, step of the entry, wake pending; port 0 is ON with its link up. -/
def pw (st step wake : Nat) : State := let s := sets (duo 1 0 0) [(0x2000, 1, st), (0x2000, 0x0A, wake), (0x1010, 2, 2), (0x1010, 4, 3)]
  { s with power := { s.power with keepStep := step } }
theorem witness_keep : may (pw pwRun 0 0) 1 0x2000 4 = true := by decide +kernel
theorem witness_keep_1 : (pw pwRun 0 0).keepOk = true := by decide +kernel
theorem witness_keep_2 : runs (.keep 1) (pw pwRun 0 0) (fun t => t.pwState = pwKeepEntry && decide (1 ≤ t.power.keepStep)) = true := by decide +kernel
theorem witness_keep_3 : may (pw pwKeepEntry 3 1) 1 0x2000 4 = true := by decide +kernel
theorem witness_keep_4 : runs (.keep 1) (pw pwKeepEntry 3 1) (fun t => t.reg 0x2000 0x0A = 0 && t.power.keepStep = 3) = true := by decide +kernel
theorem witness_keep_5 : (pw pwKeep 0 0).keepOk = false := by decide +kernel
theorem witness_keep_6 : may (pw pwKeep 0 0) 1 0x2000 4 = true := by decide +kernel
theorem witness_keep_7 : runs (.keep 1) (pw pwKeep 0 0) (fun t => t.regs = (pw pwKeep 0 0).regs) = true := by decide +kernel
theorem witness_keep_8 : stays .keepTimeout (sets (pw pwKeepEntry 1 0) [(0x2000, 9, 1)]) = true := by decide +kernel
theorem witness_keep_9 : runs .keepTimeout (sets (pw pwKeepEntry 1 0) [(0x2000, 9, 0)]) (fun t => t.pwState = pwKeepEntry && t.power.keepStep = 6) = true := by decide +kernel
theorem witness_keep_10 : stays .keepTimeout (pw pwKeep 0 0) = true := by decide +kernel
theorem witness_keep_11 : stays (.keepEntryComplete 3) (pw pwRun 0 0) = true := by decide +kernel
theorem witness_keep_12 : runs (.keepEntryComplete (2 ^ 33)) (pw pwKeepEntry 6 0) (fun t => t.pwState = pwKeep && t.reg 0x2000 0x0C = 1 && t.reg 0x2000 0x0F = 0xFFFFFFFF && t.power.keepStep = 0) = true := by decide +kernel
theorem witness_keep_13 : runs (.keepEntryComplete 3) (pw pwKeepEntry 6 1) (fun t => t.pwState = pwKeepExit && t.reg 0x2000 0x0A = 0) = true := by decide +kernel
theorem witness_keep_14 : may (pw pwKeep 0 0) 1 0x2000 5 = true := by decide +kernel
theorem witness_keep_15 : runs (.wake 1) (pw pwKeep 0 0) (fun t => t.pwState = pwKeepExit) = true := by decide +kernel
theorem witness_keep_16 : runs (.wake 1) (pw pwKeepEntry 2 0) (fun t => t.reg 0x2000 0x0A = 1 && t.pwState = pwKeepEntry) = true := by decide +kernel
theorem witness_keep_17 : runs (.wake 1) (pw pwRun 0 0) (fun t => t.pwState = pwRun && t.reg 0x2000 0x0A = 0) = true := by decide +kernel
theorem witness_keep_18 : stays (.keepExitComplete 3) (pw pwRun 0 0) = true := by decide +kernel
theorem witness_keep_19 : (pw pwKeepExit 0 0).pwState = pwKeepExit := by decide +kernel
/-- Balls PWR_EN and PORST_N, the thermal latch, and the junction temperature. -/
def balls (en por hot : Bool) (st tj : Nat) : State := let s := sets user [(0x2000, 1, st), (0x7400, 1, tj), (0x6000, 0x11, 9), (0x7400, 0x10, 255)]
  { s with power := { s.power with pwrEn := en, porstN := por, thermalOff := hot } }
def started (cause : Nat) (t : State) : Bool := t.pwState = pwStarting && t.reg 0x7800 2 = cause && t.nv.boots = 2 && t.reg 0x6000 0x11 = State.reset.reg 0x6000 0x11
theorem witness_resets : may user 2 0x2000 0x0B = true ∧ runs (.deviceReset 2) user (started 3) = true ∧
    runs (.deviceReset 2) (balls false true false pwRun 0) (fun t => t.pwState = pwOff) = true ∧ may (balls false true false pwRun 0) 2 0x2000 0x0B = true ∧
    runs .jtagReset user (fun t => started 4 t && t.power.tapIr = 0x20) = true ∧ runs .jtagReset (balls true false false pwOff 0) (fun t => t.power.tapIr = 0x20 && t.regs = (balls true false false pwOff 0).regs) = true ∧
    stays .pwrEnFall (balls false true false pwOff 0) = true ∧ runs .pwrEnFall (balls true true false pwRun 0) (fun t => t.pwState = pwOff && !t.power.pwrEn && t.reg 0x6000 0x11 = State.reset.reg 0x6000 0x11) = true ∧
    runs .pwrEnFall (balls true false false pwOff 0) (fun t => !t.power.pwrEn && t.reg 0x6000 0x11 = 9) = true := by decide +kernel
theorem witness_starts : stays .pwrEnRise (balls true true false pwOff 0) = true ∧ runs .pwrEnRise (balls false true false pwOff 0) (started 1) = true ∧
    runs .pwrEnRise (balls false true true pwOff 1839) (started 2) = true ∧
    runs .pwrEnRise (balls false true true pwOff 1840) (fun t => t.pwState = pwOff && t.power.pwrEn && t.reg 0x7400 0x10 = 255) = true ∧
    stays .porstNAssert (balls true false false pwOff 0) = true ∧ runs .porstNAssert user (fun t => !t.power.porstN && t.nv = user.nv) = true ∧
    stays .porstNRelease user = true ∧ runs .porstNRelease (balls true false false pwOff 0) (started 0) = true ∧ runs .porstNRelease (balls true false true pwOff 0) (started 2) = true ∧
    runs .porstNRelease (balls false false false pwOff 0) (fun t => t.pwState = pwOff && t.power.porstN) = true ∧
    runs (.undervoltage 12) user (fun t => t.pwState = pwOff && t.power.undervoltOff) = true ∧ stays (.undervoltage 12) (balls true true false pwOff 0) = true ∧
    runs .vaonLow (balls true true false pwRun 5) (fun t => t.reg 0x7400 0x10 = 0 && t.reg 0x6000 0x11 = 9 && t.power.deferred = []) = true := by decide +kernel
/-- The part starts, with its dictionary up or not. -/
def boot (up rec : Bool) : State := let s := sets (balls true true false pwStarting 0) []
  { s with power := { s.power with dictUp := up, recovery := rec, resetCause := 2 } }
/-- No delay table is in flash, and no margin is too small. -/
def noTable : State := let s := sets (boot true false) [(0x5800, 0x12, 0)]
  { s with nv := { s.nv with dramMagic := 0 } }
theorem witness_boot : stays (.dictionaryReachable 5 false false) (boot false false) = true := by decide +kernel
theorem witness_boot_1 : (boot false false).slotToBoot = some 0 := by decide +kernel
theorem witness_boot_2 : runs (.dictionaryReachable 5 false true) (boot false false) (fun t => t.power.dictUp && t.reg 0x7800 6 = 5 && t.reg 0x7020 1 = 1 && t.pair 0 = 3 && t.pair 1 = 0 && t.time.running && t.reg 0x7010 5 = 0 && t.reg 0x5C00 1 = 1) = true := by decide +kernel
theorem witness_boot_3 : runs (.dictionaryReachable 5 true true) { boot false false with nv := { (boot false false).nv with slots := [⟨0, 0, 4⟩, ⟨0, 0, 2⟩] } } (fun t => t.power.recovery && t.reg 0x7800 1 = 4 && t.pair 1 = 1) = true := by decide +kernel
theorem witness_boot_4 : stays (.bootComplete 9 ⟨[271, 271, 272], []⟩ []) (boot true true) = true := by decide +kernel
theorem witness_boot_5 : runs (.bootComplete 9 ⟨[5, 272], [5, 5]⟩ []) noTable (fun t => t.pwState = pwRun && t.reg 0x7800 1 = 3 && t.reg 0x7800 7 = 9 && t.reg 0x7800 9 = 1 && t.reg 0x7400 0x10 = 0 && (t.tile 5).spareCells = 2) = true := by decide +kernel
theorem witness_housekeeping : (List.range 32).all (fun n => decide (mismatchNext 0 (List.replicate 32 800) (nthD 0 user.power.mismatch n) n < 3)) = true ∧ user.reg 0x7412 1 = 0 := by decide +kernel
theorem housekeeping_cool : runs (.housekeepingRound (List.replicate 31 800 ++ [1919]) [900] [100]) user (fun t => t.reg 0x7400 1 = 1919 && t.reg 0x7400 3 = 31 && t.reg 0x7420 1 = 900 &&
      t.reg 0x7430 1 = 100 && t.reg 0x7430 24 = 0 && t.pwState = pwRun) = true := by decide +kernel
theorem housekeeping_hot : runs (.housekeepingRound (List.replicate 31 1800 ++ [1920]) [] []) user (fun t => t.pwState = pwOff && t.power.thermalOff) = true := by decide +kernel
theorem witness_test_access : runs (.extest 5 6) user (fun t => t.power.tapDrive = 0 && t.power.tapCells = 0) = true ∧
    runs (.extest 5 6) (balls true false false pwOff 0) (fun t => t.power.tapDrive = 1 && t.power.tapCells = 6 && t.power.tapDr = 5) = true ∧
    runs .idcode user (fun t => t.power.tapDr = 0x181921D3) = true ∧ runs .highz (balls true false false pwOff 0) (fun t => t.power.tapDrive = 2) = true := by decide +kernel
end System

end Sys2Proof.Tests
end

section
set_option Elab.async false
namespace Sys2Proof.Machine

/-! ### One work order leaves a Jig -/

/-- The state in which a work order `w` for the logical tile `lam` is handed over: the issue is counted and the order numbered (R119, R124). -/
def State.orderCounted (s : State) (k w lam : Nat) : State :=
  let c := s.inc64 (0x3010 + k) 7 1
  let c := if woClass w = 3 && !c.uTile lam then c.inc32 0x3000 0x0A 1 else c
  { c with xarray := { c.xarray with nextOrder := c.xarray.nextOrder + 1 } }

variable (s : State) (k w lam : Nat)

theorem orderCounted_xarray : (s.orderCounted k w lam).xarray = { s.xarray with nextOrder := s.xarray.nextOrder + 1 } := by
  unfold State.orderCounted
  dsimp only
  rw [when32_xarray, inc64_xarray]

theorem orderCounted_crib : (s.orderCounted k w lam).crib = s.crib := by
  unfold State.orderCounted
  dsimp only
  rw [when32_crib, inc64_crib]

/-- Counting an issue changes the Jig's issue counter and the class U counter only. -/
theorem orderCounted_reg {j b : Nat} (h7 : key j b ≠ key (0x3010 + k) 7) (hU : key j b ≠ key 0x3000 0x0A) :
    (s.orderCounted k w lam).reg j b = s.reg j b := by
  unfold State.orderCounted
  dsimp only
  rw [with_xarray_reg, when32_reg _ _ _ _ _ hU, inc64_reg_key _ _ h7]

theorem orderCounted_issued : (s.orderCounted k w lam).reg (0x3010 + k) 7 = wrapAdd64 (s.reg (0x3010 + k) 7) 1 := by
  unfold State.orderCounted
  dsimp only
  rw [with_xarray_reg, when32_reg _ _ _ _ _ (by simp only [key]; omega), inc64_reg_same]

theorem orderCounted_currentHalf : (s.orderCounted k w lam).currentHalf k = s.currentHalf k := by
  unfold State.currentHalf State.jig State.loftHalf
  rw [orderCounted_xarray, orderCounted_crib]

/-- Counting an issue leaves the placement table alone. -/
theorem orderCounted_place (hlam : lam < 256) :
    (s.orderCounted k w lam).reg (0x2110 + lam / 64) (lam % 64 + 1) = s.reg (0x2110 + lam / 64) (lam % 64 + 1) :=
  orderCounted_reg s k w lam (by simp only [key]; omega) (by simp only [key]; omega)

theorem orderCounted_placeEpoch (hlam : lam < 256) : (s.orderCounted k w lam).placeEpoch lam = s.placeEpoch lam := by
  unfold State.placeEpoch
  rw [orderCounted_place s k w lam hlam]

theorem orderCounted_tileOf (hlam : lam < 256) : (s.orderCounted k w lam).tileOf lam = s.tileOf lam := by
  unfold State.tileOf State.placement
  rw [orderCounted_place s k w lam hlam]

theorem sweepTile_lt (x : Sweep) : s.sweepTile x < 256 := by
  have hpos : 0 < s.board.logicalTiles := by unfold Board.logicalTiles Board.bays; split <;> omega
  have hle : s.board.logicalTiles ≤ 256 := by unfold Board.logicalTiles Board.bays; split <;> omega
  exact Nat.lt_of_lt_of_le (Nat.mod_lt _ hpos) hle

/-- An issue hands its work order over in the counted state. -/
theorem issueOrder_counted (x : Sweep) :
    s.issueOrder k x = (s.orderCounted k (s.orderBits k x) (s.sweepTile x)).placeOrder k (s.sweepTile x) (s.orderBits k x) s.xarray.nextOrder
      (s.tileOf (s.sweepTile x)) := by
  rw [← orderCounted_tileOf s k (s.orderBits k x) (s.sweepTile x) (sweepTile_lt s x)]
  unfold State.issueOrder State.sweepTile
  generalize s.orderBits k x = w
  generalize x.bin % s.board.logicalTiles = lam
  have hid : s.xarray.nextOrder = (if woClass w = 3 && !(s.inc64 (0x3010 + k) 7 1).uTile lam then (s.inc64 (0x3010 + k) 7 1).inc32 0x3000 0x0A 1
      else s.inc64 (0x3010 + k) 7 1).xarray.nextOrder := by rw [when32_xarray, inc64_xarray]
  rw [hid]
  rfl

/-- The work order that joins the port queue of `lam`, with the fields `w` and the number `id` (R119, R124). -/
def State.portOrder (id : Nat) : WorkOrder :=
  { id := id, bay := k, bits := w, entry := s.reg (0x3010 + k) 4, lam := lam, epoch := s.placeEpoch lam,
    half := if isCorr (woOp w) || isBeam (woOp w) then (s.currentHalf k).map halfRef else none, phase := .queued, k := 0, shim := false,
    pulled := false, samples := [], cfg := 0 }

theorem enqueueOrder_orders (id : Nat) : (s.enqueueOrder k lam w id).xarray.orders = s.xarray.orders ++ [s.portOrder k w lam id] := rfl

theorem enqueueOrder_jigs (id : Nat) : (s.enqueueOrder k lam w id).xarray.jigs = s.xarray.jigs := rfl

theorem enqueueOrder_nextOrder (id : Nat) : (s.enqueueOrder k lam w id).xarray.nextOrder = s.xarray.nextOrder := rfl

theorem enqueueOrder_reg (id j b : Nat) : (s.enqueueOrder k lam w id).reg j b = s.reg j b := rfl

/-- Counting an issue is seen by no field of the work order issued. -/
theorem orderCounted_portOrder (hlam : lam < 256) (id : Nat) : (s.orderCounted k w lam).portOrder k w lam id = s.portOrder k w lam id := by
  unfold State.portOrder
  rw [orderCounted_currentHalf, orderCounted_placeEpoch s k w lam hlam, orderCounted_reg s k w lam (by simp only [key]; omega) (by simp only [key]; omega)]

variable {s k}

/-- Issuing a work order for a placed tile: it joins its port's queue, and the Jig's completion counter stays. -/
theorem issueOrder_placed {x : Sweep} {p : Nat} (ht : s.tileOf (s.sweepTile x) = some p) :
    (s.issueOrder k x).xarray.orders = s.xarray.orders ++ [s.portOrder k (s.orderBits k x) (s.sweepTile x) s.xarray.nextOrder] ∧
    (s.issueOrder k x).xarray.jigs = s.xarray.jigs ∧ (s.issueOrder k x).xarray.nextOrder = s.xarray.nextOrder + 1 ∧
    (s.issueOrder k x).reg (0x3010 + k) 4 = s.reg (0x3010 + k) 4 ∧ (s.issueOrder k x).reg (0x3010 + k) 7 = wrapAdd64 (s.reg (0x3010 + k) 7) 1 ∧
    (s.issueOrder k x).reg (0x3010 + k) 8 = s.reg (0x3010 + k) 8 := by
  rw [issueOrder_counted, ht]
  have hlam := sweepTile_lt s x
  generalize s.orderBits k x = w
  generalize s.sweepTile x = lam at hlam ⊢
  unfold State.placeOrder
  refine ⟨?_, ?_, ?_, ?_, ?_, ?_⟩
  · rw [enqueueOrder_orders, orderCounted_portOrder s k w lam hlam, orderCounted_xarray]
  · rw [enqueueOrder_jigs, orderCounted_xarray]
  · rw [enqueueOrder_nextOrder, orderCounted_xarray]
  · rw [enqueueOrder_reg, orderCounted_reg s k w lam (by simp only [key]; omega) (by simp only [key]; omega)]
  · rw [enqueueOrder_reg, orderCounted_issued]
  · rw [enqueueOrder_reg, orderCounted_reg s k w lam (by simp only [key]; omega) (by simp only [key]; omega)]

/-- Issuing a work order for an unplaced tile: none joins a queue, and it counts as completed (R150). -/
theorem issueOrder_unplaced {x : Sweep} (hk : k < 4) (ht : s.tileOf (s.sweepTile x) = none) :
    (s.issueOrder k x).xarray.orders = s.xarray.orders ∧ (s.issueOrder k x).xarray.jigs = s.xarray.jigs ∧
    (s.issueOrder k x).reg (0x3010 + k) 4 = s.reg (0x3010 + k) 4 ∧ (s.issueOrder k x).reg (0x3010 + k) 7 = wrapAdd64 (s.reg (0x3010 + k) 7) 1 ∧
    (s.issueOrder k x).reg (0x3010 + k) 8 = wrapAdd64 (s.reg (0x3010 + k) 8) 1 := by
  obtain ⟨u, heq, hx, h4, -, -, h7, h8⟩ := issueOrder_eq s k x
  obtain ⟨horders, hjigs, e4, e7, e8⟩ := discard_eff u k (s.sweepTile x) (s.orderBits k x) s.xarray.nextOrder hk (sweepTile_lt s x)
  rw [heq, ht]
  unfold State.placeOrder
  exact ⟨by rw [horders, hx], by rw [hjigs, hx], by rw [e4, h4], by rw [e7, h7], by rw [e8, h8]⟩

theorem jig_of_jigs {t : State} (h : t.xarray.jigs = s.xarray.jigs) : t.jig k = s.jig k := by
  unfold State.jig
  rw [h]

/-! ### The four outcomes of a work-order entry -/

/-- A failed check leaves the Jig in ERROR with the code, and no work order is issued (R139). -/
theorem runSweep_failed {x : Sweep} {n : Nat} (hk : k < 4) (hl : k < s.xarray.jigs.length) (hs : (s.jig k).swapDue = false) (hc : s.orderCheck k x ≠ 0) :
    (s.runSweep k (n + 1) x).jigFailed k (s.reg (0x3010 + k) 4) (s.orderCheck k x) ∧ (s.runSweep k (n + 1) x).xarray.orders = s.xarray.orders := by
  have hx := jigFail_xarray s k (s.orderCheck k x)
  have hoff : ((s.jigFail k (s.orderCheck k x)).jig k).swapDue = false := by
    rw [jig_of_xarray hx, jig_modJig s k _ hl]
    exact hs
  rw [runSweep_fail hc, lateSwap_off hoff]
  exact ⟨jigFail_failed s k _ hk, by rw [hx]; rfl⟩

theorem poolFull_reg (i : Nat) {j b : Nat} (hj : j < 27200) (hb : b < 256) (he : j < 0x1100 ∨ 0x1110 < j) : (s.poolFull i).reg j b = s.reg j b :=
  (low_poolFull (Nat.le_refl _) (low_refl s)).at hj hb he

theorem poolFull_xarray (i : Nat) : (s.poolFull i).xarray = s.xarray :=
  (fr_poolFull (m := 258) (by decide) (fr_refl s)).same .xarray (by decide)

/-- A full port leaves a running Jig waiting at its entry, the sweep kept (R124, R138). -/
theorem runSweep_waits {x : Sweep} {n p : Nat} (hk : k < 4) (hl : k < s.xarray.jigs.length) (hrun : s.runState k = jgRunning) (hc : s.orderCheck k x = 0)
    (ht : s.tileOf (s.sweepTile x) = some p) (hp : s.portOpen (s.sweepTile x) (woClass x.word) = false) :
    (s.runSweep k (n + 1) x).jigGoes k (s.reg (0x3010 + k) 4) jgWaitPort ∧ ((s.runSweep k (n + 1) x).jig k).sweep = some x ∧
    (s.runSweep k (n + 1) x).xarray.orders = s.xarray.orders := by
  have hx := poolFull_xarray (s := s) 1
  rw [runSweep_wait hc ht hp, if_neg (by rw [hrun]; decide)]
  refine ⟨setRun_goes ?_, ?_, ?_⟩
  · rw [modJig_reg, poolFull_reg 1 (by omega) (by omega) (by omega)]
  · rw [State.setRun, jig_of_xarray (setReg_xarray _ _ _ _), jig_modJig _ _ _ (by rw [hx]; exact hl)]
  · rw [State.setRun, setReg_xarray, modJig_xarray, hx]

/-- The last work order of an entry is issued, and the Jig goes on at the next entry (R122). -/
theorem runSweep_issues {x : Sweep} {n : Nat} (hl : k < s.xarray.jigs.length) (hs : (s.jig k).swapDue = false) (hc : s.orderCheck k x = 0) (hx : x.left = 0)
    (hp : s.tileOf (s.sweepTile x) = none ∨ s.portOpen (s.sweepTile x) (woClass x.word) = true) (hj : (s.issueOrder k x).xarray.jigs = s.xarray.jigs) :
    (s.runSweep k (n + 1) x).jigGoes k ((s.issueOrder k x).reg (0x3010 + k) 4 + 1) jgRunning ∧
    (s.runSweep k (n + 1) x).xarray.orders = (s.issueOrder k x).xarray.orders ∧
    (s.runSweep k (n + 1) x).xarray.nextOrder = (s.issueOrder k x).xarray.nextOrder ∧
    ∀ b, b < 256 → b ≠ 3 → b ≠ 4 → (s.runSweep k (n + 1) x).reg (0x3010 + k) b = (s.issueOrder k x).reg (0x3010 + k) b :=
  last_goes (by rw [hj]; exact hl) (by rw [jig_of_jigs hj]; exact hs) rfl _ (runSweep_last hc hp hx)

/-- Settles O27: the sweep of an entry begins with its own fields, and its first work order meets one of the four outcomes above. -/
theorem workOrderEntriesIssue : Obligations.WorkOrderEntriesIssue := by
  intro s k pc w op i hi hat hop hs hl
  dsimp only
  have hrun := issue_run hi hat hop
  obtain ⟨hk, -, hrunning, hpc, -⟩ := hat
  subst hpc
  refine ⟨fun hc => ?_, fun hc ht hp => ?_, fun hc hx ht hp => ?_, fun hc hx _ ht => ?_⟩
  · exact ⟨_, hrun, runSweep_failed hk hl hs hc⟩
  · obtain ⟨p, ht⟩ := Option.isSome_iff_exists.1 ht
    exact ⟨_, hrun, runSweep_waits hk hl hrunning hc ht hp⟩
  · obtain ⟨p, ht⟩ := Option.isSome_iff_exists.1 ht
    obtain ⟨horders, hjigs, hnext, h4, h7, h8⟩ := issueOrder_placed (k := k) ht
    obtain ⟨hgo, ho, hn, hr⟩ := runSweep_issues (n := bits w 81 70) hl hs hc hx (Or.inr hp) hjigs
    refine ⟨_, hrun, ?_, ho.trans horders, hn.trans hnext, ?_, ?_⟩
    · rw [← h4]
      exact hgo
    · rw [hr 7 (by omega) (by omega) (by omega), h7]
    · rw [hr 8 (by omega) (by omega) (by omega), h8]
  · obtain ⟨horders, hjigs, h4, h7, h8⟩ := issueOrder_unplaced hk ht
    obtain ⟨hgo, ho, -, hr⟩ := runSweep_issues (n := bits w 81 70) hl hs hc hx (Or.inl ht) hjigs
    refine ⟨_, hrun, ?_, ho.trans horders, ?_, ?_⟩
    · rw [← h4]
      exact hgo
    · rw [hr 7 (by omega) (by omega) (by omega), h7]
    · rw [hr 8 (by omega) (by omega) (by omega), h8]

end Sys2Proof.Machine
end

section
set_option Elab.async false
namespace Sys2Proof.Machine

/-! ### The presence map -/

/-- After reset an entry whose default varies by part reads that default (R25). -/
theorem ofReset_reg_part {b : Board} {nv : Nv} {idx sub v : Nat} (h : partDefault b nv idx sub = some v) : (State.ofReset b nv).reg idx sub = v := by
  show entryDefault b nv idx sub = v
  unfold entryDefault
  rw [h]

/-- After reset an entry whose default is the same for every part reads the default of its row (R25). -/
theorem ofReset_reg_row {b : Board} {nv : Nv} {idx sub : Nat} {r : Row} (h : partDefault b nv idx sub = none) (hr : rowOf idx sub = some r) :
    (State.ofReset b nv).reg idx sub = r.dflt := by
  show entryDefault b nv idx sub = r.dflt
  unfold entryDefault
  rw [h, hr]

/-- The presence map of the part: the units and instances of R4 and R5, and the variant code of R6. -/
theorem ofReset_presence (b : Board) (nv : Nv) :
    (State.ofReset b nv).reg 0x1020 0 = 7 ∧ (State.ofReset b nv).reg 0x1020 1 = b.presence ∧ (State.ofReset b nv).reg 0x1020 2 = b.bays ∧
    (State.ofReset b nv).reg 0x1020 3 = b.channels ∧ (State.ofReset b nv).reg 0x1020 4 = b.rxQuads ∧ (State.ofReset b nv).reg 0x1020 5 = b.txQuads ∧
    (State.ofReset b nv).reg 0x1020 6 = b.cores ∧ (State.ofReset b nv).reg 0x1020 7 = b.code :=
  ⟨ofReset_reg_row (r := ⟨0x1020, 1, 0x00, 0x00, .u8, .ro, .live, .nobody, 7, [], 1⟩) rfl (by decide +kernel), ofReset_reg_part rfl, ofReset_reg_part rfl,
    ofReset_reg_part rfl, ofReset_reg_part rfl, ofReset_reg_part rfl, ofReset_reg_part rfl, ofReset_reg_part rfl⟩

/-! ### An entry that is not there -/

/-- An open session's operation that ends with a status of no detail leaves only its result record: the operation, the entry, the status, and no data (R465). -/
def State.turnedAway (s : State) (op idx sub e : Nat) : State :=
  { s with dict := { s.dict with results := s.dict.results ++ [⟨op, e, idx, sub, 0, []⟩] } }

variable {s : State} {sess idx sub e : Nat}

theorem answer_of (he : e ≠ stRefused) : Answer.of e = ⟨e, 0, []⟩ := by
  unfold Answer.of
  rw [if_neg he]

theorem result_of (op : Nat) (ho : s.sessionOpen sess = true) (he : e ≠ stRefused) :
    s.result sess op idx sub (.of e) = s.turnedAway op idx sub e := by
  rw [answer_of he]
  exact if_pos ho

theorem writeGate_of_gate (hg : s.gate sess idx sub = .error e) : s.writeGate sess idx sub = .error e := by
  unfold State.writeGate
  rw [hg]

theorem writeEntry_of_gate (hg : s.gate sess idx sub = .error e) (data : Bytes) : s.writeEntry sess idx sub data = (.of e, s) := by
  unfold State.writeEntry
  rw [writeGate_of_gate hg]

theorem fdpRead_of_gate (ho : s.sessionOpen sess = true) (he : e ≠ stRefused) (hg : s.gate sess idx sub = .error e) :
    exec (.fdpRead sess idx sub) s = .next (s.turnedAway 1 idx sub e) := by
  have hr : s.readOp sess idx sub = .of e := by unfold State.readOp; rw [hg]
  show Host.Outcome.next (s.sessionOp sess ⟨1, idx, sub, false, []⟩) = _
  unfold State.sessionOp
  rw [if_pos ho]
  show Host.Outcome.next (s.result sess 1 idx sub (s.readOp sess idx sub)) = _
  rw [hr, result_of 1 ho he]

theorem fdpDescribe_of_gate (ho : s.sessionOpen sess = true) (he : e ≠ stRefused) (hg : s.gate sess idx sub = .error e) :
    exec (.fdpDescribe sess idx sub) s = .next (s.turnedAway 3 idx sub e) := by
  have hr : s.describeOp sess idx sub = .of e := by unfold State.describeOp; rw [hg]
  show Host.Outcome.next (s.sessionOp sess ⟨3, idx, sub, false, []⟩) = _
  unfold State.sessionOp
  rw [if_pos ho]
  show Host.Outcome.next (s.result sess 3 idx sub (s.describeOp sess idx sub)) = _
  rw [hr, result_of 3 ho he]

theorem fdpWrite_of_gate (ho : s.sessionOpen sess = true) (he : e ≠ stRefused) (hg : s.gate sess idx sub = .error e) (data : Bytes) :
    exec (.fdpWrite sess idx sub data) s = .next (s.turnedAway 2 idx sub e) := by
  have hw : s.writeOp sess idx sub data = (.of e, s) := by unfold State.writeOp; rw [writeGate_of_gate hg]
  show Host.Outcome.next (s.sessionOp sess ⟨2, idx, sub, false, data⟩) = _
  unfold State.sessionOp
  rw [if_pos ho]
  show Host.Outcome.next ((s.writeOp sess idx sub data).2.result sess 2 idx sub (s.writeOp sess idx sub data).1) = _
  rw [hw, result_of 2 ho he]

theorem dictWrite_of_gate (ho : s.sessionOpen sess = true) (he : e ≠ stRefused) (hg : s.gate sess idx sub = .error e) (data : Bytes) :
    exec (.dictWrite sess idx sub data) s = .next (s.turnedAway 2 idx sub e) := by
  show Host.Outcome.next (s.sessionWrite sess idx sub data) = _
  rw [sessionWrite_open ho, writeEntry_of_gate hg, result_of 2 ho he]

/-- UNIT_ABSENT goes before every other check, RECOVERY's and the debug window's among them (R7, R475; log 54). -/
theorem gate_absent (hr : (rowOf idx sub).isSome = true) (ha : s.board.absent idx = true) : s.gate sess idx sub = .error stAbsent := by
  obtain ⟨r, hr⟩ := Option.isSome_iff_exists.1 hr
  unfold State.gate
  rw [hr]
  exact if_pos ha

/-- An entry of no row is NO_ENTRY outside the debug window, and inside it in debug mode (R475). -/
theorem gate_noEntry (hr : rowOf idx sub = none) (hd : idx < 0xF000 ∨ s.flag 0x1050 1 = true) : s.gate sess idx sub = .error stNoEntry := by
  have hopen : ¬(0xF000 ≤ idx && !s.flag 0x1050 1) = true := by
    obtain hd | hd := hd
    · simp [Nat.not_le.2 hd]
    · simp [hd]
  unfold State.gate
  rw [hr]
  exact congrArg Except.error (if_neg hopen)

/-- An entry of no row in the debug window is DEBUG_OFF outside debug mode (R456). -/
theorem gate_debugOff (hr : rowOf idx sub = none) (hi : 0xF000 ≤ idx) (hd : s.flag 0x1050 1 = false) : s.gate sess idx sub = .error stDebugOff := by
  have hshut : (0xF000 ≤ idx && !s.flag 0x1050 1) = true := by simp [hi, hd]
  unfold State.gate
  rw [hr]
  exact congrArg Except.error (if_pos hshut)

/-- Settles O7: the presence map variant by variant, and the status of the gate for an entry that is not there. The order of the statuses is the
model's choice (log 54). -/
theorem absentUnitsAndThePresenceMap : Obligations.AbsentUnitsAndThePresenceMap := by
  refine ⟨fun b nv => ?_, fun s sess idx sub data ho e he => ?_⟩
  · exact ofReset_presence b nv
  · have hg : s.gate sess idx sub = .error e := by
      obtain ⟨hr, ha, rfl⟩ | ⟨hr, hd, rfl⟩ | ⟨hr, hi, hd, rfl⟩ := he
      · exact gate_absent hr ha
      · exact gate_noEntry hr hd
      · exact gate_debugOff hr hi hd
    have hne : e ≠ stRefused := by
      obtain ⟨-, -, rfl⟩ | ⟨-, -, rfl⟩ | ⟨-, -, -, rfl⟩ := he <;> decide
    exact ⟨fdpRead_of_gate ho hne hg, fdpWrite_of_gate ho hne hg data, dictWrite_of_gate ho hne hg data, fdpDescribe_of_gate ho hne hg⟩

end Sys2Proof.Machine
end

section
set_option Elab.async false
namespace Sys2Proof.Machine

/-! ### Next states, and stops on a missing instance -/

/-- An answer that is a next state. -/
def Goes (r : Result) : Prop := ∃ t, r = .next t

/-- The answer of a meaning whose operands lie in range when `ok`: a next state then, and otherwise the stop of log 3. -/
def Answers (ok : Bool) (r : Result) : Prop := (ok = true → Goes r) ∧ (ok = false → r = .fault .noSuchInstance)

theorem goes_next (t : State) : Goes (.next t) := ⟨t, rfl⟩

theorem goes_ite {c : Prop} [Decidable c] {a b : Result} (ha : Goes a) (hb : Goes b) : Goes (if c then a else b) := ite_ind ha hb

/-- A meaning that checks its operands answers as they stand, when it has a next state for every operand in range. -/
theorem answers_inst {ok : Bool} {r : Result} (h : Goes r) : Answers ok (inst ok r) := by
  unfold Answers inst
  cases ok with
  | true => exact ⟨fun _ => h, fun hf => nomatch hf⟩
  | false => exact ⟨fun ht => (nomatch ht), fun _ => rfl⟩

/-- A meaning without bounded operands has a next state always. -/
theorem answers_free {r : Result} (h : Goes r) : Answers true r := ⟨fun _ => h, fun hf => nomatch hf⟩

theorem Answers.goes {ok : Bool} {r : Result} (h : Answers ok r) (hok : ok = true) : Goes r := h.1 hok

/-! ### Meanings without bounded operands -/

theorem execEpochBoundary_goes (s : State) : Goes (execEpochBoundary s) := by
  unfold execEpochBoundary
  split
  · exact goes_ite (goes_next _) (goes_next _)
  · exact goes_next _

theorem execSamplePacketRx_goes (s : State) : Goes (execSamplePacketRx s) := by
  unfold execSamplePacketRx
  split <;> exact goes_next _

theorem execReadoutPacket_goes (s : State) : Goes (execReadoutPacket s) := by
  unfold execReadoutPacket
  split
  · exact goes_next _
  · refine goes_ite (goes_next _) (goes_ite (goes_next _) (goes_ite ?_ (goes_next _)))
    dsimp only
    split <;> exact goes_next _

theorem execDumpRecordStaged_goes (bad : List Nat) (s : State) : Goes (execDumpRecordStaged bad s) := by
  unfold execDumpRecordStaged
  split
  · exact goes_next _
  · refine goes_ite (goes_next _) ?_
    split <;> exact goes_next _

theorem execWinnowOutput_goes (s : State) : Goes (execWinnowOutput s) := by
  unfold execWinnowOutput
  split <;> exact goes_next _

theorem execLineClockEdge_goes (s : State) : Goes (execLineClockEdge s) := by
  unfold execLineClockEdge
  split
  · exact goes_next _
  · exact goes_ite (goes_next _) (goes_next _)

theorem execFrameSlotFilled_goes (s : State) : Goes (execFrameSlotFilled s) := by
  unfold execFrameSlotFilled
  split <;> exact goes_next _

theorem execStitchedLine_goes (s : State) : Goes (execStitchedLine s) := by
  unfold execStitchedLine
  refine goes_ite (goes_next _) ?_
  dsimp only
  split
  · exact goes_next _
  · exact goes_ite (goes_next _) (goes_next _)

theorem execRegReady_goes (s : State) : Goes (execRegReady s) := by
  unfold execRegReady
  split
  · exact goes_ite (goes_next _) (goes_next _)
  · exact goes_next _

theorem execRegRecordTake_goes (s : State) : Goes (execRegRecordTake s) := by
  unfold execRegRecordTake
  refine goes_ite (goes_next _) ?_
  split
  · exact goes_next _
  · exact goes_ite (goes_next _) (goes_next _)

theorem execDoveShift_goes (s : State) : Goes (execDoveShift s) := by
  unfold execDoveShift
  split <;> exact goes_next _

theorem execGleanerLine_goes (s : State) : Goes (execGleanerLine s) := by
  unfold execGleanerLine
  split <;> exact goes_next _

theorem execAssemblyClose_goes (closeStripe : Bool) (s : State) : Goes (execAssemblyClose closeStripe s) := by
  unfold execAssemblyClose
  split <;> exact goes_next _

theorem execChannelFreqSwitch_goes (s : State) : Goes (execChannelFreqSwitch s) := by
  unfold execChannelFreqSwitch
  split
  · exact goes_next _
  · split <;> exact goes_next _

theorem execMoverAssign_goes (s : State) : Goes (execMoverAssign s) := by
  unfold execMoverAssign
  dsimp only
  split
  · exact goes_next _
  · refine goes_ite (goes_next _) ?_
    split <;> exact goes_next _

theorem execPairSelftestComplete_goes (passed : Bool) (s : State) : Goes (execPairSelftestComplete passed s) :=
  goes_ite (goes_next _) (goes_ite (goes_next _) (goes_next _))

/-! ### Meanings with several tests -/

theorem execFencePass_answers (bay : Nat) (s : State) : Answers (decide (bay < 4)) (execFencePass bay s) := by
  unfold execFencePass
  refine answers_inst (goes_ite ?_ (goes_next _))
  split
  · exact goes_ite (goes_next _) (goes_next _)
  · exact goes_next _

theorem execEncoderEdge_answers (axis : Nat) (a b : Bool) (held : Nat) (s : State) : Answers (decide (axis < 4)) (execEncoderEdge axis a b held s) :=
  answers_inst (goes_ite (goes_ite (goes_next _) (goes_ite (goes_next _) (goes_ite (goes_next _) (goes_next _)))) (goes_next _))

theorem execWorkOrderStart_answers (tile : Nat) (bad : List Nat) (s : State) : Answers (decide (tile < 272)) (execWorkOrderStart tile bad s) := by
  unfold execWorkOrderStart
  refine answers_inst ?_
  split
  · exact goes_next _
  · split
    · exact goes_ite (goes_next _) (goes_next _)
    · exact goes_next _

theorem execClassUYield_answers (tile : Nat) (s : State) : Answers (decide (tile < 272)) (execClassUYield tile s) := by
  unfold execClassUYield
  refine answers_inst ?_
  split
  · exact goes_next _
  · split
    · exact goes_ite (goes_next _) (goes_next _)
    · exact goes_next _

theorem execResidueMismatch_answers (tile : Nat) (s : State) : Answers (decide (tile < 272)) (execResidueMismatch tile s) := by
  unfold execResidueMismatch
  refine answers_inst ?_
  split
  · exact goes_ite (goes_next _) (goes_ite (goes_next _) (goes_ite (goes_next _) (goes_next _)))
  · exact goes_next _

theorem execReseatComplete_answers (bay : Nat) (s : State) : Answers (decide (bay < 4)) (execReseatComplete bay s) := by
  unfold execReseatComplete
  refine answers_inst ?_
  split
  · split
    · exact goes_ite (goes_next _) (goes_next _)
    · exact goes_next _
  · exact goes_next _

theorem execRecordFragmentsSend_answers (stream : Nat) (s : State) : Answers (decide (stream < 256)) (execRecordFragmentsSend stream s) := by
  unfold execRecordFragmentsSend
  refine answers_inst (goes_ite (goes_next _) ?_)
  split
  · exact goes_next _
  · split
    · exact goes_next _
    · exact goes_next _
    · exact goes_ite (goes_next _) (goes_next _)

theorem execWeightLoad_answers (lam : Nat) (s : State) : Answers (decide (lam < 256)) (execWeightLoad lam s) := by
  unfold execWeightLoad
  refine answers_inst ?_
  split
  · exact goes_next _
  · refine goes_ite (goes_next _) ?_
    split
    · exact goes_ite (goes_next _) (goes_next _)
    · exact goes_next _

theorem execRecalWindow_answers (ch : Nat) (final : Bool) (margin : Nat) (block : Bytes) (s : State) :
    Answers (decide (ch < 24)) (execRecalWindow ch final margin block s) := by
  unfold execRecalWindow
  refine answers_inst (goes_ite ?_ (goes_next _))
  split <;> exact goes_next _

/-! ### Meanings whose branches lie under their own bindings -/

theorem execPassComplete_answers (tile : Nat) (s : State) : Answers (decide (tile < 272)) (execPassComplete tile s) := by
  unfold execPassComplete
  refine answers_inst ?_
  split
  · dsimp only
    split
    · exact goes_ite (goes_next _) (goes_next _)
    · exact goes_next _
  · exact goes_next _

theorem execSpillComplete_answers (tile : Nat) (bad : List Nat) (s : State) : Answers (decide (tile < 272)) (execSpillComplete tile bad s) := by
  unfold execSpillComplete
  refine answers_inst ?_
  split
  · exact goes_next _
  · dsimp only
    split <;> exact goes_next _

theorem execRetestComplete_answers (tile : Nat) (passed : Bool) (s : State) : Answers (decide (tile < 272)) (execRetestComplete tile passed s) := by
  unfold execRetestComplete
  refine answers_inst (goes_ite (goes_ite ?_ (goes_next _)) (goes_next _))
  dsimp only
  split <;> exact goes_next _

theorem execFormatRecord_answers (stream : Nat) (s : State) : Answers (decide (stream < 256)) (execFormatRecord stream s) := by
  unfold execFormatRecord
  refine answers_inst (goes_ite (goes_next _) ?_)
  split
  · exact goes_next _
  · dsimp only
    split
    · exact goes_ite (goes_next _) (goes_next _)
    · exact goes_next _
    · exact goes_next _

theorem execFarResponse_answers (core : Nat) (s : State) : Answers (decide (core < 16)) (execFarResponse core s) := by
  unfold execFarResponse
  refine answers_inst ?_
  split
  · exact goes_next _
  · dsimp only
    split <;> exact goes_next _

/-! ### Meanings whose check depends on more than one operand -/

/-- The ranges of a PTP message are checked in one conjunction (R423). -/
theorem execPtpEventRx_answers (port : Nat) (msg : PtpMsg) (s : State) : Answers (Instr.wf (.ptpEventRx port msg)) (execPtpEventRx port msg s) := by
  have hwf : Instr.wf (.ptpEventRx port msg) = (decide (port < 2) && ptpMsgOk msg) := by
    show (_ && _ && _ && _ && _ && _) = _
    unfold ptpMsgOk
    simp only [Bool.and_assoc]
  rw [hwf]
  exact answers_inst (goes_ite (goes_next _) (goes_next _))

/-- FRAME_HOLD names a slot, or takes the event of its input. -/
theorem execFrameHold_answers (sess : Nat) (slot : Option Nat) (s : State) : Answers (Instr.wf (.frameHold sess slot)) (execFrameHold sess slot s) := by
  cases slot with
  | some k => exact answers_inst (goes_next _)
  | none => exact answers_free (goes_next _)

/-- SOFT comes from a session or from a register page, and each has its own range. -/
theorem execSoftEvent_answers (via : Via) (n : Nat) (s : State) : Answers (Instr.wf (.softEvent via n)) (execSoftEvent via n s) := by
  cases via with
  | fdp sess => exact answers_inst (goes_next _)
  | page master secure => exact answers_inst (goes_next _)

theorem execCribFreeze_answers (profile : Nat) (s : State) : Answers (decide (profile < 8)) (execCribFreeze profile s) := by
  unfold execCribFreeze
  refine answers_inst ?_
  split <;> exact goes_next _

theorem execToutEvent_answers (k : Nat) (s : State) : Answers (decide (k < 8)) (execToutEvent k s) := answers_inst (goes_next _)

/-- A consumer that is a command of its own is called within its range only. -/
theorem consume_goes (id : Nat) (s : State) : Goes (s.consume id) := by
  unfold State.consume
  split
  next h => exact (execCribFreeze_answers _ s).goes (by simp only [Bool.and_eq_true, decide_eq_true_eq] at h ⊢; omega)
  refine goes_ite (goes_next _) ?_
  split
  next h => exact (execToutEvent_answers _ s).goes (by simp only [Bool.and_eq_true, decide_eq_true_eq] at h ⊢; omega)
  refine goes_ite (goes_next _) (goes_ite (execDoveShift_goes s) ?_)
  exact goes_ite (goes_next _) (goes_ite (goes_next _) (goes_ite (goes_next _) (goes_ite (goes_next _) (goes_next _))))

theorem execConsumerTake_answers (input : Nat) (s : State) : Answers (decide (input < 0x428)) (execConsumerTake input s) :=
  answers_inst (goes_ite (consume_goes input s) (goes_next _))

/-! ### All commands -/

/-- Every command answers as its operands stand: a next state when they lie in the manual's ranges, and the stop on a missing instance otherwise (log 3). -/
theorem exec_answers (i : Instr) (s : State) : Answers i.wf (exec i s) := by
  cases i with
  -- no operand is bounded, and one state answers
  | dictWrite | discard | disarm | qlSend | prbsInject | sheafCounterClear | fireTrigger | readoutStart | readoutAbort | pixelPacketRx | freqChange |
  storeDelays | invAll | scLoad | fdpRead | fdpWrite | fdpDescribe | domCancel | debugEnter | debugLeave | eventTake | failover |
  firmwareFlashComplete | activate | keep | keepTimeout | keepEntryComplete | wake | keepExitComplete | deviceReset | pwrEnFall | pwrEnRise |
  porstNAssert | porstNRelease | dictionaryReachable | bootComplete | housekeepingRound | vaonLow | idcode | samplePreload | clamp | highz | jtagReset
  | bypass =>
    exact answers_free (goes_next _)
  -- no operand is bounded, and the meaning tests its moment
  | slabSeal | winnowService | parityEngineWrite | monitorWindowEnd | switchComplete | refAcquireTimeout | pps | scLoadApply | lineEdgeEmit |
  timerLineEdge | lockstepMismatch | watchdogExpiry | loadingComplete | handoverComplete | probationEnd | extest =>
    exact answers_free (goes_ite (goes_next _) (goes_next _))
  -- the operands are checked, and one state answers
  | commit | enableWrite | disableWrite | clockRecoveryLoss | qlRx | creditRx | laneMapRx | laneAckRx | itemTx | siloRelease | corr4 | corr8 | beam4 |
  beam8 | xreg | zero | dump | cutFence | cutWaitStep | cutJump | cutIfStep | cutLoop | cutEndloop | cutEvent | jigRestart | retest | frameSlotRelease
  | clearCorr | debugHaltCmd | debugResume | debugStep | channelLost | declareLost | rebuild | applyDelays | recalibrate | fabricRequest | invWindow |
  pageInvWindow | pageInvAll | dmaStart | dmaAbort | dmaResume | dmaResumeNext | qlTimeout | signalLoss | adjust | tbStep | tbSet | toutEvent |
  axisPreset | standstill | comparePlace | markerEntryArrive | compareClear | fdpFrameRx | fdpOpen | keyInit | fdpRequest | notifyAck | closeFrame |
  domBegin | domSeg | domEnd | domRead | transferAbandoned | sessionIdleTimeout | sessionClose | keySet | relayEmit | channelAttr | alertDelivery |
  alertPulseEnd | alertRelease | snapshotTime | snapshotEvent | snapNow | counterClear | ovfClear | undervoltage | signalReturn =>
    exact answers_inst (goes_next _)
  -- the operands are checked, and then the moment
  | laneLock | laneLockTimeout | sheafFrameRx | groupOn | windowStart | loftStepFill | pinsTakeEffect | siloReleaseComplete | cutEnd | cutWaitEvt |
  tileFail | stageBLine | imageApply | imageLoadComplete | breakpointHit | scrubRead | mr4Read | rebuildComplete | abortComplete | qlFrameRx |
  wtrExpiry | toutTimeReached | toutPulseEnd | ptpMessageTx | ssiFrame | observerUpdate | cmpoutPulseEnd | ltrigPulse | notifySend | notifyResend |
  arpRequest | icmpEcho | portLinkChange | counterWrap | prbsReceive =>
    exact answers_inst (goes_ite (goes_next _) (goes_next _))
  -- the operands are checked, and then two tests stand one behind the other
  | tinCapture =>
    exact answers_inst (goes_ite (goes_next _) (goes_ite (goes_next _) (goes_next _)))
  | refreshDue | hallState | indexEdge =>
    exact answers_inst (goes_ite (goes_ite (goes_next _) (goes_next _)) (goes_next _))
  -- what the command acts on is there or not
  | farTimeout | foldComplete | interruptEntry | itemRx | lockBroken | pageWalkComplete | trapEntry =>
    refine answers_inst ?_
    split <;> exact goes_next _
  -- slot A: nothing is issued, or the core stalls or runs the operation; likewise a LANE_MAP not sent, and a scaler with no group ready
  | slotANop | cmul | cmulj | cmac | cmacj | cmsu | cmag | cbfly | aclr | mva | mva2 | cadd | csub | cconj | bexd | bexs | addD | subD | andD | orD |
  xorD | shl | asr | lsr | addi | movi | movhi | cmpD | mulD | divD | movc | movcw | movar | movra | br | call | ret | rti | rep | repd | eidi | sige
  | trapD | haltD | laneMapRetry | scalerGroupSend =>
    refine answers_inst ?_
    split
    · exact goes_next _
    · exact goes_ite (goes_next _) (goes_next _)
  | descriptorFetch | dramRead | waite =>
    refine answers_inst ?_
    split
    · exact goes_next _
    · exact goes_ite (goes_next _) (goes_ite (goes_next _) (goes_next _))
  -- slot B: the operation issued is this one or another, or none is; the others test what they act on, where it is there
  | slotBNop | ld | ldo | st | sto | ld2 | st2 | ldst | fld | fst | amod | ldai | descriptorComplete | disablingComplete | dmaBeatFault |
  enablingComplete | passOverflow | rxLaneFail | statsRecordFormed | workOrderComplete =>
    refine answers_inst ?_
    split
    · exact goes_ite (goes_next _) (goes_next _)
    · exact goes_next _
  | txLaneFail =>
    refine answers_inst ?_
    split
    · exact goes_ite (goes_next _) (goes_ite (goes_next _) (goes_next _))
    · exact goes_next _
  -- the others have lemmas of their own
  | epochBoundary => exact answers_free (execEpochBoundary_goes ..)
  | samplePacketRx => exact answers_free (execSamplePacketRx_goes ..)
  | readoutPacket => exact answers_free (execReadoutPacket_goes ..)
  | dumpRecordStaged => exact answers_free (execDumpRecordStaged_goes ..)
  | winnowOutput => exact answers_free (execWinnowOutput_goes ..)
  | lineClockEdge => exact answers_free (execLineClockEdge_goes ..)
  | frameSlotFilled => exact answers_free (execFrameSlotFilled_goes ..)
  | stitchedLine => exact answers_free (execStitchedLine_goes ..)
  | regReady => exact answers_free (execRegReady_goes ..)
  | regRecordTake => exact answers_free (execRegRecordTake_goes ..)
  | doveShift => exact answers_free (execDoveShift_goes ..)
  | gleanerLine => exact answers_free (execGleanerLine_goes ..)
  | assemblyClose => exact answers_free (execAssemblyClose_goes ..)
  | channelFreqSwitch => exact answers_free (execChannelFreqSwitch_goes ..)
  | moverAssign => exact answers_free (execMoverAssign_goes ..)
  | pairSelftestComplete => exact answers_free (execPairSelftestComplete_goes ..)
  | fencePass => exact execFencePass_answers ..
  | encoderEdge => exact execEncoderEdge_answers ..
  | workOrderStart => exact execWorkOrderStart_answers ..
  | classUYield => exact execClassUYield_answers ..
  | residueMismatch => exact execResidueMismatch_answers ..
  | reseatComplete => exact execReseatComplete_answers ..
  | recordFragmentsSend => exact execRecordFragmentsSend_answers ..
  | weightLoad => exact execWeightLoad_answers ..
  | recalWindow => exact execRecalWindow_answers ..
  | cribFreeze => exact execCribFreeze_answers ..
  | softEvent => exact execSoftEvent_answers ..
  | frameHold => exact execFrameHold_answers ..
  | consumerTake => exact execConsumerTake_answers ..
  | ptpEventRx => exact execPtpEventRx_answers ..
  | retestComplete => exact execRetestComplete_answers ..
  | passComplete => exact execPassComplete_answers ..
  | farResponse => exact execFarResponse_answers ..
  | formatRecord => exact execFormatRecord_answers ..
  | spillComplete => exact execSpillComplete_answers ..

/-- Settles O3: the ranges that `Instr.wf` asks are those that each meaning checks. Which operand stops a command is the model's choice (log 3). -/
theorem commandsStopOnlyOnMissingInstances : Obligations.CommandsStopOnlyOnMissingInstances := exec_answers

end Sys2Proof.Machine
end

section
/-! The pending and armed sets, and the epoch boundary (chapter 1): staged writes, commits and what becomes live at SC_c. -/

set_option Elab.async false

namespace Sys2Proof.Machine

/-! ### Defaults after reset -/

/-- The reset state is canonical, for its maps are empty, and no command waits in it. -/
theorem reset_safe : State.reset.Safe := ⟨⟨rfl, rfl, rfl⟩, rfl⟩

/-- Settles O6: no entry is stored after reset, so each reads its default (R25), that of its row or of the part (log 1). -/
theorem resetHoldsDefaults : Obligations.ResetHoldsDefaults := by
  refine ⟨reset_safe, rfl, fun board nv idx sub r hr _ => ?_⟩
  split
  next v hv => exact ofReset_reg_part hv
  next hn => exact ofReset_reg_row hn hr

/-! ### A write of a running unit's entry -/

variable {s : State} {sess idx sub : Nat}

/-- An open session is answered with a result record, and with nothing else. -/
theorem result_open (ho : s.sessionOpen sess = true) (op : Nat) (a : Answer) :
    s.result sess op idx sub a = { s with dict := { s.dict with results := s.dict.results ++ [⟨op, a.status, idx, sub, a.detail, a.data⟩] } } :=
  if_pos ho

/-- The owner's state is tested after the length and before the value (R26, R454). -/
theorem writeEntry_notOff {data : Bytes} {r : Row} (hg : s.writeGate sess idx sub = .ok r) (hx : r.acc = .rwx) (hoff : s.ownerOff idx sub = false)
    (hlen : (∃ n, r.ty = .domain n) ∨ data.length = r.ty.size) : s.writeEntry sess idx sub data = (.refuse dNotOff, s) := by
  unfold State.writeEntry
  rw [hg]
  obtain ⟨n, hty⟩ | hlen := hlen
  · simp [hty, hx, hoff]
  · simp [hlen, hx, hoff]

/-- Settles O9: the refusal leaves the state as it was, but for its result record. -/
theorem writeOfRunningUnitsEntryIsRefused : Obligations.WriteOfRunningUnitsEntryIsRefused := by
  intro s sess idx sub data r ho hg hx hoff hlen
  show Host.Outcome.next (s.sessionWrite sess idx sub data) = _
  rw [sessionWrite_open ho, writeEntry_notOff hg hx hoff hlen, result_open ho]
  rfl

/-! ### Staged writes -/

/-- Another session has staged a value of the entry: the write is a conflict (R30). -/
def State.clashes (s : State) (sess k : Nat) : Bool := (lookup s.dict.pendingSet k).any (fun x => decide (x.writer ≠ sess))

/-- The state with a conflict of staged writes counted (R30). -/
def State.conflictCounted (s : State) (sess k : Nat) : State := s.whenB (s.clashes sess k) (fun s => s.inc32 0x1100 7 1)

theorem whenB_inc32_dict (b : Bool) (j i n : Nat) : (s.whenB b (fun s => s.inc32 j i n)).dict = s.dict := by
  cases b <;> rfl

theorem conflictCounted_dict (k : Nat) : (s.conflictCounted sess k).dict = s.dict := whenB_inc32_dict _ _ _ _

/-- Counting a conflict changes the conflict counter only. -/
theorem conflictCounted_reg {k j b : Nat} (h : key j b ≠ key 0x1100 7) : (s.conflictCounted sess k).reg j b = s.reg j b := by
  unfold State.conflictCounted State.whenB
  split
  · exact inc32_reg_key s 1 h
  · rfl

/-- A write over a staged value counts as a conflict unless the same session staged it. -/
theorem conflictCounted_counter {k : Nat} {old : Staged} (h : lookup s.dict.pendingSet k = some old) :
    (s.conflictCounted sess k).reg 0x1100 7 = if old.writer = sess then s.reg 0x1100 7 else min (s.reg 0x1100 7 + 1) 0xFFFFFFFF := by
  unfold State.conflictCounted State.whenB State.clashes
  rw [h]
  by_cases hw : old.writer = sess
  · simp [hw]
  · simp [hw, satAdd32]

/-- A staged write that the store has room for enters the pending set, and its conflict is counted (R26, R30). -/
theorem stage_ok {k : Nat} {v : StagedVal} (hf : s.storeFull k v = false) (hk : ∀ bs, v = .dom bs → keptElsewhere k = false) :
    s.stage sess k v = .ok ((s.conflictCounted sess k).setStaged (insertKey s.dict.pendingSet k ⟨v, sess⟩) s.dict.armed) := by
  have hd (clash : Bool) : (s.whenB clash (fun s => s.inc32 0x1100 7 1)).dict = s.dict := whenB_inc32_dict clash 0x1100 7 1
  unfold State.stage State.conflictCounted State.clashes
  rw [if_neg (by simp [hf])]
  dsimp only
  rw [hd]
  cases v with
  | num v => cases lookup s.dict.pendingSet k <;> rfl
  | dom bs =>
    dsimp only
    rw [if_neg (by simp [hk bs rfl])]
    cases lookup s.dict.pendingSet k <;> rfl

/-- Settles O10: the pending set keeps the later value, and the counter follows who wrote the earlier one. -/
theorem laterStagedWriteRemains : Obligations.LaterStagedWriteRemains := by
  intro s k v sess old hold hf hk
  refine ⟨_, stage_ok hf (fun _ _ => hk), ?_, ?_⟩
  · rw [setStaged_dict]
    exact lookup_insertKey_same ..
  · rw [setStaged_reg]
    exact conflictCounted_counter hold

/-- A number in range that its chapter accepts is staged, when its row is of access RWS (R26, R465). -/
theorem writeNumber_staged {r : Row} {v : Nat} (hr : r.acc = .rws) (hv : r.inRange v = true) (hc : s.entryCheck s.aheadStaged sess idx sub v = 0)
    (hf : s.storeFull (key idx sub) (.num v) = false) :
    s.writeNumber sess idx sub r v = (.of stOk,
      (s.conflictCounted sess (key idx sub)).setStaged (insertKey s.dict.pendingSet (key idx sub) ⟨.num v, sess⟩) s.dict.armed) := by
  unfold State.writeNumber
  simp [hr, hv, hc, stage_ok (v := .num v) hf (fun _ h => nomatch h), answer]

/-- A session's state is read from entries of 1030h to 1037h. -/
theorem sessionOpen_congr {t : State} {k : Nat} (h : ∀ j, 0x1030 ≤ j → j ≤ 0x1037 → t.reg j 1 = s.reg j 1) : t.sessionOpen k = s.sessionOpen k := by
  unfold State.sessionOpen
  by_cases hk : 1 ≤ k ∧ k ≤ 8
  · rw [h _ (by omega) (by omega)]
  · have hout : (decide (1 ≤ k) && decide (k ≤ 8)) = false := by simpa using hk
    simp [hout]

theorem result_results (ho : s.sessionOpen sess = true) (op : Nat) (a : Answer) :
    (s.result sess op idx sub a).dict.results = s.dict.results ++ [⟨op, a.status, idx, sub, a.detail, a.data⟩] := by
  rw [result_open ho]

/-- DICT_WRITE of an RWS entry: the value waits in the pending set, and of the live entries only the conflict counter may move (R26, R30). -/
theorem dictWrite_stages {data : Bytes} {r : Row} (ho : s.sessionOpen sess = true) (hg : s.writeGate sess idx sub = .ok r) (hr : r.acc = .rws)
    (hty : ∀ n, r.ty ≠ .domain n) (hlen : data.length = r.ty.size) (hv : r.inRange (ofBytes data) = true)
    (hc : s.entryCheck s.aheadStaged sess idx sub (ofBytes data) = 0) (hf : s.storeFull (key idx sub) (.num (ofBytes data)) = false) :
    Completes (.dictWrite sess idx sub data) s (fun t =>
      t.dict.pendingSet = insertKey s.dict.pendingSet (key idx sub) ⟨.num (ofBytes data), sess⟩ ∧ t.dict.armed = s.dict.armed ∧
      (∀ j b, b < 256 → ¬(j = 0x1100 ∧ b = 7) → t.reg j b = s.reg j b) ∧ t.dict.results = s.dict.results ++ [⟨2, 0, idx, sub, 0, []⟩]) := by
  have hreg {j b : Nat} (hne : key j b ≠ key 0x1100 7) (p a) :
      ((s.conflictCounted sess (key idx sub)).setStaged p a).reg j b = s.reg j b := (setStaged_reg ..).trans (conflictCounted_reg hne)
  have hopen (p a) : ((s.conflictCounted sess (key idx sub)).setStaged p a).sessionOpen sess = true :=
    (sessionOpen_congr fun j _ _ => hreg (by simp only [key]; omega) p a).trans ho
  refine completes_of (congrArg Host.Outcome.next (sessionWrite_number ho hg hty hlen (.inl (by simp [hr])) (by simp [hr]))) ?_
  rw [writeNumber_staged hr hv hc hf]
  refine ⟨by simp, by simp, fun j b hb hne => ?_, ?_⟩
  · rw [result_reg]
    exact hreg (by simp only [key]; omega) _ _
  · rw [result_results (hopen _ _), setStaged_dict, conflictCounted_dict]
    rfl

/-! ### Commit, discard and disarm -/

theorem abortLog_sessionOpen (r e i a d c : Nat) {k : Nat} : (s.abortLog r e i a d c).sessionOpen k = s.sessionOpen k :=
  sessionOpen_congr fun _ _ _ => abortLog_reg s r e i a d c (by omega) (by omega)

/-- An accepted commit arms the whole pending set and leaves an empty one (R27). -/
theorem commit_arms {c : Nat} (hc : c < 2 ^ 64) (hl : s.letsCmd sess 0x1101 1) (hn : s.dict.armed = none) (hlo : s.scAfter 500000 ≤ c)
    (hhi : c ≤ s.scAfter 30000000000) :
    Completes (.commit sess c) s (fun t => t.dict.armed = some (c, s.dict.pendingSet) ∧ t.dict.pendingSet = [] ∧
      t.reg 0x1101 4 = min (s.reg 0x1101 4 + 1) 0xFFFFFFFF ∧ ∀ j b, b < 256 → j ≠ 0x1101 → t.reg j b = s.reg j b) := by
  have hcheck : s.commitCheck c = 0 := by
    unfold State.commitCheck
    simp [hn, Nat.not_lt.2 hlo, Nat.not_lt.2 hhi]
  refine completes_of (exec_commit hc hl) ?_
  unfold cmdCommit
  rw [if_pos hcheck, commanded_ok]
  refine ⟨by simp, by simp, by simp [satAdd32], fun j b hb hj => ?_⟩
  rw [result_reg, inc32_reg_key _ _ (by simp only [key]; omega), setStaged_reg]

/-- A commit is refused while a set is armed, and else when its SC lies outside the window (R27). -/
theorem commitCheck_refuses {c detail : Nat}
    (h : (s.dict.armed ≠ none ∧ detail = 5) ∨ (s.dict.armed = none ∧ (c < s.scAfter 500000 ∨ s.scAfter 30000000000 < c) ∧ detail = 4)) :
    s.commitCheck c = detail ∧ detail ≠ 0 := by
  unfold State.commitCheck
  obtain ⟨ha, rfl⟩ | ⟨ha, hsc, rfl⟩ := h
  · simp [Option.isSome_iff_ne_none.2 ha]
  · simp [ha, hsc]

/-- A refused commit keeps both sets, and is counted and logged (R27, R482). -/
theorem commit_refused {c detail : Nat} (hc : c < 2 ^ 64) (hl : s.letsCmd sess 0x1101 1) (hd : s.commitCheck c = detail ∧ detail ≠ 0) :
    Completes (.commit sess c) s (fun t => t.dict.pendingSet = s.dict.pendingSet ∧ t.dict.armed = s.dict.armed ∧
      t.dict.results = s.dict.results ++ [⟨2, 6, 0x1101, 1, detail, []⟩] ∧ t.reg 0x1101 5 = min (s.reg 0x1101 5 + 1) 0xFFFFFFFF) := by
  obtain ⟨hcheck, hne⟩ := hd
  obtain ⟨⟨ho, -⟩, hkeep⟩ := id hl
  have hrefused : s.commandRefused sess 0x1101 1 c detail = s.commitRefused sess c detail := by
    unfold State.commandRefused
    rw [if_pos (by decide), if_neg hkeep]
  have hopen : (s.commitRefused sess c detail).sessionOpen sess = true :=
    (abortLog_sessionOpen ..).trans ((sessionOpen_congr fun j _ _ => inc32_reg_key s 1 (by simp only [key]; omega)).trans ho)
  refine completes_of (exec_commit hc hl) ?_
  unfold cmdCommit
  rw [hcheck, if_neg hne]
  unfold State.commanded
  dsimp only
  rw [hrefused]
  refine ⟨by simp [State.commitRefused], by simp [State.commitRefused], ?_, ?_⟩
  · rw [result_results hopen]
    simp [State.commitRefused, Answer.refuse]
  · rw [result_reg, State.commitRefused, abortLog_reg _ _ _ _ _ _ _ (by omega) (by omega)]
    exact inc32_reg_same ..

/-- A discard empties the pending set and is logged (R469). -/
theorem discard_empties (hl : s.lets sess 0x1101 2) :
    Completes (.discard sess) s (fun t => t.dict.pendingSet = [] ∧ t.dict.armed = s.dict.armed ∧
      ∀ j b, b < 256 → j ≠ 0x1110 → t.reg j b = s.reg j b) := by
  refine completes_of (exec_discard hl) ?_
  unfold cmdDiscard
  rw [commanded_ok]
  refine ⟨by simp, by simp, fun j b hb hj => ?_⟩
  rw [result_reg, abortLog_reg _ _ _ _ _ _ _ hb hj, setStaged_reg]

/-- A disarm that comes 1 ms or more ahead drops the armed set and is logged (R469). -/
theorem disarm_drops {a : Nat × List (Nat × Staged)} (hl : s.lets sess 0x1101 3) (ha : s.dict.armed = some a) (hsc : s.scAfter 500000 ≤ a.1) :
    Completes (.disarm sess) s (fun t => t.dict.armed = none ∧ t.dict.pendingSet = s.dict.pendingSet ∧
      ∀ j b, b < 256 → j ≠ 0x1110 → t.reg j b = s.reg j b) := by
  have hcmd : cmdDisarm sess s = .ok ((s.setStaged s.dict.pendingSet none).abortLog 3 sess 0 0 0 a.1) := by
    unfold cmdDisarm
    rw [ha]
    exact if_neg (Nat.not_lt.2 hsc)
  refine completes_of (exec_disarm hl) ?_
  rw [hcmd, commanded_ok]
  refine ⟨by simp, by simp, fun j b hb hj => ?_⟩
  rw [result_reg, abortLog_reg _ _ _ _ _ _ _ hb hj, setStaged_reg]

/-- Settles O8: the staged write, the three commands on the sets, and the refused commit. -/
theorem commitsMoveThePendingSet : Obligations.CommitsMoveThePendingSet :=
  ⟨fun _ _ _ _ _ _ ho hg hr hty hlen hv hc hf => dictWrite_stages ho hg hr hty hlen hv hc hf,
    fun _ _ => ⟨fun _ hc hl hn hlo hhi => commit_arms hc hl hn hlo hhi, fun hl => discard_empties hl, fun _ hl ha hsc => disarm_drops hl ha hsc⟩,
    fun _ _ _ _ hc hl h => commit_refused hc hl (commitCheck_refuses h)⟩

/-! ### The epoch boundary -/

theorem key_div_mod (k : Nat) : key (k / 256) (k % 256) = k := by
  unfold key
  omega

/-- The recheck of a number records nothing, so the armed numbers that all pass are taken from the state as it was (R470). -/
theorem sift_nums {set l : List (Nat × Staged)} {c : Nat} (hn : ∀ p ∈ l, ∃ v, p.2.value = .num v) (hp : ∀ p ∈ l, (s.recheck set p.1 p.2.value).1 = 0) :
    s.sift set c l = (l, s) := by
  induction l with
  | nil => rfl
  | cons p ps ih =>
    obtain ⟨v, hv⟩ := hn p (by simp)
    have hsame : (s.recheck set p.1 p.2.value).2 = s := by rw [hv]; rfl
    unfold State.sift
    simp only [hp p (by simp), hsame, if_true, ih (fun q hq => hn q (by simp [hq])) (fun q hq => hp q (by simp [hq]))]

theorem applied_quiet {c k old : Nat} (h : k / 65536 ∉ [0x10, 0x27, 0x30, 0x38, 0x51]) : s.applied c k old = s := by
  have hk : k / 256 / 256 = k / 65536 := Nat.div_div_eq_div_mul ..
  simp only [List.mem_cons, List.not_mem_nil, or_false, not_or] at h
  unfold State.applied
  dsimp only
  split
  case h_6 => rfl
  all_goals omega

theorem takeStaged_num {p : Nat × Staged} {v : Nat} (h : p.2.value = .num v) : s.takeStaged p = s.setReg (p.1 / 256) (p.1 % 256) v := by
  unfold State.takeStaged
  rw [h]

section
variable {xs : List (Nat × Staged)} (hn : ∀ p ∈ xs, ∃ v, p.2.value = .num v)
include hn

theorem takeStaged_each_reg_other {j b : Nat} (h : key j b ∉ xs.map (fun p => p.1)) :
    (s.each xs (fun p s => s.takeStaged p)).reg j b = s.reg j b := by
  refine each_reg s fun p hp s => ?_
  obtain ⟨v, hv⟩ := hn p hp
  rw [takeStaged_num hv]
  refine reg_setReg_key s v fun hk => h ?_
  rw [hk, key_div_mod]
  exact List.mem_map_of_mem hp

theorem takeStaged_each_reg_mem (hd : (xs.map (fun p => p.1)).Nodup) {p : Nat × Staged} (hp : p ∈ xs) {v : Nat} (hv : p.2.value = .num v) :
    (s.each xs (fun p s => s.takeStaged p)).reg (p.1 / 256) (p.1 % 256) = v := by
  induction xs generalizing s with
  | nil => nomatch hp
  | cons q qs ih =>
    have hqs : ∀ p ∈ qs, ∃ v, p.2.value = .num v := fun p hp => hn p (by simp [hp])
    rw [List.map_cons, List.nodup_cons] at hd
    show ((s.takeStaged q).each qs _).reg _ _ = v
    rcases List.mem_cons.1 hp with rfl | hp
    · rw [takeStaged_each_reg_other hqs (by rw [key_div_mod]; exact hd.1), takeStaged_num hv, reg_setReg_same]
    · exact ih hqs hd.2 hp

/-- Numbers that become live change registers only. -/
theorem takeStaged_each_same {γ : Type} (P : State → γ) (hP : ∀ (s : State) j b v, P (s.setReg j b v) = P s) :
    P (s.each xs (fun p s => s.takeStaged p)) = P s := by
  refine each_same_mem P xs (fun p s hp => ?_) s
  obtain ⟨v, hv⟩ := hn p hp
  rw [takeStaged_num hv, hP]

theorem boundaryNow_reg {c j b : Nat} (h : key j b ∉ xs.map (fun p => p.1)) :
    (s.boundaryNow c xs).reg j b = ((s.setReg 0x1100 1 ((s.reg 0x1100 1 + 1) % 2 ^ 32)).setReg 0x1100 2 c).reg j b :=
  (takeStaged_each_reg_other hn h).trans (reg_congr rfl rfl rfl j b)

theorem boundaryNow_armed {c : Nat} : (s.boundaryNow c xs).dict.armed = s.dict.armed :=
  takeStaged_each_same hn (fun s => s.dict.armed) (fun _ _ _ _ => rfl)

theorem boundaryNow_pendingSet {c : Nat} : (s.boundaryNow c xs).dict.pendingSet = s.dict.pendingSet :=
  takeStaged_each_same hn (fun s => s.dict.pendingSet) (fun _ _ _ _ => rfl)

theorem boundaryNow_time {c : Nat} : (s.boundaryNow c xs).time = s.time :=
  takeStaged_each_same hn (fun s => s.time) (fun _ _ _ _ => rfl)

end

theorem atBoundary_reg (j b : Nat) : s.atBoundary.reg j b = s.reg j b := setStaged_reg ..

theorem atBoundary_dict : s.atBoundary.dict = { s.dict with armed := none } := setStaged_dict ..

theorem atBoundary_time : s.atBoundary.time = s.time := setStaged_time ..

/-- Armed numbers that pass, and whose chapters do nothing more, become live at the boundary (R28). -/
theorem boundary_nums {c : Nat} {set : List (Nat × Staged)}
    (hset : ∀ p ∈ set, (∃ v, p.2.value = .num v) ∧ p.1 / 65536 ∉ [0x10, 0x27, 0x30, 0x38, 0x40, 0x51, 0x5C, 0x11])
    (hpass : ∀ p ∈ set, (s.atBoundary.recheck set p.1 p.2.value).1 = 0) :
    ∃ note, s.boundary c set = (s.atBoundary.boundaryNow c set).notify 0 1 note := by
  have hpage : ∀ k ∈ set.map (fun p => p.1), k / 65536 ∉ [0x10, 0x27, 0x30, 0x38, 0x40, 0x51, 0x5C, 0x11] := by
    intro k hk
    obtain ⟨p, hp, rfl⟩ := List.mem_map.1 hk
    exact (hset p hp).2
  simp only [List.mem_cons, List.not_mem_nil, or_false, not_or] at hpage
  refine boundary_of (sift_nums (fun p hp => (hset p hp).1) hpass) ?_ (fun i hi => ?_) (fun p hp old s => applied_quiet ?_)
  · unfold settingKeys
    rw [List.map_eq_nil_iff, List.filter_eq_nil_iff]
    intro k hk
    have := hpage k hk
    simp only [Bool.and_eq_true, decide_eq_true_eq]
    omega
  · rw [List.any_eq_false]
    intro k hk
    have := hpage k hk
    simp only [decide_eq_true_eq]
    omega
  · have := hpage _ (List.mem_map_of_mem hp)
    simp only [List.mem_cons, List.not_mem_nil, or_false, not_or]
    omega

/-- Settles O11: nothing is skipped, so the whole set is taken over the old values, and the epoch is counted. -/
theorem epochBoundaryMakesArmedSetLive : Obligations.EpochBoundaryMakesArmedSetLive := by
  refine fun s c set ha => ⟨fun hlate => ?_, fun hrun hdue hd hset hpass => ?_⟩
  · show execEpochBoundary s = _
    unfold execEpochBoundary
    rw [ha]
    simp [Nat.not_le.2 hlate]
  · have hexec : exec .epochBoundary s = .next (s.boundary c set) := by
      show execEpochBoundary s = _
      unfold execEpochBoundary
      rw [ha]
      simp [hrun, hdue]
    have hn : ∀ p ∈ set, ∃ v, p.2.value = .num v := fun p hp => (hset p hp).1
    obtain ⟨note, hb⟩ := boundary_nums (c := c) hset hpass
    have hown (b : Nat) (hlt : b < 256) : key 0x1100 b ∉ set.map (fun p => p.1) := by
      intro hk
      obtain ⟨p, hp, hk⟩ := List.mem_map.1 hk
      have hpage := (hset p hp).2
      simp only [List.mem_cons, List.not_mem_nil, or_false, not_or] at hpage
      simp only [key] at hk
      omega
    refine completes_of hexec ?_
    rw [hb]
    refine ⟨fun p hp v hv => ?_, fun j b hlt hj hne => ?_, ?_, ?_, ?_, ?_, ?_⟩
    · rw [notify_reg]
      exact takeStaged_each_reg_mem hn hd hp hv
    · rw [notify_reg, boundaryNow_reg hn hj, reg_setReg_other _ _ (by omega) hlt (by omega), reg_setReg_other _ _ (by omega) hlt (by omega), atBoundary_reg]
    · rw [notify_reg, boundaryNow_reg hn (hown 1 (by omega)), reg_setReg_other _ _ (by omega) (by omega) (by omega), reg_setReg_same, atBoundary_reg]
    · rw [notify_reg, boundaryNow_reg hn (hown 2 (by omega)), reg_setReg_same]
    · rw [notify_dict_armed, boundaryNow_armed hn, atBoundary_dict]
    · rw [notify_dict_pendingSet, boundaryNow_pendingSet hn, atBoundary_dict]
    · rw [notify_time, boundaryNow_time hn, atBoundary_time]

end Sys2Proof.Machine
end

section
/-! Resets, power loss and boot (chapter 18): what a reset clears, and what a start and a boot then write. -/

set_option Elab.async false

namespace Sys2Proof.Machine

variable {s : State} {sess idx sub : Nat}

/-! ### Resets, power loss and start -/

theorem lookup_filter {α : Type} (p : Nat → Bool) (m : List (Nat × α)) (k : Nat) :
    lookup (m.filter (fun e => p e.1)) k = if p k then lookup m k else none := by
  induction m with
  | nil => simp [lookup]
  | cons e es ih =>
    obtain ⟨x, v⟩ := e
    cases hx : p x <;> by_cases hk : k = x <;> simp_all [lookup]

/-- An entry that a filter of the store drops reads its default. -/
theorem reg_of_dropped {t : State} {p : Nat → Bool} {m : List (Nat × Nat)} (hr : t.regs = m.filter (fun e => p e.1)) {j b : Nat} (h : p (key j b) = false) :
    t.reg j b = entryDefault t.board t.nv j b := by
  unfold State.reg
  rw [hr, lookup_filter, h]
  rfl

/-- An entry that a filter of the store keeps reads as before. -/
theorem reg_of_filtered {t : State} {p : Nat → Bool} (hr : t.regs = s.regs.filter (fun e => p e.1)) (hb : t.board = s.board) (hn : t.nv = s.nv)
    {j b : Nat} (h : p (key j b) = true) : t.reg j b = s.reg j b := by
  unfold State.reg
  rw [hr, lookup_filter, h, hb, hn]
  rfl

/-- What a reset of every unit leaves: the commands that wait and the board. -/
def State.Cleared (s t : State) : Prop :=
  t.dram = [] ∧ t.doms = [] ∧ t.time = TimeState.reset ∧ t.pos = PosState.reset ∧ t.dowel = DowelState.reset ∧
    t.fabric = FabricState.reset ∧ t.dsp = DspState.reset ∧ t.crib = CribState.reset ∧ t.dict = DictState.reset ∧ t.pending = s.pending ∧ t.board = s.board

/-- The part starts from reset with a cause (R545). -/
def State.StartsWith (s : State) (cause : Nat) (t : State) : Prop :=
  s.Cleared t ∧ t.pwState = pwStarting ∧ t.reg 0x7800 2 = cause ∧ t.power.resetCause = cause ∧ t.power.dictUp = false ∧
    t.nv = { s.nv with boots := satAdd32 s.nv.boots 1 } ∧
    ∀ idx sub, sub < 256 → (idx, sub) ≠ (0x2000, 1) → (idx, sub) ≠ (0x7800, 2) → (idx, sub) ≠ (0x7400, 0x10) → t.reg idx sub = entryDefault s.board t.nv idx sub

/-- The part is OFF, and has lost all but housekeeping (R535). -/
def State.TurnsOff (s t : State) : Prop :=
  s.Cleared t ∧ t.pwState = pwOff ∧ t.outbox = s.outbox ∧
    ∀ idx sub, sub < 256 → (idx < 0x7400 ∨ 0x7431 < idx) → (idx, sub) ≠ (0x2000, 1) → t.reg idx sub = entryDefault s.board t.nv idx sub

theorem restart_starts (s : State) (cause : Nat) : s.StartsWith cause (s.restart cause) := by
  refine ⟨⟨rfl, rfl, rfl, rfl, rfl, rfl, rfl, rfl, rfl, rfl, rfl⟩, ?_, reg_setReg_same .., rfl, rfl, rfl, fun idx sub hsub hpw hcause hkept => ?_⟩
  · exact (reg_setReg_other _ _ (by omega) (by omega) (by omega)).trans (reg_setReg_same ..)
  · simp only [ne_eq, Prod.mk.injEq] at hpw hcause hkept
    unfold State.restart State.setPw
    rw [reg_setReg_other _ _ (by omega) hsub (by omega), reg_setReg_other _ _ (by omega) hsub (by omega)]
    exact reg_of_dropped rfl (decide_eq_false (mt (key_inj hsub (by omega)).1 hkept))

theorem resetUnits_turnsOff {u : State} {kept : Nat → Bool} (hp : u.pending = s.pending) (hb : u.board = s.board) (ho : u.outbox = s.outbox)
    (hk : ∀ idx sub, sub < 256 → (idx < 0x7400 ∨ 0x7431 < idx) → kept (key idx sub) = false) : s.TurnsOff ((u.resetUnits kept).setPw pwOff) := by
  refine ⟨⟨rfl, rfl, rfl, rfl, rfl, rfl, rfl, rfl, rfl, hp, hb⟩, reg_setReg_same .., ho, fun idx sub hsub hidx hpw => ?_⟩
  simp only [ne_eq, Prod.mk.injEq] at hpw
  unfold State.setPw
  rw [reg_setReg_other _ _ (by omega) hsub (by omega), ← hb]
  exact reg_of_dropped rfl (hk idx sub hsub hidx)

theorem keptAtReset_outside (idx sub : Nat) (hsub : sub < 256) (hidx : idx < 0x7400 ∨ 0x7431 < idx) : keptAtReset (key idx sub) = false := by
  have hne : ¬(idx = 0x7400 ∧ sub = 0x10) := by omega
  exact decide_eq_false (mt (key_inj hsub (by omega)).1 hne)

theorem keptInOff_key {idx sub : Nat} (hsub : sub < 256) : keptInOff (key idx sub) = (decide (0x7400 ≤ idx) && decide (idx ≤ 0x7431)) := by
  have hidx : key idx sub / 256 = idx := by
    unfold key
    omega
  unfold keptInOff
  rw [hidx]

theorem powerOff_turnsOff {u : State} (hp : u.pending = s.pending) (hb : u.board = s.board) (ho : u.outbox = s.outbox) : s.TurnsOff u.powerOff := by
  refine resetUnits_turnsOff hp hb ho fun idx sub hsub hidx => ?_
  rw [keptInOff_key hsub]
  simp only [Bool.and_eq_false_iff, decide_eq_false_iff_not]
  omega

theorem resetPulse_starts (hp : s.power.pwrEn = true) (cause : Nat) : s.StartsWith cause (s.resetPulse cause) := by
  unfold State.resetPulse
  rw [if_pos hp]
  exact restart_starts s cause

theorem resetPulse_turnsOff (hp : s.power.pwrEn = false) (cause : Nat) : s.TurnsOff (s.resetPulse cause) := by
  unfold State.resetPulse
  rw [if_neg (by simp [hp])]
  exact resetUnits_turnsOff rfl rfl rfl keptAtReset_outside

theorem resetPulse_porstN (cause : Nat) : (s.resetPulse cause).power.porstN = s.power.porstN := by
  unfold State.resetPulse
  split <;> rfl

theorem resetPulse_tapIr (cause : Nat) : (s.resetPulse cause).power.tapIr = s.power.tapIr := by
  unfold State.resetPulse
  split <;> rfl

theorem entryDefault_session (b : Board) (nv : Nv) {j : Nat} (h : 0x1030 ≤ j) (h' : j ≤ 0x1037) : entryDefault b nv j 1 = 0 := by
  interval_cases j <;> rfl

/-- Where the session entries are at their defaults, no session is open. -/
theorem sessionOpen_of_default {t : State} (h : ∀ j, 0x1030 ≤ j → j ≤ 0x1037 → t.reg j 1 = 0) (k : Nat) : t.sessionOpen k = false := by
  unfold State.sessionOpen
  by_cases hk : 1 ≤ k ∧ k ≤ 8
  · rw [h _ (by omega) (by omega)]
    simp
  · have hout : (decide (1 ≤ k) && decide (k ≤ 8)) = false := by simpa using hk
    simp [hout]

theorem result_closed {t : State} (h : t.sessionOpen sess = false) (op : Nat) (a : Answer) : t.result sess op idx sub a = t :=
  if_neg (by simp [h])

/-- A reset closes every session, so the one that asked for it gets no answer. -/
theorem completes_deviceReset {P : State → Prop} (hl : s.lets sess 0x2000 0x0B) (hd : ∀ j, 0x1030 ≤ j → j ≤ 0x1037 → (s.resetPulse 3).reg j 1 = 0)
    (hP : P (s.resetPulse 3)) : Completes (.deviceReset sess) s P := by
  refine completes_of (exec_deviceReset hl) ?_
  rw [cmdReset, commanded_ok, result_closed (sessionOpen_of_default hd sess)]
  exact hP

theorem State.StartsWith.session_closed {cause : Nat} {t : State} (h : s.StartsWith cause t) (j : Nat) (hj : 0x1030 ≤ j) (hj' : j ≤ 0x1037) : t.reg j 1 = 0 := by
  obtain ⟨-, -, -, -, -, -, hdef⟩ := h
  rw [hdef j 1 (by omega) (by simp; omega) (by simp) (by simp), entryDefault_session _ _ hj hj']

theorem State.TurnsOff.session_closed {t : State} (h : s.TurnsOff t) (j : Nat) (hj : 0x1030 ≤ j) (hj' : j ≤ 0x1037) : t.reg j 1 = 0 := by
  obtain ⟨-, -, -, hdef⟩ := h
  rw [hdef j 1 (by omega) (by omega) (by simp; omega), entryDefault_session _ _ hj hj']

/-- DEVICE_RESET (R549). -/
theorem deviceReset_completes (hl : s.lets sess 0x2000 0x0B) :
    (s.power.pwrEn = true → Completes (.deviceReset sess) s (s.StartsWith 3)) ∧ (s.power.pwrEn = false → Completes (.deviceReset sess) s s.TurnsOff) := by
  refine ⟨fun hp => ?_, fun hp => ?_⟩
  · have h := resetPulse_starts hp 3
    exact completes_deviceReset hl h.session_closed h
  · have h := resetPulse_turnsOff hp 3
    exact completes_deviceReset hl h.session_closed h

/-- JTAG_RESET (R569). -/
theorem jtagReset_completes (hp : s.power.porstN = true) (hpwr : s.power.pwrEn = true) : Completes .jtagReset s (fun t => s.StartsWith 4 t ∧ t.power.tapIr = 0x20) := by
  refine completes_of (t := (s.tap 0x20 0 0).resetPulse 4) (congrArg Host.Outcome.next (if_pos hp)) ⟨resetPulse_starts (s := s.tap 0x20 0 0) hpwr 4, ?_⟩
  exact resetPulse_tapIr 4

/-- JTAG_RESET while PORST_N holds the part in reset (R569). -/
theorem jtagReset_inReset (hp : s.power.porstN = false) :
    Completes .jtagReset s (fun t => t.power = { s.power with tapIr := 0x20, tapDr := 0, tapDrive := 0 } ∧ t.regs = s.regs) :=
  completes_of (congrArg Host.Outcome.next (if_neg (by simp [hp]))) ⟨rfl, rfl⟩

/-! #### PWR_EN -/

/-- The state with another level of ball PWR_EN. -/
def State.withPwrEn (s : State) (level : Bool) : State := s.modPower (fun p => { p with pwrEn := level })

/-- The state with another level of ball PORST_N. -/
def State.withPorstN (s : State) (level : Bool) : State := s.modPower (fun p => { p with porstN := level })

theorem nvRecord_keeps (c i u d : Nat) : (s.nvRecord c i u d).pending = s.pending ∧ (s.nvRecord c i u d).board = s.board ∧ (s.nvRecord c i u d).outbox = s.outbox :=
  ⟨nvPlace_pending .., nvPlace_board .., nvPlace_outbox ..⟩

theorem nvPlace_pwrEn (r : Nat) : (s.nvPlace r).power.pwrEn = s.power.pwrEn := by
  unfold State.nvPlace
  dsimp only
  split
  · rfl
  · split <;> rfl

theorem pwrEnFall_on (hp : s.power.pwrEn = true) (hn : s.power.porstN = true) (hw : s.pwState ≠ pwOff) :
    Completes .pwrEnFall s (fun t => s.TurnsOff t ∧ t.power.pwrEn = false) := by
  have hexec : exec .pwrEnFall s = .next (((s.withPwrEn false).nvRecord 0x21 0 0 s.sc).powerOff) := by
    show execPwrEnFall s = _
    unfold execPwrEnFall
    rw [if_neg (by simp [hp])]
    exact congrArg Host.Outcome.next (if_pos (Bool.and_eq_true_iff.2 ⟨hn, decide_eq_true hw⟩))
  obtain ⟨hpend, hboard, hout⟩ := nvRecord_keeps (s := s.withPwrEn false) 0x21 0 0 s.sc
  exact completes_of hexec ⟨powerOff_turnsOff hpend hboard hout, nvPlace_pwrEn _⟩

/-- PWR_EN falls while the part is off already, or held in reset (R535). -/
theorem pwrEnFall_off (hp : s.power.pwrEn = true) (h : s.power.porstN = false ∨ s.pwState = pwOff) :
    Completes .pwrEnFall s (fun t => t.power = { s.power with pwrEn := false } ∧ t.regs = s.regs) := by
  have hoff : ¬(s.power.porstN && decide (s.pwState ≠ pwOff)) = true := by
    obtain h | h := h <;> simp [h]
  have hexec : exec .pwrEnFall s = .next (s.withPwrEn false) := by
    show execPwrEnFall s = _
    unfold execPwrEnFall
    rw [if_neg (by simp [hp])]
    exact congrArg Host.Outcome.next (if_neg hoff)
  exact completes_of hexec ⟨rfl, rfl⟩

/-- PWR_EN rises on a part that is off (R535, R542): it starts, unless it is still hot after a thermal shutdown. -/
theorem pwrEnRise_off (hp : s.power.pwrEn = false) (hn : s.power.porstN = true) (hw : s.pwState = pwOff) :
    exec .pwrEnRise s =
      .next (if s.power.thermalOff then (if s.sreg 16 0x7400 1 < 115 * 16 then (s.withPwrEn true).restart 2 else (s.withPwrEn true).inc8 0x7400 0x10 1)
        else (s.withPwrEn true).restart 1) := by
  have hon : ¬(!s.power.porstN || decide (s.pwState ≠ pwOff)) = true := by simp [hn, hw]
  show execPwrEnRise s = _
  unfold execPwrEnRise
  rw [if_neg (by simp [hp])]
  exact congrArg Host.Outcome.next (if_neg hon)

theorem pwrEnRise_completes (hp : s.power.pwrEn = false) (hn : s.power.porstN = true) (hw : s.pwState = pwOff) :
    (s.power.thermalOff = false → Completes .pwrEnRise s (fun t => s.StartsWith 1 t ∧ t.power.pwrEn = true)) ∧
    (s.power.thermalOff = true → s.sreg 16 0x7400 1 < 115 * 16 → Completes .pwrEnRise s (s.StartsWith 2)) ∧
    (s.power.thermalOff = true → 115 * 16 ≤ s.sreg 16 0x7400 1 → Completes .pwrEnRise s (fun t => t.pwState = pwOff ∧ t.power.pwrEn = true ∧
      t.reg 0x7400 0x10 = min (s.reg 0x7400 0x10 + 1) 255)) := by
  have hexec := pwrEnRise_off hp hn hw
  refine ⟨fun ht => ?_, fun ht hcool => ?_, fun ht hhot => ?_⟩
  · rw [ht] at hexec
    exact completes_of hexec ⟨restart_starts (s.withPwrEn true) 1, rfl⟩
  · rw [ht, if_pos rfl, if_pos hcool] at hexec
    exact completes_of hexec (restart_starts (s.withPwrEn true) 2)
  · rw [ht, if_pos rfl, if_neg (not_lt.2 hhot)] at hexec
    refine completes_of hexec ⟨?_, rfl, inc8_reg_same ..⟩
    exact (inc8_reg_key _ 1 (by decide)).trans hw

/-! #### PORST_N, the undervoltage detectors and VAON -/

theorem porstNAssert_completes (hn : s.power.porstN = true) :
    Completes .porstNAssert s (fun t => s.Cleared t ∧ t.power.porstN = false ∧ t.nv = s.nv) :=
  completes_of (congrArg Host.Outcome.next (if_pos hn)) ⟨⟨rfl, rfl, rfl, rfl, rfl, rfl, rfl, rfl, rfl, rfl, rfl⟩, rfl, rfl⟩

/-- PORST_N_RELEASE (R535, R542, R545). -/
theorem porstNRelease_completes (hn : s.power.porstN = false) :
    (s.power.pwrEn = true → Completes .porstNRelease s (fun t => s.StartsWith (if s.power.thermalOff then 2 else 0) t ∧ t.power.porstN = true)) ∧
    (s.power.pwrEn = false → Completes .porstNRelease s (fun t => s.TurnsOff t ∧ t.power.porstN = true)) := by
  have hexec : exec .porstNRelease s = .next ((s.withPorstN true).resetPulse (if s.power.thermalOff then 2 else 0)) :=
    congrArg Host.Outcome.next (if_neg (by simp [hn]))
  have hup (cause : Nat) : ((s.withPorstN true).resetPulse cause).power.porstN = true :=
    resetPulse_porstN cause
  refine ⟨fun hp => ?_, fun hp => ?_⟩
  · exact completes_of hexec ⟨resetPulse_starts (s := s.withPorstN true) hp _, hup _⟩
  · exact completes_of hexec ⟨resetPulse_turnsOff (s := s.withPorstN true) hp _, hup _⟩

/-- UNDERVOLTAGE (R563). -/
theorem undervoltage_completes {rail : Nat} (h : rail < 13) (h4 : rail ≠ 4) :
    (s.power.porstN = true → s.pwState ≠ pwOff → Completes (.undervoltage rail) s (fun t => s.TurnsOff t ∧ t.power.undervoltOff = true)) ∧
    (s.power.porstN = false ∨ s.pwState = pwOff → exec (.undervoltage rail) s = .next s) := by
  have hin : (decide (rail < 13) && decide (rail ≠ 4)) = true := by simp [h, h4]
  refine ⟨fun hn hw => ?_, fun hoff => ?_⟩
  · obtain ⟨hpend, hboard, hout⟩ := nvRecord_keeps (s := s) 0x21 0 (0x100 + railChannel.getD rail 0) s.sc
    refine completes_of ((inst_ok hin).trans (congrArg Host.Outcome.next (if_pos (by simp [hn, hw])))) ⟨?_, rfl⟩
    exact powerOff_turnsOff hpend hboard hout
  · refine (inst_ok hin).trans (congrArg Host.Outcome.next (if_neg ?_))
    obtain hoff | hoff := hoff <;> simp [hoff]

/-- VAON_LOW (R563). -/
theorem vaonLow_completes : Completes .vaonLow s (fun t => t.power.deferred = [] ∧ t.power.deferredLost = 0 ∧ ∀ idx sub, sub < 256 →
    t.reg idx sub = if 0x7400 ≤ idx ∧ idx ≤ 0x7431 then entryDefault s.board s.nv idx sub else s.reg idx sub) := by
  refine ⟨_, rfl, rfl, rfl, fun idx sub hsub => ?_⟩
  have hkept := keptInOff_key (idx := idx) hsub
  by_cases hidx : 0x7400 ≤ idx ∧ idx ≤ 0x7431
  · rw [if_pos hidx]
    exact reg_of_dropped (p := fun k => !keptInOff k) rfl (by simp [hkept, hidx])
  · rw [if_neg hidx]
    have hout : idx < 0x7400 ∨ 0x7431 < idx := by omega
    refine reg_of_filtered (s := s) (t := { s with regs := s.regs.filter (fun e => !keptInOff e.1) }) (p := fun k => !keptInOff k) rfl rfl rfl ?_
    obtain hout | hout := hout <;> simp [hkept, hout]

/-! #### The dictionary becomes reachable -/

/-- The part in STARTING once its pairs have reported, before a slot runs (R545). -/
def State.pairsReported (s : State) (micros : Nat) (m0 m1 : Bool) : State :=
  ((((s.showChecks.setReg 0x7800 6 (min micros 0xFFFFFFFF)).setReg 0x7020 1 (ofBool (!m0))).setPair 0 (bootPair m0 true)).setPair 1 (bootPair m1 (!m0))).each
    (List.range 2) (fun p s => s.setReg (0x1010 + p) 2 stOn)

/-- The part runs slot `k`, and its dictionary can be reached. -/
def State.slotStarted (s : State) (k : Nat) : State :=
  let s := ((s.runSlot k).setReg 0x7800 3 k).setReg 0x5C00 1 1
  { s.modPower (fun p => { p with dictUp := true }) with time := { s.time with running := true } }

/-- No slot can run: the part is in RECOVERY (R546). -/
def State.recoveryStarted (s : State) : State := (s.setReg 0x7800 1 4).modPower (fun p => { p with dictUp := true, recovery := true })

theorem showChecks_keeps : s.showChecks.nv = s.nv ∧ s.showChecks.power = s.power := by
  unfold State.showChecks
  dsimp only
  split <;> exact ⟨rfl, rfl⟩

theorem pairsReported_entries (s : State) (micros : Nat) (m0 m1 : Bool) : let t := s.pairsReported micros m0 m1
    t.reg 0x7800 6 = min micros 0xFFFFFFFF ∧ t.reg 0x7020 1 = ofBool (!m0) ∧ t.pair 0 = bootPair m0 true ∧ t.pair 1 = bootPair m1 (!m0) ∧
      t.reg 0x1010 2 = stOn ∧ t.reg 0x1011 2 = stOn := by
  dsimp only
  unfold State.pairsReported State.setPair State.pair
  simp [State.each, List.range_succ, reg_setReg, key]

/-- The boot goes on from the slot that boots, or in RECOVERY. -/
def State.bootFrom (s : State) (slot : Option Nat) : State :=
  match slot with
  | some k => s.slotStarted k
  | none => s.recoveryStarted

theorem pairsReported_keeps (micros : Nat) (m0 m1 : Bool) :
    (s.pairsReported micros m0 m1).nv = s.showChecks.nv ∧ (s.pairsReported micros m0 m1).power = s.showChecks.power := by
  unfold State.pairsReported State.setPair
  simp [State.each, List.range_succ]

theorem slotToBoot_congr {t : State} (h : t.nv = s.nv) : t.slotToBoot = s.slotToBoot := by
  unfold State.slotToBoot State.fwSlot
  rw [h]

/-- The part starts, its test mode is off, and a pair has passed its lockstep check (R545). -/
def State.mayBeReached (s : State) (m0 m1 : Bool) : Prop :=
  s.power.porstN = true ∧ s.pwState = pwStarting ∧ s.power.dictUp = false ∧ s.board.testMode = false ∧ (m0 = true ∨ m1 = true)

theorem mayBeReached_iff {m0 m1 : Bool} :
    (!s.power.porstN || decide (s.pwState ≠ pwStarting) || s.power.dictUp || s.board.testMode || (!m0 && !m1)) = true ↔ ¬s.mayBeReached m0 m1 := by
  rw [← not_iff_not, not_not]
  cases m0 <;> simp [State.mayBeReached, and_assoc]

theorem exec_dictionaryReachable {m0 m1 : Bool} (micros : Nat) (h : s.mayBeReached m0 m1) :
    exec (.dictionaryReachable micros m0 m1) s = .next ((s.pairsReported micros m0 m1).bootFrom s.slotToBoot) := by
  rw [← slotToBoot_congr ((pairsReported_keeps micros m0 m1).1.trans showChecks_keeps.1)]
  exact congrArg Host.Outcome.next (if_neg (mt mayBeReached_iff.1 (not_not.2 h)))

theorem slotStarted_reg (s : State) (k j b : Nat) : (s.slotStarted k).reg j b = (((s.runSlot k).setReg 0x7800 3 k).setReg 0x5C00 1 1).reg j b :=
  reg_congr rfl rfl rfl j b

theorem slotStarted_entries (s : State) (k : Nat) :
    (s.slotStarted k).reg 0x7800 3 = k ∧ (s.slotStarted k).reg 0x7010 5 = k ∧ (s.slotStarted k).reg 0x5C00 1 = 1 := by
  simp only [slotStarted_reg, State.runSlot]
  simp [reg_setReg, key]

theorem slotStarted_recovery (s : State) (k : Nat) : (s.slotStarted k).power.recovery = s.power.recovery := rfl

/-- Starting a slot writes the entries that show it, and no other. -/
theorem slotStarted_reg_other {k j b : Nat} (hb : b < 256) (h : j < 0x1000 ∨ 0x1000 < j) (h' : (j, b) ≠ (0x7010, 5) ∧ (j, b) ≠ (0x7800, 3) ∧ (j, b) ≠ (0x5C00, 1)) :
    (s.slotStarted k).reg j b = s.reg j b := by
  obtain ⟨h1, h2, h3⟩ := h'
  simp only [ne_eq, Prod.mk.injEq] at h1 h2 h3
  rw [slotStarted_reg, State.runSlot]
  iterate 5 rw [reg_setReg_other _ _ (by omega) hb (by omega)]

theorem recoveryStarted_entries (s : State) : s.recoveryStarted.power.recovery = true ∧ s.recoveryStarted.reg 0x7800 1 = 4 :=
  ⟨rfl, (reg_congr rfl rfl rfl 0x7800 1).trans (reg_setReg_same ..)⟩

theorem recoveryStarted_reg_other {j b : Nat} (hb : b < 256) (h : (j, b) ≠ (0x7800, 1)) : s.recoveryStarted.reg j b = s.reg j b := by
  simp only [ne_eq, Prod.mk.injEq] at h
  exact (reg_congr rfl rfl rfl j b).trans (reg_setReg_other _ _ (by omega) hb (by omega))

/-- The boot leaves what the pairs reported as it is. -/
theorem bootFrom_reg_other {slot : Option Nat} {j b : Nat} (hb : b < 256) (h : j < 0x1000 ∨ 0x1000 < j)
    (h' : (j, b) ≠ (0x7010, 5) ∧ (j, b) ≠ (0x7800, 3) ∧ (j, b) ≠ (0x5C00, 1) ∧ (j, b) ≠ (0x7800, 1)) : (s.bootFrom slot).reg j b = s.reg j b := by
  obtain ⟨h1, h2, h3, h4⟩ := h'
  cases slot with
  | some k => exact slotStarted_reg_other hb h ⟨h1, h2, h3⟩
  | none => exact recoveryStarted_reg_other hb h4

theorem bootFrom_dictUp (slot : Option Nat) : (s.bootFrom slot).power.dictUp = true := by
  cases slot <;> rfl

/-- DICTIONARY_REACHABLE (R545, R546). -/
theorem dictionaryReachable_completes {m0 m1 : Bool} (micros : Nat) (h : s.mayBeReached m0 m1) :
    Completes (.dictionaryReachable micros m0 m1) s (fun t => t.power.dictUp = true ∧ t.reg 0x7800 6 = min micros 0xFFFFFFFF ∧ t.reg 0x7020 1 = ofBool (!m0) ∧
      t.pair 0 = bootPair m0 true ∧ t.pair 1 = bootPair m1 (!m0) ∧ t.reg 0x1010 2 = stOn ∧ t.reg 0x1011 2 = stOn ∧
      (∀ k, s.slotToBoot = some k → t.time.running = true ∧ t.reg 0x7800 3 = k ∧ t.reg 0x7010 5 = k ∧ t.reg 0x5C00 1 = 1 ∧ t.power.recovery = s.power.recovery) ∧
      (s.slotToBoot = none → t.power.recovery = true ∧ t.reg 0x7800 1 = 4)) := by
  obtain ⟨hmicros, hsel, hpair0, hpair1, hport0, hport1⟩ := pairsReported_entries s micros m0 m1
  refine completes_of (exec_dictionaryReachable micros h) ⟨bootFrom_dictUp _, ?_, ?_, ?_, ?_, ?_, ?_, fun k hk => ?_, fun hk => ?_⟩
  · exact (bootFrom_reg_other (by omega) (by omega) (by simp)).trans hmicros
  · exact (bootFrom_reg_other (by omega) (by omega) (by simp)).trans hsel
  · exact (bootFrom_reg_other (by omega) (by omega) (by simp)).trans hpair0
  · exact (bootFrom_reg_other (by omega) (by omega) (by simp)).trans hpair1
  · exact (bootFrom_reg_other (by omega) (by omega) (by simp)).trans hport0
  · exact (bootFrom_reg_other (by omega) (by omega) (by simp)).trans hport1
  · rw [hk]
    obtain ⟨hslot, hrun, hwin⟩ := slotStarted_entries (s.pairsReported micros m0 m1) k
    have hpower : (s.pairsReported micros m0 m1).power = s.power := (pairsReported_keeps micros m0 m1).2.trans showChecks_keeps.2
    exact ⟨rfl, hslot, hrun, hwin, (slotStarted_recovery ..).trans (by rw [hpower])⟩
  · rw [hk]
    exact recoveryStarted_entries _

/-! ### What a boot leaves of the power state

Power changes, on the way to RUN, by the records that the deferred queue takes. -/

/-- Every part but the power state. -/
abbrev exceptPower : Nat := 0xFFFBFF

theorem resetCause_of_fr {t : State} (h : Fr exceptPower s t) : t.power.resetCause = s.power.resetCause :=
  congrArg PowerState.resetCause (h.same .power (by decide))

@[simp] theorem nvPlace_resetCause (s : State) (r : Nat) : (s.nvPlace r).power.resetCause = s.power.resetCause := by
  unfold State.nvPlace
  dsimp only
  split
  · rfl
  · split <;> rfl

@[simp] theorem nvRecord_resetCause (s : State) (c i u d : Nat) : (s.nvRecord c i u d).power.resetCause = s.power.resetCause := nvPlace_resetCause ..

@[simp] theorem faultRecord_resetCause (s : State) (c a i u n d : Nat) : (s.faultRecord c a i u n d).power.resetCause = s.power.resetCause := by
  simp only [State.faultRecord]
  split <;> simp

@[simp] theorem faultStart_resetCause (s : State) (c i u d : Nat) : (s.faultStart c i u d).power.resetCause = s.power.resetCause := faultRecord_resetCause ..

@[simp] theorem faultDone_resetCause (s : State) (c a i u d : Nat) : (s.faultDone c a i u d).power.resetCause = s.power.resetCause := by
  unfold State.faultDone
  split
  · exact faultRecord_resetCause ..
  · exact faultRecord_resetCause ..

/-! The parity engine and the controllers -/

@[simp] theorem deviceRead_resetCause (s : State) (ch u : Nat) : (s.deviceRead ch u).power.resetCause = s.power.resetCause :=
  resetCause_of_fr (fr_deviceRead (by decide) (fr_refl s))

@[simp] theorem deviceWrite_resetCause (s : State) (ch u : Nat) (v : Bytes) : (s.deviceWrite ch u v).power.resetCause = s.power.resetCause :=
  resetCause_of_fr (fr_deviceWrite (by decide) (fr_refl s))

@[simp] theorem markUnit_resetCause (s : State) (ch u : Nat) (b : Bool) : (s.markUnit ch u b).power.resetCause = s.power.resetCause :=
  resetCause_of_fr (fr_markUnit (by decide) (fr_refl s))

@[simp] theorem rebuildRead_resetCause (s : State) (ch u : Nat) : (s.rebuildRead ch u).power.resetCause = s.power.resetCause :=
  resetCause_of_fr (fr_rebuildRead (by decide) (fr_refl s))

@[simp] theorem enterStripe_resetCause (s : State) (ch st pos : Nat) (v : Bytes) : (s.enterStripe ch st pos v).power.resetCause = s.power.resetCause :=
  resetCause_of_fr (fr_enterStripe (by decide) (fr_refl s))

@[simp] theorem admitWriters_resetCause (s : State) : s.admitWriters.power.resetCause = s.power.resetCause :=
  resetCause_of_fr (fr_admitWriters (by decide) (fr_refl s))

@[simp] theorem plainWrite_resetCause (s : State) (ch u off : Nat) (v : Bytes) : (s.plainWrite ch u off v).power.resetCause = s.power.resetCause :=
  resetCause_of_fr (fr_plainWrite (by decide) (fr_refl s))

@[simp] theorem takeDelays_resetCause (s : State) (ch : Nat) (b : Bytes) : (s.takeDelays ch b).power.resetCause = s.power.resetCause :=
  resetCause_of_fr (fr_takeDelays (by decide) (fr_refl s))

@[simp] theorem countUncorrectable_resetCause (s : State) (ch u : Nat) : (s.countUncorrectable ch u).power.resetCause = s.power.resetCause :=
  resetCause_of_fr (fr_countUncorrectable (by decide) (fr_refl s))

@[simp] theorem modChan_resetCause (s : State) (ch : Nat) (f : DramChannel → DramChannel) : (s.modChan ch f).power.resetCause = s.power.resetCause :=
  resetCause_of_fr (fr_modChan (by decide) (fr_refl s))

@[simp] theorem noTable_resetCause (s : State) : s.noTable.power.resetCause = s.power.resetCause :=
  resetCause_of_fr (fr_noTable (by decide) (fr_refl s))

@[simp] theorem trainDraw_resetCause (s : State) : s.trainDraw.2.2.power.resetCause = s.power.resetCause :=
  resetCause_of_fr (fr_trainDraw (by decide) (fr_refl s))

theorem each_resetCause {α : Type} {xs : List α} {f : α → State → State} (s : State) (hf : ∀ x (t : State), (f x t).power.resetCause = t.power.resetCause) :
    (s.each xs f).power.resetCause = s.power.resetCause := each_same (fun t => t.power.resetCause) hf xs s

@[simp] theorem readFails_resetCause (s : State) (ch u : Nat) : (s.readFails ch u).power.resetCause = s.power.resetCause := faultRecord_resetCause ..

@[simp] theorem engineRead_resetCause (s : State) (ch u : Nat) : (s.engineRead ch u).power.resetCause = s.power.resetCause := by
  unfold State.engineRead
  split
  · exact deviceRead_resetCause ..
  · split
    · exact rebuildRead_resetCause ..
    · exact readFails_resetCause ..

@[simp] theorem closeStripe_resetCause (s : State) (stripe : Nat) : (s.closeStripe stripe).power.resetCause = s.power.resetCause := by
  have hreads (rest : List Nat) : (s.each rest (fun c s => s.engineRead c stripe)).power.resetCause = s.power.resetCause :=
    each_resetCause s fun c t => engineRead_resetCause t c stripe
  simp only [State.closeStripe]
  split <;> split <;> simp [hreads]

@[simp] theorem completeUnit_resetCause (s : State) (x : Assembly) (ch stripe : Nat) : (s.completeUnit x ch stripe).2.power.resetCause = s.power.resetCause := by
  unfold State.completeUnit
  split
  · rfl
  · split <;> simp

@[simp] theorem closeAssembly_resetCause (s : State) (x : Assembly) (close : Bool) : (s.closeAssembly x close).power.resetCause = s.power.resetCause := by
  unfold State.closeAssembly
  dsimp only
  split
  · rfl
  · split <;> simp

@[simp] theorem releaseHeld_resetCause (s : State) (ch : Nat) : (s.releaseHeld ch).power.resetCause = s.power.resetCause := by
  have hunits (t : State) (xs : List Assembly) : (t.each xs (fun x s => s.closeAssembly x false)).power.resetCause = t.power.resetCause :=
    each_resetCause t fun x u => closeAssembly_resetCause u x false
  have hparities (t : State) (xs : List (Nat × StripeAcc)) : (t.each xs (fun p s => s.closeStripe p.1)).power.resetCause = t.power.resetCause :=
    each_resetCause t fun p u => closeStripe_resetCause u p.1
  unfold State.releaseHeld
  dsimp only
  rw [hparities, hunits]

@[simp] theorem readUnitOnly_resetCause (s : State) (ch u err : Nat) : (s.readUnitOnly ch u err).power.resetCause = s.power.resetCause := by
  unfold State.readUnitOnly
  dsimp only
  split
  · split
    · split <;> simp
    · rw [countUncorrectable_resetCause]
      split
      · split <;> simp
      · split <;> simp
  · split <;> simp

@[simp] theorem serveReq_resetCause (s : State) (r : DramReq) : (s.serveReq r).power.resetCause = s.power.resetCause := by
  unfold State.serveReq
  dsimp only
  split <;> simp

@[simp] theorem serveQueue_resetCause (s : State) (ch fuel : Nat) : (s.serveQueue ch fuel).power.resetCause = s.power.resetCause := by
  induction fuel generalizing s with
  | zero => rfl
  | succ fuel ih =>
    unfold State.serveQueue
    split
    · rw [ih, serveReq_resetCause]
    · rfl

@[simp] theorem backOnline_resetCause (s : State) (ch : Nat) : (s.backOnline ch).power.resetCause = s.power.resetCause := by
  unfold State.backOnline
  dsimp only
  split <;> simp

@[simp] theorem failQueue_resetCause (s : State) (ch : Nat) : (s.failQueue ch).power.resetCause = s.power.resetCause := by
  have hfails (t : State) (xs : List DramReq) : (t.each xs (fun r s => s.readFails ch r.unit)).power.resetCause = t.power.resetCause :=
    each_resetCause t fun r u => readFails_resetCause u ch r.unit
  unfold State.failQueue
  dsimp only
  rw [hfails, setDdr_power]

@[simp] theorem channelLost_resetCause (s : State) (ch cause : Nat) : (s.channelLost ch cause).power.resetCause = s.power.resetCause := by
  have hback (xs : List Nat) : (s.each xs (fun c s => s.backOnline c)).power.resetCause = s.power.resetCause :=
    each_resetCause s fun c t => backOnline_resetCause t c
  unfold State.channelLost
  split
  · rfl
  · dsimp only
    split <;> split <;> simp [hback]

@[simp] theorem trainChannel_resetCause (s : State) (ch : Nat) : (s.trainChannel ch).power.resetCause = s.power.resetCause := by
  unfold State.trainChannel
  dsimp only
  split <;> simp

@[simp] theorem dramStart_resetCause (s : State) : s.dramStart.power.resetCause = s.power.resetCause := by
  have htrain (t : State) (xs : List Nat) : (t.each xs (fun ch s => s.trainChannel ch)).power.resetCause = t.power.resetCause :=
    each_resetCause t fun ch u => trainChannel_resetCause u ch
  unfold State.dramStart
  dsimp only
  split
  · split <;> simp [htrain]
  · simp [htrain]

/-! The placement, the shim map and the lanes -/

@[simp] theorem placeTiles_resetCause (s : State) (bad : List Nat) : (s.placeTiles bad).power.resetCause = s.power.resetCause := by
  unfold State.placeTiles
  dsimp only
  rw [setReg_power, each_resetCause _ fun g t => faultRecord_resetCause ..]
  exact each_resetCause s fun bay t => resetCause_of_fr (fr_placeBay (by decide) (fr_refl t))

@[simp] theorem shimMap_resetCause (s : State) (cells : List Nat) : (s.shimMap cells).power.resetCause = s.power.resetCause :=
  resetCause_of_fr (fr_shimMap (by decide) (fr_refl s))

@[simp] theorem disqualify_resetCause (s : State) (i cause : Nat) : (s.disqualify i cause).power.resetCause = s.power.resetCause := by
  unfold State.disqualify
  split
  · simp
  · rfl

@[simp] theorem signalLoss_resetCause (s : State) (cand : Nat) : (s.signalLoss cand).power.resetCause = s.power.resetCause := by
  unfold State.signalLoss
  dsimp only
  split
  · rw [resetCause_of_fr (fr_reselect (by decide) (fr_refl _))]
    simp
  · rfl

/-- What holds through every write but those of sub-index 9, and through the loss of a candidate's signal, holds through a lane's change of state. -/
theorem setLaneState_same_of {γ : Type} (P : State → γ) (hset : ∀ (t : State) j b v, b < 9 → P (t.setReg j b v) = P t)
    (hloss : ∀ (t : State) i, P (t.signalLoss i) = P t) (s : State) (n st : Nat) : P (s.setLaneState n st) = P s := by
  unfold State.setLaneState
  dsimp only
  rw [each_same P fun i t => ?cand]
  case cand =>
    split
    · split
      · exact hset t _ _ _ (by omega)
      · exact hloss t i
    · rfl
  split
  · exact hset s _ _ _ (by omega)
  · rw [hset _ _ _ _ (by omega), hset s _ _ _ (by omega)]

theorem failLanes_same_of {γ : Type} (P : State → γ) (hset : ∀ (t : State) j b v, b < 9 → P (t.setReg j b v) = P t)
    (hcount : ∀ (t : State) v, P (t.setReg 0x7800 0x0A v) = P t) (hloss : ∀ (t : State) i, P (t.signalLoss i) = P t) (s : State) (lanes : List Nat) :
    P (s.failLanes lanes) = P s := by
  unfold State.failLanes
  dsimp only
  rw [hcount]
  refine each_same P (fun n t => ?_) _ s
  split
  · exact setLaneState_same_of P hset hloss t _ _
  · exact hset t _ _ _ (by omega)

@[simp] theorem failLanes_resetCause (s : State) (lanes : List Nat) : (s.failLanes lanes).power.resetCause = s.power.resetCause :=
  failLanes_same_of (fun t => t.power.resetCause) (fun _ _ _ _ _ => rfl) (fun _ _ => rfl) (fun t i => signalLoss_resetCause t i) s lanes

/-! ### The count of failed tiles, and the spare cells -/

theorem disqualify_tileCount (i cause : Nat) : (s.disqualify i cause).reg 0x7800 9 = s.reg 0x7800 9 := by
  unfold State.disqualify
  split
  · dsimp only
    rw [faultRecord_reg _ _ _ _ _ _ _ (by omega) (by omega) (by omega) (by omega) (by omega) (by simp [isCounterOvf, key]) (by omega),
      reg_setReg_key _ _ (by simp only [key]; omega), modCand_reg, inc32_reg_key _ _ (by simp only [key]; omega), reg_setReg_key _ _ (by simp only [key]; omega),
      State.regBit, reg_setReg_key _ _ (by simp only [key]; omega)]
  · rfl

theorem signalLoss_tileCount (cand : Nat) : (s.signalLoss cand).reg 0x7800 9 = s.reg 0x7800 9 := by
  unfold State.signalLoss
  split
  · dsimp only
    rw [reselect_reg _ (by omega) (by omega) (by omega) (by omega) (by omega), disqualify_tileCount, modCand_reg,
      inc32_reg_key _ _ (by simp only [key]; omega), State.regBit, reg_setReg_key _ _ (by simp only [key]; omega)]
  · rfl

/-- Failing lanes leaves the count of failed tiles (7800h.09). -/
theorem failLanes_tileCount (lanes : List Nat) : (s.failLanes lanes).reg 0x7800 9 = s.reg 0x7800 9 :=
  failLanes_same_of (fun t => t.reg 0x7800 9) (fun t _ _ _ _ => reg_setReg_key t _ (by simp only [key]; omega)) (fun t _ => reg_setReg_key t _ (by decide))
    (fun _ i => signalLoss_tileCount i) s lanes

theorem placeTiles_tileCount (bad : List Nat) : (s.placeTiles bad).reg 0x7800 9 = (bad.filter (fun g => decide (g < s.board.bays * 68))).length :=
  reg_setReg_same ..

theorem tile_setTile_other {g k : Nat} (x : Tile) (h : g ≠ k) : (s.setTile k x).tile g = s.tile g := by
  unfold State.tile State.setTile
  rw [lookup_insertKey_other _ _ h]

/-- Tiles whose spare cells are set, one after another. -/
theorem each_spareCells (f : Nat → Nat) (g : Nat) (xs : List Nat) (s : State) :
    ((s.each xs (fun g s => s.setTile g { s.tile g with spareCells := f g })).tile g).spareCells = if g ∈ xs then f g else (s.tile g).spareCells := by
  induction xs generalizing s with
  | nil => rfl
  | cons x xs ih =>
    have hstep : ((s.setTile x { s.tile x with spareCells := f x }).tile g).spareCells = if g = x then f g else (s.tile g).spareCells := by
      split
      next hg => rw [hg, tile_setTile]
      next hg => rw [tile_setTile_other _ hg]
    refine (ih _).trans ?_
    rw [hstep]
    by_cases hg : g = x <;> by_cases hxs : g ∈ xs <;> simp [hg, hxs]

/-- A tile of the array whose self-test found faulty cells has taken a spare cell for each (R144). -/
theorem shimMap_spareCells {cells : List Nat} {g : Nat} (hg : g < s.board.bays * 68) (hc : g ∈ cells) : ((s.shimMap cells).tile g).spareCells = 4 - cells.count g := by
  unfold State.shimMap
  rw [each_spareCells (fun g => 4 - cells.count g), if_pos]
  rw [List.mem_eraseDups, List.mem_filter]
  exact ⟨hc, decide_eq_true hg⟩

/-! ### The boot completes -/

/-- DRAM, tiles, cells and lanes after the self-test (R545). -/
def State.selfTested (s : State) (tiles cells lanes : List Nat) : State := ((s.dramStart.placeTiles tiles).shimMap cells).failLanes lanes

/-- The part enters RUN (R545). -/
def State.entersRun (s : State) (micros : Nat) : State :=
  let s := ((s.setPw pwRun).setReg 0x7800 1 3).setReg 0x7800 7 (min micros 0xFFFFFFFF)
  s.nvRecord 0x22 (s.reg 0x7800 3) (s.reg 0x7800 2) (min micros 0xFFFFFFFF)

theorem nvRecord_reg (c i u d : Nat) {j b : Nat} (hb : b < 256) (h : j ≠ 0x7480) : (s.nvRecord c i u d).reg j b = s.reg j b :=
  (nvPlace_reg _ _ hb h).trans (reg_congr rfl rfl rfl j b)

theorem entersRun_reg (micros : Nat) {j b : Nat} (hb : b < 256) (h : j ≠ 0x7480) :
    (s.entersRun micros).reg j b = (((s.setPw pwRun).setReg 0x7800 1 3).setReg 0x7800 7 (min micros 0xFFFFFFFF)).reg j b :=
  nvRecord_reg _ _ _ _ hb h

theorem entersRun_entries (s : State) (micros : Nat) : (s.entersRun micros).pwState = pwRun ∧ (s.entersRun micros).reg 0x7800 1 = 3 ∧
    (s.entersRun micros).reg 0x7800 7 = min micros 0xFFFFFFFF ∧ (s.entersRun micros).reg 0x7800 9 = s.reg 0x7800 9 := by
  unfold State.pwState
  rw [entersRun_reg micros (by omega) (by omega), entersRun_reg micros (by omega) (by omega), entersRun_reg micros (by omega) (by omega),
    entersRun_reg micros (by omega) (by omega), State.setPw]
  simp [reg_setReg, key]

theorem entersRun_resetCause (micros : Nat) : (s.entersRun micros).power.resetCause = s.power.resetCause := nvRecord_resetCause ..

theorem entersRun_tile (micros g : Nat) : (s.entersRun micros).tile g = s.tile g := by
  have hx : (s.entersRun micros).xarray = s.xarray := nvPlace_xarray ..
  unfold State.tile
  rw [hx]

theorem selfTested_resetCause (tiles cells lanes : List Nat) : (s.selfTested tiles cells lanes).power.resetCause = s.power.resetCause := by
  simp [State.selfTested]

theorem selfTested_tileCount (tiles cells lanes : List Nat) :
    (s.selfTested tiles cells lanes).reg 0x7800 9 = (tiles.filter (fun g => decide (g < s.board.bays * 68))).length := by
  unfold State.selfTested
  rw [failLanes_tileCount, State.shimMap, each_reg _ fun _ _ _ => setTile_reg' .., placeTiles_tileCount, (keeps_dramStart (keeps_refl s)).board]

theorem selfTested_spareCells {tiles cells : List Nat} (lanes : List Nat) {g : Nat} (hg : g < s.board.bays * 68) (hc : g ∈ cells) :
    ((s.selfTested tiles cells lanes).tile g).spareCells = 4 - cells.count g := by
  have hx (t : State) : (t.failLanes lanes).xarray = t.xarray := (fr_failLanes (m := 525635) (within_refl _) (fr_refl t)).same .xarray (by decide)
  have hboard : (s.dramStart.placeTiles tiles).board = s.board := (keeps_placeTiles (keeps_dramStart (keeps_refl s))).board
  rw [State.selfTested, ← shimMap_spareCells (s := s.dramStart.placeTiles tiles) (hboard ▸ hg) hc]
  unfold State.tile
  rw [hx]

/-- BOOT_COMPLETE (R545). -/
theorem bootComplete_completes (micros : Nat) (tiles cells lanes : List Nat)
    (h : s.pwState = pwStarting ∧ s.power.dictUp = true ∧ s.power.recovery = false ∧ s.power.porstN = true) :
    Completes (.bootComplete micros ⟨tiles, cells⟩ lanes) s (fun t => t.pwState = pwRun ∧ t.reg 0x7800 1 = 3 ∧ t.reg 0x7800 7 = min micros 0xFFFFFFFF ∧
      t.reg 0x7800 9 = (tiles.filter (fun g => decide (g < s.board.bays * 68))).length ∧ (s.power.resetCause = 2 → t.reg 0x7400 0x10 = 0) ∧
      ∀ g, g < s.board.bays * 68 → g ∈ cells → (t.tile g).spareCells = 4 - cells.count g) := by
  obtain ⟨hw, hd, hr, hn⟩ := h
  have hexec : exec (.bootComplete micros ⟨tiles, cells⟩ lanes) s =
      .next (let u := (s.selfTested tiles cells lanes).entersRun micros; if u.power.resetCause = 2 then u.setReg 0x7400 0x10 0 else u) :=
    congrArg Host.Outcome.next (if_pos (by simp [hw, hd, hr, hn]))
  have hcause : ((s.selfTested tiles cells lanes).entersRun micros).power.resetCause = s.power.resetCause :=
    (entersRun_resetCause micros).trans (selfTested_resetCause tiles cells lanes)
  obtain ⟨hpw, hphase, htime, hcount⟩ := entersRun_entries (s.selfTested tiles cells lanes) micros
  have hspare : ∀ g, g < s.board.bays * 68 → g ∈ cells → (((s.selfTested tiles cells lanes).entersRun micros).tile g).spareCells = 4 - cells.count g :=
    fun g hg hc => (congrArg Tile.spareCells (entersRun_tile micros g)).trans (selfTested_spareCells lanes hg hc)
  rw [selfTested_tileCount] at hcount
  refine completes_of hexec ?_
  dsimp only
  rw [hcause]
  split
  next hc =>
    refine ⟨?_, ?_, ?_, ?_, fun _ => reg_setReg_same .., hspare⟩
    · exact (reg_setReg_key _ _ (by decide)).trans hpw
    · exact (reg_setReg_key _ _ (by decide)).trans hphase
    · exact (reg_setReg_key _ _ (by decide)).trans htime
    · exact (reg_setReg_key _ _ (by decide)).trans hcount
  next hc => exact ⟨hpw, hphase, htime, hcount, fun h => absurd h hc, hspare⟩

/-- Settles O59: a reset and a loss of power both clear every unit, so one frame lemma serves each cause; the boot's parts are taken in the order of R545.
That a lost store reads 0 is the model's choice (logs 6 and 56), as is what a tile in both the log and the self-test reads (log 47). -/
theorem powerResetAndBoot : Obligations.PowerResetAndBoot := by
  intro s
  refine ⟨fun sess hl => deviceReset_completes hl, jtagReset_completes, jtagReset_inReset, fun hp => ?_, pwrEnFall_on, pwrEnFall_off, fun hp => ?_,
    pwrEnRise_completes, fun hn => ?_, porstNAssert_completes, fun hn => ?_, porstNRelease_completes, fun rail h h4 => undervoltage_completes h h4,
    vaonLow_completes, fun micros m0 m1 => ⟨fun h => ?_, dictionaryReachable_completes micros⟩,
    fun micros tiles cells lanes => ⟨fun h => ?_, bootComplete_completes micros tiles cells lanes⟩⟩
  · exact congrArg Host.Outcome.next (if_pos (by simp [hp]))
  · exact congrArg Host.Outcome.next (if_pos hp)
  · exact congrArg Host.Outcome.next (if_neg (by simp [hn]))
  · exact congrArg Host.Outcome.next (if_pos hn)
  · exact congrArg Host.Outcome.next (if_pos (mayBeReached_iff.2 h))
  · refine congrArg Host.Outcome.next (if_neg fun hgo => h ?_)
    simpa [and_assoc] using hgo

end Sys2Proof.Machine
end


section
/-! The crib's sample packets, slabs, windows and loft halves (chapter 3). -/

set_option Elab.async false

namespace Sys2Proof.Machine

/-! ### Sample packets -/

/-- The crib is ON and block `b` is one of those it takes (R84). -/
def State.takesBlock (s : State) (b : Nat) : Prop := s.cribOn = true ∧ b < 128 ∧ bitAt (s.reg 0x2800 7) b = true

/-- The crib takes a packet's block, the packet has the shape of `k` spectra, and its channel and the SC of its first spectrum name a place (R83, R84). -/
def State.placesPacket (s : State) (p : Packet) (k : Nat) : Prop :=
  s.takesBlock p.stream ∧ packetSpectra (s.reg 0x2800 3) p.words.length = some k ∧
    p.channel < s.reg 0x2800 4 ∧ s.reg 0x2800 6 ≤ p.words.headD 0 ∧ (p.words.headD 0 - s.reg 0x2800 6) % s.reg 0x2800 5 = 0

/-- The number of the first crib spectrum of a packet (R80). -/
def State.firstSpectrum (s : State) (p : Packet) : Nat := (p.words.headD 0 - s.reg 0x2800 6) / s.reg 0x2800 5

/-- The `k` spectra of a packet are noted as accepted. -/
def State.noteAccepted (s : State) (p : Packet) (k : Nat) : State :=
  { s with crib := { s.crib with accepted := (List.range k).map (fun j => acceptKey (s.firstSpectrum p + j) p.channel p.stream) ++ s.crib.accepted } }

/-- The `k` spectra of a packet are accepted: noted, conditioned and written (R84, R86). -/
def State.acceptPacket (s : State) (p : Packet) (k : Nat) : State :=
  (s.noteAccepted p k).each (List.range k) (fun j t => t.each (List.range 64) (fun i t =>
    t.takeSample p.stream (popCount p.stream (s.reg 0x2800 7)) i p.channel (s.firstSpectrum p + j) (ingestSample (s.reg 0x2800 3) p.words j i)))

section Packets

variable {s : State} {p : Packet} {k : Nat}

theorem samplePacket_foreign (h : s.cribOn = false ∨ 128 ≤ p.stream ∨ bitAt (s.reg 0x2800 7) p.stream = false) :
    s.samplePacket p = s.inc32 0x2401 1 1 := by
  unfold State.samplePacket
  refine if_pos ?_
  obtain h | h | h := h <;> simp [h]

theorem samplePacket_misshaped (ht : s.takesBlock p.stream) (hk : packetSpectra (s.reg 0x2800 3) p.words.length = none) :
    s.samplePacket p = s.inc32 0x2801 0x0B 1 := by
  obtain ⟨hon, hb, hbit⟩ := ht
  simp [State.samplePacket, hon, hb, hbit, hk]

theorem samplePacket_misplaced (ht : s.takesBlock p.stream) (hk : packetSpectra (s.reg 0x2800 3) p.words.length = some k)
    (hp : s.reg 0x2800 4 ≤ p.channel ∨ p.words.headD 0 < s.reg 0x2800 6 ∨ (p.words.headD 0 - s.reg 0x2800 6) % s.reg 0x2800 5 ≠ 0) :
    s.samplePacket p = s.inc32 0x2801 0x0B 1 := by
  obtain ⟨hon, hb, hbit⟩ := ht
  simp only [State.samplePacket, hk]
  rw [if_neg (by simp [hon, hb, hbit]), if_pos (by simpa [or_assoc] using hp)]

/-- The tests of a packet that has a place in the crib, in the order of R84. -/
theorem samplePacket_placed (hp : s.placesPacket p k) :
    s.samplePacket p =
      if s.sc + 64 * s.reg 0x2800 5 < p.words.headD 0 then s.inc32 0x2801 9 1
      else if s.anySealed p.stream (s.firstSpectrum p) k = true then s.inc32 0x2801 8 1
      else if ∃ j < k, acceptKey (s.firstSpectrum p + j) p.channel p.stream ∈ s.crib.accepted then s.inc32 0x2801 0x0A 1
      else s.acceptPacket p k := by
  obtain ⟨⟨hon, hb, hbit⟩, hk, hc, ho, hm⟩ := hp
  simp only [State.samplePacket, hk]
  rw [if_neg (by simp [hon, hb, hbit]), if_neg (by simp [-List.headD_eq_head?_getD, hc, ho, hm])]
  refine if_congr Iff.rfl rfl (if_congr Iff.rfl rfl (if_congr ?_ rfl rfl))
  simp [State.firstSpectrum]

theorem samplePacket_early (hp : s.placesPacket p k) (hsc : s.sc + 64 * s.reg 0x2800 5 < p.words.headD 0) : s.samplePacket p = s.inc32 0x2801 9 1 := by
  rw [samplePacket_placed hp, if_pos hsc]

theorem samplePacket_late (hp : s.placesPacket p k) (hsc : p.words.headD 0 ≤ s.sc + 64 * s.reg 0x2800 5)
    (hs : s.anySealed p.stream (s.firstSpectrum p) k = true) : s.samplePacket p = s.inc32 0x2801 8 1 := by
  rw [samplePacket_placed hp, if_neg (Nat.not_lt.2 hsc), if_pos hs]

theorem samplePacket_again (hp : s.placesPacket p k) (hsc : p.words.headD 0 ≤ s.sc + 64 * s.reg 0x2800 5)
    (hs : s.anySealed p.stream (s.firstSpectrum p) k = false)
    (hd : ∃ j < k, acceptKey (s.firstSpectrum p + j) p.channel p.stream ∈ s.crib.accepted) : s.samplePacket p = s.inc32 0x2801 0x0A 1 := by
  rw [samplePacket_placed hp, if_neg (Nat.not_lt.2 hsc), if_neg (ne_true_of_eq_false hs), if_pos hd]

theorem samplePacket_accepted (hp : s.placesPacket p k) (hsc : p.words.headD 0 ≤ s.sc + 64 * s.reg 0x2800 5)
    (hs : s.anySealed p.stream (s.firstSpectrum p) k = false)
    (hn : ∀ j < k, acceptKey (s.firstSpectrum p + j) p.channel p.stream ∉ s.crib.accepted) : s.samplePacket p = s.acceptPacket p k := by
  rw [samplePacket_placed hp, if_neg (Nat.not_lt.2 hsc), if_neg (ne_true_of_eq_false hs), if_neg fun ⟨j, hj, hin⟩ => hn j hj hin]

/-! ### What accepting a packet leaves -/

/-- Storing samples keeps what the writer has sealed and accepted. -/
theorem acceptPacket_kept (s : State) (p : Packet) (k : Nat) : cribKept (s.acceptPacket p k) = cribKept (s.noteAccepted p k) :=
  each_same cribKept (fun _ t => each_same cribKept (fun _ u => takeSample_kept u ..) _ t) _ _

/-- Of the crib's counters, storing samples moves those of lost slabs and of samples written twice only. -/
theorem acceptPacket_2801 (hb : p.stream < 128) {b : Nat} (h256 : b < 256) (h7 : b ≠ 7) (hC : b ≠ 0x0C) :
    (s.acceptPacket p k).reg 0x2801 b = s.reg 0x2801 b :=
  each_reg (s.noteAccepted p k) fun _ _ t => each_reg t fun _ hi u => takeSample_2801 u _ _ _ _ _ _ b h256 h7 hC hb (List.mem_range.1 hi)

theorem acceptPacket_sheaf (s : State) (p : Packet) (k : Nat) : (s.acceptPacket p k).sheaf = s.sheaf :=
  each_same State.sheaf (fun _ t => each_same State.sheaf (fun _ u =>
    (fr_takeSample (m := 689435) (within_refl _) (fr_refl u)).same .sheaf (by decide)) _ t) _ (s.noteAccepted p k)

end Packets

/-! ### Seals -/

theorem sealSlab_sealedTo (s : State) : s.sealSlab.crib.sealedTo = s.crib.sealedTo + 1 := by
  unfold State.sealSlab
  refine (each_same (fun t => t.crib.sealedTo) (fun j t => ?_) _ _).trans rfl
  dsimp only
  rw [settleSilo_crib]
  split <;> rfl

/-- A seal shows the index of the slab sealed (2801h.03). -/
theorem sealSlab_shown (s : State) : s.sealSlab.reg 0x2801 3 = s.crib.sealedTo := by
  unfold State.sealSlab
  refine (Low.at (L := 10304) (each_low (fun j t => low_settleSilo (by omega) ?_) _) (by omega)).trans (reg_setReg_same ..)
  split
  · exact low_siloFlag (by omega) (low_refl t)
  · exact low_refl t

theorem sealSlab_time (s : State) : s.sealSlab.time = s.time := (fr_sealSlab (m := 689435) (within_refl _) (fr_refl s)).same .time (by decide)

theorem exec_slabSeal {s : State} (hon : s.cribOn = true) : exec .slabSeal s = if s.sealDue ≤ s.sc then .next s.sealSlab else .next s :=
  if_congr (by simp [hon]) rfl rfl

/-! ### Windows -/

section Readers

variable {s : State} {k : Nat}

theorem bayReader_setReader (b : BayReader) (h : k < s.crib.bays.length) : (s.setReader k b).bayReader k = b := nthD_modNth _ _ _ _ h

/-- Spectra of the next window of bay `k` (R96). -/
def State.windowLen (s : State) (k : Nat) : Nat := s.regAt (0x2810 + k) 2 (s.spectrumSc (s.bayReader k).start)

/-- Channels of the next window of bay `k`, ascending (R97). -/
def State.windowChans (s : State) (k : Nat) : List Nat :=
  (setBitsOf 4096 (s.regAt (0x2810 + k) 1 (s.spectrumSc (s.bayReader k).start))).filter (fun c => decide (c < s.reg 0x2800 4))

/-- The last slab of the next window of bay `k` is sealed (R97). -/
def State.windowSealed (s : State) (k : Nat) : Prop := (s.bayReader k).start + s.windowLen k ≤ 64 * s.crib.sealedTo

theorem windowStart_unsealed (h : ¬s.windowSealed k) : s.windowStart k = s := by
  unfold State.windowSealed State.windowLen at h
  unfold State.windowStart
  exact if_neg (by simp [h])

/-- A window without channels ends at once (R97). -/
theorem windowStart_empty (hon : s.cribOn = true) (hr : (s.bayReader k).reading = none) (hs : s.windowSealed k) (hc : s.windowChans k = []) :
    s.windowStart k = s.setReader k ⟨(s.bayReader k).start + s.windowLen k, none⟩ := by
  unfold State.windowSealed State.windowLen at hs
  unfold State.windowChans at hc
  unfold State.windowStart State.windowLen
  dsimp only
  rw [if_pos (by simp [hon, hr, hs]), hc]

/-- A window begins with the first step of its first channel (R97). -/
theorem windowStart_reads (hon : s.cribOn = true) (hr : (s.bayReader k).reading = none) (hs : s.windowSealed k) {c : Nat} {rest : List Nat}
    (hc : s.windowChans k = c :: rest) :
    s.windowStart k = ((s.setReader k ⟨(s.bayReader k).start,
      some ⟨s.windowLen k, stepSpectra (s.regAt (0x2810 + k) 3 (s.spectrumSc (s.bayReader k).start)), c :: rest, 0, 0, false⟩⟩).setReg
        (0x2810 + k) 4 (s.bayReader k).start).setReg (0x2810 + k) 5 c := by
  unfold State.windowSealed State.windowLen at hs
  unfold State.windowChans at hc
  unfold State.windowStart State.windowLen
  dsimp only
  rw [if_pos (by simp [hon, hr, hs]), hc]

/-! ### Loft steps -/

/-- The half that the reader of bay `k` fills with the next step of window `w` (R97). -/
def State.stepHalf (s : State) (k : Nat) (w : ReadWindow) : LoftHalf :=
  let b := s.bayReader k
  let first := b.start + w.next * w.step
  { held := true, taken := false, seq := s.reg (0x2810 + k) 7, window := b.start, channel := w.chans.getD w.done 0, step := w.next, spectra := w.step,
    steps := w.len / w.step, firstChannel := w.chans.headD 0, lastChannel := w.chans.getLastD 0, blocks := s.reg 0x2800 7,
    format := s.reg 0x2800 3, sc := s.spectrumSc first, period := s.reg 0x2800 5, origin := s.reg 0x2800 6,
    samples := s.stepSamples first (w.chans.getD w.done 0) w.step }

/-- The reader after a step of window `w`: at its next step, at its next channel, or past it (R97, R111). -/
def BayReader.pastStep (b : BayReader) (w : ReadWindow) : BayReader :=
  if w.ending = true then ⟨b.start, none⟩
  else if w.next + 1 < w.len / w.step then ⟨b.start, some { w with next := w.next + 1 }⟩
  else if w.done + 1 < w.chans.length then ⟨b.start, some { w with done := w.done + 1, next := 0 }⟩
  else ⟨b.start + w.len, none⟩

/-- The state in which the next step of window `w` is in half `h`, and counted. -/
def State.stepFilled (s : State) (k h : Nat) (w : ReadWindow) : State :=
  ((s.stepReads ((s.bayReader k).start + w.next * w.step) (w.chans.getD w.done 0) w.step).setHalf k h (s.stepHalf k w)).inc64 (0x2810 + k) 7 1

theorem stepReads_crib (s : State) (a c n : Nat) : (s.stepReads a c n).crib = s.crib :=
  (fr_stepReads (m := 558879) (within_refl _) (fr_refl s)).same .crib (by decide)

theorem stepReads_reg (s : State) (a c n : Nat) {j b : Nat} (hj : 0x1110 < j ∧ j < 0x5800) (hb : b < 256) : (s.stepReads a c n).reg j b = s.reg j b :=
  Low.at (L := 22528) (low_stepReads (by omega) (low_refl s)) hj.2 hb (.inr hj.1)

/-- After a step the reader moves on, and shows its next channel when that changes. -/
theorem loftFill_reader {h : Nat} {w : ReadWindow} (hw : (s.bayReader k).reading = some w)
    (hh : (List.range 2).find? (fun h => !(s.loftHalf k h).held) = some h) :
    ∃ v, s.loftFill k = (s.stepFilled k h w).setReader k ((s.bayReader k).pastStep w) ∨
      s.loftFill k = ((s.stepFilled k h w).setReader k ((s.bayReader k).pastStep w)).setReg (0x2810 + k) 5 v := by
  refine ⟨w.chans.getD (w.done + 1) 0, ?_⟩
  unfold State.loftFill BayReader.pastStep
  dsimp only
  rw [hw, hh]
  dsimp only
  by_cases he : w.ending = true
  · rw [if_pos he, if_pos he]
    exact .inl rfl
  rw [if_neg he, if_neg he]
  by_cases hn : w.next + 1 < w.len / w.step
  · rw [if_pos hn, if_pos hn]
    exact .inl rfl
  rw [if_neg hn, if_neg hn]
  by_cases hd : w.done + 1 < w.chans.length
  · rw [if_pos hd, if_pos hd]
    exact .inr rfl
  · rw [if_neg hd, if_neg hd]
    exact .inl rfl

/-- A step fills half `h` of the bay's loft, counts, and moves the reader on; the status of the Jig stays. -/
theorem loftFill_step {h : Nat} {w : ReadWindow} (hk : k < 4) (hb : k < s.crib.bays.length) (hl : 2 * k + h < s.crib.lofts.length)
    (hw : (s.bayReader k).reading = some w) (hh : (List.range 2).find? (fun h => !(s.loftHalf k h).held) = some h) :
    (s.loftFill k).loftHalf k h = s.stepHalf k w ∧ (s.loftFill k).bayReader k = (s.bayReader k).pastStep w ∧
    (s.loftFill k).reg (0x2810 + k) 7 = wrapAdd64 (s.reg (0x2810 + k) 7) 1 ∧ (s.loftFill k).reg (0x3010 + k) 2 = s.reg (0x3010 + k) 2 := by
  have hhalf : (s.stepFilled k h w).loftHalf k h = s.stepHalf k w := by
    refine nthD_modNth _ _ _ _ ?_
    rwa [stepReads_crib]
  have hbays : k < (s.stepFilled k h w).crib.bays.length := by
    simpa [State.stepFilled, stepReads_crib] using hb
  have hcount : (s.stepFilled k h w).reg (0x2810 + k) 7 = wrapAdd64 (s.reg (0x2810 + k) 7) 1 := by
    rw [State.stepFilled, inc64_reg_same, setHalf_reg, stepReads_reg _ _ _ _ (by omega) (by omega)]
  have hjig : (s.stepFilled k h w).reg (0x3010 + k) 2 = s.reg (0x3010 + k) 2 := by
    rw [State.stepFilled, inc64_reg_key _ _ (by simp only [key]; omega), setHalf_reg, stepReads_reg _ _ _ _ (by omega) (by omega)]
  obtain ⟨v, e⟩ := loftFill_reader hw hh
  generalize s.stepFilled k h w = t at hhalf hbays hcount hjig e
  obtain e | e := e
  · rw [e]
    exact ⟨hhalf, bayReader_setReader _ hbays, hcount, hjig⟩
  · rw [e]
    exact ⟨hhalf, bayReader_setReader _ hbays, Eq.trans set_ne hcount, Eq.trans set_ne hjig⟩

/-- A Jig that is not ON takes no half (R132). -/
theorem halfReady_off (h : s.reg (0x3010 + k) 2 ≠ stOn) : s.halfReady k = s := by
  unfold State.halfReady
  split
  · rfl
  · exact if_pos h

theorem exec_loftStepFill (hk : k < 4) (hon : s.cribOn = true) : exec (.loftStepFill k) s = .next ((s.loftFill k).halfReady k) :=
  (inst_ok (decide_eq_true hk)).trans (if_pos (by simp [hon]))

end Readers

/-- SAMPLE_PACKET_RX (R83, R84): the tests in their order, made in the state from whose queue the packet has gone. -/
theorem exec_samplePacketRx {s : State} {p : Packet} {ps : List Packet} (hq : s.sheaf.samples = p :: ps) :
    exec .samplePacketRx s = .next (State.samplePacket { s with sheaf := { s.sheaf with samples := ps } } p) := by
  show execSamplePacketRx s = _
  unfold execSamplePacketRx
  rw [hq]

/-- Settles O25: the outcomes of a packet are those above, one for each test; a seal, a window's start and a loft step have one outcome each. -/
theorem samplesReachTheLofts : Obligations.SamplesReachTheLofts := by
  refine ⟨fun s p ps hq => ?_, fun s hon => ⟨⟨fun hd => ?_, fun hd => ?_⟩, fun k hk hb hl => ?_, fun k h w hk hl hw hlen hh hj => ?_⟩⟩
  · intro u counted sc origin step n
    have hx : exec .samplePacketRx s = .next (u.samplePacket p) := exec_samplePacketRx hq
    refine ⟨fun h => ?_, fun hon hb hbit => ?_⟩
    · exact hx.trans (congrArg Host.Outcome.next (samplePacket_foreign (s := u) h))
    have ht : u.takesBlock p.stream := ⟨hon, hb, hbit⟩
    refine ⟨fun hk => ?_, fun k hk => ⟨fun hbad => ?_, fun hc ho hm => ?_⟩⟩
    · exact hx.trans (congrArg Host.Outcome.next (samplePacket_misshaped ht hk))
    · exact hx.trans (congrArg Host.Outcome.next (samplePacket_misplaced ht hk hbad))
    have hp : u.placesPacket p k := ⟨ht, hk, hc, ho, hm⟩
    refine ⟨fun hsc => ?_, fun hsc hs => ?_, fun hsc hs hdup => ?_, fun hsc hs hnew => ?_⟩
    · exact hx.trans (congrArg Host.Outcome.next (samplePacket_early hp hsc))
    · exact hx.trans (congrArg Host.Outcome.next (samplePacket_late hp hsc hs))
    · exact hx.trans (congrArg Host.Outcome.next (samplePacket_again hp hsc hs hdup))
    · have hkept := acceptPacket_kept u p k
      refine completes_of (hx.trans (congrArg Host.Outcome.next (samplePacket_accepted hp hsc hs hnew))) ⟨?_, ?_, ?_, ?_, ?_, ?_⟩
      · exact congrArg Prod.snd hkept
      · exact congrArg Prod.fst hkept
      · rw [acceptPacket_sheaf]
      · exact acceptPacket_2801 hb (by omega) (by omega) (by omega)
      · exact acceptPacket_2801 hb (by omega) (by omega) (by omega)
      · exact acceptPacket_2801 hb (by omega) (by omega) (by omega)
  · exact completes_of ((exec_slabSeal hon).trans (if_pos hd)) ⟨sealSlab_sealedTo s, sealSlab_shown s, sealSlab_time s⟩
  · exact (exec_slabSeal hon).trans (if_neg (Nat.not_le.2 hd))
  · have hx : exec (.windowStart k) s = .next (s.windowStart k) := (inst_ok (decide_eq_true hk)).trans (if_pos hb)
    intro b sc len chans hr
    refine ⟨fun hs => ⟨fun hc => ?_, fun c rest hc => ?_⟩, fun hs => ?_⟩
    · exact completes_of (hx.trans (congrArg Host.Outcome.next (windowStart_empty hon hr hs hc))) (bayReader_setReader _ hl)
    · refine completes_of (hx.trans (congrArg Host.Outcome.next (windowStart_reads hon hr hs hc))) ⟨?_, ?_, reg_setReg_same ..⟩
      · rw [hc]
        exact bayReader_setReader _ hl
      · rw [set_ne, reg_setReg_same]
    · rw [hx, windowStart_unsealed (Nat.not_le.2 hs)]
  · obtain ⟨hhalf, hreader, hcount, hjig⟩ := loftFill_step hk hl hlen hw hh
    refine completes_of (exec_loftStepFill hk hon) ?_
    rw [halfReady_off (by rwa [hjig]), hhalf]
    exact ⟨rfl, rfl, rfl, rfl, rfl, rfl, hcount, hreader⟩

end Sys2Proof.Machine
end

section
/-! A readout whose stream number exceeds the eight bits of 2804h.06 (chapter 3). -/

set_option Elab.async false

namespace Sys2Proof.Machine

/-! ### A packet that the stream discards -/

theorem readoutRead_sheaf (s : State) (r : Readout) : (s.readoutRead r).sheaf = s.sheaf :=
  (fr_readoutRead (m := 558879) (within_refl _) (fr_refl s)).same .sheaf (by decide)

/-- A stream without a group takes no packet (R79). -/
theorem streamPut_noGroup {s : State} {k : Nat} (h : s.reg (0x2700 + k) 1 = 0xFF) (p : OutPacket) : s.streamPut k p = s := if_pos h

theorem siloHeld_sheaf (s : State) (j : Nat) : (s.siloHeld j).sheaf = s.sheaf := fire_sheaf ..

theorem stream_of_sheaf {s t : State} (h : t.sheaf = s.sheaf) (k : Nat) : t.stream k = s.stream k := by
  unfold State.stream
  rw [h]

/-- The last packet of a readout goes nowhere when its own DRAM read leaves the stream without a group. -/
theorem readoutPacket_discarded {s : State} {r : Readout} (hr : s.crib.readout = some r) (h : s.reg (0x2700 + r.stream) 1 ≠ 0xFF)
    (hs : r.slab < (s.silo r.silo).stop) (hon : s.reg (0x2460 + s.reg (0x2700 + r.stream) 1) 2 = stOn) (hq : (s.stream r.stream).ready = [])
    (ha : r.after (s.silo r.silo) = none) (hgone : (s.readoutRead r).reg (0x2700 + r.stream) 1 = 0xFF) :
    Completes .readoutPacket s (fun t => (t.stream r.stream).ready = []) := by
  refine completes_of (readoutPacket_none hr h hs hon hq ha) ?_
  rw [streamPut_noGroup hgone, stream_of_sheaf (fire_sheaf ..), stream_of_sheaf (siloHeld_sheaf ..), stream_of_sheaf (endReadout_sheaf ..)]
  exact (congrArg OutStream.ready (stream_of_sheaf (readoutRead_sheaf s r) _)).trans hq

/-! ### The counterexample -/

/-- A readout of one granule to stream 4D80h, whose group entry would be 7480h.01: the newest record of the non-volatile log (R543). -/
def strayReadout : Readout :=
  { silo := 0, stream := 0x4D80, firstChannel := 0, lastChannel := 0, firstRank := 0, lastRank := 0, slab := 0, channel := 0, rank := 0, half := 0 }

/-- A silo of one slab, placed so that its granule begins with the last unit of protected DRAM, which lies in channel 23. -/
def straySilo : Silo :=
  { first := 0, stop := 1, inEffect := true, later := 1, closed := true, slabs := [(0, 2 ^ 30 * (23 * 96) - 64)], blocks := 1, channels := 1, format := 0,
    period := 1, origin := 0 }

/-- Channel 23 stands at its error threshold, so the read of the granule loses it, and the loss writes records 254 and 255 of the non-volatile log. -/
def strayState : State :=
  let s := (State.ofReset Board.reset { Nv.reset with newest := 253 }).setReg (0x2460 + 253) 2 stOn
  let s := { s with crib := { s.crib with silos := [straySilo], readout := some strayReadout } }
  s.modChan 23 (fun c => { c with errors := [0, 0, 0, 0] })

theorem strayState_group : strayState.reg (0x2700 + strayReadout.stream) 1 = 253 := by decide +kernel

theorem strayState_groupOn : strayState.reg (0x2460 + 253) 2 = stOn := by decide +kernel

theorem strayState_groupGone : (strayState.readoutRead strayReadout).reg (0x2700 + strayReadout.stream) 1 = 0xFF := by decide +kernel

/-- Refutes O26, in the clause of READOUT_PACKET: the statement does not bound the readout's stream by the eight bits of 2804h.06, so the stream's
group entry may be one that the packet's own DRAM read changes to FFh; the packet is then discarded (R79). -/
theorem not_silosFillAndAreReadOut : ¬ Obligations.SilosFillAndAreReadOut := by
  intro h
  have hne : strayState.reg (0x2700 + strayReadout.stream) 1 ≠ 0xFF := by rw [strayState_group]; decide
  have hon : strayState.reg (0x2460 + strayState.reg (0x2700 + strayReadout.stream) 1) 2 = stOn := by rw [strayState_group]; exact strayState_groupOn
  have hlast : strayReadout.after (strayState.silo strayReadout.silo) = none := by decide +kernel
  have hslab : strayReadout.slab < (strayState.silo strayReadout.silo).stop := by decide +kernel
  obtain ⟨-, -, hpacket⟩ := (h.2 strayState).2 strayReadout rfl (by decide)
  obtain ⟨t, ht, -, -, -, hready, -⟩ := (hpacket hne hslab hon rfl).2 hlast
  obtain ⟨u, hu, hempty⟩ := readoutPacket_discarded rfl hne hslab hon rfl hlast strayState_groupGone
  rw [ht] at hu
  cases hu
  rw [hempty] at hready
  exact List.cons_ne_nil _ _ hready.symm

end Sys2Proof.Machine
end

section
set_option Elab.async false
namespace Sys2Proof.Machine

/-! The cut lists of the Jigs: fences, waits, restarts and control entries (chapter 4, R134 to R141). -/

variable {s : State} {k pc w : Nat}

/-! ### A Jig at entry 0 -/

/-- A Jig sent to entry 0 runs there, its error cleared (R140, R141). -/
theorem rewound_goes (s : State) (k : Nat) :
    let t := (((s.goto k 0).setReg (0x3010 + k) 5 0).setReg (0x3010 + k) 6 0).setRun k jgRunning
    t.jigGoes k 0 jgRunning ∧ t.reg (0x3010 + k) 5 = 0 ∧ t.reg (0x3010 + k) 6 = 0 ∧ t.xarray = s.xarray := by
  unfold State.setRun State.goto
  refine ⟨⟨?_, reg_setReg_same _ _ _ _⟩, ?_, ?_, ?_⟩
  · rw [set_ne, set_ne, set_ne, reg_setReg_same]
  · rw [set_ne, set_ne, reg_setReg_same]
  · rw [set_ne, reg_setReg_same]
  · simp only [setReg_xarray]

/-- A cut list swapped in runs from entry 0 with no loop open (R141). -/
theorem swapList_goes (hl : k < s.xarray.jigs.length) (list : Bytes) :
    (s.swapList k list).jigGoes k 0 jgRunning ∧ ((s.swapList k list).jig k).list = list ∧ ((s.swapList k list).jig k).loops = [] := by
  unfold State.swapList
  obtain ⟨hgo, -, -, hx⟩ := rewound_goes (s.modJig k (fun j => { j with list := list, loops := [], sweep := none, freeStep := true, swapDue := false })) k
  refine ⟨hgo, ?_, ?_⟩
  · rw [jig_of_xarray hx, jig_modJig _ _ _ hl]
  · rw [jig_of_xarray hx, jig_modJig _ _ _ hl]

/-- At the end of an entry the latest cut list that waits is swapped in (R141). -/
theorem lateSwap_on {l : Nat × Bytes} (hs : (s.jig k).swapDue = true) (hlast : (s.jig k).lists.getLast? = some l) (hl : k < s.xarray.jigs.length) :
    (s.lateSwap k).jigGoes k 0 jgRunning ∧ ((s.lateSwap k).jig k).list = l.2 ∧ ((s.lateSwap k).jig k).loops = [] := by
  unfold State.lateSwap
  rw [if_pos hs, hlast]
  exact swapList_goes (s := s.modJig k _) (by rw [modJig_xarray]; exact (modNth_length' _ _ _).symm ▸ hl) l.2

/-! ### Fences (R121, R137) -/

theorem fenceHeld_iff : s.fenceHeld k w = true ↔ ∃ o ∈ s.xarray.orders, o.bay = k ∧ (bits w 69 68 = 0 ∨ woClass o.bits = woClass w) := by
  unfold State.fenceHeld
  simp only [List.any_eq_true, Bool.and_eq_true, Bool.or_eq_true, decide_eq_true_eq]

/-- The state in which a fence has passed, before a cut list that waits is swapped in. -/
def State.fenceLeft (s : State) (k w : Nat) : State :=
  ((if bitAt w 67 then s.fire (0x22 + 8 * k) (s.reg (0x3010 + k) 4) else s).nextEntry k).setRun k jgRunning

theorem fencePass_eq (s : State) (k w : Nat) : s.fencePass k w = (s.fenceLeft k w).lateSwap k := rfl

theorem fenceLeft_xarray (s : State) (k w : Nat) : (s.fenceLeft k w).xarray = s.xarray := by
  unfold State.fenceLeft State.setRun State.nextEntry State.goto
  rw [setReg_xarray, setReg_xarray]
  split
  · exact fire_xarray _ _ _
  · rfl

theorem fencePass_xarray (hs : (s.jig k).swapDue = false) : (s.fencePass k w).xarray = s.xarray := by
  rw [fencePass_eq, lateSwap_off (by rw [jig_of_xarray (fenceLeft_xarray ..)]; exact hs), fenceLeft_xarray]

theorem fencePass_swaps {l : Nat × Bytes} (hs : (s.jig k).swapDue = true) (hlast : (s.jig k).lists.getLast? = some l) (hl : k < s.xarray.jigs.length) :
    (s.fencePass k w).jigGoes k 0 jgRunning ∧ ((s.fencePass k w).jig k).list = l.2 ∧ ((s.fencePass k w).jig k).loops = [] := by
  have hj := jig_of_xarray (fenceLeft_xarray s k w) k
  rw [fencePass_eq]
  exact lateSwap_on (by rw [hj]; exact hs) (by rw [hj]; exact hlast) (by rw [fenceLeft_xarray]; exact hl)

theorem exec_cutFence (h : s.jigAt k pc w) (ho : woOp w = 8) : exec (.cutFence k) s =
    .next (if !reservedClear w then s.jigFail k 2 else if s.fenceHeld k w then s.setRun k jgWaitFence else s.fencePass k w) := by
  show execCutFence k s = _
  unfold execCutFence
  rw [inst_ok (decide_eq_true h.1), atEntry_run h (by simp [opDefined, ho]) (decide_eq_true ho)]

theorem exec_fencePass (hk : k < 4) (hr : s.runState k = jgWaitFence) (hpc : s.reg (0x3010 + k) 4 = pc) (he : s.entryAt k pc = some w) :
    exec (.fencePass k) s = if s.fenceHeld k w then .next s else .next (s.fencePass k w) := by
  show execFencePass k s = _
  unfold execFencePass
  rw [inst_ok (decide_eq_true hk), if_pos hr, hpc, he]

/-! ### Waits for an event, and the end of a cut list (R134, R136, R138) -/

/-- A Jig past its last entry, or at an END, enters DONE. -/
theorem exec_cutEnd_past (hk : k < 4) (hon : s.reg (0x3010 + k) 2 = stOn) (hr : s.runState k = jgRunning) (hpc : s.reg (0x3010 + k) 4 = pc)
    (he : s.entryAt k pc = none) : exec (.cutEnd k) s = .next (s.jigEnd k) := by
  show execCutEnd k s = _
  unfold execCutEnd
  rw [inst_ok (decide_eq_true hk), hpc, he, hon, hr, if_pos (by decide)]

theorem exec_cutWaitEvt_waiting (hk : k < 4) (hr : s.runState k = jgWaitEvt) : exec (.cutWaitEvt k) s = .next (s.waitEvent k) := by
  show execCutWaitEvt k s = _
  unfold execCutWaitEvt State.goEvent
  rw [inst_ok (decide_eq_true hk), if_pos hr, if_pos hr]

/-- An event that comes lets the cut list that waits be swapped in (R141). -/
theorem waitEvent_swaps {l : Nat × Bytes} (he : (s.held (0x20 + k)).isSome = true) (hs : (s.jig k).swapDue = true)
    (hlast : (s.jig k).lists.getLast? = some l) (hl : k < s.xarray.jigs.length) :
    (s.waitEvent k).jigGoes k 0 jgRunning ∧ ((s.waitEvent k).jig k).list = l.2 := by
  unfold State.waitEvent
  rw [if_pos he]
  obtain ⟨hgo, hlist, -⟩ := lateSwap_on (s := ((s.takeInput (0x20 + k)).nextEntry k).setRun k jgRunning) hs hlast hl
  exact ⟨hgo, hlist⟩

/-- A Jig whose input holds no event waits for one, and takes none (R136). -/
theorem waitEvent_waits (hpc : s.reg (0x3010 + k) 4 = pc) (he : s.held (0x20 + k) = none) :
    (s.waitEvent k).jigGoes k pc jgWaitEvt ∧ (s.waitEvent k).dowel = s.dowel := by
  unfold State.waitEvent
  rw [if_neg (by simp [he])]
  exact ⟨setRun_goes hpc, rfl⟩

/-! ### JIG_RESTART (R140) -/

theorem jigRestart_completes {sess : Nat} (hk : k < 4) (hlet : s.letsCmd sess (0x3010 + k) 16) (hl : k < s.xarray.jigs.length)
    (hr : s.runState k = jgDone ∨ s.runState k = jgError) :
    Completes (.jigRestart sess k) s (fun t => t.jigGoes k 0 jgRunning ∧ t.reg (0x3010 + k) 5 = 0 ∧ t.reg (0x3010 + k) 6 = 0 ∧ (t.jig k).loops = []) := by
  refine completes_of (exec_jigRestart hk hlet) ?_
  unfold cmdJigRestart
  rw [if_pos (by simpa using hr), commanded_ok]
  obtain ⟨⟨hpc, hrun⟩, h5, h6, hx⟩ := rewound_goes (s.modJig k (fun j => { j with loops := [] })) k
  refine ⟨⟨?_, ?_⟩, ?_, ?_, ?_⟩
  · rw [result_reg, releaseHalves_reg]; exact hpc
  · rw [State.runState, result_reg, releaseHalves_reg]; exact hrun
  · rw [result_reg, releaseHalves_reg]; exact h5
  · rw [result_reg, releaseHalves_reg]; exact h6
  · rw [jig_of_xarray (result_xarray ..), jig_of_xarray (releaseHalves_xarray ..), jig_of_xarray hx, jig_modJig _ _ _ hl]

/-- Settles O28: a fence that nothing holds passes, and each end of a wait swaps in the cut list that became live during it. -/
theorem jigsWaitAndRestart : Obligations.JigsWaitAndRestart := by
  refine ⟨fun s k pc w hp => ⟨fenceHeld_iff, fun hat ho => ?_, fun hk hr hpc he => ?_⟩, fun s k pc hk => ⟨fun hon hr hpc he => ?_, fun hr hpc hev => ?_, ?_⟩⟩
  · have hrun := exec_cutFence hat ho
    obtain ⟨hk, -, -, hpc, -⟩ := hat
    refine ⟨fun hc => ?_, fun hc hf => ?_, fun hc hf hs => ?_, fun l hc hf hs hlast hl => ?_⟩
    · rw [hc, if_pos (by decide)] at hrun
      exact completes_of hrun (hpc ▸ jigFail_failed s k 2 hk)
    · rw [hc, if_neg (by decide), hf, if_pos (by decide)] at hrun
      exact completes_of hrun (setRun_goes hpc)
    · rw [hc, if_neg (by decide), hf, if_neg (by decide)] at hrun
      obtain ⟨hgo, hfired⟩ := fencePass_goes (w := w) hk hpc hp hs
      exact completes_of hrun ⟨hgo, fencePass_xarray hs, hfired⟩
    · rw [hc, if_neg (by decide), hf, if_neg (by decide)] at hrun
      exact completes_of hrun (fencePass_swaps hs hlast hl)
  · have hrun := exec_fencePass hk hr hpc he
    refine ⟨fun hf => ?_, fun hf hs => ?_, fun l hf hs hlast hl => ?_⟩
    · rw [hrun, hf, if_pos (by decide)]
    · rw [hf, if_neg (by decide)] at hrun
      obtain ⟨hgo, hfired⟩ := fencePass_goes (w := w) hk hpc hp hs
      exact completes_of hrun ⟨hgo, fencePass_xarray hs, hfired⟩
    · rw [hf, if_neg (by decide)] at hrun
      exact completes_of hrun (fencePass_swaps hs hlast hl)
  · exact completes_of (exec_cutEnd_past hk hon hr hpc he) (jigEnd_goes hk hpc)
  · refine ⟨fun hs => ?_, fun l hs hlast hl => ?_⟩
    · exact completes_of (exec_cutWaitEvt_waiting hk hr) ((waitEvent_goes hpc hs).2 hev).1
    · exact completes_of (exec_cutWaitEvt_waiting hk hr) (waitEvent_swaps hev hs hlast hl)
  · exact fun sess hlet hl hr => jigRestart_completes hk hlet hl hr

/-! ### Control entries (R134 to R139) -/

/-- A reserved bit that is set is the error RSV in every control entry (R139). -/
theorem control_reserved {c : Nat} {i : Instr} (hi : (c, i) ∈ [(0, Instr.cutEnd k), (1, .cutWaitStep k), (2, .cutJump k), (3, .cutIfStep k), (4, .cutLoop k),
      (5, .cutEndloop k), (6, .cutWaitEvt k), (7, .cutEvent k)]) (h : s.jigAt k pc w) (ho : woOp w = 15) (hc : bits w 123 120 = c) (hr : bits w 80 0 ≠ 0) :
    exec i s = .next (s.jigFail k 2) := by
  obtain ⟨hk, hon, hrun, hpc, he⟩ := h
  have hat : s.jigAt k pc w := ⟨hk, hon, hrun, hpc, he⟩
  have fails (c : Nat) (run : Nat → State) (hc : bits w 123 120 = c) (h8 : c < 8) : inst (decide (k < 4)) (.next (s.control k c run)) = .next (s.jigFail k 2) := by
    rw [inst_ok (decide_eq_true hk), control_bad hat ho hc h8 hr]
  simp only [List.mem_cons, List.not_mem_nil, or_false, Prod.mk.injEq] at hi
  rcases hi with ⟨rfl, rfl⟩ | ⟨rfl, rfl⟩ | ⟨rfl, rfl⟩ | ⟨rfl, rfl⟩ | ⟨rfl, rfl⟩ | ⟨rfl, rfl⟩ | ⟨rfl, rfl⟩ | ⟨rfl, rfl⟩
  · show execCutEnd k s = _
    unfold execCutEnd
    rw [hpc, he, if_neg (by simp)]
    exact fails 0 _ hc (by decide)
  · exact fails 1 _ hc (by decide)
  · exact fails 2 _ hc (by decide)
  · exact fails 3 _ hc (by decide)
  · exact fails 4 _ hc (by decide)
  · exact fails 5 _ hc (by decide)
  · show execCutWaitEvt k s = _
    unfold execCutWaitEvt
    rw [if_neg (by rw [hrun]; decide)]
    exact fails 6 _ hc (by decide)
  · exact fails 7 _ hc (by decide)

/-- A control entry without a set reserved bit runs. -/
theorem inst_control {c : Nat} {run : Nat → State} (h : s.jigAt k pc w) (hc : controlEntry c w) (h8 : c < 8) :
    inst (decide (k < 4)) (.next (s.control k c run)) = .next (run w) := by
  rw [inst_ok (decide_eq_true h.1), control_run h hc h8]

theorem exec_cutEnd (h : s.jigAt k pc w) (hc : controlEntry 0 w) : exec (.cutEnd k) s = .next (s.jigEnd k) := by
  show execCutEnd k s = _
  have hrun := inst_control (run := fun _ => s.jigEnd k) h hc (by decide)
  obtain ⟨-, -, -, hpc, he⟩ := h
  unfold execCutEnd
  rw [hpc, he, if_neg (by simp)]
  exact hrun

theorem exec_cutWaitEvt (h : s.jigAt k pc w) (hc : controlEntry 6 w) : exec (.cutWaitEvt k) s = .next (s.waitEvent k) := by
  show execCutWaitEvt k s = _
  have hrun := inst_control (run := fun _ => s.waitEvent k) h hc (by decide)
  obtain ⟨-, -, hr, -, -⟩ := h
  unfold execCutWaitEvt
  rw [if_neg (by rw [hr]; decide)]
  exact hrun

/-! ### WAIT_STEP -/

theorem exec_cutWaitStep (h : s.jigAt k pc w) (hc : controlEntry 1 w) : exec (.cutWaitStep k) s =
    .next (if (s.jig k).freeStep then (s.modJig k (fun j => { j with freeStep := false })).nextEntry k
      else match s.readyHalf k with | some h => s.stepTaken k h | none => s.setRun k jgWaitStep) :=
  inst_control h hc (by decide)

/-- The state of a Jig that has taken half `h`, before a cut list due at it is swapped in (R132). -/
def State.halfTaken (s : State) (k h : Nat) : State :=
  let x := s.loftHalf k h
  let s := (s.setHalf k h { x with taken := true }).modJig k (fun j => { j with half := some x.seq })
  ((s.setReg (0x3010 + k) 0x0D x.channel).setReg (0x3010 + k) 0x0E x.step).releaseHalves k

theorem halfTaken_xarray (s : State) (k h : Nat) :
    (s.halfTaken k h).xarray = (s.modJig k (fun j => { j with half := some (s.loftHalf k h).seq })).xarray := by
  unfold State.halfTaken
  rw [releaseHalves_xarray, setReg_xarray, setReg_xarray]
  rfl

theorem halfTaken_jig (hl : k < s.xarray.jigs.length) (h : Nat) : (s.halfTaken k h).jig k = { s.jig k with half := some (s.loftHalf k h).seq } := by
  rw [jig_of_xarray (halfTaken_xarray s k h), jig_modJig _ _ _ hl]

/-- Taking a half changes the entries that show its channel and step. -/
theorem halfTaken_reg (s : State) (k h : Nat) {b : Nat} (hb : b < 256) : (s.halfTaken k h).reg (0x3010 + k) b =
    if b = 0x0E then (s.loftHalf k h).step else if b = 0x0D then (s.loftHalf k h).channel else s.reg (0x3010 + k) b := by
  unfold State.halfTaken
  rw [releaseHalves_reg]
  split
  · next hE => rw [hE, reg_setReg_same]
  · split
    · next hD => rw [hD, set_ne, reg_setReg_same]
    · rw [set_ne, set_ne]
      rfl

/-- A half at which no cut list is due is taken, and the Jig goes on (R136, R141). -/
theorem stepTaken_noList {h : Nat} (hl : k < s.xarray.jigs.length) (hd : s.listDue k (s.loftHalf k h) = none) :
    s.stepTaken k h = ((s.halfTaken k h).nextEntry k).setRun k jgRunning := by
  have hnone : (s.halfTaken k h).listDue k (s.loftHalf k h) = none := by
    unfold State.listDue at hd ⊢
    rw [halfTaken_jig hl]
    exact hd
  have htake : s.takeHalf k h = (s.halfTaken k h, false) := by
    show (match (s.halfTaken k h).listDue k (s.loftHalf k h) with | some _ => _ | none => (s.halfTaken k h, false)) = _
    rw [hnone]
  unfold State.stepTaken
  rw [htake]
  rfl

theorem stepTaken_goes {h : Nat} (hl : k < s.xarray.jigs.length) (hd : s.listDue k (s.loftHalf k h) = none) (hpc : s.reg (0x3010 + k) 4 = pc) :
    (s.stepTaken k h).jigGoes k (pc + 1) jgRunning ∧ ((s.stepTaken k h).jig k).half = some (s.loftHalf k h).seq ∧
      (s.stepTaken k h).reg (0x3010 + k) 0x0D = (s.loftHalf k h).channel ∧ (s.stepTaken k h).reg (0x3010 + k) 0x0E = (s.loftHalf k h).step := by
  rw [stepTaken_noList hl hd]
  have hat : (s.halfTaken k h).reg (0x3010 + k) 4 = pc := by rw [halfTaken_reg _ _ _ (by omega)]; exact hpc
  refine ⟨setRun_goes (next_goes hat rfl).1, ?_, ?_, ?_⟩
  · rw [State.setRun, State.nextEntry, State.goto, jig_of_xarray (setReg_xarray ..), jig_of_xarray (setReg_xarray ..), halfTaken_jig hl]
  · rw [State.setRun, State.nextEntry, State.goto, set_ne, set_ne, halfTaken_reg _ _ _ (by omega)]
    rfl
  · rw [State.setRun, State.nextEntry, State.goto, set_ne, set_ne, halfTaken_reg _ _ _ (by omega)]
    rfl

/-! ### JUMP, IF_STEP, LOOP, ENDLOOP and EVENT -/

theorem exec_cutJump (h : s.jigAt k pc w) (hc : controlEntry 2 w) : exec (.cutJump k) s =
    .next (if s.targetOk k (bits w 119 108) then s.goto k (bits w 119 108) else s.jigFail k 0xA) :=
  inst_control h hc (by decide)

theorem exec_cutIfStep (h : s.jigAt k pc w) (hc : controlEntry 3 w) : exec (.cutIfStep k) s =
    .next (if !s.targetOk k (bits w 119 108) then s.jigFail k 0xA
      else if s.stepTest k (bits w 82 81) != bitAt w 83 then s.goto k (bits w 119 108) else s.nextEntry k) :=
  inst_control h hc (by decide)

theorem exec_cutLoop (h : s.jigAt k pc w) (hc : controlEntry 4 w) : exec (.cutLoop k) s =
    .next (if 4 ≤ (s.jig k).loops.length then s.jigFail k 9
      else (s.modJig k (fun j => { j with loops := (if bits w 107 92 = 0 then s.stepsOf k else bits w 107 92, s.reg (0x3010 + k) 4) :: j.loops })).nextEntry k) :=
  inst_control h hc (by decide)

theorem exec_cutEndloop (h : s.jigAt k pc w) (hc : controlEntry 5 w) : exec (.cutEndloop k) s =
    .next (match (s.jig k).loops with
      | [] => s.jigFail k 9
      | (n, a) :: rest =>
        if n - 1 ≠ 0 then (s.modJig k (fun j => { j with loops := (n - 1, a) :: rest })).goto k (a + 1)
        else (s.modJig k (fun j => { j with loops := rest })).nextEntry k) :=
  inst_control h hc (by decide)

theorem exec_cutEvent (h : s.jigAt k pc w) (hc : controlEntry 7 w) : exec (.cutEvent k) s =
    .next ((s.fire (0x21 + 8 * k) (bits w 91 84)).nextEntry k) :=
  inst_control h hc (by decide)

/-- A change of the hidden Jig and a step to the next entry. -/
theorem modJig_next (hl : k < s.xarray.jigs.length) (hr : s.runState k = jgRunning) (hpc : s.reg (0x3010 + k) 4 = pc) (f : Jig → Jig) :
    ((s.modJig k f).nextEntry k).jigGoes k (pc + 1) jgRunning ∧ ((s.modJig k f).nextEntry k).jig k = f (s.jig k) :=
  ⟨next_goes (s := s.modJig k f) hpc hr, (jig_of_xarray (setReg_xarray ..) k).trans (jig_modJig _ _ _ hl)⟩

theorem modJig_goto (hl : k < s.xarray.jigs.length) (hr : s.runState k = jgRunning) (a : Nat) (f : Jig → Jig) :
    ((s.modJig k f).goto k a).jigGoes k a jgRunning ∧ ((s.modJig k f).goto k a).jig k = f (s.jig k) :=
  ⟨goto_goes (s := s.modJig k f) hr, (jig_of_xarray (setReg_xarray ..) k).trans (jig_modJig _ _ _ hl)⟩

theorem event_goes (hk : k < 4) (hr : s.runState k = jgRunning) (hpc : s.reg (0x3010 + k) 4 = pc) (src payload : Nat) :
    ((s.fire src payload).nextEntry k).jigGoes k (pc + 1) jgRunning ∧ s.fires ((s.fire src payload).nextEntry k) src payload := by
  refine ⟨next_goes ?_ ?_, ?_⟩
  · rw [fire_low _ _ _ (by omega) (by omega) (by omega)]; exact hpc
  · rw [State.runState, fire_low _ _ _ (by omega) (by omega) (by omega)]; exact hr
  · unfold State.fires State.nextEntry State.goto
    rw [setReg_dowel, fire_fired]

/-- Settles O29: each control entry is fetched and run as R136 says, with the errors of R139. -/
theorem controlEntriesSteerTheJig : Obligations.ControlEntriesSteerTheJig := by
  intro s k pc w hat hl
  obtain ⟨hk, -, hr, hpc, -⟩ := id hat
  have fails (code : Nat) : (s.jigFail k code).jigFailed k pc code := hpc ▸ jigFail_failed s k code hk
  refine ⟨fun c i hi ho hc hb => ?_, fun hc => ?_, fun hc => ⟨fun hf => ?_, fun hf hh => ?_, fun h hf hh hd => ?_⟩, fun hc => ⟨fun ht => ?_, fun ht => ?_⟩,
    fun hc => ⟨fun ht => ?_, fun ht => ?_⟩, fun hc => ⟨fun hn => ?_, fun hn => ?_⟩, fun hc => ⟨fun hn => ?_, fun n a rest hn => ⟨fun h2 => ?_, fun h1 => ?_⟩⟩,
    fun hc => ⟨fun he => ?_, fun he hs => ?_⟩, fun hc => ?_⟩
  · exact completes_of (control_reserved hi hat ho hc hb) (fails 2)
  · exact completes_of (exec_cutEnd hat hc) (jigEnd_goes hk hpc)
  · refine completes_of (exec_cutWaitStep hat hc) ?_
    rw [if_pos hf]
    obtain ⟨hgo, hj⟩ := modJig_next hl hr hpc (fun j => { j with freeStep := false })
    exact ⟨hgo, by rw [hj]⟩
  · refine completes_of (exec_cutWaitStep hat hc) ?_
    rw [hf, if_neg (by decide), hh]
    exact setRun_goes hpc
  · refine completes_of (exec_cutWaitStep hat hc) ?_
    rw [hf, if_neg (by decide), hh]
    exact stepTaken_goes hl hd hpc
  · refine completes_of (exec_cutJump hat hc) ?_
    rw [if_pos ht]
    exact goto_goes hr
  · refine completes_of (exec_cutJump hat hc) ?_
    rw [if_neg (by simp [ht])]
    exact fails 0xA
  · refine completes_of (exec_cutIfStep hat hc) ?_
    rw [if_neg (by simp [ht])]
    by_cases htest : s.stepTest k (bits w 82 81) = bitAt w 83
    · rw [if_neg (by simp [htest]), if_pos htest]
      exact next_goes hpc hr
    · rw [if_pos (by simpa using htest), if_neg htest]
      exact goto_goes hr
  · refine completes_of (exec_cutIfStep hat hc) ?_
    rw [if_pos (by simp [ht])]
    exact fails 0xA
  · refine completes_of (exec_cutLoop hat hc) ?_
    rw [if_neg (by omega)]
    obtain ⟨hgo, hj⟩ := modJig_next hl hr hpc
      (fun j => { j with loops := (if bits w 107 92 = 0 then s.stepsOf k else bits w 107 92, s.reg (0x3010 + k) 4) :: j.loops })
    exact ⟨hgo, by rw [hj, hpc]⟩
  · refine completes_of (exec_cutLoop hat hc) ?_
    rw [if_pos hn]
    exact fails 9
  · refine completes_of (exec_cutEndloop hat hc) ?_
    rw [hn]
    exact fails 9
  · refine completes_of (exec_cutEndloop hat hc) ?_
    simp only [hn]
    rw [if_pos (by omega)]
    obtain ⟨hgo, hj⟩ := modJig_goto hl hr (a + 1) (fun j => { j with loops := (n - 1, a) :: rest })
    exact ⟨hgo, by rw [hj]⟩
  · refine completes_of (exec_cutEndloop hat hc) ?_
    simp only [hn]
    rw [if_neg (by omega)]
    obtain ⟨hgo, hj⟩ := modJig_next hl hr hpc (fun j => { j with loops := rest })
    exact ⟨hgo, by rw [hj]⟩
  · exact completes_of (exec_cutWaitEvt hat hc) (waitEvent_waits hpc he)
  · exact completes_of (exec_cutWaitEvt hat hc) ((waitEvent_goes hpc hs).2 he)
  · exact completes_of (exec_cutEvent hat hc) (event_goes hk hr hpc _ _)

end Sys2Proof.Machine
end

section
set_option Elab.async false
namespace Sys2Proof.Machine

/-! A work order whose own pull changes its placement epoch (R146, R158). -/

/-! ### The counterexample -/

/-- A loft half of one granule, that of slab 0, which its Jig no longer holds. -/
def strayHalf : HalfRef := { seq := 0, first := 0, spectra := 64, channel := 0, blocks := 1, format := 0, sc := 0, period := 1, origin := 0 }

/-- A logical tile whose placement entry would be 5827h.05: the count of units read on channel 23 (R360). -/
def strayTile : Nat := 64 * (0x5827 - 0x2110) + 4

/-- A CORR4 of the stray logical tile, of one block, with nothing pulled. -/
def strayOrder : WorkOrder :=
  { id := 0, bay := 0, bits := 2 ^ 124, entry := 0, lam := strayTile, epoch := 0, half := some strayHalf, phase := .queued, k := 0, shim := false,
    pulled := false, samples := [], cfg := 0 }

/-- Tile 0 serves the stray logical tile. The granule begins with the last unit of protected DRAM, which lies in channel 23: reading it counts unit 256. -/
def strayPort : State :=
  let s := ((State.ofReset Board.reset Nv.reset).setReg 0x2200 1 0).setReg 0x2200 2 strayTile
  let s := s.setReg (0x2110 + strayTile / 64) (strayTile % 64 + 1) 255
  { s with crib := { s.crib with slabs := [⟨0, some (2 ^ 30 * (23 * 96) - 64), []⟩] }, xarray := { s.xarray with orders := [strayOrder] } }

theorem strayPort_serves : strayPort.serves 0 = some strayTile := by decide +kernel

theorem strayPort_next : strayPort.nextOrder strayTile = some strayOrder := by decide +kernel

theorem strayPort_running : strayPort.running strayTile = none := by decide +kernel

theorem strayPort_banks : (strayPort.tile 0).banks.all (fun b => b.busy) = false := by decide +kernel

theorem strayPort_canStage : strayPort.canStage strayOrder = true := by decide +kernel

theorem strayPort_epoch : strayPort.placeEpoch strayTile = 0 := by decide +kernel

theorem strayPort_started : (strayPort.startOrder 0 strayOrder []).xarray.orders.map WorkOrder.epoch = [1] := by decide +kernel

theorem exec_strayStart : exec (.workOrderStart 0 []) strayPort = .next (strayPort.startOrder 0 strayOrder []) := by
  show execWorkOrderStart 0 [] strayPort = _
  unfold execWorkOrderStart
  rw [inst_ok (by decide), strayPort_serves]
  dsimp only
  rw [strayPort_running, strayPort_next]
  dsimp only
  exact if_neg (by simp [strayPort_banks, strayPort_canStage])

/-- Refutes O30, in the clause of WORK_ORDER_START: the statement does not bound the logical tile a tile entry names (2200h+g.02), so the tile's placement
entry may be one that the pull's own DRAM reads change, and the work order then starts under another epoch than the one placed before its pull. -/
theorem not_workOrdersRunTheirPasses : ¬ Obligations.WorkOrdersRunTheirPasses := by
  intro h
  obtain ⟨hstart, -⟩ := h.1 strayPort 0 strayTile strayOrder (by decide) strayPort_serves strayPort_next
  obtain ⟨hpass, -⟩ := hstart [] strayPort_running
  obtain ⟨t, ht, -, hpulled, -⟩ := hpass (by decide) (by decide) strayPort_banks strayPort_canStage
  rw [exec_strayStart] at ht
  injection ht with ht
  have hepoch := List.mem_map_of_mem (f := WorkOrder.epoch) (hpulled rfl)
  rw [← ht] at hepoch
  rw [strayPort_started, show strayOrder.lam = strayTile from rfl, strayPort_epoch] at hepoch
  exact absurd hepoch (by decide)

end Sys2Proof.Machine
end

section
set_option Elab.async false
namespace Sys2Proof.Machine

/-! Banks fold into their bins, and spills come before the folds that need them (chapter 5, R163, R173 to R176). -/

variable {s t : State} {g i lam : Nat} {o : WorkOrder} {b : Bank}

/-! ### Pulling ahead -/

theorem eligibleOf_queued (loads : List WeightLoad) (lam : Nat) (earlier os : List WorkOrder) (h : o ∈ eligibleOf loads lam earlier os) : o.phase = .queued := by
  induction os generalizing earlier with
  | nil => simp [eligibleOf] at h
  | cons x os ih =>
    unfold eligibleOf at h
    split at h
    · next hx =>
      rcases List.mem_cons.mp h with rfl | h
      · simp only [eligible, Bool.and_eq_true, decide_eq_true_eq] at hx
        exact hx.2.1.1
      · exact ih _ h
    · exact ih _ h

/-- The work order a tile pulls ahead waits in the queue (R116). -/
theorem orderAhead_queued (h : s.orderAhead lam = some o) : o ∈ s.xarray.orders ∧ o.phase = .queued := by
  unfold State.orderAhead at h
  have hmem := List.mem_of_find?_eq_some h
  have hq := eligibleOf_queued _ _ _ _ hmem
  obtain ⟨x, hx, rfl⟩ := List.mem_map.mp (eligibleOf_mem _ _ _ _ _ hmem)
  split at hq
  · cases hq
  · next hother => exact ⟨by rw [if_neg hother]; exact hx, by rw [if_neg hother]; exact hq⟩

theorem pullReads_xarray (s : State) (o : WorkOrder) : (s.pullReads o).xarray = s.xarray :=
  (fr_pullReads (m := 558879) (by decide) (fr_refl s)).same .xarray (by decide)

theorem pullOrder_xarray (s : State) (o : WorkOrder) : (s.pullOrder o).xarray = { s.xarray with
    orders := s.xarray.orders.map (fun x => if x.id = o.id then { x with pulled := true, samples := s.pullBlocks o } else x) } := by
  unfold State.pullOrder
  rw [releaseHalves_xarray, State.modOrder, State.setOrders, pullReads_xarray]

/-- Pulling ahead changes work orders alone. -/
theorem pullAhead_xarray (s : State) (lam : Nat) : (s.pullAhead lam).xarray = { s.xarray with orders := (s.pullAhead lam).xarray.orders } := by
  unfold State.pullAhead
  split
  · split
    · rfl
    · rw [pullOrder_xarray]
  · rfl

/-- Pulling ahead leaves a work order alone whose id no queued one bears. -/
theorem pullAhead_mem {x : WorkOrder} (hx : x ∈ s.xarray.orders) (hid : ∀ y ∈ s.xarray.orders, y.id = x.id → y.phase ≠ .queued) :
    x ∈ (s.pullAhead lam).xarray.orders := by
  unfold State.pullAhead
  split
  · next o ho =>
    obtain ⟨hmem, hq⟩ := orderAhead_queued ho
    split
    · exact hx
    · rw [pullOrder_xarray]
      exact List.mem_map.mpr ⟨x, hx, if_neg (fun heq => hid o hmem heq.symm hq)⟩
  · exact hx

/-! ### What a fold's end leaves -/

/-- Bank `i` of tile `g` is free after its fold, its work order `o` has committed, and the bins are those of `u`, which has folded it. -/
structure FoldEnded (s : State) (g i : Nat) (o : WorkOrder) (u t : State) : Prop where
  done : { o with phase := .done, samples := [] } ∈ t.xarray.orders
  count : t.reg (0x2200 + g) 3 = wrapAdd64 (s.reg (0x2200 + g) 3) 1
  tile : t.tile g = { s.tile g with banks := modNth (fun b => { b with busy := false }) (s.tile g).banks i }
  bins : t.xarray.bins = u.xarray.bins
  reg : ∀ c, c < 256 → c ≠ 3 → t.reg 0x3400 c = u.reg 0x3400 c

theorem foldEnd_ended (b : Bank) (hg : g < 272) (ho : o ∈ s.xarray.orders) : FoldEnded s g i o (s.foldBank g o b) (s.foldEnd g i o b) := by
  obtain ⟨hend, hcount, horders, htile⟩ := foldEnd_eff s g i o b hg
  have hbins : (((s.foldBank g o b).freeBank g i).commitOrder g o).xarray.bins = (s.foldBank g o b).xarray.bins := commitOrder_bins ..
  have hreg (c : Nat) (hc : c < 256) (h3 : c ≠ 3) : (((s.foldBank g o b).freeBank g i).commitOrder g o).reg 0x3400 c = (s.foldBank g o b).reg 0x3400 c :=
    commitOrder_key _ g o hc h3
  rw [hend]
  generalize ((s.foldBank g o b).freeBank g i).commitOrder g o = v at *
  have hlow {j c : Nat} (hj : j < 22528) (hc : c < 256) (he : 0x1110 < j) : (v.pullAhead o.lam).reg j c = v.reg j c :=
    Low.at (L := 22528) (low_pullAhead (by omega) (low_refl v)) hj hc (.inr he)
  refine ⟨pullAhead_mem ?_ fun y hy hid => ?_, ?_, ?_, ?_, fun c hc h3 => ?_⟩
  · rw [horders]
    exact List.mem_map.mpr ⟨o, ho, if_pos rfl⟩
  · rw [horders] at hy
    obtain ⟨x, hx, rfl⟩ := List.mem_map.mp hy
    by_cases hne : x.id = o.id
    · rw [if_pos hne]
      exact (by decide : Phase.done ≠ Phase.queued)
    · rw [if_neg hne] at hid
      exact absurd hid hne
  · rw [hlow (by omega) (by omega) (by omega), hcount]
  · unfold State.tile at htile ⊢
    rw [pullAhead_xarray, htile]
  · rw [pullAhead_xarray, hbins]
  · rw [hlow (by omega) hc (by omega), hreg c hc h3]

theorem FoldEnded.freed {u : State} (h : FoldEnded s g i o u t) (hi : i < (s.tile g).banks.length) : (nthD Bank.reset (t.tile g).banks i).busy = false := by
  rw [h.tile]
  exact congrArg Bank.busy (nthD_modNth _ _ _ _ hi)

theorem freeBank_freed (s : State) {g i : Nat} (hi : i < (s.tile g).banks.length) : (nthD Bank.reset ((s.freeBank g i).tile g).banks i).busy = false := by
  unfold State.freeBank
  dsimp only
  rw [tile_setTile]
  exact congrArg Bank.busy (nthD_modNth _ _ _ _ hi)

theorem inc64_tile (s : State) (j a n g : Nat) : (s.inc64 j a n).tile g = s.tile g := by
  unfold State.tile
  rw [inc64_xarray]

/-! ### The fold itself -/

theorem acc_setAcc_same (s : State) (g l h : Nat) (a : Acc) : (s.setAcc g l h a).acc g l h = a := by
  unfold State.setAcc State.acc
  dsimp only
  rw [lookup_insertKey_same]
  rfl

theorem acc_setAcc_half (s : State) (g l : Nat) {h k : Nat} (a : Acc) (hne : k ≠ h) : (s.setAcc g l h a).acc g l k = s.acc g l k := by
  unfold State.setAcc State.acc
  dsimp only
  rw [lookup_insertKey_other _ _ (by omega)]

/-- A bank that is not a beam's on a split bin is folded into the half its pair selects (R163, R171). -/
theorem foldBank_acc (s : State) (g : Nat) (o : WorkOrder) (b : Bank) (h : s.isSplit (woBin b.bits) = false) :
    let slot := woBin b.bits / s.board.logicalTiles
    let half := s.halfOf b.bits (s.orderBlocks o)
    (s.foldBank g o b).acc g slot half = ((s.acc g slot half).fold false (s.foldTag o b half) b.sums).1 := by
  dsimp only
  unfold State.foldBank
  dsimp only
  rw [h, Bool.false_and, if_neg Bool.false_ne_true]
  generalize s.halfOf _ _ = half
  generalize (s.acc g _ half).fold _ _ _ = r
  refine (bins_acc ?_ g _ half).trans (acc_setAcc_same s g _ half r.1)
  split
  · rw [inc32_xarray, when64_xarray, when64_xarray, when64_xarray, inc64_xarray, inc64_xarray]
  · rw [when64_xarray, when64_xarray, when64_xarray, inc64_xarray, inc64_xarray]

/-- A half marked invalid (R176). -/
def State.spoil (s : State) (g l h : Nat) : State := s.setAcc g l h { s.acc g l h with invalid := true }

theorem spoil_acc (s : State) (g l h : Nat) : ((s.spoil g l h).acc g l h).invalid = true := by
  rw [State.spoil, acc_setAcc_same]

theorem foldBank_beam (s : State) (g : Nat) (o : WorkOrder) (b : Bank) (h : s.isSplit (woBin b.bits) = true) (hc : isCorr (woOp b.bits) = false) :
    s.foldBank g o b = ((s.spoil g (woBin b.bits / s.board.logicalTiles) 0).spoil g (woBin b.bits / s.board.logicalTiles) 1).inc32 0x3400 0x0B 1 :=
  if_pos (by rw [h, hc]; rfl)

/-- A beam's bank on a split bin spoils both halves and is counted (R176). -/
theorem foldBank_spoils (s : State) (g : Nat) (o : WorkOrder) (b : Bank) (h : s.isSplit (woBin b.bits) = true) (hc : isCorr (woOp b.bits) = false) :
    let slot := woBin b.bits / s.board.logicalTiles
    ((s.foldBank g o b).acc g slot 0).invalid = true ∧ ((s.foldBank g o b).acc g slot 1).invalid = true ∧
      (s.foldBank g o b).reg 0x3400 0x0B = satAdd32 (s.reg 0x3400 0x0B) 1 := by
  dsimp only
  rw [foldBank_beam s g o b h hc, inc32_reg_same]
  refine ⟨?_, ?_, rfl⟩
  · rw [bins_acc (congrArg XArrayState.bins (inc32_xarray _ _ _ _)), State.spoil, acc_setAcc_half _ _ _ _ (by decide)]
    exact spoil_acc s g _ 0
  · rw [bins_acc (congrArg XArrayState.bins (inc32_xarray _ _ _ _))]
    exact spoil_acc _ g _ 1

/-! ### What a check of the granary's words leaves (R511) -/

section Ecc
variable (s : State) (g l h bin : Nat) (bad : List Nat)

theorem ecc_reg {j c : Nat} (hj : j < 27200) (hc : c < 256) (he : 0x1110 < j) : (s.granaryEcc g l h bin bad).reg j c = s.reg j c :=
  Low.at (L := 27200) (low_granaryEcc (by omega) (low_refl s)) hj hc (.inr he)

theorem ecc_board : (s.granaryEcc g l h bin bad).board = s.board := (keeps_granaryEcc (keeps_refl s)).board

theorem ecc_isSplit (n : Nat) : (s.granaryEcc g l h bin bad).isSplit n = s.isSplit n := by
  unfold State.isSplit
  rw [ecc_reg s g l h bin bad (by omega) (by omega) (by omega)]

theorem ecc_tile (k : Nat) : (s.granaryEcc g l h bin bad).tile k = s.tile k := kept_tile (ecc_kept ..) k

theorem ecc_orders : (s.granaryEcc g l h bin bad).xarray.orders = s.xarray.orders := kept_orders (ecc_kept ..)

theorem ecc_reseats : (s.granaryEcc g l h bin bad).xarray.reseats = s.xarray.reseats := by
  unfold State.granaryEcc
  dsimp only
  split
  · rfl
  · refine each_same (fun v : State => v.xarray.reseats) (fun i v => ?_) _ _
    exact congrArg XArrayState.reseats ((fr_faultRecord (m := 526083) (by decide) (fr_refl v)).same .xarray (by decide))

end Ecc

/-! ### A bank reaches its fold -/

theorem bankCurrent_mem (h : s.bankCurrent g b = some o) : o ∈ s.xarray.orders := by
  unfold State.bankCurrent at h
  split at h
  · next x _ hx =>
    split at h
    · cases h
      exact List.mem_of_find?_eq_some hx
    · cases h
  · cases h

/-- The half of its bin that a bank's work order folds into; the only one where it is no correlation's (R171). -/
def State.bankHalf (s : State) (b : Bank) (o : WorkOrder) : Nat := if isCorr (woOp b.bits) then s.halfOf b.bits (s.orderBlocks o) else 0

/-- The state in which a fold reads its half: words that read uncorrectable are dropped (R511). -/
def State.folding (s : State) (g : Nat) (b : Bank) (bad : List Nat) (o : WorkOrder) : State :=
  s.granaryEcc g (woBin b.bits / s.board.logicalTiles) (s.bankHalf b o) (woBin b.bits) bad

/-- The fold of a bank needs a spill of its half first (R173, R174). -/
def State.spillsFirst (s : State) (g : Nat) (b : Bank) (bad : List Nat) (o : WorkOrder) : Bool :=
  needsSpill ((s.folding g b bad o).acc g (woBin b.bits / s.board.logicalTiles) (s.bankHalf b o)) b.peak b.k

theorem foldStep_gone (bad : List Nat) (h : s.bankCurrent g b = none) : s.foldStep g i b bad = (s.freeBank g i).inc64 0x3000 7 1 := by
  unfold State.foldStep
  rw [h]

theorem foldStep_current (bad : List Nat) (h : s.bankCurrent g b = some o) : s.foldStep g i b bad =
    if s.isSplit (woBin b.bits) && isCorr (woOp b.bits) && s.spillsFirst g b bad o then
      if (s.tile g).spill.isSome then (s.folding g b bad o).modOrder o.id (fun o => { o with phase := .spilling })
      else (((s.folding g b bad o).setTile g { s.tile g with spill := some i }).modOrder o.id (fun o => { o with phase := .spilling })).inc64 0x3400 9 1
    else (s.folding g b bad o).foldEnd g i o b := by
  rw [← ecc_isSplit s g (woBin b.bits / s.board.logicalTiles) (s.bankHalf b o) (woBin b.bits) bad (woBin b.bits),
    ← ecc_tile s g (woBin b.bits / s.board.logicalTiles) (s.bankHalf b o) (woBin b.bits) bad g]
  unfold State.foldStep
  rw [h]
  rfl

/-- A fold that needs no spill ends. -/
theorem foldStep_ends (bad : List Nat) (hg : g < 272) (h : s.bankCurrent g b = some o)
    (hno : (s.isSplit (woBin b.bits) && isCorr (woOp b.bits) && s.spillsFirst g b bad o) = false) :
    FoldEnded s g i o ((s.folding g b bad o).foldBank g o b) (s.foldStep g i b bad) := by
  obtain ⟨hdone, hcount, htile, hbins, hreg⟩ := foldEnd_ended (s := s.folding g b bad o) (i := i) b hg (by
    rw [State.folding, ecc_orders]
    exact bankCurrent_mem h)
  rw [foldStep_current bad h, if_neg (by rw [hno]; decide)]
  refine ⟨hdone, ?_, ?_, hbins, hreg⟩
  · rw [hcount, State.folding, ecc_reg s _ _ _ _ _ (by omega) (by omega) (by omega)]
  · rw [htile, State.folding, ecc_tile]

theorem exec_foldComplete {is : List Nat} (bad : List Nat) (hg : g < 272) (h : (s.tile g).pendingBanks = i :: is) :
    exec (.foldComplete g bad) s = .next (s.foldStep g i (nthD Bank.reset (s.tile g).banks i) bad) := by
  show execFoldComplete g bad s = _
  unfold execFoldComplete
  rw [inst_ok (decide_eq_true hg), h]

/-! ### Spills (R173, R178) -/

theorem spillHalf_reg (s : State) (c g l h bin : Nat) {j a : Nat} (hj : j < 13312) (ha : a < 256) (he : 0x1110 < j) :
    (s.spillHalf c g l h bin).reg j a = s.reg j a :=
  Low.at (L := 13312) (low_spillHalf (by omega) (low_refl s)) hj ha (.inr he)

/-- A spill changes no other part of the X-array than its half. -/
theorem spillHalf_acc (s : State) (c g l h bin : Nat) : ∃ a, (s.spillHalf c g l h bin).xarray = (s.setAcc g l h a).xarray := by
  have hset (v : State) (a : Acc) (hv : v.xarray = s.xarray) : (v.setAcc g l h a).xarray = (s.setAcc g l h a).xarray := by
    rw [setAcc_xarray, setAcc_xarray, hv]
  have hread : (if (s.acc g l h).img then s.readRange c (s.spillAddr bin h) 32768 else s).xarray = s.xarray := by
    split
    · exact (fr_readRange (m := 558879) (by decide) (fr_refl s)).same .xarray (by decide)
    · rfl
  unfold State.spillHalf
  dsimp only
  generalize (if (s.acc g l h).img then s.readRange c (s.spillAddr bin h) 32768 else s) = v at hread ⊢
  split
  · split
    · refine ⟨_, hset _ _ ?_⟩
      rw [when64_xarray]
      exact ((fr_store (m := 558363) (by decide) (fr_refl v)).same .xarray (by decide)).trans hread
    · exact ⟨_, hset _ _ hread⟩
  · exact ⟨_, hset _ _ hread⟩

theorem spillHalf_reseats (s : State) (c g l h bin : Nat) : (s.spillHalf c g l h bin).xarray.reseats = s.xarray.reseats := by
  obtain ⟨a, ha⟩ := spillHalf_acc s c g l h bin
  rw [ha]
  rfl

/-- The state in which a fold that waited for its spill goes on: the spill's image is written and its bank waits no more. -/
def State.spilled (s : State) (g : Nat) (b : Bank) (bad : List Nat) : State :=
  let bin := woBin b.bits
  let slot := bin / s.board.logicalTiles
  let half := s.halfOf b.bits (match s.order b.order with | some o => s.orderBlocks o | none => popCount 128 (s.reg 0x2800 7))
  let s := (s.granaryEcc g slot half bin bad).spillHalf (woClass b.bits) g slot half bin
  s.setTile g { s.tile g with spill := none }

section Spilled
variable (s : State) (g : Nat) (b : Bank) (bad : List Nat)

theorem spilled_reg {j a : Nat} (hj : j < 13312) (ha : a < 256) (he : 0x1110 < j) : (s.spilled g b bad).reg j a = s.reg j a := by
  unfold State.spilled
  dsimp only
  rw [setTile_reg, spillHalf_reg _ _ _ _ _ _ hj ha he, ecc_reg _ _ _ _ _ _ (by omega) ha he]

theorem spilled_tile : (s.spilled g b bad).tile g = { s.tile g with spill := none } := by
  unfold State.spilled
  dsimp only
  rw [tile_setTile, kept_tile (spill_kept ..), ecc_tile]

theorem spilled_orders : (s.spilled g b bad).xarray.orders = s.xarray.orders := by
  unfold State.spilled
  dsimp only
  rw [setTile_xarray]
  dsimp only
  rw [kept_orders (spill_kept ..), ecc_orders]

/-- A spill does not end its bank's claim to its work order. -/
theorem spilled_bankCurrent (hg : g < 272) (hlam : s.reg (0x2200 + g) 2 < 256) : (s.spilled g b bad).bankCurrent g b = s.bankCurrent g b := by
  unfold State.spilled
  dsimp only
  exact bankCurrent_congr ((spill_kept ..).trans (ecc_kept ..))
    (fun j a hj ha he => by rw [spillHalf_reg _ _ _ _ _ _ (by omega) ha he, ecc_reg _ _ _ _ _ _ (by omega) ha he])
    (by rw [spillHalf_reseats, ecc_reseats]) g hg hlam b

end Spilled

theorem exec_spillComplete (bad : List Nat) (hg : g < 272) (h : (s.tile g).spill = some i) : exec (.spillComplete g bad) s =
    let b := nthD Bank.reset (s.tile g).banks i
    match (s.spilled g b bad).bankCurrent g b with
    | some o => .next ((s.spilled g b bad).foldEnd g i o b)
    | none => .next (((s.spilled g b bad).freeBank g i).inc64 0x3000 7 1) := by
  show execSpillComplete g bad s = _
  unfold execSpillComplete
  rw [inst_ok (decide_eq_true hg), h]
  rfl

/-- SPILL_COMPLETE: the bank is free and its spill over, and its work order has committed, or is counted as stale. -/
theorem spillComplete_ends (bad : List Nat) (hg : g < 272) (h : (s.tile g).spill = some i) (hi : i < (s.tile g).banks.length) (hlam : s.reg (0x2200 + g) 2 < 256) :
    let b := nthD Bank.reset (s.tile g).banks i
    let freed := fun (t : State) => (nthD Bank.reset (t.tile g).banks i).busy = false
    (∀ o, s.bankCurrent g b = some o → Completes (.spillComplete g bad) s (fun t => freed t ∧ (t.tile g).spill = none ∧
      { o with phase := .done, samples := [] } ∈ t.xarray.orders ∧ t.reg (0x2200 + g) 3 = wrapAdd64 (s.reg (0x2200 + g) 3) 1)) ∧
    (s.bankCurrent g b = none → Completes (.spillComplete g bad) s (fun t => freed t ∧ (t.tile g).spill = none ∧
      t.reg 0x3000 7 = wrapAdd64 (s.reg 0x3000 7) 1)) := by
  intro b freed
  have hrun := exec_spillComplete (s := s) bad hg h
  have htile := spilled_tile s g b bad
  have hi' : i < ((s.spilled g b bad).tile g).banks.length := by rw [htile]; exact hi
  dsimp only at hrun
  rw [spilled_bankCurrent s g b bad hg hlam] at hrun
  refine ⟨fun o ho => ?_, fun hnone => ?_⟩
  · rw [ho] at hrun
    have hend := foldEnd_ended (s := s.spilled g b bad) (i := i) b hg (by rw [spilled_orders]; exact bankCurrent_mem ho)
    refine completes_of hrun ⟨hend.freed hi', ?_, hend.done, ?_⟩
    · rw [hend.tile, htile]
    · rw [hend.count, spilled_reg s g b bad (by omega) (by omega) (by omega)]
  · rw [hnone] at hrun
    refine completes_of hrun ⟨?_, ?_, ?_⟩
    · dsimp only [freed]
      rw [inc64_tile]
      exact freeBank_freed _ hi'
    · rw [inc64_tile, State.freeBank, tile_setTile, htile]
    · rw [inc64_reg_same, State.freeBank, setTile_reg, spilled_reg s g b bad (by omega) (by omega) (by omega)]

/-- Settles O31: a bank's fold is dropped, held for a spill or ended, by the cases of `State.foldStep`; a spill that ends lets its fold end. -/
theorem foldsAndSpills : Obligations.FoldsAndSpills := by
  intro s g i bad hg b slot half clean freed committed
  refine ⟨fun is his hi => ⟨fun hnone => ?_, fun o ho => ⟨fun hsplit => ?_, fun hsplit hcorr => ⟨fun hneed hspill => ?_, fun j hneed hspill => ?_, fun hneed => ?_⟩,
    fun hsplit hcorr => ?_⟩⟩, fun h hi hlam => spillComplete_ends bad hg h hi hlam⟩
  · refine completes_of ((exec_foldComplete bad hg his).trans (congrArg _ (foldStep_gone bad hnone))) ⟨?_, ?_, ?_, ?_⟩
    · dsimp only [freed]
      rw [inc64_tile]
      exact freeBank_freed s hi
    · rw [inc64_reg_same]
      rfl
    · rw [inc64_xarray]
      rfl
    · rw [inc64_xarray]
      rfl
  · have hend := foldStep_ends (i := i) bad hg ho (by rw [hsplit]; rfl)
    refine completes_of (exec_foldComplete bad hg his) ⟨hend.freed hi, ⟨hend.done, hend.count⟩, ?_⟩
    rw [bins_acc hend.bins]
    have hacc := foldBank_acc (s.folding g b bad o) g o b (by rw [State.folding, ecc_isSplit]; exact hsplit)
    rw [show (s.folding g b bad o).board = s.board from ecc_board ..] at hacc
    exact hacc
  · have hstep := foldStep_current (i := i) bad ho
    rw [hsplit, hcorr, if_pos (by simp only [Bool.true_and]; exact hneed), if_neg (by rw [hspill]; decide)] at hstep
    refine completes_of ((exec_foldComplete bad hg his).trans (congrArg _ hstep)) ⟨?_, ?_, ?_⟩
    · rw [inc64_tile]
      exact congrArg Tile.spill (tile_setTile (s.folding g b bad o) g _)
    · rw [inc64_xarray]
      exact modOrder_mem (f := fun o => { o with phase := .spilling }) (by rw [setTile_xarray, State.folding]; exact (ecc_orders ..).symm ▸ bankCurrent_mem ho)
    · rw [inc64_reg_same, modOrder_reg, setTile_reg, State.folding, ecc_reg s _ _ _ _ _ (by omega) (by omega) (by omega)]
  · have hstep := foldStep_current (i := i) bad ho
    rw [hsplit, hcorr, if_pos (by simp only [Bool.true_and]; exact hneed), if_pos (by rw [hspill]; rfl)] at hstep
    refine completes_of ((exec_foldComplete bad hg his).trans (congrArg _ hstep)) ⟨?_, ?_, ?_⟩
    · exact congrArg (fun x => x.2.1) (ecc_kept s g _ _ _ bad)
    · exact modOrder_mem (f := fun o => { o with phase := .spilling }) (by rw [State.folding, ecc_orders]; exact bankCurrent_mem ho)
    · rfl
  · have hend := foldStep_ends (i := i) bad hg ho (by
      rw [show s.spillsFirst g b bad o = false from hneed, Bool.and_false])
    exact completes_of (exec_foldComplete bad hg his) ⟨hend.freed hi, hend.done, hend.count⟩
  · have hend := foldStep_ends (i := i) bad hg ho (by rw [hcorr, Bool.and_false, Bool.false_and])
    obtain ⟨h0, h1, hcount⟩ := foldBank_spoils (s.folding g b bad o) g o b (by rw [State.folding, ecc_isSplit]; exact hsplit) hcorr
    rw [show (s.folding g b bad o).board = s.board from ecc_board ..] at h0 h1
    refine completes_of (exec_foldComplete bad hg his) ⟨hend.freed hi, ⟨hend.done, hend.count⟩, ?_, ?_, ?_⟩
    · rw [bins_acc hend.bins]
      exact h0
    · rw [bins_acc hend.bins]
      exact h1
    · rw [hend.reg _ (by omega) (by omega), hcount, State.folding, ecc_reg s _ _ _ _ _ (by omega) (by omega) (by omega)]

end Sys2Proof.Machine
end

section
set_option Elab.async false
namespace Sys2Proof.Machine

/-! Work orders are reported, weights load, and FAILED tiles are retested (chapter 4, R131, R146, R151; chapter 5, R197). -/

variable {s t u : State}

/-! ### Reports of work orders (R131, R146) -/

theorem exec_workOrderComplete {bay : Nat} {o : WorkOrder} (hb : bay < 4) (ho : s.xarray.orders.find? (fun o => o.bay = bay && o.phase = .done) = some o) :
    exec (.workOrderComplete bay) s = .next (
      if o.epoch ≠ s.placeEpoch o.lam then (s.modOrder o.id (fun x => { x with epoch := s.placeEpoch o.lam })).inc64 0x3000 7 1
      else ((s.setOrders (s.xarray.orders.filter (fun x => x.id ≠ o.id))).inc64 (0x3010 + bay) 8 1).releaseHalves bay) := by
  show execWorkOrderComplete bay s = _
  unfold execWorkOrderComplete
  rw [inst_ok (decide_eq_true hb), ho]
  dsimp only
  split <;> rfl

/-- WORK_ORDER_COMPLETE. -/
theorem workOrderComplete_reports {bay : Nat} {o : WorkOrder} (hb : bay < 4)
    (ho : s.xarray.orders.find? (fun o => o.bay = bay && o.phase = .done) = some o) :
    (o.epoch = s.placeEpoch o.lam → Completes (.workOrderComplete bay) s (fun t => t.xarray.orders = s.xarray.orders.filter (fun x => x.id ≠ o.id) ∧
      t.reg (0x3010 + bay) 8 = wrapAdd64 (s.reg (0x3010 + bay) 8) 1 ∧ t.reg 0x3000 7 = s.reg 0x3000 7)) ∧
    (o.epoch ≠ s.placeEpoch o.lam → Completes (.workOrderComplete bay) s (fun t => { o with epoch := s.placeEpoch o.lam } ∈ t.xarray.orders ∧
      t.reg (0x3010 + bay) 8 = s.reg (0x3010 + bay) 8 ∧ t.reg 0x3000 7 = wrapAdd64 (s.reg 0x3000 7) 1)) := by
  have hrun := exec_workOrderComplete hb ho
  refine ⟨fun he => ?_, fun he => ?_⟩
  · rw [if_neg (fun hne => hne he)] at hrun
    refine completes_of hrun ⟨?_, ?_, ?_⟩
    · rw [releaseHalves_xarray, inc64_xarray]
      rfl
    · rw [releaseHalves_reg, inc64_reg_same]
      rfl
    · rw [releaseHalves_reg, inc64_reg_key _ _ (by simp only [key]; omega)]
      rfl
  · rw [if_pos he] at hrun
    refine completes_of hrun ⟨?_, ?_, ?_⟩
    · rw [inc64_xarray]
      exact modOrder_mem (f := fun x => { x with epoch := s.placeEpoch o.lam }) (List.mem_of_find?_eq_some ho)
    · rw [inc64_reg_key _ _ (by simp only [key]; omega), modOrder_reg]
    · rw [inc64_reg_same, modOrder_reg]

/-! ### Retests (R151) -/

theorem retest_starts {sess tile : Nat} (ht : tile < 272) (hl : s.letsCmd sess (0x2200 + tile) 6) (hst : s.reg (0x2200 + tile) 1 = 2)
    (hno : s.xarray.retests.contains tile = false) : Completes (.retest sess tile) s (fun t => t.xarray.retests = s.xarray.retests ++ [tile]) := by
  have hok : cmdRetest tile s = .ok { s with xarray := { s.xarray with retests := s.xarray.retests ++ [tile] } } := accept_yes (by simp only [hst, hno]; decide)
  refine completes_of (exec_retest ht hl) ?_
  rw [hok, commanded_ok, result_xarray]

/-- A retested tile that passes: its log records are cancelled and it is SPARE (R151). -/
def State.spared (s : State) (tile : Nat) : State :=
  let s := { s with xarray := { s.xarray with retests := s.xarray.retests.filter (fun g => g ≠ tile) } }
  let deferred := s.power.deferred.filter (fun r => !((NvSlot.mk 1 r).keeps && recInstance r = tile))
  let s := { s with nv := { s.nv with log := cancelTile tile s.nv.log }, power := { s.power with deferred := deferred } }
  (s.setTileState tile 1 0xFF 0).showBay (tile / 68)

/-- An unplaced logical tile joins the re-seats of its bay, without a source (R151). -/
def State.queueReseat (s : State) (bay lam : Nat) : State :=
  ((s.bumpEpoch lam).setReseats bay ((s.bumpEpoch lam).reseatsOf bay ++ [⟨lam, 272, 0, none⟩])).startReseat bay 70

/-- The lowest unplaced logical tile of a bay is placed again (R151). -/
def State.placeAgain (s : State) (bay : Nat) : State :=
  match s.unplaced bay with
  | some lam => s.queueReseat bay lam
  | none => s

theorem exec_retestComplete {tile : Nat} (passed : Bool) (ht : tile < 272) (hin : s.xarray.retests.contains tile = true) :
    exec (.retestComplete tile passed) s = .next (
      if passed then (s.spared tile).placeAgain (tile / 68)
      else { s with xarray := { s.xarray with retests := s.xarray.retests.filter (fun g => g ≠ tile) } }.setReg (0x2200 + tile) 5 6) := by
  show execRetestComplete tile passed s = _
  unfold execRetestComplete
  rw [inst_ok (decide_eq_true ht), if_pos hin]
  cases passed with
  | false => rfl
  | true =>
    rw [if_pos rfl, if_pos rfl]
    change (match (s.spared tile).unplaced (tile / 68) with
      | some lam => Host.Outcome.next ((s.spared tile).queueReseat (tile / 68) lam)
      | none => .next (s.spared tile)) = _
    unfold State.placeAgain
    generalize s.spared tile = v
    cases v.unplaced (tile / 68) with
    | some lam => rfl
    | none => rfl

theorem spared_entries (s : State) (tile : Nat) (ht : tile < 272) :
    (s.spared tile).reg (0x2200 + tile) 1 = 1 ∧ (s.spared tile).reg (0x2200 + tile) 2 = 0xFF ∧ (s.spared tile).reg (0x2200 + tile) 5 = 0 := by
  unfold State.spared
  dsimp only
  refine ⟨?_, ?_, ?_⟩
  · rw [showBay_reg _ (by omega) (by omega), setTileState_state]
  · rw [showBay_reg _ (by omega) (by omega), setTileState_logical]
  · rw [showBay_reg _ (by omega) (by omega), setTileState_cause]

theorem spared_xarray (s : State) (tile : Nat) :
    (s.spared tile).xarray = { s.xarray with retests := s.xarray.retests.filter (fun g => g ≠ tile) } := by
  unfold State.spared
  rw [showBay_xarray, setTileState_xarray]

/-- What placing a logical tile of a bay with a SPARE tile leaves: the entries of tiles, and the X-array but for its re-seats. -/
theorem placeAgain_kept {bay q : Nat} {qs : List Nat} (hbay : bay < 4) (hq : s.tilesIn bay 1 = q :: qs) (hr : s.reseatsOf bay = [])
    (hl : bay < s.xarray.reseats.length) :
    (∀ j b, 0x2200 ≤ j → b < 256 → (s.placeAgain bay).reg j b = s.reg j b) ∧
      (s.placeAgain bay).xarray.tiles = s.xarray.tiles ∧ (s.placeAgain bay).xarray.retests = s.xarray.retests := by
  unfold State.placeAgain
  split
  · next lam hlam =>
    have hlt : lam < 256 := by
      obtain ⟨l, hl, rfl⟩ := List.mem_map.mp (List.mem_of_find?_eq_some hlam)
      have := List.mem_range.mp hl
      omega
    have hplace (j b : Nat) (hb : b < 256) (hj : j ≠ 0x2110 + lam / 64) : (s.bumpEpoch lam).reg j b = s.reg j b := by
      unfold State.bumpEpoch State.setPlacement
      rw [set_ne]
    have hx := bumpEpoch_xarray s lam
    have htiles : ((s.bumpEpoch lam).setReseats bay [⟨lam, 272, 0, none⟩]).tilesIn bay 1 = q :: qs :=
      (tilesIn_of 1 (fun g hg => hplace (0x2200 + g) 1 (by omega) (by omega))).trans hq
    rw [State.queueReseat, reseatsOf_of (congrArg XArrayState.reseats hx), hr, List.nil_append,
      startReseat_spare (n := 69) (reseatsOf_set _ (by rw [hx]; exact hl)) rfl htiles]
    refine ⟨fun j b hj hb => ?_, ?_, ?_⟩
    · rw [set_ne]
      exact hplace j b hb (by omega)
    · rw [setReg_xarray, setReseats_xarray, setReseats_xarray, hx]
    · rw [setReg_xarray, setReseats_xarray, setReseats_xarray, hx]
  · exact ⟨fun _ _ _ _ => rfl, rfl, rfl⟩

/-- RETEST_COMPLETE. -/
theorem retestComplete_ends {tile : Nat} (ht : tile < 272) (hin : s.xarray.retests.contains tile = true) :
    Completes (.retestComplete tile false) s (fun t => t.reg (0x2200 + tile) 5 = 6 ∧ t.xarray.retests = s.xarray.retests.filter (fun g => g ≠ tile)) ∧
    (s.reseatsOf (tile / 68) = [] → tile / 68 < s.xarray.reseats.length → Completes (.retestComplete tile true) s (fun t =>
      t.reg (0x2200 + tile) 1 = 1 ∧ t.reg (0x2200 + tile) 2 = 0xFF ∧ t.reg (0x2200 + tile) 5 = 0 ∧ t.xarray.tiles = s.xarray.tiles ∧
      t.xarray.retests = s.xarray.retests.filter (fun g => g ≠ tile))) := by
  refine ⟨completes_of (exec_retestComplete false ht hin) ⟨?_, ?_⟩, fun hr hl => ?_⟩
  · rw [if_neg (by decide), reg_setReg_same]
  · rw [if_neg (by decide), setReg_xarray]
  · obtain ⟨h1, h2, h5⟩ := spared_entries s tile ht
    have hx := spared_xarray s tile
    have hmem : tile ∈ (s.spared tile).tilesIn (tile / 68) 1 := by
      refine List.mem_filter.mpr ⟨List.mem_map.mpr ⟨tile % 68, List.mem_range.mpr (by omega), by omega⟩, decide_eq_true h1⟩
    obtain ⟨q, qs, hq⟩ := List.exists_cons_of_ne_nil (List.ne_nil_of_mem hmem)
    obtain ⟨hreg, htiles, hretests⟩ := placeAgain_kept (by omega) hq (by rw [reseatsOf_of (by rw [hx])]; exact hr) (by rw [hx]; exact hl)
    refine completes_of (exec_retestComplete true ht hin) ?_
    rw [if_pos rfl, hreg _ _ (by omega) (by omega), hreg _ _ (by omega) (by omega), hreg _ _ (by omega) (by omega), htiles, hretests, hx]
    exact ⟨h1, h2, h5, rfl, rfl⟩

/-! ### DRAM with every channel ONLINE (R338, R344) -/

theorem mapAddr_channel {a ch l : Nat} (h : s.mapAddr a = some (ch, l)) : ch < s.dramN := by
  unfold State.mapAddr State.dramExists at h
  dsimp only at h
  split at h
  · next hprot =>
    have hn : s.dramN ≠ 0 := by
      intro h0
      rw [State.protSize, h0, Nat.zero_sub, Nat.zero_mul, Nat.mul_zero] at hprot
      omega
    cases h
    exact Nat.mod_lt _ (by omega)
  · split at h
    · next hprot hex =>
      have hn : s.dramN ≠ 0 := by
        intro h0
        rw [decide_eq_true_eq, State.unprotSize, h0, Nat.zero_mul, Nat.mul_zero] at hex
        omega
      cases h
      exact Nat.mod_lt _ (by omega)
    · cases h

theorem chanState_online (h : s.allGood = true) {ch : Nat} (hc : ch < s.dramN) : s.chanState ch = 0 := by
  have hall := (Bool.and_eq_true _ _ ▸ h).2
  exact of_decide_eq_true (List.all_eq_true.mp hall ch (List.mem_range.mpr hc))

theorem bad_nil (h : s.allGood = true) : s.ddr.bad = [] := List.isEmpty_iff.mp (Bool.and_eq_true _ _ ▸ h).1

theorem unitDirect_online {ch : Nat} (u : Nat) (h : s.chanState ch = 0) : s.unitDirect ch u = true := by
  unfold State.unitDirect
  rw [h]
  rfl

theorem unitGood_online (h : s.allGood = true) {ch : Nat} (hc : ch < s.dramN) (u : Nat) : s.unitGood ch u = true := by
  unfold State.unitGood State.unitBad
  rw [unitDirect_online u (chanState_online h hc), bad_nil h]
  rfl

/-- The bytes of the device unit at a logical address; zero where there is none. -/
def State.unitStored (s : State) (u : Nat) : Bytes := match s.mapAddr (64 * u) with | some (ch, l) => s.devUnit ch l | none => zeroBytes 64

theorem unitNow_online (h : s.allGood = true) (u : Nat) : s.unitNow u =
    match s.assembly u with | some x => mergeMask x.mask (s.unitStored u) x.data | none => s.unitStored u := by
  have hold : (match s.mapAddr (64 * u) with | some (ch, l) => s.localUnitBytes ch l | none => zeroBytes 64) = s.unitStored u := by
    unfold State.unitStored
    cases hm : s.mapAddr (64 * u) with
    | none => rfl
    | some p =>
      obtain ⟨ch, l⟩ := p
      dsimp only
      unfold State.localUnitBytes
      rw [unitGood_online h (mapAddr_channel hm)]
      rfl
  rw [← hold]
  rfl

theorem unitStored_length (s : State) (u : Nat) : (s.unitStored u).length = 64 := by
  unfold State.unitStored
  split
  · exact dramRead_length ..
  · exact List.length_replicate

theorem unitNow_length (h : s.allGood = true) (u : Nat) : (s.unitNow u).length = 64 := by
  rw [unitNow_online h]
  split
  · rw [mergeMask, List.length_map, List.length_range]
  · exact unitStored_length s u

theorem unitReadable_online (h : s.allGood = true) (a : Nat) : s.unitReadable a = (s.mapAddr a).isSome := by
  unfold State.unitReadable
  cases hm : s.mapAddr a with
  | none => rfl
  | some p =>
    obtain ⟨ch, l⟩ := p
    dsimp only
    unfold State.localReadable
    rw [unitGood_online h (mapAddr_channel hm)]
    rfl

theorem load_length (h : s.allGood = true) (a n : Nat) : (s.load a n).length = n := by
  have hunits : ((unitsOf a n).flatMap s.unitNow).length = 64 * (unitsOf a n).length := by
    induction unitsOf a n with
    | nil => rfl
    | cons u us ih => rw [List.flatMap_cons, List.length_append, unitNow_length h, ih, List.length_cons]; omega
  have hcount : n ≤ 64 * (unitsOf a n).length - a % 64 := by
    unfold unitsOf
    split
    · omega
    · rw [List.length_map, List.length_range]
      omega
  unfold State.load slice
  rw [List.length_take, List.length_drop, hunits]
  omega

theorem loadZ_length (h : s.allGood = true) (a n : Nat) : (s.loadZ a n).length = n := by
  unfold State.loadZ
  split
  · exact load_length h a n
  · rw [List.length_map, List.length_zip, List.length_range, load_length h a n, Nat.min_self]

/-! ### What reads leave of DRAM (R344, R346) -/

/-- `t` differs from `s` in nothing that a later read of DRAM with every channel ONLINE depends on. -/
structure SameDram (s t : State) : Prop where
  board : t.board = s.board
  dram : t.dram = s.dram
  ddr : t.ddr = { s.ddr with channels := t.ddr.channels }
  errors : ∀ c, (t.chan c).errors = (s.chan c).errors
  reg : ∀ j b, b < 256 → (b < 5 ∨ 0x5800 ≤ j ∧ j < 0x5810) → t.reg j b = s.reg j b

theorem sameDram_refl (s : State) : SameDram s s := ⟨rfl, rfl, rfl, fun _ => rfl, fun _ _ _ _ => rfl⟩

theorem sameDram_trans (h : SameDram s t) (k : SameDram t u) : SameDram s u :=
  ⟨k.board.trans h.board, k.dram.trans h.dram, k.ddr.trans (by rw [h.ddr]), fun c => (k.errors c).trans (h.errors c),
    fun j b hb hj => (k.reg j b hb hj).trans (h.reg j b hb hj)⟩

section
variable (h : SameDram s t)
include h

theorem SameDram.dramN : t.dramN = s.dramN := congrArg Board.channels h.board

theorem SameDram.protSize : t.protSize = s.protSize := by
  unfold State.protSize State.dramQ
  rw [h.dramN, h.reg 0x5800 4 (by omega) (by omega)]

theorem SameDram.dramExists (a : Nat) : t.dramExists a = s.dramExists a := by
  unfold State.dramExists State.unprotSize State.dramQ
  rw [h.protSize, h.dramN, h.reg 0x5800 3 (by omega) (by omega), h.reg 0x5800 4 (by omega) (by omega)]

theorem SameDram.mapAddr (a : Nat) : t.mapAddr a = s.mapAddr a := by
  unfold State.mapAddr State.dramQ
  rw [h.protSize, h.dramN, h.dramExists, h.reg 0x5800 4 (by omega) (by omega)]

theorem SameDram.devUnit (ch u : Nat) : t.devUnit ch u = s.devUnit ch u := by
  unfold State.devUnit State.deviceKey State.coord
  rw [h.dram, h.reg 0x5800 5 (by omega) (by omega), h.reg 0x5800 1 (by omega) (by omega)]

theorem SameDram.assembly (u : Nat) : t.assembly u = s.assembly u := by
  unfold State.assembly
  rw [h.ddr]

theorem SameDram.unitStored (u : Nat) : t.unitStored u = s.unitStored u := by
  unfold State.unitStored
  rw [h.mapAddr]
  split
  · exact h.devUnit _ _
  · rfl

theorem SameDram.allGood : t.allGood = s.allGood := by
  have hbad : t.ddr.bad = s.ddr.bad := by rw [h.ddr]
  have hchan (c : Nat) : t.chanState c = s.chanState c := h.reg _ 1 (by omega) (by omega)
  unfold State.allGood
  rw [hbad, h.dramN]
  simp only [hchan]

theorem SameDram.tooManyErrors (c : Nat) : t.tooManyErrors c = s.tooManyErrors c := by
  unfold State.tooManyErrors State.chanState
  rw [h.errors, h.reg (0x5810 + c) 1 (by omega) (by omega), h.reg 0x5800 0x0D (by omega) (by omega)]

theorem SameDram.steady (hs : s.dramSteady) : t.dramSteady :=
  ⟨h.allGood.trans hs.1, fun c hc => (h.tooManyErrors c).trans (hs.2 c (h.dramN ▸ hc))⟩

theorem SameDram.load (hg : s.allGood = true) (a n : Nat) : t.load a n = s.load a n := by
  have hnow : t.unitNow = s.unitNow := by
    funext u
    rw [unitNow_online (h.allGood.trans hg), unitNow_online hg, h.assembly, h.unitStored]
  unfold State.load
  rw [hnow]

theorem SameDram.byteReadable (hg : s.allGood = true) (a : Nat) : t.byteReadable a = s.byteReadable a := by
  unfold State.byteReadable
  rw [unitReadable_online (h.allGood.trans hg), unitReadable_online hg, h.mapAddr, h.assembly]

/-- A read of DRAM with every channel ONLINE returns what it did. -/
theorem SameDram.loadZ (hg : s.allGood = true) (a n : Nat) : t.loadZ a n = s.loadZ a n := by
  have hread : t.byteReadable = s.byteReadable := funext (h.byteReadable hg)
  unfold State.loadZ State.rangeReadable
  rw [h.load hg, h.allGood, h.dramExists, hread]

end

theorem sameDram_each {α : Type} {f : α → State → State} (hf : ∀ x u, u.dramSteady → SameDram u (f x u)) (xs : List α) (hs : s.dramSteady) :
    SameDram s (s.each xs f) := by
  unfold State.each
  induction xs generalizing s with
  | nil => exact sameDram_refl s
  | cons x xs ih => exact sameDram_trans (hf x s hs) (ih ((hf x s hs).steady hs))

theorem sameDram_inc64 (s : State) (j a n : Nat) (ha : 5 ≤ a) (ha' : a < 256) (hj : j < 0x5800 ∨ 0x5810 ≤ j) : SameDram s (s.inc64 j a n) := by
  refine ⟨rfl, rfl, rfl, fun _ => rfl, fun i b hb hi => inc64_reg_key _ _ ?_⟩
  simp only [key]
  omega

theorem sameDram_modChan (s : State) (ch : Nat) (f : DramChannel → DramChannel) (hf : ∀ x, (f x).errors = x.errors) : SameDram s (s.modChan ch f) := by
  refine ⟨rfl, rfl, rfl, fun c => ?_, fun _ _ _ _ => rfl⟩
  unfold State.modChan State.setDdr State.chan
  dsimp only
  rw [lookup_insertKey]
  split
  · next hc => rw [hc]; exact hf _
  · rfl

theorem sameDram_modX (s : State) (f : XArrayState → XArrayState) : SameDram s (s.modX f) := ⟨rfl, rfl, rfl, fun _ => rfl, fun _ _ _ _ => rfl⟩

theorem sameDram_closeRow (s : State) (ch bank : Nat) : SameDram s (s.closeRow ch bank) := by
  unfold State.closeRow
  dsimp only
  split
  · exact sameDram_refl s
  · generalize (if (s.chan ch).owed.contains bank then _ else 0) = n
    have hclosed := sameDram_modChan s ch
      (fun x => { x with lfsr := lfsrSteps n x.lfsr, rows := eraseKey x.rows bank, owed := x.owed.filter (fun b => b ≠ bank) }) (fun _ => rfl)
    split
    · exact hclosed
    · exact sameDram_trans hclosed (sameDram_trans (sameDram_inc64 _ (0x5810 + ch) 7 n (by omega) (by omega) (by omega))
        (sameDram_inc64 _ (0x5810 + ch) 9 n (by omega) (by omega) (by omega)))

theorem sameDram_activate (s : State) (ch bank row : Nat) : SameDram s (s.activate ch bank row) := by
  have hopen := sameDram_modChan s ch (fun x =>
    let l := lfsrStep x.lfsr
    { x with lfsr := l, rows := insertKey x.rows bank row, owed := if l % 2 ^ s.reg 0x5800 8 = 0 then bank :: x.owed else x.owed }) (fun _ => rfl)
  exact sameDram_trans hopen (sameDram_inc64 _ (0x5810 + ch) 7 1 (by omega) (by omega) (by omega))

theorem sameDram_access (s : State) (ch u : Nat) : SameDram s (s.access ch u) := by
  unfold State.access
  dsimp only
  split
  · exact sameDram_inc64 s _ _ _ (by omega) (by omega) (by omega)
  · exact sameDram_trans (sameDram_closeRow s ch (s.coord u).bankId) (sameDram_activate _ ch _ _)

theorem sameDram_deviceRead (s : State) (ch u : Nat) : SameDram s (s.deviceRead ch u) :=
  sameDram_trans (sameDram_access s ch u) (sameDram_inc64 _ _ _ _ (by omega) (by omega) (by omega))

/-- A unit of an ONLINE channel is read from its devices. -/
theorem readUnit_steady (hs : s.dramSteady) {ch : Nat} (hc : ch < s.dramN) (u : Nat) : s.readUnit ch u 0 = s.deviceRead ch u := by
  have hbad : s.unitBad ch u = false := by
    unfold State.unitBad
    rw [bad_nil hs.1]
    rfl
  have honly : s.readUnitOnly ch u 0 = s.deviceRead ch u := by
    unfold State.readUnitOnly
    dsimp only
    rw [if_pos (unitDirect_online u (chanState_online hs.1 hc)), hbad]
    rfl
  unfold State.readUnit
  dsimp only
  rw [honly, (sameDram_deviceRead s ch u).tooManyErrors, hs.2 ch hc]
  rfl

/-- A class H read with every channel ONLINE leaves DRAM as it was. -/
theorem sameDram_readRange (hs : s.dramSteady) (a n : Nat) : SameDram s (s.readRange clsH a n) := by
  unfold State.readRange
  refine sameDram_each (fun u v hv => ?_) _ hs
  cases hm : v.mapAddr (64 * u) with
  | none => exact sameDram_refl v
  | some p =>
    obtain ⟨ch, l⟩ := p
    have hc := mapAddr_channel hm
    have hmeter : v.meterU ch clsH = v := if_pos (by decide)
    dsimp only
    rw [chanState_online hv.1 hc, if_neg (by simp), hmeter, readUnit_steady hv hc]
    exact sameDram_deviceRead v ch l

/-! ### Weights (R197) -/

/-- A slot of tile `p` takes a block, if it differs (R197). -/
def State.putSlot (s : State) (p slot : Nat) (block : Bytes) : State :=
  if s.slotContent p slot = block then s
  else (s.modX (fun x => { x with weights := insertKey x.weights (p * 64 + slot) block })).inc64 0x3800 9 1

/-- One block of a group's weights is read and loaded into slot `base + r` of tile `p`. -/
def State.loadSlot (p g base : Nat) (r : Nat) (s : State) : State :=
  (s.readRange clsH (s.weightAddr g false + 8192 * r) 8192).putSlot p (base + r) (s.loadZ (s.weightAddr g false + 8192 * r) 8192)

theorem loadSlots_eq (s : State) (p g : Nat) :
    s.loadSlots p g = s.each (List.range ((s.dom (0x3880 + g) 1).length / 8192)) (State.loadSlot p g (s.reg (0x3810 + g) 5)) := rfl

theorem readRange_xarray (s : State) (c a n : Nat) : (s.readRange c a n).xarray = s.xarray :=
  (fr_readRange (m := 558879) (by decide) (fr_refl s)).same .xarray (by decide)

theorem slotContent_of (h : t.xarray.weights = s.xarray.weights) (p slot : Nat) : t.slotContent p slot = s.slotContent p slot := by
  unfold State.slotContent State.weightSlot
  rw [h]

theorem inc64_loads (s : State) (j a n : Nat) : (s.inc64 j a n).xarray.loads = s.xarray.loads := by rw [inc64_xarray]

theorem putSlot_loads (s : State) (p slot : Nat) (block : Bytes) : (s.putSlot p slot block).xarray.loads = s.xarray.loads := by
  unfold State.putSlot
  split
  · rfl
  · rw [inc64_loads]
    rfl

theorem loadSlot_loads (p g base r : Nat) (s : State) : (s.loadSlot p g base r).xarray.loads = s.xarray.loads := by
  rw [State.loadSlot, putSlot_loads, readRange_xarray]

/-- Storing a block in a slot changes no other slot. -/
theorem slotContent_set_other (s : State) (p : Nat) {slot k : Nat} (block : Bytes) (h : k ≠ slot) :
    (s.modX (fun x => { x with weights := insertKey x.weights (p * 64 + slot) block })).slotContent p k = s.slotContent p k := by
  have hslot : (s.modX (fun x => { x with weights := insertKey x.weights (p * 64 + slot) block })).weightSlot p k = s.weightSlot p k := by
    unfold State.weightSlot State.modX
    dsimp only
    rw [lookup_insertKey_other _ _ (by omega)]
  unfold State.slotContent
  rw [hslot]

/-- A slot that takes a block holds it; the other slots and DRAM are as they were. -/
theorem putSlot_content (s : State) (p slot : Nat) {block : Bytes} (hlen : block.length = 8192) : SameDram s (s.putSlot p slot block) ∧
    (s.putSlot p slot block).slotContent p slot = block ∧ ∀ k, k ≠ slot → (s.putSlot p slot block).slotContent p k = s.slotContent p k := by
  unfold State.putSlot
  by_cases hold : s.slotContent p slot = block
  · rw [if_pos hold]
    exact ⟨sameDram_refl s, hold, fun _ _ => rfl⟩
  · rw [if_neg hold]
    have hcontent (k : Nat) := slotContent_of (congrArg XArrayState.weights
      (inc64_xarray (s.modX (fun x => { x with weights := insertKey x.weights (p * 64 + slot) block })) 0x3800 9 1)) p k
    refine ⟨sameDram_trans (sameDram_modX s _) (sameDram_inc64 _ 0x3800 9 1 (by omega) (by omega) (by omega)),
      ?_, fun k hk => ?_⟩
    · rw [hcontent, content_set s p slot block hlen]
    · rw [hcontent, slotContent_set_other s p block hk]

/-- A loaded slot holds its block, as DRAM with every channel ONLINE had it. -/
theorem loadSlot_steady (p g base r : Nat) (hs : s.dramSteady) : SameDram s (s.loadSlot p g base r) ∧
    (s.loadSlot p g base r).slotContent p (base + r) = s.loadZ (s.weightAddr g false + 8192 * r) 8192 ∧
    ∀ k, k ≠ base + r → (s.loadSlot p g base r).slotContent p k = s.slotContent p k := by
  unfold State.loadSlot
  have hread := sameDram_readRange hs (s.weightAddr g false + 8192 * r) 8192
  have hkept := slotContent_of (congrArg XArrayState.weights (readRange_xarray s clsH (s.weightAddr g false + 8192 * r) 8192)) p
  obtain ⟨hsame, hblock, hothers⟩ := putSlot_content (s.readRange clsH (s.weightAddr g false + 8192 * r) 8192) p (base + r)
    (loadZ_length hs.1 (s.weightAddr g false + 8192 * r) 8192)
  exact ⟨sameDram_trans hread hsame, hblock, fun k hk => (hothers k hk).trans (hkept k)⟩

theorem SameDram.weightAddr (h : SameDram s t) (g : Nat) (pend : Bool) : t.weightAddr g pend = s.weightAddr g pend := by
  unfold State.weightAddr
  rw [h.reg 0x3800 3 (by omega) (by omega)]

theorem each_range_succ (f : Nat → State → State) (n : Nat) (s : State) : s.each (List.range (n + 1)) f = f n (s.each (List.range n) f) := by
  unfold State.each
  rw [List.range_succ, List.foldl_append]
  rfl

/-- The first `n` slots of a group's weights hold their blocks. -/
theorem loadEach_steady (p g base n : Nat) (hs : s.dramSteady) : SameDram s (s.each (List.range n) (State.loadSlot p g base)) ∧
    ∀ r, r < n → (s.each (List.range n) (State.loadSlot p g base)).slotContent p (base + r) = s.loadZ (s.weightAddr g false + 8192 * r) 8192 := by
  induction n with
  | zero => exact ⟨sameDram_refl s, fun r hr => absurd hr (Nat.not_lt_zero r)⟩
  | succ n ih =>
    obtain ⟨hsame, hslots⟩ := ih
    obtain ⟨hlast, hblock, hothers⟩ := loadSlot_steady p g base n (hsame.steady hs)
    rw [each_range_succ]
    refine ⟨sameDram_trans hsame hlast, fun r hr => ?_⟩
    by_cases hrn : r = n
    · rw [hrn, hblock, hsame.weightAddr, hsame.loadZ hs.1]
    · rw [hothers _ (by omega), hslots r (by omega)]

/-- A BEAM pass of an earlier half holds back the load `l` of a logical tile (R197). -/
def State.loadHeld (s : State) (lam : Nat) (l : WeightLoad) : Bool :=
  s.xarray.orders.any (fun o => o.lam = lam && isBeam (woOp o.bits) && o.phase ≠ .done &&
    (o.phase ≠ .queued || (match o.half with | some h => decide (h.sc < l.sc) | none => false)))

theorem exec_weightLoad {lam : Nat} {l : WeightLoad} (hlam : lam < 256) (hl : s.xarray.loads.find? (fun l => l.lam = lam) = some l)
    (hfree : s.loadHeld lam l = false) : exec (.weightLoad lam) s =
      match s.tileOf lam with
      | some p => if s.fenced p then .next s else .next ((s.modX (fun x => { x with loads := x.loads.erase l })).loadSlots p l.group)
      | none => .next s := by
  show execWeightLoad lam s = _
  unfold execWeightLoad
  rw [inst_ok (decide_eq_true hlam), hl]
  exact if_neg (fun hheld => Bool.false_ne_true (hfree.symm.trans hheld))

/-- WEIGHT_LOAD. -/
theorem weightLoad_completes {lam p : Nat} {l : WeightLoad} (hlam : lam < 256) (hl : s.xarray.loads.find? (fun l => l.lam = lam) = some l)
    (hfree : s.loadHeld lam l = false) (hp : s.tileOf lam = some p) (hf : s.fenced p = false) :
    Completes (.weightLoad lam) s (fun t => t.xarray.loads = s.xarray.loads.erase l ∧
      (s.dramSteady → ∀ r, r < (s.dom (0x3880 + l.group) 1).length / 8192 →
        t.slotContent p (s.reg (0x3810 + l.group) 5 + r) = s.loadZ (s.weightAddr l.group false + 8192 * r) 8192)) := by
  have hrun := exec_weightLoad hlam hl hfree
  rw [hp] at hrun
  dsimp only at hrun
  rw [if_neg (by rw [hf]; decide), loadSlots_eq] at hrun
  refine completes_of hrun ⟨?_, fun hs => ?_⟩
  · exact each_same (fun v : State => v.xarray.loads) (loadSlot_loads p l.group _) _ _
  · have howed := sameDram_modX s (fun x => { x with loads := x.loads.erase l })
    intro r hr
    rw [← howed.loadZ hs.1, ← howed.weightAddr]
    exact (loadEach_steady p l.group _ _ (howed.steady hs)).2 r hr

theorem weightLoad_waits {lam : Nat} {l : WeightLoad} (hlam : lam < 256) (hl : s.xarray.loads.find? (fun l => l.lam = lam) = some l)
    (hfree : s.loadHeld lam l = false) (hp : s.tileOf lam = none) : exec (.weightLoad lam) s = .next s := by
  rw [exec_weightLoad hlam hl hfree, hp]

/-- Settles O32: a report is counted or rejected by the epoch of its work order, a load takes each block as DRAM has it, and a retest ends as it went. -/
theorem ordersReportAndTilesAreRetested : Obligations.OrdersReportAndTilesAreRetested := by
  refine ⟨fun s => ⟨fun bay o hb ho => workOrderComplete_reports hb ho, fun lam l p hlam hl hfree hp hf => ⟨?_, fun _ hnone => ?_⟩⟩,
    fun s tile ht => ⟨fun sess hlets hst hno => retest_starts ht hlets hst hno, fun hin => retestComplete_ends ht hin⟩⟩
  · exact weightLoad_completes hlam hl hfree hp hf
  · exact weightLoad_waits hlam hl hfree hnone

end Sys2Proof.Machine
end

section
set_option Elab.async false
namespace Sys2Proof.Machine

/-! Tiles that fail and are re-seated (chapter 4, R143 to R150). -/

variable {s t u : State} {tile bay lam cause : Nat}

/-! ### What a woken Jig leaves of the tiles -/

/-- From `s` to `t` the entries of tiles, bays and placement read as before, but for the counts of discarded work orders, and the re-seats stand. -/
structure Seats (s t : State) : Prop where
  reg : ∀ j b, 0x2100 ≤ j → j < 0x3000 → b < 256 → (b ≠ 5 ∨ 0x2104 ≤ j) → t.reg j b = s.reg j b
  reseats : t.xarray.reseats = s.xarray.reseats

theorem seats_refl (s : State) : Seats s s := ⟨fun _ _ _ _ _ _ => rfl, rfl⟩

theorem seats_trans (h : Seats s t) (h' : Seats t u) : Seats s u :=
  ⟨fun j b h1 h2 hb h5 => (h'.reg j b h1 h2 hb h5).trans (h.reg j b h1 h2 hb h5), h'.reseats.trans h.reseats⟩

theorem seats_of_low (h : Low 0x3000 s t) (hx : t.xarray.reseats = s.xarray.reseats) : Seats s t :=
  ⟨fun j b h1 h2 hb _ => h.reg j b h2 hb (by omega), hx⟩

theorem seats_each {α : Type} {f : α → State → State} (hf : ∀ x s, Seats s (f x s)) (xs : List α) (s : State) : Seats s (s.each xs f) := by
  unfold State.each
  induction xs generalizing s with
  | nil => exact seats_refl s
  | cons x xs ih => exact seats_trans (hf x s) (ih (f x s))

theorem seats_fail (s : State) (k code : Nat) : Seats s (s.jigFail k code) :=
  seats_of_low (low_jigFail (by omega) (low_refl s)) (by rw [jigFail_xarray]; rfl)

theorem swapList_reseats (s : State) (k : Nat) (l : Bytes) : (s.swapList k l).xarray.reseats = s.xarray.reseats := by
  unfold State.swapList State.setRun State.goto
  simp only [setReg_xarray]
  rfl

theorem lateSwap_reseats (s : State) (k : Nat) : (s.lateSwap k).xarray.reseats = s.xarray.reseats := by
  unfold State.lateSwap
  split
  · split
    · exact swapList_reseats _ k _
    · rfl
  · rfl

theorem seats_late (s : State) (k : Nat) : Seats s (s.lateSwap k) :=
  seats_of_low (low_lateSwap (by omega) (low_refl s)) (lateSwap_reseats s k)

theorem seats_discard (s : State) (k w id : Nat) (hlam : lam < 256) : Seats s (s.discardUnplaced k lam w id) := by
  have hcount : Seats s ((s.inc64 (0x3010 + k) 8 1).inc32 (0x2100 + lam / 64) 5 1) := by
    refine ⟨fun j b h1 h2 hb h5 => ?_, rfl⟩
    rw [inc32_reg_key _ _ (by simp only [key]; omega), inc64_reg_key _ _ (by simp only [key]; omega)]
  unfold State.discardUnplaced
  dsimp only
  split
  · exact seats_trans hcount (seats_of_low (low_inc64 (.inl (by omega)) (low_mk (low_refl _))) rfl)
  · exact hcount

theorem seats_place (s : State) (k w id : Nat) (p : Option Nat) (hlam : lam < 256) : Seats s (s.placeOrder k lam w id p) := by
  cases p with
  | none => exact seats_discard s k w id hlam
  | some _ => exact ⟨fun _ _ _ _ _ _ => rfl, rfl⟩

theorem seats_issue (s : State) (k : Nat) (x : Sweep) : Seats s (s.issueOrder k x) := by
  rw [issueOrder_counted]
  refine seats_trans ⟨fun j b h1 h2 hb h5 => ?_, by rw [orderCounted_xarray]⟩ (seats_place _ _ _ _ _ (sweepTile_lt s x))
  exact orderCounted_reg _ _ _ _ (by simp only [key]; omega) (by simp only [key]; omega)

theorem seats_setRun (s : State) (k v : Nat) : Seats s (s.setRun k v) := seats_of_low (low_setRun (by omega) (low_refl s)) (by rw [State.setRun, setReg_xarray])

theorem seats_modJig (s : State) (k : Nat) (f : Jig → Jig) : Seats s (s.modJig k f) := ⟨fun _ _ _ _ _ _ => rfl, rfl⟩

theorem seats_poolFull (s : State) (i : Nat) : Seats s (s.poolFull i) :=
  seats_of_low (low_poolFull (by omega) (low_refl s)) (by rw [poolFull_xarray])

/-- A Jig that goes on with a sweep leaves the tiles as they are. -/
theorem seats_sweep (s : State) (k n : Nat) (x : Sweep) : Seats s (s.runSweep k n x) := by
  induction n generalizing s x with
  | zero => exact seats_refl s
  | succ n ih =>
    rw [runSweep_succ]
    dsimp only
    split
    · exact seats_trans (seats_fail s k _) (seats_late _ k)
    · split
      · refine seats_trans ?_ (seats_trans (seats_modJig _ k _) (seats_setRun _ k _))
        split
        · exact seats_refl s
        · exact seats_poolFull s 1
      · have hissue := seats_trans (seats_issue s k x) (seats_setRun _ k jgRunning)
        split
        · have hnext (v : State) : Seats v (v.nextEntry k) :=
            seats_of_low (low_nextEntry (by omega) (low_refl v)) (by rw [State.nextEntry, State.goto, setReg_xarray])
          exact seats_trans hissue (seats_trans (seats_modJig _ k _) (seats_trans (hnext _) (seats_late _ k)))
        · exact seats_trans hissue (ih _ _)

theorem seats_wake (s : State) (lam : Nat) : Seats s (s.wakePort lam) := by
  unfold State.wakePort State.resumePort
  dsimp only
  split
  · exact seats_refl s
  · split
    · split
      · exact seats_sweep _ _ _ _
      · exact seats_refl s
    · exact seats_refl s

theorem seats_setOrders (s : State) (os : List WorkOrder) : Seats s (s.setOrders os) := ⟨fun _ _ _ _ _ _ => rfl, rfl⟩

/-- Discarding the work orders of a logical tile leaves the tiles as they are (R150). -/
theorem seats_discardOrders (s : State) (hlam : lam < 256) : Seats s (s.discardOrders lam) := by
  have horder (o : WorkOrder) (v : State) : Seats v (v.discardUnplaced o.bay lam o.bits o.id) := seats_discard v o.bay o.bits o.id hlam
  have hhalves (k : Nat) (v : State) : Seats v (v.releaseHalves k) :=
    ⟨fun _ _ _ _ _ _ => releaseHalves_reg .., by rw [releaseHalves_xarray]⟩
  have hdrop := seats_each horder (s.xarray.orders.filter (fun o => o.lam = lam && o.phase ≠ .done))
    (s.setOrders (s.xarray.orders.filter (fun o => o.lam ≠ lam || o.phase = .done)))
  have hleft := seats_trans (seats_setOrders s _) hdrop
  unfold State.discardOrders
  unfold State.discardUnplaced at hleft
  exact seats_trans (seats_trans hleft (seats_each hhalves (List.range 4) _)) (seats_wake _ lam)

/-! ### A logical tile is left without a tile (R150) -/

theorem unplace_reg {source : Nat} (hlam : lam < 256) {j b : Nat} (h1 : 0x2104 ≤ j) (h2 : j < 0x3000) (hb : b < 256) :
    (s.unplace lam source cause).reg j b = ((s.setPlacement lam (s.placeEpoch lam) 0x7F).retireTile source lam cause).reg j b := by
  unfold State.unplace
  dsimp only
  rw [showBay_reg _ hb (by omega), faultDone_at, fire_low _ _ _ (by omega) hb (by omega), (seats_discardOrders _ hlam).reg j b (by omega) h2 hb (by omega)]

theorem retireTile_reg {g : Nat} {j b : Nat} (hb : b < 256) (h : j ≠ 0x2200 + g) : (s.retireTile g lam cause).reg j b = s.reg j b := by
  unfold State.retireTile
  rw [setTileState_reg _ hb (.inl h), setTile_reg']

theorem retireTile_entries (s : State) (g lam cause : Nat) :
    (s.retireTile g lam cause).reg (0x2200 + g) 1 = 2 ∧ (s.retireTile g lam cause).reg (0x2200 + g) 5 = cause :=
  ⟨setTileState_state .., setTileState_cause ..⟩

theorem retireTile_reseats (s : State) (g lam cause : Nat) : (s.retireTile g lam cause).xarray.reseats = s.xarray.reseats := by
  unfold State.retireTile
  rw [setTileState_xarray, setTile_reseats]

theorem setPlacement_place (s : State) (lam epoch pos : Nat) (hp : pos < 128) : (s.setPlacement lam epoch pos).placement lam = pos := by
  unfold State.setPlacement State.placement
  rw [reg_setReg_same]
  omega

theorem setPlacement_epoch (s : State) (lam epoch pos : Nat) (hp : pos < 128) : (s.setPlacement lam epoch pos).placeEpoch lam = epoch % 256 := by
  unfold State.setPlacement State.placeEpoch bits
  rw [reg_setReg_same]
  omega

theorem setPlacement_reg {epoch pos j b : Nat} (hb : b < 256) (h : j ≠ 0x2110 + lam / 64) : (s.setPlacement lam epoch pos).reg j b = s.reg j b := by
  unfold State.setPlacement
  rw [set_ne]

theorem placement_of (h : t.reg (0x2110 + lam / 64) (lam % 64 + 1) = s.reg (0x2110 + lam / 64) (lam % 64 + 1)) : t.placement lam = s.placement lam := by
  unfold State.placement
  rw [h]

/-- An unplaced logical tile reads 7Fh, and its tile FAILED with the cause (R150). -/
theorem unplace_entries {source : Nat} (hlam : lam < 256) (hs : source < 272) :
    (s.unplace lam source cause).reg (0x2200 + source) 1 = 2 ∧ (s.unplace lam source cause).reg (0x2200 + source) 5 = cause ∧
      (s.unplace lam source cause).placement lam = 0x7F := by
  obtain ⟨h1, h5⟩ := retireTile_entries (s.setPlacement lam (s.placeEpoch lam) 0x7F) source lam cause
  refine ⟨?_, ?_, ?_⟩
  · rw [unplace_reg hlam (by omega) (by omega) (by omega), h1]
  · rw [unplace_reg hlam (by omega) (by omega) (by omega), h5]
  · rw [placement_of (unplace_reg hlam (by omega) (by omega) (by omega)), placement_of (retireTile_reg (by omega) (by omega)),
      setPlacement_place _ _ _ _ (by omega)]

theorem unplace_reseats {source : Nat} (hlam : lam < 256) : (s.unplace lam source cause).xarray.reseats = s.xarray.reseats := by
  unfold State.unplace
  dsimp only
  rw [showBay_xarray, faultDone_xarray, fire_xarray, (seats_discardOrders _ hlam).reseats, retireTile_reseats, State.setPlacement, setReg_xarray]

/-! ### A tile fails (R145, R147) -/

theorem exec_tileFail (ht : tile < 272) (h1 : 1 ≤ cause) (h7 : cause ≤ 7) (hb : tile / 68 < s.board.bays) (hst : s.reg (0x2200 + tile) 1 ≠ 2)
    (hf : s.fenced tile = false) : exec (.tileFail tile cause) s = .next (s.tileFail tile cause) := by
  show execTileFail tile cause s = _
  unfold execTileFail
  rw [inst_ok (by simp [ht, h1, h7]), if_pos (by simp [hb, hst, hf])]

/-- The logical tile of a tile that fails has its next epoch, and its work orders are back in the queue (R146, R147). -/
def State.failing (s : State) (g lam : Nat) : State :=
  ((if (s.running lam).any (fun o => o.shim) then s.faultDone 1 8 g 0 s.sc else s).bumpEpoch lam).returnOrders lam

theorem failServing_eq (s : State) (g cause lam : Nat) : s.failServing g cause lam =
    ((s.failing g lam).setReseats (g / 68) ((s.failing g lam).reseatsOf (g / 68) ++ [⟨lam, g, cause, none⟩])).startReseat (g / 68) 70 := rfl

theorem whenFault_reg (c : Bool) (g d : Nat) {j b : Nat} (h1 : j < 27200) (hb : b < 256) (he : j < 0x1100 ∨ 0x1110 < j) :
    (if c then s.faultDone 1 8 g 0 d else s).reg j b = s.reg j b := by
  split
  · exact faultDone_at s 1 8 g 0 d
  · rfl

theorem whenFault_xarray (c : Bool) (g d : Nat) : (if c then s.faultDone 1 8 g 0 d else s).xarray = s.xarray := by
  split
  · exact faultDone_xarray ..
  · rfl

theorem failing_reg {g j b : Nat} (h1 : 0x1110 < j) (h2 : j < 27200) (hb : b < 256) (h : j ≠ 0x2110 + lam / 64) : (s.failing g lam).reg j b = s.reg j b := by
  unfold State.failing
  rw [returnOrders_reg, State.bumpEpoch, setPlacement_reg hb h, whenFault_reg _ _ _ h2 hb (by omega)]

theorem failing_reseats (s : State) (g lam : Nat) : (s.failing g lam).xarray.reseats = s.xarray.reseats := by
  unfold State.failing
  rw [returnOrders_reseats, bumpEpoch_xarray, whenFault_xarray]

theorem failing_placeEpoch (g : Nat) (hlam : lam < 256) : (s.failing g lam).placeEpoch lam = (s.placeEpoch lam + 1) % 256 := by
  have hpos (v : State) : v.placement lam < 128 := Nat.mod_lt _ (by decide)
  show State.placeEpoch (State.bumpEpoch _ lam) lam = _
  unfold State.bumpEpoch
  rw [setPlacement_epoch _ _ _ _ (hpos _)]
  unfold State.placeEpoch
  rw [whenFault_reg _ _ _ (by omega) (by omega) (by omega)]

theorem failing_tilesIn (g st : Nat) (hbay : bay < 4) (hlam : lam < 256) : (s.failing g lam).tilesIn bay st = s.tilesIn bay st :=
  tilesIn_of st (fun x hx => failing_reg (by omega) (by omega) (by omega) (by omega))

/-- A bay's only re-seat, which finds no SPARE tile, leaves its logical tile unplaced (R150). -/
theorem startReseat_none {r : Reseat} {n : Nat} (h : s.reseatsOf bay = [r]) (ht : r.target = none) (hq : s.tilesIn bay 1 = []) (hs : r.source < 272) :
    s.startReseat bay (n + 1) = ((s.setReseats bay []).unplace r.lam r.source r.cause).startReseat bay n := by
  rw [State.startReseat, h]
  dsimp only
  rw [if_neg (by rw [ht]; decide), hq]
  dsimp only
  rw [if_pos hs]

/-- The logical tile of a tile that fails waits for the lowest SPARE tile of the bay (R147, R149). -/
theorem failServing_spare {q : Nat} {qs : List Nat} (ht : tile < 272) (hlam : lam < 256) (hr : s.reseatsOf (tile / 68) = [])
    (hl : tile / 68 < s.xarray.reseats.length) (hq : s.tilesIn (tile / 68) 1 = q :: qs) :
    let t := s.failServing tile cause lam
    t.reseatsOf (tile / 68) = [⟨lam, tile, cause, some q⟩] ∧ t.fenced tile = true ∧ t.reg (0x2100 + tile / 68) 6 = 1 ∧
      t.placeEpoch lam = (s.placeEpoch lam + 1) % 256 := by
  have hl' : tile / 68 < (s.failing tile lam).xarray.reseats.length := by rw [failing_reseats]; exact hl
  have hgo : s.failServing tile cause lam = (((s.failing tile lam).setReseats (tile / 68) [⟨lam, tile, cause, none⟩]).setReseats (tile / 68)
      [⟨lam, tile, cause, some q⟩]).setReg (0x2100 + tile / 68) 6 1 := by
    rw [failServing_eq, reseatsOf_of (failing_reseats s tile lam), hr]
    exact startReseat_spare (reseatsOf_set _ hl') rfl ((failing_tilesIn tile 1 (by omega) hlam).trans hq)
  have hrs : (s.failServing tile cause lam).reseatsOf (tile / 68) = [⟨lam, tile, cause, some q⟩] := by
    rw [hgo, setReg_reseatsOf]
    exact reseatsOf_set _ (by unfold State.setReseats; dsimp only; rw [modNth_length']; exact hl')
  refine ⟨hrs, fenced_of (by rw [hrs]; exact List.mem_singleton.2 rfl) rfl, ?_, ?_⟩
  · rw [hgo, reg_setReg_same]
  · rw [← failing_placeEpoch tile hlam, hgo]
    unfold State.placeEpoch
    rw [set_ne]
    rfl

/-- The logical tile of a tile that fails in a bay without a SPARE tile is left unplaced (R150). -/
theorem failServing_unplaced (ht : tile < 272) (hlam : lam < 256) (hr : s.reseatsOf (tile / 68) = [])
    (hl : tile / 68 < s.xarray.reseats.length) (hq : s.tilesIn (tile / 68) 1 = []) :
    let t := s.failServing tile cause lam
    t.reseatsOf (tile / 68) = [] ∧ t.reg (0x2100 + tile / 68) 6 = 0 ∧ t.reg (0x2200 + tile) 1 = 2 ∧ t.reg (0x2200 + tile) 5 = cause ∧ t.placement lam = 0x7F := by
  have hl' : tile / 68 < (s.failing tile lam).xarray.reseats.length := by rw [failing_reseats]; exact hl
  obtain ⟨v, hv⟩ : ∃ v, v = ((s.failing tile lam).setReseats (tile / 68) [⟨lam, tile, cause, none⟩]).setReseats (tile / 68) [] := ⟨_, rfl⟩
  have hnone : (v.unplace lam tile cause).reseatsOf (tile / 68) = [] := by
    rw [reseatsOf_of (unplace_reseats hlam), hv]
    exact reseatsOf_set _ (by unfold State.setReseats; dsimp only; rw [modNth_length']; exact hl')
  have hgo : s.failServing tile cause lam = (v.unplace lam tile cause).setReg (0x2100 + tile / 68) 6 0 := by
    rw [failServing_eq, reseatsOf_of (failing_reseats s tile lam), hr, List.nil_append,
      startReseat_none (n := 69) (reseatsOf_set _ hl') rfl ((failing_tilesIn tile 1 (by omega) hlam).trans hq) ht, ← hv]
    exact startReseat_nil (n := 68) hnone
  obtain ⟨h1, h5, hp⟩ := unplace_entries (s := v) (cause := cause) hlam ht
  dsimp only
  rw [hgo]
  refine ⟨?_, reg_setReg_same _ _ _ _, ?_, ?_, ?_⟩
  · rw [setReg_reseatsOf]; exact hnone
  · rw [set_ne]; exact h1
  · rw [set_ne]; exact h5
  · rw [placement_of set_ne]; exact hp

/-- A SPARE tile that fails is FAILED with its cause (R149). -/
theorem failIdle_entries (ht : tile < 272) (hr : s.reseatsOf (tile / 68) = []) (hl : tile / 68 < s.xarray.reseats.length) :
    let t := s.failIdle tile cause
    t.reg (0x2200 + tile) 1 = 2 ∧ t.reg (0x2200 + tile) 2 = 0xFF ∧ t.reg (0x2200 + tile) 5 = cause := by
  obtain ⟨v, hdef⟩ : ∃ v, v = (s.setTileState tile 2 0xFF cause).faultDone 2 8 tile cause s.sc := ⟨_, rfl⟩
  have hx : v.xarray = s.xarray := by rw [hdef, faultDone_xarray, setTileState_xarray]
  have hv : v.reseatsOf (tile / 68) = [] := (reseatsOf_of (congrArg XArrayState.reseats hx) _).trans hr
  have hset : ((v.setReseats (tile / 68) []).showBay (tile / 68)).reseatsOf (tile / 68) = [] := by
    rw [showBay_reseatsOf]
    exact reseatsOf_set _ (by rw [hx]; exact hl)
  have hgo : s.failIdle tile cause = ((v.setReseats (tile / 68) []).showBay (tile / 68)).setReg (0x2100 + tile / 68) 6 0 := by
    unfold State.failIdle
    dsimp only
    rw [← hdef, hv, List.filter_nil, State.each, List.foldl_nil, hv, List.map_nil]
    exact startReseat_nil (n := 69) hset
  have hreg (b : Nat) (hb : b < 256) : (s.failIdle tile cause).reg (0x2200 + tile) b = (s.setTileState tile 2 0xFF cause).reg (0x2200 + tile) b := by
    rw [hgo, set_ne, showBay_reg _ hb (by omega)]
    show v.reg _ _ = _
    rw [hdef]
    exact faultDone_at _ _ _ _ _ _
  exact ⟨by rw [hreg 1 (by omega), setTileState_state], by rw [hreg 2 (by omega), setTileState_logical], by rw [hreg 5 (by omega), setTileState_cause]⟩

/-- The record of a fault that starts is seen by no tile. -/
theorem seats_faultStart (s : State) (c i k d : Nat) : Seats s (s.faultStart c i k d) :=
  seats_of_low (low_faultStart (by omega) (low_refl s)) (by rw [faultStart_xarray])

theorem Seats.tilesIn (h : Seats s t) (st : Nat) (hbay : bay < 4) : t.tilesIn bay st = s.tilesIn bay st :=
  tilesIn_of st (fun g hg => h.reg _ _ (by omega) (by omega) (by omega) (by omega))

theorem Seats.placeEpoch (h : Seats s t) (hlam : lam < 256) : t.placeEpoch lam = s.placeEpoch lam := by
  unfold State.placeEpoch
  rw [h.reg _ _ (by omega) (by omega) (by omega) (by omega)]

theorem tileFail_serving (ht : tile < 272) (hs : s.serves tile = some lam) :
    s.tileFail tile cause = (s.faultStart 2 tile cause s.sc).failServing tile cause lam := by
  unfold State.tileFail
  dsimp only
  rw [serves_start _ _ _ _ _ _ ht, hs]
  rfl

theorem tileFail_idle (ht : tile < 272) (hs : s.serves tile = none) :
    s.tileFail tile cause = (s.faultStart 2 tile cause s.sc).failIdle tile cause := by
  unfold State.tileFail
  dsimp only
  rw [serves_start _ _ _ _ _ _ ht, hs]
  rfl

/-- A tile that is not IN_SERVICE serves no logical tile. -/
theorem serves_none (h : s.reg (0x2200 + tile) 1 ≠ 0) : s.serves tile = none := by
  unfold State.serves
  rw [if_neg (by simp [h])]

theorem exec_tileFail_serving (ht : tile < 272) (h1 : 1 ≤ cause) (h7 : cause ≤ 7) (hb : tile / 68 < s.board.bays) (hs : s.serves tile = some lam) :
    exec (.tileFail tile cause) s = .next (s.tileFail tile cause) := by
  obtain ⟨hst, hf, -⟩ := serves_state hs
  exact exec_tileFail ht h1 h7 hb (by rw [hst]; decide) hf

/-- TILE_FAIL. -/
theorem tileFail_completes (ht : tile < 272) (h1 : 1 ≤ cause) (h7 : cause ≤ 7) (hb : tile / 68 < s.board.bays) (hr : s.reseatsOf (tile / 68) = [])
    (hl : tile / 68 < s.xarray.reseats.length) :
    (∀ lam, s.serves tile = some lam → lam < 256 →
      (∀ q qs, s.tilesIn (tile / 68) 1 = q :: qs → Completes (.tileFail tile cause) s (fun t => t.reseatsOf (tile / 68) = [⟨lam, tile, cause, some q⟩] ∧
        t.fenced tile = true ∧ t.reg (0x2100 + tile / 68) 6 = 1 ∧ t.placeEpoch lam = (s.placeEpoch lam + 1) % 256)) ∧
      (s.tilesIn (tile / 68) 1 = [] → Completes (.tileFail tile cause) s (fun t => t.reseatsOf (tile / 68) = [] ∧ t.reg (0x2100 + tile / 68) 6 = 0 ∧
        t.reg (0x2200 + tile) 1 = 2 ∧ t.reg (0x2200 + tile) 5 = cause ∧ t.placement lam = 0x7F))) ∧
    (s.reg (0x2200 + tile) 1 = 1 → Completes (.tileFail tile cause) s (fun t =>
      t.reg (0x2200 + tile) 1 = 2 ∧ t.reg (0x2200 + tile) 2 = 0xFF ∧ t.reg (0x2200 + tile) 5 = cause)) := by
  have hseat := seats_faultStart s 2 tile cause s.sc
  have hr' : (s.faultStart 2 tile cause s.sc).reseatsOf (tile / 68) = [] := (reseatsOf_of hseat.reseats _).trans hr
  have hl' : tile / 68 < (s.faultStart 2 tile cause s.sc).xarray.reseats.length := by rw [hseat.reseats]; exact hl
  have hin := hseat.tilesIn (bay := tile / 68) 1 (by omega)
  refine ⟨fun lam hs hlam => ⟨fun q qs hq => ?_, fun hq => ?_⟩, fun hst => ?_⟩
  · refine completes_of (exec_tileFail_serving ht h1 h7 hb hs) ?_
    rw [tileFail_serving ht hs, ← hseat.placeEpoch hlam]
    exact failServing_spare ht hlam hr' hl' (hin.trans hq)
  · refine completes_of (exec_tileFail_serving ht h1 h7 hb hs) ?_
    rw [tileFail_serving ht hs]
    exact failServing_unplaced ht hlam hr' hl' (hin.trans hq)
  · refine completes_of (exec_tileFail ht h1 h7 hb (by rw [hst]; decide) (fenced_nil hr)) ?_
    rw [tileFail_idle ht (serves_none (by rw [hst]; decide))]
    exact failIdle_entries ht hr' hl'

/-! ### Residue mismatches (R143, R144) -/

theorem running_mem {o : WorkOrder} (h : s.running lam = some o) : o ∈ s.xarray.orders := List.mem_of_find?_eq_some h

theorem exec_residueMismatch {o : WorkOrder} (ht : tile < 272) (hs : s.serves tile = some lam) (hr : s.running lam = some o) (ho : woOp o.bits ≤ 5) :
    exec (.residueMismatch tile) s = .next (
      if (s.tile tile).spareCells = 0 then s.tileFail tile 1
      else if o.shim then s.tileFail tile 2
      else ((((s.setTile tile { s.tile tile with spareCells := (s.tile tile).spareCells - 1 }).modOrder o.id (fun o => { o with shim := true })).faultStart
        1 tile 0 s.sc).inc64 0x3000 6 1).countE 0xA00 0) := by
  show execResidueMismatch tile s = _
  unfold execResidueMismatch
  rw [inst_ok (decide_eq_true ht), hs, Option.bind_some, hr]
  dsimp only
  rw [if_neg (by omega)]
  split
  · rfl
  · split <;> rfl

/-- A first mismatch takes a spare cell, replays the pass and is counted (R143). -/
theorem residueMismatch_shims {o : WorkOrder} (ht : tile < 272) (hs : s.serves tile = some lam) (hr : s.running lam = some o) (ho : woOp o.bits ≤ 5)
    (hc : (s.tile tile).spareCells ≠ 0) (hsh : o.shim = false) : Completes (.residueMismatch tile) s (fun t =>
      (t.tile tile).spareCells = (s.tile tile).spareCells - 1 ∧ { o with shim := true } ∈ t.xarray.orders ∧ t.reg 0x3000 6 = wrapAdd64 (s.reg 0x3000 6) 1) := by
  have hrun := exec_residueMismatch ht hs hr ho
  rw [if_neg hc, if_neg (by simp [hsh])] at hrun
  refine completes_of hrun ⟨?_, ?_, ?_⟩
  · unfold State.tile
    rw [countE_xarray, inc64_xarray, faultStart_xarray]
    exact congrArg Tile.spareCells (tile_setTile s tile _)
  · rw [countE_xarray, inc64_xarray, faultStart_xarray]
    exact modOrder_mem (s := s.setTile tile _) (f := fun o => { o with shim := true }) (running_mem hr)
  · rw [countE_at, inc64_reg_same, faultStart_at, modOrder_reg, setTile_reg']

/-! ### A re-seat ends (R147) -/

/-- The state in which tile `q` holds the logical tile of a re-seat, and its source has left service. -/
def State.reseated (s : State) (r : Reseat) (q : Nat) : State :=
  let s := if r.source < 272 then s.copyTile r.source q else s.voidBins q
  let s := (s.setTileState q 0 (r.lam % 64) 0).setPlacement r.lam (s.placeEpoch r.lam) (q % 68)
  if r.source < 272 then (s.retireTile r.source r.lam r.cause).faultDone 2 3 r.source r.cause s.sc else s.oweWeights r.lam

theorem reseatEnd_eq (s : State) (bay : Nat) (r : Reseat) (q : Nat) (rest : List Reseat) : s.reseatEnd bay r q rest =
    ((((((s.reseated r q).setReseats bay rest).inc32 0x3000 8 1).fire (0x24 + 8 * bay) q).showBay bay).startReseat bay 70) := by
  unfold State.reseatEnd State.reseated
  with_reducible rfl

theorem content_reg (r : Reseat) (q j b : Nat) : (if r.source < 272 then s.copyTile r.source q else s.voidBins q).reg j b = s.reg j b := by
  split
  · rfl
  · exact each_reg s (fun _ _ _ => rfl)

theorem content_reseats (r : Reseat) (q : Nat) : (if r.source < 272 then s.copyTile r.source q else s.voidBins q).xarray.reseats = s.xarray.reseats := by
  split
  · rfl
  · have hbin (i : Nat) (v : State) : (v.setAcc q (i / 2) (i % 2) { Acc.reset with invalid := true }).xarray.reseats = v.xarray.reseats := rfl
    exact each_same (fun v : State => v.xarray.reseats) hbin (List.range 48) s

/-- What the source's leaving changes: its own entries (R147). -/
theorem vacated_reg (r : Reseat) {j b : Nat} (h1 : 0x1110 < j) (h2 : j < 27200) (hb : b < 256) (h : r.source < 272 → j ≠ 0x2200 + r.source) :
    (if r.source < 272 then (s.retireTile r.source r.lam r.cause).faultDone 2 3 r.source r.cause s.sc else s.oweWeights r.lam).reg j b = s.reg j b := by
  split
  · next hs => rw [faultDone_at, retireTile_reg hb (h hs)]
  · rfl

theorem reseated_reg {r : Reseat} {q j b : Nat} (h1 : 0x1110 < j) (h2 : j < 27200) (hb : b < 256) (hs : r.source < 272 → j ≠ 0x2200 + r.source)
    (hq : j ≠ 0x2200 + q) (hp : j ≠ 0x2110 + r.lam / 64) : (s.reseated r q).reg j b = s.reg j b := by
  unfold State.reseated
  rw [vacated_reg r h1 h2 hb hs, setPlacement_reg hb hp, setTileState_reg _ hb (.inl hq), content_reg]

theorem reseated_target {r : Reseat} {q : Nat} (hq : q < 272) (hne : r.source ≠ q) (hlam : r.lam < 256) :
    (s.reseated r q).reg (0x2200 + q) 1 = 0 ∧ (s.reseated r q).reg (0x2200 + q) 2 = r.lam % 64 ∧ (s.reseated r q).placement r.lam = q % 68 := by
  unfold State.reseated
  refine ⟨?_, ?_, ?_⟩
  · rw [vacated_reg r (by omega) (by omega) (by omega) (by omega), setPlacement_reg (by omega) (by omega), setTileState_state]
  · rw [vacated_reg r (by omega) (by omega) (by omega) (by omega), setPlacement_reg (by omega) (by omega), setTileState_logical]
  · rw [placement_of (vacated_reg r (by omega) (by omega) (by omega) (by omega)), setPlacement_place _ _ _ _ (by omega)]

theorem reseated_source {r : Reseat} {q : Nat} (hs : r.source < 272) :
    (s.reseated r q).reg (0x2200 + r.source) 1 = 2 ∧ (s.reseated r q).reg (0x2200 + r.source) 5 = r.cause := by
  unfold State.reseated
  dsimp only
  obtain ⟨h1, h5⟩ := retireTile_entries (((if r.source < 272 then s.copyTile r.source q else s.voidBins q).setTileState q 0 (r.lam % 64) 0).setPlacement r.lam
    ((if r.source < 272 then s.copyTile r.source q else s.voidBins q).placeEpoch r.lam) (q % 68)) r.source r.lam r.cause
  rw [if_pos hs]
  exact ⟨by rw [faultDone_at, h1], by rw [faultDone_at, h5]⟩

theorem reseated_reseats (s : State) (r : Reseat) (q : Nat) : (s.reseated r q).xarray.reseats = s.xarray.reseats := by
  have hseat : (((if r.source < 272 then s.copyTile r.source q else s.voidBins q).setTileState q 0 (r.lam % 64) 0).setPlacement r.lam
      ((if r.source < 272 then s.copyTile r.source q else s.voidBins q).placeEpoch r.lam) (q % 68)).xarray.reseats = s.xarray.reseats := by
    rw [State.setPlacement, setReg_xarray, setTileState_xarray, content_reseats]
  unfold State.reseated
  dsimp only
  generalize State.setPlacement _ _ _ _ = v at hseat ⊢
  split
  · rw [faultDone_xarray, retireTile_reseats]; exact hseat
  · exact hseat

/-- After the last re-seat of a bay none is in progress, and the re-seat is counted. -/
theorem reseatEnd_last {r : Reseat} {q : Nat} (hk : bay < 4) (hl : bay < s.xarray.reseats.length) :
    (s.reseatEnd bay r q []).reseatsOf bay = [] ∧ (s.reseatEnd bay r q []).reg (0x2100 + bay) 6 = 0 ∧
      (s.reseatEnd bay r q []).reg 0x3000 8 = satAdd32 ((s.reseated r q).reg 0x3000 8) 1 ∧
      ∀ j b, 0x2104 ≤ j → j < 0x3000 → b < 256 → (s.reseatEnd bay r q []).reg j b = (s.reseated r q).reg j b := by
  have hnone : (((((s.reseated r q).setReseats bay []).inc32 0x3000 8 1).fire (0x24 + 8 * bay) q).showBay bay).reseatsOf bay = [] := by
    rw [showBay_reseatsOf, fire_reseatsOf, inc32_reseatsOf]
    exact reseatsOf_set _ (by rw [reseated_reseats]; exact hl)
  rw [reseatEnd_eq, startReseat_nil hnone]
  refine ⟨?_, reg_setReg_same _ _ _ _, ?_, fun j b h1 h2 hb => ?_⟩
  · rw [setReg_reseatsOf, hnone]
  · rw [set_ne, showBay_reg _ (by omega) (by omega), fire_low _ _ _ (by omega) (by omega) (by omega), inc32_reg_same]
    rfl
  · rw [set_ne, showBay_reg _ hb (by omega), fire_low _ _ _ (by omega) hb (by omega), inc32_reg_key _ _ (by simp only [key]; omega)]
    rfl

theorem exec_reseatComplete {r : Reseat} {q : Nat} (hk : bay < 4) (hr : s.reseatsOf bay = [r]) (hq : r.target = some q)
    (hsp : r.source < 272 → (s.tile r.source).spill = none) : exec (.reseatComplete bay) s = .next (s.reseatEnd bay r q []) := by
  show execReseatComplete bay s = _
  unfold execReseatComplete
  rw [inst_ok (decide_eq_true hk), hr]
  dsimp only
  rw [hq]
  dsimp only
  refine if_neg ?_
  simp only [Bool.and_eq_true, decide_eq_true_eq, not_and]
  intro h
  rw [hsp h]
  decide

/-- Settles O33: a mismatch shims its pass or fails the tile, a failure starts a re-seat or leaves the logical tile unplaced, and a re-seat ends on its target. -/
theorem tilesFailAndReseat : Obligations.TilesFailAndReseat := by
  intro s tile ht
  refine ⟨fun lam o hs hr ho => ⟨fun hc hsh => ?_, fun hc hb => ?_, fun hc hsh hb => ?_⟩, fun cause h1 h7 hb hrs hl => ?_,
    fun k r q hk hl hrs hq hq272 hlam hne hsp => ?_⟩
  · exact residueMismatch_shims ht hs hr ho hc hsh
  · rw [exec_residueMismatch ht hs hr ho, if_pos hc, exec_tileFail_serving ht (by omega) (by omega) hb hs]
  · rw [exec_residueMismatch ht hs hr ho, if_neg hc, if_pos hsh, exec_tileFail_serving ht (by omega) (by omega) hb hs]
  · exact tileFail_completes ht h1 h7 hb hrs hl
  · obtain ⟨hnone, h6, h8, hreg⟩ := reseatEnd_last (r := r) (q := q) hk hl
    obtain ⟨ht1, ht2, hp⟩ := reseated_target (s := s) hq272 hne hlam
    refine completes_of (exec_reseatComplete hk hrs hq hsp) ⟨hnone, h6, ?_, ?_, ?_, ?_, fun hs => ⟨?_, ?_⟩⟩
    · rw [hreg _ _ (by omega) (by omega) (by omega), ht1]
    · rw [hreg _ _ (by omega) (by omega) (by omega), ht2]
    · rw [placement_of (hreg _ _ (by omega) (by omega) (by omega)), hp]
    · rw [h8, reseated_reg (by omega) (by omega) (by omega) (by omega) (by omega) (by omega)]
    · rw [hreg _ _ (by omega) (by omega) (by omega), (reseated_source hs).1]
    · rw [hreg _ _ (by omega) (by omega) (by omega), (reseated_source hs).2]

end Sys2Proof.Machine
end

section
/-! Records leave their dump paths, wait in staging, and go out as fragments or through the beam formatter (chapters 5 and 6). -/

set_option Elab.async false

namespace Sys2Proof.Machine

variable {s t : State}

/-! ### Leaving the dump paths (R168, R169) -/

theorem leavePath_numbered (s : State) (r : DumpRec) (bad : List Nat) :
    lookup (s.leavePath r bad).xarray.recno r.stream = some ((s.recordNumber r.stream + 1) % 2 ^ 64) := by
  rw [leavePath_recno, lookup_insertKey_same]

theorem leavePath_staged (s : State) (r : DumpRec) (bad : List Nat) : (s.leavePath r bad).xarray.staged = s.xarray.staged :=
  congrArg Prod.fst (leavePath_staging s r bad)

/-- The state in which record `r` is written to staging slot `slot` under its number, and the arbiter's pointer is past its tile (R168, R169). -/
def State.stageRecord (s : State) (r : DumpRec) (slot : Nat) : State :=
  let words := modNth (fun _ => s.recordNumber r.stream) r.words 5
  let u := s.modX (fun x => { x with dumpPtr := modNth (fun _ => (r.tile + 1) % 273) x.dumpPtr r.cls,
                                     staged := x.staged ++ [⟨slot, r.stream, r.cls, words.length⟩] })
  u.store r.cls (u.reg 0x3400 4 + slot * slotBytes) (wordBytes words)

/-- A record written to staging joins the staged ones there; its number is not given out yet. -/
theorem stageRecord_staging (s : State) (r : DumpRec) (slot : Nat) :
    stagingKept (s.stageRecord r slot) = (s.xarray.staged ++ [⟨slot, r.stream, r.cls, r.words.length⟩], s.xarray.recno) := by
  unfold State.stageRecord
  dsimp only
  rw [modNth_length', stagingKept_of ((fr_store (m := 558363) (within_refl _) (fr_refl _)).same .xarray (by decide))]
  rfl

theorem stageRecord_recordNumber (s : State) (r : DumpRec) (slot k : Nat) : (s.stageRecord r slot).recordNumber k = s.recordNumber k := by
  have hrecno : (s.stageRecord r slot).xarray.recno = s.xarray.recno := congrArg Prod.snd (stageRecord_staging s r slot)
  unfold State.recordNumber
  rw [hrecno]

theorem exec_dumpRecordStaged {r : DumpRec} (hr : s.nextDump = some r) (bad : List Nat) :
    (s.discardsDump r = true → exec (.dumpRecordStaged bad) s = .next ((s.leavePath r bad).inc64 0x3400 0x0D 1)) ∧
    (∀ slot, s.discardsDump r = false → s.freeSlot = some slot → exec (.dumpRecordStaged bad) s = .next ((s.stageRecord r slot).leavePath r bad)) ∧
    (s.discardsDump r = false → s.freeSlot = none → exec (.dumpRecordStaged bad) s = .next s) := by
  have hx : exec (.dumpRecordStaged bad) s = execDumpRecordStaged bad s := rfl
  rw [hx]
  unfold execDumpRecordStaged
  rw [hr]
  refine ⟨fun hd => if_pos hd, fun slot hd hslot => ?_, fun hd hslot => ?_⟩
  · rw [hslot]
    exact if_neg (ne_true_of_eq_false hd)
  · rw [hslot]
    exact if_neg (ne_true_of_eq_false hd)

/-! ### What a read of a staged record leaves -/

theorem readStaged_xarray (s : State) (r : StagedRec) : (s.readStaged r).xarray = s.xarray := readRange_xarray ..

theorem readStaged_sheaf (s : State) (r : StagedRec) : (s.readStaged r).sheaf = s.sheaf :=
  (fr_readStaged (m := 558879) (within_refl _) (fr_refl s)).same .sheaf (by decide)

/-- The entries below those of DRAM read as before. -/
theorem readStaged_reg (s : State) (r : StagedRec) {j b : Nat} (hj : 0x1110 < j ∧ j < 0x5800) (hb : b < 256) : (s.readStaged r).reg j b = s.reg j b :=
  Low.at (L := 22528) (low_readStaged (by omega) (low_refl s)) hj.2 hb (.inr hj.1)

/-- The value of an entry at an SC is that of its armed, past and live values (R28). -/
theorem regAt_of {j b : Nat} (ha : t.dict.armed = s.dict.armed) (hp : t.dict.past = s.dict.past) (hr : t.reg j b = s.reg j b) (sc : Nat) :
    t.regAt j b sc = s.regAt j b sc := by
  unfold State.regAt State.otherAt
  rw [ha, hp, hr]

theorem readStaged_regAt (s : State) (r : StagedRec) {j b : Nat} (hj : 0x1110 < j ∧ j < 0x5800) (hb : b < 256) (sc : Nat) :
    (s.readStaged r).regAt j b sc = s.regAt j b sc := by
  have hfr : Fr 558879 s (s.readStaged r) := fr_readStaged (within_refl _) (fr_refl s)
  obtain ⟨-, harmed⟩ := hfr.same .staged (by decide)
  obtain ⟨hpast, -⟩ := hfr.same .epochs (by decide)
  exact regAt_of harmed hpast (readStaged_reg s r hj hb) sc

theorem readStaged_recordSc (s : State) (r : StagedRec) (ws : List Nat) : (s.readStaged r).recordSc ws = s.recordSc ws := by
  unfold State.recordSc State.sc
  rw [(fr_readStaged (m := 558879) (within_refl _) (fr_refl s)).same .time (by decide)]

theorem readStaged_formFragments (s : State) (r : StagedRec) (k : Nat) (ws : List Nat) :
    (s.readStaged r).formFragments k ws = s.formFragments k ws := by
  unfold State.formFragments State.isTriangle
  rw [readStaged_reg s r (by omega) (by omega)]

/-! ### Fragments (R169, R188) -/

theorem stream_setStream (s : State) (k : Nat) (x : OutStream) : (s.setStream k x).stream k = x := by
  unfold State.stream
  rw [setStream_sheaf, lookup_insertKey_same]
  rfl

theorem sendFragments_stream (s : State) (k slot : Nat) (ws : List Nat) :
    (s.sendFragments k slot ws).stream k = { s.stream k with ready := s.formFragments k ws, slot := some (slot, (s.formFragments k ws).length) } :=
  stream_setStream ..

theorem streamFree_iff {k : Nat} : s.streamFree k = true ↔ (s.stream k).ready = [] := List.isEmpty_iff

/-- A record whose turn is to be discarded frees its slot, and is counted (R79, R169). -/
theorem discardStaged_freed (s : State) (r : StagedRec) :
    ((s.freeStaged r).inc64 0x3400 0x0D 1).xarray.staged = s.xarray.staged.filter (fun e => e.slot ≠ r.slot) ∧
    ((s.freeStaged r).inc64 0x3400 0x0D 1).reg 0x3400 0x0D = wrapAdd64 (s.reg 0x3400 0x0D) 1 :=
  ⟨freeStaged_staged s r, inc64_reg_same ..⟩

section Turn

variable {k : Nat} {r : StagedRec}

theorem exec_recordFragmentsSend (hk : k < 256) (hreg : s.registrationStream k = false) (ho : s.oldestStaged k = some r) :
    (s.turn k = .discard → exec (.recordFragmentsSend k) s = .next ((s.freeStaged r).inc64 0x3400 0x0D 1)) ∧
    (s.turn k = .wait → exec (.recordFragmentsSend k) s = .next s) ∧
    (s.turn k = .send → exec (.recordFragmentsSend k) s =
      if (s.boundGroup k (s.recordSc (s.stagedWords r))).isSome || !s.streamFree k then .next s
      else .next ((s.readStaged r).sendFragments k r.slot (s.stagedWords r))) := by
  have hx : exec (.recordFragmentsSend k) s = execRecordFragmentsSend k s := rfl
  rw [hx]
  unfold execRecordFragmentsSend
  rw [inst_ok (decide_eq_true hk), if_neg (ne_true_of_eq_false hreg), ho]
  refine ⟨fun ht => ?_, fun ht => ?_, fun ht => ?_⟩
  all_goals
    dsimp only
    rw [ht]

theorem exec_formatRecord {g mode : Nat} (hk : k < 256) (hreg : s.registrationStream k = false) (ho : s.oldestStaged k = some r)
    (hg : s.boundGroup k (s.recordSc (s.stagedWords r)) = some (g, mode)) :
    (s.turn k = .discard → exec (.formatRecord k) s = .next ((s.freeStaged r).inc64 0x3400 0x0D 1)) ∧
    (s.turn k = .wait → exec (.formatRecord k) s = .next s) ∧
    (s.turn k = .send → exec (.formatRecord k) s =
      if s.streamFree k then .next (((s.readStaged r).formatRecord g mode k (s.stagedWords r)).freeStaged r) else .next s) := by
  have hx : exec (.formatRecord k) s = execFormatRecord k s := rfl
  rw [hx]
  unfold execFormatRecord
  rw [inst_ok (decide_eq_true hk), if_neg (ne_true_of_eq_false hreg), ho]
  dsimp only
  rw [hg]
  refine ⟨fun ht => ?_, fun ht => ?_, fun ht => ?_⟩
  all_goals rw [ht]

/-- A stream that sends has a group (R79). -/
theorem group_of_turn_send (h : s.turn k = .send) : s.reg (0x2700 + k) 1 ≠ 0xFF := by
  intro hff
  unfold State.turn at h
  rw [if_pos hff] at h
  cases h

/-- There are 16 beam groups (R198). -/
theorem boundGroup_lt {sc g mode : Nat} (h : s.boundGroup k sc = some (g, mode)) : g < 16 := by
  unfold State.boundGroup at h
  obtain ⟨g', hfind, he⟩ := Option.map_eq_some_iff.1 h
  cases he
  exact List.mem_range.1 (List.mem_of_find?_eq_some hfind)

end Turn

/-! ### What packets and power sums leave (R200 to R205) -/

/-- What the formatter's packets and sums leave: the staged records, and entry 0Ah of every index, which for a group counts its formatted records (R211). -/
def formatKept (s : State) : List StagedRec × (Nat → Nat) := (s.xarray.staged, fun j => s.reg j 0x0A)

theorem formatKept_setReg (s : State) {i a : Nat} (v : Nat) (ha : a % 256 ≠ 0x0A) : formatKept (s.setReg i a v) = formatKept s :=
  Prod.ext rfl (funext fun _ => reg_setReg_key s v (by simp only [key]; omega))

theorem formatKept_inc32 (s : State) (i a n : Nat) (ha : a % 256 ≠ 0x0A) : formatKept (s.inc32 i a n) = formatKept s := formatKept_setReg s _ ha

theorem formatKept_inc64 (s : State) (i a n : Nat) (ha : a % 256 ≠ 0x0A) : formatKept (s.inc64 i a n) = formatKept s := formatKept_setReg s _ ha

theorem streamPut_formatKept (s : State) (k : Nat) (p : OutPacket) : formatKept (s.streamPut k p) = formatKept s := by
  unfold State.streamPut
  split
  · rfl
  · exact formatKept_setReg _ _ (by decide)

theorem winPush_formatKept (s : State) (c : Nat) (v : WinVal) : formatKept (s.winPush c v) = formatKept s := by
  unfold State.winPush
  split
  · exact formatKept_inc32 _ _ _ _ (by decide)
  · split
    · exact formatKept_inc32 _ _ _ _ (by decide)
    · rfl

theorem feedMonitors_formatKept (s : State) (g : Nat) (p : PowerSum) (vals : List Nat) : formatKept (s.feedMonitors g p vals) = formatKept s :=
  each_same formatKept (fun _ t => each_same formatKept (fun _ u => winPush_formatKept u ..) _ t) _ s

theorem closePower_formatKept (s : State) (g : Nat) (p : PowerSum) (isPartial : Bool) : formatKept (s.closePower g p isPartial) = formatKept s := by
  have hcount (u : State) : formatKept (if isPartial = true then u.inc32 0x3800 7 1 else u) = formatKept u := by
    split
    · exact formatKept_inc32 _ _ _ _ (by decide)
    · rfl
  have hput (u : State) (c : Prop) [Decidable c] (k : State → Nat) (pk : Nat → State → OutPacket) :
      formatKept (if c then u.each (List.range 4) (fun q v => v.streamPut (k v) (pk q v)) else u) = formatKept u := by
    split
    · exact each_same formatKept (fun _ v => streamPut_formatKept v ..) _ u
    · rfl
  unfold State.closePower
  exact (feedMonitors_formatKept ..).trans ((hput ..).trans (hcount _))

theorem closeAll_formatKept (s : State) (g : Nat) : formatKept (s.closeAll g) = formatKept s :=
  each_same formatKept (fun _ u => closePower_formatKept u ..) _ s

theorem contribute_formatKept (s : State) (g sc : Nat) (ws : List Nat) : formatKept (s.contribute g sc ws) = formatKept s := by
  unfold State.contribute
  dsimp only
  split
  · split
    · exact closePower_formatKept ..
    · rfl
  · rfl

theorem openPower_formatKept (s : State) (g sc : Nat) (ws : List Nat) : formatKept (s.openPower g sc ws) = formatKept s :=
  each_same formatKept (fun _ u => closePower_formatKept u ..) _ s

theorem formatPower_formatKept (s : State) (g sc : Nat) (ws : List Nat) : formatKept (s.formatPower g sc ws) = formatKept s := by
  have hformed : formatKept (s.inc64 0x3800 5 1) = formatKept s := formatKept_inc64 _ _ _ _ (by decide)
  unfold State.formatPower
  dsimp only
  split
  · exact closeAll_formatKept ..
  split
  · exact hformed
  split
  · exact (contribute_formatKept ..).trans hformed
  split
  · exact (contribute_formatKept ..).trans ((openPower_formatKept ..).trans hformed)
  · exact formatKept_inc32 _ _ _ _ (by decide)

theorem formatVoltage_formatKept (s : State) (g k sc : Nat) (ws : List Nat) : formatKept (s.formatVoltage g k sc ws) = formatKept s := by
  unfold State.formatVoltage
  dsimp only
  rw [formatKept_inc64 _ _ _ _ (by decide), formatKept_inc64 _ _ _ _ (by decide), streamPut_formatKept, streamPut_formatKept]

/-! ### Voltage packets and late records -/

theorem streamPut_ready {k : Nat} (h : s.reg (0x2700 + k) 1 ≠ 0xFF) (p : OutPacket) : ((s.streamPut k p).stream k).ready = (s.stream k).ready ++ [p] := by
  unfold State.streamPut
  rw [if_neg h, stream_setStream]

/-- A record of a voltage mode is two packets at its stream (R201). -/
theorem formatVoltage_ready {k : Nat} (h : s.reg (0x2700 + k) 1 ≠ 0xFF) (hr : (s.stream k).ready = []) (g sc : Nat) (ws : List Nat) :
    ((s.formatVoltage g k sc ws).stream k).ready =
      [(voltagePacket g (s.regAt (0x3810 + g) 6 sc) (s.reg 0x2800 5) 0 ws).1, (voltagePacket g (s.regAt (0x3810 + g) 6 sc) (s.reg 0x2800 5) 1 ws).1] := by
  generalize hp : voltagePacket g (s.regAt (0x3810 + g) 6 sc) (s.reg 0x2800 5) 0 ws = p
  generalize hq : voltagePacket g (s.regAt (0x3810 + g) 6 sc) (s.reg 0x2800 5) 1 ws = q
  have hgroup : (s.streamPut k p.1).reg (0x2700 + k) 1 ≠ 0xFF := by
    rwa [streamPut_reg' _ _ _ (by simp only [key]; omega)]
  calc ((s.formatVoltage g k sc ws).stream k).ready
      = (((s.streamPut k p.1).streamPut k q.1).stream k).ready := by
        subst hp hq
        rfl
    _ = [p.1, q.1] := by
        rw [streamPut_ready hgroup, streamPut_ready h, hr]
        rfl

/-- Whether a record is late depends on the sums of its group and the channels it takes (R202). -/
theorem lateRecord_of {g sc : Nat} (hx : t.xarray = s.xarray) (h8 : t.regAt (0x3810 + g) 8 sc = s.regAt (0x3810 + g) 8 sc)
    (h9 : t.regAt (0x3810 + g) 9 sc = s.regAt (0x3810 + g) 9 sc) (ws : List Nat) : t.lateRecord g sc ws = s.lateRecord g sc ws := by
  unfold State.lateRecord State.opensSum State.openSums
  rw [hx, h8, h9]

/-- A late record is counted as discarded, and changes no sum (R202). -/
theorem formatPower_late {g sc : Nat} {ws : List Nat} (h : s.lateRecord g sc ws = true) : s.formatPower g sc ws = s.inc32 0x3800 8 1 := by
  unfold State.lateRecord at h
  simp only [Bool.and_eq_true, Bool.not_eq_true', decide_eq_true_eq] at h
  obtain ⟨⟨⟨⟨hvalid, hlo⟩, hhi⟩, hopen⟩, hnew⟩ := h
  unfold State.formatPower
  dsimp only
  rw [if_neg (ne_true_of_eq_false hvalid), if_neg (by simp [hlo, hhi]), if_neg (ne_true_of_eq_false hopen), if_neg (ne_true_of_eq_false hnew)]

/-! ### The formatter's action on a record (R198, R211) -/

section Format

variable {g mode k : Nat} {ws : List Nat}

/-- The formatter takes a record: one that is INVALID, or full and of a BEAM work order (R198). -/
def takesRecord (ws : List Nat) : Prop := recInvalid ws = true ∨ (bitAt (recWord ws 0) 5 = false ∧ isBeam (bits (recWord ws 0) 15 12) = true)

theorem formatRecord_off (h : s.reg 0x3800 2 ≠ stOn) : s.formatRecord g mode k ws = s.inc32 0x3800 8 1 := by
  unfold State.formatRecord
  exact if_pos (by simp [h])

/-- The state in which a record counts as formatted, unless it is late in mode POWER (R211). -/
def State.formatCounted (s : State) (g mode sc : Nat) (ws : List Nat) : State :=
  if mode = 2 && s.lateRecord g sc ws then s else s.inc64 (0x3810 + g) 0x0A 1

/-- The packets of the voltage modes (R200). -/
def State.formatVoltages (s : State) (g mode k sc : Nat) (ws : List Nat) : State :=
  if mode = 1 || mode = 3 then s.formatVoltage g k sc ws else s

/-- The sums of the power modes (R202). -/
def State.formatPowers (s : State) (g mode sc : Nat) (ws : List Nat) : State :=
  if mode = 2 || mode = 3 then s.formatPower g sc ws else s

theorem formatRecord_on (hon : s.reg 0x3800 2 = stOn) (hw : takesRecord ws) : s.formatRecord g mode k ws =
    (((s.formatCounted g mode (s.recordSc ws) ws).formatVoltages g mode k (s.recordSc ws) ws).formatPowers g mode (s.recordSc ws) ws) := by
  unfold State.formatRecord
  refine if_neg ?_
  obtain hinv | ⟨hfull, hbeam⟩ := hw
  · simp [hon, hinv]
  · simp [hon, hfull, hbeam]

theorem formatVoltages_formatKept (s : State) (g mode k sc : Nat) (ws : List Nat) : formatKept (s.formatVoltages g mode k sc ws) = formatKept s := by
  unfold State.formatVoltages
  split
  · exact formatVoltage_formatKept ..
  · rfl

theorem formatPowers_formatKept (s : State) (g mode sc : Nat) (ws : List Nat) : formatKept (s.formatPowers g mode sc ws) = formatKept s := by
  unfold State.formatPowers
  split
  · exact formatPower_formatKept ..
  · rfl

theorem formatRecord_formatKept (hon : s.reg 0x3800 2 = stOn) (hw : takesRecord ws) :
    formatKept (s.formatRecord g mode k ws) = formatKept (s.formatCounted g mode (s.recordSc ws) ws) := by
  rw [formatRecord_on hon hw, formatPowers_formatKept, formatVoltages_formatKept]

theorem formatCounted_staged (s : State) (g mode sc : Nat) (ws : List Nat) : (s.formatCounted g mode sc ws).xarray.staged = s.xarray.staged := by
  unfold State.formatCounted
  split <;> rfl

theorem formatCounted_yes {sc : Nat} (h : mode ≠ 2 ∨ s.lateRecord g sc ws = false) : s.formatCounted g mode sc ws = s.inc64 (0x3810 + g) 0x0A 1 := by
  refine if_neg ?_
  obtain h | h := h <;> simp [h]

theorem formatCounted_late {sc : Nat} (h : s.lateRecord g sc ws = true) : s.formatCounted g 2 sc ws = s := if_pos (by simp [h])

/-- Formatting takes no record from staging. -/
theorem formatRecord_staged (hon : s.reg 0x3800 2 = stOn) (hw : takesRecord ws) : (s.formatRecord g mode k ws).xarray.staged = s.xarray.staged :=
  (congrArg Prod.fst (formatRecord_formatKept hon hw)).trans (formatCounted_staged ..)

/-- A record that is not late in mode POWER counts as formatted by its group (R211). -/
theorem formatRecord_counts (hon : s.reg 0x3800 2 = stOn) (hw : takesRecord ws) (h : mode ≠ 2 ∨ s.lateRecord g (s.recordSc ws) ws = false) :
    (s.formatRecord g mode k ws).reg (0x3810 + g) 0x0A = wrapAdd64 (s.reg (0x3810 + g) 0x0A) 1 := by
  refine (congrFun (congrArg Prod.snd (formatRecord_formatKept hon hw)) _).trans ?_
  rw [formatCounted_yes h]
  exact inc64_reg_same ..

/-- A late record in mode POWER is only counted as discarded (R202, R211). -/
theorem formatRecord_late (hon : s.reg 0x3800 2 = stOn) (hw : takesRecord ws) (h : s.lateRecord g (s.recordSc ws) ws = true) :
    s.formatRecord g 2 k ws = s.inc32 0x3800 8 1 := by
  rw [formatRecord_on hon hw, formatCounted_late h]
  exact formatPower_late h

/-- A record in mode VOLTAGE is counted, and only its voltage packets are made (R198, R200). -/
theorem formatRecord_voltage (hon : s.reg 0x3800 2 = stOn) (hw : takesRecord ws) :
    s.formatRecord g 1 k ws = (s.inc64 (0x3810 + g) 0x0A 1).formatVoltage g k (s.recordSc ws) ws := by
  rw [formatRecord_on hon hw, formatCounted_yes (.inl (by decide))]
  rfl

theorem inc64_regAt (s : State) {i a j b : Nat} (n sc : Nat) (h : key j b ≠ key i a) : (s.inc64 i a n).regAt j b sc = s.regAt j b sc :=
  regAt_of (s := s) (t := s.inc64 i a n) rfl rfl (inc64_reg_key _ _ h) sc

theorem formatRecord_voltageCount (hon : s.reg 0x3800 2 = stOn) (hw : takesRecord ws) (hk : k < 256) :
    (s.formatRecord g 1 k ws).reg 0x3800 4 = wrapAdd64 (s.reg 0x3800 4) 1 := by
  rw [formatRecord_voltage hon hw, formatVoltage_count _ _ _ _ _ hk, inc64_reg_key _ _ (by simp only [key]; omega)]

/-- In mode VOLTAGE the packets of a record are those of R201, at the scale of its group. -/
theorem formatRecord_voltageReady (hon : s.reg 0x3800 2 = stOn) (hw : takesRecord ws) (hgroup : s.reg (0x2700 + k) 1 ≠ 0xFF)
    (hr : (s.stream k).ready = []) : ((s.formatRecord g 1 k ws).stream k).ready =
      [(voltagePacket g (s.regAt (0x3810 + g) 6 (s.recordSc ws)) (s.reg 0x2800 5) 0 ws).1,
       (voltagePacket g (s.regAt (0x3810 + g) 6 (s.recordSc ws)) (s.reg 0x2800 5) 1 ws).1] := by
  have hkept : (s.inc64 (0x3810 + g) 0x0A 1).reg (0x2700 + k) 1 ≠ 0xFF := by
    rwa [inc64_reg_key _ _ (by simp only [key]; omega)]
  rw [formatRecord_voltage hon hw, formatVoltage_ready hkept hr, inc64_regAt _ _ _ (by simp only [key]; omega),
    inc64_reg_key _ _ (by simp only [key]; omega)]

end Format

/-! ### FORMAT_RECORD on the oldest record of a bound stream -/

section Bound

variable {k g mode : Nat} {r : StagedRec} {ws : List Nat}

/-- The outcome of the formatter for the oldest staged record `r`: read, formatted, and its slot freed (R198). -/
def State.formatted (s : State) (r : StagedRec) (g mode k : Nat) (ws : List Nat) : State :=
  ((s.readStaged r).formatRecord g mode k ws).freeStaged r

theorem formatted_reg (s : State) (r : StagedRec) (g mode k : Nat) (ws : List Nat) (j b : Nat) :
    (s.formatted r g mode k ws).reg j b = ((s.readStaged r).formatRecord g mode k ws).reg j b := rfl

/-- A formatter that is not ON discards the record, and counts it (R198). -/
theorem formatted_off (h : s.reg 0x3800 2 ≠ stOn) : let t := s.formatted r g mode k ws
    t.xarray.staged = s.xarray.staged.filter (fun e => e.slot ≠ r.slot) ∧ t.reg 0x3800 8 = satAdd32 (s.reg 0x3800 8) 1 ∧ t.sheaf = s.sheaf := by
  have hoff : (s.readStaged r).reg 0x3800 2 ≠ stOn := by
    rwa [readStaged_reg s r (by omega) (by omega)]
  unfold State.formatted
  rw [formatRecord_off hoff]
  refine ⟨?_, ?_, readStaged_sheaf s r⟩
  · rw [freeStaged_staged, inc32_xarray, readStaged_xarray]
  · rw [freeStaged_reg, inc32_reg_same, readStaged_reg s r (by omega) (by omega)]

theorem readStaged_late (hg : g < 16) (sc : Nat) : (s.readStaged r).lateRecord g sc ws = s.lateRecord g sc ws :=
  lateRecord_of (readStaged_xarray s r) (readStaged_regAt s r (by omega) (by omega) sc) (readStaged_regAt s r (by omega) (by omega) sc) ws

/-- A formatter that is ON frees the record's slot, and counts the record as formatted or late; in mode VOLTAGE its packets wait at the stream. -/
theorem formatted_on (hk : k < 256) (hg : g < 16) (hgroup : s.reg (0x2700 + k) 1 ≠ 0xFF) (hr : (s.stream k).ready = []) (hon : s.reg 0x3800 2 = stOn)
    (hw : takesRecord ws) : let t := s.formatted r g mode k ws
    t.xarray.staged = s.xarray.staged.filter (fun e => e.slot ≠ r.slot) ∧
    (mode ≠ 2 ∨ s.lateRecord g (s.recordSc ws) ws = false → t.reg (0x3810 + g) 0x0A = wrapAdd64 (s.reg (0x3810 + g) 0x0A) 1) ∧
    (mode = 2 → s.lateRecord g (s.recordSc ws) ws = true →
      t.reg (0x3810 + g) 0x0A = s.reg (0x3810 + g) 0x0A ∧ t.reg 0x3800 8 = satAdd32 (s.reg 0x3800 8) 1) ∧
    (mode = 1 → t.reg 0x3800 4 = wrapAdd64 (s.reg 0x3800 4) 1 ∧ (t.stream k).ready =
      [(voltagePacket g (s.regAt (0x3810 + g) 6 (s.recordSc ws)) (s.reg 0x2800 5) 0 ws).1,
       (voltagePacket g (s.regAt (0x3810 + g) 6 (s.recordSc ws)) (s.reg 0x2800 5) 1 ws).1]) := by
  have hreg {j b : Nat} (hj : 0x1110 < j ∧ j < 0x5800) (hb : b < 256) : (s.readStaged r).reg j b = s.reg j b := readStaged_reg s r hj hb
  have hon' : (s.readStaged r).reg 0x3800 2 = stOn := by rwa [hreg (by omega) (by omega)]
  have hsc := readStaged_recordSc s r ws
  have hlate := readStaged_late (s := s) (r := r) (ws := ws) hg (s.recordSc ws)
  refine ⟨?_, fun h => ?_, fun hm h => ⟨?_, ?_⟩, fun hm => ⟨?_, ?_⟩⟩
  · exact congrArg (List.filter fun e => e.slot ≠ r.slot) ((formatRecord_staged hon' hw).trans (congrArg XArrayState.staged (readStaged_xarray s r)))
  · rw [formatted_reg, formatRecord_counts hon' hw (by rwa [hsc, hlate]), hreg (by omega) (by omega)]
  · subst hm
    rw [formatted_reg, formatRecord_late hon' hw (by rwa [hsc, hlate]), inc32_reg_key _ _ (by simp only [key]; omega), hreg (by omega) (by omega)]
  · subst hm
    rw [formatted_reg, formatRecord_late hon' hw (by rwa [hsc, hlate]), inc32_reg_same, hreg (by omega) (by omega)]
  · subst hm
    rw [formatted_reg, formatRecord_voltageCount hon' hw hk, hreg (by omega) (by omega)]
  · subst hm
    refine (formatRecord_voltageReady hon' hw ?_ ?_).trans ?_
    · rwa [hreg (by omega) (by omega)]
    · rwa [stream_of_sheaf (readStaged_sheaf s r)]
    · rw [hsc, readStaged_regAt s r (by omega) (by omega), hreg (by omega) (by omega)]

end Bound

/-- Settles O34: a chosen record is discarded, staged or waits; the oldest staged record of a stream is discarded, waits, or leaves as its fragments
or through the formatter. -/
theorem recordsAreStagedAndSent : Obligations.RecordsAreStagedAndSent := by
  intro s
  refine ⟨fun bad r hr => ?_, fun k r hk hreg ho => ?_⟩
  · obtain ⟨hdiscard, hstage, hfull⟩ := exec_dumpRecordStaged hr bad
    refine ⟨fun hd => ?_, fun slot hd hslot => ?_, hfull⟩
    · refine completes_of (hdiscard hd) ⟨leavePath_staged s r bad, leavePath_numbered s r bad, ?_⟩
      rw [inc64_reg_same, leavePath_0D]
    · refine completes_of (hstage slot hd hslot) ⟨?_, ?_⟩
      · rw [leavePath_staged]
        exact congrArg Prod.fst (stageRecord_staging s r slot)
      · exact (leavePath_numbered ..).trans (by rw [stageRecord_recordNumber])
  · obtain ⟨hdiscard, hwait, hsend⟩ := exec_recordFragmentsSend hk hreg ho
    refine ⟨fun ht => ?_, hwait, fun ht hb hq => ?_, fun ht hb hq => ?_, fun g mode hb => ?_⟩
    · exact completes_of (hdiscard ht) (discardStaged_freed s r)
    · have hrun := hsend ht
      rw [if_neg (by simp [hb, streamFree_iff.2 hq])] at hrun
      refine completes_of hrun ⟨?_, ?_, ?_⟩
      · rw [sendFragments_xarray, readStaged_xarray]
      · rw [sendFragments_stream, readStaged_formFragments]
        rfl
      · rw [sendFragments_stream]
    · exact (hsend ht).trans (if_pos (by simp [hb, mt streamFree_iff.1 hq]))
    · obtain ⟨hdiscard, hwait, hsend⟩ := exec_formatRecord hk hreg ho hb
      have hrun (ht : s.turn k = .send) (hq : (s.stream k).ready = []) : exec (.formatRecord k) s = .next (s.formatted r g mode k (s.stagedWords r)) :=
        (hsend ht).trans (if_pos (streamFree_iff.2 hq))
      refine ⟨fun ht => ?_, hwait, fun ht hq => ?_, fun ht hq hoff => ?_, fun ht hq hon hw => ?_⟩
      · exact completes_of (hdiscard ht) (discardStaged_freed s r)
      · exact (hsend ht).trans (if_neg (mt streamFree_iff.1 hq))
      · exact completes_of (hrun ht hq) (formatted_off hoff)
      · exact completes_of (hrun ht hq) (formatted_on hk (boundGroup_lt hb) (group_of_turn_send ht) hq hon hw)

end Sys2Proof.Machine
end

section
/-! Winnow: a service of one channel, the comparator of a monitor slot, and the packets of a scaler's group (chapter 6, R206, R207; chapter 10,
R313 to R317, R322 to R326). -/

set_option Elab.async false

namespace Sys2Proof.Machine

variable {s t : State}

/-! ### What the filters read (R315 to R317, R320)

Pages 4801h and 4810h up hold all that a filter and its delay are made of, so no counter on a lower page touches them. -/

theorem sreg_of {w j b : Nat} (h : t.reg j b = s.reg j b) : t.sreg w j b = s.sreg w j b := congrArg (toSigned w) h

theorem coeff_of (h : ∀ m, t.reg 0x4801 m = s.reg 0x4801 m) (long : Bool) : t.coeff long = s.coeff long :=
  funext fun _ => sreg_of (h _)

theorem stagesPush_of (h : ∀ m, t.reg 0x4801 m = s.reg 0x4801 m) (longs i : Nat) (xs : List HalfStage) (v : Nat × Bool) :
    t.stagesPush longs i xs v = s.stagesPush longs i xs v := by
  induction xs generalizing i v with
  | nil => rfl
  | cons x xs ih =>
    unfold State.stagesPush
    simp only [coeff_of h, ih]

theorem winCarry_of (h : ∀ j m, 0x4800 < j → t.reg j m = s.reg j m) (c : Nat) (x : WinChannel) (v : WinVal) :
    t.winCarry c x v = s.winCarry c x v := by
  unfold State.winCarry
  simp only [stagesPush_of fun m => h 0x4801 m (by omega), h (0x4810 + c) _ (by omega)]

theorem delayX2_of (h : ∀ j m, 0x4800 < j → t.reg j m = s.reg j m) (c : Nat) : t.delayX2 c = s.delayX2 c := by
  unfold State.delayX2
  simp only [h (0x4810 + c) _ (by omega)]

/-- An entry above page 4800h reads as before a write to a lower page, whatever its sub-index. -/
theorem setReg_reg_above {i a v j m : Nat} (hi : i ≤ 0x4800) (ha : a < 256) (hj : 0x4800 < j) : (s.setReg i a v).reg j m = s.reg j m :=
  reg_setReg_key _ _ (by simp only [key]; omega)

/-! ### One service (R313, R314) -/

/-- The engine cycle is counted, and the round number with it. -/
def State.nextCycle (s : State) : State :=
  ({ s with winnow := { s.winnow with cycle := s.winnow.cycle + 1 } }).setReg 0x4800 3 ((s.winnow.cycle + 1) / 64)

/-- Channel `c` is served for its user. -/
def State.serveChannel (s : State) (c : Nat) : State :=
  if s.winUser c < 64 then State.repeatN (fun s => s.winStep c) (min 64 (s.win c).queue.length) s
  else if 0x100 ≤ s.winUser c && s.winUser c < 0x108 then s.scalerService (s.winUser c - 0x100) else s

theorem nextCycle_reg {j m : Nat} (hj : 0x4800 < j) : s.nextCycle.reg j m = s.reg j m := by
  unfold State.nextCycle
  rw [setReg_reg_above (by omega) (by omega) hj, with_winnow_reg]

theorem nextCycle_round : s.nextCycle.reg 0x4800 3 = (s.winnow.cycle + 1) / 64 := reg_setReg_same ..

theorem nextCycle_winUser (c : Nat) : s.nextCycle.winUser c = s.winUser c := nextCycle_reg (by omega)

theorem nextCycle_winCarry (c : Nat) (x : WinChannel) (v : WinVal) : s.nextCycle.winCarry c x v = s.winCarry c x v :=
  winCarry_of (fun _ _ => nextCycle_reg) c x v

theorem winnowServes_on (h : s.winnowOn = true) : s.winnowServes = true := by
  unfold State.winnowServes
  rw [h, Bool.true_or]

/-- After a disable the engine serves until its scalers are OFF and its round is complete (R328). -/
theorem winnowServes_disabling (hd : s.reg 0x4800 2 = stDisabling)
    (h : (∃ x, x < 8 ∧ s.reg (0x4880 + x) 2 ≠ stOff) ∨ s.winnow.cycle % 64 ≠ 0) : s.winnowServes = true := by
  unfold State.winnowServes
  simpa [hd] using Or.inr h

theorem exec_winnowService_idle (h : s.winnowServes = false) : exec .winnowService s = .next s := by
  show execWinnowService s = _
  unfold execWinnowService
  rw [h]
  rfl

theorem exec_winnowService (h : s.winnowServes = true) :
    exec .winnowService s = .next (s.nextCycle.serveChannel (s.winnow.cycle % 64)) := by
  show execWinnowService s = _
  unfold execWinnowService
  rw [h]
  rfl

/-! ### What every service keeps -/

theorem repeatN_same {γ : Type} (P : State → γ) {f : State → State} (hf : ∀ s, P (f s) = P s) (n : Nat) (s : State) :
    P (State.repeatN f n s) = P s := by
  induction n generalizing s with
  | zero => rfl
  | succ n ih => exact (ih (f s)).trans (hf s)

theorem whenB_inc32_winnow (b : Bool) (i a n : Nat) : (s.whenB b (fun s => s.inc32 i a n)).winnow = s.winnow := by
  cases b <;> rfl

theorem winStep_cycle (s : State) (c : Nat) : (s.winStep c).winnow.cycle = s.winnow.cycle := by
  unfold State.winStep
  split
  · rfl
  · dsimp only
    split
    · dsimp only
      rw [whenB_inc32_winnow]
      rfl
    · rfl

theorem groupLine_cycle (s : State) (x : Nat) (l : ScalerLine) (line : Option (List (Nat × Bool))) :
    (s.groupLine x l line).winnow.cycle = s.winnow.cycle := by
  unfold State.groupLine
  dsimp only
  split
  · rfl
  · split <;> rfl

theorem scalerService_cycle (s : State) (x : Nat) : (s.scalerService x).winnow.cycle = s.winnow.cycle := by
  unfold State.scalerService
  dsimp only
  split
  · rfl
  · split
    · rfl
    · exact groupLine_cycle ..

theorem serveChannel_cycle (s : State) (c : Nat) : (s.serveChannel c).winnow.cycle = s.winnow.cycle := by
  unfold State.serveChannel
  split
  · exact repeatN_same (fun s => s.winnow.cycle) (fun s => winStep_cycle s c) _ s
  · split
    · exact scalerService_cycle ..
    · rfl

/-- A service leaves the engine's own page as it was. -/
theorem low_serveChannel (s : State) (c : Nat) : Low 0x4810 s (s.serveChannel c) := by
  unfold State.serveChannel
  split
  · exact low_repeatN (low_refl s) fun _ => low_winStep (by omega)
  · split
    · exact low_scalerService (by omega) (low_refl s)
    · exact low_refl s

/-! ### A queued value goes through its channel (R315, R317) -/

theorem serveChannel_single {c : Nat} (hu : s.winUser c < 64) {v : WinVal} (hq : (s.win c).queue = [v]) : s.serveChannel c = s.winStep c := by
  unfold State.serveChannel
  rw [if_pos hu, hq]
  rfl

/-- A carried value leaves the channel as its filter does; an output joins those on their way and is counted. -/
theorem winStep_carried {c : Nat} {v : WinVal} {rest : List WinVal} {x : WinChannel} {r : Option WinVal} (hc : c < s.winnow.channels.length)
    (hq : (s.win c).queue = v :: rest) (hr : s.winCarry c { s.win c with queue := rest } v = (x, r)) :
    (s.winStep c).win c = x ∧ (s.winStep c).winnow.outputs = s.winnow.outputs ++ (r.map (fun y => ⟨c, y⟩)).toList ∧
    (s.winStep c).reg (0x4810 + c) 6 = if r.isSome then wrapAdd64 (s.reg (0x4810 + c) 6) 1 else s.reg (0x4810 + c) 6 := by
  have hwin : (s.modWin c fun _ => x).win c = x := win_mod _ hc
  unfold State.winStep
  rw [hq]
  dsimp only
  rw [hr]
  cases r with
  | none => exact ⟨hwin, (List.append_nil _).symm, rfl⟩
  | some y =>
    dsimp only
    rw [whenB_inc32_winnow]
    refine ⟨?_, rfl, ?_⟩
    · exact hwin
    · rw [with_winnow_reg]
      unfold State.whenB
      rw [whenp32_reg _ _ _ _ _ (by simp only [key]; omega), inc64_reg_same, modWin_reg]
      rfl

/-! ### A scaler takes the next pixels of its line (R322) -/

theorem serveChannel_scaler {c k : Nat} (hk : k < 8) (hu : s.winUser c = 0x100 + k) : s.serveChannel c = s.scalerService k := by
  unfold State.serveChannel
  rw [hu, if_neg (by omega), if_pos (by simp; omega), Nat.add_sub_cancel_left]

theorem scalerService_takes {k : Nat} {l : ScalerLine} (hl : (s.scaler k).current = some l) (ht : (s.scaler k).taken + 64 < l.pixels.length) :
    s.scalerService k = s.modScaler k (fun y => { y with taken := y.taken + 64 }) := by
  unfold State.scalerService
  dsimp only
  rw [hl]
  exact if_pos ht

/-! ### A value meets its monitor slot (R206, R207) -/

/-- The outputs on their way are those of `rest`. -/
def State.withOutputs (s : State) (rest : List WinOut) : State := { s with winnow := { s.winnow with outputs := rest } }

/-- The oldest output is taken off, and slot `j` shows its value (3900h+j.0C). -/
def State.shows (s : State) (rest : List WinOut) (j v : Nat) : State := (s.withOutputs rest).setReg (0x3900 + j) 0x0C v

theorem exec_winnowOutput {o : WinOut} {rest : List WinOut} (ho : s.winnow.outputs = o :: rest) :
    exec .winnowOutput s = .next (if s.winUser o.channel < 64 then (s.withOutputs rest).monitorValue (s.winUser o.channel) o.value
      else s.withOutputs rest) := by
  show execWinnowOutput s = _
  unfold execWinnowOutput
  rw [ho]
  rfl

theorem shows_value (rest : List WinOut) (j v : Nat) : (s.shows rest j v).reg (0x3900 + j) 0x0C = v := reg_setReg_same ..

theorem shows_reg {rest : List WinOut} {j v i b : Nat} (hb : b < 256) (h : b ≠ 0x0C) : (s.shows rest j v).reg i b = s.reg i b :=
  (set_ne (h := Or.inr h)).trans (with_winnow_reg ..)

/-- An output of a channel no monitor slot uses is dropped. -/
theorem exec_winnowOutput_unused {o : WinOut} {rest : List WinOut} (ho : s.winnow.outputs = o :: rest) (hu : 64 ≤ s.winUser o.channel) :
    exec .winnowOutput s = .next (s.withOutputs rest) := by
  rw [exec_winnowOutput ho, if_neg (by omega)]

/-- A slot that is ON and ARMED crosses where the value exceeds its threshold. -/
theorem exec_winnowOutput_armed {o : WinOut} {rest : List WinOut} {j : Nat} (ho : s.winnow.outputs = o :: rest)
    (hu : s.winUser o.channel = j) (hj : j < 64) (hon : s.reg (0x3900 + j) 2 = stOn) (ha : s.reg (0x3900 + j) 0x0A = 0) :
    exec .winnowOutput s = .next (if s.reg (0x3900 + j) 6 < o.value.v then (s.shows rest j o.value.v).crossing j o.value
      else s.shows rest j o.value.v) := value_run ho hu hj hon ha

/-- A slot that is ON and DISARMED arms where the value has fallen below its threshold by the hysteresis. -/
theorem exec_winnowOutput_disarmed {o : WinOut} {rest : List WinOut} {j : Nat} (ho : s.winnow.outputs = o :: rest)
    (hu : s.winUser o.channel = j) (hj : j < 64) (hon : s.reg (0x3900 + j) 2 = stOn) (hd : s.reg (0x3900 + j) 0x0A = 2) :
    exec .winnowOutput s = .next (if o.value.v ≤ s.reg (0x3900 + j) 6 - s.reg (0x3900 + j) 7
      then (s.shows rest j o.value.v).setReg (0x3900 + j) 0x0A 0 else s.shows rest j o.value.v) := by
  have hv : (s.withOutputs rest).monitorValue j o.value = (s.withOutputs rest).compareValue j o.value := by
    unfold State.monitorValue
    dsimp only
    rw [show (s.withOutputs rest).reg (0x3900 + j) 2 = stOn from hon]
    rfl
  have hc : (s.withOutputs rest).compareValue j o.value = if o.value.v ≤ s.reg (0x3900 + j) 6 - s.reg (0x3900 + j) 7
      then (s.shows rest j o.value.v).setReg (0x3900 + j) 0x0A 0 else s.shows rest j o.value.v := by
    unfold State.compareValue
    dsimp only
    rw [set_ne, set_ne, set_ne]
    rw [show (s.withOutputs rest).reg (0x3900 + j) 0x0A = 2 from hd]
    rfl
  rw [exec_winnowOutput ho, hu, if_pos hj, hv, hc]

theorem streamPut_dowel (s : State) (k : Nat) (p : OutPacket) : (s.streamPut k p).dowel = s.dowel := by
  unfold State.streamPut
  split <;> rfl

/-- The event of a crossing carries the trigger SC of R207. -/
theorem crossing_fired (s : State) (j : Nat) (y : WinVal) : (s.crossing j y).dowel.fired = s.dowel.fired ++
    [⟨0x40 + j, (s.reg (0x3900 + j) 3 * 256 + s.reg (0x3900 + j) 4) % 2 ^ 16,
      ofSigned 64 ((y.sc : Int) - (((s.delayX2 (s.reg (0x3900 + j) 5) + 1) / 2 * y.period : Nat) : Int)), 0, 0, s.time.tclk⟩] := by
  unfold State.crossing
  dsimp only
  generalize hu : State.setReg _ _ 0x0A _ = u
  trans u.dowel.fired
  · split
    · rfl
    · rw [streamPut_dowel]
  · rw [← hu, setReg_dowel, setHoldoff_dowel, fireAt_fired]
    rfl

theorem shows_delayX2 {rest : List WinOut} {j v : Nat} (hj : j < 64) (c : Nat) : (s.shows rest j v).delayX2 c = s.delayX2 c :=
  delayX2_of (fun _ _ h => (setReg_reg_above (by omega) (by omega) h).trans (with_winnow_reg ..)) c

/-! ### A group leaves (R324, R326) -/

/-- A scaler's oldest closed group goes to a stream as its packets, and is counted. -/
def State.sendGroup (s : State) (x k : Nat) (g : ScalerGroup) (rest : List ScalerGroup) : State :=
  ((s.modScaler x (fun y => { y with ready := rest })).each (s.groupPackets x g) (fun p s => s.streamPut k p)).inc64 (0x4880 + x) 0x0D 1

theorem exec_scalerGroupSend {x : Nat} {g : ScalerGroup} {rest : List ScalerGroup} (hx : x < 8) (hg : (s.scaler x).ready = g :: rest) :
    exec (.scalerGroupSend x) s = .next (if (s.stream (s.reg (0x4880 + x) 0x0C)).ready = [] then s.sendGroup x (s.reg (0x4880 + x) 0x0C) g rest
      else s) := by
  show execScalerGroupSend x s = _
  unfold execScalerGroupSend
  dsimp only
  rw [inst_ok (decide_eq_true hx), hg]
  dsimp only
  by_cases hr : (s.stream (s.reg (0x4880 + x) 0x0C)).ready = []
  · rw [if_pos hr, hr]
    rfl
  · rw [if_neg hr, if_pos (by simpa using hr)]

theorem streamPuts_winnow (s : State) (k : Nat) (ps : List OutPacket) : (s.each ps (fun p s => s.streamPut k p)).winnow = s.winnow :=
  each_same (fun s : State => s.winnow) (fun p s => streamPut_winnow' s k p) ps s

/-- A stream with a group takes a list of packets in order (R59). -/
theorem streamPuts_ready {k : Nat} (h : s.reg (0x2700 + k) 1 ≠ 0xFF) (ps : List OutPacket) :
    ((s.each ps (fun p s => s.streamPut k p)).stream k).ready = (s.stream k).ready ++ ps := by
  induction ps generalizing s with
  | nil => exact (List.append_nil _).symm
  | cons p ps ih =>
    have hp : (s.streamPut k p).reg (0x2700 + k) 1 ≠ 0xFF := by rwa [streamPut_reg' _ _ _ (by simp only [key]; omega)]
    calc ((s.each (p :: ps) (fun p s => s.streamPut k p)).stream k).ready
        = ((s.streamPut k p).stream k).ready ++ ps := ih hp
      _ = (s.stream k).ready ++ p :: ps := by rw [streamPut_ready h, List.append_assoc]; rfl

theorem sendGroup_left {x : Nat} (hx : x < s.winnow.scalers.length) (k : Nat) (g : ScalerGroup) (rest : List ScalerGroup) :
    ((s.sendGroup x k g rest).scaler x).ready = rest := by
  have hw : (s.sendGroup x k g rest).winnow = (s.modScaler x (fun y => { y with ready := rest })).winnow :=
    (inc64_winnow ..).trans (streamPuts_winnow ..)
  have hs : (s.sendGroup x k g rest).scaler x = (s.modScaler x (fun y => { y with ready := rest })).scaler x := by
    unfold State.scaler
    rw [hw]
  rw [hs, scaler_mod _ hx]

theorem sendGroup_counted (x k : Nat) (g : ScalerGroup) (rest : List ScalerGroup) :
    (s.sendGroup x k g rest).reg (0x4880 + x) 0x0D = wrapAdd64 (s.reg (0x4880 + x) 0x0D) 1 := by
  unfold State.sendGroup
  rw [inc64_reg_same, streamPuts_reg _ _ _ (by simp only [key]; omega), modScaler_reg]

theorem sendGroup_packets {k : Nat} (hk : s.reg (0x2700 + k) 1 ≠ 0xFF) (hr : (s.stream k).ready = []) (x : Nat) (g : ScalerGroup)
    (rest : List ScalerGroup) : ((s.sendGroup x k g rest).stream k).ready = s.groupPackets x g := by
  unfold State.sendGroup
  rw [stream_of_sheaf (inc64_sheaf ..), streamPuts_ready (by rwa [modScaler_reg]), stream_of_sheaf (modScaler_sheaf ..), hr, List.nil_append]

/-! ### The four parts -/

theorem completes_winnowService (h : s.winnowServes = true) : Completes .winnowService s (fun t =>
    t.winnow.cycle = s.winnow.cycle + 1 ∧ t.reg 0x4800 3 = (s.winnow.cycle + 1) / 64) := by
  refine completes_of (exec_winnowService h) ⟨serveChannel_cycle .., ?_⟩
  rw [(low_serveChannel ..).at (by omega), nextCycle_round]

theorem completes_winnowService_monitor (h : s.winnowServes = true) {c : Nat} (hc : s.winnow.cycle % 64 = c) {v : WinVal} {x : WinChannel}
    {r : Option WinVal} (hu : s.winUser c < 64) (hl : c < s.winnow.channels.length) (hq : (s.win c).queue = [v])
    (hr : s.winCarry c { s.win c with queue := [] } v = (x, r)) : Completes .winnowService s (fun t =>
      t.win c = x ∧ t.winnow.outputs = s.winnow.outputs ++ (r.map (fun y => ⟨c, y⟩)).toList ∧
      t.reg (0x4810 + c) 6 = if r.isSome then wrapAdd64 (s.reg (0x4810 + c) 6) 1 else s.reg (0x4810 + c) 6) := by
  have hrun := exec_winnowService h
  rw [hc, serveChannel_single (s := s.nextCycle) (by rwa [nextCycle_winUser]) hq] at hrun
  refine completes_of hrun ?_
  rw [← nextCycle_reg (s := s) (by omega : 0x4800 < 0x4810 + c)]
  exact winStep_carried hl hq ((nextCycle_winCarry ..).trans hr)

theorem completes_winnowService_scaler (h : s.winnowServes = true) {c k : Nat} (hc : s.winnow.cycle % 64 = c) {l : ScalerLine} (hk : k < 8)
    (hu : s.winUser c = 0x100 + k) (hx : k < s.winnow.scalers.length) (hl : (s.scaler k).current = some l)
    (ht : (s.scaler k).taken + 64 < l.pixels.length) : Completes .winnowService s (fun t =>
      (t.scaler k).taken = (s.scaler k).taken + 64 ∧ (t.scaler k).current = some l) := by
  have hrun := exec_winnowService h
  rw [hc, serveChannel_scaler hk (by rwa [nextCycle_winUser]), scalerService_takes (s := s.nextCycle) hl ht] at hrun
  refine completes_of hrun ?_
  rw [scaler_mod (s := s.nextCycle) _ hx]
  exact ⟨rfl, hl⟩

section Output

variable {o : WinOut} {rest : List WinOut} {j : Nat} (ho : s.winnow.outputs = o :: rest) (hu : s.winUser o.channel = j) (hj : j < 64)
  (hon : s.reg (0x3900 + j) 2 = stOn)
include ho hu hj hon

theorem completes_winnowOutput_crossing (ha : s.reg (0x3900 + j) 0x0A = 0) (hy : s.reg (0x3900 + j) 6 < o.value.v) :
    Completes .winnowOutput s (fun t => t.winnow.outputs = rest ∧ t.reg (0x3900 + j) 0x0C = o.value.v ∧
      t.reg (0x3900 + j) 0x0B = satAdd32 (s.reg (0x3900 + j) 0x0B) 1 ∧ t.reg (0x3900 + j) 0x0A = (if s.reg (0x3900 + j) 8 = 0 then 2 else 1) ∧
      t.dowel.fired = s.dowel.fired ++ [⟨0x40 + j, (s.reg (0x3900 + j) 3 * 256 + s.reg (0x3900 + j) 4) % 2 ^ 16,
        ofSigned 64 ((o.value.sc : Int) - (((s.delayX2 (s.reg (0x3900 + j) 5) + 1) / 2 * o.value.period : Nat) : Int)), 0, 0, s.time.tclk⟩]) := by
  have hrun := exec_winnowOutput_armed ho hu hj hon ha
  rw [if_pos hy] at hrun
  obtain ⟨hcount, hstate, hvalue, hwinnow⟩ := crossing_eff (s.shows rest j o.value.v) j o.value hj
  refine completes_of hrun ⟨?_, ?_, ?_, ?_, ?_⟩
  · rw [hwinnow]
    rfl
  · rw [hvalue, shows_value]
  · rw [hcount, shows_reg (by omega) (by omega)]
  · rw [hstate, shows_reg (by omega) (by omega)]
  · rw [crossing_fired, shows_delayX2 hj]
    simp only [shows_reg (s := s) (b := 3) (by omega) (by omega), shows_reg (s := s) (b := 4) (by omega) (by omega),
      shows_reg (s := s) (b := 5) (by omega) (by omega)]
    rfl

theorem completes_winnowOutput_below (ha : s.reg (0x3900 + j) 0x0A = 0) (hy : o.value.v ≤ s.reg (0x3900 + j) 6) :
    Completes .winnowOutput s (fun t => t.winnow.outputs = rest ∧ t.reg (0x3900 + j) 0x0C = o.value.v ∧ t.reg (0x3900 + j) 0x0A = 0 ∧
      t.reg (0x3900 + j) 0x0B = s.reg (0x3900 + j) 0x0B ∧ t.dowel = s.dowel) := by
  have hrun := exec_winnowOutput_armed ho hu hj hon ha
  rw [if_neg (by omega)] at hrun
  exact completes_of hrun ⟨rfl, shows_value .., (shows_reg (by omega) (by omega)).trans ha, shows_reg (by omega) (by omega), rfl⟩

theorem completes_winnowOutput_disarmed (hd : s.reg (0x3900 + j) 0x0A = 2) :
    Completes .winnowOutput s (fun t => t.winnow.outputs = rest ∧ t.reg (0x3900 + j) 0x0C = o.value.v ∧
      t.reg (0x3900 + j) 0x0A = (if o.value.v ≤ s.reg (0x3900 + j) 6 - s.reg (0x3900 + j) 7 then 0 else 2)) := by
  refine completes_of (exec_winnowOutput_disarmed ho hu hj hon hd) ?_
  split
  · exact ⟨rfl, by rw [set_ne, shows_value], reg_setReg_same ..⟩
  · exact ⟨rfl, shows_value .., (shows_reg (by omega) (by omega)).trans hd⟩

end Output

theorem completes_scalerGroupSend {x : Nat} {g : ScalerGroup} {rest : List ScalerGroup} (hx : x < 8) (hl : x < s.winnow.scalers.length)
    (hg : (s.scaler x).ready = g :: rest) (hr : (s.stream (s.reg (0x4880 + x) 0x0C)).ready = []) :
    Completes (.scalerGroupSend x) s (fun t => (t.scaler x).ready = rest ∧ t.reg (0x4880 + x) 0x0D = wrapAdd64 (s.reg (0x4880 + x) 0x0D) 1 ∧
      (s.reg (0x2700 + s.reg (0x4880 + x) 0x0C) 1 ≠ 0xFF → (t.stream (s.reg (0x4880 + x) 0x0C)).ready = s.groupPackets x g)) := by
  have hrun := exec_scalerGroupSend hx hg
  rw [if_pos hr] at hrun
  exact completes_of hrun ⟨sendGroup_left hl .., sendGroup_counted .., fun hk => sendGroup_packets hk hr ..⟩

/-- Settles O35: a service carries its channel's value or takes its scaler's pixels, a value meets its slot's threshold by the slot's state, and a
closed group waits for its stream or leaves as its packets. -/
theorem winnowServesItsChannels : Obligations.WinnowServesItsChannels := by
  intro s
  refine ⟨exec_winnowService_idle, fun h => ?_, fun o rest ho => ?_, fun x g rest hx hl hg => ?_⟩
  · have hs : s.winnowServes = true := h.elim winnowServes_on fun hd => winnowServes_disabling hd.1 hd.2
    exact ⟨completes_winnowService hs, fun v x r => completes_winnowService_monitor hs rfl,
      fun k l => completes_winnowService_scaler hs rfl⟩
  · refine ⟨exec_winnowOutput_unused ho, fun hj hon ha => ⟨?_, ?_⟩, fun hj hon => ?_⟩
    · exact completes_winnowOutput_crossing ho rfl hj hon ha
    · exact completes_winnowOutput_below ho rfl hj hon ha
    · exact completes_winnowOutput_disarmed ho rfl hj hon
  · refine ⟨fun hr => ?_, completes_scalerGroupSend hx hl hg⟩
    rw [exec_scalerGroupSend hx hg, if_neg hr]

end Sys2Proof.Machine
end

section
/-! A second event waits behind a hold event (chapter 7, R238; chapter 16, R490). -/

set_option Elab.async false

namespace Sys2Proof.Machine

/-! ### The counterexample -/

/-- A delivery to `fstore.hold` as the router makes it: an event taken by channel 0, with no tick at which the consumer got it. -/
def holdDelivery : Delivery := ⟨0, ⟨0x39F, 0, 0, 0, 0, 0⟩, 0⟩

/-- At TCLK tick 1 frame 0 is being written to slot 0, and two hold events have reached `fstore.hold`: one for its consumer, and one behind it. -/
def twoHolds : State :=
  let s := State.ofReset Board.reset Nv.reset
  let s := { s with time := { s.time with tclk := 1 } }
  ((s.modFront (fun x => { x with writing := some (0, 0) })).deliver 0x310 holdDelivery).deliver 0x310 holdDelivery

theorem twoHolds_held : (twoHolds.held 0x310).isSome = true := by decide +kernel

theorem twoHolds_writing : twoHolds.insp.front.writing = some (0, 0) := by decide +kernel

theorem twoHolds_queued : (twoHolds.input 0x310).queued = some holdDelivery := by decide +kernel

theorem twoHolds_tclk : twoHolds.time.tclk = 1 := by decide +kernel

/-- Once a hold event is taken, the input's consumer has the event that waited behind it, as of the present tick (R490). -/
theorem completes_holdEvent {s : State} {sess : Nat} (h : (s.held 0x310).isSome = true) : Completes (.frameHold sess none) s (fun t =>
    (t.input 0x310).held = (s.input 0x310).queued.map (fun d => { d with since := s.time.tclk })) := by
  have hrun : exec (.frameHold sess none) s = .next (s.takeInput 0x310).holdEvent := congrArg Host.Outcome.next (if_pos h)
  refine completes_of hrun ?_
  rw [input_of (congrArg DowelState.inputs (holdEvent_dowel _)), takeInput_held]

/-- Refutes O37, in the clause of FRAME_HOLD for an event at `fstore.hold`: the event that waited behind the one taken goes to the consumer with the tick at
which it goes (R490), so the input does not then hold the delivery as it was queued. -/
theorem not_framesAreStoredAndStitched : ¬ Obligations.FramesAreStoredAndStitched := by
  intro h
  obtain ⟨-, -, -, hevent, -⟩ := h twoHolds
  obtain ⟨t, ht, -, -, hsame⟩ := hevent 0 0 0 twoHolds_held twoHolds_writing
  obtain ⟨u, hu, hgiven⟩ := completes_holdEvent (sess := 0) twoHolds_held
  rw [ht] at hu
  cases hu
  rw [hsame, twoHolds_queued, twoHolds_tclk] at hgiven
  exact absurd hgiven (by decide)

end Sys2Proof.Machine
end

section
/-! The events that DRAM writes fire on the way (chapter 11, R341, R344; chapter 16, R483, R522). -/

set_option Elab.async false

namespace Sys2Proof.Machine

variable {s0 s t : State}

/-- From `s` to `t` only the events of DRAM accesses have been fired: a channel's loss and fault records (R483, R522). -/
def State.dramFires (s t : State) : Prop := ∃ es, t.dowel.fired = s.dowel.fired ++ es ∧ ∀ e ∈ es, e.source = 0x340 ∨ e.source = 0x341

theorem dramFires_refl (s : State) : s.dramFires s := ⟨[], (List.append_nil _).symm, fun _ he => absurd he List.not_mem_nil⟩

theorem dramFires_trans (h : s0.dramFires s) (k : s.dramFires t) : s0.dramFires t := by
  obtain ⟨es, hes, hs⟩ := h
  obtain ⟨fs, hfs, ht⟩ := k
  refine ⟨es ++ fs, by rw [hfs, hes, List.append_assoc], fun e he => ?_⟩
  exact (List.mem_append.mp he).elim (hs e) (ht e)

theorem dramFires_same (h : s0.dramFires s) (k : t.dowel.fired = s.dowel.fired) : s0.dramFires t := by
  unfold State.dramFires
  rwa [k]

/-- What leaves Dowel alone fires nothing. -/
theorem dramFires_fr {m : Nat} (k : Fr m s t) (h : s0.dramFires s) (hm : m.testBit Part.dowel.bit = false := by decide) : s0.dramFires t :=
  dramFires_same h (congrArg DowelState.fired (k.same .dowel hm))

theorem dramFires_each {α : Type} {f : α → State → State} {xs : List α} (h : s0.dramFires s) (hf : ∀ x s, s0.dramFires s → s0.dramFires (f x s)) :
    s0.dramFires (s.each xs f) := by
  unfold State.each
  induction xs generalizing s with
  | nil => exact h
  | cons x xs ih => exact ih (hf x s h)

theorem dramFires_ite {c : Prop} [Decidable c] (hs : s0.dramFires s) (ht : s0.dramFires t) : s0.dramFires (if c then s else t) := by
  split
  · exact hs
  · exact ht

/-! ### Faults, and the engine's reads (R341, R344, R522) -/

theorem dramFires_faultRecord {c a i n r d : Nat} (h : s0.dramFires s) : s0.dramFires (s.faultRecord c a i n r d) := by
  refine dramFires_trans h ⟨[⟨0x341, s.reg 0x7000 7 % 2 ^ 32 % 2 ^ 16 % 2 ^ 16, s.sc, 0, 0, s.time.tclk⟩], ?_, by simp⟩
  unfold State.faultRecord
  dsimp only
  split
  · rw [nvPlace_dowel, notify_dowel, fire_fired]
    rfl
  · rw [notify_dowel, fire_fired]
    rfl

theorem dramFires_engineRead {ch l : Nat} (h : s0.dramFires s) : s0.dramFires (s.engineRead ch l) := by
  unfold State.engineRead
  split
  · exact dramFires_fr (fr_deviceRead (m := 32770) (within_refl _) (fr_refl s)) h
  · split
    · exact dramFires_fr (fr_rebuildRead (m := 32770) (within_refl _) (fr_refl s)) h
    · exact dramFires_faultRecord (dramFires_same h (congrArg DowelState.fired (inc32_dowel ..)))

theorem dramFires_deviceWrite {ch l : Nat} {v : Bytes} (h : s0.dramFires s) : s0.dramFires (s.deviceWrite ch l v) :=
  dramFires_fr (fr_deviceWrite (m := 32786) (within_refl _) (fr_refl s)) h

theorem dramFires_markUnit {ch l : Nat} {b : Bool} (h : s0.dramFires s) : s0.dramFires (s.markUnit ch l b) :=
  dramFires_fr (fr_markUnit (m := 32768) (within_refl _) (fr_refl s)) h

theorem dramFires_setDdr {d : DramState} (h : s0.dramFires s) : s0.dramFires (s.setDdr d) := dramFires_same h rfl

theorem dramFires_inc64 {i a n : Nat} (h : s0.dramFires s) : s0.dramFires (s.inc64 i a n) := dramFires_same h rfl

/-! ### The parity engine (R341) -/

theorem dramFires_closeStripe {stripe : Nat} (h : s0.dramFires s) : s0.dramFires (s.closeStripe stripe) := by
  unfold State.closeStripe
  dsimp only
  generalize hu : State.each s _ _ = u
  have hread : s0.dramFires u := hu ▸ dramFires_each h fun _ _ => dramFires_engineRead
  have hcount (n : Nat) : s0.dramFires ((u.inc64 0x5801 2 1).inc64 0x5801 4 n) := dramFires_inc64 (dramFires_inc64 hread)
  refine dramFires_ite (dramFires_markUnit ?_) ?_
  all_goals exact dramFires_deviceWrite (dramFires_setDdr (dramFires_ite (dramFires_inc64 hread) (hcount _)))

theorem dramFires_completeUnit {x : Assembly} {ch stripe : Nat} (h : s0.dramFires s) : s0.dramFires (s.completeUnit x ch stripe).2 := by
  unfold State.completeUnit
  split
  · exact h
  · split
    · exact dramFires_inc64 (dramFires_engineRead h)
    · exact dramFires_inc64 (dramFires_engineRead (dramFires_same h rfl))

theorem dramFires_enterStripe {ch stripe pos : Nat} {v : Bytes} (h : s0.dramFires s) : s0.dramFires (s.enterStripe ch stripe pos v) :=
  dramFires_fr (fr_enterStripe (m := 32786) (within_refl _) (fr_refl s)) h

theorem dramFires_closeAssembly {x : Assembly} {close : Bool} (h : s0.dramFires s) : s0.dramFires (s.closeAssembly x close) := by
  unfold State.closeAssembly
  dsimp only
  split
  · exact dramFires_setDdr h
  · split
    · exact dramFires_closeStripe (dramFires_enterStripe (dramFires_completeUnit (dramFires_setDdr h)))
    · exact dramFires_enterStripe (dramFires_completeUnit (dramFires_setDdr h))

theorem dramFires_makeRoom (h : s0.dramFires s) : s0.dramFires s.makeRoom := by
  unfold State.makeRoom
  split
  · split
    · exact dramFires_closeAssembly h
    · exact h
  · exact h

theorem dramFires_engineWrite {l off cls : Nat} {bs : Bytes} (h : s0.dramFires s) : s0.dramFires (s.engineWrite l off bs cls) := by
  unfold State.engineWrite
  dsimp only
  have hroom := dramFires_ite (c := (s.assembly l).isSome) h (dramFires_makeRoom h)
  refine dramFires_ite ?_ (dramFires_setDdr hroom)
  exact dramFires_fr (fr_engineAccept (m := 32770) (within_refl _) (fr_refl _)) hroom

/-! ### Writes (R20, R342, R351) -/

theorem enqueue_fired (s : State) (r : DramReq) : (s.enqueue r).dowel.fired = s.dowel.fired := by
  unfold State.enqueue
  dsimp only
  split
  · exact countE_fired ..
  · rfl

theorem dramFires_unprotWrite {ch l off cls : Nat} {bs : Bytes} (h : s0.dramFires s) : s0.dramFires (s.unprotWrite ch l off bs cls) := by
  unfold State.unprotWrite
  split
  · exact dramFires_same h (enqueue_fired ..)
  · exact h
  · exact dramFires_fr (fr_plainWrite (m := 32786) (within_refl _) (fr_refl s)) h

theorem dramFires_storeUnit {cls l off : Nat} {bs : Bytes} (h : s0.dramFires s) : s0.dramFires (s.storeUnit cls l off bs) := by
  unfold State.storeUnit
  split
  · exact h
  · have hmeter := fun ch => dramFires_fr (fr_meterU (m := 32770) (a1 := ch) (a2 := cls) (within_refl _) (fr_refl s)) h
    dsimp only
    split
    · exact dramFires_engineWrite (hmeter _)
    · exact dramFires_unprotWrite (hmeter _)

/-- A write fires no event but those of fault records (R522). -/
theorem dramFires_store {cls a : Nat} {bs : Bytes} (h : s0.dramFires s) : s0.dramFires (s.store cls a bs) :=
  dramFires_each h fun _ _ => dramFires_storeUnit

end Sys2Proof.Machine
end

section
/-! Line clock edges reach the front end (chapter 7, R213, R219). -/

set_option Elab.async false

namespace Sys2Proof.Machine

variable {s : State}

/-- Late statistics packets touch only their streams' credit and the count of those discarded (R231). -/
theorem statsLate_reg (s : State) (l : Nat) {j b : Nat} (hb : b < 256) (h4 : b ≠ 4) (hA : b ≠ 0x0A) : (s.statsLate l).reg j b = s.reg j b := by
  unfold State.statsLate
  rw [modFront_reg]
  refine each_same (fun s : State => s.reg j b) (fun o s => ?_) _ s
  split
  · exact (inc32_reg_key _ _ (by simp only [key]; omega)).trans ((set_ne).trans (with_sheaf_reg ..))
  · rfl

theorem statsLate_edges (s : State) (l : Nat) : (s.statsLate l).insp.front.edges = s.insp.front.edges := by
  unfold State.statsLate
  refine each_same (fun s : State => s.insp.front.edges) (fun o s => ?_) _ s
  split <;> rfl

theorem statsLate_pos (s : State) (l : Nat) : (s.statsLate l).pos = s.pos :=
  (fr_statsLate (m := 270338) (within_refl _) (fr_refl s)).same .pos (by decide)

/-- The front end reaches ON at line 0 of a run (R213). -/
def State.frontStarts (s : State) : State :=
  if s.reg 0x4000 2 = stEnabling then
    ((s.setReg 0x4000 2 stOn).setReg 0x4000 0x0A ((s.reg 0x4000 0x0A + 1) % 65536)).modFront (fun x => { x with gens := [(0, s.reg 0x4000 7)] })
  else s

/-- The oldest edge fed by the line generator takes the next line index (R213). -/
def State.numberEdge (s : State) (rest : List LineEdge) : State := s.modGen (fun x => { x with feed := rest, nextLine := s.pos.gen.nextLine + 1 })

/-- An edge is kept and shown, and statistics packets that have waited for a frame are dropped (R213, R231). -/
def State.showEdge (s : State) (e : EdgeRec) : State :=
  (((s.modFront (fun x => { x with edges := (e :: x.edges).take edgesKept })).setReg 0x4000 8 e.index).setReg 0x4000 9
    (e.index / s.frameLen % 2 ^ 32)).statsLate e.index

/-- What a line does at its edge as the first line of its frame (R226, R239, R257). -/
def State.lineBegins (s : State) (i : Nat) : State :=
  if i % s.frameLen = 0 && s.reg 0x4000 2 = stOn then s.frameEdge i
  else if i % s.frameLen = 0 then (s.settingsBoundary (i / s.frameLen)).roundBoundary (i / s.frameLen) else s

/-- The line clock edge that `g` is in `s`. -/
def State.edgeRec (s : State) (g : LineEdge) : EdgeRec := ⟨s.pos.gen.nextLine, g.sc, g.tb0, g.position, g.balls⟩

theorem frontStarts_pos : s.frontStarts.pos = s.pos := by
  unfold State.frontStarts
  split <;> rfl

theorem frontStarts_frameLen : s.frontStarts.frameLen = s.frameLen := by
  unfold State.frontStarts
  split
  · exact (set_ne).trans set_ne
  · rfl

theorem frontStarts_on (h : s.reg 0x4000 2 = stEnabling) : s.frontStarts.reg 0x4000 2 = stOn := by
  unfold State.frontStarts
  rw [if_pos h, modFront_reg, set_ne, reg_setReg_same]

theorem exec_lineClockEdge_off {g : LineEdge} {rest : List LineEdge} (hg : s.pos.gen.feed = g :: rest) (h : s.reg 0x4000 2 = stOff) :
    exec .lineClockEdge s = .next (s.numberEdge rest) := by
  show execLineClockEdge s = _
  unfold execLineClockEdge
  rw [hg]
  exact if_pos h

theorem exec_lineClockEdge {g : LineEdge} {rest : List LineEdge} (hg : s.pos.gen.feed = g :: rest) (h : s.reg 0x4000 2 ≠ stOff) :
    exec .lineClockEdge s = .next ((((s.numberEdge rest).frontStarts).showEdge (s.edgeRec g)).lineBegins s.pos.gen.nextLine) := by
  show execLineClockEdge s = _
  unfold execLineClockEdge
  rw [hg]
  exact if_neg h

theorem showEdge_reg {e : EdgeRec} {b : Nat} (hb : b < 256) (h : b ∉ [4, 8, 9, 0x0A]) : (s.showEdge e).reg 0x4000 b = s.reg 0x4000 b := by
  simp only [List.mem_cons, List.not_mem_nil, or_false, not_or] at h
  unfold State.showEdge
  rw [statsLate_reg _ _ hb (by omega) (by omega), set_ne, set_ne, modFront_reg]

theorem showEdge_taken {rest : List LineEdge} (g : LineEdge) : EdgeTaken s ((s.numberEdge rest).frontStarts.showEdge (s.edgeRec g)) g rest where
  feed := by
    unfold State.showEdge
    rw [statsLate_pos]
    exact congrArg (fun x => x.gen.feed) frontStarts_pos
  next := by
    unfold State.showEdge
    rw [statsLate_pos]
    exact congrArg (fun x => x.gen.nextLine) frontStarts_pos
  edge := by
    unfold State.showEdge State.latestEdge
    rw [statsLate_edges]
    rfl
  line := by
    unfold State.showEdge
    rw [statsLate_reg _ _ (by omega) (by omega) (by omega), set_ne, reg_setReg_same]
    rfl
  frame := by
    unfold State.showEdge
    rw [statsLate_reg _ _ (by omega) (by omega) (by omega), reg_setReg_same, frontStarts_frameLen]
    rfl
  on h := by
    rw [showEdge_reg (by omega) (by decide)]
    exact frontStarts_on h

theorem lineBegins_taken {u : State} {g : LineEdge} {rest : List LineEdge} (i : Nat) (h : EdgeTaken s u g rest) : EdgeTaken s (u.lineBegins i) g rest := by
  unfold State.lineBegins
  split
  · exact edgeTaken_low h ((fr_frameEdge (m := 270338) (within_refl _) (fr_refl u)).same .pos (by decide)) (frameEdge_edges ..)
      (low_frameEdge (by omega) (low_refl u))
  · split
    · refine edgeTaken_low h ?_ ((roundBoundary_edges ..).trans (settingsBoundary_edges ..))
        (low_roundBoundary (by omega) (low_settingsBoundary (by omega) (low_refl u)))
      exact (fr_roundBoundary (m := 270338) (by decide) (fr_settingsBoundary (within_refl _) (fr_refl u))).same .pos (by decide)
    · exact h

theorem completes_lineClockEdge_off {g : LineEdge} {rest : List LineEdge} (hg : s.pos.gen.feed = g :: rest) (h : s.reg 0x4000 2 = stOff) :
    Completes .lineClockEdge s (fun t => t.pos.gen.feed = rest ∧ t.pos.gen.nextLine = s.pos.gen.nextLine + 1 ∧ t.insp = s.insp) :=
  completes_of (exec_lineClockEdge_off hg h) ⟨rfl, rfl, rfl⟩

theorem completes_lineClockEdge {g : LineEdge} {rest : List LineEdge} (hg : s.pos.gen.feed = g :: rest) (h : s.reg 0x4000 2 ≠ stOff) :
    Completes .lineClockEdge s (fun t => EdgeTaken s t g rest) :=
  completes_of (exec_lineClockEdge hg h) (lineBegins_taken _ (showEdge_taken g))

end Sys2Proof.Machine
end

section
/-! The rotating pointers of stages A and B, and stage B's output lines (chapter 7, R21, R221, R234; chapter 8, R247). -/

set_option Elab.async false

namespace Sys2Proof.Machine

variable {s : State} {c : Nat}

/-! ### The rotating pointer over 16 cameras (R21) -/

/-- How far camera `c` lies behind the pointer, in the order of R21. -/
abbrev turnsTo (ptr c : Nat) : Nat := (c + 16 - ptr % 16) % 16

theorem rotating_some_iff {ptr : Nat} {ports : List Nat} :
    rotating 16 ptr ports = some c ↔ c < 16 ∧ c ∈ ports ∧ ∀ j, j < 16 → j ∈ ports → turnsTo ptr c ≤ turnsTo ptr j := by
  unfold rotating turnsTo
  simp only [List.find?_eq_some_iff_getElem, List.length_map, List.length_range, List.getElem_map, List.getElem_range, List.contains_eq_mem,
    Bool.not_eq_true', decide_eq_true_eq, decide_eq_false_iff_not]
  constructor
  · rintro ⟨hmem, i, hi, rfl, hfirst⟩
    refine ⟨by omega, hmem, fun j hj hjmem => Nat.le_of_not_lt fun hlt => ?_⟩
    have hj' : (ptr + (j + 16 - ptr % 16) % 16) % 16 = j := by omega
    exact hfirst ((j + 16 - ptr % 16) % 16) (by omega) (hj'.symm ▸ hjmem)
  · rintro ⟨hc, hmem, hfirst⟩
    refine ⟨hmem, (c + 16 - ptr % 16) % 16, by omega, by omega, fun j hj hjmem => ?_⟩
    have := hfirst _ (Nat.mod_lt _ (by omega)) hjmem
    omega

/-! ### Stage A (R234) -/

theorem stageATurn_single {p : RawPacket} {rest : List RawPacket} (hraw : s.insp.front.raw = p :: rest) (hone : rest.all (fun q => q.cam = p.cam) = true)
    (hp : p.cam < 16) : s.stageATurn = s.modFront (fun x => { x with raw := rest, ptrA := (p.cam + 1) % 16 }) := by
  have hcam (j : Nat) (hj : j ∈ s.insp.front.raw.map (fun q => q.cam)) : j = p.cam := by
    rw [hraw] at hj
    simp only [List.map_cons, List.mem_cons, List.mem_map] at hj
    obtain rfl | ⟨q, hq, rfl⟩ := hj
    · rfl
    · simpa using List.all_eq_true.mp hone q hq
  have hturn : rotating 16 s.insp.front.ptrA (s.insp.front.raw.map (fun q => q.cam)) = some p.cam :=
    rotating_some_iff.mpr ⟨hp, by rw [hraw]; exact List.mem_cons_self, fun j _ hj => by rw [hcam j hj]⟩
  unfold State.stageATurn
  rw [hturn]
  unfold State.modFront
  simp [hraw]

/-! ### Whose turn it is at stage B (R21, R234) -/

theorem stageBCam_some_iff : s.stageBCam = some c ↔ c < 16 ∧ s.outReady c = true ∧
    ∀ j, j < 16 → s.outReady j = true → turnsTo s.insp.front.ptrB c ≤ turnsTo s.insp.front.ptrB j := by
  unfold State.stageBCam
  simp only [rotating_some_iff, List.mem_filter, List.mem_range]
  exact and_congr_right fun hc => and_congr (and_iff_right hc) (forall₂_congr fun j hj => by rw [and_iff_right hj])

theorem exec_stageBLine_other (hc : c < 16) (h : s.stageBCam ≠ some c) : exec (.stageBLine c) s = .next s := by
  show execStageBLine c s = _
  unfold execStageBLine
  rw [inst_ok (decide_eq_true hc), if_neg h]

theorem exec_stageBLine_notReady (hc : c < 16) (h : s.outReady c = false) : exec (.stageBLine c) s = .next s := by
  refine exec_stageBLine_other hc fun hturn => ?_
  obtain ⟨-, hready, -⟩ := stageBCam_some_iff.mp hturn
  rw [h] at hready
  cases hready

theorem exec_stageBLine_later {j : Nat} (hc : c < 16) (hj : j < 16) (hready : s.outReady j = true)
    (h : turnsTo s.insp.front.ptrB j < turnsTo s.insp.front.ptrB c) : exec (.stageBLine c) s = .next s := by
  refine exec_stageBLine_other hc fun hturn => ?_
  obtain ⟨-, -, hfirst⟩ := stageBCam_some_iff.mp hturn
  exact absurd (hfirst j hj hready) (Nat.not_le.mpr h)

/-! ### An output line (R222, R247, R253) -/

/-- The rotating pointer of stage B stands after camera `c`. -/
def State.passTurn (s : State) (c : Nat) : State := s.modFront (fun x => { x with ptrB := (c + 1) % 16 })

/-- An output line goes on to its FIFO and to the round in hand, unless Dovetail, whose status is `dove`, is OFF (R247, R253). -/
def OutLine.handOver (o : OutLine) (c dove : Nat) : State :=
  if dove = stOff then o.s else (o.s.fifoPut c o.info o.planes).regFeed c o.info.line

theorem exec_stageBLine (h : s.stageBCam = some c) : exec (.stageBLine c) s = .next (((s.passTurn c).stageB c).handOver c (s.reg 0x4400 2)) := by
  obtain ⟨hc, -⟩ := stageBCam_some_iff.mp h
  show execStageBLine c s = _
  unfold execStageBLine OutLine.handOver
  rw [inst_ok (decide_eq_true hc), if_pos h]
  rfl

theorem stageB_ptrB (s : State) (c : Nat) (hc : c < 16) : (s.stageB c).s.insp.front.ptrB = s.insp.front.ptrB := by
  unfold State.stageB
  dsimp only
  generalize hu : State.modCam s c _ = u
  have hptr : u.insp.front.ptrB = s.insp.front.ptrB := by rw [← hu]; rfl
  exact (congrArg (fun x : InspectState => x.front.ptrB) (missed_eff u _ _ _ _ _ (by omega)).1).trans hptr

theorem fifoPut_ptrB (s : State) (c : Nat) (x : FifoLine) (ps : List (List Nat)) : (s.fifoPut c x ps).insp.front.ptrB = s.insp.front.ptrB := by
  have hstore : (s.store clsH (s.fifoAddr c x.line) (ps.flatten.flatMap (beBytes 2))).insp = s.insp :=
    (fr_store (m := 558363) (within_refl _) (fr_refl s)).same .insp (by decide)
  have hptr := congrArg (fun x => x.front.ptrB) hstore
  exact hptr

theorem regFeed_insp (s : State) (c m : Nat) : (s.regFeed c m).insp = s.insp :=
  (fr_regFeed (m := 558363) (within_refl _) (fr_refl s)).same .insp (by decide)

theorem handOver_ptrB (o : OutLine) (c d : Nat) : (o.handOver c d).insp.front.ptrB = o.s.insp.front.ptrB := by
  unfold OutLine.handOver
  split
  · rfl
  · rw [regFeed_insp, fifoPut_ptrB]

theorem handOver_nextOut (o : OutLine) (d : Nat) (h : c < o.s.insp.front.cams.length) : ((o.handOver c d).cam c).nextOut = (o.s.cam c).nextOut := by
  unfold OutLine.handOver
  split
  · rfl
  · rw [cam_of (regFeed_insp ..), fifoPut_next _ _ _ _ _ h rfl]

theorem low_handOver (o : OutLine) (c d : Nat) : Low 22529 o.s (o.handOver c d) := by
  unfold OutLine.handOver
  split
  · exact low_refl _
  · exact low_regFeed (by omega) (low_fifoPut (by omega) (low_refl _))

theorem completes_stageBLine (hl : c < s.insp.front.cams.length) (h : s.stageBCam = some c) : Completes (.stageBLine c) s (fun t =>
    (t.cam c).nextOut = (s.cam c).nextOut + 1 ∧ t.insp.front.ptrB = (c + 1) % 16 ∧ t.reg (0x4010 + c) 0x0B = wrapAdd64 (s.reg (0x4010 + c) 0x0B) 1) := by
  obtain ⟨hc, -⟩ := stageBCam_some_iff.mp h
  obtain ⟨hnext, hcount, hlength⟩ := stageB_eff (s.passTurn c) hl hc
  refine completes_of (exec_stageBLine h) ⟨?_, ?_, ?_⟩
  · rw [handOver_nextOut _ _ (hlength.symm ▸ hl), hnext]
    rfl
  · rw [handOver_ptrB, stageB_ptrB _ _ hc]
    rfl
  · rw [(low_handOver ..).at (by omega), hcount]
    rfl

end Sys2Proof.Machine
end

section
/-! Pixel packets are tested, and enter their lines (chapter 7, R216 to R219, R235). -/

set_option Elab.async false

namespace Sys2Proof.Machine

variable {s t : State} {c : Nat} {p : Packet}

/-! ### The raw input buffer (R235) -/

theorem rawHeld_of (h : t.insp = s.insp) (c : Nat) : t.rawHeld c = s.rawHeld c := by
  unfold State.rawHeld
  rw [h]

/-- A camera's share of the raw input buffer follows from the line wait and the camera's own mode, width and depth. -/
theorem rawShare_of (h4 : t.reg 0x4000 4 = s.reg 0x4000 4) (h : ∀ a, a ∈ [3, 4, 5] → t.reg (0x4010 + c) a = s.reg (0x4010 + c) a) :
    t.rawShare c = s.rawShare c := by
  unfold State.rawShare State.camRows State.camWidth State.dual
  rw [h4, h 3 (by decide), h 4 (by decide), h 5 (by decide)]

theorem takePixels_rawHeld (s : State) (c l row first gen bytes : Nat) (px : List Nat) :
    (s.takePixels c l row first gen bytes px).rawHeld c = s.rawHeld c + bytes := by
  unfold State.rawHeld State.takePixels State.modCam State.modFront
  simp

theorem takePixels_reg (s : State) (c l row first gen bytes : Nat) (px : List Nat) (j a : Nat) :
    (s.takePixels c l row first gen bytes px).reg j a = s.reg j a := rfl

/-- A line with the pixels of one packet more (R217). -/
def CamLine.add (x : CamLine) (row first gen : Nat) (px : List Nat) : CamLine :=
  { x with rows := modNth (fun segs => segs ++ [(first, px)]) x.rows row,
           gens := modNth (fun gs => if gs.contains gen then gs else gs ++ [gen]) x.gens row }

/-- A camera's lines once a packet of line `l` has come. -/
def Camera.addLine (x : Camera) (l row first gen : Nat) (px : List Nat) : Camera :=
  if x.lines.any (fun y => y.line = l) then { x with lines := x.lines.map (fun y => if y.line = l then y.add row first gen px else y) }
  else { x with lines := x.lines ++ [CamLine.add ⟨l, [[], []], [[], []]⟩ row first gen px] }

theorem takePixels_cam (hc : c < s.insp.front.cams.length) (l row first gen bytes : Nat) (px : List Nat) :
    (s.takePixels c l row first gen bytes px).cam c = (s.cam c).addLine l row first gen px :=
  cam_mod (s := s) (fun x => x.addLine l row first gen px) hc

/-- A line that has received a packet is known. -/
theorem addLine_known (x : Camera) (l row first gen : Nat) (px : List Nat) :
    ((x.addLine l row first gen px).lines.find? (fun y => y.line = l)).isSome = true := by
  unfold Camera.addLine
  split
  · rename_i hany
    obtain ⟨y, hy, hl⟩ := List.any_eq_true.mp hany
    rw [List.find?_isSome]
    refine ⟨_, List.mem_map_of_mem hy, ?_⟩
    rw [if_pos (of_decide_eq_true hl)]
    exact hl
  · simp [CamLine.add]

/-! ### The tests of R217, in its order -/

/-- The words of pixels of a packet (R216). -/
def Packet.pixelWords (p : Packet) : Nat := p.words.length - 2

/-- The row of the sensor a packet is of (R216). -/
def Packet.pixelRow (p : Packet) : Nat := bits (p.words.getD 1 0) 23 23

/-- The column of a packet's first pixel (R216). -/
def Packet.pixelFirst (p : Packet) : Nat := 64 * bits (p.words.getD 1 0) 8 0

/-- A packet holds a pixel that its line already has (R217). -/
def State.pixelAgain (s : State) (p : Packet) (l : Nat) : Bool :=
  match s.camLine p.stream l with
  | some x => (nthD [] x.rows p.pixelRow).any
      (fun g => rangesMeet g.1 g.2.length p.pixelFirst (64 * p.pixelWords / depthOf (s.reg (0x4010 + p.stream) 5)))
  | none => false

/-- The state that has the bridge offset and the settings generation of a packet accepted for line `l` (R218). -/
def State.pixelNoted (s : State) (p : Packet) (l : Nat) : State :=
  (s.bridgeOffset p.stream (bits (p.words.getD 1 0) 63 32) l).setReg (0x4010 + p.stream) 0x0F (bits (p.words.getD 1 0) 31 24)

/-- The pixels, of `b` bits each, of a packet accepted for line `l` enter it, unless the camera's share of the raw input buffer is full (R235). -/
def State.pixelEnters (s : State) (p : Packet) (l b : Nat) : State :=
  if s.rawShare p.stream < s.rawHeld p.stream + 8 * p.pixelWords then s.inc32 0x4001 8 1
  else s.takePixels p.stream l p.pixelRow p.pixelFirst (bits (p.words.getD 1 0) 31 24) (8 * p.pixelWords)
    (unpackPixels b (p.words.drop 2))

theorem pixelPacket_untaken (h : ¬s.pixelTaken p) : s.pixelPacket p = s.inc32 0x2401 1 1 := by
  unfold State.pixelPacket
  dsimp only
  rw [if_pos]
  simp only [State.pixelTaken, not_and_or, not_or] at h
  simp only [Bool.or_eq_true, Bool.and_eq_true, decide_eq_true_eq]
  rwa [or_assoc, and_comm]

/-- The words of a packet do not have the form of R216 for its camera (R217). -/
def State.pixelMisshapen (s : State) (p : Packet) : Bool :=
  p.channel ≠ 0 || bits (p.words.getD 1 0) 22 20 ≠ s.reg (0x4010 + p.stream) 5 || bits (p.words.getD 1 0) 19 9 ≠ 0 || p.pixelWords = 0
    || p.pixelWords % depthOf (s.reg (0x4010 + p.stream) 5) ≠ 0 || (p.pixelRow = 1 && !s.dual p.stream)
    || s.camWidth p.stream < p.pixelFirst + 64 * p.pixelWords / depthOf (s.reg (0x4010 + p.stream) 5)

theorem pixelMisshapen_eq_false_iff : s.pixelMisshapen p = false ↔ s.pixelShape p := by
  unfold State.pixelMisshapen State.pixelShape Packet.pixelWords Packet.pixelRow Packet.pixelFirst
  simp only [Bool.or_eq_false_iff, Bool.and_eq_false_imp, decide_eq_false_iff_not, decide_eq_true_eq, not_not, Bool.not_eq_false', Nat.not_lt, and_assoc,
    Nat.sub_eq_zero_iff_le, Nat.not_le]

/-- The tests of R217 that follow for a packet that is taken. -/
theorem pixelPacket_taken (ht : s.pixelTaken p) : s.pixelPacket p = if s.pixelMisshapen p then s.inc32 0x4001 2 1 else
    match s.matchEdge p.stream (p.words.getD 0 0) with
    | none => s.inc32 0x4001 1 1
    | some e => if s.lineClosed p.stream e.index then s.inc32 0x4001 3 1
      else if s.pixelAgain p e.index then s.inc32 0x4001 4 1 else
        (s.pixelNoted p e.index).pixelEnters p e.index (depthOf (s.reg (0x4010 + p.stream) 5)) := by
  obtain ⟨hfront, hcam, hgroup⟩ := ht
  have hcam' : ¬(s.reg (0x4010 + p.stream) 2 ≠ stEnabling ∧ s.reg (0x4010 + p.stream) 2 ≠ stOn) := by omega
  unfold State.pixelPacket
  dsimp only
  rw [if_neg (by simp only [Bool.or_eq_true, Bool.and_eq_true, decide_eq_true_eq]; omega)]
  rfl

/-! ### A packet that passes (R218, R235) -/

theorem pixelNoted_insp (s : State) (p : Packet) (l : Nat) : (s.pixelNoted p l).insp = s.insp := (setReg_insp ..).trans (bridgeOffset_insp ..)

theorem pixelNoted_gen (s : State) (p : Packet) (l : Nat) : (s.pixelNoted p l).reg (0x4010 + p.stream) 0x0F = bits (p.words.getD 1 0) 31 24 :=
  reg_setReg_same ..

theorem pixelNoted_known (s : State) (p : Packet) (l : Nat) : (s.pixelNoted p l).reg (0x4010 + p.stream) 0x0D = 1 :=
  (set_ne).trans (bridgeOffset_0D ..)

/-- Noting a packet leaves every entry but the bridge offset's, its change count and the generation received. -/
theorem pixelNoted_reg (s : State) (p : Packet) (l : Nat) {j a : Nat} (ha : a < 256) (h : a ∉ [0x0C, 0x0D, 0x0F]) :
    (s.pixelNoted p l).reg j a = s.reg j a := by
  simp only [List.mem_cons, List.not_mem_nil, or_false, not_or] at h
  unfold State.pixelNoted State.bridgeOffset
  dsimp only
  rw [set_ne, set_ne, set_ne]
  exact whenp32_reg _ _ _ _ _ (by simp only [key]; omega)

theorem pixelNoted_rawShare (s : State) (p : Packet) (l : Nat) : (s.pixelNoted p l).rawShare p.stream = s.rawShare p.stream := by
  refine rawShare_of (pixelNoted_reg s p l (by omega) (by decide)) fun a ha => pixelNoted_reg s p l ?_ ?_
  · simp only [List.mem_cons, List.not_mem_nil, or_false] at ha
    omega
  · simp only [List.mem_cons, List.not_mem_nil, or_false] at ha ⊢
    omega

theorem pixelEnters_reg (s : State) (p : Packet) (l b : Nat) {j a : Nat} (ha : a < 256) (h : j ≠ 0x4001 ∨ a ≠ 8) :
    (s.pixelEnters p l b).reg j a = s.reg j a := by
  unfold State.pixelEnters
  split
  · exact inc32_reg_key _ _ (by simp only [key]; omega)
  · rfl

/-- What is left by a packet that passes the tests of R217 for line `l`. -/
structure PixelPassed (s t : State) (p : Packet) (l : Nat) : Prop where
  gen : t.reg (0x4010 + p.stream) 0x0F = bits (p.words.getD 1 0) 31 24
  known : t.reg (0x4010 + p.stream) 0x0D = 1
  fits : s.rawHeld p.stream + 8 * p.pixelWords ≤ s.rawShare p.stream →
    (t.camLine p.stream l).isSome = true ∧ t.rawHeld p.stream = s.rawHeld p.stream + 8 * p.pixelWords ∧ t.reg 0x4001 8 = s.reg 0x4001 8
  full : ¬s.rawHeld p.stream + 8 * p.pixelWords ≤ s.rawShare p.stream → t.insp = s.insp ∧ t.reg 0x4001 8 = satAdd32 (s.reg 0x4001 8) 1

theorem pixelEnters_passed (hc : p.stream < s.insp.front.cams.length) (l b : Nat) : PixelPassed s ((s.pixelNoted p l).pixelEnters p l b) p l where
  gen := (pixelEnters_reg _ _ _ _ (by omega) (by omega)).trans (pixelNoted_gen ..)
  known := (pixelEnters_reg _ _ _ _ (by omega) (by omega)).trans (pixelNoted_known ..)
  fits h := by
    have hinsp := pixelNoted_insp s p l
    unfold State.pixelEnters
    rw [pixelNoted_rawShare, rawHeld_of hinsp, if_neg (by omega)]
    refine ⟨?_, ?_, (takePixels_reg ..).trans (pixelNoted_reg s p l (by omega) (by decide))⟩
    · unfold State.camLine
      rw [takePixels_cam (hinsp.symm ▸ hc)]
      exact addLine_known ..
    · rw [takePixels_rawHeld, rawHeld_of hinsp]
  full h := by
    have hinsp := pixelNoted_insp s p l
    unfold State.pixelEnters
    rw [pixelNoted_rawShare, rawHeld_of hinsp, if_pos (by omega)]
    refine ⟨(inc32_insp ..).trans hinsp, ?_⟩
    rw [inc32_reg_same, pixelNoted_reg s p l (by omega) (by decide)]

/-! ### The four counts and the acceptance (R217) -/

section Shaped

variable {e : EdgeRec} (ht : s.pixelTaken p) (hs : s.pixelShape p)
include ht hs

theorem pixelPacket_unmatched (he : s.matchEdge p.stream (p.words.getD 0 0) = none) : s.pixelPacket p = s.inc32 0x4001 1 1 := by
  rw [pixelPacket_taken ht, pixelMisshapen_eq_false_iff.mpr hs, he]
  rfl

variable (he : s.matchEdge p.stream (p.words.getD 0 0) = some e)
include he

theorem pixelPacket_closed (hl : s.lineClosed p.stream e.index = true) : s.pixelPacket p = s.inc32 0x4001 3 1 := by
  rw [pixelPacket_taken ht, pixelMisshapen_eq_false_iff.mpr hs, he]
  exact if_pos hl

theorem pixelPacket_again (hl : s.lineClosed p.stream e.index = false) (hm : s.pixelAgain p e.index = true) :
    s.pixelPacket p = s.inc32 0x4001 4 1 := by
  rw [pixelPacket_taken ht, pixelMisshapen_eq_false_iff.mpr hs, he]
  dsimp only
  rw [hl, hm]
  rfl

theorem pixelPacket_passed (hc : p.stream < s.insp.front.cams.length) (hl : s.lineClosed p.stream e.index = false)
    (hm : s.pixelAgain p e.index = false) : PixelPassed s (s.pixelPacket p) p e.index := by
  rw [pixelPacket_taken ht, pixelMisshapen_eq_false_iff.mpr hs, he]
  dsimp only
  rw [hl, hm]
  exact pixelEnters_passed hc ..

end Shaped

theorem pixelPacket_misshapen (ht : s.pixelTaken p) (hs : ¬s.pixelShape p) : s.pixelPacket p = s.inc32 0x4001 2 1 := by
  rw [pixelPacket_taken ht]
  exact if_pos (Bool.of_not_eq_false (mt pixelMisshapen_eq_false_iff.mp hs))

/-! ### PIXEL_PACKET_RX (R217, R234) -/

/-- The packets that have arrived are taken from Sheaf. -/
def State.takeArrived (s : State) : State := { s with sheaf := { s.sheaf with pixels := [] } }

theorem exec_pixelPacketRx (s : State) : exec .pixelPacketRx s = .next (s.sheaf.pixels.foldl State.pixelPacket s.takeArrived).stageATurn := by
  show execPixelPacketRx s = _
  unfold execPixelPacketRx State.each
  rfl

/-- With no packet arrived, stage A still takes one that waits. -/
theorem completes_pixelPacketRx {q : RawPacket} {rest : List RawPacket} (hraw : s.insp.front.raw = q :: rest)
    (hone : rest.all (fun r => r.cam = q.cam) = true) (hq : q.cam < 16) (hp : s.sheaf.pixels = []) :
    Completes .pixelPacketRx s (fun t => t.insp.front.raw = rest ∧ t.insp.front.ptrA = (q.cam + 1) % 16) := by
  have hrun := exec_pixelPacketRx s
  rw [hp, List.foldl_nil, stageATurn_single (s := s.takeArrived) hraw hone hq] at hrun
  exact completes_of hrun ⟨rfl, rfl⟩

end Sys2Proof.Machine
end

section
/-! Statistics records are formed (chapter 7, R231, R233), and the statement on lines and pixels as a whole. -/

set_option Elab.async false

namespace Sys2Proof.Machine

variable {s0 s t : State} {c : Nat}

/-! ### The record is stored (R231) -/

/-- From `s` to `t` the inspection units and the time are as they were, and only the events of DRAM accesses have been fired. -/
structure StatsKept (s t : State) : Prop where
  insp : t.insp = s.insp
  time : t.time = s.time
  fires : s.dramFires t

theorem statsKept_draw (s : State) (w : Nat) : StatsKept s (s.draw w).2 := ⟨rfl, rfl, dramFires_same (dramFires_refl s) rfl⟩

theorem statsKept_setReg {i a v : Nat} (h : StatsKept s0 s) : StatsKept s0 (s.setReg i a v) := ⟨h.insp, h.time, dramFires_same h.fires rfl⟩

theorem statsKept_store {cls a : Nat} {bs : Bytes} (h : StatsKept s0 s) : StatsKept s0 (s.store cls a bs) := by
  have hstore : Fr 558363 s (s.store cls a bs) := fr_store (within_refl _) (fr_refl s)
  exact ⟨(hstore.same .insp (by decide)).trans h.insp, (hstore.same .time (by decide)).trans h.time, dramFires_store h.fires⟩

theorem statsKept_ite {p : Prop} [Decidable p] (hs : StatsKept s0 s) (ht : StatsKept s0 t) : StatsKept s0 (if p then s else t) := by
  split
  · exact hs
  · exact ht

theorem formStats_eq (s : State) (c : Nat) (a : StatsAcc) : ∃ (u : State) (k : Nat) (ws : List Nat),
    s.formStats c a = (u.sendStats k ws).fire 0x80 c ∧ StatsKept s u := by
  unfold State.formStats
  dsimp only
  have hdraw : StatsKept s (if a.pixels = 0 then (s.draw 32).2 else s) :=
    statsKept_ite (statsKept_draw s 32) ⟨rfl, rfl, dramFires_refl s⟩
  exact ⟨_, _, _, rfl, statsKept_ite (statsKept_store (statsKept_setReg hdraw)) (statsKept_setReg hdraw)⟩

/-! ### The record is sent and announced (R79, R231) -/

theorem sendStats_cams (s : State) (k : Nat) (ws : List Nat) : (s.sendStats k ws).insp.front.cams = s.insp.front.cams := by
  have hput (q : OutPacket) : (s.streamPut k q).insp = s.insp := (fr_streamPut (m := 262146) (within_refl _) (fr_refl s)).same .insp (by decide)
  unfold State.sendStats
  split
  · rfl
  · split
    · rfl
    · dsimp only
      rw [modFront_insp, hput]

theorem formStats_cam (s : State) (c : Nat) (a : StatsAcc) : (s.formStats c a).cam c = s.cam c := by
  obtain ⟨u, k, ws, hform, hkept⟩ := formStats_eq s c a
  rw [hform, cam_of (fire_insp ..)]
  unfold State.cam
  rw [sendStats_cams, hkept.insp]

theorem formStats_firesLast (s : State) (c : Nat) (a : StatsAcc) : s.firesLast (s.formStats c a) 0x80 c := by
  obtain ⟨u, k, ws, hform, hkept⟩ := formStats_eq s c a
  have hsend : Fr 270338 u (u.sendStats k ws) := fr_sendStats (within_refl _) (fr_refl u)
  have htime : (u.sendStats k ws).time = s.time := (hsend.same .time (by decide)).trans hkept.time
  obtain ⟨es, hes, hsource⟩ := dramFires_fr hsend hkept.fires
  refine ⟨es, ?_, hsource⟩
  rw [hform, fire_fired, hes]
  unfold State.sc
  rw [htime]

/-- What is fired is seen alike from two states that agree on the time and on what had been fired. -/
theorem firesLast_of {k n : Nat} (hf : s0.dowel.fired = s.dowel.fired) (ht : s0.time = s.time) (h : s0.firesLast t k n) : s.firesLast t k n := by
  unfold State.firesLast State.sc at h ⊢
  rwa [hf, ht] at h

/-! ### STATS_RECORD_FORMED (R231) -/

section Formed

variable {a : StatsAcc} {rest : List StatsAcc} {e : EdgeRec} (hc : c < 16) (ha : (s.cam c).ready = a :: rest) (he : s.latestEdge = some e)
include hc ha he

theorem exec_statsRecordFormed : exec (.statsRecordFormed c) s =
    if (a.frame + 1) * s.frameLen ≤ e.index then .next ((s.modCam c (fun x => { x with ready := rest })).formStats c a) else .next s := by
  show execStatsRecordFormed c s = _
  unfold execStatsRecordFormed
  rw [inst_ok (decide_eq_true hc), ha, he]

theorem completes_statsRecordFormed (hl : c < s.insp.front.cams.length) (h : (a.frame + 1) * s.frameLen ≤ e.index) :
    Completes (.statsRecordFormed c) s (fun t => (t.cam c).ready = rest ∧ s.firesLast t 0x80 c) := by
  refine completes_of ((exec_statsRecordFormed hc ha he).trans (if_pos h)) ⟨?_, ?_⟩
  · rw [formStats_cam, cam_mod _ hl]
  · exact firesLast_of (s0 := s.modCam c fun x => { x with ready := rest }) rfl rfl (formStats_firesLast ..)

theorem exec_statsRecordFormed_early (h : e.index < (a.frame + 1) * s.frameLen) : exec (.statsRecordFormed c) s = .next s :=
  (exec_statsRecordFormed hc ha he).trans (if_neg (Nat.not_le.mpr h))

end Formed

/-! ### The statement -/

/-- Settles O36: an edge is indexed, kept and shown; each packet meets the tests of R217 in their order; stage A and stage B take the camera whose turn it
is; and a closed record is formed once its frame has gone by. -/
theorem linesAndPixelsArrive : Obligations.LinesAndPixelsArrive := by
  intro s
  refine ⟨fun g rest hg => ⟨completes_lineClockEdge_off hg, fun h => ?_⟩, exec_pixelPacketRx s, fun p hp => ?_, fun p rest => completes_pixelPacketRx,
    fun c => exec_stageBLine_notReady, fun c j => exec_stageBLine_later, fun c hc hl => ⟨fun hready hfirst => ?_, fun a rest e ha he => ?_⟩⟩
  · obtain ⟨t, ht, hedge⟩ := completes_lineClockEdge hg h
    exact completes_of ht ⟨hedge.feed, hedge.next, hedge.edge, hedge.line, hedge.frame, hedge.on⟩
  · refine ⟨pixelPacket_untaken, pixelPacket_misshapen, pixelPacket_unmatched, fun e ht hs he => ⟨pixelPacket_closed ht hs he, ?_, fun hl hm => ?_⟩⟩
    · exact pixelPacket_again ht hs he
    · have hpass := pixelPacket_passed ht hs he hp hl hm
      exact ⟨hpass.gen, hpass.known, hpass.fits, hpass.full⟩
  · exact completes_stageBLine hl (stageBCam_some_iff.mpr ⟨hc, hready, hfirst⟩)
  · exact ⟨completes_statsRecordFormed hc ha he hl, exec_statsRecordFormed_early hc ha he⟩

end Sys2Proof.Machine
end

section
/-! The events that DRAM reads fire on the way (chapter 11, R344, R351, R352; chapter 16, R483; chapter 17, R522). -/

set_option Elab.async false

namespace Sys2Proof.Machine

variable {s0 s : State}

/-! ### Reads of a unit, and recoveries (R344, R351, R522) -/

theorem dramFires_deviceRead {ch u : Nat} (h : s0.dramFires s) : s0.dramFires (s.deviceRead ch u) :=
  dramFires_fr (fr_deviceRead (m := 32770) (within_refl _) (fr_refl s)) h

theorem dramFires_rebuildRead {ch u : Nat} (h : s0.dramFires s) : s0.dramFires (s.rebuildRead ch u) :=
  dramFires_fr (fr_rebuildRead (m := 32770) (within_refl _) (fr_refl s)) h

theorem dramFires_plainWrite {ch u off : Nat} {bs : Bytes} (h : s0.dramFires s) : s0.dramFires (s.plainWrite ch u off bs) :=
  dramFires_fr (fr_plainWrite (m := 32786) (within_refl _) (fr_refl s)) h

theorem dramFires_meterU {ch cls : Nat} (h : s0.dramFires s) : s0.dramFires (s.meterU ch cls) :=
  dramFires_fr (fr_meterU (m := 32770) (within_refl _) (fr_refl s)) h

theorem dramFires_admitWriters (h : s0.dramFires s) : s0.dramFires s.admitWriters :=
  dramFires_fr (fr_admitWriters (m := 32770) (within_refl _) (fr_refl s)) h

theorem dramFires_countUncorrectable {ch u : Nat} (h : s0.dramFires s) : s0.dramFires (s.countUncorrectable ch u) :=
  dramFires_fr (fr_countUncorrectable (m := 32770) (within_refl _) (fr_refl s)) h

theorem dramFires_setReg {i a v : Nat} (h : s0.dramFires s) : s0.dramFires (s.setReg i a v) := dramFires_same h rfl

theorem dramFires_modChan {ch : Nat} {f : DramChannel → DramChannel} (h : s0.dramFires s) : s0.dramFires (s.modChan ch f) := dramFires_same h rfl

theorem dramFires_takeDelays {ch : Nat} {b : Bytes} (h : s0.dramFires s) : s0.dramFires (s.takeDelays ch b) :=
  dramFires_fr (fr_takeDelays (m := 6) (within_refl _) (fr_refl s)) h

theorem dramFires_readFails {ch u : Nat} (h : s0.dramFires s) : s0.dramFires (s.readFails ch u) :=
  dramFires_faultRecord (dramFires_same h (congrArg DowelState.fired (inc32_dowel ..)))

theorem dramFires_faultStart {c i a d : Nat} (h : s0.dramFires s) : s0.dramFires (s.faultStart c i a d) :=
  dramFires_same (dramFires_faultRecord h) rfl

theorem dramFires_faultDone {c a i n d : Nat} (h : s0.dramFires s) : s0.dramFires (s.faultDone c a i n d) := by
  unfold State.faultDone
  split
  · exact dramFires_faultRecord (dramFires_same h rfl)
  · exact dramFires_faultRecord h

theorem dramFires_readUnitOnly {ch u err : Nat} (h : s0.dramFires s) : s0.dramFires (s.readUnitOnly ch u err) := by
  have hbad := dramFires_markUnit (ch := ch) (l := u) (b := true) (dramFires_deviceRead (ch := ch) (u := u) h)
  have hrebuilt {t : State} {v : Bytes} (ht : s0.dramFires t) : s0.dramFires ((t.rebuildRead ch u).deviceWrite ch u v) :=
    dramFires_deviceWrite (dramFires_rebuildRead ht)
  unfold State.readUnitOnly
  dsimp only
  split
  · split
    · exact dramFires_ite (dramFires_setReg (dramFires_inc64 (dramFires_deviceRead h))) (dramFires_deviceRead h)
    · have hstart {p : Prop} [Decidable p] := dramFires_ite (c := p) (dramFires_faultStart (c := 5) (i := ch) (a := 0) (d := 64 * u) hbad) hbad
      refine dramFires_countUncorrectable (dramFires_ite ?_ (dramFires_ite ?_ ?_))
      · exact dramFires_faultDone (hrebuilt hstart)
      · exact dramFires_faultDone (dramFires_readFails hstart)
      · exact dramFires_readFails hstart
  · exact dramFires_ite (dramFires_rebuildRead h) (dramFires_readFails h)

/-! ### A channel returns (R346, R351) -/

theorem dramFires_releaseHeld {ch : Nat} (h : s0.dramFires s) : s0.dramFires (s.releaseHeld ch) :=
  dramFires_each (dramFires_each h fun _ _ => dramFires_closeAssembly) fun _ _ => dramFires_closeStripe

theorem dramFires_serveReq {r : DramReq} (h : s0.dramFires s) : s0.dramFires (s.serveReq r) := by
  unfold State.serveReq
  dsimp only
  split
  · exact dramFires_plainWrite (dramFires_setDdr h)
  · exact dramFires_readUnitOnly (dramFires_setDdr h)

theorem dramFires_serveQueue {ch fuel : Nat} (h : s0.dramFires s) : s0.dramFires (s.serveQueue ch fuel) := by
  induction fuel generalizing s with
  | zero => exact h
  | succ n ih =>
    unfold State.serveQueue
    split
    · exact ih (dramFires_serveReq h)
    · exact h

theorem dramFires_backOnline {ch : Nat} (h : s0.dramFires s) : s0.dramFires (s.backOnline ch) := by
  have hback : s0.dramFires (s.setReg (0x5810 + ch) 1 0) := dramFires_setReg h
  exact dramFires_serveQueue (dramFires_admitWriters (dramFires_releaseHeld (dramFires_ite (dramFires_setDdr (dramFires_takeDelays hback)) hback)))

/-! ### A channel is lost (R352, R354) -/

theorem dramFires_failQueue {ch : Nat} (h : s0.dramFires s) : s0.dramFires (s.failQueue ch) :=
  dramFires_each (dramFires_setDdr h) fun _ _ => dramFires_readFails

theorem dramFires_lostEvent {ch : Nat} (h : s0.dramFires s) : s0.dramFires (s.fire 0x340 ch) :=
  dramFires_trans h ⟨_, fire_fired .., by simp⟩

theorem dramFires_channelLost {ch cause : Nat} (h : s0.dramFires s) : s0.dramFires (s.channelLost ch cause) := by
  unfold State.channelLost
  refine dramFires_ite h ?_
  have hback : s0.dramFires (s.each ((s.channelsIn 1).filter (fun c => c ≠ ch)) (fun c s => s.backOnline c)) :=
    dramFires_each h fun _ _ => dramFires_backOnline
  generalize s.each _ _ = u at hback ⊢
  have hfreq : s0.dramFires (if u.ddr.freqNext.isSome then (u.setDdr { u.ddr with freqNext := none }).setReg 0x5800 0x10 3 else u) :=
    dramFires_ite (dramFires_setReg (dramFires_setDdr hback)) hback
  dsimp only
  generalize (if u.ddr.freqNext.isSome = true then _ else u) = v at hfreq ⊢
  have hmargin := dramFires_ite (c := v.reg (0x5840 + ch) 6 = 1) (dramFires_setReg (i := 0x5840 + ch) (a := 6) (v := 3) hfreq) hfreq
  exact dramFires_faultDone (dramFires_lostEvent (dramFires_admitWriters (dramFires_releaseHeld (dramFires_failQueue
    (dramFires_modChan (dramFires_setReg (dramFires_setReg (dramFires_setReg (dramFires_faultStart hmargin)))))))))

/-! ### Reads of a range (R20, R342, R344, R348) -/

theorem dramFires_readUnit {ch u err : Nat} (h : s0.dramFires s) : s0.dramFires (s.readUnit ch u err) :=
  dramFires_ite (dramFires_channelLost (dramFires_readUnitOnly h)) (dramFires_readUnitOnly h)

/-- A read fires no event but those of fault records (R522) and of a channel that it loses (R352). -/
theorem dramFires_readRange {cls a n : Nat} (h : s0.dramFires s) : s0.dramFires (s.readRange cls a n) := by
  refine dramFires_each h fun u t ht => ?_
  split
  · exact dramFires_ite (dramFires_same (dramFires_meterU ht) (enqueue_fired ..)) (dramFires_readUnit (dramFires_meterU ht))
  · exact ht

/-- An event fired after DRAM accesses is the last of those fired on the way. -/
theorem firesLast_fire {k n : Nat} (h : s0.dramFires s) (ht : s.time = s0.time) : s0.firesLast (s.fire k n) k n := by
  obtain ⟨es, hes, hsource⟩ := h
  refine ⟨es, ?_, hsource⟩
  rw [fire_fired, hes]
  unfold State.sc
  rw [ht]

end Sys2Proof.Machine
end

section
/-! Registration rounds, their records, and the updates of corrections (chapter 8, R253 to R258). -/

set_option Elab.async false

namespace Sys2Proof.Machine

variable {s t : State}

/-! ### What reads of DRAM leave of Dovetail -/

theorem readRange_insp (s : State) (c a n : Nat) : (s.readRange c a n).insp = s.insp :=
  (fr_readRange (m := 558879) (within_refl _) (fr_refl s)).same .insp (by decide)

theorem readRange_time (s : State) (c a n : Nat) : (s.readRange c a n).time = s.time :=
  (fr_readRange (m := 558879) (within_refl _) (fr_refl s)).same .time (by decide)

/-- The entries below those of DRAM read as before. -/
theorem readRange_reg (s : State) (c a n : Nat) {j b : Nat} (hj : 0x1110 < j ∧ j < 0x5800) (hb : b < 256) : (s.readRange c a n).reg j b = s.reg j b :=
  Low.at (L := 22528) (low_readRange (by omega) (low_refl s)) hj.2 hb (.inr hj.1)

theorem takeWhile_congr {α : Type} {p q : α → Bool} {xs : List α} (h : ∀ x ∈ xs, p x = q x) : xs.takeWhile p = xs.takeWhile q := by
  induction xs with
  | nil => rfl
  | cons x xs ih => rw [List.takeWhile_cons, List.takeWhile_cons, h x List.mem_cons_self, ih fun y hy => h y (List.mem_cons_of_mem x hy)]

/-- The slots in use depend on their cameras alone (R244). -/
theorem slots_of (h : ∀ k < 16, t.reg (0x4410 + k) 1 = s.reg (0x4410 + k) 1) : t.slots = s.slots :=
  takeWhile_congr fun k hk => by unfold State.slotCam; rw [h k (List.mem_range.mp hk)]

/-! ### REG_READY (R253) -/

theorem exec_regReady {r : Round} (hr : s.dove.round = some r) (hw : r.written = false)
    (h : ∀ k ∈ s.slots, s.supplies (s.slotCam k) (r.lastFor k) = true → r.lastFor k < (s.cam (s.slotCam k)).nextOut) :
    exec .regReady s = .next ((s.modDove fun d => { d with round := some { r with written := true } }).fire 0x82 r.frame) := by
  have hdone : (s.slots.all fun k => !s.supplies (s.slotCam k) (r.lastFor k) || decide (r.lastFor k < (s.cam (s.slotCam k)).nextOut)) = true :=
    List.all_eq_true.mpr fun k hk => by
      cases hs : s.supplies (s.slotCam k) (r.lastFor k) with
      | false => rfl
      | true => exact decide_eq_true (h k hk hs)
  show execRegReady s = _
  unfold execRegReady
  rw [hr]
  dsimp only
  rw [hw, hdone]
  rfl

theorem completes_regReady {r : Round} (hr : s.dove.round = some r) (hw : r.written = false)
    (h : ∀ k ∈ s.slots, s.supplies (s.slotCam k) (r.lastFor k) = true → r.lastFor k < (s.cam (s.slotCam k)).nextOut) :
    Completes .regReady s (fun t => t.dove.round = some { r with written := true } ∧ s.fires t 0x82 r.frame) := by
  refine completes_of (exec_regReady hr hw h) ⟨?_, fires_of _ rfl rfl rfl⟩
  rw [dove_of (fire_insp ..), modDove_dove]

/-! ### REG_RECORD_TAKE (R254, R255) -/

/-- Word 0 of a record has the op XREG, a pair that is in use, and the blocks of a registration record (R255). -/
def State.isRegRecord (s : State) (w : Nat) : Prop :=
  bits w 15 12 = 5 ∧ bits w 27 16 + 1 < s.slots.length ∧ bits w 41 35 = 0 ∧ 1 ≤ bits w 34 28 ∧ bits w 34 28 ≤ 31

/-- The state that has read a staged record and freed its slot. -/
def State.recordTaken (s : State) (x : StagedRec) : State := (s.readStaged x).freeStaged x

/-- The slot in the result ring of the registration record with word 0 `w` (R255). -/
def State.recordPlace (s : State) (w : Nat) : Nat := s.reg 0x4400 0x0B + 65536 + (32 * bits w 27 16 + bits w 34 28) * 33792

theorem recordTaken_staged (s : State) (x : StagedRec) : (s.recordTaken x).xarray.staged = s.xarray.staged.filter (fun e => e.slot ≠ x.slot) := by
  unfold State.recordTaken
  rw [freeStaged_staged, readStaged_xarray]

theorem recordTaken_dove (s : State) (x : StagedRec) : (s.recordTaken x).dove = s.dove :=
  dove_of ((fr_readStaged (m := 558879) (within_refl _) (fr_refl s)).same .insp (by decide))

theorem recordTaken_reg (s : State) (x : StagedRec) {j b : Nat} (hj : 0x1110 < j ∧ j < 0x5800) (hb : b < 256) :
    (s.recordTaken x).reg j b = s.reg j b :=
  (freeStaged_reg ..).trans (readStaged_reg s x hj hb)

theorem recordTaken_isRegRecord (s : State) (x : StagedRec) (w : Nat) : (s.recordTaken x).isRegRecord w ↔ s.isRegRecord w := by
  unfold State.isRegRecord
  rw [slots_of fun k hk => recordTaken_reg s x (by omega) (by omega)]

theorem exec_regRecordTake_none (h : s.reg 0x4400 2 = stOff ∨ s.reg 0x4400 7 = 0xFF) : exec .regRecordTake s = .next s :=
  if_pos (by simpa only [Bool.or_eq_true, decide_eq_true_eq] using h)

section Taken

variable {x : StagedRec} (hon : s.reg 0x4400 2 ≠ stOff) (hstream : s.reg 0x4400 7 ≠ 0xFF) (hx : s.oldestStaged (s.reg 0x4400 7) = some x)
include hon hstream hx

theorem exec_regRecordTake_good (h : s.isRegRecord (recWord (s.stagedWords x) 0)) : exec .regRecordTake s =
    .next (((s.recordTaken x).store clsH ((s.recordTaken x).recordPlace (recWord (s.stagedWords x) 0)) (wordBytes (s.stagedWords x))).regCopied) := by
  obtain ⟨hkind, hpair, hblock, hlow, hhigh⟩ := (recordTaken_isRegRecord s x _).mpr h
  show execRegRecordTake s = _
  unfold execRegRecordTake
  rw [if_neg (by simp only [Bool.or_eq_true, decide_eq_true_eq]; exact not_or.mpr ⟨hon, hstream⟩), hx]
  refine if_pos ?_
  simp only [Bool.and_eq_true, decide_eq_true_eq]
  exact ⟨⟨⟨⟨hkind, hpair⟩, hblock⟩, hlow⟩, hhigh⟩

theorem exec_regRecordTake_bad (h : ¬s.isRegRecord (recWord (s.stagedWords x) 0)) :
    exec .regRecordTake s = .next ((s.recordTaken x).inc32 0x4400 0x15 1) := by
  show execRegRecordTake s = _
  unfold execRegRecordTake
  rw [if_neg (by simp only [Bool.or_eq_true, decide_eq_true_eq]; exact not_or.mpr ⟨hon, hstream⟩), hx]
  refine if_neg fun hgood => h ((recordTaken_isRegRecord s x _).mp ?_)
  simp only [Bool.and_eq_true, decide_eq_true_eq] at hgood
  obtain ⟨⟨⟨⟨hkind, hpair⟩, hblock⟩, hlow⟩, hhigh⟩ := hgood
  exact ⟨hkind, hpair, hblock, hlow, hhigh⟩

theorem completes_regRecordTake_good (h : s.isRegRecord (recWord (s.stagedWords x) 0)) : Completes .regRecordTake s (fun t =>
    t.xarray.staged = s.xarray.staged.filter (fun e => e.slot ≠ x.slot) ∧
      ∀ r, s.dove.round = some r → ∃ q, t.dove.round = some q ∧ q.copied = r.copied + 1) := by
  refine completes_of (exec_regRecordTake_good hon hstream hx h) ?_
  generalize hu : (s.recordTaken x).store _ _ _ = u
  have hstore : Fr 558363 (s.recordTaken x) u := hu ▸ fr_store (within_refl _) (fr_refl _)
  have hdove : u.dove = s.dove := (dove_of (hstore.same .insp (by decide))).trans (recordTaken_dove s x)
  have hcopied : Fr 566555 u u.regCopied := fr_regCopied (within_refl _) (fr_refl u)
  refine ⟨?_, fun r hr => regCopied_copied u r (hdove ▸ hr)⟩
  rw [← recordTaken_staged, hcopied.same .xarray (by decide), hstore.same .xarray (by decide)]

theorem completes_regRecordTake_bad (h : ¬s.isRegRecord (recWord (s.stagedWords x) 0)) : Completes .regRecordTake s (fun t =>
    t.xarray.staged = s.xarray.staged.filter (fun e => e.slot ≠ x.slot) ∧ t.reg 0x4400 0x15 = satAdd32 (s.reg 0x4400 0x15) 1 ∧ t.dove = s.dove) := by
  refine completes_of (exec_regRecordTake_bad hon hstream hx h) ⟨recordTaken_staged s x, ?_, recordTaken_dove s x⟩
  rw [inc32_reg_same, recordTaken_reg s x (by omega) (by omega)]

end Taken

/-! ### An update block sets its passing pairs (R257) -/

/-- The correction that pair `p` of an update block sets for the frame after that of a round. -/
def Round.pairUpdate (r : Round) (blk : Bytes) (p : Nat) : CorrUpdate :=
  ⟨r.frame + 1, p + 1, (r.start.getD (p + 1) (0, 0)).1 + toSigned 32 (field blk (16 + 16 * p) 4),
    (r.start.getD (p + 1) (0, 0)).2 + toSigned 16 (field blk (20 + 16 * p) 2), false⟩

/-- What each step makes for its own element and keeps for the others holds at the end. -/
theorem each_holds {α : Type} {P : State → Prop} {f : α → State → State} {xs : List α} {x : α} (hx : x ∈ xs) (hmake : ∀ s, P (f x s))
    (hkeep : ∀ y s, P s → P (f y s)) (s : State) : P (s.each xs f) := by
  unfold State.each
  induction xs generalizing s with
  | nil => exact absurd hx List.not_mem_nil
  | cons y ys ih =>
    rcases List.mem_cons.mp hx with rfl | hx
    · exact List.foldlRecOn ys _ (hmake s) fun t ht z _ => hkeep z t ht
    · exact ih hx _

theorem pairUpdate_mem_takeUpdate {r : Round} {blk : Bytes} {p : Nat} (hp : p + 1 < s.slots.length) (h : s.pairPasses blk p = true) :
    r.pairUpdate blk p ∈ (s.takeUpdate r blk).dove.updates := by
  unfold State.takeUpdate
  refine each_holds (P := fun u => r.pairUpdate blk p ∈ u.dove.updates) (x := p) ?_ (fun u => ?_) (fun q u hu => ?_) s
  · exact List.mem_filter.mpr ⟨List.mem_range.mpr (by omega), h⟩
  · exact List.mem_append_right _ List.mem_cons_self
  · by_cases hq : p = q
    · subst hq
      exact List.mem_append_right _ List.mem_cons_self
    · refine List.mem_append_left _ (List.mem_filter.mpr ⟨hu, ?_⟩)
      simpa [Round.pairUpdate] using hq

/-! ### DOVE_SHIFT (R257) -/

/-- An update block of frame `f`, modulo 2^32, is read in time for round `r` at the edge `e`: the round is complete, and the next frame has not begun. -/
def State.shiftTimely (s : State) (f : Nat) (r : Round) (e : EdgeRec) : Prop :=
  r.complete = true ∧ f = r.frame % 2 ^ 32 ∧ e.index < (r.frame + 1) * s.frameLen

/-- The state that has taken the event at dove.shift and read the update block. -/
def State.shiftRead (s : State) : State := (s.takeInput 0x311).readRange clsH (s.reg 0x4400 0x0C) 256

/-- The state that has counted an update block of frame `f` as late (R257). -/
def State.shiftLate (s : State) (f : Nat) : State := (s.inc32 0x4400 0x14 1).fire 0x84 f

theorem shiftRead_insp (s : State) : s.shiftRead.insp = s.insp := readRange_insp ..

theorem shiftRead_reg (s : State) {j b : Nat} (hj : 0x1110 < j ∧ j < 0x5800) (hb : b < 256) : s.shiftRead.reg j b = s.reg j b :=
  readRange_reg _ _ _ _ hj hb

theorem shiftRead_slots (s : State) : s.shiftRead.slots = s.slots := slots_of fun k hk => shiftRead_reg s (by omega) (by omega)

theorem shiftRead_frameLen (s : State) : s.shiftRead.frameLen = s.frameLen := shiftRead_reg s (by omega) (by omega)

theorem shiftRead_pairPasses (s : State) (blk : Bytes) (p : Nat) : s.shiftRead.pairPasses blk p = s.pairPasses blk p := by
  have hreg (b : Nat) (hb : b < 256) : s.shiftRead.reg 0x4400 b = s.reg 0x4400 b := shiftRead_reg s (by omega) hb
  unfold State.pairPasses
  rw [hreg 0x0D (by omega), hreg 0x0E (by omega), hreg 0x0F (by omega), hreg 0x10 (by omega)]

theorem shiftRead_dramFires (s : State) : s.dramFires s.shiftRead := dramFires_readRange (dramFires_same (dramFires_refl s) rfl)

section Shift

variable (hheld : (s.held 0x311).isSome = true) (hon : s.reg 0x4400 2 ≠ stOff)
include hheld hon

/-- Dovetail takes the event, reads the block, and tests it against the round in hand and the latest edge. -/
theorem exec_doveShift : exec .doveShift s = .next (
    let blk := s.loadZ (s.reg 0x4400 0x0C) 256
    let f := field blk 0 4
    match s.dove.round, s.latestEdge with
    | some r, some e => if r.complete && f = r.frame % 2 ^ 32 && e.index < (r.frame + 1) * s.frameLen then s.shiftRead.takeUpdate r blk
      else s.shiftRead.shiftLate f
    | _, _ => s.shiftRead.shiftLate f) := by
  have hdove : s.shiftRead.dove = s.dove := dove_of (shiftRead_insp s)
  have hedge : s.shiftRead.latestEdge = s.latestEdge := by unfold State.latestEdge; rw [shiftRead_insp]
  obtain ⟨ev, hev⟩ := Option.isSome_iff_exists.mp hheld
  rw [← hdove, ← hedge, ← shiftRead_frameLen s]
  show execDoveShift s = _
  unfold execDoveShift
  rw [hev]
  exact congrArg Host.Outcome.next (if_neg hon)

theorem exec_doveShift_timely {r : Round} {e : EdgeRec} (hr : s.dove.round = some r) (he : s.latestEdge = some e)
    (h : s.shiftTimely (field (s.loadZ (s.reg 0x4400 0x0C) 256) 0 4) r e) :
    exec .doveShift s = .next (s.shiftRead.takeUpdate r (s.loadZ (s.reg 0x4400 0x0C) 256)) := by
  obtain ⟨hcomplete, hframe, hline⟩ := h
  rw [exec_doveShift hheld hon, hr, he]
  refine congrArg Host.Outcome.next (if_pos ?_)
  simp only [Bool.and_eq_true, decide_eq_true_eq]
  exact ⟨⟨hcomplete, hframe⟩, hline⟩

theorem exec_doveShift_late
    (h : ∀ r e, s.dove.round = some r → s.latestEdge = some e → ¬s.shiftTimely (field (s.loadZ (s.reg 0x4400 0x0C) 256) 0 4) r e) :
    exec .doveShift s = .next (s.shiftRead.shiftLate (field (s.loadZ (s.reg 0x4400 0x0C) 256) 0 4)) := by
  rw [exec_doveShift hheld hon]
  refine congrArg Host.Outcome.next ?_
  dsimp only
  split
  · next r e hr he =>
    refine if_neg fun hc => h r e hr he ?_
    simp only [Bool.and_eq_true, decide_eq_true_eq] at hc
    obtain ⟨⟨hcomplete, hframe⟩, hline⟩ := hc
    exact ⟨hcomplete, hframe, hline⟩
  · rfl

theorem completes_doveShift_timely {r : Round} {e : EdgeRec} (hr : s.dove.round = some r) (he : s.latestEdge = some e)
    (h : s.shiftTimely (field (s.loadZ (s.reg 0x4400 0x0C) 256) 0 4) r e) : Completes .doveShift s (fun t =>
      t.reg 0x4400 0x14 = s.reg 0x4400 0x14 ∧ ∀ p, p + 1 < s.slots.length → s.pairPasses (s.loadZ (s.reg 0x4400 0x0C) 256) p = true →
        r.pairUpdate (s.loadZ (s.reg 0x4400 0x0C) 256) p ∈ t.dove.updates) := by
  refine completes_of (exec_doveShift_timely hheld hon hr he h) ⟨?_, fun p hp hpass => ?_⟩
  · exact (Low.at (L := 0x5800) (low_takeUpdate (low_refl _)) (by omega)).trans (shiftRead_reg s (by omega) (by omega))
  · exact pairUpdate_mem_takeUpdate ((shiftRead_slots s).symm ▸ hp) ((shiftRead_pairPasses ..).trans hpass)

theorem completes_doveShift_late
    (h : ∀ r e, s.dove.round = some r → s.latestEdge = some e → ¬s.shiftTimely (field (s.loadZ (s.reg 0x4400 0x0C) 256) 0 4) r e) :
    Completes .doveShift s (fun t => t.dove = s.dove ∧ s.firesLast t 0x84 (field (s.loadZ (s.reg 0x4400 0x0C) 256) 0 4) ∧
      t.reg 0x4400 0x14 = satAdd32 (s.reg 0x4400 0x14) 1) := by
  refine completes_of (exec_doveShift_late hheld hon h) ⟨dove_of ((fire_insp ..).trans (shiftRead_insp s)), ?_, ?_⟩
  · exact firesLast_fire (dramFires_same (shiftRead_dramFires s) rfl) (readRange_time ..)
  · unfold State.shiftLate
    rw [fire_low _ _ _ (by omega) (by omega) (by omega), inc32_reg_same, shiftRead_reg s (by omega) (by omega)]

end Shift

/-! ### CLEAR_CORR (R258) -/

theorem cmdClearCorr_ok {k : Nat} (hk : k ≠ 0) (hs : s.slots.contains k = true) : cmdClearCorr k s = .ok (s.modDove fun d => { d with
    updates := d.updates ++ [⟨match s.latestEdge with | some e => e.index / s.frameLen + 1 | none => 0, k, 0, 0, true⟩] }) := by
  unfold cmdClearCorr accept
  exact if_pos (by rw [hs, decide_eq_true hk]; rfl)

theorem completes_clearCorr {sess k : Nat} (hb : k < 16) (hl : s.letsCmd sess (0x4410 + k) 11) (hk : k ≠ 0) (hs : s.slots.contains k = true) :
    Completes (.clearCorr sess k) s (fun t =>
      t.dove.updates = s.dove.updates ++ [⟨match s.latestEdge with | some e => e.index / s.frameLen + 1 | none => 0, k, 0, 0, true⟩]) := by
  refine completes_of (exec_clearCorr hb hl) ?_
  rw [cmdClearCorr_ok hk hs]
  unfold State.commanded
  rw [dove_of (result_insp ..), modDove_dove]

end Sys2Proof.Machine
end

section
/-! Gleaner takes a stitched line (chapter 8, R261 to R265, R270), and the statement on registration and Gleaner as a whole. -/

set_option Elab.async false

namespace Sys2Proof.Machine

variable {s t : State}

/-! ### The closing of blobs does not stop Gleaner (R262 to R267) -/

theorem running_of (h : t.insp = s.insp) : t.glean.running = s.glean.running := by
  unfold State.glean
  rw [h]

theorem store_running (s : State) (k a : Nat) (bs : Bytes) : (s.store k a bs).glean.running = s.glean.running :=
  running_of ((fr_store (m := 558363) (within_refl _) (fr_refl s)).same .insp (by decide))

theorem ite_same {γ : Type} (P : State → γ) {p : Prop} [Decidable p] {v : γ} (hs : P s = v) (ht : P t = v) : P (if p then s else t) = v := by
  split
  · exact hs
  · exact ht

theorem record_running (c : GleanCfg) (l : Nat) (cut : List Nat) (o : Closing) (b : Blob) :
    (Closing.record c l cut o b).s.glean.running = o.s.glean.running := by
  unfold Closing.record
  dsimp only
  split
  all_goals
    split
    · exact ite_same (·.glean.running) ((running_of (fire_insp ..)).trans rfl) rfl
    · refine (foldl_same (fun a : State × Nat => a.1.glean.running) (fun a m => ?_) _ _).trans (ite_same (·.glean.running) rfl (store_running ..))
      dsimp only
      split <;> rfl

theorem sendRecords_running (s : State) (k n : Nat) (rs : List (Blob × List Nat)) : (s.sendRecords k n rs).glean.running = s.glean.running :=
  running_of ((fr_sendRecords (m := 262146) (within_refl _) (fr_refl s)).same .insp (by decide))

theorem closeBlobs_running (s : State) (c : GleanCfg) (l : Nat) (bs : List Blob) (cut : List Nat) :
    (s.closeBlobs c l bs cut).glean.running = s.glean.running := by
  unfold State.closeBlobs
  dsimp only
  generalize ho : List.foldl _ _ (List.filter _ _ ++ _) = o
  have hclosed : o.s.glean.running = s.glean.running := by
    rw [← ho]
    exact foldl_same (fun o : Closing => o.s.glean.running) (fun o b => record_running c l cut o b) _ _
  have hsent {p : Prop} [Decidable p] {k : Nat} := ite_same (·.glean.running) (p := p) hclosed
    ((sendRecords_running o.s k o.records.length o.records).trans hclosed)
  exact ite_same (·.glean.running) hsent ((running_of (fire_insp ..)).trans hsent)

/-! ### A line (R259 to R265, R270) -/

/-- `l` is the last line of a frame at whose end Gleaner stops (R270). -/
def State.gleanEnds (s : State) (l : Nat) : Bool := s.gleanEnding && l % s.frameLen + 1 = s.frameLen

theorem gleanEnds_iff {l : Nat} : s.gleanEnds l = true ↔ s.gleanEnding = true ∧ l % s.frameLen + 1 = s.frameLen := by
  unfold State.gleanEnds
  rw [Bool.and_eq_true, decide_eq_true_eq]

/-- A line leaves Gleaner's queue as it is and shows the number of open blobs; then blobs close, and Gleaner stops where the line ends its last frame. -/
theorem gleanLine_eq (s : State) (ln : StitchedLine) : ∃ (u : State) (c : GleanCfg) (bs : List Blob) (cut : List Nat),
    s.gleanLine ln = (if s.gleanEnds ln.line then (u.closeBlobs c ln.line bs cut).gleanStop else u.closeBlobs c ln.line bs cut) ∧
      u.glean.queue = s.glean.queue ∧ u.glean.running = s.glean.running ∧ u.reg 0x4480 0x14 = u.glean.blobs.length := by
  unfold State.gleanLine
  refine ⟨_, _, _, _, rfl, ?_, ?_, ?_⟩
  · exact ite_same (·.glean.queue) rfl rfl
  · exact ite_same (·.glean.running) rfl rfl
  · rw [reg_setReg_same]
    symm
    exact ite_same (·.glean.blobs.length) rfl rfl

/-- The state that has taken a line from Gleaner's queue, of which `rest` is left. -/
def State.gleanTaken (s : State) (rest : List StitchedLine) : State := s.modGlean fun g => { g with queue := rest }

theorem exec_gleanerLine {ln : StitchedLine} {rest : List StitchedLine} (h : s.glean.queue = ln :: rest) :
    exec .gleanerLine s = .next ((s.gleanTaken rest).gleanLine ln) := by
  show execGleanerLine s = _
  unfold execGleanerLine
  rw [h]
  rfl

section Line

variable {ln : StitchedLine} {rest : List StitchedLine} (hq : s.glean.queue = ln :: rest)
include hq

theorem completes_gleanerLine_last (h : s.gleanEnding = true ∧ ln.line % s.frameLen + 1 = s.frameLen) : Completes .gleanerLine s (fun t =>
    t.glean.queue = [] ∧ t.glean.running = false ∧ t.glean.blobs = [] ∧ t.reg 0x4480 0x14 = 0) := by
  obtain ⟨u, c, bs, cut, hline, -⟩ := gleanLine_eq (s.gleanTaken rest) ln
  refine completes_of (exec_gleanerLine hq) ?_
  have hends : (s.gleanTaken rest).gleanEnds ln.line = true := gleanEnds_iff.mpr h
  rw [hline, if_pos hends]
  exact gleanStop_eff _

theorem completes_gleanerLine (h : ¬(s.gleanEnding = true ∧ ln.line % s.frameLen + 1 = s.frameLen)) : Completes .gleanerLine s (fun t =>
    t.glean.queue = rest ∧ t.glean.running = s.glean.running ∧ t.reg 0x4480 0x14 = t.glean.blobs.length) := by
  obtain ⟨u, c, bs, cut, hline, hqueue, hrunning, hshown⟩ := gleanLine_eq (s.gleanTaken rest) ln
  have hkept := closeBlobs_kept u c ln.line bs cut
  simp only [gleanKept, Prod.mk.injEq] at hkept
  obtain ⟨kqueue, -, kblobs, kshown⟩ := hkept
  refine completes_of (exec_gleanerLine hq) ?_
  have hgoes : ¬(s.gleanTaken rest).gleanEnds ln.line = true := mt gleanEnds_iff.mp h
  rw [hline, if_neg hgoes]
  exact ⟨kqueue.trans hqueue, (closeBlobs_running ..).trans hrunning, by rw [kshown, kblobs, hshown]⟩

end Line

/-! ### The statement -/

/-- Settles O38: a round is written once its lines have left stage B; a record is copied or counted; an update block sets its passing pairs or counts as late;
a correction is cleared; and Gleaner takes a line, and stops at the end of its last frame. -/
theorem registrationAndGleaner : Obligations.RegistrationAndGleaner := by
  intro s
  refine ⟨fun r => completes_regReady, fun x hon hstream hx => ?_, exec_regRecordTake_none, fun hheld hon => ?_, fun sess k => completes_clearCorr,
    fun ln rest hq => ⟨completes_gleanerLine_last hq, completes_gleanerLine hq⟩⟩
  · exact ⟨completes_regRecordTake_good hon hstream hx, completes_regRecordTake_bad hon hstream hx⟩
  · exact ⟨fun r e => completes_doveShift_timely hheld hon, completes_doveShift_late hheld hon⟩

end Sys2Proof.Machine
end

section
/-! What the DSP core's own operations queue and leave alone, and how a slot A operation runs on them (chapter 9, R281, R291, R298). -/

set_option Elab.async false

namespace Sys2Proof.Machine

variable {s : State} {n op w : Nat} {c c1 c2 : DspCore} {i : Instr}

/-! ### The writes that a core's operations queue (R291) -/

theorem wrote_trans {ws vs : List PendWrite} (h : c.wrote c1 ws) (k : c1.wrote c2 vs) : c.wrote c2 (ws ++ vs) := by
  obtain ⟨hw, hd, ha, hm, hmem, hpc, hfar, hissued⟩ := h
  obtain ⟨kw, kd, ka, km, kmem, kpc, kfar, kissued⟩ := k
  exact ⟨by rw [kw, hw, List.append_assoc], kd.trans hd, ka.trans ha, km.trans hm, kmem.trans hmem, kpc.trans hpc, kfar.trans hfar, kissued.trans hissued⟩

theorem wrote_queue (k : Nat) (v : RegWrite) : c.wrote (c.queue k v) [⟨c.bundle + k, false, v⟩] := ⟨rfl, rfl, rfl, rfl, rfl, rfl, rfl, rfl⟩

theorem wrote_saturated (bit : Nat) (b : Bool) : c.wrote (c.saturated bit b) [] := by
  cases b <;> exact wrote_refl c

theorem wrote_detect (vs : List Word32) : c.wrote (c.detect vs)
    [⟨c.bundle + 1, false, .cr 0x0B (vs.foldl (fun a v => min a (min (headroom (cRe v)) (headroom (cIm v)))) c.bxm)⟩] := wrote_queue _ _

theorem wrote_result (k d : Nat) (v : Word32) (bad : Bool) : c.wrote (c.result k d v bad) [⟨c.bundle + k, false, .d d (if bad then 0 else v) bad⟩] := by
  cases bad <;> exact wrote_queue _ _

theorem result_dResult (k : Nat) (v : Word32) (bad : Bool) : c.dResult (c.result k (fD w) v bad) k w v bad false := dResult_of ..

theorem wrote_setAc (a : Nat) (v : DspAcc) : c.wrote (c.setAc a v) [⟨c.bundle + 2, false, .ac a v⟩] := by
  unfold DspCore.setAc
  split <;> exact wrote_queue _ _

theorem wrote_raise (cause code data b : Nat) : c.wrote (c.raise cause code data b) [] := by
  unfold DspCore.raise
  split
  · exact wrote_refl c
  · split <;> exact wrote_refl c

/-- The first fault with EXC clear is the one taken (R303). -/
theorem raise_trap {cause code data b : Nat} (hexc : bitAt c.sr srExc = false) (htrap : c.trap = none) :
    (c.raise cause code data b).trap = some ⟨cause, code, b, data, 0⟩ := (raise_of cause code data b hexc htrap).2

@[simp] theorem saturated_bundle (bit : Nat) (b : Bool) : (c.saturated bit b).bundle = c.bundle := by cases b <;> rfl

@[simp] theorem saturated_bxm (bit : Nat) (b : Bool) : (c.saturated bit b).bxm = c.bxm := by cases b <;> rfl

@[simp] theorem result_bundle (k d : Nat) (v : Word32) (bad : Bool) : (c.result k d v bad).bundle = c.bundle := by cases bad <;> rfl

@[simp] theorem setAc_bundle (a : Nat) (v : DspAcc) : (c.setAc a v).bundle = c.bundle := by unfold DspCore.setAc; split <;> rfl

@[simp] theorem setAc_ac (a : Nat) (v : DspAcc) : (c.setAc a v).ac = modNth (fun _ => v) c.ac a := by unfold DspCore.setAc; split <;> rfl

theorem putAc_acResult (a : Nat) (re im : Int) (bad : Bool) : c.acResult (c.putAc a re im bad) a re im bad := acResult_of c a re im bad

@[simp] theorem putAc_bundle (a : Nat) (re im : Int) (bad : Bool) : (c.putAc a re im bad).bundle = c.bundle := by cases bad <;> simp [DspCore.putAc]

/-! ### Slot A operations in a bundle that issues -/

theorem completes_imp {P Q : State → Prop} (h : Completes i s P) (hpq : ∀ t, P t → Q t) : Completes i s Q := by
  obtain ⟨t, ht, hp⟩ := h
  exact ⟨t, ht, hpq t hp⟩

theorem slotAWith_next {f : Nat → State → State} (h : s.atA n op w c) : s.slotAWith n op f = .next ((f w (s.beginBundle n)).countSat n) := by
  obtain ⟨hn, -, ⟨b, hissue, hword, hgoes⟩, -⟩ := h
  unfold State.slotAWith
  rw [inst_ok (decide_eq_true hn), hissue]
  dsimp only
  rw [if_neg (by rw [hgoes]; decide), hword]

theorem atA_length (h : s.atA n op w c) : n < (s.beginBundle n).dsp.cores.length := by
  obtain ⟨-, hlen, -⟩ := h
  rwa [begin_len]

theorem atA_core (h : s.atA n op w c) : (s.beginBundle n).core n = c := by
  obtain ⟨-, -, -, hc⟩ := h
  exact hc

/-- A slot A operation that reads the state and then maps the core. -/
theorem completes_slotAWith {f : Nat → State → State} {g : DspCore → DspCore} (h : s.atA n op w c) (hi : exec i s = s.slotAWith n op f)
    (hf : f w (s.beginBundle n) = (s.beginBundle n).modCore n g) : Completes i s (fun t => t.core n = { g c with satNow := false }) := by
  refine completes_of (hi.trans (slotAWith_next h)) ?_
  rw [hf, countSat_core (by rw [modCore_len]; exact atA_length h), core_mod _ (atA_length h), atA_core h]

section Completes

variable (f : Nat → DspCore → DspCore)

theorem completes_wrote {ws : List PendWrite} (h : s.atA n op w c) (hi : exec i s = s.slotAOp n op f) (hf : c.wrote (f w c) ws) :
    Completes i s (fun t => c.wrote (t.core n) ws) :=
  slotA_done (f := f) h hi fun t ht => by rw [ht]; exact hf

theorem completes_acResult {a : Nat} {re im : Int} {bad : Bool} (h : s.atA n op w c) (hi : exec i s = s.slotAOp n op f)
    (hf : c.acResult (f w c) a re im bad) : Completes i s (fun t => c.acResult (t.core n) a re im bad) :=
  slotA_done (f := f) h hi fun t ht => by rw [ht]; exact hf

theorem completes_dResult {k : Nat} {v : Word32} {bad sat : Bool} (h : s.atA n op w c) (hi : exec i s = s.slotAOp n op f)
    (hf : c.dResult (f w c) k w v bad sat) : Completes i s (fun t => c.dResult (t.core n) k w v bad sat) :=
  slotA_done (f := f) h hi fun t ht => by rw [ht]; exact hf

end Completes

end Sys2Proof.Machine
end

section
/-! The accumulator operations of slot A, and the moves from the accumulators (chapter 9, R281 to R283, R287, R291, R298). -/

set_option Elab.async false

namespace Sys2Proof.Machine

variable {s : State} {n w : Nat} {c : DspCore}

/-! ### The accumulator operations (R281, R287) -/

/-- A multiply that takes the place of what its accumulator holds. -/
theorem mulAcc_replaces (p : Word32 → Word32 → Int × Int) : c.acResult (c.mulAcc w 0 1 p) (w % 2)
    (p (c.dv (fX w)) (c.dv (fY w))).1 (p (c.dv (fX w)) (c.dv (fY w))).2 (c.poisoned (fX w) || c.poisoned (fY w)) :=
  mulAcc_of c w 0 1 p (by omega) (by omega) (by simp)

/-- A multiply that adds to what its accumulator holds. -/
theorem mulAcc_adds (p : Word32 → Word32 → Int × Int) : c.acResult (c.mulAcc w 1 1 p) (w % 2)
    ((c.acc (w % 2)).re + (p (c.dv (fX w)) (c.dv (fY w))).1) ((c.acc (w % 2)).im + (p (c.dv (fX w)) (c.dv (fY w))).2)
    (c.poisoned (fX w) || c.poisoned (fY w) || (c.acc (w % 2)).poison) :=
  mulAcc_of c w 1 1 p (by omega) (by omega) (by simp)

/-- A multiply that subtracts from what its accumulator holds. -/
theorem mulAcc_subtracts (p : Word32 → Word32 → Int × Int) : c.acResult (c.mulAcc w 1 (-1) p) (w % 2)
    ((c.acc (w % 2)).re - (p (c.dv (fX w)) (c.dv (fY w))).1) ((c.acc (w % 2)).im - (p (c.dv (fX w)) (c.dv (fY w))).2)
    (c.poisoned (fX w) || c.poisoned (fY w) || (c.acc (w % 2)).poison) :=
  mulAcc_of c w 1 (-1) p (by omega) (by omega) (by simp)

theorem exec_cmag : exec (.cmag n) s = s.slotAOp n 0x06 (fun w c =>
    c.putAc (w % 2) ((c.acc (w % 2)).re + cRe (c.dv (fX w)) * cRe (c.dv (fX w)) + cIm (c.dv (fX w)) * cIm (c.dv (fX w))) (c.acc (w % 2)).im
      (c.poisoned (fX w) || (c.acc (w % 2)).poison)) := rfl

/-- Two accumulator results of one bundle. -/
theorem putAc_putAc {re im re' im' : Int} {bad : Bool} :
    c.wrote ((c.putAc 0 re im bad).putAc 1 re' im' bad)
        [⟨c.bundle + 2, false, .ac 0 (accValue re im bad)⟩, ⟨c.bundle + 2, false, .ac 1 (accValue re' im' bad)⟩] ∧
      ((c.putAc 0 re im bad).putAc 1 re' im' bad).ac = modNth (fun _ => accValue re' im' bad) (modNth (fun _ => accValue re im bad) c.ac 0) 1 := by
  obtain ⟨hfirst, hac, -⟩ := putAc_acResult (c := c) 0 re im bad
  obtain ⟨hsecond, hac', -⟩ := putAc_acResult (c := c.putAc 0 re im bad) 1 re' im' bad
  rw [putAc_bundle] at hsecond
  exact ⟨wrote_trans hfirst hsecond, by rw [hac', hac]⟩

/-- What CBFLY does to its core (R287). -/
def DspCore.butterfly (c : DspCore) (w : Nat) : DspCore :=
  let x := c.dv (fX w)
  let p := cMul (c.dv (fY w)) (c.dv (fZ w))
  let bad := c.poisoned (fX w) || c.poisoned (fY w) || c.poisoned (fZ w)
  (c.putAc 0 (cRe x * 2 ^ 15 + p.1) (cIm x * 2 ^ 15 + p.2) bad).putAc 1 (cRe x * 2 ^ 15 - p.1) (cIm x * 2 ^ 15 - p.2) bad

theorem exec_cbfly : exec (.cbfly n) s = s.slotAOp n 0x07 (fun w c => c.butterfly w) := rfl

theorem setAc_setAc (v : DspAcc) : c.wrote ((c.setAc 0 v).setAc 1 v) [⟨c.bundle + 2, false, .ac 0 v⟩, ⟨c.bundle + 2, false, .ac 1 v⟩] ∧
    ((c.setAc 0 v).setAc 1 v).ac = modNth (fun _ => v) (modNth (fun _ => v) c.ac 0) 1 := by
  have hsecond := wrote_setAc (c := c.setAc 0 v) 1 v
  rw [setAc_bundle] at hsecond
  exact ⟨wrote_trans (wrote_setAc 0 v) hsecond, by rw [setAc_ac, setAc_ac]⟩

/-- What ACLR does to its core (R287). -/
def DspCore.clear (c : DspCore) (w : Nat) : DspCore :=
  if bitAt w 1 then (c.setAc 0 DspAcc.zero).setAc 1 DspAcc.zero else c.setAc (w % 2) DspAcc.zero

theorem exec_aclr : exec (.aclr n) s = s.slotAOp n 0x08 (fun w c => c.clear w) := rfl

/-! ### Moves (R282, R283, R298) -/

/-- A D result that may have saturated. -/
theorem saturated_result (k : Nat) (v : Word32) (bad sat : Bool) :
    c.dResult ((if bad then c else c.saturated srSat sat).result k (fD w) v bad) k w v bad sat := by
  cases bad <;> cases sat <;> exact ⟨⟨rfl, rfl, rfl, rfl, rfl, rfl, rfl, rfl⟩, rfl, rfl⟩

theorem result_result (k d e : Nat) (v u : Word32) (bad bad' : Bool) : c.wrote ((c.result k d v bad).result k e u bad')
    [⟨c.bundle + k, false, .d d (if bad then 0 else v) bad⟩, ⟨c.bundle + k, false, .d e (if bad' then 0 else u) bad'⟩] := by
  have hsecond := wrote_result (c := c.result k d v bad) k e u bad'
  rw [result_bundle] at hsecond
  exact wrote_trans (wrote_result k d v bad) hsecond

/-- What MVA does to its core (R282). -/
def DspCore.mva (c : DspCore) (w : Nat) : DspCore :=
  let bad := (c.accOut (w % 2)).poison
  let r := c.moved w (w % 2)
  let c := if bad then c else c.saturated srSat r.2
  (if bitAt w 4 && !bitAt w 5 && !bad then c.detect [r.1] else c).result 2 (fD w) r.1 bad

theorem exec_mva : exec (.mva n) s = s.slotAOp n 0x09 (fun w c => c.mva w) := rfl

/-- Without block scaling a move is a D result two bundles on. -/
theorem mva_dResult (h : (bitAt w 4 && !bitAt w 5 && !(c.accOut (w % 2)).poison) = false) :
    c.dResult (c.mva w) 2 w (c.moved w (w % 2)).1 (c.accOut (w % 2)).poison (c.moved w (w % 2)).2 := by
  unfold DspCore.mva
  dsimp only
  rw [h]
  exact saturated_result ..

/-- With block scaling the headroom of what is moved joins BXM (R283). -/
theorem mva_detects (h : (bitAt w 4 && !bitAt w 5 && !(c.accOut (w % 2)).poison) = true) : c.wrote (c.mva w)
    [⟨c.bundle + 1, false, .cr 0x0B (min c.bxm (min (headroom (cRe (c.moved w (w % 2)).1)) (headroom (cIm (c.moved w (w % 2)).1))))⟩,
      ⟨c.bundle + 2, false, .d (fD w) (c.moved w (w % 2)).1 false⟩] := by
  have hgood : (c.accOut (w % 2)).poison = false := by
    rw [Bool.and_eq_true, Bool.not_eq_true'] at h
    exact h.2
  unfold DspCore.mva
  dsimp only
  rw [if_pos h, hgood, if_neg (by decide)]
  have hroom := wrote_detect (c := c.saturated srSat (c.moved w (w % 2)).2) [(c.moved w (w % 2)).1]
  have hmoved := wrote_result (c := (c.saturated srSat (c.moved w (w % 2)).2).detect [(c.moved w (w % 2)).1]) 2 (fD w) (c.moved w (w % 2)).1 false
  have hbundle : ((c.saturated srSat (c.moved w (w % 2)).2).detect [(c.moved w (w % 2)).1]).bundle = c.bundle := saturated_bundle ..
  rw [saturated_bundle, saturated_bxm] at hroom
  rw [hbundle] at hmoved
  exact wrote_trans (wrote_saturated ..) (wrote_trans hroom hmoved)

/-- What MVA2 does to its core (R282). -/
def DspCore.mva2 (c : DspCore) (w : Nat) : DspCore :=
  let b0 := (c.accOut 0).poison
  let b1 := (c.accOut 1).poison
  let r0 := c.moved w 0
  let r1 := c.moved w 1
  let c := c.saturated srSat ((!b0 && r0.2) || (!b1 && r1.2))
  let c := if bitAt w 4 then c.detect ((if b0 then [] else [r0.1]) ++ (if b1 then [] else [r1.1])) else c
  (c.result 2 (fD w) r0.1 b0).result 2 (fD w + 1) r1.1 b1

theorem exec_mva2 : exec (.mva2 n) s = s.slotAOp n 0x0A (fun w c => c.mva2 w) := rfl

theorem mva2_wrote (h : bitAt w 4 = false) : c.wrote (c.mva2 w)
    [⟨c.bundle + 2, false, .d (fD w) (if (c.accOut 0).poison then 0 else (c.moved w 0).1) (c.accOut 0).poison⟩,
      ⟨c.bundle + 2, false, .d (fD w + 1) (if (c.accOut 1).poison then 0 else (c.moved w 1).1) (c.accOut 1).poison⟩] := by
  unfold DspCore.mva2
  dsimp only
  rw [h, if_neg (by decide)]
  generalize (!(c.accOut 0).poison && (c.moved w 0).2 || !(c.accOut 1).poison && (c.moved w 1).2) = sat
  have hmoved := result_result (c := c.saturated srSat sat) 2 (fD w) (fD w + 1) (c.moved w 0).1 (c.moved w 1).1 (c.accOut 0).poison (c.accOut 1).poison
  rw [saturated_bundle] at hmoved
  exact wrote_trans (wrote_saturated ..) hmoved

theorem mva2_detects (h : bitAt w 4 = true) (h0 : (c.accOut 0).poison = false) (h1 : (c.accOut 1).poison = false) : c.wrote (c.mva2 w)
    [⟨c.bundle + 1, false, .cr 0x0B (min (min c.bxm (min (headroom (cRe (c.moved w 0).1)) (headroom (cIm (c.moved w 0).1))))
        (min (headroom (cRe (c.moved w 1).1)) (headroom (cIm (c.moved w 1).1))))⟩,
      ⟨c.bundle + 2, false, .d (fD w) (c.moved w 0).1 false⟩, ⟨c.bundle + 2, false, .d (fD w + 1) (c.moved w 1).1 false⟩] := by
  unfold DspCore.mva2
  dsimp only
  rw [h, h0, h1, if_pos rfl]
  generalize (!false && (c.moved w 0).2 || !false && (c.moved w 1).2) = sat
  have hroom := wrote_detect (c := c.saturated srSat sat) [(c.moved w 0).1, (c.moved w 1).1]
  have hmoved := result_result (c := (c.saturated srSat sat).detect [(c.moved w 0).1, (c.moved w 1).1]) 2 (fD w) (fD w + 1) (c.moved w 0).1 (c.moved w 1).1
    false false
  have hbundle : ((c.saturated srSat sat).detect [(c.moved w 0).1, (c.moved w 1).1]).bundle = c.bundle := saturated_bundle ..
  rw [saturated_bundle, saturated_bxm] at hroom
  rw [hbundle] at hmoved
  exact wrote_trans (wrote_saturated ..) (wrote_trans hroom hmoved)

/-! ### The statement -/

/-- Settles O39: each multiply puts one accumulator result, the butterfly and a clear of both put two, and a move is a D result, before which block scaling
detects. -/
theorem dspAccumulates : Obligations.DspAccumulates := by
  intro s n w c
  refine ⟨fun h => completes_acResult (fun w c => c.mulAcc w 0 1 cMul) h rfl (mulAcc_replaces cMul),
    fun h => completes_acResult (fun w c => c.mulAcc w 0 1 cMulConj) h rfl (mulAcc_replaces cMulConj),
    fun h => completes_acResult (fun w c => c.mulAcc w 1 1 cMul) h rfl (mulAcc_adds cMul),
    fun h => completes_acResult (fun w c => c.mulAcc w 1 1 cMulConj) h rfl (mulAcc_adds cMulConj),
    fun h => completes_acResult (fun w c => c.mulAcc w 1 (-1) cMul) h rfl (mulAcc_subtracts cMul),
    fun h => completes_acResult _ h exec_cmag (putAc_acResult ..),
    fun h => slotA_done h exec_cbfly fun t ht => ?_,
    fun h => slotA_done h exec_aclr fun t ht => ⟨fun hone => ?_, fun hboth => ?_⟩,
    fun h => slotA_done h exec_mva fun t ht => ⟨fun hplain => ?_, fun hdetect => ?_⟩,
    fun h hplain => completes_wrote _ h exec_mva2 (mva2_wrote hplain),
    fun h hdetect h0 h1 => completes_wrote _ h exec_mva2 (mva2_detects hdetect h0 h1)⟩
  all_goals rw [ht]
  · exact putAc_putAc
  · unfold DspCore.clear
    rw [if_neg (by rw [hone]; decide)]
    exact ⟨wrote_setAc .., setAc_ac ..⟩
  · unfold DspCore.clear
    rw [if_pos hboth]
    exact setAc_setAc _
  · exact mva_dResult hplain
  · exact mva_detects hdetect

end Sys2Proof.Machine
end

section
/-! The complex, integer, shift, immediate, compare, multiply and divide operations of slot A (chapter 9, R283, R284, R287, R291, R298). -/

set_option Elab.async false

namespace Sys2Proof.Machine

variable {s : State} {n op w : Nat} {c : DspCore} {i : Instr}

/-! ### D results -/

theorem complexResult_complexSum (re im : Int) (bad : Bool) : c.complexSum (c.complexResult w re im bad) w re im bad := complexSum_of ..

theorem intOp_dResult (k : Nat) (f : Word32 → Word32 → Word32) :
    c.dResult (c.intOp k w f) k w (f (c.dv (fX w)) (c.dv (fY w))) (c.badXY w) false := result_dResult ..

/-- The three control registers that BEXS sets (R283). -/
theorem bexs_wrote (a b d : Nat) : c.wrote (((c.queue 1 (.cr 0x0C a)).queue 1 (.cr 0x0D b)).queue 1 (.cr 0x0B d))
    [⟨c.bundle + 1, false, .cr 0x0C a⟩, ⟨c.bundle + 1, false, .cr 0x0D b⟩, ⟨c.bundle + 1, false, .cr 0x0B d⟩] := bexs_of c a b d

theorem completes_complexSum {f : Nat → DspCore → DspCore} {re im : Int} {bad : Bool} (h : s.atA n op w c) (hi : exec i s = s.slotAOp n op f)
    (hf : f w c = c.complexResult w re im bad) : Completes i s (fun t => c.complexSum (t.core n) w re im bad) :=
  completes_dResult f h hi (hf ▸ complexResult_complexSum re im bad)

/-- A shift is by its immediate amount, or by the low five bits of y (R287). -/
theorem shiftOp_dResult (f : Word32 → Nat → Word32) : c.dResult (c.shiftOp w f) 1 w
    (f (c.dv (fX w)) (if bitAt w 9 then bits w 4 0 else (c.dv (fY w)).toNat % 32)) (if bitAt w 9 then c.poisoned (fX w) else c.badXY w) false := by
  unfold DspCore.shiftOp
  split <;> exact result_dResult ..

theorem exec_cadd : exec (.cadd n) s = s.slotAOp n 0x0B (fun w c =>
    c.complexResult w (cRe (c.dv (fX w)) + cRe (c.dv (fY w))) (cIm (c.dv (fX w)) + cIm (c.dv (fY w))) (c.badXY w)) := rfl

theorem exec_csub : exec (.csub n) s = s.slotAOp n 0x0C (fun w c =>
    c.complexResult w (cRe (c.dv (fX w)) - cRe (c.dv (fY w))) (cIm (c.dv (fX w)) - cIm (c.dv (fY w))) (c.badXY w)) := rfl

theorem exec_cconj : exec (.cconj n) s = s.slotAOp n 0x0D (fun w c =>
    c.complexResult w (cRe (c.dv (fX w))) (-cIm (c.dv (fX w))) (c.poisoned (fX w))) := rfl

theorem exec_bexd : exec (.bexd n) s = s.slotAOp n 0x0E (fun w c =>
    c.detect (((if bitAt w 0 then [fX w, fY w] else [fX w]).filter (fun r => !c.poisoned r)).map c.dv)) := rfl

theorem exec_bexs : exec (.bexs n) s = s.slotAOp n 0x0F (fun w c =>
    ((c.queue 1 (.cr 0x0C (bits w 1 0 - c.bxm))).queue 1 (.cr 0x0D (min (c.bexp + (bits w 1 0 - c.bxm)) 255))).queue 1 (.cr 0x0B 15)) := rfl

theorem exec_movhi : exec (.movhi n) s = s.slotAOp n 0x1A (fun w c =>
    c.result 1 (fD w) (BitVec.ofNat 32 (w % 2 ^ 16 * 2 ^ 16 + (c.dv (fD w)).toNat % 2 ^ 16)) (c.poisoned (fD w))) := rfl

theorem exec_cmpD : exec (.cmpD n) s = s.slotAOp n 0x1B (fun w c =>
    c.queue 1 (.flag (fD w % 4) (!c.badXY w && cmpHolds (bits w 2 0) (c.dv (fX w)) (c.dv (fY w))))) := rfl

/-! ### The divider (R284, R291) -/

/-- The count of a bundle that saturated is in 5000h+n.11. -/
theorem countSat_reg {j b : Nat} (hb : b < 256) (h : b ≠ 0x11) : (s.countSat n).reg j b = s.reg j b := by
  unfold State.countSat
  split
  · exact inc64_reg_key _ _ (by simp only [key]; omega)
  · rfl

theorem divStart_wrote : c.wrote (divStart w c) [] := by
  unfold divStart
  dsimp only
  repeat' split
  all_goals exact wrote_refl c

theorem divStart_div : (divStart w c).div =
    some ⟨c.bundle + 18, false, .d (fD w) (if c.badXY w then 0 else (dspDiv (c.dv (fX w)) (c.dv (fY w))).1) (c.badXY w)⟩ := by
  unfold divStart
  dsimp only
  repeat' split
  all_goals rfl

theorem divStart_sr : (divStart w c).sr =
    if c.badXY w then setBit c.sr srPsn else if (dspDiv (c.dv (fX w)) (c.dv (fY w))).2 then setBit c.sr srDz else c.sr := by
  unfold divStart
  dsimp only
  repeat' split
  all_goals rfl

theorem exec_divD : exec (.divD n) s = s.slotAWith n 0x1D (fun w s =>
    ((s.inc64 (0x5000 + n) 9 (divWait (s.core n))).modCore n (divEnd (divWait (s.core n)))).modCore n (divStart w)) := rfl

/-- A DIV ends the one in flight, whose ticks until then are stalls, and starts. -/
theorem completes_divD (h : s.atA n 0x1D w c) : Completes (.divD n) s (fun t =>
    t.core n = { divStart w (divEnd (divWait c) c) with satNow := false } ∧ t.reg (0x5000 + n) 9 = wrapAdd64 (s.reg (0x5000 + n) 9) (divWait c)) := by
  refine completes_of (exec_divD.trans (slotAWith_next h)) ⟨?_, ?_⟩
  · have hlen := atA_length h
    rw [countSat_core (by rwa [modCore_len, modCore_len, inc64_dsp]), modCore_modCore, core_mod _ (by rwa [inc64_dsp]), core_of (inc64_dsp ..), atA_core h]
  · rw [countSat_reg (by omega) (by omega), modCore_reg, modCore_reg, inc64_reg_same, atA_core h, begin_reg _ _ (by omega) (by omega) (by omega)]

/-! ### The statement -/

/-- Settles O40: every operation but DIV queues one result for the next bundle or, for MUL, the one after; a DIV starts once none is in flight. -/
theorem dspComputes : Obligations.DspComputes := by
  intro s n w c
  refine ⟨fun h => completes_complexSum h exec_cadd rfl, fun h => completes_complexSum h exec_csub rfl,
    fun h => completes_complexSum h exec_cconj rfl, fun h => completes_wrote _ h exec_bexd (wrote_detect _),
    fun h => completes_wrote _ h exec_bexs (bexs_wrote ..),
    fun h => completes_dResult (fun w c => c.intOp 1 w (fun x y => x + y)) h rfl (intOp_dResult 1 _),
    fun h => completes_dResult (fun w c => c.intOp 1 w (fun x y => x - y)) h rfl (intOp_dResult 1 _),
    fun h => completes_dResult (fun w c => c.intOp 1 w (fun x y => x &&& y)) h rfl (intOp_dResult 1 _),
    fun h => completes_dResult (fun w c => c.intOp 1 w (fun x y => x ||| y)) h rfl (intOp_dResult 1 _),
    fun h => completes_dResult (fun w c => c.intOp 1 w (fun x y => x ^^^ y)) h rfl (intOp_dResult 1 _),
    fun h => completes_dResult (fun w c => c.shiftOp w (fun x k => x <<< k)) h rfl (shiftOp_dResult _),
    fun h => completes_dResult (fun w c => c.shiftOp w (fun x k => x.sshiftRight k)) h rfl (shiftOp_dResult _),
    fun h => completes_dResult (fun w c => c.shiftOp w (fun x k => x >>> k)) h rfl (shiftOp_dResult _),
    fun h => completes_dResult (fun w c => c.result 1 (fD w) (c.dv (fX w) + BitVec.ofInt 32 (toSigned 14 w)) (c.poisoned (fX w))) h rfl (result_dResult ..),
    fun h => completes_dResult (fun w c => c.result 1 (fD w) (BitVec.ofInt 32 (toSigned 16 w)) false) h rfl (result_dResult ..),
    fun h => completes_dResult _ h exec_movhi (result_dResult ..), fun h => completes_wrote _ h exec_cmpD (wrote_queue ..),
    fun h => completes_dResult (fun w c => c.intOp 2 w (fun x y => x * y)) h rfl (intOp_dResult 2 _),
    fun h hidle => ?_, fun p h hbusy => ?_⟩
  · obtain ⟨t, ht, hcore, hstalls⟩ := completes_divD h
    rw [divEnd_none hidle] at hcore
    refine ⟨t, ht, ?_, ?_, ?_, ?_⟩
    · rw [hcore]
      exact divStart_wrote
    · rw [hcore]
      exact divStart_div
    · rw [hcore]
      exact divStart_sr
    · rw [hstalls, divWait, hidle]
  · obtain ⟨t, ht, hcore, hstalls⟩ := completes_divD h
    refine ⟨t, ht, ?_, ?_⟩
    · rw [hcore, divWait, divEnd, hbusy]
      exact divStart_div
    · rw [hstalls, divWait, hbusy]

end Sys2Proof.Machine
end

section
/-! Control and address registers, events and traps of slot A (chapter 9, R279, R287, R296, R298, R300, R303). -/

set_option Elab.async false

namespace Sys2Proof.Machine

variable {s : State} {n w : Nat} {c : DspCore}

/-! ### Control and address registers -/

theorem exec_movcw : exec (.movcw n) s = s.slotAOp n 0x1F (fun w c =>
    if crWritable (bits w 5 0) (c.dv (fX w)).toNat then c.queue 1 (.cr (bits w 5 0) (c.dv (fX w)).toNat) else c.raise cIllegalCr 0 0 c.pc) := rfl

theorem exec_movar : exec (.movar n) s = s.slotAOp n 0x20 (fun w c =>
    c.result 1 (fD w) (if bits w 3 0 < 8 then nthD 0 c.a (bits w 3 0) else nthD 0 c.m (bits w 3 0 - 8)) false) := rfl

theorem exec_movra : exec (.movra n) s = s.slotAOp n 0x21 (fun w c =>
    c.queue 1 (if bits w 3 0 < 8 then .a (bits w 3 0) (c.dv (fX w)) else .m (bits w 3 0 - 8) (c.dv (fX w)))) := rfl

/-- The core once MOVC has read the value `v` (R279). -/
def DspCore.movc (c : DspCore) (w v : Nat) : DspCore :=
  { c with cych := if bits w 5 0 = 0x0E then c.cycl / 2 ^ 32 else c.cych }.result 1 (fD w) (BitVec.ofNat 32 v) false

/-- MOVC reads a control register, or traps (R279). -/
def State.movc (s : State) (n w : Nat) : State :=
  match s.crRead n (bits w 5 0) with
  | some v => s.modCore n (fun c => c.movc w v)
  | none => s.modCore n (fun c => c.raise cIllegalCr 0 0 c.pc)

theorem exec_movc : exec (.movc n) s = s.slotAWith n 0x1E (fun w s => s.movc n w) := rfl

theorem completes_movc {v : Nat} (h : s.atA n 0x1E w c) (hv : (s.beginBundle n).crRead n (bits w 5 0) = some v) : Completes (.movc n) s (fun t =>
    c.wrote (t.core n) [⟨c.bundle + 1, false, .d (fD w) (BitVec.ofNat 32 v) false⟩] ∧
      (t.core n).cych = if bits w 5 0 = 0x0E then c.cycl / 2 ^ 32 else c.cych) := by
  refine completes_imp (completes_slotAWith (g := fun c => c.movc w v) h exec_movc (by unfold State.movc; rw [hv])) fun t hcore => ?_
  rw [hcore]
  exact ⟨wrote_result (c := { c with cych := if bits w 5 0 = 0x0E then c.cycl / 2 ^ 32 else c.cych }) .., rfl⟩

theorem completes_movc_reserved (h : s.atA n 0x1E w c) (hv : (s.beginBundle n).crRead n (bits w 5 0) = none) : Completes (.movc n) s (fun t =>
    bitAt c.sr srExc = false → c.trap = none → (t.core n).trap = some ⟨cIllegalCr, 0, c.pc, 0, 0⟩) := by
  refine completes_imp (completes_slotAWith (g := fun c => c.raise cIllegalCr 0 0 c.pc) h exec_movc (by unfold State.movc; rw [hv])) fun t hcore hexc htrap => ?_
  rw [hcore]
  exact raise_trap hexc htrap

theorem completes_movcw (h : s.atA n 0x1F w c) (hw : crWritable (bits w 5 0) (c.dv (fX w)).toNat = true) : Completes (.movcw n) s (fun t =>
    c.wrote (t.core n) [⟨c.bundle + 1, false, .cr (bits w 5 0) (c.dv (fX w)).toNat⟩]) :=
  completes_wrote _ h exec_movcw (by rw [if_pos hw]; exact wrote_queue ..)

theorem completes_movcw_reserved (h : s.atA n 0x1F w c) (hw : crWritable (bits w 5 0) (c.dv (fX w)).toNat = false) : Completes (.movcw n) s (fun t =>
    bitAt c.sr srExc = false → c.trap = none → (t.core n).trap = some ⟨cIllegalCr, 0, c.pc, 0, 0⟩) :=
  slotA_done h exec_movcw fun t ht hexc htrap => by
    rw [ht, hw]
    exact raise_trap hexc htrap

theorem completes_trapD (h : s.atA n 0x31 w c) : Completes (.trapD n) s (fun t => c.wrote (t.core n) [] ∧
    (bitAt c.sr srExc = false → c.trap = none → (t.core n).trap = some ⟨cSoft, bits w 3 0, c.pc, 0, 0⟩)) :=
  slotA_done (f := fun w c => c.raise cSoft (bits w 3 0) 0 c.pc) h rfl fun t ht => by
    rw [ht]
    exact ⟨wrote_raise .., raise_trap⟩

theorem completes_haltD (h : s.atA n 0x32 w c) : Completes (.haltD n) s (fun t => c.wrote (t.core n) [] ∧ (t.core n).halting = true) :=
  slotA_done (f := fun _ c => { c with halting := true }) h rfl fun t ht => by
    rw [ht]
    exact ⟨wrote_refl c, rfl⟩

/-! ### Events (R300) -/

/-- A WAITE with no event at its inputs does not issue. -/
theorem exec_waite_waits (h : s.atA n 0x2F w c) (hnone : s.dspIpr n &&& (w % 2 ^ 8) = 0) : exec (.waite n) s = .next (s.setDspRun n dsWaiting) := by
  obtain ⟨hn, -, ⟨b, hissue, hword, hgoes⟩, -⟩ := h
  show execWaite n s = _
  unfold execWaite
  rw [inst_ok (decide_eq_true hn), hissue]
  dsimp only
  rw [if_neg (by rw [hgoes]; decide), hword, if_pos hnone]

/-- A WAITE takes the events at its inputs. -/
theorem exec_waite_takes (h : s.atA n 0x2F w c) (hhit : s.dspIpr n &&& (w % 2 ^ 8) ≠ 0) : exec (.waite n) s =
    .next (((s.beginBundle n).each (setBitsOf 8 (s.dspIpr n &&& (w % 2 ^ 8))) (fun i s => s.takeInput (irqInput n i))).modCore n
      (fun c => c.result 1 (fD w) (BitVec.ofNat 32 (s.dspIpr n &&& (w % 2 ^ 8))) false)) := by
  obtain ⟨hn, -, ⟨b, hissue, hword, hgoes⟩, -⟩ := h
  show execWaite n s = _
  unfold execWaite
  rw [inst_ok (decide_eq_true hn), hissue]
  dsimp only
  rw [if_neg (by rw [hgoes]; decide), hword, if_neg hhit]

theorem beginBundle_dspRun : (s.beginBundle n).dspRun n = if s.reg (0x5000 + n) 2 = stOn then dsRunning else dsStopped := by
  show ((s.setReg (0x5000 + n) 7 (s.core n).pc).setDspRun n dsRunning).reg (0x5000 + n) 3 = _
  unfold State.setDspRun
  rw [reg_setReg_same, set_ne]

theorem completes_waite (h : s.atA n 0x2F w c) (hhit : s.dspIpr n &&& (w % 2 ^ 8) ≠ 0) : Completes (.waite n) s (fun t =>
    c.wrote (t.core n) [⟨c.bundle + 1, false, .d (fD w) (BitVec.ofNat 32 (s.dspIpr n &&& (w % 2 ^ 8))) false⟩] ∧
      t.dspRun n = if s.reg (0x5000 + n) 2 = stOn then dsRunning else dsStopped) := by
  refine completes_of (exec_waite_takes h hhit) ⟨?_, ?_⟩
  · generalize htaken : State.each (s.beginBundle n) _ _ = u
    have hdsp : u.dsp = (s.beginBundle n).dsp := htaken ▸ each_same State.dsp (fun _ _ => takeInput_dsp ..) _ _
    rw [core_mod _ (by rw [hdsp]; exact atA_length h), core_of hdsp, atA_core h]
    exact wrote_result ..
  · unfold State.dspRun
    rw [modCore_reg, each_same (fun s => s.reg (0x5000 + n) 3) (fun _ _ => takeInput_reg ..)]
    exact beginBundle_dspRun

theorem exec_sige : exec (.sige n) s = s.slotAWith n 0x30 (fun w s => s.fire (0x100 + 8 * n + bits w 1 0) 0) := rfl

theorem completes_sige (h : s.atA n 0x30 w c) : Completes (.sige n) s (fun t =>
    c.wrote (t.core n) [] ∧ s.fires t (0x100 + 8 * n + bits w 1 0) 0) := by
  obtain ⟨t, ht, hcore, hfired⟩ := slotAWith_fired (f := fun w s => s.fire (0x100 + 8 * n + bits w 1 0) 0) h (by rw [fire_dsp])
  refine ⟨t, exec_sige.trans ht, ?_, fires_of (s.beginBundle n) hfired (congrArg DowelState.fired (begin_dowel s n)) (begin_time s n)⟩
  rw [hcore, core_of (fire_dsp ..), atA_core h]
  exact wrote_sat c

end Sys2Proof.Machine
end

section
/-! Branches and repeats of slot A (chapter 9, R286, R293, R294). -/

set_option Elab.async false

namespace Sys2Proof.Machine

variable {s : State} {n op w : Nat} {c : DspCore} {i : Instr}

/-! ### Branches (R293) -/

/-- An operation that names a branch target and leaves the PC. -/
theorem completes_aims {a : Nat} (f : Nat → DspCore → DspCore) (h : s.atA n op w c) (hi : exec i s = s.slotAOp n op f)
    (hbranch : (f w c).branch = some (a % 2 ^ 13, 3)) (hpc : (f w c).pc = c.pc) :
    Completes i s (fun t => (t.core n).branch = some (a % 2 ^ 13, 3) ∧ (t.core n).pc = c.pc) :=
  slotA_done (f := f) h hi fun t ht => by rw [ht]; exact ⟨hbranch, hpc⟩

theorem exec_br : exec (.br n) s = s.slotAOp n 0x28 (fun w c => c.branchTo (if c.cond (fD w) then bits w 12 0 else c.pc + 3)) := rfl

theorem completes_br (h : s.atA n 0x28 w c) : Completes (.br n) s (fun t =>
    (t.core n).branch = some ((if c.cond (fD w) then bits w 12 0 else c.pc + 3) % 2 ^ 13, 3) ∧ (t.core n).pc = c.pc) :=
  completes_aims _ h exec_br rfl rfl

theorem exec_call : exec (.call n) s = s.slotAOp n 0x29 (fun w c => (c.queue 1 (.lr ((c.pc + 3) % 2 ^ 13))).branchTo (bits w 12 0)) := rfl

theorem completes_call (h : s.atA n 0x29 w c) : Completes (.call n) s (fun t => ((t.core n).branch = some (bits w 12 0 % 2 ^ 13, 3) ∧ (t.core n).pc = c.pc) ∧
    (t.core n).writes = c.writes ++ [⟨c.bundle + 1, false, .lr ((c.pc + 3) % 2 ^ 13)⟩]) :=
  slotA_done h exec_call fun t ht => by
    rw [ht]
    exact ⟨⟨rfl, rfl⟩, rfl⟩

theorem exec_rti : exec (.rti n) s = s.slotAOp n 0x2B (fun _ c => { c.branchTo c.epc with rtiSr := some (c.esr &&& srWritable) }) := rfl

theorem completes_rti (h : s.atA n 0x2B w c) : Completes (.rti n) s (fun t => ((t.core n).branch = some (c.epc % 2 ^ 13, 3) ∧ (t.core n).pc = c.pc) ∧
    (t.core n).rtiSr = some (c.esr &&& srWritable)) :=
  slotA_done h exec_rti fun t ht => by
    rw [ht]
    exact ⟨⟨rfl, rfl⟩, rfl⟩

/-! ### Repeats (R294) -/

theorem completes_rep (h : s.atA n 0x2C w c) : Completes (.rep n) s (fun t =>
    (t.core n).rep = some ⟨c.pc + 1, bits w 16 12 + 1, bits w 11 0, true⟩ ∧ (t.core n).pc = c.pc) :=
  slotA_done (f := fun w c => c.startRep (bits w 16 12 + 1) (bits w 11 0 + 1)) h rfl fun t ht => by
    rw [ht]
    exact ⟨rfl, rfl⟩

theorem exec_repd : exec (.repd n) s = s.slotAWith n 0x2D (fun w s => s.modCore n (repdCore w (s.reg (0x5000 + n) 4))) := rfl

theorem completes_repd (h : s.atA n 0x2D w c) :
    Completes (.repd n) s (fun t => t.core n = { repdCore w (s.reg (0x5000 + n) 4) c with satNow := false }) := by
  refine completes_slotAWith h exec_repd ?_
  rw [begin_reg s n (by omega) (by omega) (by omega)]

/-- A count of 0 skips the block. -/
theorem repdCore_zero {most : Nat} (hk : (c.dv (fD w)).toNat = 0) :
    (repdCore w most c).skip = some (c.pc + 1 + (bits w 16 12 + 1)) ∧ (repdCore w most c).rep = c.rep := by
  unfold repdCore
  dsimp only
  rw [if_pos hk]
  cases c.poisoned (fD w) <;> exact ⟨rfl, rfl⟩

/-- A count within both bounds starts the repeat. -/
theorem repdCore_starts {most : Nat} (hk : (c.dv (fD w)).toNat ≠ 0) (hcount : (c.dv (fD w)).toNat ≤ 4096)
    (hmost : (c.dv (fD w)).toNat * (bits w 16 12 + 1) ≤ most) :
    repdCore w most c = c.startRep (bits w 16 12 + 1) (c.dv (fD w)).toNat := by
  unfold repdCore
  dsimp only
  rw [if_neg hk, poisoned_zero hk, if_neg (by simpa using ⟨hcount, hmost⟩), if_neg (by decide)]

/-- A count too large traps, and skips the block. -/
theorem repdCore_traps {most : Nat} (hk : (c.dv (fD w)).toNat ≠ 0) (hlarge : 4096 < (c.dv (fD w)).toNat ∨ most < (c.dv (fD w)).toNat * (bits w 16 12 + 1))
    (hexc : bitAt c.sr srExc = false) (htrap : c.trap = none) :
    (repdCore w most c).skip = some (c.pc + 1 + (bits w 16 12 + 1)) ∧ (repdCore w most c).rep = c.rep ∧
      (repdCore w most c).trap = some ⟨cRepMax, 0, c.pc, 0, 0⟩ := by
  unfold repdCore DspCore.raise
  dsimp only
  rw [if_neg hk, poisoned_zero hk, if_pos (by simpa using hlarge), if_neg Bool.false_ne_true, hexc, if_neg Bool.false_ne_true, htrap]
  exact ⟨rfl, rfl, rfl⟩

/-! ### The statement -/

/-- Settles O41: each operation queues its write, traps, or takes or fires its event; a branch names its target, and a repeat its block and count. -/
theorem dspMovesEventsAndBranches : Obligations.DspMovesEventsAndBranches := by
  refine ⟨fun s n w c => ?_, fun s n w c => ?_⟩
  · exact ⟨fun h => completes_wrote (fun _ c => c) h rfl (wrote_refl c), fun h => ⟨fun v => completes_movc h, completes_movc_reserved h⟩,
      fun h => ⟨completes_movcw h, completes_movcw_reserved h⟩, fun h => completes_wrote _ h exec_movar (wrote_result ..),
      fun h => completes_wrote _ h exec_movra (wrote_queue ..), fun h => completes_wrote (fun w c => c.queue 1 (.ie (bitAt w 0))) h rfl (wrote_queue ..),
      fun h => ⟨exec_waite_waits h, completes_waite h⟩, completes_sige, completes_trapD, completes_haltD⟩
  · refine ⟨fun h => ⟨fun hcond => ?_, fun hcond => ?_⟩, completes_call, fun h => completes_aims (fun _ c => c.branchTo c.lr) h rfl rfl rfl, completes_rti,
      completes_rep, fun h => ?_⟩
    · have hbr := completes_br h
      rwa [if_pos hcond] at hbr
    · have hbr := completes_br h
      rwa [if_neg (by rw [hcond]; decide)] at hbr
    · have hrepd := completes_repd h
      refine ⟨fun hk => completes_imp hrepd fun t hcore => ?_, fun hk hcount hmost => completes_imp hrepd fun t hcore => ?_,
        fun hk hlarge hexc htrap => completes_imp hrepd fun t hcore => ?_⟩
      · rw [hcore]
        exact repdCore_zero hk
      · rw [hcore, repdCore_starts hk hcount hmost]
        exact ⟨rfl, rfl⟩
      · rw [hcore]
        exact repdCore_traps hk hlarge hexc htrap

end Sys2Proof.Machine
end

section
/-! Slot B of the DSP cores: loads, stores, far accesses and address updates, with which a bundle ends (chapter 9, R289, R296, R297, R299). -/

set_option Elab.async false

namespace Sys2Proof.Machine

variable {s : State} {n op w : Nat} {c c1 : DspCore} {i : Instr} {ecc : List Nat}

/-! ### Bundles that end -/

/-- A core on which neither a double fault, a HALT nor a debug halt has come since `c` (R303, R308, R310). -/
def DspCore.sameEnd (c c1 : DspCore) : Prop := c1.double = c.double ∧ c1.halting = c.halting ∧ c1.haltReq = c.haltReq ∧ c1.stepping = c.stepping

/-- A bundle ends with what its slot B operation has made of the core. -/
theorem completes_slotB (f : Nat → DspCore → DspCore) (h : s.atB n op w c) (hg : s.goesOn n c) (hi : exec i s = s.slotBOp n op f) (hf : f w c = c1)
    (hd : c.sameEnd c1) : Completes i s (fun t => t.core n = c1.endBundle) :=
  slotB_done h hg hi hf hd fun _ ht _ => ht

/-- As `completes_slotB`, for an operation that checks the words it reads. -/
theorem completes_checked (k : Nat) (f : Nat → DspCore → DspCore) (h : s.atB n op w c) (hg : s.goesOn n c)
    (hi : exec i s = s.slotBWith n op (fun w s => (s.countEcc n (ecc.take k)).modCore n (f w))) (hf : f w c = c1) (hd : c.sameEnd c1) :
    Completes i s (fun t => t.core n = c1.endBundle) :=
  slotBE_done h hg hi hf hd fun _ ht _ => ht

/-! ### Loads and stores (R297) -/

/-- `c` with the word of D register `x` stored at `a`. -/
def DspCore.stored (c : DspCore) (x : Nat) (a : Word32) : DspCore := { c with dmem := dramWrite c.dmem a.toNat (beBytes 4 (c.dv x).toNat) }

/-- `c` with its first fault pending, found at data address `a`. -/
def DspCore.faulted (c : DspCore) (a : Word32) (cause : Nat) : DspCore := { c with trap := some ⟨cause, 0, c.pc, a.toNat, 0⟩ }

section Access

variable (hexc : bitAt c.sr srExc = false) (htrap : c.trap = none)
include hexc htrap

theorem load_faults {dst e cause : Nat} {a : Word32} (hbad : localFault a.toNat = some cause ∨ (localOk a ∧ e = 2 ∧ cause = cLoadEcc)) :
    c.loadTo dst a e = (({ c with sr := setBit c.sr srPsn } : DspCore).faulted a cause).queued [c.loadWrite dst 0 true] := load_bad hexc htrap hbad

theorem store_faults {x cause : Nat} {a : Word32} (hbad : localFault a.toNat = some cause) : c.storeFrom x a = c.faulted a cause := store_bad hexc htrap hbad

end Access

theorem store_stores {x : Nat} {a : Word32} (ha : localOk a) : c.storeFrom x a = c.stored x a := store_ok ha

theorem post_post (i j k l : Nat) : (c.post i j).post k l = c.queued [c.postWrite i j, c.postWrite k l] := post_queued c [c.postWrite i j] k l

theorem queued_queued (ws vs : List PendWrite) : (c.queued ws).queued vs = c.queued (ws ++ vs) := by
  unfold DspCore.queued
  rw [List.append_assoc]

/-! ### Far accesses (R299) -/

/-- FLD before its post-modify. -/
def DspCore.farLoad (c : DspCore) (w : Nat) : DspCore :=
  match farFault (c.areg (fA w)).toNat with
  | some cause => ((c.queueLoad 1 (.d (fD w) 0 true)).stick srPsn).raise cause 0 (c.areg (fA w)).toNat c.pc
  | none => c.farIssue false (fD w) (c.areg (fA w)).toNat 0

/-- FST before its post-modify. -/
def DspCore.farStore (c : DspCore) (w : Nat) : DspCore :=
  match farFault (c.areg (fA w)).toNat with
  | some cause => c.raise cause 0 (c.areg (fA w)).toNat c.pc
  | none => c.farIssue true 0 (c.areg (fA w)).toNat (c.dv (fD w)).toNat

theorem exec_fld : exec (.fld n) s = s.slotBWith n 0x08 (fun w s => (s.modCore n (fun c => (c.farLoad w).post (fA w) (fM w))).showFar n) := rfl

theorem exec_fst : exec (.fst n) s = s.slotBWith n 0x09 (fun w s => (s.modCore n (fun c => (c.farStore w).post (fA w) (fM w))).showFar n) := rfl

/-- A far access that leaves the core joins those outstanding, which 5000h+n.12 counts. -/
theorem completes_far {store : Bool} {dst addr data : Nat} (f : Nat → DspCore → DspCore) (h : s.atB n op w c) (hg : s.goesOn n c)
    (hi : exec i s = s.slotBWith n op (fun w s => (s.modCore n (fun c => (f w c).post (fA w) (fM w))).showFar n))
    (hf : f w c = c.farIssue store dst addr data) : Completes i s (fun t => t.reg (0x5000 + n) 0x12 = c.far.length + 1 ∧ t.core n =
      (({ c with far := c.far ++ [⟨c.nextId, store, dst, addr, data, c.pc, false⟩], nextId := c.nextId + 1 } : DspCore).queued
        [c.postWrite (fA w) (fM w)]).endBundle) := by
  refine farB_done (ws := []) (c' := c.farIssue store dst addr data) h hg hi ?_ ⟨rfl, rfl, rfl, rfl⟩ ⟨rfl, rfl, rfl, rfl, rfl⟩ fun t hcore hcount => ⟨?_, hcore⟩
  · rw [hf]
    unfold DspCore.queued
    rw [List.append_nil]
  · rw [hcount]
    exact List.length_append

/-! ### What the operations with more than one part make of their core (R289) -/

section Parts

variable {e e' : Nat}

theorem load_post (ha : localOk (c.areg (fA w))) (he : e ≠ 2) : (c.loadTo (fD w) (c.areg (fA w)) e).post (fA w) (fM w) =
    c.queued [c.loadWrite (fD w) (c.word (c.areg (fA w)).toNat) false, c.postWrite (fA w) (fM w)] := by
  rw [load_ok ha he, post_queued]
  rfl

theorem load_load_posts (ha : localOk (c.areg (fA w))) (hb : localOk (c.areg (fB w))) (he : e ≠ 2) (he' : e' ≠ 2) :
    (((c.loadTo (fD w) (c.areg (fA w)) e).loadTo (fE w) (c.areg (fB w)) e').post (fA w) (fM w)).post (fB w) (fN w) =
      c.queued [c.loadWrite (fD w) (c.word (c.areg (fA w)).toNat) false, c.loadWrite (fE w) (c.word (c.areg (fB w)).toNat) false,
        c.postWrite (fA w) (fM w), c.postWrite (fB w) (fN w)] := by
  rw [load_ok ha he, load_ok hb he', queued_queued, post_queued, post_queued]
  rfl

theorem store_store_posts (ha : localOk (c.areg (fA w))) (hb : localOk (c.areg (fB w))) :
    (((c.storeFrom (fD w) (c.areg (fA w))).storeFrom (fE w) (c.areg (fB w))).post (fA w) (fM w)).post (fB w) (fN w) =
      ((c.stored (fD w) (c.areg (fA w))).stored (fE w) (c.areg (fB w))).queued [c.postWrite (fA w) (fM w), c.postWrite (fB w) (fN w)] := by
  rw [store_stores ha, store_stores hb, post_post]
  rfl

theorem load_store_posts (ha : localOk (c.areg (fA w))) (hb : localOk (c.areg (fB w))) (he : e ≠ 2) :
    (((c.loadTo (fD w) (c.areg (fA w)) e).storeFrom (fE w) (c.areg (fB w))).post (fA w) (fM w)).post (fB w) (fN w) =
      (c.stored (fE w) (c.areg (fB w))).queued [c.loadWrite (fD w) (c.word (c.areg (fA w)).toNat) false,
        c.postWrite (fA w) (fM w), c.postWrite (fB w) (fN w)] := by
  have hload : (c.queued [c.loadWrite (fD w) (c.word (c.areg (fA w)).toNat) false]).stored (fE w) (c.areg (fB w)) =
    (c.stored (fE w) (c.areg (fB w))).queued [c.loadWrite (fD w) (c.word (c.areg (fA w)).toNat) false] := rfl
  rw [load_ok ha he, store_stores hb, hload, post_queued, post_queued]
  rfl

variable {cause : Nat} (hexc : bitAt c.sr srExc = false) (htrap : c.trap = none)
include hexc htrap

theorem load_post_faults (hbad : localFault (c.areg (fA w)).toNat = some cause ∨ (localOk (c.areg (fA w)) ∧ e = 2 ∧ cause = cLoadEcc)) :
    (c.loadTo (fD w) (c.areg (fA w)) e).post (fA w) (fM w) =
      (({ c with sr := setBit c.sr srPsn } : DspCore).faulted (c.areg (fA w)) cause).queued [c.loadWrite (fD w) 0 true, c.postWrite (fA w) (fM w)] := by
  rw [load_faults hexc htrap hbad, post_queued]
  rfl

theorem store_post_faults (hbad : localFault (c.areg (fA w)).toNat = some cause) : (c.storeFrom (fD w) (c.areg (fA w))).post (fA w) (fM w) =
    (c.faulted (c.areg (fA w)) cause).queued [c.postWrite (fA w) (fM w)] := by
  rw [store_faults hexc htrap hbad]
  rfl

end Parts

/-! ### The statement -/

theorem exec_ld : exec (.ld n ecc) s = s.slotBWith n 0x01 (fun w s => (s.countEcc n (ecc.take 1)).modCore n (fun c =>
    (c.loadTo (fD w) (c.areg (fA w)) (ecc.getD 0 0)).post (fA w) (fM w))) := rfl

theorem exec_ldo : exec (.ldo n ecc) s = s.slotBWith n 0x02 (fun w s => (s.countEcc n (ecc.take 1)).modCore n (fun c =>
    c.loadTo (fD w) (c.offAddr w) (ecc.getD 0 0))) := rfl

theorem exec_st : exec (.st n) s = s.slotBOp n 0x03 (fun w c => (c.storeFrom (fD w) (c.areg (fA w))).post (fA w) (fM w)) := rfl

theorem exec_sto : exec (.sto n) s = s.slotBOp n 0x04 (fun w c => c.storeFrom (fD w) (c.offAddr w)) := rfl

theorem exec_ld2 : exec (.ld2 n ecc) s = s.slotBWith n 0x05 (fun w s => (s.countEcc n (ecc.take 2)).modCore n (fun c =>
    (((c.loadTo (fD w) (c.areg (fA w)) (ecc.getD 0 0)).loadTo (fE w) (c.areg (fB w)) (ecc.getD 1 0)).post (fA w) (fM w)).post (fB w) (fN w))) := rfl

theorem exec_st2 : exec (.st2 n) s = s.slotBOp n 0x06 (fun w c =>
    (((c.storeFrom (fD w) (c.areg (fA w))).storeFrom (fE w) (c.areg (fB w))).post (fA w) (fM w)).post (fB w) (fN w)) := rfl

theorem exec_ldst : exec (.ldst n ecc) s = s.slotBWith n 0x07 (fun w s => (s.countEcc n (ecc.take 1)).modCore n (fun c =>
    (((c.loadTo (fD w) (c.areg (fA w)) (ecc.getD 0 0)).storeFrom (fE w) (c.areg (fB w))).post (fA w) (fM w)).post (fB w) (fN w))) := rfl

/-- Settles O42: a local access that is in order queues its word or stores it, another traps; a far access joins those outstanding; and each address register
that is used is post-modified. -/
theorem dspSlotB : Obligations.DspSlotB := by
  intro s n w c ecc a b off ends pa pb put trap fails hg
  have same : c.sameEnd c := ⟨rfl, rfl, rfl, rfl⟩
  refine ⟨fun h => completes_slotB (fun _ c => c) h hg rfl rfl same,
    fun h => ⟨fun ha he => completes_checked 1 _ h hg exec_ld (load_post ha he) same,
      fun cause hbad hexc htrap => completes_checked 1 _ h hg exec_ld (load_post_faults hexc htrap hbad) same⟩,
    fun h => ⟨fun ha he => completes_checked 1 _ h hg exec_ldo (load_ok ha he) same,
      fun cause hbad hexc htrap => completes_checked 1 _ h hg exec_ldo (load_faults hexc htrap hbad) same⟩,
    fun h => ⟨fun ha => completes_slotB _ h hg exec_st (congrArg (fun c => c.post (fA w) (fM w)) (store_stores ha)) same,
      fun cause hbad hexc htrap => completes_slotB _ h hg exec_st (store_post_faults hexc htrap hbad) same⟩,
    fun h => ⟨fun ha => completes_slotB _ h hg exec_sto (store_stores ha) same,
      fun cause hbad hexc htrap => completes_slotB _ h hg exec_sto (store_faults hexc htrap hbad) same⟩,
    fun h ha hb he he' => completes_checked 2 _ h hg exec_ld2 (load_load_posts ha hb he he') same,
    fun h ha hb => completes_slotB _ h hg exec_st2 (store_store_posts ha hb) same,
    fun h ha hb he => completes_checked 1 _ h hg exec_ldst (load_store_posts ha hb he) same,
    fun h hok => completes_far (fun w c => c.farLoad w) h hg exec_fld (by unfold DspCore.farLoad; rw [hok]),
    fun h hok => completes_far (fun w c => c.farStore w) h hg exec_fst (by unfold DspCore.farStore; rw [hok]),
    fun h => completes_slotB (fun w c => c.post (fA w) (fM w)) h hg rfl rfl same,
    fun h => completes_slotB (fun w c => c.queue 1 (.a (fA w) (BitVec.ofNat 32 (bits w 18 0)))) h hg rfl rfl same⟩

end Sys2Proof.Machine
end

section
/-! An event waits behind one that interrupts a DSP core (chapter 9, R300; chapter 16, R490). -/

set_option Elab.async false

namespace Sys2Proof.Machine

variable {s : State} {n j : Nat}

/-- The core has entered the handler of interrupt input `j` (R303). -/
def State.entered (s : State) (n j deferral : Nat) : State :=
  let cls := bits (s.reg (0x5000 + n) 0x13) (2 * j + 1) (2 * j)
  let taken := (s.takeInput (irqInput n j)).modCore n (fun c =>
    { c.enter (s.flag (0x5000 + n) 5) (16 + j) with irqPtr := modNth (fun _ => (j + 1) % 8) c.irqPtr cls })
  ((taken.inc64 (0x5000 + n) 0x0B 1).noteDeferral n deferral).setDspRun n dsRunning

theorem exec_interruptEntry {deferral : Nat} (hn : n < 16) (hmay : s.mayEnter n = true) (htrap : (s.core n).trap = none)
    (hj : s.dspIrqChoice n = some j) : exec (.interruptEntry n deferral) s = .next (s.entered n j deferral) := by
  show execInterruptEntry n deferral s = _
  unfold execInterruptEntry
  rw [inst_ok (decide_eq_true hn), hmay, htrap, hj]
  rfl

theorem entered_dowel (deferral : Nat) : (s.entered n j deferral).dowel = (s.takeInput (irqInput n j)).dowel := by
  unfold State.entered State.setDspRun State.noteDeferral
  dsimp only
  rw [setReg_dowel, setReg_dowel, inc64_dowel, modCore_dowel]

/-- Once an interrupt is taken, the input's consumer has the event that waited behind it, as of the present tick (R490). -/
theorem completes_interruptEntry {deferral : Nat} (hn : n < 16) (hmay : s.mayEnter n = true) (htrap : (s.core n).trap = none)
    (hj : s.dspIrqChoice n = some j) : Completes (.interruptEntry n deferral) s (fun t =>
      (t.input (irqInput n j)).held = (s.input (irqInput n j)).queued.map (fun d => { d with since := s.time.tclk })) := by
  refine completes_of (exec_interruptEntry hn hmay htrap hj) ?_
  rw [input_of (congrArg DowelState.inputs (entered_dowel deferral)), takeInput_held]

/-! ### The counterexample -/

/-- A delivery to a core's interrupt input as the router makes it: an event taken by channel 0, with no tick at which the consumer got it. -/
def irqDelivery : Delivery := ⟨0, ⟨0x700, 0, 0, 0, 0, 0⟩, 0⟩

/-- At TCLK tick 1 core 0 is ON and runs with interrupt 0 unmasked, and two events have reached that input: one for the core, and one behind it. -/
def twoInterrupts : State :=
  let s := State.ofReset Board.reset Nv.reset
  let s := ({ s with time := { s.time with tclk := 1 } }.setReg 0x5000 2 stOn).setReg 0x5000 3 dsRunning
  ((s.modCore 0 (fun c => { c with sr := 2 ^ srIe, imr := 1 })).deliver (irqInput 0 0) irqDelivery).deliver (irqInput 0 0) irqDelivery

theorem twoInterrupts_length : 0 < twoInterrupts.dsp.cores.length := by decide +kernel

theorem twoInterrupts_mayEnter : twoInterrupts.mayEnter 0 = true := by decide +kernel

theorem twoInterrupts_trap : (twoInterrupts.core 0).trap = none := by decide +kernel

theorem twoInterrupts_choice : twoInterrupts.dspIrqChoice 0 = some 0 := by decide +kernel

theorem twoInterrupts_queued : (twoInterrupts.input (irqInput 0 0)).queued = some irqDelivery := by decide +kernel

theorem twoInterrupts_tclk : twoInterrupts.time.tclk = 1 := by decide +kernel

/-- Refutes O43, in the clause of INTERRUPT_ENTRY: the event that waited behind the one taken goes to the core with the tick at which it goes (R490), so the
input does not then hold the delivery as it was queued. -/
theorem not_dspTrapsResponsesAndImages : ¬ Obligations.DspTrapsResponsesAndImages := by
  intro h
  obtain ⟨hentries, -⟩ := h
  obtain ⟨-, hinterrupt, -⟩ := hentries twoInterrupts 0 (by decide) twoInterrupts_length
  obtain ⟨t, ht, -, -, -, -, -, -, hsame⟩ := hinterrupt 0 0 twoInterrupts_mayEnter twoInterrupts_trap twoInterrupts_choice
  obtain ⟨u, hu, hgiven⟩ := completes_interruptEntry (deferral := 0) (by decide) twoInterrupts_mayEnter twoInterrupts_trap twoInterrupts_choice
  rw [ht] at hu
  cases hu
  rw [hsame, twoInterrupts_queued, twoInterrupts_tclk] at hgiven
  exact absurd hgiven (by decide)

end Sys2Proof.Machine
end

section
/-! The bytes that devices hold, and where a unit lies among them (chapter 11, R338 to R340). -/

set_option Elab.async false

namespace Sys2Proof.Machine

variable {s t : State} {m m' : List Host.Cell}

/-! ### Bytes of DRAM -/

section
variable {α : Type} {l : List (Nat × α)}

theorem eraseKey_absent {k : Nat} (h : lookup l k = none) : eraseKey l k = l := by
  induction l with
  | nil => rfl
  | cons p l ih =>
    obtain ⟨a, w⟩ := p
    simp only [lookup] at h
    split at h
    · cases h
    · next hk => rw [eraseKey, if_neg hk, ih h]

/-- A rising list of keys takes a value it holds without change. -/
theorem insertKey_held {k : Nat} {v : α} (hs : sorted l = true) (h : lookup l k = some v) : insertKey l k v = l := by
  unfold sorted at hs
  generalize 0 = lo at hs
  induction l generalizing lo with
  | nil => cases h
  | cons p l ih =>
    obtain ⟨a, w⟩ := p
    simp only [sortedFrom, Bool.and_eq_true, decide_eq_true_eq] at hs
    simp only [lookup] at h
    by_cases hk : k = a
    · rw [if_pos hk] at h
      cases h
      rw [insertKey, if_neg (by omega), if_pos hk, hk]
    · rw [if_neg hk] at h
      have hlt : a < k := by
        by_contra hge
        rw [lookup_below hs.2 (by omega)] at h
        cases h
      rw [insertKey, if_neg (by omega), if_neg hk, ih h _ hs.2]

/-- What a filter on keys leaves at a key. -/
theorem lookup_filterKey (p : Nat → Bool) (k : Nat) : lookup (l.filter (fun c => p c.1)) k = if p k then lookup l k else none := by
  induction l with
  | nil => simp [lookup]
  | cons q l ih =>
    obtain ⟨a, w⟩ := q
    by_cases hk : k = a
    · subst hk
      by_cases hp : p k = true
      · simp [hp, lookup]
      · simp [hp, ih]
    · by_cases hp : p a = true
      · simp [hp, lookup, hk, ih]
      · simp [hp, lookup, hk, ih]

end

/-- A byte stored where it stands changes nothing. -/
theorem dramPut_get (h : dramWf m = true) (a : Nat) : dramPut m a (dramGet m a) = m := by
  obtain ⟨hs, hall⟩ : sorted m = true ∧ ∀ c ∈ m, c.2 ≠ dramEmpty := by simpa [dramWf] using h
  unfold dramPut dramGet
  cases hl : lookup m a with
  | none => exact (if_pos rfl).trans (eraseKey_absent hl)
  | some b =>
    have hmem : ∀ l : List Host.Cell, lookup l a = some b → (a, b) ∈ l := by
      intro l
      induction l with
      | nil => intro hl; cases hl
      | cons p l ih =>
        obtain ⟨k, w⟩ := p
        simp only [lookup]
        split
        · next hk => intro e; cases e; simp [hk]
        · intro e; exact List.mem_cons_of_mem _ (ih e)
    exact (if_neg (hall _ (hmem m hl))).trans (insertKey_held hs hl)

theorem dramWrite_read (h : dramWf m = true) (a n : Nat) : dramWrite m a (dramRead m a n) = m := by
  induction n generalizing a with
  | zero => rfl
  | succ n ih => rw [dramRead, dramWrite, dramPut_get h, ih]

theorem dramRead_congr {a n : Nat} (h : ∀ i, i < n → dramGet m' (a + i) = dramGet m (a + i)) : dramRead m' a n = dramRead m a n := by
  refine List.ext_getElem (by rw [dramRead_length, dramRead_length]) fun i h1 _ => ?_
  rw [dramRead_length] at h1
  have e := h i h1
  rw [← dramRead_getD m' a n i h1, ← dramRead_getD m a n i h1] at e
  simpa [List.getD_eq_getElem?_getD, dramRead_length, h1] using e

/-- Bytes stored are read. -/
theorem dramRead_write_same (h : dramWf m = true) (a : Nat) (bs : Bytes) : dramRead (dramWrite m a bs) a bs.length = bs := by
  refine List.ext_getElem (dramRead_length ..) fun i h1 h2 => ?_
  rw [dramRead_length] at h1
  have e := dramRead_getD (dramWrite m a bs) a bs.length i h1
  rw [dramGet_write a _ bs h, if_pos (by omega), Nat.add_sub_cancel_left] at e
  simpa [List.getD_eq_getElem?_getD, dramRead_length, h1] using e

/-- Bytes stored leave a range beside them. -/
theorem dramRead_write_other (h : dramWf m = true) {a x n : Nat} {bs : Bytes} (hd : x + n ≤ a ∨ a + bs.length ≤ x) :
    dramRead (dramWrite m a bs) x n = dramRead m x n := by
  refine dramRead_congr fun i hi => ?_
  rw [dramGet_write a _ bs h, if_neg (by omega)]

/-! ### The place of a unit (R339, R340) -/

theorem orgRanks_cases (org : Nat) : orgRanks org = 1 ∨ orgRanks org = 2 := by
  unfold orgRanks
  split
  · exact .inl rfl
  · exact .inr rfl

theorem xor_self_right (a b : Nat) : a ^^^ b ^^^ b = a := by rw [Nat.xor_assoc, Nat.xor_self, Nat.xor_zero]

/-- Coordinates within what the devices have. -/
structure Coord.InRange (c : Coord) (ranks : Nat) : Prop where
  sub : c.sub < 2
  col : c.col < 128
  group : c.group < 8
  bank : c.bank < 4
  rank : c.rank < ranks

theorem coordOf_inRange (order u : Nat) {ranks : Nat} (hr : 0 < ranks) : (coordOf order ranks u).InRange ranks := by
  have hxor8 (a b : Nat) (ha : a < 8) (hb : b < 8) : a ^^^ b < 8 := Nat.xor_lt_two_pow (n := 3) ha hb
  have hxor4 (a b : Nat) (ha : a < 4) (hb : b < 4) : a ^^^ b < 4 := Nat.xor_lt_two_pow (n := 2) ha hb
  have hsub : u % 2 < 2 := Nat.mod_lt _ (by omega)
  unfold coordOf
  dsimp only
  split
  · exact ⟨hsub, Nat.mod_lt _ (by omega), Nat.mod_lt _ (by omega), Nat.mod_lt _ (by omega), Nat.mod_lt _ hr⟩
  · exact ⟨hsub, Nat.mod_lt _ (by omega), Nat.mod_lt _ (by omega), Nat.mod_lt _ (by omega), Nat.mod_lt _ hr⟩
  · refine ⟨hsub, Nat.mod_lt _ (by omega), hxor8 _ _ (Nat.mod_lt _ (by omega)) ?_, hxor4 _ _ (Nat.mod_lt _ (by omega)) ?_, Nat.mod_lt _ hr⟩
    · split
      · exact Nat.mod_lt _ (by decide)
      · omega
    · split
      · exact Nat.mod_lt _ (by decide)
      · omega

/-- An address order is one to one: the unit at the coordinates of a unit is that unit. -/
theorem localOf_coordOf (order ranks u : Nat) (hr : ranks = 1 ∨ ranks = 2) : localOf order ranks (coordOf order ranks u) = u := by
  unfold localOf coordOf
  split
  · rcases hr with rfl | rfl <;> simp only <;> omega
  · rcases hr with rfl | rfl <;> simp only <;> omega
  · next h0 h3 =>
    split
    · exact absurd rfl h0
    · exact absurd rfl h3
    · simp only [xor_self_right]
      rcases hr with rfl | rfl <;> omega

theorem number_eq (c : Coord) (ranks : Nat) :
    c.number ranks = c.sub + 2 * (c.col + 128 * (c.group + 8 * (c.bank + 4 * (c.rank + ranks * c.row)))) := rfl

/-- The coordinates of the number that stands for coordinates are those coordinates. -/
theorem coordOf_number {c : Coord} {ranks : Nat} (hr : ranks = 1 ∨ ranks = 2) (h : c.InRange ranks) : coordOf 0 ranks (c.number ranks) = c := by
  obtain ⟨sub, col, group, bank, rank, row⟩ := c
  obtain ⟨hsub, hcol, hgroup, hbank, hrank⟩ := h
  dsimp only at hsub hcol hgroup hbank hrank
  unfold Coord.number localOf coordOf
  simp only [Coord.mk.injEq]
  rcases hr with rfl | rfl <;> omega

/-- Coordinates of a unit below 2^40 have a number below 2^40. -/
theorem number_lt {order ranks u : Nat} (hr : ranks = 1 ∨ ranks = 2) (hu : u < 2 ^ 40) : (coordOf order ranks u).number ranks < 2 ^ 40 := by
  have hrow : (coordOf order ranks u).row = u / 2 / 4096 / ranks := by
    unfold coordOf
    dsimp only
    split
    · rfl
    · dsimp only
      rcases hr with rfl | rfl <;> omega
    · rfl
  obtain ⟨hsub, hcol, hgroup, hbank, hrank⟩ := coordOf_inRange order u (ranks := ranks) (by omega)
  rw [number_eq]
  generalize coordOf order ranks u = c at *
  rcases hr with rfl | rfl <;> omega

/-- A device unit keeps its place under an address order (R340). -/
theorem localUnit_deviceKey (s : State) (c : Nat) {u : Nat} (hu : u < 2 ^ 40) : s.localUnit (s.deviceKey c u) = u := by
  have hr := orgRanks_cases (s.reg 0x5800 1)
  have hlt := number_lt (order := s.reg 0x5800 5) hr hu
  unfold State.localUnit State.deviceKey State.coord unitKey
  dsimp only
  rw [Nat.mul_add_mod_self_right, Nat.mod_eq_of_lt hlt, coordOf_number hr (coordOf_inRange _ _ (by omega)), localOf_coordOf _ _ _ hr]

theorem deviceKey_channel (s : State) (c : Nat) {u : Nat} (hu : u < 2 ^ 40) : s.deviceKey c u / 2 ^ 40 = c := by
  have hlt := number_lt (order := s.reg 0x5800 5) (orgRanks_cases (s.reg 0x5800 1)) hu
  unfold State.deviceKey State.coord unitKey
  omega

/-- One unit of two channels has two places. -/
theorem deviceKey_channels (s : State) {c d : Nat} (u : Nat) (h : c ≠ d) : s.deviceKey c u ≠ s.deviceKey d u := by
  unfold State.deviceKey unitKey
  omega

theorem deviceKey_inj {c d u w : Nat} (hu : u < 2 ^ 40) (hw : w < 2 ^ 40) (h : s.deviceKey c u = s.deviceKey d w) : c = d ∧ u = w := by
  refine ⟨?_, ?_⟩
  · rw [← deviceKey_channel s c hu, h, deviceKey_channel s d hw]
  · rw [← localUnit_deviceKey s c hu, h, localUnit_deviceKey s d hw]

/-! ### States with the same map of DRAM -/

/-- `t` is the same part as `s`, with the same values in page 5800h, which give the map of DRAM (R337 to R340). -/
structure SameMap (s t : State) : Prop where
  board : t.board = s.board
  page : ∀ b, b < 256 → t.reg 0x5800 b = s.reg 0x5800 b

theorem sameMap_refl (s : State) : SameMap s s := ⟨rfl, fun _ _ => rfl⟩

theorem sameMap_trans {u : State} (h : SameMap s t) (k : SameMap t u) : SameMap s u :=
  ⟨k.board.trans h.board, fun b hb => (k.page b hb).trans (h.page b hb)⟩

theorem dramN_le (s : State) : s.dramN ≤ 24 := by
  unfold State.dramN Board.channels
  split <;> omega

theorem dramN_ge (s : State) : 12 ≤ s.dramN := by
  unfold State.dramN Board.channels
  split <;> omega

section
variable (h : SameMap s t)
include h

theorem SameMap.dramN : t.dramN = s.dramN := congrArg Board.channels h.board

theorem SameMap.dramQ : t.dramQ = s.dramQ := h.page 4 (by omega)

theorem SameMap.protUnits : t.protUnits = s.protUnits := by rw [State.protUnits, h.dramQ, State.protUnits]

theorem SameMap.protSize : t.protSize = s.protSize := by rw [State.protSize, h.dramQ, h.dramN, State.protSize]

theorem SameMap.mapAddr (a : Nat) : t.mapAddr a = s.mapAddr a := by
  unfold State.mapAddr State.dramExists State.unprotSize
  rw [h.protSize, h.dramN, h.dramQ, h.page 3 (by omega)]

theorem SameMap.deviceKey (c u : Nat) : t.deviceKey c u = s.deviceKey c u := by
  unfold State.deviceKey State.coord
  rw [h.page 5 (by omega), h.page 1 (by omega)]

theorem SameMap.others (c : Nat) : t.others c = s.others c := by rw [State.others, h.dramN, State.others]

theorem SameMap.devUnit (hd : t.dram = s.dram) (c u : Nat) : t.devUnit c u = s.devUnit c u := by
  rw [State.devUnit, hd, h.deviceKey, State.devUnit]

end

theorem mem_others {c d : Nat} : d ∈ s.others c ↔ d < s.dramN ∧ d ≠ c := by simp [State.others]

theorem parityChannel_lt (s : State) (stripe : Nat) : parityChannel s.dramN stripe < s.dramN := by
  have := dramN_ge s
  unfold parityChannel
  omega

/-- The channel and unit of a protected address (R338): no data unit lies in its stripe's parity channel. -/
theorem mapAddr_protected {u ch stripe : Nat} (h : s.mapAddr (64 * u) = some (ch, stripe)) (hp : 64 * u < s.protSize) :
    stripe = u / (s.dramN - 1) ∧ ch ≠ parityChannel s.dramN stripe := by
  have hn := dramN_ge s
  unfold State.mapAddr at h
  dsimp only at h
  rw [if_pos hp, Nat.mul_div_cancel_left _ (by omega)] at h
  cases h
  refine ⟨rfl, ?_⟩
  have hpos : u % (s.dramN - 1) < s.dramN - 1 := Nat.mod_lt _ (by omega)
  have hpar := parityChannel_lt s (u / (s.dramN - 1))
  unfold dataChannel
  generalize parityChannel s.dramN (u / (s.dramN - 1)) = p at *
  generalize u % (s.dramN - 1) = i at *
  by_cases hlt : p + 1 + i < s.dramN
  · rw [Nat.mod_eq_of_lt hlt]
    omega
  · rw [Nat.mod_eq_sub_mod (by omega), Nat.mod_eq_of_lt (by omega)]
    omega

/-- Where an unprotected address maps (R339). -/
theorem mapAddr_unprotected {a : Nat} (h : s.protSize ≤ a) (he : s.dramExists a = true) :
    s.mapAddr a = some ((a - s.protSize) / 64 % s.dramN, s.dramQ * 2 ^ 24 + (a - s.protSize) / 64 / s.dramN) := by
  unfold State.mapAddr
  dsimp only
  rw [if_neg (by omega), if_pos he, Nat.mul_comm unitsPerGib]

/-! ### The bytes of a unit -/

theorem devUnit_length (s : State) (c u : Nat) : (s.devUnit c u).length = 64 := dramRead_length ..

/-- A unit stored is held. -/
theorem devUnit_write_same {v : Bytes} (c u : Nat) (hm : SameMap s t) (hd : t.dram = dramWrite m (64 * s.deviceKey c u) v) (hw : dramWf m = true)
    (hv : v.length = 64) : t.devUnit c u = v := by
  rw [State.devUnit, hd, hm.deviceKey, ← hv, dramRead_write_same hw]

/-- A unit stored leaves the others. -/
theorem devUnit_write_other {v : Bytes} {c u d w : Nat} (hm : SameMap s t) (hd : t.dram = dramWrite s.dram (64 * s.deviceKey c u) v)
    (hw : dramWf s.dram = true) (hv : v.length ≤ 64) (hne : s.deviceKey d w ≠ s.deviceKey c u) : t.devUnit d w = s.devUnit d w := by
  rw [State.devUnit, hd, hm.deviceKey, dramRead_write_other hw (by omega), State.devUnit]

theorem xorBytes_length (a b : Bytes) : (xorBytes a b).length = min a.length b.length := List.length_zipWith

theorem stripePart_le (s : State) (c u : Nat) : (s.stripePart c u).length ≤ 64 := by
  unfold State.stripePart
  split
  · rw [xorBytes_length, devUnit_length]
    omega
  · rw [devUnit_length]

theorem stripePart_length (c : Nat) {u : Nat} (h : (s.stripeAcc u).delta.length = 64) : (s.stripePart c u).length = 64 := by
  unfold State.stripePart
  split
  · rw [xorBytes_length, devUnit_length, h]
    rfl
  · rw [devUnit_length]

theorem xorFold_le (f : Nat → Bytes) (cs : List Nat) (v : Bytes) : (cs.foldl (fun a c => xorBytes a (f c)) v).length ≤ v.length := by
  induction cs generalizing v with
  | nil => exact Nat.le_refl _
  | cons c cs ih =>
    refine Nat.le_trans (ih _) ?_
    rw [xorBytes_length]
    omega

theorem xorFold_length (f : Nat → Bytes) (hf : ∀ c, (f c).length = 64) (cs : List Nat) (v : Bytes) (hv : v.length = 64) :
    (cs.foldl (fun a c => xorBytes a (f c)) v).length = 64 := by
  induction cs generalizing v with
  | nil => exact hv
  | cons c cs ih => exact ih _ (by rw [xorBytes_length, hv, hf]; rfl)

theorem xorOthers_le (s : State) (c u : Nat) : (s.xorOthers c u).length ≤ 64 :=
  Nat.le_trans (xorFold_le _ _ _) (Nat.le_of_eq List.length_replicate)

theorem xorOthers_length (c : Nat) {u : Nat} (h : (s.stripeAcc u).delta.length = 64) : (s.xorOthers c u).length = 64 :=
  xorFold_length _ (fun d => stripePart_length d h) _ _ List.length_replicate

theorem localUnitBytes_length (c : Nat) {u : Nat} (h : (s.stripeAcc u).delta.length = 64) : (s.localUnitBytes c u).length = 64 := by
  unfold State.localUnitBytes
  split
  · exact devUnit_length s c u
  · exact xorOthers_length c h

theorem mergeMask_length (mask : Nat) (old new : Bytes) : (mergeMask mask old new).length = 64 := by
  rw [mergeMask, List.length_map, List.length_range]

end Sys2Proof.Machine
end

section
/-! What accesses to the devices leave alone, and what the service of held requests leaves alone (chapter 11, R341 to R346, R351). -/

set_option Elab.async false

namespace Sys2Proof.Machine

variable {s0 s t : State}

/-! ### Channels -/

theorem chan_modChan_same (s : State) (ch : Nat) (f : DramChannel → DramChannel) : (s.modChan ch f).chan ch = f (s.chan ch) := by
  unfold State.modChan State.setDdr State.chan
  dsimp only
  rw [lookup_insertKey_same, Option.getD_some]

theorem chan_modChan_other (s : State) {ch c : Nat} (f : DramChannel → DramChannel) (h : c ≠ ch) : (s.modChan ch f).chan c = s.chan c := by
  unfold State.modChan State.setDdr State.chan
  dsimp only
  rw [lookup_insertKey_other _ _ h]

theorem chan_of (hd : t.ddr.channels = s.ddr.channels) (hb : t.nv.boots = s.nv.boots) (c : Nat) : t.chan c = s.chan c := by
  unfold State.chan
  rw [hd, hb]

theorem modChan_chanState (s : State) (ch : Nat) (f : DramChannel → DramChannel) (c : Nat) : (s.modChan ch f).chanState c = s.chanState c := rfl

/-! ### The boot counter -/

theorem nvPlace_boots (s : State) (r : Nat) : (s.nvPlace r).nv.boots = s.nv.boots := by
  unfold State.nvPlace
  dsimp only
  split
  · rfl
  · split <;> rfl

theorem faultRecord_boots (s : State) (c a i u n d : Nat) : (s.faultRecord c a i u n d).nv.boots = s.nv.boots := by
  unfold State.faultRecord
  dsimp only
  split
  · rw [nvPlace_boots, notify_nv, fire_nv]
    rfl
  · rw [notify_nv, fire_nv]
    rfl

theorem faultStart_boots (s : State) (c i u d : Nat) : (s.faultStart c i u d).nv.boots = s.nv.boots := faultRecord_boots ..

theorem faultDone_boots (s : State) (c a i u d : Nat) : (s.faultDone c a i u d).nv.boots = s.nv.boots := by
  unfold State.faultDone
  split
  · exact faultRecord_boots ..
  · exact faultRecord_boots ..

/-! ### Accesses to devices -/

/-- The entries of chapter 11 that no access to devices changes: all but the counts of rebuilds and failed reads (5801h.05 and .06) and of a channel's
traffic (5810h+ch.05 to .0B). -/
abbrev accessKeeps (j b : Nat) : Prop :=
  b < 256 ∧ 0x5800 ≤ j ∧ j < 0x5880 ∧ (j ≠ 0x5801 ∨ b ≠ 5 ∧ b ≠ 6) ∧ (j < 0x5810 ∨ 0x5828 ≤ j ∨ b < 5 ∨ 0x0B < b)

/-- What a channel holds beside what accesses change: its LFSR, its rows, the neighbour refreshes owed and the class U meter. -/
def DramChannel.steady (x : DramChannel) : DramChannel := { x with lfsr := 0, rows := [], owed := [], meterWindow := 0, meterUnits := 0 }

/-- From `s0` to `s` devices were accessed and nothing was written: rows, LFSRs, meters and counts may have changed. -/
structure Accessed (s0 s : State) : Prop where
  board : s.board = s0.board
  boots : s.nv.boots = s0.nv.boots
  time : s.time = s0.time
  dram : s.dram = s0.dram
  ddr : s.ddr = { s0.ddr with channels := s.ddr.channels }
  chan : ∀ c, (s.chan c).steady = (s0.chan c).steady
  reg : ∀ j b, accessKeeps j b → s.reg j b = s0.reg j b

theorem accessed_refl (s : State) : Accessed s s := ⟨rfl, rfl, rfl, rfl, rfl, fun _ => rfl, fun _ _ _ => rfl⟩

theorem accessed_trans (h : Accessed s0 s) (k : Accessed s t) : Accessed s0 t :=
  ⟨k.board.trans h.board, k.boots.trans h.boots, k.time.trans h.time, k.dram.trans h.dram, k.ddr.trans (by rw [h.ddr]),
    fun c => (k.chan c).trans (h.chan c), fun j b hk => (k.reg j b hk).trans (h.reg j b hk)⟩

/-- An operation that changes neither DRAM, nor the engine, nor the kept entries. -/
theorem accessed_of (hb : t.board = s.board) (hn : t.nv.boots = s.nv.boots) (ht : t.time = s.time) (hm : t.dram = s.dram) (hd : t.ddr = s.ddr)
    (hr : ∀ j b, accessKeeps j b → t.reg j b = s.reg j b) : Accessed s t := by
  have hc (c : Nat) : t.chan c = s.chan c := chan_of (by rw [hd]) hn c
  exact ⟨hb, hn, ht, hm, by rw [hd], fun c => by rw [hc], hr⟩

theorem accessed_setReg {i a v : Nat} (h : Accessed s0 s) (ha : a < 256 := by omega)
    (hi : i < 0x5800 ∨ 0x5880 ≤ i ∨ i = 0x5801 ∧ (a = 5 ∨ a = 6) ∨ 0x5810 ≤ i ∧ i < 0x5828 ∧ 5 ≤ a ∧ a ≤ 0x0B := by omega) :
    Accessed s0 (s.setReg i a v) :=
  accessed_trans h (accessed_of rfl rfl rfl rfl rfl fun j b hk => set_ne (by omega) ha (by omega))

theorem accessed_modChan {ch : Nat} {f : DramChannel → DramChannel} (h : Accessed s0 s) (hf : ∀ x, (f x).steady = x.steady) :
    Accessed s0 (s.modChan ch f) := by
  refine accessed_trans h ⟨rfl, rfl, rfl, rfl, rfl, fun c => ?_, fun _ _ _ => rfl⟩
  by_cases hc : c = ch
  · rw [hc, chan_modChan_same, hf]
  · rw [chan_modChan_other s f hc]

theorem accessed_each {α : Type} {xs : List α} {f : α → State → State} (h : Accessed s0 s) (hf : ∀ x ∈ xs, ∀ s, Accessed s0 s → Accessed s0 (f x s)) :
    Accessed s0 (s.each xs f) := by
  unfold State.each
  induction xs generalizing s with
  | nil => exact h
  | cons x xs ih => exact ih (hf x (by simp) s h) (fun y hy => hf y (by simp [hy]))

theorem accessed_faultRecord {c a i u n d : Nat} (h : Accessed s0 s) : Accessed s0 (s.faultRecord c a i u n d) :=
  accessed_trans h (accessed_of (by simp) (faultRecord_boots ..) (by simp) (by simp) (by simp) fun _ _ _ => faultRecord_at _ _ _ _ _ _ _)

theorem accessed_faultStart {c i u d : Nat} (h : Accessed s0 s) : Accessed s0 (s.faultStart c i u d) :=
  accessed_trans h (accessed_of (by simp) (faultStart_boots ..) (by simp) (by simp) (by simp) fun _ _ _ => faultStart_at _ _ _ _ _)

theorem accessed_faultDone {c a i u d : Nat} (h : Accessed s0 s) : Accessed s0 (s.faultDone c a i u d) :=
  accessed_trans h (accessed_of (by simp) (faultDone_boots ..) (by simp) (by simp) (by simp) fun _ _ _ => faultDone_at _ _ _ _ _ _)

theorem accessed_draw {w : Nat} (h : Accessed s0 s) : Accessed s0 (s.draw w).2 :=
  accessed_trans h (accessed_of rfl rfl rfl rfl rfl fun _ _ _ => rfl)

section
variable {ch u : Nat} (hc : ch < 24) (h : Accessed s0 s)
include h

theorem accessed_readFails : Accessed s0 (s.readFails ch u) := accessed_faultRecord (accessed_setReg h)

include hc

theorem accessed_closeRow {bank : Nat} : Accessed s0 (s.closeRow ch bank) := by
  unfold State.closeRow
  dsimp only
  split
  · exact h
  · generalize (if (s.chan ch).owed.contains bank then _ else 0) = n
    have hclosed := accessed_modChan (ch := ch)
      (f := fun x => { x with lfsr := lfsrSteps n x.lfsr, rows := eraseKey x.rows bank, owed := x.owed.filter (fun b => b ≠ bank) })
      h (fun _ => rfl)
    split
    · exact hclosed
    · exact accessed_setReg (accessed_setReg hclosed)

theorem accessed_activate {bank row : Nat} : Accessed s0 (s.activate ch bank row) :=
  accessed_setReg (accessed_modChan h (fun _ => rfl))

theorem accessed_access : Accessed s0 (s.access ch u) := by
  unfold State.access
  dsimp only
  split
  · exact accessed_setReg h
  · exact accessed_activate hc (accessed_closeRow hc h)

theorem accessed_deviceRead : Accessed s0 (s.deviceRead ch u) := accessed_setReg (accessed_access hc h)

theorem accessed_meterU {cls : Nat} : Accessed s0 (s.meterU ch cls) := by
  unfold State.meterU
  split
  · exact h
  · have hmet (w n : Nat) := accessed_modChan (ch := ch) (f := fun x => { x with meterWindow := w, meterUnits := n }) h
      (fun _ => rfl)
    dsimp only
    generalize (if (s.chan ch).meterWindow = s.time.tclk / 500 then (s.chan ch).meterUnits + 1 else 1) = n
    split
    · exact accessed_setReg (hmet _ n)
    · exact hmet _ n

end

theorem others_lt {ch c : Nat} (h : c ∈ s.others ch) : c < 24 := Nat.lt_of_lt_of_le (mem_others.1 h).1 (dramN_le s)

theorem accessed_rebuildRead {ch u : Nat} (h : Accessed s0 s) : Accessed s0 (s.rebuildRead ch u) :=
  accessed_setReg (accessed_each h fun _ hx _ hs => accessed_deviceRead (others_lt hx) hs)

theorem accessed_engineRead {ch u : Nat} (hc : ch < 24) (h : Accessed s0 s) : Accessed s0 (s.engineRead ch u) := by
  unfold State.engineRead
  split
  · exact accessed_deviceRead hc h
  · split
    · exact accessed_rebuildRead h
    · exact accessed_readFails h

section
variable (h : Accessed s t)
include h

theorem Accessed.sameMap : SameMap s t := by
  refine ⟨h.board, fun b hb => h.reg _ _ ?_⟩
  omega

theorem Accessed.chanState {c : Nat} (hc : c < 24) : t.chanState c = s.chanState c := h.reg _ _ (by omega)

theorem Accessed.errors (c : Nat) : (t.chan c).errors = (s.chan c).errors := by
  have hc := congrArg DramChannel.errors (h.chan c)
  exact hc

theorem Accessed.scrub (c : Nat) : (t.chan c).scrub = (s.chan c).scrub := by
  have hc := congrArg DramChannel.scrub (h.chan c)
  exact hc

theorem Accessed.progress (c : Nat) : (t.chan c).progress = (s.chan c).progress := by
  have hc := congrArg DramChannel.progress (h.chan c)
  exact hc

theorem Accessed.postponed (c : Nat) : (t.chan c).postponed = (s.chan c).postponed := by
  have hc := congrArg DramChannel.postponed (h.chan c)
  exact hc

theorem Accessed.bad : t.ddr.bad = s.ddr.bad := by rw [h.ddr]

theorem Accessed.stripeAcc (st : Nat) : t.stripeAcc st = s.stripeAcc st := by rw [State.stripeAcc, h.ddr, State.stripeAcc]

theorem Accessed.devUnit (c u : Nat) : t.devUnit c u = s.devUnit c u := h.sameMap.devUnit h.dram c u

end

/-! ### Service of what is held -/

/-- The entries of chapter 11 that the service of held writes and waiting requests leaves alone: all but the engine's counts (5801h) and the counts and
last unit of a channel (5810h+ch.02 to .0B). -/
abbrev serviceKeeps (j b : Nat) : Prop :=
  b < 256 ∧ 0x5800 ≤ j ∧ j < 0x5880 ∧ j ≠ 0x5801 ∧ (j < 0x5810 ∨ 0x5828 ≤ j ∨ b < 2 ∨ 0x0B < b)

/-- From `s0` to `s` the engine and the controllers have served what they hold: no channel changes its state, and no request joins those waiting. -/
structure Served (s0 s : State) : Prop where
  board : s.board = s0.board
  freq : s.ddr.freqNext = s0.ddr.freqNext
  queue : s.ddr.queue ⊆ s0.ddr.queue
  reg : ∀ j b, serviceKeeps j b → s.reg j b = s0.reg j b

theorem served_refl (s : State) : Served s s := ⟨rfl, rfl, List.Subset.refl _, fun _ _ _ => rfl⟩

theorem served_trans (h : Served s0 s) (k : Served s t) : Served s0 t :=
  ⟨k.board.trans h.board, k.freq.trans h.freq, List.Subset.trans k.queue h.queue, fun j b hk => (k.reg j b hk).trans (h.reg j b hk)⟩

theorem served_accessed (h : Served s0 s) (k : Accessed s t) : Served s0 t := by
  have hd := k.ddr
  exact served_trans h ⟨k.board, by rw [hd], by rw [hd]; exact List.Subset.refl _, fun j b hk => k.reg j b (by omega)⟩

theorem served_setReg {i a v : Nat} (h : Served s0 s) (ha : a < 256 := by omega)
    (hi : i < 0x5800 ∨ 0x5880 ≤ i ∨ i = 0x5801 ∨ 0x5810 ≤ i ∧ i < 0x5828 ∧ 2 ≤ a ∧ a ≤ 0x0B := by omega) : Served s0 (s.setReg i a v) :=
  served_trans h ⟨rfl, rfl, List.Subset.refl _, fun j b hk => set_ne (by omega) ha (by omega)⟩

theorem served_setDdr {d : DramState} (h : Served s0 s) (hf : d.freqNext = s.ddr.freqNext) (hq : d.queue ⊆ s.ddr.queue) : Served s0 (s.setDdr d) :=
  served_trans h ⟨rfl, hf, hq, fun _ _ _ => rfl⟩

theorem served_each {α : Type} {xs : List α} {f : α → State → State} (h : Served s0 s) (hf : ∀ x ∈ xs, ∀ s, Served s0 s → Served s0 (f x s)) :
    Served s0 (s.each xs f) := by
  unfold State.each
  induction xs generalizing s with
  | nil => exact h
  | cons x xs ih => exact ih (hf x (by simp) s h) (fun y hy => hf y (by simp [hy]))

section
variable {ch u stripe pos off : Nat} {v bs : Bytes} {b : Bool} (hc : ch < 24) (h : Served s0 s)
include h

theorem served_markUnit : Served s0 (s.markUnit ch u b) := served_setDdr h rfl (List.Subset.refl _)

theorem served_putUnit : Served s0 (s.putUnit ch u v) := served_trans h ⟨rfl, rfl, List.Subset.refl _, fun _ _ _ => rfl⟩

include hc

theorem served_deviceRead : Served s0 (s.deviceRead ch u) := served_accessed h (accessed_deviceRead hc (accessed_refl s))

theorem served_engineRead : Served s0 (s.engineRead ch u) := served_accessed h (accessed_engineRead hc (accessed_refl s))

theorem served_deviceWrite : Served s0 (s.deviceWrite ch u v) := by
  unfold State.deviceWrite
  split
  · exact h
  · exact served_markUnit (served_putUnit (served_setReg (served_accessed h (accessed_access hc (accessed_refl s)))))

theorem served_plainWrite : Served s0 (s.plainWrite ch u off bs) := by
  unfold State.plainWrite State.whenB
  split
  · exact served_deviceWrite hc h
  · have hw := served_deviceWrite (u := u) (v := overlay (s.devUnit ch u) off bs) hc (served_deviceRead (u := u) hc h)
    dsimp only
    split
    · exact served_markUnit hw
    · exact hw

theorem served_enterStripe : Served s0 (s.enterStripe ch stripe pos v) := by
  have hw (d : DramState) (hd : d.freqNext = s.ddr.freqNext) (hq : d.queue = s.ddr.queue) : Served s0 ((s.setDdr d).deviceWrite ch stripe v) :=
    served_deviceWrite hc (served_setDdr h hd (by rw [hq]; exact List.Subset.refl _))
  unfold State.enterStripe
  dsimp only
  split
  · exact served_markUnit (hw _ rfl rfl)
  · exact hw _ rfl rfl

theorem served_completeUnit {x : Assembly} : Served s0 (s.completeUnit x ch stripe).2 := by
  unfold State.completeUnit
  split
  · exact h
  · split
    · exact served_setReg (served_engineRead hc h)
    · exact served_setReg (served_engineRead hc (served_accessed h (accessed_draw (accessed_refl s))))

theorem served_countUncorrectable : Served s0 (s.countUncorrectable ch u) :=
  served_trans (served_setReg (served_setReg h)) ⟨rfl, rfl, List.Subset.refl _, fun _ _ _ => rfl⟩

theorem served_readUnitOnly {err : Nat} : Served s0 (s.readUnitOnly ch u err) := by
  have hread := served_deviceRead (u := u) hc h
  have hfails {t : State} (ht : Served s0 t) : Served s0 (t.readFails ch u) := served_accessed ht (accessed_readFails (accessed_refl t))
  have hrebuild {t : State} (ht : Served s0 t) : Served s0 (t.rebuildRead ch u) := served_accessed ht (accessed_rebuildRead (accessed_refl t))
  have hstart {t : State} {d : Nat} (ht : Served s0 t) : Served s0 (t.faultStart 5 ch 0 d) := served_accessed ht (accessed_faultStart (accessed_refl t))
  have hdone {t : State} {a d : Nat} (ht : Served s0 t) : Served s0 (t.faultDone 5 a ch 0 d) := served_accessed ht (accessed_faultDone (accessed_refl t))
  have hfound : Served s0 (if decide (u < s.protUnits) then ((s.deviceRead ch u).markUnit ch u true).faultStart 5 ch 0 (64 * u)
      else (s.deviceRead ch u).markUnit ch u true) := ite_ind (hstart (served_markUnit hread)) (served_markUnit hread)
  unfold State.readUnitOnly
  dsimp only
  split
  · split
    · split
      · exact served_setReg (served_setReg hread)
      · exact hread
    · refine served_countUncorrectable hc ?_
      split
      · exact hdone (served_deviceWrite hc (hrebuild hfound))
      · split
        · next hp =>
          exact hdone (hfails (hstart (served_markUnit hread)))
        · exact hfails (served_markUnit hread)
  · split
    · exact hrebuild h
    · exact hfails h

end

theorem parityChannel_lt24 (s : State) (stripe : Nat) : parityChannel s.dramN stripe < 24 := Nat.lt_of_lt_of_le (parityChannel_lt s stripe) (dramN_le s)

theorem dataChannel_lt24 (s : State) (stripe i : Nat) : dataChannel s.dramN stripe i < 24 := by
  have := dramN_ge s
  exact Nat.lt_of_lt_of_le (Nat.mod_lt _ (by omega)) (dramN_le s)

theorem mapAddr_lt24 {a ch l : Nat} (h : s.mapAddr a = some (ch, l)) : ch < 24 := Nat.lt_of_lt_of_le (mapAddr_channel h) (dramN_le s)

/-- The channels of a stripe whose data units have not closed. -/
def State.stripeRest (s : State) (stripe : Nat) : List Nat :=
  (openPositions (s.dramN - 1) (s.stripeAcc stripe).closed).map (dataChannel s.dramN stripe)

/-- The parity that a stripe's accumulator is closed with (R341). -/
def State.stripeParity (s : State) (stripe : Nat) : Bytes :=
  if (s.stripeRest stripe).all (fun c => s.unitGood c stripe) then
    (s.stripeRest stripe).foldl (fun a c => xorBytes a (s.devUnit c stripe)) (s.stripeAcc stripe).sum
  else s.stripePart (parityChannel s.dramN stripe) stripe

/-- The completion reads of a stripe's units are done and counted (R341). -/
def State.stripeCounted (s : State) (stripe : Nat) : State :=
  let t := s.each (s.stripeRest stripe) (fun c s => s.engineRead c stripe)
  if (s.stripeRest stripe).isEmpty then t.inc64 0x5801 1 1 else (t.inc64 0x5801 2 1).inc64 0x5801 4 (s.stripeRest stripe).length

/-- A stripe's parity is ready to be written: its accumulator is gone. -/
def State.stripeRead (s : State) (stripe : Nat) : State :=
  (s.stripeCounted stripe).setDdr { (s.stripeCounted stripe).ddr with stripes := eraseKey (s.stripeCounted stripe).ddr.stripes stripe }

theorem closeStripe_eq (s : State) (stripe : Nat) : ∃ bad : Bool, s.closeStripe stripe =
    if bad then ((s.stripeRead stripe).deviceWrite (parityChannel s.dramN stripe) stripe (s.stripeParity stripe)).markUnit
      (parityChannel s.dramN stripe) stripe true
    else (s.stripeRead stripe).deviceWrite (parityChannel s.dramN stripe) stripe (s.stripeParity stripe) := ⟨_, rfl⟩

theorem stripeRest_lt {stripe c : Nat} (h : c ∈ s.stripeRest stripe) : c < 24 := by
  obtain ⟨i, -, rfl⟩ := List.mem_map.1 h
  exact dataChannel_lt24 s stripe i

theorem served_stripeRead (h : Served s0 s) (stripe : Nat) : Served s0 (s.stripeRead stripe) := by
  have hread : Served s0 (s.each (s.stripeRest stripe) (fun c s => s.engineRead c stripe)) :=
    served_each h fun c hc t ht => served_engineRead (stripeRest_lt hc) ht
  refine served_setDdr ?_ rfl (List.Subset.refl _)
  unfold State.stripeCounted
  dsimp only
  split
  · exact served_setReg hread
  · exact served_setReg (served_setReg hread)

theorem served_closeStripe (h : Served s0 s) (stripe : Nat) : Served s0 (s.closeStripe stripe) := by
  obtain ⟨bad, he⟩ := closeStripe_eq s stripe
  have hw := served_deviceWrite (u := stripe) (v := s.stripeParity stripe) (parityChannel_lt24 s stripe) (served_stripeRead h stripe)
  rw [he]
  split
  · exact served_markUnit hw
  · exact hw

theorem served_closeAssembly (h : Served s0 s) (x : Assembly) (close : Bool) : Served s0 (s.closeAssembly x close) := by
  have herase : Served s0 (s.setDdr { s.ddr with assemblies := s.ddr.assemblies.erase x }) := served_setDdr h rfl (List.Subset.refl _)
  unfold State.closeAssembly
  dsimp only
  split
  · exact herase
  · next ch stripe hm =>
    have hc := mapAddr_lt24 hm
    have henter := fun v pos => served_enterStripe (stripe := stripe) (pos := pos) (v := v) hc (served_completeUnit (stripe := stripe) (x := x) hc herase)
    split
    · exact served_closeStripe (henter _ _) stripe
    · exact henter _ _

theorem served_releaseHeld (h : Served s0 s) (ch : Nat) : Served s0 (s.releaseHeld ch) :=
  served_each (served_each h fun x _ _ ht => served_closeAssembly ht x false) fun p _ _ ht => served_closeStripe ht p.1

theorem served_admitWriters (h : Served s0 s) : Served s0 s.admitWriters := by
  refine served_each h fun w _ t ht => ?_
  split
  · exact served_setReg (served_setDdr (served_setDdr ht rfl (List.Subset.refl _)) rfl (List.Subset.refl _))
  · exact ht

theorem served_serveReq {r : DramReq} (hc : r.ch < 24) (h : Served s0 s) : Served s0 (s.serveReq r) := by
  have herase : Served s0 (s.setDdr { s.ddr with queue := s.ddr.queue.erase r }) := served_setDdr h rfl List.erase_subset
  unfold State.serveReq
  dsimp only
  split
  · exact served_plainWrite hc herase
  · exact served_readUnitOnly hc herase

/-- A controller serves requests of its own channel. -/
theorem nextReq_ch {ch : Nat} {r : DramReq} (h : s.nextReq ch = some r) : r.ch = ch := by
  unfold State.nextReq at h
  dsimp only at h
  split at h
  · cases h
  · have hmem := List.mem_of_mem_take (List.mem_of_find?_eq_some h)
    simpa using (List.mem_filter.1 hmem).2

theorem served_serveQueue {ch : Nat} (hc : ch < 24) (h : Served s0 s) (fuel : Nat) : Served s0 (s.serveQueue ch fuel) := by
  induction fuel generalizing s with
  | zero => exact h
  | succ fuel ih =>
    unfold State.serveQueue
    split
    · next r hr => exact ih (served_serveReq (by rw [nextReq_ch hr]; exact hc) h)
    · exact h

theorem Served.chanState (h : Served s t) {c : Nat} (hc : c < 24) : t.chanState c = s.chanState c := h.reg _ _ (by omega)

end Sys2Proof.Machine
end

section
/-! A channel goes OFFLINE, returns, is lost and is rebuilt (chapter 11, R351 to R354). -/

set_option Elab.async false

namespace Sys2Proof.Machine

variable {s t : State} {ch : Nat}

/-! ### Rows close -/

theorem eraseKeys_keys {α : Type} (p : Nat → Bool) (l : List (Nat × α)) :
    ((l.map (fun r => r.1)).filter p).foldl eraseKey l = l.filter (fun r => !p r.1) := by
  have hcons (k : Nat) (w : α) (ks : List Nat) (l : List (Nat × α)) (h : ∀ x ∈ ks, x ≠ k) :
      ks.foldl eraseKey ((k, w) :: l) = (k, w) :: ks.foldl eraseKey l := by
    induction ks generalizing l with
    | nil => rfl
    | cons x ks ih =>
      rw [List.foldl_cons, eraseKey, if_neg (h x (by simp)), ih _ (fun y hy => h y (by simp [hy])), List.foldl_cons]
  induction l with
  | nil => rfl
  | cons r l ih =>
    obtain ⟨k, w⟩ := r
    by_cases hp : p k = true
    · have herase : eraseKey ((k, w) :: l) k = l := if_pos rfl
      simp [hp, herase, ih]
    · have hks : ∀ x ∈ (l.map (fun r => r.1)).filter p, x ≠ k := by
        intro x hx e
        exact hp (e ▸ (List.mem_filter.1 hx).2)
      simp only [List.map_cons, List.filter_cons, hp, Bool.false_eq_true, if_false, Bool.not_false, if_true]
      rw [hcons k w _ _ hks, ih]

theorem closeRow_rows (s : State) (ch bank : Nat) : ((s.closeRow ch bank).chan ch).rows = eraseKey (s.chan ch).rows bank := by
  unfold State.closeRow
  dsimp only
  split
  · next hl => exact (eraseKey_absent hl).symm
  · generalize (if (s.chan ch).owed.contains bank then _ else 0) = n
    have hrows := congrArg DramChannel.rows (chan_modChan_same s ch
      (fun x => { x with lfsr := lfsrSteps n x.lfsr, rows := eraseKey x.rows bank, owed := x.owed.filter (fun b => b ≠ bank) }))
    split
    · exact hrows
    · exact hrows

/-- The rows that stay open when those of some banks close. -/
theorem closeRows_rows (s : State) (ch : Nat) (p : Nat → Bool) : ((s.closeRows ch p).chan ch).rows = (s.chan ch).rows.filter (fun r => !p r.1) := by
  have hfold (ks : List Nat) (u : State) : ((u.each ks (fun b s => s.closeRow ch b)).chan ch).rows = ks.foldl eraseKey (u.chan ch).rows := by
    unfold State.each
    induction ks generalizing u with
    | nil => rfl
    | cons k ks ih => rw [List.foldl_cons, List.foldl_cons, ih, closeRow_rows]
  rw [State.closeRows, hfold, eraseKeys_keys]

theorem accessed_closeRows (hc : ch < 24) (s : State) (p : Nat → Bool) : Accessed s (s.closeRows ch p) :=
  accessed_each (accessed_refl s) fun _ _ _ ht => accessed_closeRow hc ht

/-! ### A channel goes OFFLINE -/

/-- What an OFFLINE channel's start leaves (R351, R360). -/
theorem goOffline_spec (hc : ch < 24) (s : State) : (s.goOffline ch).chanState ch = 1 ∧ ((s.goOffline ch).chan ch).rows = [] ∧
    (s.goOffline ch).reg (0x5840 + ch) 6 = s.reg (0x5840 + ch) 6 ∧ (s.goOffline ch).ddr.freqNext = s.ddr.freqNext := by
  have hclosed := accessed_closeRows hc s (fun _ => true)
  refine ⟨reg_setReg_same .., ?_, ?_, ?_⟩
  · have hrows := closeRows_rows s ch (fun _ => true)
    rw [Bool.not_true, List.filter_false] at hrows
    exact (congrArg DramChannel.rows (chan_of (s := s.closeRows ch (fun _ => true)) rfl rfl ch)).trans hrows
  · rw [State.goOffline, set_ne, hclosed.reg _ _ (by omega)]
  · rw [State.goOffline, setReg_ddr, hclosed.ddr]

/-! ### An OFFLINE channel returns -/

/-- The state in which an OFFLINE channel is ONLINE again, and in a frequency change has taken its shadow delays (R351, R360). -/
def State.returned (s : State) (ch : Nat) : State :=
  let s := s.setReg (0x5810 + ch) 1 0
  if s.ddr.freqNext = some ch then
    let s := s.takeDelays ch (s.shadowBlock ch)
    s.setDdr { s.ddr with freqNext := some (ch + 1) }
  else s

theorem backOnline_eq (s : State) (ch : Nat) :
    s.backOnline ch = (((s.returned ch).releaseHeld ch).admitWriters).serveQueue ch (s.returned ch).ddr.queue.length := rfl

theorem served_backOnline (hc : ch < 24) (s : State) : Served (s.returned ch) (s.backOnline ch) :=
  served_serveQueue hc (served_admitWriters (served_releaseHeld (served_refl _) ch)) _

theorem setDom_dom (s : State) (i a : Nat) (b : Bytes) : (s.setDom i a b).dom i a = b := by
  unfold State.setDom
  split
  · assumption
  · unfold State.dom
    dsimp only
    rw [lookup_insertKey_same]

theorem takeDelays_ddr (s : State) (ch : Nat) (b : Bytes) : (s.takeDelays ch b).ddr = s.ddr := setDom_ddr ..

theorem takeDelays_reg (s : State) (ch : Nat) (b : Bytes) {j x : Nat} (hx : x < 256) (h : j ≠ 0x5840 + ch ∨ x ≠ 4) :
    (s.takeDelays ch b).reg j x = s.reg j x := by
  rw [State.takeDelays, set_ne, setDom_reg]

theorem takeDelays_margin (s : State) (ch : Nat) (b : Bytes) : (s.takeDelays ch b).reg (0x5840 + ch) 4 = field b 6 2 := reg_setReg_same ..

theorem takeDelays_dom (s : State) (ch : Nat) (b : Bytes) : (s.takeDelays ch b).dom (0x5840 + ch) 1 = b := setDom_dom s _ 1 b

/-- The engine and the controllers as an OFFLINE channel's return finds them. -/
theorem returned_ddr (s : State) (ch : Nat) :
    (s.returned ch).ddr = { s.ddr with freqNext := if s.ddr.freqNext = some ch then some (ch + 1) else s.ddr.freqNext } := by
  unfold State.returned
  dsimp only
  rw [setReg_ddr]
  split
  · rw [setDdr_ddr, takeDelays_ddr, setReg_ddr]
  · rfl

theorem returned_board (s : State) (ch : Nat) : (s.returned ch).board = s.board := by
  unfold State.returned State.takeDelays State.setDom
  dsimp only
  split
  · split <;> rfl
  · rfl

theorem returned_dram (s : State) (ch : Nat) : (s.returned ch).dram = s.dram := by
  unfold State.returned State.takeDelays State.setDom
  dsimp only
  split
  · split <;> rfl
  · rfl

/-- What a channel's return changes of the entries: its state, and in a frequency change its margin. -/
theorem returned_reg (s : State) (ch : Nat) {j b : Nat} (hb : b < 256) (h1 : j ≠ 0x5810 + ch ∨ b ≠ 1)
    (h4 : s.ddr.freqNext = some ch → j ≠ 0x5840 + ch ∨ b ≠ 4) : (s.returned ch).reg j b = s.reg j b := by
  unfold State.returned
  dsimp only
  rw [setReg_ddr]
  split
  · next hf => rw [setDdr_reg, takeDelays_reg _ _ _ hb (h4 hf), set_ne]
  · exact set_ne

theorem returned_chanState (s : State) (ch : Nat) : (s.returned ch).chanState ch = 0 := by
  unfold State.returned State.chanState
  dsimp only
  split
  · rw [setDdr_reg, takeDelays_reg _ _ _ (by omega) (by omega), reg_setReg_same]
  · exact reg_setReg_same ..

theorem backOnline_chanState (hc : ch < 24) (s : State) : (s.backOnline ch).chanState ch = 0 := by
  rw [(served_backOnline hc s).chanState hc, returned_chanState]

theorem backOnline_reg (hc : ch < 24) (s : State) {j b : Nat} (hk : serviceKeeps j b) (h1 : j ≠ 0x5810 + ch ∨ b ≠ 1)
    (h4 : s.ddr.freqNext = some ch → j ≠ 0x5840 + ch ∨ b ≠ 4) : (s.backOnline ch).reg j b = s.reg j b := by
  rw [(served_backOnline hc s).reg j b hk, returned_reg s ch hk.1 h1 h4]

theorem backOnline_freq (hc : ch < 24) (s : State) :
    (s.backOnline ch).ddr.freqNext = if s.ddr.freqNext = some ch then some (ch + 1) else s.ddr.freqNext := by
  rw [(served_backOnline hc s).freq, returned_ddr]

theorem backOnline_queue (hc : ch < 24) (s : State) : (s.backOnline ch).ddr.queue ⊆ s.ddr.queue := by
  have hq := (served_backOnline hc s).queue
  rwa [returned_ddr] at hq

theorem backOnline_board (hc : ch < 24) (s : State) : (s.backOnline ch).board = s.board := by
  rw [(served_backOnline hc s).board, returned_board]

theorem shadowBlock_of (hd : t.doms = s.doms) (hn : t.nv = s.nv) (h2 : t.reg 0x5800 2 = s.reg 0x5800 2) (h1 : t.reg 0x5800 1 = s.reg 0x5800 1) (ch : Nat) :
    t.shadowBlock ch = s.shadowBlock ch := by
  unfold State.shadowBlock State.liveBlock State.dom
  rw [hd, hn, h1, h2]

/-- A channel in a frequency change returns with its shadow delays (R360). -/
theorem backOnline_delays (hc : ch < 24) (hf : s.ddr.freqNext = some ch) :
    (s.backOnline ch).dom (0x5840 + ch) 1 = s.shadowBlock ch ∧ (s.backOnline ch).reg (0x5840 + ch) 4 = field (s.shadowBlock ch) 6 2 := by
  have hdoms : (s.backOnline ch).doms = (s.returned ch).doms :=
    (fr_serveQueue (m := 558875) (by decide) (fr_admitWriters (by decide) (fr_releaseHeld (by decide) (fr_refl (s.returned ch))))).same .doms (by decide)
  have hpage (b : Nat) (hb : b < 256) : (s.setReg (0x5810 + ch) 1 0).reg 0x5800 b = s.reg 0x5800 b := set_ne
  have hsame : (s.setReg (0x5810 + ch) 1 0).shadowBlock ch = s.shadowBlock ch :=
    shadowBlock_of (s := s) (t := s.setReg (0x5810 + ch) 1 0) rfl rfl (hpage 2 (by omega)) (hpage 1 (by omega)) ch
  have hret : s.returned ch = ((s.setReg (0x5810 + ch) 1 0).takeDelays ch (s.shadowBlock ch)).setDdr
      { ((s.setReg (0x5810 + ch) 1 0).takeDelays ch (s.shadowBlock ch)).ddr with freqNext := some (ch + 1) } := by
    unfold State.returned
    dsimp only
    rw [setReg_ddr, if_pos hf, hsame]
  refine ⟨?_, ?_⟩
  · have hdom : (s.backOnline ch).dom (0x5840 + ch) 1 = (s.returned ch).dom (0x5840 + ch) 1 := by
      unfold State.dom
      rw [hdoms]
    rw [hdom, hret]
    exact takeDelays_dom ..
  · rw [(served_backOnline hc s).reg _ _ (by omega), hret, setDdr_reg, takeDelays_margin]

/-! ### With nothing held -/

/-- The engine holds nothing, and nothing waits for it or at a controller. -/
def State.idle (s : State) : Prop := s.ddr.assemblies = [] ∧ s.ddr.stripes = [] ∧ s.ddr.queue = [] ∧ s.ddr.writers = []

theorem releaseHeld_idle (h : s.idle) (ch : Nat) : s.releaseHeld ch = s := by
  obtain ⟨ha, hs, -, -⟩ := h
  unfold State.releaseHeld
  dsimp only
  rw [ha, List.filter_nil]
  show s.each (s.ddr.stripes.filter _) _ = s
  rw [hs, List.filter_nil]
  rfl

theorem admitWriters_idle (h : s.ddr.writers = []) : s.admitWriters = s := by
  unfold State.admitWriters
  rw [h]
  rfl

theorem backOnline_idle (h : s.idle) (ch : Nat) : s.backOnline ch = s.returned ch := by
  have hr : (s.returned ch).idle := by
    unfold State.idle
    rw [returned_ddr]
    exact h
  rw [backOnline_eq, releaseHeld_idle hr, admitWriters_idle hr.2.2.2, hr.2.2.1]
  rfl

/-! ### Several channels return -/

theorem each_backOnline {cs : List Nat} (hcs : ∀ c ∈ cs, c < 24) (s : State) :
    (s.each cs (fun c s => s.backOnline c)).board = s.board ∧
    (s.each cs (fun c s => s.backOnline c)).ddr.queue ⊆ s.ddr.queue ∧
    (∀ d, d < 24 → (s.each cs (fun c s => s.backOnline c)).chanState d = if d ∈ cs then 0 else s.chanState d) ∧
    (∀ j b, serviceKeeps j b → (∀ c ∈ cs, (j ≠ 0x5810 + c ∨ b ≠ 1) ∧ (j ≠ 0x5840 + c ∨ b ≠ 4)) →
      (s.each cs (fun c s => s.backOnline c)).reg j b = s.reg j b) ∧
    (s.idle → (s.each cs (fun c s => s.backOnline c)).idle ∧ (s.each cs (fun c s => s.backOnline c)).dram = s.dram) := by
  unfold State.each
  induction cs generalizing s with
  | nil => exact ⟨rfl, List.Subset.refl _, fun d _ => by simp, fun _ _ _ _ => rfl, fun h => ⟨h, rfl⟩⟩
  | cons c cs ih =>
    have hc := hcs c (by simp)
    obtain ⟨hboard, hqueue, hstate, hreg, hidle⟩ := ih (fun d hd => hcs d (by simp [hd])) (s.backOnline c)
    rw [List.foldl_cons]
    refine ⟨hboard.trans (backOnline_board hc s), List.Subset.trans hqueue (backOnline_queue hc s), fun d hd => ?_, fun j b hk hne => ?_, fun h => ?_⟩
    · rw [hstate d hd]
      by_cases hdc : d = c
      · rw [hdc, backOnline_chanState hc]
        simp
      · rw [show (s.backOnline c).chanState d = s.chanState d from backOnline_reg hc s (by omega) (by omega) (by omega)]
        simp [hdc]
    · have hcne := hne c (by simp)
      rw [hreg j b hk (fun d hd => hne d (by simp [hd])), backOnline_reg hc s hk hcne.1 (fun _ => hcne.2)]
    · have hback := backOnline_idle h c
      have hnext : (s.backOnline c).idle := by
        rw [hback]
        unfold State.idle
        rw [returned_ddr]
        exact h
      obtain ⟨hi, hd⟩ := hidle hnext
      exact ⟨hi, by rw [hd, hback, returned_dram]⟩

/-! ### A channel is lost -/

/-- The other OFFLINE channels have returned (R354). -/
def State.othersReturned (s : State) (ch : Nat) : State := s.each ((s.channelsIn 1).filter (fun c => c ≠ ch)) (fun c s => s.backOnline c)

/-- The state in which the others have returned and no change of frequency goes on (R354, R360). -/
def State.freqEnded (s : State) : State :=
  if s.ddr.freqNext.isSome then (s.setDdr { s.ddr with freqNext := none }).setReg 0x5800 0x10 3 else s

theorem freqEnded_ddr (s : State) : s.freqEnded.ddr = { s.ddr with freqNext := none } := by
  unfold State.freqEnded
  split
  · rfl
  · next h =>
    have hn : s.ddr.freqNext = none := by simpa using h
    rw [← hn]

theorem freqEnded_reg (s : State) {j b : Nat} (hb : b < 256) (h : j ≠ 0x5800 ∨ b ≠ 0x10) : s.freqEnded.reg j b = s.reg j b := by
  unfold State.freqEnded
  split
  · rw [set_ne, setDdr_reg]
  · rfl

theorem freqEnded_kept (s : State) : s.freqEnded.board = s.board ∧ s.freqEnded.dram = s.dram := by
  unfold State.freqEnded
  split <;> exact ⟨rfl, rfl⟩

/-- The state in which a recalibration of the channel that goes on has failed (R352, R358). -/
def State.recalEnded (s : State) (ch : Nat) : State := if s.reg (0x5840 + ch) 6 = 1 then s.setReg (0x5840 + ch) 6 3 else s

theorem recalEnded_ddr (s : State) (ch : Nat) : (s.recalEnded ch).ddr = s.ddr := by
  unfold State.recalEnded
  split <;> rfl

theorem recalEnded_reg (s : State) (ch : Nat) {j b : Nat} (hb : b < 256) (h : j ≠ 0x5840 + ch ∨ b ≠ 6) : (s.recalEnded ch).reg j b = s.reg j b := by
  unfold State.recalEnded
  split
  · exact set_ne
  · rfl

theorem recalEnded_kept (s : State) (ch : Nat) : (s.recalEnded ch).board = s.board ∧ (s.recalEnded ch).dram = s.dram := by
  unfold State.recalEnded
  split <;> exact ⟨rfl, rfl⟩

/-- The state in which a channel is LOST, with its cause (R351, R352, R354). -/
def State.lostSet (s : State) (ch cause : Nat) : State :=
  let t := ((s.othersReturned ch).freqEnded.recalEnded ch)
  ((((t.faultStart 6 ch cause t.sc).setReg (0x5810 + ch) 1 2).setReg (0x5810 + ch) 0x10 cause).setReg (0x5810 + ch) 0x0F 0).modChan ch
    (fun x => { x with rows := [], owed := [], errors := [], applyRanks := [], progress := 0, credit := 0 })

/-- From the state in which a channel is LOST, its requests fail, and what the engine held for it is let go. -/
def State.lostServed (s : State) (ch : Nat) : State := ((s.failQueue ch).releaseHeld ch).admitWriters.fire 0x340 ch

theorem channelLost_eq (h : s.chanState ch ≠ 2) (cause : Nat) : ∃ d, s.channelLost ch cause = ((s.lostSet ch cause).lostServed ch).faultDone 6 6 ch cause d := by
  unfold State.channelLost
  rw [if_neg h]
  exact ⟨_, rfl⟩

theorem served_lostServed (s : State) (ch : Nat) : Served (s.setDdr { s.ddr with queue := s.ddr.queue.filter (fun r => r.ch ≠ ch) }) (s.lostServed ch) := by
  have hfail : Served (s.setDdr { s.ddr with queue := s.ddr.queue.filter (fun r => r.ch ≠ ch) }) (s.failQueue ch) := by
    unfold State.failQueue
    dsimp only
    exact served_each (served_refl _) fun r _ t ht => served_accessed ht (accessed_readFails (accessed_refl t))
  refine served_trans (served_admitWriters (served_releaseHeld hfail ch)) ?_
  unfold State.lostServed
  refine ⟨fire_board .., ?_, ?_, fun j b hk => fire_low _ _ _ (by omega) hk.1 (by omega)⟩
  · rw [fire_ddr]
  · rw [fire_ddr]
    exact List.Subset.refl _

theorem mem_returning {s : State} {ch c : Nat} : c ∈ (s.channelsIn 1).filter (fun c => c ≠ ch) ↔ c < s.dramN ∧ s.chanState c = 1 ∧ c ≠ ch := by
  simp only [State.channelsIn, List.mem_filter, List.mem_range, decide_eq_true_eq, and_assoc]

/-- What the return of the other OFFLINE channels leaves (R354). -/
theorem othersReturned_spec (hc : ch < s.dramN) : (s.othersReturned ch).board = s.board ∧ (s.othersReturned ch).ddr.queue ⊆ s.ddr.queue ∧
    (∀ d, d < s.dramN → (s.othersReturned ch).chanState d = if s.chanState d = 1 ∧ d ≠ ch then 0 else s.chanState d) ∧
    (∀ j b, serviceKeeps j b → (j < 0x5810 ∨ 0x5828 ≤ j ∨ b ≠ 1) → (j < 0x5840 ∨ 0x5858 ≤ j ∨ b ≠ 4) → (s.othersReturned ch).reg j b = s.reg j b) ∧
    (∀ b, b < 256 → (s.othersReturned ch).reg (0x5840 + ch) b = s.reg (0x5840 + ch) b) ∧
    (s.idle → (s.othersReturned ch).idle ∧ (s.othersReturned ch).dram = s.dram) := by
  have hn := dramN_le s
  have hcs : ∀ c ∈ (s.channelsIn 1).filter (fun c => c ≠ ch), c < 24 := fun c hm => Nat.lt_of_lt_of_le (mem_returning.1 hm).1 hn
  obtain ⟨hboard, hqueue, hstate, hreg, hidle⟩ := each_backOnline hcs s
  refine ⟨hboard, hqueue, fun d hd => ?_, fun j b hk h1 h4 => hreg j b hk fun c hm => ?_, fun b hb => hreg _ b (by omega) fun c hm => ?_, hidle⟩
  · rw [State.othersReturned, hstate d (by omega)]
    simp only [mem_returning, hd, true_and]
  · have := hcs c hm
    omega
  · have hc24 := hcs c hm
    have hne := (mem_returning.1 hm).2.2
    omega

/-- What a channel's loss leaves before what it held is served. -/
theorem lostSet_eq (s : State) (ch cause : Nat) : ∃ f d, s.lostSet ch cause =
    ((((((s.othersReturned ch).freqEnded.recalEnded ch).faultStart 6 ch cause d).setReg (0x5810 + ch) 1 2).setReg (0x5810 + ch) 0x10 cause).setReg
      (0x5810 + ch) 0x0F 0).modChan ch f := by
  unfold State.lostSet
  exact ⟨_, _, rfl⟩

theorem lostSet_ddr (s : State) (ch cause : Nat) : ∃ m, (s.lostSet ch cause).ddr = { (s.othersReturned ch).ddr with freqNext := none, channels := m } := by
  obtain ⟨f, d, he⟩ := lostSet_eq s ch cause
  refine ⟨(s.lostSet ch cause).ddr.channels, ?_⟩
  rw [he]
  unfold State.modChan
  simp only [setDdr_ddr, setReg_ddr, faultStart_ddr, recalEnded_ddr, freqEnded_ddr]

theorem lostSet_kept (s : State) (ch cause : Nat) : (s.lostSet ch cause).board = (s.othersReturned ch).board ∧
    (s.lostSet ch cause).dram = (s.othersReturned ch).dram := by
  obtain ⟨f, d, he⟩ := lostSet_eq s ch cause
  rw [he]
  unfold State.modChan
  refine ⟨?_, ?_⟩
  · rw [setDdr_board, setReg_board, setReg_board, setReg_board, faultStart_board, (recalEnded_kept ..).1, (freqEnded_kept _).1]
  · rw [setDdr_dram, setReg_dram, setReg_dram, setReg_dram, faultStart_dram, (recalEnded_kept ..).2, (freqEnded_kept _).2]

/-- The entries of a LOST channel (R352, R353). -/
theorem lostSet_entries (s : State) (ch : Nat) (cause : Nat) : (s.lostSet ch cause).chanState ch = 2 ∧
    (s.lostSet ch cause).reg (0x5810 + ch) 0x10 = cause ∧ (s.lostSet ch cause).reg (0x5810 + ch) 0x0F = 0 := by
  obtain ⟨f, d, he⟩ := lostSet_eq s ch cause
  rw [he, modChan_chanState]
  unfold State.modChan State.chanState
  refine ⟨?_, ?_, ?_⟩
  · rw [set_ne, set_ne, reg_setReg_same]
  · rw [setDdr_reg, set_ne, reg_setReg_same]
  · rw [setDdr_reg, reg_setReg_same]

/-- The other entries as a channel is lost. -/
theorem lostSet_reg (s : State) (ch cause : Nat) {j b : Nat} (hk : serviceKeeps j b) (h1 : j ≠ 0x5810 + ch ∨ b ≠ 1 ∧ b ≠ 0x10 ∧ b ≠ 0x0F)
    (h0 : j ≠ 0x5800 ∨ b ≠ 0x10) (h6 : j ≠ 0x5840 + ch ∨ b ≠ 6) : (s.lostSet ch cause).reg j b = (s.othersReturned ch).reg j b := by
  obtain ⟨f, d, he⟩ := lostSet_eq s ch cause
  rw [he]
  unfold State.modChan
  rw [setDdr_reg, set_ne, set_ne, set_ne, faultStart_at, recalEnded_reg _ _ hk.1 h6, freqEnded_reg _ hk.1 h0]

/-- A recalibration whose state was not 1 keeps it through the loss of its channel. -/
theorem lostSet_recal (hc : ch < s.dramN) (cause : Nat) (h : s.reg (0x5840 + ch) 6 ≠ 1) :
    (s.lostSet ch cause).reg (0x5840 + ch) 6 = s.reg (0x5840 + ch) 6 := by
  have hn := dramN_le s
  obtain ⟨-, -, -, -, hmine, -⟩ := othersReturned_spec hc
  obtain ⟨f, d, he⟩ := lostSet_eq s ch cause
  have hfreq : (s.othersReturned ch).freqEnded.reg (0x5840 + ch) 6 = s.reg (0x5840 + ch) 6 := by
    rw [freqEnded_reg _ (by omega) (by omega), hmine 6 (by omega)]
  rw [he]
  unfold State.modChan
  rw [setDdr_reg, set_ne, set_ne, set_ne, faultStart_at, State.recalEnded, hfreq, if_neg h, hfreq]

/-- What is true of `t` after channel `ch` was lost in `s` with a cause (R351 to R354). -/
def State.Gone (s : State) (ch cause : Nat) (t : State) : Prop :=
  t.chanState ch = 2 ∧ t.reg (0x5810 + ch) 0x10 = cause ∧ t.reg (0x5810 + ch) 0x0F = 0 ∧ t.ddr.freqNext = none ∧
    (∀ r ∈ t.ddr.queue, r.ch ≠ ch) ∧
    (s.ddr.assemblies = [] → s.ddr.stripes = [] → s.ddr.queue = [] → s.ddr.writers = [] → t.dram = s.dram) ∧
    ∀ c, c < s.dramN → c ≠ ch → t.chanState c = if s.chanState c = 1 then 0 else s.chanState c

theorem lostServed_idle (h : s.idle) (ch : Nat) : (s.lostServed ch).dram = s.dram := by
  obtain ⟨ha, hst, hq, hw⟩ := h
  have hfail : s.failQueue ch = s.setDdr { s.ddr with queue := [] } := by
    unfold State.failQueue
    dsimp only
    rw [hq]
    rfl
  have hidle : (s.setDdr { s.ddr with queue := [] }).idle := ⟨ha, hst, rfl, hw⟩
  rw [State.lostServed, fire_dram, hfail, releaseHeld_idle hidle, admitWriters_idle hidle.2.2.2, setDdr_dram]

/-- What serving a LOST channel's requests leaves. -/
theorem lostServed_kept (s : State) (ch : Nat) : (s.lostServed ch).ddr.freqNext = s.ddr.freqNext ∧ (∀ r ∈ (s.lostServed ch).ddr.queue, r ∈ s.ddr.queue ∧ r.ch ≠ ch) ∧
    ∀ j b, serviceKeeps j b → (s.lostServed ch).reg j b = s.reg j b := by
  have hserved := served_lostServed s ch
  refine ⟨hserved.freq, fun r hr => ?_, hserved.reg⟩
  simpa using hserved.queue hr

/-- The entries that a channel's loss leaves. -/
theorem channelLost_reg (h : s.chanState ch ≠ 2) (cause : Nat) {j b : Nat} (hk : serviceKeeps j b) :
    (s.channelLost ch cause).reg j b = (s.lostSet ch cause).reg j b := by
  obtain ⟨d, he⟩ := channelLost_eq h cause
  obtain ⟨-, -, hreg⟩ := lostServed_kept (s.lostSet ch cause) ch
  rw [he, faultDone_at, hreg j b hk]

theorem channelLost_ddr (h : s.chanState ch ≠ 2) (cause : Nat) : (s.channelLost ch cause).ddr = ((s.lostSet ch cause).lostServed ch).ddr := by
  obtain ⟨d, he⟩ := channelLost_eq h cause
  rw [he, faultDone_ddr]

/-- Without anything held, the devices keep their bytes when a channel is lost. -/
theorem channelLost_dram (hc : ch < s.dramN) (h : s.chanState ch ≠ 2) (cause : Nat) (hidle : s.idle) : (s.channelLost ch cause).dram = s.dram := by
  obtain ⟨-, -, -, -, -, hkept⟩ := othersReturned_spec hc
  obtain ⟨m, hddr⟩ := lostSet_ddr s ch cause
  obtain ⟨-, hdram⟩ := lostSet_kept s ch cause
  obtain ⟨d, he⟩ := channelLost_eq h cause
  obtain ⟨hi, hd⟩ := hkept hidle
  generalize s.lostSet ch cause = l at *
  have hl : l.idle := by
    unfold State.idle
    rw [hddr]
    exact hi
  rw [he, faultDone_dram, lostServed_idle hl, hdram, hd]

/-- A channel is lost: its entries, its requests, and the other channels (R351 to R354). -/
theorem channelLost_gone (hc : ch < s.dramN) (h : s.chanState ch ≠ 2) (cause : Nat) : s.Gone ch cause (s.channelLost ch cause) := by
  have hn := dramN_le s
  obtain ⟨-, -, hstate, -⟩ := othersReturned_spec hc
  obtain ⟨m, hddr⟩ := lostSet_ddr s ch cause
  obtain ⟨h1, h10, hF⟩ := lostSet_entries s ch cause
  have hkept (j b : Nat) (hk : serviceKeeps j b) := channelLost_reg h cause hk
  have hother (c : Nat) (hcn : c < s.dramN) (hne : c ≠ ch) : (s.lostSet ch cause).reg (0x5810 + c) 1 = (s.othersReturned ch).chanState c :=
    lostSet_reg s ch cause (by omega) (by omega) (by omega) (by omega)
  have hlost := channelLost_ddr h cause
  have hdram := channelLost_dram hc h cause
  obtain ⟨hfreq, hqueue, -⟩ := lostServed_kept (s.lostSet ch cause) ch
  generalize s.lostSet ch cause = l at *
  generalize s.channelLost ch cause = t at *
  refine ⟨(hkept _ _ (by omega)).trans h1, (hkept _ _ (by omega)).trans h10, (hkept _ _ (by omega)).trans hF, ?_, fun r hr => ?_,
    fun ha hs hq hw => hdram ⟨ha, hs, hq, hw⟩, fun c hcn hne => ?_⟩
  · rw [hlost, hfreq, hddr]
  · rw [hlost] at hr
    exact (hqueue r hr).2
  · rw [State.chanState, hkept _ _ (by omega), hother c hcn hne, hstate c hcn]
    simp only [hne, ne_eq, not_false_eq_true, and_true]

end Sys2Proof.Machine
end

section
/-! A LOST channel trains and is rebuilt (chapter 11, R353). -/

set_option Elab.async false

namespace Sys2Proof.Machine

variable {s t : State} {ch sess : Nat}

/-! ### Training and the start of a rebuild -/

/-- What the unprotected units of a channel hold once they are cleared. -/
theorem zeroUnprotected_devUnit (s : State) (ch c : Nat) {u : Nat} (hu : u < 2 ^ 40) :
    (s.zeroUnprotected ch).devUnit c u = if c = ch ∧ s.protUnits ≤ u then zeroBytes 64 else s.devUnit c u := by
  have hempty (n a : Nat) : dramRead [] a n = zeroBytes n := by
    induction n generalizing a with
    | zero => rfl
    | succ n ih => rw [dramRead, ih]; rfl
  have hget (i : Nat) (hi : i < 64) : dramGet (s.zeroUnprotected ch).dram (64 * s.deviceKey c u + i) =
      if c = ch ∧ s.protUnits ≤ u then dramEmpty else dramGet s.dram (64 * s.deviceKey c u + i) := by
    have hdiv : (64 * s.deviceKey c u + i) / 64 = s.deviceKey c u := by omega
    unfold dramGet
    rw [show lookup (s.zeroUnprotected ch).dram (64 * s.deviceKey c u + i) = _ from
      lookup_filterKey (fun k => !(k / 64 / 2 ^ 40 = ch && decide (s.protUnits ≤ s.localUnit (k / 64)))) _, hdiv, deviceKey_channel s c hu, localUnit_deviceKey s c hu]
    by_cases hmine : c = ch ∧ s.protUnits ≤ u
    · simp [hmine]
    · rw [if_neg hmine, if_pos]
      simpa [Decidable.imp_iff_not_or] using hmine
  have hkey : (s.zeroUnprotected ch).deviceKey c u = s.deviceKey c u := rfl
  rw [State.devUnit, hkey]
  by_cases hmine : c = ch ∧ s.protUnits ≤ u
  · rw [if_pos hmine, ← hempty 64 (64 * s.deviceKey c u)]
    refine dramRead_congr fun i hi => ?_
    rw [hget i hi, if_pos hmine]
    rfl
  · rw [if_neg hmine, State.devUnit]
    refine dramRead_congr fun i hi => ?_
    rw [hget i hi, if_neg hmine]

/-- A channel whose training fails stays LOST, with its margin (R353, R357). -/
theorem rebuild_margin_low (hc : ch < 24) (hl : s.letsCmd sess (0x5810 + ch) 0x0E) (h : s.chanState ch = 2) (hm : (s.draw 16).1 < s.reg 0x5800 0x12) :
    Completes (.rebuild sess ch) s (fun t => t.chanState ch = 2 ∧ t.reg (0x5840 + ch) 4 = (s.draw 16).1 ∧ t.dram = s.dram) := by
  have hcmd : cmdRebuild ch s = .ok (s.trainDraw.2.2.setReg (0x5840 + ch) 4 (s.draw 16).1) := by
    unfold cmdRebuild
    rw [if_neg (by rw [h]; decide)]
    exact if_pos hm
  refine completes_of (exec_rebuild hc hl) ?_
  rw [hcmd, commanded_ok]
  refine ⟨?_, ?_, ?_⟩
  · rw [State.chanState, result_reg, set_ne]
    exact h
  · rw [result_reg, reg_setReg_same]
  · rw [result_dram, setReg_dram]
    rfl

/-- A channel that has trained starts to rebuild, and its unprotected units are cleared (R353). -/
theorem rebuild_starts (hc : ch < 24) (hl : s.letsCmd sess (0x5810 + ch) 0x0E) (h : s.chanState ch = 2) (hm : s.reg 0x5800 0x12 ≤ (s.draw 16).1) :
    Completes (.rebuild sess ch) s (fun t => t.chanState ch = 3 ∧ t.reg (0x5810 + ch) 0x0F = 0 ∧
      ∀ c u, u < 2 ^ 40 → t.devUnit c u = if c = ch ∧ s.protUnits ≤ u then zeroBytes 64 else s.devUnit c u) := by
  obtain ⟨a, ha⟩ : ∃ a, a = ((s.trainDraw.2.2.takeDelays ch s.trainDraw.2.1).setReg (0x5810 + ch) 1 3).setReg (0x5810 + ch) 0x0F 0 := ⟨_, rfl⟩
  have hcmd : cmdRebuild ch s = .ok ((a.zeroUnprotected ch).modChan ch (fun x => { x with progress := 0, credit := 0 })) := by
    unfold cmdRebuild
    rw [if_neg (by rw [h]; decide), ha]
    exact if_neg (Nat.not_lt.2 hm)
  have hmap : SameMap s a := by
    rw [ha]
    refine ⟨?_, fun b hb => ?_⟩
    · rw [setReg_board, setReg_board, State.takeDelays, setReg_board, setDom_board]
      rfl
    · rw [set_ne, set_ne, takeDelays_reg _ _ _ hb (by omega)]
      rfl
  have hdram : a.dram = s.dram := by
    rw [ha, setReg_dram, setReg_dram, State.takeDelays, setReg_dram, setDom_dram]
    rfl
  refine completes_of (exec_rebuild hc hl) ?_
  rw [hcmd, commanded_ok]
  refine ⟨?_, ?_, fun c u hu => ?_⟩
  · rw [State.chanState, result_reg]
    show a.reg _ _ = 3
    rw [ha, set_ne, reg_setReg_same]
  · rw [result_reg]
    show a.reg _ _ = 0
    rw [ha, reg_setReg_same]
  · obtain ⟨r, hr⟩ : ∃ r, r = ((a.zeroUnprotected ch).modChan ch (fun x => { x with progress := 0, credit := 0 })).result sess 2 (0x5810 + ch) 14 (.of stOk) := ⟨_, rfl⟩
    have hzero := zeroUnprotected_devUnit a ch c hu
    have hsame : SameMap (a.zeroUnprotected ch) r := by
      rw [hr]
      exact ⟨by rw [result_board]; rfl, fun b _ => by rw [result_reg]; rfl⟩
    rw [hmap.protUnits, hmap.devUnit hdram] at hzero
    rw [← hr, hsame.devUnit (by rw [hr, result_dram]; rfl), hzero]

/-! ### A rebuild completes -/

/-- A unit's content is as marked, and that of the others as it was. -/
theorem unitBad_markUnit (s : State) (ch u c w : Nat) (b : Bool) :
    (s.markUnit ch u b).unitBad c w = if s.deviceKey c w = s.deviceKey ch u then b else s.unitBad c w := by
  have hkey : (s.markUnit ch u b).deviceKey c w = s.deviceKey c w := rfl
  unfold State.unitBad
  rw [hkey]
  unfold State.markUnit
  dsimp only
  rw [setDdr_ddr]
  generalize s.deviceKey c w = k
  generalize s.deviceKey ch u = m
  dsimp only
  cases b <;> by_cases hk : k = m <;> simp [hk]

/-- A unit takes what the others of its stripe make of it, or stays uncorrectable. -/
def State.rebuildPut (s : State) (ch u : Nat) : State := (s.putUnit ch u (s.xorOthers ch u)).markUnit ch u (!s.rebuildable ch u)

/-- From `s` to `t` only units of channel `ch` were written. -/
structure OnlyChannel (s : State) (ch : Nat) (t : State) : Prop where
  map : SameMap s t
  nv : t.nv = s.nv
  regs : t.regs = s.regs
  ddr : t.ddr = { s.ddr with bad := t.ddr.bad }
  wf : dramWf t.dram = true
  unit : ∀ c u, c ≠ ch → u < 2 ^ 40 → t.devUnit c u = s.devUnit c u ∧ t.unitBad c u = s.unitBad c u

section
variable (h : OnlyChannel s ch t)
include h

theorem OnlyChannel.chan (c : Nat) : t.chan c = s.chan c := chan_of (by rw [h.ddr]) (by rw [h.nv]) c

theorem OnlyChannel.reg (j b : Nat) : t.reg j b = s.reg j b := by
  unfold State.reg
  rw [h.regs, h.map.board, h.nv]

theorem OnlyChannel.stripePart {c u : Nat} (hne : c ≠ ch) (hu : u < 2 ^ 40) : t.stripePart c u = s.stripePart c u := by
  unfold State.stripePart State.stripeAcc
  rw [h.map.dramN, (h.unit c u hne hu).1, h.ddr]

theorem OnlyChannel.unitGood {c u : Nat} (hne : c ≠ ch) (hu : u < 2 ^ 40) : t.unitGood c u = s.unitGood c u := by
  unfold State.unitGood State.unitDirect State.chanState
  rw [h.reg, h.map.protUnits, h.chan, (h.unit c u hne hu).2]

theorem OnlyChannel.xorOthers {u : Nat} (hu : u < 2 ^ 40) : t.xorOthers ch u = s.xorOthers ch u := by
  unfold State.xorOthers
  rw [h.map.others]
  refine List.foldl_ext _ _ _ fun a c hc => ?_
  rw [h.stripePart (mem_others.1 hc).2 hu]

theorem OnlyChannel.rebuildable {u : Nat} (hu : u < 2 ^ 40) : t.rebuildable ch u = s.rebuildable ch u := by
  unfold State.rebuildable
  rw [h.map.others]
  rw [Bool.eq_iff_iff, List.all_eq_true, List.all_eq_true]
  exact forall₂_congr fun c hc => by rw [h.unitGood (mem_others.1 hc).2 hu]

/-- A further unit of the channel is rebuilt. -/
theorem OnlyChannel.rebuildPut {u : Nat} (hu : u < 2 ^ 40) : OnlyChannel s ch (t.rebuildPut ch u) := by
  have hmap : SameMap t (t.rebuildPut ch u) := ⟨rfl, fun _ _ => rfl⟩
  have hddr : (t.rebuildPut ch u).ddr = { t.ddr with bad := (t.rebuildPut ch u).ddr.bad } := rfl
  refine ⟨sameMap_trans h.map hmap, h.nv, h.regs, hddr.trans (by rw [h.ddr]), dramWf_write _ _ h.wf, fun c w hne hw => ?_⟩
  have hkey : t.deviceKey c w ≠ t.deviceKey ch u := fun e => hne (deviceKey_inj hw hu e).1
  obtain ⟨hunit, hbad⟩ := h.unit c w hne hw
  refine ⟨?_, ?_⟩
  · rw [devUnit_write_other hmap rfl h.wf (xorOthers_le t ch u) hkey, hunit]
  · rw [← hbad]
    exact (unitBad_markUnit ..).trans (if_neg hkey)

end

theorem sameMap_each {α : Type} {f : α → State → State} (hf : ∀ x t, SameMap t (f x t)) (xs : List α) (s : State) : SameMap s (s.each xs f) := by
  unfold State.each
  induction xs generalizing s with
  | nil => exact sameMap_refl s
  | cons x xs ih => exact sameMap_trans (hf x s) (ih (f x s))

theorem onlyChannel_refl (hw : dramWf s.dram = true) : OnlyChannel s ch s := ⟨sameMap_refl s, rfl, rfl, rfl, hw, fun _ _ _ _ => ⟨rfl, rfl⟩⟩

/-- The units of a list are rebuilt, each from the other units of its stripe as they were (R353). -/
theorem each_rebuildPut (hw : dramWf s.dram = true) {us : List Nat} (hus : ∀ u ∈ us, u < 2 ^ 40) :
    OnlyChannel s ch (s.each us (fun u s => s.rebuildPut ch u)) ∧ ∀ u ∈ us, (s.stripeAcc u).delta.length = 64 →
      (s.each us (fun u s => s.rebuildPut ch u)).devUnit ch u = s.xorOthers ch u ∧
      (s.each us (fun u s => s.rebuildPut ch u)).unitBad ch u = !s.rebuildable ch u := by
  induction us using List.reverseRecOn with
  | nil => exact ⟨onlyChannel_refl hw, fun u hu => nomatch hu⟩
  | append_singleton us u ih =>
    obtain ⟨hprev, hdone⟩ := ih fun w hm => hus w (by simp [hm])
    have hstep : s.each (us ++ [u]) (fun u s => s.rebuildPut ch u) = (s.each us (fun u s => s.rebuildPut ch u)).rebuildPut ch u := by
      simp only [State.each, List.foldl_append, List.foldl_cons, List.foldl_nil]
    have hu := hus u (by simp)
    rw [hstep]
    generalize s.each us (fun u s => s.rebuildPut ch u) = t at *
    have hmap : SameMap t (t.rebuildPut ch u) := ⟨rfl, fun _ _ => rfl⟩
    refine ⟨hprev.rebuildPut hu, fun w hm hlen => ?_⟩
    have hw40 := hus w hm
    by_cases he : w = u
    · subst he
      refine ⟨?_, ?_⟩
      · have hlen' : (t.xorOthers ch w).length = 64 := by rw [hprev.xorOthers hu, xorOthers_length ch hlen]
        rw [← hprev.xorOthers hu]
        exact devUnit_write_same ch w hmap rfl hprev.wf hlen'
      · rw [← hprev.rebuildable hu]
        exact (unitBad_markUnit ..).trans (if_pos rfl)
    · have hkey : t.deviceKey ch w ≠ t.deviceKey ch u := fun e => he (deviceKey_inj hw40 hu e).2
      obtain ⟨hunit, hbad⟩ := hdone w (by simpa [he] using hm) hlen
      refine ⟨?_, ?_⟩
      · rw [devUnit_write_other hmap rfl hprev.wf (xorOthers_le t ch u) hkey, hunit]
      · rw [← hbad]
        exact (unitBad_markUnit ..).trans (if_neg hkey)

theorem mem_heldUnits {lo u : Nat} (h : u ∈ s.heldUnits lo) : u < s.protUnits := by
  unfold State.heldUnits at h
  rw [List.mem_eraseDups, List.mem_filter, Bool.and_eq_true, decide_eq_true_eq, decide_eq_true_eq] at h
  exact h.2.2

/-- The rest of a rebuild: the units that hold bytes, and the counts. -/
theorem rebuildRest_eq (s : State) (ch : Nat) : ∃ cs n f, (∀ c ∈ cs, c < 24) ∧
    s.rebuildRest ch = ((((s.each (s.heldUnits (s.chan ch).progress) (fun u s => s.rebuildPut ch u)).each
      cs (fun c s => s.inc64 (0x5810 + c) 5 n)).inc64 (0x5810 + ch) 6 n).modChan ch f) :=
  ⟨(s.each (s.heldUnits (s.chan ch).progress) (fun u s => s.rebuildPut ch u)).others ch, s.protUnits - (s.chan ch).progress,
    fun x => { x with progress := 0, credit := 0 }, fun _ hm => others_lt hm, rfl⟩

/-- What the counts of a rebuild leave alone. -/
theorem rebuildRest_kept (s : State) (ch : Nat) (hc : ch < 24) :
    let x := s.each (s.heldUnits (s.chan ch).progress) (fun u s => s.rebuildPut ch u)
    SameMap x (s.rebuildRest ch) ∧ (s.rebuildRest ch).dram = x.dram ∧ (s.rebuildRest ch).ddr.bad = x.ddr.bad := by
  intro x
  obtain ⟨cs, n, f, hcs, he⟩ := rebuildRest_eq s ch
  have hread : Accessed x ((x.each cs (fun c s => s.inc64 (0x5810 + c) 5 n)).inc64 (0x5810 + ch) 6 n) :=
    accessed_setReg (accessed_each (accessed_refl x) fun c hm t ht => by
      have := hcs c hm
      exact accessed_setReg ht)
  rw [he]
  exact ⟨sameMap_trans hread.sameMap ⟨rfl, fun _ _ => rfl⟩, hread.dram, hread.bad⟩

/-- A rebuild completes: the channel is ONLINE, and the units it holds follow from the others (R353). -/
theorem rebuildComplete_done (hc : ch < s.dramN) (h3 : s.chanState ch = 3) (hothers : ∀ c, c < s.dramN → c ≠ ch → s.chanState c < 2) :
    Completes (.rebuildComplete ch) s (fun t => t.chanState ch = 0 ∧ t.reg (0x5810 + ch) 0x0F = s.dramQ ∧
      (s.protUnits ≤ 2 ^ 40 → dramWf s.dram = true → ∀ u ∈ s.heldUnits (s.chan ch).progress, (s.stripeAcc u).delta.length = 64 →
        t.devUnit ch u = s.xorOthers ch u ∧ t.unitBad ch u = !s.rebuildable ch u)) := by
  have hn := dramN_le s
  have hruns : s.rebuildRuns ch = true := by
    unfold State.rebuildRuns
    rw [h3, Bool.and_eq_true, List.all_eq_true]
    exact ⟨rfl, fun c hm => decide_eq_true (hothers c (mem_others.1 hm).1 (mem_others.1 hm).2)⟩
  obtain ⟨hmap, hdram, hbad⟩ := rebuildRest_kept s ch (by omega)
  obtain ⟨r, hr⟩ : ∃ r, r = (s.rebuildRest ch).setReg (0x5810 + ch) 1 0 := ⟨_, rfl⟩
  have hexec : exec (.rebuildComplete ch) s =
      .next ((r.setReg (0x5810 + ch) 0x0F r.dramQ).faultRecord 6 5 ch (r.reg (0x5810 + ch) 0x10) noInterruption r.sc) := by
    show execRebuildComplete ch s = _
    unfold execRebuildComplete
    rw [inst_ok (decide_eq_true (by omega)), if_pos (by simp [hruns, hc]), hr]
  have hr' : SameMap (s.rebuildRest ch) r := by
    rw [hr]
    exact ⟨rfl, fun b hb => set_ne⟩
  have hheld : SameMap s (s.each (s.heldUnits (s.chan ch).progress) (fun u s => s.rebuildPut ch u)) :=
    sameMap_each (f := fun u s => s.rebuildPut ch u) (fun _ _ => ⟨rfl, fun _ _ => rfl⟩) ..
  have hmap' : SameMap (s.each (s.heldUnits (s.chan ch).progress) (fun u s => s.rebuildPut ch u))
      ((r.setReg (0x5810 + ch) 0x0F r.dramQ).faultRecord 6 5 ch (r.reg (0x5810 + ch) 0x10) noInterruption r.sc) := by
    refine sameMap_trans (sameMap_trans hmap hr') ⟨?_, fun b hb => ?_⟩
    · rw [faultRecord_board, setReg_board]
    · rw [faultRecord_at, set_ne]
  refine completes_of hexec ⟨?_, ?_, fun h40 hw u hu hlen => ?_⟩
  · rw [State.chanState, faultRecord_at, set_ne, hr, reg_setReg_same]
  · rw [faultRecord_at, reg_setReg_same, hr'.dramQ, hmap.dramQ, hheld.dramQ]
  · obtain ⟨-, hdone⟩ := each_rebuildPut (ch := ch) hw fun w hm => Nat.lt_of_lt_of_le (mem_heldUnits hm) h40
    obtain ⟨hunit, hmark⟩ := hdone u hu hlen
    refine ⟨?_, ?_⟩
    · rw [hmap'.devUnit (by rw [faultRecord_dram, setReg_dram, hr, setReg_dram, hdram]), hunit]
    · rw [← hmark]
      unfold State.unitBad
      rw [hmap'.deviceKey, faultRecord_ddr, setReg_ddr, hr, setReg_ddr, hbad]

/-- A rebuild beside another LOST or REBUILDING channel does not complete (R353). -/
theorem rebuildComplete_waits (hc : ch < s.dramN) {c : Nat} (hcn : c < s.dramN) (hne : c ≠ ch) (h : 2 ≤ s.chanState c) :
    exec (.rebuildComplete ch) s = .next s := by
  have hn := dramN_le s
  have hruns : s.rebuildRuns ch = false := by
    unfold State.rebuildRuns
    rw [Bool.and_eq_false_iff, List.all_eq_false]
    exact .inr ⟨c, mem_others.2 ⟨hcn, hne⟩, by simpa using Nat.lt_of_succ_le h⟩
  show execRebuildComplete ch s = _
  unfold execRebuildComplete
  rw [inst_ok (decide_eq_true (by omega)), if_neg (by simp [hruns])]

end Sys2Proof.Machine
end

section
/-! Loss, delays, recalibration, frequency changes and the delay table (chapter 11, R351 to R360), and the statement about the channels' changes. -/

set_option Elab.async false

namespace Sys2Proof.Machine

variable {s t : State} {ch sess cause margin : Nat} {block : Bytes}

/-! ### Loss (R352) -/

theorem channelLost_none (h1 : 1 ≤ cause) (h5 : cause ≤ 5) (hc : ch < s.dramN) (h : s.chanState ch = 2 ∨ cause = 1 ∨ cause = 5) :
    exec (.channelLost ch cause) s = .next s := by
  have hn := dramN_le s
  show execChannelLost ch cause s = _
  unfold execChannelLost
  rw [inst_ok (by simp; omega)]
  rcases h with h2 | h
  · unfold State.channelLost
    rw [if_pos h2, ite_self]
  · rw [if_neg (by simp; omega)]

theorem channelLost_found (h2 : 2 ≤ cause) (h4 : cause ≤ 4) (hc : ch < s.dramN) (h : s.chanState ch ≠ 2) :
    Completes (.channelLost ch cause) s (s.Gone ch cause) := by
  have hn := dramN_le s
  refine completes_of (t := s.channelLost ch cause) ?_ (channelLost_gone hc h cause)
  show execChannelLost ch cause s = _
  unfold execChannelLost
  rw [inst_ok (by simp; omega), if_pos (by simp; omega)]

theorem gone_result (h : s.Gone ch cause t) (op i a : Nat) (x : Answer) : s.Gone ch cause (t.result sess op i a x) := by
  unfold State.Gone State.chanState at *
  simp only [result_reg, result_ddr, result_dram]
  exact h

theorem declareLost_gone (hl : s.letsCmd sess (0x5810 + ch) 0x0D) (hc : ch < s.dramN) (h : s.chanState ch ≠ 2) :
    Completes (.declareLost sess ch) s (s.Gone ch 5) := by
  have hn := dramN_le s
  exact completes_of (exec_declareLost (by omega) hl) (gone_result (channelLost_gone hc h 5) ..)

/-! ### Delays (R358) -/

theorem startApply_chan (s : State) (ch : Nat) (b : Bytes) : ((s.startApply ch b).chan ch).applyRanks = List.range (orgRanks (s.reg 0x5800 1)) ∧
    ((s.startApply ch b).chan ch).applyBlock = b := by
  have h := chan_modChan_same s ch (fun x => { x with applyRanks := List.range (orgRanks (s.reg 0x5800 1)), applyBlock := b })
  exact ⟨congrArg DramChannel.applyRanks h, congrArg DramChannel.applyBlock h⟩

theorem result_chan (t : State) (op i a c : Nat) (x : Answer) : (t.result sess op i a x).chan c = t.chan c :=
  chan_of (by rw [result_ddr]) (by rw [result_nv]) c

theorem applyDelays_starts (hc : ch < 24) (hl : s.letsCmd sess (0x5840 + ch) 3) (h : field (s.shadowBlock ch) 0 1 = s.reg 0x5800 2) :
    Completes (.applyDelays sess ch) s (fun t => (t.chan ch).applyRanks = List.range (orgRanks (s.reg 0x5800 1)) ∧
      (t.chan ch).applyBlock = s.shadowBlock ch ∧ t.regs = s.regs ∧ t.doms = s.doms) := by
  have hcmd : cmdApplyDelays ch s = .ok (s.startApply ch (s.shadowBlock ch)) := accept_yes (decide_eq_true h)
  obtain ⟨hranks, hblock⟩ := startApply_chan s ch (s.shadowBlock ch)
  refine completes_of (exec_applyDelays hc hl) ?_
  rw [hcmd, commanded_ok]
  refine ⟨?_, ?_, ?_, ?_⟩
  · rw [result_chan, hranks]
  · rw [result_chan, hblock]
  · rw [result_regs]
    rfl
  · rw [result_doms]
    rfl

/-! ### Recalibration (R358) -/

theorem recalibrate_starts (hc : ch < 24) (hl : s.letsCmd sess (0x5840 + ch) 5) (h : s.anyNotOnline = false) :
    Completes (.recalibrate sess ch) s (fun t => t.reg (0x5840 + ch) 6 = 1 ∧ t.ddr = s.ddr) := by
  have hcmd : cmdRecalibrate ch s = .ok (s.setReg (0x5840 + ch) 6 1) := accept_yes (by rw [h]; rfl)
  refine completes_of (exec_recalibrate hc hl) ?_
  rw [hcmd, commanded_ok, result_reg, reg_setReg_same, result_ddr, setReg_ddr]
  exact ⟨rfl, rfl⟩

theorem recalibrate_refused (hc : ch < 24) (hl : s.letsCmd sess (0x5840 + ch) 5) (h : s.anyNotOnline = true) :
    Completes (.recalibrate sess ch) s (fun t => t.reg (0x5840 + ch) 6 = 4 ∧ t.ddr = s.ddr) := by
  have hcmd : cmdRecalibrate ch s = .error dState := accept_no (by rw [h]; rfl)
  have hrefused : s.commandRefused sess (0x5840 + ch) 5 1 dState = s.setReg (0x5840 + ch) 6 4 := by
    unfold State.commandRefused State.recalRefused
    rw [if_neg (by simp), if_neg (by simp), if_pos (by simp; omega), Nat.add_sub_cancel_left]
  refine completes_of (exec_recalibrate hc hl) ?_
  rw [hcmd]
  show (State.result _ sess 2 _ 5 _).reg _ _ = _ ∧ (State.result _ sess 2 _ 5 _).ddr = _
  rw [hrefused, result_reg, reg_setReg_same, result_ddr, setReg_ddr]
  exact ⟨rfl, rfl⟩

/-- A window of a recalibration starts on an ONLINE channel (R358). -/
theorem recalWindow_online (hc : ch < s.dramN) (h : s.reg (0x5840 + ch) 6 = 1) (hf : s.ddr.freqNext ≠ some ch) (h0 : s.chanState ch = 0) (final : Bool) :
    exec (.recalWindow ch final margin block) s = .next (s.goOffline ch) := by
  have hn := dramN_le s
  show execRecalWindow ch final margin block s = _
  unfold execRecalWindow
  rw [inst_ok (decide_eq_true (by omega)), if_pos (by simp [h, hc, hf]), h0]
  rfl

/-- A window of a recalibration ends on an OFFLINE channel (R358). -/
theorem recalWindow_offline (hc : ch < s.dramN) (h : s.reg (0x5840 + ch) 6 = 1) (hf : s.ddr.freqNext ≠ some ch) (h1 : s.chanState ch = 1) (final : Bool) :
    exec (.recalWindow ch final margin block) s = .next (if final then (s.backOnline ch).recalDone ch margin block else s.backOnline ch) := by
  have hn := dramN_le s
  show execRecalWindow ch final margin block s = _
  unfold execRecalWindow
  rw [inst_ok (decide_eq_true (by omega)), if_pos (by simp [h, hc, hf]), h1]
  cases final <;> rfl

/-- What the end of a recalibration finds as its channel returns. -/
theorem backOnline_recal (hc : ch < 24) (hf : s.ddr.freqNext ≠ some ch) : (∀ b, b < 256 → (s.backOnline ch).reg (0x5840 + ch) b = s.reg (0x5840 + ch) b) ∧
    ∀ b, b < 256 → (s.backOnline ch).reg 0x5800 b = s.reg 0x5800 b :=
  ⟨fun _ _ => backOnline_reg hc s (by omega) (by omega) (fun e => absurd e hf), fun _ _ => backOnline_reg hc s (by omega) (by omega) (by omega)⟩

/-- A recalibration ends with a margin that is large enough (R358). -/
theorem recalDone_margin (s : State) (hm : s.reg 0x5800 0x12 ≤ margin) (h16 : margin < 2 ^ 16) :
    (s.recalDone ch margin block).chanState ch = s.chanState ch ∧ (s.recalDone ch margin block).reg (0x5840 + ch) 6 = 2 ∧
    (s.recalDone ch margin block).reg (0x5840 + ch) 4 = margin ∧
    ((s.recalDone ch margin block).chan ch).applyRanks = List.range (orgRanks (s.reg 0x5800 1)) ∧
    ((s.recalDone ch margin block).chan ch).applyBlock = delayBlock (s.reg 0x5800 2) (s.reg 0x5800 1) margin (fun off => field block off 2) := by
  obtain ⟨t, ht⟩ : ∃ t, t = (s.setReg (0x5840 + ch) 4 margin).setReg (0x5840 + ch) 6 2 := ⟨_, rfl⟩
  have hpage (b : Nat) (hb : b < 256) : (s.setReg (0x5840 + ch) 4 margin).reg 0x5800 b = s.reg 0x5800 b := set_ne
  have hpage' : t.reg 0x5800 1 = s.reg 0x5800 1 := by rw [ht, set_ne, set_ne]
  have he : s.recalDone ch margin block = t.startApply ch (delayBlock (s.reg 0x5800 2) (s.reg 0x5800 1) margin (fun off => field block off 2)) := by
    unfold State.recalDone
    rw [Nat.mod_eq_of_lt (a := margin) (by omega)]
    dsimp only
    rw [hpage 0x12 (by omega), hpage 2 (by omega), hpage 1 (by omega), if_neg (by omega), ht]
  obtain ⟨hranks, hblock⟩ := startApply_chan t ch (delayBlock (s.reg 0x5800 2) (s.reg 0x5800 1) margin (fun off => field block off 2))
  rw [he]
  refine ⟨?_, ?_, ?_, by rw [hranks, hpage'], hblock⟩
  · show t.reg _ _ = _
    rw [ht, set_ne, set_ne]
    rfl
  · show t.reg _ _ = _
    rw [ht, reg_setReg_same]
  · show t.reg _ _ = _
    rw [ht, set_ne, reg_setReg_same]

/-- A recalibration whose margin is too small loses its channel (R352, R358). -/
theorem recalDone_lost (hc : ch < s.dramN) (h : s.chanState ch ≠ 2) (hm : margin < s.reg 0x5800 0x12) (h16 : margin < 2 ^ 16) :
    (s.recalDone ch margin block).chanState ch = 2 ∧ (s.recalDone ch margin block).reg (0x5840 + ch) 6 = 3 ∧
    (s.recalDone ch margin block).reg (0x5840 + ch) 4 = margin ∧ (s.recalDone ch margin block).reg (0x5810 + ch) 0x10 = 4 := by
  have hn := dramN_le s
  obtain ⟨t, ht⟩ : ∃ t, t = (s.setReg (0x5840 + ch) 4 margin).setReg (0x5840 + ch) 6 3 := ⟨_, rfl⟩
  have he : s.recalDone ch margin block = t.channelLost ch 4 := by
    unfold State.recalDone
    rw [Nat.mod_eq_of_lt (a := margin) (by omega)]
    dsimp only
    rw [set_ne, if_pos hm, ht]
  have htn : t.dramN = s.dramN := by
    unfold State.dramN
    rw [ht, setReg_board, setReg_board]
  have hstate : t.chanState ch ≠ 2 := by
    rw [State.chanState, ht, set_ne, set_ne]
    exact h
  have hct : ch < t.dramN := by omega
  have h6 : t.reg (0x5840 + ch) 6 = 3 := by rw [ht, reg_setReg_same]
  have h4 : t.reg (0x5840 + ch) 4 = margin := by rw [ht, set_ne, reg_setReg_same]
  obtain ⟨hgone, hcause, -⟩ := channelLost_gone hct hstate 4
  obtain ⟨-, -, -, -, hmine, -⟩ := othersReturned_spec hct
  rw [he]
  refine ⟨hgone, ?_, ?_, hcause⟩
  · rw [channelLost_reg hstate 4 (by omega), lostSet_recal hct 4 (by omega), h6]
  · rw [channelLost_reg hstate 4 (by omega), lostSet_reg t ch 4 (by omega) (by omega) (by omega) (by omega), hmine 4 (by omega), h4]

/-! ### Frequency change (R360) -/

theorem freqChange_starts (hl : s.letsCmd sess 0x5800 0x0F) (h : s.freqOk = true) :
    Completes (.freqChange sess) s (fun t => t.ddr.freqNext = some 0 ∧ t.reg 0x5800 0x10 = 1) := by
  have hcmd : cmdFreqChange s = .ok ((s.setDdr { s.ddr with freqNext := some 0 }).setReg 0x5800 0x10 1) := accept_yes h
  refine completes_of (exec_freqChange hl) ?_
  rw [hcmd, commanded_ok, result_ddr, result_reg, reg_setReg_same, setReg_ddr]
  exact ⟨rfl, rfl⟩

/-- The timing banks exchange values (R359, R360). -/
theorem swapBanks_reg (s t : State) (is : List Nat) (his : ∀ i ∈ is, i < 256) {j b : Nat} (hb : b < 256) :
    (t.each is (fun i t => (t.setReg 0x5870 i (s.reg 0x5871 i)).setReg 0x5871 i (s.reg 0x5870 i))).reg j b =
      if j = 0x5870 ∧ b ∈ is then s.reg 0x5871 b else if j = 0x5871 ∧ b ∈ is then s.reg 0x5870 b else t.reg j b := by
  unfold State.each
  induction is generalizing t with
  | nil => simp
  | cons i is ih =>
    have hi := his i (by simp)
    rw [List.foldl_cons, ih _ fun k hk => his k (by simp [hk])]
    by_cases h0 : j = 0x5870 ∧ b = i
    · obtain ⟨rfl, rfl⟩ := h0
      rw [set_ne, reg_setReg_same]
      simp
    · by_cases h1 : j = 0x5871 ∧ b = i
      · obtain ⟨rfl, rfl⟩ := h1
        rw [reg_setReg_same]
        simp
      · rw [set_ne, set_ne]
        simp only [List.mem_cons]
        grind

/-- The entries after the last channel's change (R360). -/
theorem freqDone_reg (s : State) : s.freqDone.reg 0x5800 2 = s.reg 0x5800 0x0E ∧ s.freqDone.reg 0x5800 0x10 = 2 ∧
    (∀ i, 1 ≤ i → i ≤ 15 → s.freqDone.reg 0x5870 i = s.reg 0x5871 i ∧ s.freqDone.reg 0x5871 i = s.reg 0x5870 i) ∧
    ∀ c, c < 24 → s.freqDone.chanState c = s.chanState c := by
  have hbank {j b : Nat} (hb : b < 256) := swapBanks_reg s s ((List.range 15).map (· + 1)) (by simp; omega) (j := j) hb
  have hmem {i : Nat} (h1 : 1 ≤ i) (h15 : i ≤ 15) : i ∈ (List.range 15).map (· + 1) := List.mem_map.2 ⟨i - 1, by simp; omega, by omega⟩
  unfold State.freqDone
  refine ⟨?_, ?_, fun i h1 h15 => ⟨?_, ?_⟩, fun c hc => ?_⟩
  · rw [setDdr_reg, set_ne, reg_setReg_same]
  · rw [setDdr_reg, reg_setReg_same]
  · rw [setDdr_reg, set_ne, set_ne, hbank (by omega), if_pos ⟨rfl, hmem h1 h15⟩]
  · rw [setDdr_reg, set_ne, set_ne, hbank (by omega), if_neg (by omega), if_pos ⟨rfl, hmem h1 h15⟩]
  · rw [State.chanState, setDdr_reg, set_ne, set_ne, hbank (by omega), if_neg (by omega), if_neg (by omega)]
    rfl

theorem freqSwitch_online (hf : s.ddr.freqNext = some ch) (h0 : s.chanState ch = 0) : exec .channelFreqSwitch s = .next (s.goOffline ch) := by
  show execChannelFreqSwitch s = _
  unfold execChannelFreqSwitch
  rw [hf]
  dsimp only
  rw [h0]
  rfl

theorem freqSwitch_offline (hc : ch < 24) (hf : s.ddr.freqNext = some ch) (h1 : s.chanState ch = 1) :
    exec .channelFreqSwitch s = .next (if s.dramN ≤ ch + 1 then (s.backOnline ch).freqDone else s.backOnline ch) := by
  have hn : (s.backOnline ch).dramN = s.dramN := congrArg Board.channels (backOnline_board hc s)
  show execChannelFreqSwitch s = _
  unfold execChannelFreqSwitch
  rw [hf]
  dsimp only
  rw [h1, hn]
  rfl

/-- A channel's change ends, and the next one's is due (R360). -/
theorem freqSwitch_next (hc : ch + 1 < s.dramN) (hf : s.ddr.freqNext = some ch) (h1 : s.chanState ch = 1) :
    Completes .channelFreqSwitch s (fun t => t.chanState ch = 0 ∧ t.ddr.freqNext = some (ch + 1) ∧
      t.dom (0x5840 + ch) 1 = s.shadowBlock ch ∧ t.reg (0x5840 + ch) 4 = field (s.shadowBlock ch) 6 2) := by
  have hn := dramN_le s
  have h24 : ch < 24 := by omega
  refine completes_of (freqSwitch_offline h24 hf h1) ?_
  rw [if_neg (by omega)]
  exact ⟨backOnline_chanState h24 s, by rw [backOnline_freq h24, if_pos hf], backOnline_delays h24 hf⟩

/-- The last channel's change ends the change of frequency (R360). -/
theorem freqSwitch_last (hc : ch + 1 = s.dramN) (hf : s.ddr.freqNext = some ch) (h1 : s.chanState ch = 1) :
    Completes .channelFreqSwitch s (fun t => t.chanState ch = 0 ∧ t.ddr.freqNext = none ∧ t.reg 0x5800 2 = s.reg 0x5800 0x0E ∧
      t.reg 0x5800 0x10 = 2 ∧ ∀ i, 1 ≤ i → i ≤ 15 → t.reg 0x5870 i = s.reg 0x5871 i ∧ t.reg 0x5871 i = s.reg 0x5870 i) := by
  have hn := dramN_le s
  have h24 : ch < 24 := by omega
  have hback {j b : Nat} (hk : serviceKeeps j b) (hj : j < 0x5810 ∨ 0x5860 ≤ j) : (s.backOnline ch).reg j b = s.reg j b :=
    backOnline_reg h24 s hk (by omega) (by omega)
  obtain ⟨hspeed, hdone, hbanks, hstate⟩ := freqDone_reg (s.backOnline ch)
  refine completes_of (freqSwitch_offline h24 hf h1) ?_
  rw [if_pos (by omega)]
  refine ⟨by rw [hstate ch h24, backOnline_chanState h24], rfl, by rw [hspeed, hback (by omega) (by omega)], hdone, fun i h1 h15 => ?_⟩
  obtain ⟨h70, h71⟩ := hbanks i h1 h15
  rw [h70, h71, hback (by omega) (by omega), hback (by omega) (by omega)]
  exact ⟨rfl, rfl⟩

/-! ### The delay table (R356, R357) -/

/-- The blocks of a speed enter the table. -/
theorem lookup_tableBlocks (m : List (Nat × Bytes)) (p : Nat × List Bytes) {n sp : Nat} (hn : n ≤ 24) (hc : ch < 24) :
    lookup ((List.range n).foldl (fun m c => insertKey m (24 * p.1 + c) (p.2.getD c [])) m) (24 * sp + ch) =
      if p.1 = sp ∧ ch < n then some (p.2.getD ch []) else lookup m (24 * sp + ch) := by
  induction n with
  | zero => simp
  | succ n ih =>
    rw [List.range_succ, List.foldl_append, List.foldl_cons, List.foldl_nil]
    by_cases hk : p.1 = sp ∧ ch = n
    · obtain ⟨rfl, rfl⟩ := hk
      rw [lookup_insertKey_same, if_pos (by omega)]
    · rw [lookup_insertKey_other _ _ (by omega), ih (by omega)]
      exact ite_congr (by simp; omega) (fun _ => rfl) fun _ => rfl

/-- A block that stands in a list of speeds, with one list of blocks for each speed, stands in the table made of it. -/
theorem lookup_table {known : List (Nat × List Bytes)} {m : List (Nat × Bytes)} {sp : Nat} {b : Bytes} (hc : ch < 24) (hlen : ∀ p ∈ known, p.2.length ≤ 24)
    (hval : ∀ p ∈ known, p.1 = sp → ch < p.2.length → p.2.getD ch [] = b)
    (hin : lookup m (24 * sp + ch) = some b ∨ ∃ p ∈ known, p.1 = sp ∧ ch < p.2.length) :
    lookup (known.foldl (fun m p => (List.range p.2.length).foldl (fun m c => insertKey m (24 * p.1 + c) (p.2.getD c [])) m) m) (24 * sp + ch) = some b := by
  induction known generalizing m with
  | nil => simpa using hin
  | cons p known ih =>
    rw [List.foldl_cons]
    refine ih (fun q hq => hlen q (by simp [hq])) (fun q hq => hval q (by simp [hq])) ?_
    rw [lookup_tableBlocks m p (hlen p (by simp)) hc]
    by_cases hp : p.1 = sp ∧ ch < p.2.length
    · rw [if_pos hp, hval p (by simp) hp.1 hp.2]
      exact .inl rfl
    · rw [if_neg hp]
      refine hin.imp_right ?_
      rintro ⟨q, hq, hsp, hlt⟩
      rcases List.mem_cons.1 hq with rfl | hq
      · exact absurd ⟨hsp, hlt⟩ hp
      · exact ⟨q, hq, hsp, hlt⟩

theorem mem_blocksOf {get : Nat → Nat → Option Bytes} {p : Nat × List Bytes} : p ∈ s.blocksOf get ↔
    p.1 < 3 ∧ (∀ c, c < s.dramN → (get p.1 c).isSome = true) ∧ p.2 = (List.range s.dramN).map (fun c => (get p.1 c).getD []) := by
  obtain ⟨sp, blocks⟩ := p
  unfold State.blocksOf
  simp only [List.mem_filterMap, List.mem_range, Option.ite_none_right_eq_some, Option.some.injEq, Prod.mk.injEq, List.all_eq_true, List.mem_map,
    List.map_map, forall_exists_index, and_imp, forall_apply_eq_imp_iff₂]
  constructor
  · rintro ⟨x, hx, hall, rfl, rfl⟩
    exact ⟨hx, hall, rfl⟩
  · rintro ⟨hx, hall, rfl⟩
    exact ⟨sp, hx, hall, rfl, rfl⟩

/-- The blocks that are known of the speed in force are the live ones. -/
theorem mem_knownBlocks {p : Nat × List Bytes} (h : p ∈ s.knownBlocks) : p.2.length = s.dramN ∧
    (p.1 = s.reg 0x5800 2 → ∀ c, c < s.dramN → p.2.getD c [] = s.liveBlock c) := by
  obtain ⟨-, -, hp⟩ := mem_blocksOf.1 h
  rw [hp]
  refine ⟨by rw [List.length_map, List.length_range], fun hsp c hc => ?_⟩
  rw [List.getD_eq_getElem?_getD, List.getElem?_map, List.getElem?_range hc, hsp]
  simp

/-- The live blocks are stored (R357). -/
theorem storeDelays_stores (hl : s.letsCmd sess 0x5880 2) (hc : ch < s.dramN) :
    Completes (.storeDelays sess) s (fun t => t.reg 0x5880 1 = 0 ∧ t.nv.dramMagic = tableMagic ∧ t.nv.dramVersion = 1 ∧
      t.nv.dramOrg = s.reg 0x5800 1 ∧ t.nv.dramChannels = s.dramN ∧ t.reg 0x5880 4 = speedsOf s.knownBlocks ∧ t.dram = s.dram ∧ t.ddr = s.ddr ∧
      (s.reg 0x5800 2 < 3 → lookup t.nv.delays (24 * s.reg 0x5800 2 + ch) = some (s.liveBlock ch))) := by
  have hn := dramN_le s
  have hexec := exec_storeDelays hl
  unfold cmdStoreDelays at hexec
  dsimp only at hexec
  rw [commanded_ok] at hexec
  refine completes_of hexec ⟨?_, ?_, ?_, ?_, ?_, ?_, ?_, ?_, fun h3 => ?_⟩
  · rw [result_reg, set_ne, set_ne, reg_setReg_same]
  · rw [result_nv]; rfl
  · rw [result_nv]; rfl
  · rw [result_nv]; rfl
  · rw [result_nv]; rfl
  · rw [result_reg, reg_setReg_same]
  · rw [result_dram]; rfl
  · rw [result_ddr]; rfl
  · have hlive : (s.reg 0x5800 2, (List.range s.dramN).map (fun c => s.liveBlock c)) ∈ s.knownBlocks := by
      refine mem_blocksOf.2 ⟨h3, fun c _ => ?_, ?_⟩
      · rw [if_pos rfl]
        rfl
      · simp
    rw [result_nv]
    refine lookup_table (by omega) (fun p hp => ?_) (fun p hp hsp hlt => ?_) (.inr ⟨_, hlive, rfl, ?_⟩)
    · rw [(mem_knownBlocks hp).1]
      exact hn
    · exact (mem_knownBlocks hp).2 hsp ch hc
    · rw [List.length_map, List.length_range]
      exact hc

/-! ### The statement -/

/-- Settles O45: a loss is the return of the others, the entries of the LOST channel and the service of what was held; a rebuild reads units that it does not
write; recalibrations and changes of frequency are the start and the end of an OFFLINE window. -/
theorem dramChannelsChange : Obligations.DramChannelsChange := by
  unfold Obligations.DramChannelsChange
  refine ⟨fun s ch hc => ?_, fun s ch hc => ?_⟩
  · have hn := dramN_le s
    refine ⟨fun cause h1 h5 h => channelLost_none h1 h5 hc h, fun cause h2 h4 h => channelLost_found h2 h4 hc h,
      fun sess hl h => declareLost_gone hl hc h, fun sess hl h => ⟨rebuild_margin_low (by omega) hl h, rebuild_starts (by omega) hl h⟩,
      fun h => ⟨rebuildComplete_done hc h, fun c hcn hne h2 => rebuildComplete_waits hc hcn hne h2⟩⟩
  · have hn := dramN_le s
    have h24 : ch < 24 := by omega
    obtain ⟨hstate, hrows, hrecal, hfreq⟩ := goOffline_spec h24 s
    refine ⟨fun sess hl h => applyDelays_starts h24 hl h, fun sess hl => ⟨recalibrate_starts h24 hl, recalibrate_refused h24 hl⟩,
      fun final margin block h6 hf => ?_, fun sess hl h => freqChange_starts hl h, fun hf => ⟨fun h0 => ?_, fun h1 => ?_⟩, fun sess hl => storeDelays_stores hl hc⟩
    · obtain ⟨hmine, hpage⟩ := backOnline_recal h24 hf
      have hback := backOnline_chanState h24 s
      have hbn : (s.backOnline ch).dramN = s.dramN := congrArg Board.channels (backOnline_board h24 s)
      refine ⟨fun h0 => completes_of (recalWindow_online hc h6 hf h0 final) ⟨hstate, hrows, hrecal.trans h6⟩, fun h1 hfinal => ?_, fun h1 hfinal h16 => ?_⟩
      · subst hfinal
        exact completes_of (recalWindow_offline hc h6 hf h1 false) ⟨hback, (hmine 6 (by omega)).trans h6⟩
      · subst hfinal
        rw [← hpage 0x12 (by omega), ← hpage 1 (by omega), ← hpage 2 (by omega)]
        refine ⟨fun hm => completes_of (recalWindow_offline hc h6 hf h1 true) ?_, fun hm => completes_of (recalWindow_offline hc h6 hf h1 true) ?_⟩
        · rw [if_pos rfl, ← hback]
          exact recalDone_margin _ hm h16
        · exact recalDone_lost (by omega) (by omega) hm h16
    · exact completes_of (freqSwitch_online hf h0) ⟨hstate, hfreq.trans hf, hrows⟩
    · exact ⟨fun hlt => freqSwitch_next hlt hf h1, fun he => freqSwitch_last he hf h1⟩

end Sys2Proof.Machine
end

section
/-! Writes of protected units are held by open assemblies, and read from then on (chapter 11, R341, R342). -/

set_option Elab.async false

namespace Sys2Proof.Machine

variable {s t r : State} {u off tick : Nat} {bs : Bytes}

/-! ### What the content of units depends on -/

/-- `t` gives each unit of each channel the content, and the ways to read it, that `s` gives it. -/
structure SameUnits (s t : State) : Prop where
  map : SameMap s t
  dram : t.dram = s.dram
  bad : t.ddr.bad = s.ddr.bad
  stripes : t.ddr.stripes = s.ddr.stripes
  progress : ∀ c, (t.chan c).progress = (s.chan c).progress
  state : ∀ c, c < 24 → t.chanState c = s.chanState c

theorem Accessed.sameUnits (h : Accessed s t) : SameUnits s t :=
  ⟨h.sameMap, h.dram, h.bad, by rw [h.ddr], h.progress, fun _ hc => h.chanState hc⟩

section
variable (h : SameUnits s t)
include h

theorem SameUnits.devUnit (c u : Nat) : t.devUnit c u = s.devUnit c u := h.map.devUnit h.dram c u

theorem SameUnits.unitBad (c u : Nat) : t.unitBad c u = s.unitBad c u := by
  unfold State.unitBad
  rw [h.bad, h.map.deviceKey]

theorem SameUnits.stripeAcc (st : Nat) : t.stripeAcc st = s.stripeAcc st := by rw [State.stripeAcc, h.stripes, State.stripeAcc]

theorem SameUnits.stripePart (c st : Nat) : t.stripePart c st = s.stripePart c st := by
  unfold State.stripePart
  rw [h.map.dramN, h.devUnit, h.stripeAcc]

theorem SameUnits.xorOthers (c st : Nat) : t.xorOthers c st = s.xorOthers c st := by
  unfold State.xorOthers
  rw [h.map.others]
  exact List.foldl_ext _ _ _ fun a d _ => by rw [h.stripePart]

theorem SameUnits.unitDirect {c : Nat} (hc : c < 24) (u : Nat) : t.unitDirect c u = s.unitDirect c u := by
  unfold State.unitDirect
  rw [h.state c hc, h.map.protUnits, h.progress]

theorem SameUnits.unitGood {c : Nat} (hc : c < 24) (u : Nat) : t.unitGood c u = s.unitGood c u := by
  rw [State.unitGood, h.unitDirect hc, h.unitBad, State.unitGood]

theorem SameUnits.rebuildable (c st : Nat) : t.rebuildable c st = s.rebuildable c st := by
  unfold State.rebuildable
  rw [h.map.others, Bool.eq_iff_iff, List.all_eq_true, List.all_eq_true]
  exact forall₂_congr fun d hd => by rw [h.unitGood (others_lt hd)]

theorem SameUnits.localReadable {c : Nat} (hc : c < 24) (u : Nat) : t.localReadable c u = s.localReadable c u := by
  rw [State.localReadable, h.unitGood hc, h.map.protUnits, h.rebuildable, State.localReadable]

theorem SameUnits.localUnitBytes {c : Nat} (hc : c < 24) (u : Nat) : t.localUnitBytes c u = s.localUnitBytes c u := by
  rw [State.localUnitBytes, h.unitGood hc, h.map.protUnits, h.devUnit, h.xorOthers, State.localUnitBytes]

end

/-! ### Bytes as read -/

/-- The bytes of a logical unit beneath the engine. -/
def State.unitBeneath (s : State) (u : Nat) : Bytes := match s.mapAddr (64 * u) with | some (ch, l) => s.localUnitBytes ch l | none => zeroBytes 64

theorem SameUnits.unitBeneath (h : SameUnits s t) (u : Nat) : t.unitBeneath u = s.unitBeneath u := by
  unfold State.unitBeneath
  rw [h.map.mapAddr]
  split
  · next hm => exact h.localUnitBytes (mapAddr_lt24 hm) _
  · rfl

theorem unitNow_eq (s : State) (u : Nat) : s.unitNow u =
    match s.assembly u with | some x => mergeMask x.mask (s.unitBeneath u) x.data | none => s.unitBeneath u := rfl

/-- A byte of logical DRAM as a read returns it (R342). -/
def State.byteNow (s : State) (a : Nat) : Byte := (s.unitNow (a / 64)).getD (a % 64) 0

section
variable (hd : ∀ st, (s.stripeAcc st).delta.length = 64)
include hd

theorem unitBeneath_length (u : Nat) : (s.unitBeneath u).length = 64 := by
  unfold State.unitBeneath
  split
  · exact localUnitBytes_length _ (hd _)
  · exact List.length_replicate

theorem unitNow_length64 (u : Nat) : (s.unitNow u).length = 64 := by
  rw [unitNow_eq]
  split
  · exact mergeMask_length ..
  · exact unitBeneath_length hd u

theorem unitNow_bytes (u : Nat) : s.unitNow u = (List.range 64).map (fun i => s.byteNow (64 * u + i)) := by
  have hlen := unitNow_length64 hd u
  refine List.ext_getElem (by simp [hlen]) fun i h1 _ => ?_
  rw [List.getElem_map, List.getElem_range, State.byteNow, show (64 * u + i) / 64 = u by omega, show (64 * u + i) % 64 = i by omega]
  simp [List.getD_eq_getElem?_getD, h1]

/-- A load is the bytes of its range (R342). -/
theorem load_bytes (a n : Nat) : s.load a n = (List.range n).map (fun i => s.byteNow (a + i)) := by
  have hunits (b k : Nat) : ((List.range k).map (fun i => b + i)).flatMap s.unitNow = (List.range (64 * k)).map (fun i => s.byteNow (64 * b + i)) := by
    induction k with
    | zero => rfl
    | succ k ih =>
      rw [List.range_succ, List.map_append, List.flatMap_append, ih, Nat.mul_succ, List.range_add, List.map_append, List.map_map]
      simp only [List.map_cons, List.map_nil, List.flatMap_cons, List.flatMap_nil, List.append_nil, unitNow_bytes hd, Nat.mul_add, Nat.add_assoc]
      rfl
  unfold State.load unitsOf slice
  split
  · next h => simp [h]
  · rw [hunits]
    refine List.ext_getElem ?_ fun i h1 h2 => ?_
    · simp
      omega
    · simp only [List.getElem_take, List.getElem_drop, List.getElem_map, List.getElem_range]
      rw [show 64 * (a / 64) + (a % 64 + i) = a + i by omega]

end

/-! ### Assemblies -/

theorem bitAt_testBit (v i : Nat) : bitAt v i = v.testBit i := by
  unfold bitAt Nat.testBit
  rw [Nat.and_comm, Nat.and_one_is_mod]
  rcases Nat.mod_two_eq_zero_or_one (v >>> i) with h | h <;> rw [h] <;> rfl

theorem bitAt_maskOf (off n i : Nat) : bitAt (maskOf off n) i = (decide (off ≤ i) && decide (i < off + n)) := by
  rw [bitAt_testBit, maskOf, Nat.testBit_shiftLeft, Nat.testBit_two_pow_sub_one]
  by_cases h : off ≤ i
  · have hlt : i - off < n ↔ i < off + n := by omega
    simp [h, hlt]
  · simp [h]

theorem bitAt_or (v w i : Nat) : bitAt (v ||| w) i = (bitAt v i || bitAt w i) := by
  simp only [bitAt_testBit, Nat.testBit_or]

theorem overlay_length {old : Bytes} (ho : old.length = 64) (h : off + bs.length ≤ 64) : (overlay old off bs).length = 64 := by
  unfold overlay
  simp only [List.length_append, List.length_take, List.length_drop]
  omega

theorem overlay_getD {old : Bytes} (ho : off ≤ old.length) (i : Nat) : (overlay old off bs).getD i 0 =
    if off ≤ i ∧ i < off + bs.length then bs.getD (i - off) 0 else old.getD i 0 := by
  unfold overlay
  have htake : (old.take off).length = off := List.length_take_of_le ho
  have hboth : (old.take off ++ bs).length = off + bs.length := by rw [List.length_append, htake]
  by_cases h1 : i < off + bs.length
  · rw [List.getD_append _ _ _ _ (by rw [hboth]; exact h1)]
    by_cases h0 : off ≤ i
    · rw [List.getD_append_right _ _ _ _ (by omega), htake, if_pos ⟨h0, h1⟩]
    · rw [List.getD_append _ _ _ _ (by omega), if_neg (by omega)]
      simp [List.getD_eq_getElem?_getD, Nat.lt_of_not_le h0]
  · rw [List.getD_append_right _ _ _ _ (by omega), hboth, if_neg (by omega)]
    simp only [List.getD_eq_getElem?_getD, List.getElem?_drop]
    rw [show off + bs.length + (i - (off + bs.length)) = i by omega]

theorem mergeMask_getD (mask : Nat) (old new : Bytes) {i : Nat} (h : i < 64) :
    (mergeMask mask old new).getD i 0 = if bitAt mask i then new.getD i 0 else old.getD i 0 := by
  unfold mergeMask
  rw [List.getD_eq_getElem?_getD, List.getElem?_map, List.getElem?_range h]
  rfl

/-- The assembly of each unit once bytes have merged into that of one (R341). -/
theorem find_mergeUnit (tick u off : Nat) (bs : Bytes) (xs : List Assembly) (w : Nat) :
    (mergeUnit tick u off bs xs).find? (fun x => x.unit = w) =
      if w = u then
        match xs.find? (fun x => x.unit = u) with
        | some x => some { x with mask := x.mask ||| maskOf off bs.length, data := overlay x.data off bs }
        | none => some ⟨u, maskOf off bs.length, tick, overlay (zeroBytes 64) off bs⟩
      else xs.find? (fun x => x.unit = w) := by
  induction xs with
  | nil =>
    by_cases hw : w = u
    · simp [mergeUnit, hw]
    · simp [mergeUnit, hw, Ne.symm hw]
  | cons x xs ih =>
    unfold mergeUnit
    by_cases hx : x.unit = u
    · rw [if_pos hx]
      by_cases hw : w = u
      · simp [hw, hx]
      · simp [hw, hx, Ne.symm hw]
    · rw [if_neg hx, List.find?_cons, ih]
      by_cases hw : w = u
      · simp [hw, hx]
      · rw [if_neg hw, if_neg hw, List.find?_cons]

theorem mergeUnit_length (tick u off : Nat) (bs : Bytes) (xs : List Assembly) :
    xs.length ≤ (mergeUnit tick u off bs xs).length ∧ (mergeUnit tick u off bs xs).length ≤ xs.length + 1 := by
  induction xs with
  | nil => simp [mergeUnit]
  | cons x xs ih =>
    unfold mergeUnit
    split
    · simp
    · simp only [List.length_cons]
      omega

theorem mergeUnit_data (h : off + bs.length ≤ 64) {xs : List Assembly} (hx : ∀ x ∈ xs, x.data.length = 64) :
    ∀ x ∈ mergeUnit tick u off bs xs, x.data.length = 64 := by
  induction xs with
  | nil =>
    intro x hm
    rw [mergeUnit, List.mem_singleton] at hm
    rw [hm]
    exact overlay_length List.length_replicate h
  | cons y ys ih =>
    intro x hm
    unfold mergeUnit at hm
    split at hm
    · rcases List.mem_cons.1 hm with rfl | hm
      · exact overlay_length (hx y (by simp)) h
      · exact hx x (by simp [hm])
    · rcases List.mem_cons.1 hm with rfl | hm
      · exact hx x (by simp)
      · exact ih (fun z hz => hx z (by simp [hz])) x hm

/-- An assembly that was open keeps its unit, and its bytes stay held. -/
theorem mergeUnit_keeps {xs : List Assembly} {x : Assembly} (hx : x ∈ xs) :
    ∃ y ∈ mergeUnit tick u off bs xs, y.unit = x.unit ∧ ∀ i, bitAt x.mask i = true → bitAt y.mask i = true := by
  induction xs with
  | nil => cases hx
  | cons z zs ih =>
    unfold mergeUnit
    rcases List.mem_cons.1 hx with rfl | hx
    · split
      · exact ⟨_, List.mem_cons_self, rfl, fun i h => by rw [bitAt_or, h]; rfl⟩
      · exact ⟨x, List.mem_cons_self, rfl, fun _ h => h⟩
    · split
      · exact ⟨x, List.mem_cons_of_mem _ hx, rfl, fun _ h => h⟩
      · obtain ⟨y, hy, hyx⟩ := ih hx
        exact ⟨y, List.mem_cons_of_mem _ hy, hyx⟩

/-- The bytes merged are held. -/
theorem mergeUnit_holds (tick u off : Nat) (bs : Bytes) (xs : List Assembly) : ∃ y ∈ mergeUnit tick u off bs xs,
    y.unit = u ∧ ∀ i, off ≤ i → i < off + bs.length → bitAt y.mask i = true := by
  have hmask {i : Nat} (h0 : off ≤ i) (h1 : i < off + bs.length) : bitAt (maskOf off bs.length) i = true := by simp [bitAt_maskOf, h0, h1]
  induction xs with
  | nil => exact ⟨_, List.mem_singleton_self _, rfl, fun i h0 h1 => hmask h0 h1⟩
  | cons z zs ih =>
    unfold mergeUnit
    split
    · next hz => exact ⟨_, List.mem_cons_self, hz, fun i h0 h1 => by rw [bitAt_or, hmask h0 h1, Bool.or_true]⟩
    · obtain ⟨y, hy, hyu⟩ := ih
      exact ⟨y, List.mem_cons_of_mem _ hy, hyu⟩

/-! ### The engine accepts bytes -/

/-- A byte is held by an open assembly. -/
def State.engineHolds (s : State) (a : Nat) : Prop := ∃ x ∈ s.ddr.assemblies, x.unit = a / 64 ∧ bitAt x.mask (a % 64) = true

theorem engineAccept_units (s : State) (u off : Nat) (bs : Bytes) : SameUnits s (s.engineAccept u off bs) := by
  refine ⟨⟨rfl, fun b hb => ?_⟩, rfl, rfl, rfl, fun _ => rfl, fun c hc => ?_⟩
  · exact set_ne
  · exact set_ne

/-- The engine and the controllers after bytes were accepted: the assemblies alone differ. -/
theorem engineAccept_ddr (s : State) (u off : Nat) (bs : Bytes) :
    (s.engineAccept u off bs).ddr = { s.ddr with assemblies := mergeUnit s.time.tclk u off bs s.ddr.assemblies } := rfl

/-- Accepted bytes are read, and the others as before (R342). -/
theorem engineAccept_byte (h : off + bs.length ≤ 64) (hx : ∀ x ∈ s.ddr.assemblies, x.data.length = 64) (a : Nat) :
    (s.engineAccept u off bs).byteNow a = if a / 64 = u ∧ off ≤ a % 64 ∧ a % 64 < off + bs.length then bs.getD (a % 64 - off) 0 else s.byteNow a := by
  have hlt : a % 64 < 64 := Nat.mod_lt _ (by omega)
  have hfind : (s.engineAccept u off bs).assembly (a / 64) = _ := find_mergeUnit s.time.tclk u off bs s.ddr.assemblies (a / 64)
  unfold State.byteNow
  rw [unitNow_eq, unitNow_eq, hfind, (engineAccept_units s u off bs).unitBeneath]
  by_cases hu : a / 64 = u
  · subst hu
    rw [if_pos rfl]
    rw [show s.assembly (a / 64) = s.ddr.assemblies.find? (fun x => x.unit = a / 64) from rfl]
    cases hm : s.ddr.assemblies.find? (fun x => x.unit = a / 64) with
    | some x =>
      have hlen := hx x (List.mem_of_find?_eq_some hm)
      dsimp only
      rw [mergeMask_getD _ _ _ hlt, mergeMask_getD _ _ _ hlt, bitAt_or, bitAt_maskOf, overlay_getD (by omega)]
      by_cases hin : off ≤ a % 64 ∧ a % 64 < off + bs.length
      · simp [hin]
      · simp [hin]
    | none =>
      dsimp only
      rw [mergeMask_getD _ _ _ hlt, bitAt_maskOf, overlay_getD (by rw [zeroBytes, List.length_replicate]; omega)]
      by_cases hin : off ≤ a % 64 ∧ a % 64 < off + bs.length
      · simp [hin]
      · simp [hin]
  · rw [if_neg hu, if_neg (fun e => hu e.1)]
    rfl

end Sys2Proof.Machine
end

section
/-! A write of protected units with room in the engine, and one without (chapter 11, R341, R342). -/

set_option Elab.async false

namespace Sys2Proof.Machine

variable {s t : State} {u off cls : Nat} {bs : Bytes}

/-! ### The chunks of a write -/

/-- A part of a write of one unit (unit, offset, bytes) has a byte of an address. -/
def covers (c : Nat × Nat × Bytes) (a : Nat) : Prop := a / 64 = c.1 ∧ c.2.1 ≤ a % 64 ∧ a % 64 < c.2.1 + c.2.2.length

theorem mem_unitsOf {a n u : Nat} : u ∈ unitsOf a n ↔ n ≠ 0 ∧ a / 64 ≤ u ∧ u ≤ (a + n - 1) / 64 := by
  unfold unitsOf
  split
  · next h => simp [h]
  · next h =>
    simp only [List.mem_map, List.mem_range]
    constructor
    · rintro ⟨i, hi, rfl⟩
      omega
    · rintro ⟨-, h1, h2⟩
      exact ⟨u - a / 64, by omega, by omega⟩

theorem slice_length (bs : Bytes) (off n : Nat) : (slice bs off n).length = min n (bs.length - off) := by
  rw [slice, List.length_take, List.length_drop]

theorem slice_getD (bs : Bytes) (off n : Nat) {i : Nat} (h : i < n) : (slice bs off n).getD i 0 = bs.getD (off + i) 0 := by
  rw [slice, List.getD_eq_getElem?_getD, List.getElem?_take_of_lt h, List.getElem?_drop, List.getD_eq_getElem?_getD]

theorem mem_chunks {a : Nat} {c : Nat × Nat × Bytes} (h : c ∈ chunks a bs) :
    c.1 ∈ unitsOf a bs.length ∧ c.2.1 = max a (64 * c.1) - 64 * c.1 ∧ c.2.2 = slice bs (max a (64 * c.1) - a) (64 * c.1 + 64 - max a (64 * c.1)) := by
  obtain ⟨u, hu, rfl⟩ := List.mem_map.1 h
  exact ⟨hu, rfl, rfl⟩

/-- A part of a write lies in its unit. -/
theorem chunks_fit {a : Nat} {c : Nat × Nat × Bytes} (h : c ∈ chunks a bs) : c.2.1 + c.2.2.length ≤ 64 := by
  obtain ⟨hu, hoff, hdata⟩ := mem_chunks h
  obtain ⟨-, hge, hle⟩ := mem_unitsOf.1 hu
  rw [hoff, hdata, slice_length]
  omega

/-- A part of a write has its bytes at their addresses. -/
theorem chunks_bytes {a b : Nat} {c : Nat × Nat × Bytes} (h : c ∈ chunks a bs) (hb : covers c b) :
    a ≤ b ∧ b < a + bs.length ∧ c.2.2.getD (b % 64 - c.2.1) 0 = bs.getD (b - a) 0 := by
  obtain ⟨-, hoff, hdata⟩ := mem_chunks h
  obtain ⟨hunit, hlo, hhi⟩ := hb
  rw [hdata, slice_length] at hhi
  rw [hoff] at hlo hhi
  refine ⟨by omega, by omega, ?_⟩
  rw [hdata, hoff, slice_getD _ _ _ (by omega)]
  congr 1
  omega

/-- Each byte of a write lies in one of its parts. -/
theorem chunks_cover {a b : Nat} (h1 : a ≤ b) (h2 : b < a + bs.length) : ∃ c ∈ chunks a bs, covers c b := by
  refine ⟨_, List.mem_map.2 ⟨b / 64, mem_unitsOf.2 (by omega), rfl⟩, rfl, ?_, ?_⟩
  · dsimp only
    omega
  · dsimp only
    rw [slice_length]
    omega

/-! ### With room in the engine -/

theorem meterU_other (h : cls ≠ 3) (s : State) (ch : Nat) : s.meterU ch cls = s := if_pos h

/-- A write of bytes of a protected unit is the engine's. -/
theorem storeUnit_engine (hu : 64 * u < s.protSize) (hcls : cls ≠ 3) : s.storeUnit cls u off bs = s.engineWrite u off bs cls := by
  unfold State.storeUnit
  cases hm : s.mapAddr (64 * u) with
  | none =>
    unfold State.mapAddr at hm
    dsimp only at hm
    rw [if_pos hu] at hm
    cases hm
  | some p =>
    dsimp only
    rw [meterU_other hcls, if_pos hu]

theorem engineWrite_room (hw : s.ddr.writers = []) (hroom : s.ddr.occupancy + 128 ≤ engineBytes) (u off : Nat) (bs : Bytes) (cls : Nat) :
    s.engineWrite u off bs cls = s.engineAccept u off bs := by
  have hfull : s.ddr.full = false := decide_eq_false (by omega)
  have hmake : s.makeRoom = s := by
    unfold State.makeRoom
    rw [if_neg (by rw [hfull]; decide)]
  unfold State.engineWrite State.engineTakes
  rw [hmake, ite_self]
  dsimp only
  rw [if_pos (by simp [hw, hfull])]

/-- The engine's occupancy grows by what a write opens. -/
theorem engineAccept_occupancy (s : State) (u off : Nat) (bs : Bytes) : s.ddr.occupancy ≤ (s.engineAccept u off bs).ddr.occupancy ∧
    (s.engineAccept u off bs).ddr.occupancy ≤ s.ddr.occupancy + 64 := by
  have hlen := mergeUnit_length s.time.tclk u off bs s.ddr.assemblies
  rw [engineAccept_ddr]
  unfold DramState.occupancy
  dsimp only
  omega

/-- A write with room for each of its units is taken at once. -/
theorem each_storeUnit {cs : List (Nat × Nat × Bytes)} (hcls : cls ≠ 3) (hu : ∀ c ∈ cs, 64 * c.1 < s.protSize) (hw : s.ddr.writers = [])
    (hroom : s.ddr.occupancy + 128 * cs.length ≤ engineBytes) :
    s.each cs (fun c s => s.storeUnit cls c.1 c.2.1 c.2.2) = s.each cs (fun c s => s.engineAccept c.1 c.2.1 c.2.2) := by
  unfold State.each
  induction cs generalizing s with
  | nil => rfl
  | cons c cs ih =>
    rw [List.length_cons] at hroom
    have hfirst : s.storeUnit cls c.1 c.2.1 c.2.2 = s.engineAccept c.1 c.2.1 c.2.2 := by
      rw [storeUnit_engine (hu c (by simp)) hcls, engineWrite_room hw (by omega)]
    have hocc := engineAccept_occupancy s c.1 c.2.1 c.2.2
    rw [List.foldl_cons, List.foldl_cons]
    dsimp only
    rw [hfirst]
    refine ih (fun d hd => ?_) hw (by omega)
    rw [(engineAccept_units s ..).map.protSize]
    exact hu d (by simp [hd])

/-- What the engine has once it accepted the parts of a write whose bytes are those of `g`. -/
structure AcceptedAll (s : State) (cs : List (Nat × Nat × Bytes)) (g : Nat → Byte) (t : State) : Prop where
  units : SameUnits s t
  taken : ∀ a, (∃ c ∈ cs, covers c a) → t.byteNow a = g a ∧ t.engineHolds a
  kept : ∀ a, (∀ c ∈ cs, ¬covers c a) → t.byteNow a = s.byteNow a
  holds : ∀ a, s.engineHolds a → t.engineHolds a
  grows : s.ddr.occupancy ≤ t.ddr.occupancy
  most : cs ≠ [] → t.reg 0x5801 7 = max (s.reg 0x5801 7) t.ddr.occupancy

theorem sameUnits_trans {r : State} (h : SameUnits s t) (k : SameUnits t r) : SameUnits s r :=
  ⟨sameMap_trans h.map k.map, k.dram.trans h.dram, k.bad.trans h.bad, k.stripes.trans h.stripes, fun c => (k.progress c).trans (h.progress c),
    fun c hc => (k.state c hc).trans (h.state c hc)⟩

theorem acceptedAll_nil (g : Nat → Byte) : AcceptedAll s [] g s where
  units := ⟨sameMap_refl s, rfl, rfl, rfl, fun _ => rfl, fun _ _ => rfl⟩
  taken := fun _ ⟨_, hc, _⟩ => nomatch hc
  kept _ _ := rfl
  holds _ h := h
  grows := Nat.le_refl _
  most h := absurd rfl h

theorem each_engineAccept {cs : List (Nat × Nat × Bytes)} {g : Nat → Byte} (hfit : ∀ c ∈ cs, c.2.1 + c.2.2.length ≤ 64)
    (hg : ∀ c ∈ cs, ∀ a, covers c a → c.2.2.getD (a % 64 - c.2.1) 0 = g a) (hx : ∀ x ∈ s.ddr.assemblies, x.data.length = 64) :
    AcceptedAll s cs g (s.each cs (fun c s => s.engineAccept c.1 c.2.1 c.2.2)) := by
  unfold State.each
  induction cs generalizing s with
  | nil => exact acceptedAll_nil g
  | cons c cs ih =>
    have hc := hfit c (by simp)
    have hunits := engineAccept_units s c.1 c.2.1 c.2.2
    obtain ⟨hgrows, -⟩ := engineAccept_occupancy s c.1 c.2.1 c.2.2
    have hbyte := engineAccept_byte (u := c.1) hc hx
    have hmost : (s.engineAccept c.1 c.2.1 c.2.2).reg 0x5801 7 = max (s.reg 0x5801 7) (s.engineAccept c.1 c.2.1 c.2.2).ddr.occupancy := reg_setReg_same ..
    have hdata : ∀ x ∈ (s.engineAccept c.1 c.2.1 c.2.2).ddr.assemblies, x.data.length = 64 := mergeUnit_data hc hx
    have hkeep {a : Nat} (h : s.engineHolds a) : (s.engineAccept c.1 c.2.1 c.2.2).engineHolds a := by
      obtain ⟨x, hm, hux, hbx⟩ := h
      obtain ⟨y, hy, huy, hby⟩ := mergeUnit_keeps (tick := s.time.tclk) (u := c.1) (off := c.2.1) (bs := c.2.2) hm
      exact ⟨y, hy, huy.trans hux, hby _ hbx⟩
    have hfirst {a : Nat} (h : covers c a) : (s.engineAccept c.1 c.2.1 c.2.2).byteNow a = g a ∧ (s.engineAccept c.1 c.2.1 c.2.2).engineHolds a := by
      obtain ⟨y, hy, huy, hby⟩ := mergeUnit_holds s.time.tclk c.1 c.2.1 c.2.2 s.ddr.assemblies
      exact ⟨(hbyte a).trans ((if_pos h).trans (hg c (by simp) a h)), y, hy, huy.trans h.1.symm, hby _ h.2.1 h.2.2⟩
    have hrest := ih (fun d hd => hfit d (by simp [hd])) (fun d hd => hg d (by simp [hd])) hdata
    rw [List.foldl_cons]
    dsimp only at hrest ⊢
    generalize s.engineAccept c.1 c.2.1 c.2.2 = p at *
    generalize ht : List.foldl _ p cs = t at hrest ⊢
    refine ⟨sameUnits_trans hunits hrest.units, fun a ha => ?_, fun a ha => ?_, fun a h => hrest.holds a (hkeep h), Nat.le_trans hgrows hrest.grows, fun _ => ?_⟩
    · by_cases hd : ∃ d ∈ cs, covers d a
      · exact hrest.taken a hd
      · have hca : covers c a := by
          obtain ⟨d, hm, hda⟩ := ha
          rcases List.mem_cons.1 hm with rfl | hm
          · exact hda
          · exact absurd ⟨d, hm, hda⟩ hd
        obtain ⟨hval, hheld⟩ := hfirst hca
        rw [hrest.kept a fun d hm hda => hd ⟨d, hm, hda⟩]
        exact ⟨hval, hrest.holds a hheld⟩
    · rw [hrest.kept a fun d hm => ha d (by simp [hm])]
      exact (hbyte a).trans (if_neg (ha c (by simp)))
    · by_cases hcs : cs = []
      · rw [← ht, hcs]
        exact hmost
      · have hgrow := hrest.grows
        rw [hrest.most hcs, hmost]
        omega

theorem chunks_length (a : Nat) (bs : Bytes) : (chunks a bs).length = (unitsOf a bs.length).length := List.length_map _

/-- A protected range ends with a whole unit. -/
theorem chunks_protected {a : Nat} (h : a + bs.length ≤ s.protSize) : ∀ c ∈ chunks a bs, 64 * c.1 < s.protSize := by
  intro c hc
  obtain ⟨hu, -, -⟩ := mem_chunks hc
  obtain ⟨hne, -, hle⟩ := mem_unitsOf.1 hu
  omega

/-- A write of protected units with room in the engine: it is held and read from then on (R341, R342). -/
theorem engineWrite_held {addr : Nat} {data : Bytes} (hd : data ≠ []) (hroom : s.engineRoom addr data.length) :
    Completes (.parityEngineWrite addr data) s (fun t => t.load addr data.length = data ∧ t.dram = s.dram ∧
      (∀ a, a < addr ∨ addr + data.length ≤ a → t.load a 1 = s.load a 1) ∧ t.reg 0x5801 7 = max (s.reg 0x5801 7) t.ddr.occupancy ∧
      ∀ i, i < data.length → ∃ x ∈ t.ddr.assemblies, x.unit = (addr + i) / 64 ∧ bitAt x.mask ((addr + i) % 64) = true) := by
  obtain ⟨hp, hw, hx, hdelta, hocc⟩ := hroom
  have hpos : 0 < data.length := List.length_pos_iff.2 hd
  have hexec : exec (.parityEngineWrite addr data) s = .next (s.each (chunks addr data) (fun c s => s.engineAccept c.1 c.2.1 c.2.2)) := by
    show execParityEngineWrite addr data s = _
    unfold execParityEngineWrite
    rw [if_pos (by simp [hd, hp]), State.store, each_storeUnit (by decide) (chunks_protected hp) hw (by rw [chunks_length]; exact hocc)]
  have hall := each_engineAccept (s := s) (g := fun b => data.getD (b - addr) 0) (fun _ => chunks_fit)
    (fun _ hc b hb => (chunks_bytes (bs := data) (a := addr) hc hb).2.2) hx
  refine completes_of hexec ?_
  generalize s.each (chunks addr data) _ = t at *
  have hdelta' (st : Nat) : (t.stripeAcc st).delta.length = 64 := by rw [hall.units.stripeAcc, hdelta]
  have hbyte {i : Nat} (hi : i < data.length) := hall.taken (addr + i) (chunks_cover (by omega) (by omega))
  refine ⟨?_, hall.units.dram, fun a ha => ?_, hall.most ?_, fun i hi => (hbyte hi).2⟩
  · rw [load_bytes hdelta']
    refine List.ext_getElem (by simp) fun i h1 h2 => ?_
    rw [List.getElem_map, List.getElem_range, (hbyte h2).1, Nat.add_sub_cancel_left]
    simp [List.getD_eq_getElem?_getD, h2]
  · have hkept := hall.kept a fun c hc hb => by
      obtain ⟨h1, h2, -⟩ := chunks_bytes hc hb
      omega
    rw [load_bytes hdelta', load_bytes hdelta]
    simp [hkept]
  · obtain ⟨c, hc, -⟩ := chunks_cover (bs := data) (Nat.le_refl addr) (by omega)
    exact List.ne_nil_of_mem hc

/-! ### Without room in the engine -/

/-- A write of one unit without space waits while the assemblies that could close are held (R341). -/
theorem engineWrite_waits {addr : Nat} {data : Bytes} (hd : data ≠ []) (hp : addr + data.length ≤ s.protSize) (hw : s.ddr.writers = [])
    (hfull : engineBytes < s.ddr.occupancy + 128) (hoff : ∀ x ∈ s.ddr.assemblies, s.chanState (s.assemblyChannel x) = 1)
    (hnone : s.assembly (addr / 64) = none) (hone : addr % 64 + data.length ≤ 64) :
    Completes (.parityEngineWrite addr data) s (fun t =>
      t.ddr.writers = [⟨addr / 64, addr % 64, data, 2⟩] ∧ t.ddr.assemblies = s.ddr.assemblies ∧ t.dram = s.dram) := by
  have hpos : 0 < data.length := List.length_pos_iff.2 hd
  have hchunk : chunks addr data = [(addr / 64, addr % 64, data)] := by
    have hunits : unitsOf addr data.length = [addr / 64] := by
      unfold unitsOf
      rw [if_neg (by omega), show (addr + data.length - 1) / 64 + 1 - addr / 64 = 1 by omega]
      rfl
    unfold chunks slice
    rw [hunits, List.map_singleton]
    dsimp only
    rw [Nat.max_eq_left (by omega), Nat.sub_self, List.drop_zero, List.take_of_length_le (by omega), show addr - 64 * (addr / 64) = addr % 64 by omega]
  have hmake : s.makeRoom = s := by
    have hnext : s.ddr.assemblies.find? (fun x => s.writable (s.assemblyChannel x)) = none := by
      rw [List.find?_eq_none]
      intro x hx
      simp [State.writable, hoff x hx]
    unfold State.makeRoom
    rw [hnext, ite_self]
  have hwait : s.engineWrite (addr / 64) (addr % 64) data 2 = s.setDdr { s.ddr with writers := s.ddr.writers ++ [⟨addr / 64, addr % 64, data, 2⟩] } := by
    have htakes : s.engineTakes (addr / 64) = false := by
      unfold State.engineTakes DramState.full
      rw [hnone, decide_eq_true hfull]
      rfl
    unfold State.engineWrite
    rw [hmake, ite_self]
    dsimp only
    rw [htakes, Bool.and_false, if_neg (by decide)]
  have hexec : exec (.parityEngineWrite addr data) s = .next (s.setDdr { s.ddr with writers := s.ddr.writers ++ [⟨addr / 64, addr % 64, data, 2⟩] }) := by
    show execParityEngineWrite addr data s = _
    unfold execParityEngineWrite
    rw [if_pos (by simp [hd, hp]), State.store, hchunk, ← hwait, ← storeUnit_engine (by omega) (by decide)]
    rfl
  refine completes_of hexec ⟨?_, rfl, rfl⟩
  rw [setDdr_ddr, hw]
  rfl

theorem engineWrite_none {addr : Nat} {data : Bytes} (h : data = [] ∨ s.protSize < addr + data.length) : exec (.parityEngineWrite addr data) s = .next s := by
  show execParityEngineWrite addr data s = _
  unfold execParityEngineWrite
  rw [if_neg]
  rcases h with rfl | h
  · simp
  · simp
    omega

end Sys2Proof.Machine
end

section
/-! Writes of device units, and the close of assemblies and stripes (chapter 11, R341, R351). -/

set_option Elab.async false

namespace Sys2Proof.Machine

variable {s0 s t : State} {ch u stripe pos : Nat} {v : Bytes} {x : Assembly}

/-! ### Writes of device units -/

/-- From `s0` to `s` devices were accessed and written, and nothing of the engine but marks of bad units changed. -/
structure UnitsWritten (s0 s : State) : Prop where
  board : s.board = s0.board
  time : s.time = s0.time
  ddr : s.ddr = { s0.ddr with bad := s.ddr.bad, channels := s.ddr.channels }
  chan : ∀ c, (s.chan c).steady = (s0.chan c).steady
  reg : ∀ j b, accessKeeps j b → s.reg j b = s0.reg j b

theorem Accessed.unitsWritten (h : Accessed s0 s) : UnitsWritten s0 s := ⟨h.board, h.time, by rw [h.ddr], h.chan, h.reg⟩

theorem unitsWritten_trans (h : UnitsWritten s0 s) (k : UnitsWritten s t) : UnitsWritten s0 t :=
  ⟨k.board.trans h.board, k.time.trans h.time, k.ddr.trans (by rw [h.ddr]), fun c => (k.chan c).trans (h.chan c), fun j b hk => (k.reg j b hk).trans (h.reg j b hk)⟩

theorem UnitsWritten.sameMap (h : UnitsWritten s0 s) : SameMap s0 s := ⟨h.board, fun b hb => h.reg _ _ (by omega)⟩

theorem unitsWritten_markUnit (s : State) (ch u : Nat) (b : Bool) : UnitsWritten s (s.markUnit ch u b) := ⟨rfl, rfl, rfl, fun _ => rfl, fun _ _ _ => rfl⟩

/-- A device is accessed to write a unit. -/
def State.writeStart (s : State) (ch u : Nat) : State := (s.access ch u).inc64 (0x5810 + ch) 6 1

theorem accessed_writeStart (hc : ch < 24) (s : State) (u : Nat) : Accessed s (s.writeStart ch u) :=
  accessed_setReg (accessed_access hc (accessed_refl s))

theorem deviceWrite_eq (h : s.chanState ch ≠ 2) (u : Nat) (v : Bytes) :
    s.deviceWrite ch u v = ((s.writeStart ch u).putUnit ch u v).markUnit ch u false := if_neg h

theorem unitsWritten_deviceWrite (hc : ch < 24) (s : State) (u : Nat) (v : Bytes) : UnitsWritten s (s.deviceWrite ch u v) := by
  by_cases h : s.chanState ch = 2
  · rw [State.deviceWrite, if_pos h]
    exact (accessed_refl s).unitsWritten
  · rw [deviceWrite_eq h]
    exact unitsWritten_trans (accessed_writeStart hc s u).unitsWritten ⟨rfl, rfl, rfl, fun _ => rfl, fun _ _ _ => rfl⟩

theorem deviceWrite_wf (hw : dramWf s.dram = true) (ch u : Nat) (v : Bytes) : dramWf (s.deviceWrite ch u v).dram = true :=
  (keeps_deviceWrite (keeps_refl s)).dram hw

/-- The bytes of the devices after a write. -/
theorem deviceWrite_dram (hc : ch < 24) (h : s.chanState ch ≠ 2) (u : Nat) (v : Bytes) :
    (s.deviceWrite ch u v).dram = dramWrite s.dram (64 * s.deviceKey ch u) v := by
  have hstart := accessed_writeStart hc s u
  rw [deviceWrite_eq h]
  show dramWrite (s.writeStart ch u).dram (64 * (s.writeStart ch u).deviceKey ch u) v = _
  rw [hstart.dram, hstart.sameMap.deviceKey]

theorem deviceWrite_unit (hc : ch < 24) (h : s.chanState ch ≠ 2) (hw : dramWf s.dram = true) (hv : v.length = 64) :
    (s.deviceWrite ch u v).devUnit ch u = v :=
  devUnit_write_same ch u (unitsWritten_deviceWrite hc s u v).sameMap (deviceWrite_dram hc h u v) hw hv

theorem deviceWrite_bad (h : s.chanState ch ≠ 2) (u : Nat) (v : Bytes) : (s.deviceWrite ch u v).unitBad ch u = false := by
  rw [deviceWrite_eq h, unitBad_markUnit, if_pos rfl]

theorem deviceWrite_other {d w : Nat} (hc : ch < 24) (hw : dramWf s.dram = true) (hv : v.length ≤ 64) (hne : s.deviceKey d w ≠ s.deviceKey ch u) :
    (s.deviceWrite ch u v).devUnit d w = s.devUnit d w := by
  by_cases h : s.chanState ch = 2
  · rw [State.deviceWrite, if_pos h]
  · exact devUnit_write_other (unitsWritten_deviceWrite hc s u v).sameMap (deviceWrite_dram hc h u v) hw hv hne

theorem markUnit_devUnit (s : State) (ch u d w : Nat) (b : Bool) : (s.markUnit ch u b).devUnit d w = s.devUnit d w := rfl

/-! ### A closed unit enters its stripe -/

/-- The accumulator of a stripe with a further closed unit (R341). -/
def State.accWith (s : State) (ch stripe pos : Nat) (v : Bytes) : StripeAcc :=
  let x := s.stripeAcc stripe
  let old := s.localUnitBytes ch stripe
  ⟨setBit x.closed pos, xorBytes (if bitAt x.closed pos then xorBytes x.sum old else x.sum) v, xorBytes x.delta (xorBytes old v)⟩

/-- The engine with the accumulator of a stripe. -/
def State.withAcc (s : State) (stripe : Nat) (a : StripeAcc) : State := s.setDdr { s.ddr with stripes := insertKey s.ddr.stripes stripe a }

theorem enterStripe_eq (s : State) (ch stripe pos : Nat) (v : Bytes) : ∃ lost : Bool, s.enterStripe ch stripe pos v =
    if lost then ((s.withAcc stripe (s.accWith ch stripe pos v)).deviceWrite ch stripe v).markUnit
      (parityChannel ((s.withAcc stripe (s.accWith ch stripe pos v)).deviceWrite ch stripe v).dramN stripe) stripe true
    else (s.withAcc stripe (s.accWith ch stripe pos v)).deviceWrite ch stripe v := ⟨_, rfl⟩

/-- What enters a stripe: the accumulator, and the unit in its devices. -/
structure Entered (s : State) (ch stripe pos : Nat) (v : Bytes) (t : State) : Prop where
  wrote : UnitsWritten (s.withAcc stripe (s.accWith ch stripe pos v)) t
  wf : dramWf t.dram = true
  unit : s.chanState ch ≠ 2 → v.length = 64 → t.devUnit ch stripe = v

theorem enterStripe_entered (hc : ch < 24) (hw : dramWf s.dram = true) (stripe pos : Nat) (v : Bytes) :
    Entered s ch stripe pos v (s.enterStripe ch stripe pos v) := by
  obtain ⟨lost, he⟩ := enterStripe_eq s ch stripe pos v
  obtain ⟨a, ha⟩ : ∃ a, a = s.withAcc stripe (s.accWith ch stripe pos v) := ⟨_, rfl⟩
  have hdram : dramWf a.dram = true := by rw [ha]; exact hw
  have hstate : a.chanState ch = s.chanState ch := by rw [ha]; rfl
  have hwrite := unitsWritten_deviceWrite hc a stripe v
  have hunit (h : s.chanState ch ≠ 2) (hv : v.length = 64) := deviceWrite_unit hc (hstate ▸ h) hdram hv (u := stripe)
  have hwf := deviceWrite_wf hdram ch stripe v
  rw [← ha] at he
  rw [he]
  split
  · exact ⟨ha ▸ unitsWritten_trans hwrite (unitsWritten_markUnit ..), hwf, fun h hv => (markUnit_devUnit ..).trans (hunit h hv)⟩
  · exact ⟨ha ▸ hwrite, hwf, hunit⟩

section
variable (h : Entered s ch stripe pos v t)
include h

theorem Entered.map : SameMap s t := ⟨h.wrote.board, h.wrote.sameMap.page⟩

theorem Entered.reg {j b : Nat} (hk : accessKeeps j b) : t.reg j b = s.reg j b := h.wrote.reg j b hk

/-- The engine's parts after a unit entered its stripe. -/
theorem Entered.engine : t.ddr.assemblies = s.ddr.assemblies ∧ t.ddr.writers = s.ddr.writers ∧
    t.ddr.stripes = insertKey s.ddr.stripes stripe (s.accWith ch stripe pos v) := by
  rw [h.wrote.ddr]
  exact ⟨rfl, rfl, rfl⟩

theorem Entered.acc : t.stripeAcc stripe = s.accWith ch stripe pos v := by
  obtain ⟨-, -, hstripes⟩ := h.engine
  rw [State.stripeAcc, hstripes, lookup_insertKey_same]
  rfl

end

/-! ### A stripe's parity is written -/

/-- The data positions of a stripe are those that have closed and those that have not. -/
theorem popCount_openPositions (d c : Nat) : popCount d c + (openPositions d c).length = d := by
  unfold popCount openPositions
  induction d with
  | zero => rfl
  | succ d ih =>
    rw [List.range_succ, List.foldl_append, List.filter_append, List.length_append]
    simp only [ofBool] at ih
    cases hb : bitAt c d <;> simp [ofBool, hb] <;> omega

theorem openPositions_whole {d c : Nat} (h : popCount d c = d) : openPositions d c = [] := by
  have hsum := popCount_openPositions d c
  exact List.eq_nil_of_length_eq_zero (by omega)

theorem openPositions_open {d c : Nat} (h : popCount d c ≠ d) : openPositions d c ≠ [] := by
  have hsum := popCount_openPositions d c
  intro he
  rw [he, List.length_nil] at hsum
  omega

theorem stripeParity_le (h : (s.stripeAcc stripe).sum.length ≤ 64) : (s.stripeParity stripe).length ≤ 64 := by
  unfold State.stripeParity
  split
  · exact Nat.le_trans (xorFold_le _ _ _) h
  · exact stripePart_le ..

/-- The reads that complete a stripe (R341). -/
theorem accessed_stripeReads (s : State) (stripe : Nat) : Accessed s (s.each (s.stripeRest stripe) (fun c s => s.engineRead c stripe)) :=
  accessed_each (accessed_refl s) fun _ hc _ ht => accessed_engineRead (stripeRest_lt hc) ht

/-- The engine's counts before a parity is written (R341). -/
theorem stripeRead_reg (s : State) (stripe : Nat) :
    (s.stripeRest stripe = [] → (s.stripeRead stripe).reg 0x5801 1 = wrapAdd64 (s.reg 0x5801 1) 1) ∧
    (s.stripeRest stripe ≠ [] → (s.stripeRead stripe).reg 0x5801 2 = wrapAdd64 (s.reg 0x5801 2) 1 ∧
      (s.stripeRead stripe).reg 0x5801 4 = wrapAdd64 (s.reg 0x5801 4) (s.stripeRest stripe).length) ∧
    ∀ j b, accessKeeps j b → (j ≠ 0x5801 ∨ b ≠ 1 ∧ b ≠ 2 ∧ b ≠ 4) → (s.stripeRead stripe).reg j b = s.reg j b := by
  have hreads := (accessed_stripeReads s stripe).reg
  unfold State.stripeRead State.stripeCounted
  generalize s.each (s.stripeRest stripe) (fun c s => s.engineRead c stripe) = a at *
  refine ⟨fun h => ?_, fun h => ⟨?_, ?_⟩, fun j b hk hne => ?_⟩
  · rw [setDdr_reg, h]
    exact (inc64_reg_same ..).trans (by rw [hreads _ _ (by omega)])
  · rw [setDdr_reg, if_neg (by simp [h]), inc64_reg_key _ _ (by decide), inc64_reg_same, hreads _ _ (by omega)]
  · rw [setDdr_reg, if_neg (by simp [h]), inc64_reg_same, inc64_reg_key _ _ (by decide), hreads _ _ (by omega)]
  · rw [setDdr_reg, ← hreads j b (by omega)]
    split
    · exact inc64_reg_key _ _ (by simp only [key]; omega)
    · exact (inc64_reg_key _ _ (by simp only [key]; omega)).trans (inc64_reg_key _ _ (by simp only [key]; omega))

/-- The engine and the devices before a parity is written. -/
theorem stripeRead_kept (s : State) (stripe : Nat) : (s.stripeRead stripe).board = s.board ∧ (s.stripeRead stripe).dram = s.dram ∧
    (s.stripeRead stripe).ddr.assemblies = s.ddr.assemblies ∧ (s.stripeRead stripe).ddr.writers = s.ddr.writers ∧
    (s.stripeRead stripe).ddr.stripes = eraseKey s.ddr.stripes stripe := by
  have hreads := accessed_stripeReads s stripe
  have hcounted : (s.stripeCounted stripe).board = s.board ∧ (s.stripeCounted stripe).dram = s.dram ∧
      (s.stripeCounted stripe).ddr = (s.each (s.stripeRest stripe) (fun c s => s.engineRead c stripe)).ddr := by
    unfold State.stripeCounted
    dsimp only
    split
    · exact ⟨hreads.board, hreads.dram, rfl⟩
    · exact ⟨hreads.board, hreads.dram, rfl⟩
  obtain ⟨hboard, hdram, hddr⟩ := hcounted
  refine ⟨hboard, hdram, ?_⟩
  rw [State.stripeRead, setDdr_ddr, hddr, hreads.ddr]
  exact ⟨rfl, rfl, rfl⟩

/-- A parity is written: what the stripe's accumulator leaves, and the counts (R341). -/
structure Closed (s : State) (stripe : Nat) (t : State) : Prop where
  map : SameMap s t
  assemblies : t.ddr.assemblies = s.ddr.assemblies
  writers : t.ddr.writers = s.ddr.writers
  stripes : t.ddr.stripes = eraseKey s.ddr.stripes stripe
  others : ∀ c, c ≠ parityChannel s.dramN stripe → t.devUnit c stripe = s.devUnit c stripe
  parity : s.chanState (parityChannel s.dramN stripe) ≠ 2 → (s.stripeParity stripe).length = 64 →
    t.devUnit (parityChannel s.dramN stripe) stripe = s.stripeParity stripe
  reg : ∀ j b, accessKeeps j b → t.reg j b = (s.stripeRead stripe).reg j b

/-- The write of a parity, whether or not it stays marked. -/
theorem closeStripe_write (s : State) (stripe : Nat) : UnitsWritten (s.stripeRead stripe) (s.closeStripe stripe) ∧
    ∀ c, (s.closeStripe stripe).devUnit c stripe =
      ((s.stripeRead stripe).deviceWrite (parityChannel s.dramN stripe) stripe (s.stripeParity stripe)).devUnit c stripe := by
  obtain ⟨bad, he⟩ := closeStripe_eq s stripe
  have hwrite := unitsWritten_deviceWrite (parityChannel_lt24 s stripe) (s.stripeRead stripe) stripe (s.stripeParity stripe)
  rw [he]
  split
  · exact ⟨unitsWritten_trans hwrite (unitsWritten_markUnit ..), fun c => markUnit_devUnit ..⟩
  · exact ⟨hwrite, fun _ => rfl⟩

theorem closeStripe_closed (hw : dramWf s.dram = true) (hsum : (s.stripeAcc stripe).sum.length ≤ 64) : Closed s stripe (s.closeStripe stripe) := by
  obtain ⟨hboard, hdram, hassemblies, hwriters, hstripes⟩ := stripeRead_kept s stripe
  obtain ⟨-, -, hreg⟩ := stripeRead_reg s stripe
  obtain ⟨hwrite, hunits⟩ := closeStripe_write s stripe
  have hp := parityChannel_lt24 s stripe
  have hw' : dramWf (s.stripeRead stripe).dram = true := by rw [hdram]; exact hw
  have hmap : SameMap s (s.stripeRead stripe) := ⟨hboard, fun b hb => hreg _ b (by omega) (by omega)⟩
  have hstate : (s.stripeRead stripe).chanState (parityChannel s.dramN stripe) = s.chanState (parityChannel s.dramN stripe) :=
    hreg _ 1 (by omega) (by omega)
  refine ⟨sameMap_trans hmap hwrite.sameMap, by rw [hwrite.ddr, hassemblies], by rw [hwrite.ddr, hwriters], by rw [hwrite.ddr, hstripes], fun c hc => ?_,
    fun h2 hv => ?_, hwrite.reg⟩
  · rw [hunits, deviceWrite_other hp hw' (stripeParity_le hsum) (deviceKey_channels _ _ hc), hmap.devUnit hdram]
  · rw [hunits, deviceWrite_unit hp (by rw [hstate]; exact h2) hw' hv]

/-! ### An assembly closes -/

/-- An assembly's unit is completed (R341): its bytes, and what the merge read leaves. -/
structure Completed (s : State) (x : Assembly) (ch stripe : Nat) (r : Bytes × State) : Prop where
  whole : x.mask = 2 ^ 64 - 1 → r.1 = x.data
  merged : x.mask ≠ 2 ^ 64 - 1 → s.localReadable ch stripe = true → r.1 = mergeMask x.mask (s.localUnitBytes ch stripe) x.data
  length : x.data.length = 64 → r.1.length = 64
  board : r.2.board = s.board
  dram : r.2.dram = s.dram
  ddr : r.2.ddr = { s.ddr with channels := r.2.ddr.channels }
  reg : ∀ j b, accessKeeps j b → (j ≠ 0x5801 ∨ b ≠ 3) → r.2.reg j b = s.reg j b
  count : r.2.reg 0x5801 3 = if x.mask = 2 ^ 64 - 1 then s.reg 0x5801 3 else wrapAdd64 (s.reg 0x5801 3) 1

theorem completeUnit_completed (hc : ch < 24) (s : State) (x : Assembly) (stripe : Nat) : Completed s x ch stripe (s.completeUnit x ch stripe) := by
  have hread {a : State} (v : Bytes) (hx : x.mask ≠ 2 ^ 64 - 1) (ha : Accessed s a) (hlen : v.length = 64)
      (hv : s.localReadable ch stripe = true → v = mergeMask x.mask (s.localUnitBytes ch stripe) x.data) : Completed s x ch stripe (v, a.inc64 0x5801 3 1) := by
    refine ⟨fun h => absurd h hx, fun _ => hv, fun _ => hlen, ha.board, ha.dram, ha.ddr, fun j b hk hne => ?_, ?_⟩
    · exact (inc64_reg_key _ _ (by simp only [key]; omega)).trans (ha.reg j b hk)
    · rw [if_neg hx, inc64_reg_same, ha.reg _ _ (by omega)]
  unfold State.completeUnit
  split
  · next hx => exact ⟨fun _ => rfl, fun h => absurd hx h, fun h => h, rfl, rfl, rfl, fun _ _ _ _ => rfl, (if_pos hx).symm⟩
  · next hx =>
    split
    · exact hread _ hx (accessed_engineRead hc (accessed_refl s)) (mergeMask_length ..) fun _ => rfl
    · next hr => exact hread _ hx (accessed_engineRead hc (accessed_draw (accessed_refl s))) (mergeMask_length ..) fun h => absurd h hr

/-- The engine without an assembly. -/
def State.unheld (s : State) (x : Assembly) : State := s.setDdr { s.ddr with assemblies := s.ddr.assemblies.erase x }

theorem unheld_units (s : State) (x : Assembly) : SameUnits s (s.unheld x) := ⟨⟨rfl, fun _ _ => rfl⟩, rfl, rfl, rfl, fun _ => rfl, fun _ _ => rfl⟩

/-- The unit of an assembly is completed and has entered its stripe (R341). -/
def State.unitEntered (s : State) (x : Assembly) (ch stripe : Nat) : State :=
  let r := (s.unheld x).completeUnit x ch stripe
  r.2.enterStripe ch stripe (x.unit % (s.dramN - 1)) r.1

/-- A close of an assembly (R341, R351): its unit enters its stripe, and the parity follows where it is due and may be written. -/
theorem closeAssembly_eq {close : Bool} (hm : s.mapAddr (64 * x.unit) = some (ch, stripe)) : s.closeAssembly x close =
    if (close || popCount ((s.unitEntered x ch stripe).dramN - 1) ((s.unitEntered x ch stripe).stripeAcc stripe).closed =
        (s.unitEntered x ch stripe).dramN - 1) && (s.unitEntered x ch stripe).writable (parityChannel (s.unitEntered x ch stripe).dramN stripe)
      then (s.unitEntered x ch stripe).closeStripe stripe else s.unitEntered x ch stripe := by
  have hm' : (s.unheld x).mapAddr (64 * x.unit) = some (ch, stripe) := hm
  unfold State.unheld at hm'
  unfold State.closeAssembly
  dsimp only
  rw [hm']
  rfl

/-- What an assembly's unit leaves once it has entered its stripe (R341, R351). -/
structure UnitEntered (s : State) (x : Assembly) (ch stripe : Nat) (t : State) : Prop where
  map : SameMap s t
  wf : dramWf t.dram = true
  assemblies : t.ddr.assemblies = s.ddr.assemblies.erase x
  writers : t.ddr.writers = s.ddr.writers
  sorted : sorted s.ddr.stripes = true → sorted t.ddr.stripes = true
  closed : (t.stripeAcc stripe).closed = setBit (s.stripeAcc stripe).closed (x.unit % (s.dramN - 1))
  sumLength : (t.stripeAcc stripe).sum.length ≤ 64
  sum : s.chanState ch ≠ 2 → bitAt (s.stripeAcc stripe).closed (x.unit % (s.dramN - 1)) = false →
    (t.stripeAcc stripe).sum = xorBytes (s.stripeAcc stripe).sum (t.devUnit ch stripe)
  whole : s.chanState ch ≠ 2 → x.mask = 2 ^ 64 - 1 → t.devUnit ch stripe = x.data
  merged : s.chanState ch ≠ 2 → x.mask ≠ 2 ^ 64 - 1 → s.localReadable ch stripe = true →
    t.devUnit ch stripe = mergeMask x.mask (s.localUnitBytes ch stripe) x.data
  reg : ∀ j b, accessKeeps j b → (j ≠ 0x5801 ∨ b ≠ 3) → t.reg j b = s.reg j b
  count : t.reg 0x5801 3 = if x.mask = 2 ^ 64 - 1 then s.reg 0x5801 3 else wrapAdd64 (s.reg 0x5801 3) 1

theorem unitEntered_spec (hc : ch < 24) (hw : dramWf s.dram = true) (hx : x.data.length = 64) (stripe : Nat) :
    UnitEntered s x ch stripe (s.unitEntered x ch stripe) := by
  have hunits := unheld_units s x
  have hdone := completeUnit_completed hc (s.unheld x) x stripe
  unfold State.unitEntered
  dsimp only
  generalize (s.unheld x).completeUnit x ch stripe = r at *
  obtain ⟨v, q⟩ := r
  obtain ⟨hwhole, hmerged, hlength, hboard, hdram, hddr, hreg, hcount⟩ := hdone
  dsimp only at *
  have hv := hlength hx
  have hwf : dramWf q.dram = true := by rw [hdram]; exact hw
  have hent := enterStripe_entered hc hwf stripe (x.unit % (s.dramN - 1)) v
  have hstate : q.chanState ch = s.chanState ch := hreg _ 1 (by omega) (by omega)
  have hmap : SameMap s q := ⟨hboard, fun b hb => hreg _ b (by omega) (by omega)⟩
  have hacc : q.stripeAcc stripe = s.stripeAcc stripe := by
    rw [State.stripeAcc, hddr]
    rfl
  have hq : q.ddr.assemblies = s.ddr.assemblies.erase x ∧ q.ddr.writers = s.ddr.writers ∧ q.ddr.stripes = s.ddr.stripes := by
    rw [hddr]
    exact ⟨rfl, rfl, rfl⟩
  obtain ⟨hqa, hqw, hqs⟩ := hq
  obtain ⟨hea, hew, hes⟩ := hent.engine
  have hunit (h2 : s.chanState ch ≠ 2) := hent.unit (hstate ▸ h2) hv
  refine ⟨sameMap_trans hmap hent.map, hent.wf, hea.trans hqa, hew.trans hqw, fun h => ?_, ?_, ?_, fun h2 hb => ?_, fun h2 hf => ?_, fun h2 hf hr => ?_,
    fun j b hk hne => (hent.reg hk).trans (hreg j b hk hne), (hent.reg (by omega)).trans hcount⟩
  · rw [hes, hqs]
    exact sorted_insertKey _ _ h
  · rw [hent.acc, State.accWith, hacc]
  · rw [hent.acc, State.accWith, xorBytes_length, hv]
    exact Nat.min_le_right ..
  · rw [hent.acc, hunit h2, State.accWith, hacc, hb]
    rfl
  · rw [hunit h2, hwhole hf]
  · rw [hunit h2, hmerged hf (by rw [hunits.localReadable hc, hr]), hunits.localUnitBytes hc]

/-- The assembly that closes next, closed (R341, R351). -/
theorem assemblyClose_none {close : Bool} (h : s.nextClose = none) : exec (.assemblyClose close) s = .next s := by
  show execAssemblyClose close s = _
  unfold execAssemblyClose
  rw [h]

/-- The parity that a whole stripe is closed with is the sum of its units (R341). -/
theorem stripeParity_whole (h : s.stripeRest stripe = []) : s.stripeParity stripe = (s.stripeAcc stripe).sum := by
  unfold State.stripeParity
  rw [h]
  rfl

/-- What is true of `t` after the assembly `x` of a unit closed in `s` (R341, R351). -/
def AssemblyClosed (s : State) (x : Assembly) (ch stripe : Nat) (close : Bool) (t : State) : Prop :=
  let d := s.dramN - 1
  let p := parityChannel s.dramN stripe
  let acc := s.stripeAcc stripe
  let closed := setBit acc.closed (x.unit % d)
  let whole := x.mask = 2 ^ 64 - 1
  t.ddr.assemblies = s.ddr.assemblies.erase x ∧
    (s.chanState ch ≠ 2 → (whole → t.devUnit ch stripe = x.data) ∧
      (¬whole → s.localReadable ch stripe = true → t.devUnit ch stripe = mergeMask x.mask (s.localUnitBytes ch stripe) x.data)) ∧
    (t.reg 0x5801 3 = if x.mask = 2 ^ 64 - 1 then s.reg 0x5801 3 else wrapAdd64 (s.reg 0x5801 3) 1) ∧
    (s.chanState p = 1 ∨ (close = false ∧ popCount d closed ≠ d) → (t.stripeAcc stripe).closed = closed) ∧
    (s.chanState p ≠ 1 → popCount d closed = d → (sorted s.ddr.stripes = true → lookup t.ddr.stripes stripe = none) ∧
      t.reg 0x5801 1 = wrapAdd64 (s.reg 0x5801 1) 1 ∧
      (s.chanState p = 0 → s.chanState ch = 0 → bitAt acc.closed (x.unit % d) = false → acc.sum.length = 64 →
        t.devUnit p stripe = xorBytes acc.sum (t.devUnit ch stripe))) ∧
    (s.chanState p ≠ 1 → close = true → popCount d closed ≠ d → t.reg 0x5801 2 = wrapAdd64 (s.reg 0x5801 2) 1 ∧
      t.reg 0x5801 4 = wrapAdd64 (s.reg 0x5801 4) (openPositions d closed).length)

section
variable {close : Bool} (hent : UnitEntered s x ch stripe t)
include hent

/-- A stripe that stays open: its parity is held, or not yet due. -/
theorem assemblyClosed_open (hopen : ¬((close = true ∨
      popCount (s.dramN - 1) (setBit (s.stripeAcc stripe).closed (x.unit % (s.dramN - 1))) = s.dramN - 1) ∧ s.chanState (parityChannel s.dramN stripe) ≠ 1)) :
    AssemblyClosed s x ch stripe close t := by
  refine ⟨hent.assemblies, fun h2 => ⟨hent.whole h2, hent.merged h2⟩, hent.count, fun _ => hent.closed, fun hp hpop => ?_, fun hp hcl _ => ?_⟩
  · exact absurd ⟨.inr hpop, hp⟩ hopen
  · exact absurd ⟨.inl hcl, hp⟩ hopen

/-- A stripe whose parity is written. -/
theorem assemblyClosed_closed (hch : ch ≠ parityChannel s.dramN stripe)
    (hdue : close = true ∨ popCount (s.dramN - 1) (setBit (s.stripeAcc stripe).closed (x.unit % (s.dramN - 1))) = s.dramN - 1)
    (hp : s.chanState (parityChannel s.dramN stripe) ≠ 1) : AssemblyClosed s x ch stripe close (t.closeStripe stripe) := by
  have hcl := closeStripe_closed hent.wf hent.sumLength
  obtain ⟨hwhole, hpart, hkept⟩ := stripeRead_reg t stripe
  have hn := hent.map.dramN
  have hp24 := parityChannel_lt24 s stripe
  have hrest : t.stripeRest stripe = (openPositions (s.dramN - 1) (setBit (s.stripeAcc stripe).closed (x.unit % (s.dramN - 1)))).map
      (dataChannel s.dramN stripe) := by rw [State.stripeRest, hn, hent.closed]
  have hunit : (t.closeStripe stripe).devUnit ch stripe = t.devUnit ch stripe := hcl.others ch (by rw [hn]; exact hch)
  refine ⟨hcl.assemblies.trans hent.assemblies, fun h2 => ?_, ?_, fun h => ?_, fun _ hpop => ?_, fun _ _ hpop => ?_⟩
  · rw [hunit]
    exact ⟨hent.whole h2, hent.merged h2⟩
  · rw [hcl.reg _ _ (by omega), hkept _ _ (by omega) (by omega), hent.count]
  · rcases h with h | ⟨hc, hpop⟩
    · exact absurd h hp
    · rcases hdue with hdue | hdue
      · rw [hc] at hdue
        cases hdue
      · exact absurd hdue hpop
  · have hnil : t.stripeRest stripe = [] := by rw [hrest, openPositions_whole hpop, List.map_nil]
    refine ⟨fun hs => ?_, ?_, fun hp0 hc0 hbit hsum => ?_⟩
    · rw [hcl.stripes, lookup_eraseKey_same _ (hent.sorted hs)]
    · rw [hcl.reg _ _ (by omega), hwhole hnil, hent.reg _ _ (by omega) (by omega)]
    · have hpar : t.stripeParity stripe = xorBytes (s.stripeAcc stripe).sum (t.devUnit ch stripe) := by
        rw [stripeParity_whole hnil, hent.sum (by omega) hbit]
      have hstate : t.chanState (parityChannel s.dramN stripe) = s.chanState (parityChannel s.dramN stripe) := hent.reg _ 1 (by omega) (by omega)
      have hwritten := hcl.parity (by rw [hn, hstate, hp0]; decide) (by rw [hpar, xorBytes_length, hsum, devUnit_length]; rfl)
      rw [hn] at hwritten
      rw [hunit, hwritten, hpar]
  · have hne : t.stripeRest stripe ≠ [] := by
      rw [hrest]
      exact fun h => openPositions_open hpop (List.map_eq_nil_iff.1 h)
    obtain ⟨h2, h4⟩ := hpart hne
    rw [hcl.reg _ _ (by omega), h2, hent.reg _ _ (by omega) (by omega), hcl.reg _ _ (by omega), h4, hent.reg _ _ (by omega) (by omega), hrest, List.length_map]
    exact ⟨rfl, rfl⟩

end

/-- An assembly closes: it is written and enters its stripe's accumulator, whose parity is written when the stripe is whole or asked to close. -/
theorem assemblyClose_closes {close : Bool} (hw : dramWf s.dram = true) (hnext : s.nextClose = some x) (hm : s.mapAddr (64 * x.unit) = some (ch, stripe))
    (hone : s.ddr.writers = []) (hprot : 64 * x.unit < s.protSize) (hx : x.data.length = 64) :
    Completes (.assemblyClose close) s (AssemblyClosed s x ch stripe close) := by
  have hc := mapAddr_lt24 hm
  obtain ⟨-, hch⟩ := mapAddr_protected hm hprot
  have hent := unitEntered_spec hc hw hx stripe
  have he := closeAssembly_eq (close := close) hm
  have hstate : (s.unitEntered x ch stripe).chanState (parityChannel s.dramN stripe) = s.chanState (parityChannel s.dramN stripe) :=
    hent.reg _ 1 (by have := parityChannel_lt24 s stripe; omega) (by omega)
  rw [hent.map.dramN, hent.closed, State.writable, hstate] at he
  have hexec : exec (.assemblyClose close) s = .next (s.closeAssembly x close).admitWriters := by
    show execAssemblyClose close s = _
    unfold execAssemblyClose
    rw [hnext]
  generalize s.unitEntered x ch stripe = e at *
  by_cases hdue : (close = true ∨ popCount (s.dramN - 1) (setBit (s.stripeAcc stripe).closed (x.unit % (s.dramN - 1))) = s.dramN - 1) ∧
      s.chanState (parityChannel s.dramN stripe) ≠ 1
  · rw [if_pos (by simpa using hdue)] at he
    have hwriters : (e.closeStripe stripe).ddr.writers = [] := by rw [(closeStripe_closed hent.wf hent.sumLength).writers, hent.writers, hone]
    rw [he, admitWriters_idle hwriters] at hexec
    exact completes_of hexec (assemblyClosed_closed hent hch hdue.1 hdue.2)
  · rw [if_neg (by simpa using hdue)] at he
    rw [he, admitWriters_idle (hent.writers.trans hone)] at hexec
    exact completes_of hexec (assemblyClosed_open hent hdue)

end Sys2Proof.Machine
end

section
/-! Reads and scrubs of DRAM, and what ECC found (chapter 11, R344, R345, R351, R352). -/

set_option Elab.async false

namespace Sys2Proof.Machine

variable {s t : State} {ch u err cls addr : Nat} {v : Bytes}

/-! ### The counts of a channel -/

/-- The entries that an access changes are the counts of ACTs and of row hits. -/
theorem access_reg (s : State) (ch u : Nat) {j b : Nat} (hb : b < 256) (h : j ≠ 0x5810 + ch ∨ b < 7 ∨ 9 < b) : (s.access ch u).reg j b = s.reg j b := by
  have hclose (bank : Nat) : (s.closeRow ch bank).reg j b = s.reg j b := by
    unfold State.closeRow
    dsimp only
    split
    · rfl
    · generalize (if (s.chan ch).owed.contains bank then _ else 0) = n
      split
      · rfl
      · exact (inc64_reg_key _ _ (by simp only [key]; omega)).trans (inc64_reg_key _ _ (by simp only [key]; omega))
  unfold State.access
  dsimp only
  split
  · exact inc64_reg_key _ _ (by simp only [key]; omega)
  · exact (inc64_reg_key _ _ (by simp only [key]; omega)).trans (hclose _)

theorem deviceRead_reg (s : State) (ch u : Nat) {j b : Nat} (hb : b < 256) (h : j ≠ 0x5810 + ch ∨ b < 5 ∨ b = 6 ∨ 9 < b) :
    (s.deviceRead ch u).reg j b = s.reg j b :=
  (inc64_reg_key _ _ (by simp only [key]; omega)).trans (access_reg s ch u hb (by omega))

theorem deviceRead_count (s : State) (ch u : Nat) : (s.deviceRead ch u).reg (0x5810 + ch) 5 = wrapAdd64 (s.reg (0x5810 + ch) 5) 1 := by
  rw [State.deviceRead, inc64_reg_same, access_reg _ _ _ (by omega) (by omega)]

theorem deviceWrite_reg (s : State) (ch u : Nat) (v : Bytes) {j b : Nat} (hb : b < 256) (h : j ≠ 0x5810 + ch ∨ b < 6 ∨ 9 < b) :
    (s.deviceWrite ch u v).reg j b = s.reg j b := by
  by_cases h2 : s.chanState ch = 2
  · rw [State.deviceWrite, if_pos h2]
  · rw [deviceWrite_eq h2]
    exact (inc64_reg_key _ _ (by simp only [key]; omega)).trans (access_reg s ch u hb (by omega))

theorem deviceWrite_count (h : s.chanState ch ≠ 2) (u : Nat) (v : Bytes) :
    (s.deviceWrite ch u v).reg (0x5810 + ch) 6 = wrapAdd64 (s.reg (0x5810 + ch) 6) 1 := by
  rw [deviceWrite_eq h]
  exact (inc64_reg_same ..).trans (by rw [access_reg _ _ _ (by omega) (by omega)])

theorem meterU_reg (s : State) (ch cls : Nat) {j b : Nat} (hb : b < 256) (h : j ≠ 0x5810 + ch ∨ b ≠ 0x0B) : (s.meterU ch cls).reg j b = s.reg j b := by
  unfold State.meterU
  split
  · rfl
  · dsimp only
    generalize (if (s.chan ch).meterWindow = s.time.tclk / 500 then (s.chan ch).meterUnits + 1 else 1) = n
    split
    · exact inc32_reg_key _ _ (by simp only [key]; omega)
    · rfl

theorem rebuildRead_reg (s : State) (ch u : Nat) {b : Nat} (hb : b < 256) :
    (s.rebuildRead ch u).reg 0x5801 b = if b = 5 then wrapAdd64 (s.reg 0x5801 5) 1 else s.reg 0x5801 b := by
  have hreads (b : Nat) (hb : b < 256) : (s.each (s.others ch) (fun c s => s.deviceRead c u)).reg 0x5801 b = s.reg 0x5801 b :=
    each_reg s fun c hc t => deviceRead_reg t c u hb (.inl (by have := others_lt hc; omega))
  unfold State.rebuildRead
  split
  · next h => rw [h, inc64_reg_same, hreads 5 (by omega)]
  · next h => rw [inc64_reg_key _ _ (by simp only [key]; omega), hreads b hb]

theorem readFails_reg (s : State) (ch u : Nat) : (s.readFails ch u).reg 0x5801 6 = satAdd32 (s.reg 0x5801 6) 1 := by
  rw [State.readFails, faultRecord_at, inc32_reg_same]

/-! ### The error threshold (R352) -/

theorem tooManyErrors_of (hs : t.chanState ch = s.chanState ch) (hr : t.reg 0x5800 0x0D = s.reg 0x5800 0x0D) (he : (t.chan ch).errors = (s.chan ch).errors) :
    t.tooManyErrors ch = s.tooManyErrors ch := by
  unfold State.tooManyErrors
  rw [hs, hr, he]

theorem Accessed.tooManyErrors (h : Accessed s t) (hc : ch < 24) : t.tooManyErrors ch = s.tooManyErrors ch :=
  tooManyErrors_of (h.chanState hc) (h.reg _ _ (by omega)) (h.errors ch)

theorem readUnit_few (h : (s.readUnitOnly ch u err).tooManyErrors ch = false) : s.readUnit ch u err = s.readUnitOnly ch u err := by
  unfold State.readUnit
  dsimp only
  rw [h]
  rfl

/-! ### A unit that ECC delivers -/

/-- The state after a unit was read that ECC delivers, corrected or not. -/
def State.readCounted (s : State) (ch u err : Nat) : State :=
  if err = 1 then ((s.deviceRead ch u).inc64 (0x5810 + ch) 2 1).setReg (0x5810 + ch) 4 (64 * u) else s.deviceRead ch u

/-- The entries and the rest of the state after such a read. -/
theorem readCounted_reg (s : State) (ch u err : Nat) {j b : Nat} (hb : b < 256) (h : j ≠ 0x5810 + ch ∨ b ≠ 2 ∧ b ≠ 4) :
    (s.readCounted ch u err).reg j b = (s.deviceRead ch u).reg j b := by
  unfold State.readCounted
  split
  · rw [set_ne]
    exact inc64_reg_key _ _ (by simp only [key]; omega)
  · rfl

theorem readCounted_rest (s : State) (ch u err : Nat) : (s.readCounted ch u err).board = (s.deviceRead ch u).board ∧
    (s.readCounted ch u err).dram = (s.deviceRead ch u).dram ∧ (s.readCounted ch u err).ddr = (s.deviceRead ch u).ddr ∧
    (s.readCounted ch u err).nv = (s.deviceRead ch u).nv := by
  unfold State.readCounted
  split <;> exact ⟨rfl, rfl, rfl, rfl⟩

theorem readUnit_good (hc : ch < 24) (h0 : s.chanState ch = 0) (herr : err < 2) (hbad : s.unitBad ch u = false) (hfew : s.tooManyErrors ch = false) :
    s.readUnit ch u err = s.readCounted ch u err := by
  have hread : Accessed s (s.deviceRead ch u) := accessed_deviceRead hc (accessed_refl s)
  obtain ⟨-, -, hddr, hnv⟩ := readCounted_rest s ch u err
  have honly : s.readUnitOnly ch u err = s.readCounted ch u err := by
    unfold State.readUnitOnly
    dsimp only
    rw [unitDirect_online u h0, if_pos rfl, if_pos (by simp [herr, hbad])]
    rfl
  have hfew' : (s.readCounted ch u err).tooManyErrors ch = false := by
    rw [← hfew, ← hread.tooManyErrors hc]
    exact tooManyErrors_of (readCounted_reg _ _ _ _ (by omega) (by omega)) (readCounted_reg _ _ _ _ (by omega) (by omega))
      (congrArg DramChannel.errors (chan_of (by rw [hddr]) (by rw [hnv]) ch))
  rw [readUnit_few (by rw [honly, hfew']), honly]

/-- What the read of a unit that ECC delivers leaves (R344). -/
structure Delivered (s : State) (ch u err : Nat) (t : State) : Prop where
  map : SameMap s t
  dram : t.dram = s.dram
  bad : t.ddr.bad = s.ddr.bad
  scrub : (t.chan ch).scrub = (s.chan ch).scrub
  reads : t.reg (0x5810 + ch) 5 = wrapAdd64 (s.reg (0x5810 + ch) 5) 1
  kept : t.reg (0x5810 + ch) 6 = s.reg (0x5810 + ch) 6 ∧ t.chanState ch = s.chanState ch
  corrected : err = 1 → t.reg (0x5810 + ch) 2 = wrapAdd64 (s.reg (0x5810 + ch) 2) 1 ∧ t.reg (0x5810 + ch) 4 = 64 * u
  clean : err = 0 → t.reg (0x5810 + ch) 2 = s.reg (0x5810 + ch) 2 ∧ t.reg (0x5810 + ch) 4 = s.reg (0x5810 + ch) 4

theorem readCounted_delivered (hc : ch < 24) (s : State) (u err : Nat) : Delivered s ch u err (s.readCounted ch u err) := by
  have hread : Accessed s (s.deviceRead ch u) := accessed_deviceRead hc (accessed_refl s)
  obtain ⟨hboard, hdram, hddr, hnv⟩ := readCounted_rest s ch u err
  have hreg {j b : Nat} (hb : b < 256) (h : j ≠ 0x5810 + ch ∨ b ≠ 2 ∧ b ≠ 4) := readCounted_reg s ch u err hb h
  have hkept (b : Nat) (hb : b < 5 ∨ b = 6) := deviceRead_reg s ch u (j := 0x5810 + ch) (b := b) (by omega) (by omega)
  refine ⟨⟨hboard.trans hread.board, fun b hb => ?_⟩, hdram.trans hread.dram, by rw [hddr, hread.bad], ?_, ?_, ⟨?_, ?_⟩, fun h1 => ?_, fun h0 => ?_⟩
  · rw [hreg hb (by omega), hread.reg _ _ (by omega)]
  · exact (congrArg DramChannel.scrub (chan_of (by rw [hddr]) (by rw [hnv]) ch)).trans (hread.scrub ch)
  · rw [hreg (by omega) (by omega), deviceRead_count]
  · rw [hreg (by omega) (by omega), hkept 6 (by omega)]
  · rw [State.chanState, hreg (by omega) (by omega), hkept 1 (by omega)]
    rfl
  · rw [State.readCounted, if_pos h1, set_ne, inc64_reg_same, reg_setReg_same, hkept 2 (by omega)]
    exact ⟨rfl, rfl⟩
  · rw [State.readCounted, if_neg (by omega), hkept 2 (by omega), hkept 4 (by omega)]
    exact ⟨rfl, rfl⟩

/-! ### A unit that ECC gives up -/

/-- The state in which an uncorrectable unit is rebuilt and written back, before it is counted (R344). -/
def State.unitRebuilt (s : State) (ch u : Nat) : State :=
  ((((((s.deviceRead ch u).markUnit ch u true).faultStart 5 ch 0 (64 * u)).rebuildRead ch u).deviceWrite ch u (s.xorOthers ch u)).faultDone 5 5 ch 0 (64 * u))

theorem readUnitOnly_rebuilt (h0 : s.chanState ch = 0) (hu : u < s.protUnits) (hr : s.rebuildable ch u = true) :
    s.readUnitOnly ch u 2 = (s.unitRebuilt ch u).countUncorrectable ch u := by
  unfold State.readUnitOnly
  dsimp only
  rw [unitDirect_online u h0, if_pos rfl, if_neg (by simp), hr]
  simp only [hu, decide_true, Bool.and_self, if_true]
  rfl

/-- What a rebuild on a read leaves (R344). -/
structure Rebuilt (s : State) (ch u : Nat) (t : State) : Prop where
  written : UnitsWritten s t
  unit : t.devUnit ch u = s.xorOthers ch u
  good : t.unitBad ch u = false
  rebuilds : t.reg 0x5801 5 = wrapAdd64 (s.reg 0x5801 5) 1

theorem unitRebuilt_rebuilt (hc : ch < 24) (hw : dramWf s.dram = true) (h2 : s.chanState ch ≠ 2) (hd : (s.stripeAcc u).delta.length = 64) :
    Rebuilt s ch u (s.unitRebuilt ch u) := by
  have hread : Accessed s (s.deviceRead ch u) := accessed_deviceRead hc (accessed_refl s)
  have h5 : (s.deviceRead ch u).reg 0x5801 5 = s.reg 0x5801 5 := deviceRead_reg s ch u (by omega) (by omega)
  obtain ⟨v, hv⟩ : ∃ v, v = s.xorOthers ch u := ⟨_, rfl⟩
  have hlen : v.length = 64 := by rw [hv, xorOthers_length ch hd]
  unfold State.unitRebuilt
  rw [← hv]
  generalize s.deviceRead ch u = a at *
  have hstart : Accessed (a.markUnit ch u true) (((a.markUnit ch u true).faultStart 5 ch 0 (64 * u)).rebuildRead ch u) :=
    accessed_rebuildRead (accessed_faultStart (accessed_refl _))
  have h5' : (((a.markUnit ch u true).faultStart 5 ch 0 (64 * u)).rebuildRead ch u).reg 0x5801 5 = wrapAdd64 (s.reg 0x5801 5) 1 := by
    rw [rebuildRead_reg _ _ _ (by omega), if_pos rfl, faultStart_at, ← h5]
    rfl
  have hb : UnitsWritten s (((a.markUnit ch u true).faultStart 5 ch 0 (64 * u)).rebuildRead ch u) :=
    unitsWritten_trans (unitsWritten_trans hread.unitsWritten (unitsWritten_markUnit ..)) hstart.unitsWritten
  have hdram : (((a.markUnit ch u true).faultStart 5 ch 0 (64 * u)).rebuildRead ch u).dram = s.dram := hstart.dram.trans hread.dram
  generalize ((a.markUnit ch u true).faultStart 5 ch 0 (64 * u)).rebuildRead ch u = b at *
  have h2' : b.chanState ch ≠ 2 := by
    rw [State.chanState, hb.reg _ _ (by omega)]
    exact h2
  have hdone : Accessed (b.deviceWrite ch u v) ((b.deviceWrite ch u v).faultDone 5 5 ch 0 (64 * u)) := accessed_faultDone (accessed_refl _)
  refine ⟨unitsWritten_trans hb (unitsWritten_trans (unitsWritten_deviceWrite hc b u v) hdone.unitsWritten), ?_, ?_, ?_⟩
  · rw [hdone.devUnit, deviceWrite_unit hc h2' (by rw [hdram]; exact hw) hlen, hv]
  · rw [hdone.sameUnits.unitBad, deviceWrite_bad h2']
  · rw [faultDone_at, deviceWrite_reg _ _ _ _ (by omega) (by omega), h5']

/-- What the count of an uncorrectable unit leaves (R352). -/
theorem countUncorrectable_spec (s : State) (hc : ch < 24) (u : Nat) : SameMap s (s.countUncorrectable ch u) ∧ (s.countUncorrectable ch u).dram = s.dram ∧
    (s.countUncorrectable ch u).ddr.bad = s.ddr.bad ∧ (s.countUncorrectable ch u).reg (0x5810 + ch) 3 = satAdd32 (s.reg (0x5810 + ch) 3) 1 ∧
    (s.countUncorrectable ch u).reg (0x5810 + ch) 4 = 64 * u ∧ (s.countUncorrectable ch u).chanState ch = s.chanState ch ∧
    (s.countUncorrectable ch u).reg 0x5801 5 = s.reg 0x5801 5 ∧
    ((s.countUncorrectable ch u).chan ch).errors = (s.chan ch).errors.filter (fun t => decide (s.time.tclk - t < 500000)) ++ [s.time.tclk] := by
  obtain ⟨a, ha⟩ : ∃ a, a = (s.inc32 (0x5810 + ch) 3 1).setReg (0x5810 + ch) 4 (64 * u) := ⟨_, rfl⟩
  have hreg {j b : Nat} (hb : b < 256) (h : j ≠ 0x5810 + ch ∨ b ≠ 3 ∧ b ≠ 4) : a.reg j b = s.reg j b := by
    rw [ha, set_ne]
    exact inc32_reg_key _ _ (by simp only [key]; omega)
  have hchan : a.chan ch = s.chan ch := chan_of (by rw [ha]; rfl) (by rw [ha]; rfl) ch
  have htime : a.time = s.time := by rw [ha]; rfl
  have he : s.countUncorrectable ch u = a.modChan ch (fun x => { x with errors := (x.errors.filter (fun t => decide (a.time.tclk - t < 500000))) ++ [a.time.tclk] }) := by
    rw [ha]
    rfl
  have herrors := congrArg DramChannel.errors (chan_modChan_same a ch
    (fun x => { x with errors := (x.errors.filter (fun t => decide (a.time.tclk - t < 500000))) ++ [a.time.tclk] }))
  rw [hchan, htime] at herrors
  rw [he]
  refine ⟨⟨by rw [ha]; rfl, fun b hb => hreg hb (by omega)⟩, by rw [ha]; rfl, by rw [ha]; rfl, ?_, ?_, hreg (by omega) (by omega), hreg (by omega) (by omega),
    by rw [htime]; exact herrors⟩
  · show a.reg _ _ = _
    rw [ha, set_ne, inc32_reg_same]
  · show a.reg _ _ = _
    rw [ha, reg_setReg_same]

/-- The uncorrectable units of the last millisecond (R352). -/
def State.recentErrors (s : State) (ch : Nat) : List Nat := (s.chan ch).errors.filter (fun t => decide (s.time.tclk - t < 500000))

/-- An uncorrectable unit is rebuilt, written back and counted (R344, R352). -/
structure RebuiltCounted (s : State) (ch u : Nat) (t : State) : Prop where
  unit : t.devUnit ch u = s.xorOthers ch u
  good : t.unitBad ch u = false
  rebuilds : t.reg 0x5801 5 = wrapAdd64 (s.reg 0x5801 5) 1
  count : t.reg (0x5810 + ch) 3 = satAdd32 (s.reg (0x5810 + ch) 3) 1
  last : t.reg (0x5810 + ch) 4 = 64 * u
  state : t.chanState ch = s.chanState ch
  map : SameMap s t
  errors : (t.chan ch).errors.length = (s.recentErrors ch).length + 1

theorem readUnitOnly_counted (hc : ch < 24) (hw : dramWf s.dram = true) (h0 : s.chanState ch = 0) (hu : u < s.protUnits)
    (hr : s.rebuildable ch u = true) (hd : (s.stripeAcc u).delta.length = 64) : RebuiltCounted s ch u (s.readUnitOnly ch u 2) := by
  obtain ⟨hwritten, hunit, hgood, hrebuilds⟩ := unitRebuilt_rebuilt hc hw (by omega) hd
  rw [readUnitOnly_rebuilt h0 hu hr]
  generalize s.unitRebuilt ch u = a at *
  obtain ⟨hmap, hdram, hbad, h3, h4, hstate, h5, herrors⟩ := countUncorrectable_spec a hc u
  have hsteady : (a.chan ch).errors = (s.chan ch).errors := by
    have h := congrArg DramChannel.errors (hwritten.chan ch)
    exact h
  refine ⟨?_, ?_, by rw [h5, hrebuilds], ?_, h4, hstate.trans (hwritten.reg _ _ (by omega)), sameMap_trans hwritten.sameMap hmap, ?_⟩
  · rw [hmap.devUnit hdram, hunit]
  · rw [← hgood]
    unfold State.unitBad
    rw [hbad, hmap.deviceKey]
  · rw [h3, hwritten.reg _ _ (by omega)]
  · rw [herrors, hsteady, hwritten.time, List.length_append]
    rfl

/-- An uncorrectable unit below the threshold (R344). -/
theorem readUnit_rebuilt (hc : ch < 24) (hw : dramWf s.dram = true) (h0 : s.chanState ch = 0) (hu : u < s.protUnits)
    (hr : s.rebuildable ch u = true) (hd : (s.stripeAcc u).delta.length = 64) (hfew : (s.recentErrors ch).length + 1 < s.reg 0x5800 0x0D) :
    RebuiltCounted s ch u (s.readUnit ch u 2) := by
  have hdone := readUnitOnly_counted hc hw h0 hu hr hd
  rw [readUnit_few]
  · exact hdone
  · unfold State.tooManyErrors
    rw [hdone.errors, hdone.map.page 0x0D (by omega), Bool.and_eq_false_iff]
    exact .inr (decide_eq_false (by omega))

/-- An uncorrectable unit at the threshold loses its channel (R352). -/
theorem readUnit_lost (hc : ch < s.dramN) (hw : dramWf s.dram = true) (h0 : s.chanState ch = 0) (hu : u < s.protUnits)
    (hr : s.rebuildable ch u = true) (hd : (s.stripeAcc u).delta.length = 64) (hmany : s.reg 0x5800 0x0D ≤ (s.recentErrors ch).length + 1) :
    (s.readUnit ch u 2).chanState ch = 2 ∧ (s.readUnit ch u 2).reg (0x5810 + ch) 0x10 = 1 := by
  have hn := dramN_le s
  have hdone := readUnitOnly_counted (by omega) hw h0 hu hr hd
  unfold State.readUnit
  dsimp only
  generalize s.readUnitOnly ch u 2 = a at *
  have hstate : a.chanState ch ≠ 2 := by
    rw [hdone.state, h0]
    decide
  have htoo : a.tooManyErrors ch = true := by
    unfold State.tooManyErrors
    rw [hdone.errors, hdone.map.page 0x0D (by omega), Bool.and_eq_true]
    exact ⟨decide_eq_true hstate, decide_eq_true hmany⟩
  obtain ⟨hgone, hcause, -⟩ := channelLost_gone (by rw [hdone.map.dramN]; exact hc) hstate 1
  rw [if_pos htoo]
  exact ⟨hgone, hcause⟩

/-! ### A unit of a channel that does not serve -/

/-- A protected unit of an OFFLINE or LOST channel is rebuilt, or its read fails (R344, R351). -/
theorem readUnit_away (hc : ch < 24) (h12 : s.chanState ch = 1 ∨ s.chanState ch = 2) (hu : u < s.protUnits) (hfew : s.tooManyErrors ch = false) (err : Nat) :
    s.readUnit ch u err = if s.rebuildable ch u then s.rebuildRead ch u else s.readFails ch u := by
  have hdirect : s.unitDirect ch u = false := by
    unfold State.unitDirect
    rcases h12 with h | h
    · rw [h]
      exact decide_eq_false (by omega)
    · rw [h]
      rfl
  have honly : s.readUnitOnly ch u err = if s.rebuildable ch u then s.rebuildRead ch u else s.readFails ch u := by
    unfold State.readUnitOnly
    dsimp only
    rw [hdirect, if_neg (by decide), decide_eq_true hu, Bool.true_and]
  have hacc : Accessed s (s.readUnitOnly ch u err) := by
    rw [honly]
    exact ite_ind (accessed_rebuildRead (accessed_refl s)) (accessed_readFails (accessed_refl s))
  rw [readUnit_few (by rw [hacc.tooManyErrors hc, hfew]), honly]

/-! ### DRAM_READ -/

theorem exec_dramRead (hcls : cls < 4) (herr : err < 3) (hm : s.mapAddr addr = some (ch, u)) :
    (s.needsDram (addr / 64 * 64) 64 (addr / 64) = false → exec (.dramRead addr cls err) s = .next s) ∧
    (s.needsDram (addr / 64 * 64) 64 (addr / 64) = true → exec (.dramRead addr cls err) s = .next
      (if (s.meterU ch cls).chanState ch = 1 && decide ((s.meterU ch cls).protUnits ≤ u) then
        (s.meterU ch cls).enqueue ⟨ch, u, none, cls, (s.meterU ch cls).time.tclk⟩ else (s.meterU ch cls).readUnit ch u err)) := by
  have hexec : exec (.dramRead addr cls err) s = execDramRead addr cls err s := rfl
  unfold execDramRead at hexec
  rw [inst_ok (by simp [hcls, herr]), hm] at hexec
  dsimp only at hexec
  refine ⟨fun h => ?_, fun h => ?_⟩
  · rw [hexec, h]
    rfl
  · rw [hexec, h]
    simp only [Bool.not_true, Bool.false_eq_true, if_false]
    split <;> rfl

section
variable (hcls : cls < 4) (herr : err < 3) (hm : s.mapAddr addr = some (ch, u)) (hn : s.needsDram (addr / 64 * 64) 64 (addr / 64) = true)
include hcls herr hm hn

/-- A read of a unit that does not wait is the read of a unit, once it is metered (R344, R348). -/
theorem dramRead_unit (h : s.chanState ch ≠ 1 ∨ u < s.protUnits) : exec (.dramRead addr cls err) s = .next ((s.meterU ch cls).readUnit ch u err) := by
  have hc := mapAddr_lt24 hm
  have hmet := accessed_meterU (cls := cls) hc (accessed_refl s)
  rw [(exec_dramRead hcls herr hm).2 hn, if_neg]
  rw [hmet.chanState hc, hmet.sameMap.protUnits]
  simp
  omega

theorem dramRead_delivered (h0 : s.chanState ch = 0) (h2 : err < 2) (hbad : s.unitBad ch u = false) (hfew : s.tooManyErrors ch = false) :
    Completes (.dramRead addr cls err) s (fun t =>
      t.dram = s.dram ∧ t.ddr.bad = s.ddr.bad ∧ t.reg (0x5810 + ch) 5 = wrapAdd64 (s.reg (0x5810 + ch) 5) 1 ∧
      (err = 1 → t.reg (0x5810 + ch) 2 = wrapAdd64 (s.reg (0x5810 + ch) 2) 1 ∧ t.reg (0x5810 + ch) 4 = 64 * u) ∧
      (err = 0 → t.reg (0x5810 + ch) 2 = s.reg (0x5810 + ch) 2 ∧ t.reg (0x5810 + ch) 4 = s.reg (0x5810 + ch) 4)) := by
  have hc := mapAddr_lt24 hm
  have hmet := accessed_meterU (cls := cls) hc (accessed_refl s)
  have hreg (b : Nat) (hb : b < 10) : (s.meterU ch cls).reg (0x5810 + ch) b = s.reg (0x5810 + ch) b := meterU_reg s ch cls (by omega) (by omega)
  have hread : (s.meterU ch cls).readUnit ch u err = _ :=
    readUnit_good hc ((hmet.chanState hc).trans h0) h2 ((hmet.sameUnits.unitBad ch u).trans hbad) ((hmet.tooManyErrors hc).trans hfew)
  obtain ⟨-, hdram, hbad, -, h5, -, hcorrected, hclean⟩ := readCounted_delivered hc (s.meterU ch cls) u err
  rw [hreg 2 (by omega)] at hcorrected
  rw [hreg 2 (by omega), hreg 4 (by omega)] at hclean
  refine completes_of (dramRead_unit hcls herr hm hn (by omega)) ?_
  rw [hread]
  exact ⟨hdram.trans hmet.dram, hbad.trans hmet.bad, by rw [h5, hreg 5 (by omega)], hcorrected, hclean⟩

theorem dramRead_away (h12 : s.chanState ch = 1 ∨ s.chanState ch = 2) (hu : u < s.protUnits) (hfew : s.tooManyErrors ch = false) :
    Completes (.dramRead addr cls err) s (fun t => t.dram = s.dram ∧
      (s.rebuildable ch u = true → t.reg 0x5801 5 = wrapAdd64 (s.reg 0x5801 5) 1) ∧
      (s.rebuildable ch u = false → t.reg 0x5801 6 = satAdd32 (s.reg 0x5801 6) 1)) := by
  have hc := mapAddr_lt24 hm
  have hmet := accessed_meterU (cls := cls) hc (accessed_refl s)
  have hreg (b : Nat) (hb : b < 10) : (s.meterU ch cls).reg 0x5801 b = s.reg 0x5801 b := meterU_reg s ch cls (by omega) (by omega)
  have hread := readUnit_away (s := s.meterU ch cls) (u := u) hc (by rw [hmet.chanState hc]; exact h12) (by rw [hmet.sameMap.protUnits]; exact hu)
    ((hmet.tooManyErrors hc).trans hfew) err
  rw [hmet.sameUnits.rebuildable] at hread
  refine completes_of (dramRead_unit hcls herr hm hn (.inr hu)) ?_
  cases hr : s.rebuildable ch u with
  | true =>
    rw [hread, hr, if_pos rfl]
    refine ⟨(accessed_rebuildRead hmet).dram, fun _ => ?_, fun h => absurd h (by decide)⟩
    exact (rebuildRead_reg _ ch u (b := 5) (by omega)).trans (by rw [if_pos rfl, hreg 5 (by omega)])
  | false =>
    rw [hread, hr, if_neg (by decide)]
    refine ⟨(accessed_readFails hmet).dram, fun h => absurd h (by decide), fun _ => ?_⟩
    exact (readFails_reg _ ch u).trans (by rw [hreg 6 (by omega)])

/-- An unprotected unit of an OFFLINE channel waits at its controller (R351). -/
theorem dramRead_waits (h1 : s.chanState ch = 1) (hu : s.protUnits ≤ u) :
    Completes (.dramRead addr cls err) s (fun t => t.dram = s.dram ∧ t.ddr.queue = s.ddr.queue ++ [⟨ch, u, none, cls, s.time.tclk⟩]) := by
  have hc := mapAddr_lt24 hm
  have hmet := accessed_meterU (cls := cls) hc (accessed_refl s)
  have hqueue (a : State) (r : DramReq) : (a.enqueue r).dram = a.dram ∧ (a.enqueue r).ddr.queue = a.ddr.queue ++ [r] := by
    unfold State.enqueue State.poolFull
    dsimp only
    split
    · rw [setDdr_dram, setDdr_ddr, countE_dram, countE_ddr]
      exact ⟨rfl, rfl⟩
    · exact ⟨rfl, rfl⟩
  obtain ⟨hdram, hq⟩ := hqueue (s.meterU ch cls) ⟨ch, u, none, cls, (s.meterU ch cls).time.tclk⟩
  refine completes_of ((exec_dramRead hcls herr hm).2 hn) ?_
  rw [if_pos (by rw [hmet.chanState hc, hmet.sameMap.protUnits]; simp [h1, hu])]
  exact ⟨hdram.trans hmet.dram, by rw [hq, hmet.ddr, hmet.time]⟩

end

section
variable (hcls : cls < 4) (hm : s.mapAddr addr = some (ch, u)) (hn : s.needsDram (addr / 64 * 64) 64 (addr / 64) = true) (hw : dramWf s.dram = true)
  (h0 : s.chanState ch = 0) (hu : u < s.protUnits) (hr : s.rebuildable ch u = true) (hd : (s.stripeAcc u).delta.length = 64)
include hcls hm hn hw h0 hu hr hd

theorem dramRead_rebuilt (hfew : (s.recentErrors ch).length + 1 < s.reg 0x5800 0x0D) :
    Completes (.dramRead addr cls 2) s (fun t =>
      t.devUnit ch u = s.xorOthers ch u ∧ t.unitBad ch u = false ∧ t.reg 0x5801 5 = wrapAdd64 (s.reg 0x5801 5) 1 ∧
      t.reg (0x5810 + ch) 3 = satAdd32 (s.reg (0x5810 + ch) 3) 1 ∧ t.reg (0x5810 + ch) 4 = 64 * u ∧ t.chanState ch = 0) := by
  have hc := mapAddr_lt24 hm
  have hmet := accessed_meterU (cls := cls) hc (accessed_refl s)
  have hrecent : (s.meterU ch cls).recentErrors ch = s.recentErrors ch := by rw [State.recentErrors, hmet.errors, hmet.time, State.recentErrors]
  have hdone := readUnit_rebuilt (s := s.meterU ch cls) hc (by rw [hmet.dram]; exact hw) ((hmet.chanState hc).trans h0)
    (by rw [hmet.sameMap.protUnits]; exact hu) ((hmet.sameUnits.rebuildable ch u).trans hr) (by rw [hmet.stripeAcc]; exact hd)
    (by rw [hrecent, hmet.sameMap.page 0x0D (by omega)]; exact hfew)
  refine completes_of (dramRead_unit hcls (by omega) hm hn (.inr hu)) ⟨hdone.unit.trans (hmet.sameUnits.xorOthers ch u), hdone.good, ?_, ?_, hdone.last, ?_⟩
  · rw [hdone.rebuilds, meterU_reg _ _ _ (by omega) (by omega)]
  · rw [hdone.count, meterU_reg _ _ _ (by omega) (by omega)]
  · rw [hdone.state, hmet.chanState hc, h0]

theorem dramRead_lost (hmany : s.reg 0x5800 0x0D ≤ (s.recentErrors ch).length + 1) :
    Completes (.dramRead addr cls 2) s (fun t => t.chanState ch = 2 ∧ t.reg (0x5810 + ch) 0x10 = 1) := by
  have hc := mapAddr_lt24 hm
  have hmet := accessed_meterU (cls := cls) hc (accessed_refl s)
  have hrecent : (s.meterU ch cls).recentErrors ch = s.recentErrors ch := by rw [State.recentErrors, hmet.errors, hmet.time, State.recentErrors]
  exact completes_of (dramRead_unit hcls (by omega) hm hn (.inr hu)) (readUnit_lost (by rw [hmet.sameMap.dramN]; exact mapAddr_channel hm)
    (by rw [hmet.dram]; exact hw) ((hmet.chanState hc).trans h0) (by rw [hmet.sameMap.protUnits]; exact hu) ((hmet.sameUnits.rebuildable ch u).trans hr)
    (by rw [hmet.stripeAcc]; exact hd) (by rw [hrecent, hmet.sameMap.page 0x0D (by omega)]; exact hmany))

end

/-! ### SCRUB_READ (R345) -/

/-- The scrub of a channel moves on to the next unit. -/
def State.scrubbed (s : State) (ch : Nat) : State :=
  s.modChan ch (fun x => { x with scrub := if (s.chan ch).scrub + 1 < unitsPerGib * s.reg 0x5800 3 then (s.chan ch).scrub + 1 else 0 })

theorem scrubbed_chan (s : State) (ch : Nat) : (s.scrubbed ch).chan ch =
    { s.chan ch with scrub := if (s.chan ch).scrub + 1 < unitsPerGib * s.reg 0x5800 3 then (s.chan ch).scrub + 1 else 0 } := chan_modChan_same ..

theorem exec_scrubRead (hc : ch < s.dramN) (hon : s.reg 0x5800 0x0C ≠ 0) (h0 : s.chanState ch = 0) (herr : err < 3) :
    exec (.scrubRead ch err) s = .next (if err = 1 && !s.unitBad ch (s.chan ch).scrub then
      ((s.scrubbed ch).readUnit ch (s.chan ch).scrub err).deviceWrite ch (s.chan ch).scrub (s.devUnit ch (s.chan ch).scrub)
      else (s.scrubbed ch).readUnit ch (s.chan ch).scrub err) := by
  have hn := dramN_le s
  show execScrubRead ch err s = _
  unfold execScrubRead
  rw [inst_ok (by simp [herr]; omega), if_pos (by simp [hon, h0, hc])]
  rfl

/-- A scrub reads the next unit, and writes a corrected one back as it is (R345). -/
theorem scrubRead_scrubs (hw : dramWf s.dram = true) (hc : ch < s.dramN) (hon : s.reg 0x5800 0x0C ≠ 0) (h0 : s.chanState ch = 0)
    (hbad : s.unitBad ch (s.chan ch).scrub = false) (h2 : err < 2) (hfew : s.tooManyErrors ch = false) :
    Completes (.scrubRead ch err) s (fun t =>
      (t.chan ch).scrub = (if (s.chan ch).scrub + 1 < unitsPerGib * s.reg 0x5800 3 then (s.chan ch).scrub + 1 else 0) ∧ t.dram = s.dram ∧
      t.reg (0x5810 + ch) 5 = wrapAdd64 (s.reg (0x5810 + ch) 5) 1 ∧
      (err = 1 → t.reg (0x5810 + ch) 2 = wrapAdd64 (s.reg (0x5810 + ch) 2) 1 ∧ t.reg (0x5810 + ch) 6 = wrapAdd64 (s.reg (0x5810 + ch) 6) 1) ∧
      (err = 0 → t.reg (0x5810 + ch) 6 = s.reg (0x5810 + ch) 6)) := by
  have hn := dramN_le s
  have h24 : ch < 24 := by omega
  have hexec := exec_scrubRead hc hon h0 (err := err) (by omega)
  have hscrub := congrArg DramChannel.scrub (scrubbed_chan s ch)
  have herrors : ((s.scrubbed ch).chan ch).errors = (s.chan ch).errors := by rw [scrubbed_chan]
  have hreg (j b : Nat) : (s.scrubbed ch).reg j b = s.reg j b := rfl
  have hdram : (s.scrubbed ch).dram = s.dram := rfl
  have hmap : SameMap s (s.scrubbed ch) := ⟨rfl, fun _ _ => rfl⟩
  have hbad' : (s.scrubbed ch).unitBad ch (s.chan ch).scrub = false := hbad
  generalize s.scrubbed ch = a at *
  have hread := readUnit_good h24 ((hreg _ _).trans h0) h2 hbad' ((tooManyErrors_of (hreg _ _) (hreg _ _) herrors).trans hfew)
  have hdone := readCounted_delivered h24 a (s.chan ch).scrub err
  rw [hread, hbad, Bool.not_false, Bool.and_true] at hexec
  generalize a.readCounted ch (s.chan ch).scrub err = e at *
  obtain ⟨hkept, hstate⟩ := hdone.kept
  have hes : e.chanState ch ≠ 2 := by
    rw [hstate, State.chanState, hreg]
    rw [State.chanState] at h0
    omega
  by_cases h1 : err = 1
  · obtain ⟨hcorrected, -⟩ := hdone.corrected h1
    have hwrite := unitsWritten_deviceWrite h24 e (s.chan ch).scrub (s.devUnit ch (s.chan ch).scrub)
    have hsteady : ((e.deviceWrite ch (s.chan ch).scrub (s.devUnit ch (s.chan ch).scrub)).chan ch).scrub = (e.chan ch).scrub := by
      have h := congrArg DramChannel.scrub (hwrite.chan ch)
      exact h
    rw [if_pos (decide_eq_true h1)] at hexec
    refine completes_of hexec ⟨?_, ?_, ?_, fun _ => ⟨?_, ?_⟩, fun h => absurd h (by omega)⟩
    · rw [hsteady, hdone.scrub, hscrub]
    · rw [deviceWrite_dram h24 hes, hdone.dram, hdram, hdone.map.deviceKey, hmap.deviceKey]
      exact dramWrite_read hw ..
    · rw [deviceWrite_reg _ _ _ _ (by omega) (by omega), hdone.reads, hreg]
    · rw [deviceWrite_reg _ _ _ _ (by omega) (by omega), hcorrected, hreg]
    · rw [deviceWrite_count hes, hkept, hreg]
  · rw [if_neg (by simpa using h1)] at hexec
    exact completes_of hexec ⟨by rw [hdone.scrub, hscrub], by rw [hdone.dram, hdram], by rw [hdone.reads, hreg], fun h => absurd h h1, fun _ => by rw [hkept, hreg]⟩

end Sys2Proof.Machine
end

section
/-! Refreshes and temperature reads (chapter 11, R346, R349, R358), and the statement about reads, writes and refreshes. -/

set_option Elab.async false

namespace Sys2Proof.Machine

variable {s t : State} {ch rank : Nat}

/-! ### REFRESH_DUE -/

/-- The count of postponed refreshes of a rank takes a value. -/
def State.postpone (s : State) (ch rank n : Nat) : State := s.modChan ch (fun x => { x with postponed := modNth (fun _ => n) x.postponed rank })

theorem postpone_chan (s : State) (ch rank n : Nat) : (s.postpone ch rank n).chan ch =
    { s.chan ch with postponed := modNth (fun _ => n) (s.chan ch).postponed rank } := chan_modChan_same ..

theorem takeDelays_chan (s : State) (ch c : Nat) (b : Bytes) : (s.takeDelays ch b).chan c = s.chan c :=
  chan_of (by rw [takeDelays_ddr]) (by rw [State.takeDelays, setReg_nv, setDom_nv]) c

/-- What the refresh of a rank does to its channel (R346, R358). -/
theorem refresh_chan (hc : ch < 24) (s : State) (rank : Nat) :
    ((s.refresh ch rank).chan ch).rows = (s.chan ch).rows.filter (fun p => bankRank p.1 ≠ rank) ∧
    ((s.refresh ch rank).chan ch).postponed = (s.chan ch).postponed := by
  have hclosed := accessed_closeRows hc s (fun b => bankRank b = rank)
  have hrows := closeRows_rows s ch (fun b => bankRank b = rank)
  have hchan : (s.refresh ch rank).chan ch = { (s.closeRows ch (fun b => bankRank b = rank)).chan ch with
      applyRanks := (s.chan ch).applyRanks.filter (fun r => r ≠ rank) } := by
    unfold State.refresh
    dsimp only
    split
    · rw [takeDelays_chan]
      exact chan_modChan_same ..
    · exact chan_modChan_same ..
  rw [hchan]
  refine ⟨hrows.trans ?_, hclosed.postponed ch⟩
  simp only [decide_not]

/-- The last rank that waits for delays takes them at its refresh (R358). -/
theorem refresh_takes (h : (s.chan ch).applyRanks = [rank]) : (s.refresh ch rank).reg (0x5840 + ch) 4 = field (s.chan ch).applyBlock 6 2 ∧
    (s.refresh ch rank).dom (0x5840 + ch) 1 = (s.chan ch).applyBlock := by
  unfold State.refresh
  dsimp only
  rw [h, if_pos (by simp)]
  exact ⟨takeDelays_margin .., takeDelays_dom ..⟩

theorem exec_refreshDue (hc : ch < s.dramN) (hr : rank < orgRanks (s.reg 0x5800 1)) (h1 : s.chanState ch ≠ 1) (busy : Bool) :
    exec (.refreshDue ch rank busy) s = .next (if busy && decide (nthD 0 (s.chan ch).postponed rank < 4) then
      (s.postpone ch rank (nthD 0 (s.chan ch).postponed rank + 1)).inc32 (0x5810 + ch) 0x0A 1
      else (s.postpone ch rank (if busy then nthD 0 (s.chan ch).postponed rank else 0)).refresh ch rank) := by
  have hn := dramN_le s
  have hranks := orgRanks_cases (s.reg 0x5800 1)
  show execRefreshDue ch rank busy s = _
  unfold execRefreshDue
  rw [inst_ok (by simp; omega), if_pos (by simp [hc, hr, h1])]
  dsimp only
  split <;> rfl

/-- What is true of `t` after a rank of a channel was refreshed in `s`. -/
def State.Refreshed (s : State) (ch rank : Nat) (t : State) : Prop :=
  (t.chan ch).rows = (s.chan ch).rows.filter (fun p => bankRank p.1 ≠ rank) ∧
    ((s.chan ch).applyRanks = [rank] → t.reg (0x5840 + ch) 4 = field (s.chan ch).applyBlock 6 2 ∧ t.dom (0x5840 + ch) 1 = (s.chan ch).applyBlock)

theorem postpone_refreshed (hc : ch < 24) (s : State) (rank n : Nat) : s.Refreshed ch rank ((s.postpone ch rank n).refresh ch rank) := by
  have hchan := postpone_chan s ch rank n
  obtain ⟨hrows, -⟩ := refresh_chan hc (s.postpone ch rank n) rank
  refine ⟨by rw [hrows, hchan], fun h => ?_⟩
  have htakes := refresh_takes (s := s.postpone ch rank n) (by rw [hchan]; exact h)
  rwa [hchan] at htakes

section
variable (hc : ch < s.dramN) (hr : rank < orgRanks (s.reg 0x5800 1)) (h1 : s.chanState ch ≠ 1)
include hc hr h1

/-- A refresh of a rank that nothing waits for (R349). -/
theorem refreshDue_idle : Completes (.refreshDue ch rank false) s (fun t => s.Refreshed ch rank t ∧ nthD 0 (t.chan ch).postponed rank = 0) := by
  have hn := dramN_le s
  have hzero (xs : List Nat) : nthD 0 (modNth (fun _ => 0) xs rank) rank = 0 := by
    by_cases h : rank < xs.length
    · exact nthD_modNth 0 _ xs rank h
    · have hlen := modNth_length' (fun _ => 0) xs rank
      exact List.getD_eq_default _ _ (by omega)
  obtain ⟨-, hpost⟩ := refresh_chan (show ch < 24 by omega) (s.postpone ch rank 0) rank
  refine completes_of (exec_refreshDue hc hr h1 false) ⟨postpone_refreshed (by omega) s rank 0, ?_⟩
  show nthD 0 (((s.postpone ch rank 0).refresh ch rank).chan ch).postponed rank = 0
  rw [hpost, postpone_chan, hzero]

/-- A rank whose refreshes were postponed four times is refreshed, although requests wait (R349). -/
theorem refreshDue_forced (h : nthD 0 (s.chan ch).postponed rank = 4) : Completes (.refreshDue ch rank true) s (s.Refreshed ch rank) := by
  have hn := dramN_le s
  refine completes_of (exec_refreshDue hc hr h1 true) ?_
  rw [if_neg (by simp [h])]
  exact postpone_refreshed (by omega) s rank _

/-- A refresh is postponed while requests wait (R349). -/
theorem refreshDue_postponed (h : nthD 0 (s.chan ch).postponed rank < 4) (hlen : rank < (s.chan ch).postponed.length) :
    Completes (.refreshDue ch rank true) s (fun t =>
      nthD 0 (t.chan ch).postponed rank = nthD 0 (s.chan ch).postponed rank + 1 ∧ (t.chan ch).rows = (s.chan ch).rows ∧
      t.reg (0x5810 + ch) 0x0A = satAdd32 (s.reg (0x5810 + ch) 0x0A) 1) := by
  have hchan := postpone_chan s ch rank (nthD 0 (s.chan ch).postponed rank + 1)
  have hkept (a : State) : (a.inc32 (0x5810 + ch) 0x0A 1).chan ch = a.chan ch := chan_of rfl rfl ch
  refine completes_of (exec_refreshDue hc hr h1 true) ?_
  rw [if_pos (by simp [h]), hkept, hchan]
  exact ⟨nthD_modNth 0 _ _ rank hlen, rfl, inc32_reg_same ..⟩

end

/-! ### MR4_READ -/

theorem mr4Read_reads (hc : ch < s.dramN) (codes : List Nat) (above : Bool) : Completes (.mr4Read ch codes above) s (fun t =>
    t.reg (0x5810 + ch) 0x0C = codes.foldl max 0 % 256 ∧ (t.chan ch).halved = above ∧ t.dram = s.dram) := by
  have hn := dramN_le s
  have hexec : exec (.mr4Read ch codes above) s =
      .next ((s.setReg (0x5810 + ch) 0x0C (codes.foldl max 0 % 256)).modChan ch (fun x => { x with halved := above })) := by
    show execMr4Read ch codes above s = _
    unfold execMr4Read
    rw [inst_ok (decide_eq_true (by omega)), if_pos hc]
  have hchan := chan_modChan_same (s.setReg (0x5810 + ch) 0x0C (codes.foldl max 0 % 256)) ch (fun x => { x with halved := above })
  exact completes_of hexec ⟨reg_setReg_same .., congrArg DramChannel.halved hchan, rfl⟩

/-! ### The statement -/

/-- Settles O44: addresses and device places are one to one; a write merges byte by byte into assemblies; a close is a device write, an accumulator and at most
one parity; a read is an access, a rebuild or a wait; and a refresh closes rows. -/
theorem dramWritesReadsAndRefreshes : Obligations.DramWritesReadsAndRefreshes := by
  unfold Obligations.DramWritesReadsAndRefreshes
  intro s hw
  refine ⟨fun a ha he => mapAddr_unprotected ha he, fun c u hu => localUnit_deviceKey s c hu, fun addr data h => engineWrite_none h,
    fun addr data hd hp hone => ⟨engineWrite_held hd, fun hfull hoff hnone hunit => engineWrite_waits hd hp hone hfull hoff hnone hunit⟩,
    fun close h => assemblyClose_none h, fun close x ch stripe hnext hm hone hprot hx => assemblyClose_closes hw hnext hm hone hprot hx,
    fun addr cls err ch u hcls herr hm => ⟨(exec_dramRead hcls herr hm).1, fun hn => ⟨?_, fun h0 h2 hu hr hd => ?_, ?_, ?_⟩⟩,
    fun ch err hc hon h0 hbad h2 hfew => scrubRead_scrubs hw hc hon h0 hbad h2 hfew,
    fun ch rank hc hr h1 => ⟨refreshDue_idle hc hr h1, refreshDue_forced hc hr h1, refreshDue_postponed hc hr h1⟩,
    fun ch codes above hc => mr4Read_reads hc codes above⟩
  · exact dramRead_delivered hcls herr hm hn
  · subst h2
    exact ⟨dramRead_rebuilt hcls hm hn hw h0 hu hr hd, dramRead_lost hcls hm hn hw h0 hu hr hd⟩
  · exact dramRead_away hcls herr hm hn
  · exact dramRead_waits hcls herr hm hn

end Sys2Proof.Machine
end

section
/-! An index of the fabric fault log that lies past its ring (chapter 12, R382): the statements range over every state, also over those whose entry 5C02h.01
names no slot of the log. -/

set_option Elab.async false

namespace Sys2Proof.Machine

/-! ### The counterexamples -/

/-- A command whose next state fails a test that a property asks for does not complete with that property. -/
theorem not_completes_of_runs {i : Instr} {s : State} {P : State → Prop} (p : State → Bool) (hp : ∀ t, P t → p t = true)
    (hr : Tests.runs i s p = false) : ¬ Completes i s P := by
  rintro ⟨t, ht, hP⟩
  unfold Tests.runs at hr
  rw [ht] at hr
  exact absurd (hp t hP) (by simp [hr])

/-- The machine after reset, but with the index of the fabric fault log (5C02h.01) at `n`: the next record is stored under sub-index 2 + `n`, and so
for `n` past the 16 slots in place of another entry. -/
def logAt (n : Nat) : State := State.reset.setReg 0x5C02 1 n

/-- A read by the management processor of an address that its space does not have (R372). -/
def lostRead : FabReq := ⟨0x200000, 8, false, [], 2, true, 0, 0⟩

/-- Refutes O46, in the clause of a request that reaches no target: with the index of the fault log at 256, the record of the fault is stored where
5C03h.02 counts the faults of its cause. -/
theorem not_requestsOfEveryMaster : ¬ Obligations.RequestsOfEveryMaster := by
  intro h
  obtain ⟨hplain, -⟩ := h (logAt 256) rfl
  obtain ⟨hfail, -⟩ := hplain 0 lostRead rfl rfl
  refine not_completes_of_runs (fun t => decide (t.reg 0x5C03 cDecode = 1)) ?_ (by decide +kernel) (hfail cDecode (by decide +kernel))
  rintro t ⟨⟨-, hcount, -⟩, -⟩
  rw [hcount]
  decide +kernel

/-- Refutes O47, in the clause of a page invalidation by a master with no path to the page: with the index of the fault log at 256, the record of the
fault is stored where 5C03h.02 counts the faults of its cause. -/
theorem not_walksLocksAndInvalidations : ¬ Obligations.WalksLocksAndInvalidations := by
  intro h
  obtain ⟨-, -, -, -, -, hpage⟩ := h (logAt 256)
  refine not_completes_of_runs (fun t => decide (t.reg 0x5C03 cDecode = 1)) ?_ (by decide +kernel)
    ((hpage 0x67 rfl).2 (by decide) rfl (.pageInvAll 0x67) (.inl rfl))
  rintro t ⟨-, hcount⟩
  rw [hcount]
  decide +kernel

/-- Channel 0 is ACTIVE and has fetched a descriptor of zeros, which moves no bytes and so is a bad one (R386); the index of the fault log is at 81,419. -/
def badFetched : State := ((logAt 81419).setReg 0x5D40 3 dmActive).modDma 0 (fun x => { x with fetched := some (zeroBytes 64) })

/-- Refutes O48, in the clause of a bad descriptor: with the index of the fault log at 81,419, the record of the fault is stored where 5D40h.0D shows
the tag of the descriptor. -/
theorem not_descriptorsRun : ¬ Obligations.DescriptorsRun := by
  intro h
  obtain ⟨-, -, -, hfetched, -⟩ := h badFetched 0 (by decide) (by decide +kernel)
  obtain ⟨-, hbad⟩ := hfetched (zeroBytes 64) (by decide +kernel) (by decide +kernel)
  refine not_completes_of_runs (fun t => decide (t.reg 0x5D40 0x0D = 0)) ?_ (by decide +kernel) (hbad (by decide +kernel))
  rintro t ⟨-, -, htag, -⟩
  exact decide_eq_true (htag.trans (by decide +kernel))

/-- Channel 0 is ABORTING with its bursts ended. Its descriptor asks for a status write-back, which no window translates (R375); the index of the
fault log is at 81,416. -/
def abortEnding : State :=
  ((logAt 81416).setReg 0x5D40 3 dmAborting).modDma 0 (fun x => { x with desc := some [0, 0, 0, 0, 2 ^ 56, 0, 0, 0] })

/-- Refutes O49, in the clause of ABORT_COMPLETE: with the index of the fault log at 81,416, the record of the failed write-back is stored where
5D40h.0A shows the cause ABORTED. -/
theorem not_abortsResumesAndMovers : ¬ Obligations.AbortsResumesAndMovers := by
  intro h
  obtain ⟨-, -, hdone, -⟩ := (h abortEnding).1 0 (by decide) (by decide +kernel)
  refine not_completes_of_runs (fun t => decide (t.reg 0x5D40 0x0A = cAborted)) ?_ (by decide +kernel)
    (hdone (by decide +kernel) (by decide +kernel) (by decide +kernel) (by decide +kernel))
  rintro t ⟨-, hcause, -⟩
  exact decide_eq_true hcause

/-- Refutes O51, in the clause of a SET that is not secure: with the index of the fault log at 259, the record of the refused write is stored where
5C03h.05 counts the faults of its cause. -/
theorem not_timebasesFollowTheirCommands : ¬ Obligations.TimebasesFollowTheirCommands := by
  intro h
  obtain ⟨-, -, -, -, -, htb, -⟩ := h (logAt 259)
  obtain ⟨-, -, -, hset⟩ := htb 6 (by decide) (by decide +kernel)
  obtain ⟨-, -, hopen⟩ := hset 0 (.inl rfl)
  refine not_completes_of_runs (fun t => decide (t.reg 0x5C03 cFabSecure = 1)) ?_ (by decide +kernel) (hopen (by decide))
  rintro t ⟨-, hcount⟩
  rw [hcount]
  decide +kernel

end Sys2Proof.Machine
end

section
/-! A second delivery waits behind the one that a consumer takes (chapter 16, R490). -/

set_option Elab.async false

namespace Sys2Proof.Machine

/-! ### The counterexamples -/

/-- A delivery as the router makes it: an event taken by channel 0, with no tick at which the consumer got it. -/
def softDelivery : Delivery := ⟨0, ⟨0x380, 0, 0, 0, 0, 0⟩, 0⟩

/-- At TCLK tick 1 two events have reached an input: one for its consumer, and one behind it. It is now tick 5. -/
def twoDelivered (id : Nat) : State :=
  let at1 := { State.reset with time := { State.reset.time with tclk := 1 } }
  { (at1.deliver id softDelivery).deliver id softDelivery with time := { State.reset.time with tclk := 5 } }

/-- Refutes O55, in the clause of RELAY_EMIT: the event that waited behind the one sent on goes to relay 0 with the tick at which it goes, from which
its own delay counts (R490, R495), so the input does not then hold the delivery as it was queued. -/
theorem not_eventsReachTheirInputs : ¬ Obligations.EventsReachTheirInputs := by
  intro h
  obtain ⟨-, -, -, -, -, -, hrelay, -⟩ := h (twoDelivered 0x400)
  obtain ⟨-, -, hemit⟩ := (hrelay 0 (by decide)).2 { softDelivery with since := 1 } (by decide +kernel)
  refine not_completes_of_runs (fun t => decide ((t.input 0x400).held = ((twoDelivered 0x400).input 0x400).queued)) ?_ (by decide +kernel)
    (hemit (by decide +kernel))
  rintro t ⟨-, hheld, -⟩
  exact decide_eq_true hheld

/-- Refutes O56, in the clause of ALERT_DELIVERY: the event that waited behind the one delivered goes to ball 0 with the tick at which it goes (R490),
so the input does not then hold the delivery as it was queued. -/
theorem not_alertsAndCounters : ¬ Obligations.AlertsAndCounters := by
  intro h
  obtain ⟨-, hdeliver, -⟩ := (h (twoDelivered 0x390)).1 0 (by decide)
  refine not_completes_of_runs (fun t => decide ((t.input 0x390).held = ((twoDelivered 0x390).input 0x390).queued)) ?_ (by decide +kernel)
    (hdeliver (by decide +kernel) (by decide +kernel))
  rintro t ⟨-, hheld, -⟩
  exact decide_eq_true hheld

end Sys2Proof.Machine
end

section
/-! The whole machine: what every command keeps and leaves alone (chapter 95), the step of the front command, and safe runs. -/

set_option Elab.async false

namespace Sys2Proof.Machine

/-! ### The frame of every command -/

theorem Part.mem_all (p : Part) : p ∈ Part.all := by cases p <;> decide

theorem Part.bit_inj {p q : Part} (h : p.bit = q.bit) : p = q := by
  have hall : (Part.all.all fun p => Part.all.all fun q => p.bit != q.bit || decide (p = q)) = true := by decide
  have hq := List.all_eq_true.mp (List.all_eq_true.mp hall p p.mem_all) q q.mem_all
  simpa [h] using hq

/-- The set `m` lies within the set `n` and the parts of a list. -/
def coveredBy (m : Nat) : Nat → List Part → Bool
  | n, [] => Nat.beq (m &&& n) m
  | n, p :: ps => coveredBy m (n ||| 2 ^ p.bit) ps

theorem coveredBy_testBit {m : Nat} {ps : List Part} {p : Part} (hp : p ∉ ps) (n : Nat) (hn : n.testBit p.bit = false)
    (h : coveredBy m n ps = true) : m.testBit p.bit = false := by
  induction ps generalizing n with
  | nil => exact within_bit (Nat.eq_of_beq_eq_true h) hn
  | cons q ps ih =>
    obtain ⟨hne, hps⟩ := not_or.mp (List.mem_cons.not.mp hp)
    have hbit : q.bit ≠ p.bit := fun e => hne (Part.bit_inj e).symm
    exact ih hps _ (by rw [Nat.testBit_or, hn, Nat.testBit_two_pow_of_ne hbit, Bool.or_false]) h

/-- An answer whose changes lie within a set of parts leaves every part outside a list that covers the set. -/
theorem FrR.sameBut {m : Nat} {ps : List Part} {s : State} {r : Result} (h : FrR m s r) (hb : coveredBy m 0 ps = true) :
    ∀ t, r = .next t → s.SameBut ps t :=
  fun t e p hp => (h.fr t e).same p (coveredBy_testBit hp 0 (Nat.zero_testBit _) hb)

theorem lowR_zero {s : State} {r : Result} : LowR 0 s r := ⟨fun _ _ => ⟨fun _ _ hj => absurd hj (Nat.not_lt_zero _)⟩⟩

/-- The frame of a command's answer `r`: what it keeps, the parts `ps` that alone may change, and the bound below which entries read as before. -/
structure Framed (ps : List Part) (lowest : Nat) (s : State) (r : Result) : Prop where
  keeps : KeepsR s r
  parts : ∀ t, r = .next t → s.SameBut ps t
  entries : LowR lowest s r

/-- Every command has the frame that `touches` and `lowestEntry` give it: its meaning's three laws, command by command. -/
theorem exec_framed (i : Instr) (s : State) : Framed (touches i) (lowestEntry i) s (exec i s) := by
  cases i with
  | dictWrite => exact ⟨keeps_execDictWrite (keeps_refl s), (fr_execDictWrite (within_refl _) (fr_refl s)).sameBut rfl, lowR_zero⟩
  | commit => exact ⟨keeps_execCommit (keeps_refl s), (frx_commit (within_refl _)).sameBut rfl, lowx_commit⟩
  | discard => exact ⟨keeps_execDiscard (keeps_refl s), (frx_discard (within_refl _)).sameBut rfl, lowx_discard⟩
  | disarm => exact ⟨keeps_execDisarm (keeps_refl s), (frx_disarm (within_refl _)).sameBut rfl, lowx_disarm⟩
  | epochBoundary => exact ⟨keeps_execEpochBoundary (keeps_refl s), (fr_execEpochBoundary (within_refl _) (fr_refl s)).sameBut rfl, lowR_zero⟩
  | enableWrite => exact ⟨keeps_execEnableWrite (keeps_refl s), (fr_execEnableWrite (within_refl _) (fr_refl s)).sameBut rfl, lowR_zero⟩
  | disableWrite => exact ⟨keeps_execDisableWrite (keeps_refl s), (fr_execDisableWrite (within_refl _) (fr_refl s)).sameBut rfl, lowR_zero⟩
  | enablingComplete => exact ⟨keeps_execEnablingComplete (keeps_refl s), (fr_execEnablingComplete (within_refl _) (fr_refl s)).sameBut rfl, lowR_zero⟩
  | disablingComplete => exact ⟨keeps_execDisablingComplete (keeps_refl s), (fr_execDisablingComplete (within_refl _) (fr_refl s)).sameBut rfl, lowR_zero⟩
  | laneLock => exact ⟨keeps_execLaneLock (keeps_refl s), (fr_execLaneLock (within_refl _) (fr_refl s)).sameBut rfl, low_execLaneLock (Nat.le_of_ble_eq_true rfl) (low_refl s)⟩
  | laneLockTimeout => exact ⟨keeps_execLaneLockTimeout (keeps_refl s), (fr_execLaneLockTimeout (within_refl _) (fr_refl s)).sameBut rfl, low_execLaneLockTimeout (Nat.le_of_ble_eq_true rfl) (low_refl s)⟩
  | clockRecoveryLoss => exact ⟨keeps_execClockRecoveryLoss (keeps_refl s), (fr_execClockRecoveryLoss (within_refl _) (fr_refl s)).sameBut rfl, low_execClockRecoveryLoss (Nat.le_of_ble_eq_true rfl) (low_refl s)⟩
  | sheafFrameRx => exact ⟨keeps_execSheafFrameRx (keeps_refl s), (fr_execSheafFrameRx (within_refl _) (fr_refl s)).sameBut rfl, low_execSheafFrameRx (Nat.le_of_ble_eq_true rfl) (low_refl s)⟩
  | itemRx => exact ⟨keeps_execItemRx (keeps_refl s), (fr_execItemRx (within_refl _) (fr_refl s)).sameBut rfl, low_execItemRx (Nat.le_of_ble_eq_true rfl) (low_refl s)⟩
  | qlRx => exact ⟨keeps_execQlRx (keeps_refl s), (fr_execQlRx (within_refl _) (fr_refl s)).sameBut rfl, low_execQlRx (Nat.le_of_ble_eq_true rfl) (low_refl s)⟩
  | creditRx => exact ⟨keeps_execCreditRx (keeps_refl s), (fr_execCreditRx (within_refl _) (fr_refl s)).sameBut rfl, low_execCreditRx (Nat.le_of_ble_eq_true rfl) (low_refl s)⟩
  | laneMapRx => exact ⟨keeps_execLaneMapRx (keeps_refl s), (fr_execLaneMapRx (within_refl _) (fr_refl s)).sameBut rfl, low_execLaneMapRx (Nat.le_of_ble_eq_true rfl) (low_refl s)⟩
  | laneAckRx => exact ⟨keeps_execLaneAckRx (keeps_refl s), (fr_execLaneAckRx (within_refl _) (fr_refl s)).sameBut rfl, low_execLaneAckRx (Nat.le_of_ble_eq_true rfl) (low_refl s)⟩
  | groupOn => exact ⟨keeps_execGroupOn (keeps_refl s), (fr_execGroupOn (within_refl _) (fr_refl s)).sameBut rfl, lowR_zero⟩
  | rxLaneFail => exact ⟨keeps_execRxLaneFail (keeps_refl s), (fr_execRxLaneFail (within_refl _) (fr_refl s)).sameBut rfl, low_execRxLaneFail (Nat.le_of_ble_eq_true rfl) (low_refl s)⟩
  | laneMapRetry => exact ⟨keeps_execLaneMapRetry (keeps_refl s), (fr_execLaneMapRetry (within_refl _) (fr_refl s)).sameBut rfl, low_execLaneMapRetry (Nat.le_of_ble_eq_true rfl) (low_refl s)⟩
  | txLaneFail => exact ⟨keeps_execTxLaneFail (keeps_refl s), (fr_execTxLaneFail (within_refl _) (fr_refl s)).sameBut rfl, low_execTxLaneFail (Nat.le_of_ble_eq_true rfl) (low_refl s)⟩
  | itemTx => exact ⟨keeps_execItemTx (keeps_refl s), (fr_execItemTx (within_refl _) (fr_refl s)).sameBut rfl, low_execItemTx (Nat.le_of_ble_eq_true rfl) (low_refl s)⟩
  | qlSend => exact ⟨keeps_execQlSend (keeps_refl s), (fr_execQlSend (within_refl _) (fr_refl s)).sameBut rfl, low_execQlSend (low_refl s)⟩
  | prbsInject => exact ⟨keeps_execPrbsInject (keeps_refl s), (frx_prbsInject (within_refl _)).sameBut rfl, lowx_prbsInject⟩
  | sheafCounterClear => exact ⟨keeps_execSheafCounterClear (keeps_refl s), (frx_sheafCounterClear (within_refl _)).sameBut rfl, lowR_zero⟩
  | samplePacketRx => exact ⟨keeps_execSamplePacketRx (keeps_refl s), (fr_execSamplePacketRx (within_refl _) (fr_refl s)).sameBut rfl, low_execSamplePacketRx (Nat.le_of_ble_eq_true rfl) (low_refl s)⟩
  | slabSeal => exact ⟨keeps_execSlabSeal (keeps_refl s), (fr_execSlabSeal (within_refl _) (fr_refl s)).sameBut rfl, low_execSlabSeal (Nat.le_of_ble_eq_true rfl) (low_refl s)⟩
  | windowStart => exact ⟨keeps_execWindowStart (keeps_refl s), (fr_execWindowStart (within_refl _) (fr_refl s)).sameBut rfl, low_execWindowStart (Nat.le_of_ble_eq_true rfl) (low_refl s)⟩
  | loftStepFill => exact ⟨keeps_execLoftStepFill (keeps_refl s), (fr_execLoftStepFill (within_refl _) (fr_refl s)).sameBut rfl, low_execLoftStepFill (Nat.le_of_ble_eq_true rfl) (low_refl s)⟩
  | cribFreeze => exact ⟨keeps_execCribFreeze (keeps_refl s), (fr_execCribFreeze (within_refl _) (fr_refl s)).sameBut rfl, low_execCribFreeze (Nat.le_of_ble_eq_true rfl) (low_refl s)⟩
  | fireTrigger => exact ⟨keeps_execFireTrigger (keeps_refl s), (frx_fireTrigger (within_refl _)).sameBut rfl, lowx_fireTrigger (Nat.le_of_ble_eq_true rfl)⟩
  | pinsTakeEffect => exact ⟨keeps_execPinsTakeEffect (keeps_refl s), (fr_execPinsTakeEffect (within_refl _) (fr_refl s)).sameBut rfl, low_execPinsTakeEffect (Nat.le_of_ble_eq_true rfl) (low_refl s)⟩
  | siloRelease => exact ⟨keeps_execSiloRelease (keeps_refl s), (frx_siloRelease (within_refl _)).sameBut rfl, lowx_siloRelease (Nat.le_of_ble_eq_true rfl)⟩
  | siloReleaseComplete => exact ⟨keeps_execSiloReleaseComplete (keeps_refl s), (fr_execSiloReleaseComplete (within_refl _) (fr_refl s)).sameBut rfl, low_execSiloReleaseComplete (Nat.le_of_ble_eq_true rfl) (low_refl s)⟩
  | readoutStart => exact ⟨keeps_execReadoutStart (keeps_refl s), (frx_readoutStart (within_refl _)).sameBut rfl, lowx_readoutStart (Nat.le_of_ble_eq_true rfl)⟩
  | readoutPacket => exact ⟨keeps_execReadoutPacket (keeps_refl s), (fr_execReadoutPacket (within_refl _) (fr_refl s)).sameBut rfl, low_execReadoutPacket (Nat.le_of_ble_eq_true rfl) (low_refl s)⟩
  | readoutAbort => exact ⟨keeps_execReadoutAbort (keeps_refl s), (frx_readoutAbort (within_refl _)).sameBut rfl, lowx_readoutAbort (Nat.le_of_ble_eq_true rfl)⟩
  | corr4 => exact ⟨keeps_execCorr4 (keeps_refl s), (fr_execCorr4 (within_refl _) (fr_refl s)).sameBut rfl, low_execCorr4 (Nat.le_of_ble_eq_true rfl) (low_refl s)⟩
  | corr8 => exact ⟨keeps_execCorr8 (keeps_refl s), (fr_execCorr8 (within_refl _) (fr_refl s)).sameBut rfl, low_execCorr8 (Nat.le_of_ble_eq_true rfl) (low_refl s)⟩
  | beam4 => exact ⟨keeps_execBeam4 (keeps_refl s), (fr_execBeam4 (within_refl _) (fr_refl s)).sameBut rfl, low_execBeam4 (Nat.le_of_ble_eq_true rfl) (low_refl s)⟩
  | beam8 => exact ⟨keeps_execBeam8 (keeps_refl s), (fr_execBeam8 (within_refl _) (fr_refl s)).sameBut rfl, low_execBeam8 (Nat.le_of_ble_eq_true rfl) (low_refl s)⟩
  | xreg => exact ⟨keeps_execXreg (keeps_refl s), (fr_execXreg (within_refl _) (fr_refl s)).sameBut rfl, low_execXreg (Nat.le_of_ble_eq_true rfl) (low_refl s)⟩
  | zero => exact ⟨keeps_execZero (keeps_refl s), (fr_execZero (within_refl _) (fr_refl s)).sameBut rfl, low_execZero (Nat.le_of_ble_eq_true rfl) (low_refl s)⟩
  | dump => exact ⟨keeps_execDump (keeps_refl s), (fr_execDump (within_refl _) (fr_refl s)).sameBut rfl, low_execDump (Nat.le_of_ble_eq_true rfl) (low_refl s)⟩
  | cutFence => exact ⟨keeps_execCutFence (keeps_refl s), (fr_execCutFence (within_refl _) (fr_refl s)).sameBut rfl, low_execCutFence (Nat.le_of_ble_eq_true rfl) (low_refl s)⟩
  | fencePass => exact ⟨keeps_execFencePass (keeps_refl s), (fr_execFencePass (within_refl _) (fr_refl s)).sameBut rfl, low_execFencePass (Nat.le_of_ble_eq_true rfl) (low_refl s)⟩
  | cutEnd => exact ⟨keeps_execCutEnd (keeps_refl s), (fr_execCutEnd (within_refl _) (fr_refl s)).sameBut rfl, low_execCutEnd (Nat.le_of_ble_eq_true rfl) (low_refl s)⟩
  | cutWaitStep => exact ⟨keeps_execCutWaitStep (keeps_refl s), (fr_execCutWaitStep (within_refl _) (fr_refl s)).sameBut rfl, low_execCutWaitStep (Nat.le_of_ble_eq_true rfl) (low_refl s)⟩
  | cutJump => exact ⟨keeps_execCutJump (keeps_refl s), (fr_execCutJump (within_refl _) (fr_refl s)).sameBut rfl, low_execCutJump (Nat.le_of_ble_eq_true rfl) (low_refl s)⟩
  | cutIfStep => exact ⟨keeps_execCutIfStep (keeps_refl s), (fr_execCutIfStep (within_refl _) (fr_refl s)).sameBut rfl, low_execCutIfStep (Nat.le_of_ble_eq_true rfl) (low_refl s)⟩
  | cutLoop => exact ⟨keeps_execCutLoop (keeps_refl s), (fr_execCutLoop (within_refl _) (fr_refl s)).sameBut rfl, low_execCutLoop (Nat.le_of_ble_eq_true rfl) (low_refl s)⟩
  | cutEndloop => exact ⟨keeps_execCutEndloop (keeps_refl s), (fr_execCutEndloop (within_refl _) (fr_refl s)).sameBut rfl, low_execCutEndloop (Nat.le_of_ble_eq_true rfl) (low_refl s)⟩
  | cutWaitEvt => exact ⟨keeps_execCutWaitEvt (keeps_refl s), (fr_execCutWaitEvt (within_refl _) (fr_refl s)).sameBut rfl, low_execCutWaitEvt (Nat.le_of_ble_eq_true rfl) (low_refl s)⟩
  | cutEvent => exact ⟨keeps_execCutEvent (keeps_refl s), (fr_execCutEvent (within_refl _) (fr_refl s)).sameBut rfl, low_execCutEvent (Nat.le_of_ble_eq_true rfl) (low_refl s)⟩
  | jigRestart => exact ⟨keeps_execJigRestart (keeps_refl s), (frx_jigRestart (within_refl _)).sameBut rfl, lowx_jigRestart (Nat.le_of_ble_eq_true rfl)⟩
  | workOrderStart => exact ⟨keeps_execWorkOrderStart (keeps_refl s), (fr_execWorkOrderStart (within_refl _) (fr_refl s)).sameBut rfl, low_execWorkOrderStart (Nat.le_of_ble_eq_true rfl) (low_refl s)⟩
  | classUYield => exact ⟨keeps_execClassUYield (keeps_refl s), (fr_execClassUYield (within_refl _) (fr_refl s)).sameBut rfl, low_execClassUYield (Nat.le_of_ble_eq_true rfl) (low_refl s)⟩
  | passOverflow => exact ⟨keeps_execPassOverflow (keeps_refl s), (fr_execPassOverflow (within_refl _) (fr_refl s)).sameBut rfl, low_execPassOverflow (Nat.le_of_ble_eq_true rfl) (low_refl s)⟩
  | passComplete => exact ⟨keeps_execPassComplete (keeps_refl s), (fr_execPassComplete (within_refl _) (fr_refl s)).sameBut rfl, low_execPassComplete (Nat.le_of_ble_eq_true rfl) (low_refl s)⟩
  | foldComplete => exact ⟨keeps_execFoldComplete (keeps_refl s), (fr_execFoldComplete (within_refl _) (fr_refl s)).sameBut rfl, low_execFoldComplete (Nat.le_of_ble_eq_true rfl) (low_refl s)⟩
  | spillComplete => exact ⟨keeps_execSpillComplete (keeps_refl s), (fr_execSpillComplete (within_refl _) (fr_refl s)).sameBut rfl, low_execSpillComplete (Nat.le_of_ble_eq_true rfl) (low_refl s)⟩
  | workOrderComplete => exact ⟨keeps_execWorkOrderComplete (keeps_refl s), (fr_execWorkOrderComplete (within_refl _) (fr_refl s)).sameBut rfl, low_execWorkOrderComplete (Nat.le_of_ble_eq_true rfl) (low_refl s)⟩
  | dumpRecordStaged => exact ⟨keeps_execDumpRecordStaged (keeps_refl s), (fr_execDumpRecordStaged (within_refl _) (fr_refl s)).sameBut rfl, low_execDumpRecordStaged (Nat.le_of_ble_eq_true rfl) (low_refl s)⟩
  | recordFragmentsSend => exact ⟨keeps_execRecordFragmentsSend (keeps_refl s), (fr_execRecordFragmentsSend (within_refl _) (fr_refl s)).sameBut rfl, low_execRecordFragmentsSend (Nat.le_of_ble_eq_true rfl) (low_refl s)⟩
  | residueMismatch => exact ⟨keeps_execResidueMismatch (keeps_refl s), (fr_execResidueMismatch (within_refl _) (fr_refl s)).sameBut rfl, low_execResidueMismatch (Nat.le_of_ble_eq_true rfl) (low_refl s)⟩
  | tileFail => exact ⟨keeps_execTileFail (keeps_refl s), (fr_execTileFail (within_refl _) (fr_refl s)).sameBut rfl, low_execTileFail (Nat.le_of_ble_eq_true rfl) (low_refl s)⟩
  | reseatComplete => exact ⟨keeps_execReseatComplete (keeps_refl s), (fr_execReseatComplete (within_refl _) (fr_refl s)).sameBut rfl, low_execReseatComplete (Nat.le_of_ble_eq_true rfl) (low_refl s)⟩
  | retest => exact ⟨keeps_execRetest (keeps_refl s), (frx_retest (within_refl _)).sameBut rfl, lowx_retest⟩
  | retestComplete => exact ⟨keeps_execRetestComplete (keeps_refl s), (fr_execRetestComplete (within_refl _) (fr_refl s)).sameBut rfl, low_execRetestComplete (Nat.le_of_ble_eq_true rfl) (low_refl s)⟩
  | weightLoad => exact ⟨keeps_execWeightLoad (keeps_refl s), (fr_execWeightLoad (within_refl _) (fr_refl s)).sameBut rfl, low_execWeightLoad (Nat.le_of_ble_eq_true rfl) (low_refl s)⟩
  | formatRecord => exact ⟨keeps_execFormatRecord (keeps_refl s), (fr_execFormatRecord (within_refl _) (fr_refl s)).sameBut rfl, low_execFormatRecord (Nat.le_of_ble_eq_true rfl) (low_refl s)⟩
  | winnowService => exact ⟨keeps_execWinnowService (keeps_refl s), (fr_execWinnowService (within_refl _) (fr_refl s)).sameBut rfl, low_execWinnowService (Nat.le_of_ble_eq_true rfl) (low_refl s)⟩
  | winnowOutput => exact ⟨keeps_execWinnowOutput (keeps_refl s), (fr_execWinnowOutput (within_refl _) (fr_refl s)).sameBut rfl, low_execWinnowOutput (Nat.le_of_ble_eq_true rfl) (low_refl s)⟩
  | scalerGroupSend => exact ⟨keeps_execScalerGroupSend (keeps_refl s), (fr_execScalerGroupSend (within_refl _) (fr_refl s)).sameBut rfl, low_execScalerGroupSend (Nat.le_of_ble_eq_true rfl) (low_refl s)⟩
  | lineClockEdge => exact ⟨keeps_execLineClockEdge (keeps_refl s), (fr_execLineClockEdge (within_refl _) (fr_refl s)).sameBut rfl, low_execLineClockEdge (Nat.le_of_ble_eq_true rfl) (low_refl s)⟩
  | pixelPacketRx => exact ⟨keeps_execPixelPacketRx (keeps_refl s), (fr_execPixelPacketRx (within_refl _) (fr_refl s)).sameBut rfl, low_execPixelPacketRx (Nat.le_of_ble_eq_true rfl) (low_refl s)⟩
  | stageBLine => exact ⟨keeps_execStageBLine (keeps_refl s), (fr_execStageBLine (within_refl _) (fr_refl s)).sameBut rfl, low_execStageBLine (Nat.le_of_ble_eq_true rfl) (low_refl s)⟩
  | statsRecordFormed => exact ⟨keeps_execStatsRecordFormed (keeps_refl s), (fr_execStatsRecordFormed (within_refl _) (fr_refl s)).sameBut rfl, low_execStatsRecordFormed (Nat.le_of_ble_eq_true rfl) (low_refl s)⟩
  | frameSlotFilled => exact ⟨keeps_execFrameSlotFilled (keeps_refl s), (fr_execFrameSlotFilled (within_refl _) (fr_refl s)).sameBut rfl, low_execFrameSlotFilled (Nat.le_of_ble_eq_true rfl) (low_refl s)⟩
  | frameHold => exact ⟨keeps_execFrameHold (keeps_refl s), (frx_frameHold (within_refl _)).sameBut rfl, lowx_frameHold (Nat.le_of_ble_eq_true rfl)⟩
  | frameSlotRelease => exact ⟨keeps_execFrameSlotRelease (keeps_refl s), (frx_frameSlotRelease (within_refl _)).sameBut rfl, lowx_frameSlotRelease (Nat.le_of_ble_eq_true rfl)⟩
  | stitchedLine => exact ⟨keeps_execStitchedLine (keeps_refl s), (fr_execStitchedLine (within_refl _) (fr_refl s)).sameBut rfl, low_execStitchedLine (Nat.le_of_ble_eq_true rfl) (low_refl s)⟩
  | regReady => exact ⟨keeps_execRegReady (keeps_refl s), (fr_execRegReady (within_refl _) (fr_refl s)).sameBut rfl, low_execRegReady (Nat.le_of_ble_eq_true rfl) (low_refl s)⟩
  | regRecordTake => exact ⟨keeps_execRegRecordTake (keeps_refl s), (fr_execRegRecordTake (within_refl _) (fr_refl s)).sameBut rfl, low_execRegRecordTake (Nat.le_of_ble_eq_true rfl) (low_refl s)⟩
  | doveShift => exact ⟨keeps_execDoveShift (keeps_refl s), (fr_execDoveShift (within_refl _) (fr_refl s)).sameBut rfl, low_execDoveShift (Nat.le_of_ble_eq_true rfl) (low_refl s)⟩
  | clearCorr => exact ⟨keeps_execClearCorr (keeps_refl s), (frx_clearCorr (within_refl _)).sameBut rfl, lowx_clearCorr⟩
  | gleanerLine => exact ⟨keeps_execGleanerLine (keeps_refl s), (fr_execGleanerLine (within_refl _) (fr_refl s)).sameBut rfl, low_execGleanerLine (Nat.le_of_ble_eq_true rfl) (low_refl s)⟩
  | slotANop => exact ⟨keeps_execSlotANop (keeps_refl s), (fr_execSlotANop (within_refl _) (fr_refl s)).sameBut rfl, low_execSlotANop (Nat.le_of_ble_eq_true rfl) (low_refl s)⟩
  | cmul => exact ⟨keeps_execCmul (keeps_refl s), (fr_execCmul (within_refl _) (fr_refl s)).sameBut rfl, low_execCmul (Nat.le_of_ble_eq_true rfl) (low_refl s)⟩
  | cmulj => exact ⟨keeps_execCmulj (keeps_refl s), (fr_execCmulj (within_refl _) (fr_refl s)).sameBut rfl, low_execCmulj (Nat.le_of_ble_eq_true rfl) (low_refl s)⟩
  | cmac => exact ⟨keeps_execCmac (keeps_refl s), (fr_execCmac (within_refl _) (fr_refl s)).sameBut rfl, low_execCmac (Nat.le_of_ble_eq_true rfl) (low_refl s)⟩
  | cmacj => exact ⟨keeps_execCmacj (keeps_refl s), (fr_execCmacj (within_refl _) (fr_refl s)).sameBut rfl, low_execCmacj (Nat.le_of_ble_eq_true rfl) (low_refl s)⟩
  | cmsu => exact ⟨keeps_execCmsu (keeps_refl s), (fr_execCmsu (within_refl _) (fr_refl s)).sameBut rfl, low_execCmsu (Nat.le_of_ble_eq_true rfl) (low_refl s)⟩
  | cmag => exact ⟨keeps_execCmag (keeps_refl s), (fr_execCmag (within_refl _) (fr_refl s)).sameBut rfl, low_execCmag (Nat.le_of_ble_eq_true rfl) (low_refl s)⟩
  | cbfly => exact ⟨keeps_execCbfly (keeps_refl s), (fr_execCbfly (within_refl _) (fr_refl s)).sameBut rfl, low_execCbfly (Nat.le_of_ble_eq_true rfl) (low_refl s)⟩
  | aclr => exact ⟨keeps_execAclr (keeps_refl s), (fr_execAclr (within_refl _) (fr_refl s)).sameBut rfl, low_execAclr (Nat.le_of_ble_eq_true rfl) (low_refl s)⟩
  | mva => exact ⟨keeps_execMva (keeps_refl s), (fr_execMva (within_refl _) (fr_refl s)).sameBut rfl, low_execMva (Nat.le_of_ble_eq_true rfl) (low_refl s)⟩
  | mva2 => exact ⟨keeps_execMva2 (keeps_refl s), (fr_execMva2 (within_refl _) (fr_refl s)).sameBut rfl, low_execMva2 (Nat.le_of_ble_eq_true rfl) (low_refl s)⟩
  | cadd => exact ⟨keeps_execCadd (keeps_refl s), (fr_execCadd (within_refl _) (fr_refl s)).sameBut rfl, low_execCadd (Nat.le_of_ble_eq_true rfl) (low_refl s)⟩
  | csub => exact ⟨keeps_execCsub (keeps_refl s), (fr_execCsub (within_refl _) (fr_refl s)).sameBut rfl, low_execCsub (Nat.le_of_ble_eq_true rfl) (low_refl s)⟩
  | cconj => exact ⟨keeps_execCconj (keeps_refl s), (fr_execCconj (within_refl _) (fr_refl s)).sameBut rfl, low_execCconj (Nat.le_of_ble_eq_true rfl) (low_refl s)⟩
  | bexd => exact ⟨keeps_execBexd (keeps_refl s), (fr_execBexd (within_refl _) (fr_refl s)).sameBut rfl, low_execBexd (Nat.le_of_ble_eq_true rfl) (low_refl s)⟩
  | bexs => exact ⟨keeps_execBexs (keeps_refl s), (fr_execBexs (within_refl _) (fr_refl s)).sameBut rfl, low_execBexs (Nat.le_of_ble_eq_true rfl) (low_refl s)⟩
  | addD => exact ⟨keeps_execAddD (keeps_refl s), (fr_execAddD (within_refl _) (fr_refl s)).sameBut rfl, low_execAddD (Nat.le_of_ble_eq_true rfl) (low_refl s)⟩
  | subD => exact ⟨keeps_execSubD (keeps_refl s), (fr_execSubD (within_refl _) (fr_refl s)).sameBut rfl, low_execSubD (Nat.le_of_ble_eq_true rfl) (low_refl s)⟩
  | andD => exact ⟨keeps_execAndD (keeps_refl s), (fr_execAndD (within_refl _) (fr_refl s)).sameBut rfl, low_execAndD (Nat.le_of_ble_eq_true rfl) (low_refl s)⟩
  | orD => exact ⟨keeps_execOrD (keeps_refl s), (fr_execOrD (within_refl _) (fr_refl s)).sameBut rfl, low_execOrD (Nat.le_of_ble_eq_true rfl) (low_refl s)⟩
  | xorD => exact ⟨keeps_execXorD (keeps_refl s), (fr_execXorD (within_refl _) (fr_refl s)).sameBut rfl, low_execXorD (Nat.le_of_ble_eq_true rfl) (low_refl s)⟩
  | shl => exact ⟨keeps_execShl (keeps_refl s), (fr_execShl (within_refl _) (fr_refl s)).sameBut rfl, low_execShl (Nat.le_of_ble_eq_true rfl) (low_refl s)⟩
  | asr => exact ⟨keeps_execAsr (keeps_refl s), (fr_execAsr (within_refl _) (fr_refl s)).sameBut rfl, low_execAsr (Nat.le_of_ble_eq_true rfl) (low_refl s)⟩
  | lsr => exact ⟨keeps_execLsr (keeps_refl s), (fr_execLsr (within_refl _) (fr_refl s)).sameBut rfl, low_execLsr (Nat.le_of_ble_eq_true rfl) (low_refl s)⟩
  | addi => exact ⟨keeps_execAddi (keeps_refl s), (fr_execAddi (within_refl _) (fr_refl s)).sameBut rfl, low_execAddi (Nat.le_of_ble_eq_true rfl) (low_refl s)⟩
  | movi => exact ⟨keeps_execMovi (keeps_refl s), (fr_execMovi (within_refl _) (fr_refl s)).sameBut rfl, low_execMovi (Nat.le_of_ble_eq_true rfl) (low_refl s)⟩
  | movhi => exact ⟨keeps_execMovhi (keeps_refl s), (fr_execMovhi (within_refl _) (fr_refl s)).sameBut rfl, low_execMovhi (Nat.le_of_ble_eq_true rfl) (low_refl s)⟩
  | cmpD => exact ⟨keeps_execCmpD (keeps_refl s), (fr_execCmpD (within_refl _) (fr_refl s)).sameBut rfl, low_execCmpD (Nat.le_of_ble_eq_true rfl) (low_refl s)⟩
  | mulD => exact ⟨keeps_execMulD (keeps_refl s), (fr_execMulD (within_refl _) (fr_refl s)).sameBut rfl, low_execMulD (Nat.le_of_ble_eq_true rfl) (low_refl s)⟩
  | divD => exact ⟨keeps_execDivD (keeps_refl s), (fr_execDivD (within_refl _) (fr_refl s)).sameBut rfl, low_execDivD (Nat.le_of_ble_eq_true rfl) (low_refl s)⟩
  | movc => exact ⟨keeps_execMovc (keeps_refl s), (fr_execMovc (within_refl _) (fr_refl s)).sameBut rfl, low_execMovc (Nat.le_of_ble_eq_true rfl) (low_refl s)⟩
  | movcw => exact ⟨keeps_execMovcw (keeps_refl s), (fr_execMovcw (within_refl _) (fr_refl s)).sameBut rfl, low_execMovcw (Nat.le_of_ble_eq_true rfl) (low_refl s)⟩
  | movar => exact ⟨keeps_execMovar (keeps_refl s), (fr_execMovar (within_refl _) (fr_refl s)).sameBut rfl, low_execMovar (Nat.le_of_ble_eq_true rfl) (low_refl s)⟩
  | movra => exact ⟨keeps_execMovra (keeps_refl s), (fr_execMovra (within_refl _) (fr_refl s)).sameBut rfl, low_execMovra (Nat.le_of_ble_eq_true rfl) (low_refl s)⟩
  | br => exact ⟨keeps_execBr (keeps_refl s), (fr_execBr (within_refl _) (fr_refl s)).sameBut rfl, low_execBr (Nat.le_of_ble_eq_true rfl) (low_refl s)⟩
  | call => exact ⟨keeps_execCall (keeps_refl s), (fr_execCall (within_refl _) (fr_refl s)).sameBut rfl, low_execCall (Nat.le_of_ble_eq_true rfl) (low_refl s)⟩
  | ret => exact ⟨keeps_execRet (keeps_refl s), (fr_execRet (within_refl _) (fr_refl s)).sameBut rfl, low_execRet (Nat.le_of_ble_eq_true rfl) (low_refl s)⟩
  | rti => exact ⟨keeps_execRti (keeps_refl s), (fr_execRti (within_refl _) (fr_refl s)).sameBut rfl, low_execRti (Nat.le_of_ble_eq_true rfl) (low_refl s)⟩
  | rep => exact ⟨keeps_execRep (keeps_refl s), (fr_execRep (within_refl _) (fr_refl s)).sameBut rfl, low_execRep (Nat.le_of_ble_eq_true rfl) (low_refl s)⟩
  | repd => exact ⟨keeps_execRepd (keeps_refl s), (fr_execRepd (within_refl _) (fr_refl s)).sameBut rfl, low_execRepd (Nat.le_of_ble_eq_true rfl) (low_refl s)⟩
  | eidi => exact ⟨keeps_execEidi (keeps_refl s), (fr_execEidi (within_refl _) (fr_refl s)).sameBut rfl, low_execEidi (Nat.le_of_ble_eq_true rfl) (low_refl s)⟩
  | waite => exact ⟨keeps_execWaite (keeps_refl s), (fr_execWaite (within_refl _) (fr_refl s)).sameBut rfl, low_execWaite (Nat.le_of_ble_eq_true rfl) (low_refl s)⟩
  | sige => exact ⟨keeps_execSige (keeps_refl s), (fr_execSige (within_refl _) (fr_refl s)).sameBut rfl, low_execSige (Nat.le_of_ble_eq_true rfl) (low_refl s)⟩
  | trapD => exact ⟨keeps_execTrapD (keeps_refl s), (fr_execTrapD (within_refl _) (fr_refl s)).sameBut rfl, low_execTrapD (Nat.le_of_ble_eq_true rfl) (low_refl s)⟩
  | haltD => exact ⟨keeps_execHaltD (keeps_refl s), (fr_execHaltD (within_refl _) (fr_refl s)).sameBut rfl, low_execHaltD (Nat.le_of_ble_eq_true rfl) (low_refl s)⟩
  | slotBNop => exact ⟨keeps_execSlotBNop (keeps_refl s), (fr_execSlotBNop (within_refl _) (fr_refl s)).sameBut rfl, low_execSlotBNop (Nat.le_of_ble_eq_true rfl) (low_refl s)⟩
  | ld => exact ⟨keeps_execLd (keeps_refl s), (fr_execLd (within_refl _) (fr_refl s)).sameBut rfl, low_execLd (Nat.le_of_ble_eq_true rfl) (low_refl s)⟩
  | ldo => exact ⟨keeps_execLdo (keeps_refl s), (fr_execLdo (within_refl _) (fr_refl s)).sameBut rfl, low_execLdo (Nat.le_of_ble_eq_true rfl) (low_refl s)⟩
  | st => exact ⟨keeps_execSt (keeps_refl s), (fr_execSt (within_refl _) (fr_refl s)).sameBut rfl, low_execSt (Nat.le_of_ble_eq_true rfl) (low_refl s)⟩
  | sto => exact ⟨keeps_execSto (keeps_refl s), (fr_execSto (within_refl _) (fr_refl s)).sameBut rfl, low_execSto (Nat.le_of_ble_eq_true rfl) (low_refl s)⟩
  | ld2 => exact ⟨keeps_execLd2 (keeps_refl s), (fr_execLd2 (within_refl _) (fr_refl s)).sameBut rfl, low_execLd2 (Nat.le_of_ble_eq_true rfl) (low_refl s)⟩
  | st2 => exact ⟨keeps_execSt2 (keeps_refl s), (fr_execSt2 (within_refl _) (fr_refl s)).sameBut rfl, low_execSt2 (Nat.le_of_ble_eq_true rfl) (low_refl s)⟩
  | ldst => exact ⟨keeps_execLdst (keeps_refl s), (fr_execLdst (within_refl _) (fr_refl s)).sameBut rfl, low_execLdst (Nat.le_of_ble_eq_true rfl) (low_refl s)⟩
  | fld => exact ⟨keeps_execFld (keeps_refl s), (fr_execFld (within_refl _) (fr_refl s)).sameBut rfl, low_execFld (Nat.le_of_ble_eq_true rfl) (low_refl s)⟩
  | fst => exact ⟨keeps_execFst (keeps_refl s), (fr_execFst (within_refl _) (fr_refl s)).sameBut rfl, low_execFst (Nat.le_of_ble_eq_true rfl) (low_refl s)⟩
  | amod => exact ⟨keeps_execAmod (keeps_refl s), (fr_execAmod (within_refl _) (fr_refl s)).sameBut rfl, low_execAmod (Nat.le_of_ble_eq_true rfl) (low_refl s)⟩
  | ldai => exact ⟨keeps_execLdai (keeps_refl s), (fr_execLdai (within_refl _) (fr_refl s)).sameBut rfl, low_execLdai (Nat.le_of_ble_eq_true rfl) (low_refl s)⟩
  | farResponse => exact ⟨keeps_execFarResponse (keeps_refl s), (fr_execFarResponse (within_refl _) (fr_refl s)).sameBut rfl, low_execFarResponse (Nat.le_of_ble_eq_true rfl) (low_refl s)⟩
  | farTimeout => exact ⟨keeps_execFarTimeout (keeps_refl s), (fr_execFarTimeout (within_refl _) (fr_refl s)).sameBut rfl, low_execFarTimeout (Nat.le_of_ble_eq_true rfl) (low_refl s)⟩
  | trapEntry => exact ⟨keeps_execTrapEntry (keeps_refl s), (fr_execTrapEntry (within_refl _) (fr_refl s)).sameBut rfl, low_execTrapEntry (Nat.le_of_ble_eq_true rfl) (low_refl s)⟩
  | interruptEntry => exact ⟨keeps_execInterruptEntry (keeps_refl s), (fr_execInterruptEntry (within_refl _) (fr_refl s)).sameBut rfl, low_execInterruptEntry (Nat.le_of_ble_eq_true rfl) (low_refl s)⟩
  | imageApply => exact ⟨keeps_execImageApply (keeps_refl s), (fr_execImageApply (within_refl _) (fr_refl s)).sameBut rfl, low_execImageApply (Nat.le_of_ble_eq_true rfl) (low_refl s)⟩
  | imageLoadComplete => exact ⟨keeps_execImageLoadComplete (keeps_refl s), (fr_execImageLoadComplete (within_refl _) (fr_refl s)).sameBut rfl, low_execImageLoadComplete (Nat.le_of_ble_eq_true rfl) (low_refl s)⟩
  | debugHaltCmd => exact ⟨keeps_execDebugHaltCmd (keeps_refl s), (frx_debugHaltCmd (within_refl _)).sameBut rfl, lowx_debugHaltCmd (Nat.le_of_ble_eq_true rfl)⟩
  | debugResume => exact ⟨keeps_execDebugResume (keeps_refl s), (frx_debugResume (within_refl _)).sameBut rfl, lowx_debugResume (Nat.le_of_ble_eq_true rfl)⟩
  | debugStep => exact ⟨keeps_execDebugStep (keeps_refl s), (frx_debugStep (within_refl _)).sameBut rfl, lowx_debugStep (Nat.le_of_ble_eq_true rfl)⟩
  | breakpointHit => exact ⟨keeps_execBreakpointHit (keeps_refl s), (fr_execBreakpointHit (within_refl _) (fr_refl s)).sameBut rfl, low_execBreakpointHit (Nat.le_of_ble_eq_true rfl) (low_refl s)⟩
  | parityEngineWrite => exact ⟨keeps_execParityEngineWrite (keeps_refl s), (fr_execParityEngineWrite (within_refl _) (fr_refl s)).sameBut rfl, low_execParityEngineWrite (Nat.le_of_ble_eq_true rfl) (low_refl s)⟩
  | assemblyClose => exact ⟨keeps_execAssemblyClose (keeps_refl s), (fr_execAssemblyClose (within_refl _) (fr_refl s)).sameBut rfl, low_execAssemblyClose (Nat.le_of_ble_eq_true rfl) (low_refl s)⟩
  | dramRead => exact ⟨keeps_execDramRead (keeps_refl s), (fr_execDramRead (within_refl _) (fr_refl s)).sameBut rfl, low_execDramRead (Nat.le_of_ble_eq_true rfl) (low_refl s)⟩
  | scrubRead => exact ⟨keeps_execScrubRead (keeps_refl s), (fr_execScrubRead (within_refl _) (fr_refl s)).sameBut rfl, low_execScrubRead (Nat.le_of_ble_eq_true rfl) (low_refl s)⟩
  | refreshDue => exact ⟨keeps_execRefreshDue (keeps_refl s), (fr_execRefreshDue (within_refl _) (fr_refl s)).sameBut rfl, low_execRefreshDue (Nat.le_of_ble_eq_true rfl) (low_refl s)⟩
  | mr4Read => exact ⟨keeps_execMr4Read (keeps_refl s), (fr_execMr4Read (within_refl _) (fr_refl s)).sameBut rfl, low_execMr4Read (Nat.le_of_ble_eq_true rfl) (low_refl s)⟩
  | channelLost => exact ⟨keeps_execChannelLost (keeps_refl s), (fr_execChannelLost (within_refl _) (fr_refl s)).sameBut rfl, low_execChannelLost (Nat.le_of_ble_eq_true rfl) (low_refl s)⟩
  | declareLost => exact ⟨keeps_execDeclareLost (keeps_refl s), (frx_declareLost (within_refl _)).sameBut rfl, lowx_declareLost (Nat.le_of_ble_eq_true rfl)⟩
  | rebuild => exact ⟨keeps_execRebuild (keeps_refl s), (frx_rebuild (within_refl _)).sameBut rfl, lowx_rebuild (Nat.le_of_ble_eq_true rfl)⟩
  | rebuildComplete => exact ⟨keeps_execRebuildComplete (keeps_refl s), (fr_execRebuildComplete (within_refl _) (fr_refl s)).sameBut rfl, low_execRebuildComplete (Nat.le_of_ble_eq_true rfl) (low_refl s)⟩
  | applyDelays => exact ⟨keeps_execApplyDelays (keeps_refl s), (frx_applyDelays (within_refl _)).sameBut rfl, lowx_applyDelays⟩
  | recalibrate => exact ⟨keeps_execRecalibrate (keeps_refl s), (frx_recalibrate (within_refl _)).sameBut rfl, lowx_recalibrate (Nat.le_of_ble_eq_true rfl)⟩
  | recalWindow => exact ⟨keeps_execRecalWindow (keeps_refl s), (fr_execRecalWindow (within_refl _) (fr_refl s)).sameBut rfl, low_execRecalWindow (Nat.le_of_ble_eq_true rfl) (low_refl s)⟩
  | freqChange => exact ⟨keeps_execFreqChange (keeps_refl s), (frx_freqChange (within_refl _)).sameBut rfl, lowx_freqChange (Nat.le_of_ble_eq_true rfl)⟩
  | channelFreqSwitch => exact ⟨keeps_execChannelFreqSwitch (keeps_refl s), (fr_execChannelFreqSwitch (within_refl _) (fr_refl s)).sameBut rfl, low_execChannelFreqSwitch (Nat.le_of_ble_eq_true rfl) (low_refl s)⟩
  | storeDelays => exact ⟨keeps_execStoreDelays (keeps_refl s), (frx_storeDelays (within_refl _)).sameBut rfl, lowR_zero⟩
  | fabricRequest => exact ⟨keeps_execFabricRequest (keeps_refl s), (fr_execFabricRequest (within_refl _) (fr_refl s)).sameBut rfl, low_execFabricRequest (Nat.le_of_ble_eq_true rfl) (low_refl s)⟩
  | pageWalkComplete => exact ⟨keeps_execPageWalkComplete (keeps_refl s), (fr_execPageWalkComplete (within_refl _) (fr_refl s)).sameBut rfl, low_execPageWalkComplete (Nat.le_of_ble_eq_true rfl) (low_refl s)⟩
  | lockBroken => exact ⟨keeps_execLockBroken (keeps_refl s), (fr_execLockBroken (within_refl _) (fr_refl s)).sameBut rfl, low_execLockBroken (Nat.le_of_ble_eq_true rfl) (low_refl s)⟩
  | invWindow => exact ⟨keeps_execInvWindow (keeps_refl s), (frx_invWindow (within_refl _)).sameBut rfl, lowx_invWindow⟩
  | invAll => exact ⟨keeps_execInvAll (keeps_refl s), (frx_invAll (within_refl _)).sameBut rfl, lowx_invAll⟩
  | pageInvWindow => exact ⟨keeps_execPageInvWindow (keeps_refl s), (fr_execPageInvWindow (within_refl _) (fr_refl s)).sameBut rfl, low_execPageInvWindow (Nat.le_of_ble_eq_true rfl) (low_refl s)⟩
  | pageInvAll => exact ⟨keeps_execPageInvAll (keeps_refl s), (fr_execPageInvAll (within_refl _) (fr_refl s)).sameBut rfl, low_execPageInvAll (Nat.le_of_ble_eq_true rfl) (low_refl s)⟩
  | dmaStart => exact ⟨keeps_execDmaStart (keeps_refl s), (frx_dmaStart (within_refl _)).sameBut rfl, lowx_dmaStart (Nat.le_of_ble_eq_true rfl)⟩
  | descriptorFetch => exact ⟨keeps_execDescriptorFetch (keeps_refl s), (fr_execDescriptorFetch (within_refl _) (fr_refl s)).sameBut rfl, low_execDescriptorFetch (Nat.le_of_ble_eq_true rfl) (low_refl s)⟩
  | descriptorComplete => exact ⟨keeps_execDescriptorComplete (keeps_refl s), (fr_execDescriptorComplete (within_refl _) (fr_refl s)).sameBut rfl, low_execDescriptorComplete (Nat.le_of_ble_eq_true rfl) (low_refl s)⟩
  | dmaBeatFault => exact ⟨keeps_execDmaBeatFault (keeps_refl s), (fr_execDmaBeatFault (within_refl _) (fr_refl s)).sameBut rfl, low_execDmaBeatFault (Nat.le_of_ble_eq_true rfl) (low_refl s)⟩
  | dmaAbort => exact ⟨keeps_execDmaAbort (keeps_refl s), (frx_dmaAbort (within_refl _)).sameBut rfl, lowx_dmaAbort (Nat.le_of_ble_eq_true rfl)⟩
  | abortComplete => exact ⟨keeps_execAbortComplete (keeps_refl s), (fr_execAbortComplete (within_refl _) (fr_refl s)).sameBut rfl, low_execAbortComplete (Nat.le_of_ble_eq_true rfl) (low_refl s)⟩
  | dmaResume => exact ⟨keeps_execDmaResume (keeps_refl s), (frx_dmaResume (within_refl _)).sameBut rfl, lowx_dmaResume (Nat.le_of_ble_eq_true rfl)⟩
  | dmaResumeNext => exact ⟨keeps_execDmaResumeNext (keeps_refl s), (frx_dmaResumeNext (within_refl _)).sameBut rfl, lowx_dmaResumeNext (Nat.le_of_ble_eq_true rfl)⟩
  | moverAssign => exact ⟨keeps_execMoverAssign (keeps_refl s), (fr_execMoverAssign (within_refl _) (fr_refl s)).sameBut rfl, low_execMoverAssign (Nat.le_of_ble_eq_true rfl) (low_refl s)⟩
  | qlFrameRx => exact ⟨keeps_execQlFrameRx (keeps_refl s), (fr_execQlFrameRx (within_refl _) (fr_refl s)).sameBut rfl, low_execQlFrameRx (Nat.le_of_ble_eq_true rfl) (low_refl s)⟩
  | qlTimeout => exact ⟨keeps_execQlTimeout (keeps_refl s), (fr_execQlTimeout (within_refl _) (fr_refl s)).sameBut rfl, low_execQlTimeout (Nat.le_of_ble_eq_true rfl) (low_refl s)⟩
  | signalLoss => exact ⟨keeps_execSignalLoss (keeps_refl s), (fr_execSignalLoss (within_refl _) (fr_refl s)).sameBut rfl, low_execSignalLoss (Nat.le_of_ble_eq_true rfl) (low_refl s)⟩
  | monitorWindowEnd => exact ⟨keeps_execMonitorWindowEnd (keeps_refl s), (fr_execMonitorWindowEnd (within_refl _) (fr_refl s)).sameBut rfl, low_execMonitorWindowEnd (Nat.le_of_ble_eq_true rfl) (low_refl s)⟩
  | wtrExpiry => exact ⟨keeps_execWtrExpiry (keeps_refl s), (fr_execWtrExpiry (within_refl _) (fr_refl s)).sameBut rfl, low_execWtrExpiry (Nat.le_of_ble_eq_true rfl) (low_refl s)⟩
  | switchComplete => exact ⟨keeps_execSwitchComplete (keeps_refl s), (fr_execSwitchComplete (within_refl _) (fr_refl s)).sameBut rfl, low_execSwitchComplete (Nat.le_of_ble_eq_true rfl) (low_refl s)⟩
  | refAcquireTimeout => exact ⟨keeps_execRefAcquireTimeout (keeps_refl s), (fr_execRefAcquireTimeout (within_refl _) (fr_refl s)).sameBut rfl, low_execRefAcquireTimeout (Nat.le_of_ble_eq_true rfl) (low_refl s)⟩
  | pps => exact ⟨keeps_execPps (keeps_refl s), (fr_execPps (within_refl _) (fr_refl s)).sameBut rfl, low_execPps (Nat.le_of_ble_eq_true rfl) (low_refl s)⟩
  | scLoad => exact ⟨keeps_execScLoad (keeps_refl s), (frx_scLoad (within_refl _)).sameBut rfl, lowx_scLoad⟩
  | scLoadApply => exact ⟨keeps_execScLoadApply (keeps_refl s), (fr_execScLoadApply (within_refl _) (fr_refl s)).sameBut rfl, low_execScLoadApply (low_refl s)⟩
  | adjust => exact ⟨keeps_execAdjust (keeps_refl s), (frx_adjust (within_refl _)).sameBut rfl, lowx_adjust⟩
  | tbStep => exact ⟨keeps_execTbStep (keeps_refl s), (frx_tbStep (within_refl _)).sameBut rfl, lowx_tbStep (Nat.le_of_ble_eq_true rfl)⟩
  | tbSet => exact ⟨keeps_execTbSet (keeps_refl s), (fr_execTbSet (within_refl _) (fr_refl s)).sameBut rfl, low_execTbSet (Nat.le_of_ble_eq_true rfl) (low_refl s)⟩
  | toutTimeReached => exact ⟨keeps_execToutTimeReached (keeps_refl s), (fr_execToutTimeReached (within_refl _) (fr_refl s)).sameBut rfl, low_execToutTimeReached (Nat.le_of_ble_eq_true rfl) (low_refl s)⟩
  | toutEvent => exact ⟨keeps_execToutEvent (keeps_refl s), (fr_execToutEvent (within_refl _) (fr_refl s)).sameBut rfl, low_execToutEvent (Nat.le_of_ble_eq_true rfl) (low_refl s)⟩
  | toutPulseEnd => exact ⟨keeps_execToutPulseEnd (keeps_refl s), (fr_execToutPulseEnd (within_refl _) (fr_refl s)).sameBut rfl, low_execToutPulseEnd (low_refl s)⟩
  | tinCapture => exact ⟨keeps_execTinCapture (keeps_refl s), (fr_execTinCapture (within_refl _) (fr_refl s)).sameBut rfl, low_execTinCapture (Nat.le_of_ble_eq_true rfl) (low_refl s)⟩
  | ptpEventRx => exact ⟨keeps_execPtpEventRx (keeps_refl s), (fr_execPtpEventRx (within_refl _) (fr_refl s)).sameBut rfl, low_execPtpEventRx (Nat.le_of_ble_eq_true rfl) (low_refl s)⟩
  | ptpMessageTx => exact ⟨keeps_execPtpMessageTx (keeps_refl s), (fr_execPtpMessageTx (within_refl _) (fr_refl s)).sameBut rfl, low_execPtpMessageTx (Nat.le_of_ble_eq_true rfl) (low_refl s)⟩
  | encoderEdge => exact ⟨keeps_execEncoderEdge (keeps_refl s), (fr_execEncoderEdge (within_refl _) (fr_refl s)).sameBut rfl, low_execEncoderEdge (Nat.le_of_ble_eq_true rfl) (low_refl s)⟩
  | hallState => exact ⟨keeps_execHallState (keeps_refl s), (fr_execHallState (within_refl _) (fr_refl s)).sameBut rfl, low_execHallState (Nat.le_of_ble_eq_true rfl) (low_refl s)⟩
  | ssiFrame => exact ⟨keeps_execSsiFrame (keeps_refl s), (fr_execSsiFrame (within_refl _) (fr_refl s)).sameBut rfl, low_execSsiFrame (Nat.le_of_ble_eq_true rfl) (low_refl s)⟩
  | indexEdge => exact ⟨keeps_execIndexEdge (keeps_refl s), (fr_execIndexEdge (within_refl _) (fr_refl s)).sameBut rfl, low_execIndexEdge (Nat.le_of_ble_eq_true rfl) (low_refl s)⟩
  | axisPreset => exact ⟨keeps_execAxisPreset (keeps_refl s), (frx_axisPreset (within_refl _)).sameBut rfl, lowx_axisPreset (Nat.le_of_ble_eq_true rfl)⟩
  | observerUpdate => exact ⟨keeps_execObserverUpdate (keeps_refl s), (fr_execObserverUpdate (within_refl _) (fr_refl s)).sameBut rfl, low_execObserverUpdate (Nat.le_of_ble_eq_true rfl) (low_refl s)⟩
  | standstill => exact ⟨keeps_execStandstill (keeps_refl s), (fr_execStandstill (within_refl _) (fr_refl s)).sameBut rfl, low_execStandstill (Nat.le_of_ble_eq_true rfl) (low_refl s)⟩
  | comparePlace => exact ⟨keeps_execComparePlace (keeps_refl s), (frx_comparePlace (within_refl _)).sameBut rfl, lowx_comparePlace (Nat.le_of_ble_eq_true rfl)⟩
  | markerEntryArrive => exact ⟨keeps_execMarkerEntryArrive (keeps_refl s), (fr_execMarkerEntryArrive (within_refl _) (fr_refl s)).sameBut rfl, low_execMarkerEntryArrive (Nat.le_of_ble_eq_true rfl) (low_refl s)⟩
  | compareClear => exact ⟨keeps_execCompareClear (keeps_refl s), (frx_compareClear (within_refl _)).sameBut rfl, lowx_compareClear (Nat.le_of_ble_eq_true rfl)⟩
  | cmpoutPulseEnd => exact ⟨keeps_execCmpoutPulseEnd (keeps_refl s), (fr_execCmpoutPulseEnd (within_refl _) (fr_refl s)).sameBut rfl, low_execCmpoutPulseEnd (low_refl s)⟩
  | lineEdgeEmit => exact ⟨keeps_execLineEdgeEmit (keeps_refl s), (fr_execLineEdgeEmit (within_refl _) (fr_refl s)).sameBut rfl, low_execLineEdgeEmit (Nat.le_of_ble_eq_true rfl) (low_refl s)⟩
  | timerLineEdge => exact ⟨keeps_execTimerLineEdge (keeps_refl s), (fr_execTimerLineEdge (within_refl _) (fr_refl s)).sameBut rfl, low_execTimerLineEdge (Nat.le_of_ble_eq_true rfl) (low_refl s)⟩
  | ltrigPulse => exact ⟨keeps_execLtrigPulse (keeps_refl s), (fr_execLtrigPulse (within_refl _) (fr_refl s)).sameBut rfl, low_execLtrigPulse (low_refl s)⟩
  | fdpFrameRx => exact ⟨keeps_execFdpFrameRx (keeps_refl s), (fr_execFdpFrameRx (within_refl _) (fr_refl s)).sameBut rfl, lowR_zero⟩
  | fdpOpen => exact ⟨keeps_execFdpOpen (keeps_refl s), (fr_execFdpOpen (within_refl _) (fr_refl s)).sameBut rfl, low_execFdpOpen (Nat.le_of_ble_eq_true rfl) (low_refl s)⟩
  | keyInit => exact ⟨keeps_execKeyInit (keeps_refl s), (fr_execKeyInit (within_refl _) (fr_refl s)).sameBut rfl, low_execKeyInit (Nat.le_of_ble_eq_true rfl) (low_refl s)⟩
  | fdpRequest => exact ⟨keeps_execFdpRequest (keeps_refl s), (fr_execFdpRequest (within_refl _) (fr_refl s)).sameBut rfl, lowR_zero⟩
  | notifyAck => exact ⟨keeps_execNotifyAck (keeps_refl s), (fr_execNotifyAck (within_refl _) (fr_refl s)).sameBut rfl, low_execNotifyAck (Nat.le_of_ble_eq_true rfl) (low_refl s)⟩
  | closeFrame => exact ⟨keeps_execCloseFrame (keeps_refl s), (fr_execCloseFrame (within_refl _) (fr_refl s)).sameBut rfl, low_execCloseFrame (Nat.le_of_ble_eq_true rfl) (low_refl s)⟩
  | fdpRead => exact ⟨keeps_execFdpRead (keeps_refl s), (fr_execFdpRead (within_refl _) (fr_refl s)).sameBut rfl, lowR_zero⟩
  | fdpWrite => exact ⟨keeps_execFdpWrite (keeps_refl s), (fr_execFdpWrite (within_refl _) (fr_refl s)).sameBut rfl, lowR_zero⟩
  | fdpDescribe => exact ⟨keeps_execFdpDescribe (keeps_refl s), (fr_execFdpDescribe (within_refl _) (fr_refl s)).sameBut rfl, lowR_zero⟩
  | domBegin => exact ⟨keeps_execDomBegin (keeps_refl s), (fr_execDomBegin (within_refl _) (fr_refl s)).sameBut rfl, lowR_zero⟩
  | domSeg => exact ⟨keeps_execDomSeg (keeps_refl s), (fr_execDomSeg (within_refl _) (fr_refl s)).sameBut rfl, lowR_zero⟩
  | domEnd => exact ⟨keeps_execDomEnd (keeps_refl s), (fr_execDomEnd (within_refl _) (fr_refl s)).sameBut rfl, lowR_zero⟩
  | domRead => exact ⟨keeps_execDomRead (keeps_refl s), (fr_execDomRead (within_refl _) (fr_refl s)).sameBut rfl, lowR_zero⟩
  | domCancel => exact ⟨keeps_execDomCancel (keeps_refl s), (fr_execDomCancel (within_refl _) (fr_refl s)).sameBut rfl, lowR_zero⟩
  | transferAbandoned => exact ⟨keeps_execTransferAbandoned (keeps_refl s), (fr_execTransferAbandoned (within_refl _) (fr_refl s)).sameBut rfl, low_execTransferAbandoned (low_refl s)⟩
  | sessionIdleTimeout => exact ⟨keeps_execSessionIdleTimeout (keeps_refl s), (fr_execSessionIdleTimeout (within_refl _) (fr_refl s)).sameBut rfl, low_execSessionIdleTimeout (Nat.le_of_ble_eq_true rfl) (low_refl s)⟩
  | sessionClose => exact ⟨keeps_execSessionClose (keeps_refl s), (frx_sessionClose (within_refl _)).sameBut rfl, lowx_sessionClose (Nat.le_of_ble_eq_true rfl)⟩
  | notifySend => exact ⟨keeps_execNotifySend (keeps_refl s), (fr_execNotifySend (within_refl _) (fr_refl s)).sameBut rfl, low_execNotifySend (Nat.le_of_ble_eq_true rfl) (low_refl s)⟩
  | notifyResend => exact ⟨keeps_execNotifyResend (keeps_refl s), (fr_execNotifyResend (within_refl _) (fr_refl s)).sameBut rfl, low_execNotifyResend (Nat.le_of_ble_eq_true rfl) (low_refl s)⟩
  | keySet => exact ⟨keeps_execKeySet (keeps_refl s), (frx_keySet (within_refl _)).sameBut rfl, lowx_keySet (Nat.le_of_ble_eq_true rfl)⟩
  | debugEnter => exact ⟨keeps_execDebugEnter (keeps_refl s), (frx_debugEnter (within_refl _)).sameBut rfl, lowx_debugEnter (Nat.le_of_ble_eq_true rfl)⟩
  | debugLeave => exact ⟨keeps_execDebugLeave (keeps_refl s), (frx_debugLeave (within_refl _)).sameBut rfl, lowx_debugLeave (Nat.le_of_ble_eq_true rfl)⟩
  | arpRequest => exact ⟨keeps_execArpRequest (keeps_refl s), (fr_execArpRequest (within_refl _) (fr_refl s)).sameBut rfl, low_execArpRequest (Nat.le_of_ble_eq_true rfl) (low_refl s)⟩
  | icmpEcho => exact ⟨keeps_execIcmpEcho (keeps_refl s), (fr_execIcmpEcho (within_refl _) (fr_refl s)).sameBut rfl, low_execIcmpEcho (Nat.le_of_ble_eq_true rfl) (low_refl s)⟩
  | portLinkChange => exact ⟨keeps_execPortLinkChange (keeps_refl s), (fr_execPortLinkChange (within_refl _) (fr_refl s)).sameBut rfl, low_execPortLinkChange (Nat.le_of_ble_eq_true rfl) (low_refl s)⟩
  | eventTake => exact ⟨keeps_execEventTake (keeps_refl s), (fr_execEventTake (within_refl _) (fr_refl s)).sameBut rfl, low_execEventTake (Nat.le_of_ble_eq_true rfl) (low_refl s)⟩
  | consumerTake => exact ⟨keeps_execConsumerTake (keeps_refl s), (fr_execConsumerTake (within_refl _) (fr_refl s)).sameBut rfl, low_execConsumerTake (Nat.le_of_ble_eq_true rfl) (low_refl s)⟩
  | relayEmit => exact ⟨keeps_execRelayEmit (keeps_refl s), (fr_execRelayEmit (within_refl _) (fr_refl s)).sameBut rfl, low_execRelayEmit (Nat.le_of_ble_eq_true rfl) (low_refl s)⟩
  | softEvent => exact ⟨keeps_execSoftEvent (keeps_refl s), (frx_softEvent (within_refl _)).sameBut rfl, lowx_softEvent (Nat.le_of_ble_eq_true rfl)⟩
  | channelAttr => exact ⟨keeps_execChannelAttr (keeps_refl s), (fr_execChannelAttr (within_refl _) (fr_refl s)).sameBut rfl, low_execChannelAttr (Nat.le_of_ble_eq_true rfl) (low_refl s)⟩
  | alertDelivery => exact ⟨keeps_execAlertDelivery (keeps_refl s), (fr_execAlertDelivery (within_refl _) (fr_refl s)).sameBut rfl, low_execAlertDelivery (Nat.le_of_ble_eq_true rfl) (low_refl s)⟩
  | alertPulseEnd => exact ⟨keeps_execAlertPulseEnd (keeps_refl s), (fr_execAlertPulseEnd (within_refl _) (fr_refl s)).sameBut rfl, low_execAlertPulseEnd (Nat.le_of_ble_eq_true rfl) (low_refl s)⟩
  | alertRelease => exact ⟨keeps_execAlertRelease (keeps_refl s), (frx_alertRelease (within_refl _)).sameBut rfl, lowx_alertRelease (Nat.le_of_ble_eq_true rfl)⟩
  | snapshotTime => exact ⟨keeps_execSnapshotTime (keeps_refl s), (fr_execSnapshotTime (within_refl _) (fr_refl s)).sameBut rfl, low_execSnapshotTime (Nat.le_of_ble_eq_true rfl) (low_refl s)⟩
  | snapshotEvent => exact ⟨keeps_execSnapshotEvent (keeps_refl s), (fr_execSnapshotEvent (within_refl _) (fr_refl s)).sameBut rfl, low_execSnapshotEvent (Nat.le_of_ble_eq_true rfl) (low_refl s)⟩
  | snapNow => exact ⟨keeps_execSnapNow (keeps_refl s), (frx_snapNow (within_refl _)).sameBut rfl, lowx_snapNow (Nat.le_of_ble_eq_true rfl)⟩
  | counterClear => exact ⟨keeps_execCounterClear (keeps_refl s), (frx_counterClear (within_refl _)).sameBut rfl, lowx_counterClear (Nat.le_of_ble_eq_true rfl)⟩
  | ovfClear => exact ⟨keeps_execOvfClear (keeps_refl s), (frx_ovfClear (within_refl _)).sameBut rfl, lowx_ovfClear (Nat.le_of_ble_eq_true rfl)⟩
  | counterWrap => exact ⟨keeps_execCounterWrap (keeps_refl s), (fr_execCounterWrap (within_refl _) (fr_refl s)).sameBut rfl, low_execCounterWrap (Nat.le_of_ble_eq_true rfl) (low_refl s)⟩
  | lockstepMismatch => exact ⟨keeps_execLockstepMismatch (keeps_refl s), (fr_execLockstepMismatch (within_refl _) (fr_refl s)).sameBut rfl, low_execLockstepMismatch (Nat.le_of_ble_eq_true rfl) (low_refl s)⟩
  | watchdogExpiry => exact ⟨keeps_execWatchdogExpiry (keeps_refl s), (fr_execWatchdogExpiry (within_refl _) (fr_refl s)).sameBut rfl, low_execWatchdogExpiry (Nat.le_of_ble_eq_true rfl) (low_refl s)⟩
  | failover => exact ⟨keeps_execFailover (keeps_refl s), (frx_failover (within_refl _)).sameBut rfl, lowx_failover (Nat.le_of_ble_eq_true rfl)⟩
  | pairSelftestComplete => exact ⟨keeps_execPairSelftestComplete (keeps_refl s), (fr_execPairSelftestComplete (within_refl _) (fr_refl s)).sameBut rfl, low_execPairSelftestComplete (Nat.le_of_ble_eq_true rfl) (low_refl s)⟩
  | firmwareFlashComplete => exact ⟨keeps_execFirmwareFlashComplete (keeps_refl s), (fr_execFirmwareFlashComplete (within_refl _) (fr_refl s)).sameBut rfl, lowR_zero⟩
  | activate => exact ⟨keeps_execActivate (keeps_refl s), (frx_activate (within_refl _)).sameBut rfl, lowx_activate (Nat.le_of_ble_eq_true rfl)⟩
  | loadingComplete => exact ⟨keeps_execLoadingComplete (keeps_refl s), (fr_execLoadingComplete (within_refl _) (fr_refl s)).sameBut rfl, low_execLoadingComplete (Nat.le_of_ble_eq_true rfl) (low_refl s)⟩
  | handoverComplete => exact ⟨keeps_execHandoverComplete (keeps_refl s), (fr_execHandoverComplete (within_refl _) (fr_refl s)).sameBut rfl, low_execHandoverComplete (Nat.le_of_ble_eq_true rfl) (low_refl s)⟩
  | probationEnd => exact ⟨keeps_execProbationEnd (keeps_refl s), (fr_execProbationEnd (within_refl _) (fr_refl s)).sameBut rfl, lowR_zero⟩
  | keep => exact ⟨keeps_execKeep (keeps_refl s), (frx_keep (within_refl _)).sameBut rfl, lowR_zero⟩
  | keepTimeout => exact ⟨keeps_execKeepTimeout (keeps_refl s), (fr_execKeepTimeout (within_refl _) (fr_refl s)).sameBut rfl, lowR_zero⟩
  | keepEntryComplete => exact ⟨keeps_execKeepEntryComplete (keeps_refl s), (fr_execKeepEntryComplete (within_refl _) (fr_refl s)).sameBut rfl, lowR_zero⟩
  | wake => exact ⟨keeps_execWake (keeps_refl s), (frx_wake (within_refl _)).sameBut rfl, lowx_wake (Nat.le_of_ble_eq_true rfl)⟩
  | keepExitComplete => exact ⟨keeps_execKeepExitComplete (keeps_refl s), (fr_execKeepExitComplete (within_refl _) (fr_refl s)).sameBut rfl, lowR_zero⟩
  | deviceReset => exact ⟨keeps_execDeviceReset (keeps_refl s), (frx_deviceReset (within_refl _)).sameBut rfl, lowR_zero⟩
  | pwrEnFall => exact ⟨keeps_execPwrEnFall (keeps_refl s), (fr_execPwrEnFall (within_refl _) (fr_refl s)).sameBut rfl, lowR_zero⟩
  | pwrEnRise => exact ⟨keeps_execPwrEnRise (keeps_refl s), (fr_execPwrEnRise (within_refl _) (fr_refl s)).sameBut rfl, lowR_zero⟩
  | porstNAssert => exact ⟨keeps_execPorstNAssert (keeps_refl s), (fr_execPorstNAssert (within_refl _) (fr_refl s)).sameBut rfl, lowR_zero⟩
  | porstNRelease => exact ⟨keeps_execPorstNRelease (keeps_refl s), (fr_execPorstNRelease (within_refl _) (fr_refl s)).sameBut rfl, lowR_zero⟩
  | dictionaryReachable => exact ⟨keeps_execDictionaryReachable (keeps_refl s), (fr_execDictionaryReachable (within_refl _) (fr_refl s)).sameBut rfl, low_execDictionaryReachable (Nat.le_of_ble_eq_true rfl) (low_refl s)⟩
  | bootComplete => exact ⟨keeps_execBootComplete (keeps_refl s), (fr_execBootComplete (within_refl _) (fr_refl s)).sameBut rfl, low_execBootComplete (Nat.le_of_ble_eq_true rfl) (low_refl s)⟩
  | housekeepingRound => exact ⟨keeps_execHousekeepingRound (keeps_refl s), (fr_execHousekeepingRound (within_refl _) (fr_refl s)).sameBut rfl, lowR_zero⟩
  | undervoltage => exact ⟨keeps_execUndervoltage (keeps_refl s), (fr_execUndervoltage (within_refl _) (fr_refl s)).sameBut rfl, lowR_zero⟩
  | vaonLow => exact ⟨keeps_execVaonLow (keeps_refl s), (fr_execVaonLow (within_refl _) (fr_refl s)).sameBut rfl, lowR_zero⟩
  | extest => exact ⟨keeps_execExtest (keeps_refl s), (fr_execExtest (within_refl _) (fr_refl s)).sameBut rfl, low_execExtest (low_refl s)⟩
  | idcode => exact ⟨keeps_execIdcode (keeps_refl s), (fr_execIdcode (within_refl _) (fr_refl s)).sameBut rfl, low_execIdcode (low_refl s)⟩
  | samplePreload => exact ⟨keeps_execSamplePreload (keeps_refl s), (fr_execSamplePreload (within_refl _) (fr_refl s)).sameBut rfl, low_execSamplePreload (low_refl s)⟩
  | clamp => exact ⟨keeps_execClamp (keeps_refl s), (fr_execClamp (within_refl _) (fr_refl s)).sameBut rfl, low_execClamp (low_refl s)⟩
  | highz => exact ⟨keeps_execHighz (keeps_refl s), (fr_execHighz (within_refl _) (fr_refl s)).sameBut rfl, low_execHighz (low_refl s)⟩
  | jtagReset => exact ⟨keeps_execJtagReset (keeps_refl s), (fr_execJtagReset (within_refl _) (fr_refl s)).sameBut rfl, lowR_zero⟩
  | bypass => exact ⟨keeps_execBypass (keeps_refl s), (fr_execBypass (within_refl _) (fr_refl s)).sameBut rfl, low_execBypass (low_refl s)⟩
  | prbsReceive => exact ⟨keeps_execPrbsReceive (keeps_refl s), (fr_execPrbsReceive (within_refl _) (fr_refl s)).sameBut rfl, low_execPrbsReceive (Nat.le_of_ble_eq_true rfl) (low_refl s)⟩
  | signalReturn => exact ⟨keeps_execSignalReturn (keeps_refl s), (fr_execSignalReturn (within_refl _) (fr_refl s)).sameBut rfl, low_execSignalReturn (Nat.le_of_ble_eq_true rfl) (low_refl s)⟩

theorem exec_keeps {i : Instr} {s t : State} (h : exec i s = .next t) : s.Keeps t := (exec_framed i s).keeps.keeps t h

/-- Settles O4: the three laws of each meaning, gathered in `exec_framed`. -/
theorem everyCommandFrame : Obligations.EveryCommandFrame :=
  ⟨fun _ _ _ h => exec_keeps h,
   fun i s t h => (exec_framed i s).parts t h,
   fun i s t h j b hj hb he => ((exec_framed i s).entries.low t h).reg j b hj hb he⟩

/-! ### The step, and runs from a safe state -/

theorem step_of_cons {s : State} {i : Instr} {q : List Instr} (h : s.pending = i :: q) : step s = exec i (s.withPending q) := by
  unfold step
  rw [h]

theorem step_of_nil {s : State} (h : s.pending = []) : step s = .next s.tick := by
  unfold step
  rw [h]

/-- Settles O1: the step is by definition the front command's effect. -/
theorem stepRunsFrontCommand : Obligations.StepRunsFrontCommand := fun _ _ _ h => step_of_cons h

/-- What is safe stays safe when a command's frame keeps it, if the queue that is left is well formed. -/
theorem safe_of_keeps {s t : State} (h : s.Keeps t) (hs : s.Safe) : t.Safe :=
  ⟨canonical_of_keeps h hs.1, by unfold State.QueueOk; rw [h.pending]; exact hs.2⟩

/-- The front command of a safe state is well formed, and with the rest of its queue the state is safe still. -/
theorem safe_cons {s : State} {i : Instr} {q : List Instr} (hs : s.Safe) (h : s.pending = i :: q) : i.wf = true ∧ (s.withPending q).Safe := by
  obtain ⟨hc, hq⟩ := hs
  unfold State.QueueOk at hq
  rw [h, List.all_cons, Bool.and_eq_true] at hq
  exact ⟨hq.1, hc, hq.2⟩

/-- A safe state has a next state, safe again and of the same part: its front command is well formed, or a tick passes. -/
theorem step_safe {s : State} (hs : s.Safe) : ∃ t, step s = .next t ∧ t.Safe ∧ t.board = s.board := by
  cases hq : s.pending with
  | nil =>
    have hk : s.Keeps s.tick := keeps_tick (keeps_refl s)
    exact ⟨s.tick, step_of_nil hq, safe_of_keeps hk hs, hk.board⟩
  | cons i q =>
    obtain ⟨hwf, hsafe⟩ := safe_cons hs hq
    obtain ⟨t, ht⟩ := (exec_answers i (s.withPending q)).goes hwf
    exact ⟨t, (step_of_cons hq).trans ht, safe_of_keeps (exec_keeps ht) hsafe, (exec_keeps ht).board⟩

theorem run_succ {M : Host.Core} {n : Nat} {s t : M.State} (h : M.step s = .next t) : M.run (n + 1) s = M.run n t := by
  rw [Host.Core.run, h]

theorem run_safe (n : Nat) {s : State} (hs : s.Safe) : ∃ t, Sys2Proof.core.run n s = .next t ∧ t.Safe ∧ t.board = s.board := by
  induction n generalizing s with
  | zero => exact ⟨s, rfl, hs, rfl⟩
  | succ n ih =>
    obtain ⟨t, hstep, ht, hb⟩ := step_safe hs
    obtain ⟨u, hrun, hu, hbu⟩ := ih ht
    exact ⟨u, (run_succ (M := Sys2Proof.core) hstep).trans hrun, hu, hbu.trans hb⟩

/-- Settles O5: the frame of every command keeps a safe state safe, its well-formed front command never stops, and a run is a row of such steps. -/
theorem everyStepKeepsSafe : Obligations.EveryStepKeepsSafe := by
  refine ⟨fun s t hs h => ?_, fun n s hs => run_safe n hs⟩
  obtain ⟨u, hu, hsafe, -⟩ := step_safe hs
  rw [hu] at h
  cases h
  exact hsafe

end Sys2Proof.Machine
end

section
/-! What leaves on an Ethernet port, and the notifications of a session (chapter 15, R474). -/

set_option Elab.async false

namespace Sys2Proof.Machine

variable {s t : State} {k p : Nat}

/-! ### Sessions -/

theorem sessionOpen_range (h : s.sessionOpen k = true) : 1 ≤ k ∧ k ≤ 8 := by
  unfold State.sessionOpen at h
  simp only [Bool.and_eq_true, decide_eq_true_eq] at h
  exact h.1

theorem session_congr (h : t.dict.sessions = s.dict.sessions) (k : Nat) : t.session k = s.session k := by
  unfold State.session
  rw [h]

theorem session_modSession (f : Session → Session) (h : k - 1 < s.dict.sessions.length) : (s.modSession k f).session k = f (s.session k) :=
  nthD_modNth _ _ _ _ h

theorem setReg_session (i a v k : Nat) : (s.setReg i a v).session k = s.session k := rfl

/-! ### What leaves on a port -/

theorem portSends_lt (h : s.portSends p = true) : p < 2 := by
  unfold State.portSends at h
  simp only [Bool.and_eq_true, decide_eq_true_eq] at h
  exact h.1.1

theorem portSends_congr (h : ∀ j b, j = 0x1010 ∨ j = 0x1011 → b = 2 ∨ b = 4 → t.reg j b = s.reg j b) (p : Nat) : t.portSends p = s.portSends p := by
  unfold State.portSends
  by_cases hp : p < 2
  · rw [h (0x1010 + p) 2 (by omega) (.inl rfl), h (0x1010 + p) 4 (by omega) (.inr rfl)]
  · simp [hp]

theorem portSend_dict (o : Output) : (s.portSend p o).dict = s.dict := by
  unfold State.portSend
  split <;> rfl

theorem portSend_outbox (h : s.portSends p = true) (o : Output) : (s.portSend p o).outbox = s.outbox ++ [o] := by
  unfold State.portSend
  rw [if_pos h]
  rfl

/-- Sending moves no entry but the frame counters of the two ports. -/
theorem portSend_reg (o : Output) {j b : Nat} (hb : b < 256) (hj : j ≠ 0x1010 ∧ j ≠ 0x1011) : (s.portSend p o).reg j b = s.reg j b := by
  unfold State.portSend
  split
  next h =>
    have hp := portSends_lt h
    exact inc64_reg_key _ _ (by simp only [key]; omega)
  · rfl

theorem sendTo_dict (f : Bytes) : (s.sendTo k f).dict = s.dict := portSend_dict _

theorem sendTo_reg (f : Bytes) {j b : Nat} (hb : b < 256) (hj : j ≠ 0x1010 ∧ j ≠ 0x1011) : (s.sendTo k f).reg j b = s.reg j b := portSend_reg _ hb hj

/-- Session `k` is bound to the same peer, over a port in the same state. -/
structure SamePeer (s t : State) (k : Nat) : Prop where
  port : ∀ p, t.portSends p = s.portSends p
  peer : ∀ b, b = 3 ∨ b = 4 ∨ b = 5 → t.reg (0x102F + k) b = s.reg (0x102F + k) b
  outbox : t.outbox = s.outbox

/-- A frame to the controller of a session leaves on its port, for its address. -/
theorem sendTo_outbox (h : SamePeer s t k) (hp : s.portSends (s.reg (0x102F + k) 5) = true) (f : Bytes) :
    (t.sendTo k f).outbox = s.outbox ++ [.udp (s.reg (0x102F + k) 5) (s.reg (0x102F + k) 3) (s.reg (0x102F + k) 4) f] := by
  have hport : t.portSends (t.reg (sessIdx k) 5) = true := by
    rw [show t.reg (sessIdx k) 5 = s.reg (0x102F + k) 5 from h.peer 5 (by simp), h.port, hp]
  unfold State.sendTo
  rw [portSend_outbox hport, h.outbox]
  unfold sessIdx
  rw [h.peer 3 (by simp), h.peer 4 (by simp), h.peer 5 (by simp)]

theorem samePeer_of_regs (h : t.regs = s.regs) (hb : t.board = s.board) (hn : t.nv = s.nv) (ho : t.outbox = s.outbox) : SamePeer s t k :=
  ⟨portSends_congr fun j b _ _ => reg_congr h hb hn j b, fun b _ => reg_congr h hb hn _ b, ho⟩

theorem samePeer_setReg {j b v : Nat} (hb : b < 256) (hj : 0x1012 ≤ j) (h : j ≠ 0x102F + k ∨ b ≠ 3 ∧ b ≠ 4 ∧ b ≠ 5) :
    SamePeer s (s.setReg j b v) k :=
  ⟨portSends_congr fun i a _ _ => set_ne (h := by omega) (hb := by omega), fun a _ => set_ne (hb := by omega) (h := by omega), rfl⟩

theorem samePeer_trans {r : State} (h : SamePeer s t k) (h' : SamePeer t r k) : SamePeer s r k :=
  ⟨fun p => (h'.port p).trans (h.port p), fun b hb => (h'.peer b hb).trans (h.peer b hb), h'.outbox.trans h.outbox⟩

/-! ### Notifications -/

/-- The Karosh's next own SEQ of session `k` (R462). -/
def State.nextSeq (s : State) (k : Nat) : Nat := wrapAdd64 (s.reg (0x102F + k) 7) 1

/-- A session after its next batch has left under a SEQ. -/
def Session.batchLeft (x : Session) (seq : Nat) (rs : List Bytes) : Session :=
  { x with queue := x.queue.drop (if 0 < x.lost then 43 else 44), lost := 0, sent := x.sent ++ [⟨seq, rs, 0⟩] }

/-- The next batch of session `k`, noted as sent. -/
def State.batchNoted (s : State) (k : Nat) : State := (s.nextTx k).modSession k (fun x =>
  { x with queue := x.queue.drop (if 0 < (s.session k).lost then 43 else 44), lost := 0, sent := x.sent ++ [⟨s.nextSeq k, s.notifyBatch k, 0⟩] })

theorem nextTx_seq : (s.nextTx k).reg (0x102F + k) 7 = s.nextSeq k := reg_setReg_same ..

theorem notifySend_eq (s : State) (k : Nat) :
    s.notifySend k = (s.batchNoted k).sendTo k (frameOf 5 k (s.nextSeq k) (s.notifyBatch k).flatten ((s.batchNoted k).session k).key) := by
  unfold State.notifySend State.batchNoted
  dsimp only
  rw [show (s.nextTx k).reg (sessIdx k) 7 = s.nextSeq k from nextTx_seq]

section

variable (hopen : s.sessionOpen k = true) (hlen : k - 1 < s.dict.sessions.length)

include hlen in
theorem batchNoted_session : (s.batchNoted k).session k = (s.session k).batchLeft (s.nextSeq k) (s.notifyBatch k) :=
  session_modSession (s := s.nextTx k) _ hlen

include hopen in
theorem batchNoted_peer : SamePeer s (s.batchNoted k) k := by
  have hk := sessionOpen_range hopen
  have hseq : SamePeer s (s.nextTx k) k := samePeer_setReg (by omega) (by unfold sessIdx; omega) (by unfold sessIdx; omega)
  exact samePeer_trans hseq (samePeer_of_regs rfl rfl rfl rfl)

include hopen hlen in
theorem completes_notifySend (hp : s.portSends (s.reg (0x102F + k) 5) = true) (hq : (s.session k).queue ≠ []) :
    Completes (.notifySend k) s (fun t =>
      t.outbox = s.outbox ++ [.udp (s.reg (0x102F + k) 5) (s.reg (0x102F + k) 3) (s.reg (0x102F + k) 4)
        (frameOf 5 k (s.nextSeq k) (s.notifyBatch k).flatten (s.session k).key)] ∧
      t.reg (0x102F + k) 7 = s.nextSeq k ∧ t.session k = (s.session k).batchLeft (s.nextSeq k) (s.notifyBatch k)) := by
  have hk := sessionOpen_range hopen
  have hrun : exec (.notifySend k) s = .next (s.notifySend k) := by
    show inst (decide (1 ≤ k) && decide (k ≤ 8)) _ = _
    simp [inst, hk, hopen, hq]
  refine completes_of hrun ?_
  rw [notifySend_eq]
  refine ⟨?_, ?_, ?_⟩
  · rw [sendTo_outbox (batchNoted_peer hopen) hp, batchNoted_session hlen]
    rfl
  · rw [sendTo_reg _ (by omega) (by omega)]
    exact nextTx_seq
  · rw [session_congr (congrArg DictState.sessions (sendTo_dict _)), batchNoted_session hlen]

/-- The note of a NOTIFY in session `k` with one more resend. -/
def State.resendNoted (s : State) (k q : Nat) : State :=
  s.modSession k (fun x => { x with sent := x.sent.map (fun m => if m.seq = q then { m with resends := m.resends + 1 } else m) })

theorem exec_notifyResend {q : Nat} (hopen : s.sessionOpen k = true) : exec (.notifyResend k q) s = .next (s.notifyResend k q) := by
  show inst (decide (1 ≤ k) && decide (k ≤ 8)) _ = _
  simp [inst, sessionOpen_range hopen, hopen]

include hopen in
theorem completes_notifyResend_again {q : Nat} {n : NotifyOut} (hp : s.portSends (s.reg (0x102F + k) 5) = true)
    (hn : (s.session k).sent.find? (fun n => n.seq = q) = some n) (h3 : n.resends < 3) :
    Completes (.notifyResend k q) s (fun t => t.outbox = s.outbox ++
      [.udp (s.reg (0x102F + k) 5) (s.reg (0x102F + k) 3) (s.reg (0x102F + k) 4) (frameOf 5 k q n.records.flatten (s.session k).key)]) := by
  have hrun : s.notifyResend k q = (s.resendNoted k q).sendTo k (frameOf 5 k q n.records.flatten (s.session k).key) := by
    unfold State.notifyResend
    rw [hn]
    exact if_pos h3
  refine completes_of (exec_notifyResend hopen) ?_
  rw [hrun]
  exact sendTo_outbox (t := s.resendNoted k q) (samePeer_of_regs rfl rfl rfl rfl) hp _

include hopen hlen in
theorem completes_notifyResend_dropped {q : Nat} {n : NotifyOut} (hn : (s.session k).sent.find? (fun n => n.seq = q) = some n) (h3 : 3 ≤ n.resends) :
    Completes (.notifyResend k q) s (fun t => t.outbox = s.outbox ∧ (t.session k).sent = (s.session k).sent.filter (fun m => m.seq ≠ q)) := by
  have hrun : s.notifyResend k q = s.modSession k (fun x => { x with sent := x.sent.filter (fun m => m.seq ≠ q) }) := by
    unfold State.notifyResend
    rw [hn]
    exact if_neg (by omega)
  refine completes_of (exec_notifyResend hopen) ?_
  rw [hrun]
  exact ⟨rfl, by rw [session_modSession _ hlen]⟩

end

/-! ### Frames of a session -/

/-- A frame of the open session `f.session`, from the peer it is bound to, tagged under its key, while the management processor takes frames. -/
structure Authentic (s : State) (peer : Peer) (f : FdpFrame) : Prop where
  port : peer.port < 2
  ready : s.fdpReady = true
  up : s.portUp peer.port = true
  isOpen : s.sessionOpen f.session = true
  tag : hmac (s.session f.session).key f.covered = f.tag
  boundPort : s.reg (0x102F + f.session) 5 = peer.port
  boundIp : s.reg (0x102F + f.session) 3 = peer.ip
  boundUdp : s.reg (0x102F + f.session) 4 = peer.udp

theorem Authentic.inSession {peer : Peer} {f : FdpFrame} (h : Authentic s peer f) (g : State → State) : s.inSession peer f g = g (s.heard f.session) := by
  unfold State.inSession sessIdx
  rw [if_pos (by simp [h.isOpen, h.tag, h.boundPort, h.boundIp, h.boundUdp])]

theorem Authentic.onFrame {peer : Peer} {f : FdpFrame} (h : Authentic s peer f) (g : State → State) : s.onFrame peer g = g s :=
  if_pos (by simp [h.ready, h.up])

theorem Authentic.run {peer : Peer} {f : FdpFrame} (h : Authentic s peer f) (g : State → State) :
    inst (decide (peer.port < 2)) (.next (s.onFrame peer g)) = .next (g s) := by
  rw [h.onFrame]
  exact if_pos (decide_eq_true h.port)

/-- An acknowledgement restarts the idle time and ends the resends of the NOTIFY it names. -/
theorem completes_notifyAck {peer : Peer} {f : FdpFrame} (h : Authentic s peer f) (hlen : f.session - 1 < s.dict.sessions.length) :
    Completes (.notifyAck peer f) s (fun t => (t.session f.session).sent = (s.session f.session).sent.filter (fun n => n.seq ≠ f.seq) ∧
      t.reg (0x102F + f.session) 9 = s.reg 0x1038 2) := by
  refine completes_of (h.run _) ?_
  unfold State.rxNotifyAck
  rw [h.inSession]
  refine ⟨?_, reg_setReg_same ..⟩
  exact congrArg Session.sent (session_modSession (s := s.heard f.session) _ hlen)

/-- Settles O14: a batch leaves under the next SEQ and is noted, a noted one leaves again or is dropped, and an acknowledgement ends its resends. -/
theorem notificationsLeaveAndAreAcknowledged : Obligations.NotificationsLeaveAndAreAcknowledged := by
  intro s k hopen hlen hp
  refine ⟨fun hq => ?_, fun q n hn => ⟨completes_notifyResend_again hopen hp hn, completes_notifyResend_dropped hopen hlen hn⟩, ?_⟩
  · obtain ⟨t, ht, hout, hseq, hsess⟩ := completes_notifySend hopen hlen hp hq
    exact ⟨t, ht, hout, hseq, by rw [hsess]; rfl, by rw [hsess]; rfl, by rw [hsess]; rfl⟩
  · rintro peer f hport hready hup rfl htag h5 h3 h4
    exact completes_notifyAck ⟨hport, hready, hup, hopen, htag, h5, h3, h4⟩ hlen

end Sys2Proof.Machine
end

section
/-! The operations of FDP: READ, DESCRIBE and WRITE (chapter 15, R465, R466), and the transfer of a DOMAIN (R472, R473). -/

set_option Elab.async false

namespace Sys2Proof.Machine

variable {s : State} {sess idx sub : Nat}

/-! ### One operation of an open session -/

theorem sessionOp_open (ho : s.sessionOpen sess = true) (o : OpRecord) :
    s.sessionOp sess o = (s.runOp sess o).2.result sess o.op o.idx o.sub (s.runOp sess o).1 := if_pos ho

theorem exec_fdpRead (ho : s.sessionOpen sess = true) : exec (.fdpRead sess idx sub) s = .next (s.result sess 1 idx sub (s.readOp sess idx sub)) :=
  congrArg Host.Outcome.next (sessionOp_open ho _)

theorem exec_fdpDescribe (ho : s.sessionOpen sess = true) :
    exec (.fdpDescribe sess idx sub) s = .next (s.result sess 3 idx sub (s.describeOp sess idx sub)) :=
  congrArg Host.Outcome.next (sessionOp_open ho _)

theorem exec_fdpWrite {data : Bytes} (ho : s.sessionOpen sess = true) : exec (.fdpWrite sess idx sub data) s =
    .next ((s.writeOp sess idx sub data).2.result sess 2 idx sub (s.writeOp sess idx sub data).1) :=
  congrArg Host.Outcome.next (sessionOp_open ho _)

theorem exec_domCancel (ho : s.sessionOpen sess = true) : exec (.domCancel sess idx sub) s =
    .next ((s.domCancel sess idx sub).2.result sess 8 idx sub (s.domCancel sess idx sub).1) :=
  congrArg Host.Outcome.next (sessionOp_open ho _)

/-! ### READ, DESCRIBE and WRITE -/

theorem readOp_number {r : Row} (hg : s.gate sess idx sub = .ok r) (hc : r.acc ≠ .cmd) (hb : s.readBlocked idx sub = false) (hd : ∀ n, r.ty ≠ .domain n) :
    s.readOp sess idx sub = ⟨stOk, 0, beBytes r.ty.size (s.readNum idx sub)⟩ := by
  unfold State.readOp
  rw [hg]
  dsimp only
  rw [if_neg hc, if_neg (by simp [hb])]
  split
  · exact absurd ‹_› (hd _)
  · rfl

theorem readOp_domain {r : Row} {n : Nat} (hg : s.gate sess idx sub = .ok r) (hc : r.acc ≠ .cmd) (hb : s.readBlocked idx sub = false)
    (hd : r.ty = .domain n) : s.readOp sess idx sub = ⟨stOk, 0, beBytes 4 (s.readDom idx sub).length ++ beBytes 4 (s.domGen idx sub)⟩ := by
  unfold State.readOp
  rw [hg]
  dsimp only
  rw [if_neg hc, if_neg (by simp [hb]), hd]

theorem readOp_cmd {r : Row} (hg : s.gate sess idx sub = .ok r) (hc : r.acc = .cmd) : s.readOp sess idx sub = .of stAccess := by
  unfold State.readOp
  rw [hg]
  exact if_pos hc

theorem describeOp_ok {r : Row} (hg : s.gate sess idx sub = .ok r) : s.describeOp sess idx sub = ⟨stOk, 0, r.describe⟩ := by
  unfold State.describeOp
  rw [hg]

/-- A WRITE that one frame can carry is the write of its entry. -/
theorem writeOp_writeEntry {data : Bytes} {r : Row} (hg : s.writeGate sess idx sub = .ok r) (h : r.domainMax = none ∨ data.length ≤ 1400) :
    s.writeOp sess idx sub data = s.writeEntry sess idx sub data := by
  unfold State.writeOp
  rw [hg]
  refine if_neg ?_
  obtain h | h := h
  · simp [h]
  · simp [Nat.not_lt.2 h]

theorem writeOp_tooLarge {data : Bytes} {r : Row} (hg : s.writeGate sess idx sub = .ok r) (hd : r.domainMax ≠ none) (hl : 1400 < data.length)
    (hb : s.barred r idx sub = 0) : s.writeOp sess idx sub data = (.transfer trTooLarge, s) := by
  unfold State.writeOp
  rw [hg]
  dsimp only
  rw [if_pos (by simp [hl, Option.isSome_iff_ne_none.2 hd]), if_neg (by simp [hb])]

theorem fdpWrite_dictWrite {data : Bytes} {r : Row} (ho : s.sessionOpen sess = true) (hg : s.writeGate sess idx sub = .ok r)
    (h : r.domainMax = none ∨ data.length ≤ 1400) : exec (.fdpWrite sess idx sub data) s = exec (.dictWrite sess idx sub data) s := by
  rw [exec_fdpWrite ho, writeOp_writeEntry hg h]
  exact congrArg Host.Outcome.next (sessionWrite_open ho).symm

theorem domainMax_none {r : Row} (hd : ∀ n, r.ty ≠ .domain n) : r.domainMax = none := by
  unfold Row.domainMax
  split
  · exact absurd ‹_› (hd _)
  · rfl

theorem domainMax_domain {r : Row} {n : Nat} (hd : r.ty = .domain n) : r.domainMax = some n := by
  unfold Row.domainMax
  rw [hd]

/-- Settles O15: an answer is the entry's bytes or its description, and a WRITE is DICT_WRITE unless it should come as a transfer. -/
theorem fdpReadsAndWrites : Obligations.FdpReadsAndWrites := by
  refine ⟨fun s sess idx sub r ho hg => ⟨fun hc hb hd => ?_, fun n hc hb hd => ?_, fun hc => ?_, ?_⟩, fun s sess idx sub data r ho hg => ⟨fun h => ?_, ?_, ?_⟩⟩
  · rw [exec_fdpRead ho, readOp_number hg hc hb hd, result_open ho]
  · rw [exec_fdpRead ho, readOp_domain hg hc hb hd, result_open ho]
  · rw [exec_fdpRead ho, readOp_cmd hg hc, result_open ho]
    rfl
  · rw [exec_fdpDescribe ho, describeOp_ok hg, result_open ho]
  · exact ⟨_, fdpWrite_dictWrite ho hg h, rfl⟩
  · intro hr hd hlen hv hcheck hfull
    obtain ⟨t, ht, hset, -, -, hres⟩ := dictWrite_stages ho hg hr hd hlen hv hcheck hfull
    exact ⟨t, (fdpWrite_dictWrite ho hg (.inl (domainMax_none hd))).trans ht, hset, hres⟩
  · intro hd hl hb
    rw [exec_fdpWrite ho, writeOp_tooLarge hg hd hl hb, result_open ho]
    rfl

/-! ### The transfer of a DOMAIN -/

theorem field_beBytes_append (n v : Nat) (bs : Bytes) (h : v < 256 ^ n) : field (beBytes n v ++ bs) 0 n = v := by
  unfold field slice
  rw [List.drop_zero, List.take_left' (length_beBytes n v), ofBytes_beBytes h]

theorem crcBit_lt (c : Nat) (b : Bool) : crcBit c b < 2 ^ 32 := by
  have hc : c * 2 % 2 ^ 32 < 2 ^ 32 := Nat.mod_lt _ (by decide)
  unfold crcBit
  dsimp only
  split
  · exact Nat.xor_lt_two_pow hc (by decide)
  · exact hc

theorem crcField_lt (n v c : Nat) (h : c < 2 ^ 32) : crcField n v c < 2 ^ 32 := by
  induction n generalizing c with
  | zero => exact h
  | succ n ih => exact ih _ (crcBit_lt _ _)

theorem crc32c_lt (bs : Bytes) : crc32c bs < 2 ^ 32 := by
  have hfold (c : Nat) (hc : c < 2 ^ 32) : bs.foldl (fun c b => crcField 8 b.toNat c) c < 2 ^ 32 := by
    induction bs generalizing c with
    | nil => exact hc
    | cons b bs ih => exact ih _ (crcField_lt _ _ _ hc)
  exact Nat.xor_lt_two_pow (hfold _ (by decide)) (by decide)

theorem session_setTransfer (hlen : sess - 1 < s.dict.sessions.length) (x : Option Transfer) :
    (s.setTransfer sess x).session sess = { s.session sess with transfer := x } := session_modSession _ hlen

/-- What an operation leaves when it only sets its session's transfer. -/
theorem result_setTransfer (hlen : sess - 1 < s.dict.sessions.length) (op : Nat) (a : Answer) (x : Option Transfer) :
    let t := (s.setTransfer sess x).result sess op idx sub a
    (t.session sess).transfer = x ∧ t.regs = s.regs ∧ t.doms = s.doms := by
  refine ⟨?_, result_regs .., result_doms ..⟩
  rw [session_congr (result_dict_sessions ..), session_setTransfer hlen]

theorem domBegin_opens {total : Nat} {r : Row} {n : Nat} (hg : s.writeGate sess idx sub = .ok r) (hd : r.ty = .domain n) (hb : s.barred r idx sub = 0)
    (hn : total ≤ n) (hx : (s.session sess).transfer = none) (h4 : (s.dict.sessions.filter (fun x => x.transfer.isSome)).length < 4)
    (hroom : s.storeUsed 0 + total ≤ 8388608) :
    s.domBegin sess idx sub total = (.of stOk, s.setTransfer sess (some ⟨key idx sub, total, [], false⟩)) := by
  unfold State.domBegin
  rw [hg]
  dsimp only
  rw [domainMax_domain hd]
  dsimp only
  rw [if_neg (by simp [hb]), if_neg (by omega), if_neg (by simp [hx]), if_neg (by omega), if_neg (by omega)]

theorem transferOf_some {x : Transfer} (hx : (s.session sess).transfer = some x) (hk : x.key = key idx sub) : s.transferOf sess idx sub = some x := by
  unfold State.transferOf
  rw [hx]
  exact if_pos hk

section

variable {x : Transfer} (hx : s.transferOf sess idx sub = some x)

include hx

theorem domSeg_takes {data : Bytes} (hf : x.failed = false) (hd : data ≠ []) (h1400 : data.length ≤ 1400) (hroom : x.data.length + data.length ≤ x.total) :
    s.domSeg sess idx sub x.data.length data = (.of stOk, s.setTransfer sess (some ⟨x.key, x.total, x.data ++ data, false⟩)) := by
  unfold State.domSeg
  rw [hx]
  dsimp only
  rw [if_neg (by simpa using hd), if_neg (by omega), if_neg (by simp [hf]), if_neg (by simp), if_neg (by omega), hf]

theorem domEnd_writes (hf : x.failed = false) (hlen : x.data.length = x.total) :
    s.domEnd sess idx sub (crc32c x.data) = (s.setTransfer sess none).writeEntry sess idx sub x.data := by
  unfold State.domEnd
  rw [hx]
  dsimp only
  rw [if_neg (by simp [hf]), if_neg (by omega), if_neg (by simp)]

theorem domEnd_fails {crc : Nat} (hf : x.failed = false) (hlen : x.data.length = x.total) (hcrc : crc ≠ crc32c x.data) :
    s.domEnd sess idx sub crc = (.transfer trCrc, s.setTransfer sess (some ⟨x.key, x.total, x.data, true⟩)) := by
  unfold State.domEnd
  rw [hx]
  dsimp only
  rw [if_neg (by simp [hf]), if_neg (by omega), if_pos hcrc.symm]

theorem domCancel_drops : s.domCancel sess idx sub = (.of stOk, s.setTransfer sess none) := by
  unfold State.domCancel
  rw [hx]

end

theorem domRead_slice {r : Row} {n off len : Nat} (hg : s.gate sess idx sub = .ok r) (hd : r.ty = .domain n) (hb : s.readBlocked idx sub = false)
    (h0 : 0 < len) (h1400 : len ≤ 1400) :
    s.domRead sess idx sub off len = ⟨stOk, 0, beBytes 4 (s.domGen idx sub) ++ zeroBytes 4 ++ slice (s.readDom idx sub) off len⟩ := by
  unfold State.domRead
  rw [hg]
  dsimp only
  rw [if_neg (by simp [domainMax_domain hd]), if_neg (by simp [hb]), if_neg (by simp; omega)]

/-! ### The operations that carry them -/

theorem exec_domBegin {total : Nat} (ho : s.sessionOpen sess = true) (h : total < 2 ^ 32) : exec (.domBegin sess idx sub total) s =
    .next ((s.domBegin sess idx sub total).2.result sess 4 idx sub (s.domBegin sess idx sub total).1) := by
  have hrun : s.runOp sess ⟨4, idx, sub, false, beBytes 4 total ++ zeroBytes 4⟩ = s.domBegin sess idx sub total := by
    unfold State.runOp
    simp [length_beBytes, zeroBytes, field_beBytes_append 4 total _ h]
  show inst (decide (total < 2 ^ 32)) _ = _
  rw [sessionOp_open ho, hrun]
  exact if_pos (decide_eq_true h)

theorem exec_domSeg {off : Nat} (data : Bytes) (ho : s.sessionOpen sess = true) (h : off < 2 ^ 32) : exec (.domSeg sess idx sub off data) s =
    .next ((s.domSeg sess idx sub off data).2.result sess 5 idx sub (s.domSeg sess idx sub off data).1) := by
  have hrun : s.runOp sess ⟨5, idx, sub, false, beBytes 4 off ++ zeroBytes 4 ++ data⟩ = s.domSeg sess idx sub off data := by
    have hdata : (beBytes 4 off ++ zeroBytes 4 ++ data).drop 8 = data := List.drop_left' (by simp [length_beBytes, zeroBytes])
    unfold State.runOp
    simp only [Bool.false_eq_true, if_false, hdata]
    rw [if_neg (by simp [length_beBytes, zeroBytes]; omega), List.append_assoc, field_beBytes_append 4 off _ h]
  show inst (decide (off < 2 ^ 32)) _ = _
  rw [sessionOp_open ho, hrun]
  exact if_pos (decide_eq_true h)

theorem exec_domEnd {crc : Nat} (ho : s.sessionOpen sess = true) (h : crc < 2 ^ 32) : exec (.domEnd sess idx sub crc) s =
    .next ((s.domEnd sess idx sub crc).2.result sess 6 idx sub (s.domEnd sess idx sub crc).1) := by
  have hrun : s.runOp sess ⟨6, idx, sub, false, beBytes 4 crc ++ zeroBytes 4⟩ = s.domEnd sess idx sub crc := by
    unfold State.runOp
    simp [length_beBytes, zeroBytes, field_beBytes_append 4 crc _ h]
  show inst (decide (crc < 2 ^ 32)) _ = _
  rw [sessionOp_open ho, hrun]
  exact if_pos (decide_eq_true h)

theorem exec_domRead {off len : Nat} (ho : s.sessionOpen sess = true) (h : off < 2 ^ 32) (h1400 : len ≤ 1400) :
    exec (.domRead sess idx sub off len) s = .next (s.result sess 7 idx sub (s.domRead sess idx sub off len)) := by
  have hrun : s.runOp sess ⟨7, idx, sub, false, beBytes 4 off ++ beBytes 2 len ++ zeroBytes 2⟩ = (s.domRead sess idx sub off len, s) := by
    have hlen : field (beBytes 4 off ++ beBytes 2 len ++ zeroBytes 2) 4 2 = len := by
      unfold field slice
      rw [List.append_assoc, List.drop_left' (length_beBytes 4 off), List.take_left' (length_beBytes 2 len), ofBytes_beBytes (by omega)]
    unfold State.runOp
    simp only [Bool.false_eq_true, if_false, hlen]
    simp [length_beBytes, zeroBytes, List.append_assoc, field_beBytes_append 4 off _ h]
  show inst (decide (off < 2 ^ 32) && decide (len < 2 ^ 16)) _ = _
  rw [sessionOp_open ho, hrun]
  exact if_pos (by simp; omega)

/-- Settles O16: each operation sets its session's transfer, or reads, and the end of a whole transfer is one write of its entry. -/
theorem transfersCarryDomains : Obligations.TransfersCarryDomains := by
  intro s sess idx sub ho hlen
  refine ⟨fun total r n hg hd hb hn hn32 hx h4 hroom => ?_, fun x data hx hk hf hd h1400 hroom h32 => ?_, fun x hx hk hf hwhole => ⟨?_, fun crc h32 hcrc => ?_⟩,
    fun r n off len hg hd hb h32 h0 h1400 => ?_, fun x hx hk => ?_⟩
  · refine completes_of (exec_domBegin ho (by omega)) ?_
    rw [domBegin_opens hg hd hb hn hx h4 hroom]
    exact result_setTransfer hlen _ _ _
  · refine completes_of (exec_domSeg data ho h32) ?_
    rw [domSeg_takes (transferOf_some hx hk) hf hd h1400 hroom]
    exact result_setTransfer hlen _ _ _
  · refine completes_of (exec_domEnd ho (crc32c_lt _)) ?_
    rw [domEnd_writes (transferOf_some hx hk) hf hwhole]
  · refine completes_of (exec_domEnd ho h32) ?_
    rw [domEnd_fails (transferOf_some hx hk) hf hwhole hcrc]
    exact result_setTransfer hlen _ _ _
  · rw [exec_domRead ho h32 h1400, domRead_slice hg hd hb h0 h1400, result_open ho]
  · refine completes_of (exec_domCancel ho) ?_
    rw [domCancel_drops (transferOf_some hx hk)]
    exact result_setTransfer hlen _ _ _

end Sys2Proof.Machine
end

section
/-! Opening a session and setting the Integrator key (chapter 15, R460, R461). -/

set_option Elab.async false

namespace Sys2Proof.Machine

variable {s t : State} {k : Nat}

/-! ### What notifications leave of a session -/

theorem nthD_modNth_map {α γ : Type} (d : α) {f : α → α} (P : α → γ) (hP : ∀ x, P (f x) = P x) (xs : List α) (i j : Nat) :
    P (nthD d (modNth f xs i) j) = P (nthD d xs j) := by
  induction xs generalizing i j with
  | nil => rfl
  | cons x xs ih =>
    cases i with
    | zero =>
      cases j with
      | zero => exact hP x
      | succ j => rfl
    | succ i =>
      cases j with
      | zero => rfl
      | succ j => exact ih i j

theorem length_modNth {α : Type} (f : α → α) (xs : List α) (i : Nat) : (modNth f xs i).length = xs.length := by
  induction xs generalizing i with
  | nil => rfl
  | cons x xs ih =>
    cases i with
    | zero => rfl
    | succ i => exact congrArg (· + 1) (ih i)

/-- A notification is queued or counted as lost; whatever else a session holds stays. -/
theorem notifyBut_session {γ : Type} (P : Session → γ) (hP : ∀ (x : Session) r, P (x.enqueue r) = P x) (e b n : Nat) (c : Bytes) (k : Nat) :
    P ((s.notifyBut e b n c).session k) = P (s.session k) := by
  refine foldl_same (fun s : State => P (s.session k)) (fun s j => ?_) _ _
  unfold State.notifyAt
  split
  · exact nthD_modNth_map _ P (fun x => hP x _) _ _ _
  · rfl

theorem enqueue_key (x : Session) (r : Bytes) : (x.enqueue r).key = x.key := by
  unfold Session.enqueue
  split <;> rfl

theorem enqueue_transfer (x : Session) (r : Bytes) : (x.enqueue r).transfer = x.transfer := by
  unfold Session.enqueue
  split <;> rfl

/-! ### OPEN -/

theorem freeSession_reg {j b : Nat} (hb : b < 256) (hj : j ≠ 0x102F + k) : (s.freeSession k).reg j b = s.reg j b := by
  refine each_reg s fun i hi u => ?_
  obtain ⟨n, hn, rfl⟩ := List.mem_map.1 hi
  have hn := List.mem_range.1 hn
  exact set_ne (h := .inl (by unfold sessIdx; omega))

theorem freeSession_sessions : (s.freeSession k).dict.sessions = modNth (fun _ => Session.reset) s.dict.sessions (k - 1) :=
  congrArg (fun x => modNth (fun _ => Session.reset) x (k - 1))
    (each_same (fun u : State => u.dict.sessions) (f := fun j u => u.setReg (sessIdx k) j 0) (fun _ _ => rfl) _ s)

theorem freeSession_drawn : (s.freeSession k).drawn = s.drawn := each_same State.drawn (f := fun j u => u.setReg (sessIdx k) j 0) (fun _ _ => rfl) _ s

/-- The entries of a session that opens, before its key and its idle time. -/
def State.sessionEntries (s : State) (k role : Nat) (peer : Peer) : State :=
  (((((s.freeSession k).setReg (sessIdx k) 1 1).setReg (sessIdx k) 2 role).setReg (sessIdx k) 3 peer.ip).setReg (sessIdx k) 4 peer.udp).setReg
    (sessIdx k) 5 peer.port

theorem sessionEntries_reg (role : Nat) (peer : Peer) : (s.sessionEntries k role peer).reg (0x102F + k) 1 = 1 ∧
    (s.sessionEntries k role peer).reg (0x102F + k) 2 = role ∧ (s.sessionEntries k role peer).reg (0x102F + k) 3 = peer.ip ∧
    (s.sessionEntries k role peer).reg (0x102F + k) 4 = peer.udp ∧ (s.sessionEntries k role peer).reg (0x102F + k) 5 = peer.port := by
  unfold State.sessionEntries sessIdx
  refine ⟨?_, ?_, ?_, ?_, reg_setReg_same ..⟩
  · rw [set_ne, set_ne, set_ne, set_ne, reg_setReg_same]
  · rw [set_ne, set_ne, set_ne, reg_setReg_same]
  · rw [set_ne, set_ne, reg_setReg_same]
  · rw [set_ne, reg_setReg_same]

theorem sessionEntries_other (role : Nat) (peer : Peer) {j b : Nat} (hb : b < 256) (hj : j ≠ 0x102F + k) :
    (s.sessionEntries k role peer).reg j b = s.reg j b := by
  unfold State.sessionEntries sessIdx
  rw [set_ne, set_ne, set_ne, set_ne, set_ne, freeSession_reg hb hj]

/-- The session with its key, its idle time started, and the grant counted. -/
def State.sessionKeyed (s : State) (k role : Nat) (peer : Peer) (sk : Bytes) : State :=
  (((s.sessionEntries k role peer).modSession k (fun x => { x with key := sk })).heard k).inc32 0x1038 5 1

theorem openSession_eq (role : Nat) (peer : Peer) (sk : Bytes) : s.openSession k role peer sk =
    (s.sessionKeyed k role peer sk).notifyBut k 4 5 (BitVec.ofNat 8 k :: BitVec.ofNat 8 role :: zeroBytes 14) := rfl

theorem sessionKeyed_reg (hk : k ≤ 8) (role : Nat) (peer : Peer) (sk : Bytes) {b : Nat} (hb : b < 9) :
    (s.sessionKeyed k role peer sk).reg (0x102F + k) b = (s.sessionEntries k role peer).reg (0x102F + k) b := by
  unfold State.sessionKeyed State.heard sessIdx
  rw [inc32_reg_key _ _ (by simp only [key]; omega), set_ne, modSession_reg]

theorem sessionKeyed_count (hk : k ≤ 8) (role : Nat) (peer : Peer) (sk : Bytes) :
    (s.sessionKeyed k role peer sk).reg 0x1038 5 = satAdd32 (s.reg 0x1038 5) 1 := by
  unfold State.sessionKeyed State.heard sessIdx
  rw [inc32_reg_same, set_ne, modSession_reg, sessionEntries_other role peer (by omega) (by omega)]

theorem sessionKeyed_key (hlen : k - 1 < s.dict.sessions.length) (role : Nat) (peer : Peer) (sk : Bytes) :
    ((s.sessionKeyed k role peer sk).session k).key = sk := by
  have hl : k - 1 < (s.sessionEntries k role peer).dict.sessions.length := by
    show k - 1 < (s.freeSession k).dict.sessions.length
    rw [freeSession_sessions, length_modNth]
    exact hlen
  have hs : (s.sessionKeyed k role peer sk).session k = ((s.sessionEntries k role peer).modSession k (fun x => { x with key := sk })).session k :=
    session_congr (by simp [State.sessionKeyed, State.heard]) k
  rw [hs, session_modSession _ hl]

theorem freeId_range (h : s.freeId = some k) : 1 ≤ k ∧ k ≤ 8 := by
  obtain ⟨n, hn, rfl⟩ := List.mem_map.1 (List.mem_of_find?_eq_some h)
  have hn := List.mem_range.1 hn
  omega

/-- The device nonce is drawn, and the OPEN_ACK has left (R460). -/
def State.openAcked (s : State) (peer : Peer) (k : Nat) (rk : Bytes) : State :=
  ({ s with drawn := s.drawn + 16 } : State).reply peer (frameOf kOpenAck k 0 (zeroBytes 8 ++ drawBytes s.drawn 16) rk)

theorem grantOpen_eq {peer : Peer} {role : Nat} {client rk : Bytes} (h : s.freeId = some k) : s.grantOpen peer role client rk =
    (s.openAcked peer k rk).openSession k role peer (sessionKey rk client (drawBytes s.drawn 16) k) := by
  unfold State.grantOpen
  rw [h]
  rfl

theorem openAcked_dict (peer : Peer) (rk : Bytes) : (s.openAcked peer k rk).dict = s.dict := portSend_dict _

theorem openAcked_reg (peer : Peer) (rk : Bytes) {j b : Nat} (hb : b < 256) (hj : j ≠ 0x1010 ∧ j ≠ 0x1011) :
    (s.openAcked peer k rk).reg j b = s.reg j b := portSend_reg _ hb hj

theorem openSession_drawn (role : Nat) (peer : Peer) (sk : Bytes) : (s.openSession k role peer sk).drawn = s.drawn := by
  rw [openSession_eq, notifyBut_drawn]
  simp [State.sessionKeyed, State.heard, State.sessionEntries, freeSession_drawn]

theorem portSend_drawn (p : Nat) (o : Output) : (s.portSend p o).drawn = s.drawn := by
  unfold State.portSend
  split <;> rfl

/-- A session granted to a peer: open, of its role, bound to the peer, under its key. -/
def Granted (s : State) (peer : Peer) (k role : Nat) (sk : Bytes) (t : State) : Prop :=
  t.sessionOpen k = true ∧ t.reg (0x102F + k) 2 = role ∧ t.reg (0x102F + k) 3 = peer.ip ∧ t.reg (0x102F + k) 4 = peer.udp ∧
    t.reg (0x102F + k) 5 = peer.port ∧ t.reg 0x1038 5 = satAdd32 (s.reg 0x1038 5) 1 ∧ (t.session k).key = sk

theorem openSession_granted (hk : 1 ≤ k ∧ k ≤ 8) (hlen : k - 1 < s.dict.sessions.length) (role : Nat) (peer : Peer) (sk : Bytes) :
    Granted s peer k role sk (s.openSession k role peer sk) := by
  obtain ⟨hopen, hrole, hip, hudp, hport⟩ := sessionEntries_reg (s := s) (k := k) role peer
  have hreg {b : Nat} (hb : b < 9) : (s.openSession k role peer sk).reg (0x102F + k) b = (s.sessionEntries k role peer).reg (0x102F + k) b := by
    rw [openSession_eq, notifyBut_reg, sessionKeyed_reg hk.2 role peer sk hb]
  refine ⟨?_, (hreg (by omega)).trans hrole, (hreg (by omega)).trans hip, (hreg (by omega)).trans hudp, (hreg (by omega)).trans hport, ?_, ?_⟩
  · unfold State.sessionOpen
    rw [show 0x1030 + k - 1 = 0x102F + k by omega, hreg (by omega), hopen]
    simp [hk]
  · rw [openSession_eq, notifyBut_reg, sessionKeyed_count hk.2]
  · rw [openSession_eq, notifyBut_session Session.key enqueue_key, sessionKeyed_key hlen]

section

variable {peer : Peer} {f : FdpFrame} (hready : s.fdpReady = true) (hup : s.portUp peer.port = true) (hs0 : f.session = 0) (hq0 : f.seq = 0)

include hready hup

theorem onFrame_up (g : State → State) : s.onFrame peer g = g s := if_pos (by simp [hready, hup])

include hs0 hq0

theorem exec_fdpOpen_grants (hport : peer.port < 2) {rk : Bytes} (hrec : s.power.recovery = false) (hlen : f.body.length = 24)
    (hz : (slice f.body 1 7).all (fun b => b = 0) = true) (hrole : field f.body 0 1 ≤ 3) (hrk : s.roleKey (field f.body 0 1) = some rk)
    (htag : hmac rk f.covered = f.tag) : exec (.fdpOpen peer f) s = .next (s.grantOpen peer (field f.body 0 1) (slice f.body 8 16) rk) := by
  have hrx : s.rxOpen peer f = s.grantOpen peer (field f.body 0 1) (slice f.body 8 16) rk := by
    unfold State.rxOpen
    rw [if_neg (by rw [hs0, hq0, hlen, hz]; decide)]
    dsimp only
    rw [hrk]
    exact if_pos (by simp [htag, hrole, hrec])
  show inst (decide (peer.port < 2)) (.next (s.onFrame peer _)) = _
  rw [onFrame_up hready hup, hrx]
  exact if_pos (decide_eq_true hport)

theorem exec_keyInit_sets (hport : peer.port < 2) (hlen : f.body.length = 32) (hunset : s.roleKey 2 = none) (htag : hmac f.body f.covered = f.tag) :
    exec (.keyInit peer f) s =
      .next (({ s with nv := { s.nv with keys := modNth (fun _ => some f.body) s.nv.keys 2 } } : State).reply peer (frameOf kKeyInit 0 0 [] f.body)) := by
  have hrx : s.rxKeyInit peer f =
      ({ s with nv := { s.nv with keys := modNth (fun _ => some f.body) s.nv.keys 2 } } : State).reply peer (frameOf kKeyInit 0 0 [] f.body) := by
    unfold State.rxKeyInit
    rw [if_neg (by simp [hs0, hq0, hlen, hunset]), if_neg (by simp [htag])]
  show inst (decide (peer.port < 2)) (.next (s.onFrame peer _)) = _
  rw [onFrame_up hready hup, hrx]
  exact if_pos (decide_eq_true hport)

omit hs0 hq0 in
theorem exec_keyInit_again (hport : peer.port < 2) (hset : s.roleKey 2 ≠ none) : exec (.keyInit peer f) s = .next s.malformed := by
  have hrx : s.rxKeyInit peer f = s.malformed := if_pos (by simp [Option.isSome_iff_ne_none.2 hset])
  show inst (decide (peer.port < 2)) (.next (s.onFrame peer _)) = _
  rw [onFrame_up hready hup, hrx]
  exact if_pos (decide_eq_true hport)

end

theorem portSend_nv (p : Nat) (o : Output) : (s.portSend p o).nv = s.nv := by
  unfold State.portSend
  split <;> rfl

/-- Settles O17: a granted OPEN opens the lowest free session, and KEY_INIT sets the key once. -/
theorem openGrantsTheLowestFreeSession : Obligations.OpenGrantsTheLowestFreeSession := by
  intro s peer f hport hready hup hs0 hq0 hrec
  refine ⟨fun role rk k hlen hz hfield hrole hrk htag hfree h8 => ?_, fun hlen hunset h2 htag => ?_, fun _ hset => ?_⟩
  · subst hfield
    have hk := freeId_range hfree
    have hlen' : k - 1 < (s.openAcked peer k rk).dict.sessions.length := by rw [openAcked_dict]; omega
    obtain ⟨hopen, hr, hip, hudp, hp, hcount, hkey⟩ := openSession_granted hk hlen' (field f.body 0 1) peer
      (sessionKey rk (slice f.body 8 16) (drawBytes s.drawn 16) k)
    refine completes_of (exec_fdpOpen_grants hready hup hs0 hq0 hport hrec hlen hz hrole hrk htag) ?_
    rw [grantOpen_eq hfree]
    refine ⟨hopen, hr, hip, hudp, hp, ?_, hkey, ?_⟩
    · rw [hcount, openAcked_reg _ _ (by omega) (by omega)]
      rfl
    · rw [openSession_drawn]
      exact portSend_drawn _ _
  · refine completes_of (exec_keyInit_sets hready hup hs0 hq0 hport hlen hunset htag) ?_
    exact (congrArg (fun n : Nv => nthD none n.keys 2) (portSend_nv _ _)).trans (nthD_modNth _ _ _ _ h2)
  · exact completes_of (exec_keyInit_again hready hup hport hset) ⟨rfl, reg_setReg_same ..⟩

end Sys2Proof.Machine
end

section
/-! A REQUEST and its RESPONSE (chapter 15, R462, R465). -/

set_option Elab.async false

namespace Sys2Proof.Machine

variable {s t : State}

/-! ### REQUEST -/

theorem portSends_of_up {p : Nat} (h : s.portUp p = true) : s.portSends p = true := by
  unfold State.portUp at h
  simp only [Bool.and_eq_true, decide_eq_true_eq] at h
  obtain ⟨⟨hp, hon⟩, hlink⟩ := h
  unfold State.portSends
  simp [hp, hon, hlink]

section Request

variable {peer : Peer} {f : FdpFrame} {ops : List OpRecord}

theorem heard_reg (k : Nat) {j b : Nat} (hb : b < 256) (h : j ≠ 0x102F + k ∨ b ≠ 9) : (s.heard k).reg j b = s.reg j b := by
  unfold State.heard sessIdx
  exact set_ne (h := h)

theorem heard_peer {k : Nat} (hk : 1 ≤ k ∧ k ≤ 8) : SamePeer s (s.heard k) k := by
  unfold State.heard sessIdx
  exact samePeer_setReg (by omega) (by omega) (by omega)

/-- The RESPONSE to a frame's peer with a body. -/
def State.responseTo (s : State) (peer : Peer) (f : FdpFrame) (body : Bytes) : Output :=
  .udp peer.port peer.ip peer.udp (frameOf 4 f.session f.seq body (s.session f.session).key)

theorem Authentic.response (h : Authentic s peer f) (hp : SamePeer s t f.session) (body : Bytes) :
    (t.sendTo f.session (frameOf 4 f.session f.seq body (s.session f.session).key)).outbox = s.outbox ++ [s.responseTo peer f body] := by
  rw [sendTo_outbox hp (by rw [h.boundPort]; exact portSends_of_up h.up), h.boundPort, h.boundIp, h.boundUdp]
  rfl

theorem Authentic.exec_request (h : Authentic s peer f) (hops : parseOps 256 f.body = some ops) :
    exec (.fdpRequest peer f) s = .next ((s.heard f.session).takeRequest f.session f ops) := by
  refine (h.run _).trans (congrArg Host.Outcome.next ?_)
  unfold State.rxRequest
  rw [hops]
  exact h.inSession _

/-- The stored RESPONSE to a repeated REQUEST (R462). -/
def State.known (s : State) (f : FdpFrame) : Option StoredResponse := (s.session f.session).stored.find? (fun r => r.seq = f.seq && r.tag = f.tag)

theorem completes_request_known {r : StoredResponse} (h : Authentic s peer f) (hops : parseOps 256 f.body = some ops) (hr : s.known f = some r) :
    Completes (.fdpRequest peer f) s (fun t => t.outbox = s.outbox ++ [s.responseTo peer f r.body] ∧ t.dict = s.dict) := by
  have hrun : (s.heard f.session).takeRequest f.session f ops =
      (s.heard f.session).sendTo f.session (frameOf 4 f.session f.seq r.body (s.session f.session).key) := by
    unfold State.takeRequest
    rw [show ((s.heard f.session).session f.session).stored.find? (fun r => r.seq = f.seq && r.tag = f.tag) = some r from hr]
    rfl
  refine completes_of (h.exec_request hops) ?_
  rw [hrun]
  exact ⟨h.response (heard_peer (sessionOpen_range h.isOpen)) _, sendTo_dict _⟩

theorem seqNew_heard (k q : Nat) : (s.heard k).seqNew k q = s.seqNew k q := by
  unfold State.seqNew sessIdx
  rw [heard_reg k (by omega) (by omega)]
  rfl

theorem completes_request_old (h : Authentic s peer f) (hops : parseOps 256 f.body = some ops) (hr : s.known f = none)
    (hnew : s.seqNew f.session f.seq = false) : Completes (.fdpRequest peer f) s (fun t =>
      t.reg 0x1038 4 = satAdd32 (s.reg 0x1038 4) 1 ∧ t.dict = s.dict ∧ t.outbox = s.outbox) := by
  have hk := sessionOpen_range h.isOpen
  have hrun : (s.heard f.session).takeRequest f.session f ops = (s.heard f.session).inc32 0x1038 4 1 := by
    unfold State.takeRequest
    rw [show ((s.heard f.session).session f.session).stored.find? (fun r => r.seq = f.seq && r.tag = f.tag) = none from hr]
    exact if_neg (by simp [seqNew_heard, hnew])
  refine completes_of (h.exec_request hops) ?_
  rw [hrun]
  exact ⟨by rw [inc32_reg_same, heard_reg _ (by omega) (by omega)], rfl, rfl⟩

/-- The state in which the operations of a new REQUEST of session `k` are carried out: its idle time and its SEQ are noted, and it is in hand. -/
def State.inHand (s : State) (k seq : Nat) : State :=
  let t := (s.heard k).seqDone k seq
  { t with dict := { t.dict with results := [], serving := some (k, false) } }

theorem completes_request_new (h : Authentic s peer f) (hops : parseOps 256 f.body = some ops) (hr : s.known f = none)
    (hnew : s.seqNew f.session f.seq = true) (hflag : bitAt f.flags 0 = false) :
    exec (.fdpRequest peer f) s = .next (((s.inHand f.session f.seq).runOps f.session 0 ops).respond f.session f.seq f.tag) := by
  have hrun : (s.heard f.session).takeRequest f.session f ops = (s.heard f.session).executeRequest f.session f.seq false ops f.tag := by
    unfold State.takeRequest
    rw [show ((s.heard f.session).session f.session).stored.find? (fun r => r.seq = f.seq && r.tag = f.tag) = none from hr]
    rw [← hflag]
    exact if_pos (by rw [seqNew_heard, hnew])
  rw [h.exec_request hops, hrun]
  rfl

/-! ### A REQUEST of one READ -/

theorem gate_congr {sess idx sub : Nat} (hb : t.board = s.board) (hp : t.power = s.power) (hd : t.reg 0x1050 1 = s.reg 0x1050 1)
    (hr : t.role sess = s.role sess) : t.gate sess idx sub = s.gate sess idx sub := by
  unfold State.gate State.flag
  rw [hb, hp, hd, hr]

/-- Entries of 2000h to 20FFh are read as they are stored, in any state of the units. -/
theorem readNum_2000 {idx : Nat} (h : idx / 256 = 0x20) (sub : Nat) : s.readNum idx sub = s.reg idx sub := by
  have hc : cribView s idx sub = none := by
    unfold cribView
    rw [if_neg (by omega), if_neg (by simp; omega)]
  unfold State.readNum
  rw [show idx / 4096 = 2 by omega, hc]
  rfl

theorem readBlocked_2000 {idx : Nat} (h : idx / 256 = 0x20) (sub : Nat) : s.readBlocked idx sub = false := by
  unfold State.readBlocked
  rw [decide_eq_false (show ¬idx = 0xF400 by omega), decide_eq_false (show ¬0xF500 ≤ idx by omega)]
  rfl

theorem inHand_regs (k q : Nat) : (s.inHand k q).regs = ((s.heard k).setReg (0x102F + k) 6 (max (s.reg (0x102F + k) 6) q)).regs := by
  unfold State.inHand State.seqDone sessIdx
  rw [heard_reg k (by omega) (by omega)]
  rfl

theorem inHand_reg {k q j b : Nat} (h : key j b ≠ key (0x102F + k) 9) (h' : key j b ≠ key (0x102F + k) 6) :
    (s.inHand k q).reg j b = s.reg j b := by
  rw [reg_congr (inHand_regs k q) rfl rfl, reg_setReg_key _ _ h']
  exact reg_setReg_key _ _ h

theorem inHand_high (k q : Nat) : (s.inHand k q).reg (0x102F + k) 6 = max (s.reg (0x102F + k) 6) q := by
  rw [reg_congr (inHand_regs k q) rfl rfl, reg_setReg_same]

theorem inHand_stored (k q : Nat) : ((s.inHand k q).session k).stored = (s.session k).stored :=
  nthD_modNth_map _ (f := fun x => { x with executed := q :: x.executed.filter (fun e => decide (max ((s.heard k).reg (0x102F + k) 6) q ≤ e + 64)) }) Session.stored (fun _ => rfl) s.dict.sessions (k - 1) (k - 1)

theorem inHand_key (k q : Nat) : ((s.inHand k q).session k).key = (s.session k).key :=
  nthD_modNth_map _ (f := fun x => { x with executed := q :: x.executed.filter (fun e => decide (max ((s.heard k).reg (0x102F + k) 6) q ≤ e + 64)) }) Session.key (fun _ => rfl) s.dict.sessions (k - 1) (k - 1)

theorem inHand_length (k q : Nat) : (s.inHand k q).dict.sessions.length = s.dict.sessions.length := length_modNth ..

theorem inHand_open {k q : Nat} (h : s.sessionOpen k = true) : (s.inHand k q).sessionOpen k = true :=
  (sessionOpen_congr fun j _ _ => inHand_reg (by simp only [key]; omega) (by simp only [key]; omega)).trans h

theorem inHand_peer {k q : Nat} (hk : 1 ≤ k ∧ k ≤ 8) : SamePeer s (s.inHand k q) k :=
  ⟨portSends_congr fun j b _ _ => inHand_reg (by simp only [key]; omega) (by simp only [key]; omega),
    fun b _ => inHand_reg (by simp only [key]; omega) (by simp only [key]; omega), rfl⟩

/-- The READ of an entry of 2000h to 20FFh, while its REQUEST is in hand, answers what it reads before. -/
theorem inHand_readOp {k q idx sub : Nat} {r : Row} (hk : k ≤ 8) (hg : s.gate k idx sub = .ok r) (hc : r.acc ≠ .cmd)
    (hd : ∀ n, r.ty ≠ .domain n) (h : idx / 256 = 0x20) :
    (s.inHand k q).readOp k idx sub = ⟨stOk, 0, beBytes r.ty.size (s.readNum idx sub)⟩ := by
  have hrole : (s.inHand k q).role k = s.role k := inHand_reg (by simp only [key]; omega) (by simp only [key]; omega)
  have hdebug : (s.inHand k q).reg 0x1050 1 = s.reg 0x1050 1 := inHand_reg (by simp only [key]; omega) (by simp only [key]; omega)
  have hgate : (s.inHand k q).gate k idx sub = .ok r := (gate_congr (s := s) (t := s.inHand k q) rfl rfl hdebug hrole).trans hg
  rw [readOp_number hgate hc (readBlocked_2000 h sub) hd, readNum_2000 h, readNum_2000 h,
    inHand_reg (by simp only [key]; omega) (by simp only [key]; omega)]

theorem runOps_one {sess : Nat} {o : OpRecord} {a : Answer} (h : s.runOp sess o = (a, s)) (hroom : a.room ≤ 1416) :
    s.runOps sess 0 [o] = s.result sess o.op o.idx o.sub a := by
  unfold State.runOps
  rw [h]
  dsimp only
  rw [if_neg (by simp; omega)]
  rfl

/-- The RESPONSE of session `k` kept and counted, before it leaves. -/
def State.responseKept (s : State) (k seq : Nat) (tag body : Bytes) : State :=
  (({ s with dict := { s.dict with results := [], serving := none } } : State).modSession k
    (fun x => { x with stored := (⟨seq, tag, body⟩ :: x.stored).take 16 })).inc64 (sessIdx k) 0x0A 1

/-- A RESPONSE that no close waits for is kept and leaves. -/
theorem respond_open {k seq : Nat} {tag : Bytes} (ho : s.sessionOpen k = true) (hserv : s.dict.serving = some (k, false)) :
    s.respond k seq tag = (s.responseKept k seq tag (s.dict.results.map OpResult.bytes).flatten).sendTo k
      (frameOf 4 k seq (s.dict.results.map OpResult.bytes).flatten
        ((s.responseKept k seq tag (s.dict.results.map OpResult.bytes).flatten).session k).key) := by
  have ho' : ({ s with dict := { s.dict with results := [], serving := none } } : State).sessionOpen k = true := ho
  unfold State.respond
  rw [hserv]
  simp only [Option.any_some, Bool.and_false, Bool.false_eq_true, if_false, ho', Bool.not_true]
  rfl

theorem responseKept_session {k seq : Nat} {tag body : Bytes} (hlen : k - 1 < s.dict.sessions.length) : (s.responseKept k seq tag body).session k =
    { s.session k with stored := (⟨seq, tag, body⟩ :: (s.session k).stored).take 16 } := nthD_modNth _ _ _ _ hlen

theorem responseKept_reg {k seq j b : Nat} {tag body : Bytes} (h : key j b ≠ key (0x102F + k) 0x0A) :
    (s.responseKept k seq tag body).reg j b = s.reg j b := inc64_reg_key _ _ h

theorem responseKept_count {k seq : Nat} {tag body : Bytes} :
    (s.responseKept k seq tag body).reg (0x102F + k) 0x0A = wrapAdd64 (s.reg (0x102F + k) 0x0A) 1 := inc64_reg_same ..

/-- The state with one result record held for the RESPONSE in hand. -/
def State.withResult (s : State) (x : OpResult) : State := { s with dict := { s.dict with results := [x] } }

/-- A result record of an operation in hand is all that the RESPONSE carries. -/
theorem inHand_result {k q op idx sub : Nat} (ho : s.sessionOpen k = true) (a : Answer) : (s.inHand k q).result k op idx sub a =
    (s.inHand k q).withResult ⟨op, a.status, idx, sub, a.detail, a.data⟩ := by
  rw [result_open (inHand_open ho)]
  rfl

theorem withResult_sent {k q : Nat} {tag : Bytes} (ho : s.sessionOpen k = true) (hserv : s.dict.serving = some (k, false)) (x : OpResult) :
    (s.withResult x).respond k q tag = ((s.withResult x).responseKept k q tag x.bytes).sendTo k
      (frameOf 4 k q x.bytes (((s.withResult x).responseKept k q tag x.bytes).session k).key) := by
  have hbody : ((s.withResult x).dict.results.map OpResult.bytes).flatten = x.bytes := List.append_nil _
  rw [respond_open (s := s.withResult x) ho hserv, hbody]

theorem withResult_peer {k q seq : Nat} {tag body : Bytes} (x : OpResult) (hk : 1 ≤ k ∧ k ≤ 8) :
    SamePeer s (((s.inHand k q).withResult x).responseKept k seq tag body) k := by
  have hsame : SamePeer (s.inHand k q) ((s.inHand k q).withResult x) k := samePeer_of_regs rfl rfl rfl rfl
  refine samePeer_trans (inHand_peer hk) (samePeer_trans hsame ⟨portSends_congr fun j b _ _ => ?_, fun b _ => ?_, rfl⟩)
  · exact responseKept_reg (by simp only [key]; omega)
  · exact responseKept_reg (by simp only [key]; omega)

/-- A REQUEST whose one operation leaves the state alone is answered in one RESPONSE, which is kept and counted (R462, R465). -/
theorem completes_request_one {o : OpRecord} {a : Answer} (h : Authentic s peer f) (hlen : f.session - 1 < s.dict.sessions.length)
    (hops : parseOps 256 f.body = some [o]) (hr : s.known f = none) (hnew : s.seqNew f.session f.seq = true) (hflag : bitAt f.flags 0 = false)
    (hop : (s.inHand f.session f.seq).runOp f.session o = (a, s.inHand f.session f.seq)) (hroom : a.room ≤ 1416) :
    let body := OpResult.bytes ⟨o.op, a.status, o.idx, o.sub, a.detail, a.data⟩
    Completes (.fdpRequest peer f) s (fun t => t.outbox = s.outbox ++ [s.responseTo peer f body] ∧
      t.reg (0x102F + f.session) 6 = max (s.reg (0x102F + f.session) 6) f.seq ∧
      t.reg (0x102F + f.session) 0x0A = wrapAdd64 (s.reg (0x102F + f.session) 0x0A) 1 ∧
      (t.session f.session).stored = (⟨f.seq, f.tag, body⟩ :: (s.session f.session).stored).take 16) := by
  intro body
  have hk := sessionOpen_range h.isOpen
  let x : OpResult := ⟨o.op, a.status, o.idx, o.sub, a.detail, a.data⟩
  obtain ⟨u, hu⟩ : ∃ u, u = (s.inHand f.session f.seq).withResult x := ⟨_, rfl⟩
  have hureg : ∀ j b, u.reg j b = (s.inHand f.session f.seq).reg j b := fun j b => by rw [hu]; rfl
  have husess : u.dict.sessions = (s.inHand f.session f.seq).dict.sessions := by rw [hu]; rfl
  have hulen : f.session - 1 < u.dict.sessions.length := by rw [husess, inHand_length]; exact hlen
  have hkept := responseKept_session (seq := f.seq) (tag := f.tag) (body := body) hulen
  have hpeer : SamePeer s (u.responseKept f.session f.seq f.tag body) f.session := by rw [hu]; exact withResult_peer x hk
  have hkey : ((u.responseKept f.session f.seq f.tag body).session f.session).key = (s.session f.session).key := by
    rw [hkept, session_congr husess]
    exact inHand_key _ _
  have hresp : ((s.inHand f.session f.seq).runOps f.session 0 [o]).respond f.session f.seq f.tag =
      (u.responseKept f.session f.seq f.tag body).sendTo f.session (frameOf 4 f.session f.seq body (s.session f.session).key) := by
    rw [runOps_one hop hroom, inHand_result h.isOpen, withResult_sent (inHand_open h.isOpen) rfl, ← hu, hkey]
  refine completes_of ((completes_request_new h hops hr hnew hflag).trans (congrArg Host.Outcome.next hresp)) ?_
  refine ⟨h.response hpeer body, ?_, ?_, ?_⟩
  · rw [sendTo_reg _ (by omega) (by omega), responseKept_reg (by simp only [key]; omega), hureg, inHand_high]
  · rw [sendTo_reg _ (by omega) (by omega), responseKept_count, hureg,
      inHand_reg (by simp only [key]; omega) (by simp only [key]; omega)]
  · rw [session_congr (congrArg DictState.sessions (sendTo_dict _)), hkept, session_congr husess, inHand_stored]

end Request

theorem room_le {d : Bytes} (h : d.length ≤ 1400) : Answer.room ⟨stOk, 0, d⟩ ≤ 1416 := by
  show 8 + (d.length + 7) / 8 * 8 ≤ 1416
  omega

/-- Settles O18: a repeated REQUEST is answered from the store, an old one only counts, and a new one is executed, answered and kept. -/
theorem requestsExecuteOnce : Obligations.RequestsExecuteOnce := by
  intro s peer f ops hport hready hup hops hopen hlen htag h5 h3 h4
  have h : Authentic s peer f := ⟨hport, hready, hup, hopen, htag, h5, h3, h4⟩
  refine ⟨fun r hr => completes_request_known h hops hr, completes_request_old h hops, ?_⟩
  rintro hr hnew hflag - o r rfl hop hbad hg hro hd - hsize hidx
  have hread : (s.inHand f.session f.seq).runOp f.session o =
      (⟨stOk, 0, beBytes r.ty.size (s.readNum o.idx o.sub)⟩, s.inHand f.session f.seq) := by
    unfold State.runOp
    rw [if_neg (by simp [hbad]), hop]
    show ((s.inHand f.session f.seq).readOp f.session o.idx o.sub, _) = _
    rw [inHand_readOp (sessionOpen_range hopen).2 hg (by simp [hro]) hd hidx]
  have hone := completes_request_one h hlen hops hr hnew hflag hread (room_le (by rw [length_beBytes]; exact hsize))
  rw [hop] at hone
  exact hone

end Sys2Proof.Machine
end

section
/-! Frames at the two Ethernet ports (chapter 15, R457, R458, R478). -/

set_option Elab.async false

namespace Sys2Proof.Machine

variable {s t : State} {peer : Peer} {d : Bytes}

theorem inc32_reg_other {i b n j c : Nat} (h : key j c ≠ key i b) : (s.inc32 i b n).reg j c = s.reg j c := reg_setReg_key _ _ h

theorem portUp_congr (h : ∀ j b, j = 0x1010 ∨ j = 0x1011 → b = 2 ∨ b = 4 → t.reg j b = s.reg j b) (p : Nat) : t.portUp p = s.portUp p := by
  unfold State.portUp
  by_cases hp : p < 2
  · rw [h (0x1010 + p) 2 (by omega) (.inl rfl), h (0x1010 + p) 4 (by omega) (.inr rfl)]
  · simp [hp]

/-- With frames at one port alone, that port is served. -/
theorem rotating_single {ptr p : Nat} (hptr : ptr < 2) (hp : p < 2) : rotating 2 ptr [p] = some p := by
  have hall : ∀ ptr, ptr < 2 → ∀ p, p < 2 → rotating 2 ptr [p] = some p := by decide
  exact hall ptr hptr p hp

theorem rxFrame_reg {p j b : Nat} (h : key j b ≠ key (0x1010 + p) 0x0A) : (s.rxFrame p).reg j b = s.reg j b := inc64_reg_key _ _ h

theorem rxFrame_portUp (p q : Nat) : (s.rxFrame p).portUp q = s.portUp q :=
  portUp_congr (fun j b _ _ => rxFrame_reg (by simp only [key]; omega)) q

theorem rxFrame_fdpReady {p : Nat} (hp : p < 2) : (s.rxFrame p).fdpReady = s.fdpReady :=
  congrArg (fun n => s.mgmtRuns && decide (n ≠ 2)) (rxFrame_reg (s := s) (p := p) (j := 0x7010) (b := 4) (by simp only [key]; omega))

/-! ### Datagrams -/

/-- The state in which a datagram that arrives alone is handled: it is counted, and the other port is served next. -/
def State.received (s : State) (p : Nat) : State := ({ s with avail := { s.avail with rxPtr := (p + 1) % 2 } } : State).inc64 (0x1010 + p) 0x0A 1

theorem received_portUp (p q : Nat) : (s.received p).portUp q = s.portUp q := rxFrame_portUp (s := { s with avail := _ }) p q

theorem received_fdpReady {p : Nat} (hp : p < 2) : (s.received p).fdpReady = s.fdpReady :=
  rxFrame_fdpReady (s := { s with avail := { s.avail with rxPtr := (p + 1) % 2 } }) hp

/-- The state with the frames `q` waiting at the ports. -/
def State.waitingFrames (s : State) (q : List (Nat × Nat × Nat × Bytes)) : State := { s with avail := { s.avail with rxQueue := q } }

theorem arrive_alone (hq : s.avail.rxQueue = []) : s.arrive peer d = (s.rxFrame peer.port).waitingFrames [(peer.port, peer.ip, peer.udp, d)] := by
  have hq' : (s.rxFrame peer.port).avail.rxQueue = [] := hq
  unfold State.arrive
  simp only [hq', List.filter_nil, List.length_nil, List.nil_append]
  rfl

/-- A single waiting frame is taken, and handled. -/
theorem serve_single (hp : peer.port < 2) (hr : s.fdpReady = true) (hptr : s.avail.rxPtr < 2)
    (hq : s.avail.rxQueue = [(peer.port, peer.ip, peer.udp, d)]) :
    s.serve = ({ s with avail := { s.avail with rxQueue := [], rxPtr := (peer.port + 1) % 2 } } : State).datagram peer d := by
  unfold State.serve
  rw [hq]
  unfold List.length State.takeFrames
  simp only [hr, hq, if_true, List.map_cons, List.map_nil, rotating_single hptr hp, List.find?_cons, decide_true, List.erase_cons_head]
  rfl

/-- With an empty receive queue a datagram is handled as it comes (R457, R459). -/
theorem exec_fdpFrameRx_alone (hp : peer.port < 2) (hd : s.power.dictUp = true) (hup : s.portUp peer.port = true) (hr : s.fdpReady = true)
    (hq : s.avail.rxQueue = []) (hptr : s.avail.rxPtr < 2) : exec (.fdpFrameRx peer d) s = .next ((s.received peer.port).datagram peer d) := by
  have hready : (s.rxFrame peer.port).fdpReady = true := (rxFrame_fdpReady hp).trans hr
  have hhandled : (s.arrive peer d).serve = (s.received peer.port).datagram peer d := by
    rw [arrive_alone hq, serve_single (s := (s.rxFrame peer.port).waitingFrames [(peer.port, peer.ip, peer.udp, d)]) hp hready hptr rfl]
    unfold State.received State.rxFrame
    rw [show ({ s.avail with rxPtr := (peer.port + 1) % 2 } : AvailState) = { s.avail with rxQueue := [], rxPtr := (peer.port + 1) % 2 } by rw [← hq]]
    rfl
  show inst (decide (peer.port < 2)) (.next (if s.power.dictUp && s.portUp peer.port then (s.arrive peer d).serve else s)) = _
  rw [inst_ok (decide_eq_true hp), if_pos (by simp [hd, hup]), hhandled]

/-- The row of a checked frame, once the dictionary is available. -/
theorem inst_onFrame (hp : peer.port < 2) (hr : s.fdpReady = true) (hup : s.portUp peer.port = true) (g : State → State) :
    inst (decide (peer.port < 2)) (.next (s.onFrame peer g)) = .next (g s) := by
  rw [inst_ok (decide_eq_true hp), onFrame_up hr hup]

section
variable {f : FdpFrame} (hp : peer.port < 2) (hr : s.fdpReady = true) (hup : s.portUp peer.port = true)
include hp hr hup

/-- A datagram of a kind that has a row completes as that row does (R458). -/
theorem exec_datagram_kind :
    (parseFrame d = some (1, f) → exec (.fdpOpen peer f) s = .next (s.datagram peer d)) ∧
    (parseFrame d = some (3, f) → exec (.fdpRequest peer f) s = .next (s.datagram peer d)) ∧
    (parseFrame d = some (6, f) → exec (.notifyAck peer f) s = .next (s.datagram peer d)) ∧
    (parseFrame d = some (7, f) → exec (.closeFrame peer f) s = .next (s.datagram peer d)) ∧
    (parseFrame d = some (9, f) → exec (.keyInit peer f) s = .next (s.datagram peer d)) := by
  refine ⟨fun h => ?_, fun h => ?_, fun h => ?_, fun h => ?_, fun h => ?_⟩ <;> unfold State.datagram <;> rw [h] <;>
    exact inst_onFrame hp hr hup _

end

/-! ### ARP and echo -/

theorem rxFrame_portSend_outbox {p : Nat} (hup : s.portUp p = true) (o : Output) : ((s.rxFrame p).portSend p o).outbox = s.outbox ++ [o] :=
  portSend_outbox (portSends_of_up ((rxFrame_portUp p p).trans hup)) o

theorem rxFrame_dropped (p : Nat) : ((s.rxFrame p).inc32 (0x1010 + p) 0x0C 1).outbox = s.outbox ∧
    ((s.rxFrame p).inc32 (0x1010 + p) 0x0C 1).reg (0x1010 + p) 0x0C = min (s.reg (0x1010 + p) 0x0C + 1) 0xFFFFFFFF := by
  refine ⟨rfl, ?_⟩
  rw [inc32_reg_same, rxFrame_reg (by simp only [key]; omega)]
  rfl

section
variable {p sender target : Nat} (hp : p < 2) (hd : s.power.dictUp = true) (hup : s.portUp p = true)
include hp hd hup

theorem exec_arpRequest : exec (.arpRequest p sender target) s =
    .next (if target = s.reg (0x1010 + p) 6 then (s.rxFrame p).portSend p (.arp p sender) else (s.rxFrame p).inc32 (0x1010 + p) 0x0C 1) := by
  show execArpRequest p sender target s = _
  unfold execArpRequest
  rw [inst_ok (decide_eq_true hp), if_pos (by simp [hd, hup]), ← rxFrame_reg (s := s) (p := p) (j := 0x1010 + p) (b := 6) (by simp only [key]; omega)]

theorem exec_icmpEcho (payload : Bytes) : exec (.icmpEcho p sender target payload) s =
    .next (if target = s.reg (0x1010 + p) 6 then (s.rxFrame p).portSend p (.icmp p sender payload) else (s.rxFrame p).inc32 (0x1010 + p) 0x0C 1) := by
  show execIcmpEcho p sender target payload s = _
  unfold execIcmpEcho
  rw [inst_ok (decide_eq_true hp), if_pos (by simp [hd, hup]), ← rxFrame_reg (s := s) (p := p) (j := 0x1010 + p) (b := 6) (by simp only [key]; omega)]

end

theorem exec_portLinkChange {p link : Nat} (hp : p < 2) (hon : 2 ≤ s.reg (0x1010 + p) 2) (hl : linkAllowed (s.reg (0x1010 + p) 3) link = true) :
    exec (.portLinkChange p link) s = .next (s.setReg (0x1010 + p) 4 link) := by
  show execPortLinkChange p link s = _
  unfold execPortLinkChange
  rw [inst_ok (decide_eq_true hp), if_pos (by simp [hon, hl])]

/-- Settles O19: a datagram that comes alone is handled at once by its kind, and a port answers what names its own address. -/
theorem datagramsAndPortsAnswer : Obligations.DatagramsAndPortsAnswer := by
  refine ⟨fun s peer d hp hd hup hr hq hptr => ?_, fun s p hp => ⟨fun sender target payload hd hup => ⟨fun h => ?_, fun h => ?_⟩, fun link hon hl => exec_portLinkChange hp hon hl⟩⟩
  · have hrun := exec_fdpFrameRx_alone (d := d) hp hd hup hr hq hptr
    refine ⟨fun h => hrun.trans ?_, fun f => ?_⟩
    · unfold State.datagram
      rw [h]
      rfl
    · obtain ⟨h1, h3, h6, h7, h9⟩ := exec_datagram_kind (d := d) (f := f) hp ((received_fdpReady hp).trans hr) ((received_portUp _ _).trans hup)
      exact ⟨fun h => completes_of hrun (h1 h), fun h => completes_of hrun (h3 h), fun h => completes_of hrun (h6 h),
        fun h => completes_of hrun (h7 h), fun h => completes_of hrun (h9 h)⟩
  · exact ⟨completes_of ((exec_arpRequest hp hd hup).trans (congrArg Host.Outcome.next (if_pos h))) (rxFrame_portSend_outbox hup _),
      completes_of ((exec_icmpEcho hp hd hup payload).trans (congrArg Host.Outcome.next (if_pos h))) (rxFrame_portSend_outbox hup _)⟩
  · exact ⟨completes_of ((exec_arpRequest hp hd hup).trans (congrArg Host.Outcome.next (if_neg h))) (rxFrame_dropped p),
      completes_of ((exec_icmpEcho hp hd hup payload).trans (congrArg Host.Outcome.next (if_neg h))) (rxFrame_dropped p)⟩

end Sys2Proof.Machine
end

section
/-! With nothing waiting, a step is one tick of TCLK (chapter 13, R414; log 46). -/

set_option Elab.async false

namespace Sys2Proof.Machine

variable {s0 s t : State}

/-- The tick counter, the run of the reference unit, the frames that wait at the ports and the progress of an entry into KEEP are as they were. -/
structure SameClock (s t : State) : Prop where
  tclk : t.time.tclk = s.time.tclk
  running : t.time.running = s.time.running
  frames : t.avail.rxQueue = s.avail.rxQueue
  keepStep : t.power.keepStep = s.power.keepStep
  keepSince : t.power.keepSince = s.power.keepSince

theorem sameClock_refl (s : State) : SameClock s s := ⟨rfl, rfl, rfl, rfl, rfl⟩

/-- All parts but those that hold the clock, the waiting frames and the entry into KEEP. -/
abbrev partsOffClock : Nat := 2 ^ 24 - 1 - 2 ^ Part.bit .time - 2 ^ Part.bit .avail - 2 ^ Part.bit .power

theorem SameClock.frame (h : SameClock s0 s) (f : Fr partsOffClock s t) : SameClock s0 t := by
  have ht : t.time = s.time := f.same .time (by decide)
  have ha : t.avail = s.avail := f.same .avail (by decide)
  have hp : t.power = s.power := f.same .power (by decide)
  exact ⟨by rw [ht, h.tclk], by rw [ht, h.running], by rw [ha, h.frames], by rw [hp, h.keepStep], by rw [hp, h.keepSince]⟩

theorem SameClock.ite {c : Prop} [Decidable c] {x y : State} (hx : SameClock s0 x) (hy : SameClock s0 y) : SameClock s0 (if c then x else y) := by
  split
  · exact hx
  · exact hy

theorem SameClock.iteSnd {α : Type} {c : Prop} [Decidable c] {x y : α × State} (hx : SameClock s0 x.2) (hy : SameClock s0 y.2) :
    SameClock s0 (if c then x else y).2 := by
  split
  · exact hx
  · exact hy

theorem SameClock.each {α : Type} {xs : List α} {g : α → State → State} (h : SameClock s0 s) (hg : ∀ x s, SameClock s0 s → SameClock s0 (g x s)) :
    SameClock s0 (s.each xs g) := by
  unfold State.each
  induction xs generalizing s with
  | nil => exact h
  | cons x xs ih => exact ih (hg x s h)

/-! ### Fault records and recoveries -/

theorem SameClock.nvPlace {r : Nat} (h : SameClock s0 s) : SameClock s0 (s.nvPlace r) := by
  unfold State.nvPlace
  split
  · exact ⟨h.tclk, h.running, h.frames, h.keepStep, h.keepSince⟩
  · exact SameClock.ite ⟨h.tclk, h.running, h.frames, h.keepStep, h.keepSince⟩ ⟨h.tclk, h.running, h.frames, h.keepStep, h.keepSince⟩

theorem SameClock.faultRecord {c act i a n d : Nat} (h : SameClock s0 s) : SameClock s0 (s.faultRecord c act i a n d) := by
  have hn (v : State) (f : Fr partsOffClock s v) : SameClock s0 v := h.frame f
  unfold State.faultRecord
  dsimp only
  split
  · exact SameClock.nvPlace (hn _ (fr_notify (by decide) (fr_fire (by decide) (fr_inc32 (by decide) (fr_inc64 (by decide)
      (fr_setReg (by decide) (fr_setReg (by decide) (fr_refl s))))))))
  · exact hn _ (fr_notify (by decide) (fr_fire (by decide) (fr_inc32 (by decide) (fr_inc64 (by decide)
      (fr_setReg (by decide) (fr_setReg (by decide) (fr_refl s)))))))

theorem SameClock.faultStart {c i a d : Nat} (h : SameClock s0 s) : SameClock s0 (s.faultStart c i a d) := by
  have hr : SameClock s0 (s.faultRecord c 0x0C i a noInterruption d) := h.faultRecord
  exact ⟨hr.tclk, hr.running, hr.frames, hr.keepStep, hr.keepSince⟩

theorem SameClock.faultDone {c act i a d : Nat} (h : SameClock s0 s) : SameClock s0 (s.faultDone c act i a d) := by
  unfold State.faultDone
  split
  next r _ =>
    have hr : SameClock s0 { s with avail := { s.avail with recoveries := s.avail.recoveries.erase r } } := ⟨h.tclk, h.running, h.frames, h.keepStep, h.keepSince⟩
    exact SameClock.faultRecord (hr.frame (fr_setReg (by decide) (fr_inc32 (by decide) (fr_refl _))))
  next => exact h.faultRecord

/-! ### The write engine of protected DRAM -/

theorem SameClock.readFails {ch u : Nat} (h : SameClock s0 s) : SameClock s0 (s.readFails ch u) :=
  SameClock.faultRecord (h.frame (fr_inc32 (by decide) (fr_refl s)))

theorem SameClock.engineRead {ch u : Nat} (h : SameClock s0 s) : SameClock s0 (s.engineRead ch u) :=
  SameClock.ite (h.frame (fr_deviceRead (by decide) (fr_refl s))) (SameClock.ite (h.frame (fr_rebuildRead (by decide) (fr_refl s))) h.readFails)

theorem SameClock.closeStripe {x : Nat} (h : SameClock s0 s) : SameClock s0 (s.closeStripe x) := by
  unfold State.closeStripe
  dsimp only
  have hr := h.each (xs := (openPositions (s.dramN - 1) (s.stripeAcc x).closed).map (dataChannel s.dramN x))
    (g := fun c s => s.engineRead c x) fun c v hv => hv.engineRead
  generalize State.each s _ _ = v at hr ⊢
  have hw : SameClock s0 (if ((openPositions (s.dramN - 1) (s.stripeAcc x).closed).map (dataChannel s.dramN x)).isEmpty = true then v.inc64 0x5801 1 1
      else (v.inc64 0x5801 2 1).inc64 0x5801 4 ((openPositions (s.dramN - 1) (s.stripeAcc x).closed).map (dataChannel s.dramN x)).length) :=
    SameClock.ite (hr.frame (fr_inc64 (by decide) (fr_refl v))) (hr.frame (fr_inc64 (by decide) (fr_inc64 (by decide) (fr_refl v))))
  generalize (if ((openPositions (s.dramN - 1) (s.stripeAcc x).closed).map (dataChannel s.dramN x)).isEmpty = true then v.inc64 0x5801 1 1
      else (v.inc64 0x5801 2 1).inc64 0x5801 4 ((openPositions (s.dramN - 1) (s.stripeAcc x).closed).map (dataChannel s.dramN x)).length) = w at hw ⊢
  exact SameClock.ite (hw.frame (fr_markUnit (by decide) (fr_deviceWrite (by decide) (fr_setDdr (by decide) (fr_refl w)))))
    (hw.frame (fr_deviceWrite (by decide) (fr_setDdr (by decide) (fr_refl w))))

theorem SameClock.completeUnit {x : Assembly} {ch i : Nat} (h : SameClock s0 s) : SameClock s0 (s.completeUnit x ch i).2 := by
  unfold State.completeUnit
  split
  · exact h
  · split
    · exact h.engineRead.frame (fr_inc64 (by decide) (fr_refl _))
    · exact (SameClock.engineRead (h.frame (fr_snd (fr_draw (by decide) (fr_refl s))))).frame (fr_inc64 (by decide) (fr_refl _))

theorem SameClock.closeAssembly {x : Assembly} {b : Bool} (h : SameClock s0 s) : SameClock s0 (s.closeAssembly x b) := by
  unfold State.closeAssembly
  have hd : SameClock s0 (s.setDdr { s.ddr with assemblies := s.ddr.assemblies.erase x }) := h.frame (fr_setDdr (by decide) (fr_refl s))
  generalize s.setDdr { s.ddr with assemblies := s.ddr.assemblies.erase x } = v at hd ⊢
  dsimp only
  split
  · exact hd
  · next ch i _ =>
    have he : SameClock s0 ((v.completeUnit x ch i).2.enterStripe ch i (x.unit % (v.dramN - 1)) (v.completeUnit x ch i).1) :=
      hd.completeUnit.frame (fr_enterStripe (by decide) (fr_refl _))
    exact SameClock.ite he.closeStripe he

theorem SameClock.makeRoom (h : SameClock s0 s) : SameClock s0 s.makeRoom := by
  unfold State.makeRoom
  split
  · split
    · exact h.closeAssembly
    · exact h
  · exact h

theorem SameClock.engineWrite {u off cls : Nat} {d : Bytes} (h : SameClock s0 s) : SameClock s0 (s.engineWrite u off d cls) := by
  have hm : SameClock s0 (if (s.assembly u).isSome = true then s else s.makeRoom) := SameClock.ite h h.makeRoom
  unfold State.engineWrite
  dsimp only
  exact SameClock.ite (hm.frame (fr_engineAccept (by decide) (fr_refl _))) (hm.frame (fr_setDdr (by decide) (fr_refl _)))

theorem SameClock.storeUnit {cls u off : Nat} {d : Bytes} (h : SameClock s0 s) : SameClock s0 (s.storeUnit cls u off d) := by
  unfold State.storeUnit
  split
  · exact h
  · have hm (ch : Nat) : SameClock s0 (s.meterU ch cls) := h.frame (fr_meterU (by decide) (fr_refl s))
    exact SameClock.ite (hm _).engineWrite ((hm _).frame (fr_unprotWrite (by decide) (fr_refl _)))

theorem SameClock.store {cls a : Nat} {d : Bytes} (h : SameClock s0 s) : SameClock s0 (s.store cls a d) := h.each fun _ _ hv => hv.storeUnit

theorem SameClock.releaseHeld {ch : Nat} (h : SameClock s0 s) : SameClock s0 (s.releaseHeld ch) :=
  SameClock.each (h.each fun _ _ hv => hv.closeAssembly) fun _ _ hv => hv.closeStripe

/-! ### DRAM reads -/

theorem SameClock.failQueue {ch : Nat} (h : SameClock s0 s) : SameClock s0 (s.failQueue ch) :=
  SameClock.each (h.frame (fr_setDdr (by decide) (fr_refl s))) fun _ _ hv => hv.readFails

theorem SameClock.readUnitOnly {ch u e : Nat} (h : SameClock s0 s) : SameClock s0 (s.readUnitOnly ch u e) := by
  unfold State.readUnitOnly
  dsimp only
  split
  · split
    · refine h.frame ?_
      split
      · exact fr_setReg (by decide) (fr_inc64 (by decide) (fr_deviceRead (by decide) (fr_refl s)))
      · exact fr_deviceRead (by decide) (fr_refl s)
    · have hm : SameClock s0 ((s.deviceRead ch u).markUnit ch u true) := h.frame (fr_markUnit (by decide) (fr_deviceRead (by decide) (fr_refl s)))
      have hs : SameClock s0 (if decide (u < s.protUnits) = true then ((s.deviceRead ch u).markUnit ch u true).faultStart 5 ch 0 (64 * u)
          else (s.deviceRead ch u).markUnit ch u true) := by
        split
        · exact hm.faultStart
        · exact hm
      generalize (if decide (u < s.protUnits) = true then ((s.deviceRead ch u).markUnit ch u true).faultStart 5 ch 0 (64 * u)
          else (s.deviceRead ch u).markUnit ch u true) = v at hs
      refine SameClock.frame ?_ (fr_countUncorrectable (by decide) (fr_refl _))
      split
      · exact (hs.frame (fr_deviceWrite (by decide) (fr_rebuildRead (by decide) (fr_refl v)))).faultDone
      · split
        · exact hs.readFails.faultDone
        · exact hs.readFails
  · split
    · exact h.frame (fr_rebuildRead (by decide) (fr_refl s))
    · exact h.readFails

theorem SameClock.serveReq {r : DramReq} (h : SameClock s0 s) : SameClock s0 (s.serveReq r) := by
  have hq : SameClock s0 (s.setDdr { s.ddr with queue := s.ddr.queue.erase r }) := h.frame (fr_setDdr (by decide) (fr_refl s))
  unfold State.serveReq
  dsimp only
  split
  · exact hq.frame (fr_plainWrite (by decide) (fr_refl _))
  · exact hq.readUnitOnly

theorem SameClock.serveQueue {ch n : Nat} (h : SameClock s0 s) : SameClock s0 (s.serveQueue ch n) := by
  induction n generalizing s with
  | zero => exact h
  | succ n ih =>
    unfold State.serveQueue
    split
    · exact ih h.serveReq
    · exact h

theorem SameClock.backOnline {ch : Nat} (h : SameClock s0 s) : SameClock s0 (s.backOnline ch) := by
  unfold State.backOnline
  refine SameClock.serveQueue (SameClock.frame (SameClock.releaseHeld (h.frame ?_)) (fr_admitWriters (by decide) (fr_refl _)))
  split
  · exact fr_setDdr (by decide) (fr_takeDelays (by decide) (fr_setReg (by decide) (fr_refl s)))
  · exact fr_setReg (by decide) (fr_refl s)

theorem SameClock.channelLost {ch c : Nat} (h : SameClock s0 s) : SameClock s0 (s.channelLost ch c) := by
  unfold State.channelLost
  split
  · exact h
  · refine SameClock.faultDone (SameClock.frame (SameClock.releaseHeld (SameClock.failQueue (SameClock.frame ?_ (fr_modChan (by decide)
      (fr_setReg (by decide) (fr_setReg (by decide) (fr_setReg (by decide) (fr_refl _)))))))) (fr_fire (by decide) (fr_admitWriters (by decide) (fr_refl _))))
    refine SameClock.faultStart ?_
    have hb := h.each (xs := (s.channelsIn 1).filter (fun c => c ≠ ch)) (fun c s hs => hs.backOnline (ch := c))
    generalize s.each ((s.channelsIn 1).filter (fun c => c ≠ ch)) (fun c s => s.backOnline c) = v at hb
    refine hb.frame ?_
    split <;> split
    · exact fr_setReg (by decide) (fr_setReg (by decide) (fr_setDdr (by decide) (fr_refl v)))
    · exact fr_setReg (by decide) (fr_setDdr (by decide) (fr_refl v))
    · exact fr_setReg (by decide) (fr_refl v)
    · exact fr_refl v

theorem SameClock.readUnit {ch u e : Nat} (h : SameClock s0 s) : SameClock s0 (s.readUnit ch u e) := by
  unfold State.readUnit
  dsimp only
  split
  · exact h.readUnitOnly.channelLost
  · exact h.readUnitOnly

theorem SameClock.readRange {cls a n : Nat} (h : SameClock s0 s) : SameClock s0 (s.readRange cls a n) := by
  refine h.each fun u s hs => ?_
  split
  · split
    · exact hs.frame (fr_enqueue (by decide) (fr_meterU (by decide) (fr_refl s)))
    · exact SameClock.readUnit (hs.frame (fr_meterU (by decide) (fr_refl s)))
  · exact hs

/-! ### Accesses of the fabric -/

theorem SameClock.storeAccess {cls n e : Nat} {tgt : FabTarget} {w : Bool} {d : Bytes} (h : SameClock s0 s) :
    SameClock s0 (s.storeAccess cls tgt w d n e).2 := by
  unfold State.storeAccess
  split
  · split
    · exact h
    · dsimp only
      split
      · exact SameClock.iteSnd h h.store
      · exact h.readRange
  · split
    · exact h
    · split
      · exact h
      · refine h.frame ?_
        dsimp only
        split <;> split
        · exact fr_modCore (by decide) (fr_inc32 (by decide) (fr_refl s))
        · exact fr_modCore (by decide) (fr_refl s)
        · exact fr_inc32 (by decide) (fr_refl s)
        · exact fr_refl s
  · exact h

theorem SameClock.fabFault {m c cls i w p : Nat} {wr sec : Bool} (h : SameClock s0 s) : SameClock s0 (s.fabFault m c cls wr sec i w p) := by
  unfold State.fabFault
  dsimp only
  split
  · exact h.frame (fr_inc32 (by decide) (fr_setReg (by decide) (fr_setReg (by decide) (fr_inc32 (by decide) (fr_inc64 (by decide) (fr_refl s))))))
  · refine SameClock.faultRecord ?_
    exact ⟨h.tclk, h.running, h.frames, h.keepStep, h.keepSince⟩

theorem SameClock.walkNow {cls i o : Nat} {w sec : Bool} (h : SameClock s0 s) : SameClock s0 (s.walkNow cls i o w sec).2 := by
  unfold State.walkNow
  have hr : ∀ xs : List Nat, SameClock s0 (s.each xs (fun a s => s.readRange cls a 8)) := fun xs => h.each fun a s hs => hs.readRange
  dsimp only
  split
  · exact (hr _).frame (fr_tlbTouch (by decide) (fr_inc64 (by decide) (fr_refl _)))
  · split
    · exact (hr _).frame (fr_inc64 (by decide) (fr_refl _))
    · exact SameClock.fabFault ((hr _).frame (fr_inc64 (by decide) (fr_refl _)))

theorem SameClock.windowedAccess {m cls w n : Nat} {wr sec : Bool} {d : Bytes} (h : SameClock s0 s) :
    SameClock s0 (s.windowedAccess m cls w wr sec d n).2 := by
  have hx : SameClock s0 (match s.xlate m w wr sec with
      | .miss i => (s.inc64 0x5C01 4 1).walkNow cls i (w - s.reg (0x5C40 + i) 3) wr sec
      | x => (x, s)).2 := by
    split
    · exact SameClock.walkNow (h.frame (fr_inc64 (by decide) (fr_refl s)))
    · exact h
  unfold State.windowedAccess
  dsimp only
  split
  · exact hx.fabFault
  · exact hx.fabFault
  · split
    · exact SameClock.fabFault (hx.frame (fr_inc64 (by decide) (fr_refl _)))
    · split
      · exact SameClock.storeAccess (hx.frame (fr_meter (by decide) (fr_inc64 (by decide) (fr_refl _))))
      · exact SameClock.fabFault (SameClock.storeAccess (hx.frame (fr_meter (by decide) (fr_inc64 (by decide) (fr_refl _)))))

theorem SameClock.writeBack {c a r : Nat} (h : SameClock s0 s) : SameClock s0 (s.writeBack c a r) := by
  unfold State.writeBack
  split
  · split
    · exact h.windowedAccess
    · exact h
  · exact h

theorem SameClock.dmaAbortedNow {c : Nat} (h : SameClock s0 s) : SameClock s0 (s.dmaAbortedNow c) := by
  have hw : SameClock s0 (((s.setReg (0x5D40 + c) 0x0A cAborted).setReg (0x5D40 + c) 0x0C
      (match (s.dma c).desc with | some d => dscLen d - (s.dma c).writeOff | none => 0)).writeBack c cAborted
      (match (s.dma c).desc with | some d => dscLen d - (s.dma c).writeOff | none => 0)) :=
    SameClock.writeBack (h.frame (fr_setReg (by decide) (fr_setReg (by decide) (fr_refl s))))
  exact hw.frame (fr_dmaFaultEvent (by decide) (fr_setDmaRun (by decide) (fr_modDma (by decide) (fr_dropRequests (by decide)
    (fr_dmaRelease (by decide) (fr_refl _))))))

theorem SameClock.dmaPageCmd {c v : Nat} (h : SameClock s0 s) : SameClock s0 (s.dmaPageCmd c v) := by
  unfold State.dmaPageCmd
  split
  · exact h.frame (fr_dmaStart (by decide) (fr_refl s)).fr
  · unfold State.dmaAbort
    split
    · split
      · exact h.frame (fr_setDmaRun (by decide) (fr_refl s))
      · exact h.dmaAbortedNow
    · exact h.frame (fr_setDmaRun (by decide) (fr_refl s))
    · exact h
  · exact h.frame (fr_dmaResume (by decide) (fr_refl s)).fr
  · exact h.frame (fr_dmaResumeNext (by decide) (fr_refl s)).fr
  · exact h

theorem SameClock.modTb {i : Nat} {f : Timebase → Timebase} (h : SameClock s0 s) : SameClock s0 (s.modTb i f) := ⟨h.tclk, h.running, h.frames, h.keepStep, h.keepSince⟩

theorem SameClock.timePage {off : Nat} (h : SameClock s0 s) : SameClock s0 (s.timePage off).2 := by
  unfold State.timePage
  split
  · exact ⟨h.tclk, h.running, h.frames, h.keepStep, h.keepSince⟩
  · split
    · exact h
    · split
      · exact h
      · dsimp only
        split
        case h_1 => exact h.modTb
        all_goals exact h

theorem SameClock.pageRead {tgt : FabTarget} (h : SameClock s0 s) : SameClock s0 (s.pageRead tgt).2 := by
  unfold State.pageRead
  split
  case h_2 => exact h.timePage
  all_goals exact h

theorem SameClock.timePageWrite {i r v : Nat} (h : SameClock s0 s) : SameClock s0 (match r with
    | 0x10 => s.setReg (0x6040 + i) 8 v
    | 0x18 => s.modTb i (fun b => { b with setSec := v % 2 ^ 48 })
    | 0x20 => s.modTb i (fun b => { b with setNs := v / 2 ^ 32, setFrac := v % 2 ^ 32 })
    | 0x28 => if v = 1 then s.tbPageSet i else s
    | _ => s) := by
  split
  · exact h.frame (fr_setReg (by decide) (fr_refl s))
  · exact h.modTb
  · exact h.modTb
  · split
    · exact h.modTb
    · exact h
  · exact h

theorem SameClock.pageWrite {m v : Nat} {tgt : FabTarget} (h : SameClock s0 s) : SameClock s0 (s.pageWrite m tgt v) := by
  unfold State.pageWrite
  split
  · split
    · exact h.frame (fr_setReg (by decide) (fr_refl s))
    · split
      · exact h.dmaPageCmd
      · exact h
  · refine h.frame ?_
    split
    · split
      · exact fr_tlbDrop (by decide) (fr_refl s)
      · exact fr_refl s
    · split
      · split
        · exact fr_modFab (by decide) (fr_refl s)
        · exact fr_refl s
      · exact fr_refl s
  · dsimp only
    split
    · exact h.timePageWrite
    · exact h
  · exact h.frame (fr_dowelPageWrite (by decide) (fr_refl s))
  · split
    · exact h.frame (fr_counterZero (by decide) (fr_refl s))
    · exact h
  · exact h

theorem SameClock.pageAccess {m off len n e : Nat} {tgt : FabTarget} {w sec : Bool} {d : Bytes} (h : SameClock s0 s) :
    SameClock s0 (s.pageAccess m tgt off len w sec d n e).2 := by
  have hreads : ∀ (rs : List Nat) (a : Bytes × State), SameClock s0 a.2 → SameClock s0 (rs.foldl (fun (a : Bytes × State) r =>
      let x := a.2.pageRead (tgt.shift r); (a.1 ++ beBytes 8 x.1, x.2)) a).2 := by
    intro rs
    induction rs with
    | nil => exact fun _ ha => ha
    | cons r rs ih => exact fun a ha => ih _ ha.pageRead
  unfold State.pageAccess
  split
  · exact h
  · split
    · exact h
    · dsimp only
      split
      · split
        · exact h
        · exact h.each fun r s hs => hs.pageWrite
      · exact hreads _ _ h

theorem SameClock.targetAccess {m cls n e : Nat} {tgt : FabTarget} {w sec : Bool} {d : Bytes} (h : SameClock s0 s) :
    SameClock s0 (s.targetAccess m cls tgt w sec d n e).2 := by
  unfold State.targetAccess
  split
  · split <;> exact h
  · split <;> exact h
  · have hw (g : FabricState → FabricState) : SameClock s0 (s.modFab g) := h.frame (fr_modFab (by decide) (fr_refl s))
    split
    · simpa only using hw _
    · exact h
  · split
    · exact h.pageAccess
    · exact h.storeAccess

theorem SameClock.grantReq {w : FabWait} {tgt : FabTarget} (h : SameClock s0 s) : SameClock s0 (s.grantReq w tgt) := by
  unfold State.grantReq
  have ha (v : State) (hv : SameClock s0 v) : SameClock s0 (((v.lockFor w tgt).meter tgt w.req.cls).targetAccess w.master w.req.cls tgt w.req.write
      w.req.secure w.req.data w.req.size w.req.err).2 := SameClock.targetAccess (hv.frame (fr_meter (by decide) (fr_lockFor (by decide) (fr_refl v))))
  have hd (g : FabricState → FabricState) := ha (s.modFab g) (h.frame (fr_modFab (by decide) (fr_refl s)))
  dsimp only
  split
  · refine SameClock.frame ?_ (fr_lockEnd (by decide) (fr_refl _))
    split
    · exact (hd _).frame (fr_finishRequest (by decide) (fr_refl _))
    · exact (hd _).fabFault.frame (fr_finishRequest (by decide) (fr_refl _))
  · split
    · exact (hd _).frame (fr_finishRequest (by decide) (fr_refl _))
    · exact (hd _).fabFault.frame (fr_finishRequest (by decide) (fr_refl _))

theorem SameClock.grantAll {n : Nat} (h : SameClock s0 s) : SameClock s0 (State.grantAll n s) := by
  induction n generalizing s with
  | zero => exact h
  | succ n ih =>
    unfold State.grantAll
    split
    · exact ih h.grantReq
    · exact h

/-! ### The tick -/

/-- The counters of the clock domains that KEEP stops, over one TCLK tick. -/
def State.countersTick (s : State) : State :=
  let x := s.xclkTicks
  let s := (s.each s.levelCounters (fun n s => s.countLevel n x)).xclkCount x
  let s := s.each (List.range 4) (fun i s => s.countV (0xE04 + i) (s.poolUse i))
  s.each (s.prbsLanes true (s.reg 0x2402 2)) (fun m s => s.prbsTx m)

/-- What one TCLK tick does in those domains: the counters, the arbiters' grants, and the units' own ticks. -/
def State.domainsTick (s : State) : State :=
  if s.clocksRun then
    (State.grantAll s.countersTick.fabric.waiting.length s.countersTick).nextPhase.cribTick.dspTick.dramTick.walkTick
  else s

theorem tick_of_running (h : s.time.running = true) : s.tick = s.clockTick.idleSecond.domainsTick.serve.keepAdvance := by
  unfold State.tick State.domainsTick State.countersTick
  rw [if_pos h]

theorem tick_of_stopped (h : s.time.running = false) : s.tick = s.serve := if_neg (by simp [h])

theorem serve_nil (h : s.avail.rxQueue = []) : s.serve = s := by
  unfold State.serve
  rw [h]
  rfl

theorem keepAdvance_idle (h : s.reg 0x2000 1 ≠ 3) : s.keepAdvance = s := by
  show State.keepSteps 5 s = s
  unfold State.keepSteps
  simp [h]

theorem SameClock.tbTick {i : Nat} (h : SameClock s0 s) : SameClock s0 (s.tbTick i) := by
  unfold State.tbTick
  have hm (g : Timebase → Timebase) (c v : Nat) : SameClock s0 ((s.modTb i g).fire c v) := h.modTb.frame (fr_fire (by decide) (fr_refl _))
  exact SameClock.ite (hm _ _ _) h.modTb

theorem clockTick_clock (h : s.time.running = true) : SameClock { s with time := s.time.tickSc (s.reg 0x6000 3) } s.clockTick := by
  have htb : SameClock { s with time := s.time.tickSc (s.reg 0x6000 3) }
      (({ s with time := s.time.tickSc (s.reg 0x6000 3) } : State).each (List.range 8) (fun i s => s.tbTick i)) := by
    exact (sameClock_refl _).each fun _ _ hv => hv.tbTick
  unfold State.clockTick
  rw [if_pos h]
  dsimp only
  generalize State.each _ _ _ = v at htb ⊢
  exact ⟨htb.tclk, htb.running, htb.frames, htb.keepStep, htb.keepSince⟩

theorem idleSecond_clock (s : State) : SameClock s s.idleSecond := (sameClock_refl s).frame (fr_idleSecond (by decide) (fr_refl s))

theorem fr_countersTick {m : Nat} (hm : Within 262434 m) (f : Fr m s0 s) : Fr m s0 s.countersTick :=
  fr_each (fr_each (fr_xclkCount (wt hm) (fr_each f fun _ _ h => fr_countLevel (wt hm) h)) fun _ _ h => fr_countV (wt hm) h)
    fun _ _ h => fr_prbsTx (wt hm) h

theorem low_countersTick : Low 8704 s s.countersTick :=
  low_each (low_each (low_xclkCount (by omega) (low_each (low_refl s) fun _ _ h => low_countLevel (by omega) h)) fun _ _ h => low_countV h)
    fun _ _ h => low_prbsTx h

theorem fr_unitsTick {m : Nat} (hm : Within 37138 m) (f : Fr m s0 s) : Fr m s0 s.nextPhase.cribTick.dspTick.dramTick.walkTick :=
  fr_walkTick (wt hm) (fr_dramTick (wt hm) (fr_dspTick (wt hm) (fr_cribTick (wt hm) (fr_nextPhase (wt hm) f))))

theorem domainsTick_clock (s : State) : SameClock s s.domainsTick := by
  unfold State.domainsTick
  split
  · exact SameClock.frame (SameClock.grantAll ((sameClock_refl s).frame (fr_countersTick (by decide) (fr_refl s)))) (fr_unitsTick (by decide) (fr_refl _))
  · exact sameClock_refl s

theorem domainsTick_nv (h : s.fabric.waiting = []) : s.domainsTick.nv = s.nv := by
  have hc : Fr 262434 s s.countersTick := fr_countersTick (by decide) (fr_refl s)
  have hw : s.countersTick.fabric.waiting = [] := by rw [show s.countersTick.fabric = s.fabric from hc.same .fabric (by decide), h]
  unfold State.domainsTick
  rw [hw]
  split
  · exact (fr_unitsTick (m := 299314) (by decide) (fr_weaken (by decide) hc)).same .nv (by decide)
  · rfl

theorem domainsTick_low (s : State) : Low 8704 s s.domainsTick := by
  unfold State.domainsTick
  split
  · exact low_walkTick (by omega) (low_dramTick (by omega) (low_dspTick (low_cribTick (by omega) (low_nextPhase (low_grantAll (by omega) low_countersTick)))))
  · exact low_refl s

theorem idleSecond_pwState (s : State) : s.idleSecond.reg 0x2000 1 = s.reg 0x2000 1 := by
  unfold State.idleSecond
  split
  · refine each_reg s fun k hk u => ?_
    simp only [List.mem_map, List.mem_range] at hk
    split
    · exact reg_setReg_key _ _ (by simp only [sessIdx, key]; omega)
    · rfl
  · rfl

/-- The clock moves by one tick, and no frame comes. -/
theorem tick_body (h : s.time.running = true) :
    s.clockTick.idleSecond.domainsTick.time.tclk = s.time.tclk + 1 ∧ s.clockTick.idleSecond.domainsTick.avail.rxQueue = s.avail.rxQueue := by
  have hd := domainsTick_clock s.clockTick.idleSecond
  have hi := idleSecond_clock s.clockTick
  have hc := clockTick_clock h
  exact ⟨by rw [hd.tclk, hi.tclk, hc.tclk]; rfl, by rw [hd.frames, hi.frames, hc.frames]⟩

theorem tick_body_pwState (s : State) : s.clockTick.idleSecond.domainsTick.reg 0x2000 1 = s.reg 0x2000 1 := by
  rw [(domainsTick_low _).reg _ _ (by omega) (by omega) (by omega), idleSecond_pwState]
  exact (low_clockTick (L := 8704) (by omega) (low_refl s)).reg _ _ (by omega) (by omega) (by omega)

theorem tick_body_nv (h : s.fabric.waiting = []) : s.clockTick.idleSecond.domainsTick.nv = s.nv := by
  have hc : Fr 322 s s.clockTick.idleSecond := fr_idleSecond (by decide) (fr_clockTick (by decide) (fr_refl s))
  rw [domainsTick_nv (by rw [show s.clockTick.idleSecond.fabric = s.fabric from hc.same .fabric (by decide), h])]
  exact hc.same .nv (by decide)

/-- Settles O2: the clock moves by one, and nothing but a granted request reaches the non-volatile part. -/
theorem emptyQueueStepIsOneTick : Obligations.EmptyQueueStepIsOneTick := by
  intro s hp hq hk
  have hkeeps := keeps_tick (s0 := s) (s := s) (keeps_refl s)
  refine ⟨s.tick, step_of_nil hp, by rw [hkeeps.pending, hp], hkeeps.board, ?_⟩
  cases hr : s.time.running with
  | false =>
    have hsame : s.tick = s := by rw [tick_of_stopped hr, serve_nil hq]
    exact ⟨fun _ => by rw [hsame], fun h => absurd h (by simp), fun _ => hsame⟩
  | true =>
    obtain ⟨hclock, hframes⟩ := tick_body hr
    have hbody : s.tick = s.clockTick.idleSecond.domainsTick := by
      rw [tick_of_running hr, serve_nil (by rw [hframes, hq]), keepAdvance_idle (by rw [tick_body_pwState]; exact hk)]
    exact ⟨fun h => by rw [hbody, tick_body_nv h], fun _ => by rw [hbody, hclock], fun h => absurd h (by simp)⟩

end Sys2Proof.Machine
end

section
/-! Sessions close, keys are set and debug mode starts and ends (chapter 15, R462, R473, R479, R480). -/

set_option Elab.async false

namespace Sys2Proof.Machine

variable {s t : State} {k : Nat}

/-! ### A close -/

/-- The Karosh's own CLOSE of session `k`, when it sends one. -/
def State.closeSent (s : State) (k : Nat) (send : Bool) : State :=
  if send then (s.nextTx k).sendTo k (frameOf kClose k ((s.nextTx k).reg (sessIdx k) 7) [] ((s.nextTx k).session k).key) else s

/-- Debug mode ends with the session that started it (R480). -/
def State.debugEnds (s : State) (k : Nat) : State := if s.flag 0x1050 1 && s.reg 0x1050 3 = k then s.debugLeave else s

/-- The channels that session `k` owns are disabled, and its input is emptied. -/
def State.channelsFreed (s : State) (u : State) (k : Nat) : State :=
  let v := u.each ((List.range 256).filter (fun c => s.reg (0x6900 + c) 3 = 0x20 + k)) (fun c s => s.channelDisable c)
  v.setInput (0x380 + k) { v.input (0x380 + k) with held := none, queued := none }

/-- What is left of session `k` is freed, and the other sessions are told. -/
def State.sessionFreed (s : State) (k role : Nat) : State :=
  (s.channelsFreed (s.freeSession k) k).notifyBut k 4 5 (BitVec.ofNat 8 k :: BitVec.ofNat 8 role :: 1 :: zeroBytes 13)

theorem closeSession_eq (ho : s.sessionOpen k = true) (hserv : s.dict.serving = none) (send : Bool) :
    s.closeSession k send = (((s.closeSent k send).abandon k).debugEnds k).sessionFreed k (s.role k) := by
  unfold State.closeSession
  rw [if_neg (by simp [ho]), if_neg (by simp [hserv])]
  rfl

/-- The entries of session `k` read their defaults, and it holds neither key nor transfer. -/
def SessionClosed (k : Nat) (t : State) : Prop := (∀ b, 1 ≤ b → b ≤ 10 → t.reg (0x102F + k) b = 0) ∧ (t.session k).key = [] ∧ (t.session k).transfer = none

theorem each_setReg_zero {i b : Nat} (hb : b < 256) (js : List Nat) (hjs : ∀ j ∈ js, j < 256) (h : b ∈ js ∨ s.reg i b = 0) :
    (s.each js (fun j s => s.setReg i j 0)).reg i b = 0 := by
  unfold State.each
  induction js generalizing s with
  | nil => exact h.resolve_left List.not_mem_nil
  | cons j js ih =>
    refine ih (fun n hn => hjs n (List.mem_cons_of_mem j hn)) ?_
    have hj := hjs j List.mem_cons_self
    by_cases hbj : b = j
    · exact .inr (by rw [hbj]; exact reg_setReg_same ..)
    · refine h.imp (fun hm => (List.mem_cons.1 hm).resolve_left hbj) fun hz => ?_
      rw [reg_setReg_key _ _ (by simp only [key]; omega), hz]

theorem nthD_modNth_const {α : Type} (d : α) (xs : List α) (i : Nat) : nthD d (modNth (fun _ => d) xs i) i = d := by
  induction xs generalizing i with
  | nil => rfl
  | cons x xs ih =>
    cases i with
    | zero => rfl
    | succ i => exact ih i

theorem freeSession_zero {b : Nat} (h : 1 ≤ b ∧ b ≤ 10) : (s.freeSession k).reg (0x102F + k) b = 0 :=
  each_setReg_zero (s := s) (i := 0x102F + k) (by omega) _ (fun j hj => by simp only [List.mem_map, List.mem_range] at hj; omega) (.inl (List.mem_map.2 ⟨b - 1, List.mem_range.2 (by omega), by omega⟩))

theorem freeSession_session : (s.freeSession k).session k = Session.reset := by
  unfold State.session
  rw [freeSession_sessions]
  exact nthD_modNth_const _ _ _

theorem fr_channelsFreed {m : Nat} (hm : Within 258 m) {s0 u : State} (h : Fr m s0 u) : Fr m s0 (s.channelsFreed u k) :=
  fr_setInput (wt hm) (fr_each h fun _ _ h => fr_channelDisable (wt hm) h)

theorem low_channelsFreed {L : Nat} (hL : L ≤ 26880) {s0 u : State} (h : Low L s0 u) : Low L s0 (s.channelsFreed u k) :=
  low_setInput (low_each h fun _ _ h => low_channelDisable hL h)

theorem sessionFreed_closed (hk : k ≤ 8) (role : Nat) : SessionClosed k (s.sessionFreed k role) := by
  have hs : (s.channelsFreed (s.freeSession k) k).session k = Session.reset := by
    rw [session_congr ((fr_channelsFreed (m := 258) (by decide) (fr_refl (s.freeSession k))).same .sessions (by decide)), freeSession_session]
  refine ⟨fun b h1 h10 => ?_, ?_, ?_⟩
  · have hlow : Low 26880 (s.freeSession k) (s.sessionFreed k role) := low_notifyBut (low_channelsFreed (by omega) (low_refl _))
    rw [hlow.reg _ _ (by omega) (by omega) (by omega), freeSession_zero ⟨h1, h10⟩]
  · exact (notifyBut_session Session.key enqueue_key _ _ _ _ k).trans (congrArg Session.key hs)
  · exact (notifyBut_session Session.transfer enqueue_transfer _ _ _ _ k).trans (congrArg Session.transfer hs)

theorem closeSession_closed (ho : s.sessionOpen k = true) (hserv : s.dict.serving = none) (send : Bool) : SessionClosed k (s.closeSession k send) := by
  rw [closeSession_eq ho hserv]
  exact sessionFreed_closed (sessionOpen_range ho).2 _

theorem closeSent_outbox (hp : s.portSends (s.reg (0x102F + k) 5) = true) : (s.closeSent k true).outbox =
    s.outbox ++ [.udp (s.reg (0x102F + k) 5) (s.reg (0x102F + k) 3) (s.reg (0x102F + k) 4) (frameOf 7 k (s.nextSeq k) [] (s.session k).key)] := by
  have hpeer : SamePeer s (s.nextTx k) k := samePeer_setReg (by omega) (by unfold sessIdx; omega) (by omega)
  exact (sendTo_outbox hpeer hp _).trans (by rw [show (s.nextTx k).reg (sessIdx k) 7 = s.nextSeq k from nextTx_seq]; rfl)

theorem fr_debugEnds {m : Nat} (hm : Within 525571 m) {s0 : State} (h : Fr m s0 s) : Fr m s0 (s.debugEnds k) := by
  unfold State.debugEnds
  split
  · exact fr_debugLeave hm h
  · exact h

/-- What follows the CLOSE of the Karosh sends nothing. -/
theorem closeSession_outbox (ho : s.sessionOpen k = true) (hserv : s.dict.serving = none) (send : Bool) :
    (s.closeSession k send).outbox = (s.closeSent k send).outbox := by
  rw [closeSession_eq ho hserv]
  exact (fr_notifyBut (m := 525571) (by decide) (fr_channelsFreed (by decide) (fr_freeSession (by decide) (fr_debugEnds (by decide)
    (fr_abandon (by decide) (fr_refl _)))))).same .outbox (by decide)

/-! ### The keys of the roles -/

theorem nvPlace_keys (r : Nat) : (s.nvPlace r).nv.keys = s.nv.keys := by
  unfold State.nvPlace
  split
  · rfl
  · split <;> rfl

theorem faultRecord_keys (c act i a n d : Nat) : (s.faultRecord c act i a n d).nv.keys = s.nv.keys := by
  have hn : ∀ u : State, Fr 524546 s u → (if nvClass c then u.nvPlace (faultBytes (s.tb80 0) (s.reg 0x7000 7 % 2 ^ 32) c act i a n d) else u).nv.keys = s.nv.keys := by
    intro u hu
    have hnv : u.nv = s.nv := hu.same .nv (by decide)
    split
    · rw [nvPlace_keys, hnv]
    · rw [hnv]
  exact hn _ (fr_notify (by decide) (fr_fire (by decide) (fr_inc32 (by decide) (fr_inc64 (by decide) (fr_setReg (by decide) (fr_setReg (by decide) (fr_refl s)))))))

theorem closeSession_keys (send : Bool) : (s.closeSession k send).nv.keys = s.nv.keys := by
  by_cases ho : s.sessionOpen k = true
  · by_cases hserv : s.dict.serving.any (fun p => p.1 = k) = true
    · unfold State.closeSession
      rw [if_neg (by simp [ho]), if_pos hserv]
    · have heq : s.closeSession k send = (((s.closeSent k send).abandon k).debugEnds k).sessionFreed k (s.role k) := by
        unfold State.closeSession
        rw [if_neg (by simp [ho]), if_neg hserv]
        rfl
      have hfree (u : State) : (u.sessionFreed k (s.role k)).nv = u.nv :=
        (fr_notifyBut (m := 524546) (by decide) (fr_channelsFreed (by decide) (fr_freeSession (by decide) (fr_refl u)))).same .nv (by decide)
      have hdebug (u : State) : (u.debugEnds k).nv.keys = u.nv.keys := by
        unfold State.debugEnds
        split
        · exact faultRecord_keys ..
        · rfl
      have habandon (u : State) : (u.abandon k).nv = u.nv := (fr_abandon (m := 524290) (by decide) (fr_refl u)).same .nv (by decide)
      have hsent : (s.closeSent k send).nv = s.nv := by
        unfold State.closeSent
        split
        · exact portSend_nv _ _
        · rfl
      rw [heq, hfree, hdebug, habandon, hsent]
  · unfold State.closeSession
    rw [if_pos (by simp [ho])]

theorem closeWhere_keys (p : Nat → Bool) : (s.closeWhere p).nv.keys = s.nv.keys := by
  have hstep (k : Nat) (u : State) : (if u.sessionOpen k && p k then u.closeSession k true else u).nv.keys = u.nv.keys := by
    rw [apply_ite State.nv, apply_ite Nv.keys, closeSession_keys, ite_self]
  unfold State.closeWhere
  exact each_same (fun u : State => u.nv.keys) hstep _ s

theorem exec_keySet {sess role : Nat} {newKey : Bytes} (h : role < 4) (hlen : newKey.length = 32) (hl : s.lets sess 0x1040 (role + 1)) :
    exec (.keySet sess role newKey) s = .next (s.commanded sess 0x1040 (role + 1) (ofBytes newKey) (cmdKeySet sess role newKey s)) := by
  have hw := sessionWrite_cmd (data := newKey) hl (row_keySet h) rfl hlen (by omega) (by simp [Row.names, Row.inRange, Nat.mod_one])
  have hc : s.command sess 0x1040 (role + 1) (ofBytes newKey) newKey = cmdKeySet sess role newKey s := by
    simp [State.command, State.cmdStopped, State.systemCmd]
  show inst (decide (role < 4)) _ = _
  rw [hw, hc, inst_ok (decide_eq_true h)]

theorem completes_keySet {sess role : Nat} {newKey : Bytes} (h : role < 4) (hlen : newKey.length = 32) (hl : s.lets sess 0x1040 (role + 1))
    (hrule : ¬(role = 2 ∧ newKey.all (fun b => b = 0) = true)) (hkeys : role < s.nv.keys.length) :
    Completes (.keySet sess role newKey) s (fun t => nthD none t.nv.keys role = if newKey.all (fun b => b = 0) then none else some newKey) := by
  refine completes_of (exec_keySet h hlen hl) ?_
  unfold cmdKeySet
  rw [if_neg (by simpa [and_comm] using hrule), commanded_ok, result_nv, closeWhere_keys]
  exact nthD_modNth _ _ _ _ hkeys

/-! ### Debug mode -/

theorem faultRecord_debug (c act i a n d b : Nat) (hb : b < 256) : (s.faultRecord c act i a n d).reg 0x1050 b = s.reg 0x1050 b :=
  (low_faultRecord (L := 27200) (by omega) (low_refl s)).reg _ _ (by omega) hb (by omega)

theorem completes_debugEnter {sess : Nat} (hl : s.lets sess 0x1050 2) (hoff : s.reg 0x1050 1 = 0) :
    Completes (.debugEnter sess) s (fun t => t.reg 0x1050 1 = 1 ∧ t.reg 0x1050 3 = sess) := by
  refine completes_of (exec_debugEnter hl) ?_
  have hc : cmdDebug sess 1 s = .ok (s.debugEnter sess) := by
    unfold cmdDebug accept State.flag
    simp [hoff]
  rw [hc, commanded_ok]
  unfold State.debugEnter
  refine ⟨(result_reg ..).trans ?_, (result_reg ..).trans ?_⟩
  · rw [faultRecord_debug _ _ _ _ _ _ _ (by omega), reg_setReg_key _ _ (by decide), reg_setReg_same]
  · rw [faultRecord_debug _ _ _ _ _ _ _ (by omega), reg_setReg_same]

theorem completes_debugLeave {sess : Nat} (hl : s.lets sess 0x1050 2) (hon : s.reg 0x1050 1 ≠ 0) :
    Completes (.debugLeave sess) s (fun t => t.reg 0x1050 1 = 0 ∧ t.reg 0x1050 3 = 0) := by
  refine completes_of (exec_debugLeave hl) ?_
  have hc : cmdDebug sess 2 s = .ok s.debugLeave := by
    unfold cmdDebug accept State.flag
    simp [hon]
  rw [hc, commanded_ok]
  unfold State.debugLeave
  refine ⟨(result_reg ..).trans ?_, (result_reg ..).trans ?_⟩
  · rw [faultRecord_debug _ _ _ _ _ _ _ (by omega), reg_setReg_key _ _ (by decide), reg_setReg_same]
  · rw [faultRecord_debug _ _ _ _ _ _ _ (by omega), reg_setReg_same]

/-! ### The rows -/

theorem completes_sessionIdleTimeout (ho : s.sessionOpen k = true) (hserv : s.dict.serving = none) :
    Completes (.sessionIdleTimeout k) s (fun t => SessionClosed k t ∧ (s.portSends (s.reg (0x102F + k) 5) = true → t.outbox = s.outbox ++
      [.udp (s.reg (0x102F + k) 5) (s.reg (0x102F + k) 3) (s.reg (0x102F + k) 4) (frameOf 7 k (s.nextSeq k) [] (s.session k).key)])) := by
  obtain ⟨h1, h8⟩ := sessionOpen_range ho
  have hrun : exec (.sessionIdleTimeout k) s = .next (s.closeSession k true) := if_pos (by simp [h1, h8])
  exact completes_of hrun ⟨closeSession_closed ho hserv true, fun hp => (closeSession_outbox ho hserv true).trans (closeSent_outbox hp)⟩

theorem completes_sessionClose {sess : Nat} (ho : s.sessionOpen k = true) (hserv : s.dict.serving = none) (hl : s.lets sess (0x102F + k) 11)
    (hmay : sess = k ∨ s.role sess = 2) : Completes (.sessionClose sess k) s (SessionClosed k) := by
  obtain ⟨h1, h8⟩ := sessionOpen_range ho
  refine completes_of (exec_sessionClose h1 h8 hl) ?_
  have hc : cmdSessionClose sess k s = .ok (s.closeSession k true) := by
    unfold cmdSessionClose
    rw [if_neg (by simpa [imp_iff_not_or] using hmay), if_neg (by simp [ho])]
  obtain ⟨hz, hkey, htr⟩ := closeSession_closed ho hserv true
  rw [hc, commanded_ok]
  have hs : ((s.closeSession k true).result sess 2 (0x102F + k) 11 (.of stOk)).session k = (s.closeSession k true).session k :=
    session_congr (result_dict_sessions ..) k
  exact ⟨fun b hb1 hb10 => (result_reg ..).trans (hz b hb1 hb10), by rw [hs]; exact hkey, by rw [hs]; exact htr⟩

theorem completes_closeFrame {peer : Peer} {f : FdpFrame} (h : Authentic s peer f) (hserv : s.dict.serving = none)
    (hnew : s.seqNew f.session f.seq = true) : Completes (.closeFrame peer f) s (SessionClosed f.session) := by
  refine completes_of (h.run _) ?_
  unfold State.rxClose
  rw [h.inSession, if_pos (by rw [seqNew_heard, hnew])]
  have hopen : ((s.heard f.session).seqDone f.session f.seq).sessionOpen f.session = true := inHand_open (q := f.seq) h.isOpen
  exact closeSession_closed hopen hserv false

theorem completes_transferAbandoned {x : Transfer} (h1 : 1 ≤ k) (h8 : k ≤ 8) (hlen : k - 1 < s.dict.sessions.length) (hx : (s.session k).transfer = some x) :
    Completes (.transferAbandoned k) s (fun t => (t.session k).transfer = none ∧
      ∀ j, j ≠ k - 1 → (nthD Session.reset t.dict.sessions j).transfer = (nthD Session.reset s.dict.sessions j).transfer) := by
  have hrun : exec (.transferAbandoned k) s = .next (s.abandon k) := if_pos (by simp [h1, h8])
  have heq : s.abandon k = (s.modSession k (fun x => { x with transfer := none })).abortLog 5 k (x.key / 256) (x.key % 256) 0 0 := by
    unfold State.abandon
    rw [hx]
  have hlog (u : State) (i a c d e : Nat) (j : Nat) : ((u.abortLog i a c d e 0).session j).transfer = (u.session j).transfer :=
    notifyBut_session Session.transfer enqueue_transfer ..
  refine completes_of hrun ?_
  rw [heq]
  refine ⟨(hlog _ _ _ _ _ _ k).trans (congrArg Session.transfer (session_modSession _ hlen)), fun j hj => ?_⟩
  exact (hlog _ _ _ _ _ _ (j + 1)).trans (congrArg Session.transfer (nth_modNth_ne _ _ _ _ _ (Ne.symm hj)))

/-- Settles O13: a close frees what its session held, a key is replaced, debug mode follows its command, and a transfer is dropped. -/
theorem sessionsCloseAndKeysAreSet : Obligations.SessionsCloseAndKeysAreSet := by
  refine ⟨fun s k ho hserv => ⟨completes_sessionIdleTimeout ho hserv, fun sess hl hmay => completes_sessionClose ho hserv hl hmay, ?_⟩,
    fun s sess => ⟨fun role newKey h hlen hl hrule hkeys => completes_keySet h hlen hl hrule hkeys, completes_debugEnter, completes_debugLeave,
      fun k x h1 h8 hlen hx => completes_transferAbandoned h1 h8 hlen hx⟩⟩
  rintro peer f hport hready hup rfl htag h5 h3 h4 hnew
  exact completes_closeFrame ⟨hport, hready, hup, ho, htag, h5, h3, h4⟩ hserv hnew

end Sys2Proof.Machine
end

section
/-! Housekeeping rounds and the test access port (chapters 18 and 19, R536 to R541, R551, R569). -/

set_option Elab.async false

namespace Sys2Proof.Machine

variable {s t : State} {j b : Nat}

theorem ite_reg {c : Prop} [Decidable c] {x y : State} (h : x.reg j b = y.reg j b) : (if c then x else y).reg j b = y.reg j b := by
  split
  · exact h
  · rfl

/-- What a loop over instances leaves in the entry of one of them, when the others do not touch it. -/
theorem each_range_reg {f : Nat → State → State} {n i v : Nat} (hi : i < n) (hv : ∀ s, (f i s).reg j b = v)
    (ho : ∀ m s, m < n → m ≠ i → (f m s).reg j b = s.reg j b) (s : State) : (s.each (List.range n) f).reg j b = v := by
  induction n with
  | zero => exact absurd hi (Nat.not_lt_zero _)
  | succ n ih =>
    rw [each_range_succ]
    by_cases hn : n = i
    · rw [hn]; exact hv _
    · rw [ho n _ (by omega) hn]; exact ih (by omega) fun m s hm => ho m s (by omega)

/-! ### What stays in housekeeping's entries -/

theorem powerOff_reg (hb : b < 256) (hj : 0x7400 ≤ j ∧ j ≤ 0x7431) : s.powerOff.reg j b = s.reg j b := by
  have hkept : (s.resetUnits keptInOff).reg j b = s.reg j b := by
    unfold State.resetUnits State.reg
    dsimp only
    rw [lookup_filter, keptInOff_key hb, if_pos (by simp [hj])]
    rfl
  exact (reg_setReg_key _ _ (by simp only [key]; omega)).trans hkept

theorem thermalShutdown_reg (hb : b < 256) (hj : 0x7400 ≤ j ∧ j ≤ 0x7431) : s.thermalShutdown.reg j b = s.reg j b := by
  refine ite_reg ?_
  rw [powerOff_reg hb hj, modPower_reg, nvRecord_reg _ _ _ _ hb (by omega)]

theorem drainDeferred_reg (hb : b < 256) (hj : j ≠ 0x7480) : s.drainDeferred.reg j b = s.reg j b :=
  ite_reg (each_reg (s.modPower fun p => { p with deferred := [] }) fun _ _ _ => nvPlace_reg _ _ hb hj)

theorem roundTimes_reg (h : key j b ≠ key 0x7400 0x0F) (h' : key j b ≠ key 0x2000 0x0D) (h'' : key j b ≠ key 0x7400 0x0E) :
    s.roundTimes.reg j b = s.reg j b := by
  unfold State.roundTimes
  dsimp only
  rw [ite_reg (inc64_reg_key _ _ h''), ite_reg (inc64_reg_key _ _ h'), inc64_reg_key _ _ h]

theorem roundTimes_rounds (s : State) : s.roundTimes.reg 0x7400 0x0F = wrapAdd64 (s.reg 0x7400 0x0F) 1 := by
  unfold State.roundTimes
  dsimp only
  rw [ite_reg (inc64_reg_key _ _ (by decide)), ite_reg (inc64_reg_key _ _ (by decide)), inc64_reg_same]

/-- The flags of 7400h.0B after a round (R539, R540). -/
def State.thermalFlags (s : State) : Nat :=
  let tj := s.sreg 16 0x7400 1
  let old := s.reg 0x7400 0x0B
  let force := s.flag 0x7400 0x0A
  ofBool (thermalHold tj (16 * (s.reg 0x7400 4 : Int)) (bitAt old 0)) +
    2 * ofBool (thermalHold tj (16 * (s.reg 0x7400 5 : Int)) (bitAt old 1 || (bitAt old 2 && !force))) + 4 * ofBool force

theorem thermalState_reg (hb : b < 256) (hj : 0x7400 ≤ j ∨ j = 0x2000 ∧ b = 1) (h : j ≠ 0x7400 ∨ b ≠ 0x0C ∧ b ≠ 0x0D) :
    s.thermalState.reg j b = (s.setReg 0x7400 0x0B s.thermalFlags).reg j b := by
  have hovf : ¬isCounterOvf (key j b) := by
    simp only [isCounterOvf, key]
    omega
  have hc : key j b ≠ key 0x7400 0x0C := by simp only [key]; omega
  have hd : key j b ≠ key 0x7400 0x0D := by simp only [key]; omega
  have h2 : key j b ≠ key 0x2000 2 := by simp only [key]; omega
  have h3 : key j b ≠ key 0x2000 3 := by simp only [key]; omega
  unfold State.thermalState
  dsimp only
  rw [reg_setReg_key _ _ h3, reg_setReg_key _ _ h2, modPower_reg, ite_reg (inc32_reg_key _ _ hd)]
  refine ite_reg ?_
  unfold State.whenB
  rw [ite_reg (fire_reg _ _ _ hovf), inc32_reg_key _ _ hc]

theorem bitAt_flags (w d e : Bool) : bitAt (ofBool w + 2 * ofBool d + 4 * ofBool e) 0 = w := by
  cases w <;> cases d <;> cases e <;> rfl

theorem thermalFlags_warn (s : State) : bitAt s.thermalFlags 0 = thermalHold (s.sreg 16 0x7400 1) (16 * (s.reg 0x7400 4 : Int)) (bitAt (s.reg 0x7400 0x0B) 0) :=
  bitAt_flags _ _ _

/-- The values that a round takes, in the units of the sensors. -/
def State.sensorValues (s : State) (raw : List Int) (free : Nat) : List Int := (List.range 32).map (sensorValue (s.reg 0x7412 1) raw free)

theorem junction_reg (raw : List Int) (free : Nat) (hb : b < 256) (h0 : j ≠ 0x7410) (h1 : j ≠ 0x7411) (h : j ≠ 0x7400 ∨ 3 < b) :
    (s.junction raw free).reg j b = s.reg j b := by
  unfold State.junction
  dsimp only
  rw [reg_setReg_key _ _ (by simp only [key]; omega), reg_setReg_key _ _ (by simp only [key]; omega), reg_setReg_key _ _ (by simp only [key]; omega)]
  refine each_reg s fun n hn u => ?_
  have := List.mem_range.1 hn
  rw [reg_setReg_key _ _ (by simp only [key]; omega), reg_setReg_key _ _ (by simp only [key]; omega)]

theorem junction_sensor (raw : List Int) (free : Nat) {n : Nat} (hn : n < 32) :
    (s.junction raw free).reg 0x7410 (n + 1) = ofSigned 16 ((s.sensorValues raw free).getD n 0) ∧
    (s.junction raw free).reg 0x7411 (n + 1) = ofSigned 16 (raw.getD n 0) := by
  unfold State.junction
  dsimp only
  constructor
  · rw [reg_setReg_key _ _ (by simp only [key]; omega), reg_setReg_key _ _ (by simp only [key]; omega), reg_setReg_key _ _ (by simp only [key]; omega)]
    refine each_range_reg hn (fun u => ?_) (fun m u _ hm => ?_) s
    · rw [reg_setReg_key _ _ (by simp only [key]; omega), reg_setReg_same]
      rfl
    · rw [reg_setReg_key _ _ (by simp only [key]; omega), reg_setReg_key _ _ (by simp only [key]; omega)]
  · rw [reg_setReg_key _ _ (by simp only [key]; omega), reg_setReg_key _ _ (by simp only [key]; omega), reg_setReg_key _ _ (by simp only [key]; omega)]
    refine each_range_reg hn (fun u => reg_setReg_same ..) (fun m u _ hm => ?_) s
    rw [reg_setReg_key _ _ (by simp only [key]; omega), reg_setReg_key _ _ (by simp only [key]; omega)]

theorem junction_hottest (raw : List Int) (free : Nat) :
    (s.junction raw free).reg 0x7400 1 = ofSigned 16 ((s.sensorValues raw free).getD (hottest (s.sensorValues raw free)) 0) ∧
    (s.junction raw free).reg 0x7400 3 = hottest (s.sensorValues raw free) := by
  unfold State.junction
  dsimp only
  constructor
  · rw [reg_setReg_key _ _ (by decide), reg_setReg_key _ _ (by decide), reg_setReg_same]
    rfl
  · rw [reg_setReg_key _ _ (by decide), reg_setReg_same]
    rfl

theorem sensorTest_reg (raw : List Int) (hb : b < 256) (hj : 0x7400 ≤ j ∧ j ≤ 0x7431) (h : j ≠ 0x7412) : (s.sensorTest raw).reg j b = s.reg j b := by
  unfold State.sensorTest
  dsimp only
  refine (each_reg _ fun n hn u => ?_).trans ?_
  · exact faultRecord_reg _ _ _ _ _ _ _ hb (by omega) (by omega) (by omega) (by omega) (by simp only [isCounterOvf, key]; omega) (by omega)
  · rw [reg_setReg_key _ _ (by simp only [key]; omega), reg_setReg_key _ _ (by simp only [key]; omega), modPower_reg]

/-- With every sensor good and none about to fail, a round writes no fault record. -/
theorem sensorTest_good {raw : List Int} (h0 : s.reg 0x7412 1 = 0) (hn : ∀ n, n < 32 → mismatchNext 0 raw (nthD 0 s.power.mismatch n) n < 3) :
    ∃ c x, s.sensorTest raw = ((s.modPower (fun p => { p with mismatch := c })).setReg 0x7412 1 0).setReg 0x7412 2 x := by
  have hbit (n : Nat) : bitAt 0 n = false := by simp [bitAt]
  unfold State.sensorTest
  simp only [h0, hbit, Bool.false_eq_true, if_false, Bool.not_false, Bool.true_and]
  have hfresh : (List.range 32).filter (fun n => decide (3 ≤ ((List.range 32).map (fun n => mismatchNext 0 raw (nthD 0 s.power.mismatch n) n)).getD n 0)) = [] := by
    refine List.filter_eq_nil_iff.2 fun n hmem => ?_
    have hlt := List.mem_range.1 hmem
    have := hn n hlt
    simp only [decide_eq_true_eq, List.getD_eq_getElem?_getD, List.getElem?_map, List.getElem?_range hlt, Option.map_some, Option.getD_some]
    omega
  rw [hfresh]
  exact ⟨_, _, rfl⟩

/-! ### The round -/

/-- The readings of the voltage and current channels are taken. -/
def State.channelsRead (s : State) (volts amps : List Nat) : State :=
  (s.each (List.range 40) (fun v s => s.setReg 0x7420 (v + 1) (volts.getD v 0 % 65536))).each (List.range 24)
    (fun c s => s.setReg 0x7430 (c + 1) (amps.getD c 0 % 65536))

theorem channelsRead_reg (volts amps : List Nat) (hb : b < 256) (h : j ≠ 0x7420) (h' : j ≠ 0x7430) : (s.channelsRead volts amps).reg j b = s.reg j b := by
  refine (each_reg _ fun c hc u => ?_).trans (each_reg _ fun c hc u => ?_) <;>
    have := List.mem_range.1 hc <;> exact reg_setReg_key _ _ (by simp only [key]; omega)

theorem channelsRead_volt (volts amps : List Nat) {v : Nat} (hv : v < 40) : (s.channelsRead volts amps).reg 0x7420 (v + 1) = volts.getD v 0 % 65536 := by
  refine (each_reg _ fun c hc u => ?_).trans (each_range_reg hv (fun u => reg_setReg_same ..) (fun m u _ hm => ?_) s)
  · have := List.mem_range.1 hc
    exact reg_setReg_key _ _ (by simp only [key]; omega)
  · exact reg_setReg_key _ _ (by simp only [key]; omega)

theorem channelsRead_amp (volts amps : List Nat) {c : Nat} (hc : c < 24) : (s.channelsRead volts amps).reg 0x7430 (c + 1) = amps.getD c 0 % 65536 :=
  each_range_reg hc (fun u => reg_setReg_same ..) (fun m u _ hm => reg_setReg_key _ _ (by simp only [key]; omega)) _

/-- The state of a round before the test of its sensors. -/
def State.roundRead (s : State) (volts amps : List Nat) : State := ((s.channelsRead volts amps).draw 16).2

theorem roundRead_reg (volts amps : List Nat) (j b : Nat) : (s.roundRead volts amps).reg j b = (s.channelsRead volts amps).reg j b := draw_reg ..

theorem roundRead_power (volts amps : List Nat) : (s.roundRead volts amps).power = s.power :=
  (draw_power ..).trans
    ((fr_each (m := 2) (fr_each (fr_refl s) fun _ _ h => fr_setReg (by decide) h) fun _ _ h => fr_setReg (by decide) h).same .power (by decide))

/-- The state of a round once its junction temperature is known. -/
def State.roundTaken (s : State) (temps : List Int) (volts amps : List Nat) : State :=
  ((s.roundRead volts amps).sensorTest temps).junction temps ((s.channelsRead volts amps).draw 16).1

theorem exec_housekeepingRound (temps : List Int) (volts amps : List Nat) : exec (.housekeepingRound temps volts amps) s =
    .next (s.roundTaken temps volts amps).roundTimes.thermalState.thermalShutdown.drainDeferred := by
  show execHousekeepingRound temps volts amps s = _
  unfold execHousekeepingRound State.roundTaken State.roundRead State.channelsRead
  dsimp only

theorem round_end_reg (hb : b < 256) (hj : 0x7400 ≤ j ∧ j ≤ 0x7431) (h : j ≠ 0x7400 ∨ b ≠ 0x0B ∧ b ≠ 0x0C ∧ b ≠ 0x0D ∧ b ≠ 0x0E ∧ b ≠ 0x0F) :
    s.roundTimes.thermalState.thermalShutdown.drainDeferred.reg j b = s.reg j b := by
  rw [drainDeferred_reg hb (by omega), thermalShutdown_reg hb hj, thermalState_reg hb (by omega) (by omega),
    reg_setReg_key _ _ (by simp only [key]; omega), roundTimes_reg (by simp only [key]; omega) (by simp only [key]; omega) (by simp only [key]; omega)]

theorem roundTaken_reg (temps : List Int) (volts amps : List Nat) (hb : b < 256) (hj : 0x7400 ≤ j ∧ j ≤ 0x7431) (h : j ≠ 0x7400 ∨ 3 < b)
    (h0 : j ≠ 0x7410) (h1 : j ≠ 0x7411) (h2 : j ≠ 0x7412) : (s.roundTaken temps volts amps).reg j b = (s.channelsRead volts amps).reg j b := by
  unfold State.roundTaken
  rw [junction_reg _ _ hb h0 h1 h, sensorTest_reg _ hb hj h2, roundRead_reg]

theorem round_count (temps : List Int) (volts amps : List Nat) :
    (s.roundTaken temps volts amps).roundTimes.thermalState.thermalShutdown.drainDeferred.reg 0x7400 0x0F = wrapAdd64 (s.reg 0x7400 0x0F) 1 := by
  rw [drainDeferred_reg (by omega) (by omega), thermalShutdown_reg (by omega) (by omega), thermalState_reg (by omega) (by omega) (by omega),
    reg_setReg_key _ _ (by decide), roundTimes_rounds, roundTaken_reg _ _ _ (by omega) (by omega) (by omega) (by omega) (by omega) (by omega),
    channelsRead_reg _ _ (by omega) (by omega) (by omega)]

/-! ### A round with every sensor good -/

theorem ite_power {c : Prop} [Decidable c] {x y : State} (h : x.power = y.power) : (if c then x else y).power = y.power := by
  split
  · exact h
  · rfl

theorem thermalState_power (s : State) : ∃ n, s.thermalState.power = { s.power with skipN := n } := by
  have hfire (u : State) (c v : Nat) : (u.fire c v).power = u.power := (fr_fire (m := 258) (by decide) (fr_refl u)).same .power (by decide)
  have hset (u : State) (f : PowerState → PowerState) (m v : Nat) : (((u.modPower f).setReg 0x2000 2 m).setReg 0x2000 3 v).power = f u.power := rfl
  unfold State.thermalState State.whenB
  dsimp only
  rw [hset, ite_power, ite_power]
  · exact ⟨_, rfl⟩
  · exact ite_power (hfire ..)
  · rfl

section
variable {temps : List Int} (volts amps : List Nat) (h0 : s.reg 0x7412 1 = 0)
  (hn : ∀ n, n < 32 → mismatchNext 0 temps (nthD 0 s.power.mismatch n) n < 3)
include h0 hn

theorem roundRead_good : ∃ c x, (s.roundRead volts amps).sensorTest temps =
    (((s.roundRead volts amps).modPower (fun p => { p with mismatch := c })).setReg 0x7412 1 0).setReg 0x7412 2 x := by
  refine sensorTest_good ?_ fun n hlt => ?_
  · rw [roundRead_reg, channelsRead_reg volts amps (by omega) (by omega) (by omega), h0]
  · rw [roundRead_power]
    exact hn n hlt

/-- With every sensor good a round takes the readings as they are, and its junction temperature is the hottest. -/
theorem roundTaken_good : let u := s.roundTaken temps volts amps
    let vals := (List.range 32).map (fun n => temps.getD n 0)
    (∀ n, n < 32 → u.reg 0x7410 (n + 1) = ofSigned 16 (temps.getD n 0) ∧ u.reg 0x7411 (n + 1) = ofSigned 16 (temps.getD n 0)) ∧
    u.reg 0x7400 1 = ofSigned 16 (vals.getD (hottest vals) 0) ∧ u.reg 0x7400 3 = hottest vals ∧ u.reg 0x7412 1 = 0 ∧
    u.power.porstN = s.power.porstN ∧ u.power.thermalOff = s.power.thermalOff ∧ u.reg 0x2000 1 = s.reg 0x2000 1 ∧ u.dram = s.dram := by
  obtain ⟨c, x, htest⟩ := roundRead_good volts amps h0 hn
  obtain ⟨v, hv⟩ : ∃ v, v = (s.roundRead volts amps).sensorTest temps := ⟨_, rfl⟩
  have hfailed : v.reg 0x7412 1 = 0 := by rw [hv, htest, reg_setReg_key _ _ (by decide), reg_setReg_same]
  have hvals (free : Nat) : v.sensorValues temps free = (List.range 32).map (fun n => temps.getD n 0) := by
    unfold State.sensorValues
    rw [hfailed]
    refine List.map_congr_left fun n _ => ?_
    unfold sensorValue
    rw [if_pos (by simp [bitAt])]
  have hpower : ((v.junction temps ((s.channelsRead volts amps).draw 16).1)).power = { s.power with mismatch := c } := by
    rw [(fr_junction (m := 2) (by decide) (fr_refl v)).same .power (by decide), hv, htest, setReg_power, setReg_power, modPower_power, roundRead_power]
  have hpw : v.reg 0x2000 1 = s.reg 0x2000 1 := by
    rw [hv, htest, reg_setReg_key _ _ (by decide), reg_setReg_key _ _ (by decide), modPower_reg, roundRead_reg,
      channelsRead_reg volts amps (by omega) (by omega) (by omega)]
  have hdram : v.dram = s.dram := by
    rw [hv, (fr_sensorTest (m := 525571) (by decide) (fr_refl (s.roundRead volts amps))).same .dram (by decide)]
    exact (draw_dram ..).trans
      ((fr_each (m := 2) (fr_each (fr_refl s) fun _ _ h => fr_setReg (by decide) h) fun _ _ h => fr_setReg (by decide) h).same .dram (by decide))
  obtain ⟨hj1, hj3⟩ := junction_hottest (s := v) temps ((s.channelsRead volts amps).draw 16).1
  unfold State.roundTaken
  rw [← hv]
  refine ⟨fun n hlt => ?_, ?_, ?_, ?_, ?_, ?_, ?_, ?_⟩
  · obtain ⟨ha, hb⟩ := junction_sensor (s := v) temps ((s.channelsRead volts amps).draw 16).1 hlt
    refine ⟨?_, hb⟩
    rw [ha, hvals]
    simp [hlt]
  · rw [hj1, hvals]
  · rw [hj3, hvals]
  · rw [junction_reg _ _ (by omega) (by omega) (by omega) (by omega), hfailed]
  · rw [hpower]
  · rw [hpower]
  · rw [junction_reg _ _ (by omega) (by omega) (by omega) (by omega), hpw]
  · rw [(fr_junction (m := 2) (by decide) (fr_refl v)).same .dram (by decide), hdram]

end

/-- What the thermal state of a round leaves to the shutdown. -/
theorem thermalState_before (u : State) : let w := u.roundTimes.thermalState
    w.reg 0x2000 1 = u.reg 0x2000 1 ∧ w.reg 0x7400 1 = u.reg 0x7400 1 ∧ w.power.porstN = u.power.porstN ∧ w.power.thermalOff = u.power.thermalOff ∧
    w.dram = u.dram := by
  have hdram : u.roundTimes.thermalState.dram = u.dram :=
    (fr_thermalState (m := 1282) (by decide) (fr_roundTimes (by decide) (fr_refl u))).same .dram (by decide)
  have hpower : u.roundTimes.power = u.power := (fr_roundTimes (m := 2) (by decide) (fr_refl u)).same .power (by decide)
  obtain ⟨n, hp⟩ := thermalState_power u.roundTimes
  refine ⟨?_, ?_, by rw [hp, hpower], by rw [hp, hpower], hdram⟩ <;>
    rw [thermalState_reg (by omega) (by omega) (by omega), reg_setReg_key _ _ (by decide), roundTimes_reg (by decide) (by decide) (by decide)]

theorem nvPlace_thermalOff (r : Nat) : (s.nvPlace r).power.thermalOff = s.power.thermalOff := by
  unfold State.nvPlace
  split
  · rfl
  · split <;> rfl

theorem drainDeferred_thermalOff (s : State) : s.drainDeferred.power.thermalOff = s.power.thermalOff := by
  unfold State.drainDeferred
  split
  · exact each_same (fun u : State => u.power.thermalOff) (fun r u => nvPlace_thermalOff r) _ _
  · rfl

theorem drainDeferred_dram (s : State) : s.drainDeferred.dram = s.dram := (fr_drainDeferred (m := 1027) (by decide) (fr_refl s)).same .dram (by decide)

/-- At 120 °C the part turns off (R541). -/
theorem shutdown_hot (hpw : s.reg 0x2000 1 ≠ pwOff) (hp : s.power.porstN = true) (hot : 120 * 16 ≤ s.sreg 16 0x7400 1) :
    s.thermalShutdown.drainDeferred.pwState = pwOff ∧ s.thermalShutdown.drainDeferred.power.thermalOff = true ∧ s.thermalShutdown.drainDeferred.dram = [] := by
  have hrun : s.thermalShutdown = (((s.nvRecord 0x20 (s.reg 0x7400 3) (s.reg 0x7400 1) s.sc).modPower (fun p => { p with thermalOff := true }))).powerOff :=
    if_pos (by simp [State.pwState, hpw, hp]; exact hot)
  refine ⟨(drainDeferred_reg (by omega) (by omega)).trans ?_, (drainDeferred_thermalOff _).trans ?_, (drainDeferred_dram _).trans ?_⟩
  · rw [hrun]
    exact reg_setReg_same ..
  · rw [hrun]
    rfl
  · rw [hrun]
    rfl

/-- Below 120 °C it stays as it is. -/
theorem shutdown_cold (cold : s.sreg 16 0x7400 1 < 120 * 16) :
    s.thermalShutdown.drainDeferred.pwState = s.reg 0x2000 1 ∧ s.thermalShutdown.drainDeferred.power.thermalOff = s.power.thermalOff ∧
    s.thermalShutdown.drainDeferred.dram = s.dram := by
  have hrun : s.thermalShutdown = s := if_neg (by simp; exact fun _ _ => cold)
  rw [hrun]
  exact ⟨drainDeferred_reg (by omega) (by omega), drainDeferred_thermalOff s, drainDeferred_dram s⟩

/-- The warning flag after a round. -/
theorem round_warn (u : State) : bitAt (u.roundTimes.thermalState.thermalShutdown.drainDeferred.reg 0x7400 0x0B) 0 =
    thermalHold (toSigned 16 (u.reg 0x7400 1)) (16 * (u.reg 0x7400 4 : Int)) (bitAt (u.reg 0x7400 0x0B) 0) := by
  have h (b : Nat) (hb : b < 14) : u.roundTimes.reg 0x7400 b = u.reg 0x7400 b :=
    roundTimes_reg (by simp only [key]; omega) (by simp only [key]; omega) (by simp only [key]; omega)
  rw [drainDeferred_reg (by omega) (by omega), thermalShutdown_reg (by omega) (by omega), thermalState_reg (by omega) (by omega) (by omega),
    reg_setReg_same, thermalFlags_warn, h 4 (by omega), h 0x0B (by omega)]
  unfold State.sreg
  rw [h 1 (by omega)]

theorem completes_housekeepingRound (temps : List Int) (volts amps : List Nat) :
    let vals := (List.range 32).map (fun n => temps.getD n 0)
    let tj := toSigned 16 (ofSigned 16 (vals.getD (hottest vals) 0))
    Completes (.housekeepingRound temps volts amps) s (fun t => t.reg 0x7400 0x0F = wrapAdd64 (s.reg 0x7400 0x0F) 1 ∧
      (∀ v, v < 40 → t.reg 0x7420 (v + 1) = volts.getD v 0 % 65536) ∧ (∀ c, c < 24 → t.reg 0x7430 (c + 1) = amps.getD c 0 % 65536) ∧
      (s.reg 0x7412 1 = 0 → (∀ n, n < 32 → mismatchNext 0 temps (nthD 0 s.power.mismatch n) n < 3) →
        (∀ n, n < 32 → t.reg 0x7410 (n + 1) = ofSigned 16 (temps.getD n 0) ∧ t.reg 0x7411 (n + 1) = ofSigned 16 (temps.getD n 0)) ∧
        t.reg 0x7400 1 = ofSigned 16 (vals.getD (hottest vals) 0) ∧ t.reg 0x7400 3 = hottest vals ∧ t.reg 0x7412 1 = 0 ∧
        bitAt (t.reg 0x7400 0x0B) 0 = thermalHold tj (16 * (s.reg 0x7400 4 : Int)) (bitAt (s.reg 0x7400 0x0B) 0) ∧
        (s.pwState ≠ pwOff → s.power.porstN = true → 120 * 16 ≤ tj → t.pwState = pwOff ∧ t.power.thermalOff = true ∧ t.dram = []) ∧
        (tj < 120 * 16 → t.pwState = s.pwState ∧ t.power.thermalOff = s.power.thermalOff ∧ t.dram = s.dram))) := by
  intro vals tj
  refine completes_of (exec_housekeepingRound temps volts amps) ⟨round_count temps volts amps, fun v hv => ?_, fun c hc => ?_, fun h0 hn => ?_⟩
  · rw [round_end_reg (by omega) (by omega) (by omega), roundTaken_reg _ _ _ (by omega) (by omega) (by omega) (by omega) (by omega) (by omega),
      channelsRead_volt _ _ hv]
  · rw [round_end_reg (by omega) (by omega) (by omega), roundTaken_reg _ _ _ (by omega) (by omega) (by omega) (by omega) (by omega) (by omega),
      channelsRead_amp _ _ hc]
  · obtain ⟨hsens, htj, hhot, hfail, hporst, hoff, hpw, hdram⟩ := roundTaken_good volts amps h0 hn
    obtain ⟨wpw, wtj, wporst, woff, wdram⟩ := thermalState_before (s.roundTaken temps volts amps)
    have hreg (b : Nat) (hb : b = 4 ∨ b = 0x0B) : (s.roundTaken temps volts amps).reg 0x7400 b = s.reg 0x7400 b := by
      rw [roundTaken_reg _ _ _ (by omega) (by omega) (by omega) (by omega) (by omega) (by omega), channelsRead_reg _ _ (by omega) (by omega) (by omega)]
    have hsigned : (s.roundTaken temps volts amps).roundTimes.thermalState.sreg 16 0x7400 1 = tj := by
      unfold State.sreg
      rw [wtj, htj]
    refine ⟨fun n hlt => ?_, ?_, ?_, ?_, ?_, fun hrun hp hot => ?_, fun cold => ?_⟩
    · rw [round_end_reg (by omega) (by omega) (by omega), round_end_reg (by omega) (by omega) (by omega)]
      exact hsens n hlt
    · rw [round_end_reg (by omega) (by omega) (by omega), htj]
    · rw [round_end_reg (by omega) (by omega) (by omega), hhot]
    · rw [round_end_reg (by omega) (by omega) (by omega), hfail]
    · rw [round_warn, htj, hreg 4 (.inl rfl), hreg 0x0B (.inr rfl)]
    · exact shutdown_hot (by rw [wpw, hpw]; exact hrun) (by rw [wporst, hporst, hp]) (by rw [hsigned]; exact hot)
    · obtain ⟨h1, h2, h3⟩ := shutdown_cold (by rw [hsigned]; exact cold)
      exact ⟨by rw [h1, wpw, hpw]; rfl, by rw [h2, woff, hoff], by rw [h3, wdram, hdram]⟩

/-! ### The test access port -/

/-- The test port after an instruction: its register, what it captured, the cells held and what drives the balls. -/
def State.tapped (s : State) (ir dr cells drive : Nat) : State :=
  { s with power := { s.power with tapIr := ir, tapDr := dr, tapCells := cells, tapDrive := drive } }

theorem exec_extest (balls cells : Nat) : exec (.extest balls cells) s =
    .next (if s.power.porstN then s.tapped 0 0 s.power.tapCells 0 else s.tapped 0 balls cells 1) := by
  show execExtest balls cells s = _
  unfold execExtest
  split <;> rfl

/-- Settles O60: a round is followed entry by entry up to the shutdown, and each test instruction is one update of the test port. -/
theorem housekeepingAndTestAccess : Obligations.HousekeepingAndTestAccess := by
  intro s
  refine ⟨fun temps volts amps => completes_housekeepingRound temps volts amps, fun balls cells => ⟨fun h => ?_, fun h => ?_, rfl⟩, rfl, rfl, rfl, rfl⟩
  · exact (exec_extest balls cells).trans (congrArg Host.Outcome.next (if_neg (by simp [h])))
  · exact (exec_extest balls cells).trans (congrArg Host.Outcome.next (if_pos h))

end Sys2Proof.Machine
end

section
/-! Controller pairs: failover, live update and probation (chapter 17, R512, R513, R518 to R520, R526). -/

set_option Elab.async false

namespace Sys2Proof.Machine

variable {s t : State} {j b : Nat}

/-! ### What a fault record leaves of the pairs and of the update -/

section
variable (hj : 0x7010 ≤ j ∧ j ≤ 0x7020) (hb : b < 256) {c : Nat} (hc : c < 256)
include hj hb hc

theorem faultRecord_pairs (a i u n d : Nat) : (s.faultRecord c a i u n d).reg j b = s.reg j b :=
  faultRecord_reg _ _ _ _ _ _ _ hb (by omega) (by omega) (by omega) (by omega) (by simp only [isCounterOvf, key]; omega) hc

theorem faultStart_pairs (i u d : Nat) : (s.faultStart c i u d).reg j b = s.reg j b :=
  faultStart_reg _ _ _ _ _ hb (by omega) (by omega) (by omega) (by omega) (by simp only [isCounterOvf, key]; omega) hc

theorem faultDone_pairs (a i u d : Nat) : (s.faultDone c a i u d).reg j b = s.reg j b :=
  faultDone_reg _ _ _ _ _ _ hb (by omega) (by omega) (by omega) (by omega) (by simp only [isCounterOvf, key]; omega) hc

end

theorem faultStart_recovery (c i u d : Nat) : ∃ r, (s.faultStart c i u d).avail = { s.avail with recoveries := r } := by
  unfold State.faultStart
  dsimp only
  rw [faultRecord_avail]
  exact ⟨_, rfl⟩

theorem faultDone_recovery (c a i u d : Nat) : ∃ r, (s.faultDone c a i u d).avail = { s.avail with recoveries := r } := by
  unfold State.faultDone
  split
  · dsimp only
    rw [faultRecord_avail, setReg_avail, inc32_avail]
    exact ⟨_, rfl⟩
  · rw [faultRecord_avail]
    exact ⟨_, rfl⟩

/-! ### Failover -/

/-- What a failover makes of an update (R519, R520). -/
structure UpdateEnded (s : State) (cause : Nat) (t : State) : Prop where
  pairs : ∀ b, b < 256 → t.reg 0x7020 b = s.reg 0x7020 b
  dead : t.avail.dead = s.avail.dead
  state : t.reg 0x7010 4 = (if s.reg 0x7010 4 = 1 ∨ s.reg 0x7010 4 = 2 then 5 else if s.reg 0x7010 4 = 3 ∧ cause ≠ 4 then 6 else s.reg 0x7010 4)
  probation : t.avail.probationEnds =
    (if s.reg 0x7010 4 = 3 ∧ cause = 4 then s.time.tclk + s.reg 0x7010 9 * 500000000 else s.avail.probationEnds)

theorem runSlot_reg {k : Nat} (hb : b < 256) (h : j ≠ 0x7010 ∨ b ≠ 5) (h' : j ≠ 0x1000) : (s.runSlot k).reg j b = s.reg j b := by
  unfold State.runSlot
  rw [reg_setReg_key _ _ (by simp only [key]; omega), reg_setReg_key _ _ (by simp only [key]; omega), reg_setReg_key _ _ (by simp only [key]; omega)]

theorem runSlot_avail (k : Nat) : (s.runSlot k).avail = s.avail := by
  unfold State.runSlot
  rw [setReg_avail, setReg_avail, setReg_avail]

theorem withAvail_reg (a : AvailState) : ({ s with avail := a } : State).reg j b = s.reg j b := rfl

theorem startProbation_reg : s.startProbation.reg j b = s.reg j b := withAvail_reg _

theorem startProbation_avail : s.startProbation.avail = { s.avail with probationEnds := s.time.tclk + s.reg 0x7010 9 * 500000000 } := by
  unfold State.startProbation
  rfl

theorem failUpdate_ends (s : State) (cause : Nat) : UpdateEnded s cause (s.failUpdate cause) := by
  unfold State.failUpdate
  dsimp only
  by_cases h12 : s.reg 0x7010 4 = 1 ∨ s.reg 0x7010 4 = 2
  · rw [if_pos (by simpa using h12)]
    refine ⟨fun b hb => ?_, by rw [faultRecord_avail, setReg_avail], ?_, ?_⟩
    · rw [faultRecord_pairs (by omega) hb (by omega), reg_setReg_key _ _ (by simp only [key]; omega)]
    · rw [faultRecord_pairs (by omega) (by omega) (by omega), reg_setReg_same, if_pos h12]
    · rw [faultRecord_avail, setReg_avail, if_neg (by omega)]
  · rw [if_neg (by simpa using h12)]
    by_cases h34 : s.reg 0x7010 4 = 3 ∧ cause = 4
    · rw [if_pos (by simpa using h34)]
      exact ⟨fun _ _ => startProbation_reg, by rw [startProbation_avail], by rw [startProbation_reg, if_neg h12, if_neg (by omega)], by rw [startProbation_avail, if_pos h34]⟩
    · rw [if_neg (by simpa using h34)]
      by_cases h3 : s.reg 0x7010 4 = 3
      · rw [if_pos h3]
        refine ⟨fun b hb => ?_, by rw [faultRecord_avail, setReg_avail, runSlot_avail], ?_, by rw [faultRecord_avail, setReg_avail, runSlot_avail, if_neg h34]⟩
        · rw [faultRecord_pairs (by omega) hb (by omega), reg_setReg_key _ _ (by simp only [key]; omega), runSlot_reg hb (by omega) (by omega)]
        · rw [faultRecord_pairs (by omega) (by omega) (by omega), reg_setReg_same, if_neg h12, if_pos ⟨h3, by omega⟩]
      · rw [if_neg h3]
        exact ⟨fun _ _ => rfl, rfl, by rw [if_neg h12, if_neg (by omega)], by rw [if_neg h34]⟩

/-- Pair `b` is ACTIVE in place of pair `a`, with the counters of 7020h. -/
def State.takenOver (s : State) (a b cause gap : Nat) : State :=
  (((((s.setPair a 2).setPair b 0).setReg 0x7020 1 b).inc32 0x7020 4 1).setReg 0x7020 5 cause).setReg 0x7020 7 gap

theorem takenOver_pairs {a b cause gap : Nat} (ha : a ≤ 1) (hb : b = 1 - a) :
    (s.takenOver a b cause gap).pair a = 2 ∧ (s.takenOver a b cause gap).pair b = 0 ∧ (s.takenOver a b cause gap).reg 0x7020 1 = b ∧
    (s.takenOver a b cause gap).reg 0x7020 4 = satAdd32 (s.reg 0x7020 4) 1 ∧ (s.takenOver a b cause gap).reg 0x7020 5 = cause ∧
    (s.takenOver a b cause gap).reg 0x7020 7 = gap := by
  unfold State.takenOver State.pair State.setPair State.inc32
  refine ⟨?_, ?_, ?_, ?_, ?_, reg_setReg_same ..⟩
  · rw [reg_setReg_key _ _ (by simp only [key]; omega), reg_setReg_key _ _ (by simp only [key]; omega), reg_setReg_key _ _ (by simp only [key]; omega),
      reg_setReg_key _ _ (by simp only [key]; omega), reg_setReg_key _ _ (by simp only [key]; omega), reg_setReg_same]
  · rw [reg_setReg_key _ _ (by simp only [key]; omega), reg_setReg_key _ _ (by simp only [key]; omega), reg_setReg_key _ _ (by simp only [key]; omega),
      reg_setReg_key _ _ (by simp only [key]; omega), reg_setReg_same]
  · rw [reg_setReg_key _ _ (by decide), reg_setReg_key _ _ (by decide), reg_setReg_key _ _ (by decide), reg_setReg_same]
  · rw [reg_setReg_key _ _ (by decide), reg_setReg_key _ _ (by decide), reg_setReg_same, reg_setReg_key _ _ (by decide),
      reg_setReg_key _ _ (by simp only [key]; omega), reg_setReg_key _ _ (by simp only [key]; omega)]
  · rw [reg_setReg_key _ _ (by decide), reg_setReg_same]

theorem takenOver_update {p q cause gap : Nat} (hb : b < 256) : (s.takenOver p q cause gap).reg 0x7010 b = s.reg 0x7010 b := by
  unfold State.takenOver State.setPair
  rw [reg_setReg_key _ _ (by simp only [key]; omega), reg_setReg_key _ _ (by simp only [key]; omega), inc32_reg_key _ _ (by simp only [key]; omega),
    reg_setReg_key _ _ (by simp only [key]; omega), reg_setReg_key _ _ (by simp only [key]; omega), reg_setReg_key _ _ (by simp only [key]; omega)]

theorem takenOver_avail (p q cause gap : Nat) : (s.takenOver p q cause gap).avail = s.avail := by
  unfold State.takenOver State.setPair
  simp only [setReg_avail, inc32_avail]

theorem takenOver_time (p q cause gap : Nat) : (s.takenOver p q cause gap).time = s.time := by
  unfold State.takenOver State.setPair
  simp only [setReg_time, inc32_time]

/-- The STANDBY pair, or the one that was loading, takes over from the ACTIVE pair (R512, R513). -/
structure TakesOver (s : State) (cause : Nat) (t : State) : Prop where
  failed : t.pair (s.reg 0x7020 1) = 2
  active : t.pair (1 - s.reg 0x7020 1) = 0
  number : t.reg 0x7020 1 = 1 - s.reg 0x7020 1
  count : t.reg 0x7020 4 = satAdd32 (s.reg 0x7020 4) 1
  named : t.reg 0x7020 5 = cause
  gap : t.reg 0x7020 7 ≤ 2000
  dead : t.avail.dead = s.avail.dead
  update : t.reg 0x7010 4 = (if s.reg 0x7010 4 = 1 ∨ s.reg 0x7010 4 = 2 then 5 else if s.reg 0x7010 4 = 3 ∧ cause ≠ 4 then 6 else s.reg 0x7010 4)
  probation : t.avail.probationEnds =
    (if s.reg 0x7010 4 = 3 ∧ cause = 4 then s.time.tclk + s.reg 0x7010 9 * 500000000 else s.avail.probationEnds)

/-- The state in which a failover finds the pairs: its fault record is written, and its gap is drawn. -/
def State.failoverBegun (s : State) (cause : Nat) : State := s.faultStart 8 (s.reg 0x7020 1) cause s.sc

theorem failoverBegun_reg (cause : Nat) (hj : 0x7010 ≤ j ∧ j ≤ 0x7020) (hb : b < 256) : (s.failoverBegun cause).reg j b = s.reg j b :=
  faultStart_pairs hj hb (by omega) _ _ _

theorem failover_takes (cause : Nat) (ha : s.reg 0x7020 1 ≤ 1) (hb : s.pair (1 - s.reg 0x7020 1) = 1 ∨ s.pair (1 - s.reg 0x7020 1) = 4) :
    TakesOver s cause (s.failover cause) := by
  have hpair : (s.failoverBegun cause).pair (1 - s.reg 0x7020 1) = s.pair (1 - s.reg 0x7020 1) := failoverBegun_reg cause (by omega) (by omega)
  obtain ⟨g, u, hu, hrun⟩ : ∃ g u, u = (((s.failoverBegun cause).draw 32).2.takenOver (s.reg 0x7020 1) (1 - s.reg 0x7020 1) cause (g % 2001)) ∧
      s.failover cause = (u.faultDone 8 7 (s.reg 0x7020 1) cause u.sc).failUpdate cause :=
    ⟨_, _, rfl, if_pos (by rw [← hpair] at hb; unfold State.failoverBegun at hb; simpa using hb)⟩
  obtain ⟨hfail, hact, hnum, hcount, hcause, hgap⟩ :=
    takenOver_pairs (s := ((s.failoverBegun cause).draw 32).2) (cause := cause) (gap := g % 2001) ha (b := 1 - s.reg 0x7020 1) rfl
  rw [← hu] at hfail hact hnum hcount hcause hgap
  have hupd (b : Nat) (hb : b < 256) : u.reg 0x7010 b = s.reg 0x7010 b := by
    rw [hu, takenOver_update hb, draw_reg, failoverBegun_reg cause (by omega) hb]
  have havail : ∃ r, u.avail = { s.avail with recoveries := r } := by
    obtain ⟨r, hr⟩ := faultStart_recovery (s := s) 8 (s.reg 0x7020 1) cause s.sc
    exact ⟨r, by rw [hu, takenOver_avail, draw_avail]; exact hr⟩
  have htime : u.time = s.time := by rw [hu, takenOver_time, draw_time]; exact faultStart_time ..
  obtain ⟨r, hr⟩ := havail
  obtain ⟨r', hr'⟩ := faultDone_recovery (s := u) 8 7 (s.reg 0x7020 1) cause u.sc
  obtain ⟨hpairs, hdead, hstate, hprob⟩ := failUpdate_ends (u.faultDone 8 7 (s.reg 0x7020 1) cause u.sc) cause
  have hdone (j b : Nat) (hj : 0x7010 ≤ j ∧ j ≤ 0x7020) (hb : b < 256) : (u.faultDone 8 7 (s.reg 0x7020 1) cause u.sc).reg j b = u.reg j b :=
    faultDone_pairs hj hb (by omega) _ _ _ _
  have hend (b : Nat) (hb : b < 256) : ((u.faultDone 8 7 (s.reg 0x7020 1) cause u.sc).failUpdate cause).reg 0x7020 b = u.reg 0x7020 b := by
    rw [hpairs b hb, hdone _ _ (by omega) hb]
  rw [hrun]
  refine ⟨?_, ?_, ?_, ?_, ?_, ?_, ?_, ?_, ?_⟩
  · exact (hend _ (by omega)).trans hfail
  · exact (hend _ (by omega)).trans hact
  · exact (hend _ (by omega)).trans hnum
  · rw [hend _ (by omega), hcount, draw_reg, failoverBegun_reg cause (by omega) (by omega)]
  · exact (hend _ (by omega)).trans hcause
  · rw [hend _ (by omega), hgap]
    omega
  · rw [hdead, hr', hr]
  · rw [hstate, hdone _ _ (by omega) (by omega), hupd _ (by omega)]
  · rw [hprob, hdone _ _ (by omega) (by omega), hdone _ _ (by omega) (by omega), hupd _ (by omega), hupd _ (by omega), faultDone_time, htime, hr', hr]

/-- No pair is ACTIVE any more. -/
def State.withoutActive (s : State) : State := { s with avail := { s.avail with dead := true } }

/-- Without a pair to take over, none is ACTIVE (R512, R513). -/
theorem failover_dead (cause : Nat) (ha : s.reg 0x7020 1 ≤ 1) (h1 : s.pair (1 - s.reg 0x7020 1) ≠ 1) (h4 : s.pair (1 - s.reg 0x7020 1) ≠ 4) :
    (s.failover cause).pair (s.reg 0x7020 1) = 2 ∧ (s.failover cause).avail.dead = true ∧ (s.failover cause).reg 0x7020 1 = s.reg 0x7020 1 := by
  have hpair : (s.failoverBegun cause).pair (1 - s.reg 0x7020 1) = s.pair (1 - s.reg 0x7020 1) := failoverBegun_reg cause (by omega) (by omega)
  obtain ⟨u, hu⟩ : ∃ u, u = ((s.failoverBegun cause).setPair (s.reg 0x7020 1) 2).faultDone 8 8 (s.reg 0x7020 1) cause (s.failoverBegun cause).sc := ⟨_, rfl⟩
  have hrun : s.failover cause = u.withoutActive := by
    rw [← hpair] at h1 h4
    rw [hu]
    unfold State.failoverBegun at h1 h4 ⊢
    unfold State.failover State.withoutActive
    exact if_neg (by simpa using ⟨h1, h4⟩)
  have hreg (b : Nat) (hb : b < 256) : u.reg 0x7020 b = ((s.failoverBegun cause).setPair (s.reg 0x7020 1) 2).reg 0x7020 b := by
    rw [hu]
    exact faultDone_pairs (by omega) hb (by omega) _ _ _ _
  rw [hrun]
  refine ⟨?_, rfl, ?_⟩
  · exact (hreg _ (by omega)).trans (reg_setReg_same ..)
  · exact (hreg 1 (by omega)).trans ((reg_setReg_key _ _ (by simp only [key]; omega)).trans (failoverBegun_reg cause (by omega) (by omega)))

/-! ### The rows -/

/-- A command refused at 7010h or 7020h changes nothing but the list of results. -/
theorem commanded_error_pairs {sess i a v d : Nat} (hi : i = 0x7010 ∨ i = 0x7020) : let t := s.commanded sess i a v (.error d)
    t.regs = s.regs ∧ t.avail = s.avail := by
  have hr : s.commandRefused sess i a v d = s := by
    unfold State.commandRefused
    rw [if_neg (by simp; omega), if_neg (by simp; omega), if_neg (by simp; omega), if_neg (by simp; omega), if_neg (by simp; omega)]
  unfold State.commanded
  dsimp only
  rw [hr]
  exact ⟨result_regs .., result_avail ..⟩

theorem takesOver_result {sess i a cause : Nat} {x : Answer} (h : TakesOver s cause t) : TakesOver s cause (t.result sess 2 i a x) :=
  ⟨(result_reg ..).trans h.failed, (result_reg ..).trans h.active, (result_reg ..).trans h.number, (result_reg ..).trans h.count,
    (result_reg ..).trans h.named, by rw [result_reg]; exact h.gap, by rw [result_avail]; exact h.dead, (result_reg ..).trans h.update,
    by rw [result_avail]; exact h.probation⟩

theorem completes_failover {sess : Nat} (hl : s.lets sess 0x7020 6) (ha : s.reg 0x7020 1 ≤ 1) (hb : s.pair (1 - s.reg 0x7020 1) = 1) :
    Completes (.failover sess) s (TakesOver s 4) := by
  have hstandby : s.hasStandby = true := by
    unfold State.hasStandby
    rcases (by omega : s.reg 0x7020 1 = 0 ∨ s.reg 0x7020 1 = 1) with h | h <;> rw [h] at hb <;> simp [hb]
  refine completes_of (exec_failover hl) ?_
  rw [show cmdFailover s = .ok (s.failover 4) from if_pos hstandby, commanded_ok]
  exact takesOver_result (failover_takes 4 ha (.inl hb))

theorem completes_failover_refused {sess : Nat} (hl : s.lets sess 0x7020 6) (h : s.hasStandby = false) :
    Completes (.failover sess) s (fun t => t.regs = s.regs ∧ t.avail = s.avail) := by
  refine completes_of (exec_failover hl) ?_
  rw [show cmdFailover s = .error dState from if_neg (by simp [h])]
  exact commanded_error_pairs (.inr rfl)

theorem exec_pairSelftestComplete (passed : Bool) : exec (.pairSelftestComplete passed) s =
    if s.pair 0 = 2 then .next (s.setPair 0 (if passed then 1 else 3))
    else if s.pair 1 = 2 then .next (s.setPair 1 (if passed then 1 else 3)) else .next s := rfl

theorem completes_activate {sess : Nat} (hl : s.lets sess 0x7010 3) (h : s.canActivate = true) :
    Completes (.activate sess) s (fun t => t.reg 0x7010 4 = 1 ∧ t.pair (if s.pair 0 = 1 then 0 else 1) = 4) := by
  refine completes_of (exec_activate hl) ?_
  rw [show cmdActivate s = .ok ((s.setPair (if s.pair 0 = 1 then 0 else 1) 4).setReg 0x7010 4 1) from if_pos h, commanded_ok]
  refine ⟨(result_reg ..).trans (reg_setReg_same ..), (result_reg ..).trans ?_⟩
  exact (reg_setReg_key _ _ (by simp only [key]; omega)).trans (reg_setReg_same ..)

theorem completes_activate_refused {sess : Nat} (hl : s.lets sess 0x7010 3) (h : s.canActivate = false) :
    Completes (.activate sess) s (fun t => t.regs = s.regs ∧ t.avail = s.avail) := by
  refine completes_of (exec_activate hl) ?_
  rw [show cmdActivate s = .error dState from if_neg (by simp [h])]
  exact commanded_error_pairs (.inl rfl)

/-- The pairs and their counters after a handover (R519). -/
def State.handedOver (s : State) (gap : Nat) : State :=
  ((((s.setPair (s.reg 0x7020 1) 1).setPair (1 - s.reg 0x7020 1) 0).setReg 0x7020 1 (1 - s.reg 0x7020 1)).setReg 0x7020 5 3).setReg 0x7020 7 (gap % 2 ^ 32)

theorem handedOver_pairs (gap : Nat) (ha : s.reg 0x7020 1 ≤ 1) : (s.handedOver gap).pair (s.reg 0x7020 1) = 1 ∧
    (s.handedOver gap).pair (1 - s.reg 0x7020 1) = 0 ∧ (s.handedOver gap).reg 0x7020 1 = 1 - s.reg 0x7020 1 ∧ (s.handedOver gap).reg 0x7020 5 = 3 ∧
    (s.handedOver gap).reg 0x7020 7 = gap % 2 ^ 32 ∧ ∀ b, b < 256 → (s.handedOver gap).reg 0x7010 b = s.reg 0x7010 b := by
  unfold State.handedOver State.pair State.setPair
  refine ⟨?_, ?_, ?_, ?_, reg_setReg_same .., fun b hb => ?_⟩
  · rw [reg_setReg_key _ _ (by simp only [key]; omega), reg_setReg_key _ _ (by simp only [key]; omega), reg_setReg_key _ _ (by simp only [key]; omega),
      reg_setReg_key _ _ (by simp only [key]; omega), reg_setReg_same]
  · rw [reg_setReg_key _ _ (by simp only [key]; omega), reg_setReg_key _ _ (by simp only [key]; omega), reg_setReg_key _ _ (by simp only [key]; omega), reg_setReg_same]
  · rw [reg_setReg_key _ _ (by decide), reg_setReg_key _ _ (by decide), reg_setReg_same]
  · rw [reg_setReg_key _ _ (by decide), reg_setReg_same]
  · rw [reg_setReg_key _ _ (by simp only [key]; omega), reg_setReg_key _ _ (by simp only [key]; omega), reg_setReg_key _ _ (by simp only [key]; omega),
      reg_setReg_key _ _ (by simp only [key]; omega), reg_setReg_key _ _ (by simp only [key]; omega)]

theorem handedOver_time (gap : Nat) : (s.handedOver gap).time = s.time := by
  unfold State.handedOver State.setPair
  simp only [setReg_time]

theorem handedOver_nv (gap : Nat) : (s.handedOver gap).nv = s.nv := by
  unfold State.handedOver State.setPair
  simp only [setReg_nv]

/-- The new slot runs, the former one is remembered, and PROBATION starts (R519). -/
def State.onProbation (s : State) (old : Nat) : State :=
  ({ s.runSlot (1 - old) with avail := { (s.runSlot (1 - old)).avail with prevSlot := old } } : State).startProbation.setReg 0x7010 4 3

theorem exec_handoverComplete (gap : Nat) : exec (.handoverComplete gap) s =
    if s.reg 0x7010 4 = 2 then .next ((s.handedOver gap).onProbation (s.reg 0x7010 5)) else .next s := rfl

theorem onProbation_reg {old : Nat} (hb : b < 256) (h : j ≠ 0x7010 ∨ b ≠ 4) : (s.onProbation old).reg j b = (s.runSlot (1 - old)).reg j b := by
  unfold State.onProbation
  rw [reg_setReg_key _ _ (by simp only [key]; omega), startProbation_reg]
  exact withAvail_reg _

theorem onProbation_avail (old : Nat) : (s.onProbation old).avail =
    { s.avail with prevSlot := old, probationEnds := s.time.tclk + s.reg 0x7010 9 * 500000000 } := by
  unfold State.onProbation
  rw [setReg_avail, startProbation_avail, runSlot_avail]
  have hreg : ({ s.runSlot (1 - old) with avail := { s.avail with prevSlot := old } } : State).reg 0x7010 9 = s.reg 0x7010 9 :=
    (withAvail_reg _).trans (runSlot_reg (k := 1 - old) (by omega) (by omega) (by omega))
  rw [hreg]
  rfl

theorem runSlot_shows (k : Nat) : (s.runSlot k).reg 0x7010 5 = k ∧ (s.runSlot k).reg 0x1000 5 = (s.fwSlot k).version := by
  unfold State.runSlot
  exact ⟨by rw [reg_setReg_key _ _ (by decide), reg_setReg_key _ _ (by decide), reg_setReg_same], by rw [reg_setReg_key _ _ (by decide), reg_setReg_same]⟩

theorem completes_handoverComplete (gap : Nat) (hu : s.reg 0x7010 4 = 2) (ha : s.reg 0x7020 1 ≤ 1) :
    Completes (.handoverComplete gap) s (fun t => t.pair (s.reg 0x7020 1) = 1 ∧ t.pair (1 - s.reg 0x7020 1) = 0 ∧ t.reg 0x7020 1 = 1 - s.reg 0x7020 1 ∧
      t.reg 0x7020 5 = 3 ∧ t.reg 0x7020 7 = gap % 2 ^ 32 ∧ t.reg 0x7010 5 = 1 - s.reg 0x7010 5 ∧ t.avail.prevSlot = s.reg 0x7010 5 ∧ t.reg 0x7010 4 = 3 ∧
      t.avail.probationEnds = s.time.tclk + s.reg 0x7010 9 * 500000000 ∧ t.reg 0x1000 5 = (s.fwSlot (1 - s.reg 0x7010 5)).version) := by
  obtain ⟨hp, hq, hnum, hcause, hgap, hupd⟩ := handedOver_pairs (s := s) gap ha
  have hpairs (b : Nat) (hb : b < 256) : ((s.handedOver gap).onProbation (s.reg 0x7010 5)).reg 0x7020 b = (s.handedOver gap).reg 0x7020 b := by
    rw [onProbation_reg hb (by omega), runSlot_reg hb (by omega) (by omega)]
  obtain ⟨hslot, hversion⟩ := runSlot_shows (s := s.handedOver gap) (1 - s.reg 0x7010 5)
  have havail := onProbation_avail (s := s.handedOver gap) (s.reg 0x7010 5)
  refine completes_of ((exec_handoverComplete gap).trans (if_pos hu)) ⟨?_, ?_, ?_, ?_, ?_, ?_, ?_, ?_, ?_, ?_⟩
  · exact (hpairs _ (by omega)).trans hp
  · exact (hpairs _ (by omega)).trans hq
  · exact (hpairs _ (by omega)).trans hnum
  · exact (hpairs _ (by omega)).trans hcause
  · exact (hpairs _ (by omega)).trans hgap
  · rw [onProbation_reg (by omega) (by omega), hslot]
  · rw [havail]
  · exact reg_setReg_same ..
  · rw [havail, hupd _ (by omega)]
    exact congrArg (fun x : TimeState => x.tclk + s.reg 0x7010 9 * 500000000) (handedOver_time gap)
  · rw [onProbation_reg (by omega) (by omega), hversion]
    exact congrArg (fun x : Nv => (nthD ⟨0, 0, 4⟩ x.slots (1 - s.reg 0x7010 5)).version) (handedOver_nv gap)

/-- The boot slot follows the running slot (R520). -/
def State.probationKept (s : State) : State :=
  let s' : State := { s with nv := { s.nv with bootSlot := s.reg 0x7010 5 } }
  ((s'.setReg 0x7010 6 (s.reg 0x7010 5)).setReg 0x7010 4 4).inc32 0x7010 0x0A 1

theorem exec_probationEnd : exec .probationEnd s = if s.reg 0x7010 4 = 3 && decide (s.avail.probationEnds ≤ s.time.tclk) then
    .next (s.probationKept.faultRecord 0x0F 9 (s.probationKept.reg 0x7020 1) 0 noInterruption s.probationKept.sc) else .next s := rfl

theorem nvPlace_bootSlot (r : Nat) : (s.nvPlace r).nv.bootSlot = s.nv.bootSlot := by
  unfold State.nvPlace
  split
  · rfl
  · split <;> rfl

theorem faultRecord_bootSlot (c a i u n d : Nat) : (s.faultRecord c a i u n d).nv.bootSlot = s.nv.bootSlot := by
  have hn (v : State) (hv : v.nv = s.nv) (r : Nat) : (if nvClass c then v.nvPlace r else v).nv.bootSlot = s.nv.bootSlot := by
    split
    · rw [nvPlace_bootSlot, hv]
    · rw [hv]
  exact hn _ ((fr_notify (m := 524546) (by decide) (fr_fire (by decide) (fr_inc32 (by decide) (fr_inc64 (by decide)
    (fr_setReg (by decide) (fr_setReg (by decide) (fr_refl s))))))).same .nv (by decide)) _

/-- The counter of updates has no default of the part's own. -/
theorem withNv_updates (nv : Nv) : ({ s with nv := nv } : State).reg 0x7010 0x0A = s.reg 0x7010 0x0A := rfl

theorem completes_probationEnd (hu : s.reg 0x7010 4 = 3) (hdue : s.avail.probationEnds ≤ s.time.tclk) :
    Completes .probationEnd s (fun t => t.nv.bootSlot = s.reg 0x7010 5 ∧ t.reg 0x7010 6 = s.reg 0x7010 5 ∧ t.reg 0x7010 4 = 4 ∧
      t.reg 0x7010 0x0A = satAdd32 (s.reg 0x7010 0x0A) 1) := by
  refine completes_of (exec_probationEnd.trans (if_pos (by simp [hu, hdue]))) ⟨?_, ?_, ?_, ?_⟩
  · exact faultRecord_bootSlot ..
  · rw [faultRecord_pairs (by omega) (by omega) (by omega)]
    exact (inc32_reg_key _ _ (by decide)).trans ((reg_setReg_key _ _ (by decide)).trans (reg_setReg_same ..))
  · rw [faultRecord_pairs (by omega) (by omega) (by omega)]
    exact (inc32_reg_key _ _ (by decide)).trans (reg_setReg_same ..)
  · rw [faultRecord_pairs (by omega) (by omega) (by omega)]
    refine (inc32_reg_same ..).trans (congrArg (satAdd32 · 1) ?_)
    exact (reg_setReg_key _ _ (by decide)).trans ((reg_setReg_key _ _ (by decide)).trans (withNv_updates _))

/-! ### The flash write -/

/-- The image is in its slot (R518). -/
def State.flashed (s : State) : State := (s.setSlot s.targetSlot ⟨s.avail.imageVersion, s.avail.imageCrc, 1⟩).setReg 0x7010 2 2

theorem exec_firmwareFlashComplete (ok : Bool) : exec (.firmwareFlashComplete ok) s = if s.reg 0x7010 2 = 1 then
      .next (if ok then (if s.flashed.power.recovery then ({ s.flashed with nv := { s.flashed.nv with bootSlot := 0 } } : State).resetPulse 5 else s.flashed)
        else s.setReg 0x7010 2 5) else .next s := by
  show execFirmwareFlashComplete ok s = _
  unfold execFirmwareFlashComplete
  split <;> rfl

theorem flashed_power : s.flashed.power = s.power := rfl

theorem completes_firmwareFlashed (hw : s.reg 0x7010 2 = 1) (hrec : s.power.recovery = false) (hlen : s.targetSlot < s.nv.slots.length) :
    Completes (.firmwareFlashComplete true) s (fun t => t.reg 0x7010 2 = 2 ∧
      t.fwSlot s.targetSlot = ⟨s.avail.imageVersion, s.avail.imageCrc, 1⟩ ∧ t.reg 0x7010 (7 + s.targetSlot) = s.avail.imageVersion) := by
  have hslot : s.targetSlot ≤ 1 := by
    unfold State.targetSlot
    split <;> omega
  have hrun : exec (.firmwareFlashComplete true) s = .next s.flashed := by
    rw [exec_firmwareFlashComplete, if_pos hw, if_pos rfl, if_neg (by rw [flashed_power, hrec]; decide)]
  refine completes_of hrun ⟨reg_setReg_same .., nthD_modNth _ _ _ _ hlen, ?_⟩
  exact (reg_setReg_key _ _ (by simp only [key]; omega)).trans (reg_setReg_same ..)

theorem completes_firmwareRecovered (hw : s.reg 0x7010 2 = 1) (hrec : s.power.recovery = true) (hpwr : s.power.pwrEn = true) :
    Completes (.firmwareFlashComplete true) s (fun t => t.nv.bootSlot = 0 ∧ t.pwState = pwStarting ∧ t.reg 0x7800 2 = 5) := by
  have hrun : exec (.firmwareFlashComplete true) s = .next (({ s.flashed with nv := { s.flashed.nv with bootSlot := 0 } } : State).restart 5) := by
    rw [exec_firmwareFlashComplete, if_pos hw, if_pos rfl, if_pos (by rw [flashed_power, hrec])]
    exact congrArg Host.Outcome.next (if_pos (by exact hpwr))
  exact completes_of hrun ⟨rfl, (reg_setReg_key _ _ (by decide)).trans (reg_setReg_same ..), reg_setReg_same ..⟩

/-- Settles O57: a failover, an activation, a handover, an end of probation and a flash write, each followed entry by entry. -/
theorem pairsFailOverAndUpdate : Obligations.PairsFailOverAndUpdate := by
  intro s a b u takesOver
  have htakes (i : Instr) (cause : Nat) (h : Completes i s (TakesOver s cause)) : Completes i s (takesOver cause) := by
    obtain ⟨t, ht, h1, h2, h3, h4, h5, h6, h7, h8, h9⟩ := h
    exact ⟨t, ht, h1, h2, h3, h4, h5, h6, h7, h8, h9⟩
  refine ⟨fun i cause hi => ?_, fun sess hl => ⟨fun ha hb => htakes _ _ (completes_failover hl ha hb), completes_failover_refused hl⟩, fun passed => ⟨fun h => ?_, fun h h' => ?_, fun h h' => ?_⟩,
    fun sess hl => ⟨completes_activate hl, completes_activate_refused hl⟩, fun h => ?_, fun h => if_neg h, fun gap => ⟨completes_handoverComplete gap, fun h => ?_⟩,
    completes_probationEnd, fun h => ?_, fun h => ⟨?_, completes_firmwareFlashed h, completes_firmwareRecovered h⟩, fun ok h => ?_⟩
  · have hexec : exec i s = if s.mgmtRuns then .next (s.failover cause) else .next s := by
      rcases hi with ⟨rfl, rfl⟩ | ⟨rfl, rfl⟩ <;> rfl
    refine ⟨fun h => hexec.trans (if_neg (by simp [h])), fun h ha => ⟨fun hb => htakes _ _ ?_, fun h1 h4 => ?_⟩⟩
    · exact completes_of (hexec.trans (if_pos h)) (failover_takes cause ha hb)
    · exact completes_of (hexec.trans (if_pos h)) (failover_dead cause ha h1 h4)
  · exact completes_of ((exec_pairSelftestComplete passed).trans (if_pos h)) ⟨reg_setReg_same .., reg_setReg_key _ _ (by decide)⟩
  · exact completes_of ((exec_pairSelftestComplete passed).trans ((if_neg h).trans (if_pos h'))) ⟨reg_setReg_same .., reg_setReg_key _ _ (by decide)⟩
  · exact (exec_pairSelftestComplete passed).trans ((if_neg h).trans (if_neg h'))
  · exact completes_of (if_pos h) ⟨reg_setReg_same .., rfl⟩
  · exact (exec_handoverComplete gap).trans (if_neg h)
  · exact exec_probationEnd.trans (if_neg (by simp only [Bool.and_eq_true, decide_eq_true_eq]; omega))
  · refine completes_of ((exec_firmwareFlashComplete false).trans (if_pos h)) ⟨reg_setReg_same .., rfl⟩
  · exact (exec_firmwareFlashComplete ok).trans (if_neg h)

end Sys2Proof.Machine
end

section
/-! The reference candidates and their selection (chapter 13, R401 to R409). -/

set_option Elab.async false

namespace Sys2Proof.Machine

/-! ### Bits of a status word -/

theorem testBit_sub_two_pow {v i j : Nat} (h : v.testBit i = true) (hne : i ≠ j) : (v - 2 ^ i).testBit j = v.testBit j := by
  induction i generalizing v j with
  | zero =>
    obtain ⟨k, rfl⟩ : ∃ k, j = k + 1 := ⟨j - 1, by omega⟩
    have hodd : v % 2 = 1 := by simpa using h
    rw [Nat.testBit_add_one, Nat.testBit_add_one, show (v - 2 ^ 0) / 2 = v / 2 by omega]
  | succ i ih =>
    rw [Nat.testBit_add_one] at h
    have hle : 2 ^ i ≤ v / 2 := Nat.ge_two_pow_of_testBit h
    have hpow : 2 ^ (i + 1) = 2 * 2 ^ i := by omega
    cases j with
    | zero => simp only [Nat.testBit_zero]; congr 1; apply propext; omega
    | succ k => rw [Nat.testBit_add_one, Nat.testBit_add_one, ← ih h (by omega)]; congr 1; omega

theorem testBit_sub_two_pow_same {v i : Nat} (h : v.testBit i = true) : (v - 2 ^ i).testBit i = false := by
  have hsum := Nat.testBit_two_pow_add_eq (v - 2 ^ i) i
  rw [Nat.add_sub_cancel' (Nat.ge_two_pow_of_testBit h), h] at hsum
  simpa using hsum.symm

theorem bitAt_putBit_same (v i : Nat) (b : Bool) : bitAt (putBit v i b) i = b := by
  cases b with
  | true => simp [putBit, setBit, bitAt_testBit, Nat.one_shiftLeft]
  | false =>
    simp only [putBit, clearBit, bitAt_testBit, Nat.one_shiftLeft, Bool.false_eq_true, if_false]
    split
    · exact testBit_sub_two_pow_same ‹_›
    · exact Bool.eq_false_iff.mpr ‹_›

theorem bitAt_putBit_ne {v i j : Nat} (b : Bool) (h : i ≠ j) : bitAt (putBit v i b) j = bitAt v j := by
  cases b with
  | true => exact bitAt_setBit_ne v i j h
  | false =>
    simp only [putBit, clearBit, bitAt_testBit, Nat.one_shiftLeft, Bool.false_eq_true, if_false]
    split
    · exact testBit_sub_two_pow ‹_› h
    · rfl

section
variable {s t : State} {j b n : Nat}

theorem regBit_same (i a k : Nat) (v : Bool) : bitAt ((s.regBit i a k v).reg i a) k = v := by
  rw [State.regBit, reg_setReg_same, bitAt_putBit_same]

/-- Writing one bit of a status word leaves every other bit of every status word. -/
theorem regBit_bit {i k : Nat} (v : Bool) (h : k ≠ n) : bitAt ((s.regBit i 1 k v).reg j 1) n = bitAt (s.reg j 1) n := by
  unfold State.regBit
  by_cases he : j = i
  · rw [he, reg_setReg_same, bitAt_putBit_ne v h]
  · rw [reg_setReg_key _ _ (by simp only [key]; omega)]

theorem regBit_reg (i a k : Nat) (v : Bool) (h : key j b ≠ key i a) : (s.regBit i a k v).reg j b = s.reg j b := reg_setReg_key _ _ h

/-! ### What the selector leaves of the candidates -/

/-- The selector's own entries: state, candidate, output level, control word and its two counts. -/
def selectorSubs : List Nat := [1, 2, 8, 0x0C, 0x0D, 0x0F]

section
variable (hb : b < 256) (hsub : b ∉ selectorSubs)
include hb hsub

theorem enterRef_other (a c : Nat) : (s.enterRef a c).reg j b = s.reg j b := by
  simp only [selectorSubs, List.mem_cons, List.not_mem_nil, or_false, not_or] at hsub
  obtain ⟨h1, h2, h8, -⟩ := hsub
  unfold State.enterRef; dsimp only
  rw [reg_setReg_key _ _ (by simp only [key]; omega), with_time_reg, reg_setReg_key _ _ (by simp only [key]; omega),
    reg_setReg_key _ _ (by simp only [key]; omega), ite_reg (regBit_reg _ _ _ _ (by simp only [key]; omega)),
    ite_reg (regBit_reg _ _ _ _ (by simp only [key]; omega))]

theorem enterHoldover_other (a : Nat) : (s.enterHoldover a).reg j b = s.reg j b := by
  have h := hsub
  simp only [selectorSubs, List.mem_cons, List.not_mem_nil, or_false, not_or] at h
  unfold State.enterHoldover
  split <;> rw [enterRef_other hb hsub]
  · rw [inc32_reg_key _ _ (by simp only [key]; omega), reg_setReg_key _ _ (by simp only [key]; omega), reg_setReg_key _ _ (by simp only [key]; omega)]
  · rw [reg_setReg_key _ _ (by simp only [key]; omega)]

theorem evaluate_other : s.evaluate.reg j b = s.reg j b := by
  have h := hsub
  simp only [selectorSubs, List.mem_cons, List.not_mem_nil, or_false, not_or] at h
  unfold State.evaluate State.noCandidate State.selectCand
  dsimp only
  repeat' split
  all_goals first
    | rfl
    | rw [enterHoldover_other hb hsub]
    | (rw [enterRef_other hb hsub]; done)
    | rw [enterRef_other hb hsub, reg_setReg_key _ _ (by simp only [key]; omega)]
    | rw [reg_setReg_key _ _ (by simp only [key]; omega)]

end

section
variable (hj : 0x6010 ≤ j) (hn : n ≠ 3)
include hj hn

theorem enterRef_status (a c : Nat) : bitAt ((s.enterRef a c).reg j 1) n = bitAt (s.reg j 1) n := by
  unfold State.enterRef; dsimp only
  rw [reg_setReg_key _ _ (by simp only [key]; omega), with_time_reg, reg_setReg_key _ _ (by simp only [key]; omega),
    reg_setReg_key _ _ (by simp only [key]; omega)]
  repeat' split
  all_goals simp only [regBit_bit _ (Ne.symm hn)]

theorem enterHoldover_status (a : Nat) : bitAt ((s.enterHoldover a).reg j 1) n = bitAt (s.reg j 1) n := by
  unfold State.enterHoldover
  split <;> rw [enterRef_status hj hn]
  · rw [inc32_reg_key _ _ (by simp only [key]; omega), reg_setReg_key _ _ (by simp only [key]; omega), reg_setReg_key _ _ (by simp only [key]; omega)]
  · rw [reg_setReg_key _ _ (by simp only [key]; omega)]

theorem evaluate_status : bitAt (s.evaluate.reg j 1) n = bitAt (s.reg j 1) n := by
  unfold State.evaluate State.noCandidate State.selectCand
  dsimp only
  repeat' split
  all_goals first
    | rfl
    | rw [enterHoldover_status hj hn]
    | (rw [enterRef_status hj hn]; done)
    | rw [enterRef_status hj hn, reg_setReg_key _ _ (by simp only [key]; omega)]
    | rw [reg_setReg_key _ _ (by simp only [key]; omega)]

end

/-! ### The refresh of one candidate -/

/-- Candidate `i` refreshes its effective level and its eligible bit. -/
def State.refreshCand (s : State) (i : Nat) : State :=
  let l := s.candLevel i
  let s := if s.reg (0x6010 + i) 8 = l then s else (s.setReg (0x6010 + i) 8 l).inc32 (0x6010 + i) 0x0F 1
  if bitAt (s.reg (0x6010 + i) 1) 2 = s.candEligible i then s else s.regBit (0x6010 + i) 1 2 (s.candEligible i)

theorem refreshCands_eq (s : State) : s.refreshCands = s.each (List.range 5) (fun i s => s.refreshCand i) := rfl

theorem refreshCand_time (s : State) (i : Nat) : (s.refreshCand i).time = s.time := by
  unfold State.refreshCand; dsimp only; repeat' split
  all_goals rfl

theorem refreshCand_reg (i : Nat) (hb : b < 256) (h : j ≠ 0x6010 + i ∨ b ≠ 1 ∧ b ≠ 8 ∧ b ≠ 0x0F) : (s.refreshCand i).reg j b = s.reg j b := by
  unfold State.refreshCand; dsimp only
  rw [apply_ite (fun x : State => x.reg j b), regBit_reg _ _ _ _ (by simp only [key]; omega), ite_self,
    apply_ite (fun x : State => x.reg j b), inc32_reg_key _ _ (by simp only [key]; omega), reg_setReg_key _ _ (by simp only [key]; omega), ite_self]

theorem refreshCand_status (i : Nat) (hn : n ≠ 2) : bitAt ((s.refreshCand i).reg j 1) n = bitAt (s.reg j 1) n := by
  unfold State.refreshCand; dsimp only
  rw [apply_ite (fun x : State => bitAt (x.reg j 1) n), regBit_bit _ (Ne.symm hn), ite_self, apply_ite (fun x : State => x.reg j 1),
    inc32_reg_key _ _ (by simp only [key]; omega), reg_setReg_key _ _ (by simp only [key]; omega), ite_self]

theorem refreshCand_level (i : Nat) : (s.refreshCand i).reg (0x6010 + i) 8 = s.candLevel i := by
  unfold State.refreshCand; dsimp only
  rw [apply_ite (fun x : State => x.reg (0x6010 + i) 8), regBit_reg _ _ _ _ (by simp only [key]; omega), ite_self]
  split
  · assumption
  · rw [inc32_reg_key _ _ (by simp only [key]; omega), reg_setReg_same]

/-- A candidate's level comes from its mode, its messages and the PTP port, none of which a refresh changes. -/
theorem candLevel_congr {c : Nat} (ht : t.time = s.time) (hreg : ∀ j b, b < 256 → (0x6015 ≤ j ∨ b = 6 ∨ b = 7) → t.reg j b = s.reg j b) :
    t.candLevel c = s.candLevel c := by
  have hslave : t.ptpSlave = s.ptpSlave := by
    unfold State.ptpSlave
    rw [hreg 0x6070 2 (by omega) (by omega), ht]
    cases s.time.gmPort with
    | none => rfl
    | some p => simp only [State.flag]; rw [hreg (0x6071 + p) 1 (by omega) (by omega), hreg (0x6071 + p) 2 (by omega) (by omega)]
  unfold State.candLevel State.cand
  rw [hslave, ht, hreg (0x6010 + c) 6 (by omega) (by omega), hreg (0x6010 + c) 7 (by omega) (by omega), hreg 0x6070 0x0E (by omega) (by omega)]

theorem refreshCand_candLevel {i : Nat} (c : Nat) (hi : i < 5) : (s.refreshCand i).candLevel c = s.candLevel c :=
  candLevel_congr (refreshCand_time s i) fun _ _ hb h => refreshCand_reg i hb (by omega)

theorem refreshCands_reg_below (hj : j < 0x6010) (hb : b < 256) : s.refreshCands.reg j b = s.reg j b :=
  each_reg s fun i _ _ => refreshCand_reg i hb (by omega)

theorem refreshCands_status (hn : n ≠ 2) : bitAt (s.refreshCands.reg j 1) n = bitAt (s.reg j 1) n :=
  each_same (fun s : State => bitAt (s.reg j 1) n) (fun i _ => refreshCand_status i hn) _ _

theorem refreshCands_level {c : Nat} (hc : c < 5) : s.refreshCands.reg (0x6010 + c) 8 = s.candLevel c := by
  have hlevel : ∀ n ≤ 5, (s.each (List.range n) (fun i s => s.refreshCand i)).candLevel c = s.candLevel c := fun n hn =>
    each_same_mem (fun s : State => s.candLevel c) _ (fun i s hi => refreshCand_candLevel c (by have := List.mem_range.mp hi; omega)) s
  have hset : ∀ n, n ≤ 5 → c < n → (s.each (List.range n) (fun i s => s.refreshCand i)).reg (0x6010 + c) 8 = s.candLevel c := fun n => by
    induction n with
    | zero => intro _ h; omega
    | succ n ih =>
      intro hn hc
      rw [each_range_succ]
      by_cases hcn : c = n
      · subst hcn; rw [refreshCand_level, hlevel c (by omega)]
      · rw [refreshCand_reg n (by omega) (by omega), ih (by omega) (by omega)]
  exact hset 5 (by omega) hc

/-! ### A refresh with an evaluation -/

theorem reselect_status (hj : 0x6010 ≤ j) (h2 : n ≠ 2) (h3 : n ≠ 3) : bitAt (s.reselect.reg j 1) n = bitAt (s.reg j 1) n :=
  (evaluate_status hj h3).trans (refreshCands_status h2)

theorem reselect_level {c : Nat} (hc : c < 5) : s.reselect.reg (0x6010 + c) 8 = s.candLevel c :=
  (evaluate_reg _ (by omega) (by omega) (by omega)).trans (refreshCands_level hc)

theorem reselect_cand (c : Nat) : s.reselect.cand c = s.cand c := by unfold State.cand; rw [reselect_cands]

theorem cand_modCand {c : Nat} (f : Candidate → Candidate) (h : c < s.time.cands.length) : (s.modCand c f).cand c = f (s.cand c) :=
  nthD_modNth _ _ _ _ h

theorem cand_modCand_ne {c i : Nat} (f : Candidate → Candidate) (h : i ≠ c) : (s.modCand i f).cand c = s.cand c :=
  nth_modNth_ne _ _ _ _ _ h

theorem setReg_cand (i a v c : Nat) : (s.setReg i a v).cand c = s.cand c := rfl

theorem regBit_cand (i a k : Nat) (v : Bool) (c : Nat) : (s.regBit i a k v).cand c = s.cand c := rfl

theorem inc32_cand (i a v c : Nat) : (s.inc32 i a v).cand c = s.cand c := rfl

theorem cand_congr (h : t.time = s.time) (c : Nat) : t.cand c = s.cand c := by unfold State.cand; rw [h]

/-! ### Disqualification -/

/-- What a disqualification makes of a candidate's hidden state (R405, R406). -/
def Candidate.disqualified (c : Candidate) (now : Nat) : Candidate :=
  { c with failRun := 0, passRun := 0, everDisqualified := true, wtr := 0, outNs := now }

/-- A disqualification leaves every entry of the candidates but its own status, causes and counts. -/
theorem disqualify_reg (i k : Nat) (hb : b < 256) (hj : 0x6000 ≤ j ∧ j < 0x6A00) (h : j ≠ 0x6010 + i ∨ b ≠ 1 ∧ b ≠ 0x0A ∧ b ≠ 0x0C ∧ b ≠ 0x0D) :
    (s.disqualify i k).reg j b = s.reg j b := by
  unfold State.disqualify; dsimp only
  refine ite_reg ?_
  rw [faultRecord_at, reg_setReg_key _ _ (by simp only [key]; omega), modCand_reg, inc32_reg_key _ _ (by simp only [key]; omega),
    reg_setReg_key _ _ (by simp only [key]; omega), regBit_reg _ _ _ _ (by simp only [key]; omega)]

theorem disqualify_status (i k : Nat) (hj : 0x6000 ≤ j ∧ j < 0x6A00) (hn : n ≠ 1) :
    bitAt ((s.disqualify i k).reg j 1) n = bitAt (s.reg j 1) n := by
  unfold State.disqualify; dsimp only
  split
  · rw [faultRecord_at, reg_setReg_key _ _ (by simp only [key]; omega), modCand_reg, inc32_reg_key _ _ (by simp only [key]; omega),
      reg_setReg_key _ _ (by simp only [key]; omega), regBit_bit _ (Ne.symm hn)]
  · rfl

section
variable {i : Nat} (hi : i < 5) (k : Nat)
include hi

theorem disqualify_out : bitAt ((s.disqualify i k).reg (0x6010 + i) 1) 1 = false := by
  unfold State.disqualify; dsimp only
  split
  · rw [faultRecord_at, reg_setReg_key _ _ (by simp only [key]; omega), modCand_reg, inc32_reg_key _ _ (by simp only [key]; omega),
      reg_setReg_key _ _ (by simp only [key]; omega), regBit_same]
  · exact Bool.eq_false_iff.mpr ‹_›

theorem disqualify_cause (h : bitAt (s.reg (0x6010 + i) 1) 1 = true) : (s.disqualify i k).reg (0x6010 + i) 0x0A = k := by
  unfold State.disqualify; dsimp only
  rw [if_pos h, faultRecord_at, reg_setReg_key _ _ (by simp only [key]; omega), modCand_reg, inc32_reg_key _ _ (by simp only [key]; omega), reg_setReg_same]

theorem disqualify_count (h : bitAt (s.reg (0x6010 + i) 1) 1 = true) :
    (s.disqualify i k).reg (0x6010 + i) 0x0D = satAdd32 (s.reg (0x6010 + i) 0x0D) 1 := by
  unfold State.disqualify; dsimp only
  rw [if_pos h, faultRecord_at, reg_setReg_key _ _ (by simp only [key]; omega), modCand_reg, inc32_reg_same,
    reg_setReg_key _ _ (by simp only [key]; omega), regBit_reg _ _ _ _ (by simp only [key]; omega)]

end

theorem disqualify_cand {i : Nat} (k : Nat) (h : i < s.time.cands.length) :
    (s.disqualify i k).cand i = s.cand i ∨ (s.disqualify i k).cand i = (s.cand i).disqualified s.tb0Ns := by
  unfold State.disqualify; dsimp only
  split
  · right
    rw [cand_congr (faultRecord_time ..), setReg_cand, cand_modCand _ (by exact h)]
    rfl
  · left; rfl

theorem disqualify_cand_ne {i c : Nat} (k : Nat) (h : i ≠ c) : (s.disqualify i k).cand c = s.cand c := by
  unfold State.disqualify; dsimp only
  split
  · rw [cand_congr (faultRecord_time ..), setReg_cand, cand_modCand_ne _ h]
    rfl
  · rfl

theorem disqualify_length (i k : Nat) : (s.disqualify i k).time.cands.length = s.time.cands.length := by
  unfold State.disqualify; dsimp only
  split
  · rw [faultRecord_time]; exact length_modNth _ _ _
  · rfl

/-! ### One candidate at a time -/

/-- Candidate `c` stands as it did: its hidden state and its entries. -/
structure SameCand (c : Nat) (s t : State) : Prop where
  cand : t.cand c = s.cand c
  entry : ∀ b < 256, t.reg (0x6010 + c) b = s.reg (0x6010 + c) b
  length : t.time.cands.length = s.time.cands.length

namespace SameCand
variable {c : Nat} {u : State}

theorem refl (s : State) : SameCand c s s := ⟨rfl, fun _ _ => rfl, rfl⟩

theorem trans (h : SameCand c s t) (h' : SameCand c t u) : SameCand c s u :=
  ⟨h'.cand.trans h.cand, fun b hb => (h'.entry b hb).trans (h.entry b hb), h'.length.trans h.length⟩

theorem setReg (h : SameCand c s t) {i a : Nat} (v : Nat) (hi : i ≠ 0x6010 + c) (ha : a < 256) : SameCand c s (t.setReg i a v) :=
  ⟨h.cand, fun b hb => (reg_setReg_other _ _ ha hb (.inl hi.symm)).trans (h.entry b hb), h.length⟩

theorem inc32 (h : SameCand c s t) {i a : Nat} (v : Nat) (hi : i ≠ 0x6010 + c) (ha : a < 256) : SameCand c s (t.inc32 i a v) := h.setReg _ hi ha

theorem regBit (h : SameCand c s t) {i a : Nat} (k : Nat) (v : Bool) (hi : i ≠ 0x6010 + c) (ha : a < 256) : SameCand c s (t.regBit i a k v) :=
  h.setReg _ hi ha

theorem modCand (h : SameCand c s t) {i : Nat} (f : Candidate → Candidate) (hi : i ≠ c) : SameCand c s (t.modCand i f) :=
  ⟨(cand_modCand_ne f hi).trans h.cand, h.entry, (length_modNth f _ i).trans h.length⟩

theorem disqualify (h : SameCand c s t) (hc : c < 5) {i : Nat} (k : Nat) (hi : i ≠ c) : SameCand c s (t.disqualify i k) :=
  ⟨(disqualify_cand_ne k hi).trans h.cand, fun b hb => (disqualify_reg i k hb (by omega) (.inl (by omega))).trans (h.entry b hb),
    (disqualify_length i k).trans h.length⟩

theorem judge (hc : c < 5) {i : Nat} (k : Nat) (y : Int) (hi : i ≠ c) : SameCand c s (s.judge i k y) := by
  have h9 : SameCand c s (s.setReg (0x6010 + i) 9 (ofSigned 32 y)) := (refl s).setReg _ (by omega) (by omega)
  unfold State.judge; dsimp only
  split
  · have hfail := (h9.inc32 1 (show 0x6010 + i ≠ 0x6010 + c by omega) (show 0x0B < 256 by omega)).modCand (fun c =>
      { c with failRun := c.failRun + 1, passRun := 0, lossNs := if c.failRun = 0 then s.tb0Ns - 1000000000 else c.lossNs }) hi
    split
    · exact hfail.disqualify hc _ hi
    · exact hfail
  · have hpass := h9.modCand (fun c => { c with failRun := 0, passRun := c.passRun + 1 }) hi
    repeat' split
    · exact hpass
    all_goals first
      | exact hpass
      | exact ((hpass.regBit _ _ (by omega) (by omega)).modCand _ hi).setReg _ (by omega) (by omega)

end SameCand

section
variable {c : Nat} {f : Nat → State → State} {xs : List Nat} (hother : ∀ i ∈ xs, i ≠ c → ∀ s, SameCand c s (f i s))
include hother

theorem each_others (hc : c ∉ xs) (s : State) : SameCand c s (s.each xs f) := by
  unfold State.each
  exact List.foldlRecOn xs _ (SameCand.refl s) fun t ht i hi => ht.trans (hother i hi (fun e => hc (e ▸ hi)) t)

/-- Where each candidate has one step, candidate `c` makes its own from the state it had. -/
theorem each_own (hnodup : xs.Nodup) (hc : c ∈ xs) (s : State) : ∃ u, SameCand c s u ∧ SameCand c (f c u) (s.each xs f) := by
  induction xs generalizing s with
  | nil => exact absurd hc List.not_mem_nil
  | cons i xs ih =>
    obtain ⟨hi, hnodup⟩ := List.nodup_cons.mp hnodup
    have htail : ∀ j ∈ xs, j ≠ c → ∀ s, SameCand c s (f j s) := fun j hj => hother j (List.mem_cons_of_mem _ hj)
    by_cases hic : i = c
    · subst hic; exact ⟨s, .refl s, each_others htail hi (f i s)⟩
    · obtain ⟨u, hsame, hrest⟩ := ih htail hnodup ((List.mem_cons.mp hc).resolve_left (Ne.symm hic)) (f i s)
      exact ⟨u, (hother i List.mem_cons_self hic s).trans hsame, hrest⟩

end

/-! ### The judgement of a window -/

/-- Candidate `i` with the offset of a window that failed, before any disqualification. -/
def State.windowFailed (s : State) (i : Nat) (y : Int) : State :=
  ((s.setReg (0x6010 + i) 9 (ofSigned 32 y)).inc32 (0x6010 + i) 0x0B 1).modCand i (fun c =>
    { c with failRun := c.failRun + 1, passRun := 0, lossNs := if c.failRun = 0 then s.tb0Ns - 1000000000 else c.lossNs })

/-- Candidate `i` with the offset of a window that passed, before any qualification. -/
def State.windowPassed (s : State) (i : Nat) (y : Int) : State :=
  (s.setReg (0x6010 + i) 9 (ofSigned 32 y)).modCand i (fun c => { c with failRun := 0, passRun := c.passRun + 1 })

/-- Candidate `i` qualifies, with the wait to restore it then has. -/
def State.qualify (s : State) (i w : Nat) : State :=
  ((s.regBit (0x6010 + i) 1 1 true).modCand i (fun c => { c with wtr := w })).setReg (0x6010 + i) 0x0C w

theorem judge_fail {i k : Nat} (y : Int) (hk : k ≠ 0) :
    s.judge i k y = if 2 ≤ (s.cand i).failRun then (s.windowFailed i y).disqualify i k else s.windowFailed i y := by
  unfold State.judge; dsimp only
  rw [if_pos hk]
  by_cases h : 2 ≤ (s.cand i).failRun
  · rw [if_pos h, if_pos (by rw [setReg_cand]; omega)]; rfl
  · rw [if_neg h, if_neg (by rw [setReg_cand]; omega)]; rfl

theorem judge_pass {i : Nat} (y : Int) (w : Nat) (hw : w = if (s.cand i).everDisqualified then s.reg 0x6000 4 else 0) (hi : i < 5) :
    s.judge i 0 y = if bitAt (s.reg (0x6010 + i) 1) 1 = false ∧ 3 ≤ (s.cand i).passRun + 1 then (s.windowPassed i y).qualify i w else s.windowPassed i y := by
  have hbit : ∀ v f, State.reg (State.modCand (s.setReg (0x6010 + i) 9 v) i f) (0x6010 + i) 1 = s.reg (0x6010 + i) 1 := fun _ _ => set_ne
  have hreg : ∀ v f, State.reg (State.modCand (s.setReg (0x6010 + i) 9 v) i f) 0x6000 4 = s.reg 0x6000 4 := fun _ _ => set_ne
  unfold State.judge; dsimp only
  rw [if_neg (by simp), hbit, hreg, setReg_cand, hw]
  cases bitAt (s.reg (0x6010 + i) 1) 1 with
  | true => rfl
  | false =>
    by_cases h : 3 ≤ (s.cand i).passRun + 1
    · simp only [h, Bool.false_eq_true, if_false, if_true, and_self]; rfl
    · simp only [h, Bool.false_eq_true, if_false, and_false]; rfl

section
variable {i : Nat} (y : Int)

theorem windowFailed_reg (hb : b < 256) (h : b ≠ 9 ∧ b ≠ 0x0B) : (s.windowFailed i y).reg (0x6010 + i) b = s.reg (0x6010 + i) b := by
  unfold State.windowFailed
  rw [modCand_reg, inc32_reg_key _ _ (by simp only [key]; omega), reg_setReg_key _ _ (by simp only [key]; omega)]

theorem windowFailed_offset : (s.windowFailed i y).reg (0x6010 + i) 9 = ofSigned 32 y := by
  unfold State.windowFailed
  rw [modCand_reg, inc32_reg_key _ _ (by simp only [key]; omega), reg_setReg_same]

theorem windowFailed_count : (s.windowFailed i y).reg (0x6010 + i) 0x0B = satAdd32 (s.reg (0x6010 + i) 0x0B) 1 := by
  unfold State.windowFailed
  rw [modCand_reg, inc32_reg_same, reg_setReg_key _ _ (by simp only [key]; omega)]

theorem windowFailed_cand (h : i < s.time.cands.length) : (s.windowFailed i y).cand i =
    { s.cand i with failRun := (s.cand i).failRun + 1, passRun := 0, lossNs := if (s.cand i).failRun = 0 then s.tb0Ns - 1000000000 else (s.cand i).lossNs } :=
  cand_modCand _ (by exact h)

theorem windowFailed_length : (s.windowFailed i y).time.cands.length = s.time.cands.length := length_modNth _ _ _

theorem windowPassed_reg (hb : b < 256) (h : b ≠ 9) : (s.windowPassed i y).reg (0x6010 + i) b = s.reg (0x6010 + i) b := set_ne hb

theorem windowPassed_offset : (s.windowPassed i y).reg (0x6010 + i) 9 = ofSigned 32 y := reg_setReg_same _ _ _ _

theorem windowPassed_cand (h : i < s.time.cands.length) : (s.windowPassed i y).cand i = { s.cand i with failRun := 0, passRun := (s.cand i).passRun + 1 } :=
  cand_modCand _ (by exact h)

theorem windowPassed_length : (s.windowPassed i y).time.cands.length = s.time.cands.length := length_modNth _ _ _

theorem qualify_reg (w : Nat) (hb : b < 256) (h : b ≠ 1 ∧ b ≠ 0x0C) : (s.qualify i w).reg (0x6010 + i) b = s.reg (0x6010 + i) b := by
  unfold State.qualify
  rw [reg_setReg_key _ _ (by simp only [key]; omega), modCand_reg, regBit_reg _ _ _ _ (by simp only [key]; omega)]

theorem qualify_bit (w : Nat) : bitAt ((s.qualify i w).reg (0x6010 + i) 1) n = if n = 1 then true else bitAt (s.reg (0x6010 + i) 1) n := by
  unfold State.qualify
  rw [reg_setReg_key _ _ (by simp only [key]; omega), modCand_reg]
  split
  · next h => rw [h, regBit_same]
  · next h => exact regBit_bit true (Ne.symm h)

theorem qualify_length (w : Nat) : (s.qualify i w).time.cands.length = s.time.cands.length := length_modNth _ _ _

theorem qualify_cand (w : Nat) (h : i < s.time.cands.length) : (s.qualify i w).cand i = { s.cand i with wtr := w } := by
  unfold State.qualify; rw [setReg_cand, cand_modCand _ (by exact h), regBit_cand]

end

/-- What a window with cause `k` and offset `y` makes of candidate `c` (R405, R406). -/
structure WindowVerdict (c k : Nat) (y : Int) (s t : State) : Prop where
  offset : t.reg (0x6010 + c) 9 = ofSigned 32 y
  signal : bitAt (t.reg (0x6010 + c) 1) 0 = bitAt (s.reg (0x6010 + c) 1) 0
  passed : k = 0 → (t.cand c).failRun = 0 ∧ (t.cand c).passRun = (s.cand c).passRun + 1
  kept : k = 0 → bitAt (s.reg (0x6010 + c) 1) 1 = true → bitAt (t.reg (0x6010 + c) 1) 1 = true ∧ (t.cand c).wtr = (s.cand c).wtr
  qualified : k = 0 → 3 ≤ (s.cand c).passRun + 1 → bitAt (t.reg (0x6010 + c) 1) 1 = true
  failed : k ≠ 0 → t.reg (0x6010 + c) 0x0B = satAdd32 (s.reg (0x6010 + c) 0x0B) 1 ∧ (t.cand c).passRun = 0
  out : k ≠ 0 → 2 ≤ (s.cand c).failRun →
    bitAt (t.reg (0x6010 + c) 1) 1 = false ∧ (bitAt (s.reg (0x6010 + c) 1) 1 = true → t.reg (0x6010 + c) 0x0A = k)
  counted : k ≠ 0 → (s.cand c).failRun < 2 → (t.cand c).failRun = (s.cand c).failRun + 1
  length : t.time.cands.length = s.time.cands.length

theorem WindowVerdict.of_same {c k : Nat} {y : Int} {s s' t' t : State} (hs : SameCand c s s') (h : WindowVerdict c k y s' t') (ht : SameCand c t' t) :
    WindowVerdict c k y s t := by
  have hbefore : ∀ b < 256, s'.reg (0x6010 + c) b = s.reg (0x6010 + c) b := hs.entry
  have hafter : ∀ b < 256, t.reg (0x6010 + c) b = t'.reg (0x6010 + c) b := ht.entry
  obtain ⟨hoffset, hsignal, hpassed, hkept, hqualified, hfailed, hout, hcounted, hlength⟩ := h
  rw [hs.cand] at hpassed hkept hqualified hout hcounted
  rw [hbefore 1 (by omega)] at hsignal hkept hout
  rw [hbefore 0x0B (by omega)] at hfailed
  constructor
  case length => rw [ht.length, hlength, hs.length]
  all_goals simp only [ht.cand, hafter 1 (by omega), hafter 9 (by omega), hafter 0x0A (by omega), hafter 0x0B (by omega)]
  all_goals assumption

theorem windowFailed_verdict {i k : Nat} (y : Int) (hk : k ≠ 0) (hi : i < 5) (hlen : i < s.time.cands.length) : WindowVerdict i k y s (s.judge i k y) := by
  have hsame : ∀ b < 256, b ≠ 9 ∧ b ≠ 0x0B → (s.windowFailed i y).reg (0x6010 + i) b = s.reg (0x6010 + i) b := fun _ hb h => windowFailed_reg y hb h
  rw [judge_fail y hk]
  split
  · next hout =>
    have hreg : ∀ b < 256, b ≠ 1 ∧ b ≠ 0x0A ∧ b ≠ 0x0C ∧ b ≠ 0x0D →
        ((s.windowFailed i y).disqualify i k).reg (0x6010 + i) b = (s.windowFailed i y).reg (0x6010 + i) b :=
      fun b hb h => disqualify_reg i k hb (by omega) (.inr h)
    refine ⟨?_, ?_, fun h => absurd h hk, fun h => absurd h hk, fun h => absurd h hk, fun _ => ⟨?_, ?_⟩, fun _ _ => ⟨disqualify_out hi k, fun hbit => ?_⟩,
      fun _ h => by omega, (disqualify_length i k).trans (windowFailed_length y)⟩
    · rw [hreg 9 (by omega) (by omega), windowFailed_offset]
    · rw [disqualify_status i k (by omega) (by omega), hsame 1 (by omega) (by omega)]
    · rw [hreg 0x0B (by omega) (by omega), windowFailed_count]
    · rcases disqualify_cand (s := s.windowFailed i y) k (by rw [windowFailed_length]; exact hlen) with h | h <;> rw [h]
      · rw [windowFailed_cand y hlen]
      · simp only [Candidate.disqualified]
    · exact disqualify_cause hi k (by rw [hsame 1 (by omega) (by omega)]; exact hbit)
  · next hin =>
    refine ⟨windowFailed_offset y, by rw [hsame 1 (by omega) (by omega)], fun h => absurd h hk, fun h => absurd h hk, fun h => absurd h hk,
      fun _ => ⟨windowFailed_count y, ?_⟩, fun _ h => absurd h hin, fun _ _ => ?_, windowFailed_length y⟩ <;> rw [windowFailed_cand y hlen]

theorem windowPassed_verdict {i : Nat} (y : Int) (hi : i < 5) (hlen : i < s.time.cands.length) : WindowVerdict i 0 y s (s.judge i 0 y) := by
  have hstatus : (s.windowPassed i y).reg (0x6010 + i) 1 = s.reg (0x6010 + i) 1 := windowPassed_reg y (by omega) (by omega)
  have hcand := windowPassed_cand y hlen
  rw [judge_pass y _ rfl hi]
  split
  · next h =>
    obtain ⟨hbit, -⟩ := h
    have hq := qualify_cand (s := s.windowPassed i y) (if (s.cand i).everDisqualified then s.reg 0x6000 4 else 0) (by rw [windowPassed_length]; exact hlen)
    refine ⟨?_, ?_, fun _ => ?_, fun _ h => ?_, fun _ _ => ?_, fun h => absurd rfl h, fun h => absurd rfl h, fun h => absurd rfl h, ?_⟩
    · rw [qualify_reg _ (by omega) (by omega), windowPassed_offset]
    · rw [qualify_bit, if_neg (by omega), hstatus]
    · rw [hq, hcand]; exact ⟨rfl, rfl⟩
    · rw [hbit] at h; exact absurd h (by decide)
    · rw [qualify_bit, if_pos rfl]
    · rw [qualify_length, windowPassed_length]
  · next h =>
    refine ⟨windowPassed_offset y, by rw [hstatus], fun _ => by rw [hcand]; exact ⟨rfl, rfl⟩, fun _ h => ⟨hstatus ▸ h, by rw [hcand]⟩, fun _ h3 => ?_,
      fun h => absurd rfl h, fun h => absurd rfl h, fun h => absurd rfl h, windowPassed_length y⟩
    rw [hstatus]
    exact (Bool.not_eq_false _).mp fun hbit => h ⟨hbit, h3⟩

theorem judge_verdict {i : Nat} (k : Nat) (y : Int) (hi : i < 5) (hlen : i < s.time.cands.length) : WindowVerdict i k y s (s.judge i k y) := by
  by_cases hk : k = 0
  · subst hk; exact windowPassed_verdict y hi hlen
  · exact windowFailed_verdict y hk hi hlen

/-! ### The end of a window -/

theorem nodup_filter_range (p : Nat → Bool) (n : Nat) : ((List.range n).filter p).Nodup := List.nodup_range.filter p

/-- One second of wait-to-restore of candidate `i` (R406). -/
def State.wtrStep (s : State) (i : Nat) : State :=
  (s.modCand i (fun c => { c with wtr := (s.cand i).wtr - 1 })).setReg (0x6010 + i) 0x0C ((s.cand i).wtr - 1)

/-- What is left of candidate `c`'s wait-to-restore after a second: less where it was qualified before, still is, and waits for more than a second. -/
def State.wtrLeft (s s0 : State) (c : Nat) : Nat :=
  if bitAt (s0.reg (0x6010 + c) 1) 1 && bitAt (s.reg (0x6010 + c) 1) 1 && decide (1 < (s.cand c).wtr) then (s.cand c).wtr - 1 else (s.cand c).wtr

theorem wtrSecond_cand {c : Nat} (s0 : State) (hc : c < 5) (hlen : c < s.time.cands.length) :
    (s.wtrSecond s0).cand c = { s.cand c with wtr := s.wtrLeft s0 c } ∧
    ∀ b < 256, b ≠ 0x0C → (s.wtrSecond s0).reg (0x6010 + c) b = s.reg (0x6010 + c) b := by
  obtain ⟨p, hp⟩ : ∃ p : Nat → Bool, p = fun i => bitAt (s0.reg (0x6010 + i) 1) 1 && bitAt (s.reg (0x6010 + i) 1) 1 && decide (1 < (s.cand i).wtr) := ⟨_, rfl⟩
  have heq : s.wtrSecond s0 = s.each ((List.range 5).filter p) (fun i s => s.wtrStep i) := by rw [hp]; rfl
  have hother : ∀ i ∈ (List.range 5).filter p, i ≠ c → ∀ s : State, SameCand c s (s.wtrStep i) := fun i _ hi s =>
    ((SameCand.refl s).modCand _ hi).setReg _ (by omega) (by omega)
  have hmem : c ∈ (List.range 5).filter p ↔ p c = true := by rw [List.mem_filter, List.mem_range]; exact and_iff_right hc
  have hpc : p c = (bitAt (s0.reg (0x6010 + c) 1) 1 && bitAt (s.reg (0x6010 + c) 1) 1 && decide (1 < (s.cand c).wtr)) := by rw [hp]
  rw [heq, State.wtrLeft, ← hpc]
  by_cases hin : p c = true
  · obtain ⟨u, hsame, hrest⟩ := each_own hother (nodup_filter_range p 5) (hmem.mpr hin) s
    rw [if_pos hin]
    refine ⟨?_, fun b hb hne => ?_⟩
    · rw [hrest.cand, State.wtrStep, setReg_cand, cand_modCand _ (by rw [hsame.length]; exact hlen), hsame.cand]
    · rw [hrest.entry b hb, State.wtrStep, reg_setReg_key _ _ (by simp only [key]; omega), modCand_reg, hsame.entry b hb]
  · have hsame := each_others hother (fun h => hin (hmem.mp h)) s
    rw [if_neg hin]
    exact ⟨hsame.cand, fun b hb _ => hsame.entry b hb⟩

/-- The candidates' hidden state after a window: each remembers whether its signal is there (R404). -/
def State.rememberAbsent (s : State) : State :=
  { s with time := { s.time with cands := (List.range 5).map (fun i => { s.cand i with absent := !bitAt (s.reg (0x6010 + i) 1) 0 }) } }

theorem rememberAbsent_reg : s.rememberAbsent.reg j b = s.reg j b := rfl

theorem rememberAbsent_cand {c : Nat} (hc : c < 5) :
    s.rememberAbsent.cand c = { s.cand c with absent := !bitAt (s.reg (0x6010 + c) 1) 0 } := by
  simp only [State.rememberAbsent, State.cand, nthD]
  rw [List.getD_eq_getElem _ _ (by simpa using hc), List.getElem_map, List.getElem_range]

/-- The selector after a window: refresh, a lock of the acquired candidate, evaluation (R407, R408). -/
def State.chooseAfter (s : State) (lock : State → Bool) : State :=
  let sel := s.reg 0x6000 2
  let s := s.refreshCands
  let s := if lock s then s.enterRef 2 sel else s
  let s := s.evaluate
  { s with time := { s.time with acqWindow := s.reg 0x6000 1 = 1 } }

section
variable (lock : State → Bool)

theorem chooseAfter_cand (c : Nat) : (s.chooseAfter lock).cand c = s.cand c := by
  unfold State.chooseAfter State.cand; dsimp only
  rw [evaluate_cands, apply_ite (fun x : State => x.time.cands), enterRef_cands, ite_self, refreshCands_time]

theorem chooseAfter_reg (hb : b < 256) (hj : 0x6010 ≤ j) (h : b ≠ 1 ∧ b ≠ 8 ∧ b ≠ 0x0F) : (s.chooseAfter lock).reg j b = s.reg j b := by
  obtain ⟨h1, h8, hF⟩ := h
  unfold State.chooseAfter; dsimp only
  rw [with_time_reg, evaluate_reg _ hj hb h1, ite_reg (enterRef_reg _ _ _ hj hb h1), refreshCands_reg _ hb h1 h8 hF]

theorem chooseAfter_status (hj : 0x6010 ≤ j) (h2 : n ≠ 2) (h3 : n ≠ 3) : bitAt ((s.chooseAfter lock).reg j 1) n = bitAt (s.reg j 1) n := by
  unfold State.chooseAfter; dsimp only
  rw [with_time_reg, evaluate_status hj h3, apply_ite (fun x : State => bitAt (x.reg j 1) n), enterRef_status hj h3, ite_self, refreshCands_status h2]

theorem chooseAfter_other (hb : b < 256) (hsub : b ∉ selectorSubs) : (s.chooseAfter lock).reg j b = s.reg j b := by
  have h := hsub
  simp only [selectorSubs, List.mem_cons, List.not_mem_nil, or_false, not_or] at h
  obtain ⟨h1, -, h8, -, -, hF⟩ := h
  unfold State.chooseAfter; dsimp only
  rw [with_time_reg, evaluate_other hb hsub, ite_reg (enterRef_other hb hsub _ _), refreshCands_reg _ hb h1 h8 hF]

end

/-- Everything MONITOR_WINDOW_END judges, before the selector chooses. -/
def State.judgeAll (s : State) (ys : List Int) : State :=
  s.each ((List.range 5).filter (fun i => s.reg (0x6010 + i) 2 ≠ 0)) (fun i t => t.judge i (s.windowCause ys i) (s.windowY ys i))

/-- The window is counted, and the control word read. -/
def State.countWindow (s : State) (control : Int) : State :=
  let u := s.inc64 0x6000 0x12 1
  if 1 ≤ s.reg 0x6000 1 && s.reg 0x6000 1 ≤ 3 then u.setReg 0x6000 0x0C (ofSigned 32 control) else u

/-- Every candidate is judged, and a second of wait-to-restore passes. -/
def State.closeWindow (s : State) (ys : List Int) : State := ((s.judgeAll ys).wtrSecond s).rememberAbsent

theorem monitorWindowEnd_eq (ys : List Int) (control : Int) (hrun : s.time.running = true) : ∃ lock : State → Bool,
    exec (.monitorWindowEnd ys control) s = .next (((s.countWindow control).closeWindow ys).chooseAfter lock) := by
  refine ⟨fun t => s.reg 0x6000 1 = 1 && ((s.countWindow control).closeWindow ys).reg 0x6000 2 < 5 && t.time.acqWindow &&
    t.candEligible (((s.countWindow control).closeWindow ys).reg 0x6000 2) &&
    ((s.countWindow control).windowY ys (((s.countWindow control).closeWindow ys).reg 0x6000 2)).natAbs ≤ 10000, ?_⟩
  show execMonitorWindowEnd ys control s = _
  unfold execMonitorWindowEnd
  rw [if_pos hrun]
  rfl

theorem judgeAll_verdict {c : Nat} (ys : List Int) (hc : c < 5) (hlen : c < s.time.cands.length) (h : s.reg (0x6010 + c) 2 ≠ 0) :
    WindowVerdict c (s.windowCause ys c) (s.windowY ys c) s (s.judgeAll ys) := by
  obtain ⟨u, hsame, hrest⟩ := each_own (f := fun i t => t.judge i (s.windowCause ys i) (s.windowY ys i)) (fun i _ hi _ => SameCand.judge hc _ _ hi)
    (nodup_filter_range (fun i => s.reg (0x6010 + i) 2 ≠ 0) 5) (by rw [List.mem_filter, List.mem_range]; exact ⟨hc, decide_eq_true h⟩) s
  exact (judge_verdict _ _ hc (by rw [hsame.length]; exact hlen)).of_same hsame hrest

theorem judge_windows {i : Nat} (k : Nat) (y : Int) (hi : i < 5) : (s.judge i k y).reg 0x6000 0x12 = s.reg 0x6000 0x12 := by
  have hfailed : (s.windowFailed i y).reg 0x6000 0x12 = s.reg 0x6000 0x12 := by
    rw [State.windowFailed, modCand_reg, inc32_reg_key _ _ (by simp only [key]; omega), reg_setReg_key _ _ (by simp only [key]; omega)]
  have hpassed : (s.windowPassed i y).reg 0x6000 0x12 = s.reg 0x6000 0x12 := set_ne
  by_cases hk : k = 0
  · rw [hk, judge_pass y _ rfl hi, apply_ite (fun x : State => x.reg 0x6000 0x12), hpassed, State.qualify, reg_setReg_key _ _ (by simp only [key]; omega),
      modCand_reg, regBit_reg _ _ _ _ (by simp only [key]; omega), hpassed, ite_self]
  · rw [judge_fail y hk, ite_reg (disqualify_reg i k (by omega) (by omega) (by omega)), hfailed]

theorem closeWindow_windows (ys : List Int) : (s.closeWindow ys).reg 0x6000 0x12 = s.reg 0x6000 0x12 := by
  have hwtr : ∀ u s0 : State, (u.wtrSecond s0).reg 0x6000 0x12 = u.reg 0x6000 0x12 := fun u s0 => by
    unfold State.wtrSecond
    exact each_reg u fun i _ t => set_ne (s := t.modCand i _)
  rw [State.closeWindow, rememberAbsent_reg, hwtr]
  exact each_reg s fun i hi t => judge_windows _ _ (List.mem_range.mp (List.mem_filter.mp hi).1)

theorem windowY_congr (ys : List Int) (c : Nat) (h : t.reg 0x6040 2 = s.reg 0x6040 2) : t.windowY ys c = s.windowY ys c := by
  unfold State.windowY State.sreg; rw [h]

/-- The cause of a window does not depend on the count of windows. -/
theorem windowCause_congr (ys : List Int) (c : Nat) (ht : t.time = s.time)
    (hreg : ∀ j b, b < 256 → (j ≠ 0x6000 ∨ b ≠ 0x12) → t.reg j b = s.reg j b) : t.windowCause ys c = s.windowCause ys c := by
  have hy : ∀ i, t.windowY ys i = s.windowY ys i := fun i => windowY_congr ys i (hreg _ _ (by omega) (by omega))
  have hfun : t.windowY ys = s.windowY ys := funext hy
  unfold State.windowCause State.cand State.sreg
  rw [ht, hfun]
  simp only [hreg 0x6000 2 (by omega) (by omega), hreg 0x6000 0x10 (by omega) (by omega), hreg 0x6000 0x0C (by omega) (by omega),
    fun i => hreg (0x6010 + i) 1 (by omega) (by omega), fun i => hreg (0x6010 + i) 2 (by omega) (by omega), fun i => hreg (0x6010 + i) 5 (by omega) (by omega)]

/-- The state a window is judged in, the count of windows apart. -/
theorem countWindow_reg (control : Int) (hb : b < 256) (h : j ≠ 0x6000 ∨ b ≠ 0x12) : (s.countWindow control).reg j b =
    (if 1 ≤ s.reg 0x6000 1 ∧ s.reg 0x6000 1 ≤ 3 then s.setReg 0x6000 0x0C (ofSigned 32 control) else s).reg j b := by
  unfold State.countWindow; dsimp only
  by_cases hst : 1 ≤ s.reg 0x6000 1 ∧ s.reg 0x6000 1 ≤ 3
  · rw [if_pos hst, if_pos (by simpa using hst), reg_setReg, reg_setReg, inc64_reg_key _ _ (by simp only [key]; omega)]
  · rw [if_neg hst, if_neg (by simpa using hst), inc64_reg_key _ _ (by simp only [key]; omega)]

theorem countWindow_entry (control : Int) (hb : b < 256) (hj : j ≠ 0x6000) : (s.countWindow control).reg j b = s.reg j b := by
  rw [countWindow_reg control hb (.inl hj)]
  exact ite_reg (set_ne hb)

theorem countWindow_time (control : Int) : (s.countWindow control).time = s.time := by
  unfold State.countWindow; dsimp only; split <;> rfl

theorem countWindow_windows (control : Int) : (s.countWindow control).reg 0x6000 0x12 = wrapAdd64 (s.reg 0x6000 0x12) 1 := by
  unfold State.countWindow; dsimp only
  rw [ite_reg set_ne, inc64_reg_same]

end

/-! ### The clauses of R402 to R409 -/

section
variable {s : State}

section
variable {c q : Nat} (hlen : c < s.time.cands.length)

/-- Candidate `c` with a valid quality level message, before the selector sees it (R402). -/
def State.qlTaken (s : State) (c q : Nat) : State :=
  (s.regBit (0x6010 + c) 1 4 true).modCand c (fun k =>
    { k with qlAt := s.time.tclk, lastQl := some q, qlReceived := if k.lastQl = some q then some q else k.qlReceived })

include hlen

theorem qlTaken_cand : (s.qlTaken c q).cand c =
    { s.cand c with qlAt := s.time.tclk, lastQl := some q, qlReceived := if (s.cand c).lastQl = some q then some q else (s.cand c).qlReceived } :=
  cand_modCand _ (by exact hlen)

theorem qlFrameRx_valid (hc : c < 2) : (((s.qlMessage c q).cand c).lastQl = some q ∧ ((s.qlMessage c q).cand c).qlAt = s.time.tclk ∧
    bitAt ((s.qlMessage c q).reg (0x6010 + c) 1) 4 = true ∧
    ((s.cand c).lastQl = some q → ((s.qlMessage c q).cand c).qlReceived = some q ∧ (s.reg (0x6010 + c) 6 ≠ 1 → (s.qlMessage c q).reg (0x6010 + c) 8 = q)) ∧
    ((s.cand c).lastQl ≠ some q → ((s.qlMessage c q).cand c).qlReceived = (s.cand c).qlReceived)) := by
  have heq : s.qlMessage c q = (s.qlTaken c q).reselect := rfl
  have hcand : (s.qlMessage c q).cand c = _ := (heq ▸ reselect_cand c).trans (qlTaken_cand hlen)
  rw [hcand]
  refine ⟨rfl, rfl, ?_, fun h => ⟨if_pos h, fun hmode => ?_⟩, fun h => if_neg h⟩
  · rw [heq, reselect_status (by omega) (by omega) (by omega), State.qlTaken, modCand_reg, regBit_same]
  · have hreg : (s.qlTaken c q).reg (0x6010 + c) 6 = s.reg (0x6010 + c) 6 := by
      rw [State.qlTaken, modCand_reg, regBit_reg _ _ _ _ (by simp only [key]; omega)]
    rw [heq, reselect_level (by omega), State.candLevel, hreg, if_neg hmode, if_neg (by omega), qlTaken_cand hlen, if_pos h]

theorem qlLost_level (hc : c < 4) : ((s.qlLost c).cand c).lastQl = none ∧ ((s.qlLost c).cand c).qlReceived = none ∧
    bitAt ((s.qlLost c).reg (0x6010 + c) 1) 4 = false ∧ (s.qlLost c).reg (0x6010 + c) 8 = s.reg (0x6010 + c) 7 := by
  obtain ⟨u, hu⟩ : ∃ u, u = (s.regBit (0x6010 + c) 1 4 false).modCand c (fun k => { k with lastQl := none, qlReceived := none }) := ⟨_, rfl⟩
  have heq : s.qlLost c = u.reselect := by rw [hu]; rfl
  have hcand : u.cand c = { s.cand c with lastQl := none, qlReceived := none } := by rw [hu]; exact cand_modCand _ (by exact hlen)
  have hfixed : u.reg (0x6010 + c) 7 = s.reg (0x6010 + c) 7 := by rw [hu, modCand_reg, regBit_reg _ _ _ _ (by simp only [key]; omega)]
  rw [heq, reselect_cand, hcand]
  refine ⟨rfl, rfl, ?_, ?_⟩
  · rw [reselect_status (by omega) (by omega) (by omega), hu, modCand_reg, regBit_same]
  · rw [reselect_level (by omega), State.candLevel, hfixed, if_neg (by omega : ¬ c = 4), hcand, ite_self]

theorem signalLoss_lost (hc : c < 5) (h : bitAt (s.reg (0x6010 + c) 1) 0 = true) :
    bitAt ((s.signalLoss c).reg (0x6010 + c) 1) 0 = false ∧ bitAt ((s.signalLoss c).reg (0x6010 + c) 1) 1 = false ∧
    ((s.signalLoss c).cand c).absent = true ∧ ((s.signalLoss c).cand c).lossNs = s.tb0Ns ∧
    (s.signalLoss c).reg (0x6010 + c) 0x0E = satAdd32 (s.reg (0x6010 + c) 0x0E) 1 ∧
    (bitAt (s.reg (0x6010 + c) 1) 1 = true → (s.signalLoss c).reg (0x6010 + c) 0x0A = 1 ∧
      (s.signalLoss c).reg (0x6010 + c) 0x0D = satAdd32 (s.reg (0x6010 + c) 0x0D) 1) := by
  obtain ⟨u, hu⟩ : ∃ u, u = ((s.regBit (0x6010 + c) 1 0 false).inc32 (0x6010 + c) 0x0E 1).modCand c
      (fun k => { k with absent := true, passRun := 0, lossNs := s.tb0Ns }) := ⟨_, rfl⟩
  have heq : s.signalLoss c = (u.disqualify c 1).reselect := by rw [hu]; exact if_pos h
  have hcand : u.cand c = { s.cand c with absent := true, passRun := 0, lossNs := s.tb0Ns } := by rw [hu]; exact cand_modCand _ (by exact hlen)
  have hulen : c < u.time.cands.length := by rw [hu, modCand_time, length_modNth]; exact hlen
  have hustatus : u.reg (0x6010 + c) 1 = (s.regBit (0x6010 + c) 1 0 false).reg (0x6010 + c) 1 := by
    rw [hu, modCand_reg, inc32_reg_key _ _ (by simp only [key]; omega)]
  have hureg : ∀ b < 256, b ≠ 1 ∧ b ≠ 0x0E → u.reg (0x6010 + c) b = s.reg (0x6010 + c) b := fun b hb hne => by
    rw [hu, modCand_reg, inc32_reg_key _ _ (by simp only [key]; omega), regBit_reg _ _ _ _ (by simp only [key]; omega)]
  have hfinal : ((u.disqualify c 1).cand c).absent = true ∧ ((u.disqualify c 1).cand c).lossNs = s.tb0Ns := by
    rcases disqualify_cand 1 hulen with e | e <;> rw [e] <;> simp [hcand, Candidate.disqualified]
  rw [heq, reselect_cand]
  refine ⟨?_, ?_, hfinal.1, hfinal.2, ?_, fun hq => ?_⟩
  · rw [reselect_status (by omega) (by omega) (by omega), disqualify_status c 1 (by omega) (by omega), hustatus, regBit_same]
  · rw [reselect_status (by omega) (by omega) (by omega), disqualify_out hc]
  · rw [reselect_reg _ (by omega) (by omega) (by omega) (by omega) (by omega), disqualify_reg c 1 (by omega) (by omega) (by omega), hu, modCand_reg,
      inc32_reg_same, regBit_reg _ _ _ _ (by simp only [key]; omega)]
  · have hq' : bitAt (u.reg (0x6010 + c) 1) 1 = true := by rw [hustatus, regBit_bit _ (by omega)]; exact hq
    rw [reselect_reg _ (by omega) (by omega) (by omega) (by omega) (by omega), reselect_reg _ (by omega) (by omega) (by omega) (by omega) (by omega),
      disqualify_cause hc 1 hq', disqualify_count hc 1 hq', hureg 0x0D (by omega) (by omega)]
    exact ⟨rfl, rfl⟩

theorem wtrExpiry_expires (hc : c < 5) (h : (s.cand c).wtr = 1) :
    Completes (.wtrExpiry c) s (fun t => (t.cand c).wtr = 0 ∧ t.reg (0x6010 + c) 0x0C = 0) := by
  refine ⟨((s.modCand c (fun k => { k with wtr := 0 })).setReg (0x6010 + c) 0x0C 0).reselect, ?_, ?_, ?_⟩
  · show inst (decide (c < 5)) _ = _
    rw [decide_eq_true hc, if_neg (by simpa using h)]; rfl
  · rw [reselect_cand, setReg_cand, cand_modCand _ (by exact hlen)]
  · rw [reselect_reg _ (by omega) (by omega) (by omega) (by omega) (by omega), reg_setReg_same]

theorem monitorWindowEnd_judges (ys : List Int) (control : Int) (hrun : s.time.running = true) (hc : c < 5) (hprio : s.reg (0x6010 + c) 2 ≠ 0) :
    let u := if 1 ≤ s.reg 0x6000 1 ∧ s.reg 0x6000 1 ≤ 3 then s.setReg 0x6000 0x0C (ofSigned 32 control) else s
    let cause := u.windowCause ys c
    Completes (.monitorWindowEnd ys control) s (fun t => t.reg 0x6000 0x12 = wrapAdd64 (s.reg 0x6000 0x12) 1 ∧
      t.reg (0x6010 + c) 9 = ofSigned 32 (s.windowY ys c) ∧ (t.cand c).absent = !bitAt (s.reg (0x6010 + c) 1) 0 ∧
      (cause = 0 → (t.cand c).failRun = 0 ∧ (t.cand c).passRun = (s.cand c).passRun + 1 ∧
        (bitAt (s.reg (0x6010 + c) 1) 1 = true → (t.cand c).wtr = if 1 < (s.cand c).wtr then (s.cand c).wtr - 1 else (s.cand c).wtr) ∧
        (3 ≤ (s.cand c).passRun + 1 → bitAt (t.reg (0x6010 + c) 1) 1 = true)) ∧
      (cause ≠ 0 → t.reg (0x6010 + c) 0x0B = satAdd32 (s.reg (0x6010 + c) 0x0B) 1 ∧ (t.cand c).passRun = 0 ∧
        (2 ≤ (s.cand c).failRun → bitAt (t.reg (0x6010 + c) 1) 1 = false ∧ (bitAt (s.reg (0x6010 + c) 1) 1 = true → t.reg (0x6010 + c) 0x0A = cause)) ∧
        ((s.cand c).failRun < 2 → (t.cand c).failRun = (s.cand c).failRun + 1))) := by
  intro u cause
  obtain ⟨lock, hexec⟩ := monitorWindowEnd_eq ys control hrun
  obtain ⟨w, hw⟩ : ∃ w, w = s.countWindow control := ⟨_, rfl⟩
  rw [← hw] at hexec
  have hwtime : w.time = s.time := hw ▸ countWindow_time control
  have hwcand : w.cand c = s.cand c := cand_congr hwtime c
  have hwreg : ∀ b < 256, w.reg (0x6010 + c) b = s.reg (0x6010 + c) b := fun b hb => hw ▸ countWindow_entry control hb (by omega)
  have hcause : w.windowCause ys c = cause := by
    refine windowCause_congr ys c (hwtime.trans ?_) fun j b hb hjb => hw ▸ countWindow_reg control hb hjb
    show s.time = (if _ then s.setReg 0x6000 0x0C _ else s).time
    split <;> rfl
  have hy : w.windowY ys c = s.windowY ys c := windowY_congr ys c (hw ▸ countWindow_entry control (by omega) (by omega))
  have hv := judgeAll_verdict ys hc (by rw [hwtime]; exact hlen) (by rw [hwreg 2 (by omega)]; exact hprio)
  rw [hcause, hy] at hv
  obtain ⟨hoffset, hsignal, hpassed, hkept, hqualified, hfailed, hout, hcounted, hvlen⟩ := hv
  rw [hwreg 1 (by omega), hwcand] at *
  obtain ⟨hwcand2, hwreg2⟩ := wtrSecond_cand (s := w.judgeAll ys) w hc (by rw [hvlen, hwtime]; exact hlen)
  obtain ⟨t, ht⟩ : ∃ t, t = (w.closeWindow ys).chooseAfter lock := ⟨_, rfl⟩
  refine ⟨t, ht ▸ hexec, ?_⟩
  have hreg : ∀ b < 256, b ≠ 1 ∧ b ≠ 8 ∧ b ≠ 0x0C ∧ b ≠ 0x0F → t.reg (0x6010 + c) b = (w.judgeAll ys).reg (0x6010 + c) b := fun b hb h => by
    rw [ht, chooseAfter_reg lock hb (by omega) (by omega), State.closeWindow, rememberAbsent_reg, hwreg2 b hb (by omega)]
  have hbit : ∀ n, n ≠ 2 → n ≠ 3 → bitAt (t.reg (0x6010 + c) 1) n = bitAt ((w.judgeAll ys).reg (0x6010 + c) 1) n := fun n h2 h3 => by
    rw [ht, chooseAfter_status lock (by omega) h2 h3, State.closeWindow, rememberAbsent_reg, hwreg2 1 (by omega) (by omega)]
  have hcand : t.cand c = { (w.judgeAll ys).cand c with wtr := (w.judgeAll ys).wtrLeft w c, absent := !bitAt (s.reg (0x6010 + c) 1) 0 } := by
    rw [ht, chooseAfter_cand, State.closeWindow, rememberAbsent_cand hc, hwcand2, hwreg2 1 (by omega) (by omega), hsignal]
  beta_reduce
  rw [hcand, hreg 9 (by omega) (by omega), hreg 0x0B (by omega) (by omega), hreg 0x0A (by omega) (by omega), hbit 1 (by omega) (by omega)]
  refine ⟨?_, hoffset, rfl, fun h0 => ⟨(hpassed h0).1, (hpassed h0).2, fun hq => ?_, hqualified h0⟩,
    fun hne => ⟨?_, (hfailed hne).2, hout hne, hcounted hne⟩⟩
  · rw [ht, chooseAfter_other lock (by omega) (by decide), closeWindow_windows, hw, countWindow_windows]
  · obtain ⟨hq', hwtr⟩ := hkept h0 hq
    show (w.judgeAll ys).wtrLeft w c = _
    rw [State.wtrLeft, hwreg 1 (by omega), hq, hq', hwtr]
    simp
  · rw [(hfailed hne).1, hwreg 0x0B (by omega)]

end

theorem switchComplete_locks (h : s.reg 0x6000 1 = 3) : Completes .switchComplete s (fun t => t.reg 0x6000 0x0E = satAdd32 (s.reg 0x6000 0x0E) 1 ∧
    (s.reg 0x6000 0x11 = 0 → (((s.inc32 0x6000 0x0E 1).enterRef 2 (s.reg 0x6000 2)).refreshCands).bestCand = some (s.reg 0x6000 2) →
      t.reg 0x6000 1 = 2 ∧ t.reg 0x6000 2 = s.reg 0x6000 2)) := by
  obtain ⟨u, hu⟩ : ∃ u, u = (s.inc32 0x6000 0x0E 1).enterRef 2 (s.reg 0x6000 2) := ⟨_, rfl⟩
  refine ⟨u.reselect, hu ▸ if_pos h, ?_, fun hforce hbest => ?_⟩
  · rw [State.reselect, evaluate_other (by omega) (by decide), refreshCands_reg_below (by omega) (by omega), hu, enterRef_other (by omega) (by decide),
      inc32_reg_same]
  · have hrefresh : ∀ b < 256, u.refreshCands.reg 0x6000 b = u.reg 0x6000 b := fun b hb => refreshCands_reg_below (by omega) hb
    have hstate : u.refreshCands.reg 0x6000 1 = 2 := by
      rw [hrefresh 1 (by omega), hu]; unfold State.enterRef; dsimp only
      rw [reg_setReg_key _ _ (by simp only [key]; omega), with_time_reg, reg_setReg_key _ _ (by simp only [key]; omega), reg_setReg_same]
    have hsel : u.refreshCands.reg 0x6000 2 = s.reg 0x6000 2 := by
      rw [hrefresh 2 (by omega), hu]; unfold State.enterRef; dsimp only
      rw [reg_setReg_key _ _ (by simp only [key]; omega), with_time_reg, reg_setReg_same]
    have hforce' : u.refreshCands.reg 0x6000 0x11 = 0 := by
      rw [hrefresh 0x11 (by omega), hu, enterRef_other (by omega) (by decide), inc32_reg_key _ _ (by simp only [key]; omega), hforce]
    have hstays : u.reselect = u.refreshCands.setReg 0x6000 8 u.refreshCands.qlOut := by
      rw [← hu] at hbest
      unfold State.reselect State.evaluate
      simp only [hstate, hsel, hforce', hbest]
      simp
    rw [hstays, set_ne, set_ne]
    exact ⟨hstate, hsel⟩

theorem refAcquireTimeout_disqualifies (hst : s.reg 0x6000 1 = 1) (hsel : s.reg 0x6000 2 < 5)
    (hq : bitAt (s.reg (0x6010 + s.reg 0x6000 2) 1) 1 = true) : Completes .refAcquireTimeout s (fun t =>
      t.reg (0x6010 + s.reg 0x6000 2) 0x0A = 2 ∧ bitAt (t.reg (0x6010 + s.reg 0x6000 2) 1) 1 = false ∧
      t.reg (0x6010 + s.reg 0x6000 2) 0x0D = satAdd32 (s.reg (0x6010 + s.reg 0x6000 2) 0x0D) 1) := by
  refine ⟨(s.disqualify (s.reg 0x6000 2) 2).reselect, if_pos hst, ?_, ?_, ?_⟩
  · rw [reselect_reg _ (by omega) (by omega) (by omega) (by omega) (by omega), disqualify_cause hsel 2 hq]
  · rw [reselect_status (by omega) (by omega) (by omega), disqualify_out hsel]
  · rw [reselect_reg _ (by omega) (by omega) (by omega) (by omega) (by omega), disqualify_count hsel 2 hq]

end

/-- Settles O50: each row ends in a refresh of the candidates and an evaluation of the selector, which change of a candidate's entries only the
eligible and selected bits, the level and its count, so what the row wrote before them stands; and of the candidates judged at the end of a window
each is judged once, from what it was before. -/
theorem referenceCandidatesAreJudged : Obligations.ReferenceCandidatesAreJudged := by
  unfold Obligations.ReferenceCandidatesAreJudged
  intro s
  refine ⟨fun c word stop hc hlen => ?_, fun c hc hlen => ?_, fun c hc hlen => ⟨fun h => ?_, fun h => ?_⟩, fun c hc => ?_, fun ys control h => if_neg (by simp [h]),
    fun ys control c hrun hc hlen hprio => monitorWindowEnd_judges hlen ys control hrun hc hprio, fun c hc hlen => ⟨fun h => ?_, wtrExpiry_expires hlen hc⟩,
    fun h => if_neg h, switchComplete_locks, fun h => if_neg h, refAcquireTimeout_disqualifies⟩
  · have hinst : ∀ r, inst (decide (c < 2)) r = r := fun r => by rw [decide_eq_true hc]; rfl
    refine ⟨fun hok => ⟨s.qlMessage c (bits word 11 8), ?_, qlFrameRx_valid hlen hc⟩, fun hbad => ⟨s.inc32 (0x6010 + c) 0x10 1, ?_, rfl, inc32_reg_same _ _ _ _⟩⟩
    · obtain ⟨h1, h2, h3, h4⟩ := hok
      show inst _ _ = _
      rw [hinst]
      simp only [h1, h2, h3, h4, decide_true, Bool.and_self, if_true]
    · show inst _ _ = _
      rw [hinst, if_neg]
      simpa [Bool.and_eq_true, decide_eq_true_eq, and_assoc] using hbad
  · have hexec : ∀ t, t = (if (s.cand c).qlAt + s.reg 0x6000 0x13 * 500000000 ≤ s.time.tclk then s.qlLost c else s) → exec (.qlTimeout c) s = .next t := fun t ht => by
      show inst (decide (c < 4)) _ = _
      rw [decide_eq_true hc, ht]; rfl
    exact ⟨fun h => hexec s (if_neg (by omega)).symm, fun h => ⟨s.qlLost c, hexec _ (if_pos h).symm, qlLost_level hlen hc⟩⟩
  · show inst (decide (c < 5)) _ = _
    rw [decide_eq_true hc, State.signalLoss, if_neg (by simp [h])]
    rfl
  · refine ⟨s.signalLoss c, ?_, signalLoss_lost hlen hc h⟩
    show inst (decide (c < 5)) _ = _
    rw [decide_eq_true hc]; rfl
  · refine ⟨s.signalReturn c, ?_, rfl, reg_setReg_same _ _ _ _⟩
    show inst (decide (c < 2)) _ = _
    rw [decide_eq_true hc]; rfl
  · show inst (decide (c < 5)) _ = _
    rw [decide_eq_true hc, if_pos h]; rfl

end Sys2Proof.Machine
end

section
/-! Axis positions and their sensors (chapter 14, R432 to R439). -/

set_option Elab.async false

namespace Sys2Proof.Machine

variable {s t : State}

/-! ### What compares and line edges leave of the axes -/

/-- The axes and their entries stand as they did. -/
structure SameAxes (s t : State) : Prop where
  axes : t.pos.axes = s.pos.axes
  entry : ∀ j b, 0x6400 ≤ j → j ≤ 0x6403 → b < 256 → t.reg j b = s.reg j b

namespace SameAxes

theorem refl (s : State) : SameAxes s s := ⟨rfl, fun _ _ _ _ _ => rfl⟩

theorem trans {u : State} (h : SameAxes s t) (h' : SameAxes t u) : SameAxes s u :=
  ⟨h'.axes.trans h.axes, fun j b h1 h2 hb => (h'.entry j b h1 h2 hb).trans (h.entry j b h1 h2 hb)⟩

theorem setReg (h : SameAxes s t) {i a : Nat} (v : Nat) (hi : i < 0x6400 ∨ 0x6403 < i) (ha : a < 256) : SameAxes s (t.setReg i a v) :=
  ⟨h.axes, fun j b h1 h2 hb => (reg_setReg_other _ _ ha hb (.inl (by omega))).trans (h.entry j b h1 h2 hb)⟩

theorem inc32 (h : SameAxes s t) {i a : Nat} (v : Nat) (hi : i < 0x6400 ∨ 0x6403 < i) (ha : a < 256) : SameAxes s (t.inc32 i a v) := h.setReg _ hi ha

theorem inc64 (h : SameAxes s t) {i a : Nat} (v : Nat) (hi : i < 0x6400 ∨ 0x6403 < i) (ha : a < 256) : SameAxes s (t.inc64 i a v) := h.setReg _ hi ha

theorem fire (h : SameAxes s t) (x p : Nat) : SameAxes s (t.fire x p) :=
  ⟨by rw [fire_pos, h.axes], fun j b h1 h2 hb => (fire_low _ _ _ (by omega) hb (by omega)).trans (h.entry j b h1 h2 hb)⟩

theorem modList (h : SameAxes s t) (m : Nat) (f : CompareList → CompareList) : SameAxes s (t.modList m f) := ⟨h.axes, h.entry⟩

theorem modGen (h : SameAxes s t) (f : LineGen → LineGen) : SameAxes s (t.modGen f) := ⟨h.axes, h.entry⟩

theorem emit (h : SameAxes s t) (o : Output) : SameAxes s (t.emit o) := ⟨h.axes, h.entry⟩

theorem each {α : Type} {xs : List α} {f : α → State → State} (h : ∀ x ∈ xs, ∀ t, SameAxes t (f x t)) (s : State) : SameAxes s (s.each xs f) := by
  unfold State.each
  exact List.foldlRecOn xs _ (refl s) fun t ht x hx => ht.trans (h x hx t)

theorem ite {c : Prop} [Decidable c] {u : State} (ht : SameAxes s t) (hu : SameAxes s u) : SameAxes s (if c then t else u) := by
  split <;> assumption

theorem unmarked {m : Nat} (hm : m < 4) (e : CompareEntry) (h : SameAxes s t) : SameAxes s (t.unmarked m e) := ite (h.inc32 _ (by omega) (by omega)) h

theorem compareFire (m : Nat) (e : CompareEntry) : SameAxes s (s.compareFire m e) := by
  have hfired : SameAxes s ((s.inc64 (0x6410 + m) 0x0E 1).fire (0x320 + m) e.tag) := ((refl s).inc64 _ (by omega) (by omega)).fire _ _
  exact ite ((hfired.modList _ _).inc32 _ (by omega) (by omega)) (((hfired.modList _ _).modList _ _).emit _)

theorem compareMissed {m : Nat} (hm : m < 4) (e : CompareEntry) : SameAxes s (s.compareMissed m e) :=
  unmarked hm e (((((refl s).inc32 _ (by omega) (by omega)).setReg _ (by omega) (by omega)).setReg _ (by omega) (by omega)).fire _ _)

theorem sweepList {m : Nat} (hm : m < 4) (a : Nat) (test : CompareEntry → Match) : SameAxes s (s.sweepList m a test) := by
  have hstep : ∀ (es : List CompareEntry) (u : State), SameAxes s u → SameAxes s
      ((u.each es (fun e s => if test e = .fires then s.compareFire m e else s.compareMissed m e)).showArmed m) := fun es u hu =>
    (hu.trans (each (fun e _ t => ite (compareFire m e) (compareMissed hm e)) u)).setReg _ (by omega) (by omega)
  exact ite (refl s) (hstep _ _ ((refl s).modList _ _))

theorem compareSweep (a : Nat) : SameAxes s (s.compareSweep a) :=
  each (fun _ hm t => ite (sweepList (List.mem_range.mp hm) a _) (refl t)) s

theorem edgesDue (n : Nat) : SameAxes s (State.edgesDue n s) := by
  induction n generalizing s with
  | zero => exact refl s
  | succ n ih =>
    have hk := (refl s).modGen (fun g => { g with k := g.k + 1 })
    have howed := hk.modGen (fun g => { g with owed := g.owed + 1 })
    exact (ite (hk.inc32 1 (by omega) (by omega)) (ite (howed.inc32 1 (by omega) (by omega)) howed)).trans ih

theorem genSweep (a : Nat) : SameAxes s (s.genSweep a) := ite (edgesDue _) (refl s)

theorem axis (h : SameAxes s t) (a : Nat) : t.axis a = s.axis a := by unfold State.axis; rw [h.axes]

end SameAxes

/-! ### A move of an axis -/

theorem ofSigned_toSigned_64 {v : Nat} (h : v < 2 ^ 64) : ofSigned 64 (toSigned 64 v) = v := by
  unfold ofSigned toSigned
  rw [Nat.mod_eq_of_lt h]
  split <;> omega

/-- What an axis has of its sensor: the levels of its balls, its Hall reference and its SSI reference. -/
def Axis.sensed (x : Axis) : Bool × Bool × Option Nat × Option Nat := (x.a, x.b, x.hall, x.ssiRef)

section
variable {a : Nat}

theorem modAxis_sensed {f : Axis → Axis} (hf : ∀ x, (f x).sensed = x.sensed) (a c : Nat) : ((s.modAxis a f).axis c).sensed = (s.axis c).sensed :=
  nthD_modNth_map _ Axis.sensed hf _ _ _

theorem axis_modAxis (f : Axis → Axis) (h : a < s.pos.axes.length) : (s.modAxis a f).axis a = f (s.axis a) := nthD_modNth _ _ _ _ h

/-- Direction logic and standstill leave the position and what the sensor gave. -/
structure SameSensed (a : Nat) (s t : State) : Prop where
  sensed : (t.axis a).sensed = (s.axis a).sensed
  value : t.reg (0x6400 + a) 9 = s.reg (0x6400 + a) 9

namespace SameSensed

theorem refl (s : State) : SameSensed a s s := ⟨rfl, rfl⟩

theorem trans {u : State} (h : SameSensed a s t) (h' : SameSensed a t u) : SameSensed a s u := ⟨h'.sensed.trans h.sensed, h'.value.trans h.value⟩

theorem setReg (h : SameSensed a s t) {b : Nat} (v : Nat) (hb : b < 256) (hne : b ≠ 9) : SameSensed a s (t.setReg (0x6400 + a) b v) :=
  ⟨h.sensed, (reg_setReg_key _ _ (by simp only [key]; omega)).trans h.value⟩

theorem modAxis (h : SameSensed a s t) {f : Axis → Axis} (hf : ∀ x, (f x).sensed = x.sensed) : SameSensed a s (t.modAxis a f) :=
  ⟨(modAxis_sensed hf a a).trans h.sensed, h.value⟩

theorem fire (h : SameSensed a s t) (ha : a < 4) (x p : Nat) : SameSensed a s (t.fire x p) :=
  ⟨by unfold State.axis; rw [fire_pos]; exact h.sensed, (fire_low _ _ _ (by omega) (by omega) (by omega)).trans h.value⟩

theorem setDirection (ha : a < 4) (d : Nat) (p : Int) : SameSensed a s (s.setDirection a d p) :=
  ((((refl s).setReg (b := 0x0B) _ (by omega) (by omega)).modAxis (fun _ => by rfl)).setReg (b := 0x13) _ (by omega) (by omega)).fire ha _ _

theorem openReverse : SameSensed a s (s.openReverse a) := ((refl s).setReg _ (by omega) (by omega)).modAxis (fun _ => by rfl)

theorem directionMove (ha : a < 4) (p q : Int) : SameSensed a s (s.directionMove a p q) := by
  unfold State.directionMove; dsimp only
  split
  · split
    · exact setDirection ha _ _
    · exact refl s
  all_goals
    split
    · exact (refl s).modAxis (fun _ => by rfl)
    · split
      · exact setDirection ha _ _
      · exact openReverse

theorem standCount : SameSensed a s (s.standCount a) := by
  unfold State.standCount; dsimp only
  split
  · exact ((refl s).setReg _ (by omega) (by omega)).modAxis (fun _ => by rfl)
  · exact (refl s).modAxis (fun _ => by rfl)

end SameSensed

/-- A count moves the position by itself and leaves what the sensor gave. -/
theorem move_moves (ha : a < 4) {d : Int} (hd : d ≠ 0) :
    (s.move a d).reg (0x6400 + a) 9 = ofSigned 64 (s.position a + d) ∧ ((s.move a d).axis a).sensed = (s.axis a).sensed := by
  obtain ⟨q, hq⟩ : ∃ q, q = toSigned 64 (ofSigned 64 (s.position a + d)) := ⟨_, rfl⟩
  obtain ⟨u, hu⟩ : ∃ u, u = s.setReg (0x6400 + a) 9 (ofSigned 64 q) := ⟨_, rfl⟩
  obtain ⟨w, hw⟩ : ∃ w, w = ((u.modAxis a (fun x => { x with lastCount := u.time.tclk })).standCount a).directionMove a (s.position a) q := ⟨_, rfl⟩
  have heq : s.move a d = (w.compareSweep a).genSweep a := by rw [hw, hu, hq]; exact if_neg hd
  have hsweeps : SameAxes w (s.move a d) := heq ▸ (SameAxes.compareSweep a).trans (SameAxes.genSweep a)
  have hlogic : SameSensed a u w := hw ▸ (((SameSensed.refl u).modAxis (fun _ => by rfl)).trans .standCount).trans (.directionMove ha _ _)
  refine ⟨?_, ?_⟩
  · rw [hsweeps.entry _ _ (by omega) (by omega) (by omega), hlogic.value, hu, reg_setReg_same, hq, ofSigned_toSigned_64 (ofSigned_lt_64 _)]
  · rw [hsweeps.axis, hlogic.sensed, hu]; rfl

theorem move_zero (s : State) (a : Nat) : s.move a 0 = s := if_pos rfl

/-- An error counts, and leaves position and axes. -/
theorem posError_failed (ha : a < 4) : (s.posError a).reg (0x6400 + a) 0x11 = satAdd32 (s.reg (0x6400 + a) 0x11) 1 ∧
    (s.posError a).reg (0x6400 + a) 9 = s.reg (0x6400 + a) 9 ∧ (s.posError a).pos = s.pos := by
  unfold State.posError
  refine ⟨?_, ?_, by rw [fire_pos]; rfl⟩ <;> rw [fire_low _ _ _ (by omega) (by omega) (by omega)]
  · rw [inc32_reg_same]
  · rw [inc32_reg_key _ _ (by simp only [key]; omega)]

theorem glitch_counts : (s.glitch a).reg (0x6400 + a) 0x12 = satAdd32 (s.reg (0x6400 + a) 0x12) 1 ∧
    (s.glitch a).reg (0x6400 + a) 9 = s.reg (0x6400 + a) 9 ∧ (s.glitch a).pos = s.pos :=
  ⟨inc32_reg_same _ _ _ _, inc32_reg_key _ _ (by simp only [key]; omega), rfl⟩

/-- A preset sets the position and leaves the latched index position. -/
theorem preset_sets (ha : a < 4) : (s.preset a).reg (0x6400 + a) 9 = ofSigned 64 (s.sreg 64 (0x6400 + a) 7) ∧
    ∀ b < 256, b ≠ 9 → (s.preset a).reg (0x6400 + a) b = s.reg (0x6400 + a) b := by
  obtain ⟨v, hv⟩ : ∃ v, v = s.sreg 64 (0x6400 + a) 7 := ⟨_, rfl⟩
  obtain ⟨u, hu⟩ : ∃ u, u = (s.setReg (0x6400 + a) 9 (ofSigned 64 v)).modAxis a (fun x =>
    { x with phat := fmt64.add x.phat (fmt64.ofInt (v - s.position a)), extremum := x.extremum + (v - s.position a), onValue := x.onValue + (v - s.position a) }) := ⟨_, rfl⟩
  have hrest : SameAxes u (s.preset a) := by
    obtain ⟨w, hw⟩ : ∃ w, w = (if u.reg 0x6420 3 = a then u.modGen (fun g => { g with p0 := g.p0 + (v - s.position a) }) else u) := ⟨_, rfl⟩
    have hwu : SameAxes u w := by rw [hw]; exact SameAxes.ite ((SameAxes.refl u).modGen _) (SameAxes.refl u)
    have heq : s.preset a = w.each (List.range 4) (fun m t => (t.sweepList m a (fun e => placeTest e v (t.direction a))).modList m (fun l =>
        { l with entries := l.entries.map (fun e => if e.axis = a then { e with above := decide (v < e.target) } else e) })) := by
      rw [hw, hu, hv]; rfl
    rw [heq]
    exact hwu.trans (SameAxes.each (fun _ hm t => (SameAxes.sweepList (List.mem_range.mp hm) a _).modList _ _) w)
  refine ⟨?_, fun b hb hne => ?_⟩ <;> rw [hrest.entry _ _ (by omega) (by omega) (by omega), hu]
  · exact (reg_setReg_same _ _ _ _).trans (by rw [hv])
  · exact reg_setReg_key _ _ (by simp only [key]; omega)

/-! ### The rows of a quadrature axis (R432, R433) -/

/-- The filtered levels of the balls of axis `a` (R433). -/
def State.levels (s : State) (a : Nat) (x y : Bool) : State := s.modAxis a (fun k => { k with a := x, b := y })

theorem levels_axis (hlen : a < s.pos.axes.length) (x y : Bool) : (s.levels a x y).axis a = { s.axis a with a := x, b := y } := axis_modAxis _ hlen

theorem levels_position (x y : Bool) : (s.levels a x y).position a = s.position a := rfl

section
variable (ha : a < 4) (hin : s.board.inspect = true)
include ha hin

theorem encoderEdge_quad {x y : Bool} {held : Nat} (hmode : s.reg (0x6400 + a) 3 = 0) : exec (.encoderEdge a x y held) s =
    if held < s.reg (0x6400 + a) 5 then .next (s.glitch a)
    else if !s.axisOn a then .next (s.levels a x y)
    else if x != (s.axis a).a && y != (s.axis a).b then .next ((s.levels a x y).posError a)
    else .next ((s.levels a x y).move a (s.sense a (quadStep (s.axis a).a (s.axis a).b x y))) := by
  show execEncoderEdge a x y held s = _
  unfold execEncoderEdge
  rw [decide_eq_true ha, hin, decide_eq_true hmode]
  rfl

theorem indexEdge_quad {held : Nat} (hon : s.axisOn a = true) (hmode : s.reg (0x6400 + a) 3 = 0) : exec (.indexEdge a held) s =
    if held < s.reg (0x6400 + a) 5 then .next (s.glitch a) else .next (s.indexEdge a) := by
  show execIndexEdge a held s = _
  unfold execIndexEdge
  rw [decide_eq_true ha, hin, hon, decide_eq_true hmode]
  rfl

theorem hallState_hall {h held : Nat} (hh : h < 8) (hon : s.axisOn a = true) (hmode : s.reg (0x6400 + a) 3 = 1) : exec (.hallState a h held) s =
    if held < s.reg (0x6400 + a) 5 then .next (s.glitch a) else .next (s.hallMove a h) := by
  show execHallState a h held s = _
  unfold execHallState
  rw [decide_eq_true ha, decide_eq_true hh, hin, hon, decide_eq_true hmode]
  rfl

theorem ssiFrame_ssi {v : Nat} {parity : Bool} (hst : s.axisOn a = true ∨ s.reg (0x6400 + a) 2 = stEnabling) (hmode : s.reg (0x6400 + a) 3 = 2) :
    exec (.ssiFrame a v parity) s = .next (s.ssiFrame a v parity) := by
  show execSsiFrame a v parity s = _
  unfold execSsiFrame
  have hor : (s.axisOn a || decide (s.reg (0x6400 + a) 2 = stEnabling)) = true := by simpa using hst
  rw [decide_eq_true ha, hin, decide_eq_true hmode, hor]
  rfl

theorem observerUpdate_on (hon : s.axisOn a = true) : exec (.observerUpdate a) s = .next (s.observe a) := by
  show execObserverUpdate a s = _
  unfold execObserverUpdate
  rw [decide_eq_true ha, hin, hon]
  rfl

theorem standstill_on (hon : s.axisOn a = true) : exec (.standstill a) s = .next (if s.stillDue a then s.standstill a else s) := by
  show execStandstill a s = _
  unfold execStandstill
  rw [inst_ok (decide_eq_true ha), hin, hon, Bool.true_and, Bool.true_and]

theorem encoderEdge_glitch {x y : Bool} {held : Nat} (hmode : s.reg (0x6400 + a) 3 = 0) (h : held < s.reg (0x6400 + a) 5) :
    exec (.encoderEdge a x y held) s = .next (s.glitch a) := by rw [encoderEdge_quad ha hin hmode, if_pos h]

/-- Both levels changed at once: an error, with the new levels kept. -/
theorem encoderEdge_error {x y : Bool} {held : Nat} (hlen : a < s.pos.axes.length) (hon : s.axisOn a = true) (hmode : s.reg (0x6400 + a) 3 = 0)
    (h : s.reg (0x6400 + a) 5 ≤ held) (hboth : x ≠ (s.axis a).a ∧ y ≠ (s.axis a).b) : Completes (.encoderEdge a x y held) s (fun t =>
      (t.reg (0x6400 + a) 0x11 = satAdd32 (s.reg (0x6400 + a) 0x11) 1 ∧ t.reg (0x6400 + a) 9 = s.reg (0x6400 + a) 9) ∧ (t.axis a).a = x ∧ (t.axis a).b = y) := by
  obtain ⟨hcount, hkept, hpos⟩ := posError_failed (s := s.levels a x y) ha
  have haxis : ((s.levels a x y).posError a).axis a = { s.axis a with a := x, b := y } := by
    rw [← levels_axis hlen x y]; unfold State.axis; rw [hpos]
  refine ⟨(s.levels a x y).posError a, ?_, ⟨hcount, hkept⟩, by rw [haxis], by rw [haxis]⟩
  rw [encoderEdge_quad ha hin hmode, if_neg (by omega), hon, if_neg (by simp), if_pos (by simpa using hboth)]

/-- At most one level changed: the position moves by the step, in the sense of the invert entry. -/
theorem encoderEdge_counts {x y : Bool} {held : Nat} (hlen : a < s.pos.axes.length) (hon : s.axisOn a = true) (hmode : s.reg (0x6400 + a) 3 = 0)
    (h : s.reg (0x6400 + a) 5 ≤ held) (hone : x = (s.axis a).a ∨ y = (s.axis a).b) :
    let d := s.sense a (quadStep (s.axis a).a (s.axis a).b x y)
    Completes (.encoderEdge a x y held) s (fun t => (t.axis a).a = x ∧ (t.axis a).b = y ∧
      (d ≠ 0 → t.reg (0x6400 + a) 9 = ofSigned 64 (s.position a + d)) ∧ (d = 0 → t.regs = s.regs)) := by
  intro d
  have hexec : exec (.encoderEdge a x y held) s = .next ((s.levels a x y).move a d) := by
    rw [encoderEdge_quad ha hin hmode, if_neg (by omega), hon, if_neg (by simp), if_neg]
    simp only [Bool.and_eq_true, bne_iff_ne, not_and_or, not_not]
    exact hone
  have hlevels := levels_axis hlen x y
  refine ⟨_, hexec, ?_⟩
  by_cases hd : d = 0
  · rw [hd, move_zero]
    beta_reduce
    rw [hlevels]
    exact ⟨rfl, rfl, fun h => absurd rfl h, fun _ => rfl⟩
  · obtain ⟨hmoved, hsensed⟩ := move_moves (s := s.levels a x y) ha hd
    rw [hlevels] at hsensed
    exact ⟨congrArg (·.1) hsensed, congrArg (·.2.1) hsensed, fun _ => hmoved, fun h => absurd h hd⟩

theorem indexEdge_latches {held : Nat} (hon : s.axisOn a = true) (hmode : s.reg (0x6400 + a) 3 = 0) (h : s.reg (0x6400 + a) 5 ≤ held)
    (hidx : s.reg (0x6400 + a) 6 = 1) : Completes (.indexEdge a held) s (fun t =>
      t.reg (0x6400 + a) 0x10 = ofSigned 64 (s.position a) ∧ t.pos = s.pos ∧ s.fires t (0x314 + a) 0) := by
  refine ⟨(s.setReg (0x6400 + a) 0x10 (ofSigned 64 (s.position a))).fire (0x314 + a) 0, ?_, ?_, ?_, fires_of _ rfl rfl rfl⟩
  · rw [indexEdge_quad ha hin hon hmode, if_neg (by omega), State.indexEdge, hidx]; rfl
  · rw [fire_low _ _ _ (by omega) (by omega) (by omega), reg_setReg_same]
  · rw [fire_pos]; rfl

theorem indexEdge_presets {held : Nat} (hon : s.axisOn a = true) (hmode : s.reg (0x6400 + a) 3 = 0) (h : s.reg (0x6400 + a) 5 ≤ held)
    (hidx : s.reg (0x6400 + a) 6 = 2) : Completes (.indexEdge a held) s (fun t =>
      t.reg (0x6400 + a) 0x10 = ofSigned 64 (s.position a) ∧ t.reg (0x6400 + a) 6 = 1 ∧ t.reg (0x6400 + a) 9 = ofSigned 64 (s.sreg 64 (0x6400 + a) 7)) := by
  obtain ⟨u, hu⟩ : ∃ u, u = (s.setReg (0x6400 + a) 0x10 (ofSigned 64 (s.position a))).fire (0x314 + a) 0 := ⟨_, rfl⟩
  have hureg : ∀ b < 256, u.reg (0x6400 + a) b = (s.setReg (0x6400 + a) 0x10 (ofSigned 64 (s.position a))).reg (0x6400 + a) b := fun b hb => by
    rw [hu, fire_low _ _ _ (by omega) hb (by omega)]
  obtain ⟨hset, hkept⟩ := preset_sets (s := u) ha
  refine ⟨((u.preset a).setReg (0x6400 + a) 6 1).regBit (0x6400 + a) 0x0B 4 false, ?_, ?_, ?_, ?_⟩
  · rw [indexEdge_quad ha hin hon hmode, if_neg (by omega), State.indexEdge, hidx, hu]; rfl
  all_goals rw [regBit_reg _ _ _ _ (by simp only [key]; omega)]
  · rw [reg_setReg_key _ _ (by simp only [key]; omega), hkept 0x10 (by omega) (by omega), hureg 0x10 (by omega), reg_setReg_same]
  · rw [reg_setReg_same]
  · rw [reg_setReg_key _ _ (by simp only [key]; omega), hset, sreg_of (hureg 7 (by omega)), sreg_of (reg_setReg_key _ _ (by simp only [key]; omega))]

end

/-! ### The rows of a Hall axis and of an SSI axis (R434, R435) -/

theorem hallMove_sensed {d : Int} (ha : a < 4) (hlen : a < s.pos.axes.length) (hd : d ≠ 0) (h : Nat) :
    (((s.modAxis a (fun x => { x with hall := some h })).move a (s.sense a d)).axis a).hall = some h ∧
    ((s.modAxis a (fun x => { x with hall := some h })).move a (s.sense a d)).reg (0x6400 + a) 9 = ofSigned 64 (s.position a + s.sense a d) := by
  have hsense : s.sense a d ≠ 0 := by unfold State.sense; split <;> omega
  obtain ⟨hmoved, hsensed⟩ := move_moves (s := s.modAxis a (fun x => { x with hall := some h })) ha hsense
  rw [axis_modAxis _ hlen] at hsensed
  exact ⟨congrArg (·.2.2.1) hsensed, hmoved⟩

theorem hallMove_lost (ha : a < 4) (hlen : a < s.pos.axes.length) :
    (((s.modAxis a (fun x => { x with hall := none })).posError a).axis a).hall = none ∧
    ((s.modAxis a (fun x => { x with hall := none })).posError a).reg (0x6400 + a) 0x11 = satAdd32 (s.reg (0x6400 + a) 0x11) 1 ∧
    ((s.modAxis a (fun x => { x with hall := none })).posError a).reg (0x6400 + a) 9 = s.reg (0x6400 + a) 9 := by
  obtain ⟨hcount, hkept, hpos⟩ := posError_failed (s := s.modAxis a (fun x => { x with hall := none })) ha
  refine ⟨?_, hcount, hkept⟩
  rw [State.axis, hpos]
  exact congrArg Axis.hall (axis_modAxis _ hlen)

/-- A Hall state against the reference state (R434). -/
theorem hallMove_clauses (ha : a < 4) (hlen : a < s.pos.axes.length) {h : Nat} :
    ((s.axis a).hall = none → hallRank h ≠ none → ((s.hallMove a h).axis a).hall = some h ∧ (s.hallMove a h).regs = s.regs) ∧
    (hallRank h = none → ((s.hallMove a h).axis a).hall = none ∧ (s.hallMove a h).reg (0x6400 + a) 0x11 = satAdd32 (s.reg (0x6400 + a) 0x11) 1 ∧
      (s.hallMove a h).reg (0x6400 + a) 9 = s.reg (0x6400 + a) 9) ∧
    (∀ g n, (s.axis a).hall = some g → hallRank h = some n →
      let d := (n + 6 - (hallRank g).getD 0) % 6
      (d = 0 → s.hallMove a h = s) ∧
      (d = 1 → ((s.hallMove a h).axis a).hall = some h ∧ (s.hallMove a h).reg (0x6400 + a) 9 = ofSigned 64 (s.position a + s.sense a 1)) ∧
      (d = 5 → ((s.hallMove a h).axis a).hall = some h ∧ (s.hallMove a h).reg (0x6400 + a) 9 = ofSigned 64 (s.position a + s.sense a (-1))) ∧
      (2 ≤ d → d ≤ 4 → ((s.hallMove a h).axis a).hall = none ∧ (s.hallMove a h).reg (0x6400 + a) 0x11 = satAdd32 (s.reg (0x6400 + a) 0x11) 1 ∧
        (s.hallMove a h).reg (0x6400 + a) 9 = s.reg (0x6400 + a) 9)) := by
  refine ⟨fun hnone hrank => ?_, fun hrank => ?_, fun g n hsome hrank => ?_⟩
  · obtain ⟨n, hn⟩ := Option.ne_none_iff_exists'.mp hrank
    have heq : s.hallMove a h = s.modAxis a (fun x => { x with hall := some h }) := by unfold State.hallMove; rw [hnone, hn]
    rw [heq, axis_modAxis _ hlen]
    exact ⟨rfl, rfl⟩
  · cases hg : (s.axis a).hall with
    | none =>
      obtain ⟨hcount, hkept, hpos⟩ := posError_failed (s := s) ha
      have heq : s.hallMove a h = s.posError a := by unfold State.hallMove; rw [hg, hrank]
      rw [heq]
      exact ⟨by rw [State.axis, hpos]; exact hg, hcount, hkept⟩
    | some g =>
      have heq : s.hallMove a h = (s.modAxis a (fun x => { x with hall := none })).posError a := by unfold State.hallMove; rw [hg, hrank]
      rw [heq]
      exact hallMove_lost ha hlen
  · intro d
    have heq : s.hallMove a h = if d = 0 then s
        else if d = 1 then (s.modAxis a (fun x => { x with hall := some h })).move a (s.sense a 1)
        else if d = 5 then (s.modAxis a (fun x => { x with hall := some h })).move a (s.sense a (-1))
        else (s.modAxis a (fun x => { x with hall := none })).posError a := by unfold State.hallMove; rw [hsome, hrank]
    refine ⟨fun hd => ?_, fun hd => ?_, fun hd => ?_, fun h2 h4 => ?_⟩
    · rw [heq, if_pos hd]
    · rw [heq, if_neg (by omega), if_pos hd]; exact hallMove_sensed ha hlen (by omega) h
    · rw [heq, if_neg (by omega), if_neg (by omega), if_pos hd]; exact hallMove_sensed ha hlen (by omega) h
    · rw [heq, if_neg (by omega), if_neg (by omega), if_neg (by omega)]; exact hallMove_lost ha hlen

/-- The position a frame of SSI axis `a` gives, of its width and code (R435). -/
def State.ssiBin (s : State) (a value : Nat) : Nat :=
  let n := s.reg (0x6400 + a) 0x14
  let v := value % 2 ^ n
  if s.reg (0x6400 + a) 0x17 = 1 then grayToBin n v % 2 ^ n else v

/-- The frame's parity bit is the one its mode asks for. -/
def State.ssiGood (s : State) (a value : Nat) (parity : Bool) : Bool :=
  ssiParityOk (s.reg (0x6400 + a) 0x18) (s.reg (0x6400 + a) 0x14) (value % 2 ^ s.reg (0x6400 + a) 0x14) parity

section
variable {v : Nat} {parity : Bool} (hpar : s.ssiGood a v parity = true)
include hpar

theorem ssiFrame_first (href : (s.axis a).ssiRef = none) : s.ssiFrame a v parity =
    if s.reg (0x6400 + a) 2 = stEnabling then (s.modAxis a (fun x => { x with ssiRef := some (s.ssiBin a v) })).axisStart a
    else s.modAxis a (fun x => { x with ssiRef := some (s.ssiBin a v) }) := by
  unfold State.ssiFrame
  unfold State.ssiGood at hpar
  simp only [hpar, href, Bool.not_true, Bool.false_eq_true, if_false]
  rfl

theorem ssiFrame_next {r : Nat} (href : (s.axis a).ssiRef = some r) :
    let n := s.reg (0x6400 + a) 0x14
    let d : Int := (((s.ssiBin a v : Int) - r + ((2 ^ (n - 1) : Nat) : Int)) % ((2 ^ n : Nat) : Int)) - ((2 ^ (n - 1) : Nat) : Int)
    s.ssiFrame a v parity = if s.reg (0x6400 + a) 0x19 < d.natAbs then s.posError a
      else (s.modAxis a (fun x => { x with ssiRef := some (s.ssiBin a v) })).move a (s.sense a d) := by
  unfold State.ssiFrame
  unfold State.ssiGood at hpar
  simp only [hpar, href, Bool.not_true, Bool.false_eq_true, if_false]
  rfl

end

theorem ssiFrame_parity {v : Nat} {parity : Bool} (hpar : s.ssiGood a v parity = false) : s.ssiFrame a v parity = s.posError a := by
  unfold State.ssiFrame
  unfold State.ssiGood at hpar
  simp only [hpar, Bool.not_false, if_true]

theorem ssiMove_moves (ha : a < 4) (hlen : a < s.pos.axes.length) {d : Int} (bin : Nat) (hd : d ≠ 0) :
    (((s.modAxis a (fun x => { x with ssiRef := some bin })).move a d).axis a).ssiRef = some bin ∧
    ((s.modAxis a (fun x => { x with ssiRef := some bin })).move a d).reg (0x6400 + a) 9 = ofSigned 64 (s.position a + d) := by
  obtain ⟨hmoved, hsensed⟩ := move_moves (s := s.modAxis a (fun x => { x with ssiRef := some bin })) ha hd
  rw [axis_modAxis _ hlen] at hsensed
  exact ⟨congrArg (·.2.2.2) hsensed, hmoved⟩

/-- The first frame of an axis that is ENABLING turns it ON, its direction unknown. -/
theorem axisStart_on : (s.axisStart a).reg (0x6400 + a) 2 = stOn ∧ (s.axisStart a).direction a = 0 := by
  obtain ⟨v, hv⟩ : ∃ v, v = bitAt ((s.setReg (0x6400 + a) 2 stOn).reg (0x6400 + a) 0x0B) 4 := ⟨_, rfl⟩
  have hreg : ∀ b, (s.axisStart a).reg (0x6400 + a) b = ((s.setReg (0x6400 + a) 2 stOn).setReg (0x6400 + a) 0x0B (putBit 0 4 v)).reg (0x6400 + a) b :=
    fun b => by rw [hv]; rfl
  refine ⟨?_, ?_⟩
  · rw [hreg, reg_setReg_key _ _ (by simp only [key]; omega), reg_setReg_same]
  · rw [State.direction, hreg, reg_setReg_same]
    cases v <;> decide

/-! ### Observer and standstill (R437, R438) -/

/-- Axis `a` after one observer update (R437). -/
def State.observed (s : State) (a : Nat) : Axis :=
  let x := s.axis a
  let gain := fun sub => fmt32.convert fmt64 (s.reg (0x6400 + a) sub)
  let e := fmt64.sub (fmt64.ofInt (s.position a)) x.phat
  { x with phat := fmt64.add (fmt64.add x.phat x.vhat) (fmt64.mul (gain 0x0D) e), vhat := fmt64.add (fmt64.add x.vhat x.ahat) (fmt64.mul (gain 0x0E) e),
           ahat := fmt64.add x.ahat (fmt64.mul (gain 0x0F) e), speedOn := x.speedOn || x.sinceStill = 2 }

theorem observe_axis (hlen : a < s.pos.axes.length) : (s.observe a).axis a = s.observed a := by
  unfold State.observe; dsimp only
  rw [apply_ite (fun t : State => t.axis a)]
  refine (ite_self _).trans ?_
  exact axis_modAxis _ hlen

theorem observe_speed : (s.observe a).reg (0x6400 + a) 0x0A =
    if (s.axis a).speedOn then fmt64.convert fmt32 (fmt64.mul (s.observed a).vhat (fmt64.ofInt 1000000)) else 0 := by
  unfold State.observe; dsimp only
  rw [ite_reg (regBit_reg _ _ _ _ (by simp only [key]; omega)), reg_setReg_same]
  rfl

theorem observe_value : (s.observe a).reg (0x6400 + a) 9 = s.reg (0x6400 + a) 9 := by
  unfold State.observe; dsimp only
  rw [ite_reg (regBit_reg _ _ _ _ (by simp only [key]; omega)), reg_setReg_key _ _ (by simp only [key]; omega)]
  rfl

theorem standstill_clears (ha : a < 4) (hlen : a < s.pos.axes.length) : bitAt ((s.standstill a).reg (0x6400 + a) 0x0B) 0 = true ∧
    (s.standstill a).reg (0x6400 + a) 0x0A = 0 ∧ ((s.standstill a).axis a).vhat = 0 ∧ ((s.standstill a).axis a).ahat = 0 ∧
    ((s.standstill a).axis a).phat = fmt64.ofInt (s.position a) ∧ s.fires (s.standstill a) (0x318 + a) 0 := by
  obtain ⟨u, hu⟩ : ∃ u, u = s.modAxis a (fun x => { x with phat := fmt64.ofInt (s.position a), vhat := 0, ahat := 0, sinceStill := 0, speedOn := false }) := ⟨_, rfl⟩
  have heq : s.standstill a = ((u.regBit (0x6400 + a) 0x0B 0 true).setReg (0x6400 + a) 0x0A 0).fire (0x318 + a) 0 := by rw [hu]; rfl
  have haxis : (s.standstill a).axis a = { s.axis a with phat := fmt64.ofInt (s.position a), vhat := 0, ahat := 0, sinceStill := 0, speedOn := false } := by
    rw [heq, State.axis, fire_pos]
    show u.axis a = _
    rw [hu, axis_modAxis _ hlen]
  rw [haxis]
  refine ⟨?_, ?_, rfl, rfl, rfl, heq ▸ fires_of _ rfl (by rw [hu]; rfl) (by rw [hu]; rfl)⟩ <;> rw [heq, fire_low _ _ _ (by omega) (by omega) (by omega)]
  · rw [reg_setReg_key _ _ (by simp only [key]; omega), regBit_same]
  · rw [reg_setReg_same]

theorem stillDue_eq (hbit : bitAt (s.reg (0x6400 + a) 0x0B) 0 = false) :
    s.stillDue a = decide ((s.axis a).lastCount + s.reg (0x6400 + a) 0x0C * 500000 ≤ s.time.tclk) := by
  unfold State.stillDue; rw [hbit, Bool.not_false, Bool.true_and]

theorem axisPreset_sets {sess : Nat} (ha : a < 4) (hl : s.letsCmd sess (0x6400 + a) 8) :
    Completes (.axisPreset sess a) s (fun t => t.reg (0x6400 + a) 9 = ofSigned 64 (s.sreg 64 (0x6400 + a) 7)) := by
  refine completes_of (exec_axisPreset ha hl) ?_
  rw [cmdPreset, commanded_ok, result_reg]
  exact (preset_sets ha).1

end

/-- Settles O53: a move writes the position before direction logic, compares and line edges, none of which write it again; and an error, a glitch, an
observer update or a standstill leave it. -/
theorem positionsFollowTheirSensors : Obligations.PositionsFollowTheirSensors := by
  unfold Obligations.PositionsFollowTheirSensors
  intro s a ha hlen
  dsimp only
  refine ⟨fun hin hon => ⟨fun hmode => ⟨fun x y held hheld => ⟨?_, ?_⟩, fun x y held hheld => ⟨?_, ?_⟩, fun held hheld => ⟨fun hidx => ?_, ?_, ?_⟩⟩,
    fun hmode h held hh => ⟨fun hheld => ?_, fun hheld => ?_⟩, fun hmode value parity => ⟨fun hpar => ?_, fun hpar => ⟨fun href => ?_, fun r href => ⟨fun hfar => ?_, fun hnear hd => ?_⟩⟩⟩,
    ?_, fun hbit hearly => ?_, fun hbit hdue => ?_, fun hbit => ?_⟩,
    fun hin hoff hmode x y held hheld => ?_, fun hin hmode hst href value parity hpar => ?_, fun sess hl => axisPreset_sets ha hl⟩
  -- a quadrature axis
  · exact completes_of (encoderEdge_glitch ha hin hmode hheld) glitch_counts
  · exact completes_of (by rw [indexEdge_quad ha hin hon hmode, if_pos hheld]) glitch_counts
  · exact encoderEdge_error ha hin hlen hon hmode hheld
  · exact encoderEdge_counts ha hin hlen hon hmode hheld
  · rw [indexEdge_quad ha hin hon hmode, if_neg (by omega), State.indexEdge, hidx]; rfl
  · exact indexEdge_latches ha hin hon hmode hheld
  · exact indexEdge_presets ha hin hon hmode hheld
  -- a Hall axis
  · exact completes_of (by rw [hallState_hall ha hin hh hon hmode, if_pos hheld]) glitch_counts
  · have hexec : exec (.hallState a h held) s = .next (s.hallMove a h) := by rw [hallState_hall ha hin hh hon hmode, if_neg (by omega)]
    obtain ⟨hfirst, hinvalid, hnext⟩ := hallMove_clauses (s := s) ha hlen (h := h)
    refine ⟨fun h1 h2 => completes_of hexec (hfirst h1 h2), fun h1 => completes_of hexec (hinvalid h1), fun g n h1 h2 => ?_⟩
    obtain ⟨h0, hf, hr, hlost⟩ := hnext g n h1 h2
    exact ⟨fun hd => by rw [hexec, h0 hd], fun hd => completes_of hexec (hf hd), fun hd => completes_of hexec (hr hd),
      fun hd2 hd4 => completes_of hexec (hlost hd2 hd4)⟩
  -- an SSI axis
  · obtain ⟨hcount, hkept, hpos⟩ := posError_failed (s := s) ha
    exact completes_of (by rw [ssiFrame_ssi ha hin (.inl hon) hmode, ssiFrame_parity hpar]) ⟨⟨hcount, hkept⟩, hpos⟩
  · have hst : s.reg (0x6400 + a) 2 ≠ stEnabling := by
      have : s.reg (0x6400 + a) 2 = stOn := by simpa [State.axisOn] using hon
      rw [this]; decide
    refine completes_of (by rw [ssiFrame_ssi ha hin (.inl hon) hmode, ssiFrame_first hpar href, if_neg hst]) ?_
    rw [axis_modAxis _ hlen]
    exact ⟨rfl, rfl⟩
  · obtain ⟨hcount, hkept, hpos⟩ := posError_failed (s := s) ha
    exact completes_of (by rw [ssiFrame_ssi ha hin (.inl hon) hmode, ssiFrame_next hpar href]; exact congrArg _ (if_pos hfar)) ⟨⟨hcount, hkept⟩, hpos⟩
  · exact completes_of (by rw [ssiFrame_ssi ha hin (.inl hon) hmode, ssiFrame_next hpar href]; exact congrArg _ (if_neg (Nat.not_lt.mpr hnear)))
      (ssiMove_moves ha hlen _ hd)
  -- observer and standstill
  · refine completes_of (observerUpdate_on ha hin hon) ?_
    rw [observe_axis hlen]
    exact ⟨rfl, rfl, rfl, fun hspeed => by rw [observe_speed, if_pos hspeed], observe_value⟩
  · rw [standstill_on ha hin hon, if_neg]
    rw [stillDue_eq hbit, decide_eq_true_eq]; omega
  · exact completes_of (by rw [standstill_on ha hin hon, if_pos (by rw [stillDue_eq hbit]; exact decide_eq_true hdue)]) (standstill_clears ha hlen)
  · rw [standstill_on ha hin hon, if_neg (by simp [State.stillDue, hbit])]
  -- an axis that is not ON
  · refine completes_of (by rw [encoderEdge_quad ha hin hmode, if_neg (by omega), hoff, if_pos (by rfl)]) ?_
    rw [levels_axis hlen]
    exact ⟨rfl, rfl, rfl⟩
  · exact completes_of (by rw [ssiFrame_ssi ha hin (.inr hst) hmode, ssiFrame_first hpar href, if_pos hst]) axisStart_on

end Sys2Proof.Machine
end

section
/-! Compare entries, line edges and the balls they drive (chapter 14, R440 to R447). -/

set_option Elab.async false

namespace Sys2Proof.Machine

variable {s t : State} {m : Nat}

theorem clist_modList (f : CompareList → CompareList) (h : m < s.pos.lists.length) : (s.modList m f).clist m = f (s.clist m) := nthD_modNth _ _ _ _ h

theorem clist_congr (h : t.pos.lists = s.pos.lists) (m : Nat) : t.clist m = s.clist m := by unfold State.clist; rw [h]

theorem modList_lists (f : CompareList → CompareList) : (s.modList m f).pos.lists.length = s.pos.lists.length := length_modNth _ _ _

/-! ### An entry fires, is missed or stays (R441 to R443) -/

section
variable (e : CompareEntry)

/-- A firing is counted and fired, and its pulse ends its width from now. -/
def State.compareCount (s : State) (m : Nat) (e : CompareEntry) : State :=
  ((s.inc64 (0x6410 + m) 0x0E 1).fire (0x320 + m) e.tag).modList m (fun l => { l with endsAt := 2 * s.time.tclk + 5 * s.reg (0x6410 + m) 3 })

section
variable (hm : m < 4)
include hm

theorem compareCount_reg {j b : Nat} (hj : 0x4490 ≤ j ∧ j ≤ 0x6420) (hb : b < 256) (h : j ≠ 0x6410 + m ∨ b ≠ 0x0E) :
    (s.compareCount m e).reg j b = s.reg j b := by
  show ((s.inc64 (0x6410 + m) 0x0E 1).fire (0x320 + m) e.tag).reg j b = _
  rw [fire_low _ _ _ (by omega) hb (by omega), inc64_reg_key _ _ (by simp only [key]; omega)]

theorem compareCount_fired : (s.compareCount m e).reg (0x6410 + m) 0x0E = wrapAdd64 (s.reg (0x6410 + m) 0x0E) 1 := by
  show ((s.inc64 (0x6410 + m) 0x0E 1).fire (0x320 + m) e.tag).reg _ _ = _
  rw [fire_low _ _ _ (by omega) (by omega) (by omega), inc64_reg_same]

theorem compareFire_eq : s.compareFire m e =
    if ((s.compareCount m e).clist m).active then (s.compareCount m e).inc32 (0x6410 + m) 0x11 1
    else ((s.compareCount m e).modList m (fun l => { l with active := true })).emit (.cmpout m ((s.compareCount m e).cmpLevel m true)) := by
  have hcount : s.compareCount m e = (((s.inc64 (0x6410 + m) 0x0E 1).fire (0x320 + m) e.tag).modList m (fun l =>
      { l with endsAt := ((s.inc64 (0x6410 + m) 0x0E 1).fire (0x320 + m) e.tag).halfTicks +
        5 * ((s.inc64 (0x6410 + m) 0x0E 1).fire (0x320 + m) e.tag).reg (0x6410 + m) 3 })) := by
    rw [State.halfTicks, fire_time, inc64_time, fire_low _ _ _ (by omega) (by omega) (by omega), inc64_reg_key _ _ (by simp only [key]; omega)]
    rfl
  rw [hcount]
  rfl

end

theorem compareCount_clist (hlen : m < s.pos.lists.length) :
    (s.compareCount m e).clist m = { s.clist m with endsAt := 2 * s.time.tclk + 5 * s.reg (0x6410 + m) 3 } := by
  have hpos : ((s.inc64 (0x6410 + m) 0x0E 1).fire (0x320 + m) e.tag).pos = s.pos := by rw [fire_pos]; rfl
  rw [State.compareCount, clist_modList _ (by rw [hpos]; exact hlen), clist_congr (congrArg _ hpos)]

theorem compareCount_length : (s.compareCount m e).pos.lists.length = s.pos.lists.length := by
  rw [State.compareCount, modList_lists, fire_pos]; rfl

theorem compareCount_outbox : (s.compareCount m e).outbox = s.outbox := by
  show ((s.inc64 (0x6410 + m) 0x0E 1).fire (0x320 + m) e.tag).outbox = _
  rw [fire_outbox]; rfl

/-- An entry fires: a pulse starts, or one that is on becomes longer (R442). -/
theorem compareFire_fires (hm : m < 4) (hlen : m < s.pos.lists.length) :
    ((s.compareFire m e).clist m).entries = (s.clist m).entries ∧ ((s.compareFire m e).clist m).active = true ∧
    ((s.compareFire m e).clist m).endsAt = 2 * s.time.tclk + 5 * s.reg (0x6410 + m) 3 ∧
    (s.compareFire m e).reg (0x6410 + m) 0x0E = wrapAdd64 (s.reg (0x6410 + m) 0x0E) 1 ∧ s.fires (s.compareFire m e) (0x320 + m) e.tag ∧
    ((s.clist m).active = false → (s.compareFire m e).outbox = s.outbox ++ [.cmpout m (s.cmpLevel m true)]) ∧
    ((s.clist m).active = true → (s.compareFire m e).outbox = s.outbox ∧ (s.compareFire m e).reg (0x6410 + m) 0x11 = satAdd32 (s.reg (0x6410 + m) 0x11) 1) := by
  have hfires : s.fires (s.compareCount m e) (0x320 + m) e.tag := fires_of (s.inc64 (0x6410 + m) 0x0E 1) rfl rfl rfl
  have hclist := compareCount_clist e hlen
  rw [compareFire_eq e hm, hclist]
  dsimp only
  cases hactive : (s.clist m).active with
  | true =>
    rw [if_pos rfl]
    have hsame : ((s.compareCount m e).inc32 (0x6410 + m) 0x11 1).clist m = _ := hclist
    rw [hsame]
    refine ⟨rfl, hactive, rfl, ?_, ?_, fun h => by simp at h, fun _ => ⟨?_, ?_⟩⟩
    · rw [inc32_reg_key _ _ (by simp only [key]; omega), compareCount_fired e hm]
    · exact hfires
    · rw [inc32_outbox, compareCount_outbox]
    · rw [inc32_reg_same, compareCount_reg e hm (by omega) (by omega) (by omega)]
  | false =>
    rw [if_neg (by simp)]
    have hstart : (((s.compareCount m e).modList m (fun l => { l with active := true })).emit
        (.cmpout m ((s.compareCount m e).cmpLevel m true))).clist m = { (s.compareCount m e).clist m with active := true } :=
      clist_modList _ (by rw [compareCount_length]; exact hlen)
    have hlevel : (s.compareCount m e).cmpLevel m true = s.cmpLevel m true := by
      unfold State.cmpLevel State.flag; rw [compareCount_reg e hm (by omega) (by omega) (by omega)]
    rw [hstart, hclist, hlevel]
    refine ⟨rfl, rfl, rfl, ?_, ?_, fun _ => ?_, fun h => by simp at h⟩
    · rw [emit_reg, modList_reg, compareCount_fired e hm]
    · exact hfires
    · rw [emit_outbox, modList_outbox, compareCount_outbox]

/-- An entry is missed: counted, recorded and fired (R443). -/
theorem compareMissed_misses (hm : m < 4) :
    (s.compareMissed m e).pos = s.pos ∧ (s.compareMissed m e).reg (0x6410 + m) 0x0F = satAdd32 (s.reg (0x6410 + m) 0x0F) 1 ∧
    (s.compareMissed m e).reg (0x6410 + m) 0x12 = ofSigned 64 e.target ∧ (s.compareMissed m e).reg (0x6410 + m) 0x13 = e.tag ∧
    s.fires (s.compareMissed m e) (0x324 + m) e.tag ∧ (s.compareMissed m e).reg (0x4490 + m) 7 = s.reg (0x4490 + m) 7 := by
  obtain ⟨u, hu⟩ : ∃ u, u = ((s.inc32 (0x6410 + m) 0x0F 1).setReg (0x6410 + m) 0x12 (ofSigned 64 e.target)).setReg (0x6410 + m) 0x13 e.tag := ⟨_, rfl⟩
  have heq : s.compareMissed m e = (u.fire (0x324 + m) e.tag).unmarked m e := by rw [hu]; rfl
  have hmark : ∀ (t : State) j b, b < 256 → (j ≠ 0x4490 + m ∨ b ≠ 8) → (t.unmarked m e).reg j b = t.reg j b := fun t j b hb h => by
    unfold State.unmarked; exact ite_reg (inc32_reg_key _ _ (by simp only [key]; omega))
  have hreg : ∀ j b, b < 256 → 0x4490 ≤ j ∧ j ≤ 0x6420 → (j ≠ 0x4490 + m ∨ b ≠ 8) → (s.compareMissed m e).reg j b = u.reg j b := fun j b hb hj h => by
    rw [heq, hmark _ j b hb h, fire_low _ _ _ (by omega) hb (by omega)]
  have hkept : ∀ t : State, (t.unmarked m e).pos = t.pos ∧ (t.unmarked m e).dowel = t.dowel := fun t => by
    unfold State.unmarked; split <;> exact ⟨rfl, rfl⟩
  have hpos : (s.compareMissed m e).pos = s.pos := by rw [heq, (hkept _).1, fire_pos, hu]; rfl
  refine ⟨hpos, ?_, ?_, ?_, fires_of u (by rw [heq, (hkept _).2]) (by rw [hu]; rfl) (by rw [hu]; rfl), ?_⟩ <;>
    rw [hreg _ _ (by omega) (by omega) (by omega), hu]
  · rw [set_ne, set_ne, inc32_reg_same]
  · rw [set_ne, reg_setReg_same]
  · rw [reg_setReg_same]
  · rw [set_ne, set_ne, inc32_reg_key _ _ (by simp only [key]; omega)]

end

/-! ### Placement (R440, R441) -/

/-- What a placed entry does, by where its axis stands (R441). -/
structure Placed (m : Nat) (e : CompareEntry) (s t : State) : Prop where
  stays : placeTest e (s.position e.axis) (s.direction e.axis) = .stays →
    (t.clist m).entries = (s.clist m).entries ++ [{ e with above := decide (s.position e.axis < e.target) }] ∧
    t.reg (0x6410 + m) 0x0D = (s.clist m).entries.length + 1 ∧ t.outbox = s.outbox
  fires : placeTest e (s.position e.axis) (s.direction e.axis) = .fires → (t.clist m).entries = (s.clist m).entries ∧ (t.clist m).active = true ∧
    (t.clist m).endsAt = 2 * s.time.tclk + 5 * s.reg (0x6410 + m) 3 ∧ t.reg (0x6410 + m) 0x0E = wrapAdd64 (s.reg (0x6410 + m) 0x0E) 1 ∧
    s.fires t (0x320 + m) e.tag ∧ ((s.clist m).active = false → t.outbox = s.outbox ++ [.cmpout m (s.cmpLevel m true)]) ∧
    ((s.clist m).active = true → t.outbox = s.outbox ∧ t.reg (0x6410 + m) 0x11 = satAdd32 (s.reg (0x6410 + m) 0x11) 1)
  missed : placeTest e (s.position e.axis) (s.direction e.axis) = .missed → (t.clist m).entries = (s.clist m).entries ∧
    t.reg (0x6410 + m) 0x0F = satAdd32 (s.reg (0x6410 + m) 0x0F) 1 ∧ t.reg (0x6410 + m) 0x12 = ofSigned 64 e.target ∧
    t.reg (0x6410 + m) 0x13 = e.tag ∧ s.fires t (0x324 + m) e.tag

theorem placeTest_above (e : CompareEntry) (v : Bool) (p : Int) (flag : Nat) : placeTest { e with above := v } p flag = placeTest e p flag := rfl

theorem placeEntry_placed (e : CompareEntry) (hm : m < 4) (hlen : m < s.pos.lists.length) : Placed m e s (s.placeEntry m e) := by
  obtain ⟨e', he'⟩ : ∃ e' : CompareEntry, e' = { e with above := decide (s.position e.axis < e.target) } := ⟨_, rfl⟩
  have htag : e'.tag = e.tag ∧ e'.target = e.target := by rw [he']; exact ⟨rfl, rfl⟩
  have heq : s.placeEntry m e = match placeTest e (s.position e.axis) (s.direction e.axis) with
      | .fires => s.compareFire m e'
      | .missed => s.compareMissed m e'
      | .stays => (s.modList m (fun l => { l with entries := l.entries ++ [e'] })).showArmed m := by rw [he']; rfl
  rw [heq]
  refine ⟨fun h => ?_, fun h => ?_, fun h => ?_⟩ <;> rw [h] <;> dsimp only
  · have hadd : (s.modList m (fun l => { l with entries := l.entries ++ [e'] })).clist m = { s.clist m with entries := (s.clist m).entries ++ [e'] } :=
      clist_modList _ hlen
    refine ⟨?_, ?_, rfl⟩
    · rw [← he']; exact congrArg CompareList.entries hadd
    · rw [State.showArmed, reg_setReg_same, hadd, List.length_append]; rfl
  · rw [← htag.1]; exact compareFire_fires e' hm hlen
  · obtain ⟨hpos, hcount, htarget, htag', hfires, -⟩ := compareMissed_misses (s := s) e' hm
    rw [htag.2] at htarget
    rw [htag.1] at htag' hfires
    exact ⟨by rw [clist_congr (congrArg _ hpos)], hcount, htarget, htag', hfires⟩

/-- Neither of the two the placement speaks of: the entries a marker still offers, and the count of those that arrived. -/
theorem placeEntry_keeps (e : CompareEntry) (hm : m < 4) (hlen : m < s.pos.lists.length) :
    ((s.placeEntry m e).clist m).arriving = (s.clist m).arriving ∧ (s.placeEntry m e).reg (0x4490 + m) 7 = s.reg (0x4490 + m) 7 := by
  unfold State.placeEntry; dsimp only
  split
  · rw [compareFire_eq _ hm, compareCount_clist _ hlen]
    split
    · refine ⟨?_, ?_⟩
      · show ((s.compareCount m _).clist m).arriving = _
        rw [compareCount_clist _ hlen]
      · rw [inc32_reg_key _ _ (by simp only [key]; omega), compareCount_reg _ hm (by omega) (by omega) (by omega)]
    · refine ⟨?_, ?_⟩
      · refine (congrArg CompareList.arriving (clist_modList _ (by rw [compareCount_length]; exact hlen))).trans ?_
        rw [compareCount_clist _ hlen]
      · rw [emit_reg, modList_reg, compareCount_reg _ hm (by omega) (by omega) (by omega)]
  · obtain ⟨hpos, -, -, -, -, hmarks⟩ := compareMissed_misses (s := s) { e with above := decide (s.position e.axis < e.target) } hm
    exact ⟨by rw [clist_congr (congrArg _ hpos)], hmarks⟩
  · refine ⟨?_, ?_⟩
    · show ((s.modList m _).clist m).arriving = _
      rw [clist_modList _ hlen]
    · rw [State.showArmed, reg_setReg_key _ _ (by simp only [key]; omega), modList_reg]

/-- A command's placement: its result record leaves what the entry did. -/
theorem Placed.of_result {e : CompareEntry} (h : Placed m e s t) (sess op i a : Nat) (x : Answer) : Placed m e s (t.result sess op i a x) := by
  have hclist : (t.result sess op i a x).clist m = t.clist m := clist_congr (by rw [result_pos]) m
  have hfires : ∀ src p, s.fires t src p → s.fires (t.result sess op i a x) src p := fun _ _ hf => by
    unfold State.fires; rw [result_dowel]; exact hf
  refine ⟨fun ht => ?_, fun ht => ?_, fun ht => ?_⟩ <;> rw [hclist]
  · rw [result_reg, result_outbox]; exact h.stays ht
  · rw [result_reg, result_reg, result_outbox]
    obtain ⟨h1, h2, h3, h4, hf, h6⟩ := h.fires ht
    exact ⟨h1, h2, h3, h4, hfires _ _ hf, h6⟩
  · rw [result_reg, result_reg, result_reg]
    obtain ⟨h1, h2, h3, h4, hf⟩ := h.missed ht
    exact ⟨h1, h2, h3, h4, hfires _ _ hf⟩

theorem comparePlace_places {sess : Nat} (hm : m < 4) (hlen : m < s.pos.lists.length) (hl : s.letsCmd sess (0x6410 + m) 0x0B) :
    let e : CompareEntry := ⟨s.reg (0x6410 + m) 7, s.sreg 64 (0x6410 + m) 8, s.reg (0x6410 + m) 9, s.reg (0x6410 + m) 0x0A, false, false⟩
    let room := s.placeable m e.axis (if (s.clist m).arriving.isEmpty then 1 else 2)
    (e.dir ≤ 2 → room = true → Completes (.comparePlace sess m) s (Placed m e s)) ∧
    (2 < e.dir ∨ room = false → Completes (.comparePlace sess m) s (fun t => t.pos = s.pos ∧ t.regs = s.regs)) := by
  intro e room
  have hcmd : cmdPlace m s = if 2 < e.dir then .error dRange else accept room dState (s.placeEntry m e) := rfl
  have hrefused : ∀ d, s.commandRefused sess (0x6410 + m) 11 1 d = s := fun d => by
    unfold State.commandRefused
    simp only [Bool.and_eq_true, decide_eq_true_eq]
    rw [if_neg (by omega), if_neg (by omega), if_neg (by omega), if_neg (by omega), if_neg (by omega)]
  refine ⟨fun hdir hroom => completes_of (exec_comparePlace hm hl) ?_, fun hno => completes_of (exec_comparePlace hm hl) ?_⟩
  · rw [hcmd, if_neg (by omega), accept, if_pos hroom, commanded_ok]
    exact (placeEntry_placed e hm hlen).of_result _ _ _ _ _
  · have herror : ∃ d, cmdPlace m s = .error d := by
      rw [hcmd]
      by_cases hdir : 2 < e.dir
      · exact ⟨dRange, if_pos hdir⟩
      · rw [if_neg hdir, accept, hno.resolve_left hdir]; exact ⟨dState, rfl⟩
    obtain ⟨d, hd⟩ := herror
    rw [hd, State.commanded, hrefused, result_pos, result_regs]
    exact ⟨rfl, rfl⟩

/-! ### Marker entries (R440, R267) -/

/-- List `m` with its oldest offered entry taken. -/
def State.takeArriving (s : State) (m : Nat) (rest : List CompareEntry) : State := s.modList m (fun l => { l with arriving := rest })

theorem takeArriving_clist (rest : List CompareEntry) (hlen : m < s.pos.lists.length) : (s.takeArriving m rest).clist m = { s.clist m with arriving := rest } :=
  clist_modList _ hlen

theorem markerArrive_eq {e : CompareEntry} {rest : List CompareEntry} (hlen : m < s.pos.lists.length) (h : (s.clist m).arriving = e :: rest) :
    s.markerArrive m = if s.placeable m e.axis 1 then ((s.takeArriving m rest).inc32 (0x4490 + m) 7 1).placeEntry m e
      else ((s.takeArriving m rest).inc32 (0x4490 + m) 8 1).fire 0x87 m := by
  have hroom : (s.takeArriving m rest).placeable m e.axis 1 = s.placeable m e.axis 1 := by
    unfold State.placeable
    rw [takeArriving_clist rest hlen]
    rfl
  unfold State.markerArrive
  rw [h, ← hroom]
  rfl

theorem markerEntryArrive_places {e : CompareEntry} {rest : List CompareEntry} (hm : m < 4) (hlen : m < s.pos.lists.length)
    (h : (s.clist m).arriving = e :: rest) (hroom : s.placeable m e.axis 1 = true) : Completes (.markerEntryArrive m) s (fun t =>
      (t.clist m).arriving = rest ∧ Placed m e s t ∧ t.reg (0x4490 + m) 7 = satAdd32 (s.reg (0x4490 + m) 7) 1) := by
  obtain ⟨u, hu⟩ : ∃ u, u = (s.takeArriving m rest).inc32 (0x4490 + m) 7 1 := ⟨_, rfl⟩
  have hexec : exec (.markerEntryArrive m) s = .next (u.placeEntry m e) := by
    show inst (decide (m < 4)) (.next (s.markerArrive m)) = _
    rw [inst_ok (decide_eq_true hm), markerArrive_eq hlen h, if_pos hroom, hu]
  have hulen : m < u.pos.lists.length := by
    have : u.pos.lists.length = s.pos.lists.length := by rw [hu]; exact modList_lists _
    omega
  have huclist : u.clist m = { s.clist m with arriving := rest } := by rw [hu]; exact takeArriving_clist rest hlen
  have hureg : ∀ j b, b < 256 → (j ≠ 0x4490 + m ∨ b ≠ 7) → u.reg j b = s.reg j b := fun j b hb hne => by
    rw [hu, inc32_reg_key _ _ (by simp only [key]; omega)]; rfl
  have hutime : u.time = s.time := by rw [hu]; rfl
  have hudowel : u.dowel = s.dowel := by rw [hu]; rfl
  have huout : u.outbox = s.outbox := by rw [hu]; rfl
  have hposition : u.position e.axis = s.position e.axis := sreg_of (hureg _ _ (by omega) (by omega))
  have hdirection : u.direction e.axis = s.direction e.axis := by unfold State.direction; rw [hureg _ _ (by omega) (by omega)]
  have hlevel : u.cmpLevel m true = s.cmpLevel m true := by unfold State.cmpLevel State.flag; rw [hureg _ _ (by omega) (by omega)]
  have hfires : ∀ t src p, u.fires t src p → s.fires t src p := fun t src p hf => by
    unfold State.fires State.sc at hf ⊢; rw [hutime, hudowel] at hf; exact hf
  obtain ⟨harriving, hmarks⟩ := placeEntry_keeps (s := u) e hm hulen
  obtain ⟨hstays, hfire, hmissed⟩ := placeEntry_placed (s := u) e hm hulen
  have hentry : ∀ b < 256, u.reg (0x6410 + m) b = s.reg (0x6410 + m) b := fun b hb => hureg _ b hb (by omega)
  rw [hposition, hdirection, huclist] at hstays hfire hmissed
  rw [huout] at hstays hfire
  rw [hutime, hlevel, hentry 3 (by omega), hentry 0x0E (by omega), hentry 0x11 (by omega)] at hfire
  rw [hentry 0x0F (by omega)] at hmissed
  refine completes_of hexec ⟨by rw [harriving, huclist], ⟨hstays, fun ht => ?_, fun ht => ?_⟩, ?_⟩
  · obtain ⟨h1, h2, h3, h4, hf, h6⟩ := hfire ht
    exact ⟨h1, h2, h3, h4, hfires _ _ _ hf, h6⟩
  · obtain ⟨h1, h2, h3, h4, hf⟩ := hmissed ht
    exact ⟨h1, h2, h3, h4, hfires _ _ _ hf⟩
  · rw [hmarks, hu, inc32_reg_same]; rfl

theorem markerEntryArrive_refused {e : CompareEntry} {rest : List CompareEntry} (hm : m < 4) (hlen : m < s.pos.lists.length)
    (h : (s.clist m).arriving = e :: rest) (hroom : s.placeable m e.axis 1 = false) : Completes (.markerEntryArrive m) s (fun t =>
      (t.clist m).arriving = rest ∧ (t.clist m).entries = (s.clist m).entries ∧ t.reg (0x4490 + m) 8 = satAdd32 (s.reg (0x4490 + m) 8) 1 ∧ s.fires t 0x87 m) := by
  have hexec : exec (.markerEntryArrive m) s = .next (((s.takeArriving m rest).inc32 (0x4490 + m) 8 1).fire 0x87 m) := by
    show inst (decide (m < 4)) (.next (s.markerArrive m)) = _
    rw [inst_ok (decide_eq_true hm), markerArrive_eq hlen h, if_neg (by simp [hroom])]
  have hclist : (((s.takeArriving m rest).inc32 (0x4490 + m) 8 1).fire 0x87 m).clist m = { s.clist m with arriving := rest } := by
    rw [clist_congr (congrArg _ (fire_pos ..))]; exact takeArriving_clist rest hlen
  refine completes_of hexec ⟨by rw [hclist], by rw [hclist], ?_, fires_of _ rfl rfl rfl⟩
  rw [fire_low _ _ _ (by omega) (by omega) (by omega), inc32_reg_same]
  rfl

/-! ### Cancelling, and the end of a pulse (R442, R443) -/

theorem compareCancel_keeps (hm : m < 4) (e : CompareEntry) : (s.compareCancel m e).pos = s.pos ∧
    (s.compareCancel m e).reg (0x6410 + m) 0x10 = satAdd32 (s.reg (0x6410 + m) 0x10) 1 := by
  unfold State.compareCancel State.unmarked
  refine ⟨by split <;> rfl, ?_⟩
  rw [ite_reg (inc32_reg_key _ _ (by simp only [key]; omega)), inc32_reg_same]

theorem each_compareCancel (hm : m < 4) (e : CompareEntry) (es : List CompareEntry) (s : State) :
    (s.each (e :: es) (fun e s => s.compareCancel m e)).pos = s.pos ∧
    (s.each (e :: es) (fun e s => s.compareCancel m e)).reg (0x6410 + m) 0x10 = satAdd32 (s.reg (0x6410 + m) 0x10) (es.length + 1) := by
  induction es generalizing e s with
  | nil => exact compareCancel_keeps hm e
  | cons x es ih =>
    obtain ⟨hpos, hreg⟩ := compareCancel_keeps (s := s) hm e
    obtain ⟨hpos', hreg'⟩ := ih x (s.compareCancel m e)
    refine ⟨hpos'.trans hpos, hreg'.trans ?_⟩
    rw [hreg, List.length_cons]
    unfold satAdd32
    omega

theorem compareClear_clears {sess : Nat} (hm : m < 4) (hlen : m < s.pos.lists.length) (hl : s.letsCmd sess (0x6410 + m) 0x0C) :
    Completes (.compareClear sess m) s (fun t => (t.clist m).entries = [] ∧
      ((s.clist m).entries ≠ [] → t.reg (0x6410 + m) 0x0D = 0 ∧
        t.reg (0x6410 + m) 0x10 = satAdd32 (s.reg (0x6410 + m) 0x10) (s.clist m).entries.length)) := by
  refine completes_of (exec_compareClear hm hl) ?_
  rw [cmdCompareClear, commanded_ok, clist_congr (congrArg _ (result_pos ..)), result_reg, result_reg]
  have hall : ∀ es : List CompareEntry, es.filter (fun _ => true) = es ∧ es.filter (fun _ => !true) = [] := fun es => by simp
  cases hes : (s.clist m).entries with
  | nil =>
    have hsame : s.cancelEntries m (fun _ => true) = s := by unfold State.cancelEntries; rw [hes]; rfl
    rw [hsame]
    exact ⟨hes, fun h => absurd rfl h⟩
  | cons e es =>
    obtain ⟨u, hu⟩ : ∃ u, u = s.modList m (fun l => { l with entries := [] }) := ⟨_, rfl⟩
    have heq : s.cancelEntries m (fun _ => true) = (u.each (e :: es) (fun e s => s.compareCancel m e)).showArmed m := by
      unfold State.cancelEntries
      dsimp only
      rw [hes, (hall _).1, (hall _).2, hu]
      rfl
    obtain ⟨hpos, hcount⟩ := each_compareCancel hm e es u
    have hempty : (u.each (e :: es) (fun e s => s.compareCancel m e)).clist m = { s.clist m with entries := [] } := by
      rw [clist_congr (congrArg _ hpos), hu, clist_modList _ hlen]
    rw [heq]
    refine ⟨?_, fun _ => ⟨?_, ?_⟩⟩
    · exact congrArg CompareList.entries hempty
    · rw [State.showArmed, reg_setReg_same, hempty]; rfl
    · rw [State.showArmed, reg_setReg_key _ _ (by simp only [key]; omega), hcount, hu, modList_reg]; rfl

theorem exec_cmpoutPulseEnd (hm : m < 4) : exec (.cmpoutPulseEnd m) s =
    if (s.clist m).active && decide ((s.clist m).endsAt ≤ 2 * s.time.tclk) then
      .next ((s.modList m (fun l => { l with active := false })).emit (.cmpout m (s.cmpLevel m false)))
    else .next s := by
  show execCmpoutPulseEnd m s = _
  unfold execCmpoutPulseEnd
  rw [inst_ok (decide_eq_true hm), State.halfTicks]

/-! ### The line generator (R445, R446) -/

/-- The edge that falls due now is late: one is owed, or the latest left less than min_interval ago (R446). -/
def State.edgeLate (s : State) : Bool :=
  decide (0 < s.pos.gen.owed) || (match s.sinceEdge with | some d => decide (d < s.reg 0x6420 6) | none => false)

theorem sinceEdge_match {d : Nat} : (match s.sinceEdge with | some x => decide (x < d) | none => false) = true ↔ ∃ x, s.sinceEdge = some x ∧ x < d := by
  cases s.sinceEdge <;> simp

theorem edgeLate_iff : s.edgeLate = true ↔ (0 < s.pos.gen.owed ∨ ∃ d, s.sinceEdge = some d ∧ d < s.reg 0x6420 6) := by
  unfold State.edgeLate
  rw [Bool.or_eq_true, decide_eq_true_eq]
  exact or_congr_right sinceEdge_match

theorem edgesDue_one : State.edgesDue 1 s =
    if 255 ≤ s.pos.gen.owed then (s.modGen (fun g => { g with k := g.k + 1 })).inc32 0x6420 9 1
    else if s.edgeLate then ((s.modGen (fun g => { g with k := g.k + 1 })).modGen (fun g => { g with owed := g.owed + 1 })).inc32 0x6420 8 1
    else (s.modGen (fun g => { g with k := g.k + 1 })).modGen (fun g => { g with owed := g.owed + 1 }) := rfl

theorem exec_timerLineEdge : exec .timerLineEdge s =
    if s.board.inspect && s.reg 0x6420 2 = stOn && s.reg 0x6420 3 = 4 then .next (State.edgesDue 1 s) else .next s := rfl

/-- The position an edge latches: that of the source axis, or 0 of a timer (R446). -/
def State.edgePosition (s : State) : Int := if s.reg 0x6420 3 < 4 then s.position (s.reg 0x6420 3) else 0

/-- The pulses an edge that leaves now sends down the LTRIG delay lines (R447). -/
def State.edgePulses (s : State) : List LtrigPulse :=
  ((List.range 16).filter (fun j => s.flag (0x6430 + j) 1)).map (fun j => ⟨j, s.reg (0x6430 + j) 2, 2 * s.time.tclk + 5 * s.reg (0x6430 + j) 2⟩)

theorem mem_edgePulses {j : Nat} (hj : j < 16) (h : s.flag (0x6430 + j) 1 = true) :
    (⟨j, s.reg (0x6430 + j) 2, 2 * s.time.tclk + 5 * s.reg (0x6430 + j) 2⟩ : LtrigPulse) ∈ s.edgePulses :=
  List.mem_map.mpr ⟨j, List.mem_filter.mpr ⟨List.mem_range.mpr hj, h⟩, rfl⟩

/-- The generator once an edge has left. -/
def State.edgeGone (s : State) : LineGen :=
  let g := s.pos.gen
  let feed := if s.reg 0x4000 2 = stOff then g.feed else g.feed ++ [⟨s.edgePosition, s.sc, s.tb80 0, s.edgePulses.map (fun x => (x.ball, x.delay))⟩]
  { g with owed := g.owed - 1, lastOut := some s.time.tclk, inFlight := g.inFlight ++ s.edgePulses, feed := feed }

theorem edgeOut_eq : s.edgeOut =
    (((((s.modGen (fun _ => s.edgeGone)).inc64 0x6420 7 1).setReg 0x6420 0x0A (ofSigned 64 s.edgePosition)).setReg 0x6420 0x0B s.sc).setReg 0x6420 0x0C (s.tb80 0)).fire
      0x328 s.nextEdgeIndex := rfl

theorem edgeOut_leaves : s.edgeOut.pos.gen = s.edgeGone ∧ s.edgeOut.reg 0x6420 7 = wrapAdd64 (s.reg 0x6420 7) 1 ∧
    s.edgeOut.reg 0x6420 0x0A = ofSigned 64 s.edgePosition ∧ s.edgeOut.reg 0x6420 0x0B = s.sc ∧ s.edgeOut.reg 0x6420 0x0C = s.tb80 0 ∧
    s.fires s.edgeOut 0x328 s.nextEdgeIndex := by
  refine ⟨by rw [edgeOut_eq, fire_pos]; rfl, ?_, ?_, ?_, ?_, edgeOut_eq ▸ fires_of _ rfl rfl rfl⟩ <;>
    rw [edgeOut_eq, fire_low _ _ _ (by omega) (by omega) (by omega)]
  · rw [set_ne, set_ne, set_ne, inc64_reg_same]; rfl
  · rw [set_ne, set_ne, reg_setReg_same]
  · rw [set_ne, reg_setReg_same]
  · rw [reg_setReg_same]

theorem edgeMayLeave_iff : s.edgeMayLeave = true ↔ (0 < s.pos.gen.owed ∧ ¬ ∃ d, s.sinceEdge = some d ∧ d < s.reg 0x6420 6) := by
  unfold State.edgeMayLeave
  cases s.sinceEdge <;> simp

theorem lineEdgeEmit_leaves (howed : 0 < s.pos.gen.owed) (hsoon : ¬ ∃ d, s.sinceEdge = some d ∧ d < s.reg 0x6420 6) :
    Completes .lineEdgeEmit s (fun t => t.pos.gen.owed = s.pos.gen.owed - 1 ∧ t.pos.gen.lastOut = some s.time.tclk ∧
      t.reg 0x6420 7 = wrapAdd64 (s.reg 0x6420 7) 1 ∧
      t.reg 0x6420 0x0A = ofSigned 64 (if s.reg 0x6420 3 < 4 then s.position (s.reg 0x6420 3) else 0) ∧ t.reg 0x6420 0x0B = s.sc ∧
      t.reg 0x6420 0x0C = s.tb80 0 ∧ s.fires t 0x328 s.nextEdgeIndex ∧
      t.pos.gen.feed.length = (if s.reg 0x4000 2 = stOff then s.pos.gen.feed.length else s.pos.gen.feed.length + 1) ∧
      ∀ j, j < 16 → s.flag (0x6430 + j) 1 = true →
        (⟨j, s.reg (0x6430 + j) 2, 2 * s.time.tclk + 5 * s.reg (0x6430 + j) 2⟩ : LtrigPulse) ∈ t.pos.gen.inFlight) := by
  obtain ⟨hgen, hcount, hposition, hsc, htb, hfires⟩ := edgeOut_leaves (s := s)
  refine completes_of (t := s.edgeOut) (if_pos (edgeMayLeave_iff.mpr ⟨howed, hsoon⟩)) ?_
  rw [hgen]
  refine ⟨rfl, rfl, hcount, hposition, hsc, htb, hfires, ?_, fun j hj hflag => List.mem_append_right _ (mem_edgePulses hj hflag)⟩
  show (if s.reg 0x4000 2 = stOff then s.pos.gen.feed else s.pos.gen.feed ++ [_]).length = _
  split
  · rfl
  · rw [List.length_append]; rfl

/-! ### LTRIG pulses (R447) -/

theorem exec_ltrigPulse {j : Nat} (hj : j < 16) : exec (.ltrigPulse j) s = if s.pulseDue j then
    .next ((s.modGen (fun g => { g with inFlight := dropPulse j g.inFlight })).emit (.ltrig j (!s.flag (0x6430 + j) 4) (s.reg (0x6430 + j) 3)))
    else .next s := by
  show execLtrigPulse j s = _
  unfold execLtrigPulse
  rw [inst_ok (decide_eq_true hj)]
  rfl

theorem pulseDue_of {j : Nat} {p : LtrigPulse} (h : s.pos.gen.inFlight.find? (fun p => p.ball = j) = some p) :
    s.pulseDue j = decide (p.due ≤ 2 * s.time.tclk) := by
  unfold State.pulseDue
  rw [h, State.halfTicks]

theorem pulseDue_none {j : Nat} (h : ∀ p ∈ s.pos.gen.inFlight, p.ball ≠ j) : s.pulseDue j = false := by
  unfold State.pulseDue
  rw [List.find?_eq_none.mpr fun p hp => by simpa using h p hp]

theorem timerLineEdge_clauses :
    let timer := s.board.inspect = true ∧ s.reg 0x6420 2 = stOn ∧ s.reg 0x6420 3 = 4
    let late := 0 < s.pos.gen.owed ∨ ∃ d, s.sinceEdge = some d ∧ d < s.reg 0x6420 6
    (¬timer → exec .timerLineEdge s = .next s) ∧
    (timer →
      (s.pos.gen.owed < 255 → Completes .timerLineEdge s (fun t => t.pos.gen = { s.pos.gen with k := s.pos.gen.k + 1, owed := s.pos.gen.owed + 1 } ∧
        (late → t.reg 0x6420 8 = satAdd32 (s.reg 0x6420 8) 1) ∧ (¬late → t.regs = s.regs))) ∧
      (255 ≤ s.pos.gen.owed → Completes .timerLineEdge s (fun t => t.pos.gen = { s.pos.gen with k := s.pos.gen.k + 1 } ∧
        t.reg 0x6420 9 = satAdd32 (s.reg 0x6420 9) 1))) := by
  intro timer late
  have hcond : (s.board.inspect && s.reg 0x6420 2 = stOn && s.reg 0x6420 3 = 4) = true ↔ timer := by
    simp only [Bool.and_eq_true, decide_eq_true_eq, and_assoc]; exact Iff.rfl
  refine ⟨fun hno => by rw [exec_timerLineEdge, if_neg (fun h => hno (hcond.mp h))], fun htimer => ⟨fun howed => ?_, fun howed => ?_⟩⟩
  all_goals refine completes_of (t := State.edgesDue 1 s) (by rw [exec_timerLineEdge, if_pos (hcond.mpr htimer)]) ?_
  all_goals rw [edgesDue_one]
  · rw [if_neg (by omega)]
    by_cases hlate : late
    · rw [if_pos (edgeLate_iff.mpr hlate)]
      exact ⟨rfl, fun _ => inc32_reg_same _ _ _ _, fun h => absurd hlate h⟩
    · rw [if_neg (fun h => hlate (edgeLate_iff.mp h))]
      exact ⟨rfl, fun h => absurd h hlate, fun _ => rfl⟩
  · rw [if_pos howed]
    exact ⟨rfl, inc32_reg_same _ _ _ _⟩

/-- Settles O54: what an entry does is read off the three outcomes of the placement test, each with what it leaves of the list; an edge that leaves is the
generator `edgeGone` with the four entries written after it. -/
theorem comparesAndLineEdges : Obligations.ComparesAndLineEdges := by
  unfold Obligations.ComparesAndLineEdges
  refine ⟨fun s m hm hlen => ?_, fun s => ?_⟩
  · have hplaced : ∀ {e t}, Placed m e s t → _ := fun {e t} (h : Placed m e s t) => And.intro h.stays (And.intro h.fires h.missed)
    refine ⟨fun sess hl => ?_, fun hnone => ?_, fun e rest harriving => ⟨fun hroom => ?_, fun hroom => ?_⟩, fun sess hl => compareClear_clears hm hlen hl,
      fun hactive hearly => ?_, fun hactive hdue => ?_, fun hoff => ?_⟩
    · obtain ⟨hplace, hrefuse⟩ := comparePlace_places hm hlen hl
      refine ⟨fun hdir hroom => ?_, hrefuse⟩
      obtain ⟨t, hexec, ht⟩ := hplace hdir hroom
      exact ⟨t, hexec, hplaced ht⟩
    · show inst (decide (m < 4)) (.next (s.markerArrive m)) = _
      rw [inst_ok (decide_eq_true hm), State.markerArrive, hnone]
    · obtain ⟨t, hexec, hrest, ht, hcount⟩ := markerEntryArrive_places hm hlen harriving hroom
      exact ⟨t, hexec, hrest, hplaced ht, hcount⟩
    · exact markerEntryArrive_refused hm hlen harriving hroom
    · rw [exec_cmpoutPulseEnd hm, hactive, decide_eq_false (by omega)]; rfl
    · refine completes_of (by rw [exec_cmpoutPulseEnd hm, hactive, decide_eq_true hdue]; rfl) ?_
      have hclist : ∀ o, ((s.modList m (fun l => { l with active := false })).emit o).clist m = { s.clist m with active := false } := fun o =>
        clist_modList _ hlen
      rw [hclist]
      exact ⟨rfl, rfl, rfl, rfl⟩
    · rw [exec_cmpoutPulseEnd hm, hoff]; rfl
  · obtain ⟨hnotimer, htimer⟩ := timerLineEdge_clauses (s := s)
    refine ⟨hnotimer, htimer, fun hno => if_neg fun h => ?_, lineEdgeEmit_leaves, fun j hj => ⟨fun p hp => ⟨fun hearly => ?_, fun hdue => ?_⟩, fun hnone => ?_⟩⟩
    · obtain ⟨howed, hsoon⟩ := edgeMayLeave_iff.mp h
      exact hno.elim (by omega) hsoon
    · rw [exec_ltrigPulse hj, pulseDue_of hp, if_neg (by rw [decide_eq_true_eq]; omega)]
    · refine completes_of (by rw [exec_ltrigPulse hj, pulseDue_of hp, if_pos (decide_eq_true hdue)]) ?_
      exact ⟨rfl, rfl, rfl⟩
    · rw [exec_ltrigPulse hj, pulseDue_none hnone]; rfl

end Sys2Proof.Machine
end

section
/-! What stops a unit leaves the clock and the progress of an entry into KEEP (chapter 18, R530 to R533). -/

set_option Elab.async false

namespace Sys2Proof.Machine

variable {s0 s t : State}

/-! ### The reference unit -/

theorem SameClock.modCand {i : Nat} {f : Candidate → Candidate} (h : SameClock s0 s) : SameClock s0 (s.modCand i f) :=
  ⟨h.tclk, h.running, h.frames, h.keepStep, h.keepSince⟩

theorem SameClock.enterRef {st sel : Nat} (h : SameClock s0 s) : SameClock s0 (s.enterRef st sel) := by
  have hbit (v : State) (hv : SameClock s0 v) (i : Nat) (b : Bool) : SameClock s0 (if i < 5 then v.regBit (0x6010 + i) 1 3 b else v) :=
    SameClock.ite (hv.frame (fr_regBit (by decide) (fr_refl v))) hv
  have hb := hbit _ (hbit s h (s.reg 0x6000 2) false) sel true
  unfold State.enterRef
  dsimp only
  generalize (if sel < 5 then State.regBit _ (0x6010 + sel) 1 3 true else _) = v at hb ⊢
  have hs : SameClock s0 ((v.setReg 0x6000 1 st).setReg 0x6000 2 sel) := hb.frame (fr_setReg (by decide) (fr_setReg (by decide) (fr_refl v)))
  refine SameClock.frame ?_ (fr_setReg (by decide) (fr_refl _))
  exact ⟨hs.tclk, hs.running, hs.frames, hs.keepStep, hs.keepSince⟩

theorem SameClock.enterHoldover {n : Nat} (h : SameClock s0 s) : SameClock s0 (s.enterHoldover n) := by
  unfold State.enterHoldover
  split
  · exact SameClock.enterRef (h.frame (fr_inc32 (by decide) (fr_setReg (by decide) (fr_setReg (by decide) (fr_refl s)))))
  · exact SameClock.enterRef (h.frame (fr_setReg (by decide) (fr_refl s)))

theorem SameClock.freerun (h : SameClock s0 s) : SameClock s0 ((s.setReg 0x6000 0x0C 0).enterRef 0 0xFF) :=
  SameClock.enterRef (h.frame (fr_setReg (by decide) (fr_refl s)))

theorem SameClock.noCandidate (h : SameClock s0 s) : SameClock s0 s.noCandidate := by
  unfold State.noCandidate
  split
  · exact h.enterHoldover
  · exact h.enterHoldover
  · exact h.freerun
  · exact h

theorem SameClock.selectCand {i : Nat} (h : SameClock s0 s) : SameClock s0 (s.selectCand i) := by
  unfold State.selectCand
  split <;> exact h.enterRef

theorem SameClock.evaluate (h : SameClock s0 s) : SameClock s0 s.evaluate := by
  have hq : SameClock s0 (s.setReg 0x6000 8 s.qlOut) := h.frame (fr_setReg (by decide) (fr_refl s))
  unfold State.evaluate
  dsimp only
  refine SameClock.ite hq (SameClock.ite (SameClock.ite h h.freerun) (SameClock.ite (SameClock.ite h h.enterHoldover) ?_))
  split
  · exact SameClock.ite (SameClock.ite h h.enterHoldover) h.noCandidate
  · exact SameClock.ite hq (SameClock.ite h.selectCand hq)

theorem SameClock.reselect (h : SameClock s0 s) : SameClock s0 s.reselect :=
  SameClock.evaluate (h.frame (fr_refreshCands (by decide) (fr_refl s)))

theorem SameClock.disqualify {i c : Nat} (h : SameClock s0 s) : SameClock s0 (s.disqualify i c) := by
  unfold State.disqualify
  refine SameClock.ite (SameClock.faultRecord ?_) h
  exact (SameClock.modCand (h.frame (fr_inc32 (by decide) (fr_setReg (by decide) (fr_regBit (by decide) (fr_refl s)))))).frame
    (fr_setReg (by decide) (fr_refl _))

theorem SameClock.qlMessage {i q : Nat} (h : SameClock s0 s) : SameClock s0 (s.qlMessage i q) :=
  (SameClock.modCand (h.frame (fr_regBit (by decide) (fr_refl s)))).reselect

theorem SameClock.signalLoss {i : Nat} (h : SameClock s0 s) : SameClock s0 (s.signalLoss i) :=
  SameClock.ite (SameClock.modCand (h.frame (fr_inc32 (by decide) (fr_regBit (by decide) (fr_refl s))))).disqualify.reselect h

theorem SameClock.ptpPort {p st : Nat} (h : SameClock s0 s) : SameClock s0 (s.ptpPort p st) :=
  SameClock.ite ⟨h.tclk, h.running, h.frames, h.keepStep, h.keepSince⟩ (SameClock.ite ⟨h.tclk, h.running, h.frames, h.keepStep, h.keepSince⟩ h)

/-! ### Links -/

theorem SameClock.setLaneState {n st : Nat} (h : SameClock s0 s) : SameClock s0 (s.setLaneState n st) := by
  have hm (v : State) (hv : SameClock s0 v) (m : Nat) : SameClock s0 (if v.reg (0x2410 + n / 4) 2 = m then v else v.setReg (0x2410 + n / 4) 2 m) :=
    SameClock.ite hv (hv.frame (fr_setReg (by decide) (fr_refl v)))
  refine SameClock.each (hm _ (h.frame (fr_setReg (by decide) (fr_refl s))) _) fun i v hv => ?_
  exact SameClock.ite (SameClock.ite (hv.frame (fr_signalReturn (by decide) (fr_refl v))) hv.signalLoss) hv

theorem SameClock.sendTxMap {g n : Nat} {ls : List Nat} (h : SameClock s0 s) : SameClock s0 (s.sendTxMap g n ls) :=
  SameClock.each (h.frame (fr_queueControl (by decide) (fr_setGroup (by decide) (fr_showLink (by decide) (fr_setReg (by decide) (fr_setReg (by decide)
    (fr_refl s))))))) fun _ _ hv => hv.faultDone

theorem SameClock.nextFailover {g : Nat} (h : SameClock s0 s) : SameClock s0 (s.nextFailover g) := by
  unfold State.nextFailover
  split
  · exact h.frame (fr_setGroup (by decide) (fr_refl s))
  · exact SameClock.ite (SameClock.sendTxMap (h.frame (fr_inc32 (by decide) (fr_refl s)))) (h.frame (fr_sendRxMap (by decide) (fr_refl s)))

theorem SameClock.endFailover {g : Nat} (h : SameClock s0 s) : SameClock s0 (s.endFailover g) :=
  SameClock.each (h.frame (fr_setGroup (by decide) (fr_refl s))) fun _ _ hv => hv.faultDone

theorem SameClock.ackGroup {tx : Bool} {g : Nat} {x : MapSent} (h : SameClock s0 s) : SameClock s0 (s.ackGroup tx g x) := by
  refine SameClock.ite h.nextFailover (SameClock.nextFailover (SameClock.each ?_ fun _ _ hv => hv.faultDone))
  exact h.frame (fr_showLink (by decide) (fr_setReg (by decide) (fr_setReg (by decide) (fr_refl s))))

theorem SameClock.skipControl (h : SameClock s0 s) : SameClock s0 s.skipControl := h.frame (fr_skipControl (by decide) (fr_refl s))

theorem SameClock.laneAck {l g m : Nat} (h : SameClock s0 s) : SameClock s0 (s.laneAck l g m) := by
  unfold State.laneAck
  dsimp only
  split
  · split
    · exact h.ackGroup
    · exact h
  · split
    · split
      · exact h.ackGroup
      · exact h
    · exact h.skipControl

theorem SameClock.laneMap {l n m : Nat} (h : SameClock s0 s) : SameClock s0 (s.laneMap l n m) := by
  unfold State.laneMap
  split
  · exact h.skipControl
  · refine SameClock.frame ?_ (fr_queueControl (by decide) (fr_refl _))
    have hlost (a g : Nat) : SameClock s0 (((((s.faultStart 4 a 0 s.sc).setReg g 8 (m % 2 ^ 17)).setReg g 9 (n % 256)).inc32 g 0x0A 1).showLink g) :=
      h.faultStart.frame (fr_showLink (by decide) (fr_inc32 (by decide) (fr_setReg (by decide) (fr_setReg (by decide) (fr_refl _)))))
    exact SameClock.ite h (hlost _ _).faultDone

theorem SameClock.controlRx {l w : Nat} (h : SameClock s0 s) : SameClock s0 (s.controlRx l w) := by
  unfold State.controlRx
  split
  · exact h.each fun _ _ hv => SameClock.ite hv.qlMessage hv
  · exact h.frame (fr_creditRx (by decide) (fr_refl s))
  · exact h.laneMap
  · exact h.laneAck
  · exact h.skipControl

theorem SameClock.deliverItem {g l : Nat} {i : Item} (h : SameClock s0 s) : SameClock s0 (s.deliverItem g l i) :=
  SameClock.ite h.controlRx (h.frame (fr_dataItem (by decide) (fr_refl s)))

theorem SameClock.flushDesk {g : Nat} (h : SameClock s0 s) : SameClock s0 (s.flushDesk g) :=
  SameClock.each (h.frame (fr_setGroup (by decide) (fr_refl s))) fun _ _ hv => hv.each fun _ _ hw => hw.deliverItem

theorem SameClock.groupEnabling {g : Nat} (h : SameClock s0 s) : SameClock s0 (s.groupEnabling g) := by
  refine SameClock.each (h.frame (fr_setGroup (by decide) (fr_setReg (by decide) (fr_setReg (by decide) (fr_refl s))))) fun n v hv => ?_
  exact SameClock.ite (SameClock.ite hv (hv.frame (fr_setTx (by decide) (fr_setReg (by decide) (fr_refl v)))))
    (SameClock.ite hv (SameClock.setLaneState (hv.frame (fr_setRx (by decide) (fr_refl v)))))

theorem SameClock.groupDisabling {g : Nat} (h : SameClock s0 s) : SameClock s0 (s.groupDisabling g) := by
  refine SameClock.ite (h.endFailover.each fun n v hv => ?_) (SameClock.ite h.endFailover h.endFailover.flushDesk)
  exact SameClock.ite (hv.frame (fr_drainLane (by decide) (fr_dropControl (by decide) (fr_refl v)))) hv

/-! ### The crib, the gleaner and the DMA channels -/

theorem SameClock.fillSlab {b : Slab} (h : SameClock s0 s) : SameClock s0 (s.fillSlab b) := by
  unfold State.fillSlab
  split
  · exact h
  · exact h.each fun _ _ hv => hv.store

theorem SameClock.cribDisabling (h : SameClock s0 s) : SameClock s0 s.cribDisabling := by
  have hpins : SameClock s0 (s.each (List.range 64) (fun j s => if s.siloState j = 1 && !(s.silo j).inEffect then s.pinsEffect j else s)) :=
    h.each fun _ v hv => SameClock.ite (hv.frame (fr_pinsEffect (by decide) (fr_refl v))) hv
  refine SameClock.each (SameClock.each (hpins.each fun _ _ hv => hv.fillSlab) fun _ v hv => SameClock.ite ?_ hv) fun _ v hv => ?_
  · exact hv.frame (fr_siloHeld (by decide) (fr_siloFlag (by decide) (fr_modSilo (by decide) (fr_refl v))))
  · exact hv.frame (fr_endReader (by decide) (fr_refl v))

theorem SameClock.offers {ms : List Nat} {f : State × Nat → Nat → State × Nat} {a : State × Nat} (h : SameClock s0 a.1)
    (hf : ∀ a m, SameClock s0 a.1 → SameClock s0 (f a m).1) : SameClock s0 (ms.foldl f a).1 := by
  induction ms generalizing a with
  | nil => exact h
  | cons m ms ih => exact ih (hf a m h)

theorem SameClock.record {c : GleanCfg} {l : Nat} {cs : List Nat} {o : Closing} {b : Blob} (h : SameClock s0 o.s) :
    SameClock s0 (Closing.record c l cs o b).s := by
  unfold Closing.record
  extract_lets s f n counted fired s3 q rules ws slots stored s5 r
  split
  · have hc : SameClock s0 counted := h.frame (fr_inc32 (by decide) (fr_refl _))
    exact SameClock.ite (hc.frame (fr_fire (by decide) (fr_modGlean (by decide) (fr_refl _)))) hc
  · have hg : SameClock s0 s3 := h.frame (fr_modGlean (by decide) (fr_refl _))
    have hs : SameClock s0 stored := SameClock.ite hg hg.store
    have h5 : SameClock s0 s5 := hs.frame (fr_inc64 (by decide) (fr_setReg (by decide) (fr_refl _)))
    refine SameClock.offers h5 fun a m ha => ?_
    have hm (g : CompareList → CompareList) : SameClock s0 ((a.1.inc32 (0x4490 + m) 6 1).modList m g) :=
      ha.frame (fr_modList (by decide) (fr_inc32 (by decide) (fr_refl _)))
    exact SameClock.ite (hm _) ((hm _).frame (fr_inc32 (by decide) (fr_refl _)))

theorem SameClock.closeBlobs {c : GleanCfg} {l : Nat} {bs : List Blob} {cs : List Nat} (h : SameClock s0 s) : SameClock s0 (s.closeBlobs c l bs cs) := by
  have hrecord (xs : List Blob) (o : Closing) (ho : SameClock s0 o.s) : SameClock s0 (xs.foldl (Closing.record c l cs) o).s := by
    induction xs generalizing o with
    | nil => exact ho
    | cons x xs ih => exact ih _ ho.record
  unfold State.closeBlobs
  extract_lets small big weak good counted offered others o stream sent
  have ho : SameClock s0 o.s := hrecord _ _ (h.frame (fr_inc64 (by decide) (fr_inc64 (by decide) (fr_refl s))))
  have hs : SameClock s0 sent := SameClock.ite ho (ho.frame (fr_sendRecords (by decide) (fr_refl _)))
  exact SameClock.ite hs (hs.frame (fr_fire (by decide) (fr_refl _)))

theorem SameClock.gleanDisabling (h : SameClock s0 s) : SameClock s0 s.gleanDisabling :=
  SameClock.ite h (SameClock.ite (h.closeBlobs.frame (fr_gleanStop (by decide) (fr_refl _))) h)

theorem SameClock.dmaAbort {c : Nat} (h : SameClock s0 s) : SameClock s0 (s.dmaAbort c) := by
  unfold State.dmaAbort
  split
  · exact SameClock.ite (h.frame (fr_setDmaRun (by decide) (fr_refl s))) h.dmaAbortedNow
  · exact h.frame (fr_setDmaRun (by decide) (fr_refl s))
  · exact h

/-! ### Sessions -/

theorem SameClock.debugLeave (h : SameClock s0 s) : SameClock s0 s.debugLeave := by
  unfold State.debugLeave
  exact SameClock.faultRecord (h.frame (fr_setReg (by decide) (fr_setReg (by decide) (fr_refl s))))

theorem SameClock.closeSession {k : Nat} {b : Bool} (h : SameClock s0 s) : SameClock s0 (s.closeSession k b) := by
  unfold State.closeSession
  extract_lets dict role numbered sent abandoned left freed input emptied
  split
  · exact h
  · split
    · exact h.frame (fr_mk_serving (by decide) (fr_refl s))
    · have hn : SameClock s0 numbered := h.frame (fr_nextTx (by decide) (fr_refl s))
      have hs : SameClock s0 sent := SameClock.ite (hn.frame (fr_sendTo (by decide) (fr_refl _))) h
      have ha : SameClock s0 abandoned := hs.frame (fr_abandon (by decide) (fr_refl _))
      have hl : SameClock s0 left := SameClock.ite ha.debugLeave ha
      have hf : SameClock s0 freed := SameClock.each (hl.frame (fr_freeSession (by decide) (fr_refl _))) fun _ v hv =>
        hv.frame (fr_channelDisable (by decide) (fr_refl v))
      have he : SameClock s0 emptied := hf.frame (fr_setInput (by decide) (fr_refl _))
      exact he.frame (fr_notifyBut (by decide) (fr_refl _))

theorem SameClock.closePort {p : Nat} (h : SameClock s0 s) : SameClock s0 (s.closePort p) :=
  h.each fun _ _ hv => SameClock.ite hv.closeSession hv

/-! ### Units -/

theorem SameClock.startDisabling {u : UnitKind} {i w : Nat} (h : SameClock s0 s) : SameClock s0 (s.startDisabling u i w) := by
  cases u with
  | port => exact h.closePort
  | group => exact h.groupDisabling
  | crib => exact h.cribDisabling
  | gleaner => exact h.gleanDisabling
  | dmaChannel => exact h.dmaAbort
  | camera => exact h.frame (fr_cameraDisabling (by decide) (fr_refl s))
  | front => exact h.frame (fr_frontDisabling (by decide) (fr_refl s))
  | dove => exact h.frame (fr_doveDisabling (by decide) (fr_refl s))
  | core => exact h.frame (fr_dspDisabling (by decide) (fr_refl s))
  | axis => exact h.frame (fr_axisLeaves (by decide) (fr_refl s))
  | list => exact h.frame (fr_cancelEntries (by decide) (fr_refl s))
  | jig => exact h.frame (fr_jigDisabling (by decide) (fr_refl s))
  | dowel => exact SameClock.ite (h.frame (fr_channelLeaves (by decide) (fr_refl s))) h
  | formatter | monitor | winnow | scaler | dmaEngine | ptp | generator | counter => exact h

theorem SameClock.toDisabling {i : Nat} {b : Bool} (h : SameClock s0 s) : SameClock s0 (s.toDisabling i b) := h.frame (fr_toDisabling (by decide) (fr_refl s))

theorem SameClock.disableOne {u : UnitKind} {i : Nat} {b : Bool} (h : SameClock s0 s) : SameClock s0 (s.disableOne u i b) := by
  unfold State.disableOne
  split
  · exact SameClock.ite (h.toDisabling.startDisabling.frame (fr_setReg (by decide) (fr_scalerTurnsOff (by decide) (fr_refl _)))) h.toDisabling.startDisabling
  · exact h.toDisabling.startDisabling
  · exact h.toDisabling
  · exact SameClock.ite h (SameClock.ite (h.frame (fr_setReg (by decide) (fr_refl s))) h)

theorem SameClock.foldl {α : Type} {xs : List α} {f : State → α → State} (h : SameClock s0 s) (hf : ∀ s x, SameClock s0 s → SameClock s0 (f s x)) :
    SameClock s0 (xs.foldl f s) := h.each (g := fun x s => f s x) fun x s hs => hf s x hs

theorem SameClock.disableUnit {u : UnitKind} {i : Nat} {b : Bool} (h : SameClock s0 s) : SameClock s0 (s.disableUnit u i b) :=
  SameClock.disableOne (SameClock.ite (h.foldl fun _ _ hv => SameClock.ite hv hv.disableOne) h)

theorem SameClock.startEnabling {u : UnitKind} {i : Nat} (h : SameClock s0 s) : SameClock s0 (s.startEnabling u i) := by
  cases u with
  | group => exact h.groupEnabling
  | crib => exact h.frame (fr_cribEnabling (by decide) (fr_refl s))
  | monitor => exact h.frame (fr_monitorEnabling (by decide) (fr_refl s))
  | front => exact h.frame (fr_frontEnabling (by decide) (fr_refl s))
  | camera => exact h.frame (fr_cameraEnabling (by decide) (fr_refl s))
  | dove => exact h.frame (fr_doveEnabling (by decide) (fr_refl s))
  | gleaner => exact h.frame (fr_gleanEnabling (by decide) (fr_refl s))
  | scaler => exact h.frame (fr_scalerEnabling (by decide) (fr_refl s))
  | core => exact h.frame (fr_dspEnabling (by decide) (fr_refl s))
  | axis => exact h.frame (fr_modAxis (by decide) (fr_refl s))
  | ptp => exact h.each fun _ v hv => SameClock.ite (hv.frame (fr_setReg (by decide) (fr_refl v))) hv
  | port | jig | formatter | winnow | dmaEngine | dmaChannel | list | generator | dowel | counter => exact h

theorem SameClock.followEnable {u : UnitKind} {i : Nat} (h : SameClock s0 s) : SameClock s0 (s.followEnable u i) :=
  SameClock.ite (SameClock.ite (SameClock.startEnabling (h.frame (fr_setReg (by decide) (fr_refl s)))) h) (SameClock.ite h h.disableUnit)

theorem SameClock.keepStop {k : Nat} (h : SameClock s0 s) : SameClock s0 (s.keepStop k) := h.foldl fun _ _ hv => SameClock.ite hv hv.disableUnit

end Sys2Proof.Machine
end

section
/-! KEEP is entered and left (chapter 18, R529 to R533, R548). -/

set_option Elab.async false

namespace Sys2Proof.Machine

variable {s t : State}

/-! ### The entries of page 2000h -/

/-- The entries of index 2000h read as before. -/
def SamePage (s t : State) : Prop := ∀ b, b < 256 → t.reg 0x2000 b = s.reg 0x2000 b

theorem samePage_refl (s : State) : SamePage s s := fun _ _ => rfl

theorem SamePage.trans {u : State} (h : SamePage s t) (k : SamePage t u) : SamePage s u := fun b hb => (k b hb).trans (h b hb)

theorem SamePage.low (h : SamePage s t) {u : State} (l : Low 8193 t u) : SamePage s u :=
  h.trans fun b hb => l.reg _ b (by omega) hb (by omega)

theorem SamePage.setReg {i a v : Nat} (h : SamePage s t) (ha : a < 256) (hi : i ≠ 0x2000) : SamePage s (t.setReg i a v) :=
  h.trans fun _ hb => reg_setReg_other t v ha hb (.inl (Ne.symm hi))

theorem SamePage.ite {c : Prop} [Decidable c] {x y : State} (hx : SamePage s x) (hy : SamePage s y) : SamePage s (if c then x else y) := by
  split
  · exact hx
  · exact hy

theorem SamePage.foldl {α : Type} {xs : List α} {f : State → α → State} (h : SamePage s t) (hf : ∀ v, ∀ x ∈ xs, SamePage s v → SamePage s (f v x)) :
    SamePage s (xs.foldl f t) := by
  induction xs generalizing t with
  | nil => exact h
  | cons x xs ih => exact ih (hf t x (by simp) h) fun v y hy => hf v y (by simp [hy])

theorem SamePage.each {α : Type} {xs : List α} {g : α → State → State} (h : SamePage s t) (hg : ∀ x ∈ xs, ∀ v, SamePage s v → SamePage s (g x v)) :
    SamePage s (t.each xs g) := h.foldl fun v x hx => hg x hx v

/-! ### Sessions and ports -/

theorem SamePage.sendTo {k : Nat} {d : Bytes} (h : SamePage s t) : SamePage s (t.sendTo k d) := by
  unfold State.sendTo State.portSend
  dsimp only
  split
  · next hp =>
    unfold State.portSends at hp
    simp only [Bool.and_eq_true, decide_eq_true_eq] at hp
    exact (h.low (low_emit (low_refl t))).setReg (by omega) (by omega)
  · exact h

theorem SamePage.freeSession {k : Nat} (hk : k ≤ 8) (h : SamePage s t) : SamePage s (t.freeSession k) := by
  refine SamePage.low (h.each fun j hj v hv => ?_) (low_modSession (low_refl _))
  simp only [List.mem_map, List.mem_range] at hj
  exact hv.setReg (by omega) (by unfold sessIdx; omega)

theorem SamePage.debugLeave (h : SamePage s t) : SamePage s t.debugLeave := by
  unfold State.debugLeave
  exact ((h.setReg (by omega) (by omega)).setReg (by omega) (by omega)).low (low_faultRecord (by omega) (low_refl _))

theorem SamePage.closeSession {k : Nat} {b : Bool} (h : SamePage s t) : SamePage s (t.closeSession k b) := by
  unfold State.closeSession
  extract_lets dict role numbered sent abandoned left freed input emptied
  split
  · exact h
  · next hopen =>
    have hk : k ≤ 8 := by
      simp only [State.sessionOpen, Bool.not_eq_true, Bool.not_eq_false', Bool.and_eq_true, decide_eq_true_eq] at hopen
      omega
    split
    · exact h
    · have hn : SamePage s numbered := h.setReg (by omega) (by unfold sessIdx; omega)
      have ha : SamePage s abandoned := SamePage.low (SamePage.ite hn.sendTo h) (low_abandon (low_refl _))
      have hl : SamePage s left := SamePage.ite ha.debugLeave ha
      have hf : SamePage s freed := (hl.freeSession hk).each fun _ _ v hv => hv.low (low_channelDisable (by omega) (low_refl v))
      exact hf.low (low_notifyBut (low_setInput (low_refl _)))

theorem SamePage.closePort {p : Nat} (h : SamePage s t) : SamePage s (t.closePort p) :=
  h.each fun _ _ _ hv => SamePage.ite hv.closeSession hv

theorem SamePage.stopOtherPort (h : SamePage s t) : SamePage s t.stopOtherPort :=
  SamePage.ite h ((h.closePort.setReg (by omega) (by omega)).setReg (by omega) (by omega))

/-! ### Units -/

theorem SamePage.startDisabling {u : UnitKind} {i w : Nat} (h : SamePage s t) : SamePage s (t.startDisabling u i w) := by
  cases u with
  | port => exact h.closePort
  | group => exact h.low (low_groupDisabling (by omega) (low_refl t))
  | crib => exact h.low (low_cribDisabling (by omega) (low_refl t))
  | gleaner => exact h.low (low_gleanDisabling (by omega) (low_refl t))
  | dmaChannel => exact h.low (low_dmaAbort (by omega) (low_refl t))
  | camera => exact h.low (low_cameraDisabling (low_refl t))
  | front => exact h.low (low_frontDisabling (by omega) (low_refl t))
  | dove => exact h.low (low_doveDisabling (low_refl t))
  | core => exact h.low (low_dspDisabling (by omega) (low_refl t))
  | axis => exact h.low (low_axisLeaves (by omega) (low_refl t))
  | list => exact h.low (low_cancelEntries (by omega) (low_refl t))
  | jig => exact h.low (low_jigDisabling (by omega) (low_refl t))
  | dowel => exact SamePage.ite (h.low (low_channelLeaves (low_refl t))) h
  | formatter | monitor | winnow | scaler | dmaEngine | ptp | generator | counter => exact h

theorem SamePage.toDisabling {i : Nat} {b : Bool} (hi : i ≠ 0x2000) (h : SamePage s t) : SamePage s (t.toDisabling i b) :=
  SamePage.setReg (SamePage.ite h (h.setReg (by omega) hi)) (by omega) hi

theorem SamePage.disableOne {u : UnitKind} {i : Nat} {b : Bool} (hi : i ≠ 0x2000) (h : SamePage s t) : SamePage s (t.disableOne u i b) := by
  unfold State.disableOne
  have hd (w : Nat) : SamePage s ((t.toDisabling i b).startDisabling u i w) := (h.toDisabling hi).startDisabling
  split
  · exact SamePage.ite (((hd _).low (low_scalerTurnsOff (by omega) (low_refl _))).setReg (by omega) hi) (hd _)
  · exact hd _
  · exact h.toDisabling hi
  · exact SamePage.ite h (SamePage.ite (h.setReg (by omega) hi) h)

/-- No unit that a unit's disable disables first lies at 2000h. -/
theorem dependants_off {u : UnitKind} {i : Nat} {d : UnitKind × Nat} (hd : d ∈ t.dependants u i) : d.2 ≠ 0x2000 := by
  unfold State.dependants at hd
  split at hd
  · simp only [List.mem_cons, List.mem_map, List.mem_range] at hd
    obtain rfl | ⟨x, -, rfl⟩ := hd
    · simp
    · dsimp only; omega
  · simp only [List.mem_map, List.mem_range] at hd
    obtain ⟨x, -, rfl⟩ := hd
    dsimp only; omega
  · simp only [List.mem_map, List.mem_range] at hd
    obtain ⟨x, -, rfl⟩ := hd
    dsimp only; omega
  · split at hd
    · simp only [List.mem_singleton] at hd
      subst hd; simp
    · cases hd
  · cases hd

theorem SamePage.disableUnit {u : UnitKind} {i : Nat} {b : Bool} (hi : i ≠ 0x2000) (h : SamePage s t) : SamePage s (t.disableUnit u i b) :=
  SamePage.disableOne hi (SamePage.ite (h.foldl fun _ _ hx hv => SamePage.ite hv (hv.disableOne (dependants_off hx))) h)

/-- A unit of index above 2000h, or a port. -/
def OffPage (d : UnitKind × Nat) : Prop := 0x2001 ≤ d.2 ∨ (d.1 = .port ∧ d.2 ≠ 0x2000)

theorem OffPage.ne {d : UnitKind × Nat} (h : OffPage d) : d.2 ≠ 0x2000 := by
  obtain h | h := h
  · omega
  · exact h.2

theorem SamePage.followEnable {d : UnitKind × Nat} (hd : OffPage d) (h : SamePage s t) : SamePage s (t.followEnable d.1 d.2) := by
  have he : SamePage s ((t.setReg d.2 2 stEnabling).startEnabling d.1 d.2) := by
    have hs : SamePage s (t.setReg d.2 2 stEnabling) := h.setReg (by omega) hd.ne
    obtain hi | ⟨hp, -⟩ := hd
    · exact hs.low (low_startEnabling (by omega) hi (low_refl _))
    · rw [hp]; exact hs
  exact SamePage.ite (SamePage.ite he h) (SamePage.ite h (h.disableUnit hd.ne))

/-- The units that KEEP stops in its steps lie above 2000h. -/
theorem keepUnits_above {k : Nat} {d : UnitKind × Nat} (hd : d ∈ t.keepUnits k) : 0x2001 ≤ d.2 := by
  unfold State.keepUnits at hd
  dsimp only at hd
  split at hd
  case h_5 =>
    split at hd
    · cases hd
    · simp only [List.mem_singleton] at hd
      subst hd; simp
  case h_6 => cases hd
  all_goals
    simp only [List.mem_append, List.mem_map, List.mem_cons, List.not_mem_nil, or_false] at hd
    grind

theorem SamePage.keepStop {k : Nat} (h : SamePage s t) : SamePage s (t.keepStop k) :=
  h.foldl fun _ d hd hv => SamePage.ite hv (hv.disableUnit (by have := keepUnits_above hd; omega))

theorem wakeUnits_off {d : UnitKind × Nat} (hd : d ∈ t.wakeUnits) : OffPage d := by
  unfold State.wakeUnits at hd
  simp only [List.mem_append, List.mem_map, List.mem_range, List.mem_flatMap, List.mem_reverse, List.mem_singleton] at hd
  rcases hd with (((⟨p, hp, rfl⟩ | rfl) | ⟨k, -, hk⟩) | ⟨c, -, rfl⟩) | ⟨n, -, rfl⟩
  · exact .inr ⟨rfl, by dsimp only; omega⟩
  · exact .inl (by decide)
  · exact .inl (keepUnits_above hk)
  · exact .inl (by dsimp only; omega)
  · exact .inl (by dsimp only; omega)

/-- Forcing a unit OFF changes, of page 2000h, the counter of such units alone. -/
theorem forceOff_pwState {u : UnitKind} {i : Nat} (hi : 0x2001 ≤ i) : (t.forceOff u i).pwState = t.pwState := by
  have h : SamePage t (if t.unitRuns i || t.status i = stPending then t.disableUnit u i true else t) :=
    SamePage.ite ((samePage_refl t).disableUnit (by omega)) (samePage_refl t)
  have ho := (h.low (low_turnOff (a1 := u) (by omega) hi (low_abandonWork (a1 := u) (a2 := i) (by omega) (low_refl _)))).setReg (a := 2) (v := stOff) (by omega) (by omega : i ≠ 0x2000)
  exact (reg_setReg_other _ _ (by omega) (by omega) (.inr (by omega))).trans (ho 1 (by omega))

/-! ### KEEP and WAKE -/

/-- An entry into KEEP is under way since tick `c`. -/
def Entering (c : Nat) (t : State) : Prop := t.pwState = pwKeepEntry ∧ 1 ≤ t.power.keepStep ∧ t.power.keepSince = c

theorem entering_keepStop {c k : Nat} (h : Entering c t) : Entering c (t.keepStop k) := by
  obtain ⟨hpw, hstep, hsince⟩ := h
  have hclock := (sameClock_refl t).keepStop (k := k)
  exact ⟨((samePage_refl t).keepStop 1 (by omega)).trans hpw, by rw [hclock.keepStep]; exact hstep, hclock.keepSince.trans hsince⟩

theorem entering_keepSteps {c n : Nat} (h : Entering c t) : Entering c (State.keepSteps n t) := by
  induction n generalizing t with
  | zero => exact h
  | succ n ih =>
    unfold State.keepSteps
    dsimp only
    split
    · exact ih (entering_keepStop ⟨h.1, Nat.le_add_left 1 _, h.2.2⟩)
    · exact h

/-- A command of page 2000h that is refused changes nothing but the list of results. -/
theorem commanded_error_power {sess a v d : Nat} : let t := s.commanded sess 0x2000 a v (.error d); t.regs = s.regs ∧ t.power = s.power :=
  ⟨result_regs .., result_power ..⟩

theorem completes_keep {sess : Nat} (hl : s.lets sess 0x2000 4) (h : s.keepOk = true) :
    Completes (.keep sess) s (fun t => t.pwState = pwKeepEntry ∧ 1 ≤ t.power.keepStep ∧ t.power.keepSince = s.time.tclk) := by
  have hrun : s.pwState = pwRun := by
    unfold State.keepOk at h
    simp only [Bool.and_eq_true, decide_eq_true_eq] at h
    exact h.1.1.1.1.1
  obtain ⟨v, hcmd, hpw, hstep, hsince⟩ : ∃ v, cmdKeep s = .ok v ∧ Entering s.time.tclk v := by
    refine ⟨_, ?_, entering_keepSteps (n := 5) (entering_keepStop (k := 1) (t := (s.setPw pwKeepEntry).modPower
      (fun p => { p with keepStep := 1, keepSince := s.time.tclk })) ⟨reg_setReg_same .., Nat.le_refl 1, rfl⟩)⟩
    unfold cmdKeep
    rw [if_neg (by rw [hrun]; simp)]
    exact if_pos h
  refine completes_of (exec_keep hl) ?_
  rw [hcmd, commanded_ok, result_power]
  exact ⟨(result_reg ..).trans hpw, hstep, hsince⟩

theorem completes_keep_again {sess : Nat} (hl : s.lets sess 0x2000 4) (hpw : s.pwState = pwKeepEntry) (hf : s.flag 0x2000 0x0A = true) :
    Completes (.keep sess) s (fun t => t.reg 0x2000 0x0A = 0 ∧ t.pwState = pwKeepEntry ∧ t.power = s.power) := by
  refine completes_of (exec_keep hl) ?_
  rw [show cmdKeep s = .ok (s.setReg 0x2000 0x0A 0) from if_pos (by rw [hpw, hf]; rfl), commanded_ok]
  exact ⟨(result_reg ..).trans (reg_setReg_same ..), (result_reg ..).trans ((reg_setReg_other _ _ (by omega) (by omega) (.inr (by omega))).trans hpw),
    result_power ..⟩

theorem completes_keep_refused {sess : Nat} (hl : s.lets sess 0x2000 4) (h : s.keepOk = false) (hpw : s.pwState ≠ pwKeepEntry) :
    Completes (.keep sess) s (fun t => t.regs = s.regs ∧ t.power = s.power) := by
  have hcmd : cmdKeep s = .error dState := by
    unfold cmdKeep
    rw [if_neg (by simp [hpw]), h]
    rfl
  refine completes_of (exec_keep hl) ?_
  rw [hcmd]
  exact commanded_error_power

theorem completes_wake {sess : Nat} (hl : s.lets sess 0x2000 5) :
    (s.pwState = pwKeep → Completes (.wake sess) s (fun t => t.pwState = pwKeepExit ∧ t.power = s.power)) ∧
    (s.pwState = pwKeepEntry → Completes (.wake sess) s (fun t => t.reg 0x2000 0x0A = 1 ∧ t.pwState = pwKeepEntry ∧ t.power = s.power)) ∧
    (s.pwState ≠ pwKeep → s.pwState ≠ pwKeepEntry → Completes (.wake sess) s (fun t => t.regs = s.regs ∧ t.power = s.power)) := by
  refine ⟨fun hpw => completes_of (exec_wake hl) ?_, fun hpw => completes_of (exec_wake hl) ?_, fun hk he => completes_of (exec_wake hl) ?_⟩
  · rw [show cmdWake s = .ok (s.setPw pwKeepExit) by unfold cmdWake; rw [hpw]; rfl, commanded_ok]
    exact ⟨(result_reg ..).trans (reg_setReg_same ..), result_power ..⟩
  · rw [show cmdWake s = .ok (s.setReg 0x2000 0x0A 1) from if_pos hpw, commanded_ok]
    exact ⟨(result_reg ..).trans (reg_setReg_same ..), (result_reg ..).trans ((reg_setReg_other _ _ (by omega) (by omega) (.inr (by omega))).trans hpw),
      result_power ..⟩
  · rw [show cmdWake s = .error dState by unfold cmdWake accept; rw [if_neg he, if_neg (by simpa using hk)]]
    exact commanded_error_power

/-! ### The timeout and the end of the entry -/

theorem exec_keepTimeout_late (h : s.pwState ≠ pwKeepEntry ∨ s.time.tclk < s.power.keepSince + s.reg 0x2000 9 * 500000) :
    exec .keepTimeout s = .next s := by
  show execKeepTimeout s = _
  unfold execKeepTimeout
  rw [if_neg]
  rw [Bool.and_eq_true, decide_eq_true_eq, decide_eq_true_eq]
  omega

theorem completes_keepTimeout (hpw : s.pwState = pwKeepEntry) (h : s.power.keepSince + s.reg 0x2000 9 * 500000 ≤ s.time.tclk) :
    Completes .keepTimeout s (fun t => t.pwState = pwKeepEntry ∧ t.power.keepStep = 6) := by
  have he : exec .keepTimeout s = .next ((s.each [1, 2, 3, 4, 5] (fun step s =>
      (s.keepUnits step).foldl (fun s d => if s.status d.2 = stOff then s else s.forceOff d.1 d.2) s)).modPower (fun p => { p with keepStep := 6 })) := by
    show execKeepTimeout s = _
    unfold execKeepTimeout
    rw [if_pos (by rw [hpw, decide_eq_true h]; rfl)]
  have hforced : (s.each [1, 2, 3, 4, 5] (fun step s =>
      (s.keepUnits step).foldl (fun s d => if s.status d.2 = stOff then s else s.forceOff d.1 d.2) s)).pwState = s.pwState := by
    refine each_reg s fun k _ v => foldl_same_mem (fun v : State => v.reg 0x2000 1) _ v fun w d hd => ?_
    split
    · rfl
    · exact forceOff_pwState (keepUnits_above hd)
  refine completes_of he ?_
  generalize s.each [1, 2, 3, 4, 5] _ = v at hforced ⊢
  exact ⟨hforced.trans hpw, rfl⟩

theorem exec_keepEntryComplete_other {n : Nat} (h : s.pwState ≠ pwKeepEntry) : exec (.keepEntryComplete n) s = .next s := by
  show execKeepEntryComplete n s = _
  unfold execKeepEntryComplete
  rw [keepAdvance_idle h]
  exact congrArg Host.Outcome.next (if_neg (by simp [h]))

/-- The other port stops and every row of DRAM closes. -/
def State.keepClosed (s : State) : State :=
  s.stopOtherPort.each (List.range s.stopOtherPort.dramN) (fun ch s => s.modChan ch (fun x => { x with rows := [] }))

/-- What the entry into KEEP loses and stops, up to the counters it shows. -/
def State.keepDrained (s : State) : State :=
  let s := s.flushEngine.keepLoss.keepClosed
  if s.flag 0x2000 7 then s else { s with time := { s.time with running := false } }

theorem fr_keepClosed {m : Nat} {s0 : State} (hm : Within 8946979 m) (h : Fr m s0 s) : Fr m s0 s.keepClosed :=
  fr_each (fr_stopOtherPort (wt hm) h) fun _ _ h => fr_modChan (wt hm) h

theorem SamePage.keepClosed (h : SamePage s t) : SamePage s t.keepClosed :=
  h.stopOtherPort.low (low_each (low_refl _) fun _ _ h => low_modChan h)

theorem keepAdvance_done (h : s.power.keepStep = 6) : s.keepAdvance = s := by
  show State.keepSteps 5 s = s
  unfold State.keepSteps
  simp [h]

/-- The parts that KEEP drains, and the page of its entries. -/
structure Drained (s t : State) : Prop where
  page : SamePage s t
  lofts : t.crib.lofts = CribState.reset.lofts
  channels : t.winnow.channels = WinnowState.reset.channels
  frames : t.sheaf.rx = []
  dumps : t.xarray.dumps = []
  running : t.time.running = (s.time.running && s.flag 0x2000 7)
  lost : s.flag 0x2000 6 = false → t.xarray.bins = [] ∧ t.xarray.weights = []
  kept : s.flag 0x2000 6 = true → t.xarray.bins = s.xarray.bins ∧ t.xarray.weights = s.xarray.weights

theorem keepLoss_page : SamePage s s.keepLoss := (samePage_refl s).low (low_keepLoss (low_refl s))

theorem drained_keepLoss (s : State) : let t := s.keepLoss
    t.crib.lofts = CribState.reset.lofts ∧ t.winnow.channels = WinnowState.reset.channels ∧ t.sheaf.rx = [] ∧ t.xarray.dumps = [] ∧
    (s.flag 0x2000 6 = false → t.xarray.bins = [] ∧ t.xarray.weights = []) ∧
    (s.flag 0x2000 6 = true → t.xarray.bins = s.xarray.bins ∧ t.xarray.weights = s.xarray.weights) := by
  unfold State.keepLoss
  cases h : s.flag 0x2000 6
  · exact ⟨rfl, rfl, rfl, rfl, fun _ => ⟨rfl, rfl⟩, fun e => absurd e (by simp)⟩
  · exact ⟨rfl, rfl, rfl, rfl, fun e => absurd e (by simp), fun _ => ⟨rfl, rfl⟩⟩

theorem keepDrained_drains (s : State) : Drained s s.keepDrained := by
  obtain ⟨hlofts, hchannels, hrx, hdumps, hlost, hkept⟩ := drained_keepLoss s.flushEngine
  have hflushed : SamePage s s.flushEngine := (samePage_refl s).low (low_flushEngine (by omega) (low_refl s))
  have hf : Fr 558363 s s.flushEngine := fr_flushEngine (by decide) (fr_refl s)
  have hbins : s.flushEngine.xarray = s.xarray := hf.same .xarray (by decide)
  have hpage : SamePage s s.flushEngine.keepLoss.keepClosed := (hflushed.trans keepLoss_page).keepClosed
  have hr : Fr (2 ^ 24 - 1 - 2 ^ Part.bit .time) s s.flushEngine.keepLoss.keepClosed :=
    fr_keepClosed (by decide) (fr_keepLoss (by decide) (fr_weaken (by decide) hf))
  have hs : Fr 8946979 s.flushEngine.keepLoss s.flushEngine.keepLoss.keepClosed := fr_keepClosed (by decide) (fr_refl _)
  unfold State.keepDrained
  dsimp only
  generalize s.flushEngine.keepLoss = u at *
  generalize u.keepClosed = v at *
  have hflag (b : Nat) (hb : b < 256) (w : State) (hw : SamePage s w) : w.flag 0x2000 b = s.flag 0x2000 b := by
    unfold State.flag; rw [hw b hb]
  have hc : v.crib = u.crib := hs.same .crib (by decide)
  have hw : v.winnow = u.winnow := hs.same .winnow (by decide)
  have hsh : v.sheaf = u.sheaf := hs.same .sheaf (by decide)
  have hx : v.xarray = u.xarray := hs.same .xarray (by decide)
  have ht : v.time = s.time := hr.same .time (by decide)
  rw [hflag 6 (by omega) _ hflushed, ← hx] at hlost hkept
  rw [← hc] at hlofts
  rw [← hw] at hchannels
  rw [← hsh] at hrx
  rw [← hx] at hdumps
  rw [hbins] at hkept
  rw [hflag 7 (by omega) v hpage]
  cases h7 : s.flag 0x2000 7
  · exact ⟨hpage, hlofts, hchannels, hrx, hdumps, by rw [h7, Bool.and_false]; rfl, hlost, hkept⟩
  · exact ⟨hpage, hlofts, hchannels, hrx, hdumps, by rw [h7, Bool.and_true]; exact congrArg TimeState.running ht, hlost, hkept⟩

/-- The counters that the end of an entry into KEEP shows, and the state it ends in. -/
def State.keepEntered (s : State) (n : Nat) : State :=
  let s := ((s.inc32 0x2000 0x0C 1).setReg 0x2000 0x0F (min n 0xFFFFFFFF)).modPower (fun p => { p with keepStep := 0 })
  if s.flag 0x2000 0x0A then (s.setReg 0x2000 0x0A 0).setPw pwKeepExit else s.setPw pwKeep

theorem exec_keepEntryComplete_done {n : Nat} (hpw : s.pwState = pwKeepEntry) (h : s.power.keepStep = 6) :
    exec (.keepEntryComplete n) s = .next (s.keepDrained.keepEntered n) := by
  show execKeepEntryComplete n s = _
  unfold execKeepEntryComplete
  rw [keepAdvance_done h]
  exact congrArg Host.Outcome.next (if_pos (by rw [hpw, h]; rfl))

theorem keepEntered_page (s : State) (n : Nat) : let t := s.keepEntered n
    t.pwState = (if s.flag 0x2000 0x0A then pwKeepExit else pwKeep) ∧ t.reg 0x2000 0x0A = 0 ∧ t.reg 0x2000 0x0C = satAdd32 (s.reg 0x2000 0x0C) 1 ∧
    t.reg 0x2000 0x0F = min n 0xFFFFFFFF ∧ t.power.keepStep = 0 := by
  obtain ⟨v, hv⟩ : ∃ v, v = ((s.inc32 0x2000 0x0C 1).setReg 0x2000 0x0F (min n 0xFFFFFFFF)).modPower (fun p => { p with keepStep := 0 }) := ⟨_, rfl⟩
  have he : s.keepEntered n = if v.flag 0x2000 0x0A then (v.setReg 0x2000 0x0A 0).setPw pwKeepExit else v.setPw pwKeep := by rw [hv]; rfl
  have hreg (b : Nat) (hb : b < 256) (h : b ≠ 0x0C) (h' : b ≠ 0x0F) : v.reg 0x2000 b = s.reg 0x2000 b := by
    rw [hv]
    exact (reg_setReg_other _ _ (by omega) hb (.inr h')).trans (reg_setReg_other _ _ (by omega) hb (.inr h))
  have hcount : v.reg 0x2000 0x0C = satAdd32 (s.reg 0x2000 0x0C) 1 := by
    rw [hv]
    exact (reg_setReg_other _ _ (by omega) (by omega) (.inr (by omega))).trans (reg_setReg_same ..)
  have htime : v.reg 0x2000 0x0F = min n 0xFFFFFFFF := by
    rw [hv]
    exact reg_setReg_same ..
  have hstep : v.power.keepStep = 0 := by rw [hv]; rfl
  have hflag : v.flag 0x2000 0x0A = s.flag 0x2000 0x0A := by unfold State.flag; rw [hreg 0x0A (by omega) (by omega) (by omega)]
  have hpw (w : State) (x b : Nat) (hb : b < 256) (h : b ≠ 1) : (w.setPw x).reg 0x2000 b = w.reg 0x2000 b :=
    reg_setReg_other _ _ (by omega) hb (.inr h)
  rw [he, hflag]
  cases hf : s.flag 0x2000 0x0A
  · have h0 : v.reg 0x2000 0x0A = 0 := by
      rw [hreg 0x0A (by omega) (by omega) (by omega)]
      exact Decidable.not_not.mp (of_decide_eq_false hf)
    exact ⟨reg_setReg_same .., (hpw _ _ _ (by omega) (by omega)).trans h0, (hpw _ _ _ (by omega) (by omega)).trans hcount,
      (hpw _ _ _ (by omega) (by omega)).trans htime, hstep⟩
  · have hc (b : Nat) (hb : b < 256) (h : b ≠ 0x0A) : (v.setReg 0x2000 0x0A 0).reg 0x2000 b = v.reg 0x2000 b := reg_setReg_other _ _ (by omega) hb (.inr h)
    exact ⟨reg_setReg_same .., (hpw _ _ _ (by omega) (by omega)).trans (reg_setReg_same ..),
      ((hpw _ _ _ (by omega) (by omega)).trans (hc _ (by omega) (by omega))).trans hcount,
      ((hpw _ _ _ (by omega) (by omega)).trans (hc _ (by omega) (by omega))).trans htime, hstep⟩

theorem keepEntered_parts (s : State) (n : Nat) : let t := s.keepEntered n
    t.crib = s.crib ∧ t.winnow = s.winnow ∧ t.sheaf = s.sheaf ∧ t.xarray = s.xarray ∧ t.time = s.time := by
  unfold State.keepEntered
  dsimp only
  split <;> exact ⟨rfl, rfl, rfl, rfl, rfl⟩

theorem completes_keepEntryComplete {n : Nat} (hpw : s.pwState = pwKeepEntry) (h : s.power.keepStep = 6) :
    Completes (.keepEntryComplete n) s (fun t =>
      t.pwState = (if s.flag 0x2000 0x0A then pwKeepExit else pwKeep) ∧ t.reg 0x2000 0x0A = 0 ∧ t.reg 0x2000 0x0C = satAdd32 (s.reg 0x2000 0x0C) 1 ∧
      t.reg 0x2000 0x0F = min n 0xFFFFFFFF ∧ t.power.keepStep = 0 ∧ t.crib.lofts = CribState.reset.lofts ∧ t.winnow.channels = WinnowState.reset.channels ∧
      t.sheaf.rx = [] ∧ t.xarray.dumps = [] ∧ t.time.running = (s.time.running && s.flag 0x2000 7) ∧
      (s.flag 0x2000 6 = false → t.xarray.bins = [] ∧ t.xarray.weights = []) ∧
      (s.flag 0x2000 6 = true → t.xarray.bins = s.xarray.bins ∧ t.xarray.weights = s.xarray.weights)) := by
  refine completes_of (exec_keepEntryComplete_done hpw h) ?_
  have hd := keepDrained_drains s
  generalize s.keepDrained = v at hd ⊢
  obtain ⟨hstate, hpending, hcount, htime, hstep⟩ := keepEntered_page v n
  obtain ⟨hcrib, hwinnow, hsheaf, hxarray, hclock⟩ := keepEntered_parts v n
  have hflag : v.flag 0x2000 0x0A = s.flag 0x2000 0x0A := by unfold State.flag; rw [hd.page 0x0A (by omega)]
  rw [hflag] at hstate
  rw [hd.page 0x0C (by omega)] at hcount
  generalize v.keepEntered n = t at *
  rw [hcrib, hwinnow, hsheaf, hxarray, hclock]
  exact ⟨hstate, hpending, hcount, htime, hstep, hd.lofts, hd.channels, hd.frames, hd.dumps, hd.running, hd.lost, hd.kept⟩

/-! ### The exit -/

theorem restartRef_running (s : State) : s.restartRef.time.running = true := by
  unfold State.restartRef
  split
  · assumption
  · exact ((sameClock_refl _).enterRef.reselect).running

theorem completes_keepExitComplete {n : Nat} (hpw : s.pwState = pwKeepExit) :
    Completes (.keepExitComplete n) s (fun t => t.pwState = pwRun ∧ t.reg 0x2000 0x10 = min n 0xFFFFFFFF ∧ t.time.running = true) := by
  obtain ⟨v, he, hrun, hshown, hclock⟩ : ∃ v : State, exec (.keepExitComplete n) s = .next (v.wakeUnits.foldl (fun s d => s.followEnable d.1 d.2) v) ∧
      v.pwState = pwRun ∧ v.reg 0x2000 0x10 = min n 0xFFFFFFFF ∧ v.time.running = true := by
    refine ⟨(((if s.flag 0x2000 6 then s else s.reloadWeights).restartRef.setPw pwRun).setReg 0x2000 0x10 (min n 0xFFFFFFFF)), ?_, ?_, reg_setReg_same .., ?_⟩
    · show execKeepExitComplete n s = _
      unfold execKeepExitComplete
      rw [if_pos hpw]
    · exact (reg_setReg_other _ _ (by omega) (by omega) (.inr (by omega))).trans (reg_setReg_same ..)
    · exact restartRef_running _
  have hpage : SamePage v (v.wakeUnits.foldl (fun s d => s.followEnable d.1 d.2) v) :=
    (samePage_refl v).foldl fun w d hd hw => hw.followEnable (wakeUnits_off hd)
  have hsame : SameClock v (v.wakeUnits.foldl (fun s d => s.followEnable d.1 d.2) v) := (sameClock_refl v).foldl fun _ _ hw => hw.followEnable
  refine completes_of he ?_
  generalize List.foldl (fun (s : State) (d : UnitKind × Nat) => s.followEnable d.1 d.2) v v.wakeUnits = t at hpage hsame ⊢
  exact ⟨(hpage 1 (by omega)).trans hrun, (hpage 0x10 (by omega)).trans hshown, hsame.running.trans hclock⟩

/-- Settles O58: what stops or starts a unit leaves the power state, the step of the entry and its start. -/
theorem keepIsEnteredAndLeft : Obligations.KeepIsEnteredAndLeft := by
  intro s
  refine ⟨fun sess hl => ⟨completes_keep hl, completes_keep_again hl, completes_keep_refused hl⟩, completes_keepTimeout, exec_keepTimeout_late,
    fun _ => exec_keepEntryComplete_other, fun _ => completes_keepEntryComplete, fun _ => completes_wake, fun n h => ?_, fun _ => completes_keepExitComplete⟩
  exact congrArg Host.Outcome.next (if_neg h)

end Sys2Proof.Machine
end

section
/-! An index of the fabric fault log that lies past its ring, and the disable of a DMA channel (chapters 12 and 17, R382, R575). -/

set_option Elab.async false

namespace Sys2Proof.Machine

/-- Session 1 is open for an Integrator. DMA channel 0 is ON and ACTIVE without a mover; its descriptor asks for a status write-back, which no
window translates (R375), and the index of the fault log is at 81,408. -/
def openedChannel : State :=
  (((((logAt 81408).setReg 0x1030 1 1).setReg 0x1030 2 2).setReg 0x5D40 2 stOn).setReg 0x5D40 3 dmActive).modDma 0
    (fun x => { x with desc := some [0, 0, 0, 0, 2 ^ 56, 0, 0, 0] })

theorem openedChannel_lets : openedChannel.lets 1 0x5D40 1 := by
  refine ⟨by decide +kernel, ?_⟩
  have hok : (openedChannel.writeGate 1 0x5D40 1).isOk = true := by decide +kernel
  cases hg : openedChannel.writeGate 1 0x5D40 1 with
  | ok r => exact ⟨r, rfl⟩
  | error e => rw [hg] at hok; cases hok

/-- Refutes O12, in the clause of DISABLE_WRITE: with the index of the fault log at 81,408, the record of the failed write-back is stored where 5D40h.02
shows the status DISABLING. -/
theorem not_unitsAreEnabledAndDisabled : ¬ Obligations.UnitsAreEnabledAndDisabled := by
  intro h
  obtain ⟨-, hdisable, -⟩ := h
  refine not_completes_of_runs (fun t => decide (t.status 0x5D40 = stDisabling)) ?_ (by decide +kernel)
    (hdisable openedChannel 1 0x5D40 .dmaChannel openedChannel_lets rfl (by decide +kernel) (by decide +kernel) (.inr (.inl (by decide +kernel))))
  rintro t ⟨hstatus, -⟩
  exact decide_eq_true hstatus

end Sys2Proof.Machine
end
